-- ==== Sys2Proof/Word.lean ====
section
/-!
DEFINITION. The word types of the PL6416 / PL3216 model: a register is one 32-bit DWORD (00_scope.md,
"Register width and order"), a byte is 8 bits.
-/

namespace Sys2Proof

/-- One 32-bit register, loop-engine data word or port value. -/
abbrev Word := BitVec 32

/-- One byte of DRAM, of a frame or of an image. -/
abbrev Byte := BitVec 8

end Sys2Proof
end

