-- ==== Sys2Proof/Types.lean ====
section
/-!
DEFINITION. The names and the records that the commands' operands and the state are made of.
-/

namespace Sys2Proof

/-- The part (00_scope.md R1, R2). -/
inductive Part where
  | pl6416
  | pl3216
  deriving DecidableEq, Repr

/-- A master of the register fabric (00_scope.md R5), in the order of R6. -/
inductive Master where
  | cc (c : Fin 4)
  | host
  | tunnel
  | jtag
  deriving DecidableEq, Repr

/-- The MASTER code of GLB_DECERR (20_register_map.md R492). -/
def Master.code : Master → Nat
  | .cc c => c.val
  | .host => 4
  | .tunnel => 5
  | .jtag => 6

/-- The master's index in the per-master copies (20_register_map.md R488). -/
def Master.idx (m : Master) : Fin 7 := Fin.ofNat 7 m.code

/-- The memory an LE parity error fell in (LE_ERR_ADDR.MEM, 06_loop_engine.md R177). -/
inductive LeMem where
  | pmem
  | dmem
  | cmem
  | pram
  deriving DecidableEq, Repr

/-- A branch condition (06_loop_engine.md, the table under R160). -/
inductive Cond where
  | always
  | zero
  | nonZero
  | neg
  | notNeg
  | pos
  | notPos
  deriving DecidableEq, Repr

/-- One servo sample: surface, input number k (A, B, C, D, E, F, PP, SUM, TLTS) and the raw 14-bit code
(02_the_tick.md R32). -/
structure Sample where
  surf : Fin 4
  input : Fin 9
  code : BitVec 14
  deriving DecidableEq, Repr

/-- The end of one wobble address unit: the address word where its CRC held (07_servo_programs.md R193). -/
structure AddrUnit where
  surf : Fin 4
  word : Option (BitVec 28)
  /-- SYNC, POLDET and LOCK of SFs_WBL_STAT at its end (R204). -/
  wbl : BitVec 3
  deriving DecidableEq, Repr

/-- What the block observes at the opening of a tick: servo samples, the other input ports of R162 that
changed (port number and value), the address units that ended, the raw switch levels, the supplies in
10 mV (R467), the DRAM words and symbols where an error arose since the last tick, and the calibration engines
that arbitration (R469) left waiting in this tick. -/
structure TickEnv where
  samples : List Sample
  ports : List (Nat × Word)
  units : List AddrUnit
  home : List (Fin 4 × Bool)
  door : Bool
  clamp : Bool
  vin : BitVec 16
  vhold : BitVec 16
  strikes : List (Nat × Nat)
  deferred : BitVec 7
  deriving DecidableEq, Repr

/-- The content kind of a cell (03_media_format.md R64, CTYPE). -/
inductive CellKind where
  | data
  | parity
  | fill
  | ledger
  deriving DecidableEq, Repr

/-- What a cell carries, as its header names it (R64), and whether its data must reach optical durability
(04_write_path.md R110). -/
structure Cell where
  kind : CellKind
  clip : Nat
  frame : Nat
  offset : Nat
  waiter : Bool
  deriving DecidableEq, Repr

/-- What a pass writes (R82, R110, R324, R472). -/
inductive PassKind where
  | user
  | reloc
  | ledger
  | test
  deriving DecidableEq, Repr

/-- Heron's findings on one cell (04_write_path.md R107). -/
structure Verdict where
  /-- Distance of the sync mark from its place, and its Hamming distance; none when not found. -/
  sync : Option (Nat × Nat)
  /-- Iterations to convergence; none when the decode did not converge. -/
  iters : Option Nat
  corrected : Nat
  /-- Longest erasure span, in channel bits. -/
  erased : Nat
  /-- CRC-32 of the decoded codeword. -/
  crc : BitVec 32
  deriving DecidableEq, Repr

/-- What a beam channel finds in one cell (05_read_channel.md R124 to R138): the cell's place (stripe by
number; WSEQ in verify mode), sync candidates and resync candidates as (offset from the expected place,
Hamming distance), defect spans in channel bits, the start of a lost-lock interval, limits met, the loop
values at its end, the equaliser's error figure and the eye width. -/
structure CellObs where
  band : Nat
  swath : Nat
  stripe : Nat
  wseq : Nat
  cands : List (Int × Nat)
  marks : List (List (Int × Nat))
  spans : List (Nat × Nat)
  lostAt : Option Nat
  loopLimit : Bool
  tapLimit : Bool
  vga : Nat
  asym : Nat
  ofs : Nat
  freq : Nat
  phase : Nat
  taps : List Nat
  mse : Nat
  eye : Nat
  deriving DecidableEq, Repr

/-- How an LDPC decode ended (R140, R146): iterations when it converged, corrected bits, the 32 header bytes. -/
structure DecodeRes where
  iters : Option Nat
  corrected : Nat
  header : List Byte
  deriving DecidableEq, Repr

/-- What the outer-code engine finds in a stripe (R147): every column agrees, with at most one further bad
cell located; or the columns disagree, and these cells are then failed. -/
inductive OuterRes where
  | agrees (located : Option (Fin 16))
  | disagrees (beams : List (Fin 16))
  deriving DecidableEq, Repr

/-- A side's media descriptor (03_media_format.md R79): maker, serial, side, layer depths in 0.1 µm, initial
write power per layer for zones 0 and 23 in 0.1 mW, write-strategy class per layer. -/
structure Descriptor where
  maker : Nat
  serial : Nat
  side : Nat
  depth : List Nat
  wpInit : List (Nat × Nat)
  wsClass : List Nat
  deriving DecidableEq, Repr

/-- A downstream Sedge frame (04_write_path.md R96 to R101). -/
inductive SedgeFrame where
  /-- One of the seven chunks of a cell: pass, beam, slot, swath, write-strategy class, chunk, channel bits. -/
  | stream (pass beam slot swath cls chunk : Nat) (bits : List Byte)
  /-- TIMEBASE: tick, pass, swath, CB_AT, CB_FRAC, CB_INC, BGATE, WGATE, reference in this tick. -/
  | timebase (tick pass swath cbAt cbFrac cbInc bgate : Nat) (wgate ref : Bool)
  /-- POWER: mode and (PEAK, BIAS, READ) of beams 0 to 15. -/
  | power (mode : Nat) (beams : List (Nat × Nat × Nat))
  /-- WST_LOAD: table and its 28 entries. -/
  | wstLoad (table : Nat) (entries : List Word)
  /-- SPOT: verify spot selected on every beam, or the read spot. -/
  | spot (verify : Bool)
  | purge (pass : Nat)
  | mgmt (write : Bool) (addr : Nat) (data : Word)
  | echo (token : Nat)
  deriving DecidableEq, Repr

/-- A Melar frame (16_mirror_pair.md R410): TYPE, FLAGS, LSEQ, ARG and the payload bytes. -/
structure MelarFrame where
  type : Nat
  flags : Nat
  lseq : Nat
  arg : Nat
  payload : List Byte
  deriving DecidableEq, Repr

/-- A requester of DRAM, by the code of DR_UE_INFO.REQ (14_buffer_cache_and_dma.md R372, R392). -/
inductive Requester where
  | cc (c : Fin 4)
  | hq
  | aperture
  | sl
  | pt
  | wp
  | rc
  | cx
  deriving DecidableEq, Repr

/-- The code of DR_UE_INFO.REQ. -/
def Requester.code : Requester → Nat
  | .cc c => c.val
  | .hq => 4
  | .aperture => 5
  | .sl => 6
  | .pt => 7
  | .wp => 8
  | .rc => 9
  | .cx => 10

/-- A parity error that an MC access meets (R381): on the tag of a way of the set, or on the sector read. -/
inductive McStrike where
  | clean
  | tag (way : Fin 16)
  | sector
  deriving DecidableEq, Repr

/-- Whose traffic a data unit is that passes CX (15_cipher.md R398): a command's ingest or read-back, by tag,
or none of them. -/
inductive CxUse where
  | ingest (tag : Nat)
  | readBack (tag : Nat)
  | other
  deriving DecidableEq, Repr

/-- The alarms of R405, by their INFO. -/
inductive KeyAlarm where
  | tamper
  | voltage
  | clock
  | temperature
  deriving DecidableEq, Repr

def KeyAlarm.code : KeyAlarm → Nat
  | .tamper => 0
  | .voltage => 1
  | .clock => 2
  | .temperature => 3

/-- What a peer tells of itself in HELLO (16_mirror_pair.md R410): EPOCH, ROLE (true: partner), pair state, the
MAGID of its volume and the MAGID it records as mirror. -/
structure PeerHello where
  epoch : Nat
  partner : Bool
  pstate : Nat
  magid : List Byte
  mirror : List Byte
  deriving DecidableEq, Repr

/-- What the peer answers to PAIR (R413): ACCEPT, its VSTATE, the check values of its occupied slots. -/
structure PeerPair where
  accept : Bool
  vstate : Nat
  checks : List (List Byte)
  deriving DecidableEq, Repr

/-- Why a controller reset happens (10_host_queues.md R252). -/
inductive CtlReset where
  | perst
  | flr
  | enCleared
  deriving DecidableEq, Repr

/-- A host-memory access that failed (R272): a command's data at an address, an SQ fetch, a completion write. -/
inductive HostFail where
  | data (tag addr : Nat)
  | fetch (pair addr : Nat)
  | completion
  deriving DecidableEq, Repr

/-- A segment descriptor of DMODE 2 (11_command_set.md R280): address, length, bytes 12 to 15. -/
structure Segment where
  addr : Nat
  len : Nat
  zero : Nat
  deriving DecidableEq, Repr

/-- What reading the cell at a place of the medium gives (05_read_channel.md R148, R149): its stored payload, or none
where it stays failed. -/
structure MediaCell where
  band : Nat
  swath : Nat
  stripe : Nat
  beam : Nat
  /-- ORIGIN of its header where it is a relocated copy (R64): swath, beam, slot. -/
  origin : Option (Nat × Nat × Nat)
  data : Option (List Byte)
  deriving DecidableEq, Repr

/-- A catalogue record found in a ledger log, of which a copy decodes with a correct RCRC and the volume's MAGID
(12_clip_store_and_placement.md R325); and whether its tag verifies. -/
structure RecFound where
  rseq : Nat
  rtype : Nat
  ts : Nat
  entries : List (List Byte)
  tagOk : Bool
  deriving DecidableEq, Repr

/-- What a load finds of the medium of one surface: the band, swath and stripe at which it resumes
(12_clip_store_and_placement.md R333); the WSEQ of its last stripe (03_media_format.md R66); the relocation pointer of
every band that holds relocation stripes (R60, R321), as (band, swath, stripe); the test units used in swath 368, by
band, and those used in the surface test area (R77, R78). -/
structure SurfMedium where
  band : Nat
  swath : Nat
  stripe : Nat
  wseq : Nat
  reloc : List (Nat × Nat × Nat)
  tests : List (Nat × Nat)
  area : Nat
  deriving DecidableEq, Repr

/-- What MAGAZINE LOAD finds at its steps (11_command_set.md R295). -/
inductive LoadFound where
  /-- Nothing that the block does not observe itself. -/
  | nothing
  /-- The ID memory answers: magazine ID, conforming media, discs; or does not. -/
  | idMem (magid : List Byte) (conforms : Bool) (discs : Nat)
  | noIdMem
  /-- The clamp switch closed within the window of R244. -/
  | clamp (inWindow : Bool)
  /-- Per surface its descriptor, where valid (R80); whether log swath 3 is written on any surface; the records;
  per surface the next log swath; per surface what its medium holds. -/
  | ledger (descs : List (Nat × Option Descriptor)) (written : Bool) (recs : List RecFound)
      (logs : List (Nat × Nat)) (media : List (Nat × SurfMedium))
  deriving DecidableEq, Repr

/-- A cell that the tail scan reads (R326): its header's key, KEYGEN, VLEN, its place and WSEQ. -/
structure ScanCell where
  ns : Nat
  clip : Nat
  frame : Nat
  off : Nat
  gen : Nat
  vlen : Nat
  band : Nat
  swath : Nat
  stripe : Nat
  beam : Nat
  wseq : Nat
  deriving DecidableEq, Repr

/-- An 8 KiB unit that a Peat page carries, by its logical key (18_power_reset_and_standby.md R453). -/
structure UnitKey where
  mag : List Byte
  ns : Nat
  clip : Nat
  frame : Nat
  off : Nat
  deriving DecidableEq, Repr

/-- How a flash operation ends (13_peat_staging.md R347, R354): success of a program or erase; the read-retry
level at which every codeword decoded, none when all fail; the error count; the planes that failed; the
execution time in µs; and the units whose map entry firmware keeps for a programmed page. -/
structure FlashRes where
  ok : Bool
  level : Option Nat
  errcnt : Nat
  failed : List Nat
  micros : Nat
  units : List UnitKey
  deriving DecidableEq, Repr

/-- A Peat descriptor as a master writes it (R350). -/
structure PtFields where
  irq : Bool
  bg : Bool
  tag : BitVec 16
  die : Fin 32
  block : BitVec 12
  page : BitVec 10
  deriving DecidableEq, Repr

/-- How an I²C transfer ends: its read bytes, no acknowledge, or the clock held low for more than 10 ms. -/
inductive I2cEnd where
  | done (data : Word)
  | nack
  | stretch
  deriving DecidableEq, Repr

/-- Something the block has emitted (the model's own record of its outputs). -/
inductive OutMsg where
  /-- MSI-X message of a vector, with its table address and data (R433). -/
  | msix (vector : Nat) (addrLo addrHi data : Word)
  | sedge (surf : Nat) (f : SedgeFrame)
  | melar (f : MelarFrame)
  /-- A completion entry: pair, slot, its four DWORDs and the phase within them (R258, R281). -/
  | completion (pair slot : Nat) (dws : List Word)
  /-- Data returned to the host for a command tag: the bytes, little-endian. -/
  | hostData (tag : Nat) (bytes : List Byte)
  /-- What a DRAM or MC access answers to its requester, and whether it is poisoned (R370, R372, R378). -/
  | memData (req : Requester) (bytes : List Byte) (poison : Bool)
  /-- What a cipher page releases: the bytes of a data unit or record, and the tag of a sealed record (R397). -/
  | cipher (page : Nat) (bytes tag : List Byte)
  /-- Bytes written to host memory (R258, R387). -/
  | hostWrite (addr : Nat) (bytes : List Byte)
  /-- I2C transfer started (R493). -/
  | i2c (addr sub nbyte : Nat) (rd subEn fast : Bool) (data : Word)
  /-- Pickup ID memory access over the serial port (R104). -/
  | idMem (surf addr : Nat) (write : Bool) (data : Word)
  /-- PEER_ALIVE output edge (R409). -/
  | peerAlive (level : Bool)
  /-- Pads or rails: named pin and level. -/
  | pin (name : String) (level : Bool)
  deriving DecidableEq, Repr

end Sys2Proof
end

