-- ==== Sys2Proof/Syntax.lean ====
section
/-!
DEFINITION. The commands of the module: one constructor per row of spec/opcode_table.json, in the table's order,
with the operands that its step needs. What an operand is stands beside the command's meaning, execName, in
Sys2Proof/Machine. Operands are what comes from outside the block: the requester's values, and what the block
observes at the event.
-/

namespace Sys2Proof

/-- A command. -/
inductive Instr where
  -- the tick
  /-- TICK_PREAMBLE (R31). -/
  | tickPreamble (e : TickEnv)
  /-- TICK_CLOSE (R31). -/
  | tickClose
  /-- SLOT_CUT (R39). -/
  | slotCut
  /-- TICK_OVERRUN (R44). -/
  | tickOverrun
  /-- THIRD_MISS (R41). -/
  | thirdMiss (k : Fin 48)
  /-- MICROCODE_PARITY_ERROR (R177). -/
  | microcodeParityError (mem : LeMem) (addr : BitVec 14) (used : BitVec 11)
  -- loop instructions
  /-- NOP (R160). -/
  | opNop
  /-- END (R165). -/
  | opEnd
  /-- LD (R164). -/
  | opLd (d : Fin 32) (n : Fin 8) (absolute : Bool) (addr : BitVec 13)
  /-- ST (R164). -/
  | opSt (a : Fin 32) (n : Fin 8) (absolute : Bool) (addr : BitVec 13)
  /-- IN (R162). -/
  | opIn (d : Fin 32) (port : BitVec 10)
  /-- OUT (R160). -/
  | opOut (a : Fin 32) (port : BitVec 10)
  /-- LDI (R160). -/
  | opLdi (d : Fin 32) (hi : Bool) (imm : BitVec 16)
  /-- MOV (R160). -/
  | opMov (d a : Fin 32)
  /-- ADD (R160). -/
  | opAdd (d a b' : Fin 32)
  /-- SUB (R160). -/
  | opSub (d a b' : Fin 32)
  /-- MULX (R160). -/
  | opMulx (d a b' : Fin 32)
  /-- SHL (R160). -/
  | opShl (d a n : Fin 32)
  /-- SHR (R160). -/
  | opShr (d a n : Fin 32)
  /-- MIN (R160). -/
  | opMin (d a b' : Fin 32)
  /-- MAX (R160). -/
  | opMax (d a b' : Fin 32)
  /-- CLMP (R160). -/
  | opClmp (d a b' : Fin 32)
  /-- ABS (R160). -/
  | opAbs (d a : Fin 32)
  /-- MVM (R158). -/
  | opMvm (d a : Fin 32) (rows cols : Fin 16) (acc : Bool)
  /-- SETCP (R160). -/
  | opSetcp (off : BitVec 12)
  /-- BR (R160). -/
  | opBr (c : Cond) (a : Fin 32) (skip : BitVec 8)
  /-- SINCOS (R160). -/
  | opSincos (d a : Fin 32)
  /-- ROT (R160). -/
  | opRot (d a b' : Fin 32)
  /-- ATAN2 (R160). -/
  | opAtan2 (d a b' : Fin 32)
  /-- DIV (R160). -/
  | opDiv (d a b' : Fin 32)
  /-- SQRT (R160). -/
  | opSqrt (d a : Fin 32)
  /-- PGEN (R171). -/
  | opPgen (a : Fin 9)
  /-- STS (R160). -/
  | opSts (a : Fin 32) (clear : Bool) (word : Fin 16)
  /-- EVT (R160). -/
  | opEvt (code : BitVec 8)
  /-- AND (R160). -/
  | opAnd (d a b' : Fin 32)
  /-- OR (R160). -/
  | opOr (d a b' : Fin 32)
  /-- XOR (R160). -/
  | opXor (d a b' : Fin 32)
  /-- LDS (R160). -/
  | opLds (d : Fin 32) (word : Fin 16)
  -- loop-engine loads and writes
  /-- LOAD_SHADOW_TABLE (R174). -/
  | loadShadowTable
  /-- LOAD_DEFAULT_TABLE (R38). -/
  | loadDefaultTable
  /-- LOAD_PROGRAM (R173). -/
  | loadProgram (index : Fin 256)
  /-- LOAD_PATCH (R178). -/
  | loadPatch
  /-- LOAD_COMPLETE (R172). -/
  | loadComplete
  /-- PATCH_ACTIVATION (R179). -/
  | patchActivation
  /-- LIVE_SLOT_WRITE (R175). -/
  | liveSlotWrite (k : Fin 48) (second : Bool) (v : Word)
  /-- LE_MEMORY_WRITE (R167). -/
  | leMemoryWrite (o : BitVec 22) (v : Word)
  /-- COEF_SWAP (R156). -/
  | coefSwap
  /-- COEF_SET (R156). -/
  | coefSet (set : BitVec 6)
  /-- MATCH_DISABLE (R179). -/
  | matchDisable (k : Fin 16)
  -- registers and timestamps
  /-- READ_CLEAR_FIELD (R517). -/
  | readClearField (m : Master) (o : BitVec 20)
  /-- REGISTER_WRITE (R4). -/
  | registerWrite (m : Master) (o : BitVec 20) (v lost : Word)
  /-- PARTIAL_WRITE (R485). -/
  | partialWrite (m : Master) (o : BitVec 20)
  /-- UNMAPPED_ACCESS (R486). -/
  | unmappedAccess (m : Master) (o : BitVec 20) (write : Bool)
  /-- TICK_SNAPSHOT_READ (R47). -/
  | tickSnapshotRead (m : Master) (cyc : BitVec 11)
  /-- TIMEOUT_EXPIRY (R30). -/
  | timeoutExpiry (watchdog : Bool)
  /-- FSYNC_EDGE (R48). -/
  | fsyncEdge (falling : Bool) (cyc : BitVec 11)
  /-- FSYNC_TS_READ (R49). -/
  | fsyncTsRead (m : Master)
  /-- FSYNC_ENABLE (R50). -/
  | fsyncEnable
  -- write path
  /-- PASS_PLAN (R83). -/
  | passPlan (s : Fin 4) (offered : List (List Cell))
  /-- ANGLE_REFERENCE (R82). -/
  | angleReference (s : Fin 4)
  /-- STOP_REQUEST (R86). -/
  | stopRequest (s : Fin 4)
  /-- VERIFY_JOB_DONE (R107). -/
  | verifyJobDone (s : Fin 4) (wseq : BitVec 32) (beam : Fin 16) (v : Verdict)
  /-- VERIFY_LATE (R143). -/
  | verifyLate (s : Fin 4) (wseq : BitVec 32) (beam : Fin 16)
  /-- RELOCATION_VISIT (R110). -/
  | relocationVisit (s : Fin 4) (band : BitVec 16)
  /-- RELOCATION_MAXWAIT (R110). -/
  | relocationMaxwait (s : Fin 4) (band : BitVec 16)
  /-- OPTICAL_DURABLE (R111). -/
  | opticalDurable (s : Fin 4) (wseq : BitVec 32)
  -- Sedge links
  /-- SE_LINK_ENABLE (R95). -/
  | seLinkEnable (s : Fin 4)
  /-- SE_RETRAIN (R95). -/
  | seRetrain (s : Fin 4)
  /-- SE_LINK_UP (R95). -/
  | seLinkUp (s : Fin 4) (latency : BitVec 16) (idMem : List Byte)
  /-- SE_BRINGUP_TIMEOUT (R95). -/
  | seBringupTimeout (s : Fin 4)
  /-- SE_LINK_DOWN (R105). -/
  | seLinkDown (s : Fin 4)
  /-- SE_RETRAIN_FAIL (R105). -/
  | seRetrainFail (s : Fin 4)
  /-- PU_FAULT (R105). -/
  | puFault (s : Fin 4)
  /-- MONITOR (R105). -/
  | monitor (s : Fin 4) (mon : Vector (BitVec 16) 16)
  /-- STATUS (R102). -/
  | status (s : Fin 4) (temp fault dsErr : BitVec 16)
  /-- MGMT_RSP (R102). -/
  | mgmtRsp (s : Fin 4) (data : BitVec 32)
  /-- ECHO_RSP (R102). -/
  | echoRsp (s : Fin 4) (token : BitVec 16)
  /-- NOTWRITTEN (R103). -/
  | notwritten (s : Fin 4) (pass : BitVec 16) (slot : BitVec 8) (beam : Fin 16)
  /-- MGMT_ACCESS (R104). -/
  | mgmtAccess (s : Fin 4) (addr : BitVec 16) (frame write : Bool) (data : BitVec 32)
  /-- SET_BEAM_POWER (R118). -/
  | setBeamPower (s : Fin 4) (beam : Fin 16) (read : Bool) (peak bias : BitVec 16)
  /-- LATCH_RELEASE (R519). -/
  | latchRelease (s : Fin 4)
  -- read channel
  /-- CELL_READ (R119). -/
  | cellRead (n : Fin 64) (o : CellObs)
  /-- BM_RESTART (R126). -/
  | bmRestart (n : Fin 64)
  /-- DECODE_JOB_DONE (R140). -/
  | decodeJobDone (e : Fin 20) (r : DecodeRes)
  /-- STRIPE_REBUILD (R147). -/
  | stripeRebuild (s : Fin 4) (band swath : BitVec 16) (stripe : BitVec 8) (out : OuterRes)
  /-- RE_READ_PASS (R148). -/
  | reReadPass (s : Fin 4)
  /-- ENGINE_PARITY_FAULT (R145). -/
  | engineParityFault (e : Fin 20)
  /-- ENGINE_RESTORE (R145). -/
  | engineRestore (e : Fin 20)
  /-- RC_SPLIT_WRITE (R142). -/
  | rcSplitWrite (vmin rmin retry : BitVec 5)
  -- focus and tracking
  /-- CMD_NONE (R184). -/
  | cmdNone (s : Fin 4) (reserved : Option (Fin 10)) (layer : Fin 8) (seq : BitVec 8)
  /-- CMD_OFF (R184). -/
  | cmdOff (s : Fin 4) (layer : Fin 8) (seq : BitVec 8)
  /-- CMD_FOCUS (R188). -/
  | cmdFocus (s : Fin 4) (layer : Fin 8) (seq : BitVec 8) (found : Option (BitVec 14 × BitVec 16))
  /-- CMD_LAYER (R198). -/
  | cmdLayer (s : Fin 4) (layer : Fin 8) (seq : BitVec 8)
  /-- CMD_SEEK (R199). -/
  | cmdSeek (s : Fin 4) (layer : Fin 8) (arg : BitVec 16) (seq : BitVec 8)
  /-- CMD_RELEASE (R190). -/
  | cmdRelease (s : Fin 4) (layer : Fin 8) (seq : BitVec 8)
  /-- FOCUS_DROP (R189). -/
  | focusDrop (s : Fin 4)
  /-- SEARCH_FAIL (R188). -/
  | searchFail (s : Fin 4)
  /-- OFF_TRACK (R192). -/
  | offTrack (s : Fin 4)
  /-- SWATH_HOLD_KICK (R194). -/
  | swathHoldKick (s : Fin 4)
  -- spindles
  /-- SPINDLE_RUN (R216). -/
  | spindleRun (n : Fin 2)
  /-- SPINDLE_STOP (R225). -/
  | spindleStop (n : Fin 2)
  /-- SET_SPEED (R220). -/
  | setSpeed (n : Fin 2) (rpm : BitVec 14)
  /-- COAST_SENSE_DONE (R216). -/
  | coastSenseDone (n : Fin 2) (rpm : BitVec 16) (crossings : BitVec 8) (angle : Word)
  /-- BBRAKE_END (R216). -/
  | bbrakeEnd (n : Fin 2)
  /-- ALIGN_END (R217). -/
  | alignEnd (n : Fin 2)
  /-- RAMP_END (R217). -/
  | rampEnd (n : Fin 2)
  /-- ATTEMPT_FAILED (R218). -/
  | attemptFailed (n : Fin 2)
  /-- RETRY_WAIT_END (R218). -/
  | retryWaitEnd (n : Fin 2)
  /-- CATCH_RESYNC (R216). -/
  | catchResync (n : Fin 2)
  /-- CATCH_TIMEOUT (R223). -/
  | catchTimeout (n : Fin 2)
  /-- ACCEL_GRANT (R219). -/
  | accelGrant (n : Fin 2)
  /-- SPEED_LOCK (R221). -/
  | speedLock (n : Fin 2)
  /-- LOCK_LOST (R221). -/
  | lockLost (n : Fin 2)
  /-- ROTOR_LOSS (R223). -/
  | rotorLoss (n : Fin 2)
  /-- BRAKE_EXIT (R216). -/
  | brakeExit (n : Fin 2)
  /-- BRAKE_TIMEOUT (R225). -/
  | brakeTimeout (n : Fin 2)
  /-- BRIDGE_OVERCURRENT (R226). -/
  | bridgeOvercurrent (n : Fin 2) (overTemp : Bool)
  /-- FAULT_CLEAR (R226). -/
  | faultClear (n : Fin 2) (bits : BitVec 4)
  /-- PWM_PERIOD (R206). -/
  | pwmPeriod (n : Fin 2) (code1 code2 : BitVec 12) (vbus rpm : BitVec 16)
  /-- VCLAMP_SET (R213). -/
  | vclampSet (n : Fin 2) (vbus : BitVec 16)
  -- axes, door and clamp
  /-- AXIS_TARGET (R232). -/
  | axisTarget (a : Fin 9) (v : BitVec 32)
  /-- AXIS_RELATIVE (R232). -/
  | axisRelative (a : Fin 9) (v : BitVec 32)
  /-- AXIS_DONE (R233). -/
  | axisDone (a : Fin 9)
  /-- AXIS_HALT (R235). -/
  | axisHalt (a : Fin 9)
  /-- AXIS_DISABLE (R247). -/
  | axisDisable (a : Fin 9)
  /-- HOMING_START (R241). -/
  | homingStart (a : Fin 9)
  /-- HOME_TRIP (R241). -/
  | homeTrip (a : Fin 9)
  /-- HOMING_DONE (R241). -/
  | homingDone (a : Fin 9)
  /-- HOMING_FAIL (R241). -/
  | homingFail (a : Fin 9)
  /-- AXIS_STALL (R239). -/
  | axisStall (a : Fin 9)
  /-- SWITCH_CHATTER (R240). -/
  | switchChatter (w : Fin 6)
  /-- LIMIT_TRIP (R242). -/
  | limitTrip (a : Fin 9)
  /-- COIL_FAULT (R236). -/
  | coilFault (a : Fin 9)
  /-- DOOR_OPEN (R246). -/
  | doorOpen
  /-- DOOR_CLOSED (R248). -/
  | doorClosed
  /-- CLAMP_CHANGE (R248). -/
  | clampChange (closed : Bool)
  -- host queues
  /-- CONTROLLER_RESET (R252). -/
  | controllerReset (cause : CtlReset)
  /-- CONTROLLER_ENABLE (R253). -/
  | controllerEnable (arbmode : Bool)
  /-- SQ_TAIL_DOORBELL (R255). -/
  | sqTailDoorbell (q : Fin 128) (v : Word)
  /-- CQ_HEAD_DOORBELL (R256). -/
  | cqHeadDoorbell (q : Fin 128) (v : Word)
  /-- COMMAND_FETCH (R257). -/
  | commandFetch (entries : List (Vector Word 16))
  /-- LOCK_GRANT (R263). -/
  | lockGrant (tag : Nat)
  /-- COMMAND_START (R261). -/
  | commandStart (tag : Nat) (segs : List Segment)
  /-- INGEST_RESERVE (R337). -/
  | ingestReserve (tag : Nat)
  /-- COMPLETION_POST (R258). -/
  | completionPost (tag : Nat)
  /-- HOST_DMA_FAILURE (R272). -/
  | hostDmaFailure (f : HostFail)
  /-- PCIE_LINK_CHANGE (R250). -/
  | pcieLinkChange (speed : Fin 6) (width : BitVec 6) (pm : BitVec 2)
  -- admin commands
  /-- IDENTIFY (R288). -/
  | identify (tag : Nat)
  /-- QUEUE_CREATE (R289). -/
  | queueCreate (tag : Nat)
  /-- QUEUE_DELETE (R275). -/
  | queueDelete (tag : Nat)
  /-- QUEUE_RESUME (R271). -/
  | queueResume (tag : Nat)
  /-- LOG_READ (R290). -/
  | logRead (tag : Nat)
  /-- FEATURE_SET (R292). -/
  | featureSet (tag : Nat) (peer : Bool)
  /-- FEATURE_GET (R292). -/
  | featureGet (tag : Nat)
  /-- MAGAZINE_LOAD (R295). -/
  | magazineLoad (tag : Nat) (found : LoadFound)
  /-- TAIL_SCAN (R326). -/
  | tailScan (cells : List ScanCell) (voids : List (Nat × Nat × Nat)) (ptrs : List (Fin 4 × Nat × Nat × Nat))
  /-- MAGAZINE_EJECT (R297). -/
  | magazineEject (tag : Nat)
  /-- EJECT_PROCEED (R329). -/
  | ejectProceed
  /-- FORMAT (R299). -/
  | format (tag : Nat) (label : List Byte)
  /-- KEY_INSTALL (R300). -/
  | keyInstall (tag : Nat) (blob : List Byte)
  /-- FIRMWARE_STAGE (R301). -/
  | firmwareStage (tag : Nat) (data : List Byte)
  /-- FIRMWARE_COMMIT (R302). -/
  | firmwareCommit (tag : Nat)
  /-- ABORT (R274). -/
  | abort (tag : Nat)
  /-- MIRROR_STATUS (R304). -/
  | mirrorStatus (tag : Nat)
  /-- PAIR (R413). -/
  | pair (tag : Nat) (peer : PeerPair)
  /-- UNPAIR (R413). -/
  | unpair (tag : Nat)
  /-- MIRROR_MODE (R416). -/
  | mirrorMode (tag : Nat)
  /-- REJOIN (R425). -/
  | rejoin (tag : Nat) (earlier : Bool)
  /-- TAKEOVER (R422). -/
  | takeover (tag : Nat)
  /-- ASYNC_EVENT (R305). -/
  | asyncEvent (tag : Nat)
  /-- ASYNC_EVENT_REPORT (R305). -/
  | asyncEventReport (t : Fin 17) (info : BitVec 8) (data : BitVec 16)
  /-- TELEMETRY_READ (R306). -/
  | telemetryRead (tag : Nat)
  /-- SELF_TEST (R307). -/
  | selfTest (tag : Nat) (found : Option (Bool × BitVec 8 × BitVec 8))
  /-- SELF_TEST_STOP (R307). -/
  | selfTestStop (tag : Nat)
  /-- STANDBY (R308). -/
  | standby (tag : Nat)
  -- clip and block commands
  /-- BLOCK_READ (R310). -/
  | blockRead (tag : Nat) (media : List MediaCell)
  /-- BLOCK_WRITE (R310). -/
  | blockWrite (tag : Nat) (data : List Byte) (media : List MediaCell)
  /-- FLUSH (R268). -/
  | flush (tag : Nat)
  /-- CLIP_OPEN (R312). -/
  | clipOpen (tag : Nat) (metadata : List Byte) (peer : Bool)
  /-- FRAME_APPEND (R313). -/
  | frameAppend (tag : Nat) (data : List Byte)
  /-- CLIP_CLOSE (R314). -/
  | clipClose (tag : Nat) (metadata : List Byte)
  /-- FRAME_READ (R315). -/
  | frameRead (tag : Nat) (media : List MediaCell)
  /-- CATALOGUE_READ (R316). -/
  | catalogueRead (tag : Nat)
  /-- CLIP_VERIFY (R317). -/
  | clipVerify (tag : Nat) (bad : List (Nat × Nat))
  -- ledger and placement
  /-- BAND_STEP (R333). -/
  | bandStep (s : Fin 4)
  /-- LEDGER_VISIT (R324). -/
  | ledgerVisit (s : Fin 4)
  /-- STAGED_DRAIN (R340). -/
  | stagedDrain (s : Fin 4)
  /-- STAGING_FLOOR (R337). -/
  | stagingFloor
  -- Peat
  /-- DQ_RESERVE (R348). -/
  | dqReserve (m : Master)
  /-- DQ_KICK (R349). -/
  | dqKick
  /-- RESERVED_SLOT_TIMEOUT (R349). -/
  | reservedSlotTimeout
  /-- PEAT_READ (R354). -/
  | peatRead (f : PtFields) (slc : Bool) (pmask rrl : BitVec 4) (daddr maddr : BitVec 64)
  /-- PEAT_PROGRAM (R347). -/
  | peatProgram (f : PtFields) (slc : Bool) (daddr maddr : BitVec 64)
  /-- PEAT_ERASE (R356). -/
  | peatErase (f : PtFields) (jrnl : Bool)
  /-- PEAT_JOURNAL (R355). -/
  | peatJournal (f : PtFields) (ckpt : Bool) (len : BitVec 32) (daddr : BitVec 64)
  /-- PEAT_REBUILD (R351). -/
  | peatRebuild (f : PtFields) (daddr maddr : BitVec 64)
  /-- PEAT_PAD (R347). -/
  | peatPad (f : PtFields) (slc : Bool)
  /-- FLASH_OP_COMPLETE (R347). -/
  | flashOpComplete (die : Fin 32) (r : FlashRes)
  /-- DIE_TIMEOUT (R364). -/
  | dieTimeout (die : Fin 32)
  /-- PEAT_TEMP_SAMPLE (R365). -/
  | peatTempSample (temp : BitVec 16)
  -- buffer memory and map cache
  /-- DRAM_ACCESS (R370). -/
  | dramAccess (req : Requester) (addr len : Nat) (data : Option (List Byte)) (strike : Option (Fin 65))
      (tag : Option Nat)
  /-- MERGE_FLUSH (R371). -/
  | mergeFlush (word : Nat)
  /-- CE_LEAK (R374). -/
  | ceLeak
  /-- APERTURE_ACCESS (R375). -/
  | apertureAccess (m : Master) (off : BitVec 20) (data : Option Word)
  /-- MC_ACCESS (R378). -/
  | mcAccess (core : Fin 4) (addr len : Nat) (write : Option (List Byte)) (strike : McStrike)
  /-- MC_FILL_DONE (R378). -/
  | mcFillDone (core : Fin 4)
  /-- INV (R383). -/
  | inv (addr len : Nat)
  /-- CLEAN (R383). -/
  | clean (addr len : Nat)
  /-- LOCKFILL (R383). -/
  | lockfill (addr len : Nat)
  /-- INV_ALL (R383). -/
  | invAll
  /-- CLEAN_ALL (R383). -/
  | cleanAll
  /-- MC_OP_DONE (R383). -/
  | mcOpDone
  /-- WAY_RESTORE (R381). -/
  | wayRestore (ways : BitVec 16)
  /-- MC_WIN_WRITE (R392). -/
  | mcWinWrite (v : Word)
  -- Sluice
  /-- SL_START (R386). -/
  | slStart (c : Fin 32) (ssp dsp pri irq : Bool)
  /-- SL_STOP (R390). -/
  | slStop (c : Fin 32)
  /-- SL_BEAT (R387). -/
  | slBeat (c : Fin 32) (write : Bool) (data : List Byte)
  /-- SL_DONE (R387). -/
  | slDone (c : Fin 32)
  /-- SL_BUS_ERROR (R389). -/
  | slBusError (c : Fin 32) (write : Bool)
  -- cipher and key store
  /-- CIPHER_UNIT (R397). -/
  | cipherUnit (p : Fin 16) (n : Fin 4) (use : CxUse) (tw data : List Byte) (differ : Bool)
  /-- GCM_SEAL (R396). -/
  | gcmSeal (p : Fin 16) (n : Fin 4) (iv header body : List Byte) (encb differ : Bool)
  /-- GCM_OPEN (R396). -/
  | gcmOpen (p : Fin 16) (n : Fin 4) (iv header body tag : List Byte) (encb differ : Bool)
  /-- RE_TWEAK (R395). -/
  | reTweak (p : Fin 16) (n : Fin 4) (old new data : List Byte) (differ : Bool)
  /-- PAIR_KAT (R399). -/
  | pairKat (n : Fin 4) (pass : Bool)
  /-- PAIR_RESTORE (R399). -/
  | pairRestore (n : Fin 4) (pass : Bool)
  /-- PAGE_KEY_LOAD (R400). -/
  | pageKeyLoad (p : Fin 16) (slot : Fin 64)
  /-- PAGE_CTL_WRITE (R401). -/
  | pageCtlWrite (p : Fin 16) (v : Word)
  /-- INSTALL (R404). -/
  | install (slot : Fin 64) (gcmKey : Bool) (blob : List Byte)
  /-- ERASE (R404). -/
  | erase (slot : Fin 64)
  /-- ERASE_ALL (R404). -/
  | eraseAll
  /-- KEY_ALARM (R406). -/
  | keyAlarm (a : KeyAlarm) (present : Bool)
  -- mirrored pair
  /-- ML_LINK_ENABLE (R409). -/
  | mlLinkEnable (retrain : Bool)
  /-- ML_LINK_DOWN (R410). -/
  | mlLinkDown
  /-- HELLO (R410). -/
  | mlHello (h : PeerHello) (earlier : Bool)
  /-- CMD (R414). -/
  | mlCmd (mseq : BitVec 64) (dws : Vector Word 16) (tag : Fin 4096) (pair : Fin 128) (clip : BitVec 16)
      (frame : BitVec 32) (stamp : BitVec 64) (dur : BitVec 2)
  /-- DATA (R414). -/
  | mlData (mseq : BitVec 48) (chunk : BitVec 16) (bytes : List Byte)
  /-- RPT (R416). -/
  | mlRpt (mseq : BitVec 64)
  /-- CAT (R414). -/
  | mlCat (mseq : BitVec 64) (rtype : Fin 11) (entry : List Byte)
  /-- DONE (R416). -/
  | mlDone (mseq : BitVec 64) (status : Word)
  /-- TUN_REQ (R427). -/
  | mlTunReq (addr : BitVec 22) (write : Bool) (data : Word)
  /-- TUN_RSP (R427). -/
  | mlTunRsp (addr : BitVec 22) (write : Bool) (data : Word)
  /-- IRQ (R441). -/
  | mlIrq (n : BitVec 11)
  /-- RSYNC (R426). -/
  | mlRsync (out : Bool) (clip : BitVec 16) (unit : BitVec 32) (bytes : List Byte)
  /-- LEAVE (R421). -/
  | mlLeave (cause : Fin 3)
  /-- LACK (R410). -/
  | mlLack (lseq : BitVec 32) (replay : Bool)
  /-- HEARTBEAT_LOST (R421). -/
  | heartbeatLost
  /-- PEER_ROLE_CHANGE (R421). -/
  | peerRoleChange (level : Bool)
  /-- REPORT_TIMEOUT (R418). -/
  | reportTimeout
  /-- TAKEOVER_DELAY (R422). -/
  | takeoverDelay
  /-- AUTO_REJOIN (R425). -/
  | autoRejoin (earlier : Bool)
  /-- RESYNC_COMPLETE (R426). -/
  | resyncComplete
  /-- TUNNEL_ACCESS (R427). -/
  | tunnelAccess (m : Master) (addr : BitVec 22) (write : Bool)
  /-- TUNNEL_TIMEOUT (R427). -/
  | tunnelTimeout (m : Master)
  -- interrupts
  /-- CLAIM (R434). -/
  | claim (m : Master) (t : Fin 5)
  /-- EOI (R434). -/
  | eoi (t : Fin 5) (n : BitVec 11)
  /-- HOST_EOI (R435). -/
  | hostEoi (v : Fin 128)
  /-- FORCE_RAISE (R431). -/
  | forceRaise (n : BitVec 11)
  /-- TARGET_DISABLE (R438). -/
  | targetDisable (dis : BitVec 7)
  /-- HOLDOFF_EXPIRY (R439). -/
  | holdoffExpiry (host : Bool) (i : Fin 128)
  /-- PEER_FIFO_READ (R441). -/
  | peerFifoRead (m : Master)
  -- power
  /-- REDUCED_MODE_ENTRY (R26). -/
  | reducedModeEntry
  /-- REDUCED_MODE_EXIT (R27). -/
  | reducedModeExit
  /-- CLOCK_ALARM (R21). -/
  | clockAlarm
  /-- POWER_FAIL_DETECT (R452). -/
  | powerFailDetect
  /-- DYKE_END (R452). -/
  | dykeEnd (dur : BitVec 16)
  /-- POR (R456). -/
  | por
  /-- RESET_N (R456). -/
  | resetN
  /-- BROWNOUT (R456). -/
  | brownout (dumped : Nat)
  /-- WDOG (R456). -/
  | wdog
  /-- SOFT (R456). -/
  | soft (key : BitVec 16) (dump : Bool)
  /-- JTAG (R456). -/
  | jtag
  /-- MODULE_BOOT (R458). -/
  | moduleBoot (slotOk : BitVec 2) (badDies : BitVec 32) (bad : List (Nat × Nat))
  /-- HOLDUP_MEASURE (R448). -/
  | holdupMeasure (capf esr : BitVec 16)
  /-- HOLDUP_ARM (R450). -/
  | holdupArm
  /-- BOOST_FAULT (R450). -/
  | boostFault
  /-- SLEEP_ENTRY (R463). -/
  | sleepEntry (pending : BitVec 11)
  /-- WAKE (R464). -/
  | wake (sources : BitVec 11) (ticks : BitVec 32)
  /-- STANDBY_LOOK (R462). -/
  | standbyLook (temp hum : BitVec 8)
  /-- PAD_RELEASE (R464). -/
  | padRelease
  -- calibration and telemetry
  /-- CAL_ADC_OFFSET (R469). -/
  | calAdcOffset (s : Fin 4) (bg : Bool) (offs : Option (List (List (BitVec 8))))
  /-- CAL_SERVO_OFFSET (R470). -/
  | calServoOffset (s : Fin 4) (bg : Bool) (means : Option (Vector (BitVec 14) 9))
  /-- CAL_LOOP_GAIN (R471). -/
  | calLoopGain (s : Fin 4) (bg : Bool) (err : Option (BitVec 16 × BitVec 16))
  /-- CAL_WRITE_POWER (R473). -/
  | calWritePower (s : Fin 4) (area bg : Bool) (errs : Option (Vector (BitVec 16) 16))
  /-- CAL_WRITE_STRATEGY (R468). -/
  | calWriteStrategy (s : Fin 4) (table : Option (Vector Word 28))
  /-- CAL_TIMEOUT (R474). -/
  | calTimeout (s : Fin 4)
  /-- DEFERRAL_EXPIRY (R477). -/
  | deferralExpiry (e : Fin 7)
  /-- TELEMETRY_SAMPLE (R478). -/
  | telemetrySample (set : Fin 5) (inst : Fin 64) (magTemp : BitVec 16) (humidity : BitVec 8) (draw : BitVec 16)
  -- I2C
  /-- I2C_TRANSFER (R493). -/
  | i2cTransfer (v : Word)
  /-- I2C_TRANSFER_DONE (R493). -/
  | i2cTransferDone (r : I2cEnd)
  -- further events
  /-- PU_FAULT_RELEASE (R191). -/
  | puFaultRelease (s : Fin 4)
  /-- COIL_DRIVER_FAULT (R186). -/
  | coilDriverFault (s : Fin 4)
  /-- MSIX_UNMASK (R433). -/
  | msixUnmask (v : Fin 128)
  /-- VICTIM_WRITEBACK (R380). -/
  | victimWriteback
  /-- HEARTBEAT_REGAINED (R421). -/
  | heartbeatRegained
  /-- ML_FRAME_DISCARD (R410). -/
  | mlFrameDiscard
  /-- UPSTREAM_FRAME_DISCARD (R94). -/
  | upstreamFrameDiscard (s : Fin 4)
  /-- VIN_OVERVOLTAGE (R466). -/
  | vinOvervoltage
  /-- DIE_TEMPERATURE_WARNING (R292). -/
  | dieTemperatureWarning (temp : BitVec 16)
  /-- MGMT_ACCESS_DONE (R104). -/
  | mgmtAccessDone (s : Fin 4) (data : BitVec 32)
  deriving DecidableEq, Repr

end Sys2Proof
end

