-- ==== Sys2Proof/Machine/SMap.lean ====
section
/-!
DEFINITION. Sparse maps with a default value, in one canonical form: keys strictly rising, and no
entry equal to what an unlisted key reads as. Registers and DRAM bytes are held this way, so that equal
contents are equal data.
-/

namespace Sys2Proof.Machine

/-- A sparse map: key and value pairs. -/
abbrev SMap (α : Type) := List (Nat × α)

/-- The value at key `k`; `d` where the map lists none. -/
def SMap.get {α : Type} (m : SMap α) (k : Nat) (d : α) : α :=
  match m with
  | [] => d
  | (k', v) :: t => if k' = k then v else SMap.get t k d

/-- The map without key `k`. -/
def SMap.erase {α : Type} (m : SMap α) (k : Nat) : SMap α :=
  match m with
  | [] => []
  | (k', v) :: t => if k' = k then SMap.erase t k else (k', v) :: SMap.erase t k

/-- `(k, v)` put before the first greater key. -/
def SMap.insert {α : Type} (m : SMap α) (k : Nat) (v : α) : SMap α :=
  match m with
  | [] => [(k, v)]
  | (k', v') :: t => if k < k' then (k, v) :: (k', v') :: t else (k', v') :: SMap.insert t k v

/-- Write `v` at key `k`; writing the default `d` removes the entry. -/
def SMap.set {α : Type} [DecidableEq α] (m : SMap α) (k : Nat) (v d : α) : SMap α :=
  if v = d then SMap.erase m k else SMap.insert (SMap.erase m k) k v

/-- The keys rise strictly from above `lo` on. -/
def SMap.risingFrom {α : Type} (lo : Nat) (m : SMap α) : Bool :=
  match m with
  | [] => true
  | (k, _) :: t => lo ≤ k && SMap.risingFrom (k + 1) t

/-- No entry equals the default of its key. -/
def SMap.noDefault {α : Type} [DecidableEq α] (d : Nat → α) (m : SMap α) : Bool :=
  m.all fun e => e.2 ≠ d e.1

/-- The canonical form: keys strictly rising, no entry equal to its default. -/
def SMap.wf {α : Type} [DecidableEq α] (d : Nat → α) (m : SMap α) : Bool :=
  SMap.risingFrom 0 m && SMap.noDefault d m

end Sys2Proof.Machine
end

