-- ==== Sys2Proof/Machine/Aes.lean ====
section
/-!
DEFINITION. The ciphers that the spec names by their standards (15_cipher.md R393, R396, R403, 11_command_set.md
R296): AES-256, XTS with data units of whole blocks (IEEE 1619), GCM with an IV of any length (SP 800-38D)
and key wrap (SP 800-38F KW). The algorithms are taken from those standards (PRESUMED,
notes/assumptions/14.md).
-/

namespace Sys2Proof.Machine

/-- The substitution table of AES. -/
def aesSbox : List Nat :=
  [0x63, 0x7C, 0x77, 0x7B, 0xF2, 0x6B, 0x6F, 0xC5, 0x30, 0x01, 0x67, 0x2B, 0xFE, 0xD7, 0xAB, 0x76] ++
  [0xCA, 0x82, 0xC9, 0x7D, 0xFA, 0x59, 0x47, 0xF0, 0xAD, 0xD4, 0xA2, 0xAF, 0x9C, 0xA4, 0x72, 0xC0] ++
  [0xB7, 0xFD, 0x93, 0x26, 0x36, 0x3F, 0xF7, 0xCC, 0x34, 0xA5, 0xE5, 0xF1, 0x71, 0xD8, 0x31, 0x15] ++
  [0x04, 0xC7, 0x23, 0xC3, 0x18, 0x96, 0x05, 0x9A, 0x07, 0x12, 0x80, 0xE2, 0xEB, 0x27, 0xB2, 0x75] ++
  [0x09, 0x83, 0x2C, 0x1A, 0x1B, 0x6E, 0x5A, 0xA0, 0x52, 0x3B, 0xD6, 0xB3, 0x29, 0xE3, 0x2F, 0x84] ++
  [0x53, 0xD1, 0x00, 0xED, 0x20, 0xFC, 0xB1, 0x5B, 0x6A, 0xCB, 0xBE, 0x39, 0x4A, 0x4C, 0x58, 0xCF] ++
  [0xD0, 0xEF, 0xAA, 0xFB, 0x43, 0x4D, 0x33, 0x85, 0x45, 0xF9, 0x02, 0x7F, 0x50, 0x3C, 0x9F, 0xA8] ++
  [0x51, 0xA3, 0x40, 0x8F, 0x92, 0x9D, 0x38, 0xF5, 0xBC, 0xB6, 0xDA, 0x21, 0x10, 0xFF, 0xF3, 0xD2] ++
  [0xCD, 0x0C, 0x13, 0xEC, 0x5F, 0x97, 0x44, 0x17, 0xC4, 0xA7, 0x7E, 0x3D, 0x64, 0x5D, 0x19, 0x73] ++
  [0x60, 0x81, 0x4F, 0xDC, 0x22, 0x2A, 0x90, 0x88, 0x46, 0xEE, 0xB8, 0x14, 0xDE, 0x5E, 0x0B, 0xDB] ++
  [0xE0, 0x32, 0x3A, 0x0A, 0x49, 0x06, 0x24, 0x5C, 0xC2, 0xD3, 0xAC, 0x62, 0x91, 0x95, 0xE4, 0x79] ++
  [0xE7, 0xC8, 0x37, 0x6D, 0x8D, 0xD5, 0x4E, 0xA9, 0x6C, 0x56, 0xF4, 0xEA, 0x65, 0x7A, 0xAE, 0x08] ++
  [0xBA, 0x78, 0x25, 0x2E, 0x1C, 0xA6, 0xB4, 0xC6, 0xE8, 0xDD, 0x74, 0x1F, 0x4B, 0xBD, 0x8B, 0x8A] ++
  [0x70, 0x3E, 0xB5, 0x66, 0x48, 0x03, 0xF6, 0x0E, 0x61, 0x35, 0x57, 0xB9, 0x86, 0xC1, 0x1D, 0x9E] ++
  [0xE1, 0xF8, 0x98, 0x11, 0x69, 0xD9, 0x8E, 0x94, 0x9B, 0x1E, 0x87, 0xE9, 0xCE, 0x55, 0x28, 0xDF] ++
  [0x8C, 0xA1, 0x89, 0x0D, 0xBF, 0xE6, 0x42, 0x68, 0x41, 0x99, 0x2D, 0x0F, 0xB0, 0x54, 0xBB, 0x16]

/-- The table and its inverse as functions. -/
def aesSub (x : Nat) : Nat := aesSbox.getD x 0
def aesSubInv (x : Nat) : Nat := (aesSbox.findIdx? (· = x)).getD 0

/-- Exclusive or of byte strings. -/
def xorBytes (a b : List Byte) : List Byte := List.zipWith (· ^^^ ·) a b

/-- Multiplication by x in the field of AES. -/
def xtime (a : Byte) : Byte := (a <<< 1) ^^^ (if a.getLsbD 7 then 0x1B else 0)

/-- Multiplication by a constant below 16. -/
def gmul (k : Nat) (a : Byte) : Byte :=
  let a2 := xtime a
  let a4 := xtime a2
  let a8 := xtime a4
  (if k.testBit 0 then a else 0) ^^^ (if k.testBit 1 then a2 else 0) ^^^ (if k.testBit 2 then a4 else 0) ^^^
    (if k.testBit 3 then a8 else 0)

def subBytes (b : List Byte) : List Byte := b.map fun x => BitVec.ofNat 8 (aesSub x.toNat)
def subBytesInv (b : List Byte) : List Byte := b.map fun x => BitVec.ofNat 8 (aesSubInv x.toNat)

/-- Bytes picked from a 16-byte block. -/
def pick (idx : List Nat) (b : List Byte) : List Byte := idx.map fun i => b.getD i 0

def shiftRows : List Byte → List Byte := pick [0, 5, 10, 15, 4, 9, 14, 3, 8, 13, 2, 7, 12, 1, 6, 11]
def shiftRowsInv : List Byte → List Byte := pick [0, 13, 10, 7, 4, 1, 14, 11, 8, 5, 2, 15, 12, 9, 6, 3]

/-- A column transform with the first row of its matrix. -/
def mixWith (m : List Nat) (b : List Byte) : List Byte :=
  (List.range 16).map fun i =>
    let c := i / 4 * 4
    let r := i % 4
    (List.range 4).foldl (fun acc k => acc ^^^ gmul (m.getD ((k + 4 - r) % 4) 0) (b.getD (c + k) 0)) 0

/-- The 60 words of the key schedule, 4 bytes each. -/
def keyExpand (key : List Byte) : List (List Byte) :=
  let start := (List.range 8).map fun i => (key.drop (4 * i)).take 4
  (List.range 52).foldl (fun ws n =>
    let i := n + 8
    let prev := ws.getD (i - 1) []
    let t :=
      if i % 8 = 0 then
        let r := subBytes (prev.drop 1 ++ prev.take 1)
        xorBytes r [BitVec.ofNat 8 (2 ^ (i / 8 - 1)), 0, 0, 0]
      else if i % 8 = 4 then subBytes prev
      else prev
    ws ++ [xorBytes (ws.getD (i - 8) []) t]) start

/-- The round keys 0 to 14. -/
def roundKeys (key : List Byte) : List (List Byte) :=
  let ws := keyExpand key
  (List.range 15).map fun r => ((ws.drop (4 * r)).take 4).flatten

/-- AES-256 of one block under a key schedule. -/
def aesEnc (rk : List (List Byte)) (p : List Byte) : List Byte :=
  let s := xorBytes p (rk.getD 0 [])
  let s := (List.range 13).foldl (fun s r =>
    xorBytes (mixWith [2, 3, 1, 1] (shiftRows (subBytes s))) (rk.getD (r + 1) [])) s
  xorBytes (shiftRows (subBytes s)) (rk.getD 14 [])

/-- Its inverse. -/
def aesDec (rk : List (List Byte)) (c : List Byte) : List Byte :=
  let s := xorBytes c (rk.getD 14 [])
  let s := (List.range 13).foldl (fun s r =>
    mixWith [14, 11, 13, 9] (xorBytes (subBytesInv (shiftRowsInv s)) (rk.getD (13 - r) []))) s
  xorBytes (subBytesInv (shiftRowsInv s)) (rk.getD 0 [])

/-- The check value of a key (R296): the first 8 bytes of the encryption of a zero block. -/
def keyCheck (key : List Byte) : List Byte := (aesEnc (roundKeys (key.take 32)) (List.replicate 16 0)).take 8

/-! ### XTS -/

/-- Multiplication of the tweak by α. -/
def xtsNext (t : List Byte) : List Byte :=
  let carry := (t.getD 15 0).getLsbD 7
  (List.range 16).map fun i =>
    let low : Byte := if i = 0 then (if carry then 0x87 else 0) else (t.getD (i - 1) 0) >>> 7
    ((t.getD i 0) <<< 1) ^^^ low

/-- The blocks of a data unit in turn, each under the next tweak. -/
def xtsRun (f : List Byte → List Byte) : Nat → List Byte → List Byte → List Byte
  | 0, _, _ => []
  | fuel + 1, t, d =>
    if d.isEmpty then [] else xorBytes (f (xorBytes (d.take 16) t)) t ++ xtsRun f fuel (xtsNext t) (d.drop 16)

/-- XTS of one data unit under a 64-byte key pair and a 16-byte tweak value. -/
def xts (decrypt : Bool) (key tweak data : List Byte) : List Byte :=
  let k1 := roundKeys (key.take 32)
  let k2 := roundKeys (key.drop 32)
  xtsRun (if decrypt then aesDec k1 else aesEnc k1) (data.length / 16 + 1) (aesEnc k2 tweak) data

/-! ### GCM -/

/-- Big-endian value, and `n` big-endian bytes. -/
def beVal (l : List Byte) : Nat := l.foldl (fun a x => a * 256 + x.toNat) 0
def beBytes (n v : Nat) : List Byte := (List.range n).map fun i => BitVec.ofNat 8 (v / 256 ^ (n - 1 - i))

/-- Product in GF(2^128) with the bit order of GCM. -/
def gfMul (x y : BitVec 128) : BitVec 128 :=
  ((List.range 128).foldl (fun (a : BitVec 128 × BitVec 128) i =>
    let z := if x.getLsbD (127 - i) then a.1 ^^^ a.2 else a.1
    let v := if a.2.getLsbD 0 then (a.2 >>> 1) ^^^ (0xE1#128 <<< 120) else a.2 >>> 1
    (z, v)) (0, y)).1

/-- GHASH over whole blocks. -/
def ghash (h : BitVec 128) : Nat → BitVec 128 → List Byte → BitVec 128
  | 0, y, _ => y
  | fuel + 1, y, d =>
    if d.isEmpty then y else ghash h fuel (gfMul (y ^^^ BitVec.ofNat 128 (beVal (d.take 16))) h) (d.drop 16)

/-- Zero bytes up to a whole number of blocks. -/
def pad16 (l : List Byte) : List Byte := l ++ List.replicate ((16 - l.length % 16) % 16) 0

/-- Counter mode from the block `j` on. -/
def gctr (rk : List (List Byte)) : Nat → List Byte → List Byte → List Byte
  | 0, _, _ => []
  | fuel + 1, j, d =>
    if d.isEmpty then []
    else
      let j' := j.take 12 ++ beBytes 4 (beVal (j.drop 12) + 1)
      xorBytes (d.take 16) (aesEnc rk j) ++ gctr rk fuel j' (d.drop 16)

/-- GCM with an IV that is not 96 bits long: the text under the counter and the tag over the ciphertext. -/
def gcm (key iv aad text : List Byte) (decrypt : Bool) : List Byte × List Byte :=
  let rk := roundKeys key
  let h := BitVec.ofNat 128 (beVal (aesEnc rk (List.replicate 16 0)))
  let hash := fun (d : List Byte) => ghash h (d.length / 16 + 1) 0 d
  let j0 := beBytes 16 (hash (pad16 iv ++ beBytes 8 0 ++ beBytes 8 (8 * iv.length))).toNat
  let j1 := j0.take 12 ++ beBytes 4 (beVal (j0.drop 12) + 1)
  let out := gctr rk (text.length / 16 + 1) j1 text
  let c := if decrypt then text else out
  let s := hash (pad16 aad ++ pad16 c ++ beBytes 8 (8 * aad.length) ++ beBytes 8 (8 * c.length))
  (out, xorBytes (beBytes 16 s.toNat) (aesEnc rk j0))

/-! ### Key wrap -/

/-- The steps of the unwrapping, from `t` down: A and the registers R. -/
def unwrapSteps (rk : List (List Byte)) (n : Nat) : Nat → List Byte → List (List Byte) → List Byte × List (List Byte)
  | 0, a, rs => (a, rs)
  | t + 1, a, rs =>
    let i := t % n
    let d := aesDec rk (xorBytes a (beBytes 8 (t + 1)) ++ rs.getD i [])
    unwrapSteps rk n t (d.take 8) (rs.set i (d.drop 8))

/-- The key in a wrapped blob, where its integrity check passes. -/
def unwrapKey (kek blob : List Byte) : Option (List Byte) :=
  let n := blob.length / 8 - 1
  let rs := (List.range n).map fun i => (blob.drop (8 * (i + 1))).take 8
  let (a, rs) := unwrapSteps (roundKeys kek) n (6 * n) (blob.take 8) rs
  if a = List.replicate 8 0xA6 && 2 ≤ n then some rs.flatten else none

end Sys2Proof.Machine
end

