-- ==== Sys2Proof/Machine/RegNames.lean ====
section
/-!
DEFINITION. The BAR0 offsets of every register and the bit places of every field, by the spec's names
(20_register_map.md R482 to R484 for the blocks and strides; the register tables of the chapters for
the offsets and fields). Instance letters of the spec's names are arguments, in the order in which they
stand in the name.
-/

namespace Sys2Proof.Machine

/-- A field of a register: the register's BAR0 offset and the field's highest and lowest bit. -/
structure Fld where
  reg : Nat
  hi : Nat
  lo : Nat
  deriving DecidableEq, Repr

/-! ### GLB registers (R492) -/

/-- Offset of GLB_TICK_LO (02_the_tick.md R46). -/
def GLB_TICK_LO : Nat := 0x100
def GLB_TICK_LO_TICK_LO : Fld := ⟨GLB_TICK_LO, 31, 0⟩

/-- Offset of GLB_TICK_HI (02_the_tick.md R46). -/
def GLB_TICK_HI : Nat := 0x104
def GLB_TICK_HI_TICK_HI : Fld := ⟨GLB_TICK_HI, 31, 0⟩

/-- Offset of GLB_TICK_CYC (02_the_tick.md R46). -/
def GLB_TICK_CYC : Nat := 0x108
def GLB_TICK_CYC_CYC : Fld := ⟨GLB_TICK_CYC, 10, 0⟩

/-- Offset of GLB_TICK_STAT (02_the_tick.md R46). -/
def GLB_TICK_STAT : Nat := 0x10c
def GLB_TICK_STAT_STBY_ADJ : Fld := ⟨GLB_TICK_STAT, 0, 0⟩

/-- Offset of GLB_TOVR_CNT (02_the_tick.md R46). -/
def GLB_TOVR_CNT : Nat := 0x110
def GLB_TOVR_CNT_COUNT : Fld := ⟨GLB_TOVR_CNT, 15, 0⟩

/-- Offset of GLB_TOVR_LAST (02_the_tick.md R46). -/
def GLB_TOVR_LAST : Nat := 0x114
def GLB_TOVR_LAST_TICK : Fld := ⟨GLB_TOVR_LAST, 31, 16⟩
def GLB_TOVR_LAST_ENTRY : Fld := ⟨GLB_TOVR_LAST, 5, 0⟩

/-! ### MZ registers (R493, R248) -/

/-- Offset of MZ_FSYNC_CTL (02_the_tick.md R49). -/
def MZ_FSYNC_CTL : Nat := 0x220100
def MZ_FSYNC_CTL_FILT : Fld := ⟨MZ_FSYNC_CTL, 9, 2⟩
def MZ_FSYNC_CTL_EDGE : Fld := ⟨MZ_FSYNC_CTL, 1, 1⟩
def MZ_FSYNC_CTL_EN : Fld := ⟨MZ_FSYNC_CTL, 0, 0⟩

/-- Offset of MZ_FSYNC_TS_LO (02_the_tick.md R49). -/
def MZ_FSYNC_TS_LO : Nat := 0x220104
def MZ_FSYNC_TS_LO_TS_LO : Fld := ⟨MZ_FSYNC_TS_LO, 31, 0⟩

/-- Offset of MZ_FSYNC_TS_HI (02_the_tick.md R49). -/
def MZ_FSYNC_TS_HI : Nat := 0x220108
def MZ_FSYNC_TS_HI_TS_HI : Fld := ⟨MZ_FSYNC_TS_HI, 31, 0⟩

/-- Offset of MZ_FSYNC_CNT (02_the_tick.md R49). -/
def MZ_FSYNC_CNT : Nat := 0x22010c
def MZ_FSYNC_CNT_COUNT : Fld := ⟨MZ_FSYNC_CNT, 31, 0⟩

/-- Offset of MZ_FSYNC_STAT (02_the_tick.md R49). -/
def MZ_FSYNC_STAT : Nat := 0x220110
def MZ_FSYNC_STAT_OVF : Fld := ⟨MZ_FSYNC_STAT, 1, 1⟩
def MZ_FSYNC_STAT_NEW : Fld := ⟨MZ_FSYNC_STAT, 0, 0⟩

/-! ### WP registers (R117) -/

/-- Offset of WP_CTL (04_write_path.md R117). -/
def WP_CTL : Nat := 0x140000
def WP_CTL_LEAD : Fld := ⟨WP_CTL, 15, 8⟩
def WP_CTL_HOLD : Fld := ⟨WP_CTL, 1, 1⟩
def WP_CTL_EN : Fld := ⟨WP_CTL, 0, 0⟩

/-- Offset of WP_STAT (04_write_path.md R117). -/
def WP_STAT : Nat := 0x140004
def WP_STAT_STILL : Fld := ⟨WP_STAT, 11, 8⟩
def WP_STAT_THROT : Fld := ⟨WP_STAT, 7, 4⟩
def WP_STAT_WRITING : Fld := ⟨WP_STAT, 3, 0⟩

/-- Offset of WP_VFY_CTL (04_write_path.md R117). -/
def WP_VFY_CTL : Nat := 0x140008
def WP_VFY_CTL_SYNCHD : Fld := ⟨WP_VFY_CTL, 27, 24⟩
def WP_VFY_CTL_MAXERA : Fld := ⟨WP_VFY_CTL, 23, 16⟩
def WP_VFY_CTL_MAXCORR : Fld := ⟨WP_VFY_CTL, 15, 4⟩
def WP_VFY_CTL_ITER : Fld := ⟨WP_VFY_CTL, 3, 0⟩

/-- Offset of WP_VFY_WM (04_write_path.md R117). -/
def WP_VFY_WM : Nat := 0x14000c
def WP_VFY_WM_LWM : Fld := ⟨WP_VFY_WM, 12, 8⟩
def WP_VFY_WM_HWM : Fld := ⟨WP_VFY_WM, 4, 0⟩

/-- Offset of WP_RELOC_CTL (04_write_path.md R117). -/
def WP_RELOC_CTL : Nat := 0x140010
def WP_RELOC_CTL_MAXTRY : Fld := ⟨WP_RELOC_CTL, 27, 24⟩
def WP_RELOC_CTL_MAXWAIT : Fld := ⟨WP_RELOC_CTL, 23, 0⟩

/-- Offset of WP_BFAIL_LO (04_write_path.md R117). -/
def WP_BFAIL_LO : Nat := 0x140014
def WP_BFAIL_LO_BFAIL : Fld := ⟨WP_BFAIL_LO, 31, 0⟩

/-- Offset of WP_BFAIL_HI (04_write_path.md R117). -/
def WP_BFAIL_HI : Nat := 0x140018
def WP_BFAIL_HI_BFAIL : Fld := ⟨WP_BFAIL_HI, 31, 0⟩

/-- Offset of WP_Ss_WSEQ (04_write_path.md R117). -/
def WP_Ss_WSEQ (s : Nat) : Nat := 0x140020 + 0x10 * s
def WP_Ss_WSEQ_WSEQ (s : Nat) : Fld := ⟨WP_Ss_WSEQ s, 31, 0⟩

/-- Offset of WP_Ss_VSEQ (04_write_path.md R117). -/
def WP_Ss_VSEQ (s : Nat) : Nat := 0x140024 + 0x10 * s
def WP_Ss_VSEQ_VSEQ (s : Nat) : Fld := ⟨WP_Ss_VSEQ s, 31, 0⟩

/-- Offset of WP_Ss_VQ (04_write_path.md R117). -/
def WP_Ss_VQ (s : Nat) : Nat := 0x140028 + 0x10 * s
def WP_Ss_VQ_RELQ (s : Nat) : Fld := ⟨WP_Ss_VQ s, 31, 16⟩
def WP_Ss_VQ_VQ (s : Nat) : Fld := ⟨WP_Ss_VQ s, 15, 0⟩

/-- Offset of WP_Ss_WPTR (04_write_path.md R117). -/
def WP_Ss_WPTR (s : Nat) : Nat := 0x14002c + 0x10 * s
def WP_Ss_WPTR_BAND (s : Nat) : Fld := ⟨WP_Ss_WPTR s, 31, 16⟩
def WP_Ss_WPTR_SWATH (s : Nat) : Fld := ⟨WP_Ss_WPTR s, 15, 7⟩
def WP_Ss_WPTR_STRIPE (s : Nat) : Fld := ⟨WP_Ss_WPTR s, 6, 0⟩

/-- Offset of WP_CNT_CELLS (04_write_path.md R117). -/
def WP_CNT_CELLS : Nat := 0x140060
def WP_CNT_CELLS_COUNT : Fld := ⟨WP_CNT_CELLS, 31, 0⟩

/-- Offset of WP_CNT_RELOC (04_write_path.md R117). -/
def WP_CNT_RELOC : Nat := 0x140064
def WP_CNT_RELOC_COUNT : Fld := ⟨WP_CNT_RELOC, 31, 0⟩

/-- Offset of WP_CNT_VFAIL (04_write_path.md R117). -/
def WP_CNT_VFAIL : Nat := 0x140068
def WP_CNT_VFAIL_COUNT : Fld := ⟨WP_CNT_VFAIL, 31, 0⟩

/-- Offset of WP_CNT_VOID (04_write_path.md R117). -/
def WP_CNT_VOID : Nat := 0x14006c
def WP_CNT_VOID_COUNT : Fld := ⟨WP_CNT_VOID, 31, 0⟩

/-! ### SEs registers (R117) -/

/-- Offset of SEs_CTL (04_write_path.md R117). -/
def SEs_CTL (s : Nat) : Nat := 0x144000 + 0x4000 * s
def SEs_CTL_RETRAIN (s : Nat) : Fld := ⟨SEs_CTL s, 1, 1⟩
def SEs_CTL_LINK_EN (s : Nat) : Fld := ⟨SEs_CTL s, 0, 0⟩

/-- Offset of SEs_STAT (04_write_path.md R117). -/
def SEs_STAT (s : Nat) : Nat := 0x144004 + 0x4000 * s
def SEs_STAT_TB_OK (s : Nat) : Fld := ⟨SEs_STAT s, 8, 8⟩
def SEs_STAT_ID_VALID (s : Nat) : Fld := ⟨SEs_STAT s, 7, 7⟩
def SEs_STAT_PU_FAULT (s : Nat) : Fld := ⟨SEs_STAT s, 6, 6⟩
def SEs_STAT_ALIGNED (s : Nat) : Fld := ⟨SEs_STAT s, 5, 5⟩
def SEs_STAT_LANE_LOCK (s : Nat) : Fld := ⟨SEs_STAT s, 4, 1⟩
def SEs_STAT_LINK_UP (s : Nat) : Fld := ⟨SEs_STAT s, 0, 0⟩

/-- Offset of SEs_LSAFE (04_write_path.md R117). -/
def SEs_LSAFE (s : Nat) : Nat := 0x144008 + 0x4000 * s
def SEs_LSAFE_HLATCH (s : Nat) : Fld := ⟨SEs_LSAFE s, 5, 5⟩
def SEs_LSAFE_SAFE (s : Nat) : Fld := ⟨SEs_LSAFE s, 4, 4⟩
def SEs_LSAFE_MODE (s : Nat) : Fld := ⟨SEs_LSAFE s, 3, 2⟩
def SEs_LSAFE_WGATE (s : Nat) : Fld := ⟨SEs_LSAFE s, 1, 1⟩
def SEs_LSAFE_LDEN (s : Nat) : Fld := ⟨SEs_LSAFE s, 0, 0⟩

/-- Offset of SEs_LSAFE_LOST (04_write_path.md R117). -/
def SEs_LSAFE_LOST (s : Nat) : Nat := 0x14400c + 0x4000 * s
def SEs_LSAFE_LOST_BGATE_L (s : Nat) : Fld := ⟨SEs_LSAFE_LOST s, 31, 24⟩
def SEs_LSAFE_LOST_MODE_L (s : Nat) : Fld := ⟨SEs_LSAFE_LOST s, 23, 16⟩
def SEs_LSAFE_LOST_WGATE_L (s : Nat) : Fld := ⟨SEs_LSAFE_LOST s, 15, 8⟩
def SEs_LSAFE_LOST_LDEN_L (s : Nat) : Fld := ⟨SEs_LSAFE_LOST s, 7, 0⟩

/-- Offset of SEs_BGATE (04_write_path.md R117). -/
def SEs_BGATE (s : Nat) : Nat := 0x144010 + 0x4000 * s
def SEs_BGATE_BGATE (s : Nat) : Fld := ⟨SEs_BGATE s, 15, 0⟩

/-- Offset of SEs_MAXPWR (04_write_path.md R117). -/
def SEs_MAXPWR (s : Nat) : Nat := 0x144014 + 0x4000 * s
def SEs_MAXPWR_MAXPWR (s : Nat) : Fld := ⟨SEs_MAXPWR s, 15, 0⟩

/-- Offset of SEs_MON_TOL (04_write_path.md R117). -/
def SEs_MON_TOL (s : Nat) : Nat := 0x144018 + 0x4000 * s
def SEs_MON_TOL_TOL (s : Nat) : Fld := ⟨SEs_MON_TOL s, 7, 0⟩

/-- Offset of SEs_LAT (04_write_path.md R117). -/
def SEs_LAT (s : Nat) : Nat := 0x14401c + 0x4000 * s
def SEs_LAT_LAT (s : Nat) : Fld := ⟨SEs_LAT s, 15, 0⟩

/-- Offset of SEs_ERR (04_write_path.md R117). -/
def SEs_ERR (s : Nat) : Nat := 0x144020 + 0x4000 * s
def SEs_ERR_US_ERR (s : Nat) : Fld := ⟨SEs_ERR s, 31, 16⟩
def SEs_ERR_DS_ERR (s : Nat) : Fld := ⟨SEs_ERR s, 15, 0⟩

/-- Offset of SEs_TEMP (04_write_path.md R117). -/
def SEs_TEMP (s : Nat) : Nat := 0x144024 + 0x4000 * s
def SEs_TEMP_TEMP (s : Nat) : Fld := ⟨SEs_TEMP s, 15, 0⟩

/-- Offset of SEs_FAULT (04_write_path.md R117). -/
def SEs_FAULT (s : Nat) : Nat := 0x144028 + 0x4000 * s
def SEs_FAULT_FAULT (s : Nat) : Fld := ⟨SEs_FAULT s, 15, 0⟩

/-- Offset of SEs_MGMT_CMD (04_write_path.md R117). -/
def SEs_MGMT_CMD (s : Nat) : Nat := 0x144030 + 0x4000 * s
def SEs_MGMT_CMD_BUSY (s : Nat) : Fld := ⟨SEs_MGMT_CMD s, 31, 31⟩
def SEs_MGMT_CMD_ADDR (s : Nat) : Fld := ⟨SEs_MGMT_CMD s, 23, 8⟩
def SEs_MGMT_CMD_PORT (s : Nat) : Fld := ⟨SEs_MGMT_CMD s, 2, 2⟩
def SEs_MGMT_CMD_WR (s : Nat) : Fld := ⟨SEs_MGMT_CMD s, 1, 1⟩
def SEs_MGMT_CMD_GO (s : Nat) : Fld := ⟨SEs_MGMT_CMD s, 0, 0⟩

/-- Offset of SEs_MGMT_DATA (04_write_path.md R117). -/
def SEs_MGMT_DATA (s : Nat) : Nat := 0x144034 + 0x4000 * s
def SEs_MGMT_DATA_DATA (s : Nat) : Fld := ⟨SEs_MGMT_DATA s, 31, 0⟩

/-- Offset of SEs_BPWR_b (04_write_path.md R117). -/
def SEs_BPWR_b (s : Nat) (b : Nat) : Nat := 0x144100 + 0x4000 * s + 0x8 * b
def SEs_BPWR_b_BIAS (s : Nat) (b : Nat) : Fld := ⟨SEs_BPWR_b s b, 31, 16⟩
def SEs_BPWR_b_PEAK (s : Nat) (b : Nat) : Fld := ⟨SEs_BPWR_b s b, 15, 0⟩

/-- Offset of SEs_BRD_b (04_write_path.md R117). -/
def SEs_BRD_b (s : Nat) (b : Nat) : Nat := 0x144104 + 0x4000 * s + 0x8 * b
def SEs_BRD_b_READ (s : Nat) (b : Nat) : Fld := ⟨SEs_BRD_b s b, 15, 0⟩

/-- Offset of SEs_MON_b (04_write_path.md R117). -/
def SEs_MON_b (s : Nat) (b : Nat) : Nat := 0x144200 + 0x4000 * s + 0x4 * b
def SEs_MON_b_MON (s : Nat) (b : Nat) : Fld := ⟨SEs_MON_b s b, 15, 0⟩

/-! ### BMnn registers (R153) -/

/-- Offset of BMnn_CTL (05_read_channel.md R153). -/
def BMnn_CTL (n : Nat) : Nat := 0x180000 + 0x800 * n
def BMnn_CTL_RESTART (n : Nat) : Fld := ⟨BMnn_CTL n, 3, 3⟩
def BMnn_CTL_ADAPT (n : Nat) : Fld := ⟨BMnn_CTL n, 2, 2⟩
def BMnn_CTL_LFRZ (n : Nat) : Fld := ⟨BMnn_CTL n, 1, 1⟩
def BMnn_CTL_EN (n : Nat) : Fld := ⟨BMnn_CTL n, 0, 0⟩

/-- Offset of BMnn_STAT (05_read_channel.md R153). -/
def BMnn_STAT (n : Nat) : Nat := 0x180004 + 0x800 * n
def BMnn_STAT_FLYWHEEL (n : Nat) : Fld := ⟨BMnn_STAT n, 5, 5⟩
def BMnn_STAT_FROZEN (n : Nat) : Fld := ⟨BMnn_STAT n, 4, 4⟩
def BMnn_STAT_DEFECT (n : Nat) : Fld := ⟨BMnn_STAT n, 3, 3⟩
def BMnn_STAT_LOCK (n : Nat) : Fld := ⟨BMnn_STAT n, 2, 2⟩
def BMnn_STAT_MODE (n : Nat) : Fld := ⟨BMnn_STAT n, 1, 1⟩
def BMnn_STAT_ACTIVE (n : Nat) : Fld := ⟨BMnn_STAT n, 0, 0⟩

/-- Offset of BMnn_AFE (05_read_channel.md R153). -/
def BMnn_AFE (n : Nat) : Nat := 0x180008 + 0x800 * n
def BMnn_AFE_BOOST (n : Nat) : Fld := ⟨BMnn_AFE n, 11, 8⟩
def BMnn_AFE_FC (n : Nat) : Fld := ⟨BMnn_AFE n, 7, 4⟩

/-- Offset of BMnn_LOOP (05_read_channel.md R153). -/
def BMnn_LOOP (n : Nat) : Nat := 0x18000c + 0x800 * n
def BMnn_LOOP_OFS_KA (n : Nat) : Fld := ⟨BMnn_LOOP n, 23, 20⟩
def BMnn_LOOP_OFS_KT (n : Nat) : Fld := ⟨BMnn_LOOP n, 19, 16⟩
def BMnn_LOOP_GAIN_KA (n : Nat) : Fld := ⟨BMnn_LOOP n, 15, 12⟩
def BMnn_LOOP_GAIN_KT (n : Nat) : Fld := ⟨BMnn_LOOP n, 11, 8⟩
def BMnn_LOOP_ASYM_K (n : Nat) : Fld := ⟨BMnn_LOOP n, 7, 4⟩

/-- Offset of BMnn_FRZ (05_read_channel.md R153). -/
def BMnn_FRZ (n : Nat) : Nat := 0x180010 + 0x800 * n
def BMnn_FRZ_FRZ_EXT (n : Nat) : Fld := ⟨BMnn_FRZ n, 15, 0⟩

/-- Offset of BMnn_PRESET (05_read_channel.md R153). -/
def BMnn_PRESET (n : Nat) : Nat := 0x180014 + 0x800 * n
def BMnn_PRESET_VGA (n : Nat) : Fld := ⟨BMnn_PRESET n, 25, 16⟩
def BMnn_PRESET_ASYM (n : Nat) : Fld := ⟨BMnn_PRESET n, 15, 8⟩
def BMnn_PRESET_OFS (n : Nat) : Fld := ⟨BMnn_PRESET n, 7, 0⟩

/-- Offset of BMnn_LOOP_VAL (05_read_channel.md R153). -/
def BMnn_LOOP_VAL (n : Nat) : Nat := 0x180018 + 0x800 * n
def BMnn_LOOP_VAL_VGA (n : Nat) : Fld := ⟨BMnn_LOOP_VAL n, 25, 16⟩
def BMnn_LOOP_VAL_ASYM (n : Nat) : Fld := ⟨BMnn_LOOP_VAL n, 15, 8⟩
def BMnn_LOOP_VAL_OFS (n : Nat) : Fld := ⟨BMnn_LOOP_VAL n, 7, 0⟩

/-- Offset of BMnn_TR_CTL (05_read_channel.md R153). -/
def BMnn_TR_CTL (n : Nat) : Nat := 0x18001c + 0x800 * n
def BMnn_TR_CTL_KP_A (n : Nat) : Fld := ⟨BMnn_TR_CTL n, 19, 16⟩
def BMnn_TR_CTL_KI_A (n : Nat) : Fld := ⟨BMnn_TR_CTL n, 15, 12⟩
def BMnn_TR_CTL_KP_T (n : Nat) : Fld := ⟨BMnn_TR_CTL n, 11, 8⟩
def BMnn_TR_CTL_KI_T (n : Nat) : Fld := ⟨BMnn_TR_CTL n, 7, 4⟩

/-- Offset of BMnn_TR_STAT (05_read_channel.md R153). -/
def BMnn_TR_STAT (n : Nat) : Nat := 0x180020 + 0x800 * n
def BMnn_TR_STAT_FREQ (n : Nat) : Fld := ⟨BMnn_TR_STAT n, 31, 16⟩
def BMnn_TR_STAT_PHASE (n : Nat) : Fld := ⟨BMnn_TR_STAT n, 5, 0⟩

/-- Offset of BMnn_EQ_CTL (05_read_channel.md R153). -/
def BMnn_EQ_CTL (n : Nat) : Nat := 0x180024 + 0x800 * n
def BMnn_EQ_CTL_MU (n : Nat) : Fld := ⟨BMnn_EQ_CTL n, 3, 0⟩

/-- Offset of BMnn_EQ_TGT (05_read_channel.md R153). -/
def BMnn_EQ_TGT (n : Nat) : Nat := 0x180028 + 0x800 * n
def BMnn_EQ_TGT_T4 (n : Nat) : Fld := ⟨BMnn_EQ_TGT n, 19, 16⟩
def BMnn_EQ_TGT_T3 (n : Nat) : Fld := ⟨BMnn_EQ_TGT n, 15, 12⟩
def BMnn_EQ_TGT_T2 (n : Nat) : Fld := ⟨BMnn_EQ_TGT n, 11, 8⟩
def BMnn_EQ_TGT_T1 (n : Nat) : Fld := ⟨BMnn_EQ_TGT n, 7, 4⟩
def BMnn_EQ_TGT_T0 (n : Nat) : Fld := ⟨BMnn_EQ_TGT n, 3, 0⟩

/-- Offset of BMnn_EQ_INIT_k (05_read_channel.md R153). -/
def BMnn_EQ_INIT_k (n : Nat) (k : Nat) : Nat := 0x180040 + 0x800 * n + 0x4 * k
def BMnn_EQ_INIT_k_TAP (n : Nat) (k : Nat) : Fld := ⟨BMnn_EQ_INIT_k n k, 9, 0⟩

/-- Offset of BMnn_EQ_TAP_k (05_read_channel.md R153). -/
def BMnn_EQ_TAP_k (n : Nat) (k : Nat) : Nat := 0x180080 + 0x800 * n + 0x4 * k
def BMnn_EQ_TAP_k_TAP (n : Nat) (k : Nat) : Fld := ⟨BMnn_EQ_TAP_k n k, 9, 0⟩

/-- Offset of BMnn_DEF_CTL (05_read_channel.md R153). -/
def BMnn_DEF_CTL (n : Nat) : Nat := 0x1800c0 + 0x800 * n
def BMnn_DEF_CTL_DEF_LO (n : Nat) : Fld := ⟨BMnn_DEF_CTL n, 31, 24⟩
def BMnn_DEF_CTL_DEF_HI (n : Nat) : Fld := ⟨BMnn_DEF_CTL n, 23, 16⟩
def BMnn_DEF_CTL_DEF_MIN (n : Nat) : Fld := ⟨BMnn_DEF_CTL n, 15, 8⟩
def BMnn_DEF_CTL_DEF_EXT (n : Nat) : Fld := ⟨BMnn_DEF_CTL n, 7, 0⟩

/-- Offset of BMnn_SYNC_CTL (05_read_channel.md R153). -/
def BMnn_SYNC_CTL (n : Nat) : Nat := 0x1800c4 + 0x800 * n
def BMnn_SYNC_CTL_SYNC_WIN (n : Nat) : Fld := ⟨BMnn_SYNC_CTL n, 22, 16⟩
def BMnn_SYNC_CTL_RS_WIN (n : Nat) : Fld := ⟨BMnn_SYNC_CTL n, 11, 8⟩
def BMnn_SYNC_CTL_SYNC_HD (n : Nat) : Fld := ⟨BMnn_SYNC_CTL n, 6, 4⟩
def BMnn_SYNC_CTL_RS_HD (n : Nat) : Fld := ⟨BMnn_SYNC_CTL n, 2, 0⟩

/-- Offset of BMnn_ADC_STAT (05_read_channel.md R153). -/
def BMnn_ADC_STAT (n : Nat) : Nat := 0x1800c8 + 0x800 * n
def BMnn_ADC_STAT_FAULTY (n : Nat) : Fld := ⟨BMnn_ADC_STAT n, 23, 16⟩
def BMnn_ADC_STAT_USED (n : Nat) : Fld := ⟨BMnn_ADC_STAT n, 12, 8⟩
def BMnn_ADC_STAT_EXCESS (n : Nat) : Fld := ⟨BMnn_ADC_STAT n, 0, 0⟩

/-- Offset of BMnn_ADC_MAP_k (05_read_channel.md R153). -/
def BMnn_ADC_MAP_k (n : Nat) (k : Nat) : Nat := 0x1800d0 + 0x800 * n + 0x4 * k
def BMnn_ADC_MAP_k_VALIDH (n : Nat) (k : Nat) : Fld := ⟨BMnn_ADC_MAP_k n k, 31, 31⟩
def BMnn_ADC_MAP_k_VALIDL (n : Nat) (k : Nat) : Fld := ⟨BMnn_ADC_MAP_k n k, 15, 15⟩
def BMnn_ADC_MAP_k_THRH (n : Nat) (k : Nat) : Fld := ⟨BMnn_ADC_MAP_k n k, 22, 16⟩
def BMnn_ADC_MAP_k_THRL (n : Nat) (k : Nat) : Fld := ⟨BMnn_ADC_MAP_k n k, 6, 0⟩

/-- Offset of BMnn_CNT_CELLS (05_read_channel.md R153). -/
def BMnn_CNT_CELLS (n : Nat) : Nat := 0x180100 + 0x800 * n
def BMnn_CNT_CELLS_COUNT (n : Nat) : Fld := ⟨BMnn_CNT_CELLS n, 31, 0⟩

/-- Offset of BMnn_CNT_SYNC (05_read_channel.md R153). -/
def BMnn_CNT_SYNC (n : Nat) : Nat := 0x180104 + 0x800 * n
def BMnn_CNT_SYNC_FLYWHEEL (n : Nat) : Fld := ⟨BMnn_CNT_SYNC n, 31, 16⟩
def BMnn_CNT_SYNC_MULTI (n : Nat) : Fld := ⟨BMnn_CNT_SYNC n, 15, 0⟩

/-- Offset of BMnn_CNT_RSYNC (05_read_channel.md R153). -/
def BMnn_CNT_RSYNC (n : Nat) : Nat := 0x180108 + 0x800 * n
def BMnn_CNT_RSYNC_SLIP (n : Nat) : Fld := ⟨BMnn_CNT_RSYNC n, 31, 16⟩
def BMnn_CNT_RSYNC_FLYWHEEL (n : Nat) : Fld := ⟨BMnn_CNT_RSYNC n, 15, 0⟩

/-- Offset of BMnn_CNT_DEF (05_read_channel.md R153). -/
def BMnn_CNT_DEF (n : Nat) : Nat := 0x18010c + 0x800 * n
def BMnn_CNT_DEF_UNITS (n : Nat) : Fld := ⟨BMnn_CNT_DEF n, 31, 0⟩

/-- Offset of BMnn_Q_MSE (05_read_channel.md R153). -/
def BMnn_Q_MSE (n : Nat) : Nat := 0x180110 + 0x800 * n
def BMnn_Q_MSE_MSE (n : Nat) : Fld := ⟨BMnn_Q_MSE n, 15, 0⟩

/-- Offset of BMnn_Q_BER (05_read_channel.md R153). -/
def BMnn_Q_BER (n : Nat) : Nat := 0x180114 + 0x800 * n
def BMnn_Q_BER_CORR (n : Nat) : Fld := ⟨BMnn_Q_BER n, 31, 0⟩

/-- Offset of BMnn_Q_ITER (05_read_channel.md R153). -/
def BMnn_Q_ITER (n : Nat) : Nat := 0x180118 + 0x800 * n
def BMnn_Q_ITER_ITER (n : Nat) : Fld := ⟨BMnn_Q_ITER n, 11, 0⟩

/-- Offset of BMnn_EVT_THR (05_read_channel.md R153). -/
def BMnn_EVT_THR (n : Nat) : Nat := 0x18011c + 0x800 * n
def BMnn_EVT_THR_THR (n : Nat) : Fld := ⟨BMnn_EVT_THR n, 15, 0⟩

/-! ### RC registers (R153) -/

/-- Offset of RC_CTL (05_read_channel.md R153). -/
def RC_CTL : Nat := 0x1a0000
def RC_CTL_REREAD : Fld := ⟨RC_CTL, 26, 24⟩
def RC_CTL_ALIGN_MAX : Fld := ⟨RC_CTL, 23, 22⟩
def RC_CTL_ALIGN_ITER : Fld := ⟨RC_CTL, 20, 16⟩
def RC_CTL_EXT_ITER : Fld := ⟨RC_CTL, 13, 8⟩
def RC_CTL_RD_ITER : Fld := ⟨RC_CTL, 7, 4⟩
def RC_CTL_EN : Fld := ⟨RC_CTL, 0, 0⟩

/-- Offset of RC_SPLIT (05_read_channel.md R153). -/
def RC_SPLIT : Nat := 0x1a0004
def RC_SPLIT_RETRYMAX : Fld := ⟨RC_SPLIT, 20, 16⟩
def RC_SPLIT_RMIN : Fld := ⟨RC_SPLIT, 12, 8⟩
def RC_SPLIT_VMIN : Fld := ⟨RC_SPLIT, 4, 0⟩

/-- Offset of RC_STAT (05_read_channel.md R153). -/
def RC_STAT : Nat := 0x1a0008
def RC_STAT_CFG_ERR : Fld := ⟨RC_STAT, 31, 31⟩
def RC_STAT_AVAIL : Fld := ⟨RC_STAT, 28, 24⟩
def RC_STAT_BUSY_T : Fld := ⟨RC_STAT, 20, 16⟩
def RC_STAT_BUSY_R : Fld := ⟨RC_STAT, 12, 8⟩
def RC_STAT_BUSY_V : Fld := ⟨RC_STAT, 4, 0⟩

/-- Offset of RC_ENG_OFF (05_read_channel.md R153). -/
def RC_ENG_OFF : Nat := 0x1a000c
def RC_ENG_OFF_OFF : Fld := ⟨RC_ENG_OFF, 19, 0⟩

/-- Offset of RC_ENG_FAULT (05_read_channel.md R153). -/
def RC_ENG_FAULT : Nat := 0x1a0010
def RC_ENG_FAULT_FAULT : Fld := ⟨RC_ENG_FAULT, 19, 0⟩

/-- Offset of RC_RDWM (05_read_channel.md R153). -/
def RC_RDWM : Nat := 0x1a0014
def RC_RDWM_LWM : Fld := ⟨RC_RDWM, 12, 8⟩
def RC_RDWM_HWM : Fld := ⟨RC_RDWM, 4, 0⟩

/-- Offset of RC_THROT (05_read_channel.md R153). -/
def RC_THROT : Nat := 0x1a0018
def RC_THROT_RTHROT : Fld := ⟨RC_THROT, 3, 0⟩

/-- Offset of RC_VBUF_BASE (05_read_channel.md R153). -/
def RC_VBUF_BASE : Nat := 0x1a001c
def RC_VBUF_BASE_BASE : Fld := ⟨RC_VBUF_BASE, 21, 0⟩

/-- Offset of RC_RBUF_BASE (05_read_channel.md R153). -/
def RC_RBUF_BASE : Nat := 0x1a0020
def RC_RBUF_BASE_BASE : Fld := ⟨RC_RBUF_BASE, 21, 0⟩

/-- Offset of RC_Ss_Q (05_read_channel.md R153). -/
def RC_Ss_Q (s : Nat) : Nat := 0x1a0030 + 0x4 * s
def RC_Ss_Q_RQ (s : Nat) : Fld := ⟨RC_Ss_Q s, 31, 16⟩
def RC_Ss_Q_TQ (s : Nat) : Fld := ⟨RC_Ss_Q s, 15, 0⟩

/-- Offset of RC_CNT_DEC (05_read_channel.md R153). -/
def RC_CNT_DEC : Nat := 0x1a0040
def RC_CNT_DEC_COUNT : Fld := ⟨RC_CNT_DEC, 31, 0⟩

/-- Offset of RC_CNT_FAIL (05_read_channel.md R153). -/
def RC_CNT_FAIL : Nat := 0x1a0044
def RC_CNT_FAIL_COUNT : Fld := ⟨RC_CNT_FAIL, 31, 0⟩

/-- Offset of RC_CNT_REBUILD (05_read_channel.md R153). -/
def RC_CNT_REBUILD : Nat := 0x1a0048
def RC_CNT_REBUILD_COUNT : Fld := ⟨RC_CNT_REBUILD, 31, 0⟩

/-- Offset of RC_CNT_UNREC (05_read_channel.md R153). -/
def RC_CNT_UNREC : Nat := 0x1a004c
def RC_CNT_UNREC_COUNT : Fld := ⟨RC_CNT_UNREC, 31, 0⟩

/-- Offset of RC_CNT_LATE (05_read_channel.md R153). -/
def RC_CNT_LATE : Nat := 0x1a0050
def RC_CNT_LATE_COUNT : Fld := ⟨RC_CNT_LATE, 31, 0⟩

/-- Offset of RC_CNT_PRECHK (05_read_channel.md R153). -/
def RC_CNT_PRECHK : Nat := 0x1a0054
def RC_CNT_PRECHK_COUNT : Fld := ⟨RC_CNT_PRECHK, 31, 0⟩

/-! ### LE registers (R181) -/

/-- Offset of LE_LOAD (06_loop_engine.md R181). -/
def LE_LOAD : Nat := 0x80000
def LE_LOAD_GO : Fld := ⟨LE_LOAD, 31, 31⟩
def LE_LOAD_KIND : Fld := ⟨LE_LOAD, 27, 24⟩
def LE_LOAD_INDEX : Fld := ⟨LE_LOAD, 7, 0⟩

/-- Offset of LE_LOAD_STAT (06_loop_engine.md R181). -/
def LE_LOAD_STAT : Nat := 0x80004
def LE_LOAD_STAT_BUSY : Fld := ⟨LE_LOAD_STAT, 31, 31⟩
def LE_LOAD_STAT_OK : Fld := ⟨LE_LOAD_STAT, 30, 30⟩
def LE_LOAD_STAT_ERR : Fld := ⟨LE_LOAD_STAT, 23, 16⟩
def LE_LOAD_STAT_KIND : Fld := ⟨LE_LOAD_STAT, 15, 12⟩
def LE_LOAD_STAT_WHERE : Fld := ⟨LE_LOAD_STAT, 11, 0⟩

/-- Offset of LE_COEF_CTL (06_loop_engine.md R181). -/
def LE_COEF_CTL : Nat := 0x80008
def LE_COEF_CTL_BANK : Fld := ⟨LE_COEF_CTL, 16, 16⟩
def LE_COEF_CTL_SWAP : Fld := ⟨LE_COEF_CTL, 8, 8⟩
def LE_COEF_CTL_SET : Fld := ⟨LE_COEF_CTL, 5, 0⟩

/-- Offset of LE_USE (06_loop_engine.md R181). -/
def LE_USE : Nat := 0x8000c
def LE_USE_PEAK : Fld := ⟨LE_USE, 26, 16⟩
def LE_USE_LAST : Fld := ⟨LE_USE, 10, 0⟩

/-- Offset of LE_OVR_LO (06_loop_engine.md R181). -/
def LE_OVR_LO : Nat := 0x80010
def LE_OVR_LO_CUT : Fld := ⟨LE_OVR_LO, 31, 0⟩

/-- Offset of LE_OVR_HI (06_loop_engine.md R181). -/
def LE_OVR_HI : Nat := 0x80014
def LE_OVR_HI_LAST : Fld := ⟨LE_OVR_HI, 21, 16⟩
def LE_OVR_HI_CUT : Fld := ⟨LE_OVR_HI, 15, 0⟩

/-- Offset of LE_OVR_LOST (06_loop_engine.md R181). -/
def LE_OVR_LOST : Nat := 0x80018
def LE_OVR_LOST_EN_L : Fld := ⟨LE_OVR_LOST, 31, 24⟩
def LE_OVR_LOST_LAST_L : Fld := ⟨LE_OVR_LOST, 23, 16⟩
def LE_OVR_LOST_HI_L : Fld := ⟨LE_OVR_LOST, 15, 8⟩
def LE_OVR_LOST_LO_L : Fld := ⟨LE_OVR_LOST, 7, 0⟩

/-- Offset of LE_SAT_LO (06_loop_engine.md R181). -/
def LE_SAT_LO : Nat := 0x8001c
def LE_SAT_LO_SAT : Fld := ⟨LE_SAT_LO, 31, 0⟩

/-- Offset of LE_SAT_HI (06_loop_engine.md R181). -/
def LE_SAT_HI : Nat := 0x80020
def LE_SAT_HI_SAT : Fld := ⟨LE_SAT_HI, 15, 0⟩

/-- Offset of LE_ERR (06_loop_engine.md R181). -/
def LE_ERR : Nat := 0x80024
def LE_ERR_COUNT : Fld := ⟨LE_ERR, 31, 16⟩
def LE_ERR_PATCH : Fld := ⟨LE_ERR, 3, 3⟩
def LE_ERR_CMEM : Fld := ⟨LE_ERR, 2, 2⟩
def LE_ERR_DMEM : Fld := ⟨LE_ERR, 1, 1⟩
def LE_ERR_PMEM : Fld := ⟨LE_ERR, 0, 0⟩

/-- Offset of LE_ERR_ADDR (06_loop_engine.md R181). -/
def LE_ERR_ADDR : Nat := 0x80028
def LE_ERR_ADDR_MEM : Fld := ⟨LE_ERR_ADDR, 31, 30⟩
def LE_ERR_ADDR_ENTRY : Fld := ⟨LE_ERR_ADDR, 21, 16⟩
def LE_ERR_ADDR_ADDR : Fld := ⟨LE_ERR_ADDR, 13, 0⟩

/-- Offset of LE_EVT (06_loop_engine.md R181). -/
def LE_EVT : Nat := 0x8002c
def LE_EVT_COUNT : Fld := ⟨LE_EVT, 31, 16⟩
def LE_EVT_ENTRY : Fld := ⟨LE_EVT, 13, 8⟩
def LE_EVT_CODE : Fld := ⟨LE_EVT, 7, 0⟩

/-- Offset of LE_MISS_k (06_loop_engine.md R181). -/
def LE_MISS_k (k : Nat) : Nat := 0x80030 + 0x4 * k
def LE_MISS_k_MISS (k : Nat) (j : Nat) : Fld := ⟨LE_MISS_k k, 2 * j + 1, 2 * j + 0⟩

/-- Offset of LE_PSW_k (06_loop_engine.md R181). -/
def LE_PSW_k (k : Nat) : Nat := 0x80040 + 0x4 * k
def LE_PSW_k_FLAGS (k : Nat) : Fld := ⟨LE_PSW_k k, 7, 0⟩

/-- Offset of LE_PSW_LOST_k (06_loop_engine.md R181). -/
def LE_PSW_LOST_k (k : Nat) : Nat := 0x80080 + 0x4 * k
def LE_PSW_LOST_k_LOST (k : Nat) (j : Nat) : Fld := ⟨LE_PSW_LOST_k k, 4 * j + 3, 4 * j + 0⟩

/-- Offset of LE_PATCH_STAT (06_loop_engine.md R181). -/
def LE_PATCH_STAT : Nat := 0x800c0
def LE_PATCH_STAT_PVER : Fld := ⟨LE_PATCH_STAT, 31, 16⟩
def LE_PATCH_STAT_ROMREV : Fld := ⟨LE_PATCH_STAT, 15, 4⟩
def LE_PATCH_STAT_LOADED : Fld := ⟨LE_PATCH_STAT, 0, 0⟩

/-- Offset of LE_MATCH_k (06_loop_engine.md R181). -/
def LE_MATCH_k (k : Nat) : Nat := 0x80100 + 0x4 * k
def LE_MATCH_k_EN (k : Nat) : Fld := ⟨LE_MATCH_k k, 31, 31⟩
def LE_MATCH_k_PADDR (k : Nat) : Fld := ⟨LE_MATCH_k k, 25, 16⟩
def LE_MATCH_k_UADDR (k : Nat) : Fld := ⟨LE_MATCH_k k, 11, 0⟩

/-- Offset of LE_OPCOST_k (06_loop_engine.md R181). -/
def LE_OPCOST_k (k : Nat) : Nat := 0x80200 + 0x4 * k
def LE_OPCOST_k_PATCHED (k : Nat) : Fld := ⟨LE_OPCOST_k k, 15, 15⟩
def LE_OPCOST_k_BASE (k : Nat) : Fld := ⟨LE_OPCOST_k k, 7, 0⟩

/-- Offset of LE_SLOT_k_W0 (06_loop_engine.md R181). -/
def LE_SLOT_k_W0 (k : Nat) : Nat := 0x81000 + 0x8 * k
def LE_SLOT_k_W0_EN (k : Nat) : Fld := ⟨LE_SLOT_k_W0 k, 31, 31⟩
def LE_SLOT_k_W0_FIXED (k : Nat) : Fld := ⟨LE_SLOT_k_W0 k, 30, 30⟩
def LE_SLOT_k_W0_PROG (k : Nat) : Fld := ⟨LE_SLOT_k_W0 k, 23, 16⟩
def LE_SLOT_k_W0_DIV (k : Nat) : Fld := ⟨LE_SLOT_k_W0 k, 15, 8⟩
def LE_SLOT_k_W0_PHASE (k : Nat) : Fld := ⟨LE_SLOT_k_W0 k, 7, 0⟩

/-- Offset of LE_SLOT_k_W1 (06_loop_engine.md R181). -/
def LE_SLOT_k_W1 (k : Nat) : Nat := 0x81004 + 0x8 * k
def LE_SLOT_k_W1_OWNER (k : Nat) : Fld := ⟨LE_SLOT_k_W1 k, 31, 28⟩
def LE_SLOT_k_W1_BUDGET (k : Nat) : Fld := ⟨LE_SLOT_k_W1 k, 10, 0⟩

/-- Offset of LE_SLOTSH_k_W0 (06_loop_engine.md R181). -/
def LE_SLOTSH_k_W0 (k : Nat) : Nat := 0x81400 + 0x8 * k
def LE_SLOTSH_k_W0_EN (k : Nat) : Fld := ⟨LE_SLOTSH_k_W0 k, 31, 31⟩
def LE_SLOTSH_k_W0_FIXED (k : Nat) : Fld := ⟨LE_SLOTSH_k_W0 k, 30, 30⟩
def LE_SLOTSH_k_W0_PROG (k : Nat) : Fld := ⟨LE_SLOTSH_k_W0 k, 23, 16⟩
def LE_SLOTSH_k_W0_DIV (k : Nat) : Fld := ⟨LE_SLOTSH_k_W0 k, 15, 8⟩
def LE_SLOTSH_k_W0_PHASE (k : Nat) : Fld := ⟨LE_SLOTSH_k_W0 k, 7, 0⟩

/-- Offset of LE_SLOTSH_k_W1 (06_loop_engine.md R181). -/
def LE_SLOTSH_k_W1 (k : Nat) : Nat := 0x81404 + 0x8 * k
def LE_SLOTSH_k_W1_OWNER (k : Nat) : Fld := ⟨LE_SLOTSH_k_W1 k, 31, 28⟩
def LE_SLOTSH_k_W1_BUDGET (k : Nat) : Fld := ⟨LE_SLOTSH_k_W1 k, 10, 0⟩

/-- Offset of LE_PDESC_p_W0 (06_loop_engine.md R181). -/
def LE_PDESC_p_W0 (p : Nat) : Nat := 0x82000 + 0x10 * p
def LE_PDESC_p_W0_VALID (p : Nat) : Fld := ⟨LE_PDESC_p_W0 p, 31, 31⟩
def LE_PDESC_p_W0_LEN (p : Nat) : Fld := ⟨LE_PDESC_p_W0 p, 24, 12⟩
def LE_PDESC_p_W0_ENTRY (p : Nat) : Fld := ⟨LE_PDESC_p_W0 p, 11, 0⟩

/-- Offset of LE_PDESC_p_W1 (06_loop_engine.md R181). -/
def LE_PDESC_p_W1 (p : Nat) : Nat := 0x82004 + 0x10 * p
def LE_PDESC_p_W1_DBASE (p : Nat) : Fld := ⟨LE_PDESC_p_W1 p, 28, 16⟩
def LE_PDESC_p_W1_CBASE (p : Nat) : Fld := ⟨LE_PDESC_p_W1 p, 11, 0⟩

/-- Offset of LE_PDESC_p_W2 (06_loop_engine.md R181). -/
def LE_PDESC_p_W2 (p : Nat) : Nat := 0x82008 + 0x10 * p
def LE_PDESC_p_W2_NSTAGED (p : Nat) : Fld := ⟨LE_PDESC_p_W2 p, 31, 24⟩
def LE_PDESC_p_W2_WCET (p : Nat) : Fld := ⟨LE_PDESC_p_W2 p, 15, 0⟩

/-- Offset of LE_PDESC_p_W3 (06_loop_engine.md R181). -/
def LE_PDESC_p_W3 (p : Nat) : Nat := 0x8200c + 0x10 * p
def LE_PDESC_p_W3_ERR (p : Nat) : Fld := ⟨LE_PDESC_p_W3 p, 31, 24⟩
def LE_PDESC_p_W3_WHERE (p : Nat) : Fld := ⟨LE_PDESC_p_W3 p, 11, 0⟩

/-- Offset of LE_PMEM_i (06_loop_engine.md R181). -/
def LE_PMEM_i (i : Nat) : Nat := 0x84000 + 0x4 * i
def LE_PMEM_i_W (i : Nat) : Fld := ⟨LE_PMEM_i i, 31, 0⟩

/-- Offset of LE_DMEM_w (06_loop_engine.md R181). -/
def LE_DMEM_w (w : Nat) : Nat := 0x88000 + 0x4 * w
def LE_DMEM_w_W (w : Nat) : Fld := ⟨LE_DMEM_w w, 31, 0⟩

/-- Offset of LE_CMEM_q_c (06_loop_engine.md R181). -/
def LE_CMEM_q_c (q : Nat) (c : Nat) : Nat := 0x90000 + 0x4000 * q + 0x4 * c
def LE_CMEM_q_c_W (q : Nat) (c : Nat) : Fld := ⟨LE_CMEM_q_c q c, 31, 0⟩

/-- Offset of LE_PRAM_LO (06_loop_engine.md R181). -/
def LE_PRAM_LO (m : Nat) : Nat := 0xa0000 + 0x8 * m
def LE_PRAM_LO_W (m : Nat) : Fld := ⟨LE_PRAM_LO m, 31, 0⟩

/-- Offset of LE_PRAM_HI (06_loop_engine.md R181). -/
def LE_PRAM_HI (m : Nat) : Nat := 0xa0004 + 0x8 * m
def LE_PRAM_HI_W (m : Nat) : Fld := ⟨LE_PRAM_HI m, 15, 0⟩

/-- Offset of LE_PSTAGE (06_loop_engine.md R181). -/
def LE_PSTAGE (i : Nat) : Nat := 0xa4000 + 0x4 * i
def LE_PSTAGE_W (i : Nat) : Fld := ⟨LE_PSTAGE i, 31, 0⟩

/-! ### SFs registers (R204) -/

/-- Offset of SFs_CTL (07_servo_programs.md R204). -/
def SFs_CTL (s : Nat) : Nat := 0x100000 + 0x4000 * s
def SFs_CTL_WBLEN (s : Nat) : Fld := ⟨SFs_CTL s, 2, 2⟩
def SFs_CTL_DACEN (s : Nat) : Fld := ⟨SFs_CTL s, 1, 1⟩
def SFs_CTL_SMPEN (s : Nat) : Fld := ⟨SFs_CTL s, 0, 0⟩

/-- Offset of SFs_STAT (07_servo_programs.md R204). -/
def SFs_STAT (s : Nat) : Nat := 0x100004 + 0x4000 * s
def SFs_STAT_COIL_FLT (s : Nat) : Fld := ⟨SFs_STAT s, 5, 5⟩
def SFs_STAT_ADC_CLIP (s : Nat) : Fld := ⟨SFs_STAT s, 4, 4⟩
def SFs_STAT_DAC_LIM (s : Nat) : Fld := ⟨SFs_STAT s, 3, 1⟩

/-- Offset of SFs_INTLK (07_servo_programs.md R204). -/
def SFs_INTLK (s : Nat) : Nat := 0x100008 + 0x4000 * s
def SFs_INTLK_FORCE (s : Nat) : Fld := ⟨SFs_INTLK s, 2, 2⟩
def SFs_INTLK_MON (s : Nat) : Fld := ⟨SFs_INTLK s, 1, 1⟩
def SFs_INTLK_PUF (s : Nat) : Fld := ⟨SFs_INTLK s, 0, 0⟩

/-- Offset of SFs_DAC_LIM_k (07_servo_programs.md R204). -/
def SFs_DAC_LIM_k (s : Nat) (k : Nat) : Nat := 0x100010 + 0x4000 * s + 0x4 * k
def SFs_DAC_LIM_k_LIM (s : Nat) (k : Nat) : Fld := ⟨SFs_DAC_LIM_k s k, 8, 0⟩

/-- Offset of SFs_DAC_OUT_k (07_servo_programs.md R204). -/
def SFs_DAC_OUT_k (s : Nat) (k : Nat) : Nat := 0x100020 + 0x4000 * s + 0x4 * k
def SFs_DAC_OUT_k_CODE (s : Nat) (k : Nat) : Fld := ⟨SFs_DAC_OUT_k s k, 13, 0⟩

/-- Offset of SFs_ADC_OFS_k (07_servo_programs.md R204). -/
def SFs_ADC_OFS_k (s : Nat) (k : Nat) : Nat := 0x100040 + 0x4000 * s + 0x4 * k
def SFs_ADC_OFS_k_OFS (s : Nat) (k : Nat) : Fld := ⟨SFs_ADC_OFS_k s k, 13, 0⟩

/-- Offset of SFs_SMP_k (07_servo_programs.md R204). -/
def SFs_SMP_k (s : Nat) (k : Nat) : Nat := 0x100080 + 0x4000 * s + 0x4 * k
def SFs_SMP_k_CODE (s : Nat) (k : Nat) : Fld := ⟨SFs_SMP_k s k, 13, 0⟩

/-- Offset of SFs_WBL_CTL (07_servo_programs.md R204). -/
def SFs_WBL_CTL (s : Nat) : Nat := 0x1000c0 + 0x4000 * s
def SFs_WBL_CTL_POL (s : Nat) : Fld := ⟨SFs_WBL_CTL s, 9, 9⟩
def SFs_WBL_CTL_POLFIX (s : Nat) : Fld := ⟨SFs_WBL_CTL s, 8, 8⟩
def SFs_WBL_CTL_BW (s : Nat) : Fld := ⟨SFs_WBL_CTL s, 3, 0⟩

/-- Offset of SFs_WBL_STAT (07_servo_programs.md R204). -/
def SFs_WBL_STAT (s : Nat) : Nat := 0x1000c4 + 0x4000 * s
def SFs_WBL_STAT_SYNC (s : Nat) : Fld := ⟨SFs_WBL_STAT s, 2, 2⟩
def SFs_WBL_STAT_POLDET (s : Nat) : Fld := ⟨SFs_WBL_STAT s, 1, 1⟩
def SFs_WBL_STAT_LOCK (s : Nat) : Fld := ⟨SFs_WBL_STAT s, 0, 0⟩

/-- Offset of SFs_WADR (07_servo_programs.md R204). -/
def SFs_WADR (s : Nat) : Nat := 0x1000c8 + 0x4000 * s
def SFs_WADR_WADR (s : Nat) : Fld := ⟨SFs_WADR s, 31, 0⟩

/-- Offset of SFs_WCNT (07_servo_programs.md R204). -/
def SFs_WCNT (s : Nat) : Nat := 0x1000cc + 0x4000 * s
def SFs_WCNT_CRCERR (s : Nat) : Fld := ⟨SFs_WCNT s, 31, 16⟩
def SFs_WCNT_GOOD (s : Nat) : Fld := ⟨SFs_WCNT s, 15, 0⟩

/-- Offset of SFs_CNT_EVT (07_servo_programs.md R204). -/
def SFs_CNT_EVT (s : Nat) : Nat := 0x1000d0 + 0x4000 * s
def SFs_CNT_EVT_FDROP (s : Nat) : Fld := ⟨SFs_CNT_EVT s, 31, 24⟩
def SFs_CNT_EVT_OFFTRK (s : Nat) : Fld := ⟨SFs_CNT_EVT s, 23, 16⟩
def SFs_CNT_EVT_ALOST (s : Nat) : Fld := ⟨SFs_CNT_EVT s, 15, 8⟩
def SFs_CNT_EVT_FAIL (s : Nat) : Fld := ⟨SFs_CNT_EVT s, 7, 0⟩

/-! ### SPn registers (R227) -/

/-- Offset of SPn_CTL (08_spindle.md R227). -/
def SPn_CTL (n : Nat) : Nat := 0x120000 + 0x1000 * n
def SPn_CTL_STOPMODE (n : Nat) : Fld := ⟨SPn_CTL n, 1, 1⟩
def SPn_CTL_RUN (n : Nat) : Fld := ⟨SPn_CTL n, 0, 0⟩

/-- Offset of SPn_SPD_SET (08_spindle.md R227). -/
def SPn_SPD_SET (n : Nat) : Nat := 0x120004 + 0x1000 * n
def SPn_SPD_SET_RPM (n : Nat) : Fld := ⟨SPn_SPD_SET n, 13, 0⟩

/-- Offset of SPn_STAT (08_spindle.md R227). -/
def SPn_STAT (n : Nat) : Nat := 0x120008 + 0x1000 * n
def SPn_STAT_ATTEMPT (n : Nat) : Fld := ⟨SPn_STAT n, 15, 12⟩
def SPn_STAT_VCLAMP (n : Nat) : Fld := ⟨SPn_STAT n, 8, 8⟩
def SPn_STAT_RCAP (n : Nat) : Fld := ⟨SPn_STAT n, 7, 7⟩
def SPn_STAT_RLOSS (n : Nat) : Fld := ⟨SPn_STAT n, 6, 6⟩
def SPn_STAT_FAULT (n : Nat) : Fld := ⟨SPn_STAT n, 5, 5⟩
def SPn_STAT_LOCK (n : Nat) : Fld := ⟨SPn_STAT n, 4, 4⟩
def SPn_STAT_STATE (n : Nat) : Fld := ⟨SPn_STAT n, 3, 0⟩

/-- Offset of SPn_FAULT (08_spindle.md R227). -/
def SPn_FAULT (n : Nat) : Nat := 0x12000c + 0x1000 * n
def SPn_FAULT_OTP (n : Nat) : Fld := ⟨SPn_FAULT n, 3, 3⟩
def SPn_FAULT_OCP (n : Nat) : Fld := ⟨SPn_FAULT n, 2, 2⟩
def SPn_FAULT_BRK_TO (n : Nat) : Fld := ⟨SPn_FAULT n, 1, 1⟩
def SPn_FAULT_START (n : Nat) : Fld := ⟨SPn_FAULT n, 0, 0⟩

/-- Offset of SPn_SHUNT (08_spindle.md R227). -/
def SPn_SHUNT (n : Nat) : Nat := 0x120010 + 0x1000 * n
def SPn_SHUNT_RSH (n : Nat) : Fld := ⟨SPn_SHUNT n, 31, 24⟩
def SPn_SHUNT_SMP_DLY (n : Nat) : Fld := ⟨SPn_SHUNT n, 23, 12⟩
def SPn_SHUNT_TMIN (n : Nat) : Fld := ⟨SPn_SHUNT n, 11, 0⟩

/-- Offset of SPn_SHUNT_OFS (08_spindle.md R227). -/
def SPn_SHUNT_OFS (n : Nat) : Nat := 0x120014 + 0x1000 * n
def SPn_SHUNT_OFS_OFS (n : Nat) : Fld := ⟨SPn_SHUNT_OFS n, 11, 0⟩

/-- Offset of SPn_START (08_spindle.md R227). -/
def SPn_START (n : Nat) : Nat := 0x120018 + 0x1000 * n
def SPn_START_ALIGN_I (n : Nat) : Fld := ⟨SPn_START n, 31, 24⟩
def SPn_START_ALIGN_T (n : Nat) : Fld := ⟨SPn_START n, 23, 16⟩
def SPn_START_RAMP_T (n : Nat) : Fld := ⟨SPn_START n, 15, 8⟩
def SPn_START_BRIEF_T (n : Nat) : Fld := ⟨SPn_START n, 7, 0⟩

/-- Offset of SPn_LIMITS (08_spindle.md R227). -/
def SPn_LIMITS (n : Nat) : Nat := 0x12001c + 0x1000 * n
def SPn_LIMITS_IQ_MAX (n : Nat) : Fld := ⟨SPn_LIMITS n, 31, 24⟩
def SPn_LIMITS_DEC_IQ (n : Nat) : Fld := ⟨SPn_LIMITS n, 23, 16⟩
def SPn_LIMITS_BRK_ILIM (n : Nat) : Fld := ⟨SPn_LIMITS n, 15, 8⟩
def SPn_LIMITS_ACC_PWR (n : Nat) : Fld := ⟨SPn_LIMITS n, 7, 0⟩

/-- Offset of SPn_RLOSS (08_spindle.md R227). -/
def SPn_RLOSS (n : Nat) : Nat := 0x120020 + 0x1000 * n
def SPn_RLOSS_CATCH_T (n : Nat) : Fld := ⟨SPn_RLOSS n, 23, 16⟩
def SPn_RLOSS_RES_N (n : Nat) : Fld := ⟨SPn_RLOSS n, 11, 8⟩
def SPn_RLOSS_RES_LIM (n : Nat) : Fld := ⟨SPn_RLOSS n, 7, 0⟩

/-- Offset of SPn_BRAKE (08_spindle.md R227). -/
def SPn_BRAKE (n : Nat) : Nat := 0x120024 + 0x1000 * n
def SPn_BRAKE_BRK_TO (n : Nat) : Fld := ⟨SPn_BRAKE n, 31, 16⟩
def SPn_BRAKE_VCLAMP (n : Nat) : Fld := ⟨SPn_BRAKE n, 15, 8⟩
def SPn_BRAKE_VREL (n : Nat) : Fld := ⟨SPn_BRAKE n, 7, 0⟩

/-- Offset of SPn_COAST (08_spindle.md R227). -/
def SPn_COAST (n : Nat) : Nat := 0x120028 + 0x1000 * n
def SPn_COAST_SPD (n : Nat) : Fld := ⟨SPn_COAST n, 31, 16⟩
def SPn_COAST_XCNT (n : Nat) : Fld := ⟨SPn_COAST n, 7, 0⟩

/-- Offset of SPn_MEAS (08_spindle.md R227). -/
def SPn_MEAS (n : Nat) : Nat := 0x12002c + 0x1000 * n
def SPn_MEAS_RPM (n : Nat) : Fld := ⟨SPn_MEAS n, 31, 16⟩
def SPn_MEAS_VBUS (n : Nat) : Fld := ⟨SPn_MEAS n, 15, 0⟩

/-- Offset of SPn_CNT (08_spindle.md R227). -/
def SPn_CNT (n : Nat) : Nat := 0x120030 + 0x1000 * n
def SPn_CNT_RLOSS (n : Nat) : Fld := ⟨SPn_CNT n, 31, 24⟩
def SPn_CNT_CATCH (n : Nat) : Fld := ⟨SPn_CNT n, 23, 16⟩
def SPn_CNT_SFAIL (n : Nat) : Fld := ⟨SPn_CNT n, 15, 8⟩
def SPn_CNT_BRAKE (n : Nat) : Fld := ⟨SPn_CNT n, 7, 0⟩

/-- Offset of SPn_SKIP (08_spindle.md R227). -/
def SPn_SKIP (n : Nat) : Nat := 0x120034 + 0x1000 * n
def SPn_SKIP_COUNT (n : Nat) : Fld := ⟨SPn_SKIP n, 15, 0⟩

/-! ### AXa registers (R247) -/

/-- Offset of AXa_CTL (09_motion_axes.md R247). -/
def AXa_CTL (a : Nat) : Nat := 0x130000 + 0x400 * a
def AXa_CTL_ENC_INV (a : Nat) : Fld := ⟨AXa_CTL a, 11, 11⟩
def AXa_CTL_HDIR (a : Nat) : Fld := ⟨AXa_CTL a, 10, 10⟩
def AXa_CTL_HMODE (a : Nat) : Fld := ⟨AXa_CTL a, 9, 9⟩
def AXa_CTL_ADAPT (a : Nat) : Fld := ⟨AXa_CTL a, 8, 8⟩
def AXa_CTL_SMODE (a : Nat) : Fld := ⟨AXa_CTL a, 5, 4⟩
def AXa_CTL_HOME (a : Nat) : Fld := ⟨AXa_CTL a, 2, 2⟩
def AXa_CTL_HALT (a : Nat) : Fld := ⟨AXa_CTL a, 1, 1⟩
def AXa_CTL_EN (a : Nat) : Fld := ⟨AXa_CTL a, 0, 0⟩

/-- Offset of AXa_STAT (09_motion_axes.md R247). -/
def AXa_STAT (a : Nat) : Nat := 0x130004 + 0x400 * a
def AXa_STAT_HOMESW (a : Nat) : Fld := ⟨AXa_STAT a, 12, 12⟩
def AXa_STAT_RES_M (a : Nat) : Fld := ⟨AXa_STAT a, 11, 8⟩
def AXa_STAT_FAULT (a : Nat) : Fld := ⟨AXa_STAT a, 6, 6⟩
def AXa_STAT_HOMING (a : Nat) : Fld := ⟨AXa_STAT a, 5, 5⟩
def AXa_STAT_HOMED (a : Nat) : Fld := ⟨AXa_STAT a, 4, 4⟩
def AXa_STAT_FWAIT (a : Nat) : Fld := ⟨AXa_STAT a, 3, 3⟩
def AXa_STAT_DONE (a : Nat) : Fld := ⟨AXa_STAT a, 2, 2⟩
def AXa_STAT_ATTGT (a : Nat) : Fld := ⟨AXa_STAT a, 1, 1⟩
def AXa_STAT_MOVING (a : Nat) : Fld := ⟨AXa_STAT a, 0, 0⟩

/-- Offset of AXa_FAULT (09_motion_axes.md R247). -/
def AXa_FAULT (a : Nat) : Nat := 0x130008 + 0x400 * a
def AXa_FAULT_COIL (a : Nat) : Fld := ⟨AXa_FAULT a, 4, 4⟩
def AXa_FAULT_HOMEFAIL (a : Nat) : Fld := ⟨AXa_FAULT a, 3, 3⟩
def AXa_FAULT_LIMIT (a : Nat) : Fld := ⟨AXa_FAULT a, 2, 2⟩
def AXa_FAULT_SWITCH (a : Nat) : Fld := ⟨AXa_FAULT a, 1, 1⟩
def AXa_FAULT_STALL (a : Nat) : Fld := ⟨AXa_FAULT a, 0, 0⟩

/-- Offset of AXa_TGT (09_motion_axes.md R247). -/
def AXa_TGT (a : Nat) : Nat := 0x13000c + 0x400 * a
def AXa_TGT_TGT (a : Nat) : Fld := ⟨AXa_TGT a, 31, 0⟩

/-- Offset of AXa_REL (09_motion_axes.md R247). -/
def AXa_REL (a : Nat) : Nat := 0x130010 + 0x400 * a
def AXa_REL_REL (a : Nat) : Fld := ⟨AXa_REL a, 31, 0⟩

/-- Offset of AXa_FOLLOW_TGT (09_motion_axes.md R247). -/
def AXa_FOLLOW_TGT (a : Nat) : Nat := 0x130014 + 0x400 * a
def AXa_FOLLOW_TGT_FTGT (a : Nat) : Fld := ⟨AXa_FOLLOW_TGT a, 31, 0⟩

/-- Offset of AXa_POS (09_motion_axes.md R247). -/
def AXa_POS (a : Nat) : Nat := 0x130018 + 0x400 * a
def AXa_POS_POS (a : Nat) : Fld := ⟨AXa_POS a, 31, 0⟩

/-- Offset of AXa_VEL (09_motion_axes.md R247). -/
def AXa_VEL (a : Nat) : Nat := 0x13001c + 0x400 * a
def AXa_VEL_VEL (a : Nat) : Fld := ⟨AXa_VEL a, 31, 0⟩

/-- Offset of AXa_VMAX (09_motion_axes.md R247). -/
def AXa_VMAX (a : Nat) : Nat := 0x130020 + 0x400 * a
def AXa_VMAX_VMAX (a : Nat) : Fld := ⟨AXa_VMAX a, 31, 0⟩

/-- Offset of AXa_AMAX (09_motion_axes.md R247). -/
def AXa_AMAX (a : Nat) : Nat := 0x130024 + 0x400 * a
def AXa_AMAX_AMAX (a : Nat) : Fld := ⟨AXa_AMAX a, 31, 0⟩

/-- Offset of AXa_JMAX (09_motion_axes.md R247). -/
def AXa_JMAX (a : Nat) : Nat := 0x130028 + 0x400 * a
def AXa_JMAX_JMAX (a : Nat) : Fld := ⟨AXa_JMAX a, 31, 0⟩

/-- Offset of AXa_AEMG (09_motion_axes.md R247). -/
def AXa_AEMG (a : Nat) : Nat := 0x13002c + 0x400 * a
def AXa_AEMG_AEMG (a : Nat) : Fld := ⟨AXa_AEMG a, 31, 0⟩

/-- Offset of AXa_SLIM_LO (09_motion_axes.md R247). -/
def AXa_SLIM_LO (a : Nat) : Nat := 0x130030 + 0x400 * a
def AXa_SLIM_LO_LIM (a : Nat) : Fld := ⟨AXa_SLIM_LO a, 31, 0⟩

/-- Offset of AXa_SLIM_HI (09_motion_axes.md R247). -/
def AXa_SLIM_HI (a : Nat) : Nat := 0x130034 + 0x400 * a
def AXa_SLIM_HI_LIM (a : Nat) : Fld := ⟨AXa_SLIM_HI a, 31, 0⟩

/-- Offset of AXa_CUR (09_motion_axes.md R247). -/
def AXa_CUR (a : Nat) : Nat := 0x130038 + 0x400 * a
def AXa_CUR_IRUN (a : Nat) : Fld := ⟨AXa_CUR a, 31, 24⟩
def AXa_CUR_IHOLD (a : Nat) : Fld := ⟨AXa_CUR a, 23, 16⟩
def AXa_CUR_IMIN (a : Nat) : Fld := ⟨AXa_CUR a, 15, 8⟩

/-- Offset of AXa_TIME (09_motion_axes.md R247). -/
def AXa_TIME (a : Nat) : Nat := 0x13003c + 0x400 * a
def AXa_TIME_HOLD_T (a : Nat) : Fld := ⟨AXa_TIME a, 31, 16⟩
def AXa_TIME_SETTLE_T (a : Nat) : Fld := ⟨AXa_TIME a, 15, 0⟩

/-- Offset of AXa_RES (09_motion_axes.md R247). -/
def AXa_RES (a : Nat) : Nat := 0x130040 + 0x400 * a
def AXa_RES_VRES0 (a : Nat) : Fld := ⟨AXa_RES a, 15, 0⟩

/-- Offset of AXa_HOME_V (09_motion_axes.md R247). -/
def AXa_HOME_V (a : Nat) : Nat := 0x130044 + 0x400 * a
def AXa_HOME_V_HOME_V (a : Nat) : Fld := ⟨AXa_HOME_V a, 31, 16⟩
def AXa_HOME_V_CREEP_V (a : Nat) : Fld := ⟨AXa_HOME_V a, 15, 0⟩

/-- Offset of AXa_HOME_POS (09_motion_axes.md R247). -/
def AXa_HOME_POS (a : Nat) : Nat := 0x130048 + 0x400 * a
def AXa_HOME_POS_HPOS (a : Nat) : Fld := ⟨AXa_HOME_POS a, 31, 0⟩

/-- Offset of AXa_HOME_MAX (09_motion_axes.md R247). -/
def AXa_HOME_MAX (a : Nat) : Nat := 0x13004c + 0x400 * a
def AXa_HOME_MAX_HMAX (a : Nat) : Fld := ⟨AXa_HOME_MAX a, 31, 0⟩

/-- Offset of AXa_BACKOFF (09_motion_axes.md R247). -/
def AXa_BACKOFF (a : Nat) : Nat := 0x130050 + 0x400 * a
def AXa_BACKOFF_BACKOFF (a : Nat) : Fld := ⟨AXa_BACKOFF a, 15, 0⟩

/-- Offset of AXa_STALL (09_motion_axes.md R247). -/
def AXa_STALL (a : Nat) : Nat := 0x130054 + 0x400 * a
def AXa_STALL_EWIN (a : Nat) : Fld := ⟨AXa_STALL a, 31, 16⟩
def AXa_STALL_SG_THR (a : Nat) : Fld := ⟨AXa_STALL a, 15, 8⟩
def AXa_STALL_SN (a : Nat) : Fld := ⟨AXa_STALL a, 7, 0⟩

/-- Offset of AXa_SGV (09_motion_axes.md R247). -/
def AXa_SGV (a : Nat) : Nat := 0x130058 + 0x400 * a
def AXa_SGV_SG_VMIN (a : Nat) : Fld := ⟨AXa_SGV a, 15, 0⟩

/-- Offset of AXa_ENC_K (09_motion_axes.md R247). -/
def AXa_ENC_K (a : Nat) : Nat := 0x13005c + 0x400 * a
def AXa_ENC_K_ENC_K (a : Nat) : Fld := ⟨AXa_ENC_K a, 31, 0⟩

/-- Offset of AXa_ENC (09_motion_axes.md R247). -/
def AXa_ENC (a : Nat) : Nat := 0x130060 + 0x400 * a
def AXa_ENC_ENC (a : Nat) : Fld := ⟨AXa_ENC a, 31, 0⟩

/-- Offset of AXa_LOAD (09_motion_axes.md R247). -/
def AXa_LOAD (a : Nat) : Nat := 0x130064 + 0x400 * a
def AXa_LOAD_CUR (a : Nat) : Fld := ⟨AXa_LOAD a, 15, 8⟩
def AXa_LOAD_LOADM (a : Nat) : Fld := ⟨AXa_LOAD a, 7, 0⟩

/-- Offset of AXa_CNT (09_motion_axes.md R247). -/
def AXa_CNT (a : Nat) : Nat := 0x130068 + 0x400 * a
def AXa_CNT_STALLS (a : Nat) : Fld := ⟨AXa_CNT a, 31, 24⟩
def AXa_CNT_FREPL (a : Nat) : Fld := ⟨AXa_CNT a, 23, 16⟩
def AXa_CNT_IGN (a : Nat) : Fld := ⟨AXa_CNT a, 15, 8⟩
def AXa_CNT_CLAMP (a : Nat) : Fld := ⟨AXa_CNT a, 7, 0⟩

/-! ### MZ registers (R493, R248) -/

/-- Offset of MZ_SW (09_motion_axes.md R248). -/
def MZ_SW : Nat := 0x220200
def MZ_SW_FORCED : Fld := ⟨MZ_SW, 10, 10⟩
def MZ_SW_CHAT_C : Fld := ⟨MZ_SW, 9, 9⟩
def MZ_SW_CHAT_D : Fld := ⟨MZ_SW, 8, 8⟩
def MZ_SW_CLAMP_RAW : Fld := ⟨MZ_SW, 3, 3⟩
def MZ_SW_DOOR_RAW : Fld := ⟨MZ_SW, 2, 2⟩
def MZ_SW_CLAMP : Fld := ⟨MZ_SW, 1, 1⟩
def MZ_SW_DOOR : Fld := ⟨MZ_SW, 0, 0⟩

/-- Offset of MZ_LOCK (09_motion_axes.md R248). -/
def MZ_LOCK : Nat := 0x220204
def MZ_LOCK_LOCK : Fld := ⟨MZ_LOCK, 0, 0⟩

/-- Offset of MZ_LDR_POS (09_motion_axes.md R248). -/
def MZ_LDR_POS : Nat := 0x220208
def MZ_LDR_POS_CLAMP_POS : Fld := ⟨MZ_LDR_POS, 31, 20⟩
def MZ_LDR_POS_SHUT_POS : Fld := ⟨MZ_LDR_POS, 19, 8⟩
def MZ_LDR_POS_CLAMP_WIN : Fld := ⟨MZ_LDR_POS, 7, 0⟩

/-! ### HQ registers (R277) -/

/-- Offset of HQ_CTL (10_host_queues.md R277). -/
def HQ_CTL : Nat := 0x40000
def HQ_CTL_BURST : Fld := ⟨HQ_CTL, 11, 8⟩
def HQ_CTL_RO_EN : Fld := ⟨HQ_CTL, 4, 4⟩
def HQ_CTL_ARBMODE : Fld := ⟨HQ_CTL, 1, 1⟩
def HQ_CTL_EN : Fld := ⟨HQ_CTL, 0, 0⟩

/-- Offset of HQ_STAT (10_host_queues.md R277). -/
def HQ_STAT : Nat := 0x40004
def HQ_STAT_TAGS : Fld := ⟨HQ_STAT, 28, 16⟩
def HQ_STAT_LOCKWAIT : Fld := ⟨HQ_STAT, 3, 3⟩
def HQ_STAT_TAGWAIT : Fld := ⟨HQ_STAT, 2, 2⟩
def HQ_STAT_CFS : Fld := ⟨HQ_STAT, 1, 1⟩
def HQ_STAT_RDY : Fld := ⟨HQ_STAT, 0, 0⟩

/-- Offset of HQ_AQ_SIZE (10_host_queues.md R277). -/
def HQ_AQ_SIZE : Nat := 0x40008
def HQ_AQ_SIZE_ACQS : Fld := ⟨HQ_AQ_SIZE, 27, 16⟩
def HQ_AQ_SIZE_ASQS : Fld := ⟨HQ_AQ_SIZE, 11, 0⟩

/-- Offset of HQ_ASQ_LO (10_host_queues.md R277). -/
def HQ_ASQ_LO : Nat := 0x40010
def HQ_ASQ_LO_BASE : Fld := ⟨HQ_ASQ_LO, 31, 12⟩

/-- Offset of HQ_ASQ_HI (10_host_queues.md R277). -/
def HQ_ASQ_HI : Nat := 0x40014
def HQ_ASQ_HI_BASE : Fld := ⟨HQ_ASQ_HI, 31, 0⟩

/-- Offset of HQ_ACQ_LO (10_host_queues.md R277). -/
def HQ_ACQ_LO : Nat := 0x40018
def HQ_ACQ_LO_BASE : Fld := ⟨HQ_ACQ_LO, 31, 12⟩

/-- Offset of HQ_ACQ_HI (10_host_queues.md R277). -/
def HQ_ACQ_HI : Nat := 0x4001c
def HQ_ACQ_HI_BASE : Fld := ⟨HQ_ACQ_HI, 31, 0⟩

/-- Offset of HQ_CLASS_W (10_host_queues.md R277). -/
def HQ_CLASS_W : Nat := 0x40020
def HQ_CLASS_W_W3 : Fld := ⟨HQ_CLASS_W, 31, 24⟩
def HQ_CLASS_W_W2 : Fld := ⟨HQ_CLASS_W, 23, 16⟩
def HQ_CLASS_W_W1 : Fld := ⟨HQ_CLASS_W, 15, 8⟩
def HQ_CLASS_W_W0 : Fld := ⟨HQ_CLASS_W, 7, 0⟩

/-- Offset of HQ_LINK (10_host_queues.md R277). -/
def HQ_LINK : Nat := 0x40024
def HQ_LINK_PMSTATE : Fld := ⟨HQ_LINK, 17, 16⟩
def HQ_LINK_SLOW : Fld := ⟨HQ_LINK, 10, 10⟩
def HQ_LINK_WIDTH : Fld := ⟨HQ_LINK, 9, 4⟩
def HQ_LINK_SPEED : Fld := ⟨HQ_LINK, 3, 0⟩

/-- Offset of HQ_LOCKS (10_host_queues.md R277). -/
def HQ_LOCKS : Nat := 0x40028
def HQ_LOCKS_PEAK : Fld := ⟨HQ_LOCKS, 26, 16⟩
def HQ_LOCKS_USED : Fld := ⟨HQ_LOCKS, 10, 0⟩

/-- Offset of HQ_DBERR (10_host_queues.md R277). -/
def HQ_DBERR : Nat := 0x4002c
def HQ_DBERR_VALID : Fld := ⟨HQ_DBERR, 31, 31⟩
def HQ_DBERR_KIND : Fld := ⟨HQ_DBERR, 30, 28⟩
def HQ_DBERR_CQ : Fld := ⟨HQ_DBERR, 27, 27⟩
def HQ_DBERR_PAIR : Fld := ⟨HQ_DBERR, 22, 16⟩
def HQ_DBERR_VALUE : Fld := ⟨HQ_DBERR, 11, 0⟩

/-- Offset of HQ_ELOG_CNT (10_host_queues.md R277). -/
def HQ_ELOG_CNT : Nat := 0x40030
def HQ_ELOG_CNT_COUNT : Fld := ⟨HQ_ELOG_CNT, 31, 0⟩

/-- Offset of HQ_CNT_FETCH (10_host_queues.md R277). -/
def HQ_CNT_FETCH : Nat := 0x40034
def HQ_CNT_FETCH_COUNT : Fld := ⟨HQ_CNT_FETCH, 31, 0⟩

/-- Offset of HQ_CNT_CPL (10_host_queues.md R277). -/
def HQ_CNT_CPL : Nat := 0x40038
def HQ_CNT_CPL_COUNT : Fld := ⟨HQ_CNT_CPL, 31, 0⟩

/-- Offset of HQ_CNT_ERR (10_host_queues.md R277). -/
def HQ_CNT_ERR : Nat := 0x4003c
def HQ_CNT_ERR_COUNT : Fld := ⟨HQ_CNT_ERR, 31, 0⟩

/-- Offset of HQ_FROZEN_k (10_host_queues.md R277). -/
def HQ_FROZEN_k (k : Nat) : Nat := 0x40040 + 0x4 * k
def HQ_FROZEN_k_FROZEN (k : Nat) : Fld := ⟨HQ_FROZEN_k k, 31, 0⟩

/-- Offset of HQ_PAIR_k (10_host_queues.md R277). -/
def HQ_PAIR_k (k : Nat) : Nat := 0x40050 + 0x4 * k
def HQ_PAIR_k_EXISTS (k : Nat) : Fld := ⟨HQ_PAIR_k k, 31, 0⟩

/-- Offset of HQ_Pq_CFG (10_host_queues.md R277). -/
def HQ_Pq_CFG (q : Nat) : Nat := 0x41000 + 0x10 * q
def HQ_Pq_CFG_CQS (q : Nat) : Fld := ⟨HQ_Pq_CFG q, 27, 16⟩
def HQ_Pq_CFG_SQS (q : Nat) : Fld := ⟨HQ_Pq_CFG q, 11, 0⟩

/-- Offset of HQ_Pq_SQ (10_host_queues.md R277). -/
def HQ_Pq_SQ (q : Nat) : Nat := 0x41004 + 0x10 * q
def HQ_Pq_SQ_TAIL (q : Nat) : Fld := ⟨HQ_Pq_SQ q, 27, 16⟩
def HQ_Pq_SQ_HEAD (q : Nat) : Fld := ⟨HQ_Pq_SQ q, 11, 0⟩

/-- Offset of HQ_Pq_CQ (10_host_queues.md R277). -/
def HQ_Pq_CQ (q : Nat) : Nat := 0x41008 + 0x10 * q
def HQ_Pq_CQ_PHASE (q : Nat) : Fld := ⟨HQ_Pq_CQ q, 31, 31⟩
def HQ_Pq_CQ_HEAD (q : Nat) : Fld := ⟨HQ_Pq_CQ q, 27, 16⟩
def HQ_Pq_CQ_TAIL (q : Nat) : Fld := ⟨HQ_Pq_CQ q, 11, 0⟩

/-- Offset of HQ_Pq_ATTR (10_host_queues.md R277). -/
def HQ_Pq_ATTR (q : Nat) : Nat := 0x4100c + 0x10 * q
def HQ_Pq_ATTR_CLASS (q : Nat) : Fld := ⟨HQ_Pq_ATTR q, 30, 28⟩
def HQ_Pq_ATTR_VEC (q : Nat) : Fld := ⟨HQ_Pq_ATTR q, 22, 16⟩
def HQ_Pq_ATTR_OUT (q : Nat) : Fld := ⟨HQ_Pq_ATTR q, 12, 0⟩

/-! ### PT registers (R367) -/

/-- Offset of PT_CTL (13_peat_staging.md R367). -/
def PT_CTL : Nat := 0x1c0000
def PT_CTL_ARB : Fld := ⟨PT_CTL, 3, 3⟩
def PT_CTL_BGEN : Fld := ⟨PT_CTL, 2, 2⟩
def PT_CTL_DYKE : Fld := ⟨PT_CTL, 1, 1⟩
def PT_CTL_EN : Fld := ⟨PT_CTL, 0, 0⟩

/-- Offset of PT_STAT (13_peat_staging.md R367). -/
def PT_STAT : Nat := 0x1c0004
def PT_STAT_QERR : Fld := ⟨PT_STAT, 6, 6⟩
def PT_STAT_JFULL : Fld := ⟨PT_STAT, 5, 5⟩
def PT_STAT_RMODE : Fld := ⟨PT_STAT, 4, 4⟩
def PT_STAT_STOP : Fld := ⟨PT_STAT, 3, 3⟩
def PT_STAT_HOT : Fld := ⟨PT_STAT, 2, 2⟩
def PT_STAT_RECOV : Fld := ⟨PT_STAT, 1, 1⟩
def PT_STAT_READY : Fld := ⟨PT_STAT, 0, 0⟩

/-- Offset of PT_DQ_BASE_LO (13_peat_staging.md R367). -/
def PT_DQ_BASE_LO : Nat := 0x1c0008
def PT_DQ_BASE_LO_BASE : Fld := ⟨PT_DQ_BASE_LO, 31, 6⟩

/-- Offset of PT_DQ_BASE_HI (13_peat_staging.md R367). -/
def PT_DQ_BASE_HI : Nat := 0x1c000c
def PT_DQ_BASE_HI_BASE : Fld := ⟨PT_DQ_BASE_HI, 31, 0⟩

/-- Offset of PT_CQ_BASE_LO (13_peat_staging.md R367). -/
def PT_CQ_BASE_LO : Nat := 0x1c0010
def PT_CQ_BASE_LO_BASE : Fld := ⟨PT_CQ_BASE_LO, 31, 6⟩

/-- Offset of PT_CQ_BASE_HI (13_peat_staging.md R367). -/
def PT_CQ_BASE_HI : Nat := 0x1c0014
def PT_CQ_BASE_HI_BASE : Fld := ⟨PT_CQ_BASE_HI, 31, 0⟩

/-- Offset of PT_Q_SIZE (13_peat_staging.md R367). -/
def PT_Q_SIZE : Nat := 0x1c0018
def PT_Q_SIZE_SIZE : Fld := ⟨PT_Q_SIZE, 11, 0⟩

/-- Offset of PT_DQ_RSV (13_peat_staging.md R367). -/
def PT_DQ_RSV : Nat := 0x1c001c
def PT_DQ_RSV_FULL : Fld := ⟨PT_DQ_RSV, 31, 31⟩
def PT_DQ_RSV_PH : Fld := ⟨PT_DQ_RSV, 12, 12⟩
def PT_DQ_RSV_SLOT : Fld := ⟨PT_DQ_RSV, 11, 0⟩

/-- Offset of PT_DQ_KICK (13_peat_staging.md R367). -/
def PT_DQ_KICK : Nat := 0x1c0020

/-- Offset of PT_DQ_HEAD (13_peat_staging.md R367). -/
def PT_DQ_HEAD : Nat := 0x1c0024
def PT_DQ_HEAD_PH : Fld := ⟨PT_DQ_HEAD, 12, 12⟩
def PT_DQ_HEAD_HEAD : Fld := ⟨PT_DQ_HEAD, 11, 0⟩

/-- Offset of PT_CQ_HEAD (13_peat_staging.md R367). -/
def PT_CQ_HEAD : Nat := 0x1c0028
def PT_CQ_HEAD_HEAD : Fld := ⟨PT_CQ_HEAD, 11, 0⟩

/-- Offset of PT_CQ_TAIL (13_peat_staging.md R367). -/
def PT_CQ_TAIL : Nat := 0x1c002c
def PT_CQ_TAIL_PH : Fld := ⟨PT_CQ_TAIL, 12, 12⟩
def PT_CQ_TAIL_TAIL : Fld := ⟨PT_CQ_TAIL, 11, 0⟩

/-- Offset of PT_THR (13_peat_staging.md R367). -/
def PT_THR : Nat := 0x1c0030
def PT_THR_WARN : Fld := ⟨PT_THR, 31, 24⟩
def PT_THR_RR_MAX : Fld := ⟨PT_THR, 23, 20⟩
def PT_THR_WCNT : Fld := ⟨PT_THR, 19, 16⟩
def PT_THR_RSV_TO : Fld := ⟨PT_THR, 15, 0⟩

/-- Offset of PT_TEMP (13_peat_staging.md R367). -/
def PT_TEMP : Nat := 0x1c0034
def PT_TEMP_TEMP : Fld := ⟨PT_TEMP, 15, 0⟩

/-- Offset of PT_HEALTH (13_peat_staging.md R367). -/
def PT_HEALTH : Nat := 0x1c0038
def PT_HEALTH_HR : Fld := ⟨PT_HEALTH, 23, 16⟩
def PT_HEALTH_HW : Fld := ⟨PT_HEALTH, 15, 8⟩
def PT_HEALTH_HEALTH : Fld := ⟨PT_HEALTH, 7, 0⟩

/-- Offset of PT_POOL (13_peat_staging.md R367). -/
def PT_POOL : Nat := 0x1c003c
def PT_POOL_FREE_MIN : Fld := ⟨PT_POOL, 31, 16⟩
def PT_POOL_DUMP_MIN : Fld := ⟨PT_POOL, 7, 0⟩

/-- Offset of PT_JSEQ_LO (13_peat_staging.md R367). -/
def PT_JSEQ_LO : Nat := 0x1c0040
def PT_JSEQ_LO_JSEQ : Fld := ⟨PT_JSEQ_LO, 31, 0⟩

/-- Offset of PT_JSEQ_HI (13_peat_staging.md R367). -/
def PT_JSEQ_HI : Nat := 0x1c0044
def PT_JSEQ_HI_JSEQ : Fld := ⟨PT_JSEQ_HI, 31, 0⟩

/-- Offset of PT_JRNL (13_peat_staging.md R367). -/
def PT_JRNL : Nat := 0x1c0048
def PT_JRNL_FREE : Fld := ⟨PT_JRNL, 7, 0⟩

/-- Offset of PT_DIE_FAIL (13_peat_staging.md R367). -/
def PT_DIE_FAIL : Nat := 0x1c004c
def PT_DIE_FAIL_FAIL : Fld := ⟨PT_DIE_FAIL, 31, 0⟩

/-- Offset of PT_DIE_BUSY (13_peat_staging.md R367). -/
def PT_DIE_BUSY : Nat := 0x1c0050
def PT_DIE_BUSY_BUSY : Fld := ⟨PT_DIE_BUSY, 31, 0⟩

/-- Offset of PT_RECOV (13_peat_staging.md R367). -/
def PT_RECOV : Nat := 0x1c0054
def PT_RECOV_REERASE : Fld := ⟨PT_RECOV, 23, 16⟩
def PT_RECOV_REBUILT : Fld := ⟨PT_RECOV, 15, 0⟩

/-- Offset of PT_CNT_RD (13_peat_staging.md R367). -/
def PT_CNT_RD : Nat := 0x1c0060
def PT_CNT_RD_COUNT : Fld := ⟨PT_CNT_RD, 31, 0⟩

/-- Offset of PT_CNT_PG (13_peat_staging.md R367). -/
def PT_CNT_PG : Nat := 0x1c0064
def PT_CNT_PG_COUNT : Fld := ⟨PT_CNT_PG, 31, 0⟩

/-- Offset of PT_CNT_ER (13_peat_staging.md R367). -/
def PT_CNT_ER : Nat := 0x1c0068
def PT_CNT_ER_COUNT : Fld := ⟨PT_CNT_ER, 31, 0⟩

/-- Offset of PT_CNT_BUSY (13_peat_staging.md R367). -/
def PT_CNT_BUSY : Nat := 0x1c006c
def PT_CNT_BUSY_COUNT : Fld := ⟨PT_CNT_BUSY, 31, 0⟩

/-- Offset of PT_CNT_WARN (13_peat_staging.md R367). -/
def PT_CNT_WARN : Nat := 0x1c0070
def PT_CNT_WARN_COUNT : Fld := ⟨PT_CNT_WARN, 31, 0⟩

/-- Offset of PT_CNT_RETRY (13_peat_staging.md R367). -/
def PT_CNT_RETRY : Nat := 0x1c0074
def PT_CNT_RETRY_COUNT : Fld := ⟨PT_CNT_RETRY, 31, 0⟩

/-- Offset of PT_CNT_UNC (13_peat_staging.md R367). -/
def PT_CNT_UNC : Nat := 0x1c0078
def PT_CNT_UNC_COUNT : Fld := ⟨PT_CNT_UNC, 31, 0⟩

/-- Offset of PT_CNT_RETIRE (13_peat_staging.md R367). -/
def PT_CNT_RETIRE : Nat := 0x1c007c
def PT_CNT_RETIRE_COUNT : Fld := ⟨PT_CNT_RETIRE, 31, 0⟩

/-- Offset of PT_RR_TLC_k (13_peat_staging.md R367). -/
def PT_RR_TLC_k (k : Nat) : Nat := 0x1c0100 + 0x4 * k
def PT_RR_TLC_k_OFS (k : Nat) : Fld := ⟨PT_RR_TLC_k k, 27, 0⟩

/-- Offset of PT_RR_SLC_k (13_peat_staging.md R367). -/
def PT_RR_SLC_k (k : Nat) : Nat := 0x1c0140 + 0x4 * k
def PT_RR_SLC_k_OFS (k : Nat) : Fld := ⟨PT_RR_SLC_k k, 3, 0⟩

/-! ### DR registers (R392) -/

/-- Offset of DR_CTL (14_buffer_cache_and_dma.md R392). -/
def DR_CTL : Nat := 0x1d0000
def DR_CTL_MERGE_TO : Fld := ⟨DR_CTL, 15, 8⟩
def DR_CTL_SCRUB_EN : Fld := ⟨DR_CTL, 0, 0⟩

/-- Offset of DR_STAT (14_buffer_cache_and_dma.md R392). -/
def DR_STAT : Nat := 0x1d0004
def DR_STAT_SCRUBBING : Fld := ⟨DR_STAT, 1, 1⟩
def DR_STAT_READY : Fld := ⟨DR_STAT, 0, 0⟩

/-- Offset of DR_SCRUB (14_buffer_cache_and_dma.md R392). -/
def DR_SCRUB : Nat := 0x1d0008
def DR_SCRUB_RATE : Fld := ⟨DR_SCRUB, 7, 0⟩

/-- Offset of DR_SCRUB_POS (14_buffer_cache_and_dma.md R392). -/
def DR_SCRUB_POS : Nat := 0x1d000c
def DR_SCRUB_POS_POS : Fld := ⟨DR_SCRUB_POS, 31, 0⟩

/-- Offset of DR_SCRUB_PASS (14_buffer_cache_and_dma.md R392). -/
def DR_SCRUB_PASS : Nat := 0x1d0010
def DR_SCRUB_PASS_COUNT : Fld := ⟨DR_SCRUB_PASS, 31, 0⟩

/-- Offset of DR_CE_BKT (14_buffer_cache_and_dma.md R392). -/
def DR_CE_BKT : Nat := 0x1d0014
def DR_CE_BKT_LIMIT : Fld := ⟨DR_CE_BKT, 31, 16⟩
def DR_CE_BKT_LEVEL : Fld := ⟨DR_CE_BKT, 15, 0⟩

/-- Offset of DR_CE_LEAK (14_buffer_cache_and_dma.md R392). -/
def DR_CE_LEAK : Nat := 0x1d0018
def DR_CE_LEAK_LEAK : Fld := ⟨DR_CE_LEAK, 23, 0⟩

/-- Offset of DR_CE_CNT (14_buffer_cache_and_dma.md R392). -/
def DR_CE_CNT : Nat := 0x1d001c
def DR_CE_CNT_COUNT : Fld := ⟨DR_CE_CNT, 31, 0⟩

/-- Offset of DR_CE_OVF (14_buffer_cache_and_dma.md R392). -/
def DR_CE_OVF : Nat := 0x1d0020
def DR_CE_OVF_COUNT : Fld := ⟨DR_CE_OVF, 15, 0⟩

/-- Offset of DR_CE_ADDR_LO (14_buffer_cache_and_dma.md R392). -/
def DR_CE_ADDR_LO : Nat := 0x1d0024
def DR_CE_ADDR_LO_ADDR : Fld := ⟨DR_CE_ADDR_LO, 31, 6⟩
def DR_CE_ADDR_LO_SYM : Fld := ⟨DR_CE_ADDR_LO, 5, 0⟩

/-- Offset of DR_CE_ADDR_HI (14_buffer_cache_and_dma.md R392). -/
def DR_CE_ADDR_HI : Nat := 0x1d0028
def DR_CE_ADDR_HI_ADDR : Fld := ⟨DR_CE_ADDR_HI, 1, 0⟩

/-- Offset of DR_UE_ADDR_LO (14_buffer_cache_and_dma.md R392). -/
def DR_UE_ADDR_LO : Nat := 0x1d002c
def DR_UE_ADDR_LO_ADDR : Fld := ⟨DR_UE_ADDR_LO, 31, 6⟩

/-- Offset of DR_UE_ADDR_HI (14_buffer_cache_and_dma.md R392). -/
def DR_UE_ADDR_HI : Nat := 0x1d0030
def DR_UE_ADDR_HI_ADDR : Fld := ⟨DR_UE_ADDR_HI, 1, 0⟩

/-- Offset of DR_UE_INFO (14_buffer_cache_and_dma.md R392). -/
def DR_UE_INFO : Nat := 0x1d0034
def DR_UE_INFO_COUNT : Fld := ⟨DR_UE_INFO, 31, 16⟩
def DR_UE_INFO_POISON : Fld := ⟨DR_UE_INFO, 5, 5⟩
def DR_UE_INFO_SCRUB : Fld := ⟨DR_UE_INFO, 4, 4⟩
def DR_UE_INFO_REQ : Fld := ⟨DR_UE_INFO, 3, 0⟩

/-- Offset of DR_MERGE (14_buffer_cache_and_dma.md R392). -/
def DR_MERGE : Nat := 0x1d0038
def DR_MERGE_PEAK : Fld := ⟨DR_MERGE, 21, 16⟩
def DR_MERGE_USED : Fld := ⟨DR_MERGE, 5, 0⟩

/-- Offset of DR_APER (14_buffer_cache_and_dma.md R392). -/
def DR_APER : Nat := 0x1d003c
def DR_APER_BASE : Fld := ⟨DR_APER, 13, 0⟩

/-! ### MC registers (R392) -/

/-- Offset of MC_CTL (14_buffer_cache_and_dma.md R392). -/
def MC_CTL : Nat := 0x1e0000
def MC_CTL_VB_HWM : Fld := ⟨MC_CTL, 26, 16⟩
def MC_CTL_EN : Fld := ⟨MC_CTL, 0, 0⟩

/-- Offset of MC_STAT (14_buffer_cache_and_dma.md R392). -/
def MC_STAT : Nat := 0x1e0004
def MC_STAT_BYPASS : Fld := ⟨MC_STAT, 2, 2⟩
def MC_STAT_OPBUSY : Fld := ⟨MC_STAT, 1, 1⟩
def MC_STAT_INIT : Fld := ⟨MC_STAT, 0, 0⟩

/-- Offset of MC_WIN (14_buffer_cache_and_dma.md R392). -/
def MC_WIN : Nat := 0x1e0008
def MC_WIN_SIZE : Fld := ⟨MC_WIN, 31, 16⟩
def MC_WIN_BASE : Fld := ⟨MC_WIN, 13, 0⟩

/-- Offset of MC_LOCK (14_buffer_cache_and_dma.md R392). -/
def MC_LOCK : Nat := 0x1e000c
def MC_LOCK_LOCK : Fld := ⟨MC_LOCK, 15, 0⟩

/-- Offset of MC_WAY_DIS (14_buffer_cache_and_dma.md R392). -/
def MC_WAY_DIS : Nat := 0x1e0010
def MC_WAY_DIS_DIS : Fld := ⟨MC_WAY_DIS, 15, 0⟩

/-- Offset of MC_PAR (14_buffer_cache_and_dma.md R392). -/
def MC_PAR : Nat := 0x1e0014
def MC_PAR_WIN : Fld := ⟨MC_PAR, 31, 8⟩
def MC_PAR_LIMIT : Fld := ⟨MC_PAR, 7, 0⟩

/-- Offset of MC_PAR_CNT_k (14_buffer_cache_and_dma.md R392). -/
def MC_PAR_CNT_k (k : Nat) : Nat := 0x1e0018 + 0x4 * k
def MC_PAR_CNT_k_CNT (k : Nat) (j : Nat) : Fld := ⟨MC_PAR_CNT_k k, 8 * j + 7, 8 * j + 0⟩

/-- Offset of MC_OP_ADDR_LO (14_buffer_cache_and_dma.md R392). -/
def MC_OP_ADDR_LO : Nat := 0x1e0028
def MC_OP_ADDR_LO_ADDR : Fld := ⟨MC_OP_ADDR_LO, 31, 0⟩

/-- Offset of MC_OP_ADDR_HI (14_buffer_cache_and_dma.md R392). -/
def MC_OP_ADDR_HI : Nat := 0x1e002c
def MC_OP_ADDR_HI_ADDR : Fld := ⟨MC_OP_ADDR_HI, 1, 0⟩

/-- Offset of MC_OP_LEN (14_buffer_cache_and_dma.md R392). -/
def MC_OP_LEN : Nat := 0x1e0030
def MC_OP_LEN_LEN : Fld := ⟨MC_OP_LEN, 31, 0⟩

/-- Offset of MC_OP_CTL (14_buffer_cache_and_dma.md R392). -/
def MC_OP_CTL : Nat := 0x1e0034
def MC_OP_CTL_GO : Fld := ⟨MC_OP_CTL, 31, 31⟩
def MC_OP_CTL_OP : Fld := ⟨MC_OP_CTL, 2, 0⟩

/-- Offset of MC_OP_STAT (14_buffer_cache_and_dma.md R392). -/
def MC_OP_STAT : Nat := 0x1e0038
def MC_OP_STAT_BUSY : Fld := ⟨MC_OP_STAT, 31, 31⟩
def MC_OP_STAT_REJ : Fld := ⟨MC_OP_STAT, 30, 30⟩
def MC_OP_STAT_LFAIL : Fld := ⟨MC_OP_STAT, 29, 29⟩
def MC_OP_STAT_LINES : Fld := ⟨MC_OP_STAT, 14, 0⟩

/-- Offset of MC_VB (14_buffer_cache_and_dma.md R392). -/
def MC_VB : Nat := 0x1e003c
def MC_VB_DIRTY : Fld := ⟨MC_VB, 26, 16⟩
def MC_VB_USED : Fld := ⟨MC_VB, 10, 0⟩

/-- Offset of MC_PAR_ADDR (14_buffer_cache_and_dma.md R392). -/
def MC_PAR_ADDR : Nat := 0x1e0040
def MC_PAR_ADDR_DIRTY : Fld := ⟨MC_PAR_ADDR, 30, 30⟩
def MC_PAR_ADDR_WAY : Fld := ⟨MC_PAR_ADDR, 29, 26⟩
def MC_PAR_ADDR_LINE : Fld := ⟨MC_PAR_ADDR, 25, 0⟩

/-- Offset of MC_CNT_HIT (14_buffer_cache_and_dma.md R392). -/
def MC_CNT_HIT : Nat := 0x1e0044
def MC_CNT_HIT_COUNT : Fld := ⟨MC_CNT_HIT, 31, 0⟩

/-- Offset of MC_CNT_MISS (14_buffer_cache_and_dma.md R392). -/
def MC_CNT_MISS : Nat := 0x1e0048
def MC_CNT_MISS_COUNT : Fld := ⟨MC_CNT_MISS, 31, 0⟩

/-- Offset of MC_CNT_VBHIT (14_buffer_cache_and_dma.md R392). -/
def MC_CNT_VBHIT : Nat := 0x1e004c
def MC_CNT_VBHIT_COUNT : Fld := ⟨MC_CNT_VBHIT, 31, 0⟩

/-- Offset of MC_CNT_DECL (14_buffer_cache_and_dma.md R392). -/
def MC_CNT_DECL : Nat := 0x1e0050
def MC_CNT_DECL_COUNT : Fld := ⟨MC_CNT_DECL, 31, 0⟩

/-- Offset of MC_CNT_PAR (14_buffer_cache_and_dma.md R392). -/
def MC_CNT_PAR : Nat := 0x1e0054
def MC_CNT_PAR_COUNT : Fld := ⟨MC_CNT_PAR, 31, 0⟩

/-- Offset of MC_CNT_LKINV (14_buffer_cache_and_dma.md R392). -/
def MC_CNT_LKINV : Nat := 0x1e0058
def MC_CNT_LKINV_COUNT : Fld := ⟨MC_CNT_LKINV, 31, 0⟩

/-! ### SL registers (R392) -/

/-- Offset of SL_CTL (14_buffer_cache_and_dma.md R392). -/
def SL_CTL : Nat := 0x1f0000
def SL_CTL_EN : Fld := ⟨SL_CTL, 0, 0⟩

/-- Offset of SL_STAT (14_buffer_cache_and_dma.md R392). -/
def SL_STAT : Nat := 0x1f0004
def SL_STAT_MOVERS : Fld := ⟨SL_STAT, 5, 3⟩

/-- Offset of SL_DONE (14_buffer_cache_and_dma.md R392). -/
def SL_DONE : Nat := 0x1f0008
def SL_DONE_DONE : Fld := ⟨SL_DONE, 31, 0⟩

/-- Offset of SL_IRQ_EN (14_buffer_cache_and_dma.md R392). -/
def SL_IRQ_EN : Nat := 0x1f000c
def SL_IRQ_EN_EN : Fld := ⟨SL_IRQ_EN, 31, 0⟩

/-- Offset of SL_ERR (14_buffer_cache_and_dma.md R392). -/
def SL_ERR : Nat := 0x1f0010
def SL_ERR_ERR : Fld := ⟨SL_ERR, 31, 0⟩

/-- Offset of SL_CNT_PREEMPT (14_buffer_cache_and_dma.md R392). -/
def SL_CNT_PREEMPT : Nat := 0x1f0014
def SL_CNT_PREEMPT_COUNT : Fld := ⟨SL_CNT_PREEMPT, 31, 0⟩

/-! ### SLc registers (R392) -/

/-- Offset of SLc_SRC_LO (14_buffer_cache_and_dma.md R392). -/
def SLc_SRC_LO (c : Nat) : Nat := 0x1f0100 + 0x20 * c
def SLc_SRC_LO_ADDR (c : Nat) : Fld := ⟨SLc_SRC_LO c, 31, 2⟩

/-- Offset of SLc_SRC_HI (14_buffer_cache_and_dma.md R392). -/
def SLc_SRC_HI (c : Nat) : Nat := 0x1f0104 + 0x20 * c
def SLc_SRC_HI_ADDR (c : Nat) : Fld := ⟨SLc_SRC_HI c, 31, 0⟩

/-- Offset of SLc_DST_LO (14_buffer_cache_and_dma.md R392). -/
def SLc_DST_LO (c : Nat) : Nat := 0x1f0108 + 0x20 * c
def SLc_DST_LO_ADDR (c : Nat) : Fld := ⟨SLc_DST_LO c, 31, 2⟩

/-- Offset of SLc_DST_HI (14_buffer_cache_and_dma.md R392). -/
def SLc_DST_HI (c : Nat) : Nat := 0x1f010c + 0x20 * c
def SLc_DST_HI_ADDR (c : Nat) : Fld := ⟨SLc_DST_HI c, 31, 0⟩

/-- Offset of SLc_COUNT (14_buffer_cache_and_dma.md R392). -/
def SLc_COUNT (c : Nat) : Nat := 0x1f0110 + 0x20 * c
def SLc_COUNT_COUNT (c : Nat) : Fld := ⟨SLc_COUNT c, 29, 0⟩

/-- Offset of SLc_CTL (14_buffer_cache_and_dma.md R392). -/
def SLc_CTL (c : Nat) : Nat := 0x1f0114 + 0x20 * c
def SLc_CTL_STOP (c : Nat) : Fld := ⟨SLc_CTL c, 8, 8⟩
def SLc_CTL_IRQ (c : Nat) : Fld := ⟨SLc_CTL c, 4, 4⟩
def SLc_CTL_PRI (c : Nat) : Fld := ⟨SLc_CTL c, 3, 3⟩
def SLc_CTL_DSP (c : Nat) : Fld := ⟨SLc_CTL c, 2, 2⟩
def SLc_CTL_SSP (c : Nat) : Fld := ⟨SLc_CTL c, 1, 1⟩
def SLc_CTL_START (c : Nat) : Fld := ⟨SLc_CTL c, 0, 0⟩

/-- Offset of SLc_STAT (14_buffer_cache_and_dma.md R392). -/
def SLc_STAT (c : Nat) : Nat := 0x1f0118 + 0x20 * c
def SLc_STAT_CFGERR (c : Nat) : Fld := ⟨SLc_STAT c, 3, 3⟩
def SLc_STAT_HALTED (c : Nat) : Fld := ⟨SLc_STAT c, 2, 2⟩
def SLc_STAT_PREEMPTED (c : Nat) : Fld := ⟨SLc_STAT c, 1, 1⟩
def SLc_STAT_ACTIVE (c : Nat) : Fld := ⟨SLc_STAT c, 0, 0⟩

/-- Offset of SLc_ERR (14_buffer_cache_and_dma.md R392). -/
def SLc_ERR (c : Nat) : Nat := 0x1f011c + 0x20 * c
def SLc_ERR_DIR (c : Nat) : Fld := ⟨SLc_ERR c, 31, 31⟩
def SLc_ERR_OFFSET (c : Nat) : Fld := ⟨SLc_ERR c, 29, 0⟩

/-! ### CXp registers (R408) -/

/-- Offset of CXp_CTL (15_cipher.md R408). -/
def CXp_CTL (p : Nat) : Nat := 0x200000 + 0x1000 * p
def CXp_CTL_LOAD (p : Nat) : Fld := ⟨CXp_CTL p, 15, 15⟩
def CXp_CTL_SLOT (p : Nat) : Fld := ⟨CXp_CTL p, 13, 8⟩
def CXp_CTL_MODE (p : Nat) : Fld := ⟨CXp_CTL p, 3, 1⟩
def CXp_CTL_EN (p : Nat) : Fld := ⟨CXp_CTL p, 0, 0⟩

/-- Offset of CXp_STAT (15_cipher.md R408). -/
def CXp_STAT (p : Nat) : Nat := 0x200004 + 0x1000 * p
def CXp_STAT_TAGFAIL (p : Nat) : Fld := ⟨CXp_STAT p, 3, 3⟩
def CXp_STAT_NOKEY (p : Nat) : Fld := ⟨CXp_STAT p, 2, 2⟩
def CXp_STAT_BUSY (p : Nat) : Fld := ⟨CXp_STAT p, 1, 1⟩
def CXp_STAT_KEYOK (p : Nat) : Fld := ⟨CXp_STAT p, 0, 0⟩

/-- Offset of CXp_KCV_LO (15_cipher.md R408). -/
def CXp_KCV_LO (p : Nat) : Nat := 0x200008 + 0x1000 * p
def CXp_KCV_LO_KCV (p : Nat) : Fld := ⟨CXp_KCV_LO p, 31, 0⟩

/-- Offset of CXp_KCV_HI (15_cipher.md R408). -/
def CXp_KCV_HI (p : Nat) : Nat := 0x20000c + 0x1000 * p
def CXp_KCV_HI_KCV (p : Nat) : Fld := ⟨CXp_KCV_HI p, 31, 0⟩

/-- Offset of CXp_CNT (15_cipher.md R408). -/
def CXp_CNT (p : Nat) : Nat := 0x200010 + 0x1000 * p
def CXp_CNT_UNITS (p : Nat) : Fld := ⟨CXp_CNT p, 31, 0⟩

/-! ### CX registers (R408) -/

/-- Offset of CX_CTL (15_cipher.md R408). -/
def CX_CTL : Nat := 0x200800
def CX_CTL_KAT : Fld := ⟨CX_CTL, 1, 1⟩
def CX_CTL_EN : Fld := ⟨CX_CTL, 0, 0⟩

/-- Offset of CX_STAT (15_cipher.md R408). -/
def CX_STAT : Nat := 0x200804
def CX_STAT_ERASED : Fld := ⟨CX_STAT, 4, 4⟩
def CX_STAT_PAIRS : Fld := ⟨CX_STAT, 3, 0⟩

/-- Offset of CX_ALARM (15_cipher.md R408). -/
def CX_ALARM : Nat := 0x200808
def CX_ALARM_TEMP : Fld := ⟨CX_ALARM, 3, 3⟩
def CX_ALARM_CLK : Fld := ⟨CX_ALARM, 2, 2⟩
def CX_ALARM_VOLT : Fld := ⟨CX_ALARM, 1, 1⟩
def CX_ALARM_TAMPER : Fld := ⟨CX_ALARM, 0, 0⟩

/-- Offset of CX_PAIR (15_cipher.md R408). -/
def CX_PAIR : Nat := 0x20080c
def CX_PAIR_DIS : Fld := ⟨CX_PAIR, 3, 0⟩

/-- Offset of CX_KS_CMD (15_cipher.md R408). -/
def CX_KS_CMD : Nat := 0x200810
def CX_KS_CMD_GO : Fld := ⟨CX_KS_CMD, 31, 31⟩
def CX_KS_CMD_OP : Fld := ⟨CX_KS_CMD, 26, 24⟩
def CX_KS_CMD_KTYPE : Fld := ⟨CX_KS_CMD, 12, 12⟩
def CX_KS_CMD_SLOT : Fld := ⟨CX_KS_CMD, 5, 0⟩

/-- Offset of CX_KS_STAT (15_cipher.md R408). -/
def CX_KS_STAT : Nat := 0x200814
def CX_KS_STAT_BUSY : Fld := ⟨CX_KS_STAT, 31, 31⟩
def CX_KS_STAT_RESULT : Fld := ⟨CX_KS_STAT, 2, 0⟩

/-- Offset of CX_KS_KCV_LO (15_cipher.md R408). -/
def CX_KS_KCV_LO : Nat := 0x200818
def CX_KS_KCV_LO_KCV : Fld := ⟨CX_KS_KCV_LO, 31, 0⟩

/-- Offset of CX_KS_KCV_HI (15_cipher.md R408). -/
def CX_KS_KCV_HI : Nat := 0x20081c
def CX_KS_KCV_HI_KCV : Fld := ⟨CX_KS_KCV_HI, 31, 0⟩

/-- Offset of CX_KS_OCC_LO (15_cipher.md R408). -/
def CX_KS_OCC_LO : Nat := 0x200820
def CX_KS_OCC_LO_OCC : Fld := ⟨CX_KS_OCC_LO, 31, 0⟩

/-- Offset of CX_KS_OCC_HI (15_cipher.md R408). -/
def CX_KS_OCC_HI : Nat := 0x200824
def CX_KS_OCC_HI_OCC : Fld := ⟨CX_KS_OCC_HI, 31, 0⟩

/-- Offset of CX_KS_TYPE_k (15_cipher.md R408). -/
def CX_KS_TYPE_k (k : Nat) : Nat := 0x200830 + 0x4 * k
def CX_KS_TYPE_k_TYPE (k : Nat) (j : Nat) : Fld := ⟨CX_KS_TYPE_k k, 2 * j + 1, 2 * j + 0⟩

/-- Offset of CX_KS_BLOB_k (15_cipher.md R408). -/
def CX_KS_BLOB_k (k : Nat) : Nat := 0x200840 + 0x4 * k
def CX_KS_BLOB_k_BLOB (k : Nat) : Fld := ⟨CX_KS_BLOB_k k, 31, 0⟩

/-- Offset of CX_CNT (15_cipher.md R408). -/
def CX_CNT : Nat := 0x200890
def CX_CNT_ERASE : Fld := ⟨CX_CNT, 31, 16⟩
def CX_CNT_MISMATCH : Fld := ⟨CX_CNT, 15, 0⟩

/-! ### ML registers (R428) -/

/-- Offset of ML_CTL (16_mirror_pair.md R428). -/
def ML_CTL : Nat := 0x210000
def ML_CTL_RETRAIN : Fld := ⟨ML_CTL, 4, 4⟩
def ML_CTL_AUTO_RJ : Fld := ⟨ML_CTL, 3, 3⟩
def ML_CTL_AUTO_TKO : Fld := ⟨ML_CTL, 2, 2⟩
def ML_CTL_ACCEPT : Fld := ⟨ML_CTL, 1, 1⟩
def ML_CTL_EN : Fld := ⟨ML_CTL, 0, 0⟩

/-- Offset of ML_STAT (16_mirror_pair.md R428). -/
def ML_STAT : Nat := 0x210004
def ML_STAT_CONFLICT : Fld := ⟨ML_STAT, 13, 13⟩
def ML_STAT_ROLE_IN : Fld := ⟨ML_STAT, 12, 12⟩
def ML_STAT_HB_OK : Fld := ⟨ML_STAT, 11, 11⟩
def ML_STAT_LANE_LOCK : Fld := ⟨ML_STAT, 10, 7⟩
def ML_STAT_LINK_UP : Fld := ⟨ML_STAT, 6, 6⟩
def ML_STAT_SYNC : Fld := ⟨ML_STAT, 5, 5⟩
def ML_STAT_ROLE : Fld := ⟨ML_STAT, 4, 4⟩
def ML_STAT_PSTATE : Fld := ⟨ML_STAT, 3, 0⟩

/-- Offset of ML_HB (16_mirror_pair.md R428). -/
def ML_HB : Nat := 0x210008
def ML_HB_RPT_TO : Fld := ⟨ML_HB, 31, 24⟩
def ML_HB_TKO_DLY : Fld := ⟨ML_HB, 23, 8⟩
def ML_HB_HB_TO : Fld := ⟨ML_HB, 7, 0⟩

/-- Offset of ML_ASYNC (16_mirror_pair.md R428). -/
def ML_ASYNC : Nat := 0x21000c
def ML_ASYNC_MAXLAG : Fld := ⟨ML_ASYNC, 15, 0⟩

/-- Offset of ML_EPOCH (16_mirror_pair.md R428). -/
def ML_EPOCH : Nat := 0x210010
def ML_EPOCH_EPOCH : Fld := ⟨ML_EPOCH, 31, 0⟩

/-- Offset of ML_TXSEQ_LO (16_mirror_pair.md R428). -/
def ML_TXSEQ_LO : Nat := 0x210014
def ML_TXSEQ_LO_MSEQ : Fld := ⟨ML_TXSEQ_LO, 31, 0⟩

/-- Offset of ML_TXSEQ_HI (16_mirror_pair.md R428). -/
def ML_TXSEQ_HI : Nat := 0x210018
def ML_TXSEQ_HI_MSEQ : Fld := ⟨ML_TXSEQ_HI, 31, 0⟩

/-- Offset of ML_RPTSEQ_LO (16_mirror_pair.md R428). -/
def ML_RPTSEQ_LO : Nat := 0x21001c
def ML_RPTSEQ_LO_MSEQ : Fld := ⟨ML_RPTSEQ_LO, 31, 0⟩

/-- Offset of ML_RPTSEQ_HI (16_mirror_pair.md R428). -/
def ML_RPTSEQ_HI : Nat := 0x210020
def ML_RPTSEQ_HI_MSEQ : Fld := ⟨ML_RPTSEQ_HI, 31, 0⟩

/-- Offset of ML_LAG (16_mirror_pair.md R428). -/
def ML_LAG : Nat := 0x210024
def ML_LAG_LAG : Fld := ⟨ML_LAG, 31, 0⟩

/-- Offset of ML_RSYNC (16_mirror_pair.md R428). -/
def ML_RSYNC : Nat := 0x210028
def ML_RSYNC_PROG : Fld := ⟨ML_RSYNC, 23, 16⟩
def ML_RSYNC_RATE : Fld := ⟨ML_RSYNC, 15, 0⟩

/-- Offset of ML_TUN_CTL (16_mirror_pair.md R428). -/
def ML_TUN_CTL : Nat := 0x210030
def ML_TUN_CTL_GO : Fld := ⟨ML_TUN_CTL, 31, 31⟩
def ML_TUN_CTL_BUSY : Fld := ⟨ML_TUN_CTL, 30, 30⟩
def ML_TUN_CTL_ERR : Fld := ⟨ML_TUN_CTL, 29, 29⟩
def ML_TUN_CTL_WR : Fld := ⟨ML_TUN_CTL, 28, 28⟩
def ML_TUN_CTL_ADDR : Fld := ⟨ML_TUN_CTL, 21, 0⟩

/-- Offset of ML_TUN_DATA (16_mirror_pair.md R428). -/
def ML_TUN_DATA : Nat := 0x210034
def ML_TUN_DATA_DATA : Fld := ⟨ML_TUN_DATA, 31, 0⟩

/-- Offset of ML_CNT (16_mirror_pair.md R428). -/
def ML_CNT : Nat := 0x210038
def ML_CNT_CRCERR : Fld := ⟨ML_CNT, 31, 16⟩
def ML_CNT_REPLAY : Fld := ⟨ML_CNT, 15, 0⟩

/-- Offset of ML_MCT_t_LO (16_mirror_pair.md R428). -/
def ML_MCT_t_LO (t : Nat) : Nat := 0x218000 + 0x8 * t
def ML_MCT_t_LO_MSEQ (t : Nat) : Fld := ⟨ML_MCT_t_LO t, 31, 0⟩

/-- Offset of ML_MCT_t_HI (16_mirror_pair.md R428). -/
def ML_MCT_t_HI (t : Nat) : Nat := 0x218004 + 0x8 * t
def ML_MCT_t_HI_VALID (t : Nat) : Fld := ⟨ML_MCT_t_HI t, 31, 31⟩
def ML_MCT_t_HI_FULL (t : Nat) : Fld := ⟨ML_MCT_t_HI t, 30, 30⟩
def ML_MCT_t_HI_DONE (t : Nat) : Fld := ⟨ML_MCT_t_HI t, 29, 29⟩
def ML_MCT_t_HI_SQID (t : Nat) : Fld := ⟨ML_MCT_t_HI t, 22, 16⟩
def ML_MCT_t_HI_CID (t : Nat) : Fld := ⟨ML_MCT_t_HI t, 15, 0⟩

/-! ### IC registers (R444) -/

/-- Offset of IC_TGT_CTL (17_interrupts.md R444). -/
def IC_TGT_CTL : Nat := 0x10000
def IC_TGT_CTL_DIS : Fld := ⟨IC_TGT_CTL, 6, 0⟩

/-- Offset of IC_CCSTAT (17_interrupts.md R444). -/
def IC_CCSTAT : Nat := 0x10004
def IC_CCSTAT_WAIT : Fld := ⟨IC_CCSTAT, 3, 0⟩

/-- Offset of IC_FORCE (17_interrupts.md R444). -/
def IC_FORCE : Nat := 0x10008
def IC_FORCE_GO : Fld := ⟨IC_FORCE, 31, 31⟩
def IC_FORCE_SRC : Fld := ⟨IC_FORCE, 10, 0⟩

/-- Offset of IC_ERR (17_interrupts.md R444). -/
def IC_ERR : Nat := 0x1000c
def IC_ERR_BADEOI : Fld := ⟨IC_ERR, 31, 16⟩
def IC_ERR_PEERDROP : Fld := ⟨IC_ERR, 15, 0⟩

/-- Offset of IC_HEOI (17_interrupts.md R444). -/
def IC_HEOI : Nat := 0x10010
def IC_HEOI_VEC : Fld := ⟨IC_HEOI, 6, 0⟩

/-- Offset of IC_PEER_FIFO (17_interrupts.md R444). -/
def IC_PEER_FIFO : Nat := 0x10014
def IC_PEER_FIFO_VALID : Fld := ⟨IC_PEER_FIFO, 31, 31⟩
def IC_PEER_FIFO_OVF : Fld := ⟨IC_PEER_FIFO, 30, 30⟩
def IC_PEER_FIFO_SRC : Fld := ⟨IC_PEER_FIFO, 10, 0⟩

/-- Offset of IC_CCMOD_c (17_interrupts.md R444). -/
def IC_CCMOD_c (c : Nat) : Nat := 0x10020 + 0x4 * c
def IC_CCMOD_c_COUNT (c : Nat) : Fld := ⟨IC_CCMOD_c c, 23, 16⟩
def IC_CCMOD_c_HOLDOFF (c : Nat) : Fld := ⟨IC_CCMOD_c c, 15, 0⟩

/-- Offset of IC_CLAIM_t (17_interrupts.md R444). -/
def IC_CLAIM_t (t : Nat) : Nat := 0x10040 + 0x8 * t
def IC_CLAIM_t_VALID (t : Nat) : Fld := ⟨IC_CLAIM_t t, 31, 31⟩
def IC_CLAIM_t_SRC (t : Nat) : Fld := ⟨IC_CLAIM_t t, 10, 0⟩

/-- Offset of IC_EOI_t (17_interrupts.md R444). -/
def IC_EOI_t (t : Nat) : Nat := 0x10044 + 0x8 * t
def IC_EOI_t_SRC (t : Nat) : Fld := ⟨IC_EOI_t t, 10, 0⟩

/-- Offset of IC_GVEC_g (17_interrupts.md R444). -/
def IC_GVEC_g (g : Nat) : Nat := 0x10080 + 0x4 * g
def IC_GVEC_g_VEC (g : Nat) : Fld := ⟨IC_GVEC_g g, 6, 0⟩

/-- Offset of IC_PEND_k (17_interrupts.md R444). -/
def IC_PEND_k (k : Nat) : Nat := 0x10100 + 0x4 * k
def IC_PEND_k_PEND (k : Nat) : Fld := ⟨IC_PEND_k k, 31, 0⟩

/-- Offset of IC_ACT_k (17_interrupts.md R444). -/
def IC_ACT_k (k : Nat) : Nat := 0x10200 + 0x4 * k
def IC_ACT_k_ACT (k : Nat) : Fld := ⟨IC_ACT_k k, 31, 0⟩

/-- Offset of IC_ROUTE_k (17_interrupts.md R444). -/
def IC_ROUTE_k (k : Nat) : Nat := 0x10400 + 0x4 * k
def IC_ROUTE_k_PEER (k : Nat) (j : Nat) : Fld := ⟨IC_ROUTE_k k, 8 * j + 3, 8 * j + 3⟩
def IC_ROUTE_k_TGT (k : Nat) (j : Nat) : Fld := ⟨IC_ROUTE_k k, 8 * j + 2, 8 * j + 0⟩

/-- Offset of IC_MOD_v (17_interrupts.md R444). -/
def IC_MOD_v (v : Nat) : Nat := 0x10a00 + 0x4 * v
def IC_MOD_v_COUNT (v : Nat) : Fld := ⟨IC_MOD_v v, 23, 16⟩
def IC_MOD_v_HOLDOFF (v : Nat) : Fld := ⟨IC_MOD_v v, 15, 0⟩

/-- Offset of IC_VSTAT_v (17_interrupts.md R444). -/
def IC_VSTAT_v (v : Nat) : Nat := 0x10c00 + 0x4 * v
def IC_VSTAT_v_EVT (v : Nat) : Fld := ⟨IC_VSTAT_v v, 31, 24⟩
def IC_VSTAT_v_TIMER (v : Nat) : Fld := ⟨IC_VSTAT_v v, 23, 8⟩
def IC_VSTAT_v_INSVC (v : Nat) : Fld := ⟨IC_VSTAT_v v, 1, 1⟩
def IC_VSTAT_v_DUE (v : Nat) : Fld := ⟨IC_VSTAT_v v, 0, 0⟩

/-! ### PW registers (R467) -/

/-- Offset of PW_CTL (18_power_reset_and_standby.md R467). -/
def PW_CTL : Nat := 0x20000
def PW_CTL_PAD_REL : Fld := ⟨PW_CTL, 8, 8⟩
def PW_CTL_VSTBY_EN : Fld := ⟨PW_CTL, 4, 4⟩
def PW_CTL_BOOST_EN : Fld := ⟨PW_CTL, 1, 1⟩
def PW_CTL_DYKE_EN : Fld := ⟨PW_CTL, 0, 0⟩

/-- Offset of PW_STAT (18_power_reset_and_standby.md R467). -/
def PW_STAT : Nat := 0x20004
def PW_STAT_PADHOLD : Fld := ⟨PW_STAT, 11, 11⟩
def PW_STAT_RMODE : Fld := ⟨PW_STAT, 10, 10⟩
def PW_STAT_DYKE : Fld := ⟨PW_STAT, 9, 9⟩
def PW_STAT_ARMED : Fld := ⟨PW_STAT, 8, 8⟩
def PW_STAT_OVV : Fld := ⟨PW_STAT, 4, 4⟩
def PW_STAT_BOOST_FLT : Fld := ⟨PW_STAT, 3, 3⟩
def PW_STAT_MEAS_DONE : Fld := ⟨PW_STAT, 2, 2⟩
def PW_STAT_BOOT_DONE : Fld := ⟨PW_STAT, 1, 1⟩
def PW_STAT_VHOLD_OK : Fld := ⟨PW_STAT, 0, 0⟩

/-- Offset of PW_RSTCAUSE (18_power_reset_and_standby.md R467). -/
def PW_RSTCAUSE : Nat := 0x20008
def PW_RSTCAUSE_CAUSE : Fld := ⟨PW_RSTCAUSE, 7, 0⟩

/-- Offset of PW_RST (18_power_reset_and_standby.md R467). -/
def PW_RST : Nat := 0x2000c
def PW_RST_KEY : Fld := ⟨PW_RST, 31, 16⟩
def PW_RST_DUMP : Fld := ⟨PW_RST, 1, 1⟩
def PW_RST_GO : Fld := ⟨PW_RST, 0, 0⟩

/-- Offset of PW_VIN (18_power_reset_and_standby.md R467). -/
def PW_VIN : Nat := 0x20010
def PW_VIN_VHOLD : Fld := ⟨PW_VIN, 31, 16⟩
def PW_VIN_VIN : Fld := ⟨PW_VIN, 15, 0⟩

/-- Offset of PW_DYKE (18_power_reset_and_standby.md R467). -/
def PW_DYKE : Nat := 0x20014
def PW_DYKE_FILT : Fld := ⟨PW_DYKE, 23, 16⟩
def PW_DYKE_THR : Fld := ⟨PW_DYKE, 11, 0⟩

/-- Offset of PW_HOLDUP (18_power_reset_and_standby.md R467). -/
def PW_HOLDUP : Nat := 0x20018
def PW_HOLDUP_CAP : Fld := ⟨PW_HOLDUP, 31, 16⟩
def PW_HOLDUP_ALLOW : Fld := ⟨PW_HOLDUP, 15, 0⟩

/-- Offset of PW_HOLDUP_MEAS (18_power_reset_and_standby.md R467). -/
def PW_HOLDUP_MEAS : Nat := 0x2001c
def PW_HOLDUP_MEAS_CAPF : Fld := ⟨PW_HOLDUP_MEAS, 31, 16⟩
def PW_HOLDUP_MEAS_ESR : Fld := ⟨PW_HOLDUP_MEAS, 15, 0⟩

/-- Offset of PW_USED (18_power_reset_and_standby.md R467). -/
def PW_USED : Nat := 0x20020
def PW_USED_USED : Fld := ⟨PW_USED, 10, 0⟩

/-- Offset of PW_DYKE_STAT (18_power_reset_and_standby.md R467). -/
def PW_DYKE_STAT : Nat := 0x20024
def PW_DYKE_STAT_INC : Fld := ⟨PW_DYKE_STAT, 31, 31⟩
def PW_DYKE_STAT_MIB : Fld := ⟨PW_DYKE_STAT, 26, 16⟩
def PW_DYKE_STAT_DUR : Fld := ⟨PW_DYKE_STAT, 15, 0⟩

/-- Offset of PW_STBY_MASK (18_power_reset_and_standby.md R467). -/
def PW_STBY_MASK : Nat := 0x20028
def PW_STBY_MASK_ALARM : Fld := ⟨PW_STBY_MASK, 10, 10⟩
def PW_STBY_MASK_MASK : Fld := ⟨PW_STBY_MASK, 9, 0⟩

/-- Offset of PW_STBY_INT (18_power_reset_and_standby.md R467). -/
def PW_STBY_INT : Nat := 0x2002c
def PW_STBY_INT_INTERVAL : Fld := ⟨PW_STBY_INT, 31, 0⟩

/-- Offset of PW_STBY_TMR (18_power_reset_and_standby.md R467). -/
def PW_STBY_TMR : Nat := 0x20030
def PW_STBY_TMR_LOOKS : Fld := ⟨PW_STBY_TMR, 15, 0⟩

/-- Offset of PW_WAKE (18_power_reset_and_standby.md R467). -/
def PW_WAKE : Nat := 0x20034
def PW_WAKE_CAUSE : Fld := ⟨PW_WAKE, 10, 0⟩

/-- Offset of PW_STBY_GPIO (18_power_reset_and_standby.md R467). -/
def PW_STBY_GPIO : Nat := 0x20038
def PW_STBY_GPIO_EDGE : Fld := ⟨PW_STBY_GPIO, 31, 16⟩
def PW_STBY_GPIO_EN : Fld := ⟨PW_STBY_GPIO, 15, 0⟩

/-- Offset of PW_CMP_k (18_power_reset_and_standby.md R467). -/
def PW_CMP_k (k : Nat) : Nat := 0x2003c + 0x4 * k
def PW_CMP_k_EN (k : Nat) : Fld := ⟨PW_CMP_k k, 31, 31⟩
def PW_CMP_k_DIR (k : Nat) : Fld := ⟨PW_CMP_k k, 30, 30⟩
def PW_CMP_k_LEVEL (k : Nat) : Fld := ⟨PW_CMP_k k, 11, 0⟩

/-- Offset of PW_SNS (18_power_reset_and_standby.md R467). -/
def PW_SNS : Nat := 0x20044
def PW_SNS_HMAX : Fld := ⟨PW_SNS, 31, 24⟩
def PW_SNS_TMAX : Fld := ⟨PW_SNS, 23, 16⟩
def PW_SNS_TMIN : Fld := ⟨PW_SNS, 15, 8⟩

/-- Offset of PW_CNT (18_power_reset_and_standby.md R467). -/
def PW_CNT : Nat := 0x20048
def PW_CNT_DUMPS : Fld := ⟨PW_CNT, 31, 24⟩
def PW_CNT_SLEEPS : Fld := ⟨PW_CNT, 23, 16⟩
def PW_CNT_ABANDON : Fld := ⟨PW_CNT, 15, 8⟩
def PW_CNT_BROWNOUT : Fld := ⟨PW_CNT, 7, 0⟩

/-! ### CAL registers (R481) -/

/-- Offset of CAL_CTL (19_calibration_and_telemetry.md R481). -/
def CAL_CTL : Nat := 0x30000
def CAL_CTL_TELEN : Fld := ⟨CAL_CTL, 9, 9⟩
def CAL_CTL_BGEN : Fld := ⟨CAL_CTL, 8, 8⟩
def CAL_CTL_AUTO : Fld := ⟨CAL_CTL, 4, 0⟩

/-- Offset of CAL_STAT (19_calibration_and_telemetry.md R481). -/
def CAL_STAT : Nat := 0x30004
def CAL_STAT_BOOTCAL : Fld := ⟨CAL_STAT, 8, 8⟩
def CAL_STAT_KIND : Fld := ⟨CAL_STAT, 6, 4⟩
def CAL_STAT_BUSY : Fld := ⟨CAL_STAT, 3, 0⟩

/-- Offset of CAL_WP (19_calibration_and_telemetry.md R481). -/
def CAL_WP : Nat := 0x30008
def CAL_WP_DRIFT_T : Fld := ⟨CAL_WP, 31, 24⟩
def CAL_WP_MAXERR : Fld := ⟨CAL_WP, 15, 0⟩

/-- Offset of CAL_QTHR (19_calibration_and_telemetry.md R481). -/
def CAL_QTHR : Nat := 0x3000c
def CAL_QTHR_MSE_THR : Fld := ⟨CAL_QTHR, 31, 16⟩
def CAL_QTHR_BER_THR : Fld := ⟨CAL_QTHR, 15, 0⟩

/-- Offset of CAL_STHR (19_calibration_and_telemetry.md R481). -/
def CAL_STHR : Nat := 0x30010
def CAL_STHR_RTE_THR : Fld := ⟨CAL_STHR, 31, 16⟩
def CAL_STHR_EYE_THR : Fld := ⟨CAL_STHR, 7, 0⟩

/-- Offset of CAL_TMO_k (19_calibration_and_telemetry.md R481). -/
def CAL_TMO_k (k : Nat) : Nat := 0x30020 + 0x4 * k
def CAL_TMO_k_TMO (k : Nat) : Fld := ⟨CAL_TMO_k k, 31, 0⟩

/-- Offset of CAL_DEFER_e (19_calibration_and_telemetry.md R481). -/
def CAL_DEFER_e (e : Nat) : Nat := 0x30040 + 0x4 * e
def CAL_DEFER_e_MAXDEF (e : Nat) : Fld := ⟨CAL_DEFER_e e, 31, 0⟩

/-- Offset of CAL_DEFER_STAT (19_calibration_and_telemetry.md R481). -/
def CAL_DEFER_STAT : Nat := 0x30060
def CAL_DEFER_STAT_EXPIRED : Fld := ⟨CAL_DEFER_STAT, 22, 16⟩
def CAL_DEFER_STAT_WAITING : Fld := ⟨CAL_DEFER_STAT, 6, 0⟩

/-- Offset of CAL_QSEL (19_calibration_and_telemetry.md R481). -/
def CAL_QSEL : Nat := 0x30064
def CAL_QSEL_BEAM : Fld := ⟨CAL_QSEL, 5, 0⟩

/-- Offset of CAL_QVAL (19_calibration_and_telemetry.md R481). -/
def CAL_QVAL : Nat := 0x30068
def CAL_QVAL_EYE : Fld := ⟨CAL_QVAL, 7, 0⟩

/-- Offset of CAL_Ss_RTE (19_calibration_and_telemetry.md R481). -/
def CAL_Ss_RTE (s : Nat) : Nat := 0x30070 + 0x4 * s
def CAL_Ss_RTE_RTE (s : Nat) : Fld := ⟨CAL_Ss_RTE s, 15, 0⟩

/-- Offset of CAL_Ss_WP (19_calibration_and_telemetry.md R481). -/
def CAL_Ss_WP (s : Nat) : Nat := 0x30080 + 0x4 * s
def CAL_Ss_WP_RESULT (s : Nat) : Fld := ⟨CAL_Ss_WP s, 25, 24⟩
def CAL_Ss_WP_BADRUN (s : Nat) : Fld := ⟨CAL_Ss_WP s, 23, 16⟩
def CAL_Ss_WP_BAND (s : Nat) : Fld := ⟨CAL_Ss_WP s, 15, 0⟩

/-- Offset of CAL_TEL_CTL (19_calibration_and_telemetry.md R481). -/
def CAL_TEL_CTL : Nat := 0x30090
def CAL_TEL_CTL_SETEN : Fld := ⟨CAL_TEL_CTL, 5, 1⟩

/-- Offset of CAL_CNT (19_calibration_and_telemetry.md R481). -/
def CAL_CNT : Nat := 0x30094
def CAL_CNT_BAD : Fld := ⟨CAL_CNT, 31, 24⟩
def CAL_CNT_ABANDON : Fld := ⟨CAL_CNT, 23, 16⟩
def CAL_CNT_SWEEPS : Fld := ⟨CAL_CNT, 15, 8⟩
def CAL_CNT_WINDOWS : Fld := ⟨CAL_CNT, 7, 0⟩

/-! ### GLB registers (R492) -/

/-- Offset of GLB_ID (20_register_map.md R492). -/
def GLB_ID : Nat := 0x0
def GLB_ID_DEVICE : Fld := ⟨GLB_ID, 31, 16⟩
def GLB_ID_VENDOR : Fld := ⟨GLB_ID, 15, 0⟩

/-- Offset of GLB_REV (20_register_map.md R492). -/
def GLB_REV : Nat := 0x4
def GLB_REV_MAJOR : Fld := ⟨GLB_REV, 15, 12⟩
def GLB_REV_MINOR : Fld := ⟨GLB_REV, 11, 8⟩
def GLB_REV_MAPVER : Fld := ⟨GLB_REV, 7, 0⟩

/-- Offset of GLB_CFG (20_register_map.md R492). -/
def GLB_CFG : Nat := 0x8
def GLB_CFG_AXES : Fld := ⟨GLB_CFG, 24, 16⟩
def GLB_CFG_BEAMS : Fld := ⟨GLB_CFG, 15, 8⟩
def GLB_CFG_SPIN : Fld := ⟨GLB_CFG, 5, 4⟩
def GLB_CFG_SURF : Fld := ⟨GLB_CFG, 3, 0⟩

/-- Offset of GLB_DECERR (20_register_map.md R492). -/
def GLB_DECERR : Nat := 0xc
def GLB_DECERR_VALID : Fld := ⟨GLB_DECERR, 31, 31⟩
def GLB_DECERR_MASTER : Fld := ⟨GLB_DECERR, 30, 28⟩
def GLB_DECERR_KIND : Fld := ⟨GLB_DECERR, 27, 26⟩
def GLB_DECERR_OFFSET : Fld := ⟨GLB_DECERR, 21, 0⟩

/-! ### MZ registers (R493, R248) -/

/-- Offset of MZ_I2C_CTL (20_register_map.md R493). -/
def MZ_I2C_CTL : Nat := 0x220000
def MZ_I2C_CTL_FAST : Fld := ⟨MZ_I2C_CTL, 1, 1⟩
def MZ_I2C_CTL_EN : Fld := ⟨MZ_I2C_CTL, 0, 0⟩

/-- Offset of MZ_I2C_CMD (20_register_map.md R493). -/
def MZ_I2C_CMD : Nat := 0x220004
def MZ_I2C_CMD_GO : Fld := ⟨MZ_I2C_CMD, 31, 31⟩
def MZ_I2C_CMD_NBYTE : Fld := ⟨MZ_I2C_CMD, 19, 18⟩
def MZ_I2C_CMD_RD : Fld := ⟨MZ_I2C_CMD, 17, 17⟩
def MZ_I2C_CMD_SUBEN : Fld := ⟨MZ_I2C_CMD, 16, 16⟩
def MZ_I2C_CMD_SUB : Fld := ⟨MZ_I2C_CMD, 15, 8⟩
def MZ_I2C_CMD_ADDR : Fld := ⟨MZ_I2C_CMD, 6, 0⟩

/-- Offset of MZ_I2C_DATA (20_register_map.md R493). -/
def MZ_I2C_DATA : Nat := 0x220008
def MZ_I2C_DATA_DATA : Fld := ⟨MZ_I2C_DATA, 31, 0⟩

/-- Offset of MZ_I2C_STAT (20_register_map.md R493). -/
def MZ_I2C_STAT : Nat := 0x22000c
def MZ_I2C_STAT_TMO : Fld := ⟨MZ_I2C_STAT, 2, 2⟩
def MZ_I2C_STAT_NACK : Fld := ⟨MZ_I2C_STAT, 1, 1⟩
def MZ_I2C_STAT_BUSY : Fld := ⟨MZ_I2C_STAT, 0, 0⟩

/-! ### AXC registers (R231) -/

/-- Offset of AXC_TBL (09_motion_axes.md R230). -/
def AXC_TBL (k : Nat) : Nat := 0x133000 + 0x4 * k
def AXC_TBL_W (k : Nat) : Fld := ⟨AXC_TBL k, 31, 0⟩

/-! ### MSIX registers (R251) -/

/-- Offset of MSIX_ADDR_LO (10_host_queues.md R251). -/
def MSIX_ADDR_LO (v : Nat) : Nat := 0x48000 + 0x10 * v
def MSIX_ADDR_LO_W (v : Nat) : Fld := ⟨MSIX_ADDR_LO v, 31, 2⟩

/-- Offset of MSIX_ADDR_HI (10_host_queues.md R251). -/
def MSIX_ADDR_HI (v : Nat) : Nat := 0x48004 + 0x10 * v
def MSIX_ADDR_HI_W (v : Nat) : Fld := ⟨MSIX_ADDR_HI v, 31, 0⟩

/-- Offset of MSIX_DATA (10_host_queues.md R251). -/
def MSIX_DATA (v : Nat) : Nat := 0x48008 + 0x10 * v
def MSIX_DATA_W (v : Nat) : Fld := ⟨MSIX_DATA v, 31, 0⟩

/-- Offset of MSIX_CTRL (10_host_queues.md R251). -/
def MSIX_CTRL (v : Nat) : Nat := 0x4800c + 0x10 * v
def MSIX_CTRL_W (v : Nat) : Fld := ⟨MSIX_CTRL v, 0, 0⟩

/-- Offset of MSIX_PBA (10_host_queues.md R251). -/
def MSIX_PBA (k : Nat) : Nat := 0x49000 + 0x4 * k
def MSIX_PBA_W (k : Nat) : Fld := ⟨MSIX_PBA k, 31, 0⟩

end Sys2Proof.Machine
end

