-- ==== Sys2Proof/Machine/RegMap.lean ====
section
/-!
DEFINITION. The register map as a table (20_register_map.md R482 to R491): for each register its BAR0
offset, instances, the access code of its bits (00_scope.md R4) as masks, and its reset value. A bit that
stands in no mask is read-only (RO, reserved or write-only with no storage). Reset values that the spec
takes from elsewhere (R490) stand in Machine/Resets.lean.
-/

namespace Sys2Proof.Machine

/-- One row of the register map: `count1 × count2` registers at `base + stride1 × i + stride2 × j`. -/
structure RegRow where
  base : Nat
  stride1 : Nat
  count1 : Nat
  stride2 : Nat
  count2 : Nat
  /-- RW bits. -/
  rw : Nat
  /-- RWH bits. -/
  rwh : Nat
  /-- W1C bits. -/
  w1c : Nat
  /-- RC bits. -/
  rc : Nat
  /-- WO bits. -/
  wo : Nat
  /-- The Reset column. -/
  reset : Nat
  deriving DecidableEq, Repr

/-- Rows of the GLB registers (R492). -/
def rowsGlb : List RegRow := [
  ⟨0x100, 0x0, 1, 0x0, 1, 0x0, 0x0, 0x0, 0x0, 0x0, 0x0⟩ /- GLB_TICK_LO -/,
  ⟨0x104, 0x0, 1, 0x0, 1, 0x0, 0x0, 0x0, 0x0, 0x0, 0x0⟩ /- GLB_TICK_HI -/,
  ⟨0x108, 0x0, 1, 0x0, 1, 0x0, 0x0, 0x0, 0x0, 0x0, 0x0⟩ /- GLB_TICK_CYC -/,
  ⟨0x10c, 0x0, 1, 0x0, 1, 0x0, 0x0, 0x1, 0x0, 0x0, 0x0⟩ /- GLB_TICK_STAT -/,
  ⟨0x110, 0x0, 1, 0x0, 1, 0x0, 0x0, 0x0, 0xffff, 0x0, 0x0⟩ /- GLB_TOVR_CNT -/,
  ⟨0x114, 0x0, 1, 0x0, 1, 0x0, 0x0, 0x0, 0x0, 0x0, 0x0⟩ /- GLB_TOVR_LAST -/,
  ⟨0x0, 0x0, 1, 0x0, 1, 0x0, 0x0, 0x0, 0x0, 0x0, 0x64161f3c⟩ /- GLB_ID -/,
  ⟨0x4, 0x0, 1, 0x0, 1, 0x0, 0x0, 0x0, 0x0, 0x0, 0x0⟩ /- GLB_REV -/,
  ⟨0x8, 0x0, 1, 0x0, 1, 0x0, 0x0, 0x0, 0x0, 0x0, 0x1ff403f⟩ /- GLB_CFG -/,
  ⟨0xc, 0x0, 1, 0x0, 1, 0x0, 0x0, 0x80000000, 0x0, 0x0, 0x0⟩ /- GLB_DECERR -/]

/-- Rows of the MZ registers (R493, R248). -/
def rowsMz : List RegRow := [
  ⟨0x220100, 0x0, 1, 0x0, 1, 0x3ff, 0x0, 0x0, 0x0, 0x0, 0x0⟩ /- MZ_FSYNC_CTL -/,
  ⟨0x220104, 0x0, 1, 0x0, 1, 0x0, 0x0, 0x0, 0x0, 0x0, 0x0⟩ /- MZ_FSYNC_TS_LO -/,
  ⟨0x220108, 0x0, 1, 0x0, 1, 0x0, 0x0, 0x0, 0x0, 0x0, 0x0⟩ /- MZ_FSYNC_TS_HI -/,
  ⟨0x22010c, 0x0, 1, 0x0, 1, 0x0, 0x0, 0x0, 0x0, 0x0, 0x0⟩ /- MZ_FSYNC_CNT -/,
  ⟨0x220110, 0x0, 1, 0x0, 1, 0x0, 0x0, 0x2, 0x0, 0x0, 0x0⟩ /- MZ_FSYNC_STAT -/,
  ⟨0x220200, 0x0, 1, 0x0, 1, 0x0, 0x0, 0x700, 0x0, 0x0, 0x0⟩ /- MZ_SW -/,
  ⟨0x220204, 0x0, 1, 0x0, 1, 0x1, 0x0, 0x0, 0x0, 0x0, 0x0⟩ /- MZ_LOCK -/,
  ⟨0x220208, 0x0, 1, 0x0, 1, 0xffffffff, 0x0, 0x0, 0x0, 0x0, 0xc806408⟩ /- MZ_LDR_POS -/,
  ⟨0x220000, 0x0, 1, 0x0, 1, 0x3, 0x0, 0x0, 0x0, 0x0, 0x0⟩ /- MZ_I2C_CTL -/,
  ⟨0x220004, 0x0, 1, 0x0, 1, 0xfff7f, 0x0, 0x0, 0x0, 0x80000000, 0x0⟩ /- MZ_I2C_CMD -/,
  ⟨0x220008, 0x0, 1, 0x0, 1, 0xffffffff, 0x0, 0x0, 0x0, 0x0, 0x0⟩ /- MZ_I2C_DATA -/,
  ⟨0x22000c, 0x0, 1, 0x0, 1, 0x0, 0x0, 0x6, 0x0, 0x0, 0x0⟩ /- MZ_I2C_STAT -/]

/-- Rows of the WP registers (R117). -/
def rowsWp : List RegRow := [
  ⟨0x140000, 0x0, 1, 0x0, 1, 0xff03, 0x0, 0x0, 0x0, 0x0, 0x4001⟩ /- WP_CTL -/,
  ⟨0x140004, 0x0, 1, 0x0, 1, 0x0, 0x0, 0x0, 0x0, 0x0, 0x0⟩ /- WP_STAT -/,
  ⟨0x140008, 0x0, 1, 0x0, 1, 0xfffffff, 0x0, 0x0, 0x0, 0x0, 0x2101704⟩ /- WP_VFY_CTL -/,
  ⟨0x14000c, 0x0, 1, 0x0, 1, 0x1f1f, 0x0, 0x0, 0x0, 0x0, 0x810⟩ /- WP_VFY_WM -/,
  ⟨0x140010, 0x0, 1, 0x0, 1, 0xfffffff, 0x0, 0x0, 0x0, 0x0, 0x3013880⟩ /- WP_RELOC_CTL -/,
  ⟨0x140014, 0x0, 1, 0x0, 1, 0x0, 0x0, 0xffffffff, 0x0, 0x0, 0x0⟩ /- WP_BFAIL_LO -/,
  ⟨0x140018, 0x0, 1, 0x0, 1, 0x0, 0x0, 0xffffffff, 0x0, 0x0, 0x0⟩ /- WP_BFAIL_HI -/,
  ⟨0x140020, 0x10, 4, 0x0, 1, 0x0, 0x0, 0x0, 0x0, 0x0, 0x0⟩ /- WP_Ss_WSEQ -/,
  ⟨0x140024, 0x10, 4, 0x0, 1, 0x0, 0x0, 0x0, 0x0, 0x0, 0x0⟩ /- WP_Ss_VSEQ -/,
  ⟨0x140028, 0x10, 4, 0x0, 1, 0x0, 0x0, 0x0, 0x0, 0x0, 0x0⟩ /- WP_Ss_VQ -/,
  ⟨0x14002c, 0x10, 4, 0x0, 1, 0x0, 0x0, 0x0, 0x0, 0x0, 0x0⟩ /- WP_Ss_WPTR -/,
  ⟨0x140060, 0x0, 1, 0x0, 1, 0x0, 0x0, 0x0, 0xffffffff, 0x0, 0x0⟩ /- WP_CNT_CELLS -/,
  ⟨0x140064, 0x0, 1, 0x0, 1, 0x0, 0x0, 0x0, 0xffffffff, 0x0, 0x0⟩ /- WP_CNT_RELOC -/,
  ⟨0x140068, 0x0, 1, 0x0, 1, 0x0, 0x0, 0x0, 0xffffffff, 0x0, 0x0⟩ /- WP_CNT_VFAIL -/,
  ⟨0x14006c, 0x0, 1, 0x0, 1, 0x0, 0x0, 0x0, 0xffffffff, 0x0, 0x0⟩ /- WP_CNT_VOID -/]

/-- Rows of the SEs registers (R117). -/
def rowsSEs : List RegRow := [
  ⟨0x144000, 0x4000, 4, 0x0, 1, 0x1, 0x0, 0x0, 0x0, 0x2, 0x0⟩ /- SEs_CTL -/,
  ⟨0x144004, 0x4000, 4, 0x0, 1, 0x0, 0x0, 0x0, 0x0, 0x0, 0x0⟩ /- SEs_STAT -/,
  ⟨0x144008, 0x4000, 4, 0x0, 1, 0x0, 0x1f, 0x20, 0x0, 0x0, 0x0⟩ /- SEs_LSAFE -/,
  ⟨0x14400c, 0x4000, 4, 0x0, 1, 0x0, 0x0, 0x0, 0xffffffff, 0x0, 0x0⟩ /- SEs_LSAFE_LOST -/,
  ⟨0x144010, 0x4000, 4, 0x0, 1, 0x0, 0xffff, 0x0, 0x0, 0x0, 0xffff⟩ /- SEs_BGATE -/,
  ⟨0x144014, 0x4000, 4, 0x0, 1, 0xffff, 0x0, 0x0, 0x0, 0x0, 0x0⟩ /- SEs_MAXPWR -/,
  ⟨0x144018, 0x4000, 4, 0x0, 1, 0xff, 0x0, 0x0, 0x0, 0x0, 0xf⟩ /- SEs_MON_TOL -/,
  ⟨0x14401c, 0x4000, 4, 0x0, 1, 0x0, 0x0, 0x0, 0x0, 0x0, 0x0⟩ /- SEs_LAT -/,
  ⟨0x144020, 0x4000, 4, 0x0, 1, 0x0, 0x0, 0x0, 0xffffffff, 0x0, 0x0⟩ /- SEs_ERR -/,
  ⟨0x144024, 0x4000, 4, 0x0, 1, 0x0, 0x0, 0x0, 0x0, 0x0, 0x0⟩ /- SEs_TEMP -/,
  ⟨0x144028, 0x4000, 4, 0x0, 1, 0x0, 0x0, 0x0, 0x0, 0x0, 0x0⟩ /- SEs_FAULT -/,
  ⟨0x144030, 0x4000, 4, 0x0, 1, 0xffff06, 0x0, 0x0, 0x0, 0x1, 0x0⟩ /- SEs_MGMT_CMD -/,
  ⟨0x144034, 0x4000, 4, 0x0, 1, 0xffffffff, 0x0, 0x0, 0x0, 0x0, 0x0⟩ /- SEs_MGMT_DATA -/,
  ⟨0x144100, 0x4000, 4, 0x8, 16, 0xffffffff, 0x0, 0x0, 0x0, 0x0, 0x0⟩ /- SEs_BPWR_b -/,
  ⟨0x144104, 0x4000, 4, 0x8, 16, 0xffff, 0x0, 0x0, 0x0, 0x0, 0x0⟩ /- SEs_BRD_b -/,
  ⟨0x144200, 0x4000, 4, 0x4, 16, 0x0, 0x0, 0x0, 0x0, 0x0, 0x0⟩ /- SEs_MON_b -/]

/-- Rows of the BMnn registers (R153). -/
def rowsBMnn : List RegRow := [
  ⟨0x180000, 0x800, 64, 0x0, 1, 0x7, 0x0, 0x0, 0x0, 0x8, 0x5⟩ /- BMnn_CTL -/,
  ⟨0x180004, 0x800, 64, 0x0, 1, 0x0, 0x0, 0x0, 0x0, 0x0, 0x0⟩ /- BMnn_STAT -/,
  ⟨0x180008, 0x800, 64, 0x0, 1, 0xff0, 0x0, 0x0, 0x0, 0x0, 0x680⟩ /- BMnn_AFE -/,
  ⟨0x18000c, 0x800, 64, 0x0, 1, 0xfffff0, 0x0, 0x0, 0x0, 0x0, 0x6a7bc0⟩ /- BMnn_LOOP -/,
  ⟨0x180010, 0x800, 64, 0x0, 1, 0xffff, 0x0, 0x0, 0x0, 0x0, 0x100⟩ /- BMnn_FRZ -/,
  ⟨0x180014, 0x800, 64, 0x0, 1, 0x3ffffff, 0x0, 0x0, 0x0, 0x0, 0x1800000⟩ /- BMnn_PRESET -/,
  ⟨0x180018, 0x800, 64, 0x0, 1, 0x0, 0x0, 0x0, 0x0, 0x0, 0x1800000⟩ /- BMnn_LOOP_VAL -/,
  ⟨0x18001c, 0x800, 64, 0x0, 1, 0xffff0, 0x0, 0x0, 0x0, 0x0, 0x496c0⟩ /- BMnn_TR_CTL -/,
  ⟨0x180020, 0x800, 64, 0x0, 1, 0x0, 0x0, 0x0, 0x0, 0x0, 0x0⟩ /- BMnn_TR_STAT -/,
  ⟨0x180024, 0x800, 64, 0x0, 1, 0xf, 0x0, 0x0, 0x0, 0x0, 0xa⟩ /- BMnn_EQ_CTL -/,
  ⟨0x180028, 0x800, 64, 0x0, 1, 0xfffff, 0x0, 0x0, 0x0, 0x0, 0x12221⟩ /- BMnn_EQ_TGT -/,
  ⟨0x180040, 0x800, 64, 0x4, 15, 0x3ff, 0x0, 0x0, 0x0, 0x0, 0x100⟩ /- BMnn_EQ_INIT_k -/,
  ⟨0x180080, 0x800, 64, 0x4, 15, 0x0, 0x0, 0x0, 0x0, 0x0, 0x0⟩ /- BMnn_EQ_TAP_k -/,
  ⟨0x1800c0, 0x800, 64, 0x0, 1, 0xffffffff, 0x0, 0x0, 0x0, 0x0, 0x32961040⟩ /- BMnn_DEF_CTL -/,
  ⟨0x1800c4, 0x800, 64, 0x0, 1, 0x7f0f77, 0x0, 0x0, 0x0, 0x0, 0x400843⟩ /- BMnn_SYNC_CTL -/,
  ⟨0x1800c8, 0x800, 64, 0x0, 1, 0x0, 0x0, 0x0, 0x0, 0x0, 0x0⟩ /- BMnn_ADC_STAT -/,
  ⟨0x1800d0, 0x800, 64, 0x4, 8, 0x807f807f, 0x0, 0x0, 0x0, 0x0, 0x0⟩ /- BMnn_ADC_MAP_k -/,
  ⟨0x180100, 0x800, 64, 0x0, 1, 0x0, 0x0, 0x0, 0xffffffff, 0x0, 0x0⟩ /- BMnn_CNT_CELLS -/,
  ⟨0x180104, 0x800, 64, 0x0, 1, 0x0, 0x0, 0x0, 0xffffffff, 0x0, 0x0⟩ /- BMnn_CNT_SYNC -/,
  ⟨0x180108, 0x800, 64, 0x0, 1, 0x0, 0x0, 0x0, 0xffffffff, 0x0, 0x0⟩ /- BMnn_CNT_RSYNC -/,
  ⟨0x18010c, 0x800, 64, 0x0, 1, 0x0, 0x0, 0x0, 0xffffffff, 0x0, 0x0⟩ /- BMnn_CNT_DEF -/,
  ⟨0x180110, 0x800, 64, 0x0, 1, 0x0, 0x0, 0x0, 0x0, 0x0, 0x0⟩ /- BMnn_Q_MSE -/,
  ⟨0x180114, 0x800, 64, 0x0, 1, 0x0, 0x0, 0x0, 0x0, 0x0, 0x0⟩ /- BMnn_Q_BER -/,
  ⟨0x180118, 0x800, 64, 0x0, 1, 0x0, 0x0, 0x0, 0x0, 0x0, 0x0⟩ /- BMnn_Q_ITER -/,
  ⟨0x18011c, 0x800, 64, 0x0, 1, 0xffff, 0x0, 0x0, 0x0, 0x0, 0x10⟩ /- BMnn_EVT_THR -/]

/-- Rows of the RC registers (R153). -/
def rowsRc : List RegRow := [
  ⟨0x1a0000, 0x0, 1, 0x0, 1, 0x7df3ff1, 0x0, 0x0, 0x0, 0x0, 0x3d02081⟩ /- RC_CTL -/,
  ⟨0x1a0004, 0x0, 1, 0x0, 1, 0x1f1f1f, 0x0, 0x0, 0x0, 0x0, 0x60408⟩ /- RC_SPLIT -/,
  ⟨0x1a0008, 0x0, 1, 0x0, 1, 0x0, 0x0, 0x80000000, 0x0, 0x0, 0x14000000⟩ /- RC_STAT -/,
  ⟨0x1a000c, 0x0, 1, 0x0, 1, 0xfffff, 0x0, 0x0, 0x0, 0x0, 0x0⟩ /- RC_ENG_OFF -/,
  ⟨0x1a0010, 0x0, 1, 0x0, 1, 0x0, 0x0, 0xfffff, 0x0, 0x0, 0x0⟩ /- RC_ENG_FAULT -/,
  ⟨0x1a0014, 0x0, 1, 0x0, 1, 0x1f1f, 0x0, 0x0, 0x0, 0x0, 0x810⟩ /- RC_RDWM -/,
  ⟨0x1a0018, 0x0, 1, 0x0, 1, 0x0, 0x0, 0x0, 0x0, 0x0, 0x0⟩ /- RC_THROT -/,
  ⟨0x1a001c, 0x0, 1, 0x0, 1, 0x0, 0x0, 0x0, 0x0, 0x0, 0x0⟩ /- RC_VBUF_BASE -/,
  ⟨0x1a0020, 0x0, 1, 0x0, 1, 0x0, 0x0, 0x0, 0x0, 0x0, 0x0⟩ /- RC_RBUF_BASE -/,
  ⟨0x1a0030, 0x4, 4, 0x0, 1, 0x0, 0x0, 0x0, 0x0, 0x0, 0x0⟩ /- RC_Ss_Q -/,
  ⟨0x1a0040, 0x0, 1, 0x0, 1, 0x0, 0x0, 0x0, 0xffffffff, 0x0, 0x0⟩ /- RC_CNT_DEC -/,
  ⟨0x1a0044, 0x0, 1, 0x0, 1, 0x0, 0x0, 0x0, 0xffffffff, 0x0, 0x0⟩ /- RC_CNT_FAIL -/,
  ⟨0x1a0048, 0x0, 1, 0x0, 1, 0x0, 0x0, 0x0, 0xffffffff, 0x0, 0x0⟩ /- RC_CNT_REBUILD -/,
  ⟨0x1a004c, 0x0, 1, 0x0, 1, 0x0, 0x0, 0x0, 0xffffffff, 0x0, 0x0⟩ /- RC_CNT_UNREC -/,
  ⟨0x1a0050, 0x0, 1, 0x0, 1, 0x0, 0x0, 0x0, 0xffffffff, 0x0, 0x0⟩ /- RC_CNT_LATE -/,
  ⟨0x1a0054, 0x0, 1, 0x0, 1, 0x0, 0x0, 0x0, 0xffffffff, 0x0, 0x0⟩ /- RC_CNT_PRECHK -/]

/-- Rows of the LE registers (R181). -/
def rowsLe1 : List RegRow := [
  ⟨0x80000, 0x0, 1, 0x0, 1, 0xf0000ff, 0x0, 0x0, 0x0, 0x80000000, 0x0⟩ /- LE_LOAD -/,
  ⟨0x80004, 0x0, 1, 0x0, 1, 0x0, 0x0, 0x0, 0x0, 0x0, 0x0⟩ /- LE_LOAD_STAT -/,
  ⟨0x80008, 0x0, 1, 0x0, 1, 0x3f, 0x0, 0x0, 0x0, 0x100, 0x0⟩ /- LE_COEF_CTL -/,
  ⟨0x8000c, 0x0, 1, 0x0, 1, 0x0, 0x0, 0x0, 0x7ff0000, 0x0, 0x0⟩ /- LE_USE -/,
  ⟨0x80010, 0x0, 1, 0x0, 1, 0x0, 0xffffffff, 0x0, 0x0, 0x0, 0x0⟩ /- LE_OVR_LO -/,
  ⟨0x80014, 0x0, 1, 0x0, 1, 0x0, 0x3fffff, 0x0, 0x0, 0x0, 0x0⟩ /- LE_OVR_HI -/,
  ⟨0x80018, 0x0, 1, 0x0, 1, 0x0, 0x0, 0x0, 0xffffffff, 0x0, 0x0⟩ /- LE_OVR_LOST -/,
  ⟨0x8001c, 0x0, 1, 0x0, 1, 0x0, 0x0, 0xffffffff, 0x0, 0x0, 0x0⟩ /- LE_SAT_LO -/,
  ⟨0x80020, 0x0, 1, 0x0, 1, 0x0, 0x0, 0xffff, 0x0, 0x0, 0x0⟩ /- LE_SAT_HI -/,
  ⟨0x80024, 0x0, 1, 0x0, 1, 0x0, 0x0, 0xf, 0xffff0000, 0x0, 0x0⟩ /- LE_ERR -/,
  ⟨0x80028, 0x0, 1, 0x0, 1, 0x0, 0x0, 0x0, 0x0, 0x0, 0x0⟩ /- LE_ERR_ADDR -/,
  ⟨0x8002c, 0x0, 1, 0x0, 1, 0x0, 0x0, 0x0, 0xffff0000, 0x0, 0x0⟩ /- LE_EVT -/,
  ⟨0x80030, 0x4, 3, 0x0, 1, 0x0, 0x0, 0x0, 0x0, 0x0, 0x0⟩ /- LE_MISS_k -/,
  ⟨0x80040, 0x4, 16, 0x0, 1, 0x0, 0xff, 0x0, 0x0, 0x0, 0x0⟩ /- LE_PSW_k -/,
  ⟨0x80080, 0x4, 16, 0x0, 1, 0x0, 0x0, 0x0, 0xffffffff, 0x0, 0x0⟩ /- LE_PSW_LOST_k -/,
  ⟨0x800c0, 0x0, 1, 0x0, 1, 0x0, 0x0, 0x0, 0x0, 0x0, 0x0⟩ /- LE_PATCH_STAT -/,
  ⟨0x80100, 0x4, 16, 0x0, 1, 0x0, 0x0, 0x80000000, 0x0, 0x0, 0x0⟩ /- LE_MATCH_k -/,
  ⟨0x80200, 0x4, 64, 0x0, 1, 0x0, 0x0, 0x0, 0x0, 0x0, 0x0⟩ /- LE_OPCOST_k -/,
  ⟨0x81000, 0x8, 48, 0x0, 1, 0xffffff, 0x80000000, 0x0, 0x0, 0x0, 0x0⟩ /- LE_SLOT_k_W0 -/,
  ⟨0x81004, 0x8, 48, 0x0, 1, 0xf00007ff, 0x0, 0x0, 0x0, 0x0, 0x0⟩ /- LE_SLOT_k_W1 -/,
  ⟨0x81400, 0x8, 48, 0x0, 1, 0x80ffffff, 0x0, 0x0, 0x0, 0x0, 0x0⟩ /- LE_SLOTSH_k_W0 -/,
  ⟨0x81404, 0x8, 48, 0x0, 1, 0xf00007ff, 0x0, 0x0, 0x0, 0x0, 0x0⟩ /- LE_SLOTSH_k_W1 -/,
  ⟨0x82000, 0x10, 256, 0x0, 1, 0x1ffffff, 0x0, 0x0, 0x0, 0x0, 0x0⟩ /- LE_PDESC_p_W0 -/,
  ⟨0x82004, 0x10, 256, 0x0, 1, 0x1fff0fff, 0x0, 0x0, 0x0, 0x0, 0x0⟩ /- LE_PDESC_p_W1 -/,
  ⟨0x82008, 0x10, 256, 0x0, 1, 0x0, 0x0, 0x0, 0x0, 0x0, 0x0⟩ /- LE_PDESC_p_W2 -/,
  ⟨0x8200c, 0x10, 256, 0x0, 1, 0x0, 0x0, 0x0, 0x0, 0x0, 0x0⟩ /- LE_PDESC_p_W3 -/,
  ⟨0x84000, 0x4, 4096, 0x0, 1, 0xffffffff, 0x0, 0x0, 0x0, 0x0, 0x0⟩ /- LE_PMEM_i -/,
  ⟨0x88000, 0x4, 8192, 0x0, 1, 0xffffffff, 0x0, 0x0, 0x0, 0x0, 0x0⟩ /- LE_DMEM_w -/,
  ⟨0x90000, 0x4000, 4, 0x4, 4096, 0xffffffff, 0x0, 0x0, 0x0, 0x0, 0x0⟩ /- LE_CMEM_q_c -/,
  ⟨0xa0000, 0x8, 1024, 0x0, 1, 0x0, 0x0, 0x0, 0x0, 0x0, 0x0⟩ /- LE_PRAM_LO -/]

/-- Rows of the LE registers (R181). -/
def rowsLe2 : List RegRow := [
  ⟨0xa0004, 0x8, 1024, 0x0, 1, 0x0, 0x0, 0x0, 0x0, 0x0, 0x0⟩ /- LE_PRAM_HI -/,
  ⟨0xa4000, 0x4, 4096, 0x0, 1, 0xffffffff, 0x0, 0x0, 0x0, 0x0, 0x0⟩ /- LE_PSTAGE -/]

/-- Rows of the SFs registers (R204). -/
def rowsSFs : List RegRow := [
  ⟨0x100000, 0x4000, 4, 0x0, 1, 0x7, 0x0, 0x0, 0x0, 0x0, 0x5⟩ /- SFs_CTL -/,
  ⟨0x100004, 0x4000, 4, 0x0, 1, 0x0, 0x0, 0x0, 0x0, 0x0, 0x0⟩ /- SFs_STAT -/,
  ⟨0x100008, 0x4000, 4, 0x0, 1, 0x4, 0x0, 0x2, 0x0, 0x0, 0x0⟩ /- SFs_INTLK -/,
  ⟨0x100010, 0x4000, 4, 0x4, 3, 0x1ff, 0x0, 0x0, 0x0, 0x0, 0x12c⟩ /- SFs_DAC_LIM_k -/,
  ⟨0x100020, 0x4000, 4, 0x4, 3, 0x0, 0x0, 0x0, 0x0, 0x0, 0x0⟩ /- SFs_DAC_OUT_k -/,
  ⟨0x100040, 0x4000, 4, 0x4, 9, 0x3fff, 0x0, 0x0, 0x0, 0x0, 0x0⟩ /- SFs_ADC_OFS_k -/,
  ⟨0x100080, 0x4000, 4, 0x4, 9, 0x0, 0x0, 0x0, 0x0, 0x0, 0x0⟩ /- SFs_SMP_k -/,
  ⟨0x1000c0, 0x4000, 4, 0x0, 1, 0x30f, 0x0, 0x0, 0x0, 0x0, 0x6⟩ /- SFs_WBL_CTL -/,
  ⟨0x1000c4, 0x4000, 4, 0x0, 1, 0x0, 0x0, 0x0, 0x0, 0x0, 0x0⟩ /- SFs_WBL_STAT -/,
  ⟨0x1000c8, 0x4000, 4, 0x0, 1, 0x0, 0x0, 0x0, 0x0, 0x0, 0x0⟩ /- SFs_WADR -/,
  ⟨0x1000cc, 0x4000, 4, 0x0, 1, 0x0, 0x0, 0x0, 0xffffffff, 0x0, 0x0⟩ /- SFs_WCNT -/,
  ⟨0x1000d0, 0x4000, 4, 0x0, 1, 0x0, 0x0, 0x0, 0xffffffff, 0x0, 0x0⟩ /- SFs_CNT_EVT -/]

/-- Rows of the SPn registers (R227). -/
def rowsSPn : List RegRow := [
  ⟨0x120000, 0x1000, 2, 0x0, 1, 0x3, 0x0, 0x0, 0x0, 0x0, 0x0⟩ /- SPn_CTL -/,
  ⟨0x120004, 0x1000, 2, 0x0, 1, 0x3fff, 0x0, 0x0, 0x0, 0x0, 0x2328⟩ /- SPn_SPD_SET -/,
  ⟨0x120008, 0x1000, 2, 0x0, 1, 0x0, 0x0, 0x0, 0x0, 0x0, 0x0⟩ /- SPn_STAT -/,
  ⟨0x12000c, 0x1000, 2, 0x0, 1, 0x0, 0x0, 0xf, 0x0, 0x0, 0x0⟩ /- SPn_FAULT -/,
  ⟨0x120010, 0x1000, 2, 0x0, 1, 0xffffffff, 0x0, 0x0, 0x0, 0x0, 0xfa280320⟩ /- SPn_SHUNT -/,
  ⟨0x120014, 0x1000, 2, 0x0, 1, 0x0, 0x0, 0x0, 0x0, 0x0, 0x0⟩ /- SPn_SHUNT_OFS -/,
  ⟨0x120018, 0x1000, 2, 0x0, 1, 0xffffffff, 0x0, 0x0, 0x0, 0x0, 0x4b141e64⟩ /- SPn_START -/,
  ⟨0x12001c, 0x1000, 2, 0x0, 1, 0xffffffff, 0x0, 0x0, 0x0, 0x0, 0x8c8c9648⟩ /- SPn_LIMITS -/,
  ⟨0x120020, 0x1000, 2, 0x0, 1, 0xff0fff, 0x0, 0x0, 0x0, 0x0, 0x32041e⟩ /- SPn_RLOSS -/,
  ⟨0x120024, 0x1000, 2, 0x0, 1, 0xffffffff, 0x0, 0x0, 0x0, 0x0, 0x12cc3be⟩ /- SPn_BRAKE -/,
  ⟨0x120028, 0x1000, 2, 0x0, 1, 0x0, 0x0, 0x0, 0x0, 0x0, 0x0⟩ /- SPn_COAST -/,
  ⟨0x12002c, 0x1000, 2, 0x0, 1, 0x0, 0x0, 0x0, 0x0, 0x0, 0x0⟩ /- SPn_MEAS -/,
  ⟨0x120030, 0x1000, 2, 0x0, 1, 0x0, 0x0, 0x0, 0xffffffff, 0x0, 0x0⟩ /- SPn_CNT -/,
  ⟨0x120034, 0x1000, 2, 0x0, 1, 0x0, 0x0, 0x0, 0xffff, 0x0, 0x0⟩ /- SPn_SKIP -/]

/-- Rows of the AXa registers (R247). -/
def rowsAXa : List RegRow := [
  ⟨0x130000, 0x400, 9, 0x0, 1, 0xf33, 0x0, 0x0, 0x0, 0x4, 0x120⟩ /- AXa_CTL -/,
  ⟨0x130004, 0x400, 9, 0x0, 1, 0x0, 0x0, 0x0, 0x0, 0x0, 0x0⟩ /- AXa_STAT -/,
  ⟨0x130008, 0x400, 9, 0x0, 1, 0x0, 0x0, 0x1f, 0x0, 0x0, 0x0⟩ /- AXa_FAULT -/,
  ⟨0x13000c, 0x400, 9, 0x0, 1, 0xffffffff, 0x0, 0x0, 0x0, 0x0, 0x0⟩ /- AXa_TGT -/,
  ⟨0x130010, 0x400, 9, 0x0, 1, 0x0, 0x0, 0x0, 0x0, 0xffffffff, 0x0⟩ /- AXa_REL -/,
  ⟨0x130014, 0x400, 9, 0x0, 1, 0x0, 0x0, 0x0, 0x0, 0x0, 0x0⟩ /- AXa_FOLLOW_TGT -/,
  ⟨0x130018, 0x400, 9, 0x0, 1, 0x0, 0x0, 0x0, 0x0, 0x0, 0x0⟩ /- AXa_POS -/,
  ⟨0x13001c, 0x400, 9, 0x0, 1, 0x0, 0x0, 0x0, 0x0, 0x0, 0x0⟩ /- AXa_VEL -/,
  ⟨0x130020, 0x400, 9, 0x0, 1, 0xffffffff, 0x0, 0x0, 0x0, 0x0, 0x0⟩ /- AXa_VMAX -/,
  ⟨0x130024, 0x400, 9, 0x0, 1, 0xffffffff, 0x0, 0x0, 0x0, 0x0, 0x0⟩ /- AXa_AMAX -/,
  ⟨0x130028, 0x400, 9, 0x0, 1, 0xffffffff, 0x0, 0x0, 0x0, 0x0, 0x0⟩ /- AXa_JMAX -/,
  ⟨0x13002c, 0x400, 9, 0x0, 1, 0xffffffff, 0x0, 0x0, 0x0, 0x0, 0x0⟩ /- AXa_AEMG -/,
  ⟨0x130030, 0x400, 9, 0x0, 1, 0xffffffff, 0x0, 0x0, 0x0, 0x0, 0x0⟩ /- AXa_SLIM_LO -/,
  ⟨0x130034, 0x400, 9, 0x0, 1, 0xffffffff, 0x0, 0x0, 0x0, 0x0, 0x0⟩ /- AXa_SLIM_HI -/,
  ⟨0x130038, 0x400, 9, 0x0, 1, 0xffffff00, 0x0, 0x0, 0x0, 0x0, 0x0⟩ /- AXa_CUR -/,
  ⟨0x13003c, 0x400, 9, 0x0, 1, 0xffffffff, 0x0, 0x0, 0x0, 0x0, 0x0⟩ /- AXa_TIME -/,
  ⟨0x130040, 0x400, 9, 0x0, 1, 0xffff, 0x0, 0x0, 0x0, 0x0, 0x1000⟩ /- AXa_RES -/,
  ⟨0x130044, 0x400, 9, 0x0, 1, 0xffffffff, 0x0, 0x0, 0x0, 0x0, 0x0⟩ /- AXa_HOME_V -/,
  ⟨0x130048, 0x400, 9, 0x0, 1, 0xffffffff, 0x0, 0x0, 0x0, 0x0, 0x0⟩ /- AXa_HOME_POS -/,
  ⟨0x13004c, 0x400, 9, 0x0, 1, 0xffffffff, 0x0, 0x0, 0x0, 0x0, 0x0⟩ /- AXa_HOME_MAX -/,
  ⟨0x130050, 0x400, 9, 0x0, 1, 0xffff, 0x0, 0x0, 0x0, 0x0, 0x0⟩ /- AXa_BACKOFF -/,
  ⟨0x130054, 0x400, 9, 0x0, 1, 0xffffffff, 0x0, 0x0, 0x0, 0x0, 0x2001408⟩ /- AXa_STALL -/,
  ⟨0x130058, 0x400, 9, 0x0, 1, 0xffff, 0x0, 0x0, 0x0, 0x0, 0x80⟩ /- AXa_SGV -/,
  ⟨0x13005c, 0x400, 9, 0x0, 1, 0xffffffff, 0x0, 0x0, 0x0, 0x0, 0x40000⟩ /- AXa_ENC_K -/,
  ⟨0x130060, 0x400, 9, 0x0, 1, 0x0, 0x0, 0x0, 0x0, 0x0, 0x0⟩ /- AXa_ENC -/,
  ⟨0x130064, 0x400, 9, 0x0, 1, 0x0, 0x0, 0x0, 0x0, 0x0, 0x0⟩ /- AXa_LOAD -/,
  ⟨0x130068, 0x400, 9, 0x0, 1, 0x0, 0x0, 0x0, 0xffffffff, 0x0, 0x0⟩ /- AXa_CNT -/]

/-- Rows of the HQ registers (R277). -/
def rowsHq : List RegRow := [
  ⟨0x40000, 0x0, 1, 0x0, 1, 0xf13, 0x0, 0x0, 0x0, 0x0, 0x300⟩ /- HQ_CTL -/,
  ⟨0x40004, 0x0, 1, 0x0, 1, 0x0, 0x0, 0x0, 0x0, 0x0, 0x0⟩ /- HQ_STAT -/,
  ⟨0x40008, 0x0, 1, 0x0, 1, 0xfff0fff, 0x0, 0x0, 0x0, 0x0, 0x0⟩ /- HQ_AQ_SIZE -/,
  ⟨0x40010, 0x0, 1, 0x0, 1, 0xffffffff, 0x0, 0x0, 0x0, 0x0, 0x0⟩ /- HQ_ASQ_LO -/,
  ⟨0x40014, 0x0, 1, 0x0, 1, 0xffffffff, 0x0, 0x0, 0x0, 0x0, 0x0⟩ /- HQ_ASQ_HI -/,
  ⟨0x40018, 0x0, 1, 0x0, 1, 0xffffffff, 0x0, 0x0, 0x0, 0x0, 0x0⟩ /- HQ_ACQ_LO -/,
  ⟨0x4001c, 0x0, 1, 0x0, 1, 0xffffffff, 0x0, 0x0, 0x0, 0x0, 0x0⟩ /- HQ_ACQ_HI -/,
  ⟨0x40020, 0x0, 1, 0x0, 1, 0xffffffff, 0x0, 0x0, 0x0, 0x0, 0x1010101⟩ /- HQ_CLASS_W -/,
  ⟨0x40024, 0x0, 1, 0x0, 1, 0x0, 0x0, 0x0, 0x0, 0x0, 0x0⟩ /- HQ_LINK -/,
  ⟨0x40028, 0x0, 1, 0x0, 1, 0x0, 0x0, 0x0, 0x7ff0000, 0x0, 0x0⟩ /- HQ_LOCKS -/,
  ⟨0x4002c, 0x0, 1, 0x0, 1, 0x0, 0x0, 0x80000000, 0x0, 0x0, 0x0⟩ /- HQ_DBERR -/,
  ⟨0x40030, 0x0, 1, 0x0, 1, 0x0, 0x0, 0x0, 0x0, 0x0, 0x0⟩ /- HQ_ELOG_CNT -/,
  ⟨0x40034, 0x0, 1, 0x0, 1, 0x0, 0x0, 0x0, 0xffffffff, 0x0, 0x0⟩ /- HQ_CNT_FETCH -/,
  ⟨0x40038, 0x0, 1, 0x0, 1, 0x0, 0x0, 0x0, 0xffffffff, 0x0, 0x0⟩ /- HQ_CNT_CPL -/,
  ⟨0x4003c, 0x0, 1, 0x0, 1, 0x0, 0x0, 0x0, 0xffffffff, 0x0, 0x0⟩ /- HQ_CNT_ERR -/,
  ⟨0x40040, 0x4, 4, 0x0, 1, 0x0, 0x0, 0x0, 0x0, 0x0, 0x0⟩ /- HQ_FROZEN_k -/,
  ⟨0x40050, 0x4, 4, 0x0, 1, 0x0, 0x0, 0x0, 0x0, 0x0, 0x0⟩ /- HQ_PAIR_k -/,
  ⟨0x41000, 0x10, 128, 0x0, 1, 0x0, 0x0, 0x0, 0x0, 0x0, 0x0⟩ /- HQ_Pq_CFG -/,
  ⟨0x41004, 0x10, 128, 0x0, 1, 0x0, 0x0, 0x0, 0x0, 0x0, 0x0⟩ /- HQ_Pq_SQ -/,
  ⟨0x41008, 0x10, 128, 0x0, 1, 0x0, 0x0, 0x0, 0x0, 0x0, 0x0⟩ /- HQ_Pq_CQ -/,
  ⟨0x4100c, 0x10, 128, 0x0, 1, 0x0, 0x0, 0x0, 0x0, 0x0, 0x0⟩ /- HQ_Pq_ATTR -/]

/-- Rows of the PT registers (R367). -/
def rowsPt1 : List RegRow := [
  ⟨0x1c0000, 0x0, 1, 0x0, 1, 0xd, 0x0, 0x0, 0x0, 0x0, 0xd⟩ /- PT_CTL -/,
  ⟨0x1c0004, 0x0, 1, 0x0, 1, 0x0, 0x0, 0x40, 0x0, 0x0, 0x0⟩ /- PT_STAT -/,
  ⟨0x1c0008, 0x0, 1, 0x0, 1, 0xffffffc0, 0x0, 0x0, 0x0, 0x0, 0x0⟩ /- PT_DQ_BASE_LO -/,
  ⟨0x1c000c, 0x0, 1, 0x0, 1, 0xffffffff, 0x0, 0x0, 0x0, 0x0, 0x0⟩ /- PT_DQ_BASE_HI -/,
  ⟨0x1c0010, 0x0, 1, 0x0, 1, 0xffffffc0, 0x0, 0x0, 0x0, 0x0, 0x0⟩ /- PT_CQ_BASE_LO -/,
  ⟨0x1c0014, 0x0, 1, 0x0, 1, 0xffffffff, 0x0, 0x0, 0x0, 0x0, 0x0⟩ /- PT_CQ_BASE_HI -/,
  ⟨0x1c0018, 0x0, 1, 0x0, 1, 0xfff, 0x0, 0x0, 0x0, 0x0, 0xfff⟩ /- PT_Q_SIZE -/,
  ⟨0x1c001c, 0x0, 1, 0x0, 1, 0x0, 0x0, 0x0, 0x0, 0x0, 0x1000⟩ /- PT_DQ_RSV -/,
  ⟨0x1c0020, 0x0, 1, 0x0, 1, 0x0, 0x0, 0x0, 0x0, 0xffffffff, 0x0⟩ /- PT_DQ_KICK -/,
  ⟨0x1c0024, 0x0, 1, 0x0, 1, 0x0, 0x0, 0x0, 0x0, 0x0, 0x1000⟩ /- PT_DQ_HEAD -/,
  ⟨0x1c0028, 0x0, 1, 0x0, 1, 0xfff, 0x0, 0x0, 0x0, 0x0, 0x0⟩ /- PT_CQ_HEAD -/,
  ⟨0x1c002c, 0x0, 1, 0x0, 1, 0x0, 0x0, 0x0, 0x0, 0x0, 0x1000⟩ /- PT_CQ_TAIL -/,
  ⟨0x1c0030, 0x0, 1, 0x0, 1, 0xffffffff, 0x0, 0x0, 0x0, 0x0, 0xa8f20fa0⟩ /- PT_THR -/,
  ⟨0x1c0034, 0x0, 1, 0x0, 1, 0x0, 0x0, 0x0, 0x0, 0x0, 0x0⟩ /- PT_TEMP -/,
  ⟨0x1c0038, 0x0, 1, 0x0, 1, 0x0, 0x0, 0x0, 0x0, 0x0, 0x646464⟩ /- PT_HEALTH -/,
  ⟨0x1c003c, 0x0, 1, 0x0, 1, 0x0, 0x0, 0x0, 0x0, 0x0, 0x0⟩ /- PT_POOL -/,
  ⟨0x1c0040, 0x0, 1, 0x0, 1, 0x0, 0x0, 0x0, 0x0, 0x0, 0x0⟩ /- PT_JSEQ_LO -/,
  ⟨0x1c0044, 0x0, 1, 0x0, 1, 0x0, 0x0, 0x0, 0x0, 0x0, 0x0⟩ /- PT_JSEQ_HI -/,
  ⟨0x1c0048, 0x0, 1, 0x0, 1, 0x0, 0x0, 0x0, 0x0, 0x0, 0x64⟩ /- PT_JRNL -/,
  ⟨0x1c004c, 0x0, 1, 0x0, 1, 0x0, 0x0, 0x0, 0x0, 0x0, 0x0⟩ /- PT_DIE_FAIL -/,
  ⟨0x1c0050, 0x0, 1, 0x0, 1, 0x0, 0x0, 0x0, 0x0, 0x0, 0x0⟩ /- PT_DIE_BUSY -/,
  ⟨0x1c0054, 0x0, 1, 0x0, 1, 0x0, 0x0, 0x0, 0x0, 0x0, 0x0⟩ /- PT_RECOV -/,
  ⟨0x1c0060, 0x0, 1, 0x0, 1, 0x0, 0x0, 0x0, 0xffffffff, 0x0, 0x0⟩ /- PT_CNT_RD -/,
  ⟨0x1c0064, 0x0, 1, 0x0, 1, 0x0, 0x0, 0x0, 0xffffffff, 0x0, 0x0⟩ /- PT_CNT_PG -/,
  ⟨0x1c0068, 0x0, 1, 0x0, 1, 0x0, 0x0, 0x0, 0xffffffff, 0x0, 0x0⟩ /- PT_CNT_ER -/,
  ⟨0x1c006c, 0x0, 1, 0x0, 1, 0x0, 0x0, 0x0, 0xffffffff, 0x0, 0x0⟩ /- PT_CNT_BUSY -/,
  ⟨0x1c0070, 0x0, 1, 0x0, 1, 0x0, 0x0, 0x0, 0xffffffff, 0x0, 0x0⟩ /- PT_CNT_WARN -/,
  ⟨0x1c0074, 0x0, 1, 0x0, 1, 0x0, 0x0, 0x0, 0xffffffff, 0x0, 0x0⟩ /- PT_CNT_RETRY -/,
  ⟨0x1c0078, 0x0, 1, 0x0, 1, 0x0, 0x0, 0x0, 0xffffffff, 0x0, 0x0⟩ /- PT_CNT_UNC -/,
  ⟨0x1c007c, 0x0, 1, 0x0, 1, 0x0, 0x0, 0x0, 0xffffffff, 0x0, 0x0⟩ /- PT_CNT_RETIRE -/]

/-- Rows of the PT registers (R367). -/
def rowsPt2 : List RegRow := [
  ⟨0x1c0100, 0x4, 16, 0x0, 1, 0xfffffff, 0x0, 0x0, 0x0, 0x0, 0x0⟩ /- PT_RR_TLC_k -/,
  ⟨0x1c0140, 0x4, 16, 0x0, 1, 0xf, 0x0, 0x0, 0x0, 0x0, 0x0⟩ /- PT_RR_SLC_k -/]

/-- Rows of the DR registers (R392). -/
def rowsDr : List RegRow := [
  ⟨0x1d0000, 0x0, 1, 0x0, 1, 0xff01, 0x0, 0x0, 0x0, 0x0, 0x4001⟩ /- DR_CTL -/,
  ⟨0x1d0004, 0x0, 1, 0x0, 1, 0x0, 0x0, 0x0, 0x0, 0x0, 0x0⟩ /- DR_STAT -/,
  ⟨0x1d0008, 0x0, 1, 0x0, 1, 0xff, 0x0, 0x0, 0x0, 0x0, 0x4⟩ /- DR_SCRUB -/,
  ⟨0x1d000c, 0x0, 1, 0x0, 1, 0x0, 0x0, 0x0, 0x0, 0x0, 0x0⟩ /- DR_SCRUB_POS -/,
  ⟨0x1d0010, 0x0, 1, 0x0, 1, 0x0, 0x0, 0x0, 0x0, 0x0, 0x0⟩ /- DR_SCRUB_PASS -/,
  ⟨0x1d0014, 0x0, 1, 0x0, 1, 0xffff0000, 0x0, 0x0, 0x0, 0x0, 0x400000⟩ /- DR_CE_BKT -/,
  ⟨0x1d0018, 0x0, 1, 0x0, 1, 0xffffff, 0x0, 0x0, 0x0, 0x0, 0x3a98⟩ /- DR_CE_LEAK -/,
  ⟨0x1d001c, 0x0, 1, 0x0, 1, 0x0, 0x0, 0x0, 0x0, 0x0, 0x0⟩ /- DR_CE_CNT -/,
  ⟨0x1d0020, 0x0, 1, 0x0, 1, 0x0, 0x0, 0x0, 0xffff, 0x0, 0x0⟩ /- DR_CE_OVF -/,
  ⟨0x1d0024, 0x0, 1, 0x0, 1, 0x0, 0x0, 0x0, 0x0, 0x0, 0x0⟩ /- DR_CE_ADDR_LO -/,
  ⟨0x1d0028, 0x0, 1, 0x0, 1, 0x0, 0x0, 0x0, 0x0, 0x0, 0x0⟩ /- DR_CE_ADDR_HI -/,
  ⟨0x1d002c, 0x0, 1, 0x0, 1, 0x0, 0x0, 0x0, 0x0, 0x0, 0x0⟩ /- DR_UE_ADDR_LO -/,
  ⟨0x1d0030, 0x0, 1, 0x0, 1, 0x0, 0x0, 0x0, 0x0, 0x0, 0x0⟩ /- DR_UE_ADDR_HI -/,
  ⟨0x1d0034, 0x0, 1, 0x0, 1, 0x0, 0x0, 0x0, 0xffff0000, 0x0, 0x0⟩ /- DR_UE_INFO -/,
  ⟨0x1d0038, 0x0, 1, 0x0, 1, 0x0, 0x0, 0x0, 0x3f0000, 0x0, 0x0⟩ /- DR_MERGE -/,
  ⟨0x1d003c, 0x0, 1, 0x0, 1, 0x3fff, 0x0, 0x0, 0x0, 0x0, 0x0⟩ /- DR_APER -/]

/-- Rows of the MC registers (R392). -/
def rowsMc : List RegRow := [
  ⟨0x1e0000, 0x0, 1, 0x0, 1, 0x7ff0001, 0x0, 0x0, 0x0, 0x0, 0x3000001⟩ /- MC_CTL -/,
  ⟨0x1e0004, 0x0, 1, 0x0, 1, 0x0, 0x0, 0x0, 0x0, 0x0, 0x1⟩ /- MC_STAT -/,
  ⟨0x1e0008, 0x0, 1, 0x0, 1, 0xffff3fff, 0x0, 0x0, 0x0, 0x0, 0x0⟩ /- MC_WIN -/,
  ⟨0x1e000c, 0x0, 1, 0x0, 1, 0xffff, 0x0, 0x0, 0x0, 0x0, 0x0⟩ /- MC_LOCK -/,
  ⟨0x1e0010, 0x0, 1, 0x0, 1, 0x0, 0x0, 0xffff, 0x0, 0x0, 0x0⟩ /- MC_WAY_DIS -/,
  ⟨0x1e0014, 0x0, 1, 0x0, 1, 0xffffffff, 0x0, 0x0, 0x0, 0x0, 0x61a8004⟩ /- MC_PAR -/,
  ⟨0x1e0018, 0x4, 4, 0x0, 1, 0x0, 0x0, 0x0, 0x0, 0x0, 0x0⟩ /- MC_PAR_CNT_k -/,
  ⟨0x1e0028, 0x0, 1, 0x0, 1, 0xffffffff, 0x0, 0x0, 0x0, 0x0, 0x0⟩ /- MC_OP_ADDR_LO -/,
  ⟨0x1e002c, 0x0, 1, 0x0, 1, 0x3, 0x0, 0x0, 0x0, 0x0, 0x0⟩ /- MC_OP_ADDR_HI -/,
  ⟨0x1e0030, 0x0, 1, 0x0, 1, 0xffffffff, 0x0, 0x0, 0x0, 0x0, 0x0⟩ /- MC_OP_LEN -/,
  ⟨0x1e0034, 0x0, 1, 0x0, 1, 0x7, 0x0, 0x0, 0x0, 0x80000000, 0x0⟩ /- MC_OP_CTL -/,
  ⟨0x1e0038, 0x0, 1, 0x0, 1, 0x0, 0x0, 0x60000000, 0x0, 0x0, 0x0⟩ /- MC_OP_STAT -/,
  ⟨0x1e003c, 0x0, 1, 0x0, 1, 0x0, 0x0, 0x0, 0x0, 0x0, 0x0⟩ /- MC_VB -/,
  ⟨0x1e0040, 0x0, 1, 0x0, 1, 0x0, 0x0, 0x0, 0x0, 0x0, 0x0⟩ /- MC_PAR_ADDR -/,
  ⟨0x1e0044, 0x0, 1, 0x0, 1, 0x0, 0x0, 0x0, 0xffffffff, 0x0, 0x0⟩ /- MC_CNT_HIT -/,
  ⟨0x1e0048, 0x0, 1, 0x0, 1, 0x0, 0x0, 0x0, 0xffffffff, 0x0, 0x0⟩ /- MC_CNT_MISS -/,
  ⟨0x1e004c, 0x0, 1, 0x0, 1, 0x0, 0x0, 0x0, 0xffffffff, 0x0, 0x0⟩ /- MC_CNT_VBHIT -/,
  ⟨0x1e0050, 0x0, 1, 0x0, 1, 0x0, 0x0, 0x0, 0xffffffff, 0x0, 0x0⟩ /- MC_CNT_DECL -/,
  ⟨0x1e0054, 0x0, 1, 0x0, 1, 0x0, 0x0, 0x0, 0xffffffff, 0x0, 0x0⟩ /- MC_CNT_PAR -/,
  ⟨0x1e0058, 0x0, 1, 0x0, 1, 0x0, 0x0, 0x0, 0xffffffff, 0x0, 0x0⟩ /- MC_CNT_LKINV -/]

/-- Rows of the SL registers (R392). -/
def rowsSl : List RegRow := [
  ⟨0x1f0000, 0x0, 1, 0x0, 1, 0x1, 0x0, 0x0, 0x0, 0x0, 0x1⟩ /- SL_CTL -/,
  ⟨0x1f0004, 0x0, 1, 0x0, 1, 0x0, 0x0, 0x0, 0x0, 0x0, 0x0⟩ /- SL_STAT -/,
  ⟨0x1f0008, 0x0, 1, 0x0, 1, 0x0, 0x0, 0xffffffff, 0x0, 0x0, 0x0⟩ /- SL_DONE -/,
  ⟨0x1f000c, 0x0, 1, 0x0, 1, 0xffffffff, 0x0, 0x0, 0x0, 0x0, 0x0⟩ /- SL_IRQ_EN -/,
  ⟨0x1f0010, 0x0, 1, 0x0, 1, 0x0, 0x0, 0xffffffff, 0x0, 0x0, 0x0⟩ /- SL_ERR -/,
  ⟨0x1f0014, 0x0, 1, 0x0, 1, 0x0, 0x0, 0x0, 0xffffffff, 0x0, 0x0⟩ /- SL_CNT_PREEMPT -/]

/-- Rows of the SLc registers (R392). -/
def rowsSLc : List RegRow := [
  ⟨0x1f0100, 0x20, 32, 0x0, 1, 0xfffffffc, 0x0, 0x0, 0x0, 0x0, 0x0⟩ /- SLc_SRC_LO -/,
  ⟨0x1f0104, 0x20, 32, 0x0, 1, 0xffffffff, 0x0, 0x0, 0x0, 0x0, 0x0⟩ /- SLc_SRC_HI -/,
  ⟨0x1f0108, 0x20, 32, 0x0, 1, 0xfffffffc, 0x0, 0x0, 0x0, 0x0, 0x0⟩ /- SLc_DST_LO -/,
  ⟨0x1f010c, 0x20, 32, 0x0, 1, 0xffffffff, 0x0, 0x0, 0x0, 0x0, 0x0⟩ /- SLc_DST_HI -/,
  ⟨0x1f0110, 0x20, 32, 0x0, 1, 0x3fffffff, 0x0, 0x0, 0x0, 0x0, 0x0⟩ /- SLc_COUNT -/,
  ⟨0x1f0114, 0x20, 32, 0x0, 1, 0x1e, 0x0, 0x0, 0x0, 0x101, 0x0⟩ /- SLc_CTL -/,
  ⟨0x1f0118, 0x20, 32, 0x0, 1, 0x0, 0x0, 0xc, 0x0, 0x0, 0x0⟩ /- SLc_STAT -/,
  ⟨0x1f011c, 0x20, 32, 0x0, 1, 0x0, 0x0, 0x0, 0x0, 0x0, 0x0⟩ /- SLc_ERR -/]

/-- Rows of the CXp registers (R408). -/
def rowsCXp : List RegRow := [
  ⟨0x200000, 0x1000, 16, 0x0, 1, 0x3f0f, 0x0, 0x0, 0x0, 0x8000, 0x0⟩ /- CXp_CTL -/,
  ⟨0x200004, 0x1000, 16, 0x0, 1, 0x0, 0x0, 0x8, 0x0, 0x0, 0x0⟩ /- CXp_STAT -/,
  ⟨0x200008, 0x1000, 16, 0x0, 1, 0x0, 0x0, 0x0, 0x0, 0x0, 0x0⟩ /- CXp_KCV_LO -/,
  ⟨0x20000c, 0x1000, 16, 0x0, 1, 0x0, 0x0, 0x0, 0x0, 0x0, 0x0⟩ /- CXp_KCV_HI -/,
  ⟨0x200010, 0x1000, 16, 0x0, 1, 0x0, 0x0, 0x0, 0xffffffff, 0x0, 0x0⟩ /- CXp_CNT -/]

/-- Rows of the CX registers (R408). -/
def rowsCx : List RegRow := [
  ⟨0x200800, 0x0, 1, 0x0, 1, 0x1, 0x0, 0x0, 0x0, 0x2, 0x1⟩ /- CX_CTL -/,
  ⟨0x200804, 0x0, 1, 0x0, 1, 0x0, 0x0, 0x10, 0x0, 0x0, 0xf⟩ /- CX_STAT -/,
  ⟨0x200808, 0x0, 1, 0x0, 1, 0x0, 0x0, 0xe, 0x0, 0x0, 0x0⟩ /- CX_ALARM -/,
  ⟨0x20080c, 0x0, 1, 0x0, 1, 0x0, 0x0, 0xf, 0x0, 0x0, 0x0⟩ /- CX_PAIR -/,
  ⟨0x200810, 0x0, 1, 0x0, 1, 0x700103f, 0x0, 0x0, 0x0, 0x80000000, 0x0⟩ /- CX_KS_CMD -/,
  ⟨0x200814, 0x0, 1, 0x0, 1, 0x0, 0x0, 0x0, 0x0, 0x0, 0x0⟩ /- CX_KS_STAT -/,
  ⟨0x200818, 0x0, 1, 0x0, 1, 0x0, 0x0, 0x0, 0x0, 0x0, 0x0⟩ /- CX_KS_KCV_LO -/,
  ⟨0x20081c, 0x0, 1, 0x0, 1, 0x0, 0x0, 0x0, 0x0, 0x0, 0x0⟩ /- CX_KS_KCV_HI -/,
  ⟨0x200820, 0x0, 1, 0x0, 1, 0x0, 0x0, 0x0, 0x0, 0x0, 0x0⟩ /- CX_KS_OCC_LO -/,
  ⟨0x200824, 0x0, 1, 0x0, 1, 0x0, 0x0, 0x0, 0x0, 0x0, 0x0⟩ /- CX_KS_OCC_HI -/,
  ⟨0x200830, 0x4, 4, 0x0, 1, 0x0, 0x0, 0x0, 0x0, 0x0, 0x0⟩ /- CX_KS_TYPE_k -/,
  ⟨0x200840, 0x4, 18, 0x0, 1, 0x0, 0x0, 0x0, 0x0, 0xffffffff, 0x0⟩ /- CX_KS_BLOB_k -/,
  ⟨0x200890, 0x0, 1, 0x0, 1, 0x0, 0x0, 0x0, 0xffffffff, 0x0, 0x0⟩ /- CX_CNT -/]

/-- Rows of the ML registers (R428). -/
def rowsMl : List RegRow := [
  ⟨0x210000, 0x0, 1, 0x0, 1, 0xf, 0x0, 0x0, 0x0, 0x10, 0x0⟩ /- ML_CTL -/,
  ⟨0x210004, 0x0, 1, 0x0, 1, 0x0, 0x0, 0x2000, 0x0, 0x0, 0x0⟩ /- ML_STAT -/,
  ⟨0x210008, 0x0, 1, 0x0, 1, 0xffffffff, 0x0, 0x0, 0x0, 0x0, 0x64019028⟩ /- ML_HB -/,
  ⟨0x21000c, 0x0, 1, 0x0, 1, 0xffff, 0x0, 0x0, 0x0, 0x0, 0x100⟩ /- ML_ASYNC -/,
  ⟨0x210010, 0x0, 1, 0x0, 1, 0x0, 0x0, 0x0, 0x0, 0x0, 0x0⟩ /- ML_EPOCH -/,
  ⟨0x210014, 0x0, 1, 0x0, 1, 0x0, 0x0, 0x0, 0x0, 0x0, 0x0⟩ /- ML_TXSEQ_LO -/,
  ⟨0x210018, 0x0, 1, 0x0, 1, 0x0, 0x0, 0x0, 0x0, 0x0, 0x0⟩ /- ML_TXSEQ_HI -/,
  ⟨0x21001c, 0x0, 1, 0x0, 1, 0x0, 0x0, 0x0, 0x0, 0x0, 0x0⟩ /- ML_RPTSEQ_LO -/,
  ⟨0x210020, 0x0, 1, 0x0, 1, 0x0, 0x0, 0x0, 0x0, 0x0, 0x0⟩ /- ML_RPTSEQ_HI -/,
  ⟨0x210024, 0x0, 1, 0x0, 1, 0x0, 0x0, 0x0, 0x0, 0x0, 0x0⟩ /- ML_LAG -/,
  ⟨0x210028, 0x0, 1, 0x0, 1, 0xffff, 0x0, 0x0, 0x0, 0x0, 0x3e8⟩ /- ML_RSYNC -/,
  ⟨0x210030, 0x0, 1, 0x0, 1, 0x103fffff, 0x0, 0x20000000, 0x0, 0x80000000, 0x0⟩ /- ML_TUN_CTL -/,
  ⟨0x210034, 0x0, 1, 0x0, 1, 0xffffffff, 0x0, 0x0, 0x0, 0x0, 0x0⟩ /- ML_TUN_DATA -/,
  ⟨0x210038, 0x0, 1, 0x0, 1, 0x0, 0x0, 0x0, 0xffffffff, 0x0, 0x0⟩ /- ML_CNT -/,
  ⟨0x218000, 0x8, 4096, 0x0, 1, 0x0, 0x0, 0x0, 0x0, 0x0, 0x0⟩ /- ML_MCT_t_LO -/,
  ⟨0x218004, 0x8, 4096, 0x0, 1, 0x0, 0x0, 0x0, 0x0, 0x0, 0x0⟩ /- ML_MCT_t_HI -/]

/-- Rows of the IC registers (R444). -/
def rowsIc : List RegRow := [
  ⟨0x10000, 0x0, 1, 0x0, 1, 0x7f, 0x0, 0x0, 0x0, 0x0, 0x0⟩ /- IC_TGT_CTL -/,
  ⟨0x10004, 0x0, 1, 0x0, 1, 0x0, 0x0, 0x0, 0x0, 0x0, 0x0⟩ /- IC_CCSTAT -/,
  ⟨0x10008, 0x0, 1, 0x0, 1, 0x0, 0x0, 0x0, 0x0, 0x800007ff, 0x0⟩ /- IC_FORCE -/,
  ⟨0x1000c, 0x0, 1, 0x0, 1, 0x0, 0x0, 0x0, 0xffffffff, 0x0, 0x0⟩ /- IC_ERR -/,
  ⟨0x10010, 0x0, 1, 0x0, 1, 0x0, 0x0, 0x0, 0x0, 0x7f, 0x0⟩ /- IC_HEOI -/,
  ⟨0x10014, 0x0, 1, 0x0, 1, 0x0, 0x0, 0x0, 0x0, 0x0, 0x0⟩ /- IC_PEER_FIFO -/,
  ⟨0x10020, 0x4, 4, 0x0, 1, 0xffffff, 0x0, 0x0, 0x0, 0x0, 0x0⟩ /- IC_CCMOD_c -/,
  ⟨0x10040, 0x8, 5, 0x0, 1, 0x0, 0x0, 0x0, 0x0, 0x0, 0x0⟩ /- IC_CLAIM_t -/,
  ⟨0x10044, 0x8, 5, 0x0, 1, 0x0, 0x0, 0x0, 0x0, 0x7ff, 0x0⟩ /- IC_EOI_t -/,
  ⟨0x10080, 0x4, 11, 0x0, 1, 0x7f, 0x0, 0x0, 0x0, 0x0, 0x0⟩ /- IC_GVEC_g -/,
  ⟨0x10100, 0x4, 44, 0x0, 1, 0x0, 0x0, 0xffffffff, 0x0, 0x0, 0x0⟩ /- IC_PEND_k -/,
  ⟨0x10200, 0x4, 44, 0x0, 1, 0x0, 0x0, 0x0, 0x0, 0x0, 0x0⟩ /- IC_ACT_k -/,
  ⟨0x10400, 0x4, 352, 0x0, 1, 0xf0f0f0f, 0x0, 0x0, 0x0, 0x0, 0x5050505⟩ /- IC_ROUTE_k -/,
  ⟨0x10a00, 0x4, 128, 0x0, 1, 0xffffff, 0x0, 0x0, 0x0, 0x0, 0x0⟩ /- IC_MOD_v -/,
  ⟨0x10c00, 0x4, 128, 0x0, 1, 0x0, 0x0, 0x0, 0x0, 0x0, 0x0⟩ /- IC_VSTAT_v -/]

/-- Rows of the PW registers (R467). -/
def rowsPw : List RegRow := [
  ⟨0x20000, 0x0, 1, 0x0, 1, 0x13, 0x0, 0x0, 0x0, 0x100, 0x13⟩ /- PW_CTL -/,
  ⟨0x20004, 0x0, 1, 0x0, 1, 0x0, 0x0, 0x0, 0x0, 0x0, 0x0⟩ /- PW_STAT -/,
  ⟨0x20008, 0x0, 1, 0x0, 1, 0x0, 0x0, 0xff, 0x0, 0x0, 0x0⟩ /- PW_RSTCAUSE -/,
  ⟨0x2000c, 0x0, 1, 0x0, 1, 0x0, 0x0, 0x0, 0x0, 0xffff0003, 0x0⟩ /- PW_RST -/,
  ⟨0x20010, 0x0, 1, 0x0, 1, 0x0, 0x0, 0x0, 0x0, 0x0, 0x0⟩ /- PW_VIN -/,
  ⟨0x20014, 0x0, 1, 0x0, 1, 0xff0fff, 0x0, 0x0, 0x0, 0x0, 0x201a4⟩ /- PW_DYKE -/,
  ⟨0x20018, 0x0, 1, 0x0, 1, 0xffff, 0x0, 0x0, 0x0, 0x0, 0x0⟩ /- PW_HOLDUP -/,
  ⟨0x2001c, 0x0, 1, 0x0, 1, 0x0, 0x0, 0x0, 0x0, 0x0, 0x0⟩ /- PW_HOLDUP_MEAS -/,
  ⟨0x20020, 0x0, 1, 0x0, 1, 0x0, 0x0, 0x0, 0x0, 0x0, 0x0⟩ /- PW_USED -/,
  ⟨0x20024, 0x0, 1, 0x0, 1, 0x0, 0x0, 0x0, 0x0, 0x0, 0x0⟩ /- PW_DYKE_STAT -/,
  ⟨0x20028, 0x0, 1, 0x0, 1, 0x3ff, 0x0, 0x0, 0x0, 0x0, 0x400⟩ /- PW_STBY_MASK -/,
  ⟨0x2002c, 0x0, 1, 0x0, 1, 0xffffffff, 0x0, 0x0, 0x0, 0x0, 0x0⟩ /- PW_STBY_INT -/,
  ⟨0x20030, 0x0, 1, 0x0, 1, 0xffff, 0x0, 0x0, 0x0, 0x0, 0x1⟩ /- PW_STBY_TMR -/,
  ⟨0x20034, 0x0, 1, 0x0, 1, 0x0, 0x0, 0x7ff, 0x0, 0x0, 0x0⟩ /- PW_WAKE -/,
  ⟨0x20038, 0x0, 1, 0x0, 1, 0xffffffff, 0x0, 0x0, 0x0, 0x0, 0x0⟩ /- PW_STBY_GPIO -/,
  ⟨0x2003c, 0x4, 2, 0x0, 1, 0xc0000fff, 0x0, 0x0, 0x0, 0x0, 0x0⟩ /- PW_CMP_k -/,
  ⟨0x20044, 0x0, 1, 0x0, 1, 0xffffff00, 0x0, 0x0, 0x0, 0x0, 0x503cf600⟩ /- PW_SNS -/,
  ⟨0x20048, 0x0, 1, 0x0, 1, 0x0, 0x0, 0x0, 0xffffffff, 0x0, 0x0⟩ /- PW_CNT -/]

/-- Rows of the CAL registers (R481). -/
def rowsCal : List RegRow := [
  ⟨0x30000, 0x0, 1, 0x0, 1, 0x31f, 0x0, 0x0, 0x0, 0x0, 0x31f⟩ /- CAL_CTL -/,
  ⟨0x30004, 0x0, 1, 0x0, 1, 0x0, 0x0, 0x0, 0x0, 0x0, 0x0⟩ /- CAL_STAT -/,
  ⟨0x30008, 0x0, 1, 0x0, 1, 0xff00ffff, 0x0, 0x0, 0x0, 0x0, 0x5000044⟩ /- CAL_WP -/,
  ⟨0x3000c, 0x0, 1, 0x0, 1, 0xffffffff, 0x0, 0x0, 0x0, 0x0, 0x30024dd⟩ /- CAL_QTHR -/,
  ⟨0x30010, 0x0, 1, 0x0, 1, 0xffff00ff, 0x0, 0x0, 0x0, 0x0, 0x960018⟩ /- CAL_STHR -/,
  ⟨0x30020, 0x4, 5, 0x0, 1, 0xffffffff, 0x0, 0x0, 0x0, 0x0, 0xfa0⟩ /- CAL_TMO_k -/,
  ⟨0x30040, 0x4, 7, 0x0, 1, 0xffffffff, 0x0, 0x0, 0x0, 0x0, 0x61a80⟩ /- CAL_DEFER_e -/,
  ⟨0x30060, 0x0, 1, 0x0, 1, 0x0, 0x0, 0x7f0000, 0x0, 0x0, 0x0⟩ /- CAL_DEFER_STAT -/,
  ⟨0x30064, 0x0, 1, 0x0, 1, 0x3f, 0x0, 0x0, 0x0, 0x0, 0x0⟩ /- CAL_QSEL -/,
  ⟨0x30068, 0x0, 1, 0x0, 1, 0x0, 0x0, 0x0, 0x0, 0x0, 0x0⟩ /- CAL_QVAL -/,
  ⟨0x30070, 0x4, 4, 0x0, 1, 0x0, 0x0, 0x0, 0x0, 0x0, 0x0⟩ /- CAL_Ss_RTE -/,
  ⟨0x30080, 0x4, 4, 0x0, 1, 0x0, 0x0, 0x0, 0x0, 0x0, 0x0⟩ /- CAL_Ss_WP -/,
  ⟨0x30090, 0x0, 1, 0x0, 1, 0x3e, 0x0, 0x0, 0x0, 0x0, 0x3e⟩ /- CAL_TEL_CTL -/,
  ⟨0x30094, 0x0, 1, 0x0, 1, 0x0, 0x0, 0x0, 0xffffffff, 0x0, 0x0⟩ /- CAL_CNT -/]

/-- Rows of the AXC registers (R231). -/
def rowsAxc : List RegRow := [
  ⟨0x133000, 0x4, 257, 0x0, 1, 0x3ff, 0x0, 0x0, 0x0, 0x0, 0x0⟩ /- AXC_TBL -/]

/-- Rows of the MSIX registers (R251). -/
def rowsMsix : List RegRow := [
  ⟨0x48000, 0x10, 128, 0x0, 1, 0xfffffffc, 0x0, 0x0, 0x0, 0x0, 0x0⟩ /- MSIX_ADDR_LO -/,
  ⟨0x48004, 0x10, 128, 0x0, 1, 0xffffffff, 0x0, 0x0, 0x0, 0x0, 0x0⟩ /- MSIX_ADDR_HI -/,
  ⟨0x48008, 0x10, 128, 0x0, 1, 0xffffffff, 0x0, 0x0, 0x0, 0x0, 0x0⟩ /- MSIX_DATA -/,
  ⟨0x4800c, 0x10, 128, 0x0, 1, 0x1, 0x0, 0x0, 0x0, 0x0, 0x1⟩ /- MSIX_CTRL -/,
  ⟨0x49000, 0x4, 4, 0x0, 1, 0x0, 0x0, 0x0, 0x0, 0x0, 0x0⟩ /- MSIX_PBA -/]

/-- The whole register map. -/
def regRows : List RegRow :=
  rowsGlb ++ rowsMz ++ rowsWp ++ rowsSEs ++ rowsBMnn ++ rowsRc ++ rowsLe1 ++ rowsLe2 ++ rowsSFs ++ rowsSPn ++ rowsAXa ++ rowsHq ++ rowsPt1 ++ rowsPt2 ++ rowsDr ++ rowsMc ++ rowsSl ++ rowsSLc ++ rowsCXp ++ rowsCx ++ rowsMl ++ rowsIc ++ rowsPw ++ rowsCal ++ rowsAxc ++ rowsMsix

/-- Offset `o` is one of the row's registers. -/
def RegRow.covers (r : RegRow) (o : Nat) : Bool :=
  r.base ≤ o &&
    (let d := o - r.base
     if r.stride1 = 0 then
       (if r.stride2 = 0 then d = 0 else d % r.stride2 = 0 && d / r.stride2 < r.count2)
     else if d / r.stride1 < r.count1 then
       let e := d % r.stride1
       if r.stride2 = 0 then e = 0 else e % r.stride2 = 0 && e / r.stride2 < r.count2
     else false)

/-- The row that holds offset `o`; none for an unmapped offset (R483). -/
def regRow (o : Nat) : Option RegRow := regRows.find? (·.covers o)

end Sys2Proof.Machine
end

