-- ==== Sys2Proof/Machine/Resets.lean ====
section
/-!
DEFINITION. The reset value of every BAR0 register (20_register_map.md R490): the Reset column of the
register map, and the values that the spec takes from elsewhere: the default slot table (R38), the axis
limits (R237), the microcode's cost base (R160), the standard programs' descriptors, parameters and tables
(R182, R197, R202, R211), the part's identification (R492, R516). Words of the standard image that the spec
does not give are 0 (DESIGN CHOICE, notes/assumptions/5.md, unsafe).
-/

namespace Sys2Proof

/-- Surface `s` is present on the part (R1). -/
def Part.hasSurf (p : Part) (s : Nat) : Bool := match p with | .pl6416 => s < 4 | .pl3216 => s < 2

/-- Spindle `n` is present on the part (R1). -/
def Part.hasSpin (p : Part) (n : Nat) : Bool := match p with | .pl6416 => n < 2 | .pl3216 => n < 1

/-- Beam channel `n` is present on the part (R1). -/
def Part.hasBeam (p : Part) (n : Nat) : Bool := match p with | .pl6416 => n < 64 | .pl3216 => n < 32

/-- Axis `a` is present on the part (R1). -/
def Part.hasAxis (p : Part) (a : Nat) : Bool :=
  match p with | .pl6416 => a < 9 | .pl3216 => a < 2 || a = 4 || a = 5 || a = 8

/-- The unit that an OWNER names is present (R33, R174): surfaces 0 to 3, spindles 4 and 5. -/
def Part.hasOwner (p : Part) (o : Nat) : Bool :=
  if o < 4 then p.hasSurf o else if o < 6 then p.hasSpin (o - 4) else true

end Sys2Proof

namespace Sys2Proof.Machine

/-- Default slot-table entry `k` (R38): EN, PROG, DIV, PHASE, OWNER, BUDGET; PROG of an entry is its own
index by R182 and R211. -/
def defaultEntry (p : Part) (k : Nat) : Bool × Nat × Nat × Nat × Nat × Nat :=
  let on := fun o => p.hasOwner o
  if k < 4 then (on k, k, 0, 0, k, 46)
  else if k < 8 then (on (k - 4), k, 0, 0, k - 4, 64)
  else if k < 12 then (on (k - 8), k, 1, (k - 8) % 2, k - 8, 40)
  else if k < 16 then (on (k - 12), k, 15, 2 + 4 * (k - 12), k - 12, 36)
  else if k < 20 then (on (k - 16), k, 7, 1 + 2 * (k - 16), k - 16, 30)
  else if k = 20 then (true, k, 9, 9, 4, 28)
  else if k = 21 then (true, k, 9, 0, 4, 120)
  else if k = 22 then (on 5, k, 9, 4, 5, 28)
  else if k = 23 then (on 5, k, 9, 5, 5, 120)
  else if k = 24 then (true, k, 0, 0, 6, 44)
  else if k = 25 then (p = .pl6416, k, 0, 0, 6, 44)
  else if k = 26 then (true, k, 0, 0, 6, 80)
  else if k = 27 then (true, k, 0, 0, 6, 24)
  else (false, 0, 0, 0, 7, 8)

/-- Word 0 of a slot entry (R33). -/
def slotWord0 (en fixed : Bool) (prog div phase : Nat) : Word :=
  BitVec.ofNat 32 (en.toNat * 2 ^ 31 + fixed.toNat * 2 ^ 30 + prog * 2 ^ 16 + div * 2 ^ 8 + phase)

/-- Word 1 of a slot entry (R33). -/
def slotWord1 (owner budget : Nat) : Word := BitVec.ofNat 32 (owner * 2 ^ 28 + budget)

/-- The two words of default entry `k` (R33, R38). -/
def defaultSlot (p : Part) (k : Nat) : Word × Word :=
  let (en, prog, div, phase, owner, budget) := defaultEntry p k
  (slotWord0 en (k < 4) prog div phase, slotWord1 owner budget)

/-- Cost base of opcode `k` in the unpatched ROM (R160, and LE_OPCOST_k of R181: less N, less
ceil(ROWS / 8) × COLS for MVM, the not-taken cost for BR); 0 for the reserved opcodes. -/
def romCost (k : Nat) : Nat :=
  [1, 2, 0, 0, 1, 1, 1, 1, 1, 1, 2, 1, 1, 1, 1, 1, 1, 3, 1, 1, 8, 10, 12, 18, 14, 16, 1, 1, 1, 1, 1, 1].getD k 0

/-- DBASE and CBASE of the standard program `p` (R182, R211); none for an unused index. The axis
programs 24 to 27 lie in the ranges that R182 gives; the spec states no base for them: DESIGN CHOICE 0. -/
def progBases (p : Nat) : Option (Nat × Nat) :=
  if p < 4 then some (0x200 + 0x20 * p, 0x40 * p)
  else if p < 8 then some (0x280 + 0x20 * (p - 4), 0x100 + 0x40 * (p - 4))
  else if p < 12 then some (0x300 + 0x10 * (p - 8), 0x200 + 0x20 * (p - 8))
  else if p < 16 then some (0x340 + 0x10 * (p - 12), 0x280 + 0x10 * (p - 12))
  else if p < 20 then some (0x380 + 0x10 * (p - 16), 0x2C0 + 0x10 * (p - 16))
  else if p = 20 then some (0x480, 0x330)
  else if p = 21 then some (0x400, 0x300)
  else if p = 22 then some (0x580, 0x370)
  else if p = 23 then some (0x500, 0x340)
  else if p < 28 then some (0, 0)
  else none

/-- Q1.31 of a fraction in hundredths. -/
def q31 (hundredths : Nat) : Nat := (hundredths * 2 ^ 31 + 50) / 100

/-- Default parameter words (R202) at data word `w`; 0 elsewhere (R155, DESIGN CHOICE). -/
def dmemReset (w : Nat) : Nat :=
  if 0x200 ≤ w ∧ w < 0x280 then
    match (w - 0x200) % 0x20 with
    | 16 => q31 60 | 17 => 4000 | 18 => q31 15 | 19 => q31 25 | 20 => 64
    | 21 => q31 40 | 22 => 4 | 23 => q31 50 | 24 => 8 | 25 => q31 50 | 26 => 24 | 27 => 8
    | _ => 0
  else if 0x280 ≤ w ∧ w < 0x300 then
    match (w - 0x280) % 0x20 with
    | 16 => q31 50 | 17 => q31 35 | 18 => 4 | 19 => q31 10 | 20 => 40
    | 21 => 0x80000000 | 24 => 2 | 25 => 4 | 26 => 8 | 27 => 8
    | _ => 0
  else if 0x300 ≤ w ∧ w < 0x340 then (if (w - 0x300) % 0x10 = 8 then 8 else 0)
  else if 0x340 ≤ w ∧ w < 0x380 then
    match (w - 0x340) % 0x10 with
    | 0 => q31 5 | 1 => 128 | 2 => 32 | 3 => 0x003126E9 | _ => 0
  else if 0x380 ≤ w ∧ w < 0x3C0 then
    match (w - 0x380) % 0x10 with
    | 0 => 800 | 1 => 448 | 2 => 144 | 3 => 2 ^ 32 - 192 | 4 => 2 ^ 32 - 496 | 5 => 2 ^ 32 - 800
    | _ => 0
  else 0

/-- Reset value of register `o` of an axis (R237, R247); kind 0 sled, 1 aberration, 2 loader. -/
def axisReset (kind o : Nat) : Nat :=
  let pick := fun (a b c : Nat) => if kind = 0 then a else if kind = 1 then b else c
  match o with
  | 0x00 => pick 0x120 0x320 0x220
  | 0x20 => pick 0x00100000 0x00020000 0x00010000
  | 0x24 => pick 0x00100000 0x00080000 0x00010000
  | 0x28 => pick 0x00A3D70A 0x00800000 0x00040000
  | 0x2C => pick 0x00400000 0x00200000 0x00040000
  | 0x30 => pick 0 (2 ^ 32 - 1000) 0
  | 0x34 => pick 450000 1000 52000
  | 0x38 => pick 0x50191E00 0x280C0F00 0x641E3200
  | 0x3C => pick 0x01900020 0x01900008 0x0FA00190
  | 0x40 => 0x1000
  | 0x44 => pick 0x02000040 0x01000040 0x00C00040
  | 0x48 => pick 0 (2 ^ 32 - 1200) 0
  | 0x4C => pick 460000 2600 56000
  | 0x50 => pick 512 256 64
  | 0x54 => 0x02001408
  | 0x58 => 0x80
  | 0x5C => 0x00040000
  | _ => 0

/-- AXC_TBL entries 0 to 63. -/
def sines0 : List Nat := [
  0, 6, 13, 19, 25, 31, 38, 44, 50, 56, 63, 69, 75, 82, 88, 94,
  100, 107, 113, 119, 125, 131, 138, 144, 150, 156, 163, 169, 175, 181, 187, 193,
  200, 206, 212, 218, 224, 230, 236, 242, 249, 255, 261, 267, 273, 279, 285, 291,
  297, 303, 309, 315, 321, 327, 333, 339, 345, 351, 356, 362, 368, 374, 380, 386]

/-- AXC_TBL entries 64 to 127. -/
def sines1 : List Nat := [
  391, 397, 403, 409, 415, 420, 426, 432, 437, 443, 449, 454, 460, 466, 471, 477,
  482, 488, 493, 499, 504, 510, 515, 521, 526, 531, 537, 542, 547, 553, 558, 563,
  568, 574, 579, 584, 589, 594, 599, 604, 609, 614, 619, 624, 629, 634, 639, 644,
  649, 654, 659, 663, 668, 673, 678, 682, 687, 692, 696, 701, 705, 710, 714, 719]

/-- AXC_TBL entries 128 to 191. -/
def sines2 : List Nat := [
  723, 728, 732, 737, 741, 745, 750, 754, 758, 762, 766, 771, 775, 779, 783, 787,
  791, 795, 799, 803, 806, 810, 814, 818, 822, 825, 829, 833, 836, 840, 844, 847,
  851, 854, 858, 861, 864, 868, 871, 874, 877, 881, 884, 887, 890, 893, 896, 899,
  902, 905, 908, 911, 914, 917, 919, 922, 925, 927, 930, 933, 935, 938, 940, 943]

/-- AXC_TBL entries 192 to 255. -/
def sines3 : List Nat := [
  945, 948, 950, 952, 954, 957, 959, 961, 963, 965, 967, 969, 971, 973, 975, 977,
  979, 981, 983, 984, 986, 988, 989, 991, 992, 994, 995, 997, 998, 999, 1001, 1002,
  1003, 1005, 1006, 1007, 1008, 1009, 1010, 1011, 1012, 1013, 1014, 1015, 1015, 1016, 1017, 1017,
  1018, 1019, 1019, 1020, 1020, 1021, 1021, 1021, 1022, 1022, 1022, 1023, 1023, 1023, 1023, 1023]

/-- AXC_TBL entries 256 to 256. -/
def sines4 : List Nat := [
  1023]

/-- Entry `k` of AXC_TBL: round(1,023 × sin(π k / 512)) for k = 0 to 256 (09_motion_axes.md, under R247). -/
def sineTable (k : Nat) : Nat := (sines0 ++ sines1 ++ sines2 ++ sines3 ++ sines4).getD k 0

/-- Reset value of BAR0 offset `o` on part `p`. -/
def resetNat (p : Part) (o : Nat) : Nat :=
  if o = GLB_ID then (match p with | .pl6416 => 0x64161F3C | .pl3216 => 0x32161F3C)
  else if o = GLB_REV then 0x2001
  else if o = GLB_CFG then (match p with | .pl6416 => 0x01FF403F | .pl3216 => 0x01332013)
  else if o = PW_RSTCAUSE then 1
  else if 0x81000 ≤ o ∧ o < 0x81180 ∨ 0x81400 ≤ o ∧ o < 0x81580 then
    let k := (o % 0x400) / 8
    if o % 8 = 0 then (defaultSlot p k).1.toNat else if o % 8 = 4 then (defaultSlot p k).2.toNat else 0
  else if 0x80200 ≤ o ∧ o < 0x80300 then (if o % 4 = 0 then romCost ((o - 0x80200) / 4) else 0)
  else if 0x82000 ≤ o ∧ o < 0x83000 then
    match progBases ((o - 0x82000) / 16) with
    | none => 0
    | some (d, c) => if o % 16 = 0 then 2 ^ 31 else if o % 16 = 4 then d * 2 ^ 16 + c else 0
  else if 0x88000 ≤ o ∧ o < 0x90000 then (if o % 4 = 0 then dmemReset ((o - 0x88000) / 4) else 0)
  else if 0x130000 ≤ o ∧ o < 0x132400 then
    let a := (o - 0x130000) / 0x400
    axisReset (if a < 4 then 0 else if a < 8 then 1 else 2) (o % 0x400)
  else if 0x133000 ≤ o ∧ o ≤ 0x133400 then
    (if o % 4 = 0 then sineTable ((o - 0x133000) / 4) else 0)
  else if 0x100000 ≤ o ∧ o < 0x110000 ∧ o % 0x4000 = 0x10 then 300
  else if 0x100000 ≤ o ∧ o < 0x110000 ∧ o % 0x4000 = 0x14 then 200
  else if 0x100000 ≤ o ∧ o < 0x110000 ∧ o % 0x4000 = 0x18 then 150
  else if 0x180000 ≤ o ∧ o < 0x1A0000 ∧ (o % 0x800 = 0x5C ∨ o % 0x800 = 0x9C) then 0x100
  else if 0x180000 ≤ o ∧ o < 0x1A0000 ∧
      (0x40 ≤ o % 0x800 ∧ o % 0x800 < 0x80 ∨ 0x80 ≤ o % 0x800 ∧ o % 0x800 < 0xBC) then 0
  else if o = CAL_TMO_k 0 then 4000
  else if o = CAL_TMO_k 1 then 2000
  else if o = CAL_TMO_k 2 then 24000
  else if o = CAL_TMO_k 3 then 100000
  else if o = CAL_TMO_k 4 then 40000
  else if 0x30040 ≤ o ∧ o < 0x3005C ∧ o % 4 = 0 then
    [0x00061A80, 0x0E4E1C00, 0x00B71B00, 0x016E3600, 0x003D0900, 0x016E3600, 0x003D0900].getD
      ((o - 0x30040) / 4) 0
  else if 0x10400 ≤ o ∧ o < 0x10980 ∧ o % 4 = 0 then
    (if 16 ≤ (o - 0x10400) / 4 ∧ (o - 0x10400) / 4 ≤ 47 then 0x05050505 else 0)
  else match regRow o with
    | some r => r.reset
    | none => 0

/-- The reset value as a word. -/
def resetVal (p : Part) (o : Nat) : Word := BitVec.ofNat 32 (resetNat p o)

end Sys2Proof.Machine
end

