-- ==== Sys2Proof/Machine/UnitsCipher.lean ====
section
/-!
DEFINITION. The state of the cipher engine and the key store (15_cipher.md) that no register holds.
-/

namespace Sys2Proof.Machine

/-- A key: kind 0 none, 1 XTS pair (64 bytes), 2 GCM key (32 bytes). -/
structure CxKey where
  kind : Nat
  key : List Byte
  deriving DecidableEq, Repr

/-- An empty slot or page. -/
def CxKey.none : CxKey := ⟨0, []⟩

/-- The cipher engine: slots, page keys, pairs that left service after a mismatch and await their tests, the
alarm conditions that still hold (by INFO), and firmware's mismatch count of a record that is retried. -/
structure Cx where
  slots : Vector CxKey 64
  pages : Vector CxKey 16
  testing : List Nat
  conds : List Nat
  retries : Nat
  deriving DecidableEq, Repr

end Sys2Proof.Machine
end

