-- ==== Sys2Proof/Machine/UnitsDram.lean ====
section
/-!
DEFINITION. The state of the buffer memory, the map cache and the Sluice DMA
(14_buffer_cache_and_dma.md) that no register holds.
-/

namespace Sys2Proof.Machine

/-- An entry of the merge buffer (R371): a word, its byte-valid mask and its bytes. -/
structure MergeEntry where
  word : Nat
  mask : BitVec 64
  data : Vector Byte 64
  deriving DecidableEq, Repr

/-- A line of MC or of the victim buffer (R376): its address [33:8], its way (no way in the victim buffer),
the valid and dirty bits of its sectors, and its bytes, of which only those of dirty sectors differ
from DRAM. -/
structure McLine where
  line : Nat
  way : Nat
  valid : BitVec 4
  dirty : BitVec 4
  data : Vector Byte 256
  deriving DecidableEq, Repr

/-- An access of a command core: core, DRAM address, bytes, and the bytes of a write. -/
structure McAcc where
  core : Fin 4
  addr : Nat
  len : Nat
  write : Option (List Byte)
  deriving DecidableEq, Repr

/-- A fill in flight (R378): the line, and the accesses that block on it, the first being the one that missed. -/
structure McFill where
  line : Nat
  waiters : List McAcc
  deriving DecidableEq, Repr

/-- A maintenance operation in progress (R383): OP, the lines still to reach, lines acted on, and locked
lines invalidated. -/
structure McOp where
  op : Nat
  todo : List Nat
  done : Nat
  locked : Nat
  /-- Every line has been acted on. -/
  ended : Bool
  deriving DecidableEq, Repr

/-- A Sluice channel (R387 to R390). -/
structure SlChan where
  /-- Bytes of the transfer, bytes read into the buffer and bytes written so far. -/
  total : Nat
  rd : Nat
  wr : Nat
  buf : List Byte
  /-- It resumes after a pre-emption, and first writes what its buffer holds. -/
  drain : Bool
  /-- A read failed at offset `rd`; the buffered beats are written first. -/
  failed : Bool
  deriving DecidableEq, Repr

/-- DRAM, MC and Sluice. -/
structure Dram where
  /-- Bytes of the data space (R368). -/
  mem : SMap Byte
  /-- Words in error: 1 + the symbol (0 to 35) of a correctable word, 64 for an uncorrectable or poisoned one. -/
  flaw : SMap Nat
  /-- Oldest first, at most 32. -/
  merge : List MergeEntry
  /-- DR_SCRUB.RATE, DR_CE_BKT.LIMIT and DR_CE_LEAK in force (R392). -/
  rate : Nat
  limit : Nat
  leak : Nat
  /-- Tick of the last decrement of the bucket. -/
  leakAt : Nat
  /-- MC lines, least recently used last. -/
  lines : List McLine
  /-- Victim buffer, oldest first. -/
  victim : List McLine
  fills : List McFill
  /-- Accesses that wait for the end of the reset invalidation (R382), and ticks that it still takes. -/
  wait : List McAcc
  initLeft : Nat
  /-- Start of the current parity window (R381). -/
  parStart : Nat
  op : Option McOp
  /-- MC_WIN in force, and a write that waits for its CLEAN_ALL and INV_ALL (R392). -/
  win : Word
  winPend : Option Word
  chan : Vector SlChan 32
  /-- Channels that hold a mover, longest first; pre-empted channels, first first. -/
  movers : List Nat
  preempted : List Nat
  /-- Last channel granted of the high and of the normal priority (round-robin). -/
  lastHigh : Nat
  lastLow : Nat
  deriving DecidableEq, Repr

end Sys2Proof.Machine
end

