-- ==== Sys2Proof/Machine/UnitsHost.lean ====
section
/-!
DEFINITION. The state of the host interface (10_host_queues.md), of the command set (11_command_set.md) and
of the clip store and placement (12_clip_store_and_placement.md) that no register holds.
-/

namespace Sys2Proof.Machine

/-- A range lock (R262): namespace, clip, first and last key, write class. -/
structure LockRange where
  ns : Nat
  clip : Nat
  lo : Nat
  hi : Nat
  write : Bool
  deriving DecidableEq, Repr

/-- How a command ended: status and DETAIL (R284, R287), RES, and what its error-log entry and damage list
say (R286, R291). -/
structure Finish where
  status : Nat
  detail : Nat
  res : Nat
  pos : Nat
  boff : Nat
  count : Nat
  clip : Nat
  /-- Band, swath, beam, slot. -/
  loc : Option (Nat × Nat × Nat × Nat)
  haddr : Option Nat
  /-- POS, BOFF, LEN. -/
  damage : List (Nat × Nat × Nat)
  deriving DecidableEq, Repr

/-- An outcome with nothing but a status, a DETAIL and RES. -/
def Finish.of (status detail res : Nat) : Finish := ⟨status, detail, res, 0, 0, 0, 0, none, none, []⟩

/-- A fetched command (R257 to R264, R273). -/
structure Cmd where
  tag : Nat
  pair : Nat
  /-- Fetch order. -/
  seq : Nat
  dws : Vector Word 16
  range : Option LockRange
  /-- It has its entry in the lock table; the lock is granted. -/
  entry : Bool
  granted : Bool
  /-- Bytes of ingest space it needs, and whether they are reserved. -/
  space : Nat
  reserved : Bool
  started : Bool
  /-- Its completion is not posted (R252). -/
  discard : Bool
  /-- Clip number, first frame number and frames taken at fetch (R262, R312, R313). -/
  clip : Nat
  frame : Nat
  frames : Nat
  /-- Spare units reserved (R310). -/
  spare : Nat
  /-- Phase of a command of several phases. -/
  step : Nat
  /-- Pieces of the split of each frame, or of the block data (R334): surface, or none for Peat, and cells. -/
  split : List (List (Option Nat × Nat))
  /-- FSYNC stamp taken at the start, STALE, OVF (R327). -/
  stamp : Option (Nat × Bool × Bool)
  /-- MSEQ of a mirrored command, 0 for none, and the tick of its last DATA frame (16_mirror_pair.md R414, R418). -/
  mseq : Nat
  lastData : Option Nat
  fin : Option Finish
  /-- How it will end once its last phase is over. -/
  held : Option Finish
  deriving DecidableEq, Repr

/-- A firmware slot (R301, R302): FWREV and the image; empty when it has no bytes. -/
structure FwSlot where
  rev : List Byte
  image : List Byte
  deriving DecidableEq, Repr

/-- A self-test result (R290): tick-stamp, test, result, failing item, failing unit instance. -/
structure TestResult where
  stamp : Nat
  test : Nat
  result : Nat
  item : Nat
  inst : Nat
  deriving DecidableEq, Repr

/-- The host interface and what the commands keep outside a volume. -/
structure Hq where
  /-- Fetched and not completed, in fetch order. -/
  cmds : List Cmd
  seq : Nat
  /-- Pair served last in PASS mode, and per class; turns left per weighted class and the class in turn (R260). -/
  rrPass : Nat
  rr : Vector Nat 5
  turns : Vector Nat 4
  /-- Pairs under QUEUE DELETE, with the tag of the command (R275). -/
  deleting : List (Nat × Nat)
  /-- A controller reset waits for host DMA to end (R252). -/
  resetting : Bool
  /-- CC0 to CC3 have booted: RDY may be set (R253). -/
  booted : Bool
  /-- Bus Master Enable. -/
  bme : Bool
  /-- Outstanding ASYNC EVENTs by tag; queued events; events dropped (R305). -/
  async : List Nat
  events : List (Nat × Nat × Nat)
  dropped : Nat
  /-- Error-log ring: index to entry bytes (R270); damage lists of the 16 most recent, with the SEQ (R291). -/
  elog : SMap (List Byte)
  lists : List (Nat × List (Nat × Nat × Nat))
  /-- Features (R292): allowance asked, MiB; dense; event mask; warnings; floor; idle seconds. -/
  allow : Nat
  /-- Data that arrived up to here stays covered where the allowance was lowered below the count (R450). -/
  cover : Nat
  dense : Bool
  asyncMask : Nat
  warnDie : Int
  warnPeat : Int
  floor : Nat
  idle : Nat
  /-- DW11 of the last FEATURE SET of FID 0x03 and 0x07, and DW12 of the latter (R292). -/
  keySet : Nat
  modSet : Nat
  /-- Die temperature observed last, 0.1 °C. -/
  dieTemp : Int
  /-- A threshold of FID 0x05 is exceeded: die, Peat. -/
  hotDie : Bool
  hotPeat : Bool
  /-- Ingest space in use, bytes, and the credit in 1/400,000 byte (R337). -/
  ingestUsed : Nat
  credit : Int
  /-- The ceiling is held to O_PLAN because staging is below the floor (R337). -/
  belowFloor : Bool
  /-- Firmware slots 1 and 2, the active one, the one marked for the next reset (0 none), the staging area. -/
  fw : Vector FwSlot 2
  fwActive : Nat
  fwNext : Nat
  stage : SMap Byte
  stageLen : Nat
  /-- An activation without reset is under way (R302). -/
  restarting : Bool
  /-- Self test that runs: tag and test; results, newest first. -/
  test : Option (Nat × Nat)
  results : List TestResult
  /-- Tick of the last I/O command (FID 0x08). -/
  lastIo : Nat
  /-- Health counters (R290): ticks in reduced mode, Dyke dumps, spindle faults, rotor losses, safe states. -/
  rmodeTicks : Nat
  dumps : Nat
  spinFaults : Nat
  rotorLosses : Nat
  safeStates : Nat
  deriving DecidableEq, Repr

/-- One cell's worth of stored data: a cell of a frame (R63, R64) or an 8 KiB unit of the block space (R309). -/
structure Chunk where
  mag : List Byte
  ns : Nat
  clip : Nat
  frame : Nat
  off : Nat
  gen : Nat
  /-- Payload bytes, at most 8,192, and the bytes themselves; none for a cell known only from the catalogue. -/
  vlen : Nat
  data : List Byte
  /-- Copies that exist: in DRAM, in Peat and journalled, on verified optical. -/
  dram : Bool
  staged : Bool
  optical : Bool
  /-- Surface that placement gave it to; none: Peat. -/
  surf : Option Nat
  /-- Where it lies on optical: band, swath, stripe, beam. -/
  place : Option (Nat × Nat × Nat × Nat)
  /-- Fetch order of the command that wrote it, and order of arrival. -/
  seq : Nat
  order : Nat
  /-- Tick-stamp of its arrival. -/
  ts : Nat
  /-- First and last cell of its frame or of its block-write extent (R64, FIRST and LAST). -/
  first : Bool
  last : Bool
  /-- Places on optical of its relocated copies, newest first (R109, R111, R520). -/
  copies : List (Nat × Nat × Nat × Nat)
  /-- Cells of older content of this unit that are on their way to optical. -/
  stale : Nat
  /-- The clip number in the tweak of the bytes (R331, R395), and the bytes of ingest space it holds (R337). -/
  twk : Nat
  res : Nat
  /-- The atomic BLOCK WRITE that wrote it, by its fetch order; else 0 (R266). -/
  grp : Nat
  deriving DecidableEq, Repr

/-- A clip (R312 to R316). -/
structure Clip where
  num : Nat
  /-- 1 open, 2 closed, 3 interrupted. -/
  state : Nat
  fsize : Nat
  rate : Nat
  next : Nat
  sealed : Bool
  skipped : List Nat
  tc : Nat
  tcFps : Nat
  drop : Bool
  stage : Bool
  surf : Nat
  meta_ : List Byte
  gen : Nat
  openTs : Nat
  closeTs : Nat
  /-- FSYNC captures counted at the previous stamped append, if any (R327). -/
  stamped : Option Nat
  deriving DecidableEq, Repr

/-- A closed catalogue record (R319): RSEQ, RTYPE, tick-stamp, entries. -/
structure LedgerRec where
  rseq : Nat
  rtype : Nat
  ts : Nat
  entries : List (List Byte)
  /-- Surfaces that were writable when it was closed (R324). -/
  need : List Nat
  deriving DecidableEq, Repr

/-- The ledger log of one surface (R324): next log swath, records written in a pass, records of which one copy
is durable, records durable in both copies, and band steps since its last visit. -/
structure LedgerLog where
  swath : Nat
  written : List Nat
  once : List Nat
  done : List Nat
  steps : Nat
  deriving DecidableEq, Repr

/-- The volume (R12, R328) and what is known of it. -/
structure Vol where
  vstate : Nat
  magid : List Byte
  label : List Byte
  encClip : Bool
  encBlock : Bool
  auth : Bool
  blku : Nat
  bspare : Nat
  /-- Surfaces filled downward (R320). -/
  desc : Nat
  catCheck : List Byte
  /-- Recorded generations: namespace, KEYGEN, check value; current ones; bindings to slots (R294). -/
  gens : List (Nat × Nat × List Byte)
  curClip : Nat
  curBlock : Nat
  binds : List (Nat × Nat × Nat)
  clips : List Clip
  spareLeft : Nat
  readOnly : Bool
  rseq : Nat
  /-- Journalled entries that no closed record holds yet: RTYPE and bytes, in order (R323). -/
  entries : List (Nat × List Byte)
  records : List LedgerRec
  log : Vector LedgerLog 4
  /-- Bands that are full, by band identifier, and user swaths written (R333, R290). -/
  fullBands : List Nat
  /-- A tail scan is due or running (R326). -/
  scan : Bool
  /-- Discs of the magazine. -/
  discs : Nat
  deriving DecidableEq, Repr

/-- A ledger log before its first visit: swath 3 (R324). -/
def LedgerLog.new : LedgerLog := ⟨3, [], [], [], 0⟩

/-- No volume (R328). -/
def Vol.none : Vol :=
  { vstate := 0, magid := [], label := [], encClip := false, encBlock := false, auth := false, blku := 0, bspare := 0
    desc := 0, catCheck := [], gens := [], curClip := 0, curBlock := 0, binds := [], clips := [], spareLeft := 0
    readOnly := false, rseq := 0, entries := [], records := [], log := Vector.replicate 4 LedgerLog.new
    fullBands := [], scan := false, discs := 0 }

/-- The clip store. -/
structure Store where
  vol : Vol
  /-- Every chunk known, of the loaded volume and of magazines whose data Peat holds (R331). -/
  chunks : List Chunk
  /-- Older contents, newest first, held until what replaced them survives a power failure (R266). -/
  olds : List Chunk
  order : Nat
  /-- Journal entries of open records that Peat holds for magazines not loaded (R331): magazine ID, RTYPE, bytes;
  and closed records of them that are not durable in the ledger. -/
  journal : List (List Byte × Nat × List Byte)
  awayRecs : List (List Byte × LedgerRec)
  /-- Bytes of block writes by second, the last ten, newest first (R338). -/
  blockRate : List Nat
  /-- Passes lost by each surface in its last complete band step (R341). -/
  lostStep : Vector Nat 4
  deriving DecidableEq, Repr

end Sys2Proof.Machine
end

