-- ==== Sys2Proof/Machine/UnitsMedia.lean ====
section
/-!
DEFINITION. The state of the write path and of the Sedge links (04_write_path.md) that no register holds.
-/

namespace Sys2Proof.Machine

/-- A cell as WP builds it (R88): its 32 header bytes and its 8,192 payload bytes as stored. -/
structure CellImage where
  header : List Byte
  payload : List Byte
  deriving DecidableEq, Repr

/-- A planned or running pass (R82 to R85). -/
structure Pass where
  num : Nat
  kind : PassKind
  band : Nat
  swath : Nat
  /-- First stripe of the run, and the cells of each stripe of it, beam 0 to 15. -/
  first : Nat
  stripes : List (List Cell)
  /-- The built cells of each stripe (R88). -/
  images : List (List CellImage)
  /-- WSEQ of the first stripe. -/
  wseq0 : Nat
  /-- Slots whose cells were sent to the pickup. -/
  sent : Nat
  /-- Slot and beam of the cells that the pickup reported not written (R103). -/
  missed : List (Nat × Nat)
  deriving DecidableEq, Repr

/-- A stripe written on a surface and not yet durable or void (R111). -/
structure Stripe where
  wseq : Nat
  /-- Pass number it was written in. -/
  pass : Nat
  band : Nat
  swath : Nat
  stripe : Nat
  reloc : Bool
  cells : List Cell
  /-- Its built cells, beam 0 to 15, as DRAM holds them, and the CRC-32 kept of each codeword (R88, R89). -/
  images : List CellImage
  crcs : List (BitVec 32)
  /-- Beams whose cell passed verify, or whose relocation passed. -/
  good : List Nat
  /-- Beams whose cell is bad and pends relocation. -/
  bad : List Nat
  /-- Written copies of its cells, newest first: beam, and band, swath, stripe and beam of the copy (R109, R520). -/
  moved : List (Nat × Nat × Nat × Nat × Nat)
  /-- Step 3 of R111 is complete. -/
  passed : Bool
  void : Bool
  durable : Bool
  deriving DecidableEq, Repr

/-- A verify job (R106): the cell's stripe, beam and deadline tick. -/
structure VerifyJob where
  wseq : Nat
  beam : Nat
  deadline : Nat
  late : Bool
  /-- An engine decodes it, or has decoded it (R140). -/
  taken : Bool
  deriving DecidableEq, Repr

/-- A cell pending relocation (R109, R110). -/
structure PendCell where
  wseq : Nat
  band : Nat
  swath : Nat
  beam : Nat
  cell : Cell
  image : CellImage
  tries : Nat
  since : Nat
  deriving DecidableEq, Repr

/-- A copy written in a relocation stripe: its stripe and beam, and the origin it stands for. -/
structure RelocCopy where
  wseq : Nat
  beam : Nat
  origin : PendCell
  deriving DecidableEq, Repr

/-- A void record (R114): band, swath, first void WSEQ. -/
structure VoidRec where
  band : Nat
  swath : Nat
  wseq : Nat
  deriving DecidableEq, Repr

/-- The write path of one surface. -/
structure Wp where
  /-- Band being written and its user pointer (R84). -/
  band : Nat
  swath : Nat
  stripe : Nat
  /-- Relocation pointers of the bands used so far: band to 128 × swath + stripe. -/
  relPtr : SMap Nat
  planned : Option Pass
  running : Option Pass
  passNum : Nat
  /-- A stop request is in force (R86), and the verify throttle (R108). -/
  stop : Bool
  throt : Bool
  /-- SPOT selects the verify spot (R101). -/
  verifySpot : Bool
  stripes : List Stripe
  jobs : List VerifyJob
  pend : List PendCell
  copies : List RelocCopy
  voids : List VoidRec
  /-- Bands whose spare is exhausted (R113). -/
  spent : List Nat
  /-- Levels after the last stripe written in a swath, by beam: R63, R89; key 512 × band + swath. -/
  levels : List (Nat × List Bool)
  /-- Payloads that placement must write again elsewhere (R114, R521). -/
  rewrite : List Cell
  /-- Failed beams recorded of a band, as a mask (R112, R147), and the user swaths written in a band that placement has
  left or that has run out (R290), by band. -/
  bandFail : SMap Nat
  swaths : SMap Nat
  /-- Consecutive stripes with a bad cell, per beam (R112). -/
  badRun : Vector Nat 16
  /-- Beams that are failed and known to placement (R112). -/
  failed : List Nat
  /-- Passes lost (R108, R193, R222, R336). -/
  lost : Nat
  /-- Bands in which MAXWAIT has expired for a pending cell (R110). -/
  maxwait : List Nat
  deriving DecidableEq, Repr

/-- The Sedge link of one surface. -/
structure Se where
  /-- Bring-up running, and the tick in which it started. -/
  bring : Option Nat
  /-- Retraining after link down, since tick. -/
  retrain : Option Nat
  /-- Ticks since the last valid upstream frame. -/
  age : Nat
  /-- A POWER frame is due in the next tick (R118). -/
  powerDue : Bool
  /-- Consecutive out-of-tolerance MONITOR readings per beam (R105). -/
  monRun : Vector Nat 16
  /-- WST tables loaded last (R100). -/
  wst : List (Nat × List Word)
  token : Nat
  echoes : Nat
  /-- READ power is raised for a re-read pass (R148). -/
  boost : Bool
  /-- The pickup's ID memory as read at the last bring-up (R104). -/
  idMem : List Byte
  /-- MGMT access in progress (R104). -/
  mgmt : Bool
  deriving DecidableEq, Repr

/-- A calibration that runs on a surface (19_calibration_and_telemetry.md R468 to R473). -/
structure CalRun where
  kind : Nat
  band : Nat
  start : Nat
  /-- Kind 3: 0 the check, 1 to 8 the sweep's units, 9 to 16 the retry's. -/
  step : Nat
  /-- Start PEAK per beam, the beams that failed, and of each of those the sweep steps that passed. -/
  peak0 : List Nat
  failing : List Nat
  passed : List (Nat × Nat)
  retries : Nat
  /-- The test takes units of the surface test area (R78). -/
  area : Bool
  /-- CAL_TMO of its kind and CAL_WP.MAXERR when it started (R481). -/
  tmo : Nat
  maxerr : Nat
  deriving DecidableEq, Repr

/-- A telemetry ring (R478): the next sequence number, the records held (sequence number, tick and bytes) and
the first sequence number not yet read. -/
structure TelRing where
  seq : Nat
  recs : List (Nat × Nat × List Byte)
  unread : Nat
  deriving DecidableEq, Repr

/-- What calibration keeps of one surface. -/
structure CalSurf where
  run : Option CalRun
  /-- The last PEAK values calibrated, by layer, with the band they were calibrated in (R473). -/
  peaks : List (Nat × Nat × List Nat)
  /-- Layers whose write strategy is calibrated in this load (R468). -/
  strategy : List Nat
  /-- Test units used in swath 368, by band, and in the surface test area (R77, R78). -/
  testUsed : SMap Nat
  areaUsed : Nat
  /-- Pickup temperature at the last write-power check, 0.1 °C (R468). -/
  lastTemp : Int
  /-- The media descriptor of the side (R79), where it is valid (R80). -/
  desc : Option Descriptor
  /-- Band whose first-pass write-power check has ended in this load (R468). -/
  checked : Option Nat
  /-- Not enabled for writing until the next load (R474). -/
  barred : Bool
  /-- Passes lost and cells relocated since the last record of set 2 (R479). -/
  lost : Nat
  reloc : Nat
  /-- TE − TRK_SP of the last 4,000 ticks with TOK = 1, newest first (R476). -/
  te : List Int
  deriving DecidableEq, Repr

/-- What calibration keeps of the module: rings by SET × 64 + instance, ticks that each engine's work has been
deferred (R477), and the engines whose window is scheduled. -/
structure Cal where
  surf : Vector CalSurf 4
  rings : SMap TelRing
  defer : Vector Nat 7
  windows : List Nat
  /-- Raw quality figure per beam: eye width (R476). -/
  eye : Vector Nat 64
  /-- Surfaces whose kind 0 calibration has completed since source 53 was raised, and has ended since boot. -/
  adcDone : List Nat
  adcBoot : List Nat
  /-- What the read-channel counters stood at in the last record of set 3 (R479), by beam × 4 + counter. -/
  base : SMap Int
  /-- Latest records of sets 1, 2 and 4 as the Peat journal holds them (R477, engine 5); a copy is due. -/
  persist : List (List Byte)
  persistDue : Bool
  deriving DecidableEq, Repr

end Sys2Proof.Machine
end

