-- ==== Sys2Proof/Machine/UnitsMirror.lean ====
section
/-!
DEFINITION. The state of the mirrored pair (16_mirror_pair.md) that no register holds.
-/

namespace Sys2Proof.Machine

/-- A command of the primary as the partner holds it (R414): MSEQ, the submission entry, what the primary
assigned, and the chunks of its data received. -/
structure MirCmd where
  mseq : Nat
  dws : Vector Word 16
  tag : Nat
  clip : Nat
  frame : Nat
  stamp : Nat
  dur : Nat
  chunks : List (Nat × List Byte)
  applied : Bool
  deriving DecidableEq, Repr

/-- A report awaited by the primary (R416, R418): MSEQ, bytes sent, tick of the last DATA frame. -/
structure MirSent where
  mseq : Nat
  bytes : Nat
  last : Nat
  deriving DecidableEq, Repr

/-- The Melar link and the pair. -/
structure Ml where
  /-- Bring-up running since this tick (R409). -/
  bring : Option Nat
  /-- LSEQ of the last frame sent and taken; frames kept for replay (R410). -/
  txSeq : Nat
  rxSeq : Nat
  kept : List MelarFrame
  /-- Level driven on PEER_ALIVE (R409). -/
  alive : Bool
  /-- CRC errors in the current 400 ticks (R428). -/
  crcErrs : Nat
  hello : Option PeerHello
  /-- What the journal in Peat holds (R412, R424): EPOCH, pair state, the partner role, the MAGID of the peer's
  volume (empty for none), and the tick of the primary role. -/
  jEpoch : Nat
  jState : Nat
  jPartner : Bool
  mirrorMag : List Byte
  roleTick : Nat
  /-- Tick at which the takeover conditions began to hold (R422), and the link and heartbeat to be healthy (R425). -/
  tko : Option Nat
  healthy : Option Nat
  sent : List MirSent
  received : List MirCmd
  /-- Catalogue entries received and not yet applied: MSEQ, RTYPE, bytes (R414). -/
  cats : List (Nat × Nat × List Byte)
  /-- ML_MCT takes no more entries (R428). -/
  frozen : Bool
  /-- Tick of each master's tunnel access in progress (R427). -/
  tunnel : Vector (Option Nat) 7
  /-- Bytes of older content to copy in RESYNC, and copied; clip, frame or unit and bytes of the item that RSYNC
  frames carry now (R426). -/
  todo : Nat
  copied : Nat
  part : Option (Nat × Nat × List Byte)
  /-- Clip numbers of the peer that this module gave new numbers (R425). -/
  renum : List (Nat × Nat)
  deriving DecidableEq, Repr

end Sys2Proof.Machine
end

