-- ==== Sys2Proof/Machine/UnitsPeat.lean ====
section
/-!
DEFINITION. The state of Peat, the staging flash (13_peat_staging.md), that no register holds.
-/

namespace Sys2Proof.Machine

/-- A multi-plane block (R342, R343, R361, R362). -/
structure PtBlock where
  /-- Fast (true) or dense mode since its first program; none when erased. -/
  mode : Option Bool
  /-- Data pages that consumed descriptors have named, and data pages programmed. -/
  next : Nat
  pages : Nat
  closed : Bool
  /-- Wear count, raised by 10 or 1 at each erase. -/
  wear : Nat
  /-- Pages whose reads returned WARN since the last erase; it is scheduled for retirement; it is retired. -/
  warned : List Nat
  sched : Bool
  retired : Bool
  deriving DecidableEq, Repr

/-- A block as made. -/
def PtBlock.new : PtBlock := ⟨none, 0, 0, false, 0, [], false, false⟩

/-- Data pages of a block by mode (R342, R343). -/
def ptPages (fast : Bool) : Nat := if fast then 192 else 552

/-- The journal blocks of a die: 0 to 15 (DESIGN CHOICE, notes/assumptions/18.md). -/
def ptJournal (block : Nat) : Bool := block < 16

/-- A consumed descriptor (R350): its slot, its DWORDs, and whether a dense page waits for its parity page. -/
structure PtDesc where
  slot : Nat
  dws : Vector Word 8
  deriving DecidableEq, Repr

/-- An operation on a die (R353): the descriptor, the second die of a JOURNAL, the JSEQ of its record, and the
tick at which it began. -/
structure PtOp where
  die : Nat
  second : Option Nat
  desc : PtDesc
  jseq : Nat
  since : Nat
  deriving DecidableEq, Repr

/-- A journal record (R355): JSEQ, JTYPE, CKPT, MAGID, tick-stamp and body; programmed on its dies. -/
structure PtRec where
  jseq : Nat
  jtype : Nat
  ckpt : Bool
  mag : List Byte
  ts : Nat
  body : List Byte
  durable : Bool
  deriving DecidableEq, Repr

/-- A programmed dense page whose die stripe is still open (R347): its descriptor, result and units. -/
structure PtOpen where
  desc : PtDesc
  micros : Nat
  units : List UnitKey
  deriving DecidableEq, Repr

/-- Peat. -/
structure Pt where
  /-- Blocks that are not as made, by die × 4,096 + block. -/
  blocks : SMap PtBlock
  /-- Data and metadata of the programmed pages, by (die × 4,096 + block) × 1,024 + page. -/
  data : SMap (List Byte)
  meta_ : SMap (List Byte)
  /-- Next slot to reserve with its phase, and the slots reserved and not consumed, with their ticks. -/
  rsv : Nat
  rsvPh : Bool
  reserved : List (Nat × Nat)
  /-- Consumed descriptors that wait for dispatch, in ring order. -/
  waiting : List PtDesc
  ops : List PtOp
  openPages : List PtOpen
  /-- Journal records, the next JSEQ, and the pages that they take (R355, R357). -/
  recs : List PtRec
  jseq : Nat
  /-- Units programmed whose map entry is not journalled yet (R15). -/
  mapped : List UnitKey
  /-- PT_TEMP has been sampled; tick of the last sample. -/
  sampled : Nat
  deriving DecidableEq, Repr

end Sys2Proof.Machine
end

