-- ==== Sys2Proof/Machine/UnitsPower.lean ====
section
/-!
DEFINITION. The state of the power unit (18_power_reset_and_standby.md; 01_architecture.md R24 to R27) and of the
magazine's I2C port that no register holds.
-/

namespace Sys2Proof.Machine

/-- A Dyke sequence that runs (R452, R456): the bit of PW_RSTCAUSE with which it ends, whether it dumps, and the
order of arrival of the chunks that it dumps (R453). -/
structure Dyke where
  cause : Nat
  dumps : Bool
  todo : List Nat
  deriving DecidableEq, Repr

/-- The power unit. -/
structure Pwr where
  /-- RMODE is the state of power-up, and no spindle has started since (R24). -/
  quiet : Bool
  /-- Held in reset until VIN has been above 4.30 V for 100 ms (R452). -/
  held : Bool
  dyke : Option Dyke
  /-- RESET_N fell during the sequence (R456). -/
  resetN : Bool
  /-- VHOLD fell before the last dump ended (R454). -/
  incomplete : Bool
  /-- STANDBY has completed and the sleep is not made yet; the module sleeps (R463). -/
  sleep : Bool
  asleep : Bool
  /-- Wake sources that fired (R461), and looks made since the sleep began (R462). -/
  wakes : Nat
  looks : Nat
  /-- Surfaces that wait for the write-power check of R26 and R27; discs whose speed changes once their passes under
  way have ended; discs that speed up in turn, the first being the one in progress. -/
  await : List Nat
  move : List Nat
  turn : List Nat
  deriving DecidableEq, Repr

def Pwr.initial : Pwr :=
  { quiet := true, held := false, dyke := none, resetN := false, incomplete := false, sleep := false, asleep := false
    wakes := 0, looks := 0, await := [], move := [], turn := [] }

end Sys2Proof.Machine
end

