-- ==== Sys2Proof/Machine/UnitsRead.lean ====
section
/-!
DEFINITION. The state of the read channel (05_read_channel.md) that no register holds.
-/

namespace Sys2Proof.Machine

/-- A beam channel. -/
structure Beam where
  /-- RESTART was written (R126). -/
  restart : Bool
  /-- Band of the running session. -/
  session : Option Nat
  /-- Target taps and preset taps in force (R130, R153). -/
  tgt : Word
  /-- Swath and slot of the cell read last on the track, and whether lock was kept (R127, R136). -/
  last : Option (Nat × Nat)
  locked : Bool
  /-- Cells of the running window of 1,024, and the occurrences counted in it for the event offsets 3, 4, 5
  and 10 (R152). -/
  winCells : Nat
  winCnt : Vector Nat 4
  /-- Figures of the last 64 cells, newest first: squared error; corrected bits; iterations (R151). -/
  mse : List Nat
  corr : List Nat
  iters : List Nat
  deriving DecidableEq, Repr

/-- A job of the LDPC pool other than verify (R140). Kinds: 1 read, 2 re-read, 3 extended decode, 4 alignment. -/
structure RcJob where
  kind : Nat
  surf : Nat
  band : Nat
  swath : Nat
  stripe : Nat
  beam : Nat
  limit : Nat
  deadline : Nat
  /-- Age: jobs with a smaller number are older. -/
  order : Nat
  /-- Index into the alignment shifts, for kind 4. -/
  shift : Nat
  deriving DecidableEq, Repr

/-- A job that an engine decodes. -/
inductive EngJob where
  | verify (surf wseq beam : Nat)
  | rc (j : RcJob)
  deriving DecidableEq, Repr

/-- State of one cell of a stripe that is read (R146 to R149). -/
inductive CellSt where
  /-- Not read yet, or waiting for a re-read pass. -/
  | unread
  /-- Its job waits or runs. -/
  | queued
  | good
  /-- Failed: the ladder step it stands at (R148). -/
  | failed (step : Nat)
  | unrecovered
  deriving DecidableEq, Repr

/-- A stripe in the read buffer. -/
structure RdStripe where
  surf : Nat
  band : Nat
  swath : Nat
  stripe : Nat
  cells : Vector CellSt 16
  /-- Beams failed under R135, and beams with a flywheeled sync or resync mark. -/
  prechk : List Nat
  fly : List Nat
  /-- Re-read passes made. -/
  rereads : Nat
  deriving DecidableEq, Repr

/-- The read-channel pool. -/
structure Rc where
  beams : Vector Beam 64
  engines : Vector (Option EngJob) 20
  /-- Waiting jobs, oldest first. -/
  jobs : List RcJob
  order : Nat
  stripes : List RdStripe
  /-- Cells unrecovered: surface, band, swath, beam, slot (R149). -/
  unrec : List (Nat × Nat × Nat × Nat × Nat)
  deriving DecidableEq, Repr

end Sys2Proof.Machine
end

