-- ==== Sys2Proof/Machine/UnitsServo.lean ====
section
/-!
DEFINITION. The state of the units that run to the tick: the loop engine (06_loop_engine.md), the servo
programs (07_servo_programs.md), the spindles (08_spindle.md), the axes (09_motion_axes.md), the FSYNC
capture (02_the_tick.md) and the interrupt controller (17_interrupts.md). Only what no BAR0 register
holds stands here.
-/

namespace Sys2Proof.Machine

/-- A staged effect of an execution (R164). -/
inductive Staged where
  /-- ST: a data word. -/
  | data (addr : Nat) (v : Word)
  /-- OUT: a port value, as the port takes it. -/
  | port (p : Nat) (v : Word)
  /-- STS: set (or clear) the masked bits of LE_PSW_WORD. -/
  | sts (word : Nat) (clear : Bool) (mask : BitVec 8)
  /-- EVT: a program event code. -/
  | evt (code : BitVec 8)
  /-- PGEN: the new P (units of 2^-16), V (2^-16), ACC (2^-24), T, and whether the axis landed. -/
  | pgen (axis : Nat) (p v acc t : Int) (landed : Bool)
  deriving DecidableEq, Repr

/-- The execution in progress (R163, R164). -/
structure LeRun where
  /-- Slot-table entry. -/
  entry : Nat
  /-- Program index. -/
  prog : Nat
  /-- First cycle of its dispatch in the tick. -/
  start : Nat
  /-- Cycles used so far, dispatch included. -/
  used : Nat
  budget : Nat
  /-- Next code address. -/
  pc : Nat
  /-- X0 to X31; X0 stays 0. -/
  x : Vector Word 32
  /-- Coefficient pointer within the quarter, and the quarter (R156). -/
  cp : Nat
  quarter : Nat
  dbase : Nat
  /-- Write buffer, in program order, at most 64. -/
  wbuf : List Staged
  sat : Bool
  /-- Parity errors met by this execution (R177). -/
  parity : Nat
  deriving DecidableEq, Repr

/-- A load in progress (R172). -/
structure LeLoad where
  kind : Nat
  index : Nat
  deriving DecidableEq, Repr

/-- A verified patch image that waits for activation (R178, R179). -/
structure LePatch where
  version : BitVec 16
  /-- The 16 match words: [31] used, [25:16] patch address, [11:0] ROM address. -/
  matches_ : List Word
  costs : List Nat
  /-- 48-bit microwords. -/
  words : List (BitVec 48)
  deriving DecidableEq, Repr

/-- The loop engine. -/
structure Loop where
  run : Option LeRun
  /-- The next slot entry to look at, and the cycle of the tick reached. -/
  next : Nat
  cyc : Nat
  /-- Slot words in force (R175): word 0 and word 1 of each entry. -/
  slot : Vector (Word × Word) 48
  /-- Live entries written since the last preamble (R175). -/
  dirty : List Nat
  /-- A table that becomes live at the next preamble (R36): its 48 entries. -/
  table : Option (List (Word × Word))
  /-- SET in force (R156), and a requested toggle of BANK. -/
  setEff : BitVec 6
  swap : Bool
  load : Option LeLoad
  /-- Held master writes to LE memories in arrival order (R167), and those stalled behind them. -/
  held : List (Nat × Word)
  stalled : List (Nat × Word)
  /-- Exchange writes committed in this tick (R166): DMEM word and value. -/
  exNew : List (Nat × Word)
  /-- Entries cut in this tick, in order (R39). -/
  cuts : List Nat
  /-- Entries whose miss count reached 3 and whose action is due (R41). -/
  third : List Nat
  /-- Tick of each entry's last execution (R187). -/
  lastExec : Vector Nat 48
  /-- Last cycle that a slot entry consumed in this tick (LE_USE). -/
  useLast : Nat
  patch : Option LePatch
  /-- Preambles of a patch activation that remain, 0 to 3: two of ticks without dispatch, and the one in which the new
  match registers take effect (R179). -/
  actLeft : Nat
  /-- Events that the close of this tick posts (R31). -/
  post : List Nat
  /-- Input port values observed last (R162). -/
  ports : SMap Word
  deriving DecidableEq, Repr

/-- A LAYER or SEEK held until focus is closed (R184): whether SEEK, LAYER, ARG, SEQ. -/
structure HeldCmd where
  seek : Bool
  layer : Nat
  arg : Int
  seq : Nat
  deriving DecidableEq, Repr

/-- The standard surface programs of one surface (07_servo_programs.md). -/
structure Servo where
  /-- FSTAT: 0 OFF, 1 SEARCH, 2 CLOSED, 3 JUMP, 4 DROPHOLD. -/
  fmode : Nat
  layer : Nat
  tlayer : Nat
  sumref : BitVec 16
  /-- TSTAT: 0 OFF, 1 WAIT, 2 PULLIN, 3 ON, 4 KICK, 5 SEEK. -/
  tmode : Nat
  err : Nat
  done : Nat
  taken : Nat
  held : Option HeldCmd
  /-- The command in progress: OP and SEQ (R184). -/
  cur : Option (Nat × Nat)
  /-- Global swath index that the pickup follows (R183). -/
  gidx : Int
  /-- ANGLE of the predicted address (R193). -/
  angle : Nat
  /-- A good word has been read; age of the last, in address units, at most 15. -/
  known : Bool
  age : Nat
  /-- Consecutive agreeing words, disagreeing words, and words of another layer. -/
  agree : Nat
  disagree : Nat
  mislayer : Nat
  /-- WGATE last written by tracking (R190). -/
  lastWgate : Bool
  /-- A RELEASE was taken and SAFEH has not cleared since (R190). -/
  release : Bool
  /-- Tick of the safe-state entry whose hold is running (R42). -/
  safeTick : Option Nat
  /-- Placement holds the surface unavailable for writing (R42, R105, R112). -/
  unavail : Bool
  /-- Consecutive ticks with |y| below LOCK_TE during pull-in (R192). -/
  lockRun : Nat
  /-- Consecutive ticks at the current limit, per coil (R186). -/
  limRun : Vector Nat 3
  deriving DecidableEq, Repr

/-- One spindle (08_spindle.md); its state and counters are in SPn_STAT. -/
structure Spin where
  /-- SHUNT, START, LIMITS, RLOSS and BRAKE in force (R228). -/
  shadow : Vector Word 5
  /-- Speed reference in rpm (R220). -/
  ref : Nat
  /-- Speed measured last, signed rpm. -/
  rpm : Int
  /-- Counts as accelerating (R219). -/
  accel : Bool
  /-- Held by R219: a start about to enter ALIGN, a caught spindle, or a speed rise. -/
  heldStart : Bool
  heldCatch : Bool
  heldSpeed : Bool
  /-- BRAKE, COAST or DECEL was entered by RUN = 0 (R225). -/
  stopping : Bool
  /-- The present CATCH or coast sense follows a rotor loss (R223). -/
  lossSense : Bool
  /-- Duties committed last and loaded last (R206), in half-period cycles. -/
  duty : Vector Nat 3
  loaded : Vector Nat 3
  /-- BRMODE requested by the field program (R205). -/
  brmode : Nat
  /-- Phase currents of the last sampled period, Q1.31 (R210). -/
  cur : Vector Word 3
  /-- The shadow waits for the next attempt (R228). -/
  shadowLate : Bool
  /-- A request of this tick is still to be decided at its close (R219). -/
  fresh : Bool
  deriving DecidableEq, Repr

/-- A target request collected during a tick (R232). -/
inductive TgtReq where
  | abs (v : Int)
  | rel (v : Int)
  deriving DecidableEq, Repr

/-- One axis (09_motion_axes.md). -/
structure Axis where
  /-- Position in 2^-16 microsteps, velocity in 2^-16, acceleration in 2^-24 (R170). -/
  p : Int
  v : Int
  acc : Int
  /-- Target in microsteps. -/
  t : Int
  follow : Option Int
  reqs : List TgtReq
  /-- Limits sampled in the last preamble (R170). -/
  vmax : Nat
  amax : Nat
  jmax : Nat
  /-- An emergency stop is in force (R236): halt request, AEMG and the greatest jerk limit. -/
  emerg : Bool
  /-- A halt request until at rest: homing that ended (R235, R241). -/
  halting : Bool
  /-- Consecutive ticks at rest on T (R233). -/
  rest : Nat
  /-- Homing step 1 to 5, 0 when not homing, and the position at the step's start (R241). -/
  homeStep : Nat
  homeFrom : Int
  /-- Positions of the last five ticks, newest first (R241). -/
  hist : List Int
  /-- Table address issued (R230), and the CUR port's value committed last (R231). -/
  addr : Nat
  curOut : Word
  /-- Last SLED_REQ sequence and SA_REQ value taken (R232). -/
  sledSeq : BitVec 8
  saReq : Word
  /-- Raw home switch and its run of equal samples (R240). -/
  raw : Bool
  rawRun : Nat
  deriving DecidableEq, Repr

/-- Moderation of one target (R439). -/
structure Moder where
  /-- Events counted since the last delivery. -/
  evt : Nat
  /-- Tick in which the running holdoff expires. -/
  timer : Option Nat
  /-- Delivery has fallen due (for a core: the line is due). -/
  due : Bool
  deriving DecidableEq, Repr

/-- The interrupt controller (17_interrupts.md). -/
structure Irq where
  /-- Pending sources, rising. -/
  pend : List Nat
  /-- Active sources, rising, each with who took it: 0 to 3 CC0 to CC3, 4 PIN, 8 + v host vector v. -/
  act : List (Nat × Nat)
  vec : Vector Moder 128
  core : Vector Moder 4
  /-- Received forwards (R441) and their overflow. -/
  peerFifo : List (BitVec 11)
  peerOvf : Bool
  /-- Sources held for PEER while it is disabled (R438), rising. -/
  peerHeld : List Nat
  /-- MSI-X enabled in the host's configuration space (PCI Express standard, R251). -/
  msixEn : Bool
  deriving DecidableEq, Repr

/-- FSYNC capture (R48, R49): the newest tick-stamp and the read holding register. -/
structure Fsync where
  cap : BitVec 64
  hold : BitVec 64
  deriving DecidableEq, Repr

end Sys2Proof.Machine
end

