-- ==== Sys2Proof/Machine/State.lean ====
section
/-!
DEFINITION. The state of the module: every register, and everything the spec gives it that no register
holds. INVENTORY.md lists it field by field.
-/

namespace Sys2Proof.Machine

/-- Why the block stops. -/
inductive Fault where
  /-- Raised by DRAM_ACCESS for an address outside the 14 GiB data space, of which the spec states nothing
  (14_buffer_cache_and_dma.md R368, R375). Safe: the model stops where the hardware does something. -/
  | dramOutside
  deriving DecidableEq, Repr

/-- Why the block refuses a command. -/
inductive Refusal where
  /-- Raised by an arm of exec for a command that has no meaning yet. Safe: no effect is claimed. -/
  | notModelled (mnemonic : String)
  deriving DecidableEq, Repr

/-- The block: everything but the queue of waiting commands. -/
structure Block where
  /-- The part (R1). -/
  part : Part
  /-- BAR0 registers by offset; an unlisted one reads its reset value. -/
  regs : SMap Word
  /-- Tick counter (R45) and LECLK cycle within the tick. -/
  tick : BitVec 64
  cyc : Nat
  /-- Per-master copies (R488): GLB_TICK_HI, GLB_TICK_CYC, DR_APER, ML_TUN_CTL, ML_TUN_DATA, CAL_QSEL. -/
  tickHi : Vector Word 7
  tickCyc : Vector Word 7
  aper : Vector Word 7
  tunCtl : Vector Word 7
  tunData : Vector Word 7
  qsel : Vector Word 7
  /-- What each master's last register read returned (the model's record). -/
  rdata : Vector Word 7
  fsync : Fsync
  irq : Irq
  le : Loop
  servo : Vector Servo 4
  spin : Vector Spin 2
  axis : Vector Axis 9
  wp : Vector Wp 4
  se : Vector Se 4
  cal : Cal
  rc : Rc
  dram : Dram
  hq : Hq
  store : Store
  pt : Pt
  cx : Cx
  ml : Ml
  pw : Pwr
  /-- Emitted messages, oldest first (the model's record). -/
  out : List OutMsg
  /-- Counter of the free values used (the model's own field). -/
  free : Nat
  deriving DecidableEq, Repr

/-! ### The state after reset (18_power_reset_and_standby.md R457; 20_register_map.md R490) -/

/-- The loop engine at the release of reset: the default slot table (R38), nothing running. -/
def Loop.initial (p : Part) : Loop :=
  { run := none, next := 48, cyc := 0, slot := Vector.ofFn fun k => defaultSlot p k, dirty := [], table := none
    setEff := 0, swap := false, load := none, held := [], stalled := [], exNew := [], cuts := [], third := []
    lastExec := Vector.replicate 48 0, useLast := 0, patch := none, actLeft := 0, post := [], ports := [] }

/-- A surface's programs: focus and tracking OFF. -/
def Servo.initial : Servo :=
  { fmode := 0, layer := 0, tlayer := 0, sumref := 0, tmode := 0, err := 0, done := 0, taken := 0, held := none
    cur := none, gidx := 0, angle := 0, known := false, age := 0, agree := 0, disagree := 0, mislayer := 0
    lastWgate := false, release := false, safeTick := none, unavail := false, lockRun := 0, limRun := Vector.replicate 3 0 }

/-- A spindle: STOPPED, the limits in force those of reset (R228). -/
def Spin.initial (p : Part) (n : Nat) : Spin :=
  { shadow := #v[resetVal p (SPn_SHUNT n), resetVal p (SPn_START n), resetVal p (SPn_LIMITS n),
      resetVal p (SPn_RLOSS n), resetVal p (SPn_BRAKE n)]
    ref := 0, rpm := 0, accel := false, heldStart := false, heldCatch := false, heldSpeed := false
    stopping := false, lossSense := false, duty := Vector.replicate 3 0, loaded := Vector.replicate 3 0, brmode := 0
    cur := Vector.replicate 3 0, shadowLate := false, fresh := false }

/-- An axis at rest at 0, not homed. -/
def Axis.initial : Axis :=
  { p := 0, v := 0, acc := 0, t := 0, follow := none, reqs := [], vmax := 0, amax := 0, jmax := 0, emerg := false
    halting := false, rest := 0, homeStep := 0, homeFrom := 0, hist := [], addr := 0, curOut := 0, sledSeq := 0
    saReq := 0, raw := false, rawRun := 0 }

def Irq.initial : Irq :=
  { pend := [], act := [], vec := Vector.replicate 128 ⟨0, none, false⟩, core := Vector.replicate 4 ⟨0, none, false⟩
    peerFifo := [], peerOvf := false, peerHeld := [], msixEn := false }

/-- The write path of surface `s`, with nothing written. -/
def Wp.initial (s : Nat) : Wp :=
  { band := 256 * s, swath := 8, stripe := 0, relPtr := [], planned := none, running := none, passNum := 0
    stop := false, throt := false, verifySpot := false, stripes := [], jobs := [], pend := [], copies := []
    voids := [], spent := [], levels := [], rewrite := [], bandFail := [], swaths := [], badRun := Vector.replicate 16 0, failed := [], lost := 0, maxwait := [] }

def Se.initial : Se :=
  { bring := none, retrain := none, age := 0, powerDue := false, monRun := Vector.replicate 16 0, wst := []
    token := 0, echoes := 0, boost := false, idMem := [], mgmt := false }

def Cal.initial : Cal :=
  { surf := Vector.replicate 4 ⟨none, [], [], [], 0, 0, none, none, false, 0, 0, []⟩, rings := []
    defer := Vector.replicate 7 0, windows := [], eye := Vector.replicate 64 0, adcDone := [], adcBoot := [], base := []
    persist := [], persistDue := false }

def Rc.initial (p : Part) : Rc :=
  { beams := Vector.ofFn fun n => ⟨false, none, resetVal p (BMnn_EQ_TGT n), none, false, 0, Vector.replicate 4 0, [], [], []⟩
    engines := Vector.replicate 20 none, jobs := [], order := 0, stripes := [], unrec := [] }

/-- DRAM, MC and Sluice: DR_SCRUB.RATE 4, DR_CE_BKT.LIMIT 64 and DR_CE_LEAK 15,000 in force (R392); the reset
invalidation of MC takes 8,192 SYSCLK cycles, that is 3 ticks begun (R382). -/
def Dram.initial : Dram :=
  { mem := [], flaw := [], merge := [], rate := 4, limit := 64, leak := 15000, leakAt := 0, lines := [], victim := []
    fills := [], wait := [], initLeft := 3, parStart := 0, op := none, win := 0, winPend := none
    chan := Vector.replicate 32 ⟨0, 0, 0, [], false, false⟩, movers := [], preempted := [], lastHigh := 31, lastLow := 31 }

/-- The host interface, with the features at their defaults (R292). Firmware slot 1 holds the image that the module
runs; its revision and content are not given (notes/assumptions/22.md). -/
def Hq.initial : Hq :=
  { cmds := [], seq := 1, rrPass := 0, rr := Vector.replicate 5 0, turns := Vector.replicate 4 0, deleting := []
    resetting := false, booted := false, bme := false, async := [], events := [], dropped := 0, elog := [], lists := []
    allow := 512, cover := 0, dense := false, asyncMask := 0, warnDie := 1000, warnPeat := 800, floor := 64, idle := 0, keySet := 0
    modSet := 0, dieTemp := 0, hotDie := false, hotPeat := false, ingestUsed := 0, credit := 0, belowFloor := false
    fw := #v[⟨List.replicate 8 0, [0]⟩, ⟨[], []⟩], fwActive := 1, fwNext := 0, stage := [], stageLen := 0
    restarting := false, test := none, results := [], lastIo := 0, rmodeTicks := 0, dumps := 0, spinFaults := 0
    rotorLosses := 0, safeStates := 0 }

def Store.initial : Store :=
  { vol := Vol.none, chunks := [], olds := [], order := 0, journal := [], awayRecs := [], blockRate := [], lostStep := Vector.replicate 4 0 }

/-- Peat as made: every block erased, no journal record. -/
def Pt.initial : Pt :=
  { blocks := [], data := [], meta_ := [], rsv := 0, rsvPh := true, reserved := [], waiting := [], ops := []
    openPages := [], recs := [], jseq := 1, mapped := [], sampled := 0 }

def Cx.initial : Cx :=
  { slots := Vector.replicate 64 CxKey.none, pages := Vector.replicate 16 CxKey.none, testing := [], conds := [], retries := 0 }

def Ml.initial : Ml :=
  { bring := none, txSeq := 0, rxSeq := 0, kept := [], alive := false, crcErrs := 0, hello := none, jEpoch := 0
    jState := 0, jPartner := false, mirrorMag := [], roleTick := 0, tko := none, healthy := none, sent := []
    received := [], cats := [], frozen := false, tunnel := Vector.replicate 7 none, todo := 0, copied := 0
    part := none, renum := [] }

/-- The block after reset with cause POR: every register at its reset value (the map lists nothing but PW_STAT,
whose RMODE is 1 at power-up, R24), every memory empty. -/
def Block.initial (p : Part) : Block :=
  { part := p, regs := [(PW_STAT, 0x400)], tick := 0, cyc := 0, tickHi := Vector.replicate 7 0
    tickCyc := Vector.replicate 7 0, aper := Vector.replicate 7 0, tunCtl := Vector.replicate 7 0
    tunData := Vector.replicate 7 0, qsel := Vector.replicate 7 0, rdata := Vector.replicate 7 0, fsync := ⟨0, 0⟩
    irq := Irq.initial, le := Loop.initial p, servo := Vector.replicate 4 Servo.initial
    spin := #v[Spin.initial p 0, Spin.initial p 1], axis := Vector.replicate 9 Axis.initial
    wp := #v[Wp.initial 0, Wp.initial 1, Wp.initial 2, Wp.initial 3], se := Vector.replicate 4 Se.initial
    cal := Cal.initial, rc := Rc.initial p, dram := Dram.initial, hq := Hq.initial, store := Store.initial
    pt := Pt.initial, cx := Cx.initial, ml := Ml.initial, pw := Pwr.initial, out := [], free := 0 }

/-- The machine: the block and the queue of commands that wait, first in first out. -/
structure State extends Block where
  pending : List Instr
  deriving DecidableEq, Repr

/-- The machine right after reset: a PL6416 at power-up, with no command waiting. -/
def State.reset : State := { Block.initial .pl6416 with pending := [] }

end Sys2Proof.Machine
end

