-- ==== Sys2Proof/Machine/Media.lean ====
section
/-!
DEFINITION. The arithmetic of the Ploulroth media format (03_media_format.md): slots, stripes, band
identifiers, band sequence, the wobble address word and its CRC-5, the CRC-32.
-/

namespace Sys2Proof.Machine

/-- N_k: cell slots per revolution in zone `k` (R55). -/
def slotsOf (k : Nat) : Nat :=
  [30, 31, 33, 35, 37, 39, 40, 42, 44, 46, 47, 49, 51, 53, 55, 56, 58, 60, 62, 63, 65, 67, 69, 71].getD k 0

/-- Band identifier (R18): bits [9:8] surface, [7:0] layer × 24 + zone. -/
def bandId (surf layer zone : Nat) : Nat := surf * 256 + layer * 24 + zone

def bandSurf (b : Nat) : Nat := b / 256 % 4
def bandLayer (b : Nat) : Nat := b % 256 / 24
def bandZone (b : Nat) : Nat := b % 256 % 24

/-- A band identifier is valid on the part (R18). -/
def bandOk (p : Part) (b : Nat) : Bool := b < 1024 && b % 256 ≤ 143 && p.hasSurf (bandSurf b)

/-- N_k of a band. -/
def bandSlots (b : Nat) : Nat := slotsOf (bandZone b)

/-- The band is the ledger band L0/Z0 of its surface (R18, R81). -/
def isLedgerBand (b : Nat) : Bool := b % 256 = 0

/-- First user swath of a band (R75, R84): 8 in the ledger band. -/
def firstSwath (b : Nat) : Nat := if isLedgerBand b then 8 else 0

/-- One past the last user swath of a band (R18, R75): 296 in the ledger band, else 360. -/
def endSwath (b : Nat) : Nat := if isLedgerBand b then 296 else 360

/-- Slot of stripe `s` on beam `b` in a zone of `n` slots (R72): (s + 2b) mod N_k. -/
def cellSlot (n s b : Nat) : Nat := if n = 0 then 0 else (s + 2 * b) % n

/-- All 16 cells of stripe `s` lie in slots below `reached` (R114). -/
def stripeWritten (n s reached : Nat) : Bool := (List.range 16).all fun b => cellSlot n s b < reached

/-- One CRC-5 step (R58). -/
def crc5Step (reg : BitVec 5) (d : Bool) : BitVec 5 :=
  let f := reg.getLsbD 4 ^^ d
  let r := reg <<< 1
  if f then r ^^^ 0b00101#5 else r

/-- CRC-5 over bits [27:5] of an address word, most significant first, from 0b11111 (R58). -/
def crc5 (w : BitVec 28) : BitVec 5 :=
  (List.range 23).foldl (fun r i => crc5Step r (w.getLsbD (27 - i))) 0b11111#5

/-- The address word of a layer, zone, swath and angle (R58). -/
def addrWord (layer zone swath angle : Nat) : BitVec 28 :=
  let w := BitVec.ofNat 28 (layer * 2 ^ 25 + zone * 2 ^ 20 + swath * 2 ^ 11 + angle * 2 ^ 5)
  w ||| (crc5 w).setWidth 28

/-- The word's fields lie in their ranges (R58). -/
def addrInRange (w : BitVec 28) : Bool :=
  let n := w.toNat
  let layer := n / 2 ^ 25
  let zone := n / 2 ^ 20 % 32
  let swath := n / 2 ^ 11 % 512
  let angle := n / 2 ^ 5 % 64
  layer ≤ 5 && angle ≤ 47 &&
    (zone ≤ 23 && swath ≤ 368 || (zone = 30 || zone = 31) && swath ≤ 25)

/-- A good word: its CRC holds and its fields are in range (R193). -/
def addrGood (w : BitVec 28) : Bool := (w.setWidth 5 = crc5 w) && addrInRange w

/-- Global swath index of an address (R183): lead-in −26 to −1, zones 0 to 8,855, lead-out from 8,856. -/
def addrIndex (w : BitVec 28) : Int :=
  let zone : Nat := w.toNat / 2 ^ 20 % 32
  let swath : Nat := w.toNat / 2 ^ 11 % 512
  if zone = 31 then (swath : Int) - 26 else if zone = 30 then 8856 + (swath : Int)
  else 369 * (zone : Int) + (swath : Int)

def addrLayer (w : BitVec 28) : Nat := w.toNat / 2 ^ 25
def addrAngle (w : BitVec 28) : Nat := w.toNat / 2 ^ 5 % 64

/-- The predicted address word [27:5] for an index, a layer and an angle, [4:0] zero (R183, R193). -/
def predWord (layer : Nat) (idx : Int) (angle : Nat) : Nat :=
  let (zone, swath) :=
    if idx < 0 then (31, (idx + 26).toNat)
    else if idx < 8856 then ((idx / 369).toNat, (idx % 369).toNat)
    else (30, (idx - 8856).toNat)
  layer * 2 ^ 25 + zone * 2 ^ 20 + swath * 2 ^ 11 + angle * 2 ^ 5

/-- One CRC-32 bit step, reflected polynomial 0xEDB88320 (R66). -/
def crc32Bit (r : BitVec 32) : BitVec 32 :=
  if r.getLsbD 0 then (r >>> 1) ^^^ 0xEDB88320#32 else r >>> 1

/-- CRC-32 of a byte string (R66). -/
def crc32 (bs : List Byte) : BitVec 32 :=
  bs.foldl (fun r x => (List.range 8).foldl (fun r _ => crc32Bit r) (r ^^^ x.setWidth 32)) 0xFFFFFFFF#32
    ^^^ 0xFFFFFFFF#32

/-! ### Cell headers (R64 to R66) -/

/-- Byte `i` of a byte string, 0 beyond its end. -/
def byteAt (l : List Byte) (i : Nat) : Nat := (l.getD i 0).toNat

/-- Little-endian value of `n` bytes at `i`. -/
def valAt (l : List Byte) (i n : Nat) : Nat :=
  (List.range n).foldl (fun a k => a + byteAt l (i + k) * 256 ^ k) 0

/-- Fields of the 32 header bytes (R64). -/
def hdrCtype (h : List Byte) : Nat := byteAt h 0 % 16
def hdrBand (h : List Byte) : Nat := valAt h 2 2
def hdrBeam (h : List Byte) : Nat := valAt h 4 2 / 2 ^ 9 % 16
def hdrSwath (h : List Byte) : Nat := valAt h 4 2 % 2 ^ 9
def hdrSlot (h : List Byte) : Nat := byteAt h 6
def hdrStripe (h : List Byte) : Nat := byteAt h 7
def hdrClip (h : List Byte) : Nat := valAt h 8 2
def hdrFrame (h : List Byte) : Nat := valAt h 10 3
def hdrKeygen (h : List Byte) : Nat := byteAt h 13
def hdrOffset (h : List Byte) : Nat := valAt h 14 4
def hdrWseq (h : List Byte) : Nat := valAt h 24 4

/-- HCRC holds over bytes 0 to 27 (R66). -/
def hdrCrcOk (h : List Byte) : Bool := h.length = 32 && (crc32 (h.take 28)).toNat = valAt h 28 4

/-- CTYPE is defined (R65). -/
def ctypeOk (c : Nat) : Bool := 1 ≤ c && c ≤ 6

end Sys2Proof.Machine
end

