-- ==== Sys2Proof/Config.lean ====
section
/-!
DEFINITION. What an implementation fixes and the spec does not give, and the free values: opaque
constants with no body, of which no proof can see the value.
-/

namespace Sys2Proof.Config

/-- The free value number `n`, as a number; the step applies it to State's counter `free` (log entry 2). -/
opaque freeNat : Nat → Nat

/-- SINCOS, ROT and ATAN2 (06_loop_engine.md R160): what the micro-routines in force, named by the ROM revision, the
patch and its match registers, make of the inputs. R160 fixes their results to within a bound only, which
Machine/Trig.lean applies. -/
opaque cosRom : List Word → Word → Word
opaque sinRom : List Word → Word → Word
opaque rotRom : List Word → Word → Word → Word → Int × Int
opaque atan2Rom : List Word → Word → Word → Word

/-- The patch image's ECDSA P-384 signature verifies under the key in on-die ROM (R178); the key is not given. -/
opaque patchSigOk : List Byte → Bool

/-- A ROM microaddress of the dispatch, preamble or close sequences, which cannot be patched (R176). -/
opaque fixedMicro : Nat → Bool

/-- The device-unique key fused into the die (15_cipher.md R403), 32 bytes; it has no read path. -/
opaque deviceKey : Vector Byte 32

/-- The firmware image's signature verifies under the key in on-die ROM (11_command_set.md R301). -/
opaque fwSigOk : List Byte → Bool

/-- SERIAL of the module (R288), 20 ASCII bytes. -/
opaque serial : Vector Byte 20

end Sys2Proof.Config
end

