-- ==== Sys2Proof/Machine/Flags.lean ====
section
/-!
DEFINITION. Reading and writing register fields and status flags: the one home of every register is the
map `regs` (20_register_map.md), and hardware counters saturate (their field descriptions).
-/

namespace Sys2Proof.Machine

/-- The bits of a field, as a mask over the register. -/
def Fld.mask (f : Fld) : Word := BitVec.ofNat 32 (2 ^ (f.hi + 1 - f.lo) - 1) <<< f.lo

/-- The field's value in the register word `v`. -/
def Fld.get (f : Fld) (v : Word) : Nat := ((v &&& f.mask) >>> f.lo).toNat

/-- The register word `v` with the field set to `n` (its low bits). -/
def Fld.put (f : Fld) (v : Word) (n : Nat) : Word :=
  (v &&& ~~~f.mask) ||| ((BitVec.ofNat 32 n <<< f.lo) &&& f.mask)

/-- Largest value the field holds. -/
def Fld.top (f : Fld) : Nat := 2 ^ (f.hi + 1 - f.lo) - 1

/-- The stored word of register `o`. -/
def Block.rd (b : Block) (o : Nat) : Word := b.regs.get o (resetVal b.part o)

/-- Store word `v` in register `o`. -/
def Block.wr (b : Block) (o : Nat) (v : Word) : Block :=
  { b with regs := b.regs.set o v (resetVal b.part o) }

/-- The value of a field. -/
def Block.fld (b : Block) (f : Fld) : Nat := f.get (b.rd f.reg)

/-- Set a field to `n`. -/
def Block.setFld (b : Block) (f : Fld) (n : Nat) : Block := b.wr f.reg (f.put (b.rd f.reg) n)

/-- A field reads non-zero. -/
def Block.on (b : Block) (f : Fld) : Bool := b.fld f ≠ 0

/-- Set a one-bit field to a truth value. -/
def Block.setBit (b : Block) (f : Fld) (v : Bool) : Block := b.setFld f v.toNat

/-- Bit `i` of a field that holds one bit per unit. -/
def Block.onBit (b : Block) (f : Fld) (i : Nat) : Bool := (b.fld f).testBit i

/-- Set or clear bit `i` of such a field. -/
def Block.putBit (b : Block) (f : Fld) (i : Nat) (v : Bool) : Block :=
  b.setFld f (if v then b.fld f ||| 2 ^ i else b.fld f &&& (f.top - 2 ^ i))

/-- Add `n` to a counter field, saturating at its top. -/
def Block.bump (b : Block) (f : Fld) (n : Nat) : Block := b.setFld f (min (b.fld f + n) f.top)

/-- Signed value of a field. -/
def Block.sfld (b : Block) (f : Fld) : Int :=
  let w := f.hi + 1 - f.lo
  if b.fld f < 2 ^ (w - 1) then (b.fld f : Int) else (b.fld f : Int) - 2 ^ w

/-- Low `w` bits of an integer, as a natural number. -/
def natOf (w : Nat) (i : Int) : Nat := (i % 2 ^ w).toNat

/-- The current tick as a number. -/
def Block.now (b : Block) : Nat := b.tick.toNat

/-- The tick-stamp (R45): bits [63:11] the tick, [10:0] the cycle. -/
def Block.stamp (b : Block) : BitVec 64 := BitVec.ofNat 64 (b.tick.toNat % 2 ^ 53 * 2 ^ 11 + b.cyc % 2 ^ 11)

/-- Element `i` of a vector of unit states. -/
def vget {α : Type} {n : Nat} (v : Vector α n) (i : Fin n) : α := v[i]

/-- A vector of unit states with element `i` replaced. -/
def vset {α : Type} {n : Nat} (v : Vector α n) (i : Fin n) (x : α) : Vector α n := v.set i.val x i.isLt

/-- A vector of unit states with element `i` changed. -/
def vmod {α : Type} {n : Nat} (v : Vector α n) (i : Fin n) (f : α → α) : Vector α n :=
  vset v i (f (vget v i))

/-- Use one free value: its number, and the block that has used it (log entry 2). -/
def Block.freeVal (b : Block) : Nat × Block := (Config.freeNat b.free, { b with free := b.free + 1 })

def Block.modIrq (b : Block) (f : Irq → Irq) : Block := { b with irq := f b.irq }
def Block.modFsync (b : Block) (f : Fsync → Fsync) : Block := { b with fsync := f b.fsync }
def Block.modLe (b : Block) (f : Loop → Loop) : Block := { b with le := f b.le }
def Block.modPt (b : Block) (f : Pt → Pt) : Block := { b with pt := f b.pt }
def Block.modPw (b : Block) (f : Pwr → Pwr) : Block := { b with pw := f b.pw }
def Block.modMl (b : Block) (f : Ml → Ml) : Block := { b with ml := f b.ml }

/-- The tick counter (R45). -/
def Block.setTick (b : Block) (t : BitVec 64) : Block := { b with tick := t }

/-- The cycle of the tick that the block has reached (R45). -/
def Block.setCyc (b : Block) (n : Nat) : Block := { b with cyc := n }

/-- The per-master copies (20_register_map.md R488), by the master's index. -/
def Block.setSnap (b : Block) (i : Fin 7) (hi cyc : Word) : Block :=
  { b with tickHi := vset b.tickHi i hi, tickCyc := vset b.tickCyc i cyc }
def Block.setAper (b : Block) (i : Fin 7) (v : Word) : Block := { b with aper := vset b.aper i v }
def Block.setTunCtl (b : Block) (i : Fin 7) (v : Word) : Block := { b with tunCtl := vset b.tunCtl i v }
def Block.setTunData (b : Block) (i : Fin 7) (v : Word) : Block := { b with tunData := vset b.tunData i v }
def Block.setQsel (b : Block) (i : Fin 7) (v : Word) : Block := { b with qsel := vset b.qsel i v }
/-- What a register read by master `m` returns. -/
def Block.answer (b : Block) (m : Master) (v : Word) : Block := { b with rdata := vset b.rdata m.idx v }

/-- Emit a message. -/
def Block.emit (b : Block) (m : OutMsg) : Block := { b with out := b.out ++ [m] }

/-- Run a meaning of the block inside the machine: every command leaves the queue alone and goes on. -/
def State.upd (s : State) (f : Block → Block) : Host.Outcome State Fault Refusal :=
  .next { s with toBlock := f s.toBlock }

end Sys2Proof.Machine
end

