-- ==== Sys2Proof/Machine/Ops.lean ====
section
/-!
DEFINITION. The named operations shared by the families: raising an interrupt source and delivering it
(17_interrupts.md), register access by a master (00_scope.md R4, 20_register_map.md), and what an absent
unit does (R1, R491).
-/

namespace Sys2Proof.Machine

/-! ### Interrupt sources -/

/-- Insert a source into a rising list, once. -/
def insertSrc (n : Nat) : List Nat → List Nat
  | [] => [n]
  | m :: t => if n < m then n :: m :: t else if n = m then m :: t else m :: insertSrc n t

/-- The unit of source `n` is present, and `n` is no reserved source (R429, R430). -/
def srcPresent (p : Part) (n : Nat) : Bool :=
  if n < 200 then true
  else if n < 224 then false
  else if n < 240 then true
  else if n < 256 then false
  else if n < 1024 then p.hasBeam ((n - 256) / 12)
  else if n < 1184 then p.hasSurf ((n - 1024) / 40)
  else if n < 1216 then p.hasSpin ((n - 1184) / 16)
  else if n < 1288 then p.hasAxis ((n - 1216) / 8)
  else n < 1408

/-- The route byte of source `n` (R432): PEER and target. -/
def Block.route (b : Block) (n : Nat) : Nat :=
  b.fld (IC_ROUTE_k_TGT (n / 4) (n % 4))

def Block.routePeer (b : Block) (n : Nat) : Bool :=
  b.on (IC_ROUTE_k_PEER (n / 4) (n % 4))

/-- The group of source `n` for IC_GVEC (R433). -/
def srcGroup (n : Nat) : Nat :=
  if n < 64 then 0 else if n < 192 then 1 else if n < 224 then 2 else if n < 256 then 3
  else if n < 1024 then 4 else if n < 1184 then 5 else if n < 1216 then 6 else if n < 1288 then 7
  else if n < 1352 then 8 else if n < 1384 then 9 else 10

/-- The MSI-X vector of a host-routed source (R433). -/
def Block.srcVec (b : Block) (n : Nat) : Nat :=
  if 64 ≤ n ∧ n < 192 then b.fld (HQ_Pq_ATTR_VEC (n - 64)) else b.fld (IC_GVEC_g_VEC (srcGroup n))

/-- Pending sources routed to the host on vector `v`. -/
def Block.vecPend (b : Block) (v : Nat) : List Nat :=
  b.irq.pend.filter fun n => b.route n = 5 && b.srcVec n = v

/-- Pending sources routed to a claim target `t` (0 to 3 CC0 to CC3, 4 PIN). -/
def Block.tgtPend (b : Block) (t : Nat) : List Nat :=
  b.irq.pend.filter fun n => b.route n = (if t = 4 then 6 else t + 1)

/-- Vector `v` is in service (R435): one of its sources is active. -/
def Block.inService (b : Block) (v : Nat) : Bool := b.irq.act.any fun e => e.2 = 8 + v

/-- Delivery to the host of vector `v` is held by DIS, the vector's mask or a disabled MSI-X (R433, R438). -/
def Block.vecHeld (b : Block) (v : Nat) : Bool :=
  b.onBit IC_TGT_CTL_DIS 4 || b.on (MSIX_CTRL_W v) || !b.irq.msixEn

/-- Change the moderation of a vector. -/
def Block.modVec (b : Block) (v : Nat) (f : Moder → Moder) : Block :=
  b.modIrq fun i => { i with vec := vmod i.vec (Fin.ofNat 128 v) f }

/-- Change the moderation of a core. -/
def Block.modCore (b : Block) (c : Nat) (f : Moder → Moder) : Block :=
  b.modIrq fun i => { i with core := vmod i.core (Fin.ofNat 4 c) f }

/-- Moderation with nothing counted: after a delivery or a lapse (R439). -/
def Moder.idle : Moder := ⟨0, none, false⟩

/-- Send the message of vector `v` (R433, R435): its pending sources become active. -/
def Block.sendVec (b : Block) (v : Nat) : Block :=
  let srcs := b.vecPend v
  let act' := srcs.foldl (fun a n => a.filter (fun e => e.1 ≠ n) ++ [(n, 8 + v)]) b.irq.act
  let b := b.modIrq fun i => { i with pend := i.pend.filter (fun n => !srcs.contains n), act := act' }
  let b := b.modVec v fun _ => Moder.idle
  let b := b.setFld (MSIX_PBA_W (v / 32)) (b.fld (MSIX_PBA_W (v / 32)) &&& (0xFFFFFFFF - 2 ^ (v % 32)))
  b.emit (.msix v (b.rd (MSIX_ADDR_LO v)) (b.rd (MSIX_ADDR_HI v)) (b.rd (MSIX_DATA v)))

/-- Make a delivery of vector `v` that is due, unless it is held; a due delivery with nothing pending
lapses (R435, R438, R439). A masked vector sets its PBA bit (R433). -/
def Block.tryVec (b : Block) (v : Nat) : Block :=
  if !(vget b.irq.vec (Fin.ofNat 128 v)).due then b
  else if (b.vecPend v).isEmpty then
    if b.inService v then b.modVec v fun m => { m with due := false }
    else
      (b.modVec v fun _ => Moder.idle).setFld (MSIX_PBA_W (v / 32))
        (b.fld (MSIX_PBA_W (v / 32)) &&& (0xFFFFFFFF - 2 ^ (v % 32)))
  else if b.inService v then b
  else if b.vecHeld v then
    if b.on (MSIX_CTRL_W v) then
      b.setFld (MSIX_PBA_W (v / 32)) (b.fld (MSIX_PBA_W (v / 32)) ||| 2 ^ (v % 32))
    else b
  else b.sendVec v

/-- Every core whose line has no pending source left restarts its count (R439). -/
def Block.lapseCores (b : Block) : Block :=
  (List.range 4).foldl (fun b c => if (b.tgtPend c).isEmpty then b.modCore c fun _ => Moder.idle else b) b

/-- Make every delivery that has fallen due and is no longer held; drop those that have lapsed (R438, R439). -/
def Block.settle (b : Block) : Block :=
  (List.range 128).foldl (fun b v => b.tryVec v) b.lapseCores

/-- The moderation settings COUNT and HOLDOFF. -/
def Block.modSet (b : Block) (host : Bool) (i : Nat) : Nat × Nat :=
  if host then (b.fld (IC_MOD_v_COUNT i), b.fld (IC_MOD_v_HOLDOFF i))
  else (b.fld (IC_CCMOD_c_COUNT i), b.fld (IC_CCMOD_c_HOLDOFF i))

/-- Count one event at a moderated target (R439); `bypass` makes delivery due at the raise (R440). -/
def Block.countEvent (b : Block) (cnt hold : Nat) (bypass : Bool) (m : Moder) : Moder :=
  let evt := m.evt + 1
  { evt := evt
    timer := if hold = 0 then none else (if m.timer.isSome then m.timer else some (b.now + hold + 1))
    due := m.due || bypass || hold = 0 || (cnt ≠ 0 && cnt ≤ evt) }

/-- The CQ of some pair of vector `v` holds an unconsumed completion. -/
def Block.vecBusy (b : Block) (v : Nat) : Bool :=
  (List.range 128).any fun q =>
    b.onBit (HQ_PAIR_k_EXISTS (q / 32)) (q % 32) && b.fld (HQ_Pq_ATTR_VEC q) = v &&
      b.fld (HQ_Pq_CQ_HEAD q) ≠ b.fld (HQ_Pq_CQ_TAIL q)

/-- Send a Melar frame on a link that is up; the last 64 frames are kept for replay (16_mirror_pair.md R410). -/
def Block.melarSend (b : Block) (type arg : Nat) (payload : List Byte) : Block :=
  if !b.on ML_STAT_LINK_UP then b
  else
    let f : MelarFrame := ⟨type, 0, b.ml.txSeq + 1, arg, payload⟩
    let b := b.modMl fun l => { l with txSeq := l.txSeq + 1, kept := (l.kept ++ [f]).drop (l.kept.length - 63) }
    b.emit (.melar f)

/-- Forward a raise to the partner (R441). -/
def Block.forward (b : Block) (n : Nat) : Block :=
  if !b.on ML_STAT_LINK_UP then b.bump IC_ERR_PEERDROP 1
  else if b.onBit IC_TGT_CTL_DIS 6 then b.modIrq fun i => { i with peerHeld := insertSrc n i.peerHeld }
  else b.melarSend 0x09 n []

/-- Raise source `n` with the bypass of R440 given (R429 to R441). -/
def Block.raiseWith (b : Block) (n : Nat) (bypass : Bool) : Block :=
  if !srcPresent b.part n then b
  else
    let b := b.modIrq fun i => { i with pend := insertSrc n i.pend }
    let b := if b.routePeer n then b.forward n else b
    let t := b.route n
    if t = 5 then
      let v := b.srcVec n
      let (c, h) := b.modSet true v
      (b.modVec v (b.countEvent c h bypass)).tryVec v
    else if 1 ≤ t ∧ t ≤ 4 then
      let (c, h) := b.modSet false (t - 1)
      b.modCore (t - 1) (b.countEvent c h (b.onBit IC_CCSTAT_WAIT (t - 1)))
    else b

/-- Raise source `n` (R429). A vector out of service with every CQ empty bypasses moderation (R440). -/
def Block.raise (b : Block) (n : Nat) : Block :=
  b.raiseWith n (!b.inService (b.srcVec n) && !b.vecBusy (b.srcVec n))

/-- Raise source `n` at the close of the tick (R31). -/
def Block.postClose (b : Block) (n : Nat) : Block :=
  b.modLe fun l => { l with post := l.post ++ [n] }

/-- Clear pending bits (a claim, a W1C, a head doorbell), then let what lapsed lapse (R439). -/
def Block.clearPend (b : Block) (f : Nat → Bool) : Block :=
  (b.modIrq fun i => { i with pend := i.pend.filter fun n => !f n }).settle

/-- A core's interrupt line, or INT_N, is asserted (R434). -/
def Block.line (b : Block) (t : Nat) : Bool :=
  !(b.tgtPend t).isEmpty &&
    (if t = 4 then !b.onBit IC_TGT_CTL_DIS 5
     else (vget b.irq.core (Fin.ofNat 4 t)).due && !b.onBit IC_TGT_CTL_DIS t)

/-! ### Absent units -/

/-- Act on a surface that is present; nothing happens on an absent one (R1). -/
def Block.onSurf (b : Block) (s : Fin 4) (f : Block → Block) : Block := if b.part.hasSurf s then f b else b

/-- Act on a spindle that is present. -/
def Block.onSpin (b : Block) (n : Fin 2) (f : Block → Block) : Block := if b.part.hasSpin n then f b else b

/-- Act on an axis that is present. -/
def Block.onAxis (b : Block) (a : Fin 9) (f : Block → Block) : Block := if b.part.hasAxis a then f b else b

/-- Act on a beam channel that is present. -/
def Block.onBeam (b : Block) (n : Fin 64) (f : Block → Block) : Block := if b.part.hasBeam n then f b else b

/-- Raise offset `k` of surface `s` (R117, R152, R186). -/
def Block.raiseSurf (b : Block) (s : Fin 4) (k : Nat) : Block := b.raise (1024 + 40 * s.val + k)

/-- Raise offset `k` of spindle `n` (R227). -/
def Block.raiseSpin (b : Block) (n : Fin 2) (k : Nat) : Block := b.raise (1184 + 16 * n.val + k)

/-- Raise offset `k` of axis `a` (R247). -/
def Block.raiseAxis (b : Block) (a : Fin 9) (k : Nat) : Block := b.raise (1216 + 8 * a.val + k)

/-- The spindle of surface `s` (R222). -/
def spinOf (s : Fin 4) : Fin 2 := Fin.ofNat 2 (s.val / 2)

/-! ### Unit updates -/

def Block.modServo (b : Block) (s : Fin 4) (f : Servo → Servo) : Block := { b with servo := vmod b.servo s f }
def Block.modSpin (b : Block) (n : Fin 2) (f : Spin → Spin) : Block := { b with spin := vmod b.spin n f }
def Block.modAxis (b : Block) (a : Fin 9) (f : Axis → Axis) : Block := { b with axis := vmod b.axis a f }
def Block.modWp (b : Block) (s : Fin 4) (f : Wp → Wp) : Block := { b with wp := vmod b.wp s f }
def Block.modSe (b : Block) (s : Fin 4) (f : Se → Se) : Block := { b with se := vmod b.se s f }

/-- Send a Sedge frame, where the link is up. -/
def Block.sedge (b : Block) (s : Fin 4) (f : SedgeFrame) : Block :=
  if b.on (SEs_STAT_LINK_UP s) then b.emit (.sedge s f) else b

end Sys2Proof.Machine
end

