-- ==== Sys2Proof/Machine/TelOps.lean ====
section
/-!
DEFINITION. Telemetry records and rings (19_calibration_and_telemetry.md R478, R479), byte strings, and how a
calibration ends (R474, R475).
-/

namespace Sys2Proof.Machine

/-- `n` bytes of `v`, little-endian. -/
def leBytes (n v : Nat) : List Byte := (List.range n).map fun i => BitVec.ofNat 8 (v / 256 ^ i)

/-- The little-endian value of a byte string. -/
def leVal : List Byte → Nat
  | [] => 0
  | x :: t => x.toNat + 256 * leVal t

/-- `n` bytes in which the fields (offset, size, value) stand little-endian and every other byte is 0. -/
def packBytes (n : Nat) (fields : List (Nat × Nat × Nat)) : List Byte :=
  (List.range n).map fun i =>
    match fields.find? fun f => f.1 ≤ i && i < f.1 + f.2.1 with
    | some f => BitVec.ofNat 8 (f.2.2 / 256 ^ (i - f.1))
    | none => 0

def Block.modCal (b : Block) (f : Cal → Cal) : Block := { b with cal := f b.cal }

def Block.modCalSurf (b : Block) (s : Fin 4) (f : CalSurf → CalSurf) : Block :=
  b.modCal fun c => { c with surf := vmod c.surf s f }

/-- An empty ring. -/
def TelRing.empty : TelRing := ⟨0, [], 0⟩

/-- Depth of a set's ring (R478). -/
def telDepth (set : Nat) : Nat := if set = 3 ∨ set = 5 then 1024 else 4096

/-- Key of a ring. -/
def telKey (set inst : Nat) : Nat := set * 64 + inst

def Block.ring (b : Block) (set inst : Nat) : TelRing := b.cal.rings.get (telKey set inst) TelRing.empty

/-- Add a record with the body fields given (R478, R479), where the set is sampled; a full ring overwrites its
oldest record, and source 51 is raised where that was not read (R480). -/
def Block.telRecord (b : Block) (set inst : Nat) (fields : List (Nat × Nat × Nat)) : Block :=
  if !b.on CAL_CTL_TELEN || !b.onBit CAL_TEL_CTL_SETEN (set - 1) then b
  else
    let r := b.ring set inst
    let bytes := packBytes 64 ((0, 1, set) :: (1, 1, inst) :: (4, 4, r.seq) :: (8, 8, b.stamp.toNat) :: fields)
    let full : Bool := telDepth set ≤ r.recs.length
    let lost : Bool := full && r.unread ≤ r.seq - r.recs.length
    let recs := (if full then r.recs.drop 1 else r.recs) ++ [(r.seq, b.stamp.toNat, bytes)]
    let r' : TelRing := { r with seq := r.seq + 1, recs := recs }
    let b := b.modCal fun c => { c with rings := c.rings.set (telKey set inst) r' TelRing.empty }
    if lost then b.raise 51 else b

/-- Engine 5 (R477): the latest record of every instance of sets 1, 2 and 4 goes to the Peat journal; source 54. -/
def Block.persistTel (b : Block) : Block :=
  let last := b.cal.rings.filterMap fun e =>
    if e.1 / 64 = 1 ∨ e.1 / 64 = 2 ∨ e.1 / 64 = 4 then e.2.recs.getLast?.map (·.2.2) else none
  (b.modCal fun c => { c with persist := last, persistDue := false }).raise 54

/-- The lowest surface on which a calibration runs gives CAL_STAT.KIND (R481). -/
def Block.calKind (b : Block) : Block :=
  let ks := (List.range 4).filterMap fun s => (vget b.cal.surf (Fin.ofNat 4 s)).run.map (·.kind)
  b.setFld CAL_STAT_KIND (ks.headD 0)

/-- A calibration on a surface ends (R479): BUSY clears, and a record of set 5 is made; `result` is 0 good, 1
bad, 2 abandoned. -/
def Block.calEnd (b : Block) (s : Fin 4) (result : Nat) (values : List Nat) : Block :=
  match (vget b.cal.surf s).run with
  | none => b
  | some c =>
    let b := b.modCalSurf s fun x => { x with run := none }
    let b := (b.putBit CAL_STAT_BUSY s.val false).calKind
    let fields := [(16, 1, c.kind), (17, 1, result), (18, 2, c.band), (20, 1, c.step), (21, 1, c.retries)] ++
      values.zipIdx.map fun v => (30 + 2 * v.2, 2, v.1)
    b.telRecord 5 0 fields

/-- A calibration that is cut is abandoned (R475). -/
def Block.calAbandon (b : Block) (s : Fin 4) : Block :=
  match (vget b.cal.surf s).run with
  | none => b
  | some c =>
    let b := (b.calEnd s 2 []).bump CAL_CNT_ABANDON 1
    let b := if c.kind = 3 then b.setFld (CAL_Ss_WP_RESULT s) 2 else b
    b.raise 49

/-- A master write to SEs_BPWR_b abandons a write-power calibration of the surface (R473). -/
def Block.calPowerWrite (b : Block) (s : Fin 4) : Block :=
  match (vget b.cal.surf s).run with
  | some c => if c.kind = 3 then b.calAbandon s else b
  | none => b

end Sys2Proof.Machine
end

