-- ==== Sys2Proof/Machine/HostOps.lean ====
section
/-!
DEFINITION. Completions, the error log, freezing and async events (10_host_queues.md R258, R264, R265,
R269, R270; 11_command_set.md R281, R286, R305), which other units raise.
-/

namespace Sys2Proof.Machine

def Block.modHq (b : Block) (f : Hq → Hq) : Block := { b with hq := f b.hq }
def Block.modStore (b : Block) (f : Store → Store) : Block := { b with store := f b.store }
def Block.modVol (b : Block) (f : Vol → Vol) : Block := b.modStore fun t => { t with vol := f t.vol }

/-! ### Fields of a submission entry (R278) -/

/-- DWORD `n`. -/
def dwOf (d : Vector Word 16) (n : Nat) : Nat := (vget d (Fin.ofNat 16 n)).toNat

/-- Bits [hi:lo] of DWORD `n`. -/
def dwBits (d : Vector Word 16) (n hi lo : Nat) : Nat := dwOf d n / 2 ^ lo % 2 ^ (hi + 1 - lo)

def Cmd.bits (c : Cmd) (n hi lo : Nat) : Nat := dwBits c.dws n hi lo
def Cmd.opc (c : Cmd) : Nat := c.bits 0 7 0
def Cmd.cid (c : Cmd) : Nat := c.bits 0 31 16
def Cmd.dur (c : Cmd) : Nat := c.bits 0 11 10
def Cmd.nsid (c : Cmd) : Nat := c.bits 1 7 0
def Cmd.dlen (c : Cmd) : Nat := dwOf c.dws 6

/-- BLOCK WRITE, FRAME APPEND, CLIP OPEN and CLIP CLOSE are write-class (R262). -/
def Cmd.writeClass (c : Cmd) : Bool := c.opc = 0x21 || c.opc = 0x30 || c.opc = 0x31 || c.opc = 0x32

/-- The command with a tag. -/
def Block.cmd (b : Block) (tag : Nat) : Option Cmd := b.hq.cmds.find? fun c => c.tag = tag

def Block.modCmd (b : Block) (tag : Nat) (f : Cmd → Cmd) : Block :=
  b.modHq fun h => { h with cmds := h.cmds.map fun c => if c.tag = tag then f c else c }

/-- Decide how a command ends; its completion is posted by COMPLETION_POST. -/
def Block.finish (b : Block) (tag : Nat) (f : Finish) : Block := b.modCmd tag fun c => { c with fin := some f }

/-- What a command holds beyond the data that arrived returns: its reservation of ingest space (R337) and of spare
units (R310). -/
def Block.dropClaims (b : Block) (tag : Nat) : Block :=
  match b.cmd tag with
  | none => b
  | some c =>
    let b := b.modHq fun h => { h with ingestUsed := h.ingestUsed - (if c.reserved then c.space else 0) }
    let b := if c.spare = 0 then b else b.modVol fun v => { v with spareLeft := v.spareLeft + c.spare }
    b.modCmd tag fun c => { c with space := 0, reserved := false, spare := 0 }

/-- The data of a command took over its reservations. -/
def Block.claimsTaken (b : Block) (tag : Nat) : Block :=
  b.modCmd tag fun c => { c with space := 0, reserved := false, spare := 0 }

/-- Pair `q` exists (R254). -/
def Block.pairOn (b : Block) (q : Nat) : Bool := q < 128 && b.onBit (HQ_PAIR_k_EXISTS (q / 32)) (q % 32)

/-! ### Catalogue journal and records (R318 to R324) -/

/-- Write-optical availability of a surface as IDENTIFY CNS 4 reports it (R288): 0 absent, 1 writable, 2 read
only, 3 unavailable. -/
def Block.surfState (b : Block) (s : Nat) : Nat :=
  if !b.part.hasSurf s then 0
  else if (vget b.servo (Fin.ofNat 4 s)).unavail then 3
  else if b.store.vol.readOnly then 2
  else 1

/-- Surfaces that can write. -/
def Block.writers (b : Block) : List Nat := (List.range 4).filter fun s => b.surfState s = 1

/-- Bytes per entry of a record type, ELEN (R320). -/
def recLen (t : Nat) : Nat :=
  if t = 1 then 256 else if t = 3 ∨ t = 4 then 4160 else if t = 5 then 32 else if t = 6 then 8
  else if t = 10 then 64 else 16

/-- Entries that a record of a type holds at most (R319, R320). -/
def recCap (t : Nat) : Nat := if t = 1 ∨ t = 10 then 1 else 106400 / recLen t

/-- Close the open records of one type (R323): each takes the next RSEQ, with the surfaces then writable. -/
def Block.closeOne (b : Block) (t : Nat) : Block :=
  let es := (b.store.vol.entries.filter fun e => e.1 = t).map (·.2)
  let n := (es.length + recCap t - 1) / recCap t
  let need := b.writers
  let ts := b.stamp.toNat
  b.modVol fun v =>
    { v with
      entries := v.entries.filter fun e => e.1 ≠ t
      rseq := v.rseq + n
      records := v.records ++ (List.range n).map fun i =>
        ⟨v.rseq + 1 + i, t, ts, (es.drop (i * recCap t)).take (recCap t), need⟩ }

/-- The types that are closed before a record of a type, and that type (R323). -/
def closeOrder (t : Nat) : List Nat :=
  if t = 3 then [2, 3] else if t = 5 ∨ t = 6 ∨ t = 7 then [2, 3, t] else if t = 4 then [2, 3, 5, 6, 7, 4]
  else if t = 10 then [1, 2, 3, 5, 6, 7, 8, 9, 4, 10] else [t]

/-- Close the open record of a type, after the records it must follow. -/
def Block.closeRec (b : Block) (t : Nat) : Block := (closeOrder t).foldl Block.closeOne b

/-- Every open record is closed when a ledger visit begins. -/
def Block.closeAll (b : Block) : Block := b.closeRec 10

/-- Journal a catalogue entry (R323). A full record is closed; so is a VOID record, which is due before the next
pass on its band. -/
def Block.journalEntry (b : Block) (rtype : Nat) (bytes : List Byte) : Block :=
  let b := b.modVol fun v => { v with entries := v.entries ++ [(rtype, bytes)] }
  if recCap rtype ≤ (b.store.vol.entries.filter fun e => e.1 = rtype).length || rtype = 8 then b.closeRec rtype
  else b

/-- The state of a band in the band map (R290). -/
def Block.bandState (b : Block) (k : Nat) : Nat :=
  let s := bandSurf k
  let w := vget b.wp (Fin.ofNat 4 s)
  if b.surfState s = 3 then 4 else if w.spent.contains k then 3 else if b.store.vol.fullBands.contains k then 2
  else if w.band = k && firstSwath k < w.swath then 1 else 0

/-- The failed beams of a band as its record names them (R112). -/
def Block.recordFails (b : Block) (k failed : Nat) : Block :=
  b.modWp (Fin.ofNat 4 (bandSurf k)) fun w => { w with bandFail := w.bandFail.set k failed 0 }

/-- The BAND entry of a band (R112, R320): failed beams as a mask, and its state. -/
def Block.bandEntryFor (b : Block) (k failed : Nat) : Block :=
  if b.store.vol.vstate = 0 then b
  else (b.recordFails k failed).journalEntry 9 (packBytes 16 [(0, 2, k), (2, 2, failed), (4, 1, b.bandState k)])

/-- The VOID entry of a band and swath (R320). -/
def Block.voidEntry (b : Block) (k swath wseq : Nat) : Block :=
  if b.store.vol.vstate = 0 then b else b.journalEntry 8 (packBytes 16 [(0, 2, k), (2, 2, swath), (4, 4, wseq)])


/-- The pair state (R412). -/
def Block.pstate (b : Block) : Nat := b.fld ML_STAT_PSTATE

/-- Live commands are mirrored: the primary in RESYNC or MIRRORED (R412, R426). -/
def Block.mirroring (b : Block) : Bool := !b.on ML_STAT_ROLE && (b.pstate = 2 || b.pstate = 3)

/-- Last MSEQ assigned or applied. -/
def Block.txMseq (b : Block) : Nat := b.fld ML_TXSEQ_LO_MSEQ + b.fld ML_TXSEQ_HI_MSEQ * 2 ^ 32

def Block.setTxMseq (b : Block) (n : Nat) : Block :=
  (b.setFld ML_TXSEQ_LO_MSEQ (n % 2 ^ 32)).setFld ML_TXSEQ_HI_MSEQ (n / 2 ^ 32)

/-- A CAT frame for a catalogue entry other than EXTENT, VOID and BAND (R410, R414, R419). -/
def Block.mirrorCat (b : Block) (rtype : Nat) (bytes : List Byte) : Block :=
  if !b.mirroring || rtype = 5 || rtype = 8 || rtype = 9 then b
  else
    let n := b.txMseq + 1
    let b := (b.setTxMseq n).melarSend 0x05 n (BitVec.ofNat 8 rtype :: bytes)
    b.modMl fun m => { m with sent := m.sent ++ [⟨n, 0, b.now⟩] }

/-- Journal a catalogue entry and mirror it (R323, R414). -/
def Block.journalBoth (b : Block) (rtype : Nat) (bytes : List Byte) : Block :=
  (b.journalEntry rtype bytes).mirrorCat rtype bytes

def Block.modClip (b : Block) (n : Nat) (f : Clip → Clip) : Block :=
  b.modVol fun v => { v with clips := v.clips.map fun c => if c.num = n then f c else c }

def Block.clip (b : Block) (n : Nat) : Option Clip := b.store.vol.clips.find? fun c => c.num = n

/-- Frame numbers of a clip become skipped frames (R313), with their SKIP entry (R320). -/
def Block.skipFrames (b : Block) (clip first n : Nat) : Block :=
  if n = 0 then b
  else
    (b.modClip clip fun c => { c with skipped := c.skipped ++ (List.range n).map (first + ·) }).journalBoth 6
      (packBytes 8 [(0, 2, clip), (2, 1, n), (4, 4, first)])

/-! ### The error log -/

/-- Add an error-log entry with the fields given (R270, R286): its index, and the block. -/
def Block.elogAdd (b : Block) (fields : List (Nat × Nat × Nat)) (damage : List (Nat × Nat × Nat)) : Nat × Block :=
  let n := b.fld HQ_ELOG_CNT_COUNT
  let bytes := packBytes 64 ((0, 8, n) :: (8, 8, b.stamp.toNat) :: fields)
  let b := b.modHq fun h =>
    { h with elog := h.elog.set (n % 256) bytes []
             lists := if damage.isEmpty then h.lists else (h.lists ++ [(n, damage)]).drop (h.lists.length - 15) }
  (n % 256, (b.setFld HQ_ELOG_CNT_COUNT (n + 1)).raise 195)

/-- The fields of a command's entry. -/
def Cmd.elogFields (c : Cmd) (f : Finish) : List (Nat × Nat × Nat) :=
  let flags := (if f.damage.isEmpty then 0 else 2) + (if f.loc.isSome then 4 else 0) + (if f.haddr.isSome then 8 else 0)
  let (band, swath, beam, slot) := f.loc.getD (0, 0, 0, 0)
  [(16, 2, c.cid), (18, 1, c.pair), (19, 1, c.opc), (20, 2, c.tag), (22, 1, f.status), (23, 1, f.detail),
   (24, 1, c.nsid), (25, 1, flags), (26, 2, band), (28, 2, swath), (30, 1, beam), (31, 1, slot),
   (32, 8, f.haddr.getD 0), (40, 4, f.pos), (44, 4, f.boff), (48, 4, f.count), (52, 2, f.clip)]

/-! ### Async events -/

/-- An ASYNC EVENT completes with an event (R305). -/
def asyncRes (t info data : Nat) : Nat := t + 256 * (info % 256) + 65536 * (data % 65536)

/-- An event of the table of R305 occurs: masked events are dropped; it completes the oldest outstanding
ASYNC EVENT, or is merged, queued (at most 32) or counted as dropped. -/
def Block.async (b : Block) (t info data : Nat) : Block :=
  if t ≠ 15 && b.hq.asyncMask.testBit (t - 1) then b
  else
    match b.hq.async with
    | tag :: rest =>
      (b.modHq fun h => { h with async := rest }).finish tag (Finish.of 0 0 (asyncRes t info data))
    | [] =>
      if b.hq.events.any fun e => e.1 = t && e.2.1 = info then b
      else if 32 ≤ b.hq.events.length then b.modHq fun h => { h with dropped := h.dropped + 1 }
      else b.modHq fun h => { h with events := h.events ++ [(t, info, data)] }

/-- An error-log entry without a command (R272, R372): DETAIL, pair and the address it names. -/
def Block.elogNoCmd (b : Block) (pair detail addr : Nat) : Block :=
  let (i, b) := b.elogAdd [(18, 1, pair), (22, 1, 0x7F), (23, 1, detail), (25, 1, 9), (32, 8, addr)] []
  b.async 14 0 i

/-! ### Completions -/

/-- The status freezes the SQ (R269, R284). -/
def statusErrors (st : Nat) : Bool := !(st = 0 || st = 0x30 || st = 0x31 || st = 0x32 || st = 0x50)

/-- Lock entries in use. -/
def Block.locksUsed (b : Block) : Nat := (b.hq.cmds.filter (·.entry)).length

/-- Entries free go to the commands that wait for one, in fetch order (R264). -/
def Block.placeEntries (b : Block) : Block :=
  let b := (List.range b.hq.cmds.length).foldl (fun b _ =>
    match b.hq.cmds.find? fun c => c.range.isSome && !c.entry with
    | some c => if b.locksUsed < 1024 then b.modCmd c.tag fun c => { c with entry := true } else b
    | none => b) b
  b.setFld HQ_LOCKS_PEAK (max (b.fld HQ_LOCKS_PEAK) b.locksUsed)

/-- DONE for a completion (16_mirror_pair.md R416); also where a command of the controller reset ends unstarted,
so that the partner does not wait for its data. -/
def Block.mirrorDone (b : Block) (c : Cmd) (status : Nat) : Block :=
  if c.mseq = 0 || !b.mirroring || (c.discard && c.started) then b else b.melarSend 0x06 c.mseq (leBytes 4 status)

/-- Post one completion (R258, R265, R270, R281), or drop it after a controller reset (R252): the entry is
written to host memory, the tag, the lock entry and what it still has reserved are released. -/
def Block.postOne (b : Block) (c : Cmd) (f : Finish) : Block :=
  let b := (b.mirrorDone c f.status).dropClaims c.tag
  let b := b.modHq fun h => { h with cmds := h.cmds.filter (fun (x : Cmd) => x.tag ≠ c.tag)
                                     async := h.async.filter (· ≠ c.tag) }
  -- frames that the module holds whole after a removal are present (R313, R330)
  let whole : Bool := f.status = 0x20 && b.store.chunks.any fun x => x.ns = 1 && x.seq = c.seq
  let b :=
    if c.opc = 0x31 && f.status ≠ 0 && f.status ≠ 0x50 && !whole then b.skipFrames c.clip c.frame c.frames else b
  let b := b.placeEntries
  if c.discard then b
  else
    let logged := statusErrors f.status || f.status = 0x50
    let (i, b) := if logged then b.elogAdd (c.elogFields f) f.damage else (0, b)
    let q := c.pair
    let t := b.fld (HQ_Pq_CQ_TAIL q)
    let size := b.fld (HQ_Pq_CFG_CQS q) + 1
    let ph := b.fld (HQ_Pq_CQ_PHASE q)
    let dws := [f.res, b.fld (HQ_Pq_SQ_HEAD q) + 65536 * q, c.cid + 65536 * c.tag,
      ph + 2 * f.status + 256 * i + (if logged then 65536 else 0)].map (BitVec.ofNat 32)
    let b := b.emit (.completion q t dws)
    let b := b.setFld (HQ_Pq_CQ_TAIL q) (if t + 1 = size then 0 else t + 1)
    let b := if t + 1 = size then b.setFld (HQ_Pq_CQ_PHASE q) (1 - ph) else b
    let b := b.setFld (HQ_Pq_ATTR_OUT q) (b.fld (HQ_Pq_ATTR_OUT q) - 1)
    let b := b.bump HQ_CNT_CPL_COUNT 1
    let b := if statusErrors f.status then b.bump HQ_CNT_ERR_COUNT 1 else b
    b.raise (64 + q)

/-- Complete every command of a list with one status. -/
def Block.postAll (b : Block) (cs : List Cmd) (status : Nat) : Block :=
  cs.foldl (fun b c => b.postOne c (Finish.of status 0 0)) b

/-- SQ `q` freezes (R269): its fetched and unstarted commands complete with QUEUE_FROZEN. -/
def Block.freeze (b : Block) (q : Nat) : Block :=
  let b := (b.putBit (HQ_FROZEN_k_FROZEN (q / 32)) (q % 32) true).raise 196
  b.postAll (b.hq.cmds.filter fun c => c.pair = q && !c.started) 0x32

/-- Post a completion; an error on an I/O pair freezes its SQ (R269). -/
def Block.post (b : Block) (c : Cmd) (f : Finish) : Block :=
  let b := b.postOne c f
  if statusErrors f.status && c.pair ≠ 0 && !c.discard then b.freeze c.pair else b

/-! ### Availability of surfaces -/

/-- Band identifier of the band that a surface writes (R18). -/
def Block.bandNow (b : Block) (s : Fin 4) : Nat := (vget b.wp s).band

/-- Surface `s` becomes unavailable for writing, for a cause of async TYPE 5 (R305). -/
def Block.surfDown (b : Block) (s : Fin 4) (cause : Nat) : Block :=
  (b.modServo s fun v => { v with unavail := true }).async 5 (s.val + 16 * cause) (b.bandNow s)

/-- Surface `s` is available again (R305). -/
def Block.surfUp (b : Block) (s : Fin 4) : Block :=
  if (vget b.servo s).unavail then
    (b.modServo s fun v => { v with unavail := false }).async 5 s.val (b.bandNow s)
  else b

end Sys2Proof.Machine
end

