-- ==== Sys2Proof/Machine/MirrorOps.lean ====
section
/-!
DEFINITION. What the host queues and the clip store do for a mirrored pair (16_mirror_pair.md R412 to R420).
-/

namespace Sys2Proof.Machine

/-- This module is the partner of a pair (R412, R420). -/
def Block.isPartner (b : Block) : Bool := b.on ML_STAT_ROLE && b.pstate ≠ 0

/-- The command is one to which the primary gives an MSEQ (R414). -/
def Cmd.mirrored (c : Cmd) : Bool :=
  c.writeClass || c.opc = 0x0A || c.opc = 0x09 || c.opc = 0x22 ||
    (c.opc = 0x06 && c.bits 10 7 0 = 3 && c.bits 11 16 16 = 1)

/-- Highest MSEQ reported. -/
def Block.rptMseq (b : Block) : Nat := b.fld ML_RPTSEQ_LO_MSEQ + b.fld ML_RPTSEQ_HI_MSEQ * 2 ^ 32

/-- The 96 bytes of a CMD frame (R410): the entry, then tag, clip, first frame, stamp and durability; the
places of the last five are the model's (notes/assumptions/15.md). -/
def Cmd.cmdFrame (c : Cmd) : List Byte :=
  (c.dws.toList.map fun w => leBytes 4 w.toNat).flatten ++
    packBytes 32 [(0, 2, c.tag), (2, 2, c.clip), (4, 4, c.frame), (8, 8, (c.stamp.map (·.1)).getD 0), (16, 1, c.dur), (17, 1, c.pair)]

/-- A fetched command gets its MSEQ and its CMD frame (R414). -/
def Block.mirrorFetch (b : Block) (c : Cmd) : Block :=
  if !b.mirroring || !c.mirrored then b
  else
    let n := b.txMseq + 1
    let b := (b.setTxMseq n).modCmd c.tag fun c => { c with mseq := n }
    let b := b.melarSend 0x02 n c.cmdFrame
    b.modMl fun m => { m with sent := m.sent ++ [⟨n, 0, b.now⟩] }

/-- ML_LAG from what was sent and is not reported, in KiB; source 235 when it reaches MAXLAG (R416, R428). -/
def Block.setLag (b : Block) : Block :=
  let was := b.fld ML_LAG_LAG
  let now := ((b.ml.sent.map (·.bytes)).foldl (· + ·) 0 + 1023) / 1024
  let top := b.fld ML_ASYNC_MAXLAG * 1024
  let b := b.setFld ML_LAG_LAG now
  if was < top && top ≤ now then b.raise 235 else b

/-- DATA frames of a command's data, in chunks of 4,096 bytes (R410, R414). -/
def Block.mirrorData (b : Block) (c : Cmd) (bytes : List Byte) : Block :=
  if c.mseq = 0 || !b.mirroring then b
  else
    let n := (bytes.length + 4095) / 4096
    let b := (List.range n).foldl (fun b i =>
      b.melarSend 0x03 (c.mseq % 2 ^ 48 + i % 65536 * 2 ^ 48) ((bytes.drop (4096 * i)).take 4096)) b
    let b := b.modCmd c.tag fun c => { c with lastData := some b.now }
    (b.modMl fun m => { m with sent := m.sent.map fun (x : MirSent) =>
      if x.mseq = c.mseq then { x with bytes := x.bytes + bytes.length, last := b.now } else x }).setLag

/-- In synchronous mode the report covers the command (R416). -/
def Block.reported (b : Block) (c : Cmd) : Bool :=
  c.mseq = 0 || !b.on ML_STAT_SYNC || !b.mirroring || c.mseq ≤ b.rptMseq

/-- A primary in DEGRADED completes mirrored commands with MIRROR_DEGRADED in synchronous mode (R416); so does
a module that lost the role by R424, in either mode, with the write-class commands it had started. -/
def Block.degraded (b : Block) (c : Cmd) : Bool :=
  (c.mirrored && b.on ML_STAT_SYNC && !b.on ML_STAT_ROLE && b.pstate = 4) || (c.writeClass && b.isPartner && c.started)

/-- In asynchronous mode ingest waits while the lag is at its limit (R416). -/
def Block.lagFull (b : Block) : Bool :=
  b.mirroring && !b.on ML_STAT_SYNC && b.fld ML_ASYNC_MAXLAG * 1024 ≤ b.fld ML_LAG_LAG

end Sys2Proof.Machine
end

