-- ==== Sys2Proof/Machine/Codec.lean ====
section
/-!
DEFINITION. How a cell is built (03_media_format.md R59 to R73; 04_write_path.md R88, R89): header, outer-code
parity, LDPC codeword, modulation, framing, NRZI levels, and the frames that carry it to the pickup (R93 to R101).
-/

namespace Sys2Proof.Machine

/-! ### Headers (R64 to R66) -/

/-- What placement, the cipher page or the record gives a cell: all of the header but the place and WSEQ (R88). -/
structure CellBody where
  ctype : Nat
  cont : Bool
  first : Bool
  last : Bool
  clip : Nat
  frame : Nat
  gen : Nat
  off : Nat
  vlen : Nat
  payload : List Byte
  deriving DecidableEq, Repr

/-- A fill cell (R65). -/
def fillBody : CellBody := ⟨5, false, false, false, 0, 0, 0, 0, 8192, List.replicate 8192 0⟩

/-- A parity cell (R65). -/
def parityBody (payload : List Byte) : CellBody := ⟨3, false, false, false, 0, 0, 0, 0, 8192, payload⟩

/-- A ledger cell of a record (R65, R319). -/
def ledgerBody (cont : Bool) (payload : List Byte) : CellBody := ⟨4, cont, false, false, 0, 0, 0, 0, 8192, payload⟩

/-- Header bytes 0 to 27 followed by HCRC (R64, R66). -/
def withHcrc (h : List Byte) : List Byte := h ++ leBytes 4 (crc32 h).toNat

/-- The header of a cell at a place: band, swath, stripe, beam, WSEQ (R64, R72, R88). -/
def headerOf (band swath stripe beam wseq : Nat) (c : CellBody) : List Byte :=
  withHcrc (packBytes 28
    [(0, 1, 16 + c.ctype),
     (1, 1, 16 * c.cont.toNat + 4 * c.last.toNat + 2 * c.first.toNat + (if c.gen = 0 then 0 else 1)),
     (2, 2, band), (4, 2, beam * 2 ^ 9 + swath), (6, 1, cellSlot (bandSlots band) stripe beam), (7, 1, stripe),
     (8, 2, c.clip), (10, 3, c.frame), (13, 1, c.gen), (14, 4, c.off), (18, 2, c.vlen), (24, 4, wseq)])

/-- The cell is a relocated copy (R64, RELOC). -/
def hdrReloc (h : List Byte) : Bool := (byteAt h 1).testBit 3

/-- ORIGIN of the copy of a cell: that of the cell where it is a copy itself, else its own slot, beam, swath (R66). -/
def originOf (h : List Byte) : Nat :=
  if hdrReloc h then valAt h 20 3 else hdrSlot h * 2 ^ 13 + hdrBeam h * 2 ^ 9 + hdrSwath h

/-- The header of a relocated copy: RELOC and ORIGIN set, its own place and WSEQ, the rest as it was (R66, R109). -/
def relocHeader (band swath stripe beam wseq : Nat) (h : List Byte) : List Byte :=
  withHcrc (packBytes 28
    [(0, 1, byteAt h 0), (1, 1, byteAt h 1 ||| 8), (2, 2, band), (4, 2, beam * 2 ^ 9 + swath),
     (6, 1, cellSlot (bandSlots band) stripe beam), (7, 1, stripe), (8, 6, valAt h 8 6), (14, 4, valAt h 14 4),
     (18, 2, valAt h 18 2), (20, 3, originOf h), (24, 4, wseq)])

/-! ### Outer code (R73) -/

/-- Multiplication in GF(2⁸) of R73. -/
def gf8Mul (a c : Byte) : Byte :=
  ((List.range 8).foldl (fun (acc : Byte × Byte) i =>
    (if c.getLsbD i then acc.1 ^^^ acc.2 else acc.1,
      if acc.2.getLsbD 7 then (acc.2 <<< 1) ^^^ 0x1D else acc.2 <<< 1)) (0, a)).1

/-- One data cell enters the division by g(x) = x³ + 0x07·x² + 0x0E·x + 0x08, in every byte position. -/
def rsStep (r : List Byte × List Byte × List Byte) (d : List Byte) : List Byte × List Byte × List Byte :=
  let f := List.zipWith (· ^^^ ·) d r.1
  (List.zipWith (fun x y => x ^^^ gf8Mul y 0x07) r.2.1 f, List.zipWith (fun x y => x ^^^ gf8Mul y 0x0E) r.2.2 f,
    f.map (gf8Mul · 0x08))

/-- Parity payloads of beams 13, 14 and 15 from those of beams 0 to 12. -/
def rsParity (data : List (List Byte)) : List Byte × List Byte × List Byte :=
  let z := List.replicate 8192 (0 : Byte)
  data.foldl rsStep (z, z, z)

/-! ### LDPC (R67 to R69) -/

/-- A block of 256 codeword bits from 32 bytes; its first bit is the most significant. -/
def blockOf (bytes : List Byte) : BitVec 256 := bytes.foldl (fun a x => (a <<< 8) ||| x.setWidth 256) 0

/-- P^s: bit (i + s) mod 256 of the block moves to position i. -/
def rot (v : BitVec 256) (s : Nat) : BitVec 256 := v.rotateLeft (s % 256)

/-- The sum of the information entries of row `r`. -/
def ldpcLam (u : List (BitVec 256)) (r : Nat) : BitVec 256 :=
  (u.zipIdx).foldl (fun a e =>
    (List.range 4).foldl (fun a i =>
      if (e.2 + 8 * i) % 31 = r then a ^^^ rot e.1 ((e.2 + 1) * (2 * i + 3) + 5 * i * i) else a) a) 0

/-- x₁ … x₃₀ from x₁ on: `ls` are lam[1] … lam[29] with their rows. -/
def ldpcChain (x0 : BitVec 256) (x : BitVec 256) : List (BitVec 256 × Nat) → List (BitVec 256)
  | [] => [x]
  | (l, r) :: t => x :: ldpcChain x0 (if r = 15 then l ^^^ x ^^^ x0 else l ^^^ x) t

/-- The 31 parity blocks. -/
def ldpcParity (info : List Byte) : List (BitVec 256) :=
  let u := (List.range 257).map fun j => blockOf ((info.drop (32 * j)).take 32)
  let lam := (List.range 31).map (ldpcLam u)
  let x0 := lam.foldl (· ^^^ ·) 0
  x0 :: ldpcChain x0 (lam.headD 0 ^^^ rot x0 1) ((lam.zipIdx.drop 1).take 29)

/-- The 9,216 codeword bytes of a cell: header, payload, parity. -/
def codeword (c : CellImage) : List Byte :=
  c.header ++ c.payload ++
    ((ldpcParity (c.header ++ c.payload)).map fun (x : BitVec 256) => (List.range 32).map fun i => (x >>> (8 * (31 - i))).setWidth 8).flatten

/-- The CRC-32 that WP keeps of a cell until Heron has judged it (R89). -/
def CellImage.crc (c : CellImage) : BitVec 32 := crc32 (codeword c)

/-! ### Modulation and framing (R61, R62, R70, R71) -/

/-- Bits of bytes, most significant first. -/
def bitsOf (l : List Byte) : List Bool := (l.map fun x => (List.range 8).map fun i => x.getLsbD (7 - i)).flatten

/-- The bits of a pattern of `n` bits, first bit leftmost. -/
def pattern (n v : Nat) : List Bool := (List.range n).map fun i => v.testBit (n - 1 - i)

/-- The basic rows of the (1,7) code. -/
def rllPair (a b : Bool) : List Bool :=
  match a, b with
  | false, false => [true, false, true]
  | false, true => [true, false, false]
  | true, false => [false, false, true]
  | true, true => [false, true, false]

/-- One data segment in the (1,7) code: a substitution where the current and the next pair match. -/
def rll : List Bool → List Bool
  | false :: false :: false :: false :: t => [true, false, true, false, false, false] ++ rll t
  | false :: false :: false :: true :: t => [true, false, false, false, false, false] ++ rll t
  | true :: false :: false :: false :: t => [false, false, true, false, false, false] ++ rll t
  | true :: false :: false :: true :: t => [false, true, false, false, false, false] ++ rll t
  | a :: b :: t => rllPair a b ++ rll t
  | _ => []

/-- The resync mark. -/
def resync : List Bool := pattern 25 0b0100000000100100010010010

/-- Segment `m` of the codeword bits: 2,714 bits, or the last 450. -/
def segment (bits : List Bool) (m : Nat) : List Bool := (bits.drop (2714 * m)).take 2714

/-- The 111,616 channel bits of a cell in NRZ form: VFO, sync, 28 segments with a resync mark ahead of each but the
first, postamble. -/
def cellNrz (c : CellImage) : List Bool :=
  let bits := bitsOf (codeword c)
  (List.replicate 60 (pattern 4 8)).flatten ++ pattern 48 0x480402912292 ++
    ((List.range 28).map fun m => (if m = 0 then [] else resync) ++ rll (segment bits m)).flatten ++
    (false :: (List.replicate 15 (pattern 4 8)).flatten)

/-- NRZI levels from the level before: 1 is a mark, and a 1 of the NRZ form is a transition (R62, R89). -/
def nrzi : Bool → List Bool → List Bool
  | _, [] => []
  | l, d :: t => (l ^^ d) :: nrzi (l ^^ d) t

/-- The level after the bits. -/
def endLevel (start : Bool) (nrz : List Bool) : Bool := nrz.foldl (· ^^ ·) start

/-- Bits in bytes, the first bit in bit 7 (R97). -/
def packBits : List Bool → List Byte
  | a :: b :: c :: d :: e :: f :: g :: h :: t =>
    BitVec.ofNat 8 (128 * a.toNat + 64 * b.toNat + 32 * c.toNat + 16 * d.toNat + 8 * e.toNat + 4 * f.toNat + 2 * g.toNat +
      h.toNat) :: packBits t
  | _ => []

/-- The seven chunks of a cell that starts from a level: six of 2,048 bytes and one of 1,664 (R97). -/
def cellChunks (start : Bool) (c : CellImage) : List (List Byte) :=
  let bytes := packBits (nrzi start (cellNrz c))
  (List.range 7).map fun k => (bytes.drop (2048 * k)).take 2048

/-! ### Stripes (R72, R88) -/

/-- The images of a stripe: 13 data positions from their bodies and the parity cells (R73). -/
def stripeImages (band swath stripe wseq : Nat) (data : List CellBody) : List CellImage :=
  let bodies := (List.range 13).map fun k => data.getD k fillBody
  let (p13, p14, p15) := rsParity (bodies.map (·.payload))
  (bodies ++ [parityBody p13, parityBody p14, parityBody p15]).zipIdx.map fun e =>
    ⟨headerOf band swath stripe e.2 wseq e.1, e.1.payload⟩

/-- The images of a relocation stripe: copies of the images given at their beams, fill cells elsewhere, and parity
(R76, R109). -/
def relocImages (band swath stripe wseq : Nat) (data : List (Option CellImage)) : List CellImage :=
  let fill := fun (k : Nat) => (⟨headerOf band swath stripe k wseq fillBody, fillBody.payload⟩ : CellImage)
  let cells := (List.range 13).map fun k =>
    match data.getD k none with
    | some c => (⟨relocHeader band swath stripe k wseq c.header, c.payload⟩ : CellImage)
    | none => fill k
  let (p13, p14, p15) := rsParity (cells.map (·.payload))
  cells ++ ([p13, p14, p15].zipIdx.map fun e => ⟨headerOf band swath stripe (13 + e.2) wseq (parityBody e.1), e.1⟩)

/-- The key of a swath in the levels that WP keeps. -/
def swathKey (band swath : Nat) : Nat := 512 * band + swath

/-- The NRZ form of the cell of a pass in a slot of a beam, where the slot lies in its run (R72, R89). -/
def Pass.nrzAt (p : Pass) (slot beam : Nat) : Option (List Bool) :=
  let n := bandSlots p.band
  let i := (slot + 2 * n - 2 * beam) % n
  if i < p.first then none
  else (p.images[i - p.first]?).bind fun l => l[beam]?.map cellNrz

/-- The level before a slot of a beam (R63, R89): that after the slot before it, where that was written in this pass,
or in an earlier pass of the swath (`before` is the level after its last stripe); else space. -/
def Pass.levelAt (p : Pass) (before : Option Bool) (beam : Nat) : Nat → Bool
  | 0 => false
  | slot + 1 =>
    let n := bandSlots p.band
    match p.nrzAt slot beam with
    | some bits => endLevel (p.levelAt before beam slot) bits
    | none => if p.first ≠ 0 && (slot + 2 * n - 2 * beam) % n + 1 = p.first then before.getD false else false

/-- The levels after the last stripe of a pass, by beam. -/
def Pass.endLevels (p : Pass) (before : Option (List Bool)) : List Bool :=
  (List.range 16).map fun k =>
    let slot := cellSlot (bandSlots p.band) (p.first + p.images.length - 1) k
    p.levelAt (before.map fun l => l.getD k false) k (slot + 1)

/-! ### Frames of the Sedge link (R93 to R101) -/

/-- TYPE, BEAM, ARG and payload of a downstream frame (R96 to R101). -/
def sedgeParts : SedgeFrame → Nat × Nat × Nat × List Byte
  | .stream pass beam slot swath cls chunk bits =>
    (1, beam, chunk * 2 ^ 13 + 6 * 2 ^ 10 + cls * 2 ^ 7, packBytes 8 [(0, 2, pass), (2, 1, slot), (3, 2, swath)] ++ bits)
  | .timebase tick pass swath cbAt cbFrac cbInc bgate wgate ref =>
    (2, 0, tick % 65536, packBytes 24 [(0, 2, pass), (2, 2, swath), (4, 4, cbAt), (8, 2, cbFrac), (10, 4, cbInc),
      (14, 2, bgate), (16, 1, wgate.toNat + 2 * ref.toNat)])
  | .power mode beams =>
    (3, 0, mode, (beams.map fun x => packBytes 8 [(0, 2, x.1), (2, 2, x.2.1), (4, 2, x.2.2)]).flatten)
  | .wstLoad table entries => (4, 0, table, (entries.map fun w => leBytes 4 w.toNat).flatten)
  | .spot verify => (5, 0, 0, leBytes 8 (if verify then 0x55555555 else 0))
  | .purge pass => (6, 0, pass, [])
  | .mgmt write addr data => (7, 0, write.toNat * 2 ^ 15 + addr, leBytes 8 data.toNat)
  | .echo token => (8, 0, token, [])

/-- The bytes of a frame between its start and end blocks, with the link's counter: header, payload, trailer (R94). -/
def sedgeBytes (seq : Nat) (f : SedgeFrame) : List Byte :=
  let (type, beam, arg, payload) := sedgeParts f
  let h := packBytes 8 [(0, 1, type), (1, 1, 16 * beam), (2, 2, payload.length / 8), (4, 2, seq % 65536), (6, 2, arg)]
  h ++ payload ++ leBytes 8 (crc32 (h ++ payload)).toNat

/-- The frames that a link has carried, as bytes, numbered from 0 (R94). -/
def linkFrames (out : List OutMsg) (s : Nat) : List (List Byte) :=
  (out.filterMap fun m =>
    match m with
    | .sedge t f => if t = s then some f else none
    | _ => none).zipIdx.map fun e => sedgeBytes e.2 e.1

end Sys2Proof.Machine
end

