-- ==== Sys2Proof/Machine/Operands.lean ====
section
/-!
DEFINITION. The operand forms of the loop engine: registers, saturation, coefficients, data and ports
(06_loop_engine.md R157 to R166).
-/

namespace Sys2Proof.Machine

/-- Register `i`; X0 reads 0, as does a number beyond X31 (R154). -/
def LeRun.getX (r : LeRun) (i : Nat) : Word := if i = 0 then 0 else r.x[i]?.getD 0

/-- Write register `i`; X0 ignores writes (R154). -/
def LeRun.setX (r : LeRun) (i : Nat) (v : Word) : LeRun :=
  if i = 0 then r else { r with x := r.x.setIfInBounds i v }

/-- An integer saturated to 32 bits (R157). -/
def sat32 (i : Int) : Word :=
  if i < -2147483648 then BitVec.ofInt 32 (-2147483648)
  else if 2147483647 < i then BitVec.ofInt 32 2147483647
  else BitVec.ofInt 32 i

/-- The value fits in 32 bits. -/
def fits32 (i : Int) : Bool := -2147483648 ≤ i && i ≤ 2147483647

/-- An arithmetic result saturates, and every saturation sets SAT, also into X0 (R157). -/
def LeRun.setSat (r : LeRun) (i : Nat) (v : Int) : LeRun :=
  { r.setX i (sat32 v) with sat := r.sat || !fits32 v }

/-- Stage an effect in the write buffer (R164): at most 64; a further one is dropped (the load check of
R173 rules it out). -/
def LeRun.stage (r : LeRun) (e : Staged) : LeRun :=
  if r.wbuf.length < 64 then { r with wbuf := r.wbuf ++ [e] } else r

/-- Arithmetic shift of an integer to the right by `n`, rounding down. -/
def sar (i : Int) (n : Nat) : Int := i / 2 ^ n

/-- The mantissa of a coefficient word, signed (R158). -/
def coefM (c : Word) : Int := (c.setWidth 24).toInt

/-- The shift of a coefficient word (R158). -/
def coefSH (c : Word) : Nat := (c.toNat / 2 ^ 24) % 32

/-- One term (x × M + 2^(14 + SH)) >> (15 + SH) (R158). -/
def coefTerm (x c : Word) : Int :=
  sar (x.toInt * coefM c + 2 ^ (14 + coefSH c)) (15 + coefSH c)

/-- A committed data word, as a program reads it (R164, R166). -/
def Block.dmem (b : Block) (a : Nat) : Word := b.rd (LE_DMEM_w (a % 8192))

/-- A coefficient of quarter `q` (R156). -/
def Block.cmem (b : Block) (q c : Nat) : Word := b.rd (LE_CMEM_q_c (q % 4) (c % 4096))

/-- The coefficient quarter of an OWNER: 2 × SET + BANK (R154, R156). -/
def Block.quarter (b : Block) (owner : Nat) : Nat :=
  2 * (if owner < 6 && b.le.setEff.getLsbD owner then 1 else 0) + b.fld LE_COEF_CTL_BANK

/-- Commit a write of data word `a`: an exchange word becomes readable in the next tick (R166). -/
def Block.commitData (b : Block) (a : Nat) (v : Word) : Block :=
  let a := a % 8192
  if a < 0x200 then b.modLe fun l => { l with exNew := l.exNew.filter (fun e => e.1 ≠ a) ++ [(a, v)] }
  else b.wr (LE_DMEM_w a) v

/-- The exchange word of a surface (R183). -/
def exWord (s : Fin 4) (w : Nat) : Nat := 0x20 * s.val + w

/-- The 14-bit sample code of input `k` of a surface, as port value (R162). -/
def Block.samplePort (b : Block) (s k : Nat) : Word := BitVec.ofNat 32 (b.fld (SFs_SMP_k_CODE s k) * 2 ^ 18)

/-- The signed sample code. -/
def Block.sampleCode (b : Block) (s k : Nat) : Int := b.sfld (SFs_SMP_k_CODE s k)

/-- A port value that the environment gave last. -/
def Block.envPort (b : Block) (p : Nat) : Word := b.le.ports.get p 0

/-- IN: the value of port 64u + f (R162); 0 for a port of an absent unit. -/
def Block.portIn (b : Block) (entry p : Nat) : Word :=
  let u := p / 64
  let f := p % 64
  if u < 4 then
    -- with SMPEN = 0 ports 0 to 17 read 0 (R204)
    if !b.part.hasSurf u || !b.on (SFs_CTL_SMPEN u) then 0
    else if f ≤ 8 then b.samplePort u f
    else if f = 9 then b.envPort p
    else if f = 10 then b.rd (SFs_WADR u)
    else if f = 16 then
      -- ((A + C) − (B + D)) / 4, exact 16-bit value in [31:16]
      BitVec.ofInt 32 ((b.sampleCode u 0 + b.sampleCode u 2 - b.sampleCode u 1 - b.sampleCode u 3) * 2 ^ 16)
    else if f = 17 then
      -- (E − F) / 2 in the form of FE: code difference × 2 in units of FE's 16-bit value
      BitVec.ofInt 32 ((b.sampleCode u 4 - b.sampleCode u 5) * 2 * 2 ^ 16)
    else 0
  else if u < 6 then
    if !b.part.hasSpin (u - 4) then 0
    else if f < 3 then (vget b.spin (Fin.ofNat 2 (u - 4))).cur.getD f 0
    else if f = 3 then b.envPort p
    else 0
  else if u < 15 then
    if !b.part.hasAxis (u - 6) then 0
    else if f = 0 then b.rd (AXa_ENC (u - 6))
    else if f = 1 then BitVec.ofInt 32 ((vget b.axis (Fin.ofNat 9 (u - 6))).p / 65536)
    else if f = 2 then BitVec.ofNat 32 (b.fld (AXa_LOAD_LOADM (u - 6)))
    else if f = 3 then BitVec.ofNat 32 (b.fld (AXa_STAT_HOMESW (u - 6)))
    else 0
  else if u = 15 then
    if f = 0 then b.tick.setWidth 32
    else if f = 1 then BitVec.ofNat 32 entry
    else if f = 2 then BitVec.ofNat 32 (b.fld PW_STAT_RMODE)
    else 0
  else 0

/-- The value a port takes from a register (R160, OUT): a DAC's rounded and saturated code in [31:18], a
bit field's bits, else the value. -/
def portTake (p : Nat) (v : Word) : Word :=
  let u := p / 64
  let f := p % 64
  if u < 4 then
    if 32 ≤ f ∧ f ≤ 34 then
      let code := sar (v.toInt + 2 ^ 17) 18
      BitVec.ofInt 32 ((if 8191 < code then 8191 else code) * 2 ^ 18)
    else if f = 36 then v &&& 0x1F#32
    else if f = 37 then v &&& 0xFFFF#32
    else v
  else if u < 6 ∧ f = 35 then v &&& 3#32
  else v

end Sys2Proof.Machine
end

