-- ==== Sys2Proof/Machine/SurfOps.lean ====
section
/-!
DEFINITION. Operations on one surface that several families share: powers and gates on the Sedge link
(R98, R99, R118), the laser and safety group with its holds (R190, R191, R222, R246, R519), the cut of a
pass (R114, R115), VSEQ (R111), beam failure (R112), abandoning a calibration (R475), safe state (R42), the
status word of the servo programs (R185, R186).
-/

namespace Sys2Proof.Machine

/-! ### Powers and the TIMEBASE -/

/-- One beam's entry of a POWER frame: PEAK clamped to MAXPWR, BIAS, READ (R99, R118). -/
def Block.beamPower (b : Block) (s b' : Nat) : Nat × Nat × Nat :=
  (min (b.fld (SEs_BPWR_b_PEAK s b')) (b.fld (SEs_MAXPWR_MAXPWR s)), b.fld (SEs_BPWR_b_BIAS s b'),
    b.fld (SEs_BRD_b_READ s b'))

/-- Send a POWER frame with the mode in force (R99); MAXPWR 0 forbids write-ready mode (SEs_MAXPWR). -/
def Block.sendPower (b : Block) (s : Fin 4) : Block :=
  let m := b.fld (SEs_LSAFE_MODE s)
  let m := if m = 2 && b.fld (SEs_MAXPWR_MAXPWR s) = 0 then 1 else m
  (b.sedge s (.power m ((List.range 16).map (b.beamPower s)))).modSe s fun e => { e with powerDue := false }

/-- Set rotational speed used for channel-bit arithmetic: the spindle's reference in rpm. -/
def Block.rpmOf (b : Block) (s : Fin 4) : Nat := (vget b.spin (spinOf s)).ref

/-- Ticks of one revolution, rounded up; 0 when the disc has no reference speed (R19, R82). -/
def Block.revTicks (b : Block) (s : Fin 4) : Nat :=
  let r := b.rpmOf s
  if r = 0 then 0 else (24000000 + r - 1) / r

/-- The slot under the pickup: WPH (port 9) as a turn fraction times N_k (R59, R162). -/
def Block.curSlot (b : Block) (s : Fin 4) (n : Nat) : Nat :=
  (b.envPort (64 * s.val + 9)).toNat * n / 2 ^ 32

/-! ### The laser and safety group -/

/-- LDEN of the surface is held at 0 (R191, R246). -/
def Block.ldenHeld (b : Block) (s : Fin 4) : Bool :=
  b.on (SFs_INTLK_PUF s) || b.on (SFs_INTLK_MON s) || b.on (SFs_INTLK_FORCE s) || !b.on MZ_SW_DOOR

/-- WGATE of the surface is held at 0 while its spindle's LOCK is 0 (R222). -/
def Block.wgateHeld (b : Block) (s : Fin 4) : Bool := !b.on (SPn_STAT_LOCK (spinOf s))

/-- Apply the holds to the fields (R191, R222, R246). -/
def Block.applyHolds (b : Block) (s : Fin 4) : Block :=
  let b := if b.ldenHeld s then b.setFld (SEs_LSAFE_LDEN s) 0 else b
  if b.wgateHeld s then b.setFld (SEs_LSAFE_WGATE s) 0 else b

/-- Apply the holds on every surface. -/
def Block.applyAllHolds (b : Block) : Block :=
  (List.range 4).foldl (fun b s => if b.part.hasSurf s then b.applyHolds (Fin.ofNat 4 s) else b) b

/-! ### WSEQ and VSEQ -/

/-- WSEQ of a stripe that VSEQ may pass: durable or void (R111). -/
def Wp.passable (w : Wp) (q : Nat) : Bool := w.stripes.any fun t => t.wseq = q && (t.durable || t.void)

/-- The highest WSEQ reached from `v` over consecutive passable stripes, in at most `fuel` steps. -/
def Wp.vseqFrom (w : Wp) : Nat → Nat → Nat
  | 0, v => v
  | n + 1, v => if w.passable (v + 1) then w.vseqFrom n (v + 1) else v

/-- Advance VSEQ over every stripe that is now complete in WSEQ order, and forget those it passed (R111). -/
def Block.advanceVseq (b : Block) (s : Fin 4) : Block :=
  let w := vget b.wp s
  let v := w.vseqFrom w.stripes.length (b.fld (WP_Ss_VSEQ_VSEQ s))
  (b.setFld (WP_Ss_VSEQ_VSEQ s) v).modWp s fun w =>
    { w with stripes := w.stripes.filter fun t => v < t.wseq }

/-! ### Beams -/

/-- Beams of a surface that are failed. -/
def Block.failedBeams (b : Block) (s : Fin 4) : List Nat :=
  (List.range 16).filter fun k =>
    let n := 16 * s.val + k
    if n < 32 then b.onBit WP_BFAIL_LO_BFAIL n else b.onBit WP_BFAIL_HI_BFAIL (n - 32)

/-- The failed beams as a mask. -/
def Block.failedMask (b : Block) (s : Fin 4) : Nat := (b.failedBeams s).foldl (fun m k => m + 2 ^ k) 0

/-- A beam fails (R112): its WP_BFAIL bit is set, its gate cleared, the event raised; a third failed beam
makes the surface unavailable for writing. -/
def Block.failBeam (b : Block) (s : Fin 4) (k : Nat) : Block :=
  let n := 16 * s.val + k
  let b := if n < 32 then b.putBit WP_BFAIL_LO_BFAIL n true else b.putBit WP_BFAIL_HI_BFAIL (n - 32) true
  let b := b.putBit (SEs_BGATE_BGATE s) k false
  let b := b.modWp s fun w => { w with failed := insertSrc k w.failed }
  let b := if (b.failedBeams s).length = 3 then b.surfDown s 3 else b
  (b.bandEntryFor (b.bandNow s) (b.failedMask s)).raiseSurf s 7

/-! ### Heron's judgement -/

/-- The stripe of WSEQ `q` changed by `f`. -/
def Wp.modStripe (w : Wp) (q : Nat) (f : Stripe → Stripe) : Wp :=
  { w with stripes := w.stripes.map fun t => if t.wseq = q then f t else t }

/-- Every cell of the stripe of WSEQ `q` has passed. -/
def Wp.allGood (w : Wp) (q : Nat) : Bool :=
  w.stripes.any fun t => t.wseq = q && !t.passed && t.good.length = 16

/-- The cell of beam `k` of stripe `q` passes step 3 of R111; a relocation stripe whose 16 cells have all
passed passes the origins of its copies in turn. `fuel` bounds the chain. -/
def Wp.markGood : Nat → Wp → Nat → Nat → Wp
  | 0, w, _, _ => w
  | fuel + 1, w, q, k =>
    let w := w.modStripe q fun t => { t with good := insertSrc k t.good, bad := t.bad.filter (· ≠ k) }
    if !w.allGood q then w
    else
      let w := w.modStripe q fun t => { t with passed := true }
      let cs := w.copies.filter fun c => c.wseq = q
      let w := { w with copies := w.copies.filter fun c => c.wseq ≠ q }
      cs.foldl (fun w c => w.markGood fuel c.origin.wseq c.origin.beam) w

/-- Mark a cell good, through as many relocation stripes as there are. -/
def Wp.passCell (w : Wp) (q k : Nat) : Wp := w.markGood (w.stripes.length + 1) q k

/-- A cell that can no longer be relocated in its band (R521): data and ledger payloads are written again
elsewhere, so its position holds none of them; its stripe counts as past step 3. -/
def Wp.giveUp (w : Wp) (p : PendCell) : Wp :=
  let w := match p.cell.kind with
    | .data => { w with rewrite := w.rewrite ++ [p.cell] }
    | .ledger => { w with rewrite := w.rewrite ++ [p.cell] }
    | .parity => w
    | .fill => w
  let w := w.modStripe p.wseq fun t => { t with cells := t.cells.set p.beam ⟨.fill, 0, 0, 0, false⟩ }
  w.passCell p.wseq p.beam

/-- A cell is found bad (R107, R109, R110, R112): it pends relocation, or a copy's origin pends again with
one more attempt; after MAXTRY failed attempts, or with the band's spare exhausted, R521 applies. -/
def Block.cellBad (b : Block) (s : Fin 4) (q k : Nat) : Block :=
  let b := b.bump WP_CNT_VFAIL_COUNT 1
  let w := vget b.wp s
  let run := (w.badRun[k]?.getD 0) + 1
  let b := b.modWp s fun w =>
    { (w.modStripe q fun t => { t with bad := insertSrc k t.bad }) with
      badRun := w.badRun.setIfInBounds k run }
  let b :=
    match w.copies.find? fun c => c.wseq = q && c.beam = k with
    | some c =>
      let p := { c.origin with tries := c.origin.tries + 1 }
      let dead : Bool := b.fld WP_RELOC_CTL_MAXTRY ≤ p.tries || w.spent.contains p.band
      b.modWp s fun w =>
        -- the copy's own position only needs its stripe's parity from here on
        let w := { w with copies := w.copies.filter fun x => !(x.wseq = q && x.beam = k) }
        let w := w.passCell q k
        if dead then w.giveUp p else { w with pend := w.pend ++ [p] }
    | none =>
      match w.stripes.find? fun t => t.wseq = q with
      | none => b
      | some t =>
        let p : PendCell :=
          { wseq := q, band := t.band, swath := t.swath, beam := k
            cell := t.cells.getD k ⟨.fill, 0, 0, 0, false⟩, image := t.images.getD k ⟨[], []⟩, tries := 0, since := b.now }
        let dead := w.spent.contains t.band
        b.modWp s fun w => if dead then w.giveUp p else { w with pend := w.pend ++ [p] }
  if run = 8 && !(b.failedBeams s).contains k then b.failBeam s k else b

/-! ### Ending a pass -/

/-- The stripe record of stripe number `i` of a pass, with the CRC-32 of each codeword (R89); positions of failed beams
are not written (R112). -/
def Pass.record (p : Pass) (i : Nat) (cells : List Cell) (void : Bool) (failed : List Nat) : Stripe :=
  { wseq := p.wseq0 + i, pass := p.num, band := p.band, swath := p.swath, stripe := p.first + i
    reloc := p.kind = .reloc, cells := cells, images := p.images.getD i []
    crcs := (p.images.getD i []).map CellImage.crc, good := failed, bad := [], moved := [], passed := false, void := void
    durable := false }

/-- The verify jobs of a written stripe: one per written cell, with a deadline of one revolution (R106). -/
def Stripe.jobs (t : Stripe) (deadline : Nat) : List VerifyJob :=
  if t.void then []
  else ((List.range 16).filter fun k => !t.good.contains k).map fun k => ⟨t.wseq, k, deadline, false, false⟩

/-- The cells of a stripe that the pickup reported not written are bad without decoding (R107). -/
def Block.missedCells (b : Block) (s : Fin 4) (n : Nat) (t : Stripe) (missed : List (Nat × Nat)) : Block :=
  (List.range 16).foldl (fun b k =>
    if !t.void && missed.contains (cellSlot n t.stripe k, k) && !t.good.contains k then
      (b.modWp s fun w => { w with jobs := w.jobs.filter fun j => !(j.wseq = t.wseq && j.beam = k) }).cellBad s
        t.wseq k
    else b) b

/-- The levels that WP keeps for the next pass of a swath, after one that ended (R63, R89). -/
def Wp.keepLevels (w : Wp) (p : Pass) : List (Nat × List Bool) :=
  let k := swathKey p.band p.swath
  let before := (w.levels.find? fun e => e.1 = k).map (·.2)
  (k, p.endLevels before) :: w.levels.filter fun e => e.1 ≠ k

/-- The copies that a written relocation stripe holds, in the records of the stripes they stand for (R109). -/
def Wp.copiesWritten (w : Wp) (t : Stripe) : Wp :=
  (w.copies.filter fun c => c.wseq = t.wseq).foldl (fun w c =>
    w.modStripe c.origin.wseq fun x =>
      { x with moved := (c.origin.beam, t.band, t.swath, t.stripe, c.beam) :: x.moved }) w

/-- Add the stripes of a pass, void from those not complete in slots below `reached` (R114, R115). -/
def Block.addStripes (b : Block) (s : Fin 4) (p : Pass) (reached : Nat) : Block :=
  let n := bandSlots p.band
  let failed := b.failedBeams s
  let recs := (p.stripes.zipIdx).map fun e =>
    p.record e.2 e.1 (!stripeWritten n (p.first + e.2) reached) failed
  let dl := b.now + b.revTicks s
  let voids := recs.filter (·.void)
  let cells := (recs.filter (!·.void)).length * (16 - failed.length)
  let b := b.bump WP_CNT_CELLS_COUNT cells
  let b := b.bump WP_CNT_VOID_COUNT voids.length
  let isVoid := fun (c : RelocCopy) => voids.any fun t => t.wseq = c.wseq
  let b := b.modWp s fun w =>
    { w with
      stripes := w.stripes ++ recs
      levels := w.keepLevels p
      jobs := w.jobs ++ (recs.map (·.jobs dl)).flatten
      pend := w.pend ++ ((w.copies.filter isVoid).map (·.origin))
      copies := w.copies.filter fun c => !isVoid c
      rewrite := w.rewrite ++ (if p.kind = .reloc then []
        else (voids.map fun t => t.cells.filter fun c => c.kind = .data || c.kind = .ledger).flatten)
      voids := match voids with
        | [] => w.voids
        | t :: _ => w.voids ++ [⟨p.band, p.swath, t.wseq⟩] }
  let b := match voids with
    | [] => b
    | t :: _ => b.voidEntry p.band p.swath t.wseq
  let b := b.modWp s fun w => (recs.filter (!·.void)).foldl Wp.copiesWritten w
  recs.foldl (fun b t => b.missedCells s n t p.missed) b

/-- Key of the relocation pointer of a band: 128 × swath + stripe (R84). -/
def relKey (swath stripe : Nat) : Nat := 128 * swath + stripe

/-- The relocation pointer of a band (R84): (360, 0) at first. -/
def Wp.relocPtr (w : Wp) (band : Nat) : Nat := w.relPtr.get band (relKey 360 0)

/-- The band's spare is exhausted (R113): the events are raised, its BAND entry is journalled (R323), its cells
pending relocation follow R521, and its user pointer goes to swath 360. -/
def Block.exhaust (b : Block) (s : Fin 4) (band : Nat) : Block :=
  if (vget b.wp s).spent.contains band then b
  else
    let old := (vget b.wp s).pend.filter fun p => p.band = band
    let b := b.modWp s fun w =>
      { w with spent := w.spent ++ [band]
               swaths := if w.band = band then w.swaths.set band (w.swath - firstSwath band) 0 else w.swaths
               swath := if w.band = band then 360 else w.swath
               stripe := if w.band = band then 0 else w.stripe
               pend := w.pend.filter fun p => p.band ≠ band }
    let b := b.modWp s fun w => old.foldl Wp.giveUp w
    ((b.bandEntryFor band (b.failedMask s)).raiseSurf s 8).async 9 0 band

/-- Move the relocation pointer of a band; past the last relocation swath the spare is exhausted (R113). -/
def Block.setReloc (b : Block) (s : Fin 4) (band swath stripe : Nat) : Block :=
  let b := b.modWp s fun w =>
    { w with relPtr := w.relPtr.set band (relKey swath stripe) (relKey 360 0) }
  -- swath 368 takes relocation only in a band whose tests have not used it (R77)
  let last := if (vget b.cal.surf s).testUsed.get band 0 = 0 then 368 else 367
  if last < swath then b.exhaust s band else b

/-- The pointers after a pass that ended whole (R84) or was cut (R114, R115). -/
def Block.movePointer (b : Block) (s : Fin 4) (p : Pass) (cut : Bool) : Block :=
  let e := p.first + p.stripes.length
  let (sw, st) := if cut || e = bandSlots p.band then (p.swath + 1, 0) else (p.swath, e)
  match p.kind with
  | .user => b.modWp s fun w => if w.band = p.band then { w with swath := sw, stripe := st } else w
  | .reloc => b.setReloc s p.band sw st
  | .ledger => b
  | .test => b

/-- Cut the pass under way (R114): gates off, PURGE, complete stripes go on, every other is void; a stop of
the plan returns its WSEQ values (R85). -/
def Block.cutPass (b : Block) (s : Fin 4) : Block :=
  let b := b.setFld (SEs_LSAFE_WGATE s) 0
  let b := b.putBit WP_STAT_WRITING s.val false
  match (vget b.wp s).running with
  | none => b
  | some p =>
    let b := b.sedge s (.purge p.num)
    let n := bandSlots p.band
    let b :=
      match p.kind with
      | .test => b
      | _ => b.addStripes s p (b.curSlot s n)
    let hasVoid := ((vget b.wp s).stripes.filter fun t => t.void && p.wseq0 ≤ t.wseq).length ≠ 0
    let b := b.modWp s fun w => { w with running := none }
    let b := b.movePointer s p true
    let b := if hasVoid then b.raiseSurf s 9 else b
    b.advanceVseq s

/-- Cancel the planned pass (R86): PURGE; its WSEQ values return for reuse (R85), its payloads to placement
and its relocated cells to the pending ones. -/
def Block.cancelPlan (b : Block) (s : Fin 4) : Block :=
  match (vget b.wp s).planned with
  | none => b
  | some p =>
    let b := b.sedge s (.purge p.num)
    let b := if p.kind = .test then b else b.setFld (WP_Ss_WSEQ_WSEQ s) (p.wseq0 - 1)
    let mine := fun (c : RelocCopy) => p.kind = .reloc && p.wseq0 ≤ c.wseq
    let b := b.modWp s fun w =>
      { w with
        planned := none
        pend := w.pend ++ ((w.copies.filter mine).map (·.origin))
        copies := w.copies.filter fun c => !mine c
        rewrite := w.rewrite ++ (if p.kind = .user ∨ p.kind = .ledger then
          (p.stripes.map fun t => t.filter fun c => c.kind = .data || c.kind = .ledger).flatten else []) }
    b.putBit WP_STAT_STILL s.val true

/-! ### Safe state -/

/-- Surface `s` enters safe state (R42): gates off, read power sent first, the pass cut, a calibration
abandoned, the event posted at the close; `latch` when hardware starts it (R519). A surface already in safe
state does not enter it again (R43). -/
def Block.safeState (b : Block) (s : Fin 4) (latch : Bool) : Block :=
  if b.on (SEs_LSAFE_SAFE s) then b
  else
    let b := b.setFld (SEs_LSAFE_SAFE s) 1
    let b := if latch then b.setFld (SEs_LSAFE_HLATCH s) 1 else b
    let b := b.setFld (SEs_LSAFE_MODE s) 1
    let b := b.sendPower s
    let b := b.cutPass s
    let b := b.cancelPlan s
    let b := b.calAbandon s
    let b := b.modServo s fun v =>
      { v with safeTick := some b.now, release := false }
    let b := (b.surfDown s 1).modHq fun h => { h with safeStates := h.safeStates + 1 }
    b.postClose (1024 + 40 * s.val)

/-- A write of the LSAFE port (R160, R190): SAFE [4], MODE [3:2], WGATE [1], LDEN [0], under the holds of
R191, R222, R246 and the latch of R519. A change of SAFE from 0 to 1 starts the safe state (R190). -/
def Block.lsafePort (b : Block) (s : Fin 4) (v : Nat) : Block :=
  let latch := b.on (SEs_LSAFE_HLATCH s)
  let safe := v / 16 % 2
  let mode := v / 4 % 4
  let wgate := v / 2 % 2
  let lden := v % 2
  let b := if safe = 1 then b.safeState s false else if latch then b else b.setFld (SEs_LSAFE_SAFE s) 0
  let modeOld := b.fld (SEs_LSAFE_MODE s)
  let b := if latch && mode ≠ 1 then b else b.setFld (SEs_LSAFE_MODE s) mode
  let b := if b.fld (SEs_LSAFE_MODE s) ≠ modeOld then b.sendPower s else b
  let b := if wgate = 1 && latch then b else b.setFld (SEs_LSAFE_WGATE s) wgate
  let b := b.setFld (SEs_LSAFE_LDEN s) lden
  b.applyHolds s

/-! ### Status word of the surface programs -/

/-- Set LE_PSW_s and post the surface events that its changes raise (R185, R186). -/
def Block.setPsw (b : Block) (s : Fin 4) (new : Nat) : Block :=
  let old := b.fld (LE_PSW_k_FLAGS s)
  let b := b.setFld (LE_PSW_k_FLAGS s) new
  let falls := fun i => old.testBit i && !new.testBit i
  let moving := new.testBit 5
  let b := if falls 0 && !moving && !new.testBit 4 then
      (b.bump (SFs_CNT_EVT_FDROP s) 1).postClose (1024 + 40 * s.val + 16) else b
  let b := if falls 1 && !moving then
      (b.bump (SFs_CNT_EVT_OFFTRK s) 1).postClose (1024 + 40 * s.val + 17) else b
  let b := if falls 2 && !moving then
      (b.bump (SFs_CNT_EVT_ALOST s) 1).postClose (1024 + 40 * s.val + 18) else b
  let b := if !old.testBit 7 && new.testBit 7 then
      (b.bump (SFs_CNT_EVT_FAIL s) 1).postClose (1024 + 40 * s.val + 19) else b
  if falls 6 then b.postClose (1024 + 40 * s.val + 20) else b

/-- One flag of LE_PSW_s: 0 FOK, 1 TOK, 2 AOK, 3 WPERM, 4 SRCH, 5 MOVING, 6 SAFEH, 7 FAIL (R185). -/
def Block.psw (b : Block) (s : Fin 4) (i : Nat) : Bool := b.onBit (LE_PSW_k_FLAGS s) i

/-- LE_PSW_s with the flags of `set` set and of `clr` cleared. -/
def Block.pswWith (b : Block) (s : Fin 4) (set clr : Nat) : Nat :=
  (b.fld (LE_PSW_k_FLAGS s) &&& (255 - clr)) ||| set

/-- Publish FSTAT and TSTAT in the exchange words (R183, R185). -/
def Block.publish (b : Block) (s : Fin 4) : Block :=
  let v := vget b.servo s
  let f := v.fmode + 16 * v.layer + 256 * v.tlayer + 65536 * v.sumref.toNat
  let t := v.tmode + 16 * v.err + 256 * v.done + 65536 * v.taken
  let idx := if v.known then predWord v.layer v.gidx v.angle else 0
  let a := idx + 2 ^ 28 * (if v.known then v.age else 15)
  ((b.commitData (exWord s 6) (BitVec.ofNat 32 f)).commitData (exWord s 7) (BitVec.ofNat 32 t)).commitData
    (exWord s 8) (BitVec.ofNat 32 a)

/-- The command in progress is done (R184): SEQ goes to TSTAT.DONE and program event 0x10 + s is posted,
which raises source 11. -/
def Block.cmdDone (b : Block) (s : Fin 4) : Block :=
  match (vget b.servo s).cur with
  | none => b
  | some (_, seq) =>
    let b := b.modServo s fun v => { v with done := seq, cur := none }
    let b := b.bump LE_EVT_COUNT 1
    let b := (b.setFld LE_EVT_ENTRY (4 + s.val)).setFld LE_EVT_CODE (0x10 + s.val)
    (b.publish s).raise 11

/-- The command in progress has the OP given. -/
def Block.curOp (b : Block) (s : Fin 4) (op : Nat) : Bool :=
  match (vget b.servo s).cur with
  | some (o, _) => o = op
  | none => false

/-- What the tracking program does at a commit (R190, R193): SAFEH clears after a RELEASE once FOK, TOK and
AOK are 1, and with it the latch of R519; WPERM is composed; the LSAFE port is written. Placement takes the
surface back once WPERM is 1 outside safe state with the link up and fewer than three beams failed (R42,
R105, R112, R223). -/
def Block.trackCommit (b : Block) (s : Fin 4) : Block :=
  let ok := b.psw s 0 && b.psw s 1 && b.psw s 2
  let v := vget b.servo s
  let clears := b.psw s 6 && v.release && ok
  let b := if clears then
      ((b.setPsw s (b.pswWith s 0 64)).setFld (SEs_LSAFE_HLATCH s) 0).modServo s fun v =>
        { v with release := false }
    else b
  let perm := ok && !b.psw s 5 && !b.psw s 6 && v.known &&
    v.age ≤ (b.dmem (0x280 + 0x20 * s.val + 25)).toNat
  let b := b.setPsw s (if perm then b.pswWith s 8 0 else b.pswWith s 0 8)
  let ls := (b.dmem (exWord s 1)).toNat
  let safeh := b.psw s 6
  let wg := ls.testBit 1 && perm
  let port := (if safeh then 16 else 0) + 4 * (if safeh then 1 else ls / 4 % 4) +
    2 * wg.toNat + ls % 2
  let b := b.lsafePort s port
  let back := perm && !b.on (SEs_LSAFE_SAFE s) && b.on (SEs_STAT_LINK_UP s) && b.on (SEs_STAT_ID_VALID s) &&
    (b.failedBeams s).length < 3 && !(vget b.cal.surf s).barred
  let b := if back then b.surfUp s else b
  let b := (b.modServo s fun v => { v with lastWgate := wg }).publish s
  if clears && b.curOp s 5 then b.cmdDone s else b

/-- The surface enters safe hold (R187, R190): SAFEH is set and the LSAFE port written. -/
def Block.safeHold (b : Block) (s : Fin 4) : Block :=
  ((b.setPsw s (b.pswWith s 64 8)).modServo s fun v => { v with release := false }).trackCommit s

end Sys2Proof.Machine
end

