-- ==== Sys2Proof/Machine/LoopOps.lean ====
section
/-!
DEFINITION. The loop engine's shared operations: the slot table in force, due entries and their dispatch
(R33 to R36, R163), the miss count and cutting (R39 to R41, R44), the commit (R165), held writes (R167),
and the axis profile generator (R170, R171).
-/

namespace Sys2Proof.Machine

/-! ### The slot table -/

/-- The two words of entry `k` in force (R175). -/
def Block.slotEff (b : Block) (k : Nat) : Word × Word := vget b.le.slot (Fin.ofNat 48 k)

def slotProg (w : Word × Word) : Nat := w.1.toNat / 2 ^ 16 % 256
def slotDiv (w : Word × Word) : Nat := w.1.toNat / 2 ^ 8 % 256
def slotPhase (w : Word × Word) : Nat := w.1.toNat % 256
def slotOwner (w : Word × Word) : Nat := w.2.toNat / 2 ^ 28
def slotBudget (w : Word × Word) : Nat := w.2.toNat % 2 ^ 11

/-- Entry `k` is enabled: EN acts at once on the live word (R175). -/
def Block.slotEn (b : Block) (k : Nat) : Bool := b.on (LE_SLOT_k_W0_EN k)

/-- Entry `k` is due in the present tick (R33). -/
def Block.slotDue (b : Block) (k : Nat) : Bool :=
  b.now % (slotDiv (b.slotEff k) + 1) = slotPhase (b.slotEff k)

/-- Surface `o` stands in ticks n + 1 to n + 8 of its safe state: no entry of it is dispatched (R42). -/
def Block.ownerHeld (b : Block) (o : Nat) : Bool :=
  o < 4 && match (vget b.servo (Fin.ofNat 4 o)).safeTick with
    | some n => n < b.now && b.now ≤ n + 8
    | none => false

/-- Check of one entry (R34, R174): the ERR code, 0 when it passes. Fast entries keep DIV and BUDGET. -/
def Block.checkEntry (b : Block) (k : Nat) (w : Word × Word) : Nat :=
  let div := if k < 4 then 0 else slotDiv w
  let budget := if k < 4 then 46 else slotBudget w
  if div < slotPhase w then 2
  else if budget < 8 ∨ 1736 < budget then 3
  else if w.1.getLsbD 31 && !b.on (LE_PDESC_p_W0_VALID (slotProg w)) then 4
  else if w.1.getLsbD 31 && !b.part.hasOwner (slotOwner w) then 5
  else 0

/-- A fast entry's words with FIXED 1, DIV 0 and BUDGET 46; another's with FIXED 0 (R33, R181). -/
def fixEntry (k : Nat) (w : Word × Word) : Word × Word :=
  let en := w.1.getLsbD 31
  if k < 4 then (slotWord0 en true (slotProg w) 0 (slotPhase w), slotWord1 (slotOwner w) 46)
  else (slotWord0 en false (slotProg w) (slotDiv w) (slotPhase w), slotWord1 (slotOwner w) (slotBudget w))

/-- Put a table into force: live words and the words in force (R36). -/
def Block.putTable (b : Block) (t : List (Word × Word)) : Block :=
  (List.range 48).foldl (fun b k =>
    let w := fixEntry k (t.getD k (0, 0))
    let b := (b.wr (LE_SLOT_k_W0 k) w.1).wr (LE_SLOT_k_W1 k) w.2
    b.modLe fun l => { l with slot := vset l.slot (Fin.ofNat 48 k) w }) b

/-- Record a rejected live-table write (R175). -/
def Block.rejectLive (b : Block) (k err : Nat) : Block :=
  let b := b.setFld LE_LOAD_STAT_OK 0
  let b := b.setFld LE_LOAD_STAT_KIND 0
  let b := b.setFld LE_LOAD_STAT_ERR err
  (b.setFld LE_LOAD_STAT_WHERE k).raise 9

/-- The fields that check `err` fails keep their previous value `old` (R175): DIV and PHASE for 2, BUDGET for 3,
PROG for 4, OWNER for 5. -/
def revertField (err k : Nat) (old w : Word × Word) : Word × Word :=
  let en := w.1.getLsbD 31
  if err = 2 then (slotWord0 en (k < 4) (slotProg w) (slotDiv old) (slotPhase old), w.2)
  else if err = 3 then (w.1, slotWord1 (slotOwner w) (slotBudget old))
  else if err = 4 then (slotWord0 en (k < 4) (slotProg old) (slotDiv w) (slotPhase w), w.2)
  else (w.1, slotWord1 (slotOwner old) (slotBudget w))

/-- The words of entry `k` with every field that fails its check at its previous value (R175); `n` bounds the checks. -/
def Block.mendEntry (b : Block) (k : Nat) (old : Word × Word) : Nat → Word × Word → Word × Word
  | 0, w => w
  | n + 1, w =>
    let err := b.checkEntry k w
    if err = 0 then w else b.mendEntry k old n (revertField err k old w)

/-- Apply the pending field writes of live entry `k` at the preamble: those that pass take effect, those
that fail keep the previous value, and LE_LOAD_STAT holds the first check that failed (R175). -/
def Block.applyLive (b : Block) (k : Nat) : Block :=
  let w := (b.rd (LE_SLOT_k_W0 k), b.rd (LE_SLOT_k_W1 k))
  let err := b.checkEntry k w
  let w' := fixEntry k (b.mendEntry k (b.slotEff k) 4 w)
  let b := ((b.wr (LE_SLOT_k_W0 k) w'.1).wr (LE_SLOT_k_W1 k) w'.2).modLe fun l =>
    { l with slot := vset l.slot (Fin.ofNat 48 k) w' }
  if err = 0 then b else b.rejectLive k err

/-! ### Misses -/

/-- The miss count of entry `k` (LE_MISS, R40). -/
def missFld (k : Nat) : Fld := LE_MISS_k_MISS (k / 16) (k % 16)

/-- Entry `k` misses an execution (R40); its third consecutive miss makes the action of R41 due. -/
def Block.miss (b : Block) (k : Nat) : Block :=
  let n := b.fld (missFld k)
  if n < 2 then b.setFld (missFld k) (n + 1)
  else b.modLe fun l => { l with third := insertSrc k l.third }

/-- Record entry `k` as cut in this tick, with one miss (R39, R40). -/
def Block.recordCut (b : Block) (k : Nat) : Block :=
  (b.modLe fun l => { l with cuts := l.cuts ++ [k] }).miss k

/-! ### Dispatch -/

/-- The standard program's restart after a gap (R187): focus enters SEARCH for TLAYER, tracking enters safe
hold; it does not apply in FMODE OFF. -/
def Block.gapRestart (b : Block) (k : Nat) : Block :=
  let w := b.slotEff k
  let last := vget b.le.lastExec (Fin.ofNat 48 k)
  if 8 ≤ k ∨ slotProg w ≠ k then b
  else
    let s : Fin 4 := Fin.ofNat 4 k
    let gap := if k < 4 then (b.dmem (0x200 + 0x20 * s.val + 27)).toNat
      else (b.dmem (0x280 + 0x20 * s.val + 27)).toNat
    let v := vget b.servo s
    if v.fmode = 0 ∨ b.now ≤ last + gap then b
    else if k < 4 then
      let b := b.setPsw s (b.pswWith s 16 1)
      (b.modServo s fun v => { v with fmode := 1, sumref := 0 }).publish s
    else
      let b := b.setPsw s (b.pswWith s 0 (2 + 4 + 8))
      let b := b.modServo s fun v => { v with tmode := 1, known := false, age := 15, agree := 0, disagree := 0 }
      -- TRK_DAC outputs 0 (R42, R188)
      let b := b.setFld (SFs_DAC_OUT_k_CODE s 1) 0
      b.safeHold s

/-- Dispatch entry `k` at cycle `d` (R163): registers cleared, CP, quarter and DBASE set, the write buffer
empty, 6 cycles used. -/
def Block.dispatch (b : Block) (k d : Nat) : Block :=
  let w := b.slotEff k
  let p := slotProg w
  let b := b.gapRestart k
  b.modLe fun l =>
    { l with
      run := some
        { entry := k, prog := p, start := d, used := 6, budget := if k < 4 then 46 else slotBudget w
          pc := b.fld (LE_PDESC_p_W0_ENTRY p), x := Vector.replicate 32 0
          cp := b.fld (LE_PDESC_p_W1_CBASE p), quarter := b.quarter (slotOwner w)
          dbase := b.fld (LE_PDESC_p_W1_DBASE p), wbuf := [], sat := false, parity := 0 }
      next := k + 1, cyc := d
      lastExec := vset l.lastExec (Fin.ofNat 48 k) b.now }

/-- The cycle on which entry `k` starts when the engine has reached cycle `c` (R32, R35). -/
def startCycle (k c : Nat) : Nat := if k < 4 then 64 + 46 * k else max c 248

/-- Look from entry `l.next` on for the next due entry and dispatch it (R35, R163). An enabled entry that is
not due costs 1 cycle in the table region; one whose descriptor is not valid costs 6 and counts as cut; an
entry of a surface in its safe-state hold is not dispatched (R42). `fuel` bounds the entries looked at. -/
def Block.scan (b : Block) : Nat → Block
  | 0 => b
  | fuel + 1 =>
    let k := b.le.next
    if 48 ≤ k then b
    else
      let d := startCycle k b.le.cyc
      let skip := fun (c : Nat) (b : Block) =>
        b.modLe fun l => { l with next := k + 1, cyc := d + c, useLast := if c = 0 then l.useLast else d + c - 1 }
      if !b.slotEn k then (b.modLe fun l => { l with next := k + 1 }).scan fuel
      else if !b.slotDue k then (if k < 4 then (b.modLe fun l => { l with next := k + 1 }) else skip 1 b).scan fuel
      else if b.ownerHeld (slotOwner (b.slotEff k)) then
        (b.modLe fun l => { l with next := k + 1 }).scan fuel
      else if 1984 ≤ d then b
      else if !b.on (LE_PDESC_p_W0_VALID (slotProg (b.slotEff k))) then ((skip 6 b).recordCut k).scan fuel
      else b.dispatch k d

/-! ### Held writes -/

/-- Apply one held master write to an LE memory (R167). A write to an exchange word counts as committed in
this tick (R166); a write to W0 or W1, or to a program word of a program, clears its VALID (R174). -/
def Block.applyHeld (b : Block) (e : Nat × Word) : Block :=
  let o := e.1
  if 0x88000 ≤ o ∧ o < 0x90000 then b.commitData ((o - 0x88000) / 4) e.2
  else if 0x82000 ≤ o ∧ o < 0x83000 then
    let p := (o - 0x82000) / 16
    if o % 16 < 8 then
      let rw := if o % 16 = 0 then 0x01FFFFFF#32 else 0x1FFF0FFF#32
      (b.wr o ((b.rd o &&& ~~~rw) ||| (e.2 &&& rw))).setFld (LE_PDESC_p_W0_VALID p) 0
    else b
  else if 0x84000 ≤ o ∧ o < 0x88000 then
    let i := (o - 0x84000) / 4
    let b := b.wr o e.2
    (List.range 256).foldl (fun b p =>
      if b.on (LE_PDESC_p_W0_VALID p) && b.fld (LE_PDESC_p_W0_ENTRY p) ≤ i &&
          i < b.fld (LE_PDESC_p_W0_ENTRY p) + b.fld (LE_PDESC_p_W0_LEN p)
      then b.setFld (LE_PDESC_p_W0_VALID p) 0 else b) b
  else b.wr o e.2

/-- Apply every held write in arrival order; stalled accesses are held next (R167). -/
def Block.applyAllHeld (b : Block) : Block :=
  let hs := b.le.held
  let b := b.modLe fun l => { l with held := l.stalled.take 16, stalled := l.stalled.drop 16 }
  hs.foldl Block.applyHeld b

/-! ### Cutting -/

/-- Cut the running execution (R39): nothing commits, it costs exactly its BUDGET (or up to cycle 1,983 in a
whole-tick overrun), and the next entry is dispatched. -/
def Block.cutRun (b : Block) : Block :=
  match b.le.run with
  | none => b
  | some r =>
    let e := min (r.start + r.budget) 1984
    let b := b.modLe fun l => { l with run := none, cyc := e, useLast := e - 1 }
    ((b.recordCut r.entry).applyAllHeld).scan 48

/-- Entries from `k` on that are enabled, due and not held: those that a whole-tick overrun skips (R44). -/
def Block.dueFrom (b : Block) (k : Nat) : List Nat :=
  (List.range 48).filter fun i =>
    k ≤ i && b.slotEn i && b.slotDue i && !b.ownerHeld (slotOwner (b.slotEff i))

/-- The whole-tick overrun (R44), where an entry is still running or due. -/
def Block.overrun (b : Block) : Block :=
  let rest := b.dueFrom b.le.next
  match b.le.run with
  | none =>
    match rest with
    | [] => b
    | k :: _ =>
      let b := rest.foldl Block.miss b
      let b := b.modLe fun l => { l with next := 48 }
      let b := (b.bump GLB_TOVR_CNT_COUNT 1).setFld GLB_TOVR_LAST_TICK b.now
      (b.setFld GLB_TOVR_LAST_ENTRY k).postClose 5
  | some r =>
    let b := b.modLe fun l => { l with run := none, next := 48, cyc := 1984, useLast := 1983 }
    let b := rest.foldl Block.miss (b.recordCut r.entry)
    let b := (b.bump GLB_TOVR_CNT_COUNT 1).setFld GLB_TOVR_LAST_TICK b.now
    (b.setFld GLB_TOVR_LAST_ENTRY r.entry).postClose 5

/-! ### Loop instructions -/

/-- One loop instruction of cost `cost` before END (R160): it needs a running execution; where its last
cycle would lie beyond the BUDGET the execution is cut (R39), and beyond cycle 1,983 the tick overruns (R44). -/
def Block.loopStep (b : Block) (cost : Nat) (f : LeRun → LeRun) : Block :=
  match b.le.run with
  | none => b
  | some r =>
    if r.budget < r.used + cost then b.cutRun
    else if 1984 < r.start + r.used + cost then b.overrun
    else b.modLe fun l => { l with run := some { f r with used := r.used + cost, pc := (f r).pc + 1 } }

/-- Cost base of opcode `k` (LE_OPCOST, R176). -/
def Block.opCost (b : Block) (k : Nat) : Nat := b.fld (LE_OPCOST_k_BASE k)

/-! ### Commit -/

/-- A spindle's bridge mode in force: the sequencer's states override the request (R205). -/
def bridgeForced (state : Nat) : Option Nat :=
  if state = 0 ∨ state = 1 ∨ state = 8 ∨ state = 11 ∨ state = 12 ∨ state = 13 then some 0
  else if state = 2 ∨ state = 10 then some 2
  else none

/-- A committed OUT reaches its port (R162, R165). -/
def Block.portOut (b : Block) (p : Nat) (v : Word) : Block :=
  let u := p / 64
  let f := p % 64
  if u < 4 then
    let s : Fin 4 := Fin.ofNat 4 u
    b.onSurf s fun b =>
      if 32 ≤ f ∧ f ≤ 34 then
        -- a code beyond the limit is driven at the limit and sets DAC_LIM (R204); 300 mA is full scale
        let k := f - 32
        let code := sar v.toInt 18
        let lim : Int := (b.fld (SFs_DAC_LIM_k_LIM s k) * 8191 / 300 : Nat)
        let out := if lim < code then lim else if code < -lim then -lim else code
        let b := if b.on (SFs_CTL_DACEN s) then b.setFld (SFs_DAC_OUT_k_CODE s k) (natOf 14 out) else b
        let atLim : Bool := out ≠ code || out = lim || out = -lim
        b.putBit (SFs_STAT_DAC_LIM s) k atLim
      else if f = 36 then b.lsafePort s (v.toNat % 32)
      else if f = 37 then b.setFld (SEs_BGATE_BGATE s) v.toNat
      else b
  else if u < 6 then
    let n : Fin 2 := Fin.ofNat 2 (u - 4)
    b.onSpin n fun b =>
      if 32 ≤ f ∧ f ≤ 34 then
        -- h = round(d × 10,000) with the duty clamped to 0 to 1 (R206)
        let h := if v.toInt < 0 then 0 else (v.toNat * 10000 + 2 ^ 30) / 2 ^ 31
        b.modSpin n fun x => { x with duty := vset x.duty (Fin.ofNat 3 (f - 32)) h }
      else if f = 35 then b.modSpin n fun x => { x with brmode := v.toNat % 4 }
      else b
  else if u < 15 ∧ f = 32 then
    let a : Fin 9 := Fin.ofNat 9 (u - 6)
    b.onAxis a fun b => b.modAxis a fun x => { x with curOut := v }
  else b

/-- The resolution shift m for |V| in 2^-16 microsteps per tick, with its hysteresis (R230). -/
def resShift (vres v m : Nat) : Nat :=
  let bound := fun j => vres * 2 ^ (j - 1)
  let up := (List.range 9).foldl (fun acc j => if 1 ≤ j ∧ bound j ≤ v then j else acc) 0
  if m ≤ up then up
  else if 4 * v < 3 * bound m then up
  else m

/-- The table address of position `p` (in 2^-16 microsteps) at shift m (R230). -/
def tableAddr (p : Int) (m : Nat) : Nat :=
  let f := p / 65536
  let q := f / 2 ^ m * 2 ^ m
  natOf 10 (q + (if m = 0 then 0 else 2 ^ (m - 1)))

/-- A committed PGEN step updates its axis and issues its address (R165, R171, R229). -/
def Block.pgenCommit (b : Block) (a : Fin 9) (p v acc t : Int) (landed : Bool) : Block :=
  -- in the hold of R42 the sled and aberration axes of the surface hold position
  if b.on (AXa_FAULT_STALL a) || (a.val < 8 && b.ownerHeld (a.val % 4)) then b
  else
    let m := resShift (b.fld (AXa_RES_VRES0 a)) v.natAbs (b.fld (AXa_STAT_RES_M a))
    let b := b.modAxis a fun x =>
      { x with p := p, v := v, acc := acc, t := t, addr := tableAddr p m
               rest := if p = x.t * 65536 ∧ v = 0 ∧ acc = 0 then x.rest + 1 else 0
               hist := (p :: x.hist).take 5
               halting := x.halting && !(v = 0 && acc = 0) }
    let b := b.setFld (AXa_STAT_RES_M a) m
    let b := b.setBit (AXa_STAT_MOVING a) (v ≠ 0 || acc ≠ 0)
    let moving : Bool := v ≠ 0 || acc ≠ 0
    let b := if landed then b.setFld (AXa_STAT_ATTGT a) 1
      else if moving then (b.setFld (AXa_STAT_ATTGT a) 0).setFld (AXa_STAT_DONE a) 0 else b
    b

/-- Apply one staged effect (R165). -/
def Block.commitOne (b : Block) (entry : Nat) (e : Staged) : Block :=
  match e with
  | .data a v => b.commitData a v
  | .port p v => b.portOut p v
  | .sts w clear mask =>
    let old := b.fld (LE_PSW_k_FLAGS w)
    let new := if clear then old &&& (255 - mask.toNat) else old ||| mask.toNat
    if w < 4 then b.setPsw (Fin.ofNat 4 w) new else b.setFld (LE_PSW_k_FLAGS w) new
  | .evt code =>
    let b := b.bump LE_EVT_COUNT 1
    ((b.setFld LE_EVT_ENTRY entry).setFld LE_EVT_CODE code.toNat).raise 11
  | .pgen a p v acc t landed => b.onAxis (Fin.ofNat 9 a) fun b => b.pgenCommit (Fin.ofNat 9 a) p v acc t landed

/-- Set the SAT flag of entry `k`; source 12 is raised where it is newly set (R165, R181). -/
def Block.setSatFlag (b : Block) (k : Nat) : Block :=
  let f := if k < 32 then LE_SAT_LO_SAT else LE_SAT_HI_SAT
  let i := if k < 32 then k else k - 32
  if b.onBit f i then b else (b.putBit f i true).raise 12

/-- The commit of an execution (R165), then the held writes (R167), then the next dispatch (R163). -/
def Block.commit (b : Block) (r : LeRun) (used : Nat) : Block :=
  let b := b.modLe fun l => { l with run := none, cyc := r.start + used, useLast := r.start + used - 1 }
  let b := r.wbuf.foldl (fun b e => b.commitOne r.entry e) b
  let b := if r.sat then b.setSatFlag r.entry else b
  let b := b.setFld (missFld r.entry) 0
  b.applyAllHeld.scan 48

/-! ### The profile generator -/

/-- Integer square root by bits, from bit `i` down (R171: truncated). -/
def isqrtFrom (n : Nat) : Nat → Nat → Nat
  | 0, acc => acc
  | i + 1, acc => let t := acc + 2 ^ i; if t * t ≤ n then isqrtFrom n i t else isqrtFrom n i acc

/-- floor(sqrt n) for n below 2^128. -/
def isqrt (n : Nat) : Nat := isqrtFrom n 64 0

/-- The largest speed v (2^-16) from which the axis stops within distance d (2^-16) under A (2^-24) and
J (2^-32): v²/(2A) + vA/(2J) ≤ d, over a common denominator (R171). -/
def stopSpeedFrom (d a j : Nat) : Nat → Nat → Nat
  | 0, acc => acc
  | i + 1, acc =>
    let v := acc + 2 ^ i
    if v * v * 256 * j + v * 256 * a * a ≤ 2 * d * a * j then stopSpeedFrom d a j i v else stopSpeedFrom d a j i acc

def stopSpeed (d a j : Nat) : Nat := stopSpeedFrom d a j 33 0

/-- Sign of an integer. -/
def signOf (i : Int) : Int := if 0 < i then 1 else if i < 0 then -1 else 0

/-- Limit `i` to ±m. -/
def clampTo (i : Int) (m : Nat) : Int := if (m : Int) < i then m else if i < -(m : Int) then -(m : Int) else i

/-- One profile-generator step (R171): the new P, V, ACC, T and whether the axis landed. -/
def pgenStep (x : Axis) (halt : Bool) : Int × Int × Int × Int × Bool :=
  let j := max x.jmax 1
  let d : Int := x.t * 65536 - x.p
  if d = 0 ∧ x.v = 0 ∧ x.acc = 0 then (x.p, x.v, x.acc, x.t, false)
  else
    let vg : Int := if halt then 0 else signOf d * (min x.vmax (stopSpeed d.natAbs x.amax j) : Nat)
    let dv := vg - x.v
    let ag : Int := signOf dv * (min x.amax (isqrt (2 * j * dv.natAbs)) : Nat)
    let acc := x.acc + clampTo (ag - x.acc) (j / 256)
    let v := x.v + Int.tdiv acc 256
    let p := x.p + v
    let near : Bool := (x.t * 65536 - p).natAbs < 65536 && v.natAbs < 65536
    if !halt && near then (x.t * 65536, 0, 0, x.t, true)
    else if halt && v = 0 then (p, v, 0, p / 65536, false)
    else (p, v, acc, x.t, false)

end Sys2Proof.Machine
end

