-- ==== Sys2Proof/Machine/WritePath.lean ====
section
/-!
DEFINITION. The commands of the write path (04_write_path.md): plans, angle references, stop requests,
verify verdicts, relocation.
-/

namespace Sys2Proof.Machine

/-- The cells of a stripe (R87, R112): the data cells given fill the data beams 0 to 12 that are not failed,
empty data positions hold fill cells, and beams 13 to 15 parity. A parity or fill cell waits for optical
durability where a data cell of the stripe does (R110). -/
def fillStripe (failed : List Nat) (data : List Cell) : List Cell :=
  let waiter := data.any (·.waiter)
  let fill : Cell := ⟨.fill, 0, 0, 0, waiter⟩
  let place := (List.range 13).foldl (fun (acc : List Cell × List Cell) k =>
    if failed.contains k then (acc.1 ++ [fill], acc.2)
    else match acc.2 with
      | [] => (acc.1 ++ [fill], [])
      | c :: t => (acc.1 ++ [c], t)) ([], data)
  place.1 ++ List.replicate 3 ⟨.parity, 0, 0, 0, waiter⟩

/-- Data positions of a stripe that are not failed (R112). -/
def dataRoom (failed : List Nat) : Nat := 13 - (failed.filter (· < 13)).length

/-- The stripes offered that enter a plan (R83): each full of data, or with a cell that must reach optical
durability; the run ends at the first that does not qualify, and at the end of the swath. -/
def planRun (failed : List Nat) (room : Nat) (offered : List (List Cell)) : List (List Cell) :=
  ((offered.takeWhile fun d => !d.isEmpty && d.length ≤ dataRoom failed &&
      (d.length = dataRoom failed || d.any (·.waiter))).take room).map (fillStripe failed)

/-- The surface may be written now (R26, R42, R86, R95, R105, R112, R222). -/
def Block.writable (b : Block) (s : Fin 4) : Bool :=
  b.on WP_CTL_EN && !b.on WP_CTL_HOLD && b.on (SEs_STAT_LINK_UP s) && b.on (SEs_STAT_ID_VALID s) &&
    !(vget b.servo s).unavail && !b.on (SEs_LSAFE_SAFE s) && (b.failedBeams s).length < 3 &&
    !(vget b.wp s).stop && !b.pw.await.contains s.val && (vget b.cal.surf s).run.isNone

/-- The write-power check of the band's first pass is due (R77, R468). -/
def Block.checkDue (b : Block) (s : Fin 4) : Bool :=
  let w := vget b.wp s
  b.onBit CAL_CTL_AUTO 3 && w.swath = firstSwath w.band && w.stripe = 0 && (vget b.cal.surf s).checked ≠ some w.band

/-- Global index of the band's user pointer (R183). -/
def Wp.pointerIndex (w : Wp) : Int := 369 * (bandZone w.band : Int) + (w.swath : Int)

/-- The next angle reference enters the swath of the user pointer with writing permitted (R193, R222). -/
def Block.onTarget (b : Block) (s : Fin 4) (idx : Int) : Bool :=
  b.psw s 3 && b.on (SPn_STAT_LOCK (spinOf s)) && (vget b.servo s).gidx + 1 = idx

/-- Placement counts one lost pass (R108, R193, R222). -/
def Block.losePass (b : Block) (s : Fin 4) : Block :=
  ((b.modWp s fun w => { w with lost := w.lost + 1 }).modCalSurf s fun c => { c with lost := c.lost + 1 }).putBit
    WP_STAT_STILL s.val true

/-- Select the verify spot or the read spot on every beam (R101). -/
def Block.selectSpot (b : Block) (s : Fin 4) (verify : Bool) : Block :=
  if (vget b.wp s).verifySpot = verify then b
  else (b.sedge s (.spot verify)).modWp s fun w => { w with verifySpot := verify }

/-- Fix a plan (R83, R85): the next pass number, consecutive WSEQ values from one above the last assigned. -/
def Block.plan (b : Block) (s : Fin 4) (kind : PassKind) (band swath first : Nat) (stripes : List (List Cell))
    (images : List (List CellImage)) : Block :=
  let w := vget b.wp s
  let q := b.fld (WP_Ss_WSEQ_WSEQ s)
  let p : Pass :=
    { num := (w.passNum + 1) % 65536, kind := kind, band := band, swath := swath, first := first
      stripes := stripes, images := images, wseq0 := q + 1, sent := 0, missed := [] }
  let b := if kind = .test then b else b.setFld (WP_Ss_WSEQ_WSEQ s) (q + stripes.length)
  let b := b.modWp s fun w => { w with planned := some p, passNum := p.num }
  (b.putBit WP_STAT_STILL s.val false).selectSpot s true

/-- What placement gives of a data cell: that of its data unit, the payload filled up with zeros (R64, R87). -/
def Block.dataBody (b : Block) (c : Cell) : CellBody :=
  let ns := if c.clip = 0 then 2 else 1
  if c.kind ≠ .data then fillBody
  else
    match b.store.chunks.find? fun x =>
      x.mag = b.store.vol.magid && x.ns = ns && x.clip = c.clip && x.frame = c.frame && x.off = c.offset with
    | none => fillBody
    | some x =>
      ⟨ns, false, x.first, x.last, x.clip, x.frame, x.gen, x.off, x.vlen, x.data ++ List.replicate (8192 - x.data.length) 0⟩

/-- The built cells of a run of user stripes (R88), the first of them at stripe `first` with the next WSEQ. -/
def Block.userImages (b : Block) (s : Fin 4) (band swath first : Nat) (run : List (List Cell)) : List (List CellImage) :=
  let q := b.fld (WP_Ss_WSEQ_WSEQ s) + 1
  run.zipIdx.map fun e => stripeImages band swath (first + e.2) (q + e.2) ((e.1.take 13).map b.dataBody)

/-- PASS_PLAN (R83, R87, R112, R193, R222): LEAD ticks before the angle reference WP fixes the plan over the
stripes that placement offers, or leaves the pass unplanned. -/
def execPassPlan (s : Fin 4) (offered : List (List Cell)) (st : State) : Host.Outcome State Fault Refusal :=
  st.upd fun b => b.onSurf s fun b =>
    let w := vget b.wp s
    if w.planned.isSome then b
    else if !b.writable s then
      (b.modWp s fun w => { w with stop := false }).putBit WP_STAT_STILL s.val true
    else if b.checkDue s then b.putBit WP_STAT_STILL s.val true
    else if w.throt || !b.onTarget s w.pointerIndex then b.losePass s
    else
      let run := planRun (b.failedBeams s) (bandSlots w.band - w.stripe) offered
      if run.isEmpty || endSwath w.band ≤ w.swath || (vget b.servo s).layer ≠ bandLayer w.band then
        b.putBit WP_STAT_STILL s.val true
      else
        let used := run.flatten
        let b := b.modWp s fun w => { w with rewrite := w.rewrite.filter fun c => !used.contains c }
        b.plan s .user w.band w.swath w.stripe run (b.userImages s w.band w.swath w.stripe run)

/-- A verify or read queue of `q` jobs against watermarks in sixteenths of one revolution (16 × N_k cells)
(R108, R144): above HWM the throttle is on, at or below LWM off. -/
def throttleNext (was : Bool) (q slots hwm lwm : Nat) : Bool :=
  if hwm * slots < q then true else if q ≤ lwm * slots then false else was

/-- The verify throttle at an angle reference (R108). -/
def Block.verifyThrottle (b : Block) (s : Fin 4) : Block :=
  let w := vget b.wp s
  let on := throttleNext w.throt w.jobs.length (bandSlots w.band) (b.fld WP_VFY_WM_HWM) (b.fld WP_VFY_WM_LWM)
  if on = w.throt then b
  else ((b.modWp s fun w => { w with throt := on }).putBit WP_STAT_THROT s.val on).raiseSurf s (if on then 5 else 6)

/-- The pass under way ends whole: its stripes go to Heron and the pointer moves (R84, R106). -/
def Block.endPass (b : Block) (s : Fin 4) : Block :=
  match (vget b.wp s).running with
  | none => b
  | some p =>
    let b := (b.modWp s fun w => { w with running := none }).putBit WP_STAT_WRITING s.val false
    let b := match p.kind with
      | .test => b
      | _ => b.addStripes s p (bandSlots p.band)
    (b.movePointer s p false).advanceVseq s

/-- The planned pass starts (R82). -/
def Block.startPass (b : Block) (s : Fin 4) : Block :=
  match (vget b.wp s).planned with
  | none => b
  | some p =>
    let b := b.modWp s fun w => { w with planned := none, running := some p }
    (b.putBit WP_STAT_WRITING s.val true).putBit WP_STAT_STILL s.val true

/-- STOP_REQUEST (R86): the planned pass is cancelled, the pass under way completes, and the next plan is
left out. -/
def execStopRequest (s : Fin 4) (st : State) : Host.Outcome State Fault Refusal :=
  st.upd fun b => b.onSurf s fun b => (b.modWp s fun w => { w with stop := true }).cancelPlan s

/-- The CRC-32 that WP keeps of a written cell (R89). -/
def Wp.keptCrc (w : Wp) (q beam : Nat) : BitVec 32 :=
  ((w.stripes.find? fun t => t.wseq = q).map fun t => t.crcs.getD beam 0).getD 0

/-- The criteria of R107 on Heron's findings, with the CRC-32 kept of the cell. -/
def Block.verdictGood (b : Block) (kept : BitVec 32) (v : Verdict) : Bool :=
  (match v.sync with
    | none => false
    | some (d, h) => d ≤ 16 && h ≤ b.fld WP_VFY_CTL_SYNCHD) &&
  (match v.iters with
    | none => false
    | some n => n ≤ b.fld WP_VFY_CTL_ITER) &&
  v.corrected ≤ b.fld WP_VFY_CTL_MAXCORR && v.erased ≤ b.fld WP_VFY_CTL_MAXERA * 64 && v.crc = kept

/-- VERIFY_JOB_DONE (R107, R109 to R112): the cell of a queued job is judged. -/
def execVerifyJobDone (s : Fin 4) (wseq : BitVec 32) (beam : Fin 16) (v : Verdict) (st : State) :
    Host.Outcome State Fault Refusal :=
  st.upd fun b => b.onSurf s fun b =>
    let w := vget b.wp s
    let q := wseq.toNat
    if !(w.jobs.any fun j => j.wseq = q && j.beam = beam.val) then b
    else
      let b := b.modWp s fun w =>
        { w with jobs := w.jobs.filter fun j => !(j.wseq = q && j.beam = beam.val) }
      if b.verdictGood (w.keptCrc q beam) v then
        b.modWp s fun w => { (w.passCell q beam) with badRun := w.badRun.setIfInBounds beam 0 }
      else b.cellBad s q beam

/-- VERIFY_LATE (R143): a job past its deadline is counted once and raises surface offset 15. -/
def execVerifyLate (s : Fin 4) (wseq : BitVec 32) (beam : Fin 16) (st : State) : Host.Outcome State Fault Refusal :=
  st.upd fun b => b.onSurf s fun b =>
    let mine := fun (j : VerifyJob) => j.wseq = wseq.toNat && j.beam = beam.val
    let w := vget b.wp s
    if w.jobs.any fun j => mine j && !j.late && j.deadline < b.now then
      let b := b.modWp s fun w =>
        { w with jobs := w.jobs.map fun j => if mine j then { j with late := true } else j }
      (b.bump RC_CNT_LATE_COUNT 1).raiseSurf s 15
    else b

/-- The cells pending relocation in a band. -/
def Wp.pendIn (w : Wp) (band : Nat) : List PendCell := w.pend.filter fun p => p.band = band

/-- A relocation visit to the band is due (R110). -/
def Wp.visitDue (w : Wp) (band : Nat) : Bool :=
  let p := w.pendIn band
  !p.isEmpty && (13 ≤ p.length || w.band ≠ band || w.maxwait.contains band)

/-- The cells of a list in groups of `n` (a relocation stripe holds as many as its data positions). -/
def groupsOf {α : Type} (n : Nat) : Nat → List α → List (List α)
  | 0, _ => []
  | fuel + 1, l => if l.isEmpty || n = 0 then [] else l.take n :: groupsOf n fuel (l.drop n)

/-- Data positions that a relocation stripe may use, in beam order. -/
def dataBeams (failed : List Nat) : List Nat := (List.range 13).filter fun k => !failed.contains k

/-- Plan the relocation pass of a visit (R109, R110): the pending cells of the band into stripes from its
relocation pointer on. -/
def Block.planReloc (b : Block) (s : Fin 4) (band : Nat) : Block :=
  let w := vget b.wp s
  let failed := b.failedBeams s
  let ptr := w.relocPtr band
  let swath := ptr / 128
  let first := ptr % 128
  let cells := w.pendIn band
  let groups := (groupsOf (dataRoom failed) cells.length cells).take (bandSlots band - first)
  let took := groups.flatten
  let q := b.fld (WP_Ss_WSEQ_WSEQ s)
  let copies := (groups.zipIdx.map fun g =>
    (g.1.zip (dataBeams failed)).map fun c => (⟨q + 1 + g.2, c.2, c.1⟩ : RelocCopy)).flatten
  let b := b.modWp s fun w =>
    { w with pend := w.pend.filter fun p => !took.contains p
             copies := w.copies ++ copies
             maxwait := w.maxwait.filter (· ≠ band) }
  let b := (b.bump WP_CNT_RELOC_COUNT took.length).modCalSurf s fun c => { c with reloc := c.reloc + took.length }
  let at_ := fun (g : List PendCell) (k : Nat) => (((dataBeams failed).zip g).find? fun e => e.1 = k).map (·.2.image)
  b.plan s .reloc band swath first (groups.map fun g => fillStripe failed (g.map (·.cell)))
    (groups.zipIdx.map fun g => relocImages band swath (first + g.2) (q + 1 + g.2) ((List.range 13).map (at_ g.1)))

/-- RELOCATION_VISIT (R110, R113): planned where one is due; a band whose spare is exhausted has none. -/
def execRelocationVisit (s : Fin 4) (band : BitVec 16) (st : State) : Host.Outcome State Fault Refusal :=
  st.upd fun b => b.onSurf s fun b =>
    let w := vget b.wp s
    let k := band.toNat
    if w.planned.isSome || !w.visitDue k || w.spent.contains k || bandSlots k = 0 then b
    else if !b.writable s || !b.psw s 3 || !b.on (SPn_STAT_LOCK (spinOf s)) then b.losePass s
    else b.planReloc s k

/-- RELOCATION_MAXWAIT (R110): MAXWAIT ticks since the first bad verdict of a pending cell with a waiter. -/
def execRelocationMaxwait (s : Fin 4) (band : BitVec 16) (st : State) : Host.Outcome State Fault Refusal :=
  st.upd fun b => b.onSurf s fun b =>
    let old := ((vget b.wp s).pendIn band.toNat).any fun p =>
      (p.cell.waiter || p.cell.kind = .ledger) && p.since + b.fld WP_RELOC_CTL_MAXWAIT ≤ b.now
    if old then b.modWp s fun w => { w with maxwait := insertSrc band.toNat w.maxwait } else b

/-- Step 6 of R111 for one stripe: it is durable on optical and VSEQ advances. -/
def Block.stripeDurable (b : Block) (s : Fin 4) (q : Nat) : Block :=
  if (vget b.wp s).stripes.any fun t => t.wseq = q && t.passed && !t.void && !t.durable then
    (b.modWp s fun w => w.modStripe q fun t => { t with durable := true }).advanceVseq s
  else b

end Sys2Proof.Machine
end

