-- ==== Sys2Proof/Machine/Placement.lean ====
section
/-!
DEFINITION. Placement (12_clip_store_and_placement.md R332 to R341): the fill sequence, the planned rates,
the admitted ingest ceiling, the split of cells over surfaces, and the durability of stored data (R15).
-/

namespace Sys2Proof.Machine

/-! ### The fill sequence -/

/-- Surface `s` descends (R332): DESC of the volume. -/
def Block.descends (b : Block) (s : Nat) : Bool := b.store.vol.desc.testBit s

/-- DESC that the part's FORMAT records (R332). -/
def descOf (p : Part) : Nat := match p with | .pl6416 => 5 | .pl3216 => 1

/-- Band of step `j` of surface `s` (R332). -/
def bandStep (down : Bool) (s j : Nat) : Nat :=
  let z := j / 6
  let i := j % 6
  bandId s (if z % 2 = 0 then i else 5 - i) (if down then 23 - z else z)

/-- Step of a band in its surface's sequence. -/
def stepOf (down : Bool) (s band : Nat) : Nat :=
  ((List.range 144).find? fun j => bandStep down s j = band).getD 0

/-- A band that placement may still write (R333). -/
def Block.bandFree (b : Block) (s : Fin 4) (band : Nat) : Bool :=
  !b.store.vol.fullBands.contains band && !(vget b.wp s).spent.contains band

/-- The bands that surface `s` has still to write, its current one first (R333, R335). -/
def Block.bandsLeft (b : Block) (s : Fin 4) : List Nat :=
  let down := b.descends s
  let j0 := stepOf down s (vget b.wp s).band
  ((List.range 144).filter (j0 ≤ ·)).map (bandStep down s) |>.filter (b.bandFree s)

/-! ### Rates (R335, R337, R338) -/

/-- User rate of one slot per revolution, bytes per second: 15.9744 MB/s at 9,000 rpm, half in reduced mode. -/
def Block.slotRate (b : Block) : Nat := if b.on PW_STAT_RMODE then 7987200 else 15974400

/-- Planned rate of a sum of slots: 360 of 372 passes write. -/
def Block.planned (b : Block) (slots : Nat) : Nat := slots * b.slotRate * 360 / 372

def Block.leftOf (b : Block) (ss : List Nat) : List (List Nat) :=
  ss.map fun s => (b.bandsLeft (Fin.ofNat 4 s)).map bandSlots

/-- O_PLAN over a set of surfaces. -/
def Block.oPlan (b : Block) (ss : List Nat) : Nat :=
  b.planned (((b.leftOf ss).map fun l => l.headD 0).foldl (· + ·) 0)

/-- O_MIN over a set of surfaces: the least sum over the steps that remain on any of them. -/
def Block.oMin (b : Block) (ss : List Nat) : Nat :=
  let ls := b.leftOf ss
  let n := (ls.map List.length).foldl max 0
  let sums := (List.range n).map fun t => (ls.map fun l => l.getD t 0).foldl (· + ·) 0
  b.planned (sums.foldl min (sums.headD 0))

/-- Bytes held in Peat: of every magazine (R331). -/
def Block.stagedBytes (b : Block) : Nat := ((b.store.chunks.filter (·.staged)).map fun _ => 8192).foldl (· + ·) 0

/-- Free staging, bytes (13_peat_staging.md R343): the free pages of each open block at its own mode, and each
erased staging block at the mode selected. -/
def Block.peatFree (b : Block) : Nat :=
  let used := b.pt.blocks.filter fun e => !e.2.retired && !ptJournal (e.1 % 4096) && e.2.mode.isSome
  let open_ := used.map fun e =>
    if e.2.closed then 0 else (ptPages (e.2.mode.getD true) - e.2.next) * 65536
  let lost := (b.pt.blocks.filter fun e => e.2.retired).length - 2912
  let erased := 32 * 3110 - lost - used.length
  open_.foldl (· + ·) 0 + erased * ptPages (!b.hq.dense) * 65536

/-- F of R338: staging free above the floor, bytes. -/
def Block.stageFree (b : Block) : Nat := b.peatFree - b.hq.floor * 1000000000

/-- The ceiling of the last row of R337. -/
def Block.burstCeiling (b : Block) : Nat := if b.on PW_STAT_RMODE then 4800000000 else 9600000000

/-- The admitted ingest ceiling, bytes per second (R337). -/
def Block.ceiling (b : Block) : Nat :=
  if b.on PT_STAT_HOT then b.oPlan b.writers / 2
  else if b.hq.belowFloor || !b.on PT_STAT_READY then b.oPlan b.writers
  else if b.fld ML_STAT_PSTATE = 2 ∨ b.fld ML_STAT_PSTATE = 3 then min b.burstCeiling 7500000000
  else b.burstCeiling

/-- Bytes per second that a clip brings: H of R338. -/
def Clip.load (c : Clip) : Nat := (c.fsize + 8191) / 8192 * 8192 * c.rate / 1000

/-- L of R338: the open clips and the mean block-write rate of the last 10 s. -/
def Block.load (b : Block) : Nat :=
  ((b.store.vol.clips.filter fun c => c.state = 1).map Clip.load).foldl (· + ·) 0 +
    (b.store.blockRate.take 10).foldl (· + ·) 0 / 10

/-- Surfaces that a clip writes (R334). -/
def Block.clipWriters (b : Block) (surf : Nat) : List Nat :=
  b.writers.filter fun s => surf = 0 || surf.testBit s

/-- Admission by rate (R338). -/
def Block.admitted (b : Block) (h : Nat) (surf : Nat) (stage : Bool) : Bool :=
  let lh := b.load + h
  let o := b.oMin (b.clipWriters surf)
  lh ≤ o || (stage && lh ≤ b.burstCeiling && 10 * (lh - o) ≤ b.stageFree)

/-! ### The split of cells (R334) -/

/-- Shares of `n` cells in proportion to the weights, by largest remainder, ties to the lower surface. -/
def shares (n : Nat) (ws : List (Nat × Nat)) : List (Nat × Nat) :=
  let sum := (ws.map (·.2)).foldl (· + ·) 0
  if sum = 0 then []
  else
    let base := ws.map fun w => (w.1, n * w.2 / sum, n * w.2 % sum)
    let left := n - (base.map (·.2.1)).foldl (· + ·) 0
    -- rank of an entry: entries with a larger remainder, or an equal one and a lower surface, come first
    base.map fun e =>
      let rank := (base.filter fun f => e.2.2 < f.2.2 || (f.2.2 = e.2.2 && f.1 < e.1)).length
      (e.1, e.2.1 + (if rank < left then 1 else 0))

/-- The key of a cell that a chunk stands for. -/
def Chunk.isCell (c : Chunk) (x : Cell) : Bool :=
  x.kind = .data && x.clip = c.clip && x.frame = c.frame && x.offset = c.off

/-- The stripe run of a pass, or written stripes, of surface `s` hold the chunk's cell. -/
def Block.cellSent (b : Block) (s : Fin 4) (c : Chunk) : Bool :=
  let w := vget b.wp s
  (w.stripes.any fun t => t.cells.any c.isCell) ||
    (w.running.elim false fun p => p.stripes.any fun t => t.any c.isCell)

/-- Cells placed on surface `s` and not yet written. -/
def Block.unwritten (b : Block) (s : Fin 4) : Nat :=
  (b.store.chunks.filter fun c => c.surf = some s.val && !c.optical && !b.cellSent s c).length

/-- Cells that surface `s` may still take: its planned but unwritten stripes stay at or below 2 × N_k. -/
def Block.roomOn (b : Block) (s : Fin 4) : Nat :=
  let per := dataRoom (b.failedBeams s)
  2 * bandSlots (vget b.wp s).band * per - b.unwritten s

/-- The split of `n` cells over the surfaces `ss`: pieces in surface order, the rest of each piece to Peat
(no surface). -/
def Block.split (b : Block) (ss : List Nat) (n : Nat) : List (Option Nat × Nat) :=
  let ws := ss.map fun s => (s, bandSlots (vget b.wp (Fin.ofNat 4 s)).band)
  let ps := (shares n ws).map fun e =>
    let take := min e.2 (b.roomOn (Fin.ofNat 4 e.1))
    [(some e.1, take), (none, e.2 - take)]
  if ss.isEmpty then [(none, n)] else ps.flatten.filter fun e => e.2 ≠ 0

/-- The split written out cell by cell. -/
def splitCells (l : List (Option Nat × Nat)) : List (Option Nat) := (l.map fun e => List.replicate e.2 e.1).flatten

/-! ### Durability (R15, R267) -/

/-- Only DRAM holds the chunk. -/
def Chunk.atDram (c : Chunk) : Bool := c.dram && !c.staged && !c.optical

/-- The hold-up allowance that counts now, bytes (R450). -/
def Block.allowance (b : Block) : Nat := if b.on PW_STAT_ARMED then b.fld PW_HOLDUP_ALLOW * 1048576 else 0

/-- Every content that is held: that of each chunk, and the older ones. -/
def Store.versions (t : Store) : List Chunk := t.chunks ++ t.olds

/-- Contents of one data unit. -/
def Chunk.sameUnit (x y : Chunk) : Bool :=
  x.mag = y.mag && x.ns = y.ns && x.clip = y.clip && x.frame = y.frame && x.off = y.off

/-- The chunk is counted within the hold-up allowance: with the DRAM-only data that arrived before it, or since before
the allowance was lowered (R450). -/
def Block.counted (b : Block) (c : Chunk) : Bool :=
  ((b.store.versions.filter fun x => x.atDram && x.order ≤ c.order).length) * 8192 ≤ b.allowance ||
    (b.on PW_STAT_ARMED && c.order ≤ b.hq.cover)

/-- What is counted now stays covered (R450): before the allowance is written. -/
def Block.keepCover (b : Block) : Block :=
  let n := ((b.store.versions.filter fun x => x.atDram && b.counted x).map (·.order)).foldl max 0
  b.modHq fun h => { h with cover := n }

/-- The chunk is durable at a level or a higher one: 0 DRAM, 1 Staging, 2 Optical. -/
def Block.durable (b : Block) (level : Nat) (c : Chunk) : Bool :=
  c.optical || (level ≤ 1 && c.staged) || (level = 0 && c.dram && b.counted c)

/-- Chunks of the loaded volume. -/
def Block.volChunks (b : Block) : List Chunk := b.store.chunks.filter fun c => c.mag = b.store.vol.magid

/-- The chunk of a cell of the loaded volume. -/
def Block.chunk (b : Block) (clip frame off : Nat) : Option Chunk :=
  b.volChunks.find? fun c => c.clip = clip && c.frame = frame && c.off = off

def Block.modChunks (b : Block) (p : Chunk → Bool) (f : Chunk → Chunk) : Block :=
  b.modStore fun t => { t with chunks := t.chunks.map fun c => if p c then f c else c }

/-- The DRAM copy of the chunks chosen ceases to be needed: their ingest space returns (R337). -/
def Block.releaseDram (b : Block) (p : Chunk → Bool) : Block :=
  let n := ((b.store.chunks.filter fun c => p c && c.dram).map (·.res)).foldl (· + ·) 0
  (b.modChunks p fun c => { c with dram := false, res := 0 }).modHq fun h => { h with ingestUsed := h.ingestUsed - n }

/-- A content survives a power failure, with the whole of the atomic BLOCK WRITE that wrote it (R15, R266). -/
def Block.settledAt (b : Block) (x : Chunk) : Bool :=
  b.durable 0 x && (x.grp = 0 || b.store.versions.all fun y => y.grp ≠ x.grp || b.durable 0 y)

/-- Older contents are let go once a newer one of their unit survives a power failure (R266). -/
def Block.purgeOlds (b : Block) : Block :=
  let gone := fun (o : Chunk) => b.store.versions.any fun y => y.sameUnit o && o.order < y.order && b.settledAt y
  let n := ((b.store.olds.filter fun o => gone o && o.dram).map (·.res)).foldl (· + ·) 0
  (b.modStore fun t => { t with olds := t.olds.filter fun o => !gone o }).modHq fun h =>
    { h with ingestUsed := h.ingestUsed - n }

/-- A content that Peat or optical holds. -/
def Chunk.safe (x : Chunk) : Bool := x.staged || x.optical

/-- It went down with another part of its atomic BLOCK WRITE, or of its frame (R266). -/
def Chunk.broken (all : List Chunk) (x : Chunk) : Bool :=
  all.any fun y => !y.safe &&
    ((x.grp ≠ 0 && y.grp = x.grp) || (x.ns = 1 && y.ns = 1 && y.mag = x.mag && y.clip = x.clip && y.frame = x.frame))

/-- What a power failure leaves (R266): of every unit the newest content that is safe with the whole of its atomic
BLOCK WRITE or frame. -/
def Store.settle (t : Store) : Store :=
  let all := t.versions
  let good := all.filter fun x => x.safe && !x.broken all
  { t with olds := [], chunks := good.filter fun x => !(good.any fun y => y.sameUnit x && x.order < y.order) }

end Sys2Proof.Machine
end

