-- ==== Sys2Proof/Machine/Host.lean ====
section
/-!
DEFINITION. The host queues (10_host_queues.md): doorbells, fetch and arbitration, range locks, ingest
space, start, completion, controller reset and enable, failures of host memory, the link.
-/

namespace Sys2Proof.Machine

/-! ### Checks of a fetched entry (R278 to R280, R283, R285) -/

/-- Admin opcodes (R282, R283). -/
def isAdmin (o : Nat) : Bool := 0x01 ≤ o && o ≤ 0x13

/-- I/O opcodes (R283). -/
def isIo (o : Nat) : Bool := (0x20 ≤ o && o ≤ 0x22) || (0x30 ≤ o && o ≤ 0x35)

/-- Bits of DW8 to DW15 that an opcode defines (the chapter's opcode tables). -/
def dwMask (o n : Nat) : Nat :=
  let all := 0xFFFFFFFF
  let tbl : List Nat :=
    -- DW8 to DW15
    if o = 0x01 then [0, 0, 0xFF]
    else if o = 0x02 then [all, all, all, all, 0x0FFF0FFF, 0x00077F7F]
    else if o = 0x03 ∨ o = 0x04 then [0, 0, 0x7F]
    else if o = 0x05 then [0, 0, 0xFF, all, all]
    else if o = 0x06 then [0, 0, 0xFF, all, all]
    else if o = 0x07 then [0, 0, 0xFF]
    else if o = 0x09 then [0, 0, 1]
    else if o = 0x0A then [0, 0, 0x3F3F07, 0xFFFF]
    else if o = 0x0B then [0, 0, 0x113F]
    else if o = 0x0C then [0, 0, all]
    else if o = 0x0D then [0, 0, 0x1F]
    else if o = 0x0E then [0, 0, 0xFFFF007F]
    else if o = 0x0F then [0, 0, 0xF, 1]
    else if o = 0x11 then [0, 0, 0xFF, all, all]
    else if o = 0x12 then [0, 0, 0xF]
    else if o = 0x13 then [0, 0, all, all]
    else if o = 0x20 ∨ o = 0x21 then [0, 0, all, 0xFFFF]
    else if o = 0x22 then [0, 0, 1]
    else if o = 0x30 then [0, 0, 0xFFFF, all, all, 0xF1, all, 0x1FF]
    else if o = 0x31 then [0, 0, 0xFFFF, 0xFF, 1]
    else if o = 0x32 then [0, 0, 0xFFFF]
    else if o = 0x33 then [0, 0, 0xFFFF, all, 0x800000FF, all]
    else if o = 0x34 then [0, 0, 3, all]
    else if o = 0x35 then [0, 0, 0xFFFF, all, all]
    else []
  tbl.getD (n - 8) 0

/-- A reserved field is not zero (R278, R279). -/
def reservedSet (d : Vector Word 16) : Bool :=
  let o := dwBits d 0 7 0
  dwBits d 0 15 12 ≠ 0 || dwBits d 1 31 8 ≠ 0 || dwOf d 2 ≠ 0 || dwOf d 3 ≠ 0 || dwBits d 7 31 16 ≠ 0 ||
    (dwBits d 0 9 8 ≠ 2 && dwBits d 7 15 0 ≠ 0) ||
    (dwBits d 0 11 10 ≠ 0 && o ≠ 0x21 && o ≠ 0x31 && o ≠ 0x32) ||
    (List.range 8).any fun i => dwOf d (8 + i) &&& (0xFFFFFFFF - dwMask o (8 + i)) ≠ 0

/-- FSIZE of a clip, where it exists. -/
def Block.fsizeOf (b : Block) (n : Nat) : Option Nat := (b.clip n).map (·.fsize)

/-- DLEN fits the opcode (R279 and the opcodes' rules). -/
def Block.dlenOk (b : Block) (d : Vector Word 16) : Bool :=
  let o := dwBits d 0 7 0
  let n := dwOf d 6
  if o = 0x01 then n = 4096
  else if o = 0x05 then n ≠ 0 && n % 4 = 0 && n ≤ 0x100000
  else if o = 0x0A then n = 0 || n = 64
  else if o = 0x0B then
    if dwBits d 10 8 8 = 1 then n = 0 else n = (if dwBits d 10 12 12 = 0 then 72 else 40)
  else if o = 0x0C then n ≠ 0 && n % 4096 = 0 && n ≤ 0x100000
  else if o = 0x11 then n ≠ 0 && n % 4096 = 0
  else if o = 0x20 ∨ o = 0x21 then n = (dwBits d 11 15 0 + 1) * 4096
  else if o = 0x30 ∨ o = 0x32 then n = 0 || n = 4096
  else if o = 0x31 then
    (b.fsizeOf (dwBits d 10 15 0)).elim true fun f =>
      dwBits d 11 7 0 * f ≤ 0x40000000 && n = dwBits d 11 7 0 * f
  else if o = 0x33 then
    if dwBits d 12 31 31 = 1 then n ≠ 0
    else (b.fsizeOf (dwBits d 10 15 0)).elim true fun f =>
      (dwBits d 12 7 0 + 1) * f ≤ 0x40000000 && n = (dwBits d 12 7 0 + 1) * f
  else if o = 0x34 then n ≠ 0 && n % 64 = 0
  else n = 0

/-- A field of the opcode is in range (R283 check 2; the opcodes' rules). -/
def fieldsOk (d : Vector Word 16) : Bool :=
  let o := dwBits d 0 7 0
  dwBits d 0 11 10 ≠ 3 &&
  (if o = 0x01 then dwBits d 10 7 0 ≤ 4
   else if o = 0x05 then 1 ≤ dwBits d 10 7 0 && dwBits d 10 7 0 ≤ 8 && dwOf d 11 % 4 = 0
   else if o = 0x0A then
     (dwBits d 10 2 2 = 1 || dwBits d 10 1 0 = 0) && dwBits d 11 7 0 ≤ 238 && dwBits d 11 15 8 ≤ 100
   else if o = 0x0D then
     (dwBits d 10 1 0 = 1 || dwBits d 10 1 0 = 2) && dwBits d 10 4 2 ≤ 4
   else if o = 0x0F then dwBits d 10 3 0 ≤ 5
   else if o = 0x12 then dwBits d 10 3 0 = 1 || dwBits d 10 3 0 = 2 || dwBits d 10 3 0 = 15
   else if o = 0x30 then 1 ≤ dwOf d 11 && dwOf d 11 ≤ 0x10000000 && 1 ≤ dwOf d 12
   else if o = 0x31 then 1 ≤ dwBits d 11 7 0
   else if o = 0x33 then dwBits d 12 31 31 = 0 || dwBits d 12 7 0 = 0
   else if o = 0x34 then dwBits d 10 1 0 ≤ 1
   else true)

/-- NSID fits the opcode (R283). -/
def nsidOk (d : Vector Word 16) : Bool :=
  let o := dwBits d 0 7 0
  let ns := dwBits d 1 7 0
  if isAdmin o then ns = 0
  else if o = 0x20 ∨ o = 0x21 then ns = 2
  else if o = 0x22 then ns = 1 || ns = 2 || ns = 0xFF
  else ns = 1

/-- Checks 1 to 3 of R285: status and DETAIL of the first that fails. -/
def Block.entryCheck (b : Block) (q : Nat) (d : Vector Word 16) : Option (Nat × Nat) :=
  let o := dwBits d 0 7 0
  let dmode := dwBits d 0 9 8
  let n := dwOf d 6
  if !(if q = 0 then isAdmin o else isIo o) then some (0x01, 0)
  else if reservedSet d then some (0x02, 0x01)
  else if dmode = 3 || (dmode = 0 && n ≠ 0) || (dmode ≠ 0 && n = 0) || 0x40000000 < n ||
      (dmode = 2 && dwBits d 7 15 0 = 0) then some (0x02, 0x02)
  else if o = 0x31 && !((b.clip (dwBits d 10 15 0)).elim false fun c => c.state = 1 && !c.sealed) then
    some (0x02, 0x07)
  else if !b.dlenOk d then some (0x02, 0x02)
  else if dmode = 1 && dwOf d 4 % 4 ≠ 0 then some (0x02, 0x03)
  else if !nsidOk d then some (0x02, 0x04)
  else if b.hq.cmds.any fun c => c.pair = q && c.cid = dwBits d 0 31 16 then some (0x02, 0x06)
  else if !fieldsOk d || (o = 0x10 && 8 ≤ (b.hq.cmds.filter fun c => c.opc = 0x10).length) then some (0x02, 0x10)
  else if o = 0x30 && ((List.range 4).any fun s => (dwBits d 13 7 4).testBit s && !b.part.hasSurf s) then
    some (0x02, 0x05)
  else none

/-! ### Locks and order (R261 to R265) -/

/-- Two ranges conflict (R263). -/
def LockRange.conflict (a c : LockRange) : Bool :=
  a.ns = c.ns && a.clip = c.clip && a.lo ≤ c.hi && c.lo ≤ a.hi && (a.write || c.write)

/-- Highest frame number (R262). -/
def topFrame : Nat := 16777214

/-- The range that a command locks (R262). -/
def Block.rangeOf (b : Block) (d : Vector Word 16) (clip frame frames : Nat) : Option LockRange :=
  let o := dwBits d 0 7 0
  if o = 0x20 ∨ o = 0x21 then
    some ⟨2, 0, dwOf d 10, dwOf d 10 + dwBits d 11 15 0, o = 0x21⟩
  else if o = 0x31 then
    if frames = 0 then none else some ⟨1, clip, frame, frame + frames - 1, true⟩
  else if o = 0x30 ∨ o = 0x32 then some ⟨1, clip, 0, topFrame, true⟩
  else if o = 0x33 then some ⟨1, clip, dwOf d 11, dwOf d 11 + dwBits d 12 7 0, false⟩
  else if o = 0x35 then
    let last := (b.clip clip).elim 0 fun c => c.next - 1
    some ⟨1, clip, dwOf d 11, if dwOf d 12 = 0 then last else dwOf d 11 + dwOf d 12 - 1, false⟩
  else none

/-- The lowest clip number that no clip and no fetched CLIP OPEN uses (R312). -/
def Block.lowestClip (b : Block) : Nat :=
  let used := b.store.vol.clips.map (·.num) ++ (b.hq.cmds.filter fun c => c.opc = 0x30).map (·.clip)
  (((List.range (used.length + 1)).map (· + 1)).find? fun n => !used.contains n).getD 0

/-- The lowest free tag (R259). -/
def Block.freeTag (b : Block) : Nat :=
  ((List.range 4096).find? fun t => !b.hq.cmds.any fun c => c.tag = t).getD 0

/-! ### Fetch (R257, R259, R260) -/

/-- Unfetched entries of an SQ, and unconsumed completions of a CQ. -/
def Block.sqDepth (b : Block) (q : Nat) : Nat :=
  (b.fld (HQ_Pq_SQ_TAIL q) + (b.fld (HQ_Pq_CFG_SQS q) + 1) - b.fld (HQ_Pq_SQ_HEAD q)) % (b.fld (HQ_Pq_CFG_SQS q) + 1)

def Block.cqDepth (b : Block) (q : Nat) : Nat :=
  (b.fld (HQ_Pq_CQ_TAIL q) + (b.fld (HQ_Pq_CFG_CQS q) + 1) - b.fld (HQ_Pq_CQ_HEAD q)) % (b.fld (HQ_Pq_CFG_CQS q) + 1)

/-- The SQ may be fetched now (R257). -/
def Block.canFetch (b : Block) (q : Nat) : Bool :=
  b.on HQ_STAT_RDY && !b.on HQ_STAT_CFS && b.pw.dyke.isNone && b.pairOn q && b.sqDepth q ≠ 0 &&
    !b.onBit (HQ_FROZEN_k_FROZEN (q / 32)) (q % 32) && !b.hq.deleting.any (·.1 = q) &&
    b.hq.cmds.length < 4096 &&
    b.fld (HQ_Pq_ATTR_OUT q) + 1 + b.cqDepth q ≤ b.fld (HQ_Pq_CFG_CQS q)

/-- The next I/O SQ after `last` that satisfies `p`, round-robin. -/
def nextPair (last : Nat) (p : Nat → Bool) : Option Nat :=
  ((List.range 127).map fun i => (last + i) % 127 + 1).find? p

/-- The SQ that arbitration serves next (R260), and the block with its pointers moved. In CLASS mode the
lowest-numbered class with turns left is served first (DESIGN CHOICE, notes/assumptions/13.md). -/
def Block.arbitrate (b : Block) : Option (Nat × Block) :=
  if b.canFetch 0 then some (0, b)
  else if !b.on HQ_CTL_ARBMODE then
    (nextPair b.hq.rrPass b.canFetch).map fun q => (q, b.modHq fun h => { h with rrPass := q })
  else
    let has := fun k => (List.range 127).any fun i => b.canFetch (i + 1) && b.fld (HQ_Pq_ATTR_CLASS (i + 1)) = k
    let serve := fun (b : Block) (k : Nat) =>
      (nextPair (vget b.hq.rr (Fin.ofNat 5 k)) fun q => b.canFetch q && b.fld (HQ_Pq_ATTR_CLASS q) = k).map fun q =>
        (q, b.modHq fun h => { h with rr := vset h.rr (Fin.ofNat 5 k) q })
    if has 4 then serve b 4
    else
      let pick := fun (b : Block) =>
        (List.range 4).find? fun k => has k && vget b.hq.turns (Fin.ofNat 4 k) ≠ 0
      let weights := [b.fld HQ_CLASS_W_W0, b.fld HQ_CLASS_W_W1, b.fld HQ_CLASS_W_W2, b.fld HQ_CLASS_W_W3]
      let b := if (pick b).isSome then b
        else b.modHq fun h => { h with turns := Vector.ofFn fun k => max 1 (weights.getD k.val 1) }
      match pick b with
      | none => none
      | some k =>
        serve (b.modHq fun h => { h with turns := vmod h.turns (Fin.ofNat 4 k) fun n => n - 1 }) k

/-- Fetch one entry of SQ `q` (R257, R259, R262, R264, R285, R312 to R314). -/
def Block.fetchOne (b : Block) (q : Nat) (d : Vector Word 16) : Block :=
  let o := dwBits d 0 7 0
  let h := b.fld (HQ_Pq_SQ_HEAD q)
  let b := b.setFld (HQ_Pq_SQ_HEAD q) (if h + 1 = b.fld (HQ_Pq_CFG_SQS q) + 1 then 0 else h + 1)
  let b := (b.setFld (HQ_Pq_ATTR_OUT q) (b.fld (HQ_Pq_ATTR_OUT q) + 1)).bump HQ_CNT_FETCH_COUNT 1
  let b := b.modHq fun h => { h with seq := h.seq + 1, lastIo := if q = 0 then h.lastIo else b.now }
  let c0 : Cmd :=
    { tag := b.freeTag, pair := q, seq := b.hq.seq, dws := d, range := none, entry := false, granted := false
      space := 0, reserved := false, started := false, discard := false, clip := dwBits d 10 15 0, frame := 0
      frames := 0, spare := 0, step := 0, split := [], stamp := none, mseq := 0, lastData := none, fin := none, held := none }
  match b.entryCheck q d with
  | some (st, detail) =>
    (b.modHq fun h => { h with cmds := h.cmds ++ [c0] }).post c0 (Finish.of st detail 0)
  | none =>
    let clip := if o = 0x30 && c0.clip = 0 then b.lowestClip else c0.clip
    let n := dwBits d 11 7 0
    let next := (b.clip clip).elim 0 (·.next)
    let takes : Bool := o = 0x31 && next + n ≤ topFrame + 1
    let b := if takes then b.modClip clip fun c => { c with next := c.next + n } else b
    let b := if o = 0x32 then b.modClip clip fun c => { c with sealed := true } else b
    let frames := if takes then n else 0
    let range := b.rangeOf d clip next frames
    let c : Cmd :=
      { c0 with clip := clip, frame := next, frames := frames, range := range, started := o = 0x10
                space := if o = 0x21 ∨ o = 0x30 ∨ o = 0x31 ∨ o = 0x32 then (dwOf d 6 + 8191) / 8192 * 8192 else 0 }
    ((b.modHq fun h => { h with cmds := h.cmds ++ [c] }).placeEntries).mirrorFetch c

/-- Fetch from SQ `q` up to `n` of the entries that host memory holds there. -/
def Block.fetchMany (b : Block) (q : Nat) : Nat → List (Vector Word 16) → Block
  | 0, _ => b
  | _, [] => b
  | n + 1, d :: t => if b.canFetch q then (b.fetchOne q d).fetchMany q n t else b

/-- COMMAND_FETCH: one turn of the SQ that arbitration serves (R257, R260); `entries` is what host memory
holds from its head on. -/
def execCommandFetch (entries : List (Vector Word 16)) (s : State) : Host.Outcome State Fault Refusal :=
  s.upd fun b =>
    match b.arbitrate with
    | none => b
    | some (q, b') => if entries.isEmpty then b else b'.fetchMany q (min (b.fld HQ_CTL_BURST) 7 + 1) entries

/-! ### Locks, ingest space, start -/

/-- LOCK_GRANT (R263): no entry placed before it remains with a conflicting, overlapping range. -/
def execLockGrant (tag : Nat) (s : State) : Host.Outcome State Fault Refusal :=
  s.upd fun b =>
    match b.cmd tag with
    | none => b
    | some c =>
      match c.range with
      | none => b
      | some r =>
        if c.entry && !(b.hq.cmds.any fun x => x.seq < c.seq && x.range.elim false (·.conflict r)) then
          b.modCmd tag fun c => { c with granted := true }
        else b

/-- The ingest region: 8 GiB (R337). -/
def ingestSize : Nat := 0x200000000

/-- INGEST_RESERVE (R261, R337): in fetch order, where the region has space and the credit is not negative. -/
def execIngestReserve (tag : Nat) (s : State) : Host.Outcome State Fault Refusal :=
  s.upd fun b =>
    match b.cmd tag with
    | none => b
    | some c =>
      let first := !b.hq.cmds.any fun x => x.seq < c.seq && x.space ≠ 0 && !x.reserved
      if c.space = 0 || c.reserved || !first || ingestSize < b.hq.ingestUsed + c.space || b.hq.credit < 0 ||
          b.lagFull || b.pw.dyke.isSome then b
      else
        (b.modCmd tag fun c => { c with reserved := true }).modHq fun h =>
          { h with ingestUsed := h.ingestUsed + c.space, credit := h.credit - c.space * 400000 }

/-- The segment list obeys R280: status and DETAIL of the first rule it breaks. -/
def segCheck (nseg dlen : Nat) (segs : List Segment) : Option (Nat × Nat) :=
  if segs.any (·.zero ≠ 0) then some (0x02, 0x01)
  else if (segs.any fun g => g.addr % 4 ≠ 0) || (segs.dropLast.any fun g => g.len % 4 ≠ 0) ||
      segs.any (·.len = 0) then some (0x02, 0x03)
  else if segs.length ≠ nseg || (segs.map (·.len)).foldl (· + ·) 0 ≠ dlen then some (0x02, 0x02)
  else none

/-- The catalogue key of an AUTH volume is bound as KEYGEN 0 of CLIP (R294, R295). -/
def Vol.opened (v : Vol) : Bool := !v.auth || v.binds.any fun x => x.1 = 1 && x.2.1 = 0

/-- A generation of a namespace is bound. -/
def Vol.bound (v : Vol) (ns gen : Nat) : Bool := v.binds.any fun x => x.1 = ns && x.2.1 = gen

/-- Units of a block range. -/
def unitsOf (lo hi : Nat) : List Nat := (List.range (hi / 2 + 1 - lo / 2)).map (lo / 2 + ·)

/-- Chunks of frames [lo, hi] of a clip. -/
def Block.frameChunks (b : Block) (clip lo hi : Nat) : List Chunk :=
  b.volChunks.filter fun c => c.ns = 1 && c.clip = clip && lo ≤ c.frame && c.frame ≤ hi

/-- Chunks of block units of the list. -/
def Block.unitChunks (b : Block) (us : List Nat) : List Chunk :=
  b.volChunks.filter fun c => c.ns = 2 && us.contains c.off

/-- The volume takes no further data (R522): a surface's next log swath is 359. -/
def Block.volFull (b : Block) : Bool :=
  (List.range 4).any fun s => b.part.hasSurf s && 359 ≤ (vget b.store.vol.log (Fin.ofNat 4 s)).swath

/-- Cells that the bands left can still take, less the block space reserved (R299). -/
def Block.freeCells (b : Block) : Nat :=
  let per := (List.range 4).map fun s =>
    if !b.part.hasSurf s then 0
    else
      let w := vget b.wp (Fin.ofNat 4 s)
      let cells := (b.bandsLeft (Fin.ofNat 4 s)).map fun k =>
        13 * (bandSlots k * (endSwath k - (if k = w.band then w.swath else firstSwath k)) -
          (if k = w.band then w.stripe else 0))
      cells.foldl (· + ·) 0 - b.unwritten (Fin.ofNat 4 s)
  let blocks := b.store.vol.blku * 32768 + b.store.vol.spareLeft -
    (b.volChunks.filter fun c => c.ns = 2 && c.optical).length
  per.foldl (· + ·) 0 - blocks

/-- Checks 4 to 8 of R285, made at the start of a command that needs a volume; admin commands other than these
make theirs when they act. -/
def Block.startCheck (b : Block) (c : Cmd) : Option (Nat × Nat) :=
  let v := b.store.vol
  let o := c.opc
  let d := c.dws
  if isAdmin o then none
  else if b.isPartner && (c.writeClass || o = 0x22) then some (0x21, 0)
  else if v.vstate = 1 ∨ v.vstate = 4 then some (0x21, 0)
  else if o = 0x22 then none
  else if v.vstate = 0 then some (0x20, 0)
  else if v.vstate = 2 then some (0x02, 0x09)
  else if !v.opened then some (0x40, 0x0B)
  else if o = 0x20 ∨ o = 0x21 then
    let lo := dwOf d 10
    let hi := lo + dwBits d 11 15 0
    let us := unitsOf lo hi
    if o = 0x21 && v.encBlock && !(v.curBlock ≠ 0 && v.bound 2 v.curBlock) then some (0x40, 0)
    else if o = 0x20 && ((b.unitChunks us).any fun x => x.gen ≠ 0 && !v.bound 2 x.gen) then some (0x40, 0)
    else if v.blku * 65536 ≤ hi then some (0x03, 0)
    else if o = 0x21 && b.volFull then some (0x22, 0x35)
    else if o = 0x21 && v.spareLeft < ((b.unitChunks us).filter (·.optical)).length then some (0x13, 0x32)
    else none
  else if o = 0x31 then
    let need := c.frames * (((b.fsizeOf c.clip).getD 0 + 8191) / 8192)
    if v.encClip && !(v.curClip ≠ 0 && v.bound 1 v.curClip) then some (0x40, 0)
    else if c.frames = 0 then some (0x22, 0x33)
    else if b.volFull || b.freeCells < need then some (0x22, 0x35)
    else none
  else if o = 0x32 then
    if (b.clip c.clip).elim true fun x => x.state = 2 then some (0x02, 0x07) else none
  else if o = 0x33 then
    match b.clip c.clip with
    | none => some (0x03, 0)
    | some x =>
      let lo := dwOf d 11
      let hi := lo + dwBits d 12 7 0
      if (b.frameChunks c.clip lo hi).any fun x => x.gen ≠ 0 && !v.bound 1 x.gen then some (0x40, 0)
      else if x.next ≤ hi || (x.skipped.any fun n => lo ≤ n && n ≤ hi) ||
          (dwBits d 12 31 31 = 1 && x.fsize < dwOf d 13 + c.dlen) then some (0x03, 0)
      else none
  else if o = 0x34 then
    if dwBits d 10 1 0 = 1 && (b.clip (dwOf d 11)).isNone then some (0x03, 0) else none
  else if o = 0x35 then
    match b.clip c.clip with
    | none => some (0x03, 0)
    | some x =>
      if x.next ≤ dwOf d 11 || (dwOf d 12 ≠ 0 && x.next < dwOf d 11 + dwOf d 12) then some (0x03, 0) else none
  else none

/-- What the start of a write does (R310, R327, R334): spare units and the split of its cells; the FSYNC
stamp of an append with STAMP = 1. -/
def Block.startWrite (b : Block) (c : Cmd) : Block :=
  if c.opc = 0x21 then
    let us := unitsOf (dwOf c.dws 10) (dwOf c.dws 10 + c.bits 11 15 0)
    let n := ((b.unitChunks us).filter (·.optical)).length
    let b := b.modVol fun v => { v with spareLeft := v.spareLeft - n }
    b.modCmd c.tag fun c => { c with spare := n, split := [b.split b.writers us.length] }
  else if c.opc = 0x31 then
    match b.clip c.clip with
    | none => b
    | some x =>
      let n := (x.fsize + 8191) / 8192
      let ss := b.clipWriters x.surf
      let b := b.modCmd c.tag fun c => { c with split := List.replicate c.frames (b.split ss n) }
      if c.bits 12 0 0 = 0 then b
      else
        let cnt := b.fld MZ_FSYNC_CNT_COUNT
        let stale : Bool := !b.on MZ_FSYNC_STAT_NEW || x.stamped = some cnt
        let ovf := b.on MZ_FSYNC_STAT_OVF
        let b := b.modCmd c.tag fun c => { c with stamp := some (b.fsync.cap.toNat, stale, ovf) }
        (b.setBit MZ_FSYNC_STAT_OVF false).modClip c.clip fun x => { x with stamped := some cnt }
  else b

/-- A fetched command may start (R261): its lock and its space, and the start order of its mode. -/
def Block.mayStart (b : Block) (c : Cmd) : Bool :=
  let cls := fun (x : Cmd) => b.fld (HQ_Pq_ATTR_CLASS x.pair)
  let before := b.hq.cmds.filter fun x => x.seq < c.seq && !x.started
  !c.started && c.fin.isNone && (c.range.isNone || c.granted) && (c.space = 0 || c.reserved) &&
    (if c.pair = 0 then !before.any (·.pair = 0)
     else !b.on HQ_CTL_ARBMODE || !before.any fun x => x.pair ≠ 0 && cls x = cls c)

/-- COMMAND_START (R261, R273, R280, R285): the commit point; checks 4 to 8 and the segment list decide
whether the command goes on. -/
def execCommandStart (tag : Nat) (segs : List Segment) (s : State) : Host.Outcome State Fault Refusal :=
  s.upd fun b =>
    match b.cmd tag with
    | none => b
    | some c =>
      if !b.mayStart c || b.pw.dyke.isSome then b
      else
        let b := b.modCmd tag fun c => { c with started := true }
        let bad := if c.bits 0 9 8 = 2 then segCheck (c.bits 7 15 0) c.dlen segs else none
        match bad.or (b.startCheck c) with
        | some (st, detail) =>
          (b.dropClaims tag).finish tag (Finish.of st detail 0)
        | none => b.startWrite c

/-! ### Completion -/

/-- A record is durable in the ledger (R324). -/
def Block.recDurable (b : Block) (r : LedgerRec) : Bool :=
  r.need.all fun s => (vget b.store.vol.log (Fin.ofNat 4 s)).done.contains r.rseq || b.surfState s = 3

/-- The CLIP_CLOSE record of a clip is durable in the ledger. -/
def Block.closeDurable (b : Block) (clip : Nat) : Bool :=
  b.store.vol.records.any fun r =>
    r.rtype = 4 && b.recDurable r && r.entries.any fun e => leVal (e.take 2) = clip

/-- Bytes that only DRAM holds (R293). -/
def Block.dramUsed (b : Block) : Nat := 8192 * (b.store.versions.filter (·.atDram)).length

/-- Bytes counted against the hold-up allowance (R450, PW_USED). -/
def Block.dramCounted (b : Block) : Nat := 8192 * (b.store.versions.filter fun x => x.atDram && b.counted x).length

/-- Chunks whose durability the completion of a write-class command awaits (R267, R314). -/
def Block.awaited (b : Block) (c : Cmd) : List Chunk :=
  if c.opc = 0x32 then b.frameChunks c.clip 0 topFrame else b.store.chunks.filter fun x => x.seq = c.seq

/-- The log of a surface that can write is used up (R522). -/
def Block.logSpent (b : Block) : Bool :=
  b.writers.any fun s => 360 ≤ (vget b.store.vol.log (Fin.ofNat 4 s)).swath

/-- How a command ends where level Optical cannot be reached (R330, R339, R522): NO_MAGAZINE once its volume is
gone, WRITE_FAULT where no surface can write, CAPACITY for a CLIP CLOSE whose record has no place in the log. -/
def Block.finalFin (b : Block) (c : Cmd) (f : Finish) : Finish :=
  let open_ := (b.awaited c).filter fun x => !x.optical
  let v := b.store.vol
  if f.status ≠ 0 || !c.writeClass || c.dur ≠ 2 then f
  else if open_.any fun x => v.vstate = 0 || x.mag ≠ v.magid then Finish.of 0x20 0 0
  else if c.opc = 0x32 && v.vstate = 0 then Finish.of 0x20 0 0
  else if b.writers.isEmpty && (!open_.isEmpty || (c.opc = 0x32 && !b.closeDurable c.clip)) then Finish.of 0x12 0x30 0
  else if c.opc = 0x32 && open_.isEmpty && !b.closeDurable c.clip && b.logSpent then Finish.of 0x22 0x35 0
  else f

/-- The completion of a command that ended may be posted (R267, R314; 16_mirror_pair.md R417): its data are
durable at the level asked for, and the partner has reported where that is awaited. -/
def Block.mayPost (b : Block) (c : Cmd) (f : Finish) : Bool :=
  if f.status ≠ 0 then true
  else if !b.reported c then false
  else if c.opc = 0x21 ∨ c.opc = 0x31 then
    -- with the volume removed, level DRAM asks for Staging (R330)
    (b.awaited c).all (b.durable (if b.store.vol.vstate = 0 then max 1 c.dur else c.dur))
  else if c.opc = 0x06 ∧ c.bits 10 7 0 = 1 then b.dramUsed ≤ b.fld PW_HOLDUP_ALLOW * 1048576
  else if c.opc = 0x32 then
    (b.frameChunks c.clip 0 topFrame).all (b.durable c.dur) && (c.dur ≠ 2 || b.closeDurable c.clip)
  else true

/-- The STAMP entry of a stamped append, journalled at its completion (R320, R323, R327). -/
def Block.stampEntry (b : Block) (c : Cmd) : Block :=
  match c.stamp with
  | none => b
  | some (ts, stale, ovf) =>
    b.journalBoth 7 (packBytes 16 [(0, 2, c.clip), (2, 1, c.frames), (3, 1, stale.toNat + 2 * ovf.toNat),
      (4, 4, c.frame), (8, 8, ts)])

/-- RDY falls once no started command of before the controller reset remains (R252). -/
def Block.resetDone (b : Block) : Block :=
  if b.hq.resetting && !b.hq.cmds.any (fun c => c.discard && c.fin.isNone) then
    let b := b.modHq fun h => { h with resetting := false }
    if b.on HQ_STAT_RDY then (b.setBit HQ_STAT_RDY false).raise 199 else b
  else b

/-- A pair ceases to exist: its registers read 0 (R277). -/
def Block.dropPair (b : Block) (q : Nat) : Block :=
  let b := (b.putBit (HQ_PAIR_k_EXISTS (q / 32)) (q % 32) false).putBit (HQ_FROZEN_k_FROZEN (q / 32)) (q % 32) false
  (((b.wr (HQ_Pq_CFG q) 0).wr (HQ_Pq_SQ q) 0).wr (HQ_Pq_CQ q) 0).wr (HQ_Pq_ATTR q) 0

/-- The pairs under QUEUE DELETE whose last started command has ended cease to exist, and their QUEUE DELETE
completes (R275). -/
def Block.deleteDone (b : Block) : Block :=
  b.hq.deleting.foldl (fun b e =>
    if b.hq.cmds.any fun c => c.pair = e.1 then b
    else
      let b := (b.dropPair e.1).modHq fun h => { h with deleting := h.deleting.filter fun x => x.1 ≠ e.1 }
      b.finish e.2 (Finish.of 0 0 0)) b

/-! ### Doorbells (R255, R256) -/

/-- An invalid doorbell write (R256). -/
def Block.badDoorbell (b : Block) (kind : Nat) (cq : Bool) (q v : Nat) : Block :=
  let b :=
    if b.on HQ_DBERR_VALID then b
    else
      let b := (b.setBit HQ_DBERR_VALID true).setFld HQ_DBERR_KIND kind
      ((b.setBit HQ_DBERR_CQ cq).setFld HQ_DBERR_PAIR q).setFld HQ_DBERR_VALUE (v % 4096)
  (b.raise 192).async 1 kind q

/-- The pair takes doorbells: it exists and no QUEUE DELETE has been taken for it (R275). -/
def Block.takesDoorbell (b : Block) (q : Nat) : Bool := b.pairOn q && !b.hq.deleting.any (·.1 = q)

/-- SQ_TAIL_DOORBELL. -/
def execSqTailDoorbell (q : Fin 128) (v : Word) (s : State) : Host.Outcome State Fault Refusal :=
  s.upd fun b =>
    let n := v.toNat
    let size := b.fld (HQ_Pq_CFG_SQS q) + 1
    if !b.takesDoorbell q then b.badDoorbell 1 false q n
    else if 4096 ≤ n then b.badDoorbell 5 false q n
    else if size ≤ n then b.badDoorbell 2 false q n
    else if (n + size - b.fld (HQ_Pq_SQ_HEAD q)) % size < b.sqDepth q then b.badDoorbell 3 false q n
    else b.setFld (HQ_Pq_SQ_TAIL q) n

/-- CQ_HEAD_DOORBELL: a valid head that leaves the CQ empty ends the service of its source (R435). -/
def execCqHeadDoorbell (q : Fin 128) (v : Word) (s : State) : Host.Outcome State Fault Refusal :=
  s.upd fun b =>
    let n := v.toNat
    let size := b.fld (HQ_Pq_CFG_CQS q) + 1
    if !b.takesDoorbell q then b.badDoorbell 1 true q n
    else if 4096 ≤ n then b.badDoorbell 5 true q n
    else if size ≤ n then b.badDoorbell 2 true q n
    else if b.cqDepth q < (n + size - b.fld (HQ_Pq_CQ_HEAD q)) % size then b.badDoorbell 4 true q n
    else
      let b := b.setFld (HQ_Pq_CQ_HEAD q) n
      if b.cqDepth q = 0 then
        let b := b.modIrq fun i => { i with act := i.act.filter fun e => e.1 ≠ 64 + q.val }
        b.clearPend fun k => k = 64 + q.val
      else b

/-! ### Reset and enable (R252, R253) -/

/-- A pair comes into being (R254, R258): both queues empty, P = 1 at first. -/
def Block.makePair (b : Block) (q sqs cqs vec cls : Nat) : Block :=
  let b := b.dropPair q
  let b := (b.putBit (HQ_PAIR_k_EXISTS (q / 32)) (q % 32) true).setFld (HQ_Pq_CFG_SQS q) sqs
  let b := (b.setFld (HQ_Pq_CFG_CQS q) cqs).setFld (HQ_Pq_CQ_PHASE q) 1
  (b.setFld (HQ_Pq_ATTR_VEC q) vec).setFld (HQ_Pq_ATTR_CLASS q) cls

/-- A controller reset (R252, R435): pairs deleted, unstarted commands discarded without a completion, started
ones run on without one. -/
def Block.ctlReset (b : Block) : Block :=
  let b := (b.setBit HQ_CTL_EN false).raise 198
  let gone := b.hq.cmds.filter fun c => !c.started || c.opc = 0x10
  let b := b.modHq fun h =>
    { h with cmds := h.cmds.map fun c => { c with discard := true }
             async := [], deleting := [], resetting := true }
  let b := gone.foldl (fun b c => b.postOne { c with discard := true } (Finish.of 0x30 0 0)) b
  let b := (List.range 128).foldl (fun b q => if b.pairOn q then b.dropPair q else b) b
  let b := b.modIrq fun i => { i with act := i.act.filter fun e => e.2 < 8 }
  (b.setBit HQ_STAT_CFS false).resetDone

/-- COMPLETION_POST. -/
def execCompletionPost (tag : Nat) (s : State) : Host.Outcome State Fault Refusal :=
  s.upd fun b =>
    match b.cmd tag with
    | none => b
    | some c =>
      match c.fin with
      | none => b
      | some f =>
        let f := b.finalFin c f
        if !b.mayPost c f || b.on HQ_STAT_CFS || b.pw.dyke.isSome then b
        else
          let f := if f.status = 0 && b.degraded c then { f with status := 0x50 } else f
          let b := if f.status = 0 || f.status = 0x50 then b.stampEntry c else b
          let b := (b.post c f).resetDone.deleteDone
          -- an activation without a module reset (R302)
          if c.opc = 0x0D && b.hq.restarting then
            (b.ctlReset.modHq fun h => { h with restarting := false }).async 12 b.hq.fwActive 0
          else b

/-- CONTROLLER_RESET. PERST# also resets the link and the configuration space, FLR the configuration space. -/
def execControllerReset (cause : CtlReset) (s : State) : Host.Outcome State Fault Refusal :=
  s.upd fun b =>
    match cause with
    | .enCleared => if b.on HQ_CTL_EN then b.ctlReset else b
    | .flr =>
      let b := b.ctlReset
      (b.modIrq fun i => { i with msixEn := false }).modHq fun h => { h with bme := false }
    | .perst =>
      let b := b.ctlReset
      let b := (b.modIrq fun i => { i with msixEn := false }).modHq fun h => { h with bme := false }
      if b.fld HQ_LINK_SPEED = 0 then b else (b.wr HQ_LINK 0).raise 193

/-- The controller becomes ready once EN is 1 and the cores have booted; a size field of 0 or a base that is not
4 KiB aligned sets CFS (R253). -/
def Block.tryReady (b : Block) : Block :=
  if !b.on HQ_CTL_EN || b.on HQ_STAT_RDY || b.on HQ_STAT_CFS || !b.hq.booted || b.hq.resetting then b
  else if b.fld HQ_AQ_SIZE_ASQS = 0 || b.fld HQ_AQ_SIZE_ACQS = 0 || (b.rd HQ_ASQ_LO).toNat % 4096 ≠ 0 ||
      (b.rd HQ_ACQ_LO).toNat % 4096 ≠ 0 then (b.setBit HQ_STAT_CFS true).raise 197
  else
    let b := b.makePair 0 (b.fld HQ_AQ_SIZE_ASQS) (b.fld HQ_AQ_SIZE_ACQS) 0 0
    (b.setBit HQ_STAT_RDY true).raise 199

/-- EN rises, with the ARBMODE written with it; ignored while RDY is still 1 (R253). -/
def Block.ctlEnable (b : Block) (arbmode : Bool) : Block :=
  if b.on HQ_STAT_RDY || b.on HQ_CTL_EN then b
  else ((b.setBit HQ_CTL_ARBMODE arbmode).setBit HQ_CTL_EN true).tryReady

/-- CONTROLLER_ENABLE. -/
def execControllerEnable (arbmode : Bool) (s : State) : Host.Outcome State Fault Refusal :=
  s.upd fun b => b.ctlEnable arbmode

/-! ### Failures and the link (R250, R272) -/

/-- HOST_DMA_FAILURE. -/
def execHostDmaFailure (f : HostFail) (s : State) : Host.Outcome State Fault Refusal :=
  s.upd fun b =>
    match f with
    | .data tag addr =>
      match b.cmd tag with
      | none => b
      | some c =>
        if !c.started || c.fin.isSome then b
        else
          (b.dropClaims tag).finish tag { Finish.of 0x7F 0x38 0 with haddr := some addr }
    | .fetch q addr =>
      if !b.pairOn q then b
      else
        let b := (b.elogNoCmd q 0x39 addr).async 2 0 q
        if q = 0 then b.raise 196 else b.freeze q
    | .completion => (b.setBit HQ_STAT_CFS true).raise 197

/-- PCIE_LINK_CHANGE: speed 0 (down) to 5, lanes, power state (HQ_LINK). -/
def execPcieLinkChange (speed : Fin 6) (width : BitVec 6) (pm : BitVec 2) (s : State) :
    Host.Outcome State Fault Refusal :=
  s.upd fun b =>
    let was := (b.fld HQ_LINK_SPEED, b.fld HQ_LINK_WIDTH)
    let w := if speed.val = 0 then 0 else width.toNat
    let b := ((b.setFld HQ_LINK_SPEED speed.val).setFld HQ_LINK_WIDTH w).setFld HQ_LINK_PMSTATE pm.toNat
    let b := b.setBit HQ_LINK_SLOW (speed.val = 1 || speed.val = 2)
    if was = (speed.val, w) then b
    else if speed.val = 0 then b.raise 193
    else b.raise 194

end Sys2Proof.Machine
end

