-- ==== Sys2Proof/Machine/Cipher.lean ====
section
/-!
DEFINITION. The cipher engine and the key store (15_cipher.md R393 to R408).
-/

namespace Sys2Proof.Machine

def Block.modCx (b : Block) (f : Cx → Cx) : Block := { b with cx := f b.cx }

/-- Slot `n` (R402). -/
def Block.slot (b : Block) (n : Nat) : CxKey := vget b.cx.slots (Fin.ofNat 64 n)

/-- Change a slot; OCC and TYPE are views of the slots (CX_KS_OCC, CX_KS_TYPE_k). -/
def Block.setSlot (b : Block) (n : Nat) (k : CxKey) : Block :=
  b.modCx fun c => { c with slots := vset c.slots (Fin.ofNat 64 n) k }

/-- The tweak of a data unit (R394). -/
def tweak (ns clip frame off half : Nat) : List Byte :=
  packBytes 16 (if ns = 1 then [(0, 1, half), (1, 4, off), (5, 3, frame), (8, 2, clip), (10, 1, 1)]
    else [(0, 1, half), (1, 4, off), (10, 1, 2)])

/-- A cell payload padded to 8,192 bytes (R393). -/
def padCell (l : List Byte) : List Byte := l ++ List.replicate (8192 - l.length) 0

/-- XTS of a cell payload, its two data units in turn (R393). -/
def cellXts (decrypt : Bool) (key : List Byte) (ns clip frame off : Nat) (payload : List Byte) : List Byte :=
  xts decrypt key (tweak ns clip frame off 0) (payload.take 4096) ++
    xts decrypt key (tweak ns clip frame off 1) (payload.drop 4096)

/-! ### Pages (R400, R401) -/

/-- The mode of a page; 2, 6 and 7 act as 0. -/
def Block.pageMode (b : Block) (p : Fin 16) : Nat :=
  let m := b.fld (CXp_CTL_MODE p)
  if m = 2 ∨ m = 6 ∨ m = 7 then 0 else m

/-- The key type that a mode needs. -/
def modeKind (m : Nat) : Nat := if m = 4 ∨ m = 5 then 2 else 1

/-- A page's key is cleared; `nokey` sets NOKEY. -/
def Block.clearPage (b : Block) (p : Fin 16) (nokey : Bool) : Block :=
  let b := b.modCx fun c => { c with pages := vset c.pages p CxKey.none }
  let b := (b.setBit (CXp_STAT_KEYOK p) false).setBit (CXp_STAT_NOKEY p) nokey
  (b.setFld (CXp_KCV_LO_KCV p) 0).setFld (CXp_KCV_HI_KCV p) 0

/-- LOAD = 1: the key in SLOT moves into the page (R400). -/
def Block.loadPage (b : Block) (p : Fin 16) : Block :=
  let k := b.slot (b.fld (CXp_CTL_SLOT p))
  if k.kind = 0 ∨ k.kind ≠ modeKind (b.pageMode p) then (b.clearPage p true).raise (1384 + p.val)
  else
    let kcv := keyCheck k.key
    let b := b.modCx fun c => { c with pages := vset c.pages p k }
    let b := (b.setBit (CXp_STAT_KEYOK p) true).setBit (CXp_STAT_NOKEY p) false
    (b.setFld (CXp_KCV_LO_KCV p) (leVal (kcv.take 4))).setFld (CXp_KCV_HI_KCV p) (leVal (kcv.drop 4))

/-- A write of CXp_CTL (R400, R401). -/
def Block.pageWrite (b : Block) (p : Fin 16) (v : Word) : Block :=
  let b := b.setFld (CXp_CTL_SLOT p) ((CXp_CTL_SLOT p).get v)
  let b := b.setFld (CXp_CTL_MODE p) ((CXp_CTL_MODE p).get v)
  let b := b.setFld (CXp_CTL_EN p) ((CXp_CTL_EN p).get v)
  if !b.on (CXp_CTL_EN p) then b.clearPage p (b.on (CXp_STAT_NOKEY p))
  else if (CXp_CTL_LOAD p).get v = 1 then b.loadPage p
  else b

/-- PAGE_KEY_LOAD: CXp_CTL is written with LOAD = 1 and the slot, the mode and EN as they stand. -/
def execPageKeyLoad (p : Fin 16) (slot : Fin 64) (s : State) : Host.Outcome State Fault Refusal :=
  s.upd fun b =>
    let v := (CXp_CTL_SLOT p).put (b.rd (CXp_CTL p)) slot.val
    b.pageWrite p ((CXp_CTL_LOAD p).put v 1)

/-- PAGE_CTL_WRITE. -/
def execPageCtlWrite (p : Fin 16) (v : Word) (s : State) : Host.Outcome State Fault Refusal :=
  s.upd fun b => b.pageWrite p v

/-! ### Pairs and units (R397 to R399) -/

/-- Pair `n` is in service. -/
def Block.pairIn (b : Block) (n : Fin 4) : Bool := b.onBit CX_STAT_PAIRS n

/-- No pair is in service (R399). -/
def Block.noPairs (b : Block) : Bool := b.fld CX_STAT_PAIRS = 0

/-- A page takes units: enabled, with a key (R400). -/
def Block.pageReady (b : Block) (p : Fin 16) : Bool := b.on (CXp_CTL_EN p) && b.on (CXp_STAT_KEYOK p) && b.on CX_CTL_EN

/-- A mismatch (R398, R399): nothing is released, the pair leaves service and is tested. -/
def Block.mismatch (b : Block) (n : Fin 4) : Block :=
  let b := ((b.bump CX_CNT_MISMATCH 1).putBit CX_STAT_PAIRS n false).raise 1400
  b.modCx fun c => { c with testing := insertSrc n c.testing }

/-- The command whose unit is concerned ends with a status of CX. -/
def Block.cxFail (b : Block) (use : CxUse) (status : Nat) : Block :=
  let detail := if status = 0x41 then 0x31 else 0
  let fail := fun (b : Block) (tag : Nat) =>
    match b.cmd tag with
    | some c => if c.started && c.fin.isNone then b.finish tag (Finish.of status detail 0) else b
    | none => b
  match use with
  | .ingest tag => fail b tag
  | .readBack tag => fail b tag
  | .other => b

/-- What decides whether a unit runs: the block after a failure, or none where the unit passes pair `n`. -/
def Block.cxBlocked (b : Block) (p : Fin 16) (n : Fin 4) (use : CxUse) : Option Block :=
  if b.on (CXp_STAT_NOKEY p) then some (b.cxFail use 0x40)
  else if b.noPairs then some (b.cxFail use 0x41)
  else if !b.pageReady p || !b.pairIn n then some b
  else none

/-- CIPHER_UNIT (R393, R394, R397): a data unit of the page's mode passes pair `n`; `differ` is what the
comparator finds. -/
def execCipherUnit (p : Fin 16) (n : Fin 4) (use : CxUse) (tw data : List Byte) (differ : Bool) (s : State) :
    Host.Outcome State Fault Refusal :=
  s.upd fun b =>
    match b.cxBlocked p n use with
    | some b' => b'
    | none =>
      if 1 < b.pageMode p then b
      else if differ then (b.mismatch n).cxFail use 0x41
      else
        let out := xts (b.pageMode p = 1) (vget b.cx.pages p).key tw data
        (b.bump (CXp_CNT_UNITS p) 1).emit (.cipher p out [])

/-- RE_TWEAK (R395): decrypted under the old tweak and encrypted under the new one, with the same key; after a
mismatch the unit is retried on another pair (R398). -/
def execReTweak (p : Fin 16) (n : Fin 4) (old new data : List Byte) (differ : Bool) (s : State) :
    Host.Outcome State Fault Refusal :=
  s.upd fun b =>
    match b.cxBlocked p n .other with
    | some b' => b'
    | none =>
      if b.pageMode p ≠ 3 then b
      else if differ then b.mismatch n
      else
        let k := (vget b.cx.pages p).key
        (b.bump (CXp_CNT_UNITS p) 1).emit (.cipher p (xts false k new (xts true k old data)) [])

/-- A mismatch on a record: retried on another pair up to twice, then an error-log entry without a command
(R398). -/
def Block.recordMismatch (b : Block) (n : Fin 4) : Block :=
  let b := b.mismatch n
  if b.cx.retries < 2 then b.modCx fun c => { c with retries := c.retries + 1 }
  else
    let (i, b) := b.elogAdd [(22, 1, 0x41), (23, 1, 0x31), (25, 1, 1)] []
    (b.async 14 0 i).modCx fun c => { c with retries := 0 }

/-- GCM_SEAL (R322, R396): the body is encrypted when ENCB is 1, else authenticated only. -/
def execGcmSeal (p : Fin 16) (n : Fin 4) (iv header body : List Byte) (encb differ : Bool) (s : State) :
    Host.Outcome State Fault Refusal :=
  s.upd fun b =>
    match b.cxBlocked p n .other with
    | some b' => b'
    | none =>
      if b.pageMode p ≠ 4 then b
      else if differ then b.recordMismatch n
      else
        let (c, tag) := gcm (vget b.cx.pages p).key iv (if encb then header else header ++ body)
          (if encb then body else []) false
        let b := b.modCx fun c => { c with retries := 0 }
        (b.bump (CXp_CNT_UNITS p) 1).emit (.cipher p (if encb then c else body) tag)

/-- GCM_OPEN (R322, R396): the tag is checked first; no plaintext leaves a record whose tag fails. -/
def execGcmOpen (p : Fin 16) (n : Fin 4) (iv header body tag : List Byte) (encb differ : Bool) (s : State) :
    Host.Outcome State Fault Refusal :=
  s.upd fun b =>
    match b.cxBlocked p n .other with
    | some b' => b'
    | none =>
      if b.pageMode p ≠ 5 then b
      else if differ then b.recordMismatch n
      else
        let (c, t) := gcm (vget b.cx.pages p).key iv (if encb then header else header ++ body)
          (if encb then body else []) true
        let b := (b.modCx fun c => { c with retries := 0 }).bump (CXp_CNT_UNITS p) 1
        if t = tag then b.emit (.cipher p (if encb then c else body) [])
        else (b.setBit (CXp_STAT_TAGFAIL p) true).raise 1405

/-- PAIR_KAT (R399, CX_CTL.KAT): the known-answer tests of a pair end. -/
def execPairKat (n : Fin 4) (pass : Bool) (s : State) : Host.Outcome State Fault Refusal :=
  s.upd fun b =>
    if !b.cx.testing.contains n.val then b
    else
      let b := b.modCx fun c => { c with testing := c.testing.filter (· ≠ n.val) }
      if pass then (b.putBit CX_STAT_PAIRS n true).putBit CX_PAIR_DIS n false
      else
        let b := ((b.putBit CX_STAT_PAIRS n false).putBit CX_PAIR_DIS n true).raise 1406
        b.raise 1401

/-- Writing 1 to a DIS bit starts the test that the pair must pass (R399). -/
def Block.pairRestore (b : Block) (n : Fin 4) : Block :=
  if b.onBit CX_PAIR_DIS n then b.modCx fun c => { c with testing := insertSrc n c.testing } else b

/-- PAIR_RESTORE: the DIS bit is written 1, and the test that follows passes or fails. -/
def execPairRestore (n : Fin 4) (pass : Bool) (s : State) : Host.Outcome State Fault Refusal :=
  s.upd fun b =>
    if !b.onBit CX_PAIR_DIS n then b
    else if pass then (b.putBit CX_PAIR_DIS n false).putBit CX_STAT_PAIRS n true
    else b.raise 1406

/-- CX_CTL.KAT = 1: the tests run on every pair in service. -/
def Block.katAll (b : Block) : Block :=
  (List.range 4).foldl (fun b n =>
    if b.onBit CX_STAT_PAIRS n then b.modCx fun c => { c with testing := insertSrc n c.testing } else b) b

/-! ### The key store (R402 to R404) -/

/-- An alarm is latched (R406). -/
def Block.alarmed (b : Block) : Bool := b.fld CX_ALARM_TEMP + b.fld CX_ALARM_CLK + b.fld CX_ALARM_VOLT + b.fld CX_ALARM_TAMPER ≠ 0

/-- The blob registers, and their clearing at the end of every operation. -/
def Block.blob (b : Block) : List Byte := ((List.range 18).map fun k => leBytes 4 (b.rd (CX_KS_BLOB_k k)).toNat).flatten

def Block.clearBlob (b : Block) : Block := (List.range 18).foldl (fun b k => b.wr (CX_KS_BLOB_k k) 0) b

/-- The result of a store operation. -/
def Block.ksResult (b : Block) (r : Nat) : Block := (b.setFld CX_KS_STAT_RESULT r).clearBlob

/-- INSTALL of a blob into a slot (R403, R404). -/
def Block.install (b : Block) (slot : Nat) (gcmKey : Bool) (blob : List Byte) : Block :=
  if b.alarmed then b.ksResult 4
  else if (b.slot slot).kind ≠ 0 then b.ksResult 1
  else
    let good := if blob.length = (if gcmKey then 40 else 72) then unwrapKey Config.deviceKey.toList blob else none
    match good with
    | none => (b.ksResult 2).raise 1404
    | some k =>
      let kcv := keyCheck k
      let b := b.setSlot slot ⟨if gcmKey then 2 else 1, k⟩
      let b := (b.setFld CX_KS_KCV_LO_KCV (leVal (kcv.take 4))).setFld CX_KS_KCV_HI_KCV (leVal (kcv.drop 4))
      (b.ksResult 0).raise 1403

/-- ERASE of a slot. -/
def Block.ksErase (b : Block) (slot : Nat) : Block :=
  if b.alarmed then b.ksResult 4 else (b.setSlot slot CxKey.none).ksResult 0

/-- ERASE_ALL. -/
def Block.ksEraseAll (b : Block) : Block :=
  if b.alarmed then b.ksResult 4
  else (b.modCx fun c => { c with slots := Vector.replicate 64 CxKey.none }).ksResult 0

/-- GO of CX_KS_CMD with the OP, SLOT, KTYPE and blob in the registers (R404); OP 0 and 4 to 7 do nothing. -/
def Block.ksGo (b : Block) : Block :=
  let slot := b.fld CX_KS_CMD_SLOT
  let g := b.on CX_KS_CMD_KTYPE
  let op := b.fld CX_KS_CMD_OP
  if op = 1 then b.install slot g (b.blob.take (if g then 40 else 72))
  else if op = 2 then b.ksErase slot
  else if op = 3 then b.ksEraseAll
  else b

/-- INSTALL. -/
def execInstall (slot : Fin 64) (gcmKey : Bool) (blob : List Byte) (s : State) : Host.Outcome State Fault Refusal :=
  s.upd fun b =>
    ((b.setFld CX_KS_CMD_OP 1).setFld CX_KS_CMD_SLOT slot.val |>.setBit CX_KS_CMD_KTYPE gcmKey).install slot gcmKey blob

/-- ERASE. -/
def execErase (slot : Fin 64) (s : State) : Host.Outcome State Fault Refusal :=
  s.upd fun b => ((b.setFld CX_KS_CMD_OP 2).setFld CX_KS_CMD_SLOT slot.val).ksErase slot

/-- ERASE_ALL. -/
def execEraseAll (s : State) : Host.Outcome State Fault Refusal := s.upd fun b => (b.setFld CX_KS_CMD_OP 3).ksEraseAll

/-! ### Alarms (R405, R406) -/

/-- Commands that hold or need an encrypted namespace end with KEY_ABSENT where their data was in CX. -/
def Block.keysGone (b : Block) : Block :=
  b.hq.cmds.foldl (fun b c =>
    let enc := if c.nsid = 1 then b.store.vol.encClip else b.store.vol.encBlock
    if c.started && c.fin.isNone && enc && (c.opc = 0x20 || c.opc = 0x21 || c.opc = 0x31 || c.opc = 0x33) then
      b.finish c.tag (Finish.of 0x40 0 0)
    else b) b

/-- The erasure (R406). -/
def Block.keyAlarm (b : Block) (a : KeyAlarm) : Block :=
  let b := match a with
    | .tamper => b.setBit CX_ALARM_TAMPER true
    | .voltage => b.setBit CX_ALARM_VOLT true
    | .clock => b.setBit CX_ALARM_CLK true
    | .temperature => b.setBit CX_ALARM_TEMP true
  let b := b.modCx fun c => { c with slots := Vector.replicate 64 CxKey.none, conds := insertSrc a.code c.conds }
  let b := (List.range 16).foldl (fun b p => b.clearPage (Fin.ofNat 16 p) true) b
  let b := ((b.setBit CX_STAT_ERASED true).bump CX_CNT_ERASE 1).raise 1402
  let b := b.modVol fun v => { v with binds := [] }
  (b.keysGone).async 11 a.code 0

/-- KEY_ALARM: an alarm is detected, or its condition goes away. -/
def execKeyAlarm (a : KeyAlarm) (present : Bool) (s : State) : Host.Outcome State Fault Refusal :=
  s.upd fun b =>
    if present then b.keyAlarm a
    else b.modCx fun c => { c with conds := c.conds.filter (· ≠ a.code) }

end Sys2Proof.Machine
end

