-- ==== Sys2Proof/Machine/Admin.lean ====
section
/-!
DEFINITION. The admin commands of 11_command_set.md (R288 to R307), but for those of the volume, of the
mirror and of standby.
-/

namespace Sys2Proof.Machine

/-- Act for the started command `tag` of opcode `o` that has not ended yet. -/
def Block.actOn (b : Block) (tag o : Nat) (f : Block → Cmd → Block) : Block :=
  match b.cmd tag with
  | some c => if c.started && c.fin.isNone && c.opc = o then f b c else b
  | none => b

/-- The command ends with SUCCESS and RES. -/
def Block.succeed (b : Block) (c : Cmd) (res : Nat) : Block := b.finish c.tag (Finish.of 0 0 res)

/-- The command ends with a status and a DETAIL. -/
def Block.failWith (b : Block) (c : Cmd) (status detail : Nat) : Block := b.finish c.tag (Finish.of status detail 0)

/-- Data for the host, cut or zero-filled to the command's DLEN. -/
def Block.sendData (b : Block) (c : Cmd) (bytes : List Byte) : Block :=
  b.emit (.hostData c.tag (bytes.take c.dlen ++ List.replicate (c.dlen - bytes.length) 0))

/-- A byte string as a field value. -/
def strVal (l : List Byte) : Nat := leVal l

/-- Six ASCII letters of MODEL, space-padded to 40 (R288). -/
def modelBytes (p : Part) : List Byte :=
  let name : List Byte := match p with
    | .pl6416 => [0x50, 0x4C, 0x36, 0x34, 0x31, 0x36]
    | .pl3216 => [0x50, 0x4C, 0x33, 0x32, 0x31, 0x36]
  name ++ List.replicate 34 0x20

/-- Units present as a bit mask. -/
def maskOf (n : Nat) (p : Nat → Bool) : Nat := ((List.range n).filter p).foldl (fun m i => m + 2 ^ i) 0

/-- The running firmware's slot. -/
def Block.fwNow (b : Block) : FwSlot := vget b.hq.fw (Fin.ofNat 2 (b.hq.fwActive - 1))

/-- Surfaces of the part. -/
def surfCount (p : Part) : Nat := match p with | .pl6416 => 4 | .pl3216 => 2

/-! ### IDENTIFY (R288) -/

/-- CNS 0. -/
def Block.idModule (b : Block) : List Byte :=
  let p := b.part
  let nk := (List.range 24).map fun k => (144 + k, 1, slotsOf k)
  let rates := (List.range 24).map fun k => (168 + 4 * k, 4, slotsOf k * b.slotRate * surfCount p / 1000000)
  packBytes 4096
    ([(0, 2, 0x1F3C), (2, 2, match p with | .pl6416 => 0x6416 | .pl3216 => 0x3216),
      (4, 20, strVal Config.serial.toList), (24, 40, strVal (modelBytes p)), (64, 8, strVal b.fwNow.rev),
      (72, 1, maskOf 4 p.hasSurf), (73, 1, 16 * surfCount p), (74, 1, maskOf 2 p.hasSpin), (76, 2, maskOf 9 p.hasAxis),
      (78, 1, 64), (79, 1, 16), (80, 2, 128), (82, 2, 4096), (84, 2, 4096), (86, 2, 1024), (88, 4, 524288),
      (92, 4, 2097152), (96, 4, 268435456), (100, 4, 65535), (104, 1, 238), (105, 1, 16),
      (108, 2, b.fld PW_HOLDUP_CAP), (110, 2, b.fld PW_HOLDUP_ALLOW), (112, 4, b.ceiling / 1000000),
      (116, 4, 1250000), (120, 4, 3600000), (124, 1, b.fld PW_STAT_RMODE), (125, 1, b.hq.fwActive)] ++ nk ++ rates)

/-- Payload bytes of the chunks chosen. -/
def Block.bytesOf (b : Block) (p : Chunk → Bool) : Nat := ((b.volChunks.filter p).map (·.vlen)).foldl (· + ·) 0

/-- User capacity of the loaded volume in bytes, less the block space and its spare (R299, R324). -/
def Block.userCapacity (b : Block) : Nat :=
  let perSurf := (List.range 144).foldl (fun n k =>
    n + 13 * bandSlots k * (endSwath k - firstSwath k)) 0
  8192 * (perSurf * surfCount b.part) -
    8192 * (b.store.vol.blku * 32768 + b.store.vol.bspare * b.store.vol.blku * 32768 / 100)

/-- CNS 1 to 4; 3 and 4 read zero with no volume. -/
def Block.idPage (b : Block) (cns : Nat) : List Byte :=
  let v := b.store.vol
  let loaded : Bool := v.vstate ≠ 0
  if cns = 0 then b.idModule
  else if cns = 1 then
    packBytes 4096 [(0, 2, v.clips.length), (2, 2, (v.clips.filter fun c => c.state = 1).length),
      (4, 1, v.encClip.toNat + 2 * v.auth.toNat), (5, 1, v.curClip), (8, 8, b.bytesOf fun c => c.ns = 1)]
  else if cns = 2 then
    packBytes 4096 [(0, 4, v.blku * 65536), (4, 4, v.bspare * v.blku * 32768 / 100), (8, 4, v.spareLeft),
      (12, 1, v.encBlock.toNat), (13, 1, v.curBlock)]
  else if !loaded then packBytes 4096 []
  else if cns = 3 then
    packBytes 4096 [(0, 16, strVal v.magid), (16, 1, v.vstate), (17, 1, v.discs),
      (18, 1, maskOf 4 fun s => b.surfState s = 1), (19, 1, v.auth.toNat), (24, 8, b.userCapacity),
      (32, 8, b.bytesOf fun _ => true), (40, 64, strVal v.label)]
  else
    packBytes 4096 (((List.range 4).map fun s =>
      let w := vget b.wp (Fin.ofNat 4 s)
      if !b.part.hasSurf s then []
      else
        [(64 * s, 1, b.surfState s), (64 * s + 1, 1, (b.failedBeams (Fin.ofNat 4 s)).length), (64 * s + 2, 2, w.band),
         (64 * s + 4, 2, (v.fullBands.filter fun k => bandSurf k = s).length), (64 * s + 6, 2, w.spent.length),
         (64 * s + 8, 4, valAt (vget b.se (Fin.ofNat 4 s)).idMem 8 4)]).flatten)

/-- IDENTIFY. -/
def execIdentify (tag : Nat) (s : State) : Host.Outcome State Fault Refusal :=
  s.upd fun b => b.actOn tag 0x01 fun b c => (b.sendData c (b.idPage (c.bits 10 7 0))).succeed c 0

/-! ### Queues (R254, R271, R275, R289) -/

/-- QUEUE_CREATE. -/
def execQueueCreate (tag : Nat) (s : State) : Host.Outcome State Fault Refusal :=
  s.upd fun b => b.actOn tag 0x02 fun b c =>
    let q := c.bits 13 6 0
    let sqs := c.bits 12 11 0
    let cqs := c.bits 12 27 16
    if b.pairOn q || q = 0 || sqs = 0 || cqs = 0 || c.bits 8 11 0 ≠ 0 || c.bits 10 11 0 ≠ 0 || 4 < c.bits 13 18 16 then
      b.failWith c 0x02 0x10
    else (b.makePair q sqs cqs (c.bits 13 14 8) (c.bits 13 18 16)).succeed c 0

/-- QUEUE_DELETE: taken once, it stops the fetching and aborts what has not started; sent again, it looks
whether the last started command has ended. -/
def execQueueDelete (tag : Nat) (s : State) : Host.Outcome State Fault Refusal :=
  s.upd fun b => b.actOn tag 0x03 fun b c =>
    let q := c.bits 10 6 0
    if b.hq.deleting.any (·.2 = tag) then b.deleteDone
    else if q = 0 || !b.pairOn q then b.failWith c 0x02 0x10
    else
      let b := b.modHq fun h => { h with deleting := h.deleting ++ [(q, tag)] }
      (b.postAll (b.hq.cmds.filter fun x => x.pair = q && !x.started) 0x30).deleteDone

/-- QUEUE_RESUME (R271). -/
def execQueueResume (tag : Nat) (s : State) : Host.Outcome State Fault Refusal :=
  s.upd fun b => b.actOn tag 0x04 fun b c =>
    let q := c.bits 10 6 0
    if q = 0 || !b.pairOn q then b.failWith c 0x02 0x10
    else (b.putBit (HQ_FROZEN_k_FROZEN (q / 32)) (q % 32) false).succeed c 0

/-- ABORT (R274, R303): a fetched command that has not started completes with ABORTED first; ASYNC EVENTs and
ABORTs are never aborted. -/
def execAbort (tag : Nat) (s : State) : Host.Outcome State Fault Refusal :=
  s.upd fun b => b.actOn tag 0x0E fun b c =>
    let q := c.bits 10 6 0
    if !b.pairOn q then b.failWith c 0x02 0x10
    else
      match b.hq.cmds.find? fun x => x.pair = q && x.cid = c.bits 10 31 16 with
      | some x =>
        if x.started || x.opc = 0x0E || x.opc = 0x10 then b.failWith c 0x31 0
        else (b.postOne x (Finish.of 0x30 0 0)).succeed c 0
      | none => b.failWith c 0x31 0

/-! ### LOG READ (R290, R291) -/

/-- Signed value as `n` bytes. -/
def signedField (off n : Nat) (v : Int) : Nat × Nat × Nat := (off, n, natOf (8 * n) v)

/-- Magazines whose data Peat holds. -/
def Block.stagedMags (b : Block) : List (List Byte) :=
  (b.store.chunks.filter (·.staged)).foldl (fun t c => if t.contains c.mag then t else t ++ [c.mag]) []

/-- Bits set of the low `n`. -/
def bitCount (n v : Nat) : Nat := ((List.range n).filter fun i => v.testBit i).length

/-- A band's entry of the band map. -/
def Block.bandEntry (b : Block) (k : Nat) : List Byte :=
  let s := Fin.ofNat 4 (bandSurf k)
  let w := vget b.wp s
  let sw := if w.band = k && !w.spent.contains k then w.swath - firstSwath k else w.swaths.get k 0
  let ptr := w.relocPtr k
  let used := (ptr / 128 - 360) * bandSlots k + ptr % 128
  -- swath 368 belongs to the spare where no test has used it (R77)
  let spare := if (vget b.cal.surf s).testUsed.get k 0 = 0 then 9 else 8
  packBytes 8 [(0, 2, k), (2, 1, b.bandState k), (3, 1, bitCount 16 (w.bandFail.get k 0)), (4, 2, sw),
    (6, 1, 16 * used / (spare * bandSlots k)), (7, 1, min 255 (w.voids.filter fun x => x.band = k).length)]

/-- The page LID; none where it does not exist (R291). -/
def Block.logPage (b : Block) (lid key : Nat) : Option (List Byte) :=
  let h := b.hq
  if lid = 1 then
    some ((List.range 256).map fun i => h.elog.get i [] ++ List.replicate (64 - (h.elog.get i []).length) 0).flatten
  else if lid = 2 then
    some (packBytes 512 [signedField 0 2 h.dieTemp, signedField 2 2 (b.sfld PT_TEMP_TEMP), (4, 1, b.fld PT_HEALTH_HEALTH),
      (5, 1, h.belowFloor.toNat + 2 * b.fld PT_STAT_HOT + 4 * b.fld PW_STAT_RMODE), (8, 8, b.stagedBytes),
      (16, 8, b.peatFree), (24, 4, b.fld DR_CE_CNT_COUNT), (28, 2, b.fld PW_HOLDUP_MEAS_CAPF),
      (32, 8, b.now / 400000), (40, 8, h.rmodeTicks / 400000), (48, 4, h.dumps), (52, 4, h.spinFaults),
      (56, 4, h.rotorLosses), (60, 4, h.safeStates)])
  else if lid = 3 then
    some (packBytes 512 [(0, 8, strVal (vget h.fw 0).rev), (8, 8, strVal (vget h.fw 1).rev), (16, 1, h.fwActive),
      (17, 1, h.fwNext), (18, 4, b.fld LE_PATCH_STAT_PVER)])
  else if lid = 4 then
    some ((List.range (surfCount b.part * 144)).map fun i => b.bandEntry (256 * (i / 144) + i % 144)).flatten
  else if lid = 5 then
    (h.lists.find? fun e => e.1 % 2 ^ 32 = key).map fun e =>
      let n := e.2.length
      packBytes 16 [(0, 8, e.1), (8, 4, min n 4096 + (if 4096 < n then 2 ^ 31 else 0))] ++
        ((e.2.take 4096).map fun x => packBytes 16 [(0, 4, x.1), (4, 4, x.2.1), (8, 4, x.2.2)]).flatten
  else if lid = 6 then
    some (packBytes 256 (((h.results.take 8).zipIdx.map fun r =>
      [(32 * r.2, 8, r.1.stamp), (32 * r.2 + 8, 1, r.1.test), (32 * r.2 + 9, 1, r.1.result), (32 * r.2 + 10, 1, r.1.item),
       (32 * r.2 + 11, 1, r.1.inst)]).flatten))
  else if lid = 7 then
    some (packBytes 1024 (((List.range 64).map fun i =>
      let k := b.slot i
      let gen := (b.store.vol.binds.find? fun x => x.2.2 = i).elim 0 (·.2.1)
      if k.kind = 0 then [] else [(16 * i, 1, k.kind), (16 * i + 1, 1, gen), (16 * i + 8, 8, strVal (keyCheck k.key))]).flatten))
  else if lid = 8 then
    some ((b.stagedMags.map fun m =>
      let cs := b.store.chunks.filter fun c => c.mag = m && c.staged
      packBytes 32 [(0, 16, strVal m), (16, 8, 8192 * cs.length), (24, 8, (cs.map (·.ts)).foldl min ((cs.map (·.ts)).headD 0))]).flatten)
  else none

/-- LOG_READ. -/
def execLogRead (tag : Nat) (s : State) : Host.Outcome State Fault Refusal :=
  s.upd fun b => b.actOn tag 0x05 fun b c =>
    match b.logPage (c.bits 10 7 0) (dwOf c.dws 12) with
    | none => b.failWith c 0x03 0
    | some page =>
      if page.length ≤ dwOf c.dws 11 then b.failWith c 0x03 0
      else (b.sendData c (page.drop (dwOf c.dws 11))).succeed c page.length

/-! ### Features (R292 to R294) -/

/-- The allowance in force: the smaller of the value asked and the cap (R450). -/
def Block.setAllow (b : Block) : Block := b.keepCover.setFld PW_HOLDUP_ALLOW (min b.hq.allow (b.fld PW_HOLDUP_CAP))

/-- The check value of the key in a slot; empty for an empty slot. -/
def Block.slotCheck (b : Block) (slot : Nat) : List Byte :=
  let k := b.slot slot
  if k.kind = 0 then [] else keyCheck k.key

/-- Key binding (R294). With NEW = 1 a partner refuses it, and a primary that mirrors needs an equal check value in
a slot of the partner (16_mirror_pair.md R415, R420). -/
def Block.bindKey (b : Block) (c : Cmd) (peer : Bool) : Block :=
  let d := c.dws
  let gen := dwBits d 11 7 0
  let slot := dwBits d 11 13 8
  let isNew := dwBits d 11 16 16 = 1
  let ns := dwBits d 11 17 17 + 1
  let v := b.store.vol
  let enc := if ns = 1 then v.encClip || v.auth else v.encBlock
  let cur := if ns = 1 then v.curClip else v.curBlock
  if v.vstate ≠ 3 then b.failWith c 0x20 0
  else if isNew && b.isPartner then b.failWith c 0x21 0
  else if !enc then b.failWith c 0x02 0x10
  else
    let done := fun (b : Block) =>
      (b.modVol fun v => { v with binds := v.binds.filter (fun x => !(x.1 = ns && x.2.1 = gen)) ++ [(ns, gen, slot)] })
    if isNew then
      if gen ≠ cur + 1 || (b.slot slot).kind ≠ 1 then b.failWith c 0x02 0x10
      else if b.mirroring && !peer then b.failWith c 0x40 0
      else
        let kcv := b.slotCheck slot
        let b := (done b).modVol fun v =>
          { v with gens := v.gens ++ [(ns, gen, kcv)]
                   curClip := if ns = 1 then gen else v.curClip
                   curBlock := if ns = 2 then gen else v.curBlock }
        (b.journalBoth 2 (packBytes 16 [(0, 1, ns), (1, 1, gen), (8, 8, strVal kcv)])).succeed c 0
    else
      let want := if ns = 1 && gen = 0 then some v.catCheck
        else (v.gens.find? fun x => x.1 = ns && x.2.1 = gen).map (·.2.2)
      match want with
      | none => b.failWith c 0x02 0x10
      | some k => if (b.slot slot).kind ≠ 0 && b.slotCheck slot = k then (done b).succeed c 0 else b.failWith c 0x02 0x0B

/-- Signed 16-bit value. -/
def signed16 (n : Nat) : Int := if n < 32768 then n else (n : Int) - 65536

/-- FEATURE_SET; `peer` tells whether the partner holds the key that a binding with NEW = 1 names. -/
def execFeatureSet (tag : Nat) (peer : Bool) (s : State) : Host.Outcome State Fault Refusal :=
  s.upd fun b => b.actOn tag 0x06 fun b c =>
    let fid := c.bits 10 7 0
    let d := c.dws
    let v := dwOf d 11
    let bad := b.failWith c 0x02 0x10
    if fid = 1 then
      if v < 64 || 1024 < v || v % 64 ≠ 0 then bad
      else ((b.modHq fun h => { h with allow := min v (b.fld PW_HOLDUP_CAP) }).setAllow).succeed c 0
    else if fid = 2 then
      if 1 < v then bad
      else if v = 1 && b.on PT_STAT_HOT then b.failWith c 0x02 0x0F
      else (b.modHq fun h => { h with dense := v = 1 }).succeed c 0
    else if fid = 3 then
      if v &&& 0xFFFCC000 ≠ 0 then bad else (b.modHq fun h => { h with keySet := v }).bindKey c peer
    else if fid = 4 then
      if 65535 < v then bad else (b.modHq fun h => { h with asyncMask := v }).succeed c 0
    else if fid = 5 then
      (b.modHq fun h => { h with warnDie := signed16 (v % 65536), warnPeat := signed16 (v / 65536) }).succeed c 0
    else if fid = 6 then
      if 65535 < v then bad else (b.modHq fun h => { h with floor := v }).succeed c 0
    else if fid = 7 then
      let w := dwOf d 12
      if 127 < v || 0xFFFFFF < w then bad
      else
        let b := (b.setFld (IC_MOD_v_HOLDOFF v) (w % 65536)).setFld (IC_MOD_v_COUNT v) (w / 65536)
        (b.modHq fun h => { h with modSet := v }).succeed c 0
    else if fid = 8 then
      if 65535 < v then bad else (b.modHq fun h => { h with idle := v }).succeed c 0
    else bad

/-- FEATURE_GET. -/
def execFeatureGet (tag : Nat) (s : State) : Host.Outcome State Fault Refusal :=
  s.upd fun b => b.actOn tag 0x07 fun b c =>
    let fid := c.bits 10 7 0
    let h := b.hq
    if fid = 1 then b.succeed c (b.fld PW_HOLDUP_ALLOW + 65536 * b.fld PW_HOLDUP_CAP)
    else if fid = 2 then b.succeed c h.dense.toNat
    else if fid = 3 then b.succeed c h.keySet
    else if fid = 4 then b.succeed c h.asyncMask
    else if fid = 5 then b.succeed c (natOf 16 h.warnDie + 65536 * natOf 16 h.warnPeat)
    else if fid = 6 then b.succeed c h.floor
    else if fid = 7 then b.succeed c h.modSet
    else if fid = 8 then b.succeed c h.idle
    else b.failWith c 0x02 0x10

/-! ### Keys and firmware (R300 to R302) -/

/-- The slot is bound on the loaded volume (R294). -/
def Block.slotBound (b : Block) (slot : Nat) : Bool := b.store.vol.binds.any fun x => x.2.2 = slot

/-- KEY_INSTALL, with the blob that the host's buffer holds. -/
def execKeyInstall (tag : Nat) (blob : List Byte) (s : State) : Host.Outcome State Fault Refusal :=
  s.upd fun b => b.actOn tag 0x0B fun b c =>
    let slot := c.bits 10 5 0
    if b.slotBound slot then b.failWith c 0x21 0
    else if c.bits 10 8 8 = 1 then
      let b := b.ksErase slot
      if b.fld CX_KS_STAT_RESULT = 4 then b.failWith c 0x7F 0x7F else b.succeed c 0
    else if (b.slot slot).kind ≠ 0 then b.failWith c 0x02 0x10
    else
      let b := b.install slot (c.bits 10 12 12 = 1) (blob.take c.dlen)
      let r := b.fld CX_KS_STAT_RESULT
      if r = 0 then b.succeed c (b.fld CX_KS_KCV_LO_KCV)
      else if r = 4 then b.failWith c 0x7F 0x7F
      else b.failWith c 0x02 0x0C

/-- The staging area: 24 MiB (R301). -/
def fwStageSize : Nat := 0x1800000

/-- FIRMWARE_STAGE, with the bytes that the host's buffer holds. -/
def execFirmwareStage (tag : Nat) (data : List Byte) (s : State) : Host.Outcome State Fault Refusal :=
  s.upd fun b => b.actOn tag 0x0C fun b c =>
    let off := dwOf c.dws 10 * 4096
    if fwStageSize < off + c.dlen then b.failWith c 0x03 0
    else
      let b := if off = 0 then b.modHq fun h => { h with stage := [], stageLen := 0 } else b
      let bytes := data.take c.dlen
      (b.modHq fun h =>
        { h with stage := (bytes.zipIdx.foldl (fun (m : SMap Byte) x => m.set (off + x.2) x.1 0) h.stage)
                 stageLen := max h.stageLen (off + bytes.length) }).succeed c 0

/-- The staged image (R301): DETAIL of what is wrong with it, or the slot it makes. -/
def Block.stagedImage (b : Block) : Except Nat FwSlot :=
  let at_ := fun i => b.hq.stage.get i 0
  let n := (List.range 4).foldl (fun v i => v + (at_ (16 + i)).toNat * 256 ^ i) 0
  if (List.range 4).map at_ ≠ [0x50, 0x4C, 0x46, 0x57] then .error 0x0E
  else if n < 116 || b.hq.stageLen < n then .error 0x0E
  else
    let img := (List.range n).map at_
    if Config.fwSigOk img then .ok ⟨(img.drop 8).take 8, img⟩ else .error 0x0D

/-- Activation now is refused while a clip is open or a write-class command is outstanding (R302). -/
def Block.fwBusy (b : Block) : Bool :=
  (b.store.vol.clips.any fun x => x.state = 1) || b.hq.cmds.any Cmd.writeClass

/-- Activation now (R302): RES [0] = 1, and once the completion is posted a controller reset while the cores
restart. -/
def Block.fwActivate (b : Block) (c : Cmd) (slot : Nat) : Block :=
  (b.modHq fun h => { h with fwActive := slot, restarting := true }).succeed c 1

/-- FIRMWARE_COMMIT (R302): a bad image or an empty slot first, then a refused activation, both with the slot
unchanged (R285). -/
def execFirmwareCommit (tag : Nat) (s : State) : Host.Outcome State Fault Refusal :=
  s.upd fun b => b.actOn tag 0x0D fun b c =>
    let slot := c.bits 10 1 0
    let act := c.bits 10 4 2
    let i := Fin.ofNat 2 (slot - 1)
    let mark := fun (b : Block) => (b.modHq fun h => { h with fwNext := slot }).succeed c 0
    if act = 2 ∨ act = 4 then
      if (vget b.hq.fw i).image.isEmpty then b.failWith c 0x02 0x0E
      else if act = 2 then mark b
      else if b.fwBusy then b.failWith c 0x21 0
      else b.fwActivate c slot
    else
      match b.stagedImage with
      | .error d => b.failWith c 0x02 d
      | .ok f =>
        if act = 3 && b.fwBusy then b.failWith c 0x21 0
        else
          let b := b.modHq fun h => { h with fw := vset h.fw i f }
          if act = 0 then b.succeed c 0 else if act = 1 then mark b else b.fwActivate c slot

/-! ### Events, telemetry, tests (R305 to R307) -/

/-- The oldest queued event, or the count of events dropped, goes to an ASYNC EVENT. -/
def Block.takeEvent (b : Block) (tag : Nat) : Block :=
  if b.hq.dropped ≠ 0 then
    (b.finish tag (Finish.of 0 0 (asyncRes 15 0 b.hq.dropped))).modHq fun h => { h with dropped := 0 }
  else
    match b.hq.events with
    | (t, i, d) :: rest => (b.finish tag (Finish.of 0 0 (asyncRes t i d))).modHq fun h => { h with events := rest }
    | [] => b.modHq fun h => { h with async := h.async ++ [tag] }

/-- ASYNC_EVENT: the command takes a waiting event, or stays outstanding. -/
def execAsyncEvent (tag : Nat) (s : State) : Host.Outcome State Fault Refusal :=
  s.upd fun b => b.actOn tag 0x10 fun b _ => if b.hq.async.contains tag then b else b.takeEvent tag

/-- ASYNC_EVENT_REPORT: an event of the table of R305. -/
def execAsyncEventReport (t : Fin 17) (info : BitVec 8) (data : BitVec 16) (s : State) :
    Host.Outcome State Fault Refusal :=
  s.upd fun b => if t.val = 0 then b else b.async t.val info.toNat data.toNat

/-- Records of a set stamped at or after a time, oldest first. -/
def Block.telRecords (b : Block) (set from_ : Nat) : List (Nat × List Byte) :=
  let rings := b.cal.rings.filter fun e => e.1 / 64 = set
  let recs := (rings.map fun e => e.2.recs.map fun r => (r.2.1, r.2.2)).flatten.filter fun r => from_ ≤ r.1
  -- by tick-stamp
  recs.foldl (fun acc r => acc.takeWhile (fun x => x.1 ≤ r.1) ++ [r] ++ acc.dropWhile (fun x => x.1 ≤ r.1)) []

/-- TELEMETRY_READ (R306). -/
def execTelemetryRead (tag : Nat) (s : State) : Host.Outcome State Fault Refusal :=
  s.upd fun b => b.actOn tag 0x11 fun b c =>
    let set := c.bits 10 7 0
    if set = 0 || 5 < set then b.failWith c 0x02 0x10
    else
      let recs := (b.telRecords set (dwOf c.dws 11 + dwOf c.dws 12 * 2 ^ 32)).take (c.dlen / 64)
      let b := b.sendData c (recs.map (·.2)).flatten
      -- every record returned counts as read (R480)
      let seqOf := fun (bytes : List Byte) => valAt bytes 4 4
      let b := recs.foldl (fun b r => b.modCal fun k =>
        let key := telKey set (byteAt r.2 1)
        let ring := k.rings.get key TelRing.empty
        { k with rings := k.rings.set key { ring with unread := max ring.unread (seqOf r.2 + 1) } TelRing.empty }) b
      b.succeed c recs.length

/-- A self test ends with a result (R290, R307). -/
def Block.testEnd (b : Block) (result item inst : Nat) : Block :=
  match b.hq.test with
  | none => b
  | some (tag, t) =>
    let b := b.modHq fun h =>
      { h with test := none
               results := (⟨b.stamp.toNat, t, result, item, inst⟩ :: h.results).take 8 }
    b.finish tag (Finish.of (if result = 2 then 0x30 else 0) 0 (result + 256 * item + 65536 * inst))

/-- SELF_TEST: it begins, or ends with what it found (pass, failing item, failing unit instance). -/
def execSelfTest (tag : Nat) (found : Option (Bool × BitVec 8 × BitVec 8)) (s : State) :
    Host.Outcome State Fault Refusal :=
  s.upd fun b => b.actOn tag 0x12 fun b c =>
    let t := c.bits 10 3 0
    if t = 15 then b
    else
      match b.hq.test with
      | some (tag', _) =>
        if tag' ≠ tag then b.failWith c 0x02 0x10
        else
          match found with
          | some (pass, item, inst) => b.testEnd (if pass then 0 else 1) item.toNat inst.toNat
          | none => b
      | none =>
        if t = 2 && (b.store.vol.clips.any fun x => x.state = 1) then b.failWith c 0x21 0
        else b.modHq fun h => { h with test := some (tag, t) }

/-- SELF_TEST_STOP: TEST 15. -/
def execSelfTestStop (tag : Nat) (s : State) : Host.Outcome State Fault Refusal :=
  s.upd fun b => b.actOn tag 0x12 fun b c =>
    if c.bits 10 3 0 ≠ 15 then b else (b.testEnd 2 0 0).succeed c 0

end Sys2Proof.Machine
end

