-- ==== Sys2Proof/Machine/Servo.lean ====
section
/-!
DEFINITION. The servo commands and the events of the focus and tracking programs (07_servo_programs.md).
A command of SCMD (R184) comes with its fields: the step stands for firmware's write of SCMD and for the
first execution that takes it.
-/

namespace Sys2Proof.Machine

/-- The focus and tracking programs of a surface run: their entries are enabled with valid descriptors, and
the surface is not held by R42. -/
def Block.servoRuns (b : Block) (s : Fin 4) : Bool :=
  b.slotEn s && b.slotEn (4 + s.val) && b.on (LE_PDESC_p_W0_VALID (slotProg (b.slotEff s))) &&
    b.on (LE_PDESC_p_W0_VALID (slotProg (b.slotEff (4 + s.val)))) && !b.ownerHeld s

/-- The SCMD word (R184). -/
def scmdWord (op layer : Nat) (seq : BitVec 8) (arg : BitVec 16) : Word :=
  BitVec.ofNat 32 (arg.toNat * 65536 + seq.toNat * 256 + layer % 8 * 16 + op % 16)

/-- TSTAT.ERR with which a command is rejected, 0 when it is taken (R184, R185); the first that holds in
the order of the codes (DEDUCED, log entry 8). -/
def Block.cmdErr (b : Block) (s : Fin 4) (op layer : Nat) (arg : BitVec 16) : Nat :=
  let t := (vget b.servo s).gidx + arg.toInt
  if 5 < op then 1
  else if 5 < layer then 2
  else if op = 4 ∧ (t < -26 ∨ 8881 < t) then 3
  else if (op = 3 ∨ op = 4) ∧ (vget b.servo s).fmode = 0 then 7
  else 0

/-- FAIL and TSTAT.ERR (R184). -/
def Block.cmdReject (b : Block) (s : Fin 4) (err : Nat) : Block :=
  ((b.setPsw s (b.pswWith s 128 0)).modServo s fun v => { v with err := err }).publish s

/-- Take a command (R184): TAKEN is set and FAIL cleared; a rejected one sets FAIL and ERR; a LAYER or SEEK
in SEARCH or DROPHOLD is held; any other replaces the one in progress and runs. -/
def Block.takeCmd (b : Block) (s : Fin 4) (op layer : Nat) (seq : BitVec 8) (arg : BitVec 16)
    (run : Block → Block) : Block :=
  b.onSurf s fun b =>
    let v := vget b.servo s
    if v.taken = seq.toNat ∨ !b.servoRuns s then b
    else
      let b := b.commitData (exWord s 0) (scmdWord op layer seq arg)
      let b := b.modServo s fun v => { v with taken := seq.toNat, err := 0 }
      let err := b.cmdErr s op layer arg
      if err ≠ 0 then b.cmdReject s err
      else
        let b := b.setPsw s (b.pswWith s 0 128)
        if (op = 3 ∨ op = 4) ∧ (v.fmode = 1 ∨ v.fmode = 4) then
          (b.modServo s fun v =>
            { v with held := some { seek := op = 4, layer := layer, arg := arg.toInt, seq := seq.toNat } }).publish s
        else run (b.modServo s fun v => { v with cur := some (op, seq.toNat), release := false })

/-- The pickup is closed, on the groove and address-locked at an index of a layer (R188, R192, R193). -/
def Block.land (b : Block) (s : Fin 4) (layer : Nat) (idx : Int) : Block :=
  let b := b.modServo s fun v =>
    { v with fmode := 2, layer := layer, tlayer := layer, tmode := 3, gidx := idx, known := true, age := 0
             agree := 0, disagree := 0, mislayer := 0 }
  (b.setPsw s (b.pswWith s (1 + 2 + 4) (16 + 32))).trackCommit s

/-- SA_REQ = SA_TAB[TLAYER] + SA_TRIM (R197). -/
def Block.writeSaReq (b : Block) (s : Fin 4) : Block :=
  let d := 0x380 + 0x10 * s.val
  b.commitData (exWord s 11) (b.dmem (d + (vget b.servo s).tlayer) + b.dmem (d + 6))

/-- Write SLED_REQ: a relative move with the next sequence number (R183, R196). -/
def Block.writeSledReq (b : Block) (s : Fin 4) (move : Int) : Block :=
  let seq := ((b.dmem (exWord s 10)).toNat + 1) % 256
  b.commitData (exWord s 10) (BitVec.ofNat 32 (natOf 24 move * 256 + seq))

/-- Layer jump (R198): MOVING, SA_REQ, focus closes on the new layer within ±6 swaths of the index left.
Which of these indices, and SUM_REF on the new layer, the spec leaves open: free values (log entry 2). -/
def Block.layerJump (b : Block) (s : Fin 4) (layer : Nat) : Block :=
  if layer = (vget b.servo s).layer then b
  else
    let b := b.setPsw s (b.pswWith s 32 8)
    let b := (b.modServo s fun v => { v with fmode := 3, tlayer := layer }).writeSaReq s
    let (n, b) := b.freeVal
    let (m, b) := b.freeVal
    let idx := (vget b.servo s).gidx + ((n % 13 : Nat) : Int) - 6
    (b.modServo s fun v => { v with sumref := BitVec.ofNat 16 m }).land s layer idx

/-- SEEK (R199): a jump where the layer differs, then `arg` swaths from the index at which the command was
taken; more than 16 swaths move the sled by round(ARG × PITCH) (R196). -/
def Block.seek (b : Block) (s : Fin 4) (layer : Nat) (arg : Int) : Block :=
  let c := (vget b.servo s).gidx
  let b := b.layerJump s layer
  let b := b.setPsw s (b.pswWith s 32 8)
  let b := b.modServo s fun v => { v with tmode := 5 }
  let pitch := (b.dmem (0x340 + 0x10 * s.val + 3)).toNat
  let b := if 16 < arg.natAbs then b.writeSledReq s ((arg * pitch + 2 ^ 15) / 2 ^ 16) else b
  b.land s layer (c + arg)

/-- Focus closes on TLAYER at an index with the SUM_REF found: the FOCUS in progress is done, and then the
held command runs (R184, R188). -/
def Block.focusClosed (b : Block) (s : Fin 4) (idx : Int) (sumref : BitVec 16) : Block :=
  let b := b.modServo s fun v => { v with sumref := sumref }
  let b := b.land s (vget b.servo s).tlayer idx
  let b := if b.curOp s 2 then b.cmdDone s else b
  match (vget b.servo s).held with
  | none => b
  | some h =>
    let b := b.modServo s fun v => { v with held := none, cur := some (if h.seek then 4 else 3, h.seq) }
    let t := (vget b.servo s).gidx + h.arg
    let b := if h.seek then (if t < -26 ∨ 8881 < t then b.cmdReject s 3 else (b.seek s h.layer h.arg).cmdDone s)
      else (b.layerJump s h.layer).cmdDone s
    b

/-- CMD_NONE (R184): no effect, done at once. `reserved` stands for a reserved OP 6 to 15, which is
rejected with ERR 1. -/
def execCmdNone (s : Fin 4) (reserved : Option (Fin 10)) (layer : Fin 8) (seq : BitVec 8) (st : State) :
    Host.Outcome State Fault Refusal :=
  st.upd fun b =>
    let op := match reserved with | none => 0 | some r => 6 + r.val
    b.takeCmd s op layer seq 0 fun b => b.cmdDone s

/-- CMD_OFF (R184): focus, tracking and tilt open, their DACs output 0, FOK, TOK and AOK clear. -/
def execCmdOff (s : Fin 4) (layer : Fin 8) (seq : BitVec 8) (st : State) : Host.Outcome State Fault Refusal :=
  st.upd fun b => b.takeCmd s 1 layer seq 0 fun b =>
    let b := b.modServo s fun v => { v with fmode := 0, tmode := 0, held := none }
    let b := (List.range 3).foldl (fun b k => b.setFld (SFs_DAC_OUT_k_CODE s k) 0) b
    let b := b.setPsw s (b.pswWith s 0 (1 + 2 + 4 + 8 + 16 + 32))
    (b.trackCommit s).cmdDone s

/-- CMD_FOCUS (R184, R188): search and pull-in to LAYER, then tracking pull-in and address lock. `found` is
the index and the SUM_REF found; none leaves the search running. The command with the SEQ taken last, while
focus is in SEARCH, reports the end of that search. -/
def execCmdFocus (s : Fin 4) (layer : Fin 8) (seq : BitVec 8) (found : Option (BitVec 14 × BitVec 16))
    (st : State) : Host.Outcome State Fault Refusal :=
  st.upd fun b =>
    let v := vget b.servo s
    let close := fun (b : Block) => match found with
      | none => b
      | some (i, r) => b.focusClosed s i.toInt r
    if v.taken = seq.toNat then
      b.onSurf s fun b => if v.fmode = 1 && b.servoRuns s then close b else b
    else b.takeCmd s 2 layer seq 0 fun b =>
      let b := b.setPsw s (b.pswWith s 16 (1 + 2 + 4 + 8))
      let b := b.modServo s fun v => { v with fmode := 1, tlayer := layer, tmode := 1, sumref := 0 }
      let b := b.setFld (SFs_DAC_OUT_k_CODE s 1) 0
      close ((b.writeSaReq s).trackCommit s)

/-- CMD_LAYER (R184, R198). -/
def execCmdLayer (s : Fin 4) (layer : Fin 8) (seq : BitVec 8) (st : State) : Host.Outcome State Fault Refusal :=
  st.upd fun b => b.takeCmd s 3 layer seq 0 fun b => (b.layerJump s layer).cmdDone s

/-- CMD_SEEK (R184, R199). -/
def execCmdSeek (s : Fin 4) (layer : Fin 8) (arg : BitVec 16) (seq : BitVec 8) (st : State) :
    Host.Outcome State Fault Refusal :=
  st.upd fun b => b.takeCmd s 4 layer seq arg fun b => (b.seek s layer arg.toInt).cmdDone s

/-- CMD_RELEASE (R184, R190, R519): safe hold is left at the first commit with FOK, TOK and AOK all 1; done
once SAFEH is 0. -/
def execCmdRelease (s : Fin 4) (layer : Fin 8) (seq : BitVec 8) (st : State) : Host.Outcome State Fault Refusal :=
  st.upd fun b => b.takeCmd s 5 layer seq 0 fun b =>
    if !b.psw s 6 then b.cmdDone s
    else (b.modServo s fun v => { v with release := true }).trackCommit s

/-- FOCUS_DROP (R189, R190): a drop qualifies in CLOSED; FOK clears, focus holds FOC_DAC in DROPHOLD, and
tracking enters safe hold. -/
def execFocusDrop (s : Fin 4) (st : State) : Host.Outcome State Fault Refusal :=
  st.upd fun b => b.onSurf s fun b =>
    if (vget b.servo s).fmode ≠ 2 then b
    else
      let b := b.modServo s fun v => { v with fmode := 4 }
      let b := b.setPsw s (b.pswWith s 0 1)
      b.safeHold s

/-- SEARCH_FAIL (R184, R188): after three round trips FMODE is OFF with the DAC at 0 and FAIL set; a held
LAYER or SEEK is rejected with ERR 4. -/
def execSearchFail (s : Fin 4) (st : State) : Host.Outcome State Fault Refusal :=
  st.upd fun b => b.onSurf s fun b =>
    if (vget b.servo s).fmode ≠ 1 then b
    else
      let b := b.setFld (SFs_DAC_OUT_k_CODE s 0) 0
      let b := b.modServo s fun v => { v with fmode := 0, tmode := 0, err := 4, held := none, cur := none }
      let b := b.setPsw s (b.pswWith s 128 16)
      b.publish s

/-- OFF_TRACK (R190, R192): TOK and AOK clear and pull-in starts again; safe hold where WGATE was last
written as 1. -/
def execOffTrack (s : Fin 4) (st : State) : Host.Outcome State Fault Refusal :=
  st.upd fun b => b.onSurf s fun b =>
    if !b.psw s 1 || b.psw s 5 then b
    else
      let w := (vget b.servo s).lastWgate
      let b := b.modServo s fun v => { v with tmode := 2, agree := 0, disagree := 0 }
      let b := b.setPsw s (b.pswWith s 0 (2 + 4))
      if w then b.safeHold s else b.trackCommit s

/-- SWATH_HOLD_KICK (R194): at the hold angle in swath c, k = c + 1 − H pitches back. -/
def execSwathHoldKick (s : Fin 4) (st : State) : Host.Outcome State Fault Refusal :=
  st.upd fun b => b.onSurf s fun b =>
    let v := vget b.servo s
    if v.tmode ≠ 3 then b
    else
      let h := ((b.dmem (exWord s 2)).setWidth 14).toInt
      let k := v.gidx + 1 - h
      if k ≤ 0 then b
      else if 2 < k then b.cmdReject s 5
      else (b.modServo s fun v => { v with gidx := v.gidx - k }).publish s

/-- COIL_DRIVER_FAULT (R186, SFs_STAT): COIL_FLT rises. -/
def execCoilDriverFault (s : Fin 4) (st : State) : Host.Outcome State Fault Refusal :=
  st.upd fun b => b.onSurf s fun b =>
    if b.on (SFs_STAT_COIL_FLT s) then b
    else (b.setFld (SFs_STAT_COIL_FLT s) 1).raiseSurf s 22

end Sys2Proof.Machine
end

