-- ==== Sys2Proof/Machine/Spindle.lean ====
section
/-!
DEFINITION. The spindle sequencers and the PWM (08_spindle.md). States by their codes of R215: 0 STOPPED,
1 SENSE, 2 BBRAKE, 3 ALIGN, 4 RAMP, 5 ACCEL, 6 RUN, 7 DECEL, 8 COAST, 9 CATCH, 10 BRAKE, 11 RETRY_WAIT,
12 FAULT, 13 WAIT.
-/

namespace Sys2Proof.Machine

/-- SPn_STAT.STATE. -/
def Block.spState (b : Block) (n : Fin 2) : Nat := b.fld (SPn_STAT_STATE n)

/-- Exchange base E of a spindle (R211). -/
def spEx (n : Fin 2) : Nat := 0x80 + 0x10 * n.val

/-- A speed in rpm in the units of OMEGA (R211): 9,000 rpm is 0x03D70A3D. -/
def omegaOf (rpm : Int) : Word := BitVec.ofInt 32 (rpm * 2 ^ 32 / 600000)

/-- FMODE that the sequencer writes in SPCMD in each state (R211, R217, R223). -/
def spFmode (st : Nat) : Nat :=
  if st = 3 then 1 else if st = 4 then 2 else if st = 5 ∨ st = 6 ∨ st = 7 then 3 else if st = 9 then 4 else 0

/-- The set speed (R220): SPD_SET clamped to 600 to 9,000 rpm, and to at most 4,500 in reduced mode. -/
def Block.setSpeed (b : Block) (n : Fin 2) : Nat :=
  let r := max 600 (min 9000 (b.fld (SPn_SPD_SET_RPM n)))
  if b.on PW_STAT_RMODE then min 4500 r else r

/-- RCAP (R220): 1 while reduced mode lowers the set speed; a change raises offset 8 (R227). -/
def Block.spRcap (b : Block) (n : Fin 2) : Block :=
  b.onSpin n fun b =>
    let r : Bool := b.on PW_STAT_RMODE && 4500 < b.fld (SPn_SPD_SET_RPM n)
    if r = b.on (SPn_STAT_RCAP n) then b else (b.setBit (SPn_STAT_RCAP n) r).raiseSpin n 8

/-- Set the speed reference, in rpm and in SPD_REF (R211). -/
def Block.spRef (b : Block) (n : Fin 2) (rpm : Nat) : Block :=
  (b.modSpin n fun x => { x with ref := rpm }).commitData (spEx n + 7) (omegaOf rpm)

/-- LOCK clears (R221, R222): the write gates of the disc's surfaces are held off and their passes cut; a
clear not caused by rotor loss raises the lock-lost event. -/
def Block.unlock (b : Block) (n : Fin 2) (event : Bool) : Block :=
  if !b.on (SPn_STAT_LOCK n) then b
  else
    let b := b.setFld (SPn_STAT_LOCK n) 0
    let b := (b.cutPass (Fin.ofNat 4 (2 * n.val))).cutPass (Fin.ofNat 4 (2 * n.val + 1))
    let b := (b.applyHolds (Fin.ofNat 4 (2 * n.val))).applyHolds (Fin.ofNat 4 (2 * n.val + 1))
    if event then b.raiseSpin n 1 else b

/-- Counts as accelerating after entering `st` (R23, R219). -/
def accelAfter (st : Nat) (was : Bool) : Bool :=
  if st = 3 ∨ st = 5 then true
  else if st = 8 ∨ st = 10 ∨ st = 11 ∨ st = 0 ∨ st = 12 then false
  else was

/-- The sequencer enters a state (R215): SPCMD, the accelerating count of R219, LOCK (R221), the BRAKE count
and the FAULT and WAIT events (R227). `lossy` marks a change caused by rotor loss. -/
def Block.spGo (b : Block) (n : Fin 2) (st : Nat) (lossy : Bool) : Block :=
  let b := b.setFld (SPn_STAT_STATE n) st
  let b := b.setBit (SPn_STAT_FAULT n) (st = 12)
  let b := b.commitData (spEx n) (BitVec.ofNat 32 (spFmode st))
  let b := b.modSpin n fun x => { x with accel := accelAfter st x.accel }
  let b := if st = 6 then b else b.unlock n (!lossy)
  let b := if st = 10 then b.bump (SPn_CNT_BRAKE n) 1 else b
  let b := if st = 12 then b.raiseSpin n 6 else b
  if st = 13 then b.raiseSpin n 10 else b

/-- Drop every request held by R219, and the marks of a stop and of a loss sense. -/
def Block.spClear (b : Block) (n : Fin 2) : Block :=
  b.modSpin n fun x =>
    { x with heldStart := false, heldCatch := false, heldSpeed := false, fresh := false, stopping := false
             lossSense := false }

/-- A start attempt begins (R216): SENSE, with the shunt offset measured (R210; its value is the
environment's, a free value, log entry 2). -/
def Block.spAttempt (b : Block) (n : Fin 2) : Block :=
  let b := (b.spClear n).modSpin n fun x => { x with shadowLate := false }
  let (v, b) := b.freeVal
  (b.setFld (SPn_SHUNT_OFS_OFS n) v).spGo n 1 false

/-- The spindle stops (R225): STOPPED with its event. -/
def Block.spStopped (b : Block) (n : Fin 2) : Block :=
  ((b.spClear n).spGo n 0 false).raiseSpin n 7

/-- Both spindle entries are enabled (R218, R223). -/
def Block.spEntriesOn (b : Block) (n : Fin 2) : Bool :=
  b.slotEn (20 + 2 * n.val) && b.slotEn (21 + 2 * n.val)

/-- A spindle enters FAULT: the async event of TYPE 6 and the health counter (R290, R305). -/
def Block.spFaulted (b : Block) (n : Fin 2) (why : Nat) : Block :=
  (b.async 6 n.val why).modHq fun h => { h with spinFaults := h.spinFaults + 1 }

/-- An attempt fails (R218): ATTEMPT and the counter, the event, RETRY_WAIT; the fourth ends in FAULT. -/
def Block.spFail (b : Block) (n : Fin 2) : Block :=
  let b := b.spClear n
  let a := b.fld (SPn_STAT_ATTEMPT n) + 1
  let b := (b.setFld (SPn_STAT_ATTEMPT n) a).bump (SPn_CNT_SFAIL n) 1
  let b := b.raiseSpin n 5
  if 4 ≤ a then ((b.setFld (SPn_FAULT_START n) 1).spGo n 12 false).spFaulted n 2 else b.spGo n 11 false

/-- The spindle has a request that R219 may hold. -/
def Spin.held (x : Spin) : Bool := x.heldStart || x.heldCatch || x.heldSpeed

/-- The other spindle. -/
def otherSpin (n : Fin 2) : Fin 2 := Fin.ofNat 2 (1 - n.val)

/-- A request proceeds: ALIGN, or ACCEL to the set speed (R216, R217, R219). -/
def Block.spProceed (b : Block) (n : Fin 2) : Block :=
  let x := vget b.spin n
  let b := b.modSpin n fun x =>
    { x with heldStart := false, heldCatch := false, heldSpeed := false, fresh := false }
  if x.heldStart then
    (if b.spEntriesOn n then b.spGo n 3 false else b.spFail n)
  else if x.heldCatch ∨ x.heldSpeed then (b.spRef n (b.setSpeed n)).spGo n 5 false
  else b

/-- Decide the requests of a spindle that the tick collected (R219): it proceeds unless the other spindle
counts as accelerating; a start that is held enters WAIT. -/
def Block.spDecide (b : Block) (n : Fin 2) : Block :=
  let x := vget b.spin n
  if !x.fresh || !x.held then b
  else if !(vget b.spin (otherSpin n)).accel then b.spProceed n
  else
    let b := b.modSpin n fun x => { x with fresh := false }
    if x.heldStart then b.spGo n 13 false else b

/-- Speed moves that a new set speed asks for (R219, R220): upward from RUN and DECEL is a request,
downward is DECEL. -/
def Block.spRetarget (b : Block) (n : Fin 2) : Block :=
  let x := vget b.spin n
  let v := b.setSpeed n
  let st := b.spState n
  if st = 6 then
    if x.ref < v then b.modSpin n fun x => { x with heldSpeed := true, fresh := true }
    else
      let b := b.modSpin n fun x => { x with heldSpeed := false, fresh := false }
      if v < x.ref then (b.spRef n v).spGo n 7 false else b
  else if st = 5 then
    if (v : Int) < x.rpm then (b.spRef n v).spGo n 7 false else b.spRef n v
  else if st = 7 ∧ !x.stopping then
    if x.rpm < (v : Int) then b.modSpin n fun x => { x with heldSpeed := true, fresh := true } else b.spRef n v
  else b

/-- A bus voltage in 10 mV: VBUS, and VCLAMP with its hysteresis (R213). -/
def Block.spVbus (b : Block) (n : Fin 2) (vbus : BitVec 16) : Block :=
  let b := b.setFld (SPn_MEAS_VBUS n) vbus.toNat
  let sh := vget (vget b.spin n).shadow 4
  let hi := (SPn_BRAKE_VCLAMP n).get sh * 10
  let lo := (SPn_BRAKE_VREL n).get sh * 10
  if hi < vbus.toNat then
    if b.on (SPn_STAT_VCLAMP n) then b else (b.setFld (SPn_STAT_VCLAMP n) 1).raiseSpin n 9
  else if vbus.toNat < lo then b.setFld (SPn_STAT_VCLAMP n) 0
  else b

/-- Rotor loss (R223): COAST, RLOSS, passes cut, the event at the close, both surfaces unavailable. -/
def Block.rotorLoss (b : Block) (n : Fin 2) : Block :=
  let b := b.spClear n
  let b := b.modSpin n fun x => { x with lossSense := true }
  let b := (b.setFld (SPn_STAT_RLOSS n) 1).spGo n 8 true
  let b := b.bump (SPn_CNT_RLOSS n) 1
  let b := (b.surfDown (Fin.ofNat 4 (2 * n.val)) 4).surfDown (Fin.ofNat 4 (2 * n.val + 1)) 4
  let b := b.modHq fun h => { h with rotorLosses := h.rotorLosses + 1 }
  let b := (b.calAbandon (Fin.ofNat 4 (2 * n.val))).calAbandon (Fin.ofNat 4 (2 * n.val + 1))
  b.postClose (1184 + 16 * n.val + 2)

/-- What the third miss of a spindle entry does to its spindle (R41, R223, R224). -/
def Block.spThirdMiss (b : Block) (n : Fin 2) : Block :=
  let st := b.spState n
  if st = 5 ∨ st = 6 ∨ st = 7 ∨ st = 9 then b.rotorLoss n
  else if st = 3 ∨ st = 4 then b.spFail n
  else b

/-- What RUN = 1 does (R216, R225). From STOPPED or a coast to stop an attempt begins; during DECEL to stop
too; in a stop's BRAKE an attempt follows at its end. In FAULT the sequencer ignores RUN (R226). -/
def Block.spRun (b : Block) (n : Fin 2) : Block :=
  b.onSpin n fun b =>
    let x := vget b.spin n
    let b := b.setFld (SPn_CTL_RUN n) 1
    -- from the first start on, reduced mode is reported (R24)
    let b := b.modPw fun p => { p with quiet := false }
    let st := b.spState n
    if st = 0 ∨ x.stopping ∧ (st = 8 ∨ st = 7) then b.spAttempt n
    else b.modSpin n fun x => { x with stopping := false }

/-- SPINDLE_RUN (R216, R225). -/
def execSpindleRun (n : Fin 2) (s : State) : Host.Outcome State Fault Refusal := s.upd fun b => b.spRun n

/-- What RUN = 0 does (R225). -/
def Block.spStop (b : Block) (n : Fin 2) : Block :=
  let b := b.setFld (SPn_CTL_RUN n) 0
  let st := b.spState n
  if st = 0 ∨ st = 12 ∨ (vget b.spin n).stopping then b
  else
    let b := (b.spClear n).modSpin n fun x => { x with stopping := true }
    if st = 10 then b
    else if b.on (SPn_CTL_STOPMODE n) then (b.spRef n 600).spGo n 7 false
    else if st = 8 then b else b.spGo n 8 false

/-- SPINDLE_STOP (R225). -/
def execSpindleStop (n : Fin 2) (s : State) : Host.Outcome State Fault Refusal :=
  s.upd fun b => b.onSpin n fun b => b.spStop n

/-- SET_SPEED (R219, R220). -/
def execSetSpeed (n : Fin 2) (rpm : BitVec 14) (s : State) : Host.Outcome State Fault Refusal :=
  s.upd fun b => b.onSpin n fun b =>
    ((b.setFld (SPn_SPD_SET_RPM n) rpm.toNat).spRcap n).spRetarget n

/-- Enter CATCH with the seeds of coast sense (R211, R223). -/
def Block.spCatch (b : Block) (n : Fin 2) (angle : Word) (rpm : Int) : Block :=
  ((b.commitData (spEx n + 5) angle).commitData (spEx n + 6) (omegaOf rpm)).spGo n 9 false

/-- COAST_SENSE_DONE (R216, R223, R225): a sense of `crossings` zero crossings at `rpm` (negative backward)
and the angle found; the sequencer's choice in SENSE, in a coast to stop, and after rotor loss. The shunt
offset has been measured again in the coast (R210): a free value (log entry 2). -/
def execCoastSenseDone (n : Fin 2) (rpm : BitVec 16) (crossings : BitVec 8) (angle : Word) (s : State) :
    Host.Outcome State Fault Refusal :=
  s.upd fun b => b.onSpin n fun b =>
    let v := rpm.toInt
    let st := b.spState n
    let x := vget b.spin n
    if st ≠ 1 ∧ st ≠ 8 then b
    else
      let b := (b.setFld (SPn_COAST_SPD n) rpm.toNat).setFld (SPn_COAST_XCNT n) crossings.toNat
      let (o, b) := b.freeVal
      let b := b.setFld (SPn_SHUNT_OFS_OFS n) o
      if st = 1 then
        if crossings.toNat < 3 then b.spGo n 2 false
        else if 300 < v then b.spCatch n angle v
        else if v < -60 then b.spGo n 10 false
        else b.spGo n 2 false
      else if x.stopping then (if crossings.toNat < 3 then b.spStopped n else b)
      else if x.lossSense ∧ 6 ≤ crossings.toNat ∧ 300 < v ∧ b.spEntriesOn n then b.spCatch n angle v
      else b

/-- BBRAKE_END (R216, R217, R218): a request for ALIGN; with an entry off the attempt fails. -/
def execBbrakeEnd (n : Fin 2) (s : State) : Host.Outcome State Fault Refusal :=
  s.upd fun b => b.onSpin n fun b =>
    if b.spState n ≠ 2 then b
    else if !b.spEntriesOn n then b.spFail n
    else b.modSpin n fun x => { x with heldStart := true, fresh := true }

/-- ALIGN_END (R217). -/
def execAlignEnd (n : Fin 2) (s : State) : Host.Outcome State Fault Refusal :=
  s.upd fun b => b.onSpin n fun b => if b.spState n ≠ 3 then b else b.spGo n 4 false

/-- RAMP_END (R217, R218): the seeds are the open-loop angle and speed; a negative OMEGA fails the attempt. -/
def execRampEnd (n : Fin 2) (s : State) : Host.Outcome State Fault Refusal :=
  s.upd fun b => b.onSpin n fun b =>
    if b.spState n ≠ 4 then b
    else if (b.dmem (spEx n + 2)).toInt < 0 then b.spFail n
    else
      let b := b.commitData (spEx n + 5) (b.dmem (spEx n + 3))
      let b := b.commitData (spEx n + 6) (omegaOf 600)
      (b.spRef n (b.setSpeed n)).spGo n 5 false

/-- ATTEMPT_FAILED (R218): in ALIGN, RAMP or ACCEL. -/
def execAttemptFailed (n : Fin 2) (s : State) : Host.Outcome State Fault Refusal :=
  s.upd fun b => b.onSpin n fun b =>
    let st := b.spState n
    if st = 3 ∨ st = 4 ∨ st = 5 then b.spFail n else b

/-- RETRY_WAIT_END (R218). -/
def execRetryWaitEnd (n : Fin 2) (s : State) : Host.Outcome State Fault Refusal :=
  s.upd fun b => b.onSpin n fun b => if b.spState n ≠ 11 then b else b.spAttempt n

/-- CATCH_RESYNC (R216, R219, R223): the catch succeeded; it keeps its speed until ACCEL may proceed. -/
def execCatchResync (n : Fin 2) (s : State) : Host.Outcome State Fault Refusal :=
  s.upd fun b => b.onSpin n fun b =>
    if b.spState n ≠ 9 || (vget b.spin n).heldCatch then b
    else
      let b := (b.bump (SPn_CNT_CATCH n) 1).raiseSpin n 3
      let b := b.commitData (spEx n + 7) (b.dmem (spEx n + 2))
      b.modSpin n fun x => { x with heldCatch := true, fresh := true }

/-- Firmware writes SCMD OFF and LSREQ.LDEN = 0 to a surface (R223). -/
def Block.firmwareOff (b : Block) (s : Fin 4) : Block :=
  let b := b.commitData (exWord s 1) (b.dmem (exWord s 1) &&& ~~~1#32)
  let seq := BitVec.ofNat 8 ((vget b.servo s).taken + 1)
  b.takeCmd s 1 0 seq 0 fun b =>
    let b := b.modServo s fun v => { v with fmode := 0, tmode := 0, held := none }
    let b := (List.range 3).foldl (fun b k => b.setFld (SFs_DAC_OUT_k_CODE s k) 0) b
    let b := b.setPsw s (b.pswWith s 0 (1 + 2 + 4 + 8 + 16 + 32))
    (b.trackCommit s).cmdDone s

/-- CATCH_TIMEOUT (R216, R223): BRAKE and the catch-failed event; after a rotor loss focus is released. -/
def execCatchTimeout (n : Fin 2) (s : State) : Host.Outcome State Fault Refusal :=
  s.upd fun b => b.onSpin n fun b =>
    let x := vget b.spin n
    let st := b.spState n
    if st = 9 ∧ !x.heldCatch ∨ st = 8 ∧ x.lossSense then
      let loss := b.on (SPn_STAT_RLOSS n)
      let b := (((b.spClear n).spGo n 10 true).raiseSpin n 4).async 6 n.val 1
      if loss then (b.firmwareOff (Fin.ofNat 4 (2 * n.val))).firmwareOff (Fin.ofNat 4 (2 * n.val + 1)) else b
    else b

/-- ACCEL_GRANT (R219): the held spindle proceeds once the other no longer counts as accelerating; of two,
SP0 first. -/
def execAccelGrant (n : Fin 2) (s : State) : Host.Outcome State Fault Refusal :=
  s.upd fun b => b.onSpin n fun b =>
    let o := vget b.spin (otherSpin n)
    if !(vget b.spin n).held || o.accel || (n.val = 1 && o.held) then b else b.spProceed n

/-- The speed set of a disc's surfaces and spindle: the half-speed one up to 4,500 rpm (R26, R27, R156). -/
def Block.coefSet (b : Block) (n : Fin 2) : Block :=
  let half : Bool := (vget b.spin n).ref ≤ 4500
  let put := fun (b : Block) (o : Nat) => b.putBit LE_COEF_CTL_SET o half
  put (put (put b (2 * n.val)) (2 * n.val + 1)) (4 + n.val)

/-- SPEED_LOCK (R218, R221, R223): LOCK in RUN at the set speed; ATTEMPT and RLOSS clear. -/
def execSpeedLock (n : Fin 2) (s : State) : Host.Outcome State Fault Refusal :=
  s.upd fun b => b.onSpin n fun b =>
    if b.spState n ≠ 6 || b.on (SPn_STAT_LOCK n) || (vget b.spin n).ref ≠ b.setSpeed n then b
    else
      let b := (b.setFld (SPn_STAT_LOCK n) 1).setFld (SPn_STAT_RLOSS n) 0
      let b := (b.setFld (SPn_STAT_ATTEMPT n) 0).modSpin n fun x => { x with accel := false }
      (b.coefSet n).raiseSpin n 0

/-- LOCK_LOST (R221, R222): the deviation clears LOCK in RUN. -/
def execLockLost (n : Fin 2) (s : State) : Host.Outcome State Fault Refusal :=
  s.upd fun b => b.onSpin n fun b => b.unlock n true

/-- ROTOR_LOSS (R223): in ACCEL, RUN or DECEL. -/
def execRotorLoss (n : Fin 2) (s : State) : Host.Outcome State Fault Refusal :=
  s.upd fun b => b.onSpin n fun b =>
    let st := b.spState n
    if st = 5 ∨ st = 6 ∨ st = 7 then b.rotorLoss n else b

/-- BRAKE_EXIT (R216, R225): below 60 rpm in BRAKE; STOPPED after a stop, else a new attempt. -/
def execBrakeExit (n : Fin 2) (s : State) : Host.Outcome State Fault Refusal :=
  s.upd fun b => b.onSpin n fun b =>
    if b.spState n ≠ 10 then b
    else if b.on (SPn_CTL_RUN n) then b.spAttempt n
    else b.spStopped n

/-- Enter FAULT with a fault bit set (R225, R226). -/
def Block.spFault (b : Block) (n : Fin 2) (f : Fld) : Block :=
  let b := b.setFld f 1
  if b.spState n = 12 then b else ((b.spClear n).spGo n 12 false).spFaulted n 0

/-- BRAKE_TIMEOUT (R225). -/
def execBrakeTimeout (n : Fin 2) (s : State) : Host.Outcome State Fault Refusal :=
  s.upd fun b => b.onSpin n fun b =>
    if b.spState n ≠ 10 then b else b.spFault n (SPn_FAULT_BRK_TO n)

/-- BRIDGE_OVERCURRENT (R226): overcurrent, or over-temperature of the power die. -/
def execBridgeOvercurrent (n : Fin 2) (overTemp : Bool) (s : State) : Host.Outcome State Fault Refusal :=
  s.upd fun b => b.onSpin n fun b => b.spFault n (if overTemp then SPn_FAULT_OTP n else SPn_FAULT_OCP n)

/-- Leave FAULT once RUN is 0 and every fault bit is clear (R218, R226). -/
def Block.spFaultDone (b : Block) (n : Fin 2) : Block :=
  if b.spState n = 12 && !b.on (SPn_CTL_RUN n) && b.rd (SPn_FAULT n) = 0 then
    (b.setFld (SPn_STAT_ATTEMPT n) 0).spGo n 0 false
  else b

/-- FAULT_CLEAR (R226): write 1 to clear SPn_FAULT bits. -/
def execFaultClear (n : Fin 2) (bits : BitVec 4) (s : State) : Host.Outcome State Fault Refusal :=
  s.upd fun b => b.onSpin n fun b =>
    (b.wr (SPn_FAULT n) (b.rd (SPn_FAULT n) &&& ~~~(bits.setWidth 32))).spFaultDone n

/-- Order of the phases by their on-time, largest first, equal ones A, B, C (R208): the indices of the
largest and of the smallest. -/
def phaseOrder (h : Vector Nat 3) : Fin 3 × Fin 3 :=
  let a := vget h 0
  let b := vget h 1
  let c := vget h 2
  let hi : Fin 3 := if b ≤ a ∧ c ≤ a then 0 else if c ≤ b then 1 else 2
  let lo : Fin 3 := if c ≤ a ∧ c ≤ b then 2 else if b ≤ a ∧ b ≤ c then 1 else 0
  (hi, if hi = lo then 2 else lo)

/-- A moved edge would leave the period, so its samples are skipped (R209). -/
def skipPeriod (h : Vector Nat 3) (tmin : Nat) : Bool :=
  let (hi, lo) := phaseOrder h
  let big := vget h hi
  let small := vget h lo
  let mid := vget h 0 + vget h 1 + vget h 2 - big - small
  let d1 := big - mid
  let d2 := mid - small
  (d1 < tmin && 10000 < big + (tmin - d1)) || (d2 < tmin && 10000 < small + (tmin - d2))

/-- A shunt code less the offset, as Q1.31 of full scale (R210). -/
def shuntQ31 (code ofs : Int) : Word := sat32 ((code - ofs) * 2 ^ 20)

/-- The three currents from the two samples (R208): I_max, minus I_min, and I_mid = −(I_max + I_min). -/
def currents (h : Vector Nat 3) (c1 c2 ofs : Int) : Vector Word 3 :=
  let (hi, lo) := phaseOrder h
  let imax := c1 - ofs
  let imin := -(c2 - ofs)
  (Vector.ofFn fun (i : Fin 3) =>
    if i = hi then shuntQ31 imax 0 else if i = lo then shuntQ31 imin 0 else shuntQ31 (-(imax + imin)) 0)

/-- The five registers that R228 shadows. -/
def Block.spLive (b : Block) (n : Fin 2) : Vector Word 5 :=
  #v[b.rd (SPn_SHUNT n), b.rd (SPn_START n), b.rd (SPn_LIMITS n), b.rd (SPn_RLOSS n), b.rd (SPn_BRAKE n)]

/-- The shadowed registers take effect; a write made during ALIGN or RAMP waits for the next attempt (R228). -/
def Block.spShadow (b : Block) (n : Fin 2) : Block :=
  if b.spState n = 3 ∨ b.spState n = 4 then
    (if (vget b.spin n).shadow = b.spLive n then b else b.modSpin n fun x => { x with shadowLate := true })
  else if (vget b.spin n).shadowLate then b
  else b.modSpin n fun x => { x with shadow := b.spLive n }

/-- Speed reached (R219, R220, R225): ACCEL and DECEL end in RUN, a stop's DECEL in BRAKE. -/
def Block.spReached (b : Block) (n : Fin 2) : Block :=
  let x := vget b.spin n
  let st := b.spState n
  if st = 5 ∧ (x.ref : Int) ≤ x.rpm then b.spGo n 6 false
  else if st = 7 ∧ x.rpm ≤ (x.ref : Int) then
    (if x.stopping then b.spGo n 10 false else b.spGo n 6 false)
  else b

/-- PWM_PERIOD (R206, R208 to R212, R228): the committed duties are loaded, the shadow registers take effect,
the two shunt samples give the phase currents or the period is skipped, and the field program publishes the
speed of the rotor; `rpm` is that speed and `vbus` the supply in 10 mV. -/
def execPwmPeriod (n : Fin 2) (code1 code2 : BitVec 12) (vbus rpm : BitVec 16) (s : State) :
    Host.Outcome State Fault Refusal :=
  s.upd fun b => b.onSpin n fun b =>
    let b := b.spShadow n
    let x := vget b.spin n
    let h := x.duty
    let tmin := (SPn_SHUNT_TMIN n).get (vget x.shadow 0)
    let ofs := b.sfld (SPn_SHUNT_OFS_OFS n)
    let b := b.modSpin n fun x => { x with loaded := h, rpm := rpm.toInt }
    let b := if skipPeriod h tmin then b.bump (SPn_SKIP_COUNT n) 1
      else b.modSpin n fun x => { x with cur := currents h code1.toInt code2.toInt ofs }
    let b := b.setFld (SPn_MEAS_RPM n) rpm.toNat
    let b := b.commitData (spEx n + 2) (omegaOf rpm.toInt)
    (b.spVbus n vbus).spReached n

/-- VCLAMP_SET (R213): VBUS, in 10 mV, crosses VCLAMP upward or VREL downward. -/
def execVclampSet (n : Fin 2) (vbus : BitVec 16) (s : State) : Host.Outcome State Fault Refusal :=
  s.upd fun b => b.onSpin n fun b => b.spVbus n vbus

end Sys2Proof.Machine
end

