-- ==== Sys2Proof/Machine/Axes.lean ====
section
/-!
DEFINITION. The stepper axes and their switches (09_motion_axes.md): targets and follow-ons (R232 to R234),
halt and emergency stop (R235, R236), stall (R239), homing (R240 to R242). The motion itself is the PGEN
steps of LoopOps.lean.
-/

namespace Sys2Proof.Machine

/-- Microsteps as a position in units of 2^-16. -/
def micro (n : Int) : Int := n * 65536

/-- The axis is at rest on T (R171, R233). -/
def Axis.atRest (x : Axis) : Bool := x.p = micro x.t && x.v = 0 && x.acc = 0

/-- A fault bit of the axis is set. -/
def Block.axFaulted (b : Block) (a : Fin 9) : Bool := b.rd (AXa_FAULT a) ≠ 0

/-- Discard the follow-on that waits. -/
def Block.dropFollow (b : Block) (a : Fin 9) : Block :=
  (b.modAxis a fun x => { x with follow := none }).setFld (AXa_STAT_FWAIT a) 0

/-- Set a fault bit, and STAT.FAULT with it (R247). -/
def Block.axFault (b : Block) (a : Fin 9) (f : Fld) : Block := (b.setFld f 1).setFld (AXa_STAT_FAULT a) 1

/-- Homing ends unreferenced (R235, R239, R240, R241). -/
def Block.endHoming (b : Block) (a : Fin 9) : Block :=
  if (vget b.axis a).homeStep = 0 then b
  else
    ((b.modAxis a fun x => { x with homeStep := 0 }).setFld (AXa_STAT_HOMING a) 0).setFld (AXa_STAT_HOMED a) 0

/-- Emergency stop (R236). -/
def Block.emergency (b : Block) (a : Fin 9) : Block :=
  (b.endHoming a).modAxis a fun x => { x with emerg := true }

/-- The halt request of R235: a waiting follow-on is discarded and homing ends. -/
def Block.axHalt (b : Block) (a : Fin 9) : Block :=
  ((b.setFld (AXa_CTL_HALT a) 1).dropFollow a).endHoming a

/-- T becomes `t` and the move starts (R233). -/
def Block.setT (b : Block) (a : Fin 9) (t : Int) : Block :=
  let b := b.modAxis a fun x => { x with t := t, rest := 0 }
  (b.setFld (AXa_STAT_DONE a) 0).setFld (AXa_STAT_ATTGT a) 0

/-- A waiting follow-on becomes T once DONE is set (R233, R235). -/
def Block.startFollow (b : Block) (a : Fin 9) : Block :=
  match (vget b.axis a).follow with
  | none => b
  | some t =>
    if !b.on (AXa_STAT_DONE a) || b.on (AXa_CTL_HALT a) || b.axFaulted a then b
    else ((b.dropFollow a).setT a t).raiseAxis a 1

/-- Place a new target (R233, R234). -/
def Block.placeTarget (b : Block) (a : Fin 9) (v : Int) : Block :=
  if b.axFaulted a then b.bump (AXa_CNT_IGN a) 1
  else
    let lo := b.sfld (AXa_SLIM_LO_LIM a)
    let hi := b.sfld (AXa_SLIM_HI_LIM a)
    let w := if b.on (AXa_STAT_HOMED a) then max lo (min hi v) else v
    let b := if w = v then b else b.bump (AXa_CNT_CLAMP a) 1
    let waiting := (vget b.axis a).follow.isSome
    if b.on (AXa_STAT_DONE a) && !b.on (AXa_CTL_HALT a) && !waiting then b.setT a w
    else
      let b := if waiting then b.bump (AXa_CNT_FREPL a) 1 else b
      let b := b.modAxis a fun x => { x with follow := some w }
      (b.setFld (AXa_STAT_FWAIT a) 1).setFld (AXa_FOLLOW_TGT_FTGT a) (natOf 32 w)

/-- Fold one request into the value formed so far (R232); `base` is what a first relative request adds to. -/
def foldReq (base : Int) (acc : Option Int) : TgtReq → Option Int
  | .abs v => some v
  | .rel v => some (acc.getD base + v)

/-- Absolute requests come before relative ones (R232). -/
def TgtReq.isAbs : TgtReq → Bool
  | .abs _ => true
  | .rel _ => false

/-- The request that the exchange region makes (R232): a new SLED_REQ sequence or a changed SA_REQ. -/
def Block.exReqs (b : Block) (a : Fin 9) : List TgtReq :=
  let x := vget b.axis a
  if a.val < 4 then
    let w := b.dmem (exWord (Fin.ofNat 4 a.val) 10)
    if w.setWidth 8 = x.sledSeq then [] else [.rel (sar w.toInt 8)]
  else if a.val < 8 then
    let w := b.dmem (exWord (Fin.ofNat 4 (a.val - 4)) 11)
    if w = x.saReq then [] else [.abs w.toInt]
  else []

/-- Take the target requests collected in the tick (R232 to R234). -/
def Block.takeTargets (b : Block) (a : Fin 9) : Block :=
  let x := vget b.axis a
  let reqs := b.exReqs a ++ x.reqs.filter (·.isAbs) ++ x.reqs.filter fun r => !r.isAbs
  let base := x.follow.getD x.t
  let v := reqs.foldl (foldReq base) none
  let b := b.modAxis a fun x =>
    { x with
      reqs := []
      sledSeq := if a.val < 4 then (b.dmem (exWord (Fin.ofNat 4 a.val) 10)).setWidth 8 else x.sledSeq
      saReq := if 4 ≤ a.val ∧ a.val < 8 then b.dmem (exWord (Fin.ofNat 4 (a.val - 4)) 11) else x.saReq }
  match v with
  | none => b
  | some v => b.placeTarget a v

/-- Sign of motion toward HDIR (R241). -/
def Block.homeDir (b : Block) (a : Fin 9) : Int := if b.on (AXa_CTL_HDIR a) then 1 else -1

/-- Move without end in a direction, beyond HOME_MAX (R241). -/
def Block.homeMove (b : Block) (a : Fin 9) (dir : Int) (step : Nat) : Block :=
  let x := vget b.axis a
  let far := x.p / 65536 + dir * ((b.fld (AXa_HOME_MAX_HMAX a) : Int) + 65536)
  (b.setT a far).modAxis a fun y => { y with homeStep := step, homeFrom := x.p }

/-- Homing step 5 (R241): move to HOME_POS + BACKOFF, away from HDIR. -/
def Block.homeFinal (b : Block) (a : Fin 9) : Block :=
  let t := b.sfld (AXa_HOME_POS_HPOS a) - b.homeDir a * (b.fld (AXa_BACKOFF_BACKOFF a) : Int)
  (b.setT a t).modAxis a fun x => { x with homeStep := 5 }

/-- Homing steps that advance by themselves (R241): from rest after the trip to the back-off, and from the
released switch to the re-approach. -/
def Block.homeAuto (b : Block) (a : Fin 9) : Block :=
  let x := vget b.axis a
  if x.homeStep = 2 ∧ x.v = 0 ∧ x.acc = 0 then b.homeMove a (-(b.homeDir a)) 3
  else if x.homeStep = 3 ∧ !b.on (AXa_STAT_HOMESW a) then b.homeMove a (b.homeDir a) 4
  else b

/-- The limits sampled in the preamble (R170, R236, R241). -/
def Block.sampleLimits (b : Block) (a : Fin 9) : Block :=
  let x := vget b.axis a
  let vmax :=
    if x.homeStep = 1 then b.fld (AXa_HOME_V_HOME_V a) * 256
    else if x.homeStep = 3 ∨ x.homeStep = 4 then b.fld (AXa_HOME_V_CREEP_V a) * 256
    else b.fld (AXa_VMAX_VMAX a)
  b.modAxis a fun x =>
    { x with vmax := vmax
             amax := if x.emerg then b.fld (AXa_AEMG_AEMG a) else b.fld (AXa_AMAX_AMAX a)
             jmax := if x.emerg then 0xFFFFFFFF else b.fld (AXa_JMAX_JMAX a) }

/-- CUR that the profile program writes (R231), in 10 mA. -/
def Block.axCurrent (b : Block) (a : Fin 9) : Nat :=
  let x := vget b.axis a
  let irun := b.fld (AXa_CUR_IRUN a)
  let ihold := b.fld (AXa_CUR_IHOLD a)
  let imin := b.fld (AXa_CUR_IMIN a)
  let cur := b.fld (AXa_LOAD_CUR a)
  let thr := b.fld (AXa_STALL_SG_THR a)
  let moving : Bool := x.v ≠ 0 || x.acc ≠ 0
  if !b.on (AXa_CTL_EN a) then 0
  else if b.axFaulted a then ihold
  else if !moving then (if x.rest < b.fld (AXa_TIME_HOLD_T a) then irun else ihold)
  else if !b.on (AXa_CTL_ADAPT a) || x.v.natAbs < b.fld (AXa_SGV_SG_VMIN a) * 256 then irun
  else if 2 * thr < b.fld (AXa_LOAD_LOADM a) then max imin (cur - irun / 32)
  else min irun (cur + irun / 8)

/-- What the preamble does for an axis (R170, R231 to R235, R241). -/
def Block.axPreamble (b : Block) (a : Fin 9) : Block :=
  b.onAxis a fun b =>
    let b := (b.homeAuto a).sampleLimits a
    let b := (b.takeTargets a).startFollow a
    b.setFld (AXa_LOAD_CUR a) (b.axCurrent a)

/-- The stall response (R239, and R41 for every axis of an entry): the axis holds its address, P goes to that
address's position with V = 0, STALL is set and HOMED cleared. -/
def Block.stallAxis (b : Block) (a : Fin 9) : Block :=
  let m := b.fld (AXa_STAT_RES_M a)
  let b := (b.endHoming a).dropFollow a
  let b := b.modAxis a fun x =>
    let f := x.p / 65536
    { x with p := micro (f / 2 ^ m * 2 ^ m + (if m = 0 then 0 else 2 ^ (m - 1))), v := 0, acc := 0, rest := 0 }
  let b := (b.axFault a (AXa_FAULT_STALL a)).setFld (AXa_STAT_HOMED a) 0
  let b := (b.setFld (AXa_STAT_MOVING a) 0).setFld (AXa_LOAD_CUR a) (b.fld (AXa_CUR_IHOLD a))
  (b.bump (AXa_CNT_STALLS a) 1).raiseAxis a 2

/-- After fault bits were cleared (R236, R239): STAT.FAULT follows, and the limits return. -/
def Block.axFaultDone (b : Block) (a : Fin 9) : Block :=
  let b := b.setBit (AXa_STAT_FAULT a) (b.axFaulted a)
  if b.on (AXa_FAULT_COIL a) || b.on (AXa_FAULT_LIMIT a) || b.on (AXa_FAULT_SWITCH a) then b
  else b.modAxis a fun x =>
    { x with emerg := false, halting := x.halting || (x.emerg && x.v ≠ 0) }

/-- AXIS_TARGET (R232): AXa_TGT reads the value back; the request is collected. -/
def execAxisTarget (a : Fin 9) (v : BitVec 32) (s : State) : Host.Outcome State Fault Refusal :=
  s.upd fun b => b.onAxis a fun b =>
    (b.wr (AXa_TGT a) v).modAxis a fun x => { x with reqs := x.reqs ++ [.abs v.toInt] }

/-- AXIS_RELATIVE (R232). -/
def execAxisRelative (a : Fin 9) (v : BitVec 32) (s : State) : Host.Outcome State Fault Refusal :=
  s.upd fun b => b.onAxis a fun b => b.modAxis a fun x => { x with reqs := x.reqs ++ [.rel v.toInt] }

/-- AXIS_DONE (R233): at rest on T for SETTLE_T ticks DONE is set, and a waiting follow-on starts. -/
def execAxisDone (a : Fin 9) (s : State) : Host.Outcome State Fault Refusal :=
  s.upd fun b => b.onAxis a fun b =>
    if !(vget b.axis a).atRest || b.on (AXa_STAT_DONE a) || b.on (AXa_STAT_HOMING a) then b
    else ((b.setFld (AXa_STAT_DONE a) 1).raiseAxis a 0).startFollow a

/-- AXIS_HALT (R235). -/
def execAxisHalt (a : Fin 9) (s : State) : Host.Outcome State Fault Refusal :=
  s.upd fun b => b.onAxis a fun b => b.axHalt a

/-- What EN = 0 does (R231, R247): coils high-impedance, HOMED cleared, the follow-on discarded; homing, which
needs EN = 1, ends (DEDUCED, log entry 9). -/
def Block.axDisable (b : Block) (a : Fin 9) : Block :=
  let b := (b.setFld (AXa_CTL_EN a) 0).setFld (AXa_STAT_HOMED a) 0
  ((b.dropFollow a).endHoming a).setFld (AXa_LOAD_CUR a) 0

/-- AXIS_DISABLE (R247). -/
def execAxisDisable (a : Fin 9) (s : State) : Host.Outcome State Fault Refusal :=
  s.upd fun b => b.onAxis a fun b => b.axDisable a

/-- What a write of HOME = 1 does (R241). -/
def Block.homeStart (b : Block) (a : Fin 9) : Block :=
  if !b.on (AXa_CTL_EN a) || b.axFaulted a || b.on (AXa_STAT_HOMING a) then b
  else
    let b := (b.setFld (AXa_STAT_HOMING a) 1).setFld (AXa_STAT_HOMED a) 0
    if !b.on (AXa_CTL_HMODE a) && b.on (AXa_STAT_HOMESW a) then b.homeMove a (-(b.homeDir a)) 3
    else b.homeMove a (b.homeDir a) 1

/-- HOMING_START (R241). -/
def execHomingStart (a : Fin 9) (s : State) : Host.Outcome State Fault Refusal :=
  s.upd fun b => b.onAxis a fun b => b.homeStart a

/-- HOME_TRIP (R241): the debounced trip of the switch in step 1 or 4, or the stall of stall homing. -/
def execHomeTrip (a : Fin 9) (s : State) : Host.Outcome State Fault Refusal :=
  s.upd fun b => b.onAxis a fun b =>
    let x := vget b.axis a
    let home := micro (b.sfld (AXa_HOME_POS_HPOS a))
    if b.on (AXa_CTL_HMODE a) then
      if x.homeStep ≠ 1 then b
      else (b.modAxis a fun x => { x with p := home, v := 0, acc := 0 }).homeFinal a
    else
      let b := if x.homeStep = 1 ∨ x.homeStep = 4 then b.setFld (AXa_STAT_HOMESW a) 1 else b
      if x.homeStep = 1 then b.modAxis a fun x => { x with homeStep := 2 }
      else if x.homeStep = 4 then
        (b.modAxis a fun x => { x with p := x.p - x.hist.getD 4 x.p + home }).homeFinal a
      else b

/-- HOMING_DONE (R241): landed in step 5, HOMED is set. -/
def execHomingDone (a : Fin 9) (s : State) : Host.Outcome State Fault Refusal :=
  s.upd fun b => b.onAxis a fun b =>
    let x := vget b.axis a
    if x.homeStep ≠ 5 || !x.atRest then b
    else
      let b := b.modAxis a fun x => { x with homeStep := 0 }
      ((b.setFld (AXa_STAT_HOMED a) 1).setFld (AXa_STAT_HOMING a) 0).raiseAxis a 5

/-- HOMING_FAIL (R241): travel beyond HOME_MAX in steps 1, 3 or 4. -/
def execHomingFail (a : Fin 9) (s : State) : Host.Outcome State Fault Refusal :=
  s.upd fun b => b.onAxis a fun b =>
    let x := vget b.axis a
    if (x.homeStep = 1 ∨ x.homeStep = 3 ∨ x.homeStep = 4) ∧
        micro (b.fld (AXa_HOME_MAX_HMAX a)) < ((x.p - x.homeFrom).natAbs : Int) then
      let b := (b.endHoming a).modAxis a fun x => { x with halting := true }
      ((b.axFault a (AXa_FAULT_HOMEFAIL a)).dropFollow a).raiseAxis a 6
    else b

/-- The stall criterion is in force (R238): SMODE 1 on AX0 to AX3, or SMODE 2. -/
def Block.stallArmed (b : Block) (a : Fin 9) : Bool :=
  let m := b.fld (AXa_CTL_SMODE a)
  m = 2 || (m = 1 && a.val < 4)

/-- AXIS_STALL (R238, R239): outside stall homing. -/
def execAxisStall (a : Fin 9) (s : State) : Host.Outcome State Fault Refusal :=
  s.upd fun b => b.onAxis a fun b =>
    let x := vget b.axis a
    if b.on (AXa_FAULT_STALL a) || (b.on (AXa_CTL_HMODE a) && x.homeStep = 1) || !b.stallArmed a then b
    else b.stallAxis a

/-- A switch: the home switch of AX0 to AX3, the door, the clamp. SWITCH_CHATTER (R240, R248): an axis sets
SWITCH and stops; the magazine's switches set their bit and raise their source only (24 and 25, DEDUCED, log
entry 10). -/
def execSwitchChatter (w : Fin 6) (s : State) : Host.Outcome State Fault Refusal :=
  s.upd fun b =>
    if w.val < 4 then
      let a : Fin 9 := Fin.ofNat 9 w.val
      b.onAxis a fun b => ((b.axFault a (AXa_FAULT_SWITCH a)).emergency a).raiseAxis a 3
    else if w.val = 4 then (b.setFld MZ_SW_CHAT_D 1).raise 24
    else (b.setFld MZ_SW_CHAT_C 1).raise 25

/-- LIMIT_TRIP (R242): a trip of the home switch outside homing. -/
def execLimitTrip (a : Fin 9) (s : State) : Host.Outcome State Fault Refusal :=
  s.upd fun b => b.onAxis a fun b =>
    if 4 ≤ a.val || b.on (AXa_STAT_HOMING a) then b
    else
      let b := (b.setFld (AXa_STAT_HOMESW a) 1).setFld (AXa_STAT_HOMED a) 0
      ((b.axFault a (AXa_FAULT_LIMIT a)).emergency a).raiseAxis a 4

/-- COIL_FAULT (R236, R247). -/
def execCoilFault (a : Fin 9) (s : State) : Host.Outcome State Fault Refusal :=
  s.upd fun b => b.onAxis a fun b =>
    ((b.axFault a (AXa_FAULT_COIL a)).emergency a).raiseAxis a 7

/-- DOOR_CLOSED (R248). -/
def execDoorClosed (s : State) : Host.Outcome State Fault Refusal :=
  s.upd fun b =>
    if b.on MZ_SW_DOOR then b else (((b.setFld MZ_SW_DOOR_RAW 1).setFld MZ_SW_DOOR 1).raise 24).async 4 0 0

/-- CLAMP_CHANGE (R248): the debounced clamp switch now reads `closed`. -/
def execClampChange (closed : Bool) (s : State) : Host.Outcome State Fault Refusal :=
  s.upd fun b =>
    if b.on MZ_SW_CLAMP = closed then b
    else ((b.setBit MZ_SW_CLAMP_RAW closed).setBit MZ_SW_CLAMP closed).raise 25

/-- The opening of the door as such (R246, R248): LDEN held at 0 on every surface, source 24; with the lock
driven FORCED, source 26 and firmware's stop of the spindles and of AX8. -/
def Block.doorOpen (b : Block) : Block :=
  let b := ((b.setFld MZ_SW_DOOR_RAW 0).setFld MZ_SW_DOOR 0).applyAllHolds.raise 24
  if !b.on MZ_LOCK_LOCK then b
  else
    let b := (b.setFld MZ_SW_FORCED 1).raise 26
    let stop := fun (b : Block) (n : Fin 2) => b.onSpin n fun b => (b.setFld (SPn_CTL_STOPMODE n) 1).spStop n
    (stop (stop b 0) 1).axHalt 8

end Sys2Proof.Machine
end

