-- ==== Sys2Proof/Machine/LeLoad.lean ====
section
/-!
DEFINITION. Loading programs, tables and patches, and master writes to the loop engine
(06_loop_engine.md R156, R167, R172 to R179).
-/

namespace Sys2Proof.Machine

/-! ### The checks of a program load (R173) -/

/-- Fields of a loop instruction word (R159). -/
def lwOp (w : Word) : Nat := w.toNat / 2 ^ 26
def lwD (w : Word) : Nat := w.toNat / 2 ^ 21 % 32
def lwA (w : Word) : Nat := w.toNat / 2 ^ 16 % 32
def lwN (w : Word) : Nat := w.toNat / 2 ^ 18 % 8 + 1
def lwMode (w : Word) : Bool := w.getLsbD 17
def lwAddr (w : Word) : Nat := w.toNat % 2 ^ 13
def lwPort (w : Word) : Nat := w.toNat % 2 ^ 10
def lwRows (w : Word) : Nat := w.toNat / 2 ^ 12 % 16 + 1
def lwCols (w : Word) : Nat := w.toNat / 2 ^ 8 % 16 + 1
def lwSkip (w : Word) : Nat := w.toNat % 2 ^ 8
def lwCond (w : Word) : Nat := w.toNat / 2 ^ 23 % 8
def lwLow4 (w : Word) : Nat := w.toNat % 16

/-- The bits that are reserved, and must be zero, in an instruction of opcode `op` (R159, R160). -/
def lwReserved (op : Nat) : Word :=
  if op ≤ 1 then 0x03FFFFFF#32
  else if op ≤ 3 then 0x0001E000#32
  else if op ≤ 5 then 0x001FFC00#32
  else if op = 6 then 0x001E0000#32
  else if op = 7 ∨ op = 16 ∨ op = 20 ∨ op = 24 then 0x0000FFFF#32
  else if op ≤ 15 then 0x000007FF#32
  else if op = 17 then 0x0000007F#32
  else if op = 18 then 0x03FFF000#32
  else if op = 19 then 0x0060FF00#32
  else if op ≤ 23 then 0x000007FF#32
  else if op = 25 then 0x03FFFFF0#32
  else if op = 26 then 0x000FFFF0#32
  else if op = 27 then 0x03FFFF00#32
  else if op ≤ 30 then 0x000007FF#32
  else 0x001FFFF0#32

/-- Check 0x10: reserved opcode, reserved bit, or reserved field value. -/
def lwBad10 (w : Word) : Bool :=
  32 ≤ lwOp w || (w &&& lwReserved (lwOp w)) ≠ 0 || (lwOp w = 19 && lwCond w = 7) ||
    (lwOp w = 25 && 8 < lwLow4 w)

/-- Check 0x11: a register range beyond X31. -/
def lwBad11 (w : Word) : Bool :=
  let op := lwOp w
  ((op = 2 || op = 3) && 32 < lwD w + lwN w) ||
    (op = 17 && (32 < lwD w + lwRows w || 32 < lwA w + lwCols w)) ||
    (op = 20 && 32 < lwD w + 2) || (op = 21 && (32 < lwD w + 2 || 32 < lwA w + 2))

/-- An input port of R162. -/
def portIsIn (p : Nat) : Bool :=
  let u := p / 64
  let f := p % 64
  if u < 4 then f ≤ 10 || f = 16 || f = 17
  else if u < 6 then f ≤ 3
  else if u < 15 then f ≤ 3
  else u = 15 && f ≤ 2

/-- An output port of R162. -/
def portIsOut (p : Nat) : Bool :=
  let u := p / 64
  let f := p % 64
  if u < 4 then f = 32 || f = 33 || f = 34 || f = 36 || f = 37
  else if u < 6 then 32 ≤ f && f ≤ 35
  else u < 15 && f = 32

/-- Writes an instruction stages (R160). -/
def lwStaged (w : Word) : Nat :=
  let op := lwOp w
  if op = 3 then lwN w else if op = 5 || op = 25 || op = 26 || op = 27 then 1 else 0

/-- Cost of an instruction over the cost base `base` (R160, R181); a taken branch adds 1. -/
def lwCost (base : Nat → Nat) (w : Word) : Nat :=
  let op := lwOp w
  base op + (if op = 2 || op = 3 then lwN w else if op = 17 then (lwRows w + 7) / 8 * lwCols w else 0)

/-- What the paths that reach an instruction carry: highest CP, most staged writes, highest cost. -/
abbrev PathInfo := Nat × Nat × Nat

/-- The worse of two ways to reach an instruction. -/
def pathJoin (a b : PathInfo) : PathInfo := (max a.1 b.1, max a.2.1 b.2.1, max a.2.2 b.2.2)

/-- State of the check as it walks the program. -/
structure ProgCheck where
  /-- How each offset ahead can be reached. -/
  reach : SMap (Option PathInfo)
  /-- First violation: ERR and WHERE. -/
  bad : Option (Nat × Nat)
  /-- Worst cost to an END, and most staged writes. -/
  wcet : Nat
  staged : Nat
  deriving DecidableEq, Repr

/-- Add a way to reach offset `i`. -/
def ProgCheck.arrive (c : ProgCheck) (i : Nat) (p : PathInfo) : ProgCheck :=
  { c with reach := c.reach.set i (match c.reach.get i none with
      | none => some p
      | some q => some (pathJoin p q)) none }

/-- Check the instruction at offset `i` of a program of length `len` (R173, checks 0x10 to 0x17 in order). -/
def ProgCheck.step (base : Nat → Nat) (len dbase : Nat) (w : Word) (i : Nat) (c : ProgCheck) : ProgCheck :=
  if c.bad.isSome then c
  else
    let op := lwOp w
    let fail := fun e => { c with bad := some (e, i) }
    let last := len ≤ i + 1
    if lwBad10 w then fail 0x10
    else if lwBad11 w then fail 0x11
    else if op = 19 && (lwSkip w = 0 || len ≤ i + 1 + lwSkip w) then fail 0x12
    else
      match c.reach.get i none with
      | none =>
        if op = 4 && !portIsIn (lwPort w) || op = 5 && !portIsOut (lwPort w) then fail 0x17 else c
      | some (cp, st, cost) =>
        let addr := if lwMode w then lwAddr w else dbase + lwAddr w
        let st' := st + lwStaged w
        let cost' := cost + lwCost base w
        if op ≠ 1 && op ≠ 19 && last then fail 0x13
        else if op = 19 && lwCond w ≠ 0 && last then fail 0x13
        else if (op = 2 || op = 3) && 8192 < addr + lwN w then fail 0x14
        else if op = 3 && !lwMode w && addr < 0x200 then fail 0x14
        else if op = 17 && 4096 < cp + lwRows w * lwCols w then fail 0x15
        else if 64 < st' then fail 0x16
        else if op = 4 && !portIsIn (lwPort w) || op = 5 && !portIsOut (lwPort w) then fail 0x17
        else
          let cp' := if op = 18 then w.toNat % 2 ^ 12 else if op = 17 then cp + lwRows w * lwCols w else cp
          if op = 1 then { c with wcet := max c.wcet cost', staged := max c.staged st' }
          else if op = 19 then
            let c := c.arrive (i + 1 + lwSkip w) (cp', st', cost' + 1)
            if lwCond w = 0 then c else c.arrive (i + 1) (cp', st', cost')
          else c.arrive (i + 1) (cp', st', cost')

/-- The check of program `p` (R173): ERR (0 when it passes), WHERE, WCET and the most staged writes. -/
def Block.checkProg (b : Block) (p : Nat) : Nat × Nat × Nat × Nat :=
  let entry := b.fld (LE_PDESC_p_W0_ENTRY p)
  let len := b.fld (LE_PDESC_p_W0_LEN p)
  if len = 0 ∨ 4096 < entry + len then (0x18, 0, 0, 0)
  else
    let c0 : ProgCheck := ⟨[(0, some (b.fld (LE_PDESC_p_W1_CBASE p), 0, 6))], none, 0, 0⟩
    let c := (List.range len).foldl
      (fun c i => c.step b.opCost len (b.fld (LE_PDESC_p_W1_DBASE p)) (b.rd (LE_PMEM_i (entry + i))) i) c0
    match c.bad with
    | some (e, i) => (e, i, 0, 0)
    | none => (0, 0, c.wcet, c.staged)

/-! ### The patch image (R178) -/

/-- The first `n` bytes of the staging window, little-endian. -/
def Block.stageBytes (b : Block) (n : Nat) : List Byte :=
  (List.range n).map fun i => ((b.rd (LE_PSTAGE (i / 4))) >>> (8 * (i % 4))).setWidth 8

/-- A little-endian number from `n` bytes at `i`. -/
def leNum (bs : List Byte) (i n : Nat) : Nat :=
  (List.range n).foldl (fun acc k => acc + (bs.getD (i + k) 0).toNat * 2 ^ (8 * k)) 0

/-- The check of a patch image: the ERR code, 0 when it passes, and the parsed image (R178). -/
def Block.checkPatch (b : Block) : Nat × LePatch :=
  let h := b.stageBytes 144
  let nw := leNum h 12 2
  let nm := leNum h 14 1
  let img := b.stageBytes (144 + 8 * nw + 96)
  let ms := (List.range 16).map fun k => BitVec.ofNat 32 (leNum h (16 + 4 * k) 4)
  let used := ms.filter fun m => m.getLsbD 31
  let p : LePatch :=
    { version := BitVec.ofNat 16 (leNum h 8 2)
      matches_ := ms
      costs := (List.range 64).map fun k => leNum h (80 + k) 1
      words := (List.range nw).map fun k => BitVec.ofNat 48 (leNum img (144 + 8 * k) 6) }
  let err :=
    if leNum h 0 4 ≠ 0x5450454C ∨ leNum h 4 2 ≠ 0x0100 then 0x20
    else if leNum h 6 2 ≠ b.fld LE_PATCH_STAT_ROMREV then 0x21
    else if !Config.patchSigOk img then 0x22
    else if nw = 0 ∨ 1024 < nw ∨ 16 < nm ∨ used.length ≠ nm ∨ leNum h 15 1 ≠ 0 ∨
        used.any (fun m => nw ≤ m.toNat / 2 ^ 16 % 1024 || Config.fixedMicro (m.toNat % 4096)) then 0x23
    else if (List.range 4).any fun s => b.on (SEs_LSAFE_WGATE s) then 0x24
    else 0
  (err, p)

/-! ### Starting and ending a load (R172) -/

/-- Start a load of `kind`: a GO written while BUSY is 1 is ignored. -/
def Block.startLoad (b : Block) (kind index : Nat) : Block :=
  if b.on LE_LOAD_STAT_BUSY then b
  else
    let b := (b.setFld LE_LOAD_KIND kind).setFld LE_LOAD_STAT_BUSY 1
    let b := if kind = 3 then b.setFld LE_LOAD_INDEX index else b
    b.modLe fun l => { l with load := some ⟨kind, index⟩ }

/-- The shadow table (R174, R181). -/
def Block.shadowTable (b : Block) : List (Word × Word) :=
  (List.range 48).map fun k => (b.rd (LE_SLOTSH_k_W0 k), b.rd (LE_SLOTSH_k_W1 k))

/-- First entry of a table that fails its check: ERR and index (R174). -/
def Block.checkTable (b : Block) (t : List (Word × Word)) : Nat × Nat :=
  match (List.range 48).find? fun k => b.checkEntry k (t.getD k (0, 0)) ≠ 0 with
  | none => (0, 0)
  | some k => (b.checkEntry k (t.getD k (0, 0)), k)

/-- LOAD_SHADOW_TABLE (R172, R174): KIND 1. -/
def execLoadShadowTable (s : State) : Host.Outcome State Fault Refusal :=
  s.upd fun b => b.startLoad 1 0

/-- LOAD_DEFAULT_TABLE (R38, R172): KIND 2. -/
def execLoadDefaultTable (s : State) : Host.Outcome State Fault Refusal :=
  s.upd fun b => b.startLoad 2 0

/-- LOAD_PROGRAM (R172, R173): KIND 3. -/
def execLoadProgram (index : Fin 256) (s : State) : Host.Outcome State Fault Refusal :=
  s.upd fun b => b.startLoad 3 index

/-- LOAD_PATCH (R172, R178): KIND 4. -/
def execLoadPatch (s : State) : Host.Outcome State Fault Refusal :=
  s.upd fun b => b.startLoad 4 0

/-- The first check that a load fails, by the contents as it ends: ERR (0 when it passes) and WHERE (R173, R174,
R178). KIND 2 cannot fail. -/
def Block.loadCheck (b : Block) (l : LeLoad) : Nat × Nat :=
  if l.kind = 1 then b.checkTable b.shadowTable
  else if l.kind = 3 then ((b.checkProg l.index).1, (b.checkProg l.index).2.1)
  else if l.kind = 4 then (b.checkPatch.1, 0)
  else (0, 0)

/-- The effect of a load that passed (R36, R172, R173, R179). -/
def Block.finishLoad (b : Block) (l : LeLoad) : Block :=
  if l.kind = 1 then b.modLe fun x => { x with table := some b.shadowTable }
  else if l.kind = 2 then
    b.modLe fun x => { x with table := some ((List.range 48).map (defaultSlot b.part)) }
  else if l.kind = 3 then
    let (_, _, wcet, st) := b.checkProg l.index
    let b := (b.setFld (LE_PDESC_p_W2_WCET l.index) wcet).setFld (LE_PDESC_p_W2_NSTAGED l.index) st
    b.setFld (LE_PDESC_p_W0_VALID l.index) 1
  else b.modLe fun x => { x with patch := some b.checkPatch.2 }

/-- LOAD_COMPLETE (R172): OK, ERR and WHERE are set and source 8 or 9 raised; a failed load changes nothing
in the live state. A program load also reports in its descriptor (LE_PDESC_p_W3). -/
def execLoadComplete (s : State) : Host.Outcome State Fault Refusal :=
  s.upd fun b =>
    match b.le.load with
    | none => b
    | some l =>
      let (err, wher) := b.loadCheck l
      let b := (b.modLe fun x => { x with load := none }).setFld LE_LOAD_STAT_BUSY 0
      let b := (b.setFld LE_LOAD_STAT_KIND l.kind).setFld LE_LOAD_STAT_ERR err
      let b := (b.setFld LE_LOAD_STAT_WHERE wher).setBit LE_LOAD_STAT_OK (err = 0)
      let b := if l.kind = 3 then
          (b.setFld (LE_PDESC_p_W3_ERR l.index) err).setFld (LE_PDESC_p_W3_WHERE l.index) wher
        else b
      if err = 0 then (b.finishLoad l).raise 8 else b.raise 9

/-- Every consecutive-miss count is 0 (R179). -/
def Block.noMisses (b : Block) : Bool :=
  b.le.third.isEmpty && (List.range 48).all fun k => b.fld (missFld k) = 0

/-- PATCH_ACTIVATION (R179): with every miss count 0, the match registers are disabled, patch RAM and the
cost bases written, and two ticks pass without dispatch; the new matches act at the third preamble. -/
def execPatchActivation (s : State) : Host.Outcome State Fault Refusal :=
  s.upd fun b =>
    match b.le.patch with
    | none => b
    | some p =>
      if b.le.actLeft ≠ 0 || !b.noMisses then b
      else
        let b := (List.range 16).foldl (fun b k => b.setFld (LE_MATCH_k_EN k) 0) b
        let b := (p.words.zipIdx).foldl (fun b e =>
          (b.wr (LE_PRAM_LO e.2) (e.1.setWidth 32)).wr (LE_PRAM_HI e.2) ((e.1 >>> 32).setWidth 32)) b
        let b := (List.range 64).foldl (fun b k =>
          (b.setFld (LE_OPCOST_k_PATCHED k) 1).setFld (LE_OPCOST_k_BASE k) (p.costs.getD k 0)) b
        b.modLe fun l => { l with actLeft := 3 }

/-! ### Master writes (R156, R167, R175, R179) -/

/-- LIVE_SLOT_WRITE (R175): EN acts at once; every other field reads back at once and is applied in the next
preamble. DIV and BUDGET of entries 0 to 3 ignore writes, FIXED is read-only. -/
def execLiveSlotWrite (k : Fin 48) (second : Bool) (v : Word) (s : State) :
    Host.Outcome State Fault Refusal :=
  s.upd fun b =>
    let b :=
      if second then
        let m := if k.val < 4 then 0xF0000000#32 else 0xF00007FF#32
        b.wr (LE_SLOT_k_W1 k) ((b.rd (LE_SLOT_k_W1 k) &&& ~~~m) ||| (v &&& m))
      else
        let m := if k.val < 4 then 0x80FF00FF#32 else 0x80FFFFFF#32
        b.wr (LE_SLOT_k_W0 k) ((b.rd (LE_SLOT_k_W0 k) &&& ~~~m) ||| (v &&& m))
    b.modLe fun l => { l with dirty := insertSrc k l.dirty }

/-- The offset lies in an LE memory that holds writes (R167): descriptors, program, data, coefficients. -/
def inLeMemory (o : Nat) : Bool := o % 4 = 0 && 0x82000 ≤ o && o < 0xA0000 && !(0x83000 ≤ o && o < 0x84000)

/-- A master write to an LE memory (R167): held while an execution is in progress, at most 16; a further one
stalls; else applied. -/
def Block.leMemWrite (b : Block) (o : Nat) (v : Word) : Block :=
  if !inLeMemory o then b
  else if b.le.run.isNone then b.applyHeld (o, v)
  else if b.le.held.length < 16 then b.modLe fun l => { l with held := l.held ++ [(o, v)] }
  else b.modLe fun l => { l with stalled := l.stalled ++ [(o, v)] }

/-- LE_MEMORY_WRITE (R167, R174). -/
def execLeMemoryWrite (o : BitVec 22) (v : Word) (s : State) : Host.Outcome State Fault Refusal :=
  s.upd fun b => b.leMemWrite o.toNat v

/-- COEF_SWAP (R156): requests merge until the next preamble. -/
def execCoefSwap (s : State) : Host.Outcome State Fault Refusal :=
  s.upd fun b => b.modLe fun l => { l with swap := true }

/-- COEF_SET (R156): SET takes effect in the next preamble; bits of absent units stay 0 (R491). -/
def execCoefSet (set : BitVec 6) (s : State) : Host.Outcome State Fault Refusal :=
  s.upd fun b => b.setFld LE_COEF_CTL_SET (if b.part.hasSurf 2 then set else set &&& 0x13#6).toNat

/-- MATCH_DISABLE (R179). -/
def execMatchDisable (k : Fin 16) (s : State) : Host.Outcome State Fault Refusal :=
  s.upd fun b => b.setFld (LE_MATCH_k_EN k) 0

end Sys2Proof.Machine
end

