-- ==== Sys2Proof/Machine/DramOps.lean ====
section
/-!
DEFINITION. Access to the buffer memory (14_buffer_cache_and_dma.md R368 to R374, R377): words with their
check symbols, the merge buffer, the correctable-error bucket, and coherence with the map cache.
-/

namespace Sys2Proof.Machine

def Block.modDram (b : Block) (f : Dram → Dram) : Block := { b with dram := f b.dram }

/-- Size of the data space: 14 GiB (R368). -/
def dramSize : Nat := 0x380000000

/-- What a byte of DRAM that nothing has written reads as (DESIGN CHOICE, notes/assumptions/6.md, unsafe). -/
def dramDefault : Byte := 0

/-- A byte as DRAM holds it. -/
def Dram.cell (d : Dram) (a : Nat) : Byte := d.mem.get a dramDefault

/-- The merge entry of word `w`. -/
def Dram.entry (d : Dram) (w : Nat) : Option MergeEntry := d.merge.find? fun e => e.word = w

/-- Sector `s` of line `l` is set in the mask. -/
def secOn (m : BitVec 4) (s : Nat) : Bool := m.getLsbD s

/-- The line of MC, or of the victim buffer, that holds sector `w % 4` of word `w` dirty. -/
def Dram.dirtyLine (d : Dram) (w : Nat) : Option McLine :=
  (d.lines ++ d.victim).find? fun l => l.line = w / 4 && secOn l.dirty (w % 4)

/-- The value that a read of byte `a` returns (R370, R377): a dirty cached sector, else the merge buffer, else
DRAM. -/
def Dram.byte (d : Dram) (a : Nat) : Byte :=
  match d.dirtyLine (a / 64) with
  | some l => vget l.data (Fin.ofNat 256 (a % 256))
  | none =>
    match d.entry (a / 64) with
    | some e => if e.mask.getLsbD (a % 64) then vget e.data (Fin.ofNat 64 (a % 64)) else d.cell a
    | none => d.cell a

/-- `n` bytes from address `a`, without any error. -/
def Dram.bytes (d : Dram) (a n : Nat) : List Byte := (List.range n).map fun i => d.byte (a + i)

/-- Write bytes into DRAM itself; beyond its 14 GiB there is nothing to write (R368). -/
def Dram.poke (d : Dram) (a : Nat) : List Byte → Dram
  | [] => d
  | x :: t =>
    if dramSize ≤ a then d else Dram.poke { d with mem := d.mem.set a x dramDefault } (a + 1) t

/-- Set or clear the error of a word: 0 none. -/
def Dram.setFlaw (d : Dram) (w n : Nat) : Dram := { d with flaw := d.flaw.set w n 0 }

/-- Write a whole word into DRAM with new check symbols; an older merge entry of it is void. -/
def Dram.putWord (d : Dram) (w : Nat) (bytes : List Byte) : Dram :=
  ({ d with merge := d.merge.filter fun x => x.word ≠ w }.poke (64 * w) bytes).setFlaw w 0

def Dram.flawOf (d : Dram) (w : Nat) : Nat := d.flaw.get w 0

/-- A symbol error strikes a word (R369): a second symbol makes the word uncorrectable; `n` 64 or more strikes
two symbols at once. -/
def Block.strike (b : Block) (w n : Nat) : Block :=
  let f := b.dram.flawOf w
  let f' := if n < 36 then (if f = 0 ∨ f = n + 1 then n + 1 else 64) else 64
  b.modDram fun d => d.setFlaw w f'

/-- Record the address of word `w` in an address pair of registers. -/
def Block.putWordAddr (b : Block) (lo hi : Fld) (w : Nat) : Block :=
  (b.setFld lo (w % 2 ^ 26)).setFld hi (w / 2 ^ 26)

/-- One corrected read (R374): the counters, the address and the bucket, which at LIMIT overflows. -/
def Block.corrected (b : Block) (w sym : Nat) : Block :=
  let b := (b.bump DR_CE_CNT_COUNT 1).putWordAddr DR_CE_ADDR_LO_ADDR DR_CE_ADDR_HI_ADDR w
  let b := b.setFld DR_CE_ADDR_LO_SYM sym
  let l := b.fld DR_CE_BKT_LEVEL + 1
  if b.dram.limit ≤ l then
    ((b.setFld DR_CE_BKT_LEVEL 0).bump DR_CE_OVF_COUNT 1).raise 1352
  else b.setFld DR_CE_BKT_LEVEL l

/-- Record an uncorrectable word (R371 to R373): `poison` found by a merge write, `scrub` by the scrubber. -/
def Block.ueRecord (b : Block) (w req : Nat) (scrub poison : Bool) : Block :=
  let b := b.putWordAddr DR_UE_ADDR_LO_ADDR DR_UE_ADDR_HI_ADDR w
  let b := (b.setBit DR_UE_INFO_POISON poison).setBit DR_UE_INFO_SCRUB scrub
  (b.setFld DR_UE_INFO_REQ req).bump DR_UE_INFO_COUNT 1

/-- The bytes of a merge entry written into DRAM itself, the entry gone. -/
def Dram.mergeOut (d : Dram) (e : MergeEntry) : Dram :=
  (List.range 64).foldl (fun d i =>
    if e.mask.getLsbD i then d.poke (64 * e.word + i) [vget e.data (Fin.ofNat 64 i)] else d)
    { d with merge := d.merge.filter fun x => x.word ≠ e.word }

/-- Write a merge entry to DRAM (R371): a partial one by read, correct, merge and write. -/
def Block.flushEntry (b : Block) (e : MergeEntry) : Block :=
  let w := e.word
  let b := b.modDram fun d => d.mergeOut e
  if e.mask = BitVec.allOnes 64 then b.modDram fun d => d.setFlaw w 0
  else
    let f := b.dram.flawOf w
    if f = 0 then b
    else if f < 64 then (b.corrected w (f - 1)).modDram fun d => d.setFlaw w 0
    else (b.ueRecord w (b.fld DR_UE_INFO_REQ) false true).raise 1356

/-- Write the merge entry of word `w` to DRAM, where there is one. -/
def Block.flushWord (b : Block) (w : Nat) : Block :=
  match b.dram.entry w with
  | some e => b.flushEntry e
  | none => b

/-- A cached copy of a word takes the bytes of another master's write (R377). -/
def McLine.update (l : McLine) (a : Nat) (bytes : List Byte) : McLine :=
  if l.line = a / 256 ∧ secOn l.valid (a / 64 % 4) then
    { l with data := bytes.zipIdx.foldl (fun v x => vset v (Fin.ofNat 256 ((a + x.2) % 256)) x.1) l.data }
  else l

/-- A merge entry with further bytes of its word. -/
def MergeEntry.merged (e : MergeEntry) (a : Nat) (bytes : List Byte) : MergeEntry :=
  bytes.zipIdx.foldl (fun (e : MergeEntry) x =>
    { e with mask := e.mask ||| BitVec.ofNat 64 (2 ^ ((a + x.2) % 64))
             data := vset e.data (Fin.ofNat 64 ((a + x.2) % 64)) x.1 }) e

/-- Room for a new merge entry: with 32 in use the oldest is written (R371). -/
def Block.mergeRoom (b : Block) : Block :=
  match b.dram.merge with
  | [] => b
  | e :: _ => if 32 ≤ b.dram.merge.length then b.flushEntry e else b

/-- A partial write enters the merge buffer (R371). -/
def Block.mergeWrite (b : Block) (a : Nat) (bytes : List Byte) : Block :=
  if (b.dram.entry (a / 64)).isSome then
    b.modDram fun d => { d with
      merge := d.merge.map fun (e : MergeEntry) => if e.word = a / 64 then e.merged a bytes else e }
  else
    b.mergeRoom.modDram fun d =>
      { d with merge := d.merge ++ [MergeEntry.merged ⟨a / 64, 0, Vector.replicate 64 0⟩ a bytes] }

/-- A merge entry whose every byte is written goes to DRAM (R371). -/
def Block.mergeFull (b : Block) (w : Nat) : Block :=
  match b.dram.entry w with
  | some e => if e.mask = BitVec.allOnes 64 then b.flushEntry e else b
  | none => b

/-- One write within a word (R370, R371, R377). -/
def Block.writeWord (b : Block) (a : Nat) (bytes : List Byte) : Block :=
  let w := a / 64
  let b := b.modDram fun d =>
    { d with lines := d.lines.map (McLine.update · a bytes), victim := d.victim.map (McLine.update · a bytes) }
  if bytes.length = 64 then
    b.modDram fun d => d.putWord w bytes
  else
    let b := b.mergeWrite a bytes
    (b.setFld DR_MERGE_PEAK (max (b.fld DR_MERGE_PEAK) b.dram.merge.length)).mergeFull w

/-- Write bytes from address `a` on, word by word; `fuel` bounds the words. -/
def Block.dramWriteN (b : Block) (fuel a : Nat) (bytes : List Byte) : Block :=
  match fuel with
  | 0 => b
  | fuel + 1 =>
    if bytes.isEmpty then b
    else
      let n := 64 - a % 64
      (b.writeWord a (bytes.take n)).dramWriteN fuel (a + n) (bytes.drop n)

/-- Write bytes to DRAM as any master does (R370). -/
def Block.dramWrite (b : Block) (a : Nat) (bytes : List Byte) : Block :=
  b.dramWriteN (bytes.length / 64 + 2) a bytes

/-- Read one word at DR for a requester (R369, R372, R374): whether it is uncorrectable, and the block. A word
that is dirty in the cache is answered from there (R377). -/
def Block.readWord (b : Block) (req : Requester) (w : Nat) : Bool × Block :=
  if (b.dram.dirtyLine w).isSome then (false, b)
  else
    let f := b.dram.flawOf w
    if f = 0 then (false, b)
    else if f < 64 then (false, b.corrected w (f - 1))
    else (true, (b.ueRecord w req.code false false).raise 1353)

/-- Read `n` bytes from DRAM (R370, R372): the bytes, whether a word of them was uncorrectable, the block. -/
def Block.dramRead (b : Block) (req : Requester) (a n : Nat) : List Byte × Bool × Block :=
  let ws := if n = 0 then [] else (List.range ((a + n - 1) / 64 - a / 64 + 1)).map (a / 64 + ·)
  let r := ws.foldl (fun (r : Bool × Block) w => let x := r.2.readWord req w; (r.1 || x.1, x.2)) (false, b)
  (b.dram.bytes a n, r.1, r.2)

/-- A little-endian value in DRAM. -/
def Block.dramVal (b : Block) (a n : Nat) : Nat := leVal (b.dram.bytes a n)

/-- One scrub step (R373): the merge entry of the word is written first, a corrected word is written back
corrected, an uncorrectable one is left. -/
def Block.scrubWord (b : Block) : Block :=
  let w := b.fld DR_SCRUB_POS_POS
  let b := b.flushWord w
  let f := b.dram.flawOf w
  let b :=
    if f = 0 then b
    else if f < 64 then (b.corrected w (f - 1)).modDram fun d => d.setFlaw w 0
    else (b.ueRecord w (b.fld DR_UE_INFO_REQ) true false).raise 1354
  if dramSize / 64 ≤ w + 1 then ((b.setFld DR_SCRUB_POS_POS 0).bump DR_SCRUB_PASS_COUNT 1).raise 1355
  else b.setFld DR_SCRUB_POS_POS (w + 1)

/-- The scrubber's work of one tick (R373): RATE words, where it runs and is given the DRAM. -/
def Block.scrubTick (b : Block) : Block :=
  if b.on DR_CTL_SCRUB_EN && b.on DR_STAT_READY then
    (List.range b.dram.rate).foldl (fun b _ => b.scrubWord) b
  else b

/-- Values of DR that take effect at the next tick (R392), and the parity window of MC (R381). -/
def Block.dramTick (b : Block) : Block :=
  let b := b.modDram fun d =>
    { d with rate := b.fld DR_SCRUB_RATE, limit := b.fld DR_CE_BKT_LIMIT, leak := b.fld DR_CE_LEAK_LEAK }
  if b.dram.parStart + b.fld MC_PAR_WIN ≤ b.now then
    let b := b.modDram fun d => { d with parStart := b.now }
    (List.range 4).foldl (fun b k => b.wr (MC_PAR_CNT_k k) 0) b
  else b

end Sys2Proof.Machine
end

