-- ==== Sys2Proof/Machine/IrqCmds.lean ====
section
/-!
DEFINITION. The commands of the interrupt controller (17_interrupts.md).
-/

namespace Sys2Proof.Machine

/-- Mark source `n` active, taken by `who` (R434, R435). -/
def activate (act : List (Nat × Nat)) (n who : Nat) : List (Nat × Nat) :=
  act.filter (fun e => e.1 ≠ n) ++ [(n, who)]

/-- CLAIM (R434): a read of IC_CLAIM_t takes the lowest-numbered pending source routed to target `t` (0 to 3
the cores, 4 PIN), whatever the disable and moderation state. -/
def execClaim (m : Master) (t : Fin 5) (s : State) : Host.Outcome State Fault Refusal :=
  s.upd fun b =>
    match b.tgtPend t with
    | [] => b.answer m 0
    | n :: _ =>
      let b := b.modIrq fun i => { i with act := activate i.act n t }
      (b.clearPend fun k => k = n).answer m (0x80000000#32 ||| BitVec.ofNat 32 n)

/-- EOI (R434, R436): ends the service of a source active at target `t`; any other is ignored and counted. -/
def execEoi (t : Fin 5) (n : BitVec 11) (s : State) : Host.Outcome State Fault Refusal :=
  s.upd fun b =>
    if b.irq.act.contains (n.toNat, t.val) then
      b.modIrq fun i => { i with act := i.act.filter fun e => e ≠ (n.toNat, t.val) }
    else b.bump IC_ERR_BADEOI 1

/-- HOST_EOI (R435, R436): ends the service of vector `v`; a delivery that is due is then made. -/
def execHostEoi (v : Fin 128) (s : State) : Host.Outcome State Fault Refusal :=
  s.upd fun b =>
    (b.modIrq fun i => { i with act := i.act.filter fun e => e.2 ≠ 8 + v.val }).tryVec v

/-- FORCE_RAISE (R431): raises a source as its owner would; absent and reserved sources are ignored (R429). -/
def execForceRaise (n : BitVec 11) (s : State) : Host.Outcome State Fault Refusal :=
  s.upd fun b => b.raise n.toNat

/-- Forward every source held for PEER, in ascending order (R438). -/
def Block.releasePeer (b : Block) : Block :=
  if b.onBit IC_TGT_CTL_DIS 6 then b
  else
    let hs := b.irq.peerHeld
    let b := b.modIrq fun i => { i with peerHeld := [] }
    hs.foldl (fun b n => b.forward n) b

/-- TARGET_DISABLE (R438): DIS takes the value written; deliveries whose hold ends are made in that cycle. -/
def execTargetDisable (dis : BitVec 7) (s : State) : Host.Outcome State Fault Refusal :=
  s.upd fun b => ((b.setFld IC_TGT_CTL_DIS dis.toNat).settle).releasePeer

/-- HOLDOFF_EXPIRY (R439): HOLDOFF ticks have passed at host vector `i`, or at core `i`; delivery is due. -/
def execHoldoffExpiry (host : Bool) (i : Fin 128) (s : State) : Host.Outcome State Fault Refusal :=
  s.upd fun b =>
    let m := if host then vget b.irq.vec i else vget b.irq.core (Fin.ofNat 4 i.val)
    match m.timer with
    | none => b
    | some e =>
      if b.now < e ∨ !host ∧ 4 ≤ i.val then b
      else
        let f := fun (m : Moder) => { m with timer := none, due := true }
        if host then (b.modVec i f).tryVec i else b.modCore i f

/-- PEER_FIFO_READ (R441, R442): the oldest forwarded number is returned and removed; OVF is returned and
cleared. -/
def execPeerFifoRead (m : Master) (s : State) : Host.Outcome State Fault Refusal :=
  s.upd fun b =>
    let ovf : Nat := if b.irq.peerOvf then 2 ^ 30 else 0
    let v : Nat := match b.irq.peerFifo with | [] => 0 | n :: _ => 2 ^ 31 + n.toNat
    (b.modIrq fun i => { i with peerFifo := i.peerFifo.tail, peerOvf := false }).answer m
      (BitVec.ofNat 32 (v + ovf))

/-- MSIX_UNMASK (R433): vector `v` is unmasked and sends if its delivery is still due. -/
def execMsixUnmask (v : Fin 128) (s : State) : Host.Outcome State Fault Refusal :=
  s.upd fun b => (b.wr (MSIX_CTRL v) 0).tryVec v

end Sys2Proof.Machine
end

