-- ==== Sys2Proof/Machine/Peat.lean ====
section
/-!
DEFINITION. Peat, the staging flash (13_peat_staging.md R342 to R367).
-/

namespace Sys2Proof.Machine


/-! ### Descriptors (R350) -/

/-- Bits [hi:lo] of DWORD `n` of a descriptor. -/
def PtDesc.bits (d : PtDesc) (n hi lo : Nat) : Nat := (vget d.dws (Fin.ofNat 8 n)).toNat / 2 ^ lo % 2 ^ (hi + 1 - lo)

def PtDesc.op (d : PtDesc) : Nat := d.bits 0 7 4
def PtDesc.irq (d : PtDesc) : Bool := d.bits 0 8 8 = 1
def PtDesc.jrnl (d : PtDesc) : Bool := d.bits 0 9 9 = 1
def PtDesc.slc (d : PtDesc) : Bool := d.bits 0 10 10 = 1
def PtDesc.bg (d : PtDesc) : Bool := d.bits 0 11 11 = 1
def PtDesc.ckpt (d : PtDesc) : Bool := d.bits 0 12 12 = 1
def PtDesc.tag (d : PtDesc) : Nat := d.bits 0 31 16
def PtDesc.die (d : PtDesc) : Nat := d.bits 1 4 0
def PtDesc.block (d : PtDesc) : Nat := d.bits 1 19 8
def PtDesc.page (d : PtDesc) : Nat := d.bits 2 9 0
def PtDesc.pmask (d : PtDesc) : Nat := d.bits 2 15 12
def PtDesc.rrl (d : PtDesc) : Nat := d.bits 2 19 16
def PtDesc.len (d : PtDesc) : Nat := d.bits 3 31 0
def PtDesc.daddr (d : PtDesc) : Nat := d.bits 4 31 0 + d.bits 5 31 0 * 2 ^ 32
def PtDesc.maddr (d : PtDesc) : Nat := d.bits 6 31 0 + d.bits 7 31 0 * 2 ^ 32

/-- Reads and rebuilds take data out of a die. -/
def PtDesc.reads (d : PtDesc) : Bool := d.op = 1 || d.op = 5

/-- Key of a block, and of a page. -/
def PtDesc.key (d : PtDesc) : Nat := d.die * 4096 + d.block
def ptPage (key page : Nat) : Nat := key * 1024 + page

def Block.ptBlock (b : Block) (key : Nat) : PtBlock := b.pt.blocks.get key PtBlock.new

def Block.modPtBlock (b : Block) (key : Nat) (f : PtBlock → PtBlock) : Block :=
  b.modPt fun p => { p with blocks := p.blocks.set key (f (p.blocks.get key PtBlock.new)) PtBlock.new }

/-! ### Dense program order (R346) -/

/-- The physical pages of step `i`: (word line, 0 lower, 1 middle, 2 upper). -/
def ptStep (i : Nat) : List (Nat × Nat) :=
  (if i ≤ 191 then [(i, 0)] else []) ++ (if 1 ≤ i ∧ i ≤ 192 then [(i - 1, 1)] else []) ++
    (if 2 ≤ i then [(i - 2, 2)] else [])

/-- A parity position: the lower or middle page of the last word line of a group. -/
def ptParity (p : Nat × Nat) : Bool := p.1 % 16 = 15 && p.2 < 2

/-- The program order with its steps. -/
def ptOrder : List (Nat × Nat × Nat) := ((List.range 194).map fun i => (ptStep i).map fun p => (i, p)).flatten

/-- Step, word line and page kind of each data page, in order. -/
def ptData : List (Nat × Nat × Nat) := ptOrder.filter fun e => !ptParity e.2

/-- Place of data page `n` of a dense block. -/
def ptPlace (n : Nat) : Nat × Nat × Nat := ptData.getD n (0, 0, 0)

/-- Data pages that are programmed before the parity page of kind `k` (0 lower, 1 middle) of group `g`. -/
def ptBefore (g k : Nat) : Nat :=
  ((ptOrder.takeWhile fun e => e.2 ≠ (16 * g + 15, k)).filter fun e => !ptParity e.2).length

/-- The parity page of the die stripe of data page `n` is programmed once `done` data pages are: PT writes it at
its step, right after the data page before it. An upper page has none. -/
def ptCovered (n done : Nat) : Bool :=
  let (_, wl, k) := ptPlace n
  k = 2 || ptBefore (wl / 16) k ≤ done

/-- Data pages of the die stripe of data page `n`. -/
def ptStripe (n : Nat) : List Nat :=
  let (_, wl, k) := ptPlace n
  (List.range 552).filter fun m => (ptPlace m).2.1 / 16 = wl / 16 && (ptPlace m).2.2 = k

/-- Data pages that PAD leaves programmed: both parity pages of the group of the last page are (R347). -/
def ptPadTo (done : Nat) : Nat :=
  if done = 0 then 0 else max done (ptBefore (min 11 ((ptPlace (done - 1)).1 / 16)) 1)

/-! ### Completions and the journal -/

/-- Completions posted and not released. -/
def Block.ptCqUsed (b : Block) : Nat :=
  let n := b.fld PT_Q_SIZE_SIZE + 1
  (b.fld PT_CQ_TAIL_TAIL + n - b.fld PT_CQ_HEAD_HEAD) % n

/-- Base address of a ring. -/
def Block.ptBase (b : Block) (lo hi : Fld) : Nat := b.fld lo * 64 + b.fld hi * 2 ^ 32

/-- Post a completion (R352, R366): it is written to the completion ring. -/
def Block.ptPost (b : Block) (d : PtDesc) (status detail errcnt flags rrl info : Nat) : Block :=
  let t := b.fld PT_CQ_TAIL_TAIL
  let ph := b.fld PT_CQ_TAIL_PH
  let bytes := packBytes 16 [(0, 1, ph + 2 * status), (1, 1, detail), (2, 2, d.tag), (4, 2, d.slot + 4096 * d.op),
    (6, 1, d.die), (7, 1, errcnt), (8, 1, flags + 16 * rrl), (12, 4, min info (2 ^ 32 - 1))]
  let b := b.dramWrite (b.ptBase PT_CQ_BASE_LO_BASE PT_CQ_BASE_HI_BASE + 16 * t) bytes
  let wrap : Bool := b.fld PT_Q_SIZE_SIZE ≤ t
  let b := b.setFld PT_CQ_TAIL_TAIL (if wrap then 0 else t + 1)
  let b := if wrap then b.setFld PT_CQ_TAIL_PH (1 - ph) else b
  let b := if d.irq then b.raise 1288 else b
  if status ≠ 0 && status ≠ 0x51 then b.raise 1289 else b

/-- A plain completion. -/
def Block.ptEnd (b : Block) (d : PtDesc) (status detail info : Nat) : Block := b.ptPost d status detail 0 0 0 info

/-- Pages of the journal blocks: 512 blocks of 192, and two copies of each record that is not reclaimable (R355,
R357). -/
def Block.ptJrnlUsed (b : Block) : Nat :=
  2 * ((b.pt.recs.map fun r => (r.body.length + 64 + 65535) / 65536)).foldl (· + ·) 0

/-- Journal free, in percent, and its events (R357). -/
def Block.ptJrnlFree (b : Block) : Block :=
  let was := b.fld PT_JRNL_FREE
  let now := (98304 - b.ptJrnlUsed) * 100 / 98304
  let full : Bool := 98304 ≤ b.ptJrnlUsed
  let b := b.setFld PT_JRNL_FREE now
  let b := if 25 ≤ was && now < 25 then b.raise 1299 else b
  let b := if full && !b.on PT_STAT_JFULL then b.raise 1300 else b
  b.setBit PT_STAT_JFULL full

/-- A journal record is programmed: PT_JSEQ; a checkpoint makes the older ones reclaimable (R357). -/
def Block.ptRecDone (b : Block) (jseq : Nat) : Block :=
  let b := b.modPt fun p =>
    { p with recs := p.recs.map fun r => if r.jseq = jseq then { r with durable := true } else r }
  let ck := b.pt.recs.any fun r => r.jseq = jseq && r.ckpt
  let b := if ck then b.modPt fun p => { p with recs := p.recs.filter fun r => jseq ≤ r.jseq } else b
  let top := b.fld PT_JSEQ_LO_JSEQ + b.fld PT_JSEQ_HI_JSEQ * 2 ^ 32
  let b := if top < jseq then (b.setFld PT_JSEQ_LO_JSEQ (jseq % 2 ^ 32)).setFld PT_JSEQ_HI_JSEQ (jseq / 2 ^ 32) else b
  b.ptJrnlFree

/-- A record that PT writes itself (R355): die, block and a code. -/
def Block.ptOwn (b : Block) (jtype key code : Nat) (more : List (Nat × Nat × Nat)) : Block :=
  let n := b.pt.jseq
  let body := packBytes 16 ([(0, 1, key / 4096), (2, 2, key % 4096), (4, 1, code)] ++ more)
  let b := b.modPt fun p =>
    { p with jseq := n + 1, recs := p.recs ++ [⟨n, jtype, false, List.replicate 16 0, b.stamp.toNat, body, false⟩] }
  b.ptRecDone n

/-! ### Wear, retirement and pools (R343, R358, R361 to R363) -/

/-- Erased blocks of a die in service. -/
def Block.ptErased (b : Block) (die : Nat) : Nat :=
  3641 - 16 - (b.pt.blocks.filter fun e =>
    e.1 / 4096 = die && !ptJournal (e.1 % 4096) && (e.2.retired || e.2.mode.isSome)).length

/-- Fewest over the dies in service. -/
def Block.ptLeast (b : Block) (f : Nat → Nat) : Nat :=
  let ds := (List.range 32).filter fun d => !b.onBit PT_DIE_FAIL_FAIL d
  (ds.map f).foldl min ((ds.map f).headD 0)

/-- The figures of PT_POOL: the dump reserve of 3 erased blocks, and the free pool of 424 after the retirement
reserve of 91 (DEDUCED, notes/assumptions/19.md). -/
def Block.ptPool (b : Block) : Nat × Nat :=
  (b.ptLeast fun d => min 424 (b.ptErased d - 91), b.ptLeast fun d => min 3 (b.ptErased d))

/-- Health from wear and retirements; each fall by a whole point raises its event (R363). -/
def Block.ptHealth (b : Block) : Block :=
  let wear := (b.pt.blocks.map (·.2.wear)).foldl (· + ·) 0
  let hw := 100 - (100 * wear + 30000 * 116512 - 1) / (30000 * 116512)
  let hr := 100 - (100 * (b.pt.blocks.filter fun e => e.2.retired).length + 2911) / 2912
  let was := b.fld PT_HEALTH_HEALTH
  let now := min hw hr
  let b := ((b.setFld PT_HEALTH_HW hw).setFld PT_HEALTH_HR hr).setFld PT_HEALTH_HEALTH now
  (List.range (was - now)).foldl (fun b i => (b.raise 1293).async 7 0 (was - 1 - i)) b

/-- A block is retired (R362): its record, event and counter. -/
def Block.ptRetire (b : Block) (key cause : Nat) : Block :=
  if (b.ptBlock key).retired then b
  else
    let b := b.modPtBlock key fun x => { x with retired := true, closed := true, sched := false }
    (((b.ptOwn 0x14 key cause []).bump PT_CNT_RETIRE_COUNT 1).raise 1292).ptHealth

/-- The dump reserve of a die falls below 3 (R358). -/
def Block.ptReserve (b : Block) (die before : Nat) : Block :=
  if 3 ≤ before && b.ptErased die < 3 then b.raise 1294 else b

/-! ### Consumption (R349, R351) -/

/-- A reserved field of a descriptor is not zero. -/
def PtDesc.reservedSet (d : PtDesc) : Bool :=
  d.bits 0 3 1 ≠ 0 || d.bits 0 15 13 ≠ 0 || d.bits 1 7 5 ≠ 0 || d.bits 1 31 20 ≠ 0 || d.bits 2 11 10 ≠ 0 ||
    d.bits 2 31 20 ≠ 0 || (d.op ≠ 4 && d.len ≠ 0) || (d.op ≠ 1 && d.pmask ≠ 0xF) || (d.op ≠ 1 && d.rrl ≠ 0) ||
    (d.op ≠ 3 && d.jrnl) || (d.op ≠ 4 && d.ckpt) || (d.op = 4 && d.page ≠ 0) || d.daddr % 64 ≠ 0

/-- The checks of R351: status and DETAIL of the first that fails. -/
def Block.ptCheck (b : Block) (d : PtDesc) : Option (Nat × Nat) :=
  let x := b.ptBlock d.key
  if d.reservedSet then some (0x02, 0x01)
  else if d.op = 1 then
    if 3640 < d.block || ptPages d.slc ≤ d.page || x.next ≤ d.page || x.mode ≠ some d.slc then some (0x03, 0) else none
  else if d.op = 2 then
    if 3640 < d.block || x.retired || x.closed || ptJournal d.block || d.page ≠ x.next ||
        ptPages d.slc ≤ d.page || (x.mode.isSome && x.mode ≠ some d.slc) then some (0x02, 0x10)
    else if x.mode.isNone && !d.slc && b.on PT_STAT_HOT then some (0x02, 0x0F)
    else if b.on PT_STAT_STOP then some (0x12, 0x0F)
    else none
  else if d.op = 3 then
    if 3640 < d.block || ptJournal d.block || x.retired then some (0x02, 0x10) else none
  else if d.op = 4 then
    if b.on PT_STAT_JFULL then some (0x22, 0)
    else if d.len < 64 || 65536 < d.len || d.len % 64 ≠ 0 then some (0x02, 0x02)
    else none
  else if d.op = 5 then
    if 3640 < d.block || x.mode ≠ some false || x.pages ≤ d.page || (ptPlace d.page).2.2 = 2 ||
        !ptCovered d.page x.pages then some (0x03, 0)
    else none
  else if d.op = 6 then
    if 3640 < d.block || x.mode = some true || d.slc then some (0x02, 0x10) else none
  else some (0x02, 0x10)

/-- Take a descriptor that the ring gives (R351, R364). A PROGRAM names its page from here on, and the first
program after an erase opens the block. -/
def Block.ptTake (b : Block) (d : PtDesc) : Block :=
  match b.ptCheck d with
  | some (st, detail) => (b.setFld PT_STAT_QERR 1).ptEnd d st detail 0
  | none =>
    if b.onBit PT_DIE_FAIL_FAIL d.die then b.ptEnd d 0x7F 0x7F 0
    else
      let b :=
        if d.op ≠ 2 then b
        else
          let x := b.ptBlock d.key
          let before := b.ptErased d.die
          let b := b.modPtBlock d.key fun x => { x with mode := some d.slc, next := x.next + 1 }
          if x.mode.isNone then (b.ptOwn 0x12 d.key d.slc.toNat []).ptReserve d.die before else b
      b.modPt fun p => { p with waiting := p.waiting ++ [d] }

/-- The descriptor in a slot of the ring. -/
def Block.ptSlot (b : Block) (slot : Nat) : PtDesc :=
  let a := b.ptBase PT_DQ_BASE_LO_BASE PT_DQ_BASE_HI_BASE + 32 * slot
  ⟨slot, Vector.ofFn fun i => BitVec.ofNat 32 (b.dramVal (a + 4 * i.val) 4)⟩

/-- The head slot is passed. -/
def Block.ptAdvance (b : Block) : Block :=
  let h := b.fld PT_DQ_HEAD_HEAD
  let wrap : Bool := b.fld PT_Q_SIZE_SIZE ≤ h
  let b := b.modPt fun p => { p with reserved := p.reserved.filter fun r => r.1 ≠ h }
  let b := b.setFld PT_DQ_HEAD_HEAD (if wrap then 0 else h + 1)
  if wrap then b.setFld PT_DQ_HEAD_PH (1 - b.fld PT_DQ_HEAD_PH) else b

/-- The head slot is read; it is consumed when it carries the expected phase (R349). -/
def Block.ptConsume : Nat → Block → Block
  | 0, b => b
  | n + 1, b =>
    let h := b.fld PT_DQ_HEAD_HEAD
    let d := b.ptSlot h
    let ready : Bool := b.on PT_CTL_EN && b.on PT_STAT_READY && !b.on PT_CTL_DYKE &&
      d.bits 0 0 0 = b.fld PT_DQ_HEAD_PH
    if !ready then b else (b.ptAdvance.ptTake d).ptConsume n

/-! ### Dispatch (R353) -/

/-- The operation on a die. -/
def Block.ptOpOf (b : Block) (die : Nat) : Option PtOp := b.pt.ops.find? fun o => o.die = die || o.second = some die

/-- The descriptor of a die that is dispatched next: a foreground one first, a background one only where BGEN. -/
def Block.ptNext (b : Block) (die : Nat) : Option PtDesc :=
  let w := b.pt.waiting.filter fun d => d.die = die
  match w.find? fun d => !d.bg with
  | some d => some d
  | none => if b.on PT_CTL_BGEN then w.head? else none

/-- In reduced mode at most two dies of a channel program at once (R344). -/
def Block.ptMayProgram (b : Block) (die : Nat) : Bool :=
  !b.on PW_STAT_RMODE ||
    (b.pt.ops.filter fun o => o.die / 4 = die / 4 && !o.desc.reads && o.desc.op ≠ 3).length < 2

/-- Remove a waiting descriptor. -/
def Block.ptDrop (b : Block) (d : PtDesc) : Block := b.modPt fun p => { p with waiting := p.waiting.filter (· ≠ d) }

/-- An operation begins on its die, and on the die of a journal record's second copy. -/
def Block.ptGo (b : Block) (d : PtDesc) (second : Option Nat) (jseq : Nat) : Block :=
  b.modPt fun p => { p with ops := p.ops ++ [⟨d.die, second, d, jseq, b.now⟩] }

/-- A descriptor whose data DRAM cannot give ends with a bus error (R352). -/
def Block.ptBusErr (b : Block) (d : PtDesc) : Block := (b.ptEnd d 0x7F 0x7F 0).raise 1303

/-- A program: data and metadata leave DRAM as it begins. -/
def Block.ptStartProgram (b : Block) (d : PtDesc) : Block :=
  let r := b.dramRead .pt d.daddr 65536
  let m := r.2.2.dramRead .pt d.maddr 512
  if r.2.1 || m.2.1 then m.2.2.ptBusErr d
  else
    (m.2.2.modPt fun p =>
      { p with data := p.data.set (ptPage d.key d.page) r.1 []
               meta_ := p.meta_.set (ptPage d.key d.page) m.1 [] }).ptGo d none 0

/-- A journal record: its second copy goes to the next channel (DESIGN CHOICE, notes/assumptions/18.md). -/
def Block.ptStartJournal (b : Block) (d : PtDesc) : Block :=
  let r := b.dramRead .pt d.daddr d.len
  let b := r.2.2
  if r.2.1 then b.ptBusErr d
  else
    let n := b.pt.jseq
    (b.modPt fun p =>
      { p with jseq := n + 1
               recs := p.recs ++ [⟨n, byteAt r.1 4, d.ckpt || byteAt r.1 5 % 2 = 1, (r.1.drop 16).take 16,
                 b.stamp.toNat, r.1.drop 64, false⟩] }).ptGo d (some ((d.die + 4) % 32)) n

/-- Planes of a mask, in order. -/
def planesOf (m : Nat) : List Nat := (List.range 4).filter m.testBit

/-- Start a descriptor on its idle die. PROGRAM and JOURNAL take their data from DRAM; a bus error there ends the
descriptor with INTERNAL (R351). -/
def Block.ptStart (b : Block) (d : PtDesc) : Block :=
  let b := b.ptDrop d
  if d.op = 2 then
    if dramSize < d.daddr + 65536 || dramSize < d.maddr + 512 then b.ptBusErr d else b.ptStartProgram d
  else if d.op = 4 then
    if dramSize < d.daddr + d.len then b.ptBusErr d else b.ptStartJournal d
  else if d.op = 3 then (if d.jrnl then b.ptOwn 0x10 d.key 0 [] else b).ptGo d none 0
  else if d.reads && (dramSize < d.daddr + 16384 * (planesOf d.pmask).length ||
      dramSize < d.maddr + 128 * (planesOf d.pmask).length) then b.ptBusErr d
  else b.ptGo d none 0

/-- One die's next descriptor, dispatched where it may be. -/
def Block.ptDispatchDie (b : Block) (die : Nat) : Block :=
  match b.ptNext die with
  | none => b
  | some d =>
    match b.ptOpOf die with
    | some o =>
      if d.reads && !o.desc.reads then ((b.ptDrop d).ptEnd d 0x51 0 0).bump PT_CNT_BUSY_COUNT 1 else b
    | none => if d.reads || d.op = 3 || b.ptMayProgram die then b.ptStart d else b

/-- Dispatch whatever may be dispatched on every die. -/
def Block.ptDispatch (b : Block) : Block :=
  (List.range b.pt.waiting.length).foldl (fun b _ => (List.range 32).foldl Block.ptDispatchDie b) b

/-- PT_DIE_BUSY: programming or erasing. -/
def Block.ptBusy (b : Block) : Block :=
  b.setFld PT_DIE_BUSY_BUSY (((List.range 32).filter fun d => (b.ptOpOf d).elim false fun o => !o.desc.reads).foldl
    (fun m d => m + 2 ^ d) 0)

/-- The head is re-read, over one lap of the ring at most, and what may run is dispatched. -/
def Block.ptKick (b : Block) : Block := ((b.ptConsume (b.fld PT_Q_SIZE_SIZE + 1)).ptDispatch).ptBusy

/-! ### The ends of operations (R345, R347, R354, R356) -/

/-- Units whose page counts as programmed wait for their map entry to be journalled (R15). -/
def Block.ptUnits (b : Block) (us : List UnitKey) : Block := b.modPt fun p => { p with mapped := p.mapped ++ us }

/-- A journal record with the map entries of the units programmed so far is durable: they are at level Staging and
their DRAM copies are released (R15, R337). -/
def Block.ptStaged (b : Block) : Block :=
  let us := b.pt.mapped
  let mine := fun (x : Chunk) => us.any fun u =>
    u.mag = x.mag && u.ns = x.ns && u.clip = x.clip && u.frame = x.frame && u.off = x.off
  let b := b.releaseDram fun x => mine x && !x.optical
  let b := b.modChunks (fun x => mine x && !x.optical) fun x => { x with staged := true }
  (b.modPt fun p => { p with mapped := [] }).purgeOlds

/-- Dense pages of a block whose die stripe has closed are posted in order (R347). -/
def Block.ptQualify (b : Block) (key : Nat) : Block :=
  let done := (b.ptBlock key).pages
  let ready := b.pt.openPages.filter fun o => o.desc.key = key && ptCovered o.desc.page done
  let b := b.modPt fun p => { p with openPages := p.openPages.filter fun o => !ready.contains o }
  ready.foldl (fun b o => (b.ptUnits o.units).ptEnd o.desc 0 0 o.micros) b

/-- The block is closed once its last page is programmed (R355). -/
def Block.ptFull (b : Block) (key : Nat) : Block :=
  let x := b.ptBlock key
  if ptPages (x.mode.getD true) ≤ x.pages && !x.closed then
    (b.modPtBlock key fun x => { x with closed := true }).ptOwn 0x13 key 0 []
  else b

/-- Open die stripes of a dense block are closed with zero pages (R347). -/
def Block.ptPad (b : Block) (key : Nat) : Block :=
  let x := b.ptBlock key
  let to_ := ptPadTo x.pages
  let zeros := fun (n : Nat) => List.replicate n (0 : Byte)
  let b := b.modPt fun p =>
    (List.range (to_ - x.pages)).foldl (fun p i =>
      { p with data := p.data.set (ptPage key (x.pages + i)) (zeros 65536) []
               meta_ := p.meta_.set (ptPage key (x.pages + i)) (zeros 512) [] }) p
  let b := b.modPtBlock key fun x => { x with pages := to_, next := max x.next to_ }
  (b.ptQualify key).ptFull key

/-- A page as PT holds it. -/
def Block.ptContent (b : Block) (key page : Nat) : List Byte × List Byte :=
  (b.pt.data.get (ptPage key page) [], b.pt.meta_.get (ptPage key page) [])

/-- Deliver the planes of a page, packed; failed ones as zero (R350, R354). -/
def Block.ptDeliver (b : Block) (d : PtDesc) (data md : List Byte) (failed : List Nat) : Block :=
  let put := fun (src : List Byte) (size : Nat) =>
    ((planesOf d.pmask).map fun j =>
      if failed.contains j then List.replicate size (0 : Byte)
      else ((src.drop (size * j)).take size) ++ List.replicate (size - ((src.drop (size * j)).take size).length) 0).flatten
  (b.dramWrite d.daddr (put data 16384)).dramWrite d.maddr (put md 128)

/-- A read returned WARN (R354, R362). -/
def Block.ptWarn (b : Block) (d : PtDesc) : Block :=
  let b := ((b.bump PT_CNT_WARN_COUNT 1).raise 1290).modPtBlock d.key fun x => { x with warned := insertSrc d.page x.warned }
  let x := b.ptBlock d.key
  if b.fld PT_THR_WCNT ≤ x.warned.length && !x.sched && !x.retired then
    (b.modPtBlock d.key fun x => { x with sched := true }).raise 1291
  else b

/-- A READ ends (R345, R354). Where no level succeeded RRL is a free value: the spec states none (R352). -/
def Block.ptReadEnd (b : Block) (d : PtDesc) (r : FlashRes) : Block :=
  let b := b.bump PT_CNT_RD_COUNT 1
  let (data, md) := b.ptContent d.key d.page
  let x := b.ptBlock d.key
  let top := b.fld PT_THR_RR_MAX
  match r.level with
  | some l =>
    let b := b.bump PT_CNT_RETRY_COUNT (l - d.rrl)
    let erased : Bool := (data ++ md).all (· = 0xFF)
    let warn : Bool := b.fld PT_THR_WARN ≤ r.errcnt || l ≠ 0
    let b := b.ptDeliver d data md []
    let b := if warn then b.ptWarn d else b
    b.ptPost d 0 0 r.errcnt (warn.toNat + 4 * erased.toNat) l r.micros
  | none =>
    let b := b.bump PT_CNT_RETRY_COUNT (top - d.rrl)
    let (n, b) := b.freeVal
    let rrl := n % 16
    if x.mode = some false && (ptPlace d.page).2.2 ≠ 2 && ptCovered d.page x.pages && b.on PT_CTL_ARB then
      let b := (b.ptDeliver d data md []).ptWarn d
      b.ptPost d 0 0 0 3 rrl r.micros
    else
      let b := (b.ptDeliver d data md r.failed).bump PT_CNT_UNC_COUNT 1
      b.ptPost d 0x11 0x37 0 0 rrl r.micros

/-- A REBUILD ends: the page from the other pages of its stripe and the parity page (R351). -/
def Block.ptRebuildEnd (b : Block) (d : PtDesc) (r : FlashRes) : Block :=
  let (data, md) := b.ptContent d.key d.page
  if r.ok then (b.ptDeliver d data md []).ptPost d 0 0 0 2 0 r.micros
  else ((b.ptDeliver d [] [] (planesOf 15)).bump PT_CNT_UNC_COUNT 1).ptEnd d 0x11 0x37 r.micros

/-- A PROGRAM ends (R347, R351, R362). -/
def Block.ptProgramEnd (b : Block) (d : PtDesc) (r : FlashRes) : Block :=
  let b := b.bump PT_CNT_PG_COUNT 1
  if !r.ok then
    let b := b.modPt fun p =>
      { p with data := p.data.erase (ptPage d.key d.page), meta_ := p.meta_.erase (ptPage d.key d.page) }
    (b.ptRetire d.key 1).ptEnd d 0x12 0 r.micros
  else
    let b := b.modPtBlock d.key fun x => { x with pages := max x.pages (d.page + 1) }
    let b :=
      if d.slc || (ptPlace d.page).2.2 = 2 then (b.ptUnits r.units).ptEnd d 0 0 r.micros
      else b.modPt fun p => { p with openPages := p.openPages ++ [⟨d, r.micros, r.units⟩] }
    (b.ptQualify d.key).ptFull d.key

/-- An ERASE ends (R356, R361, R362): a block scheduled for retirement is retired. -/
def Block.ptEraseEnd (b : Block) (d : PtDesc) (r : FlashRes) : Block :=
  let b := b.bump PT_CNT_ER_COUNT 1
  let own := fun (b : Block) (code : Nat) => if d.jrnl then b.ptOwn 0x11 d.key code [] else b
  if !r.ok then ((own b 1).ptRetire d.key 2).ptEnd d 0x10 0 r.micros
  else
    let x := b.ptBlock d.key
    let wear := match x.mode with | some true => 1 | some false => 10 | none => 0
    let keep := fun (m : SMap (List Byte)) => m.filter fun e => e.1 / 1024 ≠ d.key
    let b := b.modPt fun p => { p with data := keep p.data, meta_ := keep p.meta_ }
    let b := b.modPtBlock d.key fun x => { PtBlock.new with wear := x.wear + wear }
    let b := (own b 0).ptHealth
    let b := if x.sched then b.ptRetire d.key 3 else b
    b.ptEnd d 0 0 r.micros

/-- The end of an operation on a die. -/
def Block.ptOpEnd (b : Block) (o : PtOp) (r : FlashRes) : Block :=
  let d := o.desc
  let b := b.modPt fun p => { p with ops := p.ops.filter (· ≠ o) }
  if d.op = 1 then b.ptReadEnd d r
  else if d.op = 2 then b.ptProgramEnd d r
  else if d.op = 3 then b.ptEraseEnd d r
  else if d.op = 4 then
    if r.ok then ((b.ptRecDone o.jseq).ptStaged).ptEnd d 0 0 (o.jseq % 2 ^ 32) else b.ptEnd d 0x12 0 0
  else if d.op = 5 then b.ptRebuildEnd d r
  else if r.ok then (b.ptPad d.key).ptEnd d 0 0 r.micros
  else (b.ptRetire d.key 1).ptEnd d 0x12 0 r.micros

/-- FLASH_OP_COMPLETE: the operation on a die ends; its end takes effect before what is dispatched next (R353). -/
def execFlashOpComplete (die : Fin 32) (r : FlashRes) (s : State) : Host.Outcome State Fault Refusal :=
  s.upd fun b =>
    match b.ptOpOf die with
    | some o => ((b.ptOpEnd o r).ptDispatch).ptBusy
    | none => b

/-! ### Posting descriptors (R348, R349) -/

/-- Slots reserved whose completion has not been released. -/
def Block.ptInUse (b : Block) : Nat :=
  b.pt.reserved.length + b.pt.waiting.length + b.pt.ops.length + b.pt.openPages.length + b.ptCqUsed

/-- What a read of PT_DQ_RSV returns and does (R348): at SIZE slots in use it returns FULL (DEDUCED,
notes/assumptions/20.md). -/
def Block.ptReserveSlot (b : Block) : Word × Block :=
  let slot := b.pt.rsv
  let ph := b.pt.rsvPh
  if b.fld PT_Q_SIZE_SIZE ≤ b.ptInUse then
    (BitVec.ofNat 32 (2 ^ 31 + 4096 * ph.toNat + slot), b)
  else
    let wrap : Bool := b.fld PT_Q_SIZE_SIZE ≤ slot
    (BitVec.ofNat 32 (4096 * ph.toNat + slot),
      b.modPt fun p =>
        { p with rsv := if wrap then 0 else slot + 1, rsvPh := if wrap then !ph else ph
                 reserved := p.reserved ++ [(slot, b.now)] })

/-- DQ_RESERVE. -/
def execDqReserve (m : Master) (s : State) : Host.Outcome State Fault Refusal :=
  s.upd fun b => let (v, b) := b.ptReserveSlot; b.answer m v

/-- DQ_KICK. -/
def execDqKick (s : State) : Host.Outcome State Fault Refusal := s.upd fun b => b.ptKick

/-- RESERVED_SLOT_TIMEOUT (R349): the head slot is skipped with ABORTED. -/
def execReservedSlotTimeout (s : State) : Host.Outcome State Fault Refusal :=
  s.upd fun b =>
    let h := b.fld PT_DQ_HEAD_HEAD
    let late := b.pt.reserved.any fun r => r.1 = h && r.2 + b.fld PT_THR_RSV_TO ≤ b.now
    let d := b.ptSlot h
    if !late || d.bits 0 0 0 = b.fld PT_DQ_HEAD_PH || b.on PT_CTL_DYKE then b
    else
      let none_ : PtDesc := ⟨h, Vector.replicate 8 0⟩
      (((b.setFld PT_STAT_QERR 1).ptAdvance.ptEnd none_ 0x30 0 0).raise 1302).ptKick

/-- A master reserves a slot, writes its descriptor there with the phase, DW0 last, and kicks. With the ring full
nothing is posted. -/
def Block.ptSubmit (b : Block) (f : PtFields) (op dw0 : Nat) (dw2 len daddr maddr : Nat) : Block :=
  let (v, b') := b.ptReserveSlot
  if v.getLsbD 31 then b
  else
    let slot := v.toNat % 4096
    let ph := v.toNat / 4096 % 2
    let w0 := ph + 16 * op + 256 * f.irq.toNat + dw0 + 2048 * f.bg.toNat + 65536 * f.tag.toNat
    let bytes := packBytes 32 [(0, 4, w0), (4, 4, f.die.val + 256 * f.block.toNat), (8, 4, f.page.toNat + dw2),
      (12, 4, len), (16, 8, daddr), (24, 8, maddr)]
    (b'.dramWrite (b'.ptBase PT_DQ_BASE_LO_BASE PT_DQ_BASE_HI_BASE + 32 * slot) bytes).ptKick

/-- PEAT_READ: planes, first read-retry level, mode, addresses. -/
def execPeatRead (f : PtFields) (slc : Bool) (pmask rrl : BitVec 4) (daddr maddr : BitVec 64) (s : State) :
    Host.Outcome State Fault Refusal :=
  s.upd fun b => b.ptSubmit f 1 (1024 * slc.toNat) (4096 * pmask.toNat + 65536 * rrl.toNat) 0 daddr.toNat maddr.toNat

/-- PEAT_PROGRAM. -/
def execPeatProgram (f : PtFields) (slc : Bool) (daddr maddr : BitVec 64) (s : State) :
    Host.Outcome State Fault Refusal :=
  s.upd fun b => b.ptSubmit f 2 (1024 * slc.toNat) 0xF000 0 daddr.toNat maddr.toNat

/-- PEAT_ERASE. -/
def execPeatErase (f : PtFields) (jrnl : Bool) (s : State) : Host.Outcome State Fault Refusal :=
  s.upd fun b => b.ptSubmit f 3 (512 * jrnl.toNat) 0xF000 0 0 0

/-- PEAT_JOURNAL. -/
def execPeatJournal (f : PtFields) (ckpt : Bool) (len : BitVec 32) (daddr : BitVec 64) (s : State) :
    Host.Outcome State Fault Refusal :=
  s.upd fun b => b.ptSubmit f 4 (4096 * ckpt.toNat) 0xF000 len.toNat daddr.toNat 0

/-- PEAT_REBUILD. -/
def execPeatRebuild (f : PtFields) (daddr maddr : BitVec 64) (s : State) : Host.Outcome State Fault Refusal :=
  s.upd fun b => b.ptSubmit f 5 0 0xF000 0 daddr.toNat maddr.toNat

/-- PEAT_PAD. -/
def execPeatPad (f : PtFields) (slc : Bool) (s : State) : Host.Outcome State Fault Refusal :=
  s.upd fun b => b.ptSubmit f 6 (1024 * slc.toNat) 0xF000 0 0 0

/-! ### Failures and temperature (R364, R365) -/

/-- DIE_TIMEOUT (R364): the die is failed; its descriptors complete with INTERNAL, its blocks leave service. -/
def execDieTimeout (die : Fin 32) (s : State) : Host.Outcome State Fault Refusal :=
  s.upd fun b =>
    if b.onBit PT_DIE_FAIL_FAIL die then b
    else
      let b := (b.putBit PT_DIE_FAIL_FAIL die true).raise (1304 + die.val)
      let ops := b.pt.ops.filter fun o => o.die = die.val
      let ws := b.pt.waiting.filter fun d => d.die = die.val
      let os := b.pt.openPages.filter fun o => o.desc.die = die.val
      let b := b.modPt fun p =>
        { p with ops := p.ops.filter fun o => o.die ≠ die.val, waiting := p.waiting.filter fun d => d.die ≠ die.val
                 openPages := p.openPages.filter fun o => o.desc.die ≠ die.val }
      let b := (ops.map (·.desc) ++ ws ++ os.map (·.desc)).foldl (fun b d => b.ptEnd d 0x7F 0x7F 0) b
      let c := die.val / 4
      let b := if (List.range 4).all fun i => b.onBit PT_DIE_FAIL_FAIL (4 * c + i) then b.raise (1336 + c) else b
      b.ptDispatch.ptBusy

/-- PAD is applied to every open dense block, and each is closed (R365). -/
def Block.ptHot (b : Block) : Block :=
  (b.pt.blocks.filter fun e => e.2.mode = some false && !e.2.closed && !e.2.retired).foldl (fun b e =>
    let b := b.ptPad e.1
    if (b.ptBlock e.1).closed then b
    else (b.modPtBlock e.1 fun x => { x with closed := true }).ptOwn 0x13 e.1 0 []) b

/-- PEAT_TEMP_SAMPLE (R365; 11_command_set.md R305 TYPES 7, 13): the highest of the eight sensors, 0.1 °C. -/
def execPeatTempSample (temp : BitVec 16) (s : State) : Host.Outcome State Fault Refusal :=
  s.upd fun b =>
    let t := temp.toInt
    let b := (b.setFld PT_TEMP_TEMP temp.toNat).modPt fun p => { p with sampled := b.now }
    let h := b.fld PT_HEALTH_HEALTH
    let b :=
      if 850 ≤ t && !b.on PT_STAT_HOT then (((b.setFld PT_STAT_HOT 1).raise 1295).async 7 2 h).ptHot
      else if t < 800 && b.on PT_STAT_HOT then ((b.setFld PT_STAT_HOT 0).raise 1296).async 7 3 h
      else b
    let b :=
      if 1000 ≤ t && !b.on PT_STAT_STOP then (b.setFld PT_STAT_STOP 1).raise 1297
      else if t < 950 && b.on PT_STAT_STOP then (b.setFld PT_STAT_STOP 0).raise 1298
      else b
    let isHot : Bool := b.hq.warnPeat < t
    let b := if isHot && !b.hq.hotPeat then b.async 13 1 (natOf 16 (t / 10)) else b
    b.modHq fun h => { h with hotPeat := isHot }

/-! ### Recovery (R359, R360) -/

/-- The lowest-numbered erased block of a die in service, outside the journal. -/
def Block.ptFresh (b : Block) (die : Nat) : Option Nat :=
  ((List.range 3641).map (die * 4096 + ·)).find? fun k =>
    !ptJournal (k % 4096) && (b.ptBlock k).mode.isNone && !(b.ptBlock k).retired

/-- A rebuilt page goes into a fresh fast-mode block of its die, which the recovery's other pages share, with its
REBUILT record (R355, R359). `old` are the blocks that were open at the loss. -/
def Block.ptMoveRebuilt (b : Block) (old : List Nat) (e : Nat × Nat) : Block :=
  let die := e.1 / 4096
  let mine := b.pt.blocks.find? fun x => x.1 / 4096 = die && x.2.mode = some true && !x.2.closed && !x.2.retired &&
    x.2.pages < ptPages true && !old.contains x.1
  match (mine.map (·.1)).or (b.ptFresh die) with
  | none => b
  | some k =>
    let n := (b.ptBlock k).pages
    let c := b.ptContent e.1 e.2
    let before := b.ptErased die
    let b := if (b.ptBlock k).mode.isSome then b
      else ((b.modPtBlock k fun x => { x with mode := some true }).ptOwn 0x12 k 1 []).ptReserve die before
    let b := b.modPt fun p => { p with data := p.data.set (ptPage k n) c.1 [], meta_ := p.meta_.set (ptPage k n) c.2 [] }
    let b := b.modPtBlock k fun x => { x with next := n + 1, pages := n + 1 }
    (b.ptOwn 0x16 e.1 0 [(6, 1, die), (7, 2, k % 4096), (9, 1, n)]).ptFull k

/-- PT's recovery at a module start: interrupted erases are run again, open blocks are closed, damaged lower and
middle pages (`bad`: block key and page) are rebuilt where their parity page stands. -/
def Block.ptRecover (b : Block) (bad : List (Nat × Nat)) : Block :=
  let b := b.modPt fun p => { p with waiting := [], ops := [], openPages := [], reserved := [], mapped := [] }
  -- records whose copies were not programmed are not found
  let b := b.modPt fun p => { p with recs := p.recs.filter (·.durable) }
  let intents := b.pt.recs.filter fun r => r.jtype = 0x10 &&
    !b.pt.recs.any fun x => x.jtype = 0x11 && r.jseq < x.jseq && x.body.take 4 = r.body.take 4
  let keyOf := fun (r : PtRec) => byteAt r.body 0 * 4096 + valAt r.body 2 2
  let b := intents.foldl (fun b r =>
    let k := keyOf r
    let keep := fun (m : SMap (List Byte)) => m.filter fun e => e.1 / 1024 ≠ k
    let b := (b.ptOwn 0x10 k 0 []).modPt fun p => { p with data := keep p.data, meta_ := keep p.meta_ }
    let wear := match (b.ptBlock k).mode with | some true => 1 | some false => 10 | none => 0
    (b.modPtBlock k fun x => { PtBlock.new with wear := x.wear + wear }).ptOwn 0x11 k 0 []) b
  let b := b.setFld PT_RECOV_REERASE (min 255 intents.length)
  let open_ := b.pt.blocks.filter fun e => e.2.mode.isSome && !e.2.closed && !e.2.retired
  let fixed := bad.filter fun e => open_.any (fun o => o.1 = e.1) && (b.ptBlock e.1).mode = some false &&
    (ptPlace e.2).2.2 ≠ 2 && ptCovered e.2 (b.ptBlock e.1).pages
  let b := b.setFld PT_RECOV_REBUILT (min 65535 fixed.length)
  let b := fixed.foldl (fun b e => b.ptMoveRebuilt (open_.map (·.1)) e) b
  let b := open_.foldl (fun b e =>
    (b.modPtBlock e.1 fun x => { x with closed := true, next := x.pages }).ptOwn 0x13 e.1 0 []) b
  ((b.setFld PT_STAT_RECOV 0).setBit PT_STAT_READY (b.on PT_CTL_EN)).raise 1301

end Sys2Proof.Machine
end

