-- ==== Sys2Proof/Machine/Calib.lean ====
section
/-!
DEFINITION. The calibrations, deferral and telemetry (19_calibration_and_telemetry.md R468 to R479), and the
timeouts that no other command names (02_the_tick.md R30). A calibration command comes without findings when the
calibration starts, and with what was measured when it, or one of its steps, ends.
-/

namespace Sys2Proof.Machine

/-! ### Starting -/

/-- A pass is under way on the surface. -/
def Block.inPass (b : Block) (s : Fin 4) : Bool := (vget b.wp s).running.isSome

/-- Kind `k` may start on the surface (R468, CAL_CTL): its AUTO bit, BGEN for a background run, and the unit that
the table of R468 names. -/
def Block.calMay (b : Block) (s : Fin 4) (k : Nat) (bg : Bool) : Bool :=
  (vget b.cal.surf s).run.isNone && b.onBit CAL_CTL_AUTO k && (!bg || b.on CAL_CTL_BGEN) && b.pw.dyke.isNone &&
    (if k = 0 then !b.inPass s
     else if k = 1 then !b.on (SEs_LSAFE_LDEN s) && (vget b.servo s).fmode = 0
     else if k = 2 then !b.on (SEs_LSAFE_WGATE s) && (vget b.servo s).tmode = 3
     else !b.inPass s && !b.on (SEs_LSAFE_SAFE s))

/-- A calibration starts on the surface (R468, R481). -/
def Block.calBegin (b : Block) (s : Fin 4) (k band : Nat) (area : Bool) (peak0 : List Nat) : Block :=
  let r : CalRun :=
    { kind := k, band := band, start := b.now, step := 0, peak0 := peak0, failing := [], passed := [], retries := 0
      area := area, tmo := b.fld (CAL_TMO_k_TMO k), maxerr := b.fld CAL_WP_MAXERR }
  ((b.modCalSurf s fun c => { c with run := some r }).putBit CAL_STAT_BUSY s.val true).calKind

/-- The calibration of kind `k` that runs on the surface. -/
def Block.calRun (b : Block) (s : Fin 4) (k : Nat) : Option CalRun :=
  (vget b.cal.surf s).run.filter fun c => c.kind = k

def Block.modRun (b : Block) (s : Fin 4) (f : CalRun → CalRun) : Block :=
  b.modCalSurf s fun c => { c with run := c.run.map f }

/-- The write-power check that a surface waited for has ended (R26, R27). -/
def Block.endAwait (b : Block) (s : Fin 4) : Block :=
  b.modPw fun p => { p with await := p.await.filter (· ≠ s.val) }

/-! ### Bad results (R474) -/

/-- What a bad write-power calibration brings: the band takes no user writes and is reported as spare-exhausted;
after three bad bands in a row the surface is unavailable until the next load. -/
def Block.badBand (b : Block) (s : Fin 4) (band : Nat) : Block :=
  let run := min (b.fld (CAL_Ss_WP_BADRUN s) + 1) 255
  let b := ((b.setFld (CAL_Ss_WP_RESULT s) 1).setFld (CAL_Ss_WP_BADRUN s) run).setFld (CAL_Ss_WP_BAND s) band
  let b := b.endAwait s
  let b :=
    if (vget b.wp s).spent.contains band then b
    else
      let b := b.modWp s fun w =>
        { w with spent := w.spent ++ [band]
                 swath := if w.band = band then 360 else w.swath
                 stripe := if w.band = band then 0 else w.stripe }
      b.bandEntryFor band (b.failedMask s)
  let b := b.raiseSurf s 26
  if run < 3 then b
  else ((b.modCalSurf s fun c => { c with barred := true }).surfDown s 5).raiseSurf s 27

/-- A WST_LOAD frame of a table (R100). -/
def Block.wstLoad (b : Block) (s : Fin 4) (table : Nat) (entries : List Word) : Block :=
  (b.sedge s (.wstLoad table entries)).modSe s fun e =>
    { e with wst := e.wst.filter (fun t => t.1 ≠ table) ++ [(table, entries)] }

/-- The default table of a class: the spec gives no entries, so each is a free value (log entry 2). -/
def Block.defaultWst (b : Block) : List Word × Block :=
  (List.range 28).foldl (fun acc _ =>
    let (v, b) := acc.2.freeVal
    (acc.1 ++ [BitVec.ofNat 32 v], b)) ([], b)

/-- Class of the layer that the surface writes (R79, R100). -/
def Block.wsClass (b : Block) (s : Fin 4) : Nat :=
  (vget b.cal.surf s).desc.elim 0 fun d => d.wsClass.getD (bandLayer (b.bandNow s)) 0 % 8

/-- A calibration is bad (R474): no result is written, source 48, a record of set 5, and the consequence of its
kind. -/
def Block.calBad (b : Block) (s : Fin 4) (values : List Nat) : Block :=
  match (vget b.cal.surf s).run with
  | none => b
  | some c =>
    let b := (((b.calEnd s 1 values).bump CAL_CNT_BAD 1).raise 48)
    match c.kind with
    | 0 => b.modCal fun k => { k with adcBoot := insertSrc s.val k.adcBoot }
    | 1 => ((b.modCalSurf s fun k => { k with barred := true }).modServo s fun v =>
        { v with unavail := true }).raiseSurf s 32
    | 2 => b.raiseSurf s 31
    | 3 => b.badBand s c.band
    | _ =>
      let (t, b) := b.defaultWst
      (b.wstLoad s (b.wsClass s) t).raiseSurf s 29

/-! ### Kinds 0 and 1 -/

/-- Faulty comparators (R122): thresholds whose offset, in 1/16 LSB, exceeds ±0.4 LSB. -/
def faultyComps (offs : List Int) : List (Nat × Nat) :=
  ((offs.zipIdx).filter fun e => 6 < e.1.natAbs).map fun e => (e.2, e.1.natAbs)

/-- The thresholds that the spares serve (R123): the 16 with the largest offsets, lower threshold first on equal
offsets, in threshold order. -/
def spareThresholds (faulty : List (Nat × Nat)) : List Nat :=
  let bigger := fun (e : Nat × Nat) => (faulty.filter fun f => e.2 < f.2 || (f.2 = e.2 && f.1 < e.1)).length
  (faulty.filter fun e => bigger e < 16).map (·.1)

/-- An entry of BMnn_ADC_MAP. -/
def mapEntry (ts : List Nat) (i : Nat) : Nat :=
  match ts[i]? with
  | some t => 2 ^ 15 + t % 128
  | none => 0

/-- Fill a beam's map (R122, R123, R469). -/
def Block.fillMap (b : Block) (n : Nat) (offs : List Int) : Block :=
  let faulty := faultyComps offs
  let ts := spareThresholds faulty
  let b := (List.range 8).foldl (fun b k =>
    b.wr (BMnn_ADC_MAP_k n k) (BitVec.ofNat 32 (mapEntry ts (2 * k) + 2 ^ 16 * mapEntry ts (2 * k + 1)))) b
  let b := (b.setFld (BMnn_ADC_STAT_FAULTY n) faulty.length).setFld (BMnn_ADC_STAT_USED n) ts.length
  let b := b.setBit (BMnn_ADC_STAT_EXCESS n) (16 < faulty.length)
  if 16 < faulty.length then b.raise (256 + 12 * n) else b

/-- Present surfaces. -/
def Block.surfs (b : Block) : List Nat := (List.range 4).filter b.part.hasSurf

/-- Sources 52 and 53 (R480): the boot calibrations, and kind 0 on every present beam, are complete. -/
def Block.adcEnds (b : Block) : Block :=
  let b := if !b.on CAL_STAT_BOOTCAL && b.surfs.all b.cal.adcBoot.contains then
      (b.setFld CAL_STAT_BOOTCAL 1).raise 52 else b
  if b.surfs.all b.cal.adcDone.contains then (b.modCal fun c => { c with adcDone := [] }).raise 53 else b

/-- CAL_ADC_OFFSET (R468, R469): `offs` are the comparator offsets of the 16 beams, 127 each, in 1/16 LSB. -/
def execCalAdcOffset (s : Fin 4) (bg : Bool) (offs : Option (List (List (BitVec 8)))) (st : State) :
    Host.Outcome State Fault Refusal :=
  st.upd fun b => b.onSurf s fun b =>
    let b := if b.calMay s 0 bg then b.calBegin s 0 (b.bandNow s) false [] else b
    match b.calRun s 0, offs with
    | some _, some os =>
      let b := (os.take 16).zipIdx.foldl (fun b e => b.fillMap (16 * s.val + e.2) (e.1.map (·.toInt))) b
      let used := (List.range 16).map fun k => b.fld (BMnn_ADC_STAT_USED (16 * s.val + k))
      let b := b.calEnd s 0 used
      (b.modCal fun c => { c with adcDone := insertSrc s.val c.adcDone, adcBoot := insertSrc s.val c.adcBoot }).adcEnds
    | _, _ => b

/-- CAL_SERVO_OFFSET (R470, R474): `means` are the means of the nine inputs over 64 ticks; one beyond ±1,024
codes is a bad result. -/
def execCalServoOffset (s : Fin 4) (bg : Bool) (means : Option (Vector (BitVec 14) 9)) (st : State) :
    Host.Outcome State Fault Refusal :=
  st.upd fun b => b.onSurf s fun b =>
    let b := if b.calMay s 1 bg then b.calBegin s 1 (b.bandNow s) false [] else b
    match b.calRun s 1, means with
    | some _, some ms =>
      if ms.toList.any fun m => 1024 < m.toInt.natAbs then b.calBad s []
      else
        let b := (List.range 9).foldl (fun b k =>
          b.setFld (SFs_ADC_OFS_k_OFS s k) (natOf 14 (-(vget ms (Fin.ofNat 9 k)).toInt))) b
        b.calEnd s 0 []
    | _, _ => b

/-! ### Kind 2 -/

/-- 10^(±1/200) in units of 2^-32, to the power `n`, in the same units. -/
def dbPow (up : Bool) : Nat → Nat
  | 0 => 2 ^ 32
  | n + 1 => (dbPow up n * (if up then 4344700673 else 4245803212) + 2 ^ 31) / 2 ^ 32

/-- |G|⁻¹ for a gain error in 0.1 dB, in units of 2^-32. -/
def gainInv (e : Int) : Nat := if 0 ≤ e then dbPow false e.natAbs else dbPow true e.natAbs

/-- A coefficient word scaled by f / 2^32, its mantissa rounded to nearest; a mantissa that outgrows its field
takes one shift less (R158; the rounding is the model's, log entry 24). -/
def coefScale (c : Word) (f : Nat) : Word :=
  let m := sar (coefM c * (f : Int) + 2 ^ 31) 32
  let sh := coefSH c
  let (m, sh) := if (m < -8388608 ∨ 8388607 < m) ∧ 0 < sh then (sar (m + 1) 1, sh - 1) else (m, sh)
  let m := if 8388607 < m then 8388607 else if m < -8388608 then -8388608 else m
  BitVec.ofNat 32 (sh * 2 ^ 24 + natOf 24 m)

/-- K and k_r of the loop of an entry, five words from CBASE + 20 (R168, R201), are scaled into the inactive bank
of the set in use (R156, R471). -/
def Block.scaleLoop (b : Block) (entry : Nat) (e : Int) : Block :=
  let w := b.slotEff entry
  let base := b.fld (LE_PDESC_p_W1_CBASE (slotProg w)) + 20
  let q := b.quarter (slotOwner w)
  let other := if q % 2 = 0 then q + 1 else q - 1
  (List.range 5).foldl (fun b i =>
    b.leMemWrite (LE_CMEM_q_c other ((base + i) % 4096)) (coefScale (b.cmem q (base + i)) (gainInv e))) b

/-- CAL_LOOP_GAIN (R471, R474): `err` are the deviations of |G| of focus and of tracking, in 0.1 dB. -/
def execCalLoopGain (s : Fin 4) (bg : Bool) (err : Option (BitVec 16 × BitVec 16)) (st : State) :
    Host.Outcome State Fault Refusal :=
  st.upd fun b => b.onSurf s fun b =>
    let b := if b.calMay s 2 bg then b.calBegin s 2 (b.bandNow s) false [] else b
    match b.calRun s 2, err with
    | some _, some (f, t) =>
      let f := f.toInt
      let t := t.toInt
      let vals := [natOf 16 f, natOf 16 t]
      if 60 < f.natAbs ∨ 60 < t.natAbs then b.calBad s vals
      else
        let adjust := fun (b : Block) (entry : Nat) (e : Int) => if 10 < e.natAbs then b.scaleLoop entry e else b
        let b := adjust (adjust b s.val f) (4 + s.val) t
        let b := if 10 < f.natAbs ∨ 10 < t.natAbs then
            (b.modLe fun l => { l with swap := true }).raiseSurf s 30 else b
        b.calEnd s 0 vals
    | _, _ => b

/-! ### Kind 3 -/

/-- Test units of a band's swath 368 (R77). -/
def bandUnits (band : Nat) : Nat := 8 * bandSlots band

/-- Swath 368 of the band has been taken by relocation (R77). -/
def Block.swathTaken (b : Block) (s : Fin 4) (band : Nat) : Bool :=
  let w := vget b.wp s
  (vget b.cal.surf s).testUsed.get band 0 = 0 &&
    (relKey 368 0 < w.relocPtr band ||
      (w.planned.toList ++ w.running.toList).any fun p => p.kind = .reloc && p.band = band && p.swath = 368)

/-- The band's swath 368 has test units left. -/
def Block.unitsLeft (b : Block) (s : Fin 4) (band : Nat) : Bool :=
  !b.swathTaken s band && (vget b.cal.surf s).testUsed.get band 0 < bandUnits band

/-- The bands of a layer in the order of R77: the band itself, then the nearest in zone, the lower zone first. -/
def nearBands (band : Nat) : List Nat :=
  let z := bandZone band
  let base := band - z
  band :: ((List.range 24).map fun d =>
    (if d + 1 ≤ z then [base + (z - (d + 1))] else []) ++ (if z + d + 1 < 24 then [base + (z + d + 1)] else [])).flatten

/-- Take one test unit (R77, R78): of the surface test area for a surface-wide check while it lasts, else of the
nearest band of the layer that has one, else of the area; none when all are used up. -/
def Block.testUnit (b : Block) (s : Fin 4) (band : Nat) (area : Bool) : Option Block :=
  let inArea : Bool := (vget b.cal.surf s).areaUsed < 480
  let fromArea := b.modCalSurf s fun c => { c with areaUsed := c.areaUsed + 1 }
  if area && inArea then some fromArea
  else
    match (nearBands (if area then bandId s 0 0 else band)).find? fun k => b.unitsLeft s k with
    | some k => some (b.modCalSurf s fun c => { c with testUsed := c.testUsed.set k (c.testUsed.get k 0 + 1) 0 })
    | none => if inArea then some fromArea else none

/-- WP_INIT interpolated linearly in zone, in 0.01 mW (R79, R473). -/
def wpInitAt (d : Descriptor) (band : Nat) : Nat :=
  let (a, z) := d.wpInit.getD (bandLayer band) (0, 0)
  (10 * ((a : Int) + ((z : Int) - (a : Int)) * (bandZone band : Int) / 23)).toNat

/-- Start power of beam `k` in a band (R473, step 1). -/
def Block.startPower (b : Block) (s : Fin 4) (d : Descriptor) (band k : Nat) : Nat :=
  let new := wpInitAt d band
  let p :=
    match (vget b.cal.surf s).peaks.find? fun e => e.1 = bandLayer band with
    | some (_, old, ps) => if wpInitAt d old = 0 then new else ps.getD k 0 * new / wpInitAt d old
    | none => new
  if b.rpmOf s = 4500 then p * 71 / 100 else p

/-- Power of a failing beam in sweep unit `m`: its start PEAK × (0.80 + 0.05 m). -/
def sweepPower (p m : Nat) : Nat := p * (16 + m) / 20

/-- The first of the longest runs of consecutive steps in a rising list: its first step and length. -/
def longestRun (ms : List Nat) : Nat × Nat :=
  let runAt := fun (m : Nat) => ((List.range 8).takeWhile fun i => ms.contains (m + i)).length
  ms.foldl (fun best m => if best.2 < runAt m then (m, runAt m) else best) (0, 0)

/-- PEAK of a beam after the sweep: the middle step of that run, the lower of two. -/
def sweptPeak (p : Nat) (ms : List Nat) : Nat :=
  let (m, n) := longestRun ms
  sweepPower p (m + (n - 1) / 2)

/-- The powers of the unit about to be written, in a POWER frame (R99, R118, R473). -/
def Block.testPowers (b : Block) (s : Fin 4) (c : CalRun) : Block :=
  let m := (c.step - 1) % 8
  let peak := fun (k : Nat) =>
    let p := c.peak0.getD k 0
    min (if c.step ≠ 0 && c.failing.contains k then sweepPower p m else p) (b.fld (SEs_MAXPWR_MAXPWR s))
  let mode := if b.fld (SEs_MAXPWR_MAXPWR s) = 0 then 1 else 2
  b.sedge s (.power mode ((List.range 16).map fun k =>
    (peak k, b.fld (SEs_BPWR_b_BIAS s k), b.fld (SEs_BRD_b_READ s k))))

/-- The next unit of the test is taken and written; without one the calibration is bad (R77). -/
def Block.nextUnit (b : Block) (s : Fin 4) : Block :=
  match (vget b.cal.surf s).run with
  | none => b
  | some c =>
    match b.testUnit s c.band c.area with
    | some b => b.testPowers s c
    | none => (b.raiseSurf s 35).calBad s []

/-- Step 5 of R473: PEAK is written with BIAS in its ratio, for the next POWER frame; offset 25. -/
def Block.powerFound (b : Block) (s : Fin 4) (c : CalRun) : Block :=
  let swept := fun (k : Nat) => (c.passed.filter fun e => e.1 = k).map (·.2)
  let failed := b.failedBeams s
  let peaks := (List.range 16).map fun k =>
    let p := c.peak0.getD k 0
    if (swept k).isEmpty then p else sweptPeak p (swept k)
  let b := (peaks.zipIdx).foldl (fun b e =>
    if failed.contains e.2 then b
    else
      let old := b.fld (SEs_BPWR_b_PEAK s e.2)
      let bias := b.fld (SEs_BPWR_b_BIAS s e.2)
      (b.setFld (SEs_BPWR_b_PEAK s e.2) e.1).setFld (SEs_BPWR_b_BIAS s e.2)
        (if old = 0 then bias else bias * e.1 / old)) b
  let b := (b.modSe s fun e => { e with powerDue := true }).raiseSurf s 25
  let b := ((b.setFld (CAL_Ss_WP_RESULT s) 0).setFld (CAL_Ss_WP_BADRUN s) 0).setFld (CAL_Ss_WP_BAND s) c.band
  let layer := bandLayer c.band
  let b := b.modCalSurf s fun k =>
    { k with peaks := k.peaks.filter (fun e => e.1 ≠ layer) ++ [(layer, c.band, peaks)]
             lastTemp := b.sfld (SEs_TEMP_TEMP s)
             checked := if c.area then k.checked else some c.band }
  (b.endAwait s).calEnd s 0 peaks

/-- The error counts of the unit just written are judged (R473, steps 2 to 4). -/
def Block.judgeUnit (b : Block) (s : Fin 4) (errs : Vector (BitVec 16) 16) : Block :=
  match b.calRun s 3 with
  | none => b
  | some c =>
    let ok := fun (k : Nat) => (vget errs (Fin.ofNat 16 k)).toNat ≤ c.maxerr
    if c.step = 0 then
      let fails := (List.range 16).filter fun k => !ok k && !(b.failedBeams s).contains k
      if fails.isEmpty then b.powerFound s c
      else
        let b := (b.modRun s fun c => { c with step := 1, failing := fails }).bump CAL_CNT_SWEEPS 1
        (b.raiseSurf s 24).nextUnit s
    else
      let m := (c.step - 1) % 8
      let c := { c with passed := c.passed ++ (c.failing.filter ok).map fun k => (k, m) }
      if m < 7 then (b.modRun s fun _ => { c with step := c.step + 1 }).nextUnit s
      else
        let left := c.failing.filter fun k => !c.passed.any fun e => e.1 = k
        if left.isEmpty then (b.modRun s fun _ => c).powerFound s c
        else if c.step = 8 then
          let c := { c with step := 9, failing := left, retries := 1 }
          ((b.modRun s fun _ => c).bump CAL_CNT_SWEEPS 1).nextUnit s
        else (b.modRun s fun _ => c).calBad s []

/-- The pickup temperature has moved by DRIFT_T since the last check (R468). -/
def Block.drifted (b : Block) (s : Fin 4) : Bool :=
  10 * b.fld CAL_WP_DRIFT_T ≤ (b.sfld (SEs_TEMP_TEMP s) - (vget b.cal.surf s).lastTemp).natAbs

/-- CAL_WRITE_POWER (R77, R78, R472, R473): it starts on the current band, in the surface test area for a check of
R26, R27 (`area`) or of drift (`bg`); `errs` are the error counts of the beams in the unit just written. -/
def execCalWritePower (s : Fin 4) (area bg : Bool) (errs : Option (Vector (BitVec 16) 16)) (st : State) :
    Host.Outcome State Fault Refusal :=
  st.upd fun b => b.onSurf s fun b =>
    let b :=
      match (vget b.cal.surf s).desc with
      | some d =>
        if b.calMay s 3 bg && b.store.vol.vstate ≠ 0 && (!bg || b.drifted s) then
          let band := b.bandNow s
          (b.calBegin s 3 band (area || bg) ((List.range 16).map (b.startPower s d band))).nextUnit s
        else b
      | none => b
    match errs with
    | some e => b.judgeUnit s e
    | none => b

/-! ### Kind 4, timeouts -/

/-- CAL_WRITE_STRATEGY (R100, R468): after the first write-power check of a layer in a load; `table` is the table
found, loaded for the layer's class. -/
def execCalWriteStrategy (s : Fin 4) (table : Option (Vector Word 28)) (st : State) : Host.Outcome State Fault Refusal :=
  st.upd fun b => b.onSurf s fun b =>
    let c := vget b.cal.surf s
    let layer := bandLayer (b.bandNow s)
    let b := if b.calMay s 4 false && c.checked = some (b.bandNow s) && !c.strategy.contains layer then
        b.calBegin s 4 (b.bandNow s) false [] else b
    match b.calRun s 4, table with
    | some r, some t =>
      let b := b.wstLoad s (b.wsClass s) t.toList
      let b := b.modCalSurf s fun c => { c with strategy := insertSrc (bandLayer r.band) c.strategy }
      (b.raiseSurf s 28).calEnd s 0 []
    | _, _ => b

/-- CAL_TIMEOUT (R30, R474): the calibration on the surface has not ended within its timeout, and is bad. -/
def execCalTimeout (s : Fin 4) (st : State) : Host.Outcome State Fault Refusal :=
  st.upd fun b => b.onSurf s fun b =>
    match (vget b.cal.surf s).run with
    | none => b
    | some c => if b.now < c.start + c.tmo + 1 then b else (b.calBad s []).adcEnds

/-- DEFERRAL_EXPIRY (R477): the deferral of an engine has reached CAL_DEFER_e; its window is scheduled, once. -/
def execDeferralExpiry (e : Fin 7) (st : State) : Host.Outcome State Fault Refusal :=
  st.upd fun b =>
    if b.cal.windows.contains e.val || vget b.cal.defer e < b.fld (CAL_DEFER_e_MAXDEF e) then b
    else
      let b := b.putBit CAL_DEFER_STAT_EXPIRED e.val true
      let b := b.modCal fun c => { c with windows := insertSrc e.val c.windows }
      (b.bump CAL_CNT_WINDOWS 1).raise 50

/-! ### Telemetry (R478, R479) -/

/-- A signed field of `n` bytes. -/
def telSigned (at_ n : Nat) (v : Int) : Nat × Nat × Nat := (at_, n, natOf (8 * n) v)

/-- Figures in MB/s. -/
def mbs (n : Nat) : Nat := n / 1000000

/-- The body of set 1 (R341). -/
def Block.telRates (b : Block) : List (Nat × Nat × Nat) :=
  let ws := b.writers
  let plan := b.oPlan ws
  let low := b.oMin ws
  let ld := b.load
  let burst := if plan < ld then b.stageFree / (ld - plan) else 0xFFFFFFFF
  let staged := 8192 * (b.volChunks.filter (·.staged)).length
  let drain := if plan = 0 then 0xFFFFFFFF else staged / plan
  [(16, 4, mbs plan), (20, 4, mbs low), (24, 4, mbs ld), telSigned 28 4 ((mbs low : Int) - (mbs ld : Int)),
   (32, 4, mbs b.ceiling), (36, 4, b.stageFree / 1000000000), (40, 4, min burst 0xFFFFFFFF), (44, 4, drain)] ++
  (List.range 4).map (fun s => (48 + 2 * s, 2, vget b.store.lostStep (Fin.ofNat 4 s))) ++
  (List.range 4).map (fun s => (56 + s, 1, if b.part.hasSurf s then
    stepOf (b.descends s) s (b.bandNow (Fin.ofNat 4 s)) else 0))

/-- Mean of a list, rounded down; 0 when it is empty. -/
def meanOf (l : List Nat) : Nat := if l.isEmpty then 0 else l.foldl (· + ·) 0 / l.length

/-- The body of set 2. -/
def Block.telSurf (b : Block) (s : Fin 4) : List (Nat × Nat × Nat) :=
  let beams := (List.range 16).map (16 * s.val + ·)
  let eyes := beams.map fun n => vget b.cal.eye (Fin.ofNat 64 n)
  let c := vget b.cal.surf s
  [(16, 2, b.bandNow s), (18, 1, (b.failedBeams s).length), (19, 1, eyes.foldl min (eyes.headD 0)), (20, 1, meanOf eyes),
   (22, 2, b.fld (CAL_Ss_RTE_RTE s)), (24, 4, (beams.map fun n => b.fld (BMnn_Q_BER_CORR n)).foldl (· + ·) 0),
   (28, 2, meanOf (beams.map fun n => b.fld (BMnn_Q_ITER_ITER n))), (30, 2, c.lost),
   telSigned 32 2 (b.sfld (SEs_TEMP_TEMP s)),
   (34, 2, meanOf ((List.range 16).map fun k => b.fld (SEs_BPWR_b_PEAK s k))), (36, 4, b.fld (WP_Ss_WSEQ_WSEQ s)),
   (40, 4, c.reloc)]

/-- The counters of set 3, in the order of the record. -/
def telCounter (n i : Nat) : Fld :=
  match i with
  | 0 => BMnn_CNT_CELLS_COUNT n
  | 1 => BMnn_CNT_SYNC_FLYWHEEL n
  | 2 => BMnn_CNT_RSYNC_SLIP n
  | _ => BMnn_CNT_DEF_UNITS n

/-- What counter `i` of the beam has counted since the last record. -/
def Block.telCount (b : Block) (n i : Nat) : Nat :=
  ((b.fld (telCounter n i) : Int) - b.cal.base.get (4 * n + i) 0).toNat

/-- The body of set 3. -/
def Block.telBeam (b : Block) (n : Nat) : List (Nat × Nat × Nat) :=
  [(16, 2, b.fld (BMnn_Q_MSE_MSE n)), (18, 2, b.fld (BMnn_Q_ITER_ITER n)), (20, 4, b.fld (BMnn_Q_BER_CORR n)),
   (24, 1, vget b.cal.eye (Fin.ofNat 64 n)), (25, 1, b.fld (BMnn_ADC_STAT_USED n)), (26, 2, b.fld (BMnn_LOOP_VAL_VGA n)),
   (28, 1, b.fld (BMnn_LOOP_VAL_OFS n)), (29, 1, b.fld (BMnn_LOOP_VAL_ASYM n)),
   (30, 2, b.fld (SEs_BPWR_b_PEAK (n / 16) (n % 16))), (32, 4, b.telCount n 0), (36, 2, b.telCount n 1),
   (38, 2, b.telCount n 2), (40, 4, b.telCount n 3)]

/-- A record has been made: the next one counts from here. -/
def Block.telRebase (b : Block) (n : Nat) : Block :=
  b.modCal fun c => { c with base := (List.range 4).foldl (fun m i =>
    m.set (4 * n + i) (b.fld (telCounter n i)) 0) c.base }

/-- A read has cleared `v` counts of a counter: what the next record reports does not change. -/
def Block.telCleared (b : Block) (n i v : Nat) : Block :=
  b.modCal fun c => { c with base := c.base.set (4 * n + i) (c.base.get (4 * n + i) 0 - (v : Int)) 0 }

/-- Ticks between the records of a set; 0 for one without a rate (R478). -/
def telRate (set : Nat) : Nat :=
  if set = 1 then 40000 else if set = 2 ∨ set = 4 then 400000 else if set = 3 then 4000000 else 0

/-- TELEMETRY_SAMPLE (R478, R479): at a multiple of the set's rate a record of set 1 to 4 is made for the module,
the surface or the beam. The magazine's temperature in 0.1 °C and humidity, and the draw in 0.1 W, are observed. -/
def execTelemetrySample (set : Fin 5) (inst : Fin 64) (magTemp : BitVec 16) (humidity : BitVec 8) (draw : BitVec 16)
    (st : State) : Host.Outcome State Fault Refusal :=
  st.upd fun b =>
    if telRate set = 0 ∨ b.now % telRate set ≠ 0 then b
    else
      match set.val with
      | 1 => if inst.val = 0 then b.telRecord 1 0 b.telRates else b
      | 2 =>
        if 4 ≤ inst.val then b
        else
          let s : Fin 4 := Fin.ofNat 4 inst.val
          b.onSurf s fun b => (b.telRecord 2 s (b.telSurf s)).modCalSurf s fun c => { c with lost := 0, reloc := 0 }
      | 3 => b.onBeam inst fun b => (b.telRecord 3 inst (b.telBeam inst)).telRebase inst
      | _ =>
        if inst.val ≠ 0 then b
        else
          let temps := (List.range 4).map fun s => (24 + 2 * s, 2, b.fld (SEs_TEMP_TEMP s))
          b.telRecord 4 0 ([(16, 2, b.fld PW_VIN_VIN), (18, 2, b.fld PW_VIN_VHOLD), telSigned 20 2 b.hq.dieTemp,
            (22, 2, b.fld PT_TEMP_TEMP)] ++ temps ++ [(32, 2, magTemp.toNat), (34, 1, humidity.toNat), (36, 2, draw.toNat),
            (38, 1, b.fld PW_STAT_RMODE)])

/-! ### Die temperature, I²C -/

/-- DIE_TEMPERATURE_WARNING (R292, R305): the die temperature observed, in 0.1 °C; async TYPE 13 where it crosses
the threshold of FID 0x05 upwards. -/
def execDieTemperatureWarning (temp : BitVec 16) (st : State) : Host.Outcome State Fault Refusal :=
  st.upd fun b =>
    let t := temp.toInt
    let isHot : Bool := b.hq.warnDie < t
    let b' := b.modHq fun h => { h with dieTemp := t, hotDie := isHot }
    if isHot && !b.hq.hotDie then b'.async 13 0 (natOf 16 (t / 10)) else b'

/-- A write of MZ_I2C_CMD with GO (R493): the transfer starts, unless one is under way or the controller is
disabled. -/
def Block.i2cGo (b : Block) (v : Word) : Block :=
  if b.on MZ_I2C_STAT_BUSY || !b.on MZ_I2C_CTL_EN then b
  else
    (b.setFld MZ_I2C_STAT_BUSY 1).emit (.i2c (MZ_I2C_CMD_ADDR.get v) (MZ_I2C_CMD_SUB.get v) (MZ_I2C_CMD_NBYTE.get v + 1)
      (MZ_I2C_CMD_RD.get v = 1) (MZ_I2C_CMD_SUBEN.get v = 1) (b.on MZ_I2C_CTL_FAST) (b.rd MZ_I2C_DATA))

/-- The stored bits of MZ_I2C_CMD. -/
def i2cCmdMask : Word := 0x000FFF7F#32

/-- I2C_TRANSFER (R493): a write of `v` with GO to MZ_I2C_CMD. -/
def execI2cTransfer (v : Word) (st : State) : Host.Outcome State Fault Refusal :=
  st.upd fun b => (b.wr MZ_I2C_CMD (v &&& i2cCmdMask)).i2cGo v

/-- I2C_TRANSFER_DONE (R493): BUSY clears; a read's bytes are in MZ_I2C_DATA, the first in [7:0]. -/
def execI2cTransferDone (r : I2cEnd) (st : State) : Host.Outcome State Fault Refusal :=
  st.upd fun b =>
    if !b.on MZ_I2C_STAT_BUSY then b
    else
      let b := b.setFld MZ_I2C_STAT_BUSY 0
      match r with
      | .done data =>
        if b.on MZ_I2C_CMD_RD then
          let n := b.fld MZ_I2C_CMD_NBYTE + 1
          let low := BitVec.ofNat 32 (2 ^ (8 * n) - 1)
          b.wr MZ_I2C_DATA ((b.rd MZ_I2C_DATA &&& ~~~low) ||| (data &&& low))
        else b
      | .nack => b.setFld MZ_I2C_STAT_NACK 1
      | .stretch => b.setFld MZ_I2C_STAT_TMO 1

end Sys2Proof.Machine
end

