-- ==== Sys2Proof/Machine/Store.lean ====
section
/-!
DEFINITION. The I/O commands (11_command_set.md R309 to R317): where their data go, and what reads return.
-/

namespace Sys2Proof.Machine

/-! ### Cipher at ingest and read-back (R14, R393, R407) -/

/-- The XTS key bound for a generation. -/
def Block.genKey (b : Block) (ns gen : Nat) : Option (List Byte) :=
  match b.store.vol.binds.find? fun x => x.1 = ns && x.2.1 = gen with
  | some x => if (b.slot x.2.2).kind = 1 then some (b.slot x.2.2).key else none
  | none => none

/-- The generation under which a namespace is written; 0: plain. -/
def Block.writeGen (b : Block) (ns : Nat) : Nat :=
  let v := b.store.vol
  if ns = 1 then (if v.encClip then v.curClip else 0) else (if v.encBlock then v.curBlock else 0)

/-- A payload as it is stored: padded and encrypted where a generation is given (R393). -/
def Block.stored (b : Block) (ns clip frame off gen : Nat) (payload : List Byte) : List Byte :=
  match (if gen = 0 then none else b.genKey ns gen) with
  | some k => cellXts false k ns clip frame off (padCell payload)
  | none => payload

/-- The valid bytes of a stored payload. -/
def Block.plain (b : Block) (x : Chunk) (bytes : List Byte) : List Byte :=
  let p := match (if x.gen = 0 then none else b.genKey x.ns x.gen) with
    | some k => cellXts true k x.ns x.twk x.frame x.off bytes
    | none => bytes
  (p ++ List.replicate (x.vlen - p.length) 0).take x.vlen

/-- What reading the cell at a place of the medium gives; the medium holds what was written where the reading of it
is not said to give otherwise. -/
def Chunk.readAt (media : List MediaCell) (x : Chunk) (p : Nat × Nat × Nat × Nat) : Option (List Byte) :=
  match media.find? fun m => (m.band, m.swath, m.stripe, m.beam) = p with
  | some m => m.data
  | none => if x.data.isEmpty && x.vlen ≠ 0 then none else some x.data

/-- Places in the order in which they were written in a band, newest first: its relocation pointer only moves on (R84). -/
def insertPlace (p : Nat × Nat × Nat × Nat) (l : List (Nat × Nat × Nat × Nat)) : List (Nat × Nat × Nat × Nat) :=
  let newer := fun (q : Nat × Nat × Nat × Nat) => 128 * p.2.1 + p.2.2.1 < 128 * q.2.1 + q.2.2.1
  if l.contains p then l else l.takeWhile newer ++ [p] ++ l.dropWhile newer

/-- The places of a chunk on optical in the order of R520: its relocated copies, those of the map and those found by
their ORIGIN (R111, R321), then the original. -/
def Chunk.tries (media : List MediaCell) (x : Chunk) : List (Nat × Nat × Nat × Nat) :=
  match x.place with
  | none => []
  | some p =>
    let origin := some (p.2.1, p.2.2.2, cellSlot (bandSlots p.1) p.2.2.1 p.2.2.2)
    let found := (media.filter fun m => m.band = p.1 && m.origin = origin).map fun m => (m.band, m.swath, m.stripe, m.beam)
    found.foldl (fun l q => insertPlace q l) x.copies ++ [p]

/-- The stored payload of a chunk, from DRAM, Peat or optical (R310): none where it is unrecovered. On optical its
relocated copies are tried from the newest to the oldest, then the original position (R520). -/
def Chunk.fetch (media : List MediaCell) (x : Chunk) : Option (List Byte) :=
  if x.dram || x.staged then some x.data
  else (x.tries media).findSome? (x.readAt media)

/-- The data of the command pass CX and no pair is in service (R399). -/
def Block.cxDead (b : Block) (gens : List Nat) : Bool := b.noPairs && gens.any (· ≠ 0)

/-- The chunk under a key of the loaded volume (namespace, clip, frame, OFFSET). -/
def Block.chunkAt (b : Block) (ns clip frame off : Nat) : Option Chunk :=
  b.volChunks.find? fun x => x.ns = ns && x.clip = clip && x.frame = frame && x.off = off

/-- New stored bytes of a key arrive in DRAM: they replace what the key held, which stays an older content until they
survive a power failure (R266); the older cells of it that are still on their way to optical are counted (R309, R337).
`ends`: it is the first, the last of its frame or extent; `grp`: the atomic BLOCK WRITE. -/
def Block.arriveRaw (b : Block) (seq grp ns clip frame off gen vlen : Nat) (ends : Bool × Bool) (surf : Option Nat)
    (res : Nat) (bytes : List Byte) : Block :=
  let v := b.store.vol
  let old := b.chunkAt ns clip frame off
  let onWay := match old with
    | some x => if !x.optical && ((List.range 4).any fun s => b.cellSent (Fin.ofNat 4 s) x) then x.stale + 1 else x.stale
    | none => 0
  let mine := fun (x : Chunk) => x.mag = v.magid && x.ns = ns && x.clip = clip && x.frame = frame && x.off = off
  let new : Chunk :=
    { mag := v.magid, ns := ns, clip := clip, frame := frame, off := off, gen := gen, vlen := vlen
      data := bytes, dram := true, staged := false, optical := false
      surf := surf, place := none, seq := seq, order := b.store.order + 1, ts := b.stamp.toNat
      stale := onWay, twk := clip, res := res, first := ends.1, last := ends.2, copies := [], grp := grp }
  -- a programmed page of the older content no longer counts for the key
  let b := b.modPt fun p => { p with mapped := p.mapped.filter fun u =>
    !(u.mag = v.magid && u.ns = ns && u.clip = clip && u.frame = frame && u.off = off) }
  b.modStore fun t =>
    { t with order := t.order + 1, chunks := t.chunks.filter (fun x => !mine x) ++ [new], olds := old.toList ++ t.olds }

/-- Payload of a command arrives (R393). -/
def Block.arrive (b : Block) (c : Cmd) (grp ns clip frame off gen vlen : Nat) (ends : Bool × Bool) (surf : Option Nat)
    (res : Nat) (payload : List Byte) : Block :=
  b.arriveRaw c.seq grp ns clip frame off gen vlen ends surf res (b.stored ns clip frame off gen payload)

/-! ### Blocks (R309, R310) -/

/-- A BLOCK WRITE of `n` blocks from `lo` is atomic (R266): at most 512 KiB, across no 2 MiB boundary. -/
def atomicWrite (lo n : Nat) : Bool := n ≤ 128 && lo / 512 = (lo + n - 1) / 512

/-- Units of a block range with, for each, whether its first and its second block are in the range. -/
def halvesOf (lo hi : Nat) : List (Nat × Bool × Bool) :=
  (unitsOf lo hi).map fun u => (u, lo ≤ 2 * u, 2 * u + 1 ≤ hi)

/-- The content of a unit that a write leaves in place: zero where never written; the free value where the
half must be read back and is unrecovered (notes/assumptions/17.md). -/
def Block.unitOld (b : Block) (media : List MediaCell) (u : Nat) : List Byte × Block :=
  match b.chunkAt 2 0 0 u with
  | none => (List.replicate 8192 0, b)
  | some x =>
    match x.fetch media with
    | some bytes => (b.plain x bytes, b)
    | none =>
      let (n, b) := b.freeVal
      (leBytes 8192 n, b)

/-- Spare units of the block space (R299). -/
def Vol.spareTotal (v : Vol) : Nat := v.bspare * v.blku * 32768 / 100

/-- Async TYPE 8: the block spare reaches 10 % (R305). -/
def Block.spareEvent (b : Block) (was : Nat) : Block :=
  let v := b.store.vol
  if 10 * v.spareLeft ≤ v.spareTotal && v.spareTotal < 10 * was then b.async 8 0 (min v.spareLeft 65535) else b

/-- BLOCK_WRITE, with the data that the host's buffer holds and what the medium gives for halves that must be
read back. -/
def execBlockWrite (tag : Nat) (data : List Byte) (media : List MediaCell) (s : State) :
    Host.Outcome State Fault Refusal :=
  s.upd fun b => b.actOn tag 0x21 fun b c =>
    let lo := dwOf c.dws 10
    let hs := halvesOf lo (lo + c.bits 11 15 0)
    let gen := b.writeGen 2
    let v := b.store.vol
    if v.vstate ≠ 3 && v.vstate ≠ 4 then (b.dropClaims tag).failWith c 0x20 0
    else if b.cxDead [gen] then (b.dropClaims tag).failWith c 0x41 0x31
    else if (hs.any fun h => !(h.2.1 && h.2.2) &&
        (b.chunkAt 2 0 0 h.1).elim false fun x => x.gen ≠ 0 && (b.genKey 2 x.gen).isNone) then
      (b.dropClaims tag).failWith c 0x40 0
    else
      -- the units that lie on optical consume the spare; the rest of the reservation returns
      let used := (hs.filter fun h => (b.chunkAt 2 0 0 h.1).elim false (·.optical)).length
      let b := b.modVol fun v => { v with spareLeft := v.spareLeft + c.spare - used }
      let surfs := splitCells (c.split.headD [])
      let grp := if atomicWrite lo (c.bits 11 15 0 + 1) then c.seq else 0
      let b := (hs.zipIdx).foldl (fun b e =>
        let (u, first, second) := e.1
        let (old, b) := if first && second then ([], b) else b.unitOld media u
        let half := fun (i : Nat) (mine : Bool) =>
          if mine then ((data.drop ((2 * u + i - lo) * 4096)).take 4096) else (old.drop (4096 * i)).take 4096
        let bytes := half 0 first ++ half 1 second
        let res := min 8192 (c.space - 8192 * e.2)
        b.arrive c grp 2 0 0 u gen 8192 (e.2 = 0, e.2 + 1 = hs.length) (surfs.getD e.2 none) res bytes) b
      let b := b.purgeOlds
      let sent := ((unitsOf lo (lo + c.bits 11 15 0)).filterMap fun u => (b.chunkAt 2 0 0 u).map (·.data)).flatten
      let b := (b.mirrorData c sent).modStore fun t =>
        { t with blockRate := match t.blockRate with | [] => [c.dlen] | x :: r => (x + c.dlen) :: r }
      ((b.spareEvent v.spareLeft).claimsTaken tag).succeed c 0

/-- Ascending runs of consecutive numbers: first and length. -/
def runsOf : List Nat → List (Nat × Nat)
  | [] => []
  | n :: t =>
    match runsOf t with
    | (m, k) :: r => if m = n + 1 then (n, k + 1) :: r else (n, 1) :: (m, k) :: r
    | [] => [(n, 1)]

/-- Band, swath, beam and slot of a place (R286). -/
def locOf (p : Nat × Nat × Nat × Nat) : Nat × Nat × Nat × Nat :=
  (p.1, p.2.1, p.2.2.2, cellSlot (bandSlots p.1) p.2.2.1 p.2.2.2)

/-- A read ends: the data are delivered; unrecovered parts end it with UNRECOVERED_READ and a damage list
(R149, R291). -/
def Block.readEnd (b : Block) (c : Cmd) (bytes : List Byte) (damage : List (Nat × Nat × Nat)) (res count clip : Nat)
    (lost : Option Chunk) : Block :=
  let b := if bytes.isEmpty then b else b.sendData c bytes
  match damage with
  | [] => b.succeed c res
  | (pos, boff, _) :: _ =>
    b.finish c.tag { Finish.of 0x11 0x37 res with
      pos := pos, boff := boff, count := count, clip := clip, damage := damage
      loc := lost.bind fun x => x.place.map locOf }

/-- What a BLOCK READ does. -/
def Block.blockRead (b : Block) (c : Cmd) (media : List MediaCell) : Block :=
    let lo := dwOf c.dws 10
    let n := c.bits 11 15 0 + 1
    let us := unitsOf lo (lo + n - 1)
    let held := us.filterMap fun u => b.chunkAt 2 0 0 u
    if b.store.vol.vstate ≠ 3 && b.store.vol.vstate ≠ 4 then b.failWith c 0x20 0
    else if b.cxDead (held.map (·.gen)) then b.failWith c 0x41 0x31
    else
      let blocks := (List.range n).map fun i =>
        let k := lo + i
        match b.chunkAt 2 0 0 (k / 2) with
        | none => some (List.replicate 4096 (0 : Byte))
        | some x => (x.fetch media).map fun bytes => ((b.plain x bytes).drop (k % 2 * 4096)).take 4096
      let bad := (List.range n).filterMap fun i => if (blocks.getD i none).isNone then some (lo + i) else none
      let bytes := (blocks.map fun x => x.getD (List.replicate 4096 0)).flatten
      b.readEnd c bytes ((runsOf bad).map fun r => (r.1, 0, r.2)) bad.length bad.length 0
        (held.find? fun x => (x.fetch media).isNone)

/-- BLOCK_READ, with what the medium gives for the cells that only optical holds. -/
def execBlockRead (tag : Nat) (media : List MediaCell) (s : State) : Host.Outcome State Fault Refusal :=
  s.upd fun b => b.actOn tag 0x20 fun b c => b.blockRead c media

/-! ### FLUSH (R268, R311) -/

/-- FLUSH: it ends once everything it covers has ended and is durable. -/
def execFlush (tag : Nat) (s : State) : Host.Outcome State Fault Refusal :=
  s.upd fun b => b.actOn tag 0x22 fun b c =>
    let names := fun (ns : Nat) => c.nsid = 0xFF || c.nsid = ns
    let optical : Bool := c.bits 10 0 0 = 1
    if b.hq.cmds.any fun x => x.writeClass && x.seq < c.seq && names x.nsid then b
    else
      let covered := b.store.chunks.filter fun x => 0 < x.seq && x.seq < c.seq && names x.ns
      let open_ := covered.filter fun x => !b.durable (if optical then 2 else 1) x
      if open_.isEmpty then b.succeed c 0
      else if optical && (b.store.vol.vstate = 0 || open_.any fun x => x.mag ≠ b.store.vol.magid) then
        b.failWith c 0x20 0
      else if optical && b.writers.isEmpty then b.failWith c 0x12 0x30
      else b

/-! ### Clips (R312 to R314) -/

/-- Cells of a frame. -/
def Clip.cells (x : Clip) : Nat := (x.fsize + 8191) / 8192

/-- Bytes of a clip on verified optical, and in DRAM or Peat. -/
def Block.clipBytes (b : Block) (n : Nat) : Nat × Nat :=
  let cs := b.volChunks.filter fun x => x.ns = 1 && x.clip = n
  (((cs.filter (·.optical)).map (·.vlen)).foldl (· + ·) 0, ((cs.filter fun x => !x.optical).map (·.vlen)).foldl (· + ·) 0)

/-- Fields of the summary (R316). -/
def Block.summary (b : Block) (x : Clip) : List (Nat × Nat × Nat) :=
  let (opt, held) := b.clipBytes x.num
  [(0, 2, x.num), (2, 1, x.state), (3, 1, x.gen), (4, 4, x.fsize), (8, 4, x.next), (12, 4, x.skipped.length),
   (16, 4, x.tc), (20, 8, x.openTs), (28, 8, x.closeTs), (36, 8, opt), (44, 8, held)]

/-- The CLIP_OPEN or CLIP_CLOSE entry of a clip (R320). -/
def Block.clipEntry (b : Block) (x : Clip) : List Byte :=
  packBytes 64 (b.summary x ++ [(52, 4, x.rate), (56, 1, x.tcFps), (57, 1, x.drop.toNat + 2 * x.stage.toNat + 16 * x.surf)]) ++
    x.meta_.take 4096 ++ List.replicate (4096 - x.meta_.length) 0

/-- CLIP_OPEN (R312, R338; 16_mirror_pair.md R415), with the metadata of the host's buffer, and whether the
partner admits it where the pair mirrors. -/
def execClipOpen (tag : Nat) (metadata : List Byte) (peer : Bool) (s : State) : Host.Outcome State Fault Refusal :=
  s.upd fun b => b.actOn tag 0x30 fun b c =>
    let d := c.dws
    let v := b.store.vol
    let opened := (v.clips.filter fun x => x.state = 1).length
    let x : Clip :=
      { num := c.clip, state := 1, fsize := dwOf d 11, rate := dwOf d 12, next := 0, sealed := false, skipped := []
        tc := dwOf d 14, tcFps := c.bits 15 7 0, drop := c.bits 15 8 8 = 1, stage := c.bits 13 0 0 = 1
        surf := c.bits 13 7 4, meta_ := metadata.take c.dlen, gen := 0, openTs := b.stamp.toNat, closeTs := 0
        stamped := none }
    let b := b.dropClaims tag
    if v.clips.any fun y => y.num = c.clip then b.failWith c 0x02 0x08
    else if 65535 ≤ v.clips.length || c.clip = 0 then b.failWith c 0x22 0x34
    else if 16 ≤ opened then b.failWith c 0x22 0x36
    else if b.volFull then b.failWith c 0x22 0x35
    else if !b.admitted x.load x.surf x.stage || (b.mirroring && !peer) then b.failWith c 0x23 0x3A
    else
      let b := b.modVol fun v => { v with clips := v.clips ++ [x] }
      (b.journalBoth 3 (b.clipEntry x)).succeed c c.clip

/-- FRAME_APPEND (R313, R334), with the data of the host's buffer. -/
def execFrameAppend (tag : Nat) (data : List Byte) (s : State) : Host.Outcome State Fault Refusal :=
  s.upd fun b => b.actOn tag 0x31 fun b c =>
    match b.clip c.clip with
    | none => (b.dropClaims tag).failWith c 0x20 0
    | some x =>
      let gen := b.writeGen 1
      if b.cxDead [gen] then (b.dropClaims tag).failWith c 0x41 0x31
      else
        let n := x.cells
        let b := if c.frame = 0 then b.modClip c.clip fun y => { y with gen := gen } else b
        let b := (List.range c.frames).foldl (fun b i =>
          let surfs := splitCells (c.split.getD i [])
          (List.range n).foldl (fun b j =>
            let at_ := i * x.fsize + 8192 * j
            let len := min 8192 (x.fsize - 8192 * j)
            let res := min 8192 (c.space - 8192 * (i * n + j))
            b.arrive c 0 1 c.clip (c.frame + i) j gen len (j = 0, j + 1 = n) (surfs.getD j none) res ((data.drop at_).take len)) b) b
        let sent := ((b.frameChunks c.clip c.frame (c.frame + c.frames - 1)).map (·.data)).flatten
        ((b.mirrorData c sent).claimsTaken tag).succeed c c.frame

/-- A clip closes: its CLIP_CLOSE entry is journalled (R314, R323). -/
def Block.closeClip (b : Block) (n : Nat) (metadata : Option (List Byte)) : Block :=
  let ts := b.stamp.toNat
  let b := b.modClip n fun x =>
    { x with state := 2, sealed := true, closeTs := ts, meta_ := metadata.getD x.meta_ }
  match b.clip n with
  | some x => b.journalBoth 4 (b.clipEntry x)
  | none => b

/-- CLIP_CLOSE, with the metadata of the host's buffer. -/
def execClipClose (tag : Nat) (metadata : List Byte) (s : State) : Host.Outcome State Fault Refusal :=
  s.upd fun b => b.actOn tag 0x32 fun b c =>
    let b := b.dropClaims tag
    match b.clip c.clip with
    | none => b.failWith c 0x20 0
    | some x =>
      if x.state = 2 then b.failWith c 0x02 0x07
      else (b.closeClip c.clip (if c.dlen = 0 then none else some (metadata.take c.dlen))).succeed c x.next

/-! ### Reading clips (R315 to R317) -/

/-- Reads of the clip wait for the tail scan (R326). -/
def Block.scanWaits (b : Block) (x : Clip) : Bool := b.store.vol.scan && x.state ≠ 2

/-- The bytes [from, to) of a frame, and the damaged runs within them as (BOFF, LEN). -/
def Block.frameBytes (b : Block) (media : List MediaCell) (x : Clip) (frame from_ to_ : Nat) :
    List Byte × List (Nat × Nat) :=
  let cells := (List.range x.cells).map fun j =>
    let len := min 8192 (x.fsize - 8192 * j)
    match b.chunkAt 1 x.num frame j with
    | some y => ((y.fetch media).map (b.plain y), len)
    | none => (none, len)
  let bytes := (cells.map fun e => e.1.getD (List.replicate e.2 0)).flatten
  let bad := (List.range x.cells).filter fun j =>
    (cells.getD j (none, 0)).1.isNone && from_ < 8192 * j + 8192 && 8192 * j < to_
  let runs := (runsOf bad).map fun r =>
    let lo := max from_ (8192 * r.1)
    let hi := min to_ (8192 * (r.1 + r.2))
    (lo, hi - lo)
  ((bytes.drop from_).take (to_ - from_), runs)

/-- What a FRAME READ does. -/
def Block.frameRead (b : Block) (c : Cmd) (media : List MediaCell) : Block :=
    match b.clip c.clip with
    | none => b.failWith c 0x20 0
    | some x =>
      let first := dwOf c.dws 11
      let n := c.bits 12 7 0 + 1
      let part : Bool := c.bits 12 31 31 = 1
      let held := b.frameChunks c.clip first (first + n - 1)
      if b.scanWaits x then b
      else if b.cxDead (held.map (·.gen)) then b.failWith c 0x41 0x31
      else
        let lo := if part then dwOf c.dws 13 else 0
        let hi := if part then lo + c.dlen else x.fsize
        let frames := (List.range n).map fun i => (first + i, b.frameBytes media x (first + i) lo hi)
        let damage := (frames.map fun f => f.2.2.map fun r => (f.1, r.1, r.2)).flatten
        let count := (frames.filter fun f => !f.2.2.isEmpty).length
        b.readEnd c (frames.map (·.2.1)).flatten damage 0 count c.clip
          (held.find? fun y => (y.fetch media).isNone)

/-- FRAME_READ, with what the medium gives for the cells that only optical holds. -/
def execFrameRead (tag : Nat) (media : List MediaCell) (s : State) : Host.Outcome State Fault Refusal :=
  s.upd fun b => b.actOn tag 0x33 fun b c => b.frameRead c media

/-- CATALOGUE_READ (R316). -/
def execCatalogueRead (tag : Nat) (s : State) : Host.Outcome State Fault Refusal :=
  s.upd fun b => b.actOn tag 0x34 fun b c =>
    let start := dwOf c.dws 11
    let clips := b.store.vol.clips.foldl (fun (acc : List Clip) x =>
      acc.takeWhile (fun y => y.num < x.num) ++ [x] ++ acc.dropWhile (fun y => y.num < x.num)) []
    if c.bits 10 1 0 = 1 then
      match clips.find? fun x => x.num = start with
      | none => b.failWith c 0x03 0
      | some x =>
        (b.sendData c (packBytes 64 (b.summary x) ++ x.meta_.take 4096)).succeed c 1
    else
      let out := (clips.filter fun x => start ≤ x.num).take (c.dlen / 64)
      (b.sendData c (out.map fun x => packBytes 64 (b.summary x)).flatten).succeed c out.length

/-- CLIP_VERIFY: it waits until every frame named is durable on optical; `bad` are the cells (frame, OFFSET) that
stay unreadable under R148. -/
def execClipVerify (tag : Nat) (bad : List (Nat × Nat)) (s : State) : Host.Outcome State Fault Refusal :=
  s.upd fun b => b.actOn tag 0x35 fun b c =>
    match b.clip c.clip with
    | none => b.failWith c 0x20 0
    | some x =>
      let first := dwOf c.dws 11
      let n := if dwOf c.dws 12 = 0 then x.next - first else dwOf c.dws 12
      let named := b.frameChunks c.clip first (first + n - 1)
      if b.scanWaits x || named.any (fun y => !y.optical) then b
      else
        let isBad := fun (y : Chunk) => bad.any fun e => e.1 = y.frame && e.2 = y.off
        let frames := ((List.range n).map (first + ·)).filter fun f => !x.skipped.contains f
        let damage := (frames.map fun f =>
          let cs := (List.range x.cells).filter fun j => named.any fun y => y.frame = f && y.off = j && isBad y
          (runsOf cs).map fun r => (f, 8192 * r.1, min x.fsize (8192 * (r.1 + r.2)) - 8192 * r.1)).flatten
        let count := (frames.filter fun f => damage.any fun e => e.1 = f).length
        b.readEnd c [] damage count count c.clip (named.find? isBad)

end Sys2Proof.Machine
end

