-- ==== Sys2Proof/Machine/Ledger.lean ====
section
/-!
DEFINITION. The ledger (12_clip_store_and_placement.md R318 to R326): EXTENT entries, reading a catalogue,
ledger visits, the tail scan; and placement's steps (R333, R337, R340).
-/

namespace Sys2Proof.Machine

def Block.modLog (b : Block) (s : Fin 4) (f : LedgerLog → LedgerLog) : Block :=
  b.modVol fun v => { v with log := vmod v.log s f }

def Block.logOf (b : Block) (s : Fin 4) : LedgerLog := vget b.store.vol.log s

/-! ### EXTENT entries (R321) -/

/-- Cells of a clip's frame, or 1 for a block unit, where the clip is known. -/
def Block.frameCells (b : Block) (ns clip : Nat) : Nat :=
  if ns = 2 then 1 else (b.clip clip).elim 0 Clip.cells

/-- The EXTENT entry of a run of `n` cells that begins with `x` at its place (R321). -/
def Block.extent (b : Block) (x : Chunk) (n wseq : Nat) : List Byte :=
  let (band, swath, stripe, beam) := x.place.getD (0, 0, 0, 0)
  let block : Bool := x.ns = 2
  let last : Bool := !block && x.off + n = b.frameCells 1 x.clip
  packBytes 32 [(0, 2, x.clip), (2, 1, x.ns), (3, 1, (if !block && x.off = 0 then 1 else 0) + 2 * last.toNat),
    (4, 4, if block then x.off else x.frame), (8, 4, if block then 0 else x.off), (12, 4, n), (16, 2, band),
    (18, 2, swath), (20, 1, stripe), (21, 1, beam), (22, 1, x.gen), (24, 4, wseq)]

/-- `y` follows `x` in a run: the next cell of the frame, or the next unit. -/
def Chunk.follows (x y : Chunk) : Bool :=
  x.ns = y.ns && x.clip = y.clip && x.frame = y.frame && y.off = x.off + 1 && x.gen = y.gen

/-- Chunks in position order, as runs: first chunk and length. -/
def chunkRuns : List Chunk → List (Chunk × Nat)
  | [] => []
  | x :: t =>
    match chunkRuns t with
    | (y, k) :: r => if x.follows y then (x, k + 1) :: r else (x, 1) :: (y, k) :: r
    | [] => [(x, 1)]

/-- A cell of stripe `t` is durable at optical: its data unit takes its place, with those of its relocated copies,
and leaves DRAM (R111, R337). An older
content of a unit that reached optical costs the newer one a spare unit (R309). With the units done so far. -/
def durableCell (t : Stripe) (acc : List Chunk × Block) (e : Cell × Nat) : List Chunk × Block :=
  match acc.2.volChunks.find? fun x => x.isCell e.1 with
  | none => acc
  | some x =>
    let mine := fun (y : Chunk) => y.mag = x.mag && y.isCell e.1
    let place := some (t.band, t.swath, t.stripe, e.2)
    if e.1.kind ≠ .data || x.optical then acc
    else if x.stale ≠ 0 then
      let b := acc.2.modChunks mine fun y => { y with stale := y.stale - 1 }
      (acc.1, if x.ns = 2 then b.modVol fun v => { v with spareLeft := v.spareLeft - 1 } else b)
    else
      (acc.1 ++ [{ x with place := place }],
        (acc.2.releaseDram mine).modChunks mine fun y =>
          { y with optical := true, staged := false, place := place
                   copies := (t.moved.filter fun c => c.1 = e.2).map (·.2) })

/-- OPTICAL_DURABLE (R111, steps 4 to 6; R323, R337): the map update and the EXTENT entries of the stripe are
journalled, its chunks are durable on optical, their DRAM copies are released, and VSEQ advances. A stripe of
ledger cells makes one copy of its record durable; with the second the record is durable on the surface (R324). -/
def execOpticalDurable (s : Fin 4) (wseq : BitVec 32) (st : State) : Host.Outcome State Fault Refusal :=
  st.upd fun b => b.onSurf s fun b =>
    let q := wseq.toNat
    match (vget b.wp s).stripes.find? fun t => t.wseq = q && t.passed && !t.void && !t.durable with
    | none => b
    | some t =>
      let b := b.stripeDurable s q
      if t.reloc then b
      else
        let r := (t.cells.zipIdx.take 13).foldl (durableCell t) ([], b)
        let b := (chunkRuns r.1).foldl (fun b r => b.journalEntry 5 (b.extent r.1 r.2 q)) r.2.purgeOlds
        match t.cells.head? with
        | some c =>
          if c.kind = .ledger && c.frame ≠ 0 then
            b.modLog s fun l =>
              if l.once.contains c.frame then { l with done := insertSrc c.frame l.done }
              else { l with once := insertSrc c.frame l.once }
          else b
        | none => b

/-! ### Ledger visits (R324, R522) -/

/-- The 16 cells of a record's stripe; copy 0 is A, 1 is B (R81, R319). RSEQ 0 stands for a CONT record. -/
def recordStripe (rseq copy : Nat) : List Cell :=
  (List.range 13).map (fun k => (⟨.ledger, copy, rseq, k, true⟩ : Cell)) ++ List.replicate 3 ⟨.parity, 0, 0, 0, true⟩

/-- Stripes 0 to 29 of a log swath: the pairs given, then fill, with CONT in pair 14 but for swaths 3 to 6 and
359. -/
def logSwath (swath : Nat) (rseqs : List Nat) : List (List Cell) :=
  let fill := List.replicate 16 (⟨.fill, 0, 0, 0, true⟩ : Cell)
  let cont : Bool := 7 ≤ swath && swath ≠ 359
  let half : Nat → List (List Cell) := fun copy => (List.range 15).map fun j =>
    match rseqs[j]? with
    | some r => recordStripe r copy
    | none => if j = 14 && cont then recordStripe 0 copy else fill
  half 0 ++ half 1

/-- The key bound as catalogue key: KEYGEN 0 of namespace CLIP (R294, R322). -/
def Block.catKey (b : Block) : List Byte :=
  match b.store.vol.binds.find? fun x => x.1 = 1 && x.2.1 = 0 with
  | some x => (b.slot x.2.2).key
  | none => []

/-- The 106,496 payload bytes of a record (R319), sealed under the catalogue key where the volume has AUTH (R322). -/
def Block.recordImage (b : Block) (r : LedgerRec) : List Byte :=
  let v := b.store.vol
  let encb : Bool := v.auth && (v.encClip || v.encBlock)
  let head := [0x50, 0x4C, 0x4C, 0x52] ++ packBytes 20 [(0, 1, r.rtype), (1, 1, 1), (2, 1, v.auth.toNat + 2 * encb.toNat),
      (4, 8, r.rseq), (12, 8, r.ts)] ++ v.magid ++
    packBytes 24 [(0, 2, r.entries.length), (2, 2, (r.entries.headD []).length)]
  let flat := r.entries.flatten
  let body := flat ++ List.replicate (106400 - flat.length) 0
  let (text, tag) := gcm b.catKey (v.magid ++ leBytes 8 r.rseq) (if encb then head else head ++ body) (if encb then body else []) false
  let image := head ++ (if encb then text else body) ++ (if v.auth then tag else List.replicate 16 0)
  image ++ leBytes 4 (crc32 image).toNat ++ List.replicate 12 0

/-- The continuation record of a log swath (R81, R320). -/
def Block.contRec (b : Block) (swath : Nat) : LedgerRec :=
  ⟨0, 15, b.stamp.toNat, [packBytes 16 [(0, 2, if swath = 7 then 296 else swath + 1)]], []⟩

/-- The data cells of a record's stripe, 8,192 bytes each in beam order (R319). -/
def Block.recordBodies (b : Block) (r : LedgerRec) : List CellBody :=
  let image := b.recordImage r
  (List.range 13).map fun k => ledgerBody (r.rtype = 15) ((image.drop (8192 * k)).take 8192)

/-- The built cells of a log swath as `logSwath` lays it out. -/
def Block.logImages (b : Block) (s : Fin 4) (swath : Nat) (stripes : List (List Cell)) : List (List CellImage) :=
  let q := b.fld (WP_Ss_WSEQ_WSEQ s) + 1
  stripes.zipIdx.map fun e =>
    let c := e.1.headD ⟨.fill, 0, 0, 0, true⟩
    let data := if c.kind ≠ .ledger then []
      else if c.frame = 0 then b.recordBodies (b.contRec swath)
      else (b.store.vol.records.find? fun r => r.rseq = c.frame).elim [] b.recordBodies
    stripeImages (256 * s.val) swath e.2 (q + e.2) data

/-- Record pairs of a log swath. -/
def logPairs (swath : Nat) : Nat := if swath ≤ 6 ∨ swath = 359 then 15 else 14

/-- The log swath after one (R324). -/
def nextLog (swath : Nat) : Nat := if swath = 7 then 296 else swath + 1

/-- Records that surface `s` has still to write, in RSEQ order. -/
def Block.recsPending (b : Block) (s : Fin 4) : List LedgerRec :=
  b.store.vol.records.filter fun r => !(b.logOf s).written.contains r.rseq

/-- A command that a ledger visit serves waits: FORMAT, CLIP CLOSE with DUR 2, MAGAZINE EJECT. -/
def Block.visitWaits (b : Block) : Bool :=
  b.hq.cmds.any fun c => c.started && (c.opc = 0x0A || c.opc = 0x09 || (c.opc = 0x32 && c.dur = 2))

/-- A ledger visit of the surface is due (R324): 24 band steps since the last (a load with records pending counts
as that), a command that waits, or a visit that was cut. -/
def Block.ledgerDue (b : Block) (s : Fin 4) : Bool :=
  let pending : Bool := !(b.recsPending s).isEmpty || !b.store.vol.entries.isEmpty
  let cut : Bool := (vget b.wp s).rewrite.any fun c => c.kind = .ledger
  b.store.vol.vstate ≠ 0 && (cut || (pending && (24 ≤ (b.logOf s).steps || b.visitWaits)))

/-- A record that may go into swath 359: data already accepted, CLIP_CLOSE and VOLUME_CLOSE records (R522). -/
def LedgerRec.closing (r : LedgerRec) : Bool := r.rtype ≠ 3

/-- LEDGER_VISIT: one pass of a visit. The pickup is at L0/Z0; the open records are closed, and the next pending
ones go into the next log swath. Records of stripes that were cut are written again. -/
def execLedgerVisit (s : Fin 4) (st : State) : Host.Outcome State Fault Refusal :=
  st.upd fun b => b.onSurf s fun b =>
    let w := vget b.wp s
    if w.planned.isSome || w.running.isSome || !b.ledgerDue s || b.store.vol.readOnly || !b.writable s ||
        360 ≤ (b.logOf s).swath then b
    else
      let b := b.closeAll
      -- records whose cells came back from a cut pass
      let back := (w.rewrite.filter fun c => c.kind = .ledger).map (·.frame)
      let b := b.modWp s fun w => { w with rewrite := w.rewrite.filter fun c => c.kind ≠ .ledger }
      let b := b.modLog s fun l => { l with written := l.written.filter fun r => !back.contains r }
      let swath := (b.logOf s).swath
      let recs := (b.recsPending s).filter fun r => swath ≠ 359 || r.closing
      let now := (recs.take (logPairs swath)).map (·.rseq)
      if now.isEmpty then b
      else
        let run := logSwath swath now
        let b := b.plan s .ledger (256 * s.val) swath 0 run (b.logImages s swath run)
        b.modLog s fun l => { l with swath := nextLog swath, written := l.written ++ now, steps := 0 }

/-! ### Band steps, draining, the staging floor (R333, R337, R340) -/

/-- Passes that the window of an engine takes (R477); the check passes of engine 2 are not numbered. -/
def windowPasses (e : Nat) : Nat := if e = 1 then 1 else if e = 3 ∨ e = 6 then 2 else 0

/-- The windows whose deferral expired are placed at the start of this band step, that of engine 0 on the
lowest-numbered writable surface (R336, R477): surface offset 36, and their passes count as lost. -/
def Block.openWindows (b : Block) (s : Fin 4) : Block :=
  let mine := b.cal.windows.filter fun e => e ≠ 0 || b.writers.head? = some s.val
  if mine.isEmpty then b
  else
    let n := (mine.map windowPasses).foldl (· + ·) 0
    let b := b.modCal fun c =>
      { c with windows := c.windows.filter fun e => !mine.contains e
               defer := mine.foldl (fun d e => vset d (Fin.ofNat 7 e) 0) c.defer
               persistDue := c.persistDue && !mine.contains 5 }
    let b := (b.modWp s fun w => { w with lost := w.lost + n }).modCalSurf s fun c => { c with lost := c.lost + n }
    (if mine.contains 5 then b.persistTel else b).raiseSurf s 36

/-- BAND_STEP (R333, R336): the current band is full or spare-exhausted, and the next of the sequence that is
neither is taken. -/
def execBandStep (s : Fin 4) (st : State) : Host.Outcome State Fault Refusal :=
  st.upd fun b => b.onSurf s fun b =>
    let w := vget b.wp s
    let full : Bool := endSwath w.band ≤ w.swath
    if !full && !w.spent.contains w.band then b
    else
      let b := if full && !w.spent.contains w.band && !b.store.vol.fullBands.contains w.band then
          (b.modVol fun v => { v with fullBands := v.fullBands ++ [w.band] }).modWp s fun w =>
            { w with swaths := w.swaths.set w.band (endSwath w.band - firstSwath w.band) 0 } else b
      let b := b.modStore fun t => { t with lostStep := vset t.lostStep s w.lost }
      let b := b.modLog s fun l => { l with steps := l.steps + 1 }
      match b.bandsLeft s with
      | [] => b.modWp s fun w => { w with lost := 0 }
      | k :: _ =>
        let b := (b.modWp s fun w => { w with band := k, swath := firstSwath k, stripe := 0, lost := 0 }).openWindows s
        -- the band's record names the beams that are failed when it is entered (R112)
        if b.failedMask s = 0 then b else b.bandEntryFor k (b.failedMask s)

/-- The oldest of the chunks. -/
def oldest (l : List Chunk) : Option Chunk :=
  l.foldl (fun o x => match o with | none => some x | some y => if x.order < y.order then some x else some y) none

/-- Staged chunks of the loaded volume that no surface has taken. -/
def Block.drainable (b : Block) : List Chunk := b.volChunks.filter fun x => x.staged && !x.optical && x.surf.isNone

/-- A staged chunk is given to surface `s`; that of a renumbered clip is re-tweaked on its way (R331, R395), and
waits where its key is not bound. -/
def Block.drainOne (b : Block) (s : Fin 4) (x : Chunk) : Block :=
  let mine := fun (y : Chunk) => y.mag = x.mag && y.ns = x.ns && y.clip = x.clip && y.frame = x.frame && y.off = x.off
  if x.gen = 0 || x.twk = x.clip then b.modChunks mine fun y => { y with surf := some s.val, twk := y.clip }
  else
    match b.genKey x.ns x.gen with
    | none => b
    | some k =>
      if b.noPairs then b
      else
        let bytes := cellXts false k x.ns x.clip x.frame x.off (cellXts true k x.ns x.twk x.frame x.off x.data)
        b.modChunks mine fun y => { y with surf := some s.val, twk := y.clip, data := bytes }

/-- STAGED_DRAIN (R340): while the surface's planned but unwritten stripes are below N_k, the oldest staged chunks
are given to it. -/
def execStagedDrain (s : Fin 4) (st : State) : Host.Outcome State Fault Refusal :=
  st.upd fun b => b.onSurf s fun b =>
    let per := dataRoom (b.failedBeams s)
    let room := bandSlots (vget b.wp s).band * per - b.unwritten s
    if !b.writers.contains s.val || per = 0 then b
    else
      (List.range (min room b.drainable.length)).foldl (fun b _ =>
        match oldest b.drainable with
        | some x => b.drainOne s x
        | none => b) b

/-- STAGING_FLOOR (R337, R305 TYPE 7). -/
def execStagingFloor (s : State) : Host.Outcome State Fault Refusal :=
  s.upd fun b =>
    let free := b.stageFree
    if free = 0 && !b.hq.belowFloor then
      (b.modHq fun h => { h with belowFloor := true }).async 7 1 (b.fld PT_HEALTH_HEALTH)
    else if 16000000000 ≤ free && b.hq.belowFloor then
      (b.modHq fun h => { h with belowFloor := false }).async 7 3 (b.fld PT_HEALTH_HEALTH)
    else b

/-! ### Reading a catalogue (R320, R321, R325) -/

/-- Failed beams of a band in the catalogue read so far: the mask of its last BAND entry. -/
def bandMask (es : List (Nat × List Byte)) (band : Nat) : Nat :=
  match es.reverse.find? fun e => e.1 = 9 && valAt e.2 0 2 = band with
  | some e => valAt e.2 2 2
  | none => 0

/-- The next data position in fill order (R87, R321), skipping failed beams. -/
def nextPlace (mask : Nat) (p : Nat × Nat × Nat × Nat) : Nat × Nat × Nat × Nat :=
  let (band, swath, stripe, beam) := p
  let ok := fun (k : Nat) => !mask.testBit k
  match (List.range 13).find? fun k => beam < k && ok k with
  | some k => (band, swath, stripe, k)
  | none =>
    let k := ((List.range 13).find? ok).getD 0
    if stripe + 1 < bandSlots band then (band, swath, stripe + 1, k) else (band, swath + 1, 0, k)

/-- The places of a run. -/
def placesFrom (mask : Nat) : Nat → Nat × Nat × Nat × Nat → List (Nat × Nat × Nat × Nat)
  | 0, _ => []
  | n + 1, p => p :: placesFrom mask n (nextPlace mask p)

/-- A clip from a CLIP_OPEN or CLIP_CLOSE entry; state 3 until its CLIP_CLOSE is read (R316, R326). -/
def clipOf (e : List Byte) (closed : Bool) : Clip :=
  let flags := byteAt e 57
  { num := valAt e 0 2, state := if closed then 2 else 3, fsize := valAt e 4 4, rate := valAt e 52 4
    next := if closed then valAt e 8 4 else 0, sealed := closed, skipped := [], tc := valAt e 16 4, tcFps := byteAt e 56
    drop := flags.testBit 0, stage := flags.testBit 1, surf := flags / 16, meta_ := e.drop 64, gen := byteAt e 3
    openTs := valAt e 20 8, closeTs := valAt e 28 8, stamped := none }

/-- A clip reaches at least to frame `n`. -/
def Vol.reach (v : Vol) (clip n : Nat) : Vol :=
  { v with clips := v.clips.map fun x => if x.num = clip then { x with next := max x.next n } else x }

/-- The chunks of an EXTENT entry, known from the catalogue only. -/
def extentChunks (v : Vol) (mask : Nat) (e : List Byte) : List Chunk :=
  let ns := byteAt e 2
  let n := valAt e 12 4
  let clip := valAt e 0 2
  let fsize := ((v.clips.find? fun x => x.num = clip).map (·.fsize)).getD 0
  (placesFrom mask n (valAt e 16 2, valAt e 18 2, byteAt e 20, byteAt e 21)).zipIdx.map fun p =>
    let off := (if ns = 2 then valAt e 4 4 else valAt e 8 4) + p.2
    { mag := v.magid, ns := ns, clip := clip, frame := if ns = 2 then 0 else valAt e 4 4, off := off
      gen := byteAt e 22, vlen := if ns = 2 then 8192 else min 8192 (fsize - 8192 * off), data := [], dram := false
      staged := false, optical := true, surf := some (bandSurf (valAt e 16 2)), place := some p.1, seq := 0, order := 0
      ts := 0, stale := 0, twk := clip, res := 0, first := ns = 1 && off = 0, last := false, copies := [], grp := 0 }

/-- Add chunks read from the catalogue: a later content of a block unit replaces an earlier one and has used a
spare unit (R309); data held in Peat or DRAM is newer than what optical holds. -/
def Block.addOptical (b : Block) (cs : List Chunk) : Block :=
  cs.foldl (fun b x =>
    match b.chunkAt x.ns x.clip x.frame x.off with
    | none => b.modStore fun t => { t with chunks := t.chunks ++ [x] }
    | some y =>
      if !y.optical then b
      else
        let b := if x.ns = 2 then b.modVol fun v => { v with spareLeft := v.spareLeft - 1 } else b
        b.modStore fun t => { t with chunks := t.chunks.filter (fun z => z ≠ y) ++ [x] }) b

/-- Apply one catalogue entry; `seen` are the entries before it. -/
def Block.applyEntry (b : Block) (seen : List (Nat × List Byte)) (t : Nat) (e : List Byte) : Block :=
  if t = 1 then
    b.modVol fun v =>
      let v := { v with encClip := (byteAt e 0).testBit 0, encBlock := (byteAt e 0).testBit 1
                        auth := (byteAt e 0).testBit 2, blku := byteAt e 1, bspare := byteAt e 2, desc := byteAt e 3
                        catCheck := (e.drop 8).take 8, label := (e.drop 64).take 64 }
      { v with spareLeft := v.spareTotal }
  else if t = 2 then
    let ns := byteAt e 0
    let gen := byteAt e 1
    b.modVol fun v =>
      { v with gens := v.gens ++ [(ns, gen, (e.drop 8).take 8)]
               curClip := if ns = 1 then max gen v.curClip else v.curClip
               curBlock := if ns = 2 then max gen v.curBlock else v.curBlock }
  else if t = 3 then b.modVol fun v => { v with clips := v.clips ++ [clipOf e false] }
  else if t = 4 then
    b.modVol fun v => { v with clips := v.clips.map fun x =>
      let y : Clip := { clipOf e true with skipped := x.skipped, next := max x.next (valAt e 8 4) }
      if x.num = y.num then y else x }
  else if t = 5 then
    let b := b.addOptical (extentChunks b.store.vol (bandMask seen (valAt e 16 2)) e)
    if byteAt e 2 = 1 then b.modVol fun v => v.reach (valAt e 0 2) (valAt e 4 4 + 1) else b
  else if t = 6 then
    let n := byteAt e 2
    let first := valAt e 4 4
    b.modVol fun v =>
      let v := v.reach (valAt e 0 2) (first + n)
      { v with clips := v.clips.map fun x =>
          if x.num = valAt e 0 2 then { x with skipped := x.skipped ++ (List.range n).map (first + ·) } else x }
  else if t = 8 then
    b.modWp (Fin.ofNat 4 (bandSurf (valAt e 0 2))) fun w =>
      { w with voids := w.voids ++ [⟨valAt e 0 2, valAt e 2 2, valAt e 4 4⟩] }
  else if t = 9 then
    let k := valAt e 0 2
    let b := b.recordFails k (valAt e 2 2)
    let b := if byteAt e 4 = 2 then (b.modVol fun v => { v with fullBands := v.fullBands ++ [k] }) else b
    if byteAt e 4 = 3 then b.modWp (Fin.ofNat 4 (bandSurf k)) fun w => { w with spent := w.spent ++ [k] } else b
  else b

/-- Apply entries in order. -/
def Block.applyEntries (b : Block) (es : List (Nat × List Byte)) : Block :=
  (es.foldl (fun (acc : List (Nat × List Byte) × Block) e =>
    (acc.1 ++ [e], acc.2.applyEntry acc.1 e.1 e.2)) ([], b)).2

/-- Frames of the clip, up to its next number, that are neither found whole nor skipped yet become skipped: a frame is
there whole or not at all (R266, R313, R326). -/
def Block.skipLost (b : Block) (x : Clip) : Block :=
  let lost := (List.range x.next).filter fun f =>
    !x.skipped.contains f && (b.frameChunks x.num f f).length < x.cells
  let mag := b.store.vol.magid
  let b := b.modStore fun t =>
    { t with chunks := t.chunks.filter fun y => !(y.mag = mag && y.ns = 1 && y.clip = x.num && lost.contains y.frame) }
  (runsOf lost).foldl (fun b r =>
    -- NFRM has 8 bits
    (List.range ((r.2 + 254) / 255)).foldl (fun b i =>
      b.skipFrames x.num (r.1 + 255 * i) (min 255 (r.2 - 255 * i))) b) b

/-! ### The tail scan (R326) -/

/-- TAIL_SCAN, with the cells of the stripes that resolve, the void stripes as (band, swath, WSEQ), and per surface
the band, swath and stripe where it stands. A frame is recorded only when every cell of it is found; every other
frame of the clip is skipped. -/
def execTailScan (cells : List ScanCell) (voids : List (Nat × Nat × Nat)) (ptrs : List (Fin 4 × Nat × Nat × Nat))
    (s : State) : Host.Outcome State Fault Refusal :=
  s.upd fun b =>
    if !b.store.vol.scan then b
    else
      let mag := b.store.vol.magid
      let chunk := fun (x : ScanCell) => (
        { mag := mag, ns := x.ns, clip := x.clip, frame := x.frame, off := x.off, gen := x.gen, vlen := x.vlen
          data := [], dram := false, staged := false, optical := true, surf := some (bandSurf x.band)
          place := some (x.band, x.swath, x.stripe, x.beam), seq := 0, order := 0, ts := 0, stale := 0, twk := x.clip
          res := 0, first := x.ns = 1 && x.off = 0, last := false, copies := [], grp := 0 } : Chunk)
      let whole := fun (x : ScanCell) => x.ns = 2 ||
        (let n := b.frameCells 1 x.clip
         n ≠ 0 && (List.range n).all fun j =>
          (cells.any fun y => y.ns = 1 && y.clip = x.clip && y.frame = x.frame && y.off = j) ||
            (b.chunkAt 1 x.clip x.frame j).isSome)
      let good := cells.filter whole
      let b := good.foldl (fun b x =>
        let b := b.addOptical [chunk x]
        let b := b.journalEntry 5 (b.extent (chunk x) 1 x.wseq)
        if x.ns = 1 then b.modVol fun v => v.reach x.clip (x.frame + 1) else b) b
      let b := voids.foldl (fun b v =>
        let b := b.modWp (Fin.ofNat 4 (bandSurf v.1)) fun w => { w with voids := w.voids ++ [⟨v.1, v.2.1, v.2.2⟩] }
        b.voidEntry v.1 v.2.1 v.2.2) b
      let b := ptrs.foldl (fun b p =>
        b.modWp p.1 fun w => { w with band := p.2.1, swath := p.2.2.1, stripe := p.2.2.2 }) b
      let b := b.store.vol.clips.foldl (fun b x =>
        if x.state = 2 then b
        else
          let top := (cells.filter fun y => y.ns = 1 && y.clip = x.num).foldl (fun n y => max n (y.frame + 1)) x.next
          (b.modVol fun v => v.reach x.num top).skipLost { x with next := top }) b
      b.modVol fun v =>
        { v with scan := false, clips := v.clips.map fun x => if x.state = 1 then { x with state := 3 } else x }

end Sys2Proof.Machine
end

