-- ==== Sys2Proof/Machine/Trig.lean ====
section
/-!
DEFINITION. SINCOS, ROT and ATAN2 (06_loop_engine.md R160): the exact value in integers, and the ROM's own value, which
is a free value held within the bound that R160 gives (log entry 2). Angles are fractions of a turn × 2^32.
-/

namespace Sys2Proof.Machine

/-- Fixed point of the exact values: 2^60 stands for 1. -/
def trigOne : Int := 1152921504606846976

/-- π × 2^61: the half turn, 2^31 angle units, in halves of the fixed point. -/
def trigPi2 : Int := 7244019458077122842

/-- The alternating power series with first term `term` and powers `k`, `k + 2`, … of the square `sq`. -/
def trigSeries (sq : Int) : Nat → Int → Int → Int
  | 0, _, _ => 0
  | n + 1, k, term => term + trigSeries sq n (k + 2) (-(term * sq / trigOne) / ((k + 1) * (k + 2)))

/-- Cosine and sine of the angle, as 2^60 stands for 1: the nearest quarter turn, and a series for the rest. -/
def trigOf (x : Word) : Int × Int :=
  let q : Nat := (x.toNat + 2 ^ 29) / 2 ^ 30
  let t : Int := ((x.toNat : Int) - (q : Int) * 2 ^ 30) * trigPi2 / 2 ^ 32
  let sq := t * t / trigOne
  let c := trigSeries sq 14 0 trigOne
  let s := trigSeries sq 14 1 t
  match q % 4 with
  | 0 => (c, s)
  | 1 => (-s, c)
  | 2 => (-c, -s)
  | _ => (s, -c)

/-- A fixed-point value as a whole number of 2^31 to the unit, rounded to nearest. -/
def trigRound (z : Int) : Int := (z + 2 ^ 28) / 2 ^ 29

/-- The free value `v` held within `e` of the exact value `z`. -/
def boundTo (z : Int) (e : Nat) (v : Int) : Int := max (z - e) (min (z + e) v)

/-- What fixes the micro-routines in force: the ROM revision, the patch, and its match registers (R160, R176). -/
def Block.microcode (b : Block) : List Word := b.rd LE_PATCH_STAT :: (List.range 16).map fun k => b.rd (LE_MATCH_k k)

/-- Cosine (R160): +1 and −1 return full scale; else within ±2^-22 of full scale. -/
def Block.cosOf (b : Block) (x : Word) : Word :=
  if x = 0 then 0x7FFFFFFF#32 else if x = 0x80000000#32 then 0x80000000#32
  else sat32 (boundTo (trigRound (trigOf x).1) 512 (Config.cosRom b.microcode x).toInt)

/-- Sine (R160), likewise. -/
def Block.sinOf (b : Block) (x : Word) : Word :=
  if x = 0x40000000#32 then 0x7FFFFFFF#32 else if x = 0xC0000000#32 then 0x80000000#32
  else sat32 (boundTo (trigRound (trigOf x).2) 512 (Config.sinRom b.microcode x).toInt)

/-- ROT (R160): the pair (x, y) rotated by the angle, before saturation; within ±2^-22 of full scale. -/
def Block.rotOf (b : Block) (x y a : Word) : Int × Int :=
  let (c, s) := trigOf a
  let free := Config.rotRom b.microcode x y a
  (boundTo ((x.toInt * c - y.toInt * s + 2 ^ 59) / trigOne) 512 free.1,
    boundTo ((x.toInt * s + y.toInt * c + 2 ^ 59) / trigOne) 512 free.2)

/-- The largest angle of the first quadrant at which the ray does not pass the vector (x, y), by bits from `n` down. -/
def atanFrom (x y : Nat) : Nat → Nat → Nat
  | 0, acc => acc
  | n + 1, acc =>
    let a := acc + 2 ^ n
    let (c, s) := trigOf (BitVec.ofNat 32 a)
    atanFrom x y n (if a ≤ 2 ^ 30 ∧ (x : Int) * s ≤ y * c then a else acc)

/-- The exact angle of the vector (x, y), rounded down within its quadrant. -/
def atanExact (x y : Int) : Int :=
  let a : Int := atanFrom x.natAbs y.natAbs 31 0
  if 0 ≤ x then (if 0 ≤ y then a else -a) else if 0 ≤ y then 2 ^ 31 - a else 2 ^ 31 + a

/-- ATAN2 (R160): the angle of the vector (x, y), within ±2^-22 of a turn; 0 for (0, 0). -/
def Block.atan2Of (b : Block) (x y : Word) : Word :=
  if x = 0 ∧ y = 0 then 0
  else BitVec.ofInt 32 (atanExact x.toInt y.toInt + boundTo 0 1024 (Config.atan2Rom b.microcode x y).toInt)

end Sys2Proof.Machine
end

