-- ==== Sys2Proof/Machine/LoopInstr.lean ====
section
/-!
DEFINITION. The meanings of the loop instructions (06_loop_engine.md R160), each on the execution in
progress. A loop instruction with no execution in progress changes nothing (log entry 7).
-/

namespace Sys2Proof.Machine

/-- NOP (R160): one cycle. -/
def execOpNop (s : State) : Host.Outcome State Fault Refusal :=
  s.upd fun b => b.loopStep (b.opCost 0) id

/-- END (R165): the commit point; an END that completes within BUDGET and before cycle 1,984 commits. -/
def execOpEnd (s : State) : Host.Outcome State Fault Refusal :=
  s.upd fun b =>
    match b.le.run with
    | none => b
    | some r =>
      let used := r.used + b.opCost 1
      if r.budget < used then b.cutRun
      else if 1984 < r.start + used then b.overrun
      else b.commit r used

/-- The data address of LD and ST: MODE 0 adds DBASE, MODE 1 is absolute (R159). -/
def LeRun.dataAddr (r : LeRun) (absolute : Bool) (addr : Nat) : Nat :=
  if absolute then addr else r.dbase + addr

/-- LD (R160, R164): `n + 1` consecutive committed words into XD onwards; N cycles. -/
def execOpLd (d : Fin 32) (n : Fin 8) (absolute : Bool) (addr : BitVec 13) (s : State) :
    Host.Outcome State Fault Refusal :=
  s.upd fun b => b.loopStep (b.opCost 2 + n.val + 1) fun r =>
    (List.range (n.val + 1)).foldl
      (fun r' i => r'.setX (d.val + i) (b.dmem (r.dataAddr absolute addr.toNat + i))) r

/-- ST (R160, R164): stages XA onwards to `n + 1` consecutive words; N cycles. -/
def execOpSt (a : Fin 32) (n : Fin 8) (absolute : Bool) (addr : BitVec 13) (s : State) :
    Host.Outcome State Fault Refusal :=
  s.upd fun b => b.loopStep (b.opCost 3 + n.val + 1) fun r =>
    (List.range (n.val + 1)).foldl
      (fun r' i => r'.stage (.data (r.dataAddr absolute addr.toNat + i) (r.getX (a.val + i)))) r

/-- IN (R160, R162). -/
def execOpIn (d : Fin 32) (port : BitVec 10) (s : State) : Host.Outcome State Fault Refusal :=
  s.upd fun b => b.loopStep (b.opCost 4) fun r => r.setX d (b.portIn r.entry port.toNat)

/-- OUT (R160): stages the port write, and XA becomes the value that the port takes. -/
def execOpOut (a : Fin 32) (port : BitVec 10) (s : State) : Host.Outcome State Fault Refusal :=
  s.upd fun b => b.loopStep (b.opCost 5) fun r =>
    let v := portTake port.toNat (r.getX a)
    (r.stage (.port port.toNat v)).setX a v

/-- LDI (R160): HI = 0 sign-extends IMM; HI = 1 replaces the upper half. -/
def execOpLdi (d : Fin 32) (hi : Bool) (imm : BitVec 16) (s : State) : Host.Outcome State Fault Refusal :=
  s.upd fun b => b.loopStep (b.opCost 6) fun r =>
    r.setX d (if hi then imm ++ (r.getX d).setWidth 16 else imm.signExtend 32)

/-- MOV (R160). -/
def execOpMov (d a : Fin 32) (s : State) : Host.Outcome State Fault Refusal :=
  s.upd fun b => b.loopStep (b.opCost 7) fun r => r.setX d (r.getX a)

/-- ADD (R160, R157). -/
def execOpAdd (d a b' : Fin 32) (s : State) : Host.Outcome State Fault Refusal :=
  s.upd fun b => b.loopStep (b.opCost 8) fun r => r.setSat d ((r.getX a).toInt + (r.getX b').toInt)

/-- SUB (R160, R157). -/
def execOpSub (d a b' : Fin 32) (s : State) : Host.Outcome State Fault Refusal :=
  s.upd fun b => b.loopStep (b.opCost 9) fun r => r.setSat d ((r.getX a).toInt - (r.getX b').toInt)

/-- MULX (R160): (XA × XB + 2^30) >> 31. -/
def execOpMulx (d a b' : Fin 32) (s : State) : Host.Outcome State Fault Refusal :=
  s.upd fun b => b.loopStep (b.opCost 10) fun r =>
    r.setSat d (sar ((r.getX a).toInt * (r.getX b').toInt + 2 ^ 30) 31)

/-- SHL (R160). -/
def execOpShl (d a : Fin 32) (n : Fin 32) (s : State) : Host.Outcome State Fault Refusal :=
  s.upd fun b => b.loopStep (b.opCost 11) fun r => r.setSat d ((r.getX a).toInt * 2 ^ n.val)

/-- SHR (R160): rounding arithmetic shift; XA for N = 0. -/
def execOpShr (d a : Fin 32) (n : Fin 32) (s : State) : Host.Outcome State Fault Refusal :=
  s.upd fun b => b.loopStep (b.opCost 12) fun r =>
    r.setX d (if n.val = 0 then r.getX a
      else BitVec.ofInt 32 (sar ((r.getX a).toInt + 2 ^ (n.val - 1)) n.val))

/-- MIN (R160). -/
def execOpMin (d a b' : Fin 32) (s : State) : Host.Outcome State Fault Refusal :=
  s.upd fun b => b.loopStep (b.opCost 13) fun r => r.setSat d (min (r.getX a).toInt (r.getX b').toInt)

/-- MAX (R160). -/
def execOpMax (d a b' : Fin 32) (s : State) : Host.Outcome State Fault Refusal :=
  s.upd fun b => b.loopStep (b.opCost 14) fun r => r.setSat d (max (r.getX a).toInt (r.getX b').toInt)

/-- CLMP (R160): XA limited to ±|XB|. -/
def execOpClmp (d a b' : Fin 32) (s : State) : Host.Outcome State Fault Refusal :=
  s.upd fun b => b.loopStep (b.opCost 15) fun r =>
    r.setSat d (clampTo (r.getX a).toInt (r.getX b').toInt.natAbs)

/-- ABS (R160): the most negative number saturates (R157). -/
def execOpAbs (d a : Fin 32) (s : State) : Host.Outcome State Fault Refusal :=
  s.upd fun b => b.loopStep (b.opCost 16) fun r => r.setSat d ((r.getX a).toInt.natAbs : Int)

/-- Row `i` of MVM: the exact sum, with XD+i where ACC is set (R158, R160). -/
def mvmRow (b : Block) (r : LeRun) (d a cols : Nat) (acc : Bool) (i : Nat) : Int :=
  (List.range cols).foldl
    (fun sum c => sum + coefTerm (r.getX (a + c)) (b.cmem r.quarter (r.cp + i * cols + c)))
    (if acc then (r.getX (d + i)).toInt else 0)

/-- MVM (R160): every row from the registers as they stand, all results written at its end (R177), CP
advanced by ROWS × COLS; ceil(ROWS / 8) × COLS cycles over the cost base. -/
def execOpMvm (d a : Fin 32) (rows cols : Fin 16) (acc : Bool) (s : State) :
    Host.Outcome State Fault Refusal :=
  s.upd fun b =>
    let nr := rows.val + 1
    let nc := cols.val + 1
    b.loopStep (b.opCost 17 + (nr + 7) / 8 * nc) fun r =>
      let sums := (List.range nr).map (mvmRow b r d a nc acc)
      let r' := (sums.zipIdx).foldl (fun r e => r.setSat (d.val + e.2) e.1) r
      { r' with cp := (r.cp + nr * nc) % 4096 }

/-- SETCP (R160). -/
def execOpSetcp (off : BitVec 12) (s : State) : Host.Outcome State Fault Refusal :=
  s.upd fun b => b.loopStep (b.opCost 18) fun r => { r with cp := off.toNat }

/-- A branch condition on a register value (R160). -/
def condHolds (c : Cond) (v : Word) : Bool :=
  match c with
  | .always => true
  | .zero => v = 0
  | .nonZero => v ≠ 0
  | .neg => v.toInt < 0
  | .notNeg => 0 ≤ v.toInt
  | .pos => 0 < v.toInt
  | .notPos => v.toInt ≤ 0

/-- BR (R160): a branch taken skips the next SKIP instructions and adds one cycle. -/
def execOpBr (c : Cond) (a : Fin 32) (skip : BitVec 8) (s : State) : Host.Outcome State Fault Refusal :=
  s.upd fun b =>
    match b.le.run with
    | none => b
    | some r0 =>
      let taken := condHolds c (r0.getX a)
      b.loopStep (b.opCost 19 + taken.toNat) fun r =>
        if taken then { r with pc := r.pc + skip.toNat } else r

/-- SINCOS (R160): cosine to XD, sine to XD+1; it never sets SAT. -/
def execOpSincos (d a : Fin 32) (s : State) : Host.Outcome State Fault Refusal :=
  s.upd fun b => b.loopStep (b.opCost 20) fun r =>
    (r.setX d (b.cosOf (r.getX a))).setX (d.val + 1) (b.sinOf (r.getX a))

/-- ROT (R160): the pair (XA, XA+1) rotated by the angle XB, saturated as an arithmetic result. -/
def execOpRot (d a b' : Fin 32) (s : State) : Host.Outcome State Fault Refusal :=
  s.upd fun b => b.loopStep (b.opCost 21) fun r =>
    let p := b.rotOf (r.getX a) (r.getX (a.val + 1)) (r.getX b')
    (r.setSat d p.1).setSat (d.val + 1) p.2

/-- ATAN2 (R160): the angle of (x = XA, y = XB); 0 for (0, 0). -/
def execOpAtan2 (d a b' : Fin 32) (s : State) : Host.Outcome State Fault Refusal :=
  s.upd fun b => b.loopStep (b.opCost 22) fun r =>
    r.setX d (b.atan2Of (r.getX a) (r.getX b'))

/-- DIV (R160): (XA × 2^31) / XB truncated toward zero; by 0, full scale with XA's sign, and SAT. -/
def execOpDiv (d a b' : Fin 32) (s : State) : Host.Outcome State Fault Refusal :=
  s.upd fun b => b.loopStep (b.opCost 23) fun r =>
    let x := (r.getX a).toInt
    let y := (r.getX b').toInt
    if y = 0 then
      { r.setX d (if 0 ≤ x then 0x7FFFFFFF#32 else 0x80000000#32) with sat := true }
    else r.setSat d (Int.tdiv (x * 2 ^ 31) y)

/-- SQRT (R160): floor(sqrt(XA × 2^31)); for a negative XA, 0 and SAT. -/
def execOpSqrt (d a : Fin 32) (s : State) : Host.Outcome State Fault Refusal :=
  s.upd fun b => b.loopStep (b.opCost 24) fun r =>
    let x := (r.getX a).toInt
    if x < 0 then { r.setX d 0 with sat := true }
    else r.setSat d (isqrt (x.toNat * 2 ^ 31) : Int)

/-- The axis's halt request: HALT, an emergency stop, homing that ended in it (R171, R235, R236). -/
def Block.haltReq (b : Block) (a : Fin 9) : Bool :=
  let x := vget b.axis a
  b.on (AXa_CTL_HALT a) || x.emerg || x.halting || x.homeStep = 2

/-- PGEN (R171): stages one profile-generator step; an absent axis does nothing (R173). -/
def execOpPgen (a : Fin 9) (s : State) : Host.Outcome State Fault Refusal :=
  s.upd fun b => b.loopStep (b.opCost 25) fun r =>
    let (p, v, acc, t, landed) := pgenStep (vget b.axis a) (b.haltReq a)
    r.stage (.pgen a p v acc t landed)

/-- STS (R160): stages setting (or clearing) the bits XA[7:0] of LE_PSW_WORD. -/
def execOpSts (a : Fin 32) (clear : Bool) (word : Fin 16) (s : State) : Host.Outcome State Fault Refusal :=
  s.upd fun b => b.loopStep (b.opCost 26) fun r => r.stage (.sts word clear ((r.getX a).setWidth 8))

/-- EVT (R160): stages the program event. -/
def execOpEvt (code : BitVec 8) (s : State) : Host.Outcome State Fault Refusal :=
  s.upd fun b => b.loopStep (b.opCost 27) fun r => r.stage (.evt code)

/-- AND (R160). -/
def execOpAnd (d a b' : Fin 32) (s : State) : Host.Outcome State Fault Refusal :=
  s.upd fun b => b.loopStep (b.opCost 28) fun r => r.setX d (r.getX a &&& r.getX b')

/-- OR (R160). -/
def execOpOr (d a b' : Fin 32) (s : State) : Host.Outcome State Fault Refusal :=
  s.upd fun b => b.loopStep (b.opCost 29) fun r => r.setX d (r.getX a ||| r.getX b')

/-- XOR (R160). -/
def execOpXor (d a b' : Fin 32) (s : State) : Host.Outcome State Fault Refusal :=
  s.upd fun b => b.loopStep (b.opCost 30) fun r => r.setX d (r.getX a ^^^ r.getX b')

/-- LDS (R160): XD gets LE_PSW_WORD, zero-extended. -/
def execOpLds (d : Fin 32) (word : Fin 16) (s : State) : Host.Outcome State Fault Refusal :=
  s.upd fun b => b.loopStep (b.opCost 31) fun r => r.setX d (BitVec.ofNat 32 (b.fld (LE_PSW_k_FLAGS word)))

end Sys2Proof.Machine
end

