-- ==== Sys2Proof/Machine/Magazine.lean ====
section
/-!
DEFINITION. The life of a volume (11_command_set.md R295 to R299; 12_clip_store_and_placement.md R325, R328 to
R331; the loader of 09_motion_axes.md R243 to R246).
-/

namespace Sys2Proof.Machine

/-! ### The loader (R243 to R245) -/

/-- Positions of AX8 in microsteps: park, SHUT_POS, CLAMP_POS. -/
def Block.parkPos (b : Block) : Int := b.sfld (AXa_HOME_POS_HPOS 8) + (b.fld (AXa_BACKOFF_BACKOFF 8) : Int)
def Block.shutPos (b : Block) : Int := (256 * b.fld MZ_LDR_POS_SHUT_POS : Nat)
def Block.clampPos (b : Block) : Int := (256 * b.fld MZ_LDR_POS_CLAMP_POS : Nat)

/-- AX8 is DONE at a position. -/
def Block.loaderAt (b : Block) (pos : Int) : Bool := b.on (AXa_STAT_DONE 8) && (vget b.axis 8).t = pos

/-- Every spindle of the part is STOPPED. -/
def Block.spinsStopped (b : Block) : Bool :=
  (List.range 2).all fun n => !b.part.hasSpin n || b.spState (Fin.ofNat 2 n) = 0

/-- Run, or stop with STOPMODE 1, both spindles (R225, R297). -/
def Block.spinsRun (b : Block) : Block := (b.spRun 0).spRun 1
def Block.spinsStop (b : Block) : Block :=
  let stop := fun (b : Block) (n : Fin 2) => b.onSpin n fun b => (b.setFld (SPn_CTL_STOPMODE n) 1).spStop n
  stop (stop b 0) 1

/-- A command goes on to a phase. -/
def Block.toStep (b : Block) (c : Cmd) (n : Nat) : Block := b.modCmd c.tag fun c => { c with step := n }

/-- A command goes on to a phase and will end as given. -/
def Block.holdFin (b : Block) (c : Cmd) (n : Nat) (f : Finish) : Block :=
  b.modCmd c.tag fun c => { c with step := n, held := some f }

/-- The command ends as was held. -/
def Block.endHeld (b : Block) (c : Cmd) : Block := b.finish c.tag (c.held.getD (Finish.of 0 0 0))

/-! ### A volume leaves (R330, R331) -/

/-- What is held of the volume stays under its MAGID: its journal entries, its records that are not durable, its
chunks in DRAM or Peat; stripes not past step 3 of R111 are void (R116). -/
def Block.unload (b : Block) : Block :=
  let b := (List.range 4).foldl (fun b i =>
    let s := Fin.ofNat 4 i
    let open_ := (vget b.wp s).stripes.filter fun t => !t.passed && !t.void && !t.reloc
    -- one VOID entry for each swath that is left
    let firsts := open_.foldl (fun (acc : List Stripe) t =>
      if acc.any fun x => x.band = t.band && x.swath = t.swath then acc else acc ++ [t]) []
    let b := firsts.foldl (fun b t => b.voidEntry t.band t.swath t.wseq) b
    b.modWp s fun w =>
      { w with planned := none, running := none, stripes := [], jobs := [], pend := [], copies := [], voids := []
               spent := [], levels := [], rewrite := [], bandFail := [], swaths := [], maxwait := [], relPtr := [] }) b
  -- no command holds spare units of a volume that has gone
  let b := b.modHq fun h => { h with cmds := h.cmds.map fun c => { c with spare := 0 } }
  let v := b.store.vol
  let left := v.records.filter fun r => !b.recDurable r
  b.modStore fun t =>
    { t with
      vol := Vol.none
      journal := t.journal ++ v.entries.map fun e => (v.magid, e.1, e.2)
      awayRecs := t.awayRecs ++ left.map fun r => (v.magid, r)
      olds := t.olds.filter fun x => x.mag ≠ v.magid || !x.optical
      chunks := (t.chunks.filter fun x => x.mag ≠ v.magid || !x.optical).map fun x =>
        if x.mag = v.magid then { x with surf := none, place := none, stale := 0 } else x }

/-- A read that was started (R330): data in DRAM or Peat is delivered; where some is not there, NO_MAGAZINE. -/
def Block.readAtRemoval (b : Block) (c : Cmd) : Block :=
  if !c.started || c.fin.isSome then b
  else if c.opc = 0x20 then
    let us := unitsOf (dwOf c.dws 10) (dwOf c.dws 10 + c.bits 11 15 0)
    if (b.unitChunks us).all fun x => x.dram || x.staged then b.blockRead c [] else b.failWith c 0x20 0
  else if c.opc = 0x33 then
    let cs := b.frameChunks c.clip (dwOf c.dws 11) (dwOf c.dws 11 + c.bits 12 7 0)
    if cs.all fun x => x.dram || x.staged then b.frameRead c [] else b.failWith c 0x20 0
  else if c.opc = 0x34 ∨ c.opc = 0x35 ∨ c.opc = 0x09 ∨ c.opc = 0x0A then b.failWith c 0x20 0
  else if c.opc = 0x08 then b.failWith c 0x20 0x22
  else b

/-- The volume is removed without eject (R330): open clips become interrupted, passes under way are cut. -/
def Block.removeVolume (b : Block) : Block :=
  let b := b.hq.cmds.foldl Block.readAtRemoval b
  let b := (List.range 4).foldl (fun b i => (b.cutPass (Fin.ofNat 4 i)).cancelPlan (Fin.ofNat 4 i)) b
  let b := b.modVol fun v =>
    { v with clips := v.clips.map fun x => if x.state = 1 then { x with state := 3 } else x }
  b.unload

/-- DOOR_OPEN (R246, R248, R330): the debounced door switch reads open. -/
def execDoorOpen (s : State) : Host.Outcome State Fault Refusal :=
  s.upd fun b =>
    if !b.on MZ_SW_DOOR then b
    else
      let locked := b.on MZ_LOCK_LOCK
      let b := b.doorOpen
      let vs := b.store.vol.vstate
      let b := if vs = 1 ∨ vs = 3 ∨ vs = 4 then b.removeVolume else b
      b.async 4 (if locked then 2 else 1) 0

/-! ### FORMAT (R299, R328) -/

/-- The VOLUME entry (R320). -/
def volumeEntry (v : Vol) : List Byte :=
  packBytes 256 [(0, 1, v.encClip.toNat + 2 * v.encBlock.toNat + 4 * v.auth.toNat), (1, 1, v.blku), (2, 1, v.bspare),
    (3, 1, v.desc), (8, 8, leVal v.catCheck), (64, 64, leVal v.label)]

/-- The volume with the settings of FORMAT. -/
def Block.formatted (b : Block) (ec eb auth : Bool) (dslot cslot blku bspare : Nat) (label : List Byte) : Vol :=
  let v := b.store.vol
  let kcv := b.slotCheck dslot
  let gens := (if ec then [(1, 1, kcv)] else []) ++ (if eb then [(2, 1, kcv)] else [])
  let v : Vol :=
    { v with encClip := ec, encBlock := eb, auth := auth, blku := blku, bspare := bspare, label := label
             desc := descOf b.part, catCheck := if auth then b.slotCheck cslot else [], gens := gens
             curClip := ec.toNat, curBlock := eb.toNat
             binds := (if auth then [(1, 0, cslot)] else []) ++ (if ec then [(1, 1, dslot)] else []) ++
               (if eb then [(2, 1, dslot)] else []) }
  { v with spareLeft := v.spareTotal }

/-- FORMAT's beginning: the VOLUME and KEY records are journalled, and closed for the ledger. -/
def Block.formatBegin (b : Block) (v : Vol) : Block :=
  let b := (b.modVol fun _ => v).journalBoth 1 (volumeEntry v)
  let b := v.gens.foldl (fun b g =>
    b.journalBoth 2 (packBytes 16 [(0, 1, g.1), (1, 1, g.2.1), (8, 8, leVal g.2.2)])) b
  b.closeRec 2

/-- FORMAT (R299, in the order of checks of R285), with the label that the host's buffer holds: it begins, or ends
once its records are durable in the ledger. -/
def execFormat (tag : Nat) (label : List Byte) (s : State) : Host.Outcome State Fault Refusal :=
  s.upd fun b => b.actOn tag 0x0A fun b c =>
    let v := b.store.vol
    if c.step = 1 then
      if v.records.all b.recDurable then (b.modVol fun v => { v with vstate := 3 }).succeed c 0 else b
    else
      let ec : Bool := c.bits 10 0 0 = 1
      let eb : Bool := c.bits 10 1 1 = 1
      let auth : Bool := c.bits 10 2 2 = 1
      let dslot := c.bits 10 13 8
      let cslot := c.bits 10 21 16
      if v.vstate = 0 then b.failWith c 0x20 0
      else if v.vstate = 1 ∨ v.vstate = 4 ∨ b.isPartner then b.failWith c 0x21 0
      else if ((ec || eb) && (b.slot dslot).kind ≠ 1) || (auth && (b.slot cslot).kind ≠ 2) then
        b.failWith c 0x40 0x0B
      else if v.vstate = 3 ∨ v.rseq ≠ 0 then b.failWith c 0x13 0x0A
      else
        let label := label.take c.dlen ++ List.replicate (64 - (label.take c.dlen).length) 0
        (b.formatBegin (b.formatted ec eb auth dslot cslot (c.bits 11 7 0) (c.bits 11 15 8) label)).toStep c 1

/-! ### MAGAZINE LOAD (R295, R325) -/

/-- Surfaces writable, for RES [15:8]. -/
def Block.writersMask (b : Block) : Nat := maskOf 4 fun s => b.surfState s = 1

/-- The load fails: the spindles stop, the loader returns to park, the lock is released; then the command ends. -/
def Block.loadFail (b : Block) (c : Cmd) (status detail : Nat) : Block :=
  (b.spinsStop.modVol fun _ => Vol.none).holdFin c 20 (Finish.of status detail 0)

/-- The records' union by RSEQ, in order (R325). -/
def unionRecs (recs : List RecFound) : List RecFound :=
  let top := recs.foldl (fun n r => max n r.rseq) 0
  (List.range top).filterMap fun i => recs.find? fun r => r.rseq = i + 1

/-- Journal entries of a clip whose number the volume already uses for another clip take the lowest unused number
(R331): the old and the new numbers. -/
def renumber (clips : List Clip) (es : List (Nat × List Byte)) : List (Nat × Nat) :=
  let opens := (es.filter fun e => e.1 = 3).map fun e => clipOf e.2 false
  (opens.foldl (fun (acc : List (Nat × Nat) × List Nat) x =>
    let other := clips.any fun y => y.num = x.num && y.openTs ≠ x.openTs
    let n := if other then (((List.range 65535).map (· + 1)).find? fun k => !acc.2.contains k).getD x.num else x.num
    (acc.1 ++ [(x.num, n)], acc.2 ++ [n])) ([], clips.map (·.num))).1

/-- An entry with its clip number replaced. -/
def renumbered (m : List (Nat × Nat)) (e : Nat × List Byte) : Nat × List Byte :=
  if e.1 = 3 ∨ e.1 = 4 ∨ e.1 = 6 ∨ e.1 = 7 ∨ (e.1 = 5 ∧ byteAt e.2 2 = 1) then
    match m.find? fun p => p.1 = valAt e.2 0 2 with
    | some p => (e.1, leBytes 2 p.2 ++ e.2.drop 2)
    | none => e
  else e

/-- The catalogue is formed and this module's journal for the magazine applied (R325, R331). -/
def Block.replay (b : Block) (recs : List RecFound) : Block :=
  let u := unionRecs recs
  let top := u.foldl (fun n r => max n r.rseq) 0
  let mag := b.store.vol.magid
  let es := (u.map fun r => r.entries.map fun e => (r.rtype, e)).flatten
  let b := b.modVol fun v =>
    { v with rseq := top, records := u.map fun r => ⟨r.rseq, r.rtype, r.ts, r.entries, []⟩ }
  let b := b.applyEntries es
  let mine := (b.store.awayRecs.filter fun p => p.1 = mag && top < p.2.rseq).map (·.2)
  let open_ := (b.store.journal.filter fun p => p.1 = mag).map (·.2)
  let held := (mine.map fun r => r.entries.map fun e => (r.rtype, e)).flatten ++ open_
  let m := renumber b.store.vol.clips held
  let held := held.map (renumbered m)
  let b := b.modChunks (fun x => x.mag = mag && x.ns = 1) fun x =>
    match m.find? fun p => p.1 = x.clip with | some p => { x with clip := p.2 } | none => x
  let b := b.applyEntries held
  let b := b.modStore fun t =>
    { t with journal := t.journal.filter fun p => p.1 ≠ mag, awayRecs := t.awayRecs.filter fun p => p.1 ≠ mag }
  let last := (u.getLast?).elim false fun r => r.rtype = 10
  let b := b.modVol fun v =>
    { v with entries := held
             scan := !last && held.isEmpty
             clips := v.clips.map fun x =>
               let top := (b.store.chunks.filter fun y => y.mag = mag && y.ns = 1 && y.clip = x.num).foldl
                 (fun n y => max n (y.frame + 1)) x.next
               { x with next := top } }
  -- what a power failure left of frames that were not complete (R266, R330)
  let b := if held.isEmpty then b
    else b.store.vol.clips.foldl (fun b x => if x.state = 2 then b else b.skipLost x) b
  -- surfaces with every record found are done with those; a load with entries pending begins a visit
  (List.range 4).foldl (fun b i => b.modLog (Fin.ofNat 4 i) fun l =>
    let rs := u.map (·.rseq)
    { l with written := rs, once := rs, done := rs, steps := if held.isEmpty then 0 else 24 }) b

/-- A GCM slot that holds the catalogue key (R295). -/
def Block.catSlot (b : Block) : Option Nat :=
  (List.range 64).find? fun i => (b.slot i).kind = 2 && b.slotCheck i = b.store.vol.catCheck

/-- What the medium of surface `p.1` holds: the last WSEQ, every stripe of it past or void (R66, R116); the relocation
pointers, and the test units used (R60, R77, R78, R321). -/
def Block.mediumFound (b : Block) (p : Nat × SurfMedium) : Block :=
  let s : Fin 4 := Fin.ofNat 4 p.1
  let b := (b.setFld (WP_Ss_WSEQ_WSEQ s) p.2.wseq).setFld (WP_Ss_VSEQ_VSEQ s) p.2.wseq
  let b := b.modWp s fun w =>
    { w with relPtr := p.2.reloc.foldl (fun m e => m.set e.1 (relKey e.2.1 e.2.2) (relKey 360 0)) [] }
  b.modCalSurf s fun k =>
    { k with testUsed := p.2.tests.foldl (fun m e => m.set e.1 e.2 0) [], areaUsed := p.2.area }

/-- Surface `p.1` resumes (R333): the bands before it in its sequence that are not spare-exhausted are full. -/
def Block.resumeAt (b : Block) (p : Nat × SurfMedium) : Block :=
  let s : Fin 4 := Fin.ofNat 4 p.1
  let down := b.descends s
  let before := ((List.range (stepOf down s p.2.band)).map (bandStep down s)).filter fun k =>
    !(vget b.wp s).spent.contains k && !b.store.vol.fullBands.contains k
  let b := b.modVol fun v => { v with fullBands := v.fullBands ++ before }
  b.modWp s fun w =>
    { w with band := p.2.band, swath := p.2.swath, stripe := p.2.stripe
             swaths := before.foldl (fun m k => m.set k (endSwath k - firstSwath k) 0) w.swaths }

/-- The ledger has been read (R80, R295, R325). -/
def Block.ledgerRead (b : Block) (c : Cmd) (descs : List (Nat × Option Descriptor)) (written : Bool)
    (recs : List RecFound) (logs : List (Nat × Nat)) (media : List (Nat × SurfMedium)) : Block :=
  let desc := fun (s : Nat) => (descs.find? fun d => d.1 = s).bind (·.2)
  let missing := (List.range 4).any fun s => b.part.hasSurf s && (desc s).isNone
  if missing then b.loadFail c 0x10 0x20
  else
    let b := (List.range 4).foldl (fun b i => b.modCalSurf (Fin.ofNat 4 i) fun k =>
      { k with desc := desc i, strategy := [], checked := none, barred := false }) b
    let b := (List.range 4).foldl (fun b i =>
      b.mediumFound (i, ((media.find? fun p => p.1 = i).map (·.2)).getD ⟨0, 0, 0, 0, [], [], 0⟩)) b
    let ready := fun (b : Block) (res : Nat) =>
      (b.async 4 3 0).succeed c (res + 256 * b.writersMask)
    if !written then
      let b := (b.modVol fun v => { v with vstate := 2 })
      let b := (List.range 4).foldl (fun b i =>
        let s := Fin.ofNat 4 i
        let k := bandStep ((descOf b.part).testBit i) i 0
        b.modWp s fun w => { w with band := k, swath := firstSwath k, stripe := 0 }) b
      ready b 1
    else
      let b := b.replay recs
      let tags := b.store.vol.auth && b.catSlot.isSome
      if recs.isEmpty then b.loadFail c 0x10 0x20
      else if tags && recs.any fun r => !r.tagOk then b.loadFail c 0x10 0x21
      else
        let u := unionRecs recs
        let gap := u.length ≠ u.foldl (fun n r => max n r.rseq) 0 || (u.head?).elim true fun r => r.rtype ≠ 1
        let b := b.modVol fun v =>
          { v with vstate := 3, readOnly := gap
                   binds := match b.catSlot with
                     | some i => if v.auth then [(1, 0, i)] else []
                     | none => [] }
        let b := logs.foldl (fun b p => b.modLog (Fin.ofNat 4 p.1) fun l => { l with swath := p.2 }) b
        let b := media.foldl Block.resumeAt b
        if b.store.vol.auth && b.catSlot.isNone then (b.async 4 3 0).failWith c 0x40 0x0B
        else ready b 0

/-- MAGAZINE_LOAD: the next phase of the load, with what it finds. -/
def execMagazineLoad (tag : Nat) (found : LoadFound) (s : State) : Host.Outcome State Fault Refusal :=
  s.upd fun b => b.actOn tag 0x08 fun b c =>
    let v := b.store.vol
    let present := (List.range 4).filter b.part.hasSurf
    match c.step with
    | 0 =>
      if v.vstate = 3 then b.succeed c (256 * b.writersMask)
      else if v.vstate = 2 then b.succeed c (1 + 256 * b.writersMask)
      else if v.vstate = 1 ∨ v.vstate = 4 then b.failWith c 0x21 0
      else if !b.on MZ_SW_DOOR then b.failWith c 0x20 0x22
      else
        match found with
        | .noIdMem => b.failWith c 0x20 0x22
        | .idMem magid conforms discs =>
          if !conforms then b.failWith c 0x10 0x20
          else if !b.on (AXa_STAT_HOMED 8) || !b.loaderAt b.parkPos || !b.spinsStopped then b
          else
            let b := b.modVol fun _ => { Vol.none with vstate := 1, magid := magid, discs := discs }
            ((b.setFld MZ_LOCK_LOCK 1).placeTarget 8 b.shutPos).toStep c 1
        | _ => b
    | 1 => if b.loaderAt b.shutPos then (b.placeTarget 8 b.clampPos).toStep c 2 else b
    | 2 =>
      match found with
      | .clamp ok =>
        if !b.loaderAt b.clampPos then b
        else if ok && b.on MZ_SW_CLAMP then b.spinsRun.toStep c 3
        else b.loadFail c 0x10 0x23
      | _ => b
    | 3 =>
      -- the spindles lock and every present surface focuses
      if present.all fun i => b.on (SPn_STAT_LOCK (spinOf (Fin.ofNat 4 i))) && b.psw (Fin.ofNat 4 i) 0 then
        b.toStep c 4 else b
    | 4 =>
      match found with
      | .ledger descs written recs logs media => b.ledgerRead c descs written recs logs media
      | _ => b
    -- a failed load: back to SHUT_POS, to park, and the lock is released
    | 20 => if b.spinsStopped then (b.placeTarget 8 b.shutPos).toStep c 21 else b
    | 21 => if b.loaderAt b.shutPos then (b.placeTarget 8 b.parkPos).toStep c 22 else b
    | 22 => if b.loaderAt b.parkPos then (b.setFld MZ_LOCK_LOCK 0).endHeld c else b
    | _ => b

/-! ### MAGAZINE EJECT (R297, R298, R329) -/

/-- The eject begins to wait; a calibration under way is abandoned (R475). -/
def Block.ejectBegin (b : Block) (c : Cmd) : Block :=
  let b := (List.range 4).foldl (fun b i => b.calAbandon (Fin.ofNat 4 i)) b
  (b.modVol fun v => { v with vstate := 4 }).toStep c 1

/-- MAGAZINE_EJECT: with CLOSE = 1 the open clips are closed as CLIP CLOSE with DUR 2 would; the eject then waits
for the drain-before-eject condition. -/
def execMagazineEject (tag : Nat) (s : State) : Host.Outcome State Fault Refusal :=
  s.upd fun b => b.actOn tag 0x09 fun b c =>
    let v := b.store.vol
    let opened := v.clips.filter fun x => x.state = 1
    if c.step ≠ 0 then b
    else if v.vstate = 0 then b.failWith c 0x20 0
    else if v.vstate = 1 ∨ v.vstate = 4 ∨ b.isPartner then b.failWith c 0x21 0
    else if c.bits 10 0 0 = 0 && !opened.isEmpty then b.failWith c 0x21 0
    else (opened.foldl (fun b x => b.closeClip x.num none) b).ejectBegin c

/-- Conditions 1 and 2 of R329. -/
def Block.drained (b : Block) (c : Cmd) : Bool :=
  !(b.store.vol.clips.any fun x => x.state = 1) && !(b.hq.cmds.any fun x => x.writeClass && x.tag ≠ c.tag) &&
    b.volChunks.all (fun x => x.optical) && (List.range 4).all fun s => (vget b.wp (Fin.ofNat 4 s)).pend.isEmpty

/-- The VOLUME_CLOSE entry (R320). -/
def Block.closeEntry (b : Block) : List Byte :=
  let q := fun (s : Fin 4) => if b.part.hasSurf s then b.fld (WP_Ss_WSEQ_WSEQ s) else 0
  packBytes 64 [(0, 8, b.bytesOf fun _ => true), (8, 2, b.store.vol.clips.length), (16, 4, q 0), (20, 4, q 1), (24, 4, q 2),
    (28, 4, q 3)]

/-- EJECT_PROCEED (R245, R297, R329): the next phase of the eject that waits. -/
def execEjectProceed (s : State) : Host.Outcome State Fault Refusal :=
  s.upd fun b =>
    match b.hq.cmds.find? fun c => c.opc = 0x09 && c.started && c.fin.isNone && c.step ≠ 0 with
    | none => b
    | some c =>
      let v := b.store.vol
      let fail := fun (b : Block) (st d : Nat) => (b.modVol fun v => { v with vstate := 3 }).failWith c st d
      match c.step with
      | 1 =>
        if v.rseq = 0 && v.entries.isEmpty then b.spinsStop.holdFin c 3 (Finish.of 0 0 0)
        else if b.drained c then (b.journalBoth 10 b.closeEntry).toStep c 2
        else if b.writers.isEmpty then fail b 0x12 0x30
        else b
      | 2 =>
        -- the partner's own condition counts too (16_mirror_pair.md R419)
        if b.mirroring && b.rptMseq < c.mseq then b
        else if v.records.all b.recDurable then b.spinsStop.holdFin c 3 (Finish.of 0 0 0)
        else if b.writers.isEmpty then fail b 0x12 0x30
        else if b.logSpent then b.spinsStop.holdFin c 3 (Finish.of 0x22 0x35 0)
        else b
      | 3 => if b.spinsStopped then (b.placeTarget 8 b.shutPos).toStep c 4 else b
      | 4 =>
        if !b.loaderAt b.shutPos then
          -- below the window with the clamp switch still closed (R245)
          let low := (vget b.axis 8).p < micro (b.clampPos - 256 * (b.fld MZ_LDR_POS_CLAMP_WIN : Int))
          if low && b.on MZ_SW_CLAMP then fail (b.axHalt 8) 0x10 0x23 else b
        else (b.placeTarget 8 b.parkPos).toStep c 5
      | 5 =>
        if b.loaderAt b.parkPos then
          (((b.setFld MZ_LOCK_LOCK 0).endHeld c).unload).async 4 4 0
        else b
      | _ => b

end Sys2Proof.Machine
end

