-- ==== Sys2Proof/Machine/MapCache.lean ====
section
/-!
DEFINITION. The map cache (14_buffer_cache_and_dma.md R376 to R385, R392).
-/

namespace Sys2Proof.Machine

/-- Set of a line: DRAM address bits [17:8] (R376). -/
def lineSet (l : Nat) : Nat := l % 1024

def Dram.lineOf (d : Dram) (l : Nat) : Option McLine := d.lines.find? fun x => x.line = l
def Dram.victimOf (d : Dram) (l : Nat) : Option McLine := d.victim.find? fun x => x.line = l

/-- Way `w` takes normal allocations: neither locked nor disabled (R379, R381). -/
def Block.wayOpen (b : Block) (w : Nat) : Bool := !b.onBit MC_LOCK_LOCK w && !b.onBit MC_WAY_DIS_DIS w

/-- Write the dirty sectors of a line back to DRAM (R380, R383). -/
def Block.writeBack (b : Block) (l : McLine) : Block :=
  (List.range 4).foldl (fun b s =>
    if secOn l.dirty s then
      b.modDram fun d =>
        d.putWord (4 * l.line + s) ((List.range 64).map fun i => vget l.data (Fin.ofNat 256 (64 * s + i)))
    else b) b

/-- Remove a line from the ways, or from the victim buffer. -/
def Dram.dropLine (d : Dram) (l : Nat) : Dram := { d with lines := d.lines.filter fun x => x.line ≠ l }
def Dram.dropVictim (d : Dram) (l : Nat) : Dram := { d with victim := d.victim.filter fun x => x.line ≠ l }

/-- A dirty line of the victim buffer is written back, and its entry freed (R380). -/
def Block.victimBack (b : Block) (l : McLine) : Block := (b.writeBack l).modDram (·.dropVictim l.line)

/-- Occupancy at which clean lines are declined and dirty ones written back; the buffer has 1,024 entries. -/
def Block.vbHwm (b : Block) : Nat := min 1024 (b.fld MC_CTL_VB_HWM)

/-- An evicted line is offered to the victim buffer (R380). -/
def Block.evict (b : Block) (l : McLine) : Block :=
  let b := b.modDram (·.dropLine l.line)
  if l.valid = 0 then b
  else if l.dirty = 0 ∧ b.vbHwm ≤ b.dram.victim.length then b.bump MC_CNT_DECL_COUNT 1
  else
    let b := b.modDram fun d => { d with victim := d.victim ++ [l] }
    if b.vbHwm ≤ b.dram.victim.length then
      b.dram.victim.foldl (fun b l => if l.dirty = 0 then b else b.victimBack l) b
    else b

/-- A way of the set that takes a new line: an empty open way, else the least recently used line of an open
way, which is evicted (R376, R379). -/
def Block.allocate (b : Block) (set : Nat) : Option (Nat × Block) :=
  let held := b.dram.lines.filter fun l => lineSet l.line = set
  let open_ := (List.range 16).filter b.wayOpen
  match open_.find? fun w => !held.any (fun l => l.way = w) with
  | some w => some (w, b)
  | none =>
    match (held.filter fun l => open_.contains l.way && !b.dram.fills.any (·.line = l.line)).getLast? with
    | some l => some (l.way, b.evict l)
    | none => none

/-- The line becomes the most recently used. -/
def Dram.touch (d : Dram) (l : Nat) : Dram :=
  { d with lines := d.lines.filter (fun x => x.line = l) ++ d.lines.filter (fun x => x.line ≠ l) }

def Dram.modLine (d : Dram) (l : Nat) (f : McLine → McLine) : Dram :=
  { d with lines := d.lines.map fun x => if x.line = l then f x else x }

/-- Install sector `s` in a line from what DRAM holds; a poisoned word is not validated (R372). -/
def Block.fillSector (b : Block) (core : Fin 4) (l s : Nat) : Block :=
  match b.dram.lineOf l with
  | none => b
  | some x =>
    if secOn x.valid s then b
    else
      let (bad, b) := b.readWord (.cc core) (4 * l + s)
      if bad then b
      else
        let bytes := b.dram.bytes (256 * l + 64 * s) 64
        b.modDram fun d => d.modLine l fun x =>
          { x with valid := x.valid ||| BitVec.ofNat 4 (2 ^ s)
                   data := bytes.zipIdx.foldl (fun v y => vset v (Fin.ofNat 256 (64 * s + y.2)) y.1) x.data }

/-- Serve an access from a sector that is valid in a way; a write makes it dirty (R376, R378). -/
def Block.serveLine (b : Block) (a : McAcc) : Block :=
  let l := a.addr / 256
  let s := a.addr / 64 % 4
  let b := b.modDram (·.touch l)
  match a.write with
  | none => b.emit (.memData (.cc a.core) (b.dram.lineOf l |>.elim [] fun x =>
      (List.range a.len).map fun i => vget x.data (Fin.ofNat 256 (a.addr % 256 + i))) false)
  | some bytes =>
    b.modDram fun d => d.modLine l fun x =>
      { x with dirty := x.dirty ||| BitVec.ofNat 4 (2 ^ s)
               data := bytes.zipIdx.foldl (fun v y => vset v (Fin.ofNat 256 ((a.addr + y.2) % 256)) y.1) x.data }

/-- An access of a core that goes to DR directly (R372, R376, R379). -/
def Block.serveDirect (b : Block) (a : McAcc) : Block :=
  match a.write with
  | some bytes => b.dramWrite a.addr bytes
  | none =>
    let (bytes, bad, b) := b.dramRead (.cc a.core) a.addr a.len
    b.emit (.memData (.cc a.core) (if bad then [] else bytes) bad)

/-- Every way is disabled (R381). -/
def Block.mcBypass (b : Block) : Bool := b.fld MC_WAY_DIS_DIS = 0xFFFF

/-- MC caches address `a` now: EN, the window in force, no MC_WIN write under way, a way in service (R376,
R381, R392). -/
def Block.cached (b : Block) (a : Nat) : Bool :=
  let base := MC_WIN_BASE.get b.dram.win * 0x100000
  let size := MC_WIN_SIZE.get b.dram.win * 0x100000
  b.on MC_CTL_EN && base ≤ a && a < base + size && b.dram.winPend.isNone && !b.mcBypass

/-- Disable a way whose parity count reached the limit (R381): its dirty sectors are written back, its lines
invalidated. -/
def Block.disableWay (b : Block) (w : Nat) : Block :=
  let b := b.dram.lines.foldl (fun b l => if l.way = w then b.writeBack l else b) b
  let b := b.modDram fun d => { d with lines := d.lines.filter fun l => l.way ≠ w }
  let b := b.putBit MC_WAY_DIS_DIS w true
  (b.setBit MC_STAT_BYPASS b.mcBypass).raise 1362

/-- Count a parity error of a way (R381). -/
def Block.mcParity (b : Block) (w line : Nat) (dirty : Bool) : Block :=
  let b := (b.bump (MC_PAR_CNT_k_CNT (w / 4) (w % 4)) 1).bump MC_CNT_PAR_COUNT 1
  let b := b.raise (if dirty then 1361 else 1360)
  let b := ((b.setBit MC_PAR_ADDR_DIRTY dirty).setFld MC_PAR_ADDR_WAY w).setFld MC_PAR_ADDR_LINE line
  if b.fld MC_PAR_LIMIT ≤ b.fld (MC_PAR_CNT_k_CNT (w / 4) (w % 4)) ∧ !b.onBit MC_WAY_DIS_DIS w then b.disableWay w
  else b

/-- A sector that must not be used any more. -/
def McLine.dropSector (l : McLine) (s : Nat) : McLine :=
  let m := BitVec.ofNat 4 (15 - 2 ^ s)
  { l with valid := l.valid &&& m, dirty := l.dirty &&& m }

/-- A miss on a line that stands in a way, some of whose sectors are invalid, or that is to be allocated: the
fill begins and the core blocks (R378). -/
def Block.startFill (b : Block) (a : McAcc) : Block :=
  b.modDram fun d => { d with fills := d.fills ++ [⟨a.addr / 256, [a]⟩] }

/-- A parity error in a tag of line `l`'s set drops the line of that way (R381). -/
def Block.tagStrike (b : Block) (l : Nat) (strike : McStrike) : Block :=
  match strike with
  | .tag w =>
    match b.dram.lines.find? fun (x : McLine) => lineSet x.line = lineSet l && x.way = w.val with
    | some x => (b.modDram (·.dropLine x.line)).mcParity w.val x.line false
    | none => b
  | _ => b

/-- An access of a command core (R376 to R381). -/
def Block.mcAccess (b : Block) (a : McAcc) (strike : McStrike) : Block :=
  let l := a.addr / 256
  let s := a.addr / 64 % 4
  if b.on MC_STAT_INIT then b.modDram fun d => { d with wait := d.wait ++ [a] }
  else if !b.cached a.addr then b.serveDirect a
  else
    let b := b.tagStrike l strike
    if b.dram.fills.any (·.line = l) then
      b.modDram fun d => { d with fills := d.fills.map fun (f : McFill) =>
        if f.line = l then { f with waiters := f.waiters ++ [a] } else f }
    else
      match b.dram.lineOf l with
      | some x =>
        if secOn x.valid s then
          if strike = McStrike.sector then
            let dirty := secOn x.dirty s
            let b := (b.modDram fun d => d.modLine l (·.dropSector s)).mcParity x.way l dirty
            if dirty then b.emit (.memData (.cc a.core) [] true)
            else if (b.dram.lineOf l).isSome then b.startFill a
            else b.serveDirect a
          else (b.bump MC_CNT_HIT_COUNT 1).serveLine a
        else (b.bump MC_CNT_MISS_COUNT 1).startFill a
      | none =>
        let b := b.bump MC_CNT_MISS_COUNT 1
        match b.allocate (lineSet l) with
        | none => b.serveDirect a
        | some (w, b) =>
          match b.dram.victimOf l with
          | some x =>
            let b := (b.bump MC_CNT_VBHIT_COUNT 1).modDram fun d =>
              let d := d.dropVictim l
              { d with lines := { x with way := w } :: d.lines }
            if secOn x.valid s then b.serveLine a else b.startFill a
          | none =>
            (b.modDram fun d => { d with lines := ⟨l, w, 0, 0, Vector.replicate 256 0⟩ :: d.lines }).startFill a

/-- The reset invalidation ends (R382), and the accesses that waited go on. -/
def Block.mcInitEnd (b : Block) : Block :=
  let ws := b.dram.wait
  let b := (b.setFld MC_STAT_INIT 0).modDram fun d => { d with wait := [] }
  ws.foldl (fun b a => b.mcAccess a .clean) b

/-! ### Maintenance (R383 to R385) -/

/-- Place a line in a locked way that holds no valid line in its set (R383). -/
def Block.lockFill (b : Block) (l : Nat) : Block :=
  let held := b.dram.lines.filter fun x => lineSet x.line = lineSet l && x.valid ≠ 0
  let free := (List.range 16).find? fun w =>
    b.onBit MC_LOCK_LOCK w && !b.onBit MC_WAY_DIS_DIS w && !held.any (fun x => x.way = w)
  let inLocked := (b.dram.lineOf l).elim false fun x => b.onBit MC_LOCK_LOCK x.way
  if inLocked then b
  else
    match free with
    | none => (b.setBit MC_OP_STAT_LFAIL true).raise 1364
    | some w =>
      let b := b.modDram fun d =>
        { d with lines := d.lines.filter fun x => !(lineSet x.line = lineSet l && x.way = w && x.valid = 0) }
      let old := (b.dram.lineOf l).or (b.dram.victimOf l)
      let x : McLine := old.elim ⟨l, w, 0, 0, Vector.replicate 256 0⟩ fun x => { x with way := w }
      let b := b.modDram fun d =>
        let d := (d.dropLine l).dropVictim l
        { d with lines := x :: d.lines }
      (List.range 4).foldl (fun b s => b.fillSector 0 l s) b

/-- The operation acts on one line. -/
def Block.opLine (b : Block) (op l : Nat) : Block :=
  let all := (b.dram.lineOf l).toList ++ (b.dram.victimOf l).toList
  if op = 3 then b.lockFill l
  else
    let b := all.foldl (fun b x => b.writeBack x) b
    if op = 1 ∨ op = 4 then
      let locked := (b.dram.lineOf l).elim false fun x => b.onBit MC_LOCK_LOCK x.way && x.valid ≠ 0
      let b := b.modDram fun d => (d.dropLine l).dropVictim l
      if locked then
        (b.bump MC_CNT_LKINV_COUNT 1).modDram fun d =>
          { d with op := d.op.map fun o => { o with locked := o.locked + 1 } }
      else b
    else b.modDram fun d =>
      { d with lines := d.lines.map (fun x => if x.line = l then { x with dirty := 0 } else x)
               victim := d.victim.map (fun x => if x.line = l then { x with dirty := 0 } else x) }

/-- The operation goes on, line by line, up to one whose fill is in flight (R385). -/
def Block.opRun (b : Block) (fuel : Nat) : Block :=
  match fuel, b.dram.op with
  | fuel + 1, some o =>
    match o.todo with
    | [] => b.modDram fun d => { d with op := some { o with ended := true } }
    | l :: t =>
      if b.dram.fills.any (·.line = l) then b
      else
        let b := b.opLine o.op l
        let b := b.modDram fun d => { d with op := d.op.map fun o => { o with todo := t, done := o.done + 1 } }
        b.opRun fuel
  | _, _ => b

/-- Run the operation in progress as far as it goes. -/
def Block.opGo (b : Block) : Block :=
  match b.dram.op with
  | some o => b.opRun (o.todo.length + 1)
  | none => b

/-- Lines that the operation acts on: those of the byte range, or every line held, in ascending order. -/
def Block.opLines (b : Block) (op : Nat) : List Nat :=
  if op ≤ 3 then
    let a := b.fld MC_OP_ADDR_LO_ADDR + b.fld MC_OP_ADDR_HI_ADDR * 2 ^ 32
    let n := b.fld MC_OP_LEN_LEN
    if n = 0 then [] else (List.range ((a + n - 1) / 256 - a / 256 + 1)).map (a / 256 + ·)
  else ((b.dram.lines ++ b.dram.victim).map (·.line)).foldl (fun t n => insertSrc n t) []

/-- GO of MC_OP_CTL (R383): an unknown OP, or a GO while BUSY, is rejected. -/
def Block.mcGo (b : Block) : Block :=
  let op := b.fld MC_OP_CTL_OP
  if b.on MC_OP_STAT_BUSY || op = 0 || 5 < op then (b.setBit MC_OP_STAT_REJ true).raise 1366
  else
    let b := (b.setBit MC_OP_STAT_BUSY true).setBit MC_STAT_OPBUSY true
    (b.modDram fun d => { d with op := some ⟨op, b.opLines op, 0, 0, false⟩ }).opGo

/-- The operation ends (R383, R384). -/
def Block.mcOpDone (b : Block) : Block :=
  match b.dram.op with
  | none => b
  | some o =>
    if !o.ended then b
    else
      let b := b.modDram fun d => { d with op := none }
      let b := ((b.setBit MC_OP_STAT_BUSY false).setBit MC_STAT_OPBUSY false).setFld MC_OP_STAT_LINES (min o.done 32767)
      let b := if o.locked = 0 then b else b.raise 1363
      b.raise 1365

/-- A write of MC_WIN takes effect after every line has been cleaned and invalidated, which waits for the fills
in flight (R392). -/
def Block.winApply (b : Block) : Block :=
  match b.dram.winPend with
  | none => b
  | some v =>
    if !b.dram.fills.isEmpty then b
    else
      let locked := (b.dram.lines.filter fun x => b.onBit MC_LOCK_LOCK x.way && x.valid ≠ 0).length
      let b := (b.dram.lines ++ b.dram.victim).foldl (fun b l => b.writeBack l) b
      let b := b.modDram fun d => { d with lines := [], victim := [], win := v, winPend := none }
      -- its INV_ALL reaches locked lines as any does (R384)
      if locked = 0 then b else (b.bump MC_CNT_LKINV_COUNT locked).raise 1363

/-- The write of MC_WIN (R392). -/
def Block.winWrite (b : Block) (v : Word) : Block :=
  ((b.setFld MC_WIN_SIZE (MC_WIN_SIZE.get v)).setFld MC_WIN_BASE (MC_WIN_BASE.get v)).modDram
    (fun d => { d with winPend := some v }) |>.winApply

/-- The fill of a core's miss completes (R378, R385): every sector is installed, the requesters are released
and served, and what waited for the fill goes on. -/
def Block.fillDone (b : Block) (core : Fin 4) : Block :=
  match b.dram.fills.find? fun f => f.waiters.any (·.core = core) with
  | none => b
  | some f =>
    let b := (List.range 4).foldl (fun b s => b.fillSector core f.line s) b
    let b := b.modDram fun d => { d with fills := d.fills.filter fun g => g.line ≠ f.line }
    let b := f.waiters.foldl (fun b a =>
      match b.dram.lineOf f.line with
      | some x => if secOn x.valid (a.addr / 64 % 4) then b.serveLine a else b.emit (.memData (.cc a.core) [] true)
      | none => b.serveDirect a) b
    (b.opGo).winApply

/-! ### The commands -/

/-- MC_ACCESS: a core's access within one sector; a core that blocks on a fill sends none (R378). -/
def execMcAccess (core : Fin 4) (addr len : Nat) (write : Option (List Byte)) (strike : McStrike) (s : State) :
    Host.Outcome State Fault Refusal :=
  s.upd fun b =>
    if b.dram.fills.any (fun f => f.waiters.any (·.core = core)) then b
    else b.mcAccess ⟨core, addr, len, write⟩ strike

/-- MC_FILL_DONE. -/
def execMcFillDone (core : Fin 4) (s : State) : Host.Outcome State Fault Refusal := s.upd fun b => b.fillDone core

/-- The register writes that start a maintenance operation. -/
def Block.mcOpStart (b : Block) (op addr len : Nat) : Block :=
  let b := (b.setFld MC_OP_ADDR_LO_ADDR (addr % 2 ^ 32)).setFld MC_OP_ADDR_HI_ADDR (addr / 2 ^ 32)
  ((b.setFld MC_OP_LEN_LEN len).setFld MC_OP_CTL_OP op).mcGo

/-- INV over a byte range. -/
def execInv (addr len : Nat) (s : State) : Host.Outcome State Fault Refusal := s.upd fun b => b.mcOpStart 1 addr len
/-- CLEAN over a byte range. -/
def execClean (addr len : Nat) (s : State) : Host.Outcome State Fault Refusal := s.upd fun b => b.mcOpStart 2 addr len
/-- LOCKFILL over a byte range. -/
def execLockfill (addr len : Nat) (s : State) : Host.Outcome State Fault Refusal :=
  s.upd fun b => b.mcOpStart 3 addr len
/-- INV_ALL. -/
def execInvAll (s : State) : Host.Outcome State Fault Refusal := s.upd fun b => (b.setFld MC_OP_CTL_OP 4).mcGo
/-- CLEAN_ALL. -/
def execCleanAll (s : State) : Host.Outcome State Fault Refusal := s.upd fun b => (b.setFld MC_OP_CTL_OP 5).mcGo
/-- MC_OP_DONE. -/
def execMcOpDone (s : State) : Host.Outcome State Fault Refusal := s.upd fun b => b.mcOpDone

/-- Writing 1 to MC_WAY_DIS bits returns the ways to service, empty, with their counts cleared (R381). -/
def Block.wayRestore (b : Block) (ways : Nat) : Block :=
  let b := (List.range 16).foldl (fun b w =>
    if ways.testBit w && b.onBit MC_WAY_DIS_DIS w then
      (b.putBit MC_WAY_DIS_DIS w false).setFld (MC_PAR_CNT_k_CNT (w / 4) (w % 4)) 0
    else b) b
  b.setBit MC_STAT_BYPASS b.mcBypass

/-- WAY_RESTORE. -/
def execWayRestore (ways : BitVec 16) (s : State) : Host.Outcome State Fault Refusal :=
  s.upd fun b => b.wayRestore ways.toNat

/-- MC_WIN_WRITE. -/
def execMcWinWrite (v : Word) (s : State) : Host.Outcome State Fault Refusal := s.upd fun b => b.winWrite v

/-- VICTIM_WRITEBACK: the oldest dirty line of the victim buffer is written back (R380). -/
def execVictimWriteback (s : State) : Host.Outcome State Fault Refusal :=
  s.upd fun b =>
    match b.dram.victim.find? fun l => l.dirty ≠ 0 with
    | some l => b.victimBack l
    | none => b

end Sys2Proof.Machine
end

