-- ==== Sys2Proof/Machine/Mirror.lean ====
section
/-!
DEFINITION. The commands of the mirrored pair and of MIRROR CONTROL (16_mirror_pair.md; 11_command_set.md
R304).
-/

namespace Sys2Proof.Machine

/-! ### Roles and states (R412) -/

/-- PEER_ROLE is driven high: this module is the primary of a pair (R409). -/
def Block.peerRole (b : Block) : Bool := !b.on ML_STAT_ROLE && b.pstate ≠ 0

/-- Write role, pair state and EPOCH to the journal in Peat (R412). -/
def Block.journalPair (b : Block) : Block :=
  let e := b.fld ML_EPOCH_EPOCH
  let st := b.pstate
  let p := b.on ML_STAT_ROLE
  b.modMl fun m => { m with jEpoch := e, jState := st, jPartner := p }

/-- The takeover conditions (R422). -/
def Block.tkoHolds (b : Block) : Bool :=
  b.pstate = 5 && !b.on ML_STAT_HB_OK && !b.on ML_STAT_ROLE_IN && !b.on ML_STAT_LINK_UP

/-- The takeover delay starts when its conditions come to hold, and is cancelled when they cease; the same for
the time for which link and heartbeat have been healthy (R421, R422, R425). -/
def Block.mlTimers (b : Block) : Block :=
  let now := b.now
  let t := b.tkoHolds
  let h : Bool := b.on ML_STAT_LINK_UP && b.on ML_STAT_HB_OK
  b.modMl fun m =>
    { m with tko := if t then m.tko.or (some now) else none
             healthy := if h then m.healthy.or (some now) else none }

/-- Role and pair state change: they are journalled, source 228 is raised, PEER_ROLE follows. -/
def Block.setPair (b : Block) (st : Nat) (partner : Bool) : Block :=
  let was := b.pstate
  let role := b.peerRole
  let primary := !b.on ML_STAT_ROLE && was ≠ 0
  let b := (b.setFld ML_STAT_PSTATE st).setBit ML_STAT_ROLE partner
  let now := b.now
  let b := if !partner && st ≠ 0 && !primary then b.modMl fun m => { m with roleTick := now } else b
  let b := b.journalPair.mlTimers
  let b := if b.peerRole ≠ role then b.emit (.pin "PEER_ROLE" b.peerRole) else b
  if was = st then b else b.raise 228

/-- Enter DEGRADED (R416, R418, R421): nothing is awaited from the partner any more; async TYPE 10. -/
def Block.degrade (b : Block) : Block :=
  let b := (b.modMl fun m => { m with sent := [] }).setFld ML_LAG_LAG 0
  (b.setPair 4 false).async 10 1 0

/-! ### Frames (R410) -/

/-- The 64 bytes of HELLO; the widths of its fields are the model's (notes/assumptions/15.md). -/
def Block.helloBytes (b : Block) : List Byte :=
  let v := b.store.vol
  packBytes 64 [(0, 16, strVal Config.serial.toList), (16, 2, match b.part with | .pl6416 => 0x6416 | .pl3216 => 0x3216),
    (18, 8, strVal (vget b.hq.fw (Fin.ofNat 2 (b.hq.fwActive - 1))).rev), (26, 4, b.fld ML_EPOCH_EPOCH),
    (30, 1, b.fld ML_STAT_ROLE), (31, 1, b.pstate), (32, 16, strVal v.magid), (48, 16, strVal b.ml.mirrorMag)]

/-- A frame arrives on a link that is up, in LSEQ order. -/
def Block.onFrame (b : Block) (f : Block → Block) : Block :=
  if b.on ML_STAT_LINK_UP then f (b.modMl fun m => { m with rxSeq := m.rxSeq + 1 }) else b

/-- Bring-up starts (R409): the link is down until the HELLO exchange. The sequence starts again. -/
def Block.mlBring (b : Block) : Block :=
  let now := b.now
  let b := b.modMl fun m => { m with bring := some now, txSeq := 0, rxSeq := 0, kept := [] }
  b.emit (.melar ⟨1, 0, 0, 0, b.helloBytes⟩)

/-- What link down means for the pair (R421). -/
def Block.pairDown (b : Block) : Block :=
  let st := b.pstate
  if st = 0 ∨ st = 4 ∨ st = 5 then b.mlTimers
  else if b.on ML_STAT_ROLE then b.setPair 5 true
  else b.degrade

/-- The link goes down (R410, R421). -/
def Block.linkDown (b : Block) : Block :=
  if !b.on ML_STAT_LINK_UP then b
  else (((b.setBit ML_STAT_LINK_UP false).setFld ML_STAT_LANE_LOCK 0).raise 225).pairDown

/-- ML_CTL.EN rises, or RETRAIN is written. -/
def Block.mlEnable (b : Block) : Block := if b.on ML_CTL_EN then b.linkDown.mlBring else b

/-- ML_CTL.EN falls: the link is down, PEER_ALIVE stops. -/
def Block.mlDisable (b : Block) : Block := b.linkDown.modMl fun m => { m with bring := none }

/-- ML_LINK_ENABLE: ML_CTL.EN set, or RETRAIN written. -/
def execMlLinkEnable (retrain : Bool) (s : State) : Host.Outcome State Fault Refusal :=
  s.upd fun b => if retrain then b.mlEnable else (b.setBit ML_CTL_EN true).mlEnable

/-- ML_LINK_DOWN. -/
def execMlLinkDown (s : State) : Host.Outcome State Fault Refusal := s.upd fun b => b.linkDown

/-- ML_FRAME_DISCARD (R410, R428): a frame whose CRC fails. -/
def execMlFrameDiscard (s : State) : Host.Outcome State Fault Refusal :=
  s.upd fun b =>
    if !b.on ML_STAT_LINK_UP then b
    else
      let b := ((b.bump ML_CNT_CRCERR 1).bump ML_CNT_REPLAY 1).modMl fun m => { m with crcErrs := m.crcErrs + 1 }
      let b := if b.ml.crcErrs = 17 then b.raise 234 else b
      b.emit (.melar ⟨0x0C, 1, b.ml.txSeq, b.ml.rxSeq, []⟩)

/-- LACK: where FLAGS [0] = 1, the kept frames beyond the LSEQ are sent again. -/
def execMlLack (lseq : BitVec 32) (replay : Bool) (s : State) : Host.Outcome State Fault Refusal :=
  s.upd fun b => b.onFrame fun b =>
    if !replay then b
    else (b.ml.kept.filter fun f => lseq.toNat < f.lseq).foldl (fun b f => b.emit (.melar f)) b

/-! ### Catalogue entries and data on the other module (R411, R414, R419, R425, R426) -/

/-- The catalogue entries of the volume that cross the link, in order. -/
def Vol.catEntries (v : Vol) : List (Nat × List Byte) :=
  ((v.records.map fun r => r.entries.map fun e => (r.rtype, e)).flatten ++ v.entries).filter fun e =>
    e.1 ≠ 5 && e.1 ≠ 8 && e.1 ≠ 9 && e.1 ≠ 10

/-- Send the catalogue as content older than the mirroring: CAT frames with ARG 0 (notes/assumptions/21.md). -/
def Block.sendCatalogue (b : Block) : Block :=
  b.store.vol.catEntries.foldl (fun b e => b.melarSend 0x05 0 (BitVec.ofNat 8 e.1 :: e.2)) b

/-- Bind slots whose check value equals that of a generation not bound here (R413). -/
def Block.bindEqual (b : Block) : Block :=
  let want := (if b.store.vol.auth then [(1, 0, b.store.vol.catCheck)] else []) ++ b.store.vol.gens
  want.foldl (fun b g =>
    if b.store.vol.bound g.1 g.2.1 then b
    else
      match (List.range 64).find? fun i => (b.slot i).kind ≠ 0 && b.slotCheck i = g.2.2 with
      | some i => b.modVol fun v => { v with binds := v.binds ++ [(g.1, g.2.1, i)] }
      | none => b) b

/-- Apply a catalogue entry received from the peer, unless the volume has it: it is journalled here too. -/
def Block.applyCat (b : Block) (t : Nat) (e : List Byte) : Block :=
  let e := if t = 1 then e.take 3 ++ [BitVec.ofNat 8 (descOf b.part)] ++ e.drop 4 else e
  -- a clip of the peer whose number another clip here has takes the lowest unused one (R425)
  let b :=
    if t = 3 then
      let x := clipOf e false
      match renumber b.store.vol.clips [(3, e)] with
      | (old, new) :: _ =>
        if old ≠ new && !b.ml.renum.any (·.1 = x.num) then b.modMl fun m => { m with renum := m.renum ++ [(old, new)] } else b
      | [] => b
    else b
  let e := (renumbered b.ml.renum (t, e)).2
  let known : Bool := b.store.vol.catEntries.contains (t, e) ||
    (t = 3 && (b.clip (valAt e 0 2)).isSome) || (t = 2 && b.store.vol.gens.any fun g => g.1 = byteAt e 0 && g.2.1 = byteAt e 1)
  if known || t = 5 || t = 8 || t = 9 || t = 10 || b.store.vol.vstate = 0 then b
  else
    let b := b.applyEntry [] t e
    let b := if t = 3 then b.modClip (valAt e 0 2) fun x => { x with state := 1 } else b
    let b := if t = 1 then b.modVol fun v => { v with vstate := if v.vstate = 2 then 3 else v.vstate } else b
    let b := if t = 1 ∨ t = 2 then b.bindEqual else b
    b.journalEntry t e

/-- Stored bytes of a frame: whole cells where it is encrypted. -/
def frameLen (gen fsize : Nat) : Nat := if gen = 0 then fsize else 8192 * ((fsize + 8191) / 8192)

/-- Take a frame's stored bytes (R411): its cells go where placement of this module puts them (R334, R419).
`old` is the clip number of their tweak. -/
def Block.takeFrame (b : Block) (clip old frame fsize gen : Nat) (bytes : List Byte) : Block :=
  let n := (fsize + 8191) / 8192
  let ss := match b.clip clip with | some x => b.clipWriters x.surf | none => b.writers
  let surfs := splitCells (b.split ss n)
  let b := (List.range n).foldl (fun b j =>
    let len := min 8192 (fsize - 8192 * j)
    b.arriveRaw 0 0 1 clip frame j gen len (j = 0, j + 1 = n) (surfs.getD j none) 0
      ((bytes.drop (8192 * j)).take (if gen = 0 then len else 8192))) b
  let b := b.modChunks (fun x => x.mag = b.store.vol.magid && x.ns = 1 && x.clip = clip && x.frame = frame)
    fun x => { x with twk := old }
  b.modVol fun v => v.reach clip (frame + 1)

/-- Take a block unit's stored bytes; `ends`: the first, the last of its extent. -/
def Block.takeUnit (b : Block) (u gen : Nat) (ends : Bool × Bool) (bytes : List Byte) : Block :=
  let spare : Bool := (b.chunkAt 2 0 0 u).elim false (·.optical)
  let b := if spare then b.modVol fun v => { v with spareLeft := v.spareLeft - 1 } else b
  b.arriveRaw 0 0 2 0 0 u gen 8192 ends ((splitCells (b.split b.writers 1)).getD 0 none) 0 (bytes.take 8192)

/-! ### The partner (R414, R416, R419) -/

def MirCmd.opc (m : MirCmd) : Nat := dwBits m.dws 0 7 0

/-- FSIZE of an append: DLEN over NFRM (R313). -/
def MirCmd.fsize (m : MirCmd) : Nat := dwOf m.dws 6 / dwBits m.dws 11 7 0

/-- Bytes of data that a mirrored command brings. -/
def Block.mirBytes (b : Block) (m : MirCmd) : Nat :=
  if m.opc = 0x31 then dwBits m.dws 11 7 0 * frameLen (b.writeGen 1) m.fsize
  else if m.opc = 0x21 then
    8192 * (unitsOf (dwOf m.dws 10) (dwOf m.dws 10 + dwBits m.dws 11 15 0)).length
  else 0

/-- All of a mirrored command's data is here. -/
def Block.mirFull (b : Block) (m : MirCmd) : Bool :=
  b.mirBytes m ≤ ((m.chunks.map fun c => c.2.length).foldl (· + ·) 0)

/-- The eject of the partner (R419) is past its own drain-before-eject condition. -/
def Block.ejectDrained (b : Block) : Bool :=
  b.store.vol.vstate = 0 || b.hq.cmds.any fun c => c.opc = 0x09 && c.started && 3 ≤ c.step

/-- Start the eject on the partner, as a command whose completion goes nowhere. -/
def Block.partnerEject (b : Block) (m : MirCmd) : Block :=
  if b.store.vol.vstate ≠ 3 then b
  else
    let c : Cmd :=
      { tag := b.freeTag, pair := 0, seq := b.hq.seq, dws := m.dws, range := none, entry := false, granted := true
        space := 0, reserved := false, started := true, discard := true, clip := 0, frame := 0, frames := 0, spare := 0
        step := 0, split := [], stamp := none, mseq := 0, lastData := none, fin := none, held := none }
    (b.modHq fun h => { h with cmds := h.cmds ++ [c] }).ejectBegin c

/-- What a mirrored command does on the partner, once its data is here: its data is taken; what the catalogue says
of it comes in CAT frames. -/
def Block.mirRun (b : Block) (m : MirCmd) : Block :=
  let bytes := (m.chunks.map (·.2)).flatten
  if m.opc = 0x31 then
    let gen := b.writeGen 1
    let len := frameLen gen m.fsize
    (List.range (dwBits m.dws 11 7 0)).foldl (fun b i =>
      b.takeFrame m.clip m.clip (m.frame + i) m.fsize gen ((bytes.drop (len * i)).take len)) b
  else if m.opc = 0x21 then
    let us := unitsOf (dwOf m.dws 10) (dwOf m.dws 10 + dwBits m.dws 11 15 0)
    us.zipIdx.foldl (fun b u => b.takeUnit u.1 (b.writeGen 2) (u.2 = 0, u.2 + 1 = us.length) ((bytes.drop (8192 * u.2)).take 8192)) b
  else b

/-- Apply the entry or the command with the next MSEQ, if it can be. -/
def Block.mirNext (b : Block) : Block :=
  let n := b.txMseq + 1
  match b.ml.cats.find? fun c => c.1 = n with
  | some c => ((b.applyCat c.2.1 c.2.2).modMl fun m => { m with cats := m.cats.filter fun x => x.1 ≠ n }).setTxMseq n
  | none =>
    match b.ml.received.find? fun m => m.mseq = n with
    | none => b
    | some m =>
      let done := fun (b : Block) =>
        (b.modMl fun l => { l with received := l.received.map fun x =>
          if x.mseq = n then { x with chunks := [], applied := true } else x }).setTxMseq n
      if m.applied then b.setTxMseq n
      else if m.opc = 0x09 then
        let b := if b.hq.cmds.any fun c => c.opc = 0x09 && c.started then b else b.partnerEject m
        if b.ejectDrained then done b else b
      else if b.mirFull m then done (b.mirRun m)
      else b

/-- Apply in MSEQ order what can be, then report what is held within the hold-up allowance (R410, R416). -/
def Block.mirApply (b : Block) : Block :=
  let b := (List.range (b.ml.cats.length + b.ml.received.length)).foldl (fun b _ => b.mirNext) b
  if b.rptMseq < b.txMseq && b.dramUsed ≤ b.allowance then
    let n := b.txMseq
    ((b.setFld ML_RPTSEQ_LO_MSEQ (n % 2 ^ 32)).setFld ML_RPTSEQ_HI_MSEQ (n / 2 ^ 32)).melarSend 0x04 n []
  else b

/-- The partner is mirroring. -/
def Block.mirrored (b : Block) : Bool := b.on ML_STAT_ROLE && (b.pstate = 2 || b.pstate = 3)

/-- CMD (R414, R423): the partner takes the command and its ML_MCT entry, under the primary's tag. -/
def execMlCmd (mseq : BitVec 64) (dws : Vector Word 16) (tag : Fin 4096) (pair : Fin 128) (clip : BitVec 16)
    (frame : BitVec 32) (stamp : BitVec 64) (dur : BitVec 2) (s : State) : Host.Outcome State Fault Refusal :=
  s.upd fun b => b.onFrame fun b =>
    if !b.mirrored then b
    else
      let m : MirCmd := ⟨mseq.toNat, dws, tag, clip.toNat, frame.toNat, stamp.toNat, dur.toNat, [], false⟩
      let b := b.modMl fun l => { l with received := l.received.filter (fun x => x.tag ≠ tag.val) ++ [m] }
      let t := tag.val
      let b := if b.ml.frozen then b else
        let b := (b.setFld (ML_MCT_t_LO_MSEQ t) (mseq.toNat % 2 ^ 32)).wr (ML_MCT_t_HI t) 0
        let b := (b.setBit (ML_MCT_t_HI_VALID t) true).setBit (ML_MCT_t_HI_FULL t) (b.mirFull m)
        (b.setFld (ML_MCT_t_HI_SQID t) pair).setFld (ML_MCT_t_HI_CID t) (dwBits dws 0 31 16)
      b.mirApply

/-- DATA (R411, R414): a chunk of a mirrored command's data. -/
def execMlData (mseq : BitVec 48) (chunk : BitVec 16) (bytes : List Byte) (s : State) : Host.Outcome State Fault Refusal :=
  s.upd fun b => b.onFrame fun b =>
    match b.ml.received.find? fun m => m.mseq % 2 ^ 48 = mseq.toNat && !m.applied with
    | none => b
    | some m =>
      let m := { m with chunks := m.chunks ++ [(chunk.toNat, bytes)] }
      let b := b.modMl fun l => { l with received := l.received.map fun x => if x.mseq = m.mseq then m else x }
      let b := if b.mirFull m && !b.ml.frozen then b.setBit (ML_MCT_t_HI_FULL m.tag) true else b
      b.mirApply

/-- CAT (R414, R425): a catalogue entry, under its MSEQ; with MSEQ 0 it is older content. -/
def execMlCat (mseq : BitVec 64) (rtype : Fin 11) (entry : List Byte) (s : State) : Host.Outcome State Fault Refusal :=
  s.upd fun b => b.onFrame fun b =>
    if mseq = 0 then (if b.pstate = 2 ∨ b.pstate = 3 then b.applyCat rtype entry else b)
    else if !b.mirrored then b
    else (b.modMl fun l => { l with cats := l.cats ++ [(mseq.toNat, rtype.val, entry)] }).mirApply

/-- DONE (R416): the primary's completion is recorded in ML_MCT; a command that ended without its data is not
waited for any longer. -/
def execMlDone (mseq : BitVec 64) (_status : Word) (s : State) : Host.Outcome State Fault Refusal :=
  s.upd fun b => b.onFrame fun b =>
    match b.ml.received.find? fun m => m.mseq = mseq.toNat with
    | none => b
    | some m =>
      let b := if b.ml.frozen then b else b.setBit (ML_MCT_t_HI_DONE m.tag) true
      let wait := m.applied || b.mirFull m
      let b := b.modMl fun l => { l with received := l.received.map fun x =>
        if x.mseq = m.mseq && !wait then { x with chunks := [], applied := true } else x }
      b.mirApply

/-! ### The primary (R416 to R418) -/

/-- RPT: everything up to the MSEQ is reported. -/
def execMlRpt (mseq : BitVec 64) (s : State) : Host.Outcome State Fault Refusal :=
  s.upd fun b => b.onFrame fun b =>
    let n := mseq.toNat
    if !b.mirroring || n ≤ b.rptMseq then b
    else
      let b := (b.setFld ML_RPTSEQ_LO_MSEQ (n % 2 ^ 32)).setFld ML_RPTSEQ_HI_MSEQ (n / 2 ^ 32)
      (b.modMl fun m => { m with sent := m.sent.filter fun x => n < x.mseq }).setLag

/-- REPORT_TIMEOUT (R418, R30): some command's report is later than ML_HB.RPT_TO. -/
def execReportTimeout (s : State) : Host.Outcome State Fault Refusal :=
  s.upd fun b =>
    if b.mirroring && b.ml.sent.any fun x => x.last + 4 * b.fld ML_HB_RPT_TO + 1 ≤ b.now then (b.raise 231).degrade
    else b

/-! ### Failover (R421, R422, R424) -/

/-- The heartbeat is lost. -/
def Block.hbLost (b : Block) : Block :=
  if b.on ML_STAT_HB_OK then ((b.setBit ML_STAT_HB_OK false).raise 226).mlTimers else b

/-- HEARTBEAT_LOST. -/
def execHeartbeatLost (s : State) : Host.Outcome State Fault Refusal := s.upd fun b => b.hbLost

/-- HEARTBEAT_REGAINED. -/
def execHeartbeatRegained (s : State) : Host.Outcome State Fault Refusal :=
  s.upd fun b =>
    if b.on ML_STAT_HB_OK || !b.on ML_CTL_EN then b else ((b.setBit ML_STAT_HB_OK true).raise 227).mlTimers

/-- PEER_ROLE_CHANGE: the level of the input. -/
def execPeerRoleChange (level : Bool) (s : State) : Host.Outcome State Fault Refusal :=
  s.upd fun b => (b.setBit ML_STAT_ROLE_IN level).mlTimers

/-- LEAVE: counts as link down and heartbeat lost; with cause 0 (UNPAIR) this module is SINGLE. -/
def execMlLeave (cause : Fin 3) (s : State) : Host.Outcome State Fault Refusal :=
  s.upd fun b =>
    if !b.on ML_STAT_LINK_UP then b
    else
      let b := if cause = 0 then b.setPair 0 false else b
      b.hbLost.linkDown

/-- The steps of a takeover (R422). -/
def Block.takeover (b : Block) : Block :=
  let lost := b.ml.received.filter fun m => m.opc = 0x31 && !m.applied && !b.mirFull m
  let full := b.ml.received.filter fun m => !m.applied && b.mirFull m && m.opc ≠ 0x09
  let b := (b.setFld ML_EPOCH_EPOCH (b.fld ML_EPOCH_EPOCH + 1)).setPair 4 false
  let b := full.foldl (fun b m => b.mirRun m) b
  let b := lost.foldl (fun b m =>
    let n := dwBits m.dws 11 7 0
    (b.modVol fun v => v.reach m.clip (m.frame + n)).skipFrames m.clip m.frame n) b
  let b := b.modVol fun v => { v with clips := v.clips.map fun x => if x.state = 1 then { x with state := 3 } else x }
  let b := b.modMl fun m => { m with frozen := true, received := [], cats := [] }
  (b.raise 229).async 10 0 0

/-- TAKEOVER_DELAY (R422, R30). -/
def execTakeoverDelay (s : State) : Host.Outcome State Fault Refusal :=
  s.upd fun b =>
    match b.ml.tko with
    | some t =>
      if b.on ML_CTL_AUTO_TKO && b.tkoHolds && t + b.fld ML_HB_TKO_DLY + 1 ≤ b.now then b.takeover else b
    | none => b

/-- RES of MIRROR CONTROL (R304). -/
def Block.mirrorRes (b : Block) : Nat := b.pstate + 16 * b.fld ML_STAT_ROLE + 32 * b.fld ML_STAT_SYNC

/-- An action of MIRROR CONTROL. -/
def Block.onAction (b : Block) (tag action : Nat) (f : Block → Cmd → Block) : Block :=
  b.actOn tag 0x0F fun b c => if c.bits 10 3 0 = action then f b c else b

/-- MIRROR_STATUS. -/
def execMirrorStatus (tag : Nat) (s : State) : Host.Outcome State Fault Refusal :=
  s.upd fun b => b.onAction tag 0 fun b c => b.succeed c b.mirrorRes

/-- MIRROR_MODE (R416). -/
def execMirrorMode (tag : Nat) (s : State) : Host.Outcome State Fault Refusal :=
  s.upd fun b => b.onAction tag 3 fun b c =>
    let b := b.setBit ML_STAT_SYNC (c.bits 11 0 0 = 1)
    b.succeed c b.mirrorRes

/-- TAKEOVER (R422). -/
def execTakeover (tag : Nat) (s : State) : Host.Outcome State Fault Refusal :=
  s.upd fun b => b.onAction tag 5 fun b c =>
    if b.pstate = 5 && (c.bits 11 0 0 = 1 || b.tkoHolds) then
      let b := b.takeover
      b.succeed c b.mirrorRes
    else b.failWith c 0x02 0

/-! ### Pairing, rejoin and resync (R413, R424 to R426) -/

/-- A new epoch of the pair begins: MSEQ starts again (notes/assumptions/21.md), ML_MCT takes entries, and the
copy of older content begins. -/
def Block.newEpoch (b : Block) (epoch st : Nat) (partner : Bool) : Block :=
  let b := (b.setFld ML_EPOCH_EPOCH epoch).setTxMseq 0
  let b := (b.setFld ML_RPTSEQ_LO_MSEQ 0).setFld ML_RPTSEQ_HI_MSEQ 0
  let b := (b.setFld ML_LAG_LAG 0).setFld ML_RSYNC_PROG 0
  let total := 8192 * b.volChunks.length
  let b := b.modMl fun m =>
    { m with sent := [], received := [], cats := [], frozen := false, todo := total, copied := 0, part := none, renum := [] }
  b.setPair st partner

/-- HELLO, where the link is up. -/
def Block.sendHello (b : Block) : Block := b.melarSend 1 0 b.helloBytes

/-- The requirements of PAIR but the keys (R413). -/
def Block.pairOk (b : Block) (peer : PeerPair) : Bool :=
  b.on ML_CTL_EN && b.on ML_STAT_LINK_UP && peer.accept && (b.store.vol.vstate = 2 || b.store.vol.vstate = 3) &&
    peer.vstate = 2 && (b.ml.hello.elim false fun h => h.pstate = 0)

/-- PAIR, with what the peer answers: JOINING first, then the pair is formed and the command ends. -/
def execPair (tag : Nat) (peer : PeerPair) (s : State) : Host.Outcome State Fault Refusal :=
  s.upd fun b => b.onAction tag 1 fun b c =>
    let v := b.store.vol
    if c.step = 0 then
      if b.pstate ≠ 0 || !b.pairOk peer then b.failWith c 0x02 0
      else if v.binds.any fun x => !peer.checks.contains (b.slotCheck x.2.2) then b.failWith c 0x40 0x0B
      else (b.setPair 1 false).toStep c 1
    else
      match b.ml.hello with
      | some h =>
        if !b.on ML_STAT_LINK_UP then (b.setPair 0 false).failWith c 0x02 0
        else
          let epoch := 1 + max (b.fld ML_EPOCH_EPOCH) h.epoch
          let b := b.modMl fun m => { m with mirrorMag := h.magid }
          let b := (b.newEpoch epoch (if v.vstate = 3 then 2 else 3) false).sendHello
          let b := if v.vstate = 3 then b.sendCatalogue else b
          b.succeed c b.mirrorRes
      | none => (b.setPair 0 false).failWith c 0x02 0

/-- UNPAIR. -/
def execUnpair (tag : Nat) (s : State) : Host.Outcome State Fault Refusal :=
  s.upd fun b => b.onAction tag 2 fun b c =>
    if b.pstate = 0 then b.failWith c 0x02 0
    else
      let b := ((b.melarSend 0x0B 0 []).modMl fun m => { m with sent := [] }).setPair 0 false
      b.succeed c b.mirrorRes

/-- Each module's journal names the other's loaded volume (R425). -/
def Block.rejoinOk (b : Block) : Bool :=
  b.on ML_STAT_LINK_UP && (b.pstate = 0 || b.pstate = 4 || b.pstate = 5) && b.store.vol.vstate ≠ 0 &&
    (b.ml.hello.elim false fun h => !h.magid.isEmpty && h.magid = b.ml.mirrorMag && h.mirror = b.store.vol.magid)

/-- REJOIN and the automatic rejoin: the module with the higher EPOCH, or on equal EPOCHs that with the earlier
primary role, is the primary. The other one tells what its volume has first. -/
def Block.rejoin (b : Block) (earlier : Bool) : Block :=
  match b.ml.hello with
  | none => b
  | some h =>
    let e := b.fld ML_EPOCH_EPOCH
    let primary : Bool := h.epoch < e || (h.epoch = e && earlier)
    ((b.newEpoch (1 + max e h.epoch) 2 (!primary)).sendHello).sendCatalogue

/-- REJOIN; `earlier` tells that this module's journal records the earlier primary role. -/
def execRejoin (tag : Nat) (earlier : Bool) (s : State) : Host.Outcome State Fault Refusal :=
  s.upd fun b => b.onAction tag 4 fun b c =>
    if !b.rejoinOk then b.failWith c 0x02 0
    else
      let b := b.rejoin earlier
      b.succeed c b.mirrorRes

/-- AUTO_REJOIN. -/
def execAutoRejoin (earlier : Bool) (s : State) : Host.Outcome State Fault Refusal :=
  s.upd fun b =>
    match b.ml.healthy with
    | some t => if b.on ML_CTL_AUTO_RJ && b.rejoinOk && t + 400000 + 1 ≤ b.now then b.rejoin earlier else b
    | none => b

/-- Both modules are primary (R424): the lower EPOCH, or on equal EPOCHs the later role, becomes an ISOLATED
partner. -/
def Block.conflict (b : Block) (h : PeerHello) (earlier : Bool) : Block :=
  if h.partner || h.pstate = 0 || !b.peerRole then b
  else
    let b := (b.setBit ML_STAT_CONFLICT true).raise 230
    let e := b.fld ML_EPOCH_EPOCH
    if e < h.epoch || (e = h.epoch && !earlier) then b.setPair 5 true else b

/-- The peer has entered RESYNC or MIRRORED with this module's volume as its mirror, under a newer EPOCH: this
module joins it (R413, R425; notes/assumptions/21.md). -/
def Block.joinPeer (b : Block) (h : PeerHello) : Block :=
  let mine := b.store.vol
  let names : Bool := mine.vstate ≠ 0 && h.mirror = mine.magid && (h.pstate = 2 || h.pstate = 3) &&
    b.fld ML_EPOCH_EPOCH < h.epoch
  let pair : Bool := b.pstate = 0 && b.on ML_CTL_ACCEPT && mine.vstate = 2 && !h.partner
  let again : Bool := (b.pstate = 0 || b.pstate = 4 || b.pstate = 5) && h.magid = b.ml.mirrorMag
  if names && (pair || again) then
    let b := (b.modMl fun m => { m with mirrorMag := h.magid }).newEpoch h.epoch h.pstate (!h.partner)
    if again then b.sendCatalogue else b
  else b

/-- HELLO (R409, R410, R424): the peer tells of itself. The first one completes the bring-up. `earlier` tells that
this module's journal records the earlier primary role. -/
def execMlHello (h : PeerHello) (earlier : Bool) (s : State) : Host.Outcome State Fault Refusal :=
  s.upd fun b =>
    if !b.on ML_CTL_EN then b
    else
      let b :=
        if b.on ML_STAT_LINK_UP then b
        else
          let b := (b.setBit ML_STAT_LINK_UP true).setFld ML_STAT_LANE_LOCK 15
          ((b.modMl fun m => { m with bring := none }).raise 224).mlTimers
      let b := b.modMl fun m => { m with hello := some h, rxSeq := m.rxSeq + 1 }
      (b.conflict h earlier).joinPeer h

/-- Resync progress (R426). -/
def Block.resyncProg (b : Block) (n : Nat) : Block :=
  let b := b.modMl fun m => { m with copied := m.copied + n }
  b.setFld ML_RSYNC_PROG (if b.ml.todo = 0 then 100 else min 100 (100 * b.ml.copied / b.ml.todo))

/-- A whole item of older content is here: a frame, or with clip 0 a block unit. What the authoritative module has
prevails (R425). -/
def Block.takeOld (b : Block) (clip unit : Nat) (bytes : List Byte) : Block :=
  if clip = 0 then
    if b.on ML_STAT_ROLE || (b.chunkAt 2 0 0 unit).isNone then b.takeUnit unit (b.writeGen 2) (true, true) bytes else b
  else
    let num := (b.ml.renum.find? fun p => p.1 = clip).elim clip (·.2)
    match b.clip num with
    | none => b
    | some x =>
      if b.on ML_STAT_ROLE || (b.chunkAt 1 num unit 0).isNone then b.takeFrame num clip unit x.fsize x.gen bytes else b

/-- RSYNC (R426): a frame of older content, sent by this module from its own copy (`out`), or received. Successive
frames of one item carry its bytes in order. -/
def execMlRsync (out : Bool) (clip : BitVec 16) (unit : BitVec 32) (bytes : List Byte) (s : State) :
    Host.Outcome State Fault Refusal :=
  s.upd fun b =>
    if b.pstate ≠ 2 || !b.on ML_STAT_LINK_UP then b
    else if out then
      (b.melarSend 0x0A (clip.toNat + 2 ^ 16 * unit.toNat) bytes).resyncProg bytes.length
    else b.onFrame fun b =>
      let k := clip.toNat
      let u := unit.toNat
      let num := (b.ml.renum.find? fun p => p.1 = k).elim k (·.2)
      let prior := match b.ml.part with
        | some p => if p.1 = k && p.2.1 = u then p.2.2 else []
        | none => []
      let acc := prior ++ bytes
      let need := if k = 0 then 8192 else (b.clip num).elim 0 fun x => frameLen x.gen x.fsize
      let b := b.resyncProg bytes.length
      if acc.length < need then b.modMl fun m => { m with part := some (k, u, acc) }
      else (b.modMl fun m => { m with part := none }).takeOld k u acc

/-- RESYNC_COMPLETE (R426). -/
def execResyncComplete (s : State) : Host.Outcome State Fault Refusal :=
  s.upd fun b =>
    if b.pstate ≠ 2 then b
    else
      let partner := b.on ML_STAT_ROLE
      ((((b.setFld ML_RSYNC_PROG 100).setPair 3 partner).raise 232).async 10 2 0)

/-! ### Forwarded interrupts and the register tunnel (R427, R441) -/

/-- IRQ (R441): a source number forwarded by the peer. -/
def execMlIrq (n : BitVec 11) (s : State) : Host.Outcome State Fault Refusal :=
  s.upd fun b => b.onFrame fun b =>
    let b : Block :=
      if 16 ≤ b.irq.peerFifo.length then b.modIrq fun i => { i with peerOvf := true }
      else b.modIrq fun i => { i with peerFifo := i.peerFifo ++ [n] }
    b.raise 236

/-- Set a bit of a master's ML_TUN_CTL copy. -/
def Block.tunBit (b : Block) (m : Fin 7) (f : Fld) (v : Nat) : Block :=
  b.setTunCtl m (f.put (vget b.tunCtl m) v)

/-- A tunnel access of a master fails: ERR and source 233. -/
def Block.tunFail (b : Block) (m : Fin 7) : Block := (b.tunBit m ML_TUN_CTL_ERR 1).raise 233

/-- A master writes ML_TUN_CTL with GO = 1: ADDR and WR. Ignored while its access is in progress. -/
def Block.tunnelGo (b : Block) (m : Fin 7) (addr : Nat) (write : Bool) : Block :=
  if ML_TUN_CTL_BUSY.get (vget b.tunCtl m) = 1 then b
  else
    let b := (b.tunBit m ML_TUN_CTL_ADDR addr).tunBit m ML_TUN_CTL_WR write.toNat
    if addr % 4 ≠ 0 then b.tunFail m
    else
      let now := b.now
      let b := (b.tunBit m ML_TUN_CTL_BUSY 1).modMl fun l => { l with tunnel := vset l.tunnel m (some now) }
      b.melarSend 0x07 (addr % 2 ^ 22 + (if write then 2 ^ 32 else 0)) (leBytes 4 (vget b.tunData m).toNat)

/-- TUNNEL_ACCESS. -/
def execTunnelAccess (m : Master) (addr : BitVec 22) (write : Bool) (s : State) : Host.Outcome State Fault Refusal :=
  s.upd fun b => b.tunnelGo (Fin.ofNat 7 m.code) addr.toNat write

/-- The access ends: BUSY clears. -/
def Block.tunEnd (b : Block) (m : Fin 7) : Block :=
  (b.tunBit m ML_TUN_CTL_BUSY 0).modMl fun l => { l with tunnel := vset l.tunnel m none }

/-- The master whose tunnel access a response answers: of those that wait for this address and direction, the one
that asked first (R427). -/
def Block.tunnelOf (b : Block) (addr : Nat) (write : Bool) : Option (Fin 7) :=
  let hit := fun (m : Fin 7) =>
    (vget b.ml.tunnel m).isSome && ML_TUN_CTL_ADDR.get (vget b.tunCtl m) = addr &&
      ML_TUN_CTL_WR.get (vget b.tunCtl m) = write.toNat
  ((List.range 7).map (Fin.ofNat 7)).foldl (fun (o : Option (Fin 7)) m =>
    if !hit m then o
    else
      match o with
      | none => some m
      | some k => if (vget b.ml.tunnel m).getD 0 < (vget b.ml.tunnel k).getD 0 then some m else o) none

/-- TUN_RSP: the response to the oldest access in progress with its ARG. -/
def execMlTunRsp (addr : BitVec 22) (write : Bool) (data : Word) (s : State) : Host.Outcome State Fault Refusal :=
  s.upd fun b => b.onFrame fun b =>
    match b.tunnelOf addr.toNat write with
    | none => b
    | some m => if write then b.tunEnd m else (b.tunEnd m).setTunData m data

/-- TUNNEL_TIMEOUT (R427, R30). -/
def execTunnelTimeout (m : Master) (s : State) : Host.Outcome State Fault Refusal :=
  s.upd fun b =>
    let i : Fin 7 := Fin.ofNat 7 m.code
    match vget b.ml.tunnel i with
    | some t => if t + 40 + 1 ≤ b.now then (b.tunEnd i).tunFail i else b
    | none => b

end Sys2Proof.Machine
end

