-- ==== Sys2Proof/Machine/Power.lean ====
section
/-!
DEFINITION. The power unit: reduced mode (01_architecture.md R21, R24 to R28), the hold-up capacitor, the Dyke
sequence, resets, boot, and the Bittern watch (18_power_reset_and_standby.md).
-/

namespace Sys2Proof.Machine


/-! ### Reduced mode (R24 to R28) -/

/-- Writing stops on the surfaces of a disc (R26, R27, R86), until their write-power check. -/
def Block.stopDisc (b : Block) (n : Nat) : Block :=
  let stop := fun (b : Block) (i : Nat) =>
    let s : Fin 4 := Fin.ofNat 4 i
    b.onSurf s fun b =>
      let b := (b.modWp s fun w => { w with stop := true }).cancelPlan s
      if b.store.vol.vstate = 0 then b else b.modPw fun p => { p with await := insertSrc i p.await }
  stop (stop b (2 * n)) (2 * n + 1)

/-- A pass is under way on a surface of the disc. -/
def Block.discBusy (b : Block) (n : Nat) : Bool :=
  (vget b.wp (Fin.ofNat 4 (2 * n))).running.isSome || (vget b.wp (Fin.ofNat 4 (2 * n + 1))).running.isSome

/-- Discs whose passes under way have ended change their speed. -/
def Block.discMoves (b : Block) : Block :=
  b.pw.move.foldl (fun b n =>
    if b.discBusy n then b
    else (b.modPw fun p => { p with move := p.move.filter (· ≠ n) }).spRetarget (Fin.ofNat 2 n)) b

/-- A disc is stopped for a change of speed, and changes it. -/
def Block.discChange (b : Block) (n : Nat) : Block :=
  (((b.stopDisc n).spRcap (Fin.ofNat 2 n)).modPw fun p => { p with move := insertSrc n p.move }).discMoves

/-- The disc in progress of R27 has reached its speed and its write-power checks are complete. -/
def Block.discDone (b : Block) (n : Nat) : Bool :=
  let st := b.spState (Fin.ofNat 2 n)
  !b.pw.move.contains n && !b.pw.await.any (fun s => s / 2 = n) &&
    (b.on (SPn_STAT_LOCK n) || st = 0 || st = 12)

/-- The steps of R26 and R27 that wait: taken at the tick. -/
def Block.discSteps (b : Block) : Block :=
  let b := b.discMoves
  match b.pw.turn with
  | n :: rest =>
    if !b.discDone n then b
    else
      let b := b.modPw fun p => { p with turn := rest }
      match rest with
      | m :: _ => b.discChange m
      | [] => b
  | [] => b

/-- REDUCED_MODE_ENTRY (R24, R26): a disc that has left 4,500 rpm completes its stripes and slows down; another
keeps writing. -/
def execReducedModeEntry (s : State) : Host.Outcome State Fault Refusal :=
  s.upd fun b =>
    if b.on PW_STAT_RMODE then b
    else
      let b := ((b.setFld PW_STAT_RMODE 1).modPw fun p => { p with quiet := false, turn := [], move := [] }).raise 33
      let b := b.async 3 1 0
      (List.range 2).foldl (fun b n =>
        if 4500 < (vget b.spin (Fin.ofNat 2 n)).ref then b.discChange n else b.spRcap (Fin.ofNat 2 n)) b

/-- REDUCED_MODE_EXIT (R24, R27): before the first spindle start it is quiet; otherwise the discs speed up one at a
time, disc 0 first. -/
def execReducedModeExit (s : State) : Host.Outcome State Fault Refusal :=
  s.upd fun b =>
    if !b.on PW_STAT_RMODE then b
    else
      let quiet := b.pw.quiet
      let b := ((b.setFld PW_STAT_RMODE 0).modPw fun p => { p with quiet := false }).raise 34
      if quiet then (b.spRcap 0).spRcap 1
      else
        let b := b.async 3 0 0
        let slow := (List.range 2).filter fun n =>
          b.part.hasSpin n && (vget b.spin (Fin.ofNat 2 n)).ref ≤ 4500 && b.spState (Fin.ofNat 2 n) ≠ 0
        let b := (List.range 2).foldl (fun b n => if slow.contains n then b else b.spRcap (Fin.ofNat 2 n)) b
        let b := b.modPw fun p => { p with turn := slow }
        match b.pw.turn with
        | n :: _ => b.discChange n
        | [] => b

/-! ### Outputs off (R21, R452) -/

/-- Lasers, gates, bridges, coils and steppers off: LD_EN inactive and WGATE clear on every surface, a POWER frame
with MODE 0, passes and calibrations cut, spindles coasting, axes not homed. -/
def Block.outputsOff (b : Block) : Block :=
  let b := (List.range 4).foldl (fun b i =>
    let s : Fin 4 := Fin.ofNat 4 i
    b.onSurf s fun b =>
      let b := ((b.setFld (SEs_LSAFE_LDEN s) 0).setFld (SEs_LSAFE_WGATE s) 0).setFld (SEs_LSAFE_MODE s) 0
      (((b.sendPower s).cutPass s).cancelPlan s).calAbandon s) b
  let b := (List.range 2).foldl (fun b i =>
    let n : Fin 2 := Fin.ofNat 2 i
    b.onSpin n fun b => if b.spState n = 0 ∨ b.spState n = 12 then b else (b.spClear n).spGo n 8 false) b
  (List.range 9).foldl (fun b a => b.onAxis (Fin.ofNat 9 a) fun b =>
    (b.setFld (AXa_STAT_HOMED a) 0).modAxis (Fin.ofNat 9 a) fun x => { x with curOut := 0 }) b

/-- The second row of R452: outputs off, the host interface stops, the partner is left, PT takes only the dump. -/
def Block.powerCut (b : Block) : Block :=
  let b := b.outputsOff
  let b := b.modHq fun h => { h with cmds := h.cmds.map fun c => { c with discard := true } }
  let b := if b.pstate = 0 then b else b.melarSend 0x0B 1 []
  let b := if b.peerRole then b.emit (.pin "PEER_ROLE" false) else b
  let b := (b.modMl fun m => { m with alive := false }).setFld PT_CTL_DYKE 1
  let ws := b.pt.waiting.filter PtDesc.reads
  let b := b.modPt fun p => { p with waiting := p.waiting.filter fun d => !d.reads }
  ws.foldl (fun b d => b.ptEnd d 0x30 0 0) b

/-! ### Reset (R456, R457) -/

/-- What stands of Peat over a reset: flash content and the journal. -/
def Pt.kept (p : Pt) : Pt :=
  { Pt.initial with blocks := p.blocks, data := p.data, meta_ := p.meta_, recs := p.recs, jseq := p.jseq }

/-- What stands of the clip store over a reset: the chunks and journal entries that Peat holds. -/
def Store.kept (t : Store) : Store :=
  { Store.initial with
    chunks := (t.chunks.filter (·.staged)).map fun x => { x with dram := false, seq := 0, res := 0, grp := 0 }
    order := t.order, journal := t.journal, awayRecs := t.awayRecs }

/-- What the state after a reset of a cause takes from before it, but the registers: the clip store and the staging
flash as they stand, firmware slots, the count of
dumps, the pair's journal, persistent telemetry and a tamper condition (R457). -/
def Block.resetUnits (b : Block) (cause : Nat) : Block :=
  let z := Block.initial b.part
  { z with
    store := b.store.kept, pt := b.pt.kept, out := b.out, free := b.free
    hq := { z.hq with fw := b.hq.fw, fwActive := b.hq.fwActive, fwNext := b.hq.fwNext, dumps := b.hq.dumps }
    ml := { z.ml with jEpoch := b.ml.jEpoch, jState := b.ml.jState, jPartner := b.ml.jPartner
                      mirrorMag := b.ml.mirrorMag, roleTick := b.ml.roleTick }
    cal := { z.cal with persist := b.cal.persist }
    cx := { z.cx with conds := b.cx.conds.filter (· = KeyAlarm.code .tamper) }
    pw := { z.pw with quiet := cause = 0 && z.pw.quiet, incomplete := b.pw.incomplete, held := cause = 7 }
    regs := if cause = 0 then z.regs else [] }

/-- A module reset with a cause of PW_RSTCAUSE (R457): every register and every volatile memory at its reset
value, but for what only POR resets; the volume is removed (R328, R330). -/
def Block.moduleReset (b : Block) (cause : Nat) : Block :=
  let b := (List.range 4).foldl (fun b i => (b.cutPass (Fin.ofNat 4 i)).cancelPlan (Fin.ofNat 4 i)) b
  let b := b.modStore Store.settle
  let b := if b.store.vol.vstate = 0 then b else b.unload
  let z := b.resetUnits cause
  if cause = 0 then z
  else
    let z := z.wr PW_RSTCAUSE (b.rd PW_RSTCAUSE)
    let z := (z.putBit PW_RSTCAUSE_CAUSE cause true).wr PW_DYKE_STAT (b.rd PW_DYKE_STAT)
    let z := (z.wr PW_CNT (b.rd PW_CNT)).wr PW_HOLDUP_MEAS (b.rd PW_HOLDUP_MEAS)
    (z.setFld PW_HOLDUP_CAP (b.fld PW_HOLDUP_CAP)).setFld PW_STAT_MEAS_DONE (b.fld PW_STAT_MEAS_DONE)

/-- POR. -/
def execPor (s : State) : Host.Outcome State Fault Refusal := s.upd fun b => b.moduleReset 0

/-- RESET_N: in a Dyke sequence it takes effect at its end. -/
def execResetN (s : State) : Host.Outcome State Fault Refusal :=
  s.upd fun b => if b.pw.dyke.isSome then b.modPw fun p => { p with resetN := true } else b.moduleReset 1

/-- JTAG: the system reset instruction of the TAP. -/
def execJtag (s : State) : Host.Outcome State Fault Refusal := s.upd fun b => b.moduleReset 6

/-- CLOCK_ALARM (R21, R405): outputs off, the key store erases every slot, reset. A Dyke sequence that runs is not
disturbed. -/
def execClockAlarm (s : State) : Host.Outcome State Fault Refusal :=
  s.upd fun b => if b.pw.dyke.isSome then b else (b.outputsOff.keyAlarm .clock).moduleReset 3

/-! ### The Dyke sequence (R451 to R455) -/

/-- Chunks counted in the allowance, oldest first: what a dump holds (R453), as their order of arrival. -/
def Block.dumpList (b : Block) : List Nat := (b.store.versions.filter fun x => x.atDram && b.counted x).map (·.order)

/-- A Dyke sequence starts, to end with a cause; without ARMED only its first two rows run, and the reset. -/
def Block.dykeStart (b : Block) (cause : Nat) : Block :=
  let todo := b.dumpList
  let armed : Bool := b.on PW_STAT_ARMED && b.on PW_CTL_DYKE_EN
  let b := (((b.setFld PW_STAT_DYKE 1).bump PW_CNT_DUMPS 1).raise 32).powerCut
  if armed then b.modPw fun p => { p with dyke := some ⟨cause, true, todo⟩ } else b.moduleReset cause

/-- POWER_FAIL_DETECT. In the Bittern watch there is no sequence (R465). -/
def execPowerFailDetect (s : State) : Host.Outcome State Fault Refusal :=
  s.upd fun b => if b.pw.dyke.isSome || b.pw.asleep then b else b.dykeStart 7

/-- The first `n` erased blocks of a die, by number: its dump reserve (R358). -/
def Block.reserveOf (b : Block) (die n : Nat) : List Nat :=
  (((List.range (3641 - 16)).map fun i => die * 4096 + 16 + i).filter fun k =>
    (b.ptBlock k).mode.isNone && !(b.ptBlock k).retired).take n

/-- The 64 metadata bytes of a unit in a dump page; their places are the model's (notes/assumptions/23.md). -/
def dumpMeta (x : Chunk) : List Byte :=
  packBytes 64 [(0, 16, leVal x.mag), (16, 1, x.ns), (17, 1, x.gen), (18, 2, x.clip), (20, 4, x.frame), (24, 4, x.off),
    (28, 2, x.vlen)]

/-- Program one dump page: eight units on the die and the reserve block whose turn it is. -/
def Block.dumpPage (b : Block) (dies : List Nat) (rsv : List (Nat × List Nat)) (i : Nat) (us : List Chunk) : Block :=
  let die := dies.getD (i % dies.length) 0
  let j := i / dies.length
  match ((rsv.find? fun r => r.1 = die).elim [] (·.2))[j / 192]? with
  | none => b
  | some key =>
    let pad := fun (x : Chunk) => x.data.take 8192 ++ List.replicate (8192 - x.data.length) 0
    let page := ptPage key (j % 192)
    let b := b.modPt fun p =>
      { p with data := p.data.set page ((us.map pad).flatten) [], meta_ := p.meta_.set page ((us.map dumpMeta).flatten) [] }
    b.modPtBlock key fun x => { x with mode := some true, next := j % 192 + 1, pages := j % 192 + 1, closed := true }

/-- Split a list into groups of eight. -/
def eights {α : Type} : Nat → List α → List (List α)
  | 0, _ => []
  | n + 1, l => if l.isEmpty then [] else l.take 8 :: eights n (l.drop 8)

/-- Dump the first `n` chunks of the list (R453, R454): pages spread over the working dies in turn, a DUMP record
for each reserve block used; `whole` marks the last. The chunks are then at level Staging. -/
def Block.dump (b : Block) (todo : List Nat) (n : Nat) (whole : Bool) : Block :=
  let xs := ((todo.take n).filterMap fun o => b.store.versions.find? fun x => x.order = o)
  let dies := (List.range 32).filter fun d => !b.onBit PT_DIE_FAIL_FAIL d
  let rsv := dies.map fun d => (d, b.reserveOf d 3)
  let pages := eights xs.length xs
  let b := pages.zipIdx.foldl (fun b e => b.dumpPage dies rsv e.2 e.1) b
  let used := ((rsv.map (·.2)).flatten).filter fun k => (b.ptBlock k).mode.isSome
  let b := used.zipIdx.foldl (fun b e => b.ptOwn 0x15 e.1 (whole && e.2 + 1 = used.length).toNat []) b
  let mark := fun (x : Chunk) => if (todo.take n).any fun o => o = x.order then { x with staged := true } else x
  b.modStore fun t => { t with chunks := t.chunks.map mark, olds := t.olds.map mark }

/-- DYKE_END (R452): the dump, its records and the journal are programmed; the module is reset. `dur` is the
duration in 10 µs. -/
def execDykeEnd (dur : BitVec 16) (s : State) : Host.Outcome State Fault Refusal :=
  s.upd fun b =>
    match b.pw.dyke with
    | none => b
    | some d =>
      let mib := (8192 * d.todo.length + 1048575) / 1048576
      let b := (b.dump d.todo d.todo.length true).ptStaged
      let b := (b.setFld PW_DYKE_STAT_INC 0).setFld PW_DYKE_STAT_MIB mib
      let b := (b.setFld PW_DYKE_STAT_DUR dur.toNat).modHq fun h => { h with dumps := h.dumps + 1 }
      let again := b.pw.resetN
      let b := b.moduleReset d.cause
      if again then b.putBit PW_RSTCAUSE_CAUSE 1 true else b

/-- The reset of a brown-out (R454): in a Dyke sequence only the first `dumped` chunks count, those that reserve
blocks with a DUMP record hold. -/
def Block.brownOut (b : Block) (dumped : Nat) : Block :=
  match b.pw.dyke with
  | none => b.moduleReset 2
  | some d => ((b.dump d.todo dumped false).modPw fun p => { p with incomplete := true }).moduleReset 2

/-- BROWNOUT (R454 to R456), counted in PW_CNT (R467). -/
def execBrownout (dumped : Nat) (s : State) : Host.Outcome State Fault Refusal :=
  s.upd fun b => (b.bump PW_CNT_BROWNOUT 1).brownOut dumped

/-- WDOG: the Dyke sequence with VIN present, then the reset. -/
def execWdog (s : State) : Host.Outcome State Fault Refusal :=
  s.upd fun b => if b.pw.dyke.isSome then b else b.dykeStart 4

/-- GO of PW_RST (R456, R467): a wrong KEY is ignored. -/
def Block.softReset (b : Block) (key : Nat) (dump : Bool) : Block :=
  if key ≠ 0xA5C3 || b.pw.dyke.isSome then b else if dump then b.dykeStart 5 else b.moduleReset 5

/-- SOFT. -/
def execSoft (key : BitVec 16) (dump : Bool) (s : State) : Host.Outcome State Fault Refusal :=
  s.upd fun b => b.softReset key.toNat dump

/-! ### Hold-up (R448 to R450) -/

/-- The allowance cap in MiB for a capacitance in 0.1 mF and a number of working dies (R449). -/
def holdupCap (c dies : Nat) : Nat :=
  let ok := fun (mib : Nat) => mib ≤ 36 * dies &&
    15 * (12000 * 300 * dies + mib * 1048576) ≤ 9248 * c * 300 * dies
  64 * (((List.range 17).filter fun k => ok (64 * k)).foldl max 0)

/-- HOLDUP_MEASURE (R448, R449): C in 0.1 mF, ESR in mΩ; once after each POR. -/
def execHoldupMeasure (capf esr : BitVec 16) (s : State) : Host.Outcome State Fault Refusal :=
  s.upd fun b =>
    if b.on PW_STAT_MEAS_DONE then b
    else
      let dies := ((List.range 32).filter fun d => !b.onBit PT_DIE_FAIL_FAIL d).length
      let cap := holdupCap capf.toNat dies
      let b := (b.setFld PW_HOLDUP_MEAS_CAPF capf.toNat).setFld PW_HOLDUP_MEAS_ESR esr.toNat
      let b := ((b.setFld PW_HOLDUP_CAP cap).setFld PW_STAT_MEAS_DONE 1).setAllow
      if cap = 0 then b.raise 38 else b

/-- HOLDUP_ARM (R450), where its conditions hold. -/
def execHoldupArm (s : State) : Host.Outcome State Fault Refusal :=
  s.upd fun b =>
    let ok : Bool := b.on PW_STAT_MEAS_DONE && 2400 ≤ b.fld PW_VIN_VHOLD && b.on PW_CTL_DYKE_EN && b.on PW_CTL_BOOST_EN &&
      (List.range 32).all fun d => b.onBit PT_DIE_FAIL_FAIL d || 3 ≤ b.ptErased d
    if b.on PW_STAT_ARMED || !ok then b
    else
      let b := ((b.setFld PW_STAT_ARMED 1).raise 35).setAllow
      if b.fld PW_HOLDUP_ALLOW < b.hq.allow then (b.raise 37).async 16 0 (b.fld PW_HOLDUP_ALLOW) else b

/-- BOOST_FAULT (R450). -/
def execBoostFault (s : State) : Host.Outcome State Fault Refusal :=
  s.upd fun b =>
    if b.on PW_STAT_ARMED then (((b.setFld PW_STAT_BOOST_FLT 1).setFld PW_STAT_ARMED 0).modHq fun h => { h with cover := 0 }).raise 36
    else b

/-- VIN_OVERVOLTAGE (R466). -/
def execVinOvervoltage (s : State) : Host.Outcome State Fault Refusal :=
  s.upd fun b => if b.on PW_STAT_OVV then b else (b.setFld PW_STAT_OVV 1).raise 43

/-! ### Boot (R458) -/

/-- MODULE_BOOT: the release from reset runs to BOOT_DONE. `slotOk` tells which firmware slot verifies, `badDies` the
dies whose parameter page cannot be read (R364), `bad` the damaged pages that recovery meets (R359). -/
def execModuleBoot (slotOk : BitVec 2) (badDies : BitVec 32) (bad : List (Nat × Nat)) (s : State) :
    Host.Outcome State Fault Refusal :=
  s.upd fun b =>
    if b.on PW_STAT_BOOT_DONE then b
    else
      let want := if b.hq.fwNext = 0 then b.hq.fwActive else b.hq.fwNext
      let slot := if slotOk.getLsbD (want - 1) then want else 3 - want
      let b := (b.modHq fun h => { h with fwActive := slot, fwNext := 0 }).modPw fun p => { p with held := false }
      let b := (List.range 32).foldl (fun b d =>
        if badDies.getLsbD d then (b.putBit PT_DIE_FAIL_FAIL d true).raise (1304 + d) else b) b
      let b := b.ptRecover bad
      let b := if b.pw.incomplete then
          (((b.setFld PW_DYKE_STAT_INC 1).modPw fun p => { p with incomplete := false }).raise 41).elogNoCmd 0 0x7F 0
        else b
      let b := if b.cx.conds.contains (KeyAlarm.code .tamper) then b.keyAlarm .tamper else b
      let b := b.setFld ML_EPOCH_EPOCH b.ml.jEpoch
      let b := (b.setFld PW_STAT_BOOT_DONE 1).modHq fun h => { h with booted := true }
      let b := if b.fld PW_RSTCAUSE_CAUSE / 2 = 0 then b else b.raise 42
      b.tryReady

/-! ### The Bittern watch (R308, R460 to R465) -/

/-- STANDBY: the spindles stop and DRAM data goes to Peat; then the command ends and the sleep is asked for. -/
def execStandby (tag : Nat) (s : State) : Host.Outcome State Fault Refusal :=
  s.upd fun b => b.actOn tag 0x13 fun b c =>
    let mask := dwOf c.dws 10 % 2048
    let int := dwOf c.dws 11
    let v := b.store.vol
    if c.step = 1 then
      if b.spinsStopped && !b.store.chunks.any (·.atDram) then
        (b.succeed c 0).modPw fun p => { p with sleep := true }
      else b
    else if mask % 1024 = 0 || (mask % 1024 &&& 0xFF = 0 && int = 0) || (1 ≤ int && int ≤ 3999) then b.failWith c 0x02 0x10
    else if v.clips.any (fun x => x.state = 1) || v.vstate = 1 || v.vstate = 4 ||
        b.hq.cmds.any (fun x => x.tag ≠ tag && x.opc ≠ 0x10) then b.failWith c 0x21 0
    else
      let b := (b.setFld PW_STBY_MASK_MASK (mask % 1024)).setFld PW_STBY_INT_INTERVAL int
      b.spinsStop.toStep c 1

/-- Wake sources that are enabled (R461): bit 10 always is. -/
def Block.wakeMask (b : Block) : Nat := b.fld PW_STBY_MASK_MASK + 1024

/-- The cause of a wake, or of an abandoned sleep, is reported (R463, R464). -/
def Block.wakeUp (b : Block) (cause : Nat) : Block :=
  let b := b.setFld PW_WAKE_CAUSE (b.fld PW_WAKE_CAUSE ||| cause)
  let b := b.modPw fun p => { p with sleep := false, asleep := false, wakes := 0, looks := 0 }
  let b := if 2 ≤ b.fld HQ_LINK_PMSTATE || b.fld HQ_LINK_SPEED = 0 then b.emit (.pin "WAKE#" false) else b
  b.raise 39

/-- SLEEP_ENTRY (R463): with the wake sources that are pending at the sleep request. An enabled one abandons it. -/
def execSleepEntry (pending : BitVec 11) (s : State) : Host.Outcome State Fault Refusal :=
  s.upd fun b =>
    if !b.pw.sleep || b.hq.cmds.any (fun c => c.opc ≠ 0x10) then b
    else
      let hit := pending.toNat &&& b.wakeMask
      if hit ≠ 0 then ((b.bump PW_CNT_ABANDON 1).raise 40).wakeUp hit
      else
        let b := ((b.bump PW_CNT_SLEEPS 1).setFld PW_STAT_PADHOLD 1).setFld PW_STAT_ARMED 0
        let b := b.modHq fun h => { h with cover := 0 }
        b.modPw fun p => { p with sleep := false, asleep := true, wakes := 0, looks := 0 }

/-- WAKE (R46, R464): the wake sources that fired, and the ticks that the standby oscillator counted. -/
def execWake (sources : BitVec 11) (ticks : BitVec 32) (s : State) : Host.Outcome State Fault Refusal :=
  s.upd fun b =>
    let hit := (sources.toNat ||| b.pw.wakes) &&& b.wakeMask
    if !b.pw.asleep || hit = 0 then b
    else
      let b := b.setTick (b.tick + ticks.setWidth 64)
      (b.setFld GLB_TICK_STAT_STBY_ADJ 1).wakeUp hit

/-- STANDBY_LOOK (R461, R462): temperature in °C and relative humidity; a limit, or the number of looks made, is a
wake source. -/
def execStandbyLook (temp : BitVec 8) (hum : BitVec 8) (s : State) : Host.Outcome State Fault Refusal :=
  s.upd fun b =>
    if !b.pw.asleep || b.fld PW_STBY_INT_INTERVAL = 0 then b
    else
      let t := temp.toInt
      let bad : Bool := t < b.sfld PW_SNS_TMIN || b.sfld PW_SNS_TMAX < t || b.fld PW_SNS_HMAX < hum.toNat
      let n := b.pw.looks + 1
      let all_ : Bool := b.fld PW_STBY_TMR_LOOKS ≤ n
      b.modPw fun p => { p with looks := n, wakes := p.wakes ||| (256 * bad.toNat + 512 * all_.toNat) }

/-- PAD_RELEASE (R464). -/
def execPadRelease (s : State) : Host.Outcome State Fault Refusal := s.upd fun b => b.setFld PW_STAT_PADHOLD 0

end Sys2Proof.Machine
end

