-- ==== Sys2Proof/Machine/Sedge.lean ====
section
/-!
DEFINITION. The Sedge links (04_write_path.md R92 to R105): bring-up, upstream frames, faults, management
accesses, powers.
-/

namespace Sys2Proof.Machine

/-- Send an ECHO during bring-up (R95): the link is not up yet. -/
def Block.sendEcho (b : Block) (s : Fin 4) : Block :=
  (b.emit (.sedge s (.echo (vget b.se s).token))).modSe s fun e => { e with token := (e.token + 1) % 65536 }

/-- Bring-up starts (R95). -/
def Block.bringUp (b : Block) (s : Fin 4) : Block :=
  let b := b.wr (SEs_STAT s) (b.rd (SEs_STAT s) &&& ~~~0x13F#32)
  (b.modSe s fun e => { e with bring := some b.now, retrain := none, echoes := 0, age := 0 }).sendEcho s

/-- What setting LINK_EN does (R95). -/
def Block.seEnable (b : Block) (s : Fin 4) : Block :=
  if b.on (SEs_CTL_LINK_EN s) then b else (b.setFld (SEs_CTL_LINK_EN s) 1).bringUp s

/-- SE_LINK_ENABLE (R95). -/
def execSeLinkEnable (s : Fin 4) (st : State) : Host.Outcome State Fault Refusal :=
  st.upd fun b => b.onSurf s fun b => b.seEnable s

/-- What writing RETRAIN does (R95). -/
def Block.seRetrain (b : Block) (s : Fin 4) : Block := if b.on (SEs_CTL_LINK_EN s) then b.bringUp s else b

/-- SE_RETRAIN (R95). -/
def execSeRetrain (s : Fin 4) (st : State) : Host.Outcome State Fault Refusal :=
  st.upd fun b => b.onSurf s fun b => b.seRetrain s

/-- The pickup's ID memory is valid (R104): magic "PLPU" and the CRC over bytes 0 to 123. -/
def idMemOk (m : List Byte) : Bool :=
  m.length = 128 && m.take 4 = [0x50, 0x4C, 0x50, 0x55] && (crc32 (m.take 124)).toNat = valAt m 124 4

/-- SE_LINK_UP (R95, R104): block lock, deskew, the latency of sixteen ECHO exchanges, the ID memory with
its maximum peak power; an invalid ID memory leaves ID_VALID at 0 and the surface not enabled for writing. -/
def execSeLinkUp (s : Fin 4) (latency : BitVec 16) (idMem : List Byte) (st : State) :
    Host.Outcome State Fault Refusal :=
  st.upd fun b => b.onSurf s fun b =>
    let e := vget b.se s
    if e.bring.isNone && e.retrain.isNone then b
    else
      let idOk := idMemOk idMem
      let b := b.modSe s fun e => { e with bring := none, retrain := none, echoes := 16, age := 0, idMem := idMem }
      let b := (b.setFld (SEs_STAT_LANE_LOCK s) 15).setFld (SEs_STAT_ALIGNED s) 1
      let b := (b.setFld (SEs_LAT_LAT s) latency.toNat).setBit (SEs_STAT_ID_VALID s) idOk
      let b := if idOk then b.setFld (SEs_MAXPWR_MAXPWR s) (valAt idMem 58 2) else b
      let b := (b.setFld (SEs_STAT_LINK_UP s) 1).setFld (SEs_STAT_TB_OK s) 1
      let b := (b.sendPower s).raiseSurf s 2
      if idOk then b else (b.modServo s fun v => { v with unavail := true }).raiseSurf s 10

/-- SE_BRINGUP_TIMEOUT (R95): 2 ms (800 ticks) without completion. -/
def execSeBringupTimeout (s : Fin 4) (st : State) : Host.Outcome State Fault Refusal :=
  st.upd fun b => b.onSurf s fun b =>
    match (vget b.se s).bring with
    | none => b
    | some t =>
      if b.now < t + 800 then b
      else
        let b := b.modSe s fun e => { e with bring := none }
        (b.surfDown s 2).raiseSurf s 1

/-- SE_LINK_DOWN (R105): WGATE is cleared, LDEN stays set, retraining starts. -/
def execSeLinkDown (s : Fin 4) (st : State) : Host.Outcome State Fault Refusal :=
  st.upd fun b => b.onSurf s fun b =>
    if !b.on (SEs_STAT_LINK_UP s) then b
    else
      let b := b.wr (SEs_STAT s) (b.rd (SEs_STAT s) &&& ~~~0x13F#32)
      let b := b.setFld (SEs_LSAFE_WGATE s) 0
      (b.modSe s fun e => { e with retrain := some b.now, mgmt := false }).raiseSurf s 1

/-- SE_RETRAIN_FAIL (R105): 40,000 ticks without success; the surface is unavailable for writing. -/
def execSeRetrainFail (s : Fin 4) (st : State) : Host.Outcome State Fault Refusal :=
  st.upd fun b => b.onSurf s fun b =>
    match (vget b.se s).retrain with
    | none => b
    | some t =>
      if b.now < t + 40000 then b
      else (b.modSe s fun e => { e with retrain := none }).surfDown s 2

/-- PU_FAULT (R105, R191, R519): LDEN is cleared and held, and the surface enters safe state, latched. -/
def execPuFault (s : Fin 4) (st : State) : Host.Outcome State Fault Refusal :=
  st.upd fun b => b.onSurf s fun b =>
    if b.on (SFs_INTLK_PUF s) then b
    else
      let b := (b.setFld (SFs_INTLK_PUF s) 1).setFld (SEs_STAT_PU_FAULT s) 1
      let b := (b.applyHolds s).safeState s true
      b.raiseSurf s 3

/-- PU_FAULT_RELEASE (R191): PU_FAULT_n is released; the bits follow it. -/
def execPuFaultRelease (s : Fin 4) (st : State) : Host.Outcome State Fault Refusal :=
  st.upd fun b => b.onSurf s fun b => (b.setFld (SFs_INTLK_PUF s) 0).setFld (SEs_STAT_PU_FAULT s) 0

/-- An upstream frame was valid (R105). -/
def Block.seHeard (b : Block) (s : Fin 4) : Block := b.modSe s fun e => { e with age := 0 }

/-- Writing as the pickup does it (R103): gate on, write-ready mode, a pass under way. -/
def Block.isWriting (b : Block) (s : Fin 4) : Bool :=
  b.on (SEs_LSAFE_WGATE s) && b.fld (SEs_LSAFE_MODE s) = 2 && (vget b.wp s).running.isSome

/-- A beam's reading `v` lies outside the expected power ± TOL % (R105); the expected power while writing is
taken as the beam's PEAK as sent (DEDUCED, log entry 11). -/
def Block.outOfTol (b : Block) (s : Fin 4) (k v : Nat) : Bool :=
  let e := (b.beamPower s k).1
  let d := e * b.fld (SEs_MON_TOL_TOL s)
  v * 100 + d < e * 100 || e * 100 + d < v * 100

/-- The tolerance check of one beam (R105): the third consecutive reading out of tolerance fails the beam. -/
def Block.monBeam (b : Block) (s : Fin 4) (k v : Nat) : Block :=
  let b := b.setFld (SEs_MON_b_MON s k) v
  let bad : Bool := b.isWriting s && b.onBit (SEs_BGATE_BGATE s) k && b.outOfTol s k v
  let run := if bad then ((vget b.se s).monRun[k]?.getD 0) + 1 else 0
  let b := b.modSe s fun e => { e with monRun := e.monRun.setIfInBounds k (if run = 3 then 0 else run) }
  if run = 3 then (b.failBeam s k).raiseSurf s 4 else b

/-- MONITOR (R102, R105, R191): the readings of the 16 beams; one above MAXPWR sets the over-power latch,
clears LDEN and puts the surface into safe state. -/
def execMonitor (s : Fin 4) (mon : Vector (BitVec 16) 16) (st : State) : Host.Outcome State Fault Refusal :=
  st.upd fun b => b.onSurf s fun b =>
    if !b.on (SEs_STAT_LINK_UP s) then b
    else
      let b := b.seHeard s
      let tooHigh := mon.toList.any fun v => b.fld (SEs_MAXPWR_MAXPWR s) < v.toNat
      let b := mon.toList.zipIdx.foldl (fun b e => b.monBeam s e.2 e.1.toNat) b
      if tooHigh then
        let b := (b.setFld (SFs_INTLK_MON s) 1).applyHolds s
        (b.safeState s true).raiseSurf s 4
      else b

/-- STATUS (R102, R105): temperature, fault bits, downstream errors of the interval. -/
def execStatus (s : Fin 4) (temp fault dsErr : BitVec 16) (st : State) : Host.Outcome State Fault Refusal :=
  st.upd fun b => b.onSurf s fun b =>
    if !b.on (SEs_STAT_LINK_UP s) then b
    else
      let b := (b.seHeard s).setFld (SEs_TEMP_TEMP s) temp.toNat
      let b := (b.setFld (SEs_FAULT_FAULT s) fault.toNat).bump (SEs_ERR_DS_ERR s) dsErr.toNat
      if 16 < dsErr.toNat then b.raiseSurf s 11 else b

/-- Finish a management access: the read result, or nothing for a write. -/
def Block.mgmtDone (b : Block) (s : Fin 4) (data : Word) : Block :=
  let b := if b.on (SEs_MGMT_CMD_WR s) then b else b.wr (SEs_MGMT_DATA s) data
  (b.setFld (SEs_MGMT_CMD_BUSY s) 0).modSe s fun e => { e with mgmt := false }

/-- MGMT_RSP (R102, R104): the reply to the MGMT frame in progress. -/
def execMgmtRsp (s : Fin 4) (data : BitVec 32) (st : State) : Host.Outcome State Fault Refusal :=
  st.upd fun b => b.onSurf s fun b =>
    let b := b.seHeard s
    if (vget b.se s).mgmt && b.on (SEs_MGMT_CMD_PORT s) then b.mgmtDone s data else b

/-- MGMT_ACCESS_DONE (R104): the serial access to the ID memory is over. -/
def execMgmtAccessDone (s : Fin 4) (data : BitVec 32) (st : State) : Host.Outcome State Fault Refusal :=
  st.upd fun b => b.onSurf s fun b =>
    if (vget b.se s).mgmt && !b.on (SEs_MGMT_CMD_PORT s) then b.mgmtDone s data else b

/-- ECHO_RSP (R95, R102): an ECHO exchange of bring-up is complete; sixteen are made. -/
def execEchoRsp (s : Fin 4) (token : BitVec 16) (st : State) : Host.Outcome State Fault Refusal :=
  st.upd fun b => b.onSurf s fun b =>
    let b := b.seHeard s
    let e := vget b.se s
    if e.bring.isSome && e.echoes < 16 && (token.toNat + 1) % 65536 = e.token then
      let b := b.modSe s fun e => { e with echoes := e.echoes + 1 }
      if e.echoes + 1 < 16 then b.sendEcho s else b
    else b

/-- NOTWRITTEN (R102, R103, R107): a cell of the pass under way, or of a pass whose stripes wait for Heron,
was not written and is bad. -/
def execNotwritten (s : Fin 4) (pass : BitVec 16) (slot : BitVec 8) (beam : Fin 16) (st : State) :
    Host.Outcome State Fault Refusal :=
  st.upd fun b => b.onSurf s fun b =>
    let b := b.seHeard s
    let w := vget b.wp s
    let here := fun (p : Pass) => p.num = pass.toNat
    if w.running.any here then
      b.modWp s fun w => { w with running := w.running.map fun p => { p with missed := p.missed ++ [(slot.toNat, beam.val)] } }
    else
      match w.stripes.find? fun t => t.pass = pass.toNat && !t.void &&
          cellSlot (bandSlots t.band) t.stripe beam = slot.toNat with
      | none => b
      | some t =>
        if w.jobs.any fun j => j.wseq = t.wseq && j.beam = beam.val then
          (b.modWp s fun w =>
            { w with jobs := w.jobs.filter fun j => !(j.wseq = t.wseq && j.beam = beam.val) }).cellBad s t.wseq beam
        else b

/-- UPSTREAM_FRAME_DISCARD (R94): counted; it is no valid frame. -/
def execUpstreamFrameDiscard (s : Fin 4) (st : State) : Host.Outcome State Fault Refusal :=
  st.upd fun b => b.onSurf s fun b => b.bump (SEs_ERR_US_ERR s) 1

/-- MGMT_ACCESS (R104): GO starts the access that the register describes; while one is in progress a GO
starts none. -/
def execMgmtAccess (s : Fin 4) (addr : BitVec 16) (frame write : Bool) (data : BitVec 32) (st : State) :
    Host.Outcome State Fault Refusal :=
  st.upd fun b => b.onSurf s fun b =>
    if b.on (SEs_MGMT_CMD_BUSY s) then b
    else
      let b := (b.setFld (SEs_MGMT_CMD_ADDR s) addr.toNat).setBit (SEs_MGMT_CMD_PORT s) frame
      let b := b.setBit (SEs_MGMT_CMD_WR s) write
      let b := if write then b.wr (SEs_MGMT_DATA s) data else b
      let b := (b.setFld (SEs_MGMT_CMD_BUSY s) 1).modSe s fun e => { e with mgmt := true }
      if frame then b.sedge s (.mgmt write (addr.toNat % 2 ^ 15) data) else b.emit (.idMem s addr.toNat write data)

/-- SET_BEAM_POWER (R118): peak and bias, or the read power, of a beam; sent in the next POWER frame. -/
def execSetBeamPower (s : Fin 4) (beam : Fin 16) (read : Bool) (peak bias : BitVec 16) (st : State) :
    Host.Outcome State Fault Refusal :=
  st.upd fun b => b.onSurf s fun b =>
    let b := if read then b.setFld (SEs_BRD_b_READ s beam) peak.toNat
      else (b.setFld (SEs_BPWR_b_PEAK s beam) peak.toNat).setFld (SEs_BPWR_b_BIAS s beam) bias.toNat
    let b := b.modSe s fun e => { e with powerDue := true }
    if read then b else b.calPowerWrite s

/-- LATCH_RELEASE (R519). -/
def execLatchRelease (s : Fin 4) (st : State) : Host.Outcome State Fault Refusal :=
  st.upd fun b => b.onSurf s fun b => b.setFld (SEs_LSAFE_HLATCH s) 0

end Sys2Proof.Machine
end

