-- ==== Sys2Proof/Machine/ReadChan.lean ====
section
/-!
DEFINITION. The read channel (05_read_channel.md): cells read by the beam channels, the LDPC pool and its
arbiter, stripes and their retry ladder.
-/

namespace Sys2Proof.Machine

def Block.modRc (b : Block) (f : Rc → Rc) : Block := { b with rc := f b.rc }
def Block.modBeam (b : Block) (n : Fin 64) (f : Beam → Beam) : Block :=
  b.modRc fun r => { r with beams := vmod r.beams n f }

/-- Surface of a beam channel. -/
def beamSurf (n : Fin 64) : Fin 4 := Fin.ofNat 4 (n.val / 16)

/-! ### Sync and resync (R136 to R138) -/

/-- Whether candidate `c` is preferred to `d`: nearer, then of lower Hamming distance, then earlier (R137). -/
def nearer (c d : Int × Nat) : Bool :=
  c.1.natAbs < d.1.natAbs || (c.1.natAbs = d.1.natAbs && (c.2 < d.2 || (c.2 = d.2 && c.1 < d.1)))

/-- The candidate that the decision takes. -/
def bestCand : List (Int × Nat) → Option (Int × Nat)
  | [] => none
  | c :: t => match bestCand t with
    | none => some c
    | some d => if nearer d c then some d else some c

/-- Channel bits `lo` to `hi - 1` overlap a span. -/
def touches (spans : List (Nat × Nat)) (lo hi : Int) : Bool :=
  spans.any fun s => (s.1 : Int) < hi && lo < (s.2 : Int)

/-- Candidates of the sync mark (R137): within the window, within the Hamming limit, outside flagged spans. -/
def syncCands (cands : List (Int × Nat)) (win hd : Nat) (spans : List (Nat × Nat)) : List (Int × Nat) :=
  cands.filter fun c => c.1.natAbs ≤ win && c.2 ≤ hd && !touches spans (240 + c.1) (288 + c.1)

/-- Candidates of a resync mark (R138). -/
def markCands (cands : List (Int × Nat)) (win hd : Nat) : List (Int × Nat) :=
  cands.filter fun c => c.1.natAbs ≤ win && c.2 ≤ hd

/-! ### Erasures (R133 to R135) -/

/-- First channel bit and length of data segment `m` (R61). -/
def segStart (m : Nat) : Nat := 288 + 4096 * m
def segLen (m : Nat) : Nat := if m < 27 then 4071 else 675

/-- Code pairs of segment `m` touched by the span [u, v), its lookahead pair included, from pair `from_` on:
how many, and the first pair after them (R134). Pair j holds channel bits 3j to 3j + 2 of the segment. -/
def segTouched (m u v from_ : Nat) : Nat × Nat :=
  let a := segStart m
  let n := segLen m / 3
  if v ≤ a ∨ a + segLen m ≤ u then (0, from_)
  else
    let lo := if u ≤ a + 5 then 0 else (u - a - 3) / 3
    let hi := min n ((v - 1 - a) / 3 + 1)
    let lo := max lo from_
    if hi ≤ lo then (0, from_) else (hi - lo, hi)

/-- Erased codeword bits of segment `m`: two per touched pair. -/
def segErased (spans : List (Nat × Nat)) (m : Nat) : Nat :=
  2 * (spans.foldl (fun (acc : Nat × Nat) s =>
    let t := segTouched m s.1 s.2 acc.2
    (acc.1 + t.1, t.2)) (0, 0)).1

/-- Erased codeword bits of a cell. -/
def erasedBits (spans : List (Nat × Nat)) : Nat :=
  (List.range 28).foldl (fun a m => a + segErased spans m) 0

/-- Length of a span. -/
def spanLen (s : Nat × Nat) : Nat := s.2 - s.1

/-! ### The pool (R140 to R142) -/

/-- Engine `e` is neither faulty nor switched off (R142). -/
def Block.engOk (b : Block) (e : Nat) : Bool := !b.onBit RC_ENG_FAULT_FAULT e && !b.onBit RC_ENG_OFF_OFF e

/-- Engines in service. -/
def Block.avail (b : Block) : Nat := ((List.range 20).filter b.engOk).length

/-- Engines that decode jobs of a class: 0 verify, 1 read and re-read, 2 retry. -/
def jobClass : EngJob → Nat
  | .verify _ _ _ => 0
  | .rc j => if j.kind ≤ 2 then 1 else 2

def Block.busyOn (b : Block) (c : Nat) : Nat :=
  (b.rc.engines.toList.filter fun o => o.map jobClass = some c).length

/-- The verify job with the earliest deadline that waits: its surface, stripe, beam, deadline (R141). -/
def Block.nextVerify (b : Block) : Option (Nat × Nat × Nat × Nat) :=
  (List.range 4).foldl (fun acc s =>
    (vget b.wp (Fin.ofNat 4 s)).jobs.foldl (fun acc j =>
      if j.taken then acc
      else match acc with
        | none => some (s, j.wseq, j.beam, j.deadline)
        | some x => if j.deadline < x.2.2.2 then some (s, j.wseq, j.beam, j.deadline) else acc) acc) none

/-- The read or re-read job with the earliest deadline. -/
def nextRead (jobs : List RcJob) : Option RcJob :=
  jobs.foldl (fun acc j =>
    if 2 < j.kind then acc
    else match acc with
      | none => some j
      | some x => if j.deadline < x.deadline then some j else acc) none

/-- The oldest retry job. -/
def nextRetry (jobs : List RcJob) : Option RcJob := jobs.find? fun j => 2 < j.kind

/-- What the arbiter gives a free engine (R141, R142). -/
def Block.arbiter (b : Block) : Option EngJob :=
  let a := b.avail
  let vmin := min (b.fld RC_SPLIT_VMIN) a
  let rmin := min (b.fld RC_SPLIT_RMIN) (a - vmin)
  let v := b.nextVerify
  let r := nextRead b.rc.jobs
  let vj := v.map fun x => EngJob.verify x.1 x.2.1 x.2.2.1
  let rj := r.map EngJob.rc
  if v.isSome && b.busyOn 0 < vmin then vj
  else if r.isSome && b.busyOn 1 < rmin then rj
  else
    match v, r with
    | some x, some y => if x.2.2.2 ≤ y.deadline then vj else rj
    | some _, none => vj
    | none, some _ => rj
    | none, none =>
      if b.busyOn 2 < b.fld RC_SPLIT_RETRYMAX then (nextRetry b.rc.jobs).map EngJob.rc else none

/-- Engine `e` takes a job. -/
def Block.giveJob (b : Block) (e : Nat) (j : EngJob) : Block :=
  let b := b.modRc fun r => { r with engines := vset r.engines (Fin.ofNat 20 e) (some j) }
  match j with
  | .verify s q k => b.modWp (Fin.ofNat 4 s) fun w =>
      { w with jobs := w.jobs.map fun (v : VerifyJob) => if v.wseq = q && v.beam = k then { v with taken := true } else v }
  | .rc j => b.modRc fun r => { r with jobs := r.jobs.filter (· ≠ j) }

/-- The busy counts of RC_STAT (R141). -/
def Block.rcStat (b : Block) : Block :=
  let b := (b.setFld RC_STAT_AVAIL b.avail).setFld RC_STAT_BUSY_V (b.busyOn 0)
  (b.setFld RC_STAT_BUSY_R (b.busyOn 1)).setFld RC_STAT_BUSY_T (b.busyOn 2)

/-- Every free engine in service is given its job, in engine-number order (R141); none with RC_CTL.EN = 0. -/
def Block.assign (b : Block) : Block :=
  let b := (List.range 20).foldl (fun b e =>
    if b.on RC_CTL_EN && b.engOk e && (vget b.rc.engines (Fin.ofNat 20 e)).isNone then
      match b.arbiter with
      | none => b
      | some j => b.giveJob e j
    else b) b
  b.rcStat

/-- Queue a job (R140): with the settings in force now (R153). -/
def Block.queueJob (b : Block) (kind surf band swath stripe beam shift : Nat) : Block :=
  let limit := if kind ≤ 2 then b.fld RC_CTL_RD_ITER else if kind = 3 then b.fld RC_CTL_EXT_ITER else b.fld RC_CTL_ALIGN_ITER
  let dl := b.now + 2 * b.revTicks (Fin.ofNat 4 surf)
  b.modRc fun r =>
    { r with order := r.order + 1
             jobs := r.jobs ++ [⟨kind, surf, band, swath, stripe, beam, limit, dl, r.order, shift⟩] }

/-! ### Stripes in the read buffer -/

/-- The stripe at a place. -/
def RdStripe.at (t : RdStripe) (surf band swath stripe : Nat) : Bool :=
  t.surf = surf && t.band = band && t.swath = swath && t.stripe = stripe

/-- Beams recorded as failed: data positions are known fill cells (good), parity positions failed (R147). -/
def freshCells (failed : List Nat) : Vector CellSt 16 :=
  Vector.ofFn fun (k : Fin 16) =>
    if failed.contains k.val then (if k.val < 13 then .good else .failed 6) else .unread

/-- Beams recorded as failed for a band (R112). -/
def Block.bandFails (b : Block) (s : Fin 4) (band : Nat) : List Nat :=
  (List.range 16).filter fun k => ((vget b.wp s).bandFail.get band 0).testBit k

/-- The stripe is in the read buffer; a new one is made where it is not. -/
def Block.ensureStripe (b : Block) (s : Fin 4) (band swath stripe : Nat) : Block :=
  if b.rc.stripes.any fun t => t.at s band swath stripe then b
  else b.modRc fun r =>
    { r with stripes := r.stripes ++
        [⟨s, band, swath, stripe, freshCells (b.bandFails s band), [], [], 0⟩] }

def Block.modRd (b : Block) (surf band swath stripe : Nat) (f : RdStripe → RdStripe) : Block :=
  b.modRc fun r => { r with stripes := r.stripes.map fun t => if t.at surf band swath stripe then f t else t }

/-- Set the state of one cell. -/
def RdStripe.setCell (t : RdStripe) (k : Nat) (c : CellSt) : RdStripe :=
  { t with cells := vset t.cells (Fin.ofNat 16 k) c }

/-- A cell stays failed to the end (R149): counted, surface offset 14, its place kept for the error log. -/
def Block.unrecover (b : Block) (t : RdStripe) (k : Nat) : Block :=
  let slot := cellSlot (bandSlots t.band) t.stripe k
  let b := b.modRd t.surf t.band t.swath t.stripe fun t => t.setCell k .unrecovered
  let b := b.modRc fun r => { r with unrec := r.unrec ++ [(t.surf, t.band, t.swath, k, slot)] }
  (b.bump RC_CNT_UNREC_COUNT 1).raiseSurf (Fin.ofNat 4 t.surf) 14

/-- The next step of a failed cell beyond step `step` (R148): 3 the extended decode, 4 the alignments, 5 a
re-read pass, 6 unrecovered. A cell failed under R135 skips step 3. -/
def Block.climb (b : Block) (t : RdStripe) (k step : Nat) : Block :=
  let set := fun (b : Block) (c : CellSt) => b.modRd t.surf t.band t.swath t.stripe fun t => t.setCell k c
  if step < 3 && !t.prechk.contains k then
    set (b.queueJob 3 t.surf t.band t.swath t.stripe k 0) .queued
  else if step < 4 && t.fly.contains k && b.fld RC_CTL_ALIGN_MAX ≠ 0 then
    set (b.queueJob 4 t.surf t.band t.swath t.stripe k 0) .queued
  else if t.rereads < b.fld RC_CTL_REREAD then set b (.failed 5)
  else b.unrecover t k

/-! ### Cells read -/

/-- Effects of a counter that saturates (R152). -/
def Block.bumpBeam (b : Block) (n : Fin 64) (f : Fld) (k : Nat) : Block :=
  let was := b.fld f
  let b := b.bump f k
  if was < f.top ∧ f.top ≤ was + k then b.raise (256 + 12 * n.val + 11) else b

/-- Count occurrences of the windowed events (R152): `i` 0 to 3 for the offsets 3, 4, 5 and 10. -/
def Block.windowEvent (b : Block) (n : Fin 64) (i : Fin 4) (k : Nat) : Block :=
  let thr := b.fld (BMnn_EVT_THR_THR n)
  let was := vget (vget b.rc.beams n).winCnt i
  let b := b.modBeam n fun m => { m with winCnt := vset m.winCnt i (was + k) }
  if thr ≠ 0 ∧ was < thr ∧ thr ≤ was + k then
    b.raise (256 + 12 * n.val + [3, 4, 5, 10].getD i 3)
  else b

/-- The windows of 1,024 cells (R152). -/
def Block.windowCell (b : Block) (n : Fin 64) : Block :=
  b.modBeam n fun m =>
    if 1023 ≤ m.winCells then { m with winCells := 0, winCnt := Vector.replicate 4 0 }
    else { m with winCells := m.winCells + 1 }

/-- Sum of a list. -/
def sumList (l : List Nat) : Nat := l.foldl (· + ·) 0

/-- A figure crosses its threshold from the passing side (R151, R476). -/
def Block.figure (b : Block) (f : Fld) (v thr src : Nat) : Block :=
  let was := b.fld f
  let b := b.setFld f (min v f.top)
  if was ≤ thr ∧ thr < v then b.raise src else b

/-- The session's start values (R126, R129, R130, R153). -/
def Block.beamPreset (b : Block) (n : Fin 64) : Block :=
  let b := (b.setFld (BMnn_LOOP_VAL_VGA n) (b.fld (BMnn_PRESET_VGA n))).setFld (BMnn_LOOP_VAL_ASYM n)
    (b.fld (BMnn_PRESET_ASYM n))
  let b := b.setFld (BMnn_LOOP_VAL_OFS n) (b.fld (BMnn_PRESET_OFS n))
  let b := (List.range 15).foldl (fun b k => b.setFld (BMnn_EQ_TAP_k_TAP n k) (b.fld (BMnn_EQ_INIT_k_TAP n k))) b
  let t := b.rd (BMnn_EQ_TGT n)
  b.modBeam n fun m => { m with restart := false, tgt := if t &&& 0xFFFFF#32 = 0 then m.tgt else t }

/-- Where the soft values of a cell go (R106, R119, R135): a read job or a failed cell; in verify mode a cell
with too many erasures is bad without decoding. -/
def Block.cellStored (b : Block) (n : Fin 64) (o : CellObs) (verify pre fly : Bool) : Block :=
  let s := beamSurf n
  let k := n.val % 16
  if verify then
    if !pre then b
    else
      let w := vget b.wp s
      if w.jobs.any fun j => j.wseq = o.wseq && j.beam = k then
        (b.modWp s fun w => { w with jobs := w.jobs.filter fun j => !(j.wseq = o.wseq && j.beam = k) }).cellBad s o.wseq k
      else b.modWp s fun w => { w with running := w.running.map fun p =>
        { p with missed := p.missed ++ [(cellSlot (bandSlots o.band) o.stripe k, k)] } }
  else
    let re := b.rc.stripes.any fun t => t.at s o.band o.swath o.stripe && 0 < t.rereads
    let b := b.ensureStripe s o.band o.swath o.stripe
    let b := b.modRd s o.band o.swath o.stripe fun t =>
      { t with fly := if fly then insertSrc k t.fly else t.fly.filter (· ≠ k)
               prechk := if pre then insertSrc k t.prechk else t.prechk.filter (· ≠ k) }
    if pre then b.modRd s o.band o.swath o.stripe fun t => t.setCell k (.failed 1)
    else
      (b.queueJob (if re then 2 else 1) s o.band o.swath o.stripe k 0).modRd s o.band o.swath o.stripe fun t =>
        t.setCell k .queued

/-- CELL_READ (R119, R124 to R139, R151 to R153, R476): beam channel `n` reads one cell. -/
def execCellRead (n : Fin 64) (o : CellObs) (st : State) : Host.Outcome State Fault Refusal :=
  st.upd fun b => b.onBeam n fun b =>
    let s := beamSurf n
    let k := n.val % 16
    let src := 256 + 12 * n.val
    let verify := (vget b.wp s).verifySpot
    if !b.on (BMnn_CTL_EN n) then b.cellStored n o verify true true
    else
      let m := vget b.rc.beams n
      let fresh : Bool := m.restart || m.session ≠ some o.band
      let b := if fresh then b.beamPreset n else b
      let b := b.setBit (BMnn_STAT_MODE n) verify
      -- lost lock erases from the interval's start to the end of the cell (R128)
      let spans := match o.lostAt with
        | none => o.spans
        | some a => o.spans ++ [(a, 111616)]
      let cs := syncCands o.cands (b.fld (BMnn_SYNC_CTL_SYNC_WIN n)) (b.fld (BMnn_SYNC_CTL_SYNC_HD n)) spans
      let flySync := cs.isEmpty
      let ms := o.marks.map fun c => bestCand (markCands c (b.fld (BMnn_SYNC_CTL_RS_WIN n)) (b.fld (BMnn_SYNC_CTL_RS_HD n)))
      let flyMarks := (ms.filter (·.isNone)).length + (27 - ms.length)
      let slips := (ms.filter fun c => match c with | some x => x.1 ≠ 0 | none => false).length
      let erased := erasedBits spans
      let pre : Bool := 7936 < erased
      let units := sumList (spans.map fun x => (spanLen x + 63) / 64)
      let b := b.setBit (BMnn_STAT_FLYWHEEL n) flySync
      let b := (b.setBit (BMnn_STAT_LOCK n) o.lostAt.isNone).setBit (BMnn_STAT_DEFECT n) (!o.spans.isEmpty)
      let b := b.setBit (BMnn_STAT_FROZEN n) (b.on (BMnn_CTL_LFRZ n))
      let b := b.bumpBeam n (BMnn_CNT_CELLS_COUNT n) 1
      let b := b.bumpBeam n (BMnn_CNT_SYNC_FLYWHEEL n) flySync.toNat
      let b := b.bumpBeam n (BMnn_CNT_SYNC_MULTI n) (decide (2 ≤ cs.length)).toNat
      let b := b.bumpBeam n (BMnn_CNT_RSYNC_SLIP n) slips
      let b := b.bumpBeam n (BMnn_CNT_RSYNC_FLYWHEEL n) flyMarks
      let b := b.bumpBeam n (BMnn_CNT_DEF_UNITS n) units
      let b := if o.loopLimit then b.raise (src + 1) else b
      let b := if o.lostAt.isSome then b.raise (src + 2) else b
      let b := if spans.any fun x => 111616 < spanLen x then b.raise (src + 6) else b
      let b := if o.tapLimit then b.raise (src + 7) else b
      let b := b.windowEvent n 0 flySync.toNat
      let b := b.windowEvent n 1 (decide (2 ≤ cs.length)).toNat
      let b := b.windowEvent n 2 slips
      let b := if pre then (b.bump RC_CNT_PRECHK_COUNT 1).windowEvent n 3 1 else b
      let b := b.windowCell n
      -- loop values at the end of the cell; frozen loops hold (R125, R126)
      let b := if b.on (BMnn_CTL_LFRZ n) then b
        else
          let b := (b.setFld (BMnn_LOOP_VAL_VGA n) o.vga).setFld (BMnn_LOOP_VAL_ASYM n) o.asym
          let b := b.setFld (BMnn_LOOP_VAL_OFS n) o.ofs
          if b.on (BMnn_CTL_ADAPT n) then
            (o.taps.zipIdx).foldl (fun b e => if e.2 < 15 then b.setFld (BMnn_EQ_TAP_k_TAP n e.2) e.1 else b) b
          else b
      let b := (b.setFld (BMnn_TR_STAT_FREQ n) o.freq).setFld (BMnn_TR_STAT_PHASE n) o.phase
      let mse := (o.mse :: m.mse).take 64
      let b := b.modBeam n fun m =>
        { m with session := some o.band, mse := mse, locked := o.lostAt.isNone
                 last := some (o.swath, cellSlot (bandSlots o.band) o.stripe k) }
      let b := b.figure (BMnn_Q_MSE_MSE n) (sumList mse / mse.length) (b.fld CAL_QTHR_MSE_THR) (src + 8)
      let eye0 := vget b.cal.eye n
      let thr := b.fld CAL_STHR_EYE_THR
      let b := b.modCal fun c => { c with eye := vset c.eye n o.eye }
      let b := if o.eye < thr ∧ thr ≤ eye0 then b.raiseSurf s 34 else b
      (b.cellStored n o verify pre (flySync || flyMarks ≠ 0)).assign

/-- BM_RESTART (R126): the next cell starts from the presets. -/
def execBmRestart (n : Fin 64) (st : State) : Host.Outcome State Fault Refusal :=
  st.upd fun b => b.onBeam n fun b => b.modBeam n fun m => { m with restart := true }

/-- A read cell is good (R146): its header is right for the place read. -/
def headerGood (j : RcJob) (h : List Byte) : Bool :=
  hdrCrcOk h && ctypeOk (hdrCtype h) && hdrBand h = j.band && hdrSwath h = j.swath && hdrBeam h = j.beam &&
    hdrSlot h = cellSlot (bandSlots j.band) j.stripe j.beam

/-- A decode of the pool that is not verify ends (R146, R148). -/
def Block.rcDone (b : Block) (j : RcJob) (r : DecodeRes) : Block :=
  let ok := r.iters.isSome && headerGood j r.header
  match b.rc.stripes.find? fun t => t.at j.surf j.band j.swath j.stripe with
  | none => b
  | some t =>
    if ok then b.modRd j.surf j.band j.swath j.stripe fun t => t.setCell j.beam .good
    else if j.kind ≤ 2 then
      (b.bump RC_CNT_FAIL_COUNT 1).modRd j.surf j.band j.swath j.stripe fun t => t.setCell j.beam (.failed 1)
    else if j.kind = 3 then b.climb t j.beam 3
    else if j.shift + 1 < 2 * b.fld RC_CTL_ALIGN_MAX then
      b.queueJob 4 j.surf j.band j.swath j.stripe j.beam (j.shift + 1)
    else b.climb t j.beam 4

/-- DECODE_JOB_DONE (R140, R146, R151): engine `e` ends a decode and is given its next job. -/
def execDecodeJobDone (e : Fin 20) (r : DecodeRes) (st : State) : Host.Outcome State Fault Refusal :=
  st.upd fun b =>
    match vget b.rc.engines e with
    | none => b
    | some job =>
      let b := b.modRc fun x => { x with engines := vset x.engines e none }
      let b := b.bump RC_CNT_DEC_COUNT 1
      let (n, limit, first) : Nat × Nat × Bool := match job with
        | .verify s _ k => (16 * s + k, b.fld WP_VFY_CTL_ITER, true)
        | .rc j => (16 * j.surf + j.beam, j.limit, j.kind ≤ 2)
      let n : Fin 64 := Fin.ofNat 64 n
      let m := vget b.rc.beams n
      let corr := (r.corrected :: m.corr).take 64
      let iters := if first then (r.iters.getD limit :: m.iters).take 64 else m.iters
      let b := b.modBeam n fun m => { m with corr := corr, iters := iters }
      let b := b.figure (BMnn_Q_BER_CORR n) (sumList corr) (b.fld CAL_QTHR_BER_THR) (256 + 12 * n.val + 9)
      let b := b.setFld (BMnn_Q_ITER_ITER n) (if iters.isEmpty then 0 else sumList iters * 256 / iters.length)
      let b := match job with
        | .verify _ _ _ => b
        | .rc j => b.rcDone j r
      b.assign

/-- Every cell of a stripe is good or failed (R147). -/
def RdStripe.resolved (t : RdStripe) : Bool :=
  t.cells.toList.all fun c => match c with
    | .good => true
    | .failed _ => true
    | .unrecovered => true
    | .unread => false
    | .queued => false

/-- Beams whose cells are not good. -/
def RdStripe.failedCells (t : RdStripe) : List Nat :=
  (List.range 16).filter fun k => vget t.cells (Fin.ofNat 16 k) ≠ .good

/-- The stripe is rebuilt (R147): counted where a cell was rebuilt; it leaves the ladder and the buffer. -/
def Block.rebuilt (b : Block) (t : RdStripe) (any : Bool) : Block :=
  let b := if any then b.bump RC_CNT_REBUILD_COUNT 1 else b
  b.modRc fun r => { r with stripes := r.stripes.filter fun x => !x.at t.surf t.band t.swath t.stripe }

/-- STRIPE_REBUILD (R147, R148): the outer-code engine on a resolved stripe; `out` is what its columns show. -/
def execStripeRebuild (s : Fin 4) (band swath : BitVec 16) (stripe : BitVec 8) (out : OuterRes) (st : State) :
    Host.Outcome State Fault Refusal :=
  st.upd fun b =>
    match b.rc.stripes.find? fun t => t.at s band.toNat swath.toNat stripe.toNat with
    | none => b
    | some t =>
      if !t.resolved then b
      else
        let bad := t.failedCells
        let climbAll := fun (b : Block) (t : RdStripe) (ks : List Nat) =>
          (ks.foldl (fun b k =>
            match vget t.cells (Fin.ofNat 16 k) with
            | .unrecovered => b
            | .failed 6 => b.unrecover t k
            | .failed n => b.climb t k (if n = 5 then 4 else 2)
            | .good => b.climb t k 2
            | .unread => b
            | .queued => b) b).assign
        match out with
        | .agrees loc =>
          if 3 < bad.length ∨ (loc.isSome ∧ 1 < bad.length) then climbAll b t bad
          else b.rebuilt t (bad.length ≠ 0 || loc.isSome)
        | .disagrees ks =>
          let ks := (ks.map (·.val)).foldl (fun l k => insertSrc k l) bad
          climbAll b t ks

/-- Stripes of a surface whose failed cells wait for a re-read pass (R148 step 5). -/
def Rc.waiting (r : Rc) (s : Nat) (t : RdStripe) : Bool :=
  r.stripes.contains t && t.surf = s && t.cells.toList.any fun c => c = .failed 5

/-- The POWER entries of a re-read pass: READ × 1.10 in passes 2 and 3 (R148). -/
def Block.reReadPower (b : Block) (s : Fin 4) (pass : Nat) : Block :=
  let m := b.fld (SEs_LSAFE_MODE s)
  let up := fun (k : Nat) =>
    let p := b.beamPower s k
    (p.1, p.2.1, if 2 ≤ pass then p.2.2 * 11 / 10 else p.2.2)
  b.sedge s (.power m ((List.range 16).map up))

/-- RE_READ_PASS (R148): a pass over the stripes of the surface that are still unresolved. -/
def execReReadPass (s : Fin 4) (st : State) : Host.Outcome State Fault Refusal :=
  st.upd fun b => b.onSurf s fun b =>
    let ts := b.rc.stripes.filter (b.rc.waiting s)
    if ts.isEmpty then b
    else
      let pass := ts.foldl (fun m t => max m (t.rereads + 1)) 0
      let b := (b.reReadPower s pass).modSe s fun e => { e with boost := 2 ≤ pass }
      b.modRc fun r =>
        { r with stripes := r.stripes.map fun t =>
            if r.waiting s t then
              { t with rereads := t.rereads + 1
                       cells := t.cells.map fun c => if c = .failed 5 then .unread else c }
            else t }

/-- ENGINE_PARITY_FAULT (R145): the job goes back to the head of its queue, the engine out of service. -/
def execEngineParityFault (e : Fin 20) (st : State) : Host.Outcome State Fault Refusal :=
  st.upd fun b =>
    let job := vget b.rc.engines e
    let b := (b.putBit RC_ENG_FAULT_FAULT e true).modRc fun r => { r with engines := vset r.engines e none }
    let b := match job with
      | none => b
      | some (.verify s q k) => b.modWp (Fin.ofNat 4 s) fun w =>
          { w with jobs := w.jobs.map fun (v : VerifyJob) => if v.wseq = q && v.beam = k then { v with taken := false } else v }
      | some (.rc j) => b.modRc fun r => { r with jobs := j :: r.jobs }
    (b.raise 16).assign

/-- ENGINE_RESTORE (R145): writing 1 to a FAULT bit returns the engine to service. -/
def execEngineRestore (e : Fin 20) (st : State) : Host.Outcome State Fault Refusal :=
  st.upd fun b => (b.putBit RC_ENG_FAULT_FAULT e false).assign

/-- A write to RC_SPLIT (R142). -/
def Block.splitWrite (b : Block) (vmin rmin retry : Nat) : Block :=
  if 20 < vmin + rmin ∨ retry = 0 then (b.setFld RC_STAT_CFG_ERR 1).raise 17
  else
    ((b.setFld RC_SPLIT_VMIN vmin).setFld RC_SPLIT_RMIN rmin).setFld RC_SPLIT_RETRYMAX (min retry 20)

/-- RC_SPLIT_WRITE (R142). -/
def execRcSplitWrite (vmin rmin retry : BitVec 5) (st : State) : Host.Outcome State Fault Refusal :=
  st.upd fun b => (b.splitWrite vmin.toNat rmin.toNat retry.toNat).assign

/-- Read jobs queued on a surface: read and re-read, or retry (RC_Ss_Q). -/
def Block.readQueue (b : Block) (s : Nat) (retry : Bool) : Nat :=
  (b.rc.jobs.filter fun j => j.surf = s && (if retry then 2 < j.kind else j.kind ≤ 2)).length

/-- The read throttle at an angle reference (R144). -/
def Block.readThrottle (b : Block) (s : Fin 4) : Block :=
  let was := b.onBit RC_THROT_RTHROT s
  let n := match (vget b.rc.beams (Fin.ofNat 64 (16 * s.val))).session with
    | some k => bandSlots k
    | none => 30
  let on := throttleNext was (b.readQueue s false) n (b.fld RC_RDWM_HWM) (b.fld RC_RDWM_LWM)
  if on = was then b else (b.putBit RC_THROT_RTHROT s on).raiseSurf s (if on then 12 else 13)

/-- ANGLE_REFERENCE (R82, R84, R101, R108, R144): the pass under way ends, the planned one starts, both
throttles are decided, and after the last pass the read spot is selected. -/
def execAngleReference (s : Fin 4) (st : State) : Host.Outcome State Fault Refusal :=
  st.upd fun b => b.onSurf s fun b =>
    let had := (vget b.wp s).running.isSome
    -- the READ power of a re-read pass returns when the pass ends (R148)
    let b := if (vget b.se s).boost then (b.sendPower s).modSe s fun e => { e with boost := false } else b
    let b := ((b.endPass s).startPass s).verifyThrottle s
    let b := b.readThrottle s
    let w := vget b.wp s
    if had && w.running.isNone && w.planned.isNone then b.selectSpot s false else b

end Sys2Proof.Machine
end

