-- ==== Sys2Proof/Machine/Sluice.lean ====
section
/-!
DEFINITION. Accesses to the buffer memory by command (14_buffer_cache_and_dma.md R370 to R375) and the Sluice DMA
(R386 to R390).
-/

namespace Sys2Proof.Machine

/-! ### Buffer memory -/

/-- What an uncorrectable read does to its requester (R372): a command it was for ends with INTERNAL; for WP, RC
and CX firmware makes an error-log entry without a command. -/
def Block.ueResult (b : Block) (req : Requester) (addr : Nat) (tag : Option Nat) : Block :=
  match req with
  | .wp => b.elogNoCmd 0 0x7F addr
  | .rc => b.elogNoCmd 0 0x7F addr
  | .cx => b.elogNoCmd 0 0x7F addr
  | _ =>
    match tag.bind b.cmd with
    | some c => if c.started && c.fin.isNone then b.finish c.tag (Finish.of 0x7F 0x7F 0) else b
    | none => b

/-- DRAM_ACCESS (R370 to R372): a requester reads `len` bytes at `addr`, or writes `data`; `strike` is a symbol in
which the word is found in error, and `tag` the command that the access is for. Beyond the data space of R368 the
spec states nothing. -/
def execDramAccess (req : Requester) (addr len : Nat) (data : Option (List Byte)) (strike : Option (Fin 65))
    (tag : Option Nat) (s : State) : Host.Outcome State Fault Refusal :=
  if dramSize < addr + max len ((data.map (·.length)).getD 0) then .fault .dramOutside
  else s.upd fun b =>
    let b := match strike with | some n => b.strike (addr / 64) n.val | none => b
    match data with
    | some bytes => b.dramWrite addr bytes
    | none =>
      let (bytes, bad, b) := b.dramRead req addr len
      let b := b.emit (.memData req (if bad then [] else bytes) bad)
      if bad then b.ueResult req addr tag else b

/-- MERGE_FLUSH (R371): the entry of a word has been held for MERGE_TO. -/
def execMergeFlush (word : Nat) (s : State) : Host.Outcome State Fault Refusal :=
  s.upd fun b => match b.dram.entry word with | some e => b.flushEntry e | none => b

/-- CE_LEAK (R374): LEAK ticks since the last leak have passed. -/
def execCeLeak (s : State) : Host.Outcome State Fault Refusal :=
  s.upd fun b =>
    if b.now < b.dram.leakAt + b.dram.leak then b
    else (b.setFld DR_CE_BKT_LEVEL (b.fld DR_CE_BKT_LEVEL - 1)).modDram fun d => { d with leakAt := b.now }

/-- Address of an aperture access (R375): the master's base and the offset in the window. -/
def Block.aperAddr (b : Block) (m : Master) (off : Nat) : Nat :=
  (vget b.aper (Fin.ofNat 7 m.code)).toNat % 2 ^ 14 * 2 ^ 20 + off % 2 ^ 20 / 4 * 4

/-- An access to DRAM address `a` through an aperture: beyond the 14 GiB it raises source 1357, a write is ignored
and a read answers 0 (R375). -/
def Block.aperAccess (b : Block) (m : Master) (a : Nat) (data : Option Word) : Block :=
  if dramSize ≤ a then
    let b := b.raise 1357
    if data.isSome then b else b.answer m 0
  else
    match data with
    | some w => b.dramWrite a (leBytes 4 w.toNat)
    | none =>
      let r := b.dramRead .aperture a 4
      r.2.2.answer m (if r.2.1 then 0xFFFFFFFF#32 else BitVec.ofNat 32 (leVal r.1))

/-- APERTURE_ACCESS (R375): a 32-bit read or write through a master's window. -/
def execApertureAccess (m : Master) (off : BitVec 20) (data : Option Word) (s : State) :
    Host.Outcome State Fault Refusal :=
  s.upd fun b => b.aperAccess m (b.aperAddr m off.toNat) data

/-! ### Channels (R386 to R390) -/

def Block.chanOf (b : Block) (c : Fin 32) : SlChan := vget b.dram.chan c

def Block.modChan (b : Block) (c : Fin 32) (f : SlChan → SlChan) : Block :=
  b.modDram fun d => { d with chan := vmod d.chan c f }

/-- Source and destination address of a channel. -/
def Block.slSrc (b : Block) (c : Nat) : Nat := (b.rd (SLc_SRC_LO c)).toNat + (b.rd (SLc_SRC_HI c)).toNat * 2 ^ 32
def Block.slDst (b : Block) (c : Nat) : Nat := (b.rd (SLc_DST_LO c)).toNat + (b.rd (SLc_DST_HI c)).toNat * 2 ^ 32

/-- Active channels without a mover. -/
def Block.slWaiting (b : Block) : List Nat :=
  (List.range 32).filter fun c => b.on (SLc_STAT_ACTIVE c) && !b.dram.movers.contains c

def Block.slHigh (b : Block) (c : Nat) : Bool := b.on (SLc_CTL_PRI c)

/-- The next of a list of channels after `last`, round-robin. -/
def nextChan (last : Nat) (l : List Nat) : Option Nat :=
  ((List.range 32).map fun i => (last + 1 + i) % 32).find? l.contains

/-- The channel that takes the next free mover (R387). -/
def Block.slNext (b : Block) : Option Nat :=
  let w := b.slWaiting
  match nextChan b.dram.lastHigh (w.filter b.slHigh) with
  | some c => some c
  | none =>
    match b.dram.preempted.find? w.contains with
    | some c => some c
    | none => nextChan b.dram.lastLow (w.filter fun c => !b.slHigh c)

/-- Free movers are taken (R387, R388): a pre-empted channel first writes what its buffer holds. -/
def Block.slGrant (b : Block) : Block :=
  (List.range 4).foldl (fun b _ =>
    if 4 ≤ b.dram.movers.length then b
    else
      match b.slNext with
      | none => b
      | some c =>
        let b := b.modDram fun d =>
          { d with movers := d.movers ++ [c], preempted := d.preempted.filter (· ≠ c)
                   lastHigh := if b.slHigh c then c else d.lastHigh
                   lastLow := if b.slHigh c then d.lastLow else c }
        if b.on (SLc_STAT_PREEMPTED c) then
          (b.setFld (SLc_STAT_PREEMPTED c) 0).modChan (Fin.ofNat 32 c) fun x => { x with drain := true }
        else b) b

/-- The channel gives its mover back and is no longer active. -/
def Block.slRelease (b : Block) (c : Fin 32) : Block :=
  let b := b.setFld (SLc_STAT_ACTIVE c) 0
  (b.modDram fun d =>
    { d with movers := d.movers.filter (· ≠ c.val), preempted := d.preempted.filter (· ≠ c.val) }).slGrant

/-- The transfer is complete (R387). -/
def Block.slFinish (b : Block) (c : Fin 32) : Block :=
  let b := (b.putBit SL_DONE_DONE c true).slRelease c
  if b.onBit SL_IRQ_EN_EN c then b.raise 1368 else b

/-- The channel halts on a bus error at an offset (R389). -/
def Block.slHalt (b : Block) (c : Fin 32) (write : Bool) (off : Nat) : Block :=
  let b := b.modChan c fun x => { x with buf := [], failed := false }
  let b := (b.setBit (SLc_ERR_DIR c) write).setFld (SLc_ERR_OFFSET c) off
  ((b.setFld (SLc_STAT_HALTED c) 1).putBit SL_ERR_ERR c true).slRelease c |>.raise 1369

/-- A read beat fails: the buffered beats are written first. -/
def Block.slReadFail (b : Block) (c : Fin 32) : Block :=
  if (b.chanOf c).buf.isEmpty then b.slHalt c false (b.chanOf c).rd
  else b.modChan c fun x => { x with failed := true }

/-- Host memory can be reached (R386). -/
def Block.hostUp (b : Block) : Bool := b.fld HQ_LINK_SPEED ≠ 0 && b.hq.bme

/-- Write the next beat out of the buffer. -/
def Block.slWrite (b : Block) (c : Fin 32) : Block :=
  let x := b.chanOf c
  let n := min 64 x.buf.length
  let host := b.on (SLc_CTL_DSP c)
  if n = 0 then b
  else if host && !b.hostUp then b.slHalt c true x.wr
  else
    let a := b.slDst c + x.wr
    let b := if host then b.emit (.hostWrite a (x.buf.take n)) else b.dramWrite a (x.buf.take n)
    let b := b.modChan c fun y => { y with wr := y.wr + n, buf := y.buf.drop n }
    let b := b.setFld (SLc_COUNT_COUNT c) (x.total - (x.wr + n))
    let y := b.chanOf c
    if y.buf.isEmpty then
      let b := b.modChan c fun y => { y with drain := false }
      if y.failed then b.slHalt c false y.rd else b
    else b

/-- Read the next beat into the buffer; `data` is what host memory holds there. -/
def Block.slRead (b : Block) (c : Fin 32) (data : List Byte) : Block :=
  let x := b.chanOf c
  let n := min 64 (x.total - x.rd)
  let host := b.on (SLc_CTL_SSP c)
  if n = 0 || x.drain || x.failed || 4096 < x.buf.length + n then b
  else if host && !b.hostUp then b.slReadFail c
  else
    let take := fun (b : Block) (bytes : List Byte) =>
      b.modChan c fun y => { y with rd := y.rd + n, buf := y.buf ++ bytes }
    if host then take b ((data ++ List.replicate (n - data.length) 0).take n)
    else
      let (bytes, bad, b) := b.dramRead .sl (b.slSrc c + x.rd) n
      if bad then b.slReadFail c else take b bytes

/-- A high-priority channel waits and the movers are all taken: the normal channel that has held its mover longest
gives it up at the end of its beat (R388). -/
def Block.slPreempt (b : Block) (c : Fin 32) : Block :=
  let longest := b.dram.movers.find? fun k => !b.slHigh k
  if 4 ≤ b.dram.movers.length && b.slWaiting.any b.slHigh && longest = some c.val then
    let b := (b.setFld (SLc_STAT_PREEMPTED c) 1).bump SL_CNT_PREEMPT_COUNT 1
    let b := b.modDram fun d =>
      { d with movers := d.movers.filter (· ≠ c.val), preempted := d.preempted ++ [c.val] }
    (b.raise 1370).slGrant
  else b

/-- STOP (R390): the buffered beats are written, and the channel stops; with the last beat written it is done. -/
def Block.slStop (b : Block) (c : Fin 32) : Block :=
  if !b.on (SLc_STAT_ACTIVE c) then b
  else
    let b := (List.range 64).foldl (fun b _ => if b.on (SLc_STAT_ACTIVE c) then b.slWrite c else b) b
    if !b.on (SLc_STAT_ACTIVE c) then b
    else
      let b := b.setFld (SLc_STAT_PREEMPTED c) 0
      if b.fld (SLc_COUNT_COUNT c) = 0 then b.slFinish c else b.slRelease c

/-- START with the values in the registers (R386). -/
def Block.slStart (b : Block) (c : Fin 32) : Block :=
  if b.on (SLc_STAT_ACTIVE c) then b.raise 1371
  else
    let n := b.fld (SLc_COUNT_COUNT c)
    let out := fun (host : Bool) (a : Nat) => !host && dramSize < a + n
    if n = 0 || n % 4 ≠ 0 || out (b.on (SLc_CTL_SSP c)) (b.slSrc c) || out (b.on (SLc_CTL_DSP c)) (b.slDst c) then
      (b.setFld (SLc_STAT_CFGERR c) 1).raise 1371
    else
      let b := (b.setFld (SLc_STAT_CFGERR c) 0).setFld (SLc_STAT_ACTIVE c) 1
      (b.modChan c fun _ => ⟨n, 0, 0, [], false, false⟩).slGrant

/-- A write of SLc_CTL: SSP, DSP and PRI are stored, IRQ sets the channel's bit of SL_IRQ_EN too. -/
def Block.slCtl (b : Block) (c : Fin 32) (v : Word) : Block :=
  let b := ((b.setFld (SLc_CTL_SSP c) ((SLc_CTL_SSP c).get v)).setFld (SLc_CTL_DSP c) ((SLc_CTL_DSP c).get v)).setFld
    (SLc_CTL_PRI c) ((SLc_CTL_PRI c).get v)
  let b := b.putBit SL_IRQ_EN_EN c ((SLc_CTL_IRQ c).get v = 1)
  let b := if (SLc_CTL_STOP c).get v = 1 then b.slStop c else b
  if (SLc_CTL_START c).get v = 1 then b.slStart c else b

/-- SL_START: SLc_CTL is written with START = 1 and the SSP, DSP, PRI and IRQ given. -/
def execSlStart (c : Fin 32) (ssp dsp pri irq : Bool) (s : State) : Host.Outcome State Fault Refusal :=
  s.upd fun b => b.slCtl c (BitVec.ofNat 32 (1 + 2 * ssp.toNat + 4 * dsp.toNat + 8 * pri.toNat + 16 * irq.toNat))

/-- SL_STOP: SLc_CTL is written with STOP = 1 and its other fields as they stand. -/
def execSlStop (c : Fin 32) (s : State) : Host.Outcome State Fault Refusal := s.upd fun b => b.slStop c

/-- SL_BEAT: a mover reads a beat (`data` where it comes from host memory), or writes one out (R387, R388). -/
def execSlBeat (c : Fin 32) (write : Bool) (data : List Byte) (s : State) : Host.Outcome State Fault Refusal :=
  s.upd fun b =>
    if !b.dram.movers.contains c.val || !b.on SL_CTL_EN then b
    else
      let b := if write then b.slWrite c else b.slRead c data
      if b.dram.movers.contains c.val then b.slPreempt c else b

/-- SL_DONE: the last write has been taken. -/
def execSlDone (c : Fin 32) (s : State) : Host.Outcome State Fault Refusal :=
  s.upd fun b => if b.on (SLc_STAT_ACTIVE c) && b.fld (SLc_COUNT_COUNT c) = 0 then b.slFinish c else b

/-- SL_BUS_ERROR: the next beat of the channel's mover fails, reading or writing (R389). -/
def execSlBusError (c : Fin 32) (write : Bool) (s : State) : Host.Outcome State Fault Refusal :=
  s.upd fun b =>
    if !b.dram.movers.contains c.val then b
    else if write then b.slHalt c true (b.chanOf c).wr
    else b.slReadFail c

end Sys2Proof.Machine
end

