-- ==== Sys2Proof/Machine/RegCmds.lean ====
section
/-!
DEFINITION. Register accesses by a master (00_scope.md R4 to R6; 20_register_map.md R482 to R491): reading, with the
views that are composed from the state; writing, with the access codes, the ranges of R487 and what a register with a
behaviour of its own does; the accesses of R47, R49, R50, R427, R485, R486 and R517.
-/

namespace Sys2Proof.Machine

/-- What a command does to the block; the queue takes no part. -/
def Block.run (b : Block) (f : State → Host.Outcome State Fault Refusal) : Block :=
  match f { b with pending := [] } with
  | .next s => s.toBlock
  | _ => b

/-- The offset belongs to a unit that the part does not have (R491). -/
def absentAt (p : Part) (o : Nat) : Bool :=
  (0x100000 ≤ o && o < 0x110000 && !p.hasSurf ((o - 0x100000) / 0x4000)) ||
  (0x120000 ≤ o && o < 0x122000 && !p.hasSpin ((o - 0x120000) / 0x1000)) ||
  (0x130000 ≤ o && o < 0x132400 && !p.hasAxis ((o - 0x130000) / 0x400)) ||
  (0x144000 ≤ o && o < 0x154000 && !p.hasSurf ((o - 0x144000) / 0x4000)) ||
  (0x180000 ≤ o && o < 0x1A0000 && !p.hasBeam ((o - 0x180000) / 0x800)) ||
  (0x140020 ≤ o && o < 0x140060 && !p.hasSurf ((o - 0x140020) / 0x10)) ||
  (o = WP_BFAIL_HI && !p.hasBeam 32) ||
  (0x1A0030 ≤ o && o < 0x1A0040 && !p.hasSurf ((o - 0x1A0030) / 4)) ||
  (0x30070 ≤ o && o < 0x30090 && !p.hasSurf ((o - 0x30070) / 4 % 4)) ||
  ((o = LE_PSW_k 2 || o = LE_PSW_k 3 || o = LE_PSW_LOST_k 2 || o = LE_PSW_LOST_k 3) && !p.hasSurf 2)

/-- The DRAM aperture (R375). -/
def inAperture (o : Nat) : Bool := 0x300000 ≤ o && o < 0x400000

/-- An access is recorded in GLB_DECERR where VALID is 0 (R485, R486, R492): KIND 0 unmapped read, 1 unmapped write,
2 partial write. -/
def Block.decErr (b : Block) (m : Master) (kind o : Nat) : Block :=
  if b.on GLB_DECERR_VALID then b
  else b.wr GLB_DECERR (BitVec.ofNat 32 (2 ^ 31 + m.code * 2 ^ 28 + kind * 2 ^ 26 + o % 2 ^ 22))

/-! ### Reading -/

/-- Bits [i] of a word where `f i` holds. -/
def bitsWhere (f : Nat → Bool) : Word :=
  BitVec.ofNat 32 ((List.range 32).foldl (fun n i => if f i then n + 2 ^ i else n) 0)

/-- Some SQ holds an entry that is not fetched for want of a tag (HQ_STAT.TAGWAIT, R259). -/
def Block.tagWait (b : Block) : Bool :=
  4096 ≤ b.hq.cmds.length &&
    (List.range 128).any fun q => b.pairOn q && b.fld (HQ_Pq_SQ_HEAD q) ≠ b.fld (HQ_Pq_SQ_TAIL q)

/-- A word put together from fields. -/
def wordOf (fs : List (Fld × Nat)) : Word := fs.foldl (fun w f => f.1.put w f.2) 0

/-- IC_VSTAT of a vector (R444). -/
def Block.vstat (b : Block) (v : Nat) : Word :=
  let m := vget b.irq.vec (Fin.ofNat 128 v)
  let left := m.timer.elim 0 fun t => t - b.now
  wordOf [(IC_VSTAT_v_EVT v, min m.evt 255), (IC_VSTAT_v_TIMER v, min left 65535), (IC_VSTAT_v_INSVC v, (b.inService v).toNat),
    (IC_VSTAT_v_DUE v, m.due.toNat)]

/-- The value that a register shows: its stored word, or a view of the state. -/
def Block.viewReg (b : Block) (m : Master) (o : Nat) : Word :=
  let s := (o - 0x140020) / 0x10
  let w := vget b.wp (Fin.ofNat 4 s)
  let axis := vget b.axis (Fin.ofNat 9 ((o - 0x130000) / 0x400))
  if o = GLB_TICK_LO then b.tick.setWidth 32
  else if o = GLB_TICK_HI then vget b.tickHi m.idx
  else if o = GLB_TICK_CYC then vget b.tickCyc m.idx
  else if o = MZ_FSYNC_TS_LO then b.fsync.cap.setWidth 32
  else if o = MZ_FSYNC_TS_HI then (b.fsync.hold >>> 32).setWidth 32
  else if 0x130000 ≤ o ∧ o < 0x132400 ∧ o % 0x400 = 0x18 then BitVec.ofInt 32 (axis.p / 65536)
  else if 0x130000 ≤ o ∧ o < 0x132400 ∧ o % 0x400 = 0x1C then BitVec.ofInt 32 axis.v
  else if 0x140020 ≤ o ∧ o < 0x140060 ∧ o % 0x10 = 8 then
    wordOf [(WP_Ss_VQ_RELQ s, min w.pend.length 65535), (WP_Ss_VQ_VQ s, min w.jobs.length 65535)]
  else if 0x140020 ≤ o ∧ o < 0x140060 ∧ o % 0x10 = 12 then
    wordOf [(WP_Ss_WPTR_BAND s, w.band), (WP_Ss_WPTR_SWATH s, w.swath), (WP_Ss_WPTR_STRIPE s, w.stripe)]
  else if 0x1A0030 ≤ o ∧ o < 0x1A0040 then
    let r := (o - 0x1A0030) / 4
    wordOf [(RC_Ss_Q_RQ r, min (b.readQueue r false) 65535), (RC_Ss_Q_TQ r, min (b.readQueue r true) 65535)]
  else if 0x10100 ≤ o ∧ o < 0x101B0 then bitsWhere fun i => b.irq.pend.contains ((o - 0x10100) / 4 * 32 + i)
  else if 0x10200 ≤ o ∧ o < 0x102B0 then bitsWhere fun i => b.irq.act.any fun e => e.1 = (o - 0x10200) / 4 * 32 + i
  else if 0x10C00 ≤ o ∧ o < 0x10E00 then b.vstat ((o - 0x10C00) / 4)
  else if o = DR_MERGE then DR_MERGE_USED.put (b.rd o) b.dram.merge.length
  else if o = DR_APER then vget b.aper m.idx
  else if o = SL_STAT then wordOf [(SL_STAT_MOVERS, b.dram.movers.length)]
  else if 0x1F0100 ≤ o ∧ o < 0x1F0500 ∧ o % 0x20 = 0x14 then
    let c := (o - 0x1F0100) / 0x20
    (SLc_CTL_IRQ c).put (b.rd o) (b.onBit SL_IRQ_EN_EN c).toNat
  else if o = HQ_STAT then
    (HQ_STAT_TAGS.put (HQ_STAT_LOCKWAIT.put (HQ_STAT_TAGWAIT.put (b.rd o) b.tagWait.toNat)
      (b.hq.cmds.any fun c => c.range.isSome && !c.entry).toNat) b.hq.cmds.length)
  else if o = HQ_LOCKS then HQ_LOCKS_USED.put (b.rd o) b.locksUsed
  else if o = MC_VB then
    wordOf [(MC_VB_DIRTY, (b.dram.victim.filter fun l => l.dirty ≠ 0).length), (MC_VB_USED, b.dram.victim.length)]
  else if o = CX_KS_OCC_LO then bitsWhere fun i => (b.slot i).kind ≠ 0
  else if o = CX_KS_OCC_HI then bitsWhere fun i => (b.slot (32 + i)).kind ≠ 0
  else if CX_KS_TYPE_k 0 ≤ o ∧ o < CX_KS_BLOB_k 0 then
    let k := (o - CX_KS_TYPE_k 0) / 4
    wordOf ((List.range 16).map fun j => (CX_KS_TYPE_k_TYPE k j, (b.slot (16 * k + j)).kind))
  else if CX_KS_BLOB_k 0 ≤ o ∧ o ≤ CX_KS_BLOB_k 17 then 0
  else if o = PT_POOL then wordOf [(PT_POOL_FREE_MIN, b.ptPool.1), (PT_POOL_DUMP_MIN, b.ptPool.2)]
  else if o = PT_STAT then PT_STAT_RMODE.put (b.rd o) (b.fld PW_STAT_RMODE)
  else if o = PW_USED then wordOf [(PW_USED_USED, (b.dramCounted + 1048575) / 1048576)]
  else if o = ML_TUN_CTL then vget b.tunCtl m.idx
  else if o = ML_TUN_DATA then vget b.tunData m.idx
  else if o = CAL_QSEL then vget b.qsel m.idx
  else if o = CAL_QVAL then
    wordOf [(CAL_QVAL_EYE, vget b.cal.eye (Fin.ofNat 64 (vget b.qsel m.idx).toNat))]
  else b.rd o

/-- The RC fields of a register are cleared by a read (R4, R517); the beam counters also serve telemetry set 3. -/
def Block.clearRc (b : Block) (r : RegRow) (o : Nat) : Block :=
  let b :=
    if 0x180000 ≤ o ∧ o < 0x1A0000 ∧ 0x100 ≤ o % 0x800 ∧ o % 0x800 ≤ 0x10C then
      let n := (o - 0x180000) / 0x800
      (List.range 4).foldl (fun b i =>
        if (telCounter n i).reg = o then b.telCleared n i (b.fld (telCounter n i)) else b) b
    else b
  if r.rc = 0 then b
  else b.wr o (b.rd o &&& ~~~(BitVec.ofNat 32 r.rc))

/-- A read of GLB_TICK_LO takes the reading master's snapshot (R47). -/
def Block.tickSnapshot (b : Block) (m : Master) : Block :=
  b.setSnap m.idx ((b.tick >>> 32).setWidth 32) (BitVec.ofNat 32 b.cyc)

/-- A read of MZ_FSYNC_TS_LO copies the capture and clears NEW (R49). -/
def Block.fsyncRead (b : Block) : Block :=
  (b.modFsync fun f => { f with hold := f.cap }).setFld MZ_FSYNC_STAT_NEW 0

/-- A register read by a master (R4, R485): what it returns stands in `rdata`. -/
def Block.readReg (b : Block) (m : Master) (o : Nat) : Block :=
  if absentAt b.part o then b.answer m 0
  else if inAperture o then b.run (execApertureAccess m (BitVec.ofNat 20 (o - 0x300000)) none)
  else
    match regRow o with
    | none => (b.decErr m 0 o).answer m 0
    | some r =>
      if IC_CLAIM_t 0 ≤ o ∧ o ≤ IC_CLAIM_t 4 ∧ o % 8 = 0 then b.run (execClaim m (Fin.ofNat 5 ((o - IC_CLAIM_t 0) / 8)))
      else if o = IC_PEER_FIFO then b.run (execPeerFifoRead m)
      else if o = PT_DQ_RSV then
        let (v, b) := b.ptReserveSlot
        b.answer m v
      else
        let v := b.viewReg m o
        let b := if o = GLB_TICK_LO then b.tickSnapshot m else if o = MZ_FSYNC_TS_LO then b.fsyncRead else b
        (b.clearRc r o).answer m v

/-! ### Writing -/

/-- The fields of a register whose stated range is narrower than their width (R487), each with its range, in the
register word about to be stored. -/
def ranges (b : Block) (o : Nat) (v : Word) : List (Fld × Nat × Nat) :=
  let bm := (o - 0x180000) / 0x800
  let sf := (o - 0x100000) / 0x4000
  let sp := (o - 0x120000) / 0x1000
  let ax := (o - 0x130000) / 0x400
  if o = WP_CTL then [(WP_CTL_LEAD, 32, 255)]
  else if o = WP_VFY_CTL then [(WP_VFY_CTL_SYNCHD, 0, 4), (WP_VFY_CTL_ITER, 1, 8)]
  else if o = WP_VFY_WM then [(WP_VFY_WM_HWM, 1, 16), (WP_VFY_WM_LWM, 0, min (WP_VFY_WM_HWM.get v) 16 - 1)]
  else if o = WP_RELOC_CTL then [(WP_RELOC_CTL_MAXTRY, 1, 7)]
  else if 0x180000 ≤ o ∧ o < 0x1A0000 ∧ o % 0x800 = 0xC0 then [(BMnn_DEF_CTL_DEF_MIN bm, 1, 64)]
  else if 0x180000 ≤ o ∧ o < 0x1A0000 ∧ o % 0x800 = 0xC4 then
    [(BMnn_SYNC_CTL_SYNC_WIN bm, 16, 64), (BMnn_SYNC_CTL_RS_WIN bm, 1, 15), (BMnn_SYNC_CTL_SYNC_HD bm, 0, 4),
     (BMnn_SYNC_CTL_RS_HD bm, 0, 3)]
  else if o = RC_CTL then [(RC_CTL_REREAD, 0, 3), (RC_CTL_ALIGN_ITER, 1, 31), (RC_CTL_EXT_ITER, 1, 63), (RC_CTL_RD_ITER, 1, 15)]
  else if o = RC_RDWM then [(RC_RDWM_HWM, 1, 16), (RC_RDWM_LWM, 0, min (RC_RDWM_HWM.get v) 16 - 1)]
  else if 0x100000 ≤ o ∧ o < 0x110000 ∧ 0x10 ≤ o % 0x4000 ∧ o % 0x4000 ≤ 0x18 then
    [(SFs_DAC_LIM_k_LIM sf ((o % 0x4000 - 0x10) / 4), 0, 300)]
  else if 0x120000 ≤ o ∧ o < 0x122000 then
    if o = SPn_SHUNT sp then [(SPn_SHUNT_SMP_DLY sp, 0, (SPn_SHUNT_TMIN sp).get v - 1)]
    else if o = SPn_LIMITS sp then [(SPn_LIMITS_IQ_MAX sp, 0, 150)]
    else if o = SPn_RLOSS sp then [(SPn_RLOSS_RES_N sp, 1, 15), (SPn_RLOSS_RES_LIM sp, 5, 90)]
    else if o = SPn_BRAKE sp then [(SPn_BRAKE_VREL sp, 0, (SPn_BRAKE_VCLAMP sp).get v - 1)]
    else []
  else if 0x130000 ≤ o ∧ o < 0x132400 then
    if o = AXa_CUR ax then
      let run := min ((AXa_CUR_IRUN ax).get v) 120
      [(AXa_CUR_IRUN ax, 0, 120), (AXa_CUR_IHOLD ax, 0, run), (AXa_CUR_IMIN ax, 0, run)]
    else if o = AXa_TIME ax then [(AXa_TIME_SETTLE_T ax, 1, 65535)]
    else if o = AXa_STALL ax then [(AXa_STALL_SN ax, 1, 255)]
    else []
  else if o = PT_Q_SIZE then [(PT_Q_SIZE_SIZE, 1, 4095)]
  else if o = PT_THR then [(PT_THR_WARN, 0, 240), (PT_THR_WCNT, 1, 15)]
  else if o = DR_SCRUB then [(DR_SCRUB_RATE, 1, 255)]
  else if o = DR_CE_BKT then [(DR_CE_BKT_LIMIT, 1, 65535)]
  else if o = DR_CE_LEAK then [(DR_CE_LEAK_LEAK, 1, 2 ^ 24 - 1)]
  else if o = MC_CTL then [(MC_CTL_VB_HWM, 1, 1024)]
  else if o = MC_PAR then [(MC_PAR_LIMIT, 1, 255)]
  else if o = ML_HB then [(ML_HB_HB_TO, 8, 255)]
  else if o = ML_ASYNC then [(ML_ASYNC_MAXLAG, 16, 4096)]
  else if o = PW_DYKE then [(PW_DYKE_FILT, 1, 50), (PW_DYKE_THR, 380, 1500)]
  else if o = PW_HOLDUP then [(PW_HOLDUP_ALLOW, 0, b.fld PW_HOLDUP_CAP)]
  else if o = PW_STBY_INT then (if v = 0 then [] else [(PW_STBY_INT_INTERVAL, 4000, 2 ^ 32 - 1)])
  else if o = PW_STBY_TMR then [(PW_STBY_TMR_LOOKS, 1, 65535)]
  else if o = PW_CMP_k 1 then [(PW_CMP_k_LEVEL 1, 0, 3300)]
  else []

/-- The word with every field of R487 at the nearest value in its range. -/
def clampWord (rs : List (Fld × Nat × Nat)) (v : Word) : Word :=
  rs.foldl (fun v r => r.1.put v (max r.2.1 (min (r.1.get v) r.2.2))) v

/-- The word that a write of `v` leaves in a register (R4): RW and RWH bits store, W1C bits clear where `v` has a 1,
all others stay. -/
def Block.merged (b : Block) (r : RegRow) (o : Nat) (v : Word) : Word :=
  let st := BitVec.ofNat 32 (r.rw ||| r.rwh)
  let v := if o = PW_HOLDUP then v &&& ~~~0x3F#32
    else if o = LE_COEF_CTL ∧ !b.part.hasSurf 2 then v &&& ~~~0x2C#32 else v
  let new := (b.rd o &&& ~~~st) ||| (v &&& st)
  clampWord (ranges b o new) new &&& ~~~(v &&& BitVec.ofNat 32 r.w1c)

/-- Hardware writes to RWH fields in the same cycle are lost (R4, R443): `lost` has their bits. Each field's counter
counts one, and source 7 is raised. -/
def Block.rwhLost (b : Block) (o : Nat) (lost : Word) : Block :=
  let s := (o - 0x144000) / 0x4000
  let hit := fun (hi lo : Nat) => (Fld.mk o hi lo).get lost ≠ 0
  let count := fun (b : Block) (c : Bool) (f : Fld) => if c then (b.bump f 1).raise 7 else b
  if 0x81000 ≤ o ∧ o < 0x81180 ∧ o % 8 = 0 then count b (hit 31 31) LE_OVR_LOST_EN_L
  else if o = LE_OVR_LO then count b (lost ≠ 0) LE_OVR_LOST_LO_L
  else if o = LE_OVR_HI then count (count b (hit 15 0) LE_OVR_LOST_HI_L) (hit 21 16) LE_OVR_LOST_LAST_L
  else if LE_PSW_k 0 ≤ o ∧ o ≤ LE_PSW_k 15 then
    let k := (o - LE_PSW_k 0) / 4
    (List.range 8).foldl (fun b j => count b (hit j j) (LE_PSW_LOST_k_LOST k j)) b
  else if 0x144000 ≤ o ∧ o < 0x154000 then
    if o = SEs_LSAFE s then
      count (count (count (count b (hit 4 4) (SEs_LSAFE_LOST_LDEN_L s)) (hit 3 2) (SEs_LSAFE_LOST_MODE_L s)) (hit 1 1)
        (SEs_LSAFE_LOST_WGATE_L s)) (hit 0 0) (SEs_LSAFE_LOST_LDEN_L s)
    else if o = SEs_BGATE s then count b (hit 15 0) (SEs_LSAFE_LOST_BGATE_L s)
    else b
  else b

/-- Interrupt controller (R431, R434 to R438, R444). -/
def Block.writeIc (b : Block) (o : Nat) (v new : Word) : Block :=
  if o = IC_TGT_CTL then b.run (execTargetDisable (v.setWidth 7))
  else if o = IC_FORCE then (if v.getLsbD 31 then b.raise (IC_FORCE_SRC.get v) else b)
  else if o = IC_HEOI then b.run (execHostEoi (Fin.ofNat 128 v.toNat))
  else if IC_CLAIM_t 0 ≤ o ∧ o ≤ IC_EOI_t 4 then
    if o % 8 = 4 then b.run (execEoi (Fin.ofNat 5 ((o - IC_EOI_t 0) / 8)) (v.setWidth 11)) else b
  else if 0x10100 ≤ o ∧ o < 0x101B0 then b.clearPend fun n => n / 32 = (o - 0x10100) / 4 && v.getLsbD (n % 32)
  else if 0x10440 ≤ o ∧ o < 0x104C0 then b
  else b.wr o new

/-- Power unit (R450, R456, R464). -/
def Block.writePw (b : Block) (o : Nat) (v new : Word) : Block :=
  if o = PW_CTL then
    let b := b.wr o new
    if PW_CTL_PAD_REL.get v = 1 then b.setFld PW_STAT_PADHOLD 0 else b
  else if o = PW_RST then
    if PW_RST_GO.get v = 1 then b.softReset (PW_RST_KEY.get v) (PW_RST_DUMP.get v = 1) else b
  else if o = PW_HOLDUP then b.keepCover.wr o new
  else b.wr o new

/-- Host queues (R252, R253): the admin queue and ARBMODE are writable only while EN is 0. -/
def Block.writeHq (b : Block) (o : Nat) (v new : Word) : Block :=
  let en := b.on HQ_CTL_EN
  if o = HQ_CTL then
    let arb := b.fld HQ_CTL_ARBMODE
    let b' := b.wr o (HQ_CTL_ARBMODE.put (HQ_CTL_EN.put new en.toNat) arb)
    if HQ_CTL_EN.get v = 1 then b'.ctlEnable (if en then arb = 1 else HQ_CTL_ARBMODE.get v = 1)
    else if en then b'.run (execControllerReset .enCleared)
    else b'.setFld HQ_CTL_ARBMODE (HQ_CTL_ARBMODE.get v)
  else if HQ_AQ_SIZE ≤ o ∧ o < HQ_CLASS_W ∧ en then b
  else b.wr o new

/-- Loop engine (R156, R167, R172, R175, R179, R180). -/
def Block.writeLe (b : Block) (o : Nat) (v new : Word) : Block :=
  if o = LE_LOAD then
    let b := b.wr o new
    if LE_LOAD_GO.get v = 0 then b
    else if LE_LOAD_KIND.get v = 1 then b.run execLoadShadowTable
    else if LE_LOAD_KIND.get v = 2 then b.run execLoadDefaultTable
    else if LE_LOAD_KIND.get v = 3 then b.run (execLoadProgram (Fin.ofNat 256 (LE_LOAD_INDEX.get v)))
    else if LE_LOAD_KIND.get v = 4 then b.run execLoadPatch
    else b
  else if o = LE_COEF_CTL then
    let b := b.wr o new
    if LE_COEF_CTL_SWAP.get v = 1 then b.modLe fun l => { l with swap := true } else b
  else if 0x81000 ≤ o ∧ o < 0x81180 then
    b.run (execLiveSlotWrite (Fin.ofNat 48 ((o - 0x81000) / 8)) (o % 8 = 4) v)
  else if inLeMemory o then b.leMemWrite o v
  else if LE_PSW_k 0 ≤ o ∧ o ≤ LE_PSW_k 3 then b.setPsw (Fin.ofNat 4 ((o - LE_PSW_k 0) / 4)) (v.toNat % 256)
  else b.wr o new

/-- Surface front ends (R191). -/
def Block.writeSf (b : Block) (o : Nat) (new : Word) : Block :=
  let s : Fin 4 := Fin.ofNat 4 ((o - 0x100000) / 0x4000)
  let b := b.wr o new
  if o = SFs_INTLK s then b.applyHolds s else b

/-- Spindles (R216, R220, R225 to R228). -/
def Block.writeSp (b : Block) (o : Nat) (new : Word) : Block :=
  let n : Fin 2 := Fin.ofNat 2 ((o - 0x120000) / 0x1000)
  let was := b.on (SPn_CTL_RUN n)
  let b := b.wr o new
  if o = SPn_CTL n then
    let now := b.on (SPn_CTL_RUN n)
    if now && !was then b.spRun n else if was && !now then b.spStop n else b
  else if o = SPn_SPD_SET n then b.spRetarget n
  else if o = SPn_FAULT n then b.spFaultDone n
  else b

/-- Axes (R232, R235, R241, R247). -/
def Block.writeAx (b : Block) (o : Nat) (v new : Word) : Block :=
  let a : Fin 9 := Fin.ofNat 9 ((o - 0x130000) / 0x400)
  if o = AXa_TGT a then b.run (execAxisTarget a v)
  else if o = AXa_REL a then b.run (execAxisRelative a v)
  else if o = AXa_CTL a then
    let en := b.on (AXa_CTL_EN a)
    let halt := b.on (AXa_CTL_HALT a)
    let b := b.wr o new
    let b := if en && !b.on (AXa_CTL_EN a) then b.axDisable a else b
    let b := if b.on (AXa_CTL_HALT a) && !halt then b.axHalt a else b
    if (AXa_CTL_HOME a).get v = 1 then b.homeStart a else b
  else
    let b := b.wr o new
    if o = AXa_FAULT a then b.axFaultDone a else b

/-- Write path and Sedge links (R86, R95, R104, R112, R118, R519). -/
def Block.writeWp (b : Block) (o : Nat) (v new : Word) : Block :=
  if o < 0x144000 then
    let held := b.on WP_CTL_HOLD
    let back := if o = WP_BFAIL_LO then (b.rd o &&& v).toNat else if o = WP_BFAIL_HI then (b.rd o &&& v).toNat * 2 ^ 32 else 0
    let b := b.wr o new
    if o = WP_CTL ∧ !held ∧ b.on WP_CTL_HOLD then
      (List.range 4).foldl (fun b s => b.onSurf (Fin.ofNat 4 s) fun b => b.cancelPlan (Fin.ofNat 4 s)) b
    else if back ≠ 0 then
      -- placement uses the beams again (R112)
      (List.range 4).foldl (fun b i =>
        let s : Fin 4 := Fin.ofNat 4 i
        if back / 2 ^ (16 * i) % 2 ^ 16 = 0 then b
        else (b.modWp s fun w => { w with failed := b.failedBeams s }).bandEntryFor (b.bandNow s) (b.failedMask s)) b
    else b
  else
    let s : Fin 4 := Fin.ofNat 4 ((o - 0x144000) / 0x4000)
    if o = SEs_CTL s then
      let was := b.on (SEs_CTL_LINK_EN s)
      if (SEs_CTL_LINK_EN s).get v = 1 then
        let b := b.seEnable s
        if was && (SEs_CTL_RETRAIN s).get v = 1 then b.seRetrain s else b
      else if was then
        ((b.run (execSeLinkDown s)).setFld (SEs_CTL_LINK_EN s) 0).modSe s fun e => { e with bring := none, retrain := none }
      else b
    else if o = SEs_LSAFE s then
      let mode := b.fld (SEs_LSAFE_MODE s)
      let b := (b.wr o new).applyHolds s
      if b.fld (SEs_LSAFE_MODE s) = mode then b else b.sendPower s
    else if o = SEs_MGMT_CMD s then
      if (SEs_MGMT_CMD_GO s).get v = 1 then
        b.run (execMgmtAccess s (BitVec.ofNat 16 ((SEs_MGMT_CMD_ADDR s).get v)) ((SEs_MGMT_CMD_PORT s).get v = 1)
          ((SEs_MGMT_CMD_WR s).get v = 1) (b.rd (SEs_MGMT_DATA s)))
      else b.wr o new
    else if 0x100 ≤ o % 0x4000 ∧ o % 0x4000 < 0x180 then
      let b := (b.wr o new).modSe s fun e => { e with powerDue := true }
      if o % 8 = 0 then b.calPowerWrite s else b
    else b.wr o new

/-- Read channel (R126, R142, R145). -/
def Block.writeRc (b : Block) (o : Nat) (v new : Word) : Block :=
  if o < 0x1A0000 then
    let n : Fin 64 := Fin.ofNat 64 ((o - 0x180000) / 0x800)
    let b := b.wr o new
    if o = BMnn_CTL n ∧ (BMnn_CTL_RESTART n).get v = 1 then b.run (execBmRestart n) else b
  else if o = RC_SPLIT then (b.splitWrite (RC_SPLIT_VMIN.get v) (RC_SPLIT_RMIN.get v) (RC_SPLIT_RETRYMAX.get v)).assign
  else (b.wr o new).assign

/-- Peat (R349, R350, R353): the ring's base and size stand while it is enabled. -/
def Block.writePt (b : Block) (o : Nat) (new : Word) : Block :=
  if o = PT_DQ_KICK then b.ptKick
  else if o = PT_CTL then
    let b := b.wr o new
    (b.setBit PT_STAT_READY (b.on PT_CTL_EN && !b.on PT_STAT_RECOV && b.on PW_STAT_BOOT_DONE)).ptKick
  else if PT_DQ_BASE_LO ≤ o ∧ o ≤ PT_Q_SIZE ∧ b.on PT_CTL_EN then b
  else if o = PT_CQ_HEAD then (b.wr o new).ptKick
  else b.wr o new

/-- DRAM, map cache and Sluice (R375, R381, R383, R386, R392). -/
def Block.writeDram (b : Block) (m : Master) (o : Nat) (v new : Word) : Block :=
  if o = DR_APER then b.setAper m.idx (v &&& 0x3FFF#32)
  else if o = MC_WIN then b.winWrite v
  else if o = MC_WAY_DIS then b.wayRestore v.toNat
  else if o = MC_OP_CTL then
    if MC_OP_CTL_GO.get v = 1 && b.on MC_OP_STAT_BUSY then b.mcGo
    else
      let b := b.wr o new
      if MC_OP_CTL_GO.get v = 1 then b.mcGo else b
  else if o = SL_CTL then (b.wr o new).slGrant
  else if 0x1F0100 ≤ o ∧ o < 0x1F0500 then
    let c : Fin 32 := Fin.ofNat 32 ((o - 0x1F0100) / 0x20)
    if o = SLc_CTL c then b.slCtl c v
    else if o < SLc_CTL c ∧ b.on (SLc_STAT_ACTIVE c) then b
    else b.wr o new
  else b.wr o new

/-- Cipher (R399 to R406). -/
def Block.writeCx (b : Block) (o : Nat) (v new : Word) : Block :=
  if o % 0x1000 < 0x800 then
    let p : Fin 16 := Fin.ofNat 16 ((o - 0x200000) / 0x1000)
    if o = CXp_CTL p then b.pageWrite p v else b.wr o new
  else if o = CX_CTL then
    let b := b.wr o new
    if CX_CTL_KAT.get v = 1 then b.katAll else b
  else if o = CX_ALARM then
    -- a bit clears only once its condition is gone
    let keep := (if b.cx.conds.contains 3 then 8 else 0) + (if b.cx.conds.contains 2 then 4 else 0) +
      (if b.cx.conds.contains 1 then 2 else 0)
    b.wr o (new ||| (b.rd o &&& BitVec.ofNat 32 keep))
  else if o = CX_PAIR then
    (List.range 4).foldl (fun b n => if v.getLsbD n then b.pairRestore (Fin.ofNat 4 n) else b) b
  else if o = CX_KS_CMD then
    let b := b.wr o new
    if CX_KS_CMD_GO.get v = 1 then b.ksGo else b
  else if CX_KS_BLOB_k 0 ≤ o ∧ o ≤ CX_KS_BLOB_k 17 then b.wr o v
  else b.wr o new

/-- Melar link (R409, R427). -/
def Block.writeMl (b : Block) (m : Master) (o : Nat) (v new : Word) : Block :=
  if o = ML_CTL then
    let was := b.on ML_CTL_EN
    let b := b.wr o new
    if !b.on ML_CTL_EN then (if was then b.mlDisable else b)
    else if !was || ML_CTL_RETRAIN.get v = 1 then b.mlEnable
    else b.mlTimers
  else if o = ML_TUN_CTL then
    let b := if ML_TUN_CTL_ERR.get v = 1 then b.tunBit m.idx ML_TUN_CTL_ERR 0 else b
    if ML_TUN_CTL_BUSY.get (vget b.tunCtl m.idx) = 1 then b
    else if ML_TUN_CTL_GO.get v = 1 then b.tunnelGo m.idx (ML_TUN_CTL_ADDR.get v) (ML_TUN_CTL_WR.get v = 1)
    else (b.tunBit m.idx ML_TUN_CTL_ADDR (ML_TUN_CTL_ADDR.get v)).tunBit m.idx ML_TUN_CTL_WR (ML_TUN_CTL_WR.get v)
  else if o = ML_TUN_DATA then b.setTunData m.idx v
  else b.wr o new

/-- EN of the FSYNC capture goes from 0 to 1 (R50). -/
def Block.fsyncEnable (b : Block) : Block :=
  (((b.wr MZ_FSYNC_CNT 0).setFld MZ_FSYNC_STAT_NEW 0).setFld MZ_FSYNC_STAT_OVF 0).setFld MZ_FSYNC_CTL_EN 1

/-- Magazine interface (R50, R493). -/
def Block.writeMz (b : Block) (o : Nat) (v new : Word) : Block :=
  if o = MZ_FSYNC_CTL then
    let was := b.on MZ_FSYNC_CTL_EN
    let b := b.wr o new
    if !was && b.on MZ_FSYNC_CTL_EN then b.fsyncEnable else b
  else if o = MZ_I2C_CMD then
    let b := b.wr o new
    if MZ_I2C_CMD_GO.get v = 1 then b.i2cGo v else b
  else b.wr o new

/-- A full-width write to a mapped register, by its block (R483). -/
def Block.writeMapped (b : Block) (m : Master) (r : RegRow) (o : Nat) (v : Word) : Block :=
  let new := b.merged r o v
  let blk := o / 65536
  if blk = 1 then b.writeIc o v new
  else if blk = 2 then b.writePw o v new
  else if blk = 3 then
    if o = CAL_QSEL then b.setQsel m.idx (v &&& 63#32) else b.wr o new
  else if blk = 4 then
    if 0x48000 ≤ o ∧ o < 0x49000 ∧ o % 16 = 12 then
      let b := b.wr o new
      if v.getLsbD 0 then b else b.run (execMsixUnmask (Fin.ofNat 128 ((o - 0x48000) / 16)))
    else b.writeHq o v new
  else if 8 ≤ blk ∧ blk ≤ 10 then b.writeLe o v new
  else if blk = 16 then b.writeSf o new
  else if blk = 18 then b.writeSp o new
  else if blk = 19 then (if o < 0x132400 then b.writeAx o v new else b.wr o new)
  else if blk = 20 ∨ blk = 21 then b.writeWp o v new
  else if 24 ≤ blk ∧ blk ≤ 26 then b.writeRc o v new
  else if blk = 28 then b.writePt o new
  else if 29 ≤ blk ∧ blk ≤ 31 then b.writeDram m o v new
  else if blk = 32 then b.writeCx o v new
  else if blk = 33 then b.writeMl m o v new
  else if blk = 34 then b.writeMz o v new
  else b.wr o new

/-- A full-width write by a master (R4, R485, R486, R491). -/
def Block.writeReg (b : Block) (m : Master) (o : Nat) (v lost : Word) : Block :=
  if absentAt b.part o then b
  else if inAperture o then b.run (execApertureAccess m (BitVec.ofNat 20 (o - 0x300000)) (some v))
  else
    match regRow o with
    | none => b.decErr m 1 o
    | some r => (b.writeMapped m r o v).rwhLost o (lost &&& BitVec.ofNat 32 r.rwh)

/-! ### The commands -/

/-- Byte offset of a DWORD of BAR0. -/
def dwordAt (o : BitVec 20) : Nat := 4 * o.toNat

/-- READ_CLEAR_FIELD (R4, R485, R517): a read of the DWORD `o` of BAR0, with the full effect of a read. -/
def execReadClearField (m : Master) (o : BitVec 20) (s : State) : Host.Outcome State Fault Refusal :=
  s.upd fun b => b.readReg m (dwordAt o)

/-- REGISTER_WRITE (R4): `lost` are the RWH bits that hardware writes in the same cycle (R443). -/
def execRegisterWrite (m : Master) (o : BitVec 20) (v lost : Word) (s : State) : Host.Outcome State Fault Refusal :=
  s.upd fun b => b.writeReg m (dwordAt o) v lost

/-- PARTIAL_WRITE (R485): ignored and recorded. -/
def execPartialWrite (m : Master) (o : BitVec 20) (s : State) : Host.Outcome State Fault Refusal :=
  s.upd fun b => if absentAt b.part (dwordAt o) then b else b.decErr m 2 (dwordAt o)

/-- UNMAPPED_ACCESS (R486): a read returns 0, a write is ignored; the access is recorded. -/
def execUnmappedAccess (m : Master) (o : BitVec 20) (write : Bool) (s : State) : Host.Outcome State Fault Refusal :=
  s.upd fun b =>
    if (regRow (dwordAt o)).isSome || inAperture (dwordAt o) || absentAt b.part (dwordAt o) then b
    else if write then b.decErr m 1 (dwordAt o)
    else (b.decErr m 0 (dwordAt o)).answer m 0

/-- The LECLK cycle of the tick that the block has reached; it does not run backwards. -/
def Block.atCycle (b : Block) (c : BitVec 11) : Block := b.setCyc (max b.cyc (min c.toNat 1999))

/-- TICK_SNAPSHOT_READ (R47): a read of GLB_TICK_LO in cycle `cyc` of the tick. -/
def execTickSnapshotRead (m : Master) (cyc : BitVec 11) (s : State) : Host.Outcome State Fault Refusal :=
  s.upd fun b => ((b.atCycle cyc).tickSnapshot m).answer m (b.tick.setWidth 32)

/-- FSYNC_EDGE (R48, R49): an edge leaves the filter in cycle `cyc` of the tick; the stamp is that of the cycle
3 + FILT earlier. -/
def execFsyncEdge (falling : Bool) (cyc : BitVec 11) (s : State) : Host.Outcome State Fault Refusal :=
  s.upd fun b =>
    if !b.on MZ_FSYNC_CTL_EN || b.on MZ_FSYNC_CTL_EDGE ≠ falling then b
    else
      let b := b.atCycle cyc
      let lat := 3 + b.fld MZ_FSYNC_CTL_FILT
      let stamp : Nat := if lat ≤ b.cyc then b.tick.toNat % 2 ^ 53 * 2 ^ 11 + (b.cyc - lat)
        else (b.tick.toNat + (2 ^ 53 - 1)) % 2 ^ 53 * 2 ^ 11 + (2000 + b.cyc - lat)
      let b := if b.on MZ_FSYNC_STAT_NEW then b.setFld MZ_FSYNC_STAT_OVF 1 else b
      let b := b.modFsync fun f => { f with cap := BitVec.ofNat 64 stamp }
      ((b.setFld MZ_FSYNC_STAT_NEW 1).wr MZ_FSYNC_CNT (b.rd MZ_FSYNC_CNT + 1)).raise 6

/-- FSYNC_TS_READ (R49): a read of MZ_FSYNC_TS_LO. -/
def execFsyncTsRead (m : Master) (s : State) : Host.Outcome State Fault Refusal :=
  s.upd fun b => b.fsyncRead.answer m (b.fsync.cap.setWidth 32)

/-- FSYNC_ENABLE (R50). -/
def execFsyncEnable (s : State) : Host.Outcome State Fault Refusal :=
  s.upd fun b => if b.on MZ_FSYNC_CTL_EN then b else b.fsyncEnable

/-- TUN_REQ (R410, R427): the access of the peer's tunnel is made here as the Melar tunnel master, and answered. -/
def execMlTunReq (addr : BitVec 22) (write : Bool) (data : Word) (s : State) : Host.Outcome State Fault Refusal :=
  s.upd fun b => b.onFrame fun b =>
    let o := addr.toNat / 4 * 4
    let b := if write then b.writeReg .tunnel o data 0 else b.readReg .tunnel o
    let v := if write then data else vget b.rdata Master.tunnel.idx
    b.melarSend 0x08 (addr.toNat + (if write then 2 ^ 32 else 0)) (leBytes 4 v.toNat)

end Sys2Proof.Machine
end

