-- ==== Sys2Proof/Machine/Tick.lean ====
section
/-!
DEFINITION. The tick (02_the_tick.md): its preamble and close, cuts, overruns, third misses, parity errors of the
loop engine's memories, and the timeouts that no other command names. The preamble also does what the standard
surface programs do at their own rates (07_servo_programs.md R192, R193, R196, R197).
-/

namespace Sys2Proof.Machine

/-! ### Loop engine: set-points, tables, patches -/

/-- Exchange words committed in the last tick become readable (R37, R166). -/
def Block.swapExchange (b : Block) : Block :=
  let new := b.le.exNew
  new.foldl (fun b e => b.wr (LE_DMEM_w e.1) e.2) (b.modLe fun l => { l with exNew := [] })

/-- The tick counter advances (R45), and the engine's record of the tick starts anew. -/
def Block.advanceTick (b : Block) : Block :=
  ((b.setTick (b.tick + 1)).setCyc 0).modLe fun l => { l with run := none, cyc := 0, cuts := [], useLast := 0, next := 0 }

/-- A SET change and a toggle of BANK take effect (R156). -/
def Block.swapCoefs (b : Block) : Block :=
  let b := if b.le.swap then b.setFld LE_COEF_CTL_BANK (1 - b.fld LE_COEF_CTL_BANK) else b
  b.modLe fun l => { l with swap := false, setEff := BitVec.ofNat 6 (b.fld LE_COEF_CTL_SET) }

/-- Live-table writes are applied (R175), then a replacement table (R36). -/
def Block.swapTables (b : Block) : Block :=
  let dirty := b.le.dirty
  let b := dirty.foldl Block.applyLive (b.modLe fun l => { l with dirty := [] })
  match b.le.table with
  | none => b
  | some t => (b.modLe fun l => { l with table := none }).putTable t

/-- The new match registers of an activated patch take effect (R179): LE_MATCH, LE_PATCH_STAT, source 8. -/
def Block.patchActive (b : Block) : Block :=
  match b.le.patch with
  | none => b
  | some p =>
    let b := (List.range 16).foldl (fun b k => b.wr (LE_MATCH_k k) (p.matches_.getD k 0 &&& 0x83FF0FFF#32)) b
    let b := (b.setFld LE_PATCH_STAT_PVER p.version.toNat).setFld LE_PATCH_STAT_LOADED 1
    (b.modLe fun l => { l with patch := none }).raise 8

/-- Dispatch in a tick (R35, R163), or, in the two ticks of a patch activation, one miss for each entry due and no
dispatch (R179). -/
def Block.runSlots (b : Block) : Block :=
  let n := b.le.actLeft
  if n = 0 then b.scan 48
  else if n = 1 then ((b.modLe fun l => { l with actLeft := 0 }).patchActive).scan 48
  else
    let b := (b.dueFrom 0).foldl Block.miss b
    b.modLe fun l => { l with actLeft := n - 1, next := 48 }

/-! ### Inputs -/

/-- A sample of a surface (R32, R204): the code less ADC_OFS, at the code limits where it would pass them;
ADC_CLIP where the code is at a limit. -/
def Block.takeSample (b : Block) (x : Sample) : Block :=
  b.onSurf x.surf fun b =>
    if !b.on (SFs_CTL_SMPEN x.surf) then b
    else
      let c := clampTo (x.code.toInt - b.sfld (SFs_ADC_OFS_k_OFS x.surf x.input)) 8191
      let clip : Bool := x.code = 0x1FFF#14 || x.code = 0x2000#14
      let b := b.setFld (SFs_SMP_k_CODE x.surf x.input) (natOf 14 c)
      if clip then b.setFld (SFs_STAT_ADC_CLIP x.surf) 1 else b

/-- The samples of a tick. -/
def Block.takeSamples (b : Block) (xs : List Sample) : Block :=
  let b := (List.range 4).foldl (fun b s => b.setFld (SFs_STAT_ADC_CLIP s) 0) b
  xs.foldl Block.takeSample b

/-- An input port that the environment drives (R162): WPH, VBUS, ENC, LOADM. -/
def Block.takePort (b : Block) (e : Nat × Word) : Block :=
  let u := e.1 / 64
  let f := e.1 % 64
  if (u < 4 && f = 9 && b.part.hasSurf u) || (4 ≤ u && u < 6 && f = 3 && b.part.hasSpin (u - 4)) then
    b.modLe fun l => { l with ports := l.ports.set e.1 e.2 0 }
  else if 6 ≤ u ∧ u < 15 then
    b.onAxis (Fin.ofNat 9 (u - 6)) fun b =>
      if f = 0 then b.wr (AXa_ENC (u - 6)) e.2
      else if f = 2 then b.setFld (AXa_LOAD_LOADM (u - 6)) (min e.2.toNat (AXa_LOAD_LOADM (u - 6)).top)
      else b
  else b

/-- A raw home switch (R240): the debounced level falls after 4 equal samples. Its rise is the trip, which
HOME_TRIP and LIMIT_TRIP report. -/
def Block.takeHome (b : Block) (e : Fin 4 × Bool) : Block :=
  let a : Fin 9 := Fin.ofNat 9 e.1.val
  b.onAxis a fun b =>
    let x := vget b.axis a
    let run := if e.2 = x.raw then min (x.rawRun + 1) 4 else 1
    let b := b.modAxis a fun x => { x with raw := e.2, rawRun := run }
    if run = 4 && !e.2 then b.setFld (AXa_STAT_HOMESW a) 0 else b

/-- The supplies (R448, R467): VHOLD_OK at 24.0 V, OVV no longer above 18.5 V. -/
def Block.takeSupplies (b : Block) (vin vhold : BitVec 16) : Block :=
  let b := ((b.setFld PW_VIN_VIN vin.toNat).setFld PW_VIN_VHOLD vhold.toNat).setBit PW_STAT_VHOLD_OK (2400 ≤ vhold.toNat)
  if vin.toNat ≤ 1850 then b.setFld PW_STAT_OVV 0 else b

/-! ### Standard surface programs -/

/-- TE − TRK_SP (R192), in units of 2^-31. -/
def Block.trackErr (b : Block) (s : Fin 4) : Int :=
  let pp := (b.portIn 0 (64 * s.val + 6)).toInt
  let te3 := (b.portIn 0 (64 * s.val + 17)).toInt
  let kdpp := (b.dmem (0x280 + 0x20 * s.val + 16)).toInt
  pp - sar (kdpp * te3) 31 - (b.dmem (exWord s 4)).toInt

/-- Pull-in (R192): it starts when FOK = 1, and TOK is set after LOCK_T ticks below LOCK_TE. -/
def Block.pullIn (b : Block) (s : Fin 4) : Block :=
  let v := vget b.servo s
  if !b.psw s 0 then b
  else if v.tmode = 1 then (b.modServo s fun v => { v with tmode := 2, lockRun := 0 }).publish s
  else if v.tmode ≠ 2 then b
  else
    let p := 0x280 + 0x20 * s.val
    let n := if ((b.trackErr s).natAbs : Int) < (b.dmem (p + 19)).toInt then v.lockRun + 1 else 0
    let b := b.modServo s fun v => { v with lockRun := n }
    if n ≤ (b.dmem (p + 20)).toNat then b
    else ((b.setPsw s (b.pswWith s 2 0)).modServo s fun v => { v with tmode := 3, lockRun := 0 }).trackCommit s

/-- One good word of the tracking program (R193): agreement with the prediction and with TLAYER. -/
def Block.goodWord (b : Block) (s : Fin 4) (w : BitVec 28) : Block :=
  let v := vget b.servo s
  let idx := addrIndex w
  let agrees : Bool := v.known && idx = v.gidx && addrAngle w = v.angle
  let seed : Bool := !v.known || (!agrees && v.disagree = 1)
  let lay : Bool := addrLayer w = v.tlayer
  let v' : Servo :=
    { v with
      age := 0, known := true, gidx := if seed then idx else v.gidx, angle := if seed then addrAngle w else v.angle
      agree := if agrees then v.agree + 1 else if seed then 1 else 0
      disagree := if agrees || seed then 0 else v.disagree + 1
      mislayer := if lay then 0 else v.mislayer + 1 }
  let b := b.modServo s fun _ => v'
  let lost : Bool := v.known && seed
  let b := if lost then b.setPsw s (b.pswWith s 0 4) else b
  let b :=
    if v'.mislayer = 2 then (b.setPsw s (b.pswWith s 0 4)).modServo s fun v => { v with err := 6, mislayer := 0 }
    else b
  if lay && (b.dmem (0x280 + 0x20 * s.val + 24)).toNat ≤ v'.agree && !lost then
    let b := b.setPsw s (b.pswWith s 4 0)
    if b.curOp s 2 then b.cmdDone s else b
  else b

/-- ADDRESS_LOCK (R193): the prediction advances by one address unit, and the word read is held against it. -/
def Block.addressLock (b : Block) (s : Fin 4) (w : Option (BitVec 28)) : Block :=
  let b := b.modServo s fun v =>
    { v with
      gidx := if v.known && v.angle = 47 then v.gidx + 1 else v.gidx
      angle := if v.known then (v.angle + 1) % 48 else v.angle
      age := min (v.age + 1) 15 }
  let b :=
    match w with
    | some w => b.goodWord s w
    | none =>
      let b := b.modServo s fun v => { v with agree := 0 }
      if (b.dmem (0x280 + 0x20 * s.val + 26)).toNat < (vget b.servo s).age then b.setPsw s (b.pswWith s 0 4) else b
  b.trackCommit s

/-- An address unit ends (R57, R58, R162, R204): the wobble channel's status, word and counters, then tracking. -/
def Block.wobbleUnit (b : Block) (u : AddrUnit) : Block :=
  let s := u.surf
  b.onSurf s fun b =>
    if !b.on (SFs_CTL_WBLEN s) then b
    else
      let b := b.wr (SFs_WBL_STAT s) (u.wbl.setWidth 32)
      let old := (b.rd (SFs_WADR s)).toNat
      let aged := BitVec.ofNat 32 (old % 2 ^ 28 + min (old / 2 ^ 28 + 1) 15 * 2 ^ 28)
      let b := b.wr (SFs_WADR s) (u.word.elim aged (·.setWidth 32))
      let good := u.word.filter addrGood
      let b := if u.word.isNone then b.bump (SFs_WCNT_CRCERR s) 1
        else if good.isSome then b.bump (SFs_WCNT_GOOD s) 1 else b
      if b.servoRuns s && (vget b.servo s).fmode ≠ 0 then b.addressLock s good else b

/-- Entry `k` is due and its program is there. -/
def Block.progDue (b : Block) (k : Nat) : Bool :=
  b.slotEn k && b.slotDue k && b.on (LE_PDESC_p_W0_VALID (slotProg (b.slotEff k))) &&
    !b.ownerHeld (slotOwner (b.slotEff k))

/-- The sled program (R196): a new SLED_REQ where |TRK_MEAN| > SLD_DB. -/
def Block.sledStep (b : Block) (s : Fin 4) : Block :=
  let p := 0x340 + 0x10 * s.val
  let m := (b.dmem (exWord s 9)).toInt
  if (m.natAbs : Int) ≤ (b.dmem p).toInt then b
  else
    let n := sar ((b.dmem (p + 1)).toInt * m + 2 ^ 30) 31
    b.writeSledReq s (clampTo n (b.dmem (p + 2)).toNat)

/-- The standard programs of one surface at their own rates (R42, R192, R196, R197). -/
def Block.surfPrograms (b : Block) (s : Fin 4) : Block :=
  b.onSurf s fun b =>
    let b :=
      if (vget b.servo s).safeTick = some (b.now - 9) then
        -- tick n + 9 of a safe state: the tracking DAC is set to zero
        b.setFld (SFs_DAC_OUT_k_CODE s 1) 0
      else b
    let b := if b.servoRuns s then b.pullIn s else b
    let b := if b.progDue (12 + s.val) && (vget b.servo s).tmode = 3 then b.sledStep s else b
    if b.progDue (16 + s.val) then b.writeSaReq s else b

/-! ### Sedge frames of a tick -/

/-- The cells of slots `p.sent` up to `last` are sent (R91, R97): the slot of stripe i of beam k is i + 2k. Each goes as
NRZI levels in seven chunks, from the level that R63 gives (R89). -/
def Block.streamSlots (b : Block) (s : Fin 4) (p : Pass) (last : Nat) : Block :=
  let n := bandSlots p.band
  let cls := (vget b.cal.surf s).desc.elim 0 fun d => d.wsClass.getD (bandLayer p.band) 0 % 8
  let bad := b.failedBeams s
  let before := ((vget b.wp s).levels.find? fun e => e.1 = swathKey p.band p.swath).map (·.2)
  ((List.range (min last n)).filter (p.sent ≤ ·)).foldl (fun b slot =>
    (List.range 16).foldl (fun b k =>
      let i := (slot + 2 * n - 2 * k) % n
      if p.first ≤ i && i < p.first + p.stripes.length && !bad.contains k then
        let start := p.levelAt (before.map fun l => l.getD k false) k slot
        let cell := (p.images.getD (i - p.first) []).getD k ⟨[], []⟩
        (cellChunks start cell).zipIdx.foldl (fun b e => b.sedge s (.stream p.num k slot p.swath cls e.2 e.1)) b
      else b) b) b

/-- The stream of the running pass (R91): no more than 3 slots ahead of the slot being written. -/
def Block.streamRunning (b : Block) (s : Fin 4) : Block :=
  match (vget b.wp s).running with
  | none => b
  | some p =>
    let last := b.curSlot s (bandSlots p.band) + 4
    (b.streamSlots s p last).modWp s fun w =>
      { w with running := some { p with sent := max p.sent (min last (bandSlots p.band)) } }

/-- SWATH_SCHEDULE (R91): each cell at least 4 ticks before its slot; a planned pass has its first three slots. -/
def Block.swathSchedule (b : Block) (s : Fin 4) : Block :=
  let b := b.streamRunning s
  match (vget b.wp s).planned with
  | none => b
  | some p =>
    (b.streamSlots s p 3).modWp s fun w => { w with planned := some { p with sent := max p.sent 3 } }

/-- TIMEBASE (R98). -/
def Block.timebase (b : Block) (s : Fin 4) : Block :=
  let w := vget b.wp s
  let v := vget b.servo s
  let num := match w.running, w.planned with
    | some p, _ => p.num
    | none, some p => p.num
    | none, none => 0
  let zone := if v.gidx < 0 then 0 else min (v.gidx.toNat / 369) 23
  let swath := if !v.known then 0 else if v.gidx < 0 then (v.gidx + 26).toNat
    else if 8856 ≤ v.gidx then v.gidx.toNat - 8856 else v.gidx.toNat % 369
  let bits := slotsOf zone * 111616
  let wph := (b.envPort (64 * s.val + 9)).toNat
  let turn := 2 ^ 32 * b.rpmOf s / 24000000
  b.sedge s (.timebase b.now num swath (wph * bits / 2 ^ 32) (wph * bits % 2 ^ 32 / 2 ^ 16) (bits * b.rpmOf s * 65536 / 24000000)
    (b.fld (SEs_BGATE_BGATE s)) (b.on (SEs_LSAFE_WGATE s)) (2 ^ 32 ≤ wph + turn))

/-- What a surface's link carries in a tick: TIMEBASE, a due POWER frame (R118), the stream. -/
def Block.linkTick (b : Block) (s : Fin 4) : Block :=
  b.onSurf s fun b =>
    let b := b.timebase s
    let b := if (vget b.se s).powerDue then b.sendPower s else b
    (b.swathSchedule s).modSe s fun e => { e with age := e.age + 1 }

/-! ### Other periodic work -/

/-- Residual tracking error (R476): RMS over the last 4,000 ticks with TOK = 1, full scale 120 nm, in 0.1 nm. -/
def Block.residual (b : Block) (s : Fin 4) : Block :=
  b.onSurf s fun b =>
    if !b.psw s 1 then b
    else
      let te := (b.trackErr s :: (vget b.cal.surf s).te).take 4000
      let b := b.modCalSurf s fun c => { c with te := te }
      let sum := te.foldl (fun n e => n + e.natAbs * e.natAbs) 0
      let r := min (isqrt (sum / te.length) * 1200 / 2 ^ 31) (CAL_Ss_RTE_RTE s).top
      let thr := b.fld CAL_STHR_RTE_THR
      let was := b.fld (CAL_Ss_RTE_RTE s)
      let b := b.setFld (CAL_Ss_RTE_RTE s) r
      if was ≤ thr ∧ thr < r then b.raiseSurf s 33 else b

/-- Deferral of the background engines (R477): ticks since the unit was refused, 0 once it is had. -/
def Block.deferTick (b : Block) (waits : BitVec 7) : Block :=
  let w := BitVec.ofNat 7 ((List.range 7).foldl (fun n e =>
    if waits.getLsbD e && !b.cal.windows.contains e then n + 2 ^ e else n) 0)
  let b := b.setFld CAL_DEFER_STAT_WAITING w.toNat
  b.modCal fun c => { c with defer := Vector.ofFn fun e => if w.getLsbD e.val then vget c.defer e + 1 else 0 }

/-- Telemetry persistence (R477, engine 5): once per 24,000,000 ticks, later where its unit is refused. -/
def Block.persistTick (b : Block) (waits : Bool) : Block :=
  let due := b.cal.persistDue || b.now % 24000000 = 0
  if !due then b else if waits then b.modCal fun c => { c with persistDue := true } else b.persistTel

/-- Ingest credit grows by the ceiling × 2.5 µs, up to 1 GiB (R337), in 1/400,000 byte; seconds of block-write rate
(R338) and of reduced mode. -/
def Block.ingestTick (b : Block) : Block :=
  let b := b.modHq fun h =>
    { h with credit := min (h.credit + (b.ceiling : Int)) (2 ^ 30 * 400000)
             rmodeTicks := h.rmodeTicks + (b.on PW_STAT_RMODE).toNat }
  if b.now % 400000 = 0 then b.modStore fun t => { t with blockRate := 0 :: t.blockRate.take 9 } else b

/-- PEER_ALIVE toggles every 4 ticks (R409), and the count of CRC errors starts anew every 400 (R428). -/
def Block.melarTick (b : Block) : Block :=
  let b := if b.now % 400 = 0 then b.modMl fun m => { m with crcErrs := 0 } else b
  if b.now % 4 = 0 && b.on ML_CTL_EN && b.pw.dyke.isNone then
    let up := !b.ml.alive
    (b.modMl fun m => { m with alive := up }).emit (.peerAlive up)
  else b

/-- DRAM of a tick: errors that arose, values that take effect (R392), the scrubber (R373), and the reset
invalidation of the map cache (R382). -/
def Block.memTick (b : Block) (strikes : List (Nat × Nat)) (refused : Bool) : Block :=
  let b := strikes.foldl (fun b e => if e.1 < dramSize / 64 then b.strike e.1 e.2 else b) b
  let b := b.dramTick
  let b := if refused then b else b.scrubTick
  if b.dram.initLeft = 0 then b
  else
    let b := b.modDram fun d => { d with initLeft := d.initLeft - 1 }
    if b.dram.initLeft = 0 then b.mcInitEnd else b

/-! ### The commands -/

/-- TICK_PREAMBLE (R31): the preamble of the next tick, with what the block observes at its opening. An execution
that still runs was cut by the end of its tick (R44). In the Bittern watch the loop engine is stopped (R46). -/
def execTickPreamble (e : TickEnv) (s : State) : Host.Outcome State Fault Refusal :=
  s.upd fun b =>
    if b.pw.asleep then b
    else
      let b := if b.le.run.isSome then b.overrun else b
      let b := b.swapExchange.advanceTick.swapCoefs.swapTables
      let b := e.ports.foldl Block.takePort (b.takeSamples e.samples)
      let b := (e.home.foldl Block.takeHome b).takeSupplies e.vin e.vhold
      let b := (b.setBit MZ_SW_DOOR_RAW e.door).setBit MZ_SW_CLAMP_RAW e.clamp
      let b := e.units.foldl Block.wobbleUnit b
      let b := (List.range 9).foldl (fun b a => b.axPreamble (Fin.ofNat 9 a)) b
      let b := (List.range 4).foldl (fun b i => (b.surfPrograms (Fin.ofNat 4 i)).residual (Fin.ofNat 4 i)) b
      let b := (List.range 4).foldl (fun b i => b.linkTick (Fin.ofNat 4 i)) b
      let b := (b.memTick e.strikes (e.deferred.getLsbD 0)).ptKick
      let b := ((b.ingestTick.melarTick.discSteps).deferTick e.deferred).persistTick (e.deferred.getLsbD 5)
      let b := if b.mirrored then b.mirApply else b
      b.runSlots

/-- The overrun status words and source 4 of the entries cut in the tick (R39, R180). -/
def Block.recordCuts (b : Block) : Block :=
  let cuts := b.le.cuts
  let b := cuts.foldl (fun b k =>
    if k < 32 then b.putBit LE_OVR_LO_CUT k true else b.putBit LE_OVR_HI_CUT (k - 32) true) b
  match cuts.getLast? with
  | none => b
  | some k => (b.setFld LE_OVR_HI_LAST k).postClose 4

/-- A coil DAC at its limit for 64 consecutive ticks (R186, offset 21). -/
def Block.limitRuns (b : Block) (s : Fin 4) : Block :=
  b.onSurf s fun b =>
    (List.range 3).foldl (fun b k =>
      let i : Fin 3 := Fin.ofNat 3 k
      let n := if b.onBit (SFs_STAT_DAC_LIM s) k then vget (vget b.servo s).limRun i + 1 else 0
      let b := b.modServo s fun v => { v with limRun := vset v.limRun i n }
      if n = 64 then b.postClose (1024 + 40 * s.val + 21) else b) b

/-- TICK_CLOSE (R31): cycle 1,984. -/
def execTickClose (s : State) : Host.Outcome State Fault Refusal :=
  s.upd fun b =>
    if b.pw.asleep then b
    else
      let b := b.overrun.applyAllHeld
      let b := (b.setFld LE_USE_LAST b.le.useLast).setFld LE_USE_PEAK (max (b.fld LE_USE_PEAK) b.le.useLast)
      let b := b.recordCuts
      let b := (b.onSpin 0 fun b => b.spDecide 0).onSpin 1 fun b => b.spDecide 1
      let b := (List.range 4).foldl (fun b i => b.limitRuns (Fin.ofNat 4 i)) b
      let posts := b.le.post
      let b := b.modLe fun l => { l with post := [], cuts := [] }
      let b := b.setCyc 1984
      posts.foldl Block.raise b

/-- SLOT_CUT (R39): the running execution has spent its BUDGET. -/
def execSlotCut (s : State) : Host.Outcome State Fault Refusal := s.upd Block.cutRun

/-- TICK_OVERRUN (R44). -/
def execTickOverrun (s : State) : Host.Outcome State Fault Refusal := s.upd Block.overrun

/-- The axes that an entry's program serves (R38, R41): those of the standard profile programs, and those that a
PGEN instruction of the program names. -/
def Block.servedAxes (b : Block) (k : Nat) : List Nat :=
  let p := slotProg (b.slotEff k)
  let first := b.fld (LE_PDESC_p_W0_ENTRY p)
  let named := (List.range (b.fld (LE_PDESC_p_W0_LEN p))).filterMap fun i =>
    let w := b.rd (LE_PMEM_i (first + i))
    if lwOp w = 0x19 then some (lwLow4 w) else none
  (List.range 9).filter fun a =>
    named.contains a || (p = 24 && a < 2) || (p = 25 && (a = 2 || a = 3)) || (p = 26 && 4 ≤ a && a < 8) || (p = 27 && a = 8)

/-- What the third consecutive miss of entry `k` brings, by its OWNER (R41 to R43). -/
def Block.thirdMiss (b : Block) (k : Nat) : Block :=
  let o := slotOwner (b.slotEff k)
  let clear := fun (b : Block) => if k < 4 then b else b.setFld (LE_SLOT_k_W0_EN k) 0
  let b := (b.modLe fun l => { l with third := l.third.filter (· ≠ k) }).setFld (missFld k) 0
  if o < 4 then
    -- a surface already in safe state does not enter it again (R43, in safeState)
    (clear b).onSurf (Fin.ofNat 4 o) fun b => b.safeState (Fin.ofNat 4 o) true
  else if o < 6 then (clear b).onSpin (Fin.ofNat 2 (o - 4)) fun b => b.spThirdMiss (Fin.ofNat 2 (o - 4))
  else if o = 6 then
    (b.servedAxes k).foldl (fun b a => b.onAxis (Fin.ofNat 9 a) fun b => b.stallAxis (Fin.ofNat 9 a)) (clear b)
  else clear b

/-- THIRD_MISS (R41): the entry whose count has reached 3. -/
def execThirdMiss (k : Fin 48) (s : State) : Host.Outcome State Fault Refusal :=
  s.upd fun b => if b.le.third.contains k.val then b.thirdMiss k.val else b

/-- The number of a memory in LE_ERR_ADDR.MEM, and its bit of LE_ERR (R177, R181). -/
def leMemCode : LeMem → Nat
  | .pmem => 0
  | .dmem => 1
  | .cmem => 2
  | .pram => 3

/-- MICROCODE_PARITY_ERROR (R177): a read of the running routine, `used` cycles after its start, meets a parity
error. The routine restarts, at the cost of the cycles used; a second error in the execution cuts it. -/
def execMicrocodeParityError (mem : LeMem) (addr : BitVec 14) (used : BitVec 11) (s : State) :
    Host.Outcome State Fault Refusal :=
  s.upd fun b =>
    match b.le.run with
    | none => b
    | some r =>
      let b := b.putBit ⟨LE_ERR, 3, 0⟩ (leMemCode mem) true
      let b := (b.bump LE_ERR_COUNT 1).setFld LE_ERR_ADDR_MEM (leMemCode mem)
      let b := ((b.setFld LE_ERR_ADDR_ENTRY r.entry).setFld LE_ERR_ADDR_ADDR addr.toNat).raise 10
      if 1 ≤ r.parity ∨ r.budget < r.used + used.toNat then b.cutRun
      else b.modLe fun l => { l with run := some { r with used := r.used + used.toNat, parity := r.parity + 1 } }

/-- TIMEOUT_EXPIRY (R30): the idle spin-down of FID 0x08 (R292), which stops the spindles once no I/O has come for
its number of seconds, or a command core's watchdog unserved for 1 s (R456). -/
def execTimeoutExpiry (watchdog : Bool) (s : State) : Host.Outcome State Fault Refusal :=
  s.upd fun b =>
    if watchdog then b.raise 44
    else if b.hq.idle = 0 ∨ b.now < b.hq.lastIo + 400000 * b.hq.idle + 1 then b
    else (b.onSpin 0 fun b => b.spStop 0).onSpin 1 fun b => b.spStop 1

end Sys2Proof.Machine
end

