-- ==== Sys2Proof/Machine/Dispatch.lean ====
section
/-!
DEFINITION. The meaning of every command.
-/

namespace Sys2Proof.Machine

/-- The effect of a command on everything but the queue. -/
def exec (i : Instr) (s : State) : Host.Outcome State Fault Refusal :=
  match i with
  -- the tick
  | .tickPreamble e => Sys2Proof.Machine.execTickPreamble e s
  | .tickClose => Sys2Proof.Machine.execTickClose s
  | .slotCut => Sys2Proof.Machine.execSlotCut s
  | .tickOverrun => Sys2Proof.Machine.execTickOverrun s
  | .thirdMiss k => Sys2Proof.Machine.execThirdMiss k s
  | .microcodeParityError mem addr used => Sys2Proof.Machine.execMicrocodeParityError mem addr used s
  -- loop instructions
  | .opNop => Sys2Proof.Machine.execOpNop s
  | .opEnd => Sys2Proof.Machine.execOpEnd s
  | .opLd d n absolute addr => Sys2Proof.Machine.execOpLd d n absolute addr s
  | .opSt a n absolute addr => Sys2Proof.Machine.execOpSt a n absolute addr s
  | .opIn d port => Sys2Proof.Machine.execOpIn d port s
  | .opOut a port => Sys2Proof.Machine.execOpOut a port s
  | .opLdi d hi imm => Sys2Proof.Machine.execOpLdi d hi imm s
  | .opMov d a => Sys2Proof.Machine.execOpMov d a s
  | .opAdd d a b' => Sys2Proof.Machine.execOpAdd d a b' s
  | .opSub d a b' => Sys2Proof.Machine.execOpSub d a b' s
  | .opMulx d a b' => Sys2Proof.Machine.execOpMulx d a b' s
  | .opShl d a n => Sys2Proof.Machine.execOpShl d a n s
  | .opShr d a n => Sys2Proof.Machine.execOpShr d a n s
  | .opMin d a b' => Sys2Proof.Machine.execOpMin d a b' s
  | .opMax d a b' => Sys2Proof.Machine.execOpMax d a b' s
  | .opClmp d a b' => Sys2Proof.Machine.execOpClmp d a b' s
  | .opAbs d a => Sys2Proof.Machine.execOpAbs d a s
  | .opMvm d a rows cols acc => Sys2Proof.Machine.execOpMvm d a rows cols acc s
  | .opSetcp off => Sys2Proof.Machine.execOpSetcp off s
  | .opBr c a skip => Sys2Proof.Machine.execOpBr c a skip s
  | .opSincos d a => Sys2Proof.Machine.execOpSincos d a s
  | .opRot d a b' => Sys2Proof.Machine.execOpRot d a b' s
  | .opAtan2 d a b' => Sys2Proof.Machine.execOpAtan2 d a b' s
  | .opDiv d a b' => Sys2Proof.Machine.execOpDiv d a b' s
  | .opSqrt d a => Sys2Proof.Machine.execOpSqrt d a s
  | .opPgen a => Sys2Proof.Machine.execOpPgen a s
  | .opSts a clear word => Sys2Proof.Machine.execOpSts a clear word s
  | .opEvt code => Sys2Proof.Machine.execOpEvt code s
  | .opAnd d a b' => Sys2Proof.Machine.execOpAnd d a b' s
  | .opOr d a b' => Sys2Proof.Machine.execOpOr d a b' s
  | .opXor d a b' => Sys2Proof.Machine.execOpXor d a b' s
  | .opLds d word => Sys2Proof.Machine.execOpLds d word s
  -- loop-engine loads and writes
  | .loadShadowTable => Sys2Proof.Machine.execLoadShadowTable s
  | .loadDefaultTable => Sys2Proof.Machine.execLoadDefaultTable s
  | .loadProgram index => Sys2Proof.Machine.execLoadProgram index s
  | .loadPatch => Sys2Proof.Machine.execLoadPatch s
  | .loadComplete => Sys2Proof.Machine.execLoadComplete s
  | .patchActivation => Sys2Proof.Machine.execPatchActivation s
  | .liveSlotWrite k second v => Sys2Proof.Machine.execLiveSlotWrite k second v s
  | .leMemoryWrite o v => Sys2Proof.Machine.execLeMemoryWrite o v s
  | .coefSwap => Sys2Proof.Machine.execCoefSwap s
  | .coefSet set => Sys2Proof.Machine.execCoefSet set s
  | .matchDisable k => Sys2Proof.Machine.execMatchDisable k s
  -- registers and timestamps
  | .readClearField m o => Sys2Proof.Machine.execReadClearField m o s
  | .registerWrite m o v lost => Sys2Proof.Machine.execRegisterWrite m o v lost s
  | .partialWrite m o => Sys2Proof.Machine.execPartialWrite m o s
  | .unmappedAccess m o write => Sys2Proof.Machine.execUnmappedAccess m o write s
  | .tickSnapshotRead m cyc => Sys2Proof.Machine.execTickSnapshotRead m cyc s
  | .timeoutExpiry watchdog => Sys2Proof.Machine.execTimeoutExpiry watchdog s
  | .fsyncEdge falling cyc => Sys2Proof.Machine.execFsyncEdge falling cyc s
  | .fsyncTsRead m => Sys2Proof.Machine.execFsyncTsRead m s
  | .fsyncEnable => Sys2Proof.Machine.execFsyncEnable s
  -- write path
  | .passPlan sf offered => Sys2Proof.Machine.execPassPlan sf offered s
  | .angleReference sf => Sys2Proof.Machine.execAngleReference sf s
  | .stopRequest sf => Sys2Proof.Machine.execStopRequest sf s
  | .verifyJobDone sf wseq beam v => Sys2Proof.Machine.execVerifyJobDone sf wseq beam v s
  | .verifyLate sf wseq beam => Sys2Proof.Machine.execVerifyLate sf wseq beam s
  | .relocationVisit sf band => Sys2Proof.Machine.execRelocationVisit sf band s
  | .relocationMaxwait sf band => Sys2Proof.Machine.execRelocationMaxwait sf band s
  | .opticalDurable sf wseq => Sys2Proof.Machine.execOpticalDurable sf wseq s
  -- Sedge links
  | .seLinkEnable sf => Sys2Proof.Machine.execSeLinkEnable sf s
  | .seRetrain sf => Sys2Proof.Machine.execSeRetrain sf s
  | .seLinkUp sf latency idMem => Sys2Proof.Machine.execSeLinkUp sf latency idMem s
  | .seBringupTimeout sf => Sys2Proof.Machine.execSeBringupTimeout sf s
  | .seLinkDown sf => Sys2Proof.Machine.execSeLinkDown sf s
  | .seRetrainFail sf => Sys2Proof.Machine.execSeRetrainFail sf s
  | .puFault sf => Sys2Proof.Machine.execPuFault sf s
  | .monitor sf mon => Sys2Proof.Machine.execMonitor sf mon s
  | .status sf temp fault dsErr => Sys2Proof.Machine.execStatus sf temp fault dsErr s
  | .mgmtRsp sf data => Sys2Proof.Machine.execMgmtRsp sf data s
  | .echoRsp sf token => Sys2Proof.Machine.execEchoRsp sf token s
  | .notwritten sf pass slot beam => Sys2Proof.Machine.execNotwritten sf pass slot beam s
  | .mgmtAccess sf addr frame write data => Sys2Proof.Machine.execMgmtAccess sf addr frame write data s
  | .setBeamPower sf beam read peak bias => Sys2Proof.Machine.execSetBeamPower sf beam read peak bias s
  | .latchRelease sf => Sys2Proof.Machine.execLatchRelease sf s
  -- read channel
  | .cellRead n o => Sys2Proof.Machine.execCellRead n o s
  | .bmRestart n => Sys2Proof.Machine.execBmRestart n s
  | .decodeJobDone e r => Sys2Proof.Machine.execDecodeJobDone e r s
  | .stripeRebuild sf band swath stripe out => Sys2Proof.Machine.execStripeRebuild sf band swath stripe out s
  | .reReadPass sf => Sys2Proof.Machine.execReReadPass sf s
  | .engineParityFault e => Sys2Proof.Machine.execEngineParityFault e s
  | .engineRestore e => Sys2Proof.Machine.execEngineRestore e s
  | .rcSplitWrite vmin rmin retry => Sys2Proof.Machine.execRcSplitWrite vmin rmin retry s
  -- focus and tracking
  | .cmdNone sf reserved layer seq => Sys2Proof.Machine.execCmdNone sf reserved layer seq s
  | .cmdOff sf layer seq => Sys2Proof.Machine.execCmdOff sf layer seq s
  | .cmdFocus sf layer seq found => Sys2Proof.Machine.execCmdFocus sf layer seq found s
  | .cmdLayer sf layer seq => Sys2Proof.Machine.execCmdLayer sf layer seq s
  | .cmdSeek sf layer arg seq => Sys2Proof.Machine.execCmdSeek sf layer arg seq s
  | .cmdRelease sf layer seq => Sys2Proof.Machine.execCmdRelease sf layer seq s
  | .focusDrop sf => Sys2Proof.Machine.execFocusDrop sf s
  | .searchFail sf => Sys2Proof.Machine.execSearchFail sf s
  | .offTrack sf => Sys2Proof.Machine.execOffTrack sf s
  | .swathHoldKick sf => Sys2Proof.Machine.execSwathHoldKick sf s
  -- spindles
  | .spindleRun n => Sys2Proof.Machine.execSpindleRun n s
  | .spindleStop n => Sys2Proof.Machine.execSpindleStop n s
  | .setSpeed n rpm => Sys2Proof.Machine.execSetSpeed n rpm s
  | .coastSenseDone n rpm crossings angle => Sys2Proof.Machine.execCoastSenseDone n rpm crossings angle s
  | .bbrakeEnd n => Sys2Proof.Machine.execBbrakeEnd n s
  | .alignEnd n => Sys2Proof.Machine.execAlignEnd n s
  | .rampEnd n => Sys2Proof.Machine.execRampEnd n s
  | .attemptFailed n => Sys2Proof.Machine.execAttemptFailed n s
  | .retryWaitEnd n => Sys2Proof.Machine.execRetryWaitEnd n s
  | .catchResync n => Sys2Proof.Machine.execCatchResync n s
  | .catchTimeout n => Sys2Proof.Machine.execCatchTimeout n s
  | .accelGrant n => Sys2Proof.Machine.execAccelGrant n s
  | .speedLock n => Sys2Proof.Machine.execSpeedLock n s
  | .lockLost n => Sys2Proof.Machine.execLockLost n s
  | .rotorLoss n => Sys2Proof.Machine.execRotorLoss n s
  | .brakeExit n => Sys2Proof.Machine.execBrakeExit n s
  | .brakeTimeout n => Sys2Proof.Machine.execBrakeTimeout n s
  | .bridgeOvercurrent n overTemp => Sys2Proof.Machine.execBridgeOvercurrent n overTemp s
  | .faultClear n bits => Sys2Proof.Machine.execFaultClear n bits s
  | .pwmPeriod n code1 code2 vbus rpm => Sys2Proof.Machine.execPwmPeriod n code1 code2 vbus rpm s
  | .vclampSet n vbus => Sys2Proof.Machine.execVclampSet n vbus s
  -- axes, door and clamp
  | .axisTarget a v => Sys2Proof.Machine.execAxisTarget a v s
  | .axisRelative a v => Sys2Proof.Machine.execAxisRelative a v s
  | .axisDone a => Sys2Proof.Machine.execAxisDone a s
  | .axisHalt a => Sys2Proof.Machine.execAxisHalt a s
  | .axisDisable a => Sys2Proof.Machine.execAxisDisable a s
  | .homingStart a => Sys2Proof.Machine.execHomingStart a s
  | .homeTrip a => Sys2Proof.Machine.execHomeTrip a s
  | .homingDone a => Sys2Proof.Machine.execHomingDone a s
  | .homingFail a => Sys2Proof.Machine.execHomingFail a s
  | .axisStall a => Sys2Proof.Machine.execAxisStall a s
  | .switchChatter w => Sys2Proof.Machine.execSwitchChatter w s
  | .limitTrip a => Sys2Proof.Machine.execLimitTrip a s
  | .coilFault a => Sys2Proof.Machine.execCoilFault a s
  | .doorOpen => Sys2Proof.Machine.execDoorOpen s
  | .doorClosed => Sys2Proof.Machine.execDoorClosed s
  | .clampChange closed => Sys2Proof.Machine.execClampChange closed s
  -- host queues
  | .controllerReset cause => Sys2Proof.Machine.execControllerReset cause s
  | .controllerEnable arbmode => Sys2Proof.Machine.execControllerEnable arbmode s
  | .sqTailDoorbell q v => Sys2Proof.Machine.execSqTailDoorbell q v s
  | .cqHeadDoorbell q v => Sys2Proof.Machine.execCqHeadDoorbell q v s
  | .commandFetch entries => Sys2Proof.Machine.execCommandFetch entries s
  | .lockGrant tag => Sys2Proof.Machine.execLockGrant tag s
  | .commandStart tag segs => Sys2Proof.Machine.execCommandStart tag segs s
  | .ingestReserve tag => Sys2Proof.Machine.execIngestReserve tag s
  | .completionPost tag => Sys2Proof.Machine.execCompletionPost tag s
  | .hostDmaFailure f => Sys2Proof.Machine.execHostDmaFailure f s
  | .pcieLinkChange speed width pm => Sys2Proof.Machine.execPcieLinkChange speed width pm s
  -- admin commands
  | .identify tag => Sys2Proof.Machine.execIdentify tag s
  | .queueCreate tag => Sys2Proof.Machine.execQueueCreate tag s
  | .queueDelete tag => Sys2Proof.Machine.execQueueDelete tag s
  | .queueResume tag => Sys2Proof.Machine.execQueueResume tag s
  | .logRead tag => Sys2Proof.Machine.execLogRead tag s
  | .featureSet tag peer => Sys2Proof.Machine.execFeatureSet tag peer s
  | .featureGet tag => Sys2Proof.Machine.execFeatureGet tag s
  | .magazineLoad tag found => Sys2Proof.Machine.execMagazineLoad tag found s
  | .tailScan cells voids ptrs => Sys2Proof.Machine.execTailScan cells voids ptrs s
  | .magazineEject tag => Sys2Proof.Machine.execMagazineEject tag s
  | .ejectProceed => Sys2Proof.Machine.execEjectProceed s
  | .format tag label => Sys2Proof.Machine.execFormat tag label s
  | .keyInstall tag blob => Sys2Proof.Machine.execKeyInstall tag blob s
  | .firmwareStage tag data => Sys2Proof.Machine.execFirmwareStage tag data s
  | .firmwareCommit tag => Sys2Proof.Machine.execFirmwareCommit tag s
  | .abort tag => Sys2Proof.Machine.execAbort tag s
  | .mirrorStatus tag => Sys2Proof.Machine.execMirrorStatus tag s
  | .pair tag peer => Sys2Proof.Machine.execPair tag peer s
  | .unpair tag => Sys2Proof.Machine.execUnpair tag s
  | .mirrorMode tag => Sys2Proof.Machine.execMirrorMode tag s
  | .rejoin tag earlier => Sys2Proof.Machine.execRejoin tag earlier s
  | .takeover tag => Sys2Proof.Machine.execTakeover tag s
  | .asyncEvent tag => Sys2Proof.Machine.execAsyncEvent tag s
  | .asyncEventReport t info data => Sys2Proof.Machine.execAsyncEventReport t info data s
  | .telemetryRead tag => Sys2Proof.Machine.execTelemetryRead tag s
  | .selfTest tag found => Sys2Proof.Machine.execSelfTest tag found s
  | .selfTestStop tag => Sys2Proof.Machine.execSelfTestStop tag s
  | .standby tag => Sys2Proof.Machine.execStandby tag s
  -- clip and block commands
  | .blockRead tag media => Sys2Proof.Machine.execBlockRead tag media s
  | .blockWrite tag data media => Sys2Proof.Machine.execBlockWrite tag data media s
  | .flush tag => Sys2Proof.Machine.execFlush tag s
  | .clipOpen tag metadata peer => Sys2Proof.Machine.execClipOpen tag metadata peer s
  | .frameAppend tag data => Sys2Proof.Machine.execFrameAppend tag data s
  | .clipClose tag metadata => Sys2Proof.Machine.execClipClose tag metadata s
  | .frameRead tag media => Sys2Proof.Machine.execFrameRead tag media s
  | .catalogueRead tag => Sys2Proof.Machine.execCatalogueRead tag s
  | .clipVerify tag bad => Sys2Proof.Machine.execClipVerify tag bad s
  -- ledger and placement
  | .bandStep sf => Sys2Proof.Machine.execBandStep sf s
  | .ledgerVisit sf => Sys2Proof.Machine.execLedgerVisit sf s
  | .stagedDrain sf => Sys2Proof.Machine.execStagedDrain sf s
  | .stagingFloor => Sys2Proof.Machine.execStagingFloor s
  -- Peat
  | .dqReserve m => Sys2Proof.Machine.execDqReserve m s
  | .dqKick => Sys2Proof.Machine.execDqKick s
  | .reservedSlotTimeout => Sys2Proof.Machine.execReservedSlotTimeout s
  | .peatRead f slc pmask rrl daddr maddr => Sys2Proof.Machine.execPeatRead f slc pmask rrl daddr maddr s
  | .peatProgram f slc daddr maddr => Sys2Proof.Machine.execPeatProgram f slc daddr maddr s
  | .peatErase f jrnl => Sys2Proof.Machine.execPeatErase f jrnl s
  | .peatJournal f ckpt len daddr => Sys2Proof.Machine.execPeatJournal f ckpt len daddr s
  | .peatRebuild f daddr maddr => Sys2Proof.Machine.execPeatRebuild f daddr maddr s
  | .peatPad f slc => Sys2Proof.Machine.execPeatPad f slc s
  | .flashOpComplete die r => Sys2Proof.Machine.execFlashOpComplete die r s
  | .dieTimeout die => Sys2Proof.Machine.execDieTimeout die s
  | .peatTempSample temp => Sys2Proof.Machine.execPeatTempSample temp s
  -- buffer memory and map cache
  | .dramAccess req addr len data strike tag => Sys2Proof.Machine.execDramAccess req addr len data strike tag s
  | .mergeFlush word => Sys2Proof.Machine.execMergeFlush word s
  | .ceLeak => Sys2Proof.Machine.execCeLeak s
  | .apertureAccess m off data => Sys2Proof.Machine.execApertureAccess m off data s
  | .mcAccess core addr len write strike => Sys2Proof.Machine.execMcAccess core addr len write strike s
  | .mcFillDone core => Sys2Proof.Machine.execMcFillDone core s
  | .inv addr len => Sys2Proof.Machine.execInv addr len s
  | .clean addr len => Sys2Proof.Machine.execClean addr len s
  | .lockfill addr len => Sys2Proof.Machine.execLockfill addr len s
  | .invAll => Sys2Proof.Machine.execInvAll s
  | .cleanAll => Sys2Proof.Machine.execCleanAll s
  | .mcOpDone => Sys2Proof.Machine.execMcOpDone s
  | .wayRestore ways => Sys2Proof.Machine.execWayRestore ways s
  | .mcWinWrite v => Sys2Proof.Machine.execMcWinWrite v s
  -- Sluice
  | .slStart c ssp dsp pri irq => Sys2Proof.Machine.execSlStart c ssp dsp pri irq s
  | .slStop c => Sys2Proof.Machine.execSlStop c s
  | .slBeat c write data => Sys2Proof.Machine.execSlBeat c write data s
  | .slDone c => Sys2Proof.Machine.execSlDone c s
  | .slBusError c write => Sys2Proof.Machine.execSlBusError c write s
  -- cipher and key store
  | .cipherUnit p n use tw data differ => Sys2Proof.Machine.execCipherUnit p n use tw data differ s
  | .gcmSeal p n iv header body encb differ => Sys2Proof.Machine.execGcmSeal p n iv header body encb differ s
  | .gcmOpen p n iv header body tag encb differ => Sys2Proof.Machine.execGcmOpen p n iv header body tag encb differ s
  | .reTweak p n old new data differ => Sys2Proof.Machine.execReTweak p n old new data differ s
  | .pairKat n pass => Sys2Proof.Machine.execPairKat n pass s
  | .pairRestore n pass => Sys2Proof.Machine.execPairRestore n pass s
  | .pageKeyLoad p slot => Sys2Proof.Machine.execPageKeyLoad p slot s
  | .pageCtlWrite p v => Sys2Proof.Machine.execPageCtlWrite p v s
  | .install slot gcmKey blob => Sys2Proof.Machine.execInstall slot gcmKey blob s
  | .erase slot => Sys2Proof.Machine.execErase slot s
  | .eraseAll => Sys2Proof.Machine.execEraseAll s
  | .keyAlarm a present => Sys2Proof.Machine.execKeyAlarm a present s
  -- mirrored pair
  | .mlLinkEnable retrain => Sys2Proof.Machine.execMlLinkEnable retrain s
  | .mlLinkDown => Sys2Proof.Machine.execMlLinkDown s
  | .mlHello h earlier => Sys2Proof.Machine.execMlHello h earlier s
  | .mlCmd mseq dws tag pair clip frame stamp dur => Sys2Proof.Machine.execMlCmd mseq dws tag pair clip frame stamp dur s
  | .mlData mseq chunk bytes => Sys2Proof.Machine.execMlData mseq chunk bytes s
  | .mlRpt mseq => Sys2Proof.Machine.execMlRpt mseq s
  | .mlCat mseq rtype entry => Sys2Proof.Machine.execMlCat mseq rtype entry s
  | .mlDone mseq status => Sys2Proof.Machine.execMlDone mseq status s
  | .mlTunReq addr write data => Sys2Proof.Machine.execMlTunReq addr write data s
  | .mlTunRsp addr write data => Sys2Proof.Machine.execMlTunRsp addr write data s
  | .mlIrq n => Sys2Proof.Machine.execMlIrq n s
  | .mlRsync out clip unit bytes => Sys2Proof.Machine.execMlRsync out clip unit bytes s
  | .mlLeave cause => Sys2Proof.Machine.execMlLeave cause s
  | .mlLack lseq replay => Sys2Proof.Machine.execMlLack lseq replay s
  | .heartbeatLost => Sys2Proof.Machine.execHeartbeatLost s
  | .peerRoleChange level => Sys2Proof.Machine.execPeerRoleChange level s
  | .reportTimeout => Sys2Proof.Machine.execReportTimeout s
  | .takeoverDelay => Sys2Proof.Machine.execTakeoverDelay s
  | .autoRejoin earlier => Sys2Proof.Machine.execAutoRejoin earlier s
  | .resyncComplete => Sys2Proof.Machine.execResyncComplete s
  | .tunnelAccess m addr write => Sys2Proof.Machine.execTunnelAccess m addr write s
  | .tunnelTimeout m => Sys2Proof.Machine.execTunnelTimeout m s
  -- interrupts
  | .claim m t => Sys2Proof.Machine.execClaim m t s
  | .eoi t n => Sys2Proof.Machine.execEoi t n s
  | .hostEoi v => Sys2Proof.Machine.execHostEoi v s
  | .forceRaise n => Sys2Proof.Machine.execForceRaise n s
  | .targetDisable dis => Sys2Proof.Machine.execTargetDisable dis s
  | .holdoffExpiry host ix => Sys2Proof.Machine.execHoldoffExpiry host ix s
  | .peerFifoRead m => Sys2Proof.Machine.execPeerFifoRead m s
  -- power
  | .reducedModeEntry => Sys2Proof.Machine.execReducedModeEntry s
  | .reducedModeExit => Sys2Proof.Machine.execReducedModeExit s
  | .clockAlarm => Sys2Proof.Machine.execClockAlarm s
  | .powerFailDetect => Sys2Proof.Machine.execPowerFailDetect s
  | .dykeEnd dur => Sys2Proof.Machine.execDykeEnd dur s
  | .por => Sys2Proof.Machine.execPor s
  | .resetN => Sys2Proof.Machine.execResetN s
  | .brownout dumped => Sys2Proof.Machine.execBrownout dumped s
  | .wdog => Sys2Proof.Machine.execWdog s
  | .soft key dump => Sys2Proof.Machine.execSoft key dump s
  | .jtag => Sys2Proof.Machine.execJtag s
  | .moduleBoot slotOk badDies bad => Sys2Proof.Machine.execModuleBoot slotOk badDies bad s
  | .holdupMeasure capf esr => Sys2Proof.Machine.execHoldupMeasure capf esr s
  | .holdupArm => Sys2Proof.Machine.execHoldupArm s
  | .boostFault => Sys2Proof.Machine.execBoostFault s
  | .sleepEntry pending => Sys2Proof.Machine.execSleepEntry pending s
  | .wake sources ticks => Sys2Proof.Machine.execWake sources ticks s
  | .standbyLook temp hum => Sys2Proof.Machine.execStandbyLook temp hum s
  | .padRelease => Sys2Proof.Machine.execPadRelease s
  -- calibration and telemetry
  | .calAdcOffset sf bg offs => Sys2Proof.Machine.execCalAdcOffset sf bg offs s
  | .calServoOffset sf bg means => Sys2Proof.Machine.execCalServoOffset sf bg means s
  | .calLoopGain sf bg err => Sys2Proof.Machine.execCalLoopGain sf bg err s
  | .calWritePower sf area bg errs => Sys2Proof.Machine.execCalWritePower sf area bg errs s
  | .calWriteStrategy sf table => Sys2Proof.Machine.execCalWriteStrategy sf table s
  | .calTimeout sf => Sys2Proof.Machine.execCalTimeout sf s
  | .deferralExpiry e => Sys2Proof.Machine.execDeferralExpiry e s
  | .telemetrySample set inst magTemp humidity draw => Sys2Proof.Machine.execTelemetrySample set inst magTemp humidity draw s
  -- I2C
  | .i2cTransfer v => Sys2Proof.Machine.execI2cTransfer v s
  | .i2cTransferDone r => Sys2Proof.Machine.execI2cTransferDone r s
  -- further events
  | .puFaultRelease sf => Sys2Proof.Machine.execPuFaultRelease sf s
  | .coilDriverFault sf => Sys2Proof.Machine.execCoilDriverFault sf s
  | .msixUnmask v => Sys2Proof.Machine.execMsixUnmask v s
  | .victimWriteback => Sys2Proof.Machine.execVictimWriteback s
  | .heartbeatRegained => Sys2Proof.Machine.execHeartbeatRegained s
  | .mlFrameDiscard => Sys2Proof.Machine.execMlFrameDiscard s
  | .upstreamFrameDiscard sf => Sys2Proof.Machine.execUpstreamFrameDiscard sf s
  | .vinOvervoltage => Sys2Proof.Machine.execVinOvervoltage s
  | .dieTemperatureWarning temp => Sys2Proof.Machine.execDieTemperatureWarning temp s
  | .mgmtAccessDone sf data => Sys2Proof.Machine.execMgmtAccessDone sf data s

end Sys2Proof.Machine
end

