-- ==== Sys2Proof/WellFormed.lean ====
section
/-!
DEFINITION. Well-formed commands: the bounds that the spec gives an operand where its type allows more. The block
answers every command; the statements say for which they speak.
-/

namespace Sys2Proof

/-- A tag (10_host_queues.md R259): 0 to 4095. -/
def tagOk (t : Nat) : Bool := t < 4096

/-- A stripe place within its band (03_media_format.md R53, R55). -/
def placeOk (band swath : Nat) : Bool := band < 1024 && band % 256 ≤ 143 && swath < 369

/-- An address of the input ports that the environment drives (06_loop_engine.md R162): WPH, VBUS, ENC, LOADM. -/
def envPortOk (p : Nat) : Bool :=
  (p / 64 < 4 && p % 64 = 9) || (4 ≤ p / 64 && p / 64 < 6 && p % 64 = 3) ||
    (6 ≤ p / 64 && p / 64 < 15 && (p % 64 = 0 || p % 64 = 2))

/-- What a tick observes: ports of the environment; DRAM words of the 14 GiB and symbols 0 to 35, or 64 for an error
that ECC cannot correct (14_buffer_cache_and_dma.md R368, R369). -/
def TickEnv.wf (e : TickEnv) : Bool :=
  e.ports.all (fun p => envPortOk p.1) && e.strikes.all fun x => x.1 < 0xE000000 && (x.2 < 36 || x.2 = 64)

/-- What a beam channel finds in a cell (05_read_channel.md R129, R138): 15 taps, and the resync marks of a cell. -/
def CellObs.wf (o : CellObs) : Bool :=
  placeOk o.band o.swath && o.taps.length = 15 && o.taps.all (fun t => t < 1024) && o.eye ≤ 64

/-- A cell that optical gives lies on the medium, and its payload is 8,192 bytes (03_media_format.md R64). -/
def MediaCell.wf (c : MediaCell) : Bool := placeOk c.band c.swath && c.beam < 16 && c.data.all fun d => d.length = 8192

/-- A cell of the tail scan lies on the medium (12_clip_store_and_placement.md R326). -/
def ScanCell.wf (c : ScanCell) : Bool := placeOk c.band c.swath && c.beam < 16 && c.gen < 256

/-- What a load finds: a MAGID has 16 bytes (03_media_format.md R79). -/
def LoadFound.wf (f : LoadFound) : Bool :=
  match f with
  | .nothing | .noIdMem | .clamp _ => true
  | .idMem m _ _ => m.length = 16
  | .ledger ds _ _ ls ms => ds.all (fun d => d.1 < 4) && ls.all (fun l => l.1 < 4) && ms.all fun p => p.1 < 4 && p.2.area ≤ 480

def HostFail.wf (f : HostFail) : Bool :=
  match f with
  | .data tag _ => tagOk tag
  | .fetch pair _ => pair < 128
  | .completion => true

/-- How a flash operation ends (13_peat_staging.md R354): levels 0 to 15, four planes. -/
def FlashRes.wf (r : FlashRes) : Bool := r.level.all (fun l => l < 16) && r.failed.all fun p => p < 4

/-- The operands are within the bounds of the spec. -/
def Instr.wf (i : Instr) : Bool :=
  match i with
  | .tickPreamble e => e.wf
  | .tickClose | .slotCut | .tickOverrun | .thirdMiss .. | .microcodeParityError .. | .opNop | .opEnd => true
  | .opLd d n _ _ => d.val + n.val + 1 ≤ 32
  | .opSt a n _ _ => a.val + n.val + 1 ≤ 32
  | .opIn .. | .opOut .. | .opLdi .. | .opMov .. | .opAdd .. | .opSub .. | .opMulx .. | .opShl .. | .opShr ..
  | .opMin .. | .opMax .. | .opClmp .. | .opAbs .. => true
  | .opMvm d a rows cols _ => d.val + rows.val + 1 ≤ 32 && a.val + cols.val + 1 ≤ 32
  | .opSetcp .. | .opBr .. => true
  | .opSincos d _ => d.val + 2 ≤ 32
  | .opRot d a _ => d.val + 2 ≤ 32 && a.val + 2 ≤ 32
  | .opAtan2 .. | .opDiv .. | .opSqrt .. | .opPgen .. | .opSts .. | .opEvt .. | .opAnd .. | .opOr ..
  | .opXor .. | .opLds .. | .loadShadowTable | .loadDefaultTable | .loadProgram .. | .loadPatch | .loadComplete
  | .patchActivation | .liveSlotWrite .. => true
  | .leMemoryWrite o _ => o.toNat % 4 = 0 && 0x82000 ≤ o.toNat && o.toNat < 0xA0000
  | .coefSwap | .coefSet .. | .matchDisable .. | .readClearField .. | .registerWrite .. | .partialWrite ..
  | .unmappedAccess .. | .tickSnapshotRead .. | .timeoutExpiry .. | .fsyncEdge .. | .fsyncTsRead ..
  | .fsyncEnable => true
  | .passPlan _ offered => offered.all fun t => t.length = 16
  | .angleReference .. | .stopRequest .. | .verifyJobDone .. | .verifyLate .. | .relocationVisit ..
  | .relocationMaxwait .. | .opticalDurable .. | .seLinkEnable .. | .seRetrain .. => true
  | .seLinkUp _ _ idMem => idMem.length = 128
  | .seBringupTimeout .. | .seLinkDown .. | .seRetrainFail .. | .puFault .. | .monitor .. | .status ..
  | .mgmtRsp .. | .echoRsp .. | .notwritten .. | .mgmtAccess .. | .setBeamPower .. | .latchRelease .. => true
  | .cellRead _ o => o.wf
  | .bmRestart .. => true
  | .decodeJobDone _ r => r.header.length = 32
  | .stripeRebuild .. | .reReadPass .. | .engineParityFault .. | .engineRestore .. | .rcSplitWrite ..
  | .cmdNone .. | .cmdOff .. | .cmdFocus .. | .cmdLayer .. | .cmdSeek .. | .cmdRelease .. | .focusDrop ..
  | .searchFail .. | .offTrack .. | .swathHoldKick .. | .spindleRun .. | .spindleStop .. | .setSpeed ..
  | .coastSenseDone .. | .bbrakeEnd .. | .alignEnd .. | .rampEnd .. | .attemptFailed .. | .retryWaitEnd ..
  | .catchResync .. | .catchTimeout .. | .accelGrant .. | .speedLock .. | .lockLost .. | .rotorLoss ..
  | .brakeExit .. | .brakeTimeout .. | .bridgeOvercurrent .. | .faultClear .. | .pwmPeriod .. | .vclampSet ..
  | .axisTarget .. | .axisRelative .. | .axisDone .. | .axisHalt .. | .axisDisable .. | .homingStart ..
  | .homeTrip .. | .homingDone .. | .homingFail .. | .axisStall .. | .switchChatter .. | .limitTrip ..
  | .coilFault .. | .doorOpen | .doorClosed | .clampChange .. | .controllerReset .. | .controllerEnable ..
  | .sqTailDoorbell .. | .cqHeadDoorbell .. => true
  | .commandFetch entries => entries.length ≤ 8
  | .lockGrant tag => tagOk tag
  | .commandStart tag _ => tagOk tag
  | .ingestReserve tag => tagOk tag
  | .completionPost tag => tagOk tag
  | .hostDmaFailure f => f.wf
  | .pcieLinkChange .. => true
  | .identify tag => tagOk tag
  | .queueCreate tag => tagOk tag
  | .queueDelete tag => tagOk tag
  | .queueResume tag => tagOk tag
  | .logRead tag => tagOk tag
  | .featureSet tag _ => tagOk tag
  | .featureGet tag => tagOk tag
  | .magazineLoad tag found => tagOk tag && found.wf
  | .tailScan cells voids _ => cells.all ScanCell.wf && voids.all fun v => v.1 < 1024 && v.2.1 < 369
  | .magazineEject tag => tagOk tag
  | .ejectProceed => true
  | .format tag label => tagOk tag && label.length ≤ 64
  | .keyInstall tag blob => tagOk tag && blob.length ≤ 72
  | .firmwareStage tag data => tagOk tag && data.length ≤ 1048576
  | .firmwareCommit tag => tagOk tag
  | .abort tag => tagOk tag
  | .mirrorStatus tag => tagOk tag
  | .pair tag _ => tagOk tag
  | .unpair tag => tagOk tag
  | .mirrorMode tag => tagOk tag
  | .rejoin tag _ => tagOk tag
  | .takeover tag => tagOk tag
  | .asyncEvent tag => tagOk tag
  | .asyncEventReport .. => true
  | .telemetryRead tag => tagOk tag
  | .selfTest tag _ => tagOk tag
  | .selfTestStop tag => tagOk tag
  | .standby tag => tagOk tag
  | .blockRead tag media => tagOk tag && media.all MediaCell.wf
  | .blockWrite tag data media => tagOk tag && data.length ≤ 268435456 && media.all MediaCell.wf
  | .flush tag => tagOk tag
  | .clipOpen tag metadata _ => tagOk tag && metadata.length ≤ 4096
  | .frameAppend tag data => tagOk tag && data.length ≤ 4294967295
  | .clipClose tag metadata => tagOk tag && metadata.length ≤ 4096
  | .frameRead tag media => tagOk tag && media.all MediaCell.wf
  | .catalogueRead tag => tagOk tag
  | .clipVerify tag _ => tagOk tag
  | .bandStep .. | .ledgerVisit .. | .stagedDrain .. | .stagingFloor | .dqReserve .. | .dqKick
  | .reservedSlotTimeout | .peatRead .. | .peatProgram .. | .peatErase .. | .peatJournal .. | .peatRebuild ..
  | .peatPad .. => true
  | .flashOpComplete _ r => r.wf
  | .dieTimeout .. | .peatTempSample .. => true
  | .dramAccess _ _ len data _ _ => 0 < len && data.all fun d => d.length = len
  | .mergeFlush word => word < 0xE000000
  | .ceLeak | .apertureAccess .. => true
  | .mcAccess _ addr len write _ => 0 < len && addr % 64 + len ≤ 64 && addr + len ≤ 0x380000000 && write.all fun d => d.length = len
  | .mcFillDone .. => true
  | .inv addr len => addr + len ≤ 0x380000000
  | .clean addr len => addr + len ≤ 0x380000000
  | .lockfill addr len => addr + len ≤ 0x380000000
  | .invAll | .cleanAll | .mcOpDone | .wayRestore .. | .mcWinWrite .. | .slStart .. | .slStop .. => true
  | .slBeat _ _ data => data.length ≤ 4096
  | .slDone .. | .slBusError .. => true
  | .cipherUnit _ _ _ tw data _ => tw.length = 16 && data.length = 4096
  | .gcmSeal _ _ iv header _ _ _ => iv.length = 24 && header.length = 64
  | .gcmOpen _ _ iv header _ tag _ _ => iv.length = 24 && header.length = 64 && tag.length = 16
  | .reTweak _ _ old new data _ => old.length = 16 && new.length = 16 && data.length = 4096
  | .pairKat .. | .pairRestore .. | .pageKeyLoad .. | .pageCtlWrite .. => true
  | .install _ _ blob => blob.length ≤ 72
  | .erase .. | .eraseAll | .keyAlarm .. | .mlLinkEnable .. | .mlLinkDown => true
  | .mlHello h _ => h.magid.length = 16 && h.mirror.length = 16
  | .mlCmd .. => true
  | .mlData _ _ bytes => bytes.length ≤ 4096
  | .mlRpt .. => true
  | .mlCat _ _ entry => entry.length ≤ 4096
  | .mlDone .. | .mlTunReq .. | .mlTunRsp .. | .mlIrq .. => true
  | .mlRsync _ _ _ bytes => bytes.length ≤ 4096
  | .mlLeave .. | .mlLack .. | .heartbeatLost | .peerRoleChange .. | .reportTimeout | .takeoverDelay
  | .autoRejoin .. | .resyncComplete | .tunnelAccess .. | .tunnelTimeout .. | .claim .. | .eoi .. | .hostEoi ..
  | .forceRaise .. | .targetDisable .. => true
  | .holdoffExpiry host i => host || i.val < 4
  | .peerFifoRead .. | .reducedModeEntry | .reducedModeExit | .clockAlarm | .powerFailDetect | .dykeEnd ..
  | .por | .resetN | .brownout .. | .wdog | .soft .. | .jtag => true
  | .moduleBoot _ _ bad => bad.all fun e => e.1 < 32 && e.2 < 3641
  | .holdupMeasure .. | .holdupArm | .boostFault | .sleepEntry .. | .wake .. | .standbyLook .. | .padRelease => true
  | .calAdcOffset _ _ offs => offs.all fun l => l.length = 16 && l.all fun t => t.length = 127
  | .calServoOffset .. | .calLoopGain .. | .calWritePower .. | .calWriteStrategy .. | .calTimeout ..
  | .deferralExpiry .. | .telemetrySample .. | .i2cTransfer .. | .i2cTransferDone .. | .puFaultRelease ..
  | .coilDriverFault .. | .msixUnmask .. | .victimWriteback | .heartbeatRegained | .mlFrameDiscard
  | .upstreamFrameDiscard .. | .vinOvervoltage | .dieTemperatureWarning .. | .mgmtAccessDone .. => true

end Sys2Proof
end

