-- ==== Sys2Proof/Safety.lean ====
section
/-!
DEFINITION. What counts as a safe run, in the terms that the statements use.
-/

namespace Sys2Proof.Machine

/-- The areas of the block's state: `regs` the registers, `snap` the tick snapshots of the masters, each other its
field of `Block`. -/
inductive Area where
  | part | tick | cyc | regs | snap | aper | tunCtl | tunData | qsel | rdata | fsync | irq | le | servo | spin | axis
  | wp | se | cal | rc | dram | hq | store | pt | cx | ml | pw | out | free
  deriving DecidableEq, Repr

/-- An area is the same in both blocks. -/
def Block.same : Area → Block → Block → Prop
  | .part, b, c => c.part = b.part
  | .tick, b, c => c.tick = b.tick
  | .cyc, b, c => c.cyc = b.cyc
  | .regs, b, c => c.regs = b.regs
  | .snap, b, c => c.tickHi = b.tickHi ∧ c.tickCyc = b.tickCyc
  | .aper, b, c => c.aper = b.aper
  | .tunCtl, b, c => c.tunCtl = b.tunCtl
  | .tunData, b, c => c.tunData = b.tunData
  | .qsel, b, c => c.qsel = b.qsel
  | .rdata, b, c => c.rdata = b.rdata
  | .fsync, b, c => c.fsync = b.fsync
  | .irq, b, c => c.irq = b.irq
  | .le, b, c => c.le = b.le
  | .servo, b, c => c.servo = b.servo
  | .spin, b, c => c.spin = b.spin
  | .axis, b, c => c.axis = b.axis
  | .wp, b, c => c.wp = b.wp
  | .se, b, c => c.se = b.se
  | .cal, b, c => c.cal = b.cal
  | .rc, b, c => c.rc = b.rc
  | .dram, b, c => c.dram = b.dram
  | .hq, b, c => c.hq = b.hq
  | .store, b, c => c.store = b.store
  | .pt, b, c => c.pt = b.pt
  | .cx, b, c => c.cx = b.cx
  | .ml, b, c => c.ml = b.ml
  | .pw, b, c => c.pw = b.pw
  | .out, b, c => c.out = b.out
  | .free, b, c => c.free = b.free

/-- Block `c` differs from `b` in the areas of `l` at most. -/
structure Frame (l : List Area) (b c : Block) : Prop where
  same : ∀ a, a ∉ l → Block.same a b c

/-- The registers that raising an interrupt source may write: IC_ERR and the MSI-X pending bits (R433, R441). -/
def irqReg (o : Nat) : Bool := o = IC_ERR || (MSIX_PBA 0 ≤ o && o < MSIX_PBA 4)

/-- No register but those of `l` differs between the blocks; registers that raising a source writes apart. -/
def Block.regsOnly (l : List Nat) (b c : Block) : Prop := ∀ o, o ∉ l → irqReg o = false → c.rd o = b.rd o

/-- Source `n` stands raised: pending, or delivered and in service (R429). -/
def Block.raised (b : Block) (n : Nat) : Bool := b.irq.pend.contains n || b.irq.act.any fun e => e.1 = n

/-- The command completes: it answers a next state, in which no other command waits than before, and of which `P`
holds. -/
def Does (i : Instr) (s : State) (P : State → Prop) : Prop := ∃ t, exec i s = .next t ∧ t.pending = s.pending ∧ P t

/-- The registers stand in their canonical form: offsets strictly rising, none listed at its reset value. -/
def Block.regsWf (b : Block) : Bool := SMap.wf (resetVal b.part) b.regs

/-- DRAM contents and flaws stand in their canonical form, within the 14 GiB. -/
def Dram.wf (d : Dram) : Bool :=
  SMap.wf (fun _ => dramDefault) d.mem && d.mem.all (fun e => e.1 < dramSize) && SMap.wf (fun _ => 0) d.flaw

/-- The pending sources rise strictly, and each belongs to a unit that the part has (00_scope.md R2). -/
def Irq.wf (p : Part) (i : Irq) : Bool := decide (i.pend.Pairwise (· < ·)) && i.pend.all (srcPresent p)

/-- Host command `c` of opcode `o` is at work: fetched and started, not ended yet (R261, R273). -/
def State.atWork (s : State) (c : Cmd) (o : Nat) : Prop :=
  s.cmd c.tag = some c ∧ c.started = true ∧ c.fin = none ∧ c.opc = o

/-- Host command `c` has been decided: it will end with a status, a DETAIL and RES. -/
def State.endsWith (t : State) (c : Cmd) (status detail res : Nat) : Prop :=
  t.cmd c.tag = some { c with fin := some (Finish.of status detail res) }

/-- Every command that waits is well-formed. -/
def State.queueWf (s : State) : Bool := s.pending.all Instr.wf

/-! ### The loop engine -/

/-- `r` is the execution in progress, and an instruction of `cost` cycles ends within its BUDGET and before cycle
1,984 of the tick (R39, R44). -/
def State.fits (s : State) (r : LeRun) (cost : Nat) : Prop :=
  s.le.run = some r ∧ r.used + cost ≤ r.budget ∧ r.start + r.used + cost ≤ 1984

/-- The machine with `r` as the execution in progress, and nothing else changed. -/
def State.withRun (s : State) (r : LeRun) : State := { s with le := { s.le with run := some r } }

/-- Execution `r'` is `r` past an instruction of `cost` cycles; registers, write buffer, CP and SAT apart. -/
structure LeRun.Past (r r' : LeRun) (cost : Nat) : Prop where
  used : r'.used = r.used + cost
  pc : r'.pc = r.pc + 1
  entry : r'.entry = r.entry
  prog : r'.prog = r.prog
  start : r'.start = r.start
  budget : r'.budget = r.budget
  quarter : r'.quarter = r.quarter
  dbase : r'.dbase = r.dbase
  parity : r'.parity = r.parity

/-- Every register that is not in `ds` holds what it held. -/
def LeRun.KeepsX (r r' : LeRun) (ds : List Nat) : Prop := ∀ i, i < 32 → i ∉ ds → r'.getX i = r.getX i

/-- The instruction wrote the word `v` to XD, unless D is 0, and nothing else (R154). -/
structure LeRun.Wrote (r r' : LeRun) (cost : Nat) (d : Fin 32) (v : Word) : Prop extends LeRun.Past r r' cost where
  value : d ≠ 0 → r'.getX d = v
  zero : r'.getX 0 = 0
  others : LeRun.KeepsX r r' [d.val]
  wbuf : r'.wbuf = r.wbuf
  cp : r'.cp = r.cp
  sat : r'.sat = r.sat

/-- The instruction wrote the number `z`, saturated to 32 bits, to XD, unless D is 0; SAT is set where it saturates,
also for X0 (R157). -/
structure LeRun.WroteSat (r r' : LeRun) (cost : Nat) (d : Fin 32) (z : Int) : Prop extends LeRun.Past r r' cost where
  value : d ≠ 0 → (r'.getX d).toInt = max (-2147483648) (min 2147483647 z)
  zero : r'.getX 0 = 0
  others : LeRun.KeepsX r r' [d.val]
  wbuf : r'.wbuf = r.wbuf
  cp : r'.cp = r.cp
  sat : r'.sat = (r.sat || decide (z < -2147483648 ∨ 2147483647 < z))

end Sys2Proof.Machine

namespace Sys2Proof

/-- The areas of the block's state that a command may change; every other area it leaves as it is. A loop instruction may
cut its execution, a surface may go to its safe state (02_the_tick.md R39, R42), and an interrupt source that is raised may
emit a message or a Melar frame (17_interrupts.md R441, R442): the areas of these are listed too. -/
def Instr.areas (i : Instr) : List Machine.Area :=
  match i with
  | .tickPreamble ..
    => [.tick, .cyc, .regs, .irq, .le, .servo, .spin, .axis, .wp, .se, .cal, .dram, .hq, .store, .pt, .ml, .pw, .out]
  | .tickClose => [.cyc, .regs, .irq, .le, .servo, .spin, .wp, .hq, .store, .ml, .out]
  | .slotCut | .microcodeParityError .. | .opNop | .opLd .. | .opSt .. | .opIn .. | .opOut .. | .opLdi ..
  | .opMov .. | .opAdd .. | .opSub .. | .opMulx .. | .opShl .. | .opShr .. | .opMin .. | .opMax .. | .opClmp ..
  | .opAbs .. | .opMvm .. | .opSetcp .. | .opBr .. | .opSincos .. | .opRot .. | .opAtan2 .. | .opDiv ..
  | .opSqrt .. | .opPgen .. | .opSts .. | .opEvt .. | .opAnd .. | .opOr .. | .opXor .. | .opLds ..
  | .puFault .. | .monitor .. | .cmdOff .. | .cmdRelease .. | .focusDrop .. | .offTrack ..
    => [.regs, .irq, .le, .servo, .wp, .se, .cal, .hq, .store, .ml, .out]
  | .tickOverrun | .loadShadowTable | .loadDefaultTable | .loadProgram .. | .loadPatch | .patchActivation
  | .liveSlotWrite .. | .leMemoryWrite .. => [.regs, .le]
  | .thirdMiss .. | .opEnd => [.regs, .irq, .le, .servo, .spin, .axis, .wp, .se, .cal, .hq, .store, .ml, .out]
  | .loadComplete => [.regs, .irq, .le, .ml, .out]
  | .coefSwap => [.le]
  | .coefSet .. | .matchDisable .. | .partialWrite .. | .fsyncEnable | .latchRelease .. | .wayRestore ..
  | .padRelease | .i2cTransferDone .. | .puFaultRelease .. | .upstreamFrameDiscard .. => [.regs]
  | .readClearField .. => [.regs, .snap, .rdata, .fsync, .irq, .cal, .dram, .pt, .ml, .out]
  | .registerWrite .. | .mlTunReq .. | .clockAlarm | .powerFailDetect | .dykeEnd .. | .por | .resetN
  | .brownout .. | .wdog | .soft .. | .jtag
    => [.tick, .cyc, .regs, .snap, .aper, .tunCtl, .tunData, .qsel, .rdata, .fsync, .irq, .le, .servo, .spin, .axis, .wp, .se, .cal, .rc, .dram, .hq, .store, .pt, .cx, .ml, .pw, .out, .free]
  | .unmappedAccess .. => [.regs, .rdata]
  | .tickSnapshotRead .. => [.cyc, .snap, .rdata]
  | .timeoutExpiry .. | .spindleStop .. | .setSpeed .. | .bbrakeEnd .. | .alignEnd .. | .rampEnd ..
  | .attemptFailed .. | .accelGrant .. | .brakeTimeout .. | .bridgeOvercurrent .. | .faultClear ..
  | .pwmPeriod .. => [.regs, .irq, .le, .servo, .spin, .wp, .hq, .store, .ml, .out]
  | .fsyncEdge .. => [.cyc, .regs, .fsync, .irq, .ml, .out]
  | .fsyncTsRead .. => [.regs, .rdata, .fsync]
  | .passPlan .. | .relocationVisit .. => [.regs, .wp, .cal, .out]
  | .angleReference .. | .notwritten .. => [.regs, .irq, .servo, .wp, .se, .hq, .store, .ml, .out]
  | .stopRequest .. => [.regs, .wp, .out]
  | .verifyJobDone .. | .lockLost .. => [.regs, .irq, .servo, .wp, .hq, .store, .ml, .out]
  | .verifyLate .. => [.regs, .irq, .wp, .ml, .out]
  | .relocationMaxwait .. => [.wp]
  | .opticalDurable .. => [.regs, .wp, .hq, .store]
  | .seLinkEnable .. | .seRetrain .. | .mgmtAccess .. => [.regs, .se, .out]
  | .seLinkUp .. => [.regs, .irq, .servo, .se, .ml, .out]
  | .seBringupTimeout .. => [.regs, .irq, .servo, .se, .hq, .ml, .out]
  | .seLinkDown .. | .status .. => [.regs, .irq, .se, .ml, .out]
  | .seRetrainFail .. => [.servo, .se, .hq]
  | .mgmtRsp .. | .mgmtAccessDone .. => [.regs, .se]
  | .echoRsp .. => [.se, .out]
  | .setBeamPower .. | .calWriteStrategy .. => [.regs, .irq, .se, .cal, .ml, .out]
  | .cellRead .. => [.regs, .irq, .servo, .wp, .cal, .rc, .hq, .store, .ml, .out]
  | .bmRestart .. => [.rc]
  | .decodeJobDone .. | .stripeRebuild .. | .engineParityFault .. | .rcSplitWrite ..
    => [.regs, .irq, .wp, .rc, .ml, .out]
  | .reReadPass .. => [.se, .rc, .out]
  | .engineRestore .. => [.regs, .wp, .rc]
  | .cmdNone .. => [.regs, .irq, .le, .servo, .ml, .out]
  | .cmdFocus .. | .cmdLayer .. | .cmdSeek ..
    => [.regs, .irq, .le, .servo, .wp, .se, .cal, .hq, .store, .ml, .out, .free]
  | .searchFail .. | .swathHoldKick .. => [.regs, .le, .servo]
  | .spindleRun .. => [.regs, .irq, .le, .servo, .spin, .wp, .hq, .store, .ml, .pw, .out, .free]
  | .coastSenseDone .. | .retryWaitEnd .. | .brakeExit ..
    => [.regs, .irq, .le, .servo, .spin, .wp, .hq, .store, .ml, .out, .free]
  | .catchResync .. => [.regs, .irq, .le, .spin, .ml, .out]
  | .catchTimeout .. => [.regs, .irq, .le, .servo, .spin, .wp, .se, .cal, .hq, .store, .ml, .out]
  | .speedLock .. => [.regs, .irq, .spin, .ml, .out]
  | .rotorLoss .. => [.regs, .irq, .le, .servo, .spin, .wp, .cal, .hq, .store, .ml, .out]
  | .vclampSet .. | .clampChange .. | .controllerEnable .. | .pcieLinkChange .. | .pairRestore .. | .mlHello ..
  | .mlRpt .. | .mlIrq .. | .heartbeatLost | .autoRejoin .. | .forceRaise .. | .targetDisable ..
  | .holdupMeasure .. | .boostFault | .coilDriverFault .. | .heartbeatRegained | .mlFrameDiscard
  | .vinOvervoltage => [.regs, .irq, .ml, .out]
  | .axisTarget .. | .axisHalt .. | .axisDisable .. | .homingStart .. | .homeTrip .. => [.regs, .axis]
  | .axisRelative .. => [.axis]
  | .axisDone .. | .homingDone .. | .homingFail .. | .axisStall .. | .switchChatter .. | .limitTrip ..
  | .coilFault .. => [.regs, .irq, .axis, .ml, .out]
  | .doorOpen | .ejectProceed => [.regs, .irq, .le, .servo, .spin, .axis, .wp, .hq, .store, .ml, .out]
  | .doorClosed | .sqTailDoorbell .. | .cqHeadDoorbell .. | .lockGrant .. | .pair .. | .unpair .. | .rejoin ..
  | .mlLinkEnable .. | .mlLinkDown | .mlLeave .. | .reportTimeout | .resyncComplete | .holdupArm
    => [.regs, .irq, .hq, .ml, .out]
  | .controllerReset .. | .commandFetch .. | .completionPost .. | .hostDmaFailure .. | .queueDelete ..
  | .abort .. => [.regs, .irq, .hq, .store, .ml, .out]
  | .commandStart .. => [.regs, .hq, .store]
  | .ingestReserve .. | .featureGet .. | .firmwareStage .. | .firmwareCommit .. | .mirrorStatus ..
  | .asyncEvent .. | .asyncEventReport .. | .selfTest .. | .selfTestStop .. | .flush .. | .stagingFloor
  | .dieTemperatureWarning .. => [.hq]
  | .identify .. | .logRead .. | .blockRead .. | .frameRead .. | .catalogueRead .. | .clipVerify .. => [.hq, .out]
  | .queueCreate .. | .queueResume .. | .mirrorMode .. => [.regs, .hq]
  | .featureSet .. | .format .. | .clipOpen .. | .clipClose .. => [.regs, .hq, .store, .ml, .out]
  | .magazineLoad .. => [.regs, .irq, .le, .servo, .spin, .axis, .wp, .cal, .hq, .store, .ml, .pw, .out, .free]
  | .tailScan .. => [.regs, .wp, .store, .ml, .out]
  | .magazineEject .. => [.regs, .irq, .cal, .hq, .store, .ml, .out]
  | .keyInstall .. | .cipherUnit .. | .gcmSeal .. | .gcmOpen .. | .reTweak .. => [.regs, .irq, .hq, .cx, .ml, .out]
  | .takeover .. | .frameAppend .. | .takeoverDelay => [.regs, .irq, .hq, .store, .pt, .ml, .out]
  | .telemetryRead .. => [.cal, .hq, .out]
  | .standby .. | .reducedModeEntry | .reducedModeExit
    => [.regs, .irq, .le, .servo, .spin, .wp, .hq, .store, .ml, .pw, .out]
  | .blockWrite .. => [.regs, .irq, .hq, .store, .pt, .ml, .out, .free]
  | .bandStep .. => [.regs, .irq, .wp, .cal, .store, .ml, .out]
  | .ledgerVisit .. => [.regs, .wp, .store, .out]
  | .stagedDrain .. => [.store]
  | .dqReserve .. => [.rdata, .pt]
  | .dqKick | .reservedSlotTimeout | .peatRead .. | .peatProgram .. | .peatErase .. | .peatJournal ..
  | .peatRebuild .. | .peatPad .. | .dieTimeout .. => [.regs, .irq, .dram, .pt, .ml, .out]
  | .flashOpComplete .. => [.regs, .irq, .dram, .hq, .store, .pt, .ml, .out]
  | .peatTempSample .. => [.regs, .irq, .dram, .hq, .pt, .ml, .out]
  | .dramAccess .. => [.regs, .irq, .dram, .hq, .ml, .out]
  | .mergeFlush .. | .mcAccess .. | .mcFillDone .. | .inv .. | .clean .. | .lockfill .. | .invAll | .cleanAll
  | .mcOpDone | .slStart .. | .slStop .. | .slBeat .. | .slDone .. | .slBusError .. => [.regs, .irq, .dram, .ml, .out]
  | .ceLeak | .mcWinWrite .. => [.regs, .dram]
  | .apertureAccess .. => [.regs, .rdata, .irq, .dram, .ml, .out]
  | .pairKat .. | .pageKeyLoad .. | .pageCtlWrite .. | .install .. => [.regs, .irq, .cx, .ml, .out]
  | .erase .. | .eraseAll => [.regs, .cx]
  | .keyAlarm .. => [.regs, .irq, .hq, .store, .cx, .ml, .out]
  | .mlCmd .. | .mlData .. | .mlCat .. | .mlDone .. => [.regs, .irq, .wp, .cal, .hq, .store, .pt, .ml, .out]
  | .mlTunRsp .. => [.tunCtl, .tunData, .ml]
  | .mlRsync .. => [.regs, .hq, .store, .pt, .ml, .out]
  | .mlLack .. => [.wp, .store, .ml, .out]
  | .peerRoleChange .. => [.regs, .ml]
  | .tunnelAccess .. | .tunnelTimeout .. => [.regs, .tunCtl, .irq, .ml, .out]
  | .claim .. => [.regs, .rdata, .irq, .out]
  | .eoi .. => [.regs, .irq]
  | .hostEoi .. | .holdoffExpiry .. | .msixUnmask .. => [.regs, .irq, .out]
  | .peerFifoRead .. => [.rdata, .irq]
  | .moduleBoot .. => [.regs, .irq, .hq, .store, .pt, .cx, .ml, .pw, .out]
  | .sleepEntry .. => [.regs, .irq, .ml, .pw, .out]
  | .wake .. => [.tick, .regs, .irq, .ml, .pw, .out]
  | .standbyLook .. => [.pw]
  | .calAdcOffset .. | .deferralExpiry .. => [.regs, .irq, .cal, .ml, .out]
  | .calServoOffset .. | .calWritePower .. | .calTimeout ..
    => [.regs, .irq, .servo, .wp, .se, .cal, .hq, .store, .ml, .pw, .out, .free]
  | .calLoopGain .. => [.regs, .irq, .le, .servo, .wp, .se, .cal, .hq, .store, .ml, .pw, .out, .free]
  | .telemetrySample .. => [.regs, .irq, .wp, .cal, .ml, .out]
  | .i2cTransfer .. => [.regs, .out]
  | .victimWriteback => [.dram]

/-- The command may move the tick counter: the preamble of a tick, a wake, and what resets the module, a register write
among them (R45, R457, R463). -/
def Instr.movesTick (i : Instr) : Bool := i.areas.contains .tick

end Sys2Proof
end

