-- ==== Sys2Proof/Certificates/Slice0/Obligations.lean ====
section
/-!
DEFINITION. The statements for the provers: what the rules of spec/ say of each family of commands and of the machine
as a whole, one definition each.
-/

open Sys2Proof Sys2Proof.Machine

/-! ### The machine as a whole -/

/-- For every command and state: with the command at the front of the queue, the step is exec of it on the state whose queue
is the rest. On an empty queue the block idles: the model's choice (log entry 1). -/
def Obligations.StepRunsFrontCommand : Prop :=
  ∀ s : State, (∀ c rest, s.pending = c :: rest → step s = exec c { s with pending := rest }) ∧
    (s.pending = [] → step s = .next s)

/-- R45: the tick counter is 0. R24: RMODE is 1. R487: every register but PW_STAT reads its reset value. No interrupt source
is pending or in service, nothing has been emitted, no command waits, no host command and no volume is there. What
MachineInvariant says of a state holds. The part is the model's choice (log entry 3). -/
def Obligations.ResetState : Prop :=
  let r := State.reset
  r.pending = [] ∧ r.tick = 0 ∧ r.part = .pl6416 ∧ r.on PW_STAT_RMODE = true ∧
  (∀ o, o ≠ PW_STAT → r.rd o = resetVal .pl6416 o) ∧ r.fld PW_STAT_ARMED = 0 ∧ r.fld PW_STAT_BOOT_DONE = 0 ∧
  r.irq.pend = [] ∧ r.irq.act = [] ∧ r.out = [] ∧ r.hq.cmds = [] ∧ r.store.vol.vstate = 0 ∧ r.dram.mem = [] ∧
  r.le.run = none ∧ r.regsWf = true ∧ r.dram.wf = true ∧ r.irq.wf r.part = true ∧ r.queueWf = true

/-- From every state whose registers, DRAM contents and DRAM flaws stand in canonical form, with no DRAM word beyond the
14 GiB, and whose pending sources rise strictly and belong to units that the part has (R2, R429), a step answers only such
states, whichever command runs. The part never changes. The commands that wait stay well-formed. R45: the tick counter
changes only in a preamble, a wake, or a command that may reset the module (a register write among them). -/
def Obligations.MachineInvariant : Prop :=
  ∀ s t : State, step s = .next t →
    (s.regsWf = true → t.regsWf = true) ∧ (s.dram.wf = true → t.dram.wf = true) ∧
    (s.irq.wf s.part = true → t.irq.wf t.part = true) ∧ (s.queueWf = true → t.queueWf = true) ∧ t.part = s.part ∧
    (∀ c rest, s.pending = c :: rest → c.movesTick = false → t.tick = s.tick)

/-- Whatever the state, every command answers a next state with the queue as it was, and the areas of the state that are not
listed for the command (Instr.areas) are as they were: registers, interrupt state, loop engine, servo, spindles, axes, write
path, Sedge, read channel, DRAM, host queues, store, Peat, cipher, pair, power. DRAM_ACCESS faults beyond the 14 GiB of
R368, of which the spec states nothing, and nowhere else. -/
def Obligations.EveryCommandCompletes : Prop :=
  ∀ (i : Instr) (s : State),
    Does i s (fun t => Frame i.areas s.toBlock t.toBlock) ∨
      ∃ req addr len data strike tag, i = .dramAccess req addr len data strike tag ∧
        dramSize < addr + max len ((data.map (·.length)).getD 0) ∧ exec i s = .fault .dramOutside

/-! ### Registers, ticks and stamps -/

/-- R47: TICK_SNAPSHOT_READ by master m answers the tick counter's low half, and sets m's snapshot to the high half and
to the cycle; the copies of every other master stay. A read of GLB_TICK_HI or GLB_TICK_CYC by a master answers that
master's own copy, whatever the copies of the others are, and changes no copy. -/
def Obligations.TickSnapshotsPerMaster : Prop :=
  ∀ (s : State) (m : Master) (cyc : BitVec 11),
    Does (.tickSnapshotRead m cyc) s (fun t =>
      vget t.rdata m.idx = s.tick.setWidth 32 ∧ vget t.tickHi m.idx = (s.tick >>> 32).setWidth 32 ∧
      vget t.tickCyc m.idx = BitVec.ofNat 32 (max s.cyc (min cyc.toNat 1999)) ∧
      (∀ n, n ≠ m.idx → vget t.tickHi n = vget s.tickHi n ∧ vget t.tickCyc n = vget s.tickCyc n) ∧
      t.tick = s.tick ∧ t.regs = s.regs) ∧
    Does (.readClearField m (BitVec.ofNat 20 (GLB_TICK_HI / 4))) s (fun t =>
      vget t.rdata m.idx = vget s.tickHi m.idx ∧ t.tickHi = s.tickHi ∧ t.tickCyc = s.tickCyc ∧ t.regs = s.regs) ∧
    Does (.readClearField m (BitVec.ofNat 20 (GLB_TICK_CYC / 4))) s (fun t =>
      vget t.rdata m.idx = vget s.tickCyc m.idx ∧ t.tickHi = s.tickHi ∧ t.tickCyc = s.tickCyc ∧ t.regs = s.regs)

/-- R1, R491: on the PL3216, a read of a DWORD of SF2, SF3, SP1, AX2, AX3, AX6, AX7, SE2, SE3 or BM32 to BM63 answers
0 and changes no register; a write and a partial write of it change nothing at all, GLB_DECERR included. -/
def Obligations.AbsentUnitsReadZero : Prop :=
  ∀ (s : State) (m : Master) (o : BitVec 20) (v lost : Word), s.part = .pl3216 →
    (0x108000 ≤ 4 * o.toNat ∧ 4 * o.toNat < 0x110000) ∨ (0x121000 ≤ 4 * o.toNat ∧ 4 * o.toNat < 0x122000) ∨
      (0x130800 ≤ 4 * o.toNat ∧ 4 * o.toNat < 0x131000) ∨ (0x131800 ≤ 4 * o.toNat ∧ 4 * o.toNat < 0x132000) ∨
      (0x14C000 ≤ 4 * o.toNat ∧ 4 * o.toNat < 0x154000) ∨ (0x190000 ≤ 4 * o.toNat ∧ 4 * o.toNat < 0x1A0000) →
    Does (.readClearField m o) s (fun t => vget t.rdata m.idx = 0 ∧ t.regs = s.regs ∧ t.cal = s.cal ∧ t.irq = s.irq) ∧
    exec (.registerWrite m o v lost) s = .next s ∧ exec (.partialWrite m o) s = .next s

/-- R485, R486: a write whose byte enables are not all set is ignored, and an access to an unmapped offset completes: a
read answers 0 and a write is ignored. Each is recorded in GLB_DECERR (VALID, MASTER, KIND, OFFSET) while VALID is 0; a
recorded access stays until VALID is cleared. No other register changes and no interrupt is raised. -/
def Obligations.PartialAndUnmapped : Prop :=
  ∀ (s : State) (m : Master) (o : BitVec 20), absentAt s.part (4 * o.toNat) = false →
    Does (.partialWrite m o) s (fun t => t.irq = s.irq ∧ Block.regsOnly [GLB_DECERR] s.toBlock t.toBlock ∧
      (s.on GLB_DECERR_VALID = true → t.rd GLB_DECERR = s.rd GLB_DECERR) ∧
      (s.on GLB_DECERR_VALID = false → t.fld GLB_DECERR_VALID = 1 ∧ t.fld GLB_DECERR_KIND = 2 ∧
        t.fld GLB_DECERR_OFFSET = 4 * o.toNat % 2 ^ 22 ∧ t.fld GLB_DECERR_MASTER = m.code)) ∧
    (regRow (4 * o.toNat) = none → inAperture (4 * o.toNat) = false → ∀ write : Bool,
      Does (.unmappedAccess m o write) s (fun t => t.irq = s.irq ∧ t.out = s.out ∧ Block.regsOnly [GLB_DECERR] s.toBlock t.toBlock ∧
        (write = false → vget t.rdata m.idx = 0) ∧
        (s.on GLB_DECERR_VALID = true → t.rd GLB_DECERR = s.rd GLB_DECERR) ∧
        (s.on GLB_DECERR_VALID = false → t.fld GLB_DECERR_VALID = 1 ∧ t.fld GLB_DECERR_KIND = write.toNat ∧
          t.fld GLB_DECERR_OFFSET = 4 * o.toNat % 2 ^ 22 ∧ t.fld GLB_DECERR_MASTER = m.code)))

/-- R4: in the global and calibration blocks, whose registers have no behaviour of their own on a write, a full-width
write stores each RW bit, clears a W1C bit where a 1 is written, leaves every other bit, and writes no other register. A
read of a register of the global block other than GLB_TICK_LO, which shows its stored word, answers it, then clears its
RC bits and no other. -/
def Obligations.AccessCodes : Prop :=
  ∀ (s : State) (m : Master) (o : BitVec 20) (v lost : Word) (r : RegRow), regRow (4 * o.toNat) = some r →
    (4 * o.toNat < 0x10000 ∨ (0x30000 ≤ 4 * o.toNat ∧ 4 * o.toNat < 0x40000 ∧ 4 * o.toNat ≠ CAL_QSEL ∧
        absentAt s.part (4 * o.toNat) = false) →
      Does (.registerWrite m o v lost) s (fun t => Block.regsOnly [4 * o.toNat] s.toBlock t.toBlock ∧ t.irq = s.irq ∧
        ∀ i < 32, (t.rd (4 * o.toNat)).getLsbD i =
          ((if (r.rw ||| r.rwh).testBit i then v.getLsbD i else (s.rd (4 * o.toNat)).getLsbD i) &&
            !(r.w1c.testBit i && v.getLsbD i)))) ∧
    (4 * o.toNat < 0x10000 → 4 * o.toNat ≠ GLB_TICK_LO → 4 * o.toNat ≠ GLB_TICK_HI → 4 * o.toNat ≠ GLB_TICK_CYC →
      Does (.readClearField m o) s (fun t => Block.regsOnly [4 * o.toNat] s.toBlock t.toBlock ∧ t.irq = s.irq ∧
        vget t.rdata m.idx = s.rd (4 * o.toNat) ∧
        ∀ i < 32, (t.rd (4 * o.toNat)).getLsbD i = ((s.rd (4 * o.toNat)).getLsbD i && !r.rc.testBit i)))

/-- R50: FSYNC_ENABLE, or a write of EN, from 0 to 1 clears MZ_FSYNC_CNT, NEW and OVF; a write of EN = 0 keeps the capture.
R48, R49: with EN = 1 an edge of the selected sense captures the tick-stamp less the latency 3 + FILT, sets NEW, sets OVF
where NEW was 1, counts (wrapping) and raises source 6; an edge of the other sense, or with EN = 0, changes nothing.
FSYNC_TS_READ answers the low half of the capture, copies it to the holding register, and clears NEW, whatever EN is. -/
def Obligations.FsyncCapture : Prop :=
  ∀ (s : State) (m : Master) (falling : Bool) (cyc : BitVec 11) (v lost : Word),
    let now := max s.cyc (min cyc.toNat 1999)
    let lat := 3 + s.fld MZ_FSYNC_CTL_FILT
    let enabled (t : State) : Prop := t.fld MZ_FSYNC_CTL_EN = 1 ∧ t.rd MZ_FSYNC_CNT = 0 ∧ t.fld MZ_FSYNC_STAT_NEW = 0 ∧
      t.fld MZ_FSYNC_STAT_OVF = 0 ∧ t.fsync = s.fsync ∧
      Block.regsOnly [MZ_FSYNC_CTL, MZ_FSYNC_CNT, MZ_FSYNC_STAT] s.toBlock t.toBlock
    let write : Instr := .registerWrite m (BitVec.ofNat 20 (MZ_FSYNC_CTL / 4)) v lost
    (s.on MZ_FSYNC_CTL_EN = false → Does .fsyncEnable s enabled ∧
      (v.getLsbD 0 = true → Does write s (fun t => enabled t ∧ t.on MZ_FSYNC_CTL_EDGE = v.getLsbD 1))) ∧
    (s.on MZ_FSYNC_CTL_EN = true → exec .fsyncEnable s = .next s) ∧
    (v.getLsbD 0 = false → Does write s (fun t => t.fld MZ_FSYNC_CTL_EN = 0 ∧ t.fsync = s.fsync ∧
      Block.regsOnly [MZ_FSYNC_CTL] s.toBlock t.toBlock)) ∧
    (s.on MZ_FSYNC_CTL_EN = true → s.on MZ_FSYNC_CTL_EDGE = falling → Does (.fsyncEdge falling cyc) s (fun t =>
        t.fsync.cap = BitVec.ofNat 64 (if lat ≤ now then s.tick.toNat % 2 ^ 53 * 2 ^ 11 + (now - lat)
          else (s.tick.toNat + (2 ^ 53 - 1)) % 2 ^ 53 * 2 ^ 11 + (2000 + now - lat)) ∧
        t.fld MZ_FSYNC_STAT_NEW = 1 ∧ (s.on MZ_FSYNC_STAT_NEW = true → t.fld MZ_FSYNC_STAT_OVF = 1) ∧
        t.rd MZ_FSYNC_CNT = s.rd MZ_FSYNC_CNT + 1 ∧ t.raised 6 = true ∧ t.fsync.hold = s.fsync.hold ∧
        Block.regsOnly [MZ_FSYNC_CNT, MZ_FSYNC_STAT] s.toBlock t.toBlock)) ∧
    (s.on MZ_FSYNC_CTL_EN = false ∨ s.on MZ_FSYNC_CTL_EDGE ≠ falling → exec (.fsyncEdge falling cyc) s = .next s) ∧
    Does (.fsyncTsRead m) s (fun t => vget t.rdata m.idx = s.fsync.cap.setWidth 32 ∧ t.fsync.hold = s.fsync.cap ∧
      t.fsync.cap = s.fsync.cap ∧ t.fld MZ_FSYNC_STAT_NEW = 0 ∧ t.fld MZ_FSYNC_STAT_OVF = s.fld MZ_FSYNC_STAT_OVF ∧
      Block.regsOnly [MZ_FSYNC_STAT] s.toBlock t.toBlock)

/-! ### Loop instructions -/

/-- R157, R160: ADD, SUB, MULX, MIN, MAX and CLMP, with an execution in progress in which the instruction fits, answer
a next state: XD holds the exact result saturated to 32 bits (X0 stays 0), SAT is set exactly where it saturated (also
when D is X0), the cost base of the opcode is used, and no other register and nothing else of the machine changes. -/
def Obligations.LoopArithmeticSaturates : Prop :=
  ∀ e ∈ ([(.opAdd, 8, fun x y => x + y), (.opSub, 9, fun x y => x - y),
      (.opMulx, 10, fun x y => (x * y + 1073741824) / 2147483648), (.opMin, 13, fun x y => min x y),
      (.opMax, 14, fun x y => max x y), (.opClmp, 15, fun x y => max (-(y.natAbs : Int)) (min (y.natAbs : Int) x))] :
      List ((Fin 32 → Fin 32 → Fin 32 → Instr) × Nat × (Int → Int → Int))),
    ∀ (s : State) (r : LeRun) (d a b : Fin 32), s.fits r (s.opCost e.2.1) →
      ∃ r', exec (e.1 d a b) s = .next (s.withRun r') ∧
        LeRun.WroteSat r r' (s.opCost e.2.1) d (e.2.2 (r.getX a).toInt (r.getX b).toInt)

/-- R157, R160: SHL and ABS saturate; SHR rounds half up and cannot overflow; DIV truncates toward zero and by 0 gives
full scale of XA's sign with SAT; SQRT gives the floor of the root of XA × 2^31, and 0 with SAT for a negative XA.
Nothing but XD, SAT and the cycle count changes. -/
def Obligations.LoopShiftDivRoot : Prop :=
  ∀ (s : State) (r : LeRun) (d a b n : Fin 32),
    (s.fits r (s.opCost 11) → ∃ r', exec (.opShl d a n) s = .next (s.withRun r') ∧
      LeRun.WroteSat r r' (s.opCost 11) d ((r.getX a).toInt * 2 ^ n.val)) ∧
    (s.fits r (s.opCost 12) → ∃ r', exec (.opShr d a n) s = .next (s.withRun r') ∧
      LeRun.Wrote r r' (s.opCost 12) d (if n = 0 then r.getX a
        else BitVec.ofInt 32 (((r.getX a).toInt + 2 ^ (n.val - 1)) / 2 ^ n.val))) ∧
    (s.fits r (s.opCost 16) → ∃ r', exec (.opAbs d a) s = .next (s.withRun r') ∧
      LeRun.WroteSat r r' (s.opCost 16) d (r.getX a).toInt.natAbs) ∧
    (s.fits r (s.opCost 23) → r.getX b ≠ 0 → ∃ r', exec (.opDiv d a b) s = .next (s.withRun r') ∧
      LeRun.WroteSat r r' (s.opCost 23) d (Int.tdiv ((r.getX a).toInt * 2147483648) (r.getX b).toInt)) ∧
    (s.fits r (s.opCost 23) → r.getX b = 0 → ∃ r', exec (.opDiv d a b) s = .next (s.withRun r') ∧ r'.sat = true ∧
      (d ≠ 0 → r'.getX d = if (r.getX a).toInt < 0 then 0x80000000#32 else 0x7FFFFFFF#32) ∧
      LeRun.Past r r' (s.opCost 23) ∧ LeRun.KeepsX r r' [d.val] ∧ r'.wbuf = r.wbuf ∧ r'.cp = r.cp) ∧
    (s.fits r (s.opCost 24) → 0 ≤ (r.getX a).toInt → ∃ r' z, exec (.opSqrt d a) s = .next (s.withRun r') ∧
      0 ≤ z ∧ z * z ≤ (r.getX a).toInt * 2147483648 ∧ (r.getX a).toInt * 2147483648 < (z + 1) * (z + 1) ∧
      LeRun.WroteSat r r' (s.opCost 24) d z) ∧
    (s.fits r (s.opCost 24) → (r.getX a).toInt < 0 → ∃ r', exec (.opSqrt d a) s = .next (s.withRun r') ∧
      r'.sat = true ∧ (d ≠ 0 → r'.getX d = 0) ∧ LeRun.Past r r' (s.opCost 24) ∧ LeRun.KeepsX r r' [d.val] ∧
      r'.wbuf = r.wbuf ∧ r'.cp = r.cp)

/-- R157, R160: the exceptions that cannot overflow. MOV copies; LDI with HI = 0 sign-extends IMM and with HI = 1
replaces [31:16]; AND, OR and XOR are bitwise; IN takes the port's value (R162) and LDS the flags of LE_PSW_WORD,
zero-extended. X0 ignores the write, and nothing else changes. -/
def Obligations.LoopMovesAndLogic : Prop :=
  ∀ (s : State) (r : LeRun) (d a b : Fin 32) (hi : Bool) (imm : BitVec 16) (port : BitVec 10) (w : Fin 16),
    ∀ e ∈ ([(.opMov d a, 7, r.getX a),
        (.opLdi d hi imm, 6, if hi then imm ++ (r.getX d).setWidth 16 else imm.signExtend 32),
        (.opAnd d a b, 28, r.getX a &&& r.getX b), (.opOr d a b, 29, r.getX a ||| r.getX b),
        (.opXor d a b, 30, r.getX a ^^^ r.getX b), (.opIn d port, 4, s.portIn r.entry port.toNat),
        (.opLds d w, 31, s.rd (LE_PSW_k w) &&& 0xFF#32)] : List (Instr × Nat × Word)),
      s.fits r (s.opCost e.2.1) →
        ∃ r', exec e.1 s = .next (s.withRun r') ∧ LeRun.Wrote r r' (s.opCost e.2.1) d e.2.2

/-- R162, R204, R1: ports 64u + f of a present surface with SMPEN = 1 read the 14-bit sample in [31:18] for f from 0 to
8, ((A + C) - (B + D)) / 4 for f = 16 and (E - F) / 2 for f = 17; with SMPEN = 0, or on an absent surface, they read 0;
port 960 reads the tick counter, 961 the running entry, 962 the reduced mode. -/
def Obligations.LoopPortValues : Prop :=
  ∀ (s : State) (entry : Nat) (u : Fin 4),
    (s.part.hasSurf u → s.on (SFs_CTL_SMPEN u) → ∀ f < 9,
      (s.portIn entry (64 * u.val + f)).toInt = s.sfld (SFs_SMP_k_CODE u f) * 262144) ∧
    (s.part.hasSurf u → s.on (SFs_CTL_SMPEN u) →
      (s.portIn entry (64 * u.val + 16)).toInt * 4 = 262144 * (s.sfld (SFs_SMP_k_CODE u 0) + s.sfld (SFs_SMP_k_CODE u 2)
        - s.sfld (SFs_SMP_k_CODE u 1) - s.sfld (SFs_SMP_k_CODE u 3))) ∧
    (s.part.hasSurf u → s.on (SFs_CTL_SMPEN u) →
      (s.portIn entry (64 * u.val + 17)).toInt * 2 =
        262144 * (s.sfld (SFs_SMP_k_CODE u 4) - s.sfld (SFs_SMP_k_CODE u 5))) ∧
    (s.part.hasSurf u = false ∨ s.on (SFs_CTL_SMPEN u) = false → ∀ f < 18, s.portIn entry (64 * u.val + f) = 0) ∧
    s.portIn entry 960 = s.tick.setWidth 32 ∧ s.portIn entry 961 = BitVec.ofNat 32 entry ∧
    s.portIn entry 962 = BitVec.ofNat 32 (s.fld PW_STAT_RMODE)

/-- R160: SINCOS writes the cosine to XD and the sine to XD+1 and never sets SAT; +1 reads 0x7FFF_FFFF and -1 reads
0x8000_0000; else each is within 512 of the exact value, saturated. ROT writes the rotated pair to XD and XD+1, each
within 512 of the exact value, saturated with SAT. ATAN2 writes the angle to XD within 1,024 of the exact one, 0 for
(0, 0), and never sets SAT. Within the bound the value is free (log entry 2). -/
def Obligations.LoopAngles : Prop :=
  ∀ (s : State) (r : LeRun) (d a b : Fin 32), d.val + 1 < 32 → a.val + 1 < 32 →
    (s.fits r (s.opCost 20) → ∃ r' c si, exec (.opSincos d a) s = .next (s.withRun r') ∧ LeRun.Past r r' (s.opCost 20) ∧
      LeRun.KeepsX r r' [d.val, d.val + 1] ∧ r'.sat = r.sat ∧ r'.wbuf = r.wbuf ∧ r'.cp = r.cp ∧
      |c - trigRound (trigOf (r.getX a)).1| ≤ 512 ∧ |si - trigRound (trigOf (r.getX a)).2| ≤ 512 ∧
      (d ≠ 0 → r'.getX d = if r.getX a = 0 then 0x7FFFFFFF#32 else if r.getX a = 0x80000000#32 then 0x80000000#32
        else sat32 c) ∧
      (r'.getX (d.val + 1) = if r.getX a = 0x40000000#32 then 0x7FFFFFFF#32
        else if r.getX a = 0xC0000000#32 then 0x80000000#32 else sat32 si)) ∧
    (s.fits r (s.opCost 21) → ∃ r' x y, exec (.opRot d a b) s = .next (s.withRun r') ∧ LeRun.Past r r' (s.opCost 21) ∧
      LeRun.KeepsX r r' [d.val, d.val + 1] ∧ r'.wbuf = r.wbuf ∧ r'.cp = r.cp ∧
      (d ≠ 0 → r'.getX d = sat32 x) ∧ r'.getX (d.val + 1) = sat32 y ∧
      r'.sat = (r.sat || !fits32 x || !fits32 y) ∧
      |x - ((r.getX a).toInt * (trigOf (r.getX b)).1 - (r.getX (a.val + 1)).toInt * (trigOf (r.getX b)).2
        + 2 ^ 59) / trigOne| ≤ 512 ∧
      |y - ((r.getX a).toInt * (trigOf (r.getX b)).2 + (r.getX (a.val + 1)).toInt * (trigOf (r.getX b)).1
        + 2 ^ 59) / trigOne| ≤ 512) ∧
    (s.fits r (s.opCost 22) → ∃ r' e, exec (.opAtan2 d a b) s = .next (s.withRun r') ∧ LeRun.Past r r' (s.opCost 22) ∧
      LeRun.KeepsX r r' [d.val] ∧ r'.sat = r.sat ∧ r'.wbuf = r.wbuf ∧ r'.cp = r.cp ∧ |e| ≤ 1024 ∧
      (d ≠ 0 → r'.getX d = if r.getX a = 0 ∧ r.getX b = 0 then 0
        else BitVec.ofInt 32 (atanExact (r.getX a).toInt (r.getX b).toInt + e)))

/-- R164: LD of N words copies N consecutive committed data words into XD onwards, whatever the write buffer holds; ST
stages N data words, OUT, STS, EVT and PGEN one effect each, after those staged before. Nothing but the execution
itself changes until the commit: registers, ports, status words, events and axes stand as they stood. -/
def Obligations.LoopStagesEffects : Prop :=
  ∀ (s : State) (r : LeRun) (d : Fin 32) (n : Fin 8) (absolute : Bool) (addr : BitVec 13),
    (s.fits r (s.opCost 2 + n.val + 1) → d.val + n.val < 32 → ∃ r', exec (.opLd d n absolute addr) s = .next (s.withRun r') ∧
      LeRun.Past r r' (s.opCost 2 + n.val + 1) ∧ r'.wbuf = r.wbuf ∧ r'.cp = r.cp ∧ r'.sat = r.sat ∧
      (∀ i ≤ n.val, d.val + i ≠ 0 →
        r'.getX (d.val + i) = s.rd (LE_DMEM_w (((if absolute then 0 else r.dbase) + addr.toNat + i) % 8192))) ∧
      (∀ i < 32, i < d.val ∨ d.val + n.val < i → r'.getX i = r.getX i)) ∧
    (s.fits r (s.opCost 3 + n.val + 1) → r.wbuf.length + n.val < 64 →
      ∃ r', exec (.opSt d n absolute addr) s = .next (s.withRun r') ∧ LeRun.Past r r' (s.opCost 3 + n.val + 1) ∧
      r'.x = r.x ∧ r'.cp = r.cp ∧ r'.sat = r.sat ∧
      r'.wbuf = r.wbuf ++ (List.range (n.val + 1)).map fun i =>
        .data ((if absolute then 0 else r.dbase) + addr.toNat + i) (r.getX (d.val + i))) ∧
    (∀ port : BitVec 10, s.fits r (s.opCost 5) → r.wbuf.length < 64 →
      ∃ r', exec (.opOut d port) s = .next (s.withRun r') ∧ LeRun.Past r r' (s.opCost 5) ∧
      r'.wbuf = r.wbuf ++ [.port port.toNat (portTake port.toNat (r.getX d))] ∧
      (d ≠ 0 → r'.getX d = portTake port.toNat (r.getX d)) ∧ LeRun.KeepsX r r' [d.val] ∧ r'.sat = r.sat ∧ r'.cp = r.cp) ∧
    (∀ (clear : Bool) (w : Fin 16), s.fits r (s.opCost 26) → r.wbuf.length < 64 →
      ∃ r', exec (.opSts d clear w) s = .next (s.withRun r') ∧ LeRun.Past r r' (s.opCost 26) ∧ r'.x = r.x ∧
      r'.sat = r.sat ∧ r'.cp = r.cp ∧ r'.wbuf = r.wbuf ++ [.sts w.val clear ((r.getX d).setWidth 8)]) ∧
    (∀ code : BitVec 8, s.fits r (s.opCost 27) → r.wbuf.length < 64 →
      ∃ r', exec (.opEvt code) s = .next (s.withRun r') ∧ LeRun.Past r r' (s.opCost 27) ∧ r'.x = r.x ∧
      r'.sat = r.sat ∧ r'.cp = r.cp ∧ r'.wbuf = r.wbuf ++ [.evt code]) ∧
    (∀ a : Fin 9, s.fits r (s.opCost 25) → r.wbuf.length < 64 → ∃ r' p v acc t landed,
      exec (.opPgen a) s = .next (s.withRun r') ∧ LeRun.Past r r' (s.opCost 25) ∧ r'.x = r.x ∧ r'.sat = r.sat ∧
      r'.cp = r.cp ∧ r'.wbuf = r.wbuf ++ [.pgen a.val p v acc t landed])

/-- R158, R160: MVM writes each of its ROWS results as the saturated sum of its COLS terms
(x × M + 2^(14 + SH)) >> (15 + SH), read row-major from CP, plus XD+i where ACC is set, and advances CP by
ROWS × COLS; SETCP sets CP; BR skips SKIP further instructions where its condition on XA holds, at one more cycle; NOP
only passes its cycle. -/
def Obligations.LoopMatrixAndFlow : Prop :=
  ∀ (s : State) (r : LeRun) (d a : Fin 32) (rows cols : Fin 16) (acc : Bool) (off : BitVec 12) (c : Cond) (skip : BitVec 8),
    (s.fits r (s.opCost 17 + (rows.val + 8) / 8 * (cols.val + 1)) → d.val + rows.val < 32 → a.val + cols.val < 32 →
      ∃ r', exec (.opMvm d a rows cols acc) s = .next (s.withRun r') ∧
      LeRun.Past r r' (s.opCost 17 + (rows.val + 8) / 8 * (cols.val + 1)) ∧ r'.wbuf = r.wbuf ∧
      r'.cp = (r.cp + (rows.val + 1) * (cols.val + 1)) % 4096 ∧
      (∀ i ≤ rows.val, d.val + i ≠ 0 → (r'.getX (d.val + i)).toInt = max (-2147483648) (min 2147483647
        ((if acc then (r.getX (d.val + i)).toInt else 0) + ((List.range (cols.val + 1)).map fun k =>
          coefTerm (r.getX (a.val + k)) (s.cmem r.quarter (r.cp + i * (cols.val + 1) + k))).sum))) ∧
      (∀ i < 32, i < d.val ∨ d.val + rows.val < i → r'.getX i = r.getX i)) ∧
    (s.fits r (s.opCost 18) → exec (.opSetcp off) s =
      .next (s.withRun { r with used := r.used + s.opCost 18, pc := r.pc + 1, cp := off.toNat })) ∧
    (s.fits r (s.opCost 19 + 1) → condHolds c (r.getX a) = true → exec (.opBr c a skip) s =
      .next (s.withRun { r with used := r.used + s.opCost 19 + 1, pc := r.pc + 1 + skip.toNat })) ∧
    (s.fits r (s.opCost 19) → condHolds c (r.getX a) = false → exec (.opBr c a skip) s =
      .next (s.withRun { r with used := r.used + s.opCost 19, pc := r.pc + 1 })) ∧
    (s.fits r (s.opCost 0) → exec .opNop s = .next (s.withRun { r with used := r.used + s.opCost 0, pc := r.pc + 1 }))

/-! ### The tick and the loop engine -/

/-- R165, R164, R40: an END that completes within BUDGET and before cycle 1,984 ends the execution; each private data
word holds the last value staged to it, or what it held; with SAT the entry's SAT flag is set; the miss count of the
entry is 0. Stated with no held write and no further enabled entry, so that nothing else runs at the boundary, and for
a write buffer of data writes. -/
def Obligations.EndCommits : Prop :=
  ∀ (s : State) (r : LeRun), s.fits r (s.opCost 1) → s.le.held = [] → s.le.stalled = [] → r.entry < 48 →
    (∀ k, s.le.next ≤ k → k < 48 → s.slotEn k = false) →
    (∀ e ∈ r.wbuf, ∃ a v, e = .data a v) →
    Does .opEnd s (fun t => t.le.run = none ∧ t.le.cyc = r.start + r.used + s.opCost 1 ∧
      t.fld (missFld r.entry) = 0 ∧ t.tick = s.tick ∧ t.servo = s.servo ∧
      (r.sat = true → r.entry < 32 → t.onBit LE_SAT_LO_SAT r.entry = true) ∧
      (r.sat = false → t.irq = s.irq ∧ t.out = s.out) ∧
      ∀ a, 0x200 ≤ a → a < 8192 → t.dmem a =
        r.wbuf.foldl (fun x e => match e with
          | .data a' v => if a' % 8192 = a then v else x
          | _ => x) (s.dmem a))

/-- R39, R40: SLOT_CUT ends the execution at cycle start + BUDGET; nothing commits, the entry is recorded and its
consecutive misses count one more (the third is handed to THIRD_MISS). R44: TICK_OVERRUN ends it at cycle 1,984, counts
GLB_TOVR_CNT and records tick and entry. R177: a first parity error sets its bit of LE_ERR, counts, records address and
entry, raises source 10, and charges the cycles used. No data word, exchange word, port or axis changes. -/
def Obligations.CutCommitsNothing : Prop :=
  ∀ (s : State) (r : LeRun), s.le.run = some r → s.le.held = [] → s.le.stalled = [] → r.entry < 48 →
    (∀ k, s.le.next ≤ k → k < 48 → s.slotEn k = false) →
    Does .slotCut s (fun t => t.le.run = none ∧ t.le.cyc = min (r.start + r.budget) 1984 ∧
      t.le.cuts = s.le.cuts ++ [r.entry] ∧ t.le.exNew = s.le.exNew ∧ t.axis = s.axis ∧ t.irq = s.irq ∧
      (s.fld (missFld r.entry) < 2 → t.fld (missFld r.entry) = s.fld (missFld r.entry) + 1) ∧
      (2 ≤ s.fld (missFld r.entry) → r.entry ∈ t.le.third) ∧
      Block.regsOnly [(missFld r.entry).reg] s.toBlock t.toBlock) ∧
    Does .tickOverrun s (fun t => t.le.run = none ∧ t.le.cyc = 1984 ∧ r.entry ∈ t.le.cuts ∧
      t.le.exNew = s.le.exNew ∧ t.axis = s.axis ∧ t.irq = s.irq ∧
      t.fld GLB_TOVR_CNT_COUNT = min (s.fld GLB_TOVR_CNT_COUNT + 1) 0xFFFF ∧
      t.fld GLB_TOVR_LAST_TICK = s.tick.toNat % 2 ^ 16 ∧ t.fld GLB_TOVR_LAST_ENTRY = r.entry ∧ 5 ∈ t.le.post ∧
      Block.regsOnly [(missFld r.entry).reg, GLB_TOVR_CNT, GLB_TOVR_LAST] s.toBlock t.toBlock) ∧
    (∀ (mem : LeMem) (addr : BitVec 14) (used : BitVec 11), r.parity = 0 → r.used + used.toNat ≤ r.budget →
      Does (.microcodeParityError mem addr used) s (fun t =>
        t.le.run = some { r with used := r.used + used.toNat, parity := 1 } ∧ t.raised 10 = true ∧
        t.onBit ⟨LE_ERR, 3, 0⟩ (leMemCode mem) = true ∧ t.fld LE_ERR_ADDR_MEM = leMemCode mem ∧
        t.fld LE_ERR_ADDR_ENTRY = r.entry ∧ t.fld LE_ERR_ADDR_ADDR = addr.toNat ∧
        Block.regsOnly [LE_ERR, LE_ERR_ADDR] s.toBlock t.toBlock))

/-- R45: TICK_PREAMBLE advances the tick counter by one, begins the tick at cycle 0 of the engine with no record of
cuts, and takes a requested BANK toggle and a new SET (R156). R46: asleep, preamble and close change nothing. R31:
TICK_CLOSE posts what waits for the close and reaches cycle 1,984. R41: THIRD_MISS of an entry whose count reached 3
of OWNER 7 sets the count to 0 and clears its EN (those of entries 0 to 3 stay), and of a surface starts its safe
state. R30, R456: TIMEOUT_EXPIRY of a watchdog raises source
44; that of the idle timer stops the spindles only when it has run. -/
def Obligations.TickAdvances : Prop :=
  ∀ (s : State) (e : TickEnv) (k : Fin 48),
    (s.pw.asleep = false → Does (.tickPreamble e) s (fun t => t.tick = s.tick + 1 ∧ t.cyc = 0 ∧ t.part = s.part ∧
      t.tickHi = s.tickHi ∧ t.tickCyc = s.tickCyc ∧ t.fsync = s.fsync ∧ t.cx = s.cx ∧ t.rdata = s.rdata)) ∧
    (s.pw.asleep = true → exec (.tickPreamble e) s = .next s ∧ exec .tickClose s = .next s) ∧
    (s.pw.asleep = false → Does .tickClose s (fun t => t.le.post = [] ∧ t.le.cuts = [] ∧ t.cyc = 1984 ∧
      t.tick = s.tick)) ∧
    (k.val ∈ s.le.third → ∀ o : Fin 4, slotOwner (s.slotEff k) = o.val → s.part.hasSurf o.val = true →
      s.on (SEs_LSAFE_SAFE o) = false → Does (.thirdMiss k) s (fun t =>
        (vget t.servo o).safeTick = some s.tick.toNat ∧ t.tick = s.tick)) ∧
    (k.val ∉ s.le.third → exec (.thirdMiss k) s = .next s) ∧
    (k.val ∈ s.le.third → slotOwner (s.slotEff k) = 7 → Does (.thirdMiss k) s (fun t =>
      t.fld (missFld k) = 0 ∧ t.fld (LE_SLOT_k_W0_EN k) = (if k.val < 4 then s.fld (LE_SLOT_k_W0_EN k) else 0) ∧
      t.irq = s.irq ∧ t.spin = s.spin ∧ t.axis = s.axis ∧ t.servo = s.servo ∧
      Block.regsOnly [(missFld k).reg, LE_SLOT_k_W0 k] s.toBlock t.toBlock)) ∧
    Does (.timeoutExpiry true) s (fun t => t.raised 44 = true ∧ Block.regsOnly [] s.toBlock t.toBlock) ∧
    (s.hq.idle = 0 ∨ s.tick.toNat < s.hq.lastIo + 400000 * s.hq.idle + 1 → exec (.timeoutExpiry false) s = .next s) ∧
    (s.hq.idle ≠ 0 → s.hq.lastIo + 400000 * s.hq.idle + 1 ≤ s.tick.toNat → Does (.timeoutExpiry false) s (fun t =>
      ∀ n : Fin 2, s.part.hasSpin n = true → t.fld (SPn_CTL_RUN n) = 0))

/-- R172: the four load commands set BUSY and the KIND while BUSY is 0, and are ignored while it is 1. At the end of a
load BUSY is 0, KIND is the load's, OK is 1 exactly when no check fails, ERR and WHERE name the first failed check;
source 8 is raised on success and 9 on failure. A failed load changes no register but LE_LOAD_STAT and, for a program,
its descriptor's result word; a program that passes becomes VALID with its WCET and staged-write count. -/
def Obligations.LoadsReport : Prop :=
  ∀ (s : State) (p : Fin 256),
    (∀ e ∈ ([(.loadShadowTable, 1, 0), (.loadDefaultTable, 2, 0), (.loadProgram p, 3, p.val), (.loadPatch, 4, 0)] :
        List (Instr × Nat × Nat)),
      (s.on LE_LOAD_STAT_BUSY = true → exec e.1 s = .next s) ∧
      (s.on LE_LOAD_STAT_BUSY = false → Does e.1 s (fun t => t.fld LE_LOAD_STAT_BUSY = 1 ∧
        t.fld LE_LOAD_KIND = e.2.1 ∧ (e.2.1 = 3 → t.fld LE_LOAD_INDEX = p.val) ∧ t.irq = s.irq ∧
        t.le = { s.le with load := some ⟨e.2.1, e.2.2⟩ } ∧
        Block.regsOnly [LE_LOAD, LE_LOAD_STAT] s.toBlock t.toBlock))) ∧
    (∀ l : LeLoad, s.le.load = some l → 1 ≤ l.kind → l.kind ≤ 4 → l.index < 256 → Does .loadComplete s (fun t =>
      t.fld LE_LOAD_STAT_BUSY = 0 ∧ t.fld LE_LOAD_STAT_KIND = l.kind ∧ t.le.load = none ∧
      t.fld LE_LOAD_STAT_OK = (decide ((s.loadCheck l).1 = 0)).toNat ∧
      ((s.loadCheck l).1 < 64 → t.fld LE_LOAD_STAT_ERR = (s.loadCheck l).1) ∧
      ((s.loadCheck l).1 = 0 → t.raised 8 = true) ∧
      ((s.loadCheck l).1 ≠ 0 → t.raised 9 = true ∧ t.le = { s.le with load := none } ∧
        Block.regsOnly [LE_LOAD_STAT, LE_PDESC_p_W3 l.index] s.toBlock t.toBlock) ∧
      (l.kind = 2 → t.le.table = some ((List.range 48).map (defaultSlot s.part))) ∧
      (l.kind = 3 → (s.loadCheck l).1 = 0 → t.fld (LE_PDESC_p_W0_VALID l.index) = 1)))

/-- R175: a live-slot write reads back at once in every field but DIV and BUDGET of entries 0 to 3, and is noted for
the next preamble. R167: with no execution in progress a write to a private data word takes effect; during one it is
held, and nothing changes yet. R156: COEF_SWAP requests one toggle of BANK, COEF_SET stores SET. R179: MATCH_DISABLE
clears EN of that match only; PATCH_ACTIVATION, with a patch waiting and every miss count 0, clears EN of all 16
matches, takes the patch's cost bases, and stops dispatch for two ticks. -/
def Obligations.LoopMemoryWrites : Prop :=
  ∀ (s : State) (k : Fin 48) (v : Word) (set : BitVec 6) (m : Fin 16),
    Does (.liveSlotWrite k false v) s (fun t =>
      t.rd (LE_SLOT_k_W0 k) = ((s.rd (LE_SLOT_k_W0 k) &&& (if k.val < 4 then 0x7F00FF00#32 else 0x7F000000#32)) |||
        (v &&& (if k.val < 4 then 0x80FF00FF#32 else 0x80FFFFFF#32))) ∧ k.val ∈ t.le.dirty ∧ t.irq = s.irq ∧
      t.le.slot = s.le.slot ∧ Block.regsOnly [LE_SLOT_k_W0 k] s.toBlock t.toBlock) ∧
    Does (.liveSlotWrite k true v) s (fun t =>
      t.rd (LE_SLOT_k_W1 k) = ((s.rd (LE_SLOT_k_W1 k) &&& (if k.val < 4 then 0x0FFFFFFF#32 else 0x0FFFF800#32)) |||
        (v &&& (if k.val < 4 then 0xF0000000#32 else 0xF00007FF#32))) ∧ k.val ∈ t.le.dirty ∧ t.irq = s.irq ∧
      t.le.slot = s.le.slot ∧ Block.regsOnly [LE_SLOT_k_W1 k] s.toBlock t.toBlock) ∧
    (∀ a, 0x200 ≤ a → a < 8192 →
      (s.le.run = none → Does (.leMemoryWrite (BitVec.ofNat 22 (LE_DMEM_w a)) v) s (fun t => t.dmem a = v ∧
        t.le = s.le ∧ t.irq = s.irq ∧ Block.regsOnly [LE_DMEM_w a] s.toBlock t.toBlock)) ∧
      (s.le.run.isSome = true → s.le.held.length < 16 → Does (.leMemoryWrite (BitVec.ofNat 22 (LE_DMEM_w a)) v) s
        (fun t => t.regs = s.regs ∧ t.le = { s.le with held := s.le.held ++ [(LE_DMEM_w a, v)] } ∧ t.irq = s.irq))) ∧
    Does .coefSwap s (fun t => t.le = { s.le with swap := true } ∧ t.regs = s.regs) ∧
    Does (.coefSet set) s (fun t => t.fld LE_COEF_CTL_SET =
        (if s.part.hasSurf 2 then set else set &&& 0x13#6).toNat ∧ t.fld LE_COEF_CTL_BANK = s.fld LE_COEF_CTL_BANK ∧
      t.le = s.le ∧ Block.regsOnly [LE_COEF_CTL] s.toBlock t.toBlock) ∧
    Does (.matchDisable m) s (fun t => t.fld (LE_MATCH_k_EN m) = 0 ∧ t.le = s.le ∧
      Block.regsOnly [LE_MATCH_k m] s.toBlock t.toBlock) ∧
    (∀ p : LePatch, s.le.patch = some p → s.le.actLeft = 0 → s.noMisses = true → p.words.length ≤ 1024 →
      Does .patchActivation s (fun t => t.le = { s.le with actLeft := 3 } ∧ t.irq = s.irq ∧
        (∀ j : Fin 16, t.fld (LE_MATCH_k_EN j) = 0) ∧
        ∀ j : Fin 64, t.fld (LE_OPCOST_k_BASE j) = p.costs.getD j 0 % 256 ∧ t.fld (LE_OPCOST_k_PATCHED j) = 1))

/-! ### Write path -/

/-- R83, R85: PASS_PLAN, on a surface that may be written and is on target, fixes a plan over the longest run of the
offered stripes that qualifies; it takes the next pass number and consecutive WSEQ values from one above the last
assigned. R82: at the ANGLE_REFERENCE the planned pass starts. R86: a STOP_REQUEST cancels a plan whose reference has
not passed, returns its WSEQ values (R85), and sends PURGE where the link is up; the pass under way stays. -/
def Obligations.PassLifecycle : Prop :=
  ∀ (s : State) (u : Fin 4) (offered : List (List Sys2Proof.Cell)), s.part.hasSurf u = true →
    (let w := vget s.wp u
     let run := planRun (s.failedBeams u) (bandSlots w.band - w.stripe) offered
     w.planned = none → s.writable u = true → s.checkDue u = false → w.throt = false →
      s.onTarget u w.pointerIndex = true → run ≠ [] → w.swath < endSwath w.band →
      (vget s.servo u).layer = bandLayer w.band → s.fld (WP_Ss_WSEQ_WSEQ u) + run.length < 2 ^ 32 →
      Does (.passPlan u offered) s (fun t => (vget t.wp u).planned = some
          { num := (w.passNum + 1) % 65536, kind := .user, band := w.band, swath := w.swath, first := w.stripe
            stripes := run, images := s.userImages u w.band w.swath w.stripe run
            wseq0 := s.fld (WP_Ss_WSEQ_WSEQ u) + 1, sent := 0, missed := [] } ∧
        t.fld (WP_Ss_WSEQ_WSEQ u) = s.fld (WP_Ss_WSEQ_WSEQ u) + run.length ∧ (vget t.wp u).running = w.running ∧
        (∀ v, v ≠ u → vget t.wp v = vget s.wp v) ∧ t.irq = s.irq ∧
        Block.regsOnly [WP_Ss_WSEQ u, WP_STAT] s.toBlock t.toBlock)) ∧
    (∀ p, (vget s.wp u).planned = some p → (vget s.wp u).running = none →
      Does (.angleReference u) s (fun t => (vget t.wp u).running = some p ∧ (vget t.wp u).planned = none ∧
        t.onBit WP_STAT_WRITING u.val = true)) ∧
    (∀ p, (vget s.wp u).planned = some p → p.kind = .user → p.wseq0 ≠ 0 → p.wseq0 ≤ 2 ^ 32 →
      Does (.stopRequest u) s (fun t => (vget t.wp u).planned = none ∧ (vget t.wp u).stop = true ∧
        (vget t.wp u).running = (vget s.wp u).running ∧ t.fld (WP_Ss_WSEQ_WSEQ u) = p.wseq0 - 1 ∧ t.irq = s.irq ∧
        (s.on (SEs_STAT_LINK_UP u) = true → t.out = s.out ++ [.sedge u (.purge p.num)]) ∧
        (∀ v, v ≠ u → vget t.wp v = vget s.wp v) ∧
        Block.regsOnly [WP_Ss_WSEQ u, WP_STAT] s.toBlock t.toBlock))

/-- R107: VERIFY_JOB_DONE takes the queued job; its cell is good only when every criterion holds,
the CRC-32 of the decoded codeword being the one kept of the cell (R89), and a bad first copy
pends relocation with its cell and the tick, and counts in WP_CNT.VFAIL. R143: a late job is counted once and raises
surface offset 15. R110: RELOCATION_MAXWAIT marks a band with an overdue waiter; RELOCATION_VISIT plans the pending
cells. R111: OPTICAL_DURABLE makes a stripe that passed step 3 durable on optical. -/
def Obligations.VerifyAndRelocate : Prop :=
  ∀ (s : State) (u : Fin 4) (q : BitVec 32) (k : Fin 16) (v : Verdict) (band : BitVec 16), s.part.hasSurf u = true →
    let kept := (vget s.wp u).keptCrc q.toNat k.val
    (s.verdictGood kept v = true ↔ (∃ d h, v.sync = some (d, h) ∧ d ≤ 16 ∧ h ≤ s.fld WP_VFY_CTL_SYNCHD) ∧
      (∃ n, v.iters = some n ∧ n ≤ s.fld WP_VFY_CTL_ITER) ∧ v.corrected ≤ s.fld WP_VFY_CTL_MAXCORR ∧
      v.erased ≤ s.fld WP_VFY_CTL_MAXERA * 64 ∧ v.crc = kept) ∧
    ((∃ j ∈ (vget s.wp u).jobs, j.wseq = q.toNat ∧ j.beam = k.val) →
      Does (.verifyJobDone u q k v) s (fun t =>
        (s.verdictGood kept v = true → (∀ j ∈ (vget t.wp u).jobs, ¬ (j.wseq = q.toNat ∧ j.beam = k.val)) ∧
          (vget t.wp u).badRun[k] = 0 ∧ t.regs = s.regs ∧ t.irq = s.irq) ∧
        (s.verdictGood kept v = false → t.fld WP_CNT_VFAIL_COUNT = min (s.fld WP_CNT_VFAIL_COUNT + 1) WP_CNT_VFAIL_COUNT.top))) ∧
    ((∀ j ∈ (vget s.wp u).jobs, ¬ (j.wseq = q.toNat ∧ j.beam = k.val)) → exec (.verifyJobDone u q k v) s = .next s) ∧
    ((∃ j ∈ (vget s.wp u).jobs, j.wseq = q.toNat ∧ j.beam = k.val ∧ j.late = false ∧ j.deadline < s.tick.toNat) →
      Does (.verifyLate u q k) s (fun t => t.fld RC_CNT_LATE_COUNT = min (s.fld RC_CNT_LATE_COUNT + 1) RC_CNT_LATE_COUNT.top ∧
        t.raised (1024 + 40 * u.val + 15) = true ∧
        (∀ j ∈ (vget t.wp u).jobs, j.wseq = q.toNat → j.beam = k.val → j.late = true) ∧
        Block.regsOnly [RC_CNT_LATE] s.toBlock t.toBlock)) ∧
    ((∃ p ∈ (vget s.wp u).pend, p.band = band.toNat ∧ (p.cell.waiter = true ∨ p.cell.kind = .ledger) ∧
        p.since + s.fld WP_RELOC_CTL_MAXWAIT ≤ s.tick.toNat) →
      Does (.relocationMaxwait u band) s (fun t => band.toNat ∈ (vget t.wp u).maxwait ∧ t.regs = s.regs)) ∧
    (let w := vget s.wp u
     w.planned = none → w.visitDue band.toNat = true → w.spent.contains band.toNat = false → bandSlots band.toNat ≠ 0 →
      s.writable u = true → s.psw u 3 = true → s.on (SPn_STAT_LOCK (spinOf u)) = true →
      Does (.relocationVisit u band) s (fun t => ∃ p, (vget t.wp u).planned = some p ∧ p.kind = .reloc ∧
        p.band = band.toNat ∧ p.swath = w.relocPtr band.toNat / 128 ∧ p.first = w.relocPtr band.toNat % 128 ∧
        p.wseq0 = s.fld (WP_Ss_WSEQ_WSEQ u) + 1 ∧
        (∀ c ∈ (vget t.wp u).pend, c ∈ w.pend))) ∧
    ((∃ t ∈ (vget s.wp u).stripes, t.wseq = q.toNat ∧ t.passed = true ∧ t.void = false ∧ t.durable = false ∧
        t.reloc = true) → (∀ t ∈ (vget s.wp u).stripes, t.wseq < 2 ^ 32 ∧ (t.wseq = q.toNat → t.reloc = true)) →
      Does (.opticalDurable u q) s (fun t => (∀ x ∈ (vget t.wp u).stripes, x.wseq = q.toNat → x.passed = true →
          x.void = false → x.durable = true) ∧ s.fld (WP_Ss_VSEQ_VSEQ u) ≤ t.fld (WP_Ss_VSEQ_VSEQ u) ∧
        t.store = s.store ∧ t.hq = s.hq ∧ Block.regsOnly [WP_Ss_VSEQ u] s.toBlock t.toBlock))

/-! ### Sedge links -/

/-- R95: setting LINK_EN, and RETRAIN on an enabled link, start a bring-up: the status bits fall, an ECHO goes out;
sixteen exchanges follow. Link up sets LANE_LOCK, ALIGNED, LAT and LINK_UP, sends powers, and raises offset 2; R104: a
valid ID memory sets ID_VALID and MAXPWR, an invalid one leaves ID_VALID 0 and the surface unavailable. R95, R105: past
its time a bring-up, and past 40,000 ticks a retraining, makes the surface unavailable; link down clears WGATE, keeps
LDEN, and starts retraining. R94: a discarded upstream frame is counted. -/
def Obligations.SedgeBringUp : Prop :=
  ∀ (s : State) (u : Fin 4) (lat : BitVec 16) (m : List Byte) (tok : BitVec 16), s.part.hasSurf u = true →
    (∀ c ∈ ([.seLinkEnable u, .seRetrain u] : List Instr),
      (s.fld (SEs_CTL_LINK_EN u) = if c = .seRetrain u then 1 else 0) →
      Does c s (fun t => t.fld (SEs_CTL_LINK_EN u) = 1 ∧ t.fld (SEs_STAT_LINK_UP u) = 0 ∧
        t.fld (SEs_STAT_ALIGNED u) = 0 ∧ t.fld (SEs_STAT_LANE_LOCK u) = 0 ∧
        (vget t.se u).bring = some s.tick.toNat ∧ (vget t.se u).echoes = 0 ∧ t.irq = s.irq ∧
        t.out = s.out ++ [.sedge u (.echo (vget s.se u).token)] ∧
        Block.regsOnly [SEs_CTL u, SEs_STAT u] s.toBlock t.toBlock)) ∧
    (s.on (SEs_CTL_LINK_EN u) = true → exec (.seLinkEnable u) s = .next s) ∧
    (s.on (SEs_CTL_LINK_EN u) = false → exec (.seRetrain u) s = .next s) ∧
    ((vget s.se u).bring.isSome = true ∨ (vget s.se u).retrain.isSome = true →
      Does (.seLinkUp u lat m) s (fun t => t.fld (SEs_STAT_LINK_UP u) = 1 ∧ t.fld (SEs_STAT_LANE_LOCK u) = 15 ∧
        t.fld (SEs_STAT_ALIGNED u) = 1 ∧ t.fld (SEs_LAT_LAT u) = lat.toNat ∧ (vget t.se u).bring = none ∧
        (vget t.se u).retrain = none ∧ t.raised (1024 + 40 * u.val + 2) = true ∧
        (idMemOk m = true → t.fld (SEs_STAT_ID_VALID u) = 1 ∧ t.fld (SEs_MAXPWR_MAXPWR u) = valAt m 58 2 ∧
          (vget t.servo u).unavail = (vget s.servo u).unavail) ∧
        (idMemOk m = false → t.fld (SEs_STAT_ID_VALID u) = 0 ∧ (vget t.servo u).unavail = true ∧
          t.raised (1024 + 40 * u.val + 10) = true) ∧
        Block.regsOnly [SEs_STAT u, SEs_LAT u, SEs_MAXPWR u] s.toBlock t.toBlock)) ∧
    (∀ t0, (vget s.se u).bring = some t0 → t0 + 800 ≤ s.tick.toNat → Does (.seBringupTimeout u) s (fun t =>
      (vget t.se u).bring = none ∧ (vget t.servo u).unavail = true ∧ t.raised (1024 + 40 * u.val + 1) = true)) ∧
    (∀ t0, (vget s.se u).bring = some t0 → s.tick.toNat < t0 + 800 → exec (.seBringupTimeout u) s = .next s) ∧
    (s.on (SEs_STAT_LINK_UP u) = true → Does (.seLinkDown u) s (fun t => t.fld (SEs_STAT_LINK_UP u) = 0 ∧
      t.fld (SEs_LSAFE_WGATE u) = 0 ∧ t.fld (SEs_LSAFE_LDEN u) = s.fld (SEs_LSAFE_LDEN u) ∧
      (vget t.se u).retrain = some s.tick.toNat ∧ t.raised (1024 + 40 * u.val + 1) = true ∧
      Block.regsOnly [SEs_STAT u, SEs_LSAFE u] s.toBlock t.toBlock)) ∧
    (∀ t0, (vget s.se u).retrain = some t0 → t0 + 40000 ≤ s.tick.toNat → Does (.seRetrainFail u) s (fun t =>
      (vget t.se u).retrain = none ∧ (vget t.servo u).unavail = true)) ∧
    ((vget s.se u).bring.isSome = true → (vget s.se u).echoes < 16 →
      (vget s.se u).token = (tok.toNat + 1) % 65536 → Does (.echoRsp u tok) s (fun t =>
        (vget t.se u).echoes = (vget s.se u).echoes + 1 ∧ (vget t.se u).age = 0 ∧ t.regs = s.regs ∧
        t.out = s.out ++ (if (vget s.se u).echoes = 15 then [] else [.sedge u (.echo (vget s.se u).token)]))) ∧
    Does (.upstreamFrameDiscard u) s (fun t =>
      t.fld (SEs_ERR_US_ERR u) = min (s.fld (SEs_ERR_US_ERR u) + 1) (SEs_ERR_US_ERR u).top ∧ t.se = s.se ∧
      Block.regsOnly [SEs_ERR u] s.toBlock t.toBlock)

/-- R102: STATUS and MONITOR store their readings; R105: more than 16 downstream errors raise offset 11, and a reading
above MAXPWR sets the over-power latch, clears LDEN and raises offset 4. R105, R191: PU_FAULT sets its bits, clears LDEN
and raises offset 3; its release clears the bits. R103: a cell of the pass under way reported NOTWRITTEN is noted as
missed. R104: one management access at a time; its reply stores a read result and clears BUSY. R118: a beam power
waits for the next POWER frame. R519: the latch is released by its command. -/
def Obligations.SedgeFrames : Prop :=
  ∀ (s : State) (u : Fin 4) (k : Fin 16) (mon : Vector (BitVec 16) 16) (temp fault ds pk bias addr : BitVec 16)
    (d : BitVec 32) (slot : BitVec 8) (frame write : Bool), s.part.hasSurf u = true →
    (s.on (SEs_STAT_LINK_UP u) = true → s.isWriting u = false →
      (∀ i : Fin 16, mon[i].toNat ≤ s.fld (SEs_MAXPWR_MAXPWR u)) → Does (.monitor u mon) s (fun t =>
        (∀ i : Fin 16, t.fld (SEs_MON_b_MON u i) = mon[i].toNat) ∧ (vget t.se u).age = 0 ∧ t.irq = s.irq ∧
        Block.regsOnly ((List.range 16).map (SEs_MON_b u)) s.toBlock t.toBlock)) ∧
    (s.on (SEs_STAT_LINK_UP u) = true → (∃ i : Fin 16, s.fld (SEs_MAXPWR_MAXPWR u) < mon[i].toNat) →
      Does (.monitor u mon) s (fun t => t.fld (SFs_INTLK_MON u) = 1 ∧ t.fld (SEs_LSAFE_LDEN u) = 0 ∧
        t.raised (1024 + 40 * u.val + 4) = true)) ∧
    (s.on (SEs_STAT_LINK_UP u) = true → Does (.status u temp fault ds) s (fun t =>
      t.fld (SEs_TEMP_TEMP u) = temp.toNat ∧ t.fld (SEs_FAULT_FAULT u) = fault.toNat ∧
      t.fld (SEs_ERR_DS_ERR u) = min (s.fld (SEs_ERR_DS_ERR u) + ds.toNat) (SEs_ERR_DS_ERR u).top ∧
      (16 < ds.toNat → t.raised (1024 + 40 * u.val + 11) = true) ∧ (ds.toNat ≤ 16 → t.irq = s.irq) ∧
      Block.regsOnly [SEs_TEMP u, SEs_FAULT u, SEs_ERR u] s.toBlock t.toBlock)) ∧
    (s.on (SFs_INTLK_PUF u) = false → Does (.puFault u) s (fun t => t.fld (SFs_INTLK_PUF u) = 1 ∧
      t.fld (SEs_STAT_PU_FAULT u) = 1 ∧ t.fld (SEs_LSAFE_LDEN u) = 0 ∧ t.fld (SEs_LSAFE_SAFE u) = 1 ∧
      t.raised (1024 + 40 * u.val + 3) = true)) ∧
    Does (.puFaultRelease u) s (fun t => t.fld (SFs_INTLK_PUF u) = 0 ∧ t.fld (SEs_STAT_PU_FAULT u) = 0 ∧
      t.fld (SEs_LSAFE_HLATCH u) = s.fld (SEs_LSAFE_HLATCH u) ∧
      Block.regsOnly [SFs_INTLK u, SEs_STAT u] s.toBlock t.toBlock) ∧
    (∀ p, (vget s.wp u).running = some p → p.num = pk.toNat → Does (.notwritten u pk slot k) s (fun t =>
      (vget t.wp u).running = some { p with missed := p.missed ++ [(slot.toNat, k.val)] } ∧ t.regs = s.regs)) ∧
    (s.on (SEs_MGMT_CMD_BUSY u) = false → Does (.mgmtAccess u addr frame write d) s (fun t =>
      t.fld (SEs_MGMT_CMD_BUSY u) = 1 ∧ t.fld (SEs_MGMT_CMD_ADDR u) = addr.toNat ∧
      t.fld (SEs_MGMT_CMD_PORT u) = frame.toNat ∧ t.fld (SEs_MGMT_CMD_WR u) = write.toNat ∧
      t.rd (SEs_MGMT_DATA u) = (if write then d else s.rd (SEs_MGMT_DATA u)) ∧ (vget t.se u).mgmt = true ∧
      Block.regsOnly [SEs_MGMT_CMD u, SEs_MGMT_DATA u] s.toBlock t.toBlock)) ∧
    (s.on (SEs_MGMT_CMD_BUSY u) = true → exec (.mgmtAccess u addr frame write d) s = .next s) ∧
    (∀ c ∈ ([(.mgmtRsp u d, true), (.mgmtAccessDone u d, false)] : List (Instr × Bool)),
      (vget s.se u).mgmt = true → s.on (SEs_MGMT_CMD_PORT u) = c.2 → Does c.1 s (fun t =>
        t.fld (SEs_MGMT_CMD_BUSY u) = 0 ∧ (vget t.se u).mgmt = false ∧
        t.rd (SEs_MGMT_DATA u) = (if s.on (SEs_MGMT_CMD_WR u) then s.rd (SEs_MGMT_DATA u) else d) ∧
        Block.regsOnly [SEs_MGMT_CMD u, SEs_MGMT_DATA u] s.toBlock t.toBlock)) ∧
    Does (.setBeamPower u k true pk bias) s (fun t => t.fld (SEs_BRD_b_READ u k) = pk.toNat ∧
      (vget t.se u).powerDue = true ∧ Block.regsOnly [SEs_BRD_b u k] s.toBlock t.toBlock) ∧
    ((vget s.cal.surf u).run = none → Does (.setBeamPower u k false pk bias) s (fun t =>
      t.fld (SEs_BPWR_b_PEAK u k) = pk.toNat ∧ t.fld (SEs_BPWR_b_BIAS u k) = bias.toNat ∧
      (vget t.se u).powerDue = true ∧ t.irq = s.irq ∧ Block.regsOnly [SEs_BPWR_b u k] s.toBlock t.toBlock)) ∧
    Does (.latchRelease u) s (fun t => t.fld (SEs_LSAFE_HLATCH u) = 0 ∧ t.fld (SEs_LSAFE_SAFE u) = s.fld (SEs_LSAFE_SAFE u) ∧
      t.fld (SEs_LSAFE_LDEN u) = s.fld (SEs_LSAFE_LDEN u) ∧ Block.regsOnly [SEs_LSAFE u] s.toBlock t.toBlock)

/-! ### Read channel -/

/-- R119, R140: a clean cell that an enabled beam reads in read mode is counted, leaves its loop values and eye width,
and becomes a read job at RD_ITER iterations with its stripe in the read buffer. R126: BM_RESTART makes the next cell
start from the presets. R146: a converged decode with a right header makes the cell good, frees the engine and is
counted. R147: a resolved stripe with at most three failed cells leaves the buffer, counted where a cell was rebuilt;
one that is not resolved is left as it is. (Stated with the pool held, RC_CTL.EN = 0, so that no job is dispatched.) -/
def Obligations.ReadPath : Prop :=
  ∀ (s : State) (n : Fin 64) (o : CellObs) (e : Fin 20) (r : DecodeRes) (u : Fin 4) (band swath : BitVec 16)
    (stripe : BitVec 8),
    (s.part.hasBeam n = true → s.on (BMnn_CTL_EN n) = true → s.on (BMnn_CTL_LFRZ n) = false →
      (vget s.wp (beamSurf n)).verifySpot = false → s.on RC_CTL_EN = false → o.lostAt = none → o.spans = [] →
      o.vga < 1024 → (∀ t ∈ s.rc.stripes, t.at (beamSurf n) o.band o.swath o.stripe = false) →
      Does (.cellRead n o) s (fun t =>
        t.fld (BMnn_CNT_CELLS_COUNT n) = min (s.fld (BMnn_CNT_CELLS_COUNT n) + 1) (BMnn_CNT_CELLS_COUNT n).top ∧
        t.fld (BMnn_LOOP_VAL_VGA n) = o.vga ∧ vget t.cal.eye n = o.eye ∧
        (vget t.rc.beams n).session = some o.band ∧ (vget t.rc.beams n).restart = false ∧
        (∃ j, t.rc.jobs = s.rc.jobs ++ [j] ∧ j.kind = 1 ∧ j.surf = (beamSurf n).val ∧ j.band = o.band ∧ j.swath = o.swath ∧
          j.stripe = o.stripe ∧ j.beam = n.val % 16 ∧ j.limit = s.fld RC_CTL_RD_ITER) ∧
        (∃ x ∈ t.rc.stripes, x.at (beamSurf n) o.band o.swath o.stripe = true ∧
          vget x.cells (Fin.ofNat 16 n.val) = .queued))) ∧
    (s.part.hasBeam n = true → Does (.bmRestart n) s (fun t => (vget t.rc.beams n).restart = true ∧ t.regs = s.regs ∧
      t.irq = s.irq ∧ ∀ m, m ≠ n → vget t.rc.beams m = vget s.rc.beams m)) ∧
    (vget s.rc.engines e = none → exec (.decodeJobDone e r) s = .next s) ∧
    (∀ j x, vget s.rc.engines e = some (.rc j) → j.beam < 16 → r.iters.isSome = true → headerGood j r.header = true →
      x ∈ s.rc.stripes → x.at j.surf j.band j.swath j.stripe = true → s.on RC_CTL_EN = false →
      Does (.decodeJobDone e r) s (fun t => vget t.rc.engines e = none ∧
        t.fld RC_CNT_DEC_COUNT = min (s.fld RC_CNT_DEC_COUNT + 1) RC_CNT_DEC_COUNT.top ∧
        (∀ y ∈ t.rc.stripes, y.at j.surf j.band j.swath j.stripe = true → vget y.cells (Fin.ofNat 16 j.beam) = .good) ∧
        t.rc.jobs = s.rc.jobs)) ∧
    (∀ x, s.rc.stripes = [x] → x.at u band.toNat swath.toNat stripe.toNat = true → x.resolved = true →
      x.failedCells.length ≤ 3 → Does (.stripeRebuild u band swath stripe (.agrees none)) s (fun t =>
        t.rc.stripes = [] ∧ t.irq = s.irq ∧ t.fld RC_CNT_REBUILD_COUNT = min (s.fld RC_CNT_REBUILD_COUNT +
          (decide (x.failedCells ≠ [])).toNat) RC_CNT_REBUILD_COUNT.top ∧
        Block.regsOnly [RC_CNT_REBUILD] s.toBlock t.toBlock)) ∧
    (∀ x out, s.rc.stripes = [x] → x.at u band.toNat swath.toNat stripe.toNat = true → x.resolved = false →
      exec (.stripeRebuild u band swath stripe out) s = .next s)

/-- R145: an engine with a parity fault loses its job, which returns to the head of its queue, sets its FAULT bit,
raises source 16, and takes no job; ENGINE_RESTORE clears the bit. R142: a split with VMIN + RMIN > 20 or RETRYMAX = 0
is ignored, sets CFG_ERR and raises source 17; any other is stored. R148: a re-read pass counts in every stripe that
waits for one, and its failed cells are read again. -/
def Obligations.ReadPool : Prop :=
  ∀ (s : State) (e : Fin 20) (vmin rmin retry : BitVec 5) (u : Fin 4),
    Does (.engineParityFault e) s (fun t => t.onBit RC_ENG_FAULT_FAULT e = true ∧ vget t.rc.engines e = none ∧
      t.raised 16 = true) ∧
    (∀ j, vget s.rc.engines e = some (.rc j) → s.on RC_CTL_EN = false → Does (.engineParityFault e) s (fun t =>
      t.rc.jobs = j :: s.rc.jobs)) ∧
    Does (.engineRestore e) s (fun t => t.onBit RC_ENG_FAULT_FAULT e = false ∧
      (∀ i : Fin 20, i ≠ e → t.onBit RC_ENG_FAULT_FAULT i = s.onBit RC_ENG_FAULT_FAULT i) ∧ t.irq = s.irq ∧
      Block.regsOnly [RC_ENG_FAULT, RC_STAT] s.toBlock t.toBlock) ∧
    (20 < vmin.toNat + rmin.toNat ∨ retry = 0 → Does (.rcSplitWrite vmin rmin retry) s (fun t =>
      t.fld RC_STAT_CFG_ERR = 1 ∧ t.raised 17 = true ∧ t.rd RC_SPLIT = s.rd RC_SPLIT ∧
      Block.regsOnly [RC_STAT] s.toBlock t.toBlock)) ∧
    (vmin.toNat + rmin.toNat ≤ 20 → retry ≠ 0 → retry.toNat ≤ 20 → Does (.rcSplitWrite vmin rmin retry) s (fun t =>
      t.fld RC_SPLIT_VMIN = vmin.toNat ∧ t.fld RC_SPLIT_RMIN = rmin.toNat ∧ t.fld RC_SPLIT_RETRYMAX = retry.toNat ∧
      t.irq = s.irq ∧ Block.regsOnly [RC_SPLIT, RC_STAT] s.toBlock t.toBlock)) ∧
    (s.part.hasSurf u = true → (∃ x ∈ s.rc.stripes, s.rc.waiting u x = true) → Does (.reReadPass u) s (fun t =>
      t.rc.stripes = s.rc.stripes.map (fun x => if s.rc.waiting u x then { x with
        rereads := x.rereads + 1, cells := x.cells.map fun c => if c = .failed 5 then .unread else c } else x) ∧
      t.rc.jobs = s.rc.jobs ∧ t.regs = s.regs))

/-! ### Servo -/

/-- R184: a command with a new SEQ is taken while the programs run; a rejected one sets FAIL and ERR and does nothing
else; LAYER and SEEK wait while focus is in SEARCH or DROPHOLD. Done writes DONE and raises source 11. R188: FOCUS
searches and closes on the index and the SUM_REF found. R198: a layer jump lands within 6 swaths. R199: a seek lands
ARG swaths from where it was taken. R190, R519: RELEASE ends safe hold and the latch once FOK, TOK and AOK are 1.
That an earlier SEQ leaves the state as it is, is log entry 7's. -/
def Obligations.ServoCommands : Prop :=
  ∀ (s : State) (u : Fin 4) (r : Option (Fin 10)) (layer : Fin 8) (seq : BitVec 8) (arg : BitVec 16)
    (found : Option (BitVec 14 × BitVec 16)), s.part.hasSurf u = true → s.servoRuns u = true →
    (vget s.servo u).taken ≠ seq.toNat →
    let mine : List (Nat × BitVec 16 × Instr) := [(0, 0, .cmdNone u none layer seq), (1, 0, .cmdOff u layer seq),
      (2, 0, .cmdFocus u layer seq found), (3, 0, .cmdLayer u layer seq), (4, arg, .cmdSeek u layer arg seq),
      (5, 0, .cmdRelease u layer seq)]
    let done (t : State) : Prop := (vget t.servo u).done = seq.toNat ∧ (vget t.servo u).cur = none ∧ t.raised 11 = true
    (∀ e ∈ mine, s.cmdErr u e.1 layer e.2.1 ≠ 0 → Does e.2.2 s (fun t => (vget t.servo u).taken = seq.toNat ∧
      (vget t.servo u).err = s.cmdErr u e.1 layer e.2.1 ∧ t.psw u 7 = true ∧
      (vget t.servo u).fmode = (vget s.servo u).fmode ∧ (vget t.servo u).gidx = (vget s.servo u).gidx ∧
      (vget t.servo u).done = (vget s.servo u).done ∧ t.out = s.out)) ∧
    (∀ k, r = some k → Does (.cmdNone u r layer seq) s (fun t => (vget t.servo u).err = 1 ∧ t.psw u 7 = true)) ∧
    (layer.val ≤ 5 → Does (.cmdNone u none layer seq) s (fun t => (vget t.servo u).taken = seq.toNat ∧ done t ∧
      t.psw u 7 = false ∧ (vget t.servo u).fmode = (vget s.servo u).fmode)) ∧
    (layer.val ≤ 5 → Does (.cmdOff u layer seq) s (fun t => done t ∧ (vget t.servo u).fmode = 0 ∧
      (vget t.servo u).tmode = 0 ∧ t.psw u 0 = false ∧ t.psw u 1 = false ∧ t.psw u 2 = false ∧ t.psw u 3 = false ∧
      ∀ k : Fin 3, t.fld (SFs_DAC_OUT_k_CODE u k) = 0)) ∧
    (layer.val ≤ 5 → Does (.cmdFocus u layer seq none) s (fun t => (vget t.servo u).fmode = 1 ∧
      (vget t.servo u).tmode = 1 ∧ (vget t.servo u).tlayer = layer ∧ (vget t.servo u).cur = some (2, seq.toNat) ∧
      t.psw u 4 = true ∧ t.psw u 0 = false ∧ t.fld (SFs_DAC_OUT_k_CODE u 1) = 0 ∧
      (vget t.servo u).done = (vget s.servo u).done)) ∧
    (layer.val ≤ 5 → (vget s.servo u).held = none → ∀ i sum, Does (.cmdFocus u layer seq (some (i, sum))) s (fun t =>
      done t ∧ (vget t.servo u).fmode = 2 ∧ (vget t.servo u).tmode = 3 ∧ (vget t.servo u).layer = layer ∧
      (vget t.servo u).gidx = i.toInt ∧ (vget t.servo u).sumref = sum ∧ t.psw u 0 = true ∧ t.psw u 1 = true ∧
      t.psw u 2 = true ∧ t.psw u 4 = false)) ∧
    (layer.val ≤ 5 → (vget s.servo u).fmode ∈ [2, 3] → Does (.cmdLayer u layer seq) s (fun t => done t ∧
      ((vget s.servo u).layer = layer → (vget t.servo u).gidx = (vget s.servo u).gidx) ∧
      ((vget s.servo u).layer ≠ layer → (vget t.servo u).layer = layer ∧ t.psw u 2 = true ∧ t.psw u 5 = false ∧
        |(vget t.servo u).gidx - (vget s.servo u).gidx| ≤ 6 ∧
        (exWord u 11, s.dmem (0x380 + 0x10 * u.val + layer.val) + s.dmem (0x380 + 0x10 * u.val + 6)) ∈ t.le.exNew))) ∧
    (s.cmdErr u 4 layer arg = 0 → (vget s.servo u).fmode ∈ [2, 3] → Does (.cmdSeek u layer arg seq) s (fun t =>
      done t ∧ (vget t.servo u).layer = layer ∧ (vget t.servo u).gidx = (vget s.servo u).gidx + arg.toInt ∧
      t.psw u 2 = true ∧ t.psw u 5 = false)) ∧
    (layer.val ≤ 5 → (vget s.servo u).fmode ∈ [1, 4] → Does (.cmdLayer u layer seq) s (fun t =>
      (vget t.servo u).held = some { seek := false, layer := layer, arg := 0, seq := seq.toNat } ∧
      (vget t.servo u).layer = (vget s.servo u).layer ∧ (vget t.servo u).done = (vget s.servo u).done)) ∧
    (s.cmdErr u 4 layer arg = 0 → (vget s.servo u).fmode ∈ [1, 4] → Does (.cmdSeek u layer arg seq) s (fun t =>
      (vget t.servo u).held = some { seek := true, layer := layer, arg := arg.toInt, seq := seq.toNat } ∧
      (vget t.servo u).gidx = (vget s.servo u).gidx)) ∧
    (layer.val ≤ 5 → s.psw u 6 = false → Does (.cmdRelease u layer seq) s done) ∧
    (layer.val ≤ 5 → s.psw u 6 = true → s.psw u 0 = true → s.psw u 1 = true → s.psw u 2 = true →
      Does (.cmdRelease u layer seq) s (fun t => done t ∧ t.psw u 6 = false ∧ t.fld (SEs_LSAFE_HLATCH u) = 0 ∧
        t.fld (SEs_LSAFE_SAFE u) = 0)) ∧
    (layer.val ≤ 5 → s.psw u 6 = true → (s.psw u 0 && s.psw u 1 && s.psw u 2) = false →
      Does (.cmdRelease u layer seq) s (fun t => t.psw u 6 = true ∧ (vget t.servo u).cur = some (5, seq.toNat) ∧
        (vget t.servo u).done = (vget s.servo u).done))

/-- R189, R190: a focus drop clears FOK, holds FOC_DAC, and safe hold starts the safe state with WGATE 0 and read power.
R188: a failed search leaves FMODE OFF, the DAC at 0 and FAIL set with ERR 4. R192: off-track clears TOK and AOK and
starts pull-in again, in safe hold where WGATE was written 1. R194: a kick of one or two pitches moves the index to
H - 1, more sets FAIL with ERR 5. R186: a coil driver fault raises offset 22. -/
def Obligations.ServoEvents : Prop :=
  ∀ (s : State) (u : Fin 4), s.part.hasSurf u = true →
    let v := vget s.servo u
    let k : Int := v.gidx + 1 - ((s.dmem (exWord u 2)).setWidth 14).toInt
    (v.fmode = 2 → Does (.focusDrop u) s (fun t => (vget t.servo u).fmode = 4 ∧ t.psw u 0 = false ∧
      t.psw u 6 = true ∧ t.psw u 3 = false ∧ t.fld (SEs_LSAFE_SAFE u) = 1 ∧ t.fld (SEs_LSAFE_MODE u) = 1 ∧
      t.fld (SEs_LSAFE_WGATE u) = 0 ∧ t.fld (SFs_DAC_OUT_k_CODE u 0) = s.fld (SFs_DAC_OUT_k_CODE u 0) ∧
      (s.psw u 0 = true → s.psw u 4 = false → s.psw u 5 = false → 1024 + 40 * u.val + 16 ∈ t.le.post) ∧
      (s.fld (SEs_LSAFE_SAFE u) = 0 → (vget t.servo u).unavail = true))) ∧
    (v.fmode ≠ 2 → exec (.focusDrop u) s = .next s) ∧
    (v.fmode = 1 → Does (.searchFail u) s (fun t => (vget t.servo u).fmode = 0 ∧ (vget t.servo u).err = 4 ∧
      (vget t.servo u).held = none ∧ t.psw u 7 = true ∧ t.psw u 4 = false ∧ t.fld (SFs_DAC_OUT_k_CODE u 0) = 0 ∧
      (s.psw u 7 = false → 1024 + 40 * u.val + 19 ∈ t.le.post))) ∧
    (s.psw u 1 = true → s.psw u 5 = false → Does (.offTrack u) s (fun t => (vget t.servo u).tmode = 2 ∧
      t.psw u 1 = false ∧ t.psw u 2 = false ∧ 1024 + 40 * u.val + 17 ∈ t.le.post ∧
      (v.lastWgate = true → t.psw u 6 = true ∧ t.fld (SEs_LSAFE_SAFE u) = 1) ∧
      (v.lastWgate = false → t.psw u 6 = s.psw u 6))) ∧
    (v.tmode = 3 → (k ≤ 0 → exec (.swathHoldKick u) s = .next s) ∧
      (1 ≤ k → k ≤ 2 → Does (.swathHoldKick u) s (fun t => (vget t.servo u).gidx = v.gidx - k ∧
        (vget t.servo u).tmode = 3 ∧ t.regs = s.regs ∧ t.irq = s.irq)) ∧
      (2 < k → Does (.swathHoldKick u) s (fun t => (vget t.servo u).gidx = v.gidx ∧ (vget t.servo u).err = 5 ∧
        t.psw u 7 = true))) ∧
    (s.on (SFs_STAT_COIL_FLT u) = false → Does (.coilDriverFault u) s (fun t => t.fld (SFs_STAT_COIL_FLT u) = 1 ∧
      t.raised (1024 + 40 * u.val + 22) = true ∧ t.servo = s.servo ∧
      Block.regsOnly [SFs_STAT u] s.toBlock t.toBlock))

/-! ### Spindles -/

/-- R216: RUN from STOPPED or a stop's coast begins an attempt in SENSE, whose result chooses CATCH, BBRAKE or BRAKE;
R226: in FAULT RUN is ignored. R225: RUN = 0 coasts, or decelerates to 600 rpm. R217: ALIGN, RAMP and ACCEL follow.
R218: a failed attempt counts and goes to RETRY_WAIT, the fourth to FAULT with START. R219: requests are held while the
other spindle accelerates. R223: a resynchronised CATCH raises offset 3; one that times out brakes, raises offset 4 and
releases focus after a rotor loss. -/
def Obligations.SpindleStarts : Prop :=
  ∀ (s : State) (n : Fin 2) (rpm : BitVec 16) (xc : BitVec 8) (ang : Word), s.part.hasSpin n = true →
    let st := s.fld (SPn_STAT_STATE n)
    let x := vget s.spin n
    let att := s.fld (SPn_STAT_ATTEMPT n)
    let goes (i : Instr) (k : Nat) := Does i s (fun t => t.fld (SPn_STAT_STATE n) = k)
    (st = 0 ∨ x.stopping = true ∧ (st = 7 ∨ st = 8) →
      Does (.spindleRun n) s (fun t => t.fld (SPn_CTL_RUN n) = 1 ∧ t.fld (SPn_STAT_STATE n) = 1)) ∧
    (st = 12 → Does (.spindleRun n) s (fun t => t.fld (SPn_CTL_RUN n) = 1 ∧ t.fld (SPn_STAT_STATE n) = 12)) ∧
    (st ∉ [0, 10, 12] → x.stopping = false → Does (.spindleStop n) s (fun t => t.fld (SPn_CTL_RUN n) = 0 ∧
      (s.on (SPn_CTL_STOPMODE n) = false → t.fld (SPn_STAT_STATE n) = 8) ∧
      (s.on (SPn_CTL_STOPMODE n) = true → t.fld (SPn_STAT_STATE n) = 7 ∧ (vget t.spin n).ref = 600))) ∧
    (st = 1 → Does (.coastSenseDone n rpm xc ang) s (fun t => t.fld (SPn_COAST_SPD n) = rpm.toNat ∧
      t.fld (SPn_COAST_XCNT n) = xc.toNat ∧
      (xc.toNat < 3 → t.fld (SPn_STAT_STATE n) = 2) ∧
      (3 ≤ xc.toNat → 300 < rpm.toInt → t.fld (SPn_STAT_STATE n) = 9 ∧ (spEx n + 5, ang) ∈ t.le.exNew) ∧
      (3 ≤ xc.toNat → -60 ≤ rpm.toInt → rpm.toInt ≤ 300 → t.fld (SPn_STAT_STATE n) = 2) ∧
      (3 ≤ xc.toNat → rpm.toInt < -60 → t.fld (SPn_STAT_STATE n) = 10 ∧ t.fld (SPn_STAT_ATTEMPT n) = att))) ∧
    (st = 8 → x.stopping = true → xc.toNat < 3 → Does (.coastSenseDone n rpm xc ang) s (fun t =>
      t.fld (SPn_STAT_STATE n) = 0 ∧ t.raised (1184 + 16 * n.val + 7) = true)) ∧
    (st = 2 → s.spEntriesOn n = true → Does (.bbrakeEnd n) s (fun t => t.fld (SPn_STAT_STATE n) = 2 ∧
      (vget t.spin n).heldStart = true ∧ (vget t.spin n).fresh = true ∧ t.regs = s.regs)) ∧
    (st = 3 → Does (.alignEnd n) s (fun t => t.fld (SPn_STAT_STATE n) = 4 ∧ (spEx n, 2) ∈ t.le.exNew)) ∧
    (st = 4 → 0 ≤ (s.dmem (spEx n + 2)).toInt → Does (.rampEnd n) s (fun t => t.fld (SPn_STAT_STATE n) = 5 ∧
      (spEx n, 3) ∈ t.le.exNew ∧ (spEx n + 5, s.dmem (spEx n + 3)) ∈ t.le.exNew ∧
      (vget t.spin n).ref = s.setSpeed n)) ∧
    (∀ i ∈ ([.attemptFailed n, .bbrakeEnd n, .rampEnd n] : List Instr),
      (i = .attemptFailed n → st = 3 ∨ st = 4 ∨ st = 5) → (i = .bbrakeEnd n → st = 2 ∧ s.spEntriesOn n = false) →
      (i = .rampEnd n → st = 4 ∧ (s.dmem (spEx n + 2)).toInt < 0) → att ≤ 3 → Does i s (fun t =>
        t.fld (SPn_STAT_ATTEMPT n) = att + 1 ∧ t.raised (1184 + 16 * n.val + 5) = true ∧
        (att < 3 → t.fld (SPn_STAT_STATE n) = 11) ∧
        (att = 3 → t.fld (SPn_STAT_STATE n) = 12 ∧ t.fld (SPn_FAULT_START n) = 1 ∧ t.fld (SPn_STAT_FAULT n) = 1 ∧
          t.raised (1184 + 16 * n.val + 6) = true))) ∧
    (st = 11 → goes (.retryWaitEnd n) 1) ∧
    (st = 9 → x.heldCatch = false → Does (.catchResync n) s (fun t => t.fld (SPn_STAT_STATE n) = 9 ∧
      t.fld (SPn_CNT_CATCH n) = min (s.fld (SPn_CNT_CATCH n) + 1) 255 ∧
      t.raised (1184 + 16 * n.val + 3) = true ∧ (vget t.spin n).heldCatch = true ∧
      (spEx n + 7, s.dmem (spEx n + 2)) ∈ t.le.exNew)) ∧
    (st = 9 → x.heldCatch = false → Does (.catchTimeout n) s (fun t => t.fld (SPn_STAT_STATE n) = 10 ∧
      t.raised (1184 + 16 * n.val + 4) = true ∧ t.fld (SPn_STAT_ATTEMPT n) = att ∧
      (s.on (SPn_STAT_RLOSS n) = true → ∀ u : Fin 4, spinOf u = n →
        (exWord u 1, s.dmem (exWord u 1) &&& ~~~1#32) ∈ t.le.exNew))) ∧
    (x.held = true → (vget s.spin (otherSpin n)).accel = true → exec (.accelGrant n) s = .next s) ∧
    (x.held = true → (vget s.spin (otherSpin n)).accel = false →
      (n = 1 → (vget s.spin (otherSpin n)).held = false) →
      (x.heldStart = true → s.spEntriesOn n = true → goes (.accelGrant n) 3) ∧
      (x.heldStart = false → Does (.accelGrant n) s (fun t => t.fld (SPn_STAT_STATE n) = 5 ∧
        (vget t.spin n).ref = s.setSpeed n ∧ (vget t.spin n).accel = true)))

/-- R220, R219: the set speed is clamped to 600 to 9,000 rpm, and to 4,500 in reduced mode with RCAP; upward from RUN is
a request, downward is DECEL. R221, R222: LOCK sets in RUN, clears ATTEMPT and RLOSS; its loss holds the write gates and
cuts the passes. R223: rotor loss coasts, and its event is raised at the close. R225, R226: the ends of BRAKE, the
faults of the bridge, and leaving FAULT. R213: VCLAMP has the hysteresis of VCLAMP and VREL. -/
def Obligations.SpindleRuns : Prop :=
  ∀ (s : State) (n : Fin 2) (rpm : BitVec 14) (hot : Bool) (bits : BitVec 4) (vbus : BitVec 16),
    s.part.hasSpin n = true →
    let st := s.fld (SPn_STAT_STATE n)
    let x := vget s.spin n
    let set := min (max 600 (min 9000 rpm.toNat)) (if s.on PW_STAT_RMODE then 4500 else 9000)
    let hi := (SPn_BRAKE_VCLAMP n).get (vget x.shadow 4) * 10
    let lo := (SPn_BRAKE_VREL n).get (vget x.shadow 4) * 10
    Does (.setSpeed n rpm) s (fun t => t.fld (SPn_SPD_SET_RPM n) = rpm.toNat ∧ t.setSpeed n = set ∧
      t.on (SPn_STAT_RCAP n) = (s.on PW_STAT_RMODE && decide (4500 < rpm.toNat)) ∧
      (t.on (SPn_STAT_RCAP n) ≠ s.on (SPn_STAT_RCAP n) → t.raised (1184 + 16 * n.val + 8) = true) ∧
      (st = 6 → x.ref < set → t.fld (SPn_STAT_STATE n) = 6 ∧ (vget t.spin n).heldSpeed = true ∧
        t.fld (SPn_STAT_LOCK n) = s.fld (SPn_STAT_LOCK n)) ∧
      (st = 6 → set < x.ref → t.fld (SPn_STAT_STATE n) = 7 ∧ (vget t.spin n).ref = set ∧
        t.fld (SPn_STAT_LOCK n) = 0)) ∧
    (st = 6 → s.on (SPn_STAT_LOCK n) = false → x.ref = s.setSpeed n → Does (.speedLock n) s (fun t =>
      t.fld (SPn_STAT_LOCK n) = 1 ∧ t.fld (SPn_STAT_RLOSS n) = 0 ∧ t.fld (SPn_STAT_ATTEMPT n) = 0 ∧
      t.fld (SPn_STAT_STATE n) = 6 ∧ (vget t.spin n).accel = false ∧ t.raised (1184 + 16 * n.val) = true)) ∧
    (s.on (SPn_STAT_LOCK n) = true → Does (.lockLost n) s (fun t => t.fld (SPn_STAT_LOCK n) = 0 ∧
      t.raised (1184 + 16 * n.val + 1) = true ∧ ∀ u : Fin 4, spinOf u = n →
        t.fld (SEs_LSAFE_WGATE u) = 0 ∧ (vget t.wp u).running = none)) ∧
    (st = 5 ∨ st = 6 ∨ st = 7 → Does (.rotorLoss n) s (fun t => t.fld (SPn_STAT_STATE n) = 8 ∧
      t.fld (SPn_STAT_RLOSS n) = 1 ∧ t.fld (SPn_STAT_LOCK n) = 0 ∧ (spEx n, 0) ∈ t.le.exNew ∧
      t.fld (SPn_CNT_RLOSS n) = min (s.fld (SPn_CNT_RLOSS n) + 1) 255 ∧ 1184 + 16 * n.val + 2 ∈ t.le.post ∧
      ∀ u : Fin 4, spinOf u = n → (vget t.servo u).unavail = true)) ∧
    (st = 10 → Does (.brakeExit n) s (fun t =>
      (s.on (SPn_CTL_RUN n) = true → t.fld (SPn_STAT_STATE n) = 1) ∧
      (s.on (SPn_CTL_RUN n) = false → t.fld (SPn_STAT_STATE n) = 0 ∧ t.raised (1184 + 16 * n.val + 7) = true))) ∧
    (st = 10 → Does (.brakeTimeout n) s (fun t => t.fld (SPn_STAT_STATE n) = 12 ∧ t.fld (SPn_FAULT_BRK_TO n) = 1 ∧
      t.raised (1184 + 16 * n.val + 6) = true)) ∧
    (st ≠ 12 → Does (.bridgeOvercurrent n hot) s (fun t => t.fld (SPn_STAT_STATE n) = 12 ∧
      t.fld (SPn_STAT_FAULT n) = 1 ∧ t.fld (SPn_STAT_LOCK n) = 0 ∧
      t.fld (SPn_STAT_RLOSS n) = s.fld (SPn_STAT_RLOSS n) ∧
      t.fld (if hot then SPn_FAULT_OTP n else SPn_FAULT_OCP n) = 1 ∧
      t.fld (if hot then SPn_FAULT_OCP n else SPn_FAULT_OTP n) =
        s.fld (if hot then SPn_FAULT_OCP n else SPn_FAULT_OTP n) ∧ t.raised (1184 + 16 * n.val + 6) = true)) ∧
    Does (.faultClear n bits) s (fun t => t.rd (SPn_FAULT n) = s.rd (SPn_FAULT n) &&& ~~~(bits.setWidth 32) ∧
      (st ≠ 12 → t.fld (SPn_STAT_STATE n) = st) ∧
      (st = 12 → t.fld (SPn_STAT_STATE n) =
        if s.on (SPn_CTL_RUN n) = false ∧ s.rd (SPn_FAULT n) &&& ~~~(bits.setWidth 32) = 0 then 0 else 12)) ∧
    Does (.vclampSet n vbus) s (fun t => t.fld (SPn_MEAS_VBUS n) = vbus.toNat ∧
      (hi < vbus.toNat → t.fld (SPn_STAT_VCLAMP n) = 1 ∧
        (s.on (SPn_STAT_VCLAMP n) = false → t.raised (1184 + 16 * n.val + 9) = true)) ∧
      (vbus.toNat ≤ hi → vbus.toNat < lo → t.fld (SPn_STAT_VCLAMP n) = 0) ∧
      (vbus.toNat ≤ hi → lo ≤ vbus.toNat → t.fld (SPn_STAT_VCLAMP n) = s.fld (SPn_STAT_VCLAMP n)) ∧
      Block.regsOnly [SPn_MEAS n, SPn_STAT n] s.toBlock t.toBlock)

/-- R206: the committed duties are loaded. R208, R210: with the phases ordered by on-time, the first sample less the
offset is the current of the largest, the second negated that of the smallest, and the third is minus their sum, as
Q1.31 of full scale. R209: a period whose moved edge would leave it is skipped and counted, and holds the last currents.
R220, R225: ACCEL and DECEL end at the reference. TMIN is the shadowed field of R228. -/
def Obligations.SpindlePwmPeriod : Prop :=
  ∀ (s : State) (n : Fin 2) (c1 c2 : BitVec 12) (vbus rpm : BitVec 16) (a b c : Fin 3), s.part.hasSpin n = true →
    let st := s.fld (SPn_STAT_STATE n)
    let x := vget s.spin n
    let h := x.duty
    let ofs := s.sfld (SPn_SHUNT_OFS_OFS n)
    let tmin := if (st ≠ 3 ∧ st ≠ 4) ∧ x.shadowLate = false then s.fld (SPn_SHUNT_TMIN n)
      else (SPn_SHUNT_TMIN n).get (vget x.shadow 0)
    let sat (z : Int) : Int := max (-2147483648) (min 2147483647 z)
    Does (.pwmPeriod n c1 c2 vbus rpm) s (fun t =>
      (vget t.spin n).loaded = h ∧ (vget t.spin n).rpm = rpm.toInt ∧ t.fld (SPn_MEAS_RPM n) = rpm.toNat ∧
      t.fld (SPn_MEAS_VBUS n) = vbus.toNat ∧
      (vget h b < vget h a → vget h c < vget h b → tmin ≤ vget h a - vget h b → tmin ≤ vget h b - vget h c →
        (vget (vget t.spin n).cur a).toInt = sat ((c1.toInt - ofs) * 2 ^ 20) ∧
        (vget (vget t.spin n).cur c).toInt = sat ((ofs - c2.toInt) * 2 ^ 20) ∧
        (vget (vget t.spin n).cur b).toInt = sat ((c2.toInt - c1.toInt) * 2 ^ 20) ∧
        t.fld (SPn_SKIP_COUNT n) = s.fld (SPn_SKIP_COUNT n)) ∧
      (vget h b < vget h a → vget h c < vget h b → vget h a < vget h b + tmin → 10000 < vget h b + tmin →
        (vget t.spin n).cur = x.cur ∧ t.fld (SPn_SKIP_COUNT n) = min (s.fld (SPn_SKIP_COUNT n) + 1) 65535) ∧
      (st = 5 → (x.ref : Int) ≤ rpm.toInt → t.fld (SPn_STAT_STATE n) = 6) ∧
      (st = 5 → rpm.toInt < x.ref → t.fld (SPn_STAT_STATE n) = 5) ∧
      (st = 7 → rpm.toInt ≤ x.ref → t.fld (SPn_STAT_STATE n) = if x.stopping then 10 else 6))

/-! ### Axes, door and clamp -/

/-- R232: targets are collected for the next preamble, TGT reads back what was written. R233: at rest DONE is set with
its event, and a waiting follow-on becomes the target. R235: HALT discards the follow-on and ends homing. R247: EN = 0
clears HOMED. R241: homing starts with EN = 1 and no fault, trips, makes HOME_POS the position of the raw edge, moves to
HOME_POS + BACKOFF away from HDIR, and fails beyond HOME_MAX. That EN = 0 ends homing is log entry 9's. -/
def Obligations.AxisMovesAndHoming : Prop :=
  ∀ (s : State) (a : Fin 9) (v : BitVec 32), s.part.hasAxis a = true →
    let x := vget s.axis a
    let dir : Int := if s.on (AXa_CTL_HDIR a) then 1 else -1
    let hpos := s.sfld (AXa_HOME_POS_HPOS a)
    let back := hpos - dir * (s.fld (AXa_BACKOFF_BACKOFF a) : Int)
    let rest : Prop := x.p = x.t * 65536 ∧ x.v = 0 ∧ x.acc = 0
    let ends (t : State) : Prop := (x.homeStep ≠ 0 → t.fld (AXa_STAT_HOMING a) = 0 ∧ t.fld (AXa_STAT_HOMED a) = 0) ∧
      (vget t.axis a).homeStep = 0
    Does (.axisTarget a v) s (fun t => t.rd (AXa_TGT a) = v ∧ (vget t.axis a).reqs = x.reqs ++ [.abs v.toInt] ∧
      (vget t.axis a).t = x.t ∧ Block.regsOnly [AXa_TGT a] s.toBlock t.toBlock) ∧
    Does (.axisRelative a v) s (fun t => t.regs = s.regs ∧ (vget t.axis a).reqs = x.reqs ++ [.rel v.toInt] ∧
      (vget t.axis a).t = x.t) ∧
    (rest → s.on (AXa_STAT_DONE a) = false → s.on (AXa_STAT_HOMING a) = false → Does (.axisDone a) s (fun t =>
      t.raised (1216 + 8 * a.val) = true ∧
      (x.follow = none ∨ s.on (AXa_CTL_HALT a) = true ∨ s.rd (AXa_FAULT a) ≠ 0 →
        t.fld (AXa_STAT_DONE a) = 1 ∧ t.axis = s.axis) ∧
      (∀ w, x.follow = some w → s.on (AXa_CTL_HALT a) = false → s.rd (AXa_FAULT a) = 0 →
        (vget t.axis a).t = w ∧ (vget t.axis a).follow = none ∧ t.fld (AXa_STAT_FWAIT a) = 0 ∧
        t.fld (AXa_STAT_DONE a) = 0 ∧ t.raised (1216 + 8 * a.val + 1) = true))) ∧
    Does (.axisHalt a) s (fun t => t.fld (AXa_CTL_HALT a) = 1 ∧ (vget t.axis a).follow = none ∧
      t.fld (AXa_STAT_FWAIT a) = 0 ∧ ends t ∧ (vget t.axis a).p = x.p ∧ (vget t.axis a).v = x.v) ∧
    Does (.axisDisable a) s (fun t => t.fld (AXa_CTL_EN a) = 0 ∧ t.fld (AXa_STAT_HOMED a) = 0 ∧
      (vget t.axis a).follow = none ∧ t.fld (AXa_STAT_FWAIT a) = 0 ∧ t.fld (AXa_LOAD_CUR a) = 0 ∧ ends t) ∧
    (s.on (AXa_CTL_EN a) = true → s.rd (AXa_FAULT a) = 0 → s.on (AXa_STAT_HOMING a) = false →
      Does (.homingStart a) s (fun t => t.fld (AXa_STAT_HOMING a) = 1 ∧ t.fld (AXa_STAT_HOMED a) = 0 ∧
        (s.on (AXa_CTL_HMODE a) = false → s.on (AXa_STAT_HOMESW a) = true → (vget t.axis a).homeStep = 3 ∧
          0 < -dir * ((vget t.axis a).t - x.p / 65536)) ∧
        (s.on (AXa_CTL_HMODE a) = true ∨ s.on (AXa_STAT_HOMESW a) = false → (vget t.axis a).homeStep = 1 ∧
          0 < dir * ((vget t.axis a).t - x.p / 65536)))) ∧
    (s.on (AXa_CTL_EN a) = false ∨ s.rd (AXa_FAULT a) ≠ 0 ∨ s.on (AXa_STAT_HOMING a) = true →
      exec (.homingStart a) s = .next s) ∧
    (s.on (AXa_CTL_HMODE a) = true → x.homeStep = 1 → Does (.homeTrip a) s (fun t =>
      (vget t.axis a).p = hpos * 65536 ∧ (vget t.axis a).v = 0 ∧ (vget t.axis a).homeStep = 5 ∧
      (vget t.axis a).t = back)) ∧
    (s.on (AXa_CTL_HMODE a) = false → x.homeStep = 1 → Does (.homeTrip a) s (fun t =>
      (vget t.axis a).homeStep = 2 ∧ t.fld (AXa_STAT_HOMESW a) = 1 ∧ (vget t.axis a).p = x.p)) ∧
    (s.on (AXa_CTL_HMODE a) = false → x.homeStep = 4 → Does (.homeTrip a) s (fun t =>
      (vget t.axis a).homeStep = 5 ∧ (vget t.axis a).t = back ∧
      (∀ e, x.hist[4]? = some e → (vget t.axis a).p - hpos * 65536 = x.p - e))) ∧
    (x.homeStep = 5 → rest → Does (.homingDone a) s (fun t => t.fld (AXa_STAT_HOMED a) = 1 ∧
      t.fld (AXa_STAT_HOMING a) = 0 ∧ (vget t.axis a).homeStep = 0 ∧ t.raised (1216 + 8 * a.val + 5) = true)) ∧
    (x.homeStep ∈ [1, 3, 4] → (s.fld (AXa_HOME_MAX_HMAX a) : Int) * 65536 < |x.p - x.homeFrom| →
      Does (.homingFail a) s (fun t => t.fld (AXa_FAULT_HOMEFAIL a) = 1 ∧ t.fld (AXa_STAT_FAULT a) = 1 ∧ ends t ∧
        (vget t.axis a).halting = true ∧ t.raised (1216 + 8 * a.val + 6) = true))

/-- R239: a stall holds the address, sets V to 0 and P to its position, sets STALL, clears HOMED and drops the
follow-on. R240, R242, R247: chatter, a trip outside homing and a coil fault set SWITCH, LIMIT and COIL, make the
emergency stop of R236 and raise offsets 3, 4 and 7. R240: the chatter of the magazine's switches sets CHAT_D or CHAT_C;
that it raises 24 or 25 is log entry 10's. -/
def Obligations.AxisFaults : Prop :=
  ∀ (s : State) (a : Fin 9), s.part.hasAxis a = true →
    let x := vget s.axis a
    let m := s.fld (AXa_STAT_RES_M a)
    let mode := s.fld (AXa_CTL_SMODE a)
    let faults (t : State) : List Nat := [t.fld (AXa_FAULT_STALL a), t.fld (AXa_FAULT_SWITCH a),
      t.fld (AXa_FAULT_LIMIT a), t.fld (AXa_FAULT_HOMEFAIL a), t.fld (AXa_FAULT_COIL a)]
    let stops (t : State) (n k : Nat) : Prop := faults t = (faults s).set n 1 ∧ t.fld (AXa_STAT_FAULT a) = 1 ∧
      (vget t.axis a).emerg = true ∧ (vget t.axis a).v = x.v ∧ t.raised (1216 + 8 * a.val + k) = true
    (s.on (AXa_FAULT_STALL a) = false → (s.on (AXa_CTL_HMODE a) = false ∨ x.homeStep ≠ 1) →
      (mode = 2 ∨ mode = 1 ∧ a.val < 4) → Does (.axisStall a) s (fun t => faults t = (faults s).set 0 1 ∧
        t.fld (AXa_STAT_FAULT a) = 1 ∧ t.fld (AXa_STAT_HOMED a) = 0 ∧ t.fld (AXa_STAT_MOVING a) = 0 ∧
        (vget t.axis a).v = 0 ∧ (vget t.axis a).acc = 0 ∧ (vget t.axis a).follow = none ∧
        (vget t.axis a).addr = x.addr ∧ tableAddr (vget t.axis a).p 0 = tableAddr x.p m ∧
        t.fld (AXa_LOAD_CUR a) = s.fld (AXa_CUR_IHOLD a) ∧
        t.fld (AXa_CNT_STALLS a) = min (s.fld (AXa_CNT_STALLS a) + 1) 255 ∧
        t.raised (1216 + 8 * a.val + 2) = true)) ∧
    (mode = 0 ∨ mode = 3 ∨ mode = 1 ∧ 4 ≤ a.val → exec (.axisStall a) s = .next s) ∧
    (∀ w : Fin 6, w.val = a.val → w.val < 4 → Does (.switchChatter w) s (fun t => stops t 1 3)) ∧
    Does (.switchChatter 4) s (fun t => t.fld MZ_SW_CHAT_D = 1 ∧ t.axis = s.axis ∧ t.raised 24 = true) ∧
    Does (.switchChatter 5) s (fun t => t.fld MZ_SW_CHAT_C = 1 ∧ t.axis = s.axis ∧ t.raised 25 = true) ∧
    (a.val < 4 → s.on (AXa_STAT_HOMING a) = false → Does (.limitTrip a) s (fun t => stops t 2 4 ∧
      t.fld (AXa_STAT_HOMED a) = 0)) ∧
    (4 ≤ a.val ∨ s.on (AXa_STAT_HOMING a) = true → exec (.limitTrip a) s = .next s) ∧
    Does (.coilFault a) s (fun t => stops t 4 7)

/-- R246, R248: an opening of the door clears DOOR and holds LDEN of every surface at 0, with source 24; while the lock
is driven it sets FORCED with source 26, and firmware writes RUN = 0 with STOPMODE = 1 on both spindles and HALT on AX8.
A closing, and a change of the clamp, set their bits and raise 24 and 25. -/
def Obligations.DoorAndClamp : Prop :=
  ∀ (s : State) (closed : Bool),
    (s.on MZ_SW_DOOR = true → Does .doorOpen s (fun t => t.fld MZ_SW_DOOR = 0 ∧ t.fld MZ_SW_DOOR_RAW = 0 ∧
      t.raised 24 = true ∧ (∀ u : Fin 4, s.part.hasSurf u = true → t.fld (SEs_LSAFE_LDEN u) = 0) ∧
      (s.on MZ_LOCK_LOCK = false → t.fld MZ_SW_FORCED = s.fld MZ_SW_FORCED) ∧
      (s.on MZ_LOCK_LOCK = true → t.fld MZ_SW_FORCED = 1 ∧ t.raised 26 = true ∧ t.fld (AXa_CTL_HALT 8) = 1 ∧
        ∀ n : Fin 2, s.part.hasSpin n = true → t.fld (SPn_CTL_STOPMODE n) = 1 ∧ t.fld (SPn_CTL_RUN n) = 0))) ∧
    (s.on MZ_SW_DOOR = false → Does .doorClosed s (fun t => t.fld MZ_SW_DOOR = 1 ∧ t.fld MZ_SW_DOOR_RAW = 1 ∧
      t.raised 24 = true ∧ Block.regsOnly [MZ_SW] s.toBlock t.toBlock)) ∧
    (s.on MZ_SW_CLAMP ≠ closed → Does (.clampChange closed) s (fun t => t.on MZ_SW_CLAMP = closed ∧
      t.on MZ_SW_CLAMP_RAW = closed ∧ t.raised 25 = true ∧ Block.regsOnly [MZ_SW] s.toBlock t.toBlock)) ∧
    (s.on MZ_SW_CLAMP = closed → exec (.clampChange closed) s = .next s)

/-! ### Host queues -/

/-- R253: EN with good admin registers makes pair 0 and sets RDY with source 199; a size of 0 or a base not 4 KiB aligned
sets CFS with 197. R252: a controller reset deletes every pair, discards unstarted commands, and raises 198, pending where MSI-X is off. R256: a
valid doorbell moves its pointer, an invalid one changes nothing but HQ_DBERR, once, and raises 192. R272: a failed
transfer ends its command with INTERNAL, a failed fetch freezes its SQ, a failed completion write sets CFS. R250: the
link's rate and width are shown, SLOW below 8.0 GT/s. -/
def Obligations.HostControl : Prop :=
  ∀ (s : State) (arb : Bool) (q : Fin 128) (v : Word) (c : Cmd) (addr : Nat) (sp : Fin 6) (w : BitVec 6) (pm : BitVec 2),
    let good : Prop := s.fld HQ_AQ_SIZE_ASQS ≠ 0 ∧ s.fld HQ_AQ_SIZE_ACQS ≠ 0 ∧ (s.rd HQ_ASQ_LO).toNat % 4096 = 0 ∧
      (s.rd HQ_ACQ_LO).toNat % 4096 = 0
    let sqs := s.fld (HQ_Pq_CFG_SQS q) + 1
    let cqs := s.fld (HQ_Pq_CFG_CQS q) + 1
    let okSq : Prop := s.takesDoorbell q = true ∧ v.toNat < sqs ∧
      s.sqDepth q ≤ (v.toNat + sqs - s.fld (HQ_Pq_SQ_HEAD q)) % sqs
    let okCq : Prop := s.takesDoorbell q = true ∧ v.toNat < cqs ∧
      (v.toNat + cqs - s.fld (HQ_Pq_CQ_HEAD q)) % cqs ≤ s.cqDepth q
    let bad (t : State) : Prop := t.rd (HQ_Pq_SQ q) = s.rd (HQ_Pq_SQ q) ∧ t.rd (HQ_Pq_CQ q) = s.rd (HQ_Pq_CQ q) ∧
      t.raised 192 = true ∧ t.fld HQ_DBERR_VALID = 1 ∧
      (s.on HQ_DBERR_VALID = true → t.rd HQ_DBERR = s.rd HQ_DBERR) ∧
      (s.on HQ_DBERR_VALID = false → t.fld HQ_DBERR_PAIR = q.val ∧ t.fld HQ_DBERR_VALUE = v.toNat % 4096)
    (s.on HQ_CTL_EN = false → s.on HQ_STAT_RDY = false → Does (.controllerEnable arb) s (fun t =>
      t.fld HQ_CTL_EN = 1 ∧ t.on HQ_CTL_ARBMODE = arb ∧
      (s.on HQ_STAT_CFS = false → s.hq.booted = true → s.hq.resetting = false →
        (good → t.fld HQ_STAT_RDY = 1 ∧ t.fld HQ_STAT_CFS = 0 ∧ t.pairOn 0 = true ∧
          t.fld (HQ_Pq_CFG_SQS 0) = s.fld HQ_AQ_SIZE_ASQS ∧ t.fld (HQ_Pq_CFG_CQS 0) = s.fld HQ_AQ_SIZE_ACQS ∧
          t.fld (HQ_Pq_CQ_PHASE 0) = 1 ∧ t.rd (HQ_Pq_SQ 0) = 0 ∧ t.raised 199 = true) ∧
        (¬ good → t.fld HQ_STAT_RDY = 0 ∧ t.fld HQ_STAT_CFS = 1 ∧ t.raised 197 = true)))) ∧
    (s.on HQ_CTL_EN = true ∨ s.on HQ_STAT_RDY = true → exec (.controllerEnable arb) s = .next s) ∧
    (s.on HQ_CTL_EN = false → exec (.controllerReset .enCleared) s = .next s) ∧
    (∀ cause, (cause = .enCleared → s.on HQ_CTL_EN = true) → Does (.controllerReset cause) s (fun t =>
      t.fld HQ_CTL_EN = 0 ∧ t.fld HQ_STAT_CFS = 0 ∧ (s.irq.msixEn = false → t.raised 198 = true) ∧ (∀ k, t.pairOn k = false) ∧
      (∀ x ∈ t.hq.cmds, x.started = true ∧ x.discard = true) ∧ t.hq.async = [] ∧
      (cause ≠ .enCleared → t.hq.bme = false ∧ t.irq.msixEn = false) ∧
      (cause = .perst → t.fld HQ_LINK_SPEED = 0) ∧ (cause ≠ .perst → t.rd HQ_LINK = s.rd HQ_LINK) ∧
      t.spin = s.spin ∧ t.servo = s.servo ∧ t.wp = s.wp)) ∧
    (okSq → Does (.sqTailDoorbell q v) s (fun t => t.fld (HQ_Pq_SQ_TAIL q) = v.toNat ∧
      Block.regsOnly [HQ_Pq_SQ q] s.toBlock t.toBlock ∧ t.hq = s.hq)) ∧
    (¬ okSq → Does (.sqTailDoorbell q v) s bad) ∧
    (okCq → Does (.cqHeadDoorbell q v) s (fun t => t.fld (HQ_Pq_CQ_HEAD q) = v.toNat ∧
      Block.regsOnly [HQ_Pq_CQ q] s.toBlock t.toBlock ∧ t.hq = s.hq ∧
      (t.cqDepth q = 0 → t.raised (64 + q.val) = false))) ∧
    (¬ okCq → Does (.cqHeadDoorbell q v) s bad) ∧
    (s.cmd c.tag = some c → c.started = true → c.fin = none → Does (.hostDmaFailure (.data c.tag addr)) s (fun t =>
      t.cmd c.tag = some { c with fin := some { Finish.of 0x7F 0x38 0 with haddr := some addr } } ∧
      t.regs = s.regs)) ∧
    (s.pairOn q = true → q ≠ 0 → s.fld HQ_ELOG_CNT_COUNT < 2 ^ 32 - 1 → Does (.hostDmaFailure (.fetch q addr)) s (fun t =>
      t.onBit (HQ_FROZEN_k_FROZEN (q.val / 32)) (q.val % 32) = true ∧ t.raised 196 = true ∧ t.raised 195 = true ∧
      t.fld HQ_ELOG_CNT_COUNT = s.fld HQ_ELOG_CNT_COUNT + 1 ∧
      ∀ x ∈ t.hq.cmds, x.pair = q.val → x.started = true)) ∧
    Does (.hostDmaFailure .completion) s (fun t => t.fld HQ_STAT_CFS = 1 ∧ t.raised 197 = true ∧ t.hq = s.hq) ∧
    Does (.pcieLinkChange sp w pm) s (fun t => t.fld HQ_LINK_SPEED = sp.val ∧
      t.fld HQ_LINK_WIDTH = (if sp = 0 then 0 else w.toNat) ∧ t.fld HQ_LINK_PMSTATE = pm.toNat ∧
      t.on HQ_LINK_SLOW = decide (sp = 1 ∨ sp = 2) ∧ Block.regsOnly [HQ_LINK] s.toBlock t.toBlock ∧
      (s.fld HQ_LINK_SPEED ≠ 0 → sp = 0 → t.raised 193 = true) ∧
      (sp ≠ 0 → s.fld HQ_LINK_SPEED ≠ sp.val ∨ s.fld HQ_LINK_WIDTH ≠ w.toNat → t.raised 194 = true))

/-- R257, R259: a fetch moves the SQ head and gives a free tag; R285: a failed check completes the command at once. R263:
a lock is granted when no earlier entry conflicts. R261: ingest space goes in fetch order; a started command meets checks
4 to 8, the first failure being how it ends. R258, R281: a completion stands at the CQ tail with RES, SQHD, SQID, CID,
TAG, P and STATUS, and frees the tag; R269, R270: an error freezes its I/O pair and is logged. -/
def Obligations.CommandLife : Prop :=
  ∀ (s : State) (q : Nat) (b' : Block) (d : Vector Word 16) (c : Cmd) (f : Finish),
    let head := s.fld (HQ_Pq_SQ_HEAD q)
    let tail := s.fld (HQ_Pq_CQ_TAIL c.pair)
    let size := s.fld (HQ_Pq_CFG_CQS c.pair) + 1
    let b1 := s.toBlock.modCmd c.tag fun x => { x with started := true }
    exec (.commandFetch []) s = .next s ∧
    (s.arbitrate = some (q, b') → head ≤ s.fld (HQ_Pq_CFG_SQS q) → s.hq.cmds.length < 4096 →
      (s.entryCheck q d = none → Does (.commandFetch [d]) s (fun t =>
        t.fld (HQ_Pq_SQ_HEAD q) = (head + 1) % (s.fld (HQ_Pq_CFG_SQS q) + 1) ∧
        t.fld (HQ_Pq_ATTR_OUT q) = s.fld (HQ_Pq_ATTR_OUT q) + 1 ∧
        ∃ x ∈ t.hq.cmds, x.tag = s.freeTag ∧ x.pair = q ∧ x.dws = d ∧ x.fin = none ∧
          x.started = decide (dwBits d 0 7 0 = 0x10))) ∧
      (∀ st k, s.entryCheck q d = some (st, k) → q = 0 → s.hq.cmds.all (fun x => x.tag ≠ s.freeTag) = true →
        Does (.commandFetch [d]) s (fun t =>
          t.fld (HQ_Pq_SQ_HEAD 0) = (head + 1) % (s.fld (HQ_Pq_CFG_SQS 0) + 1) ∧
          t.fld (HQ_Pq_ATTR_OUT 0) = s.fld (HQ_Pq_ATTR_OUT 0) ∧ t.hq.cmds.length = s.hq.cmds.length ∧
          ∃ ws e, OutMsg.completion 0 (s.fld (HQ_Pq_CQ_TAIL 0)) (ws ++ [e]) ∈ t.out ∧ e.toNat / 2 % 128 = st % 128))) ∧
    (∀ r, s.cmd c.tag = some c → c.range = some r → c.entry = true →
      ((∀ x ∈ s.hq.cmds, x.seq < c.seq → ∀ r', x.range = some r' → r'.conflict r = false) →
        Does (.lockGrant c.tag) s (fun t => t.cmd c.tag = some { c with granted := true } ∧ t.regs = s.regs)) ∧
      ((∃ x ∈ s.hq.cmds, x.seq < c.seq ∧ ∃ r', x.range = some r' ∧ r'.conflict r = true) →
        exec (.lockGrant c.tag) s = .next s)) ∧
    (s.cmd c.tag = some c → c.space ≠ 0 → c.reserved = false →
      (∀ x ∈ s.hq.cmds, x.seq < c.seq → x.space ≠ 0 → x.reserved = true) →
      s.hq.ingestUsed + c.space ≤ 8 * 2 ^ 30 → 0 ≤ s.hq.credit → s.lagFull = false → s.pw.dyke = none →
      Does (.ingestReserve c.tag) s (fun t => t.cmd c.tag = some { c with reserved := true } ∧
        t.hq.ingestUsed = s.hq.ingestUsed + c.space ∧ t.hq.credit = s.hq.credit - c.space * 400000 ∧
        t.regs = s.regs)) ∧
    (s.hq.credit < 0 → exec (.ingestReserve c.tag) s = .next s) ∧
    (s.cmd c.tag = some c → s.mayStart c = true → s.pw.dyke = none → c.bits 0 9 8 ≠ 2 →
      (b1.startCheck c = none → c.opc ≠ 0x21 → c.opc ≠ 0x31 → Does (.commandStart c.tag []) s (fun t =>
        t.toBlock = b1)) ∧
      (∀ st k, b1.startCheck c = some (st, k) → Does (.commandStart c.tag []) s (fun t =>
        t.cmd c.tag = some { c with started := true, fin := some (Finish.of st k 0) } ∧ t.regs = s.regs))) ∧
    (s.cmd c.tag = some c → s.mayStart c = false → exec (.commandStart c.tag []) s = .next s) ∧
    (s.cmd c.tag = some c → c.fin = some f → s.finalFin c f = f → s.mayPost c f = true →
      s.on HQ_STAT_CFS = false → s.pw.dyke = none → s.degraded c = false → c.discard = false → c.opc ≠ 0x0D →
      c.pair < 128 → s.hq.deleting = [] → s.hq.resetting = false →
      Does (.completionPost c.tag) s (fun t => t.cmd c.tag = none ∧ t.raised (64 + c.pair) = true ∧
        (f.status = 0 → c.stamp = none → t.fld (HQ_Pq_CQ_TAIL c.pair) = (if tail + 1 = size then 0 else (tail + 1) % 4096) ∧
          (tail + 1 = size → t.fld (HQ_Pq_CQ_PHASE c.pair) = 1 - s.fld (HQ_Pq_CQ_PHASE c.pair)) ∧
          OutMsg.completion c.pair tail ([f.res, s.fld (HQ_Pq_SQ_HEAD c.pair) + 65536 * c.pair, c.cid + 65536 * c.tag,
            s.fld (HQ_Pq_CQ_PHASE c.pair)].map (BitVec.ofNat 32)) ∈ t.out) ∧
        (statusErrors f.status = true → t.raised 195 = true ∧
          (c.pair ≠ 0 → t.onBit (HQ_FROZEN_k_FROZEN (c.pair / 32)) (c.pair % 32) = true ∧ t.raised 196 = true))))

/-! ### Admin commands -/

/-- R288: IDENTIFY sends its structure and ends with SUCCESS. R254, R289, R275, R271: QUEUE CREATE makes a pair or ends with
INVALID_FIELD; QUEUE DELETE ends once no started command remains; QUEUE RESUME clears the frozen bit. R274: an unstarted
target completes with ABORTED, any other gives ABORT_TOO_LATE. R290: LOG READ gives the page length, RANGE past its end.
R292, R293: each feature is set in its range and read back; an undefined FID is INVALID_FIELD. -/
def Obligations.AdminQueuesAndFeatures : Prop :=
  ∀ (s : State) (c : Cmd) (peer : Bool), c.range = none → c.pair = 0 → (s.hq.cmds.map (·.tag)).Nodup →
    let q10 := c.bits 10 6 0
    let fid := c.bits 10 7 0
    let w := dwOf c.dws 12
    let v := dwOf c.dws 11
    let set (P : State → Prop) := Does (.featureSet c.tag peer) s (fun t => P t ∧ t.endsWith c 0 0 0)
    (s.atWork c 0x01 → Does (.identify c.tag) s (fun t => t.endsWith c 0 0 0 ∧ t.regs = s.regs ∧
      ∃ bytes : List Byte, t.out = s.out ++ [.hostData c.tag bytes] ∧ bytes.length = c.dlen ∧
        (fid = 0 → c.dlen = 4096 → valAt bytes 0 2 = 0x1F3C ∧ valAt bytes 80 2 = 128 ∧ valAt bytes 96 4 = 268435456 ∧
          valAt bytes 2 2 = match s.part with | .pl6416 => 0x6416 | .pl3216 => 0x3216) ∧
        (fid = 3 → c.dlen = 4096 → s.store.vol.vstate ≠ 0 → byteAt bytes 16 = s.store.vol.vstate % 256))) ∧
    (s.atWork c 0x02 →
      let q := c.bits 13 6 0
      let ok : Prop := q ≠ 0 ∧ s.pairOn q = false ∧ c.bits 12 11 0 ≠ 0 ∧ c.bits 12 27 16 ≠ 0 ∧ c.bits 8 11 0 = 0 ∧
        c.bits 10 11 0 = 0 ∧ c.bits 13 18 16 ≤ 4
      (ok → Does (.queueCreate c.tag) s (fun t => t.endsWith c 0 0 0 ∧ t.pairOn q = true ∧
        t.fld (HQ_Pq_CFG_SQS q) = c.bits 12 11 0 ∧ t.fld (HQ_Pq_CFG_CQS q) = c.bits 12 27 16 ∧
        t.fld (HQ_Pq_ATTR_VEC q) = c.bits 13 14 8 ∧ t.fld (HQ_Pq_ATTR_CLASS q) = c.bits 13 18 16 ∧
        t.rd (HQ_Pq_SQ q) = 0 ∧ t.fld (HQ_Pq_CQ_PHASE q) = 1 ∧
        Block.regsOnly [HQ_PAIR_k (q / 32), HQ_FROZEN_k (q / 32), HQ_Pq_CFG q, HQ_Pq_SQ q, HQ_Pq_CQ q, HQ_Pq_ATTR q]
          s.toBlock t.toBlock)) ∧
      (¬ ok → Does (.queueCreate c.tag) s (fun t => t.endsWith c 0x02 0x10 0 ∧ t.regs = s.regs))) ∧
    (s.atWork c 0x03 → q10 ≠ 0 → s.pairOn q10 = true → s.hq.deleting = [] →
      Does (.queueDelete c.tag) s (fun t =>
        ((∀ x ∈ s.hq.cmds, x.pair = q10 → x.started = false) → t.pairOn q10 = false ∧ t.endsWith c 0 0 0) ∧
        ((∃ x ∈ s.hq.cmds, x.pair = q10 ∧ x.started = true) → t.pairOn q10 = true ∧ t.takesDoorbell q10 = false ∧
          t.cmd c.tag = some c ∧ ∀ x ∈ t.hq.cmds, x.pair = q10 → x.started = true))) ∧
    (s.atWork c 0x04 →
      (q10 ≠ 0 → s.pairOn q10 = true → Does (.queueResume c.tag) s (fun t => t.endsWith c 0 0 0 ∧
        t.onBit (HQ_FROZEN_k_FROZEN (q10 / 32)) (q10 % 32) = false ∧
        Block.regsOnly [HQ_FROZEN_k (q10 / 32)] s.toBlock t.toBlock)) ∧
      (q10 = 0 ∨ s.pairOn q10 = false → Does (.queueResume c.tag) s (fun t => t.endsWith c 0x02 0x10 0 ∧
        t.regs = s.regs))) ∧
    (s.atWork c 0x0E →
      (s.pairOn q10 = false → Does (.abort c.tag) s (fun t => t.endsWith c 0x02 0x10 0)) ∧
      (s.pairOn q10 = true → ∀ x, s.hq.cmds.find? (fun y => y.pair = q10 && y.cid = c.bits 10 31 16) = some x →
        (x.started = false → x.opc ≠ 0x0E → x.opc ≠ 0x10 → x.tag ≠ c.tag → Does (.abort c.tag) s (fun t =>
          t.endsWith c 0 0 0 ∧ t.cmd x.tag = none)) ∧
        (x.started = true → Does (.abort c.tag) s (fun t => t.endsWith c 0x31 0 0 ∧ t.regs = s.regs))) ∧
      (s.pairOn q10 = true → s.hq.cmds.find? (fun y => y.pair = q10 && y.cid = c.bits 10 31 16) = none →
        Does (.abort c.tag) s (fun t => t.endsWith c 0x31 0 0))) ∧
    (s.atWork c 0x05 → ∀ lid len, (lid, len) ∈ [(2, 512), (3, 512), (6, 256), (7, 1024)] → fid = lid →
      (v < len → Does (.logRead c.tag) s (fun t => t.endsWith c 0 0 len ∧ t.regs = s.regs ∧
        ∃ bytes : List Byte, t.out = s.out ++ [.hostData c.tag bytes] ∧ bytes.length = c.dlen)) ∧
      (len ≤ v → Does (.logRead c.tag) s (fun t => t.endsWith c 0x03 0 0 ∧ t.out = s.out))) ∧
    (s.atWork c 0x06 →
      (fid = 1 → 64 ≤ v → v ≤ 1024 → v % 64 = 0 → set fun t => t.fld PW_HOLDUP_ALLOW =
        min v (s.fld PW_HOLDUP_CAP)) ∧
      (fid = 2 → v ≤ 1 → (v = 0 ∨ s.on PT_STAT_HOT = false) → set fun t => t.hq.dense = decide (v = 1) ∧ t.regs = s.regs) ∧
      (fid = 2 → v = 1 → s.on PT_STAT_HOT = true → Does (.featureSet c.tag peer) s (fun t => t.endsWith c 0x02 0x0F 0)) ∧
      (fid = 3 → v &&& 0xFFFCC000 = 0 → s.store.vol.vstate ≠ 3 → Does (.featureSet c.tag peer) s (fun t =>
        t.endsWith c 0x20 0 0)) ∧
      (fid = 4 → v ≤ 65535 → set fun t => t.hq.asyncMask = v ∧ t.regs = s.regs) ∧
      (fid = 6 → v ≤ 65535 → set fun t => t.hq.floor = v ∧ t.regs = s.regs) ∧
      (fid = 7 → v ≤ 127 → w ≤ 0xFFFFFF → set fun t => t.fld (IC_MOD_v_HOLDOFF v) = w % 65536 ∧
        t.fld (IC_MOD_v_COUNT v) = w / 65536 ∧ Block.regsOnly [IC_MOD_v v] s.toBlock t.toBlock) ∧
      (fid = 8 → v ≤ 65535 → set fun t => t.hq.idle = v ∧ t.regs = s.regs) ∧
      (fid = 0 ∨ 8 < fid → Does (.featureSet c.tag peer) s (fun t => t.endsWith c 0x02 0x10 0 ∧ t.regs = s.regs))) ∧
    (s.atWork c 0x07 → Does (.featureGet c.tag) s (fun t => t.regs = s.regs ∧ t.out = s.out ∧
      (fid = 1 → t.endsWith c 0 0 (s.fld PW_HOLDUP_ALLOW + 65536 * s.fld PW_HOLDUP_CAP)) ∧
      (fid = 2 → t.endsWith c 0 0 s.hq.dense.toNat) ∧ (fid = 4 → t.endsWith c 0 0 s.hq.asyncMask) ∧
      (fid = 6 → t.endsWith c 0 0 s.hq.floor) ∧ (fid = 8 → t.endsWith c 0 0 s.hq.idle) ∧
      (fid = 0 ∨ 8 < fid → t.endsWith c 0x02 0x10 0)))

/-- R300, R404: KEY INSTALL erases, or refuses a bound or occupied slot. R301: FIRMWARE STAGE stores its bytes within 24 MiB.
R302: FIRMWARE COMMIT refuses an empty slot and a busy activation, marks a slot, or activates it with RES 1. R305: an
ASYNC EVENT takes the oldest event or stays outstanding; an event with none outstanding is queued, up to 32. R306:
TELEMETRY READ gives the count of records. R307: a self test ends with its result. R308: STANDBY is refused while
anything is open, else stops the spindles and ends once DRAM data is in Peat. -/
def Obligations.AdminKeysAndEvents : Prop :=
  ∀ (s : State) (c : Cmd) (data : List Byte) (k : Fin 17) (info : BitVec 8) (dat : BitVec 16)
    (pass : Bool) (item inst : BitVec 8), (s.hq.cmds.map (·.tag)).Nodup →
    let slot := c.bits 10 5 0
    let off := dwOf c.dws 10 * 4096
    let fslot := c.bits 10 1 0
    let act := c.bits 10 4 2
    let img := (vget s.hq.fw (Fin.ofNat 2 (fslot - 1))).image
    let test := c.bits 10 3 0
    let mask := dwOf c.dws 10 % 1024
    let int := dwOf c.dws 11
    (s.atWork c 0x0B →
      (s.slotBound slot = true → Does (.keyInstall c.tag data) s (fun t => t.endsWith c 0x21 0 0 ∧ t.cx = s.cx)) ∧
      (s.slotBound slot = false → c.bits 10 8 8 = 1 → s.alarmed = false → Does (.keyInstall c.tag data) s (fun t =>
        t.endsWith c 0 0 0 ∧ t.slot slot = CxKey.none ∧ t.fld CX_KS_STAT_RESULT = 0)) ∧
      (s.slotBound slot = false → c.bits 10 8 8 = 0 → (s.slot slot).kind ≠ 0 → Does (.keyInstall c.tag data) s (fun t =>
        t.endsWith c 0x02 0x10 0 ∧ t.cx = s.cx))) ∧
    (s.atWork c 0x0C →
      (off + c.dlen ≤ 24 * 2 ^ 20 → Does (.firmwareStage c.tag data) s (fun t => t.endsWith c 0 0 0 ∧ t.regs = s.regs ∧
        (∀ i, i < min c.dlen data.length → t.hq.stage.get (off + i) 0 = data.getD i 0) ∧
        (off = 0 → ∀ i, c.dlen ≤ i → t.hq.stage.get i 0 = 0))) ∧
      (24 * 2 ^ 20 < off + c.dlen → Does (.firmwareStage c.tag data) s (fun t => t.endsWith c 0x03 0 0 ∧
        t.hq.stage = s.hq.stage))) ∧
    (s.atWork c 0x0D →
      (act = 2 ∨ act = 4 → img = [] → Does (.firmwareCommit c.tag) s (fun t => t.endsWith c 0x02 0x0E 0 ∧
        t.hq.fw = s.hq.fw)) ∧
      (act = 2 → img ≠ [] → Does (.firmwareCommit c.tag) s (fun t => t.endsWith c 0 0 0 ∧ t.hq.fwNext = fslot ∧
        t.hq.fwActive = s.hq.fwActive)) ∧
      (act = 4 → img ≠ [] → s.fwBusy = true → Does (.firmwareCommit c.tag) s (fun t => t.endsWith c 0x21 0 0)) ∧
      (act = 4 → img ≠ [] → s.fwBusy = false → Does (.firmwareCommit c.tag) s (fun t => t.endsWith c 0 0 1 ∧
        t.hq.fwActive = fslot)) ∧
      (act ≠ 2 → act ≠ 4 → (s.hq.stage.get 0 0 ≠ 0x50 → Does (.firmwareCommit c.tag) s (fun t =>
        t.endsWith c 0x02 0x0E 0 ∧ t.hq.fw = s.hq.fw)))) ∧
    (s.atWork c 0x10 → s.hq.async.contains c.tag = false → s.hq.dropped = 0 →
      (∀ a i d rest, s.hq.events = (a, i, d) :: rest → Does (.asyncEvent c.tag) s (fun t =>
        t.endsWith c 0 0 (a + 256 * (i % 256) + 65536 * (d % 65536)) ∧ t.hq.events = rest)) ∧
      (s.hq.events = [] → Does (.asyncEvent c.tag) s (fun t => t.hq.async = s.hq.async ++ [c.tag] ∧
        t.cmd c.tag = some c))) ∧
    (k ≠ 0 → s.hq.asyncMask.testBit (k.val - 1) = false ∨ k = 15 → s.hq.async = [] →
      Does (.asyncEventReport k info dat) s (fun t => t.regs = s.regs ∧
        ((∃ e ∈ s.hq.events, e.1 = k.val ∧ e.2.1 = info.toNat) → t.hq = s.hq) ∧
        ((∀ e ∈ s.hq.events, e.1 = k.val → e.2.1 ≠ info.toNat) →
          (s.hq.events.length < 32 → t.hq.events = s.hq.events ++ [(k.val, info.toNat, dat.toNat)]) ∧
          (32 ≤ s.hq.events.length → t.hq.events = s.hq.events ∧ t.hq.dropped = s.hq.dropped + 1)))) ∧
    (k ≠ 0 → k ≠ 15 → s.hq.asyncMask.testBit (k.val - 1) = true → exec (.asyncEventReport k info dat) s = .next s) ∧
    (s.atWork c 0x11 →
      (c.bits 10 7 0 = 0 ∨ 5 < c.bits 10 7 0 → Does (.telemetryRead c.tag) s (fun t => t.endsWith c 0x02 0x10 0)) ∧
      (1 ≤ c.bits 10 7 0 → c.bits 10 7 0 ≤ 5 → Does (.telemetryRead c.tag) s (fun t => t.regs = s.regs ∧
        (∃ n, n ≤ c.dlen / 64 ∧ t.endsWith c 0 0 n) ∧ ∃ bytes : List Byte,
          t.out = s.out ++ [.hostData c.tag bytes] ∧ bytes.length = c.dlen))) ∧
    (s.atWork c 0x12 →
      (test ≠ 15 → s.hq.test = none → (test = 2 → s.store.vol.clips.all (fun x => x.state ≠ 1) = true) →
        Does (.selfTest c.tag none) s (fun t => t.hq.test = some (c.tag, test) ∧ t.cmd c.tag = some c)) ∧
      (∀ n, test ≠ 15 → s.hq.test = some (c.tag, n) → Does (.selfTest c.tag (some (pass, item, inst))) s (fun t =>
        t.hq.test = none ∧ t.endsWith c 0 0 ((if pass then 0 else 1) + 256 * item.toNat + 65536 * inst.toNat) ∧
        t.hq.results.head? = some ⟨s.stamp.toNat, n, if pass then 0 else 1, item.toNat, inst.toNat⟩)) ∧
      (∀ c' n, test = 15 → s.hq.test = some (c'.tag, n) → s.cmd c'.tag = some c' → c'.tag ≠ c.tag →
        Does (.selfTestStop c.tag) s (fun t => t.hq.test = none ∧ t.endsWith c 0 0 0 ∧ t.endsWith c' 0x30 0 2))) ∧
    (s.atWork c 0x13 →
      (c.step ≠ 1 → mask = 0 → Does (.standby c.tag) s (fun t => t.endsWith c 0x02 0x10 0)) ∧
      (c.step ≠ 1 → mask % 256 ≠ 0 → int = 0 ∨ 4000 ≤ int → (∃ x ∈ s.store.vol.clips, x.state = 1) →
        Does (.standby c.tag) s (fun t => t.endsWith c 0x21 0 0)) ∧
      (c.step ≠ 1 → mask % 256 ≠ 0 → int = 0 ∨ 4000 ≤ int → (∀ x ∈ s.store.vol.clips, x.state ≠ 1) →
        s.store.vol.vstate ≠ 1 → s.store.vol.vstate ≠ 4 → (∀ x ∈ s.hq.cmds, x.tag ≠ c.tag → x.opc = 0x10) → c.tag ∉ s.hq.async →
        Does (.standby c.tag) s (fun t => t.cmd c.tag = some { c with step := 1 } ∧ t.fld PW_STBY_MASK_MASK = mask ∧
          t.fld PW_STBY_INT_INTERVAL = int ∧ ∀ n : Fin 2, s.part.hasSpin n = true → t.fld (SPn_CTL_RUN n) = 0 ∧
            t.fld (SPn_CTL_STOPMODE n) = 1)) ∧
      (c.step = 1 → s.spinsStopped = true → (∀ x ∈ s.store.chunks, x.atDram = false) → Does (.standby c.tag) s (fun t =>
        t.endsWith c 0 0 0 ∧ t.pw.sleep = true)))

/-! ### Block and clip commands, placement -/

/-- R309, R310, R337: on a plain volume a BLOCK WRITE of whole units puts each unit's bytes in DRAM, consumes one spare unit
for each unit that lies on optical, and returns the rest of its reservation; a BLOCK READ gives zero for blocks never
written, the bytes held for others, and for an unrecovered block zero with UNRECOVERED_READ and its damage list. R268:
FLUSH waits for the write-class commands fetched before it and for the durability of their data. -/
def Obligations.BlockCommands : Prop :=
  ∀ (s : State) (c : Cmd) (data : List Byte) (media : List MediaCell),
    let lo := dwOf c.dws 10
    let n := c.bits 11 15 0 + 1
    let vs := s.store.vol.vstate
    (s.atWork c 0x21 → vs ≠ 3 → vs ≠ 4 → Does (.blockWrite c.tag data media) s (fun t => t.endsWith c 0x20 0 0 ∧
      t.store.chunks = s.store.chunks ∧ t.store.vol.spareLeft = s.store.vol.spareLeft + c.spare)) ∧
    (s.atWork c 0x21 → vs = 3 ∨ vs = 4 → s.store.vol.encBlock = false → lo % 2 = 0 → n % 2 = 0 → c.mseq = 0 →
      Does (.blockWrite c.tag data media) s (fun t => t.endsWith c 0 0 0 ∧ t.regs = s.regs ∧
        (∀ u, lo / 2 ≤ u → u < (lo + n) / 2 → ∃ x, t.chunkAt 2 0 0 u = some x ∧ x.dram = true ∧ x.optical = false ∧
          x.gen = 0 ∧ x.vlen = 8192 ∧ x.seq = c.seq ∧ x.data = (data.drop ((2 * u - lo) * 4096)).take 8192) ∧
        (∀ u, u < lo / 2 ∨ (lo + n) / 2 ≤ u → t.chunkAt 2 0 0 u = s.chunkAt 2 0 0 u) ∧
        t.store.vol.spareLeft = s.store.vol.spareLeft + c.spare -
          ((List.range (n / 2)).filter fun i => (s.chunkAt 2 0 0 (lo / 2 + i)).elim false (·.optical)).length)) ∧
    (s.atWork c 0x20 → vs ≠ 3 → vs ≠ 4 → Does (.blockRead c.tag media) s (fun t => t.endsWith c 0x20 0 0 ∧
      t.out = s.out)) ∧
    (s.atWork c 0x20 → vs = 3 ∨ vs = 4 → c.dlen = n * 4096 → (∀ i, i < n → s.chunkAt 2 0 0 ((lo + i) / 2) = none) →
      Does (.blockRead c.tag media) s (fun t => t.endsWith c 0 0 0 ∧ t.regs = s.regs ∧ t.store = s.store ∧
        t.out = s.out ++ [.hostData c.tag (List.replicate (n * 4096) 0)])) ∧
    (∀ x, s.atWork c 0x20 → vs = 3 ∨ vs = 4 → n = 1 → c.dlen = 4096 → s.chunkAt 2 0 0 (lo / 2) = some x → x.gen = 0 →
      (x.dram = true ∨ x.staged = true → x.data.length = 8192 → x.vlen = 8192 → Does (.blockRead c.tag media) s (fun t =>
        t.endsWith c 0 0 0 ∧ t.out = s.out ++ [.hostData c.tag ((x.data.drop (lo % 2 * 4096)).take 4096)])) ∧
      (x.dram = false → x.staged = false → (∀ m ∈ media, m.data = none) → x.data = [] →
        x.vlen ≠ 0 → Does (.blockRead c.tag media) s (fun t =>
          t.out = s.out ++ [.hostData c.tag (List.replicate 4096 0)] ∧
          ∃ f, t.cmd c.tag = some { c with fin := some f } ∧ f.status = 0x11 ∧ f.detail = 0x37 ∧ f.res = 1 ∧
            f.damage = [(lo, 0, 1)]))) ∧
    (s.atWork c 0x22 → (∃ x ∈ s.hq.cmds, x.writeClass = true ∧ x.seq < c.seq ∧ (c.nsid = 0xFF ∨ c.nsid = x.nsid)) →
      exec (.flush c.tag) s = .next s) ∧
    (s.atWork c 0x22 → (∀ x ∈ s.hq.cmds, x.writeClass = true → x.seq < c.seq → c.nsid ≠ 0xFF ∧ c.nsid ≠ x.nsid) →
      (∀ x ∈ s.store.chunks, 0 < x.seq → x.seq < c.seq → x.optical = true) →
      Does (.flush c.tag) s (fun t => t.endsWith c 0 0 0 ∧ t.store = s.store ∧ t.regs = s.regs)) ∧
    (s.atWork c 0x22 → (∀ x ∈ s.hq.cmds, x.writeClass = false) → c.nsid = 0xFF → c.bits 10 0 0 = 1 →
      (∃ x ∈ s.store.chunks, 0 < x.seq ∧ x.seq < c.seq ∧ x.optical = false) →
      (vs = 0 → Does (.flush c.tag) s (fun t => t.endsWith c 0x20 0 0)) ∧
      (vs ≠ 0 → (∀ x ∈ s.store.chunks, x.mag = s.store.vol.magid) → s.writers = [] →
        Does (.flush c.tag) s (fun t => t.endsWith c 0x12 0x30 0)) ∧
      (vs ≠ 0 → (∀ x ∈ s.store.chunks, x.mag = s.store.vol.magid) → s.writers ≠ [] →
        exec (.flush c.tag) s = .next s))

/-- R312: CLIP OPEN refuses a used number and a 17th open clip, else opens the clip with RES its number. R313: FRAME APPEND
puts each cell of its frames in DRAM under the numbers taken at fetch; RES is the first. R314: CLIP CLOSE closes the clip
with RES its frames. R315: FRAME READ returns a frame's bytes. R316: CATALOGUE READ gives summaries, RANGE for a clip
that does not exist in MODE 1. R317: CLIP VERIFY waits for optical durability and transfers no data. -/
def Obligations.ClipCommands : Prop :=
  ∀ (s : State) (c : Cmd) (x : Clip) (data meta_ : List Byte) (media : List MediaCell) (peer : Bool),
    let v := s.store.vol
    let first := dwOf c.dws 11
    let fields (y : Clip) : Prop := y.num = c.clip ∧ y.state = 1 ∧ y.fsize = dwOf c.dws 11 ∧ y.rate = dwOf c.dws 12 ∧
      y.next = 0 ∧ y.surf = c.bits 13 7 4 ∧ y.stage = decide (c.bits 13 0 0 = 1) ∧ y.openTs = s.stamp.toNat
    (s.atWork c 0x30 → (∃ y ∈ v.clips, y.num = c.clip) → Does (.clipOpen c.tag meta_ peer) s (fun t =>
      t.endsWith c 0x02 0x08 0 ∧ t.store = s.store)) ∧
    (s.atWork c 0x30 → (∀ y ∈ v.clips, y.num ≠ c.clip) → c.clip ≠ 0 → v.clips.length < 65535 →
      16 ≤ (v.clips.filter fun y => y.state = 1).length → Does (.clipOpen c.tag meta_ peer) s (fun t =>
        t.endsWith c 0x22 0x36 0 ∧ t.store = s.store)) ∧
    (s.atWork c 0x30 → (∀ y ∈ v.clips, y.num ≠ c.clip) → c.clip ≠ 0 → v.clips.length < 65535 →
      (v.clips.filter fun y => y.state = 1).length < 16 → s.volFull = false → (s.mirroring = true → peer = true) →
      let h := (dwOf c.dws 11 + 8191) / 8192 * 8192 * dwOf c.dws 12 / 1000
      (s.admitted h (c.bits 13 7 4) (decide (c.bits 13 0 0 = 1)) = true → Does (.clipOpen c.tag meta_ peer) s (fun t =>
        t.endsWith c 0 0 c.clip ∧ ∃ y, t.clip c.clip = some y ∧ fields y)) ∧
      (s.admitted h (c.bits 13 7 4) (decide (c.bits 13 0 0 = 1)) = false → Does (.clipOpen c.tag meta_ peer) s (fun t =>
        t.endsWith c 0x23 0x3A 0 ∧ t.store = s.store))) ∧
    (s.atWork c 0x31 → s.clip c.clip = some x → v.encClip = false → c.mseq = 0 → Does (.frameAppend c.tag data) s (fun t =>
      t.endsWith c 0 0 c.frame ∧ t.regs = s.regs ∧
      ∀ i j, i < c.frames → 8192 * j < x.fsize → ∃ y, t.chunkAt 1 c.clip (c.frame + i) j = some y ∧ y.dram = true ∧
        y.optical = false ∧ y.gen = 0 ∧ y.vlen = min 8192 (x.fsize - 8192 * j) ∧ y.seq = c.seq ∧
        y.data = (data.drop (i * x.fsize + 8192 * j)).take (min 8192 (x.fsize - 8192 * j)))) ∧
    (s.atWork c 0x31 → s.clip c.clip = none → Does (.frameAppend c.tag data) s (fun t => t.endsWith c 0x20 0 0)) ∧
    (s.atWork c 0x32 → s.clip c.clip = some x →
      (x.state = 2 → Does (.clipClose c.tag meta_) s (fun t => t.endsWith c 0x02 0x07 0 ∧ t.store = s.store)) ∧
      (x.state ≠ 2 → Does (.clipClose c.tag meta_) s (fun t => t.endsWith c 0 0 x.next ∧
        ∃ y, t.clip c.clip = some y ∧ y.state = 2 ∧ y.sealed = true ∧ y.closeTs = s.stamp.toNat ∧ y.next = x.next ∧
          y.meta_ = if c.dlen = 0 then x.meta_ else meta_.take c.dlen))) ∧
    (∀ y, s.atWork c 0x33 → s.clip c.clip = some x → 1 ≤ x.fsize → x.fsize ≤ 8192 → c.bits 12 7 0 = 0 →
      c.bits 12 31 31 = 0 → c.dlen = x.fsize → s.scanWaits x = false → s.frameChunks c.clip first first = [y] →
      y.off = 0 → y.gen = 0 → y.dram = true → y.data.length = x.fsize → y.vlen = x.fsize →
      Does (.frameRead c.tag media) s (fun t => t.endsWith c 0 0 0 ∧ t.store = s.store ∧
        t.out = s.out ++ [.hostData c.tag y.data])) ∧
    (s.atWork c 0x33 → s.clip c.clip = some x → s.scanWaits x = true → exec (.frameRead c.tag media) s = .next s) ∧
    (s.atWork c 0x34 →
      (c.bits 10 1 0 = 1 → (∀ y ∈ v.clips, y.num ≠ first) → Does (.catalogueRead c.tag) s (fun t =>
        t.endsWith c 0x03 0 0)) ∧
      (c.bits 10 1 0 = 1 → (∃ y ∈ v.clips, y.num = first) → Does (.catalogueRead c.tag) s (fun t =>
        t.endsWith c 0 0 1 ∧ ∃ bytes : List Byte, t.out = s.out ++ [.hostData c.tag bytes] ∧ bytes.length = c.dlen ∧
          (2 ≤ c.dlen → first < 65536 → valAt bytes 0 2 = first))) ∧
      (c.bits 10 1 0 ≠ 1 → first = 0 → Does (.catalogueRead c.tag) s (fun t =>
        t.endsWith c 0 0 (min (c.dlen / 64) v.clips.length) ∧ t.store = s.store))) ∧
    (s.atWork c 0x35 → s.clip c.clip = some x → s.scanWaits x = false →
      let n := if dwOf c.dws 12 = 0 then x.next - first else dwOf c.dws 12
      ((∃ y ∈ s.frameChunks c.clip first (first + n - 1), y.optical = false) →
        exec (.clipVerify c.tag []) s = .next s) ∧
      ((∀ y ∈ s.frameChunks c.clip first (first + n - 1), y.optical = true) → Does (.clipVerify c.tag []) s (fun t =>
        t.endsWith c 0 0 0 ∧ t.out = s.out ∧ t.store = s.store)))

/-- R333, R332: a full or spare-exhausted band gives way to the next of the sequence that is neither. R324: a visit that is due
plans a pass of the next log swath of L0/Z0 and moves the log on. R340: staged chunks go to the surface while its planned
but unwritten stripes are below N_k. R337, R305: at the floor an event of TYPE 7 with INFO 1, at 16 GB above it INFO 3. -/
def Obligations.Placement : Prop :=
  ∀ (s : State) (u : Fin 4), s.part.hasSurf u = true →
    let w := vget s.wp u
    let log := vget s.store.vol.log u
    let key (x : Chunk) := (x.mag, x.ns, x.clip, x.frame, x.off)
    let room := bandSlots w.band * dataRoom (s.failedBeams u) - s.unwritten u
    (w.swath < endSwath w.band → w.band ∉ w.spent → exec (.bandStep u) s = .next s) ∧
    (endSwath w.band ≤ w.swath → w.band ∉ w.spent → w.band ∉ s.store.vol.fullBands → Does (.bandStep u) s (fun t =>
      w.band ∈ t.store.vol.fullBands ∧ vget t.store.lostStep u = w.lost ∧
      (vget t.store.vol.log u).steps = log.steps + 1 ∧
      (∀ k l, (s.bandsLeft u).filter (· ≠ w.band) = k :: l → (vget t.wp u).band = k ∧
        (vget t.wp u).swath = firstSwath k ∧ (vget t.wp u).stripe = 0) ∧
      ((s.bandsLeft u).filter (· ≠ w.band) = [] → (vget t.wp u).band = w.band))) ∧
    (w.planned = none → w.running = none → s.ledgerDue u = true → s.store.vol.readOnly = false →
      s.writable u = true → log.swath < 359 → s.recsPending u ≠ [] → Does (.ledgerVisit u) s (fun t =>
        (∃ p, (vget t.wp u).planned = some p ∧ p.kind = .ledger ∧ p.band = 256 * u.val ∧ p.swath = log.swath ∧
          p.first = 0 ∧ p.stripes.length = 30 ∧ ∀ l ∈ p.stripes, l.length = 16) ∧
        (vget t.store.vol.log u).swath = (if log.swath = 7 then 296 else log.swath + 1) ∧
        (vget t.store.vol.log u).steps = 0)) ∧
    (s.ledgerDue u = false → exec (.ledgerVisit u) s = .next s) ∧
    (u.val ∉ s.writers → exec (.stagedDrain u) s = .next s) ∧
    (u.val ∈ s.writers → dataRoom (s.failedBeams u) ≠ 0 → (∀ x ∈ s.drainable, x.gen = 0) →
      (s.drainable.map key).Nodup → Does (.stagedDrain u) s (fun t =>
        t.drainable.length = s.drainable.length - room ∧ t.store.chunks.length = s.store.chunks.length ∧
        (∀ x ∈ t.store.chunks, x ∈ s.store.chunks ∨ x.surf = some u.val) ∧ t.regs = s.regs)) ∧
    (s.stageFree = 0 → s.hq.belowFloor = false → s.hq.async = [] → s.hq.events = [] → s.hq.asyncMask = 0 →
      Does .stagingFloor s (fun t => t.hq.belowFloor = true ∧
        t.hq.events = [(7, 1, s.fld PT_HEALTH_HEALTH)] ∧ t.regs = s.regs)) ∧
    (16 * 10 ^ 9 ≤ s.stageFree → s.hq.belowFloor = true → s.hq.async = [] → s.hq.events = [] → s.hq.asyncMask = 0 →
      Does .stagingFloor s (fun t => t.hq.belowFloor = false ∧ t.hq.events = [(7, 3, s.fld PT_HEALTH_HEALTH)])) ∧
    (0 < s.stageFree → s.stageFree < 16 * 10 ^ 9 → exec .stagingFloor s = .next s)

/-! ### Magazines -/

/-- R295: with a volume ready nothing is done; a door that is open or an ID memory that does not answer gives NO_MAGAZINE.
R244: the lock is driven, the loader goes to SHUT_POS and CLAMP_POS, and the spindles start once the clamp is closed; a
clamp failure ends in MEDIA_ERROR, 0x23. R325, R328: a missing descriptor is MEDIA_ERROR, 0x20; no catalogue gives VSTATE 2,
a catalogue VSTATE 3. R326: a tail scan ends with no clip left open. -/
def Obligations.MagazineLoad : Prop :=
  ∀ (s : State) (c : Cmd) (found : LoadFound) (magid : List Byte) (discs : Nat) (descs : List (Nat × Option Descriptor))
    (e : List Byte) (ts : Nat), s.atWork c 0x08 → c.tag ∉ s.hq.async →
    let vs := s.store.vol.vstate
    let r : RecFound := ⟨1, 1, ts, [e], true⟩
    let steps (t : State) (n : Nat) : Prop := t.cmd c.tag = some { c with step := n }
    let fails (t : State) (st d : Nat) : Prop :=
      t.cmd c.tag = some { c with step := 20, held := some (Finish.of st d 0) } ∧ t.store.vol.vstate = 0 ∧
      ∀ n : Fin 2, s.part.hasSpin n = true → t.fld (SPn_CTL_RUN n) = 0
    (c.step = 0 →
      (vs = 3 → Does (.magazineLoad c.tag found) s (fun t => t.endsWith c 0 0 (256 * s.writersMask) ∧ t.regs = s.regs)) ∧
      (vs = 2 → Does (.magazineLoad c.tag found) s (fun t => t.endsWith c 0 0 (1 + 256 * s.writersMask))) ∧
      (vs = 1 ∨ vs = 4 → Does (.magazineLoad c.tag found) s (fun t => t.endsWith c 0x21 0 0)) ∧
      (vs = 0 → s.on MZ_SW_DOOR = false → Does (.magazineLoad c.tag found) s (fun t => t.endsWith c 0x20 0x22 0)) ∧
      (vs = 0 → s.on MZ_SW_DOOR = true → Does (.magazineLoad c.tag .noIdMem) s (fun t => t.endsWith c 0x20 0x22 0)) ∧
      (vs = 0 → s.on MZ_SW_DOOR = true → Does (.magazineLoad c.tag (.idMem magid false discs)) s (fun t =>
        t.endsWith c 0x10 0x20 0)) ∧
      (vs = 0 → s.on MZ_SW_DOOR = true → s.on (AXa_STAT_HOMED 8) = true → s.loaderAt s.parkPos = true →
        s.spinsStopped = true → Does (.magazineLoad c.tag (.idMem magid true discs)) s (fun t => steps t 1 ∧
          t.fld MZ_LOCK_LOCK = 1 ∧ t.store.vol.vstate = 1 ∧ t.store.vol.magid = magid ∧ t.store.vol.discs = discs))) ∧
    (c.step = 1 → (s.loaderAt s.shutPos = true → Does (.magazineLoad c.tag found) s (fun t => steps t 2)) ∧
      (s.loaderAt s.shutPos = false → exec (.magazineLoad c.tag found) s = .next s)) ∧
    (c.step = 2 → s.loaderAt s.clampPos = true →
      (s.on MZ_SW_CLAMP = true → Does (.magazineLoad c.tag (.clamp true)) s (fun t => steps t 3 ∧
        ∀ n : Fin 2, s.part.hasSpin n = true → t.fld (SPn_CTL_RUN n) = 1)) ∧
      Does (.magazineLoad c.tag (.clamp false)) s (fun t => fails t 0x10 0x23)) ∧
    (c.step = 3 → (∀ u : Fin 4, s.part.hasSurf u = true → s.on (SPn_STAT_LOCK (spinOf u)) = true ∧ s.psw u 0 = true) →
      Does (.magazineLoad c.tag found) s (fun t => steps t 4 ∧ t.regs = s.regs)) ∧
    (c.step = 4 →
      ((∃ u : Fin 4, s.part.hasSurf u = true ∧ ∀ d, (u.val, some d) ∉ descs) →
        Does (.magazineLoad c.tag (.ledger descs true [r] [] [])) s (fun t => fails t 0x10 0x20)) ∧
      ((∀ u : Fin 4, s.part.hasSurf u = true → ∃ d, (descs.find? fun x => x.1 = u.val) = some (u.val, some d)) →
        Does (.magazineLoad c.tag (.ledger descs false [] [] [])) s (fun t => t.store.vol.vstate = 2 ∧
          t.endsWith c 0 0 (1 + 256 * t.writersMask)) ∧
        (s.store.journal = [] → s.store.awayRecs = [] → byteAt e 0 = 0 → s.store.vol.auth = false →
          Does (.magazineLoad c.tag (.ledger descs true [r] [] [])) s (fun t => t.store.vol.vstate = 3 ∧
            t.store.vol.readOnly = false ∧ t.store.vol.scan = true ∧ t.store.vol.rseq = 1 ∧
            t.store.vol.blku = byteAt e 1 ∧ t.endsWith c 0 0 (256 * t.writersMask))))) ∧
    (c.step = 22 → s.loaderAt s.parkPos = true → Does (.magazineLoad c.tag found) s (fun t => t.fld MZ_LOCK_LOCK = 0 ∧
      t.cmd c.tag = some { c with fin := some (c.held.getD (Finish.of 0 0 0)) })) ∧
    (s.store.vol.scan = false → exec (.tailScan [] [] []) s = .next s) ∧
    (s.store.vol.scan = true → Does (.tailScan [] [] []) s (fun t => t.store.vol.scan = false ∧
      ∀ x ∈ t.store.vol.clips, x.state ≠ 1))

/-- R297, R298: an eject with no volume is NO_MAGAZINE; with CLOSE = 0 and a clip open, and during a load or an eject,
MAGAZINE_LOCKED; else VSTATE is 4 and no clip stays open. R329, R328, R245: an eject of a blank volume writes nothing; the
spindles stop, the loader goes to SHUT_POS and to park, then the lock is released and VSTATE is 0. R299, R285: FORMAT
needs its keys, then a blank volume; it ends once its records are durable in the ledger, with VSTATE 3. -/
def Obligations.EjectAndFormat : Prop :=
  ∀ (s : State) (c : Cmd) (label : List Byte), c.tag ∉ s.hq.async →
    let v := s.store.vol
    let vs := v.vstate
    let waits : Prop := s.atWork c 0x09 ∧
      s.hq.cmds.find? (fun x => x.opc = 0x09 && x.started && x.fin.isNone && x.step ≠ 0) = some c
    let steps (t : State) (n : Nat) : Prop := t.cmd c.tag = some { c with step := n }
    let flags := c.bits 10 2 0
    let keys : Prop := (flags % 4 ≠ 0 → (s.slot (c.bits 10 13 8)).kind = 1) ∧
      (4 ≤ flags → (s.slot (c.bits 10 21 16)).kind = 2)
    (s.atWork c 0x09 → c.step = 0 →
      (vs = 0 → Does (.magazineEject c.tag) s (fun t => t.endsWith c 0x20 0 0)) ∧
      (vs = 1 ∨ vs = 4 → Does (.magazineEject c.tag) s (fun t => t.endsWith c 0x21 0 0)) ∧
      (vs = 2 ∨ vs = 3 → s.isPartner = false → c.bits 10 0 0 = 0 → (∃ x ∈ v.clips, x.state = 1) →
        Does (.magazineEject c.tag) s (fun t => t.endsWith c 0x21 0 0 ∧ t.store = s.store)) ∧
      (vs = 2 ∨ vs = 3 → s.isPartner = false → (c.bits 10 0 0 = 1 ∨ ∀ x ∈ v.clips, x.state ≠ 1) →
        Does (.magazineEject c.tag) s (fun t => steps t 1 ∧ t.store.vol.vstate = 4 ∧
          ∀ x ∈ t.store.vol.clips, x.state ≠ 1))) ∧
    (waits →
      (c.step = 1 → v.rseq = 0 → v.entries = [] → Does .ejectProceed s (fun t =>
        t.cmd c.tag = some { c with step := 3, held := some (Finish.of 0 0 0) } ∧ t.store.vol.records = v.records ∧
        ∀ n : Fin 2, s.part.hasSpin n = true → t.fld (SPn_CTL_RUN n) = 0 ∧ t.fld (SPn_CTL_STOPMODE n) = 1)) ∧
      (c.step = 1 → v.rseq ≠ 0 → s.drained c = false → s.writers = [] → Does .ejectProceed s (fun t =>
        t.endsWith c 0x12 0x30 0 ∧ t.store.vol.vstate = 3)) ∧
      (c.step = 1 → v.rseq ≠ 0 → s.drained c = false → s.writers ≠ [] → exec .ejectProceed s = .next s) ∧
      (c.step = 3 → s.spinsStopped = true → Does .ejectProceed s (fun t => steps t 4)) ∧
      (c.step = 3 → s.spinsStopped = false → exec .ejectProceed s = .next s) ∧
      (c.step = 4 → s.loaderAt s.shutPos = true → Does .ejectProceed s (fun t => steps t 5)) ∧
      (c.step = 4 → s.loaderAt s.shutPos = false → s.on MZ_SW_CLAMP = true →
        (vget s.axis 8).p < (s.clampPos - 256 * (s.fld MZ_LDR_POS_CLAMP_WIN : Int)) * 65536 →
        Does .ejectProceed s (fun t => t.endsWith c 0x10 0x23 0 ∧ t.store.vol.vstate = 3 ∧
          t.fld (AXa_CTL_HALT 8) = 1)) ∧
      (c.step = 5 → s.loaderAt s.parkPos = true → Does .ejectProceed s (fun t => t.fld MZ_LOCK_LOCK = 0 ∧
        t.store.vol.vstate = 0 ∧ t.cmd c.tag = some { c with fin := some (c.held.getD (Finish.of 0 0 0)) }))) ∧
    (s.atWork c 0x0A → c.step ≠ 1 →
      (vs = 0 → Does (.format c.tag label) s (fun t => t.endsWith c 0x20 0 0)) ∧
      (vs = 2 ∨ vs = 3 → s.isPartner = false → ¬ keys → Does (.format c.tag label) s (fun t =>
        t.endsWith c 0x40 0x0B 0 ∧ t.store = s.store)) ∧
      (vs = 3 → s.isPartner = false → keys → Does (.format c.tag label) s (fun t =>
        t.endsWith c 0x13 0x0A 0 ∧ t.store = s.store)) ∧
      (vs = 2 → v.rseq = 0 → v.entries = [] → s.isPartner = false → keys → Does (.format c.tag label) s (fun t =>
        steps t 1 ∧ t.store.vol.blku = c.bits 11 7 0 ∧ t.store.vol.bspare = c.bits 11 15 8 ∧
        t.store.vol.spareLeft = c.bits 11 15 8 * c.bits 11 7 0 * 32768 / 100 ∧
        t.store.vol.encClip = decide (flags % 2 = 1) ∧ t.store.vol.encBlock = decide (flags / 2 % 2 = 1) ∧
        t.store.vol.auth = decide (4 ≤ flags) ∧ t.store.vol.rseq = (if flags % 4 = 0 then 1 else 2) ∧
        t.store.vol.entries = []))) ∧
    (s.atWork c 0x0A → c.step = 1 →
      ((∀ r ∈ v.records, s.recDurable r = true) → Does (.format c.tag label) s (fun t => t.endsWith c 0 0 0 ∧
        t.store.vol.vstate = 3)) ∧
      ((∃ r ∈ v.records, s.recDurable r = false) → exec (.format c.tag label) s = .next s))

/-! ### Peat staging -/

/-- R348: DQ_RESERVE answers and takes the next slot with its phase, or answers FULL and takes none. R349: a kick
consumes nothing at a slot of the other phase; a reserved head slot that is late is skipped with ABORTED. R350: each
descriptor is posted field by field. R351: consumed at the head with its checks met and its die idle, it begins; a
failed check posts its status and changes no block. R355: a journal record takes the next JSEQ and a second die. -/
def Obligations.PeatDescriptors : Prop :=
  ∀ (s : State) (m : Master) (f : PtFields) (slc jrnl ckpt : Bool) (pmask rrl : BitVec 4) (len : BitVec 32)
    (daddr maddr : BitVec 64),
    let n := s.fld PT_Q_SIZE_SIZE
    let slot := s.pt.rsv
    let ph := s.pt.rsvPh.toNat
    let base := s.ptBase PT_DQ_BASE_LO_BASE PT_DQ_BASE_HI_BASE
    let cq := s.ptBase PT_CQ_BASE_LO_BASE PT_CQ_BASE_HI_BASE
    let cell := cq + 16 * s.fld PT_CQ_TAIL_TAIL
    let after (k : Nat) : Nat := if n ≤ k then 0 else k + 1
    let key := f.die.val * 4096 + f.block.toNat
    let x := s.ptBlock key
    let free : Prop := s.ptInUse < n ∧ slot ≤ n
    let rings : Prop := base + 32 * (n + 1) ≤ dramSize ∧ cq + 16 * (n + 1) ≤ dramSize ∧ s.fld PT_CQ_TAIL_TAIL ≤ n ∧
      (base + 32 * (n + 1) ≤ cq ∨ cq + 16 * (n + 1) ≤ base) ∧
      ∀ l ∈ s.dram.lines ++ s.dram.victim, ∀ k, secOn l.dirty k = true → secOn l.valid k = true
    let ready : Prop := s.on PT_CTL_EN = true ∧ s.on PT_STAT_READY = true ∧ s.on PT_CTL_DYKE = false ∧
      s.fld PT_DQ_HEAD_HEAD = slot ∧ s.fld PT_DQ_HEAD_PH = ph ∧ 1 ≤ n ∧ s.pt.waiting = [] ∧
      (s.ptSlot (after slot)).bits 0 0 0 ≠ (if n ≤ slot then 1 - ph else ph)
    let takes (t : State) : Prop := t.pt.rsv = after slot ∧ t.pt.rsvPh = (if n ≤ slot then !s.pt.rsvPh else s.pt.rsvPh)
    let has (t : State) (op w0 w2 l da ma : Nat) : Prop :=
      let d := t.ptSlot slot
      d.bits 0 0 0 = ph ∧ d.bits 0 3 1 = 0 ∧ d.op = op ∧ d.bits 0 15 8 = w0 + f.irq.toNat + 8 * f.bg.toNat ∧
        d.tag = f.tag.toNat ∧ d.bits 1 31 0 = f.die.val + 256 * f.block.toNat ∧ d.bits 2 31 0 = f.page.toNat + w2 ∧
        d.len = l ∧ d.daddr = da ∧ d.maddr = ma
    let posts (i : Instr) (op w0 w2 l da ma : Nat) : Prop :=
      (n ≤ s.ptInUse → slot ≤ 4095 → exec i s = .next s) ∧
      (free → rings → s.on PT_CTL_EN = false → s.pt.waiting = [] → Does i s (fun t => has t op w0 w2 l da ma ∧ takes t ∧
        t.pt.reserved = s.pt.reserved ++ [(slot, s.now)] ∧ t.pt.ops = s.pt.ops ∧ t.pt.blocks = s.pt.blocks))
    let able : Prop := free ∧ rings ∧ ready ∧ s.onBit PT_DIE_FAIL_FAIL f.die = false ∧ s.ptOpOf f.die = none ∧
      s.on PW_STAT_RMODE = false ∧ s.dram.flaw = [] ∧ f.block.toNat ≤ 3640 ∧ f.bg = false ∧ daddr.toNat % 64 = 0 ∧
      daddr.toNat + 65536 ≤ dramSize ∧ maddr.toNat + 512 ≤ dramSize
    let begins (i : Instr) (op : Nat) (second : Option Nat) (jseq : Nat) (P : State → Prop) : Prop :=
      Does i s (fun t => (t.ptSlot slot).op = op ∧ (t.ptSlot slot).tag = f.tag.toNat ∧ takes t ∧ t.pt.waiting = [] ∧
        t.fld PT_DQ_HEAD_HEAD = after slot ∧
        t.pt.ops = s.pt.ops ++ [⟨f.die.val, second, t.ptSlot slot, jseq, s.now⟩] ∧ P t)
    let rejects (i : Instr) (status detail : Nat) : Prop := free → rings → ready → daddr.toNat % 64 = 0 → Does i s (fun t =>
      t.fld PT_STAT_QERR = 1 ∧ t.raised 1289 = true ∧ t.pt.ops = s.pt.ops ∧ t.pt.blocks = s.pt.blocks ∧
      t.pt.data = s.pt.data ∧
      t.dramVal cell 4 = s.fld PT_CQ_TAIL_PH + 2 * status + 256 * detail + 65536 * f.tag.toNat)
    (free → Does (.dqReserve m) s (fun t => (vget t.rdata m.idx).toNat = 4096 * ph + slot ∧ takes t ∧
      t.pt.reserved = s.pt.reserved ++ [(slot, s.now)] ∧ t.regs = s.regs)) ∧
    (n ≤ s.ptInUse → slot ≤ 4095 → Does (.dqReserve m) s (fun t =>
      (vget t.rdata m.idx).toNat = 2 ^ 31 + 4096 * ph + slot ∧ t.pt = s.pt ∧ t.regs = s.regs)) ∧
    (s.pt.waiting = [] → (s.ptSlot (s.fld PT_DQ_HEAD_HEAD)).bits 0 0 0 ≠ s.fld PT_DQ_HEAD_PH →
      Does .dqKick s (fun t => t.pt = s.pt ∧ Block.regsOnly [PT_DIE_BUSY] s.toBlock t.toBlock)) ∧
    (rings → s.pt.waiting = [] → s.on PT_CTL_DYKE = false → s.fld PT_DQ_HEAD_HEAD ≤ n →
      (s.ptSlot (s.fld PT_DQ_HEAD_HEAD)).bits 0 0 0 ≠ s.fld PT_DQ_HEAD_PH → s.on PT_CTL_EN = false →
      ((∃ at_, (s.fld PT_DQ_HEAD_HEAD, at_) ∈ s.pt.reserved ∧ at_ + s.fld PT_THR_RSV_TO ≤ s.now) →
        Does .reservedSlotTimeout s (fun t => t.fld PT_DQ_HEAD_HEAD = after (s.fld PT_DQ_HEAD_HEAD) ∧
          t.fld PT_STAT_QERR = 1 ∧ t.raised 1302 = true ∧ t.dramVal cell 1 = s.fld PT_CQ_TAIL_PH + 2 * 0x30)) ∧
      ((∀ r ∈ s.pt.reserved, r.1 = s.fld PT_DQ_HEAD_HEAD → s.now < r.2 + s.fld PT_THR_RSV_TO) →
        exec .reservedSlotTimeout s = .next s)) ∧
    posts (.peatRead f slc pmask rrl daddr maddr) 1 (4 * slc.toNat) (4096 * pmask.toNat + 65536 * rrl.toNat) 0
      daddr.toNat maddr.toNat ∧
    posts (.peatProgram f slc daddr maddr) 2 (4 * slc.toNat) 0xF000 0 daddr.toNat maddr.toNat ∧
    posts (.peatErase f jrnl) 3 (2 * jrnl.toNat) 0xF000 0 0 0 ∧
    posts (.peatJournal f ckpt len daddr) 4 (16 * ckpt.toNat) 0xF000 len.toNat daddr.toNat 0 ∧
    posts (.peatRebuild f daddr maddr) 5 0 0xF000 0 daddr.toNat maddr.toNat ∧
    posts (.peatPad f slc) 6 (4 * slc.toNat) 0xF000 0 0 0 ∧
    (able →
      (x.mode = some slc → f.page.toNat < x.next → f.page.toNat < ptPages slc →
        begins (.peatRead f slc pmask rrl daddr maddr) 1 none 0 (fun _ => True)) ∧
      (x.mode = none ∨ x.mode = some slc → f.page.toNat = x.next → f.page.toNat < ptPages slc → 16 ≤ f.block.toNat →
        x.retired = false → x.closed = false → s.on PT_STAT_STOP = false → s.on PT_STAT_HOT = false →
        begins (.peatProgram f slc daddr maddr) 2 none 0 (fun t => (t.ptBlock key).mode = some slc ∧
          (t.ptBlock key).next = x.next + 1 ∧ (t.ptBlock key).pages = x.pages ∧
          t.ptContent key f.page.toNat = (t.dram.bytes daddr.toNat 65536, t.dram.bytes maddr.toNat 512) ∧
          (x.mode = none → s.pt.jseq ∈ t.pt.recs.map (·.jseq) ∧ t.pt.jseq = s.pt.jseq + 1))) ∧
      (16 ≤ f.block.toNat → x.retired = false → begins (.peatErase f jrnl) 3 none 0 (fun t =>
        t.pt.jseq = s.pt.jseq + jrnl.toNat)) ∧
      (s.on PT_STAT_JFULL = false → f.page = 0 → 64 ≤ len.toNat → len.toNat ≤ 65536 → len.toNat % 64 = 0 →
        begins (.peatJournal f ckpt len daddr) 4 (some ((f.die.val + 4) % 32)) s.pt.jseq (fun t =>
          t.pt.jseq = s.pt.jseq + 1)) ∧
      (x.mode = some false → f.page.toNat < x.pages → (ptPlace f.page.toNat).2.2 ≠ 2 →
        ptCovered f.page.toNat x.pages = true → begins (.peatRebuild f daddr maddr) 5 none 0 (fun _ => True)) ∧
      (x.mode ≠ some true → begins (.peatPad f false) 6 none 0 (fun _ => True))) ∧
    (x.mode = none ∨ x.next ≤ f.page.toNat ∨ 3640 < f.block.toNat →
      rejects (.peatRead f slc pmask rrl daddr maddr) 0x03 0) ∧
    (s.on PT_STAT_STOP = true → rejects (.peatProgram f slc daddr maddr) 0x12 0x0F) ∧
    (s.on PT_STAT_STOP = false → f.page.toNat ≠ x.next ∨ x.retired = true ∨ x.mode = some (!slc) →
      rejects (.peatProgram f slc daddr maddr) 0x02 0x10) ∧
    (s.on PT_STAT_STOP = false → s.on PT_STAT_HOT = true → x.mode = none → f.page.toNat = x.next → x.retired = false →
      x.closed = false → 16 ≤ f.block.toNat → f.block.toNat ≤ 3640 → f.page.toNat < 552 →
      rejects (.peatProgram f false daddr maddr) 0x02 0x0F) ∧
    (ptJournal f.block.toNat = true ∨ x.retired = true → rejects (.peatErase f jrnl) 0x02 0x10) ∧
    (s.on PT_STAT_JFULL = true → f.page = 0 → rejects (.peatJournal f ckpt len daddr) 0x22 0) ∧
    (x.mode ≠ some false → rejects (.peatRebuild f daddr maddr) 0x03 0) ∧
    (x.mode = some true → rejects (.peatPad f slc) 0x02 0x10)

/-- R352: the completion stands at the ring's tail. R354: a READ delivers the page; one that fails ends with
UNRECOVERED_READ, 0x37; WARN at a retry. R347, R362: a fast program that succeeds counts at once; one that fails ends with
WRITE_FAULT and retires the block. R356, R361: an erase empties the block and raises its wear by 10 or 1. R355: a journal
record gives its JSEQ. R364: a die that times out is failed. R365: HOT at 85, cleared below 80, STOP at 100 and below
95 °C; HOT closes every open dense block. -/
def Obligations.PeatOperations : Prop :=
  ∀ (s : State) (die : Fin 32) (o : PtOp) (r : FlashRes) (temp : BitVec 16),
    let d := o.desc
    let x := s.ptBlock d.key
    let n := s.fld PT_Q_SIZE_SIZE
    let cq := s.ptBase PT_CQ_BASE_LO_BASE PT_CQ_BASE_HI_BASE
    let cell := cq + 16 * s.fld PT_CQ_TAIL_TAIL
    let ends (t : State) (status detail : Nat) : Prop :=
      t.dramVal cell 4 = s.fld PT_CQ_TAIL_PH + 2 * status + 256 * detail + 65536 * d.tag ∧
      t.fld PT_CQ_TAIL_TAIL = (if n ≤ s.fld PT_CQ_TAIL_TAIL then 0 else s.fld PT_CQ_TAIL_TAIL + 1) ∧
      t.pt.ops = s.pt.ops.filter (· ≠ o) ∧ (d.irq = true → t.raised 1288 = true) ∧
      (status ≠ 0 → status ≠ 0x51 → t.raised 1289 = true)
    let apart (a k b j : Nat) : Prop := a + k ≤ b ∨ b + j ≤ a
    let t10 : Int := temp.toInt
    (s.ptOpOf die = none → exec (.flashOpComplete die r) s = .next s) ∧
    (s.ptOpOf die = some o → s.pt.waiting = [] → s.pt.openPages = [] → cell + 16 ≤ dramSize →
      SMap.wf (fun _ => PtBlock.new) s.pt.blocks = true →
      (∀ l ∈ s.dram.lines ++ s.dram.victim, ∀ k, secOn l.dirty k = true → secOn l.valid k = true) →
      (d.op = 1 → d.pmask = 15 → d.daddr + 65536 ≤ dramSize → d.maddr + 512 ≤ dramSize → apart d.daddr 65536 d.maddr 512 →
        apart d.daddr 65536 cell 16 → apart d.maddr 512 cell 16 →
        let got (t : State) : Prop := ∀ k, k < 65536 → t.dram.byte (d.daddr + k) = byteAt (s.ptContent d.key d.page).1 k
        (∀ l, r.level = some l → Does (.flashOpComplete die r) s (fun t => ends t 0 0 ∧ got t ∧
          (l ≠ 0 ∨ s.fld PT_THR_WARN ≤ r.errcnt → t.raised 1290 = true ∧ d.page ∈ (t.ptBlock d.key).warned))) ∧
        (r.level = none → s.on PT_CTL_ARB = false → Does (.flashOpComplete die r) s (fun t => ends t 0x11 0x37)) ∧
        (r.level = none → s.on PT_CTL_ARB = true → x.mode = some false → (ptPlace d.page).2.2 ≠ 2 →
          ptCovered d.page x.pages = true → Does (.flashOpComplete die r) s (fun t => ends t 0 0 ∧ got t ∧
            t.raised 1290 = true ∧ t.dramVal (cell + 8) 1 = 3 + 16 * (s.fld PT_THR_RR_MAX)))) ∧
      (d.op = 2 → d.slc = true → r.ok = true → Does (.flashOpComplete die r) s (fun t => ends t 0 0 ∧
        (t.ptBlock d.key).pages = max x.pages (d.page + 1) ∧ (∀ u ∈ r.units, u ∈ t.pt.mapped))) ∧
      (d.op = 2 → d.slc = false → (ptPlace d.page).2.2 ≠ 2 → ptCovered d.page (max x.pages (d.page + 1)) = false →
        r.ok = true → Does (.flashOpComplete die r) s (fun t =>
          t.fld PT_CQ_TAIL_TAIL = s.fld PT_CQ_TAIL_TAIL ∧ t.pt.openPages = [⟨d, r.micros, r.units⟩] ∧
          t.pt.mapped = s.pt.mapped)) ∧
      (d.op = 2 → r.ok = false → x.retired = false → Does (.flashOpComplete die r) s (fun t => ends t 0x12 0 ∧
        (t.ptBlock d.key).retired = true ∧ t.raised 1292 = true)) ∧
      (d.op = 3 → r.ok = true → x.sched = false → Does (.flashOpComplete die r) s (fun t => ends t 0 0 ∧
        t.ptBlock d.key = { PtBlock.new with wear :=
          x.wear + (if x.mode = some true then 1 else if x.mode = some false then 10 else 0) } ∧
        (∀ p, p < 1024 → t.ptContent d.key p = ([], [])) ∧ t.pt.jseq = s.pt.jseq + d.jrnl.toNat)) ∧
      (d.op = 3 → r.ok = false → x.retired = false → Does (.flashOpComplete die r) s (fun t => ends t 0x10 0 ∧
        (t.ptBlock d.key).retired = true ∧ t.raised 1292 = true ∧ t.pt.jseq = s.pt.jseq + d.jrnl.toNat + 1)) ∧
      (d.op = 4 → r.ok = true → Does (.flashOpComplete die r) s (fun t => ends t 0 0 ∧
        t.dramVal (cell + 12) 4 = o.jseq % 2 ^ 32 ∧ t.pt.mapped = [] ∧
        ∀ x ∈ t.pt.recs, x.jseq = o.jseq → x.durable = true)) ∧
      (d.op = 5 → r.ok = false → d.daddr + 65536 ≤ dramSize → d.maddr + 512 ≤ dramSize → apart d.daddr 65536 cell 16 →
        apart d.maddr 512 cell 16 → Does (.flashOpComplete die r) s (fun t => ends t 0x11 0x37)) ∧
      (d.op = 6 → r.ok = true → Does (.flashOpComplete die r) s (fun t => ends t 0 0 ∧
        (t.ptBlock d.key).pages = ptPadTo x.pages))) ∧
    (s.onBit PT_DIE_FAIL_FAIL die = true → exec (.dieTimeout die) s = .next s) ∧
    (s.onBit PT_DIE_FAIL_FAIL die = false → Does (.dieTimeout die) s (fun t => t.onBit PT_DIE_FAIL_FAIL die = true ∧
      t.raised (1304 + die.val) = true ∧ (∀ o ∈ t.pt.ops, o.die ≠ die.val) ∧ (∀ d ∈ t.pt.waiting, d.die ≠ die.val) ∧
      ∀ o ∈ t.pt.openPages, o.desc.die ≠ die.val)) ∧
    (SMap.wf (fun _ => PtBlock.new) s.pt.blocks = true → Does (.peatTempSample temp) s (fun t =>
      t.fld PT_TEMP_TEMP = temp.toNat ∧
      t.on PT_STAT_HOT = (decide (850 ≤ t10) || (s.on PT_STAT_HOT && decide (800 ≤ t10))) ∧
      t.on PT_STAT_STOP = (decide (1000 ≤ t10) || (s.on PT_STAT_STOP && decide (950 ≤ t10))) ∧
      (850 ≤ t10 → s.on PT_STAT_HOT = false → t.raised 1295 = true ∧
        ∀ k, (t.ptBlock k).mode = some false → (t.ptBlock k).retired = true ∨ (t.ptBlock k).closed = true) ∧
      (t10 < 800 → s.on PT_STAT_HOT = true → t.raised 1296 = true) ∧
      (1000 ≤ t10 → s.on PT_STAT_STOP = false → t.raised 1297 = true) ∧
      (t10 < 950 → s.on PT_STAT_STOP = true → t.raised 1298 = true)))

/-! ### Buffer memory and map cache -/

/-- R368, R370, R371: a write changes exactly the bytes that it names, and a read answers every byte as last written. R369,
R374: a correctable word reads right and counts, and the full bucket raises 1352. R372: an uncorrectable word gives
poison, its record, 1353, and INTERNAL to its command. R371: a merge entry that is written leaves every byte as it read;
onto an uncorrectable word it raises 1356. R375: the aperture reads, writes and ends. Beyond 14 GiB the command faults. -/
def Obligations.DramAccess : Prop :=
  ∀ (s : State) (req : Requester) (addr len : Nat) (bytes : List Byte) (tag : Option Nat) (n : Fin 65) (c : Cmd)
    (m : Master) (off : BitVec 20) (v : Word) (e : MergeEntry),
    let w := addr / 64
    let coherent : Prop := ∀ l ∈ s.dram.lines ++ s.dram.victim, ∀ k, secOn l.dirty k = true → secOn l.valid k = true
    let stored (t : State) (a : Nat) (l : List Byte) : Prop :=
      (∀ k, k < l.length → t.dram.byte (a + k) = byteAt l k) ∧
      ∀ x, x < dramSize → x < a ∨ a + l.length ≤ x → t.dram.byte x = s.dram.byte x
    let level := s.fld DR_CE_BKT_LEVEL
    let a := (vget s.aper (Fin.ofNat 7 m.code)).toNat % 2 ^ 14 * 2 ^ 20 + off.toNat / 4 * 4
    (dramSize < addr + max len bytes.length →
      exec (.dramAccess req addr len (some bytes) none tag) s = .fault .dramOutside) ∧
    (dramSize < addr + len → exec (.dramAccess req addr len none none tag) s = .fault .dramOutside) ∧
    (coherent → addr + max len bytes.length ≤ dramSize →
      Does (.dramAccess req addr len (some bytes) none tag) s (fun t => stored t addr bytes ∧
        (addr % 64 = 0 → bytes.length = 64 → t.dram.flawOf w = 0 ∧ t.dram.entry w = none))) ∧
    (addr + len ≤ dramSize → (∀ k, addr / 64 ≤ k → k ≤ (addr + len - 1) / 64 → s.dram.flawOf k < 64) →
      Does (.dramAccess req addr len none none tag) s (fun t => t.dram = s.dram ∧
        .memData req (s.dram.bytes addr len) false ∈ t.out)) ∧
    (addr % 64 + len ≤ 64 → 0 < len → addr + len ≤ dramSize → s.dram.dirtyLine w = none →
      (s.dram.flawOf w = 0 → n.val < 36 → s.fld DR_CE_CNT_COUNT < 2 ^ 32 - 1 → s.fld DR_CE_OVF_COUNT < 2 ^ 16 - 1 →
        level + 1 < 2 ^ 16 → Does (.dramAccess req addr len none (some n) tag) s (fun t =>
          .memData req (s.dram.bytes addr len) false ∈ t.out ∧ t.dram.flawOf w = n.val + 1 ∧
          t.fld DR_CE_CNT_COUNT = s.fld DR_CE_CNT_COUNT + 1 ∧ t.fld DR_CE_ADDR_LO_SYM = n.val ∧
          t.fld DR_CE_ADDR_LO_ADDR + 2 ^ 26 * t.fld DR_CE_ADDR_HI_ADDR = w ∧
          (level + 1 < s.dram.limit → t.fld DR_CE_BKT_LEVEL = level + 1) ∧
          (s.dram.limit ≤ level + 1 → t.fld DR_CE_BKT_LEVEL = 0 ∧ t.raised 1352 = true ∧
            t.fld DR_CE_OVF_COUNT = s.fld DR_CE_OVF_COUNT + 1))) ∧
      (64 ≤ s.dram.flawOf w → Does (.dramAccess req addr len none none tag) s (fun t =>
        .memData req [] true ∈ t.out ∧ t.raised 1353 = true ∧ t.fld DR_UE_INFO_REQ = req.code ∧
        t.fld DR_UE_INFO_POISON = 0 ∧ t.fld DR_UE_INFO_SCRUB = 0 ∧
        t.fld DR_UE_ADDR_LO_ADDR + 2 ^ 26 * t.fld DR_UE_ADDR_HI_ADDR = w)) ∧
      (64 ≤ s.dram.flawOf w → s.cmd c.tag = some c → c.started = true → c.fin = none →
        Does (.dramAccess .hq addr len none none (some c.tag)) s (fun t => t.endsWith c 0x7F 0x7F 0))) ∧
    (s.dram.entry w = none → exec (.mergeFlush w) s = .next s) ∧
    (s.dram.entry w = some e → Does (.mergeFlush w) s (fun t => t.dram.entry w = none ∧
      (∀ x, x < dramSize → t.dram.byte x = s.dram.byte x) ∧
      (e.mask = BitVec.allOnes 64 → t.dram.flawOf w = 0 ∧ t.regs = s.regs) ∧
      (e.mask ≠ BitVec.allOnes 64 → 64 ≤ s.dram.flawOf w → t.dram.flawOf w = s.dram.flawOf w ∧ t.raised 1356 = true ∧
        t.fld DR_UE_INFO_POISON = 1))) ∧
    (s.now < s.dram.leakAt + s.dram.leak → exec .ceLeak s = .next s) ∧
    (s.dram.leakAt + s.dram.leak ≤ s.now → Does .ceLeak s (fun t => t.fld DR_CE_BKT_LEVEL = level - 1 ∧
      t.dram = { s.dram with leakAt := s.now } ∧ Block.regsOnly [DR_CE_BKT] s.toBlock t.toBlock)) ∧
    (dramSize ≤ a → Does (.apertureAccess m off (some v)) s (fun t => t.raised 1357 = true ∧ t.dram = s.dram) ∧
      Does (.apertureAccess m off none) s (fun t => t.raised 1357 = true ∧ vget t.rdata m.idx = 0)) ∧
    (a < dramSize → (coherent → Does (.apertureAccess m off (some v)) s (fun t => stored t a (leBytes 4 v.toNat))) ∧
      (s.dram.flawOf (a / 64) < 64 → Does (.apertureAccess m off none) s (fun t => t.dram = s.dram ∧
        (vget t.rdata m.idx).toNat = leVal (s.dram.bytes a 4))) ∧
      (64 ≤ s.dram.flawOf (a / 64) → s.dram.dirtyLine (a / 64) = none → Does (.apertureAccess m off none) s (fun t =>
        vget t.rdata m.idx = 0xFFFFFFFF#32 ∧ t.raised 1353 = true)))

/-- R376, R378: a hit is served from its line; a miss starts a fill, at whose end the requester is served. R382: accesses
wait during INIT. R383: INV and CLEAN write back what is dirty, so that every byte reads as before, and leave no line, or no
dirty sector, in the range; LOCKFILL puts its line in a locked way, or sets LFAIL; a GO while BUSY is rejected. R381: a way
restored is empty of counts. R392: a window write empties the cache first. R380: a victim write-back keeps every byte. -/
def Obligations.MapCache : Prop :=
  ∀ (s : State) (core : Fin 4) (addr len : Nat) (bytes : List Byte) (x : McLine) (ways : BitVec 16) (v : Word) (o : McOp),
    let l := addr / 256
    let k := addr / 64 % 4
    let sector : Prop := addr % 64 + len ≤ 64 ∧ bytes.length = len
    let idle : Prop := ∀ f ∈ s.dram.fills, ∀ a ∈ f.waiters, a.core ≠ core
    let inUse : Prop := s.on MC_STAT_INIT = false ∧ s.cached addr = true ∧ ∀ f ∈ s.dram.fills, f.line ≠ l
    let read : Instr := .mcAccess core addr len none .clean
    let one : Prop := ((s.dram.lines ++ s.dram.victim).map (·.line)).Nodup
    let same (t : State) : Prop := ∀ a, a < dramSize → t.dram.byte a = s.dram.byte a
    let quiet : Prop := s.on MC_OP_STAT_BUSY = false ∧ s.dram.fills = [] ∧ one
    let ranged : Prop := addr + len ≤ dramSize ∧ len < 2 ^ 32
    let inRange (j : Nat) : Prop := 0 < len ∧ l ≤ j ∧ j ≤ (addr + len - 1) / 256
    let started (t : State) : Prop := t.fld MC_OP_STAT_BUSY = 1 ∧ t.fld MC_STAT_OPBUSY = 1
    let rejected (i : Instr) : Prop := s.on MC_OP_STAT_BUSY = true →
      Does i s (fun t => t.fld MC_OP_STAT_REJ = 1 ∧ t.raised 1366 = true ∧ t.dram = s.dram)
    (¬ idle → exec read s = .next s) ∧
    (idle → s.on MC_STAT_INIT = true → Does read s (fun t =>
      t.dram = { s.dram with wait := s.dram.wait ++ [⟨core, addr, len, none⟩] } ∧ t.regs = s.regs ∧ t.out = s.out)) ∧
    (idle → s.on MC_STAT_INIT = false → s.cached addr = false →
      (∀ w, w = addr / 64 ∨ w = (addr + len - 1) / 64 → s.dram.flawOf w = 0) → sector → Does read s (fun t =>
        t.dram = s.dram ∧ t.out = s.out ++ [.memData (.cc core) (s.dram.bytes addr len) false])) ∧
    (idle → inUse → s.dram.lineOf l = some x → secOn x.valid k = true → sector →
      s.fld MC_CNT_HIT_COUNT < 2 ^ 32 - 1 →
      Does read s (fun t => t.fld MC_CNT_HIT_COUNT = s.fld MC_CNT_HIT_COUNT + 1 ∧ t.dram.mem = s.dram.mem ∧
        t.out = s.out ++ [.memData (.cc core)
          ((List.range len).map fun i => vget x.data (Fin.ofNat 256 (addr % 256 + i))) false]) ∧
      Does (.mcAccess core addr len (some bytes) .clean) s (fun t => t.dram.mem = s.dram.mem ∧
        (∀ i, i < len → t.dram.byte (addr + i) = byteAt bytes i) ∧
        ∃ y, t.dram.lines.head? = some y ∧ y.line = l ∧ secOn y.dirty k = true)) ∧
    (idle → inUse → s.dram.lineOf l = some x → secOn x.valid k = false → Does read s (fun t =>
      t.dram = { s.dram with fills := s.dram.fills ++ [⟨l, [⟨core, addr, len, none⟩]⟩] } ∧ t.out = s.out)) ∧
    (idle → inUse → s.dram.lines = [] → s.dram.victim = [] → (∃ w, w < 16 ∧ s.wayOpen w = true) → Does read s (fun t =>
      t.dram.fills = s.dram.fills ++ [⟨l, [⟨core, addr, len, none⟩]⟩] ∧
      ∃ y, t.dram.lines = [y] ∧ y.line = l ∧ y.valid = 0 ∧ s.wayOpen y.way = true)) ∧
    (s.dram.fills = [⟨l, [⟨core, addr, len, none⟩]⟩] → s.dram.lines = [⟨l, x.way, 0, 0, x.data⟩] → s.dram.victim = [] →
      s.dram.flaw = [] → s.dram.op = none → s.dram.winPend = none → sector → Does (.mcFillDone core) s (fun t =>
        t.out = s.out ++ [.memData (.cc core) (s.dram.bytes addr len) false] ∧ t.dram.fills = [] ∧ same t ∧
        ∃ y, t.dram.lines = [y] ∧ y.line = l ∧ y.valid = 15 ∧ y.dirty = 0)) ∧
    (idle → exec (.mcFillDone core) s = .next s) ∧
    rejected (.inv addr len) ∧ rejected (.clean addr len) ∧ rejected (.lockfill addr len) ∧ rejected .invAll ∧
    rejected .cleanAll ∧
    (quiet → ranged → Does (.inv addr len) s (fun t => started t ∧ same t ∧
        (∀ j, inRange j → t.dram.lineOf j = none ∧ t.dram.victimOf j = none) ∧
        ∀ j, ¬ inRange j → t.dram.lineOf j = s.dram.lineOf j ∧ t.dram.victimOf j = s.dram.victimOf j) ∧
      Does (.clean addr len) s (fun t => started t ∧ same t ∧
        (∀ y ∈ t.dram.lines ++ t.dram.victim, inRange y.line → y.dirty = 0) ∧
        t.dram.lines.map (·.line) = s.dram.lines.map (·.line) ∧
        t.dram.victim.map (·.line) = s.dram.victim.map (·.line)) ∧
      (0 < len → (addr + len - 1) / 256 = l →
        ((∃ w, w < 16 ∧ s.onBit MC_LOCK_LOCK w = true ∧ s.onBit MC_WAY_DIS_DIS w = false ∧
            ∀ y ∈ s.dram.lines, lineSet y.line = lineSet l → y.valid ≠ 0 → y.way ≠ w) →
          Does (.lockfill addr len) s (fun t => started t ∧
            ∃ y, t.dram.lineOf l = some y ∧ s.onBit MC_LOCK_LOCK y.way = true)) ∧
        (s.fld MC_LOCK_LOCK = 0 → Does (.lockfill addr len) s (fun t => started t ∧ t.fld MC_OP_STAT_LFAIL = 1 ∧
          t.raised 1364 = true ∧ t.dram.lines = s.dram.lines ∧ t.dram.victim = s.dram.victim)))) ∧
    (quiet → Does .invAll s (fun t => started t ∧ same t ∧ t.dram.lines = [] ∧ t.dram.victim = []) ∧
      Does .cleanAll s (fun t => started t ∧ same t ∧ ∀ y ∈ t.dram.lines ++ t.dram.victim, y.dirty = 0)) ∧
    (s.dram.op = none → exec .mcOpDone s = .next s) ∧
    (s.dram.op = some o → o.ended = false → exec .mcOpDone s = .next s) ∧
    (s.dram.op = some o → o.ended = true → Does .mcOpDone s (fun t => t.dram = { s.dram with op := none } ∧
      t.fld MC_OP_STAT_BUSY = 0 ∧ t.fld MC_STAT_OPBUSY = 0 ∧ t.fld MC_OP_STAT_LINES = min o.done 32767 ∧
      t.raised 1365 = true ∧ (o.locked ≠ 0 → t.raised 1363 = true))) ∧
    Does (.wayRestore ways) s (fun t => t.dram = s.dram ∧ ∀ w : Fin 16,
      t.onBit MC_WAY_DIS_DIS w = (s.onBit MC_WAY_DIS_DIS w && !ways.getLsbD w) ∧
      (s.onBit MC_WAY_DIS_DIS w = true → ways.getLsbD w = true → t.fld (MC_PAR_CNT_k_CNT (w.val / 4) (w.val % 4)) = 0)) ∧
    (one → s.dram.fills = [] → Does (.mcWinWrite v) s (fun t => same t ∧ t.dram.lines = [] ∧ t.dram.victim = [] ∧
      t.dram.win = v ∧ t.fld MC_WIN_BASE = MC_WIN_BASE.get v ∧ t.fld MC_WIN_SIZE = MC_WIN_SIZE.get v)) ∧
    (s.dram.fills ≠ [] → Does (.mcWinWrite v) s (fun t => t.dram = { s.dram with winPend := some v })) ∧
    ((∀ y ∈ s.dram.victim, y.dirty = 0) → exec .victimWriteback s = .next s) ∧
    (one → s.dram.victim.find? (fun y => y.dirty ≠ 0) = some x → Does .victimWriteback s (fun t => same t ∧
      t.dram.victim = s.dram.victim.filter (fun y => y.line ≠ x.line) ∧ t.dram.lines = s.dram.lines ∧
      t.regs = s.regs))

/-! ### Sluice -/

/-- R386: a START of an active channel is ignored, one with bad values sets CFGERR, both with 1371; else the channel is
active and takes a free mover. R390: STOP writes what is buffered and ends the channel; with the last byte written it is
done. R387: a read beat moves up to 64 bytes into the buffer, a write beat out of it, and COUNT gives the bytes left; at 0
DONE is set and ACTIVE cleared. R388: a waiting high-priority channel pre-empts. R389: a bus error halts the channel. -/
def Obligations.SluiceChannels : Prop :=
  ∀ (s : State) (c : Fin 32) (ssp dsp pri irq : Bool) (data : List Byte),
    let x := s.chanOf c
    let act := s.on (SLc_STAT_ACTIVE c)
    let count := s.fld (SLc_COUNT_COUNT c)
    let src := s.slSrc c
    let dst := s.slDst c
    let fits (host : Bool) (a : Nat) : Prop := host = true ∨ a + count ≤ dramSize
    let good : Prop := count ≠ 0 ∧ count % 4 = 0 ∧ fits ssp src ∧ fits dsp dst
    let start : Instr := .slStart c ssp dsp pri irq
    let coherent : Prop := ∀ l ∈ s.dram.lines ++ s.dram.victim, ∀ k, secOn l.dirty k = true → secOn l.valid k = true
    let held : Prop := c.val ∈ s.dram.movers ∧ s.on SL_CTL_EN = true
    let calm : Prop := held ∧ s.slWaiting = []
    let n := min 64 (x.total - x.rd)
    let k := min 64 x.buf.length
    let takes (t : State) (l : List Byte) : Prop := t.chanOf c = { x with rd := x.rd + n, buf := x.buf ++ l }
    let halted (t : State) (dir off : Nat) : Prop := t.fld (SLc_STAT_HALTED c) = 1 ∧ t.onBit SL_ERR_ERR c = true ∧
      t.fld (SLc_ERR_DIR c) = dir ∧ t.fld (SLc_ERR_OFFSET c) = off ∧ t.fld (SLc_STAT_ACTIVE c) = 0 ∧
      (t.chanOf c).buf = [] ∧ t.raised 1369 = true ∧ c.val ∉ t.dram.movers
    let ctl (t : State) : Prop := t.on (SLc_CTL_SSP c) = ssp ∧ t.on (SLc_CTL_DSP c) = dsp ∧ t.on (SLc_CTL_PRI c) = pri ∧
      t.onBit SL_IRQ_EN_EN c = irq
    (act = true → Does start s (fun t => ctl t ∧ t.raised 1371 = true ∧ t.dram = s.dram ∧
      t.fld (SLc_STAT_ACTIVE c) = 1)) ∧
    (act = false → ¬ good → Does start s (fun t => ctl t ∧ t.raised 1371 = true ∧ t.fld (SLc_STAT_CFGERR c) = 1 ∧
      t.fld (SLc_STAT_ACTIVE c) = 0 ∧ t.dram = s.dram)) ∧
    (act = false → good → s.on (SLc_STAT_PREEMPTED c) = false → c.val ∉ s.dram.movers → Does start s (fun t => ctl t ∧
      t.fld (SLc_STAT_CFGERR c) = 0 ∧ t.fld (SLc_STAT_ACTIVE c) = 1 ∧ t.chanOf c = ⟨count, 0, 0, [], false, false⟩ ∧
      (s.dram.movers.length < 4 → s.slWaiting = [] → t.dram.movers = s.dram.movers ++ [c.val]) ∧
      (4 ≤ s.dram.movers.length → t.dram.movers = s.dram.movers))) ∧
    (act = false → exec (.slStop c) s = .next s) ∧
    (act = true → x.buf = [] → count ≠ 0 → Does (.slStop c) s (fun t => t.fld (SLc_STAT_ACTIVE c) = 0 ∧
      t.fld (SLc_COUNT_COUNT c) = count ∧ t.onBit SL_DONE_DONE c = s.onBit SL_DONE_DONE c ∧ c.val ∉ t.dram.movers ∧
      t.dram.mem = s.dram.mem)) ∧
    (act = true → coherent → s.on (SLc_CTL_DSP c) = false → x.failed = false → x.buf ≠ [] → x.buf.length ≤ 4096 →
      dst + x.wr + x.buf.length ≤ dramSize → x.total < 2 ^ 30 → Does (.slStop c) s (fun t =>
        t.fld (SLc_STAT_ACTIVE c) = 0 ∧ t.fld (SLc_COUNT_COUNT c) = x.total - (x.wr + x.buf.length) ∧
        (∀ i, i < x.buf.length → t.dram.byte (dst + x.wr + i) = byteAt x.buf i) ∧
        (x.total ≤ x.wr + x.buf.length → t.onBit SL_DONE_DONE c = true) ∧
        (x.wr + x.buf.length < x.total → t.onBit SL_DONE_DONE c = s.onBit SL_DONE_DONE c))) ∧
    (¬ held → ∀ w, exec (.slBeat c w data) s = .next s) ∧
    (calm → 0 < n → x.drain = false → x.failed = false → x.buf.length + n ≤ 4096 →
      (s.on (SLc_CTL_SSP c) = false → s.dram.flaw = [] → Does (.slBeat c false data) s (fun t =>
        takes t (s.dram.bytes (src + x.rd) n) ∧ t.regs = s.regs)) ∧
      (s.on (SLc_CTL_SSP c) = true → s.hostUp = true → data.length = n → Does (.slBeat c false data) s (fun t =>
        takes t data ∧ t.regs = s.regs)) ∧
      (s.on (SLc_CTL_SSP c) = true → s.hostUp = false → x.buf = [] → x.rd < 2 ^ 30 → Does (.slBeat c false data) s (fun t =>
        halted t 0 x.rd))) ∧
    (calm → x.buf ≠ [] → x.failed = false → x.total < 2 ^ 30 →
      (s.on (SLc_CTL_DSP c) = false → coherent → dst + x.wr + k ≤ dramSize → Does (.slBeat c true data) s (fun t =>
        (∀ i, i < k → t.dram.byte (dst + x.wr + i) = byteAt x.buf i) ∧ (t.chanOf c).buf = x.buf.drop k ∧
        (t.chanOf c).wr = x.wr + k ∧ t.fld (SLc_COUNT_COUNT c) = x.total - (x.wr + k))) ∧
      (s.on (SLc_CTL_DSP c) = true → s.hostUp = true → Does (.slBeat c true data) s (fun t =>
        t.out = s.out ++ [.hostWrite (dst + x.wr) (x.buf.take k)] ∧ (t.chanOf c).buf = x.buf.drop k ∧
        t.fld (SLc_COUNT_COUNT c) = x.total - (x.wr + k))) ∧
      (s.on (SLc_CTL_DSP c) = true → s.hostUp = false → x.wr < 2 ^ 30 → Does (.slBeat c true data) s (fun t =>
        halted t 1 x.wr))) ∧
    (held → s.dram.movers.length = 4 → s.dram.movers.Nodup → s.slWaiting.any s.slHigh = true →
      s.dram.movers.find? (fun j => !s.slHigh j) = some c.val → s.on (SLc_CTL_SSP c) = false → s.dram.flaw = [] →
      s.fld SL_CNT_PREEMPT_COUNT < 2 ^ 32 - 1 → Does (.slBeat c false data) s (fun t =>
        t.fld (SLc_STAT_PREEMPTED c) = 1 ∧ t.fld SL_CNT_PREEMPT_COUNT = s.fld SL_CNT_PREEMPT_COUNT + 1 ∧
        t.raised 1370 = true ∧ c.val ∉ t.dram.movers ∧ t.dram.movers.length = 4 ∧
        ∃ h ∈ t.dram.movers, h ∉ s.dram.movers ∧ s.slHigh h = true)) ∧
    (act = true → count = 0 → Does (.slDone c) s (fun t => t.onBit SL_DONE_DONE c = true ∧ t.fld (SLc_STAT_ACTIVE c) = 0 ∧
      c.val ∉ t.dram.movers ∧ (s.onBit SL_IRQ_EN_EN c = true → t.raised 1368 = true))) ∧
    (act = false ∨ count ≠ 0 → exec (.slDone c) s = .next s) ∧
    (c.val ∉ s.dram.movers → ∀ w, exec (.slBusError c w) s = .next s) ∧
    (c.val ∈ s.dram.movers →
      (x.wr < 2 ^ 30 → Does (.slBusError c true) s (fun t => halted t 1 x.wr)) ∧
      (x.buf = [] → x.rd < 2 ^ 30 → Does (.slBusError c false) s (fun t => halted t 0 x.rd)) ∧
      (x.buf ≠ [] → Does (.slBusError c false) s (fun t => t.chanOf c = { x with failed := true } ∧ t.regs = s.regs)))

/-! ### Cipher -/

/-- R393, R395, R396, R397: a unit of the page's mode passes an in-service pair, is counted and released. R398: when the
pair's outputs differ nothing is released, the mismatch is counted, 1400 is raised, the pair leaves service, and an ingest or
read-back ends with CIPHER_FAULT, 0x31; a record is retried twice. R396: a record whose tag fails releases nothing. R399: a
tested pair returns or stays out with 1401; no pair at all gives CIPHER_FAULT. R407: no key gives KEY_ABSENT. -/
def Obligations.CipherUnits : Prop :=
  ∀ (s : State) (p : Fin 16) (n : Fin 4) (c : Cmd) (back : Bool) (tw old data iv header body tag : List Byte) (encb : Bool),
    let use : CxUse := if back then .readBack c.tag else .ingest c.tag
    let ok : Prop := s.on (CXp_STAT_NOKEY p) = false ∧ s.on (CXp_CTL_EN p) = true ∧ s.on (CXp_STAT_KEYOK p) = true ∧
      s.on CX_CTL_EN = true ∧ s.onBit CX_STAT_PAIRS n = true ∧ s.fld (CXp_CNT_UNITS p) < 2 ^ 32 - 1
    let mode := s.fld (CXp_CTL_MODE p)
    let key := (vget s.cx.pages p).key
    let mine : Prop := s.cmd c.tag = some c ∧ c.started = true ∧ c.fin = none
    let passes (t : State) (out tg : List Byte) : Prop := t.out = s.out ++ [.cipher p out tg] ∧
      t.fld (CXp_CNT_UNITS p) = s.fld (CXp_CNT_UNITS p) + 1 ∧ Block.regsOnly [CXp_CNT p] s.toBlock t.toBlock
    let nothing (t : State) : Prop := ∀ q d g, OutMsg.cipher q d g ∈ t.out → OutMsg.cipher q d g ∈ s.out
    let differs (t : State) : Prop := nothing t ∧ t.onBit CX_STAT_PAIRS n = false ∧ t.raised 1400 = true ∧
      n.val ∈ t.cx.testing ∧
      (s.fld CX_CNT_MISMATCH < 2 ^ 16 - 1 → t.fld CX_CNT_MISMATCH = s.fld CX_CNT_MISMATCH + 1) ∧ t.cx.pages = s.cx.pages
    let aad := if encb then header else header ++ body
    let text := if encb then body else []
    let closed := gcm key iv aad text false
    let open_ := gcm key iv aad text true
    let others (t : State) : Prop := ∀ q : Fin 4, q ≠ n → t.onBit CX_STAT_PAIRS q = s.onBit CX_STAT_PAIRS q ∧
      t.onBit CX_PAIR_DIS q = s.onBit CX_PAIR_DIS q
    (ok → mode = 0 ∨ mode = 1 → Does (.cipherUnit p n use tw data false) s (fun t =>
      passes t (xts (decide (mode = 1)) key tw data) []) ∧
      Does (.cipherUnit p n use tw data true) s (fun t => differs t ∧ (mine → t.endsWith c 0x41 0x31 0))) ∧
    (ok → mode = 3 → Does (.reTweak p n old tw data false) s (fun t => passes t (xts false key tw (xts true key old data)) []) ∧
      Does (.reTweak p n old tw data true) s (fun t => differs t ∧ t.hq = s.hq)) ∧
    (ok → mode = 4 →
      Does (.gcmSeal p n iv header body encb false) s (fun t =>
        passes t (if encb then closed.1 else body) closed.2 ∧ t.cx.retries = 0) ∧
      Does (.gcmSeal p n iv header body encb true) s (fun t => differs t ∧
        (s.cx.retries < 2 → t.cx.retries = s.cx.retries + 1 ∧ t.hq = s.hq) ∧
        (2 ≤ s.cx.retries → t.cx.retries = 0 ∧ t.raised 195 = true))) ∧
    (ok → mode = 5 →
      (open_.2 = tag → Does (.gcmOpen p n iv header body tag encb false) s (fun t =>
        passes t (if encb then open_.1 else body) [])) ∧
      (open_.2 ≠ tag → Does (.gcmOpen p n iv header body tag encb false) s (fun t => nothing t ∧
        t.fld (CXp_STAT_TAGFAIL p) = 1 ∧ t.raised 1405 = true ∧
        t.fld (CXp_CNT_UNITS p) = s.fld (CXp_CNT_UNITS p) + 1)) ∧
      Does (.gcmOpen p n iv header body tag encb true) s differs) ∧
    (s.on (CXp_STAT_NOKEY p) = true →
      (mine → Does (.cipherUnit p n use tw data false) s (fun t => t.endsWith c 0x40 0 0 ∧ t.regs = s.regs ∧ t.out = s.out)) ∧
      exec (.reTweak p n old tw data false) s = .next s ∧ exec (.gcmSeal p n iv header body encb false) s = .next s ∧
      exec (.gcmOpen p n iv header body tag encb false) s = .next s) ∧
    (s.on (CXp_STAT_NOKEY p) = false → s.fld CX_STAT_PAIRS = 0 → mine → Does (.cipherUnit p n use tw data false) s (fun t =>
      t.endsWith c 0x41 0x31 0 ∧ t.regs = s.regs ∧ t.out = s.out)) ∧
    (s.on (CXp_STAT_NOKEY p) = false → s.fld CX_STAT_PAIRS ≠ 0 → s.onBit CX_STAT_PAIRS n = false →
      exec (.cipherUnit p n use tw data false) s = .next s) ∧
    (n.val ∉ s.cx.testing → ∀ pass, exec (.pairKat n pass) s = .next s) ∧
    (n.val ∈ s.cx.testing →
      Does (.pairKat n true) s (fun t => t.onBit CX_STAT_PAIRS n = true ∧ t.onBit CX_PAIR_DIS n = false ∧ others t ∧
        n.val ∉ t.cx.testing) ∧
      Does (.pairKat n false) s (fun t => t.onBit CX_STAT_PAIRS n = false ∧ t.onBit CX_PAIR_DIS n = true ∧ others t ∧
        t.raised 1401 = true ∧ t.raised 1406 = true ∧ n.val ∉ t.cx.testing)) ∧
    (s.onBit CX_PAIR_DIS n = false → ∀ pass, exec (.pairRestore n pass) s = .next s) ∧
    (s.onBit CX_PAIR_DIS n = true →
      Does (.pairRestore n true) s (fun t => t.onBit CX_STAT_PAIRS n = true ∧ t.onBit CX_PAIR_DIS n = false ∧ others t) ∧
      Does (.pairRestore n false) s (fun t => t.onBit CX_STAT_PAIRS n = s.onBit CX_STAT_PAIRS n ∧
        t.onBit CX_PAIR_DIS n = true ∧ others t ∧ t.raised 1406 = true))

/-- R400: a load takes the slot's key where its type fits the mode, with its check value; else the page has NOKEY and raises
1384 + p. R401: EN = 0 clears the page's key. R404: INSTALL fills an empty slot with the unwrapped key, or gives OCCUPIED or
UNWRAP; ERASE and ERASE_ALL empty slots and leave the pages; a latched alarm refuses all three; the blob registers end
cleared. R405, R406: an alarm is latched, erases every slot and page, clears the bindings and raises 1402. -/
def Obligations.KeyStore : Prop :=
  ∀ (s : State) (p : Fin 16) (slot : Fin 64) (v : Word) (g : Bool) (blob : List Byte) (a : KeyAlarm) (c : Cmd),
    let k := vget s.cx.slots slot
    let m := s.fld (CXp_CTL_MODE p)
    let kind := if m = 4 ∨ m = 5 then 2 else 1
    let cleared (t : State) (q : Fin 16) : Prop := vget t.cx.pages q = CxKey.none ∧ t.fld (CXp_STAT_KEYOK q) = 0 ∧
      t.fld (CXp_KCV_LO_KCV q) = 0 ∧ t.fld (CXp_KCV_HI_KCV q) = 0
    let alarm : Prop := s.on CX_ALARM_TEMP = true ∨ s.on CX_ALARM_CLK = true ∨ s.on CX_ALARM_VOLT = true ∨
      s.on CX_ALARM_TAMPER = true
    let result (t : State) (r : Nat) : Prop := t.fld CX_KS_STAT_RESULT = r ∧ ∀ j, j < 18 → t.rd (CX_KS_BLOB_k j) = 0
    let same (t : State) : Prop := t.cx = s.cx
    let unwrapped : Option (List Byte) :=
      if blob.length = (if g then 40 else 72) then unwrapKey Config.deviceKey.toList blob else none
    (s.on (CXp_CTL_EN p) = true →
      (k.kind = kind → Does (.pageKeyLoad p slot) s (fun t => vget t.cx.pages p = k ∧ t.fld (CXp_CTL_SLOT p) = slot.val ∧
        t.fld (CXp_CTL_MODE p) = m ∧ t.fld (CXp_STAT_KEYOK p) = 1 ∧ t.fld (CXp_STAT_NOKEY p) = 0 ∧
        t.fld (CXp_KCV_LO_KCV p) = leVal ((keyCheck k.key).take 4) % 2 ^ 32 ∧
        t.fld (CXp_KCV_HI_KCV p) = leVal ((keyCheck k.key).drop 4) % 2 ^ 32 ∧ t.cx.slots = s.cx.slots)) ∧
      (k.kind ≠ kind → Does (.pageKeyLoad p slot) s (fun t => cleared t p ∧ t.fld (CXp_STAT_NOKEY p) = 1 ∧
        t.raised (1384 + p.val) = true ∧ t.cx.slots = s.cx.slots))) ∧
    (s.on (CXp_CTL_EN p) = false → Does (.pageKeyLoad p slot) s (fun t => cleared t p ∧
      t.fld (CXp_CTL_SLOT p) = slot.val ∧ t.fld (CXp_STAT_NOKEY p) = s.fld (CXp_STAT_NOKEY p))) ∧
    Does (.pageCtlWrite p v) s (fun t => t.fld (CXp_CTL_SLOT p) = (CXp_CTL_SLOT p).get v ∧
      t.fld (CXp_CTL_MODE p) = (CXp_CTL_MODE p).get v ∧ t.fld (CXp_CTL_EN p) = (CXp_CTL_EN p).get v ∧
      ((CXp_CTL_EN p).get v = 0 → cleared t p) ∧
      ((CXp_CTL_EN p).get v = 1 → (CXp_CTL_LOAD p).get v = 0 → same t ∧
        Block.regsOnly [CXp_CTL p] s.toBlock t.toBlock) ∧
      t.cx.slots = s.cx.slots ∧ ∀ q, q ≠ p → vget t.cx.pages q = vget s.cx.pages q) ∧
    (alarm → Does (.install slot g blob) s (fun t => result t 4 ∧ same t) ∧
      Does (.erase slot) s (fun t => result t 4 ∧ same t) ∧ Does .eraseAll s (fun t => result t 4 ∧ same t)) ∧
    (¬ alarm →
      (k.kind ≠ 0 → Does (.install slot g blob) s (fun t => result t 1 ∧ same t)) ∧
      (k.kind = 0 → unwrapped = none → Does (.install slot g blob) s (fun t => result t 2 ∧ same t ∧
        t.raised 1404 = true)) ∧
      (∀ key, k.kind = 0 → unwrapped = some key → Does (.install slot g blob) s (fun t => result t 0 ∧
        vget t.cx.slots slot = ⟨if g then 2 else 1, key⟩ ∧ t.cx.pages = s.cx.pages ∧
        t.fld CX_KS_KCV_LO_KCV = leVal ((keyCheck key).take 4) % 2 ^ 32 ∧
        t.fld CX_KS_KCV_HI_KCV = leVal ((keyCheck key).drop 4) % 2 ^ 32 ∧ t.raised 1403 = true ∧
        ∀ j, j ≠ slot → vget t.cx.slots j = vget s.cx.slots j)) ∧
      Does (.erase slot) s (fun t => result t 0 ∧ vget t.cx.slots slot = CxKey.none ∧ t.cx.pages = s.cx.pages ∧
        ∀ j, j ≠ slot → vget t.cx.slots j = vget s.cx.slots j) ∧
      Does .eraseAll s (fun t => result t 0 ∧ (∀ j, vget t.cx.slots j = CxKey.none) ∧ t.cx.pages = s.cx.pages)) ∧
    Does (.keyAlarm a true) s (fun t =>
      t.fld (match a with
        | .tamper => CX_ALARM_TAMPER | .voltage => CX_ALARM_VOLT | .clock => CX_ALARM_CLK
        | .temperature => CX_ALARM_TEMP) = 1 ∧
      (∀ j, vget t.cx.slots j = CxKey.none) ∧ (∀ q, cleared t q ∧ t.fld (CXp_STAT_NOKEY q) = 1) ∧
      t.fld CX_STAT_ERASED = 1 ∧ t.raised 1402 = true ∧ t.store.vol.binds = [] ∧ a.code ∈ t.cx.conds ∧
      (s.fld CX_CNT_ERASE < 2 ^ 16 - 1 → t.fld CX_CNT_ERASE = s.fld CX_CNT_ERASE + 1) ∧
      (s.atWork c 0x20 → c.nsid = 1 → s.store.vol.encClip = true → c.tag ∉ s.hq.async → t.endsWith c 0x40 0 0)) ∧
    Does (.keyAlarm a false) s (fun t => t.cx = { s.cx with conds := s.cx.conds.filter (· ≠ a.code) } ∧
      t.regs = s.regs ∧ t.hq = s.hq)

/-! ### Mirror -/

/-- R409, R410: bring-up sends HELLO, and the peer's HELLO brings the link up with 224; a frame whose CRC fails is counted and
replay asked for; a LACK that asks for it gets the kept frames. R421: link down makes a primary DEGRADED and a partner
ISOLATED, heartbeat losses and returns raise 226 and 227, LEAVE counts as both. R424: two primaries are a conflict, and the
lower EPOCH becomes an ISOLATED partner. R413: an accepting blank module joins. R441: a forwarded number enters the FIFO. -/
def Obligations.MirrorLink : Prop :=
  ∀ (s : State) (retrain level : Bool) (lseq : BitVec 32) (h : PeerHello) (earlier : Bool) (cause : Fin 3) (n : BitVec 11),
    let up := s.on ML_STAT_LINK_UP
    let st := s.pstate
    let partner := s.on ML_STAT_ROLE
    let cut : Prop := st ≠ 0 ∧ st ≠ 4 ∧ st ≠ 5
    let down (t : State) : Prop := t.fld ML_STAT_LINK_UP = 0 ∧
      (up = true → t.fld ML_STAT_LANE_LOCK = 0 ∧ t.raised 225 = true ∧
        (cut → partner = true → t.pstate = 5 ∧ t.fld ML_STAT_ROLE = 1 ∧ t.raised 228 = true) ∧
        (cut → partner = false → t.pstate = 4 ∧ t.fld ML_STAT_ROLE = 0 ∧ t.raised 228 = true ∧ t.ml.sent = [] ∧
          t.fld ML_LAG_LAG = 0) ∧
        (¬ cut → t.pstate = st ∧ t.on ML_STAT_ROLE = partner))
    let brings (t : State) : Prop := down t ∧ t.ml.bring = some s.now ∧ t.ml.rxSeq = 0 ∧
      ∃ p, OutMsg.melar ⟨1, 0, 0, 0, p⟩ ∈ t.out
    let rules : Prop := partner = false ∧ st ≠ 0 ∧ h.partner = false ∧ h.pstate ≠ 0 ∧ h.mirror ≠ s.store.vol.magid
    (retrain = false ∨ s.on ML_CTL_EN = true → Does (.mlLinkEnable retrain) s (fun t => brings t ∧ t.fld ML_CTL_EN = 1)) ∧
    (s.on ML_CTL_EN = false → exec (.mlLinkEnable true) s = .next s) ∧
    (up = false → exec .mlLinkDown s = .next s ∧ exec .mlFrameDiscard s = .next s ∧
      exec (.mlLack lseq level) s = .next s ∧ exec (.mlLeave cause) s = .next s ∧ exec (.mlIrq n) s = .next s) ∧
    (up = true → Does .mlLinkDown s down) ∧
    (up = true → s.fld ML_CNT_CRCERR < 2 ^ 16 - 1 → s.fld ML_CNT_REPLAY < 2 ^ 16 - 1 → Does .mlFrameDiscard s (fun t =>
      t.fld ML_CNT_CRCERR = s.fld ML_CNT_CRCERR + 1 ∧ t.fld ML_CNT_REPLAY = s.fld ML_CNT_REPLAY + 1 ∧
      (s.ml.crcErrs = 16 → t.raised 234 = true) ∧
      ∃ q, OutMsg.melar ⟨0x0C, 1, q, s.ml.rxSeq, []⟩ ∈ t.out)) ∧
    (up = true → Does (.mlLack lseq true) s (fun t => (∀ f ∈ s.ml.kept, lseq.toNat < f.lseq → OutMsg.melar f ∈ t.out) ∧
        t.regs = s.regs) ∧
      Does (.mlLack lseq false) s (fun t => t.ml = { s.ml with rxSeq := s.ml.rxSeq + 1 } ∧ t.out = s.out ∧
        t.regs = s.regs)) ∧
    (s.on ML_CTL_EN = false → exec (.mlHello h earlier) s = .next s) ∧
    (s.on ML_CTL_EN = true → Does (.mlHello h earlier) s (fun t => t.ml.hello = some h ∧ t.fld ML_STAT_LINK_UP = 1 ∧
      (up = false → t.fld ML_STAT_LANE_LOCK = 15 ∧ t.raised 224 = true) ∧
      (rules → t.fld ML_STAT_CONFLICT = 1 ∧ t.raised 230 = true ∧ t.rd ML_EPOCH = s.rd ML_EPOCH ∧
        (s.fld ML_EPOCH_EPOCH < h.epoch ∨ s.fld ML_EPOCH_EPOCH = h.epoch ∧ earlier = false →
          t.pstate = 5 ∧ t.fld ML_STAT_ROLE = 1) ∧
        (h.epoch < s.fld ML_EPOCH_EPOCH ∨ s.fld ML_EPOCH_EPOCH = h.epoch ∧ earlier = true →
          t.pstate = st ∧ t.fld ML_STAT_ROLE = 0)) ∧
      (st = 0 → s.on ML_CTL_ACCEPT = true → s.store.vol.vstate = 2 → h.partner = false → h.mirror = s.store.vol.magid →
        h.pstate = 2 ∨ h.pstate = 3 → s.fld ML_EPOCH_EPOCH < h.epoch → h.epoch < 2 ^ 32 →
        t.pstate = h.pstate ∧ t.fld ML_STAT_ROLE = 1 ∧ t.fld ML_EPOCH_EPOCH = h.epoch ∧ t.ml.mirrorMag = h.magid))) ∧
    (s.on ML_STAT_HB_OK = false → exec .heartbeatLost s = .next s) ∧
    (s.on ML_STAT_HB_OK = true → Does .heartbeatLost s (fun t => t.fld ML_STAT_HB_OK = 0 ∧ t.raised 226 = true ∧
      t.pstate = st) ∧ exec .heartbeatRegained s = .next s) ∧
    (s.on ML_STAT_HB_OK = false → s.on ML_CTL_EN = true → Does .heartbeatRegained s (fun t =>
      t.fld ML_STAT_HB_OK = 1 ∧ t.raised 227 = true ∧ t.pstate = st ∧ t.ml.tko = none)) ∧
    Does (.peerRoleChange level) s (fun t => t.on ML_STAT_ROLE_IN = level ∧ Block.regsOnly [ML_STAT] s.toBlock t.toBlock ∧
      (level = true → t.ml.tko = none) ∧ t.out = s.out) ∧
    (up = true → Does (.mlLeave cause) s (fun t => t.fld ML_STAT_LINK_UP = 0 ∧ t.fld ML_STAT_HB_OK = 0 ∧
      t.raised 225 = true ∧ (cause = 0 → t.pstate = 0 ∧ t.fld ML_STAT_ROLE = 0) ∧
      (cause ≠ 0 → cut → t.pstate = (if partner then 5 else 4)))) ∧
    (up = true → Does (.mlIrq n) s (fun t => t.raised 236 = true ∧
      (s.irq.peerFifo.length < 16 → t.irq.peerFifo = s.irq.peerFifo ++ [n] ∧ t.irq.peerOvf = s.irq.peerOvf) ∧
      (16 ≤ s.irq.peerFifo.length → t.irq.peerFifo = s.irq.peerFifo ∧ t.irq.peerOvf = true)))

/-- R304: each action ends with pair state, role and mode in RES, or with INVALID_FIELD where it is not allowed. R413: PAIR
passes through JOINING into RESYNC, or MIRRORED with a blank volume, under 1 + the higher EPOCH; an absent key is KEY_ABSENT;
UNPAIR sends LEAVE and returns to SINGLE. R418: a late report makes DEGRADED with 231. R422: a takeover raises EPOCH, takes
the primary role and ends every open clip. R425: a rejoin enters RESYNC under 1 + the higher EPOCH. R426: it ends MIRRORED. -/
def Obligations.MirrorFailover : Prop :=
  ∀ (s : State) (c : Cmd) (earlier : Bool) (peer : PeerPair) (h : PeerHello) (at_ : Nat),
    let mine : Prop := s.atWork c 0x0F ∧ c.tag ∉ s.hq.async
    let st := s.pstate
    let act := c.bits 10 3 0
    let e := s.fld ML_EPOCH_EPOCH
    let vol := s.store.vol
    let ends (t : State) : Prop := t.endsWith c 0 0 (t.pstate + 16 * t.fld ML_STAT_ROLE + 32 * t.fld ML_STAT_SYNC)
    let refused (t : State) : Prop := t.endsWith c 0x02 0 0 ∧ t.rd ML_EPOCH = s.rd ML_EPOCH
    let formed (t : State) (st' : Nat) (epoch : Nat) : Prop := t.pstate = st' ∧ t.fld ML_EPOCH_EPOCH = epoch ∧
      t.raised 228 = true ∧ t.fld ML_TXSEQ_LO_MSEQ = 0 ∧ t.fld ML_LAG_LAG = 0 ∧ t.ml.received = []
    let late : Prop := ∃ x ∈ s.ml.sent, x.last + 4 * s.fld ML_HB_RPT_TO + 1 ≤ s.now
    let took (t : State) : Prop := t.fld ML_EPOCH_EPOCH = (e + 1) % 2 ^ 32 ∧ t.pstate = 4 ∧ t.fld ML_STAT_ROLE = 0 ∧
      t.raised 229 = true ∧ t.ml.frozen = true ∧ t.ml.received = [] ∧ (∀ x ∈ t.store.vol.clips, x.state ≠ 1) ∧
      (s.on ML_STAT_ROLE = true → OutMsg.pin "PEER_ROLE" true ∈ t.out)
    let joins (t : State) : Prop := t.pstate = 2 ∧ t.fld ML_EPOCH_EPOCH = 1 + max e h.epoch ∧
      t.on ML_STAT_ROLE = !(decide (h.epoch < e) || (decide (h.epoch = e) && earlier)) ∧ t.ml.received = []
    let due : Prop := s.on ML_CTL_AUTO_TKO = true ∧ s.tkoHolds = true ∧ at_ + s.fld ML_HB_TKO_DLY + 1 ≤ s.now
    (mine → act = 0 → Does (.mirrorStatus c.tag) s (fun t => ends t ∧ t.regs = s.regs ∧ t.ml = s.ml)) ∧
    (mine → act = 3 → Does (.mirrorMode c.tag) s (fun t => ends t ∧ t.fld ML_STAT_SYNC = c.bits 11 0 0 ∧ t.pstate = st ∧
      t.on ML_STAT_ROLE = s.on ML_STAT_ROLE)) ∧
    (mine → act = 1 → c.step = 0 →
      (st ≠ 0 ∨ s.pairOk peer = false → Does (.pair c.tag peer) s refused) ∧
      (st = 0 → s.pairOk peer = true → (∃ g ∈ vol.gens, g.2.2 ∉ peer.checks) → Does (.pair c.tag peer) s (fun t =>
        t.endsWith c 0x40 0x0B 0 ∧ t.pstate = 0)) ∧
      (st = 0 → s.pairOk peer = true → (∀ g ∈ vol.gens, g.2.2 ∈ peer.checks) → Does (.pair c.tag peer) s (fun t =>
        t.pstate = 1 ∧ t.fld ML_STAT_ROLE = 0 ∧ t.raised 228 = true ∧ t.cmd c.tag = some { c with step := 1 }))) ∧
    (mine → act = 1 → c.step = 1 →
      (s.ml.hello = some h → s.on ML_STAT_LINK_UP = true → h.epoch < 2 ^ 32 - 1 → e < 2 ^ 32 - 1 → st = 1 →
        Does (.pair c.tag peer) s (fun t => ends t ∧ formed t (if vol.vstate = 3 then 2 else 3) (1 + max e h.epoch) ∧
          t.fld ML_STAT_ROLE = 0 ∧ t.ml.mirrorMag = h.magid)) ∧
      (s.on ML_STAT_LINK_UP = false → Does (.pair c.tag peer) s (fun t => refused t ∧ t.pstate = 0))) ∧
    (mine → act = 2 → (st = 0 → Does (.unpair c.tag) s refused) ∧
      (st ≠ 0 → Does (.unpair c.tag) s (fun t => ends t ∧ t.pstate = 0 ∧ t.fld ML_STAT_ROLE = 0 ∧ t.ml.sent = [] ∧
        t.raised 228 = true ∧ (s.on ML_STAT_LINK_UP = true →
          ∃ f : MelarFrame, OutMsg.melar f ∈ t.out ∧ f.type = 0x0B ∧ f.arg = 0)))) ∧
    (mine → act = 4 → (s.rejoinOk = false → Does (.rejoin c.tag earlier) s refused) ∧
      (s.rejoinOk = true → s.ml.hello = some h → h.epoch < 2 ^ 32 - 1 → e < 2 ^ 32 - 1 →
        Does (.rejoin c.tag earlier) s (fun t => ends t ∧ joins t))) ∧
    (mine → act = 5 →
      (st ≠ 5 ∨ c.bits 11 0 0 = 0 ∧ s.tkoHolds = false → Does (.takeover c.tag) s refused) ∧
      (st = 5 → c.bits 11 0 0 = 1 ∨ s.tkoHolds = true → Does (.takeover c.tag) s (fun t => ends t ∧ took t))) ∧
    (s.mirroring = false ∨ ¬ late → exec .reportTimeout s = .next s) ∧
    (s.mirroring = true → late → Does .reportTimeout s (fun t => t.raised 231 = true ∧ t.pstate = 4 ∧
      t.raised 228 = true ∧ t.ml.sent = [] ∧ t.fld ML_LAG_LAG = 0 ∧ t.fld ML_STAT_ROLE = 0)) ∧
    (s.ml.tko = none → exec .takeoverDelay s = .next s) ∧
    (s.ml.tko = some at_ → ¬ due → exec .takeoverDelay s = .next s) ∧
    (s.ml.tko = some at_ → due → Does .takeoverDelay s took) ∧
    (s.ml.healthy = none ∨ s.on ML_CTL_AUTO_RJ = false ∨ s.rejoinOk = false → exec (.autoRejoin earlier) s = .next s) ∧
    (s.ml.healthy = some at_ → s.now < at_ + 400001 → exec (.autoRejoin earlier) s = .next s) ∧
    (s.ml.healthy = some at_ → at_ + 400001 ≤ s.now → s.on ML_CTL_AUTO_RJ = true → s.rejoinOk = true →
      s.ml.hello = some h → h.epoch < 2 ^ 32 - 1 → e < 2 ^ 32 - 1 → Does (.autoRejoin earlier) s joins) ∧
    (st ≠ 2 → exec .resyncComplete s = .next s) ∧
    (st = 2 → Does .resyncComplete s (fun t => t.pstate = 3 ∧ t.on ML_STAT_ROLE = s.on ML_STAT_ROLE ∧
      t.fld ML_RSYNC_PROG = 100 ∧ t.raised 232 = true ∧ t.raised 228 = true))

/-- R410: frames count only on a link that is up. R414, R423, R428: a CMD frame makes its ML_MCT entry, and the partner
applies what has the next MSEQ; DATA completes FULL; DONE sets DONE. R416: a report covers everything up to its MSEQ. R426:
a resync frame sent carries its place and moves the progress. R427: a tunnel access keeps BUSY until its answer, and fails
with ERR and 233 on a misaligned address or after 40 ticks; the peer's access is made and answered here. -/
def Obligations.MirrorTraffic : Prop :=
  ∀ (s : State) (mseq : BitVec 64) (m48 : BitVec 48) (dws : Vector Word 16) (tag : Fin 4096) (pair : Fin 128)
    (clip : BitVec 16) (frame : BitVec 32) (stamp : BitVec 64) (dur : BitVec 2) (chunk : BitVec 16) (bytes : List Byte)
    (status v : Word) (x : MirCmd) (m : Master) (addr : BitVec 22) (w : Bool) (i : Fin 7) (at_ : Nat) (rtype : Fin 11),
    let up := s.on ML_STAT_LINK_UP
    let only (c : Instr) : Prop := exec c s = .next { s with ml := { s.ml with rxSeq := s.ml.rxSeq + 1 } }
    let cmd : Instr := .mlCmd mseq dws tag pair clip frame stamp dur
    let opc := dwBits dws 0 7 0
    let next : Prop := mseq.toNat = s.txMseq + 1
    let fresh : Prop := s.ml.received = [] ∧ s.ml.cats = []
    let idx : Fin 7 := Fin.ofNat 7 m.code
    let arg := addr.toNat + (if w then 2 ^ 32 else 0)
    (up = false → ∀ c ∈ [cmd, .mlData m48 chunk bytes, .mlCat mseq rtype bytes, .mlDone mseq status, .mlRpt mseq,
      .mlTunReq addr w v, .mlTunRsp addr w v, .mlRsync w clip frame bytes], exec c s = .next s) ∧
    (up = true → s.mirrored = false → only cmd ∧ (mseq ≠ 0 → only (.mlCat mseq rtype bytes))) ∧
    (up = true → s.mirrored = true → s.ml.frozen = false → fresh → opc ≠ 0x09 → opc ≠ 0x21 → opc ≠ 0x31 →
      Does cmd s (fun t => t.fld (ML_MCT_t_LO_MSEQ tag) = mseq.toNat % 2 ^ 32 ∧ t.fld (ML_MCT_t_HI_VALID tag) = 1 ∧
        t.fld (ML_MCT_t_HI_FULL tag) = 1 ∧ t.fld (ML_MCT_t_HI_DONE tag) = 0 ∧ t.fld (ML_MCT_t_HI_SQID tag) = pair.val ∧
        t.fld (ML_MCT_t_HI_CID tag) = dwBits dws 0 31 16 ∧ (next → t.txMseq = mseq.toNat) ∧
        (¬ next → t.txMseq = s.txMseq) ∧ ∃ y ∈ t.ml.received, y.mseq = mseq.toNat ∧ y.tag = tag.val)) ∧
    (up = true → (∀ y ∈ s.ml.received, y.mseq % 2 ^ 48 = m48.toNat → y.applied = true) → only (.mlData m48 chunk bytes)) ∧
    (up = true → s.ml.received = [x] → x.mseq % 2 ^ 48 = m48.toNat → x.applied = false →
      let x' := { x with chunks := x.chunks ++ [(chunk.toNat, bytes)] }
      s.mirFull x' = false → x.opc ≠ 0x09 → s.ml.cats = [] → s.rptMseq = s.txMseq → Does (.mlData m48 chunk bytes) s (fun t =>
        t.ml = { s.ml with rxSeq := s.ml.rxSeq + 1, received := [x'] } ∧ t.regs = s.regs)) ∧
    (up = true → s.ml.received = [x] → x.mseq % 2 ^ 48 = m48.toNat → x.applied = false → s.ml.frozen = false →
      s.mirFull { x with chunks := x.chunks ++ [(chunk.toNat, bytes)] } = true → x.mseq ≠ s.txMseq + 1 → s.ml.cats = [] →
      Does (.mlData m48 chunk bytes) s (fun t => t.fld (ML_MCT_t_HI_FULL x.tag) = 1 ∧ t.txMseq = s.txMseq)) ∧
    (up = true → s.mirrored = true → fresh → next → Does (.mlCat mseq rtype bytes) s (fun t => t.txMseq = mseq.toNat ∧
      t.ml.cats = [])) ∧
    (up = true → s.mirrored = true → fresh → mseq ≠ 0 → ¬ next → Does (.mlCat mseq rtype bytes) s (fun t =>
      t.txMseq = s.txMseq ∧ t.ml.cats = [(mseq.toNat, rtype.val, bytes)] ∧ t.store = s.store)) ∧
    (up = true → (∀ y ∈ s.ml.received, y.mseq ≠ mseq.toNat) → only (.mlDone mseq status)) ∧
    (up = true → s.ml.received = [x] → x.mseq = mseq.toNat → s.ml.frozen = false → x.tag < 4096 →
      Does (.mlDone mseq status) s (fun t => t.fld (ML_MCT_t_HI_DONE x.tag) = 1)) ∧
    (up = true → s.mirroring = false ∨ mseq.toNat ≤ s.rptMseq → only (.mlRpt mseq)) ∧
    (up = true → s.mirroring = true → s.rptMseq < mseq.toNat → Does (.mlRpt mseq) s (fun t => t.rptMseq = mseq.toNat ∧
      t.ml.sent = s.ml.sent.filter (fun y => mseq.toNat < y.mseq) ∧ t.store = s.store)) ∧
    (s.pstate ≠ 2 → exec (.mlRsync w clip frame bytes) s = .next s) ∧
    (s.pstate = 2 → up = true → s.ml.todo ≠ 0 → Does (.mlRsync true clip frame bytes) s (fun t =>
      OutMsg.melar ⟨0x0A, 0, s.ml.txSeq + 1, clip.toNat + 2 ^ 16 * frame.toNat, bytes⟩ ∈ t.out ∧
      t.fld ML_RSYNC_PROG = min 100 (100 * (s.ml.copied + bytes.length) / s.ml.todo))) ∧
    (s.pstate = 2 → up = true → clip = 0 → s.ml.part = none → bytes.length < 8192 → Does (.mlRsync false clip frame bytes) s
      (fun t => t.ml.part = some (0, frame.toNat, bytes) ∧ t.store = s.store)) ∧
    (ML_TUN_CTL_BUSY.get (vget s.tunCtl idx) = 1 → exec (.tunnelAccess m addr w) s = .next s) ∧
    (ML_TUN_CTL_BUSY.get (vget s.tunCtl idx) ≠ 1 →
      (addr.toNat % 4 ≠ 0 → Does (.tunnelAccess m addr w) s (fun t => ML_TUN_CTL_ERR.get (vget t.tunCtl idx) = 1 ∧
        t.raised 233 = true ∧ ML_TUN_CTL_ADDR.get (vget t.tunCtl idx) = addr.toNat)) ∧
      (addr.toNat % 4 = 0 → Does (.tunnelAccess m addr w) s (fun t => ML_TUN_CTL_BUSY.get (vget t.tunCtl idx) = 1 ∧
        ML_TUN_CTL_ADDR.get (vget t.tunCtl idx) = addr.toNat ∧ ML_TUN_CTL_WR.get (vget t.tunCtl idx) = w.toNat ∧
        vget t.ml.tunnel idx = some s.now ∧ (∀ j, j ≠ idx → vget t.tunCtl j = vget s.tunCtl j) ∧
        (up = true → OutMsg.melar ⟨0x07, 0, s.ml.txSeq + 1, arg, leBytes 4 (vget s.tunData idx).toNat⟩ ∈ t.out)))) ∧
    (up = true → Does (.mlTunReq addr w v) s (fun t => t.on ML_STAT_LINK_UP = true → ∃ f : MelarFrame,
      OutMsg.melar f ∈ t.out ∧ f.type = 0x08 ∧ f.arg = arg ∧
      f.payload = leBytes 4 (if w then v.toNat else (vget t.rdata Master.tunnel.idx).toNat))) ∧
    (up = true → s.tunnelOf addr.toNat w = none → only (.mlTunRsp addr w v)) ∧
    (up = true → s.tunnelOf addr.toNat w = some i → Does (.mlTunRsp addr w v) s (fun t =>
      ML_TUN_CTL_BUSY.get (vget t.tunCtl i) = 0 ∧ vget t.ml.tunnel i = none ∧
      (w = false → vget t.tunData i = v) ∧ (w = true → t.tunData = s.tunData) ∧ t.regs = s.regs)) ∧
    (vget s.ml.tunnel idx = none → exec (.tunnelTimeout m) s = .next s) ∧
    (vget s.ml.tunnel idx = some at_ → s.now < at_ + 41 → exec (.tunnelTimeout m) s = .next s) ∧
    (vget s.ml.tunnel idx = some at_ → at_ + 41 ≤ s.now → Does (.tunnelTimeout m) s (fun t =>
      ML_TUN_CTL_BUSY.get (vget t.tunCtl idx) = 0 ∧ ML_TUN_CTL_ERR.get (vget t.tunCtl idx) = 1 ∧
      vget t.ml.tunnel idx = none ∧ t.raised 233 = true))

/-! ### Interrupt controller -/

/-- R434: a claim takes the lowest pending source of its target; an end of service clears it, a wrong one is counted. R435: a
host end of service clears the vector's sources, and a due delivery follows. R429, R432: a raise pends a present source; one
routed nowhere is only recorded. R433, R438, R439: a delivery that is due and no longer held is made, on an unmask, an
enable or an expired holdoff. R441, R442: a raise with PEER goes to the partner or is dropped; the FIFO gives its oldest. -/
def Obligations.InterruptControl : Prop :=
  ∀ (s : State) (m : Master) (t : Fin 5) (n : BitVec 11) (v : Fin 128) (dis : BitVec 7) (e : Nat) (k : Nat),
    let mod := vget s.irq.vec v
    let sends (u : State) : Prop := ∃ a h d, OutMsg.msix v.val a h d ∈ u.out
    let waits : Prop := (s.vecPend v).isEmpty = false ∧ s.inService v = false ∧ mod.due = true
    let open_ : Prop := s.onBit IC_TGT_CTL_DIS 4 = false ∧ s.on (MSIX_CTRL_W v) = false ∧ s.irq.msixEn = true
    let taken (u : State) : Prop := ∀ x ∈ s.vecPend v, (x, 8 + v.val) ∈ u.irq.act ∧ x ∉ u.irq.pend
    let here : Prop := srcPresent s.part n.toNat = true
    (s.tgtPend t = [] → Does (.claim m t) s (fun u => vget u.rdata m.idx = 0 ∧ u.irq = s.irq ∧ u.regs = s.regs)) ∧
    (s.irq.pend.Pairwise (· < ·) → k ∈ s.tgtPend t → (∀ j ∈ s.tgtPend t, k ≤ j) → k < 2048 →
      Does (.claim m t) s (fun u => vget u.rdata m.idx = 0x80000000#32 ||| BitVec.ofNat 32 k ∧ k ∉ u.irq.pend ∧
        (k, t.val) ∈ u.irq.act ∧ ∀ x ∈ u.irq.act, x.1 = k → x.2 = t.val)) ∧
    ((n.toNat, t.val) ∈ s.irq.act → Does (.eoi t n) s (fun u => u.regs = s.regs ∧
      u.irq = { s.irq with act := s.irq.act.filter fun x => x ≠ (n.toNat, t.val) })) ∧
    ((n.toNat, t.val) ∉ s.irq.act → Does (.eoi t n) s (fun u => u.irq = s.irq ∧
      (s.fld IC_ERR_BADEOI < 2 ^ 16 - 1 → u.fld IC_ERR_BADEOI = s.fld IC_ERR_BADEOI + 1))) ∧
    (mod.due = false → Does (.hostEoi v) s (fun u => u.regs = s.regs ∧ u.out = s.out ∧
      u.irq = { s.irq with act := s.irq.act.filter fun x => x.2 ≠ 8 + v.val })) ∧
    (mod.due = true → (s.vecPend v).isEmpty = false → open_ → Does (.hostEoi v) s (fun u => sends u ∧ taken u)) ∧
    (¬ here → exec (.forceRaise n) s = .next s) ∧
    (here → Does (.forceRaise n) s (fun u => u.raised n.toNat = true)) ∧
    (here → s.route n.toNat = 0 ∨ s.route n.toNat = 7 → s.routePeer n.toNat = false → Does (.forceRaise n) s (fun u =>
      u.irq = { s.irq with pend := insertSrc n.toNat s.irq.pend } ∧ u.regs = s.regs ∧ u.out = s.out)) ∧
    (here → s.route n.toNat = 5 → s.routePeer n.toNat = false → s.srcVec n.toNat = v.val → s.inService v = false → open_ →
      s.fld (IC_MOD_v_HOLDOFF v) = 0 → Does (.forceRaise n) s (fun u => sends u ∧ (n.toNat, 8 + v.val) ∈ u.irq.act ∧
        n.toNat ∉ u.irq.pend ∧ taken u)) ∧
    (here → s.routePeer n.toNat = true → s.on ML_STAT_LINK_UP = true → s.onBit IC_TGT_CTL_DIS 6 = false →
      Does (.forceRaise n) s (fun u => ∃ f : MelarFrame, OutMsg.melar f ∈ u.out ∧ f.type = 9 ∧ f.arg = n.toNat)) ∧
    (here → s.routePeer n.toNat = true → s.on ML_STAT_LINK_UP = false → s.fld IC_ERR_PEERDROP < 2 ^ 16 - 1 →
      Does (.forceRaise n) s (fun u => u.fld IC_ERR_PEERDROP = s.fld IC_ERR_PEERDROP + 1)) ∧
    Does (.targetDisable dis) s (fun u => u.fld IC_TGT_CTL_DIS = dis.toNat ∧
      (dis.getLsbD 4 = true → u.out.length = s.out.length + (if dis.getLsbD 6 = false ∧ s.on ML_STAT_LINK_UP = true then
        s.irq.peerHeld.length else 0)) ∧
      (waits → dis.getLsbD 4 = false → s.on (MSIX_CTRL_W v) = false → s.irq.msixEn = true → sends u ∧ taken u) ∧
      (dis.getLsbD 6 = true → u.irq.peerHeld = s.irq.peerHeld) ∧
      (dis.getLsbD 6 = false → u.irq.peerHeld = [] ∧ (s.on ML_STAT_LINK_UP = true → ∀ x ∈ s.irq.peerHeld,
        ∃ f : MelarFrame, OutMsg.melar f ∈ u.out ∧ f.type = 9 ∧ f.arg = x))) ∧
    (mod.timer = none → exec (.holdoffExpiry true v) s = .next s) ∧
    (mod.timer = some e → s.now < e → exec (.holdoffExpiry true v) s = .next s) ∧
    (mod.timer = some e → e ≤ s.now → (s.vecPend v).isEmpty = false → s.inService v = false → open_ →
      Does (.holdoffExpiry true v) s (fun u => sends u ∧ taken u ∧ vget u.irq.vec v = Moder.idle)) ∧
    (∀ c : Fin 4, (vget s.irq.core c).timer = some e → e ≤ s.now → Does (.holdoffExpiry false (Fin.ofNat 128 c)) s (fun u =>
      vget u.irq.core c = { vget s.irq.core c with timer := none, due := true } ∧ u.irq.pend = s.irq.pend ∧
      u.regs = s.regs ∧ (s.tgtPend c ≠ [] → s.onBit IC_TGT_CTL_DIS c = false → u.line c = true))) ∧
    Does (.peerFifoRead m) s (fun u => (vget u.rdata m.idx).toNat =
        (match s.irq.peerFifo with | [] => 0 | x :: _ => 2 ^ 31 + x.toNat) + (if s.irq.peerOvf then 2 ^ 30 else 0) ∧
      u.irq = { s.irq with peerFifo := s.irq.peerFifo.tail, peerOvf := false } ∧ u.regs = s.regs) ∧
    Does (.msixUnmask v) s (fun u => u.rd (MSIX_CTRL v) = 0 ∧
      (waits → s.onBit IC_TGT_CTL_DIS 4 = false → s.irq.msixEn = true → sends u ∧ taken u) ∧
      (mod.due = false → u.irq = s.irq ∧ u.out = s.out))

/-! ### Power and resets -/

/-- R24, R26, R27: entering reduced mode raises 33 and stops writing on every disc above 4,500 rpm, leaving it raises 34 and
takes the discs in turn, or is quiet before the first start. R448, R449: the measurement gives the cap, 0 with 38. R450:
arming raises 35, and 37 where the cap cuts the allowance; a boost fault disarms with 36. R463, R464: an enabled pending
source abandons the sleep; a wake advances the tick. R462: looks set wake sources 8 and 9. R466: overvoltage raises 43. -/
def Obligations.PowerModes : Prop :=
  ∀ (s : State) (capf esr : BitVec 16) (pending sources : BitVec 11) (ticks : BitVec 32) (temp hum : BitVec 8),
    let dies := ((List.range 32).filter fun d => !s.onBit PT_DIE_FAIL_FAIL d).length
    let cap := holdupCap capf.toNat dies
    let mayArm : Prop := s.on PW_STAT_MEAS_DONE = true ∧ 2400 ≤ s.fld PW_VIN_VHOLD ∧ s.on PW_CTL_DYKE_EN = true ∧
      s.on PW_CTL_BOOST_EN = true ∧ ∀ d, d < 32 → s.onBit PT_DIE_FAIL_FAIL d = true ∨ 3 ≤ s.ptErased d
    let allow := min s.hq.allow (s.fld PW_HOLDUP_CAP)
    let stays : Prop := s.pw.sleep = false ∨ ∃ c ∈ s.hq.cmds, c.opc ≠ 0x10
    let hit := pending.toNat &&& s.wakeMask
    let woke := (sources.toNat ||| s.pw.wakes) &&& s.wakeMask
    let slow := (List.range 2).filter fun n =>
      s.part.hasSpin n && decide ((vget s.spin (Fin.ofNat 2 n)).ref ≤ 4500) && decide (s.spState (Fin.ofNat 2 n) ≠ 0)
    let bad : Bool := decide (temp.toInt < s.sfld PW_SNS_TMIN) || decide (s.sfld PW_SNS_TMAX < temp.toInt) ||
      decide (s.fld PW_SNS_HMAX < hum.toNat)
    (holdupCap 30 32 = 0 ∧ holdupCap 120 32 = 512 ∧ holdupCap 150 32 = 704 ∧ holdupCap 200 32 = 960 ∧
      holdupCap 220 32 = 1024) ∧
    (s.on PW_STAT_RMODE = true → exec .reducedModeEntry s = .next s) ∧
    (s.on PW_STAT_RMODE = false → Does .reducedModeEntry s (fun t => t.fld PW_STAT_RMODE = 1 ∧ t.raised 33 = true ∧
        t.pw.turn = [] ∧ ∀ u : Fin 4, s.part.hasSurf u = true → 4500 < (vget s.spin (spinOf u)).ref →
          (vget t.wp u).stop = true ∧ (vget t.wp u).planned = none) ∧
      exec .reducedModeExit s = .next s) ∧
    (s.on PW_STAT_RMODE = true → Does .reducedModeExit s (fun t => t.fld PW_STAT_RMODE = 0 ∧ t.raised 34 = true ∧
      t.pw.quiet = false ∧ (s.pw.quiet = true → t.hq = s.hq ∧ t.pw.turn = s.pw.turn ∧ t.wp = s.wp) ∧
      (s.pw.quiet = false → t.pw.turn = slow))) ∧
    (s.on PW_STAT_OVV = true → exec .vinOvervoltage s = .next s) ∧
    (s.on PW_STAT_OVV = false → Does .vinOvervoltage s (fun t => t.fld PW_STAT_OVV = 1 ∧ t.raised 43 = true ∧
      Block.regsOnly [PW_STAT] s.toBlock t.toBlock)) ∧
    (s.on PW_STAT_MEAS_DONE = true → exec (.holdupMeasure capf esr) s = .next s) ∧
    (s.on PW_STAT_MEAS_DONE = false → Does (.holdupMeasure capf esr) s (fun t => t.fld PW_STAT_MEAS_DONE = 1 ∧
      t.fld PW_HOLDUP_MEAS_CAPF = capf.toNat ∧ t.fld PW_HOLDUP_MEAS_ESR = esr.toNat ∧ t.fld PW_HOLDUP_CAP = cap ∧
      t.fld PW_HOLDUP_ALLOW = min s.hq.allow cap ∧ (cap = 0 → t.raised 38 = true))) ∧
    (s.on PW_STAT_ARMED = true ∨ ¬ mayArm → exec .holdupArm s = .next s) ∧
    (s.on PW_STAT_ARMED = false → mayArm → Does .holdupArm s (fun t => t.fld PW_STAT_ARMED = 1 ∧ t.raised 35 = true ∧
      t.fld PW_HOLDUP_ALLOW = allow ∧ (allow < s.hq.allow → t.raised 37 = true))) ∧
    (s.on PW_STAT_ARMED = false → exec .boostFault s = .next s) ∧
    (s.on PW_STAT_ARMED = true → Does .boostFault s (fun t => t.fld PW_STAT_ARMED = 0 ∧ t.fld PW_STAT_BOOST_FLT = 1 ∧
      t.raised 36 = true)) ∧
    (stays → exec (.sleepEntry pending) s = .next s) ∧
    (¬ stays → hit ≠ 0 → Does (.sleepEntry pending) s (fun t => t.fld PW_WAKE_CAUSE = s.fld PW_WAKE_CAUSE ||| hit ∧
      t.raised 39 = true ∧ t.raised 40 = true ∧ t.pw.sleep = false ∧ t.pw.asleep = false ∧ t.tick = s.tick ∧
      t.rd PW_STAT = s.rd PW_STAT ∧
      (s.fld PW_CNT_ABANDON < 255 → t.fld PW_CNT_ABANDON = s.fld PW_CNT_ABANDON + 1))) ∧
    (¬ stays → hit = 0 → Does (.sleepEntry pending) s (fun t => t.pw.asleep = true ∧ t.pw.sleep = false ∧
      t.fld PW_STAT_PADHOLD = 1 ∧ t.fld PW_STAT_ARMED = 0 ∧ t.irq = s.irq ∧
      (s.fld PW_CNT_SLEEPS < 255 → t.fld PW_CNT_SLEEPS = s.fld PW_CNT_SLEEPS + 1))) ∧
    (s.pw.asleep = false ∨ woke = 0 → exec (.wake sources ticks) s = .next s) ∧
    (s.pw.asleep = true → woke ≠ 0 → Does (.wake sources ticks) s (fun t => t.tick = s.tick + ticks.setWidth 64 ∧
      t.fld GLB_TICK_STAT_STBY_ADJ = 1 ∧ t.fld PW_WAKE_CAUSE = s.fld PW_WAKE_CAUSE ||| woke ∧ t.raised 39 = true ∧
      t.pw.asleep = false ∧ (s.fld HQ_LINK_SPEED = 0 → OutMsg.pin "WAKE#" false ∈ t.out) ∧ t.store = s.store ∧
      t.cx = s.cx)) ∧
    (s.pw.asleep = false ∨ s.fld PW_STBY_INT_INTERVAL = 0 → exec (.standbyLook temp hum) s = .next s) ∧
    (s.pw.asleep = true → s.fld PW_STBY_INT_INTERVAL ≠ 0 → Does (.standbyLook temp hum) s (fun t =>
      t.pw.looks = s.pw.looks + 1 ∧ t.regs = s.regs ∧ t.pw.asleep = true ∧
      (bad = true → t.pw.wakes.testBit 8 = true) ∧ (bad = false → t.pw.wakes.testBit 8 = s.pw.wakes.testBit 8) ∧
      (s.fld PW_STBY_TMR_LOOKS ≤ s.pw.looks + 1 → t.pw.wakes.testBit 9 = true))) ∧
    Does .padRelease s (fun t => t.fld PW_STAT_PADHOLD = 0 ∧ Block.regsOnly [PW_STAT] s.toBlock t.toBlock ∧ t.pw = s.pw)

/-- R456, R457: a reset with any cause but POR returns every register to its reset value but those that only POR resets,
empties the key store, clears the tick and leaves no volume, and sets its cause's bit; POR sets everything. R451, R452: an
armed detection starts the sequence, with lasers and gates off; an unarmed one resets. R455: RESET_N waits for its end. R21:
a clock alarm resets. R467: SOFT needs its KEY. R458: the boot ends with BOOT_DONE, and 42 after another cause than POR. -/
def Obligations.ResetsAndBoot : Prop :=
  ∀ (s : State) (d : Dyke) (dur key : BitVec 16) (dumped : Nat) (slotOk : BitVec 2) (badDies : BitVec 32)
    (bad : List (Nat × Nat)),
    let init := Block.initial s.part
    let kept := [PW_RSTCAUSE, PW_DYKE_STAT, PW_CNT, PW_HOLDUP_MEAS, PW_HOLDUP, PW_STAT]
    let cleared (t : State) : Prop := t.part = s.part ∧ t.tick = 0 ∧ t.irq = init.irq ∧ t.dram = init.dram ∧
      t.le = init.le ∧ t.spin = init.spin ∧ t.axis = init.axis ∧ t.cx.slots = init.cx.slots ∧
      t.store.vol = init.store.vol ∧ t.hq.cmds = []
    let wasReset (t : State) (cause : Nat) : Prop := cleared t ∧ (∀ o, o ∉ kept → t.rd o = resetVal s.part o) ∧
      (∀ k, k < 8 → t.onBit PW_RSTCAUSE_CAUSE k = (decide (k = cause) || s.onBit PW_RSTCAUSE_CAUSE k)) ∧
      t.rd PW_HOLDUP_MEAS = s.rd PW_HOLDUP_MEAS ∧ t.fld PW_HOLDUP_CAP = s.fld PW_HOLDUP_CAP ∧
      t.fld PW_STAT_MEAS_DONE = s.fld PW_STAT_MEAS_DONE ∧ t.fld PW_STAT_ARMED = 0 ∧ t.fld PW_STAT_BOOT_DONE = 0
    let keeps (t : State) : Prop := t.rd PW_DYKE_STAT = s.rd PW_DYKE_STAT ∧ t.rd PW_CNT = s.rd PW_CNT
    let armed : Prop := s.on PW_STAT_ARMED = true ∧ s.on PW_CTL_DYKE_EN = true
    let begun (t : State) (cause : Nat) : Prop := t.pw.dyke = some ⟨cause, true, s.dumpList⟩ ∧ t.fld PW_STAT_DYKE = 1 ∧
      t.raised 32 = true ∧ t.fld PT_CTL_DYKE = 1 ∧ (∀ c ∈ t.hq.cmds, c.discard = true) ∧ t.ml.alive = false ∧
      (∀ x ∈ t.pt.waiting, x.reads = false) ∧
      (∀ u : Fin 4, s.part.hasSurf u = true → t.fld (SEs_LSAFE_LDEN u) = 0 ∧ t.fld (SEs_LSAFE_WGATE u) = 0 ∧
        (vget t.wp u).running = none) ∧
      ∀ a : Fin 9, s.part.hasAxis a = true → t.fld (AXa_STAT_HOMED a) = 0
    let fails (i : Instr) (cause : Nat) : Prop := (armed → Does i s (fun t => begun t cause)) ∧
      (¬ armed → Does i s (fun t => wasReset t cause))
    let want := if s.hq.fwNext = 0 then s.hq.fwActive else s.hq.fwNext
    Does .por s (fun t => cleared t ∧ (∀ o, t.rd o = init.rd o) ∧ t.fld PW_RSTCAUSE_CAUSE = 1 ∧
      t.fld PW_STAT_RMODE = 1) ∧
    (s.pw.dyke = none → Does .resetN s (fun t => wasReset t 1 ∧ keeps t)) ∧
    (s.pw.dyke ≠ none → Does .resetN s (fun t => t.pw = { s.pw with resetN := true } ∧ t.regs = s.regs)) ∧
    Does .jtag s (fun t => wasReset t 6 ∧ keeps t) ∧
    (s.pw.dyke = none → Does .clockAlarm s (fun t => wasReset t 3 ∧ keeps t)) ∧
    (s.pw.dyke ≠ none → exec .clockAlarm s = .next s ∧ exec .wdog s = .next s ∧ exec .powerFailDetect s = .next s ∧
      ∀ dump, exec (.soft key dump) s = .next s) ∧
    (s.pw.asleep = true → exec .powerFailDetect s = .next s) ∧
    (s.pw.dyke = none → s.pw.asleep = false → fails .powerFailDetect 7) ∧
    (s.pw.dyke = none → fails .wdog 4) ∧
    (∀ dump, key ≠ 0xA5C3 → exec (.soft key dump) s = .next s) ∧
    (s.pw.dyke = none → fails (.soft 0xA5C3 true) 5 ∧ Does (.soft 0xA5C3 false) s (fun t => wasReset t 5 ∧ keeps t)) ∧
    (s.pw.dyke = none → exec (.dykeEnd dur) s = .next s) ∧
    (s.pw.dyke = some d → 0 < d.cause → d.cause < 8 → Does (.dykeEnd dur) s (fun t => cleared t ∧
      t.onBit PW_RSTCAUSE_CAUSE d.cause = true ∧ (s.pw.resetN = false → wasReset t d.cause) ∧
      (s.pw.resetN = true → t.onBit PW_RSTCAUSE_CAUSE 1 = true) ∧ t.fld PW_DYKE_STAT_INC = 0 ∧
      t.fld PW_DYKE_STAT_DUR = dur.toNat ∧
      t.fld PW_DYKE_STAT_MIB = (8192 * d.todo.length + 1048575) / 1048576 % 2 ^ 11 ∧ t.rd PW_CNT = s.rd PW_CNT)) ∧
    Does (.brownout dumped) s (fun t => wasReset t 2 ∧ (s.pw.dyke ≠ none → t.pw.incomplete = true) ∧
      (s.fld PW_CNT_BROWNOUT < 255 → t.fld PW_CNT_BROWNOUT = s.fld PW_CNT_BROWNOUT + 1)) ∧
    (s.on PW_STAT_BOOT_DONE = true → exec (.moduleBoot slotOk badDies bad) s = .next s) ∧
    (s.on PW_STAT_BOOT_DONE = false → Does (.moduleBoot slotOk badDies bad) s (fun t => t.fld PW_STAT_BOOT_DONE = 1 ∧
      t.hq.booted = true ∧ t.fld PT_STAT_RECOV = 0 ∧ t.on PT_STAT_READY = s.on PT_CTL_EN ∧ t.raised 1301 = true ∧
      t.hq.fwActive = (if slotOk.getLsbD (want - 1) then want else 3 - want) ∧
      (∀ i : Fin 32, badDies.getLsbD i = true → t.onBit PT_DIE_FAIL_FAIL i = true) ∧
      (s.fld PW_RSTCAUSE_CAUSE / 2 ≠ 0 → t.raised 42 = true) ∧
      (s.pw.incomplete = true → t.fld PW_DYKE_STAT_INC = 1 ∧ t.raised 41 = true) ∧
      t.fld ML_EPOCH_EPOCH = s.ml.jEpoch % 2 ^ 32 ∧ t.pt.waiting = [] ∧ t.pt.ops = []))

/-! ### Calibration, telemetry, I2C -/

/-- R468: a kind with its AUTO bit starts on an idle surface when its unit is free, and takes nothing else. R122, R123, R469:
kind 0 maps the spares to the comparators with the largest offsets beyond 0.4 LSB. R470: kind 1 writes the negated means.
R471: kind 2 rescales a loop that deviates by more than 1 dB, in the inactive bank. R468: kind 4 loads its table. R474: a bad
result or a timeout (R481) raises 48 and the surface's event and writes no result. -/
def Obligations.Calibrations : Prop :=
  ∀ (s : State) (u : Fin 4) (bg : Bool) (offs : List (List (BitVec 8))) (means : Vector (BitVec 14) 9)
    (f t : BitVec 16) (table : Vector Word 28) (c : CalRun),
    let cal := vget s.cal.surf u
    let idle (k : Nat) : Prop := s.part.hasSurf u = true ∧ cal.run = none ∧ s.onBit CAL_CTL_AUTO k = true ∧
      (bg = true → s.on CAL_CTL_BGEN = true) ∧ s.pw.dyke = none
    let begins (i : Instr) (k : Nat) : Prop := Does i s (fun v => v.onBit CAL_STAT_BUSY u = true ∧
      (∃ r, (vget v.cal.surf u).run = some r ∧ r.kind = k ∧ r.start = s.now ∧ r.tmo = s.fld (CAL_TMO_k_TMO k) ∧
        r.band = (vget s.wp u).band) ∧ Block.regsOnly [CAL_STAT] s.toBlock v.toBlock ∧ v.irq = s.irq ∧ v.le = s.le)
    let runs (k : Nat) : Prop := s.part.hasSurf u = true ∧ cal.run = some c ∧ c.kind = k
    let ended (v : State) : Prop := v.onBit CAL_STAT_BUSY u = false ∧ (vget v.cal.surf u).run = none
    let isBad (v : State) : Prop := ended v ∧ v.raised 48 = true ∧
      (s.fld CAL_CNT_BAD < 255 → v.fld CAL_CNT_BAD = s.fld CAL_CNT_BAD + 1)
    let raisedAt (v : State) (k : Nat) : Prop := v.raised (1024 + 40 * u.val + k) = true
    let off (k j : Nat) : Nat := ((offs.getD k []).getD j 0).toInt.natAbs
    let faulty (k : Nat) := (List.range 127).filter fun j => 6 < off k j
    let larger (k j : Nat) := ((faulty k).filter fun i => off k j < off k i ∨ (off k j = off k i ∧ i < j)).length
    let kept (v : State) : Prop := ∀ n k, v.rd (BMnn_ADC_MAP_k n k) = s.rd (BMnn_ADC_MAP_k n k)
    let q (e : Nat) := s.quarter (slotOwner (s.slotEff e))
    let other (e : Nat) := if q e % 2 = 0 then q e + 1 else q e - 1
    let base (e : Nat) := s.fld (LE_PDESC_p_W1_CBASE (slotProg (s.slotEff e))) + 20
    let scaled (v : State) (e : Nat) (err : Int) : Prop := ∀ i, i < 5 →
      v.cmem (other e) (base e + i) = coefScale (s.cmem (q e) (base e + i)) (gainInv err)
    let big (x : BitVec 16) (d : Nat) : Prop := d < x.toInt.natAbs
    (idle 0 → (vget s.wp u).running = none → begins (.calAdcOffset u bg none) 0) ∧
    (idle 1 → s.on (SEs_LSAFE_LDEN u) = false → (vget s.servo u).fmode = 0 → begins (.calServoOffset u bg none) 1) ∧
    (idle 2 → s.on (SEs_LSAFE_WGATE u) = false → (vget s.servo u).tmode = 3 → begins (.calLoopGain u bg none) 2) ∧
    (bg = false → idle 4 → (vget s.wp u).running = none → s.on (SEs_LSAFE_SAFE u) = false →
      cal.checked = some (vget s.wp u).band → bandLayer (vget s.wp u).band ∉ cal.strategy →
      begins (.calWriteStrategy u none) 4) ∧
    (cal.run = none → (s.onBit CAL_CTL_AUTO 0 = false → exec (.calAdcOffset u bg none) s = .next s) ∧
      (s.onBit CAL_CTL_AUTO 1 = false → exec (.calServoOffset u bg none) s = .next s) ∧
      (s.onBit CAL_CTL_AUTO 2 = false → exec (.calLoopGain u bg none) s = .next s) ∧
      (s.onBit CAL_CTL_AUTO 4 = false → exec (.calWriteStrategy u none) s = .next s)) ∧
    (runs 0 → offs.length = 16 → (∀ k, k < 16 → (offs.getD k []).length = 127) →
      Does (.calAdcOffset u bg (some offs)) s (fun v => ended v ∧ ∀ k, k < 16 →
        v.fld (BMnn_ADC_STAT_FAULTY (16 * u.val + k)) = (faulty k).length ∧
        v.fld (BMnn_ADC_STAT_USED (16 * u.val + k)) = min 16 (faulty k).length ∧
        v.on (BMnn_ADC_STAT_EXCESS (16 * u.val + k)) = decide (16 < (faulty k).length) ∧
        (16 < (faulty k).length → v.raised (256 + 12 * (16 * u.val + k)) = true) ∧
        ∀ j, j < 127 → ((∃ i, i < 16 ∧ (v.rd (BMnn_ADC_MAP_k (16 * u.val + k) (i / 2))).toNat / 2 ^ (16 * (i % 2)) % 2 ^ 16 =
          2 ^ 15 + j) ↔ j ∈ faulty k ∧ larger k j < 16))) ∧
    (runs 1 → (∀ k : Fin 9, (vget means k).toInt.natAbs ≤ 1024) → Does (.calServoOffset u bg (some means)) s (fun v =>
      ended v ∧ ∀ k : Fin 9, v.fld (SFs_ADC_OFS_k_OFS u k) = (-(vget means k)).toNat)) ∧
    (runs 1 → (∃ k : Fin 9, 1024 < (vget means k).toInt.natAbs) → Does (.calServoOffset u bg (some means)) s (fun v =>
      isBad v ∧ raisedAt v 32 ∧ (vget v.cal.surf u).barred = true ∧
      ∀ k : Fin 9, v.rd (SFs_ADC_OFS_k u k) = s.rd (SFs_ADC_OFS_k u k))) ∧
    (runs 2 → ¬ big f 60 → ¬ big t 60 → Does (.calLoopGain u bg (some (f, t))) s (fun v => ended v ∧
      (¬ big f 10 → ¬ big t 10 → v.le = s.le ∧ Block.regsOnly [CAL_STAT] s.toBlock v.toBlock) ∧
      (big f 10 ∨ big t 10 → v.le.swap = true ∧ raisedAt v 30) ∧
      (s.le.run = none → (big t 10 → scaled v (4 + u.val) t.toInt) ∧
        (big f 10 → ¬ big t 10 → scaled v u.val f.toInt)))) ∧
    (runs 2 → big f 60 ∨ big t 60 → Does (.calLoopGain u bg (some (f, t))) s (fun v => isBad v ∧ raisedAt v 31 ∧
      v.le = s.le ∧ (vget v.cal.surf u).barred = cal.barred)) ∧
    (runs 4 → Does (.calWriteStrategy u (some table)) s (fun v => ended v ∧ raisedAt v 28 ∧
      bandLayer c.band ∈ (vget v.cal.surf u).strategy ∧ (s.wsClass u, table.toList) ∈ (vget v.se u).wst)) ∧
    (runs c.kind → s.now < c.start + c.tmo + 1 → exec (.calTimeout u) s = .next s) ∧
    (cal.run = none → exec (.calTimeout u) s = .next s) ∧
    (c.start + c.tmo + 1 ≤ s.now →
      (runs 0 → Does (.calTimeout u) s (fun v => isBad v ∧ kept v)) ∧
      (runs 1 → Does (.calTimeout u) s (fun v => isBad v ∧ raisedAt v 32 ∧ (vget v.cal.surf u).barred = true)) ∧
      (runs 2 → Does (.calTimeout u) s (fun v => isBad v ∧ raisedAt v 31 ∧ v.le = s.le)) ∧
      (runs 3 → Does (.calTimeout u) s (fun v => isBad v ∧ raisedAt v 26)) ∧
      (runs 4 → Does (.calTimeout u) s (fun v => isBad v ∧ raisedAt v 29)))

/-- R468, R473: kind 3 starts on the current band of a surface with a descriptor, with one unit written. The check passes when
no beam's errors exceed MAXERR; else a sweep of eight units follows (24), each failing beam at 0.80 + 0.05 m of its start
power. After the sweep a beam gets the middle of its longest passing run; beams with none sweep once more. The powers found
go to SEs_BPWR with BIAS in its ratio (25). R474: a second failure spends the band (26); the third in a row bars the
surface (27). R77: without a unit left, 35. -/
def Obligations.WritePowerCalibration : Prop :=
  ∀ (s : State) (u : Fin 4) (area bg : Bool) (errs : Vector (BitVec 16) 16) (c : CalRun) (d : Descriptor),
    let cal := vget s.cal.surf u
    let band := (vget s.wp u).band
    let failed := s.failedBeams u
    let runs : Prop := s.part.hasSurf u = true ∧ cal.run = some c ∧ c.kind = 3
    let ok (k : Nat) : Prop := (vget errs (Fin.ofNat 16 k)).toNat ≤ c.maxerr
    let fails := (List.range 16).filter fun k => ¬ ok k ∧ k ∉ failed
    let unit : Prop := if c.area = true ∧ cal.areaUsed < 480 then True else c.area = false ∧ s.unitsLeft u c.band = true
    let used (v : State) : Prop :=
      if c.area = true then (vget v.cal.surf u).areaUsed = cal.areaUsed + 1 ∧ (vget v.cal.surf u).testUsed = cal.testUsed
      else (vget v.cal.surf u).testUsed.get c.band 0 = cal.testUsed.get c.band 0 + 1 ∧
        (vget v.cal.surf u).areaUsed = cal.areaUsed
    let raisedAt (v : State) (k : Nat) : Prop := v.raised (1024 + 40 * u.val + k) = true
    let m := (c.step - 1) % 8
    let passed' := c.passed ++ (c.failing.filter fun k => ok k).map fun k => (k, m)
    let left := c.failing.filter fun k => ¬ ∃ e ∈ passed', e.1 = k
    let swept (l : List (Nat × Nat)) (k : Nat) := (l.filter fun e => e.1 = k).map (·.2)
    let found (v : State) (power : Nat → Nat) : Prop := (vget v.cal.surf u).run = none ∧ raisedAt v 25 ∧
      v.fld (CAL_Ss_WP_RESULT u) = 0 ∧ v.fld (CAL_Ss_WP_BADRUN u) = 0 ∧ v.fld (CAL_Ss_WP_BAND u) = c.band % 2 ^ 16 ∧
      (vget v.se u).powerDue = true ∧ u.val ∉ v.pw.await ∧ ∀ k, k < 16 →
        (k ∈ failed → v.rd (SEs_BPWR_b u k) = s.rd (SEs_BPWR_b u k)) ∧
        (k ∉ failed → v.fld (SEs_BPWR_b_PEAK u k) = power k % 2 ^ 16 ∧ v.fld (SEs_BPWR_b_BIAS u k) =
          (if s.fld (SEs_BPWR_b_PEAK u k) = 0 then s.fld (SEs_BPWR_b_BIAS u k)
           else s.fld (SEs_BPWR_b_BIAS u k) * power k / s.fld (SEs_BPWR_b_PEAK u k)) % 2 ^ 16)
    let start (k : Nat) := c.peak0.getD k 0
    let spent (v : State) : Prop := (vget v.cal.surf u).run = none ∧ v.raised 48 = true ∧ raisedAt v 26 ∧
      v.fld (CAL_Ss_WP_RESULT u) = 1 ∧ v.fld (CAL_Ss_WP_BADRUN u) = min (s.fld (CAL_Ss_WP_BADRUN u) + 1) 255 ∧
      c.band ∈ (vget v.wp u).spent ∧ (∀ k, v.rd (SEs_BPWR_b u k) = s.rd (SEs_BPWR_b u k)) ∧
      (2 ≤ s.fld (CAL_Ss_WP_BADRUN u) → raisedAt v 27 ∧ (vget v.servo u).unavail = true)
    let judges (P : State → Prop) : Prop := Does (.calWritePower u area bg (some errs)) s P
    sweptPeak 10000 [0, 2, 3, 4, 5, 7] = 9500 ∧ sweptPeak 10000 [1, 2, 5, 6] = 8500 ∧ sweptPeak 10000 [7] = 11500 ∧
    (s.part.hasSurf u = true → cal.run = none → s.onBit CAL_CTL_AUTO 3 = true → bg = false → area = false →
      s.pw.dyke = none → (vget s.wp u).running = none → s.on (SEs_LSAFE_SAFE u) = false → cal.desc = some d →
      s.store.vol.vstate ≠ 0 → s.unitsLeft u band = true → Does (.calWritePower u area bg none) s (fun v =>
        v.onBit CAL_STAT_BUSY u = true ∧ (∃ r, (vget v.cal.surf u).run = some r ∧ r.kind = 3 ∧ r.band = band ∧ r.step = 0 ∧
          r.start = s.now ∧ r.area = false ∧ r.peak0 = (List.range 16).map (s.startPower u d band)) ∧
        (vget v.cal.surf u).testUsed.get band 0 = cal.testUsed.get band 0 + 1 ∧
        Block.regsOnly [CAL_STAT] s.toBlock v.toBlock ∧ v.irq = s.irq)) ∧
    (cal.run = none → s.onBit CAL_CTL_AUTO 3 = false ∨ cal.desc = none →
      exec (.calWritePower u area bg none) s = .next s) ∧
    (runs → exec (.calWritePower u area bg none) s = .next s) ∧
    (runs → c.step = 0 → fails = [] → c.passed = [] → judges (fun v => found v start)) ∧
    (runs → c.step = 0 → fails ≠ [] → unit → judges (fun v => used v ∧ raisedAt v 24 ∧
      (vget v.cal.surf u).run = some { c with step := 1, failing := fails } ∧
      (s.fld CAL_CNT_SWEEPS < 255 → v.fld CAL_CNT_SWEEPS = s.fld CAL_CNT_SWEEPS + 1) ∧
      (s.on (SEs_STAT_LINK_UP u) = true → ∃ mode l, OutMsg.sedge u (.power mode l) ∈ v.out ∧ ∀ k, k < 16 →
        (l.getD k (0, 0, 0)).1 = min (if k ∈ fails then start k * 16 / 20 else start k) (s.fld (SEs_MAXPWR_MAXPWR u))))) ∧
    (runs → c.step ≠ 0 → m < 7 → unit → judges (fun v => used v ∧ v.irq = s.irq ∧ v.regs = s.regs ∧
      (vget v.cal.surf u).run = some { c with step := c.step + 1, passed := passed' })) ∧
    (runs → c.step ≠ 0 → m = 7 → left = [] → judges (fun v => found v (fun k =>
      if (swept passed' k).isEmpty then start k else sweptPeak (start k) (swept passed' k)))) ∧
    (runs → c.step = 8 → left ≠ [] → unit → judges (fun v => used v ∧
      (vget v.cal.surf u).run = some { c with step := 9, failing := left, passed := passed', retries := 1 } ∧
      (s.fld CAL_CNT_SWEEPS < 255 → v.fld CAL_CNT_SWEEPS = s.fld CAL_CNT_SWEEPS + 1))) ∧
    (runs → c.step = 16 → left ≠ [] → judges spent) ∧
    (runs → c.step = 0 → fails ≠ [] → 480 ≤ cal.areaUsed →
      (∀ k ∈ nearBands (if c.area then bandId u 0 0 else c.band), s.unitsLeft u k = false) →
      judges (fun v => spent v ∧ raisedAt v 35))

/-- R477: a deferral that reaches its maximum sets its EXPIRED bit, counts a window and raises 50, once. R478, R479: at a
multiple of a set's rate, with TELEN and its SETEN bit, a record of 64 bytes with its header is added to the instance's ring;
a full ring drops its oldest, and raises 51 where that one was unread. R493: GO starts a transfer unless one is under way or
EN is 0; its end clears BUSY and leaves data, NACK or TMO. R292, R305: crossing the die threshold is async TYPE 13. -/
def Obligations.CalibrationServices : Prop :=
  ∀ (s : State) (e : Fin 7) (set : Fin 5) (inst : Fin 64) (mag draw temp : BitVec 16) (hum : BitVec 8) (v data : Word)
    (tag : Nat) (rest : List Nat) (c : Cmd),
    let expired : Prop := s.fld (CAL_DEFER_e_MAXDEF e) ≤ vget s.cal.defer e ∧ e.val ∉ s.cal.windows
    let rate := match set.val with | 1 => 40000 | 2 => 400000 | 3 => 4000000 | _ => 400000
    let present : Prop := match set.val with
      | 2 => inst.val < 4 ∧ s.part.hasSurf inst = true
      | 3 => s.part.hasBeam inst = true
      | _ => inst.val = 0
    let due : Prop := set.val ≠ 0 ∧ s.now % rate = 0 ∧ present
    let sampled : Prop := s.on CAL_CTL_TELEN = true ∧ s.onBit CAL_TEL_CTL_SETEN (set.val - 1) = true
    let old := s.ring set inst
    let depth := if set.val = 3 then 1024 else 4096
    let le (l : List Byte) (at_ n : Nat) := ((List.range n).map fun k => (l.getD (at_ + k) 0).toNat * 256 ^ k).foldl (· + ·) 0
    let sample : Instr := .telemetrySample set inst mag hum draw
    let body (l : List Byte) : Prop := match set.val with
      | 1 => ∀ u : Fin 4, le l (48 + 2 * u.val) 2 = vget s.store.lostStep u % 2 ^ 16
      | 2 => le l 16 2 = (vget s.wp (Fin.ofNat 4 inst)).band % 2 ^ 16 ∧
          le l 18 1 = (s.failedBeams (Fin.ofNat 4 inst)).length ∧ le l 30 2 = (vget s.cal.surf (Fin.ofNat 4 inst)).lost % 2 ^ 16
      | 3 => le l 16 2 = s.fld (BMnn_Q_MSE_MSE inst) ∧ le l 24 1 = vget s.cal.eye inst % 2 ^ 8 ∧
          le l 25 1 = s.fld (BMnn_ADC_STAT_USED inst)
      | _ => le l 16 2 = s.fld PW_VIN_VIN ∧ le l 18 2 = s.fld PW_VIN_VHOLD ∧ le l 32 2 = mag.toNat ∧ le l 34 1 = hum.toNat ∧
          le l 36 2 = draw.toNat ∧ le l 38 1 = s.fld PW_STAT_RMODE
    let n := s.fld MZ_I2C_CMD_NBYTE + 1
    let ends (r : I2cEnd) (P : State → Prop) : Prop := Does (.i2cTransferDone r) s (fun t => t.fld MZ_I2C_STAT_BUSY = 0 ∧
      Block.regsOnly [MZ_I2C_DATA, MZ_I2C_STAT] s.toBlock t.toBlock ∧ t.irq = s.irq ∧ P t)
    let hot : Prop := s.hq.warnDie < temp.toInt ∧ s.hq.hotDie = false
    let deg := (temp.toInt / 10 % 65536).toNat
    (¬ expired → exec (.deferralExpiry e) s = .next s) ∧
    (expired → Does (.deferralExpiry e) s (fun t => t.raised 50 = true ∧ e.val ∈ t.cal.windows ∧
      Block.regsOnly [CAL_DEFER_STAT, CAL_CNT] s.toBlock t.toBlock ∧
      (∀ k, k < 7 → t.onBit CAL_DEFER_STAT_EXPIRED k = (decide (k = e.val) || s.onBit CAL_DEFER_STAT_EXPIRED k)) ∧
      (s.fld CAL_CNT_WINDOWS < 255 → t.fld CAL_CNT_WINDOWS = s.fld CAL_CNT_WINDOWS + 1))) ∧
    (¬ due → exec sample s = .next s) ∧
    (due → Does sample s (fun t => Block.regsOnly [] s.toBlock t.toBlock) ∧
      (¬ sampled → Does sample s (fun t => t.cal.rings = s.cal.rings ∧ t.irq = s.irq)) ∧
      (sampled → Does sample s (fun t => ∃ l : List Byte, l.length = 64 ∧ le l 0 1 = set.val ∧ le l 1 1 = inst.val ∧
        le l 2 2 = 0 ∧ le l 4 4 = old.seq % 2 ^ 32 ∧ le l 8 8 = s.stamp.toNat ∧ body l ∧ t.ring set inst =
          { old with seq := old.seq + 1, recs := (if depth ≤ old.recs.length then old.recs.drop 1 else old.recs) ++
              [(old.seq, s.stamp.toNat, l)] } ∧
        (depth ≤ old.recs.length → old.unread ≤ old.seq - old.recs.length → t.raised 51 = true) ∧
        (old.recs.length < depth ∨ old.seq - old.recs.length < old.unread → t.irq = s.irq)))) ∧
    (s.on MZ_I2C_STAT_BUSY = true ∨ s.on MZ_I2C_CTL_EN = false → Does (.i2cTransfer v) s (fun t =>
      Block.regsOnly [MZ_I2C_CMD] s.toBlock t.toBlock ∧ t.out = s.out)) ∧
    (s.on MZ_I2C_STAT_BUSY = false → s.on MZ_I2C_CTL_EN = true → Does (.i2cTransfer v) s (fun t =>
      t.fld MZ_I2C_STAT_BUSY = 1 ∧ Block.regsOnly [MZ_I2C_CMD, MZ_I2C_STAT] s.toBlock t.toBlock ∧ t.irq = s.irq ∧
      OutMsg.i2c (v.toNat % 2 ^ 7) (v.toNat / 2 ^ 8 % 2 ^ 8) (v.toNat / 2 ^ 18 % 4 + 1) (v.getLsbD 17) (v.getLsbD 16)
        (s.on MZ_I2C_CTL_FAST) (s.rd MZ_I2C_DATA) ∈ t.out)) ∧
    (s.on MZ_I2C_STAT_BUSY = false → exec (.i2cTransferDone (.done data)) s = .next s ∧
      exec (.i2cTransferDone .nack) s = .next s ∧ exec (.i2cTransferDone .stretch) s = .next s) ∧
    (s.on MZ_I2C_STAT_BUSY = true →
      ends (.done data) (fun t => t.fld MZ_I2C_STAT_NACK = s.fld MZ_I2C_STAT_NACK ∧ ∀ i, i < 32 →
        (t.rd MZ_I2C_DATA).getLsbD i =
          if s.on MZ_I2C_CMD_RD = true ∧ i < 8 * n then data.getLsbD i else (s.rd MZ_I2C_DATA).getLsbD i) ∧
      ends .nack (fun t => t.fld MZ_I2C_STAT_NACK = 1 ∧ t.rd MZ_I2C_DATA = s.rd MZ_I2C_DATA) ∧
      ends .stretch (fun t => t.fld MZ_I2C_STAT_TMO = 1 ∧ t.rd MZ_I2C_DATA = s.rd MZ_I2C_DATA)) ∧
    Does (.dieTemperatureWarning temp) s (fun t => t.hq.dieTemp = temp.toInt ∧ t.regs = s.regs ∧ t.irq = s.irq ∧
      (¬ hot ∨ s.hq.asyncMask.testBit 12 = true → t.hq.events = s.hq.events ∧ t.hq.async = s.hq.async ∧
        t.hq.cmds = s.hq.cmds) ∧
      (hot → s.hq.asyncMask.testBit 12 = false →
        (s.hq.async = tag :: rest → t.hq.async = rest ∧
          (s.cmd tag = some c → t.cmd tag = some { c with fin := some (Finish.of 0 0 (13 + 65536 * deg)) })) ∧
        (s.hq.async = [] → s.hq.events.length < 32 → (∀ x ∈ s.hq.events, x.1 ≠ 13) →
          t.hq.events = s.hq.events ++ [(13, 0, deg)])))
end

