-- ==== Sys2Proof/Laws/SMap.lean ====
section
/-!
SUPPORT. The laws of sparse maps: a read after a write gives the value written, a write leaves every
other key alone, and a write keeps the canonical form.
-/

namespace Sys2Proof.Machine

variable {α : Type}

@[simp] theorem SMap.get_nil (k : Nat) (d : α) : SMap.get ([] : SMap α) k d = d := rfl

theorem SMap.get_erase_same (m : SMap α) (k : Nat) (d : α) : (SMap.erase m k).get k d = d := by
  induction m with
  | nil => rfl
  | cons e t ih =>
    obtain ⟨k', v⟩ := e
    by_cases h : k' = k
    · simpa [SMap.erase, h] using ih
    · simp [SMap.erase, h, SMap.get, ih]

theorem SMap.get_erase_ne (m : SMap α) {k j : Nat} (hj : j ≠ k) (d : α) :
    (SMap.erase m k).get j d = m.get j d := by
  induction m with
  | nil => rfl
  | cons e t ih =>
    obtain ⟨k', v⟩ := e
    by_cases h : k' = k
    · subst h
      simp [SMap.erase, SMap.get, ih, Ne.symm hj]
    · rw [SMap.erase, if_neg h, SMap.get, SMap.get, ih]

theorem SMap.get_insert_ne (m : SMap α) {k j : Nat} (hj : j ≠ k) (v d : α) :
    (SMap.insert m k v).get j d = m.get j d := by
  induction m with
  | nil => simp [SMap.insert, SMap.get, Ne.symm hj]
  | cons e t ih =>
    obtain ⟨k', v'⟩ := e
    by_cases h : k < k'
    · simp [SMap.insert, h, SMap.get, Ne.symm hj]
    · rw [SMap.insert, if_neg h, SMap.get, SMap.get, ih]

theorem SMap.get_insert_erase (m : SMap α) (k : Nat) (v d : α) :
    (SMap.insert (SMap.erase m k) k v).get k d = v := by
  induction m with
  | nil => simp [SMap.erase, SMap.insert, SMap.get]
  | cons e t ih =>
    obtain ⟨k', v'⟩ := e
    by_cases h : k' = k
    · simpa [SMap.erase, h] using ih
    · by_cases h2 : k < k'
      · simp [SMap.erase, h, SMap.insert, h2, SMap.get]
      · simp [SMap.erase, h, SMap.insert, h2, SMap.get, ih]

/-- Read after write. -/
@[simp] theorem SMap.get_set_same [DecidableEq α] (m : SMap α) (k : Nat) (v d : α) :
    (SMap.set m k v d).get k d = v := by
  by_cases h : v = d
  · subst h; simp [SMap.set, SMap.get_erase_same]
  · simp [SMap.set, h, SMap.get_insert_erase]

/-- A write leaves every other key alone. -/
theorem SMap.get_set_ne [DecidableEq α] (m : SMap α) {k j : Nat} (hj : j ≠ k) (v d d' : α) :
    (SMap.set m k v d).get j d' = m.get j d' := by
  by_cases h : v = d
  · simp [SMap.set, h, SMap.get_erase_ne _ hj]
  · simp [SMap.set, h, SMap.get_insert_ne _ hj, SMap.get_erase_ne _ hj]

theorem SMap.risingFrom_mono {lo lo' : Nat} (h : lo ≤ lo') (m : SMap α) :
    SMap.risingFrom lo' m = true → SMap.risingFrom lo m = true := by
  cases m with
  | nil => simp [SMap.risingFrom]
  | cons e t =>
    simp only [SMap.risingFrom, Bool.and_eq_true, decide_eq_true_eq]
    exact fun ⟨h1, h2⟩ => ⟨Nat.le_trans h h1, h2⟩

theorem SMap.rising_erase (m : SMap α) (k lo : Nat) :
    SMap.risingFrom lo m = true → SMap.risingFrom lo (SMap.erase m k) = true := by
  induction m generalizing lo with
  | nil => simp [SMap.erase]
  | cons e t ih =>
    obtain ⟨k', v⟩ := e
    simp only [SMap.risingFrom, Bool.and_eq_true, decide_eq_true_eq]
    rintro ⟨h1, h2⟩
    by_cases h : k' = k
    · simp only [SMap.erase, h, if_true]
      exact ih lo (SMap.risingFrom_mono (by omega) t h2)
    · simp only [SMap.erase, h, if_false, SMap.risingFrom, Bool.and_eq_true, decide_eq_true_eq]
      exact ⟨h1, ih _ h2⟩

/-- An insert of an absent key keeps the keys rising. -/
theorem SMap.rising_insert_erase (m : SMap α) (k lo : Nat) (v : α) (hlo : lo ≤ k) :
    SMap.risingFrom lo m = true →
      SMap.risingFrom lo (SMap.insert (SMap.erase m k) k v) = true := by
  induction m generalizing lo with
  | nil => simp [SMap.erase, SMap.insert, SMap.risingFrom, hlo]
  | cons e t ih =>
    obtain ⟨k', v'⟩ := e
    simp only [SMap.risingFrom, Bool.and_eq_true, decide_eq_true_eq]
    rintro ⟨h1, h2⟩
    by_cases h : k' = k
    · simp only [SMap.erase, h, if_true]
      exact ih lo hlo (SMap.risingFrom_mono (by omega) t h2)
    · by_cases h3 : k < k'
      · simp only [SMap.erase, h, if_false, SMap.insert, h3, if_true, SMap.risingFrom,
          Bool.and_eq_true, decide_eq_true_eq]
        exact ⟨hlo, h3, SMap.rising_erase _ _ _ h2⟩
      · simp only [SMap.erase, h, if_false, SMap.insert, h3, SMap.risingFrom, Bool.and_eq_true,
          decide_eq_true_eq]
        exact ⟨h1, ih _ (by omega) h2⟩

theorem SMap.noDefault_erase [DecidableEq α] (d : Nat → α) (m : SMap α) (k : Nat) :
    SMap.noDefault d m = true → SMap.noDefault d (SMap.erase m k) = true := by
  induction m with
  | nil => simp [SMap.erase]
  | cons e t ih =>
    obtain ⟨k', v⟩ := e
    simp only [SMap.noDefault, List.all_cons, Bool.and_eq_true] at *
    rintro ⟨h1, h2⟩
    by_cases h : k' = k
    · simpa [SMap.erase, h] using ih h2
    · simp only [SMap.erase, h, if_false, List.all_cons, Bool.and_eq_true]
      exact ⟨h1, ih h2⟩

theorem SMap.noDefault_insert [DecidableEq α] (d : Nat → α) (m : SMap α) (k : Nat) (v : α)
    (hv : v ≠ d k) :
    SMap.noDefault d m = true → SMap.noDefault d (SMap.insert m k v) = true := by
  induction m with
  | nil => simp [SMap.insert, SMap.noDefault, hv]
  | cons e t ih =>
    obtain ⟨k', v'⟩ := e
    simp only [SMap.noDefault, List.all_cons, Bool.and_eq_true] at *
    rintro ⟨h1, h2⟩
    by_cases h : k < k'
    · simp only [SMap.insert, h, if_true, List.all_cons, Bool.and_eq_true]
      exact ⟨by simpa using hv, h1, h2⟩
    · simp only [SMap.insert, h, if_false, List.all_cons, Bool.and_eq_true]
      exact ⟨h1, ih h2⟩

/-- A write keeps the canonical form. -/
theorem SMap.wf_set [DecidableEq α] (d : Nat → α) (m : SMap α) (k : Nat) (v : α)
    (h : SMap.wf d m = true) : SMap.wf d (SMap.set m k v (d k)) = true := by
  simp only [SMap.wf, Bool.and_eq_true] at *
  obtain ⟨h1, h2⟩ := h
  by_cases hv : v = d k
  · simp only [SMap.set, hv, if_true]
    exact ⟨SMap.rising_erase _ _ _ h1, SMap.noDefault_erase _ _ _ h2⟩
  · simp only [SMap.set, hv, if_false]
    exact ⟨SMap.rising_insert_erase _ _ _ _ (Nat.zero_le _) h1,
      SMap.noDefault_insert _ _ _ _ hv (SMap.noDefault_erase _ _ _ h2)⟩

end Sys2Proof.Machine
end

