-- ==== Sys2Proof/Laws/State.lean ====
section
/-!
SUPPORT. One lemma per field and per update: what an update of the block leaves unchanged, true by rfl.
-/

namespace Sys2Proof.Machine

/-! ### wr writes `regs` only -/

@[simp] theorem Block.wr_part (b : Block) (o : Nat) (v : Word) : (b.wr o v).part = b.part := rfl
@[simp] theorem Block.wr_tick (b : Block) (o : Nat) (v : Word) : (b.wr o v).tick = b.tick := rfl
@[simp] theorem Block.wr_cyc (b : Block) (o : Nat) (v : Word) : (b.wr o v).cyc = b.cyc := rfl
@[simp] theorem Block.wr_tickHi (b : Block) (o : Nat) (v : Word) : (b.wr o v).tickHi = b.tickHi := rfl
@[simp] theorem Block.wr_tickCyc (b : Block) (o : Nat) (v : Word) : (b.wr o v).tickCyc = b.tickCyc := rfl
@[simp] theorem Block.wr_aper (b : Block) (o : Nat) (v : Word) : (b.wr o v).aper = b.aper := rfl
@[simp] theorem Block.wr_tunCtl (b : Block) (o : Nat) (v : Word) : (b.wr o v).tunCtl = b.tunCtl := rfl
@[simp] theorem Block.wr_tunData (b : Block) (o : Nat) (v : Word) : (b.wr o v).tunData = b.tunData := rfl
@[simp] theorem Block.wr_qsel (b : Block) (o : Nat) (v : Word) : (b.wr o v).qsel = b.qsel := rfl
@[simp] theorem Block.wr_rdata (b : Block) (o : Nat) (v : Word) : (b.wr o v).rdata = b.rdata := rfl
@[simp] theorem Block.wr_fsync (b : Block) (o : Nat) (v : Word) : (b.wr o v).fsync = b.fsync := rfl
@[simp] theorem Block.wr_irq (b : Block) (o : Nat) (v : Word) : (b.wr o v).irq = b.irq := rfl
@[simp] theorem Block.wr_le (b : Block) (o : Nat) (v : Word) : (b.wr o v).le = b.le := rfl
@[simp] theorem Block.wr_servo (b : Block) (o : Nat) (v : Word) : (b.wr o v).servo = b.servo := rfl
@[simp] theorem Block.wr_spin (b : Block) (o : Nat) (v : Word) : (b.wr o v).spin = b.spin := rfl
@[simp] theorem Block.wr_axis (b : Block) (o : Nat) (v : Word) : (b.wr o v).axis = b.axis := rfl
@[simp] theorem Block.wr_wp (b : Block) (o : Nat) (v : Word) : (b.wr o v).wp = b.wp := rfl
@[simp] theorem Block.wr_se (b : Block) (o : Nat) (v : Word) : (b.wr o v).se = b.se := rfl
@[simp] theorem Block.wr_cal (b : Block) (o : Nat) (v : Word) : (b.wr o v).cal = b.cal := rfl
@[simp] theorem Block.wr_rc (b : Block) (o : Nat) (v : Word) : (b.wr o v).rc = b.rc := rfl
@[simp] theorem Block.wr_dram (b : Block) (o : Nat) (v : Word) : (b.wr o v).dram = b.dram := rfl
@[simp] theorem Block.wr_hq (b : Block) (o : Nat) (v : Word) : (b.wr o v).hq = b.hq := rfl
@[simp] theorem Block.wr_store (b : Block) (o : Nat) (v : Word) : (b.wr o v).store = b.store := rfl
@[simp] theorem Block.wr_pt (b : Block) (o : Nat) (v : Word) : (b.wr o v).pt = b.pt := rfl
@[simp] theorem Block.wr_cx (b : Block) (o : Nat) (v : Word) : (b.wr o v).cx = b.cx := rfl
@[simp] theorem Block.wr_ml (b : Block) (o : Nat) (v : Word) : (b.wr o v).ml = b.ml := rfl
@[simp] theorem Block.wr_pw (b : Block) (o : Nat) (v : Word) : (b.wr o v).pw = b.pw := rfl
@[simp] theorem Block.wr_out (b : Block) (o : Nat) (v : Word) : (b.wr o v).out = b.out := rfl
@[simp] theorem Block.wr_free (b : Block) (o : Nat) (v : Word) : (b.wr o v).free = b.free := rfl

/-! ### setFld writes `regs` only -/

@[simp] theorem Block.setFld_part (b : Block) (f : Fld) (n : Nat) : (b.setFld f n).part = b.part := rfl
@[simp] theorem Block.setFld_tick (b : Block) (f : Fld) (n : Nat) : (b.setFld f n).tick = b.tick := rfl
@[simp] theorem Block.setFld_cyc (b : Block) (f : Fld) (n : Nat) : (b.setFld f n).cyc = b.cyc := rfl
@[simp] theorem Block.setFld_tickHi (b : Block) (f : Fld) (n : Nat) : (b.setFld f n).tickHi = b.tickHi := rfl
@[simp] theorem Block.setFld_tickCyc (b : Block) (f : Fld) (n : Nat) : (b.setFld f n).tickCyc = b.tickCyc := rfl
@[simp] theorem Block.setFld_aper (b : Block) (f : Fld) (n : Nat) : (b.setFld f n).aper = b.aper := rfl
@[simp] theorem Block.setFld_tunCtl (b : Block) (f : Fld) (n : Nat) : (b.setFld f n).tunCtl = b.tunCtl := rfl
@[simp] theorem Block.setFld_tunData (b : Block) (f : Fld) (n : Nat) : (b.setFld f n).tunData = b.tunData := rfl
@[simp] theorem Block.setFld_qsel (b : Block) (f : Fld) (n : Nat) : (b.setFld f n).qsel = b.qsel := rfl
@[simp] theorem Block.setFld_rdata (b : Block) (f : Fld) (n : Nat) : (b.setFld f n).rdata = b.rdata := rfl
@[simp] theorem Block.setFld_fsync (b : Block) (f : Fld) (n : Nat) : (b.setFld f n).fsync = b.fsync := rfl
@[simp] theorem Block.setFld_irq (b : Block) (f : Fld) (n : Nat) : (b.setFld f n).irq = b.irq := rfl
@[simp] theorem Block.setFld_le (b : Block) (f : Fld) (n : Nat) : (b.setFld f n).le = b.le := rfl
@[simp] theorem Block.setFld_servo (b : Block) (f : Fld) (n : Nat) : (b.setFld f n).servo = b.servo := rfl
@[simp] theorem Block.setFld_spin (b : Block) (f : Fld) (n : Nat) : (b.setFld f n).spin = b.spin := rfl
@[simp] theorem Block.setFld_axis (b : Block) (f : Fld) (n : Nat) : (b.setFld f n).axis = b.axis := rfl
@[simp] theorem Block.setFld_wp (b : Block) (f : Fld) (n : Nat) : (b.setFld f n).wp = b.wp := rfl
@[simp] theorem Block.setFld_se (b : Block) (f : Fld) (n : Nat) : (b.setFld f n).se = b.se := rfl
@[simp] theorem Block.setFld_cal (b : Block) (f : Fld) (n : Nat) : (b.setFld f n).cal = b.cal := rfl
@[simp] theorem Block.setFld_rc (b : Block) (f : Fld) (n : Nat) : (b.setFld f n).rc = b.rc := rfl
@[simp] theorem Block.setFld_dram (b : Block) (f : Fld) (n : Nat) : (b.setFld f n).dram = b.dram := rfl
@[simp] theorem Block.setFld_hq (b : Block) (f : Fld) (n : Nat) : (b.setFld f n).hq = b.hq := rfl
@[simp] theorem Block.setFld_store (b : Block) (f : Fld) (n : Nat) : (b.setFld f n).store = b.store := rfl
@[simp] theorem Block.setFld_pt (b : Block) (f : Fld) (n : Nat) : (b.setFld f n).pt = b.pt := rfl
@[simp] theorem Block.setFld_cx (b : Block) (f : Fld) (n : Nat) : (b.setFld f n).cx = b.cx := rfl
@[simp] theorem Block.setFld_ml (b : Block) (f : Fld) (n : Nat) : (b.setFld f n).ml = b.ml := rfl
@[simp] theorem Block.setFld_pw (b : Block) (f : Fld) (n : Nat) : (b.setFld f n).pw = b.pw := rfl
@[simp] theorem Block.setFld_out (b : Block) (f : Fld) (n : Nat) : (b.setFld f n).out = b.out := rfl
@[simp] theorem Block.setFld_free (b : Block) (f : Fld) (n : Nat) : (b.setFld f n).free = b.free := rfl

/-! ### setBit writes `regs` only -/

@[simp] theorem Block.setBit_part (b : Block) (f : Fld) (v : Bool) : (b.setBit f v).part = b.part := rfl
@[simp] theorem Block.setBit_tick (b : Block) (f : Fld) (v : Bool) : (b.setBit f v).tick = b.tick := rfl
@[simp] theorem Block.setBit_cyc (b : Block) (f : Fld) (v : Bool) : (b.setBit f v).cyc = b.cyc := rfl
@[simp] theorem Block.setBit_tickHi (b : Block) (f : Fld) (v : Bool) : (b.setBit f v).tickHi = b.tickHi := rfl
@[simp] theorem Block.setBit_tickCyc (b : Block) (f : Fld) (v : Bool) : (b.setBit f v).tickCyc = b.tickCyc := rfl
@[simp] theorem Block.setBit_aper (b : Block) (f : Fld) (v : Bool) : (b.setBit f v).aper = b.aper := rfl
@[simp] theorem Block.setBit_tunCtl (b : Block) (f : Fld) (v : Bool) : (b.setBit f v).tunCtl = b.tunCtl := rfl
@[simp] theorem Block.setBit_tunData (b : Block) (f : Fld) (v : Bool) : (b.setBit f v).tunData = b.tunData := rfl
@[simp] theorem Block.setBit_qsel (b : Block) (f : Fld) (v : Bool) : (b.setBit f v).qsel = b.qsel := rfl
@[simp] theorem Block.setBit_rdata (b : Block) (f : Fld) (v : Bool) : (b.setBit f v).rdata = b.rdata := rfl
@[simp] theorem Block.setBit_fsync (b : Block) (f : Fld) (v : Bool) : (b.setBit f v).fsync = b.fsync := rfl
@[simp] theorem Block.setBit_irq (b : Block) (f : Fld) (v : Bool) : (b.setBit f v).irq = b.irq := rfl
@[simp] theorem Block.setBit_le (b : Block) (f : Fld) (v : Bool) : (b.setBit f v).le = b.le := rfl
@[simp] theorem Block.setBit_servo (b : Block) (f : Fld) (v : Bool) : (b.setBit f v).servo = b.servo := rfl
@[simp] theorem Block.setBit_spin (b : Block) (f : Fld) (v : Bool) : (b.setBit f v).spin = b.spin := rfl
@[simp] theorem Block.setBit_axis (b : Block) (f : Fld) (v : Bool) : (b.setBit f v).axis = b.axis := rfl
@[simp] theorem Block.setBit_wp (b : Block) (f : Fld) (v : Bool) : (b.setBit f v).wp = b.wp := rfl
@[simp] theorem Block.setBit_se (b : Block) (f : Fld) (v : Bool) : (b.setBit f v).se = b.se := rfl
@[simp] theorem Block.setBit_cal (b : Block) (f : Fld) (v : Bool) : (b.setBit f v).cal = b.cal := rfl
@[simp] theorem Block.setBit_rc (b : Block) (f : Fld) (v : Bool) : (b.setBit f v).rc = b.rc := rfl
@[simp] theorem Block.setBit_dram (b : Block) (f : Fld) (v : Bool) : (b.setBit f v).dram = b.dram := rfl
@[simp] theorem Block.setBit_hq (b : Block) (f : Fld) (v : Bool) : (b.setBit f v).hq = b.hq := rfl
@[simp] theorem Block.setBit_store (b : Block) (f : Fld) (v : Bool) : (b.setBit f v).store = b.store := rfl
@[simp] theorem Block.setBit_pt (b : Block) (f : Fld) (v : Bool) : (b.setBit f v).pt = b.pt := rfl
@[simp] theorem Block.setBit_cx (b : Block) (f : Fld) (v : Bool) : (b.setBit f v).cx = b.cx := rfl
@[simp] theorem Block.setBit_ml (b : Block) (f : Fld) (v : Bool) : (b.setBit f v).ml = b.ml := rfl
@[simp] theorem Block.setBit_pw (b : Block) (f : Fld) (v : Bool) : (b.setBit f v).pw = b.pw := rfl
@[simp] theorem Block.setBit_out (b : Block) (f : Fld) (v : Bool) : (b.setBit f v).out = b.out := rfl
@[simp] theorem Block.setBit_free (b : Block) (f : Fld) (v : Bool) : (b.setBit f v).free = b.free := rfl

/-! ### putBit writes `regs` only -/

@[simp] theorem Block.putBit_part (b : Block) (f : Fld) (i : Nat) (v : Bool) : (b.putBit f i v).part = b.part := rfl
@[simp] theorem Block.putBit_tick (b : Block) (f : Fld) (i : Nat) (v : Bool) : (b.putBit f i v).tick = b.tick := rfl
@[simp] theorem Block.putBit_cyc (b : Block) (f : Fld) (i : Nat) (v : Bool) : (b.putBit f i v).cyc = b.cyc := rfl
@[simp] theorem Block.putBit_tickHi (b : Block) (f : Fld) (i : Nat) (v : Bool) : (b.putBit f i v).tickHi = b.tickHi := rfl
@[simp] theorem Block.putBit_tickCyc (b : Block) (f : Fld) (i : Nat) (v : Bool) : (b.putBit f i v).tickCyc = b.tickCyc := rfl
@[simp] theorem Block.putBit_aper (b : Block) (f : Fld) (i : Nat) (v : Bool) : (b.putBit f i v).aper = b.aper := rfl
@[simp] theorem Block.putBit_tunCtl (b : Block) (f : Fld) (i : Nat) (v : Bool) : (b.putBit f i v).tunCtl = b.tunCtl := rfl
@[simp] theorem Block.putBit_tunData (b : Block) (f : Fld) (i : Nat) (v : Bool) : (b.putBit f i v).tunData = b.tunData := rfl
@[simp] theorem Block.putBit_qsel (b : Block) (f : Fld) (i : Nat) (v : Bool) : (b.putBit f i v).qsel = b.qsel := rfl
@[simp] theorem Block.putBit_rdata (b : Block) (f : Fld) (i : Nat) (v : Bool) : (b.putBit f i v).rdata = b.rdata := rfl
@[simp] theorem Block.putBit_fsync (b : Block) (f : Fld) (i : Nat) (v : Bool) : (b.putBit f i v).fsync = b.fsync := rfl
@[simp] theorem Block.putBit_irq (b : Block) (f : Fld) (i : Nat) (v : Bool) : (b.putBit f i v).irq = b.irq := rfl
@[simp] theorem Block.putBit_le (b : Block) (f : Fld) (i : Nat) (v : Bool) : (b.putBit f i v).le = b.le := rfl
@[simp] theorem Block.putBit_servo (b : Block) (f : Fld) (i : Nat) (v : Bool) : (b.putBit f i v).servo = b.servo := rfl
@[simp] theorem Block.putBit_spin (b : Block) (f : Fld) (i : Nat) (v : Bool) : (b.putBit f i v).spin = b.spin := rfl
@[simp] theorem Block.putBit_axis (b : Block) (f : Fld) (i : Nat) (v : Bool) : (b.putBit f i v).axis = b.axis := rfl
@[simp] theorem Block.putBit_wp (b : Block) (f : Fld) (i : Nat) (v : Bool) : (b.putBit f i v).wp = b.wp := rfl
@[simp] theorem Block.putBit_se (b : Block) (f : Fld) (i : Nat) (v : Bool) : (b.putBit f i v).se = b.se := rfl
@[simp] theorem Block.putBit_cal (b : Block) (f : Fld) (i : Nat) (v : Bool) : (b.putBit f i v).cal = b.cal := rfl
@[simp] theorem Block.putBit_rc (b : Block) (f : Fld) (i : Nat) (v : Bool) : (b.putBit f i v).rc = b.rc := rfl
@[simp] theorem Block.putBit_dram (b : Block) (f : Fld) (i : Nat) (v : Bool) : (b.putBit f i v).dram = b.dram := rfl
@[simp] theorem Block.putBit_hq (b : Block) (f : Fld) (i : Nat) (v : Bool) : (b.putBit f i v).hq = b.hq := rfl
@[simp] theorem Block.putBit_store (b : Block) (f : Fld) (i : Nat) (v : Bool) : (b.putBit f i v).store = b.store := rfl
@[simp] theorem Block.putBit_pt (b : Block) (f : Fld) (i : Nat) (v : Bool) : (b.putBit f i v).pt = b.pt := rfl
@[simp] theorem Block.putBit_cx (b : Block) (f : Fld) (i : Nat) (v : Bool) : (b.putBit f i v).cx = b.cx := rfl
@[simp] theorem Block.putBit_ml (b : Block) (f : Fld) (i : Nat) (v : Bool) : (b.putBit f i v).ml = b.ml := rfl
@[simp] theorem Block.putBit_pw (b : Block) (f : Fld) (i : Nat) (v : Bool) : (b.putBit f i v).pw = b.pw := rfl
@[simp] theorem Block.putBit_out (b : Block) (f : Fld) (i : Nat) (v : Bool) : (b.putBit f i v).out = b.out := rfl
@[simp] theorem Block.putBit_free (b : Block) (f : Fld) (i : Nat) (v : Bool) : (b.putBit f i v).free = b.free := rfl

/-! ### bump writes `regs` only -/

@[simp] theorem Block.bump_part (b : Block) (f : Fld) (n : Nat) : (b.bump f n).part = b.part := rfl
@[simp] theorem Block.bump_tick (b : Block) (f : Fld) (n : Nat) : (b.bump f n).tick = b.tick := rfl
@[simp] theorem Block.bump_cyc (b : Block) (f : Fld) (n : Nat) : (b.bump f n).cyc = b.cyc := rfl
@[simp] theorem Block.bump_tickHi (b : Block) (f : Fld) (n : Nat) : (b.bump f n).tickHi = b.tickHi := rfl
@[simp] theorem Block.bump_tickCyc (b : Block) (f : Fld) (n : Nat) : (b.bump f n).tickCyc = b.tickCyc := rfl
@[simp] theorem Block.bump_aper (b : Block) (f : Fld) (n : Nat) : (b.bump f n).aper = b.aper := rfl
@[simp] theorem Block.bump_tunCtl (b : Block) (f : Fld) (n : Nat) : (b.bump f n).tunCtl = b.tunCtl := rfl
@[simp] theorem Block.bump_tunData (b : Block) (f : Fld) (n : Nat) : (b.bump f n).tunData = b.tunData := rfl
@[simp] theorem Block.bump_qsel (b : Block) (f : Fld) (n : Nat) : (b.bump f n).qsel = b.qsel := rfl
@[simp] theorem Block.bump_rdata (b : Block) (f : Fld) (n : Nat) : (b.bump f n).rdata = b.rdata := rfl
@[simp] theorem Block.bump_fsync (b : Block) (f : Fld) (n : Nat) : (b.bump f n).fsync = b.fsync := rfl
@[simp] theorem Block.bump_irq (b : Block) (f : Fld) (n : Nat) : (b.bump f n).irq = b.irq := rfl
@[simp] theorem Block.bump_le (b : Block) (f : Fld) (n : Nat) : (b.bump f n).le = b.le := rfl
@[simp] theorem Block.bump_servo (b : Block) (f : Fld) (n : Nat) : (b.bump f n).servo = b.servo := rfl
@[simp] theorem Block.bump_spin (b : Block) (f : Fld) (n : Nat) : (b.bump f n).spin = b.spin := rfl
@[simp] theorem Block.bump_axis (b : Block) (f : Fld) (n : Nat) : (b.bump f n).axis = b.axis := rfl
@[simp] theorem Block.bump_wp (b : Block) (f : Fld) (n : Nat) : (b.bump f n).wp = b.wp := rfl
@[simp] theorem Block.bump_se (b : Block) (f : Fld) (n : Nat) : (b.bump f n).se = b.se := rfl
@[simp] theorem Block.bump_cal (b : Block) (f : Fld) (n : Nat) : (b.bump f n).cal = b.cal := rfl
@[simp] theorem Block.bump_rc (b : Block) (f : Fld) (n : Nat) : (b.bump f n).rc = b.rc := rfl
@[simp] theorem Block.bump_dram (b : Block) (f : Fld) (n : Nat) : (b.bump f n).dram = b.dram := rfl
@[simp] theorem Block.bump_hq (b : Block) (f : Fld) (n : Nat) : (b.bump f n).hq = b.hq := rfl
@[simp] theorem Block.bump_store (b : Block) (f : Fld) (n : Nat) : (b.bump f n).store = b.store := rfl
@[simp] theorem Block.bump_pt (b : Block) (f : Fld) (n : Nat) : (b.bump f n).pt = b.pt := rfl
@[simp] theorem Block.bump_cx (b : Block) (f : Fld) (n : Nat) : (b.bump f n).cx = b.cx := rfl
@[simp] theorem Block.bump_ml (b : Block) (f : Fld) (n : Nat) : (b.bump f n).ml = b.ml := rfl
@[simp] theorem Block.bump_pw (b : Block) (f : Fld) (n : Nat) : (b.bump f n).pw = b.pw := rfl
@[simp] theorem Block.bump_out (b : Block) (f : Fld) (n : Nat) : (b.bump f n).out = b.out := rfl
@[simp] theorem Block.bump_free (b : Block) (f : Fld) (n : Nat) : (b.bump f n).free = b.free := rfl

/-! ### emit writes `out` only -/

@[simp] theorem Block.emit_part (b : Block) (m : OutMsg) : (b.emit m).part = b.part := rfl
@[simp] theorem Block.emit_regs (b : Block) (m : OutMsg) : (b.emit m).regs = b.regs := rfl
@[simp] theorem Block.emit_tick (b : Block) (m : OutMsg) : (b.emit m).tick = b.tick := rfl
@[simp] theorem Block.emit_cyc (b : Block) (m : OutMsg) : (b.emit m).cyc = b.cyc := rfl
@[simp] theorem Block.emit_tickHi (b : Block) (m : OutMsg) : (b.emit m).tickHi = b.tickHi := rfl
@[simp] theorem Block.emit_tickCyc (b : Block) (m : OutMsg) : (b.emit m).tickCyc = b.tickCyc := rfl
@[simp] theorem Block.emit_aper (b : Block) (m : OutMsg) : (b.emit m).aper = b.aper := rfl
@[simp] theorem Block.emit_tunCtl (b : Block) (m : OutMsg) : (b.emit m).tunCtl = b.tunCtl := rfl
@[simp] theorem Block.emit_tunData (b : Block) (m : OutMsg) : (b.emit m).tunData = b.tunData := rfl
@[simp] theorem Block.emit_qsel (b : Block) (m : OutMsg) : (b.emit m).qsel = b.qsel := rfl
@[simp] theorem Block.emit_rdata (b : Block) (m : OutMsg) : (b.emit m).rdata = b.rdata := rfl
@[simp] theorem Block.emit_fsync (b : Block) (m : OutMsg) : (b.emit m).fsync = b.fsync := rfl
@[simp] theorem Block.emit_irq (b : Block) (m : OutMsg) : (b.emit m).irq = b.irq := rfl
@[simp] theorem Block.emit_le (b : Block) (m : OutMsg) : (b.emit m).le = b.le := rfl
@[simp] theorem Block.emit_servo (b : Block) (m : OutMsg) : (b.emit m).servo = b.servo := rfl
@[simp] theorem Block.emit_spin (b : Block) (m : OutMsg) : (b.emit m).spin = b.spin := rfl
@[simp] theorem Block.emit_axis (b : Block) (m : OutMsg) : (b.emit m).axis = b.axis := rfl
@[simp] theorem Block.emit_wp (b : Block) (m : OutMsg) : (b.emit m).wp = b.wp := rfl
@[simp] theorem Block.emit_se (b : Block) (m : OutMsg) : (b.emit m).se = b.se := rfl
@[simp] theorem Block.emit_cal (b : Block) (m : OutMsg) : (b.emit m).cal = b.cal := rfl
@[simp] theorem Block.emit_rc (b : Block) (m : OutMsg) : (b.emit m).rc = b.rc := rfl
@[simp] theorem Block.emit_dram (b : Block) (m : OutMsg) : (b.emit m).dram = b.dram := rfl
@[simp] theorem Block.emit_hq (b : Block) (m : OutMsg) : (b.emit m).hq = b.hq := rfl
@[simp] theorem Block.emit_store (b : Block) (m : OutMsg) : (b.emit m).store = b.store := rfl
@[simp] theorem Block.emit_pt (b : Block) (m : OutMsg) : (b.emit m).pt = b.pt := rfl
@[simp] theorem Block.emit_cx (b : Block) (m : OutMsg) : (b.emit m).cx = b.cx := rfl
@[simp] theorem Block.emit_ml (b : Block) (m : OutMsg) : (b.emit m).ml = b.ml := rfl
@[simp] theorem Block.emit_pw (b : Block) (m : OutMsg) : (b.emit m).pw = b.pw := rfl
@[simp] theorem Block.emit_free (b : Block) (m : OutMsg) : (b.emit m).free = b.free := rfl

/-! ### modServo writes `servo` only -/

@[simp] theorem Block.modServo_part (b : Block) (s : Fin 4) (f : Servo → Servo) : (b.modServo s f).part = b.part := rfl
@[simp] theorem Block.modServo_regs (b : Block) (s : Fin 4) (f : Servo → Servo) : (b.modServo s f).regs = b.regs := rfl
@[simp] theorem Block.modServo_tick (b : Block) (s : Fin 4) (f : Servo → Servo) : (b.modServo s f).tick = b.tick := rfl
@[simp] theorem Block.modServo_cyc (b : Block) (s : Fin 4) (f : Servo → Servo) : (b.modServo s f).cyc = b.cyc := rfl
@[simp] theorem Block.modServo_tickHi (b : Block) (s : Fin 4) (f : Servo → Servo) : (b.modServo s f).tickHi = b.tickHi := rfl
@[simp] theorem Block.modServo_tickCyc (b : Block) (s : Fin 4) (f : Servo → Servo) : (b.modServo s f).tickCyc = b.tickCyc := rfl
@[simp] theorem Block.modServo_aper (b : Block) (s : Fin 4) (f : Servo → Servo) : (b.modServo s f).aper = b.aper := rfl
@[simp] theorem Block.modServo_tunCtl (b : Block) (s : Fin 4) (f : Servo → Servo) : (b.modServo s f).tunCtl = b.tunCtl := rfl
@[simp] theorem Block.modServo_tunData (b : Block) (s : Fin 4) (f : Servo → Servo) : (b.modServo s f).tunData = b.tunData := rfl
@[simp] theorem Block.modServo_qsel (b : Block) (s : Fin 4) (f : Servo → Servo) : (b.modServo s f).qsel = b.qsel := rfl
@[simp] theorem Block.modServo_rdata (b : Block) (s : Fin 4) (f : Servo → Servo) : (b.modServo s f).rdata = b.rdata := rfl
@[simp] theorem Block.modServo_fsync (b : Block) (s : Fin 4) (f : Servo → Servo) : (b.modServo s f).fsync = b.fsync := rfl
@[simp] theorem Block.modServo_irq (b : Block) (s : Fin 4) (f : Servo → Servo) : (b.modServo s f).irq = b.irq := rfl
@[simp] theorem Block.modServo_le (b : Block) (s : Fin 4) (f : Servo → Servo) : (b.modServo s f).le = b.le := rfl
@[simp] theorem Block.modServo_spin (b : Block) (s : Fin 4) (f : Servo → Servo) : (b.modServo s f).spin = b.spin := rfl
@[simp] theorem Block.modServo_axis (b : Block) (s : Fin 4) (f : Servo → Servo) : (b.modServo s f).axis = b.axis := rfl
@[simp] theorem Block.modServo_wp (b : Block) (s : Fin 4) (f : Servo → Servo) : (b.modServo s f).wp = b.wp := rfl
@[simp] theorem Block.modServo_se (b : Block) (s : Fin 4) (f : Servo → Servo) : (b.modServo s f).se = b.se := rfl
@[simp] theorem Block.modServo_cal (b : Block) (s : Fin 4) (f : Servo → Servo) : (b.modServo s f).cal = b.cal := rfl
@[simp] theorem Block.modServo_rc (b : Block) (s : Fin 4) (f : Servo → Servo) : (b.modServo s f).rc = b.rc := rfl
@[simp] theorem Block.modServo_dram (b : Block) (s : Fin 4) (f : Servo → Servo) : (b.modServo s f).dram = b.dram := rfl
@[simp] theorem Block.modServo_hq (b : Block) (s : Fin 4) (f : Servo → Servo) : (b.modServo s f).hq = b.hq := rfl
@[simp] theorem Block.modServo_store (b : Block) (s : Fin 4) (f : Servo → Servo) : (b.modServo s f).store = b.store := rfl
@[simp] theorem Block.modServo_pt (b : Block) (s : Fin 4) (f : Servo → Servo) : (b.modServo s f).pt = b.pt := rfl
@[simp] theorem Block.modServo_cx (b : Block) (s : Fin 4) (f : Servo → Servo) : (b.modServo s f).cx = b.cx := rfl
@[simp] theorem Block.modServo_ml (b : Block) (s : Fin 4) (f : Servo → Servo) : (b.modServo s f).ml = b.ml := rfl
@[simp] theorem Block.modServo_pw (b : Block) (s : Fin 4) (f : Servo → Servo) : (b.modServo s f).pw = b.pw := rfl
@[simp] theorem Block.modServo_out (b : Block) (s : Fin 4) (f : Servo → Servo) : (b.modServo s f).out = b.out := rfl
@[simp] theorem Block.modServo_free (b : Block) (s : Fin 4) (f : Servo → Servo) : (b.modServo s f).free = b.free := rfl

/-! ### modSpin writes `spin` only -/

@[simp] theorem Block.modSpin_part (b : Block) (n : Fin 2) (f : Spin → Spin) : (b.modSpin n f).part = b.part := rfl
@[simp] theorem Block.modSpin_regs (b : Block) (n : Fin 2) (f : Spin → Spin) : (b.modSpin n f).regs = b.regs := rfl
@[simp] theorem Block.modSpin_tick (b : Block) (n : Fin 2) (f : Spin → Spin) : (b.modSpin n f).tick = b.tick := rfl
@[simp] theorem Block.modSpin_cyc (b : Block) (n : Fin 2) (f : Spin → Spin) : (b.modSpin n f).cyc = b.cyc := rfl
@[simp] theorem Block.modSpin_tickHi (b : Block) (n : Fin 2) (f : Spin → Spin) : (b.modSpin n f).tickHi = b.tickHi := rfl
@[simp] theorem Block.modSpin_tickCyc (b : Block) (n : Fin 2) (f : Spin → Spin) : (b.modSpin n f).tickCyc = b.tickCyc := rfl
@[simp] theorem Block.modSpin_aper (b : Block) (n : Fin 2) (f : Spin → Spin) : (b.modSpin n f).aper = b.aper := rfl
@[simp] theorem Block.modSpin_tunCtl (b : Block) (n : Fin 2) (f : Spin → Spin) : (b.modSpin n f).tunCtl = b.tunCtl := rfl
@[simp] theorem Block.modSpin_tunData (b : Block) (n : Fin 2) (f : Spin → Spin) : (b.modSpin n f).tunData = b.tunData := rfl
@[simp] theorem Block.modSpin_qsel (b : Block) (n : Fin 2) (f : Spin → Spin) : (b.modSpin n f).qsel = b.qsel := rfl
@[simp] theorem Block.modSpin_rdata (b : Block) (n : Fin 2) (f : Spin → Spin) : (b.modSpin n f).rdata = b.rdata := rfl
@[simp] theorem Block.modSpin_fsync (b : Block) (n : Fin 2) (f : Spin → Spin) : (b.modSpin n f).fsync = b.fsync := rfl
@[simp] theorem Block.modSpin_irq (b : Block) (n : Fin 2) (f : Spin → Spin) : (b.modSpin n f).irq = b.irq := rfl
@[simp] theorem Block.modSpin_le (b : Block) (n : Fin 2) (f : Spin → Spin) : (b.modSpin n f).le = b.le := rfl
@[simp] theorem Block.modSpin_servo (b : Block) (n : Fin 2) (f : Spin → Spin) : (b.modSpin n f).servo = b.servo := rfl
@[simp] theorem Block.modSpin_axis (b : Block) (n : Fin 2) (f : Spin → Spin) : (b.modSpin n f).axis = b.axis := rfl
@[simp] theorem Block.modSpin_wp (b : Block) (n : Fin 2) (f : Spin → Spin) : (b.modSpin n f).wp = b.wp := rfl
@[simp] theorem Block.modSpin_se (b : Block) (n : Fin 2) (f : Spin → Spin) : (b.modSpin n f).se = b.se := rfl
@[simp] theorem Block.modSpin_cal (b : Block) (n : Fin 2) (f : Spin → Spin) : (b.modSpin n f).cal = b.cal := rfl
@[simp] theorem Block.modSpin_rc (b : Block) (n : Fin 2) (f : Spin → Spin) : (b.modSpin n f).rc = b.rc := rfl
@[simp] theorem Block.modSpin_dram (b : Block) (n : Fin 2) (f : Spin → Spin) : (b.modSpin n f).dram = b.dram := rfl
@[simp] theorem Block.modSpin_hq (b : Block) (n : Fin 2) (f : Spin → Spin) : (b.modSpin n f).hq = b.hq := rfl
@[simp] theorem Block.modSpin_store (b : Block) (n : Fin 2) (f : Spin → Spin) : (b.modSpin n f).store = b.store := rfl
@[simp] theorem Block.modSpin_pt (b : Block) (n : Fin 2) (f : Spin → Spin) : (b.modSpin n f).pt = b.pt := rfl
@[simp] theorem Block.modSpin_cx (b : Block) (n : Fin 2) (f : Spin → Spin) : (b.modSpin n f).cx = b.cx := rfl
@[simp] theorem Block.modSpin_ml (b : Block) (n : Fin 2) (f : Spin → Spin) : (b.modSpin n f).ml = b.ml := rfl
@[simp] theorem Block.modSpin_pw (b : Block) (n : Fin 2) (f : Spin → Spin) : (b.modSpin n f).pw = b.pw := rfl
@[simp] theorem Block.modSpin_out (b : Block) (n : Fin 2) (f : Spin → Spin) : (b.modSpin n f).out = b.out := rfl
@[simp] theorem Block.modSpin_free (b : Block) (n : Fin 2) (f : Spin → Spin) : (b.modSpin n f).free = b.free := rfl

/-! ### modAxis writes `axis` only -/

@[simp] theorem Block.modAxis_part (b : Block) (a : Fin 9) (f : Axis → Axis) : (b.modAxis a f).part = b.part := rfl
@[simp] theorem Block.modAxis_regs (b : Block) (a : Fin 9) (f : Axis → Axis) : (b.modAxis a f).regs = b.regs := rfl
@[simp] theorem Block.modAxis_tick (b : Block) (a : Fin 9) (f : Axis → Axis) : (b.modAxis a f).tick = b.tick := rfl
@[simp] theorem Block.modAxis_cyc (b : Block) (a : Fin 9) (f : Axis → Axis) : (b.modAxis a f).cyc = b.cyc := rfl
@[simp] theorem Block.modAxis_tickHi (b : Block) (a : Fin 9) (f : Axis → Axis) : (b.modAxis a f).tickHi = b.tickHi := rfl
@[simp] theorem Block.modAxis_tickCyc (b : Block) (a : Fin 9) (f : Axis → Axis) : (b.modAxis a f).tickCyc = b.tickCyc := rfl
@[simp] theorem Block.modAxis_aper (b : Block) (a : Fin 9) (f : Axis → Axis) : (b.modAxis a f).aper = b.aper := rfl
@[simp] theorem Block.modAxis_tunCtl (b : Block) (a : Fin 9) (f : Axis → Axis) : (b.modAxis a f).tunCtl = b.tunCtl := rfl
@[simp] theorem Block.modAxis_tunData (b : Block) (a : Fin 9) (f : Axis → Axis) : (b.modAxis a f).tunData = b.tunData := rfl
@[simp] theorem Block.modAxis_qsel (b : Block) (a : Fin 9) (f : Axis → Axis) : (b.modAxis a f).qsel = b.qsel := rfl
@[simp] theorem Block.modAxis_rdata (b : Block) (a : Fin 9) (f : Axis → Axis) : (b.modAxis a f).rdata = b.rdata := rfl
@[simp] theorem Block.modAxis_fsync (b : Block) (a : Fin 9) (f : Axis → Axis) : (b.modAxis a f).fsync = b.fsync := rfl
@[simp] theorem Block.modAxis_irq (b : Block) (a : Fin 9) (f : Axis → Axis) : (b.modAxis a f).irq = b.irq := rfl
@[simp] theorem Block.modAxis_le (b : Block) (a : Fin 9) (f : Axis → Axis) : (b.modAxis a f).le = b.le := rfl
@[simp] theorem Block.modAxis_servo (b : Block) (a : Fin 9) (f : Axis → Axis) : (b.modAxis a f).servo = b.servo := rfl
@[simp] theorem Block.modAxis_spin (b : Block) (a : Fin 9) (f : Axis → Axis) : (b.modAxis a f).spin = b.spin := rfl
@[simp] theorem Block.modAxis_wp (b : Block) (a : Fin 9) (f : Axis → Axis) : (b.modAxis a f).wp = b.wp := rfl
@[simp] theorem Block.modAxis_se (b : Block) (a : Fin 9) (f : Axis → Axis) : (b.modAxis a f).se = b.se := rfl
@[simp] theorem Block.modAxis_cal (b : Block) (a : Fin 9) (f : Axis → Axis) : (b.modAxis a f).cal = b.cal := rfl
@[simp] theorem Block.modAxis_rc (b : Block) (a : Fin 9) (f : Axis → Axis) : (b.modAxis a f).rc = b.rc := rfl
@[simp] theorem Block.modAxis_dram (b : Block) (a : Fin 9) (f : Axis → Axis) : (b.modAxis a f).dram = b.dram := rfl
@[simp] theorem Block.modAxis_hq (b : Block) (a : Fin 9) (f : Axis → Axis) : (b.modAxis a f).hq = b.hq := rfl
@[simp] theorem Block.modAxis_store (b : Block) (a : Fin 9) (f : Axis → Axis) : (b.modAxis a f).store = b.store := rfl
@[simp] theorem Block.modAxis_pt (b : Block) (a : Fin 9) (f : Axis → Axis) : (b.modAxis a f).pt = b.pt := rfl
@[simp] theorem Block.modAxis_cx (b : Block) (a : Fin 9) (f : Axis → Axis) : (b.modAxis a f).cx = b.cx := rfl
@[simp] theorem Block.modAxis_ml (b : Block) (a : Fin 9) (f : Axis → Axis) : (b.modAxis a f).ml = b.ml := rfl
@[simp] theorem Block.modAxis_pw (b : Block) (a : Fin 9) (f : Axis → Axis) : (b.modAxis a f).pw = b.pw := rfl
@[simp] theorem Block.modAxis_out (b : Block) (a : Fin 9) (f : Axis → Axis) : (b.modAxis a f).out = b.out := rfl
@[simp] theorem Block.modAxis_free (b : Block) (a : Fin 9) (f : Axis → Axis) : (b.modAxis a f).free = b.free := rfl

/-! ### modWp writes `wp` only -/

@[simp] theorem Block.modWp_part (b : Block) (s : Fin 4) (f : Wp → Wp) : (b.modWp s f).part = b.part := rfl
@[simp] theorem Block.modWp_regs (b : Block) (s : Fin 4) (f : Wp → Wp) : (b.modWp s f).regs = b.regs := rfl
@[simp] theorem Block.modWp_tick (b : Block) (s : Fin 4) (f : Wp → Wp) : (b.modWp s f).tick = b.tick := rfl
@[simp] theorem Block.modWp_cyc (b : Block) (s : Fin 4) (f : Wp → Wp) : (b.modWp s f).cyc = b.cyc := rfl
@[simp] theorem Block.modWp_tickHi (b : Block) (s : Fin 4) (f : Wp → Wp) : (b.modWp s f).tickHi = b.tickHi := rfl
@[simp] theorem Block.modWp_tickCyc (b : Block) (s : Fin 4) (f : Wp → Wp) : (b.modWp s f).tickCyc = b.tickCyc := rfl
@[simp] theorem Block.modWp_aper (b : Block) (s : Fin 4) (f : Wp → Wp) : (b.modWp s f).aper = b.aper := rfl
@[simp] theorem Block.modWp_tunCtl (b : Block) (s : Fin 4) (f : Wp → Wp) : (b.modWp s f).tunCtl = b.tunCtl := rfl
@[simp] theorem Block.modWp_tunData (b : Block) (s : Fin 4) (f : Wp → Wp) : (b.modWp s f).tunData = b.tunData := rfl
@[simp] theorem Block.modWp_qsel (b : Block) (s : Fin 4) (f : Wp → Wp) : (b.modWp s f).qsel = b.qsel := rfl
@[simp] theorem Block.modWp_rdata (b : Block) (s : Fin 4) (f : Wp → Wp) : (b.modWp s f).rdata = b.rdata := rfl
@[simp] theorem Block.modWp_fsync (b : Block) (s : Fin 4) (f : Wp → Wp) : (b.modWp s f).fsync = b.fsync := rfl
@[simp] theorem Block.modWp_irq (b : Block) (s : Fin 4) (f : Wp → Wp) : (b.modWp s f).irq = b.irq := rfl
@[simp] theorem Block.modWp_le (b : Block) (s : Fin 4) (f : Wp → Wp) : (b.modWp s f).le = b.le := rfl
@[simp] theorem Block.modWp_servo (b : Block) (s : Fin 4) (f : Wp → Wp) : (b.modWp s f).servo = b.servo := rfl
@[simp] theorem Block.modWp_spin (b : Block) (s : Fin 4) (f : Wp → Wp) : (b.modWp s f).spin = b.spin := rfl
@[simp] theorem Block.modWp_axis (b : Block) (s : Fin 4) (f : Wp → Wp) : (b.modWp s f).axis = b.axis := rfl
@[simp] theorem Block.modWp_se (b : Block) (s : Fin 4) (f : Wp → Wp) : (b.modWp s f).se = b.se := rfl
@[simp] theorem Block.modWp_cal (b : Block) (s : Fin 4) (f : Wp → Wp) : (b.modWp s f).cal = b.cal := rfl
@[simp] theorem Block.modWp_rc (b : Block) (s : Fin 4) (f : Wp → Wp) : (b.modWp s f).rc = b.rc := rfl
@[simp] theorem Block.modWp_dram (b : Block) (s : Fin 4) (f : Wp → Wp) : (b.modWp s f).dram = b.dram := rfl
@[simp] theorem Block.modWp_hq (b : Block) (s : Fin 4) (f : Wp → Wp) : (b.modWp s f).hq = b.hq := rfl
@[simp] theorem Block.modWp_store (b : Block) (s : Fin 4) (f : Wp → Wp) : (b.modWp s f).store = b.store := rfl
@[simp] theorem Block.modWp_pt (b : Block) (s : Fin 4) (f : Wp → Wp) : (b.modWp s f).pt = b.pt := rfl
@[simp] theorem Block.modWp_cx (b : Block) (s : Fin 4) (f : Wp → Wp) : (b.modWp s f).cx = b.cx := rfl
@[simp] theorem Block.modWp_ml (b : Block) (s : Fin 4) (f : Wp → Wp) : (b.modWp s f).ml = b.ml := rfl
@[simp] theorem Block.modWp_pw (b : Block) (s : Fin 4) (f : Wp → Wp) : (b.modWp s f).pw = b.pw := rfl
@[simp] theorem Block.modWp_out (b : Block) (s : Fin 4) (f : Wp → Wp) : (b.modWp s f).out = b.out := rfl
@[simp] theorem Block.modWp_free (b : Block) (s : Fin 4) (f : Wp → Wp) : (b.modWp s f).free = b.free := rfl

/-! ### modSe writes `se` only -/

@[simp] theorem Block.modSe_part (b : Block) (s : Fin 4) (f : Se → Se) : (b.modSe s f).part = b.part := rfl
@[simp] theorem Block.modSe_regs (b : Block) (s : Fin 4) (f : Se → Se) : (b.modSe s f).regs = b.regs := rfl
@[simp] theorem Block.modSe_tick (b : Block) (s : Fin 4) (f : Se → Se) : (b.modSe s f).tick = b.tick := rfl
@[simp] theorem Block.modSe_cyc (b : Block) (s : Fin 4) (f : Se → Se) : (b.modSe s f).cyc = b.cyc := rfl
@[simp] theorem Block.modSe_tickHi (b : Block) (s : Fin 4) (f : Se → Se) : (b.modSe s f).tickHi = b.tickHi := rfl
@[simp] theorem Block.modSe_tickCyc (b : Block) (s : Fin 4) (f : Se → Se) : (b.modSe s f).tickCyc = b.tickCyc := rfl
@[simp] theorem Block.modSe_aper (b : Block) (s : Fin 4) (f : Se → Se) : (b.modSe s f).aper = b.aper := rfl
@[simp] theorem Block.modSe_tunCtl (b : Block) (s : Fin 4) (f : Se → Se) : (b.modSe s f).tunCtl = b.tunCtl := rfl
@[simp] theorem Block.modSe_tunData (b : Block) (s : Fin 4) (f : Se → Se) : (b.modSe s f).tunData = b.tunData := rfl
@[simp] theorem Block.modSe_qsel (b : Block) (s : Fin 4) (f : Se → Se) : (b.modSe s f).qsel = b.qsel := rfl
@[simp] theorem Block.modSe_rdata (b : Block) (s : Fin 4) (f : Se → Se) : (b.modSe s f).rdata = b.rdata := rfl
@[simp] theorem Block.modSe_fsync (b : Block) (s : Fin 4) (f : Se → Se) : (b.modSe s f).fsync = b.fsync := rfl
@[simp] theorem Block.modSe_irq (b : Block) (s : Fin 4) (f : Se → Se) : (b.modSe s f).irq = b.irq := rfl
@[simp] theorem Block.modSe_le (b : Block) (s : Fin 4) (f : Se → Se) : (b.modSe s f).le = b.le := rfl
@[simp] theorem Block.modSe_servo (b : Block) (s : Fin 4) (f : Se → Se) : (b.modSe s f).servo = b.servo := rfl
@[simp] theorem Block.modSe_spin (b : Block) (s : Fin 4) (f : Se → Se) : (b.modSe s f).spin = b.spin := rfl
@[simp] theorem Block.modSe_axis (b : Block) (s : Fin 4) (f : Se → Se) : (b.modSe s f).axis = b.axis := rfl
@[simp] theorem Block.modSe_wp (b : Block) (s : Fin 4) (f : Se → Se) : (b.modSe s f).wp = b.wp := rfl
@[simp] theorem Block.modSe_cal (b : Block) (s : Fin 4) (f : Se → Se) : (b.modSe s f).cal = b.cal := rfl
@[simp] theorem Block.modSe_rc (b : Block) (s : Fin 4) (f : Se → Se) : (b.modSe s f).rc = b.rc := rfl
@[simp] theorem Block.modSe_dram (b : Block) (s : Fin 4) (f : Se → Se) : (b.modSe s f).dram = b.dram := rfl
@[simp] theorem Block.modSe_hq (b : Block) (s : Fin 4) (f : Se → Se) : (b.modSe s f).hq = b.hq := rfl
@[simp] theorem Block.modSe_store (b : Block) (s : Fin 4) (f : Se → Se) : (b.modSe s f).store = b.store := rfl
@[simp] theorem Block.modSe_pt (b : Block) (s : Fin 4) (f : Se → Se) : (b.modSe s f).pt = b.pt := rfl
@[simp] theorem Block.modSe_cx (b : Block) (s : Fin 4) (f : Se → Se) : (b.modSe s f).cx = b.cx := rfl
@[simp] theorem Block.modSe_ml (b : Block) (s : Fin 4) (f : Se → Se) : (b.modSe s f).ml = b.ml := rfl
@[simp] theorem Block.modSe_pw (b : Block) (s : Fin 4) (f : Se → Se) : (b.modSe s f).pw = b.pw := rfl
@[simp] theorem Block.modSe_out (b : Block) (s : Fin 4) (f : Se → Se) : (b.modSe s f).out = b.out := rfl
@[simp] theorem Block.modSe_free (b : Block) (s : Fin 4) (f : Se → Se) : (b.modSe s f).free = b.free := rfl

/-! ### modLe writes `le` only -/

@[simp] theorem Block.modLe_part (b : Block) (f : Loop → Loop) : (b.modLe f).part = b.part := rfl
@[simp] theorem Block.modLe_regs (b : Block) (f : Loop → Loop) : (b.modLe f).regs = b.regs := rfl
@[simp] theorem Block.modLe_tick (b : Block) (f : Loop → Loop) : (b.modLe f).tick = b.tick := rfl
@[simp] theorem Block.modLe_cyc (b : Block) (f : Loop → Loop) : (b.modLe f).cyc = b.cyc := rfl
@[simp] theorem Block.modLe_tickHi (b : Block) (f : Loop → Loop) : (b.modLe f).tickHi = b.tickHi := rfl
@[simp] theorem Block.modLe_tickCyc (b : Block) (f : Loop → Loop) : (b.modLe f).tickCyc = b.tickCyc := rfl
@[simp] theorem Block.modLe_aper (b : Block) (f : Loop → Loop) : (b.modLe f).aper = b.aper := rfl
@[simp] theorem Block.modLe_tunCtl (b : Block) (f : Loop → Loop) : (b.modLe f).tunCtl = b.tunCtl := rfl
@[simp] theorem Block.modLe_tunData (b : Block) (f : Loop → Loop) : (b.modLe f).tunData = b.tunData := rfl
@[simp] theorem Block.modLe_qsel (b : Block) (f : Loop → Loop) : (b.modLe f).qsel = b.qsel := rfl
@[simp] theorem Block.modLe_rdata (b : Block) (f : Loop → Loop) : (b.modLe f).rdata = b.rdata := rfl
@[simp] theorem Block.modLe_fsync (b : Block) (f : Loop → Loop) : (b.modLe f).fsync = b.fsync := rfl
@[simp] theorem Block.modLe_irq (b : Block) (f : Loop → Loop) : (b.modLe f).irq = b.irq := rfl
@[simp] theorem Block.modLe_servo (b : Block) (f : Loop → Loop) : (b.modLe f).servo = b.servo := rfl
@[simp] theorem Block.modLe_spin (b : Block) (f : Loop → Loop) : (b.modLe f).spin = b.spin := rfl
@[simp] theorem Block.modLe_axis (b : Block) (f : Loop → Loop) : (b.modLe f).axis = b.axis := rfl
@[simp] theorem Block.modLe_wp (b : Block) (f : Loop → Loop) : (b.modLe f).wp = b.wp := rfl
@[simp] theorem Block.modLe_se (b : Block) (f : Loop → Loop) : (b.modLe f).se = b.se := rfl
@[simp] theorem Block.modLe_cal (b : Block) (f : Loop → Loop) : (b.modLe f).cal = b.cal := rfl
@[simp] theorem Block.modLe_rc (b : Block) (f : Loop → Loop) : (b.modLe f).rc = b.rc := rfl
@[simp] theorem Block.modLe_dram (b : Block) (f : Loop → Loop) : (b.modLe f).dram = b.dram := rfl
@[simp] theorem Block.modLe_hq (b : Block) (f : Loop → Loop) : (b.modLe f).hq = b.hq := rfl
@[simp] theorem Block.modLe_store (b : Block) (f : Loop → Loop) : (b.modLe f).store = b.store := rfl
@[simp] theorem Block.modLe_pt (b : Block) (f : Loop → Loop) : (b.modLe f).pt = b.pt := rfl
@[simp] theorem Block.modLe_cx (b : Block) (f : Loop → Loop) : (b.modLe f).cx = b.cx := rfl
@[simp] theorem Block.modLe_ml (b : Block) (f : Loop → Loop) : (b.modLe f).ml = b.ml := rfl
@[simp] theorem Block.modLe_pw (b : Block) (f : Loop → Loop) : (b.modLe f).pw = b.pw := rfl
@[simp] theorem Block.modLe_out (b : Block) (f : Loop → Loop) : (b.modLe f).out = b.out := rfl
@[simp] theorem Block.modLe_free (b : Block) (f : Loop → Loop) : (b.modLe f).free = b.free := rfl

/-! ### modVec writes `irq` only -/

@[simp] theorem Block.modVec_part (b : Block) (v : Nat) (f : Moder → Moder) : (b.modVec v f).part = b.part := rfl
@[simp] theorem Block.modVec_regs (b : Block) (v : Nat) (f : Moder → Moder) : (b.modVec v f).regs = b.regs := rfl
@[simp] theorem Block.modVec_tick (b : Block) (v : Nat) (f : Moder → Moder) : (b.modVec v f).tick = b.tick := rfl
@[simp] theorem Block.modVec_cyc (b : Block) (v : Nat) (f : Moder → Moder) : (b.modVec v f).cyc = b.cyc := rfl
@[simp] theorem Block.modVec_tickHi (b : Block) (v : Nat) (f : Moder → Moder) : (b.modVec v f).tickHi = b.tickHi := rfl
@[simp] theorem Block.modVec_tickCyc (b : Block) (v : Nat) (f : Moder → Moder) : (b.modVec v f).tickCyc = b.tickCyc := rfl
@[simp] theorem Block.modVec_aper (b : Block) (v : Nat) (f : Moder → Moder) : (b.modVec v f).aper = b.aper := rfl
@[simp] theorem Block.modVec_tunCtl (b : Block) (v : Nat) (f : Moder → Moder) : (b.modVec v f).tunCtl = b.tunCtl := rfl
@[simp] theorem Block.modVec_tunData (b : Block) (v : Nat) (f : Moder → Moder) : (b.modVec v f).tunData = b.tunData := rfl
@[simp] theorem Block.modVec_qsel (b : Block) (v : Nat) (f : Moder → Moder) : (b.modVec v f).qsel = b.qsel := rfl
@[simp] theorem Block.modVec_rdata (b : Block) (v : Nat) (f : Moder → Moder) : (b.modVec v f).rdata = b.rdata := rfl
@[simp] theorem Block.modVec_fsync (b : Block) (v : Nat) (f : Moder → Moder) : (b.modVec v f).fsync = b.fsync := rfl
@[simp] theorem Block.modVec_le (b : Block) (v : Nat) (f : Moder → Moder) : (b.modVec v f).le = b.le := rfl
@[simp] theorem Block.modVec_servo (b : Block) (v : Nat) (f : Moder → Moder) : (b.modVec v f).servo = b.servo := rfl
@[simp] theorem Block.modVec_spin (b : Block) (v : Nat) (f : Moder → Moder) : (b.modVec v f).spin = b.spin := rfl
@[simp] theorem Block.modVec_axis (b : Block) (v : Nat) (f : Moder → Moder) : (b.modVec v f).axis = b.axis := rfl
@[simp] theorem Block.modVec_wp (b : Block) (v : Nat) (f : Moder → Moder) : (b.modVec v f).wp = b.wp := rfl
@[simp] theorem Block.modVec_se (b : Block) (v : Nat) (f : Moder → Moder) : (b.modVec v f).se = b.se := rfl
@[simp] theorem Block.modVec_cal (b : Block) (v : Nat) (f : Moder → Moder) : (b.modVec v f).cal = b.cal := rfl
@[simp] theorem Block.modVec_rc (b : Block) (v : Nat) (f : Moder → Moder) : (b.modVec v f).rc = b.rc := rfl
@[simp] theorem Block.modVec_dram (b : Block) (v : Nat) (f : Moder → Moder) : (b.modVec v f).dram = b.dram := rfl
@[simp] theorem Block.modVec_hq (b : Block) (v : Nat) (f : Moder → Moder) : (b.modVec v f).hq = b.hq := rfl
@[simp] theorem Block.modVec_store (b : Block) (v : Nat) (f : Moder → Moder) : (b.modVec v f).store = b.store := rfl
@[simp] theorem Block.modVec_pt (b : Block) (v : Nat) (f : Moder → Moder) : (b.modVec v f).pt = b.pt := rfl
@[simp] theorem Block.modVec_cx (b : Block) (v : Nat) (f : Moder → Moder) : (b.modVec v f).cx = b.cx := rfl
@[simp] theorem Block.modVec_ml (b : Block) (v : Nat) (f : Moder → Moder) : (b.modVec v f).ml = b.ml := rfl
@[simp] theorem Block.modVec_pw (b : Block) (v : Nat) (f : Moder → Moder) : (b.modVec v f).pw = b.pw := rfl
@[simp] theorem Block.modVec_out (b : Block) (v : Nat) (f : Moder → Moder) : (b.modVec v f).out = b.out := rfl
@[simp] theorem Block.modVec_free (b : Block) (v : Nat) (f : Moder → Moder) : (b.modVec v f).free = b.free := rfl

/-! ### modCore writes `irq` only -/

@[simp] theorem Block.modCore_part (b : Block) (c : Nat) (f : Moder → Moder) : (b.modCore c f).part = b.part := rfl
@[simp] theorem Block.modCore_regs (b : Block) (c : Nat) (f : Moder → Moder) : (b.modCore c f).regs = b.regs := rfl
@[simp] theorem Block.modCore_tick (b : Block) (c : Nat) (f : Moder → Moder) : (b.modCore c f).tick = b.tick := rfl
@[simp] theorem Block.modCore_cyc (b : Block) (c : Nat) (f : Moder → Moder) : (b.modCore c f).cyc = b.cyc := rfl
@[simp] theorem Block.modCore_tickHi (b : Block) (c : Nat) (f : Moder → Moder) : (b.modCore c f).tickHi = b.tickHi := rfl
@[simp] theorem Block.modCore_tickCyc (b : Block) (c : Nat) (f : Moder → Moder) : (b.modCore c f).tickCyc = b.tickCyc := rfl
@[simp] theorem Block.modCore_aper (b : Block) (c : Nat) (f : Moder → Moder) : (b.modCore c f).aper = b.aper := rfl
@[simp] theorem Block.modCore_tunCtl (b : Block) (c : Nat) (f : Moder → Moder) : (b.modCore c f).tunCtl = b.tunCtl := rfl
@[simp] theorem Block.modCore_tunData (b : Block) (c : Nat) (f : Moder → Moder) : (b.modCore c f).tunData = b.tunData := rfl
@[simp] theorem Block.modCore_qsel (b : Block) (c : Nat) (f : Moder → Moder) : (b.modCore c f).qsel = b.qsel := rfl
@[simp] theorem Block.modCore_rdata (b : Block) (c : Nat) (f : Moder → Moder) : (b.modCore c f).rdata = b.rdata := rfl
@[simp] theorem Block.modCore_fsync (b : Block) (c : Nat) (f : Moder → Moder) : (b.modCore c f).fsync = b.fsync := rfl
@[simp] theorem Block.modCore_le (b : Block) (c : Nat) (f : Moder → Moder) : (b.modCore c f).le = b.le := rfl
@[simp] theorem Block.modCore_servo (b : Block) (c : Nat) (f : Moder → Moder) : (b.modCore c f).servo = b.servo := rfl
@[simp] theorem Block.modCore_spin (b : Block) (c : Nat) (f : Moder → Moder) : (b.modCore c f).spin = b.spin := rfl
@[simp] theorem Block.modCore_axis (b : Block) (c : Nat) (f : Moder → Moder) : (b.modCore c f).axis = b.axis := rfl
@[simp] theorem Block.modCore_wp (b : Block) (c : Nat) (f : Moder → Moder) : (b.modCore c f).wp = b.wp := rfl
@[simp] theorem Block.modCore_se (b : Block) (c : Nat) (f : Moder → Moder) : (b.modCore c f).se = b.se := rfl
@[simp] theorem Block.modCore_cal (b : Block) (c : Nat) (f : Moder → Moder) : (b.modCore c f).cal = b.cal := rfl
@[simp] theorem Block.modCore_rc (b : Block) (c : Nat) (f : Moder → Moder) : (b.modCore c f).rc = b.rc := rfl
@[simp] theorem Block.modCore_dram (b : Block) (c : Nat) (f : Moder → Moder) : (b.modCore c f).dram = b.dram := rfl
@[simp] theorem Block.modCore_hq (b : Block) (c : Nat) (f : Moder → Moder) : (b.modCore c f).hq = b.hq := rfl
@[simp] theorem Block.modCore_store (b : Block) (c : Nat) (f : Moder → Moder) : (b.modCore c f).store = b.store := rfl
@[simp] theorem Block.modCore_pt (b : Block) (c : Nat) (f : Moder → Moder) : (b.modCore c f).pt = b.pt := rfl
@[simp] theorem Block.modCore_cx (b : Block) (c : Nat) (f : Moder → Moder) : (b.modCore c f).cx = b.cx := rfl
@[simp] theorem Block.modCore_ml (b : Block) (c : Nat) (f : Moder → Moder) : (b.modCore c f).ml = b.ml := rfl
@[simp] theorem Block.modCore_pw (b : Block) (c : Nat) (f : Moder → Moder) : (b.modCore c f).pw = b.pw := rfl
@[simp] theorem Block.modCore_out (b : Block) (c : Nat) (f : Moder → Moder) : (b.modCore c f).out = b.out := rfl
@[simp] theorem Block.modCore_free (b : Block) (c : Nat) (f : Moder → Moder) : (b.modCore c f).free = b.free := rfl

/-! ### modCal writes `cal` only -/

@[simp] theorem Block.modCal_part (b : Block) (f : Cal → Cal) : (b.modCal f).part = b.part := rfl
@[simp] theorem Block.modCal_regs (b : Block) (f : Cal → Cal) : (b.modCal f).regs = b.regs := rfl
@[simp] theorem Block.modCal_tick (b : Block) (f : Cal → Cal) : (b.modCal f).tick = b.tick := rfl
@[simp] theorem Block.modCal_cyc (b : Block) (f : Cal → Cal) : (b.modCal f).cyc = b.cyc := rfl
@[simp] theorem Block.modCal_tickHi (b : Block) (f : Cal → Cal) : (b.modCal f).tickHi = b.tickHi := rfl
@[simp] theorem Block.modCal_tickCyc (b : Block) (f : Cal → Cal) : (b.modCal f).tickCyc = b.tickCyc := rfl
@[simp] theorem Block.modCal_aper (b : Block) (f : Cal → Cal) : (b.modCal f).aper = b.aper := rfl
@[simp] theorem Block.modCal_tunCtl (b : Block) (f : Cal → Cal) : (b.modCal f).tunCtl = b.tunCtl := rfl
@[simp] theorem Block.modCal_tunData (b : Block) (f : Cal → Cal) : (b.modCal f).tunData = b.tunData := rfl
@[simp] theorem Block.modCal_qsel (b : Block) (f : Cal → Cal) : (b.modCal f).qsel = b.qsel := rfl
@[simp] theorem Block.modCal_rdata (b : Block) (f : Cal → Cal) : (b.modCal f).rdata = b.rdata := rfl
@[simp] theorem Block.modCal_fsync (b : Block) (f : Cal → Cal) : (b.modCal f).fsync = b.fsync := rfl
@[simp] theorem Block.modCal_irq (b : Block) (f : Cal → Cal) : (b.modCal f).irq = b.irq := rfl
@[simp] theorem Block.modCal_le (b : Block) (f : Cal → Cal) : (b.modCal f).le = b.le := rfl
@[simp] theorem Block.modCal_servo (b : Block) (f : Cal → Cal) : (b.modCal f).servo = b.servo := rfl
@[simp] theorem Block.modCal_spin (b : Block) (f : Cal → Cal) : (b.modCal f).spin = b.spin := rfl
@[simp] theorem Block.modCal_axis (b : Block) (f : Cal → Cal) : (b.modCal f).axis = b.axis := rfl
@[simp] theorem Block.modCal_wp (b : Block) (f : Cal → Cal) : (b.modCal f).wp = b.wp := rfl
@[simp] theorem Block.modCal_se (b : Block) (f : Cal → Cal) : (b.modCal f).se = b.se := rfl
@[simp] theorem Block.modCal_rc (b : Block) (f : Cal → Cal) : (b.modCal f).rc = b.rc := rfl
@[simp] theorem Block.modCal_dram (b : Block) (f : Cal → Cal) : (b.modCal f).dram = b.dram := rfl
@[simp] theorem Block.modCal_hq (b : Block) (f : Cal → Cal) : (b.modCal f).hq = b.hq := rfl
@[simp] theorem Block.modCal_store (b : Block) (f : Cal → Cal) : (b.modCal f).store = b.store := rfl
@[simp] theorem Block.modCal_pt (b : Block) (f : Cal → Cal) : (b.modCal f).pt = b.pt := rfl
@[simp] theorem Block.modCal_cx (b : Block) (f : Cal → Cal) : (b.modCal f).cx = b.cx := rfl
@[simp] theorem Block.modCal_ml (b : Block) (f : Cal → Cal) : (b.modCal f).ml = b.ml := rfl
@[simp] theorem Block.modCal_pw (b : Block) (f : Cal → Cal) : (b.modCal f).pw = b.pw := rfl
@[simp] theorem Block.modCal_out (b : Block) (f : Cal → Cal) : (b.modCal f).out = b.out := rfl
@[simp] theorem Block.modCal_free (b : Block) (f : Cal → Cal) : (b.modCal f).free = b.free := rfl

/-! ### modDram writes `dram` only -/

@[simp] theorem Block.modDram_part (b : Block) (f : Dram → Dram) : (b.modDram f).part = b.part := rfl
@[simp] theorem Block.modDram_regs (b : Block) (f : Dram → Dram) : (b.modDram f).regs = b.regs := rfl
@[simp] theorem Block.modDram_tick (b : Block) (f : Dram → Dram) : (b.modDram f).tick = b.tick := rfl
@[simp] theorem Block.modDram_cyc (b : Block) (f : Dram → Dram) : (b.modDram f).cyc = b.cyc := rfl
@[simp] theorem Block.modDram_tickHi (b : Block) (f : Dram → Dram) : (b.modDram f).tickHi = b.tickHi := rfl
@[simp] theorem Block.modDram_tickCyc (b : Block) (f : Dram → Dram) : (b.modDram f).tickCyc = b.tickCyc := rfl
@[simp] theorem Block.modDram_aper (b : Block) (f : Dram → Dram) : (b.modDram f).aper = b.aper := rfl
@[simp] theorem Block.modDram_tunCtl (b : Block) (f : Dram → Dram) : (b.modDram f).tunCtl = b.tunCtl := rfl
@[simp] theorem Block.modDram_tunData (b : Block) (f : Dram → Dram) : (b.modDram f).tunData = b.tunData := rfl
@[simp] theorem Block.modDram_qsel (b : Block) (f : Dram → Dram) : (b.modDram f).qsel = b.qsel := rfl
@[simp] theorem Block.modDram_rdata (b : Block) (f : Dram → Dram) : (b.modDram f).rdata = b.rdata := rfl
@[simp] theorem Block.modDram_fsync (b : Block) (f : Dram → Dram) : (b.modDram f).fsync = b.fsync := rfl
@[simp] theorem Block.modDram_irq (b : Block) (f : Dram → Dram) : (b.modDram f).irq = b.irq := rfl
@[simp] theorem Block.modDram_le (b : Block) (f : Dram → Dram) : (b.modDram f).le = b.le := rfl
@[simp] theorem Block.modDram_servo (b : Block) (f : Dram → Dram) : (b.modDram f).servo = b.servo := rfl
@[simp] theorem Block.modDram_spin (b : Block) (f : Dram → Dram) : (b.modDram f).spin = b.spin := rfl
@[simp] theorem Block.modDram_axis (b : Block) (f : Dram → Dram) : (b.modDram f).axis = b.axis := rfl
@[simp] theorem Block.modDram_wp (b : Block) (f : Dram → Dram) : (b.modDram f).wp = b.wp := rfl
@[simp] theorem Block.modDram_se (b : Block) (f : Dram → Dram) : (b.modDram f).se = b.se := rfl
@[simp] theorem Block.modDram_cal (b : Block) (f : Dram → Dram) : (b.modDram f).cal = b.cal := rfl
@[simp] theorem Block.modDram_rc (b : Block) (f : Dram → Dram) : (b.modDram f).rc = b.rc := rfl
@[simp] theorem Block.modDram_hq (b : Block) (f : Dram → Dram) : (b.modDram f).hq = b.hq := rfl
@[simp] theorem Block.modDram_store (b : Block) (f : Dram → Dram) : (b.modDram f).store = b.store := rfl
@[simp] theorem Block.modDram_pt (b : Block) (f : Dram → Dram) : (b.modDram f).pt = b.pt := rfl
@[simp] theorem Block.modDram_cx (b : Block) (f : Dram → Dram) : (b.modDram f).cx = b.cx := rfl
@[simp] theorem Block.modDram_ml (b : Block) (f : Dram → Dram) : (b.modDram f).ml = b.ml := rfl
@[simp] theorem Block.modDram_pw (b : Block) (f : Dram → Dram) : (b.modDram f).pw = b.pw := rfl
@[simp] theorem Block.modDram_out (b : Block) (f : Dram → Dram) : (b.modDram f).out = b.out := rfl
@[simp] theorem Block.modDram_free (b : Block) (f : Dram → Dram) : (b.modDram f).free = b.free := rfl

/-! ### modHq writes `hq` only -/

@[simp] theorem Block.modHq_part (b : Block) (f : Hq → Hq) : (b.modHq f).part = b.part := rfl
@[simp] theorem Block.modHq_regs (b : Block) (f : Hq → Hq) : (b.modHq f).regs = b.regs := rfl
@[simp] theorem Block.modHq_tick (b : Block) (f : Hq → Hq) : (b.modHq f).tick = b.tick := rfl
@[simp] theorem Block.modHq_cyc (b : Block) (f : Hq → Hq) : (b.modHq f).cyc = b.cyc := rfl
@[simp] theorem Block.modHq_tickHi (b : Block) (f : Hq → Hq) : (b.modHq f).tickHi = b.tickHi := rfl
@[simp] theorem Block.modHq_tickCyc (b : Block) (f : Hq → Hq) : (b.modHq f).tickCyc = b.tickCyc := rfl
@[simp] theorem Block.modHq_aper (b : Block) (f : Hq → Hq) : (b.modHq f).aper = b.aper := rfl
@[simp] theorem Block.modHq_tunCtl (b : Block) (f : Hq → Hq) : (b.modHq f).tunCtl = b.tunCtl := rfl
@[simp] theorem Block.modHq_tunData (b : Block) (f : Hq → Hq) : (b.modHq f).tunData = b.tunData := rfl
@[simp] theorem Block.modHq_qsel (b : Block) (f : Hq → Hq) : (b.modHq f).qsel = b.qsel := rfl
@[simp] theorem Block.modHq_rdata (b : Block) (f : Hq → Hq) : (b.modHq f).rdata = b.rdata := rfl
@[simp] theorem Block.modHq_fsync (b : Block) (f : Hq → Hq) : (b.modHq f).fsync = b.fsync := rfl
@[simp] theorem Block.modHq_irq (b : Block) (f : Hq → Hq) : (b.modHq f).irq = b.irq := rfl
@[simp] theorem Block.modHq_le (b : Block) (f : Hq → Hq) : (b.modHq f).le = b.le := rfl
@[simp] theorem Block.modHq_servo (b : Block) (f : Hq → Hq) : (b.modHq f).servo = b.servo := rfl
@[simp] theorem Block.modHq_spin (b : Block) (f : Hq → Hq) : (b.modHq f).spin = b.spin := rfl
@[simp] theorem Block.modHq_axis (b : Block) (f : Hq → Hq) : (b.modHq f).axis = b.axis := rfl
@[simp] theorem Block.modHq_wp (b : Block) (f : Hq → Hq) : (b.modHq f).wp = b.wp := rfl
@[simp] theorem Block.modHq_se (b : Block) (f : Hq → Hq) : (b.modHq f).se = b.se := rfl
@[simp] theorem Block.modHq_cal (b : Block) (f : Hq → Hq) : (b.modHq f).cal = b.cal := rfl
@[simp] theorem Block.modHq_rc (b : Block) (f : Hq → Hq) : (b.modHq f).rc = b.rc := rfl
@[simp] theorem Block.modHq_dram (b : Block) (f : Hq → Hq) : (b.modHq f).dram = b.dram := rfl
@[simp] theorem Block.modHq_store (b : Block) (f : Hq → Hq) : (b.modHq f).store = b.store := rfl
@[simp] theorem Block.modHq_pt (b : Block) (f : Hq → Hq) : (b.modHq f).pt = b.pt := rfl
@[simp] theorem Block.modHq_cx (b : Block) (f : Hq → Hq) : (b.modHq f).cx = b.cx := rfl
@[simp] theorem Block.modHq_ml (b : Block) (f : Hq → Hq) : (b.modHq f).ml = b.ml := rfl
@[simp] theorem Block.modHq_pw (b : Block) (f : Hq → Hq) : (b.modHq f).pw = b.pw := rfl
@[simp] theorem Block.modHq_out (b : Block) (f : Hq → Hq) : (b.modHq f).out = b.out := rfl
@[simp] theorem Block.modHq_free (b : Block) (f : Hq → Hq) : (b.modHq f).free = b.free := rfl

/-! ### modStore writes `store` only -/

@[simp] theorem Block.modStore_part (b : Block) (f : Store → Store) : (b.modStore f).part = b.part := rfl
@[simp] theorem Block.modStore_regs (b : Block) (f : Store → Store) : (b.modStore f).regs = b.regs := rfl
@[simp] theorem Block.modStore_tick (b : Block) (f : Store → Store) : (b.modStore f).tick = b.tick := rfl
@[simp] theorem Block.modStore_cyc (b : Block) (f : Store → Store) : (b.modStore f).cyc = b.cyc := rfl
@[simp] theorem Block.modStore_tickHi (b : Block) (f : Store → Store) : (b.modStore f).tickHi = b.tickHi := rfl
@[simp] theorem Block.modStore_tickCyc (b : Block) (f : Store → Store) : (b.modStore f).tickCyc = b.tickCyc := rfl
@[simp] theorem Block.modStore_aper (b : Block) (f : Store → Store) : (b.modStore f).aper = b.aper := rfl
@[simp] theorem Block.modStore_tunCtl (b : Block) (f : Store → Store) : (b.modStore f).tunCtl = b.tunCtl := rfl
@[simp] theorem Block.modStore_tunData (b : Block) (f : Store → Store) : (b.modStore f).tunData = b.tunData := rfl
@[simp] theorem Block.modStore_qsel (b : Block) (f : Store → Store) : (b.modStore f).qsel = b.qsel := rfl
@[simp] theorem Block.modStore_rdata (b : Block) (f : Store → Store) : (b.modStore f).rdata = b.rdata := rfl
@[simp] theorem Block.modStore_fsync (b : Block) (f : Store → Store) : (b.modStore f).fsync = b.fsync := rfl
@[simp] theorem Block.modStore_irq (b : Block) (f : Store → Store) : (b.modStore f).irq = b.irq := rfl
@[simp] theorem Block.modStore_le (b : Block) (f : Store → Store) : (b.modStore f).le = b.le := rfl
@[simp] theorem Block.modStore_servo (b : Block) (f : Store → Store) : (b.modStore f).servo = b.servo := rfl
@[simp] theorem Block.modStore_spin (b : Block) (f : Store → Store) : (b.modStore f).spin = b.spin := rfl
@[simp] theorem Block.modStore_axis (b : Block) (f : Store → Store) : (b.modStore f).axis = b.axis := rfl
@[simp] theorem Block.modStore_wp (b : Block) (f : Store → Store) : (b.modStore f).wp = b.wp := rfl
@[simp] theorem Block.modStore_se (b : Block) (f : Store → Store) : (b.modStore f).se = b.se := rfl
@[simp] theorem Block.modStore_cal (b : Block) (f : Store → Store) : (b.modStore f).cal = b.cal := rfl
@[simp] theorem Block.modStore_rc (b : Block) (f : Store → Store) : (b.modStore f).rc = b.rc := rfl
@[simp] theorem Block.modStore_dram (b : Block) (f : Store → Store) : (b.modStore f).dram = b.dram := rfl
@[simp] theorem Block.modStore_hq (b : Block) (f : Store → Store) : (b.modStore f).hq = b.hq := rfl
@[simp] theorem Block.modStore_pt (b : Block) (f : Store → Store) : (b.modStore f).pt = b.pt := rfl
@[simp] theorem Block.modStore_cx (b : Block) (f : Store → Store) : (b.modStore f).cx = b.cx := rfl
@[simp] theorem Block.modStore_ml (b : Block) (f : Store → Store) : (b.modStore f).ml = b.ml := rfl
@[simp] theorem Block.modStore_pw (b : Block) (f : Store → Store) : (b.modStore f).pw = b.pw := rfl
@[simp] theorem Block.modStore_out (b : Block) (f : Store → Store) : (b.modStore f).out = b.out := rfl
@[simp] theorem Block.modStore_free (b : Block) (f : Store → Store) : (b.modStore f).free = b.free := rfl

/-! ### modMl writes `ml` only -/

@[simp] theorem Block.modMl_part (b : Block) (f : Ml → Ml) : (b.modMl f).part = b.part := rfl
@[simp] theorem Block.modMl_regs (b : Block) (f : Ml → Ml) : (b.modMl f).regs = b.regs := rfl
@[simp] theorem Block.modMl_tick (b : Block) (f : Ml → Ml) : (b.modMl f).tick = b.tick := rfl
@[simp] theorem Block.modMl_cyc (b : Block) (f : Ml → Ml) : (b.modMl f).cyc = b.cyc := rfl
@[simp] theorem Block.modMl_tickHi (b : Block) (f : Ml → Ml) : (b.modMl f).tickHi = b.tickHi := rfl
@[simp] theorem Block.modMl_tickCyc (b : Block) (f : Ml → Ml) : (b.modMl f).tickCyc = b.tickCyc := rfl
@[simp] theorem Block.modMl_aper (b : Block) (f : Ml → Ml) : (b.modMl f).aper = b.aper := rfl
@[simp] theorem Block.modMl_tunCtl (b : Block) (f : Ml → Ml) : (b.modMl f).tunCtl = b.tunCtl := rfl
@[simp] theorem Block.modMl_tunData (b : Block) (f : Ml → Ml) : (b.modMl f).tunData = b.tunData := rfl
@[simp] theorem Block.modMl_qsel (b : Block) (f : Ml → Ml) : (b.modMl f).qsel = b.qsel := rfl
@[simp] theorem Block.modMl_rdata (b : Block) (f : Ml → Ml) : (b.modMl f).rdata = b.rdata := rfl
@[simp] theorem Block.modMl_fsync (b : Block) (f : Ml → Ml) : (b.modMl f).fsync = b.fsync := rfl
@[simp] theorem Block.modMl_irq (b : Block) (f : Ml → Ml) : (b.modMl f).irq = b.irq := rfl
@[simp] theorem Block.modMl_le (b : Block) (f : Ml → Ml) : (b.modMl f).le = b.le := rfl
@[simp] theorem Block.modMl_servo (b : Block) (f : Ml → Ml) : (b.modMl f).servo = b.servo := rfl
@[simp] theorem Block.modMl_spin (b : Block) (f : Ml → Ml) : (b.modMl f).spin = b.spin := rfl
@[simp] theorem Block.modMl_axis (b : Block) (f : Ml → Ml) : (b.modMl f).axis = b.axis := rfl
@[simp] theorem Block.modMl_wp (b : Block) (f : Ml → Ml) : (b.modMl f).wp = b.wp := rfl
@[simp] theorem Block.modMl_se (b : Block) (f : Ml → Ml) : (b.modMl f).se = b.se := rfl
@[simp] theorem Block.modMl_cal (b : Block) (f : Ml → Ml) : (b.modMl f).cal = b.cal := rfl
@[simp] theorem Block.modMl_rc (b : Block) (f : Ml → Ml) : (b.modMl f).rc = b.rc := rfl
@[simp] theorem Block.modMl_dram (b : Block) (f : Ml → Ml) : (b.modMl f).dram = b.dram := rfl
@[simp] theorem Block.modMl_hq (b : Block) (f : Ml → Ml) : (b.modMl f).hq = b.hq := rfl
@[simp] theorem Block.modMl_store (b : Block) (f : Ml → Ml) : (b.modMl f).store = b.store := rfl
@[simp] theorem Block.modMl_pt (b : Block) (f : Ml → Ml) : (b.modMl f).pt = b.pt := rfl
@[simp] theorem Block.modMl_cx (b : Block) (f : Ml → Ml) : (b.modMl f).cx = b.cx := rfl
@[simp] theorem Block.modMl_pw (b : Block) (f : Ml → Ml) : (b.modMl f).pw = b.pw := rfl
@[simp] theorem Block.modMl_out (b : Block) (f : Ml → Ml) : (b.modMl f).out = b.out := rfl
@[simp] theorem Block.modMl_free (b : Block) (f : Ml → Ml) : (b.modMl f).free = b.free := rfl

/-! ### modPw writes `pw` only -/

@[simp] theorem Block.modPw_part (b : Block) (f : Pwr → Pwr) : (b.modPw f).part = b.part := rfl
@[simp] theorem Block.modPw_regs (b : Block) (f : Pwr → Pwr) : (b.modPw f).regs = b.regs := rfl
@[simp] theorem Block.modPw_tick (b : Block) (f : Pwr → Pwr) : (b.modPw f).tick = b.tick := rfl
@[simp] theorem Block.modPw_cyc (b : Block) (f : Pwr → Pwr) : (b.modPw f).cyc = b.cyc := rfl
@[simp] theorem Block.modPw_tickHi (b : Block) (f : Pwr → Pwr) : (b.modPw f).tickHi = b.tickHi := rfl
@[simp] theorem Block.modPw_tickCyc (b : Block) (f : Pwr → Pwr) : (b.modPw f).tickCyc = b.tickCyc := rfl
@[simp] theorem Block.modPw_aper (b : Block) (f : Pwr → Pwr) : (b.modPw f).aper = b.aper := rfl
@[simp] theorem Block.modPw_tunCtl (b : Block) (f : Pwr → Pwr) : (b.modPw f).tunCtl = b.tunCtl := rfl
@[simp] theorem Block.modPw_tunData (b : Block) (f : Pwr → Pwr) : (b.modPw f).tunData = b.tunData := rfl
@[simp] theorem Block.modPw_qsel (b : Block) (f : Pwr → Pwr) : (b.modPw f).qsel = b.qsel := rfl
@[simp] theorem Block.modPw_rdata (b : Block) (f : Pwr → Pwr) : (b.modPw f).rdata = b.rdata := rfl
@[simp] theorem Block.modPw_fsync (b : Block) (f : Pwr → Pwr) : (b.modPw f).fsync = b.fsync := rfl
@[simp] theorem Block.modPw_irq (b : Block) (f : Pwr → Pwr) : (b.modPw f).irq = b.irq := rfl
@[simp] theorem Block.modPw_le (b : Block) (f : Pwr → Pwr) : (b.modPw f).le = b.le := rfl
@[simp] theorem Block.modPw_servo (b : Block) (f : Pwr → Pwr) : (b.modPw f).servo = b.servo := rfl
@[simp] theorem Block.modPw_spin (b : Block) (f : Pwr → Pwr) : (b.modPw f).spin = b.spin := rfl
@[simp] theorem Block.modPw_axis (b : Block) (f : Pwr → Pwr) : (b.modPw f).axis = b.axis := rfl
@[simp] theorem Block.modPw_wp (b : Block) (f : Pwr → Pwr) : (b.modPw f).wp = b.wp := rfl
@[simp] theorem Block.modPw_se (b : Block) (f : Pwr → Pwr) : (b.modPw f).se = b.se := rfl
@[simp] theorem Block.modPw_cal (b : Block) (f : Pwr → Pwr) : (b.modPw f).cal = b.cal := rfl
@[simp] theorem Block.modPw_rc (b : Block) (f : Pwr → Pwr) : (b.modPw f).rc = b.rc := rfl
@[simp] theorem Block.modPw_dram (b : Block) (f : Pwr → Pwr) : (b.modPw f).dram = b.dram := rfl
@[simp] theorem Block.modPw_hq (b : Block) (f : Pwr → Pwr) : (b.modPw f).hq = b.hq := rfl
@[simp] theorem Block.modPw_store (b : Block) (f : Pwr → Pwr) : (b.modPw f).store = b.store := rfl
@[simp] theorem Block.modPw_pt (b : Block) (f : Pwr → Pwr) : (b.modPw f).pt = b.pt := rfl
@[simp] theorem Block.modPw_cx (b : Block) (f : Pwr → Pwr) : (b.modPw f).cx = b.cx := rfl
@[simp] theorem Block.modPw_ml (b : Block) (f : Pwr → Pwr) : (b.modPw f).ml = b.ml := rfl
@[simp] theorem Block.modPw_out (b : Block) (f : Pwr → Pwr) : (b.modPw f).out = b.out := rfl
@[simp] theorem Block.modPw_free (b : Block) (f : Pwr → Pwr) : (b.modPw f).free = b.free := rfl

/-! ### postClose writes `le` only -/

@[simp] theorem Block.postClose_part (b : Block) (n : Nat) : (b.postClose n).part = b.part := rfl
@[simp] theorem Block.postClose_regs (b : Block) (n : Nat) : (b.postClose n).regs = b.regs := rfl
@[simp] theorem Block.postClose_tick (b : Block) (n : Nat) : (b.postClose n).tick = b.tick := rfl
@[simp] theorem Block.postClose_cyc (b : Block) (n : Nat) : (b.postClose n).cyc = b.cyc := rfl
@[simp] theorem Block.postClose_tickHi (b : Block) (n : Nat) : (b.postClose n).tickHi = b.tickHi := rfl
@[simp] theorem Block.postClose_tickCyc (b : Block) (n : Nat) : (b.postClose n).tickCyc = b.tickCyc := rfl
@[simp] theorem Block.postClose_aper (b : Block) (n : Nat) : (b.postClose n).aper = b.aper := rfl
@[simp] theorem Block.postClose_tunCtl (b : Block) (n : Nat) : (b.postClose n).tunCtl = b.tunCtl := rfl
@[simp] theorem Block.postClose_tunData (b : Block) (n : Nat) : (b.postClose n).tunData = b.tunData := rfl
@[simp] theorem Block.postClose_qsel (b : Block) (n : Nat) : (b.postClose n).qsel = b.qsel := rfl
@[simp] theorem Block.postClose_rdata (b : Block) (n : Nat) : (b.postClose n).rdata = b.rdata := rfl
@[simp] theorem Block.postClose_fsync (b : Block) (n : Nat) : (b.postClose n).fsync = b.fsync := rfl
@[simp] theorem Block.postClose_irq (b : Block) (n : Nat) : (b.postClose n).irq = b.irq := rfl
@[simp] theorem Block.postClose_servo (b : Block) (n : Nat) : (b.postClose n).servo = b.servo := rfl
@[simp] theorem Block.postClose_spin (b : Block) (n : Nat) : (b.postClose n).spin = b.spin := rfl
@[simp] theorem Block.postClose_axis (b : Block) (n : Nat) : (b.postClose n).axis = b.axis := rfl
@[simp] theorem Block.postClose_wp (b : Block) (n : Nat) : (b.postClose n).wp = b.wp := rfl
@[simp] theorem Block.postClose_se (b : Block) (n : Nat) : (b.postClose n).se = b.se := rfl
@[simp] theorem Block.postClose_cal (b : Block) (n : Nat) : (b.postClose n).cal = b.cal := rfl
@[simp] theorem Block.postClose_rc (b : Block) (n : Nat) : (b.postClose n).rc = b.rc := rfl
@[simp] theorem Block.postClose_dram (b : Block) (n : Nat) : (b.postClose n).dram = b.dram := rfl
@[simp] theorem Block.postClose_hq (b : Block) (n : Nat) : (b.postClose n).hq = b.hq := rfl
@[simp] theorem Block.postClose_store (b : Block) (n : Nat) : (b.postClose n).store = b.store := rfl
@[simp] theorem Block.postClose_pt (b : Block) (n : Nat) : (b.postClose n).pt = b.pt := rfl
@[simp] theorem Block.postClose_cx (b : Block) (n : Nat) : (b.postClose n).cx = b.cx := rfl
@[simp] theorem Block.postClose_ml (b : Block) (n : Nat) : (b.postClose n).ml = b.ml := rfl
@[simp] theorem Block.postClose_pw (b : Block) (n : Nat) : (b.postClose n).pw = b.pw := rfl
@[simp] theorem Block.postClose_out (b : Block) (n : Nat) : (b.postClose n).out = b.out := rfl
@[simp] theorem Block.postClose_free (b : Block) (n : Nat) : (b.postClose n).free = b.free := rfl

/-! ### Registers read through the other updates -/

@[simp] theorem Block.emit_rd (b : Block) (m : OutMsg) (o_ : Nat) : (b.emit m).rd o_ = b.rd o_ := rfl
@[simp] theorem Block.emit_fld (b : Block) (m : OutMsg) (g : Fld) : (b.emit m).fld g = b.fld g := rfl
@[simp] theorem Block.emit_on (b : Block) (m : OutMsg) (g : Fld) : (b.emit m).on g = b.on g := rfl
@[simp] theorem Block.modServo_rd (b : Block) (s : Fin 4) (f : Servo → Servo) (o_ : Nat) : (b.modServo s f).rd o_ = b.rd o_ := rfl
@[simp] theorem Block.modServo_fld (b : Block) (s : Fin 4) (f : Servo → Servo) (g : Fld) : (b.modServo s f).fld g = b.fld g := rfl
@[simp] theorem Block.modServo_on (b : Block) (s : Fin 4) (f : Servo → Servo) (g : Fld) : (b.modServo s f).on g = b.on g := rfl
@[simp] theorem Block.modSpin_rd (b : Block) (n : Fin 2) (f : Spin → Spin) (o_ : Nat) : (b.modSpin n f).rd o_ = b.rd o_ := rfl
@[simp] theorem Block.modSpin_fld (b : Block) (n : Fin 2) (f : Spin → Spin) (g : Fld) : (b.modSpin n f).fld g = b.fld g := rfl
@[simp] theorem Block.modSpin_on (b : Block) (n : Fin 2) (f : Spin → Spin) (g : Fld) : (b.modSpin n f).on g = b.on g := rfl
@[simp] theorem Block.modAxis_rd (b : Block) (a : Fin 9) (f : Axis → Axis) (o_ : Nat) : (b.modAxis a f).rd o_ = b.rd o_ := rfl
@[simp] theorem Block.modAxis_fld (b : Block) (a : Fin 9) (f : Axis → Axis) (g : Fld) : (b.modAxis a f).fld g = b.fld g := rfl
@[simp] theorem Block.modAxis_on (b : Block) (a : Fin 9) (f : Axis → Axis) (g : Fld) : (b.modAxis a f).on g = b.on g := rfl
@[simp] theorem Block.modWp_rd (b : Block) (s : Fin 4) (f : Wp → Wp) (o_ : Nat) : (b.modWp s f).rd o_ = b.rd o_ := rfl
@[simp] theorem Block.modWp_fld (b : Block) (s : Fin 4) (f : Wp → Wp) (g : Fld) : (b.modWp s f).fld g = b.fld g := rfl
@[simp] theorem Block.modWp_on (b : Block) (s : Fin 4) (f : Wp → Wp) (g : Fld) : (b.modWp s f).on g = b.on g := rfl
@[simp] theorem Block.modSe_rd (b : Block) (s : Fin 4) (f : Se → Se) (o_ : Nat) : (b.modSe s f).rd o_ = b.rd o_ := rfl
@[simp] theorem Block.modSe_fld (b : Block) (s : Fin 4) (f : Se → Se) (g : Fld) : (b.modSe s f).fld g = b.fld g := rfl
@[simp] theorem Block.modSe_on (b : Block) (s : Fin 4) (f : Se → Se) (g : Fld) : (b.modSe s f).on g = b.on g := rfl
@[simp] theorem Block.modLe_rd (b : Block) (f : Loop → Loop) (o_ : Nat) : (b.modLe f).rd o_ = b.rd o_ := rfl
@[simp] theorem Block.modLe_fld (b : Block) (f : Loop → Loop) (g : Fld) : (b.modLe f).fld g = b.fld g := rfl
@[simp] theorem Block.modLe_on (b : Block) (f : Loop → Loop) (g : Fld) : (b.modLe f).on g = b.on g := rfl
@[simp] theorem Block.modVec_rd (b : Block) (v : Nat) (f : Moder → Moder) (o_ : Nat) : (b.modVec v f).rd o_ = b.rd o_ := rfl
@[simp] theorem Block.modVec_fld (b : Block) (v : Nat) (f : Moder → Moder) (g : Fld) : (b.modVec v f).fld g = b.fld g := rfl
@[simp] theorem Block.modVec_on (b : Block) (v : Nat) (f : Moder → Moder) (g : Fld) : (b.modVec v f).on g = b.on g := rfl
@[simp] theorem Block.modCore_rd (b : Block) (c : Nat) (f : Moder → Moder) (o_ : Nat) : (b.modCore c f).rd o_ = b.rd o_ := rfl
@[simp] theorem Block.modCore_fld (b : Block) (c : Nat) (f : Moder → Moder) (g : Fld) : (b.modCore c f).fld g = b.fld g := rfl
@[simp] theorem Block.modCore_on (b : Block) (c : Nat) (f : Moder → Moder) (g : Fld) : (b.modCore c f).on g = b.on g := rfl
@[simp] theorem Block.modCal_rd (b : Block) (f : Cal → Cal) (o_ : Nat) : (b.modCal f).rd o_ = b.rd o_ := rfl
@[simp] theorem Block.modCal_fld (b : Block) (f : Cal → Cal) (g : Fld) : (b.modCal f).fld g = b.fld g := rfl
@[simp] theorem Block.modCal_on (b : Block) (f : Cal → Cal) (g : Fld) : (b.modCal f).on g = b.on g := rfl
@[simp] theorem Block.modDram_rd (b : Block) (f : Dram → Dram) (o_ : Nat) : (b.modDram f).rd o_ = b.rd o_ := rfl
@[simp] theorem Block.modDram_fld (b : Block) (f : Dram → Dram) (g : Fld) : (b.modDram f).fld g = b.fld g := rfl
@[simp] theorem Block.modDram_on (b : Block) (f : Dram → Dram) (g : Fld) : (b.modDram f).on g = b.on g := rfl
@[simp] theorem Block.modHq_rd (b : Block) (f : Hq → Hq) (o_ : Nat) : (b.modHq f).rd o_ = b.rd o_ := rfl
@[simp] theorem Block.modHq_fld (b : Block) (f : Hq → Hq) (g : Fld) : (b.modHq f).fld g = b.fld g := rfl
@[simp] theorem Block.modHq_on (b : Block) (f : Hq → Hq) (g : Fld) : (b.modHq f).on g = b.on g := rfl
@[simp] theorem Block.modStore_rd (b : Block) (f : Store → Store) (o_ : Nat) : (b.modStore f).rd o_ = b.rd o_ := rfl
@[simp] theorem Block.modStore_fld (b : Block) (f : Store → Store) (g : Fld) : (b.modStore f).fld g = b.fld g := rfl
@[simp] theorem Block.modStore_on (b : Block) (f : Store → Store) (g : Fld) : (b.modStore f).on g = b.on g := rfl
@[simp] theorem Block.modMl_rd (b : Block) (f : Ml → Ml) (o_ : Nat) : (b.modMl f).rd o_ = b.rd o_ := rfl
@[simp] theorem Block.modMl_fld (b : Block) (f : Ml → Ml) (g : Fld) : (b.modMl f).fld g = b.fld g := rfl
@[simp] theorem Block.modMl_on (b : Block) (f : Ml → Ml) (g : Fld) : (b.modMl f).on g = b.on g := rfl
@[simp] theorem Block.modPw_rd (b : Block) (f : Pwr → Pwr) (o_ : Nat) : (b.modPw f).rd o_ = b.rd o_ := rfl
@[simp] theorem Block.modPw_fld (b : Block) (f : Pwr → Pwr) (g : Fld) : (b.modPw f).fld g = b.fld g := rfl
@[simp] theorem Block.modPw_on (b : Block) (f : Pwr → Pwr) (g : Fld) : (b.modPw f).on g = b.on g := rfl
@[simp] theorem Block.postClose_rd (b : Block) (n : Nat) (o_ : Nat) : (b.postClose n).rd o_ = b.rd o_ := rfl
@[simp] theorem Block.postClose_fld (b : Block) (n : Nat) (g : Fld) : (b.postClose n).fld g = b.fld g := rfl
@[simp] theorem Block.postClose_on (b : Block) (n : Nat) (g : Fld) : (b.postClose n).on g = b.on g := rfl

end Sys2Proof.Machine
end

