-- ==== Sys2Proof/Laws/Regs.lean ====
section
/-!
SUPPORT. The laws of registers and their fields: a read after a write gives the value written, a write leaves every
other register, and every other field of the register, alone.
-/

namespace Sys2Proof.Machine

/-- The field lies within the 32 bits of its register. -/
def Fld.ok (f : Fld) : Bool := f.lo ≤ f.hi && f.hi < 32

/-- Two fields share no bit. -/
def Fld.apart (f g : Fld) : Bool := f.reg ≠ g.reg || f.hi < g.lo || g.hi < f.lo

@[simp] theorem Block.rd_wr_same (b : Block) (o : Nat) (v : Word) : (b.wr o v).rd o = v := by
  simp [Block.rd, Block.wr]

theorem Block.rd_wr_ne (b : Block) {o o' : Nat} (h : o' ≠ o) (v : Word) : (b.wr o v).rd o' = b.rd o' := by
  simp [Block.rd, Block.wr, SMap.get_set_ne _ h]

theorem Fld.mask_getLsbD (f : Fld) (i : Nat) :
    f.mask.getLsbD i = decide (i < 32 ∧ f.lo ≤ i ∧ i < f.hi + 1) := by
  unfold Fld.mask
  by_cases h : i < 32 ∧ f.lo ≤ i ∧ i < f.hi + 1
  · obtain ⟨h1, h2, h3⟩ := h
    have h4 : i - f.lo < f.hi + 1 - f.lo := by omega
    have h5 : ¬ i < f.lo := by omega
    have h6 : i - f.lo < 32 := by omega
    simp only [BitVec.getLsbD_shiftLeft, BitVec.getLsbD_ofNat, Nat.testBit_two_pow_sub_one, h1, h2, h3, h4, h5, h6,
      decide_true, decide_false, Bool.not_false, Bool.and_true, and_self]
  · simp only [h, decide_false, BitVec.getLsbD_shiftLeft, BitVec.getLsbD_ofNat, Nat.testBit_two_pow_sub_one]
    by_cases h1 : i < 32
    · by_cases h2 : i < f.lo
      · simp [h1, h2]
      · have : ¬ (i - f.lo < f.hi + 1 - f.lo) := by omega
        simp [this]
    · simp [h1]

theorem Fld.put_getLsbD (f : Fld) (v : Word) (n i : Nat) (hi : i < 32) :
    (f.put v n).getLsbD i = if f.lo ≤ i ∧ i < f.hi + 1 then n.testBit (i - f.lo) else v.getLsbD i := by
  unfold Fld.put
  simp only [BitVec.getLsbD_or, BitVec.getLsbD_and, BitVec.getLsbD_not, Fld.mask_getLsbD, BitVec.getLsbD_shiftLeft,
    BitVec.getLsbD_ofNat, hi]
  by_cases h : f.lo ≤ i ∧ i < f.hi + 1
  · have h1 : i - f.lo < 32 := by omega
    have h2 : ¬ i < f.lo := by omega
    simp only [h, h1, h2, and_self, decide_true, decide_false, Bool.not_true, Bool.and_false, Bool.false_or,
      Bool.not_false, Bool.true_and, Bool.and_true, if_true]
  · simp only [h, decide_false, decide_true, Bool.not_false, Bool.and_false, Bool.and_true, Bool.or_false, if_false,
      and_false, Bool.true_and]

theorem Fld.get_testBit (f : Fld) (v : Word) (i : Nat) :
    (f.get v).testBit i = (decide (f.lo + i < 32 ∧ f.lo + i < f.hi + 1) && v.getLsbD (f.lo + i)) := by
  unfold Fld.get
  rw [BitVec.testBit_toNat, BitVec.getLsbD_ushiftRight, BitVec.getLsbD_and, Fld.mask_getLsbD]
  have : (f.lo + i < 32 ∧ f.lo ≤ f.lo + i ∧ f.lo + i < f.hi + 1) ↔ (f.lo + i < 32 ∧ f.lo + i < f.hi + 1) := by omega
  simp only [this, Bool.and_comm]

/-- A field reads what was put into it, to its width. -/
theorem Fld.get_put_same (f : Fld) (h : f.ok = true) (v : Word) (n : Nat) :
    f.get (f.put v n) = n % 2 ^ (f.hi + 1 - f.lo) := by
  simp only [Fld.ok, Bool.and_eq_true, decide_eq_true_eq] at h
  apply Nat.eq_of_testBit_eq
  intro i
  rw [Fld.get_testBit, Nat.testBit_mod_two_pow]
  by_cases hi : i < f.hi + 1 - f.lo
  · have h1 : f.lo + i < 32 := by omega
    have h2 : f.lo + i < f.hi + 1 := by omega
    rw [Fld.put_getLsbD _ _ _ _ h1]
    simp [h1, h2, hi]
  · have h2 : ¬ f.lo + i < f.hi + 1 := by omega
    simp [h2, hi]

/-- A field reads as before after a put into a field of the same register that shares no bit with it. -/
theorem Fld.get_put_apart (f g : Fld) (h : f.hi < g.lo ∨ g.hi < f.lo) (v : Word) (n : Nat) :
    g.get (f.put v n) = g.get v := by
  apply Nat.eq_of_testBit_eq
  intro i
  rw [Fld.get_testBit, Fld.get_testBit]
  by_cases h1 : g.lo + i < 32 ∧ g.lo + i < g.hi + 1
  · rw [Fld.put_getLsbD _ _ _ _ h1.1]
    have : ¬ (f.lo ≤ g.lo + i ∧ g.lo + i < f.hi + 1) := by omega
    simp only [this, if_false]
  · simp only [h1, decide_false, Bool.false_and]

theorem Block.fld_setFld_same (b : Block) (f : Fld) (h : f.ok = true) (n : Nat) :
    (b.setFld f n).fld f = n % 2 ^ (f.hi + 1 - f.lo) := by
  simp [Block.fld, Block.setFld, Fld.get_put_same f h]

theorem Block.fld_setFld_apart (b : Block) (f g : Fld) (h : f.apart g = true) (n : Nat) :
    (b.setFld f n).fld g = b.fld g := by
  simp only [Fld.apart, Bool.or_eq_true, decide_eq_true_eq] at h
  unfold Block.fld Block.setFld
  by_cases hr : g.reg = f.reg
  · have hb : f.hi < g.lo ∨ g.hi < f.lo := by
      rcases h with (h | h) | h
      · exact absurd hr (by simpa [eq_comm] using h)
      · exact Or.inl h
      · exact Or.inr h
    rw [hr, Block.rd_wr_same, Fld.get_put_apart f g hb]
  · rw [Block.rd_wr_ne _ hr]

theorem Block.rd_setFld_ne (b : Block) (f : Fld) {o : Nat} (h : o ≠ f.reg) (n : Nat) :
    (b.setFld f n).rd o = b.rd o := Block.rd_wr_ne _ h _

/-- A write keeps the registers in their canonical form. -/
theorem Block.wr_wf (b : Block) (o : Nat) (v : Word) (h : SMap.wf (resetVal b.part) b.regs = true) :
    SMap.wf (resetVal (b.wr o v).part) (b.wr o v).regs = true := SMap.wf_set _ _ _ _ h

end Sys2Proof.Machine
end

