-- ==== Sys2Proof/Laws/Raise.lean ====
section
/-!
SUPPORT. What raising a source does, said once: the registers it may write, and that the source then stands pending or
in service.
-/

namespace Sys2Proof.Machine

theorem Fld.get_lt (f : Fld) (v : Word) : f.get v < 2 ^ (f.hi + 1 - f.lo) := by
  have : f.get v = f.get v % 2 ^ (f.hi + 1 - f.lo) := by
    apply Nat.eq_of_testBit_eq
    intro i
    rw [Nat.testBit_mod_two_pow, Fld.get_testBit]
    by_cases hi : i < f.hi + 1 - f.lo
    · simp only [hi, decide_true, Bool.true_and]
    · have h2 : ¬ f.lo + i < f.hi + 1 := by omega
      simp only [hi, h2, and_false, decide_false, Bool.false_and]
  rw [this]
  exact Nat.mod_lt _ (Nat.two_pow_pos _)

theorem Block.srcVec_lt (b : Block) (n : Nat) : b.srcVec n < 128 := by
  unfold Block.srcVec
  split <;> exact Fld.get_lt _ _

theorem Block.rd_congr {b c : Block} (hp : c.part = b.part) (hr : c.regs = b.regs) (o : Nat) : c.rd o = b.rd o := by
  unfold Block.rd
  rw [hp, hr]

theorem pba_ne {o v : Nat} (h : irqReg o = false) (hv : v < 128) : o ≠ (MSIX_PBA_W (v / 32)).reg := by
  have h1 : ¬ (299008 ≤ o ∧ o < 299024) := by
    intro h1
    simp [irqReg, MSIX_PBA, h1] at h
  simp only [MSIX_PBA_W, MSIX_PBA]
  omega

theorem ierr_ne {o : Nat} (h : irqReg o = false) : o ≠ IC_ERR := by
  simp only [irqReg, Bool.or_eq_false_iff, decide_eq_false_iff_not] at h
  exact h.1

@[simp] theorem Block.modIrq_rd (b : Block) (f : Irq → Irq) (o : Nat) : (b.modIrq f).rd o = b.rd o := rfl

theorem Block.sendVec_rd (b : Block) {v o : Nat} (h : irqReg o = false) (hv : v < 128) : (b.sendVec v).rd o = b.rd o := by
  unfold Block.sendVec
  dsimp only
  rw [Block.emit_rd, Block.rd_setFld_ne _ _ (pba_ne h hv)]
  rfl

theorem Block.tryVec_rd (b : Block) {v o : Nat} (h : irqReg o = false) (hv : v < 128) : (b.tryVec v).rd o = b.rd o := by
  unfold Block.tryVec
  repeat' split
  all_goals first
    | rfl
    | exact Block.rd_setFld_ne _ _ (pba_ne h hv) _

theorem Block.melarSend_rd (b : Block) (t a : Nat) (p : List Byte) (o : Nat) : (b.melarSend t a p).rd o = b.rd o := by
  unfold Block.melarSend
  split <;> rfl

theorem Block.forward_rd (b : Block) (n : Nat) {o : Nat} (h : irqReg o = false) : (b.forward n).rd o = b.rd o := by
  unfold Block.forward
  repeat' split
  · exact Block.rd_setFld_ne _ _ (ierr_ne h) _
  · rfl
  · exact Block.melarSend_rd ..

theorem Block.raiseWith_rd (b : Block) (n : Nat) (w : Bool) {o : Nat} (h : irqReg o = false) :
    (b.raiseWith n w).rd o = b.rd o := by
  unfold Block.raiseWith
  split
  · rfl
  · extract_lets b1 b2 t
    have h2 : b2.rd o = b.rd o := by
      show Block.rd (if _ then _ else _) o = _
      split
      · exact Block.forward_rd _ _ h
      · rfl
    clear_value b2
    split
    · exact (Block.tryVec_rd _ h (Block.srcVec_lt _ _)).trans h2
    · split
      · exact h2
      · exact h2

/-- Raising a source writes no register but IC_ERR and the MSI-X pending bits. -/
theorem Block.raise_rd (b : Block) (n : Nat) {o : Nat} (h : irqReg o = false) : (b.raise n).rd o = b.rd o :=
  Block.raiseWith_rd b n _ h

theorem Block.raise_fld (b : Block) (n : Nat) {g : Fld} (h : irqReg g.reg = false) : (b.raise n).fld g = b.fld g := by
  unfold Block.fld
  rw [Block.raise_rd b n h]

theorem mem_insertSrc_iff {n m : Nat} {l : List Nat} : m ∈ insertSrc n l ↔ m = n ∨ m ∈ l := by
  induction l with
  | nil => simp [insertSrc]
  | cons a t ih =>
    unfold insertSrc
    split
    · simp
    · split
      · rename_i h; subst h; simp
      · simp only [List.mem_cons, ih]; tauto

theorem Block.raised_iff {b : Block} {n : Nat} : b.raised n = true ↔ n ∈ b.irq.pend ∨ ∃ e ∈ b.irq.act, e.1 = n := by
  simp [Block.raised]

theorem act_foldl {v n : Nat} (srcs : List Nat) : ∀ (a : List (Nat × Nat)),
    (n ∈ srcs ∨ ∃ e ∈ a, e.1 = n) →
    ∃ e ∈ srcs.foldl (fun a n => a.filter (fun e => e.1 ≠ n) ++ [(n, 8 + v)]) a, e.1 = n := by
  induction srcs with
  | nil => intro a h; simpa using h
  | cons m t ih =>
    intro a h
    refine ih _ ?_
    by_cases hm : m = n
    · subst hm
      exact Or.inr ⟨(m, 8 + v), by simp, rfl⟩
    · rcases h with h | ⟨e, he, hn⟩
      · rcases List.mem_cons.1 h with h | h
        · exact absurd h.symm hm
        · exact Or.inl h
      · refine Or.inr ⟨e, ?_, hn⟩
        simp only [List.mem_append, List.mem_filter]
        exact Or.inl ⟨he, by simp only [hn]; simpa using fun h => hm h.symm⟩

theorem Block.sendVec_raised {b : Block} {n : Nat} (v : Nat) (h : b.raised n = true) : (b.sendVec v).raised n = true := by
  rw [Block.raised_iff] at *
  unfold Block.sendVec
  dsimp only [Block.emit, Block.setFld, Block.wr, Block.modVec, Block.modIrq]
  by_cases hs : n ∈ b.vecPend v
  · exact Or.inr (act_foldl _ _ (Or.inl hs))
  · rcases h with h | h
    · exact Or.inl (by simp [h, hs])
    · exact Or.inr (act_foldl _ _ (Or.inr h))

theorem Block.tryVec_raised {b : Block} {n : Nat} (v : Nat) (h : b.raised n = true) : (b.tryVec v).raised n = true := by
  unfold Block.tryVec
  repeat' split
  all_goals first
    | exact h
    | exact Block.sendVec_raised v h

theorem Block.forward_raised {b : Block} {n : Nat} (m : Nat) (h : b.raised n = true) : (b.forward m).raised n = true := by
  unfold Block.forward Block.melarSend
  repeat' split
  all_goals exact h

theorem Block.raiseWith_raised {b : Block} {n m : Nat} (w : Bool)
    (h : (m = n ∧ srcPresent b.part n = true) ∨ b.raised n = true) : (b.raiseWith m w).raised n = true := by
  unfold Block.raiseWith
  split
  · rename_i hp
    rcases h with ⟨rfl, h⟩ | h
    · simp [h] at hp
    · exact h
  · have h1 : (b.modIrq fun i => { i with pend := insertSrc m i.pend }).raised n = true := by
      rw [Block.raised_iff] at *
      rcases h with ⟨rfl, _⟩ | h | h
      · exact Or.inl (mem_insertSrc_iff.2 (Or.inl rfl))
      · exact Or.inl (mem_insertSrc_iff.2 (Or.inr h))
      · exact Or.inr h
    extract_lets b1 b2 t
    have h2 : b2.raised n = true := by
      show Block.raised (if _ then _ else _) n = true
      split
      · exact Block.forward_raised m h1
      · exact h1
    clear_value b2
    split
    · exact Block.tryVec_raised _ h2
    · split
      · exact h2
      · exact h2

/-- A source whose unit is present stands raised after it is raised. -/
theorem Block.raise_raised_same {b : Block} {n : Nat} (h : srcPresent b.part n = true) : (b.raise n).raised n = true :=
  Block.raiseWith_raised _ (Or.inl ⟨rfl, h⟩)

/-- A raised source stays raised when another is raised. -/
theorem Block.raise_raised {b : Block} {n m : Nat} (h : b.raised n = true) : (b.raise m).raised n = true :=
  Block.raiseWith_raised _ (Or.inr h)

end Sys2Proof.Machine
end

