-- ==== Sys2Proof/Laws/Fields.lean ====
section
/-!
SUPPORT. Reading a register or a field after each named update of the block: the field written gives the value written,
to its width; fields that share no bit with it, and other registers, stay.
-/

namespace Sys2Proof.Machine

theorem Block.on_eq (b : Block) (f : Fld) : b.on f = decide (b.fld f ≠ 0) := by
  unfold Block.on; by_cases h : b.fld f = 0 <;> simp [h]

theorem Block.fld_wr_ne (b : Block) {o : Nat} {g : Fld} (h : g.reg ≠ o) (v : Word) : (b.wr o v).fld g = b.fld g := by
  unfold Block.fld; rw [Block.rd_wr_ne _ h]

theorem Block.fld_wr_same (b : Block) (g : Fld) (v : Word) : (b.wr g.reg v).fld g = g.get v := by
  unfold Block.fld; rw [Block.rd_wr_same]

theorem Block.fld_lt (b : Block) (g : Fld) : b.fld g < 2 ^ (g.hi + 1 - g.lo) := Fld.get_lt _ _

theorem Block.fld_setBit_same (b : Block) (f : Fld) (h : f.ok = true) (v : Bool) : (b.setBit f v).fld f = v.toNat := by
  unfold Block.setBit
  rw [Block.fld_setFld_same _ _ h]
  have : 1 < 2 ^ (f.hi + 1 - f.lo) := by
    simp only [Fld.ok, Bool.and_eq_true, decide_eq_true_eq] at h
    exact Nat.one_lt_two_pow (by omega)
  cases v
  · simp
  · exact Nat.mod_eq_of_lt this

theorem Block.fld_setBit_apart (b : Block) (f g : Fld) (h : f.apart g = true) (v : Bool) :
    (b.setBit f v).fld g = b.fld g := Block.fld_setFld_apart b f g h _

theorem Block.fld_bump_apart (b : Block) (f g : Fld) (h : f.apart g = true) (n : Nat) : (b.bump f n).fld g = b.fld g :=
  Block.fld_setFld_apart b f g h _

theorem Block.fld_putBit_apart (b : Block) (f g : Fld) (h : f.apart g = true) (i : Nat) (v : Bool) :
    (b.putBit f i v).fld g = b.fld g := Block.fld_setFld_apart b f g h _

theorem Block.rd_setBit_ne (b : Block) (f : Fld) {o : Nat} (h : o ≠ f.reg) (v : Bool) : (b.setBit f v).rd o = b.rd o :=
  Block.rd_setFld_ne b f h _

theorem Block.rd_bump_ne (b : Block) (f : Fld) {o : Nat} (h : o ≠ f.reg) (n : Nat) : (b.bump f n).rd o = b.rd o :=
  Block.rd_setFld_ne b f h _

theorem Block.rd_putBit_ne (b : Block) (f : Fld) {o : Nat} (h : o ≠ f.reg) (i : Nat) (v : Bool) :
    (b.putBit f i v).rd o = b.rd o := Block.rd_setFld_ne b f h _

/-- A counter field counts, and stays at its top. -/
theorem Block.fld_bump_same (b : Block) (f : Fld) (h : f.ok = true) (n : Nat) :
    (b.bump f n).fld f = min (b.fld f + n) f.top := by
  unfold Block.bump
  rw [Block.fld_setFld_same _ _ h]
  have := Nat.two_pow_pos (f.hi + 1 - f.lo)
  exact Nat.mod_eq_of_lt (by unfold Fld.top; omega)

theorem Block.regsOnly_refl (l : List Nat) (b : Block) : Block.regsOnly l b b := fun _ _ _ => rfl

theorem Block.regsOnly_trans {l : List Nat} {a b c : Block} (h : Block.regsOnly l a b) (h' : Block.regsOnly l b c) :
    Block.regsOnly l a c := fun o h1 h2 => (h' o h1 h2).trans (h o h1 h2)

end Sys2Proof.Machine
end

