-- ==== Sys2Proof/Laws/FrameOps.lean ====
section
/-!
SUPPORT. What the shared operations leave unchanged, one lemma for each operation and each command.
-/

set_option Elab.async false
set_option linter.unreachableTactic false
set_option linter.unusedTactic false

namespace Sys2Proof.Machine

theorem Area.sub {x y l : List Area} (hl : y ⊆ l) (h : (x.all fun a => y.contains a) = true := by decide) : x ⊆ l :=
  fun a ha => hl (by simpa using List.all_eq_true.mp h a ha)

theorem Frame.refl {l : List Area} {b : Block} : Frame l b b := ⟨fun a _ => by cases a <;> simp [Block.same]⟩

theorem Frame.ite {l : List Area} {b x y : Block} {c : Prop} [Decidable c] (hy : Frame l b y)
    (hx : Frame l b y → Frame l b x) : Frame l b (if c then x else y) := by
  split
  · exact hx hy
  · exact hy

theorem Frame.foldl {l : List Area} {α : Type} {b c : Block} {f : Block → α → Block} {xs : List α} (h : Frame l b c)
    (hf : ∀ c x, Frame l b c → Frame l b (f c x)) : Frame l b (xs.foldl f c) := by
  induction xs generalizing c with
  | nil => exact h
  | cons x t ih => exact ih (hf _ _ h)

theorem Frame.pair {l : List Area} {b c : Block} {α : Type} {x : α × Block} {i : α} (e : x = (i, c)) (h : Frame l b c) :
    Frame l b x.2 := by
  subst e; exact h

theorem Frame.ite2 {l : List Area} {b : Block} {α : Type} {x y : α × Block} {c : Prop} [Decidable c] (hx : Frame l b x.2)
    (hy : Frame l b y.2) : Frame l b (if c then x else y).2 := by
  split <;> assumption

theorem Frame.snd {l : List Area} {b c : Block} {α : Type} {x : α × Block} {i : α} (e : x = (i, c)) (h : Frame l b x.2) :
    Frame l b c := by
  subst e; exact h

theorem Frame.thd {l : List Area} {b c : Block} {α β : Type} {x : α × β × Block} {i : α} {j : β} (e : x = (i, j, c))
    (h : Frame l b x.2.2) : Frame l b c := by
  subst e; exact h

/-- A command's meaning, as a change of the block. -/
theorem Frame.upd {l : List Area} {b : Block} {s t : State} {f : Block → Block} (h : s.upd f = .next t)
    (hs : Frame l b s.toBlock) (hf : ∀ c, Frame l b c → Frame l b (f c)) : Frame l b t.toBlock := by
  unfold State.upd at h
  cases h
  exact hf _ hs

/-- A change of the areas in `m` alone. -/
theorem Frame.step {l m : List Area} {b c d : Block} (h : Frame l b c) (hm : m ⊆ l) (hd : Frame m c d) : Frame l b d := by
  refine ⟨fun a ha => ?_⟩
  have h1 := h.same a ha
  have h2 := hd.same a (fun h => ha (hm h))
  cases a <;> simp only [Block.same] at * <;> first | exact h2.trans h1 | exact ⟨h2.1.trans h1.1, h2.2.trans h1.2⟩

theorem frame_emit {l₀ : List Area} {b₀ b : Block} (h₀ : Frame l₀ b₀ b) (m : OutMsg)
    (hl : [.out] ⊆ l₀ := by first | assumption | exact Area.sub ‹_›) : Frame l₀ b₀ (b.emit m) :=
  h₀.step hl ⟨fun a ha => by cases a <;> first | exact rfl | exact ⟨rfl, rfl⟩ | exact absurd ha (by decide)⟩

theorem frame_modServo {l₀ : List Area} {b₀ b : Block} (h₀ : Frame l₀ b₀ b) (s : Fin 4) (f : Servo → Servo)
    (hl : [.servo] ⊆ l₀ := by first | assumption | exact Area.sub ‹_›) : Frame l₀ b₀ (b.modServo s f) :=
  h₀.step hl ⟨fun a ha => by cases a <;> first | exact rfl | exact ⟨rfl, rfl⟩ | exact absurd ha (by decide)⟩

theorem frame_modSpin {l₀ : List Area} {b₀ b : Block} (h₀ : Frame l₀ b₀ b) (n : Fin 2) (f : Spin → Spin)
    (hl : [.spin] ⊆ l₀ := by first | assumption | exact Area.sub ‹_›) : Frame l₀ b₀ (b.modSpin n f) :=
  h₀.step hl ⟨fun a ha => by cases a <;> first | exact rfl | exact ⟨rfl, rfl⟩ | exact absurd ha (by decide)⟩

theorem frame_modAxis {l₀ : List Area} {b₀ b : Block} (h₀ : Frame l₀ b₀ b) (a : Fin 9) (f : Axis → Axis)
    (hl : [.axis] ⊆ l₀ := by first | assumption | exact Area.sub ‹_›) : Frame l₀ b₀ (b.modAxis a f) :=
  h₀.step hl ⟨fun a ha => by cases a <;> first | exact rfl | exact ⟨rfl, rfl⟩ | exact absurd ha (by decide)⟩

theorem frame_modWp {l₀ : List Area} {b₀ b : Block} (h₀ : Frame l₀ b₀ b) (s : Fin 4) (f : Wp → Wp)
    (hl : [.wp] ⊆ l₀ := by first | assumption | exact Area.sub ‹_›) : Frame l₀ b₀ (b.modWp s f) :=
  h₀.step hl ⟨fun a ha => by cases a <;> first | exact rfl | exact ⟨rfl, rfl⟩ | exact absurd ha (by decide)⟩

theorem frame_modSe {l₀ : List Area} {b₀ b : Block} (h₀ : Frame l₀ b₀ b) (s : Fin 4) (f : Se → Se)
    (hl : [.se] ⊆ l₀ := by first | assumption | exact Area.sub ‹_›) : Frame l₀ b₀ (b.modSe s f) :=
  h₀.step hl ⟨fun a ha => by cases a <;> first | exact rfl | exact ⟨rfl, rfl⟩ | exact absurd ha (by decide)⟩

theorem frame_modLe {l₀ : List Area} {b₀ b : Block} (h₀ : Frame l₀ b₀ b) (f : Loop → Loop)
    (hl : [.le] ⊆ l₀ := by first | assumption | exact Area.sub ‹_›) : Frame l₀ b₀ (b.modLe f) :=
  h₀.step hl ⟨fun a ha => by cases a <;> first | exact rfl | exact ⟨rfl, rfl⟩ | exact absurd ha (by decide)⟩

theorem frame_modPt {l₀ : List Area} {b₀ b : Block} (h₀ : Frame l₀ b₀ b) (f : Pt → Pt)
    (hl : [.pt] ⊆ l₀ := by first | assumption | exact Area.sub ‹_›) : Frame l₀ b₀ (b.modPt f) :=
  h₀.step hl ⟨fun a ha => by cases a <;> first | exact rfl | exact ⟨rfl, rfl⟩ | exact absurd ha (by decide)⟩

theorem frame_modMl {l₀ : List Area} {b₀ b : Block} (h₀ : Frame l₀ b₀ b) (f : Ml → Ml)
    (hl : [.ml] ⊆ l₀ := by first | assumption | exact Area.sub ‹_›) : Frame l₀ b₀ (b.modMl f) :=
  h₀.step hl ⟨fun a ha => by cases a <;> first | exact rfl | exact ⟨rfl, rfl⟩ | exact absurd ha (by decide)⟩

theorem frame_modPw {l₀ : List Area} {b₀ b : Block} (h₀ : Frame l₀ b₀ b) (f : Pwr → Pwr)
    (hl : [.pw] ⊆ l₀ := by first | assumption | exact Area.sub ‹_›) : Frame l₀ b₀ (b.modPw f) :=
  h₀.step hl ⟨fun a ha => by cases a <;> first | exact rfl | exact ⟨rfl, rfl⟩ | exact absurd ha (by decide)⟩

theorem frame_modFsync {l₀ : List Area} {b₀ b : Block} (h₀ : Frame l₀ b₀ b) (f : Fsync → Fsync)
    (hl : [.fsync] ⊆ l₀ := by first | assumption | exact Area.sub ‹_›) : Frame l₀ b₀ (b.modFsync f) :=
  h₀.step hl ⟨fun a ha => by cases a <;> first | exact rfl | exact ⟨rfl, rfl⟩ | exact absurd ha (by decide)⟩

theorem frame_setCyc {l₀ : List Area} {b₀ b : Block} (h₀ : Frame l₀ b₀ b) (n : Nat)
    (hl : [.cyc] ⊆ l₀ := by first | assumption | exact Area.sub ‹_›) : Frame l₀ b₀ (b.setCyc n) :=
  h₀.step hl ⟨fun a ha => by cases a <;> first | exact rfl | exact ⟨rfl, rfl⟩ | exact absurd ha (by decide)⟩

theorem frame_setSnap {l₀ : List Area} {b₀ b : Block} (h₀ : Frame l₀ b₀ b) (i : Fin 7) (x y : Word)
    (hl : [.snap] ⊆ l₀ := by first | assumption | exact Area.sub ‹_›) : Frame l₀ b₀ (b.setSnap i x y) :=
  h₀.step hl ⟨fun a ha => by cases a <;> first | exact rfl | exact ⟨rfl, rfl⟩ | exact absurd ha (by decide)⟩

theorem frame_setAper {l₀ : List Area} {b₀ b : Block} (h₀ : Frame l₀ b₀ b) (i : Fin 7) (v : Word)
    (hl : [.aper] ⊆ l₀ := by first | assumption | exact Area.sub ‹_›) : Frame l₀ b₀ (b.setAper i v) :=
  h₀.step hl ⟨fun a ha => by cases a <;> first | exact rfl | exact ⟨rfl, rfl⟩ | exact absurd ha (by decide)⟩

theorem frame_setTunCtl {l₀ : List Area} {b₀ b : Block} (h₀ : Frame l₀ b₀ b) (i : Fin 7) (v : Word)
    (hl : [.tunCtl] ⊆ l₀ := by first | assumption | exact Area.sub ‹_›) : Frame l₀ b₀ (b.setTunCtl i v) :=
  h₀.step hl ⟨fun a ha => by cases a <;> first | exact rfl | exact ⟨rfl, rfl⟩ | exact absurd ha (by decide)⟩

theorem frame_setTunData {l₀ : List Area} {b₀ b : Block} (h₀ : Frame l₀ b₀ b) (i : Fin 7) (v : Word)
    (hl : [.tunData] ⊆ l₀ := by first | assumption | exact Area.sub ‹_›) : Frame l₀ b₀ (b.setTunData i v) :=
  h₀.step hl ⟨fun a ha => by cases a <;> first | exact rfl | exact ⟨rfl, rfl⟩ | exact absurd ha (by decide)⟩

theorem frame_setQsel {l₀ : List Area} {b₀ b : Block} (h₀ : Frame l₀ b₀ b) (i : Fin 7) (v : Word)
    (hl : [.qsel] ⊆ l₀ := by first | assumption | exact Area.sub ‹_›) : Frame l₀ b₀ (b.setQsel i v) :=
  h₀.step hl ⟨fun a ha => by cases a <;> first | exact rfl | exact ⟨rfl, rfl⟩ | exact absurd ha (by decide)⟩

theorem frame_answer {l₀ : List Area} {b₀ b : Block} (h₀ : Frame l₀ b₀ b) (m : Master) (v : Word)
    (hl : [.rdata] ⊆ l₀ := by first | assumption | exact Area.sub ‹_›) : Frame l₀ b₀ (b.answer m v) :=
  h₀.step hl ⟨fun a ha => by cases a <;> first | exact rfl | exact ⟨rfl, rfl⟩ | exact absurd ha (by decide)⟩

theorem frame_modCal {l₀ : List Area} {b₀ b : Block} (h₀ : Frame l₀ b₀ b) (f : Cal → Cal)
    (hl : [.cal] ⊆ l₀ := by first | assumption | exact Area.sub ‹_›) : Frame l₀ b₀ (b.modCal f) :=
  h₀.step hl ⟨fun a ha => by cases a <;> first | exact rfl | exact ⟨rfl, rfl⟩ | exact absurd ha (by decide)⟩

theorem frame_modHq {l₀ : List Area} {b₀ b : Block} (h₀ : Frame l₀ b₀ b) (f : Hq → Hq)
    (hl : [.hq] ⊆ l₀ := by first | assumption | exact Area.sub ‹_›) : Frame l₀ b₀ (b.modHq f) :=
  h₀.step hl ⟨fun a ha => by cases a <;> first | exact rfl | exact ⟨rfl, rfl⟩ | exact absurd ha (by decide)⟩

theorem frame_modStore {l₀ : List Area} {b₀ b : Block} (h₀ : Frame l₀ b₀ b) (f : Store → Store)
    (hl : [.store] ⊆ l₀ := by first | assumption | exact Area.sub ‹_›) : Frame l₀ b₀ (b.modStore f) :=
  h₀.step hl ⟨fun a ha => by cases a <;> first | exact rfl | exact ⟨rfl, rfl⟩ | exact absurd ha (by decide)⟩

theorem frame_modCx {l₀ : List Area} {b₀ b : Block} (h₀ : Frame l₀ b₀ b) (f : Cx → Cx)
    (hl : [.cx] ⊆ l₀ := by first | assumption | exact Area.sub ‹_›) : Frame l₀ b₀ (b.modCx f) :=
  h₀.step hl ⟨fun a ha => by cases a <;> first | exact rfl | exact ⟨rfl, rfl⟩ | exact absurd ha (by decide)⟩

theorem frame_modRc {l₀ : List Area} {b₀ b : Block} (h₀ : Frame l₀ b₀ b) (f : Rc → Rc)
    (hl : [.rc] ⊆ l₀ := by first | assumption | exact Area.sub ‹_›) : Frame l₀ b₀ (b.modRc f) :=
  h₀.step hl ⟨fun a ha => by cases a <;> first | exact rfl | exact ⟨rfl, rfl⟩ | exact absurd ha (by decide)⟩

theorem frame_modIrq {l₀ : List Area} {b₀ b : Block} (h₀ : Frame l₀ b₀ b) (f : Irq → Irq)
    (hl : [.irq] ⊆ l₀ := by first | assumption | exact Area.sub ‹_›) : Frame l₀ b₀ (b.modIrq f) :=
  h₀.step hl ⟨fun a ha => by cases a <;> first | exact rfl | exact ⟨rfl, rfl⟩ | exact absurd ha (by decide)⟩

theorem frame_modDram {l₀ : List Area} {b₀ b : Block} (h₀ : Frame l₀ b₀ b) (f : Dram → Dram)
    (hl : [.dram] ⊆ l₀ := by first | assumption | exact Area.sub ‹_›) : Frame l₀ b₀ (b.modDram f) :=
  h₀.step hl ⟨fun a ha => by cases a <;> first | exact rfl | exact ⟨rfl, rfl⟩ | exact absurd ha (by decide)⟩

theorem frame_wr {l₀ : List Area} {b₀ b : Block} (h₀ : Frame l₀ b₀ b) (o : Nat) (v : Word)
    (hl : [.regs] ⊆ l₀ := by first | assumption | exact Area.sub ‹_›) : Frame l₀ b₀ (b.wr o v) :=
  h₀.step hl ⟨fun a ha => by cases a <;> first | exact rfl | exact ⟨rfl, rfl⟩ | exact absurd ha (by decide)⟩

theorem frame_setTick {l₀ : List Area} {b₀ b : Block} (h₀ : Frame l₀ b₀ b) (t : BitVec 64)
    (hl : [.tick] ⊆ l₀ := by first | assumption | exact Area.sub ‹_›) : Frame l₀ b₀ (b.setTick t) :=
  h₀.step hl ⟨fun a ha => by cases a <;> first | exact rfl | exact ⟨rfl, rfl⟩ | exact absurd ha (by decide)⟩

/-! ### Machine/Flags.lean -/

theorem frame_setFld {l₀ : List Area} {b₀ b : Block} (h₀ : Frame l₀ b₀ b) (f : Fld) (n : Nat)
    (hl : [.regs] ⊆ l₀ := by first | assumption | exact Area.sub ‹_›) :
    Frame l₀ b₀ (b.setFld f n) := by
  unfold Block.setFld
  repeat' first
    | (with_reducible assumption)
    | (with_reducible exact Area.sub ‹_›)
    | (with_reducible exact Frame.refl)
    | (with_reducible apply Frame.ite)
    | (with_reducible refine Frame.foldl ?_ (fun _ _ _ => ?_))
    | (with_reducible apply frame_wr)
    | (fail_if_no_progress extract_lets)
    | intro _
    | (with_reducible split)

theorem frame_setBit {l₀ : List Area} {b₀ b : Block} (h₀ : Frame l₀ b₀ b) (f : Fld) (v : Bool)
    (hl : [.regs] ⊆ l₀ := by first | assumption | exact Area.sub ‹_›) :
    Frame l₀ b₀ (b.setBit f v) := by
  unfold Block.setBit
  repeat' first
    | (with_reducible assumption)
    | (with_reducible exact Area.sub ‹_›)
    | (with_reducible exact Frame.refl)
    | (with_reducible apply Frame.ite)
    | (with_reducible refine Frame.foldl ?_ (fun _ _ _ => ?_))
    | (with_reducible apply frame_setFld)
    | (fail_if_no_progress extract_lets)
    | intro _
    | (with_reducible split)

theorem frame_putBit {l₀ : List Area} {b₀ b : Block} (h₀ : Frame l₀ b₀ b) (f : Fld) (i : Nat) (v : Bool)
    (hl : [.regs] ⊆ l₀ := by first | assumption | exact Area.sub ‹_›) :
    Frame l₀ b₀ (b.putBit f i v) := by
  unfold Block.putBit
  repeat' first
    | (with_reducible assumption)
    | (with_reducible exact Area.sub ‹_›)
    | (with_reducible exact Frame.refl)
    | (with_reducible apply Frame.ite)
    | (with_reducible refine Frame.foldl ?_ (fun _ _ _ => ?_))
    | (with_reducible apply frame_setFld)
    | (fail_if_no_progress extract_lets)
    | intro _
    | (with_reducible split)

theorem frame_bump {l₀ : List Area} {b₀ b : Block} (h₀ : Frame l₀ b₀ b) (f : Fld) (n : Nat)
    (hl : [.regs] ⊆ l₀ := by first | assumption | exact Area.sub ‹_›) :
    Frame l₀ b₀ (b.bump f n) := by
  unfold Block.bump
  repeat' first
    | (with_reducible assumption)
    | (with_reducible exact Area.sub ‹_›)
    | (with_reducible exact Frame.refl)
    | (with_reducible apply Frame.ite)
    | (with_reducible refine Frame.foldl ?_ (fun _ _ _ => ?_))
    | (with_reducible apply frame_setFld)
    | (fail_if_no_progress extract_lets)
    | intro _
    | (with_reducible split)

theorem frame_freeVal {l₀ : List Area} {b₀ b : Block} (h₀ : Frame l₀ b₀ b)
    (hl : [.free] ⊆ l₀ := by first | assumption | exact Area.sub ‹_›) : Frame l₀ b₀ b.freeVal.2 :=
  h₀.step hl ⟨fun a ha => by cases a <;> first | exact rfl | exact ⟨rfl, rfl⟩ | exact absurd ha (by decide)⟩

/-! ### Machine/Ops.lean -/

theorem frame_modVec {l₀ : List Area} {b₀ b : Block} (h₀ : Frame l₀ b₀ b) (v : Nat) (f : Moder → Moder)
    (hl : [.irq] ⊆ l₀ := by first | assumption | exact Area.sub ‹_›) :
    Frame l₀ b₀ (b.modVec v f) := by
  unfold Block.modVec
  repeat' first
    | (with_reducible assumption)
    | (with_reducible exact Area.sub ‹_›)
    | (with_reducible exact Frame.refl)
    | (with_reducible apply Frame.ite)
    | (with_reducible refine Frame.foldl ?_ (fun _ _ _ => ?_))
    | (with_reducible apply frame_modIrq)
    | (with_reducible apply frame_modIrq)
    | (fail_if_no_progress extract_lets)
    | intro _
    | (with_reducible split)

theorem frame_modCore {l₀ : List Area} {b₀ b : Block} (h₀ : Frame l₀ b₀ b) (c : Nat) (f : Moder → Moder)
    (hl : [.irq] ⊆ l₀ := by first | assumption | exact Area.sub ‹_›) :
    Frame l₀ b₀ (b.modCore c f) := by
  unfold Block.modCore
  repeat' first
    | (with_reducible assumption)
    | (with_reducible exact Area.sub ‹_›)
    | (with_reducible exact Frame.refl)
    | (with_reducible apply Frame.ite)
    | (with_reducible refine Frame.foldl ?_ (fun _ _ _ => ?_))
    | (with_reducible apply frame_modIrq)
    | (with_reducible apply frame_modIrq)
    | (fail_if_no_progress extract_lets)
    | intro _
    | (with_reducible split)

theorem frame_sendVec {l₀ : List Area} {b₀ b : Block} (h₀ : Frame l₀ b₀ b) (v : Nat)
    (hl : [.regs, .irq, .out] ⊆ l₀ := by first | assumption | exact Area.sub ‹_›) :
    Frame l₀ b₀ (b.sendVec v) := by
  unfold Block.sendVec
  repeat' first
    | (with_reducible assumption)
    | (with_reducible exact Area.sub ‹_›)
    | (with_reducible exact Frame.refl)
    | (with_reducible apply Frame.ite)
    | (with_reducible refine Frame.foldl ?_ (fun _ _ _ => ?_))
    | (with_reducible apply frame_modIrq)
    | (with_reducible apply frame_modIrq)
    | (with_reducible apply frame_modVec)
    | (with_reducible apply frame_setFld)
    | (with_reducible apply frame_emit)
    | (fail_if_no_progress extract_lets)
    | intro _
    | (with_reducible split)

theorem frame_tryVec {l₀ : List Area} {b₀ b : Block} (h₀ : Frame l₀ b₀ b) (v : Nat)
    (hl : [.regs, .irq, .out] ⊆ l₀ := by first | assumption | exact Area.sub ‹_›) :
    Frame l₀ b₀ (b.tryVec v) := by
  unfold Block.tryVec
  repeat' first
    | (with_reducible assumption)
    | (with_reducible exact Area.sub ‹_›)
    | (with_reducible exact Frame.refl)
    | (with_reducible apply Frame.ite)
    | (with_reducible refine Frame.foldl ?_ (fun _ _ _ => ?_))
    | (with_reducible apply frame_modVec)
    | (with_reducible apply frame_setFld)
    | (with_reducible apply frame_sendVec)
    | (fail_if_no_progress extract_lets)
    | intro _
    | (with_reducible split)

theorem frame_lapseCores {l₀ : List Area} {b₀ b : Block} (h₀ : Frame l₀ b₀ b)
    (hl : [.irq] ⊆ l₀ := by first | assumption | exact Area.sub ‹_›) :
    Frame l₀ b₀ (b.lapseCores) := by
  unfold Block.lapseCores
  repeat' first
    | (with_reducible assumption)
    | (with_reducible exact Area.sub ‹_›)
    | (with_reducible exact Frame.refl)
    | (with_reducible apply Frame.ite)
    | (with_reducible refine Frame.foldl ?_ (fun _ _ _ => ?_))
    | (with_reducible apply frame_modCore)
    | (fail_if_no_progress extract_lets)
    | intro _
    | (with_reducible split)

theorem frame_settle {l₀ : List Area} {b₀ b : Block} (h₀ : Frame l₀ b₀ b)
    (hl : [.regs, .irq, .out] ⊆ l₀ := by first | assumption | exact Area.sub ‹_›) :
    Frame l₀ b₀ (b.settle) := by
  unfold Block.settle
  repeat' first
    | (with_reducible assumption)
    | (with_reducible exact Area.sub ‹_›)
    | (with_reducible exact Frame.refl)
    | (with_reducible apply Frame.ite)
    | (with_reducible refine Frame.foldl ?_ (fun _ _ _ => ?_))
    | (with_reducible apply frame_tryVec)
    | (with_reducible apply frame_lapseCores)
    | (fail_if_no_progress extract_lets)
    | intro _
    | (with_reducible split)

theorem frame_melarSend {l₀ : List Area} {b₀ b : Block} (h₀ : Frame l₀ b₀ b) (type : Nat) (arg : Nat) (payload : List Byte)
    (hl : [.ml, .out] ⊆ l₀ := by first | assumption | exact Area.sub ‹_›) :
    Frame l₀ b₀ (b.melarSend type arg payload) := by
  unfold Block.melarSend
  repeat' first
    | (with_reducible assumption)
    | (with_reducible exact Area.sub ‹_›)
    | (with_reducible exact Frame.refl)
    | (with_reducible apply Frame.ite)
    | (with_reducible refine Frame.foldl ?_ (fun _ _ _ => ?_))
    | (with_reducible apply frame_modMl)
    | (with_reducible apply frame_emit)
    | (fail_if_no_progress extract_lets)
    | intro _
    | (with_reducible split)

theorem frame_forward {l₀ : List Area} {b₀ b : Block} (h₀ : Frame l₀ b₀ b) (n : Nat)
    (hl : [.regs, .irq, .ml, .out] ⊆ l₀ := by first | assumption | exact Area.sub ‹_›) :
    Frame l₀ b₀ (b.forward n) := by
  unfold Block.forward
  repeat' first
    | (with_reducible assumption)
    | (with_reducible exact Area.sub ‹_›)
    | (with_reducible exact Frame.refl)
    | (with_reducible apply Frame.ite)
    | (with_reducible refine Frame.foldl ?_ (fun _ _ _ => ?_))
    | (with_reducible apply frame_bump)
    | (with_reducible apply frame_modIrq)
    | (with_reducible apply frame_modIrq)
    | (with_reducible apply frame_melarSend)
    | (fail_if_no_progress extract_lets)
    | intro _
    | (with_reducible split)

theorem frame_raiseWith {l₀ : List Area} {b₀ b : Block} (h₀ : Frame l₀ b₀ b) (n : Nat) (bypass : Bool)
    (hl : [.regs, .irq, .ml, .out] ⊆ l₀ := by first | assumption | exact Area.sub ‹_›) :
    Frame l₀ b₀ (b.raiseWith n bypass) := by
  unfold Block.raiseWith
  repeat' first
    | (with_reducible assumption)
    | (with_reducible exact Area.sub ‹_›)
    | (with_reducible apply Frame.ite)
    | (with_reducible apply frame_forward)
    | (with_reducible apply frame_tryVec)
    | (with_reducible apply frame_modVec)
    | (with_reducible apply frame_modCore)
    | (with_reducible apply frame_modIrq)
    | (fail_if_no_progress extract_lets)
    | intro _
    | (with_reducible split)

theorem frame_raise {l₀ : List Area} {b₀ b : Block} (h₀ : Frame l₀ b₀ b) (n : Nat)
    (hl : [.regs, .irq, .ml, .out] ⊆ l₀ := by first | assumption | exact Area.sub ‹_›) :
    Frame l₀ b₀ (b.raise n) := by
  unfold Block.raise
  repeat' first
    | (with_reducible assumption)
    | (with_reducible exact Area.sub ‹_›)
    | (with_reducible exact Frame.refl)
    | (with_reducible apply Frame.ite)
    | (with_reducible refine Frame.foldl ?_ (fun _ _ _ => ?_))
    | (with_reducible apply frame_raiseWith)
    | (fail_if_no_progress extract_lets)
    | intro _
    | (with_reducible split)

theorem frame_postClose {l₀ : List Area} {b₀ b : Block} (h₀ : Frame l₀ b₀ b) (n : Nat)
    (hl : [.le] ⊆ l₀ := by first | assumption | exact Area.sub ‹_›) :
    Frame l₀ b₀ (b.postClose n) := by
  unfold Block.postClose
  repeat' first
    | (with_reducible assumption)
    | (with_reducible exact Area.sub ‹_›)
    | (with_reducible exact Frame.refl)
    | (with_reducible apply Frame.ite)
    | (with_reducible refine Frame.foldl ?_ (fun _ _ _ => ?_))
    | (with_reducible apply frame_modLe)
    | (with_reducible apply frame_post)
    | (fail_if_no_progress extract_lets)
    | intro _
    | (with_reducible split)

theorem frame_clearPend {l₀ : List Area} {b₀ b : Block} (h₀ : Frame l₀ b₀ b) (f : Nat → Bool)
    (hl : [.regs, .irq, .out] ⊆ l₀ := by first | assumption | exact Area.sub ‹_›) :
    Frame l₀ b₀ (b.clearPend f) := by
  unfold Block.clearPend
  repeat' first
    | (with_reducible assumption)
    | (with_reducible exact Area.sub ‹_›)
    | (with_reducible exact Frame.refl)
    | (with_reducible apply Frame.ite)
    | (with_reducible refine Frame.foldl ?_ (fun _ _ _ => ?_))
    | (with_reducible apply frame_modIrq)
    | (with_reducible apply frame_modIrq)
    | (with_reducible apply frame_settle)
    | (fail_if_no_progress extract_lets)
    | intro _
    | (with_reducible split)

theorem frame_onSurf {l₀ : List Area} {b₀ b : Block} (h₀ : Frame l₀ b₀ b) (s : Fin 4) (f : Block → Block) (hf : ∀ c , Frame l₀ b₀ c → Frame l₀ b₀ (f c ))
    (hl : [] ⊆ l₀ := by first | assumption | exact Area.sub ‹_›) :
    Frame l₀ b₀ (b.onSurf s f) := by
  unfold Block.onSurf
  repeat' first
    | (with_reducible assumption)
    | (with_reducible exact Area.sub ‹_›)
    | (with_reducible exact Frame.refl)
    | (with_reducible apply Frame.ite)
    | (with_reducible refine Frame.foldl ?_ (fun _ _ _ => ?_))
    | (with_reducible apply hf)
    | (fail_if_no_progress extract_lets)
    | intro _
    | (with_reducible split)

theorem frame_onSpin {l₀ : List Area} {b₀ b : Block} (h₀ : Frame l₀ b₀ b) (n : Fin 2) (f : Block → Block) (hf : ∀ c , Frame l₀ b₀ c → Frame l₀ b₀ (f c ))
    (hl : [] ⊆ l₀ := by first | assumption | exact Area.sub ‹_›) :
    Frame l₀ b₀ (b.onSpin n f) := by
  unfold Block.onSpin
  repeat' first
    | (with_reducible assumption)
    | (with_reducible exact Area.sub ‹_›)
    | (with_reducible exact Frame.refl)
    | (with_reducible apply Frame.ite)
    | (with_reducible refine Frame.foldl ?_ (fun _ _ _ => ?_))
    | (with_reducible apply hf)
    | (fail_if_no_progress extract_lets)
    | intro _
    | (with_reducible split)

theorem frame_onAxis {l₀ : List Area} {b₀ b : Block} (h₀ : Frame l₀ b₀ b) (a : Fin 9) (f : Block → Block) (hf : ∀ c , Frame l₀ b₀ c → Frame l₀ b₀ (f c ))
    (hl : [] ⊆ l₀ := by first | assumption | exact Area.sub ‹_›) :
    Frame l₀ b₀ (b.onAxis a f) := by
  unfold Block.onAxis
  repeat' first
    | (with_reducible assumption)
    | (with_reducible exact Area.sub ‹_›)
    | (with_reducible exact Frame.refl)
    | (with_reducible apply Frame.ite)
    | (with_reducible refine Frame.foldl ?_ (fun _ _ _ => ?_))
    | (with_reducible apply hf)
    | (fail_if_no_progress extract_lets)
    | intro _
    | (with_reducible split)

theorem frame_onBeam {l₀ : List Area} {b₀ b : Block} (h₀ : Frame l₀ b₀ b) (n : Fin 64) (f : Block → Block) (hf : ∀ c , Frame l₀ b₀ c → Frame l₀ b₀ (f c ))
    (hl : [] ⊆ l₀ := by first | assumption | exact Area.sub ‹_›) :
    Frame l₀ b₀ (b.onBeam n f) := by
  unfold Block.onBeam
  repeat' first
    | (with_reducible assumption)
    | (with_reducible exact Area.sub ‹_›)
    | (with_reducible exact Frame.refl)
    | (with_reducible apply Frame.ite)
    | (with_reducible refine Frame.foldl ?_ (fun _ _ _ => ?_))
    | (with_reducible apply hf)
    | (fail_if_no_progress extract_lets)
    | intro _
    | (with_reducible split)

theorem frame_raiseSurf {l₀ : List Area} {b₀ b : Block} (h₀ : Frame l₀ b₀ b) (s : Fin 4) (k : Nat)
    (hl : [.regs, .irq, .ml, .out] ⊆ l₀ := by first | assumption | exact Area.sub ‹_›) :
    Frame l₀ b₀ (b.raiseSurf s k) := by
  unfold Block.raiseSurf
  repeat' first
    | (with_reducible assumption)
    | (with_reducible exact Area.sub ‹_›)
    | (with_reducible exact Frame.refl)
    | (with_reducible apply Frame.ite)
    | (with_reducible refine Frame.foldl ?_ (fun _ _ _ => ?_))
    | (with_reducible apply frame_raise)
    | (fail_if_no_progress extract_lets)
    | intro _
    | (with_reducible split)

theorem frame_raiseSpin {l₀ : List Area} {b₀ b : Block} (h₀ : Frame l₀ b₀ b) (n : Fin 2) (k : Nat)
    (hl : [.regs, .irq, .ml, .out] ⊆ l₀ := by first | assumption | exact Area.sub ‹_›) :
    Frame l₀ b₀ (b.raiseSpin n k) := by
  unfold Block.raiseSpin
  repeat' first
    | (with_reducible assumption)
    | (with_reducible exact Area.sub ‹_›)
    | (with_reducible exact Frame.refl)
    | (with_reducible apply Frame.ite)
    | (with_reducible refine Frame.foldl ?_ (fun _ _ _ => ?_))
    | (with_reducible apply frame_raise)
    | (fail_if_no_progress extract_lets)
    | intro _
    | (with_reducible split)

theorem frame_raiseAxis {l₀ : List Area} {b₀ b : Block} (h₀ : Frame l₀ b₀ b) (a : Fin 9) (k : Nat)
    (hl : [.regs, .irq, .ml, .out] ⊆ l₀ := by first | assumption | exact Area.sub ‹_›) :
    Frame l₀ b₀ (b.raiseAxis a k) := by
  unfold Block.raiseAxis
  repeat' first
    | (with_reducible assumption)
    | (with_reducible exact Area.sub ‹_›)
    | (with_reducible exact Frame.refl)
    | (with_reducible apply Frame.ite)
    | (with_reducible refine Frame.foldl ?_ (fun _ _ _ => ?_))
    | (with_reducible apply frame_raise)
    | (fail_if_no_progress extract_lets)
    | intro _
    | (with_reducible split)

theorem frame_sedge {l₀ : List Area} {b₀ b : Block} (h₀ : Frame l₀ b₀ b) (s : Fin 4) (f : SedgeFrame)
    (hl : [.out] ⊆ l₀ := by first | assumption | exact Area.sub ‹_›) :
    Frame l₀ b₀ (b.sedge s f) := by
  unfold Block.sedge
  repeat' first
    | (with_reducible assumption)
    | (with_reducible exact Area.sub ‹_›)
    | (with_reducible exact Frame.refl)
    | (with_reducible apply Frame.ite)
    | (with_reducible refine Frame.foldl ?_ (fun _ _ _ => ?_))
    | (with_reducible apply frame_emit)
    | (fail_if_no_progress extract_lets)
    | intro _
    | (with_reducible split)

/-! ### Machine/TelOps.lean -/

theorem frame_modCalSurf {l₀ : List Area} {b₀ b : Block} (h₀ : Frame l₀ b₀ b) (s : Fin 4) (f : CalSurf → CalSurf)
    (hl : [.cal] ⊆ l₀ := by first | assumption | exact Area.sub ‹_›) :
    Frame l₀ b₀ (b.modCalSurf s f) := by
  unfold Block.modCalSurf
  repeat' first
    | (with_reducible assumption)
    | (with_reducible exact Area.sub ‹_›)
    | (with_reducible exact Frame.refl)
    | (with_reducible apply Frame.ite)
    | (with_reducible refine Frame.foldl ?_ (fun _ _ _ => ?_))
    | (with_reducible apply frame_modCal)
    | (fail_if_no_progress extract_lets)
    | intro _
    | (with_reducible split)

theorem frame_telRecord {l₀ : List Area} {b₀ b : Block} (h₀ : Frame l₀ b₀ b) (set : Nat) (inst : Nat) (fields : List (Nat × Nat × Nat))
    (hl : [.regs, .irq, .cal, .ml, .out] ⊆ l₀ := by first | assumption | exact Area.sub ‹_›) :
    Frame l₀ b₀ (b.telRecord set inst fields) := by
  unfold Block.telRecord
  repeat' first
    | (with_reducible assumption)
    | (with_reducible exact Area.sub ‹_›)
    | (with_reducible exact Frame.refl)
    | (with_reducible apply Frame.ite)
    | (with_reducible refine Frame.foldl ?_ (fun _ _ _ => ?_))
    | (with_reducible apply frame_modCal)
    | (with_reducible apply frame_raise)
    | (fail_if_no_progress extract_lets)
    | intro _
    | (with_reducible split)

theorem frame_persistTel {l₀ : List Area} {b₀ b : Block} (h₀ : Frame l₀ b₀ b)
    (hl : [.regs, .irq, .cal, .ml, .out] ⊆ l₀ := by first | assumption | exact Area.sub ‹_›) :
    Frame l₀ b₀ (b.persistTel) := by
  unfold Block.persistTel
  repeat' first
    | (with_reducible assumption)
    | (with_reducible exact Area.sub ‹_›)
    | (with_reducible exact Frame.refl)
    | (with_reducible apply Frame.ite)
    | (with_reducible refine Frame.foldl ?_ (fun _ _ _ => ?_))
    | (with_reducible apply frame_modCal)
    | (with_reducible apply frame_raise)
    | (fail_if_no_progress extract_lets)
    | intro _
    | (with_reducible split)

theorem frame_calKind {l₀ : List Area} {b₀ b : Block} (h₀ : Frame l₀ b₀ b)
    (hl : [.regs] ⊆ l₀ := by first | assumption | exact Area.sub ‹_›) :
    Frame l₀ b₀ (b.calKind) := by
  unfold Block.calKind
  repeat' first
    | (with_reducible assumption)
    | (with_reducible exact Area.sub ‹_›)
    | (with_reducible exact Frame.refl)
    | (with_reducible apply Frame.ite)
    | (with_reducible refine Frame.foldl ?_ (fun _ _ _ => ?_))
    | (with_reducible apply frame_run)
    | (with_reducible apply frame_setFld)
    | (fail_if_no_progress extract_lets)
    | intro _
    | (with_reducible split)

theorem frame_calEnd {l₀ : List Area} {b₀ b : Block} (h₀ : Frame l₀ b₀ b) (s : Fin 4) (result : Nat) (values : List Nat)
    (hl : [.regs, .irq, .cal, .ml, .out] ⊆ l₀ := by first | assumption | exact Area.sub ‹_›) :
    Frame l₀ b₀ (b.calEnd s result values) := by
  unfold Block.calEnd
  repeat' first
    | (with_reducible assumption)
    | (with_reducible exact Area.sub ‹_›)
    | (with_reducible exact Frame.refl)
    | (with_reducible apply Frame.ite)
    | (with_reducible refine Frame.foldl ?_ (fun _ _ _ => ?_))
    | (with_reducible apply frame_run)
    | (with_reducible apply frame_modCalSurf)
    | (with_reducible apply frame_putBit)
    | (with_reducible apply frame_calKind)
    | (with_reducible apply frame_telRecord)
    | (fail_if_no_progress extract_lets)
    | intro _
    | (with_reducible split)

theorem frame_calAbandon {l₀ : List Area} {b₀ b : Block} (h₀ : Frame l₀ b₀ b) (s : Fin 4)
    (hl : [.regs, .irq, .cal, .ml, .out] ⊆ l₀ := by first | assumption | exact Area.sub ‹_›) :
    Frame l₀ b₀ (b.calAbandon s) := by
  unfold Block.calAbandon
  repeat' first
    | (with_reducible assumption)
    | (with_reducible exact Area.sub ‹_›)
    | (with_reducible exact Frame.refl)
    | (with_reducible apply Frame.ite)
    | (with_reducible refine Frame.foldl ?_ (fun _ _ _ => ?_))
    | (with_reducible apply frame_run)
    | (with_reducible apply frame_calEnd)
    | (with_reducible apply frame_bump)
    | (with_reducible apply frame_setFld)
    | (with_reducible apply frame_raise)
    | (fail_if_no_progress extract_lets)
    | intro _
    | (with_reducible split)

theorem frame_calPowerWrite {l₀ : List Area} {b₀ b : Block} (h₀ : Frame l₀ b₀ b) (s : Fin 4)
    (hl : [.regs, .irq, .cal, .ml, .out] ⊆ l₀ := by first | assumption | exact Area.sub ‹_›) :
    Frame l₀ b₀ (b.calPowerWrite s) := by
  unfold Block.calPowerWrite
  repeat' first
    | (with_reducible assumption)
    | (with_reducible exact Area.sub ‹_›)
    | (with_reducible exact Frame.refl)
    | (with_reducible apply Frame.ite)
    | (with_reducible refine Frame.foldl ?_ (fun _ _ _ => ?_))
    | (with_reducible apply frame_run)
    | (with_reducible apply frame_calAbandon)
    | (fail_if_no_progress extract_lets)
    | intro _
    | (with_reducible split)

/-! ### Machine/Operands.lean -/

theorem frame_commitData {l₀ : List Area} {b₀ b : Block} (h₀ : Frame l₀ b₀ b) (a : Nat) (v : Word)
    (hl : [.regs, .le] ⊆ l₀ := by first | assumption | exact Area.sub ‹_›) :
    Frame l₀ b₀ (b.commitData a v) := by
  unfold Block.commitData
  repeat' first
    | (with_reducible assumption)
    | (with_reducible exact Area.sub ‹_›)
    | (with_reducible exact Frame.refl)
    | (with_reducible apply Frame.ite)
    | (with_reducible refine Frame.foldl ?_ (fun _ _ _ => ?_))
    | (with_reducible apply frame_modLe)
    | (with_reducible apply frame_wr)
    | (fail_if_no_progress extract_lets)
    | intro _
    | (with_reducible split)

/-! ### Machine/HostOps.lean -/

theorem frame_modVol {l₀ : List Area} {b₀ b : Block} (h₀ : Frame l₀ b₀ b) (f : Vol → Vol)
    (hl : [.store] ⊆ l₀ := by first | assumption | exact Area.sub ‹_›) :
    Frame l₀ b₀ (b.modVol f) := by
  unfold Block.modVol
  repeat' first
    | (with_reducible assumption)
    | (with_reducible exact Area.sub ‹_›)
    | (with_reducible exact Frame.refl)
    | (with_reducible apply Frame.ite)
    | (with_reducible refine Frame.foldl ?_ (fun _ _ _ => ?_))
    | (with_reducible apply frame_modStore)
    | (fail_if_no_progress extract_lets)
    | intro _
    | (with_reducible split)

theorem frame_modCmd {l₀ : List Area} {b₀ b : Block} (h₀ : Frame l₀ b₀ b) (tag : Nat) (f : Cmd → Cmd)
    (hl : [.hq] ⊆ l₀ := by first | assumption | exact Area.sub ‹_›) :
    Frame l₀ b₀ (b.modCmd tag f) := by
  unfold Block.modCmd
  repeat' first
    | (with_reducible assumption)
    | (with_reducible exact Area.sub ‹_›)
    | (with_reducible exact Frame.refl)
    | (with_reducible apply Frame.ite)
    | (with_reducible refine Frame.foldl ?_ (fun _ _ _ => ?_))
    | (with_reducible apply frame_modHq)
    | (fail_if_no_progress extract_lets)
    | intro _
    | (with_reducible split)

theorem frame_finish {l₀ : List Area} {b₀ b : Block} (h₀ : Frame l₀ b₀ b) (tag : Nat) (f : Finish)
    (hl : [.hq] ⊆ l₀ := by first | assumption | exact Area.sub ‹_›) :
    Frame l₀ b₀ (b.finish tag f) := by
  unfold Block.finish
  repeat' first
    | (with_reducible assumption)
    | (with_reducible exact Area.sub ‹_›)
    | (with_reducible exact Frame.refl)
    | (with_reducible apply Frame.ite)
    | (with_reducible refine Frame.foldl ?_ (fun _ _ _ => ?_))
    | (with_reducible apply frame_modCmd)
    | (fail_if_no_progress extract_lets)
    | intro _
    | (with_reducible split)

theorem frame_dropClaims {l₀ : List Area} {b₀ b : Block} (h₀ : Frame l₀ b₀ b) (tag : Nat)
    (hl : [.hq, .store] ⊆ l₀ := by first | assumption | exact Area.sub ‹_›) :
    Frame l₀ b₀ (b.dropClaims tag) := by
  unfold Block.dropClaims
  repeat' first
    | (with_reducible assumption)
    | (with_reducible exact Area.sub ‹_›)
    | (with_reducible exact Frame.refl)
    | (with_reducible apply Frame.ite)
    | (with_reducible refine Frame.foldl ?_ (fun _ _ _ => ?_))
    | (with_reducible apply frame_modHq)
    | (with_reducible apply frame_modVol)
    | (with_reducible apply frame_modCmd)
    | (fail_if_no_progress extract_lets)
    | intro _
    | (with_reducible split)

theorem frame_claimsTaken {l₀ : List Area} {b₀ b : Block} (h₀ : Frame l₀ b₀ b) (tag : Nat)
    (hl : [.hq] ⊆ l₀ := by first | assumption | exact Area.sub ‹_›) :
    Frame l₀ b₀ (b.claimsTaken tag) := by
  unfold Block.claimsTaken
  repeat' first
    | (with_reducible assumption)
    | (with_reducible exact Area.sub ‹_›)
    | (with_reducible exact Frame.refl)
    | (with_reducible apply Frame.ite)
    | (with_reducible refine Frame.foldl ?_ (fun _ _ _ => ?_))
    | (with_reducible apply frame_modCmd)
    | (fail_if_no_progress extract_lets)
    | intro _
    | (with_reducible split)

theorem frame_closeOne {l₀ : List Area} {b₀ b : Block} (h₀ : Frame l₀ b₀ b) (t : Nat)
    (hl : [.store] ⊆ l₀ := by first | assumption | exact Area.sub ‹_›) :
    Frame l₀ b₀ (b.closeOne t) := by
  unfold Block.closeOne
  repeat' first
    | (with_reducible assumption)
    | (with_reducible exact Area.sub ‹_›)
    | (with_reducible exact Frame.refl)
    | (with_reducible apply Frame.ite)
    | (with_reducible refine Frame.foldl ?_ (fun _ _ _ => ?_))
    | (with_reducible apply frame_modVol)
    | (fail_if_no_progress extract_lets)
    | intro _
    | (with_reducible split)

theorem frame_closeRec {l₀ : List Area} {b₀ b : Block} (h₀ : Frame l₀ b₀ b) (t : Nat)
    (hl : [.store] ⊆ l₀ := by first | assumption | exact Area.sub ‹_›) :
    Frame l₀ b₀ (b.closeRec t) := by
  unfold Block.closeRec
  repeat' first
    | (with_reducible assumption)
    | (with_reducible exact Area.sub ‹_›)
    | (with_reducible exact Frame.refl)
    | (with_reducible apply Frame.ite)
    | (with_reducible refine Frame.foldl ?_ (fun _ _ _ => ?_))
    | (with_reducible apply frame_closeOne)
    | (fail_if_no_progress extract_lets)
    | intro _
    | (with_reducible split)

theorem frame_closeAll {l₀ : List Area} {b₀ b : Block} (h₀ : Frame l₀ b₀ b)
    (hl : [.store] ⊆ l₀ := by first | assumption | exact Area.sub ‹_›) :
    Frame l₀ b₀ (b.closeAll) := by
  unfold Block.closeAll
  repeat' first
    | (with_reducible assumption)
    | (with_reducible exact Area.sub ‹_›)
    | (with_reducible exact Frame.refl)
    | (with_reducible apply Frame.ite)
    | (with_reducible refine Frame.foldl ?_ (fun _ _ _ => ?_))
    | (with_reducible apply frame_closeRec)
    | (fail_if_no_progress extract_lets)
    | intro _
    | (with_reducible split)

theorem frame_journalEntry {l₀ : List Area} {b₀ b : Block} (h₀ : Frame l₀ b₀ b) (rtype : Nat) (bytes : List Byte)
    (hl : [.store] ⊆ l₀ := by first | assumption | exact Area.sub ‹_›) :
    Frame l₀ b₀ (b.journalEntry rtype bytes) := by
  unfold Block.journalEntry
  repeat' first
    | (with_reducible assumption)
    | (with_reducible exact Area.sub ‹_›)
    | (with_reducible exact Frame.refl)
    | (with_reducible apply Frame.ite)
    | (with_reducible refine Frame.foldl ?_ (fun _ _ _ => ?_))
    | (with_reducible apply frame_modVol)
    | (with_reducible apply frame_closeRec)
    | (fail_if_no_progress extract_lets)
    | intro _
    | (with_reducible split)

theorem frame_recordFails {l₀ : List Area} {b₀ b : Block} (h₀ : Frame l₀ b₀ b) (k : Nat) (failed : Nat)
    (hl : [.wp] ⊆ l₀ := by first | assumption | exact Area.sub ‹_›) :
    Frame l₀ b₀ (b.recordFails k failed) := by
  unfold Block.recordFails
  repeat' first
    | (with_reducible assumption)
    | (with_reducible exact Area.sub ‹_›)
    | (with_reducible exact Frame.refl)
    | (with_reducible apply Frame.ite)
    | (with_reducible refine Frame.foldl ?_ (fun _ _ _ => ?_))
    | (with_reducible apply frame_modWp)
    | (fail_if_no_progress extract_lets)
    | intro _
    | (with_reducible split)

theorem frame_bandEntryFor {l₀ : List Area} {b₀ b : Block} (h₀ : Frame l₀ b₀ b) (k : Nat) (failed : Nat)
    (hl : [.wp, .store] ⊆ l₀ := by first | assumption | exact Area.sub ‹_›) :
    Frame l₀ b₀ (b.bandEntryFor k failed) := by
  unfold Block.bandEntryFor
  repeat' first
    | (with_reducible assumption)
    | (with_reducible exact Area.sub ‹_›)
    | (with_reducible exact Frame.refl)
    | (with_reducible apply Frame.ite)
    | (with_reducible refine Frame.foldl ?_ (fun _ _ _ => ?_))
    | (with_reducible apply frame_recordFails)
    | (with_reducible apply frame_journalEntry)
    | (fail_if_no_progress extract_lets)
    | intro _
    | (with_reducible split)

theorem frame_voidEntry {l₀ : List Area} {b₀ b : Block} (h₀ : Frame l₀ b₀ b) (k : Nat) (swath : Nat) (wseq : Nat)
    (hl : [.store] ⊆ l₀ := by first | assumption | exact Area.sub ‹_›) :
    Frame l₀ b₀ (b.voidEntry k swath wseq) := by
  unfold Block.voidEntry
  repeat' first
    | (with_reducible assumption)
    | (with_reducible exact Area.sub ‹_›)
    | (with_reducible exact Frame.refl)
    | (with_reducible apply Frame.ite)
    | (with_reducible refine Frame.foldl ?_ (fun _ _ _ => ?_))
    | (with_reducible apply frame_journalEntry)
    | (fail_if_no_progress extract_lets)
    | intro _
    | (with_reducible split)

theorem frame_setTxMseq {l₀ : List Area} {b₀ b : Block} (h₀ : Frame l₀ b₀ b) (n : Nat)
    (hl : [.regs] ⊆ l₀ := by first | assumption | exact Area.sub ‹_›) :
    Frame l₀ b₀ (b.setTxMseq n) := by
  unfold Block.setTxMseq
  repeat' first
    | (with_reducible assumption)
    | (with_reducible exact Area.sub ‹_›)
    | (with_reducible exact Frame.refl)
    | (with_reducible apply Frame.ite)
    | (with_reducible refine Frame.foldl ?_ (fun _ _ _ => ?_))
    | (with_reducible apply frame_setFld)
    | (fail_if_no_progress extract_lets)
    | intro _
    | (with_reducible split)

theorem frame_mirrorCat {l₀ : List Area} {b₀ b : Block} (h₀ : Frame l₀ b₀ b) (rtype : Nat) (bytes : List Byte)
    (hl : [.regs, .ml, .out] ⊆ l₀ := by first | assumption | exact Area.sub ‹_›) :
    Frame l₀ b₀ (b.mirrorCat rtype bytes) := by
  unfold Block.mirrorCat
  repeat' first
    | (with_reducible assumption)
    | (with_reducible exact Area.sub ‹_›)
    | (with_reducible exact Frame.refl)
    | (with_reducible apply Frame.ite)
    | (with_reducible refine Frame.foldl ?_ (fun _ _ _ => ?_))
    | (with_reducible apply frame_setTxMseq)
    | (with_reducible apply frame_melarSend)
    | (with_reducible apply frame_modMl)
    | (fail_if_no_progress extract_lets)
    | intro _
    | (with_reducible split)

theorem frame_journalBoth {l₀ : List Area} {b₀ b : Block} (h₀ : Frame l₀ b₀ b) (rtype : Nat) (bytes : List Byte)
    (hl : [.regs, .store, .ml, .out] ⊆ l₀ := by first | assumption | exact Area.sub ‹_›) :
    Frame l₀ b₀ (b.journalBoth rtype bytes) := by
  unfold Block.journalBoth
  repeat' first
    | (with_reducible assumption)
    | (with_reducible exact Area.sub ‹_›)
    | (with_reducible exact Frame.refl)
    | (with_reducible apply Frame.ite)
    | (with_reducible refine Frame.foldl ?_ (fun _ _ _ => ?_))
    | (with_reducible apply frame_journalEntry)
    | (with_reducible apply frame_mirrorCat)
    | (fail_if_no_progress extract_lets)
    | intro _
    | (with_reducible split)

theorem frame_modClip {l₀ : List Area} {b₀ b : Block} (h₀ : Frame l₀ b₀ b) (n : Nat) (f : Clip → Clip)
    (hl : [.store] ⊆ l₀ := by first | assumption | exact Area.sub ‹_›) :
    Frame l₀ b₀ (b.modClip n f) := by
  unfold Block.modClip
  repeat' first
    | (with_reducible assumption)
    | (with_reducible exact Area.sub ‹_›)
    | (with_reducible exact Frame.refl)
    | (with_reducible apply Frame.ite)
    | (with_reducible refine Frame.foldl ?_ (fun _ _ _ => ?_))
    | (with_reducible apply frame_modVol)
    | (fail_if_no_progress extract_lets)
    | intro _
    | (with_reducible split)

theorem frame_skipFrames {l₀ : List Area} {b₀ b : Block} (h₀ : Frame l₀ b₀ b) (clip : Nat) (first : Nat) (n : Nat)
    (hl : [.regs, .store, .ml, .out] ⊆ l₀ := by first | assumption | exact Area.sub ‹_›) :
    Frame l₀ b₀ (b.skipFrames clip first n) := by
  unfold Block.skipFrames
  repeat' first
    | (with_reducible assumption)
    | (with_reducible exact Area.sub ‹_›)
    | (with_reducible exact Frame.refl)
    | (with_reducible apply Frame.ite)
    | (with_reducible refine Frame.foldl ?_ (fun _ _ _ => ?_))
    | (with_reducible apply frame_modClip)
    | (with_reducible apply frame_journalBoth)
    | (fail_if_no_progress extract_lets)
    | intro _
    | (with_reducible split)

theorem frame_elogAdd {l₀ : List Area} {b₀ b : Block} (h₀ : Frame l₀ b₀ b) (fields : List (Nat × Nat × Nat))
    (damage : List (Nat × Nat × Nat))
    (hl : [.regs, .irq, .hq, .ml, .out] ⊆ l₀ := by first | assumption | exact Area.sub ‹_›) : Frame l₀ b₀ (b.elogAdd fields damage).2 := by
  unfold Block.elogAdd
  extract_lets
  refine Frame.pair rfl ?_
  exact frame_raise (frame_setFld (frame_modHq h₀ _) _ _) _

theorem frame_async {l₀ : List Area} {b₀ b : Block} (h₀ : Frame l₀ b₀ b) (t : Nat) (info : Nat) (data : Nat)
    (hl : [.hq] ⊆ l₀ := by first | assumption | exact Area.sub ‹_›) :
    Frame l₀ b₀ (b.async t info data) := by
  unfold Block.async
  repeat' first
    | (with_reducible assumption)
    | (with_reducible exact Area.sub ‹_›)
    | (with_reducible exact Frame.refl)
    | (with_reducible apply Frame.ite)
    | (with_reducible refine Frame.foldl ?_ (fun _ _ _ => ?_))
    | (with_reducible apply frame_modHq)
    | (with_reducible apply frame_finish)
    | (fail_if_no_progress extract_lets)
    | intro _
    | (with_reducible split)

theorem frame_elogNoCmd {l₀ : List Area} {b₀ b : Block} (h₀ : Frame l₀ b₀ b) (pair : Nat) (detail : Nat) (addr : Nat)
    (hl : [.regs, .irq, .hq, .ml, .out] ⊆ l₀ := by first | assumption | exact Area.sub ‹_›) :
    Frame l₀ b₀ (b.elogNoCmd pair detail addr) := by
  unfold Block.elogNoCmd
  repeat' first
    | (with_reducible assumption)
    | (with_reducible exact Area.sub ‹_›)
    | (with_reducible exact Frame.refl)
    | (with_reducible apply Frame.ite)
    | (with_reducible refine Frame.foldl ?_ (fun _ _ _ => ?_))
    | (with_reducible apply Frame.ite2)
    | (with_reducible refine Frame.snd (by with_reducible assumption) ?_)
    | (with_reducible refine Frame.thd (by with_reducible assumption) ?_)
    | (with_reducible apply frame_elogAdd)
    | (with_reducible apply frame_async)
    | (fail_if_no_progress extract_lets)
    | intro _
    | (with_reducible split)

theorem frame_placeEntries {l₀ : List Area} {b₀ b : Block} (h₀ : Frame l₀ b₀ b)
    (hl : [.regs, .hq] ⊆ l₀ := by first | assumption | exact Area.sub ‹_›) :
    Frame l₀ b₀ (b.placeEntries) := by
  unfold Block.placeEntries
  repeat' first
    | (with_reducible assumption)
    | (with_reducible exact Area.sub ‹_›)
    | (with_reducible exact Frame.refl)
    | (with_reducible apply Frame.ite)
    | (with_reducible refine Frame.foldl ?_ (fun _ _ _ => ?_))
    | (with_reducible apply frame_modCmd)
    | (with_reducible apply frame_setFld)
    | (fail_if_no_progress extract_lets)
    | intro _
    | (with_reducible split)

theorem frame_mirrorDone {l₀ : List Area} {b₀ b : Block} (h₀ : Frame l₀ b₀ b) (c : Cmd) (status : Nat)
    (hl : [.ml, .out] ⊆ l₀ := by first | assumption | exact Area.sub ‹_›) :
    Frame l₀ b₀ (b.mirrorDone c status) := by
  unfold Block.mirrorDone
  repeat' first
    | (with_reducible assumption)
    | (with_reducible exact Area.sub ‹_›)
    | (with_reducible exact Frame.refl)
    | (with_reducible apply Frame.ite)
    | (with_reducible refine Frame.foldl ?_ (fun _ _ _ => ?_))
    | (with_reducible apply frame_melarSend)
    | (fail_if_no_progress extract_lets)
    | intro _
    | (with_reducible split)

theorem frame_postOne {l₀ : List Area} {b₀ b : Block} (h₀ : Frame l₀ b₀ b) (c : Cmd) (f : Finish)
    (hl : [.regs, .irq, .hq, .store, .ml, .out] ⊆ l₀ := by first | assumption | exact Area.sub ‹_›) :
    Frame l₀ b₀ (b.postOne c f) := by
  unfold Block.postOne
  repeat' first
    | (with_reducible assumption)
    | (with_reducible exact Area.sub ‹_›)
    | (with_reducible exact Frame.refl)
    | (with_reducible apply Frame.ite)
    | (with_reducible refine Frame.foldl ?_ (fun _ _ _ => ?_))
    | (with_reducible apply Frame.ite2)
    | (with_reducible refine Frame.snd (by with_reducible assumption) ?_)
    | (with_reducible refine Frame.thd (by with_reducible assumption) ?_)
    | (with_reducible apply frame_mirrorDone)
    | (with_reducible apply frame_dropClaims)
    | (with_reducible apply frame_modHq)
    | (with_reducible apply frame_async)
    | (with_reducible apply frame_skipFrames)
    | (with_reducible apply frame_placeEntries)
    | (with_reducible apply frame_elogAdd)
    | (with_reducible apply frame_emit)
    | (with_reducible apply frame_setFld)
    | (with_reducible apply frame_bump)
    | (with_reducible apply frame_raise)
    | (fail_if_no_progress extract_lets)
    | intro _
    | (with_reducible split)

theorem frame_postAll {l₀ : List Area} {b₀ b : Block} (h₀ : Frame l₀ b₀ b) (cs : List Cmd) (status : Nat)
    (hl : [.regs, .irq, .hq, .store, .ml, .out] ⊆ l₀ := by first | assumption | exact Area.sub ‹_›) :
    Frame l₀ b₀ (b.postAll cs status) := by
  unfold Block.postAll
  repeat' first
    | (with_reducible assumption)
    | (with_reducible exact Area.sub ‹_›)
    | (with_reducible exact Frame.refl)
    | (with_reducible apply Frame.ite)
    | (with_reducible refine Frame.foldl ?_ (fun _ _ _ => ?_))
    | (with_reducible apply frame_postOne)
    | (fail_if_no_progress extract_lets)
    | intro _
    | (with_reducible split)

theorem frame_freeze {l₀ : List Area} {b₀ b : Block} (h₀ : Frame l₀ b₀ b) (q : Nat)
    (hl : [.regs, .irq, .hq, .store, .ml, .out] ⊆ l₀ := by first | assumption | exact Area.sub ‹_›) :
    Frame l₀ b₀ (b.freeze q) := by
  unfold Block.freeze
  repeat' first
    | (with_reducible assumption)
    | (with_reducible exact Area.sub ‹_›)
    | (with_reducible exact Frame.refl)
    | (with_reducible apply Frame.ite)
    | (with_reducible refine Frame.foldl ?_ (fun _ _ _ => ?_))
    | (with_reducible apply frame_putBit)
    | (with_reducible apply frame_raise)
    | (with_reducible apply frame_postAll)
    | (fail_if_no_progress extract_lets)
    | intro _
    | (with_reducible split)

theorem frame_post {l₀ : List Area} {b₀ b : Block} (h₀ : Frame l₀ b₀ b) (c : Cmd) (f : Finish)
    (hl : [.regs, .irq, .hq, .store, .ml, .out] ⊆ l₀ := by first | assumption | exact Area.sub ‹_›) :
    Frame l₀ b₀ (b.post c f) := by
  unfold Block.post
  repeat' first
    | (with_reducible assumption)
    | (with_reducible exact Area.sub ‹_›)
    | (with_reducible exact Frame.refl)
    | (with_reducible apply Frame.ite)
    | (with_reducible refine Frame.foldl ?_ (fun _ _ _ => ?_))
    | (with_reducible apply frame_postOne)
    | (with_reducible apply frame_freeze)
    | (fail_if_no_progress extract_lets)
    | intro _
    | (with_reducible split)

theorem frame_surfDown {l₀ : List Area} {b₀ b : Block} (h₀ : Frame l₀ b₀ b) (s : Fin 4) (cause : Nat)
    (hl : [.servo, .hq] ⊆ l₀ := by first | assumption | exact Area.sub ‹_›) :
    Frame l₀ b₀ (b.surfDown s cause) := by
  unfold Block.surfDown
  repeat' first
    | (with_reducible assumption)
    | (with_reducible exact Area.sub ‹_›)
    | (with_reducible exact Frame.refl)
    | (with_reducible apply Frame.ite)
    | (with_reducible refine Frame.foldl ?_ (fun _ _ _ => ?_))
    | (with_reducible apply frame_modServo)
    | (with_reducible apply frame_async)
    | (fail_if_no_progress extract_lets)
    | intro _
    | (with_reducible split)

theorem frame_surfUp {l₀ : List Area} {b₀ b : Block} (h₀ : Frame l₀ b₀ b) (s : Fin 4)
    (hl : [.servo, .hq] ⊆ l₀ := by first | assumption | exact Area.sub ‹_›) :
    Frame l₀ b₀ (b.surfUp s) := by
  unfold Block.surfUp
  repeat' first
    | (with_reducible assumption)
    | (with_reducible exact Area.sub ‹_›)
    | (with_reducible exact Frame.refl)
    | (with_reducible apply Frame.ite)
    | (with_reducible refine Frame.foldl ?_ (fun _ _ _ => ?_))
    | (with_reducible apply frame_modServo)
    | (with_reducible apply frame_async)
    | (fail_if_no_progress extract_lets)
    | intro _
    | (with_reducible split)

/-! ### Machine/SurfOps.lean -/

theorem frame_sendPower {l₀ : List Area} {b₀ b : Block} (h₀ : Frame l₀ b₀ b) (s : Fin 4)
    (hl : [.se, .out] ⊆ l₀ := by first | assumption | exact Area.sub ‹_›) :
    Frame l₀ b₀ (b.sendPower s) := by
  unfold Block.sendPower
  repeat' first
    | (with_reducible assumption)
    | (with_reducible exact Area.sub ‹_›)
    | (with_reducible exact Frame.refl)
    | (with_reducible apply Frame.ite)
    | (with_reducible refine Frame.foldl ?_ (fun _ _ _ => ?_))
    | (with_reducible apply frame_sedge)
    | (with_reducible apply frame_modSe)
    | (fail_if_no_progress extract_lets)
    | intro _
    | (with_reducible split)

theorem frame_applyHolds {l₀ : List Area} {b₀ b : Block} (h₀ : Frame l₀ b₀ b) (s : Fin 4)
    (hl : [.regs] ⊆ l₀ := by first | assumption | exact Area.sub ‹_›) :
    Frame l₀ b₀ (b.applyHolds s) := by
  unfold Block.applyHolds
  repeat' first
    | (with_reducible assumption)
    | (with_reducible exact Area.sub ‹_›)
    | (with_reducible exact Frame.refl)
    | (with_reducible apply Frame.ite)
    | (with_reducible refine Frame.foldl ?_ (fun _ _ _ => ?_))
    | (with_reducible apply frame_setFld)
    | (fail_if_no_progress extract_lets)
    | intro _
    | (with_reducible split)

theorem frame_applyAllHolds {l₀ : List Area} {b₀ b : Block} (h₀ : Frame l₀ b₀ b)
    (hl : [.regs] ⊆ l₀ := by first | assumption | exact Area.sub ‹_›) :
    Frame l₀ b₀ (b.applyAllHolds) := by
  unfold Block.applyAllHolds
  repeat' first
    | (with_reducible assumption)
    | (with_reducible exact Area.sub ‹_›)
    | (with_reducible exact Frame.refl)
    | (with_reducible apply Frame.ite)
    | (with_reducible refine Frame.foldl ?_ (fun _ _ _ => ?_))
    | (with_reducible apply frame_applyHolds)
    | (fail_if_no_progress extract_lets)
    | intro _
    | (with_reducible split)

theorem frame_advanceVseq {l₀ : List Area} {b₀ b : Block} (h₀ : Frame l₀ b₀ b) (s : Fin 4)
    (hl : [.regs, .wp] ⊆ l₀ := by first | assumption | exact Area.sub ‹_›) :
    Frame l₀ b₀ (b.advanceVseq s) := by
  unfold Block.advanceVseq
  repeat' first
    | (with_reducible assumption)
    | (with_reducible exact Area.sub ‹_›)
    | (with_reducible exact Frame.refl)
    | (with_reducible apply Frame.ite)
    | (with_reducible refine Frame.foldl ?_ (fun _ _ _ => ?_))
    | (with_reducible apply frame_setFld)
    | (with_reducible apply frame_modWp)
    | (fail_if_no_progress extract_lets)
    | intro _
    | (with_reducible split)

theorem frame_failBeam {l₀ : List Area} {b₀ b : Block} (h₀ : Frame l₀ b₀ b) (s : Fin 4) (k : Nat)
    (hl : [.regs, .irq, .servo, .wp, .hq, .store, .ml, .out] ⊆ l₀ := by first | assumption | exact Area.sub ‹_›) :
    Frame l₀ b₀ (b.failBeam s k) := by
  unfold Block.failBeam
  repeat' first
    | (with_reducible assumption)
    | (with_reducible exact Area.sub ‹_›)
    | (with_reducible exact Frame.refl)
    | (with_reducible apply Frame.ite)
    | (with_reducible refine Frame.foldl ?_ (fun _ _ _ => ?_))
    | (with_reducible apply frame_putBit)
    | (with_reducible apply frame_modWp)
    | (with_reducible apply frame_surfDown)
    | (with_reducible apply frame_bandEntryFor)
    | (with_reducible apply frame_raiseSurf)
    | (fail_if_no_progress extract_lets)
    | intro _
    | (with_reducible split)

theorem frame_cellBad {l₀ : List Area} {b₀ b : Block} (h₀ : Frame l₀ b₀ b) (s : Fin 4) (q : Nat) (k : Nat)
    (hl : [.regs, .irq, .servo, .wp, .hq, .store, .ml, .out] ⊆ l₀ := by first | assumption | exact Area.sub ‹_›) :
    Frame l₀ b₀ (b.cellBad s q k) := by
  unfold Block.cellBad
  repeat' first
    | (with_reducible assumption)
    | (with_reducible exact Area.sub ‹_›)
    | (with_reducible exact Frame.refl)
    | (with_reducible apply Frame.ite)
    | (with_reducible refine Frame.foldl ?_ (fun _ _ _ => ?_))
    | (with_reducible apply frame_bump)
    | (with_reducible apply frame_run)
    | (with_reducible apply frame_modWp)
    | (with_reducible apply frame_failBeam)
    | (fail_if_no_progress extract_lets)
    | intro _
    | (with_reducible split)

theorem frame_missedCells {l₀ : List Area} {b₀ b : Block} (h₀ : Frame l₀ b₀ b) (s : Fin 4) (n : Nat) (t : Stripe) (missed : List (Nat × Nat))
    (hl : [.regs, .irq, .servo, .wp, .hq, .store, .ml, .out] ⊆ l₀ := by first | assumption | exact Area.sub ‹_›) :
    Frame l₀ b₀ (b.missedCells s n t missed) := by
  unfold Block.missedCells
  repeat' first
    | (with_reducible assumption)
    | (with_reducible exact Area.sub ‹_›)
    | (with_reducible exact Frame.refl)
    | (with_reducible apply Frame.ite)
    | (with_reducible refine Frame.foldl ?_ (fun _ _ _ => ?_))
    | (with_reducible apply frame_modWp)
    | (with_reducible apply frame_cellBad)
    | (fail_if_no_progress extract_lets)
    | intro _
    | (with_reducible split)

theorem frame_addStripes {l₀ : List Area} {b₀ b : Block} (h₀ : Frame l₀ b₀ b) (s : Fin 4) (p : Pass) (reached : Nat)
    (hl : [.regs, .irq, .servo, .wp, .hq, .store, .ml, .out] ⊆ l₀ := by first | assumption | exact Area.sub ‹_›) :
    Frame l₀ b₀ (b.addStripes s p reached) := by
  unfold Block.addStripes
  repeat' first
    | (with_reducible assumption)
    | (with_reducible exact Area.sub ‹_›)
    | (with_reducible exact Frame.refl)
    | (with_reducible apply Frame.ite)
    | (with_reducible refine Frame.foldl ?_ (fun _ _ _ => ?_))
    | (with_reducible apply frame_bump)
    | (with_reducible apply frame_modWp)
    | (with_reducible apply frame_voidEntry)
    | (with_reducible apply frame_missedCells)
    | (fail_if_no_progress extract_lets)
    | intro _
    | (with_reducible split)

theorem frame_exhaust {l₀ : List Area} {b₀ b : Block} (h₀ : Frame l₀ b₀ b) (s : Fin 4) (band : Nat)
    (hl : [.regs, .irq, .wp, .hq, .store, .ml, .out] ⊆ l₀ := by first | assumption | exact Area.sub ‹_›) :
    Frame l₀ b₀ (b.exhaust s band) := by
  unfold Block.exhaust
  repeat' first
    | (with_reducible assumption)
    | (with_reducible exact Area.sub ‹_›)
    | (with_reducible exact Frame.refl)
    | (with_reducible apply Frame.ite)
    | (with_reducible refine Frame.foldl ?_ (fun _ _ _ => ?_))
    | (with_reducible apply frame_modWp)
    | (with_reducible apply frame_bandEntryFor)
    | (with_reducible apply frame_raiseSurf)
    | (with_reducible apply frame_async)
    | (fail_if_no_progress extract_lets)
    | intro _
    | (with_reducible split)

theorem frame_setReloc {l₀ : List Area} {b₀ b : Block} (h₀ : Frame l₀ b₀ b) (s : Fin 4) (band : Nat) (swath : Nat) (stripe : Nat)
    (hl : [.regs, .irq, .wp, .hq, .store, .ml, .out] ⊆ l₀ := by first | assumption | exact Area.sub ‹_›) :
    Frame l₀ b₀ (b.setReloc s band swath stripe) := by
  unfold Block.setReloc
  repeat' first
    | (with_reducible assumption)
    | (with_reducible exact Area.sub ‹_›)
    | (with_reducible exact Frame.refl)
    | (with_reducible apply Frame.ite)
    | (with_reducible refine Frame.foldl ?_ (fun _ _ _ => ?_))
    | (with_reducible apply frame_modWp)
    | (with_reducible apply frame_exhaust)
    | (fail_if_no_progress extract_lets)
    | intro _
    | (with_reducible split)

theorem frame_movePointer {l₀ : List Area} {b₀ b : Block} (h₀ : Frame l₀ b₀ b) (s : Fin 4) (p : Pass) (cut : Bool)
    (hl : [.regs, .irq, .wp, .hq, .store, .ml, .out] ⊆ l₀ := by first | assumption | exact Area.sub ‹_›) :
    Frame l₀ b₀ (b.movePointer s p cut) := by
  unfold Block.movePointer
  repeat' first
    | (with_reducible assumption)
    | (with_reducible exact Area.sub ‹_›)
    | (with_reducible exact Frame.refl)
    | (with_reducible apply Frame.ite)
    | (with_reducible refine Frame.foldl ?_ (fun _ _ _ => ?_))
    | (with_reducible apply frame_modWp)
    | (with_reducible apply frame_setReloc)
    | (fail_if_no_progress extract_lets)
    | intro _
    | (with_reducible split)

theorem frame_cutPass {l₀ : List Area} {b₀ b : Block} (h₀ : Frame l₀ b₀ b) (s : Fin 4)
    (hl : [.regs, .irq, .servo, .wp, .hq, .store, .ml, .out] ⊆ l₀ := by first | assumption | exact Area.sub ‹_›) :
    Frame l₀ b₀ (b.cutPass s) := by
  unfold Block.cutPass
  repeat' first
    | (with_reducible assumption)
    | (with_reducible exact Area.sub ‹_›)
    | (with_reducible exact Frame.refl)
    | (with_reducible apply Frame.ite)
    | (with_reducible refine Frame.foldl ?_ (fun _ _ _ => ?_))
    | (with_reducible apply frame_setFld)
    | (with_reducible apply frame_putBit)
    | (with_reducible apply frame_sedge)
    | (with_reducible apply frame_addStripes)
    | (with_reducible apply frame_modWp)
    | (with_reducible apply frame_movePointer)
    | (with_reducible apply frame_raiseSurf)
    | (with_reducible apply frame_advanceVseq)
    | (fail_if_no_progress extract_lets)
    | intro _
    | (with_reducible split)

theorem frame_cancelPlan {l₀ : List Area} {b₀ b : Block} (h₀ : Frame l₀ b₀ b) (s : Fin 4)
    (hl : [.regs, .wp, .out] ⊆ l₀ := by first | assumption | exact Area.sub ‹_›) :
    Frame l₀ b₀ (b.cancelPlan s) := by
  unfold Block.cancelPlan
  repeat' first
    | (with_reducible assumption)
    | (with_reducible exact Area.sub ‹_›)
    | (with_reducible exact Frame.refl)
    | (with_reducible apply Frame.ite)
    | (with_reducible refine Frame.foldl ?_ (fun _ _ _ => ?_))
    | (with_reducible apply frame_sedge)
    | (with_reducible apply frame_setFld)
    | (with_reducible apply frame_modWp)
    | (with_reducible apply frame_putBit)
    | (fail_if_no_progress extract_lets)
    | intro _
    | (with_reducible split)

theorem frame_safeState {l₀ : List Area} {b₀ b : Block} (h₀ : Frame l₀ b₀ b) (s : Fin 4) (latch : Bool)
    (hl : [.regs, .irq, .le, .servo, .wp, .se, .cal, .hq, .store, .ml, .out] ⊆ l₀ := by first | assumption | exact Area.sub ‹_›) :
    Frame l₀ b₀ (b.safeState s latch) := by
  unfold Block.safeState
  repeat' first
    | (with_reducible assumption)
    | (with_reducible exact Area.sub ‹_›)
    | (with_reducible exact Frame.refl)
    | (with_reducible apply Frame.ite)
    | (with_reducible refine Frame.foldl ?_ (fun _ _ _ => ?_))
    | (with_reducible apply frame_setFld)
    | (with_reducible apply frame_sendPower)
    | (with_reducible apply frame_cutPass)
    | (with_reducible apply frame_cancelPlan)
    | (with_reducible apply frame_calAbandon)
    | (with_reducible apply frame_modServo)
    | (with_reducible apply frame_surfDown)
    | (with_reducible apply frame_modHq)
    | (with_reducible apply frame_postClose)
    | (fail_if_no_progress extract_lets)
    | intro _
    | (with_reducible split)

theorem frame_lsafePort {l₀ : List Area} {b₀ b : Block} (h₀ : Frame l₀ b₀ b) (s : Fin 4) (v : Nat)
    (hl : [.regs, .irq, .le, .servo, .wp, .se, .cal, .hq, .store, .ml, .out] ⊆ l₀ := by first | assumption | exact Area.sub ‹_›) :
    Frame l₀ b₀ (b.lsafePort s v) := by
  unfold Block.lsafePort
  repeat' first
    | (with_reducible assumption)
    | (with_reducible exact Area.sub ‹_›)
    | (with_reducible exact Frame.refl)
    | (with_reducible apply Frame.ite)
    | (with_reducible refine Frame.foldl ?_ (fun _ _ _ => ?_))
    | (with_reducible apply frame_safeState)
    | (with_reducible apply frame_setFld)
    | (with_reducible apply frame_sendPower)
    | (with_reducible apply frame_applyHolds)
    | (fail_if_no_progress extract_lets)
    | intro _
    | (with_reducible split)

theorem frame_setPsw {l₀ : List Area} {b₀ b : Block} (h₀ : Frame l₀ b₀ b) (s : Fin 4) (new : Nat)
    (hl : [.regs, .le] ⊆ l₀ := by first | assumption | exact Area.sub ‹_›) :
    Frame l₀ b₀ (b.setPsw s new) := by
  unfold Block.setPsw
  repeat' first
    | (with_reducible assumption)
    | (with_reducible exact Area.sub ‹_›)
    | (with_reducible exact Frame.refl)
    | (with_reducible apply Frame.ite)
    | (with_reducible refine Frame.foldl ?_ (fun _ _ _ => ?_))
    | (with_reducible apply frame_setFld)
    | (with_reducible apply frame_bump)
    | (with_reducible apply frame_postClose)
    | (fail_if_no_progress extract_lets)
    | intro _
    | (with_reducible split)

theorem frame_publish {l₀ : List Area} {b₀ b : Block} (h₀ : Frame l₀ b₀ b) (s : Fin 4)
    (hl : [.regs, .le] ⊆ l₀ := by first | assumption | exact Area.sub ‹_›) :
    Frame l₀ b₀ (b.publish s) := by
  unfold Block.publish
  repeat' first
    | (with_reducible assumption)
    | (with_reducible exact Area.sub ‹_›)
    | (with_reducible exact Frame.refl)
    | (with_reducible apply Frame.ite)
    | (with_reducible refine Frame.foldl ?_ (fun _ _ _ => ?_))
    | (with_reducible apply frame_commitData)
    | (fail_if_no_progress extract_lets)
    | intro _
    | (with_reducible split)

theorem frame_cmdDone {l₀ : List Area} {b₀ b : Block} (h₀ : Frame l₀ b₀ b) (s : Fin 4)
    (hl : [.regs, .irq, .le, .servo, .ml, .out] ⊆ l₀ := by first | assumption | exact Area.sub ‹_›) :
    Frame l₀ b₀ (b.cmdDone s) := by
  unfold Block.cmdDone
  repeat' first
    | (with_reducible assumption)
    | (with_reducible exact Area.sub ‹_›)
    | (with_reducible exact Frame.refl)
    | (with_reducible apply Frame.ite)
    | (with_reducible refine Frame.foldl ?_ (fun _ _ _ => ?_))
    | (with_reducible apply frame_modServo)
    | (with_reducible apply frame_bump)
    | (with_reducible apply frame_setFld)
    | (with_reducible apply frame_publish)
    | (with_reducible apply frame_raise)
    | (fail_if_no_progress extract_lets)
    | intro _
    | (with_reducible split)

theorem frame_trackCommit {l₀ : List Area} {b₀ b : Block} (h₀ : Frame l₀ b₀ b) (s : Fin 4)
    (hl : [.regs, .irq, .le, .servo, .wp, .se, .cal, .hq, .store, .ml, .out] ⊆ l₀ := by first | assumption | exact Area.sub ‹_›) :
    Frame l₀ b₀ (b.trackCommit s) := by
  unfold Block.trackCommit
  repeat' first
    | (with_reducible assumption)
    | (with_reducible exact Area.sub ‹_›)
    | (with_reducible exact Frame.refl)
    | (with_reducible apply Frame.ite)
    | (with_reducible refine Frame.foldl ?_ (fun _ _ _ => ?_))
    | (with_reducible apply frame_setPsw)
    | (with_reducible apply frame_setFld)
    | (with_reducible apply frame_modServo)
    | (with_reducible apply frame_lsafePort)
    | (with_reducible apply frame_surfUp)
    | (with_reducible apply frame_publish)
    | (with_reducible apply frame_cmdDone)
    | (fail_if_no_progress extract_lets)
    | intro _
    | (with_reducible split)

theorem frame_safeHold {l₀ : List Area} {b₀ b : Block} (h₀ : Frame l₀ b₀ b) (s : Fin 4)
    (hl : [.regs, .irq, .le, .servo, .wp, .se, .cal, .hq, .store, .ml, .out] ⊆ l₀ := by first | assumption | exact Area.sub ‹_›) :
    Frame l₀ b₀ (b.safeHold s) := by
  unfold Block.safeHold
  repeat' first
    | (with_reducible assumption)
    | (with_reducible exact Area.sub ‹_›)
    | (with_reducible exact Frame.refl)
    | (with_reducible apply Frame.ite)
    | (with_reducible refine Frame.foldl ?_ (fun _ _ _ => ?_))
    | (with_reducible apply frame_setPsw)
    | (with_reducible apply frame_modServo)
    | (with_reducible apply frame_trackCommit)
    | (fail_if_no_progress extract_lets)
    | intro _
    | (with_reducible split)

/-! ### Machine/LoopOps.lean -/

theorem frame_putTable {l₀ : List Area} {b₀ b : Block} (h₀ : Frame l₀ b₀ b) (t : List (Word × Word))
    (hl : [.regs, .le] ⊆ l₀ := by first | assumption | exact Area.sub ‹_›) :
    Frame l₀ b₀ (b.putTable t) := by
  unfold Block.putTable
  repeat' first
    | (with_reducible assumption)
    | (with_reducible exact Area.sub ‹_›)
    | (with_reducible exact Frame.refl)
    | (with_reducible apply Frame.ite)
    | (with_reducible refine Frame.foldl ?_ (fun _ _ _ => ?_))
    | (with_reducible apply frame_wr)
    | (with_reducible apply frame_modLe)
    | (fail_if_no_progress extract_lets)
    | intro _
    | (with_reducible split)

theorem frame_rejectLive {l₀ : List Area} {b₀ b : Block} (h₀ : Frame l₀ b₀ b) (k : Nat) (err : Nat)
    (hl : [.regs, .irq, .ml, .out] ⊆ l₀ := by first | assumption | exact Area.sub ‹_›) :
    Frame l₀ b₀ (b.rejectLive k err) := by
  unfold Block.rejectLive
  repeat' first
    | (with_reducible assumption)
    | (with_reducible exact Area.sub ‹_›)
    | (with_reducible exact Frame.refl)
    | (with_reducible apply Frame.ite)
    | (with_reducible refine Frame.foldl ?_ (fun _ _ _ => ?_))
    | (with_reducible apply frame_setFld)
    | (with_reducible apply frame_raise)
    | (fail_if_no_progress extract_lets)
    | intro _
    | (with_reducible split)

theorem frame_applyLive {l₀ : List Area} {b₀ b : Block} (h₀ : Frame l₀ b₀ b) (k : Nat)
    (hl : [.regs, .irq, .le, .ml, .out] ⊆ l₀ := by first | assumption | exact Area.sub ‹_›) :
    Frame l₀ b₀ (b.applyLive k) := by
  unfold Block.applyLive
  repeat' first
    | (with_reducible assumption)
    | (with_reducible exact Area.sub ‹_›)
    | (with_reducible exact Frame.refl)
    | (with_reducible apply Frame.ite)
    | (with_reducible refine Frame.foldl ?_ (fun _ _ _ => ?_))
    | (with_reducible apply frame_wr)
    | (with_reducible apply frame_modLe)
    | (with_reducible apply frame_rejectLive)
    | (fail_if_no_progress extract_lets)
    | intro _
    | (with_reducible split)

theorem frame_miss {l₀ : List Area} {b₀ b : Block} (h₀ : Frame l₀ b₀ b) (k : Nat)
    (hl : [.regs, .le] ⊆ l₀ := by first | assumption | exact Area.sub ‹_›) :
    Frame l₀ b₀ (b.miss k) := by
  unfold Block.miss
  repeat' first
    | (with_reducible assumption)
    | (with_reducible exact Area.sub ‹_›)
    | (with_reducible exact Frame.refl)
    | (with_reducible apply Frame.ite)
    | (with_reducible refine Frame.foldl ?_ (fun _ _ _ => ?_))
    | (with_reducible apply frame_setFld)
    | (with_reducible apply frame_modLe)
    | (fail_if_no_progress extract_lets)
    | intro _
    | (with_reducible split)

theorem frame_recordCut {l₀ : List Area} {b₀ b : Block} (h₀ : Frame l₀ b₀ b) (k : Nat)
    (hl : [.regs, .le] ⊆ l₀ := by first | assumption | exact Area.sub ‹_›) :
    Frame l₀ b₀ (b.recordCut k) := by
  unfold Block.recordCut
  repeat' first
    | (with_reducible assumption)
    | (with_reducible exact Area.sub ‹_›)
    | (with_reducible exact Frame.refl)
    | (with_reducible apply Frame.ite)
    | (with_reducible refine Frame.foldl ?_ (fun _ _ _ => ?_))
    | (with_reducible apply frame_modLe)
    | (with_reducible apply frame_miss)
    | (fail_if_no_progress extract_lets)
    | intro _
    | (with_reducible split)

theorem frame_gapRestart {l₀ : List Area} {b₀ b : Block} (h₀ : Frame l₀ b₀ b) (k : Nat)
    (hl : [.regs, .irq, .le, .servo, .wp, .se, .cal, .hq, .store, .ml, .out] ⊆ l₀ := by first | assumption | exact Area.sub ‹_›) :
    Frame l₀ b₀ (b.gapRestart k) := by
  unfold Block.gapRestart
  repeat' first
    | (with_reducible assumption)
    | (with_reducible exact Area.sub ‹_›)
    | (with_reducible exact Frame.refl)
    | (with_reducible apply Frame.ite)
    | (with_reducible refine Frame.foldl ?_ (fun _ _ _ => ?_))
    | (with_reducible apply frame_setPsw)
    | (with_reducible apply frame_modServo)
    | (with_reducible apply frame_publish)
    | (with_reducible apply frame_setFld)
    | (with_reducible apply frame_safeHold)
    | (fail_if_no_progress extract_lets)
    | intro _
    | (with_reducible split)

theorem frame_dispatch {l₀ : List Area} {b₀ b : Block} (h₀ : Frame l₀ b₀ b) (k : Nat) (d : Nat)
    (hl : [.regs, .irq, .le, .servo, .wp, .se, .cal, .hq, .store, .ml, .out] ⊆ l₀ := by first | assumption | exact Area.sub ‹_›) :
    Frame l₀ b₀ (b.dispatch k d) := by
  unfold Block.dispatch
  repeat' first
    | (with_reducible assumption)
    | (with_reducible exact Area.sub ‹_›)
    | (with_reducible exact Frame.refl)
    | (with_reducible apply Frame.ite)
    | (with_reducible refine Frame.foldl ?_ (fun _ _ _ => ?_))
    | (with_reducible apply frame_gapRestart)
    | (with_reducible apply frame_modLe)
    | (with_reducible apply frame_run)
    | (fail_if_no_progress extract_lets)
    | intro _
    | (with_reducible split)

theorem frame_scan {l₀ : List Area} {b₀ : Block} (n : Nat)
    (hl : [.regs, .irq, .le, .servo, .wp, .se, .cal, .hq, .store, .ml, .out] ⊆ l₀ := by first | assumption | exact Area.sub ‹_›) : ∀ {b : Block}, Frame l₀ b₀ b → Frame l₀ b₀ (b.scan n) := by
  induction n with
  | zero => exact fun h₀ => h₀
  | succ n ih =>
    intro b h₀
    unfold Block.scan
    repeat' first
      | (with_reducible assumption)
      | (with_reducible exact Area.sub ‹_›)
      | (with_reducible apply ih)
      | (with_reducible apply frame_recordCut)
      | (with_reducible apply frame_dispatch)
      | (with_reducible apply frame_modLe)
      | (fail_if_no_progress extract_lets)
      | intro _
      | (with_reducible split)

theorem frame_applyHeld {l₀ : List Area} {b₀ b : Block} (h₀ : Frame l₀ b₀ b) (e : Nat × Word)
    (hl : [.regs, .le] ⊆ l₀ := by first | assumption | exact Area.sub ‹_›) :
    Frame l₀ b₀ (b.applyHeld e) := by
  unfold Block.applyHeld
  repeat' first
    | (with_reducible assumption)
    | (with_reducible exact Area.sub ‹_›)
    | (with_reducible exact Frame.refl)
    | (with_reducible apply Frame.ite)
    | (with_reducible refine Frame.foldl ?_ (fun _ _ _ => ?_))
    | (with_reducible apply frame_commitData)
    | (with_reducible apply frame_wr)
    | (with_reducible apply frame_setFld)
    | (fail_if_no_progress extract_lets)
    | intro _
    | (with_reducible split)

theorem frame_applyAllHeld {l₀ : List Area} {b₀ b : Block} (h₀ : Frame l₀ b₀ b)
    (hl : [.regs, .le] ⊆ l₀ := by first | assumption | exact Area.sub ‹_›) :
    Frame l₀ b₀ (b.applyAllHeld) := by
  unfold Block.applyAllHeld
  repeat' first
    | (with_reducible assumption)
    | (with_reducible exact Area.sub ‹_›)
    | (with_reducible exact Frame.refl)
    | (with_reducible apply Frame.ite)
    | (with_reducible refine Frame.foldl ?_ (fun _ _ _ => ?_))
    | (with_reducible apply frame_modLe)
    | (with_reducible apply frame_applyHeld)
    | (fail_if_no_progress extract_lets)
    | intro _
    | (with_reducible split)

theorem frame_cutRun {l₀ : List Area} {b₀ b : Block} (h₀ : Frame l₀ b₀ b)
    (hl : [.regs, .irq, .le, .servo, .wp, .se, .cal, .hq, .store, .ml, .out] ⊆ l₀ := by first | assumption | exact Area.sub ‹_›) :
    Frame l₀ b₀ (b.cutRun) := by
  unfold Block.cutRun
  repeat' first
    | (with_reducible assumption)
    | (with_reducible exact Area.sub ‹_›)
    | (with_reducible exact Frame.refl)
    | (with_reducible apply Frame.ite)
    | (with_reducible refine Frame.foldl ?_ (fun _ _ _ => ?_))
    | (with_reducible apply frame_run)
    | (with_reducible apply frame_modLe)
    | (with_reducible apply frame_recordCut)
    | (with_reducible apply frame_applyAllHeld)
    | (with_reducible apply frame_scan)
    | (fail_if_no_progress extract_lets)
    | intro _
    | (with_reducible split)

theorem frame_overrun {l₀ : List Area} {b₀ b : Block} (h₀ : Frame l₀ b₀ b)
    (hl : [.regs, .le] ⊆ l₀ := by first | assumption | exact Area.sub ‹_›) : Frame l₀ b₀ b.overrun := by
  unfold Block.overrun
  dsimp only
  generalize b.dueFrom b.le.next = rest
  repeat' first
    | (with_reducible assumption)
    | (with_reducible exact Area.sub ‹_›)
    | (with_reducible refine Frame.foldl ?_ (fun _ _ _ => ?_))
    | (with_reducible apply frame_miss)
    | (with_reducible apply frame_postClose)
    | (with_reducible apply frame_setFld)
    | (with_reducible apply frame_bump)
    | (with_reducible apply frame_recordCut)
    | (with_reducible apply frame_modLe)
    | (with_reducible split)

theorem frame_loopStep {l₀ : List Area} {b₀ b : Block} (h₀ : Frame l₀ b₀ b) (cost : Nat) (f : LeRun → LeRun)
    (hl : [.regs, .irq, .le, .servo, .wp, .se, .cal, .hq, .store, .ml, .out] ⊆ l₀ := by first | assumption | exact Area.sub ‹_›) :
    Frame l₀ b₀ (b.loopStep cost f) := by
  unfold Block.loopStep
  repeat' first
    | (with_reducible assumption)
    | (with_reducible exact Area.sub ‹_›)
    | (with_reducible exact Frame.refl)
    | (with_reducible apply Frame.ite)
    | (with_reducible refine Frame.foldl ?_ (fun _ _ _ => ?_))
    | (with_reducible apply frame_run)
    | (with_reducible apply frame_cutRun)
    | (with_reducible apply frame_overrun)
    | (with_reducible apply frame_modLe)
    | (fail_if_no_progress extract_lets)
    | intro _
    | (with_reducible split)

theorem frame_portOut {l₀ : List Area} {b₀ b : Block} (h₀ : Frame l₀ b₀ b) (p : Nat) (v : Word)
    (hl : [.regs, .irq, .le, .servo, .spin, .axis, .wp, .se, .cal, .hq, .store, .ml, .out] ⊆ l₀ := by first | assumption | exact Area.sub ‹_›) :
    Frame l₀ b₀ (b.portOut p v) := by
  unfold Block.portOut
  repeat' first
    | (with_reducible assumption)
    | (with_reducible exact Area.sub ‹_›)
    | (with_reducible exact Frame.refl)
    | (with_reducible apply Frame.ite)
    | (with_reducible refine Frame.foldl ?_ (fun _ _ _ => ?_))
    | (with_reducible apply frame_onSurf)
    | (with_reducible apply frame_setFld)
    | (with_reducible apply frame_putBit)
    | (with_reducible apply frame_lsafePort)
    | (with_reducible apply frame_onSpin)
    | (with_reducible apply frame_modSpin)
    | (with_reducible apply frame_onAxis)
    | (with_reducible apply frame_modAxis)
    | (fail_if_no_progress extract_lets)
    | intro _
    | (with_reducible split)

theorem frame_pgenCommit {l₀ : List Area} {b₀ b : Block} (h₀ : Frame l₀ b₀ b) (a : Fin 9) (p : Int) (v : Int) (acc : Int) (t : Int) (landed : Bool)
    (hl : [.regs, .axis] ⊆ l₀ := by first | assumption | exact Area.sub ‹_›) :
    Frame l₀ b₀ (b.pgenCommit a p v acc t landed) := by
  unfold Block.pgenCommit
  repeat' first
    | (with_reducible assumption)
    | (with_reducible exact Area.sub ‹_›)
    | (with_reducible exact Frame.refl)
    | (with_reducible apply Frame.ite)
    | (with_reducible refine Frame.foldl ?_ (fun _ _ _ => ?_))
    | (with_reducible apply frame_modAxis)
    | (with_reducible apply frame_setFld)
    | (with_reducible apply frame_setBit)
    | (fail_if_no_progress extract_lets)
    | intro _
    | (with_reducible split)

theorem frame_commitOne {l₀ : List Area} {b₀ b : Block} (h₀ : Frame l₀ b₀ b) (entry : Nat) (e : Staged)
    (hl : [.regs, .irq, .le, .servo, .spin, .axis, .wp, .se, .cal, .hq, .store, .ml, .out] ⊆ l₀ := by first | assumption | exact Area.sub ‹_›) :
    Frame l₀ b₀ (b.commitOne entry e) := by
  unfold Block.commitOne
  repeat' first
    | (with_reducible assumption)
    | (with_reducible exact Area.sub ‹_›)
    | (with_reducible exact Frame.refl)
    | (with_reducible apply Frame.ite)
    | (with_reducible refine Frame.foldl ?_ (fun _ _ _ => ?_))
    | (with_reducible apply frame_commitData)
    | (with_reducible apply frame_portOut)
    | (with_reducible apply frame_setPsw)
    | (with_reducible apply frame_setFld)
    | (with_reducible apply frame_bump)
    | (with_reducible apply frame_raise)
    | (with_reducible apply frame_onAxis)
    | (with_reducible apply frame_pgenCommit)
    | (fail_if_no_progress extract_lets)
    | intro _
    | (with_reducible split)

theorem frame_setSatFlag {l₀ : List Area} {b₀ b : Block} (h₀ : Frame l₀ b₀ b) (k : Nat)
    (hl : [.regs, .irq, .ml, .out] ⊆ l₀ := by first | assumption | exact Area.sub ‹_›) :
    Frame l₀ b₀ (b.setSatFlag k) := by
  unfold Block.setSatFlag
  repeat' first
    | (with_reducible assumption)
    | (with_reducible exact Area.sub ‹_›)
    | (with_reducible exact Frame.refl)
    | (with_reducible apply Frame.ite)
    | (with_reducible refine Frame.foldl ?_ (fun _ _ _ => ?_))
    | (with_reducible apply frame_putBit)
    | (with_reducible apply frame_raise)
    | (fail_if_no_progress extract_lets)
    | intro _
    | (with_reducible split)

theorem frame_commit {l₀ : List Area} {b₀ b : Block} (h₀ : Frame l₀ b₀ b) (r : LeRun) (used : Nat)
    (hl : [.regs, .irq, .le, .servo, .spin, .axis, .wp, .se, .cal, .hq, .store, .ml, .out] ⊆ l₀ := by first | assumption | exact Area.sub ‹_›) :
    Frame l₀ b₀ (b.commit r used) := by
  unfold Block.commit
  repeat' first
    | (with_reducible assumption)
    | (with_reducible exact Area.sub ‹_›)
    | (with_reducible exact Frame.refl)
    | (with_reducible apply Frame.ite)
    | (with_reducible refine Frame.foldl ?_ (fun _ _ _ => ?_))
    | (with_reducible apply frame_modLe)
    | (with_reducible apply frame_run)
    | (with_reducible apply frame_commitOne)
    | (with_reducible apply frame_setSatFlag)
    | (with_reducible apply frame_setFld)
    | (with_reducible apply frame_applyAllHeld)
    | (with_reducible apply frame_scan)
    | (fail_if_no_progress extract_lets)
    | intro _
    | (with_reducible split)

/-! ### Machine/WritePath.lean -/

theorem frame_losePass {l₀ : List Area} {b₀ b : Block} (h₀ : Frame l₀ b₀ b) (s : Fin 4)
    (hl : [.regs, .wp, .cal] ⊆ l₀ := by first | assumption | exact Area.sub ‹_›) :
    Frame l₀ b₀ (b.losePass s) := by
  unfold Block.losePass
  repeat' first
    | (with_reducible assumption)
    | (with_reducible exact Area.sub ‹_›)
    | (with_reducible exact Frame.refl)
    | (with_reducible apply Frame.ite)
    | (with_reducible refine Frame.foldl ?_ (fun _ _ _ => ?_))
    | (with_reducible apply frame_modWp)
    | (with_reducible apply frame_modCalSurf)
    | (with_reducible apply frame_putBit)
    | (fail_if_no_progress extract_lets)
    | intro _
    | (with_reducible split)

theorem frame_selectSpot {l₀ : List Area} {b₀ b : Block} (h₀ : Frame l₀ b₀ b) (s : Fin 4) (verify : Bool)
    (hl : [.wp, .out] ⊆ l₀ := by first | assumption | exact Area.sub ‹_›) :
    Frame l₀ b₀ (b.selectSpot s verify) := by
  unfold Block.selectSpot
  repeat' first
    | (with_reducible assumption)
    | (with_reducible exact Area.sub ‹_›)
    | (with_reducible exact Frame.refl)
    | (with_reducible apply Frame.ite)
    | (with_reducible refine Frame.foldl ?_ (fun _ _ _ => ?_))
    | (with_reducible apply frame_sedge)
    | (with_reducible apply frame_modWp)
    | (fail_if_no_progress extract_lets)
    | intro _
    | (with_reducible split)

theorem frame_plan {l₀ : List Area} {b₀ b : Block} (h₀ : Frame l₀ b₀ b) (s : Fin 4) (kind : PassKind) (band : Nat) (swath : Nat) (first : Nat) (stripes : List (List Cell)) (images : List (List CellImage))
    (hl : [.regs, .wp, .out] ⊆ l₀ := by first | assumption | exact Area.sub ‹_›) :
    Frame l₀ b₀ (b.plan s kind band swath first stripes images) := by
  unfold Block.plan
  repeat' first
    | (with_reducible assumption)
    | (with_reducible exact Area.sub ‹_›)
    | (with_reducible exact Frame.refl)
    | (with_reducible apply Frame.ite)
    | (with_reducible refine Frame.foldl ?_ (fun _ _ _ => ?_))
    | (with_reducible apply frame_setFld)
    | (with_reducible apply frame_modWp)
    | (with_reducible apply frame_putBit)
    | (with_reducible apply frame_selectSpot)
    | (fail_if_no_progress extract_lets)
    | intro _
    | (with_reducible split)

theorem frame_execPassPlan {l₀ : List Area} {b₀ : Block} {s t : State} {s' : Fin 4} {offered : List (List Cell)} (e₀ : execPassPlan s' offered s = .next t)
    (h₀ : Frame l₀ b₀ s.toBlock)
    (hl : [.regs, .wp, .cal, .out] ⊆ l₀ := by first | assumption | exact Area.sub ‹_›) : Frame l₀ b₀ t.toBlock := by
  unfold execPassPlan at e₀
  refine Frame.upd e₀ h₀ (fun _ _ => ?_)
  repeat' first
    | (with_reducible assumption)
    | (with_reducible exact Area.sub ‹_›)
    | (with_reducible exact Frame.refl)
    | (with_reducible apply Frame.ite)
    | (with_reducible refine Frame.foldl ?_ (fun _ _ _ => ?_))
    | (with_reducible apply frame_onSurf)
    | (with_reducible apply frame_modWp)
    | (with_reducible apply frame_putBit)
    | (with_reducible apply frame_losePass)
    | (with_reducible apply frame_run)
    | (with_reducible apply frame_plan)
    | (fail_if_no_progress extract_lets)
    | intro _
    | (with_reducible split)

theorem frame_verifyThrottle {l₀ : List Area} {b₀ b : Block} (h₀ : Frame l₀ b₀ b) (s : Fin 4)
    (hl : [.regs, .irq, .wp, .ml, .out] ⊆ l₀ := by first | assumption | exact Area.sub ‹_›) :
    Frame l₀ b₀ (b.verifyThrottle s) := by
  unfold Block.verifyThrottle
  repeat' first
    | (with_reducible assumption)
    | (with_reducible exact Area.sub ‹_›)
    | (with_reducible exact Frame.refl)
    | (with_reducible apply Frame.ite)
    | (with_reducible refine Frame.foldl ?_ (fun _ _ _ => ?_))
    | (with_reducible apply frame_modWp)
    | (with_reducible apply frame_putBit)
    | (with_reducible apply frame_raiseSurf)
    | (fail_if_no_progress extract_lets)
    | intro _
    | (with_reducible split)

theorem frame_endPass {l₀ : List Area} {b₀ b : Block} (h₀ : Frame l₀ b₀ b) (s : Fin 4)
    (hl : [.regs, .irq, .servo, .wp, .hq, .store, .ml, .out] ⊆ l₀ := by first | assumption | exact Area.sub ‹_›) :
    Frame l₀ b₀ (b.endPass s) := by
  unfold Block.endPass
  repeat' first
    | (with_reducible assumption)
    | (with_reducible exact Area.sub ‹_›)
    | (with_reducible exact Frame.refl)
    | (with_reducible apply Frame.ite)
    | (with_reducible refine Frame.foldl ?_ (fun _ _ _ => ?_))
    | (with_reducible apply frame_modWp)
    | (with_reducible apply frame_putBit)
    | (with_reducible apply frame_addStripes)
    | (with_reducible apply frame_movePointer)
    | (with_reducible apply frame_advanceVseq)
    | (fail_if_no_progress extract_lets)
    | intro _
    | (with_reducible split)

theorem frame_startPass {l₀ : List Area} {b₀ b : Block} (h₀ : Frame l₀ b₀ b) (s : Fin 4)
    (hl : [.regs, .wp] ⊆ l₀ := by first | assumption | exact Area.sub ‹_›) :
    Frame l₀ b₀ (b.startPass s) := by
  unfold Block.startPass
  repeat' first
    | (with_reducible assumption)
    | (with_reducible exact Area.sub ‹_›)
    | (with_reducible exact Frame.refl)
    | (with_reducible apply Frame.ite)
    | (with_reducible refine Frame.foldl ?_ (fun _ _ _ => ?_))
    | (with_reducible apply frame_modWp)
    | (with_reducible apply frame_putBit)
    | (fail_if_no_progress extract_lets)
    | intro _
    | (with_reducible split)

theorem frame_execStopRequest {l₀ : List Area} {b₀ : Block} {s t : State} {s' : Fin 4} (e₀ : execStopRequest s' s = .next t)
    (h₀ : Frame l₀ b₀ s.toBlock)
    (hl : [.regs, .wp, .out] ⊆ l₀ := by first | assumption | exact Area.sub ‹_›) : Frame l₀ b₀ t.toBlock := by
  unfold execStopRequest at e₀
  refine Frame.upd e₀ h₀ (fun _ _ => ?_)
  repeat' first
    | (with_reducible assumption)
    | (with_reducible exact Area.sub ‹_›)
    | (with_reducible exact Frame.refl)
    | (with_reducible apply Frame.ite)
    | (with_reducible refine Frame.foldl ?_ (fun _ _ _ => ?_))
    | (with_reducible apply frame_onSurf)
    | (with_reducible apply frame_modWp)
    | (with_reducible apply frame_cancelPlan)
    | (fail_if_no_progress extract_lets)
    | intro _
    | (with_reducible split)

theorem frame_execVerifyJobDone {l₀ : List Area} {b₀ : Block} {s t : State} {s' : Fin 4} {wseq : BitVec 32} {beam : Fin 16} {v : Verdict} (e₀ : execVerifyJobDone s' wseq beam v s = .next t)
    (h₀ : Frame l₀ b₀ s.toBlock)
    (hl : [.regs, .irq, .servo, .wp, .hq, .store, .ml, .out] ⊆ l₀ := by first | assumption | exact Area.sub ‹_›) : Frame l₀ b₀ t.toBlock := by
  unfold execVerifyJobDone at e₀
  refine Frame.upd e₀ h₀ (fun _ _ => ?_)
  repeat' first
    | (with_reducible assumption)
    | (with_reducible exact Area.sub ‹_›)
    | (with_reducible exact Frame.refl)
    | (with_reducible apply Frame.ite)
    | (with_reducible refine Frame.foldl ?_ (fun _ _ _ => ?_))
    | (with_reducible apply frame_onSurf)
    | (with_reducible apply frame_modWp)
    | (with_reducible apply frame_cellBad)
    | (fail_if_no_progress extract_lets)
    | intro _
    | (with_reducible split)

theorem frame_execVerifyLate {l₀ : List Area} {b₀ : Block} {s t : State} {s' : Fin 4} {wseq : BitVec 32} {beam : Fin 16} (e₀ : execVerifyLate s' wseq beam s = .next t)
    (h₀ : Frame l₀ b₀ s.toBlock)
    (hl : [.regs, .irq, .wp, .ml, .out] ⊆ l₀ := by first | assumption | exact Area.sub ‹_›) : Frame l₀ b₀ t.toBlock := by
  unfold execVerifyLate at e₀
  refine Frame.upd e₀ h₀ (fun _ _ => ?_)
  repeat' first
    | (with_reducible assumption)
    | (with_reducible exact Area.sub ‹_›)
    | (with_reducible exact Frame.refl)
    | (with_reducible apply Frame.ite)
    | (with_reducible refine Frame.foldl ?_ (fun _ _ _ => ?_))
    | (with_reducible apply frame_onSurf)
    | (with_reducible apply frame_modWp)
    | (with_reducible apply frame_bump)
    | (with_reducible apply frame_raiseSurf)
    | (fail_if_no_progress extract_lets)
    | intro _
    | (with_reducible split)

theorem frame_planReloc {l₀ : List Area} {b₀ b : Block} (h₀ : Frame l₀ b₀ b) (s : Fin 4) (band : Nat)
    (hl : [.regs, .wp, .cal, .out] ⊆ l₀ := by first | assumption | exact Area.sub ‹_›) :
    Frame l₀ b₀ (b.planReloc s band) := by
  unfold Block.planReloc
  repeat' first
    | (with_reducible assumption)
    | (with_reducible exact Area.sub ‹_›)
    | (with_reducible exact Frame.refl)
    | (with_reducible apply Frame.ite)
    | (with_reducible refine Frame.foldl ?_ (fun _ _ _ => ?_))
    | (with_reducible apply frame_modWp)
    | (with_reducible apply frame_bump)
    | (with_reducible apply frame_modCalSurf)
    | (with_reducible apply frame_plan)
    | (fail_if_no_progress extract_lets)
    | intro _
    | (with_reducible split)

theorem frame_execRelocationVisit {l₀ : List Area} {b₀ : Block} {s t : State} {s' : Fin 4} {band : BitVec 16} (e₀ : execRelocationVisit s' band s = .next t)
    (h₀ : Frame l₀ b₀ s.toBlock)
    (hl : [.regs, .wp, .cal, .out] ⊆ l₀ := by first | assumption | exact Area.sub ‹_›) : Frame l₀ b₀ t.toBlock := by
  unfold execRelocationVisit at e₀
  refine Frame.upd e₀ h₀ (fun _ _ => ?_)
  repeat' first
    | (with_reducible assumption)
    | (with_reducible exact Area.sub ‹_›)
    | (with_reducible exact Frame.refl)
    | (with_reducible apply Frame.ite)
    | (with_reducible refine Frame.foldl ?_ (fun _ _ _ => ?_))
    | (with_reducible apply frame_onSurf)
    | (with_reducible apply frame_losePass)
    | (with_reducible apply frame_planReloc)
    | (fail_if_no_progress extract_lets)
    | intro _
    | (with_reducible split)

theorem frame_execRelocationMaxwait {l₀ : List Area} {b₀ : Block} {s t : State} {s' : Fin 4} {band : BitVec 16} (e₀ : execRelocationMaxwait s' band s = .next t)
    (h₀ : Frame l₀ b₀ s.toBlock)
    (hl : [.wp] ⊆ l₀ := by first | assumption | exact Area.sub ‹_›) : Frame l₀ b₀ t.toBlock := by
  unfold execRelocationMaxwait at e₀
  refine Frame.upd e₀ h₀ (fun _ _ => ?_)
  repeat' first
    | (with_reducible assumption)
    | (with_reducible exact Area.sub ‹_›)
    | (with_reducible exact Frame.refl)
    | (with_reducible apply Frame.ite)
    | (with_reducible refine Frame.foldl ?_ (fun _ _ _ => ?_))
    | (with_reducible apply frame_onSurf)
    | (with_reducible apply frame_modWp)
    | (fail_if_no_progress extract_lets)
    | intro _
    | (with_reducible split)

theorem frame_stripeDurable {l₀ : List Area} {b₀ b : Block} (h₀ : Frame l₀ b₀ b) (s : Fin 4) (q : Nat)
    (hl : [.regs, .wp] ⊆ l₀ := by first | assumption | exact Area.sub ‹_›) :
    Frame l₀ b₀ (b.stripeDurable s q) := by
  unfold Block.stripeDurable
  repeat' first
    | (with_reducible assumption)
    | (with_reducible exact Area.sub ‹_›)
    | (with_reducible exact Frame.refl)
    | (with_reducible apply Frame.ite)
    | (with_reducible refine Frame.foldl ?_ (fun _ _ _ => ?_))
    | (with_reducible apply frame_modWp)
    | (with_reducible apply frame_advanceVseq)
    | (fail_if_no_progress extract_lets)
    | intro _
    | (with_reducible split)

/-! ### Machine/Placement.lean -/

theorem frame_keepCover {l₀ : List Area} {b₀ b : Block} (h₀ : Frame l₀ b₀ b)
    (hl : [.hq] ⊆ l₀ := by first | assumption | exact Area.sub ‹_›) :
    Frame l₀ b₀ (b.keepCover) := by
  unfold Block.keepCover
  repeat' first
    | (with_reducible assumption)
    | (with_reducible exact Area.sub ‹_›)
    | (with_reducible exact Frame.refl)
    | (with_reducible apply Frame.ite)
    | (with_reducible refine Frame.foldl ?_ (fun _ _ _ => ?_))
    | (with_reducible apply frame_modHq)
    | (fail_if_no_progress extract_lets)
    | intro _
    | (with_reducible split)

theorem frame_modChunks {l₀ : List Area} {b₀ b : Block} (h₀ : Frame l₀ b₀ b) (p : Chunk → Bool) (f : Chunk → Chunk)
    (hl : [.store] ⊆ l₀ := by first | assumption | exact Area.sub ‹_›) :
    Frame l₀ b₀ (b.modChunks p f) := by
  unfold Block.modChunks
  repeat' first
    | (with_reducible assumption)
    | (with_reducible exact Area.sub ‹_›)
    | (with_reducible exact Frame.refl)
    | (with_reducible apply Frame.ite)
    | (with_reducible refine Frame.foldl ?_ (fun _ _ _ => ?_))
    | (with_reducible apply frame_modStore)
    | (fail_if_no_progress extract_lets)
    | intro _
    | (with_reducible split)

theorem frame_releaseDram {l₀ : List Area} {b₀ b : Block} (h₀ : Frame l₀ b₀ b) (p : Chunk → Bool)
    (hl : [.hq, .store] ⊆ l₀ := by first | assumption | exact Area.sub ‹_›) :
    Frame l₀ b₀ (b.releaseDram p) := by
  unfold Block.releaseDram
  repeat' first
    | (with_reducible assumption)
    | (with_reducible exact Area.sub ‹_›)
    | (with_reducible exact Frame.refl)
    | (with_reducible apply Frame.ite)
    | (with_reducible refine Frame.foldl ?_ (fun _ _ _ => ?_))
    | (with_reducible apply frame_modChunks)
    | (with_reducible apply frame_modHq)
    | (fail_if_no_progress extract_lets)
    | intro _
    | (with_reducible split)

theorem frame_purgeOlds {l₀ : List Area} {b₀ b : Block} (h₀ : Frame l₀ b₀ b)
    (hl : [.hq, .store] ⊆ l₀ := by first | assumption | exact Area.sub ‹_›) :
    Frame l₀ b₀ (b.purgeOlds) := by
  unfold Block.purgeOlds
  repeat' first
    | (with_reducible assumption)
    | (with_reducible exact Area.sub ‹_›)
    | (with_reducible exact Frame.refl)
    | (with_reducible apply Frame.ite)
    | (with_reducible refine Frame.foldl ?_ (fun _ _ _ => ?_))
    | (with_reducible apply frame_modStore)
    | (with_reducible apply frame_modHq)
    | (fail_if_no_progress extract_lets)
    | intro _
    | (with_reducible split)

/-! ### Machine/MirrorOps.lean -/

theorem frame_mirrorFetch {l₀ : List Area} {b₀ b : Block} (h₀ : Frame l₀ b₀ b) (c : Cmd)
    (hl : [.regs, .hq, .ml, .out] ⊆ l₀ := by first | assumption | exact Area.sub ‹_›) :
    Frame l₀ b₀ (b.mirrorFetch c) := by
  unfold Block.mirrorFetch
  repeat' first
    | (with_reducible assumption)
    | (with_reducible exact Area.sub ‹_›)
    | (with_reducible exact Frame.refl)
    | (with_reducible apply Frame.ite)
    | (with_reducible refine Frame.foldl ?_ (fun _ _ _ => ?_))
    | (with_reducible apply frame_setTxMseq)
    | (with_reducible apply frame_modCmd)
    | (with_reducible apply frame_melarSend)
    | (with_reducible apply frame_modMl)
    | (fail_if_no_progress extract_lets)
    | intro _
    | (with_reducible split)

theorem frame_setLag {l₀ : List Area} {b₀ b : Block} (h₀ : Frame l₀ b₀ b)
    (hl : [.regs, .irq, .ml, .out] ⊆ l₀ := by first | assumption | exact Area.sub ‹_›) :
    Frame l₀ b₀ (b.setLag) := by
  unfold Block.setLag
  repeat' first
    | (with_reducible assumption)
    | (with_reducible exact Area.sub ‹_›)
    | (with_reducible exact Frame.refl)
    | (with_reducible apply Frame.ite)
    | (with_reducible refine Frame.foldl ?_ (fun _ _ _ => ?_))
    | (with_reducible apply frame_setFld)
    | (with_reducible apply frame_raise)
    | (fail_if_no_progress extract_lets)
    | intro _
    | (with_reducible split)

theorem frame_mirrorData {l₀ : List Area} {b₀ b : Block} (h₀ : Frame l₀ b₀ b) (c : Cmd) (bytes : List Byte)
    (hl : [.regs, .irq, .hq, .ml, .out] ⊆ l₀ := by first | assumption | exact Area.sub ‹_›) :
    Frame l₀ b₀ (b.mirrorData c bytes) := by
  unfold Block.mirrorData
  repeat' first
    | (with_reducible assumption)
    | (with_reducible exact Area.sub ‹_›)
    | (with_reducible exact Frame.refl)
    | (with_reducible apply Frame.ite)
    | (with_reducible refine Frame.foldl ?_ (fun _ _ _ => ?_))
    | (with_reducible apply frame_melarSend)
    | (with_reducible apply frame_modCmd)
    | (with_reducible apply frame_modMl)
    | (with_reducible apply frame_setLag)
    | (fail_if_no_progress extract_lets)
    | intro _
    | (with_reducible split)

end Sys2Proof.Machine
end

