-- ==== Sys2Proof/Laws/FrameHost.lean ====
section
/-!
SUPPORT. What the host interface and the cipher engine leave unchanged, one lemma for each operation and each command.
-/

set_option Elab.async false
set_option linter.unreachableTactic false
set_option linter.unusedTactic false

namespace Sys2Proof.Machine

/-! ### Machine/Host.lean -/

theorem frame_fetchOne {l₀ : List Area} {b₀ b : Block} (h₀ : Frame l₀ b₀ b) (q : Nat) (d : Vector Word 16)
    (hl : [.regs, .irq, .hq, .store, .ml, .out] ⊆ l₀ := by first | assumption | exact Area.sub ‹_›) :
    Frame l₀ b₀ (b.fetchOne q d) := by
  unfold Block.fetchOne
  repeat' first
    | (with_reducible assumption)
    | (with_reducible exact Area.sub ‹_›)
    | (with_reducible exact Frame.refl)
    | (with_reducible apply Frame.ite)
    | (with_reducible refine Frame.foldl ?_ (fun _ _ _ => ?_))
    | (with_reducible apply frame_setFld)
    | (with_reducible apply frame_bump)
    | (with_reducible apply frame_modHq)
    | (with_reducible apply frame_post)
    | (with_reducible apply frame_modClip)
    | (with_reducible apply frame_placeEntries)
    | (with_reducible apply frame_mirrorFetch)
    | (fail_if_no_progress extract_lets)
    | intro _
    | (with_reducible split)

theorem frame_fetchMany {l₀ : List Area} {b₀ : Block} (q n : Nat) (l : List (Vector Word 16))
    (hl : [.regs, .irq, .hq, .store, .ml, .out] ⊆ l₀ := by first | assumption | exact Area.sub ‹_›) :
    ∀ {b : Block}, Frame l₀ b₀ b → Frame l₀ b₀ (b.fetchMany q n l) := by
  induction n generalizing l with
  | zero => intro b h; unfold Block.fetchMany; exact h
  | succ n ih =>
    intro b h
    cases l with
    | nil => exact h
    | cons d t =>
      unfold Block.fetchMany
      split
      · exact ih _ (frame_fetchOne h _ _)
      · exact h

theorem frame_mapPair {l₀ : List Area} {b₀ c : Block} {o : Option Nat} {f : Nat → Nat × Block} {q : Nat}
    (hf : ∀ n, Frame l₀ b₀ (f n).2) (e : o.map f = some (q, c)) : Frame l₀ b₀ c := by
  cases o with
  | none => cases e
  | some n =>
    have h := hf n
    simp only [Option.map_some, Option.some.injEq] at e
    rw [e] at h; exact h

theorem frame_nextArb {l₀ : List Area} {b₀ b c : Block} {q : Nat} (h₀ : Frame l₀ b₀ b) (e : b.arbitrate = some (q, c))
    (hl : [.hq] ⊆ l₀ := by first | assumption | exact Area.sub ‹_›) :
    Frame l₀ b₀ c := by
  have hm : ∀ f : Hq → Hq, Frame l₀ b₀ (b.modHq f) := fun f => frame_modHq h₀ f
  unfold Block.arbitrate at e
  dsimp only at e
  split at e
  · cases e; exact h₀
  · split at e
    · exact frame_mapPair (fun n => Frame.pair rfl (hm _)) e
    · split at e
      · exact frame_mapPair (fun n => Frame.pair rfl (hm _)) e
      · split at e
        · cases e
        · refine frame_mapPair (fun n => ?_) e
          refine Frame.pair rfl ?_
          refine frame_modHq (frame_modHq ?_ _) _
          split
          · exact h₀
          · exact hm _

theorem frame_execCommandFetch {l₀ : List Area} {b₀ : Block} {s t : State} {entries : List (Vector Word 16)}
    (e₀ : execCommandFetch entries s = .next t) (h₀ : Frame l₀ b₀ s.toBlock)
    (hl : [.regs, .irq, .hq, .store, .ml, .out] ⊆ l₀ := by first | assumption | exact Area.sub ‹_›) : Frame l₀ b₀ t.toBlock := by
  unfold execCommandFetch at e₀
  refine Frame.upd e₀ h₀ (fun _ h => ?_)
  split
  · exact h
  · rename_i e
    split
    · exact h
    · exact frame_fetchMany _ _ _ (by first | assumption | exact Area.sub ‹_›) (frame_nextArb h e)

theorem frame_execLockGrant {l₀ : List Area} {b₀ : Block} {s t : State} {tag : Nat} (e₀ : execLockGrant tag s = .next t)
    (h₀ : Frame l₀ b₀ s.toBlock)
    (hl : [.regs, .irq, .hq, .ml, .out] ⊆ l₀ := by first | assumption | exact Area.sub ‹_›) : Frame l₀ b₀ t.toBlock := by
  unfold execLockGrant at e₀
  refine Frame.upd e₀ h₀ (fun _ _ => ?_)
  repeat' first
    | (with_reducible assumption)
    | (with_reducible exact Area.sub ‹_›)
    | (with_reducible exact Frame.refl)
    | (with_reducible apply Frame.ite)
    | (with_reducible refine Frame.foldl ?_ (fun _ _ _ => ?_))
    | (with_reducible apply frame_conflict)
    | (with_reducible apply frame_modCmd)
    | (fail_if_no_progress extract_lets)
    | intro _
    | (with_reducible split)

theorem frame_execIngestReserve {l₀ : List Area} {b₀ : Block} {s t : State} {tag : Nat} (e₀ : execIngestReserve tag s = .next t)
    (h₀ : Frame l₀ b₀ s.toBlock)
    (hl : [.hq] ⊆ l₀ := by first | assumption | exact Area.sub ‹_›) : Frame l₀ b₀ t.toBlock := by
  unfold execIngestReserve at e₀
  refine Frame.upd e₀ h₀ (fun _ _ => ?_)
  repeat' first
    | (with_reducible assumption)
    | (with_reducible exact Area.sub ‹_›)
    | (with_reducible exact Frame.refl)
    | (with_reducible apply Frame.ite)
    | (with_reducible refine Frame.foldl ?_ (fun _ _ _ => ?_))
    | (with_reducible apply frame_modCmd)
    | (with_reducible apply frame_modHq)
    | (fail_if_no_progress extract_lets)
    | intro _
    | (with_reducible split)

theorem frame_startWrite {l₀ : List Area} {b₀ b : Block} (h₀ : Frame l₀ b₀ b) (c : Cmd)
    (hl : [.regs, .hq, .store] ⊆ l₀ := by first | assumption | exact Area.sub ‹_›) :
    Frame l₀ b₀ (b.startWrite c) := by
  unfold Block.startWrite
  repeat' first
    | (with_reducible assumption)
    | (with_reducible exact Area.sub ‹_›)
    | (with_reducible exact Frame.refl)
    | (with_reducible apply Frame.ite)
    | (with_reducible refine Frame.foldl ?_ (fun _ _ _ => ?_))
    | (with_reducible apply frame_modVol)
    | (with_reducible apply frame_modCmd)
    | (with_reducible apply frame_setBit)
    | (with_reducible apply frame_modClip)
    | (fail_if_no_progress extract_lets)
    | intro _
    | (with_reducible split)

theorem frame_execCommandStart {l₀ : List Area} {b₀ : Block} {s t : State} {tag : Nat} {segs : List Segment} (e₀ : execCommandStart tag segs s = .next t)
    (h₀ : Frame l₀ b₀ s.toBlock)
    (hl : [.regs, .hq, .store] ⊆ l₀ := by first | assumption | exact Area.sub ‹_›) : Frame l₀ b₀ t.toBlock := by
  unfold execCommandStart at e₀
  refine Frame.upd e₀ h₀ (fun _ _ => ?_)
  repeat' first
    | (with_reducible assumption)
    | (with_reducible exact Area.sub ‹_›)
    | (with_reducible exact Frame.refl)
    | (with_reducible apply Frame.ite)
    | (with_reducible refine Frame.foldl ?_ (fun _ _ _ => ?_))
    | (with_reducible apply frame_modCmd)
    | (with_reducible apply frame_dropClaims)
    | (with_reducible apply frame_finish)
    | (with_reducible apply frame_startWrite)
    | (fail_if_no_progress extract_lets)
    | intro _
    | (with_reducible split)

theorem frame_stampEntry {l₀ : List Area} {b₀ b : Block} (h₀ : Frame l₀ b₀ b) (c : Cmd)
    (hl : [.regs, .store, .ml, .out] ⊆ l₀ := by first | assumption | exact Area.sub ‹_›) :
    Frame l₀ b₀ (b.stampEntry c) := by
  unfold Block.stampEntry
  repeat' first
    | (with_reducible assumption)
    | (with_reducible exact Area.sub ‹_›)
    | (with_reducible exact Frame.refl)
    | (with_reducible apply Frame.ite)
    | (with_reducible refine Frame.foldl ?_ (fun _ _ _ => ?_))
    | (with_reducible apply frame_journalBoth)
    | (fail_if_no_progress extract_lets)
    | intro _
    | (with_reducible split)

theorem frame_resetDone {l₀ : List Area} {b₀ b : Block} (h₀ : Frame l₀ b₀ b)
    (hl : [.regs, .irq, .hq, .ml, .out] ⊆ l₀ := by first | assumption | exact Area.sub ‹_›) :
    Frame l₀ b₀ (b.resetDone) := by
  unfold Block.resetDone
  repeat' first
    | (with_reducible assumption)
    | (with_reducible exact Area.sub ‹_›)
    | (with_reducible exact Frame.refl)
    | (with_reducible apply Frame.ite)
    | (with_reducible refine Frame.foldl ?_ (fun _ _ _ => ?_))
    | (with_reducible apply frame_modHq)
    | (with_reducible apply frame_setBit)
    | (with_reducible apply frame_raise)
    | (fail_if_no_progress extract_lets)
    | intro _
    | (with_reducible split)

theorem frame_dropPair {l₀ : List Area} {b₀ b : Block} (h₀ : Frame l₀ b₀ b) (q : Nat)
    (hl : [.regs] ⊆ l₀ := by first | assumption | exact Area.sub ‹_›) :
    Frame l₀ b₀ (b.dropPair q) := by
  unfold Block.dropPair
  repeat' first
    | (with_reducible assumption)
    | (with_reducible exact Area.sub ‹_›)
    | (with_reducible exact Frame.refl)
    | (with_reducible apply Frame.ite)
    | (with_reducible refine Frame.foldl ?_ (fun _ _ _ => ?_))
    | (with_reducible apply frame_putBit)
    | (with_reducible apply frame_wr)
    | (fail_if_no_progress extract_lets)
    | intro _
    | (with_reducible split)

theorem frame_deleteDone {l₀ : List Area} {b₀ b : Block} (h₀ : Frame l₀ b₀ b)
    (hl : [.regs, .hq] ⊆ l₀ := by first | assumption | exact Area.sub ‹_›) :
    Frame l₀ b₀ (b.deleteDone) := by
  unfold Block.deleteDone
  repeat' first
    | (with_reducible assumption)
    | (with_reducible exact Area.sub ‹_›)
    | (with_reducible exact Frame.refl)
    | (with_reducible apply Frame.ite)
    | (with_reducible refine Frame.foldl ?_ (fun _ _ _ => ?_))
    | (with_reducible apply frame_dropPair)
    | (with_reducible apply frame_modHq)
    | (with_reducible apply frame_finish)
    | (fail_if_no_progress extract_lets)
    | intro _
    | (with_reducible split)

theorem frame_badDoorbell {l₀ : List Area} {b₀ b : Block} (h₀ : Frame l₀ b₀ b) (kind : Nat) (cq : Bool) (q : Nat) (v : Nat)
    (hl : [.regs, .irq, .hq, .ml, .out] ⊆ l₀ := by first | assumption | exact Area.sub ‹_›) :
    Frame l₀ b₀ (b.badDoorbell kind cq q v) := by
  unfold Block.badDoorbell
  repeat' first
    | (with_reducible assumption)
    | (with_reducible exact Area.sub ‹_›)
    | (with_reducible exact Frame.refl)
    | (with_reducible apply Frame.ite)
    | (with_reducible refine Frame.foldl ?_ (fun _ _ _ => ?_))
    | (with_reducible apply frame_setBit)
    | (with_reducible apply frame_setFld)
    | (with_reducible apply frame_raise)
    | (with_reducible apply frame_async)
    | (fail_if_no_progress extract_lets)
    | intro _
    | (with_reducible split)

theorem frame_execSqTailDoorbell {l₀ : List Area} {b₀ : Block} {s t : State} {q : Fin 128} {v : Word} (e₀ : execSqTailDoorbell q v s = .next t)
    (h₀ : Frame l₀ b₀ s.toBlock)
    (hl : [.regs, .irq, .hq, .ml, .out] ⊆ l₀ := by first | assumption | exact Area.sub ‹_›) : Frame l₀ b₀ t.toBlock := by
  unfold execSqTailDoorbell at e₀
  refine Frame.upd e₀ h₀ (fun _ _ => ?_)
  repeat' first
    | (with_reducible assumption)
    | (with_reducible exact Area.sub ‹_›)
    | (with_reducible exact Frame.refl)
    | (with_reducible apply Frame.ite)
    | (with_reducible refine Frame.foldl ?_ (fun _ _ _ => ?_))
    | (with_reducible apply frame_badDoorbell)
    | (with_reducible apply frame_setFld)
    | (fail_if_no_progress extract_lets)
    | intro _
    | (with_reducible split)

theorem frame_execCqHeadDoorbell {l₀ : List Area} {b₀ : Block} {s t : State} {q : Fin 128} {v : Word} (e₀ : execCqHeadDoorbell q v s = .next t)
    (h₀ : Frame l₀ b₀ s.toBlock)
    (hl : [.regs, .irq, .hq, .ml, .out] ⊆ l₀ := by first | assumption | exact Area.sub ‹_›) : Frame l₀ b₀ t.toBlock := by
  unfold execCqHeadDoorbell at e₀
  refine Frame.upd e₀ h₀ (fun _ _ => ?_)
  repeat' first
    | (with_reducible assumption)
    | (with_reducible exact Area.sub ‹_›)
    | (with_reducible exact Frame.refl)
    | (with_reducible apply Frame.ite)
    | (with_reducible refine Frame.foldl ?_ (fun _ _ _ => ?_))
    | (with_reducible apply frame_badDoorbell)
    | (with_reducible apply frame_setFld)
    | (with_reducible apply frame_modIrq)
    | (with_reducible apply frame_modIrq)
    | (with_reducible apply frame_clearPend)
    | (fail_if_no_progress extract_lets)
    | intro _
    | (with_reducible split)

theorem frame_makePair {l₀ : List Area} {b₀ b : Block} (h₀ : Frame l₀ b₀ b) (q : Nat) (sqs : Nat) (cqs : Nat) (vec : Nat) (cls : Nat)
    (hl : [.regs] ⊆ l₀ := by first | assumption | exact Area.sub ‹_›) :
    Frame l₀ b₀ (b.makePair q sqs cqs vec cls) := by
  unfold Block.makePair
  repeat' first
    | (with_reducible assumption)
    | (with_reducible exact Area.sub ‹_›)
    | (with_reducible exact Frame.refl)
    | (with_reducible apply Frame.ite)
    | (with_reducible refine Frame.foldl ?_ (fun _ _ _ => ?_))
    | (with_reducible apply frame_dropPair)
    | (with_reducible apply frame_putBit)
    | (with_reducible apply frame_setFld)
    | (fail_if_no_progress extract_lets)
    | intro _
    | (with_reducible split)

theorem frame_ctlReset {l₀ : List Area} {b₀ b : Block} (h₀ : Frame l₀ b₀ b)
    (hl : [.regs, .irq, .hq, .store, .ml, .out] ⊆ l₀ := by first | assumption | exact Area.sub ‹_›) :
    Frame l₀ b₀ (b.ctlReset) := by
  unfold Block.ctlReset
  repeat' first
    | (with_reducible assumption)
    | (with_reducible exact Area.sub ‹_›)
    | (with_reducible exact Frame.refl)
    | (with_reducible apply Frame.ite)
    | (with_reducible refine Frame.foldl ?_ (fun _ _ _ => ?_))
    | (with_reducible apply frame_setBit)
    | (with_reducible apply frame_raise)
    | (with_reducible apply frame_modHq)
    | (with_reducible apply frame_async)
    | (with_reducible apply frame_postOne)
    | (with_reducible apply frame_dropPair)
    | (with_reducible apply frame_modIrq)
    | (with_reducible apply frame_modIrq)
    | (with_reducible apply frame_resetDone)
    | (fail_if_no_progress extract_lets)
    | intro _
    | (with_reducible split)

theorem frame_execCompletionPost {l₀ : List Area} {b₀ : Block} {s t : State} {tag : Nat} (e₀ : execCompletionPost tag s = .next t)
    (h₀ : Frame l₀ b₀ s.toBlock)
    (hl : [.regs, .irq, .hq, .store, .ml, .out] ⊆ l₀ := by first | assumption | exact Area.sub ‹_›) : Frame l₀ b₀ t.toBlock := by
  unfold execCompletionPost at e₀
  refine Frame.upd e₀ h₀ (fun _ _ => ?_)
  repeat' first
    | (with_reducible assumption)
    | (with_reducible exact Area.sub ‹_›)
    | (with_reducible exact Frame.refl)
    | (with_reducible apply Frame.ite)
    | (with_reducible refine Frame.foldl ?_ (fun _ _ _ => ?_))
    | (with_reducible apply frame_stampEntry)
    | (with_reducible apply frame_post)
    | (with_reducible apply frame_resetDone)
    | (with_reducible apply frame_deleteDone)
    | (with_reducible apply frame_ctlReset)
    | (with_reducible apply frame_modHq)
    | (with_reducible apply frame_async)
    | (fail_if_no_progress extract_lets)
    | intro _
    | (with_reducible split)

theorem frame_execControllerReset {l₀ : List Area} {b₀ : Block} {s t : State} {cause : CtlReset} (e₀ : execControllerReset cause s = .next t)
    (h₀ : Frame l₀ b₀ s.toBlock)
    (hl : [.regs, .irq, .hq, .store, .ml, .out] ⊆ l₀ := by first | assumption | exact Area.sub ‹_›) : Frame l₀ b₀ t.toBlock := by
  unfold execControllerReset at e₀
  refine Frame.upd e₀ h₀ (fun _ _ => ?_)
  repeat' first
    | (with_reducible assumption)
    | (with_reducible exact Area.sub ‹_›)
    | (with_reducible exact Frame.refl)
    | (with_reducible apply Frame.ite)
    | (with_reducible refine Frame.foldl ?_ (fun _ _ _ => ?_))
    | (with_reducible apply frame_ctlReset)
    | (with_reducible apply frame_modIrq)
    | (with_reducible apply frame_modIrq)
    | (with_reducible apply frame_modHq)
    | (with_reducible apply frame_wr)
    | (with_reducible apply frame_raise)
    | (fail_if_no_progress extract_lets)
    | intro _
    | (with_reducible split)

theorem frame_tryReady {l₀ : List Area} {b₀ b : Block} (h₀ : Frame l₀ b₀ b)
    (hl : [.regs, .irq, .ml, .out] ⊆ l₀ := by first | assumption | exact Area.sub ‹_›) :
    Frame l₀ b₀ (b.tryReady) := by
  unfold Block.tryReady
  repeat' first
    | (with_reducible assumption)
    | (with_reducible exact Area.sub ‹_›)
    | (with_reducible exact Frame.refl)
    | (with_reducible apply Frame.ite)
    | (with_reducible refine Frame.foldl ?_ (fun _ _ _ => ?_))
    | (with_reducible apply frame_setBit)
    | (with_reducible apply frame_raise)
    | (with_reducible apply frame_makePair)
    | (fail_if_no_progress extract_lets)
    | intro _
    | (with_reducible split)

theorem frame_ctlEnable {l₀ : List Area} {b₀ b : Block} (h₀ : Frame l₀ b₀ b) (arbmode : Bool)
    (hl : [.regs, .irq, .ml, .out] ⊆ l₀ := by first | assumption | exact Area.sub ‹_›) :
    Frame l₀ b₀ (b.ctlEnable arbmode) := by
  unfold Block.ctlEnable
  repeat' first
    | (with_reducible assumption)
    | (with_reducible exact Area.sub ‹_›)
    | (with_reducible exact Frame.refl)
    | (with_reducible apply Frame.ite)
    | (with_reducible refine Frame.foldl ?_ (fun _ _ _ => ?_))
    | (with_reducible apply frame_setBit)
    | (with_reducible apply frame_tryReady)
    | (fail_if_no_progress extract_lets)
    | intro _
    | (with_reducible split)

theorem frame_execControllerEnable {l₀ : List Area} {b₀ : Block} {s t : State} {arbmode : Bool} (e₀ : execControllerEnable arbmode s = .next t)
    (h₀ : Frame l₀ b₀ s.toBlock)
    (hl : [.regs, .irq, .ml, .out] ⊆ l₀ := by first | assumption | exact Area.sub ‹_›) : Frame l₀ b₀ t.toBlock := by
  unfold execControllerEnable at e₀
  refine Frame.upd e₀ h₀ (fun _ _ => ?_)
  repeat' first
    | (with_reducible assumption)
    | (with_reducible exact Area.sub ‹_›)
    | (with_reducible exact Frame.refl)
    | (with_reducible apply Frame.ite)
    | (with_reducible refine Frame.foldl ?_ (fun _ _ _ => ?_))
    | (with_reducible apply frame_ctlEnable)
    | (fail_if_no_progress extract_lets)
    | intro _
    | (with_reducible split)

theorem frame_execHostDmaFailure {l₀ : List Area} {b₀ : Block} {s t : State} {f : HostFail} (e₀ : execHostDmaFailure f s = .next t)
    (h₀ : Frame l₀ b₀ s.toBlock)
    (hl : [.regs, .irq, .hq, .store, .ml, .out] ⊆ l₀ := by first | assumption | exact Area.sub ‹_›) : Frame l₀ b₀ t.toBlock := by
  unfold execHostDmaFailure at e₀
  refine Frame.upd e₀ h₀ (fun _ _ => ?_)
  repeat' first
    | (with_reducible assumption)
    | (with_reducible exact Area.sub ‹_›)
    | (with_reducible exact Frame.refl)
    | (with_reducible apply Frame.ite)
    | (with_reducible refine Frame.foldl ?_ (fun _ _ _ => ?_))
    | (with_reducible apply frame_dropClaims)
    | (with_reducible apply frame_finish)
    | (with_reducible apply frame_elogNoCmd)
    | (with_reducible apply frame_async)
    | (with_reducible apply frame_raise)
    | (with_reducible apply frame_freeze)
    | (with_reducible apply frame_setBit)
    | (fail_if_no_progress extract_lets)
    | intro _
    | (with_reducible split)

theorem frame_execPcieLinkChange {l₀ : List Area} {b₀ : Block} {s t : State} {speed : Fin 6} {width : BitVec 6} {pm : BitVec 2} (e₀ : execPcieLinkChange speed width pm s = .next t)
    (h₀ : Frame l₀ b₀ s.toBlock)
    (hl : [.regs, .irq, .ml, .out] ⊆ l₀ := by first | assumption | exact Area.sub ‹_›) : Frame l₀ b₀ t.toBlock := by
  unfold execPcieLinkChange at e₀
  refine Frame.upd e₀ h₀ (fun _ _ => ?_)
  repeat' first
    | (with_reducible assumption)
    | (with_reducible exact Area.sub ‹_›)
    | (with_reducible exact Frame.refl)
    | (with_reducible apply Frame.ite)
    | (with_reducible refine Frame.foldl ?_ (fun _ _ _ => ?_))
    | (with_reducible apply frame_setFld)
    | (with_reducible apply frame_setBit)
    | (with_reducible apply frame_raise)
    | (fail_if_no_progress extract_lets)
    | intro _
    | (with_reducible split)

/-! ### Machine/Cipher.lean -/

theorem frame_setSlot {l₀ : List Area} {b₀ b : Block} (h₀ : Frame l₀ b₀ b) (n : Nat) (k : CxKey)
    (hl : [.cx] ⊆ l₀ := by first | assumption | exact Area.sub ‹_›) :
    Frame l₀ b₀ (b.setSlot n k) := by
  unfold Block.setSlot
  repeat' first
    | (with_reducible assumption)
    | (with_reducible exact Area.sub ‹_›)
    | (with_reducible exact Frame.refl)
    | (with_reducible apply Frame.ite)
    | (with_reducible refine Frame.foldl ?_ (fun _ _ _ => ?_))
    | (with_reducible apply frame_modCx)
    | (fail_if_no_progress extract_lets)
    | intro _
    | (with_reducible split)

theorem frame_clearPage {l₀ : List Area} {b₀ b : Block} (h₀ : Frame l₀ b₀ b) (p : Fin 16) (nokey : Bool)
    (hl : [.regs, .cx] ⊆ l₀ := by first | assumption | exact Area.sub ‹_›) :
    Frame l₀ b₀ (b.clearPage p nokey) := by
  unfold Block.clearPage
  repeat' first
    | (with_reducible assumption)
    | (with_reducible exact Area.sub ‹_›)
    | (with_reducible exact Frame.refl)
    | (with_reducible apply Frame.ite)
    | (with_reducible refine Frame.foldl ?_ (fun _ _ _ => ?_))
    | (with_reducible apply frame_modCx)
    | (with_reducible apply frame_setBit)
    | (with_reducible apply frame_setFld)
    | (fail_if_no_progress extract_lets)
    | intro _
    | (with_reducible split)

theorem frame_loadPage {l₀ : List Area} {b₀ b : Block} (h₀ : Frame l₀ b₀ b) (p : Fin 16)
    (hl : [.regs, .irq, .cx, .ml, .out] ⊆ l₀ := by first | assumption | exact Area.sub ‹_›) :
    Frame l₀ b₀ (b.loadPage p) := by
  unfold Block.loadPage
  repeat' first
    | (with_reducible assumption)
    | (with_reducible exact Area.sub ‹_›)
    | (with_reducible exact Frame.refl)
    | (with_reducible apply Frame.ite)
    | (with_reducible refine Frame.foldl ?_ (fun _ _ _ => ?_))
    | (with_reducible apply frame_clearPage)
    | (with_reducible apply frame_raise)
    | (with_reducible apply frame_modCx)
    | (with_reducible apply frame_setBit)
    | (with_reducible apply frame_setFld)
    | (fail_if_no_progress extract_lets)
    | intro _
    | (with_reducible split)

theorem frame_pageWrite {l₀ : List Area} {b₀ b : Block} (h₀ : Frame l₀ b₀ b) (p : Fin 16) (v : Word)
    (hl : [.regs, .irq, .cx, .ml, .out] ⊆ l₀ := by first | assumption | exact Area.sub ‹_›) :
    Frame l₀ b₀ (b.pageWrite p v) := by
  unfold Block.pageWrite
  repeat' first
    | (with_reducible assumption)
    | (with_reducible exact Area.sub ‹_›)
    | (with_reducible exact Frame.refl)
    | (with_reducible apply Frame.ite)
    | (with_reducible refine Frame.foldl ?_ (fun _ _ _ => ?_))
    | (with_reducible apply frame_setFld)
    | (with_reducible apply frame_clearPage)
    | (with_reducible apply frame_loadPage)
    | (fail_if_no_progress extract_lets)
    | intro _
    | (with_reducible split)

theorem frame_execPageKeyLoad {l₀ : List Area} {b₀ : Block} {s t : State} {p : Fin 16} {slot : Fin 64} (e₀ : execPageKeyLoad p slot s = .next t)
    (h₀ : Frame l₀ b₀ s.toBlock)
    (hl : [.regs, .irq, .cx, .ml, .out] ⊆ l₀ := by first | assumption | exact Area.sub ‹_›) : Frame l₀ b₀ t.toBlock := by
  unfold execPageKeyLoad at e₀
  refine Frame.upd e₀ h₀ (fun _ _ => ?_)
  repeat' first
    | (with_reducible assumption)
    | (with_reducible exact Area.sub ‹_›)
    | (with_reducible exact Frame.refl)
    | (with_reducible apply Frame.ite)
    | (with_reducible refine Frame.foldl ?_ (fun _ _ _ => ?_))
    | (with_reducible apply frame_pageWrite)
    | (fail_if_no_progress extract_lets)
    | intro _
    | (with_reducible split)

theorem frame_execPageCtlWrite {l₀ : List Area} {b₀ : Block} {s t : State} {p : Fin 16} {v : Word} (e₀ : execPageCtlWrite p v s = .next t)
    (h₀ : Frame l₀ b₀ s.toBlock)
    (hl : [.regs, .irq, .cx, .ml, .out] ⊆ l₀ := by first | assumption | exact Area.sub ‹_›) : Frame l₀ b₀ t.toBlock := by
  unfold execPageCtlWrite at e₀
  refine Frame.upd e₀ h₀ (fun _ _ => ?_)
  repeat' first
    | (with_reducible assumption)
    | (with_reducible exact Area.sub ‹_›)
    | (with_reducible exact Frame.refl)
    | (with_reducible apply Frame.ite)
    | (with_reducible refine Frame.foldl ?_ (fun _ _ _ => ?_))
    | (with_reducible apply frame_pageWrite)
    | (fail_if_no_progress extract_lets)
    | intro _
    | (with_reducible split)

theorem frame_mismatch {l₀ : List Area} {b₀ b : Block} (h₀ : Frame l₀ b₀ b) (n : Fin 4)
    (hl : [.regs, .irq, .cx, .ml, .out] ⊆ l₀ := by first | assumption | exact Area.sub ‹_›) :
    Frame l₀ b₀ (b.mismatch n) := by
  unfold Block.mismatch
  repeat' first
    | (with_reducible assumption)
    | (with_reducible exact Area.sub ‹_›)
    | (with_reducible exact Frame.refl)
    | (with_reducible apply Frame.ite)
    | (with_reducible refine Frame.foldl ?_ (fun _ _ _ => ?_))
    | (with_reducible apply frame_bump)
    | (with_reducible apply frame_putBit)
    | (with_reducible apply frame_raise)
    | (with_reducible apply frame_modCx)
    | (fail_if_no_progress extract_lets)
    | intro _
    | (with_reducible split)

theorem frame_cxFail {l₀ : List Area} {b₀ b : Block} (h₀ : Frame l₀ b₀ b) (use : CxUse) (status : Nat)
    (hl : [.hq] ⊆ l₀ := by first | assumption | exact Area.sub ‹_›) :
    Frame l₀ b₀ (b.cxFail use status) := by
  unfold Block.cxFail
  dsimp only
  repeat' first
    | (with_reducible assumption)
    | (with_reducible exact Area.sub ‹_›)
    | (with_reducible exact Frame.refl)
    | (with_reducible apply Frame.ite)
    | (with_reducible refine Frame.foldl ?_ (fun _ _ _ => ?_))
    | (with_reducible apply frame_finish)
    | (fail_if_no_progress extract_lets)
    | intro _
    | (with_reducible split)

theorem frame_cxBlocked {l₀ : List Area} {b₀ b c : Block} {p : Fin 16} {n : Fin 4} {use : CxUse}
    (e : b.cxBlocked p n use = some c) (h₀ : Frame l₀ b₀ b)
    (hl : [.hq] ⊆ l₀ := by first | assumption | exact Area.sub ‹_›) : Frame l₀ b₀ c := by
  unfold Block.cxBlocked at e
  split at e
  · cases e; exact frame_cxFail h₀ _ _
  · split at e
    · cases e; exact frame_cxFail h₀ _ _
    · split at e <;> cases e
      exact h₀

theorem frame_execCipherUnit {l₀ : List Area} {b₀ : Block} {s t : State} {p : Fin 16} {n : Fin 4} {use : CxUse} {tw : List Byte} {data : List Byte} {differ : Bool} (e₀ : execCipherUnit p n use tw data differ s = .next t)
    (h₀ : Frame l₀ b₀ s.toBlock)
    (hl : [.regs, .irq, .hq, .cx, .ml, .out] ⊆ l₀ := by first | assumption | exact Area.sub ‹_›) : Frame l₀ b₀ t.toBlock := by
  unfold execCipherUnit at e₀
  refine Frame.upd e₀ h₀ (fun _ _ => ?_)
  repeat' first
    | (with_reducible assumption)
    | (with_reducible exact Area.sub ‹_›)
    | (with_reducible exact Frame.refl)
    | (with_reducible apply Frame.ite)
    | (with_reducible refine Frame.foldl ?_ (fun _ _ _ => ?_))
    | (with_reducible refine frame_cxBlocked (by with_reducible assumption) ?_)
    | (with_reducible apply frame_mismatch)
    | (with_reducible apply frame_cxFail)
    | (with_reducible apply frame_bump)
    | (with_reducible apply frame_emit)
    | (fail_if_no_progress extract_lets)
    | intro _
    | (with_reducible split)

theorem frame_execReTweak {l₀ : List Area} {b₀ : Block} {s t : State} {p : Fin 16} {n : Fin 4} {old : List Byte} {new : List Byte} {data : List Byte} {differ : Bool} (e₀ : execReTweak p n old new data differ s = .next t)
    (h₀ : Frame l₀ b₀ s.toBlock)
    (hl : [.regs, .irq, .hq, .cx, .ml, .out] ⊆ l₀ := by first | assumption | exact Area.sub ‹_›) : Frame l₀ b₀ t.toBlock := by
  unfold execReTweak at e₀
  refine Frame.upd e₀ h₀ (fun _ _ => ?_)
  repeat' first
    | (with_reducible assumption)
    | (with_reducible exact Area.sub ‹_›)
    | (with_reducible exact Frame.refl)
    | (with_reducible apply Frame.ite)
    | (with_reducible refine Frame.foldl ?_ (fun _ _ _ => ?_))
    | (with_reducible refine frame_cxBlocked (by with_reducible assumption) ?_)
    | (with_reducible apply frame_mismatch)
    | (with_reducible apply frame_bump)
    | (with_reducible apply frame_emit)
    | (fail_if_no_progress extract_lets)
    | intro _
    | (with_reducible split)

theorem frame_recordMismatch {l₀ : List Area} {b₀ b : Block} (h₀ : Frame l₀ b₀ b) (n : Fin 4)
    (hl : [.regs, .irq, .hq, .cx, .ml, .out] ⊆ l₀ := by first | assumption | exact Area.sub ‹_›) :
    Frame l₀ b₀ (b.recordMismatch n) := by
  unfold Block.recordMismatch
  repeat' first
    | (with_reducible assumption)
    | (with_reducible exact Area.sub ‹_›)
    | (with_reducible exact Frame.refl)
    | (with_reducible apply Frame.ite)
    | (with_reducible refine Frame.foldl ?_ (fun _ _ _ => ?_))
    | (with_reducible apply Frame.ite2)
    | (with_reducible refine Frame.snd (by with_reducible assumption) ?_)
    | (with_reducible refine Frame.thd (by with_reducible assumption) ?_)
    | (with_reducible apply frame_mismatch)
    | (with_reducible apply frame_modCx)
    | (with_reducible apply frame_elogAdd)
    | (with_reducible apply frame_async)
    | (fail_if_no_progress extract_lets)
    | intro _
    | (with_reducible split)

theorem frame_execGcmSeal {l₀ : List Area} {b₀ : Block} {s t : State} {p : Fin 16} {n : Fin 4} {iv : List Byte} {header : List Byte} {body : List Byte} {encb : Bool} {differ : Bool} (e₀ : execGcmSeal p n iv header body encb differ s = .next t)
    (h₀ : Frame l₀ b₀ s.toBlock)
    (hl : [.regs, .irq, .hq, .cx, .ml, .out] ⊆ l₀ := by first | assumption | exact Area.sub ‹_›) : Frame l₀ b₀ t.toBlock := by
  unfold execGcmSeal at e₀
  refine Frame.upd e₀ h₀ (fun _ _ => ?_)
  repeat' first
    | (with_reducible assumption)
    | (with_reducible exact Area.sub ‹_›)
    | (with_reducible exact Frame.refl)
    | (with_reducible apply Frame.ite)
    | (with_reducible refine Frame.foldl ?_ (fun _ _ _ => ?_))
    | (with_reducible refine frame_cxBlocked (by with_reducible assumption) ?_)
    | (with_reducible apply frame_recordMismatch)
    | (with_reducible apply frame_modCx)
    | (with_reducible apply frame_bump)
    | (with_reducible apply frame_emit)
    | (fail_if_no_progress extract_lets)
    | intro _
    | (with_reducible split)

theorem frame_execGcmOpen {l₀ : List Area} {b₀ : Block} {s t : State} {p : Fin 16} {n : Fin 4} {iv : List Byte} {header : List Byte} {body : List Byte} {tag : List Byte} {encb : Bool} {differ : Bool} (e₀ : execGcmOpen p n iv header body tag encb differ s = .next t)
    (h₀ : Frame l₀ b₀ s.toBlock)
    (hl : [.regs, .irq, .hq, .cx, .ml, .out] ⊆ l₀ := by first | assumption | exact Area.sub ‹_›) : Frame l₀ b₀ t.toBlock := by
  unfold execGcmOpen at e₀
  refine Frame.upd e₀ h₀ (fun _ _ => ?_)
  repeat' first
    | (with_reducible assumption)
    | (with_reducible exact Area.sub ‹_›)
    | (with_reducible exact Frame.refl)
    | (with_reducible apply Frame.ite)
    | (with_reducible refine Frame.foldl ?_ (fun _ _ _ => ?_))
    | (with_reducible refine frame_cxBlocked (by with_reducible assumption) ?_)
    | (with_reducible apply frame_recordMismatch)
    | (with_reducible apply frame_modCx)
    | (with_reducible apply frame_bump)
    | (with_reducible apply frame_emit)
    | (with_reducible apply frame_setBit)
    | (with_reducible apply frame_raise)
    | (fail_if_no_progress extract_lets)
    | intro _
    | (with_reducible split)

theorem frame_execPairKat {l₀ : List Area} {b₀ : Block} {s t : State} {n : Fin 4} {pass : Bool} (e₀ : execPairKat n pass s = .next t)
    (h₀ : Frame l₀ b₀ s.toBlock)
    (hl : [.regs, .irq, .cx, .ml, .out] ⊆ l₀ := by first | assumption | exact Area.sub ‹_›) : Frame l₀ b₀ t.toBlock := by
  unfold execPairKat at e₀
  refine Frame.upd e₀ h₀ (fun _ _ => ?_)
  repeat' first
    | (with_reducible assumption)
    | (with_reducible exact Area.sub ‹_›)
    | (with_reducible exact Frame.refl)
    | (with_reducible apply Frame.ite)
    | (with_reducible refine Frame.foldl ?_ (fun _ _ _ => ?_))
    | (with_reducible apply frame_modCx)
    | (with_reducible apply frame_putBit)
    | (with_reducible apply frame_raise)
    | (fail_if_no_progress extract_lets)
    | intro _
    | (with_reducible split)

theorem frame_pairRestore {l₀ : List Area} {b₀ b : Block} (h₀ : Frame l₀ b₀ b) (n : Fin 4)
    (hl : [.cx] ⊆ l₀ := by first | assumption | exact Area.sub ‹_›) :
    Frame l₀ b₀ (b.pairRestore n) := by
  unfold Block.pairRestore
  repeat' first
    | (with_reducible assumption)
    | (with_reducible exact Area.sub ‹_›)
    | (with_reducible exact Frame.refl)
    | (with_reducible apply Frame.ite)
    | (with_reducible refine Frame.foldl ?_ (fun _ _ _ => ?_))
    | (with_reducible apply frame_modCx)
    | (fail_if_no_progress extract_lets)
    | intro _
    | (with_reducible split)

theorem frame_execPairRestore {l₀ : List Area} {b₀ : Block} {s t : State} {n : Fin 4} {pass : Bool} (e₀ : execPairRestore n pass s = .next t)
    (h₀ : Frame l₀ b₀ s.toBlock)
    (hl : [.regs, .irq, .ml, .out] ⊆ l₀ := by first | assumption | exact Area.sub ‹_›) : Frame l₀ b₀ t.toBlock := by
  unfold execPairRestore at e₀
  refine Frame.upd e₀ h₀ (fun _ _ => ?_)
  repeat' first
    | (with_reducible assumption)
    | (with_reducible exact Area.sub ‹_›)
    | (with_reducible exact Frame.refl)
    | (with_reducible apply Frame.ite)
    | (with_reducible refine Frame.foldl ?_ (fun _ _ _ => ?_))
    | (with_reducible apply frame_putBit)
    | (with_reducible apply frame_raise)
    | (fail_if_no_progress extract_lets)
    | intro _
    | (with_reducible split)

theorem frame_katAll {l₀ : List Area} {b₀ b : Block} (h₀ : Frame l₀ b₀ b)
    (hl : [.cx] ⊆ l₀ := by first | assumption | exact Area.sub ‹_›) :
    Frame l₀ b₀ (b.katAll) := by
  unfold Block.katAll
  repeat' first
    | (with_reducible assumption)
    | (with_reducible exact Area.sub ‹_›)
    | (with_reducible exact Frame.refl)
    | (with_reducible apply Frame.ite)
    | (with_reducible refine Frame.foldl ?_ (fun _ _ _ => ?_))
    | (with_reducible apply frame_modCx)
    | (fail_if_no_progress extract_lets)
    | intro _
    | (with_reducible split)

theorem frame_clearBlob {l₀ : List Area} {b₀ b : Block} (h₀ : Frame l₀ b₀ b)
    (hl : [.regs] ⊆ l₀ := by first | assumption | exact Area.sub ‹_›) :
    Frame l₀ b₀ (b.clearBlob) := by
  unfold Block.clearBlob
  repeat' first
    | (with_reducible assumption)
    | (with_reducible exact Area.sub ‹_›)
    | (with_reducible exact Frame.refl)
    | (with_reducible apply Frame.ite)
    | (with_reducible refine Frame.foldl ?_ (fun _ _ _ => ?_))
    | (with_reducible apply frame_wr)
    | (fail_if_no_progress extract_lets)
    | intro _
    | (with_reducible split)

theorem frame_ksResult {l₀ : List Area} {b₀ b : Block} (h₀ : Frame l₀ b₀ b) (r : Nat)
    (hl : [.regs] ⊆ l₀ := by first | assumption | exact Area.sub ‹_›) :
    Frame l₀ b₀ (b.ksResult r) := by
  unfold Block.ksResult
  repeat' first
    | (with_reducible assumption)
    | (with_reducible exact Area.sub ‹_›)
    | (with_reducible exact Frame.refl)
    | (with_reducible apply Frame.ite)
    | (with_reducible refine Frame.foldl ?_ (fun _ _ _ => ?_))
    | (with_reducible apply frame_setFld)
    | (with_reducible apply frame_clearBlob)
    | (fail_if_no_progress extract_lets)
    | intro _
    | (with_reducible split)

theorem frame_install {l₀ : List Area} {b₀ b : Block} (h₀ : Frame l₀ b₀ b) (slot : Nat) (gcmKey : Bool) (blob : List Byte)
    (hl : [.regs, .irq, .cx, .ml, .out] ⊆ l₀ := by first | assumption | exact Area.sub ‹_›) :
    Frame l₀ b₀ (b.install slot gcmKey blob) := by
  unfold Block.install
  dsimp only
  repeat' first
    | (with_reducible assumption)
    | (with_reducible exact Area.sub ‹_›)
    | (with_reducible exact Frame.refl)
    | (with_reducible apply Frame.ite)
    | (with_reducible refine Frame.foldl ?_ (fun _ _ _ => ?_))
    | (with_reducible apply frame_ksResult)
    | (with_reducible apply frame_raise)
    | (with_reducible apply frame_setSlot)
    | (with_reducible apply frame_setFld)
    | (fail_if_no_progress extract_lets)
    | intro _
    | (with_reducible split)

theorem frame_ksErase {l₀ : List Area} {b₀ b : Block} (h₀ : Frame l₀ b₀ b) (slot : Nat)
    (hl : [.regs, .cx] ⊆ l₀ := by first | assumption | exact Area.sub ‹_›) :
    Frame l₀ b₀ (b.ksErase slot) := by
  unfold Block.ksErase
  repeat' first
    | (with_reducible assumption)
    | (with_reducible exact Area.sub ‹_›)
    | (with_reducible exact Frame.refl)
    | (with_reducible apply Frame.ite)
    | (with_reducible refine Frame.foldl ?_ (fun _ _ _ => ?_))
    | (with_reducible apply frame_ksResult)
    | (with_reducible apply frame_setSlot)
    | (fail_if_no_progress extract_lets)
    | intro _
    | (with_reducible split)

theorem frame_ksEraseAll {l₀ : List Area} {b₀ b : Block} (h₀ : Frame l₀ b₀ b)
    (hl : [.regs, .cx] ⊆ l₀ := by first | assumption | exact Area.sub ‹_›) :
    Frame l₀ b₀ (b.ksEraseAll) := by
  unfold Block.ksEraseAll
  repeat' first
    | (with_reducible assumption)
    | (with_reducible exact Area.sub ‹_›)
    | (with_reducible exact Frame.refl)
    | (with_reducible apply Frame.ite)
    | (with_reducible refine Frame.foldl ?_ (fun _ _ _ => ?_))
    | (with_reducible apply frame_ksResult)
    | (with_reducible apply frame_modCx)
    | (fail_if_no_progress extract_lets)
    | intro _
    | (with_reducible split)

theorem frame_ksGo {l₀ : List Area} {b₀ b : Block} (h₀ : Frame l₀ b₀ b)
    (hl : [.regs, .irq, .cx, .ml, .out] ⊆ l₀ := by first | assumption | exact Area.sub ‹_›) :
    Frame l₀ b₀ (b.ksGo) := by
  unfold Block.ksGo
  repeat' first
    | (with_reducible assumption)
    | (with_reducible exact Area.sub ‹_›)
    | (with_reducible exact Frame.refl)
    | (with_reducible apply Frame.ite)
    | (with_reducible refine Frame.foldl ?_ (fun _ _ _ => ?_))
    | (with_reducible apply frame_install)
    | (with_reducible apply frame_ksErase)
    | (with_reducible apply frame_ksEraseAll)
    | (fail_if_no_progress extract_lets)
    | intro _
    | (with_reducible split)

theorem frame_execInstall {l₀ : List Area} {b₀ : Block} {s t : State} {slot : Fin 64} {gcmKey : Bool} {blob : List Byte} (e₀ : execInstall slot gcmKey blob s = .next t)
    (h₀ : Frame l₀ b₀ s.toBlock)
    (hl : [.regs, .irq, .cx, .ml, .out] ⊆ l₀ := by first | assumption | exact Area.sub ‹_›) : Frame l₀ b₀ t.toBlock := by
  unfold execInstall at e₀
  refine Frame.upd e₀ h₀ (fun _ _ => ?_)
  repeat' first
    | (with_reducible assumption)
    | (with_reducible exact Area.sub ‹_›)
    | (with_reducible exact Frame.refl)
    | (with_reducible apply Frame.ite)
    | (with_reducible refine Frame.foldl ?_ (fun _ _ _ => ?_))
    | (with_reducible apply frame_setFld)
    | (with_reducible apply frame_setBit)
    | (with_reducible apply frame_install)
    | (fail_if_no_progress extract_lets)
    | intro _
    | (with_reducible split)

theorem frame_execErase {l₀ : List Area} {b₀ : Block} {s t : State} {slot : Fin 64} (e₀ : execErase slot s = .next t)
    (h₀ : Frame l₀ b₀ s.toBlock)
    (hl : [.regs, .cx] ⊆ l₀ := by first | assumption | exact Area.sub ‹_›) : Frame l₀ b₀ t.toBlock := by
  unfold execErase at e₀
  refine Frame.upd e₀ h₀ (fun _ _ => ?_)
  repeat' first
    | (with_reducible assumption)
    | (with_reducible exact Area.sub ‹_›)
    | (with_reducible exact Frame.refl)
    | (with_reducible apply Frame.ite)
    | (with_reducible refine Frame.foldl ?_ (fun _ _ _ => ?_))
    | (with_reducible apply frame_setFld)
    | (with_reducible apply frame_ksErase)
    | (fail_if_no_progress extract_lets)
    | intro _
    | (with_reducible split)

theorem frame_execEraseAll {l₀ : List Area} {b₀ : Block} {s t : State} (e₀ : execEraseAll s = .next t)
    (h₀ : Frame l₀ b₀ s.toBlock)
    (hl : [.regs, .cx] ⊆ l₀ := by first | assumption | exact Area.sub ‹_›) : Frame l₀ b₀ t.toBlock := by
  unfold execEraseAll at e₀
  refine Frame.upd e₀ h₀ (fun _ _ => ?_)
  repeat' first
    | (with_reducible assumption)
    | (with_reducible exact Area.sub ‹_›)
    | (with_reducible exact Frame.refl)
    | (with_reducible apply Frame.ite)
    | (with_reducible refine Frame.foldl ?_ (fun _ _ _ => ?_))
    | (with_reducible apply frame_setFld)
    | (with_reducible apply frame_ksEraseAll)
    | (fail_if_no_progress extract_lets)
    | intro _
    | (with_reducible split)

theorem frame_keysGone {l₀ : List Area} {b₀ b : Block} (h₀ : Frame l₀ b₀ b)
    (hl : [.hq] ⊆ l₀ := by first | assumption | exact Area.sub ‹_›) :
    Frame l₀ b₀ (b.keysGone) := by
  unfold Block.keysGone
  repeat' first
    | (with_reducible assumption)
    | (with_reducible exact Area.sub ‹_›)
    | (with_reducible exact Frame.refl)
    | (with_reducible apply Frame.ite)
    | (with_reducible refine Frame.foldl ?_ (fun _ _ _ => ?_))
    | (with_reducible apply frame_finish)
    | (fail_if_no_progress extract_lets)
    | intro _
    | (with_reducible split)

theorem frame_keyAlarm {l₀ : List Area} {b₀ b : Block} (h₀ : Frame l₀ b₀ b) (a : KeyAlarm)
    (hl : [.regs, .irq, .hq, .store, .cx, .ml, .out] ⊆ l₀ := by first | assumption | exact Area.sub ‹_›) :
    Frame l₀ b₀ (b.keyAlarm a) := by
  unfold Block.keyAlarm
  repeat' first
    | (with_reducible assumption)
    | (with_reducible exact Area.sub ‹_›)
    | (with_reducible exact Frame.refl)
    | (with_reducible apply Frame.ite)
    | (with_reducible refine Frame.foldl ?_ (fun _ _ _ => ?_))
    | (with_reducible apply frame_setBit)
    | (with_reducible apply frame_modCx)
    | (with_reducible apply frame_clearPage)
    | (with_reducible apply frame_bump)
    | (with_reducible apply frame_raise)
    | (with_reducible apply frame_modVol)
    | (with_reducible apply frame_keysGone)
    | (with_reducible apply frame_async)
    | (fail_if_no_progress extract_lets)
    | intro _
    | (with_reducible split)

theorem frame_execKeyAlarm {l₀ : List Area} {b₀ : Block} {s t : State} {a : KeyAlarm} {present : Bool} (e₀ : execKeyAlarm a present s = .next t)
    (h₀ : Frame l₀ b₀ s.toBlock)
    (hl : [.regs, .irq, .hq, .store, .cx, .ml, .out] ⊆ l₀ := by first | assumption | exact Area.sub ‹_›) : Frame l₀ b₀ t.toBlock := by
  unfold execKeyAlarm at e₀
  refine Frame.upd e₀ h₀ (fun _ _ => ?_)
  repeat' first
    | (with_reducible assumption)
    | (with_reducible exact Area.sub ‹_›)
    | (with_reducible exact Frame.refl)
    | (with_reducible apply Frame.ite)
    | (with_reducible refine Frame.foldl ?_ (fun _ _ _ => ?_))
    | (with_reducible apply frame_keyAlarm)
    | (with_reducible apply frame_modCx)
    | (fail_if_no_progress extract_lets)
    | intro _
    | (with_reducible split)

/-! ### Machine/Admin.lean -/

theorem frame_actOn {l₀ : List Area} {b₀ b : Block} (h₀ : Frame l₀ b₀ b) (tag : Nat) (o : Nat) (f : Block → Cmd → Block) (hf : ∀ c x0, Frame l₀ b₀ c → Frame l₀ b₀ (f c x0))
    (hl : [] ⊆ l₀ := by first | assumption | exact Area.sub ‹_›) :
    Frame l₀ b₀ (b.actOn tag o f) := by
  unfold Block.actOn
  repeat' first
    | (with_reducible assumption)
    | (with_reducible exact Area.sub ‹_›)
    | (with_reducible exact Frame.refl)
    | (with_reducible apply Frame.ite)
    | (with_reducible refine Frame.foldl ?_ (fun _ _ _ => ?_))
    | (with_reducible apply hf)
    | (fail_if_no_progress extract_lets)
    | intro _
    | (with_reducible split)

theorem frame_succeed {l₀ : List Area} {b₀ b : Block} (h₀ : Frame l₀ b₀ b) (c : Cmd) (res : Nat)
    (hl : [.hq] ⊆ l₀ := by first | assumption | exact Area.sub ‹_›) :
    Frame l₀ b₀ (b.succeed c res) := by
  unfold Block.succeed
  repeat' first
    | (with_reducible assumption)
    | (with_reducible exact Area.sub ‹_›)
    | (with_reducible exact Frame.refl)
    | (with_reducible apply Frame.ite)
    | (with_reducible refine Frame.foldl ?_ (fun _ _ _ => ?_))
    | (with_reducible apply frame_finish)
    | (fail_if_no_progress extract_lets)
    | intro _
    | (with_reducible split)

theorem frame_failWith {l₀ : List Area} {b₀ b : Block} (h₀ : Frame l₀ b₀ b) (c : Cmd) (status : Nat) (detail : Nat)
    (hl : [.hq] ⊆ l₀ := by first | assumption | exact Area.sub ‹_›) :
    Frame l₀ b₀ (b.failWith c status detail) := by
  unfold Block.failWith
  repeat' first
    | (with_reducible assumption)
    | (with_reducible exact Area.sub ‹_›)
    | (with_reducible exact Frame.refl)
    | (with_reducible apply Frame.ite)
    | (with_reducible refine Frame.foldl ?_ (fun _ _ _ => ?_))
    | (with_reducible apply frame_finish)
    | (fail_if_no_progress extract_lets)
    | intro _
    | (with_reducible split)

theorem frame_sendData {l₀ : List Area} {b₀ b : Block} (h₀ : Frame l₀ b₀ b) (c : Cmd) (bytes : List Byte)
    (hl : [.out] ⊆ l₀ := by first | assumption | exact Area.sub ‹_›) :
    Frame l₀ b₀ (b.sendData c bytes) := by
  unfold Block.sendData
  repeat' first
    | (with_reducible assumption)
    | (with_reducible exact Area.sub ‹_›)
    | (with_reducible exact Frame.refl)
    | (with_reducible apply Frame.ite)
    | (with_reducible refine Frame.foldl ?_ (fun _ _ _ => ?_))
    | (with_reducible apply frame_emit)
    | (fail_if_no_progress extract_lets)
    | intro _
    | (with_reducible split)

theorem frame_execIdentify {l₀ : List Area} {b₀ : Block} {s t : State} {tag : Nat} (e₀ : execIdentify tag s = .next t)
    (h₀ : Frame l₀ b₀ s.toBlock)
    (hl : [.hq, .out] ⊆ l₀ := by first | assumption | exact Area.sub ‹_›) : Frame l₀ b₀ t.toBlock := by
  unfold execIdentify at e₀
  refine Frame.upd e₀ h₀ (fun _ _ => ?_)
  repeat' first
    | (with_reducible assumption)
    | (with_reducible exact Area.sub ‹_›)
    | (with_reducible exact Frame.refl)
    | (with_reducible apply Frame.ite)
    | (with_reducible refine Frame.foldl ?_ (fun _ _ _ => ?_))
    | (with_reducible apply frame_actOn)
    | (with_reducible apply frame_sendData)
    | (with_reducible apply frame_succeed)
    | (fail_if_no_progress extract_lets)
    | intro _
    | (with_reducible split)

theorem frame_execQueueCreate {l₀ : List Area} {b₀ : Block} {s t : State} {tag : Nat} (e₀ : execQueueCreate tag s = .next t)
    (h₀ : Frame l₀ b₀ s.toBlock)
    (hl : [.regs, .hq] ⊆ l₀ := by first | assumption | exact Area.sub ‹_›) : Frame l₀ b₀ t.toBlock := by
  unfold execQueueCreate at e₀
  refine Frame.upd e₀ h₀ (fun _ _ => ?_)
  repeat' first
    | (with_reducible assumption)
    | (with_reducible exact Area.sub ‹_›)
    | (with_reducible exact Frame.refl)
    | (with_reducible apply Frame.ite)
    | (with_reducible refine Frame.foldl ?_ (fun _ _ _ => ?_))
    | (with_reducible apply frame_actOn)
    | (with_reducible apply frame_failWith)
    | (with_reducible apply frame_makePair)
    | (with_reducible apply frame_succeed)
    | (fail_if_no_progress extract_lets)
    | intro _
    | (with_reducible split)

theorem frame_execQueueDelete {l₀ : List Area} {b₀ : Block} {s t : State} {tag : Nat} (e₀ : execQueueDelete tag s = .next t)
    (h₀ : Frame l₀ b₀ s.toBlock)
    (hl : [.regs, .irq, .hq, .store, .ml, .out] ⊆ l₀ := by first | assumption | exact Area.sub ‹_›) : Frame l₀ b₀ t.toBlock := by
  unfold execQueueDelete at e₀
  refine Frame.upd e₀ h₀ (fun _ _ => ?_)
  repeat' first
    | (with_reducible assumption)
    | (with_reducible exact Area.sub ‹_›)
    | (with_reducible exact Frame.refl)
    | (with_reducible apply Frame.ite)
    | (with_reducible refine Frame.foldl ?_ (fun _ _ _ => ?_))
    | (with_reducible apply frame_actOn)
    | (with_reducible apply frame_deleteDone)
    | (with_reducible apply frame_failWith)
    | (with_reducible apply frame_modHq)
    | (with_reducible apply frame_postAll)
    | (fail_if_no_progress extract_lets)
    | intro _
    | (with_reducible split)

theorem frame_execQueueResume {l₀ : List Area} {b₀ : Block} {s t : State} {tag : Nat} (e₀ : execQueueResume tag s = .next t)
    (h₀ : Frame l₀ b₀ s.toBlock)
    (hl : [.regs, .hq] ⊆ l₀ := by first | assumption | exact Area.sub ‹_›) : Frame l₀ b₀ t.toBlock := by
  unfold execQueueResume at e₀
  refine Frame.upd e₀ h₀ (fun _ _ => ?_)
  repeat' first
    | (with_reducible assumption)
    | (with_reducible exact Area.sub ‹_›)
    | (with_reducible exact Frame.refl)
    | (with_reducible apply Frame.ite)
    | (with_reducible refine Frame.foldl ?_ (fun _ _ _ => ?_))
    | (with_reducible apply frame_actOn)
    | (with_reducible apply frame_failWith)
    | (with_reducible apply frame_putBit)
    | (with_reducible apply frame_succeed)
    | (fail_if_no_progress extract_lets)
    | intro _
    | (with_reducible split)

theorem frame_execAbort {l₀ : List Area} {b₀ : Block} {s t : State} {tag : Nat} (e₀ : execAbort tag s = .next t)
    (h₀ : Frame l₀ b₀ s.toBlock)
    (hl : [.regs, .irq, .hq, .store, .ml, .out] ⊆ l₀ := by first | assumption | exact Area.sub ‹_›) : Frame l₀ b₀ t.toBlock := by
  unfold execAbort at e₀
  refine Frame.upd e₀ h₀ (fun _ _ => ?_)
  repeat' first
    | (with_reducible assumption)
    | (with_reducible exact Area.sub ‹_›)
    | (with_reducible exact Frame.refl)
    | (with_reducible apply Frame.ite)
    | (with_reducible refine Frame.foldl ?_ (fun _ _ _ => ?_))
    | (with_reducible apply frame_actOn)
    | (with_reducible apply frame_failWith)
    | (with_reducible apply frame_postOne)
    | (with_reducible apply frame_succeed)
    | (fail_if_no_progress extract_lets)
    | intro _
    | (with_reducible split)

theorem frame_execLogRead {l₀ : List Area} {b₀ : Block} {s t : State} {tag : Nat} (e₀ : execLogRead tag s = .next t)
    (h₀ : Frame l₀ b₀ s.toBlock)
    (hl : [.hq, .out] ⊆ l₀ := by first | assumption | exact Area.sub ‹_›) : Frame l₀ b₀ t.toBlock := by
  unfold execLogRead at e₀
  refine Frame.upd e₀ h₀ (fun _ _ => ?_)
  repeat' first
    | (with_reducible assumption)
    | (with_reducible exact Area.sub ‹_›)
    | (with_reducible exact Frame.refl)
    | (with_reducible apply Frame.ite)
    | (with_reducible refine Frame.foldl ?_ (fun _ _ _ => ?_))
    | (with_reducible apply frame_actOn)
    | (with_reducible apply frame_failWith)
    | (with_reducible apply frame_sendData)
    | (with_reducible apply frame_succeed)
    | (fail_if_no_progress extract_lets)
    | intro _
    | (with_reducible split)

theorem frame_setAllow {l₀ : List Area} {b₀ b : Block} (h₀ : Frame l₀ b₀ b)
    (hl : [.regs, .hq] ⊆ l₀ := by first | assumption | exact Area.sub ‹_›) :
    Frame l₀ b₀ (b.setAllow) := by
  unfold Block.setAllow
  repeat' first
    | (with_reducible assumption)
    | (with_reducible exact Area.sub ‹_›)
    | (with_reducible exact Frame.refl)
    | (with_reducible apply Frame.ite)
    | (with_reducible refine Frame.foldl ?_ (fun _ _ _ => ?_))
    | (with_reducible apply frame_keepCover)
    | (with_reducible apply frame_setFld)
    | (fail_if_no_progress extract_lets)
    | intro _
    | (with_reducible split)

theorem frame_bindKey {l₀ : List Area} {b₀ b : Block} (h₀ : Frame l₀ b₀ b) (c : Cmd) (peer : Bool)
    (hl : [.regs, .hq, .store, .ml, .out] ⊆ l₀ := by first | assumption | exact Area.sub ‹_›) :
    Frame l₀ b₀ (b.bindKey c peer) := by
  unfold Block.bindKey
  dsimp only
  repeat' first
    | (with_reducible assumption)
    | (with_reducible exact Area.sub ‹_›)
    | (with_reducible exact Frame.refl)
    | (with_reducible apply Frame.ite)
    | (with_reducible refine Frame.foldl ?_ (fun _ _ _ => ?_))
    | (with_reducible apply frame_failWith)
    | (with_reducible apply frame_modVol)
    | (with_reducible apply frame_journalBoth)
    | (with_reducible apply frame_succeed)
    | (fail_if_no_progress extract_lets)
    | intro _
    | (with_reducible split)

theorem frame_execFeatureSet {l₀ : List Area} {b₀ : Block} {s t : State} {tag : Nat} {peer : Bool} (e₀ : execFeatureSet tag peer s = .next t)
    (h₀ : Frame l₀ b₀ s.toBlock)
    (hl : [.regs, .hq, .store, .ml, .out] ⊆ l₀ := by first | assumption | exact Area.sub ‹_›) : Frame l₀ b₀ t.toBlock := by
  unfold execFeatureSet at e₀
  refine Frame.upd e₀ h₀ (fun _ _ => ?_)
  repeat' first
    | (with_reducible assumption)
    | (with_reducible exact Area.sub ‹_›)
    | (with_reducible exact Frame.refl)
    | (with_reducible apply Frame.ite)
    | (with_reducible refine Frame.foldl ?_ (fun _ _ _ => ?_))
    | (with_reducible apply frame_actOn)
    | (with_reducible apply frame_failWith)
    | (with_reducible apply frame_modHq)
    | (with_reducible apply frame_setAllow)
    | (with_reducible apply frame_succeed)
    | (with_reducible apply frame_bindKey)
    | (with_reducible apply frame_setFld)
    | (fail_if_no_progress extract_lets)
    | intro _
    | (with_reducible split)

theorem frame_execFeatureGet {l₀ : List Area} {b₀ : Block} {s t : State} {tag : Nat} (e₀ : execFeatureGet tag s = .next t)
    (h₀ : Frame l₀ b₀ s.toBlock)
    (hl : [.hq] ⊆ l₀ := by first | assumption | exact Area.sub ‹_›) : Frame l₀ b₀ t.toBlock := by
  unfold execFeatureGet at e₀
  refine Frame.upd e₀ h₀ (fun _ _ => ?_)
  repeat' first
    | (with_reducible assumption)
    | (with_reducible exact Area.sub ‹_›)
    | (with_reducible exact Frame.refl)
    | (with_reducible apply Frame.ite)
    | (with_reducible refine Frame.foldl ?_ (fun _ _ _ => ?_))
    | (with_reducible apply frame_actOn)
    | (with_reducible apply frame_succeed)
    | (with_reducible apply frame_failWith)
    | (fail_if_no_progress extract_lets)
    | intro _
    | (with_reducible split)

theorem frame_execKeyInstall {l₀ : List Area} {b₀ : Block} {s t : State} {tag : Nat} {blob : List Byte} (e₀ : execKeyInstall tag blob s = .next t)
    (h₀ : Frame l₀ b₀ s.toBlock)
    (hl : [.regs, .irq, .hq, .cx, .ml, .out] ⊆ l₀ := by first | assumption | exact Area.sub ‹_›) : Frame l₀ b₀ t.toBlock := by
  unfold execKeyInstall at e₀
  refine Frame.upd e₀ h₀ (fun _ _ => ?_)
  repeat' first
    | (with_reducible assumption)
    | (with_reducible exact Area.sub ‹_›)
    | (with_reducible exact Frame.refl)
    | (with_reducible apply Frame.ite)
    | (with_reducible refine Frame.foldl ?_ (fun _ _ _ => ?_))
    | (with_reducible apply frame_actOn)
    | (with_reducible apply frame_failWith)
    | (with_reducible apply frame_ksErase)
    | (with_reducible apply frame_succeed)
    | (with_reducible apply frame_install)
    | (fail_if_no_progress extract_lets)
    | intro _
    | (with_reducible split)

theorem frame_execFirmwareStage {l₀ : List Area} {b₀ : Block} {s t : State} {tag : Nat} {data : List Byte} (e₀ : execFirmwareStage tag data s = .next t)
    (h₀ : Frame l₀ b₀ s.toBlock)
    (hl : [.hq] ⊆ l₀ := by first | assumption | exact Area.sub ‹_›) : Frame l₀ b₀ t.toBlock := by
  unfold execFirmwareStage at e₀
  refine Frame.upd e₀ h₀ (fun _ _ => ?_)
  repeat' first
    | (with_reducible assumption)
    | (with_reducible exact Area.sub ‹_›)
    | (with_reducible exact Frame.refl)
    | (with_reducible apply Frame.ite)
    | (with_reducible refine Frame.foldl ?_ (fun _ _ _ => ?_))
    | (with_reducible apply frame_actOn)
    | (with_reducible apply frame_failWith)
    | (with_reducible apply frame_modHq)
    | (with_reducible apply frame_succeed)
    | (fail_if_no_progress extract_lets)
    | intro _
    | (with_reducible split)

theorem frame_fwActivate {l₀ : List Area} {b₀ b : Block} (h₀ : Frame l₀ b₀ b) (c : Cmd) (slot : Nat)
    (hl : [.hq] ⊆ l₀ := by first | assumption | exact Area.sub ‹_›) :
    Frame l₀ b₀ (b.fwActivate c slot) := by
  unfold Block.fwActivate
  repeat' first
    | (with_reducible assumption)
    | (with_reducible exact Area.sub ‹_›)
    | (with_reducible exact Frame.refl)
    | (with_reducible apply Frame.ite)
    | (with_reducible refine Frame.foldl ?_ (fun _ _ _ => ?_))
    | (with_reducible apply frame_modHq)
    | (with_reducible apply frame_succeed)
    | (fail_if_no_progress extract_lets)
    | intro _
    | (with_reducible split)

theorem frame_execFirmwareCommit {l₀ : List Area} {b₀ : Block} {s t : State} {tag : Nat} (e₀ : execFirmwareCommit tag s = .next t)
    (h₀ : Frame l₀ b₀ s.toBlock)
    (hl : [.hq] ⊆ l₀ := by first | assumption | exact Area.sub ‹_›) : Frame l₀ b₀ t.toBlock := by
  unfold execFirmwareCommit at e₀
  refine Frame.upd e₀ h₀ (fun _ _ => ?_)
  repeat' first
    | (with_reducible assumption)
    | (with_reducible exact Area.sub ‹_›)
    | (with_reducible exact Frame.refl)
    | (with_reducible apply Frame.ite)
    | (with_reducible refine Frame.foldl ?_ (fun _ _ _ => ?_))
    | (with_reducible apply frame_actOn)
    | (with_reducible apply frame_modHq)
    | (with_reducible apply frame_succeed)
    | (with_reducible apply frame_failWith)
    | (with_reducible apply frame_fwActivate)
    | (fail_if_no_progress extract_lets)
    | intro _
    | (with_reducible split)

theorem frame_takeEvent {l₀ : List Area} {b₀ b : Block} (h₀ : Frame l₀ b₀ b) (tag : Nat)
    (hl : [.hq] ⊆ l₀ := by first | assumption | exact Area.sub ‹_›) :
    Frame l₀ b₀ (b.takeEvent tag) := by
  unfold Block.takeEvent
  repeat' first
    | (with_reducible assumption)
    | (with_reducible exact Area.sub ‹_›)
    | (with_reducible exact Frame.refl)
    | (with_reducible apply Frame.ite)
    | (with_reducible refine Frame.foldl ?_ (fun _ _ _ => ?_))
    | (with_reducible apply frame_finish)
    | (with_reducible apply frame_modHq)
    | (with_reducible apply frame_async)
    | (fail_if_no_progress extract_lets)
    | intro _
    | (with_reducible split)

theorem frame_execAsyncEvent {l₀ : List Area} {b₀ : Block} {s t : State} {tag : Nat} (e₀ : execAsyncEvent tag s = .next t)
    (h₀ : Frame l₀ b₀ s.toBlock)
    (hl : [.hq] ⊆ l₀ := by first | assumption | exact Area.sub ‹_›) : Frame l₀ b₀ t.toBlock := by
  unfold execAsyncEvent at e₀
  refine Frame.upd e₀ h₀ (fun _ _ => ?_)
  repeat' first
    | (with_reducible assumption)
    | (with_reducible exact Area.sub ‹_›)
    | (with_reducible exact Frame.refl)
    | (with_reducible apply Frame.ite)
    | (with_reducible refine Frame.foldl ?_ (fun _ _ _ => ?_))
    | (with_reducible apply frame_actOn)
    | (with_reducible apply frame_async)
    | (with_reducible apply frame_takeEvent)
    | (fail_if_no_progress extract_lets)
    | intro _
    | (with_reducible split)

theorem frame_execAsyncEventReport {l₀ : List Area} {b₀ : Block} {s t : State} {t' : Fin 17} {info : BitVec 8} {data : BitVec 16} (e₀ : execAsyncEventReport t' info data s = .next t)
    (h₀ : Frame l₀ b₀ s.toBlock)
    (hl : [.hq] ⊆ l₀ := by first | assumption | exact Area.sub ‹_›) : Frame l₀ b₀ t.toBlock := by
  unfold execAsyncEventReport at e₀
  refine Frame.upd e₀ h₀ (fun _ _ => ?_)
  repeat' first
    | (with_reducible assumption)
    | (with_reducible exact Area.sub ‹_›)
    | (with_reducible exact Frame.refl)
    | (with_reducible apply Frame.ite)
    | (with_reducible refine Frame.foldl ?_ (fun _ _ _ => ?_))
    | (with_reducible apply frame_async)
    | (fail_if_no_progress extract_lets)
    | intro _
    | (with_reducible split)

theorem frame_execTelemetryRead {l₀ : List Area} {b₀ : Block} {s t : State} {tag : Nat} (e₀ : execTelemetryRead tag s = .next t)
    (h₀ : Frame l₀ b₀ s.toBlock)
    (hl : [.cal, .hq, .out] ⊆ l₀ := by first | assumption | exact Area.sub ‹_›) : Frame l₀ b₀ t.toBlock := by
  unfold execTelemetryRead at e₀
  refine Frame.upd e₀ h₀ (fun _ _ => ?_)
  repeat' first
    | (with_reducible assumption)
    | (with_reducible exact Area.sub ‹_›)
    | (with_reducible exact Frame.refl)
    | (with_reducible apply Frame.ite)
    | (with_reducible refine Frame.foldl ?_ (fun _ _ _ => ?_))
    | (with_reducible apply frame_actOn)
    | (with_reducible apply frame_failWith)
    | (with_reducible apply frame_sendData)
    | (with_reducible apply frame_modCal)
    | (with_reducible apply frame_succeed)
    | (fail_if_no_progress extract_lets)
    | intro _
    | (with_reducible split)

theorem frame_testEnd {l₀ : List Area} {b₀ b : Block} (h₀ : Frame l₀ b₀ b) (result : Nat) (item : Nat) (inst : Nat)
    (hl : [.hq] ⊆ l₀ := by first | assumption | exact Area.sub ‹_›) :
    Frame l₀ b₀ (b.testEnd result item inst) := by
  unfold Block.testEnd
  repeat' first
    | (with_reducible assumption)
    | (with_reducible exact Area.sub ‹_›)
    | (with_reducible exact Frame.refl)
    | (with_reducible apply Frame.ite)
    | (with_reducible refine Frame.foldl ?_ (fun _ _ _ => ?_))
    | (with_reducible apply frame_modHq)
    | (with_reducible apply frame_finish)
    | (fail_if_no_progress extract_lets)
    | intro _
    | (with_reducible split)

theorem frame_execSelfTest {l₀ : List Area} {b₀ : Block} {s t : State} {tag : Nat} {found : Option (Bool × BitVec 8 × BitVec 8)} (e₀ : execSelfTest tag found s = .next t)
    (h₀ : Frame l₀ b₀ s.toBlock)
    (hl : [.hq] ⊆ l₀ := by first | assumption | exact Area.sub ‹_›) : Frame l₀ b₀ t.toBlock := by
  unfold execSelfTest at e₀
  refine Frame.upd e₀ h₀ (fun _ _ => ?_)
  repeat' first
    | (with_reducible assumption)
    | (with_reducible exact Area.sub ‹_›)
    | (with_reducible exact Frame.refl)
    | (with_reducible apply Frame.ite)
    | (with_reducible refine Frame.foldl ?_ (fun _ _ _ => ?_))
    | (with_reducible apply frame_actOn)
    | (with_reducible apply frame_failWith)
    | (with_reducible apply frame_testEnd)
    | (with_reducible apply frame_modHq)
    | (fail_if_no_progress extract_lets)
    | intro _
    | (with_reducible split)

theorem frame_execSelfTestStop {l₀ : List Area} {b₀ : Block} {s t : State} {tag : Nat} (e₀ : execSelfTestStop tag s = .next t)
    (h₀ : Frame l₀ b₀ s.toBlock)
    (hl : [.hq] ⊆ l₀ := by first | assumption | exact Area.sub ‹_›) : Frame l₀ b₀ t.toBlock := by
  unfold execSelfTestStop at e₀
  refine Frame.upd e₀ h₀ (fun _ _ => ?_)
  repeat' first
    | (with_reducible assumption)
    | (with_reducible exact Area.sub ‹_›)
    | (with_reducible exact Frame.refl)
    | (with_reducible apply Frame.ite)
    | (with_reducible refine Frame.foldl ?_ (fun _ _ _ => ?_))
    | (with_reducible apply frame_actOn)
    | (with_reducible apply frame_testEnd)
    | (with_reducible apply frame_succeed)
    | (fail_if_no_progress extract_lets)
    | intro _
    | (with_reducible split)

end Sys2Proof.Machine
end

