-- ==== Sys2Proof/Laws/FrameServo.lean ====
section
/-!
SUPPORT. What the servo programs, spindles, axes and loads leave unchanged, one lemma for each operation and each command.
-/

set_option Elab.async false
set_option linter.unreachableTactic false
set_option linter.unusedTactic false

namespace Sys2Proof.Machine

/-! ### Machine/Servo.lean -/

theorem frame_cmdReject {l₀ : List Area} {b₀ b : Block} (h₀ : Frame l₀ b₀ b) (s : Fin 4) (err : Nat)
    (hl : [.regs, .le, .servo] ⊆ l₀ := by first | assumption | exact Area.sub ‹_›) :
    Frame l₀ b₀ (b.cmdReject s err) := by
  unfold Block.cmdReject
  repeat' first
    | (with_reducible assumption)
    | (with_reducible exact Area.sub ‹_›)
    | (with_reducible exact Frame.refl)
    | (with_reducible apply Frame.ite)
    | (with_reducible refine Frame.foldl ?_ (fun _ _ _ => ?_))
    | (with_reducible apply frame_setPsw)
    | (with_reducible apply frame_modServo)
    | (with_reducible apply frame_publish)
    | (fail_if_no_progress extract_lets)
    | intro _
    | (with_reducible split)

theorem frame_takeCmd {l₀ : List Area} {b₀ b : Block} (h₀ : Frame l₀ b₀ b) (s : Fin 4) (op : Nat) (layer : Nat) (seq : BitVec 8) (arg : BitVec 16) (run : Block → Block) (hf : ∀ c , Frame l₀ b₀ c → Frame l₀ b₀ (run c ))
    (hl : [.regs, .le, .servo] ⊆ l₀ := by first | assumption | exact Area.sub ‹_›) :
    Frame l₀ b₀ (b.takeCmd s op layer seq arg run) := by
  unfold Block.takeCmd
  repeat' first
    | (with_reducible assumption)
    | (with_reducible exact Area.sub ‹_›)
    | (with_reducible exact Frame.refl)
    | (with_reducible apply Frame.ite)
    | (with_reducible refine Frame.foldl ?_ (fun _ _ _ => ?_))
    | (with_reducible apply hf)
    | (with_reducible apply frame_onSurf)
    | (with_reducible apply frame_commitData)
    | (with_reducible apply frame_modServo)
    | (with_reducible apply frame_cmdReject)
    | (with_reducible apply frame_setPsw)
    | (with_reducible apply frame_seek)
    | (with_reducible apply frame_publish)
    | (with_reducible apply frame_run)
    | (fail_if_no_progress extract_lets)
    | intro _
    | (with_reducible split)

theorem frame_land {l₀ : List Area} {b₀ b : Block} (h₀ : Frame l₀ b₀ b) (s : Fin 4) (layer : Nat) (idx : Int)
    (hl : [.regs, .irq, .le, .servo, .wp, .se, .cal, .hq, .store, .ml, .out] ⊆ l₀ := by first | assumption | exact Area.sub ‹_›) :
    Frame l₀ b₀ (b.land s layer idx) := by
  unfold Block.land
  repeat' first
    | (with_reducible assumption)
    | (with_reducible exact Area.sub ‹_›)
    | (with_reducible exact Frame.refl)
    | (with_reducible apply Frame.ite)
    | (with_reducible refine Frame.foldl ?_ (fun _ _ _ => ?_))
    | (with_reducible apply frame_modServo)
    | (with_reducible apply frame_setPsw)
    | (with_reducible apply frame_trackCommit)
    | (fail_if_no_progress extract_lets)
    | intro _
    | (with_reducible split)

theorem frame_writeSaReq {l₀ : List Area} {b₀ b : Block} (h₀ : Frame l₀ b₀ b) (s : Fin 4)
    (hl : [.regs, .le] ⊆ l₀ := by first | assumption | exact Area.sub ‹_›) :
    Frame l₀ b₀ (b.writeSaReq s) := by
  unfold Block.writeSaReq
  repeat' first
    | (with_reducible assumption)
    | (with_reducible exact Area.sub ‹_›)
    | (with_reducible exact Frame.refl)
    | (with_reducible apply Frame.ite)
    | (with_reducible refine Frame.foldl ?_ (fun _ _ _ => ?_))
    | (with_reducible apply frame_commitData)
    | (fail_if_no_progress extract_lets)
    | intro _
    | (with_reducible split)

theorem frame_writeSledReq {l₀ : List Area} {b₀ b : Block} (h₀ : Frame l₀ b₀ b) (s : Fin 4) (move : Int)
    (hl : [.regs, .le] ⊆ l₀ := by first | assumption | exact Area.sub ‹_›) :
    Frame l₀ b₀ (b.writeSledReq s move) := by
  unfold Block.writeSledReq
  repeat' first
    | (with_reducible assumption)
    | (with_reducible exact Area.sub ‹_›)
    | (with_reducible exact Frame.refl)
    | (with_reducible apply Frame.ite)
    | (with_reducible refine Frame.foldl ?_ (fun _ _ _ => ?_))
    | (with_reducible apply frame_commitData)
    | (fail_if_no_progress extract_lets)
    | intro _
    | (with_reducible split)

theorem frame_layerJump {l₀ : List Area} {b₀ b : Block} (h₀ : Frame l₀ b₀ b) (s : Fin 4) (layer : Nat)
    (hl : [.regs, .irq, .le, .servo, .wp, .se, .cal, .hq, .store, .ml, .out, .free] ⊆ l₀ := by first | assumption | exact Area.sub ‹_›) :
    Frame l₀ b₀ (b.layerJump s layer) := by
  unfold Block.layerJump
  repeat' first
    | (with_reducible assumption)
    | (with_reducible exact Area.sub ‹_›)
    | (with_reducible exact Frame.refl)
    | (with_reducible apply Frame.ite)
    | (with_reducible refine Frame.foldl ?_ (fun _ _ _ => ?_))
    | (with_reducible apply Frame.ite2)
    | (with_reducible refine Frame.snd (by with_reducible assumption) ?_)
    | (with_reducible refine Frame.thd (by with_reducible assumption) ?_)
    | (with_reducible apply frame_setPsw)
    | (with_reducible apply frame_modServo)
    | (with_reducible apply frame_writeSaReq)
    | (with_reducible apply frame_freeVal)
    | (with_reducible apply frame_land)
    | (fail_if_no_progress extract_lets)
    | intro _
    | (with_reducible split)

theorem frame_seek {l₀ : List Area} {b₀ b : Block} (h₀ : Frame l₀ b₀ b) (s : Fin 4) (layer : Nat) (arg : Int)
    (hl : [.regs, .irq, .le, .servo, .wp, .se, .cal, .hq, .store, .ml, .out, .free] ⊆ l₀ := by first | assumption | exact Area.sub ‹_›) :
    Frame l₀ b₀ (b.seek s layer arg) := by
  unfold Block.seek
  repeat' first
    | (with_reducible assumption)
    | (with_reducible exact Area.sub ‹_›)
    | (with_reducible exact Frame.refl)
    | (with_reducible apply Frame.ite)
    | (with_reducible refine Frame.foldl ?_ (fun _ _ _ => ?_))
    | (with_reducible apply frame_layerJump)
    | (with_reducible apply frame_setPsw)
    | (with_reducible apply frame_modServo)
    | (with_reducible apply frame_writeSledReq)
    | (with_reducible apply frame_land)
    | (fail_if_no_progress extract_lets)
    | intro _
    | (with_reducible split)

theorem frame_focusClosed {l₀ : List Area} {b₀ b : Block} (h₀ : Frame l₀ b₀ b) (s : Fin 4) (idx : Int) (sumref : BitVec 16)
    (hl : [.regs, .irq, .le, .servo, .wp, .se, .cal, .hq, .store, .ml, .out, .free] ⊆ l₀ := by first | assumption | exact Area.sub ‹_›) :
    Frame l₀ b₀ (b.focusClosed s idx sumref) := by
  unfold Block.focusClosed
  repeat' first
    | (with_reducible assumption)
    | (with_reducible exact Area.sub ‹_›)
    | (with_reducible exact Frame.refl)
    | (with_reducible apply Frame.ite)
    | (with_reducible refine Frame.foldl ?_ (fun _ _ _ => ?_))
    | (with_reducible apply frame_modServo)
    | (with_reducible apply frame_land)
    | (with_reducible apply frame_cmdDone)
    | (with_reducible apply frame_seek)
    | (with_reducible apply frame_cmdReject)
    | (with_reducible apply frame_layerJump)
    | (fail_if_no_progress extract_lets)
    | intro _
    | (with_reducible split)

theorem frame_execCmdNone {l₀ : List Area} {b₀ : Block} {s t : State} {s' : Fin 4} {reserved : Option (Fin 10)} {layer : Fin 8} {seq : BitVec 8} (e₀ : execCmdNone s' reserved layer seq s = .next t)
    (h₀ : Frame l₀ b₀ s.toBlock)
    (hl : [.regs, .irq, .le, .servo, .ml, .out] ⊆ l₀ := by first | assumption | exact Area.sub ‹_›) : Frame l₀ b₀ t.toBlock := by
  unfold execCmdNone at e₀
  refine Frame.upd e₀ h₀ (fun _ _ => ?_)
  repeat' first
    | (with_reducible assumption)
    | (with_reducible exact Area.sub ‹_›)
    | (with_reducible exact Frame.refl)
    | (with_reducible apply Frame.ite)
    | (with_reducible refine Frame.foldl ?_ (fun _ _ _ => ?_))
    | (with_reducible apply frame_takeCmd)
    | (with_reducible apply frame_cmdDone)
    | (fail_if_no_progress extract_lets)
    | intro _
    | (with_reducible split)

theorem frame_execCmdOff {l₀ : List Area} {b₀ : Block} {s t : State} {s' : Fin 4} {layer : Fin 8} {seq : BitVec 8} (e₀ : execCmdOff s' layer seq s = .next t)
    (h₀ : Frame l₀ b₀ s.toBlock)
    (hl : [.regs, .irq, .le, .servo, .wp, .se, .cal, .hq, .store, .ml, .out] ⊆ l₀ := by first | assumption | exact Area.sub ‹_›) : Frame l₀ b₀ t.toBlock := by
  unfold execCmdOff at e₀
  refine Frame.upd e₀ h₀ (fun _ _ => ?_)
  repeat' first
    | (with_reducible assumption)
    | (with_reducible exact Area.sub ‹_›)
    | (with_reducible exact Frame.refl)
    | (with_reducible apply Frame.ite)
    | (with_reducible refine Frame.foldl ?_ (fun _ _ _ => ?_))
    | (with_reducible apply frame_takeCmd)
    | (with_reducible apply frame_modServo)
    | (with_reducible apply frame_setFld)
    | (with_reducible apply frame_setPsw)
    | (with_reducible apply frame_trackCommit)
    | (with_reducible apply frame_cmdDone)
    | (fail_if_no_progress extract_lets)
    | intro _
    | (with_reducible split)

theorem frame_execCmdFocus {l₀ : List Area} {b₀ : Block} {s t : State} {s' : Fin 4} {layer : Fin 8} {seq : BitVec 8} {found : Option (BitVec 14 × BitVec 16)} (e₀ : execCmdFocus s' layer seq found s = .next t)
    (h₀ : Frame l₀ b₀ s.toBlock)
    (hl : [.regs, .irq, .le, .servo, .wp, .se, .cal, .hq, .store, .ml, .out, .free] ⊆ l₀ := by first | assumption | exact Area.sub ‹_›) : Frame l₀ b₀ t.toBlock := by
  unfold execCmdFocus at e₀
  refine Frame.upd e₀ h₀ (fun _ _ => ?_)
  repeat' first
    | (with_reducible assumption)
    | (with_reducible exact Area.sub ‹_›)
    | (with_reducible exact Frame.refl)
    | (with_reducible apply Frame.ite)
    | (with_reducible refine Frame.foldl ?_ (fun _ _ _ => ?_))
    | (with_reducible apply frame_focusClosed)
    | (with_reducible apply frame_onSurf)
    | (with_reducible apply frame_takeCmd)
    | (with_reducible apply frame_setPsw)
    | (with_reducible apply frame_modServo)
    | (with_reducible apply frame_setFld)
    | (with_reducible apply frame_writeSaReq)
    | (with_reducible apply frame_trackCommit)
    | (fail_if_no_progress extract_lets)
    | intro _
    | (with_reducible split)

theorem frame_execCmdLayer {l₀ : List Area} {b₀ : Block} {s t : State} {s' : Fin 4} {layer : Fin 8} {seq : BitVec 8} (e₀ : execCmdLayer s' layer seq s = .next t)
    (h₀ : Frame l₀ b₀ s.toBlock)
    (hl : [.regs, .irq, .le, .servo, .wp, .se, .cal, .hq, .store, .ml, .out, .free] ⊆ l₀ := by first | assumption | exact Area.sub ‹_›) : Frame l₀ b₀ t.toBlock := by
  unfold execCmdLayer at e₀
  refine Frame.upd e₀ h₀ (fun _ _ => ?_)
  repeat' first
    | (with_reducible assumption)
    | (with_reducible exact Area.sub ‹_›)
    | (with_reducible exact Frame.refl)
    | (with_reducible apply Frame.ite)
    | (with_reducible refine Frame.foldl ?_ (fun _ _ _ => ?_))
    | (with_reducible apply frame_takeCmd)
    | (with_reducible apply frame_layerJump)
    | (with_reducible apply frame_cmdDone)
    | (fail_if_no_progress extract_lets)
    | intro _
    | (with_reducible split)

theorem frame_execCmdSeek {l₀ : List Area} {b₀ : Block} {s t : State} {s' : Fin 4} {layer : Fin 8} {arg : BitVec 16} {seq : BitVec 8} (e₀ : execCmdSeek s' layer arg seq s = .next t)
    (h₀ : Frame l₀ b₀ s.toBlock)
    (hl : [.regs, .irq, .le, .servo, .wp, .se, .cal, .hq, .store, .ml, .out, .free] ⊆ l₀ := by first | assumption | exact Area.sub ‹_›) : Frame l₀ b₀ t.toBlock := by
  unfold execCmdSeek at e₀
  refine Frame.upd e₀ h₀ (fun _ _ => ?_)
  repeat' first
    | (with_reducible assumption)
    | (with_reducible exact Area.sub ‹_›)
    | (with_reducible exact Frame.refl)
    | (with_reducible apply Frame.ite)
    | (with_reducible refine Frame.foldl ?_ (fun _ _ _ => ?_))
    | (with_reducible apply frame_takeCmd)
    | (with_reducible apply frame_seek)
    | (with_reducible apply frame_cmdDone)
    | (fail_if_no_progress extract_lets)
    | intro _
    | (with_reducible split)

theorem frame_execCmdRelease {l₀ : List Area} {b₀ : Block} {s t : State} {s' : Fin 4} {layer : Fin 8} {seq : BitVec 8} (e₀ : execCmdRelease s' layer seq s = .next t)
    (h₀ : Frame l₀ b₀ s.toBlock)
    (hl : [.regs, .irq, .le, .servo, .wp, .se, .cal, .hq, .store, .ml, .out] ⊆ l₀ := by first | assumption | exact Area.sub ‹_›) : Frame l₀ b₀ t.toBlock := by
  unfold execCmdRelease at e₀
  refine Frame.upd e₀ h₀ (fun _ _ => ?_)
  repeat' first
    | (with_reducible assumption)
    | (with_reducible exact Area.sub ‹_›)
    | (with_reducible exact Frame.refl)
    | (with_reducible apply Frame.ite)
    | (with_reducible refine Frame.foldl ?_ (fun _ _ _ => ?_))
    | (with_reducible apply frame_takeCmd)
    | (with_reducible apply frame_cmdDone)
    | (with_reducible apply frame_modServo)
    | (with_reducible apply frame_trackCommit)
    | (fail_if_no_progress extract_lets)
    | intro _
    | (with_reducible split)

theorem frame_execFocusDrop {l₀ : List Area} {b₀ : Block} {s t : State} {s' : Fin 4} (e₀ : execFocusDrop s' s = .next t)
    (h₀ : Frame l₀ b₀ s.toBlock)
    (hl : [.regs, .irq, .le, .servo, .wp, .se, .cal, .hq, .store, .ml, .out] ⊆ l₀ := by first | assumption | exact Area.sub ‹_›) : Frame l₀ b₀ t.toBlock := by
  unfold execFocusDrop at e₀
  refine Frame.upd e₀ h₀ (fun _ _ => ?_)
  repeat' first
    | (with_reducible assumption)
    | (with_reducible exact Area.sub ‹_›)
    | (with_reducible exact Frame.refl)
    | (with_reducible apply Frame.ite)
    | (with_reducible refine Frame.foldl ?_ (fun _ _ _ => ?_))
    | (with_reducible apply frame_onSurf)
    | (with_reducible apply frame_modServo)
    | (with_reducible apply frame_setPsw)
    | (with_reducible apply frame_safeHold)
    | (fail_if_no_progress extract_lets)
    | intro _
    | (with_reducible split)

theorem frame_execSearchFail {l₀ : List Area} {b₀ : Block} {s t : State} {s' : Fin 4} (e₀ : execSearchFail s' s = .next t)
    (h₀ : Frame l₀ b₀ s.toBlock)
    (hl : [.regs, .le, .servo] ⊆ l₀ := by first | assumption | exact Area.sub ‹_›) : Frame l₀ b₀ t.toBlock := by
  unfold execSearchFail at e₀
  refine Frame.upd e₀ h₀ (fun _ _ => ?_)
  repeat' first
    | (with_reducible assumption)
    | (with_reducible exact Area.sub ‹_›)
    | (with_reducible exact Frame.refl)
    | (with_reducible apply Frame.ite)
    | (with_reducible refine Frame.foldl ?_ (fun _ _ _ => ?_))
    | (with_reducible apply frame_onSurf)
    | (with_reducible apply frame_setFld)
    | (with_reducible apply frame_modServo)
    | (with_reducible apply frame_setPsw)
    | (with_reducible apply frame_publish)
    | (fail_if_no_progress extract_lets)
    | intro _
    | (with_reducible split)

theorem frame_execOffTrack {l₀ : List Area} {b₀ : Block} {s t : State} {s' : Fin 4} (e₀ : execOffTrack s' s = .next t)
    (h₀ : Frame l₀ b₀ s.toBlock)
    (hl : [.regs, .irq, .le, .servo, .wp, .se, .cal, .hq, .store, .ml, .out] ⊆ l₀ := by first | assumption | exact Area.sub ‹_›) : Frame l₀ b₀ t.toBlock := by
  unfold execOffTrack at e₀
  refine Frame.upd e₀ h₀ (fun _ _ => ?_)
  repeat' first
    | (with_reducible assumption)
    | (with_reducible exact Area.sub ‹_›)
    | (with_reducible exact Frame.refl)
    | (with_reducible apply Frame.ite)
    | (with_reducible refine Frame.foldl ?_ (fun _ _ _ => ?_))
    | (with_reducible apply frame_onSurf)
    | (with_reducible apply frame_modServo)
    | (with_reducible apply frame_setPsw)
    | (with_reducible apply frame_safeHold)
    | (with_reducible apply frame_trackCommit)
    | (fail_if_no_progress extract_lets)
    | intro _
    | (with_reducible split)

theorem frame_execSwathHoldKick {l₀ : List Area} {b₀ : Block} {s t : State} {s' : Fin 4} (e₀ : execSwathHoldKick s' s = .next t)
    (h₀ : Frame l₀ b₀ s.toBlock)
    (hl : [.regs, .le, .servo] ⊆ l₀ := by first | assumption | exact Area.sub ‹_›) : Frame l₀ b₀ t.toBlock := by
  unfold execSwathHoldKick at e₀
  refine Frame.upd e₀ h₀ (fun _ _ => ?_)
  repeat' first
    | (with_reducible assumption)
    | (with_reducible exact Area.sub ‹_›)
    | (with_reducible exact Frame.refl)
    | (with_reducible apply Frame.ite)
    | (with_reducible refine Frame.foldl ?_ (fun _ _ _ => ?_))
    | (with_reducible apply frame_onSurf)
    | (with_reducible apply frame_cmdReject)
    | (with_reducible apply frame_modServo)
    | (with_reducible apply frame_publish)
    | (fail_if_no_progress extract_lets)
    | intro _
    | (with_reducible split)

theorem frame_execCoilDriverFault {l₀ : List Area} {b₀ : Block} {s t : State} {s' : Fin 4} (e₀ : execCoilDriverFault s' s = .next t)
    (h₀ : Frame l₀ b₀ s.toBlock)
    (hl : [.regs, .irq, .ml, .out] ⊆ l₀ := by first | assumption | exact Area.sub ‹_›) : Frame l₀ b₀ t.toBlock := by
  unfold execCoilDriverFault at e₀
  refine Frame.upd e₀ h₀ (fun _ _ => ?_)
  repeat' first
    | (with_reducible assumption)
    | (with_reducible exact Area.sub ‹_›)
    | (with_reducible exact Frame.refl)
    | (with_reducible apply Frame.ite)
    | (with_reducible refine Frame.foldl ?_ (fun _ _ _ => ?_))
    | (with_reducible apply frame_onSurf)
    | (with_reducible apply frame_setFld)
    | (with_reducible apply frame_raiseSurf)
    | (fail_if_no_progress extract_lets)
    | intro _
    | (with_reducible split)

/-! ### Machine/Spindle.lean -/

theorem frame_spRcap {l₀ : List Area} {b₀ b : Block} (h₀ : Frame l₀ b₀ b) (n : Fin 2)
    (hl : [.regs, .irq, .ml, .out] ⊆ l₀ := by first | assumption | exact Area.sub ‹_›) :
    Frame l₀ b₀ (b.spRcap n) := by
  unfold Block.spRcap
  repeat' first
    | (with_reducible assumption)
    | (with_reducible exact Area.sub ‹_›)
    | (with_reducible exact Frame.refl)
    | (with_reducible apply Frame.ite)
    | (with_reducible refine Frame.foldl ?_ (fun _ _ _ => ?_))
    | (with_reducible apply frame_onSpin)
    | (with_reducible apply frame_setBit)
    | (with_reducible apply frame_raiseSpin)
    | (fail_if_no_progress extract_lets)
    | intro _
    | (with_reducible split)

theorem frame_spRef {l₀ : List Area} {b₀ b : Block} (h₀ : Frame l₀ b₀ b) (n : Fin 2) (rpm : Nat)
    (hl : [.regs, .le, .spin] ⊆ l₀ := by first | assumption | exact Area.sub ‹_›) :
    Frame l₀ b₀ (b.spRef n rpm) := by
  unfold Block.spRef
  repeat' first
    | (with_reducible assumption)
    | (with_reducible exact Area.sub ‹_›)
    | (with_reducible exact Frame.refl)
    | (with_reducible apply Frame.ite)
    | (with_reducible refine Frame.foldl ?_ (fun _ _ _ => ?_))
    | (with_reducible apply frame_modSpin)
    | (with_reducible apply frame_commitData)
    | (fail_if_no_progress extract_lets)
    | intro _
    | (with_reducible split)

theorem frame_unlock {l₀ : List Area} {b₀ b : Block} (h₀ : Frame l₀ b₀ b) (n : Fin 2) (event : Bool)
    (hl : [.regs, .irq, .servo, .wp, .hq, .store, .ml, .out] ⊆ l₀ := by first | assumption | exact Area.sub ‹_›) :
    Frame l₀ b₀ (b.unlock n event) := by
  unfold Block.unlock
  repeat' first
    | (with_reducible assumption)
    | (with_reducible exact Area.sub ‹_›)
    | (with_reducible exact Frame.refl)
    | (with_reducible apply Frame.ite)
    | (with_reducible refine Frame.foldl ?_ (fun _ _ _ => ?_))
    | (with_reducible apply frame_setFld)
    | (with_reducible apply frame_cutPass)
    | (with_reducible apply frame_applyHolds)
    | (with_reducible apply frame_raiseSpin)
    | (fail_if_no_progress extract_lets)
    | intro _
    | (with_reducible split)

theorem frame_spGo {l₀ : List Area} {b₀ b : Block} (h₀ : Frame l₀ b₀ b) (n : Fin 2) (st : Nat) (lossy : Bool)
    (hl : [.regs, .irq, .le, .servo, .spin, .wp, .hq, .store, .ml, .out] ⊆ l₀ := by first | assumption | exact Area.sub ‹_›) :
    Frame l₀ b₀ (b.spGo n st lossy) := by
  unfold Block.spGo
  repeat' first
    | (with_reducible assumption)
    | (with_reducible exact Area.sub ‹_›)
    | (with_reducible exact Frame.refl)
    | (with_reducible apply Frame.ite)
    | (with_reducible refine Frame.foldl ?_ (fun _ _ _ => ?_))
    | (with_reducible apply frame_setFld)
    | (with_reducible apply frame_setBit)
    | (with_reducible apply frame_commitData)
    | (with_reducible apply frame_modSpin)
    | (with_reducible apply frame_unlock)
    | (with_reducible apply frame_bump)
    | (with_reducible apply frame_raiseSpin)
    | (fail_if_no_progress extract_lets)
    | intro _
    | (with_reducible split)

theorem frame_spClear {l₀ : List Area} {b₀ b : Block} (h₀ : Frame l₀ b₀ b) (n : Fin 2)
    (hl : [.spin] ⊆ l₀ := by first | assumption | exact Area.sub ‹_›) :
    Frame l₀ b₀ (b.spClear n) := by
  unfold Block.spClear
  repeat' first
    | (with_reducible assumption)
    | (with_reducible exact Area.sub ‹_›)
    | (with_reducible exact Frame.refl)
    | (with_reducible apply Frame.ite)
    | (with_reducible refine Frame.foldl ?_ (fun _ _ _ => ?_))
    | (with_reducible apply frame_modSpin)
    | (fail_if_no_progress extract_lets)
    | intro _
    | (with_reducible split)

theorem frame_spAttempt {l₀ : List Area} {b₀ b : Block} (h₀ : Frame l₀ b₀ b) (n : Fin 2)
    (hl : [.regs, .irq, .le, .servo, .spin, .wp, .hq, .store, .ml, .out, .free] ⊆ l₀ := by first | assumption | exact Area.sub ‹_›) :
    Frame l₀ b₀ (b.spAttempt n) := by
  unfold Block.spAttempt
  repeat' first
    | (with_reducible assumption)
    | (with_reducible exact Area.sub ‹_›)
    | (with_reducible exact Frame.refl)
    | (with_reducible apply Frame.ite)
    | (with_reducible refine Frame.foldl ?_ (fun _ _ _ => ?_))
    | (with_reducible apply Frame.ite2)
    | (with_reducible refine Frame.snd (by with_reducible assumption) ?_)
    | (with_reducible refine Frame.thd (by with_reducible assumption) ?_)
    | (with_reducible apply frame_spClear)
    | (with_reducible apply frame_modSpin)
    | (with_reducible apply frame_freeVal)
    | (with_reducible apply frame_setFld)
    | (with_reducible apply frame_spGo)
    | (fail_if_no_progress extract_lets)
    | intro _
    | (with_reducible split)

theorem frame_spStopped {l₀ : List Area} {b₀ b : Block} (h₀ : Frame l₀ b₀ b) (n : Fin 2)
    (hl : [.regs, .irq, .le, .servo, .spin, .wp, .hq, .store, .ml, .out] ⊆ l₀ := by first | assumption | exact Area.sub ‹_›) :
    Frame l₀ b₀ (b.spStopped n) := by
  unfold Block.spStopped
  repeat' first
    | (with_reducible assumption)
    | (with_reducible exact Area.sub ‹_›)
    | (with_reducible exact Frame.refl)
    | (with_reducible apply Frame.ite)
    | (with_reducible refine Frame.foldl ?_ (fun _ _ _ => ?_))
    | (with_reducible apply frame_spClear)
    | (with_reducible apply frame_spGo)
    | (with_reducible apply frame_raiseSpin)
    | (fail_if_no_progress extract_lets)
    | intro _
    | (with_reducible split)

theorem frame_spFaulted {l₀ : List Area} {b₀ b : Block} (h₀ : Frame l₀ b₀ b) (n : Fin 2) (why : Nat)
    (hl : [.hq] ⊆ l₀ := by first | assumption | exact Area.sub ‹_›) :
    Frame l₀ b₀ (b.spFaulted n why) := by
  unfold Block.spFaulted
  repeat' first
    | (with_reducible assumption)
    | (with_reducible exact Area.sub ‹_›)
    | (with_reducible exact Frame.refl)
    | (with_reducible apply Frame.ite)
    | (with_reducible refine Frame.foldl ?_ (fun _ _ _ => ?_))
    | (with_reducible apply frame_async)
    | (with_reducible apply frame_modHq)
    | (fail_if_no_progress extract_lets)
    | intro _
    | (with_reducible split)

theorem frame_spFail {l₀ : List Area} {b₀ b : Block} (h₀ : Frame l₀ b₀ b) (n : Fin 2)
    (hl : [.regs, .irq, .le, .servo, .spin, .wp, .hq, .store, .ml, .out] ⊆ l₀ := by first | assumption | exact Area.sub ‹_›) :
    Frame l₀ b₀ (b.spFail n) := by
  unfold Block.spFail
  repeat' first
    | (with_reducible assumption)
    | (with_reducible exact Area.sub ‹_›)
    | (with_reducible exact Frame.refl)
    | (with_reducible apply Frame.ite)
    | (with_reducible refine Frame.foldl ?_ (fun _ _ _ => ?_))
    | (with_reducible apply frame_spClear)
    | (with_reducible apply frame_setFld)
    | (with_reducible apply frame_bump)
    | (with_reducible apply frame_raiseSpin)
    | (with_reducible apply frame_spGo)
    | (with_reducible apply frame_spFaulted)
    | (fail_if_no_progress extract_lets)
    | intro _
    | (with_reducible split)

theorem frame_spProceed {l₀ : List Area} {b₀ b : Block} (h₀ : Frame l₀ b₀ b) (n : Fin 2)
    (hl : [.regs, .irq, .le, .servo, .spin, .wp, .hq, .store, .ml, .out] ⊆ l₀ := by first | assumption | exact Area.sub ‹_›) :
    Frame l₀ b₀ (b.spProceed n) := by
  unfold Block.spProceed
  repeat' first
    | (with_reducible assumption)
    | (with_reducible exact Area.sub ‹_›)
    | (with_reducible exact Frame.refl)
    | (with_reducible apply Frame.ite)
    | (with_reducible refine Frame.foldl ?_ (fun _ _ _ => ?_))
    | (with_reducible apply frame_modSpin)
    | (with_reducible apply frame_spGo)
    | (with_reducible apply frame_spFail)
    | (with_reducible apply frame_spRef)
    | (fail_if_no_progress extract_lets)
    | intro _
    | (with_reducible split)

theorem frame_spDecide {l₀ : List Area} {b₀ b : Block} (h₀ : Frame l₀ b₀ b) (n : Fin 2)
    (hl : [.regs, .irq, .le, .servo, .spin, .wp, .hq, .store, .ml, .out] ⊆ l₀ := by first | assumption | exact Area.sub ‹_›) :
    Frame l₀ b₀ (b.spDecide n) := by
  unfold Block.spDecide
  repeat' first
    | (with_reducible assumption)
    | (with_reducible exact Area.sub ‹_›)
    | (with_reducible exact Frame.refl)
    | (with_reducible apply Frame.ite)
    | (with_reducible refine Frame.foldl ?_ (fun _ _ _ => ?_))
    | (with_reducible apply frame_spProceed)
    | (with_reducible apply frame_modSpin)
    | (with_reducible apply frame_spGo)
    | (fail_if_no_progress extract_lets)
    | intro _
    | (with_reducible split)

theorem frame_spRetarget {l₀ : List Area} {b₀ b : Block} (h₀ : Frame l₀ b₀ b) (n : Fin 2)
    (hl : [.regs, .irq, .le, .servo, .spin, .wp, .hq, .store, .ml, .out] ⊆ l₀ := by first | assumption | exact Area.sub ‹_›) :
    Frame l₀ b₀ (b.spRetarget n) := by
  unfold Block.spRetarget
  repeat' first
    | (with_reducible assumption)
    | (with_reducible exact Area.sub ‹_›)
    | (with_reducible exact Frame.refl)
    | (with_reducible apply Frame.ite)
    | (with_reducible refine Frame.foldl ?_ (fun _ _ _ => ?_))
    | (with_reducible apply frame_modSpin)
    | (with_reducible apply frame_spRef)
    | (with_reducible apply frame_spGo)
    | (fail_if_no_progress extract_lets)
    | intro _
    | (with_reducible split)

theorem frame_spVbus {l₀ : List Area} {b₀ b : Block} (h₀ : Frame l₀ b₀ b) (n : Fin 2) (vbus : BitVec 16)
    (hl : [.regs, .irq, .ml, .out] ⊆ l₀ := by first | assumption | exact Area.sub ‹_›) :
    Frame l₀ b₀ (b.spVbus n vbus) := by
  unfold Block.spVbus
  repeat' first
    | (with_reducible assumption)
    | (with_reducible exact Area.sub ‹_›)
    | (with_reducible exact Frame.refl)
    | (with_reducible apply Frame.ite)
    | (with_reducible refine Frame.foldl ?_ (fun _ _ _ => ?_))
    | (with_reducible apply frame_setFld)
    | (with_reducible apply frame_raiseSpin)
    | (fail_if_no_progress extract_lets)
    | intro _
    | (with_reducible split)

theorem frame_rotorLoss {l₀ : List Area} {b₀ b : Block} (h₀ : Frame l₀ b₀ b) (n : Fin 2)
    (hl : [.regs, .irq, .le, .servo, .spin, .wp, .cal, .hq, .store, .ml, .out] ⊆ l₀ := by first | assumption | exact Area.sub ‹_›) :
    Frame l₀ b₀ (b.rotorLoss n) := by
  unfold Block.rotorLoss
  repeat' first
    | (with_reducible assumption)
    | (with_reducible exact Area.sub ‹_›)
    | (with_reducible exact Frame.refl)
    | (with_reducible apply Frame.ite)
    | (with_reducible refine Frame.foldl ?_ (fun _ _ _ => ?_))
    | (with_reducible apply frame_spClear)
    | (with_reducible apply frame_modSpin)
    | (with_reducible apply frame_setFld)
    | (with_reducible apply frame_spGo)
    | (with_reducible apply frame_bump)
    | (with_reducible apply frame_surfDown)
    | (with_reducible apply frame_modHq)
    | (with_reducible apply frame_calAbandon)
    | (with_reducible apply frame_postClose)
    | (fail_if_no_progress extract_lets)
    | intro _
    | (with_reducible split)

theorem frame_spThirdMiss {l₀ : List Area} {b₀ b : Block} (h₀ : Frame l₀ b₀ b) (n : Fin 2)
    (hl : [.regs, .irq, .le, .servo, .spin, .wp, .cal, .hq, .store, .ml, .out] ⊆ l₀ := by first | assumption | exact Area.sub ‹_›) :
    Frame l₀ b₀ (b.spThirdMiss n) := by
  unfold Block.spThirdMiss
  repeat' first
    | (with_reducible assumption)
    | (with_reducible exact Area.sub ‹_›)
    | (with_reducible exact Frame.refl)
    | (with_reducible apply Frame.ite)
    | (with_reducible refine Frame.foldl ?_ (fun _ _ _ => ?_))
    | (with_reducible apply frame_rotorLoss)
    | (with_reducible apply frame_spFail)
    | (fail_if_no_progress extract_lets)
    | intro _
    | (with_reducible split)

theorem frame_spRun {l₀ : List Area} {b₀ b : Block} (h₀ : Frame l₀ b₀ b) (n : Fin 2)
    (hl : [.regs, .irq, .le, .servo, .spin, .wp, .hq, .store, .ml, .pw, .out, .free] ⊆ l₀ := by first | assumption | exact Area.sub ‹_›) :
    Frame l₀ b₀ (b.spRun n) := by
  unfold Block.spRun
  repeat' first
    | (with_reducible assumption)
    | (with_reducible exact Area.sub ‹_›)
    | (with_reducible exact Frame.refl)
    | (with_reducible apply Frame.ite)
    | (with_reducible refine Frame.foldl ?_ (fun _ _ _ => ?_))
    | (with_reducible apply frame_onSpin)
    | (with_reducible apply frame_setFld)
    | (with_reducible apply frame_modPw)
    | (with_reducible apply frame_spAttempt)
    | (with_reducible apply frame_modSpin)
    | (fail_if_no_progress extract_lets)
    | intro _
    | (with_reducible split)

theorem frame_execSpindleRun {l₀ : List Area} {b₀ : Block} {s t : State} {n : Fin 2} (e₀ : execSpindleRun n s = .next t)
    (h₀ : Frame l₀ b₀ s.toBlock)
    (hl : [.regs, .irq, .le, .servo, .spin, .wp, .hq, .store, .ml, .pw, .out, .free] ⊆ l₀ := by first | assumption | exact Area.sub ‹_›) : Frame l₀ b₀ t.toBlock := by
  unfold execSpindleRun at e₀
  refine Frame.upd e₀ h₀ (fun _ _ => ?_)
  repeat' first
    | (with_reducible assumption)
    | (with_reducible exact Area.sub ‹_›)
    | (with_reducible exact Frame.refl)
    | (with_reducible apply Frame.ite)
    | (with_reducible refine Frame.foldl ?_ (fun _ _ _ => ?_))
    | (with_reducible apply frame_spRun)
    | (fail_if_no_progress extract_lets)
    | intro _
    | (with_reducible split)

theorem frame_spStop {l₀ : List Area} {b₀ b : Block} (h₀ : Frame l₀ b₀ b) (n : Fin 2)
    (hl : [.regs, .irq, .le, .servo, .spin, .wp, .hq, .store, .ml, .out] ⊆ l₀ := by first | assumption | exact Area.sub ‹_›) :
    Frame l₀ b₀ (b.spStop n) := by
  unfold Block.spStop
  repeat' first
    | (with_reducible assumption)
    | (with_reducible exact Area.sub ‹_›)
    | (with_reducible exact Frame.refl)
    | (with_reducible apply Frame.ite)
    | (with_reducible refine Frame.foldl ?_ (fun _ _ _ => ?_))
    | (with_reducible apply frame_setFld)
    | (with_reducible apply frame_spClear)
    | (with_reducible apply frame_modSpin)
    | (with_reducible apply frame_spRef)
    | (with_reducible apply frame_spGo)
    | (fail_if_no_progress extract_lets)
    | intro _
    | (with_reducible split)

theorem frame_execSpindleStop {l₀ : List Area} {b₀ : Block} {s t : State} {n : Fin 2} (e₀ : execSpindleStop n s = .next t)
    (h₀ : Frame l₀ b₀ s.toBlock)
    (hl : [.regs, .irq, .le, .servo, .spin, .wp, .hq, .store, .ml, .out] ⊆ l₀ := by first | assumption | exact Area.sub ‹_›) : Frame l₀ b₀ t.toBlock := by
  unfold execSpindleStop at e₀
  refine Frame.upd e₀ h₀ (fun _ _ => ?_)
  repeat' first
    | (with_reducible assumption)
    | (with_reducible exact Area.sub ‹_›)
    | (with_reducible exact Frame.refl)
    | (with_reducible apply Frame.ite)
    | (with_reducible refine Frame.foldl ?_ (fun _ _ _ => ?_))
    | (with_reducible apply frame_onSpin)
    | (with_reducible apply frame_spStop)
    | (fail_if_no_progress extract_lets)
    | intro _
    | (with_reducible split)

theorem frame_execSetSpeed {l₀ : List Area} {b₀ : Block} {s t : State} {n : Fin 2} {rpm : BitVec 14} (e₀ : execSetSpeed n rpm s = .next t)
    (h₀ : Frame l₀ b₀ s.toBlock)
    (hl : [.regs, .irq, .le, .servo, .spin, .wp, .hq, .store, .ml, .out] ⊆ l₀ := by first | assumption | exact Area.sub ‹_›) : Frame l₀ b₀ t.toBlock := by
  unfold execSetSpeed at e₀
  refine Frame.upd e₀ h₀ (fun _ _ => ?_)
  repeat' first
    | (with_reducible assumption)
    | (with_reducible exact Area.sub ‹_›)
    | (with_reducible exact Frame.refl)
    | (with_reducible apply Frame.ite)
    | (with_reducible refine Frame.foldl ?_ (fun _ _ _ => ?_))
    | (with_reducible apply frame_onSpin)
    | (with_reducible apply frame_setFld)
    | (with_reducible apply frame_spRcap)
    | (with_reducible apply frame_spRetarget)
    | (fail_if_no_progress extract_lets)
    | intro _
    | (with_reducible split)

theorem frame_spCatch {l₀ : List Area} {b₀ b : Block} (h₀ : Frame l₀ b₀ b) (n : Fin 2) (angle : Word) (rpm : Int)
    (hl : [.regs, .irq, .le, .servo, .spin, .wp, .hq, .store, .ml, .out] ⊆ l₀ := by first | assumption | exact Area.sub ‹_›) :
    Frame l₀ b₀ (b.spCatch n angle rpm) := by
  unfold Block.spCatch
  repeat' first
    | (with_reducible assumption)
    | (with_reducible exact Area.sub ‹_›)
    | (with_reducible exact Frame.refl)
    | (with_reducible apply Frame.ite)
    | (with_reducible refine Frame.foldl ?_ (fun _ _ _ => ?_))
    | (with_reducible apply frame_commitData)
    | (with_reducible apply frame_spGo)
    | (fail_if_no_progress extract_lets)
    | intro _
    | (with_reducible split)

theorem frame_execCoastSenseDone {l₀ : List Area} {b₀ : Block} {s t : State} {n : Fin 2} {rpm : BitVec 16} {crossings : BitVec 8} {angle : Word} (e₀ : execCoastSenseDone n rpm crossings angle s = .next t)
    (h₀ : Frame l₀ b₀ s.toBlock)
    (hl : [.regs, .irq, .le, .servo, .spin, .wp, .hq, .store, .ml, .out, .free] ⊆ l₀ := by first | assumption | exact Area.sub ‹_›) : Frame l₀ b₀ t.toBlock := by
  unfold execCoastSenseDone at e₀
  refine Frame.upd e₀ h₀ (fun _ _ => ?_)
  repeat' first
    | (with_reducible assumption)
    | (with_reducible exact Area.sub ‹_›)
    | (with_reducible exact Frame.refl)
    | (with_reducible apply Frame.ite)
    | (with_reducible refine Frame.foldl ?_ (fun _ _ _ => ?_))
    | (with_reducible apply Frame.ite2)
    | (with_reducible refine Frame.snd (by with_reducible assumption) ?_)
    | (with_reducible refine Frame.thd (by with_reducible assumption) ?_)
    | (with_reducible apply frame_onSpin)
    | (with_reducible apply frame_setFld)
    | (with_reducible apply frame_freeVal)
    | (with_reducible apply frame_spGo)
    | (with_reducible apply frame_spCatch)
    | (with_reducible apply frame_spStopped)
    | (fail_if_no_progress extract_lets)
    | intro _
    | (with_reducible split)

theorem frame_execBbrakeEnd {l₀ : List Area} {b₀ : Block} {s t : State} {n : Fin 2} (e₀ : execBbrakeEnd n s = .next t)
    (h₀ : Frame l₀ b₀ s.toBlock)
    (hl : [.regs, .irq, .le, .servo, .spin, .wp, .hq, .store, .ml, .out] ⊆ l₀ := by first | assumption | exact Area.sub ‹_›) : Frame l₀ b₀ t.toBlock := by
  unfold execBbrakeEnd at e₀
  refine Frame.upd e₀ h₀ (fun _ _ => ?_)
  repeat' first
    | (with_reducible assumption)
    | (with_reducible exact Area.sub ‹_›)
    | (with_reducible exact Frame.refl)
    | (with_reducible apply Frame.ite)
    | (with_reducible refine Frame.foldl ?_ (fun _ _ _ => ?_))
    | (with_reducible apply frame_onSpin)
    | (with_reducible apply frame_spFail)
    | (with_reducible apply frame_modSpin)
    | (fail_if_no_progress extract_lets)
    | intro _
    | (with_reducible split)

theorem frame_execAlignEnd {l₀ : List Area} {b₀ : Block} {s t : State} {n : Fin 2} (e₀ : execAlignEnd n s = .next t)
    (h₀ : Frame l₀ b₀ s.toBlock)
    (hl : [.regs, .irq, .le, .servo, .spin, .wp, .hq, .store, .ml, .out] ⊆ l₀ := by first | assumption | exact Area.sub ‹_›) : Frame l₀ b₀ t.toBlock := by
  unfold execAlignEnd at e₀
  refine Frame.upd e₀ h₀ (fun _ _ => ?_)
  repeat' first
    | (with_reducible assumption)
    | (with_reducible exact Area.sub ‹_›)
    | (with_reducible exact Frame.refl)
    | (with_reducible apply Frame.ite)
    | (with_reducible refine Frame.foldl ?_ (fun _ _ _ => ?_))
    | (with_reducible apply frame_onSpin)
    | (with_reducible apply frame_spGo)
    | (fail_if_no_progress extract_lets)
    | intro _
    | (with_reducible split)

theorem frame_execRampEnd {l₀ : List Area} {b₀ : Block} {s t : State} {n : Fin 2} (e₀ : execRampEnd n s = .next t)
    (h₀ : Frame l₀ b₀ s.toBlock)
    (hl : [.regs, .irq, .le, .servo, .spin, .wp, .hq, .store, .ml, .out] ⊆ l₀ := by first | assumption | exact Area.sub ‹_›) : Frame l₀ b₀ t.toBlock := by
  unfold execRampEnd at e₀
  refine Frame.upd e₀ h₀ (fun _ _ => ?_)
  repeat' first
    | (with_reducible assumption)
    | (with_reducible exact Area.sub ‹_›)
    | (with_reducible exact Frame.refl)
    | (with_reducible apply Frame.ite)
    | (with_reducible refine Frame.foldl ?_ (fun _ _ _ => ?_))
    | (with_reducible apply frame_onSpin)
    | (with_reducible apply frame_spFail)
    | (with_reducible apply frame_commitData)
    | (with_reducible apply frame_spRef)
    | (with_reducible apply frame_spGo)
    | (fail_if_no_progress extract_lets)
    | intro _
    | (with_reducible split)

theorem frame_execAttemptFailed {l₀ : List Area} {b₀ : Block} {s t : State} {n : Fin 2} (e₀ : execAttemptFailed n s = .next t)
    (h₀ : Frame l₀ b₀ s.toBlock)
    (hl : [.regs, .irq, .le, .servo, .spin, .wp, .hq, .store, .ml, .out] ⊆ l₀ := by first | assumption | exact Area.sub ‹_›) : Frame l₀ b₀ t.toBlock := by
  unfold execAttemptFailed at e₀
  refine Frame.upd e₀ h₀ (fun _ _ => ?_)
  repeat' first
    | (with_reducible assumption)
    | (with_reducible exact Area.sub ‹_›)
    | (with_reducible exact Frame.refl)
    | (with_reducible apply Frame.ite)
    | (with_reducible refine Frame.foldl ?_ (fun _ _ _ => ?_))
    | (with_reducible apply frame_onSpin)
    | (with_reducible apply frame_spFail)
    | (fail_if_no_progress extract_lets)
    | intro _
    | (with_reducible split)

theorem frame_execRetryWaitEnd {l₀ : List Area} {b₀ : Block} {s t : State} {n : Fin 2} (e₀ : execRetryWaitEnd n s = .next t)
    (h₀ : Frame l₀ b₀ s.toBlock)
    (hl : [.regs, .irq, .le, .servo, .spin, .wp, .hq, .store, .ml, .out, .free] ⊆ l₀ := by first | assumption | exact Area.sub ‹_›) : Frame l₀ b₀ t.toBlock := by
  unfold execRetryWaitEnd at e₀
  refine Frame.upd e₀ h₀ (fun _ _ => ?_)
  repeat' first
    | (with_reducible assumption)
    | (with_reducible exact Area.sub ‹_›)
    | (with_reducible exact Frame.refl)
    | (with_reducible apply Frame.ite)
    | (with_reducible refine Frame.foldl ?_ (fun _ _ _ => ?_))
    | (with_reducible apply frame_onSpin)
    | (with_reducible apply frame_spAttempt)
    | (fail_if_no_progress extract_lets)
    | intro _
    | (with_reducible split)

theorem frame_execCatchResync {l₀ : List Area} {b₀ : Block} {s t : State} {n : Fin 2} (e₀ : execCatchResync n s = .next t)
    (h₀ : Frame l₀ b₀ s.toBlock)
    (hl : [.regs, .irq, .le, .spin, .ml, .out] ⊆ l₀ := by first | assumption | exact Area.sub ‹_›) : Frame l₀ b₀ t.toBlock := by
  unfold execCatchResync at e₀
  refine Frame.upd e₀ h₀ (fun _ _ => ?_)
  repeat' first
    | (with_reducible assumption)
    | (with_reducible exact Area.sub ‹_›)
    | (with_reducible exact Frame.refl)
    | (with_reducible apply Frame.ite)
    | (with_reducible refine Frame.foldl ?_ (fun _ _ _ => ?_))
    | (with_reducible apply frame_onSpin)
    | (with_reducible apply frame_bump)
    | (with_reducible apply frame_raiseSpin)
    | (with_reducible apply frame_commitData)
    | (with_reducible apply frame_modSpin)
    | (fail_if_no_progress extract_lets)
    | intro _
    | (with_reducible split)

theorem frame_firmwareOff {l₀ : List Area} {b₀ b : Block} (h₀ : Frame l₀ b₀ b) (s : Fin 4)
    (hl : [.regs, .irq, .le, .servo, .wp, .se, .cal, .hq, .store, .ml, .out] ⊆ l₀ := by first | assumption | exact Area.sub ‹_›) :
    Frame l₀ b₀ (b.firmwareOff s) := by
  unfold Block.firmwareOff
  repeat' first
    | (with_reducible assumption)
    | (with_reducible exact Area.sub ‹_›)
    | (with_reducible exact Frame.refl)
    | (with_reducible apply Frame.ite)
    | (with_reducible refine Frame.foldl ?_ (fun _ _ _ => ?_))
    | (with_reducible apply frame_commitData)
    | (with_reducible apply frame_takeCmd)
    | (with_reducible apply frame_modServo)
    | (with_reducible apply frame_setFld)
    | (with_reducible apply frame_setPsw)
    | (with_reducible apply frame_trackCommit)
    | (with_reducible apply frame_cmdDone)
    | (fail_if_no_progress extract_lets)
    | intro _
    | (with_reducible split)

theorem frame_execCatchTimeout {l₀ : List Area} {b₀ : Block} {s t : State} {n : Fin 2} (e₀ : execCatchTimeout n s = .next t)
    (h₀ : Frame l₀ b₀ s.toBlock)
    (hl : [.regs, .irq, .le, .servo, .spin, .wp, .se, .cal, .hq, .store, .ml, .out] ⊆ l₀ := by first | assumption | exact Area.sub ‹_›) : Frame l₀ b₀ t.toBlock := by
  unfold execCatchTimeout at e₀
  refine Frame.upd e₀ h₀ (fun _ _ => ?_)
  repeat' first
    | (with_reducible assumption)
    | (with_reducible exact Area.sub ‹_›)
    | (with_reducible exact Frame.refl)
    | (with_reducible apply Frame.ite)
    | (with_reducible refine Frame.foldl ?_ (fun _ _ _ => ?_))
    | (with_reducible apply frame_onSpin)
    | (with_reducible apply frame_spClear)
    | (with_reducible apply frame_spGo)
    | (with_reducible apply frame_raiseSpin)
    | (with_reducible apply frame_async)
    | (with_reducible apply frame_firmwareOff)
    | (fail_if_no_progress extract_lets)
    | intro _
    | (with_reducible split)

theorem frame_execAccelGrant {l₀ : List Area} {b₀ : Block} {s t : State} {n : Fin 2} (e₀ : execAccelGrant n s = .next t)
    (h₀ : Frame l₀ b₀ s.toBlock)
    (hl : [.regs, .irq, .le, .servo, .spin, .wp, .hq, .store, .ml, .out] ⊆ l₀ := by first | assumption | exact Area.sub ‹_›) : Frame l₀ b₀ t.toBlock := by
  unfold execAccelGrant at e₀
  refine Frame.upd e₀ h₀ (fun _ _ => ?_)
  repeat' first
    | (with_reducible assumption)
    | (with_reducible exact Area.sub ‹_›)
    | (with_reducible exact Frame.refl)
    | (with_reducible apply Frame.ite)
    | (with_reducible refine Frame.foldl ?_ (fun _ _ _ => ?_))
    | (with_reducible apply frame_onSpin)
    | (with_reducible apply frame_spProceed)
    | (fail_if_no_progress extract_lets)
    | intro _
    | (with_reducible split)

theorem frame_coefSet {l₀ : List Area} {b₀ b : Block} (h₀ : Frame l₀ b₀ b) (n : Fin 2)
    (hl : [.regs] ⊆ l₀ := by first | assumption | exact Area.sub ‹_›) :
    Frame l₀ b₀ (b.coefSet n) := by
  unfold Block.coefSet
  repeat' first
    | (with_reducible assumption)
    | (with_reducible exact Area.sub ‹_›)
    | (with_reducible exact Frame.refl)
    | (with_reducible apply Frame.ite)
    | (with_reducible refine Frame.foldl ?_ (fun _ _ _ => ?_))
    | (with_reducible apply frame_putBit)
    | (fail_if_no_progress extract_lets)
    | intro _
    | (with_reducible split)

theorem frame_execSpeedLock {l₀ : List Area} {b₀ : Block} {s t : State} {n : Fin 2} (e₀ : execSpeedLock n s = .next t)
    (h₀ : Frame l₀ b₀ s.toBlock)
    (hl : [.regs, .irq, .spin, .ml, .out] ⊆ l₀ := by first | assumption | exact Area.sub ‹_›) : Frame l₀ b₀ t.toBlock := by
  unfold execSpeedLock at e₀
  refine Frame.upd e₀ h₀ (fun _ _ => ?_)
  repeat' first
    | (with_reducible assumption)
    | (with_reducible exact Area.sub ‹_›)
    | (with_reducible exact Frame.refl)
    | (with_reducible apply Frame.ite)
    | (with_reducible refine Frame.foldl ?_ (fun _ _ _ => ?_))
    | (with_reducible apply frame_onSpin)
    | (with_reducible apply frame_setFld)
    | (with_reducible apply frame_modSpin)
    | (with_reducible apply frame_coefSet)
    | (with_reducible apply frame_raiseSpin)
    | (fail_if_no_progress extract_lets)
    | intro _
    | (with_reducible split)

theorem frame_execLockLost {l₀ : List Area} {b₀ : Block} {s t : State} {n : Fin 2} (e₀ : execLockLost n s = .next t)
    (h₀ : Frame l₀ b₀ s.toBlock)
    (hl : [.regs, .irq, .servo, .wp, .hq, .store, .ml, .out] ⊆ l₀ := by first | assumption | exact Area.sub ‹_›) : Frame l₀ b₀ t.toBlock := by
  unfold execLockLost at e₀
  refine Frame.upd e₀ h₀ (fun _ _ => ?_)
  repeat' first
    | (with_reducible assumption)
    | (with_reducible exact Area.sub ‹_›)
    | (with_reducible exact Frame.refl)
    | (with_reducible apply Frame.ite)
    | (with_reducible refine Frame.foldl ?_ (fun _ _ _ => ?_))
    | (with_reducible apply frame_onSpin)
    | (with_reducible apply frame_unlock)
    | (fail_if_no_progress extract_lets)
    | intro _
    | (with_reducible split)

theorem frame_execRotorLoss {l₀ : List Area} {b₀ : Block} {s t : State} {n : Fin 2} (e₀ : execRotorLoss n s = .next t)
    (h₀ : Frame l₀ b₀ s.toBlock)
    (hl : [.regs, .irq, .le, .servo, .spin, .wp, .cal, .hq, .store, .ml, .out] ⊆ l₀ := by first | assumption | exact Area.sub ‹_›) : Frame l₀ b₀ t.toBlock := by
  unfold execRotorLoss at e₀
  refine Frame.upd e₀ h₀ (fun _ _ => ?_)
  repeat' first
    | (with_reducible assumption)
    | (with_reducible exact Area.sub ‹_›)
    | (with_reducible exact Frame.refl)
    | (with_reducible apply Frame.ite)
    | (with_reducible refine Frame.foldl ?_ (fun _ _ _ => ?_))
    | (with_reducible apply frame_onSpin)
    | (with_reducible apply frame_rotorLoss)
    | (fail_if_no_progress extract_lets)
    | intro _
    | (with_reducible split)

theorem frame_execBrakeExit {l₀ : List Area} {b₀ : Block} {s t : State} {n : Fin 2} (e₀ : execBrakeExit n s = .next t)
    (h₀ : Frame l₀ b₀ s.toBlock)
    (hl : [.regs, .irq, .le, .servo, .spin, .wp, .hq, .store, .ml, .out, .free] ⊆ l₀ := by first | assumption | exact Area.sub ‹_›) : Frame l₀ b₀ t.toBlock := by
  unfold execBrakeExit at e₀
  refine Frame.upd e₀ h₀ (fun _ _ => ?_)
  repeat' first
    | (with_reducible assumption)
    | (with_reducible exact Area.sub ‹_›)
    | (with_reducible exact Frame.refl)
    | (with_reducible apply Frame.ite)
    | (with_reducible refine Frame.foldl ?_ (fun _ _ _ => ?_))
    | (with_reducible apply frame_onSpin)
    | (with_reducible apply frame_spAttempt)
    | (with_reducible apply frame_spStopped)
    | (fail_if_no_progress extract_lets)
    | intro _
    | (with_reducible split)

theorem frame_spFault {l₀ : List Area} {b₀ b : Block} (h₀ : Frame l₀ b₀ b) (n : Fin 2) (f : Fld)
    (hl : [.regs, .irq, .le, .servo, .spin, .wp, .hq, .store, .ml, .out] ⊆ l₀ := by first | assumption | exact Area.sub ‹_›) :
    Frame l₀ b₀ (b.spFault n f) := by
  unfold Block.spFault
  repeat' first
    | (with_reducible assumption)
    | (with_reducible exact Area.sub ‹_›)
    | (with_reducible exact Frame.refl)
    | (with_reducible apply Frame.ite)
    | (with_reducible refine Frame.foldl ?_ (fun _ _ _ => ?_))
    | (with_reducible apply frame_setFld)
    | (with_reducible apply frame_spClear)
    | (with_reducible apply frame_spGo)
    | (with_reducible apply frame_spFaulted)
    | (fail_if_no_progress extract_lets)
    | intro _
    | (with_reducible split)

theorem frame_execBrakeTimeout {l₀ : List Area} {b₀ : Block} {s t : State} {n : Fin 2} (e₀ : execBrakeTimeout n s = .next t)
    (h₀ : Frame l₀ b₀ s.toBlock)
    (hl : [.regs, .irq, .le, .servo, .spin, .wp, .hq, .store, .ml, .out] ⊆ l₀ := by first | assumption | exact Area.sub ‹_›) : Frame l₀ b₀ t.toBlock := by
  unfold execBrakeTimeout at e₀
  refine Frame.upd e₀ h₀ (fun _ _ => ?_)
  repeat' first
    | (with_reducible assumption)
    | (with_reducible exact Area.sub ‹_›)
    | (with_reducible exact Frame.refl)
    | (with_reducible apply Frame.ite)
    | (with_reducible refine Frame.foldl ?_ (fun _ _ _ => ?_))
    | (with_reducible apply frame_onSpin)
    | (with_reducible apply frame_spFault)
    | (fail_if_no_progress extract_lets)
    | intro _
    | (with_reducible split)

theorem frame_execBridgeOvercurrent {l₀ : List Area} {b₀ : Block} {s t : State} {n : Fin 2} {overTemp : Bool} (e₀ : execBridgeOvercurrent n overTemp s = .next t)
    (h₀ : Frame l₀ b₀ s.toBlock)
    (hl : [.regs, .irq, .le, .servo, .spin, .wp, .hq, .store, .ml, .out] ⊆ l₀ := by first | assumption | exact Area.sub ‹_›) : Frame l₀ b₀ t.toBlock := by
  unfold execBridgeOvercurrent at e₀
  refine Frame.upd e₀ h₀ (fun _ _ => ?_)
  repeat' first
    | (with_reducible assumption)
    | (with_reducible exact Area.sub ‹_›)
    | (with_reducible exact Frame.refl)
    | (with_reducible apply Frame.ite)
    | (with_reducible refine Frame.foldl ?_ (fun _ _ _ => ?_))
    | (with_reducible apply frame_onSpin)
    | (with_reducible apply frame_spFault)
    | (fail_if_no_progress extract_lets)
    | intro _
    | (with_reducible split)

theorem frame_spFaultDone {l₀ : List Area} {b₀ b : Block} (h₀ : Frame l₀ b₀ b) (n : Fin 2)
    (hl : [.regs, .irq, .le, .servo, .spin, .wp, .hq, .store, .ml, .out] ⊆ l₀ := by first | assumption | exact Area.sub ‹_›) :
    Frame l₀ b₀ (b.spFaultDone n) := by
  unfold Block.spFaultDone
  repeat' first
    | (with_reducible assumption)
    | (with_reducible exact Area.sub ‹_›)
    | (with_reducible exact Frame.refl)
    | (with_reducible apply Frame.ite)
    | (with_reducible refine Frame.foldl ?_ (fun _ _ _ => ?_))
    | (with_reducible apply frame_setFld)
    | (with_reducible apply frame_spGo)
    | (fail_if_no_progress extract_lets)
    | intro _
    | (with_reducible split)

theorem frame_execFaultClear {l₀ : List Area} {b₀ : Block} {s t : State} {n : Fin 2} {bits : BitVec 4} (e₀ : execFaultClear n bits s = .next t)
    (h₀ : Frame l₀ b₀ s.toBlock)
    (hl : [.regs, .irq, .le, .servo, .spin, .wp, .hq, .store, .ml, .out] ⊆ l₀ := by first | assumption | exact Area.sub ‹_›) : Frame l₀ b₀ t.toBlock := by
  unfold execFaultClear at e₀
  refine Frame.upd e₀ h₀ (fun _ _ => ?_)
  repeat' first
    | (with_reducible assumption)
    | (with_reducible exact Area.sub ‹_›)
    | (with_reducible exact Frame.refl)
    | (with_reducible apply Frame.ite)
    | (with_reducible refine Frame.foldl ?_ (fun _ _ _ => ?_))
    | (with_reducible apply frame_onSpin)
    | (with_reducible apply frame_wr)
    | (with_reducible apply frame_spFaultDone)
    | (fail_if_no_progress extract_lets)
    | intro _
    | (with_reducible split)

theorem frame_spShadow {l₀ : List Area} {b₀ b : Block} (h₀ : Frame l₀ b₀ b) (n : Fin 2)
    (hl : [.spin] ⊆ l₀ := by first | assumption | exact Area.sub ‹_›) :
    Frame l₀ b₀ (b.spShadow n) := by
  unfold Block.spShadow
  repeat' first
    | (with_reducible assumption)
    | (with_reducible exact Area.sub ‹_›)
    | (with_reducible exact Frame.refl)
    | (with_reducible apply Frame.ite)
    | (with_reducible refine Frame.foldl ?_ (fun _ _ _ => ?_))
    | (with_reducible apply frame_modSpin)
    | (fail_if_no_progress extract_lets)
    | intro _
    | (with_reducible split)

theorem frame_spReached {l₀ : List Area} {b₀ b : Block} (h₀ : Frame l₀ b₀ b) (n : Fin 2)
    (hl : [.regs, .irq, .le, .servo, .spin, .wp, .hq, .store, .ml, .out] ⊆ l₀ := by first | assumption | exact Area.sub ‹_›) :
    Frame l₀ b₀ (b.spReached n) := by
  unfold Block.spReached
  repeat' first
    | (with_reducible assumption)
    | (with_reducible exact Area.sub ‹_›)
    | (with_reducible exact Frame.refl)
    | (with_reducible apply Frame.ite)
    | (with_reducible refine Frame.foldl ?_ (fun _ _ _ => ?_))
    | (with_reducible apply frame_spGo)
    | (fail_if_no_progress extract_lets)
    | intro _
    | (with_reducible split)

theorem frame_execPwmPeriod {l₀ : List Area} {b₀ : Block} {s t : State} {n : Fin 2} {code1 : BitVec 12} {code2 : BitVec 12} {vbus : BitVec 16} {rpm : BitVec 16} (e₀ : execPwmPeriod n code1 code2 vbus rpm s = .next t)
    (h₀ : Frame l₀ b₀ s.toBlock)
    (hl : [.regs, .irq, .le, .servo, .spin, .wp, .hq, .store, .ml, .out] ⊆ l₀ := by first | assumption | exact Area.sub ‹_›) : Frame l₀ b₀ t.toBlock := by
  unfold execPwmPeriod at e₀
  refine Frame.upd e₀ h₀ (fun _ _ => ?_)
  repeat' first
    | (with_reducible assumption)
    | (with_reducible exact Area.sub ‹_›)
    | (with_reducible exact Frame.refl)
    | (with_reducible apply Frame.ite)
    | (with_reducible refine Frame.foldl ?_ (fun _ _ _ => ?_))
    | (with_reducible apply frame_onSpin)
    | (with_reducible apply frame_spShadow)
    | (with_reducible apply frame_modSpin)
    | (with_reducible apply frame_bump)
    | (with_reducible apply frame_setFld)
    | (with_reducible apply frame_commitData)
    | (with_reducible apply frame_spVbus)
    | (with_reducible apply frame_spReached)
    | (fail_if_no_progress extract_lets)
    | intro _
    | (with_reducible split)

theorem frame_execVclampSet {l₀ : List Area} {b₀ : Block} {s t : State} {n : Fin 2} {vbus : BitVec 16} (e₀ : execVclampSet n vbus s = .next t)
    (h₀ : Frame l₀ b₀ s.toBlock)
    (hl : [.regs, .irq, .ml, .out] ⊆ l₀ := by first | assumption | exact Area.sub ‹_›) : Frame l₀ b₀ t.toBlock := by
  unfold execVclampSet at e₀
  refine Frame.upd e₀ h₀ (fun _ _ => ?_)
  repeat' first
    | (with_reducible assumption)
    | (with_reducible exact Area.sub ‹_›)
    | (with_reducible exact Frame.refl)
    | (with_reducible apply Frame.ite)
    | (with_reducible refine Frame.foldl ?_ (fun _ _ _ => ?_))
    | (with_reducible apply frame_onSpin)
    | (with_reducible apply frame_spVbus)
    | (fail_if_no_progress extract_lets)
    | intro _
    | (with_reducible split)

/-! ### Machine/Axes.lean -/

theorem frame_dropFollow {l₀ : List Area} {b₀ b : Block} (h₀ : Frame l₀ b₀ b) (a : Fin 9)
    (hl : [.regs, .axis] ⊆ l₀ := by first | assumption | exact Area.sub ‹_›) :
    Frame l₀ b₀ (b.dropFollow a) := by
  unfold Block.dropFollow
  repeat' first
    | (with_reducible assumption)
    | (with_reducible exact Area.sub ‹_›)
    | (with_reducible exact Frame.refl)
    | (with_reducible apply Frame.ite)
    | (with_reducible refine Frame.foldl ?_ (fun _ _ _ => ?_))
    | (with_reducible apply frame_modAxis)
    | (with_reducible apply frame_setFld)
    | (fail_if_no_progress extract_lets)
    | intro _
    | (with_reducible split)

theorem frame_axFault {l₀ : List Area} {b₀ b : Block} (h₀ : Frame l₀ b₀ b) (a : Fin 9) (f : Fld)
    (hl : [.regs] ⊆ l₀ := by first | assumption | exact Area.sub ‹_›) :
    Frame l₀ b₀ (b.axFault a f) := by
  unfold Block.axFault
  repeat' first
    | (with_reducible assumption)
    | (with_reducible exact Area.sub ‹_›)
    | (with_reducible exact Frame.refl)
    | (with_reducible apply Frame.ite)
    | (with_reducible refine Frame.foldl ?_ (fun _ _ _ => ?_))
    | (with_reducible apply frame_setFld)
    | (fail_if_no_progress extract_lets)
    | intro _
    | (with_reducible split)

theorem frame_endHoming {l₀ : List Area} {b₀ b : Block} (h₀ : Frame l₀ b₀ b) (a : Fin 9)
    (hl : [.regs, .axis] ⊆ l₀ := by first | assumption | exact Area.sub ‹_›) :
    Frame l₀ b₀ (b.endHoming a) := by
  unfold Block.endHoming
  repeat' first
    | (with_reducible assumption)
    | (with_reducible exact Area.sub ‹_›)
    | (with_reducible exact Frame.refl)
    | (with_reducible apply Frame.ite)
    | (with_reducible refine Frame.foldl ?_ (fun _ _ _ => ?_))
    | (with_reducible apply frame_modAxis)
    | (with_reducible apply frame_setFld)
    | (fail_if_no_progress extract_lets)
    | intro _
    | (with_reducible split)

theorem frame_emergency {l₀ : List Area} {b₀ b : Block} (h₀ : Frame l₀ b₀ b) (a : Fin 9)
    (hl : [.regs, .axis] ⊆ l₀ := by first | assumption | exact Area.sub ‹_›) :
    Frame l₀ b₀ (b.emergency a) := by
  unfold Block.emergency
  repeat' first
    | (with_reducible assumption)
    | (with_reducible exact Area.sub ‹_›)
    | (with_reducible exact Frame.refl)
    | (with_reducible apply Frame.ite)
    | (with_reducible refine Frame.foldl ?_ (fun _ _ _ => ?_))
    | (with_reducible apply frame_endHoming)
    | (with_reducible apply frame_modAxis)
    | (fail_if_no_progress extract_lets)
    | intro _
    | (with_reducible split)

theorem frame_axHalt {l₀ : List Area} {b₀ b : Block} (h₀ : Frame l₀ b₀ b) (a : Fin 9)
    (hl : [.regs, .axis] ⊆ l₀ := by first | assumption | exact Area.sub ‹_›) :
    Frame l₀ b₀ (b.axHalt a) := by
  unfold Block.axHalt
  repeat' first
    | (with_reducible assumption)
    | (with_reducible exact Area.sub ‹_›)
    | (with_reducible exact Frame.refl)
    | (with_reducible apply Frame.ite)
    | (with_reducible refine Frame.foldl ?_ (fun _ _ _ => ?_))
    | (with_reducible apply frame_setFld)
    | (with_reducible apply frame_dropFollow)
    | (with_reducible apply frame_endHoming)
    | (fail_if_no_progress extract_lets)
    | intro _
    | (with_reducible split)

theorem frame_setT {l₀ : List Area} {b₀ b : Block} (h₀ : Frame l₀ b₀ b) (a : Fin 9) (t : Int)
    (hl : [.regs, .axis] ⊆ l₀ := by first | assumption | exact Area.sub ‹_›) :
    Frame l₀ b₀ (b.setT a t) := by
  unfold Block.setT
  repeat' first
    | (with_reducible assumption)
    | (with_reducible exact Area.sub ‹_›)
    | (with_reducible exact Frame.refl)
    | (with_reducible apply Frame.ite)
    | (with_reducible refine Frame.foldl ?_ (fun _ _ _ => ?_))
    | (with_reducible apply frame_modAxis)
    | (with_reducible apply frame_setFld)
    | (fail_if_no_progress extract_lets)
    | intro _
    | (with_reducible split)

theorem frame_startFollow {l₀ : List Area} {b₀ b : Block} (h₀ : Frame l₀ b₀ b) (a : Fin 9)
    (hl : [.regs, .irq, .axis, .ml, .out] ⊆ l₀ := by first | assumption | exact Area.sub ‹_›) :
    Frame l₀ b₀ (b.startFollow a) := by
  unfold Block.startFollow
  repeat' first
    | (with_reducible assumption)
    | (with_reducible exact Area.sub ‹_›)
    | (with_reducible exact Frame.refl)
    | (with_reducible apply Frame.ite)
    | (with_reducible refine Frame.foldl ?_ (fun _ _ _ => ?_))
    | (with_reducible apply frame_dropFollow)
    | (with_reducible apply frame_setT)
    | (with_reducible apply frame_raiseAxis)
    | (fail_if_no_progress extract_lets)
    | intro _
    | (with_reducible split)

theorem frame_placeTarget {l₀ : List Area} {b₀ b : Block} (h₀ : Frame l₀ b₀ b) (a : Fin 9) (v : Int)
    (hl : [.regs, .axis] ⊆ l₀ := by first | assumption | exact Area.sub ‹_›) :
    Frame l₀ b₀ (b.placeTarget a v) := by
  unfold Block.placeTarget
  repeat' first
    | (with_reducible assumption)
    | (with_reducible exact Area.sub ‹_›)
    | (with_reducible exact Frame.refl)
    | (with_reducible apply Frame.ite)
    | (with_reducible refine Frame.foldl ?_ (fun _ _ _ => ?_))
    | (with_reducible apply frame_bump)
    | (with_reducible apply frame_setT)
    | (with_reducible apply frame_modAxis)
    | (with_reducible apply frame_setFld)
    | (fail_if_no_progress extract_lets)
    | intro _
    | (with_reducible split)

theorem frame_takeTargets {l₀ : List Area} {b₀ b : Block} (h₀ : Frame l₀ b₀ b) (a : Fin 9)
    (hl : [.regs, .axis] ⊆ l₀ := by first | assumption | exact Area.sub ‹_›) :
    Frame l₀ b₀ (b.takeTargets a) := by
  unfold Block.takeTargets
  dsimp only
  repeat' first
    | (with_reducible assumption)
    | (with_reducible exact Area.sub ‹_›)
    | (with_reducible exact Frame.refl)
    | (with_reducible apply Frame.ite)
    | (with_reducible refine Frame.foldl ?_ (fun _ _ _ => ?_))
    | (with_reducible apply frame_modAxis)
    | (with_reducible apply frame_placeTarget)
    | (fail_if_no_progress extract_lets)
    | intro _
    | (with_reducible split)

theorem frame_homeMove {l₀ : List Area} {b₀ b : Block} (h₀ : Frame l₀ b₀ b) (a : Fin 9) (dir : Int) (step : Nat)
    (hl : [.regs, .axis] ⊆ l₀ := by first | assumption | exact Area.sub ‹_›) :
    Frame l₀ b₀ (b.homeMove a dir step) := by
  unfold Block.homeMove
  repeat' first
    | (with_reducible assumption)
    | (with_reducible exact Area.sub ‹_›)
    | (with_reducible exact Frame.refl)
    | (with_reducible apply Frame.ite)
    | (with_reducible refine Frame.foldl ?_ (fun _ _ _ => ?_))
    | (with_reducible apply frame_setT)
    | (with_reducible apply frame_modAxis)
    | (fail_if_no_progress extract_lets)
    | intro _
    | (with_reducible split)

theorem frame_homeFinal {l₀ : List Area} {b₀ b : Block} (h₀ : Frame l₀ b₀ b) (a : Fin 9)
    (hl : [.regs, .axis] ⊆ l₀ := by first | assumption | exact Area.sub ‹_›) :
    Frame l₀ b₀ (b.homeFinal a) := by
  unfold Block.homeFinal
  repeat' first
    | (with_reducible assumption)
    | (with_reducible exact Area.sub ‹_›)
    | (with_reducible exact Frame.refl)
    | (with_reducible apply Frame.ite)
    | (with_reducible refine Frame.foldl ?_ (fun _ _ _ => ?_))
    | (with_reducible apply frame_setT)
    | (with_reducible apply frame_modAxis)
    | (fail_if_no_progress extract_lets)
    | intro _
    | (with_reducible split)

theorem frame_homeAuto {l₀ : List Area} {b₀ b : Block} (h₀ : Frame l₀ b₀ b) (a : Fin 9)
    (hl : [.regs, .axis] ⊆ l₀ := by first | assumption | exact Area.sub ‹_›) :
    Frame l₀ b₀ (b.homeAuto a) := by
  unfold Block.homeAuto
  repeat' first
    | (with_reducible assumption)
    | (with_reducible exact Area.sub ‹_›)
    | (with_reducible exact Frame.refl)
    | (with_reducible apply Frame.ite)
    | (with_reducible refine Frame.foldl ?_ (fun _ _ _ => ?_))
    | (with_reducible apply frame_homeMove)
    | (fail_if_no_progress extract_lets)
    | intro _
    | (with_reducible split)

theorem frame_sampleLimits {l₀ : List Area} {b₀ b : Block} (h₀ : Frame l₀ b₀ b) (a : Fin 9)
    (hl : [.axis] ⊆ l₀ := by first | assumption | exact Area.sub ‹_›) :
    Frame l₀ b₀ (b.sampleLimits a) := by
  unfold Block.sampleLimits
  repeat' first
    | (with_reducible assumption)
    | (with_reducible exact Area.sub ‹_›)
    | (with_reducible exact Frame.refl)
    | (with_reducible apply Frame.ite)
    | (with_reducible refine Frame.foldl ?_ (fun _ _ _ => ?_))
    | (with_reducible apply frame_modAxis)
    | (fail_if_no_progress extract_lets)
    | intro _
    | (with_reducible split)

theorem frame_axPreamble {l₀ : List Area} {b₀ b : Block} (h₀ : Frame l₀ b₀ b) (a : Fin 9)
    (hl : [.regs, .irq, .axis, .ml, .out] ⊆ l₀ := by first | assumption | exact Area.sub ‹_›) :
    Frame l₀ b₀ (b.axPreamble a) := by
  unfold Block.axPreamble
  repeat' first
    | (with_reducible assumption)
    | (with_reducible exact Area.sub ‹_›)
    | (with_reducible exact Frame.refl)
    | (with_reducible apply Frame.ite)
    | (with_reducible refine Frame.foldl ?_ (fun _ _ _ => ?_))
    | (with_reducible apply frame_onAxis)
    | (with_reducible apply frame_homeAuto)
    | (with_reducible apply frame_sampleLimits)
    | (with_reducible apply frame_takeTargets)
    | (with_reducible apply frame_startFollow)
    | (with_reducible apply frame_setFld)
    | (fail_if_no_progress extract_lets)
    | intro _
    | (with_reducible split)

theorem frame_stallAxis {l₀ : List Area} {b₀ b : Block} (h₀ : Frame l₀ b₀ b) (a : Fin 9)
    (hl : [.regs, .irq, .axis, .ml, .out] ⊆ l₀ := by first | assumption | exact Area.sub ‹_›) :
    Frame l₀ b₀ (b.stallAxis a) := by
  unfold Block.stallAxis
  repeat' first
    | (with_reducible assumption)
    | (with_reducible exact Area.sub ‹_›)
    | (with_reducible exact Frame.refl)
    | (with_reducible apply Frame.ite)
    | (with_reducible refine Frame.foldl ?_ (fun _ _ _ => ?_))
    | (with_reducible apply frame_endHoming)
    | (with_reducible apply frame_dropFollow)
    | (with_reducible apply frame_modAxis)
    | (with_reducible apply frame_axFault)
    | (with_reducible apply frame_setFld)
    | (with_reducible apply frame_bump)
    | (with_reducible apply frame_raiseAxis)
    | (fail_if_no_progress extract_lets)
    | intro _
    | (with_reducible split)

theorem frame_axFaultDone {l₀ : List Area} {b₀ b : Block} (h₀ : Frame l₀ b₀ b) (a : Fin 9)
    (hl : [.regs, .axis] ⊆ l₀ := by first | assumption | exact Area.sub ‹_›) :
    Frame l₀ b₀ (b.axFaultDone a) := by
  unfold Block.axFaultDone
  repeat' first
    | (with_reducible assumption)
    | (with_reducible exact Area.sub ‹_›)
    | (with_reducible exact Frame.refl)
    | (with_reducible apply Frame.ite)
    | (with_reducible refine Frame.foldl ?_ (fun _ _ _ => ?_))
    | (with_reducible apply frame_setBit)
    | (with_reducible apply frame_modAxis)
    | (fail_if_no_progress extract_lets)
    | intro _
    | (with_reducible split)

theorem frame_execAxisTarget {l₀ : List Area} {b₀ : Block} {s t : State} {a : Fin 9} {v : BitVec 32} (e₀ : execAxisTarget a v s = .next t)
    (h₀ : Frame l₀ b₀ s.toBlock)
    (hl : [.regs, .axis] ⊆ l₀ := by first | assumption | exact Area.sub ‹_›) : Frame l₀ b₀ t.toBlock := by
  unfold execAxisTarget at e₀
  refine Frame.upd e₀ h₀ (fun _ _ => ?_)
  repeat' first
    | (with_reducible assumption)
    | (with_reducible exact Area.sub ‹_›)
    | (with_reducible exact Frame.refl)
    | (with_reducible apply Frame.ite)
    | (with_reducible refine Frame.foldl ?_ (fun _ _ _ => ?_))
    | (with_reducible apply frame_onAxis)
    | (with_reducible apply frame_wr)
    | (with_reducible apply frame_modAxis)
    | (fail_if_no_progress extract_lets)
    | intro _
    | (with_reducible split)

theorem frame_execAxisRelative {l₀ : List Area} {b₀ : Block} {s t : State} {a : Fin 9} {v : BitVec 32} (e₀ : execAxisRelative a v s = .next t)
    (h₀ : Frame l₀ b₀ s.toBlock)
    (hl : [.axis] ⊆ l₀ := by first | assumption | exact Area.sub ‹_›) : Frame l₀ b₀ t.toBlock := by
  unfold execAxisRelative at e₀
  refine Frame.upd e₀ h₀ (fun _ _ => ?_)
  repeat' first
    | (with_reducible assumption)
    | (with_reducible exact Area.sub ‹_›)
    | (with_reducible exact Frame.refl)
    | (with_reducible apply Frame.ite)
    | (with_reducible refine Frame.foldl ?_ (fun _ _ _ => ?_))
    | (with_reducible apply frame_onAxis)
    | (with_reducible apply frame_modAxis)
    | (fail_if_no_progress extract_lets)
    | intro _
    | (with_reducible split)

theorem frame_execAxisDone {l₀ : List Area} {b₀ : Block} {s t : State} {a : Fin 9} (e₀ : execAxisDone a s = .next t)
    (h₀ : Frame l₀ b₀ s.toBlock)
    (hl : [.regs, .irq, .axis, .ml, .out] ⊆ l₀ := by first | assumption | exact Area.sub ‹_›) : Frame l₀ b₀ t.toBlock := by
  unfold execAxisDone at e₀
  refine Frame.upd e₀ h₀ (fun _ _ => ?_)
  repeat' first
    | (with_reducible assumption)
    | (with_reducible exact Area.sub ‹_›)
    | (with_reducible exact Frame.refl)
    | (with_reducible apply Frame.ite)
    | (with_reducible refine Frame.foldl ?_ (fun _ _ _ => ?_))
    | (with_reducible apply frame_onAxis)
    | (with_reducible apply frame_setFld)
    | (with_reducible apply frame_raiseAxis)
    | (with_reducible apply frame_startFollow)
    | (fail_if_no_progress extract_lets)
    | intro _
    | (with_reducible split)

theorem frame_execAxisHalt {l₀ : List Area} {b₀ : Block} {s t : State} {a : Fin 9} (e₀ : execAxisHalt a s = .next t)
    (h₀ : Frame l₀ b₀ s.toBlock)
    (hl : [.regs, .axis] ⊆ l₀ := by first | assumption | exact Area.sub ‹_›) : Frame l₀ b₀ t.toBlock := by
  unfold execAxisHalt at e₀
  refine Frame.upd e₀ h₀ (fun _ _ => ?_)
  repeat' first
    | (with_reducible assumption)
    | (with_reducible exact Area.sub ‹_›)
    | (with_reducible exact Frame.refl)
    | (with_reducible apply Frame.ite)
    | (with_reducible refine Frame.foldl ?_ (fun _ _ _ => ?_))
    | (with_reducible apply frame_onAxis)
    | (with_reducible apply frame_axHalt)
    | (fail_if_no_progress extract_lets)
    | intro _
    | (with_reducible split)

theorem frame_axDisable {l₀ : List Area} {b₀ b : Block} (h₀ : Frame l₀ b₀ b) (a : Fin 9)
    (hl : [.regs, .axis] ⊆ l₀ := by first | assumption | exact Area.sub ‹_›) :
    Frame l₀ b₀ (b.axDisable a) := by
  unfold Block.axDisable
  repeat' first
    | (with_reducible assumption)
    | (with_reducible exact Area.sub ‹_›)
    | (with_reducible exact Frame.refl)
    | (with_reducible apply Frame.ite)
    | (with_reducible refine Frame.foldl ?_ (fun _ _ _ => ?_))
    | (with_reducible apply frame_setFld)
    | (with_reducible apply frame_dropFollow)
    | (with_reducible apply frame_endHoming)
    | (fail_if_no_progress extract_lets)
    | intro _
    | (with_reducible split)

theorem frame_execAxisDisable {l₀ : List Area} {b₀ : Block} {s t : State} {a : Fin 9} (e₀ : execAxisDisable a s = .next t)
    (h₀ : Frame l₀ b₀ s.toBlock)
    (hl : [.regs, .axis] ⊆ l₀ := by first | assumption | exact Area.sub ‹_›) : Frame l₀ b₀ t.toBlock := by
  unfold execAxisDisable at e₀
  refine Frame.upd e₀ h₀ (fun _ _ => ?_)
  repeat' first
    | (with_reducible assumption)
    | (with_reducible exact Area.sub ‹_›)
    | (with_reducible exact Frame.refl)
    | (with_reducible apply Frame.ite)
    | (with_reducible refine Frame.foldl ?_ (fun _ _ _ => ?_))
    | (with_reducible apply frame_onAxis)
    | (with_reducible apply frame_axDisable)
    | (fail_if_no_progress extract_lets)
    | intro _
    | (with_reducible split)

theorem frame_homeStart {l₀ : List Area} {b₀ b : Block} (h₀ : Frame l₀ b₀ b) (a : Fin 9)
    (hl : [.regs, .axis] ⊆ l₀ := by first | assumption | exact Area.sub ‹_›) :
    Frame l₀ b₀ (b.homeStart a) := by
  unfold Block.homeStart
  repeat' first
    | (with_reducible assumption)
    | (with_reducible exact Area.sub ‹_›)
    | (with_reducible exact Frame.refl)
    | (with_reducible apply Frame.ite)
    | (with_reducible refine Frame.foldl ?_ (fun _ _ _ => ?_))
    | (with_reducible apply frame_setFld)
    | (with_reducible apply frame_homeMove)
    | (fail_if_no_progress extract_lets)
    | intro _
    | (with_reducible split)

theorem frame_execHomingStart {l₀ : List Area} {b₀ : Block} {s t : State} {a : Fin 9} (e₀ : execHomingStart a s = .next t)
    (h₀ : Frame l₀ b₀ s.toBlock)
    (hl : [.regs, .axis] ⊆ l₀ := by first | assumption | exact Area.sub ‹_›) : Frame l₀ b₀ t.toBlock := by
  unfold execHomingStart at e₀
  refine Frame.upd e₀ h₀ (fun _ _ => ?_)
  repeat' first
    | (with_reducible assumption)
    | (with_reducible exact Area.sub ‹_›)
    | (with_reducible exact Frame.refl)
    | (with_reducible apply Frame.ite)
    | (with_reducible refine Frame.foldl ?_ (fun _ _ _ => ?_))
    | (with_reducible apply frame_onAxis)
    | (with_reducible apply frame_homeStart)
    | (fail_if_no_progress extract_lets)
    | intro _
    | (with_reducible split)

theorem frame_execHomeTrip {l₀ : List Area} {b₀ : Block} {s t : State} {a : Fin 9} (e₀ : execHomeTrip a s = .next t)
    (h₀ : Frame l₀ b₀ s.toBlock)
    (hl : [.regs, .axis] ⊆ l₀ := by first | assumption | exact Area.sub ‹_›) : Frame l₀ b₀ t.toBlock := by
  unfold execHomeTrip at e₀
  refine Frame.upd e₀ h₀ (fun _ _ => ?_)
  repeat' first
    | (with_reducible assumption)
    | (with_reducible exact Area.sub ‹_›)
    | (with_reducible exact Frame.refl)
    | (with_reducible apply Frame.ite)
    | (with_reducible refine Frame.foldl ?_ (fun _ _ _ => ?_))
    | (with_reducible apply frame_onAxis)
    | (with_reducible apply frame_modAxis)
    | (with_reducible apply frame_homeFinal)
    | (with_reducible apply frame_setFld)
    | (fail_if_no_progress extract_lets)
    | intro _
    | (with_reducible split)

theorem frame_execHomingDone {l₀ : List Area} {b₀ : Block} {s t : State} {a : Fin 9} (e₀ : execHomingDone a s = .next t)
    (h₀ : Frame l₀ b₀ s.toBlock)
    (hl : [.regs, .irq, .axis, .ml, .out] ⊆ l₀ := by first | assumption | exact Area.sub ‹_›) : Frame l₀ b₀ t.toBlock := by
  unfold execHomingDone at e₀
  refine Frame.upd e₀ h₀ (fun _ _ => ?_)
  repeat' first
    | (with_reducible assumption)
    | (with_reducible exact Area.sub ‹_›)
    | (with_reducible exact Frame.refl)
    | (with_reducible apply Frame.ite)
    | (with_reducible refine Frame.foldl ?_ (fun _ _ _ => ?_))
    | (with_reducible apply frame_onAxis)
    | (with_reducible apply frame_modAxis)
    | (with_reducible apply frame_setFld)
    | (with_reducible apply frame_raiseAxis)
    | (fail_if_no_progress extract_lets)
    | intro _
    | (with_reducible split)

theorem frame_execHomingFail {l₀ : List Area} {b₀ : Block} {s t : State} {a : Fin 9} (e₀ : execHomingFail a s = .next t)
    (h₀ : Frame l₀ b₀ s.toBlock)
    (hl : [.regs, .irq, .axis, .ml, .out] ⊆ l₀ := by first | assumption | exact Area.sub ‹_›) : Frame l₀ b₀ t.toBlock := by
  unfold execHomingFail at e₀
  refine Frame.upd e₀ h₀ (fun _ _ => ?_)
  repeat' first
    | (with_reducible assumption)
    | (with_reducible exact Area.sub ‹_›)
    | (with_reducible exact Frame.refl)
    | (with_reducible apply Frame.ite)
    | (with_reducible refine Frame.foldl ?_ (fun _ _ _ => ?_))
    | (with_reducible apply frame_onAxis)
    | (with_reducible apply frame_endHoming)
    | (with_reducible apply frame_modAxis)
    | (with_reducible apply frame_axFault)
    | (with_reducible apply frame_dropFollow)
    | (with_reducible apply frame_raiseAxis)
    | (fail_if_no_progress extract_lets)
    | intro _
    | (with_reducible split)

theorem frame_execAxisStall {l₀ : List Area} {b₀ : Block} {s t : State} {a : Fin 9} (e₀ : execAxisStall a s = .next t)
    (h₀ : Frame l₀ b₀ s.toBlock)
    (hl : [.regs, .irq, .axis, .ml, .out] ⊆ l₀ := by first | assumption | exact Area.sub ‹_›) : Frame l₀ b₀ t.toBlock := by
  unfold execAxisStall at e₀
  refine Frame.upd e₀ h₀ (fun _ _ => ?_)
  repeat' first
    | (with_reducible assumption)
    | (with_reducible exact Area.sub ‹_›)
    | (with_reducible exact Frame.refl)
    | (with_reducible apply Frame.ite)
    | (with_reducible refine Frame.foldl ?_ (fun _ _ _ => ?_))
    | (with_reducible apply frame_onAxis)
    | (with_reducible apply frame_stallAxis)
    | (fail_if_no_progress extract_lets)
    | intro _
    | (with_reducible split)

theorem frame_execSwitchChatter {l₀ : List Area} {b₀ : Block} {s t : State} {w : Fin 6} (e₀ : execSwitchChatter w s = .next t)
    (h₀ : Frame l₀ b₀ s.toBlock)
    (hl : [.regs, .irq, .axis, .ml, .out] ⊆ l₀ := by first | assumption | exact Area.sub ‹_›) : Frame l₀ b₀ t.toBlock := by
  unfold execSwitchChatter at e₀
  refine Frame.upd e₀ h₀ (fun _ _ => ?_)
  repeat' first
    | (with_reducible assumption)
    | (with_reducible exact Area.sub ‹_›)
    | (with_reducible exact Frame.refl)
    | (with_reducible apply Frame.ite)
    | (with_reducible refine Frame.foldl ?_ (fun _ _ _ => ?_))
    | (with_reducible apply frame_onAxis)
    | (with_reducible apply frame_axFault)
    | (with_reducible apply frame_emergency)
    | (with_reducible apply frame_raiseAxis)
    | (with_reducible apply frame_setFld)
    | (with_reducible apply frame_raise)
    | (fail_if_no_progress extract_lets)
    | intro _
    | (with_reducible split)

theorem frame_execLimitTrip {l₀ : List Area} {b₀ : Block} {s t : State} {a : Fin 9} (e₀ : execLimitTrip a s = .next t)
    (h₀ : Frame l₀ b₀ s.toBlock)
    (hl : [.regs, .irq, .axis, .ml, .out] ⊆ l₀ := by first | assumption | exact Area.sub ‹_›) : Frame l₀ b₀ t.toBlock := by
  unfold execLimitTrip at e₀
  refine Frame.upd e₀ h₀ (fun _ _ => ?_)
  repeat' first
    | (with_reducible assumption)
    | (with_reducible exact Area.sub ‹_›)
    | (with_reducible exact Frame.refl)
    | (with_reducible apply Frame.ite)
    | (with_reducible refine Frame.foldl ?_ (fun _ _ _ => ?_))
    | (with_reducible apply frame_onAxis)
    | (with_reducible apply frame_setFld)
    | (with_reducible apply frame_axFault)
    | (with_reducible apply frame_emergency)
    | (with_reducible apply frame_raiseAxis)
    | (fail_if_no_progress extract_lets)
    | intro _
    | (with_reducible split)

theorem frame_execCoilFault {l₀ : List Area} {b₀ : Block} {s t : State} {a : Fin 9} (e₀ : execCoilFault a s = .next t)
    (h₀ : Frame l₀ b₀ s.toBlock)
    (hl : [.regs, .irq, .axis, .ml, .out] ⊆ l₀ := by first | assumption | exact Area.sub ‹_›) : Frame l₀ b₀ t.toBlock := by
  unfold execCoilFault at e₀
  refine Frame.upd e₀ h₀ (fun _ _ => ?_)
  repeat' first
    | (with_reducible assumption)
    | (with_reducible exact Area.sub ‹_›)
    | (with_reducible exact Frame.refl)
    | (with_reducible apply Frame.ite)
    | (with_reducible refine Frame.foldl ?_ (fun _ _ _ => ?_))
    | (with_reducible apply frame_onAxis)
    | (with_reducible apply frame_axFault)
    | (with_reducible apply frame_emergency)
    | (with_reducible apply frame_raiseAxis)
    | (fail_if_no_progress extract_lets)
    | intro _
    | (with_reducible split)

theorem frame_execDoorClosed {l₀ : List Area} {b₀ : Block} {s t : State} (e₀ : execDoorClosed s = .next t)
    (h₀ : Frame l₀ b₀ s.toBlock)
    (hl : [.regs, .irq, .hq, .ml, .out] ⊆ l₀ := by first | assumption | exact Area.sub ‹_›) : Frame l₀ b₀ t.toBlock := by
  unfold execDoorClosed at e₀
  refine Frame.upd e₀ h₀ (fun _ _ => ?_)
  repeat' first
    | (with_reducible assumption)
    | (with_reducible exact Area.sub ‹_›)
    | (with_reducible exact Frame.refl)
    | (with_reducible apply Frame.ite)
    | (with_reducible refine Frame.foldl ?_ (fun _ _ _ => ?_))
    | (with_reducible apply frame_setFld)
    | (with_reducible apply frame_raise)
    | (with_reducible apply frame_async)
    | (fail_if_no_progress extract_lets)
    | intro _
    | (with_reducible split)

theorem frame_execClampChange {l₀ : List Area} {b₀ : Block} {s t : State} {closed : Bool} (e₀ : execClampChange closed s = .next t)
    (h₀ : Frame l₀ b₀ s.toBlock)
    (hl : [.regs, .irq, .ml, .out] ⊆ l₀ := by first | assumption | exact Area.sub ‹_›) : Frame l₀ b₀ t.toBlock := by
  unfold execClampChange at e₀
  refine Frame.upd e₀ h₀ (fun _ _ => ?_)
  repeat' first
    | (with_reducible assumption)
    | (with_reducible exact Area.sub ‹_›)
    | (with_reducible exact Frame.refl)
    | (with_reducible apply Frame.ite)
    | (with_reducible refine Frame.foldl ?_ (fun _ _ _ => ?_))
    | (with_reducible apply frame_setBit)
    | (with_reducible apply frame_raise)
    | (fail_if_no_progress extract_lets)
    | intro _
    | (with_reducible split)

theorem frame_doorOpen {l₀ : List Area} {b₀ b : Block} (h₀ : Frame l₀ b₀ b)
    (hl : [.regs, .irq, .le, .servo, .spin, .axis, .wp, .hq, .store, .ml, .out] ⊆ l₀ := by first | assumption | exact Area.sub ‹_›) :
    Frame l₀ b₀ (b.doorOpen) := by
  unfold Block.doorOpen
  repeat' first
    | (with_reducible assumption)
    | (with_reducible exact Area.sub ‹_›)
    | (with_reducible exact Frame.refl)
    | (with_reducible apply Frame.ite)
    | (with_reducible refine Frame.foldl ?_ (fun _ _ _ => ?_))
    | (with_reducible apply frame_setFld)
    | (with_reducible apply frame_applyAllHolds)
    | (with_reducible apply frame_raise)
    | (with_reducible apply frame_onSpin)
    | (with_reducible apply frame_spStop)
    | (with_reducible apply frame_axHalt)
    | (fail_if_no_progress extract_lets)
    | intro _
    | (with_reducible split)

/-! ### Machine/LeLoad.lean -/

theorem frame_startLoad {l₀ : List Area} {b₀ b : Block} (h₀ : Frame l₀ b₀ b) (kind : Nat) (index : Nat)
    (hl : [.regs, .le] ⊆ l₀ := by first | assumption | exact Area.sub ‹_›) :
    Frame l₀ b₀ (b.startLoad kind index) := by
  unfold Block.startLoad
  repeat' first
    | (with_reducible assumption)
    | (with_reducible exact Area.sub ‹_›)
    | (with_reducible exact Frame.refl)
    | (with_reducible apply Frame.ite)
    | (with_reducible refine Frame.foldl ?_ (fun _ _ _ => ?_))
    | (with_reducible apply frame_setFld)
    | (with_reducible apply frame_modLe)
    | (fail_if_no_progress extract_lets)
    | intro _
    | (with_reducible split)

theorem frame_execLoadShadowTable {l₀ : List Area} {b₀ : Block} {s t : State} (e₀ : execLoadShadowTable s = .next t)
    (h₀ : Frame l₀ b₀ s.toBlock)
    (hl : [.regs, .le] ⊆ l₀ := by first | assumption | exact Area.sub ‹_›) : Frame l₀ b₀ t.toBlock := by
  unfold execLoadShadowTable at e₀
  refine Frame.upd e₀ h₀ (fun _ _ => ?_)
  repeat' first
    | (with_reducible assumption)
    | (with_reducible exact Area.sub ‹_›)
    | (with_reducible exact Frame.refl)
    | (with_reducible apply Frame.ite)
    | (with_reducible refine Frame.foldl ?_ (fun _ _ _ => ?_))
    | (with_reducible apply frame_startLoad)
    | (fail_if_no_progress extract_lets)
    | intro _
    | (with_reducible split)

theorem frame_execLoadDefaultTable {l₀ : List Area} {b₀ : Block} {s t : State} (e₀ : execLoadDefaultTable s = .next t)
    (h₀ : Frame l₀ b₀ s.toBlock)
    (hl : [.regs, .le] ⊆ l₀ := by first | assumption | exact Area.sub ‹_›) : Frame l₀ b₀ t.toBlock := by
  unfold execLoadDefaultTable at e₀
  refine Frame.upd e₀ h₀ (fun _ _ => ?_)
  repeat' first
    | (with_reducible assumption)
    | (with_reducible exact Area.sub ‹_›)
    | (with_reducible exact Frame.refl)
    | (with_reducible apply Frame.ite)
    | (with_reducible refine Frame.foldl ?_ (fun _ _ _ => ?_))
    | (with_reducible apply frame_startLoad)
    | (fail_if_no_progress extract_lets)
    | intro _
    | (with_reducible split)

theorem frame_execLoadProgram {l₀ : List Area} {b₀ : Block} {s t : State} {index : Fin 256} (e₀ : execLoadProgram index s = .next t)
    (h₀ : Frame l₀ b₀ s.toBlock)
    (hl : [.regs, .le] ⊆ l₀ := by first | assumption | exact Area.sub ‹_›) : Frame l₀ b₀ t.toBlock := by
  unfold execLoadProgram at e₀
  refine Frame.upd e₀ h₀ (fun _ _ => ?_)
  repeat' first
    | (with_reducible assumption)
    | (with_reducible exact Area.sub ‹_›)
    | (with_reducible exact Frame.refl)
    | (with_reducible apply Frame.ite)
    | (with_reducible refine Frame.foldl ?_ (fun _ _ _ => ?_))
    | (with_reducible apply frame_startLoad)
    | (fail_if_no_progress extract_lets)
    | intro _
    | (with_reducible split)

theorem frame_execLoadPatch {l₀ : List Area} {b₀ : Block} {s t : State} (e₀ : execLoadPatch s = .next t)
    (h₀ : Frame l₀ b₀ s.toBlock)
    (hl : [.regs, .le] ⊆ l₀ := by first | assumption | exact Area.sub ‹_›) : Frame l₀ b₀ t.toBlock := by
  unfold execLoadPatch at e₀
  refine Frame.upd e₀ h₀ (fun _ _ => ?_)
  repeat' first
    | (with_reducible assumption)
    | (with_reducible exact Area.sub ‹_›)
    | (with_reducible exact Frame.refl)
    | (with_reducible apply Frame.ite)
    | (with_reducible refine Frame.foldl ?_ (fun _ _ _ => ?_))
    | (with_reducible apply frame_startLoad)
    | (fail_if_no_progress extract_lets)
    | intro _
    | (with_reducible split)

theorem frame_finishLoad {l₀ : List Area} {b₀ b : Block} (h₀ : Frame l₀ b₀ b) (l : LeLoad)
    (hl : [.regs, .le] ⊆ l₀ := by first | assumption | exact Area.sub ‹_›) :
    Frame l₀ b₀ (b.finishLoad l) := by
  unfold Block.finishLoad
  repeat' first
    | (with_reducible assumption)
    | (with_reducible exact Area.sub ‹_›)
    | (with_reducible exact Frame.refl)
    | (with_reducible apply Frame.ite)
    | (with_reducible refine Frame.foldl ?_ (fun _ _ _ => ?_))
    | (with_reducible apply frame_modLe)
    | (with_reducible apply frame_setFld)
    | (fail_if_no_progress extract_lets)
    | intro _
    | (with_reducible split)

theorem frame_execLoadComplete {l₀ : List Area} {b₀ : Block} {s t : State} (e₀ : execLoadComplete s = .next t)
    (h₀ : Frame l₀ b₀ s.toBlock)
    (hl : [.regs, .irq, .le, .ml, .out] ⊆ l₀ := by first | assumption | exact Area.sub ‹_›) : Frame l₀ b₀ t.toBlock := by
  unfold execLoadComplete at e₀
  refine Frame.upd e₀ h₀ (fun _ _ => ?_)
  repeat' first
    | (with_reducible assumption)
    | (with_reducible exact Area.sub ‹_›)
    | (with_reducible exact Frame.refl)
    | (with_reducible apply Frame.ite)
    | (with_reducible refine Frame.foldl ?_ (fun _ _ _ => ?_))
    | (with_reducible apply frame_modLe)
    | (with_reducible apply frame_setFld)
    | (with_reducible apply frame_setBit)
    | (with_reducible apply frame_finishLoad)
    | (with_reducible apply frame_raise)
    | (fail_if_no_progress extract_lets)
    | intro _
    | (with_reducible split)

theorem frame_execPatchActivation {l₀ : List Area} {b₀ : Block} {s t : State} (e₀ : execPatchActivation s = .next t)
    (h₀ : Frame l₀ b₀ s.toBlock)
    (hl : [.regs, .le] ⊆ l₀ := by first | assumption | exact Area.sub ‹_›) : Frame l₀ b₀ t.toBlock := by
  unfold execPatchActivation at e₀
  refine Frame.upd e₀ h₀ (fun _ _ => ?_)
  repeat' first
    | (with_reducible assumption)
    | (with_reducible exact Area.sub ‹_›)
    | (with_reducible exact Frame.refl)
    | (with_reducible apply Frame.ite)
    | (with_reducible refine Frame.foldl ?_ (fun _ _ _ => ?_))
    | (with_reducible apply frame_setFld)
    | (with_reducible apply frame_wr)
    | (with_reducible apply frame_modLe)
    | (fail_if_no_progress extract_lets)
    | intro _
    | (with_reducible split)

theorem frame_execLiveSlotWrite {l₀ : List Area} {b₀ : Block} {s t : State} {k : Fin 48} {second : Bool} {v : Word} (e₀ : execLiveSlotWrite k second v s = .next t)
    (h₀ : Frame l₀ b₀ s.toBlock)
    (hl : [.regs, .le] ⊆ l₀ := by first | assumption | exact Area.sub ‹_›) : Frame l₀ b₀ t.toBlock := by
  unfold execLiveSlotWrite at e₀
  refine Frame.upd e₀ h₀ (fun _ _ => ?_)
  repeat' first
    | (with_reducible assumption)
    | (with_reducible exact Area.sub ‹_›)
    | (with_reducible exact Frame.refl)
    | (with_reducible apply Frame.ite)
    | (with_reducible refine Frame.foldl ?_ (fun _ _ _ => ?_))
    | (with_reducible apply frame_wr)
    | (with_reducible apply frame_modLe)
    | (fail_if_no_progress extract_lets)
    | intro _
    | (with_reducible split)

theorem frame_leMemWrite {l₀ : List Area} {b₀ b : Block} (h₀ : Frame l₀ b₀ b) (o : Nat) (v : Word)
    (hl : [.regs, .le] ⊆ l₀ := by first | assumption | exact Area.sub ‹_›) :
    Frame l₀ b₀ (b.leMemWrite o v) := by
  unfold Block.leMemWrite
  repeat' first
    | (with_reducible assumption)
    | (with_reducible exact Area.sub ‹_›)
    | (with_reducible exact Frame.refl)
    | (with_reducible apply Frame.ite)
    | (with_reducible refine Frame.foldl ?_ (fun _ _ _ => ?_))
    | (with_reducible apply frame_run)
    | (with_reducible apply frame_applyHeld)
    | (with_reducible apply frame_modLe)
    | (fail_if_no_progress extract_lets)
    | intro _
    | (with_reducible split)

theorem frame_execLeMemoryWrite {l₀ : List Area} {b₀ : Block} {s t : State} {o : BitVec 22} {v : Word} (e₀ : execLeMemoryWrite o v s = .next t)
    (h₀ : Frame l₀ b₀ s.toBlock)
    (hl : [.regs, .le] ⊆ l₀ := by first | assumption | exact Area.sub ‹_›) : Frame l₀ b₀ t.toBlock := by
  unfold execLeMemoryWrite at e₀
  refine Frame.upd e₀ h₀ (fun _ _ => ?_)
  repeat' first
    | (with_reducible assumption)
    | (with_reducible exact Area.sub ‹_›)
    | (with_reducible exact Frame.refl)
    | (with_reducible apply Frame.ite)
    | (with_reducible refine Frame.foldl ?_ (fun _ _ _ => ?_))
    | (with_reducible apply frame_leMemWrite)
    | (fail_if_no_progress extract_lets)
    | intro _
    | (with_reducible split)

theorem frame_execCoefSwap {l₀ : List Area} {b₀ : Block} {s t : State} (e₀ : execCoefSwap s = .next t)
    (h₀ : Frame l₀ b₀ s.toBlock)
    (hl : [.le] ⊆ l₀ := by first | assumption | exact Area.sub ‹_›) : Frame l₀ b₀ t.toBlock := by
  unfold execCoefSwap at e₀
  refine Frame.upd e₀ h₀ (fun _ _ => ?_)
  repeat' first
    | (with_reducible assumption)
    | (with_reducible exact Area.sub ‹_›)
    | (with_reducible exact Frame.refl)
    | (with_reducible apply Frame.ite)
    | (with_reducible refine Frame.foldl ?_ (fun _ _ _ => ?_))
    | (with_reducible apply frame_modLe)
    | (fail_if_no_progress extract_lets)
    | intro _
    | (with_reducible split)

theorem frame_execCoefSet {l₀ : List Area} {b₀ : Block} {s t : State} {set : BitVec 6} (e₀ : execCoefSet set s = .next t)
    (h₀ : Frame l₀ b₀ s.toBlock)
    (hl : [.regs] ⊆ l₀ := by first | assumption | exact Area.sub ‹_›) : Frame l₀ b₀ t.toBlock := by
  unfold execCoefSet at e₀
  refine Frame.upd e₀ h₀ (fun _ _ => ?_)
  repeat' first
    | (with_reducible assumption)
    | (with_reducible exact Area.sub ‹_›)
    | (with_reducible exact Frame.refl)
    | (with_reducible apply Frame.ite)
    | (with_reducible refine Frame.foldl ?_ (fun _ _ _ => ?_))
    | (with_reducible apply frame_setFld)
    | (fail_if_no_progress extract_lets)
    | intro _
    | (with_reducible split)

theorem frame_execMatchDisable {l₀ : List Area} {b₀ : Block} {s t : State} {k : Fin 16} (e₀ : execMatchDisable k s = .next t)
    (h₀ : Frame l₀ b₀ s.toBlock)
    (hl : [.regs] ⊆ l₀ := by first | assumption | exact Area.sub ‹_›) : Frame l₀ b₀ t.toBlock := by
  unfold execMatchDisable at e₀
  refine Frame.upd e₀ h₀ (fun _ _ => ?_)
  repeat' first
    | (with_reducible assumption)
    | (with_reducible exact Area.sub ‹_›)
    | (with_reducible exact Frame.refl)
    | (with_reducible apply Frame.ite)
    | (with_reducible refine Frame.foldl ?_ (fun _ _ _ => ?_))
    | (with_reducible apply frame_setFld)
    | (fail_if_no_progress extract_lets)
    | intro _
    | (with_reducible split)

end Sys2Proof.Machine
end

