-- ==== Sys2Proof/Laws/FrameStore.lean ====
section
/-!
SUPPORT. What memory, staging, calibration and the clip store leave unchanged, one lemma for each operation and each command.
-/

set_option Elab.async false
set_option linter.unreachableTactic false
set_option linter.unusedTactic false

namespace Sys2Proof.Machine

/-! ### Machine/DramOps.lean -/

theorem frame_strike {l₀ : List Area} {b₀ b : Block} (h₀ : Frame l₀ b₀ b) (w n : Nat)
    (hl : [.dram] ⊆ l₀ := by first | assumption | exact Area.sub ‹_›) : Frame l₀ b₀ (b.strike w n) := by
  unfold Block.strike
  exact frame_modDram h₀ _

theorem frame_putWordAddr {l₀ : List Area} {b₀ b : Block} (h₀ : Frame l₀ b₀ b) (lo : Fld) (hi : Fld) (w : Nat)
    (hl : [.regs] ⊆ l₀ := by first | assumption | exact Area.sub ‹_›) :
    Frame l₀ b₀ (b.putWordAddr lo hi w) := by
  unfold Block.putWordAddr
  repeat' first
    | (with_reducible assumption)
    | (with_reducible exact Area.sub ‹_›)
    | (with_reducible exact Frame.refl)
    | (with_reducible apply Frame.ite)
    | (with_reducible refine Frame.foldl ?_ (fun _ _ _ => ?_))
    | (with_reducible apply frame_setFld)
    | (fail_if_no_progress extract_lets)
    | intro _
    | (with_reducible split)

theorem frame_corrected {l₀ : List Area} {b₀ b : Block} (h₀ : Frame l₀ b₀ b) (w : Nat) (sym : Nat)
    (hl : [.regs, .irq, .ml, .out] ⊆ l₀ := by first | assumption | exact Area.sub ‹_›) :
    Frame l₀ b₀ (b.corrected w sym) := by
  unfold Block.corrected
  repeat' first
    | (with_reducible assumption)
    | (with_reducible exact Area.sub ‹_›)
    | (with_reducible exact Frame.refl)
    | (with_reducible apply Frame.ite)
    | (with_reducible refine Frame.foldl ?_ (fun _ _ _ => ?_))
    | (with_reducible apply frame_bump)
    | (with_reducible apply frame_putWordAddr)
    | (with_reducible apply frame_setFld)
    | (with_reducible apply frame_raise)
    | (fail_if_no_progress extract_lets)
    | intro _
    | (with_reducible split)

theorem frame_ueRecord {l₀ : List Area} {b₀ b : Block} (h₀ : Frame l₀ b₀ b) (w : Nat) (req : Nat) (scrub : Bool) (poison : Bool)
    (hl : [.regs] ⊆ l₀ := by first | assumption | exact Area.sub ‹_›) :
    Frame l₀ b₀ (b.ueRecord w req scrub poison) := by
  unfold Block.ueRecord
  repeat' first
    | (with_reducible assumption)
    | (with_reducible exact Area.sub ‹_›)
    | (with_reducible exact Frame.refl)
    | (with_reducible apply Frame.ite)
    | (with_reducible refine Frame.foldl ?_ (fun _ _ _ => ?_))
    | (with_reducible apply frame_putWordAddr)
    | (with_reducible apply frame_setBit)
    | (with_reducible apply frame_setFld)
    | (with_reducible apply frame_bump)
    | (fail_if_no_progress extract_lets)
    | intro _
    | (with_reducible split)

theorem frame_flushEntry {l₀ : List Area} {b₀ b : Block} (h₀ : Frame l₀ b₀ b) (e : MergeEntry)
    (hl : [.regs, .irq, .dram, .ml, .out] ⊆ l₀ := by first | assumption | exact Area.sub ‹_›) :
    Frame l₀ b₀ (b.flushEntry e) := by
  unfold Block.flushEntry
  repeat' first
    | (with_reducible assumption)
    | (with_reducible exact Area.sub ‹_›)
    | (with_reducible exact Frame.refl)
    | (with_reducible apply Frame.ite)
    | (with_reducible refine Frame.foldl ?_ (fun _ _ _ => ?_))
    | (with_reducible apply frame_modDram)
    | (with_reducible apply frame_corrected)
    | (with_reducible apply frame_ueRecord)
    | (with_reducible apply frame_raise)
    | (fail_if_no_progress extract_lets)
    | intro _
    | (with_reducible split)

theorem frame_flushWord {l₀ : List Area} {b₀ b : Block} (h₀ : Frame l₀ b₀ b) (w : Nat)
    (hl : [.regs, .irq, .dram, .ml, .out] ⊆ l₀ := by first | assumption | exact Area.sub ‹_›) :
    Frame l₀ b₀ (b.flushWord w) := by
  unfold Block.flushWord
  repeat' first
    | (with_reducible assumption)
    | (with_reducible exact Area.sub ‹_›)
    | (with_reducible exact Frame.refl)
    | (with_reducible apply Frame.ite)
    | (with_reducible refine Frame.foldl ?_ (fun _ _ _ => ?_))
    | (with_reducible apply frame_flushEntry)
    | (fail_if_no_progress extract_lets)
    | intro _
    | (with_reducible split)

theorem frame_mergeRoom {l₀ : List Area} {b₀ b : Block} (h₀ : Frame l₀ b₀ b)
    (hl : [.regs, .irq, .dram, .ml, .out] ⊆ l₀ := by first | assumption | exact Area.sub ‹_›) :
    Frame l₀ b₀ (b.mergeRoom) := by
  unfold Block.mergeRoom
  repeat' first
    | (with_reducible assumption)
    | (with_reducible exact Area.sub ‹_›)
    | (with_reducible exact Frame.refl)
    | (with_reducible apply Frame.ite)
    | (with_reducible refine Frame.foldl ?_ (fun _ _ _ => ?_))
    | (with_reducible apply frame_flushEntry)
    | (fail_if_no_progress extract_lets)
    | intro _
    | (with_reducible split)

theorem frame_mergeWrite {l₀ : List Area} {b₀ b : Block} (h₀ : Frame l₀ b₀ b) (a : Nat) (bytes : List Byte)
    (hl : [.regs, .irq, .dram, .ml, .out] ⊆ l₀ := by first | assumption | exact Area.sub ‹_›) :
    Frame l₀ b₀ (b.mergeWrite a bytes) := by
  unfold Block.mergeWrite
  repeat' first
    | (with_reducible assumption)
    | (with_reducible exact Area.sub ‹_›)
    | (with_reducible exact Frame.refl)
    | (with_reducible apply Frame.ite)
    | (with_reducible refine Frame.foldl ?_ (fun _ _ _ => ?_))
    | (with_reducible apply frame_modDram)
    | (with_reducible apply frame_mergeRoom)
    | (fail_if_no_progress extract_lets)
    | intro _
    | (with_reducible split)

theorem frame_mergeFull {l₀ : List Area} {b₀ b : Block} (h₀ : Frame l₀ b₀ b) (w : Nat)
    (hl : [.regs, .irq, .dram, .ml, .out] ⊆ l₀ := by first | assumption | exact Area.sub ‹_›) :
    Frame l₀ b₀ (b.mergeFull w) := by
  unfold Block.mergeFull
  repeat' first
    | (with_reducible assumption)
    | (with_reducible exact Area.sub ‹_›)
    | (with_reducible exact Frame.refl)
    | (with_reducible apply Frame.ite)
    | (with_reducible refine Frame.foldl ?_ (fun _ _ _ => ?_))
    | (with_reducible apply frame_flushEntry)
    | (fail_if_no_progress extract_lets)
    | intro _
    | (with_reducible split)

theorem frame_writeWord {l₀ : List Area} {b₀ b : Block} (h₀ : Frame l₀ b₀ b) (a : Nat) (bytes : List Byte)
    (hl : [.regs, .irq, .dram, .ml, .out] ⊆ l₀ := by first | assumption | exact Area.sub ‹_›) :
    Frame l₀ b₀ (b.writeWord a bytes) := by
  unfold Block.writeWord
  extract_lets w b1 b2
  have h1 : Frame l₀ b₀ b1 := frame_modDram h₀ _
  have h2 : Frame l₀ b₀ b2 := frame_mergeWrite h1 _ _
  split
  · exact frame_modDram h1 _
  · exact frame_mergeFull (frame_setFld h2 _ _) _

theorem frame_dramWriteN {l₀ : List Area} {b₀ : Block} (n : Nat)
    (hl : [.regs, .irq, .dram, .ml, .out] ⊆ l₀ := by first | assumption | exact Area.sub ‹_›) :
    ∀ {b : Block}, Frame l₀ b₀ b → ∀ (a : Nat) (bytes : List Byte), Frame l₀ b₀ (b.dramWriteN n a bytes) := by
  induction n with
  | zero => exact fun h _ _ => h
  | succ n ih =>
    intro b h a bytes
    unfold Block.dramWriteN
    split
    · exact h
    · exact ih (frame_writeWord h _ _) _ _

theorem frame_dramWrite {l₀ : List Area} {b₀ b : Block} (h₀ : Frame l₀ b₀ b) (a : Nat) (bytes : List Byte)
    (hl : [.regs, .irq, .dram, .ml, .out] ⊆ l₀ := by first | assumption | exact Area.sub ‹_›) :
    Frame l₀ b₀ (b.dramWrite a bytes) := by
  unfold Block.dramWrite
  repeat' first
    | (with_reducible assumption)
    | (with_reducible exact Area.sub ‹_›)
    | (with_reducible exact Frame.refl)
    | (with_reducible apply Frame.ite)
    | (with_reducible refine Frame.foldl ?_ (fun _ _ _ => ?_))
    | (with_reducible apply frame_dramWriteN)
    | (fail_if_no_progress extract_lets)
    | intro _
    | (with_reducible split)

theorem frame_readWord {l₀ : List Area} {b₀ b : Block} (h₀ : Frame l₀ b₀ b) (req : Requester) (w : Nat)
    (hl : [.regs, .irq, .ml, .out] ⊆ l₀ := by first | assumption | exact Area.sub ‹_›) :
    Frame l₀ b₀ (b.readWord req w).2 := by
  unfold Block.readWord
  dsimp only
  split
  · exact h₀
  · split
    · exact h₀
    · split
      · refine Frame.pair rfl ?_
        exact frame_corrected h₀ _ _
      · refine Frame.pair rfl ?_
        exact frame_raise (frame_ueRecord h₀ _ _ _ _) _

theorem frame_dramRead {l₀ : List Area} {b₀ b : Block} (h₀ : Frame l₀ b₀ b) (req : Requester) (a n : Nat)
    (hl : [.regs, .irq, .ml, .out] ⊆ l₀ := by first | assumption | exact Area.sub ‹_›) :
    Frame l₀ b₀ (b.dramRead req a n).2.2 := by
  unfold Block.dramRead
  dsimp only
  generalize (if n = 0 then [] else (List.range ((a + n - 1) / 64 - a / 64 + 1)).map (a / 64 + ·)) = ws
  suffices h : ∀ r : Bool × Block, Frame l₀ b₀ r.2 →
      Frame l₀ b₀ (ws.foldl (fun r w => (r.1 || (r.2.readWord req w).1, (r.2.readWord req w).2)) r).2 from h _ h₀
  induction ws with
  | nil => exact fun _ h => h
  | cons w t ih => exact fun r h => ih _ (frame_readWord h _ _)

theorem frame_scrubWord {l₀ : List Area} {b₀ b : Block} (h₀ : Frame l₀ b₀ b)
    (hl : [.regs, .irq, .dram, .ml, .out] ⊆ l₀ := by first | assumption | exact Area.sub ‹_›) : Frame l₀ b₀ b.scrubWord := by
  unfold Block.scrubWord
  extract_lets w b1 f b2
  have h1 : Frame l₀ b₀ b1 := frame_flushWord h₀ _
  have h2 : Frame l₀ b₀ b2 := by
    unfold b2
    split
    · exact h1
    · split
      · exact frame_modDram (frame_corrected h1 _ _) _
      · exact frame_raise (frame_ueRecord h1 _ _ _ _) _
  clear_value b2
  split
  · exact frame_raise (frame_bump (frame_setFld h2 _ _) _ _) _
  · exact frame_setFld h2 _ _

theorem frame_scrubTick {l₀ : List Area} {b₀ b : Block} (h₀ : Frame l₀ b₀ b)
    (hl : [.regs, .irq, .dram, .ml, .out] ⊆ l₀ := by first | assumption | exact Area.sub ‹_›) :
    Frame l₀ b₀ (b.scrubTick) := by
  unfold Block.scrubTick
  repeat' first
    | (with_reducible assumption)
    | (with_reducible exact Area.sub ‹_›)
    | (with_reducible exact Frame.refl)
    | (with_reducible apply Frame.ite)
    | (with_reducible refine Frame.foldl ?_ (fun _ _ _ => ?_))
    | (with_reducible apply frame_scrubWord)
    | (fail_if_no_progress extract_lets)
    | intro _
    | (with_reducible split)

theorem frame_dramTick {l₀ : List Area} {b₀ b : Block} (h₀ : Frame l₀ b₀ b)
    (hl : [.regs, .dram] ⊆ l₀ := by first | assumption | exact Area.sub ‹_›) :
    Frame l₀ b₀ (b.dramTick) := by
  unfold Block.dramTick
  repeat' first
    | (with_reducible assumption)
    | (with_reducible exact Area.sub ‹_›)
    | (with_reducible exact Frame.refl)
    | (with_reducible apply Frame.ite)
    | (with_reducible refine Frame.foldl ?_ (fun _ _ _ => ?_))
    | (with_reducible apply frame_modDram)
    | (with_reducible apply frame_wr)
    | (fail_if_no_progress extract_lets)
    | intro _
    | (with_reducible split)

/-! ### Machine/IrqCmds.lean -/

theorem frame_execClaim {l₀ : List Area} {b₀ : Block} {s t : State} {m : Master} {t' : Fin 5} (e₀ : execClaim m t' s = .next t)
    (h₀ : Frame l₀ b₀ s.toBlock)
    (hl : [.regs, .rdata, .irq, .out] ⊆ l₀ := by first | assumption | exact Area.sub ‹_›) : Frame l₀ b₀ t.toBlock := by
  unfold execClaim at e₀
  refine Frame.upd e₀ h₀ (fun _ _ => ?_)
  repeat' first
    | (with_reducible assumption)
    | (with_reducible exact Area.sub ‹_›)
    | (with_reducible exact Frame.refl)
    | (with_reducible apply Frame.ite)
    | (with_reducible refine Frame.foldl ?_ (fun _ _ _ => ?_))
    | (with_reducible apply frame_answer)
    | (with_reducible apply frame_modIrq)
    | (with_reducible apply frame_modIrq)
    | (with_reducible apply frame_clearPend)
    | (fail_if_no_progress extract_lets)
    | intro _
    | (with_reducible split)

theorem frame_execEoi {l₀ : List Area} {b₀ : Block} {s t : State} {t' : Fin 5} {n : BitVec 11} (e₀ : execEoi t' n s = .next t)
    (h₀ : Frame l₀ b₀ s.toBlock)
    (hl : [.regs, .irq] ⊆ l₀ := by first | assumption | exact Area.sub ‹_›) : Frame l₀ b₀ t.toBlock := by
  unfold execEoi at e₀
  refine Frame.upd e₀ h₀ (fun _ _ => ?_)
  repeat' first
    | (with_reducible assumption)
    | (with_reducible exact Area.sub ‹_›)
    | (with_reducible exact Frame.refl)
    | (with_reducible apply Frame.ite)
    | (with_reducible refine Frame.foldl ?_ (fun _ _ _ => ?_))
    | (with_reducible apply frame_modIrq)
    | (with_reducible apply frame_modIrq)
    | (with_reducible apply frame_bump)
    | (fail_if_no_progress extract_lets)
    | intro _
    | (with_reducible split)

theorem frame_execHostEoi {l₀ : List Area} {b₀ : Block} {s t : State} {v : Fin 128} (e₀ : execHostEoi v s = .next t)
    (h₀ : Frame l₀ b₀ s.toBlock)
    (hl : [.regs, .irq, .out] ⊆ l₀ := by first | assumption | exact Area.sub ‹_›) : Frame l₀ b₀ t.toBlock := by
  unfold execHostEoi at e₀
  refine Frame.upd e₀ h₀ (fun _ _ => ?_)
  repeat' first
    | (with_reducible assumption)
    | (with_reducible exact Area.sub ‹_›)
    | (with_reducible exact Frame.refl)
    | (with_reducible apply Frame.ite)
    | (with_reducible refine Frame.foldl ?_ (fun _ _ _ => ?_))
    | (with_reducible apply frame_modIrq)
    | (with_reducible apply frame_modIrq)
    | (with_reducible apply frame_tryVec)
    | (fail_if_no_progress extract_lets)
    | intro _
    | (with_reducible split)

theorem frame_execForceRaise {l₀ : List Area} {b₀ : Block} {s t : State} {n : BitVec 11} (e₀ : execForceRaise n s = .next t)
    (h₀ : Frame l₀ b₀ s.toBlock)
    (hl : [.regs, .irq, .ml, .out] ⊆ l₀ := by first | assumption | exact Area.sub ‹_›) : Frame l₀ b₀ t.toBlock := by
  unfold execForceRaise at e₀
  refine Frame.upd e₀ h₀ (fun _ _ => ?_)
  repeat' first
    | (with_reducible assumption)
    | (with_reducible exact Area.sub ‹_›)
    | (with_reducible exact Frame.refl)
    | (with_reducible apply Frame.ite)
    | (with_reducible refine Frame.foldl ?_ (fun _ _ _ => ?_))
    | (with_reducible apply frame_raise)
    | (fail_if_no_progress extract_lets)
    | intro _
    | (with_reducible split)

theorem frame_releasePeer {l₀ : List Area} {b₀ b : Block} (h₀ : Frame l₀ b₀ b)
    (hl : [.regs, .irq, .ml, .out] ⊆ l₀ := by first | assumption | exact Area.sub ‹_›) :
    Frame l₀ b₀ (b.releasePeer) := by
  unfold Block.releasePeer
  repeat' first
    | (with_reducible assumption)
    | (with_reducible exact Area.sub ‹_›)
    | (with_reducible exact Frame.refl)
    | (with_reducible apply Frame.ite)
    | (with_reducible refine Frame.foldl ?_ (fun _ _ _ => ?_))
    | (with_reducible apply frame_modIrq)
    | (with_reducible apply frame_modIrq)
    | (with_reducible apply frame_forward)
    | (fail_if_no_progress extract_lets)
    | intro _
    | (with_reducible split)

theorem frame_execTargetDisable {l₀ : List Area} {b₀ : Block} {s t : State} {dis : BitVec 7} (e₀ : execTargetDisable dis s = .next t)
    (h₀ : Frame l₀ b₀ s.toBlock)
    (hl : [.regs, .irq, .ml, .out] ⊆ l₀ := by first | assumption | exact Area.sub ‹_›) : Frame l₀ b₀ t.toBlock := by
  unfold execTargetDisable at e₀
  refine Frame.upd e₀ h₀ (fun _ _ => ?_)
  repeat' first
    | (with_reducible assumption)
    | (with_reducible exact Area.sub ‹_›)
    | (with_reducible exact Frame.refl)
    | (with_reducible apply Frame.ite)
    | (with_reducible refine Frame.foldl ?_ (fun _ _ _ => ?_))
    | (with_reducible apply frame_setFld)
    | (with_reducible apply frame_settle)
    | (with_reducible apply frame_releasePeer)
    | (fail_if_no_progress extract_lets)
    | intro _
    | (with_reducible split)

theorem frame_execHoldoffExpiry {l₀ : List Area} {b₀ : Block} {s t : State} {host : Bool} {i : Fin 128} (e₀ : execHoldoffExpiry host i s = .next t)
    (h₀ : Frame l₀ b₀ s.toBlock)
    (hl : [.regs, .irq, .out] ⊆ l₀ := by first | assumption | exact Area.sub ‹_›) : Frame l₀ b₀ t.toBlock := by
  unfold execHoldoffExpiry at e₀
  refine Frame.upd e₀ h₀ (fun _ _ => ?_)
  repeat' first
    | (with_reducible assumption)
    | (with_reducible exact Area.sub ‹_›)
    | (with_reducible exact Frame.refl)
    | (with_reducible apply Frame.ite)
    | (with_reducible refine Frame.foldl ?_ (fun _ _ _ => ?_))
    | (with_reducible apply frame_modVec)
    | (with_reducible apply frame_tryVec)
    | (with_reducible apply frame_modCore)
    | (fail_if_no_progress extract_lets)
    | intro _
    | (with_reducible split)

theorem frame_execPeerFifoRead {l₀ : List Area} {b₀ : Block} {s t : State} {m : Master} (e₀ : execPeerFifoRead m s = .next t)
    (h₀ : Frame l₀ b₀ s.toBlock)
    (hl : [.rdata, .irq] ⊆ l₀ := by first | assumption | exact Area.sub ‹_›) : Frame l₀ b₀ t.toBlock := by
  unfold execPeerFifoRead at e₀
  refine Frame.upd e₀ h₀ (fun _ _ => ?_)
  repeat' first
    | (with_reducible assumption)
    | (with_reducible exact Area.sub ‹_›)
    | (with_reducible exact Frame.refl)
    | (with_reducible apply Frame.ite)
    | (with_reducible refine Frame.foldl ?_ (fun _ _ _ => ?_))
    | (with_reducible apply frame_modIrq)
    | (with_reducible apply frame_modIrq)
    | (with_reducible apply frame_answer)
    | (fail_if_no_progress extract_lets)
    | intro _
    | (with_reducible split)

theorem frame_execMsixUnmask {l₀ : List Area} {b₀ : Block} {s t : State} {v : Fin 128} (e₀ : execMsixUnmask v s = .next t)
    (h₀ : Frame l₀ b₀ s.toBlock)
    (hl : [.regs, .irq, .out] ⊆ l₀ := by first | assumption | exact Area.sub ‹_›) : Frame l₀ b₀ t.toBlock := by
  unfold execMsixUnmask at e₀
  refine Frame.upd e₀ h₀ (fun _ _ => ?_)
  repeat' first
    | (with_reducible assumption)
    | (with_reducible exact Area.sub ‹_›)
    | (with_reducible exact Frame.refl)
    | (with_reducible apply Frame.ite)
    | (with_reducible refine Frame.foldl ?_ (fun _ _ _ => ?_))
    | (with_reducible apply frame_wr)
    | (with_reducible apply frame_tryVec)
    | (fail_if_no_progress extract_lets)
    | intro _
    | (with_reducible split)

/-! ### Machine/Peat.lean -/

theorem frame_modPtBlock {l₀ : List Area} {b₀ b : Block} (h₀ : Frame l₀ b₀ b) (key : Nat) (f : PtBlock → PtBlock)
    (hl : [.pt] ⊆ l₀ := by first | assumption | exact Area.sub ‹_›) :
    Frame l₀ b₀ (b.modPtBlock key f) := by
  unfold Block.modPtBlock
  repeat' first
    | (with_reducible assumption)
    | (with_reducible exact Area.sub ‹_›)
    | (with_reducible exact Frame.refl)
    | (with_reducible apply Frame.ite)
    | (with_reducible refine Frame.foldl ?_ (fun _ _ _ => ?_))
    | (with_reducible apply frame_modPt)
    | (fail_if_no_progress extract_lets)
    | intro _
    | (with_reducible split)

theorem frame_ptPost {l₀ : List Area} {b₀ b : Block} (h₀ : Frame l₀ b₀ b) (d : PtDesc) (status : Nat) (detail : Nat) (errcnt : Nat) (flags : Nat) (rrl : Nat) (info : Nat)
    (hl : [.regs, .irq, .dram, .ml, .out] ⊆ l₀ := by first | assumption | exact Area.sub ‹_›) :
    Frame l₀ b₀ (b.ptPost d status detail errcnt flags rrl info) := by
  unfold Block.ptPost
  repeat' first
    | (with_reducible assumption)
    | (with_reducible exact Area.sub ‹_›)
    | (with_reducible exact Frame.refl)
    | (with_reducible apply Frame.ite)
    | (with_reducible refine Frame.foldl ?_ (fun _ _ _ => ?_))
    | (with_reducible apply frame_dramWrite)
    | (with_reducible apply frame_setFld)
    | (with_reducible apply frame_raise)
    | (fail_if_no_progress extract_lets)
    | intro _
    | (with_reducible split)

theorem frame_ptEnd {l₀ : List Area} {b₀ b : Block} (h₀ : Frame l₀ b₀ b) (d : PtDesc) (status : Nat) (detail : Nat) (info : Nat)
    (hl : [.regs, .irq, .dram, .ml, .out] ⊆ l₀ := by first | assumption | exact Area.sub ‹_›) :
    Frame l₀ b₀ (b.ptEnd d status detail info) := by
  unfold Block.ptEnd
  repeat' first
    | (with_reducible assumption)
    | (with_reducible exact Area.sub ‹_›)
    | (with_reducible exact Frame.refl)
    | (with_reducible apply Frame.ite)
    | (with_reducible refine Frame.foldl ?_ (fun _ _ _ => ?_))
    | (with_reducible apply frame_ptPost)
    | (fail_if_no_progress extract_lets)
    | intro _
    | (with_reducible split)

theorem frame_ptJrnlFree {l₀ : List Area} {b₀ b : Block} (h₀ : Frame l₀ b₀ b)
    (hl : [.regs, .irq, .ml, .out] ⊆ l₀ := by first | assumption | exact Area.sub ‹_›) :
    Frame l₀ b₀ (b.ptJrnlFree) := by
  unfold Block.ptJrnlFree
  repeat' first
    | (with_reducible assumption)
    | (with_reducible exact Area.sub ‹_›)
    | (with_reducible exact Frame.refl)
    | (with_reducible apply Frame.ite)
    | (with_reducible refine Frame.foldl ?_ (fun _ _ _ => ?_))
    | (with_reducible apply frame_setFld)
    | (with_reducible apply frame_raise)
    | (with_reducible apply frame_setBit)
    | (fail_if_no_progress extract_lets)
    | intro _
    | (with_reducible split)

theorem frame_ptRecDone {l₀ : List Area} {b₀ b : Block} (h₀ : Frame l₀ b₀ b) (jseq : Nat)
    (hl : [.regs, .irq, .pt, .ml, .out] ⊆ l₀ := by first | assumption | exact Area.sub ‹_›) :
    Frame l₀ b₀ (b.ptRecDone jseq) := by
  unfold Block.ptRecDone
  repeat' first
    | (with_reducible assumption)
    | (with_reducible exact Area.sub ‹_›)
    | (with_reducible exact Frame.refl)
    | (with_reducible apply Frame.ite)
    | (with_reducible refine Frame.foldl ?_ (fun _ _ _ => ?_))
    | (with_reducible apply frame_modPt)
    | (with_reducible apply frame_setFld)
    | (with_reducible apply frame_ptJrnlFree)
    | (fail_if_no_progress extract_lets)
    | intro _
    | (with_reducible split)

theorem frame_ptOwn {l₀ : List Area} {b₀ b : Block} (h₀ : Frame l₀ b₀ b) (jtype : Nat) (key : Nat) (code : Nat) (more : List (Nat × Nat × Nat))
    (hl : [.regs, .irq, .pt, .ml, .out] ⊆ l₀ := by first | assumption | exact Area.sub ‹_›) :
    Frame l₀ b₀ (b.ptOwn jtype key code more) := by
  unfold Block.ptOwn
  repeat' first
    | (with_reducible assumption)
    | (with_reducible exact Area.sub ‹_›)
    | (with_reducible exact Frame.refl)
    | (with_reducible apply Frame.ite)
    | (with_reducible refine Frame.foldl ?_ (fun _ _ _ => ?_))
    | (with_reducible apply frame_modPt)
    | (with_reducible apply frame_ptRecDone)
    | (fail_if_no_progress extract_lets)
    | intro _
    | (with_reducible split)

theorem frame_ptHealth {l₀ : List Area} {b₀ b : Block} (h₀ : Frame l₀ b₀ b)
    (hl : [.regs, .irq, .hq, .ml, .out] ⊆ l₀ := by first | assumption | exact Area.sub ‹_›) :
    Frame l₀ b₀ (b.ptHealth) := by
  unfold Block.ptHealth
  repeat' first
    | (with_reducible assumption)
    | (with_reducible exact Area.sub ‹_›)
    | (with_reducible exact Frame.refl)
    | (with_reducible apply Frame.ite)
    | (with_reducible refine Frame.foldl ?_ (fun _ _ _ => ?_))
    | (with_reducible apply frame_setFld)
    | (with_reducible apply frame_raise)
    | (with_reducible apply frame_async)
    | (fail_if_no_progress extract_lets)
    | intro _
    | (with_reducible split)

theorem frame_ptRetire {l₀ : List Area} {b₀ b : Block} (h₀ : Frame l₀ b₀ b) (key : Nat) (cause : Nat)
    (hl : [.regs, .irq, .hq, .pt, .ml, .out] ⊆ l₀ := by first | assumption | exact Area.sub ‹_›) :
    Frame l₀ b₀ (b.ptRetire key cause) := by
  unfold Block.ptRetire
  repeat' first
    | (with_reducible assumption)
    | (with_reducible exact Area.sub ‹_›)
    | (with_reducible exact Frame.refl)
    | (with_reducible apply Frame.ite)
    | (with_reducible refine Frame.foldl ?_ (fun _ _ _ => ?_))
    | (with_reducible apply frame_modPtBlock)
    | (with_reducible apply frame_ptOwn)
    | (with_reducible apply frame_bump)
    | (with_reducible apply frame_raise)
    | (with_reducible apply frame_ptHealth)
    | (fail_if_no_progress extract_lets)
    | intro _
    | (with_reducible split)

theorem frame_ptReserve {l₀ : List Area} {b₀ b : Block} (h₀ : Frame l₀ b₀ b) (die : Nat) (before : Nat)
    (hl : [.regs, .irq, .ml, .out] ⊆ l₀ := by first | assumption | exact Area.sub ‹_›) :
    Frame l₀ b₀ (b.ptReserve die before) := by
  unfold Block.ptReserve
  repeat' first
    | (with_reducible assumption)
    | (with_reducible exact Area.sub ‹_›)
    | (with_reducible exact Frame.refl)
    | (with_reducible apply Frame.ite)
    | (with_reducible refine Frame.foldl ?_ (fun _ _ _ => ?_))
    | (with_reducible apply frame_raise)
    | (fail_if_no_progress extract_lets)
    | intro _
    | (with_reducible split)

theorem frame_ptTake {l₀ : List Area} {b₀ b : Block} (h₀ : Frame l₀ b₀ b) (d : PtDesc)
    (hl : [.regs, .irq, .dram, .pt, .ml, .out] ⊆ l₀ := by first | assumption | exact Area.sub ‹_›) :
    Frame l₀ b₀ (b.ptTake d) := by
  unfold Block.ptTake
  repeat' first
    | (with_reducible assumption)
    | (with_reducible exact Area.sub ‹_›)
    | (with_reducible exact Frame.refl)
    | (with_reducible apply Frame.ite)
    | (with_reducible refine Frame.foldl ?_ (fun _ _ _ => ?_))
    | (with_reducible apply frame_setFld)
    | (with_reducible apply frame_ptEnd)
    | (with_reducible apply frame_modPtBlock)
    | (with_reducible apply frame_ptOwn)
    | (with_reducible apply frame_ptReserve)
    | (with_reducible apply frame_modPt)
    | (fail_if_no_progress extract_lets)
    | intro _
    | (with_reducible split)

theorem frame_ptAdvance {l₀ : List Area} {b₀ b : Block} (h₀ : Frame l₀ b₀ b)
    (hl : [.regs, .pt] ⊆ l₀ := by first | assumption | exact Area.sub ‹_›) :
    Frame l₀ b₀ (b.ptAdvance) := by
  unfold Block.ptAdvance
  repeat' first
    | (with_reducible assumption)
    | (with_reducible exact Area.sub ‹_›)
    | (with_reducible exact Frame.refl)
    | (with_reducible apply Frame.ite)
    | (with_reducible refine Frame.foldl ?_ (fun _ _ _ => ?_))
    | (with_reducible apply frame_modPt)
    | (with_reducible apply frame_setFld)
    | (fail_if_no_progress extract_lets)
    | intro _
    | (with_reducible split)

theorem frame_ptConsume {l₀ : List Area} {b₀ : Block} (n : Nat)
    (hl : [.regs, .irq, .dram, .pt, .ml, .out] ⊆ l₀ := by first | assumption | exact Area.sub ‹_›) :
    ∀ {b : Block}, Frame l₀ b₀ b → Frame l₀ b₀ (Block.ptConsume n b) := by
  induction n with
  | zero => exact fun h => h
  | succ n ih =>
    intro b h
    unfold Block.ptConsume
    dsimp only
    split
    · exact h
    · exact ih (frame_ptTake (frame_ptAdvance h) _)

theorem frame_ptDrop {l₀ : List Area} {b₀ b : Block} (h₀ : Frame l₀ b₀ b) (d : PtDesc)
    (hl : [.pt] ⊆ l₀ := by first | assumption | exact Area.sub ‹_›) :
    Frame l₀ b₀ (b.ptDrop d) := by
  unfold Block.ptDrop
  repeat' first
    | (with_reducible assumption)
    | (with_reducible exact Area.sub ‹_›)
    | (with_reducible exact Frame.refl)
    | (with_reducible apply Frame.ite)
    | (with_reducible refine Frame.foldl ?_ (fun _ _ _ => ?_))
    | (with_reducible apply frame_modPt)
    | (fail_if_no_progress extract_lets)
    | intro _
    | (with_reducible split)

theorem frame_ptGo {l₀ : List Area} {b₀ b : Block} (h₀ : Frame l₀ b₀ b) (d : PtDesc) (second : Option Nat) (jseq : Nat)
    (hl : [.pt] ⊆ l₀ := by first | assumption | exact Area.sub ‹_›) :
    Frame l₀ b₀ (b.ptGo d second jseq) := by
  unfold Block.ptGo
  repeat' first
    | (with_reducible assumption)
    | (with_reducible exact Area.sub ‹_›)
    | (with_reducible exact Frame.refl)
    | (with_reducible apply Frame.ite)
    | (with_reducible refine Frame.foldl ?_ (fun _ _ _ => ?_))
    | (with_reducible apply frame_modPt)
    | (fail_if_no_progress extract_lets)
    | intro _
    | (with_reducible split)

theorem frame_ptBusErr {l₀ : List Area} {b₀ b : Block} (h₀ : Frame l₀ b₀ b) (d : PtDesc)
    (hl : [.regs, .irq, .dram, .ml, .out] ⊆ l₀ := by first | assumption | exact Area.sub ‹_›) :
    Frame l₀ b₀ (b.ptBusErr d) := by
  unfold Block.ptBusErr
  repeat' first
    | (with_reducible assumption)
    | (with_reducible exact Area.sub ‹_›)
    | (with_reducible exact Frame.refl)
    | (with_reducible apply Frame.ite)
    | (with_reducible refine Frame.foldl ?_ (fun _ _ _ => ?_))
    | (with_reducible apply frame_ptEnd)
    | (with_reducible apply frame_raise)
    | (fail_if_no_progress extract_lets)
    | intro _
    | (with_reducible split)

theorem frame_ptStartProgram {l₀ : List Area} {b₀ b : Block} (h₀ : Frame l₀ b₀ b) (d : PtDesc)
    (hl : [.regs, .irq, .dram, .pt, .ml, .out] ⊆ l₀ := by first | assumption | exact Area.sub ‹_›) :
    Frame l₀ b₀ (b.ptStartProgram d) := by
  unfold Block.ptStartProgram
  extract_lets r m
  have hr : Frame l₀ b₀ r.2.2 := frame_dramRead h₀ _ _ _
  have hm : Frame l₀ b₀ m.2.2 := frame_dramRead hr _ _ _
  split
  · exact frame_ptBusErr hm _
  · exact frame_ptGo (frame_modPt hm _) _ _ _

theorem frame_ptStartJournal {l₀ : List Area} {b₀ b : Block} (h₀ : Frame l₀ b₀ b) (d : PtDesc)
    (hl : [.regs, .irq, .dram, .pt, .ml, .out] ⊆ l₀ := by first | assumption | exact Area.sub ‹_›) :
    Frame l₀ b₀ (b.ptStartJournal d) := by
  unfold Block.ptStartJournal
  extract_lets r b1
  have hr : Frame l₀ b₀ b1 := frame_dramRead h₀ _ _ _
  split
  · exact frame_ptBusErr hr _
  · exact frame_ptGo (frame_modPt hr _) _ _ _

theorem frame_ptStart {l₀ : List Area} {b₀ b : Block} (h₀ : Frame l₀ b₀ b) (d : PtDesc)
    (hl : [.regs, .irq, .dram, .pt, .ml, .out] ⊆ l₀ := by first | assumption | exact Area.sub ‹_›) :
    Frame l₀ b₀ (b.ptStart d) := by
  unfold Block.ptStart
  generalize dramSize = z
  extract_lets b1
  have h1 : Frame l₀ b₀ b1 := frame_ptDrop h₀ _
  clear_value b1
  repeat' first
    | (with_reducible assumption)
    | (with_reducible exact Area.sub ‹_›)
    | (with_reducible apply frame_ptBusErr)
    | (with_reducible apply frame_ptStartProgram)
    | (with_reducible apply frame_ptStartJournal)
    | (with_reducible apply frame_ptGo)
    | (with_reducible apply frame_ptOwn)
    | split

theorem frame_ptDispatchDie {l₀ : List Area} {b₀ b : Block} (h₀ : Frame l₀ b₀ b) (die : Nat)
    (hl : [.regs, .irq, .dram, .pt, .ml, .out] ⊆ l₀ := by first | assumption | exact Area.sub ‹_›) :
    Frame l₀ b₀ (b.ptDispatchDie die) := by
  unfold Block.ptDispatchDie
  repeat' first
    | (with_reducible assumption)
    | (with_reducible exact Area.sub ‹_›)
    | (with_reducible exact Frame.refl)
    | (with_reducible apply Frame.ite)
    | (with_reducible refine Frame.foldl ?_ (fun _ _ _ => ?_))
    | (with_reducible apply frame_ptDrop)
    | (with_reducible apply frame_ptEnd)
    | (with_reducible apply frame_bump)
    | (with_reducible apply frame_ptStart)
    | (fail_if_no_progress extract_lets)
    | intro _
    | (with_reducible split)

theorem frame_ptDispatch {l₀ : List Area} {b₀ b : Block} (h₀ : Frame l₀ b₀ b)
    (hl : [.regs, .irq, .dram, .pt, .ml, .out] ⊆ l₀ := by first | assumption | exact Area.sub ‹_›) :
    Frame l₀ b₀ (b.ptDispatch) := by
  unfold Block.ptDispatch
  repeat' first
    | (with_reducible assumption)
    | (with_reducible exact Area.sub ‹_›)
    | (with_reducible exact Frame.refl)
    | (with_reducible apply Frame.ite)
    | (with_reducible refine Frame.foldl ?_ (fun _ _ _ => ?_))
    | (with_reducible apply frame_ptDispatchDie)
    | (fail_if_no_progress extract_lets)
    | intro _
    | (with_reducible split)

theorem frame_ptBusy {l₀ : List Area} {b₀ b : Block} (h₀ : Frame l₀ b₀ b)
    (hl : [.regs] ⊆ l₀ := by first | assumption | exact Area.sub ‹_›) :
    Frame l₀ b₀ (b.ptBusy) := by
  unfold Block.ptBusy
  repeat' first
    | (with_reducible assumption)
    | (with_reducible exact Area.sub ‹_›)
    | (with_reducible exact Frame.refl)
    | (with_reducible apply Frame.ite)
    | (with_reducible refine Frame.foldl ?_ (fun _ _ _ => ?_))
    | (with_reducible apply frame_setFld)
    | (fail_if_no_progress extract_lets)
    | intro _
    | (with_reducible split)

theorem frame_ptKick {l₀ : List Area} {b₀ b : Block} (h₀ : Frame l₀ b₀ b)
    (hl : [.regs, .irq, .dram, .pt, .ml, .out] ⊆ l₀ := by first | assumption | exact Area.sub ‹_›) :
    Frame l₀ b₀ (b.ptKick) := by
  unfold Block.ptKick
  repeat' first
    | (with_reducible assumption)
    | (with_reducible exact Area.sub ‹_›)
    | (with_reducible exact Frame.refl)
    | (with_reducible apply Frame.ite)
    | (with_reducible refine Frame.foldl ?_ (fun _ _ _ => ?_))
    | (with_reducible apply frame_ptConsume)
    | (with_reducible apply frame_ptDispatch)
    | (with_reducible apply frame_ptBusy)
    | (fail_if_no_progress extract_lets)
    | intro _
    | (with_reducible split)

theorem frame_ptUnits {l₀ : List Area} {b₀ b : Block} (h₀ : Frame l₀ b₀ b) (us : List UnitKey)
    (hl : [.pt] ⊆ l₀ := by first | assumption | exact Area.sub ‹_›) :
    Frame l₀ b₀ (b.ptUnits us) := by
  unfold Block.ptUnits
  repeat' first
    | (with_reducible assumption)
    | (with_reducible exact Area.sub ‹_›)
    | (with_reducible exact Frame.refl)
    | (with_reducible apply Frame.ite)
    | (with_reducible refine Frame.foldl ?_ (fun _ _ _ => ?_))
    | (with_reducible apply frame_modPt)
    | (fail_if_no_progress extract_lets)
    | intro _
    | (with_reducible split)

theorem frame_ptStaged {l₀ : List Area} {b₀ b : Block} (h₀ : Frame l₀ b₀ b)
    (hl : [.hq, .store, .pt] ⊆ l₀ := by first | assumption | exact Area.sub ‹_›) :
    Frame l₀ b₀ (b.ptStaged) := by
  unfold Block.ptStaged
  repeat' first
    | (with_reducible assumption)
    | (with_reducible exact Area.sub ‹_›)
    | (with_reducible exact Frame.refl)
    | (with_reducible apply Frame.ite)
    | (with_reducible refine Frame.foldl ?_ (fun _ _ _ => ?_))
    | (with_reducible apply frame_releaseDram)
    | (with_reducible apply frame_modChunks)
    | (with_reducible apply frame_modPt)
    | (with_reducible apply frame_purgeOlds)
    | (fail_if_no_progress extract_lets)
    | intro _
    | (with_reducible split)

theorem frame_ptQualify {l₀ : List Area} {b₀ b : Block} (h₀ : Frame l₀ b₀ b) (key : Nat)
    (hl : [.regs, .irq, .dram, .pt, .ml, .out] ⊆ l₀ := by first | assumption | exact Area.sub ‹_›) :
    Frame l₀ b₀ (b.ptQualify key) := by
  unfold Block.ptQualify
  repeat' first
    | (with_reducible assumption)
    | (with_reducible exact Area.sub ‹_›)
    | (with_reducible exact Frame.refl)
    | (with_reducible apply Frame.ite)
    | (with_reducible refine Frame.foldl ?_ (fun _ _ _ => ?_))
    | (with_reducible apply frame_modPt)
    | (with_reducible apply frame_ptUnits)
    | (with_reducible apply frame_ptEnd)
    | (fail_if_no_progress extract_lets)
    | intro _
    | (with_reducible split)

theorem frame_ptFull {l₀ : List Area} {b₀ b : Block} (h₀ : Frame l₀ b₀ b) (key : Nat)
    (hl : [.regs, .irq, .pt, .ml, .out] ⊆ l₀ := by first | assumption | exact Area.sub ‹_›) :
    Frame l₀ b₀ (b.ptFull key) := by
  unfold Block.ptFull
  repeat' first
    | (with_reducible assumption)
    | (with_reducible exact Area.sub ‹_›)
    | (with_reducible exact Frame.refl)
    | (with_reducible apply Frame.ite)
    | (with_reducible refine Frame.foldl ?_ (fun _ _ _ => ?_))
    | (with_reducible apply frame_modPtBlock)
    | (with_reducible apply frame_ptOwn)
    | (fail_if_no_progress extract_lets)
    | intro _
    | (with_reducible split)

theorem frame_ptPad {l₀ : List Area} {b₀ b : Block} (h₀ : Frame l₀ b₀ b) (key : Nat)
    (hl : [.regs, .irq, .dram, .pt, .ml, .out] ⊆ l₀ := by first | assumption | exact Area.sub ‹_›) :
    Frame l₀ b₀ (b.ptPad key) := by
  unfold Block.ptPad
  repeat' first
    | (with_reducible assumption)
    | (with_reducible exact Area.sub ‹_›)
    | (with_reducible exact Frame.refl)
    | (with_reducible apply Frame.ite)
    | (with_reducible refine Frame.foldl ?_ (fun _ _ _ => ?_))
    | (with_reducible apply frame_modPt)
    | (with_reducible apply frame_modPtBlock)
    | (with_reducible apply frame_ptQualify)
    | (with_reducible apply frame_ptFull)
    | (fail_if_no_progress extract_lets)
    | intro _
    | (with_reducible split)

theorem frame_ptDeliver {l₀ : List Area} {b₀ b : Block} (h₀ : Frame l₀ b₀ b) (d : PtDesc) (data : List Byte) (md : List Byte) (failed : List Nat)
    (hl : [.regs, .irq, .dram, .ml, .out] ⊆ l₀ := by first | assumption | exact Area.sub ‹_›) :
    Frame l₀ b₀ (b.ptDeliver d data md failed) := by
  unfold Block.ptDeliver
  repeat' first
    | (with_reducible assumption)
    | (with_reducible exact Area.sub ‹_›)
    | (with_reducible exact Frame.refl)
    | (with_reducible apply Frame.ite)
    | (with_reducible refine Frame.foldl ?_ (fun _ _ _ => ?_))
    | (with_reducible apply frame_dramWrite)
    | (fail_if_no_progress extract_lets)
    | intro _
    | (with_reducible split)

theorem frame_ptWarn {l₀ : List Area} {b₀ b : Block} (h₀ : Frame l₀ b₀ b) (d : PtDesc)
    (hl : [.regs, .irq, .pt, .ml, .out] ⊆ l₀ := by first | assumption | exact Area.sub ‹_›) :
    Frame l₀ b₀ (b.ptWarn d) := by
  unfold Block.ptWarn
  repeat' first
    | (with_reducible assumption)
    | (with_reducible exact Area.sub ‹_›)
    | (with_reducible exact Frame.refl)
    | (with_reducible apply Frame.ite)
    | (with_reducible refine Frame.foldl ?_ (fun _ _ _ => ?_))
    | (with_reducible apply frame_bump)
    | (with_reducible apply frame_raise)
    | (with_reducible apply frame_modPtBlock)
    | (fail_if_no_progress extract_lets)
    | intro _
    | (with_reducible split)

theorem frame_ptReadEnd {l₀ : List Area} {b₀ b : Block} (h₀ : Frame l₀ b₀ b) (d : PtDesc) (r : FlashRes)
    (hl : [.regs, .irq, .dram, .pt, .ml, .out, .free] ⊆ l₀ := by first | assumption | exact Area.sub ‹_›) :
    Frame l₀ b₀ (b.ptReadEnd d r) := by
  unfold Block.ptReadEnd
  repeat' first
    | (with_reducible assumption)
    | (with_reducible exact Area.sub ‹_›)
    | (with_reducible exact Frame.refl)
    | (with_reducible apply Frame.ite)
    | (with_reducible refine Frame.foldl ?_ (fun _ _ _ => ?_))
    | (with_reducible apply Frame.ite2)
    | (with_reducible refine Frame.snd (by with_reducible assumption) ?_)
    | (with_reducible refine Frame.thd (by with_reducible assumption) ?_)
    | (with_reducible apply frame_bump)
    | (with_reducible apply frame_ptDeliver)
    | (with_reducible apply frame_ptWarn)
    | (with_reducible apply frame_ptPost)
    | (with_reducible apply frame_freeVal)
    | (fail_if_no_progress extract_lets)
    | intro _
    | (with_reducible split)

theorem frame_ptRebuildEnd {l₀ : List Area} {b₀ b : Block} (h₀ : Frame l₀ b₀ b) (d : PtDesc) (r : FlashRes)
    (hl : [.regs, .irq, .dram, .ml, .out] ⊆ l₀ := by first | assumption | exact Area.sub ‹_›) :
    Frame l₀ b₀ (b.ptRebuildEnd d r) := by
  unfold Block.ptRebuildEnd
  repeat' first
    | (with_reducible assumption)
    | (with_reducible exact Area.sub ‹_›)
    | (with_reducible exact Frame.refl)
    | (with_reducible apply Frame.ite)
    | (with_reducible refine Frame.foldl ?_ (fun _ _ _ => ?_))
    | (with_reducible apply frame_ptDeliver)
    | (with_reducible apply frame_ptPost)
    | (with_reducible apply frame_bump)
    | (with_reducible apply frame_ptEnd)
    | (fail_if_no_progress extract_lets)
    | intro _
    | (with_reducible split)

theorem frame_ptProgramEnd {l₀ : List Area} {b₀ b : Block} (h₀ : Frame l₀ b₀ b) (d : PtDesc) (r : FlashRes)
    (hl : [.regs, .irq, .dram, .hq, .pt, .ml, .out] ⊆ l₀ := by first | assumption | exact Area.sub ‹_›) :
    Frame l₀ b₀ (b.ptProgramEnd d r) := by
  unfold Block.ptProgramEnd
  repeat' first
    | (with_reducible assumption)
    | (with_reducible exact Area.sub ‹_›)
    | (with_reducible exact Frame.refl)
    | (with_reducible apply Frame.ite)
    | (with_reducible refine Frame.foldl ?_ (fun _ _ _ => ?_))
    | (with_reducible apply frame_bump)
    | (with_reducible apply frame_modPt)
    | (with_reducible apply frame_ptRetire)
    | (with_reducible apply frame_ptEnd)
    | (with_reducible apply frame_modPtBlock)
    | (with_reducible apply frame_ptUnits)
    | (with_reducible apply frame_ptQualify)
    | (with_reducible apply frame_ptFull)
    | (fail_if_no_progress extract_lets)
    | intro _
    | (with_reducible split)

theorem frame_ptEraseEnd {l₀ : List Area} {b₀ b : Block} (h₀ : Frame l₀ b₀ b) (d : PtDesc) (r : FlashRes)
    (hl : [.regs, .irq, .dram, .hq, .pt, .ml, .out] ⊆ l₀ := by first | assumption | exact Area.sub ‹_›) :
    Frame l₀ b₀ (b.ptEraseEnd d r) := by
  unfold Block.ptEraseEnd
  repeat' first
    | (with_reducible assumption)
    | (with_reducible exact Area.sub ‹_›)
    | (with_reducible exact Frame.refl)
    | (with_reducible apply Frame.ite)
    | (with_reducible refine Frame.foldl ?_ (fun _ _ _ => ?_))
    | (with_reducible apply frame_bump)
    | (with_reducible apply frame_ptOwn)
    | (with_reducible apply frame_ptRetire)
    | (with_reducible apply frame_ptEnd)
    | (with_reducible apply frame_modPt)
    | (with_reducible apply frame_modPtBlock)
    | (with_reducible apply frame_ptHealth)
    | (fail_if_no_progress extract_lets)
    | intro _
    | (with_reducible split)

theorem frame_ptOpEnd {l₀ : List Area} {b₀ b : Block} (h₀ : Frame l₀ b₀ b) (o : PtOp) (r : FlashRes)
    (hl : [.regs, .irq, .dram, .hq, .store, .pt, .ml, .out, .free] ⊆ l₀ := by first | assumption | exact Area.sub ‹_›) :
    Frame l₀ b₀ (b.ptOpEnd o r) := by
  unfold Block.ptOpEnd
  repeat' first
    | (with_reducible assumption)
    | (with_reducible exact Area.sub ‹_›)
    | (with_reducible exact Frame.refl)
    | (with_reducible apply Frame.ite)
    | (with_reducible refine Frame.foldl ?_ (fun _ _ _ => ?_))
    | (with_reducible apply frame_modPt)
    | (with_reducible apply frame_ptReadEnd)
    | (with_reducible apply frame_ptProgramEnd)
    | (with_reducible apply frame_ptEraseEnd)
    | (with_reducible apply frame_ptRecDone)
    | (with_reducible apply frame_ptStaged)
    | (with_reducible apply frame_ptEnd)
    | (with_reducible apply frame_ptRebuildEnd)
    | (with_reducible apply frame_ptPad)
    | (with_reducible apply frame_ptRetire)
    | (fail_if_no_progress extract_lets)
    | intro _
    | (with_reducible split)

theorem frame_execFlashOpComplete {l₀ : List Area} {b₀ : Block} {s t : State} {die : Fin 32} {r : FlashRes} (e₀ : execFlashOpComplete die r s = .next t)
    (h₀ : Frame l₀ b₀ s.toBlock)
    (hl : [.regs, .irq, .dram, .hq, .store, .pt, .ml, .out, .free] ⊆ l₀ := by first | assumption | exact Area.sub ‹_›) : Frame l₀ b₀ t.toBlock := by
  unfold execFlashOpComplete at e₀
  refine Frame.upd e₀ h₀ (fun _ _ => ?_)
  repeat' first
    | (with_reducible assumption)
    | (with_reducible exact Area.sub ‹_›)
    | (with_reducible exact Frame.refl)
    | (with_reducible apply Frame.ite)
    | (with_reducible refine Frame.foldl ?_ (fun _ _ _ => ?_))
    | (with_reducible apply frame_ptOpEnd)
    | (with_reducible apply frame_ptDispatch)
    | (with_reducible apply frame_ptBusy)
    | (fail_if_no_progress extract_lets)
    | intro _
    | (with_reducible split)

theorem frame_ptReserveSlot {l₀ : List Area} {b₀ b : Block} (h₀ : Frame l₀ b₀ b)
    (hl : [.pt] ⊆ l₀ := by first | assumption | exact Area.sub ‹_›) :
    Frame l₀ b₀ (b.ptReserveSlot).2 := by
  unfold Block.ptReserveSlot
  repeat' first
    | (with_reducible assumption)
    | (with_reducible exact Area.sub ‹_›)
    | (with_reducible exact Frame.refl)
    | (with_reducible apply Frame.ite)
    | (with_reducible refine Frame.foldl ?_ (fun _ _ _ => ?_))
    | (with_reducible apply Frame.ite2)
    | (with_reducible refine Frame.snd (by with_reducible assumption) ?_)
    | (with_reducible refine Frame.thd (by with_reducible assumption) ?_)
    | (with_reducible apply frame_modPt)
    | (fail_if_no_progress extract_lets)
    | intro _
    | (with_reducible split)

theorem frame_execDqReserve {l₀ : List Area} {b₀ : Block} {s t : State} {m : Master} (e₀ : execDqReserve m s = .next t)
    (h₀ : Frame l₀ b₀ s.toBlock)
    (hl : [.rdata, .pt] ⊆ l₀ := by first | assumption | exact Area.sub ‹_›) : Frame l₀ b₀ t.toBlock := by
  unfold execDqReserve at e₀
  refine Frame.upd e₀ h₀ (fun _ _ => ?_)
  repeat' first
    | (with_reducible assumption)
    | (with_reducible exact Area.sub ‹_›)
    | (with_reducible exact Frame.refl)
    | (with_reducible apply Frame.ite)
    | (with_reducible refine Frame.foldl ?_ (fun _ _ _ => ?_))
    | (with_reducible apply Frame.ite2)
    | (with_reducible refine Frame.snd (by with_reducible assumption) ?_)
    | (with_reducible refine Frame.thd (by with_reducible assumption) ?_)
    | (with_reducible apply frame_ptReserveSlot)
    | (with_reducible apply frame_answer)
    | (fail_if_no_progress extract_lets)
    | intro _
    | (with_reducible split)

theorem frame_execDqKick {l₀ : List Area} {b₀ : Block} {s t : State} (e₀ : execDqKick s = .next t)
    (h₀ : Frame l₀ b₀ s.toBlock)
    (hl : [.regs, .irq, .dram, .pt, .ml, .out] ⊆ l₀ := by first | assumption | exact Area.sub ‹_›) : Frame l₀ b₀ t.toBlock := by
  unfold execDqKick at e₀
  refine Frame.upd e₀ h₀ (fun _ _ => ?_)
  repeat' first
    | (with_reducible assumption)
    | (with_reducible exact Area.sub ‹_›)
    | (with_reducible exact Frame.refl)
    | (with_reducible apply Frame.ite)
    | (with_reducible refine Frame.foldl ?_ (fun _ _ _ => ?_))
    | (with_reducible apply frame_ptKick)
    | (fail_if_no_progress extract_lets)
    | intro _
    | (with_reducible split)

theorem frame_execReservedSlotTimeout {l₀ : List Area} {b₀ : Block} {s t : State} (e₀ : execReservedSlotTimeout s = .next t)
    (h₀ : Frame l₀ b₀ s.toBlock)
    (hl : [.regs, .irq, .dram, .pt, .ml, .out] ⊆ l₀ := by first | assumption | exact Area.sub ‹_›) : Frame l₀ b₀ t.toBlock := by
  unfold execReservedSlotTimeout at e₀
  refine Frame.upd e₀ h₀ (fun _ _ => ?_)
  repeat' first
    | (with_reducible assumption)
    | (with_reducible exact Area.sub ‹_›)
    | (with_reducible exact Frame.refl)
    | (with_reducible apply Frame.ite)
    | (with_reducible refine Frame.foldl ?_ (fun _ _ _ => ?_))
    | (with_reducible apply frame_setFld)
    | (with_reducible apply frame_ptAdvance)
    | (with_reducible apply frame_ptEnd)
    | (with_reducible apply frame_raise)
    | (with_reducible apply frame_ptKick)
    | (fail_if_no_progress extract_lets)
    | intro _
    | (with_reducible split)

theorem frame_ptSubmit {l₀ : List Area} {b₀ b : Block} (h₀ : Frame l₀ b₀ b) (f : PtFields) (op : Nat) (dw0 : Nat) (dw2 : Nat) (len : Nat) (daddr : Nat) (maddr : Nat)
    (hl : [.regs, .irq, .dram, .pt, .ml, .out] ⊆ l₀ := by first | assumption | exact Area.sub ‹_›) :
    Frame l₀ b₀ (b.ptSubmit f op dw0 dw2 len daddr maddr) := by
  unfold Block.ptSubmit
  repeat' first
    | (with_reducible assumption)
    | (with_reducible exact Area.sub ‹_›)
    | (with_reducible exact Frame.refl)
    | (with_reducible apply Frame.ite)
    | (with_reducible refine Frame.foldl ?_ (fun _ _ _ => ?_))
    | (with_reducible apply Frame.ite2)
    | (with_reducible refine Frame.snd (by with_reducible assumption) ?_)
    | (with_reducible refine Frame.thd (by with_reducible assumption) ?_)
    | (with_reducible apply frame_ptReserveSlot)
    | (with_reducible apply frame_dramWrite)
    | (with_reducible apply frame_ptKick)
    | (fail_if_no_progress extract_lets)
    | intro _
    | (with_reducible split)

theorem frame_execPeatRead {l₀ : List Area} {b₀ : Block} {s t : State} {f : PtFields} {slc : Bool} {pmask : BitVec 4} {rrl : BitVec 4} {daddr : BitVec 64} {maddr : BitVec 64} (e₀ : execPeatRead f slc pmask rrl daddr maddr s = .next t)
    (h₀ : Frame l₀ b₀ s.toBlock)
    (hl : [.regs, .irq, .dram, .pt, .ml, .out] ⊆ l₀ := by first | assumption | exact Area.sub ‹_›) : Frame l₀ b₀ t.toBlock := by
  unfold execPeatRead at e₀
  refine Frame.upd e₀ h₀ (fun _ _ => ?_)
  repeat' first
    | (with_reducible assumption)
    | (with_reducible exact Area.sub ‹_›)
    | (with_reducible exact Frame.refl)
    | (with_reducible apply Frame.ite)
    | (with_reducible refine Frame.foldl ?_ (fun _ _ _ => ?_))
    | (with_reducible apply frame_ptSubmit)
    | (fail_if_no_progress extract_lets)
    | intro _
    | (with_reducible split)

theorem frame_execPeatProgram {l₀ : List Area} {b₀ : Block} {s t : State} {f : PtFields} {slc : Bool} {daddr : BitVec 64} {maddr : BitVec 64} (e₀ : execPeatProgram f slc daddr maddr s = .next t)
    (h₀ : Frame l₀ b₀ s.toBlock)
    (hl : [.regs, .irq, .dram, .pt, .ml, .out] ⊆ l₀ := by first | assumption | exact Area.sub ‹_›) : Frame l₀ b₀ t.toBlock := by
  unfold execPeatProgram at e₀
  refine Frame.upd e₀ h₀ (fun _ _ => ?_)
  repeat' first
    | (with_reducible assumption)
    | (with_reducible exact Area.sub ‹_›)
    | (with_reducible exact Frame.refl)
    | (with_reducible apply Frame.ite)
    | (with_reducible refine Frame.foldl ?_ (fun _ _ _ => ?_))
    | (with_reducible apply frame_ptSubmit)
    | (fail_if_no_progress extract_lets)
    | intro _
    | (with_reducible split)

theorem frame_execPeatErase {l₀ : List Area} {b₀ : Block} {s t : State} {f : PtFields} {jrnl : Bool} (e₀ : execPeatErase f jrnl s = .next t)
    (h₀ : Frame l₀ b₀ s.toBlock)
    (hl : [.regs, .irq, .dram, .pt, .ml, .out] ⊆ l₀ := by first | assumption | exact Area.sub ‹_›) : Frame l₀ b₀ t.toBlock := by
  unfold execPeatErase at e₀
  refine Frame.upd e₀ h₀ (fun _ _ => ?_)
  repeat' first
    | (with_reducible assumption)
    | (with_reducible exact Area.sub ‹_›)
    | (with_reducible exact Frame.refl)
    | (with_reducible apply Frame.ite)
    | (with_reducible refine Frame.foldl ?_ (fun _ _ _ => ?_))
    | (with_reducible apply frame_ptSubmit)
    | (fail_if_no_progress extract_lets)
    | intro _
    | (with_reducible split)

theorem frame_execPeatJournal {l₀ : List Area} {b₀ : Block} {s t : State} {f : PtFields} {ckpt : Bool} {len : BitVec 32} {daddr : BitVec 64} (e₀ : execPeatJournal f ckpt len daddr s = .next t)
    (h₀ : Frame l₀ b₀ s.toBlock)
    (hl : [.regs, .irq, .dram, .pt, .ml, .out] ⊆ l₀ := by first | assumption | exact Area.sub ‹_›) : Frame l₀ b₀ t.toBlock := by
  unfold execPeatJournal at e₀
  refine Frame.upd e₀ h₀ (fun _ _ => ?_)
  repeat' first
    | (with_reducible assumption)
    | (with_reducible exact Area.sub ‹_›)
    | (with_reducible exact Frame.refl)
    | (with_reducible apply Frame.ite)
    | (with_reducible refine Frame.foldl ?_ (fun _ _ _ => ?_))
    | (with_reducible apply frame_ptSubmit)
    | (fail_if_no_progress extract_lets)
    | intro _
    | (with_reducible split)

theorem frame_execPeatRebuild {l₀ : List Area} {b₀ : Block} {s t : State} {f : PtFields} {daddr : BitVec 64} {maddr : BitVec 64} (e₀ : execPeatRebuild f daddr maddr s = .next t)
    (h₀ : Frame l₀ b₀ s.toBlock)
    (hl : [.regs, .irq, .dram, .pt, .ml, .out] ⊆ l₀ := by first | assumption | exact Area.sub ‹_›) : Frame l₀ b₀ t.toBlock := by
  unfold execPeatRebuild at e₀
  refine Frame.upd e₀ h₀ (fun _ _ => ?_)
  repeat' first
    | (with_reducible assumption)
    | (with_reducible exact Area.sub ‹_›)
    | (with_reducible exact Frame.refl)
    | (with_reducible apply Frame.ite)
    | (with_reducible refine Frame.foldl ?_ (fun _ _ _ => ?_))
    | (with_reducible apply frame_ptSubmit)
    | (fail_if_no_progress extract_lets)
    | intro _
    | (with_reducible split)

theorem frame_execPeatPad {l₀ : List Area} {b₀ : Block} {s t : State} {f : PtFields} {slc : Bool} (e₀ : execPeatPad f slc s = .next t)
    (h₀ : Frame l₀ b₀ s.toBlock)
    (hl : [.regs, .irq, .dram, .pt, .ml, .out] ⊆ l₀ := by first | assumption | exact Area.sub ‹_›) : Frame l₀ b₀ t.toBlock := by
  unfold execPeatPad at e₀
  refine Frame.upd e₀ h₀ (fun _ _ => ?_)
  repeat' first
    | (with_reducible assumption)
    | (with_reducible exact Area.sub ‹_›)
    | (with_reducible exact Frame.refl)
    | (with_reducible apply Frame.ite)
    | (with_reducible refine Frame.foldl ?_ (fun _ _ _ => ?_))
    | (with_reducible apply frame_ptSubmit)
    | (fail_if_no_progress extract_lets)
    | intro _
    | (with_reducible split)

theorem frame_execDieTimeout {l₀ : List Area} {b₀ : Block} {s t : State} {die : Fin 32} (e₀ : execDieTimeout die s = .next t)
    (h₀ : Frame l₀ b₀ s.toBlock)
    (hl : [.regs, .irq, .dram, .pt, .ml, .out] ⊆ l₀ := by first | assumption | exact Area.sub ‹_›) : Frame l₀ b₀ t.toBlock := by
  unfold execDieTimeout at e₀
  refine Frame.upd e₀ h₀ (fun _ _ => ?_)
  repeat' first
    | (with_reducible assumption)
    | (with_reducible exact Area.sub ‹_›)
    | (with_reducible exact Frame.refl)
    | (with_reducible apply Frame.ite)
    | (with_reducible refine Frame.foldl ?_ (fun _ _ _ => ?_))
    | (with_reducible apply frame_putBit)
    | (with_reducible apply frame_raise)
    | (with_reducible apply frame_modPt)
    | (with_reducible apply frame_ptEnd)
    | (with_reducible apply frame_ptDispatch)
    | (with_reducible apply frame_ptBusy)
    | (fail_if_no_progress extract_lets)
    | intro _
    | (with_reducible split)

theorem frame_ptHot {l₀ : List Area} {b₀ b : Block} (h₀ : Frame l₀ b₀ b)
    (hl : [.regs, .irq, .dram, .pt, .ml, .out] ⊆ l₀ := by first | assumption | exact Area.sub ‹_›) :
    Frame l₀ b₀ (b.ptHot) := by
  unfold Block.ptHot
  repeat' first
    | (with_reducible assumption)
    | (with_reducible exact Area.sub ‹_›)
    | (with_reducible exact Frame.refl)
    | (with_reducible apply Frame.ite)
    | (with_reducible refine Frame.foldl ?_ (fun _ _ _ => ?_))
    | (with_reducible apply frame_ptPad)
    | (with_reducible apply frame_modPtBlock)
    | (with_reducible apply frame_ptOwn)
    | (fail_if_no_progress extract_lets)
    | intro _
    | (with_reducible split)

theorem frame_execPeatTempSample {l₀ : List Area} {b₀ : Block} {s t : State} {temp : BitVec 16} (e₀ : execPeatTempSample temp s = .next t)
    (h₀ : Frame l₀ b₀ s.toBlock)
    (hl : [.regs, .irq, .dram, .hq, .pt, .ml, .out] ⊆ l₀ := by first | assumption | exact Area.sub ‹_›) : Frame l₀ b₀ t.toBlock := by
  unfold execPeatTempSample at e₀
  refine Frame.upd e₀ h₀ (fun _ _ => ?_)
  repeat' first
    | (with_reducible assumption)
    | (with_reducible exact Area.sub ‹_›)
    | (with_reducible exact Frame.refl)
    | (with_reducible apply Frame.ite)
    | (with_reducible refine Frame.foldl ?_ (fun _ _ _ => ?_))
    | (with_reducible apply frame_setFld)
    | (with_reducible apply frame_modPt)
    | (with_reducible apply frame_raise)
    | (with_reducible apply frame_async)
    | (with_reducible apply frame_ptHot)
    | (with_reducible apply frame_modHq)
    | (fail_if_no_progress extract_lets)
    | intro _
    | (with_reducible split)

theorem frame_ptMoveRebuilt {l₀ : List Area} {b₀ b : Block} (h₀ : Frame l₀ b₀ b) (old : List Nat) (e : Nat × Nat)
    (hl : [.regs, .irq, .pt, .ml, .out] ⊆ l₀ := by first | assumption | exact Area.sub ‹_›) :
    Frame l₀ b₀ (b.ptMoveRebuilt old e) := by
  unfold Block.ptMoveRebuilt
  repeat' first
    | (with_reducible assumption)
    | (with_reducible exact Area.sub ‹_›)
    | (with_reducible exact Frame.refl)
    | (with_reducible apply Frame.ite)
    | (with_reducible refine Frame.foldl ?_ (fun _ _ _ => ?_))
    | (with_reducible apply frame_modPtBlock)
    | (with_reducible apply frame_ptOwn)
    | (with_reducible apply frame_ptReserve)
    | (with_reducible apply frame_modPt)
    | (with_reducible apply frame_ptFull)
    | (fail_if_no_progress extract_lets)
    | intro _
    | (with_reducible split)

theorem frame_ptRecover {l₀ : List Area} {b₀ b : Block} (h₀ : Frame l₀ b₀ b) (bad : List (Nat × Nat))
    (hl : [.regs, .irq, .pt, .ml, .out] ⊆ l₀ := by first | assumption | exact Area.sub ‹_›) :
    Frame l₀ b₀ (b.ptRecover bad) := by
  unfold Block.ptRecover
  repeat' first
    | (with_reducible assumption)
    | (with_reducible exact Area.sub ‹_›)
    | (with_reducible exact Frame.refl)
    | (with_reducible apply Frame.ite)
    | (with_reducible refine Frame.foldl ?_ (fun _ _ _ => ?_))
    | (with_reducible apply frame_modPt)
    | (with_reducible apply frame_ptOwn)
    | (with_reducible apply frame_modPtBlock)
    | (with_reducible apply frame_setFld)
    | (with_reducible apply frame_ptMoveRebuilt)
    | (with_reducible apply frame_setBit)
    | (with_reducible apply frame_raise)
    | (fail_if_no_progress extract_lets)
    | intro _
    | (with_reducible split)

/-! ### Machine/Calib.lean -/

theorem frame_calBegin {l₀ : List Area} {b₀ b : Block} (h₀ : Frame l₀ b₀ b) (s : Fin 4) (k : Nat) (band : Nat) (area : Bool) (peak0 : List Nat)
    (hl : [.regs, .cal] ⊆ l₀ := by first | assumption | exact Area.sub ‹_›) :
    Frame l₀ b₀ (b.calBegin s k band area peak0) := by
  unfold Block.calBegin
  repeat' first
    | (with_reducible assumption)
    | (with_reducible exact Area.sub ‹_›)
    | (with_reducible exact Frame.refl)
    | (with_reducible apply Frame.ite)
    | (with_reducible refine Frame.foldl ?_ (fun _ _ _ => ?_))
    | (with_reducible apply frame_modCalSurf)
    | (with_reducible apply frame_run)
    | (with_reducible apply frame_putBit)
    | (with_reducible apply frame_calKind)
    | (fail_if_no_progress extract_lets)
    | intro _
    | (with_reducible split)

theorem frame_modRun {l₀ : List Area} {b₀ b : Block} (h₀ : Frame l₀ b₀ b) (s : Fin 4) (f : CalRun → CalRun)
    (hl : [.cal] ⊆ l₀ := by first | assumption | exact Area.sub ‹_›) :
    Frame l₀ b₀ (b.modRun s f) := by
  unfold Block.modRun
  repeat' first
    | (with_reducible assumption)
    | (with_reducible exact Area.sub ‹_›)
    | (with_reducible exact Frame.refl)
    | (with_reducible apply Frame.ite)
    | (with_reducible refine Frame.foldl ?_ (fun _ _ _ => ?_))
    | (with_reducible apply frame_modCalSurf)
    | (with_reducible apply frame_run)
    | (fail_if_no_progress extract_lets)
    | intro _
    | (with_reducible split)

theorem frame_endAwait {l₀ : List Area} {b₀ b : Block} (h₀ : Frame l₀ b₀ b) (s : Fin 4)
    (hl : [.pw] ⊆ l₀ := by first | assumption | exact Area.sub ‹_›) :
    Frame l₀ b₀ (b.endAwait s) := by
  unfold Block.endAwait
  repeat' first
    | (with_reducible assumption)
    | (with_reducible exact Area.sub ‹_›)
    | (with_reducible exact Frame.refl)
    | (with_reducible apply Frame.ite)
    | (with_reducible refine Frame.foldl ?_ (fun _ _ _ => ?_))
    | (with_reducible apply frame_modPw)
    | (fail_if_no_progress extract_lets)
    | intro _
    | (with_reducible split)

theorem frame_badBand {l₀ : List Area} {b₀ b : Block} (h₀ : Frame l₀ b₀ b) (s : Fin 4) (band : Nat)
    (hl : [.regs, .irq, .servo, .wp, .cal, .hq, .store, .ml, .pw, .out] ⊆ l₀ := by first | assumption | exact Area.sub ‹_›) :
    Frame l₀ b₀ (b.badBand s band) := by
  unfold Block.badBand
  repeat' first
    | (with_reducible assumption)
    | (with_reducible exact Area.sub ‹_›)
    | (with_reducible exact Frame.refl)
    | (with_reducible apply Frame.ite)
    | (with_reducible refine Frame.foldl ?_ (fun _ _ _ => ?_))
    | (with_reducible apply frame_run)
    | (with_reducible apply frame_setFld)
    | (with_reducible apply frame_endAwait)
    | (with_reducible apply frame_modWp)
    | (with_reducible apply frame_bandEntryFor)
    | (with_reducible apply frame_raiseSurf)
    | (with_reducible apply frame_modCalSurf)
    | (with_reducible apply frame_surfDown)
    | (fail_if_no_progress extract_lets)
    | intro _
    | (with_reducible split)

theorem frame_wstLoad {l₀ : List Area} {b₀ b : Block} (h₀ : Frame l₀ b₀ b) (s : Fin 4) (table : Nat) (entries : List Word)
    (hl : [.se, .out] ⊆ l₀ := by first | assumption | exact Area.sub ‹_›) :
    Frame l₀ b₀ (b.wstLoad s table entries) := by
  unfold Block.wstLoad
  repeat' first
    | (with_reducible assumption)
    | (with_reducible exact Area.sub ‹_›)
    | (with_reducible exact Frame.refl)
    | (with_reducible apply Frame.ite)
    | (with_reducible refine Frame.foldl ?_ (fun _ _ _ => ?_))
    | (with_reducible apply frame_sedge)
    | (with_reducible apply frame_modSe)
    | (fail_if_no_progress extract_lets)
    | intro _
    | (with_reducible split)

theorem frame_defaultWst {l₀ : List Area} {b₀ b : Block} (h₀ : Frame l₀ b₀ b)
    (hl : [.free] ⊆ l₀ := by first | assumption | exact Area.sub ‹_›) : Frame l₀ b₀ b.defaultWst.2 := by
  unfold Block.defaultWst
  generalize List.range 28 = l
  suffices h : ∀ r : List Word × Block, Frame l₀ b₀ r.2 →
      Frame l₀ b₀ (l.foldl (fun (acc : List Word × Block) _ =>
        (acc.1 ++ [BitVec.ofNat 32 acc.2.freeVal.1], acc.2.freeVal.2)) r).2 from h _ h₀
  induction l with
  | nil => exact fun _ h => h
  | cons w t ih => exact fun r h => ih _ (frame_freeVal h)

theorem frame_calBad {l₀ : List Area} {b₀ b : Block} (h₀ : Frame l₀ b₀ b) (s : Fin 4) (values : List Nat)
    (hl : [.regs, .irq, .servo, .wp, .se, .cal, .hq, .store, .ml, .pw, .out, .free] ⊆ l₀ := by first | assumption | exact Area.sub ‹_›) :
    Frame l₀ b₀ (b.calBad s values) := by
  unfold Block.calBad
  repeat' first
    | (with_reducible assumption)
    | (with_reducible exact Area.sub ‹_›)
    | (with_reducible exact Frame.refl)
    | (with_reducible apply Frame.ite)
    | (with_reducible refine Frame.foldl ?_ (fun _ _ _ => ?_))
    | (with_reducible apply Frame.ite2)
    | (with_reducible refine Frame.snd (by with_reducible assumption) ?_)
    | (with_reducible refine Frame.thd (by with_reducible assumption) ?_)
    | (with_reducible apply frame_run)
    | (with_reducible apply frame_calEnd)
    | (with_reducible apply frame_bump)
    | (with_reducible apply frame_raise)
    | (with_reducible apply frame_modCal)
    | (with_reducible apply frame_modCalSurf)
    | (with_reducible apply frame_modServo)
    | (with_reducible apply frame_raiseSurf)
    | (with_reducible apply frame_badBand)
    | (with_reducible apply frame_defaultWst)
    | (with_reducible apply frame_wstLoad)
    | (fail_if_no_progress extract_lets)
    | intro _
    | (with_reducible split)

theorem frame_fillMap {l₀ : List Area} {b₀ b : Block} (h₀ : Frame l₀ b₀ b) (n : Nat) (offs : List Int)
    (hl : [.regs, .irq, .ml, .out] ⊆ l₀ := by first | assumption | exact Area.sub ‹_›) :
    Frame l₀ b₀ (b.fillMap n offs) := by
  unfold Block.fillMap
  repeat' first
    | (with_reducible assumption)
    | (with_reducible exact Area.sub ‹_›)
    | (with_reducible exact Frame.refl)
    | (with_reducible apply Frame.ite)
    | (with_reducible refine Frame.foldl ?_ (fun _ _ _ => ?_))
    | (with_reducible apply frame_wr)
    | (with_reducible apply frame_setFld)
    | (with_reducible apply frame_setBit)
    | (with_reducible apply frame_raise)
    | (fail_if_no_progress extract_lets)
    | intro _
    | (with_reducible split)

theorem frame_adcEnds {l₀ : List Area} {b₀ b : Block} (h₀ : Frame l₀ b₀ b)
    (hl : [.regs, .irq, .cal, .ml, .out] ⊆ l₀ := by first | assumption | exact Area.sub ‹_›) :
    Frame l₀ b₀ (b.adcEnds) := by
  unfold Block.adcEnds
  repeat' first
    | (with_reducible assumption)
    | (with_reducible exact Area.sub ‹_›)
    | (with_reducible exact Frame.refl)
    | (with_reducible apply Frame.ite)
    | (with_reducible refine Frame.foldl ?_ (fun _ _ _ => ?_))
    | (with_reducible apply frame_setFld)
    | (with_reducible apply frame_raise)
    | (with_reducible apply frame_modCal)
    | (fail_if_no_progress extract_lets)
    | intro _
    | (with_reducible split)

theorem frame_execCalAdcOffset {l₀ : List Area} {b₀ : Block} {s t : State} {s' : Fin 4} {bg : Bool} {offs : Option (List (List (BitVec 8)))} (e₀ : execCalAdcOffset s' bg offs s = .next t)
    (h₀ : Frame l₀ b₀ s.toBlock)
    (hl : [.regs, .irq, .cal, .ml, .out] ⊆ l₀ := by first | assumption | exact Area.sub ‹_›) : Frame l₀ b₀ t.toBlock := by
  unfold execCalAdcOffset at e₀
  refine Frame.upd e₀ h₀ (fun _ _ => ?_)
  repeat' first
    | (with_reducible assumption)
    | (with_reducible exact Area.sub ‹_›)
    | (with_reducible exact Frame.refl)
    | (with_reducible apply Frame.ite)
    | (with_reducible refine Frame.foldl ?_ (fun _ _ _ => ?_))
    | (with_reducible apply frame_onSurf)
    | (with_reducible apply frame_calBegin)
    | (with_reducible apply frame_fillMap)
    | (with_reducible apply frame_calEnd)
    | (with_reducible apply frame_modCal)
    | (with_reducible apply frame_adcEnds)
    | (fail_if_no_progress extract_lets)
    | intro _
    | (with_reducible split)

theorem frame_execCalServoOffset {l₀ : List Area} {b₀ : Block} {s t : State} {s' : Fin 4} {bg : Bool} {means : Option (Vector (BitVec 14) 9)} (e₀ : execCalServoOffset s' bg means s = .next t)
    (h₀ : Frame l₀ b₀ s.toBlock)
    (hl : [.regs, .irq, .servo, .wp, .se, .cal, .hq, .store, .ml, .pw, .out, .free] ⊆ l₀ := by first | assumption | exact Area.sub ‹_›) : Frame l₀ b₀ t.toBlock := by
  unfold execCalServoOffset at e₀
  refine Frame.upd e₀ h₀ (fun _ _ => ?_)
  repeat' first
    | (with_reducible assumption)
    | (with_reducible exact Area.sub ‹_›)
    | (with_reducible exact Frame.refl)
    | (with_reducible apply Frame.ite)
    | (with_reducible refine Frame.foldl ?_ (fun _ _ _ => ?_))
    | (with_reducible apply frame_onSurf)
    | (with_reducible apply frame_calBegin)
    | (with_reducible apply frame_calBad)
    | (with_reducible apply frame_setFld)
    | (with_reducible apply frame_calEnd)
    | (fail_if_no_progress extract_lets)
    | intro _
    | (with_reducible split)

theorem frame_scaleLoop {l₀ : List Area} {b₀ b : Block} (h₀ : Frame l₀ b₀ b) (entry : Nat) (e : Int)
    (hl : [.regs, .le] ⊆ l₀ := by first | assumption | exact Area.sub ‹_›) :
    Frame l₀ b₀ (b.scaleLoop entry e) := by
  unfold Block.scaleLoop
  repeat' first
    | (with_reducible assumption)
    | (with_reducible exact Area.sub ‹_›)
    | (with_reducible exact Frame.refl)
    | (with_reducible apply Frame.ite)
    | (with_reducible refine Frame.foldl ?_ (fun _ _ _ => ?_))
    | (with_reducible apply frame_leMemWrite)
    | (fail_if_no_progress extract_lets)
    | intro _
    | (with_reducible split)

theorem frame_execCalLoopGain {l₀ : List Area} {b₀ : Block} {s t : State} {s' : Fin 4} {bg : Bool} {err : Option (BitVec 16 × BitVec 16)} (e₀ : execCalLoopGain s' bg err s = .next t)
    (h₀ : Frame l₀ b₀ s.toBlock)
    (hl : [.regs, .irq, .le, .servo, .wp, .se, .cal, .hq, .store, .ml, .pw, .out, .free] ⊆ l₀ := by first | assumption | exact Area.sub ‹_›) : Frame l₀ b₀ t.toBlock := by
  unfold execCalLoopGain at e₀
  refine Frame.upd e₀ h₀ (fun _ _ => ?_)
  repeat' first
    | (with_reducible assumption)
    | (with_reducible exact Area.sub ‹_›)
    | (with_reducible exact Frame.refl)
    | (with_reducible apply Frame.ite)
    | (with_reducible refine Frame.foldl ?_ (fun _ _ _ => ?_))
    | (with_reducible apply frame_onSurf)
    | (with_reducible apply frame_calBegin)
    | (with_reducible apply frame_calBad)
    | (with_reducible apply frame_scaleLoop)
    | (with_reducible apply frame_modLe)
    | (with_reducible apply frame_raiseSurf)
    | (with_reducible apply frame_calEnd)
    | (fail_if_no_progress extract_lets)
    | intro _
    | (with_reducible split)

theorem frame_testUnit {l₀ : List Area} {b₀ b c : Block} {s : Fin 4} {band : Nat} {area : Bool}
    (e : b.testUnit s band area = some c) (h₀ : Frame l₀ b₀ b)
    (hl : [.cal] ⊆ l₀ := by first | assumption | exact Area.sub ‹_›) : Frame l₀ b₀ c := by
  unfold Block.testUnit at e
  dsimp only at e
  split at e
  · cases e; exact frame_modCalSurf h₀ _ _
  · split at e
    · cases e; exact frame_modCalSurf h₀ _ _
    · split at e <;> cases e
      exact frame_modCalSurf h₀ _ _

theorem frame_testPowers {l₀ : List Area} {b₀ b : Block} (h₀ : Frame l₀ b₀ b) (s : Fin 4) (c : CalRun)
    (hl : [.out] ⊆ l₀ := by first | assumption | exact Area.sub ‹_›) :
    Frame l₀ b₀ (b.testPowers s c) := by
  unfold Block.testPowers
  repeat' first
    | (with_reducible assumption)
    | (with_reducible exact Area.sub ‹_›)
    | (with_reducible exact Frame.refl)
    | (with_reducible apply Frame.ite)
    | (with_reducible refine Frame.foldl ?_ (fun _ _ _ => ?_))
    | (with_reducible apply frame_sedge)
    | (fail_if_no_progress extract_lets)
    | intro _
    | (with_reducible split)

theorem frame_nextUnit {l₀ : List Area} {b₀ b : Block} (h₀ : Frame l₀ b₀ b) (s : Fin 4)
    (hl : [.regs, .irq, .servo, .wp, .se, .cal, .hq, .store, .ml, .pw, .out, .free] ⊆ l₀ := by first | assumption | exact Area.sub ‹_›) :
    Frame l₀ b₀ (b.nextUnit s) := by
  unfold Block.nextUnit
  repeat' first
    | (with_reducible assumption)
    | (with_reducible exact Area.sub ‹_›)
    | (with_reducible exact Frame.refl)
    | (with_reducible apply Frame.ite)
    | (with_reducible refine Frame.foldl ?_ (fun _ _ _ => ?_))
    | (with_reducible apply frame_run)
    | (with_reducible refine frame_testUnit (by with_reducible assumption) ?_)
    | (with_reducible apply frame_testPowers)
    | (with_reducible apply frame_raiseSurf)
    | (with_reducible apply frame_calBad)
    | (fail_if_no_progress extract_lets)
    | intro _
    | (with_reducible split)

theorem frame_powerFound {l₀ : List Area} {b₀ b : Block} (h₀ : Frame l₀ b₀ b) (s : Fin 4) (c : CalRun)
    (hl : [.regs, .irq, .se, .cal, .ml, .pw, .out] ⊆ l₀ := by first | assumption | exact Area.sub ‹_›) :
    Frame l₀ b₀ (b.powerFound s c) := by
  unfold Block.powerFound
  repeat' first
    | (with_reducible assumption)
    | (with_reducible exact Area.sub ‹_›)
    | (with_reducible exact Frame.refl)
    | (with_reducible apply Frame.ite)
    | (with_reducible refine Frame.foldl ?_ (fun _ _ _ => ?_))
    | (with_reducible apply frame_setFld)
    | (with_reducible apply frame_modSe)
    | (with_reducible apply frame_raiseSurf)
    | (with_reducible apply frame_modCalSurf)
    | (with_reducible apply frame_endAwait)
    | (with_reducible apply frame_calEnd)
    | (fail_if_no_progress extract_lets)
    | intro _
    | (with_reducible split)

theorem frame_judgeUnit {l₀ : List Area} {b₀ b : Block} (h₀ : Frame l₀ b₀ b) (s : Fin 4) (errs : Vector (BitVec 16) 16)
    (hl : [.regs, .irq, .servo, .wp, .se, .cal, .hq, .store, .ml, .pw, .out, .free] ⊆ l₀ := by first | assumption | exact Area.sub ‹_›) :
    Frame l₀ b₀ (b.judgeUnit s errs) := by
  unfold Block.judgeUnit
  repeat' first
    | (with_reducible assumption)
    | (with_reducible exact Area.sub ‹_›)
    | (with_reducible exact Frame.refl)
    | (with_reducible apply Frame.ite)
    | (with_reducible refine Frame.foldl ?_ (fun _ _ _ => ?_))
    | (with_reducible apply frame_powerFound)
    | (with_reducible apply frame_modRun)
    | (with_reducible apply frame_bump)
    | (with_reducible apply frame_raiseSurf)
    | (with_reducible apply frame_nextUnit)
    | (with_reducible apply frame_calBad)
    | (fail_if_no_progress extract_lets)
    | intro _
    | (with_reducible split)

theorem frame_execCalWritePower {l₀ : List Area} {b₀ : Block} {s t : State} {s' : Fin 4} {area : Bool} {bg : Bool} {errs : Option (Vector (BitVec 16) 16)} (e₀ : execCalWritePower s' area bg errs s = .next t)
    (h₀ : Frame l₀ b₀ s.toBlock)
    (hl : [.regs, .irq, .servo, .wp, .se, .cal, .hq, .store, .ml, .pw, .out, .free] ⊆ l₀ := by first | assumption | exact Area.sub ‹_›) : Frame l₀ b₀ t.toBlock := by
  unfold execCalWritePower at e₀
  refine Frame.upd e₀ h₀ (fun _ _ => ?_)
  dsimp only
  repeat' first
    | (with_reducible assumption)
    | (with_reducible exact Area.sub ‹_›)
    | (with_reducible exact Frame.refl)
    | (with_reducible apply Frame.ite)
    | (with_reducible refine Frame.foldl ?_ (fun _ _ _ => ?_))
    | (with_reducible apply frame_onSurf)
    | (with_reducible apply frame_calBegin)
    | (with_reducible apply frame_nextUnit)
    | (with_reducible apply frame_judgeUnit)
    | (fail_if_no_progress extract_lets)
    | intro _
    | (with_reducible split)

theorem frame_execCalWriteStrategy {l₀ : List Area} {b₀ : Block} {s t : State} {s' : Fin 4} {table : Option (Vector Word 28)} (e₀ : execCalWriteStrategy s' table s = .next t)
    (h₀ : Frame l₀ b₀ s.toBlock)
    (hl : [.regs, .irq, .se, .cal, .ml, .out] ⊆ l₀ := by first | assumption | exact Area.sub ‹_›) : Frame l₀ b₀ t.toBlock := by
  unfold execCalWriteStrategy at e₀
  refine Frame.upd e₀ h₀ (fun _ _ => ?_)
  repeat' first
    | (with_reducible assumption)
    | (with_reducible exact Area.sub ‹_›)
    | (with_reducible exact Frame.refl)
    | (with_reducible apply Frame.ite)
    | (with_reducible refine Frame.foldl ?_ (fun _ _ _ => ?_))
    | (with_reducible apply frame_onSurf)
    | (with_reducible apply frame_calBegin)
    | (with_reducible apply frame_wstLoad)
    | (with_reducible apply frame_modCalSurf)
    | (with_reducible apply frame_raiseSurf)
    | (with_reducible apply frame_calEnd)
    | (fail_if_no_progress extract_lets)
    | intro _
    | (with_reducible split)

theorem frame_execCalTimeout {l₀ : List Area} {b₀ : Block} {s t : State} {s' : Fin 4} (e₀ : execCalTimeout s' s = .next t)
    (h₀ : Frame l₀ b₀ s.toBlock)
    (hl : [.regs, .irq, .servo, .wp, .se, .cal, .hq, .store, .ml, .pw, .out, .free] ⊆ l₀ := by first | assumption | exact Area.sub ‹_›) : Frame l₀ b₀ t.toBlock := by
  unfold execCalTimeout at e₀
  refine Frame.upd e₀ h₀ (fun _ _ => ?_)
  repeat' first
    | (with_reducible assumption)
    | (with_reducible exact Area.sub ‹_›)
    | (with_reducible exact Frame.refl)
    | (with_reducible apply Frame.ite)
    | (with_reducible refine Frame.foldl ?_ (fun _ _ _ => ?_))
    | (with_reducible apply frame_onSurf)
    | (with_reducible apply frame_run)
    | (with_reducible apply frame_calBad)
    | (with_reducible apply frame_adcEnds)
    | (fail_if_no_progress extract_lets)
    | intro _
    | (with_reducible split)

theorem frame_execDeferralExpiry {l₀ : List Area} {b₀ : Block} {s t : State} {e : Fin 7} (e₀ : execDeferralExpiry e s = .next t)
    (h₀ : Frame l₀ b₀ s.toBlock)
    (hl : [.regs, .irq, .cal, .ml, .out] ⊆ l₀ := by first | assumption | exact Area.sub ‹_›) : Frame l₀ b₀ t.toBlock := by
  unfold execDeferralExpiry at e₀
  refine Frame.upd e₀ h₀ (fun _ _ => ?_)
  repeat' first
    | (with_reducible assumption)
    | (with_reducible exact Area.sub ‹_›)
    | (with_reducible exact Frame.refl)
    | (with_reducible apply Frame.ite)
    | (with_reducible refine Frame.foldl ?_ (fun _ _ _ => ?_))
    | (with_reducible apply frame_putBit)
    | (with_reducible apply frame_modCal)
    | (with_reducible apply frame_bump)
    | (with_reducible apply frame_raise)
    | (fail_if_no_progress extract_lets)
    | intro _
    | (with_reducible split)

theorem frame_telRebase {l₀ : List Area} {b₀ b : Block} (h₀ : Frame l₀ b₀ b) (n : Nat)
    (hl : [.cal] ⊆ l₀ := by first | assumption | exact Area.sub ‹_›) :
    Frame l₀ b₀ (b.telRebase n) := by
  unfold Block.telRebase
  repeat' first
    | (with_reducible assumption)
    | (with_reducible exact Area.sub ‹_›)
    | (with_reducible exact Frame.refl)
    | (with_reducible apply Frame.ite)
    | (with_reducible refine Frame.foldl ?_ (fun _ _ _ => ?_))
    | (with_reducible apply frame_modCal)
    | (fail_if_no_progress extract_lets)
    | intro _
    | (with_reducible split)

theorem frame_telCleared {l₀ : List Area} {b₀ b : Block} (h₀ : Frame l₀ b₀ b) (n : Nat) (i : Nat) (v : Nat)
    (hl : [.cal] ⊆ l₀ := by first | assumption | exact Area.sub ‹_›) :
    Frame l₀ b₀ (b.telCleared n i v) := by
  unfold Block.telCleared
  repeat' first
    | (with_reducible assumption)
    | (with_reducible exact Area.sub ‹_›)
    | (with_reducible exact Frame.refl)
    | (with_reducible apply Frame.ite)
    | (with_reducible refine Frame.foldl ?_ (fun _ _ _ => ?_))
    | (with_reducible apply frame_modCal)
    | (fail_if_no_progress extract_lets)
    | intro _
    | (with_reducible split)

theorem frame_execTelemetrySample {l₀ : List Area} {b₀ : Block} {s t : State} {set : Fin 5} {inst : Fin 64} {magTemp : BitVec 16} {humidity : BitVec 8} {draw : BitVec 16} (e₀ : execTelemetrySample set inst magTemp humidity draw s = .next t)
    (h₀ : Frame l₀ b₀ s.toBlock)
    (hl : [.regs, .irq, .wp, .cal, .ml, .out] ⊆ l₀ := by first | assumption | exact Area.sub ‹_›) : Frame l₀ b₀ t.toBlock := by
  unfold execTelemetrySample at e₀
  refine Frame.upd e₀ h₀ (fun _ _ => ?_)
  repeat' first
    | (with_reducible assumption)
    | (with_reducible exact Area.sub ‹_›)
    | (with_reducible exact Frame.refl)
    | (with_reducible apply Frame.ite)
    | (with_reducible refine Frame.foldl ?_ (fun _ _ _ => ?_))
    | (with_reducible apply frame_telRecord)
    | (with_reducible apply frame_onSurf)
    | (with_reducible apply frame_modCalSurf)
    | (with_reducible apply frame_onBeam)
    | (with_reducible apply frame_telRebase)
    | (fail_if_no_progress extract_lets)
    | intro _
    | (with_reducible split)

theorem frame_execDieTemperatureWarning {l₀ : List Area} {b₀ : Block} {s t : State} {temp : BitVec 16} (e₀ : execDieTemperatureWarning temp s = .next t)
    (h₀ : Frame l₀ b₀ s.toBlock)
    (hl : [.hq] ⊆ l₀ := by first | assumption | exact Area.sub ‹_›) : Frame l₀ b₀ t.toBlock := by
  unfold execDieTemperatureWarning at e₀
  refine Frame.upd e₀ h₀ (fun _ _ => ?_)
  repeat' first
    | (with_reducible assumption)
    | (with_reducible exact Area.sub ‹_›)
    | (with_reducible exact Frame.refl)
    | (with_reducible apply Frame.ite)
    | (with_reducible refine Frame.foldl ?_ (fun _ _ _ => ?_))
    | (with_reducible apply frame_modHq)
    | (with_reducible apply frame_async)
    | (fail_if_no_progress extract_lets)
    | intro _
    | (with_reducible split)

theorem frame_i2cGo {l₀ : List Area} {b₀ b : Block} (h₀ : Frame l₀ b₀ b) (v : Word)
    (hl : [.regs, .out] ⊆ l₀ := by first | assumption | exact Area.sub ‹_›) :
    Frame l₀ b₀ (b.i2cGo v) := by
  unfold Block.i2cGo
  repeat' first
    | (with_reducible assumption)
    | (with_reducible exact Area.sub ‹_›)
    | (with_reducible exact Frame.refl)
    | (with_reducible apply Frame.ite)
    | (with_reducible refine Frame.foldl ?_ (fun _ _ _ => ?_))
    | (with_reducible apply frame_setFld)
    | (with_reducible apply frame_emit)
    | (fail_if_no_progress extract_lets)
    | intro _
    | (with_reducible split)

theorem frame_execI2cTransfer {l₀ : List Area} {b₀ : Block} {s t : State} {v : Word} (e₀ : execI2cTransfer v s = .next t)
    (h₀ : Frame l₀ b₀ s.toBlock)
    (hl : [.regs, .out] ⊆ l₀ := by first | assumption | exact Area.sub ‹_›) : Frame l₀ b₀ t.toBlock := by
  unfold execI2cTransfer at e₀
  refine Frame.upd e₀ h₀ (fun _ _ => ?_)
  repeat' first
    | (with_reducible assumption)
    | (with_reducible exact Area.sub ‹_›)
    | (with_reducible exact Frame.refl)
    | (with_reducible apply Frame.ite)
    | (with_reducible refine Frame.foldl ?_ (fun _ _ _ => ?_))
    | (with_reducible apply frame_wr)
    | (with_reducible apply frame_i2cGo)
    | (fail_if_no_progress extract_lets)
    | intro _
    | (with_reducible split)

theorem frame_execI2cTransferDone {l₀ : List Area} {b₀ : Block} {s t : State} {r : I2cEnd} (e₀ : execI2cTransferDone r s = .next t)
    (h₀ : Frame l₀ b₀ s.toBlock)
    (hl : [.regs] ⊆ l₀ := by first | assumption | exact Area.sub ‹_›) : Frame l₀ b₀ t.toBlock := by
  unfold execI2cTransferDone at e₀
  refine Frame.upd e₀ h₀ (fun _ _ => ?_)
  repeat' first
    | (with_reducible assumption)
    | (with_reducible exact Area.sub ‹_›)
    | (with_reducible exact Frame.refl)
    | (with_reducible apply Frame.ite)
    | (with_reducible refine Frame.foldl ?_ (fun _ _ _ => ?_))
    | (with_reducible apply frame_setFld)
    | (with_reducible apply frame_wr)
    | (fail_if_no_progress extract_lets)
    | intro _
    | (with_reducible split)

/-! ### Machine/Store.lean -/

theorem frame_arriveRaw {l₀ : List Area} {b₀ b : Block} (h₀ : Frame l₀ b₀ b) (seq : Nat) (grp : Nat) (ns : Nat) (clip : Nat) (frame : Nat) (off : Nat) (gen : Nat) (vlen : Nat) (ends : Bool × Bool) (surf : Option Nat) (res : Nat) (bytes : List Byte)
    (hl : [.store, .pt] ⊆ l₀ := by first | assumption | exact Area.sub ‹_›) :
    Frame l₀ b₀ (b.arriveRaw seq grp ns clip frame off gen vlen ends surf res bytes) := by
  unfold Block.arriveRaw
  repeat' first
    | (with_reducible assumption)
    | (with_reducible exact Area.sub ‹_›)
    | (with_reducible exact Frame.refl)
    | (with_reducible apply Frame.ite)
    | (with_reducible refine Frame.foldl ?_ (fun _ _ _ => ?_))
    | (with_reducible apply frame_modPt)
    | (with_reducible apply frame_modStore)
    | (fail_if_no_progress extract_lets)
    | intro _
    | (with_reducible split)

theorem frame_arrive {l₀ : List Area} {b₀ b : Block} (h₀ : Frame l₀ b₀ b) (c : Cmd) (grp : Nat) (ns : Nat) (clip : Nat) (frame : Nat) (off : Nat) (gen : Nat) (vlen : Nat) (ends : Bool × Bool) (surf : Option Nat) (res : Nat) (payload : List Byte)
    (hl : [.store, .pt] ⊆ l₀ := by first | assumption | exact Area.sub ‹_›) :
    Frame l₀ b₀ (b.arrive c grp ns clip frame off gen vlen ends surf res payload) := by
  unfold Block.arrive
  repeat' first
    | (with_reducible assumption)
    | (with_reducible exact Area.sub ‹_›)
    | (with_reducible exact Frame.refl)
    | (with_reducible apply Frame.ite)
    | (with_reducible refine Frame.foldl ?_ (fun _ _ _ => ?_))
    | (with_reducible apply frame_arriveRaw)
    | (fail_if_no_progress extract_lets)
    | intro _
    | (with_reducible split)

theorem frame_unitOld {l₀ : List Area} {b₀ b : Block} (h₀ : Frame l₀ b₀ b) (media : List MediaCell) (u : Nat)
    (hl : [.free] ⊆ l₀ := by first | assumption | exact Area.sub ‹_›) :
    Frame l₀ b₀ (b.unitOld media u).2 := by
  unfold Block.unitOld
  repeat' first
    | (with_reducible assumption)
    | (with_reducible exact Area.sub ‹_›)
    | (with_reducible exact Frame.refl)
    | (with_reducible apply Frame.ite)
    | (with_reducible refine Frame.foldl ?_ (fun _ _ _ => ?_))
    | (with_reducible apply Frame.ite2)
    | (with_reducible refine Frame.snd (by with_reducible assumption) ?_)
    | (with_reducible refine Frame.thd (by with_reducible assumption) ?_)
    | (with_reducible apply frame_freeVal)
    | (fail_if_no_progress extract_lets)
    | intro _
    | (with_reducible split)

theorem frame_spareEvent {l₀ : List Area} {b₀ b : Block} (h₀ : Frame l₀ b₀ b) (was : Nat)
    (hl : [.hq] ⊆ l₀ := by first | assumption | exact Area.sub ‹_›) :
    Frame l₀ b₀ (b.spareEvent was) := by
  unfold Block.spareEvent
  repeat' first
    | (with_reducible assumption)
    | (with_reducible exact Area.sub ‹_›)
    | (with_reducible exact Frame.refl)
    | (with_reducible apply Frame.ite)
    | (with_reducible refine Frame.foldl ?_ (fun _ _ _ => ?_))
    | (with_reducible apply frame_async)
    | (fail_if_no_progress extract_lets)
    | intro _
    | (with_reducible split)

theorem frame_execBlockWrite {l₀ : List Area} {b₀ : Block} {s t : State} {tag : Nat} {data : List Byte} {media : List MediaCell} (e₀ : execBlockWrite tag data media s = .next t)
    (h₀ : Frame l₀ b₀ s.toBlock)
    (hl : [.regs, .irq, .hq, .store, .pt, .ml, .out, .free] ⊆ l₀ := by first | assumption | exact Area.sub ‹_›) : Frame l₀ b₀ t.toBlock := by
  unfold execBlockWrite at e₀
  refine Frame.upd e₀ h₀ (fun _ _ => ?_)
  repeat' first
    | (with_reducible assumption)
    | (with_reducible exact Area.sub ‹_›)
    | (with_reducible exact Frame.refl)
    | (with_reducible apply Frame.ite)
    | (with_reducible refine Frame.foldl ?_ (fun _ _ _ => ?_))
    | (with_reducible apply Frame.ite2)
    | (with_reducible refine Frame.snd (by with_reducible assumption) ?_)
    | (with_reducible refine Frame.thd (by with_reducible assumption) ?_)
    | (with_reducible apply frame_actOn)
    | (with_reducible apply frame_dropClaims)
    | (with_reducible apply frame_failWith)
    | (with_reducible apply frame_modVol)
    | (with_reducible apply frame_unitOld)
    | (with_reducible apply frame_arrive)
    | (with_reducible apply frame_purgeOlds)
    | (with_reducible apply frame_mirrorData)
    | (with_reducible apply frame_modStore)
    | (with_reducible apply frame_spareEvent)
    | (with_reducible apply frame_claimsTaken)
    | (with_reducible apply frame_succeed)
    | (fail_if_no_progress extract_lets)
    | intro _
    | (with_reducible split)

theorem frame_readEnd {l₀ : List Area} {b₀ b : Block} (h₀ : Frame l₀ b₀ b) (c : Cmd) (bytes : List Byte) (damage : List (Nat × Nat × Nat)) (res : Nat) (count : Nat) (clip : Nat) (lost : Option Chunk)
    (hl : [.hq, .out] ⊆ l₀ := by first | assumption | exact Area.sub ‹_›) :
    Frame l₀ b₀ (b.readEnd c bytes damage res count clip lost) := by
  unfold Block.readEnd
  repeat' first
    | (with_reducible assumption)
    | (with_reducible exact Area.sub ‹_›)
    | (with_reducible exact Frame.refl)
    | (with_reducible apply Frame.ite)
    | (with_reducible refine Frame.foldl ?_ (fun _ _ _ => ?_))
    | (with_reducible apply frame_sendData)
    | (with_reducible apply frame_succeed)
    | (with_reducible apply frame_finish)
    | (fail_if_no_progress extract_lets)
    | intro _
    | (with_reducible split)

theorem frame_blockRead {l₀ : List Area} {b₀ b : Block} (h₀ : Frame l₀ b₀ b) (c : Cmd) (media : List MediaCell)
    (hl : [.hq, .out] ⊆ l₀ := by first | assumption | exact Area.sub ‹_›) :
    Frame l₀ b₀ (b.blockRead c media) := by
  unfold Block.blockRead
  repeat' first
    | (with_reducible assumption)
    | (with_reducible exact Area.sub ‹_›)
    | (with_reducible exact Frame.refl)
    | (with_reducible apply Frame.ite)
    | (with_reducible refine Frame.foldl ?_ (fun _ _ _ => ?_))
    | (with_reducible apply frame_failWith)
    | (with_reducible apply frame_readEnd)
    | (fail_if_no_progress extract_lets)
    | intro _
    | (with_reducible split)

theorem frame_execBlockRead {l₀ : List Area} {b₀ : Block} {s t : State} {tag : Nat} {media : List MediaCell} (e₀ : execBlockRead tag media s = .next t)
    (h₀ : Frame l₀ b₀ s.toBlock)
    (hl : [.hq, .out] ⊆ l₀ := by first | assumption | exact Area.sub ‹_›) : Frame l₀ b₀ t.toBlock := by
  unfold execBlockRead at e₀
  refine Frame.upd e₀ h₀ (fun _ _ => ?_)
  repeat' first
    | (with_reducible assumption)
    | (with_reducible exact Area.sub ‹_›)
    | (with_reducible exact Frame.refl)
    | (with_reducible apply Frame.ite)
    | (with_reducible refine Frame.foldl ?_ (fun _ _ _ => ?_))
    | (with_reducible apply frame_actOn)
    | (with_reducible apply frame_blockRead)
    | (fail_if_no_progress extract_lets)
    | intro _
    | (with_reducible split)

theorem frame_execFlush {l₀ : List Area} {b₀ : Block} {s t : State} {tag : Nat} (e₀ : execFlush tag s = .next t)
    (h₀ : Frame l₀ b₀ s.toBlock)
    (hl : [.hq] ⊆ l₀ := by first | assumption | exact Area.sub ‹_›) : Frame l₀ b₀ t.toBlock := by
  unfold execFlush at e₀
  refine Frame.upd e₀ h₀ (fun _ _ => ?_)
  repeat' first
    | (with_reducible assumption)
    | (with_reducible exact Area.sub ‹_›)
    | (with_reducible exact Frame.refl)
    | (with_reducible apply Frame.ite)
    | (with_reducible refine Frame.foldl ?_ (fun _ _ _ => ?_))
    | (with_reducible apply frame_actOn)
    | (with_reducible apply frame_succeed)
    | (with_reducible apply frame_failWith)
    | (fail_if_no_progress extract_lets)
    | intro _
    | (with_reducible split)

theorem frame_execClipOpen {l₀ : List Area} {b₀ : Block} {s t : State} {tag : Nat} {metadata : List Byte} {peer : Bool} (e₀ : execClipOpen tag metadata peer s = .next t)
    (h₀ : Frame l₀ b₀ s.toBlock)
    (hl : [.regs, .hq, .store, .ml, .out] ⊆ l₀ := by first | assumption | exact Area.sub ‹_›) : Frame l₀ b₀ t.toBlock := by
  unfold execClipOpen at e₀
  refine Frame.upd e₀ h₀ (fun _ _ => ?_)
  repeat' first
    | (with_reducible assumption)
    | (with_reducible exact Area.sub ‹_›)
    | (with_reducible exact Frame.refl)
    | (with_reducible apply Frame.ite)
    | (with_reducible refine Frame.foldl ?_ (fun _ _ _ => ?_))
    | (with_reducible apply frame_actOn)
    | (with_reducible apply frame_dropClaims)
    | (with_reducible apply frame_failWith)
    | (with_reducible apply frame_modVol)
    | (with_reducible apply frame_journalBoth)
    | (with_reducible apply frame_succeed)
    | (fail_if_no_progress extract_lets)
    | intro _
    | (with_reducible split)

theorem frame_execFrameAppend {l₀ : List Area} {b₀ : Block} {s t : State} {tag : Nat} {data : List Byte} (e₀ : execFrameAppend tag data s = .next t)
    (h₀ : Frame l₀ b₀ s.toBlock)
    (hl : [.regs, .irq, .hq, .store, .pt, .ml, .out] ⊆ l₀ := by first | assumption | exact Area.sub ‹_›) : Frame l₀ b₀ t.toBlock := by
  unfold execFrameAppend at e₀
  refine Frame.upd e₀ h₀ (fun _ _ => ?_)
  repeat' first
    | (with_reducible assumption)
    | (with_reducible exact Area.sub ‹_›)
    | (with_reducible exact Frame.refl)
    | (with_reducible apply Frame.ite)
    | (with_reducible refine Frame.foldl ?_ (fun _ _ _ => ?_))
    | (with_reducible apply frame_actOn)
    | (with_reducible apply frame_dropClaims)
    | (with_reducible apply frame_failWith)
    | (with_reducible apply frame_modClip)
    | (with_reducible apply frame_arrive)
    | (with_reducible apply frame_mirrorData)
    | (with_reducible apply frame_claimsTaken)
    | (with_reducible apply frame_succeed)
    | (fail_if_no_progress extract_lets)
    | intro _
    | (with_reducible split)

theorem frame_closeClip {l₀ : List Area} {b₀ b : Block} (h₀ : Frame l₀ b₀ b) (n : Nat) (metadata : Option (List Byte))
    (hl : [.regs, .store, .ml, .out] ⊆ l₀ := by first | assumption | exact Area.sub ‹_›) :
    Frame l₀ b₀ (b.closeClip n metadata) := by
  unfold Block.closeClip
  repeat' first
    | (with_reducible assumption)
    | (with_reducible exact Area.sub ‹_›)
    | (with_reducible exact Frame.refl)
    | (with_reducible apply Frame.ite)
    | (with_reducible refine Frame.foldl ?_ (fun _ _ _ => ?_))
    | (with_reducible apply frame_modClip)
    | (with_reducible apply frame_journalBoth)
    | (fail_if_no_progress extract_lets)
    | intro _
    | (with_reducible split)

theorem frame_execClipClose {l₀ : List Area} {b₀ : Block} {s t : State} {tag : Nat} {metadata : List Byte} (e₀ : execClipClose tag metadata s = .next t)
    (h₀ : Frame l₀ b₀ s.toBlock)
    (hl : [.regs, .hq, .store, .ml, .out] ⊆ l₀ := by first | assumption | exact Area.sub ‹_›) : Frame l₀ b₀ t.toBlock := by
  unfold execClipClose at e₀
  refine Frame.upd e₀ h₀ (fun _ _ => ?_)
  repeat' first
    | (with_reducible assumption)
    | (with_reducible exact Area.sub ‹_›)
    | (with_reducible exact Frame.refl)
    | (with_reducible apply Frame.ite)
    | (with_reducible refine Frame.foldl ?_ (fun _ _ _ => ?_))
    | (with_reducible apply frame_actOn)
    | (with_reducible apply frame_dropClaims)
    | (with_reducible apply frame_failWith)
    | (with_reducible apply frame_closeClip)
    | (with_reducible apply frame_succeed)
    | (fail_if_no_progress extract_lets)
    | intro _
    | (with_reducible split)

theorem frame_frameRead {l₀ : List Area} {b₀ b : Block} (h₀ : Frame l₀ b₀ b) (c : Cmd) (media : List MediaCell)
    (hl : [.hq, .out] ⊆ l₀ := by first | assumption | exact Area.sub ‹_›) :
    Frame l₀ b₀ (b.frameRead c media) := by
  unfold Block.frameRead
  repeat' first
    | (with_reducible assumption)
    | (with_reducible exact Area.sub ‹_›)
    | (with_reducible exact Frame.refl)
    | (with_reducible apply Frame.ite)
    | (with_reducible refine Frame.foldl ?_ (fun _ _ _ => ?_))
    | (with_reducible apply frame_failWith)
    | (with_reducible apply frame_readEnd)
    | (fail_if_no_progress extract_lets)
    | intro _
    | (with_reducible split)

theorem frame_execFrameRead {l₀ : List Area} {b₀ : Block} {s t : State} {tag : Nat} {media : List MediaCell} (e₀ : execFrameRead tag media s = .next t)
    (h₀ : Frame l₀ b₀ s.toBlock)
    (hl : [.hq, .out] ⊆ l₀ := by first | assumption | exact Area.sub ‹_›) : Frame l₀ b₀ t.toBlock := by
  unfold execFrameRead at e₀
  refine Frame.upd e₀ h₀ (fun _ _ => ?_)
  repeat' first
    | (with_reducible assumption)
    | (with_reducible exact Area.sub ‹_›)
    | (with_reducible exact Frame.refl)
    | (with_reducible apply Frame.ite)
    | (with_reducible refine Frame.foldl ?_ (fun _ _ _ => ?_))
    | (with_reducible apply frame_actOn)
    | (with_reducible apply frame_frameRead)
    | (fail_if_no_progress extract_lets)
    | intro _
    | (with_reducible split)

theorem frame_execCatalogueRead {l₀ : List Area} {b₀ : Block} {s t : State} {tag : Nat} (e₀ : execCatalogueRead tag s = .next t)
    (h₀ : Frame l₀ b₀ s.toBlock)
    (hl : [.hq, .out] ⊆ l₀ := by first | assumption | exact Area.sub ‹_›) : Frame l₀ b₀ t.toBlock := by
  unfold execCatalogueRead at e₀
  refine Frame.upd e₀ h₀ (fun _ _ => ?_)
  repeat' first
    | (with_reducible assumption)
    | (with_reducible exact Area.sub ‹_›)
    | (with_reducible exact Frame.refl)
    | (with_reducible apply Frame.ite)
    | (with_reducible refine Frame.foldl ?_ (fun _ _ _ => ?_))
    | (with_reducible apply frame_actOn)
    | (with_reducible apply frame_failWith)
    | (with_reducible apply frame_sendData)
    | (with_reducible apply frame_succeed)
    | (fail_if_no_progress extract_lets)
    | intro _
    | (with_reducible split)

theorem frame_execClipVerify {l₀ : List Area} {b₀ : Block} {s t : State} {tag : Nat} {bad : List (Nat × Nat)} (e₀ : execClipVerify tag bad s = .next t)
    (h₀ : Frame l₀ b₀ s.toBlock)
    (hl : [.hq, .out] ⊆ l₀ := by first | assumption | exact Area.sub ‹_›) : Frame l₀ b₀ t.toBlock := by
  unfold execClipVerify at e₀
  refine Frame.upd e₀ h₀ (fun _ _ => ?_)
  repeat' first
    | (with_reducible assumption)
    | (with_reducible exact Area.sub ‹_›)
    | (with_reducible exact Frame.refl)
    | (with_reducible apply Frame.ite)
    | (with_reducible refine Frame.foldl ?_ (fun _ _ _ => ?_))
    | (with_reducible apply frame_actOn)
    | (with_reducible apply frame_failWith)
    | (with_reducible apply frame_readEnd)
    | (fail_if_no_progress extract_lets)
    | intro _
    | (with_reducible split)

/-! ### Machine/Ledger.lean -/

theorem frame_modLog {l₀ : List Area} {b₀ b : Block} (h₀ : Frame l₀ b₀ b) (s : Fin 4) (f : LedgerLog → LedgerLog)
    (hl : [.store] ⊆ l₀ := by first | assumption | exact Area.sub ‹_›) :
    Frame l₀ b₀ (b.modLog s f) := by
  unfold Block.modLog
  repeat' first
    | (with_reducible assumption)
    | (with_reducible exact Area.sub ‹_›)
    | (with_reducible exact Frame.refl)
    | (with_reducible apply Frame.ite)
    | (with_reducible refine Frame.foldl ?_ (fun _ _ _ => ?_))
    | (with_reducible apply frame_modVol)
    | (fail_if_no_progress extract_lets)
    | intro _
    | (with_reducible split)

theorem frame_durableCell {l₀ : List Area} {b₀ : Block} {t : Stripe} {acc : List Chunk × Block} (e : Cell × Nat)
    (h : Frame l₀ b₀ acc.2)
    (hl : [.hq, .store] ⊆ l₀ := by first | assumption | exact Area.sub ‹_›) : Frame l₀ b₀ (durableCell t acc e).2 := by
  unfold durableCell
  split
  · exact h
  · dsimp only
    split
    · exact h
    · split
      · refine Frame.pair rfl ?_
        split
        · exact frame_modVol (frame_modChunks h _ _) _
        · exact frame_modChunks h _ _
      · exact Frame.pair rfl (frame_modChunks (frame_releaseDram h _) _ _)

theorem frame_durableCells {l₀ : List Area} {b₀ b : Block} (t : Stripe) (l : List (Cell × Nat)) (h : Frame l₀ b₀ b)
    (hl : [.hq, .store] ⊆ l₀ := by first | assumption | exact Area.sub ‹_›) :
    Frame l₀ b₀ (l.foldl (durableCell t) ([], b)).2 := by
  suffices k : ∀ acc : List Chunk × Block, Frame l₀ b₀ acc.2 → Frame l₀ b₀ (l.foldl (durableCell t) acc).2 from k _ h
  induction l with
  | nil => exact fun _ h => h
  | cons x l ih => exact fun acc h => ih _ (frame_durableCell x h)

theorem frame_execOpticalDurable {l₀ : List Area} {b₀ : Block} {s t : State} {s' : Fin 4} {wseq : BitVec 32}
    (e₀ : execOpticalDurable s' wseq s = .next t) (h₀ : Frame l₀ b₀ s.toBlock)
    (hl : [.regs, .wp, .hq, .store] ⊆ l₀ := by first | assumption | exact Area.sub ‹_›) : Frame l₀ b₀ t.toBlock := by
  unfold execOpticalDurable at e₀
  refine Frame.upd e₀ h₀ (fun _ h => ?_)
  refine frame_onSurf h _ _ (fun c hc => ?_)
  dsimp only
  repeat' first
    | (with_reducible assumption)
    | (with_reducible exact Area.sub ‹_›)
    | (with_reducible apply Frame.ite)
    | (with_reducible refine Frame.foldl ?_ (fun _ _ _ => ?_))
    | (with_reducible apply frame_modLog)
    | (with_reducible apply frame_journalEntry)
    | (with_reducible apply frame_purgeOlds)
    | (with_reducible apply frame_durableCells)
    | (with_reducible apply frame_stripeDurable)
    | intro _
    | (with_reducible split)

theorem frame_execLedgerVisit {l₀ : List Area} {b₀ : Block} {s t : State} {s' : Fin 4} (e₀ : execLedgerVisit s' s = .next t)
    (h₀ : Frame l₀ b₀ s.toBlock)
    (hl : [.regs, .wp, .store, .out] ⊆ l₀ := by first | assumption | exact Area.sub ‹_›) : Frame l₀ b₀ t.toBlock := by
  unfold execLedgerVisit at e₀
  refine Frame.upd e₀ h₀ (fun _ _ => ?_)
  repeat' first
    | (with_reducible assumption)
    | (with_reducible exact Area.sub ‹_›)
    | (with_reducible exact Frame.refl)
    | (with_reducible apply Frame.ite)
    | (with_reducible refine Frame.foldl ?_ (fun _ _ _ => ?_))
    | (with_reducible apply frame_onSurf)
    | (with_reducible apply frame_closeAll)
    | (with_reducible apply frame_modWp)
    | (with_reducible apply frame_modLog)
    | (with_reducible apply frame_run)
    | (with_reducible apply frame_plan)
    | (fail_if_no_progress extract_lets)
    | intro _
    | (with_reducible split)

theorem frame_openWindows {l₀ : List Area} {b₀ b : Block} (h₀ : Frame l₀ b₀ b) (s : Fin 4)
    (hl : [.regs, .irq, .wp, .cal, .ml, .out] ⊆ l₀ := by first | assumption | exact Area.sub ‹_›) :
    Frame l₀ b₀ (b.openWindows s) := by
  unfold Block.openWindows
  repeat' first
    | (with_reducible assumption)
    | (with_reducible exact Area.sub ‹_›)
    | (with_reducible exact Frame.refl)
    | (with_reducible apply Frame.ite)
    | (with_reducible refine Frame.foldl ?_ (fun _ _ _ => ?_))
    | (with_reducible apply frame_modCal)
    | (with_reducible apply frame_modWp)
    | (with_reducible apply frame_modCalSurf)
    | (with_reducible apply frame_persistTel)
    | (with_reducible apply frame_raiseSurf)
    | (fail_if_no_progress extract_lets)
    | intro _
    | (with_reducible split)

theorem frame_execBandStep {l₀ : List Area} {b₀ : Block} {s t : State} {s' : Fin 4} (e₀ : execBandStep s' s = .next t)
    (h₀ : Frame l₀ b₀ s.toBlock)
    (hl : [.regs, .irq, .wp, .cal, .store, .ml, .out] ⊆ l₀ := by first | assumption | exact Area.sub ‹_›) : Frame l₀ b₀ t.toBlock := by
  unfold execBandStep at e₀
  refine Frame.upd e₀ h₀ (fun _ _ => ?_)
  repeat' first
    | (with_reducible assumption)
    | (with_reducible exact Area.sub ‹_›)
    | (with_reducible exact Frame.refl)
    | (with_reducible apply Frame.ite)
    | (with_reducible refine Frame.foldl ?_ (fun _ _ _ => ?_))
    | (with_reducible apply frame_onSurf)
    | (with_reducible apply frame_modVol)
    | (with_reducible apply frame_modWp)
    | (with_reducible apply frame_modStore)
    | (with_reducible apply frame_modLog)
    | (with_reducible apply frame_openWindows)
    | (with_reducible apply frame_bandEntryFor)
    | (fail_if_no_progress extract_lets)
    | intro _
    | (with_reducible split)

theorem frame_drainOne {l₀ : List Area} {b₀ b : Block} (h₀ : Frame l₀ b₀ b) (s : Fin 4) (x : Chunk)
    (hl : [.store] ⊆ l₀ := by first | assumption | exact Area.sub ‹_›) :
    Frame l₀ b₀ (b.drainOne s x) := by
  unfold Block.drainOne
  repeat' first
    | (with_reducible assumption)
    | (with_reducible exact Area.sub ‹_›)
    | (with_reducible exact Frame.refl)
    | (with_reducible apply Frame.ite)
    | (with_reducible refine Frame.foldl ?_ (fun _ _ _ => ?_))
    | (with_reducible apply frame_modChunks)
    | (fail_if_no_progress extract_lets)
    | intro _
    | (with_reducible split)

theorem frame_execStagedDrain {l₀ : List Area} {b₀ : Block} {s t : State} {s' : Fin 4} (e₀ : execStagedDrain s' s = .next t)
    (h₀ : Frame l₀ b₀ s.toBlock)
    (hl : [.store] ⊆ l₀ := by first | assumption | exact Area.sub ‹_›) : Frame l₀ b₀ t.toBlock := by
  unfold execStagedDrain at e₀
  refine Frame.upd e₀ h₀ (fun _ _ => ?_)
  repeat' first
    | (with_reducible assumption)
    | (with_reducible exact Area.sub ‹_›)
    | (with_reducible exact Frame.refl)
    | (with_reducible apply Frame.ite)
    | (with_reducible refine Frame.foldl ?_ (fun _ _ _ => ?_))
    | (with_reducible apply frame_onSurf)
    | (with_reducible apply frame_drainOne)
    | (fail_if_no_progress extract_lets)
    | intro _
    | (with_reducible split)

theorem frame_execStagingFloor {l₀ : List Area} {b₀ : Block} {s t : State} (e₀ : execStagingFloor s = .next t)
    (h₀ : Frame l₀ b₀ s.toBlock)
    (hl : [.hq] ⊆ l₀ := by first | assumption | exact Area.sub ‹_›) : Frame l₀ b₀ t.toBlock := by
  unfold execStagingFloor at e₀
  refine Frame.upd e₀ h₀ (fun _ _ => ?_)
  repeat' first
    | (with_reducible assumption)
    | (with_reducible exact Area.sub ‹_›)
    | (with_reducible exact Frame.refl)
    | (with_reducible apply Frame.ite)
    | (with_reducible refine Frame.foldl ?_ (fun _ _ _ => ?_))
    | (with_reducible apply frame_modHq)
    | (with_reducible apply frame_async)
    | (fail_if_no_progress extract_lets)
    | intro _
    | (with_reducible split)

theorem frame_addOptical {l₀ : List Area} {b₀ b : Block} (h₀ : Frame l₀ b₀ b) (cs : List Chunk)
    (hl : [.store] ⊆ l₀ := by first | assumption | exact Area.sub ‹_›) :
    Frame l₀ b₀ (b.addOptical cs) := by
  unfold Block.addOptical
  repeat' first
    | (with_reducible assumption)
    | (with_reducible exact Area.sub ‹_›)
    | (with_reducible exact Frame.refl)
    | (with_reducible apply Frame.ite)
    | (with_reducible refine Frame.foldl ?_ (fun _ _ _ => ?_))
    | (with_reducible apply frame_modStore)
    | (with_reducible apply frame_modVol)
    | (fail_if_no_progress extract_lets)
    | intro _
    | (with_reducible split)

theorem frame_applyEntry {l₀ : List Area} {b₀ b : Block} (h₀ : Frame l₀ b₀ b) (seen : List (Nat × List Byte)) (t : Nat) (e : List Byte)
    (hl : [.wp, .store] ⊆ l₀ := by first | assumption | exact Area.sub ‹_›) :
    Frame l₀ b₀ (b.applyEntry seen t e) := by
  unfold Block.applyEntry
  repeat' first
    | (with_reducible assumption)
    | (with_reducible exact Area.sub ‹_›)
    | (with_reducible exact Frame.refl)
    | (with_reducible apply Frame.ite)
    | (with_reducible refine Frame.foldl ?_ (fun _ _ _ => ?_))
    | (with_reducible apply frame_modVol)
    | (with_reducible apply frame_addOptical)
    | (with_reducible apply frame_modWp)
    | (with_reducible apply frame_recordFails)
    | (fail_if_no_progress extract_lets)
    | intro _
    | (with_reducible split)

theorem frame_applyEntries {l₀ : List Area} {b₀ b : Block} (h₀ : Frame l₀ b₀ b) (es : List (Nat × List Byte))
    (hl : [.wp, .store] ⊆ l₀ := by first | assumption | exact Area.sub ‹_›) :
    Frame l₀ b₀ (b.applyEntries es) := by
  unfold Block.applyEntries
  suffices k : ∀ acc : List (Nat × List Byte) × Block, Frame l₀ b₀ acc.2 → Frame l₀ b₀
      (es.foldl (fun (acc : List (Nat × List Byte) × Block) e =>
        (acc.1 ++ [e], acc.2.applyEntry acc.1 e.1 e.2)) acc).2 from k _ h₀
  induction es with
  | nil => exact fun _ h => h
  | cons x l ih => exact fun acc h => ih _ (Frame.pair rfl (frame_applyEntry h _ _ _))

theorem frame_skipLost {l₀ : List Area} {b₀ b : Block} (h₀ : Frame l₀ b₀ b) (x : Clip)
    (hl : [.regs, .store, .ml, .out] ⊆ l₀ := by first | assumption | exact Area.sub ‹_›) :
    Frame l₀ b₀ (b.skipLost x) := by
  unfold Block.skipLost
  repeat' first
    | (with_reducible assumption)
    | (with_reducible exact Area.sub ‹_›)
    | (with_reducible exact Frame.refl)
    | (with_reducible apply Frame.ite)
    | (with_reducible refine Frame.foldl ?_ (fun _ _ _ => ?_))
    | (with_reducible apply frame_modStore)
    | (with_reducible apply frame_skipFrames)
    | (fail_if_no_progress extract_lets)
    | intro _
    | (with_reducible split)

theorem frame_execTailScan {l₀ : List Area} {b₀ : Block} {s t : State} {cells : List ScanCell} {voids : List (Nat × Nat × Nat)} {ptrs : List (Fin 4 × Nat × Nat × Nat)} (e₀ : execTailScan cells voids ptrs s = .next t)
    (h₀ : Frame l₀ b₀ s.toBlock)
    (hl : [.regs, .wp, .store, .ml, .out] ⊆ l₀ := by first | assumption | exact Area.sub ‹_›) : Frame l₀ b₀ t.toBlock := by
  unfold execTailScan at e₀
  refine Frame.upd e₀ h₀ (fun _ _ => ?_)
  repeat' first
    | (with_reducible assumption)
    | (with_reducible exact Area.sub ‹_›)
    | (with_reducible exact Frame.refl)
    | (with_reducible apply Frame.ite)
    | (with_reducible refine Frame.foldl ?_ (fun _ _ _ => ?_))
    | (with_reducible apply frame_scan)
    | (with_reducible apply frame_addOptical)
    | (with_reducible apply frame_journalEntry)
    | (with_reducible apply frame_modVol)
    | (with_reducible apply frame_modWp)
    | (with_reducible apply frame_voidEntry)
    | (with_reducible apply frame_skipLost)
    | (fail_if_no_progress extract_lets)
    | intro _
    | (with_reducible split)

/-! ### Machine/Magazine.lean -/

theorem frame_spinsRun {l₀ : List Area} {b₀ b : Block} (h₀ : Frame l₀ b₀ b)
    (hl : [.regs, .irq, .le, .servo, .spin, .wp, .hq, .store, .ml, .pw, .out, .free] ⊆ l₀ := by first | assumption | exact Area.sub ‹_›) :
    Frame l₀ b₀ (b.spinsRun) := by
  unfold Block.spinsRun
  repeat' first
    | (with_reducible assumption)
    | (with_reducible exact Area.sub ‹_›)
    | (with_reducible exact Frame.refl)
    | (with_reducible apply Frame.ite)
    | (with_reducible refine Frame.foldl ?_ (fun _ _ _ => ?_))
    | (with_reducible apply frame_spRun)
    | (fail_if_no_progress extract_lets)
    | intro _
    | (with_reducible split)

theorem frame_spinsStop {l₀ : List Area} {b₀ b : Block} (h₀ : Frame l₀ b₀ b)
    (hl : [.regs, .irq, .le, .servo, .spin, .wp, .hq, .store, .ml, .out] ⊆ l₀ := by first | assumption | exact Area.sub ‹_›) :
    Frame l₀ b₀ (b.spinsStop) := by
  unfold Block.spinsStop
  repeat' first
    | (with_reducible assumption)
    | (with_reducible exact Area.sub ‹_›)
    | (with_reducible exact Frame.refl)
    | (with_reducible apply Frame.ite)
    | (with_reducible refine Frame.foldl ?_ (fun _ _ _ => ?_))
    | (with_reducible apply frame_onSpin)
    | (with_reducible apply frame_setFld)
    | (with_reducible apply frame_spStop)
    | (fail_if_no_progress extract_lets)
    | intro _
    | (with_reducible split)

theorem frame_toStep {l₀ : List Area} {b₀ b : Block} (h₀ : Frame l₀ b₀ b) (c : Cmd) (n : Nat)
    (hl : [.hq] ⊆ l₀ := by first | assumption | exact Area.sub ‹_›) :
    Frame l₀ b₀ (b.toStep c n) := by
  unfold Block.toStep
  repeat' first
    | (with_reducible assumption)
    | (with_reducible exact Area.sub ‹_›)
    | (with_reducible exact Frame.refl)
    | (with_reducible apply Frame.ite)
    | (with_reducible refine Frame.foldl ?_ (fun _ _ _ => ?_))
    | (with_reducible apply frame_modCmd)
    | (fail_if_no_progress extract_lets)
    | intro _
    | (with_reducible split)

theorem frame_holdFin {l₀ : List Area} {b₀ b : Block} (h₀ : Frame l₀ b₀ b) (c : Cmd) (n : Nat) (f : Finish)
    (hl : [.hq] ⊆ l₀ := by first | assumption | exact Area.sub ‹_›) :
    Frame l₀ b₀ (b.holdFin c n f) := by
  unfold Block.holdFin
  repeat' first
    | (with_reducible assumption)
    | (with_reducible exact Area.sub ‹_›)
    | (with_reducible exact Frame.refl)
    | (with_reducible apply Frame.ite)
    | (with_reducible refine Frame.foldl ?_ (fun _ _ _ => ?_))
    | (with_reducible apply frame_modCmd)
    | (fail_if_no_progress extract_lets)
    | intro _
    | (with_reducible split)

theorem frame_endHeld {l₀ : List Area} {b₀ b : Block} (h₀ : Frame l₀ b₀ b) (c : Cmd)
    (hl : [.hq] ⊆ l₀ := by first | assumption | exact Area.sub ‹_›) :
    Frame l₀ b₀ (b.endHeld c) := by
  unfold Block.endHeld
  repeat' first
    | (with_reducible assumption)
    | (with_reducible exact Area.sub ‹_›)
    | (with_reducible exact Frame.refl)
    | (with_reducible apply Frame.ite)
    | (with_reducible refine Frame.foldl ?_ (fun _ _ _ => ?_))
    | (with_reducible apply frame_finish)
    | (fail_if_no_progress extract_lets)
    | intro _
    | (with_reducible split)

theorem frame_unload {l₀ : List Area} {b₀ b : Block} (h₀ : Frame l₀ b₀ b)
    (hl : [.wp, .hq, .store] ⊆ l₀ := by first | assumption | exact Area.sub ‹_›) :
    Frame l₀ b₀ (b.unload) := by
  unfold Block.unload
  repeat' first
    | (with_reducible assumption)
    | (with_reducible exact Area.sub ‹_›)
    | (with_reducible exact Frame.refl)
    | (with_reducible apply Frame.ite)
    | (with_reducible refine Frame.foldl ?_ (fun _ _ _ => ?_))
    | (with_reducible apply frame_voidEntry)
    | (with_reducible apply frame_modWp)
    | (with_reducible apply frame_modHq)
    | (with_reducible apply frame_modStore)
    | (fail_if_no_progress extract_lets)
    | intro _
    | (with_reducible split)

theorem frame_readAtRemoval {l₀ : List Area} {b₀ b : Block} (h₀ : Frame l₀ b₀ b) (c : Cmd)
    (hl : [.hq, .out] ⊆ l₀ := by first | assumption | exact Area.sub ‹_›) :
    Frame l₀ b₀ (b.readAtRemoval c) := by
  unfold Block.readAtRemoval
  repeat' first
    | (with_reducible assumption)
    | (with_reducible exact Area.sub ‹_›)
    | (with_reducible exact Frame.refl)
    | (with_reducible apply Frame.ite)
    | (with_reducible refine Frame.foldl ?_ (fun _ _ _ => ?_))
    | (with_reducible apply frame_blockRead)
    | (with_reducible apply frame_failWith)
    | (with_reducible apply frame_frameRead)
    | (fail_if_no_progress extract_lets)
    | intro _
    | (with_reducible split)

theorem frame_removeVolume {l₀ : List Area} {b₀ b : Block} (h₀ : Frame l₀ b₀ b)
    (hl : [.regs, .irq, .servo, .wp, .hq, .store, .ml, .out] ⊆ l₀ := by first | assumption | exact Area.sub ‹_›) :
    Frame l₀ b₀ (b.removeVolume) := by
  unfold Block.removeVolume
  repeat' first
    | (with_reducible assumption)
    | (with_reducible exact Area.sub ‹_›)
    | (with_reducible exact Frame.refl)
    | (with_reducible apply Frame.ite)
    | (with_reducible refine Frame.foldl ?_ (fun _ _ _ => ?_))
    | (with_reducible apply frame_readAtRemoval)
    | (with_reducible apply frame_cutPass)
    | (with_reducible apply frame_cancelPlan)
    | (with_reducible apply frame_modVol)
    | (with_reducible apply frame_unload)
    | (fail_if_no_progress extract_lets)
    | intro _
    | (with_reducible split)

theorem frame_execDoorOpen {l₀ : List Area} {b₀ : Block} {s t : State} (e₀ : execDoorOpen s = .next t)
    (h₀ : Frame l₀ b₀ s.toBlock)
    (hl : [.regs, .irq, .le, .servo, .spin, .axis, .wp, .hq, .store, .ml, .out] ⊆ l₀ := by first | assumption | exact Area.sub ‹_›) : Frame l₀ b₀ t.toBlock := by
  unfold execDoorOpen at e₀
  refine Frame.upd e₀ h₀ (fun _ _ => ?_)
  repeat' first
    | (with_reducible assumption)
    | (with_reducible exact Area.sub ‹_›)
    | (with_reducible exact Frame.refl)
    | (with_reducible apply Frame.ite)
    | (with_reducible refine Frame.foldl ?_ (fun _ _ _ => ?_))
    | (with_reducible apply frame_doorOpen)
    | (with_reducible apply frame_removeVolume)
    | (with_reducible apply frame_async)
    | (fail_if_no_progress extract_lets)
    | intro _
    | (with_reducible split)

theorem frame_formatBegin {l₀ : List Area} {b₀ b : Block} (h₀ : Frame l₀ b₀ b) (v : Vol)
    (hl : [.regs, .store, .ml, .out] ⊆ l₀ := by first | assumption | exact Area.sub ‹_›) :
    Frame l₀ b₀ (b.formatBegin v) := by
  unfold Block.formatBegin
  repeat' first
    | (with_reducible assumption)
    | (with_reducible exact Area.sub ‹_›)
    | (with_reducible exact Frame.refl)
    | (with_reducible apply Frame.ite)
    | (with_reducible refine Frame.foldl ?_ (fun _ _ _ => ?_))
    | (with_reducible apply frame_modVol)
    | (with_reducible apply frame_journalBoth)
    | (with_reducible apply frame_closeRec)
    | (fail_if_no_progress extract_lets)
    | intro _
    | (with_reducible split)

theorem frame_execFormat {l₀ : List Area} {b₀ : Block} {s t : State} {tag : Nat} {label : List Byte} (e₀ : execFormat tag label s = .next t)
    (h₀ : Frame l₀ b₀ s.toBlock)
    (hl : [.regs, .hq, .store, .ml, .out] ⊆ l₀ := by first | assumption | exact Area.sub ‹_›) : Frame l₀ b₀ t.toBlock := by
  unfold execFormat at e₀
  refine Frame.upd e₀ h₀ (fun _ _ => ?_)
  repeat' first
    | (with_reducible assumption)
    | (with_reducible exact Area.sub ‹_›)
    | (with_reducible exact Frame.refl)
    | (with_reducible apply Frame.ite)
    | (with_reducible refine Frame.foldl ?_ (fun _ _ _ => ?_))
    | (with_reducible apply frame_actOn)
    | (with_reducible apply frame_modVol)
    | (with_reducible apply frame_succeed)
    | (with_reducible apply frame_failWith)
    | (with_reducible apply frame_formatBegin)
    | (with_reducible apply frame_toStep)
    | (fail_if_no_progress extract_lets)
    | intro _
    | (with_reducible split)

theorem frame_loadFail {l₀ : List Area} {b₀ b : Block} (h₀ : Frame l₀ b₀ b) (c : Cmd) (status : Nat) (detail : Nat)
    (hl : [.regs, .irq, .le, .servo, .spin, .wp, .hq, .store, .ml, .out] ⊆ l₀ := by first | assumption | exact Area.sub ‹_›) :
    Frame l₀ b₀ (b.loadFail c status detail) := by
  unfold Block.loadFail
  repeat' first
    | (with_reducible assumption)
    | (with_reducible exact Area.sub ‹_›)
    | (with_reducible exact Frame.refl)
    | (with_reducible apply Frame.ite)
    | (with_reducible refine Frame.foldl ?_ (fun _ _ _ => ?_))
    | (with_reducible apply frame_spinsStop)
    | (with_reducible apply frame_modVol)
    | (with_reducible apply frame_holdFin)
    | (fail_if_no_progress extract_lets)
    | intro _
    | (with_reducible split)

theorem frame_replay {l₀ : List Area} {b₀ b : Block} (h₀ : Frame l₀ b₀ b) (recs : List RecFound)
    (hl : [.regs, .wp, .store, .ml, .out] ⊆ l₀ := by first | assumption | exact Area.sub ‹_›) :
    Frame l₀ b₀ (b.replay recs) := by
  unfold Block.replay
  repeat' first
    | (with_reducible assumption)
    | (with_reducible exact Area.sub ‹_›)
    | (with_reducible exact Frame.refl)
    | (with_reducible apply Frame.ite)
    | (with_reducible refine Frame.foldl ?_ (fun _ _ _ => ?_))
    | (with_reducible apply frame_modVol)
    | (with_reducible apply frame_applyEntries)
    | (with_reducible apply frame_modChunks)
    | (with_reducible apply frame_modStore)
    | (with_reducible apply frame_scan)
    | (with_reducible apply frame_skipLost)
    | (with_reducible apply frame_modLog)
    | (fail_if_no_progress extract_lets)
    | intro _
    | (with_reducible split)

theorem frame_mediumFound {l₀ : List Area} {b₀ b : Block} (h₀ : Frame l₀ b₀ b) (p : Nat × SurfMedium)
    (hl : [.regs, .wp, .cal] ⊆ l₀ := by first | assumption | exact Area.sub ‹_›) :
    Frame l₀ b₀ (b.mediumFound p) := by
  unfold Block.mediumFound
  repeat' first
    | (with_reducible assumption)
    | (with_reducible exact Area.sub ‹_›)
    | (with_reducible exact Frame.refl)
    | (with_reducible apply Frame.ite)
    | (with_reducible refine Frame.foldl ?_ (fun _ _ _ => ?_))
    | (with_reducible apply frame_setFld)
    | (with_reducible apply frame_modWp)
    | (with_reducible apply frame_modCalSurf)
    | (fail_if_no_progress extract_lets)
    | intro _
    | (with_reducible split)

theorem frame_resumeAt {l₀ : List Area} {b₀ b : Block} (h₀ : Frame l₀ b₀ b) (p : Nat × SurfMedium)
    (hl : [.wp, .store] ⊆ l₀ := by first | assumption | exact Area.sub ‹_›) :
    Frame l₀ b₀ (b.resumeAt p) := by
  unfold Block.resumeAt
  repeat' first
    | (with_reducible assumption)
    | (with_reducible exact Area.sub ‹_›)
    | (with_reducible exact Frame.refl)
    | (with_reducible apply Frame.ite)
    | (with_reducible refine Frame.foldl ?_ (fun _ _ _ => ?_))
    | (with_reducible apply frame_modVol)
    | (with_reducible apply frame_modWp)
    | (fail_if_no_progress extract_lets)
    | intro _
    | (with_reducible split)

theorem frame_ledgerRead {l₀ : List Area} {b₀ b : Block} (h₀ : Frame l₀ b₀ b) (c : Cmd) (descs : List (Nat × Option Descriptor)) (written : Bool) (recs : List RecFound) (logs : List (Nat × Nat)) (media : List (Nat × SurfMedium))
    (hl : [.regs, .irq, .le, .servo, .spin, .wp, .cal, .hq, .store, .ml, .out] ⊆ l₀ := by first | assumption | exact Area.sub ‹_›) :
    Frame l₀ b₀ (b.ledgerRead c descs written recs logs media) := by
  unfold Block.ledgerRead
  repeat' first
    | (with_reducible assumption)
    | (with_reducible exact Area.sub ‹_›)
    | (with_reducible exact Frame.refl)
    | (with_reducible apply Frame.ite)
    | (with_reducible refine Frame.foldl ?_ (fun _ _ _ => ?_))
    | (with_reducible apply frame_loadFail)
    | (with_reducible apply frame_modCalSurf)
    | (with_reducible apply frame_mediumFound)
    | (with_reducible apply frame_async)
    | (with_reducible apply frame_succeed)
    | (with_reducible apply frame_modVol)
    | (with_reducible apply frame_modWp)
    | (with_reducible apply frame_replay)
    | (with_reducible apply frame_modLog)
    | (with_reducible apply frame_resumeAt)
    | (with_reducible apply frame_failWith)
    | (fail_if_no_progress extract_lets)
    | intro _
    | (with_reducible split)

theorem frame_execMagazineLoad {l₀ : List Area} {b₀ : Block} {s t : State} {tag : Nat} {found : LoadFound} (e₀ : execMagazineLoad tag found s = .next t)
    (h₀ : Frame l₀ b₀ s.toBlock)
    (hl : [.regs, .irq, .le, .servo, .spin, .axis, .wp, .cal, .hq, .store, .ml, .pw, .out, .free] ⊆ l₀ := by first | assumption | exact Area.sub ‹_›) : Frame l₀ b₀ t.toBlock := by
  unfold execMagazineLoad at e₀
  refine Frame.upd e₀ h₀ (fun _ _ => ?_)
  repeat' first
    | (with_reducible assumption)
    | (with_reducible exact Area.sub ‹_›)
    | (with_reducible exact Frame.refl)
    | (with_reducible apply Frame.ite)
    | (with_reducible refine Frame.foldl ?_ (fun _ _ _ => ?_))
    | (with_reducible apply frame_actOn)
    | (with_reducible apply frame_succeed)
    | (with_reducible apply frame_failWith)
    | (with_reducible apply frame_modVol)
    | (with_reducible apply frame_setFld)
    | (with_reducible apply frame_placeTarget)
    | (with_reducible apply frame_toStep)
    | (with_reducible apply frame_spinsRun)
    | (with_reducible apply frame_loadFail)
    | (with_reducible apply frame_ledgerRead)
    | (with_reducible apply frame_endHeld)
    | (fail_if_no_progress extract_lets)
    | intro _
    | (with_reducible split)

theorem frame_ejectBegin {l₀ : List Area} {b₀ b : Block} (h₀ : Frame l₀ b₀ b) (c : Cmd)
    (hl : [.regs, .irq, .cal, .hq, .store, .ml, .out] ⊆ l₀ := by first | assumption | exact Area.sub ‹_›) :
    Frame l₀ b₀ (b.ejectBegin c) := by
  unfold Block.ejectBegin
  repeat' first
    | (with_reducible assumption)
    | (with_reducible exact Area.sub ‹_›)
    | (with_reducible exact Frame.refl)
    | (with_reducible apply Frame.ite)
    | (with_reducible refine Frame.foldl ?_ (fun _ _ _ => ?_))
    | (with_reducible apply frame_calAbandon)
    | (with_reducible apply frame_modVol)
    | (with_reducible apply frame_toStep)
    | (fail_if_no_progress extract_lets)
    | intro _
    | (with_reducible split)

theorem frame_execMagazineEject {l₀ : List Area} {b₀ : Block} {s t : State} {tag : Nat} (e₀ : execMagazineEject tag s = .next t)
    (h₀ : Frame l₀ b₀ s.toBlock)
    (hl : [.regs, .irq, .cal, .hq, .store, .ml, .out] ⊆ l₀ := by first | assumption | exact Area.sub ‹_›) : Frame l₀ b₀ t.toBlock := by
  unfold execMagazineEject at e₀
  refine Frame.upd e₀ h₀ (fun _ _ => ?_)
  repeat' first
    | (with_reducible assumption)
    | (with_reducible exact Area.sub ‹_›)
    | (with_reducible exact Frame.refl)
    | (with_reducible apply Frame.ite)
    | (with_reducible refine Frame.foldl ?_ (fun _ _ _ => ?_))
    | (with_reducible apply frame_actOn)
    | (with_reducible apply frame_failWith)
    | (with_reducible apply frame_closeClip)
    | (with_reducible apply frame_ejectBegin)
    | (fail_if_no_progress extract_lets)
    | intro _
    | (with_reducible split)

theorem frame_execEjectProceed {l₀ : List Area} {b₀ : Block} {s t : State} (e₀ : execEjectProceed s = .next t)
    (h₀ : Frame l₀ b₀ s.toBlock)
    (hl : [.regs, .irq, .le, .servo, .spin, .axis, .wp, .hq, .store, .ml, .out] ⊆ l₀ := by first | assumption | exact Area.sub ‹_›) : Frame l₀ b₀ t.toBlock := by
  unfold execEjectProceed at e₀
  refine Frame.upd e₀ h₀ (fun _ _ => ?_)
  repeat' first
    | (with_reducible assumption)
    | (with_reducible exact Area.sub ‹_›)
    | (with_reducible exact Frame.refl)
    | (with_reducible apply Frame.ite)
    | (with_reducible refine Frame.foldl ?_ (fun _ _ _ => ?_))
    | (with_reducible apply frame_modVol)
    | (with_reducible apply frame_failWith)
    | (with_reducible apply frame_spinsStop)
    | (with_reducible apply frame_holdFin)
    | (with_reducible apply frame_journalBoth)
    | (with_reducible apply frame_toStep)
    | (with_reducible apply frame_placeTarget)
    | (with_reducible apply frame_axHalt)
    | (with_reducible apply frame_setFld)
    | (with_reducible apply frame_endHeld)
    | (with_reducible apply frame_unload)
    | (with_reducible apply frame_async)
    | (fail_if_no_progress extract_lets)
    | intro _
    | (with_reducible split)

end Sys2Proof.Machine
end

