-- ==== Sys2Proof/Laws/FramePair.lean ====
section
/-!
SUPPORT. What the pair, power, the map cache and the Sluice leave unchanged, one lemma for each operation and each command.
-/

set_option Elab.async false
set_option linter.unreachableTactic false
set_option linter.unusedTactic false

namespace Sys2Proof.Machine

/-! ### Machine/Mirror.lean -/

theorem frame_journalPair {l₀ : List Area} {b₀ b : Block} (h₀ : Frame l₀ b₀ b)
    (hl : [.ml] ⊆ l₀ := by first | assumption | exact Area.sub ‹_›) :
    Frame l₀ b₀ (b.journalPair) := by
  unfold Block.journalPair
  repeat' first
    | (with_reducible assumption)
    | (with_reducible exact Area.sub ‹_›)
    | (with_reducible exact Frame.refl)
    | (with_reducible apply Frame.ite)
    | (with_reducible refine Frame.foldl ?_ (fun _ _ _ => ?_))
    | (with_reducible apply frame_modMl)
    | (fail_if_no_progress extract_lets)
    | intro _
    | (with_reducible split)

theorem frame_mlTimers {l₀ : List Area} {b₀ b : Block} (h₀ : Frame l₀ b₀ b)
    (hl : [.ml] ⊆ l₀ := by first | assumption | exact Area.sub ‹_›) :
    Frame l₀ b₀ (b.mlTimers) := by
  unfold Block.mlTimers
  repeat' first
    | (with_reducible assumption)
    | (with_reducible exact Area.sub ‹_›)
    | (with_reducible exact Frame.refl)
    | (with_reducible apply Frame.ite)
    | (with_reducible refine Frame.foldl ?_ (fun _ _ _ => ?_))
    | (with_reducible apply frame_modMl)
    | (fail_if_no_progress extract_lets)
    | intro _
    | (with_reducible split)

theorem frame_setPair {l₀ : List Area} {b₀ b : Block} (h₀ : Frame l₀ b₀ b) (st : Nat) (partner : Bool)
    (hl : [.regs, .irq, .ml, .out] ⊆ l₀ := by first | assumption | exact Area.sub ‹_›) :
    Frame l₀ b₀ (b.setPair st partner) := by
  unfold Block.setPair
  repeat' first
    | (with_reducible assumption)
    | (with_reducible exact Area.sub ‹_›)
    | (with_reducible exact Frame.refl)
    | (with_reducible apply Frame.ite)
    | (with_reducible refine Frame.foldl ?_ (fun _ _ _ => ?_))
    | (with_reducible apply frame_setFld)
    | (with_reducible apply frame_setBit)
    | (with_reducible apply frame_modMl)
    | (with_reducible apply frame_journalPair)
    | (with_reducible apply frame_mlTimers)
    | (with_reducible apply frame_emit)
    | (with_reducible apply frame_raise)
    | (fail_if_no_progress extract_lets)
    | intro _
    | (with_reducible split)

theorem frame_degrade {l₀ : List Area} {b₀ b : Block} (h₀ : Frame l₀ b₀ b)
    (hl : [.regs, .irq, .hq, .ml, .out] ⊆ l₀ := by first | assumption | exact Area.sub ‹_›) :
    Frame l₀ b₀ (b.degrade) := by
  unfold Block.degrade
  repeat' first
    | (with_reducible assumption)
    | (with_reducible exact Area.sub ‹_›)
    | (with_reducible exact Frame.refl)
    | (with_reducible apply Frame.ite)
    | (with_reducible refine Frame.foldl ?_ (fun _ _ _ => ?_))
    | (with_reducible apply frame_modMl)
    | (with_reducible apply frame_setFld)
    | (with_reducible apply frame_setPair)
    | (with_reducible apply frame_async)
    | (fail_if_no_progress extract_lets)
    | intro _
    | (with_reducible split)

theorem frame_onFrame {l₀ : List Area} {b₀ b : Block} (h₀ : Frame l₀ b₀ b) (f : Block → Block) (hf : ∀ c , Frame l₀ b₀ c → Frame l₀ b₀ (f c ))
    (hl : [.ml] ⊆ l₀ := by first | assumption | exact Area.sub ‹_›) :
    Frame l₀ b₀ (b.onFrame f) := by
  unfold Block.onFrame
  repeat' first
    | (with_reducible assumption)
    | (with_reducible exact Area.sub ‹_›)
    | (with_reducible exact Frame.refl)
    | (with_reducible apply Frame.ite)
    | (with_reducible refine Frame.foldl ?_ (fun _ _ _ => ?_))
    | (with_reducible apply hf)
    | (with_reducible apply frame_modMl)
    | (fail_if_no_progress extract_lets)
    | intro _
    | (with_reducible split)

theorem frame_mlBring {l₀ : List Area} {b₀ b : Block} (h₀ : Frame l₀ b₀ b)
    (hl : [.ml, .out] ⊆ l₀ := by first | assumption | exact Area.sub ‹_›) :
    Frame l₀ b₀ (b.mlBring) := by
  unfold Block.mlBring
  repeat' first
    | (with_reducible assumption)
    | (with_reducible exact Area.sub ‹_›)
    | (with_reducible exact Frame.refl)
    | (with_reducible apply Frame.ite)
    | (with_reducible refine Frame.foldl ?_ (fun _ _ _ => ?_))
    | (with_reducible apply frame_modMl)
    | (with_reducible apply frame_emit)
    | (fail_if_no_progress extract_lets)
    | intro _
    | (with_reducible split)

theorem frame_pairDown {l₀ : List Area} {b₀ b : Block} (h₀ : Frame l₀ b₀ b)
    (hl : [.regs, .irq, .hq, .ml, .out] ⊆ l₀ := by first | assumption | exact Area.sub ‹_›) :
    Frame l₀ b₀ (b.pairDown) := by
  unfold Block.pairDown
  repeat' first
    | (with_reducible assumption)
    | (with_reducible exact Area.sub ‹_›)
    | (with_reducible exact Frame.refl)
    | (with_reducible apply Frame.ite)
    | (with_reducible refine Frame.foldl ?_ (fun _ _ _ => ?_))
    | (with_reducible apply frame_mlTimers)
    | (with_reducible apply frame_setPair)
    | (with_reducible apply frame_degrade)
    | (fail_if_no_progress extract_lets)
    | intro _
    | (with_reducible split)

theorem frame_linkDown {l₀ : List Area} {b₀ b : Block} (h₀ : Frame l₀ b₀ b)
    (hl : [.regs, .irq, .hq, .ml, .out] ⊆ l₀ := by first | assumption | exact Area.sub ‹_›) :
    Frame l₀ b₀ (b.linkDown) := by
  unfold Block.linkDown
  repeat' first
    | (with_reducible assumption)
    | (with_reducible exact Area.sub ‹_›)
    | (with_reducible exact Frame.refl)
    | (with_reducible apply Frame.ite)
    | (with_reducible refine Frame.foldl ?_ (fun _ _ _ => ?_))
    | (with_reducible apply frame_setBit)
    | (with_reducible apply frame_setFld)
    | (with_reducible apply frame_raise)
    | (with_reducible apply frame_pairDown)
    | (fail_if_no_progress extract_lets)
    | intro _
    | (with_reducible split)

theorem frame_mlEnable {l₀ : List Area} {b₀ b : Block} (h₀ : Frame l₀ b₀ b)
    (hl : [.regs, .irq, .hq, .ml, .out] ⊆ l₀ := by first | assumption | exact Area.sub ‹_›) :
    Frame l₀ b₀ (b.mlEnable) := by
  unfold Block.mlEnable
  repeat' first
    | (with_reducible assumption)
    | (with_reducible exact Area.sub ‹_›)
    | (with_reducible exact Frame.refl)
    | (with_reducible apply Frame.ite)
    | (with_reducible refine Frame.foldl ?_ (fun _ _ _ => ?_))
    | (with_reducible apply frame_linkDown)
    | (with_reducible apply frame_mlBring)
    | (fail_if_no_progress extract_lets)
    | intro _
    | (with_reducible split)

theorem frame_mlDisable {l₀ : List Area} {b₀ b : Block} (h₀ : Frame l₀ b₀ b)
    (hl : [.regs, .irq, .hq, .ml, .out] ⊆ l₀ := by first | assumption | exact Area.sub ‹_›) :
    Frame l₀ b₀ (b.mlDisable) := by
  unfold Block.mlDisable
  repeat' first
    | (with_reducible assumption)
    | (with_reducible exact Area.sub ‹_›)
    | (with_reducible exact Frame.refl)
    | (with_reducible apply Frame.ite)
    | (with_reducible refine Frame.foldl ?_ (fun _ _ _ => ?_))
    | (with_reducible apply frame_linkDown)
    | (with_reducible apply frame_modMl)
    | (fail_if_no_progress extract_lets)
    | intro _
    | (with_reducible split)

theorem frame_execMlLinkEnable {l₀ : List Area} {b₀ : Block} {s t : State} {retrain : Bool} (e₀ : execMlLinkEnable retrain s = .next t)
    (h₀ : Frame l₀ b₀ s.toBlock)
    (hl : [.regs, .irq, .hq, .ml, .out] ⊆ l₀ := by first | assumption | exact Area.sub ‹_›) : Frame l₀ b₀ t.toBlock := by
  unfold execMlLinkEnable at e₀
  refine Frame.upd e₀ h₀ (fun _ _ => ?_)
  repeat' first
    | (with_reducible assumption)
    | (with_reducible exact Area.sub ‹_›)
    | (with_reducible exact Frame.refl)
    | (with_reducible apply Frame.ite)
    | (with_reducible refine Frame.foldl ?_ (fun _ _ _ => ?_))
    | (with_reducible apply frame_mlEnable)
    | (with_reducible apply frame_setBit)
    | (fail_if_no_progress extract_lets)
    | intro _
    | (with_reducible split)

theorem frame_execMlLinkDown {l₀ : List Area} {b₀ : Block} {s t : State} (e₀ : execMlLinkDown s = .next t)
    (h₀ : Frame l₀ b₀ s.toBlock)
    (hl : [.regs, .irq, .hq, .ml, .out] ⊆ l₀ := by first | assumption | exact Area.sub ‹_›) : Frame l₀ b₀ t.toBlock := by
  unfold execMlLinkDown at e₀
  refine Frame.upd e₀ h₀ (fun _ _ => ?_)
  repeat' first
    | (with_reducible assumption)
    | (with_reducible exact Area.sub ‹_›)
    | (with_reducible exact Frame.refl)
    | (with_reducible apply Frame.ite)
    | (with_reducible refine Frame.foldl ?_ (fun _ _ _ => ?_))
    | (with_reducible apply frame_linkDown)
    | (fail_if_no_progress extract_lets)
    | intro _
    | (with_reducible split)

theorem frame_execMlFrameDiscard {l₀ : List Area} {b₀ : Block} {s t : State} (e₀ : execMlFrameDiscard s = .next t)
    (h₀ : Frame l₀ b₀ s.toBlock)
    (hl : [.regs, .irq, .ml, .out] ⊆ l₀ := by first | assumption | exact Area.sub ‹_›) : Frame l₀ b₀ t.toBlock := by
  unfold execMlFrameDiscard at e₀
  refine Frame.upd e₀ h₀ (fun _ _ => ?_)
  repeat' first
    | (with_reducible assumption)
    | (with_reducible exact Area.sub ‹_›)
    | (with_reducible exact Frame.refl)
    | (with_reducible apply Frame.ite)
    | (with_reducible refine Frame.foldl ?_ (fun _ _ _ => ?_))
    | (with_reducible apply frame_bump)
    | (with_reducible apply frame_modMl)
    | (with_reducible apply frame_raise)
    | (with_reducible apply frame_emit)
    | (fail_if_no_progress extract_lets)
    | intro _
    | (with_reducible split)

theorem frame_execMlLack {l₀ : List Area} {b₀ : Block} {s t : State} {lseq : BitVec 32} {replay : Bool} (e₀ : execMlLack lseq replay s = .next t)
    (h₀ : Frame l₀ b₀ s.toBlock)
    (hl : [.regs, .wp, .store, .ml, .out] ⊆ l₀ := by first | assumption | exact Area.sub ‹_›) : Frame l₀ b₀ t.toBlock := by
  unfold execMlLack at e₀
  refine Frame.upd e₀ h₀ (fun _ _ => ?_)
  repeat' first
    | (with_reducible assumption)
    | (with_reducible exact Area.sub ‹_›)
    | (with_reducible exact Frame.refl)
    | (with_reducible apply Frame.ite)
    | (with_reducible refine Frame.foldl ?_ (fun _ _ _ => ?_))
    | (with_reducible apply frame_onFrame)
    | (with_reducible apply frame_replay)
    | (with_reducible apply frame_emit)
    | (fail_if_no_progress extract_lets)
    | intro _
    | (with_reducible split)

theorem frame_sendCatalogue {l₀ : List Area} {b₀ b : Block} (h₀ : Frame l₀ b₀ b)
    (hl : [.ml, .out] ⊆ l₀ := by first | assumption | exact Area.sub ‹_›) :
    Frame l₀ b₀ (b.sendCatalogue) := by
  unfold Block.sendCatalogue
  repeat' first
    | (with_reducible assumption)
    | (with_reducible exact Area.sub ‹_›)
    | (with_reducible exact Frame.refl)
    | (with_reducible apply Frame.ite)
    | (with_reducible refine Frame.foldl ?_ (fun _ _ _ => ?_))
    | (with_reducible apply frame_melarSend)
    | (fail_if_no_progress extract_lets)
    | intro _
    | (with_reducible split)

theorem frame_bindEqual {l₀ : List Area} {b₀ b : Block} (h₀ : Frame l₀ b₀ b)
    (hl : [.store] ⊆ l₀ := by first | assumption | exact Area.sub ‹_›) :
    Frame l₀ b₀ (b.bindEqual) := by
  unfold Block.bindEqual
  repeat' first
    | (with_reducible assumption)
    | (with_reducible exact Area.sub ‹_›)
    | (with_reducible exact Frame.refl)
    | (with_reducible apply Frame.ite)
    | (with_reducible refine Frame.foldl ?_ (fun _ _ _ => ?_))
    | (with_reducible apply frame_modVol)
    | (fail_if_no_progress extract_lets)
    | intro _
    | (with_reducible split)

theorem frame_applyCat {l₀ : List Area} {b₀ b : Block} (h₀ : Frame l₀ b₀ b) (t : Nat) (e : List Byte)
    (hl : [.wp, .store, .ml] ⊆ l₀ := by first | assumption | exact Area.sub ‹_›) :
    Frame l₀ b₀ (b.applyCat t e) := by
  unfold Block.applyCat
  repeat' first
    | (with_reducible assumption)
    | (with_reducible exact Area.sub ‹_›)
    | (with_reducible exact Frame.refl)
    | (with_reducible apply Frame.ite)
    | (with_reducible refine Frame.foldl ?_ (fun _ _ _ => ?_))
    | (with_reducible apply frame_modMl)
    | (with_reducible apply frame_applyEntry)
    | (with_reducible apply frame_modClip)
    | (with_reducible apply frame_modVol)
    | (with_reducible apply frame_bindEqual)
    | (with_reducible apply frame_journalEntry)
    | (fail_if_no_progress extract_lets)
    | intro _
    | (with_reducible split)

theorem frame_takeFrame {l₀ : List Area} {b₀ b : Block} (h₀ : Frame l₀ b₀ b) (clip : Nat) (old : Nat) (frame : Nat) (fsize : Nat) (gen : Nat) (bytes : List Byte)
    (hl : [.store, .pt] ⊆ l₀ := by first | assumption | exact Area.sub ‹_›) :
    Frame l₀ b₀ (b.takeFrame clip old frame fsize gen bytes) := by
  unfold Block.takeFrame
  repeat' first
    | (with_reducible assumption)
    | (with_reducible exact Area.sub ‹_›)
    | (with_reducible exact Frame.refl)
    | (with_reducible apply Frame.ite)
    | (with_reducible refine Frame.foldl ?_ (fun _ _ _ => ?_))
    | (with_reducible apply frame_arriveRaw)
    | (with_reducible apply frame_modChunks)
    | (with_reducible apply frame_modVol)
    | (fail_if_no_progress extract_lets)
    | intro _
    | (with_reducible split)

theorem frame_takeUnit {l₀ : List Area} {b₀ b : Block} (h₀ : Frame l₀ b₀ b) (u : Nat) (gen : Nat) (ends : Bool × Bool) (bytes : List Byte)
    (hl : [.store, .pt] ⊆ l₀ := by first | assumption | exact Area.sub ‹_›) :
    Frame l₀ b₀ (b.takeUnit u gen ends bytes) := by
  unfold Block.takeUnit
  repeat' first
    | (with_reducible assumption)
    | (with_reducible exact Area.sub ‹_›)
    | (with_reducible exact Frame.refl)
    | (with_reducible apply Frame.ite)
    | (with_reducible refine Frame.foldl ?_ (fun _ _ _ => ?_))
    | (with_reducible apply frame_modVol)
    | (with_reducible apply frame_arriveRaw)
    | (fail_if_no_progress extract_lets)
    | intro _
    | (with_reducible split)

theorem frame_partnerEject {l₀ : List Area} {b₀ b : Block} (h₀ : Frame l₀ b₀ b) (m : MirCmd)
    (hl : [.regs, .irq, .cal, .hq, .store, .ml, .out] ⊆ l₀ := by first | assumption | exact Area.sub ‹_›) :
    Frame l₀ b₀ (b.partnerEject m) := by
  unfold Block.partnerEject
  repeat' first
    | (with_reducible assumption)
    | (with_reducible exact Area.sub ‹_›)
    | (with_reducible exact Frame.refl)
    | (with_reducible apply Frame.ite)
    | (with_reducible refine Frame.foldl ?_ (fun _ _ _ => ?_))
    | (with_reducible apply frame_modHq)
    | (with_reducible apply frame_ejectBegin)
    | (fail_if_no_progress extract_lets)
    | intro _
    | (with_reducible split)

theorem frame_mirRun {l₀ : List Area} {b₀ b : Block} (h₀ : Frame l₀ b₀ b) (m : MirCmd)
    (hl : [.store, .pt] ⊆ l₀ := by first | assumption | exact Area.sub ‹_›) :
    Frame l₀ b₀ (b.mirRun m) := by
  unfold Block.mirRun
  repeat' first
    | (with_reducible assumption)
    | (with_reducible exact Area.sub ‹_›)
    | (with_reducible exact Frame.refl)
    | (with_reducible apply Frame.ite)
    | (with_reducible refine Frame.foldl ?_ (fun _ _ _ => ?_))
    | (with_reducible apply frame_takeFrame)
    | (with_reducible apply frame_takeUnit)
    | (fail_if_no_progress extract_lets)
    | intro _
    | (with_reducible split)

theorem frame_mirNext {l₀ : List Area} {b₀ b : Block} (h₀ : Frame l₀ b₀ b)
    (hl : [.regs, .irq, .wp, .cal, .hq, .store, .pt, .ml, .out] ⊆ l₀ := by first | assumption | exact Area.sub ‹_›) :
    Frame l₀ b₀ (b.mirNext) := by
  unfold Block.mirNext
  repeat' first
    | (with_reducible assumption)
    | (with_reducible exact Area.sub ‹_›)
    | (with_reducible exact Frame.refl)
    | (with_reducible apply Frame.ite)
    | (with_reducible refine Frame.foldl ?_ (fun _ _ _ => ?_))
    | (with_reducible apply frame_applyCat)
    | (with_reducible apply frame_modMl)
    | (with_reducible apply frame_setTxMseq)
    | (with_reducible apply frame_partnerEject)
    | (with_reducible apply frame_mirRun)
    | (fail_if_no_progress extract_lets)
    | intro _
    | (with_reducible split)

theorem frame_mirApply {l₀ : List Area} {b₀ b : Block} (h₀ : Frame l₀ b₀ b)
    (hl : [.regs, .irq, .wp, .cal, .hq, .store, .pt, .ml, .out] ⊆ l₀ := by first | assumption | exact Area.sub ‹_›) :
    Frame l₀ b₀ (b.mirApply) := by
  unfold Block.mirApply
  repeat' first
    | (with_reducible assumption)
    | (with_reducible exact Area.sub ‹_›)
    | (with_reducible exact Frame.refl)
    | (with_reducible apply Frame.ite)
    | (with_reducible refine Frame.foldl ?_ (fun _ _ _ => ?_))
    | (with_reducible apply frame_mirNext)
    | (with_reducible apply frame_setFld)
    | (with_reducible apply frame_melarSend)
    | (fail_if_no_progress extract_lets)
    | intro _
    | (with_reducible split)

theorem frame_execMlCmd {l₀ : List Area} {b₀ : Block} {s t : State} {mseq : BitVec 64} {dws : Vector Word 16} {tag : Fin 4096} {pair : Fin 128} {clip : BitVec 16} {frame : BitVec 32} {stamp : BitVec 64} {dur : BitVec 2} (e₀ : execMlCmd mseq dws tag pair clip frame stamp dur s = .next t)
    (h₀ : Frame l₀ b₀ s.toBlock)
    (hl : [.regs, .irq, .wp, .cal, .hq, .store, .pt, .ml, .out] ⊆ l₀ := by first | assumption | exact Area.sub ‹_›) : Frame l₀ b₀ t.toBlock := by
  unfold execMlCmd at e₀
  refine Frame.upd e₀ h₀ (fun _ _ => ?_)
  repeat' first
    | (with_reducible assumption)
    | (with_reducible exact Area.sub ‹_›)
    | (with_reducible exact Frame.refl)
    | (with_reducible apply Frame.ite)
    | (with_reducible refine Frame.foldl ?_ (fun _ _ _ => ?_))
    | (with_reducible apply frame_onFrame)
    | (with_reducible apply frame_modMl)
    | (with_reducible apply frame_setFld)
    | (with_reducible apply frame_wr)
    | (with_reducible apply frame_setBit)
    | (with_reducible apply frame_mirApply)
    | (fail_if_no_progress extract_lets)
    | intro _
    | (with_reducible split)

theorem frame_execMlData {l₀ : List Area} {b₀ : Block} {s t : State} {mseq : BitVec 48} {chunk : BitVec 16} {bytes : List Byte} (e₀ : execMlData mseq chunk bytes s = .next t)
    (h₀ : Frame l₀ b₀ s.toBlock)
    (hl : [.regs, .irq, .wp, .cal, .hq, .store, .pt, .ml, .out] ⊆ l₀ := by first | assumption | exact Area.sub ‹_›) : Frame l₀ b₀ t.toBlock := by
  unfold execMlData at e₀
  refine Frame.upd e₀ h₀ (fun _ _ => ?_)
  repeat' first
    | (with_reducible assumption)
    | (with_reducible exact Area.sub ‹_›)
    | (with_reducible exact Frame.refl)
    | (with_reducible apply Frame.ite)
    | (with_reducible refine Frame.foldl ?_ (fun _ _ _ => ?_))
    | (with_reducible apply frame_onFrame)
    | (with_reducible apply frame_modMl)
    | (with_reducible apply frame_setBit)
    | (with_reducible apply frame_mirApply)
    | (fail_if_no_progress extract_lets)
    | intro _
    | (with_reducible split)

theorem frame_execMlCat {l₀ : List Area} {b₀ : Block} {s t : State} {mseq : BitVec 64} {rtype : Fin 11} {entry : List Byte} (e₀ : execMlCat mseq rtype entry s = .next t)
    (h₀ : Frame l₀ b₀ s.toBlock)
    (hl : [.regs, .irq, .wp, .cal, .hq, .store, .pt, .ml, .out] ⊆ l₀ := by first | assumption | exact Area.sub ‹_›) : Frame l₀ b₀ t.toBlock := by
  unfold execMlCat at e₀
  refine Frame.upd e₀ h₀ (fun _ _ => ?_)
  repeat' first
    | (with_reducible assumption)
    | (with_reducible exact Area.sub ‹_›)
    | (with_reducible exact Frame.refl)
    | (with_reducible apply Frame.ite)
    | (with_reducible refine Frame.foldl ?_ (fun _ _ _ => ?_))
    | (with_reducible apply frame_onFrame)
    | (with_reducible apply frame_applyCat)
    | (with_reducible apply frame_modMl)
    | (with_reducible apply frame_mirApply)
    | (fail_if_no_progress extract_lets)
    | intro _
    | (with_reducible split)

theorem frame_execMlDone {l₀ : List Area} {b₀ : Block} {s t : State} {mseq : BitVec 64} {_status : Word} (e₀ : execMlDone mseq _status s = .next t)
    (h₀ : Frame l₀ b₀ s.toBlock)
    (hl : [.regs, .irq, .wp, .cal, .hq, .store, .pt, .ml, .out] ⊆ l₀ := by first | assumption | exact Area.sub ‹_›) : Frame l₀ b₀ t.toBlock := by
  unfold execMlDone at e₀
  refine Frame.upd e₀ h₀ (fun _ _ => ?_)
  repeat' first
    | (with_reducible assumption)
    | (with_reducible exact Area.sub ‹_›)
    | (with_reducible exact Frame.refl)
    | (with_reducible apply Frame.ite)
    | (with_reducible refine Frame.foldl ?_ (fun _ _ _ => ?_))
    | (with_reducible apply frame_onFrame)
    | (with_reducible apply frame_setBit)
    | (with_reducible apply frame_modMl)
    | (with_reducible apply frame_mirApply)
    | (fail_if_no_progress extract_lets)
    | intro _
    | (with_reducible split)

theorem frame_execMlRpt {l₀ : List Area} {b₀ : Block} {s t : State} {mseq : BitVec 64} (e₀ : execMlRpt mseq s = .next t)
    (h₀ : Frame l₀ b₀ s.toBlock)
    (hl : [.regs, .irq, .ml, .out] ⊆ l₀ := by first | assumption | exact Area.sub ‹_›) : Frame l₀ b₀ t.toBlock := by
  unfold execMlRpt at e₀
  refine Frame.upd e₀ h₀ (fun _ _ => ?_)
  repeat' first
    | (with_reducible assumption)
    | (with_reducible exact Area.sub ‹_›)
    | (with_reducible exact Frame.refl)
    | (with_reducible apply Frame.ite)
    | (with_reducible refine Frame.foldl ?_ (fun _ _ _ => ?_))
    | (with_reducible apply frame_onFrame)
    | (with_reducible apply frame_setFld)
    | (with_reducible apply frame_modMl)
    | (with_reducible apply frame_setLag)
    | (fail_if_no_progress extract_lets)
    | intro _
    | (with_reducible split)

theorem frame_execReportTimeout {l₀ : List Area} {b₀ : Block} {s t : State} (e₀ : execReportTimeout s = .next t)
    (h₀ : Frame l₀ b₀ s.toBlock)
    (hl : [.regs, .irq, .hq, .ml, .out] ⊆ l₀ := by first | assumption | exact Area.sub ‹_›) : Frame l₀ b₀ t.toBlock := by
  unfold execReportTimeout at e₀
  refine Frame.upd e₀ h₀ (fun _ _ => ?_)
  repeat' first
    | (with_reducible assumption)
    | (with_reducible exact Area.sub ‹_›)
    | (with_reducible exact Frame.refl)
    | (with_reducible apply Frame.ite)
    | (with_reducible refine Frame.foldl ?_ (fun _ _ _ => ?_))
    | (with_reducible apply frame_raise)
    | (with_reducible apply frame_degrade)
    | (fail_if_no_progress extract_lets)
    | intro _
    | (with_reducible split)

theorem frame_hbLost {l₀ : List Area} {b₀ b : Block} (h₀ : Frame l₀ b₀ b)
    (hl : [.regs, .irq, .ml, .out] ⊆ l₀ := by first | assumption | exact Area.sub ‹_›) :
    Frame l₀ b₀ (b.hbLost) := by
  unfold Block.hbLost
  repeat' first
    | (with_reducible assumption)
    | (with_reducible exact Area.sub ‹_›)
    | (with_reducible exact Frame.refl)
    | (with_reducible apply Frame.ite)
    | (with_reducible refine Frame.foldl ?_ (fun _ _ _ => ?_))
    | (with_reducible apply frame_setBit)
    | (with_reducible apply frame_raise)
    | (with_reducible apply frame_mlTimers)
    | (fail_if_no_progress extract_lets)
    | intro _
    | (with_reducible split)

theorem frame_execHeartbeatLost {l₀ : List Area} {b₀ : Block} {s t : State} (e₀ : execHeartbeatLost s = .next t)
    (h₀ : Frame l₀ b₀ s.toBlock)
    (hl : [.regs, .irq, .ml, .out] ⊆ l₀ := by first | assumption | exact Area.sub ‹_›) : Frame l₀ b₀ t.toBlock := by
  unfold execHeartbeatLost at e₀
  refine Frame.upd e₀ h₀ (fun _ _ => ?_)
  repeat' first
    | (with_reducible assumption)
    | (with_reducible exact Area.sub ‹_›)
    | (with_reducible exact Frame.refl)
    | (with_reducible apply Frame.ite)
    | (with_reducible refine Frame.foldl ?_ (fun _ _ _ => ?_))
    | (with_reducible apply frame_hbLost)
    | (fail_if_no_progress extract_lets)
    | intro _
    | (with_reducible split)

theorem frame_execHeartbeatRegained {l₀ : List Area} {b₀ : Block} {s t : State} (e₀ : execHeartbeatRegained s = .next t)
    (h₀ : Frame l₀ b₀ s.toBlock)
    (hl : [.regs, .irq, .ml, .out] ⊆ l₀ := by first | assumption | exact Area.sub ‹_›) : Frame l₀ b₀ t.toBlock := by
  unfold execHeartbeatRegained at e₀
  refine Frame.upd e₀ h₀ (fun _ _ => ?_)
  repeat' first
    | (with_reducible assumption)
    | (with_reducible exact Area.sub ‹_›)
    | (with_reducible exact Frame.refl)
    | (with_reducible apply Frame.ite)
    | (with_reducible refine Frame.foldl ?_ (fun _ _ _ => ?_))
    | (with_reducible apply frame_setBit)
    | (with_reducible apply frame_raise)
    | (with_reducible apply frame_mlTimers)
    | (fail_if_no_progress extract_lets)
    | intro _
    | (with_reducible split)

theorem frame_execPeerRoleChange {l₀ : List Area} {b₀ : Block} {s t : State} {level : Bool} (e₀ : execPeerRoleChange level s = .next t)
    (h₀ : Frame l₀ b₀ s.toBlock)
    (hl : [.regs, .ml] ⊆ l₀ := by first | assumption | exact Area.sub ‹_›) : Frame l₀ b₀ t.toBlock := by
  unfold execPeerRoleChange at e₀
  refine Frame.upd e₀ h₀ (fun _ _ => ?_)
  repeat' first
    | (with_reducible assumption)
    | (with_reducible exact Area.sub ‹_›)
    | (with_reducible exact Frame.refl)
    | (with_reducible apply Frame.ite)
    | (with_reducible refine Frame.foldl ?_ (fun _ _ _ => ?_))
    | (with_reducible apply frame_setBit)
    | (with_reducible apply frame_mlTimers)
    | (fail_if_no_progress extract_lets)
    | intro _
    | (with_reducible split)

theorem frame_execMlLeave {l₀ : List Area} {b₀ : Block} {s t : State} {cause : Fin 3} (e₀ : execMlLeave cause s = .next t)
    (h₀ : Frame l₀ b₀ s.toBlock)
    (hl : [.regs, .irq, .hq, .ml, .out] ⊆ l₀ := by first | assumption | exact Area.sub ‹_›) : Frame l₀ b₀ t.toBlock := by
  unfold execMlLeave at e₀
  refine Frame.upd e₀ h₀ (fun _ _ => ?_)
  repeat' first
    | (with_reducible assumption)
    | (with_reducible exact Area.sub ‹_›)
    | (with_reducible exact Frame.refl)
    | (with_reducible apply Frame.ite)
    | (with_reducible refine Frame.foldl ?_ (fun _ _ _ => ?_))
    | (with_reducible apply frame_setPair)
    | (with_reducible apply frame_hbLost)
    | (with_reducible apply frame_linkDown)
    | (fail_if_no_progress extract_lets)
    | intro _
    | (with_reducible split)

theorem frame_takeover {l₀ : List Area} {b₀ b : Block} (h₀ : Frame l₀ b₀ b)
    (hl : [.regs, .irq, .hq, .store, .pt, .ml, .out] ⊆ l₀ := by first | assumption | exact Area.sub ‹_›) :
    Frame l₀ b₀ (b.takeover) := by
  unfold Block.takeover
  repeat' first
    | (with_reducible assumption)
    | (with_reducible exact Area.sub ‹_›)
    | (with_reducible exact Frame.refl)
    | (with_reducible apply Frame.ite)
    | (with_reducible refine Frame.foldl ?_ (fun _ _ _ => ?_))
    | (with_reducible apply frame_setFld)
    | (with_reducible apply frame_setPair)
    | (with_reducible apply frame_mirRun)
    | (with_reducible apply frame_modVol)
    | (with_reducible apply frame_skipFrames)
    | (with_reducible apply frame_modMl)
    | (with_reducible apply frame_raise)
    | (with_reducible apply frame_async)
    | (fail_if_no_progress extract_lets)
    | intro _
    | (with_reducible split)

theorem frame_execTakeoverDelay {l₀ : List Area} {b₀ : Block} {s t : State} (e₀ : execTakeoverDelay s = .next t)
    (h₀ : Frame l₀ b₀ s.toBlock)
    (hl : [.regs, .irq, .hq, .store, .pt, .ml, .out] ⊆ l₀ := by first | assumption | exact Area.sub ‹_›) : Frame l₀ b₀ t.toBlock := by
  unfold execTakeoverDelay at e₀
  refine Frame.upd e₀ h₀ (fun _ _ => ?_)
  repeat' first
    | (with_reducible assumption)
    | (with_reducible exact Area.sub ‹_›)
    | (with_reducible exact Frame.refl)
    | (with_reducible apply Frame.ite)
    | (with_reducible refine Frame.foldl ?_ (fun _ _ _ => ?_))
    | (with_reducible apply frame_takeover)
    | (fail_if_no_progress extract_lets)
    | intro _
    | (with_reducible split)

theorem frame_onAction {l₀ : List Area} {b₀ b : Block} (h₀ : Frame l₀ b₀ b) (tag : Nat) (action : Nat) (f : Block → Cmd → Block) (hf : ∀ c x0, Frame l₀ b₀ c → Frame l₀ b₀ (f c x0))
    (hl : [] ⊆ l₀ := by first | assumption | exact Area.sub ‹_›) :
    Frame l₀ b₀ (b.onAction tag action f) := by
  unfold Block.onAction
  repeat' first
    | (with_reducible assumption)
    | (with_reducible exact Area.sub ‹_›)
    | (with_reducible exact Frame.refl)
    | (with_reducible apply Frame.ite)
    | (with_reducible refine Frame.foldl ?_ (fun _ _ _ => ?_))
    | (with_reducible apply hf)
    | (with_reducible apply frame_actOn)
    | (fail_if_no_progress extract_lets)
    | intro _
    | (with_reducible split)

theorem frame_execMirrorStatus {l₀ : List Area} {b₀ : Block} {s t : State} {tag : Nat} (e₀ : execMirrorStatus tag s = .next t)
    (h₀ : Frame l₀ b₀ s.toBlock)
    (hl : [.hq] ⊆ l₀ := by first | assumption | exact Area.sub ‹_›) : Frame l₀ b₀ t.toBlock := by
  unfold execMirrorStatus at e₀
  refine Frame.upd e₀ h₀ (fun _ _ => ?_)
  repeat' first
    | (with_reducible assumption)
    | (with_reducible exact Area.sub ‹_›)
    | (with_reducible exact Frame.refl)
    | (with_reducible apply Frame.ite)
    | (with_reducible refine Frame.foldl ?_ (fun _ _ _ => ?_))
    | (with_reducible apply frame_onAction)
    | (with_reducible apply frame_succeed)
    | (fail_if_no_progress extract_lets)
    | intro _
    | (with_reducible split)

theorem frame_execMirrorMode {l₀ : List Area} {b₀ : Block} {s t : State} {tag : Nat} (e₀ : execMirrorMode tag s = .next t)
    (h₀ : Frame l₀ b₀ s.toBlock)
    (hl : [.regs, .hq] ⊆ l₀ := by first | assumption | exact Area.sub ‹_›) : Frame l₀ b₀ t.toBlock := by
  unfold execMirrorMode at e₀
  refine Frame.upd e₀ h₀ (fun _ _ => ?_)
  repeat' first
    | (with_reducible assumption)
    | (with_reducible exact Area.sub ‹_›)
    | (with_reducible exact Frame.refl)
    | (with_reducible apply Frame.ite)
    | (with_reducible refine Frame.foldl ?_ (fun _ _ _ => ?_))
    | (with_reducible apply frame_onAction)
    | (with_reducible apply frame_setBit)
    | (with_reducible apply frame_succeed)
    | (fail_if_no_progress extract_lets)
    | intro _
    | (with_reducible split)

theorem frame_execTakeover {l₀ : List Area} {b₀ : Block} {s t : State} {tag : Nat} (e₀ : execTakeover tag s = .next t)
    (h₀ : Frame l₀ b₀ s.toBlock)
    (hl : [.regs, .irq, .hq, .store, .pt, .ml, .out] ⊆ l₀ := by first | assumption | exact Area.sub ‹_›) : Frame l₀ b₀ t.toBlock := by
  unfold execTakeover at e₀
  refine Frame.upd e₀ h₀ (fun _ _ => ?_)
  repeat' first
    | (with_reducible assumption)
    | (with_reducible exact Area.sub ‹_›)
    | (with_reducible exact Frame.refl)
    | (with_reducible apply Frame.ite)
    | (with_reducible refine Frame.foldl ?_ (fun _ _ _ => ?_))
    | (with_reducible apply frame_onAction)
    | (with_reducible apply frame_takeover)
    | (with_reducible apply frame_succeed)
    | (with_reducible apply frame_failWith)
    | (fail_if_no_progress extract_lets)
    | intro _
    | (with_reducible split)

theorem frame_newEpoch {l₀ : List Area} {b₀ b : Block} (h₀ : Frame l₀ b₀ b) (epoch : Nat) (st : Nat) (partner : Bool)
    (hl : [.regs, .irq, .ml, .out] ⊆ l₀ := by first | assumption | exact Area.sub ‹_›) :
    Frame l₀ b₀ (b.newEpoch epoch st partner) := by
  unfold Block.newEpoch
  repeat' first
    | (with_reducible assumption)
    | (with_reducible exact Area.sub ‹_›)
    | (with_reducible exact Frame.refl)
    | (with_reducible apply Frame.ite)
    | (with_reducible refine Frame.foldl ?_ (fun _ _ _ => ?_))
    | (with_reducible apply frame_setFld)
    | (with_reducible apply frame_setTxMseq)
    | (with_reducible apply frame_modMl)
    | (with_reducible apply frame_setPair)
    | (fail_if_no_progress extract_lets)
    | intro _
    | (with_reducible split)

theorem frame_sendHello {l₀ : List Area} {b₀ b : Block} (h₀ : Frame l₀ b₀ b)
    (hl : [.ml, .out] ⊆ l₀ := by first | assumption | exact Area.sub ‹_›) :
    Frame l₀ b₀ (b.sendHello) := by
  unfold Block.sendHello
  repeat' first
    | (with_reducible assumption)
    | (with_reducible exact Area.sub ‹_›)
    | (with_reducible exact Frame.refl)
    | (with_reducible apply Frame.ite)
    | (with_reducible refine Frame.foldl ?_ (fun _ _ _ => ?_))
    | (with_reducible apply frame_melarSend)
    | (fail_if_no_progress extract_lets)
    | intro _
    | (with_reducible split)

theorem frame_execPair {l₀ : List Area} {b₀ : Block} {s t : State} {tag : Nat} {peer : PeerPair} (e₀ : execPair tag peer s = .next t)
    (h₀ : Frame l₀ b₀ s.toBlock)
    (hl : [.regs, .irq, .hq, .ml, .out] ⊆ l₀ := by first | assumption | exact Area.sub ‹_›) : Frame l₀ b₀ t.toBlock := by
  unfold execPair at e₀
  refine Frame.upd e₀ h₀ (fun _ _ => ?_)
  repeat' first
    | (with_reducible assumption)
    | (with_reducible exact Area.sub ‹_›)
    | (with_reducible exact Frame.refl)
    | (with_reducible apply Frame.ite)
    | (with_reducible refine Frame.foldl ?_ (fun _ _ _ => ?_))
    | (with_reducible apply frame_onAction)
    | (with_reducible apply frame_failWith)
    | (with_reducible apply frame_setPair)
    | (with_reducible apply frame_toStep)
    | (with_reducible apply frame_modMl)
    | (with_reducible apply frame_newEpoch)
    | (with_reducible apply frame_sendHello)
    | (with_reducible apply frame_sendCatalogue)
    | (with_reducible apply frame_succeed)
    | (fail_if_no_progress extract_lets)
    | intro _
    | (with_reducible split)

theorem frame_execUnpair {l₀ : List Area} {b₀ : Block} {s t : State} {tag : Nat} (e₀ : execUnpair tag s = .next t)
    (h₀ : Frame l₀ b₀ s.toBlock)
    (hl : [.regs, .irq, .hq, .ml, .out] ⊆ l₀ := by first | assumption | exact Area.sub ‹_›) : Frame l₀ b₀ t.toBlock := by
  unfold execUnpair at e₀
  refine Frame.upd e₀ h₀ (fun _ _ => ?_)
  repeat' first
    | (with_reducible assumption)
    | (with_reducible exact Area.sub ‹_›)
    | (with_reducible exact Frame.refl)
    | (with_reducible apply Frame.ite)
    | (with_reducible refine Frame.foldl ?_ (fun _ _ _ => ?_))
    | (with_reducible apply frame_onAction)
    | (with_reducible apply frame_failWith)
    | (with_reducible apply frame_melarSend)
    | (with_reducible apply frame_modMl)
    | (with_reducible apply frame_setPair)
    | (with_reducible apply frame_succeed)
    | (fail_if_no_progress extract_lets)
    | intro _
    | (with_reducible split)

theorem frame_rejoin {l₀ : List Area} {b₀ b : Block} (h₀ : Frame l₀ b₀ b) (earlier : Bool)
    (hl : [.regs, .irq, .ml, .out] ⊆ l₀ := by first | assumption | exact Area.sub ‹_›) :
    Frame l₀ b₀ (b.rejoin earlier) := by
  unfold Block.rejoin
  repeat' first
    | (with_reducible assumption)
    | (with_reducible exact Area.sub ‹_›)
    | (with_reducible exact Frame.refl)
    | (with_reducible apply Frame.ite)
    | (with_reducible refine Frame.foldl ?_ (fun _ _ _ => ?_))
    | (with_reducible apply frame_newEpoch)
    | (with_reducible apply frame_sendHello)
    | (with_reducible apply frame_sendCatalogue)
    | (fail_if_no_progress extract_lets)
    | intro _
    | (with_reducible split)

theorem frame_execRejoin {l₀ : List Area} {b₀ : Block} {s t : State} {tag : Nat} {earlier : Bool} (e₀ : execRejoin tag earlier s = .next t)
    (h₀ : Frame l₀ b₀ s.toBlock)
    (hl : [.regs, .irq, .hq, .ml, .out] ⊆ l₀ := by first | assumption | exact Area.sub ‹_›) : Frame l₀ b₀ t.toBlock := by
  unfold execRejoin at e₀
  refine Frame.upd e₀ h₀ (fun _ _ => ?_)
  repeat' first
    | (with_reducible assumption)
    | (with_reducible exact Area.sub ‹_›)
    | (with_reducible exact Frame.refl)
    | (with_reducible apply Frame.ite)
    | (with_reducible refine Frame.foldl ?_ (fun _ _ _ => ?_))
    | (with_reducible apply frame_onAction)
    | (with_reducible apply frame_failWith)
    | (with_reducible apply frame_rejoin)
    | (with_reducible apply frame_succeed)
    | (fail_if_no_progress extract_lets)
    | intro _
    | (with_reducible split)

theorem frame_execAutoRejoin {l₀ : List Area} {b₀ : Block} {s t : State} {earlier : Bool} (e₀ : execAutoRejoin earlier s = .next t)
    (h₀ : Frame l₀ b₀ s.toBlock)
    (hl : [.regs, .irq, .ml, .out] ⊆ l₀ := by first | assumption | exact Area.sub ‹_›) : Frame l₀ b₀ t.toBlock := by
  unfold execAutoRejoin at e₀
  refine Frame.upd e₀ h₀ (fun _ _ => ?_)
  repeat' first
    | (with_reducible assumption)
    | (with_reducible exact Area.sub ‹_›)
    | (with_reducible exact Frame.refl)
    | (with_reducible apply Frame.ite)
    | (with_reducible refine Frame.foldl ?_ (fun _ _ _ => ?_))
    | (with_reducible apply frame_rejoin)
    | (fail_if_no_progress extract_lets)
    | intro _
    | (with_reducible split)

theorem frame_conflict {l₀ : List Area} {b₀ b : Block} (h₀ : Frame l₀ b₀ b) (h : PeerHello) (earlier : Bool)
    (hl : [.regs, .irq, .ml, .out] ⊆ l₀ := by first | assumption | exact Area.sub ‹_›) :
    Frame l₀ b₀ (b.conflict h earlier) := by
  unfold Block.conflict
  repeat' first
    | (with_reducible assumption)
    | (with_reducible exact Area.sub ‹_›)
    | (with_reducible exact Frame.refl)
    | (with_reducible apply Frame.ite)
    | (with_reducible refine Frame.foldl ?_ (fun _ _ _ => ?_))
    | (with_reducible apply frame_setBit)
    | (with_reducible apply frame_raise)
    | (with_reducible apply frame_setPair)
    | (fail_if_no_progress extract_lets)
    | intro _
    | (with_reducible split)

theorem frame_joinPeer {l₀ : List Area} {b₀ b : Block} (h₀ : Frame l₀ b₀ b) (h : PeerHello)
    (hl : [.regs, .irq, .ml, .out] ⊆ l₀ := by first | assumption | exact Area.sub ‹_›) :
    Frame l₀ b₀ (b.joinPeer h) := by
  unfold Block.joinPeer
  repeat' first
    | (with_reducible assumption)
    | (with_reducible exact Area.sub ‹_›)
    | (with_reducible exact Frame.refl)
    | (with_reducible apply Frame.ite)
    | (with_reducible refine Frame.foldl ?_ (fun _ _ _ => ?_))
    | (with_reducible apply frame_modMl)
    | (with_reducible apply frame_newEpoch)
    | (with_reducible apply frame_sendCatalogue)
    | (fail_if_no_progress extract_lets)
    | intro _
    | (with_reducible split)

theorem frame_execMlHello {l₀ : List Area} {b₀ : Block} {s t : State} {h : PeerHello} {earlier : Bool} (e₀ : execMlHello h earlier s = .next t)
    (h₀ : Frame l₀ b₀ s.toBlock)
    (hl : [.regs, .irq, .ml, .out] ⊆ l₀ := by first | assumption | exact Area.sub ‹_›) : Frame l₀ b₀ t.toBlock := by
  unfold execMlHello at e₀
  refine Frame.upd e₀ h₀ (fun _ _ => ?_)
  repeat' first
    | (with_reducible assumption)
    | (with_reducible exact Area.sub ‹_›)
    | (with_reducible exact Frame.refl)
    | (with_reducible apply Frame.ite)
    | (with_reducible refine Frame.foldl ?_ (fun _ _ _ => ?_))
    | (with_reducible apply frame_setBit)
    | (with_reducible apply frame_setFld)
    | (with_reducible apply frame_modMl)
    | (with_reducible apply frame_raise)
    | (with_reducible apply frame_mlTimers)
    | (with_reducible apply frame_conflict)
    | (with_reducible apply frame_joinPeer)
    | (fail_if_no_progress extract_lets)
    | intro _
    | (with_reducible split)

theorem frame_resyncProg {l₀ : List Area} {b₀ b : Block} (h₀ : Frame l₀ b₀ b) (n : Nat)
    (hl : [.regs, .ml] ⊆ l₀ := by first | assumption | exact Area.sub ‹_›) :
    Frame l₀ b₀ (b.resyncProg n) := by
  unfold Block.resyncProg
  repeat' first
    | (with_reducible assumption)
    | (with_reducible exact Area.sub ‹_›)
    | (with_reducible exact Frame.refl)
    | (with_reducible apply Frame.ite)
    | (with_reducible refine Frame.foldl ?_ (fun _ _ _ => ?_))
    | (with_reducible apply frame_modMl)
    | (with_reducible apply frame_setFld)
    | (fail_if_no_progress extract_lets)
    | intro _
    | (with_reducible split)

theorem frame_takeOld {l₀ : List Area} {b₀ b : Block} (h₀ : Frame l₀ b₀ b) (clip : Nat) (unit : Nat) (bytes : List Byte)
    (hl : [.store, .pt] ⊆ l₀ := by first | assumption | exact Area.sub ‹_›) :
    Frame l₀ b₀ (b.takeOld clip unit bytes) := by
  unfold Block.takeOld
  repeat' first
    | (with_reducible assumption)
    | (with_reducible exact Area.sub ‹_›)
    | (with_reducible exact Frame.refl)
    | (with_reducible apply Frame.ite)
    | (with_reducible refine Frame.foldl ?_ (fun _ _ _ => ?_))
    | (with_reducible apply frame_takeUnit)
    | (with_reducible apply frame_takeFrame)
    | (fail_if_no_progress extract_lets)
    | intro _
    | (with_reducible split)

theorem frame_execMlRsync {l₀ : List Area} {b₀ : Block} {s t : State} {out : Bool} {clip : BitVec 16} {unit : BitVec 32} {bytes : List Byte} (e₀ : execMlRsync out clip unit bytes s = .next t)
    (h₀ : Frame l₀ b₀ s.toBlock)
    (hl : [.regs, .store, .pt, .ml, .out] ⊆ l₀ := by first | assumption | exact Area.sub ‹_›) : Frame l₀ b₀ t.toBlock := by
  unfold execMlRsync at e₀
  refine Frame.upd e₀ h₀ (fun _ _ => ?_)
  repeat' first
    | (with_reducible assumption)
    | (with_reducible exact Area.sub ‹_›)
    | (with_reducible exact Frame.refl)
    | (with_reducible apply Frame.ite)
    | (with_reducible refine Frame.foldl ?_ (fun _ _ _ => ?_))
    | (with_reducible apply frame_melarSend)
    | (with_reducible apply frame_resyncProg)
    | (with_reducible apply frame_onFrame)
    | (with_reducible apply frame_modMl)
    | (with_reducible apply frame_takeOld)
    | (fail_if_no_progress extract_lets)
    | intro _
    | (with_reducible split)

theorem frame_execResyncComplete {l₀ : List Area} {b₀ : Block} {s t : State} (e₀ : execResyncComplete s = .next t)
    (h₀ : Frame l₀ b₀ s.toBlock)
    (hl : [.regs, .irq, .hq, .ml, .out] ⊆ l₀ := by first | assumption | exact Area.sub ‹_›) : Frame l₀ b₀ t.toBlock := by
  unfold execResyncComplete at e₀
  refine Frame.upd e₀ h₀ (fun _ _ => ?_)
  repeat' first
    | (with_reducible assumption)
    | (with_reducible exact Area.sub ‹_›)
    | (with_reducible exact Frame.refl)
    | (with_reducible apply Frame.ite)
    | (with_reducible refine Frame.foldl ?_ (fun _ _ _ => ?_))
    | (with_reducible apply frame_setFld)
    | (with_reducible apply frame_setPair)
    | (with_reducible apply frame_raise)
    | (with_reducible apply frame_async)
    | (fail_if_no_progress extract_lets)
    | intro _
    | (with_reducible split)

theorem frame_execMlIrq {l₀ : List Area} {b₀ : Block} {s t : State} {n : BitVec 11} (e₀ : execMlIrq n s = .next t)
    (h₀ : Frame l₀ b₀ s.toBlock)
    (hl : [.regs, .irq, .ml, .out] ⊆ l₀ := by first | assumption | exact Area.sub ‹_›) : Frame l₀ b₀ t.toBlock := by
  unfold execMlIrq at e₀
  refine Frame.upd e₀ h₀ (fun _ _ => ?_)
  repeat' first
    | (with_reducible assumption)
    | (with_reducible exact Area.sub ‹_›)
    | (with_reducible exact Frame.refl)
    | (with_reducible apply Frame.ite)
    | (with_reducible refine Frame.foldl ?_ (fun _ _ _ => ?_))
    | (with_reducible apply frame_onFrame)
    | (with_reducible apply frame_modIrq)
    | (with_reducible apply frame_modIrq)
    | (with_reducible apply frame_raise)
    | (fail_if_no_progress extract_lets)
    | intro _
    | (with_reducible split)

theorem frame_tunBit {l₀ : List Area} {b₀ b : Block} (h₀ : Frame l₀ b₀ b) (m : Fin 7) (f : Fld) (v : Nat)
    (hl : [.tunCtl] ⊆ l₀ := by first | assumption | exact Area.sub ‹_›) :
    Frame l₀ b₀ (b.tunBit m f v) := by
  unfold Block.tunBit
  repeat' first
    | (with_reducible assumption)
    | (with_reducible exact Area.sub ‹_›)
    | (with_reducible exact Frame.refl)
    | (with_reducible apply Frame.ite)
    | (with_reducible refine Frame.foldl ?_ (fun _ _ _ => ?_))
    | (with_reducible apply frame_setTunCtl)
    | (fail_if_no_progress extract_lets)
    | intro _
    | (with_reducible split)

theorem frame_tunFail {l₀ : List Area} {b₀ b : Block} (h₀ : Frame l₀ b₀ b) (m : Fin 7)
    (hl : [.regs, .tunCtl, .irq, .ml, .out] ⊆ l₀ := by first | assumption | exact Area.sub ‹_›) :
    Frame l₀ b₀ (b.tunFail m) := by
  unfold Block.tunFail
  repeat' first
    | (with_reducible assumption)
    | (with_reducible exact Area.sub ‹_›)
    | (with_reducible exact Frame.refl)
    | (with_reducible apply Frame.ite)
    | (with_reducible refine Frame.foldl ?_ (fun _ _ _ => ?_))
    | (with_reducible apply frame_tunBit)
    | (with_reducible apply frame_raise)
    | (fail_if_no_progress extract_lets)
    | intro _
    | (with_reducible split)

theorem frame_tunnelGo {l₀ : List Area} {b₀ b : Block} (h₀ : Frame l₀ b₀ b) (m : Fin 7) (addr : Nat) (write : Bool)
    (hl : [.regs, .tunCtl, .irq, .ml, .out] ⊆ l₀ := by first | assumption | exact Area.sub ‹_›) :
    Frame l₀ b₀ (b.tunnelGo m addr write) := by
  unfold Block.tunnelGo
  repeat' first
    | (with_reducible assumption)
    | (with_reducible exact Area.sub ‹_›)
    | (with_reducible exact Frame.refl)
    | (with_reducible apply Frame.ite)
    | (with_reducible refine Frame.foldl ?_ (fun _ _ _ => ?_))
    | (with_reducible apply frame_tunBit)
    | (with_reducible apply frame_tunFail)
    | (with_reducible apply frame_modMl)
    | (with_reducible apply frame_melarSend)
    | (fail_if_no_progress extract_lets)
    | intro _
    | (with_reducible split)

theorem frame_execTunnelAccess {l₀ : List Area} {b₀ : Block} {s t : State} {m : Master} {addr : BitVec 22} {write : Bool} (e₀ : execTunnelAccess m addr write s = .next t)
    (h₀ : Frame l₀ b₀ s.toBlock)
    (hl : [.regs, .tunCtl, .irq, .ml, .out] ⊆ l₀ := by first | assumption | exact Area.sub ‹_›) : Frame l₀ b₀ t.toBlock := by
  unfold execTunnelAccess at e₀
  refine Frame.upd e₀ h₀ (fun _ _ => ?_)
  repeat' first
    | (with_reducible assumption)
    | (with_reducible exact Area.sub ‹_›)
    | (with_reducible exact Frame.refl)
    | (with_reducible apply Frame.ite)
    | (with_reducible refine Frame.foldl ?_ (fun _ _ _ => ?_))
    | (with_reducible apply frame_tunnelGo)
    | (fail_if_no_progress extract_lets)
    | intro _
    | (with_reducible split)

theorem frame_tunEnd {l₀ : List Area} {b₀ b : Block} (h₀ : Frame l₀ b₀ b) (m : Fin 7)
    (hl : [.tunCtl, .ml] ⊆ l₀ := by first | assumption | exact Area.sub ‹_›) :
    Frame l₀ b₀ (b.tunEnd m) := by
  unfold Block.tunEnd
  repeat' first
    | (with_reducible assumption)
    | (with_reducible exact Area.sub ‹_›)
    | (with_reducible exact Frame.refl)
    | (with_reducible apply Frame.ite)
    | (with_reducible refine Frame.foldl ?_ (fun _ _ _ => ?_))
    | (with_reducible apply frame_tunBit)
    | (with_reducible apply frame_modMl)
    | (fail_if_no_progress extract_lets)
    | intro _
    | (with_reducible split)

theorem frame_execMlTunRsp {l₀ : List Area} {b₀ : Block} {s t : State} {addr : BitVec 22} {write : Bool} {data : Word} (e₀ : execMlTunRsp addr write data s = .next t)
    (h₀ : Frame l₀ b₀ s.toBlock)
    (hl : [.tunCtl, .tunData, .ml] ⊆ l₀ := by first | assumption | exact Area.sub ‹_›) : Frame l₀ b₀ t.toBlock := by
  unfold execMlTunRsp at e₀
  refine Frame.upd e₀ h₀ (fun _ _ => ?_)
  repeat' first
    | (with_reducible assumption)
    | (with_reducible exact Area.sub ‹_›)
    | (with_reducible exact Frame.refl)
    | (with_reducible apply Frame.ite)
    | (with_reducible refine Frame.foldl ?_ (fun _ _ _ => ?_))
    | (with_reducible apply frame_onFrame)
    | (with_reducible apply frame_tunEnd)
    | (with_reducible apply frame_setTunData)
    | (fail_if_no_progress extract_lets)
    | intro _
    | (with_reducible split)

theorem frame_execTunnelTimeout {l₀ : List Area} {b₀ : Block} {s t : State} {m : Master} (e₀ : execTunnelTimeout m s = .next t)
    (h₀ : Frame l₀ b₀ s.toBlock)
    (hl : [.regs, .tunCtl, .irq, .ml, .out] ⊆ l₀ := by first | assumption | exact Area.sub ‹_›) : Frame l₀ b₀ t.toBlock := by
  unfold execTunnelTimeout at e₀
  refine Frame.upd e₀ h₀ (fun _ _ => ?_)
  repeat' first
    | (with_reducible assumption)
    | (with_reducible exact Area.sub ‹_›)
    | (with_reducible exact Frame.refl)
    | (with_reducible apply Frame.ite)
    | (with_reducible refine Frame.foldl ?_ (fun _ _ _ => ?_))
    | (with_reducible apply frame_tunEnd)
    | (with_reducible apply frame_tunFail)
    | (fail_if_no_progress extract_lets)
    | intro _
    | (with_reducible split)

/-! ### Machine/Power.lean -/

theorem frame_stopDisc {l₀ : List Area} {b₀ b : Block} (h₀ : Frame l₀ b₀ b) (n : Nat)
    (hl : [.regs, .wp, .pw, .out] ⊆ l₀ := by first | assumption | exact Area.sub ‹_›) :
    Frame l₀ b₀ (b.stopDisc n) := by
  unfold Block.stopDisc
  repeat' first
    | (with_reducible assumption)
    | (with_reducible exact Area.sub ‹_›)
    | (with_reducible exact Frame.refl)
    | (with_reducible apply Frame.ite)
    | (with_reducible refine Frame.foldl ?_ (fun _ _ _ => ?_))
    | (with_reducible apply frame_onSurf)
    | (with_reducible apply frame_modWp)
    | (with_reducible apply frame_cancelPlan)
    | (with_reducible apply frame_modPw)
    | (fail_if_no_progress extract_lets)
    | intro _
    | (with_reducible split)

theorem frame_discMoves {l₀ : List Area} {b₀ b : Block} (h₀ : Frame l₀ b₀ b)
    (hl : [.regs, .irq, .le, .servo, .spin, .wp, .hq, .store, .ml, .pw, .out] ⊆ l₀ := by first | assumption | exact Area.sub ‹_›) :
    Frame l₀ b₀ (b.discMoves) := by
  unfold Block.discMoves
  repeat' first
    | (with_reducible assumption)
    | (with_reducible exact Area.sub ‹_›)
    | (with_reducible exact Frame.refl)
    | (with_reducible apply Frame.ite)
    | (with_reducible refine Frame.foldl ?_ (fun _ _ _ => ?_))
    | (with_reducible apply frame_modPw)
    | (with_reducible apply frame_spRetarget)
    | (fail_if_no_progress extract_lets)
    | intro _
    | (with_reducible split)

theorem frame_discChange {l₀ : List Area} {b₀ b : Block} (h₀ : Frame l₀ b₀ b) (n : Nat)
    (hl : [.regs, .irq, .le, .servo, .spin, .wp, .hq, .store, .ml, .pw, .out] ⊆ l₀ := by first | assumption | exact Area.sub ‹_›) :
    Frame l₀ b₀ (b.discChange n) := by
  unfold Block.discChange
  repeat' first
    | (with_reducible assumption)
    | (with_reducible exact Area.sub ‹_›)
    | (with_reducible exact Frame.refl)
    | (with_reducible apply Frame.ite)
    | (with_reducible refine Frame.foldl ?_ (fun _ _ _ => ?_))
    | (with_reducible apply frame_stopDisc)
    | (with_reducible apply frame_spRcap)
    | (with_reducible apply frame_modPw)
    | (with_reducible apply frame_discMoves)
    | (fail_if_no_progress extract_lets)
    | intro _
    | (with_reducible split)

theorem frame_discSteps {l₀ : List Area} {b₀ b : Block} (h₀ : Frame l₀ b₀ b)
    (hl : [.regs, .irq, .le, .servo, .spin, .wp, .hq, .store, .ml, .pw, .out] ⊆ l₀ := by first | assumption | exact Area.sub ‹_›) :
    Frame l₀ b₀ (b.discSteps) := by
  unfold Block.discSteps
  repeat' first
    | (with_reducible assumption)
    | (with_reducible exact Area.sub ‹_›)
    | (with_reducible exact Frame.refl)
    | (with_reducible apply Frame.ite)
    | (with_reducible refine Frame.foldl ?_ (fun _ _ _ => ?_))
    | (with_reducible apply frame_discMoves)
    | (with_reducible apply frame_modPw)
    | (with_reducible apply frame_discChange)
    | (fail_if_no_progress extract_lets)
    | intro _
    | (with_reducible split)

theorem frame_execReducedModeEntry {l₀ : List Area} {b₀ : Block} {s t : State} (e₀ : execReducedModeEntry s = .next t)
    (h₀ : Frame l₀ b₀ s.toBlock)
    (hl : [.regs, .irq, .le, .servo, .spin, .wp, .hq, .store, .ml, .pw, .out] ⊆ l₀ := by first | assumption | exact Area.sub ‹_›) : Frame l₀ b₀ t.toBlock := by
  unfold execReducedModeEntry at e₀
  refine Frame.upd e₀ h₀ (fun _ _ => ?_)
  repeat' first
    | (with_reducible assumption)
    | (with_reducible exact Area.sub ‹_›)
    | (with_reducible exact Frame.refl)
    | (with_reducible apply Frame.ite)
    | (with_reducible refine Frame.foldl ?_ (fun _ _ _ => ?_))
    | (with_reducible apply frame_setFld)
    | (with_reducible apply frame_modPw)
    | (with_reducible apply frame_raise)
    | (with_reducible apply frame_async)
    | (with_reducible apply frame_discChange)
    | (with_reducible apply frame_spRcap)
    | (fail_if_no_progress extract_lets)
    | intro _
    | (with_reducible split)

theorem frame_execReducedModeExit {l₀ : List Area} {b₀ : Block} {s t : State} (e₀ : execReducedModeExit s = .next t)
    (h₀ : Frame l₀ b₀ s.toBlock)
    (hl : [.regs, .irq, .le, .servo, .spin, .wp, .hq, .store, .ml, .pw, .out] ⊆ l₀ := by first | assumption | exact Area.sub ‹_›) : Frame l₀ b₀ t.toBlock := by
  unfold execReducedModeExit at e₀
  refine Frame.upd e₀ h₀ (fun _ _ => ?_)
  repeat' first
    | (with_reducible assumption)
    | (with_reducible exact Area.sub ‹_›)
    | (with_reducible exact Frame.refl)
    | (with_reducible apply Frame.ite)
    | (with_reducible refine Frame.foldl ?_ (fun _ _ _ => ?_))
    | (with_reducible apply frame_setFld)
    | (with_reducible apply frame_modPw)
    | (with_reducible apply frame_raise)
    | (with_reducible apply frame_spRcap)
    | (with_reducible apply frame_async)
    | (with_reducible apply frame_discChange)
    | (fail_if_no_progress extract_lets)
    | intro _
    | (with_reducible split)

theorem frame_outputsOff {l₀ : List Area} {b₀ b : Block} (h₀ : Frame l₀ b₀ b)
    (hl : [.regs, .irq, .le, .servo, .spin, .axis, .wp, .se, .cal, .hq, .store, .ml, .out] ⊆ l₀ := by first | assumption | exact Area.sub ‹_›) :
    Frame l₀ b₀ (b.outputsOff) := by
  unfold Block.outputsOff
  repeat' first
    | (with_reducible assumption)
    | (with_reducible exact Area.sub ‹_›)
    | (with_reducible exact Frame.refl)
    | (with_reducible apply Frame.ite)
    | (with_reducible refine Frame.foldl ?_ (fun _ _ _ => ?_))
    | (with_reducible apply frame_onSurf)
    | (with_reducible apply frame_setFld)
    | (with_reducible apply frame_sendPower)
    | (with_reducible apply frame_cutPass)
    | (with_reducible apply frame_cancelPlan)
    | (with_reducible apply frame_calAbandon)
    | (with_reducible apply frame_onSpin)
    | (with_reducible apply frame_spClear)
    | (with_reducible apply frame_spGo)
    | (with_reducible apply frame_onAxis)
    | (with_reducible apply frame_modAxis)
    | (fail_if_no_progress extract_lets)
    | intro _
    | (with_reducible split)

theorem frame_powerCut {l₀ : List Area} {b₀ b : Block} (h₀ : Frame l₀ b₀ b)
    (hl : [.regs, .irq, .le, .servo, .spin, .axis, .wp, .se, .cal, .dram, .hq, .store, .pt, .ml, .out] ⊆ l₀ := by first | assumption | exact Area.sub ‹_›) :
    Frame l₀ b₀ (b.powerCut) := by
  unfold Block.powerCut
  repeat' first
    | (with_reducible assumption)
    | (with_reducible exact Area.sub ‹_›)
    | (with_reducible exact Frame.refl)
    | (with_reducible apply Frame.ite)
    | (with_reducible refine Frame.foldl ?_ (fun _ _ _ => ?_))
    | (with_reducible apply frame_outputsOff)
    | (with_reducible apply frame_modHq)
    | (with_reducible apply frame_melarSend)
    | (with_reducible apply frame_emit)
    | (with_reducible apply frame_modMl)
    | (with_reducible apply frame_setFld)
    | (with_reducible apply frame_modPt)
    | (with_reducible apply frame_ptEnd)
    | (fail_if_no_progress extract_lets)
    | intro _
    | (with_reducible split)

theorem frame_dumpPage {l₀ : List Area} {b₀ b : Block} (h₀ : Frame l₀ b₀ b) (dies : List Nat) (rsv : List (Nat × List Nat)) (i : Nat) (us : List Chunk)
    (hl : [.pt] ⊆ l₀ := by first | assumption | exact Area.sub ‹_›) :
    Frame l₀ b₀ (b.dumpPage dies rsv i us) := by
  unfold Block.dumpPage
  repeat' first
    | (with_reducible assumption)
    | (with_reducible exact Area.sub ‹_›)
    | (with_reducible exact Frame.refl)
    | (with_reducible apply Frame.ite)
    | (with_reducible refine Frame.foldl ?_ (fun _ _ _ => ?_))
    | (with_reducible apply frame_modPt)
    | (with_reducible apply frame_modPtBlock)
    | (fail_if_no_progress extract_lets)
    | intro _
    | (with_reducible split)

theorem frame_dump {l₀ : List Area} {b₀ b : Block} (h₀ : Frame l₀ b₀ b) (todo : List Nat) (n : Nat) (whole : Bool)
    (hl : [.regs, .irq, .store, .pt, .ml, .out] ⊆ l₀ := by first | assumption | exact Area.sub ‹_›) :
    Frame l₀ b₀ (b.dump todo n whole) := by
  unfold Block.dump
  repeat' first
    | (with_reducible assumption)
    | (with_reducible exact Area.sub ‹_›)
    | (with_reducible exact Frame.refl)
    | (with_reducible apply Frame.ite)
    | (with_reducible refine Frame.foldl ?_ (fun _ _ _ => ?_))
    | (with_reducible apply frame_dumpPage)
    | (with_reducible apply frame_ptOwn)
    | (with_reducible apply frame_modStore)
    | (fail_if_no_progress extract_lets)
    | intro _
    | (with_reducible split)

theorem frame_execHoldupMeasure {l₀ : List Area} {b₀ : Block} {s t : State} {capf : BitVec 16} {esr : BitVec 16} (e₀ : execHoldupMeasure capf esr s = .next t)
    (h₀ : Frame l₀ b₀ s.toBlock)
    (hl : [.regs, .irq, .hq, .ml, .out] ⊆ l₀ := by first | assumption | exact Area.sub ‹_›) : Frame l₀ b₀ t.toBlock := by
  unfold execHoldupMeasure at e₀
  refine Frame.upd e₀ h₀ (fun _ _ => ?_)
  repeat' first
    | (with_reducible assumption)
    | (with_reducible exact Area.sub ‹_›)
    | (with_reducible exact Frame.refl)
    | (with_reducible apply Frame.ite)
    | (with_reducible refine Frame.foldl ?_ (fun _ _ _ => ?_))
    | (with_reducible apply frame_setFld)
    | (with_reducible apply frame_setAllow)
    | (with_reducible apply frame_raise)
    | (fail_if_no_progress extract_lets)
    | intro _
    | (with_reducible split)

theorem frame_execHoldupArm {l₀ : List Area} {b₀ : Block} {s t : State} (e₀ : execHoldupArm s = .next t)
    (h₀ : Frame l₀ b₀ s.toBlock)
    (hl : [.regs, .irq, .hq, .ml, .out] ⊆ l₀ := by first | assumption | exact Area.sub ‹_›) : Frame l₀ b₀ t.toBlock := by
  unfold execHoldupArm at e₀
  refine Frame.upd e₀ h₀ (fun _ _ => ?_)
  repeat' first
    | (with_reducible assumption)
    | (with_reducible exact Area.sub ‹_›)
    | (with_reducible exact Frame.refl)
    | (with_reducible apply Frame.ite)
    | (with_reducible refine Frame.foldl ?_ (fun _ _ _ => ?_))
    | (with_reducible apply frame_setFld)
    | (with_reducible apply frame_raise)
    | (with_reducible apply frame_setAllow)
    | (with_reducible apply frame_async)
    | (fail_if_no_progress extract_lets)
    | intro _
    | (with_reducible split)

theorem frame_execBoostFault {l₀ : List Area} {b₀ : Block} {s t : State} (e₀ : execBoostFault s = .next t)
    (h₀ : Frame l₀ b₀ s.toBlock)
    (hl : [.regs, .irq, .hq, .ml, .out] ⊆ l₀ := by first | assumption | exact Area.sub ‹_›) : Frame l₀ b₀ t.toBlock := by
  unfold execBoostFault at e₀
  refine Frame.upd e₀ h₀ (fun _ _ => ?_)
  repeat' first
    | (with_reducible assumption)
    | (with_reducible exact Area.sub ‹_›)
    | (with_reducible exact Frame.refl)
    | (with_reducible apply Frame.ite)
    | (with_reducible refine Frame.foldl ?_ (fun _ _ _ => ?_))
    | (with_reducible apply frame_setFld)
    | (with_reducible apply frame_modHq)
    | (with_reducible apply frame_raise)
    | (fail_if_no_progress extract_lets)
    | intro _
    | (with_reducible split)

theorem frame_execVinOvervoltage {l₀ : List Area} {b₀ : Block} {s t : State} (e₀ : execVinOvervoltage s = .next t)
    (h₀ : Frame l₀ b₀ s.toBlock)
    (hl : [.regs, .irq, .ml, .out] ⊆ l₀ := by first | assumption | exact Area.sub ‹_›) : Frame l₀ b₀ t.toBlock := by
  unfold execVinOvervoltage at e₀
  refine Frame.upd e₀ h₀ (fun _ _ => ?_)
  repeat' first
    | (with_reducible assumption)
    | (with_reducible exact Area.sub ‹_›)
    | (with_reducible exact Frame.refl)
    | (with_reducible apply Frame.ite)
    | (with_reducible refine Frame.foldl ?_ (fun _ _ _ => ?_))
    | (with_reducible apply frame_setFld)
    | (with_reducible apply frame_raise)
    | (fail_if_no_progress extract_lets)
    | intro _
    | (with_reducible split)

theorem frame_execModuleBoot {l₀ : List Area} {b₀ : Block} {s t : State} {slotOk : BitVec 2} {badDies : BitVec 32} {bad : List (Nat × Nat)} (e₀ : execModuleBoot slotOk badDies bad s = .next t)
    (h₀ : Frame l₀ b₀ s.toBlock)
    (hl : [.regs, .irq, .hq, .store, .pt, .cx, .ml, .pw, .out] ⊆ l₀ := by first | assumption | exact Area.sub ‹_›) : Frame l₀ b₀ t.toBlock := by
  unfold execModuleBoot at e₀
  refine Frame.upd e₀ h₀ (fun _ _ => ?_)
  repeat' first
    | (with_reducible assumption)
    | (with_reducible exact Area.sub ‹_›)
    | (with_reducible exact Frame.refl)
    | (with_reducible apply Frame.ite)
    | (with_reducible refine Frame.foldl ?_ (fun _ _ _ => ?_))
    | (with_reducible apply frame_modHq)
    | (with_reducible apply frame_modPw)
    | (with_reducible apply frame_putBit)
    | (with_reducible apply frame_raise)
    | (with_reducible apply frame_ptRecover)
    | (with_reducible apply frame_setFld)
    | (with_reducible apply frame_elogNoCmd)
    | (with_reducible apply frame_keyAlarm)
    | (with_reducible apply frame_tryReady)
    | (fail_if_no_progress extract_lets)
    | intro _
    | (with_reducible split)

theorem frame_execStandby {l₀ : List Area} {b₀ : Block} {s t : State} {tag : Nat} (e₀ : execStandby tag s = .next t)
    (h₀ : Frame l₀ b₀ s.toBlock)
    (hl : [.regs, .irq, .le, .servo, .spin, .wp, .hq, .store, .ml, .pw, .out] ⊆ l₀ := by first | assumption | exact Area.sub ‹_›) : Frame l₀ b₀ t.toBlock := by
  unfold execStandby at e₀
  refine Frame.upd e₀ h₀ (fun _ _ => ?_)
  repeat' first
    | (with_reducible assumption)
    | (with_reducible exact Area.sub ‹_›)
    | (with_reducible exact Frame.refl)
    | (with_reducible apply Frame.ite)
    | (with_reducible refine Frame.foldl ?_ (fun _ _ _ => ?_))
    | (with_reducible apply frame_actOn)
    | (with_reducible apply frame_succeed)
    | (with_reducible apply frame_modPw)
    | (with_reducible apply frame_failWith)
    | (with_reducible apply frame_setFld)
    | (with_reducible apply frame_spinsStop)
    | (with_reducible apply frame_toStep)
    | (fail_if_no_progress extract_lets)
    | intro _
    | (with_reducible split)

theorem frame_wakeUp {l₀ : List Area} {b₀ b : Block} (h₀ : Frame l₀ b₀ b) (cause : Nat)
    (hl : [.regs, .irq, .ml, .pw, .out] ⊆ l₀ := by first | assumption | exact Area.sub ‹_›) :
    Frame l₀ b₀ (b.wakeUp cause) := by
  unfold Block.wakeUp
  repeat' first
    | (with_reducible assumption)
    | (with_reducible exact Area.sub ‹_›)
    | (with_reducible exact Frame.refl)
    | (with_reducible apply Frame.ite)
    | (with_reducible refine Frame.foldl ?_ (fun _ _ _ => ?_))
    | (with_reducible apply frame_setFld)
    | (with_reducible apply frame_modPw)
    | (with_reducible apply frame_emit)
    | (with_reducible apply frame_raise)
    | (fail_if_no_progress extract_lets)
    | intro _
    | (with_reducible split)

theorem frame_execSleepEntry {l₀ : List Area} {b₀ : Block} {s t : State} {pending : BitVec 11} (e₀ : execSleepEntry pending s = .next t)
    (h₀ : Frame l₀ b₀ s.toBlock)
    (hl : [.regs, .irq, .hq, .ml, .pw, .out] ⊆ l₀ := by first | assumption | exact Area.sub ‹_›) : Frame l₀ b₀ t.toBlock := by
  unfold execSleepEntry at e₀
  refine Frame.upd e₀ h₀ (fun _ _ => ?_)
  repeat' first
    | (with_reducible assumption)
    | (with_reducible exact Area.sub ‹_›)
    | (with_reducible exact Frame.refl)
    | (with_reducible apply Frame.ite)
    | (with_reducible refine Frame.foldl ?_ (fun _ _ _ => ?_))
    | (with_reducible apply frame_bump)
    | (with_reducible apply frame_raise)
    | (with_reducible apply frame_wakeUp)
    | (with_reducible apply frame_setFld)
    | (with_reducible apply frame_modHq)
    | (with_reducible apply frame_modPw)
    | (fail_if_no_progress extract_lets)
    | intro _
    | (with_reducible split)

theorem frame_execWake {b₀ : Block} {s t : State} {sources : BitVec 11} {ticks : BitVec 32} (e₀ : execWake sources ticks s = .next t)
    (h₀ : Frame l₀ b₀ s.toBlock)
    (hl : [.tick, .regs, .irq, .ml, .pw, .out] ⊆ l₀ := by first | assumption | exact Area.sub ‹_›) : Frame l₀ b₀ t.toBlock := by
  unfold execWake at e₀
  refine Frame.upd e₀ h₀ (fun _ _ => ?_)
  repeat' first
    | (with_reducible assumption)
    | (with_reducible exact Area.sub ‹_›)
    | (with_reducible exact Frame.refl)
    | (with_reducible apply Frame.ite)
    | (with_reducible refine Frame.foldl ?_ (fun _ _ _ => ?_))
    | (with_reducible apply frame_setTick)
    | (with_reducible apply frame_setFld)
    | (with_reducible apply frame_wakeUp)
    | (fail_if_no_progress extract_lets)
    | intro _
    | (with_reducible split)

theorem frame_execStandbyLook {l₀ : List Area} {b₀ : Block} {s t : State} {temp : BitVec 8} {hum : BitVec 8} (e₀ : execStandbyLook temp hum s = .next t)
    (h₀ : Frame l₀ b₀ s.toBlock)
    (hl : [.pw] ⊆ l₀ := by first | assumption | exact Area.sub ‹_›) : Frame l₀ b₀ t.toBlock := by
  unfold execStandbyLook at e₀
  refine Frame.upd e₀ h₀ (fun _ _ => ?_)
  repeat' first
    | (with_reducible assumption)
    | (with_reducible exact Area.sub ‹_›)
    | (with_reducible exact Frame.refl)
    | (with_reducible apply Frame.ite)
    | (with_reducible refine Frame.foldl ?_ (fun _ _ _ => ?_))
    | (with_reducible apply frame_modPw)
    | (fail_if_no_progress extract_lets)
    | intro _
    | (with_reducible split)

theorem frame_execPadRelease {l₀ : List Area} {b₀ : Block} {s t : State} (e₀ : execPadRelease s = .next t)
    (h₀ : Frame l₀ b₀ s.toBlock)
    (hl : [.regs] ⊆ l₀ := by first | assumption | exact Area.sub ‹_›) : Frame l₀ b₀ t.toBlock := by
  unfold execPadRelease at e₀
  refine Frame.upd e₀ h₀ (fun _ _ => ?_)
  repeat' first
    | (with_reducible assumption)
    | (with_reducible exact Area.sub ‹_›)
    | (with_reducible exact Frame.refl)
    | (with_reducible apply Frame.ite)
    | (with_reducible refine Frame.foldl ?_ (fun _ _ _ => ?_))
    | (with_reducible apply frame_setFld)
    | (fail_if_no_progress extract_lets)
    | intro _
    | (with_reducible split)

/-! ### Machine/MapCache.lean -/

theorem frame_writeBack {l₀ : List Area} {b₀ b : Block} (h₀ : Frame l₀ b₀ b) (l : McLine)
    (hl : [.dram] ⊆ l₀ := by first | assumption | exact Area.sub ‹_›) :
    Frame l₀ b₀ (b.writeBack l) := by
  unfold Block.writeBack
  repeat' first
    | (with_reducible assumption)
    | (with_reducible exact Area.sub ‹_›)
    | (with_reducible exact Frame.refl)
    | (with_reducible apply Frame.ite)
    | (with_reducible refine Frame.foldl ?_ (fun _ _ _ => ?_))
    | (with_reducible apply frame_modDram)
    | (fail_if_no_progress extract_lets)
    | intro _
    | (with_reducible split)

theorem frame_victimBack {l₀ : List Area} {b₀ b : Block} (h₀ : Frame l₀ b₀ b) (l : McLine)
    (hl : [.dram] ⊆ l₀ := by first | assumption | exact Area.sub ‹_›) :
    Frame l₀ b₀ (b.victimBack l) := by
  unfold Block.victimBack
  repeat' first
    | (with_reducible assumption)
    | (with_reducible exact Area.sub ‹_›)
    | (with_reducible exact Frame.refl)
    | (with_reducible apply Frame.ite)
    | (with_reducible refine Frame.foldl ?_ (fun _ _ _ => ?_))
    | (with_reducible apply frame_writeBack)
    | (with_reducible apply frame_modDram)
    | (fail_if_no_progress extract_lets)
    | intro _
    | (with_reducible split)

theorem frame_evict {l₀ : List Area} {b₀ b : Block} (h₀ : Frame l₀ b₀ b) (l : McLine)
    (hl : [.regs, .dram] ⊆ l₀ := by first | assumption | exact Area.sub ‹_›) :
    Frame l₀ b₀ (b.evict l) := by
  unfold Block.evict
  repeat' first
    | (with_reducible assumption)
    | (with_reducible exact Area.sub ‹_›)
    | (with_reducible exact Frame.refl)
    | (with_reducible apply Frame.ite)
    | (with_reducible refine Frame.foldl ?_ (fun _ _ _ => ?_))
    | (with_reducible apply frame_modDram)
    | (with_reducible apply frame_bump)
    | (with_reducible apply frame_victimBack)
    | (fail_if_no_progress extract_lets)
    | intro _
    | (with_reducible split)

theorem frame_allocate {l₀ : List Area} {b₀ b c : Block} {set w : Nat} (e : b.allocate set = some (w, c))
    (h₀ : Frame l₀ b₀ b)
    (hl : [.regs, .dram] ⊆ l₀ := by first | assumption | exact Area.sub ‹_›) : Frame l₀ b₀ c := by
  unfold Block.allocate at e
  dsimp only at e
  split at e
  · cases e; exact h₀
  · split at e
    · cases e; exact frame_evict h₀ _
    · cases e

theorem frame_fillSector {l₀ : List Area} {b₀ b : Block} (h₀ : Frame l₀ b₀ b) (core : Fin 4) (l : Nat) (s : Nat)
    (hl : [.regs, .irq, .dram, .ml, .out] ⊆ l₀ := by first | assumption | exact Area.sub ‹_›) :
    Frame l₀ b₀ (b.fillSector core l s) := by
  unfold Block.fillSector
  repeat' first
    | (with_reducible assumption)
    | (with_reducible exact Area.sub ‹_›)
    | (with_reducible exact Frame.refl)
    | (with_reducible apply Frame.ite)
    | (with_reducible refine Frame.foldl ?_ (fun _ _ _ => ?_))
    | (with_reducible apply Frame.ite2)
    | (with_reducible refine Frame.snd (by with_reducible assumption) ?_)
    | (with_reducible refine Frame.thd (by with_reducible assumption) ?_)
    | (with_reducible apply frame_readWord)
    | (with_reducible apply frame_modDram)
    | (fail_if_no_progress extract_lets)
    | intro _
    | (with_reducible split)

theorem frame_serveLine {l₀ : List Area} {b₀ b : Block} (h₀ : Frame l₀ b₀ b) (a : McAcc)
    (hl : [.dram, .out] ⊆ l₀ := by first | assumption | exact Area.sub ‹_›) :
    Frame l₀ b₀ (b.serveLine a) := by
  unfold Block.serveLine
  repeat' first
    | (with_reducible assumption)
    | (with_reducible exact Area.sub ‹_›)
    | (with_reducible exact Frame.refl)
    | (with_reducible apply Frame.ite)
    | (with_reducible refine Frame.foldl ?_ (fun _ _ _ => ?_))
    | (with_reducible apply frame_modDram)
    | (with_reducible apply frame_emit)
    | (fail_if_no_progress extract_lets)
    | intro _
    | (with_reducible split)

theorem frame_serveDirect {l₀ : List Area} {b₀ b : Block} (h₀ : Frame l₀ b₀ b) (a : McAcc)
    (hl : [.regs, .irq, .dram, .ml, .out] ⊆ l₀ := by first | assumption | exact Area.sub ‹_›) :
    Frame l₀ b₀ (b.serveDirect a) := by
  unfold Block.serveDirect
  repeat' first
    | (with_reducible assumption)
    | (with_reducible exact Area.sub ‹_›)
    | (with_reducible exact Frame.refl)
    | (with_reducible apply Frame.ite)
    | (with_reducible refine Frame.foldl ?_ (fun _ _ _ => ?_))
    | (with_reducible apply Frame.ite2)
    | (with_reducible refine Frame.snd (by with_reducible assumption) ?_)
    | (with_reducible refine Frame.thd (by with_reducible assumption) ?_)
    | (with_reducible apply frame_dramWrite)
    | (with_reducible apply frame_dramRead)
    | (with_reducible apply frame_emit)
    | (fail_if_no_progress extract_lets)
    | intro _
    | (with_reducible split)

theorem frame_disableWay {l₀ : List Area} {b₀ b : Block} (h₀ : Frame l₀ b₀ b) (w : Nat)
    (hl : [.regs, .irq, .dram, .ml, .out] ⊆ l₀ := by first | assumption | exact Area.sub ‹_›) :
    Frame l₀ b₀ (b.disableWay w) := by
  unfold Block.disableWay
  repeat' first
    | (with_reducible assumption)
    | (with_reducible exact Area.sub ‹_›)
    | (with_reducible exact Frame.refl)
    | (with_reducible apply Frame.ite)
    | (with_reducible refine Frame.foldl ?_ (fun _ _ _ => ?_))
    | (with_reducible apply frame_writeBack)
    | (with_reducible apply frame_modDram)
    | (with_reducible apply frame_putBit)
    | (with_reducible apply frame_setBit)
    | (with_reducible apply frame_raise)
    | (fail_if_no_progress extract_lets)
    | intro _
    | (with_reducible split)

theorem frame_mcParity {l₀ : List Area} {b₀ b : Block} (h₀ : Frame l₀ b₀ b) (w : Nat) (line : Nat) (dirty : Bool)
    (hl : [.regs, .irq, .dram, .ml, .out] ⊆ l₀ := by first | assumption | exact Area.sub ‹_›) :
    Frame l₀ b₀ (b.mcParity w line dirty) := by
  unfold Block.mcParity
  repeat' first
    | (with_reducible assumption)
    | (with_reducible exact Area.sub ‹_›)
    | (with_reducible exact Frame.refl)
    | (with_reducible apply Frame.ite)
    | (with_reducible refine Frame.foldl ?_ (fun _ _ _ => ?_))
    | (with_reducible apply frame_bump)
    | (with_reducible apply frame_raise)
    | (with_reducible apply frame_setBit)
    | (with_reducible apply frame_setFld)
    | (with_reducible apply frame_disableWay)
    | (fail_if_no_progress extract_lets)
    | intro _
    | (with_reducible split)

theorem frame_startFill {l₀ : List Area} {b₀ b : Block} (h₀ : Frame l₀ b₀ b) (a : McAcc)
    (hl : [.dram] ⊆ l₀ := by first | assumption | exact Area.sub ‹_›) :
    Frame l₀ b₀ (b.startFill a) := by
  unfold Block.startFill
  repeat' first
    | (with_reducible assumption)
    | (with_reducible exact Area.sub ‹_›)
    | (with_reducible exact Frame.refl)
    | (with_reducible apply Frame.ite)
    | (with_reducible refine Frame.foldl ?_ (fun _ _ _ => ?_))
    | (with_reducible apply frame_modDram)
    | (fail_if_no_progress extract_lets)
    | intro _
    | (with_reducible split)

theorem frame_tagStrike {l₀ : List Area} {b₀ b : Block} (h₀ : Frame l₀ b₀ b) (l : Nat) (strike : McStrike)
    (hl : [.regs, .irq, .dram, .ml, .out] ⊆ l₀ := by first | assumption | exact Area.sub ‹_›) :
    Frame l₀ b₀ (b.tagStrike l strike) := by
  unfold Block.tagStrike
  repeat' first
    | (with_reducible assumption)
    | (with_reducible exact Area.sub ‹_›)
    | (with_reducible exact Frame.refl)
    | (with_reducible apply Frame.ite)
    | (with_reducible refine Frame.foldl ?_ (fun _ _ _ => ?_))
    | (with_reducible apply frame_strike)
    | (with_reducible apply frame_modDram)
    | (with_reducible apply frame_mcParity)
    | (fail_if_no_progress extract_lets)
    | intro _
    | (with_reducible split)

theorem frame_mcAccess {l₀ : List Area} {b₀ b : Block} (h₀ : Frame l₀ b₀ b) (a : McAcc) (strike : McStrike)
    (hl : [.regs, .irq, .dram, .ml, .out] ⊆ l₀ := by first | assumption | exact Area.sub ‹_›) :
    Frame l₀ b₀ (b.mcAccess a strike) := by
  unfold Block.mcAccess
  repeat' first
    | (with_reducible assumption)
    | (with_reducible exact Area.sub ‹_›)
    | (with_reducible exact Frame.refl)
    | (with_reducible apply Frame.ite)
    | (with_reducible refine Frame.foldl ?_ (fun _ _ _ => ?_))
    | (with_reducible apply frame_modDram)
    | (with_reducible apply frame_serveDirect)
    | (with_reducible apply frame_tagStrike)
    | (with_reducible apply frame_strike)
    | (with_reducible apply frame_mcParity)
    | (with_reducible apply frame_emit)
    | (with_reducible apply frame_startFill)
    | (with_reducible apply frame_bump)
    | (with_reducible apply frame_serveLine)
    | (with_reducible refine frame_allocate (by with_reducible assumption) ?_)
    | (fail_if_no_progress extract_lets)
    | intro _
    | (with_reducible split)

theorem frame_mcInitEnd {l₀ : List Area} {b₀ b : Block} (h₀ : Frame l₀ b₀ b)
    (hl : [.regs, .irq, .dram, .ml, .out] ⊆ l₀ := by first | assumption | exact Area.sub ‹_›) :
    Frame l₀ b₀ (b.mcInitEnd) := by
  unfold Block.mcInitEnd
  repeat' first
    | (with_reducible assumption)
    | (with_reducible exact Area.sub ‹_›)
    | (with_reducible exact Frame.refl)
    | (with_reducible apply Frame.ite)
    | (with_reducible refine Frame.foldl ?_ (fun _ _ _ => ?_))
    | (with_reducible apply frame_setFld)
    | (with_reducible apply frame_modDram)
    | (with_reducible apply frame_mcAccess)
    | (fail_if_no_progress extract_lets)
    | intro _
    | (with_reducible split)

theorem frame_lockFill {l₀ : List Area} {b₀ b : Block} (h₀ : Frame l₀ b₀ b) (l : Nat)
    (hl : [.regs, .irq, .dram, .ml, .out] ⊆ l₀ := by first | assumption | exact Area.sub ‹_›) :
    Frame l₀ b₀ (b.lockFill l) := by
  unfold Block.lockFill
  repeat' first
    | (with_reducible assumption)
    | (with_reducible exact Area.sub ‹_›)
    | (with_reducible exact Frame.refl)
    | (with_reducible apply Frame.ite)
    | (with_reducible refine Frame.foldl ?_ (fun _ _ _ => ?_))
    | (with_reducible apply frame_setBit)
    | (with_reducible apply frame_raise)
    | (with_reducible apply frame_modDram)
    | (with_reducible apply frame_fillSector)
    | (fail_if_no_progress extract_lets)
    | intro _
    | (with_reducible split)

theorem frame_opLine {l₀ : List Area} {b₀ b : Block} (h₀ : Frame l₀ b₀ b) (op : Nat) (l : Nat)
    (hl : [.regs, .irq, .dram, .ml, .out] ⊆ l₀ := by first | assumption | exact Area.sub ‹_›) :
    Frame l₀ b₀ (b.opLine op l) := by
  unfold Block.opLine
  repeat' first
    | (with_reducible assumption)
    | (with_reducible exact Area.sub ‹_›)
    | (with_reducible exact Frame.refl)
    | (with_reducible apply Frame.ite)
    | (with_reducible refine Frame.foldl ?_ (fun _ _ _ => ?_))
    | (with_reducible apply frame_lockFill)
    | (with_reducible apply frame_writeBack)
    | (with_reducible apply frame_modDram)
    | (with_reducible apply frame_bump)
    | (fail_if_no_progress extract_lets)
    | intro _
    | (with_reducible split)

theorem frame_opRun {l₀ : List Area} {b₀ : Block} (n : Nat)
    (hl : [.regs, .irq, .dram, .ml, .out] ⊆ l₀ := by first | assumption | exact Area.sub ‹_›) : ∀ {b : Block}, Frame l₀ b₀ b → Frame l₀ b₀ (b.opRun n) := by
  induction n with
  | zero => exact fun h => h
  | succ n ih =>
    intro b h
    unfold Block.opRun
    split
    · split
      · exact frame_modDram h _
      · split
        · exact h
        · rename_i fuel o he _ _ _ _ _ _
          have hn : fuel = n := Nat.succ.inj he.symm
          subst hn
          exact ih (frame_modDram (frame_opLine h _ _) _)
    · exact h

theorem frame_opGo {l₀ : List Area} {b₀ b : Block} (h₀ : Frame l₀ b₀ b)
    (hl : [.regs, .irq, .dram, .ml, .out] ⊆ l₀ := by first | assumption | exact Area.sub ‹_›) :
    Frame l₀ b₀ (b.opGo) := by
  unfold Block.opGo
  repeat' first
    | (with_reducible assumption)
    | (with_reducible exact Area.sub ‹_›)
    | (with_reducible exact Frame.refl)
    | (with_reducible apply Frame.ite)
    | (with_reducible refine Frame.foldl ?_ (fun _ _ _ => ?_))
    | (with_reducible apply frame_opRun)
    | (fail_if_no_progress extract_lets)
    | intro _
    | (with_reducible split)

theorem frame_mcGo {l₀ : List Area} {b₀ b : Block} (h₀ : Frame l₀ b₀ b)
    (hl : [.regs, .irq, .dram, .ml, .out] ⊆ l₀ := by first | assumption | exact Area.sub ‹_›) :
    Frame l₀ b₀ (b.mcGo) := by
  unfold Block.mcGo
  repeat' first
    | (with_reducible assumption)
    | (with_reducible exact Area.sub ‹_›)
    | (with_reducible exact Frame.refl)
    | (with_reducible apply Frame.ite)
    | (with_reducible refine Frame.foldl ?_ (fun _ _ _ => ?_))
    | (with_reducible apply frame_setBit)
    | (with_reducible apply frame_raise)
    | (with_reducible apply frame_modDram)
    | (with_reducible apply frame_opGo)
    | (fail_if_no_progress extract_lets)
    | intro _
    | (with_reducible split)

theorem frame_mcOpDone {l₀ : List Area} {b₀ b : Block} (h₀ : Frame l₀ b₀ b)
    (hl : [.regs, .irq, .dram, .ml, .out] ⊆ l₀ := by first | assumption | exact Area.sub ‹_›) :
    Frame l₀ b₀ (b.mcOpDone) := by
  unfold Block.mcOpDone
  repeat' first
    | (with_reducible assumption)
    | (with_reducible exact Area.sub ‹_›)
    | (with_reducible exact Frame.refl)
    | (with_reducible apply Frame.ite)
    | (with_reducible refine Frame.foldl ?_ (fun _ _ _ => ?_))
    | (with_reducible apply frame_modDram)
    | (with_reducible apply frame_setBit)
    | (with_reducible apply frame_setFld)
    | (with_reducible apply frame_raise)
    | (fail_if_no_progress extract_lets)
    | intro _
    | (with_reducible split)

theorem frame_winApply {l₀ : List Area} {b₀ b : Block} (h₀ : Frame l₀ b₀ b)
    (hl : [.regs, .irq, .dram, .ml, .out] ⊆ l₀ := by first | assumption | exact Area.sub ‹_›) :
    Frame l₀ b₀ (b.winApply) := by
  unfold Block.winApply
  repeat' first
    | (with_reducible assumption)
    | (with_reducible exact Area.sub ‹_›)
    | (with_reducible exact Frame.refl)
    | (with_reducible apply Frame.ite)
    | (with_reducible refine Frame.foldl ?_ (fun _ _ _ => ?_))
    | (with_reducible apply frame_writeBack)
    | (with_reducible apply frame_modDram)
    | (with_reducible apply frame_bump)
    | (with_reducible apply frame_raise)
    | (fail_if_no_progress extract_lets)
    | intro _
    | (with_reducible split)

theorem frame_winWrite {l₀ : List Area} {b₀ b : Block} (h₀ : Frame l₀ b₀ b) (v : Word)
    (hl : [.regs, .irq, .dram, .ml, .out] ⊆ l₀ := by first | assumption | exact Area.sub ‹_›) :
    Frame l₀ b₀ (b.winWrite v) := by
  unfold Block.winWrite
  repeat' first
    | (with_reducible assumption)
    | (with_reducible exact Area.sub ‹_›)
    | (with_reducible exact Frame.refl)
    | (with_reducible apply Frame.ite)
    | (with_reducible refine Frame.foldl ?_ (fun _ _ _ => ?_))
    | (with_reducible apply frame_setFld)
    | (with_reducible apply frame_modDram)
    | (with_reducible apply frame_winApply)
    | (fail_if_no_progress extract_lets)
    | intro _
    | (with_reducible split)

theorem frame_fillDone {l₀ : List Area} {b₀ b : Block} (h₀ : Frame l₀ b₀ b) (core : Fin 4)
    (hl : [.regs, .irq, .dram, .ml, .out] ⊆ l₀ := by first | assumption | exact Area.sub ‹_›) :
    Frame l₀ b₀ (b.fillDone core) := by
  unfold Block.fillDone
  repeat' first
    | (with_reducible assumption)
    | (with_reducible exact Area.sub ‹_›)
    | (with_reducible exact Frame.refl)
    | (with_reducible apply Frame.ite)
    | (with_reducible refine Frame.foldl ?_ (fun _ _ _ => ?_))
    | (with_reducible apply frame_fillSector)
    | (with_reducible apply frame_modDram)
    | (with_reducible apply frame_serveLine)
    | (with_reducible apply frame_emit)
    | (with_reducible apply frame_serveDirect)
    | (with_reducible apply frame_opGo)
    | (with_reducible apply frame_winApply)
    | (fail_if_no_progress extract_lets)
    | intro _
    | (with_reducible split)

theorem frame_execMcAccess {l₀ : List Area} {b₀ : Block} {s t : State} {core : Fin 4} {addr : Nat} {len : Nat} {write : Option (List Byte)} {strike : McStrike} (e₀ : execMcAccess core addr len write strike s = .next t)
    (h₀ : Frame l₀ b₀ s.toBlock)
    (hl : [.regs, .irq, .dram, .ml, .out] ⊆ l₀ := by first | assumption | exact Area.sub ‹_›) : Frame l₀ b₀ t.toBlock := by
  unfold execMcAccess at e₀
  refine Frame.upd e₀ h₀ (fun _ _ => ?_)
  repeat' first
    | (with_reducible assumption)
    | (with_reducible exact Area.sub ‹_›)
    | (with_reducible exact Frame.refl)
    | (with_reducible apply Frame.ite)
    | (with_reducible refine Frame.foldl ?_ (fun _ _ _ => ?_))
    | (with_reducible apply frame_mcAccess)
    | (with_reducible apply frame_strike)
    | (fail_if_no_progress extract_lets)
    | intro _
    | (with_reducible split)

theorem frame_execMcFillDone {l₀ : List Area} {b₀ : Block} {s t : State} {core : Fin 4} (e₀ : execMcFillDone core s = .next t)
    (h₀ : Frame l₀ b₀ s.toBlock)
    (hl : [.regs, .irq, .dram, .ml, .out] ⊆ l₀ := by first | assumption | exact Area.sub ‹_›) : Frame l₀ b₀ t.toBlock := by
  unfold execMcFillDone at e₀
  refine Frame.upd e₀ h₀ (fun _ _ => ?_)
  repeat' first
    | (with_reducible assumption)
    | (with_reducible exact Area.sub ‹_›)
    | (with_reducible exact Frame.refl)
    | (with_reducible apply Frame.ite)
    | (with_reducible refine Frame.foldl ?_ (fun _ _ _ => ?_))
    | (with_reducible apply frame_fillDone)
    | (fail_if_no_progress extract_lets)
    | intro _
    | (with_reducible split)

theorem frame_mcOpStart {l₀ : List Area} {b₀ b : Block} (h₀ : Frame l₀ b₀ b) (op : Nat) (addr : Nat) (len : Nat)
    (hl : [.regs, .irq, .dram, .ml, .out] ⊆ l₀ := by first | assumption | exact Area.sub ‹_›) :
    Frame l₀ b₀ (b.mcOpStart op addr len) := by
  unfold Block.mcOpStart
  repeat' first
    | (with_reducible assumption)
    | (with_reducible exact Area.sub ‹_›)
    | (with_reducible exact Frame.refl)
    | (with_reducible apply Frame.ite)
    | (with_reducible refine Frame.foldl ?_ (fun _ _ _ => ?_))
    | (with_reducible apply frame_setFld)
    | (with_reducible apply frame_mcGo)
    | (fail_if_no_progress extract_lets)
    | intro _
    | (with_reducible split)

theorem frame_execInv {l₀ : List Area} {b₀ : Block} {s t : State} {addr : Nat} {len : Nat} (e₀ : execInv addr len s = .next t)
    (h₀ : Frame l₀ b₀ s.toBlock)
    (hl : [.regs, .irq, .dram, .ml, .out] ⊆ l₀ := by first | assumption | exact Area.sub ‹_›) : Frame l₀ b₀ t.toBlock := by
  unfold execInv at e₀
  refine Frame.upd e₀ h₀ (fun _ _ => ?_)
  repeat' first
    | (with_reducible assumption)
    | (with_reducible exact Area.sub ‹_›)
    | (with_reducible exact Frame.refl)
    | (with_reducible apply Frame.ite)
    | (with_reducible refine Frame.foldl ?_ (fun _ _ _ => ?_))
    | (with_reducible apply frame_mcOpStart)
    | (fail_if_no_progress extract_lets)
    | intro _
    | (with_reducible split)

theorem frame_execClean {l₀ : List Area} {b₀ : Block} {s t : State} {addr : Nat} {len : Nat} (e₀ : execClean addr len s = .next t)
    (h₀ : Frame l₀ b₀ s.toBlock)
    (hl : [.regs, .irq, .dram, .ml, .out] ⊆ l₀ := by first | assumption | exact Area.sub ‹_›) : Frame l₀ b₀ t.toBlock := by
  unfold execClean at e₀
  refine Frame.upd e₀ h₀ (fun _ _ => ?_)
  repeat' first
    | (with_reducible assumption)
    | (with_reducible exact Area.sub ‹_›)
    | (with_reducible exact Frame.refl)
    | (with_reducible apply Frame.ite)
    | (with_reducible refine Frame.foldl ?_ (fun _ _ _ => ?_))
    | (with_reducible apply frame_mcOpStart)
    | (fail_if_no_progress extract_lets)
    | intro _
    | (with_reducible split)

theorem frame_execLockfill {l₀ : List Area} {b₀ : Block} {s t : State} {addr : Nat} {len : Nat} (e₀ : execLockfill addr len s = .next t)
    (h₀ : Frame l₀ b₀ s.toBlock)
    (hl : [.regs, .irq, .dram, .ml, .out] ⊆ l₀ := by first | assumption | exact Area.sub ‹_›) : Frame l₀ b₀ t.toBlock := by
  unfold execLockfill at e₀
  refine Frame.upd e₀ h₀ (fun _ _ => ?_)
  repeat' first
    | (with_reducible assumption)
    | (with_reducible exact Area.sub ‹_›)
    | (with_reducible exact Frame.refl)
    | (with_reducible apply Frame.ite)
    | (with_reducible refine Frame.foldl ?_ (fun _ _ _ => ?_))
    | (with_reducible apply frame_mcOpStart)
    | (fail_if_no_progress extract_lets)
    | intro _
    | (with_reducible split)

theorem frame_execInvAll {l₀ : List Area} {b₀ : Block} {s t : State} (e₀ : execInvAll s = .next t)
    (h₀ : Frame l₀ b₀ s.toBlock)
    (hl : [.regs, .irq, .dram, .ml, .out] ⊆ l₀ := by first | assumption | exact Area.sub ‹_›) : Frame l₀ b₀ t.toBlock := by
  unfold execInvAll at e₀
  refine Frame.upd e₀ h₀ (fun _ _ => ?_)
  repeat' first
    | (with_reducible assumption)
    | (with_reducible exact Area.sub ‹_›)
    | (with_reducible exact Frame.refl)
    | (with_reducible apply Frame.ite)
    | (with_reducible refine Frame.foldl ?_ (fun _ _ _ => ?_))
    | (with_reducible apply frame_setFld)
    | (with_reducible apply frame_mcGo)
    | (fail_if_no_progress extract_lets)
    | intro _
    | (with_reducible split)

theorem frame_execCleanAll {l₀ : List Area} {b₀ : Block} {s t : State} (e₀ : execCleanAll s = .next t)
    (h₀ : Frame l₀ b₀ s.toBlock)
    (hl : [.regs, .irq, .dram, .ml, .out] ⊆ l₀ := by first | assumption | exact Area.sub ‹_›) : Frame l₀ b₀ t.toBlock := by
  unfold execCleanAll at e₀
  refine Frame.upd e₀ h₀ (fun _ _ => ?_)
  repeat' first
    | (with_reducible assumption)
    | (with_reducible exact Area.sub ‹_›)
    | (with_reducible exact Frame.refl)
    | (with_reducible apply Frame.ite)
    | (with_reducible refine Frame.foldl ?_ (fun _ _ _ => ?_))
    | (with_reducible apply frame_setFld)
    | (with_reducible apply frame_mcGo)
    | (fail_if_no_progress extract_lets)
    | intro _
    | (with_reducible split)

theorem frame_execMcOpDone {l₀ : List Area} {b₀ : Block} {s t : State} (e₀ : execMcOpDone s = .next t)
    (h₀ : Frame l₀ b₀ s.toBlock)
    (hl : [.regs, .irq, .dram, .ml, .out] ⊆ l₀ := by first | assumption | exact Area.sub ‹_›) : Frame l₀ b₀ t.toBlock := by
  unfold execMcOpDone at e₀
  refine Frame.upd e₀ h₀ (fun _ _ => ?_)
  repeat' first
    | (with_reducible assumption)
    | (with_reducible exact Area.sub ‹_›)
    | (with_reducible exact Frame.refl)
    | (with_reducible apply Frame.ite)
    | (with_reducible refine Frame.foldl ?_ (fun _ _ _ => ?_))
    | (with_reducible apply frame_mcOpDone)
    | (fail_if_no_progress extract_lets)
    | intro _
    | (with_reducible split)

theorem frame_wayRestore {l₀ : List Area} {b₀ b : Block} (h₀ : Frame l₀ b₀ b) (ways : Nat)
    (hl : [.regs] ⊆ l₀ := by first | assumption | exact Area.sub ‹_›) :
    Frame l₀ b₀ (b.wayRestore ways) := by
  unfold Block.wayRestore
  repeat' first
    | (with_reducible assumption)
    | (with_reducible exact Area.sub ‹_›)
    | (with_reducible exact Frame.refl)
    | (with_reducible apply Frame.ite)
    | (with_reducible refine Frame.foldl ?_ (fun _ _ _ => ?_))
    | (with_reducible apply frame_putBit)
    | (with_reducible apply frame_setFld)
    | (with_reducible apply frame_setBit)
    | (fail_if_no_progress extract_lets)
    | intro _
    | (with_reducible split)

theorem frame_execWayRestore {l₀ : List Area} {b₀ : Block} {s t : State} {ways : BitVec 16} (e₀ : execWayRestore ways s = .next t)
    (h₀ : Frame l₀ b₀ s.toBlock)
    (hl : [.regs] ⊆ l₀ := by first | assumption | exact Area.sub ‹_›) : Frame l₀ b₀ t.toBlock := by
  unfold execWayRestore at e₀
  refine Frame.upd e₀ h₀ (fun _ _ => ?_)
  repeat' first
    | (with_reducible assumption)
    | (with_reducible exact Area.sub ‹_›)
    | (with_reducible exact Frame.refl)
    | (with_reducible apply Frame.ite)
    | (with_reducible refine Frame.foldl ?_ (fun _ _ _ => ?_))
    | (with_reducible apply frame_wayRestore)
    | (fail_if_no_progress extract_lets)
    | intro _
    | (with_reducible split)

theorem frame_execMcWinWrite {l₀ : List Area} {b₀ : Block} {s t : State} {v : Word} (e₀ : execMcWinWrite v s = .next t)
    (h₀ : Frame l₀ b₀ s.toBlock)
    (hl : [.regs, .irq, .dram, .ml, .out] ⊆ l₀ := by first | assumption | exact Area.sub ‹_›) : Frame l₀ b₀ t.toBlock := by
  unfold execMcWinWrite at e₀
  refine Frame.upd e₀ h₀ (fun _ _ => ?_)
  repeat' first
    | (with_reducible assumption)
    | (with_reducible exact Area.sub ‹_›)
    | (with_reducible exact Frame.refl)
    | (with_reducible apply Frame.ite)
    | (with_reducible refine Frame.foldl ?_ (fun _ _ _ => ?_))
    | (with_reducible apply frame_winWrite)
    | (fail_if_no_progress extract_lets)
    | intro _
    | (with_reducible split)

theorem frame_execVictimWriteback {l₀ : List Area} {b₀ : Block} {s t : State} (e₀ : execVictimWriteback s = .next t)
    (h₀ : Frame l₀ b₀ s.toBlock)
    (hl : [.dram] ⊆ l₀ := by first | assumption | exact Area.sub ‹_›) : Frame l₀ b₀ t.toBlock := by
  unfold execVictimWriteback at e₀
  refine Frame.upd e₀ h₀ (fun _ _ => ?_)
  repeat' first
    | (with_reducible assumption)
    | (with_reducible exact Area.sub ‹_›)
    | (with_reducible exact Frame.refl)
    | (with_reducible apply Frame.ite)
    | (with_reducible refine Frame.foldl ?_ (fun _ _ _ => ?_))
    | (with_reducible apply frame_victimBack)
    | (fail_if_no_progress extract_lets)
    | intro _
    | (with_reducible split)

/-! ### Machine/Sluice.lean -/

theorem frame_ueResult {l₀ : List Area} {b₀ b : Block} (h₀ : Frame l₀ b₀ b) (req : Requester) (addr : Nat) (tag : Option Nat)
    (hl : [.regs, .irq, .hq, .ml, .out] ⊆ l₀ := by first | assumption | exact Area.sub ‹_›) :
    Frame l₀ b₀ (b.ueResult req addr tag) := by
  unfold Block.ueResult
  repeat' first
    | (with_reducible assumption)
    | (with_reducible exact Area.sub ‹_›)
    | (with_reducible exact Frame.refl)
    | (with_reducible apply Frame.ite)
    | (with_reducible refine Frame.foldl ?_ (fun _ _ _ => ?_))
    | (with_reducible apply frame_elogNoCmd)
    | (with_reducible apply frame_finish)
    | (fail_if_no_progress extract_lets)
    | intro _
    | (with_reducible split)

theorem frame_execDramAccess {l₀ : List Area} {b₀ : Block} {s t : State} {req : Requester} {addr len : Nat}
    {data : Option (List Byte)} {strike : Option (Fin 65)} {tag : Option Nat}
    (e₀ : execDramAccess req addr len data strike tag s = .next t) (h₀ : Frame l₀ b₀ s.toBlock)
    (hl : [.regs, .irq, .dram, .hq, .ml, .out] ⊆ l₀ := by first | assumption | exact Area.sub ‹_›) :
    Frame l₀ b₀ t.toBlock := by
  unfold execDramAccess at e₀
  generalize dramSize = z at e₀
  split at e₀
  · cases e₀
  · refine Frame.upd e₀ h₀ (fun c h => ?_)
    extract_lets b1
    have h1 : Frame l₀ b₀ b1 := by
      unfold b1
      split
      · exact frame_strike h _ _
      · exact h
    clear_value b1
    split
    · exact frame_dramWrite h1 _ _
    · have h2 := frame_dramRead h1 req addr len
      dsimp only
      split
      · exact frame_ueResult (frame_emit h2 _) _ _ _
      · exact frame_emit h2 _

theorem frame_execMergeFlush {l₀ : List Area} {b₀ : Block} {s t : State} {word : Nat} (e₀ : execMergeFlush word s = .next t)
    (h₀ : Frame l₀ b₀ s.toBlock)
    (hl : [.regs, .irq, .dram, .ml, .out] ⊆ l₀ := by first | assumption | exact Area.sub ‹_›) : Frame l₀ b₀ t.toBlock := by
  unfold execMergeFlush at e₀
  refine Frame.upd e₀ h₀ (fun _ _ => ?_)
  repeat' first
    | (with_reducible assumption)
    | (with_reducible exact Area.sub ‹_›)
    | (with_reducible exact Frame.refl)
    | (with_reducible apply Frame.ite)
    | (with_reducible refine Frame.foldl ?_ (fun _ _ _ => ?_))
    | (with_reducible apply frame_flushEntry)
    | (fail_if_no_progress extract_lets)
    | intro _
    | (with_reducible split)

theorem frame_execCeLeak {l₀ : List Area} {b₀ : Block} {s t : State} (e₀ : execCeLeak s = .next t)
    (h₀ : Frame l₀ b₀ s.toBlock)
    (hl : [.regs, .dram] ⊆ l₀ := by first | assumption | exact Area.sub ‹_›) : Frame l₀ b₀ t.toBlock := by
  unfold execCeLeak at e₀
  refine Frame.upd e₀ h₀ (fun _ _ => ?_)
  repeat' first
    | (with_reducible assumption)
    | (with_reducible exact Area.sub ‹_›)
    | (with_reducible exact Frame.refl)
    | (with_reducible apply Frame.ite)
    | (with_reducible refine Frame.foldl ?_ (fun _ _ _ => ?_))
    | (with_reducible apply frame_setFld)
    | (with_reducible apply frame_modDram)
    | (fail_if_no_progress extract_lets)
    | intro _
    | (with_reducible split)

theorem frame_aperAccess {l₀ : List Area} {b₀ b : Block} (h₀ : Frame l₀ b₀ b) (m : Master) (a : Nat)
    (data : Option Word)
    (hl : [.regs, .rdata, .irq, .dram, .ml, .out] ⊆ l₀ := by first | assumption | exact Area.sub ‹_›) : Frame l₀ b₀ (b.aperAccess m a data) := by
  unfold Block.aperAccess
  generalize dramSize = z
  extract_lets b1 r
  have h1 : Frame l₀ b₀ b1 := frame_raise h₀ _
  have h2 : Frame l₀ b₀ r.2.2 := frame_dramRead h₀ _ _ _
  clear_value b1 r
  split
  · split
    · exact h1
    · exact frame_answer h1 _ _
  · split
    · exact frame_dramWrite h₀ _ _
    · exact frame_answer h2 _ _

theorem frame_execApertureAccess {l₀ : List Area} {b₀ : Block} {s t : State} {m : Master} {off : BitVec 20} {data : Option Word} (e₀ : execApertureAccess m off data s = .next t)
    (h₀ : Frame l₀ b₀ s.toBlock)
    (hl : [.regs, .rdata, .irq, .dram, .ml, .out] ⊆ l₀ := by first | assumption | exact Area.sub ‹_›) : Frame l₀ b₀ t.toBlock := by
  unfold execApertureAccess at e₀
  refine Frame.upd e₀ h₀ (fun _ _ => ?_)
  repeat' first
    | (with_reducible assumption)
    | (with_reducible exact Area.sub ‹_›)
    | (with_reducible exact Frame.refl)
    | (with_reducible apply Frame.ite)
    | (with_reducible refine Frame.foldl ?_ (fun _ _ _ => ?_))
    | (with_reducible apply frame_aperAccess)
    | (fail_if_no_progress extract_lets)
    | intro _
    | (with_reducible split)

theorem frame_modChan {l₀ : List Area} {b₀ b : Block} (h₀ : Frame l₀ b₀ b) (c : Fin 32) (f : SlChan → SlChan)
    (hl : [.dram] ⊆ l₀ := by first | assumption | exact Area.sub ‹_›) :
    Frame l₀ b₀ (b.modChan c f) := by
  unfold Block.modChan
  repeat' first
    | (with_reducible assumption)
    | (with_reducible exact Area.sub ‹_›)
    | (with_reducible exact Frame.refl)
    | (with_reducible apply Frame.ite)
    | (with_reducible refine Frame.foldl ?_ (fun _ _ _ => ?_))
    | (with_reducible apply frame_modDram)
    | (fail_if_no_progress extract_lets)
    | intro _
    | (with_reducible split)

theorem frame_slGrant {l₀ : List Area} {b₀ b : Block} (h₀ : Frame l₀ b₀ b)
    (hl : [.regs, .dram] ⊆ l₀ := by first | assumption | exact Area.sub ‹_›) :
    Frame l₀ b₀ (b.slGrant) := by
  unfold Block.slGrant
  repeat' first
    | (with_reducible assumption)
    | (with_reducible exact Area.sub ‹_›)
    | (with_reducible exact Frame.refl)
    | (with_reducible apply Frame.ite)
    | (with_reducible refine Frame.foldl ?_ (fun _ _ _ => ?_))
    | (with_reducible apply frame_modDram)
    | (with_reducible apply frame_setFld)
    | (with_reducible apply frame_modChan)
    | (fail_if_no_progress extract_lets)
    | intro _
    | (with_reducible split)

theorem frame_slRelease {l₀ : List Area} {b₀ b : Block} (h₀ : Frame l₀ b₀ b) (c : Fin 32)
    (hl : [.regs, .dram] ⊆ l₀ := by first | assumption | exact Area.sub ‹_›) :
    Frame l₀ b₀ (b.slRelease c) := by
  unfold Block.slRelease
  repeat' first
    | (with_reducible assumption)
    | (with_reducible exact Area.sub ‹_›)
    | (with_reducible exact Frame.refl)
    | (with_reducible apply Frame.ite)
    | (with_reducible refine Frame.foldl ?_ (fun _ _ _ => ?_))
    | (with_reducible apply frame_setFld)
    | (with_reducible apply frame_modDram)
    | (with_reducible apply frame_slGrant)
    | (fail_if_no_progress extract_lets)
    | intro _
    | (with_reducible split)

theorem frame_slFinish {l₀ : List Area} {b₀ b : Block} (h₀ : Frame l₀ b₀ b) (c : Fin 32)
    (hl : [.regs, .irq, .dram, .ml, .out] ⊆ l₀ := by first | assumption | exact Area.sub ‹_›) :
    Frame l₀ b₀ (b.slFinish c) := by
  unfold Block.slFinish
  repeat' first
    | (with_reducible assumption)
    | (with_reducible exact Area.sub ‹_›)
    | (with_reducible exact Frame.refl)
    | (with_reducible apply Frame.ite)
    | (with_reducible refine Frame.foldl ?_ (fun _ _ _ => ?_))
    | (with_reducible apply frame_putBit)
    | (with_reducible apply frame_slRelease)
    | (with_reducible apply frame_raise)
    | (fail_if_no_progress extract_lets)
    | intro _
    | (with_reducible split)

theorem frame_slHalt {l₀ : List Area} {b₀ b : Block} (h₀ : Frame l₀ b₀ b) (c : Fin 32) (write : Bool) (off : Nat)
    (hl : [.regs, .irq, .dram, .ml, .out] ⊆ l₀ := by first | assumption | exact Area.sub ‹_›) :
    Frame l₀ b₀ (b.slHalt c write off) := by
  unfold Block.slHalt
  repeat' first
    | (with_reducible assumption)
    | (with_reducible exact Area.sub ‹_›)
    | (with_reducible exact Frame.refl)
    | (with_reducible apply Frame.ite)
    | (with_reducible refine Frame.foldl ?_ (fun _ _ _ => ?_))
    | (with_reducible apply frame_modChan)
    | (with_reducible apply frame_setBit)
    | (with_reducible apply frame_setFld)
    | (with_reducible apply frame_putBit)
    | (with_reducible apply frame_slRelease)
    | (with_reducible apply frame_raise)
    | (fail_if_no_progress extract_lets)
    | intro _
    | (with_reducible split)

theorem frame_slReadFail {l₀ : List Area} {b₀ b : Block} (h₀ : Frame l₀ b₀ b) (c : Fin 32)
    (hl : [.regs, .irq, .dram, .ml, .out] ⊆ l₀ := by first | assumption | exact Area.sub ‹_›) :
    Frame l₀ b₀ (b.slReadFail c) := by
  unfold Block.slReadFail
  repeat' first
    | (with_reducible assumption)
    | (with_reducible exact Area.sub ‹_›)
    | (with_reducible exact Frame.refl)
    | (with_reducible apply Frame.ite)
    | (with_reducible refine Frame.foldl ?_ (fun _ _ _ => ?_))
    | (with_reducible apply frame_slHalt)
    | (with_reducible apply frame_modChan)
    | (fail_if_no_progress extract_lets)
    | intro _
    | (with_reducible split)

theorem frame_slWrite {l₀ : List Area} {b₀ b : Block} (h₀ : Frame l₀ b₀ b) (c : Fin 32)
    (hl : [.regs, .irq, .dram, .ml, .out] ⊆ l₀ := by first | assumption | exact Area.sub ‹_›) :
    Frame l₀ b₀ (b.slWrite c) := by
  unfold Block.slWrite
  repeat' first
    | (with_reducible assumption)
    | (with_reducible exact Area.sub ‹_›)
    | (with_reducible exact Frame.refl)
    | (with_reducible apply Frame.ite)
    | (with_reducible refine Frame.foldl ?_ (fun _ _ _ => ?_))
    | (with_reducible apply frame_slHalt)
    | (with_reducible apply frame_wr)
    | (with_reducible apply frame_emit)
    | (with_reducible apply frame_dramWrite)
    | (with_reducible apply frame_modChan)
    | (with_reducible apply frame_setFld)
    | (fail_if_no_progress extract_lets)
    | intro _
    | (with_reducible split)

theorem frame_slRead {l₀ : List Area} {b₀ b : Block} (h₀ : Frame l₀ b₀ b) (c : Fin 32) (data : List Byte)
    (hl : [.regs, .irq, .dram, .ml, .out] ⊆ l₀ := by first | assumption | exact Area.sub ‹_›) :
    Frame l₀ b₀ (b.slRead c data) := by
  unfold Block.slRead
  repeat' first
    | (with_reducible assumption)
    | (with_reducible exact Area.sub ‹_›)
    | (with_reducible exact Frame.refl)
    | (with_reducible apply Frame.ite)
    | (with_reducible refine Frame.foldl ?_ (fun _ _ _ => ?_))
    | (with_reducible apply Frame.ite2)
    | (with_reducible refine Frame.snd (by with_reducible assumption) ?_)
    | (with_reducible refine Frame.thd (by with_reducible assumption) ?_)
    | (with_reducible apply frame_slReadFail)
    | (with_reducible apply frame_modChan)
    | (with_reducible apply frame_dramRead)
    | (fail_if_no_progress extract_lets)
    | intro _
    | (with_reducible split)

theorem frame_slPreempt {l₀ : List Area} {b₀ b : Block} (h₀ : Frame l₀ b₀ b) (c : Fin 32)
    (hl : [.regs, .irq, .dram, .ml, .out] ⊆ l₀ := by first | assumption | exact Area.sub ‹_›) :
    Frame l₀ b₀ (b.slPreempt c) := by
  unfold Block.slPreempt
  repeat' first
    | (with_reducible assumption)
    | (with_reducible exact Area.sub ‹_›)
    | (with_reducible exact Frame.refl)
    | (with_reducible apply Frame.ite)
    | (with_reducible refine Frame.foldl ?_ (fun _ _ _ => ?_))
    | (with_reducible apply frame_setFld)
    | (with_reducible apply frame_bump)
    | (with_reducible apply frame_modDram)
    | (with_reducible apply frame_raise)
    | (with_reducible apply frame_slGrant)
    | (fail_if_no_progress extract_lets)
    | intro _
    | (with_reducible split)

theorem frame_slStop {l₀ : List Area} {b₀ b : Block} (h₀ : Frame l₀ b₀ b) (c : Fin 32)
    (hl : [.regs, .irq, .dram, .ml, .out] ⊆ l₀ := by first | assumption | exact Area.sub ‹_›) :
    Frame l₀ b₀ (b.slStop c) := by
  unfold Block.slStop
  repeat' first
    | (with_reducible assumption)
    | (with_reducible exact Area.sub ‹_›)
    | (with_reducible exact Frame.refl)
    | (with_reducible apply Frame.ite)
    | (with_reducible refine Frame.foldl ?_ (fun _ _ _ => ?_))
    | (with_reducible apply frame_slWrite)
    | (with_reducible apply frame_setFld)
    | (with_reducible apply frame_slFinish)
    | (with_reducible apply frame_slRelease)
    | (fail_if_no_progress extract_lets)
    | intro _
    | (with_reducible split)

theorem frame_slStart {l₀ : List Area} {b₀ b : Block} (h₀ : Frame l₀ b₀ b) (c : Fin 32)
    (hl : [.regs, .irq, .dram, .ml, .out] ⊆ l₀ := by first | assumption | exact Area.sub ‹_›) :
    Frame l₀ b₀ (b.slStart c) := by
  unfold Block.slStart
  repeat' first
    | (with_reducible assumption)
    | (with_reducible exact Area.sub ‹_›)
    | (with_reducible exact Frame.refl)
    | (with_reducible apply Frame.ite)
    | (with_reducible refine Frame.foldl ?_ (fun _ _ _ => ?_))
    | (with_reducible apply frame_raise)
    | (with_reducible apply frame_setFld)
    | (with_reducible apply frame_modChan)
    | (with_reducible apply frame_slGrant)
    | (fail_if_no_progress extract_lets)
    | intro _
    | (with_reducible split)

theorem frame_slCtl {l₀ : List Area} {b₀ b : Block} (h₀ : Frame l₀ b₀ b) (c : Fin 32) (v : Word)
    (hl : [.regs, .irq, .dram, .ml, .out] ⊆ l₀ := by first | assumption | exact Area.sub ‹_›) :
    Frame l₀ b₀ (b.slCtl c v) := by
  unfold Block.slCtl
  repeat' first
    | (with_reducible assumption)
    | (with_reducible exact Area.sub ‹_›)
    | (with_reducible exact Frame.refl)
    | (with_reducible apply Frame.ite)
    | (with_reducible refine Frame.foldl ?_ (fun _ _ _ => ?_))
    | (with_reducible apply frame_setFld)
    | (with_reducible apply frame_putBit)
    | (with_reducible apply frame_slStop)
    | (with_reducible apply frame_slStart)
    | (fail_if_no_progress extract_lets)
    | intro _
    | (with_reducible split)

theorem frame_execSlStart {l₀ : List Area} {b₀ : Block} {s t : State} {c : Fin 32} {ssp : Bool} {dsp : Bool} {pri : Bool} {irq : Bool} (e₀ : execSlStart c ssp dsp pri irq s = .next t)
    (h₀ : Frame l₀ b₀ s.toBlock)
    (hl : [.regs, .irq, .dram, .ml, .out] ⊆ l₀ := by first | assumption | exact Area.sub ‹_›) : Frame l₀ b₀ t.toBlock := by
  unfold execSlStart at e₀
  refine Frame.upd e₀ h₀ (fun _ _ => ?_)
  repeat' first
    | (with_reducible assumption)
    | (with_reducible exact Area.sub ‹_›)
    | (with_reducible exact Frame.refl)
    | (with_reducible apply Frame.ite)
    | (with_reducible refine Frame.foldl ?_ (fun _ _ _ => ?_))
    | (with_reducible apply frame_slCtl)
    | (fail_if_no_progress extract_lets)
    | intro _
    | (with_reducible split)

theorem frame_execSlStop {l₀ : List Area} {b₀ : Block} {s t : State} {c : Fin 32} (e₀ : execSlStop c s = .next t)
    (h₀ : Frame l₀ b₀ s.toBlock)
    (hl : [.regs, .irq, .dram, .ml, .out] ⊆ l₀ := by first | assumption | exact Area.sub ‹_›) : Frame l₀ b₀ t.toBlock := by
  unfold execSlStop at e₀
  refine Frame.upd e₀ h₀ (fun _ _ => ?_)
  repeat' first
    | (with_reducible assumption)
    | (with_reducible exact Area.sub ‹_›)
    | (with_reducible exact Frame.refl)
    | (with_reducible apply Frame.ite)
    | (with_reducible refine Frame.foldl ?_ (fun _ _ _ => ?_))
    | (with_reducible apply frame_slStop)
    | (fail_if_no_progress extract_lets)
    | intro _
    | (with_reducible split)

theorem frame_execSlBeat {l₀ : List Area} {b₀ : Block} {s t : State} {c : Fin 32} {write : Bool} {data : List Byte} (e₀ : execSlBeat c write data s = .next t)
    (h₀ : Frame l₀ b₀ s.toBlock)
    (hl : [.regs, .irq, .dram, .ml, .out] ⊆ l₀ := by first | assumption | exact Area.sub ‹_›) : Frame l₀ b₀ t.toBlock := by
  unfold execSlBeat at e₀
  refine Frame.upd e₀ h₀ (fun _ _ => ?_)
  repeat' first
    | (with_reducible assumption)
    | (with_reducible exact Area.sub ‹_›)
    | (with_reducible exact Frame.refl)
    | (with_reducible apply Frame.ite)
    | (with_reducible refine Frame.foldl ?_ (fun _ _ _ => ?_))
    | (with_reducible apply frame_slWrite)
    | (with_reducible apply frame_slRead)
    | (with_reducible apply frame_slPreempt)
    | (fail_if_no_progress extract_lets)
    | intro _
    | (with_reducible split)

theorem frame_execSlDone {l₀ : List Area} {b₀ : Block} {s t : State} {c : Fin 32} (e₀ : execSlDone c s = .next t)
    (h₀ : Frame l₀ b₀ s.toBlock)
    (hl : [.regs, .irq, .dram, .ml, .out] ⊆ l₀ := by first | assumption | exact Area.sub ‹_›) : Frame l₀ b₀ t.toBlock := by
  unfold execSlDone at e₀
  refine Frame.upd e₀ h₀ (fun _ _ => ?_)
  repeat' first
    | (with_reducible assumption)
    | (with_reducible exact Area.sub ‹_›)
    | (with_reducible exact Frame.refl)
    | (with_reducible apply Frame.ite)
    | (with_reducible refine Frame.foldl ?_ (fun _ _ _ => ?_))
    | (with_reducible apply frame_slFinish)
    | (fail_if_no_progress extract_lets)
    | intro _
    | (with_reducible split)

theorem frame_execSlBusError {l₀ : List Area} {b₀ : Block} {s t : State} {c : Fin 32} {write : Bool} (e₀ : execSlBusError c write s = .next t)
    (h₀ : Frame l₀ b₀ s.toBlock)
    (hl : [.regs, .irq, .dram, .ml, .out] ⊆ l₀ := by first | assumption | exact Area.sub ‹_›) : Frame l₀ b₀ t.toBlock := by
  unfold execSlBusError at e₀
  refine Frame.upd e₀ h₀ (fun _ _ => ?_)
  repeat' first
    | (with_reducible assumption)
    | (with_reducible exact Area.sub ‹_›)
    | (with_reducible exact Frame.refl)
    | (with_reducible apply Frame.ite)
    | (with_reducible refine Frame.foldl ?_ (fun _ _ _ => ?_))
    | (with_reducible apply frame_slHalt)
    | (with_reducible apply frame_wr)
    | (with_reducible apply frame_slReadFail)
    | (fail_if_no_progress extract_lets)
    | intro _
    | (with_reducible split)

end Sys2Proof.Machine
end

