-- ==== Sys2Proof/Laws/FrameCmds.lean ====
section
/-!
SUPPORT. What the tick, loop instructions, links and registers leave unchanged, one lemma for each operation and each command.
-/

set_option Elab.async false
set_option linter.unreachableTactic false
set_option linter.unusedTactic false

namespace Sys2Proof.Machine

/-! ### Machine/Tick.lean -/

theorem frame_swapExchange {l₀ : List Area} {b₀ b : Block} (h₀ : Frame l₀ b₀ b)
    (hl : [.regs, .le] ⊆ l₀ := by first | assumption | exact Area.sub ‹_›) :
    Frame l₀ b₀ (b.swapExchange) := by
  unfold Block.swapExchange
  repeat' first
    | (with_reducible assumption)
    | (with_reducible exact Area.sub ‹_›)
    | (with_reducible exact Frame.refl)
    | (with_reducible apply Frame.ite)
    | (with_reducible refine Frame.foldl ?_ (fun _ _ _ => ?_))
    | (with_reducible apply frame_wr)
    | (with_reducible apply frame_modLe)
    | (fail_if_no_progress extract_lets)
    | intro _
    | (with_reducible split)

theorem frame_advanceTick {b₀ b : Block} (h₀ : Frame l₀ b₀ b)
    (hl : [.tick, .cyc, .le] ⊆ l₀ := by first | assumption | exact Area.sub ‹_›) :
    Frame l₀ b₀ (b.advanceTick) := by
  unfold Block.advanceTick
  repeat' first
    | (with_reducible assumption)
    | (with_reducible exact Area.sub ‹_›)
    | (with_reducible exact Frame.refl)
    | (with_reducible apply Frame.ite)
    | (with_reducible refine Frame.foldl ?_ (fun _ _ _ => ?_))
    | (with_reducible apply frame_setTick)
    | (with_reducible apply frame_setCyc)
    | (with_reducible apply frame_modLe)
    | (with_reducible apply frame_run)
    | (fail_if_no_progress extract_lets)
    | intro _
    | (with_reducible split)

theorem frame_swapCoefs {l₀ : List Area} {b₀ b : Block} (h₀ : Frame l₀ b₀ b)
    (hl : [.regs, .le] ⊆ l₀ := by first | assumption | exact Area.sub ‹_›) :
    Frame l₀ b₀ (b.swapCoefs) := by
  unfold Block.swapCoefs
  repeat' first
    | (with_reducible assumption)
    | (with_reducible exact Area.sub ‹_›)
    | (with_reducible exact Frame.refl)
    | (with_reducible apply Frame.ite)
    | (with_reducible refine Frame.foldl ?_ (fun _ _ _ => ?_))
    | (with_reducible apply frame_setFld)
    | (with_reducible apply frame_modLe)
    | (fail_if_no_progress extract_lets)
    | intro _
    | (with_reducible split)

theorem frame_swapTables {l₀ : List Area} {b₀ b : Block} (h₀ : Frame l₀ b₀ b)
    (hl : [.regs, .irq, .le, .ml, .out] ⊆ l₀ := by first | assumption | exact Area.sub ‹_›) :
    Frame l₀ b₀ (b.swapTables) := by
  unfold Block.swapTables
  repeat' first
    | (with_reducible assumption)
    | (with_reducible exact Area.sub ‹_›)
    | (with_reducible exact Frame.refl)
    | (with_reducible apply Frame.ite)
    | (with_reducible refine Frame.foldl ?_ (fun _ _ _ => ?_))
    | (with_reducible apply frame_applyLive)
    | (with_reducible apply frame_modLe)
    | (with_reducible apply frame_putTable)
    | (fail_if_no_progress extract_lets)
    | intro _
    | (with_reducible split)

theorem frame_patchActive {l₀ : List Area} {b₀ b : Block} (h₀ : Frame l₀ b₀ b)
    (hl : [.regs, .irq, .le, .ml, .out] ⊆ l₀ := by first | assumption | exact Area.sub ‹_›) :
    Frame l₀ b₀ (b.patchActive) := by
  unfold Block.patchActive
  repeat' first
    | (with_reducible assumption)
    | (with_reducible exact Area.sub ‹_›)
    | (with_reducible exact Frame.refl)
    | (with_reducible apply Frame.ite)
    | (with_reducible refine Frame.foldl ?_ (fun _ _ _ => ?_))
    | (with_reducible apply frame_wr)
    | (with_reducible apply frame_setFld)
    | (with_reducible apply frame_modLe)
    | (with_reducible apply frame_raise)
    | (fail_if_no_progress extract_lets)
    | intro _
    | (with_reducible split)

theorem frame_runSlots {l₀ : List Area} {b₀ b : Block} (h₀ : Frame l₀ b₀ b)
    (hl : [.regs, .irq, .le, .servo, .wp, .se, .cal, .hq, .store, .ml, .out] ⊆ l₀ := by first | assumption | exact Area.sub ‹_›) :
    Frame l₀ b₀ (b.runSlots) := by
  unfold Block.runSlots
  repeat' first
    | (with_reducible assumption)
    | (with_reducible exact Area.sub ‹_›)
    | (with_reducible exact Frame.refl)
    | (with_reducible apply Frame.ite)
    | (with_reducible refine Frame.foldl ?_ (fun _ _ _ => ?_))
    | (with_reducible apply frame_scan)
    | (with_reducible apply frame_modLe)
    | (with_reducible apply frame_patchActive)
    | (with_reducible apply frame_miss)
    | (fail_if_no_progress extract_lets)
    | intro _
    | (with_reducible split)

theorem frame_takeSample {l₀ : List Area} {b₀ b : Block} (h₀ : Frame l₀ b₀ b) (x : Sample)
    (hl : [.regs] ⊆ l₀ := by first | assumption | exact Area.sub ‹_›) :
    Frame l₀ b₀ (b.takeSample x) := by
  unfold Block.takeSample
  repeat' first
    | (with_reducible assumption)
    | (with_reducible exact Area.sub ‹_›)
    | (with_reducible exact Frame.refl)
    | (with_reducible apply Frame.ite)
    | (with_reducible refine Frame.foldl ?_ (fun _ _ _ => ?_))
    | (with_reducible apply frame_onSurf)
    | (with_reducible apply frame_setFld)
    | (fail_if_no_progress extract_lets)
    | intro _
    | (with_reducible split)

theorem frame_takeSamples {l₀ : List Area} {b₀ b : Block} (h₀ : Frame l₀ b₀ b) (xs : List Sample)
    (hl : [.regs] ⊆ l₀ := by first | assumption | exact Area.sub ‹_›) :
    Frame l₀ b₀ (b.takeSamples xs) := by
  unfold Block.takeSamples
  repeat' first
    | (with_reducible assumption)
    | (with_reducible exact Area.sub ‹_›)
    | (with_reducible exact Frame.refl)
    | (with_reducible apply Frame.ite)
    | (with_reducible refine Frame.foldl ?_ (fun _ _ _ => ?_))
    | (with_reducible apply frame_setFld)
    | (with_reducible apply frame_takeSample)
    | (fail_if_no_progress extract_lets)
    | intro _
    | (with_reducible split)

theorem frame_takePort {l₀ : List Area} {b₀ b : Block} (h₀ : Frame l₀ b₀ b) (e : Nat × Word)
    (hl : [.regs, .le] ⊆ l₀ := by first | assumption | exact Area.sub ‹_›) :
    Frame l₀ b₀ (b.takePort e) := by
  unfold Block.takePort
  repeat' first
    | (with_reducible assumption)
    | (with_reducible exact Area.sub ‹_›)
    | (with_reducible exact Frame.refl)
    | (with_reducible apply Frame.ite)
    | (with_reducible refine Frame.foldl ?_ (fun _ _ _ => ?_))
    | (with_reducible apply frame_modLe)
    | (with_reducible apply frame_onAxis)
    | (with_reducible apply frame_wr)
    | (with_reducible apply frame_setFld)
    | (fail_if_no_progress extract_lets)
    | intro _
    | (with_reducible split)

theorem frame_takeHome {l₀ : List Area} {b₀ b : Block} (h₀ : Frame l₀ b₀ b) (e : Fin 4 × Bool)
    (hl : [.regs, .axis] ⊆ l₀ := by first | assumption | exact Area.sub ‹_›) :
    Frame l₀ b₀ (b.takeHome e) := by
  unfold Block.takeHome
  repeat' first
    | (with_reducible assumption)
    | (with_reducible exact Area.sub ‹_›)
    | (with_reducible exact Frame.refl)
    | (with_reducible apply Frame.ite)
    | (with_reducible refine Frame.foldl ?_ (fun _ _ _ => ?_))
    | (with_reducible apply frame_onAxis)
    | (with_reducible apply frame_run)
    | (with_reducible apply frame_modAxis)
    | (with_reducible apply frame_setFld)
    | (fail_if_no_progress extract_lets)
    | intro _
    | (with_reducible split)

theorem frame_takeSupplies {l₀ : List Area} {b₀ b : Block} (h₀ : Frame l₀ b₀ b) (vin : BitVec 16) (vhold : BitVec 16)
    (hl : [.regs] ⊆ l₀ := by first | assumption | exact Area.sub ‹_›) :
    Frame l₀ b₀ (b.takeSupplies vin vhold) := by
  unfold Block.takeSupplies
  repeat' first
    | (with_reducible assumption)
    | (with_reducible exact Area.sub ‹_›)
    | (with_reducible exact Frame.refl)
    | (with_reducible apply Frame.ite)
    | (with_reducible refine Frame.foldl ?_ (fun _ _ _ => ?_))
    | (with_reducible apply frame_setFld)
    | (with_reducible apply frame_setBit)
    | (fail_if_no_progress extract_lets)
    | intro _
    | (with_reducible split)

theorem frame_pullIn {l₀ : List Area} {b₀ b : Block} (h₀ : Frame l₀ b₀ b) (s : Fin 4)
    (hl : [.regs, .irq, .le, .servo, .wp, .se, .cal, .hq, .store, .ml, .out] ⊆ l₀ := by first | assumption | exact Area.sub ‹_›) :
    Frame l₀ b₀ (b.pullIn s) := by
  unfold Block.pullIn
  repeat' first
    | (with_reducible assumption)
    | (with_reducible exact Area.sub ‹_›)
    | (with_reducible exact Frame.refl)
    | (with_reducible apply Frame.ite)
    | (with_reducible refine Frame.foldl ?_ (fun _ _ _ => ?_))
    | (with_reducible apply frame_modServo)
    | (with_reducible apply frame_publish)
    | (with_reducible apply frame_setPsw)
    | (with_reducible apply frame_trackCommit)
    | (fail_if_no_progress extract_lets)
    | intro _
    | (with_reducible split)

theorem frame_goodWord {l₀ : List Area} {b₀ b : Block} (h₀ : Frame l₀ b₀ b) (s : Fin 4) (w : BitVec 28)
    (hl : [.regs, .irq, .le, .servo, .ml, .out] ⊆ l₀ := by first | assumption | exact Area.sub ‹_›) :
    Frame l₀ b₀ (b.goodWord s w) := by
  unfold Block.goodWord
  repeat' first
    | (with_reducible assumption)
    | (with_reducible exact Area.sub ‹_›)
    | (with_reducible exact Frame.refl)
    | (with_reducible apply Frame.ite)
    | (with_reducible refine Frame.foldl ?_ (fun _ _ _ => ?_))
    | (with_reducible apply frame_modServo)
    | (with_reducible apply frame_setPsw)
    | (with_reducible apply frame_cmdDone)
    | (fail_if_no_progress extract_lets)
    | intro _
    | (with_reducible split)

theorem frame_addressLock {l₀ : List Area} {b₀ b : Block} (h₀ : Frame l₀ b₀ b) (s : Fin 4) (w : Option (BitVec 28))
    (hl : [.regs, .irq, .le, .servo, .wp, .se, .cal, .hq, .store, .ml, .out] ⊆ l₀ := by first | assumption | exact Area.sub ‹_›) :
    Frame l₀ b₀ (b.addressLock s w) := by
  unfold Block.addressLock
  repeat' first
    | (with_reducible assumption)
    | (with_reducible exact Area.sub ‹_›)
    | (with_reducible exact Frame.refl)
    | (with_reducible apply Frame.ite)
    | (with_reducible refine Frame.foldl ?_ (fun _ _ _ => ?_))
    | (with_reducible apply frame_modServo)
    | (with_reducible apply frame_goodWord)
    | (with_reducible apply frame_setPsw)
    | (with_reducible apply frame_trackCommit)
    | (fail_if_no_progress extract_lets)
    | intro _
    | (with_reducible split)

theorem frame_wobbleUnit {l₀ : List Area} {b₀ b : Block} (h₀ : Frame l₀ b₀ b) (u : AddrUnit)
    (hl : [.regs, .irq, .le, .servo, .wp, .se, .cal, .hq, .store, .ml, .out] ⊆ l₀ := by first | assumption | exact Area.sub ‹_›) :
    Frame l₀ b₀ (b.wobbleUnit u) := by
  unfold Block.wobbleUnit
  repeat' first
    | (with_reducible assumption)
    | (with_reducible exact Area.sub ‹_›)
    | (with_reducible exact Frame.refl)
    | (with_reducible apply Frame.ite)
    | (with_reducible refine Frame.foldl ?_ (fun _ _ _ => ?_))
    | (with_reducible apply frame_onSurf)
    | (with_reducible apply frame_wr)
    | (with_reducible apply frame_bump)
    | (with_reducible apply frame_addressLock)
    | (fail_if_no_progress extract_lets)
    | intro _
    | (with_reducible split)

theorem frame_sledStep {l₀ : List Area} {b₀ b : Block} (h₀ : Frame l₀ b₀ b) (s : Fin 4)
    (hl : [.regs, .le] ⊆ l₀ := by first | assumption | exact Area.sub ‹_›) :
    Frame l₀ b₀ (b.sledStep s) := by
  unfold Block.sledStep
  repeat' first
    | (with_reducible assumption)
    | (with_reducible exact Area.sub ‹_›)
    | (with_reducible exact Frame.refl)
    | (with_reducible apply Frame.ite)
    | (with_reducible refine Frame.foldl ?_ (fun _ _ _ => ?_))
    | (with_reducible apply frame_writeSledReq)
    | (fail_if_no_progress extract_lets)
    | intro _
    | (with_reducible split)

theorem frame_surfPrograms {l₀ : List Area} {b₀ b : Block} (h₀ : Frame l₀ b₀ b) (s : Fin 4)
    (hl : [.regs, .irq, .le, .servo, .wp, .se, .cal, .hq, .store, .ml, .out] ⊆ l₀ := by first | assumption | exact Area.sub ‹_›) :
    Frame l₀ b₀ (b.surfPrograms s) := by
  unfold Block.surfPrograms
  repeat' first
    | (with_reducible assumption)
    | (with_reducible exact Area.sub ‹_›)
    | (with_reducible exact Frame.refl)
    | (with_reducible apply Frame.ite)
    | (with_reducible refine Frame.foldl ?_ (fun _ _ _ => ?_))
    | (with_reducible apply frame_onSurf)
    | (with_reducible apply frame_setFld)
    | (with_reducible apply frame_pullIn)
    | (with_reducible apply frame_sledStep)
    | (with_reducible apply frame_writeSaReq)
    | (fail_if_no_progress extract_lets)
    | intro _
    | (with_reducible split)

theorem frame_streamSlots {l₀ : List Area} {b₀ b : Block} (h₀ : Frame l₀ b₀ b) (s : Fin 4) (p : Pass) (last : Nat)
    (hl : [.out] ⊆ l₀ := by first | assumption | exact Area.sub ‹_›) :
    Frame l₀ b₀ (b.streamSlots s p last) := by
  unfold Block.streamSlots
  repeat' first
    | (with_reducible assumption)
    | (with_reducible exact Area.sub ‹_›)
    | (with_reducible exact Frame.refl)
    | (with_reducible apply Frame.ite)
    | (with_reducible refine Frame.foldl ?_ (fun _ _ _ => ?_))
    | (with_reducible apply frame_sedge)
    | (fail_if_no_progress extract_lets)
    | intro _
    | (with_reducible split)

theorem frame_streamRunning {l₀ : List Area} {b₀ b : Block} (h₀ : Frame l₀ b₀ b) (s : Fin 4)
    (hl : [.wp, .out] ⊆ l₀ := by first | assumption | exact Area.sub ‹_›) :
    Frame l₀ b₀ (b.streamRunning s) := by
  unfold Block.streamRunning
  repeat' first
    | (with_reducible assumption)
    | (with_reducible exact Area.sub ‹_›)
    | (with_reducible exact Frame.refl)
    | (with_reducible apply Frame.ite)
    | (with_reducible refine Frame.foldl ?_ (fun _ _ _ => ?_))
    | (with_reducible apply frame_streamSlots)
    | (with_reducible apply frame_modWp)
    | (fail_if_no_progress extract_lets)
    | intro _
    | (with_reducible split)

theorem frame_swathSchedule {l₀ : List Area} {b₀ b : Block} (h₀ : Frame l₀ b₀ b) (s : Fin 4)
    (hl : [.wp, .out] ⊆ l₀ := by first | assumption | exact Area.sub ‹_›) :
    Frame l₀ b₀ (b.swathSchedule s) := by
  unfold Block.swathSchedule
  repeat' first
    | (with_reducible assumption)
    | (with_reducible exact Area.sub ‹_›)
    | (with_reducible exact Frame.refl)
    | (with_reducible apply Frame.ite)
    | (with_reducible refine Frame.foldl ?_ (fun _ _ _ => ?_))
    | (with_reducible apply frame_streamRunning)
    | (with_reducible apply frame_streamSlots)
    | (with_reducible apply frame_modWp)
    | (fail_if_no_progress extract_lets)
    | intro _
    | (with_reducible split)

theorem frame_timebase {l₀ : List Area} {b₀ b : Block} (h₀ : Frame l₀ b₀ b) (s : Fin 4)
    (hl : [.out] ⊆ l₀ := by first | assumption | exact Area.sub ‹_›) :
    Frame l₀ b₀ (b.timebase s) := by
  unfold Block.timebase
  repeat' first
    | (with_reducible assumption)
    | (with_reducible exact Area.sub ‹_›)
    | (with_reducible exact Frame.refl)
    | (with_reducible apply Frame.ite)
    | (with_reducible refine Frame.foldl ?_ (fun _ _ _ => ?_))
    | (with_reducible apply frame_sedge)
    | (fail_if_no_progress extract_lets)
    | intro _
    | (with_reducible split)

theorem frame_linkTick {l₀ : List Area} {b₀ b : Block} (h₀ : Frame l₀ b₀ b) (s : Fin 4)
    (hl : [.wp, .se, .out] ⊆ l₀ := by first | assumption | exact Area.sub ‹_›) :
    Frame l₀ b₀ (b.linkTick s) := by
  unfold Block.linkTick
  repeat' first
    | (with_reducible assumption)
    | (with_reducible exact Area.sub ‹_›)
    | (with_reducible exact Frame.refl)
    | (with_reducible apply Frame.ite)
    | (with_reducible refine Frame.foldl ?_ (fun _ _ _ => ?_))
    | (with_reducible apply frame_onSurf)
    | (with_reducible apply frame_timebase)
    | (with_reducible apply frame_sendPower)
    | (with_reducible apply frame_swathSchedule)
    | (with_reducible apply frame_modSe)
    | (fail_if_no_progress extract_lets)
    | intro _
    | (with_reducible split)

theorem frame_residual {l₀ : List Area} {b₀ b : Block} (h₀ : Frame l₀ b₀ b) (s : Fin 4)
    (hl : [.regs, .irq, .cal, .ml, .out] ⊆ l₀ := by first | assumption | exact Area.sub ‹_›) :
    Frame l₀ b₀ (b.residual s) := by
  unfold Block.residual
  repeat' first
    | (with_reducible assumption)
    | (with_reducible exact Area.sub ‹_›)
    | (with_reducible exact Frame.refl)
    | (with_reducible apply Frame.ite)
    | (with_reducible refine Frame.foldl ?_ (fun _ _ _ => ?_))
    | (with_reducible apply frame_onSurf)
    | (with_reducible apply frame_modCalSurf)
    | (with_reducible apply frame_setFld)
    | (with_reducible apply frame_raiseSurf)
    | (fail_if_no_progress extract_lets)
    | intro _
    | (with_reducible split)

theorem frame_deferTick {l₀ : List Area} {b₀ b : Block} (h₀ : Frame l₀ b₀ b) (waits : BitVec 7)
    (hl : [.regs, .cal] ⊆ l₀ := by first | assumption | exact Area.sub ‹_›) :
    Frame l₀ b₀ (b.deferTick waits) := by
  unfold Block.deferTick
  repeat' first
    | (with_reducible assumption)
    | (with_reducible exact Area.sub ‹_›)
    | (with_reducible exact Frame.refl)
    | (with_reducible apply Frame.ite)
    | (with_reducible refine Frame.foldl ?_ (fun _ _ _ => ?_))
    | (with_reducible apply frame_setFld)
    | (with_reducible apply frame_modCal)
    | (fail_if_no_progress extract_lets)
    | intro _
    | (with_reducible split)

theorem frame_persistTick {l₀ : List Area} {b₀ b : Block} (h₀ : Frame l₀ b₀ b) (waits : Bool)
    (hl : [.regs, .irq, .cal, .ml, .out] ⊆ l₀ := by first | assumption | exact Area.sub ‹_›) :
    Frame l₀ b₀ (b.persistTick waits) := by
  unfold Block.persistTick
  repeat' first
    | (with_reducible assumption)
    | (with_reducible exact Area.sub ‹_›)
    | (with_reducible exact Frame.refl)
    | (with_reducible apply Frame.ite)
    | (with_reducible refine Frame.foldl ?_ (fun _ _ _ => ?_))
    | (with_reducible apply frame_modCal)
    | (with_reducible apply frame_persistTel)
    | (fail_if_no_progress extract_lets)
    | intro _
    | (with_reducible split)

theorem frame_ingestTick {l₀ : List Area} {b₀ b : Block} (h₀ : Frame l₀ b₀ b)
    (hl : [.hq, .store] ⊆ l₀ := by first | assumption | exact Area.sub ‹_›) :
    Frame l₀ b₀ (b.ingestTick) := by
  unfold Block.ingestTick
  repeat' first
    | (with_reducible assumption)
    | (with_reducible exact Area.sub ‹_›)
    | (with_reducible exact Frame.refl)
    | (with_reducible apply Frame.ite)
    | (with_reducible refine Frame.foldl ?_ (fun _ _ _ => ?_))
    | (with_reducible apply frame_modHq)
    | (with_reducible apply frame_modStore)
    | (fail_if_no_progress extract_lets)
    | intro _
    | (with_reducible split)

theorem frame_melarTick {l₀ : List Area} {b₀ b : Block} (h₀ : Frame l₀ b₀ b)
    (hl : [.ml, .out] ⊆ l₀ := by first | assumption | exact Area.sub ‹_›) :
    Frame l₀ b₀ (b.melarTick) := by
  unfold Block.melarTick
  repeat' first
    | (with_reducible assumption)
    | (with_reducible exact Area.sub ‹_›)
    | (with_reducible exact Frame.refl)
    | (with_reducible apply Frame.ite)
    | (with_reducible refine Frame.foldl ?_ (fun _ _ _ => ?_))
    | (with_reducible apply frame_modMl)
    | (with_reducible apply frame_emit)
    | (fail_if_no_progress extract_lets)
    | intro _
    | (with_reducible split)

theorem frame_memTick {l₀ : List Area} {b₀ b : Block} (h₀ : Frame l₀ b₀ b) (strikes : List (Nat × Nat)) (refused : Bool)
    (hl : [.regs, .irq, .dram, .ml, .out] ⊆ l₀ := by first | assumption | exact Area.sub ‹_›) :
    Frame l₀ b₀ (b.memTick strikes refused) := by
  unfold Block.memTick
  repeat' first
    | (with_reducible assumption)
    | (with_reducible exact Area.sub ‹_›)
    | (with_reducible exact Frame.refl)
    | (with_reducible apply Frame.ite)
    | (with_reducible refine Frame.foldl ?_ (fun _ _ _ => ?_))
    | (with_reducible apply frame_strike)
    | (with_reducible apply frame_dramTick)
    | (with_reducible apply frame_scrubTick)
    | (with_reducible apply frame_modDram)
    | (with_reducible apply frame_mcInitEnd)
    | (fail_if_no_progress extract_lets)
    | intro _
    | (with_reducible split)

theorem frame_execTickPreamble {b₀ : Block} {s t : State} {e : TickEnv} (e₀ : execTickPreamble e s = .next t)
    (h₀ : Frame l₀ b₀ s.toBlock)
    (hl : [.tick, .cyc, .regs, .irq, .le, .servo, .spin, .axis, .wp, .se, .cal, .dram, .hq, .store, .pt, .ml, .pw, .out] ⊆ l₀ := by first | assumption | exact Area.sub ‹_›) : Frame l₀ b₀ t.toBlock := by
  unfold execTickPreamble at e₀
  refine Frame.upd e₀ h₀ (fun _ _ => ?_)
  repeat' first
    | (with_reducible assumption)
    | (with_reducible exact Area.sub ‹_›)
    | (with_reducible exact Frame.refl)
    | (with_reducible apply Frame.ite)
    | (with_reducible refine Frame.foldl ?_ (fun _ _ _ => ?_))
    | (with_reducible apply frame_run)
    | (with_reducible apply frame_overrun)
    | (with_reducible apply frame_swapExchange)
    | (with_reducible apply frame_advanceTick)
    | (with_reducible apply frame_swapCoefs)
    | (with_reducible apply frame_swapTables)
    | (with_reducible apply frame_takePort)
    | (with_reducible apply frame_takeSamples)
    | (with_reducible apply frame_takeHome)
    | (with_reducible apply frame_takeSupplies)
    | (with_reducible apply frame_setBit)
    | (with_reducible apply frame_wobbleUnit)
    | (with_reducible apply frame_axPreamble)
    | (with_reducible apply frame_surfPrograms)
    | (with_reducible apply frame_residual)
    | (with_reducible apply frame_linkTick)
    | (with_reducible apply frame_memTick)
    | (with_reducible apply frame_ptKick)
    | (with_reducible apply frame_ingestTick)
    | (with_reducible apply frame_melarTick)
    | (with_reducible apply frame_discSteps)
    | (with_reducible apply frame_deferTick)
    | (with_reducible apply frame_persistTick)
    | (with_reducible apply frame_mirApply)
    | (with_reducible apply frame_runSlots)
    | (fail_if_no_progress extract_lets)
    | intro _
    | (with_reducible split)

theorem frame_recordCuts {l₀ : List Area} {b₀ b : Block} (h₀ : Frame l₀ b₀ b)
    (hl : [.regs, .le] ⊆ l₀ := by first | assumption | exact Area.sub ‹_›) :
    Frame l₀ b₀ (b.recordCuts) := by
  unfold Block.recordCuts
  repeat' first
    | (with_reducible assumption)
    | (with_reducible exact Area.sub ‹_›)
    | (with_reducible exact Frame.refl)
    | (with_reducible apply Frame.ite)
    | (with_reducible refine Frame.foldl ?_ (fun _ _ _ => ?_))
    | (with_reducible apply frame_putBit)
    | (with_reducible apply frame_setFld)
    | (with_reducible apply frame_postClose)
    | (fail_if_no_progress extract_lets)
    | intro _
    | (with_reducible split)

theorem frame_limitRuns {l₀ : List Area} {b₀ b : Block} (h₀ : Frame l₀ b₀ b) (s : Fin 4)
    (hl : [.le, .servo] ⊆ l₀ := by first | assumption | exact Area.sub ‹_›) :
    Frame l₀ b₀ (b.limitRuns s) := by
  unfold Block.limitRuns
  repeat' first
    | (with_reducible assumption)
    | (with_reducible exact Area.sub ‹_›)
    | (with_reducible exact Frame.refl)
    | (with_reducible apply Frame.ite)
    | (with_reducible refine Frame.foldl ?_ (fun _ _ _ => ?_))
    | (with_reducible apply frame_onSurf)
    | (with_reducible apply frame_modServo)
    | (with_reducible apply frame_postClose)
    | (fail_if_no_progress extract_lets)
    | intro _
    | (with_reducible split)

theorem frame_execTickClose {l₀ : List Area} {b₀ : Block} {s t : State} (e₀ : execTickClose s = .next t)
    (h₀ : Frame l₀ b₀ s.toBlock)
    (hl : [.cyc, .regs, .irq, .le, .servo, .spin, .wp, .hq, .store, .ml, .out] ⊆ l₀ := by first | assumption | exact Area.sub ‹_›) : Frame l₀ b₀ t.toBlock := by
  unfold execTickClose at e₀
  refine Frame.upd e₀ h₀ (fun _ _ => ?_)
  repeat' first
    | (with_reducible assumption)
    | (with_reducible exact Area.sub ‹_›)
    | (with_reducible exact Frame.refl)
    | (with_reducible apply Frame.ite)
    | (with_reducible refine Frame.foldl ?_ (fun _ _ _ => ?_))
    | (with_reducible apply frame_overrun)
    | (with_reducible apply frame_applyAllHeld)
    | (with_reducible apply frame_setFld)
    | (with_reducible apply frame_recordCuts)
    | (with_reducible apply frame_onSpin)
    | (with_reducible apply frame_spDecide)
    | (with_reducible apply frame_limitRuns)
    | (with_reducible apply frame_post)
    | (with_reducible apply frame_modLe)
    | (with_reducible apply frame_setCyc)
    | (with_reducible apply frame_raise)
    | (fail_if_no_progress extract_lets)
    | intro _
    | (with_reducible split)

theorem frame_execSlotCut {l₀ : List Area} {b₀ : Block} {s t : State} (e₀ : execSlotCut s = .next t)
    (h₀ : Frame l₀ b₀ s.toBlock)
    (hl : [.regs, .irq, .le, .servo, .wp, .se, .cal, .hq, .store, .ml, .out] ⊆ l₀ := by first | assumption | exact Area.sub ‹_›) : Frame l₀ b₀ t.toBlock := by
  unfold execSlotCut at e₀
  refine Frame.upd e₀ h₀ (fun _ _ => ?_)
  repeat' first
    | (with_reducible assumption)
    | (with_reducible exact Area.sub ‹_›)
    | (with_reducible exact Frame.refl)
    | (with_reducible apply Frame.ite)
    | (with_reducible refine Frame.foldl ?_ (fun _ _ _ => ?_))
    | (with_reducible apply frame_cutRun)
    | (fail_if_no_progress extract_lets)
    | intro _
    | (with_reducible split)

theorem frame_execTickOverrun {l₀ : List Area} {b₀ : Block} {s t : State} (e₀ : execTickOverrun s = .next t)
    (h₀ : Frame l₀ b₀ s.toBlock)
    (hl : [.regs, .le] ⊆ l₀ := by first | assumption | exact Area.sub ‹_›) : Frame l₀ b₀ t.toBlock := by
  unfold execTickOverrun at e₀
  refine Frame.upd e₀ h₀ (fun _ _ => ?_)
  repeat' first
    | (with_reducible assumption)
    | (with_reducible exact Area.sub ‹_›)
    | (with_reducible exact Frame.refl)
    | (with_reducible apply Frame.ite)
    | (with_reducible refine Frame.foldl ?_ (fun _ _ _ => ?_))
    | (with_reducible apply frame_overrun)
    | (fail_if_no_progress extract_lets)
    | intro _
    | (with_reducible split)

theorem frame_thirdMiss {l₀ : List Area} {b₀ b : Block} (h₀ : Frame l₀ b₀ b) (k : Nat)
    (hl : [.regs, .irq, .le, .servo, .spin, .axis, .wp, .se, .cal, .hq, .store, .ml, .out] ⊆ l₀ := by first | assumption | exact Area.sub ‹_›) :
    Frame l₀ b₀ (b.thirdMiss k) := by
  unfold Block.thirdMiss
  repeat' first
    | (with_reducible assumption)
    | (with_reducible exact Area.sub ‹_›)
    | (with_reducible exact Frame.refl)
    | (with_reducible apply Frame.ite)
    | (with_reducible refine Frame.foldl ?_ (fun _ _ _ => ?_))
    | (with_reducible apply frame_setFld)
    | (with_reducible apply frame_modLe)
    | (with_reducible apply frame_onSurf)
    | (with_reducible apply frame_safeState)
    | (with_reducible apply frame_onSpin)
    | (with_reducible apply frame_spThirdMiss)
    | (with_reducible apply frame_onAxis)
    | (with_reducible apply frame_stallAxis)
    | (fail_if_no_progress extract_lets)
    | intro _
    | (with_reducible split)

theorem frame_execThirdMiss {l₀ : List Area} {b₀ : Block} {s t : State} {k : Fin 48} (e₀ : execThirdMiss k s = .next t)
    (h₀ : Frame l₀ b₀ s.toBlock)
    (hl : [.regs, .irq, .le, .servo, .spin, .axis, .wp, .se, .cal, .hq, .store, .ml, .out] ⊆ l₀ := by first | assumption | exact Area.sub ‹_›) : Frame l₀ b₀ t.toBlock := by
  unfold execThirdMiss at e₀
  refine Frame.upd e₀ h₀ (fun _ _ => ?_)
  repeat' first
    | (with_reducible assumption)
    | (with_reducible exact Area.sub ‹_›)
    | (with_reducible exact Frame.refl)
    | (with_reducible apply Frame.ite)
    | (with_reducible refine Frame.foldl ?_ (fun _ _ _ => ?_))
    | (with_reducible apply frame_thirdMiss)
    | (fail_if_no_progress extract_lets)
    | intro _
    | (with_reducible split)

theorem frame_execMicrocodeParityError {l₀ : List Area} {b₀ : Block} {s t : State} {mem : LeMem} {addr : BitVec 14} {used : BitVec 11} (e₀ : execMicrocodeParityError mem addr used s = .next t)
    (h₀ : Frame l₀ b₀ s.toBlock)
    (hl : [.regs, .irq, .le, .servo, .wp, .se, .cal, .hq, .store, .ml, .out] ⊆ l₀ := by first | assumption | exact Area.sub ‹_›) : Frame l₀ b₀ t.toBlock := by
  unfold execMicrocodeParityError at e₀
  refine Frame.upd e₀ h₀ (fun _ _ => ?_)
  repeat' first
    | (with_reducible assumption)
    | (with_reducible exact Area.sub ‹_›)
    | (with_reducible exact Frame.refl)
    | (with_reducible apply Frame.ite)
    | (with_reducible refine Frame.foldl ?_ (fun _ _ _ => ?_))
    | (with_reducible apply frame_run)
    | (with_reducible apply frame_putBit)
    | (with_reducible apply frame_bump)
    | (with_reducible apply frame_setFld)
    | (with_reducible apply frame_raise)
    | (with_reducible apply frame_cutRun)
    | (with_reducible apply frame_modLe)
    | (fail_if_no_progress extract_lets)
    | intro _
    | (with_reducible split)

theorem frame_execTimeoutExpiry {l₀ : List Area} {b₀ : Block} {s t : State} {watchdog : Bool} (e₀ : execTimeoutExpiry watchdog s = .next t)
    (h₀ : Frame l₀ b₀ s.toBlock)
    (hl : [.regs, .irq, .le, .servo, .spin, .wp, .hq, .store, .ml, .out] ⊆ l₀ := by first | assumption | exact Area.sub ‹_›) : Frame l₀ b₀ t.toBlock := by
  unfold execTimeoutExpiry at e₀
  refine Frame.upd e₀ h₀ (fun _ _ => ?_)
  repeat' first
    | (with_reducible assumption)
    | (with_reducible exact Area.sub ‹_›)
    | (with_reducible exact Frame.refl)
    | (with_reducible apply Frame.ite)
    | (with_reducible refine Frame.foldl ?_ (fun _ _ _ => ?_))
    | (with_reducible apply frame_raise)
    | (with_reducible apply frame_onSpin)
    | (with_reducible apply frame_spStop)
    | (fail_if_no_progress extract_lets)
    | intro _
    | (with_reducible split)

/-! ### Machine/LoopInstr.lean -/

theorem frame_execOpNop {l₀ : List Area} {b₀ : Block} {s t : State} (e₀ : execOpNop s = .next t)
    (h₀ : Frame l₀ b₀ s.toBlock)
    (hl : [.regs, .irq, .le, .servo, .wp, .se, .cal, .hq, .store, .ml, .out] ⊆ l₀ := by first | assumption | exact Area.sub ‹_›) : Frame l₀ b₀ t.toBlock := by
  unfold execOpNop at e₀
  refine Frame.upd e₀ h₀ (fun _ _ => ?_)
  repeat' first
    | (with_reducible assumption)
    | (with_reducible exact Area.sub ‹_›)
    | (with_reducible exact Frame.refl)
    | (with_reducible apply Frame.ite)
    | (with_reducible refine Frame.foldl ?_ (fun _ _ _ => ?_))
    | (with_reducible apply frame_loopStep)
    | (fail_if_no_progress extract_lets)
    | intro _
    | (with_reducible split)

theorem frame_execOpEnd {l₀ : List Area} {b₀ : Block} {s t : State} (e₀ : execOpEnd s = .next t)
    (h₀ : Frame l₀ b₀ s.toBlock)
    (hl : [.regs, .irq, .le, .servo, .spin, .axis, .wp, .se, .cal, .hq, .store, .ml, .out] ⊆ l₀ := by first | assumption | exact Area.sub ‹_›) : Frame l₀ b₀ t.toBlock := by
  unfold execOpEnd at e₀
  refine Frame.upd e₀ h₀ (fun _ _ => ?_)
  repeat' first
    | (with_reducible assumption)
    | (with_reducible exact Area.sub ‹_›)
    | (with_reducible exact Frame.refl)
    | (with_reducible apply Frame.ite)
    | (with_reducible refine Frame.foldl ?_ (fun _ _ _ => ?_))
    | (with_reducible apply frame_run)
    | (with_reducible apply frame_cutRun)
    | (with_reducible apply frame_overrun)
    | (with_reducible apply frame_commit)
    | (fail_if_no_progress extract_lets)
    | intro _
    | (with_reducible split)

theorem frame_execOpLd {l₀ : List Area} {b₀ : Block} {s t : State} {d : Fin 32} {n : Fin 8} {absolute : Bool} {addr : BitVec 13} (e₀ : execOpLd d n absolute addr s = .next t)
    (h₀ : Frame l₀ b₀ s.toBlock)
    (hl : [.regs, .irq, .le, .servo, .wp, .se, .cal, .hq, .store, .ml, .out] ⊆ l₀ := by first | assumption | exact Area.sub ‹_›) : Frame l₀ b₀ t.toBlock := by
  unfold execOpLd at e₀
  refine Frame.upd e₀ h₀ (fun _ _ => ?_)
  repeat' first
    | (with_reducible assumption)
    | (with_reducible exact Area.sub ‹_›)
    | (with_reducible exact Frame.refl)
    | (with_reducible apply Frame.ite)
    | (with_reducible refine Frame.foldl ?_ (fun _ _ _ => ?_))
    | (with_reducible apply frame_loopStep)
    | (fail_if_no_progress extract_lets)
    | intro _
    | (with_reducible split)

theorem frame_execOpSt {l₀ : List Area} {b₀ : Block} {s t : State} {a : Fin 32} {n : Fin 8} {absolute : Bool} {addr : BitVec 13} (e₀ : execOpSt a n absolute addr s = .next t)
    (h₀ : Frame l₀ b₀ s.toBlock)
    (hl : [.regs, .irq, .le, .servo, .wp, .se, .cal, .hq, .store, .ml, .out] ⊆ l₀ := by first | assumption | exact Area.sub ‹_›) : Frame l₀ b₀ t.toBlock := by
  unfold execOpSt at e₀
  refine Frame.upd e₀ h₀ (fun _ _ => ?_)
  repeat' first
    | (with_reducible assumption)
    | (with_reducible exact Area.sub ‹_›)
    | (with_reducible exact Frame.refl)
    | (with_reducible apply Frame.ite)
    | (with_reducible refine Frame.foldl ?_ (fun _ _ _ => ?_))
    | (with_reducible apply frame_loopStep)
    | (fail_if_no_progress extract_lets)
    | intro _
    | (with_reducible split)

theorem frame_execOpIn {l₀ : List Area} {b₀ : Block} {s t : State} {d : Fin 32} {port : BitVec 10} (e₀ : execOpIn d port s = .next t)
    (h₀ : Frame l₀ b₀ s.toBlock)
    (hl : [.regs, .irq, .le, .servo, .wp, .se, .cal, .hq, .store, .ml, .out] ⊆ l₀ := by first | assumption | exact Area.sub ‹_›) : Frame l₀ b₀ t.toBlock := by
  unfold execOpIn at e₀
  refine Frame.upd e₀ h₀ (fun _ _ => ?_)
  repeat' first
    | (with_reducible assumption)
    | (with_reducible exact Area.sub ‹_›)
    | (with_reducible exact Frame.refl)
    | (with_reducible apply Frame.ite)
    | (with_reducible refine Frame.foldl ?_ (fun _ _ _ => ?_))
    | (with_reducible apply frame_loopStep)
    | (fail_if_no_progress extract_lets)
    | intro _
    | (with_reducible split)

theorem frame_execOpOut {l₀ : List Area} {b₀ : Block} {s t : State} {a : Fin 32} {port : BitVec 10} (e₀ : execOpOut a port s = .next t)
    (h₀ : Frame l₀ b₀ s.toBlock)
    (hl : [.regs, .irq, .le, .servo, .wp, .se, .cal, .hq, .store, .ml, .out] ⊆ l₀ := by first | assumption | exact Area.sub ‹_›) : Frame l₀ b₀ t.toBlock := by
  unfold execOpOut at e₀
  refine Frame.upd e₀ h₀ (fun _ _ => ?_)
  repeat' first
    | (with_reducible assumption)
    | (with_reducible exact Area.sub ‹_›)
    | (with_reducible exact Frame.refl)
    | (with_reducible apply Frame.ite)
    | (with_reducible refine Frame.foldl ?_ (fun _ _ _ => ?_))
    | (with_reducible apply frame_loopStep)
    | (fail_if_no_progress extract_lets)
    | intro _
    | (with_reducible split)

theorem frame_execOpLdi {l₀ : List Area} {b₀ : Block} {s t : State} {d : Fin 32} {hi : Bool} {imm : BitVec 16} (e₀ : execOpLdi d hi imm s = .next t)
    (h₀ : Frame l₀ b₀ s.toBlock)
    (hl : [.regs, .irq, .le, .servo, .wp, .se, .cal, .hq, .store, .ml, .out] ⊆ l₀ := by first | assumption | exact Area.sub ‹_›) : Frame l₀ b₀ t.toBlock := by
  unfold execOpLdi at e₀
  refine Frame.upd e₀ h₀ (fun _ _ => ?_)
  repeat' first
    | (with_reducible assumption)
    | (with_reducible exact Area.sub ‹_›)
    | (with_reducible exact Frame.refl)
    | (with_reducible apply Frame.ite)
    | (with_reducible refine Frame.foldl ?_ (fun _ _ _ => ?_))
    | (with_reducible apply frame_loopStep)
    | (fail_if_no_progress extract_lets)
    | intro _
    | (with_reducible split)

theorem frame_execOpMov {l₀ : List Area} {b₀ : Block} {s t : State} {d : Fin 32} {a : Fin 32} (e₀ : execOpMov d a s = .next t)
    (h₀ : Frame l₀ b₀ s.toBlock)
    (hl : [.regs, .irq, .le, .servo, .wp, .se, .cal, .hq, .store, .ml, .out] ⊆ l₀ := by first | assumption | exact Area.sub ‹_›) : Frame l₀ b₀ t.toBlock := by
  unfold execOpMov at e₀
  refine Frame.upd e₀ h₀ (fun _ _ => ?_)
  repeat' first
    | (with_reducible assumption)
    | (with_reducible exact Area.sub ‹_›)
    | (with_reducible exact Frame.refl)
    | (with_reducible apply Frame.ite)
    | (with_reducible refine Frame.foldl ?_ (fun _ _ _ => ?_))
    | (with_reducible apply frame_loopStep)
    | (fail_if_no_progress extract_lets)
    | intro _
    | (with_reducible split)

theorem frame_execOpAdd {l₀ : List Area} {b₀ : Block} {s t : State} {d : Fin 32} {a : Fin 32} {b' : Fin 32} (e₀ : execOpAdd d a b' s = .next t)
    (h₀ : Frame l₀ b₀ s.toBlock)
    (hl : [.regs, .irq, .le, .servo, .wp, .se, .cal, .hq, .store, .ml, .out] ⊆ l₀ := by first | assumption | exact Area.sub ‹_›) : Frame l₀ b₀ t.toBlock := by
  unfold execOpAdd at e₀
  refine Frame.upd e₀ h₀ (fun _ _ => ?_)
  repeat' first
    | (with_reducible assumption)
    | (with_reducible exact Area.sub ‹_›)
    | (with_reducible exact Frame.refl)
    | (with_reducible apply Frame.ite)
    | (with_reducible refine Frame.foldl ?_ (fun _ _ _ => ?_))
    | (with_reducible apply frame_loopStep)
    | (fail_if_no_progress extract_lets)
    | intro _
    | (with_reducible split)

theorem frame_execOpSub {l₀ : List Area} {b₀ : Block} {s t : State} {d : Fin 32} {a : Fin 32} {b' : Fin 32} (e₀ : execOpSub d a b' s = .next t)
    (h₀ : Frame l₀ b₀ s.toBlock)
    (hl : [.regs, .irq, .le, .servo, .wp, .se, .cal, .hq, .store, .ml, .out] ⊆ l₀ := by first | assumption | exact Area.sub ‹_›) : Frame l₀ b₀ t.toBlock := by
  unfold execOpSub at e₀
  refine Frame.upd e₀ h₀ (fun _ _ => ?_)
  repeat' first
    | (with_reducible assumption)
    | (with_reducible exact Area.sub ‹_›)
    | (with_reducible exact Frame.refl)
    | (with_reducible apply Frame.ite)
    | (with_reducible refine Frame.foldl ?_ (fun _ _ _ => ?_))
    | (with_reducible apply frame_loopStep)
    | (fail_if_no_progress extract_lets)
    | intro _
    | (with_reducible split)

theorem frame_execOpMulx {l₀ : List Area} {b₀ : Block} {s t : State} {d : Fin 32} {a : Fin 32} {b' : Fin 32} (e₀ : execOpMulx d a b' s = .next t)
    (h₀ : Frame l₀ b₀ s.toBlock)
    (hl : [.regs, .irq, .le, .servo, .wp, .se, .cal, .hq, .store, .ml, .out] ⊆ l₀ := by first | assumption | exact Area.sub ‹_›) : Frame l₀ b₀ t.toBlock := by
  unfold execOpMulx at e₀
  refine Frame.upd e₀ h₀ (fun _ _ => ?_)
  repeat' first
    | (with_reducible assumption)
    | (with_reducible exact Area.sub ‹_›)
    | (with_reducible exact Frame.refl)
    | (with_reducible apply Frame.ite)
    | (with_reducible refine Frame.foldl ?_ (fun _ _ _ => ?_))
    | (with_reducible apply frame_loopStep)
    | (fail_if_no_progress extract_lets)
    | intro _
    | (with_reducible split)

theorem frame_execOpShl {l₀ : List Area} {b₀ : Block} {s t : State} {d : Fin 32} {a : Fin 32} {n : Fin 32} (e₀ : execOpShl d a n s = .next t)
    (h₀ : Frame l₀ b₀ s.toBlock)
    (hl : [.regs, .irq, .le, .servo, .wp, .se, .cal, .hq, .store, .ml, .out] ⊆ l₀ := by first | assumption | exact Area.sub ‹_›) : Frame l₀ b₀ t.toBlock := by
  unfold execOpShl at e₀
  refine Frame.upd e₀ h₀ (fun _ _ => ?_)
  repeat' first
    | (with_reducible assumption)
    | (with_reducible exact Area.sub ‹_›)
    | (with_reducible exact Frame.refl)
    | (with_reducible apply Frame.ite)
    | (with_reducible refine Frame.foldl ?_ (fun _ _ _ => ?_))
    | (with_reducible apply frame_loopStep)
    | (fail_if_no_progress extract_lets)
    | intro _
    | (with_reducible split)

theorem frame_execOpShr {l₀ : List Area} {b₀ : Block} {s t : State} {d : Fin 32} {a : Fin 32} {n : Fin 32} (e₀ : execOpShr d a n s = .next t)
    (h₀ : Frame l₀ b₀ s.toBlock)
    (hl : [.regs, .irq, .le, .servo, .wp, .se, .cal, .hq, .store, .ml, .out] ⊆ l₀ := by first | assumption | exact Area.sub ‹_›) : Frame l₀ b₀ t.toBlock := by
  unfold execOpShr at e₀
  refine Frame.upd e₀ h₀ (fun _ _ => ?_)
  repeat' first
    | (with_reducible assumption)
    | (with_reducible exact Area.sub ‹_›)
    | (with_reducible exact Frame.refl)
    | (with_reducible apply Frame.ite)
    | (with_reducible refine Frame.foldl ?_ (fun _ _ _ => ?_))
    | (with_reducible apply frame_loopStep)
    | (fail_if_no_progress extract_lets)
    | intro _
    | (with_reducible split)

theorem frame_execOpMin {l₀ : List Area} {b₀ : Block} {s t : State} {d : Fin 32} {a : Fin 32} {b' : Fin 32} (e₀ : execOpMin d a b' s = .next t)
    (h₀ : Frame l₀ b₀ s.toBlock)
    (hl : [.regs, .irq, .le, .servo, .wp, .se, .cal, .hq, .store, .ml, .out] ⊆ l₀ := by first | assumption | exact Area.sub ‹_›) : Frame l₀ b₀ t.toBlock := by
  unfold execOpMin at e₀
  refine Frame.upd e₀ h₀ (fun _ _ => ?_)
  repeat' first
    | (with_reducible assumption)
    | (with_reducible exact Area.sub ‹_›)
    | (with_reducible exact Frame.refl)
    | (with_reducible apply Frame.ite)
    | (with_reducible refine Frame.foldl ?_ (fun _ _ _ => ?_))
    | (with_reducible apply frame_loopStep)
    | (fail_if_no_progress extract_lets)
    | intro _
    | (with_reducible split)

theorem frame_execOpMax {l₀ : List Area} {b₀ : Block} {s t : State} {d : Fin 32} {a : Fin 32} {b' : Fin 32} (e₀ : execOpMax d a b' s = .next t)
    (h₀ : Frame l₀ b₀ s.toBlock)
    (hl : [.regs, .irq, .le, .servo, .wp, .se, .cal, .hq, .store, .ml, .out] ⊆ l₀ := by first | assumption | exact Area.sub ‹_›) : Frame l₀ b₀ t.toBlock := by
  unfold execOpMax at e₀
  refine Frame.upd e₀ h₀ (fun _ _ => ?_)
  repeat' first
    | (with_reducible assumption)
    | (with_reducible exact Area.sub ‹_›)
    | (with_reducible exact Frame.refl)
    | (with_reducible apply Frame.ite)
    | (with_reducible refine Frame.foldl ?_ (fun _ _ _ => ?_))
    | (with_reducible apply frame_loopStep)
    | (fail_if_no_progress extract_lets)
    | intro _
    | (with_reducible split)

theorem frame_execOpClmp {l₀ : List Area} {b₀ : Block} {s t : State} {d : Fin 32} {a : Fin 32} {b' : Fin 32} (e₀ : execOpClmp d a b' s = .next t)
    (h₀ : Frame l₀ b₀ s.toBlock)
    (hl : [.regs, .irq, .le, .servo, .wp, .se, .cal, .hq, .store, .ml, .out] ⊆ l₀ := by first | assumption | exact Area.sub ‹_›) : Frame l₀ b₀ t.toBlock := by
  unfold execOpClmp at e₀
  refine Frame.upd e₀ h₀ (fun _ _ => ?_)
  repeat' first
    | (with_reducible assumption)
    | (with_reducible exact Area.sub ‹_›)
    | (with_reducible exact Frame.refl)
    | (with_reducible apply Frame.ite)
    | (with_reducible refine Frame.foldl ?_ (fun _ _ _ => ?_))
    | (with_reducible apply frame_loopStep)
    | (fail_if_no_progress extract_lets)
    | intro _
    | (with_reducible split)

theorem frame_execOpAbs {l₀ : List Area} {b₀ : Block} {s t : State} {d : Fin 32} {a : Fin 32} (e₀ : execOpAbs d a s = .next t)
    (h₀ : Frame l₀ b₀ s.toBlock)
    (hl : [.regs, .irq, .le, .servo, .wp, .se, .cal, .hq, .store, .ml, .out] ⊆ l₀ := by first | assumption | exact Area.sub ‹_›) : Frame l₀ b₀ t.toBlock := by
  unfold execOpAbs at e₀
  refine Frame.upd e₀ h₀ (fun _ _ => ?_)
  repeat' first
    | (with_reducible assumption)
    | (with_reducible exact Area.sub ‹_›)
    | (with_reducible exact Frame.refl)
    | (with_reducible apply Frame.ite)
    | (with_reducible refine Frame.foldl ?_ (fun _ _ _ => ?_))
    | (with_reducible apply frame_loopStep)
    | (fail_if_no_progress extract_lets)
    | intro _
    | (with_reducible split)

theorem frame_execOpMvm {l₀ : List Area} {b₀ : Block} {s t : State} {d : Fin 32} {a : Fin 32} {rows : Fin 16} {cols : Fin 16} {acc : Bool} (e₀ : execOpMvm d a rows cols acc s = .next t)
    (h₀ : Frame l₀ b₀ s.toBlock)
    (hl : [.regs, .irq, .le, .servo, .wp, .se, .cal, .hq, .store, .ml, .out] ⊆ l₀ := by first | assumption | exact Area.sub ‹_›) : Frame l₀ b₀ t.toBlock := by
  unfold execOpMvm at e₀
  refine Frame.upd e₀ h₀ (fun _ _ => ?_)
  repeat' first
    | (with_reducible assumption)
    | (with_reducible exact Area.sub ‹_›)
    | (with_reducible exact Frame.refl)
    | (with_reducible apply Frame.ite)
    | (with_reducible refine Frame.foldl ?_ (fun _ _ _ => ?_))
    | (with_reducible apply frame_loopStep)
    | (fail_if_no_progress extract_lets)
    | intro _
    | (with_reducible split)

theorem frame_execOpSetcp {l₀ : List Area} {b₀ : Block} {s t : State} {off : BitVec 12} (e₀ : execOpSetcp off s = .next t)
    (h₀ : Frame l₀ b₀ s.toBlock)
    (hl : [.regs, .irq, .le, .servo, .wp, .se, .cal, .hq, .store, .ml, .out] ⊆ l₀ := by first | assumption | exact Area.sub ‹_›) : Frame l₀ b₀ t.toBlock := by
  unfold execOpSetcp at e₀
  refine Frame.upd e₀ h₀ (fun _ _ => ?_)
  repeat' first
    | (with_reducible assumption)
    | (with_reducible exact Area.sub ‹_›)
    | (with_reducible exact Frame.refl)
    | (with_reducible apply Frame.ite)
    | (with_reducible refine Frame.foldl ?_ (fun _ _ _ => ?_))
    | (with_reducible apply frame_loopStep)
    | (fail_if_no_progress extract_lets)
    | intro _
    | (with_reducible split)

theorem frame_execOpBr {l₀ : List Area} {b₀ : Block} {s t : State} {c : Cond} {a : Fin 32} {skip : BitVec 8} (e₀ : execOpBr c a skip s = .next t)
    (h₀ : Frame l₀ b₀ s.toBlock)
    (hl : [.regs, .irq, .le, .servo, .wp, .se, .cal, .hq, .store, .ml, .out] ⊆ l₀ := by first | assumption | exact Area.sub ‹_›) : Frame l₀ b₀ t.toBlock := by
  unfold execOpBr at e₀
  refine Frame.upd e₀ h₀ (fun _ _ => ?_)
  repeat' first
    | (with_reducible assumption)
    | (with_reducible exact Area.sub ‹_›)
    | (with_reducible exact Frame.refl)
    | (with_reducible apply Frame.ite)
    | (with_reducible refine Frame.foldl ?_ (fun _ _ _ => ?_))
    | (with_reducible apply frame_run)
    | (with_reducible apply frame_loopStep)
    | (fail_if_no_progress extract_lets)
    | intro _
    | (with_reducible split)

theorem frame_execOpSincos {l₀ : List Area} {b₀ : Block} {s t : State} {d : Fin 32} {a : Fin 32} (e₀ : execOpSincos d a s = .next t)
    (h₀ : Frame l₀ b₀ s.toBlock)
    (hl : [.regs, .irq, .le, .servo, .wp, .se, .cal, .hq, .store, .ml, .out] ⊆ l₀ := by first | assumption | exact Area.sub ‹_›) : Frame l₀ b₀ t.toBlock := by
  unfold execOpSincos at e₀
  refine Frame.upd e₀ h₀ (fun _ _ => ?_)
  repeat' first
    | (with_reducible assumption)
    | (with_reducible exact Area.sub ‹_›)
    | (with_reducible exact Frame.refl)
    | (with_reducible apply Frame.ite)
    | (with_reducible refine Frame.foldl ?_ (fun _ _ _ => ?_))
    | (with_reducible apply frame_loopStep)
    | (fail_if_no_progress extract_lets)
    | intro _
    | (with_reducible split)

theorem frame_execOpRot {l₀ : List Area} {b₀ : Block} {s t : State} {d : Fin 32} {a : Fin 32} {b' : Fin 32} (e₀ : execOpRot d a b' s = .next t)
    (h₀ : Frame l₀ b₀ s.toBlock)
    (hl : [.regs, .irq, .le, .servo, .wp, .se, .cal, .hq, .store, .ml, .out] ⊆ l₀ := by first | assumption | exact Area.sub ‹_›) : Frame l₀ b₀ t.toBlock := by
  unfold execOpRot at e₀
  refine Frame.upd e₀ h₀ (fun _ _ => ?_)
  repeat' first
    | (with_reducible assumption)
    | (with_reducible exact Area.sub ‹_›)
    | (with_reducible exact Frame.refl)
    | (with_reducible apply Frame.ite)
    | (with_reducible refine Frame.foldl ?_ (fun _ _ _ => ?_))
    | (with_reducible apply frame_loopStep)
    | (fail_if_no_progress extract_lets)
    | intro _
    | (with_reducible split)

theorem frame_execOpAtan2 {l₀ : List Area} {b₀ : Block} {s t : State} {d : Fin 32} {a : Fin 32} {b' : Fin 32} (e₀ : execOpAtan2 d a b' s = .next t)
    (h₀ : Frame l₀ b₀ s.toBlock)
    (hl : [.regs, .irq, .le, .servo, .wp, .se, .cal, .hq, .store, .ml, .out] ⊆ l₀ := by first | assumption | exact Area.sub ‹_›) : Frame l₀ b₀ t.toBlock := by
  unfold execOpAtan2 at e₀
  refine Frame.upd e₀ h₀ (fun _ _ => ?_)
  repeat' first
    | (with_reducible assumption)
    | (with_reducible exact Area.sub ‹_›)
    | (with_reducible exact Frame.refl)
    | (with_reducible apply Frame.ite)
    | (with_reducible refine Frame.foldl ?_ (fun _ _ _ => ?_))
    | (with_reducible apply frame_loopStep)
    | (fail_if_no_progress extract_lets)
    | intro _
    | (with_reducible split)

theorem frame_execOpDiv {l₀ : List Area} {b₀ : Block} {s t : State} {d : Fin 32} {a : Fin 32} {b' : Fin 32} (e₀ : execOpDiv d a b' s = .next t)
    (h₀ : Frame l₀ b₀ s.toBlock)
    (hl : [.regs, .irq, .le, .servo, .wp, .se, .cal, .hq, .store, .ml, .out] ⊆ l₀ := by first | assumption | exact Area.sub ‹_›) : Frame l₀ b₀ t.toBlock := by
  unfold execOpDiv at e₀
  refine Frame.upd e₀ h₀ (fun _ _ => ?_)
  repeat' first
    | (with_reducible assumption)
    | (with_reducible exact Area.sub ‹_›)
    | (with_reducible exact Frame.refl)
    | (with_reducible apply Frame.ite)
    | (with_reducible refine Frame.foldl ?_ (fun _ _ _ => ?_))
    | (with_reducible apply frame_loopStep)
    | (fail_if_no_progress extract_lets)
    | intro _
    | (with_reducible split)

theorem frame_execOpSqrt {l₀ : List Area} {b₀ : Block} {s t : State} {d : Fin 32} {a : Fin 32} (e₀ : execOpSqrt d a s = .next t)
    (h₀ : Frame l₀ b₀ s.toBlock)
    (hl : [.regs, .irq, .le, .servo, .wp, .se, .cal, .hq, .store, .ml, .out] ⊆ l₀ := by first | assumption | exact Area.sub ‹_›) : Frame l₀ b₀ t.toBlock := by
  unfold execOpSqrt at e₀
  refine Frame.upd e₀ h₀ (fun _ _ => ?_)
  repeat' first
    | (with_reducible assumption)
    | (with_reducible exact Area.sub ‹_›)
    | (with_reducible exact Frame.refl)
    | (with_reducible apply Frame.ite)
    | (with_reducible refine Frame.foldl ?_ (fun _ _ _ => ?_))
    | (with_reducible apply frame_loopStep)
    | (fail_if_no_progress extract_lets)
    | intro _
    | (with_reducible split)

theorem frame_execOpPgen {l₀ : List Area} {b₀ : Block} {s t : State} {a : Fin 9} (e₀ : execOpPgen a s = .next t)
    (h₀ : Frame l₀ b₀ s.toBlock)
    (hl : [.regs, .irq, .le, .servo, .wp, .se, .cal, .hq, .store, .ml, .out] ⊆ l₀ := by first | assumption | exact Area.sub ‹_›) : Frame l₀ b₀ t.toBlock := by
  unfold execOpPgen at e₀
  refine Frame.upd e₀ h₀ (fun _ _ => ?_)
  repeat' first
    | (with_reducible assumption)
    | (with_reducible exact Area.sub ‹_›)
    | (with_reducible exact Frame.refl)
    | (with_reducible apply Frame.ite)
    | (with_reducible refine Frame.foldl ?_ (fun _ _ _ => ?_))
    | (with_reducible apply frame_loopStep)
    | (fail_if_no_progress extract_lets)
    | intro _
    | (with_reducible split)

theorem frame_execOpSts {l₀ : List Area} {b₀ : Block} {s t : State} {a : Fin 32} {clear : Bool} {word : Fin 16} (e₀ : execOpSts a clear word s = .next t)
    (h₀ : Frame l₀ b₀ s.toBlock)
    (hl : [.regs, .irq, .le, .servo, .wp, .se, .cal, .hq, .store, .ml, .out] ⊆ l₀ := by first | assumption | exact Area.sub ‹_›) : Frame l₀ b₀ t.toBlock := by
  unfold execOpSts at e₀
  refine Frame.upd e₀ h₀ (fun _ _ => ?_)
  repeat' first
    | (with_reducible assumption)
    | (with_reducible exact Area.sub ‹_›)
    | (with_reducible exact Frame.refl)
    | (with_reducible apply Frame.ite)
    | (with_reducible refine Frame.foldl ?_ (fun _ _ _ => ?_))
    | (with_reducible apply frame_loopStep)
    | (fail_if_no_progress extract_lets)
    | intro _
    | (with_reducible split)

theorem frame_execOpEvt {l₀ : List Area} {b₀ : Block} {s t : State} {code : BitVec 8} (e₀ : execOpEvt code s = .next t)
    (h₀ : Frame l₀ b₀ s.toBlock)
    (hl : [.regs, .irq, .le, .servo, .wp, .se, .cal, .hq, .store, .ml, .out] ⊆ l₀ := by first | assumption | exact Area.sub ‹_›) : Frame l₀ b₀ t.toBlock := by
  unfold execOpEvt at e₀
  refine Frame.upd e₀ h₀ (fun _ _ => ?_)
  repeat' first
    | (with_reducible assumption)
    | (with_reducible exact Area.sub ‹_›)
    | (with_reducible exact Frame.refl)
    | (with_reducible apply Frame.ite)
    | (with_reducible refine Frame.foldl ?_ (fun _ _ _ => ?_))
    | (with_reducible apply frame_loopStep)
    | (fail_if_no_progress extract_lets)
    | intro _
    | (with_reducible split)

theorem frame_execOpAnd {l₀ : List Area} {b₀ : Block} {s t : State} {d : Fin 32} {a : Fin 32} {b' : Fin 32} (e₀ : execOpAnd d a b' s = .next t)
    (h₀ : Frame l₀ b₀ s.toBlock)
    (hl : [.regs, .irq, .le, .servo, .wp, .se, .cal, .hq, .store, .ml, .out] ⊆ l₀ := by first | assumption | exact Area.sub ‹_›) : Frame l₀ b₀ t.toBlock := by
  unfold execOpAnd at e₀
  refine Frame.upd e₀ h₀ (fun _ _ => ?_)
  repeat' first
    | (with_reducible assumption)
    | (with_reducible exact Area.sub ‹_›)
    | (with_reducible exact Frame.refl)
    | (with_reducible apply Frame.ite)
    | (with_reducible refine Frame.foldl ?_ (fun _ _ _ => ?_))
    | (with_reducible apply frame_loopStep)
    | (fail_if_no_progress extract_lets)
    | intro _
    | (with_reducible split)

theorem frame_execOpOr {l₀ : List Area} {b₀ : Block} {s t : State} {d : Fin 32} {a : Fin 32} {b' : Fin 32} (e₀ : execOpOr d a b' s = .next t)
    (h₀ : Frame l₀ b₀ s.toBlock)
    (hl : [.regs, .irq, .le, .servo, .wp, .se, .cal, .hq, .store, .ml, .out] ⊆ l₀ := by first | assumption | exact Area.sub ‹_›) : Frame l₀ b₀ t.toBlock := by
  unfold execOpOr at e₀
  refine Frame.upd e₀ h₀ (fun _ _ => ?_)
  repeat' first
    | (with_reducible assumption)
    | (with_reducible exact Area.sub ‹_›)
    | (with_reducible exact Frame.refl)
    | (with_reducible apply Frame.ite)
    | (with_reducible refine Frame.foldl ?_ (fun _ _ _ => ?_))
    | (with_reducible apply frame_loopStep)
    | (fail_if_no_progress extract_lets)
    | intro _
    | (with_reducible split)

theorem frame_execOpXor {l₀ : List Area} {b₀ : Block} {s t : State} {d : Fin 32} {a : Fin 32} {b' : Fin 32} (e₀ : execOpXor d a b' s = .next t)
    (h₀ : Frame l₀ b₀ s.toBlock)
    (hl : [.regs, .irq, .le, .servo, .wp, .se, .cal, .hq, .store, .ml, .out] ⊆ l₀ := by first | assumption | exact Area.sub ‹_›) : Frame l₀ b₀ t.toBlock := by
  unfold execOpXor at e₀
  refine Frame.upd e₀ h₀ (fun _ _ => ?_)
  repeat' first
    | (with_reducible assumption)
    | (with_reducible exact Area.sub ‹_›)
    | (with_reducible exact Frame.refl)
    | (with_reducible apply Frame.ite)
    | (with_reducible refine Frame.foldl ?_ (fun _ _ _ => ?_))
    | (with_reducible apply frame_loopStep)
    | (fail_if_no_progress extract_lets)
    | intro _
    | (with_reducible split)

theorem frame_execOpLds {l₀ : List Area} {b₀ : Block} {s t : State} {d : Fin 32} {word : Fin 16} (e₀ : execOpLds d word s = .next t)
    (h₀ : Frame l₀ b₀ s.toBlock)
    (hl : [.regs, .irq, .le, .servo, .wp, .se, .cal, .hq, .store, .ml, .out] ⊆ l₀ := by first | assumption | exact Area.sub ‹_›) : Frame l₀ b₀ t.toBlock := by
  unfold execOpLds at e₀
  refine Frame.upd e₀ h₀ (fun _ _ => ?_)
  repeat' first
    | (with_reducible assumption)
    | (with_reducible exact Area.sub ‹_›)
    | (with_reducible exact Frame.refl)
    | (with_reducible apply Frame.ite)
    | (with_reducible refine Frame.foldl ?_ (fun _ _ _ => ?_))
    | (with_reducible apply frame_loopStep)
    | (fail_if_no_progress extract_lets)
    | intro _
    | (with_reducible split)

/-! ### Machine/Sedge.lean -/

theorem frame_sendEcho {l₀ : List Area} {b₀ b : Block} (h₀ : Frame l₀ b₀ b) (s : Fin 4)
    (hl : [.se, .out] ⊆ l₀ := by first | assumption | exact Area.sub ‹_›) :
    Frame l₀ b₀ (b.sendEcho s) := by
  unfold Block.sendEcho
  repeat' first
    | (with_reducible assumption)
    | (with_reducible exact Area.sub ‹_›)
    | (with_reducible exact Frame.refl)
    | (with_reducible apply Frame.ite)
    | (with_reducible refine Frame.foldl ?_ (fun _ _ _ => ?_))
    | (with_reducible apply frame_emit)
    | (with_reducible apply frame_sedge)
    | (with_reducible apply frame_modSe)
    | (fail_if_no_progress extract_lets)
    | intro _
    | (with_reducible split)

theorem frame_bringUp {l₀ : List Area} {b₀ b : Block} (h₀ : Frame l₀ b₀ b) (s : Fin 4)
    (hl : [.regs, .se, .out] ⊆ l₀ := by first | assumption | exact Area.sub ‹_›) :
    Frame l₀ b₀ (b.bringUp s) := by
  unfold Block.bringUp
  repeat' first
    | (with_reducible assumption)
    | (with_reducible exact Area.sub ‹_›)
    | (with_reducible exact Frame.refl)
    | (with_reducible apply Frame.ite)
    | (with_reducible refine Frame.foldl ?_ (fun _ _ _ => ?_))
    | (with_reducible apply frame_wr)
    | (with_reducible apply frame_modSe)
    | (with_reducible apply frame_sendEcho)
    | (fail_if_no_progress extract_lets)
    | intro _
    | (with_reducible split)

theorem frame_seEnable {l₀ : List Area} {b₀ b : Block} (h₀ : Frame l₀ b₀ b) (s : Fin 4)
    (hl : [.regs, .se, .out] ⊆ l₀ := by first | assumption | exact Area.sub ‹_›) :
    Frame l₀ b₀ (b.seEnable s) := by
  unfold Block.seEnable
  repeat' first
    | (with_reducible assumption)
    | (with_reducible exact Area.sub ‹_›)
    | (with_reducible exact Frame.refl)
    | (with_reducible apply Frame.ite)
    | (with_reducible refine Frame.foldl ?_ (fun _ _ _ => ?_))
    | (with_reducible apply frame_setFld)
    | (with_reducible apply frame_bringUp)
    | (fail_if_no_progress extract_lets)
    | intro _
    | (with_reducible split)

theorem frame_execSeLinkEnable {l₀ : List Area} {b₀ : Block} {s t : State} {s' : Fin 4} (e₀ : execSeLinkEnable s' s = .next t)
    (h₀ : Frame l₀ b₀ s.toBlock)
    (hl : [.regs, .se, .out] ⊆ l₀ := by first | assumption | exact Area.sub ‹_›) : Frame l₀ b₀ t.toBlock := by
  unfold execSeLinkEnable at e₀
  refine Frame.upd e₀ h₀ (fun _ _ => ?_)
  repeat' first
    | (with_reducible assumption)
    | (with_reducible exact Area.sub ‹_›)
    | (with_reducible exact Frame.refl)
    | (with_reducible apply Frame.ite)
    | (with_reducible refine Frame.foldl ?_ (fun _ _ _ => ?_))
    | (with_reducible apply frame_onSurf)
    | (with_reducible apply frame_seEnable)
    | (fail_if_no_progress extract_lets)
    | intro _
    | (with_reducible split)

theorem frame_seRetrain {l₀ : List Area} {b₀ b : Block} (h₀ : Frame l₀ b₀ b) (s : Fin 4)
    (hl : [.regs, .se, .out] ⊆ l₀ := by first | assumption | exact Area.sub ‹_›) :
    Frame l₀ b₀ (b.seRetrain s) := by
  unfold Block.seRetrain
  repeat' first
    | (with_reducible assumption)
    | (with_reducible exact Area.sub ‹_›)
    | (with_reducible exact Frame.refl)
    | (with_reducible apply Frame.ite)
    | (with_reducible refine Frame.foldl ?_ (fun _ _ _ => ?_))
    | (with_reducible apply frame_bringUp)
    | (fail_if_no_progress extract_lets)
    | intro _
    | (with_reducible split)

theorem frame_execSeRetrain {l₀ : List Area} {b₀ : Block} {s t : State} {s' : Fin 4} (e₀ : execSeRetrain s' s = .next t)
    (h₀ : Frame l₀ b₀ s.toBlock)
    (hl : [.regs, .se, .out] ⊆ l₀ := by first | assumption | exact Area.sub ‹_›) : Frame l₀ b₀ t.toBlock := by
  unfold execSeRetrain at e₀
  refine Frame.upd e₀ h₀ (fun _ _ => ?_)
  repeat' first
    | (with_reducible assumption)
    | (with_reducible exact Area.sub ‹_›)
    | (with_reducible exact Frame.refl)
    | (with_reducible apply Frame.ite)
    | (with_reducible refine Frame.foldl ?_ (fun _ _ _ => ?_))
    | (with_reducible apply frame_onSurf)
    | (with_reducible apply frame_seRetrain)
    | (fail_if_no_progress extract_lets)
    | intro _
    | (with_reducible split)

theorem frame_execSeLinkUp {l₀ : List Area} {b₀ : Block} {s t : State} {s' : Fin 4} {latency : BitVec 16} {idMem : List Byte} (e₀ : execSeLinkUp s' latency idMem s = .next t)
    (h₀ : Frame l₀ b₀ s.toBlock)
    (hl : [.regs, .irq, .servo, .se, .ml, .out] ⊆ l₀ := by first | assumption | exact Area.sub ‹_›) : Frame l₀ b₀ t.toBlock := by
  unfold execSeLinkUp at e₀
  refine Frame.upd e₀ h₀ (fun _ _ => ?_)
  repeat' first
    | (with_reducible assumption)
    | (with_reducible exact Area.sub ‹_›)
    | (with_reducible exact Frame.refl)
    | (with_reducible apply Frame.ite)
    | (with_reducible refine Frame.foldl ?_ (fun _ _ _ => ?_))
    | (with_reducible apply frame_onSurf)
    | (with_reducible apply frame_modSe)
    | (with_reducible apply frame_setFld)
    | (with_reducible apply frame_setBit)
    | (with_reducible apply frame_sendPower)
    | (with_reducible apply frame_raiseSurf)
    | (with_reducible apply frame_modServo)
    | (fail_if_no_progress extract_lets)
    | intro _
    | (with_reducible split)

theorem frame_execSeBringupTimeout {l₀ : List Area} {b₀ : Block} {s t : State} {s' : Fin 4} (e₀ : execSeBringupTimeout s' s = .next t)
    (h₀ : Frame l₀ b₀ s.toBlock)
    (hl : [.regs, .irq, .servo, .se, .hq, .ml, .out] ⊆ l₀ := by first | assumption | exact Area.sub ‹_›) : Frame l₀ b₀ t.toBlock := by
  unfold execSeBringupTimeout at e₀
  refine Frame.upd e₀ h₀ (fun _ _ => ?_)
  repeat' first
    | (with_reducible assumption)
    | (with_reducible exact Area.sub ‹_›)
    | (with_reducible exact Frame.refl)
    | (with_reducible apply Frame.ite)
    | (with_reducible refine Frame.foldl ?_ (fun _ _ _ => ?_))
    | (with_reducible apply frame_onSurf)
    | (with_reducible apply frame_modSe)
    | (with_reducible apply frame_surfDown)
    | (with_reducible apply frame_raiseSurf)
    | (fail_if_no_progress extract_lets)
    | intro _
    | (with_reducible split)

theorem frame_execSeLinkDown {l₀ : List Area} {b₀ : Block} {s t : State} {s' : Fin 4} (e₀ : execSeLinkDown s' s = .next t)
    (h₀ : Frame l₀ b₀ s.toBlock)
    (hl : [.regs, .irq, .se, .ml, .out] ⊆ l₀ := by first | assumption | exact Area.sub ‹_›) : Frame l₀ b₀ t.toBlock := by
  unfold execSeLinkDown at e₀
  refine Frame.upd e₀ h₀ (fun _ _ => ?_)
  repeat' first
    | (with_reducible assumption)
    | (with_reducible exact Area.sub ‹_›)
    | (with_reducible exact Frame.refl)
    | (with_reducible apply Frame.ite)
    | (with_reducible refine Frame.foldl ?_ (fun _ _ _ => ?_))
    | (with_reducible apply frame_onSurf)
    | (with_reducible apply frame_wr)
    | (with_reducible apply frame_setFld)
    | (with_reducible apply frame_modSe)
    | (with_reducible apply frame_raiseSurf)
    | (fail_if_no_progress extract_lets)
    | intro _
    | (with_reducible split)

theorem frame_execSeRetrainFail {l₀ : List Area} {b₀ : Block} {s t : State} {s' : Fin 4} (e₀ : execSeRetrainFail s' s = .next t)
    (h₀ : Frame l₀ b₀ s.toBlock)
    (hl : [.servo, .se, .hq] ⊆ l₀ := by first | assumption | exact Area.sub ‹_›) : Frame l₀ b₀ t.toBlock := by
  unfold execSeRetrainFail at e₀
  refine Frame.upd e₀ h₀ (fun _ _ => ?_)
  repeat' first
    | (with_reducible assumption)
    | (with_reducible exact Area.sub ‹_›)
    | (with_reducible exact Frame.refl)
    | (with_reducible apply Frame.ite)
    | (with_reducible refine Frame.foldl ?_ (fun _ _ _ => ?_))
    | (with_reducible apply frame_onSurf)
    | (with_reducible apply frame_modSe)
    | (with_reducible apply frame_surfDown)
    | (fail_if_no_progress extract_lets)
    | intro _
    | (with_reducible split)

theorem frame_execPuFault {l₀ : List Area} {b₀ : Block} {s t : State} {s' : Fin 4} (e₀ : execPuFault s' s = .next t)
    (h₀ : Frame l₀ b₀ s.toBlock)
    (hl : [.regs, .irq, .le, .servo, .wp, .se, .cal, .hq, .store, .ml, .out] ⊆ l₀ := by first | assumption | exact Area.sub ‹_›) : Frame l₀ b₀ t.toBlock := by
  unfold execPuFault at e₀
  refine Frame.upd e₀ h₀ (fun _ _ => ?_)
  repeat' first
    | (with_reducible assumption)
    | (with_reducible exact Area.sub ‹_›)
    | (with_reducible exact Frame.refl)
    | (with_reducible apply Frame.ite)
    | (with_reducible refine Frame.foldl ?_ (fun _ _ _ => ?_))
    | (with_reducible apply frame_onSurf)
    | (with_reducible apply frame_setFld)
    | (with_reducible apply frame_applyHolds)
    | (with_reducible apply frame_safeState)
    | (with_reducible apply frame_raiseSurf)
    | (fail_if_no_progress extract_lets)
    | intro _
    | (with_reducible split)

theorem frame_execPuFaultRelease {l₀ : List Area} {b₀ : Block} {s t : State} {s' : Fin 4} (e₀ : execPuFaultRelease s' s = .next t)
    (h₀ : Frame l₀ b₀ s.toBlock)
    (hl : [.regs] ⊆ l₀ := by first | assumption | exact Area.sub ‹_›) : Frame l₀ b₀ t.toBlock := by
  unfold execPuFaultRelease at e₀
  refine Frame.upd e₀ h₀ (fun _ _ => ?_)
  repeat' first
    | (with_reducible assumption)
    | (with_reducible exact Area.sub ‹_›)
    | (with_reducible exact Frame.refl)
    | (with_reducible apply Frame.ite)
    | (with_reducible refine Frame.foldl ?_ (fun _ _ _ => ?_))
    | (with_reducible apply frame_onSurf)
    | (with_reducible apply frame_setFld)
    | (fail_if_no_progress extract_lets)
    | intro _
    | (with_reducible split)

theorem frame_seHeard {l₀ : List Area} {b₀ b : Block} (h₀ : Frame l₀ b₀ b) (s : Fin 4)
    (hl : [.se] ⊆ l₀ := by first | assumption | exact Area.sub ‹_›) :
    Frame l₀ b₀ (b.seHeard s) := by
  unfold Block.seHeard
  repeat' first
    | (with_reducible assumption)
    | (with_reducible exact Area.sub ‹_›)
    | (with_reducible exact Frame.refl)
    | (with_reducible apply Frame.ite)
    | (with_reducible refine Frame.foldl ?_ (fun _ _ _ => ?_))
    | (with_reducible apply frame_modSe)
    | (fail_if_no_progress extract_lets)
    | intro _
    | (with_reducible split)

theorem frame_monBeam {l₀ : List Area} {b₀ b : Block} (h₀ : Frame l₀ b₀ b) (s : Fin 4) (k : Nat) (v : Nat)
    (hl : [.regs, .irq, .servo, .wp, .se, .hq, .store, .ml, .out] ⊆ l₀ := by first | assumption | exact Area.sub ‹_›) :
    Frame l₀ b₀ (b.monBeam s k v) := by
  unfold Block.monBeam
  repeat' first
    | (with_reducible assumption)
    | (with_reducible exact Area.sub ‹_›)
    | (with_reducible exact Frame.refl)
    | (with_reducible apply Frame.ite)
    | (with_reducible refine Frame.foldl ?_ (fun _ _ _ => ?_))
    | (with_reducible apply frame_setFld)
    | (with_reducible apply frame_run)
    | (with_reducible apply frame_modSe)
    | (with_reducible apply frame_failBeam)
    | (with_reducible apply frame_raiseSurf)
    | (fail_if_no_progress extract_lets)
    | intro _
    | (with_reducible split)

theorem frame_execMonitor {l₀ : List Area} {b₀ : Block} {s t : State} {s' : Fin 4} {mon : Vector (BitVec 16) 16} (e₀ : execMonitor s' mon s = .next t)
    (h₀ : Frame l₀ b₀ s.toBlock)
    (hl : [.regs, .irq, .le, .servo, .wp, .se, .cal, .hq, .store, .ml, .out] ⊆ l₀ := by first | assumption | exact Area.sub ‹_›) : Frame l₀ b₀ t.toBlock := by
  unfold execMonitor at e₀
  refine Frame.upd e₀ h₀ (fun _ _ => ?_)
  repeat' first
    | (with_reducible assumption)
    | (with_reducible exact Area.sub ‹_›)
    | (with_reducible exact Frame.refl)
    | (with_reducible apply Frame.ite)
    | (with_reducible refine Frame.foldl ?_ (fun _ _ _ => ?_))
    | (with_reducible apply frame_onSurf)
    | (with_reducible apply frame_seHeard)
    | (with_reducible apply frame_monBeam)
    | (with_reducible apply frame_setFld)
    | (with_reducible apply frame_applyHolds)
    | (with_reducible apply frame_safeState)
    | (with_reducible apply frame_raiseSurf)
    | (fail_if_no_progress extract_lets)
    | intro _
    | (with_reducible split)

theorem frame_execStatus {l₀ : List Area} {b₀ : Block} {s t : State} {s' : Fin 4} {temp : BitVec 16} {fault : BitVec 16} {dsErr : BitVec 16} (e₀ : execStatus s' temp fault dsErr s = .next t)
    (h₀ : Frame l₀ b₀ s.toBlock)
    (hl : [.regs, .irq, .se, .ml, .out] ⊆ l₀ := by first | assumption | exact Area.sub ‹_›) : Frame l₀ b₀ t.toBlock := by
  unfold execStatus at e₀
  refine Frame.upd e₀ h₀ (fun _ _ => ?_)
  repeat' first
    | (with_reducible assumption)
    | (with_reducible exact Area.sub ‹_›)
    | (with_reducible exact Frame.refl)
    | (with_reducible apply Frame.ite)
    | (with_reducible refine Frame.foldl ?_ (fun _ _ _ => ?_))
    | (with_reducible apply frame_onSurf)
    | (with_reducible apply frame_seHeard)
    | (with_reducible apply frame_setFld)
    | (with_reducible apply frame_bump)
    | (with_reducible apply frame_raiseSurf)
    | (fail_if_no_progress extract_lets)
    | intro _
    | (with_reducible split)

theorem frame_mgmtDone {l₀ : List Area} {b₀ b : Block} (h₀ : Frame l₀ b₀ b) (s : Fin 4) (data : Word)
    (hl : [.regs, .se] ⊆ l₀ := by first | assumption | exact Area.sub ‹_›) :
    Frame l₀ b₀ (b.mgmtDone s data) := by
  unfold Block.mgmtDone
  repeat' first
    | (with_reducible assumption)
    | (with_reducible exact Area.sub ‹_›)
    | (with_reducible exact Frame.refl)
    | (with_reducible apply Frame.ite)
    | (with_reducible refine Frame.foldl ?_ (fun _ _ _ => ?_))
    | (with_reducible apply frame_wr)
    | (with_reducible apply frame_setFld)
    | (with_reducible apply frame_modSe)
    | (fail_if_no_progress extract_lets)
    | intro _
    | (with_reducible split)

theorem frame_execMgmtRsp {l₀ : List Area} {b₀ : Block} {s t : State} {s' : Fin 4} {data : BitVec 32} (e₀ : execMgmtRsp s' data s = .next t)
    (h₀ : Frame l₀ b₀ s.toBlock)
    (hl : [.regs, .se] ⊆ l₀ := by first | assumption | exact Area.sub ‹_›) : Frame l₀ b₀ t.toBlock := by
  unfold execMgmtRsp at e₀
  refine Frame.upd e₀ h₀ (fun _ _ => ?_)
  repeat' first
    | (with_reducible assumption)
    | (with_reducible exact Area.sub ‹_›)
    | (with_reducible exact Frame.refl)
    | (with_reducible apply Frame.ite)
    | (with_reducible refine Frame.foldl ?_ (fun _ _ _ => ?_))
    | (with_reducible apply frame_onSurf)
    | (with_reducible apply frame_seHeard)
    | (with_reducible apply frame_mgmtDone)
    | (fail_if_no_progress extract_lets)
    | intro _
    | (with_reducible split)

theorem frame_execMgmtAccessDone {l₀ : List Area} {b₀ : Block} {s t : State} {s' : Fin 4} {data : BitVec 32} (e₀ : execMgmtAccessDone s' data s = .next t)
    (h₀ : Frame l₀ b₀ s.toBlock)
    (hl : [.regs, .se] ⊆ l₀ := by first | assumption | exact Area.sub ‹_›) : Frame l₀ b₀ t.toBlock := by
  unfold execMgmtAccessDone at e₀
  refine Frame.upd e₀ h₀ (fun _ _ => ?_)
  repeat' first
    | (with_reducible assumption)
    | (with_reducible exact Area.sub ‹_›)
    | (with_reducible exact Frame.refl)
    | (with_reducible apply Frame.ite)
    | (with_reducible refine Frame.foldl ?_ (fun _ _ _ => ?_))
    | (with_reducible apply frame_onSurf)
    | (with_reducible apply frame_mgmtDone)
    | (fail_if_no_progress extract_lets)
    | intro _
    | (with_reducible split)

theorem frame_execEchoRsp {l₀ : List Area} {b₀ : Block} {s t : State} {s' : Fin 4} {token : BitVec 16} (e₀ : execEchoRsp s' token s = .next t)
    (h₀ : Frame l₀ b₀ s.toBlock)
    (hl : [.se, .out] ⊆ l₀ := by first | assumption | exact Area.sub ‹_›) : Frame l₀ b₀ t.toBlock := by
  unfold execEchoRsp at e₀
  refine Frame.upd e₀ h₀ (fun _ _ => ?_)
  repeat' first
    | (with_reducible assumption)
    | (with_reducible exact Area.sub ‹_›)
    | (with_reducible exact Frame.refl)
    | (with_reducible apply Frame.ite)
    | (with_reducible refine Frame.foldl ?_ (fun _ _ _ => ?_))
    | (with_reducible apply frame_onSurf)
    | (with_reducible apply frame_seHeard)
    | (with_reducible apply frame_modSe)
    | (with_reducible apply frame_sendEcho)
    | (fail_if_no_progress extract_lets)
    | intro _
    | (with_reducible split)

theorem frame_execNotwritten {l₀ : List Area} {b₀ : Block} {s t : State} {s' : Fin 4} {pass : BitVec 16} {slot : BitVec 8} {beam : Fin 16} (e₀ : execNotwritten s' pass slot beam s = .next t)
    (h₀ : Frame l₀ b₀ s.toBlock)
    (hl : [.regs, .irq, .servo, .wp, .se, .hq, .store, .ml, .out] ⊆ l₀ := by first | assumption | exact Area.sub ‹_›) : Frame l₀ b₀ t.toBlock := by
  unfold execNotwritten at e₀
  refine Frame.upd e₀ h₀ (fun _ _ => ?_)
  repeat' first
    | (with_reducible assumption)
    | (with_reducible exact Area.sub ‹_›)
    | (with_reducible exact Frame.refl)
    | (with_reducible apply Frame.ite)
    | (with_reducible refine Frame.foldl ?_ (fun _ _ _ => ?_))
    | (with_reducible apply frame_onSurf)
    | (with_reducible apply frame_seHeard)
    | (with_reducible apply frame_modWp)
    | (with_reducible apply frame_cellBad)
    | (fail_if_no_progress extract_lets)
    | intro _
    | (with_reducible split)

theorem frame_execUpstreamFrameDiscard {l₀ : List Area} {b₀ : Block} {s t : State} {s' : Fin 4} (e₀ : execUpstreamFrameDiscard s' s = .next t)
    (h₀ : Frame l₀ b₀ s.toBlock)
    (hl : [.regs] ⊆ l₀ := by first | assumption | exact Area.sub ‹_›) : Frame l₀ b₀ t.toBlock := by
  unfold execUpstreamFrameDiscard at e₀
  refine Frame.upd e₀ h₀ (fun _ _ => ?_)
  repeat' first
    | (with_reducible assumption)
    | (with_reducible exact Area.sub ‹_›)
    | (with_reducible exact Frame.refl)
    | (with_reducible apply Frame.ite)
    | (with_reducible refine Frame.foldl ?_ (fun _ _ _ => ?_))
    | (with_reducible apply frame_onSurf)
    | (with_reducible apply frame_bump)
    | (fail_if_no_progress extract_lets)
    | intro _
    | (with_reducible split)

theorem frame_execMgmtAccess {l₀ : List Area} {b₀ : Block} {s t : State} {s' : Fin 4} {addr : BitVec 16} {frame : Bool} {write : Bool} {data : BitVec 32} (e₀ : execMgmtAccess s' addr frame write data s = .next t)
    (h₀ : Frame l₀ b₀ s.toBlock)
    (hl : [.regs, .se, .out] ⊆ l₀ := by first | assumption | exact Area.sub ‹_›) : Frame l₀ b₀ t.toBlock := by
  unfold execMgmtAccess at e₀
  refine Frame.upd e₀ h₀ (fun _ _ => ?_)
  repeat' first
    | (with_reducible assumption)
    | (with_reducible exact Area.sub ‹_›)
    | (with_reducible exact Frame.refl)
    | (with_reducible apply Frame.ite)
    | (with_reducible refine Frame.foldl ?_ (fun _ _ _ => ?_))
    | (with_reducible apply frame_onSurf)
    | (with_reducible apply frame_setFld)
    | (with_reducible apply frame_setBit)
    | (with_reducible apply frame_wr)
    | (with_reducible apply frame_modSe)
    | (with_reducible apply frame_sedge)
    | (with_reducible apply frame_emit)
    | (fail_if_no_progress extract_lets)
    | intro _
    | (with_reducible split)

theorem frame_execSetBeamPower {l₀ : List Area} {b₀ : Block} {s t : State} {s' : Fin 4} {beam : Fin 16} {read : Bool} {peak : BitVec 16} {bias : BitVec 16} (e₀ : execSetBeamPower s' beam read peak bias s = .next t)
    (h₀ : Frame l₀ b₀ s.toBlock)
    (hl : [.regs, .irq, .se, .cal, .ml, .out] ⊆ l₀ := by first | assumption | exact Area.sub ‹_›) : Frame l₀ b₀ t.toBlock := by
  unfold execSetBeamPower at e₀
  refine Frame.upd e₀ h₀ (fun _ _ => ?_)
  repeat' first
    | (with_reducible assumption)
    | (with_reducible exact Area.sub ‹_›)
    | (with_reducible exact Frame.refl)
    | (with_reducible apply Frame.ite)
    | (with_reducible refine Frame.foldl ?_ (fun _ _ _ => ?_))
    | (with_reducible apply frame_onSurf)
    | (with_reducible apply frame_setFld)
    | (with_reducible apply frame_modSe)
    | (with_reducible apply frame_calPowerWrite)
    | (fail_if_no_progress extract_lets)
    | intro _
    | (with_reducible split)

theorem frame_execLatchRelease {l₀ : List Area} {b₀ : Block} {s t : State} {s' : Fin 4} (e₀ : execLatchRelease s' s = .next t)
    (h₀ : Frame l₀ b₀ s.toBlock)
    (hl : [.regs] ⊆ l₀ := by first | assumption | exact Area.sub ‹_›) : Frame l₀ b₀ t.toBlock := by
  unfold execLatchRelease at e₀
  refine Frame.upd e₀ h₀ (fun _ _ => ?_)
  repeat' first
    | (with_reducible assumption)
    | (with_reducible exact Area.sub ‹_›)
    | (with_reducible exact Frame.refl)
    | (with_reducible apply Frame.ite)
    | (with_reducible refine Frame.foldl ?_ (fun _ _ _ => ?_))
    | (with_reducible apply frame_onSurf)
    | (with_reducible apply frame_setFld)
    | (fail_if_no_progress extract_lets)
    | intro _
    | (with_reducible split)

/-! ### Machine/ReadChan.lean -/

theorem frame_modBeam {l₀ : List Area} {b₀ b : Block} (h₀ : Frame l₀ b₀ b) (n : Fin 64) (f : Beam → Beam)
    (hl : [.rc] ⊆ l₀ := by first | assumption | exact Area.sub ‹_›) :
    Frame l₀ b₀ (b.modBeam n f) := by
  unfold Block.modBeam
  repeat' first
    | (with_reducible assumption)
    | (with_reducible exact Area.sub ‹_›)
    | (with_reducible exact Frame.refl)
    | (with_reducible apply Frame.ite)
    | (with_reducible refine Frame.foldl ?_ (fun _ _ _ => ?_))
    | (with_reducible apply frame_modRc)
    | (fail_if_no_progress extract_lets)
    | intro _
    | (with_reducible split)

theorem frame_giveJob {l₀ : List Area} {b₀ b : Block} (h₀ : Frame l₀ b₀ b) (e : Nat) (j : EngJob)
    (hl : [.wp, .rc] ⊆ l₀ := by first | assumption | exact Area.sub ‹_›) :
    Frame l₀ b₀ (b.giveJob e j) := by
  unfold Block.giveJob
  repeat' first
    | (with_reducible assumption)
    | (with_reducible exact Area.sub ‹_›)
    | (with_reducible exact Frame.refl)
    | (with_reducible apply Frame.ite)
    | (with_reducible refine Frame.foldl ?_ (fun _ _ _ => ?_))
    | (with_reducible apply frame_modRc)
    | (with_reducible apply frame_modWp)
    | (fail_if_no_progress extract_lets)
    | intro _
    | (with_reducible split)

theorem frame_rcStat {l₀ : List Area} {b₀ b : Block} (h₀ : Frame l₀ b₀ b)
    (hl : [.regs] ⊆ l₀ := by first | assumption | exact Area.sub ‹_›) :
    Frame l₀ b₀ (b.rcStat) := by
  unfold Block.rcStat
  repeat' first
    | (with_reducible assumption)
    | (with_reducible exact Area.sub ‹_›)
    | (with_reducible exact Frame.refl)
    | (with_reducible apply Frame.ite)
    | (with_reducible refine Frame.foldl ?_ (fun _ _ _ => ?_))
    | (with_reducible apply frame_setFld)
    | (fail_if_no_progress extract_lets)
    | intro _
    | (with_reducible split)

theorem frame_assign {l₀ : List Area} {b₀ b : Block} (h₀ : Frame l₀ b₀ b)
    (hl : [.regs, .wp, .rc] ⊆ l₀ := by first | assumption | exact Area.sub ‹_›) :
    Frame l₀ b₀ (b.assign) := by
  unfold Block.assign
  repeat' first
    | (with_reducible assumption)
    | (with_reducible exact Area.sub ‹_›)
    | (with_reducible exact Frame.refl)
    | (with_reducible apply Frame.ite)
    | (with_reducible refine Frame.foldl ?_ (fun _ _ _ => ?_))
    | (with_reducible apply frame_giveJob)
    | (with_reducible apply frame_rcStat)
    | (fail_if_no_progress extract_lets)
    | intro _
    | (with_reducible split)

theorem frame_queueJob {l₀ : List Area} {b₀ b : Block} (h₀ : Frame l₀ b₀ b) (kind : Nat) (surf : Nat) (band : Nat) (swath : Nat) (stripe : Nat) (beam : Nat) (shift : Nat)
    (hl : [.rc] ⊆ l₀ := by first | assumption | exact Area.sub ‹_›) :
    Frame l₀ b₀ (b.queueJob kind surf band swath stripe beam shift) := by
  unfold Block.queueJob
  repeat' first
    | (with_reducible assumption)
    | (with_reducible exact Area.sub ‹_›)
    | (with_reducible exact Frame.refl)
    | (with_reducible apply Frame.ite)
    | (with_reducible refine Frame.foldl ?_ (fun _ _ _ => ?_))
    | (with_reducible apply frame_modRc)
    | (fail_if_no_progress extract_lets)
    | intro _
    | (with_reducible split)

theorem frame_ensureStripe {l₀ : List Area} {b₀ b : Block} (h₀ : Frame l₀ b₀ b) (s : Fin 4) (band : Nat) (swath : Nat) (stripe : Nat)
    (hl : [.rc] ⊆ l₀ := by first | assumption | exact Area.sub ‹_›) :
    Frame l₀ b₀ (b.ensureStripe s band swath stripe) := by
  unfold Block.ensureStripe
  repeat' first
    | (with_reducible assumption)
    | (with_reducible exact Area.sub ‹_›)
    | (with_reducible exact Frame.refl)
    | (with_reducible apply Frame.ite)
    | (with_reducible refine Frame.foldl ?_ (fun _ _ _ => ?_))
    | (with_reducible apply frame_modRc)
    | (fail_if_no_progress extract_lets)
    | intro _
    | (with_reducible split)

theorem frame_modRd {l₀ : List Area} {b₀ b : Block} (h₀ : Frame l₀ b₀ b) (surf : Nat) (band : Nat) (swath : Nat) (stripe : Nat) (f : RdStripe → RdStripe)
    (hl : [.rc] ⊆ l₀ := by first | assumption | exact Area.sub ‹_›) :
    Frame l₀ b₀ (b.modRd surf band swath stripe f) := by
  unfold Block.modRd
  repeat' first
    | (with_reducible assumption)
    | (with_reducible exact Area.sub ‹_›)
    | (with_reducible exact Frame.refl)
    | (with_reducible apply Frame.ite)
    | (with_reducible refine Frame.foldl ?_ (fun _ _ _ => ?_))
    | (with_reducible apply frame_modRc)
    | (fail_if_no_progress extract_lets)
    | intro _
    | (with_reducible split)

theorem frame_unrecover {l₀ : List Area} {b₀ b : Block} (h₀ : Frame l₀ b₀ b) (t : RdStripe) (k : Nat)
    (hl : [.regs, .irq, .rc, .ml, .out] ⊆ l₀ := by first | assumption | exact Area.sub ‹_›) :
    Frame l₀ b₀ (b.unrecover t k) := by
  unfold Block.unrecover
  repeat' first
    | (with_reducible assumption)
    | (with_reducible exact Area.sub ‹_›)
    | (with_reducible exact Frame.refl)
    | (with_reducible apply Frame.ite)
    | (with_reducible refine Frame.foldl ?_ (fun _ _ _ => ?_))
    | (with_reducible apply frame_modRd)
    | (with_reducible apply frame_modRc)
    | (with_reducible apply frame_bump)
    | (with_reducible apply frame_raiseSurf)
    | (fail_if_no_progress extract_lets)
    | intro _
    | (with_reducible split)

theorem frame_climb {l₀ : List Area} {b₀ b : Block} (h₀ : Frame l₀ b₀ b) (t : RdStripe) (k : Nat) (step : Nat)
    (hl : [.regs, .irq, .rc, .ml, .out] ⊆ l₀ := by first | assumption | exact Area.sub ‹_›) :
    Frame l₀ b₀ (b.climb t k step) := by
  unfold Block.climb
  repeat' first
    | (with_reducible assumption)
    | (with_reducible exact Area.sub ‹_›)
    | (with_reducible exact Frame.refl)
    | (with_reducible apply Frame.ite)
    | (with_reducible refine Frame.foldl ?_ (fun _ _ _ => ?_))
    | (with_reducible apply frame_modRd)
    | (with_reducible apply frame_queueJob)
    | (with_reducible apply frame_unrecover)
    | (fail_if_no_progress extract_lets)
    | intro _
    | (with_reducible split)

theorem frame_bumpBeam {l₀ : List Area} {b₀ b : Block} (h₀ : Frame l₀ b₀ b) (n : Fin 64) (f : Fld) (k : Nat)
    (hl : [.regs, .irq, .ml, .out] ⊆ l₀ := by first | assumption | exact Area.sub ‹_›) :
    Frame l₀ b₀ (b.bumpBeam n f k) := by
  unfold Block.bumpBeam
  repeat' first
    | (with_reducible assumption)
    | (with_reducible exact Area.sub ‹_›)
    | (with_reducible exact Frame.refl)
    | (with_reducible apply Frame.ite)
    | (with_reducible refine Frame.foldl ?_ (fun _ _ _ => ?_))
    | (with_reducible apply frame_bump)
    | (with_reducible apply frame_raise)
    | (fail_if_no_progress extract_lets)
    | intro _
    | (with_reducible split)

theorem frame_windowEvent {l₀ : List Area} {b₀ b : Block} (h₀ : Frame l₀ b₀ b) (n : Fin 64) (i : Fin 4) (k : Nat)
    (hl : [.regs, .irq, .rc, .ml, .out] ⊆ l₀ := by first | assumption | exact Area.sub ‹_›) :
    Frame l₀ b₀ (b.windowEvent n i k) := by
  unfold Block.windowEvent
  repeat' first
    | (with_reducible assumption)
    | (with_reducible exact Area.sub ‹_›)
    | (with_reducible exact Frame.refl)
    | (with_reducible apply Frame.ite)
    | (with_reducible refine Frame.foldl ?_ (fun _ _ _ => ?_))
    | (with_reducible apply frame_modBeam)
    | (with_reducible apply frame_raise)
    | (fail_if_no_progress extract_lets)
    | intro _
    | (with_reducible split)

theorem frame_windowCell {l₀ : List Area} {b₀ b : Block} (h₀ : Frame l₀ b₀ b) (n : Fin 64)
    (hl : [.rc] ⊆ l₀ := by first | assumption | exact Area.sub ‹_›) :
    Frame l₀ b₀ (b.windowCell n) := by
  unfold Block.windowCell
  repeat' first
    | (with_reducible assumption)
    | (with_reducible exact Area.sub ‹_›)
    | (with_reducible exact Frame.refl)
    | (with_reducible apply Frame.ite)
    | (with_reducible refine Frame.foldl ?_ (fun _ _ _ => ?_))
    | (with_reducible apply frame_modBeam)
    | (fail_if_no_progress extract_lets)
    | intro _
    | (with_reducible split)

theorem frame_figure {l₀ : List Area} {b₀ b : Block} (h₀ : Frame l₀ b₀ b) (f : Fld) (v : Nat) (thr : Nat) (src : Nat)
    (hl : [.regs, .irq, .ml, .out] ⊆ l₀ := by first | assumption | exact Area.sub ‹_›) :
    Frame l₀ b₀ (b.figure f v thr src) := by
  unfold Block.figure
  repeat' first
    | (with_reducible assumption)
    | (with_reducible exact Area.sub ‹_›)
    | (with_reducible exact Frame.refl)
    | (with_reducible apply Frame.ite)
    | (with_reducible refine Frame.foldl ?_ (fun _ _ _ => ?_))
    | (with_reducible apply frame_setFld)
    | (with_reducible apply frame_raise)
    | (fail_if_no_progress extract_lets)
    | intro _
    | (with_reducible split)

theorem frame_beamPreset {l₀ : List Area} {b₀ b : Block} (h₀ : Frame l₀ b₀ b) (n : Fin 64)
    (hl : [.regs, .rc] ⊆ l₀ := by first | assumption | exact Area.sub ‹_›) :
    Frame l₀ b₀ (b.beamPreset n) := by
  unfold Block.beamPreset
  repeat' first
    | (with_reducible assumption)
    | (with_reducible exact Area.sub ‹_›)
    | (with_reducible exact Frame.refl)
    | (with_reducible apply Frame.ite)
    | (with_reducible refine Frame.foldl ?_ (fun _ _ _ => ?_))
    | (with_reducible apply frame_setFld)
    | (with_reducible apply frame_modBeam)
    | (fail_if_no_progress extract_lets)
    | intro _
    | (with_reducible split)

theorem frame_cellStored {l₀ : List Area} {b₀ b : Block} (h₀ : Frame l₀ b₀ b) (n : Fin 64) (o : CellObs) (verify : Bool) (pre : Bool) (fly : Bool)
    (hl : [.regs, .irq, .servo, .wp, .rc, .hq, .store, .ml, .out] ⊆ l₀ := by first | assumption | exact Area.sub ‹_›) :
    Frame l₀ b₀ (b.cellStored n o verify pre fly) := by
  unfold Block.cellStored
  repeat' first
    | (with_reducible assumption)
    | (with_reducible exact Area.sub ‹_›)
    | (with_reducible exact Frame.refl)
    | (with_reducible apply Frame.ite)
    | (with_reducible refine Frame.foldl ?_ (fun _ _ _ => ?_))
    | (with_reducible apply frame_modWp)
    | (with_reducible apply frame_cellBad)
    | (with_reducible apply frame_ensureStripe)
    | (with_reducible apply frame_modRd)
    | (with_reducible apply frame_queueJob)
    | (fail_if_no_progress extract_lets)
    | intro _
    | (with_reducible split)

theorem frame_execCellRead {l₀ : List Area} {b₀ : Block} {s t : State} {n : Fin 64} {o : CellObs} (e₀ : execCellRead n o s = .next t)
    (h₀ : Frame l₀ b₀ s.toBlock)
    (hl : [.regs, .irq, .servo, .wp, .cal, .rc, .hq, .store, .ml, .out] ⊆ l₀ := by first | assumption | exact Area.sub ‹_›) : Frame l₀ b₀ t.toBlock := by
  unfold execCellRead at e₀
  refine Frame.upd e₀ h₀ (fun _ _ => ?_)
  repeat' first
    | (with_reducible assumption)
    | (with_reducible exact Area.sub ‹_›)
    | (with_reducible exact Frame.refl)
    | (with_reducible apply Frame.ite)
    | (with_reducible refine Frame.foldl ?_ (fun _ _ _ => ?_))
    | (with_reducible apply frame_onBeam)
    | (with_reducible apply frame_cellStored)
    | (with_reducible apply frame_beamPreset)
    | (with_reducible apply frame_setBit)
    | (with_reducible apply frame_bumpBeam)
    | (with_reducible apply frame_raise)
    | (with_reducible apply frame_windowEvent)
    | (with_reducible apply frame_bump)
    | (with_reducible apply frame_windowCell)
    | (with_reducible apply frame_setFld)
    | (with_reducible apply frame_modBeam)
    | (with_reducible apply frame_figure)
    | (with_reducible apply frame_modCal)
    | (with_reducible apply frame_raiseSurf)
    | (with_reducible apply frame_assign)
    | (fail_if_no_progress extract_lets)
    | intro _
    | (with_reducible split)

theorem frame_execBmRestart {l₀ : List Area} {b₀ : Block} {s t : State} {n : Fin 64} (e₀ : execBmRestart n s = .next t)
    (h₀ : Frame l₀ b₀ s.toBlock)
    (hl : [.rc] ⊆ l₀ := by first | assumption | exact Area.sub ‹_›) : Frame l₀ b₀ t.toBlock := by
  unfold execBmRestart at e₀
  refine Frame.upd e₀ h₀ (fun _ _ => ?_)
  repeat' first
    | (with_reducible assumption)
    | (with_reducible exact Area.sub ‹_›)
    | (with_reducible exact Frame.refl)
    | (with_reducible apply Frame.ite)
    | (with_reducible refine Frame.foldl ?_ (fun _ _ _ => ?_))
    | (with_reducible apply frame_onBeam)
    | (with_reducible apply frame_modBeam)
    | (fail_if_no_progress extract_lets)
    | intro _
    | (with_reducible split)

theorem frame_rcDone {l₀ : List Area} {b₀ b : Block} (h₀ : Frame l₀ b₀ b) (j : RcJob) (r : DecodeRes)
    (hl : [.regs, .irq, .rc, .ml, .out] ⊆ l₀ := by first | assumption | exact Area.sub ‹_›) :
    Frame l₀ b₀ (b.rcDone j r) := by
  unfold Block.rcDone
  repeat' first
    | (with_reducible assumption)
    | (with_reducible exact Area.sub ‹_›)
    | (with_reducible exact Frame.refl)
    | (with_reducible apply Frame.ite)
    | (with_reducible refine Frame.foldl ?_ (fun _ _ _ => ?_))
    | (with_reducible apply frame_modRd)
    | (with_reducible apply frame_bump)
    | (with_reducible apply frame_climb)
    | (with_reducible apply frame_queueJob)
    | (fail_if_no_progress extract_lets)
    | intro _
    | (with_reducible split)

theorem frame_execDecodeJobDone {l₀ : List Area} {b₀ : Block} {s t : State} {e : Fin 20} {r : DecodeRes} (e₀ : execDecodeJobDone e r s = .next t)
    (h₀ : Frame l₀ b₀ s.toBlock)
    (hl : [.regs, .irq, .wp, .rc, .ml, .out] ⊆ l₀ := by first | assumption | exact Area.sub ‹_›) : Frame l₀ b₀ t.toBlock := by
  unfold execDecodeJobDone at e₀
  refine Frame.upd e₀ h₀ (fun _ _ => ?_)
  repeat' first
    | (with_reducible assumption)
    | (with_reducible exact Area.sub ‹_›)
    | (with_reducible exact Frame.refl)
    | (with_reducible apply Frame.ite)
    | (with_reducible refine Frame.foldl ?_ (fun _ _ _ => ?_))
    | (with_reducible apply frame_modRc)
    | (with_reducible apply frame_bump)
    | (with_reducible apply frame_corrected)
    | (with_reducible apply frame_modBeam)
    | (with_reducible apply frame_figure)
    | (with_reducible apply frame_setFld)
    | (with_reducible apply frame_rcDone)
    | (with_reducible apply frame_assign)
    | (fail_if_no_progress extract_lets)
    | intro _
    | (with_reducible split)

theorem frame_rebuilt {l₀ : List Area} {b₀ b : Block} (h₀ : Frame l₀ b₀ b) (t : RdStripe) (any : Bool)
    (hl : [.regs, .rc] ⊆ l₀ := by first | assumption | exact Area.sub ‹_›) :
    Frame l₀ b₀ (b.rebuilt t any) := by
  unfold Block.rebuilt
  repeat' first
    | (with_reducible assumption)
    | (with_reducible exact Area.sub ‹_›)
    | (with_reducible exact Frame.refl)
    | (with_reducible apply Frame.ite)
    | (with_reducible refine Frame.foldl ?_ (fun _ _ _ => ?_))
    | (with_reducible apply frame_bump)
    | (with_reducible apply frame_modRc)
    | (fail_if_no_progress extract_lets)
    | intro _
    | (with_reducible split)

theorem frame_execStripeRebuild {l₀ : List Area} {b₀ : Block} {s t : State} {s' : Fin 4} {band : BitVec 16} {swath : BitVec 16} {stripe : BitVec 8} {out : OuterRes} (e₀ : execStripeRebuild s' band swath stripe out s = .next t)
    (h₀ : Frame l₀ b₀ s.toBlock)
    (hl : [.regs, .irq, .wp, .rc, .ml, .out] ⊆ l₀ := by first | assumption | exact Area.sub ‹_›) : Frame l₀ b₀ t.toBlock := by
  unfold execStripeRebuild at e₀
  refine Frame.upd e₀ h₀ (fun _ _ => ?_)
  repeat' first
    | (with_reducible assumption)
    | (with_reducible exact Area.sub ‹_›)
    | (with_reducible exact Frame.refl)
    | (with_reducible apply Frame.ite)
    | (with_reducible refine Frame.foldl ?_ (fun _ _ _ => ?_))
    | (with_reducible apply frame_unrecover)
    | (with_reducible apply frame_climb)
    | (with_reducible apply frame_assign)
    | (with_reducible apply frame_rebuilt)
    | (fail_if_no_progress extract_lets)
    | intro _
    | (with_reducible split)

theorem frame_reReadPower {l₀ : List Area} {b₀ b : Block} (h₀ : Frame l₀ b₀ b) (s : Fin 4) (pass : Nat)
    (hl : [.out] ⊆ l₀ := by first | assumption | exact Area.sub ‹_›) :
    Frame l₀ b₀ (b.reReadPower s pass) := by
  unfold Block.reReadPower
  repeat' first
    | (with_reducible assumption)
    | (with_reducible exact Area.sub ‹_›)
    | (with_reducible exact Frame.refl)
    | (with_reducible apply Frame.ite)
    | (with_reducible refine Frame.foldl ?_ (fun _ _ _ => ?_))
    | (with_reducible apply frame_sedge)
    | (fail_if_no_progress extract_lets)
    | intro _
    | (with_reducible split)

theorem frame_execReReadPass {l₀ : List Area} {b₀ : Block} {s t : State} {s' : Fin 4} (e₀ : execReReadPass s' s = .next t)
    (h₀ : Frame l₀ b₀ s.toBlock)
    (hl : [.se, .rc, .out] ⊆ l₀ := by first | assumption | exact Area.sub ‹_›) : Frame l₀ b₀ t.toBlock := by
  unfold execReReadPass at e₀
  refine Frame.upd e₀ h₀ (fun _ _ => ?_)
  repeat' first
    | (with_reducible assumption)
    | (with_reducible exact Area.sub ‹_›)
    | (with_reducible exact Frame.refl)
    | (with_reducible apply Frame.ite)
    | (with_reducible refine Frame.foldl ?_ (fun _ _ _ => ?_))
    | (with_reducible apply frame_onSurf)
    | (with_reducible apply frame_reReadPower)
    | (with_reducible apply frame_modSe)
    | (with_reducible apply frame_modRc)
    | (fail_if_no_progress extract_lets)
    | intro _
    | (with_reducible split)

theorem frame_execEngineParityFault {l₀ : List Area} {b₀ : Block} {s t : State} {e : Fin 20} (e₀ : execEngineParityFault e s = .next t)
    (h₀ : Frame l₀ b₀ s.toBlock)
    (hl : [.regs, .irq, .wp, .rc, .ml, .out] ⊆ l₀ := by first | assumption | exact Area.sub ‹_›) : Frame l₀ b₀ t.toBlock := by
  unfold execEngineParityFault at e₀
  refine Frame.upd e₀ h₀ (fun _ _ => ?_)
  repeat' first
    | (with_reducible assumption)
    | (with_reducible exact Area.sub ‹_›)
    | (with_reducible exact Frame.refl)
    | (with_reducible apply Frame.ite)
    | (with_reducible refine Frame.foldl ?_ (fun _ _ _ => ?_))
    | (with_reducible apply frame_putBit)
    | (with_reducible apply frame_modRc)
    | (with_reducible apply frame_modWp)
    | (with_reducible apply frame_raise)
    | (with_reducible apply frame_assign)
    | (fail_if_no_progress extract_lets)
    | intro _
    | (with_reducible split)

theorem frame_execEngineRestore {l₀ : List Area} {b₀ : Block} {s t : State} {e : Fin 20} (e₀ : execEngineRestore e s = .next t)
    (h₀ : Frame l₀ b₀ s.toBlock)
    (hl : [.regs, .wp, .rc] ⊆ l₀ := by first | assumption | exact Area.sub ‹_›) : Frame l₀ b₀ t.toBlock := by
  unfold execEngineRestore at e₀
  refine Frame.upd e₀ h₀ (fun _ _ => ?_)
  repeat' first
    | (with_reducible assumption)
    | (with_reducible exact Area.sub ‹_›)
    | (with_reducible exact Frame.refl)
    | (with_reducible apply Frame.ite)
    | (with_reducible refine Frame.foldl ?_ (fun _ _ _ => ?_))
    | (with_reducible apply frame_putBit)
    | (with_reducible apply frame_assign)
    | (fail_if_no_progress extract_lets)
    | intro _
    | (with_reducible split)

theorem frame_splitWrite {l₀ : List Area} {b₀ b : Block} (h₀ : Frame l₀ b₀ b) (vmin : Nat) (rmin : Nat) (retry : Nat)
    (hl : [.regs, .irq, .ml, .out] ⊆ l₀ := by first | assumption | exact Area.sub ‹_›) :
    Frame l₀ b₀ (b.splitWrite vmin rmin retry) := by
  unfold Block.splitWrite
  repeat' first
    | (with_reducible assumption)
    | (with_reducible exact Area.sub ‹_›)
    | (with_reducible exact Frame.refl)
    | (with_reducible apply Frame.ite)
    | (with_reducible refine Frame.foldl ?_ (fun _ _ _ => ?_))
    | (with_reducible apply frame_setFld)
    | (with_reducible apply frame_raise)
    | (fail_if_no_progress extract_lets)
    | intro _
    | (with_reducible split)

theorem frame_execRcSplitWrite {l₀ : List Area} {b₀ : Block} {s t : State} {vmin : BitVec 5} {rmin : BitVec 5} {retry : BitVec 5} (e₀ : execRcSplitWrite vmin rmin retry s = .next t)
    (h₀ : Frame l₀ b₀ s.toBlock)
    (hl : [.regs, .irq, .wp, .rc, .ml, .out] ⊆ l₀ := by first | assumption | exact Area.sub ‹_›) : Frame l₀ b₀ t.toBlock := by
  unfold execRcSplitWrite at e₀
  refine Frame.upd e₀ h₀ (fun _ _ => ?_)
  repeat' first
    | (with_reducible assumption)
    | (with_reducible exact Area.sub ‹_›)
    | (with_reducible exact Frame.refl)
    | (with_reducible apply Frame.ite)
    | (with_reducible refine Frame.foldl ?_ (fun _ _ _ => ?_))
    | (with_reducible apply frame_splitWrite)
    | (with_reducible apply frame_assign)
    | (fail_if_no_progress extract_lets)
    | intro _
    | (with_reducible split)

theorem frame_readThrottle {l₀ : List Area} {b₀ b : Block} (h₀ : Frame l₀ b₀ b) (s : Fin 4)
    (hl : [.regs, .irq, .ml, .out] ⊆ l₀ := by first | assumption | exact Area.sub ‹_›) :
    Frame l₀ b₀ (b.readThrottle s) := by
  unfold Block.readThrottle
  repeat' first
    | (with_reducible assumption)
    | (with_reducible exact Area.sub ‹_›)
    | (with_reducible exact Frame.refl)
    | (with_reducible apply Frame.ite)
    | (with_reducible refine Frame.foldl ?_ (fun _ _ _ => ?_))
    | (with_reducible apply frame_putBit)
    | (with_reducible apply frame_raiseSurf)
    | (fail_if_no_progress extract_lets)
    | intro _
    | (with_reducible split)

theorem frame_execAngleReference {l₀ : List Area} {b₀ : Block} {s t : State} {s' : Fin 4} (e₀ : execAngleReference s' s = .next t)
    (h₀ : Frame l₀ b₀ s.toBlock)
    (hl : [.regs, .irq, .servo, .wp, .se, .hq, .store, .ml, .out] ⊆ l₀ := by first | assumption | exact Area.sub ‹_›) : Frame l₀ b₀ t.toBlock := by
  unfold execAngleReference at e₀
  refine Frame.upd e₀ h₀ (fun _ _ => ?_)
  repeat' first
    | (with_reducible assumption)
    | (with_reducible exact Area.sub ‹_›)
    | (with_reducible exact Frame.refl)
    | (with_reducible apply Frame.ite)
    | (with_reducible refine Frame.foldl ?_ (fun _ _ _ => ?_))
    | (with_reducible apply frame_onSurf)
    | (with_reducible apply frame_sendPower)
    | (with_reducible apply frame_modSe)
    | (with_reducible apply frame_endPass)
    | (with_reducible apply frame_startPass)
    | (with_reducible apply frame_verifyThrottle)
    | (with_reducible apply frame_readThrottle)
    | (with_reducible apply frame_selectSpot)
    | (fail_if_no_progress extract_lets)
    | intro _
    | (with_reducible split)

/-! ### Machine/RegCmds.lean -/

theorem frame_run {l₀ : List Area} {b₀ b : Block} (h₀ : Frame l₀ b₀ b) (f : State → Host.Outcome State Fault Refusal)
    (hf : ∀ s t, f s = .next t → Frame l₀ b₀ s.toBlock → Frame l₀ b₀ t.toBlock)
    (hl : [] ⊆ l₀ := by first | assumption | exact Area.sub ‹_›) : Frame l₀ b₀ (b.run f) := by
  unfold Block.run
  split
  · rename_i t e; exact hf _ _ e h₀
  · exact h₀

theorem frame_decErr {l₀ : List Area} {b₀ b : Block} (h₀ : Frame l₀ b₀ b) (m : Master) (kind : Nat) (o : Nat)
    (hl : [.regs] ⊆ l₀ := by first | assumption | exact Area.sub ‹_›) :
    Frame l₀ b₀ (b.decErr m kind o) := by
  unfold Block.decErr
  repeat' first
    | (with_reducible assumption)
    | (with_reducible exact Area.sub ‹_›)
    | (with_reducible exact Frame.refl)
    | (with_reducible apply Frame.ite)
    | (with_reducible refine Frame.foldl ?_ (fun _ _ _ => ?_))
    | (with_reducible apply frame_wr)
    | (fail_if_no_progress extract_lets)
    | intro _
    | (with_reducible split)

theorem frame_clearRc {l₀ : List Area} {b₀ b : Block} (h₀ : Frame l₀ b₀ b) (r : RegRow) (o : Nat)
    (hl : [.regs, .cal] ⊆ l₀ := by first | assumption | exact Area.sub ‹_›) :
    Frame l₀ b₀ (b.clearRc r o) := by
  unfold Block.clearRc
  repeat' first
    | (with_reducible assumption)
    | (with_reducible exact Area.sub ‹_›)
    | (with_reducible exact Frame.refl)
    | (with_reducible apply Frame.ite)
    | (with_reducible refine Frame.foldl ?_ (fun _ _ _ => ?_))
    | (with_reducible apply frame_telCleared)
    | (with_reducible apply frame_wr)
    | (fail_if_no_progress extract_lets)
    | intro _
    | (with_reducible split)

theorem frame_tickSnapshot {l₀ : List Area} {b₀ b : Block} (h₀ : Frame l₀ b₀ b) (m : Master)
    (hl : [.snap] ⊆ l₀ := by first | assumption | exact Area.sub ‹_›) :
    Frame l₀ b₀ (b.tickSnapshot m) := by
  unfold Block.tickSnapshot
  repeat' first
    | (with_reducible assumption)
    | (with_reducible exact Area.sub ‹_›)
    | (with_reducible exact Frame.refl)
    | (with_reducible apply Frame.ite)
    | (with_reducible refine Frame.foldl ?_ (fun _ _ _ => ?_))
    | (with_reducible apply frame_setSnap)
    | (fail_if_no_progress extract_lets)
    | intro _
    | (with_reducible split)

theorem frame_fsyncRead {l₀ : List Area} {b₀ b : Block} (h₀ : Frame l₀ b₀ b)
    (hl : [.regs, .fsync] ⊆ l₀ := by first | assumption | exact Area.sub ‹_›) :
    Frame l₀ b₀ (b.fsyncRead) := by
  unfold Block.fsyncRead
  repeat' first
    | (with_reducible assumption)
    | (with_reducible exact Area.sub ‹_›)
    | (with_reducible exact Frame.refl)
    | (with_reducible apply Frame.ite)
    | (with_reducible refine Frame.foldl ?_ (fun _ _ _ => ?_))
    | (with_reducible apply frame_modFsync)
    | (with_reducible apply frame_setFld)
    | (fail_if_no_progress extract_lets)
    | intro _
    | (with_reducible split)

theorem frame_readReg {l₀ : List Area} {b₀ b : Block} (h₀ : Frame l₀ b₀ b) (m : Master) (o : Nat)
    (hl : [.regs, .snap, .rdata, .fsync, .irq, .cal, .dram, .pt, .ml, .out] ⊆ l₀ := by first | assumption | exact Area.sub ‹_›) :
    Frame l₀ b₀ (b.readReg m o) := by
  unfold Block.readReg
  repeat' first
    | (with_reducible assumption)
    | (with_reducible exact Area.sub ‹_›)
    | (with_reducible exact Frame.refl)
    | (with_reducible apply Frame.ite)
    | (with_reducible refine Frame.foldl ?_ (fun _ _ _ => ?_))
    | (with_reducible apply Frame.ite2)
    | (with_reducible refine Frame.snd (by with_reducible assumption) ?_)
    | (with_reducible refine Frame.thd (by with_reducible assumption) ?_)
    | (with_reducible apply frame_answer)
    | (with_reducible apply frame_run)
    | (with_reducible refine frame_execApertureAccess (by with_reducible assumption) ?_)
    | (with_reducible apply frame_decErr)
    | (with_reducible refine frame_execClaim (by with_reducible assumption) ?_)
    | (with_reducible refine frame_execPeerFifoRead (by with_reducible assumption) ?_)
    | (with_reducible apply frame_ptReserveSlot)
    | (with_reducible apply frame_tickSnapshot)
    | (with_reducible apply frame_fsyncRead)
    | (with_reducible apply frame_clearRc)
    | (fail_if_no_progress extract_lets)
    | intro _
    | (with_reducible split)

theorem frame_rwhLost {l₀ : List Area} {b₀ b : Block} (h₀ : Frame l₀ b₀ b) (o : Nat) (lost : Word)
    (hl : [.regs, .irq, .ml, .out] ⊆ l₀ := by first | assumption | exact Area.sub ‹_›) :
    Frame l₀ b₀ (b.rwhLost o lost) := by
  unfold Block.rwhLost
  repeat' first
    | (with_reducible assumption)
    | (with_reducible exact Area.sub ‹_›)
    | (with_reducible exact Frame.refl)
    | (with_reducible apply Frame.ite)
    | (with_reducible refine Frame.foldl ?_ (fun _ _ _ => ?_))
    | (with_reducible apply frame_bump)
    | (with_reducible apply frame_raise)
    | (fail_if_no_progress extract_lets)
    | intro _
    | (with_reducible split)

theorem frame_writeIc {l₀ : List Area} {b₀ b : Block} (h₀ : Frame l₀ b₀ b) (o : Nat) (v : Word) (new : Word)
    (hl : [.regs, .irq, .ml, .out] ⊆ l₀ := by first | assumption | exact Area.sub ‹_›) :
    Frame l₀ b₀ (b.writeIc o v new) := by
  unfold Block.writeIc
  repeat' first
    | (with_reducible assumption)
    | (with_reducible exact Area.sub ‹_›)
    | (with_reducible exact Frame.refl)
    | (with_reducible apply Frame.ite)
    | (with_reducible refine Frame.foldl ?_ (fun _ _ _ => ?_))
    | (with_reducible apply frame_run)
    | (with_reducible refine frame_execTargetDisable (by with_reducible assumption) ?_)
    | (with_reducible apply frame_raise)
    | (with_reducible refine frame_execHostEoi (by with_reducible assumption) ?_)
    | (with_reducible refine frame_execEoi (by with_reducible assumption) ?_)
    | (with_reducible apply frame_clearPend)
    | (with_reducible apply frame_wr)
    | (fail_if_no_progress extract_lets)
    | intro _
    | (with_reducible split)

theorem frame_writeHq {l₀ : List Area} {b₀ b : Block} (h₀ : Frame l₀ b₀ b) (o : Nat) (v : Word) (new : Word)
    (hl : [.regs, .irq, .hq, .store, .ml, .out] ⊆ l₀ := by first | assumption | exact Area.sub ‹_›) :
    Frame l₀ b₀ (b.writeHq o v new) := by
  unfold Block.writeHq
  repeat' first
    | (with_reducible assumption)
    | (with_reducible exact Area.sub ‹_›)
    | (with_reducible exact Frame.refl)
    | (with_reducible apply Frame.ite)
    | (with_reducible refine Frame.foldl ?_ (fun _ _ _ => ?_))
    | (with_reducible apply frame_wr)
    | (with_reducible apply frame_ctlEnable)
    | (with_reducible apply frame_run)
    | (with_reducible refine frame_execControllerReset (by with_reducible assumption) ?_)
    | (with_reducible apply frame_setFld)
    | (fail_if_no_progress extract_lets)
    | intro _
    | (with_reducible split)

theorem frame_writeLe {l₀ : List Area} {b₀ b : Block} (h₀ : Frame l₀ b₀ b) (o : Nat) (v : Word) (new : Word)
    (hl : [.regs, .le] ⊆ l₀ := by first | assumption | exact Area.sub ‹_›) :
    Frame l₀ b₀ (b.writeLe o v new) := by
  unfold Block.writeLe
  repeat' first
    | (with_reducible assumption)
    | (with_reducible exact Area.sub ‹_›)
    | (with_reducible exact Frame.refl)
    | (with_reducible apply Frame.ite)
    | (with_reducible refine Frame.foldl ?_ (fun _ _ _ => ?_))
    | (with_reducible apply frame_wr)
    | (with_reducible apply frame_run)
    | (with_reducible refine frame_execLoadShadowTable (by with_reducible assumption) ?_)
    | (with_reducible refine frame_execLoadDefaultTable (by with_reducible assumption) ?_)
    | (with_reducible refine frame_execLoadProgram (by with_reducible assumption) ?_)
    | (with_reducible refine frame_execLoadPatch (by with_reducible assumption) ?_)
    | (with_reducible apply frame_modLe)
    | (with_reducible refine frame_execLiveSlotWrite (by with_reducible assumption) ?_)
    | (with_reducible apply frame_leMemWrite)
    | (with_reducible apply frame_setPsw)
    | (fail_if_no_progress extract_lets)
    | intro _
    | (with_reducible split)

theorem frame_writeSf {l₀ : List Area} {b₀ b : Block} (h₀ : Frame l₀ b₀ b) (o : Nat) (new : Word)
    (hl : [.regs] ⊆ l₀ := by first | assumption | exact Area.sub ‹_›) :
    Frame l₀ b₀ (b.writeSf o new) := by
  unfold Block.writeSf
  repeat' first
    | (with_reducible assumption)
    | (with_reducible exact Area.sub ‹_›)
    | (with_reducible exact Frame.refl)
    | (with_reducible apply Frame.ite)
    | (with_reducible refine Frame.foldl ?_ (fun _ _ _ => ?_))
    | (with_reducible apply frame_wr)
    | (with_reducible apply frame_applyHolds)
    | (fail_if_no_progress extract_lets)
    | intro _
    | (with_reducible split)

theorem frame_writeSp {l₀ : List Area} {b₀ b : Block} (h₀ : Frame l₀ b₀ b) (o : Nat) (new : Word)
    (hl : [.regs, .irq, .le, .servo, .spin, .wp, .hq, .store, .ml, .pw, .out, .free] ⊆ l₀ := by first | assumption | exact Area.sub ‹_›) :
    Frame l₀ b₀ (b.writeSp o new) := by
  unfold Block.writeSp
  repeat' first
    | (with_reducible assumption)
    | (with_reducible exact Area.sub ‹_›)
    | (with_reducible exact Frame.refl)
    | (with_reducible apply Frame.ite)
    | (with_reducible refine Frame.foldl ?_ (fun _ _ _ => ?_))
    | (with_reducible apply frame_wr)
    | (with_reducible apply frame_spRun)
    | (with_reducible apply frame_spStop)
    | (with_reducible apply frame_spRetarget)
    | (with_reducible apply frame_spFaultDone)
    | (fail_if_no_progress extract_lets)
    | intro _
    | (with_reducible split)

theorem frame_writeAx {l₀ : List Area} {b₀ b : Block} (h₀ : Frame l₀ b₀ b) (o : Nat) (v : Word) (new : Word)
    (hl : [.regs, .axis] ⊆ l₀ := by first | assumption | exact Area.sub ‹_›) :
    Frame l₀ b₀ (b.writeAx o v new) := by
  unfold Block.writeAx
  repeat' first
    | (with_reducible assumption)
    | (with_reducible exact Area.sub ‹_›)
    | (with_reducible exact Frame.refl)
    | (with_reducible apply Frame.ite)
    | (with_reducible refine Frame.foldl ?_ (fun _ _ _ => ?_))
    | (with_reducible apply frame_run)
    | (with_reducible refine frame_execAxisTarget (by with_reducible assumption) ?_)
    | (with_reducible refine frame_execAxisRelative (by with_reducible assumption) ?_)
    | (with_reducible apply frame_wr)
    | (with_reducible apply frame_axDisable)
    | (with_reducible apply frame_axHalt)
    | (with_reducible apply frame_homeStart)
    | (with_reducible apply frame_axFaultDone)
    | (fail_if_no_progress extract_lets)
    | intro _
    | (with_reducible split)

theorem frame_writeWp {l₀ : List Area} {b₀ b : Block} (h₀ : Frame l₀ b₀ b) (o : Nat) (v : Word) (new : Word)
    (hl : [.regs, .irq, .wp, .se, .cal, .store, .ml, .out] ⊆ l₀ := by first | assumption | exact Area.sub ‹_›) :
    Frame l₀ b₀ (b.writeWp o v new) := by
  unfold Block.writeWp
  repeat' first
    | (with_reducible assumption)
    | (with_reducible exact Area.sub ‹_›)
    | (with_reducible exact Frame.refl)
    | (with_reducible apply Frame.ite)
    | (with_reducible refine Frame.foldl ?_ (fun _ _ _ => ?_))
    | (with_reducible apply frame_wr)
    | (with_reducible apply frame_onSurf)
    | (with_reducible apply frame_cancelPlan)
    | (with_reducible apply frame_modWp)
    | (with_reducible apply frame_bandEntryFor)
    | (with_reducible apply frame_seEnable)
    | (with_reducible apply frame_seRetrain)
    | (with_reducible apply frame_run)
    | (with_reducible refine frame_execSeLinkDown (by with_reducible assumption) ?_)
    | (with_reducible apply frame_setFld)
    | (with_reducible apply frame_modSe)
    | (with_reducible apply frame_applyHolds)
    | (with_reducible apply frame_sendPower)
    | (with_reducible refine frame_execMgmtAccess (by with_reducible assumption) ?_)
    | (with_reducible apply frame_calPowerWrite)
    | (fail_if_no_progress extract_lets)
    | intro _
    | (with_reducible split)

theorem frame_writeRc {l₀ : List Area} {b₀ b : Block} (h₀ : Frame l₀ b₀ b) (o : Nat) (v : Word) (new : Word)
    (hl : [.regs, .irq, .wp, .rc, .ml, .out] ⊆ l₀ := by first | assumption | exact Area.sub ‹_›) :
    Frame l₀ b₀ (b.writeRc o v new) := by
  unfold Block.writeRc
  repeat' first
    | (with_reducible assumption)
    | (with_reducible exact Area.sub ‹_›)
    | (with_reducible exact Frame.refl)
    | (with_reducible apply Frame.ite)
    | (with_reducible refine Frame.foldl ?_ (fun _ _ _ => ?_))
    | (with_reducible apply frame_wr)
    | (with_reducible apply frame_run)
    | (with_reducible refine frame_execBmRestart (by with_reducible assumption) ?_)
    | (with_reducible apply frame_splitWrite)
    | (with_reducible apply frame_assign)
    | (fail_if_no_progress extract_lets)
    | intro _
    | (with_reducible split)

theorem frame_writePt {l₀ : List Area} {b₀ b : Block} (h₀ : Frame l₀ b₀ b) (o : Nat) (new : Word)
    (hl : [.regs, .irq, .dram, .pt, .ml, .out] ⊆ l₀ := by first | assumption | exact Area.sub ‹_›) :
    Frame l₀ b₀ (b.writePt o new) := by
  unfold Block.writePt
  repeat' first
    | (with_reducible assumption)
    | (with_reducible exact Area.sub ‹_›)
    | (with_reducible exact Frame.refl)
    | (with_reducible apply Frame.ite)
    | (with_reducible refine Frame.foldl ?_ (fun _ _ _ => ?_))
    | (with_reducible apply frame_ptKick)
    | (with_reducible apply frame_wr)
    | (with_reducible apply frame_setBit)
    | (fail_if_no_progress extract_lets)
    | intro _
    | (with_reducible split)

theorem frame_writeDram {l₀ : List Area} {b₀ b : Block} (h₀ : Frame l₀ b₀ b) (m : Master) (o : Nat) (v : Word) (new : Word)
    (hl : [.regs, .aper, .irq, .dram, .ml, .out] ⊆ l₀ := by first | assumption | exact Area.sub ‹_›) :
    Frame l₀ b₀ (b.writeDram m o v new) := by
  unfold Block.writeDram
  repeat' first
    | (with_reducible assumption)
    | (with_reducible exact Area.sub ‹_›)
    | (with_reducible exact Frame.refl)
    | (with_reducible apply Frame.ite)
    | (with_reducible refine Frame.foldl ?_ (fun _ _ _ => ?_))
    | (with_reducible apply frame_setAper)
    | (with_reducible apply frame_winWrite)
    | (with_reducible apply frame_wayRestore)
    | (with_reducible apply frame_mcGo)
    | (with_reducible apply frame_wr)
    | (with_reducible apply frame_slGrant)
    | (with_reducible apply frame_slCtl)
    | (fail_if_no_progress extract_lets)
    | intro _
    | (with_reducible split)

theorem frame_writeCx {l₀ : List Area} {b₀ b : Block} (h₀ : Frame l₀ b₀ b) (o : Nat) (v : Word) (new : Word)
    (hl : [.regs, .irq, .cx, .ml, .out] ⊆ l₀ := by first | assumption | exact Area.sub ‹_›) :
    Frame l₀ b₀ (b.writeCx o v new) := by
  unfold Block.writeCx
  repeat' first
    | (with_reducible assumption)
    | (with_reducible exact Area.sub ‹_›)
    | (with_reducible exact Frame.refl)
    | (with_reducible apply Frame.ite)
    | (with_reducible refine Frame.foldl ?_ (fun _ _ _ => ?_))
    | (with_reducible apply frame_pageWrite)
    | (with_reducible apply frame_wr)
    | (with_reducible apply frame_katAll)
    | (with_reducible apply frame_pairRestore)
    | (with_reducible apply frame_ksGo)
    | (fail_if_no_progress extract_lets)
    | intro _
    | (with_reducible split)

theorem frame_writeMl {l₀ : List Area} {b₀ b : Block} (h₀ : Frame l₀ b₀ b) (m : Master) (o : Nat) (v : Word) (new : Word)
    (hl : [.regs, .tunCtl, .tunData, .irq, .hq, .ml, .out] ⊆ l₀ := by first | assumption | exact Area.sub ‹_›) :
    Frame l₀ b₀ (b.writeMl m o v new) := by
  unfold Block.writeMl
  repeat' first
    | (with_reducible assumption)
    | (with_reducible exact Area.sub ‹_›)
    | (with_reducible exact Frame.refl)
    | (with_reducible apply Frame.ite)
    | (with_reducible refine Frame.foldl ?_ (fun _ _ _ => ?_))
    | (with_reducible apply frame_wr)
    | (with_reducible apply frame_mlDisable)
    | (with_reducible apply frame_mlEnable)
    | (with_reducible apply frame_mlTimers)
    | (with_reducible apply frame_tunBit)
    | (with_reducible apply frame_tunnelGo)
    | (with_reducible apply frame_setTunData)
    | (fail_if_no_progress extract_lets)
    | intro _
    | (with_reducible split)

theorem frame_fsyncEnable {l₀ : List Area} {b₀ b : Block} (h₀ : Frame l₀ b₀ b)
    (hl : [.regs] ⊆ l₀ := by first | assumption | exact Area.sub ‹_›) :
    Frame l₀ b₀ (b.fsyncEnable) := by
  unfold Block.fsyncEnable
  repeat' first
    | (with_reducible assumption)
    | (with_reducible exact Area.sub ‹_›)
    | (with_reducible exact Frame.refl)
    | (with_reducible apply Frame.ite)
    | (with_reducible refine Frame.foldl ?_ (fun _ _ _ => ?_))
    | (with_reducible apply frame_wr)
    | (with_reducible apply frame_setFld)
    | (fail_if_no_progress extract_lets)
    | intro _
    | (with_reducible split)

theorem frame_writeMz {l₀ : List Area} {b₀ b : Block} (h₀ : Frame l₀ b₀ b) (o : Nat) (v : Word) (new : Word)
    (hl : [.regs, .out] ⊆ l₀ := by first | assumption | exact Area.sub ‹_›) :
    Frame l₀ b₀ (b.writeMz o v new) := by
  unfold Block.writeMz
  repeat' first
    | (with_reducible assumption)
    | (with_reducible exact Area.sub ‹_›)
    | (with_reducible exact Frame.refl)
    | (with_reducible apply Frame.ite)
    | (with_reducible refine Frame.foldl ?_ (fun _ _ _ => ?_))
    | (with_reducible apply frame_wr)
    | (with_reducible apply frame_fsyncEnable)
    | (with_reducible apply frame_i2cGo)
    | (fail_if_no_progress extract_lets)
    | intro _
    | (with_reducible split)

theorem frame_execReadClearField {l₀ : List Area} {b₀ : Block} {s t : State} {m : Master} {o : BitVec 20} (e₀ : execReadClearField m o s = .next t)
    (h₀ : Frame l₀ b₀ s.toBlock)
    (hl : [.regs, .snap, .rdata, .fsync, .irq, .cal, .dram, .pt, .ml, .out] ⊆ l₀ := by first | assumption | exact Area.sub ‹_›) : Frame l₀ b₀ t.toBlock := by
  unfold execReadClearField at e₀
  refine Frame.upd e₀ h₀ (fun _ _ => ?_)
  repeat' first
    | (with_reducible assumption)
    | (with_reducible exact Area.sub ‹_›)
    | (with_reducible exact Frame.refl)
    | (with_reducible apply Frame.ite)
    | (with_reducible refine Frame.foldl ?_ (fun _ _ _ => ?_))
    | (with_reducible apply frame_readReg)
    | (fail_if_no_progress extract_lets)
    | intro _
    | (with_reducible split)

theorem frame_execPartialWrite {l₀ : List Area} {b₀ : Block} {s t : State} {m : Master} {o : BitVec 20} (e₀ : execPartialWrite m o s = .next t)
    (h₀ : Frame l₀ b₀ s.toBlock)
    (hl : [.regs] ⊆ l₀ := by first | assumption | exact Area.sub ‹_›) : Frame l₀ b₀ t.toBlock := by
  unfold execPartialWrite at e₀
  refine Frame.upd e₀ h₀ (fun _ _ => ?_)
  repeat' first
    | (with_reducible assumption)
    | (with_reducible exact Area.sub ‹_›)
    | (with_reducible exact Frame.refl)
    | (with_reducible apply Frame.ite)
    | (with_reducible refine Frame.foldl ?_ (fun _ _ _ => ?_))
    | (with_reducible apply frame_decErr)
    | (fail_if_no_progress extract_lets)
    | intro _
    | (with_reducible split)

theorem frame_execUnmappedAccess {l₀ : List Area} {b₀ : Block} {s t : State} {m : Master} {o : BitVec 20} {write : Bool} (e₀ : execUnmappedAccess m o write s = .next t)
    (h₀ : Frame l₀ b₀ s.toBlock)
    (hl : [.regs, .rdata] ⊆ l₀ := by first | assumption | exact Area.sub ‹_›) : Frame l₀ b₀ t.toBlock := by
  unfold execUnmappedAccess at e₀
  refine Frame.upd e₀ h₀ (fun _ _ => ?_)
  repeat' first
    | (with_reducible assumption)
    | (with_reducible exact Area.sub ‹_›)
    | (with_reducible exact Frame.refl)
    | (with_reducible apply Frame.ite)
    | (with_reducible refine Frame.foldl ?_ (fun _ _ _ => ?_))
    | (with_reducible apply frame_decErr)
    | (with_reducible apply frame_answer)
    | (fail_if_no_progress extract_lets)
    | intro _
    | (with_reducible split)

theorem frame_atCycle {l₀ : List Area} {b₀ b : Block} (h₀ : Frame l₀ b₀ b) (c : BitVec 11)
    (hl : [.cyc] ⊆ l₀ := by first | assumption | exact Area.sub ‹_›) :
    Frame l₀ b₀ (b.atCycle c) := by
  unfold Block.atCycle
  repeat' first
    | (with_reducible assumption)
    | (with_reducible exact Area.sub ‹_›)
    | (with_reducible exact Frame.refl)
    | (with_reducible apply Frame.ite)
    | (with_reducible refine Frame.foldl ?_ (fun _ _ _ => ?_))
    | (with_reducible apply frame_setCyc)
    | (fail_if_no_progress extract_lets)
    | intro _
    | (with_reducible split)

theorem frame_execTickSnapshotRead {l₀ : List Area} {b₀ : Block} {s t : State} {m : Master} {cyc : BitVec 11} (e₀ : execTickSnapshotRead m cyc s = .next t)
    (h₀ : Frame l₀ b₀ s.toBlock)
    (hl : [.cyc, .snap, .rdata] ⊆ l₀ := by first | assumption | exact Area.sub ‹_›) : Frame l₀ b₀ t.toBlock := by
  unfold execTickSnapshotRead at e₀
  refine Frame.upd e₀ h₀ (fun _ _ => ?_)
  repeat' first
    | (with_reducible assumption)
    | (with_reducible exact Area.sub ‹_›)
    | (with_reducible exact Frame.refl)
    | (with_reducible apply Frame.ite)
    | (with_reducible refine Frame.foldl ?_ (fun _ _ _ => ?_))
    | (with_reducible apply frame_atCycle)
    | (with_reducible apply frame_tickSnapshot)
    | (with_reducible apply frame_answer)
    | (fail_if_no_progress extract_lets)
    | intro _
    | (with_reducible split)

theorem frame_execFsyncEdge {l₀ : List Area} {b₀ : Block} {s t : State} {falling : Bool} {cyc : BitVec 11} (e₀ : execFsyncEdge falling cyc s = .next t)
    (h₀ : Frame l₀ b₀ s.toBlock)
    (hl : [.cyc, .regs, .fsync, .irq, .ml, .out] ⊆ l₀ := by first | assumption | exact Area.sub ‹_›) : Frame l₀ b₀ t.toBlock := by
  unfold execFsyncEdge at e₀
  refine Frame.upd e₀ h₀ (fun _ _ => ?_)
  repeat' first
    | (with_reducible assumption)
    | (with_reducible exact Area.sub ‹_›)
    | (with_reducible exact Frame.refl)
    | (with_reducible apply Frame.ite)
    | (with_reducible refine Frame.foldl ?_ (fun _ _ _ => ?_))
    | (with_reducible apply frame_atCycle)
    | (with_reducible apply frame_setFld)
    | (with_reducible apply frame_modFsync)
    | (with_reducible apply frame_wr)
    | (with_reducible apply frame_raise)
    | (fail_if_no_progress extract_lets)
    | intro _
    | (with_reducible split)

theorem frame_execFsyncTsRead {l₀ : List Area} {b₀ : Block} {s t : State} {m : Master} (e₀ : execFsyncTsRead m s = .next t)
    (h₀ : Frame l₀ b₀ s.toBlock)
    (hl : [.regs, .rdata, .fsync] ⊆ l₀ := by first | assumption | exact Area.sub ‹_›) : Frame l₀ b₀ t.toBlock := by
  unfold execFsyncTsRead at e₀
  refine Frame.upd e₀ h₀ (fun _ _ => ?_)
  repeat' first
    | (with_reducible assumption)
    | (with_reducible exact Area.sub ‹_›)
    | (with_reducible exact Frame.refl)
    | (with_reducible apply Frame.ite)
    | (with_reducible refine Frame.foldl ?_ (fun _ _ _ => ?_))
    | (with_reducible apply frame_fsyncRead)
    | (with_reducible apply frame_answer)
    | (fail_if_no_progress extract_lets)
    | intro _
    | (with_reducible split)

theorem frame_execFsyncEnable {l₀ : List Area} {b₀ : Block} {s t : State} (e₀ : execFsyncEnable s = .next t)
    (h₀ : Frame l₀ b₀ s.toBlock)
    (hl : [.regs] ⊆ l₀ := by first | assumption | exact Area.sub ‹_›) : Frame l₀ b₀ t.toBlock := by
  unfold execFsyncEnable at e₀
  refine Frame.upd e₀ h₀ (fun _ _ => ?_)
  repeat' first
    | (with_reducible assumption)
    | (with_reducible exact Area.sub ‹_›)
    | (with_reducible exact Frame.refl)
    | (with_reducible apply Frame.ite)
    | (with_reducible refine Frame.foldl ?_ (fun _ _ _ => ?_))
    | (with_reducible apply frame_fsyncEnable)
    | (fail_if_no_progress extract_lets)
    | intro _
    | (with_reducible split)

end Sys2Proof.Machine
end

