-- ==== Sys2Proof/Laws/KeepsOps.lean ====
section
/-!
SUPPORT. What the shared operations keep, one lemma for each operation and each command.
-/

set_option Elab.async false
set_option linter.unreachableTactic false
set_option linter.unusedTactic false

namespace Sys2Proof.Machine

/-- Block `c` has kept what block `b` had. -/
structure Keeps (p : Bool) (b c : Block) : Prop where
  part : c.part = b.part
  tick : p = true → c.tick = b.tick
  regs : b.regsWf = true → c.regsWf = true
  dram : b.dram.wf = true → c.dram.wf = true
  irq : b.irq.wf b.part = true → c.irq.wf c.part = true

theorem Keeps.refl {p : Bool} {b : Block} : Keeps p b b := ⟨rfl, fun _ => rfl, id, id, id⟩

theorem Keeps.of_eq {p : Bool} {b c d : Block} (h : Keeps p b c) (h1 : d.part = c.part) (h2 : d.tick = c.tick)
    (h3 : d.regs = c.regs) (h4 : d.dram = c.dram) (h5 : d.irq = c.irq) : Keeps p b d := by
  obtain ⟨a1, a2, a3, a4, a5⟩ := h
  exact ⟨h1.trans a1, fun x => h2.trans (a2 x), fun x => by unfold Block.regsWf; rw [h1, h3]; exact a3 x,
    fun x => by rw [h4]; exact a4 x, fun x => by rw [h1, h5]; exact a5 x⟩

theorem Keeps.ite {p : Bool} {b x y : Block} {c : Prop} [Decidable c] (hy : Keeps p b y)
    (hx : Keeps p b y → Keeps p b x) : Keeps p b (if c then x else y) := by
  split
  · exact hx hy
  · exact hy

theorem Keeps.foldl {p : Bool} {α : Type} {b c : Block} {f : Block → α → Block} {l : List α} (h : Keeps p b c)
    (hf : ∀ c x, Keeps p b c → Keeps p b (f c x)) : Keeps p b (l.foldl f c) := by
  induction l generalizing c with
  | nil => exact h
  | cons x t ih => exact ih (hf _ _ h)

theorem keeps_wr {p : Bool} {b c : Block} (h : Keeps p b c) (o : Nat) (v : Word) : Keeps p b (c.wr o v) := by
  obtain ⟨a1, a2, a3, a4, a5⟩ := h
  exact ⟨a1, a2, fun x => Block.wr_wf _ _ _ (a3 x), a4, a5⟩

theorem keeps_setTick {b c : Block} (h : Keeps false b c) (t : BitVec 64) : Keeps false b (c.setTick t) := by
  obtain ⟨a1, _, a3, a4, a5⟩ := h
  exact ⟨a1, fun x => absurd x (by decide), a3, a4, a5⟩

theorem keeps_modIrq {p : Bool} {b c : Block} (h : Keeps p b c) (f : Irq → Irq)
    (hf : c.irq.wf c.part = true → (f c.irq).wf c.part = true) : Keeps p b (c.modIrq f) := by
  obtain ⟨a1, a2, a3, a4, a5⟩ := h
  exact ⟨a1, a2, a3, a4, fun x => hf (a5 x)⟩

theorem keeps_modDram {p : Bool} {b c : Block} (h : Keeps p b c) (f : Dram → Dram)
    (hf : c.dram.wf = true → (f c.dram).wf = true) : Keeps p b (c.modDram f) := by
  obtain ⟨a1, a2, a3, a4, a5⟩ := h
  exact ⟨a1, a2, a3, fun x => hf (a4 x), a5⟩

/-- What the pending list keeps when sources are taken from it. -/
theorem Irq.wf_filter (q : Part) (i j : Irq) (f : Nat → Bool) (hj : j.pend = i.pend.filter f) (h : i.wf q = true) :
    j.wf q = true := by
  simp only [Irq.wf, Bool.and_eq_true, decide_eq_true_eq, hj] at *
  exact ⟨h.1.filter _, by
    simp only [List.all_eq_true, List.mem_filter] at *
    exact fun x hx => h.2 x hx.1⟩

theorem Irq.wf_eq (q : Part) (i j : Irq) (hj : j.pend = i.pend) (h : i.wf q = true) : j.wf q = true := by
  simpa only [Irq.wf, hj] using h

theorem mem_insertSrc (n x : Nat) (l : List Nat) : x ∈ insertSrc n l ↔ x = n ∨ x ∈ l := by
  induction l with
  | nil => simp [insertSrc]
  | cons m t ih =>
    unfold insertSrc
    split
    · simp
    · split
      · rename_i h; subst h; simp
      · simp only [List.mem_cons, ih]; tauto

theorem insertSrc_rising (n : Nat) (l : List Nat) (h : l.Pairwise (· < ·)) : (insertSrc n l).Pairwise (· < ·) := by
  induction l with
  | nil => simp [insertSrc]
  | cons m t ih =>
    obtain ⟨h1, h2⟩ := List.pairwise_cons.mp h
    unfold insertSrc
    split
    · rename_i hn
      refine List.pairwise_cons.mpr ⟨fun a ha => ?_, h⟩
      rcases List.mem_cons.mp ha with rfl | ha
      · exact hn
      · exact Nat.lt_trans hn (h1 a ha)
    · split
      · exact h
      · refine List.pairwise_cons.mpr ⟨fun a ha => ?_, ih h2⟩
        rcases (mem_insertSrc n a t).mp ha with rfl | ha
        · omega
        · exact h1 a ha

theorem Irq.wf_insert (q : Part) (i j : Irq) (n : Nat) (hn : srcPresent q n = true) (hj : j.pend = insertSrc n i.pend)
    (h : i.wf q = true) : j.wf q = true := by
  simp only [Irq.wf, Bool.and_eq_true, decide_eq_true_eq, hj, List.all_eq_true] at *
  refine ⟨insertSrc_rising _ _ h.1, fun x hx => ?_⟩
  rcases (mem_insertSrc n x _).mp hx with rfl | hx
  · exact hn
  · exact h.2 x hx

theorem Keeps.pair {p : Bool} {b c : Block} {α : Type} {x : α × Block} {i : α} (e : x = (i, c)) (h : Keeps p b c) :
    Keeps p b x.2 := by
  subst e; exact h

theorem Keeps.ite2 {p : Bool} {b : Block} {α : Type} {x y : α × Block} {c : Prop} [Decidable c] (hx : Keeps p b x.2)
    (hy : Keeps p b y.2) : Keeps p b (if c then x else y).2 := by
  split <;> assumption

theorem Keeps.snd {p : Bool} {b c : Block} {α : Type} {x : α × Block} {i : α} (e : x = (i, c)) (h : Keeps p b x.2) :
    Keeps p b c := by
  subst e; exact h

theorem Keeps.thd {p : Bool} {b c : Block} {α β : Type} {x : α × β × Block} {i : α} {j : β} (e : x = (i, j, c))
    (h : Keeps p b x.2.2) : Keeps p b c := by
  subst e; exact h

/-- A command's meaning, as a change of the block. -/
theorem Keeps.upd {p : Bool} {b : Block} {s t : State} {f : Block → Block} (h : s.upd f = .next t)
    (hs : Keeps p b s.toBlock) (hf : ∀ c, Keeps p b c → Keeps p b (f c)) : Keeps p b t.toBlock := by
  unfold State.upd at h
  cases h
  exact hf _ hs

theorem keeps_emit {p : Bool} {b c : Block} (h : Keeps p b c) (m : OutMsg) :
    Keeps p b (c.emit m) := Keeps.of_eq h rfl rfl rfl rfl rfl

theorem keeps_modServo {p : Bool} {b c : Block} (h : Keeps p b c) (s : Fin 4) (f : Servo → Servo) :
    Keeps p b (c.modServo s f) := Keeps.of_eq h rfl rfl rfl rfl rfl

theorem keeps_modSpin {p : Bool} {b c : Block} (h : Keeps p b c) (n : Fin 2) (f : Spin → Spin) :
    Keeps p b (c.modSpin n f) := Keeps.of_eq h rfl rfl rfl rfl rfl

theorem keeps_modAxis {p : Bool} {b c : Block} (h : Keeps p b c) (a : Fin 9) (f : Axis → Axis) :
    Keeps p b (c.modAxis a f) := Keeps.of_eq h rfl rfl rfl rfl rfl

theorem keeps_modWp {p : Bool} {b c : Block} (h : Keeps p b c) (s : Fin 4) (f : Wp → Wp) :
    Keeps p b (c.modWp s f) := Keeps.of_eq h rfl rfl rfl rfl rfl

theorem keeps_modSe {p : Bool} {b c : Block} (h : Keeps p b c) (s : Fin 4) (f : Se → Se) :
    Keeps p b (c.modSe s f) := Keeps.of_eq h rfl rfl rfl rfl rfl

theorem keeps_modLe {p : Bool} {b c : Block} (h : Keeps p b c) (f : Loop → Loop) :
    Keeps p b (c.modLe f) := Keeps.of_eq h rfl rfl rfl rfl rfl

theorem keeps_modPt {p : Bool} {b c : Block} (h : Keeps p b c) (f : Pt → Pt) :
    Keeps p b (c.modPt f) := Keeps.of_eq h rfl rfl rfl rfl rfl

theorem keeps_modMl {p : Bool} {b c : Block} (h : Keeps p b c) (f : Ml → Ml) :
    Keeps p b (c.modMl f) := Keeps.of_eq h rfl rfl rfl rfl rfl

theorem keeps_modPw {p : Bool} {b c : Block} (h : Keeps p b c) (f : Pwr → Pwr) :
    Keeps p b (c.modPw f) := Keeps.of_eq h rfl rfl rfl rfl rfl

theorem keeps_modFsync {p : Bool} {b c : Block} (h : Keeps p b c) (f : Fsync → Fsync) :
    Keeps p b (c.modFsync f) := Keeps.of_eq h rfl rfl rfl rfl rfl

theorem keeps_setCyc {p : Bool} {b c : Block} (h : Keeps p b c) (n : Nat) :
    Keeps p b (c.setCyc n) := Keeps.of_eq h rfl rfl rfl rfl rfl

theorem keeps_setSnap {p : Bool} {b c : Block} (h : Keeps p b c) (i : Fin 7) (x y : Word) :
    Keeps p b (c.setSnap i x y) := Keeps.of_eq h rfl rfl rfl rfl rfl

theorem keeps_setAper {p : Bool} {b c : Block} (h : Keeps p b c) (i : Fin 7) (v : Word) :
    Keeps p b (c.setAper i v) := Keeps.of_eq h rfl rfl rfl rfl rfl

theorem keeps_setTunCtl {p : Bool} {b c : Block} (h : Keeps p b c) (i : Fin 7) (v : Word) :
    Keeps p b (c.setTunCtl i v) := Keeps.of_eq h rfl rfl rfl rfl rfl

theorem keeps_setTunData {p : Bool} {b c : Block} (h : Keeps p b c) (i : Fin 7) (v : Word) :
    Keeps p b (c.setTunData i v) := Keeps.of_eq h rfl rfl rfl rfl rfl

theorem keeps_setQsel {p : Bool} {b c : Block} (h : Keeps p b c) (i : Fin 7) (v : Word) :
    Keeps p b (c.setQsel i v) := Keeps.of_eq h rfl rfl rfl rfl rfl

theorem keeps_answer {p : Bool} {b c : Block} (h : Keeps p b c) (m : Master) (v : Word) :
    Keeps p b (c.answer m v) := Keeps.of_eq h rfl rfl rfl rfl rfl

theorem keeps_modCal {p : Bool} {b c : Block} (h : Keeps p b c) (f : Cal → Cal) :
    Keeps p b (c.modCal f) := Keeps.of_eq h rfl rfl rfl rfl rfl

theorem keeps_modHq {p : Bool} {b c : Block} (h : Keeps p b c) (f : Hq → Hq) :
    Keeps p b (c.modHq f) := Keeps.of_eq h rfl rfl rfl rfl rfl

theorem keeps_modStore {p : Bool} {b c : Block} (h : Keeps p b c) (f : Store → Store) :
    Keeps p b (c.modStore f) := Keeps.of_eq h rfl rfl rfl rfl rfl

theorem keeps_modCx {p : Bool} {b c : Block} (h : Keeps p b c) (f : Cx → Cx) :
    Keeps p b (c.modCx f) := Keeps.of_eq h rfl rfl rfl rfl rfl

theorem keeps_modRc {p : Bool} {b c : Block} (h : Keeps p b c) (f : Rc → Rc) :
    Keeps p b (c.modRc f) := Keeps.of_eq h rfl rfl rfl rfl rfl

/-! ### Machine/Flags.lean -/

theorem keeps_setFld {q₀ : Bool} {b₀ b : Block} (h₀ : Keeps q₀ b₀ b) (f : Fld) (n : Nat) :
    Keeps q₀ b₀ (b.setFld f n) := by
  unfold Block.setFld
  repeat' first
    | (with_reducible assumption)
    | (with_reducible exact Keeps.refl)
    | (with_reducible apply Keeps.ite)
    | (with_reducible refine Keeps.foldl ?_ (fun _ _ _ => ?_))
    | (with_reducible apply keeps_wr)
    | (fail_if_no_progress extract_lets)
    | intro _
    | (with_reducible split)

theorem keeps_setBit {q₀ : Bool} {b₀ b : Block} (h₀ : Keeps q₀ b₀ b) (f : Fld) (v : Bool) :
    Keeps q₀ b₀ (b.setBit f v) := by
  unfold Block.setBit
  repeat' first
    | (with_reducible assumption)
    | (with_reducible exact Keeps.refl)
    | (with_reducible apply Keeps.ite)
    | (with_reducible refine Keeps.foldl ?_ (fun _ _ _ => ?_))
    | (with_reducible apply keeps_setFld)
    | (fail_if_no_progress extract_lets)
    | intro _
    | (with_reducible split)

theorem keeps_putBit {q₀ : Bool} {b₀ b : Block} (h₀ : Keeps q₀ b₀ b) (f : Fld) (i : Nat) (v : Bool) :
    Keeps q₀ b₀ (b.putBit f i v) := by
  unfold Block.putBit
  repeat' first
    | (with_reducible assumption)
    | (with_reducible exact Keeps.refl)
    | (with_reducible apply Keeps.ite)
    | (with_reducible refine Keeps.foldl ?_ (fun _ _ _ => ?_))
    | (with_reducible apply keeps_setFld)
    | (fail_if_no_progress extract_lets)
    | intro _
    | (with_reducible split)

theorem keeps_bump {q₀ : Bool} {b₀ b : Block} (h₀ : Keeps q₀ b₀ b) (f : Fld) (n : Nat) :
    Keeps q₀ b₀ (b.bump f n) := by
  unfold Block.bump
  repeat' first
    | (with_reducible assumption)
    | (with_reducible exact Keeps.refl)
    | (with_reducible apply Keeps.ite)
    | (with_reducible refine Keeps.foldl ?_ (fun _ _ _ => ?_))
    | (with_reducible apply keeps_setFld)
    | (fail_if_no_progress extract_lets)
    | intro _
    | (with_reducible split)

theorem keeps_freeVal {q₀ : Bool} {b₀ b : Block} (h₀ : Keeps q₀ b₀ b) : Keeps q₀ b₀ b.freeVal.2 :=
  Keeps.of_eq h₀ rfl rfl rfl rfl rfl

/-! ### Machine/Ops.lean -/

theorem keeps_modVec {q₀ : Bool} {b₀ b : Block} (h₀ : Keeps q₀ b₀ b) (v : Nat) (f : Moder → Moder) :
    Keeps q₀ b₀ (b.modVec v f) := by
  unfold Block.modVec
  repeat' first
    | (with_reducible assumption)
    | (with_reducible exact Keeps.refl)
    | (with_reducible apply Keeps.ite)
    | (with_reducible refine Keeps.foldl ?_ (fun _ _ _ => ?_))
    | (with_reducible refine keeps_modIrq ?_ _ (Irq.wf_eq _ _ _ rfl))
    | (with_reducible refine keeps_modIrq ?_ _ (Irq.wf_filter _ _ _ _ rfl))
    | (fail_if_no_progress extract_lets)
    | intro _
    | (with_reducible split)

theorem keeps_modCore {q₀ : Bool} {b₀ b : Block} (h₀ : Keeps q₀ b₀ b) (c : Nat) (f : Moder → Moder) :
    Keeps q₀ b₀ (b.modCore c f) := by
  unfold Block.modCore
  repeat' first
    | (with_reducible assumption)
    | (with_reducible exact Keeps.refl)
    | (with_reducible apply Keeps.ite)
    | (with_reducible refine Keeps.foldl ?_ (fun _ _ _ => ?_))
    | (with_reducible refine keeps_modIrq ?_ _ (Irq.wf_eq _ _ _ rfl))
    | (with_reducible refine keeps_modIrq ?_ _ (Irq.wf_filter _ _ _ _ rfl))
    | (fail_if_no_progress extract_lets)
    | intro _
    | (with_reducible split)

theorem keeps_sendVec {q₀ : Bool} {b₀ b : Block} (h₀ : Keeps q₀ b₀ b) (v : Nat) :
    Keeps q₀ b₀ (b.sendVec v) := by
  unfold Block.sendVec
  repeat' first
    | (with_reducible assumption)
    | (with_reducible exact Keeps.refl)
    | (with_reducible apply Keeps.ite)
    | (with_reducible refine Keeps.foldl ?_ (fun _ _ _ => ?_))
    | (with_reducible refine keeps_modIrq ?_ _ (Irq.wf_eq _ _ _ rfl))
    | (with_reducible refine keeps_modIrq ?_ _ (Irq.wf_filter _ _ _ _ rfl))
    | (with_reducible apply keeps_modVec)
    | (with_reducible apply keeps_setFld)
    | (with_reducible apply keeps_emit)
    | (fail_if_no_progress extract_lets)
    | intro _
    | (with_reducible split)

theorem keeps_tryVec {q₀ : Bool} {b₀ b : Block} (h₀ : Keeps q₀ b₀ b) (v : Nat) :
    Keeps q₀ b₀ (b.tryVec v) := by
  unfold Block.tryVec
  repeat' first
    | (with_reducible assumption)
    | (with_reducible exact Keeps.refl)
    | (with_reducible apply Keeps.ite)
    | (with_reducible refine Keeps.foldl ?_ (fun _ _ _ => ?_))
    | (with_reducible apply keeps_modVec)
    | (with_reducible apply keeps_setFld)
    | (with_reducible apply keeps_sendVec)
    | (fail_if_no_progress extract_lets)
    | intro _
    | (with_reducible split)

theorem keeps_lapseCores {q₀ : Bool} {b₀ b : Block} (h₀ : Keeps q₀ b₀ b) :
    Keeps q₀ b₀ (b.lapseCores) := by
  unfold Block.lapseCores
  repeat' first
    | (with_reducible assumption)
    | (with_reducible exact Keeps.refl)
    | (with_reducible apply Keeps.ite)
    | (with_reducible refine Keeps.foldl ?_ (fun _ _ _ => ?_))
    | (with_reducible apply keeps_modCore)
    | (fail_if_no_progress extract_lets)
    | intro _
    | (with_reducible split)

theorem keeps_settle {q₀ : Bool} {b₀ b : Block} (h₀ : Keeps q₀ b₀ b) :
    Keeps q₀ b₀ (b.settle) := by
  unfold Block.settle
  repeat' first
    | (with_reducible assumption)
    | (with_reducible exact Keeps.refl)
    | (with_reducible apply Keeps.ite)
    | (with_reducible refine Keeps.foldl ?_ (fun _ _ _ => ?_))
    | (with_reducible apply keeps_tryVec)
    | (with_reducible apply keeps_lapseCores)
    | (fail_if_no_progress extract_lets)
    | intro _
    | (with_reducible split)

theorem keeps_melarSend {q₀ : Bool} {b₀ b : Block} (h₀ : Keeps q₀ b₀ b) (type : Nat) (arg : Nat) (payload : List Byte) :
    Keeps q₀ b₀ (b.melarSend type arg payload) := by
  unfold Block.melarSend
  repeat' first
    | (with_reducible assumption)
    | (with_reducible exact Keeps.refl)
    | (with_reducible apply Keeps.ite)
    | (with_reducible refine Keeps.foldl ?_ (fun _ _ _ => ?_))
    | (with_reducible apply keeps_modMl)
    | (with_reducible apply keeps_emit)
    | (fail_if_no_progress extract_lets)
    | intro _
    | (with_reducible split)

theorem keeps_forward {q₀ : Bool} {b₀ b : Block} (h₀ : Keeps q₀ b₀ b) (n : Nat) :
    Keeps q₀ b₀ (b.forward n) := by
  unfold Block.forward
  repeat' first
    | (with_reducible assumption)
    | (with_reducible exact Keeps.refl)
    | (with_reducible apply Keeps.ite)
    | (with_reducible refine Keeps.foldl ?_ (fun _ _ _ => ?_))
    | (with_reducible apply keeps_bump)
    | (with_reducible refine keeps_modIrq ?_ _ (Irq.wf_eq _ _ _ rfl))
    | (with_reducible refine keeps_modIrq ?_ _ (Irq.wf_filter _ _ _ _ rfl))
    | (with_reducible apply keeps_melarSend)
    | (fail_if_no_progress extract_lets)
    | intro _
    | (with_reducible split)

theorem keeps_raiseWith {q₀ : Bool} {b₀ b : Block} (h₀ : Keeps q₀ b₀ b) (n : Nat) (bypass : Bool) :
    Keeps q₀ b₀ (b.raiseWith n bypass) := by
  unfold Block.raiseWith
  with_reducible split
  · exact h₀
  · rename_i hp
    have h₁ : Keeps q₀ b₀ (b.modIrq fun i => { i with pend := insertSrc n i.pend }) :=
      keeps_modIrq h₀ _ (Irq.wf_insert _ _ _ n (by simpa using hp) rfl)
    generalize b.modIrq (fun i => { i with pend := insertSrc n i.pend }) = c at h₁
    repeat' first
      | (with_reducible assumption)
      | (with_reducible apply Keeps.ite)
      | (with_reducible apply keeps_forward)
      | (with_reducible apply keeps_tryVec)
      | (with_reducible apply keeps_modVec)
      | (with_reducible apply keeps_modCore)
      | (fail_if_no_progress extract_lets)
      | intro _
      | (with_reducible split)

theorem keeps_raise {q₀ : Bool} {b₀ b : Block} (h₀ : Keeps q₀ b₀ b) (n : Nat) :
    Keeps q₀ b₀ (b.raise n) := by
  unfold Block.raise
  repeat' first
    | (with_reducible assumption)
    | (with_reducible exact Keeps.refl)
    | (with_reducible apply Keeps.ite)
    | (with_reducible refine Keeps.foldl ?_ (fun _ _ _ => ?_))
    | (with_reducible apply keeps_raiseWith)
    | (fail_if_no_progress extract_lets)
    | intro _
    | (with_reducible split)

theorem keeps_postClose {q₀ : Bool} {b₀ b : Block} (h₀ : Keeps q₀ b₀ b) (n : Nat) :
    Keeps q₀ b₀ (b.postClose n) := by
  unfold Block.postClose
  repeat' first
    | (with_reducible assumption)
    | (with_reducible exact Keeps.refl)
    | (with_reducible apply Keeps.ite)
    | (with_reducible refine Keeps.foldl ?_ (fun _ _ _ => ?_))
    | (with_reducible apply keeps_modLe)
    | (with_reducible apply keeps_post)
    | (fail_if_no_progress extract_lets)
    | intro _
    | (with_reducible split)

theorem keeps_clearPend {q₀ : Bool} {b₀ b : Block} (h₀ : Keeps q₀ b₀ b) (f : Nat → Bool) :
    Keeps q₀ b₀ (b.clearPend f) := by
  unfold Block.clearPend
  repeat' first
    | (with_reducible assumption)
    | (with_reducible exact Keeps.refl)
    | (with_reducible apply Keeps.ite)
    | (with_reducible refine Keeps.foldl ?_ (fun _ _ _ => ?_))
    | (with_reducible refine keeps_modIrq ?_ _ (Irq.wf_eq _ _ _ rfl))
    | (with_reducible refine keeps_modIrq ?_ _ (Irq.wf_filter _ _ _ _ rfl))
    | (with_reducible apply keeps_settle)
    | (fail_if_no_progress extract_lets)
    | intro _
    | (with_reducible split)

theorem keeps_onSurf {q₀ : Bool} {b₀ b : Block} (h₀ : Keeps q₀ b₀ b) (s : Fin 4) (f : Block → Block) (hf : ∀ c , Keeps q₀ b₀ c → Keeps q₀ b₀ (f c )) :
    Keeps q₀ b₀ (b.onSurf s f) := by
  unfold Block.onSurf
  repeat' first
    | (with_reducible assumption)
    | (with_reducible exact Keeps.refl)
    | (with_reducible apply Keeps.ite)
    | (with_reducible refine Keeps.foldl ?_ (fun _ _ _ => ?_))
    | (with_reducible apply hf)
    | (fail_if_no_progress extract_lets)
    | intro _
    | (with_reducible split)

theorem keeps_onSpin {q₀ : Bool} {b₀ b : Block} (h₀ : Keeps q₀ b₀ b) (n : Fin 2) (f : Block → Block) (hf : ∀ c , Keeps q₀ b₀ c → Keeps q₀ b₀ (f c )) :
    Keeps q₀ b₀ (b.onSpin n f) := by
  unfold Block.onSpin
  repeat' first
    | (with_reducible assumption)
    | (with_reducible exact Keeps.refl)
    | (with_reducible apply Keeps.ite)
    | (with_reducible refine Keeps.foldl ?_ (fun _ _ _ => ?_))
    | (with_reducible apply hf)
    | (fail_if_no_progress extract_lets)
    | intro _
    | (with_reducible split)

theorem keeps_onAxis {q₀ : Bool} {b₀ b : Block} (h₀ : Keeps q₀ b₀ b) (a : Fin 9) (f : Block → Block) (hf : ∀ c , Keeps q₀ b₀ c → Keeps q₀ b₀ (f c )) :
    Keeps q₀ b₀ (b.onAxis a f) := by
  unfold Block.onAxis
  repeat' first
    | (with_reducible assumption)
    | (with_reducible exact Keeps.refl)
    | (with_reducible apply Keeps.ite)
    | (with_reducible refine Keeps.foldl ?_ (fun _ _ _ => ?_))
    | (with_reducible apply hf)
    | (fail_if_no_progress extract_lets)
    | intro _
    | (with_reducible split)

theorem keeps_onBeam {q₀ : Bool} {b₀ b : Block} (h₀ : Keeps q₀ b₀ b) (n : Fin 64) (f : Block → Block) (hf : ∀ c , Keeps q₀ b₀ c → Keeps q₀ b₀ (f c )) :
    Keeps q₀ b₀ (b.onBeam n f) := by
  unfold Block.onBeam
  repeat' first
    | (with_reducible assumption)
    | (with_reducible exact Keeps.refl)
    | (with_reducible apply Keeps.ite)
    | (with_reducible refine Keeps.foldl ?_ (fun _ _ _ => ?_))
    | (with_reducible apply hf)
    | (fail_if_no_progress extract_lets)
    | intro _
    | (with_reducible split)

theorem keeps_raiseSurf {q₀ : Bool} {b₀ b : Block} (h₀ : Keeps q₀ b₀ b) (s : Fin 4) (k : Nat) :
    Keeps q₀ b₀ (b.raiseSurf s k) := by
  unfold Block.raiseSurf
  repeat' first
    | (with_reducible assumption)
    | (with_reducible exact Keeps.refl)
    | (with_reducible apply Keeps.ite)
    | (with_reducible refine Keeps.foldl ?_ (fun _ _ _ => ?_))
    | (with_reducible apply keeps_raise)
    | (fail_if_no_progress extract_lets)
    | intro _
    | (with_reducible split)

theorem keeps_raiseSpin {q₀ : Bool} {b₀ b : Block} (h₀ : Keeps q₀ b₀ b) (n : Fin 2) (k : Nat) :
    Keeps q₀ b₀ (b.raiseSpin n k) := by
  unfold Block.raiseSpin
  repeat' first
    | (with_reducible assumption)
    | (with_reducible exact Keeps.refl)
    | (with_reducible apply Keeps.ite)
    | (with_reducible refine Keeps.foldl ?_ (fun _ _ _ => ?_))
    | (with_reducible apply keeps_raise)
    | (fail_if_no_progress extract_lets)
    | intro _
    | (with_reducible split)

theorem keeps_raiseAxis {q₀ : Bool} {b₀ b : Block} (h₀ : Keeps q₀ b₀ b) (a : Fin 9) (k : Nat) :
    Keeps q₀ b₀ (b.raiseAxis a k) := by
  unfold Block.raiseAxis
  repeat' first
    | (with_reducible assumption)
    | (with_reducible exact Keeps.refl)
    | (with_reducible apply Keeps.ite)
    | (with_reducible refine Keeps.foldl ?_ (fun _ _ _ => ?_))
    | (with_reducible apply keeps_raise)
    | (fail_if_no_progress extract_lets)
    | intro _
    | (with_reducible split)

theorem keeps_sedge {q₀ : Bool} {b₀ b : Block} (h₀ : Keeps q₀ b₀ b) (s : Fin 4) (f : SedgeFrame) :
    Keeps q₀ b₀ (b.sedge s f) := by
  unfold Block.sedge
  repeat' first
    | (with_reducible assumption)
    | (with_reducible exact Keeps.refl)
    | (with_reducible apply Keeps.ite)
    | (with_reducible refine Keeps.foldl ?_ (fun _ _ _ => ?_))
    | (with_reducible apply keeps_emit)
    | (fail_if_no_progress extract_lets)
    | intro _
    | (with_reducible split)

/-! ### Machine/TelOps.lean -/

theorem keeps_modCalSurf {q₀ : Bool} {b₀ b : Block} (h₀ : Keeps q₀ b₀ b) (s : Fin 4) (f : CalSurf → CalSurf) :
    Keeps q₀ b₀ (b.modCalSurf s f) := by
  unfold Block.modCalSurf
  repeat' first
    | (with_reducible assumption)
    | (with_reducible exact Keeps.refl)
    | (with_reducible apply Keeps.ite)
    | (with_reducible refine Keeps.foldl ?_ (fun _ _ _ => ?_))
    | (with_reducible apply keeps_modCal)
    | (fail_if_no_progress extract_lets)
    | intro _
    | (with_reducible split)

theorem keeps_telRecord {q₀ : Bool} {b₀ b : Block} (h₀ : Keeps q₀ b₀ b) (set : Nat) (inst : Nat) (fields : List (Nat × Nat × Nat)) :
    Keeps q₀ b₀ (b.telRecord set inst fields) := by
  unfold Block.telRecord
  repeat' first
    | (with_reducible assumption)
    | (with_reducible exact Keeps.refl)
    | (with_reducible apply Keeps.ite)
    | (with_reducible refine Keeps.foldl ?_ (fun _ _ _ => ?_))
    | (with_reducible apply keeps_modCal)
    | (with_reducible apply keeps_raise)
    | (fail_if_no_progress extract_lets)
    | intro _
    | (with_reducible split)

theorem keeps_persistTel {q₀ : Bool} {b₀ b : Block} (h₀ : Keeps q₀ b₀ b) :
    Keeps q₀ b₀ (b.persistTel) := by
  unfold Block.persistTel
  repeat' first
    | (with_reducible assumption)
    | (with_reducible exact Keeps.refl)
    | (with_reducible apply Keeps.ite)
    | (with_reducible refine Keeps.foldl ?_ (fun _ _ _ => ?_))
    | (with_reducible apply keeps_modCal)
    | (with_reducible apply keeps_raise)
    | (fail_if_no_progress extract_lets)
    | intro _
    | (with_reducible split)

theorem keeps_calKind {q₀ : Bool} {b₀ b : Block} (h₀ : Keeps q₀ b₀ b) :
    Keeps q₀ b₀ (b.calKind) := by
  unfold Block.calKind
  repeat' first
    | (with_reducible assumption)
    | (with_reducible exact Keeps.refl)
    | (with_reducible apply Keeps.ite)
    | (with_reducible refine Keeps.foldl ?_ (fun _ _ _ => ?_))
    | (with_reducible apply keeps_run)
    | (with_reducible apply keeps_setFld)
    | (fail_if_no_progress extract_lets)
    | intro _
    | (with_reducible split)

theorem keeps_calEnd {q₀ : Bool} {b₀ b : Block} (h₀ : Keeps q₀ b₀ b) (s : Fin 4) (result : Nat) (values : List Nat) :
    Keeps q₀ b₀ (b.calEnd s result values) := by
  unfold Block.calEnd
  repeat' first
    | (with_reducible assumption)
    | (with_reducible exact Keeps.refl)
    | (with_reducible apply Keeps.ite)
    | (with_reducible refine Keeps.foldl ?_ (fun _ _ _ => ?_))
    | (with_reducible apply keeps_run)
    | (with_reducible apply keeps_modCalSurf)
    | (with_reducible apply keeps_putBit)
    | (with_reducible apply keeps_calKind)
    | (with_reducible apply keeps_telRecord)
    | (fail_if_no_progress extract_lets)
    | intro _
    | (with_reducible split)

theorem keeps_calAbandon {q₀ : Bool} {b₀ b : Block} (h₀ : Keeps q₀ b₀ b) (s : Fin 4) :
    Keeps q₀ b₀ (b.calAbandon s) := by
  unfold Block.calAbandon
  repeat' first
    | (with_reducible assumption)
    | (with_reducible exact Keeps.refl)
    | (with_reducible apply Keeps.ite)
    | (with_reducible refine Keeps.foldl ?_ (fun _ _ _ => ?_))
    | (with_reducible apply keeps_run)
    | (with_reducible apply keeps_calEnd)
    | (with_reducible apply keeps_bump)
    | (with_reducible apply keeps_setFld)
    | (with_reducible apply keeps_raise)
    | (fail_if_no_progress extract_lets)
    | intro _
    | (with_reducible split)

theorem keeps_calPowerWrite {q₀ : Bool} {b₀ b : Block} (h₀ : Keeps q₀ b₀ b) (s : Fin 4) :
    Keeps q₀ b₀ (b.calPowerWrite s) := by
  unfold Block.calPowerWrite
  repeat' first
    | (with_reducible assumption)
    | (with_reducible exact Keeps.refl)
    | (with_reducible apply Keeps.ite)
    | (with_reducible refine Keeps.foldl ?_ (fun _ _ _ => ?_))
    | (with_reducible apply keeps_run)
    | (with_reducible apply keeps_calAbandon)
    | (fail_if_no_progress extract_lets)
    | intro _
    | (with_reducible split)

/-! ### Machine/Operands.lean -/

theorem keeps_commitData {q₀ : Bool} {b₀ b : Block} (h₀ : Keeps q₀ b₀ b) (a : Nat) (v : Word) :
    Keeps q₀ b₀ (b.commitData a v) := by
  unfold Block.commitData
  repeat' first
    | (with_reducible assumption)
    | (with_reducible exact Keeps.refl)
    | (with_reducible apply Keeps.ite)
    | (with_reducible refine Keeps.foldl ?_ (fun _ _ _ => ?_))
    | (with_reducible apply keeps_modLe)
    | (with_reducible apply keeps_wr)
    | (fail_if_no_progress extract_lets)
    | intro _
    | (with_reducible split)

/-! ### Machine/HostOps.lean -/

theorem keeps_modVol {q₀ : Bool} {b₀ b : Block} (h₀ : Keeps q₀ b₀ b) (f : Vol → Vol) :
    Keeps q₀ b₀ (b.modVol f) := by
  unfold Block.modVol
  repeat' first
    | (with_reducible assumption)
    | (with_reducible exact Keeps.refl)
    | (with_reducible apply Keeps.ite)
    | (with_reducible refine Keeps.foldl ?_ (fun _ _ _ => ?_))
    | (with_reducible apply keeps_modStore)
    | (fail_if_no_progress extract_lets)
    | intro _
    | (with_reducible split)

theorem keeps_modCmd {q₀ : Bool} {b₀ b : Block} (h₀ : Keeps q₀ b₀ b) (tag : Nat) (f : Cmd → Cmd) :
    Keeps q₀ b₀ (b.modCmd tag f) := by
  unfold Block.modCmd
  repeat' first
    | (with_reducible assumption)
    | (with_reducible exact Keeps.refl)
    | (with_reducible apply Keeps.ite)
    | (with_reducible refine Keeps.foldl ?_ (fun _ _ _ => ?_))
    | (with_reducible apply keeps_modHq)
    | (fail_if_no_progress extract_lets)
    | intro _
    | (with_reducible split)

theorem keeps_finish {q₀ : Bool} {b₀ b : Block} (h₀ : Keeps q₀ b₀ b) (tag : Nat) (f : Finish) :
    Keeps q₀ b₀ (b.finish tag f) := by
  unfold Block.finish
  repeat' first
    | (with_reducible assumption)
    | (with_reducible exact Keeps.refl)
    | (with_reducible apply Keeps.ite)
    | (with_reducible refine Keeps.foldl ?_ (fun _ _ _ => ?_))
    | (with_reducible apply keeps_modCmd)
    | (fail_if_no_progress extract_lets)
    | intro _
    | (with_reducible split)

theorem keeps_dropClaims {q₀ : Bool} {b₀ b : Block} (h₀ : Keeps q₀ b₀ b) (tag : Nat) :
    Keeps q₀ b₀ (b.dropClaims tag) := by
  unfold Block.dropClaims
  repeat' first
    | (with_reducible assumption)
    | (with_reducible exact Keeps.refl)
    | (with_reducible apply Keeps.ite)
    | (with_reducible refine Keeps.foldl ?_ (fun _ _ _ => ?_))
    | (with_reducible apply keeps_modHq)
    | (with_reducible apply keeps_modVol)
    | (with_reducible apply keeps_modCmd)
    | (fail_if_no_progress extract_lets)
    | intro _
    | (with_reducible split)

theorem keeps_claimsTaken {q₀ : Bool} {b₀ b : Block} (h₀ : Keeps q₀ b₀ b) (tag : Nat) :
    Keeps q₀ b₀ (b.claimsTaken tag) := by
  unfold Block.claimsTaken
  repeat' first
    | (with_reducible assumption)
    | (with_reducible exact Keeps.refl)
    | (with_reducible apply Keeps.ite)
    | (with_reducible refine Keeps.foldl ?_ (fun _ _ _ => ?_))
    | (with_reducible apply keeps_modCmd)
    | (fail_if_no_progress extract_lets)
    | intro _
    | (with_reducible split)

theorem keeps_closeOne {q₀ : Bool} {b₀ b : Block} (h₀ : Keeps q₀ b₀ b) (t : Nat) :
    Keeps q₀ b₀ (b.closeOne t) := by
  unfold Block.closeOne
  repeat' first
    | (with_reducible assumption)
    | (with_reducible exact Keeps.refl)
    | (with_reducible apply Keeps.ite)
    | (with_reducible refine Keeps.foldl ?_ (fun _ _ _ => ?_))
    | (with_reducible apply keeps_modVol)
    | (fail_if_no_progress extract_lets)
    | intro _
    | (with_reducible split)

theorem keeps_closeRec {q₀ : Bool} {b₀ b : Block} (h₀ : Keeps q₀ b₀ b) (t : Nat) :
    Keeps q₀ b₀ (b.closeRec t) := by
  unfold Block.closeRec
  repeat' first
    | (with_reducible assumption)
    | (with_reducible exact Keeps.refl)
    | (with_reducible apply Keeps.ite)
    | (with_reducible refine Keeps.foldl ?_ (fun _ _ _ => ?_))
    | (with_reducible apply keeps_closeOne)
    | (fail_if_no_progress extract_lets)
    | intro _
    | (with_reducible split)

theorem keeps_closeAll {q₀ : Bool} {b₀ b : Block} (h₀ : Keeps q₀ b₀ b) :
    Keeps q₀ b₀ (b.closeAll) := by
  unfold Block.closeAll
  repeat' first
    | (with_reducible assumption)
    | (with_reducible exact Keeps.refl)
    | (with_reducible apply Keeps.ite)
    | (with_reducible refine Keeps.foldl ?_ (fun _ _ _ => ?_))
    | (with_reducible apply keeps_closeRec)
    | (fail_if_no_progress extract_lets)
    | intro _
    | (with_reducible split)

theorem keeps_journalEntry {q₀ : Bool} {b₀ b : Block} (h₀ : Keeps q₀ b₀ b) (rtype : Nat) (bytes : List Byte) :
    Keeps q₀ b₀ (b.journalEntry rtype bytes) := by
  unfold Block.journalEntry
  repeat' first
    | (with_reducible assumption)
    | (with_reducible exact Keeps.refl)
    | (with_reducible apply Keeps.ite)
    | (with_reducible refine Keeps.foldl ?_ (fun _ _ _ => ?_))
    | (with_reducible apply keeps_modVol)
    | (with_reducible apply keeps_closeRec)
    | (fail_if_no_progress extract_lets)
    | intro _
    | (with_reducible split)

theorem keeps_recordFails {q₀ : Bool} {b₀ b : Block} (h₀ : Keeps q₀ b₀ b) (k : Nat) (failed : Nat) :
    Keeps q₀ b₀ (b.recordFails k failed) := by
  unfold Block.recordFails
  repeat' first
    | (with_reducible assumption)
    | (with_reducible exact Keeps.refl)
    | (with_reducible apply Keeps.ite)
    | (with_reducible refine Keeps.foldl ?_ (fun _ _ _ => ?_))
    | (with_reducible apply keeps_modWp)
    | (fail_if_no_progress extract_lets)
    | intro _
    | (with_reducible split)

theorem keeps_bandEntryFor {q₀ : Bool} {b₀ b : Block} (h₀ : Keeps q₀ b₀ b) (k : Nat) (failed : Nat) :
    Keeps q₀ b₀ (b.bandEntryFor k failed) := by
  unfold Block.bandEntryFor
  repeat' first
    | (with_reducible assumption)
    | (with_reducible exact Keeps.refl)
    | (with_reducible apply Keeps.ite)
    | (with_reducible refine Keeps.foldl ?_ (fun _ _ _ => ?_))
    | (with_reducible apply keeps_recordFails)
    | (with_reducible apply keeps_journalEntry)
    | (fail_if_no_progress extract_lets)
    | intro _
    | (with_reducible split)

theorem keeps_voidEntry {q₀ : Bool} {b₀ b : Block} (h₀ : Keeps q₀ b₀ b) (k : Nat) (swath : Nat) (wseq : Nat) :
    Keeps q₀ b₀ (b.voidEntry k swath wseq) := by
  unfold Block.voidEntry
  repeat' first
    | (with_reducible assumption)
    | (with_reducible exact Keeps.refl)
    | (with_reducible apply Keeps.ite)
    | (with_reducible refine Keeps.foldl ?_ (fun _ _ _ => ?_))
    | (with_reducible apply keeps_journalEntry)
    | (fail_if_no_progress extract_lets)
    | intro _
    | (with_reducible split)

theorem keeps_setTxMseq {q₀ : Bool} {b₀ b : Block} (h₀ : Keeps q₀ b₀ b) (n : Nat) :
    Keeps q₀ b₀ (b.setTxMseq n) := by
  unfold Block.setTxMseq
  repeat' first
    | (with_reducible assumption)
    | (with_reducible exact Keeps.refl)
    | (with_reducible apply Keeps.ite)
    | (with_reducible refine Keeps.foldl ?_ (fun _ _ _ => ?_))
    | (with_reducible apply keeps_setFld)
    | (fail_if_no_progress extract_lets)
    | intro _
    | (with_reducible split)

theorem keeps_mirrorCat {q₀ : Bool} {b₀ b : Block} (h₀ : Keeps q₀ b₀ b) (rtype : Nat) (bytes : List Byte) :
    Keeps q₀ b₀ (b.mirrorCat rtype bytes) := by
  unfold Block.mirrorCat
  repeat' first
    | (with_reducible assumption)
    | (with_reducible exact Keeps.refl)
    | (with_reducible apply Keeps.ite)
    | (with_reducible refine Keeps.foldl ?_ (fun _ _ _ => ?_))
    | (with_reducible apply keeps_setTxMseq)
    | (with_reducible apply keeps_melarSend)
    | (with_reducible apply keeps_modMl)
    | (fail_if_no_progress extract_lets)
    | intro _
    | (with_reducible split)

theorem keeps_journalBoth {q₀ : Bool} {b₀ b : Block} (h₀ : Keeps q₀ b₀ b) (rtype : Nat) (bytes : List Byte) :
    Keeps q₀ b₀ (b.journalBoth rtype bytes) := by
  unfold Block.journalBoth
  repeat' first
    | (with_reducible assumption)
    | (with_reducible exact Keeps.refl)
    | (with_reducible apply Keeps.ite)
    | (with_reducible refine Keeps.foldl ?_ (fun _ _ _ => ?_))
    | (with_reducible apply keeps_journalEntry)
    | (with_reducible apply keeps_mirrorCat)
    | (fail_if_no_progress extract_lets)
    | intro _
    | (with_reducible split)

theorem keeps_modClip {q₀ : Bool} {b₀ b : Block} (h₀ : Keeps q₀ b₀ b) (n : Nat) (f : Clip → Clip) :
    Keeps q₀ b₀ (b.modClip n f) := by
  unfold Block.modClip
  repeat' first
    | (with_reducible assumption)
    | (with_reducible exact Keeps.refl)
    | (with_reducible apply Keeps.ite)
    | (with_reducible refine Keeps.foldl ?_ (fun _ _ _ => ?_))
    | (with_reducible apply keeps_modVol)
    | (fail_if_no_progress extract_lets)
    | intro _
    | (with_reducible split)

theorem keeps_skipFrames {q₀ : Bool} {b₀ b : Block} (h₀ : Keeps q₀ b₀ b) (clip : Nat) (first : Nat) (n : Nat) :
    Keeps q₀ b₀ (b.skipFrames clip first n) := by
  unfold Block.skipFrames
  repeat' first
    | (with_reducible assumption)
    | (with_reducible exact Keeps.refl)
    | (with_reducible apply Keeps.ite)
    | (with_reducible refine Keeps.foldl ?_ (fun _ _ _ => ?_))
    | (with_reducible apply keeps_modClip)
    | (with_reducible apply keeps_journalBoth)
    | (fail_if_no_progress extract_lets)
    | intro _
    | (with_reducible split)

theorem keeps_elogAdd {q₀ : Bool} {b₀ b : Block} (h₀ : Keeps q₀ b₀ b) (fields : List (Nat × Nat × Nat))
    (damage : List (Nat × Nat × Nat)) : Keeps q₀ b₀ (b.elogAdd fields damage).2 := by
  unfold Block.elogAdd
  extract_lets
  refine Keeps.pair rfl ?_
  exact keeps_raise (keeps_setFld (keeps_modHq h₀ _) _ _) _

theorem keeps_async {q₀ : Bool} {b₀ b : Block} (h₀ : Keeps q₀ b₀ b) (t : Nat) (info : Nat) (data : Nat) :
    Keeps q₀ b₀ (b.async t info data) := by
  unfold Block.async
  repeat' first
    | (with_reducible assumption)
    | (with_reducible exact Keeps.refl)
    | (with_reducible apply Keeps.ite)
    | (with_reducible refine Keeps.foldl ?_ (fun _ _ _ => ?_))
    | (with_reducible apply keeps_modHq)
    | (with_reducible apply keeps_finish)
    | (fail_if_no_progress extract_lets)
    | intro _
    | (with_reducible split)

theorem keeps_elogNoCmd {q₀ : Bool} {b₀ b : Block} (h₀ : Keeps q₀ b₀ b) (pair : Nat) (detail : Nat) (addr : Nat) :
    Keeps q₀ b₀ (b.elogNoCmd pair detail addr) := by
  unfold Block.elogNoCmd
  repeat' first
    | (with_reducible assumption)
    | (with_reducible exact Keeps.refl)
    | (with_reducible apply Keeps.ite)
    | (with_reducible refine Keeps.foldl ?_ (fun _ _ _ => ?_))
    | (with_reducible apply Keeps.ite2)
    | (with_reducible refine Keeps.snd (by with_reducible assumption) ?_)
    | (with_reducible refine Keeps.thd (by with_reducible assumption) ?_)
    | (with_reducible apply keeps_elogAdd)
    | (with_reducible apply keeps_async)
    | (fail_if_no_progress extract_lets)
    | intro _
    | (with_reducible split)

theorem keeps_placeEntries {q₀ : Bool} {b₀ b : Block} (h₀ : Keeps q₀ b₀ b) :
    Keeps q₀ b₀ (b.placeEntries) := by
  unfold Block.placeEntries
  repeat' first
    | (with_reducible assumption)
    | (with_reducible exact Keeps.refl)
    | (with_reducible apply Keeps.ite)
    | (with_reducible refine Keeps.foldl ?_ (fun _ _ _ => ?_))
    | (with_reducible apply keeps_modCmd)
    | (with_reducible apply keeps_setFld)
    | (fail_if_no_progress extract_lets)
    | intro _
    | (with_reducible split)

theorem keeps_mirrorDone {q₀ : Bool} {b₀ b : Block} (h₀ : Keeps q₀ b₀ b) (c : Cmd) (status : Nat) :
    Keeps q₀ b₀ (b.mirrorDone c status) := by
  unfold Block.mirrorDone
  repeat' first
    | (with_reducible assumption)
    | (with_reducible exact Keeps.refl)
    | (with_reducible apply Keeps.ite)
    | (with_reducible refine Keeps.foldl ?_ (fun _ _ _ => ?_))
    | (with_reducible apply keeps_melarSend)
    | (fail_if_no_progress extract_lets)
    | intro _
    | (with_reducible split)

theorem keeps_postOne {q₀ : Bool} {b₀ b : Block} (h₀ : Keeps q₀ b₀ b) (c : Cmd) (f : Finish) :
    Keeps q₀ b₀ (b.postOne c f) := by
  unfold Block.postOne
  repeat' first
    | (with_reducible assumption)
    | (with_reducible exact Keeps.refl)
    | (with_reducible apply Keeps.ite)
    | (with_reducible refine Keeps.foldl ?_ (fun _ _ _ => ?_))
    | (with_reducible apply Keeps.ite2)
    | (with_reducible refine Keeps.snd (by with_reducible assumption) ?_)
    | (with_reducible refine Keeps.thd (by with_reducible assumption) ?_)
    | (with_reducible apply keeps_mirrorDone)
    | (with_reducible apply keeps_dropClaims)
    | (with_reducible apply keeps_modHq)
    | (with_reducible apply keeps_async)
    | (with_reducible apply keeps_skipFrames)
    | (with_reducible apply keeps_placeEntries)
    | (with_reducible apply keeps_elogAdd)
    | (with_reducible apply keeps_emit)
    | (with_reducible apply keeps_setFld)
    | (with_reducible apply keeps_bump)
    | (with_reducible apply keeps_raise)
    | (fail_if_no_progress extract_lets)
    | intro _
    | (with_reducible split)

theorem keeps_postAll {q₀ : Bool} {b₀ b : Block} (h₀ : Keeps q₀ b₀ b) (cs : List Cmd) (status : Nat) :
    Keeps q₀ b₀ (b.postAll cs status) := by
  unfold Block.postAll
  repeat' first
    | (with_reducible assumption)
    | (with_reducible exact Keeps.refl)
    | (with_reducible apply Keeps.ite)
    | (with_reducible refine Keeps.foldl ?_ (fun _ _ _ => ?_))
    | (with_reducible apply keeps_postOne)
    | (fail_if_no_progress extract_lets)
    | intro _
    | (with_reducible split)

theorem keeps_freeze {q₀ : Bool} {b₀ b : Block} (h₀ : Keeps q₀ b₀ b) (q : Nat) :
    Keeps q₀ b₀ (b.freeze q) := by
  unfold Block.freeze
  repeat' first
    | (with_reducible assumption)
    | (with_reducible exact Keeps.refl)
    | (with_reducible apply Keeps.ite)
    | (with_reducible refine Keeps.foldl ?_ (fun _ _ _ => ?_))
    | (with_reducible apply keeps_putBit)
    | (with_reducible apply keeps_raise)
    | (with_reducible apply keeps_postAll)
    | (fail_if_no_progress extract_lets)
    | intro _
    | (with_reducible split)

theorem keeps_post {q₀ : Bool} {b₀ b : Block} (h₀ : Keeps q₀ b₀ b) (c : Cmd) (f : Finish) :
    Keeps q₀ b₀ (b.post c f) := by
  unfold Block.post
  repeat' first
    | (with_reducible assumption)
    | (with_reducible exact Keeps.refl)
    | (with_reducible apply Keeps.ite)
    | (with_reducible refine Keeps.foldl ?_ (fun _ _ _ => ?_))
    | (with_reducible apply keeps_postOne)
    | (with_reducible apply keeps_freeze)
    | (fail_if_no_progress extract_lets)
    | intro _
    | (with_reducible split)

theorem keeps_surfDown {q₀ : Bool} {b₀ b : Block} (h₀ : Keeps q₀ b₀ b) (s : Fin 4) (cause : Nat) :
    Keeps q₀ b₀ (b.surfDown s cause) := by
  unfold Block.surfDown
  repeat' first
    | (with_reducible assumption)
    | (with_reducible exact Keeps.refl)
    | (with_reducible apply Keeps.ite)
    | (with_reducible refine Keeps.foldl ?_ (fun _ _ _ => ?_))
    | (with_reducible apply keeps_modServo)
    | (with_reducible apply keeps_async)
    | (fail_if_no_progress extract_lets)
    | intro _
    | (with_reducible split)

theorem keeps_surfUp {q₀ : Bool} {b₀ b : Block} (h₀ : Keeps q₀ b₀ b) (s : Fin 4) :
    Keeps q₀ b₀ (b.surfUp s) := by
  unfold Block.surfUp
  repeat' first
    | (with_reducible assumption)
    | (with_reducible exact Keeps.refl)
    | (with_reducible apply Keeps.ite)
    | (with_reducible refine Keeps.foldl ?_ (fun _ _ _ => ?_))
    | (with_reducible apply keeps_modServo)
    | (with_reducible apply keeps_async)
    | (fail_if_no_progress extract_lets)
    | intro _
    | (with_reducible split)

/-! ### Machine/SurfOps.lean -/

theorem keeps_sendPower {q₀ : Bool} {b₀ b : Block} (h₀ : Keeps q₀ b₀ b) (s : Fin 4) :
    Keeps q₀ b₀ (b.sendPower s) := by
  unfold Block.sendPower
  repeat' first
    | (with_reducible assumption)
    | (with_reducible exact Keeps.refl)
    | (with_reducible apply Keeps.ite)
    | (with_reducible refine Keeps.foldl ?_ (fun _ _ _ => ?_))
    | (with_reducible apply keeps_sedge)
    | (with_reducible apply keeps_modSe)
    | (fail_if_no_progress extract_lets)
    | intro _
    | (with_reducible split)

theorem keeps_applyHolds {q₀ : Bool} {b₀ b : Block} (h₀ : Keeps q₀ b₀ b) (s : Fin 4) :
    Keeps q₀ b₀ (b.applyHolds s) := by
  unfold Block.applyHolds
  repeat' first
    | (with_reducible assumption)
    | (with_reducible exact Keeps.refl)
    | (with_reducible apply Keeps.ite)
    | (with_reducible refine Keeps.foldl ?_ (fun _ _ _ => ?_))
    | (with_reducible apply keeps_setFld)
    | (fail_if_no_progress extract_lets)
    | intro _
    | (with_reducible split)

theorem keeps_applyAllHolds {q₀ : Bool} {b₀ b : Block} (h₀ : Keeps q₀ b₀ b) :
    Keeps q₀ b₀ (b.applyAllHolds) := by
  unfold Block.applyAllHolds
  repeat' first
    | (with_reducible assumption)
    | (with_reducible exact Keeps.refl)
    | (with_reducible apply Keeps.ite)
    | (with_reducible refine Keeps.foldl ?_ (fun _ _ _ => ?_))
    | (with_reducible apply keeps_applyHolds)
    | (fail_if_no_progress extract_lets)
    | intro _
    | (with_reducible split)

theorem keeps_advanceVseq {q₀ : Bool} {b₀ b : Block} (h₀ : Keeps q₀ b₀ b) (s : Fin 4) :
    Keeps q₀ b₀ (b.advanceVseq s) := by
  unfold Block.advanceVseq
  repeat' first
    | (with_reducible assumption)
    | (with_reducible exact Keeps.refl)
    | (with_reducible apply Keeps.ite)
    | (with_reducible refine Keeps.foldl ?_ (fun _ _ _ => ?_))
    | (with_reducible apply keeps_setFld)
    | (with_reducible apply keeps_modWp)
    | (fail_if_no_progress extract_lets)
    | intro _
    | (with_reducible split)

theorem keeps_failBeam {q₀ : Bool} {b₀ b : Block} (h₀ : Keeps q₀ b₀ b) (s : Fin 4) (k : Nat) :
    Keeps q₀ b₀ (b.failBeam s k) := by
  unfold Block.failBeam
  repeat' first
    | (with_reducible assumption)
    | (with_reducible exact Keeps.refl)
    | (with_reducible apply Keeps.ite)
    | (with_reducible refine Keeps.foldl ?_ (fun _ _ _ => ?_))
    | (with_reducible apply keeps_putBit)
    | (with_reducible apply keeps_modWp)
    | (with_reducible apply keeps_surfDown)
    | (with_reducible apply keeps_bandEntryFor)
    | (with_reducible apply keeps_raiseSurf)
    | (fail_if_no_progress extract_lets)
    | intro _
    | (with_reducible split)

theorem keeps_cellBad {q₀ : Bool} {b₀ b : Block} (h₀ : Keeps q₀ b₀ b) (s : Fin 4) (q : Nat) (k : Nat) :
    Keeps q₀ b₀ (b.cellBad s q k) := by
  unfold Block.cellBad
  repeat' first
    | (with_reducible assumption)
    | (with_reducible exact Keeps.refl)
    | (with_reducible apply Keeps.ite)
    | (with_reducible refine Keeps.foldl ?_ (fun _ _ _ => ?_))
    | (with_reducible apply keeps_bump)
    | (with_reducible apply keeps_run)
    | (with_reducible apply keeps_modWp)
    | (with_reducible apply keeps_failBeam)
    | (fail_if_no_progress extract_lets)
    | intro _
    | (with_reducible split)

theorem keeps_missedCells {q₀ : Bool} {b₀ b : Block} (h₀ : Keeps q₀ b₀ b) (s : Fin 4) (n : Nat) (t : Stripe) (missed : List (Nat × Nat)) :
    Keeps q₀ b₀ (b.missedCells s n t missed) := by
  unfold Block.missedCells
  repeat' first
    | (with_reducible assumption)
    | (with_reducible exact Keeps.refl)
    | (with_reducible apply Keeps.ite)
    | (with_reducible refine Keeps.foldl ?_ (fun _ _ _ => ?_))
    | (with_reducible apply keeps_modWp)
    | (with_reducible apply keeps_cellBad)
    | (fail_if_no_progress extract_lets)
    | intro _
    | (with_reducible split)

theorem keeps_addStripes {q₀ : Bool} {b₀ b : Block} (h₀ : Keeps q₀ b₀ b) (s : Fin 4) (p : Pass) (reached : Nat) :
    Keeps q₀ b₀ (b.addStripes s p reached) := by
  unfold Block.addStripes
  repeat' first
    | (with_reducible assumption)
    | (with_reducible exact Keeps.refl)
    | (with_reducible apply Keeps.ite)
    | (with_reducible refine Keeps.foldl ?_ (fun _ _ _ => ?_))
    | (with_reducible apply keeps_bump)
    | (with_reducible apply keeps_modWp)
    | (with_reducible apply keeps_voidEntry)
    | (with_reducible apply keeps_missedCells)
    | (fail_if_no_progress extract_lets)
    | intro _
    | (with_reducible split)

theorem keeps_exhaust {q₀ : Bool} {b₀ b : Block} (h₀ : Keeps q₀ b₀ b) (s : Fin 4) (band : Nat) :
    Keeps q₀ b₀ (b.exhaust s band) := by
  unfold Block.exhaust
  repeat' first
    | (with_reducible assumption)
    | (with_reducible exact Keeps.refl)
    | (with_reducible apply Keeps.ite)
    | (with_reducible refine Keeps.foldl ?_ (fun _ _ _ => ?_))
    | (with_reducible apply keeps_modWp)
    | (with_reducible apply keeps_bandEntryFor)
    | (with_reducible apply keeps_raiseSurf)
    | (with_reducible apply keeps_async)
    | (fail_if_no_progress extract_lets)
    | intro _
    | (with_reducible split)

theorem keeps_setReloc {q₀ : Bool} {b₀ b : Block} (h₀ : Keeps q₀ b₀ b) (s : Fin 4) (band : Nat) (swath : Nat) (stripe : Nat) :
    Keeps q₀ b₀ (b.setReloc s band swath stripe) := by
  unfold Block.setReloc
  repeat' first
    | (with_reducible assumption)
    | (with_reducible exact Keeps.refl)
    | (with_reducible apply Keeps.ite)
    | (with_reducible refine Keeps.foldl ?_ (fun _ _ _ => ?_))
    | (with_reducible apply keeps_modWp)
    | (with_reducible apply keeps_exhaust)
    | (fail_if_no_progress extract_lets)
    | intro _
    | (with_reducible split)

theorem keeps_movePointer {q₀ : Bool} {b₀ b : Block} (h₀ : Keeps q₀ b₀ b) (s : Fin 4) (p : Pass) (cut : Bool) :
    Keeps q₀ b₀ (b.movePointer s p cut) := by
  unfold Block.movePointer
  repeat' first
    | (with_reducible assumption)
    | (with_reducible exact Keeps.refl)
    | (with_reducible apply Keeps.ite)
    | (with_reducible refine Keeps.foldl ?_ (fun _ _ _ => ?_))
    | (with_reducible apply keeps_modWp)
    | (with_reducible apply keeps_setReloc)
    | (fail_if_no_progress extract_lets)
    | intro _
    | (with_reducible split)

theorem keeps_cutPass {q₀ : Bool} {b₀ b : Block} (h₀ : Keeps q₀ b₀ b) (s : Fin 4) :
    Keeps q₀ b₀ (b.cutPass s) := by
  unfold Block.cutPass
  repeat' first
    | (with_reducible assumption)
    | (with_reducible exact Keeps.refl)
    | (with_reducible apply Keeps.ite)
    | (with_reducible refine Keeps.foldl ?_ (fun _ _ _ => ?_))
    | (with_reducible apply keeps_setFld)
    | (with_reducible apply keeps_putBit)
    | (with_reducible apply keeps_sedge)
    | (with_reducible apply keeps_addStripes)
    | (with_reducible apply keeps_modWp)
    | (with_reducible apply keeps_movePointer)
    | (with_reducible apply keeps_raiseSurf)
    | (with_reducible apply keeps_advanceVseq)
    | (fail_if_no_progress extract_lets)
    | intro _
    | (with_reducible split)

theorem keeps_cancelPlan {q₀ : Bool} {b₀ b : Block} (h₀ : Keeps q₀ b₀ b) (s : Fin 4) :
    Keeps q₀ b₀ (b.cancelPlan s) := by
  unfold Block.cancelPlan
  repeat' first
    | (with_reducible assumption)
    | (with_reducible exact Keeps.refl)
    | (with_reducible apply Keeps.ite)
    | (with_reducible refine Keeps.foldl ?_ (fun _ _ _ => ?_))
    | (with_reducible apply keeps_sedge)
    | (with_reducible apply keeps_setFld)
    | (with_reducible apply keeps_modWp)
    | (with_reducible apply keeps_putBit)
    | (fail_if_no_progress extract_lets)
    | intro _
    | (with_reducible split)

theorem keeps_safeState {q₀ : Bool} {b₀ b : Block} (h₀ : Keeps q₀ b₀ b) (s : Fin 4) (latch : Bool) :
    Keeps q₀ b₀ (b.safeState s latch) := by
  unfold Block.safeState
  repeat' first
    | (with_reducible assumption)
    | (with_reducible exact Keeps.refl)
    | (with_reducible apply Keeps.ite)
    | (with_reducible refine Keeps.foldl ?_ (fun _ _ _ => ?_))
    | (with_reducible apply keeps_setFld)
    | (with_reducible apply keeps_sendPower)
    | (with_reducible apply keeps_cutPass)
    | (with_reducible apply keeps_cancelPlan)
    | (with_reducible apply keeps_calAbandon)
    | (with_reducible apply keeps_modServo)
    | (with_reducible apply keeps_surfDown)
    | (with_reducible apply keeps_modHq)
    | (with_reducible apply keeps_postClose)
    | (fail_if_no_progress extract_lets)
    | intro _
    | (with_reducible split)

theorem keeps_lsafePort {q₀ : Bool} {b₀ b : Block} (h₀ : Keeps q₀ b₀ b) (s : Fin 4) (v : Nat) :
    Keeps q₀ b₀ (b.lsafePort s v) := by
  unfold Block.lsafePort
  repeat' first
    | (with_reducible assumption)
    | (with_reducible exact Keeps.refl)
    | (with_reducible apply Keeps.ite)
    | (with_reducible refine Keeps.foldl ?_ (fun _ _ _ => ?_))
    | (with_reducible apply keeps_safeState)
    | (with_reducible apply keeps_setFld)
    | (with_reducible apply keeps_sendPower)
    | (with_reducible apply keeps_applyHolds)
    | (fail_if_no_progress extract_lets)
    | intro _
    | (with_reducible split)

theorem keeps_setPsw {q₀ : Bool} {b₀ b : Block} (h₀ : Keeps q₀ b₀ b) (s : Fin 4) (new : Nat) :
    Keeps q₀ b₀ (b.setPsw s new) := by
  unfold Block.setPsw
  repeat' first
    | (with_reducible assumption)
    | (with_reducible exact Keeps.refl)
    | (with_reducible apply Keeps.ite)
    | (with_reducible refine Keeps.foldl ?_ (fun _ _ _ => ?_))
    | (with_reducible apply keeps_setFld)
    | (with_reducible apply keeps_bump)
    | (with_reducible apply keeps_postClose)
    | (fail_if_no_progress extract_lets)
    | intro _
    | (with_reducible split)

theorem keeps_publish {q₀ : Bool} {b₀ b : Block} (h₀ : Keeps q₀ b₀ b) (s : Fin 4) :
    Keeps q₀ b₀ (b.publish s) := by
  unfold Block.publish
  repeat' first
    | (with_reducible assumption)
    | (with_reducible exact Keeps.refl)
    | (with_reducible apply Keeps.ite)
    | (with_reducible refine Keeps.foldl ?_ (fun _ _ _ => ?_))
    | (with_reducible apply keeps_commitData)
    | (fail_if_no_progress extract_lets)
    | intro _
    | (with_reducible split)

theorem keeps_cmdDone {q₀ : Bool} {b₀ b : Block} (h₀ : Keeps q₀ b₀ b) (s : Fin 4) :
    Keeps q₀ b₀ (b.cmdDone s) := by
  unfold Block.cmdDone
  repeat' first
    | (with_reducible assumption)
    | (with_reducible exact Keeps.refl)
    | (with_reducible apply Keeps.ite)
    | (with_reducible refine Keeps.foldl ?_ (fun _ _ _ => ?_))
    | (with_reducible apply keeps_modServo)
    | (with_reducible apply keeps_bump)
    | (with_reducible apply keeps_setFld)
    | (with_reducible apply keeps_publish)
    | (with_reducible apply keeps_raise)
    | (fail_if_no_progress extract_lets)
    | intro _
    | (with_reducible split)

theorem keeps_trackCommit {q₀ : Bool} {b₀ b : Block} (h₀ : Keeps q₀ b₀ b) (s : Fin 4) :
    Keeps q₀ b₀ (b.trackCommit s) := by
  unfold Block.trackCommit
  repeat' first
    | (with_reducible assumption)
    | (with_reducible exact Keeps.refl)
    | (with_reducible apply Keeps.ite)
    | (with_reducible refine Keeps.foldl ?_ (fun _ _ _ => ?_))
    | (with_reducible apply keeps_setPsw)
    | (with_reducible apply keeps_setFld)
    | (with_reducible apply keeps_modServo)
    | (with_reducible apply keeps_lsafePort)
    | (with_reducible apply keeps_surfUp)
    | (with_reducible apply keeps_publish)
    | (with_reducible apply keeps_cmdDone)
    | (fail_if_no_progress extract_lets)
    | intro _
    | (with_reducible split)

theorem keeps_safeHold {q₀ : Bool} {b₀ b : Block} (h₀ : Keeps q₀ b₀ b) (s : Fin 4) :
    Keeps q₀ b₀ (b.safeHold s) := by
  unfold Block.safeHold
  repeat' first
    | (with_reducible assumption)
    | (with_reducible exact Keeps.refl)
    | (with_reducible apply Keeps.ite)
    | (with_reducible refine Keeps.foldl ?_ (fun _ _ _ => ?_))
    | (with_reducible apply keeps_setPsw)
    | (with_reducible apply keeps_modServo)
    | (with_reducible apply keeps_trackCommit)
    | (fail_if_no_progress extract_lets)
    | intro _
    | (with_reducible split)

/-! ### Machine/LoopOps.lean -/

theorem keeps_putTable {q₀ : Bool} {b₀ b : Block} (h₀ : Keeps q₀ b₀ b) (t : List (Word × Word)) :
    Keeps q₀ b₀ (b.putTable t) := by
  unfold Block.putTable
  repeat' first
    | (with_reducible assumption)
    | (with_reducible exact Keeps.refl)
    | (with_reducible apply Keeps.ite)
    | (with_reducible refine Keeps.foldl ?_ (fun _ _ _ => ?_))
    | (with_reducible apply keeps_wr)
    | (with_reducible apply keeps_modLe)
    | (fail_if_no_progress extract_lets)
    | intro _
    | (with_reducible split)

theorem keeps_rejectLive {q₀ : Bool} {b₀ b : Block} (h₀ : Keeps q₀ b₀ b) (k : Nat) (err : Nat) :
    Keeps q₀ b₀ (b.rejectLive k err) := by
  unfold Block.rejectLive
  repeat' first
    | (with_reducible assumption)
    | (with_reducible exact Keeps.refl)
    | (with_reducible apply Keeps.ite)
    | (with_reducible refine Keeps.foldl ?_ (fun _ _ _ => ?_))
    | (with_reducible apply keeps_setFld)
    | (with_reducible apply keeps_raise)
    | (fail_if_no_progress extract_lets)
    | intro _
    | (with_reducible split)

theorem keeps_applyLive {q₀ : Bool} {b₀ b : Block} (h₀ : Keeps q₀ b₀ b) (k : Nat) :
    Keeps q₀ b₀ (b.applyLive k) := by
  unfold Block.applyLive
  repeat' first
    | (with_reducible assumption)
    | (with_reducible exact Keeps.refl)
    | (with_reducible apply Keeps.ite)
    | (with_reducible refine Keeps.foldl ?_ (fun _ _ _ => ?_))
    | (with_reducible apply keeps_wr)
    | (with_reducible apply keeps_modLe)
    | (with_reducible apply keeps_rejectLive)
    | (fail_if_no_progress extract_lets)
    | intro _
    | (with_reducible split)

theorem keeps_miss {q₀ : Bool} {b₀ b : Block} (h₀ : Keeps q₀ b₀ b) (k : Nat) :
    Keeps q₀ b₀ (b.miss k) := by
  unfold Block.miss
  repeat' first
    | (with_reducible assumption)
    | (with_reducible exact Keeps.refl)
    | (with_reducible apply Keeps.ite)
    | (with_reducible refine Keeps.foldl ?_ (fun _ _ _ => ?_))
    | (with_reducible apply keeps_setFld)
    | (with_reducible apply keeps_modLe)
    | (fail_if_no_progress extract_lets)
    | intro _
    | (with_reducible split)

theorem keeps_recordCut {q₀ : Bool} {b₀ b : Block} (h₀ : Keeps q₀ b₀ b) (k : Nat) :
    Keeps q₀ b₀ (b.recordCut k) := by
  unfold Block.recordCut
  repeat' first
    | (with_reducible assumption)
    | (with_reducible exact Keeps.refl)
    | (with_reducible apply Keeps.ite)
    | (with_reducible refine Keeps.foldl ?_ (fun _ _ _ => ?_))
    | (with_reducible apply keeps_modLe)
    | (with_reducible apply keeps_miss)
    | (fail_if_no_progress extract_lets)
    | intro _
    | (with_reducible split)

theorem keeps_gapRestart {q₀ : Bool} {b₀ b : Block} (h₀ : Keeps q₀ b₀ b) (k : Nat) :
    Keeps q₀ b₀ (b.gapRestart k) := by
  unfold Block.gapRestart
  repeat' first
    | (with_reducible assumption)
    | (with_reducible exact Keeps.refl)
    | (with_reducible apply Keeps.ite)
    | (with_reducible refine Keeps.foldl ?_ (fun _ _ _ => ?_))
    | (with_reducible apply keeps_setPsw)
    | (with_reducible apply keeps_modServo)
    | (with_reducible apply keeps_publish)
    | (with_reducible apply keeps_setFld)
    | (with_reducible apply keeps_safeHold)
    | (fail_if_no_progress extract_lets)
    | intro _
    | (with_reducible split)

theorem keeps_dispatch {q₀ : Bool} {b₀ b : Block} (h₀ : Keeps q₀ b₀ b) (k : Nat) (d : Nat) :
    Keeps q₀ b₀ (b.dispatch k d) := by
  unfold Block.dispatch
  repeat' first
    | (with_reducible assumption)
    | (with_reducible exact Keeps.refl)
    | (with_reducible apply Keeps.ite)
    | (with_reducible refine Keeps.foldl ?_ (fun _ _ _ => ?_))
    | (with_reducible apply keeps_gapRestart)
    | (with_reducible apply keeps_modLe)
    | (with_reducible apply keeps_run)
    | (fail_if_no_progress extract_lets)
    | intro _
    | (with_reducible split)

theorem keeps_scan {q₀ : Bool} {b₀ : Block} (n : Nat) : ∀ {b : Block}, Keeps q₀ b₀ b → Keeps q₀ b₀ (b.scan n) := by
  induction n with
  | zero => exact fun h₀ => h₀
  | succ n ih =>
    intro b h₀
    unfold Block.scan
    repeat' first
      | (with_reducible assumption)
      | (with_reducible apply ih)
      | (with_reducible apply keeps_recordCut)
      | (with_reducible apply keeps_dispatch)
      | (with_reducible apply keeps_modLe)
      | (fail_if_no_progress extract_lets)
      | intro _
      | (with_reducible split)

theorem keeps_applyHeld {q₀ : Bool} {b₀ b : Block} (h₀ : Keeps q₀ b₀ b) (e : Nat × Word) :
    Keeps q₀ b₀ (b.applyHeld e) := by
  unfold Block.applyHeld
  repeat' first
    | (with_reducible assumption)
    | (with_reducible exact Keeps.refl)
    | (with_reducible apply Keeps.ite)
    | (with_reducible refine Keeps.foldl ?_ (fun _ _ _ => ?_))
    | (with_reducible apply keeps_commitData)
    | (with_reducible apply keeps_wr)
    | (with_reducible apply keeps_setFld)
    | (fail_if_no_progress extract_lets)
    | intro _
    | (with_reducible split)

theorem keeps_applyAllHeld {q₀ : Bool} {b₀ b : Block} (h₀ : Keeps q₀ b₀ b) :
    Keeps q₀ b₀ (b.applyAllHeld) := by
  unfold Block.applyAllHeld
  repeat' first
    | (with_reducible assumption)
    | (with_reducible exact Keeps.refl)
    | (with_reducible apply Keeps.ite)
    | (with_reducible refine Keeps.foldl ?_ (fun _ _ _ => ?_))
    | (with_reducible apply keeps_modLe)
    | (with_reducible apply keeps_applyHeld)
    | (fail_if_no_progress extract_lets)
    | intro _
    | (with_reducible split)

theorem keeps_cutRun {q₀ : Bool} {b₀ b : Block} (h₀ : Keeps q₀ b₀ b) :
    Keeps q₀ b₀ (b.cutRun) := by
  unfold Block.cutRun
  repeat' first
    | (with_reducible assumption)
    | (with_reducible exact Keeps.refl)
    | (with_reducible apply Keeps.ite)
    | (with_reducible refine Keeps.foldl ?_ (fun _ _ _ => ?_))
    | (with_reducible apply keeps_run)
    | (with_reducible apply keeps_modLe)
    | (with_reducible apply keeps_recordCut)
    | (with_reducible apply keeps_applyAllHeld)
    | (with_reducible apply keeps_scan)
    | (fail_if_no_progress extract_lets)
    | intro _
    | (with_reducible split)

theorem keeps_overrun {q₀ : Bool} {b₀ b : Block} (h₀ : Keeps q₀ b₀ b) : Keeps q₀ b₀ b.overrun := by
  unfold Block.overrun
  dsimp only
  generalize b.dueFrom b.le.next = rest
  repeat' first
    | (with_reducible assumption)
    | (with_reducible refine Keeps.foldl ?_ (fun _ _ _ => ?_))
    | (with_reducible apply keeps_miss)
    | (with_reducible apply keeps_postClose)
    | (with_reducible apply keeps_setFld)
    | (with_reducible apply keeps_bump)
    | (with_reducible apply keeps_recordCut)
    | (with_reducible apply keeps_modLe)
    | (with_reducible split)

theorem keeps_loopStep {q₀ : Bool} {b₀ b : Block} (h₀ : Keeps q₀ b₀ b) (cost : Nat) (f : LeRun → LeRun) :
    Keeps q₀ b₀ (b.loopStep cost f) := by
  unfold Block.loopStep
  repeat' first
    | (with_reducible assumption)
    | (with_reducible exact Keeps.refl)
    | (with_reducible apply Keeps.ite)
    | (with_reducible refine Keeps.foldl ?_ (fun _ _ _ => ?_))
    | (with_reducible apply keeps_run)
    | (with_reducible apply keeps_cutRun)
    | (with_reducible apply keeps_overrun)
    | (with_reducible apply keeps_modLe)
    | (fail_if_no_progress extract_lets)
    | intro _
    | (with_reducible split)

theorem keeps_portOut {q₀ : Bool} {b₀ b : Block} (h₀ : Keeps q₀ b₀ b) (p : Nat) (v : Word) :
    Keeps q₀ b₀ (b.portOut p v) := by
  unfold Block.portOut
  repeat' first
    | (with_reducible assumption)
    | (with_reducible exact Keeps.refl)
    | (with_reducible apply Keeps.ite)
    | (with_reducible refine Keeps.foldl ?_ (fun _ _ _ => ?_))
    | (with_reducible apply keeps_onSurf)
    | (with_reducible apply keeps_setFld)
    | (with_reducible apply keeps_putBit)
    | (with_reducible apply keeps_lsafePort)
    | (with_reducible apply keeps_onSpin)
    | (with_reducible apply keeps_modSpin)
    | (with_reducible apply keeps_onAxis)
    | (with_reducible apply keeps_modAxis)
    | (fail_if_no_progress extract_lets)
    | intro _
    | (with_reducible split)

theorem keeps_pgenCommit {q₀ : Bool} {b₀ b : Block} (h₀ : Keeps q₀ b₀ b) (a : Fin 9) (p : Int) (v : Int) (acc : Int) (t : Int) (landed : Bool) :
    Keeps q₀ b₀ (b.pgenCommit a p v acc t landed) := by
  unfold Block.pgenCommit
  repeat' first
    | (with_reducible assumption)
    | (with_reducible exact Keeps.refl)
    | (with_reducible apply Keeps.ite)
    | (with_reducible refine Keeps.foldl ?_ (fun _ _ _ => ?_))
    | (with_reducible apply keeps_modAxis)
    | (with_reducible apply keeps_setFld)
    | (with_reducible apply keeps_setBit)
    | (fail_if_no_progress extract_lets)
    | intro _
    | (with_reducible split)

theorem keeps_commitOne {q₀ : Bool} {b₀ b : Block} (h₀ : Keeps q₀ b₀ b) (entry : Nat) (e : Staged) :
    Keeps q₀ b₀ (b.commitOne entry e) := by
  unfold Block.commitOne
  repeat' first
    | (with_reducible assumption)
    | (with_reducible exact Keeps.refl)
    | (with_reducible apply Keeps.ite)
    | (with_reducible refine Keeps.foldl ?_ (fun _ _ _ => ?_))
    | (with_reducible apply keeps_commitData)
    | (with_reducible apply keeps_portOut)
    | (with_reducible apply keeps_setPsw)
    | (with_reducible apply keeps_setFld)
    | (with_reducible apply keeps_bump)
    | (with_reducible apply keeps_raise)
    | (with_reducible apply keeps_onAxis)
    | (with_reducible apply keeps_pgenCommit)
    | (fail_if_no_progress extract_lets)
    | intro _
    | (with_reducible split)

theorem keeps_setSatFlag {q₀ : Bool} {b₀ b : Block} (h₀ : Keeps q₀ b₀ b) (k : Nat) :
    Keeps q₀ b₀ (b.setSatFlag k) := by
  unfold Block.setSatFlag
  repeat' first
    | (with_reducible assumption)
    | (with_reducible exact Keeps.refl)
    | (with_reducible apply Keeps.ite)
    | (with_reducible refine Keeps.foldl ?_ (fun _ _ _ => ?_))
    | (with_reducible apply keeps_putBit)
    | (with_reducible apply keeps_raise)
    | (fail_if_no_progress extract_lets)
    | intro _
    | (with_reducible split)

theorem keeps_commit {q₀ : Bool} {b₀ b : Block} (h₀ : Keeps q₀ b₀ b) (r : LeRun) (used : Nat) :
    Keeps q₀ b₀ (b.commit r used) := by
  unfold Block.commit
  repeat' first
    | (with_reducible assumption)
    | (with_reducible exact Keeps.refl)
    | (with_reducible apply Keeps.ite)
    | (with_reducible refine Keeps.foldl ?_ (fun _ _ _ => ?_))
    | (with_reducible apply keeps_modLe)
    | (with_reducible apply keeps_run)
    | (with_reducible apply keeps_commitOne)
    | (with_reducible apply keeps_setSatFlag)
    | (with_reducible apply keeps_setFld)
    | (with_reducible apply keeps_applyAllHeld)
    | (with_reducible apply keeps_scan)
    | (fail_if_no_progress extract_lets)
    | intro _
    | (with_reducible split)

/-! ### Machine/WritePath.lean -/

theorem keeps_losePass {q₀ : Bool} {b₀ b : Block} (h₀ : Keeps q₀ b₀ b) (s : Fin 4) :
    Keeps q₀ b₀ (b.losePass s) := by
  unfold Block.losePass
  repeat' first
    | (with_reducible assumption)
    | (with_reducible exact Keeps.refl)
    | (with_reducible apply Keeps.ite)
    | (with_reducible refine Keeps.foldl ?_ (fun _ _ _ => ?_))
    | (with_reducible apply keeps_modWp)
    | (with_reducible apply keeps_modCalSurf)
    | (with_reducible apply keeps_putBit)
    | (fail_if_no_progress extract_lets)
    | intro _
    | (with_reducible split)

theorem keeps_selectSpot {q₀ : Bool} {b₀ b : Block} (h₀ : Keeps q₀ b₀ b) (s : Fin 4) (verify : Bool) :
    Keeps q₀ b₀ (b.selectSpot s verify) := by
  unfold Block.selectSpot
  repeat' first
    | (with_reducible assumption)
    | (with_reducible exact Keeps.refl)
    | (with_reducible apply Keeps.ite)
    | (with_reducible refine Keeps.foldl ?_ (fun _ _ _ => ?_))
    | (with_reducible apply keeps_sedge)
    | (with_reducible apply keeps_modWp)
    | (fail_if_no_progress extract_lets)
    | intro _
    | (with_reducible split)

theorem keeps_plan {q₀ : Bool} {b₀ b : Block} (h₀ : Keeps q₀ b₀ b) (s : Fin 4) (kind : PassKind) (band : Nat) (swath : Nat) (first : Nat) (stripes : List (List Cell)) (images : List (List CellImage)) :
    Keeps q₀ b₀ (b.plan s kind band swath first stripes images) := by
  unfold Block.plan
  repeat' first
    | (with_reducible assumption)
    | (with_reducible exact Keeps.refl)
    | (with_reducible apply Keeps.ite)
    | (with_reducible refine Keeps.foldl ?_ (fun _ _ _ => ?_))
    | (with_reducible apply keeps_setFld)
    | (with_reducible apply keeps_modWp)
    | (with_reducible apply keeps_putBit)
    | (with_reducible apply keeps_selectSpot)
    | (fail_if_no_progress extract_lets)
    | intro _
    | (with_reducible split)

theorem keeps_execPassPlan {q₀ : Bool} {b₀ : Block} {s t : State} {s' : Fin 4} {offered : List (List Cell)} (e₀ : execPassPlan s' offered s = .next t)
    (h₀ : Keeps q₀ b₀ s.toBlock) : Keeps q₀ b₀ t.toBlock := by
  unfold execPassPlan at e₀
  refine Keeps.upd e₀ h₀ (fun _ _ => ?_)
  repeat' first
    | (with_reducible assumption)
    | (with_reducible exact Keeps.refl)
    | (with_reducible apply Keeps.ite)
    | (with_reducible refine Keeps.foldl ?_ (fun _ _ _ => ?_))
    | (with_reducible apply keeps_onSurf)
    | (with_reducible apply keeps_modWp)
    | (with_reducible apply keeps_putBit)
    | (with_reducible apply keeps_losePass)
    | (with_reducible apply keeps_run)
    | (with_reducible apply keeps_plan)
    | (fail_if_no_progress extract_lets)
    | intro _
    | (with_reducible split)

theorem keeps_verifyThrottle {q₀ : Bool} {b₀ b : Block} (h₀ : Keeps q₀ b₀ b) (s : Fin 4) :
    Keeps q₀ b₀ (b.verifyThrottle s) := by
  unfold Block.verifyThrottle
  repeat' first
    | (with_reducible assumption)
    | (with_reducible exact Keeps.refl)
    | (with_reducible apply Keeps.ite)
    | (with_reducible refine Keeps.foldl ?_ (fun _ _ _ => ?_))
    | (with_reducible apply keeps_modWp)
    | (with_reducible apply keeps_putBit)
    | (with_reducible apply keeps_raiseSurf)
    | (fail_if_no_progress extract_lets)
    | intro _
    | (with_reducible split)

theorem keeps_endPass {q₀ : Bool} {b₀ b : Block} (h₀ : Keeps q₀ b₀ b) (s : Fin 4) :
    Keeps q₀ b₀ (b.endPass s) := by
  unfold Block.endPass
  repeat' first
    | (with_reducible assumption)
    | (with_reducible exact Keeps.refl)
    | (with_reducible apply Keeps.ite)
    | (with_reducible refine Keeps.foldl ?_ (fun _ _ _ => ?_))
    | (with_reducible apply keeps_modWp)
    | (with_reducible apply keeps_putBit)
    | (with_reducible apply keeps_addStripes)
    | (with_reducible apply keeps_movePointer)
    | (with_reducible apply keeps_advanceVseq)
    | (fail_if_no_progress extract_lets)
    | intro _
    | (with_reducible split)

theorem keeps_startPass {q₀ : Bool} {b₀ b : Block} (h₀ : Keeps q₀ b₀ b) (s : Fin 4) :
    Keeps q₀ b₀ (b.startPass s) := by
  unfold Block.startPass
  repeat' first
    | (with_reducible assumption)
    | (with_reducible exact Keeps.refl)
    | (with_reducible apply Keeps.ite)
    | (with_reducible refine Keeps.foldl ?_ (fun _ _ _ => ?_))
    | (with_reducible apply keeps_modWp)
    | (with_reducible apply keeps_putBit)
    | (fail_if_no_progress extract_lets)
    | intro _
    | (with_reducible split)

theorem keeps_execStopRequest {q₀ : Bool} {b₀ : Block} {s t : State} {s' : Fin 4} (e₀ : execStopRequest s' s = .next t)
    (h₀ : Keeps q₀ b₀ s.toBlock) : Keeps q₀ b₀ t.toBlock := by
  unfold execStopRequest at e₀
  refine Keeps.upd e₀ h₀ (fun _ _ => ?_)
  repeat' first
    | (with_reducible assumption)
    | (with_reducible exact Keeps.refl)
    | (with_reducible apply Keeps.ite)
    | (with_reducible refine Keeps.foldl ?_ (fun _ _ _ => ?_))
    | (with_reducible apply keeps_onSurf)
    | (with_reducible apply keeps_modWp)
    | (with_reducible apply keeps_cancelPlan)
    | (fail_if_no_progress extract_lets)
    | intro _
    | (with_reducible split)

theorem keeps_execVerifyJobDone {q₀ : Bool} {b₀ : Block} {s t : State} {s' : Fin 4} {wseq : BitVec 32} {beam : Fin 16} {v : Verdict} (e₀ : execVerifyJobDone s' wseq beam v s = .next t)
    (h₀ : Keeps q₀ b₀ s.toBlock) : Keeps q₀ b₀ t.toBlock := by
  unfold execVerifyJobDone at e₀
  refine Keeps.upd e₀ h₀ (fun _ _ => ?_)
  repeat' first
    | (with_reducible assumption)
    | (with_reducible exact Keeps.refl)
    | (with_reducible apply Keeps.ite)
    | (with_reducible refine Keeps.foldl ?_ (fun _ _ _ => ?_))
    | (with_reducible apply keeps_onSurf)
    | (with_reducible apply keeps_modWp)
    | (with_reducible apply keeps_cellBad)
    | (fail_if_no_progress extract_lets)
    | intro _
    | (with_reducible split)

theorem keeps_execVerifyLate {q₀ : Bool} {b₀ : Block} {s t : State} {s' : Fin 4} {wseq : BitVec 32} {beam : Fin 16} (e₀ : execVerifyLate s' wseq beam s = .next t)
    (h₀ : Keeps q₀ b₀ s.toBlock) : Keeps q₀ b₀ t.toBlock := by
  unfold execVerifyLate at e₀
  refine Keeps.upd e₀ h₀ (fun _ _ => ?_)
  repeat' first
    | (with_reducible assumption)
    | (with_reducible exact Keeps.refl)
    | (with_reducible apply Keeps.ite)
    | (with_reducible refine Keeps.foldl ?_ (fun _ _ _ => ?_))
    | (with_reducible apply keeps_onSurf)
    | (with_reducible apply keeps_modWp)
    | (with_reducible apply keeps_bump)
    | (with_reducible apply keeps_raiseSurf)
    | (fail_if_no_progress extract_lets)
    | intro _
    | (with_reducible split)

theorem keeps_planReloc {q₀ : Bool} {b₀ b : Block} (h₀ : Keeps q₀ b₀ b) (s : Fin 4) (band : Nat) :
    Keeps q₀ b₀ (b.planReloc s band) := by
  unfold Block.planReloc
  repeat' first
    | (with_reducible assumption)
    | (with_reducible exact Keeps.refl)
    | (with_reducible apply Keeps.ite)
    | (with_reducible refine Keeps.foldl ?_ (fun _ _ _ => ?_))
    | (with_reducible apply keeps_modWp)
    | (with_reducible apply keeps_bump)
    | (with_reducible apply keeps_modCalSurf)
    | (with_reducible apply keeps_plan)
    | (fail_if_no_progress extract_lets)
    | intro _
    | (with_reducible split)

theorem keeps_execRelocationVisit {q₀ : Bool} {b₀ : Block} {s t : State} {s' : Fin 4} {band : BitVec 16} (e₀ : execRelocationVisit s' band s = .next t)
    (h₀ : Keeps q₀ b₀ s.toBlock) : Keeps q₀ b₀ t.toBlock := by
  unfold execRelocationVisit at e₀
  refine Keeps.upd e₀ h₀ (fun _ _ => ?_)
  repeat' first
    | (with_reducible assumption)
    | (with_reducible exact Keeps.refl)
    | (with_reducible apply Keeps.ite)
    | (with_reducible refine Keeps.foldl ?_ (fun _ _ _ => ?_))
    | (with_reducible apply keeps_onSurf)
    | (with_reducible apply keeps_losePass)
    | (with_reducible apply keeps_planReloc)
    | (fail_if_no_progress extract_lets)
    | intro _
    | (with_reducible split)

theorem keeps_execRelocationMaxwait {q₀ : Bool} {b₀ : Block} {s t : State} {s' : Fin 4} {band : BitVec 16} (e₀ : execRelocationMaxwait s' band s = .next t)
    (h₀ : Keeps q₀ b₀ s.toBlock) : Keeps q₀ b₀ t.toBlock := by
  unfold execRelocationMaxwait at e₀
  refine Keeps.upd e₀ h₀ (fun _ _ => ?_)
  repeat' first
    | (with_reducible assumption)
    | (with_reducible exact Keeps.refl)
    | (with_reducible apply Keeps.ite)
    | (with_reducible refine Keeps.foldl ?_ (fun _ _ _ => ?_))
    | (with_reducible apply keeps_onSurf)
    | (with_reducible apply keeps_modWp)
    | (fail_if_no_progress extract_lets)
    | intro _
    | (with_reducible split)

theorem keeps_stripeDurable {q₀ : Bool} {b₀ b : Block} (h₀ : Keeps q₀ b₀ b) (s : Fin 4) (q : Nat) :
    Keeps q₀ b₀ (b.stripeDurable s q) := by
  unfold Block.stripeDurable
  repeat' first
    | (with_reducible assumption)
    | (with_reducible exact Keeps.refl)
    | (with_reducible apply Keeps.ite)
    | (with_reducible refine Keeps.foldl ?_ (fun _ _ _ => ?_))
    | (with_reducible apply keeps_modWp)
    | (with_reducible apply keeps_advanceVseq)
    | (fail_if_no_progress extract_lets)
    | intro _
    | (with_reducible split)

/-! ### Machine/Placement.lean -/

theorem keeps_keepCover {q₀ : Bool} {b₀ b : Block} (h₀ : Keeps q₀ b₀ b) :
    Keeps q₀ b₀ (b.keepCover) := by
  unfold Block.keepCover
  repeat' first
    | (with_reducible assumption)
    | (with_reducible exact Keeps.refl)
    | (with_reducible apply Keeps.ite)
    | (with_reducible refine Keeps.foldl ?_ (fun _ _ _ => ?_))
    | (with_reducible apply keeps_modHq)
    | (fail_if_no_progress extract_lets)
    | intro _
    | (with_reducible split)

theorem keeps_modChunks {q₀ : Bool} {b₀ b : Block} (h₀ : Keeps q₀ b₀ b) (p : Chunk → Bool) (f : Chunk → Chunk) :
    Keeps q₀ b₀ (b.modChunks p f) := by
  unfold Block.modChunks
  repeat' first
    | (with_reducible assumption)
    | (with_reducible exact Keeps.refl)
    | (with_reducible apply Keeps.ite)
    | (with_reducible refine Keeps.foldl ?_ (fun _ _ _ => ?_))
    | (with_reducible apply keeps_modStore)
    | (fail_if_no_progress extract_lets)
    | intro _
    | (with_reducible split)

theorem keeps_releaseDram {q₀ : Bool} {b₀ b : Block} (h₀ : Keeps q₀ b₀ b) (p : Chunk → Bool) :
    Keeps q₀ b₀ (b.releaseDram p) := by
  unfold Block.releaseDram
  repeat' first
    | (with_reducible assumption)
    | (with_reducible exact Keeps.refl)
    | (with_reducible apply Keeps.ite)
    | (with_reducible refine Keeps.foldl ?_ (fun _ _ _ => ?_))
    | (with_reducible apply keeps_modChunks)
    | (with_reducible apply keeps_modHq)
    | (fail_if_no_progress extract_lets)
    | intro _
    | (with_reducible split)

theorem keeps_purgeOlds {q₀ : Bool} {b₀ b : Block} (h₀ : Keeps q₀ b₀ b) :
    Keeps q₀ b₀ (b.purgeOlds) := by
  unfold Block.purgeOlds
  repeat' first
    | (with_reducible assumption)
    | (with_reducible exact Keeps.refl)
    | (with_reducible apply Keeps.ite)
    | (with_reducible refine Keeps.foldl ?_ (fun _ _ _ => ?_))
    | (with_reducible apply keeps_modStore)
    | (with_reducible apply keeps_modHq)
    | (fail_if_no_progress extract_lets)
    | intro _
    | (with_reducible split)

/-! ### Machine/MirrorOps.lean -/

theorem keeps_mirrorFetch {q₀ : Bool} {b₀ b : Block} (h₀ : Keeps q₀ b₀ b) (c : Cmd) :
    Keeps q₀ b₀ (b.mirrorFetch c) := by
  unfold Block.mirrorFetch
  repeat' first
    | (with_reducible assumption)
    | (with_reducible exact Keeps.refl)
    | (with_reducible apply Keeps.ite)
    | (with_reducible refine Keeps.foldl ?_ (fun _ _ _ => ?_))
    | (with_reducible apply keeps_setTxMseq)
    | (with_reducible apply keeps_modCmd)
    | (with_reducible apply keeps_melarSend)
    | (with_reducible apply keeps_modMl)
    | (fail_if_no_progress extract_lets)
    | intro _
    | (with_reducible split)

theorem keeps_setLag {q₀ : Bool} {b₀ b : Block} (h₀ : Keeps q₀ b₀ b) :
    Keeps q₀ b₀ (b.setLag) := by
  unfold Block.setLag
  repeat' first
    | (with_reducible assumption)
    | (with_reducible exact Keeps.refl)
    | (with_reducible apply Keeps.ite)
    | (with_reducible refine Keeps.foldl ?_ (fun _ _ _ => ?_))
    | (with_reducible apply keeps_setFld)
    | (with_reducible apply keeps_raise)
    | (fail_if_no_progress extract_lets)
    | intro _
    | (with_reducible split)

theorem keeps_mirrorData {q₀ : Bool} {b₀ b : Block} (h₀ : Keeps q₀ b₀ b) (c : Cmd) (bytes : List Byte) :
    Keeps q₀ b₀ (b.mirrorData c bytes) := by
  unfold Block.mirrorData
  repeat' first
    | (with_reducible assumption)
    | (with_reducible exact Keeps.refl)
    | (with_reducible apply Keeps.ite)
    | (with_reducible refine Keeps.foldl ?_ (fun _ _ _ => ?_))
    | (with_reducible apply keeps_melarSend)
    | (with_reducible apply keeps_modCmd)
    | (with_reducible apply keeps_modMl)
    | (with_reducible apply keeps_setLag)
    | (fail_if_no_progress extract_lets)
    | intro _
    | (with_reducible split)

end Sys2Proof.Machine
end

