-- ==== Sys2Proof/Laws/KeepsHost.lean ====
section
/-!
SUPPORT. What the host interface and the cipher engine keep, one lemma for each operation and each command.
-/

set_option Elab.async false
set_option linter.unreachableTactic false
set_option linter.unusedTactic false

namespace Sys2Proof.Machine

/-! ### Machine/Host.lean -/

theorem keeps_fetchOne {q₀ : Bool} {b₀ b : Block} (h₀ : Keeps q₀ b₀ b) (q : Nat) (d : Vector Word 16) :
    Keeps q₀ b₀ (b.fetchOne q d) := by
  unfold Block.fetchOne
  repeat' first
    | (with_reducible assumption)
    | (with_reducible exact Keeps.refl)
    | (with_reducible apply Keeps.ite)
    | (with_reducible refine Keeps.foldl ?_ (fun _ _ _ => ?_))
    | (with_reducible apply keeps_setFld)
    | (with_reducible apply keeps_bump)
    | (with_reducible apply keeps_modHq)
    | (with_reducible apply keeps_post)
    | (with_reducible apply keeps_modClip)
    | (with_reducible apply keeps_placeEntries)
    | (with_reducible apply keeps_mirrorFetch)
    | (fail_if_no_progress extract_lets)
    | intro _
    | (with_reducible split)

theorem keeps_fetchMany {q₀ : Bool} {b₀ : Block} (q n : Nat) (l : List (Vector Word 16)) :
    ∀ {b : Block}, Keeps q₀ b₀ b → Keeps q₀ b₀ (b.fetchMany q n l) := by
  induction n generalizing l with
  | zero => intro b h; unfold Block.fetchMany; exact h
  | succ n ih =>
    intro b h
    cases l with
    | nil => exact h
    | cons d t =>
      unfold Block.fetchMany
      split
      · exact ih _ (keeps_fetchOne h _ _)
      · exact h

theorem keeps_mapPair {q₀ : Bool} {b₀ c : Block} {o : Option Nat} {f : Nat → Nat × Block} {q : Nat}
    (hf : ∀ n, Keeps q₀ b₀ (f n).2) (e : o.map f = some (q, c)) : Keeps q₀ b₀ c := by
  cases o with
  | none => cases e
  | some n =>
    have h := hf n
    simp only [Option.map_some, Option.some.injEq] at e
    rw [e] at h; exact h

theorem keeps_nextArb {q₀ : Bool} {b₀ b c : Block} {q : Nat} (h₀ : Keeps q₀ b₀ b) (e : b.arbitrate = some (q, c)) :
    Keeps q₀ b₀ c := by
  have hm : ∀ f : Hq → Hq, Keeps q₀ b₀ (b.modHq f) := fun f => keeps_modHq h₀ f
  unfold Block.arbitrate at e
  dsimp only at e
  split at e
  · cases e; exact h₀
  · split at e
    · exact keeps_mapPair (fun n => Keeps.pair rfl (hm _)) e
    · split at e
      · exact keeps_mapPair (fun n => Keeps.pair rfl (hm _)) e
      · split at e
        · cases e
        · refine keeps_mapPair (fun n => ?_) e
          refine Keeps.pair rfl ?_
          refine keeps_modHq (keeps_modHq ?_ _) _
          split
          · exact h₀
          · exact hm _

theorem keeps_execCommandFetch {q₀ : Bool} {b₀ : Block} {s t : State} {entries : List (Vector Word 16)}
    (e₀ : execCommandFetch entries s = .next t) (h₀ : Keeps q₀ b₀ s.toBlock) : Keeps q₀ b₀ t.toBlock := by
  unfold execCommandFetch at e₀
  refine Keeps.upd e₀ h₀ (fun _ h => ?_)
  split
  · exact h
  · rename_i e
    split
    · exact h
    · exact keeps_fetchMany _ _ _ (keeps_nextArb h e)

theorem keeps_execLockGrant {q₀ : Bool} {b₀ : Block} {s t : State} {tag : Nat} (e₀ : execLockGrant tag s = .next t)
    (h₀ : Keeps q₀ b₀ s.toBlock) : Keeps q₀ b₀ t.toBlock := by
  unfold execLockGrant at e₀
  refine Keeps.upd e₀ h₀ (fun _ _ => ?_)
  repeat' first
    | (with_reducible assumption)
    | (with_reducible exact Keeps.refl)
    | (with_reducible apply Keeps.ite)
    | (with_reducible refine Keeps.foldl ?_ (fun _ _ _ => ?_))
    | (with_reducible apply keeps_conflict)
    | (with_reducible apply keeps_modCmd)
    | (fail_if_no_progress extract_lets)
    | intro _
    | (with_reducible split)

theorem keeps_execIngestReserve {q₀ : Bool} {b₀ : Block} {s t : State} {tag : Nat} (e₀ : execIngestReserve tag s = .next t)
    (h₀ : Keeps q₀ b₀ s.toBlock) : Keeps q₀ b₀ t.toBlock := by
  unfold execIngestReserve at e₀
  refine Keeps.upd e₀ h₀ (fun _ _ => ?_)
  repeat' first
    | (with_reducible assumption)
    | (with_reducible exact Keeps.refl)
    | (with_reducible apply Keeps.ite)
    | (with_reducible refine Keeps.foldl ?_ (fun _ _ _ => ?_))
    | (with_reducible apply keeps_modCmd)
    | (with_reducible apply keeps_modHq)
    | (fail_if_no_progress extract_lets)
    | intro _
    | (with_reducible split)

theorem keeps_startWrite {q₀ : Bool} {b₀ b : Block} (h₀ : Keeps q₀ b₀ b) (c : Cmd) :
    Keeps q₀ b₀ (b.startWrite c) := by
  unfold Block.startWrite
  repeat' first
    | (with_reducible assumption)
    | (with_reducible exact Keeps.refl)
    | (with_reducible apply Keeps.ite)
    | (with_reducible refine Keeps.foldl ?_ (fun _ _ _ => ?_))
    | (with_reducible apply keeps_modVol)
    | (with_reducible apply keeps_modCmd)
    | (with_reducible apply keeps_setBit)
    | (with_reducible apply keeps_modClip)
    | (fail_if_no_progress extract_lets)
    | intro _
    | (with_reducible split)

theorem keeps_execCommandStart {q₀ : Bool} {b₀ : Block} {s t : State} {tag : Nat} {segs : List Segment} (e₀ : execCommandStart tag segs s = .next t)
    (h₀ : Keeps q₀ b₀ s.toBlock) : Keeps q₀ b₀ t.toBlock := by
  unfold execCommandStart at e₀
  refine Keeps.upd e₀ h₀ (fun _ _ => ?_)
  repeat' first
    | (with_reducible assumption)
    | (with_reducible exact Keeps.refl)
    | (with_reducible apply Keeps.ite)
    | (with_reducible refine Keeps.foldl ?_ (fun _ _ _ => ?_))
    | (with_reducible apply keeps_modCmd)
    | (with_reducible apply keeps_dropClaims)
    | (with_reducible apply keeps_finish)
    | (with_reducible apply keeps_startWrite)
    | (fail_if_no_progress extract_lets)
    | intro _
    | (with_reducible split)

theorem keeps_stampEntry {q₀ : Bool} {b₀ b : Block} (h₀ : Keeps q₀ b₀ b) (c : Cmd) :
    Keeps q₀ b₀ (b.stampEntry c) := by
  unfold Block.stampEntry
  repeat' first
    | (with_reducible assumption)
    | (with_reducible exact Keeps.refl)
    | (with_reducible apply Keeps.ite)
    | (with_reducible refine Keeps.foldl ?_ (fun _ _ _ => ?_))
    | (with_reducible apply keeps_journalBoth)
    | (fail_if_no_progress extract_lets)
    | intro _
    | (with_reducible split)

theorem keeps_resetDone {q₀ : Bool} {b₀ b : Block} (h₀ : Keeps q₀ b₀ b) :
    Keeps q₀ b₀ (b.resetDone) := by
  unfold Block.resetDone
  repeat' first
    | (with_reducible assumption)
    | (with_reducible exact Keeps.refl)
    | (with_reducible apply Keeps.ite)
    | (with_reducible refine Keeps.foldl ?_ (fun _ _ _ => ?_))
    | (with_reducible apply keeps_modHq)
    | (with_reducible apply keeps_setBit)
    | (with_reducible apply keeps_raise)
    | (fail_if_no_progress extract_lets)
    | intro _
    | (with_reducible split)

theorem keeps_dropPair {q₀ : Bool} {b₀ b : Block} (h₀ : Keeps q₀ b₀ b) (q : Nat) :
    Keeps q₀ b₀ (b.dropPair q) := by
  unfold Block.dropPair
  repeat' first
    | (with_reducible assumption)
    | (with_reducible exact Keeps.refl)
    | (with_reducible apply Keeps.ite)
    | (with_reducible refine Keeps.foldl ?_ (fun _ _ _ => ?_))
    | (with_reducible apply keeps_putBit)
    | (with_reducible apply keeps_wr)
    | (fail_if_no_progress extract_lets)
    | intro _
    | (with_reducible split)

theorem keeps_deleteDone {q₀ : Bool} {b₀ b : Block} (h₀ : Keeps q₀ b₀ b) :
    Keeps q₀ b₀ (b.deleteDone) := by
  unfold Block.deleteDone
  repeat' first
    | (with_reducible assumption)
    | (with_reducible exact Keeps.refl)
    | (with_reducible apply Keeps.ite)
    | (with_reducible refine Keeps.foldl ?_ (fun _ _ _ => ?_))
    | (with_reducible apply keeps_dropPair)
    | (with_reducible apply keeps_modHq)
    | (with_reducible apply keeps_finish)
    | (fail_if_no_progress extract_lets)
    | intro _
    | (with_reducible split)

theorem keeps_badDoorbell {q₀ : Bool} {b₀ b : Block} (h₀ : Keeps q₀ b₀ b) (kind : Nat) (cq : Bool) (q : Nat) (v : Nat) :
    Keeps q₀ b₀ (b.badDoorbell kind cq q v) := by
  unfold Block.badDoorbell
  repeat' first
    | (with_reducible assumption)
    | (with_reducible exact Keeps.refl)
    | (with_reducible apply Keeps.ite)
    | (with_reducible refine Keeps.foldl ?_ (fun _ _ _ => ?_))
    | (with_reducible apply keeps_setBit)
    | (with_reducible apply keeps_setFld)
    | (with_reducible apply keeps_raise)
    | (with_reducible apply keeps_async)
    | (fail_if_no_progress extract_lets)
    | intro _
    | (with_reducible split)

theorem keeps_execSqTailDoorbell {q₀ : Bool} {b₀ : Block} {s t : State} {q : Fin 128} {v : Word} (e₀ : execSqTailDoorbell q v s = .next t)
    (h₀ : Keeps q₀ b₀ s.toBlock) : Keeps q₀ b₀ t.toBlock := by
  unfold execSqTailDoorbell at e₀
  refine Keeps.upd e₀ h₀ (fun _ _ => ?_)
  repeat' first
    | (with_reducible assumption)
    | (with_reducible exact Keeps.refl)
    | (with_reducible apply Keeps.ite)
    | (with_reducible refine Keeps.foldl ?_ (fun _ _ _ => ?_))
    | (with_reducible apply keeps_badDoorbell)
    | (with_reducible apply keeps_setFld)
    | (fail_if_no_progress extract_lets)
    | intro _
    | (with_reducible split)

theorem keeps_execCqHeadDoorbell {q₀ : Bool} {b₀ : Block} {s t : State} {q : Fin 128} {v : Word} (e₀ : execCqHeadDoorbell q v s = .next t)
    (h₀ : Keeps q₀ b₀ s.toBlock) : Keeps q₀ b₀ t.toBlock := by
  unfold execCqHeadDoorbell at e₀
  refine Keeps.upd e₀ h₀ (fun _ _ => ?_)
  repeat' first
    | (with_reducible assumption)
    | (with_reducible exact Keeps.refl)
    | (with_reducible apply Keeps.ite)
    | (with_reducible refine Keeps.foldl ?_ (fun _ _ _ => ?_))
    | (with_reducible apply keeps_badDoorbell)
    | (with_reducible apply keeps_setFld)
    | (with_reducible refine keeps_modIrq ?_ _ (Irq.wf_eq _ _ _ rfl))
    | (with_reducible refine keeps_modIrq ?_ _ (Irq.wf_filter _ _ _ _ rfl))
    | (with_reducible apply keeps_clearPend)
    | (fail_if_no_progress extract_lets)
    | intro _
    | (with_reducible split)

theorem keeps_makePair {q₀ : Bool} {b₀ b : Block} (h₀ : Keeps q₀ b₀ b) (q : Nat) (sqs : Nat) (cqs : Nat) (vec : Nat) (cls : Nat) :
    Keeps q₀ b₀ (b.makePair q sqs cqs vec cls) := by
  unfold Block.makePair
  repeat' first
    | (with_reducible assumption)
    | (with_reducible exact Keeps.refl)
    | (with_reducible apply Keeps.ite)
    | (with_reducible refine Keeps.foldl ?_ (fun _ _ _ => ?_))
    | (with_reducible apply keeps_dropPair)
    | (with_reducible apply keeps_putBit)
    | (with_reducible apply keeps_setFld)
    | (fail_if_no_progress extract_lets)
    | intro _
    | (with_reducible split)

theorem keeps_ctlReset {q₀ : Bool} {b₀ b : Block} (h₀ : Keeps q₀ b₀ b) :
    Keeps q₀ b₀ (b.ctlReset) := by
  unfold Block.ctlReset
  repeat' first
    | (with_reducible assumption)
    | (with_reducible exact Keeps.refl)
    | (with_reducible apply Keeps.ite)
    | (with_reducible refine Keeps.foldl ?_ (fun _ _ _ => ?_))
    | (with_reducible apply keeps_setBit)
    | (with_reducible apply keeps_raise)
    | (with_reducible apply keeps_modHq)
    | (with_reducible apply keeps_async)
    | (with_reducible apply keeps_postOne)
    | (with_reducible apply keeps_dropPair)
    | (with_reducible refine keeps_modIrq ?_ _ (Irq.wf_eq _ _ _ rfl))
    | (with_reducible refine keeps_modIrq ?_ _ (Irq.wf_filter _ _ _ _ rfl))
    | (with_reducible apply keeps_resetDone)
    | (fail_if_no_progress extract_lets)
    | intro _
    | (with_reducible split)

theorem keeps_execCompletionPost {q₀ : Bool} {b₀ : Block} {s t : State} {tag : Nat} (e₀ : execCompletionPost tag s = .next t)
    (h₀ : Keeps q₀ b₀ s.toBlock) : Keeps q₀ b₀ t.toBlock := by
  unfold execCompletionPost at e₀
  refine Keeps.upd e₀ h₀ (fun _ _ => ?_)
  repeat' first
    | (with_reducible assumption)
    | (with_reducible exact Keeps.refl)
    | (with_reducible apply Keeps.ite)
    | (with_reducible refine Keeps.foldl ?_ (fun _ _ _ => ?_))
    | (with_reducible apply keeps_stampEntry)
    | (with_reducible apply keeps_post)
    | (with_reducible apply keeps_resetDone)
    | (with_reducible apply keeps_deleteDone)
    | (with_reducible apply keeps_ctlReset)
    | (with_reducible apply keeps_modHq)
    | (with_reducible apply keeps_async)
    | (fail_if_no_progress extract_lets)
    | intro _
    | (with_reducible split)

theorem keeps_execControllerReset {q₀ : Bool} {b₀ : Block} {s t : State} {cause : CtlReset} (e₀ : execControllerReset cause s = .next t)
    (h₀ : Keeps q₀ b₀ s.toBlock) : Keeps q₀ b₀ t.toBlock := by
  unfold execControllerReset at e₀
  refine Keeps.upd e₀ h₀ (fun _ _ => ?_)
  repeat' first
    | (with_reducible assumption)
    | (with_reducible exact Keeps.refl)
    | (with_reducible apply Keeps.ite)
    | (with_reducible refine Keeps.foldl ?_ (fun _ _ _ => ?_))
    | (with_reducible apply keeps_ctlReset)
    | (with_reducible refine keeps_modIrq ?_ _ (Irq.wf_eq _ _ _ rfl))
    | (with_reducible refine keeps_modIrq ?_ _ (Irq.wf_filter _ _ _ _ rfl))
    | (with_reducible apply keeps_modHq)
    | (with_reducible apply keeps_wr)
    | (with_reducible apply keeps_raise)
    | (fail_if_no_progress extract_lets)
    | intro _
    | (with_reducible split)

theorem keeps_tryReady {q₀ : Bool} {b₀ b : Block} (h₀ : Keeps q₀ b₀ b) :
    Keeps q₀ b₀ (b.tryReady) := by
  unfold Block.tryReady
  repeat' first
    | (with_reducible assumption)
    | (with_reducible exact Keeps.refl)
    | (with_reducible apply Keeps.ite)
    | (with_reducible refine Keeps.foldl ?_ (fun _ _ _ => ?_))
    | (with_reducible apply keeps_setBit)
    | (with_reducible apply keeps_raise)
    | (with_reducible apply keeps_makePair)
    | (fail_if_no_progress extract_lets)
    | intro _
    | (with_reducible split)

theorem keeps_ctlEnable {q₀ : Bool} {b₀ b : Block} (h₀ : Keeps q₀ b₀ b) (arbmode : Bool) :
    Keeps q₀ b₀ (b.ctlEnable arbmode) := by
  unfold Block.ctlEnable
  repeat' first
    | (with_reducible assumption)
    | (with_reducible exact Keeps.refl)
    | (with_reducible apply Keeps.ite)
    | (with_reducible refine Keeps.foldl ?_ (fun _ _ _ => ?_))
    | (with_reducible apply keeps_setBit)
    | (with_reducible apply keeps_tryReady)
    | (fail_if_no_progress extract_lets)
    | intro _
    | (with_reducible split)

theorem keeps_execControllerEnable {q₀ : Bool} {b₀ : Block} {s t : State} {arbmode : Bool} (e₀ : execControllerEnable arbmode s = .next t)
    (h₀ : Keeps q₀ b₀ s.toBlock) : Keeps q₀ b₀ t.toBlock := by
  unfold execControllerEnable at e₀
  refine Keeps.upd e₀ h₀ (fun _ _ => ?_)
  repeat' first
    | (with_reducible assumption)
    | (with_reducible exact Keeps.refl)
    | (with_reducible apply Keeps.ite)
    | (with_reducible refine Keeps.foldl ?_ (fun _ _ _ => ?_))
    | (with_reducible apply keeps_ctlEnable)
    | (fail_if_no_progress extract_lets)
    | intro _
    | (with_reducible split)

theorem keeps_execHostDmaFailure {q₀ : Bool} {b₀ : Block} {s t : State} {f : HostFail} (e₀ : execHostDmaFailure f s = .next t)
    (h₀ : Keeps q₀ b₀ s.toBlock) : Keeps q₀ b₀ t.toBlock := by
  unfold execHostDmaFailure at e₀
  refine Keeps.upd e₀ h₀ (fun _ _ => ?_)
  repeat' first
    | (with_reducible assumption)
    | (with_reducible exact Keeps.refl)
    | (with_reducible apply Keeps.ite)
    | (with_reducible refine Keeps.foldl ?_ (fun _ _ _ => ?_))
    | (with_reducible apply keeps_dropClaims)
    | (with_reducible apply keeps_finish)
    | (with_reducible apply keeps_elogNoCmd)
    | (with_reducible apply keeps_async)
    | (with_reducible apply keeps_raise)
    | (with_reducible apply keeps_freeze)
    | (with_reducible apply keeps_setBit)
    | (fail_if_no_progress extract_lets)
    | intro _
    | (with_reducible split)

theorem keeps_execPcieLinkChange {q₀ : Bool} {b₀ : Block} {s t : State} {speed : Fin 6} {width : BitVec 6} {pm : BitVec 2} (e₀ : execPcieLinkChange speed width pm s = .next t)
    (h₀ : Keeps q₀ b₀ s.toBlock) : Keeps q₀ b₀ t.toBlock := by
  unfold execPcieLinkChange at e₀
  refine Keeps.upd e₀ h₀ (fun _ _ => ?_)
  repeat' first
    | (with_reducible assumption)
    | (with_reducible exact Keeps.refl)
    | (with_reducible apply Keeps.ite)
    | (with_reducible refine Keeps.foldl ?_ (fun _ _ _ => ?_))
    | (with_reducible apply keeps_setFld)
    | (with_reducible apply keeps_setBit)
    | (with_reducible apply keeps_raise)
    | (fail_if_no_progress extract_lets)
    | intro _
    | (with_reducible split)

/-! ### Machine/Cipher.lean -/

theorem keeps_setSlot {q₀ : Bool} {b₀ b : Block} (h₀ : Keeps q₀ b₀ b) (n : Nat) (k : CxKey) :
    Keeps q₀ b₀ (b.setSlot n k) := by
  unfold Block.setSlot
  repeat' first
    | (with_reducible assumption)
    | (with_reducible exact Keeps.refl)
    | (with_reducible apply Keeps.ite)
    | (with_reducible refine Keeps.foldl ?_ (fun _ _ _ => ?_))
    | (with_reducible apply keeps_modCx)
    | (fail_if_no_progress extract_lets)
    | intro _
    | (with_reducible split)

theorem keeps_clearPage {q₀ : Bool} {b₀ b : Block} (h₀ : Keeps q₀ b₀ b) (p : Fin 16) (nokey : Bool) :
    Keeps q₀ b₀ (b.clearPage p nokey) := by
  unfold Block.clearPage
  repeat' first
    | (with_reducible assumption)
    | (with_reducible exact Keeps.refl)
    | (with_reducible apply Keeps.ite)
    | (with_reducible refine Keeps.foldl ?_ (fun _ _ _ => ?_))
    | (with_reducible apply keeps_modCx)
    | (with_reducible apply keeps_setBit)
    | (with_reducible apply keeps_setFld)
    | (fail_if_no_progress extract_lets)
    | intro _
    | (with_reducible split)

theorem keeps_loadPage {q₀ : Bool} {b₀ b : Block} (h₀ : Keeps q₀ b₀ b) (p : Fin 16) :
    Keeps q₀ b₀ (b.loadPage p) := by
  unfold Block.loadPage
  repeat' first
    | (with_reducible assumption)
    | (with_reducible exact Keeps.refl)
    | (with_reducible apply Keeps.ite)
    | (with_reducible refine Keeps.foldl ?_ (fun _ _ _ => ?_))
    | (with_reducible apply keeps_clearPage)
    | (with_reducible apply keeps_raise)
    | (with_reducible apply keeps_modCx)
    | (with_reducible apply keeps_setBit)
    | (with_reducible apply keeps_setFld)
    | (fail_if_no_progress extract_lets)
    | intro _
    | (with_reducible split)

theorem keeps_pageWrite {q₀ : Bool} {b₀ b : Block} (h₀ : Keeps q₀ b₀ b) (p : Fin 16) (v : Word) :
    Keeps q₀ b₀ (b.pageWrite p v) := by
  unfold Block.pageWrite
  repeat' first
    | (with_reducible assumption)
    | (with_reducible exact Keeps.refl)
    | (with_reducible apply Keeps.ite)
    | (with_reducible refine Keeps.foldl ?_ (fun _ _ _ => ?_))
    | (with_reducible apply keeps_setFld)
    | (with_reducible apply keeps_clearPage)
    | (with_reducible apply keeps_loadPage)
    | (fail_if_no_progress extract_lets)
    | intro _
    | (with_reducible split)

theorem keeps_execPageKeyLoad {q₀ : Bool} {b₀ : Block} {s t : State} {p : Fin 16} {slot : Fin 64} (e₀ : execPageKeyLoad p slot s = .next t)
    (h₀ : Keeps q₀ b₀ s.toBlock) : Keeps q₀ b₀ t.toBlock := by
  unfold execPageKeyLoad at e₀
  refine Keeps.upd e₀ h₀ (fun _ _ => ?_)
  repeat' first
    | (with_reducible assumption)
    | (with_reducible exact Keeps.refl)
    | (with_reducible apply Keeps.ite)
    | (with_reducible refine Keeps.foldl ?_ (fun _ _ _ => ?_))
    | (with_reducible apply keeps_pageWrite)
    | (fail_if_no_progress extract_lets)
    | intro _
    | (with_reducible split)

theorem keeps_execPageCtlWrite {q₀ : Bool} {b₀ : Block} {s t : State} {p : Fin 16} {v : Word} (e₀ : execPageCtlWrite p v s = .next t)
    (h₀ : Keeps q₀ b₀ s.toBlock) : Keeps q₀ b₀ t.toBlock := by
  unfold execPageCtlWrite at e₀
  refine Keeps.upd e₀ h₀ (fun _ _ => ?_)
  repeat' first
    | (with_reducible assumption)
    | (with_reducible exact Keeps.refl)
    | (with_reducible apply Keeps.ite)
    | (with_reducible refine Keeps.foldl ?_ (fun _ _ _ => ?_))
    | (with_reducible apply keeps_pageWrite)
    | (fail_if_no_progress extract_lets)
    | intro _
    | (with_reducible split)

theorem keeps_mismatch {q₀ : Bool} {b₀ b : Block} (h₀ : Keeps q₀ b₀ b) (n : Fin 4) :
    Keeps q₀ b₀ (b.mismatch n) := by
  unfold Block.mismatch
  repeat' first
    | (with_reducible assumption)
    | (with_reducible exact Keeps.refl)
    | (with_reducible apply Keeps.ite)
    | (with_reducible refine Keeps.foldl ?_ (fun _ _ _ => ?_))
    | (with_reducible apply keeps_bump)
    | (with_reducible apply keeps_putBit)
    | (with_reducible apply keeps_raise)
    | (with_reducible apply keeps_modCx)
    | (fail_if_no_progress extract_lets)
    | intro _
    | (with_reducible split)

theorem keeps_cxFail {q₀ : Bool} {b₀ b : Block} (h₀ : Keeps q₀ b₀ b) (use : CxUse) (status : Nat) :
    Keeps q₀ b₀ (b.cxFail use status) := by
  unfold Block.cxFail
  dsimp only
  repeat' first
    | (with_reducible assumption)
    | (with_reducible exact Keeps.refl)
    | (with_reducible apply Keeps.ite)
    | (with_reducible refine Keeps.foldl ?_ (fun _ _ _ => ?_))
    | (with_reducible apply keeps_finish)
    | (fail_if_no_progress extract_lets)
    | intro _
    | (with_reducible split)

theorem keeps_cxBlocked {q₀ : Bool} {b₀ b c : Block} {p : Fin 16} {n : Fin 4} {use : CxUse}
    (e : b.cxBlocked p n use = some c) (h₀ : Keeps q₀ b₀ b) : Keeps q₀ b₀ c := by
  unfold Block.cxBlocked at e
  split at e
  · cases e; exact keeps_cxFail h₀ _ _
  · split at e
    · cases e; exact keeps_cxFail h₀ _ _
    · split at e <;> cases e
      exact h₀

theorem keeps_execCipherUnit {q₀ : Bool} {b₀ : Block} {s t : State} {p : Fin 16} {n : Fin 4} {use : CxUse} {tw : List Byte} {data : List Byte} {differ : Bool} (e₀ : execCipherUnit p n use tw data differ s = .next t)
    (h₀ : Keeps q₀ b₀ s.toBlock) : Keeps q₀ b₀ t.toBlock := by
  unfold execCipherUnit at e₀
  refine Keeps.upd e₀ h₀ (fun _ _ => ?_)
  repeat' first
    | (with_reducible assumption)
    | (with_reducible exact Keeps.refl)
    | (with_reducible apply Keeps.ite)
    | (with_reducible refine Keeps.foldl ?_ (fun _ _ _ => ?_))
    | (with_reducible refine keeps_cxBlocked (by with_reducible assumption) ?_)
    | (with_reducible apply keeps_mismatch)
    | (with_reducible apply keeps_cxFail)
    | (with_reducible apply keeps_bump)
    | (with_reducible apply keeps_emit)
    | (fail_if_no_progress extract_lets)
    | intro _
    | (with_reducible split)

theorem keeps_execReTweak {q₀ : Bool} {b₀ : Block} {s t : State} {p : Fin 16} {n : Fin 4} {old : List Byte} {new : List Byte} {data : List Byte} {differ : Bool} (e₀ : execReTweak p n old new data differ s = .next t)
    (h₀ : Keeps q₀ b₀ s.toBlock) : Keeps q₀ b₀ t.toBlock := by
  unfold execReTweak at e₀
  refine Keeps.upd e₀ h₀ (fun _ _ => ?_)
  repeat' first
    | (with_reducible assumption)
    | (with_reducible exact Keeps.refl)
    | (with_reducible apply Keeps.ite)
    | (with_reducible refine Keeps.foldl ?_ (fun _ _ _ => ?_))
    | (with_reducible refine keeps_cxBlocked (by with_reducible assumption) ?_)
    | (with_reducible apply keeps_mismatch)
    | (with_reducible apply keeps_bump)
    | (with_reducible apply keeps_emit)
    | (fail_if_no_progress extract_lets)
    | intro _
    | (with_reducible split)

theorem keeps_recordMismatch {q₀ : Bool} {b₀ b : Block} (h₀ : Keeps q₀ b₀ b) (n : Fin 4) :
    Keeps q₀ b₀ (b.recordMismatch n) := by
  unfold Block.recordMismatch
  repeat' first
    | (with_reducible assumption)
    | (with_reducible exact Keeps.refl)
    | (with_reducible apply Keeps.ite)
    | (with_reducible refine Keeps.foldl ?_ (fun _ _ _ => ?_))
    | (with_reducible apply Keeps.ite2)
    | (with_reducible refine Keeps.snd (by with_reducible assumption) ?_)
    | (with_reducible refine Keeps.thd (by with_reducible assumption) ?_)
    | (with_reducible apply keeps_mismatch)
    | (with_reducible apply keeps_modCx)
    | (with_reducible apply keeps_elogAdd)
    | (with_reducible apply keeps_async)
    | (fail_if_no_progress extract_lets)
    | intro _
    | (with_reducible split)

theorem keeps_execGcmSeal {q₀ : Bool} {b₀ : Block} {s t : State} {p : Fin 16} {n : Fin 4} {iv : List Byte} {header : List Byte} {body : List Byte} {encb : Bool} {differ : Bool} (e₀ : execGcmSeal p n iv header body encb differ s = .next t)
    (h₀ : Keeps q₀ b₀ s.toBlock) : Keeps q₀ b₀ t.toBlock := by
  unfold execGcmSeal at e₀
  refine Keeps.upd e₀ h₀ (fun _ _ => ?_)
  repeat' first
    | (with_reducible assumption)
    | (with_reducible exact Keeps.refl)
    | (with_reducible apply Keeps.ite)
    | (with_reducible refine Keeps.foldl ?_ (fun _ _ _ => ?_))
    | (with_reducible refine keeps_cxBlocked (by with_reducible assumption) ?_)
    | (with_reducible apply keeps_recordMismatch)
    | (with_reducible apply keeps_modCx)
    | (with_reducible apply keeps_bump)
    | (with_reducible apply keeps_emit)
    | (fail_if_no_progress extract_lets)
    | intro _
    | (with_reducible split)

theorem keeps_execGcmOpen {q₀ : Bool} {b₀ : Block} {s t : State} {p : Fin 16} {n : Fin 4} {iv : List Byte} {header : List Byte} {body : List Byte} {tag : List Byte} {encb : Bool} {differ : Bool} (e₀ : execGcmOpen p n iv header body tag encb differ s = .next t)
    (h₀ : Keeps q₀ b₀ s.toBlock) : Keeps q₀ b₀ t.toBlock := by
  unfold execGcmOpen at e₀
  refine Keeps.upd e₀ h₀ (fun _ _ => ?_)
  repeat' first
    | (with_reducible assumption)
    | (with_reducible exact Keeps.refl)
    | (with_reducible apply Keeps.ite)
    | (with_reducible refine Keeps.foldl ?_ (fun _ _ _ => ?_))
    | (with_reducible refine keeps_cxBlocked (by with_reducible assumption) ?_)
    | (with_reducible apply keeps_recordMismatch)
    | (with_reducible apply keeps_modCx)
    | (with_reducible apply keeps_bump)
    | (with_reducible apply keeps_emit)
    | (with_reducible apply keeps_setBit)
    | (with_reducible apply keeps_raise)
    | (fail_if_no_progress extract_lets)
    | intro _
    | (with_reducible split)

theorem keeps_execPairKat {q₀ : Bool} {b₀ : Block} {s t : State} {n : Fin 4} {pass : Bool} (e₀ : execPairKat n pass s = .next t)
    (h₀ : Keeps q₀ b₀ s.toBlock) : Keeps q₀ b₀ t.toBlock := by
  unfold execPairKat at e₀
  refine Keeps.upd e₀ h₀ (fun _ _ => ?_)
  repeat' first
    | (with_reducible assumption)
    | (with_reducible exact Keeps.refl)
    | (with_reducible apply Keeps.ite)
    | (with_reducible refine Keeps.foldl ?_ (fun _ _ _ => ?_))
    | (with_reducible apply keeps_modCx)
    | (with_reducible apply keeps_putBit)
    | (with_reducible apply keeps_raise)
    | (fail_if_no_progress extract_lets)
    | intro _
    | (with_reducible split)

theorem keeps_pairRestore {q₀ : Bool} {b₀ b : Block} (h₀ : Keeps q₀ b₀ b) (n : Fin 4) :
    Keeps q₀ b₀ (b.pairRestore n) := by
  unfold Block.pairRestore
  repeat' first
    | (with_reducible assumption)
    | (with_reducible exact Keeps.refl)
    | (with_reducible apply Keeps.ite)
    | (with_reducible refine Keeps.foldl ?_ (fun _ _ _ => ?_))
    | (with_reducible apply keeps_modCx)
    | (fail_if_no_progress extract_lets)
    | intro _
    | (with_reducible split)

theorem keeps_execPairRestore {q₀ : Bool} {b₀ : Block} {s t : State} {n : Fin 4} {pass : Bool} (e₀ : execPairRestore n pass s = .next t)
    (h₀ : Keeps q₀ b₀ s.toBlock) : Keeps q₀ b₀ t.toBlock := by
  unfold execPairRestore at e₀
  refine Keeps.upd e₀ h₀ (fun _ _ => ?_)
  repeat' first
    | (with_reducible assumption)
    | (with_reducible exact Keeps.refl)
    | (with_reducible apply Keeps.ite)
    | (with_reducible refine Keeps.foldl ?_ (fun _ _ _ => ?_))
    | (with_reducible apply keeps_putBit)
    | (with_reducible apply keeps_raise)
    | (fail_if_no_progress extract_lets)
    | intro _
    | (with_reducible split)

theorem keeps_katAll {q₀ : Bool} {b₀ b : Block} (h₀ : Keeps q₀ b₀ b) :
    Keeps q₀ b₀ (b.katAll) := by
  unfold Block.katAll
  repeat' first
    | (with_reducible assumption)
    | (with_reducible exact Keeps.refl)
    | (with_reducible apply Keeps.ite)
    | (with_reducible refine Keeps.foldl ?_ (fun _ _ _ => ?_))
    | (with_reducible apply keeps_modCx)
    | (fail_if_no_progress extract_lets)
    | intro _
    | (with_reducible split)

theorem keeps_clearBlob {q₀ : Bool} {b₀ b : Block} (h₀ : Keeps q₀ b₀ b) :
    Keeps q₀ b₀ (b.clearBlob) := by
  unfold Block.clearBlob
  repeat' first
    | (with_reducible assumption)
    | (with_reducible exact Keeps.refl)
    | (with_reducible apply Keeps.ite)
    | (with_reducible refine Keeps.foldl ?_ (fun _ _ _ => ?_))
    | (with_reducible apply keeps_wr)
    | (fail_if_no_progress extract_lets)
    | intro _
    | (with_reducible split)

theorem keeps_ksResult {q₀ : Bool} {b₀ b : Block} (h₀ : Keeps q₀ b₀ b) (r : Nat) :
    Keeps q₀ b₀ (b.ksResult r) := by
  unfold Block.ksResult
  repeat' first
    | (with_reducible assumption)
    | (with_reducible exact Keeps.refl)
    | (with_reducible apply Keeps.ite)
    | (with_reducible refine Keeps.foldl ?_ (fun _ _ _ => ?_))
    | (with_reducible apply keeps_setFld)
    | (with_reducible apply keeps_clearBlob)
    | (fail_if_no_progress extract_lets)
    | intro _
    | (with_reducible split)

theorem keeps_install {q₀ : Bool} {b₀ b : Block} (h₀ : Keeps q₀ b₀ b) (slot : Nat) (gcmKey : Bool) (blob : List Byte) :
    Keeps q₀ b₀ (b.install slot gcmKey blob) := by
  unfold Block.install
  dsimp only
  repeat' first
    | (with_reducible assumption)
    | (with_reducible exact Keeps.refl)
    | (with_reducible apply Keeps.ite)
    | (with_reducible refine Keeps.foldl ?_ (fun _ _ _ => ?_))
    | (with_reducible apply keeps_ksResult)
    | (with_reducible apply keeps_raise)
    | (with_reducible apply keeps_setSlot)
    | (with_reducible apply keeps_setFld)
    | (fail_if_no_progress extract_lets)
    | intro _
    | (with_reducible split)

theorem keeps_ksErase {q₀ : Bool} {b₀ b : Block} (h₀ : Keeps q₀ b₀ b) (slot : Nat) :
    Keeps q₀ b₀ (b.ksErase slot) := by
  unfold Block.ksErase
  repeat' first
    | (with_reducible assumption)
    | (with_reducible exact Keeps.refl)
    | (with_reducible apply Keeps.ite)
    | (with_reducible refine Keeps.foldl ?_ (fun _ _ _ => ?_))
    | (with_reducible apply keeps_ksResult)
    | (with_reducible apply keeps_setSlot)
    | (fail_if_no_progress extract_lets)
    | intro _
    | (with_reducible split)

theorem keeps_ksEraseAll {q₀ : Bool} {b₀ b : Block} (h₀ : Keeps q₀ b₀ b) :
    Keeps q₀ b₀ (b.ksEraseAll) := by
  unfold Block.ksEraseAll
  repeat' first
    | (with_reducible assumption)
    | (with_reducible exact Keeps.refl)
    | (with_reducible apply Keeps.ite)
    | (with_reducible refine Keeps.foldl ?_ (fun _ _ _ => ?_))
    | (with_reducible apply keeps_ksResult)
    | (with_reducible apply keeps_modCx)
    | (fail_if_no_progress extract_lets)
    | intro _
    | (with_reducible split)

theorem keeps_ksGo {q₀ : Bool} {b₀ b : Block} (h₀ : Keeps q₀ b₀ b) :
    Keeps q₀ b₀ (b.ksGo) := by
  unfold Block.ksGo
  repeat' first
    | (with_reducible assumption)
    | (with_reducible exact Keeps.refl)
    | (with_reducible apply Keeps.ite)
    | (with_reducible refine Keeps.foldl ?_ (fun _ _ _ => ?_))
    | (with_reducible apply keeps_install)
    | (with_reducible apply keeps_ksErase)
    | (with_reducible apply keeps_ksEraseAll)
    | (fail_if_no_progress extract_lets)
    | intro _
    | (with_reducible split)

theorem keeps_execInstall {q₀ : Bool} {b₀ : Block} {s t : State} {slot : Fin 64} {gcmKey : Bool} {blob : List Byte} (e₀ : execInstall slot gcmKey blob s = .next t)
    (h₀ : Keeps q₀ b₀ s.toBlock) : Keeps q₀ b₀ t.toBlock := by
  unfold execInstall at e₀
  refine Keeps.upd e₀ h₀ (fun _ _ => ?_)
  repeat' first
    | (with_reducible assumption)
    | (with_reducible exact Keeps.refl)
    | (with_reducible apply Keeps.ite)
    | (with_reducible refine Keeps.foldl ?_ (fun _ _ _ => ?_))
    | (with_reducible apply keeps_setFld)
    | (with_reducible apply keeps_setBit)
    | (with_reducible apply keeps_install)
    | (fail_if_no_progress extract_lets)
    | intro _
    | (with_reducible split)

theorem keeps_execErase {q₀ : Bool} {b₀ : Block} {s t : State} {slot : Fin 64} (e₀ : execErase slot s = .next t)
    (h₀ : Keeps q₀ b₀ s.toBlock) : Keeps q₀ b₀ t.toBlock := by
  unfold execErase at e₀
  refine Keeps.upd e₀ h₀ (fun _ _ => ?_)
  repeat' first
    | (with_reducible assumption)
    | (with_reducible exact Keeps.refl)
    | (with_reducible apply Keeps.ite)
    | (with_reducible refine Keeps.foldl ?_ (fun _ _ _ => ?_))
    | (with_reducible apply keeps_setFld)
    | (with_reducible apply keeps_ksErase)
    | (fail_if_no_progress extract_lets)
    | intro _
    | (with_reducible split)

theorem keeps_execEraseAll {q₀ : Bool} {b₀ : Block} {s t : State} (e₀ : execEraseAll s = .next t)
    (h₀ : Keeps q₀ b₀ s.toBlock) : Keeps q₀ b₀ t.toBlock := by
  unfold execEraseAll at e₀
  refine Keeps.upd e₀ h₀ (fun _ _ => ?_)
  repeat' first
    | (with_reducible assumption)
    | (with_reducible exact Keeps.refl)
    | (with_reducible apply Keeps.ite)
    | (with_reducible refine Keeps.foldl ?_ (fun _ _ _ => ?_))
    | (with_reducible apply keeps_setFld)
    | (with_reducible apply keeps_ksEraseAll)
    | (fail_if_no_progress extract_lets)
    | intro _
    | (with_reducible split)

theorem keeps_keysGone {q₀ : Bool} {b₀ b : Block} (h₀ : Keeps q₀ b₀ b) :
    Keeps q₀ b₀ (b.keysGone) := by
  unfold Block.keysGone
  repeat' first
    | (with_reducible assumption)
    | (with_reducible exact Keeps.refl)
    | (with_reducible apply Keeps.ite)
    | (with_reducible refine Keeps.foldl ?_ (fun _ _ _ => ?_))
    | (with_reducible apply keeps_finish)
    | (fail_if_no_progress extract_lets)
    | intro _
    | (with_reducible split)

theorem keeps_keyAlarm {q₀ : Bool} {b₀ b : Block} (h₀ : Keeps q₀ b₀ b) (a : KeyAlarm) :
    Keeps q₀ b₀ (b.keyAlarm a) := by
  unfold Block.keyAlarm
  repeat' first
    | (with_reducible assumption)
    | (with_reducible exact Keeps.refl)
    | (with_reducible apply Keeps.ite)
    | (with_reducible refine Keeps.foldl ?_ (fun _ _ _ => ?_))
    | (with_reducible apply keeps_setBit)
    | (with_reducible apply keeps_modCx)
    | (with_reducible apply keeps_clearPage)
    | (with_reducible apply keeps_bump)
    | (with_reducible apply keeps_raise)
    | (with_reducible apply keeps_modVol)
    | (with_reducible apply keeps_keysGone)
    | (with_reducible apply keeps_async)
    | (fail_if_no_progress extract_lets)
    | intro _
    | (with_reducible split)

theorem keeps_execKeyAlarm {q₀ : Bool} {b₀ : Block} {s t : State} {a : KeyAlarm} {present : Bool} (e₀ : execKeyAlarm a present s = .next t)
    (h₀ : Keeps q₀ b₀ s.toBlock) : Keeps q₀ b₀ t.toBlock := by
  unfold execKeyAlarm at e₀
  refine Keeps.upd e₀ h₀ (fun _ _ => ?_)
  repeat' first
    | (with_reducible assumption)
    | (with_reducible exact Keeps.refl)
    | (with_reducible apply Keeps.ite)
    | (with_reducible refine Keeps.foldl ?_ (fun _ _ _ => ?_))
    | (with_reducible apply keeps_keyAlarm)
    | (with_reducible apply keeps_modCx)
    | (fail_if_no_progress extract_lets)
    | intro _
    | (with_reducible split)

/-! ### Machine/Admin.lean -/

theorem keeps_actOn {q₀ : Bool} {b₀ b : Block} (h₀ : Keeps q₀ b₀ b) (tag : Nat) (o : Nat) (f : Block → Cmd → Block) (hf : ∀ c x0, Keeps q₀ b₀ c → Keeps q₀ b₀ (f c x0)) :
    Keeps q₀ b₀ (b.actOn tag o f) := by
  unfold Block.actOn
  repeat' first
    | (with_reducible assumption)
    | (with_reducible exact Keeps.refl)
    | (with_reducible apply Keeps.ite)
    | (with_reducible refine Keeps.foldl ?_ (fun _ _ _ => ?_))
    | (with_reducible apply hf)
    | (fail_if_no_progress extract_lets)
    | intro _
    | (with_reducible split)

theorem keeps_succeed {q₀ : Bool} {b₀ b : Block} (h₀ : Keeps q₀ b₀ b) (c : Cmd) (res : Nat) :
    Keeps q₀ b₀ (b.succeed c res) := by
  unfold Block.succeed
  repeat' first
    | (with_reducible assumption)
    | (with_reducible exact Keeps.refl)
    | (with_reducible apply Keeps.ite)
    | (with_reducible refine Keeps.foldl ?_ (fun _ _ _ => ?_))
    | (with_reducible apply keeps_finish)
    | (fail_if_no_progress extract_lets)
    | intro _
    | (with_reducible split)

theorem keeps_failWith {q₀ : Bool} {b₀ b : Block} (h₀ : Keeps q₀ b₀ b) (c : Cmd) (status : Nat) (detail : Nat) :
    Keeps q₀ b₀ (b.failWith c status detail) := by
  unfold Block.failWith
  repeat' first
    | (with_reducible assumption)
    | (with_reducible exact Keeps.refl)
    | (with_reducible apply Keeps.ite)
    | (with_reducible refine Keeps.foldl ?_ (fun _ _ _ => ?_))
    | (with_reducible apply keeps_finish)
    | (fail_if_no_progress extract_lets)
    | intro _
    | (with_reducible split)

theorem keeps_sendData {q₀ : Bool} {b₀ b : Block} (h₀ : Keeps q₀ b₀ b) (c : Cmd) (bytes : List Byte) :
    Keeps q₀ b₀ (b.sendData c bytes) := by
  unfold Block.sendData
  repeat' first
    | (with_reducible assumption)
    | (with_reducible exact Keeps.refl)
    | (with_reducible apply Keeps.ite)
    | (with_reducible refine Keeps.foldl ?_ (fun _ _ _ => ?_))
    | (with_reducible apply keeps_emit)
    | (fail_if_no_progress extract_lets)
    | intro _
    | (with_reducible split)

theorem keeps_execIdentify {q₀ : Bool} {b₀ : Block} {s t : State} {tag : Nat} (e₀ : execIdentify tag s = .next t)
    (h₀ : Keeps q₀ b₀ s.toBlock) : Keeps q₀ b₀ t.toBlock := by
  unfold execIdentify at e₀
  refine Keeps.upd e₀ h₀ (fun _ _ => ?_)
  repeat' first
    | (with_reducible assumption)
    | (with_reducible exact Keeps.refl)
    | (with_reducible apply Keeps.ite)
    | (with_reducible refine Keeps.foldl ?_ (fun _ _ _ => ?_))
    | (with_reducible apply keeps_actOn)
    | (with_reducible apply keeps_sendData)
    | (with_reducible apply keeps_succeed)
    | (fail_if_no_progress extract_lets)
    | intro _
    | (with_reducible split)

theorem keeps_execQueueCreate {q₀ : Bool} {b₀ : Block} {s t : State} {tag : Nat} (e₀ : execQueueCreate tag s = .next t)
    (h₀ : Keeps q₀ b₀ s.toBlock) : Keeps q₀ b₀ t.toBlock := by
  unfold execQueueCreate at e₀
  refine Keeps.upd e₀ h₀ (fun _ _ => ?_)
  repeat' first
    | (with_reducible assumption)
    | (with_reducible exact Keeps.refl)
    | (with_reducible apply Keeps.ite)
    | (with_reducible refine Keeps.foldl ?_ (fun _ _ _ => ?_))
    | (with_reducible apply keeps_actOn)
    | (with_reducible apply keeps_failWith)
    | (with_reducible apply keeps_makePair)
    | (with_reducible apply keeps_succeed)
    | (fail_if_no_progress extract_lets)
    | intro _
    | (with_reducible split)

theorem keeps_execQueueDelete {q₀ : Bool} {b₀ : Block} {s t : State} {tag : Nat} (e₀ : execQueueDelete tag s = .next t)
    (h₀ : Keeps q₀ b₀ s.toBlock) : Keeps q₀ b₀ t.toBlock := by
  unfold execQueueDelete at e₀
  refine Keeps.upd e₀ h₀ (fun _ _ => ?_)
  repeat' first
    | (with_reducible assumption)
    | (with_reducible exact Keeps.refl)
    | (with_reducible apply Keeps.ite)
    | (with_reducible refine Keeps.foldl ?_ (fun _ _ _ => ?_))
    | (with_reducible apply keeps_actOn)
    | (with_reducible apply keeps_deleteDone)
    | (with_reducible apply keeps_failWith)
    | (with_reducible apply keeps_modHq)
    | (with_reducible apply keeps_postAll)
    | (fail_if_no_progress extract_lets)
    | intro _
    | (with_reducible split)

theorem keeps_execQueueResume {q₀ : Bool} {b₀ : Block} {s t : State} {tag : Nat} (e₀ : execQueueResume tag s = .next t)
    (h₀ : Keeps q₀ b₀ s.toBlock) : Keeps q₀ b₀ t.toBlock := by
  unfold execQueueResume at e₀
  refine Keeps.upd e₀ h₀ (fun _ _ => ?_)
  repeat' first
    | (with_reducible assumption)
    | (with_reducible exact Keeps.refl)
    | (with_reducible apply Keeps.ite)
    | (with_reducible refine Keeps.foldl ?_ (fun _ _ _ => ?_))
    | (with_reducible apply keeps_actOn)
    | (with_reducible apply keeps_failWith)
    | (with_reducible apply keeps_putBit)
    | (with_reducible apply keeps_succeed)
    | (fail_if_no_progress extract_lets)
    | intro _
    | (with_reducible split)

theorem keeps_execAbort {q₀ : Bool} {b₀ : Block} {s t : State} {tag : Nat} (e₀ : execAbort tag s = .next t)
    (h₀ : Keeps q₀ b₀ s.toBlock) : Keeps q₀ b₀ t.toBlock := by
  unfold execAbort at e₀
  refine Keeps.upd e₀ h₀ (fun _ _ => ?_)
  repeat' first
    | (with_reducible assumption)
    | (with_reducible exact Keeps.refl)
    | (with_reducible apply Keeps.ite)
    | (with_reducible refine Keeps.foldl ?_ (fun _ _ _ => ?_))
    | (with_reducible apply keeps_actOn)
    | (with_reducible apply keeps_failWith)
    | (with_reducible apply keeps_postOne)
    | (with_reducible apply keeps_succeed)
    | (fail_if_no_progress extract_lets)
    | intro _
    | (with_reducible split)

theorem keeps_execLogRead {q₀ : Bool} {b₀ : Block} {s t : State} {tag : Nat} (e₀ : execLogRead tag s = .next t)
    (h₀ : Keeps q₀ b₀ s.toBlock) : Keeps q₀ b₀ t.toBlock := by
  unfold execLogRead at e₀
  refine Keeps.upd e₀ h₀ (fun _ _ => ?_)
  repeat' first
    | (with_reducible assumption)
    | (with_reducible exact Keeps.refl)
    | (with_reducible apply Keeps.ite)
    | (with_reducible refine Keeps.foldl ?_ (fun _ _ _ => ?_))
    | (with_reducible apply keeps_actOn)
    | (with_reducible apply keeps_failWith)
    | (with_reducible apply keeps_sendData)
    | (with_reducible apply keeps_succeed)
    | (fail_if_no_progress extract_lets)
    | intro _
    | (with_reducible split)

theorem keeps_setAllow {q₀ : Bool} {b₀ b : Block} (h₀ : Keeps q₀ b₀ b) :
    Keeps q₀ b₀ (b.setAllow) := by
  unfold Block.setAllow
  repeat' first
    | (with_reducible assumption)
    | (with_reducible exact Keeps.refl)
    | (with_reducible apply Keeps.ite)
    | (with_reducible refine Keeps.foldl ?_ (fun _ _ _ => ?_))
    | (with_reducible apply keeps_keepCover)
    | (with_reducible apply keeps_setFld)
    | (fail_if_no_progress extract_lets)
    | intro _
    | (with_reducible split)

theorem keeps_bindKey {q₀ : Bool} {b₀ b : Block} (h₀ : Keeps q₀ b₀ b) (c : Cmd) (peer : Bool) :
    Keeps q₀ b₀ (b.bindKey c peer) := by
  unfold Block.bindKey
  dsimp only
  repeat' first
    | (with_reducible assumption)
    | (with_reducible exact Keeps.refl)
    | (with_reducible apply Keeps.ite)
    | (with_reducible refine Keeps.foldl ?_ (fun _ _ _ => ?_))
    | (with_reducible apply keeps_failWith)
    | (with_reducible apply keeps_modVol)
    | (with_reducible apply keeps_journalBoth)
    | (with_reducible apply keeps_succeed)
    | (fail_if_no_progress extract_lets)
    | intro _
    | (with_reducible split)

theorem keeps_execFeatureSet {q₀ : Bool} {b₀ : Block} {s t : State} {tag : Nat} {peer : Bool} (e₀ : execFeatureSet tag peer s = .next t)
    (h₀ : Keeps q₀ b₀ s.toBlock) : Keeps q₀ b₀ t.toBlock := by
  unfold execFeatureSet at e₀
  refine Keeps.upd e₀ h₀ (fun _ _ => ?_)
  repeat' first
    | (with_reducible assumption)
    | (with_reducible exact Keeps.refl)
    | (with_reducible apply Keeps.ite)
    | (with_reducible refine Keeps.foldl ?_ (fun _ _ _ => ?_))
    | (with_reducible apply keeps_actOn)
    | (with_reducible apply keeps_failWith)
    | (with_reducible apply keeps_modHq)
    | (with_reducible apply keeps_setAllow)
    | (with_reducible apply keeps_succeed)
    | (with_reducible apply keeps_bindKey)
    | (with_reducible apply keeps_setFld)
    | (fail_if_no_progress extract_lets)
    | intro _
    | (with_reducible split)

theorem keeps_execFeatureGet {q₀ : Bool} {b₀ : Block} {s t : State} {tag : Nat} (e₀ : execFeatureGet tag s = .next t)
    (h₀ : Keeps q₀ b₀ s.toBlock) : Keeps q₀ b₀ t.toBlock := by
  unfold execFeatureGet at e₀
  refine Keeps.upd e₀ h₀ (fun _ _ => ?_)
  repeat' first
    | (with_reducible assumption)
    | (with_reducible exact Keeps.refl)
    | (with_reducible apply Keeps.ite)
    | (with_reducible refine Keeps.foldl ?_ (fun _ _ _ => ?_))
    | (with_reducible apply keeps_actOn)
    | (with_reducible apply keeps_succeed)
    | (with_reducible apply keeps_failWith)
    | (fail_if_no_progress extract_lets)
    | intro _
    | (with_reducible split)

theorem keeps_execKeyInstall {q₀ : Bool} {b₀ : Block} {s t : State} {tag : Nat} {blob : List Byte} (e₀ : execKeyInstall tag blob s = .next t)
    (h₀ : Keeps q₀ b₀ s.toBlock) : Keeps q₀ b₀ t.toBlock := by
  unfold execKeyInstall at e₀
  refine Keeps.upd e₀ h₀ (fun _ _ => ?_)
  repeat' first
    | (with_reducible assumption)
    | (with_reducible exact Keeps.refl)
    | (with_reducible apply Keeps.ite)
    | (with_reducible refine Keeps.foldl ?_ (fun _ _ _ => ?_))
    | (with_reducible apply keeps_actOn)
    | (with_reducible apply keeps_failWith)
    | (with_reducible apply keeps_ksErase)
    | (with_reducible apply keeps_succeed)
    | (with_reducible apply keeps_install)
    | (fail_if_no_progress extract_lets)
    | intro _
    | (with_reducible split)

theorem keeps_execFirmwareStage {q₀ : Bool} {b₀ : Block} {s t : State} {tag : Nat} {data : List Byte} (e₀ : execFirmwareStage tag data s = .next t)
    (h₀ : Keeps q₀ b₀ s.toBlock) : Keeps q₀ b₀ t.toBlock := by
  unfold execFirmwareStage at e₀
  refine Keeps.upd e₀ h₀ (fun _ _ => ?_)
  repeat' first
    | (with_reducible assumption)
    | (with_reducible exact Keeps.refl)
    | (with_reducible apply Keeps.ite)
    | (with_reducible refine Keeps.foldl ?_ (fun _ _ _ => ?_))
    | (with_reducible apply keeps_actOn)
    | (with_reducible apply keeps_failWith)
    | (with_reducible apply keeps_modHq)
    | (with_reducible apply keeps_succeed)
    | (fail_if_no_progress extract_lets)
    | intro _
    | (with_reducible split)

theorem keeps_fwActivate {q₀ : Bool} {b₀ b : Block} (h₀ : Keeps q₀ b₀ b) (c : Cmd) (slot : Nat) :
    Keeps q₀ b₀ (b.fwActivate c slot) := by
  unfold Block.fwActivate
  repeat' first
    | (with_reducible assumption)
    | (with_reducible exact Keeps.refl)
    | (with_reducible apply Keeps.ite)
    | (with_reducible refine Keeps.foldl ?_ (fun _ _ _ => ?_))
    | (with_reducible apply keeps_modHq)
    | (with_reducible apply keeps_succeed)
    | (fail_if_no_progress extract_lets)
    | intro _
    | (with_reducible split)

theorem keeps_execFirmwareCommit {q₀ : Bool} {b₀ : Block} {s t : State} {tag : Nat} (e₀ : execFirmwareCommit tag s = .next t)
    (h₀ : Keeps q₀ b₀ s.toBlock) : Keeps q₀ b₀ t.toBlock := by
  unfold execFirmwareCommit at e₀
  refine Keeps.upd e₀ h₀ (fun _ _ => ?_)
  repeat' first
    | (with_reducible assumption)
    | (with_reducible exact Keeps.refl)
    | (with_reducible apply Keeps.ite)
    | (with_reducible refine Keeps.foldl ?_ (fun _ _ _ => ?_))
    | (with_reducible apply keeps_actOn)
    | (with_reducible apply keeps_modHq)
    | (with_reducible apply keeps_succeed)
    | (with_reducible apply keeps_failWith)
    | (with_reducible apply keeps_fwActivate)
    | (fail_if_no_progress extract_lets)
    | intro _
    | (with_reducible split)

theorem keeps_takeEvent {q₀ : Bool} {b₀ b : Block} (h₀ : Keeps q₀ b₀ b) (tag : Nat) :
    Keeps q₀ b₀ (b.takeEvent tag) := by
  unfold Block.takeEvent
  repeat' first
    | (with_reducible assumption)
    | (with_reducible exact Keeps.refl)
    | (with_reducible apply Keeps.ite)
    | (with_reducible refine Keeps.foldl ?_ (fun _ _ _ => ?_))
    | (with_reducible apply keeps_finish)
    | (with_reducible apply keeps_modHq)
    | (with_reducible apply keeps_async)
    | (fail_if_no_progress extract_lets)
    | intro _
    | (with_reducible split)

theorem keeps_execAsyncEvent {q₀ : Bool} {b₀ : Block} {s t : State} {tag : Nat} (e₀ : execAsyncEvent tag s = .next t)
    (h₀ : Keeps q₀ b₀ s.toBlock) : Keeps q₀ b₀ t.toBlock := by
  unfold execAsyncEvent at e₀
  refine Keeps.upd e₀ h₀ (fun _ _ => ?_)
  repeat' first
    | (with_reducible assumption)
    | (with_reducible exact Keeps.refl)
    | (with_reducible apply Keeps.ite)
    | (with_reducible refine Keeps.foldl ?_ (fun _ _ _ => ?_))
    | (with_reducible apply keeps_actOn)
    | (with_reducible apply keeps_async)
    | (with_reducible apply keeps_takeEvent)
    | (fail_if_no_progress extract_lets)
    | intro _
    | (with_reducible split)

theorem keeps_execAsyncEventReport {q₀ : Bool} {b₀ : Block} {s t : State} {t' : Fin 17} {info : BitVec 8} {data : BitVec 16} (e₀ : execAsyncEventReport t' info data s = .next t)
    (h₀ : Keeps q₀ b₀ s.toBlock) : Keeps q₀ b₀ t.toBlock := by
  unfold execAsyncEventReport at e₀
  refine Keeps.upd e₀ h₀ (fun _ _ => ?_)
  repeat' first
    | (with_reducible assumption)
    | (with_reducible exact Keeps.refl)
    | (with_reducible apply Keeps.ite)
    | (with_reducible refine Keeps.foldl ?_ (fun _ _ _ => ?_))
    | (with_reducible apply keeps_async)
    | (fail_if_no_progress extract_lets)
    | intro _
    | (with_reducible split)

theorem keeps_execTelemetryRead {q₀ : Bool} {b₀ : Block} {s t : State} {tag : Nat} (e₀ : execTelemetryRead tag s = .next t)
    (h₀ : Keeps q₀ b₀ s.toBlock) : Keeps q₀ b₀ t.toBlock := by
  unfold execTelemetryRead at e₀
  refine Keeps.upd e₀ h₀ (fun _ _ => ?_)
  repeat' first
    | (with_reducible assumption)
    | (with_reducible exact Keeps.refl)
    | (with_reducible apply Keeps.ite)
    | (with_reducible refine Keeps.foldl ?_ (fun _ _ _ => ?_))
    | (with_reducible apply keeps_actOn)
    | (with_reducible apply keeps_failWith)
    | (with_reducible apply keeps_sendData)
    | (with_reducible apply keeps_modCal)
    | (with_reducible apply keeps_succeed)
    | (fail_if_no_progress extract_lets)
    | intro _
    | (with_reducible split)

theorem keeps_testEnd {q₀ : Bool} {b₀ b : Block} (h₀ : Keeps q₀ b₀ b) (result : Nat) (item : Nat) (inst : Nat) :
    Keeps q₀ b₀ (b.testEnd result item inst) := by
  unfold Block.testEnd
  repeat' first
    | (with_reducible assumption)
    | (with_reducible exact Keeps.refl)
    | (with_reducible apply Keeps.ite)
    | (with_reducible refine Keeps.foldl ?_ (fun _ _ _ => ?_))
    | (with_reducible apply keeps_modHq)
    | (with_reducible apply keeps_finish)
    | (fail_if_no_progress extract_lets)
    | intro _
    | (with_reducible split)

theorem keeps_execSelfTest {q₀ : Bool} {b₀ : Block} {s t : State} {tag : Nat} {found : Option (Bool × BitVec 8 × BitVec 8)} (e₀ : execSelfTest tag found s = .next t)
    (h₀ : Keeps q₀ b₀ s.toBlock) : Keeps q₀ b₀ t.toBlock := by
  unfold execSelfTest at e₀
  refine Keeps.upd e₀ h₀ (fun _ _ => ?_)
  repeat' first
    | (with_reducible assumption)
    | (with_reducible exact Keeps.refl)
    | (with_reducible apply Keeps.ite)
    | (with_reducible refine Keeps.foldl ?_ (fun _ _ _ => ?_))
    | (with_reducible apply keeps_actOn)
    | (with_reducible apply keeps_failWith)
    | (with_reducible apply keeps_testEnd)
    | (with_reducible apply keeps_modHq)
    | (fail_if_no_progress extract_lets)
    | intro _
    | (with_reducible split)

theorem keeps_execSelfTestStop {q₀ : Bool} {b₀ : Block} {s t : State} {tag : Nat} (e₀ : execSelfTestStop tag s = .next t)
    (h₀ : Keeps q₀ b₀ s.toBlock) : Keeps q₀ b₀ t.toBlock := by
  unfold execSelfTestStop at e₀
  refine Keeps.upd e₀ h₀ (fun _ _ => ?_)
  repeat' first
    | (with_reducible assumption)
    | (with_reducible exact Keeps.refl)
    | (with_reducible apply Keeps.ite)
    | (with_reducible refine Keeps.foldl ?_ (fun _ _ _ => ?_))
    | (with_reducible apply keeps_actOn)
    | (with_reducible apply keeps_testEnd)
    | (with_reducible apply keeps_succeed)
    | (fail_if_no_progress extract_lets)
    | intro _
    | (with_reducible split)

end Sys2Proof.Machine
end

