-- ==== Sys2Proof/Laws/KeepsServo.lean ====
section
/-!
SUPPORT. What the servo programs, spindles, axes and loads keep, one lemma for each operation and each command.
-/

set_option Elab.async false
set_option linter.unreachableTactic false
set_option linter.unusedTactic false

namespace Sys2Proof.Machine

/-! ### Machine/Servo.lean -/

theorem keeps_cmdReject {q₀ : Bool} {b₀ b : Block} (h₀ : Keeps q₀ b₀ b) (s : Fin 4) (err : Nat) :
    Keeps q₀ b₀ (b.cmdReject s err) := by
  unfold Block.cmdReject
  repeat' first
    | (with_reducible assumption)
    | (with_reducible exact Keeps.refl)
    | (with_reducible apply Keeps.ite)
    | (with_reducible refine Keeps.foldl ?_ (fun _ _ _ => ?_))
    | (with_reducible apply keeps_setPsw)
    | (with_reducible apply keeps_modServo)
    | (with_reducible apply keeps_publish)
    | (fail_if_no_progress extract_lets)
    | intro _
    | (with_reducible split)

theorem keeps_takeCmd {q₀ : Bool} {b₀ b : Block} (h₀ : Keeps q₀ b₀ b) (s : Fin 4) (op : Nat) (layer : Nat) (seq : BitVec 8) (arg : BitVec 16) (run : Block → Block) (hf : ∀ c , Keeps q₀ b₀ c → Keeps q₀ b₀ (run c )) :
    Keeps q₀ b₀ (b.takeCmd s op layer seq arg run) := by
  unfold Block.takeCmd
  repeat' first
    | (with_reducible assumption)
    | (with_reducible exact Keeps.refl)
    | (with_reducible apply Keeps.ite)
    | (with_reducible refine Keeps.foldl ?_ (fun _ _ _ => ?_))
    | (with_reducible apply hf)
    | (with_reducible apply keeps_onSurf)
    | (with_reducible apply keeps_commitData)
    | (with_reducible apply keeps_modServo)
    | (with_reducible apply keeps_cmdReject)
    | (with_reducible apply keeps_setPsw)
    | (with_reducible apply keeps_seek)
    | (with_reducible apply keeps_publish)
    | (with_reducible apply keeps_run)
    | (fail_if_no_progress extract_lets)
    | intro _
    | (with_reducible split)

theorem keeps_land {q₀ : Bool} {b₀ b : Block} (h₀ : Keeps q₀ b₀ b) (s : Fin 4) (layer : Nat) (idx : Int) :
    Keeps q₀ b₀ (b.land s layer idx) := by
  unfold Block.land
  repeat' first
    | (with_reducible assumption)
    | (with_reducible exact Keeps.refl)
    | (with_reducible apply Keeps.ite)
    | (with_reducible refine Keeps.foldl ?_ (fun _ _ _ => ?_))
    | (with_reducible apply keeps_modServo)
    | (with_reducible apply keeps_setPsw)
    | (with_reducible apply keeps_trackCommit)
    | (fail_if_no_progress extract_lets)
    | intro _
    | (with_reducible split)

theorem keeps_writeSaReq {q₀ : Bool} {b₀ b : Block} (h₀ : Keeps q₀ b₀ b) (s : Fin 4) :
    Keeps q₀ b₀ (b.writeSaReq s) := by
  unfold Block.writeSaReq
  repeat' first
    | (with_reducible assumption)
    | (with_reducible exact Keeps.refl)
    | (with_reducible apply Keeps.ite)
    | (with_reducible refine Keeps.foldl ?_ (fun _ _ _ => ?_))
    | (with_reducible apply keeps_commitData)
    | (fail_if_no_progress extract_lets)
    | intro _
    | (with_reducible split)

theorem keeps_writeSledReq {q₀ : Bool} {b₀ b : Block} (h₀ : Keeps q₀ b₀ b) (s : Fin 4) (move : Int) :
    Keeps q₀ b₀ (b.writeSledReq s move) := by
  unfold Block.writeSledReq
  repeat' first
    | (with_reducible assumption)
    | (with_reducible exact Keeps.refl)
    | (with_reducible apply Keeps.ite)
    | (with_reducible refine Keeps.foldl ?_ (fun _ _ _ => ?_))
    | (with_reducible apply keeps_commitData)
    | (fail_if_no_progress extract_lets)
    | intro _
    | (with_reducible split)

theorem keeps_layerJump {q₀ : Bool} {b₀ b : Block} (h₀ : Keeps q₀ b₀ b) (s : Fin 4) (layer : Nat) :
    Keeps q₀ b₀ (b.layerJump s layer) := by
  unfold Block.layerJump
  repeat' first
    | (with_reducible assumption)
    | (with_reducible exact Keeps.refl)
    | (with_reducible apply Keeps.ite)
    | (with_reducible refine Keeps.foldl ?_ (fun _ _ _ => ?_))
    | (with_reducible apply Keeps.ite2)
    | (with_reducible refine Keeps.snd (by with_reducible assumption) ?_)
    | (with_reducible refine Keeps.thd (by with_reducible assumption) ?_)
    | (with_reducible apply keeps_setPsw)
    | (with_reducible apply keeps_modServo)
    | (with_reducible apply keeps_writeSaReq)
    | (with_reducible apply keeps_freeVal)
    | (with_reducible apply keeps_land)
    | (fail_if_no_progress extract_lets)
    | intro _
    | (with_reducible split)

theorem keeps_seek {q₀ : Bool} {b₀ b : Block} (h₀ : Keeps q₀ b₀ b) (s : Fin 4) (layer : Nat) (arg : Int) :
    Keeps q₀ b₀ (b.seek s layer arg) := by
  unfold Block.seek
  repeat' first
    | (with_reducible assumption)
    | (with_reducible exact Keeps.refl)
    | (with_reducible apply Keeps.ite)
    | (with_reducible refine Keeps.foldl ?_ (fun _ _ _ => ?_))
    | (with_reducible apply keeps_layerJump)
    | (with_reducible apply keeps_setPsw)
    | (with_reducible apply keeps_modServo)
    | (with_reducible apply keeps_writeSledReq)
    | (with_reducible apply keeps_land)
    | (fail_if_no_progress extract_lets)
    | intro _
    | (with_reducible split)

theorem keeps_focusClosed {q₀ : Bool} {b₀ b : Block} (h₀ : Keeps q₀ b₀ b) (s : Fin 4) (idx : Int) (sumref : BitVec 16) :
    Keeps q₀ b₀ (b.focusClosed s idx sumref) := by
  unfold Block.focusClosed
  repeat' first
    | (with_reducible assumption)
    | (with_reducible exact Keeps.refl)
    | (with_reducible apply Keeps.ite)
    | (with_reducible refine Keeps.foldl ?_ (fun _ _ _ => ?_))
    | (with_reducible apply keeps_modServo)
    | (with_reducible apply keeps_land)
    | (with_reducible apply keeps_cmdDone)
    | (with_reducible apply keeps_seek)
    | (with_reducible apply keeps_cmdReject)
    | (with_reducible apply keeps_layerJump)
    | (fail_if_no_progress extract_lets)
    | intro _
    | (with_reducible split)

theorem keeps_execCmdNone {q₀ : Bool} {b₀ : Block} {s t : State} {s' : Fin 4} {reserved : Option (Fin 10)} {layer : Fin 8} {seq : BitVec 8} (e₀ : execCmdNone s' reserved layer seq s = .next t)
    (h₀ : Keeps q₀ b₀ s.toBlock) : Keeps q₀ b₀ t.toBlock := by
  unfold execCmdNone at e₀
  refine Keeps.upd e₀ h₀ (fun _ _ => ?_)
  repeat' first
    | (with_reducible assumption)
    | (with_reducible exact Keeps.refl)
    | (with_reducible apply Keeps.ite)
    | (with_reducible refine Keeps.foldl ?_ (fun _ _ _ => ?_))
    | (with_reducible apply keeps_takeCmd)
    | (with_reducible apply keeps_cmdDone)
    | (fail_if_no_progress extract_lets)
    | intro _
    | (with_reducible split)

theorem keeps_execCmdOff {q₀ : Bool} {b₀ : Block} {s t : State} {s' : Fin 4} {layer : Fin 8} {seq : BitVec 8} (e₀ : execCmdOff s' layer seq s = .next t)
    (h₀ : Keeps q₀ b₀ s.toBlock) : Keeps q₀ b₀ t.toBlock := by
  unfold execCmdOff at e₀
  refine Keeps.upd e₀ h₀ (fun _ _ => ?_)
  repeat' first
    | (with_reducible assumption)
    | (with_reducible exact Keeps.refl)
    | (with_reducible apply Keeps.ite)
    | (with_reducible refine Keeps.foldl ?_ (fun _ _ _ => ?_))
    | (with_reducible apply keeps_takeCmd)
    | (with_reducible apply keeps_modServo)
    | (with_reducible apply keeps_setFld)
    | (with_reducible apply keeps_setPsw)
    | (with_reducible apply keeps_trackCommit)
    | (with_reducible apply keeps_cmdDone)
    | (fail_if_no_progress extract_lets)
    | intro _
    | (with_reducible split)

theorem keeps_execCmdFocus {q₀ : Bool} {b₀ : Block} {s t : State} {s' : Fin 4} {layer : Fin 8} {seq : BitVec 8} {found : Option (BitVec 14 × BitVec 16)} (e₀ : execCmdFocus s' layer seq found s = .next t)
    (h₀ : Keeps q₀ b₀ s.toBlock) : Keeps q₀ b₀ t.toBlock := by
  unfold execCmdFocus at e₀
  refine Keeps.upd e₀ h₀ (fun _ _ => ?_)
  repeat' first
    | (with_reducible assumption)
    | (with_reducible exact Keeps.refl)
    | (with_reducible apply Keeps.ite)
    | (with_reducible refine Keeps.foldl ?_ (fun _ _ _ => ?_))
    | (with_reducible apply keeps_focusClosed)
    | (with_reducible apply keeps_onSurf)
    | (with_reducible apply keeps_takeCmd)
    | (with_reducible apply keeps_setPsw)
    | (with_reducible apply keeps_modServo)
    | (with_reducible apply keeps_setFld)
    | (with_reducible apply keeps_writeSaReq)
    | (with_reducible apply keeps_trackCommit)
    | (fail_if_no_progress extract_lets)
    | intro _
    | (with_reducible split)

theorem keeps_execCmdLayer {q₀ : Bool} {b₀ : Block} {s t : State} {s' : Fin 4} {layer : Fin 8} {seq : BitVec 8} (e₀ : execCmdLayer s' layer seq s = .next t)
    (h₀ : Keeps q₀ b₀ s.toBlock) : Keeps q₀ b₀ t.toBlock := by
  unfold execCmdLayer at e₀
  refine Keeps.upd e₀ h₀ (fun _ _ => ?_)
  repeat' first
    | (with_reducible assumption)
    | (with_reducible exact Keeps.refl)
    | (with_reducible apply Keeps.ite)
    | (with_reducible refine Keeps.foldl ?_ (fun _ _ _ => ?_))
    | (with_reducible apply keeps_takeCmd)
    | (with_reducible apply keeps_layerJump)
    | (with_reducible apply keeps_cmdDone)
    | (fail_if_no_progress extract_lets)
    | intro _
    | (with_reducible split)

theorem keeps_execCmdSeek {q₀ : Bool} {b₀ : Block} {s t : State} {s' : Fin 4} {layer : Fin 8} {arg : BitVec 16} {seq : BitVec 8} (e₀ : execCmdSeek s' layer arg seq s = .next t)
    (h₀ : Keeps q₀ b₀ s.toBlock) : Keeps q₀ b₀ t.toBlock := by
  unfold execCmdSeek at e₀
  refine Keeps.upd e₀ h₀ (fun _ _ => ?_)
  repeat' first
    | (with_reducible assumption)
    | (with_reducible exact Keeps.refl)
    | (with_reducible apply Keeps.ite)
    | (with_reducible refine Keeps.foldl ?_ (fun _ _ _ => ?_))
    | (with_reducible apply keeps_takeCmd)
    | (with_reducible apply keeps_seek)
    | (with_reducible apply keeps_cmdDone)
    | (fail_if_no_progress extract_lets)
    | intro _
    | (with_reducible split)

theorem keeps_execCmdRelease {q₀ : Bool} {b₀ : Block} {s t : State} {s' : Fin 4} {layer : Fin 8} {seq : BitVec 8} (e₀ : execCmdRelease s' layer seq s = .next t)
    (h₀ : Keeps q₀ b₀ s.toBlock) : Keeps q₀ b₀ t.toBlock := by
  unfold execCmdRelease at e₀
  refine Keeps.upd e₀ h₀ (fun _ _ => ?_)
  repeat' first
    | (with_reducible assumption)
    | (with_reducible exact Keeps.refl)
    | (with_reducible apply Keeps.ite)
    | (with_reducible refine Keeps.foldl ?_ (fun _ _ _ => ?_))
    | (with_reducible apply keeps_takeCmd)
    | (with_reducible apply keeps_cmdDone)
    | (with_reducible apply keeps_modServo)
    | (with_reducible apply keeps_trackCommit)
    | (fail_if_no_progress extract_lets)
    | intro _
    | (with_reducible split)

theorem keeps_execFocusDrop {q₀ : Bool} {b₀ : Block} {s t : State} {s' : Fin 4} (e₀ : execFocusDrop s' s = .next t)
    (h₀ : Keeps q₀ b₀ s.toBlock) : Keeps q₀ b₀ t.toBlock := by
  unfold execFocusDrop at e₀
  refine Keeps.upd e₀ h₀ (fun _ _ => ?_)
  repeat' first
    | (with_reducible assumption)
    | (with_reducible exact Keeps.refl)
    | (with_reducible apply Keeps.ite)
    | (with_reducible refine Keeps.foldl ?_ (fun _ _ _ => ?_))
    | (with_reducible apply keeps_onSurf)
    | (with_reducible apply keeps_modServo)
    | (with_reducible apply keeps_setPsw)
    | (with_reducible apply keeps_safeHold)
    | (fail_if_no_progress extract_lets)
    | intro _
    | (with_reducible split)

theorem keeps_execSearchFail {q₀ : Bool} {b₀ : Block} {s t : State} {s' : Fin 4} (e₀ : execSearchFail s' s = .next t)
    (h₀ : Keeps q₀ b₀ s.toBlock) : Keeps q₀ b₀ t.toBlock := by
  unfold execSearchFail at e₀
  refine Keeps.upd e₀ h₀ (fun _ _ => ?_)
  repeat' first
    | (with_reducible assumption)
    | (with_reducible exact Keeps.refl)
    | (with_reducible apply Keeps.ite)
    | (with_reducible refine Keeps.foldl ?_ (fun _ _ _ => ?_))
    | (with_reducible apply keeps_onSurf)
    | (with_reducible apply keeps_setFld)
    | (with_reducible apply keeps_modServo)
    | (with_reducible apply keeps_setPsw)
    | (with_reducible apply keeps_publish)
    | (fail_if_no_progress extract_lets)
    | intro _
    | (with_reducible split)

theorem keeps_execOffTrack {q₀ : Bool} {b₀ : Block} {s t : State} {s' : Fin 4} (e₀ : execOffTrack s' s = .next t)
    (h₀ : Keeps q₀ b₀ s.toBlock) : Keeps q₀ b₀ t.toBlock := by
  unfold execOffTrack at e₀
  refine Keeps.upd e₀ h₀ (fun _ _ => ?_)
  repeat' first
    | (with_reducible assumption)
    | (with_reducible exact Keeps.refl)
    | (with_reducible apply Keeps.ite)
    | (with_reducible refine Keeps.foldl ?_ (fun _ _ _ => ?_))
    | (with_reducible apply keeps_onSurf)
    | (with_reducible apply keeps_modServo)
    | (with_reducible apply keeps_setPsw)
    | (with_reducible apply keeps_safeHold)
    | (with_reducible apply keeps_trackCommit)
    | (fail_if_no_progress extract_lets)
    | intro _
    | (with_reducible split)

theorem keeps_execSwathHoldKick {q₀ : Bool} {b₀ : Block} {s t : State} {s' : Fin 4} (e₀ : execSwathHoldKick s' s = .next t)
    (h₀ : Keeps q₀ b₀ s.toBlock) : Keeps q₀ b₀ t.toBlock := by
  unfold execSwathHoldKick at e₀
  refine Keeps.upd e₀ h₀ (fun _ _ => ?_)
  repeat' first
    | (with_reducible assumption)
    | (with_reducible exact Keeps.refl)
    | (with_reducible apply Keeps.ite)
    | (with_reducible refine Keeps.foldl ?_ (fun _ _ _ => ?_))
    | (with_reducible apply keeps_onSurf)
    | (with_reducible apply keeps_cmdReject)
    | (with_reducible apply keeps_modServo)
    | (with_reducible apply keeps_publish)
    | (fail_if_no_progress extract_lets)
    | intro _
    | (with_reducible split)

theorem keeps_execCoilDriverFault {q₀ : Bool} {b₀ : Block} {s t : State} {s' : Fin 4} (e₀ : execCoilDriverFault s' s = .next t)
    (h₀ : Keeps q₀ b₀ s.toBlock) : Keeps q₀ b₀ t.toBlock := by
  unfold execCoilDriverFault at e₀
  refine Keeps.upd e₀ h₀ (fun _ _ => ?_)
  repeat' first
    | (with_reducible assumption)
    | (with_reducible exact Keeps.refl)
    | (with_reducible apply Keeps.ite)
    | (with_reducible refine Keeps.foldl ?_ (fun _ _ _ => ?_))
    | (with_reducible apply keeps_onSurf)
    | (with_reducible apply keeps_setFld)
    | (with_reducible apply keeps_raiseSurf)
    | (fail_if_no_progress extract_lets)
    | intro _
    | (with_reducible split)

/-! ### Machine/Spindle.lean -/

theorem keeps_spRcap {q₀ : Bool} {b₀ b : Block} (h₀ : Keeps q₀ b₀ b) (n : Fin 2) :
    Keeps q₀ b₀ (b.spRcap n) := by
  unfold Block.spRcap
  repeat' first
    | (with_reducible assumption)
    | (with_reducible exact Keeps.refl)
    | (with_reducible apply Keeps.ite)
    | (with_reducible refine Keeps.foldl ?_ (fun _ _ _ => ?_))
    | (with_reducible apply keeps_onSpin)
    | (with_reducible apply keeps_setBit)
    | (with_reducible apply keeps_raiseSpin)
    | (fail_if_no_progress extract_lets)
    | intro _
    | (with_reducible split)

theorem keeps_spRef {q₀ : Bool} {b₀ b : Block} (h₀ : Keeps q₀ b₀ b) (n : Fin 2) (rpm : Nat) :
    Keeps q₀ b₀ (b.spRef n rpm) := by
  unfold Block.spRef
  repeat' first
    | (with_reducible assumption)
    | (with_reducible exact Keeps.refl)
    | (with_reducible apply Keeps.ite)
    | (with_reducible refine Keeps.foldl ?_ (fun _ _ _ => ?_))
    | (with_reducible apply keeps_modSpin)
    | (with_reducible apply keeps_commitData)
    | (fail_if_no_progress extract_lets)
    | intro _
    | (with_reducible split)

theorem keeps_unlock {q₀ : Bool} {b₀ b : Block} (h₀ : Keeps q₀ b₀ b) (n : Fin 2) (event : Bool) :
    Keeps q₀ b₀ (b.unlock n event) := by
  unfold Block.unlock
  repeat' first
    | (with_reducible assumption)
    | (with_reducible exact Keeps.refl)
    | (with_reducible apply Keeps.ite)
    | (with_reducible refine Keeps.foldl ?_ (fun _ _ _ => ?_))
    | (with_reducible apply keeps_setFld)
    | (with_reducible apply keeps_cutPass)
    | (with_reducible apply keeps_applyHolds)
    | (with_reducible apply keeps_raiseSpin)
    | (fail_if_no_progress extract_lets)
    | intro _
    | (with_reducible split)

theorem keeps_spGo {q₀ : Bool} {b₀ b : Block} (h₀ : Keeps q₀ b₀ b) (n : Fin 2) (st : Nat) (lossy : Bool) :
    Keeps q₀ b₀ (b.spGo n st lossy) := by
  unfold Block.spGo
  repeat' first
    | (with_reducible assumption)
    | (with_reducible exact Keeps.refl)
    | (with_reducible apply Keeps.ite)
    | (with_reducible refine Keeps.foldl ?_ (fun _ _ _ => ?_))
    | (with_reducible apply keeps_setFld)
    | (with_reducible apply keeps_setBit)
    | (with_reducible apply keeps_commitData)
    | (with_reducible apply keeps_modSpin)
    | (with_reducible apply keeps_unlock)
    | (with_reducible apply keeps_bump)
    | (with_reducible apply keeps_raiseSpin)
    | (fail_if_no_progress extract_lets)
    | intro _
    | (with_reducible split)

theorem keeps_spClear {q₀ : Bool} {b₀ b : Block} (h₀ : Keeps q₀ b₀ b) (n : Fin 2) :
    Keeps q₀ b₀ (b.spClear n) := by
  unfold Block.spClear
  repeat' first
    | (with_reducible assumption)
    | (with_reducible exact Keeps.refl)
    | (with_reducible apply Keeps.ite)
    | (with_reducible refine Keeps.foldl ?_ (fun _ _ _ => ?_))
    | (with_reducible apply keeps_modSpin)
    | (fail_if_no_progress extract_lets)
    | intro _
    | (with_reducible split)

theorem keeps_spAttempt {q₀ : Bool} {b₀ b : Block} (h₀ : Keeps q₀ b₀ b) (n : Fin 2) :
    Keeps q₀ b₀ (b.spAttempt n) := by
  unfold Block.spAttempt
  repeat' first
    | (with_reducible assumption)
    | (with_reducible exact Keeps.refl)
    | (with_reducible apply Keeps.ite)
    | (with_reducible refine Keeps.foldl ?_ (fun _ _ _ => ?_))
    | (with_reducible apply Keeps.ite2)
    | (with_reducible refine Keeps.snd (by with_reducible assumption) ?_)
    | (with_reducible refine Keeps.thd (by with_reducible assumption) ?_)
    | (with_reducible apply keeps_spClear)
    | (with_reducible apply keeps_modSpin)
    | (with_reducible apply keeps_freeVal)
    | (with_reducible apply keeps_setFld)
    | (with_reducible apply keeps_spGo)
    | (fail_if_no_progress extract_lets)
    | intro _
    | (with_reducible split)

theorem keeps_spStopped {q₀ : Bool} {b₀ b : Block} (h₀ : Keeps q₀ b₀ b) (n : Fin 2) :
    Keeps q₀ b₀ (b.spStopped n) := by
  unfold Block.spStopped
  repeat' first
    | (with_reducible assumption)
    | (with_reducible exact Keeps.refl)
    | (with_reducible apply Keeps.ite)
    | (with_reducible refine Keeps.foldl ?_ (fun _ _ _ => ?_))
    | (with_reducible apply keeps_spClear)
    | (with_reducible apply keeps_spGo)
    | (with_reducible apply keeps_raiseSpin)
    | (fail_if_no_progress extract_lets)
    | intro _
    | (with_reducible split)

theorem keeps_spFaulted {q₀ : Bool} {b₀ b : Block} (h₀ : Keeps q₀ b₀ b) (n : Fin 2) (why : Nat) :
    Keeps q₀ b₀ (b.spFaulted n why) := by
  unfold Block.spFaulted
  repeat' first
    | (with_reducible assumption)
    | (with_reducible exact Keeps.refl)
    | (with_reducible apply Keeps.ite)
    | (with_reducible refine Keeps.foldl ?_ (fun _ _ _ => ?_))
    | (with_reducible apply keeps_async)
    | (with_reducible apply keeps_modHq)
    | (fail_if_no_progress extract_lets)
    | intro _
    | (with_reducible split)

theorem keeps_spFail {q₀ : Bool} {b₀ b : Block} (h₀ : Keeps q₀ b₀ b) (n : Fin 2) :
    Keeps q₀ b₀ (b.spFail n) := by
  unfold Block.spFail
  repeat' first
    | (with_reducible assumption)
    | (with_reducible exact Keeps.refl)
    | (with_reducible apply Keeps.ite)
    | (with_reducible refine Keeps.foldl ?_ (fun _ _ _ => ?_))
    | (with_reducible apply keeps_spClear)
    | (with_reducible apply keeps_setFld)
    | (with_reducible apply keeps_bump)
    | (with_reducible apply keeps_raiseSpin)
    | (with_reducible apply keeps_spGo)
    | (with_reducible apply keeps_spFaulted)
    | (fail_if_no_progress extract_lets)
    | intro _
    | (with_reducible split)

theorem keeps_spProceed {q₀ : Bool} {b₀ b : Block} (h₀ : Keeps q₀ b₀ b) (n : Fin 2) :
    Keeps q₀ b₀ (b.spProceed n) := by
  unfold Block.spProceed
  repeat' first
    | (with_reducible assumption)
    | (with_reducible exact Keeps.refl)
    | (with_reducible apply Keeps.ite)
    | (with_reducible refine Keeps.foldl ?_ (fun _ _ _ => ?_))
    | (with_reducible apply keeps_modSpin)
    | (with_reducible apply keeps_spGo)
    | (with_reducible apply keeps_spFail)
    | (with_reducible apply keeps_spRef)
    | (fail_if_no_progress extract_lets)
    | intro _
    | (with_reducible split)

theorem keeps_spDecide {q₀ : Bool} {b₀ b : Block} (h₀ : Keeps q₀ b₀ b) (n : Fin 2) :
    Keeps q₀ b₀ (b.spDecide n) := by
  unfold Block.spDecide
  repeat' first
    | (with_reducible assumption)
    | (with_reducible exact Keeps.refl)
    | (with_reducible apply Keeps.ite)
    | (with_reducible refine Keeps.foldl ?_ (fun _ _ _ => ?_))
    | (with_reducible apply keeps_spProceed)
    | (with_reducible apply keeps_modSpin)
    | (with_reducible apply keeps_spGo)
    | (fail_if_no_progress extract_lets)
    | intro _
    | (with_reducible split)

theorem keeps_spRetarget {q₀ : Bool} {b₀ b : Block} (h₀ : Keeps q₀ b₀ b) (n : Fin 2) :
    Keeps q₀ b₀ (b.spRetarget n) := by
  unfold Block.spRetarget
  repeat' first
    | (with_reducible assumption)
    | (with_reducible exact Keeps.refl)
    | (with_reducible apply Keeps.ite)
    | (with_reducible refine Keeps.foldl ?_ (fun _ _ _ => ?_))
    | (with_reducible apply keeps_modSpin)
    | (with_reducible apply keeps_spRef)
    | (with_reducible apply keeps_spGo)
    | (fail_if_no_progress extract_lets)
    | intro _
    | (with_reducible split)

theorem keeps_spVbus {q₀ : Bool} {b₀ b : Block} (h₀ : Keeps q₀ b₀ b) (n : Fin 2) (vbus : BitVec 16) :
    Keeps q₀ b₀ (b.spVbus n vbus) := by
  unfold Block.spVbus
  repeat' first
    | (with_reducible assumption)
    | (with_reducible exact Keeps.refl)
    | (with_reducible apply Keeps.ite)
    | (with_reducible refine Keeps.foldl ?_ (fun _ _ _ => ?_))
    | (with_reducible apply keeps_setFld)
    | (with_reducible apply keeps_raiseSpin)
    | (fail_if_no_progress extract_lets)
    | intro _
    | (with_reducible split)

theorem keeps_rotorLoss {q₀ : Bool} {b₀ b : Block} (h₀ : Keeps q₀ b₀ b) (n : Fin 2) :
    Keeps q₀ b₀ (b.rotorLoss n) := by
  unfold Block.rotorLoss
  repeat' first
    | (with_reducible assumption)
    | (with_reducible exact Keeps.refl)
    | (with_reducible apply Keeps.ite)
    | (with_reducible refine Keeps.foldl ?_ (fun _ _ _ => ?_))
    | (with_reducible apply keeps_spClear)
    | (with_reducible apply keeps_modSpin)
    | (with_reducible apply keeps_setFld)
    | (with_reducible apply keeps_spGo)
    | (with_reducible apply keeps_bump)
    | (with_reducible apply keeps_surfDown)
    | (with_reducible apply keeps_modHq)
    | (with_reducible apply keeps_calAbandon)
    | (with_reducible apply keeps_postClose)
    | (fail_if_no_progress extract_lets)
    | intro _
    | (with_reducible split)

theorem keeps_spThirdMiss {q₀ : Bool} {b₀ b : Block} (h₀ : Keeps q₀ b₀ b) (n : Fin 2) :
    Keeps q₀ b₀ (b.spThirdMiss n) := by
  unfold Block.spThirdMiss
  repeat' first
    | (with_reducible assumption)
    | (with_reducible exact Keeps.refl)
    | (with_reducible apply Keeps.ite)
    | (with_reducible refine Keeps.foldl ?_ (fun _ _ _ => ?_))
    | (with_reducible apply keeps_rotorLoss)
    | (with_reducible apply keeps_spFail)
    | (fail_if_no_progress extract_lets)
    | intro _
    | (with_reducible split)

theorem keeps_spRun {q₀ : Bool} {b₀ b : Block} (h₀ : Keeps q₀ b₀ b) (n : Fin 2) :
    Keeps q₀ b₀ (b.spRun n) := by
  unfold Block.spRun
  repeat' first
    | (with_reducible assumption)
    | (with_reducible exact Keeps.refl)
    | (with_reducible apply Keeps.ite)
    | (with_reducible refine Keeps.foldl ?_ (fun _ _ _ => ?_))
    | (with_reducible apply keeps_onSpin)
    | (with_reducible apply keeps_setFld)
    | (with_reducible apply keeps_modPw)
    | (with_reducible apply keeps_spAttempt)
    | (with_reducible apply keeps_modSpin)
    | (fail_if_no_progress extract_lets)
    | intro _
    | (with_reducible split)

theorem keeps_execSpindleRun {q₀ : Bool} {b₀ : Block} {s t : State} {n : Fin 2} (e₀ : execSpindleRun n s = .next t)
    (h₀ : Keeps q₀ b₀ s.toBlock) : Keeps q₀ b₀ t.toBlock := by
  unfold execSpindleRun at e₀
  refine Keeps.upd e₀ h₀ (fun _ _ => ?_)
  repeat' first
    | (with_reducible assumption)
    | (with_reducible exact Keeps.refl)
    | (with_reducible apply Keeps.ite)
    | (with_reducible refine Keeps.foldl ?_ (fun _ _ _ => ?_))
    | (with_reducible apply keeps_spRun)
    | (fail_if_no_progress extract_lets)
    | intro _
    | (with_reducible split)

theorem keeps_spStop {q₀ : Bool} {b₀ b : Block} (h₀ : Keeps q₀ b₀ b) (n : Fin 2) :
    Keeps q₀ b₀ (b.spStop n) := by
  unfold Block.spStop
  repeat' first
    | (with_reducible assumption)
    | (with_reducible exact Keeps.refl)
    | (with_reducible apply Keeps.ite)
    | (with_reducible refine Keeps.foldl ?_ (fun _ _ _ => ?_))
    | (with_reducible apply keeps_setFld)
    | (with_reducible apply keeps_spClear)
    | (with_reducible apply keeps_modSpin)
    | (with_reducible apply keeps_spRef)
    | (with_reducible apply keeps_spGo)
    | (fail_if_no_progress extract_lets)
    | intro _
    | (with_reducible split)

theorem keeps_execSpindleStop {q₀ : Bool} {b₀ : Block} {s t : State} {n : Fin 2} (e₀ : execSpindleStop n s = .next t)
    (h₀ : Keeps q₀ b₀ s.toBlock) : Keeps q₀ b₀ t.toBlock := by
  unfold execSpindleStop at e₀
  refine Keeps.upd e₀ h₀ (fun _ _ => ?_)
  repeat' first
    | (with_reducible assumption)
    | (with_reducible exact Keeps.refl)
    | (with_reducible apply Keeps.ite)
    | (with_reducible refine Keeps.foldl ?_ (fun _ _ _ => ?_))
    | (with_reducible apply keeps_onSpin)
    | (with_reducible apply keeps_spStop)
    | (fail_if_no_progress extract_lets)
    | intro _
    | (with_reducible split)

theorem keeps_execSetSpeed {q₀ : Bool} {b₀ : Block} {s t : State} {n : Fin 2} {rpm : BitVec 14} (e₀ : execSetSpeed n rpm s = .next t)
    (h₀ : Keeps q₀ b₀ s.toBlock) : Keeps q₀ b₀ t.toBlock := by
  unfold execSetSpeed at e₀
  refine Keeps.upd e₀ h₀ (fun _ _ => ?_)
  repeat' first
    | (with_reducible assumption)
    | (with_reducible exact Keeps.refl)
    | (with_reducible apply Keeps.ite)
    | (with_reducible refine Keeps.foldl ?_ (fun _ _ _ => ?_))
    | (with_reducible apply keeps_onSpin)
    | (with_reducible apply keeps_setFld)
    | (with_reducible apply keeps_spRcap)
    | (with_reducible apply keeps_spRetarget)
    | (fail_if_no_progress extract_lets)
    | intro _
    | (with_reducible split)

theorem keeps_spCatch {q₀ : Bool} {b₀ b : Block} (h₀ : Keeps q₀ b₀ b) (n : Fin 2) (angle : Word) (rpm : Int) :
    Keeps q₀ b₀ (b.spCatch n angle rpm) := by
  unfold Block.spCatch
  repeat' first
    | (with_reducible assumption)
    | (with_reducible exact Keeps.refl)
    | (with_reducible apply Keeps.ite)
    | (with_reducible refine Keeps.foldl ?_ (fun _ _ _ => ?_))
    | (with_reducible apply keeps_commitData)
    | (with_reducible apply keeps_spGo)
    | (fail_if_no_progress extract_lets)
    | intro _
    | (with_reducible split)

theorem keeps_execCoastSenseDone {q₀ : Bool} {b₀ : Block} {s t : State} {n : Fin 2} {rpm : BitVec 16} {crossings : BitVec 8} {angle : Word} (e₀ : execCoastSenseDone n rpm crossings angle s = .next t)
    (h₀ : Keeps q₀ b₀ s.toBlock) : Keeps q₀ b₀ t.toBlock := by
  unfold execCoastSenseDone at e₀
  refine Keeps.upd e₀ h₀ (fun _ _ => ?_)
  repeat' first
    | (with_reducible assumption)
    | (with_reducible exact Keeps.refl)
    | (with_reducible apply Keeps.ite)
    | (with_reducible refine Keeps.foldl ?_ (fun _ _ _ => ?_))
    | (with_reducible apply Keeps.ite2)
    | (with_reducible refine Keeps.snd (by with_reducible assumption) ?_)
    | (with_reducible refine Keeps.thd (by with_reducible assumption) ?_)
    | (with_reducible apply keeps_onSpin)
    | (with_reducible apply keeps_setFld)
    | (with_reducible apply keeps_freeVal)
    | (with_reducible apply keeps_spGo)
    | (with_reducible apply keeps_spCatch)
    | (with_reducible apply keeps_spStopped)
    | (fail_if_no_progress extract_lets)
    | intro _
    | (with_reducible split)

theorem keeps_execBbrakeEnd {q₀ : Bool} {b₀ : Block} {s t : State} {n : Fin 2} (e₀ : execBbrakeEnd n s = .next t)
    (h₀ : Keeps q₀ b₀ s.toBlock) : Keeps q₀ b₀ t.toBlock := by
  unfold execBbrakeEnd at e₀
  refine Keeps.upd e₀ h₀ (fun _ _ => ?_)
  repeat' first
    | (with_reducible assumption)
    | (with_reducible exact Keeps.refl)
    | (with_reducible apply Keeps.ite)
    | (with_reducible refine Keeps.foldl ?_ (fun _ _ _ => ?_))
    | (with_reducible apply keeps_onSpin)
    | (with_reducible apply keeps_spFail)
    | (with_reducible apply keeps_modSpin)
    | (fail_if_no_progress extract_lets)
    | intro _
    | (with_reducible split)

theorem keeps_execAlignEnd {q₀ : Bool} {b₀ : Block} {s t : State} {n : Fin 2} (e₀ : execAlignEnd n s = .next t)
    (h₀ : Keeps q₀ b₀ s.toBlock) : Keeps q₀ b₀ t.toBlock := by
  unfold execAlignEnd at e₀
  refine Keeps.upd e₀ h₀ (fun _ _ => ?_)
  repeat' first
    | (with_reducible assumption)
    | (with_reducible exact Keeps.refl)
    | (with_reducible apply Keeps.ite)
    | (with_reducible refine Keeps.foldl ?_ (fun _ _ _ => ?_))
    | (with_reducible apply keeps_onSpin)
    | (with_reducible apply keeps_spGo)
    | (fail_if_no_progress extract_lets)
    | intro _
    | (with_reducible split)

theorem keeps_execRampEnd {q₀ : Bool} {b₀ : Block} {s t : State} {n : Fin 2} (e₀ : execRampEnd n s = .next t)
    (h₀ : Keeps q₀ b₀ s.toBlock) : Keeps q₀ b₀ t.toBlock := by
  unfold execRampEnd at e₀
  refine Keeps.upd e₀ h₀ (fun _ _ => ?_)
  repeat' first
    | (with_reducible assumption)
    | (with_reducible exact Keeps.refl)
    | (with_reducible apply Keeps.ite)
    | (with_reducible refine Keeps.foldl ?_ (fun _ _ _ => ?_))
    | (with_reducible apply keeps_onSpin)
    | (with_reducible apply keeps_spFail)
    | (with_reducible apply keeps_commitData)
    | (with_reducible apply keeps_spRef)
    | (with_reducible apply keeps_spGo)
    | (fail_if_no_progress extract_lets)
    | intro _
    | (with_reducible split)

theorem keeps_execAttemptFailed {q₀ : Bool} {b₀ : Block} {s t : State} {n : Fin 2} (e₀ : execAttemptFailed n s = .next t)
    (h₀ : Keeps q₀ b₀ s.toBlock) : Keeps q₀ b₀ t.toBlock := by
  unfold execAttemptFailed at e₀
  refine Keeps.upd e₀ h₀ (fun _ _ => ?_)
  repeat' first
    | (with_reducible assumption)
    | (with_reducible exact Keeps.refl)
    | (with_reducible apply Keeps.ite)
    | (with_reducible refine Keeps.foldl ?_ (fun _ _ _ => ?_))
    | (with_reducible apply keeps_onSpin)
    | (with_reducible apply keeps_spFail)
    | (fail_if_no_progress extract_lets)
    | intro _
    | (with_reducible split)

theorem keeps_execRetryWaitEnd {q₀ : Bool} {b₀ : Block} {s t : State} {n : Fin 2} (e₀ : execRetryWaitEnd n s = .next t)
    (h₀ : Keeps q₀ b₀ s.toBlock) : Keeps q₀ b₀ t.toBlock := by
  unfold execRetryWaitEnd at e₀
  refine Keeps.upd e₀ h₀ (fun _ _ => ?_)
  repeat' first
    | (with_reducible assumption)
    | (with_reducible exact Keeps.refl)
    | (with_reducible apply Keeps.ite)
    | (with_reducible refine Keeps.foldl ?_ (fun _ _ _ => ?_))
    | (with_reducible apply keeps_onSpin)
    | (with_reducible apply keeps_spAttempt)
    | (fail_if_no_progress extract_lets)
    | intro _
    | (with_reducible split)

theorem keeps_execCatchResync {q₀ : Bool} {b₀ : Block} {s t : State} {n : Fin 2} (e₀ : execCatchResync n s = .next t)
    (h₀ : Keeps q₀ b₀ s.toBlock) : Keeps q₀ b₀ t.toBlock := by
  unfold execCatchResync at e₀
  refine Keeps.upd e₀ h₀ (fun _ _ => ?_)
  repeat' first
    | (with_reducible assumption)
    | (with_reducible exact Keeps.refl)
    | (with_reducible apply Keeps.ite)
    | (with_reducible refine Keeps.foldl ?_ (fun _ _ _ => ?_))
    | (with_reducible apply keeps_onSpin)
    | (with_reducible apply keeps_bump)
    | (with_reducible apply keeps_raiseSpin)
    | (with_reducible apply keeps_commitData)
    | (with_reducible apply keeps_modSpin)
    | (fail_if_no_progress extract_lets)
    | intro _
    | (with_reducible split)

theorem keeps_firmwareOff {q₀ : Bool} {b₀ b : Block} (h₀ : Keeps q₀ b₀ b) (s : Fin 4) :
    Keeps q₀ b₀ (b.firmwareOff s) := by
  unfold Block.firmwareOff
  repeat' first
    | (with_reducible assumption)
    | (with_reducible exact Keeps.refl)
    | (with_reducible apply Keeps.ite)
    | (with_reducible refine Keeps.foldl ?_ (fun _ _ _ => ?_))
    | (with_reducible apply keeps_commitData)
    | (with_reducible apply keeps_takeCmd)
    | (with_reducible apply keeps_modServo)
    | (with_reducible apply keeps_setFld)
    | (with_reducible apply keeps_setPsw)
    | (with_reducible apply keeps_trackCommit)
    | (with_reducible apply keeps_cmdDone)
    | (fail_if_no_progress extract_lets)
    | intro _
    | (with_reducible split)

theorem keeps_execCatchTimeout {q₀ : Bool} {b₀ : Block} {s t : State} {n : Fin 2} (e₀ : execCatchTimeout n s = .next t)
    (h₀ : Keeps q₀ b₀ s.toBlock) : Keeps q₀ b₀ t.toBlock := by
  unfold execCatchTimeout at e₀
  refine Keeps.upd e₀ h₀ (fun _ _ => ?_)
  repeat' first
    | (with_reducible assumption)
    | (with_reducible exact Keeps.refl)
    | (with_reducible apply Keeps.ite)
    | (with_reducible refine Keeps.foldl ?_ (fun _ _ _ => ?_))
    | (with_reducible apply keeps_onSpin)
    | (with_reducible apply keeps_spClear)
    | (with_reducible apply keeps_spGo)
    | (with_reducible apply keeps_raiseSpin)
    | (with_reducible apply keeps_async)
    | (with_reducible apply keeps_firmwareOff)
    | (fail_if_no_progress extract_lets)
    | intro _
    | (with_reducible split)

theorem keeps_execAccelGrant {q₀ : Bool} {b₀ : Block} {s t : State} {n : Fin 2} (e₀ : execAccelGrant n s = .next t)
    (h₀ : Keeps q₀ b₀ s.toBlock) : Keeps q₀ b₀ t.toBlock := by
  unfold execAccelGrant at e₀
  refine Keeps.upd e₀ h₀ (fun _ _ => ?_)
  repeat' first
    | (with_reducible assumption)
    | (with_reducible exact Keeps.refl)
    | (with_reducible apply Keeps.ite)
    | (with_reducible refine Keeps.foldl ?_ (fun _ _ _ => ?_))
    | (with_reducible apply keeps_onSpin)
    | (with_reducible apply keeps_spProceed)
    | (fail_if_no_progress extract_lets)
    | intro _
    | (with_reducible split)

theorem keeps_coefSet {q₀ : Bool} {b₀ b : Block} (h₀ : Keeps q₀ b₀ b) (n : Fin 2) :
    Keeps q₀ b₀ (b.coefSet n) := by
  unfold Block.coefSet
  repeat' first
    | (with_reducible assumption)
    | (with_reducible exact Keeps.refl)
    | (with_reducible apply Keeps.ite)
    | (with_reducible refine Keeps.foldl ?_ (fun _ _ _ => ?_))
    | (with_reducible apply keeps_putBit)
    | (fail_if_no_progress extract_lets)
    | intro _
    | (with_reducible split)

theorem keeps_execSpeedLock {q₀ : Bool} {b₀ : Block} {s t : State} {n : Fin 2} (e₀ : execSpeedLock n s = .next t)
    (h₀ : Keeps q₀ b₀ s.toBlock) : Keeps q₀ b₀ t.toBlock := by
  unfold execSpeedLock at e₀
  refine Keeps.upd e₀ h₀ (fun _ _ => ?_)
  repeat' first
    | (with_reducible assumption)
    | (with_reducible exact Keeps.refl)
    | (with_reducible apply Keeps.ite)
    | (with_reducible refine Keeps.foldl ?_ (fun _ _ _ => ?_))
    | (with_reducible apply keeps_onSpin)
    | (with_reducible apply keeps_setFld)
    | (with_reducible apply keeps_modSpin)
    | (with_reducible apply keeps_coefSet)
    | (with_reducible apply keeps_raiseSpin)
    | (fail_if_no_progress extract_lets)
    | intro _
    | (with_reducible split)

theorem keeps_execLockLost {q₀ : Bool} {b₀ : Block} {s t : State} {n : Fin 2} (e₀ : execLockLost n s = .next t)
    (h₀ : Keeps q₀ b₀ s.toBlock) : Keeps q₀ b₀ t.toBlock := by
  unfold execLockLost at e₀
  refine Keeps.upd e₀ h₀ (fun _ _ => ?_)
  repeat' first
    | (with_reducible assumption)
    | (with_reducible exact Keeps.refl)
    | (with_reducible apply Keeps.ite)
    | (with_reducible refine Keeps.foldl ?_ (fun _ _ _ => ?_))
    | (with_reducible apply keeps_onSpin)
    | (with_reducible apply keeps_unlock)
    | (fail_if_no_progress extract_lets)
    | intro _
    | (with_reducible split)

theorem keeps_execRotorLoss {q₀ : Bool} {b₀ : Block} {s t : State} {n : Fin 2} (e₀ : execRotorLoss n s = .next t)
    (h₀ : Keeps q₀ b₀ s.toBlock) : Keeps q₀ b₀ t.toBlock := by
  unfold execRotorLoss at e₀
  refine Keeps.upd e₀ h₀ (fun _ _ => ?_)
  repeat' first
    | (with_reducible assumption)
    | (with_reducible exact Keeps.refl)
    | (with_reducible apply Keeps.ite)
    | (with_reducible refine Keeps.foldl ?_ (fun _ _ _ => ?_))
    | (with_reducible apply keeps_onSpin)
    | (with_reducible apply keeps_rotorLoss)
    | (fail_if_no_progress extract_lets)
    | intro _
    | (with_reducible split)

theorem keeps_execBrakeExit {q₀ : Bool} {b₀ : Block} {s t : State} {n : Fin 2} (e₀ : execBrakeExit n s = .next t)
    (h₀ : Keeps q₀ b₀ s.toBlock) : Keeps q₀ b₀ t.toBlock := by
  unfold execBrakeExit at e₀
  refine Keeps.upd e₀ h₀ (fun _ _ => ?_)
  repeat' first
    | (with_reducible assumption)
    | (with_reducible exact Keeps.refl)
    | (with_reducible apply Keeps.ite)
    | (with_reducible refine Keeps.foldl ?_ (fun _ _ _ => ?_))
    | (with_reducible apply keeps_onSpin)
    | (with_reducible apply keeps_spAttempt)
    | (with_reducible apply keeps_spStopped)
    | (fail_if_no_progress extract_lets)
    | intro _
    | (with_reducible split)

theorem keeps_spFault {q₀ : Bool} {b₀ b : Block} (h₀ : Keeps q₀ b₀ b) (n : Fin 2) (f : Fld) :
    Keeps q₀ b₀ (b.spFault n f) := by
  unfold Block.spFault
  repeat' first
    | (with_reducible assumption)
    | (with_reducible exact Keeps.refl)
    | (with_reducible apply Keeps.ite)
    | (with_reducible refine Keeps.foldl ?_ (fun _ _ _ => ?_))
    | (with_reducible apply keeps_setFld)
    | (with_reducible apply keeps_spClear)
    | (with_reducible apply keeps_spGo)
    | (with_reducible apply keeps_spFaulted)
    | (fail_if_no_progress extract_lets)
    | intro _
    | (with_reducible split)

theorem keeps_execBrakeTimeout {q₀ : Bool} {b₀ : Block} {s t : State} {n : Fin 2} (e₀ : execBrakeTimeout n s = .next t)
    (h₀ : Keeps q₀ b₀ s.toBlock) : Keeps q₀ b₀ t.toBlock := by
  unfold execBrakeTimeout at e₀
  refine Keeps.upd e₀ h₀ (fun _ _ => ?_)
  repeat' first
    | (with_reducible assumption)
    | (with_reducible exact Keeps.refl)
    | (with_reducible apply Keeps.ite)
    | (with_reducible refine Keeps.foldl ?_ (fun _ _ _ => ?_))
    | (with_reducible apply keeps_onSpin)
    | (with_reducible apply keeps_spFault)
    | (fail_if_no_progress extract_lets)
    | intro _
    | (with_reducible split)

theorem keeps_execBridgeOvercurrent {q₀ : Bool} {b₀ : Block} {s t : State} {n : Fin 2} {overTemp : Bool} (e₀ : execBridgeOvercurrent n overTemp s = .next t)
    (h₀ : Keeps q₀ b₀ s.toBlock) : Keeps q₀ b₀ t.toBlock := by
  unfold execBridgeOvercurrent at e₀
  refine Keeps.upd e₀ h₀ (fun _ _ => ?_)
  repeat' first
    | (with_reducible assumption)
    | (with_reducible exact Keeps.refl)
    | (with_reducible apply Keeps.ite)
    | (with_reducible refine Keeps.foldl ?_ (fun _ _ _ => ?_))
    | (with_reducible apply keeps_onSpin)
    | (with_reducible apply keeps_spFault)
    | (fail_if_no_progress extract_lets)
    | intro _
    | (with_reducible split)

theorem keeps_spFaultDone {q₀ : Bool} {b₀ b : Block} (h₀ : Keeps q₀ b₀ b) (n : Fin 2) :
    Keeps q₀ b₀ (b.spFaultDone n) := by
  unfold Block.spFaultDone
  repeat' first
    | (with_reducible assumption)
    | (with_reducible exact Keeps.refl)
    | (with_reducible apply Keeps.ite)
    | (with_reducible refine Keeps.foldl ?_ (fun _ _ _ => ?_))
    | (with_reducible apply keeps_setFld)
    | (with_reducible apply keeps_spGo)
    | (fail_if_no_progress extract_lets)
    | intro _
    | (with_reducible split)

theorem keeps_execFaultClear {q₀ : Bool} {b₀ : Block} {s t : State} {n : Fin 2} {bits : BitVec 4} (e₀ : execFaultClear n bits s = .next t)
    (h₀ : Keeps q₀ b₀ s.toBlock) : Keeps q₀ b₀ t.toBlock := by
  unfold execFaultClear at e₀
  refine Keeps.upd e₀ h₀ (fun _ _ => ?_)
  repeat' first
    | (with_reducible assumption)
    | (with_reducible exact Keeps.refl)
    | (with_reducible apply Keeps.ite)
    | (with_reducible refine Keeps.foldl ?_ (fun _ _ _ => ?_))
    | (with_reducible apply keeps_onSpin)
    | (with_reducible apply keeps_wr)
    | (with_reducible apply keeps_spFaultDone)
    | (fail_if_no_progress extract_lets)
    | intro _
    | (with_reducible split)

theorem keeps_spShadow {q₀ : Bool} {b₀ b : Block} (h₀ : Keeps q₀ b₀ b) (n : Fin 2) :
    Keeps q₀ b₀ (b.spShadow n) := by
  unfold Block.spShadow
  repeat' first
    | (with_reducible assumption)
    | (with_reducible exact Keeps.refl)
    | (with_reducible apply Keeps.ite)
    | (with_reducible refine Keeps.foldl ?_ (fun _ _ _ => ?_))
    | (with_reducible apply keeps_modSpin)
    | (fail_if_no_progress extract_lets)
    | intro _
    | (with_reducible split)

theorem keeps_spReached {q₀ : Bool} {b₀ b : Block} (h₀ : Keeps q₀ b₀ b) (n : Fin 2) :
    Keeps q₀ b₀ (b.spReached n) := by
  unfold Block.spReached
  repeat' first
    | (with_reducible assumption)
    | (with_reducible exact Keeps.refl)
    | (with_reducible apply Keeps.ite)
    | (with_reducible refine Keeps.foldl ?_ (fun _ _ _ => ?_))
    | (with_reducible apply keeps_spGo)
    | (fail_if_no_progress extract_lets)
    | intro _
    | (with_reducible split)

theorem keeps_execPwmPeriod {q₀ : Bool} {b₀ : Block} {s t : State} {n : Fin 2} {code1 : BitVec 12} {code2 : BitVec 12} {vbus : BitVec 16} {rpm : BitVec 16} (e₀ : execPwmPeriod n code1 code2 vbus rpm s = .next t)
    (h₀ : Keeps q₀ b₀ s.toBlock) : Keeps q₀ b₀ t.toBlock := by
  unfold execPwmPeriod at e₀
  refine Keeps.upd e₀ h₀ (fun _ _ => ?_)
  repeat' first
    | (with_reducible assumption)
    | (with_reducible exact Keeps.refl)
    | (with_reducible apply Keeps.ite)
    | (with_reducible refine Keeps.foldl ?_ (fun _ _ _ => ?_))
    | (with_reducible apply keeps_onSpin)
    | (with_reducible apply keeps_spShadow)
    | (with_reducible apply keeps_modSpin)
    | (with_reducible apply keeps_bump)
    | (with_reducible apply keeps_setFld)
    | (with_reducible apply keeps_commitData)
    | (with_reducible apply keeps_spVbus)
    | (with_reducible apply keeps_spReached)
    | (fail_if_no_progress extract_lets)
    | intro _
    | (with_reducible split)

theorem keeps_execVclampSet {q₀ : Bool} {b₀ : Block} {s t : State} {n : Fin 2} {vbus : BitVec 16} (e₀ : execVclampSet n vbus s = .next t)
    (h₀ : Keeps q₀ b₀ s.toBlock) : Keeps q₀ b₀ t.toBlock := by
  unfold execVclampSet at e₀
  refine Keeps.upd e₀ h₀ (fun _ _ => ?_)
  repeat' first
    | (with_reducible assumption)
    | (with_reducible exact Keeps.refl)
    | (with_reducible apply Keeps.ite)
    | (with_reducible refine Keeps.foldl ?_ (fun _ _ _ => ?_))
    | (with_reducible apply keeps_onSpin)
    | (with_reducible apply keeps_spVbus)
    | (fail_if_no_progress extract_lets)
    | intro _
    | (with_reducible split)

/-! ### Machine/Axes.lean -/

theorem keeps_dropFollow {q₀ : Bool} {b₀ b : Block} (h₀ : Keeps q₀ b₀ b) (a : Fin 9) :
    Keeps q₀ b₀ (b.dropFollow a) := by
  unfold Block.dropFollow
  repeat' first
    | (with_reducible assumption)
    | (with_reducible exact Keeps.refl)
    | (with_reducible apply Keeps.ite)
    | (with_reducible refine Keeps.foldl ?_ (fun _ _ _ => ?_))
    | (with_reducible apply keeps_modAxis)
    | (with_reducible apply keeps_setFld)
    | (fail_if_no_progress extract_lets)
    | intro _
    | (with_reducible split)

theorem keeps_axFault {q₀ : Bool} {b₀ b : Block} (h₀ : Keeps q₀ b₀ b) (a : Fin 9) (f : Fld) :
    Keeps q₀ b₀ (b.axFault a f) := by
  unfold Block.axFault
  repeat' first
    | (with_reducible assumption)
    | (with_reducible exact Keeps.refl)
    | (with_reducible apply Keeps.ite)
    | (with_reducible refine Keeps.foldl ?_ (fun _ _ _ => ?_))
    | (with_reducible apply keeps_setFld)
    | (fail_if_no_progress extract_lets)
    | intro _
    | (with_reducible split)

theorem keeps_endHoming {q₀ : Bool} {b₀ b : Block} (h₀ : Keeps q₀ b₀ b) (a : Fin 9) :
    Keeps q₀ b₀ (b.endHoming a) := by
  unfold Block.endHoming
  repeat' first
    | (with_reducible assumption)
    | (with_reducible exact Keeps.refl)
    | (with_reducible apply Keeps.ite)
    | (with_reducible refine Keeps.foldl ?_ (fun _ _ _ => ?_))
    | (with_reducible apply keeps_modAxis)
    | (with_reducible apply keeps_setFld)
    | (fail_if_no_progress extract_lets)
    | intro _
    | (with_reducible split)

theorem keeps_emergency {q₀ : Bool} {b₀ b : Block} (h₀ : Keeps q₀ b₀ b) (a : Fin 9) :
    Keeps q₀ b₀ (b.emergency a) := by
  unfold Block.emergency
  repeat' first
    | (with_reducible assumption)
    | (with_reducible exact Keeps.refl)
    | (with_reducible apply Keeps.ite)
    | (with_reducible refine Keeps.foldl ?_ (fun _ _ _ => ?_))
    | (with_reducible apply keeps_endHoming)
    | (with_reducible apply keeps_modAxis)
    | (fail_if_no_progress extract_lets)
    | intro _
    | (with_reducible split)

theorem keeps_axHalt {q₀ : Bool} {b₀ b : Block} (h₀ : Keeps q₀ b₀ b) (a : Fin 9) :
    Keeps q₀ b₀ (b.axHalt a) := by
  unfold Block.axHalt
  repeat' first
    | (with_reducible assumption)
    | (with_reducible exact Keeps.refl)
    | (with_reducible apply Keeps.ite)
    | (with_reducible refine Keeps.foldl ?_ (fun _ _ _ => ?_))
    | (with_reducible apply keeps_setFld)
    | (with_reducible apply keeps_dropFollow)
    | (with_reducible apply keeps_endHoming)
    | (fail_if_no_progress extract_lets)
    | intro _
    | (with_reducible split)

theorem keeps_setT {q₀ : Bool} {b₀ b : Block} (h₀ : Keeps q₀ b₀ b) (a : Fin 9) (t : Int) :
    Keeps q₀ b₀ (b.setT a t) := by
  unfold Block.setT
  repeat' first
    | (with_reducible assumption)
    | (with_reducible exact Keeps.refl)
    | (with_reducible apply Keeps.ite)
    | (with_reducible refine Keeps.foldl ?_ (fun _ _ _ => ?_))
    | (with_reducible apply keeps_modAxis)
    | (with_reducible apply keeps_setFld)
    | (fail_if_no_progress extract_lets)
    | intro _
    | (with_reducible split)

theorem keeps_startFollow {q₀ : Bool} {b₀ b : Block} (h₀ : Keeps q₀ b₀ b) (a : Fin 9) :
    Keeps q₀ b₀ (b.startFollow a) := by
  unfold Block.startFollow
  repeat' first
    | (with_reducible assumption)
    | (with_reducible exact Keeps.refl)
    | (with_reducible apply Keeps.ite)
    | (with_reducible refine Keeps.foldl ?_ (fun _ _ _ => ?_))
    | (with_reducible apply keeps_dropFollow)
    | (with_reducible apply keeps_setT)
    | (with_reducible apply keeps_raiseAxis)
    | (fail_if_no_progress extract_lets)
    | intro _
    | (with_reducible split)

theorem keeps_placeTarget {q₀ : Bool} {b₀ b : Block} (h₀ : Keeps q₀ b₀ b) (a : Fin 9) (v : Int) :
    Keeps q₀ b₀ (b.placeTarget a v) := by
  unfold Block.placeTarget
  repeat' first
    | (with_reducible assumption)
    | (with_reducible exact Keeps.refl)
    | (with_reducible apply Keeps.ite)
    | (with_reducible refine Keeps.foldl ?_ (fun _ _ _ => ?_))
    | (with_reducible apply keeps_bump)
    | (with_reducible apply keeps_setT)
    | (with_reducible apply keeps_modAxis)
    | (with_reducible apply keeps_setFld)
    | (fail_if_no_progress extract_lets)
    | intro _
    | (with_reducible split)

theorem keeps_takeTargets {q₀ : Bool} {b₀ b : Block} (h₀ : Keeps q₀ b₀ b) (a : Fin 9) :
    Keeps q₀ b₀ (b.takeTargets a) := by
  unfold Block.takeTargets
  dsimp only
  repeat' first
    | (with_reducible assumption)
    | (with_reducible exact Keeps.refl)
    | (with_reducible apply Keeps.ite)
    | (with_reducible refine Keeps.foldl ?_ (fun _ _ _ => ?_))
    | (with_reducible apply keeps_modAxis)
    | (with_reducible apply keeps_placeTarget)
    | (fail_if_no_progress extract_lets)
    | intro _
    | (with_reducible split)

theorem keeps_homeMove {q₀ : Bool} {b₀ b : Block} (h₀ : Keeps q₀ b₀ b) (a : Fin 9) (dir : Int) (step : Nat) :
    Keeps q₀ b₀ (b.homeMove a dir step) := by
  unfold Block.homeMove
  repeat' first
    | (with_reducible assumption)
    | (with_reducible exact Keeps.refl)
    | (with_reducible apply Keeps.ite)
    | (with_reducible refine Keeps.foldl ?_ (fun _ _ _ => ?_))
    | (with_reducible apply keeps_setT)
    | (with_reducible apply keeps_modAxis)
    | (fail_if_no_progress extract_lets)
    | intro _
    | (with_reducible split)

theorem keeps_homeFinal {q₀ : Bool} {b₀ b : Block} (h₀ : Keeps q₀ b₀ b) (a : Fin 9) :
    Keeps q₀ b₀ (b.homeFinal a) := by
  unfold Block.homeFinal
  repeat' first
    | (with_reducible assumption)
    | (with_reducible exact Keeps.refl)
    | (with_reducible apply Keeps.ite)
    | (with_reducible refine Keeps.foldl ?_ (fun _ _ _ => ?_))
    | (with_reducible apply keeps_setT)
    | (with_reducible apply keeps_modAxis)
    | (fail_if_no_progress extract_lets)
    | intro _
    | (with_reducible split)

theorem keeps_homeAuto {q₀ : Bool} {b₀ b : Block} (h₀ : Keeps q₀ b₀ b) (a : Fin 9) :
    Keeps q₀ b₀ (b.homeAuto a) := by
  unfold Block.homeAuto
  repeat' first
    | (with_reducible assumption)
    | (with_reducible exact Keeps.refl)
    | (with_reducible apply Keeps.ite)
    | (with_reducible refine Keeps.foldl ?_ (fun _ _ _ => ?_))
    | (with_reducible apply keeps_homeMove)
    | (fail_if_no_progress extract_lets)
    | intro _
    | (with_reducible split)

theorem keeps_sampleLimits {q₀ : Bool} {b₀ b : Block} (h₀ : Keeps q₀ b₀ b) (a : Fin 9) :
    Keeps q₀ b₀ (b.sampleLimits a) := by
  unfold Block.sampleLimits
  repeat' first
    | (with_reducible assumption)
    | (with_reducible exact Keeps.refl)
    | (with_reducible apply Keeps.ite)
    | (with_reducible refine Keeps.foldl ?_ (fun _ _ _ => ?_))
    | (with_reducible apply keeps_modAxis)
    | (fail_if_no_progress extract_lets)
    | intro _
    | (with_reducible split)

theorem keeps_axPreamble {q₀ : Bool} {b₀ b : Block} (h₀ : Keeps q₀ b₀ b) (a : Fin 9) :
    Keeps q₀ b₀ (b.axPreamble a) := by
  unfold Block.axPreamble
  repeat' first
    | (with_reducible assumption)
    | (with_reducible exact Keeps.refl)
    | (with_reducible apply Keeps.ite)
    | (with_reducible refine Keeps.foldl ?_ (fun _ _ _ => ?_))
    | (with_reducible apply keeps_onAxis)
    | (with_reducible apply keeps_homeAuto)
    | (with_reducible apply keeps_sampleLimits)
    | (with_reducible apply keeps_takeTargets)
    | (with_reducible apply keeps_startFollow)
    | (with_reducible apply keeps_setFld)
    | (fail_if_no_progress extract_lets)
    | intro _
    | (with_reducible split)

theorem keeps_stallAxis {q₀ : Bool} {b₀ b : Block} (h₀ : Keeps q₀ b₀ b) (a : Fin 9) :
    Keeps q₀ b₀ (b.stallAxis a) := by
  unfold Block.stallAxis
  repeat' first
    | (with_reducible assumption)
    | (with_reducible exact Keeps.refl)
    | (with_reducible apply Keeps.ite)
    | (with_reducible refine Keeps.foldl ?_ (fun _ _ _ => ?_))
    | (with_reducible apply keeps_endHoming)
    | (with_reducible apply keeps_dropFollow)
    | (with_reducible apply keeps_modAxis)
    | (with_reducible apply keeps_axFault)
    | (with_reducible apply keeps_setFld)
    | (with_reducible apply keeps_bump)
    | (with_reducible apply keeps_raiseAxis)
    | (fail_if_no_progress extract_lets)
    | intro _
    | (with_reducible split)

theorem keeps_axFaultDone {q₀ : Bool} {b₀ b : Block} (h₀ : Keeps q₀ b₀ b) (a : Fin 9) :
    Keeps q₀ b₀ (b.axFaultDone a) := by
  unfold Block.axFaultDone
  repeat' first
    | (with_reducible assumption)
    | (with_reducible exact Keeps.refl)
    | (with_reducible apply Keeps.ite)
    | (with_reducible refine Keeps.foldl ?_ (fun _ _ _ => ?_))
    | (with_reducible apply keeps_setBit)
    | (with_reducible apply keeps_modAxis)
    | (fail_if_no_progress extract_lets)
    | intro _
    | (with_reducible split)

theorem keeps_execAxisTarget {q₀ : Bool} {b₀ : Block} {s t : State} {a : Fin 9} {v : BitVec 32} (e₀ : execAxisTarget a v s = .next t)
    (h₀ : Keeps q₀ b₀ s.toBlock) : Keeps q₀ b₀ t.toBlock := by
  unfold execAxisTarget at e₀
  refine Keeps.upd e₀ h₀ (fun _ _ => ?_)
  repeat' first
    | (with_reducible assumption)
    | (with_reducible exact Keeps.refl)
    | (with_reducible apply Keeps.ite)
    | (with_reducible refine Keeps.foldl ?_ (fun _ _ _ => ?_))
    | (with_reducible apply keeps_onAxis)
    | (with_reducible apply keeps_wr)
    | (with_reducible apply keeps_modAxis)
    | (fail_if_no_progress extract_lets)
    | intro _
    | (with_reducible split)

theorem keeps_execAxisRelative {q₀ : Bool} {b₀ : Block} {s t : State} {a : Fin 9} {v : BitVec 32} (e₀ : execAxisRelative a v s = .next t)
    (h₀ : Keeps q₀ b₀ s.toBlock) : Keeps q₀ b₀ t.toBlock := by
  unfold execAxisRelative at e₀
  refine Keeps.upd e₀ h₀ (fun _ _ => ?_)
  repeat' first
    | (with_reducible assumption)
    | (with_reducible exact Keeps.refl)
    | (with_reducible apply Keeps.ite)
    | (with_reducible refine Keeps.foldl ?_ (fun _ _ _ => ?_))
    | (with_reducible apply keeps_onAxis)
    | (with_reducible apply keeps_modAxis)
    | (fail_if_no_progress extract_lets)
    | intro _
    | (with_reducible split)

theorem keeps_execAxisDone {q₀ : Bool} {b₀ : Block} {s t : State} {a : Fin 9} (e₀ : execAxisDone a s = .next t)
    (h₀ : Keeps q₀ b₀ s.toBlock) : Keeps q₀ b₀ t.toBlock := by
  unfold execAxisDone at e₀
  refine Keeps.upd e₀ h₀ (fun _ _ => ?_)
  repeat' first
    | (with_reducible assumption)
    | (with_reducible exact Keeps.refl)
    | (with_reducible apply Keeps.ite)
    | (with_reducible refine Keeps.foldl ?_ (fun _ _ _ => ?_))
    | (with_reducible apply keeps_onAxis)
    | (with_reducible apply keeps_setFld)
    | (with_reducible apply keeps_raiseAxis)
    | (with_reducible apply keeps_startFollow)
    | (fail_if_no_progress extract_lets)
    | intro _
    | (with_reducible split)

theorem keeps_execAxisHalt {q₀ : Bool} {b₀ : Block} {s t : State} {a : Fin 9} (e₀ : execAxisHalt a s = .next t)
    (h₀ : Keeps q₀ b₀ s.toBlock) : Keeps q₀ b₀ t.toBlock := by
  unfold execAxisHalt at e₀
  refine Keeps.upd e₀ h₀ (fun _ _ => ?_)
  repeat' first
    | (with_reducible assumption)
    | (with_reducible exact Keeps.refl)
    | (with_reducible apply Keeps.ite)
    | (with_reducible refine Keeps.foldl ?_ (fun _ _ _ => ?_))
    | (with_reducible apply keeps_onAxis)
    | (with_reducible apply keeps_axHalt)
    | (fail_if_no_progress extract_lets)
    | intro _
    | (with_reducible split)

theorem keeps_axDisable {q₀ : Bool} {b₀ b : Block} (h₀ : Keeps q₀ b₀ b) (a : Fin 9) :
    Keeps q₀ b₀ (b.axDisable a) := by
  unfold Block.axDisable
  repeat' first
    | (with_reducible assumption)
    | (with_reducible exact Keeps.refl)
    | (with_reducible apply Keeps.ite)
    | (with_reducible refine Keeps.foldl ?_ (fun _ _ _ => ?_))
    | (with_reducible apply keeps_setFld)
    | (with_reducible apply keeps_dropFollow)
    | (with_reducible apply keeps_endHoming)
    | (fail_if_no_progress extract_lets)
    | intro _
    | (with_reducible split)

theorem keeps_execAxisDisable {q₀ : Bool} {b₀ : Block} {s t : State} {a : Fin 9} (e₀ : execAxisDisable a s = .next t)
    (h₀ : Keeps q₀ b₀ s.toBlock) : Keeps q₀ b₀ t.toBlock := by
  unfold execAxisDisable at e₀
  refine Keeps.upd e₀ h₀ (fun _ _ => ?_)
  repeat' first
    | (with_reducible assumption)
    | (with_reducible exact Keeps.refl)
    | (with_reducible apply Keeps.ite)
    | (with_reducible refine Keeps.foldl ?_ (fun _ _ _ => ?_))
    | (with_reducible apply keeps_onAxis)
    | (with_reducible apply keeps_axDisable)
    | (fail_if_no_progress extract_lets)
    | intro _
    | (with_reducible split)

theorem keeps_homeStart {q₀ : Bool} {b₀ b : Block} (h₀ : Keeps q₀ b₀ b) (a : Fin 9) :
    Keeps q₀ b₀ (b.homeStart a) := by
  unfold Block.homeStart
  repeat' first
    | (with_reducible assumption)
    | (with_reducible exact Keeps.refl)
    | (with_reducible apply Keeps.ite)
    | (with_reducible refine Keeps.foldl ?_ (fun _ _ _ => ?_))
    | (with_reducible apply keeps_setFld)
    | (with_reducible apply keeps_homeMove)
    | (fail_if_no_progress extract_lets)
    | intro _
    | (with_reducible split)

theorem keeps_execHomingStart {q₀ : Bool} {b₀ : Block} {s t : State} {a : Fin 9} (e₀ : execHomingStart a s = .next t)
    (h₀ : Keeps q₀ b₀ s.toBlock) : Keeps q₀ b₀ t.toBlock := by
  unfold execHomingStart at e₀
  refine Keeps.upd e₀ h₀ (fun _ _ => ?_)
  repeat' first
    | (with_reducible assumption)
    | (with_reducible exact Keeps.refl)
    | (with_reducible apply Keeps.ite)
    | (with_reducible refine Keeps.foldl ?_ (fun _ _ _ => ?_))
    | (with_reducible apply keeps_onAxis)
    | (with_reducible apply keeps_homeStart)
    | (fail_if_no_progress extract_lets)
    | intro _
    | (with_reducible split)

theorem keeps_execHomeTrip {q₀ : Bool} {b₀ : Block} {s t : State} {a : Fin 9} (e₀ : execHomeTrip a s = .next t)
    (h₀ : Keeps q₀ b₀ s.toBlock) : Keeps q₀ b₀ t.toBlock := by
  unfold execHomeTrip at e₀
  refine Keeps.upd e₀ h₀ (fun _ _ => ?_)
  repeat' first
    | (with_reducible assumption)
    | (with_reducible exact Keeps.refl)
    | (with_reducible apply Keeps.ite)
    | (with_reducible refine Keeps.foldl ?_ (fun _ _ _ => ?_))
    | (with_reducible apply keeps_onAxis)
    | (with_reducible apply keeps_modAxis)
    | (with_reducible apply keeps_homeFinal)
    | (with_reducible apply keeps_setFld)
    | (fail_if_no_progress extract_lets)
    | intro _
    | (with_reducible split)

theorem keeps_execHomingDone {q₀ : Bool} {b₀ : Block} {s t : State} {a : Fin 9} (e₀ : execHomingDone a s = .next t)
    (h₀ : Keeps q₀ b₀ s.toBlock) : Keeps q₀ b₀ t.toBlock := by
  unfold execHomingDone at e₀
  refine Keeps.upd e₀ h₀ (fun _ _ => ?_)
  repeat' first
    | (with_reducible assumption)
    | (with_reducible exact Keeps.refl)
    | (with_reducible apply Keeps.ite)
    | (with_reducible refine Keeps.foldl ?_ (fun _ _ _ => ?_))
    | (with_reducible apply keeps_onAxis)
    | (with_reducible apply keeps_modAxis)
    | (with_reducible apply keeps_setFld)
    | (with_reducible apply keeps_raiseAxis)
    | (fail_if_no_progress extract_lets)
    | intro _
    | (with_reducible split)

theorem keeps_execHomingFail {q₀ : Bool} {b₀ : Block} {s t : State} {a : Fin 9} (e₀ : execHomingFail a s = .next t)
    (h₀ : Keeps q₀ b₀ s.toBlock) : Keeps q₀ b₀ t.toBlock := by
  unfold execHomingFail at e₀
  refine Keeps.upd e₀ h₀ (fun _ _ => ?_)
  repeat' first
    | (with_reducible assumption)
    | (with_reducible exact Keeps.refl)
    | (with_reducible apply Keeps.ite)
    | (with_reducible refine Keeps.foldl ?_ (fun _ _ _ => ?_))
    | (with_reducible apply keeps_onAxis)
    | (with_reducible apply keeps_endHoming)
    | (with_reducible apply keeps_modAxis)
    | (with_reducible apply keeps_axFault)
    | (with_reducible apply keeps_dropFollow)
    | (with_reducible apply keeps_raiseAxis)
    | (fail_if_no_progress extract_lets)
    | intro _
    | (with_reducible split)

theorem keeps_execAxisStall {q₀ : Bool} {b₀ : Block} {s t : State} {a : Fin 9} (e₀ : execAxisStall a s = .next t)
    (h₀ : Keeps q₀ b₀ s.toBlock) : Keeps q₀ b₀ t.toBlock := by
  unfold execAxisStall at e₀
  refine Keeps.upd e₀ h₀ (fun _ _ => ?_)
  repeat' first
    | (with_reducible assumption)
    | (with_reducible exact Keeps.refl)
    | (with_reducible apply Keeps.ite)
    | (with_reducible refine Keeps.foldl ?_ (fun _ _ _ => ?_))
    | (with_reducible apply keeps_onAxis)
    | (with_reducible apply keeps_stallAxis)
    | (fail_if_no_progress extract_lets)
    | intro _
    | (with_reducible split)

theorem keeps_execSwitchChatter {q₀ : Bool} {b₀ : Block} {s t : State} {w : Fin 6} (e₀ : execSwitchChatter w s = .next t)
    (h₀ : Keeps q₀ b₀ s.toBlock) : Keeps q₀ b₀ t.toBlock := by
  unfold execSwitchChatter at e₀
  refine Keeps.upd e₀ h₀ (fun _ _ => ?_)
  repeat' first
    | (with_reducible assumption)
    | (with_reducible exact Keeps.refl)
    | (with_reducible apply Keeps.ite)
    | (with_reducible refine Keeps.foldl ?_ (fun _ _ _ => ?_))
    | (with_reducible apply keeps_onAxis)
    | (with_reducible apply keeps_axFault)
    | (with_reducible apply keeps_emergency)
    | (with_reducible apply keeps_raiseAxis)
    | (with_reducible apply keeps_setFld)
    | (with_reducible apply keeps_raise)
    | (fail_if_no_progress extract_lets)
    | intro _
    | (with_reducible split)

theorem keeps_execLimitTrip {q₀ : Bool} {b₀ : Block} {s t : State} {a : Fin 9} (e₀ : execLimitTrip a s = .next t)
    (h₀ : Keeps q₀ b₀ s.toBlock) : Keeps q₀ b₀ t.toBlock := by
  unfold execLimitTrip at e₀
  refine Keeps.upd e₀ h₀ (fun _ _ => ?_)
  repeat' first
    | (with_reducible assumption)
    | (with_reducible exact Keeps.refl)
    | (with_reducible apply Keeps.ite)
    | (with_reducible refine Keeps.foldl ?_ (fun _ _ _ => ?_))
    | (with_reducible apply keeps_onAxis)
    | (with_reducible apply keeps_setFld)
    | (with_reducible apply keeps_axFault)
    | (with_reducible apply keeps_emergency)
    | (with_reducible apply keeps_raiseAxis)
    | (fail_if_no_progress extract_lets)
    | intro _
    | (with_reducible split)

theorem keeps_execCoilFault {q₀ : Bool} {b₀ : Block} {s t : State} {a : Fin 9} (e₀ : execCoilFault a s = .next t)
    (h₀ : Keeps q₀ b₀ s.toBlock) : Keeps q₀ b₀ t.toBlock := by
  unfold execCoilFault at e₀
  refine Keeps.upd e₀ h₀ (fun _ _ => ?_)
  repeat' first
    | (with_reducible assumption)
    | (with_reducible exact Keeps.refl)
    | (with_reducible apply Keeps.ite)
    | (with_reducible refine Keeps.foldl ?_ (fun _ _ _ => ?_))
    | (with_reducible apply keeps_onAxis)
    | (with_reducible apply keeps_axFault)
    | (with_reducible apply keeps_emergency)
    | (with_reducible apply keeps_raiseAxis)
    | (fail_if_no_progress extract_lets)
    | intro _
    | (with_reducible split)

theorem keeps_execDoorClosed {q₀ : Bool} {b₀ : Block} {s t : State} (e₀ : execDoorClosed s = .next t)
    (h₀ : Keeps q₀ b₀ s.toBlock) : Keeps q₀ b₀ t.toBlock := by
  unfold execDoorClosed at e₀
  refine Keeps.upd e₀ h₀ (fun _ _ => ?_)
  repeat' first
    | (with_reducible assumption)
    | (with_reducible exact Keeps.refl)
    | (with_reducible apply Keeps.ite)
    | (with_reducible refine Keeps.foldl ?_ (fun _ _ _ => ?_))
    | (with_reducible apply keeps_setFld)
    | (with_reducible apply keeps_raise)
    | (with_reducible apply keeps_async)
    | (fail_if_no_progress extract_lets)
    | intro _
    | (with_reducible split)

theorem keeps_execClampChange {q₀ : Bool} {b₀ : Block} {s t : State} {closed : Bool} (e₀ : execClampChange closed s = .next t)
    (h₀ : Keeps q₀ b₀ s.toBlock) : Keeps q₀ b₀ t.toBlock := by
  unfold execClampChange at e₀
  refine Keeps.upd e₀ h₀ (fun _ _ => ?_)
  repeat' first
    | (with_reducible assumption)
    | (with_reducible exact Keeps.refl)
    | (with_reducible apply Keeps.ite)
    | (with_reducible refine Keeps.foldl ?_ (fun _ _ _ => ?_))
    | (with_reducible apply keeps_setBit)
    | (with_reducible apply keeps_raise)
    | (fail_if_no_progress extract_lets)
    | intro _
    | (with_reducible split)

theorem keeps_doorOpen {q₀ : Bool} {b₀ b : Block} (h₀ : Keeps q₀ b₀ b) :
    Keeps q₀ b₀ (b.doorOpen) := by
  unfold Block.doorOpen
  repeat' first
    | (with_reducible assumption)
    | (with_reducible exact Keeps.refl)
    | (with_reducible apply Keeps.ite)
    | (with_reducible refine Keeps.foldl ?_ (fun _ _ _ => ?_))
    | (with_reducible apply keeps_setFld)
    | (with_reducible apply keeps_applyAllHolds)
    | (with_reducible apply keeps_raise)
    | (with_reducible apply keeps_onSpin)
    | (with_reducible apply keeps_spStop)
    | (with_reducible apply keeps_axHalt)
    | (fail_if_no_progress extract_lets)
    | intro _
    | (with_reducible split)

/-! ### Machine/LeLoad.lean -/

theorem keeps_startLoad {q₀ : Bool} {b₀ b : Block} (h₀ : Keeps q₀ b₀ b) (kind : Nat) (index : Nat) :
    Keeps q₀ b₀ (b.startLoad kind index) := by
  unfold Block.startLoad
  repeat' first
    | (with_reducible assumption)
    | (with_reducible exact Keeps.refl)
    | (with_reducible apply Keeps.ite)
    | (with_reducible refine Keeps.foldl ?_ (fun _ _ _ => ?_))
    | (with_reducible apply keeps_setFld)
    | (with_reducible apply keeps_modLe)
    | (fail_if_no_progress extract_lets)
    | intro _
    | (with_reducible split)

theorem keeps_execLoadShadowTable {q₀ : Bool} {b₀ : Block} {s t : State} (e₀ : execLoadShadowTable s = .next t)
    (h₀ : Keeps q₀ b₀ s.toBlock) : Keeps q₀ b₀ t.toBlock := by
  unfold execLoadShadowTable at e₀
  refine Keeps.upd e₀ h₀ (fun _ _ => ?_)
  repeat' first
    | (with_reducible assumption)
    | (with_reducible exact Keeps.refl)
    | (with_reducible apply Keeps.ite)
    | (with_reducible refine Keeps.foldl ?_ (fun _ _ _ => ?_))
    | (with_reducible apply keeps_startLoad)
    | (fail_if_no_progress extract_lets)
    | intro _
    | (with_reducible split)

theorem keeps_execLoadDefaultTable {q₀ : Bool} {b₀ : Block} {s t : State} (e₀ : execLoadDefaultTable s = .next t)
    (h₀ : Keeps q₀ b₀ s.toBlock) : Keeps q₀ b₀ t.toBlock := by
  unfold execLoadDefaultTable at e₀
  refine Keeps.upd e₀ h₀ (fun _ _ => ?_)
  repeat' first
    | (with_reducible assumption)
    | (with_reducible exact Keeps.refl)
    | (with_reducible apply Keeps.ite)
    | (with_reducible refine Keeps.foldl ?_ (fun _ _ _ => ?_))
    | (with_reducible apply keeps_startLoad)
    | (fail_if_no_progress extract_lets)
    | intro _
    | (with_reducible split)

theorem keeps_execLoadProgram {q₀ : Bool} {b₀ : Block} {s t : State} {index : Fin 256} (e₀ : execLoadProgram index s = .next t)
    (h₀ : Keeps q₀ b₀ s.toBlock) : Keeps q₀ b₀ t.toBlock := by
  unfold execLoadProgram at e₀
  refine Keeps.upd e₀ h₀ (fun _ _ => ?_)
  repeat' first
    | (with_reducible assumption)
    | (with_reducible exact Keeps.refl)
    | (with_reducible apply Keeps.ite)
    | (with_reducible refine Keeps.foldl ?_ (fun _ _ _ => ?_))
    | (with_reducible apply keeps_startLoad)
    | (fail_if_no_progress extract_lets)
    | intro _
    | (with_reducible split)

theorem keeps_execLoadPatch {q₀ : Bool} {b₀ : Block} {s t : State} (e₀ : execLoadPatch s = .next t)
    (h₀ : Keeps q₀ b₀ s.toBlock) : Keeps q₀ b₀ t.toBlock := by
  unfold execLoadPatch at e₀
  refine Keeps.upd e₀ h₀ (fun _ _ => ?_)
  repeat' first
    | (with_reducible assumption)
    | (with_reducible exact Keeps.refl)
    | (with_reducible apply Keeps.ite)
    | (with_reducible refine Keeps.foldl ?_ (fun _ _ _ => ?_))
    | (with_reducible apply keeps_startLoad)
    | (fail_if_no_progress extract_lets)
    | intro _
    | (with_reducible split)

theorem keeps_finishLoad {q₀ : Bool} {b₀ b : Block} (h₀ : Keeps q₀ b₀ b) (l : LeLoad) :
    Keeps q₀ b₀ (b.finishLoad l) := by
  unfold Block.finishLoad
  repeat' first
    | (with_reducible assumption)
    | (with_reducible exact Keeps.refl)
    | (with_reducible apply Keeps.ite)
    | (with_reducible refine Keeps.foldl ?_ (fun _ _ _ => ?_))
    | (with_reducible apply keeps_modLe)
    | (with_reducible apply keeps_setFld)
    | (fail_if_no_progress extract_lets)
    | intro _
    | (with_reducible split)

theorem keeps_execLoadComplete {q₀ : Bool} {b₀ : Block} {s t : State} (e₀ : execLoadComplete s = .next t)
    (h₀ : Keeps q₀ b₀ s.toBlock) : Keeps q₀ b₀ t.toBlock := by
  unfold execLoadComplete at e₀
  refine Keeps.upd e₀ h₀ (fun _ _ => ?_)
  repeat' first
    | (with_reducible assumption)
    | (with_reducible exact Keeps.refl)
    | (with_reducible apply Keeps.ite)
    | (with_reducible refine Keeps.foldl ?_ (fun _ _ _ => ?_))
    | (with_reducible apply keeps_modLe)
    | (with_reducible apply keeps_setFld)
    | (with_reducible apply keeps_setBit)
    | (with_reducible apply keeps_finishLoad)
    | (with_reducible apply keeps_raise)
    | (fail_if_no_progress extract_lets)
    | intro _
    | (with_reducible split)

theorem keeps_execPatchActivation {q₀ : Bool} {b₀ : Block} {s t : State} (e₀ : execPatchActivation s = .next t)
    (h₀ : Keeps q₀ b₀ s.toBlock) : Keeps q₀ b₀ t.toBlock := by
  unfold execPatchActivation at e₀
  refine Keeps.upd e₀ h₀ (fun _ _ => ?_)
  repeat' first
    | (with_reducible assumption)
    | (with_reducible exact Keeps.refl)
    | (with_reducible apply Keeps.ite)
    | (with_reducible refine Keeps.foldl ?_ (fun _ _ _ => ?_))
    | (with_reducible apply keeps_setFld)
    | (with_reducible apply keeps_wr)
    | (with_reducible apply keeps_modLe)
    | (fail_if_no_progress extract_lets)
    | intro _
    | (with_reducible split)

theorem keeps_execLiveSlotWrite {q₀ : Bool} {b₀ : Block} {s t : State} {k : Fin 48} {second : Bool} {v : Word} (e₀ : execLiveSlotWrite k second v s = .next t)
    (h₀ : Keeps q₀ b₀ s.toBlock) : Keeps q₀ b₀ t.toBlock := by
  unfold execLiveSlotWrite at e₀
  refine Keeps.upd e₀ h₀ (fun _ _ => ?_)
  repeat' first
    | (with_reducible assumption)
    | (with_reducible exact Keeps.refl)
    | (with_reducible apply Keeps.ite)
    | (with_reducible refine Keeps.foldl ?_ (fun _ _ _ => ?_))
    | (with_reducible apply keeps_wr)
    | (with_reducible apply keeps_modLe)
    | (fail_if_no_progress extract_lets)
    | intro _
    | (with_reducible split)

theorem keeps_leMemWrite {q₀ : Bool} {b₀ b : Block} (h₀ : Keeps q₀ b₀ b) (o : Nat) (v : Word) :
    Keeps q₀ b₀ (b.leMemWrite o v) := by
  unfold Block.leMemWrite
  repeat' first
    | (with_reducible assumption)
    | (with_reducible exact Keeps.refl)
    | (with_reducible apply Keeps.ite)
    | (with_reducible refine Keeps.foldl ?_ (fun _ _ _ => ?_))
    | (with_reducible apply keeps_run)
    | (with_reducible apply keeps_applyHeld)
    | (with_reducible apply keeps_modLe)
    | (fail_if_no_progress extract_lets)
    | intro _
    | (with_reducible split)

theorem keeps_execLeMemoryWrite {q₀ : Bool} {b₀ : Block} {s t : State} {o : BitVec 22} {v : Word} (e₀ : execLeMemoryWrite o v s = .next t)
    (h₀ : Keeps q₀ b₀ s.toBlock) : Keeps q₀ b₀ t.toBlock := by
  unfold execLeMemoryWrite at e₀
  refine Keeps.upd e₀ h₀ (fun _ _ => ?_)
  repeat' first
    | (with_reducible assumption)
    | (with_reducible exact Keeps.refl)
    | (with_reducible apply Keeps.ite)
    | (with_reducible refine Keeps.foldl ?_ (fun _ _ _ => ?_))
    | (with_reducible apply keeps_leMemWrite)
    | (fail_if_no_progress extract_lets)
    | intro _
    | (with_reducible split)

theorem keeps_execCoefSwap {q₀ : Bool} {b₀ : Block} {s t : State} (e₀ : execCoefSwap s = .next t)
    (h₀ : Keeps q₀ b₀ s.toBlock) : Keeps q₀ b₀ t.toBlock := by
  unfold execCoefSwap at e₀
  refine Keeps.upd e₀ h₀ (fun _ _ => ?_)
  repeat' first
    | (with_reducible assumption)
    | (with_reducible exact Keeps.refl)
    | (with_reducible apply Keeps.ite)
    | (with_reducible refine Keeps.foldl ?_ (fun _ _ _ => ?_))
    | (with_reducible apply keeps_modLe)
    | (fail_if_no_progress extract_lets)
    | intro _
    | (with_reducible split)

theorem keeps_execCoefSet {q₀ : Bool} {b₀ : Block} {s t : State} {set : BitVec 6} (e₀ : execCoefSet set s = .next t)
    (h₀ : Keeps q₀ b₀ s.toBlock) : Keeps q₀ b₀ t.toBlock := by
  unfold execCoefSet at e₀
  refine Keeps.upd e₀ h₀ (fun _ _ => ?_)
  repeat' first
    | (with_reducible assumption)
    | (with_reducible exact Keeps.refl)
    | (with_reducible apply Keeps.ite)
    | (with_reducible refine Keeps.foldl ?_ (fun _ _ _ => ?_))
    | (with_reducible apply keeps_setFld)
    | (fail_if_no_progress extract_lets)
    | intro _
    | (with_reducible split)

theorem keeps_execMatchDisable {q₀ : Bool} {b₀ : Block} {s t : State} {k : Fin 16} (e₀ : execMatchDisable k s = .next t)
    (h₀ : Keeps q₀ b₀ s.toBlock) : Keeps q₀ b₀ t.toBlock := by
  unfold execMatchDisable at e₀
  refine Keeps.upd e₀ h₀ (fun _ _ => ?_)
  repeat' first
    | (with_reducible assumption)
    | (with_reducible exact Keeps.refl)
    | (with_reducible apply Keeps.ite)
    | (with_reducible refine Keeps.foldl ?_ (fun _ _ _ => ?_))
    | (with_reducible apply keeps_setFld)
    | (fail_if_no_progress extract_lets)
    | intro _
    | (with_reducible split)

end Sys2Proof.Machine
end

