-- ==== Sys2Proof/Laws/KeepsStore.lean ====
section
/-!
SUPPORT. What memory, staging, calibration and the clip store keep, one lemma for each operation and each command.
-/

set_option Elab.async false
set_option linter.unreachableTactic false
set_option linter.unusedTactic false

namespace Sys2Proof.Machine

/-! ### Machine/DramOps.lean -/

theorem Dram.wf_setFlaw (d : Dram) (w n : Nat) (h : d.wf = true) : (d.setFlaw w n).wf = true := by
  simp only [Dram.wf, Dram.setFlaw, Bool.and_eq_true] at *
  exact ⟨h.1, SMap.wf_set (fun _ => 0) _ _ _ h.2⟩

theorem SMap.mem_set {α : Type} [DecidableEq α] {m : SMap α} {k : Nat} {v d : α} {e : Nat × α}
    (h : e ∈ SMap.set m k v d) : e.1 = k ∨ e ∈ m := by
  have he : ∀ l : SMap α, e ∈ SMap.erase l k → e ∈ l := by
    intro l
    induction l with
    | nil => exact id
    | cons x t ih =>
      obtain ⟨i, y⟩ := x
      simp only [SMap.erase]
      split
      · exact fun h => List.mem_cons_of_mem _ (ih h)
      · intro h
        rcases List.mem_cons.mp h with h | h
        · exact h ▸ List.mem_cons_self
        · exact List.mem_cons_of_mem _ (ih h)
  have hi : ∀ l : SMap α, e ∈ SMap.insert l k v → e = (k, v) ∨ e ∈ l := by
    intro l
    induction l with
    | nil => intro h; exact .inl (by simpa [SMap.insert] using h)
    | cons x t ih =>
      obtain ⟨i, y⟩ := x
      simp only [SMap.insert]
      split
      · intro h
        rcases List.mem_cons.mp h with h | h
        · exact .inl h
        · exact .inr h
      · intro h
        rcases List.mem_cons.mp h with h | h
        · exact .inr (h ▸ List.mem_cons_self)
        · exact (ih h).imp id (List.mem_cons_of_mem _)
  unfold SMap.set at h
  split at h
  · exact .inr (he _ h)
  · rcases hi _ h with h | h
    · exact .inl (by rw [h])
    · exact .inr (he _ h)

theorem Dram.wf_poke (bytes : List Byte) : ∀ (d : Dram) (a : Nat), d.wf = true → (d.poke a bytes).wf = true := by
  induction bytes with
  | nil => exact fun _ _ h => h
  | cons x t ih =>
    intro d a h
    unfold Dram.poke
    split
    · exact h
    · rename_i ha
      refine ih _ _ ?_
      simp only [Dram.wf, Bool.and_eq_true, List.all_eq_true, decide_eq_true_eq] at *
      refine ⟨⟨SMap.wf_set (fun _ => dramDefault) _ _ _ h.1.1, fun e he => ?_⟩, h.2⟩
      rcases SMap.mem_set he with he | he
      · omega
      · exact h.1.2 e he

theorem Dram.wf_mergeOut (d : Dram) (e : MergeEntry) (h : d.wf = true) : (d.mergeOut e).wf = true := by
  unfold Dram.mergeOut
  have hd : ({ d with merge := d.merge.filter fun x => x.word ≠ e.word } : Dram).wf = true := h
  generalize ({ d with merge := d.merge.filter fun x => x.word ≠ e.word } : Dram) = c at hd
  generalize List.range 64 = l
  induction l generalizing c with
  | nil => exact hd
  | cons i t ih =>
    refine ih _ ?_
    dsimp only
    split
    · exact Dram.wf_poke _ _ _ hd
    · exact hd

theorem keeps_modDramSame {q₀ : Bool} {b₀ b : Block} (h₀ : Keeps q₀ b₀ b) (f : Dram → Dram)
    (hm : ∀ d, (f d).mem = d.mem) (hf : ∀ d, (f d).flaw = d.flaw) : Keeps q₀ b₀ (b.modDram f) :=
  keeps_modDram h₀ f (fun h => by unfold Dram.wf; rw [hm, hf]; exact h)

theorem keeps_setFlaw {q₀ : Bool} {b₀ b : Block} (h₀ : Keeps q₀ b₀ b) (w n : Nat) :
    Keeps q₀ b₀ (b.modDram fun d => d.setFlaw w n) := keeps_modDram h₀ _ (Dram.wf_setFlaw _ _ _)

theorem Dram.wf_putWord (d : Dram) (w : Nat) (bytes : List Byte) (h : d.wf = true) : (d.putWord w bytes).wf = true := by
  unfold Dram.putWord
  exact Dram.wf_setFlaw _ _ _ (Dram.wf_poke _ _ _ h)

theorem keeps_putWord {q₀ : Bool} {b₀ b : Block} (h₀ : Keeps q₀ b₀ b) (w : Nat) (bytes : List Byte) :
    Keeps q₀ b₀ (b.modDram fun d => d.putWord w bytes) := keeps_modDram h₀ _ (Dram.wf_putWord _ _ _)

theorem keeps_mergeOut {q₀ : Bool} {b₀ b : Block} (h₀ : Keeps q₀ b₀ b) (e : MergeEntry) :
    Keeps q₀ b₀ (b.modDram fun d => d.mergeOut e) := keeps_modDram h₀ _ (Dram.wf_mergeOut _ _)

theorem keeps_strike {q₀ : Bool} {b₀ b : Block} (h₀ : Keeps q₀ b₀ b) (w n : Nat) : Keeps q₀ b₀ (b.strike w n) := by
  unfold Block.strike
  exact keeps_modDram h₀ _ (Dram.wf_setFlaw _ _ _)

theorem keeps_putWordAddr {q₀ : Bool} {b₀ b : Block} (h₀ : Keeps q₀ b₀ b) (lo : Fld) (hi : Fld) (w : Nat) :
    Keeps q₀ b₀ (b.putWordAddr lo hi w) := by
  unfold Block.putWordAddr
  repeat' first
    | (with_reducible assumption)
    | (with_reducible exact Keeps.refl)
    | (with_reducible apply Keeps.ite)
    | (with_reducible refine Keeps.foldl ?_ (fun _ _ _ => ?_))
    | (with_reducible apply keeps_setFld)
    | (fail_if_no_progress extract_lets)
    | intro _
    | (with_reducible split)

theorem keeps_corrected {q₀ : Bool} {b₀ b : Block} (h₀ : Keeps q₀ b₀ b) (w : Nat) (sym : Nat) :
    Keeps q₀ b₀ (b.corrected w sym) := by
  unfold Block.corrected
  repeat' first
    | (with_reducible assumption)
    | (with_reducible exact Keeps.refl)
    | (with_reducible apply Keeps.ite)
    | (with_reducible refine Keeps.foldl ?_ (fun _ _ _ => ?_))
    | (with_reducible apply keeps_bump)
    | (with_reducible apply keeps_putWordAddr)
    | (with_reducible apply keeps_setFld)
    | (with_reducible apply keeps_raise)
    | (fail_if_no_progress extract_lets)
    | intro _
    | (with_reducible split)

theorem keeps_ueRecord {q₀ : Bool} {b₀ b : Block} (h₀ : Keeps q₀ b₀ b) (w : Nat) (req : Nat) (scrub : Bool) (poison : Bool) :
    Keeps q₀ b₀ (b.ueRecord w req scrub poison) := by
  unfold Block.ueRecord
  repeat' first
    | (with_reducible assumption)
    | (with_reducible exact Keeps.refl)
    | (with_reducible apply Keeps.ite)
    | (with_reducible refine Keeps.foldl ?_ (fun _ _ _ => ?_))
    | (with_reducible apply keeps_putWordAddr)
    | (with_reducible apply keeps_setBit)
    | (with_reducible apply keeps_setFld)
    | (with_reducible apply keeps_bump)
    | (fail_if_no_progress extract_lets)
    | intro _
    | (with_reducible split)

theorem keeps_flushEntry {q₀ : Bool} {b₀ b : Block} (h₀ : Keeps q₀ b₀ b) (e : MergeEntry) :
    Keeps q₀ b₀ (b.flushEntry e) := by
  unfold Block.flushEntry
  repeat' first
    | (with_reducible assumption)
    | (with_reducible exact Keeps.refl)
    | (with_reducible apply Keeps.ite)
    | (with_reducible refine Keeps.foldl ?_ (fun _ _ _ => ?_))
    | (with_reducible refine keeps_modDramSame ?_ _ (fun _ => rfl) (fun _ => rfl))
    | (with_reducible apply keeps_setFlaw)
    | (with_reducible apply keeps_putWord)
    | (with_reducible apply keeps_mergeOut)
    | (with_reducible apply keeps_corrected)
    | (with_reducible apply keeps_ueRecord)
    | (with_reducible apply keeps_raise)
    | (fail_if_no_progress extract_lets)
    | intro _
    | (with_reducible split)

theorem keeps_flushWord {q₀ : Bool} {b₀ b : Block} (h₀ : Keeps q₀ b₀ b) (w : Nat) :
    Keeps q₀ b₀ (b.flushWord w) := by
  unfold Block.flushWord
  repeat' first
    | (with_reducible assumption)
    | (with_reducible exact Keeps.refl)
    | (with_reducible apply Keeps.ite)
    | (with_reducible refine Keeps.foldl ?_ (fun _ _ _ => ?_))
    | (with_reducible apply keeps_flushEntry)
    | (fail_if_no_progress extract_lets)
    | intro _
    | (with_reducible split)

theorem keeps_mergeRoom {q₀ : Bool} {b₀ b : Block} (h₀ : Keeps q₀ b₀ b) :
    Keeps q₀ b₀ (b.mergeRoom) := by
  unfold Block.mergeRoom
  repeat' first
    | (with_reducible assumption)
    | (with_reducible exact Keeps.refl)
    | (with_reducible apply Keeps.ite)
    | (with_reducible refine Keeps.foldl ?_ (fun _ _ _ => ?_))
    | (with_reducible apply keeps_flushEntry)
    | (fail_if_no_progress extract_lets)
    | intro _
    | (with_reducible split)

theorem keeps_mergeWrite {q₀ : Bool} {b₀ b : Block} (h₀ : Keeps q₀ b₀ b) (a : Nat) (bytes : List Byte) :
    Keeps q₀ b₀ (b.mergeWrite a bytes) := by
  unfold Block.mergeWrite
  repeat' first
    | (with_reducible assumption)
    | (with_reducible exact Keeps.refl)
    | (with_reducible apply Keeps.ite)
    | (with_reducible refine Keeps.foldl ?_ (fun _ _ _ => ?_))
    | (with_reducible refine keeps_modDramSame ?_ _ (fun _ => rfl) (fun _ => rfl))
    | (with_reducible apply keeps_setFlaw)
    | (with_reducible apply keeps_putWord)
    | (with_reducible apply keeps_mergeOut)
    | (with_reducible apply keeps_mergeRoom)
    | (fail_if_no_progress extract_lets)
    | intro _
    | (with_reducible split)

theorem keeps_mergeFull {q₀ : Bool} {b₀ b : Block} (h₀ : Keeps q₀ b₀ b) (w : Nat) :
    Keeps q₀ b₀ (b.mergeFull w) := by
  unfold Block.mergeFull
  repeat' first
    | (with_reducible assumption)
    | (with_reducible exact Keeps.refl)
    | (with_reducible apply Keeps.ite)
    | (with_reducible refine Keeps.foldl ?_ (fun _ _ _ => ?_))
    | (with_reducible apply keeps_flushEntry)
    | (fail_if_no_progress extract_lets)
    | intro _
    | (with_reducible split)

theorem keeps_writeWord {q₀ : Bool} {b₀ b : Block} (h₀ : Keeps q₀ b₀ b) (a : Nat) (bytes : List Byte) :
    Keeps q₀ b₀ (b.writeWord a bytes) := by
  unfold Block.writeWord
  extract_lets w b1 b2
  have h1 : Keeps q₀ b₀ b1 := keeps_modDramSame h₀ _ (fun _ => rfl) (fun _ => rfl)
  have h2 : Keeps q₀ b₀ b2 := keeps_mergeWrite h1 _ _
  split
  · exact keeps_putWord h1 _ _
  · exact keeps_mergeFull (keeps_setFld h2 _ _) _

theorem keeps_dramWriteN {q₀ : Bool} {b₀ : Block} (n : Nat) :
    ∀ {b : Block}, Keeps q₀ b₀ b → ∀ (a : Nat) (bytes : List Byte), Keeps q₀ b₀ (b.dramWriteN n a bytes) := by
  induction n with
  | zero => exact fun h _ _ => h
  | succ n ih =>
    intro b h a bytes
    unfold Block.dramWriteN
    split
    · exact h
    · exact ih (keeps_writeWord h _ _) _ _

theorem keeps_dramWrite {q₀ : Bool} {b₀ b : Block} (h₀ : Keeps q₀ b₀ b) (a : Nat) (bytes : List Byte) :
    Keeps q₀ b₀ (b.dramWrite a bytes) := by
  unfold Block.dramWrite
  repeat' first
    | (with_reducible assumption)
    | (with_reducible exact Keeps.refl)
    | (with_reducible apply Keeps.ite)
    | (with_reducible refine Keeps.foldl ?_ (fun _ _ _ => ?_))
    | (with_reducible apply keeps_dramWriteN)
    | (fail_if_no_progress extract_lets)
    | intro _
    | (with_reducible split)

theorem keeps_readWord {q₀ : Bool} {b₀ b : Block} (h₀ : Keeps q₀ b₀ b) (req : Requester) (w : Nat) :
    Keeps q₀ b₀ (b.readWord req w).2 := by
  unfold Block.readWord
  dsimp only
  split
  · exact h₀
  · split
    · exact h₀
    · split
      · refine Keeps.pair rfl ?_
        exact keeps_corrected h₀ _ _
      · refine Keeps.pair rfl ?_
        exact keeps_raise (keeps_ueRecord h₀ _ _ _ _) _

theorem keeps_dramRead {q₀ : Bool} {b₀ b : Block} (h₀ : Keeps q₀ b₀ b) (req : Requester) (a n : Nat) :
    Keeps q₀ b₀ (b.dramRead req a n).2.2 := by
  unfold Block.dramRead
  dsimp only
  generalize (if n = 0 then [] else (List.range ((a + n - 1) / 64 - a / 64 + 1)).map (a / 64 + ·)) = ws
  suffices h : ∀ r : Bool × Block, Keeps q₀ b₀ r.2 →
      Keeps q₀ b₀ (ws.foldl (fun r w => (r.1 || (r.2.readWord req w).1, (r.2.readWord req w).2)) r).2 from h _ h₀
  induction ws with
  | nil => exact fun _ h => h
  | cons w t ih => exact fun r h => ih _ (keeps_readWord h _ _)

theorem keeps_scrubWord {q₀ : Bool} {b₀ b : Block} (h₀ : Keeps q₀ b₀ b) : Keeps q₀ b₀ b.scrubWord := by
  unfold Block.scrubWord
  extract_lets w b1 f b2
  have h1 : Keeps q₀ b₀ b1 := keeps_flushWord h₀ _
  have h2 : Keeps q₀ b₀ b2 := by
    unfold b2
    split
    · exact h1
    · split
      · exact keeps_setFlaw (keeps_corrected h1 _ _) _ _
      · exact keeps_raise (keeps_ueRecord h1 _ _ _ _) _
  clear_value b2
  split
  · exact keeps_raise (keeps_bump (keeps_setFld h2 _ _) _ _) _
  · exact keeps_setFld h2 _ _

theorem keeps_scrubTick {q₀ : Bool} {b₀ b : Block} (h₀ : Keeps q₀ b₀ b) :
    Keeps q₀ b₀ (b.scrubTick) := by
  unfold Block.scrubTick
  repeat' first
    | (with_reducible assumption)
    | (with_reducible exact Keeps.refl)
    | (with_reducible apply Keeps.ite)
    | (with_reducible refine Keeps.foldl ?_ (fun _ _ _ => ?_))
    | (with_reducible apply keeps_scrubWord)
    | (fail_if_no_progress extract_lets)
    | intro _
    | (with_reducible split)

theorem keeps_dramTick {q₀ : Bool} {b₀ b : Block} (h₀ : Keeps q₀ b₀ b) :
    Keeps q₀ b₀ (b.dramTick) := by
  unfold Block.dramTick
  repeat' first
    | (with_reducible assumption)
    | (with_reducible exact Keeps.refl)
    | (with_reducible apply Keeps.ite)
    | (with_reducible refine Keeps.foldl ?_ (fun _ _ _ => ?_))
    | (with_reducible refine keeps_modDramSame ?_ _ (fun _ => rfl) (fun _ => rfl))
    | (with_reducible apply keeps_setFlaw)
    | (with_reducible apply keeps_putWord)
    | (with_reducible apply keeps_mergeOut)
    | (with_reducible apply keeps_wr)
    | (fail_if_no_progress extract_lets)
    | intro _
    | (with_reducible split)

/-! ### Machine/IrqCmds.lean -/

theorem keeps_execClaim {q₀ : Bool} {b₀ : Block} {s t : State} {m : Master} {t' : Fin 5} (e₀ : execClaim m t' s = .next t)
    (h₀ : Keeps q₀ b₀ s.toBlock) : Keeps q₀ b₀ t.toBlock := by
  unfold execClaim at e₀
  refine Keeps.upd e₀ h₀ (fun _ _ => ?_)
  repeat' first
    | (with_reducible assumption)
    | (with_reducible exact Keeps.refl)
    | (with_reducible apply Keeps.ite)
    | (with_reducible refine Keeps.foldl ?_ (fun _ _ _ => ?_))
    | (with_reducible apply keeps_answer)
    | (with_reducible refine keeps_modIrq ?_ _ (Irq.wf_eq _ _ _ rfl))
    | (with_reducible refine keeps_modIrq ?_ _ (Irq.wf_filter _ _ _ _ rfl))
    | (with_reducible apply keeps_clearPend)
    | (fail_if_no_progress extract_lets)
    | intro _
    | (with_reducible split)

theorem keeps_execEoi {q₀ : Bool} {b₀ : Block} {s t : State} {t' : Fin 5} {n : BitVec 11} (e₀ : execEoi t' n s = .next t)
    (h₀ : Keeps q₀ b₀ s.toBlock) : Keeps q₀ b₀ t.toBlock := by
  unfold execEoi at e₀
  refine Keeps.upd e₀ h₀ (fun _ _ => ?_)
  repeat' first
    | (with_reducible assumption)
    | (with_reducible exact Keeps.refl)
    | (with_reducible apply Keeps.ite)
    | (with_reducible refine Keeps.foldl ?_ (fun _ _ _ => ?_))
    | (with_reducible refine keeps_modIrq ?_ _ (Irq.wf_eq _ _ _ rfl))
    | (with_reducible refine keeps_modIrq ?_ _ (Irq.wf_filter _ _ _ _ rfl))
    | (with_reducible apply keeps_bump)
    | (fail_if_no_progress extract_lets)
    | intro _
    | (with_reducible split)

theorem keeps_execHostEoi {q₀ : Bool} {b₀ : Block} {s t : State} {v : Fin 128} (e₀ : execHostEoi v s = .next t)
    (h₀ : Keeps q₀ b₀ s.toBlock) : Keeps q₀ b₀ t.toBlock := by
  unfold execHostEoi at e₀
  refine Keeps.upd e₀ h₀ (fun _ _ => ?_)
  repeat' first
    | (with_reducible assumption)
    | (with_reducible exact Keeps.refl)
    | (with_reducible apply Keeps.ite)
    | (with_reducible refine Keeps.foldl ?_ (fun _ _ _ => ?_))
    | (with_reducible refine keeps_modIrq ?_ _ (Irq.wf_eq _ _ _ rfl))
    | (with_reducible refine keeps_modIrq ?_ _ (Irq.wf_filter _ _ _ _ rfl))
    | (with_reducible apply keeps_tryVec)
    | (fail_if_no_progress extract_lets)
    | intro _
    | (with_reducible split)

theorem keeps_execForceRaise {q₀ : Bool} {b₀ : Block} {s t : State} {n : BitVec 11} (e₀ : execForceRaise n s = .next t)
    (h₀ : Keeps q₀ b₀ s.toBlock) : Keeps q₀ b₀ t.toBlock := by
  unfold execForceRaise at e₀
  refine Keeps.upd e₀ h₀ (fun _ _ => ?_)
  repeat' first
    | (with_reducible assumption)
    | (with_reducible exact Keeps.refl)
    | (with_reducible apply Keeps.ite)
    | (with_reducible refine Keeps.foldl ?_ (fun _ _ _ => ?_))
    | (with_reducible apply keeps_raise)
    | (fail_if_no_progress extract_lets)
    | intro _
    | (with_reducible split)

theorem keeps_releasePeer {q₀ : Bool} {b₀ b : Block} (h₀ : Keeps q₀ b₀ b) :
    Keeps q₀ b₀ (b.releasePeer) := by
  unfold Block.releasePeer
  repeat' first
    | (with_reducible assumption)
    | (with_reducible exact Keeps.refl)
    | (with_reducible apply Keeps.ite)
    | (with_reducible refine Keeps.foldl ?_ (fun _ _ _ => ?_))
    | (with_reducible refine keeps_modIrq ?_ _ (Irq.wf_eq _ _ _ rfl))
    | (with_reducible refine keeps_modIrq ?_ _ (Irq.wf_filter _ _ _ _ rfl))
    | (with_reducible apply keeps_forward)
    | (fail_if_no_progress extract_lets)
    | intro _
    | (with_reducible split)

theorem keeps_execTargetDisable {q₀ : Bool} {b₀ : Block} {s t : State} {dis : BitVec 7} (e₀ : execTargetDisable dis s = .next t)
    (h₀ : Keeps q₀ b₀ s.toBlock) : Keeps q₀ b₀ t.toBlock := by
  unfold execTargetDisable at e₀
  refine Keeps.upd e₀ h₀ (fun _ _ => ?_)
  repeat' first
    | (with_reducible assumption)
    | (with_reducible exact Keeps.refl)
    | (with_reducible apply Keeps.ite)
    | (with_reducible refine Keeps.foldl ?_ (fun _ _ _ => ?_))
    | (with_reducible apply keeps_setFld)
    | (with_reducible apply keeps_settle)
    | (with_reducible apply keeps_releasePeer)
    | (fail_if_no_progress extract_lets)
    | intro _
    | (with_reducible split)

theorem keeps_execHoldoffExpiry {q₀ : Bool} {b₀ : Block} {s t : State} {host : Bool} {i : Fin 128} (e₀ : execHoldoffExpiry host i s = .next t)
    (h₀ : Keeps q₀ b₀ s.toBlock) : Keeps q₀ b₀ t.toBlock := by
  unfold execHoldoffExpiry at e₀
  refine Keeps.upd e₀ h₀ (fun _ _ => ?_)
  repeat' first
    | (with_reducible assumption)
    | (with_reducible exact Keeps.refl)
    | (with_reducible apply Keeps.ite)
    | (with_reducible refine Keeps.foldl ?_ (fun _ _ _ => ?_))
    | (with_reducible apply keeps_modVec)
    | (with_reducible apply keeps_tryVec)
    | (with_reducible apply keeps_modCore)
    | (fail_if_no_progress extract_lets)
    | intro _
    | (with_reducible split)

theorem keeps_execPeerFifoRead {q₀ : Bool} {b₀ : Block} {s t : State} {m : Master} (e₀ : execPeerFifoRead m s = .next t)
    (h₀ : Keeps q₀ b₀ s.toBlock) : Keeps q₀ b₀ t.toBlock := by
  unfold execPeerFifoRead at e₀
  refine Keeps.upd e₀ h₀ (fun _ _ => ?_)
  repeat' first
    | (with_reducible assumption)
    | (with_reducible exact Keeps.refl)
    | (with_reducible apply Keeps.ite)
    | (with_reducible refine Keeps.foldl ?_ (fun _ _ _ => ?_))
    | (with_reducible refine keeps_modIrq ?_ _ (Irq.wf_eq _ _ _ rfl))
    | (with_reducible refine keeps_modIrq ?_ _ (Irq.wf_filter _ _ _ _ rfl))
    | (with_reducible apply keeps_answer)
    | (fail_if_no_progress extract_lets)
    | intro _
    | (with_reducible split)

theorem keeps_execMsixUnmask {q₀ : Bool} {b₀ : Block} {s t : State} {v : Fin 128} (e₀ : execMsixUnmask v s = .next t)
    (h₀ : Keeps q₀ b₀ s.toBlock) : Keeps q₀ b₀ t.toBlock := by
  unfold execMsixUnmask at e₀
  refine Keeps.upd e₀ h₀ (fun _ _ => ?_)
  repeat' first
    | (with_reducible assumption)
    | (with_reducible exact Keeps.refl)
    | (with_reducible apply Keeps.ite)
    | (with_reducible refine Keeps.foldl ?_ (fun _ _ _ => ?_))
    | (with_reducible apply keeps_wr)
    | (with_reducible apply keeps_tryVec)
    | (fail_if_no_progress extract_lets)
    | intro _
    | (with_reducible split)

/-! ### Machine/Peat.lean -/

theorem keeps_modPtBlock {q₀ : Bool} {b₀ b : Block} (h₀ : Keeps q₀ b₀ b) (key : Nat) (f : PtBlock → PtBlock) :
    Keeps q₀ b₀ (b.modPtBlock key f) := by
  unfold Block.modPtBlock
  repeat' first
    | (with_reducible assumption)
    | (with_reducible exact Keeps.refl)
    | (with_reducible apply Keeps.ite)
    | (with_reducible refine Keeps.foldl ?_ (fun _ _ _ => ?_))
    | (with_reducible apply keeps_modPt)
    | (fail_if_no_progress extract_lets)
    | intro _
    | (with_reducible split)

theorem keeps_ptPost {q₀ : Bool} {b₀ b : Block} (h₀ : Keeps q₀ b₀ b) (d : PtDesc) (status : Nat) (detail : Nat) (errcnt : Nat) (flags : Nat) (rrl : Nat) (info : Nat) :
    Keeps q₀ b₀ (b.ptPost d status detail errcnt flags rrl info) := by
  unfold Block.ptPost
  repeat' first
    | (with_reducible assumption)
    | (with_reducible exact Keeps.refl)
    | (with_reducible apply Keeps.ite)
    | (with_reducible refine Keeps.foldl ?_ (fun _ _ _ => ?_))
    | (with_reducible apply keeps_dramWrite)
    | (with_reducible apply keeps_setFld)
    | (with_reducible apply keeps_raise)
    | (fail_if_no_progress extract_lets)
    | intro _
    | (with_reducible split)

theorem keeps_ptEnd {q₀ : Bool} {b₀ b : Block} (h₀ : Keeps q₀ b₀ b) (d : PtDesc) (status : Nat) (detail : Nat) (info : Nat) :
    Keeps q₀ b₀ (b.ptEnd d status detail info) := by
  unfold Block.ptEnd
  repeat' first
    | (with_reducible assumption)
    | (with_reducible exact Keeps.refl)
    | (with_reducible apply Keeps.ite)
    | (with_reducible refine Keeps.foldl ?_ (fun _ _ _ => ?_))
    | (with_reducible apply keeps_ptPost)
    | (fail_if_no_progress extract_lets)
    | intro _
    | (with_reducible split)

theorem keeps_ptJrnlFree {q₀ : Bool} {b₀ b : Block} (h₀ : Keeps q₀ b₀ b) :
    Keeps q₀ b₀ (b.ptJrnlFree) := by
  unfold Block.ptJrnlFree
  repeat' first
    | (with_reducible assumption)
    | (with_reducible exact Keeps.refl)
    | (with_reducible apply Keeps.ite)
    | (with_reducible refine Keeps.foldl ?_ (fun _ _ _ => ?_))
    | (with_reducible apply keeps_setFld)
    | (with_reducible apply keeps_raise)
    | (with_reducible apply keeps_setBit)
    | (fail_if_no_progress extract_lets)
    | intro _
    | (with_reducible split)

theorem keeps_ptRecDone {q₀ : Bool} {b₀ b : Block} (h₀ : Keeps q₀ b₀ b) (jseq : Nat) :
    Keeps q₀ b₀ (b.ptRecDone jseq) := by
  unfold Block.ptRecDone
  repeat' first
    | (with_reducible assumption)
    | (with_reducible exact Keeps.refl)
    | (with_reducible apply Keeps.ite)
    | (with_reducible refine Keeps.foldl ?_ (fun _ _ _ => ?_))
    | (with_reducible apply keeps_modPt)
    | (with_reducible apply keeps_setFld)
    | (with_reducible apply keeps_ptJrnlFree)
    | (fail_if_no_progress extract_lets)
    | intro _
    | (with_reducible split)

theorem keeps_ptOwn {q₀ : Bool} {b₀ b : Block} (h₀ : Keeps q₀ b₀ b) (jtype : Nat) (key : Nat) (code : Nat) (more : List (Nat × Nat × Nat)) :
    Keeps q₀ b₀ (b.ptOwn jtype key code more) := by
  unfold Block.ptOwn
  repeat' first
    | (with_reducible assumption)
    | (with_reducible exact Keeps.refl)
    | (with_reducible apply Keeps.ite)
    | (with_reducible refine Keeps.foldl ?_ (fun _ _ _ => ?_))
    | (with_reducible apply keeps_modPt)
    | (with_reducible apply keeps_ptRecDone)
    | (fail_if_no_progress extract_lets)
    | intro _
    | (with_reducible split)

theorem keeps_ptHealth {q₀ : Bool} {b₀ b : Block} (h₀ : Keeps q₀ b₀ b) :
    Keeps q₀ b₀ (b.ptHealth) := by
  unfold Block.ptHealth
  repeat' first
    | (with_reducible assumption)
    | (with_reducible exact Keeps.refl)
    | (with_reducible apply Keeps.ite)
    | (with_reducible refine Keeps.foldl ?_ (fun _ _ _ => ?_))
    | (with_reducible apply keeps_setFld)
    | (with_reducible apply keeps_raise)
    | (with_reducible apply keeps_async)
    | (fail_if_no_progress extract_lets)
    | intro _
    | (with_reducible split)

theorem keeps_ptRetire {q₀ : Bool} {b₀ b : Block} (h₀ : Keeps q₀ b₀ b) (key : Nat) (cause : Nat) :
    Keeps q₀ b₀ (b.ptRetire key cause) := by
  unfold Block.ptRetire
  repeat' first
    | (with_reducible assumption)
    | (with_reducible exact Keeps.refl)
    | (with_reducible apply Keeps.ite)
    | (with_reducible refine Keeps.foldl ?_ (fun _ _ _ => ?_))
    | (with_reducible apply keeps_modPtBlock)
    | (with_reducible apply keeps_ptOwn)
    | (with_reducible apply keeps_bump)
    | (with_reducible apply keeps_raise)
    | (with_reducible apply keeps_ptHealth)
    | (fail_if_no_progress extract_lets)
    | intro _
    | (with_reducible split)

theorem keeps_ptReserve {q₀ : Bool} {b₀ b : Block} (h₀ : Keeps q₀ b₀ b) (die : Nat) (before : Nat) :
    Keeps q₀ b₀ (b.ptReserve die before) := by
  unfold Block.ptReserve
  repeat' first
    | (with_reducible assumption)
    | (with_reducible exact Keeps.refl)
    | (with_reducible apply Keeps.ite)
    | (with_reducible refine Keeps.foldl ?_ (fun _ _ _ => ?_))
    | (with_reducible apply keeps_raise)
    | (fail_if_no_progress extract_lets)
    | intro _
    | (with_reducible split)

theorem keeps_ptTake {q₀ : Bool} {b₀ b : Block} (h₀ : Keeps q₀ b₀ b) (d : PtDesc) :
    Keeps q₀ b₀ (b.ptTake d) := by
  unfold Block.ptTake
  repeat' first
    | (with_reducible assumption)
    | (with_reducible exact Keeps.refl)
    | (with_reducible apply Keeps.ite)
    | (with_reducible refine Keeps.foldl ?_ (fun _ _ _ => ?_))
    | (with_reducible apply keeps_setFld)
    | (with_reducible apply keeps_ptEnd)
    | (with_reducible apply keeps_modPtBlock)
    | (with_reducible apply keeps_ptOwn)
    | (with_reducible apply keeps_ptReserve)
    | (with_reducible apply keeps_modPt)
    | (fail_if_no_progress extract_lets)
    | intro _
    | (with_reducible split)

theorem keeps_ptAdvance {q₀ : Bool} {b₀ b : Block} (h₀ : Keeps q₀ b₀ b) :
    Keeps q₀ b₀ (b.ptAdvance) := by
  unfold Block.ptAdvance
  repeat' first
    | (with_reducible assumption)
    | (with_reducible exact Keeps.refl)
    | (with_reducible apply Keeps.ite)
    | (with_reducible refine Keeps.foldl ?_ (fun _ _ _ => ?_))
    | (with_reducible apply keeps_modPt)
    | (with_reducible apply keeps_setFld)
    | (fail_if_no_progress extract_lets)
    | intro _
    | (with_reducible split)

theorem keeps_ptConsume {q₀ : Bool} {b₀ : Block} (n : Nat) :
    ∀ {b : Block}, Keeps q₀ b₀ b → Keeps q₀ b₀ (Block.ptConsume n b) := by
  induction n with
  | zero => exact fun h => h
  | succ n ih =>
    intro b h
    unfold Block.ptConsume
    dsimp only
    split
    · exact h
    · exact ih (keeps_ptTake (keeps_ptAdvance h) _)

theorem keeps_ptDrop {q₀ : Bool} {b₀ b : Block} (h₀ : Keeps q₀ b₀ b) (d : PtDesc) :
    Keeps q₀ b₀ (b.ptDrop d) := by
  unfold Block.ptDrop
  repeat' first
    | (with_reducible assumption)
    | (with_reducible exact Keeps.refl)
    | (with_reducible apply Keeps.ite)
    | (with_reducible refine Keeps.foldl ?_ (fun _ _ _ => ?_))
    | (with_reducible apply keeps_modPt)
    | (fail_if_no_progress extract_lets)
    | intro _
    | (with_reducible split)

theorem keeps_ptGo {q₀ : Bool} {b₀ b : Block} (h₀ : Keeps q₀ b₀ b) (d : PtDesc) (second : Option Nat) (jseq : Nat) :
    Keeps q₀ b₀ (b.ptGo d second jseq) := by
  unfold Block.ptGo
  repeat' first
    | (with_reducible assumption)
    | (with_reducible exact Keeps.refl)
    | (with_reducible apply Keeps.ite)
    | (with_reducible refine Keeps.foldl ?_ (fun _ _ _ => ?_))
    | (with_reducible apply keeps_modPt)
    | (fail_if_no_progress extract_lets)
    | intro _
    | (with_reducible split)

theorem keeps_ptBusErr {q₀ : Bool} {b₀ b : Block} (h₀ : Keeps q₀ b₀ b) (d : PtDesc) :
    Keeps q₀ b₀ (b.ptBusErr d) := by
  unfold Block.ptBusErr
  repeat' first
    | (with_reducible assumption)
    | (with_reducible exact Keeps.refl)
    | (with_reducible apply Keeps.ite)
    | (with_reducible refine Keeps.foldl ?_ (fun _ _ _ => ?_))
    | (with_reducible apply keeps_ptEnd)
    | (with_reducible apply keeps_raise)
    | (fail_if_no_progress extract_lets)
    | intro _
    | (with_reducible split)

theorem keeps_ptStartProgram {q₀ : Bool} {b₀ b : Block} (h₀ : Keeps q₀ b₀ b) (d : PtDesc) :
    Keeps q₀ b₀ (b.ptStartProgram d) := by
  unfold Block.ptStartProgram
  extract_lets r m
  have hr : Keeps q₀ b₀ r.2.2 := keeps_dramRead h₀ _ _ _
  have hm : Keeps q₀ b₀ m.2.2 := keeps_dramRead hr _ _ _
  split
  · exact keeps_ptBusErr hm _
  · exact keeps_ptGo (keeps_modPt hm _) _ _ _

theorem keeps_ptStartJournal {q₀ : Bool} {b₀ b : Block} (h₀ : Keeps q₀ b₀ b) (d : PtDesc) :
    Keeps q₀ b₀ (b.ptStartJournal d) := by
  unfold Block.ptStartJournal
  extract_lets r b1
  have hr : Keeps q₀ b₀ b1 := keeps_dramRead h₀ _ _ _
  split
  · exact keeps_ptBusErr hr _
  · exact keeps_ptGo (keeps_modPt hr _) _ _ _

theorem keeps_ptStart {q₀ : Bool} {b₀ b : Block} (h₀ : Keeps q₀ b₀ b) (d : PtDesc) :
    Keeps q₀ b₀ (b.ptStart d) := by
  unfold Block.ptStart
  generalize dramSize = z
  extract_lets b1
  have h1 : Keeps q₀ b₀ b1 := keeps_ptDrop h₀ _
  clear_value b1
  repeat' first
    | (with_reducible assumption)
    | (with_reducible apply keeps_ptBusErr)
    | (with_reducible apply keeps_ptStartProgram)
    | (with_reducible apply keeps_ptStartJournal)
    | (with_reducible apply keeps_ptGo)
    | (with_reducible apply keeps_ptOwn)
    | split

theorem keeps_ptDispatchDie {q₀ : Bool} {b₀ b : Block} (h₀ : Keeps q₀ b₀ b) (die : Nat) :
    Keeps q₀ b₀ (b.ptDispatchDie die) := by
  unfold Block.ptDispatchDie
  repeat' first
    | (with_reducible assumption)
    | (with_reducible exact Keeps.refl)
    | (with_reducible apply Keeps.ite)
    | (with_reducible refine Keeps.foldl ?_ (fun _ _ _ => ?_))
    | (with_reducible apply keeps_ptDrop)
    | (with_reducible apply keeps_ptEnd)
    | (with_reducible apply keeps_bump)
    | (with_reducible apply keeps_ptStart)
    | (fail_if_no_progress extract_lets)
    | intro _
    | (with_reducible split)

theorem keeps_ptDispatch {q₀ : Bool} {b₀ b : Block} (h₀ : Keeps q₀ b₀ b) :
    Keeps q₀ b₀ (b.ptDispatch) := by
  unfold Block.ptDispatch
  repeat' first
    | (with_reducible assumption)
    | (with_reducible exact Keeps.refl)
    | (with_reducible apply Keeps.ite)
    | (with_reducible refine Keeps.foldl ?_ (fun _ _ _ => ?_))
    | (with_reducible apply keeps_ptDispatchDie)
    | (fail_if_no_progress extract_lets)
    | intro _
    | (with_reducible split)

theorem keeps_ptBusy {q₀ : Bool} {b₀ b : Block} (h₀ : Keeps q₀ b₀ b) :
    Keeps q₀ b₀ (b.ptBusy) := by
  unfold Block.ptBusy
  repeat' first
    | (with_reducible assumption)
    | (with_reducible exact Keeps.refl)
    | (with_reducible apply Keeps.ite)
    | (with_reducible refine Keeps.foldl ?_ (fun _ _ _ => ?_))
    | (with_reducible apply keeps_setFld)
    | (fail_if_no_progress extract_lets)
    | intro _
    | (with_reducible split)

theorem keeps_ptKick {q₀ : Bool} {b₀ b : Block} (h₀ : Keeps q₀ b₀ b) :
    Keeps q₀ b₀ (b.ptKick) := by
  unfold Block.ptKick
  repeat' first
    | (with_reducible assumption)
    | (with_reducible exact Keeps.refl)
    | (with_reducible apply Keeps.ite)
    | (with_reducible refine Keeps.foldl ?_ (fun _ _ _ => ?_))
    | (with_reducible apply keeps_ptConsume)
    | (with_reducible apply keeps_ptDispatch)
    | (with_reducible apply keeps_ptBusy)
    | (fail_if_no_progress extract_lets)
    | intro _
    | (with_reducible split)

theorem keeps_ptUnits {q₀ : Bool} {b₀ b : Block} (h₀ : Keeps q₀ b₀ b) (us : List UnitKey) :
    Keeps q₀ b₀ (b.ptUnits us) := by
  unfold Block.ptUnits
  repeat' first
    | (with_reducible assumption)
    | (with_reducible exact Keeps.refl)
    | (with_reducible apply Keeps.ite)
    | (with_reducible refine Keeps.foldl ?_ (fun _ _ _ => ?_))
    | (with_reducible apply keeps_modPt)
    | (fail_if_no_progress extract_lets)
    | intro _
    | (with_reducible split)

theorem keeps_ptStaged {q₀ : Bool} {b₀ b : Block} (h₀ : Keeps q₀ b₀ b) :
    Keeps q₀ b₀ (b.ptStaged) := by
  unfold Block.ptStaged
  repeat' first
    | (with_reducible assumption)
    | (with_reducible exact Keeps.refl)
    | (with_reducible apply Keeps.ite)
    | (with_reducible refine Keeps.foldl ?_ (fun _ _ _ => ?_))
    | (with_reducible apply keeps_releaseDram)
    | (with_reducible apply keeps_modChunks)
    | (with_reducible apply keeps_modPt)
    | (with_reducible apply keeps_purgeOlds)
    | (fail_if_no_progress extract_lets)
    | intro _
    | (with_reducible split)

theorem keeps_ptQualify {q₀ : Bool} {b₀ b : Block} (h₀ : Keeps q₀ b₀ b) (key : Nat) :
    Keeps q₀ b₀ (b.ptQualify key) := by
  unfold Block.ptQualify
  repeat' first
    | (with_reducible assumption)
    | (with_reducible exact Keeps.refl)
    | (with_reducible apply Keeps.ite)
    | (with_reducible refine Keeps.foldl ?_ (fun _ _ _ => ?_))
    | (with_reducible apply keeps_modPt)
    | (with_reducible apply keeps_ptUnits)
    | (with_reducible apply keeps_ptEnd)
    | (fail_if_no_progress extract_lets)
    | intro _
    | (with_reducible split)

theorem keeps_ptFull {q₀ : Bool} {b₀ b : Block} (h₀ : Keeps q₀ b₀ b) (key : Nat) :
    Keeps q₀ b₀ (b.ptFull key) := by
  unfold Block.ptFull
  repeat' first
    | (with_reducible assumption)
    | (with_reducible exact Keeps.refl)
    | (with_reducible apply Keeps.ite)
    | (with_reducible refine Keeps.foldl ?_ (fun _ _ _ => ?_))
    | (with_reducible apply keeps_modPtBlock)
    | (with_reducible apply keeps_ptOwn)
    | (fail_if_no_progress extract_lets)
    | intro _
    | (with_reducible split)

theorem keeps_ptPad {q₀ : Bool} {b₀ b : Block} (h₀ : Keeps q₀ b₀ b) (key : Nat) :
    Keeps q₀ b₀ (b.ptPad key) := by
  unfold Block.ptPad
  repeat' first
    | (with_reducible assumption)
    | (with_reducible exact Keeps.refl)
    | (with_reducible apply Keeps.ite)
    | (with_reducible refine Keeps.foldl ?_ (fun _ _ _ => ?_))
    | (with_reducible apply keeps_modPt)
    | (with_reducible apply keeps_modPtBlock)
    | (with_reducible apply keeps_ptQualify)
    | (with_reducible apply keeps_ptFull)
    | (fail_if_no_progress extract_lets)
    | intro _
    | (with_reducible split)

theorem keeps_ptDeliver {q₀ : Bool} {b₀ b : Block} (h₀ : Keeps q₀ b₀ b) (d : PtDesc) (data : List Byte) (md : List Byte) (failed : List Nat) :
    Keeps q₀ b₀ (b.ptDeliver d data md failed) := by
  unfold Block.ptDeliver
  repeat' first
    | (with_reducible assumption)
    | (with_reducible exact Keeps.refl)
    | (with_reducible apply Keeps.ite)
    | (with_reducible refine Keeps.foldl ?_ (fun _ _ _ => ?_))
    | (with_reducible apply keeps_dramWrite)
    | (fail_if_no_progress extract_lets)
    | intro _
    | (with_reducible split)

theorem keeps_ptWarn {q₀ : Bool} {b₀ b : Block} (h₀ : Keeps q₀ b₀ b) (d : PtDesc) :
    Keeps q₀ b₀ (b.ptWarn d) := by
  unfold Block.ptWarn
  repeat' first
    | (with_reducible assumption)
    | (with_reducible exact Keeps.refl)
    | (with_reducible apply Keeps.ite)
    | (with_reducible refine Keeps.foldl ?_ (fun _ _ _ => ?_))
    | (with_reducible apply keeps_bump)
    | (with_reducible apply keeps_raise)
    | (with_reducible apply keeps_modPtBlock)
    | (fail_if_no_progress extract_lets)
    | intro _
    | (with_reducible split)

theorem keeps_ptReadEnd {q₀ : Bool} {b₀ b : Block} (h₀ : Keeps q₀ b₀ b) (d : PtDesc) (r : FlashRes) :
    Keeps q₀ b₀ (b.ptReadEnd d r) := by
  unfold Block.ptReadEnd
  repeat' first
    | (with_reducible assumption)
    | (with_reducible exact Keeps.refl)
    | (with_reducible apply Keeps.ite)
    | (with_reducible refine Keeps.foldl ?_ (fun _ _ _ => ?_))
    | (with_reducible apply Keeps.ite2)
    | (with_reducible refine Keeps.snd (by with_reducible assumption) ?_)
    | (with_reducible refine Keeps.thd (by with_reducible assumption) ?_)
    | (with_reducible apply keeps_bump)
    | (with_reducible apply keeps_ptDeliver)
    | (with_reducible apply keeps_ptWarn)
    | (with_reducible apply keeps_ptPost)
    | (with_reducible apply keeps_freeVal)
    | (fail_if_no_progress extract_lets)
    | intro _
    | (with_reducible split)

theorem keeps_ptRebuildEnd {q₀ : Bool} {b₀ b : Block} (h₀ : Keeps q₀ b₀ b) (d : PtDesc) (r : FlashRes) :
    Keeps q₀ b₀ (b.ptRebuildEnd d r) := by
  unfold Block.ptRebuildEnd
  repeat' first
    | (with_reducible assumption)
    | (with_reducible exact Keeps.refl)
    | (with_reducible apply Keeps.ite)
    | (with_reducible refine Keeps.foldl ?_ (fun _ _ _ => ?_))
    | (with_reducible apply keeps_ptDeliver)
    | (with_reducible apply keeps_ptPost)
    | (with_reducible apply keeps_bump)
    | (with_reducible apply keeps_ptEnd)
    | (fail_if_no_progress extract_lets)
    | intro _
    | (with_reducible split)

theorem keeps_ptProgramEnd {q₀ : Bool} {b₀ b : Block} (h₀ : Keeps q₀ b₀ b) (d : PtDesc) (r : FlashRes) :
    Keeps q₀ b₀ (b.ptProgramEnd d r) := by
  unfold Block.ptProgramEnd
  repeat' first
    | (with_reducible assumption)
    | (with_reducible exact Keeps.refl)
    | (with_reducible apply Keeps.ite)
    | (with_reducible refine Keeps.foldl ?_ (fun _ _ _ => ?_))
    | (with_reducible apply keeps_bump)
    | (with_reducible apply keeps_modPt)
    | (with_reducible apply keeps_ptRetire)
    | (with_reducible apply keeps_ptEnd)
    | (with_reducible apply keeps_modPtBlock)
    | (with_reducible apply keeps_ptUnits)
    | (with_reducible apply keeps_ptQualify)
    | (with_reducible apply keeps_ptFull)
    | (fail_if_no_progress extract_lets)
    | intro _
    | (with_reducible split)

theorem keeps_ptEraseEnd {q₀ : Bool} {b₀ b : Block} (h₀ : Keeps q₀ b₀ b) (d : PtDesc) (r : FlashRes) :
    Keeps q₀ b₀ (b.ptEraseEnd d r) := by
  unfold Block.ptEraseEnd
  repeat' first
    | (with_reducible assumption)
    | (with_reducible exact Keeps.refl)
    | (with_reducible apply Keeps.ite)
    | (with_reducible refine Keeps.foldl ?_ (fun _ _ _ => ?_))
    | (with_reducible apply keeps_bump)
    | (with_reducible apply keeps_ptOwn)
    | (with_reducible apply keeps_ptRetire)
    | (with_reducible apply keeps_ptEnd)
    | (with_reducible apply keeps_modPt)
    | (with_reducible apply keeps_modPtBlock)
    | (with_reducible apply keeps_ptHealth)
    | (fail_if_no_progress extract_lets)
    | intro _
    | (with_reducible split)

theorem keeps_ptOpEnd {q₀ : Bool} {b₀ b : Block} (h₀ : Keeps q₀ b₀ b) (o : PtOp) (r : FlashRes) :
    Keeps q₀ b₀ (b.ptOpEnd o r) := by
  unfold Block.ptOpEnd
  repeat' first
    | (with_reducible assumption)
    | (with_reducible exact Keeps.refl)
    | (with_reducible apply Keeps.ite)
    | (with_reducible refine Keeps.foldl ?_ (fun _ _ _ => ?_))
    | (with_reducible apply keeps_modPt)
    | (with_reducible apply keeps_ptReadEnd)
    | (with_reducible apply keeps_ptProgramEnd)
    | (with_reducible apply keeps_ptEraseEnd)
    | (with_reducible apply keeps_ptRecDone)
    | (with_reducible apply keeps_ptStaged)
    | (with_reducible apply keeps_ptEnd)
    | (with_reducible apply keeps_ptRebuildEnd)
    | (with_reducible apply keeps_ptPad)
    | (with_reducible apply keeps_ptRetire)
    | (fail_if_no_progress extract_lets)
    | intro _
    | (with_reducible split)

theorem keeps_execFlashOpComplete {q₀ : Bool} {b₀ : Block} {s t : State} {die : Fin 32} {r : FlashRes} (e₀ : execFlashOpComplete die r s = .next t)
    (h₀ : Keeps q₀ b₀ s.toBlock) : Keeps q₀ b₀ t.toBlock := by
  unfold execFlashOpComplete at e₀
  refine Keeps.upd e₀ h₀ (fun _ _ => ?_)
  repeat' first
    | (with_reducible assumption)
    | (with_reducible exact Keeps.refl)
    | (with_reducible apply Keeps.ite)
    | (with_reducible refine Keeps.foldl ?_ (fun _ _ _ => ?_))
    | (with_reducible apply keeps_ptOpEnd)
    | (with_reducible apply keeps_ptDispatch)
    | (with_reducible apply keeps_ptBusy)
    | (fail_if_no_progress extract_lets)
    | intro _
    | (with_reducible split)

theorem keeps_ptReserveSlot {q₀ : Bool} {b₀ b : Block} (h₀ : Keeps q₀ b₀ b) :
    Keeps q₀ b₀ (b.ptReserveSlot).2 := by
  unfold Block.ptReserveSlot
  repeat' first
    | (with_reducible assumption)
    | (with_reducible exact Keeps.refl)
    | (with_reducible apply Keeps.ite)
    | (with_reducible refine Keeps.foldl ?_ (fun _ _ _ => ?_))
    | (with_reducible apply Keeps.ite2)
    | (with_reducible refine Keeps.snd (by with_reducible assumption) ?_)
    | (with_reducible refine Keeps.thd (by with_reducible assumption) ?_)
    | (with_reducible apply keeps_modPt)
    | (fail_if_no_progress extract_lets)
    | intro _
    | (with_reducible split)

theorem keeps_execDqReserve {q₀ : Bool} {b₀ : Block} {s t : State} {m : Master} (e₀ : execDqReserve m s = .next t)
    (h₀ : Keeps q₀ b₀ s.toBlock) : Keeps q₀ b₀ t.toBlock := by
  unfold execDqReserve at e₀
  refine Keeps.upd e₀ h₀ (fun _ _ => ?_)
  repeat' first
    | (with_reducible assumption)
    | (with_reducible exact Keeps.refl)
    | (with_reducible apply Keeps.ite)
    | (with_reducible refine Keeps.foldl ?_ (fun _ _ _ => ?_))
    | (with_reducible apply Keeps.ite2)
    | (with_reducible refine Keeps.snd (by with_reducible assumption) ?_)
    | (with_reducible refine Keeps.thd (by with_reducible assumption) ?_)
    | (with_reducible apply keeps_ptReserveSlot)
    | (with_reducible apply keeps_answer)
    | (fail_if_no_progress extract_lets)
    | intro _
    | (with_reducible split)

theorem keeps_execDqKick {q₀ : Bool} {b₀ : Block} {s t : State} (e₀ : execDqKick s = .next t)
    (h₀ : Keeps q₀ b₀ s.toBlock) : Keeps q₀ b₀ t.toBlock := by
  unfold execDqKick at e₀
  refine Keeps.upd e₀ h₀ (fun _ _ => ?_)
  repeat' first
    | (with_reducible assumption)
    | (with_reducible exact Keeps.refl)
    | (with_reducible apply Keeps.ite)
    | (with_reducible refine Keeps.foldl ?_ (fun _ _ _ => ?_))
    | (with_reducible apply keeps_ptKick)
    | (fail_if_no_progress extract_lets)
    | intro _
    | (with_reducible split)

theorem keeps_execReservedSlotTimeout {q₀ : Bool} {b₀ : Block} {s t : State} (e₀ : execReservedSlotTimeout s = .next t)
    (h₀ : Keeps q₀ b₀ s.toBlock) : Keeps q₀ b₀ t.toBlock := by
  unfold execReservedSlotTimeout at e₀
  refine Keeps.upd e₀ h₀ (fun _ _ => ?_)
  repeat' first
    | (with_reducible assumption)
    | (with_reducible exact Keeps.refl)
    | (with_reducible apply Keeps.ite)
    | (with_reducible refine Keeps.foldl ?_ (fun _ _ _ => ?_))
    | (with_reducible apply keeps_setFld)
    | (with_reducible apply keeps_ptAdvance)
    | (with_reducible apply keeps_ptEnd)
    | (with_reducible apply keeps_raise)
    | (with_reducible apply keeps_ptKick)
    | (fail_if_no_progress extract_lets)
    | intro _
    | (with_reducible split)

theorem keeps_ptSubmit {q₀ : Bool} {b₀ b : Block} (h₀ : Keeps q₀ b₀ b) (f : PtFields) (op : Nat) (dw0 : Nat) (dw2 : Nat) (len : Nat) (daddr : Nat) (maddr : Nat) :
    Keeps q₀ b₀ (b.ptSubmit f op dw0 dw2 len daddr maddr) := by
  unfold Block.ptSubmit
  repeat' first
    | (with_reducible assumption)
    | (with_reducible exact Keeps.refl)
    | (with_reducible apply Keeps.ite)
    | (with_reducible refine Keeps.foldl ?_ (fun _ _ _ => ?_))
    | (with_reducible apply Keeps.ite2)
    | (with_reducible refine Keeps.snd (by with_reducible assumption) ?_)
    | (with_reducible refine Keeps.thd (by with_reducible assumption) ?_)
    | (with_reducible apply keeps_ptReserveSlot)
    | (with_reducible apply keeps_dramWrite)
    | (with_reducible apply keeps_ptKick)
    | (fail_if_no_progress extract_lets)
    | intro _
    | (with_reducible split)

theorem keeps_execPeatRead {q₀ : Bool} {b₀ : Block} {s t : State} {f : PtFields} {slc : Bool} {pmask : BitVec 4} {rrl : BitVec 4} {daddr : BitVec 64} {maddr : BitVec 64} (e₀ : execPeatRead f slc pmask rrl daddr maddr s = .next t)
    (h₀ : Keeps q₀ b₀ s.toBlock) : Keeps q₀ b₀ t.toBlock := by
  unfold execPeatRead at e₀
  refine Keeps.upd e₀ h₀ (fun _ _ => ?_)
  repeat' first
    | (with_reducible assumption)
    | (with_reducible exact Keeps.refl)
    | (with_reducible apply Keeps.ite)
    | (with_reducible refine Keeps.foldl ?_ (fun _ _ _ => ?_))
    | (with_reducible apply keeps_ptSubmit)
    | (fail_if_no_progress extract_lets)
    | intro _
    | (with_reducible split)

theorem keeps_execPeatProgram {q₀ : Bool} {b₀ : Block} {s t : State} {f : PtFields} {slc : Bool} {daddr : BitVec 64} {maddr : BitVec 64} (e₀ : execPeatProgram f slc daddr maddr s = .next t)
    (h₀ : Keeps q₀ b₀ s.toBlock) : Keeps q₀ b₀ t.toBlock := by
  unfold execPeatProgram at e₀
  refine Keeps.upd e₀ h₀ (fun _ _ => ?_)
  repeat' first
    | (with_reducible assumption)
    | (with_reducible exact Keeps.refl)
    | (with_reducible apply Keeps.ite)
    | (with_reducible refine Keeps.foldl ?_ (fun _ _ _ => ?_))
    | (with_reducible apply keeps_ptSubmit)
    | (fail_if_no_progress extract_lets)
    | intro _
    | (with_reducible split)

theorem keeps_execPeatErase {q₀ : Bool} {b₀ : Block} {s t : State} {f : PtFields} {jrnl : Bool} (e₀ : execPeatErase f jrnl s = .next t)
    (h₀ : Keeps q₀ b₀ s.toBlock) : Keeps q₀ b₀ t.toBlock := by
  unfold execPeatErase at e₀
  refine Keeps.upd e₀ h₀ (fun _ _ => ?_)
  repeat' first
    | (with_reducible assumption)
    | (with_reducible exact Keeps.refl)
    | (with_reducible apply Keeps.ite)
    | (with_reducible refine Keeps.foldl ?_ (fun _ _ _ => ?_))
    | (with_reducible apply keeps_ptSubmit)
    | (fail_if_no_progress extract_lets)
    | intro _
    | (with_reducible split)

theorem keeps_execPeatJournal {q₀ : Bool} {b₀ : Block} {s t : State} {f : PtFields} {ckpt : Bool} {len : BitVec 32} {daddr : BitVec 64} (e₀ : execPeatJournal f ckpt len daddr s = .next t)
    (h₀ : Keeps q₀ b₀ s.toBlock) : Keeps q₀ b₀ t.toBlock := by
  unfold execPeatJournal at e₀
  refine Keeps.upd e₀ h₀ (fun _ _ => ?_)
  repeat' first
    | (with_reducible assumption)
    | (with_reducible exact Keeps.refl)
    | (with_reducible apply Keeps.ite)
    | (with_reducible refine Keeps.foldl ?_ (fun _ _ _ => ?_))
    | (with_reducible apply keeps_ptSubmit)
    | (fail_if_no_progress extract_lets)
    | intro _
    | (with_reducible split)

theorem keeps_execPeatRebuild {q₀ : Bool} {b₀ : Block} {s t : State} {f : PtFields} {daddr : BitVec 64} {maddr : BitVec 64} (e₀ : execPeatRebuild f daddr maddr s = .next t)
    (h₀ : Keeps q₀ b₀ s.toBlock) : Keeps q₀ b₀ t.toBlock := by
  unfold execPeatRebuild at e₀
  refine Keeps.upd e₀ h₀ (fun _ _ => ?_)
  repeat' first
    | (with_reducible assumption)
    | (with_reducible exact Keeps.refl)
    | (with_reducible apply Keeps.ite)
    | (with_reducible refine Keeps.foldl ?_ (fun _ _ _ => ?_))
    | (with_reducible apply keeps_ptSubmit)
    | (fail_if_no_progress extract_lets)
    | intro _
    | (with_reducible split)

theorem keeps_execPeatPad {q₀ : Bool} {b₀ : Block} {s t : State} {f : PtFields} {slc : Bool} (e₀ : execPeatPad f slc s = .next t)
    (h₀ : Keeps q₀ b₀ s.toBlock) : Keeps q₀ b₀ t.toBlock := by
  unfold execPeatPad at e₀
  refine Keeps.upd e₀ h₀ (fun _ _ => ?_)
  repeat' first
    | (with_reducible assumption)
    | (with_reducible exact Keeps.refl)
    | (with_reducible apply Keeps.ite)
    | (with_reducible refine Keeps.foldl ?_ (fun _ _ _ => ?_))
    | (with_reducible apply keeps_ptSubmit)
    | (fail_if_no_progress extract_lets)
    | intro _
    | (with_reducible split)

theorem keeps_execDieTimeout {q₀ : Bool} {b₀ : Block} {s t : State} {die : Fin 32} (e₀ : execDieTimeout die s = .next t)
    (h₀ : Keeps q₀ b₀ s.toBlock) : Keeps q₀ b₀ t.toBlock := by
  unfold execDieTimeout at e₀
  refine Keeps.upd e₀ h₀ (fun _ _ => ?_)
  repeat' first
    | (with_reducible assumption)
    | (with_reducible exact Keeps.refl)
    | (with_reducible apply Keeps.ite)
    | (with_reducible refine Keeps.foldl ?_ (fun _ _ _ => ?_))
    | (with_reducible apply keeps_putBit)
    | (with_reducible apply keeps_raise)
    | (with_reducible apply keeps_modPt)
    | (with_reducible apply keeps_ptEnd)
    | (with_reducible apply keeps_ptDispatch)
    | (with_reducible apply keeps_ptBusy)
    | (fail_if_no_progress extract_lets)
    | intro _
    | (with_reducible split)

theorem keeps_ptHot {q₀ : Bool} {b₀ b : Block} (h₀ : Keeps q₀ b₀ b) :
    Keeps q₀ b₀ (b.ptHot) := by
  unfold Block.ptHot
  repeat' first
    | (with_reducible assumption)
    | (with_reducible exact Keeps.refl)
    | (with_reducible apply Keeps.ite)
    | (with_reducible refine Keeps.foldl ?_ (fun _ _ _ => ?_))
    | (with_reducible apply keeps_ptPad)
    | (with_reducible apply keeps_modPtBlock)
    | (with_reducible apply keeps_ptOwn)
    | (fail_if_no_progress extract_lets)
    | intro _
    | (with_reducible split)

theorem keeps_execPeatTempSample {q₀ : Bool} {b₀ : Block} {s t : State} {temp : BitVec 16} (e₀ : execPeatTempSample temp s = .next t)
    (h₀ : Keeps q₀ b₀ s.toBlock) : Keeps q₀ b₀ t.toBlock := by
  unfold execPeatTempSample at e₀
  refine Keeps.upd e₀ h₀ (fun _ _ => ?_)
  repeat' first
    | (with_reducible assumption)
    | (with_reducible exact Keeps.refl)
    | (with_reducible apply Keeps.ite)
    | (with_reducible refine Keeps.foldl ?_ (fun _ _ _ => ?_))
    | (with_reducible apply keeps_setFld)
    | (with_reducible apply keeps_modPt)
    | (with_reducible apply keeps_raise)
    | (with_reducible apply keeps_async)
    | (with_reducible apply keeps_ptHot)
    | (with_reducible apply keeps_modHq)
    | (fail_if_no_progress extract_lets)
    | intro _
    | (with_reducible split)

theorem keeps_ptMoveRebuilt {q₀ : Bool} {b₀ b : Block} (h₀ : Keeps q₀ b₀ b) (old : List Nat) (e : Nat × Nat) :
    Keeps q₀ b₀ (b.ptMoveRebuilt old e) := by
  unfold Block.ptMoveRebuilt
  repeat' first
    | (with_reducible assumption)
    | (with_reducible exact Keeps.refl)
    | (with_reducible apply Keeps.ite)
    | (with_reducible refine Keeps.foldl ?_ (fun _ _ _ => ?_))
    | (with_reducible apply keeps_modPtBlock)
    | (with_reducible apply keeps_ptOwn)
    | (with_reducible apply keeps_ptReserve)
    | (with_reducible apply keeps_modPt)
    | (with_reducible apply keeps_ptFull)
    | (fail_if_no_progress extract_lets)
    | intro _
    | (with_reducible split)

theorem keeps_ptRecover {q₀ : Bool} {b₀ b : Block} (h₀ : Keeps q₀ b₀ b) (bad : List (Nat × Nat)) :
    Keeps q₀ b₀ (b.ptRecover bad) := by
  unfold Block.ptRecover
  repeat' first
    | (with_reducible assumption)
    | (with_reducible exact Keeps.refl)
    | (with_reducible apply Keeps.ite)
    | (with_reducible refine Keeps.foldl ?_ (fun _ _ _ => ?_))
    | (with_reducible apply keeps_modPt)
    | (with_reducible apply keeps_ptOwn)
    | (with_reducible apply keeps_modPtBlock)
    | (with_reducible apply keeps_setFld)
    | (with_reducible apply keeps_ptMoveRebuilt)
    | (with_reducible apply keeps_setBit)
    | (with_reducible apply keeps_raise)
    | (fail_if_no_progress extract_lets)
    | intro _
    | (with_reducible split)

/-! ### Machine/Calib.lean -/

theorem keeps_calBegin {q₀ : Bool} {b₀ b : Block} (h₀ : Keeps q₀ b₀ b) (s : Fin 4) (k : Nat) (band : Nat) (area : Bool) (peak0 : List Nat) :
    Keeps q₀ b₀ (b.calBegin s k band area peak0) := by
  unfold Block.calBegin
  repeat' first
    | (with_reducible assumption)
    | (with_reducible exact Keeps.refl)
    | (with_reducible apply Keeps.ite)
    | (with_reducible refine Keeps.foldl ?_ (fun _ _ _ => ?_))
    | (with_reducible apply keeps_modCalSurf)
    | (with_reducible apply keeps_run)
    | (with_reducible apply keeps_putBit)
    | (with_reducible apply keeps_calKind)
    | (fail_if_no_progress extract_lets)
    | intro _
    | (with_reducible split)

theorem keeps_modRun {q₀ : Bool} {b₀ b : Block} (h₀ : Keeps q₀ b₀ b) (s : Fin 4) (f : CalRun → CalRun) :
    Keeps q₀ b₀ (b.modRun s f) := by
  unfold Block.modRun
  repeat' first
    | (with_reducible assumption)
    | (with_reducible exact Keeps.refl)
    | (with_reducible apply Keeps.ite)
    | (with_reducible refine Keeps.foldl ?_ (fun _ _ _ => ?_))
    | (with_reducible apply keeps_modCalSurf)
    | (with_reducible apply keeps_run)
    | (fail_if_no_progress extract_lets)
    | intro _
    | (with_reducible split)

theorem keeps_endAwait {q₀ : Bool} {b₀ b : Block} (h₀ : Keeps q₀ b₀ b) (s : Fin 4) :
    Keeps q₀ b₀ (b.endAwait s) := by
  unfold Block.endAwait
  repeat' first
    | (with_reducible assumption)
    | (with_reducible exact Keeps.refl)
    | (with_reducible apply Keeps.ite)
    | (with_reducible refine Keeps.foldl ?_ (fun _ _ _ => ?_))
    | (with_reducible apply keeps_modPw)
    | (fail_if_no_progress extract_lets)
    | intro _
    | (with_reducible split)

theorem keeps_badBand {q₀ : Bool} {b₀ b : Block} (h₀ : Keeps q₀ b₀ b) (s : Fin 4) (band : Nat) :
    Keeps q₀ b₀ (b.badBand s band) := by
  unfold Block.badBand
  repeat' first
    | (with_reducible assumption)
    | (with_reducible exact Keeps.refl)
    | (with_reducible apply Keeps.ite)
    | (with_reducible refine Keeps.foldl ?_ (fun _ _ _ => ?_))
    | (with_reducible apply keeps_run)
    | (with_reducible apply keeps_setFld)
    | (with_reducible apply keeps_endAwait)
    | (with_reducible apply keeps_modWp)
    | (with_reducible apply keeps_bandEntryFor)
    | (with_reducible apply keeps_raiseSurf)
    | (with_reducible apply keeps_modCalSurf)
    | (with_reducible apply keeps_surfDown)
    | (fail_if_no_progress extract_lets)
    | intro _
    | (with_reducible split)

theorem keeps_wstLoad {q₀ : Bool} {b₀ b : Block} (h₀ : Keeps q₀ b₀ b) (s : Fin 4) (table : Nat) (entries : List Word) :
    Keeps q₀ b₀ (b.wstLoad s table entries) := by
  unfold Block.wstLoad
  repeat' first
    | (with_reducible assumption)
    | (with_reducible exact Keeps.refl)
    | (with_reducible apply Keeps.ite)
    | (with_reducible refine Keeps.foldl ?_ (fun _ _ _ => ?_))
    | (with_reducible apply keeps_sedge)
    | (with_reducible apply keeps_modSe)
    | (fail_if_no_progress extract_lets)
    | intro _
    | (with_reducible split)

theorem keeps_defaultWst {q₀ : Bool} {b₀ b : Block} (h₀ : Keeps q₀ b₀ b) : Keeps q₀ b₀ b.defaultWst.2 := by
  unfold Block.defaultWst
  generalize List.range 28 = l
  suffices h : ∀ r : List Word × Block, Keeps q₀ b₀ r.2 →
      Keeps q₀ b₀ (l.foldl (fun (acc : List Word × Block) _ =>
        (acc.1 ++ [BitVec.ofNat 32 acc.2.freeVal.1], acc.2.freeVal.2)) r).2 from h _ h₀
  induction l with
  | nil => exact fun _ h => h
  | cons w t ih => exact fun r h => ih _ (keeps_freeVal h)

theorem keeps_calBad {q₀ : Bool} {b₀ b : Block} (h₀ : Keeps q₀ b₀ b) (s : Fin 4) (values : List Nat) :
    Keeps q₀ b₀ (b.calBad s values) := by
  unfold Block.calBad
  repeat' first
    | (with_reducible assumption)
    | (with_reducible exact Keeps.refl)
    | (with_reducible apply Keeps.ite)
    | (with_reducible refine Keeps.foldl ?_ (fun _ _ _ => ?_))
    | (with_reducible apply Keeps.ite2)
    | (with_reducible refine Keeps.snd (by with_reducible assumption) ?_)
    | (with_reducible refine Keeps.thd (by with_reducible assumption) ?_)
    | (with_reducible apply keeps_run)
    | (with_reducible apply keeps_calEnd)
    | (with_reducible apply keeps_bump)
    | (with_reducible apply keeps_raise)
    | (with_reducible apply keeps_modCal)
    | (with_reducible apply keeps_modCalSurf)
    | (with_reducible apply keeps_modServo)
    | (with_reducible apply keeps_raiseSurf)
    | (with_reducible apply keeps_badBand)
    | (with_reducible apply keeps_defaultWst)
    | (with_reducible apply keeps_wstLoad)
    | (fail_if_no_progress extract_lets)
    | intro _
    | (with_reducible split)

theorem keeps_fillMap {q₀ : Bool} {b₀ b : Block} (h₀ : Keeps q₀ b₀ b) (n : Nat) (offs : List Int) :
    Keeps q₀ b₀ (b.fillMap n offs) := by
  unfold Block.fillMap
  repeat' first
    | (with_reducible assumption)
    | (with_reducible exact Keeps.refl)
    | (with_reducible apply Keeps.ite)
    | (with_reducible refine Keeps.foldl ?_ (fun _ _ _ => ?_))
    | (with_reducible apply keeps_wr)
    | (with_reducible apply keeps_setFld)
    | (with_reducible apply keeps_setBit)
    | (with_reducible apply keeps_raise)
    | (fail_if_no_progress extract_lets)
    | intro _
    | (with_reducible split)

theorem keeps_adcEnds {q₀ : Bool} {b₀ b : Block} (h₀ : Keeps q₀ b₀ b) :
    Keeps q₀ b₀ (b.adcEnds) := by
  unfold Block.adcEnds
  repeat' first
    | (with_reducible assumption)
    | (with_reducible exact Keeps.refl)
    | (with_reducible apply Keeps.ite)
    | (with_reducible refine Keeps.foldl ?_ (fun _ _ _ => ?_))
    | (with_reducible apply keeps_setFld)
    | (with_reducible apply keeps_raise)
    | (with_reducible apply keeps_modCal)
    | (fail_if_no_progress extract_lets)
    | intro _
    | (with_reducible split)

theorem keeps_execCalAdcOffset {q₀ : Bool} {b₀ : Block} {s t : State} {s' : Fin 4} {bg : Bool} {offs : Option (List (List (BitVec 8)))} (e₀ : execCalAdcOffset s' bg offs s = .next t)
    (h₀ : Keeps q₀ b₀ s.toBlock) : Keeps q₀ b₀ t.toBlock := by
  unfold execCalAdcOffset at e₀
  refine Keeps.upd e₀ h₀ (fun _ _ => ?_)
  repeat' first
    | (with_reducible assumption)
    | (with_reducible exact Keeps.refl)
    | (with_reducible apply Keeps.ite)
    | (with_reducible refine Keeps.foldl ?_ (fun _ _ _ => ?_))
    | (with_reducible apply keeps_onSurf)
    | (with_reducible apply keeps_calBegin)
    | (with_reducible apply keeps_fillMap)
    | (with_reducible apply keeps_calEnd)
    | (with_reducible apply keeps_modCal)
    | (with_reducible apply keeps_adcEnds)
    | (fail_if_no_progress extract_lets)
    | intro _
    | (with_reducible split)

theorem keeps_execCalServoOffset {q₀ : Bool} {b₀ : Block} {s t : State} {s' : Fin 4} {bg : Bool} {means : Option (Vector (BitVec 14) 9)} (e₀ : execCalServoOffset s' bg means s = .next t)
    (h₀ : Keeps q₀ b₀ s.toBlock) : Keeps q₀ b₀ t.toBlock := by
  unfold execCalServoOffset at e₀
  refine Keeps.upd e₀ h₀ (fun _ _ => ?_)
  repeat' first
    | (with_reducible assumption)
    | (with_reducible exact Keeps.refl)
    | (with_reducible apply Keeps.ite)
    | (with_reducible refine Keeps.foldl ?_ (fun _ _ _ => ?_))
    | (with_reducible apply keeps_onSurf)
    | (with_reducible apply keeps_calBegin)
    | (with_reducible apply keeps_calBad)
    | (with_reducible apply keeps_setFld)
    | (with_reducible apply keeps_calEnd)
    | (fail_if_no_progress extract_lets)
    | intro _
    | (with_reducible split)

theorem keeps_scaleLoop {q₀ : Bool} {b₀ b : Block} (h₀ : Keeps q₀ b₀ b) (entry : Nat) (e : Int) :
    Keeps q₀ b₀ (b.scaleLoop entry e) := by
  unfold Block.scaleLoop
  repeat' first
    | (with_reducible assumption)
    | (with_reducible exact Keeps.refl)
    | (with_reducible apply Keeps.ite)
    | (with_reducible refine Keeps.foldl ?_ (fun _ _ _ => ?_))
    | (with_reducible apply keeps_leMemWrite)
    | (fail_if_no_progress extract_lets)
    | intro _
    | (with_reducible split)

theorem keeps_execCalLoopGain {q₀ : Bool} {b₀ : Block} {s t : State} {s' : Fin 4} {bg : Bool} {err : Option (BitVec 16 × BitVec 16)} (e₀ : execCalLoopGain s' bg err s = .next t)
    (h₀ : Keeps q₀ b₀ s.toBlock) : Keeps q₀ b₀ t.toBlock := by
  unfold execCalLoopGain at e₀
  refine Keeps.upd e₀ h₀ (fun _ _ => ?_)
  repeat' first
    | (with_reducible assumption)
    | (with_reducible exact Keeps.refl)
    | (with_reducible apply Keeps.ite)
    | (with_reducible refine Keeps.foldl ?_ (fun _ _ _ => ?_))
    | (with_reducible apply keeps_onSurf)
    | (with_reducible apply keeps_calBegin)
    | (with_reducible apply keeps_calBad)
    | (with_reducible apply keeps_scaleLoop)
    | (with_reducible apply keeps_modLe)
    | (with_reducible apply keeps_raiseSurf)
    | (with_reducible apply keeps_calEnd)
    | (fail_if_no_progress extract_lets)
    | intro _
    | (with_reducible split)

theorem keeps_testUnit {q₀ : Bool} {b₀ b c : Block} {s : Fin 4} {band : Nat} {area : Bool}
    (e : b.testUnit s band area = some c) (h₀ : Keeps q₀ b₀ b) : Keeps q₀ b₀ c := by
  unfold Block.testUnit at e
  dsimp only at e
  split at e
  · cases e; exact keeps_modCalSurf h₀ _ _
  · split at e
    · cases e; exact keeps_modCalSurf h₀ _ _
    · split at e <;> cases e
      exact keeps_modCalSurf h₀ _ _

theorem keeps_testPowers {q₀ : Bool} {b₀ b : Block} (h₀ : Keeps q₀ b₀ b) (s : Fin 4) (c : CalRun) :
    Keeps q₀ b₀ (b.testPowers s c) := by
  unfold Block.testPowers
  repeat' first
    | (with_reducible assumption)
    | (with_reducible exact Keeps.refl)
    | (with_reducible apply Keeps.ite)
    | (with_reducible refine Keeps.foldl ?_ (fun _ _ _ => ?_))
    | (with_reducible apply keeps_sedge)
    | (fail_if_no_progress extract_lets)
    | intro _
    | (with_reducible split)

theorem keeps_nextUnit {q₀ : Bool} {b₀ b : Block} (h₀ : Keeps q₀ b₀ b) (s : Fin 4) :
    Keeps q₀ b₀ (b.nextUnit s) := by
  unfold Block.nextUnit
  repeat' first
    | (with_reducible assumption)
    | (with_reducible exact Keeps.refl)
    | (with_reducible apply Keeps.ite)
    | (with_reducible refine Keeps.foldl ?_ (fun _ _ _ => ?_))
    | (with_reducible apply keeps_run)
    | (with_reducible refine keeps_testUnit (by with_reducible assumption) ?_)
    | (with_reducible apply keeps_testPowers)
    | (with_reducible apply keeps_raiseSurf)
    | (with_reducible apply keeps_calBad)
    | (fail_if_no_progress extract_lets)
    | intro _
    | (with_reducible split)

theorem keeps_powerFound {q₀ : Bool} {b₀ b : Block} (h₀ : Keeps q₀ b₀ b) (s : Fin 4) (c : CalRun) :
    Keeps q₀ b₀ (b.powerFound s c) := by
  unfold Block.powerFound
  repeat' first
    | (with_reducible assumption)
    | (with_reducible exact Keeps.refl)
    | (with_reducible apply Keeps.ite)
    | (with_reducible refine Keeps.foldl ?_ (fun _ _ _ => ?_))
    | (with_reducible apply keeps_setFld)
    | (with_reducible apply keeps_modSe)
    | (with_reducible apply keeps_raiseSurf)
    | (with_reducible apply keeps_modCalSurf)
    | (with_reducible apply keeps_endAwait)
    | (with_reducible apply keeps_calEnd)
    | (fail_if_no_progress extract_lets)
    | intro _
    | (with_reducible split)

theorem keeps_judgeUnit {q₀ : Bool} {b₀ b : Block} (h₀ : Keeps q₀ b₀ b) (s : Fin 4) (errs : Vector (BitVec 16) 16) :
    Keeps q₀ b₀ (b.judgeUnit s errs) := by
  unfold Block.judgeUnit
  repeat' first
    | (with_reducible assumption)
    | (with_reducible exact Keeps.refl)
    | (with_reducible apply Keeps.ite)
    | (with_reducible refine Keeps.foldl ?_ (fun _ _ _ => ?_))
    | (with_reducible apply keeps_powerFound)
    | (with_reducible apply keeps_modRun)
    | (with_reducible apply keeps_bump)
    | (with_reducible apply keeps_raiseSurf)
    | (with_reducible apply keeps_nextUnit)
    | (with_reducible apply keeps_calBad)
    | (fail_if_no_progress extract_lets)
    | intro _
    | (with_reducible split)

theorem keeps_execCalWritePower {q₀ : Bool} {b₀ : Block} {s t : State} {s' : Fin 4} {area : Bool} {bg : Bool} {errs : Option (Vector (BitVec 16) 16)} (e₀ : execCalWritePower s' area bg errs s = .next t)
    (h₀ : Keeps q₀ b₀ s.toBlock) : Keeps q₀ b₀ t.toBlock := by
  unfold execCalWritePower at e₀
  refine Keeps.upd e₀ h₀ (fun _ _ => ?_)
  dsimp only
  repeat' first
    | (with_reducible assumption)
    | (with_reducible exact Keeps.refl)
    | (with_reducible apply Keeps.ite)
    | (with_reducible refine Keeps.foldl ?_ (fun _ _ _ => ?_))
    | (with_reducible apply keeps_onSurf)
    | (with_reducible apply keeps_calBegin)
    | (with_reducible apply keeps_nextUnit)
    | (with_reducible apply keeps_judgeUnit)
    | (fail_if_no_progress extract_lets)
    | intro _
    | (with_reducible split)

theorem keeps_execCalWriteStrategy {q₀ : Bool} {b₀ : Block} {s t : State} {s' : Fin 4} {table : Option (Vector Word 28)} (e₀ : execCalWriteStrategy s' table s = .next t)
    (h₀ : Keeps q₀ b₀ s.toBlock) : Keeps q₀ b₀ t.toBlock := by
  unfold execCalWriteStrategy at e₀
  refine Keeps.upd e₀ h₀ (fun _ _ => ?_)
  repeat' first
    | (with_reducible assumption)
    | (with_reducible exact Keeps.refl)
    | (with_reducible apply Keeps.ite)
    | (with_reducible refine Keeps.foldl ?_ (fun _ _ _ => ?_))
    | (with_reducible apply keeps_onSurf)
    | (with_reducible apply keeps_calBegin)
    | (with_reducible apply keeps_wstLoad)
    | (with_reducible apply keeps_modCalSurf)
    | (with_reducible apply keeps_raiseSurf)
    | (with_reducible apply keeps_calEnd)
    | (fail_if_no_progress extract_lets)
    | intro _
    | (with_reducible split)

theorem keeps_execCalTimeout {q₀ : Bool} {b₀ : Block} {s t : State} {s' : Fin 4} (e₀ : execCalTimeout s' s = .next t)
    (h₀ : Keeps q₀ b₀ s.toBlock) : Keeps q₀ b₀ t.toBlock := by
  unfold execCalTimeout at e₀
  refine Keeps.upd e₀ h₀ (fun _ _ => ?_)
  repeat' first
    | (with_reducible assumption)
    | (with_reducible exact Keeps.refl)
    | (with_reducible apply Keeps.ite)
    | (with_reducible refine Keeps.foldl ?_ (fun _ _ _ => ?_))
    | (with_reducible apply keeps_onSurf)
    | (with_reducible apply keeps_run)
    | (with_reducible apply keeps_calBad)
    | (with_reducible apply keeps_adcEnds)
    | (fail_if_no_progress extract_lets)
    | intro _
    | (with_reducible split)

theorem keeps_execDeferralExpiry {q₀ : Bool} {b₀ : Block} {s t : State} {e : Fin 7} (e₀ : execDeferralExpiry e s = .next t)
    (h₀ : Keeps q₀ b₀ s.toBlock) : Keeps q₀ b₀ t.toBlock := by
  unfold execDeferralExpiry at e₀
  refine Keeps.upd e₀ h₀ (fun _ _ => ?_)
  repeat' first
    | (with_reducible assumption)
    | (with_reducible exact Keeps.refl)
    | (with_reducible apply Keeps.ite)
    | (with_reducible refine Keeps.foldl ?_ (fun _ _ _ => ?_))
    | (with_reducible apply keeps_putBit)
    | (with_reducible apply keeps_modCal)
    | (with_reducible apply keeps_bump)
    | (with_reducible apply keeps_raise)
    | (fail_if_no_progress extract_lets)
    | intro _
    | (with_reducible split)

theorem keeps_telRebase {q₀ : Bool} {b₀ b : Block} (h₀ : Keeps q₀ b₀ b) (n : Nat) :
    Keeps q₀ b₀ (b.telRebase n) := by
  unfold Block.telRebase
  repeat' first
    | (with_reducible assumption)
    | (with_reducible exact Keeps.refl)
    | (with_reducible apply Keeps.ite)
    | (with_reducible refine Keeps.foldl ?_ (fun _ _ _ => ?_))
    | (with_reducible apply keeps_modCal)
    | (fail_if_no_progress extract_lets)
    | intro _
    | (with_reducible split)

theorem keeps_telCleared {q₀ : Bool} {b₀ b : Block} (h₀ : Keeps q₀ b₀ b) (n : Nat) (i : Nat) (v : Nat) :
    Keeps q₀ b₀ (b.telCleared n i v) := by
  unfold Block.telCleared
  repeat' first
    | (with_reducible assumption)
    | (with_reducible exact Keeps.refl)
    | (with_reducible apply Keeps.ite)
    | (with_reducible refine Keeps.foldl ?_ (fun _ _ _ => ?_))
    | (with_reducible apply keeps_modCal)
    | (fail_if_no_progress extract_lets)
    | intro _
    | (with_reducible split)

theorem keeps_execTelemetrySample {q₀ : Bool} {b₀ : Block} {s t : State} {set : Fin 5} {inst : Fin 64} {magTemp : BitVec 16} {humidity : BitVec 8} {draw : BitVec 16} (e₀ : execTelemetrySample set inst magTemp humidity draw s = .next t)
    (h₀ : Keeps q₀ b₀ s.toBlock) : Keeps q₀ b₀ t.toBlock := by
  unfold execTelemetrySample at e₀
  refine Keeps.upd e₀ h₀ (fun _ _ => ?_)
  repeat' first
    | (with_reducible assumption)
    | (with_reducible exact Keeps.refl)
    | (with_reducible apply Keeps.ite)
    | (with_reducible refine Keeps.foldl ?_ (fun _ _ _ => ?_))
    | (with_reducible apply keeps_telRecord)
    | (with_reducible apply keeps_onSurf)
    | (with_reducible apply keeps_modCalSurf)
    | (with_reducible apply keeps_onBeam)
    | (with_reducible apply keeps_telRebase)
    | (fail_if_no_progress extract_lets)
    | intro _
    | (with_reducible split)

theorem keeps_execDieTemperatureWarning {q₀ : Bool} {b₀ : Block} {s t : State} {temp : BitVec 16} (e₀ : execDieTemperatureWarning temp s = .next t)
    (h₀ : Keeps q₀ b₀ s.toBlock) : Keeps q₀ b₀ t.toBlock := by
  unfold execDieTemperatureWarning at e₀
  refine Keeps.upd e₀ h₀ (fun _ _ => ?_)
  repeat' first
    | (with_reducible assumption)
    | (with_reducible exact Keeps.refl)
    | (with_reducible apply Keeps.ite)
    | (with_reducible refine Keeps.foldl ?_ (fun _ _ _ => ?_))
    | (with_reducible apply keeps_modHq)
    | (with_reducible apply keeps_async)
    | (fail_if_no_progress extract_lets)
    | intro _
    | (with_reducible split)

theorem keeps_i2cGo {q₀ : Bool} {b₀ b : Block} (h₀ : Keeps q₀ b₀ b) (v : Word) :
    Keeps q₀ b₀ (b.i2cGo v) := by
  unfold Block.i2cGo
  repeat' first
    | (with_reducible assumption)
    | (with_reducible exact Keeps.refl)
    | (with_reducible apply Keeps.ite)
    | (with_reducible refine Keeps.foldl ?_ (fun _ _ _ => ?_))
    | (with_reducible apply keeps_setFld)
    | (with_reducible apply keeps_emit)
    | (fail_if_no_progress extract_lets)
    | intro _
    | (with_reducible split)

theorem keeps_execI2cTransfer {q₀ : Bool} {b₀ : Block} {s t : State} {v : Word} (e₀ : execI2cTransfer v s = .next t)
    (h₀ : Keeps q₀ b₀ s.toBlock) : Keeps q₀ b₀ t.toBlock := by
  unfold execI2cTransfer at e₀
  refine Keeps.upd e₀ h₀ (fun _ _ => ?_)
  repeat' first
    | (with_reducible assumption)
    | (with_reducible exact Keeps.refl)
    | (with_reducible apply Keeps.ite)
    | (with_reducible refine Keeps.foldl ?_ (fun _ _ _ => ?_))
    | (with_reducible apply keeps_wr)
    | (with_reducible apply keeps_i2cGo)
    | (fail_if_no_progress extract_lets)
    | intro _
    | (with_reducible split)

theorem keeps_execI2cTransferDone {q₀ : Bool} {b₀ : Block} {s t : State} {r : I2cEnd} (e₀ : execI2cTransferDone r s = .next t)
    (h₀ : Keeps q₀ b₀ s.toBlock) : Keeps q₀ b₀ t.toBlock := by
  unfold execI2cTransferDone at e₀
  refine Keeps.upd e₀ h₀ (fun _ _ => ?_)
  repeat' first
    | (with_reducible assumption)
    | (with_reducible exact Keeps.refl)
    | (with_reducible apply Keeps.ite)
    | (with_reducible refine Keeps.foldl ?_ (fun _ _ _ => ?_))
    | (with_reducible apply keeps_setFld)
    | (with_reducible apply keeps_wr)
    | (fail_if_no_progress extract_lets)
    | intro _
    | (with_reducible split)

/-! ### Machine/Store.lean -/

theorem keeps_arriveRaw {q₀ : Bool} {b₀ b : Block} (h₀ : Keeps q₀ b₀ b) (seq : Nat) (grp : Nat) (ns : Nat) (clip : Nat) (frame : Nat) (off : Nat) (gen : Nat) (vlen : Nat) (ends : Bool × Bool) (surf : Option Nat) (res : Nat) (bytes : List Byte) :
    Keeps q₀ b₀ (b.arriveRaw seq grp ns clip frame off gen vlen ends surf res bytes) := by
  unfold Block.arriveRaw
  repeat' first
    | (with_reducible assumption)
    | (with_reducible exact Keeps.refl)
    | (with_reducible apply Keeps.ite)
    | (with_reducible refine Keeps.foldl ?_ (fun _ _ _ => ?_))
    | (with_reducible apply keeps_modPt)
    | (with_reducible apply keeps_modStore)
    | (fail_if_no_progress extract_lets)
    | intro _
    | (with_reducible split)

theorem keeps_arrive {q₀ : Bool} {b₀ b : Block} (h₀ : Keeps q₀ b₀ b) (c : Cmd) (grp : Nat) (ns : Nat) (clip : Nat) (frame : Nat) (off : Nat) (gen : Nat) (vlen : Nat) (ends : Bool × Bool) (surf : Option Nat) (res : Nat) (payload : List Byte) :
    Keeps q₀ b₀ (b.arrive c grp ns clip frame off gen vlen ends surf res payload) := by
  unfold Block.arrive
  repeat' first
    | (with_reducible assumption)
    | (with_reducible exact Keeps.refl)
    | (with_reducible apply Keeps.ite)
    | (with_reducible refine Keeps.foldl ?_ (fun _ _ _ => ?_))
    | (with_reducible apply keeps_arriveRaw)
    | (fail_if_no_progress extract_lets)
    | intro _
    | (with_reducible split)

theorem keeps_unitOld {q₀ : Bool} {b₀ b : Block} (h₀ : Keeps q₀ b₀ b) (media : List MediaCell) (u : Nat) :
    Keeps q₀ b₀ (b.unitOld media u).2 := by
  unfold Block.unitOld
  repeat' first
    | (with_reducible assumption)
    | (with_reducible exact Keeps.refl)
    | (with_reducible apply Keeps.ite)
    | (with_reducible refine Keeps.foldl ?_ (fun _ _ _ => ?_))
    | (with_reducible apply Keeps.ite2)
    | (with_reducible refine Keeps.snd (by with_reducible assumption) ?_)
    | (with_reducible refine Keeps.thd (by with_reducible assumption) ?_)
    | (with_reducible apply keeps_freeVal)
    | (fail_if_no_progress extract_lets)
    | intro _
    | (with_reducible split)

theorem keeps_spareEvent {q₀ : Bool} {b₀ b : Block} (h₀ : Keeps q₀ b₀ b) (was : Nat) :
    Keeps q₀ b₀ (b.spareEvent was) := by
  unfold Block.spareEvent
  repeat' first
    | (with_reducible assumption)
    | (with_reducible exact Keeps.refl)
    | (with_reducible apply Keeps.ite)
    | (with_reducible refine Keeps.foldl ?_ (fun _ _ _ => ?_))
    | (with_reducible apply keeps_async)
    | (fail_if_no_progress extract_lets)
    | intro _
    | (with_reducible split)

theorem keeps_execBlockWrite {q₀ : Bool} {b₀ : Block} {s t : State} {tag : Nat} {data : List Byte} {media : List MediaCell} (e₀ : execBlockWrite tag data media s = .next t)
    (h₀ : Keeps q₀ b₀ s.toBlock) : Keeps q₀ b₀ t.toBlock := by
  unfold execBlockWrite at e₀
  refine Keeps.upd e₀ h₀ (fun _ _ => ?_)
  repeat' first
    | (with_reducible assumption)
    | (with_reducible exact Keeps.refl)
    | (with_reducible apply Keeps.ite)
    | (with_reducible refine Keeps.foldl ?_ (fun _ _ _ => ?_))
    | (with_reducible apply Keeps.ite2)
    | (with_reducible refine Keeps.snd (by with_reducible assumption) ?_)
    | (with_reducible refine Keeps.thd (by with_reducible assumption) ?_)
    | (with_reducible apply keeps_actOn)
    | (with_reducible apply keeps_dropClaims)
    | (with_reducible apply keeps_failWith)
    | (with_reducible apply keeps_modVol)
    | (with_reducible apply keeps_unitOld)
    | (with_reducible apply keeps_arrive)
    | (with_reducible apply keeps_purgeOlds)
    | (with_reducible apply keeps_mirrorData)
    | (with_reducible apply keeps_modStore)
    | (with_reducible apply keeps_spareEvent)
    | (with_reducible apply keeps_claimsTaken)
    | (with_reducible apply keeps_succeed)
    | (fail_if_no_progress extract_lets)
    | intro _
    | (with_reducible split)

theorem keeps_readEnd {q₀ : Bool} {b₀ b : Block} (h₀ : Keeps q₀ b₀ b) (c : Cmd) (bytes : List Byte) (damage : List (Nat × Nat × Nat)) (res : Nat) (count : Nat) (clip : Nat) (lost : Option Chunk) :
    Keeps q₀ b₀ (b.readEnd c bytes damage res count clip lost) := by
  unfold Block.readEnd
  repeat' first
    | (with_reducible assumption)
    | (with_reducible exact Keeps.refl)
    | (with_reducible apply Keeps.ite)
    | (with_reducible refine Keeps.foldl ?_ (fun _ _ _ => ?_))
    | (with_reducible apply keeps_sendData)
    | (with_reducible apply keeps_succeed)
    | (with_reducible apply keeps_finish)
    | (fail_if_no_progress extract_lets)
    | intro _
    | (with_reducible split)

theorem keeps_blockRead {q₀ : Bool} {b₀ b : Block} (h₀ : Keeps q₀ b₀ b) (c : Cmd) (media : List MediaCell) :
    Keeps q₀ b₀ (b.blockRead c media) := by
  unfold Block.blockRead
  repeat' first
    | (with_reducible assumption)
    | (with_reducible exact Keeps.refl)
    | (with_reducible apply Keeps.ite)
    | (with_reducible refine Keeps.foldl ?_ (fun _ _ _ => ?_))
    | (with_reducible apply keeps_failWith)
    | (with_reducible apply keeps_readEnd)
    | (fail_if_no_progress extract_lets)
    | intro _
    | (with_reducible split)

theorem keeps_execBlockRead {q₀ : Bool} {b₀ : Block} {s t : State} {tag : Nat} {media : List MediaCell} (e₀ : execBlockRead tag media s = .next t)
    (h₀ : Keeps q₀ b₀ s.toBlock) : Keeps q₀ b₀ t.toBlock := by
  unfold execBlockRead at e₀
  refine Keeps.upd e₀ h₀ (fun _ _ => ?_)
  repeat' first
    | (with_reducible assumption)
    | (with_reducible exact Keeps.refl)
    | (with_reducible apply Keeps.ite)
    | (with_reducible refine Keeps.foldl ?_ (fun _ _ _ => ?_))
    | (with_reducible apply keeps_actOn)
    | (with_reducible apply keeps_blockRead)
    | (fail_if_no_progress extract_lets)
    | intro _
    | (with_reducible split)

theorem keeps_execFlush {q₀ : Bool} {b₀ : Block} {s t : State} {tag : Nat} (e₀ : execFlush tag s = .next t)
    (h₀ : Keeps q₀ b₀ s.toBlock) : Keeps q₀ b₀ t.toBlock := by
  unfold execFlush at e₀
  refine Keeps.upd e₀ h₀ (fun _ _ => ?_)
  repeat' first
    | (with_reducible assumption)
    | (with_reducible exact Keeps.refl)
    | (with_reducible apply Keeps.ite)
    | (with_reducible refine Keeps.foldl ?_ (fun _ _ _ => ?_))
    | (with_reducible apply keeps_actOn)
    | (with_reducible apply keeps_succeed)
    | (with_reducible apply keeps_failWith)
    | (fail_if_no_progress extract_lets)
    | intro _
    | (with_reducible split)

theorem keeps_execClipOpen {q₀ : Bool} {b₀ : Block} {s t : State} {tag : Nat} {metadata : List Byte} {peer : Bool} (e₀ : execClipOpen tag metadata peer s = .next t)
    (h₀ : Keeps q₀ b₀ s.toBlock) : Keeps q₀ b₀ t.toBlock := by
  unfold execClipOpen at e₀
  refine Keeps.upd e₀ h₀ (fun _ _ => ?_)
  repeat' first
    | (with_reducible assumption)
    | (with_reducible exact Keeps.refl)
    | (with_reducible apply Keeps.ite)
    | (with_reducible refine Keeps.foldl ?_ (fun _ _ _ => ?_))
    | (with_reducible apply keeps_actOn)
    | (with_reducible apply keeps_dropClaims)
    | (with_reducible apply keeps_failWith)
    | (with_reducible apply keeps_modVol)
    | (with_reducible apply keeps_journalBoth)
    | (with_reducible apply keeps_succeed)
    | (fail_if_no_progress extract_lets)
    | intro _
    | (with_reducible split)

theorem keeps_execFrameAppend {q₀ : Bool} {b₀ : Block} {s t : State} {tag : Nat} {data : List Byte} (e₀ : execFrameAppend tag data s = .next t)
    (h₀ : Keeps q₀ b₀ s.toBlock) : Keeps q₀ b₀ t.toBlock := by
  unfold execFrameAppend at e₀
  refine Keeps.upd e₀ h₀ (fun _ _ => ?_)
  repeat' first
    | (with_reducible assumption)
    | (with_reducible exact Keeps.refl)
    | (with_reducible apply Keeps.ite)
    | (with_reducible refine Keeps.foldl ?_ (fun _ _ _ => ?_))
    | (with_reducible apply keeps_actOn)
    | (with_reducible apply keeps_dropClaims)
    | (with_reducible apply keeps_failWith)
    | (with_reducible apply keeps_modClip)
    | (with_reducible apply keeps_arrive)
    | (with_reducible apply keeps_mirrorData)
    | (with_reducible apply keeps_claimsTaken)
    | (with_reducible apply keeps_succeed)
    | (fail_if_no_progress extract_lets)
    | intro _
    | (with_reducible split)

theorem keeps_closeClip {q₀ : Bool} {b₀ b : Block} (h₀ : Keeps q₀ b₀ b) (n : Nat) (metadata : Option (List Byte)) :
    Keeps q₀ b₀ (b.closeClip n metadata) := by
  unfold Block.closeClip
  repeat' first
    | (with_reducible assumption)
    | (with_reducible exact Keeps.refl)
    | (with_reducible apply Keeps.ite)
    | (with_reducible refine Keeps.foldl ?_ (fun _ _ _ => ?_))
    | (with_reducible apply keeps_modClip)
    | (with_reducible apply keeps_journalBoth)
    | (fail_if_no_progress extract_lets)
    | intro _
    | (with_reducible split)

theorem keeps_execClipClose {q₀ : Bool} {b₀ : Block} {s t : State} {tag : Nat} {metadata : List Byte} (e₀ : execClipClose tag metadata s = .next t)
    (h₀ : Keeps q₀ b₀ s.toBlock) : Keeps q₀ b₀ t.toBlock := by
  unfold execClipClose at e₀
  refine Keeps.upd e₀ h₀ (fun _ _ => ?_)
  repeat' first
    | (with_reducible assumption)
    | (with_reducible exact Keeps.refl)
    | (with_reducible apply Keeps.ite)
    | (with_reducible refine Keeps.foldl ?_ (fun _ _ _ => ?_))
    | (with_reducible apply keeps_actOn)
    | (with_reducible apply keeps_dropClaims)
    | (with_reducible apply keeps_failWith)
    | (with_reducible apply keeps_closeClip)
    | (with_reducible apply keeps_succeed)
    | (fail_if_no_progress extract_lets)
    | intro _
    | (with_reducible split)

theorem keeps_frameRead {q₀ : Bool} {b₀ b : Block} (h₀ : Keeps q₀ b₀ b) (c : Cmd) (media : List MediaCell) :
    Keeps q₀ b₀ (b.frameRead c media) := by
  unfold Block.frameRead
  repeat' first
    | (with_reducible assumption)
    | (with_reducible exact Keeps.refl)
    | (with_reducible apply Keeps.ite)
    | (with_reducible refine Keeps.foldl ?_ (fun _ _ _ => ?_))
    | (with_reducible apply keeps_failWith)
    | (with_reducible apply keeps_readEnd)
    | (fail_if_no_progress extract_lets)
    | intro _
    | (with_reducible split)

theorem keeps_execFrameRead {q₀ : Bool} {b₀ : Block} {s t : State} {tag : Nat} {media : List MediaCell} (e₀ : execFrameRead tag media s = .next t)
    (h₀ : Keeps q₀ b₀ s.toBlock) : Keeps q₀ b₀ t.toBlock := by
  unfold execFrameRead at e₀
  refine Keeps.upd e₀ h₀ (fun _ _ => ?_)
  repeat' first
    | (with_reducible assumption)
    | (with_reducible exact Keeps.refl)
    | (with_reducible apply Keeps.ite)
    | (with_reducible refine Keeps.foldl ?_ (fun _ _ _ => ?_))
    | (with_reducible apply keeps_actOn)
    | (with_reducible apply keeps_frameRead)
    | (fail_if_no_progress extract_lets)
    | intro _
    | (with_reducible split)

theorem keeps_execCatalogueRead {q₀ : Bool} {b₀ : Block} {s t : State} {tag : Nat} (e₀ : execCatalogueRead tag s = .next t)
    (h₀ : Keeps q₀ b₀ s.toBlock) : Keeps q₀ b₀ t.toBlock := by
  unfold execCatalogueRead at e₀
  refine Keeps.upd e₀ h₀ (fun _ _ => ?_)
  repeat' first
    | (with_reducible assumption)
    | (with_reducible exact Keeps.refl)
    | (with_reducible apply Keeps.ite)
    | (with_reducible refine Keeps.foldl ?_ (fun _ _ _ => ?_))
    | (with_reducible apply keeps_actOn)
    | (with_reducible apply keeps_failWith)
    | (with_reducible apply keeps_sendData)
    | (with_reducible apply keeps_succeed)
    | (fail_if_no_progress extract_lets)
    | intro _
    | (with_reducible split)

theorem keeps_execClipVerify {q₀ : Bool} {b₀ : Block} {s t : State} {tag : Nat} {bad : List (Nat × Nat)} (e₀ : execClipVerify tag bad s = .next t)
    (h₀ : Keeps q₀ b₀ s.toBlock) : Keeps q₀ b₀ t.toBlock := by
  unfold execClipVerify at e₀
  refine Keeps.upd e₀ h₀ (fun _ _ => ?_)
  repeat' first
    | (with_reducible assumption)
    | (with_reducible exact Keeps.refl)
    | (with_reducible apply Keeps.ite)
    | (with_reducible refine Keeps.foldl ?_ (fun _ _ _ => ?_))
    | (with_reducible apply keeps_actOn)
    | (with_reducible apply keeps_failWith)
    | (with_reducible apply keeps_readEnd)
    | (fail_if_no_progress extract_lets)
    | intro _
    | (with_reducible split)

/-! ### Machine/Ledger.lean -/

theorem keeps_modLog {q₀ : Bool} {b₀ b : Block} (h₀ : Keeps q₀ b₀ b) (s : Fin 4) (f : LedgerLog → LedgerLog) :
    Keeps q₀ b₀ (b.modLog s f) := by
  unfold Block.modLog
  repeat' first
    | (with_reducible assumption)
    | (with_reducible exact Keeps.refl)
    | (with_reducible apply Keeps.ite)
    | (with_reducible refine Keeps.foldl ?_ (fun _ _ _ => ?_))
    | (with_reducible apply keeps_modVol)
    | (fail_if_no_progress extract_lets)
    | intro _
    | (with_reducible split)

theorem keeps_durableCell {q₀ : Bool} {b₀ : Block} {t : Stripe} {acc : List Chunk × Block} (e : Cell × Nat)
    (h : Keeps q₀ b₀ acc.2) : Keeps q₀ b₀ (durableCell t acc e).2 := by
  unfold durableCell
  split
  · exact h
  · dsimp only
    split
    · exact h
    · split
      · refine Keeps.pair rfl ?_
        split
        · exact keeps_modVol (keeps_modChunks h _ _) _
        · exact keeps_modChunks h _ _
      · exact Keeps.pair rfl (keeps_modChunks (keeps_releaseDram h _) _ _)

theorem keeps_durableCells {q₀ : Bool} {b₀ b : Block} (t : Stripe) (l : List (Cell × Nat)) (h : Keeps q₀ b₀ b) :
    Keeps q₀ b₀ (l.foldl (durableCell t) ([], b)).2 := by
  suffices k : ∀ acc : List Chunk × Block, Keeps q₀ b₀ acc.2 → Keeps q₀ b₀ (l.foldl (durableCell t) acc).2 from k _ h
  induction l with
  | nil => exact fun _ h => h
  | cons x l ih => exact fun acc h => ih _ (keeps_durableCell x h)

theorem keeps_execOpticalDurable {q₀ : Bool} {b₀ : Block} {s t : State} {s' : Fin 4} {wseq : BitVec 32}
    (e₀ : execOpticalDurable s' wseq s = .next t) (h₀ : Keeps q₀ b₀ s.toBlock) : Keeps q₀ b₀ t.toBlock := by
  unfold execOpticalDurable at e₀
  refine Keeps.upd e₀ h₀ (fun _ h => ?_)
  refine keeps_onSurf h _ _ (fun c hc => ?_)
  dsimp only
  repeat' first
    | (with_reducible assumption)
    | (with_reducible apply Keeps.ite)
    | (with_reducible refine Keeps.foldl ?_ (fun _ _ _ => ?_))
    | (with_reducible apply keeps_modLog)
    | (with_reducible apply keeps_journalEntry)
    | (with_reducible apply keeps_purgeOlds)
    | (with_reducible apply keeps_durableCells)
    | (with_reducible apply keeps_stripeDurable)
    | intro _
    | (with_reducible split)

theorem keeps_execLedgerVisit {q₀ : Bool} {b₀ : Block} {s t : State} {s' : Fin 4} (e₀ : execLedgerVisit s' s = .next t)
    (h₀ : Keeps q₀ b₀ s.toBlock) : Keeps q₀ b₀ t.toBlock := by
  unfold execLedgerVisit at e₀
  refine Keeps.upd e₀ h₀ (fun _ _ => ?_)
  repeat' first
    | (with_reducible assumption)
    | (with_reducible exact Keeps.refl)
    | (with_reducible apply Keeps.ite)
    | (with_reducible refine Keeps.foldl ?_ (fun _ _ _ => ?_))
    | (with_reducible apply keeps_onSurf)
    | (with_reducible apply keeps_closeAll)
    | (with_reducible apply keeps_modWp)
    | (with_reducible apply keeps_modLog)
    | (with_reducible apply keeps_run)
    | (with_reducible apply keeps_plan)
    | (fail_if_no_progress extract_lets)
    | intro _
    | (with_reducible split)

theorem keeps_openWindows {q₀ : Bool} {b₀ b : Block} (h₀ : Keeps q₀ b₀ b) (s : Fin 4) :
    Keeps q₀ b₀ (b.openWindows s) := by
  unfold Block.openWindows
  repeat' first
    | (with_reducible assumption)
    | (with_reducible exact Keeps.refl)
    | (with_reducible apply Keeps.ite)
    | (with_reducible refine Keeps.foldl ?_ (fun _ _ _ => ?_))
    | (with_reducible apply keeps_modCal)
    | (with_reducible apply keeps_modWp)
    | (with_reducible apply keeps_modCalSurf)
    | (with_reducible apply keeps_persistTel)
    | (with_reducible apply keeps_raiseSurf)
    | (fail_if_no_progress extract_lets)
    | intro _
    | (with_reducible split)

theorem keeps_execBandStep {q₀ : Bool} {b₀ : Block} {s t : State} {s' : Fin 4} (e₀ : execBandStep s' s = .next t)
    (h₀ : Keeps q₀ b₀ s.toBlock) : Keeps q₀ b₀ t.toBlock := by
  unfold execBandStep at e₀
  refine Keeps.upd e₀ h₀ (fun _ _ => ?_)
  repeat' first
    | (with_reducible assumption)
    | (with_reducible exact Keeps.refl)
    | (with_reducible apply Keeps.ite)
    | (with_reducible refine Keeps.foldl ?_ (fun _ _ _ => ?_))
    | (with_reducible apply keeps_onSurf)
    | (with_reducible apply keeps_modVol)
    | (with_reducible apply keeps_modWp)
    | (with_reducible apply keeps_modStore)
    | (with_reducible apply keeps_modLog)
    | (with_reducible apply keeps_openWindows)
    | (with_reducible apply keeps_bandEntryFor)
    | (fail_if_no_progress extract_lets)
    | intro _
    | (with_reducible split)

theorem keeps_drainOne {q₀ : Bool} {b₀ b : Block} (h₀ : Keeps q₀ b₀ b) (s : Fin 4) (x : Chunk) :
    Keeps q₀ b₀ (b.drainOne s x) := by
  unfold Block.drainOne
  repeat' first
    | (with_reducible assumption)
    | (with_reducible exact Keeps.refl)
    | (with_reducible apply Keeps.ite)
    | (with_reducible refine Keeps.foldl ?_ (fun _ _ _ => ?_))
    | (with_reducible apply keeps_modChunks)
    | (fail_if_no_progress extract_lets)
    | intro _
    | (with_reducible split)

theorem keeps_execStagedDrain {q₀ : Bool} {b₀ : Block} {s t : State} {s' : Fin 4} (e₀ : execStagedDrain s' s = .next t)
    (h₀ : Keeps q₀ b₀ s.toBlock) : Keeps q₀ b₀ t.toBlock := by
  unfold execStagedDrain at e₀
  refine Keeps.upd e₀ h₀ (fun _ _ => ?_)
  repeat' first
    | (with_reducible assumption)
    | (with_reducible exact Keeps.refl)
    | (with_reducible apply Keeps.ite)
    | (with_reducible refine Keeps.foldl ?_ (fun _ _ _ => ?_))
    | (with_reducible apply keeps_onSurf)
    | (with_reducible apply keeps_drainOne)
    | (fail_if_no_progress extract_lets)
    | intro _
    | (with_reducible split)

theorem keeps_execStagingFloor {q₀ : Bool} {b₀ : Block} {s t : State} (e₀ : execStagingFloor s = .next t)
    (h₀ : Keeps q₀ b₀ s.toBlock) : Keeps q₀ b₀ t.toBlock := by
  unfold execStagingFloor at e₀
  refine Keeps.upd e₀ h₀ (fun _ _ => ?_)
  repeat' first
    | (with_reducible assumption)
    | (with_reducible exact Keeps.refl)
    | (with_reducible apply Keeps.ite)
    | (with_reducible refine Keeps.foldl ?_ (fun _ _ _ => ?_))
    | (with_reducible apply keeps_modHq)
    | (with_reducible apply keeps_async)
    | (fail_if_no_progress extract_lets)
    | intro _
    | (with_reducible split)

theorem keeps_addOptical {q₀ : Bool} {b₀ b : Block} (h₀ : Keeps q₀ b₀ b) (cs : List Chunk) :
    Keeps q₀ b₀ (b.addOptical cs) := by
  unfold Block.addOptical
  repeat' first
    | (with_reducible assumption)
    | (with_reducible exact Keeps.refl)
    | (with_reducible apply Keeps.ite)
    | (with_reducible refine Keeps.foldl ?_ (fun _ _ _ => ?_))
    | (with_reducible apply keeps_modStore)
    | (with_reducible apply keeps_modVol)
    | (fail_if_no_progress extract_lets)
    | intro _
    | (with_reducible split)

theorem keeps_applyEntry {q₀ : Bool} {b₀ b : Block} (h₀ : Keeps q₀ b₀ b) (seen : List (Nat × List Byte)) (t : Nat) (e : List Byte) :
    Keeps q₀ b₀ (b.applyEntry seen t e) := by
  unfold Block.applyEntry
  repeat' first
    | (with_reducible assumption)
    | (with_reducible exact Keeps.refl)
    | (with_reducible apply Keeps.ite)
    | (with_reducible refine Keeps.foldl ?_ (fun _ _ _ => ?_))
    | (with_reducible apply keeps_modVol)
    | (with_reducible apply keeps_addOptical)
    | (with_reducible apply keeps_modWp)
    | (with_reducible apply keeps_recordFails)
    | (fail_if_no_progress extract_lets)
    | intro _
    | (with_reducible split)

theorem keeps_applyEntries {q₀ : Bool} {b₀ b : Block} (h₀ : Keeps q₀ b₀ b) (es : List (Nat × List Byte)) :
    Keeps q₀ b₀ (b.applyEntries es) := by
  unfold Block.applyEntries
  suffices k : ∀ acc : List (Nat × List Byte) × Block, Keeps q₀ b₀ acc.2 → Keeps q₀ b₀
      (es.foldl (fun (acc : List (Nat × List Byte) × Block) e =>
        (acc.1 ++ [e], acc.2.applyEntry acc.1 e.1 e.2)) acc).2 from k _ h₀
  induction es with
  | nil => exact fun _ h => h
  | cons x l ih => exact fun acc h => ih _ (Keeps.pair rfl (keeps_applyEntry h _ _ _))

theorem keeps_skipLost {q₀ : Bool} {b₀ b : Block} (h₀ : Keeps q₀ b₀ b) (x : Clip) :
    Keeps q₀ b₀ (b.skipLost x) := by
  unfold Block.skipLost
  repeat' first
    | (with_reducible assumption)
    | (with_reducible exact Keeps.refl)
    | (with_reducible apply Keeps.ite)
    | (with_reducible refine Keeps.foldl ?_ (fun _ _ _ => ?_))
    | (with_reducible apply keeps_modStore)
    | (with_reducible apply keeps_skipFrames)
    | (fail_if_no_progress extract_lets)
    | intro _
    | (with_reducible split)

theorem keeps_execTailScan {q₀ : Bool} {b₀ : Block} {s t : State} {cells : List ScanCell} {voids : List (Nat × Nat × Nat)} {ptrs : List (Fin 4 × Nat × Nat × Nat)} (e₀ : execTailScan cells voids ptrs s = .next t)
    (h₀ : Keeps q₀ b₀ s.toBlock) : Keeps q₀ b₀ t.toBlock := by
  unfold execTailScan at e₀
  refine Keeps.upd e₀ h₀ (fun _ _ => ?_)
  repeat' first
    | (with_reducible assumption)
    | (with_reducible exact Keeps.refl)
    | (with_reducible apply Keeps.ite)
    | (with_reducible refine Keeps.foldl ?_ (fun _ _ _ => ?_))
    | (with_reducible apply keeps_scan)
    | (with_reducible apply keeps_addOptical)
    | (with_reducible apply keeps_journalEntry)
    | (with_reducible apply keeps_modVol)
    | (with_reducible apply keeps_modWp)
    | (with_reducible apply keeps_voidEntry)
    | (with_reducible apply keeps_skipLost)
    | (fail_if_no_progress extract_lets)
    | intro _
    | (with_reducible split)

/-! ### Machine/Magazine.lean -/

theorem keeps_spinsRun {q₀ : Bool} {b₀ b : Block} (h₀ : Keeps q₀ b₀ b) :
    Keeps q₀ b₀ (b.spinsRun) := by
  unfold Block.spinsRun
  repeat' first
    | (with_reducible assumption)
    | (with_reducible exact Keeps.refl)
    | (with_reducible apply Keeps.ite)
    | (with_reducible refine Keeps.foldl ?_ (fun _ _ _ => ?_))
    | (with_reducible apply keeps_spRun)
    | (fail_if_no_progress extract_lets)
    | intro _
    | (with_reducible split)

theorem keeps_spinsStop {q₀ : Bool} {b₀ b : Block} (h₀ : Keeps q₀ b₀ b) :
    Keeps q₀ b₀ (b.spinsStop) := by
  unfold Block.spinsStop
  repeat' first
    | (with_reducible assumption)
    | (with_reducible exact Keeps.refl)
    | (with_reducible apply Keeps.ite)
    | (with_reducible refine Keeps.foldl ?_ (fun _ _ _ => ?_))
    | (with_reducible apply keeps_onSpin)
    | (with_reducible apply keeps_setFld)
    | (with_reducible apply keeps_spStop)
    | (fail_if_no_progress extract_lets)
    | intro _
    | (with_reducible split)

theorem keeps_toStep {q₀ : Bool} {b₀ b : Block} (h₀ : Keeps q₀ b₀ b) (c : Cmd) (n : Nat) :
    Keeps q₀ b₀ (b.toStep c n) := by
  unfold Block.toStep
  repeat' first
    | (with_reducible assumption)
    | (with_reducible exact Keeps.refl)
    | (with_reducible apply Keeps.ite)
    | (with_reducible refine Keeps.foldl ?_ (fun _ _ _ => ?_))
    | (with_reducible apply keeps_modCmd)
    | (fail_if_no_progress extract_lets)
    | intro _
    | (with_reducible split)

theorem keeps_holdFin {q₀ : Bool} {b₀ b : Block} (h₀ : Keeps q₀ b₀ b) (c : Cmd) (n : Nat) (f : Finish) :
    Keeps q₀ b₀ (b.holdFin c n f) := by
  unfold Block.holdFin
  repeat' first
    | (with_reducible assumption)
    | (with_reducible exact Keeps.refl)
    | (with_reducible apply Keeps.ite)
    | (with_reducible refine Keeps.foldl ?_ (fun _ _ _ => ?_))
    | (with_reducible apply keeps_modCmd)
    | (fail_if_no_progress extract_lets)
    | intro _
    | (with_reducible split)

theorem keeps_endHeld {q₀ : Bool} {b₀ b : Block} (h₀ : Keeps q₀ b₀ b) (c : Cmd) :
    Keeps q₀ b₀ (b.endHeld c) := by
  unfold Block.endHeld
  repeat' first
    | (with_reducible assumption)
    | (with_reducible exact Keeps.refl)
    | (with_reducible apply Keeps.ite)
    | (with_reducible refine Keeps.foldl ?_ (fun _ _ _ => ?_))
    | (with_reducible apply keeps_finish)
    | (fail_if_no_progress extract_lets)
    | intro _
    | (with_reducible split)

theorem keeps_unload {q₀ : Bool} {b₀ b : Block} (h₀ : Keeps q₀ b₀ b) :
    Keeps q₀ b₀ (b.unload) := by
  unfold Block.unload
  repeat' first
    | (with_reducible assumption)
    | (with_reducible exact Keeps.refl)
    | (with_reducible apply Keeps.ite)
    | (with_reducible refine Keeps.foldl ?_ (fun _ _ _ => ?_))
    | (with_reducible apply keeps_voidEntry)
    | (with_reducible apply keeps_modWp)
    | (with_reducible apply keeps_modHq)
    | (with_reducible apply keeps_modStore)
    | (fail_if_no_progress extract_lets)
    | intro _
    | (with_reducible split)

theorem keeps_readAtRemoval {q₀ : Bool} {b₀ b : Block} (h₀ : Keeps q₀ b₀ b) (c : Cmd) :
    Keeps q₀ b₀ (b.readAtRemoval c) := by
  unfold Block.readAtRemoval
  repeat' first
    | (with_reducible assumption)
    | (with_reducible exact Keeps.refl)
    | (with_reducible apply Keeps.ite)
    | (with_reducible refine Keeps.foldl ?_ (fun _ _ _ => ?_))
    | (with_reducible apply keeps_blockRead)
    | (with_reducible apply keeps_failWith)
    | (with_reducible apply keeps_frameRead)
    | (fail_if_no_progress extract_lets)
    | intro _
    | (with_reducible split)

theorem keeps_removeVolume {q₀ : Bool} {b₀ b : Block} (h₀ : Keeps q₀ b₀ b) :
    Keeps q₀ b₀ (b.removeVolume) := by
  unfold Block.removeVolume
  repeat' first
    | (with_reducible assumption)
    | (with_reducible exact Keeps.refl)
    | (with_reducible apply Keeps.ite)
    | (with_reducible refine Keeps.foldl ?_ (fun _ _ _ => ?_))
    | (with_reducible apply keeps_readAtRemoval)
    | (with_reducible apply keeps_cutPass)
    | (with_reducible apply keeps_cancelPlan)
    | (with_reducible apply keeps_modVol)
    | (with_reducible apply keeps_unload)
    | (fail_if_no_progress extract_lets)
    | intro _
    | (with_reducible split)

theorem keeps_execDoorOpen {q₀ : Bool} {b₀ : Block} {s t : State} (e₀ : execDoorOpen s = .next t)
    (h₀ : Keeps q₀ b₀ s.toBlock) : Keeps q₀ b₀ t.toBlock := by
  unfold execDoorOpen at e₀
  refine Keeps.upd e₀ h₀ (fun _ _ => ?_)
  repeat' first
    | (with_reducible assumption)
    | (with_reducible exact Keeps.refl)
    | (with_reducible apply Keeps.ite)
    | (with_reducible refine Keeps.foldl ?_ (fun _ _ _ => ?_))
    | (with_reducible apply keeps_doorOpen)
    | (with_reducible apply keeps_removeVolume)
    | (with_reducible apply keeps_async)
    | (fail_if_no_progress extract_lets)
    | intro _
    | (with_reducible split)

theorem keeps_formatBegin {q₀ : Bool} {b₀ b : Block} (h₀ : Keeps q₀ b₀ b) (v : Vol) :
    Keeps q₀ b₀ (b.formatBegin v) := by
  unfold Block.formatBegin
  repeat' first
    | (with_reducible assumption)
    | (with_reducible exact Keeps.refl)
    | (with_reducible apply Keeps.ite)
    | (with_reducible refine Keeps.foldl ?_ (fun _ _ _ => ?_))
    | (with_reducible apply keeps_modVol)
    | (with_reducible apply keeps_journalBoth)
    | (with_reducible apply keeps_closeRec)
    | (fail_if_no_progress extract_lets)
    | intro _
    | (with_reducible split)

theorem keeps_execFormat {q₀ : Bool} {b₀ : Block} {s t : State} {tag : Nat} {label : List Byte} (e₀ : execFormat tag label s = .next t)
    (h₀ : Keeps q₀ b₀ s.toBlock) : Keeps q₀ b₀ t.toBlock := by
  unfold execFormat at e₀
  refine Keeps.upd e₀ h₀ (fun _ _ => ?_)
  repeat' first
    | (with_reducible assumption)
    | (with_reducible exact Keeps.refl)
    | (with_reducible apply Keeps.ite)
    | (with_reducible refine Keeps.foldl ?_ (fun _ _ _ => ?_))
    | (with_reducible apply keeps_actOn)
    | (with_reducible apply keeps_modVol)
    | (with_reducible apply keeps_succeed)
    | (with_reducible apply keeps_failWith)
    | (with_reducible apply keeps_formatBegin)
    | (with_reducible apply keeps_toStep)
    | (fail_if_no_progress extract_lets)
    | intro _
    | (with_reducible split)

theorem keeps_loadFail {q₀ : Bool} {b₀ b : Block} (h₀ : Keeps q₀ b₀ b) (c : Cmd) (status : Nat) (detail : Nat) :
    Keeps q₀ b₀ (b.loadFail c status detail) := by
  unfold Block.loadFail
  repeat' first
    | (with_reducible assumption)
    | (with_reducible exact Keeps.refl)
    | (with_reducible apply Keeps.ite)
    | (with_reducible refine Keeps.foldl ?_ (fun _ _ _ => ?_))
    | (with_reducible apply keeps_spinsStop)
    | (with_reducible apply keeps_modVol)
    | (with_reducible apply keeps_holdFin)
    | (fail_if_no_progress extract_lets)
    | intro _
    | (with_reducible split)

theorem keeps_replay {q₀ : Bool} {b₀ b : Block} (h₀ : Keeps q₀ b₀ b) (recs : List RecFound) :
    Keeps q₀ b₀ (b.replay recs) := by
  unfold Block.replay
  repeat' first
    | (with_reducible assumption)
    | (with_reducible exact Keeps.refl)
    | (with_reducible apply Keeps.ite)
    | (with_reducible refine Keeps.foldl ?_ (fun _ _ _ => ?_))
    | (with_reducible apply keeps_modVol)
    | (with_reducible apply keeps_applyEntries)
    | (with_reducible apply keeps_modChunks)
    | (with_reducible apply keeps_modStore)
    | (with_reducible apply keeps_scan)
    | (with_reducible apply keeps_skipLost)
    | (with_reducible apply keeps_modLog)
    | (fail_if_no_progress extract_lets)
    | intro _
    | (with_reducible split)

theorem keeps_mediumFound {q₀ : Bool} {b₀ b : Block} (h₀ : Keeps q₀ b₀ b) (p : Nat × SurfMedium) :
    Keeps q₀ b₀ (b.mediumFound p) := by
  unfold Block.mediumFound
  repeat' first
    | (with_reducible assumption)
    | (with_reducible exact Keeps.refl)
    | (with_reducible apply Keeps.ite)
    | (with_reducible refine Keeps.foldl ?_ (fun _ _ _ => ?_))
    | (with_reducible apply keeps_setFld)
    | (with_reducible apply keeps_modWp)
    | (with_reducible apply keeps_modCalSurf)
    | (fail_if_no_progress extract_lets)
    | intro _
    | (with_reducible split)

theorem keeps_resumeAt {q₀ : Bool} {b₀ b : Block} (h₀ : Keeps q₀ b₀ b) (p : Nat × SurfMedium) :
    Keeps q₀ b₀ (b.resumeAt p) := by
  unfold Block.resumeAt
  repeat' first
    | (with_reducible assumption)
    | (with_reducible exact Keeps.refl)
    | (with_reducible apply Keeps.ite)
    | (with_reducible refine Keeps.foldl ?_ (fun _ _ _ => ?_))
    | (with_reducible apply keeps_modVol)
    | (with_reducible apply keeps_modWp)
    | (fail_if_no_progress extract_lets)
    | intro _
    | (with_reducible split)

theorem keeps_ledgerRead {q₀ : Bool} {b₀ b : Block} (h₀ : Keeps q₀ b₀ b) (c : Cmd) (descs : List (Nat × Option Descriptor)) (written : Bool) (recs : List RecFound) (logs : List (Nat × Nat)) (media : List (Nat × SurfMedium)) :
    Keeps q₀ b₀ (b.ledgerRead c descs written recs logs media) := by
  unfold Block.ledgerRead
  repeat' first
    | (with_reducible assumption)
    | (with_reducible exact Keeps.refl)
    | (with_reducible apply Keeps.ite)
    | (with_reducible refine Keeps.foldl ?_ (fun _ _ _ => ?_))
    | (with_reducible apply keeps_loadFail)
    | (with_reducible apply keeps_modCalSurf)
    | (with_reducible apply keeps_mediumFound)
    | (with_reducible apply keeps_async)
    | (with_reducible apply keeps_succeed)
    | (with_reducible apply keeps_modVol)
    | (with_reducible apply keeps_modWp)
    | (with_reducible apply keeps_replay)
    | (with_reducible apply keeps_modLog)
    | (with_reducible apply keeps_resumeAt)
    | (with_reducible apply keeps_failWith)
    | (fail_if_no_progress extract_lets)
    | intro _
    | (with_reducible split)

theorem keeps_execMagazineLoad {q₀ : Bool} {b₀ : Block} {s t : State} {tag : Nat} {found : LoadFound} (e₀ : execMagazineLoad tag found s = .next t)
    (h₀ : Keeps q₀ b₀ s.toBlock) : Keeps q₀ b₀ t.toBlock := by
  unfold execMagazineLoad at e₀
  refine Keeps.upd e₀ h₀ (fun _ _ => ?_)
  repeat' first
    | (with_reducible assumption)
    | (with_reducible exact Keeps.refl)
    | (with_reducible apply Keeps.ite)
    | (with_reducible refine Keeps.foldl ?_ (fun _ _ _ => ?_))
    | (with_reducible apply keeps_actOn)
    | (with_reducible apply keeps_succeed)
    | (with_reducible apply keeps_failWith)
    | (with_reducible apply keeps_modVol)
    | (with_reducible apply keeps_setFld)
    | (with_reducible apply keeps_placeTarget)
    | (with_reducible apply keeps_toStep)
    | (with_reducible apply keeps_spinsRun)
    | (with_reducible apply keeps_loadFail)
    | (with_reducible apply keeps_ledgerRead)
    | (with_reducible apply keeps_endHeld)
    | (fail_if_no_progress extract_lets)
    | intro _
    | (with_reducible split)

theorem keeps_ejectBegin {q₀ : Bool} {b₀ b : Block} (h₀ : Keeps q₀ b₀ b) (c : Cmd) :
    Keeps q₀ b₀ (b.ejectBegin c) := by
  unfold Block.ejectBegin
  repeat' first
    | (with_reducible assumption)
    | (with_reducible exact Keeps.refl)
    | (with_reducible apply Keeps.ite)
    | (with_reducible refine Keeps.foldl ?_ (fun _ _ _ => ?_))
    | (with_reducible apply keeps_calAbandon)
    | (with_reducible apply keeps_modVol)
    | (with_reducible apply keeps_toStep)
    | (fail_if_no_progress extract_lets)
    | intro _
    | (with_reducible split)

theorem keeps_execMagazineEject {q₀ : Bool} {b₀ : Block} {s t : State} {tag : Nat} (e₀ : execMagazineEject tag s = .next t)
    (h₀ : Keeps q₀ b₀ s.toBlock) : Keeps q₀ b₀ t.toBlock := by
  unfold execMagazineEject at e₀
  refine Keeps.upd e₀ h₀ (fun _ _ => ?_)
  repeat' first
    | (with_reducible assumption)
    | (with_reducible exact Keeps.refl)
    | (with_reducible apply Keeps.ite)
    | (with_reducible refine Keeps.foldl ?_ (fun _ _ _ => ?_))
    | (with_reducible apply keeps_actOn)
    | (with_reducible apply keeps_failWith)
    | (with_reducible apply keeps_closeClip)
    | (with_reducible apply keeps_ejectBegin)
    | (fail_if_no_progress extract_lets)
    | intro _
    | (with_reducible split)

theorem keeps_execEjectProceed {q₀ : Bool} {b₀ : Block} {s t : State} (e₀ : execEjectProceed s = .next t)
    (h₀ : Keeps q₀ b₀ s.toBlock) : Keeps q₀ b₀ t.toBlock := by
  unfold execEjectProceed at e₀
  refine Keeps.upd e₀ h₀ (fun _ _ => ?_)
  repeat' first
    | (with_reducible assumption)
    | (with_reducible exact Keeps.refl)
    | (with_reducible apply Keeps.ite)
    | (with_reducible refine Keeps.foldl ?_ (fun _ _ _ => ?_))
    | (with_reducible apply keeps_modVol)
    | (with_reducible apply keeps_failWith)
    | (with_reducible apply keeps_spinsStop)
    | (with_reducible apply keeps_holdFin)
    | (with_reducible apply keeps_journalBoth)
    | (with_reducible apply keeps_toStep)
    | (with_reducible apply keeps_placeTarget)
    | (with_reducible apply keeps_axHalt)
    | (with_reducible apply keeps_setFld)
    | (with_reducible apply keeps_endHeld)
    | (with_reducible apply keeps_unload)
    | (with_reducible apply keeps_async)
    | (fail_if_no_progress extract_lets)
    | intro _
    | (with_reducible split)

end Sys2Proof.Machine
end

