-- ==== Sys2Proof/Laws/KeepsPair.lean ====
section
/-!
SUPPORT. What the pair, power, the map cache and the Sluice keep, one lemma for each operation and each command.
-/

set_option Elab.async false
set_option linter.unreachableTactic false
set_option linter.unusedTactic false

namespace Sys2Proof.Machine

/-! ### Machine/Mirror.lean -/

theorem keeps_journalPair {q₀ : Bool} {b₀ b : Block} (h₀ : Keeps q₀ b₀ b) :
    Keeps q₀ b₀ (b.journalPair) := by
  unfold Block.journalPair
  repeat' first
    | (with_reducible assumption)
    | (with_reducible exact Keeps.refl)
    | (with_reducible apply Keeps.ite)
    | (with_reducible refine Keeps.foldl ?_ (fun _ _ _ => ?_))
    | (with_reducible apply keeps_modMl)
    | (fail_if_no_progress extract_lets)
    | intro _
    | (with_reducible split)

theorem keeps_mlTimers {q₀ : Bool} {b₀ b : Block} (h₀ : Keeps q₀ b₀ b) :
    Keeps q₀ b₀ (b.mlTimers) := by
  unfold Block.mlTimers
  repeat' first
    | (with_reducible assumption)
    | (with_reducible exact Keeps.refl)
    | (with_reducible apply Keeps.ite)
    | (with_reducible refine Keeps.foldl ?_ (fun _ _ _ => ?_))
    | (with_reducible apply keeps_modMl)
    | (fail_if_no_progress extract_lets)
    | intro _
    | (with_reducible split)

theorem keeps_setPair {q₀ : Bool} {b₀ b : Block} (h₀ : Keeps q₀ b₀ b) (st : Nat) (partner : Bool) :
    Keeps q₀ b₀ (b.setPair st partner) := by
  unfold Block.setPair
  repeat' first
    | (with_reducible assumption)
    | (with_reducible exact Keeps.refl)
    | (with_reducible apply Keeps.ite)
    | (with_reducible refine Keeps.foldl ?_ (fun _ _ _ => ?_))
    | (with_reducible apply keeps_setFld)
    | (with_reducible apply keeps_setBit)
    | (with_reducible apply keeps_modMl)
    | (with_reducible apply keeps_journalPair)
    | (with_reducible apply keeps_mlTimers)
    | (with_reducible apply keeps_emit)
    | (with_reducible apply keeps_raise)
    | (fail_if_no_progress extract_lets)
    | intro _
    | (with_reducible split)

theorem keeps_degrade {q₀ : Bool} {b₀ b : Block} (h₀ : Keeps q₀ b₀ b) :
    Keeps q₀ b₀ (b.degrade) := by
  unfold Block.degrade
  repeat' first
    | (with_reducible assumption)
    | (with_reducible exact Keeps.refl)
    | (with_reducible apply Keeps.ite)
    | (with_reducible refine Keeps.foldl ?_ (fun _ _ _ => ?_))
    | (with_reducible apply keeps_modMl)
    | (with_reducible apply keeps_setFld)
    | (with_reducible apply keeps_setPair)
    | (with_reducible apply keeps_async)
    | (fail_if_no_progress extract_lets)
    | intro _
    | (with_reducible split)

theorem keeps_onFrame {q₀ : Bool} {b₀ b : Block} (h₀ : Keeps q₀ b₀ b) (f : Block → Block) (hf : ∀ c , Keeps q₀ b₀ c → Keeps q₀ b₀ (f c )) :
    Keeps q₀ b₀ (b.onFrame f) := by
  unfold Block.onFrame
  repeat' first
    | (with_reducible assumption)
    | (with_reducible exact Keeps.refl)
    | (with_reducible apply Keeps.ite)
    | (with_reducible refine Keeps.foldl ?_ (fun _ _ _ => ?_))
    | (with_reducible apply hf)
    | (with_reducible apply keeps_modMl)
    | (fail_if_no_progress extract_lets)
    | intro _
    | (with_reducible split)

theorem keeps_mlBring {q₀ : Bool} {b₀ b : Block} (h₀ : Keeps q₀ b₀ b) :
    Keeps q₀ b₀ (b.mlBring) := by
  unfold Block.mlBring
  repeat' first
    | (with_reducible assumption)
    | (with_reducible exact Keeps.refl)
    | (with_reducible apply Keeps.ite)
    | (with_reducible refine Keeps.foldl ?_ (fun _ _ _ => ?_))
    | (with_reducible apply keeps_modMl)
    | (with_reducible apply keeps_emit)
    | (fail_if_no_progress extract_lets)
    | intro _
    | (with_reducible split)

theorem keeps_pairDown {q₀ : Bool} {b₀ b : Block} (h₀ : Keeps q₀ b₀ b) :
    Keeps q₀ b₀ (b.pairDown) := by
  unfold Block.pairDown
  repeat' first
    | (with_reducible assumption)
    | (with_reducible exact Keeps.refl)
    | (with_reducible apply Keeps.ite)
    | (with_reducible refine Keeps.foldl ?_ (fun _ _ _ => ?_))
    | (with_reducible apply keeps_mlTimers)
    | (with_reducible apply keeps_setPair)
    | (with_reducible apply keeps_degrade)
    | (fail_if_no_progress extract_lets)
    | intro _
    | (with_reducible split)

theorem keeps_linkDown {q₀ : Bool} {b₀ b : Block} (h₀ : Keeps q₀ b₀ b) :
    Keeps q₀ b₀ (b.linkDown) := by
  unfold Block.linkDown
  repeat' first
    | (with_reducible assumption)
    | (with_reducible exact Keeps.refl)
    | (with_reducible apply Keeps.ite)
    | (with_reducible refine Keeps.foldl ?_ (fun _ _ _ => ?_))
    | (with_reducible apply keeps_setBit)
    | (with_reducible apply keeps_setFld)
    | (with_reducible apply keeps_raise)
    | (with_reducible apply keeps_pairDown)
    | (fail_if_no_progress extract_lets)
    | intro _
    | (with_reducible split)

theorem keeps_mlEnable {q₀ : Bool} {b₀ b : Block} (h₀ : Keeps q₀ b₀ b) :
    Keeps q₀ b₀ (b.mlEnable) := by
  unfold Block.mlEnable
  repeat' first
    | (with_reducible assumption)
    | (with_reducible exact Keeps.refl)
    | (with_reducible apply Keeps.ite)
    | (with_reducible refine Keeps.foldl ?_ (fun _ _ _ => ?_))
    | (with_reducible apply keeps_linkDown)
    | (with_reducible apply keeps_mlBring)
    | (fail_if_no_progress extract_lets)
    | intro _
    | (with_reducible split)

theorem keeps_mlDisable {q₀ : Bool} {b₀ b : Block} (h₀ : Keeps q₀ b₀ b) :
    Keeps q₀ b₀ (b.mlDisable) := by
  unfold Block.mlDisable
  repeat' first
    | (with_reducible assumption)
    | (with_reducible exact Keeps.refl)
    | (with_reducible apply Keeps.ite)
    | (with_reducible refine Keeps.foldl ?_ (fun _ _ _ => ?_))
    | (with_reducible apply keeps_linkDown)
    | (with_reducible apply keeps_modMl)
    | (fail_if_no_progress extract_lets)
    | intro _
    | (with_reducible split)

theorem keeps_execMlLinkEnable {q₀ : Bool} {b₀ : Block} {s t : State} {retrain : Bool} (e₀ : execMlLinkEnable retrain s = .next t)
    (h₀ : Keeps q₀ b₀ s.toBlock) : Keeps q₀ b₀ t.toBlock := by
  unfold execMlLinkEnable at e₀
  refine Keeps.upd e₀ h₀ (fun _ _ => ?_)
  repeat' first
    | (with_reducible assumption)
    | (with_reducible exact Keeps.refl)
    | (with_reducible apply Keeps.ite)
    | (with_reducible refine Keeps.foldl ?_ (fun _ _ _ => ?_))
    | (with_reducible apply keeps_mlEnable)
    | (with_reducible apply keeps_setBit)
    | (fail_if_no_progress extract_lets)
    | intro _
    | (with_reducible split)

theorem keeps_execMlLinkDown {q₀ : Bool} {b₀ : Block} {s t : State} (e₀ : execMlLinkDown s = .next t)
    (h₀ : Keeps q₀ b₀ s.toBlock) : Keeps q₀ b₀ t.toBlock := by
  unfold execMlLinkDown at e₀
  refine Keeps.upd e₀ h₀ (fun _ _ => ?_)
  repeat' first
    | (with_reducible assumption)
    | (with_reducible exact Keeps.refl)
    | (with_reducible apply Keeps.ite)
    | (with_reducible refine Keeps.foldl ?_ (fun _ _ _ => ?_))
    | (with_reducible apply keeps_linkDown)
    | (fail_if_no_progress extract_lets)
    | intro _
    | (with_reducible split)

theorem keeps_execMlFrameDiscard {q₀ : Bool} {b₀ : Block} {s t : State} (e₀ : execMlFrameDiscard s = .next t)
    (h₀ : Keeps q₀ b₀ s.toBlock) : Keeps q₀ b₀ t.toBlock := by
  unfold execMlFrameDiscard at e₀
  refine Keeps.upd e₀ h₀ (fun _ _ => ?_)
  repeat' first
    | (with_reducible assumption)
    | (with_reducible exact Keeps.refl)
    | (with_reducible apply Keeps.ite)
    | (with_reducible refine Keeps.foldl ?_ (fun _ _ _ => ?_))
    | (with_reducible apply keeps_bump)
    | (with_reducible apply keeps_modMl)
    | (with_reducible apply keeps_raise)
    | (with_reducible apply keeps_emit)
    | (fail_if_no_progress extract_lets)
    | intro _
    | (with_reducible split)

theorem keeps_execMlLack {q₀ : Bool} {b₀ : Block} {s t : State} {lseq : BitVec 32} {replay : Bool} (e₀ : execMlLack lseq replay s = .next t)
    (h₀ : Keeps q₀ b₀ s.toBlock) : Keeps q₀ b₀ t.toBlock := by
  unfold execMlLack at e₀
  refine Keeps.upd e₀ h₀ (fun _ _ => ?_)
  repeat' first
    | (with_reducible assumption)
    | (with_reducible exact Keeps.refl)
    | (with_reducible apply Keeps.ite)
    | (with_reducible refine Keeps.foldl ?_ (fun _ _ _ => ?_))
    | (with_reducible apply keeps_onFrame)
    | (with_reducible apply keeps_replay)
    | (with_reducible apply keeps_emit)
    | (fail_if_no_progress extract_lets)
    | intro _
    | (with_reducible split)

theorem keeps_sendCatalogue {q₀ : Bool} {b₀ b : Block} (h₀ : Keeps q₀ b₀ b) :
    Keeps q₀ b₀ (b.sendCatalogue) := by
  unfold Block.sendCatalogue
  repeat' first
    | (with_reducible assumption)
    | (with_reducible exact Keeps.refl)
    | (with_reducible apply Keeps.ite)
    | (with_reducible refine Keeps.foldl ?_ (fun _ _ _ => ?_))
    | (with_reducible apply keeps_melarSend)
    | (fail_if_no_progress extract_lets)
    | intro _
    | (with_reducible split)

theorem keeps_bindEqual {q₀ : Bool} {b₀ b : Block} (h₀ : Keeps q₀ b₀ b) :
    Keeps q₀ b₀ (b.bindEqual) := by
  unfold Block.bindEqual
  repeat' first
    | (with_reducible assumption)
    | (with_reducible exact Keeps.refl)
    | (with_reducible apply Keeps.ite)
    | (with_reducible refine Keeps.foldl ?_ (fun _ _ _ => ?_))
    | (with_reducible apply keeps_modVol)
    | (fail_if_no_progress extract_lets)
    | intro _
    | (with_reducible split)

theorem keeps_applyCat {q₀ : Bool} {b₀ b : Block} (h₀ : Keeps q₀ b₀ b) (t : Nat) (e : List Byte) :
    Keeps q₀ b₀ (b.applyCat t e) := by
  unfold Block.applyCat
  repeat' first
    | (with_reducible assumption)
    | (with_reducible exact Keeps.refl)
    | (with_reducible apply Keeps.ite)
    | (with_reducible refine Keeps.foldl ?_ (fun _ _ _ => ?_))
    | (with_reducible apply keeps_modMl)
    | (with_reducible apply keeps_applyEntry)
    | (with_reducible apply keeps_modClip)
    | (with_reducible apply keeps_modVol)
    | (with_reducible apply keeps_bindEqual)
    | (with_reducible apply keeps_journalEntry)
    | (fail_if_no_progress extract_lets)
    | intro _
    | (with_reducible split)

theorem keeps_takeFrame {q₀ : Bool} {b₀ b : Block} (h₀ : Keeps q₀ b₀ b) (clip : Nat) (old : Nat) (frame : Nat) (fsize : Nat) (gen : Nat) (bytes : List Byte) :
    Keeps q₀ b₀ (b.takeFrame clip old frame fsize gen bytes) := by
  unfold Block.takeFrame
  repeat' first
    | (with_reducible assumption)
    | (with_reducible exact Keeps.refl)
    | (with_reducible apply Keeps.ite)
    | (with_reducible refine Keeps.foldl ?_ (fun _ _ _ => ?_))
    | (with_reducible apply keeps_arriveRaw)
    | (with_reducible apply keeps_modChunks)
    | (with_reducible apply keeps_modVol)
    | (fail_if_no_progress extract_lets)
    | intro _
    | (with_reducible split)

theorem keeps_takeUnit {q₀ : Bool} {b₀ b : Block} (h₀ : Keeps q₀ b₀ b) (u : Nat) (gen : Nat) (ends : Bool × Bool) (bytes : List Byte) :
    Keeps q₀ b₀ (b.takeUnit u gen ends bytes) := by
  unfold Block.takeUnit
  repeat' first
    | (with_reducible assumption)
    | (with_reducible exact Keeps.refl)
    | (with_reducible apply Keeps.ite)
    | (with_reducible refine Keeps.foldl ?_ (fun _ _ _ => ?_))
    | (with_reducible apply keeps_modVol)
    | (with_reducible apply keeps_arriveRaw)
    | (fail_if_no_progress extract_lets)
    | intro _
    | (with_reducible split)

theorem keeps_partnerEject {q₀ : Bool} {b₀ b : Block} (h₀ : Keeps q₀ b₀ b) (m : MirCmd) :
    Keeps q₀ b₀ (b.partnerEject m) := by
  unfold Block.partnerEject
  repeat' first
    | (with_reducible assumption)
    | (with_reducible exact Keeps.refl)
    | (with_reducible apply Keeps.ite)
    | (with_reducible refine Keeps.foldl ?_ (fun _ _ _ => ?_))
    | (with_reducible apply keeps_modHq)
    | (with_reducible apply keeps_ejectBegin)
    | (fail_if_no_progress extract_lets)
    | intro _
    | (with_reducible split)

theorem keeps_mirRun {q₀ : Bool} {b₀ b : Block} (h₀ : Keeps q₀ b₀ b) (m : MirCmd) :
    Keeps q₀ b₀ (b.mirRun m) := by
  unfold Block.mirRun
  repeat' first
    | (with_reducible assumption)
    | (with_reducible exact Keeps.refl)
    | (with_reducible apply Keeps.ite)
    | (with_reducible refine Keeps.foldl ?_ (fun _ _ _ => ?_))
    | (with_reducible apply keeps_takeFrame)
    | (with_reducible apply keeps_takeUnit)
    | (fail_if_no_progress extract_lets)
    | intro _
    | (with_reducible split)

theorem keeps_mirNext {q₀ : Bool} {b₀ b : Block} (h₀ : Keeps q₀ b₀ b) :
    Keeps q₀ b₀ (b.mirNext) := by
  unfold Block.mirNext
  repeat' first
    | (with_reducible assumption)
    | (with_reducible exact Keeps.refl)
    | (with_reducible apply Keeps.ite)
    | (with_reducible refine Keeps.foldl ?_ (fun _ _ _ => ?_))
    | (with_reducible apply keeps_applyCat)
    | (with_reducible apply keeps_modMl)
    | (with_reducible apply keeps_setTxMseq)
    | (with_reducible apply keeps_partnerEject)
    | (with_reducible apply keeps_mirRun)
    | (fail_if_no_progress extract_lets)
    | intro _
    | (with_reducible split)

theorem keeps_mirApply {q₀ : Bool} {b₀ b : Block} (h₀ : Keeps q₀ b₀ b) :
    Keeps q₀ b₀ (b.mirApply) := by
  unfold Block.mirApply
  repeat' first
    | (with_reducible assumption)
    | (with_reducible exact Keeps.refl)
    | (with_reducible apply Keeps.ite)
    | (with_reducible refine Keeps.foldl ?_ (fun _ _ _ => ?_))
    | (with_reducible apply keeps_mirNext)
    | (with_reducible apply keeps_setFld)
    | (with_reducible apply keeps_melarSend)
    | (fail_if_no_progress extract_lets)
    | intro _
    | (with_reducible split)

theorem keeps_execMlCmd {q₀ : Bool} {b₀ : Block} {s t : State} {mseq : BitVec 64} {dws : Vector Word 16} {tag : Fin 4096} {pair : Fin 128} {clip : BitVec 16} {frame : BitVec 32} {stamp : BitVec 64} {dur : BitVec 2} (e₀ : execMlCmd mseq dws tag pair clip frame stamp dur s = .next t)
    (h₀ : Keeps q₀ b₀ s.toBlock) : Keeps q₀ b₀ t.toBlock := by
  unfold execMlCmd at e₀
  refine Keeps.upd e₀ h₀ (fun _ _ => ?_)
  repeat' first
    | (with_reducible assumption)
    | (with_reducible exact Keeps.refl)
    | (with_reducible apply Keeps.ite)
    | (with_reducible refine Keeps.foldl ?_ (fun _ _ _ => ?_))
    | (with_reducible apply keeps_onFrame)
    | (with_reducible apply keeps_modMl)
    | (with_reducible apply keeps_setFld)
    | (with_reducible apply keeps_wr)
    | (with_reducible apply keeps_setBit)
    | (with_reducible apply keeps_mirApply)
    | (fail_if_no_progress extract_lets)
    | intro _
    | (with_reducible split)

theorem keeps_execMlData {q₀ : Bool} {b₀ : Block} {s t : State} {mseq : BitVec 48} {chunk : BitVec 16} {bytes : List Byte} (e₀ : execMlData mseq chunk bytes s = .next t)
    (h₀ : Keeps q₀ b₀ s.toBlock) : Keeps q₀ b₀ t.toBlock := by
  unfold execMlData at e₀
  refine Keeps.upd e₀ h₀ (fun _ _ => ?_)
  repeat' first
    | (with_reducible assumption)
    | (with_reducible exact Keeps.refl)
    | (with_reducible apply Keeps.ite)
    | (with_reducible refine Keeps.foldl ?_ (fun _ _ _ => ?_))
    | (with_reducible apply keeps_onFrame)
    | (with_reducible apply keeps_modMl)
    | (with_reducible apply keeps_setBit)
    | (with_reducible apply keeps_mirApply)
    | (fail_if_no_progress extract_lets)
    | intro _
    | (with_reducible split)

theorem keeps_execMlCat {q₀ : Bool} {b₀ : Block} {s t : State} {mseq : BitVec 64} {rtype : Fin 11} {entry : List Byte} (e₀ : execMlCat mseq rtype entry s = .next t)
    (h₀ : Keeps q₀ b₀ s.toBlock) : Keeps q₀ b₀ t.toBlock := by
  unfold execMlCat at e₀
  refine Keeps.upd e₀ h₀ (fun _ _ => ?_)
  repeat' first
    | (with_reducible assumption)
    | (with_reducible exact Keeps.refl)
    | (with_reducible apply Keeps.ite)
    | (with_reducible refine Keeps.foldl ?_ (fun _ _ _ => ?_))
    | (with_reducible apply keeps_onFrame)
    | (with_reducible apply keeps_applyCat)
    | (with_reducible apply keeps_modMl)
    | (with_reducible apply keeps_mirApply)
    | (fail_if_no_progress extract_lets)
    | intro _
    | (with_reducible split)

theorem keeps_execMlDone {q₀ : Bool} {b₀ : Block} {s t : State} {mseq : BitVec 64} {_status : Word} (e₀ : execMlDone mseq _status s = .next t)
    (h₀ : Keeps q₀ b₀ s.toBlock) : Keeps q₀ b₀ t.toBlock := by
  unfold execMlDone at e₀
  refine Keeps.upd e₀ h₀ (fun _ _ => ?_)
  repeat' first
    | (with_reducible assumption)
    | (with_reducible exact Keeps.refl)
    | (with_reducible apply Keeps.ite)
    | (with_reducible refine Keeps.foldl ?_ (fun _ _ _ => ?_))
    | (with_reducible apply keeps_onFrame)
    | (with_reducible apply keeps_setBit)
    | (with_reducible apply keeps_modMl)
    | (with_reducible apply keeps_mirApply)
    | (fail_if_no_progress extract_lets)
    | intro _
    | (with_reducible split)

theorem keeps_execMlRpt {q₀ : Bool} {b₀ : Block} {s t : State} {mseq : BitVec 64} (e₀ : execMlRpt mseq s = .next t)
    (h₀ : Keeps q₀ b₀ s.toBlock) : Keeps q₀ b₀ t.toBlock := by
  unfold execMlRpt at e₀
  refine Keeps.upd e₀ h₀ (fun _ _ => ?_)
  repeat' first
    | (with_reducible assumption)
    | (with_reducible exact Keeps.refl)
    | (with_reducible apply Keeps.ite)
    | (with_reducible refine Keeps.foldl ?_ (fun _ _ _ => ?_))
    | (with_reducible apply keeps_onFrame)
    | (with_reducible apply keeps_setFld)
    | (with_reducible apply keeps_modMl)
    | (with_reducible apply keeps_setLag)
    | (fail_if_no_progress extract_lets)
    | intro _
    | (with_reducible split)

theorem keeps_execReportTimeout {q₀ : Bool} {b₀ : Block} {s t : State} (e₀ : execReportTimeout s = .next t)
    (h₀ : Keeps q₀ b₀ s.toBlock) : Keeps q₀ b₀ t.toBlock := by
  unfold execReportTimeout at e₀
  refine Keeps.upd e₀ h₀ (fun _ _ => ?_)
  repeat' first
    | (with_reducible assumption)
    | (with_reducible exact Keeps.refl)
    | (with_reducible apply Keeps.ite)
    | (with_reducible refine Keeps.foldl ?_ (fun _ _ _ => ?_))
    | (with_reducible apply keeps_raise)
    | (with_reducible apply keeps_degrade)
    | (fail_if_no_progress extract_lets)
    | intro _
    | (with_reducible split)

theorem keeps_hbLost {q₀ : Bool} {b₀ b : Block} (h₀ : Keeps q₀ b₀ b) :
    Keeps q₀ b₀ (b.hbLost) := by
  unfold Block.hbLost
  repeat' first
    | (with_reducible assumption)
    | (with_reducible exact Keeps.refl)
    | (with_reducible apply Keeps.ite)
    | (with_reducible refine Keeps.foldl ?_ (fun _ _ _ => ?_))
    | (with_reducible apply keeps_setBit)
    | (with_reducible apply keeps_raise)
    | (with_reducible apply keeps_mlTimers)
    | (fail_if_no_progress extract_lets)
    | intro _
    | (with_reducible split)

theorem keeps_execHeartbeatLost {q₀ : Bool} {b₀ : Block} {s t : State} (e₀ : execHeartbeatLost s = .next t)
    (h₀ : Keeps q₀ b₀ s.toBlock) : Keeps q₀ b₀ t.toBlock := by
  unfold execHeartbeatLost at e₀
  refine Keeps.upd e₀ h₀ (fun _ _ => ?_)
  repeat' first
    | (with_reducible assumption)
    | (with_reducible exact Keeps.refl)
    | (with_reducible apply Keeps.ite)
    | (with_reducible refine Keeps.foldl ?_ (fun _ _ _ => ?_))
    | (with_reducible apply keeps_hbLost)
    | (fail_if_no_progress extract_lets)
    | intro _
    | (with_reducible split)

theorem keeps_execHeartbeatRegained {q₀ : Bool} {b₀ : Block} {s t : State} (e₀ : execHeartbeatRegained s = .next t)
    (h₀ : Keeps q₀ b₀ s.toBlock) : Keeps q₀ b₀ t.toBlock := by
  unfold execHeartbeatRegained at e₀
  refine Keeps.upd e₀ h₀ (fun _ _ => ?_)
  repeat' first
    | (with_reducible assumption)
    | (with_reducible exact Keeps.refl)
    | (with_reducible apply Keeps.ite)
    | (with_reducible refine Keeps.foldl ?_ (fun _ _ _ => ?_))
    | (with_reducible apply keeps_setBit)
    | (with_reducible apply keeps_raise)
    | (with_reducible apply keeps_mlTimers)
    | (fail_if_no_progress extract_lets)
    | intro _
    | (with_reducible split)

theorem keeps_execPeerRoleChange {q₀ : Bool} {b₀ : Block} {s t : State} {level : Bool} (e₀ : execPeerRoleChange level s = .next t)
    (h₀ : Keeps q₀ b₀ s.toBlock) : Keeps q₀ b₀ t.toBlock := by
  unfold execPeerRoleChange at e₀
  refine Keeps.upd e₀ h₀ (fun _ _ => ?_)
  repeat' first
    | (with_reducible assumption)
    | (with_reducible exact Keeps.refl)
    | (with_reducible apply Keeps.ite)
    | (with_reducible refine Keeps.foldl ?_ (fun _ _ _ => ?_))
    | (with_reducible apply keeps_setBit)
    | (with_reducible apply keeps_mlTimers)
    | (fail_if_no_progress extract_lets)
    | intro _
    | (with_reducible split)

theorem keeps_execMlLeave {q₀ : Bool} {b₀ : Block} {s t : State} {cause : Fin 3} (e₀ : execMlLeave cause s = .next t)
    (h₀ : Keeps q₀ b₀ s.toBlock) : Keeps q₀ b₀ t.toBlock := by
  unfold execMlLeave at e₀
  refine Keeps.upd e₀ h₀ (fun _ _ => ?_)
  repeat' first
    | (with_reducible assumption)
    | (with_reducible exact Keeps.refl)
    | (with_reducible apply Keeps.ite)
    | (with_reducible refine Keeps.foldl ?_ (fun _ _ _ => ?_))
    | (with_reducible apply keeps_setPair)
    | (with_reducible apply keeps_hbLost)
    | (with_reducible apply keeps_linkDown)
    | (fail_if_no_progress extract_lets)
    | intro _
    | (with_reducible split)

theorem keeps_takeover {q₀ : Bool} {b₀ b : Block} (h₀ : Keeps q₀ b₀ b) :
    Keeps q₀ b₀ (b.takeover) := by
  unfold Block.takeover
  repeat' first
    | (with_reducible assumption)
    | (with_reducible exact Keeps.refl)
    | (with_reducible apply Keeps.ite)
    | (with_reducible refine Keeps.foldl ?_ (fun _ _ _ => ?_))
    | (with_reducible apply keeps_setFld)
    | (with_reducible apply keeps_setPair)
    | (with_reducible apply keeps_mirRun)
    | (with_reducible apply keeps_modVol)
    | (with_reducible apply keeps_skipFrames)
    | (with_reducible apply keeps_modMl)
    | (with_reducible apply keeps_raise)
    | (with_reducible apply keeps_async)
    | (fail_if_no_progress extract_lets)
    | intro _
    | (with_reducible split)

theorem keeps_execTakeoverDelay {q₀ : Bool} {b₀ : Block} {s t : State} (e₀ : execTakeoverDelay s = .next t)
    (h₀ : Keeps q₀ b₀ s.toBlock) : Keeps q₀ b₀ t.toBlock := by
  unfold execTakeoverDelay at e₀
  refine Keeps.upd e₀ h₀ (fun _ _ => ?_)
  repeat' first
    | (with_reducible assumption)
    | (with_reducible exact Keeps.refl)
    | (with_reducible apply Keeps.ite)
    | (with_reducible refine Keeps.foldl ?_ (fun _ _ _ => ?_))
    | (with_reducible apply keeps_takeover)
    | (fail_if_no_progress extract_lets)
    | intro _
    | (with_reducible split)

theorem keeps_onAction {q₀ : Bool} {b₀ b : Block} (h₀ : Keeps q₀ b₀ b) (tag : Nat) (action : Nat) (f : Block → Cmd → Block) (hf : ∀ c x0, Keeps q₀ b₀ c → Keeps q₀ b₀ (f c x0)) :
    Keeps q₀ b₀ (b.onAction tag action f) := by
  unfold Block.onAction
  repeat' first
    | (with_reducible assumption)
    | (with_reducible exact Keeps.refl)
    | (with_reducible apply Keeps.ite)
    | (with_reducible refine Keeps.foldl ?_ (fun _ _ _ => ?_))
    | (with_reducible apply hf)
    | (with_reducible apply keeps_actOn)
    | (fail_if_no_progress extract_lets)
    | intro _
    | (with_reducible split)

theorem keeps_execMirrorStatus {q₀ : Bool} {b₀ : Block} {s t : State} {tag : Nat} (e₀ : execMirrorStatus tag s = .next t)
    (h₀ : Keeps q₀ b₀ s.toBlock) : Keeps q₀ b₀ t.toBlock := by
  unfold execMirrorStatus at e₀
  refine Keeps.upd e₀ h₀ (fun _ _ => ?_)
  repeat' first
    | (with_reducible assumption)
    | (with_reducible exact Keeps.refl)
    | (with_reducible apply Keeps.ite)
    | (with_reducible refine Keeps.foldl ?_ (fun _ _ _ => ?_))
    | (with_reducible apply keeps_onAction)
    | (with_reducible apply keeps_succeed)
    | (fail_if_no_progress extract_lets)
    | intro _
    | (with_reducible split)

theorem keeps_execMirrorMode {q₀ : Bool} {b₀ : Block} {s t : State} {tag : Nat} (e₀ : execMirrorMode tag s = .next t)
    (h₀ : Keeps q₀ b₀ s.toBlock) : Keeps q₀ b₀ t.toBlock := by
  unfold execMirrorMode at e₀
  refine Keeps.upd e₀ h₀ (fun _ _ => ?_)
  repeat' first
    | (with_reducible assumption)
    | (with_reducible exact Keeps.refl)
    | (with_reducible apply Keeps.ite)
    | (with_reducible refine Keeps.foldl ?_ (fun _ _ _ => ?_))
    | (with_reducible apply keeps_onAction)
    | (with_reducible apply keeps_setBit)
    | (with_reducible apply keeps_succeed)
    | (fail_if_no_progress extract_lets)
    | intro _
    | (with_reducible split)

theorem keeps_execTakeover {q₀ : Bool} {b₀ : Block} {s t : State} {tag : Nat} (e₀ : execTakeover tag s = .next t)
    (h₀ : Keeps q₀ b₀ s.toBlock) : Keeps q₀ b₀ t.toBlock := by
  unfold execTakeover at e₀
  refine Keeps.upd e₀ h₀ (fun _ _ => ?_)
  repeat' first
    | (with_reducible assumption)
    | (with_reducible exact Keeps.refl)
    | (with_reducible apply Keeps.ite)
    | (with_reducible refine Keeps.foldl ?_ (fun _ _ _ => ?_))
    | (with_reducible apply keeps_onAction)
    | (with_reducible apply keeps_takeover)
    | (with_reducible apply keeps_succeed)
    | (with_reducible apply keeps_failWith)
    | (fail_if_no_progress extract_lets)
    | intro _
    | (with_reducible split)

theorem keeps_newEpoch {q₀ : Bool} {b₀ b : Block} (h₀ : Keeps q₀ b₀ b) (epoch : Nat) (st : Nat) (partner : Bool) :
    Keeps q₀ b₀ (b.newEpoch epoch st partner) := by
  unfold Block.newEpoch
  repeat' first
    | (with_reducible assumption)
    | (with_reducible exact Keeps.refl)
    | (with_reducible apply Keeps.ite)
    | (with_reducible refine Keeps.foldl ?_ (fun _ _ _ => ?_))
    | (with_reducible apply keeps_setFld)
    | (with_reducible apply keeps_setTxMseq)
    | (with_reducible apply keeps_modMl)
    | (with_reducible apply keeps_setPair)
    | (fail_if_no_progress extract_lets)
    | intro _
    | (with_reducible split)

theorem keeps_sendHello {q₀ : Bool} {b₀ b : Block} (h₀ : Keeps q₀ b₀ b) :
    Keeps q₀ b₀ (b.sendHello) := by
  unfold Block.sendHello
  repeat' first
    | (with_reducible assumption)
    | (with_reducible exact Keeps.refl)
    | (with_reducible apply Keeps.ite)
    | (with_reducible refine Keeps.foldl ?_ (fun _ _ _ => ?_))
    | (with_reducible apply keeps_melarSend)
    | (fail_if_no_progress extract_lets)
    | intro _
    | (with_reducible split)

theorem keeps_execPair {q₀ : Bool} {b₀ : Block} {s t : State} {tag : Nat} {peer : PeerPair} (e₀ : execPair tag peer s = .next t)
    (h₀ : Keeps q₀ b₀ s.toBlock) : Keeps q₀ b₀ t.toBlock := by
  unfold execPair at e₀
  refine Keeps.upd e₀ h₀ (fun _ _ => ?_)
  repeat' first
    | (with_reducible assumption)
    | (with_reducible exact Keeps.refl)
    | (with_reducible apply Keeps.ite)
    | (with_reducible refine Keeps.foldl ?_ (fun _ _ _ => ?_))
    | (with_reducible apply keeps_onAction)
    | (with_reducible apply keeps_failWith)
    | (with_reducible apply keeps_setPair)
    | (with_reducible apply keeps_toStep)
    | (with_reducible apply keeps_modMl)
    | (with_reducible apply keeps_newEpoch)
    | (with_reducible apply keeps_sendHello)
    | (with_reducible apply keeps_sendCatalogue)
    | (with_reducible apply keeps_succeed)
    | (fail_if_no_progress extract_lets)
    | intro _
    | (with_reducible split)

theorem keeps_execUnpair {q₀ : Bool} {b₀ : Block} {s t : State} {tag : Nat} (e₀ : execUnpair tag s = .next t)
    (h₀ : Keeps q₀ b₀ s.toBlock) : Keeps q₀ b₀ t.toBlock := by
  unfold execUnpair at e₀
  refine Keeps.upd e₀ h₀ (fun _ _ => ?_)
  repeat' first
    | (with_reducible assumption)
    | (with_reducible exact Keeps.refl)
    | (with_reducible apply Keeps.ite)
    | (with_reducible refine Keeps.foldl ?_ (fun _ _ _ => ?_))
    | (with_reducible apply keeps_onAction)
    | (with_reducible apply keeps_failWith)
    | (with_reducible apply keeps_melarSend)
    | (with_reducible apply keeps_modMl)
    | (with_reducible apply keeps_setPair)
    | (with_reducible apply keeps_succeed)
    | (fail_if_no_progress extract_lets)
    | intro _
    | (with_reducible split)

theorem keeps_rejoin {q₀ : Bool} {b₀ b : Block} (h₀ : Keeps q₀ b₀ b) (earlier : Bool) :
    Keeps q₀ b₀ (b.rejoin earlier) := by
  unfold Block.rejoin
  repeat' first
    | (with_reducible assumption)
    | (with_reducible exact Keeps.refl)
    | (with_reducible apply Keeps.ite)
    | (with_reducible refine Keeps.foldl ?_ (fun _ _ _ => ?_))
    | (with_reducible apply keeps_newEpoch)
    | (with_reducible apply keeps_sendHello)
    | (with_reducible apply keeps_sendCatalogue)
    | (fail_if_no_progress extract_lets)
    | intro _
    | (with_reducible split)

theorem keeps_execRejoin {q₀ : Bool} {b₀ : Block} {s t : State} {tag : Nat} {earlier : Bool} (e₀ : execRejoin tag earlier s = .next t)
    (h₀ : Keeps q₀ b₀ s.toBlock) : Keeps q₀ b₀ t.toBlock := by
  unfold execRejoin at e₀
  refine Keeps.upd e₀ h₀ (fun _ _ => ?_)
  repeat' first
    | (with_reducible assumption)
    | (with_reducible exact Keeps.refl)
    | (with_reducible apply Keeps.ite)
    | (with_reducible refine Keeps.foldl ?_ (fun _ _ _ => ?_))
    | (with_reducible apply keeps_onAction)
    | (with_reducible apply keeps_failWith)
    | (with_reducible apply keeps_rejoin)
    | (with_reducible apply keeps_succeed)
    | (fail_if_no_progress extract_lets)
    | intro _
    | (with_reducible split)

theorem keeps_execAutoRejoin {q₀ : Bool} {b₀ : Block} {s t : State} {earlier : Bool} (e₀ : execAutoRejoin earlier s = .next t)
    (h₀ : Keeps q₀ b₀ s.toBlock) : Keeps q₀ b₀ t.toBlock := by
  unfold execAutoRejoin at e₀
  refine Keeps.upd e₀ h₀ (fun _ _ => ?_)
  repeat' first
    | (with_reducible assumption)
    | (with_reducible exact Keeps.refl)
    | (with_reducible apply Keeps.ite)
    | (with_reducible refine Keeps.foldl ?_ (fun _ _ _ => ?_))
    | (with_reducible apply keeps_rejoin)
    | (fail_if_no_progress extract_lets)
    | intro _
    | (with_reducible split)

theorem keeps_conflict {q₀ : Bool} {b₀ b : Block} (h₀ : Keeps q₀ b₀ b) (h : PeerHello) (earlier : Bool) :
    Keeps q₀ b₀ (b.conflict h earlier) := by
  unfold Block.conflict
  repeat' first
    | (with_reducible assumption)
    | (with_reducible exact Keeps.refl)
    | (with_reducible apply Keeps.ite)
    | (with_reducible refine Keeps.foldl ?_ (fun _ _ _ => ?_))
    | (with_reducible apply keeps_setBit)
    | (with_reducible apply keeps_raise)
    | (with_reducible apply keeps_setPair)
    | (fail_if_no_progress extract_lets)
    | intro _
    | (with_reducible split)

theorem keeps_joinPeer {q₀ : Bool} {b₀ b : Block} (h₀ : Keeps q₀ b₀ b) (h : PeerHello) :
    Keeps q₀ b₀ (b.joinPeer h) := by
  unfold Block.joinPeer
  repeat' first
    | (with_reducible assumption)
    | (with_reducible exact Keeps.refl)
    | (with_reducible apply Keeps.ite)
    | (with_reducible refine Keeps.foldl ?_ (fun _ _ _ => ?_))
    | (with_reducible apply keeps_modMl)
    | (with_reducible apply keeps_newEpoch)
    | (with_reducible apply keeps_sendCatalogue)
    | (fail_if_no_progress extract_lets)
    | intro _
    | (with_reducible split)

theorem keeps_execMlHello {q₀ : Bool} {b₀ : Block} {s t : State} {h : PeerHello} {earlier : Bool} (e₀ : execMlHello h earlier s = .next t)
    (h₀ : Keeps q₀ b₀ s.toBlock) : Keeps q₀ b₀ t.toBlock := by
  unfold execMlHello at e₀
  refine Keeps.upd e₀ h₀ (fun _ _ => ?_)
  repeat' first
    | (with_reducible assumption)
    | (with_reducible exact Keeps.refl)
    | (with_reducible apply Keeps.ite)
    | (with_reducible refine Keeps.foldl ?_ (fun _ _ _ => ?_))
    | (with_reducible apply keeps_setBit)
    | (with_reducible apply keeps_setFld)
    | (with_reducible apply keeps_modMl)
    | (with_reducible apply keeps_raise)
    | (with_reducible apply keeps_mlTimers)
    | (with_reducible apply keeps_conflict)
    | (with_reducible apply keeps_joinPeer)
    | (fail_if_no_progress extract_lets)
    | intro _
    | (with_reducible split)

theorem keeps_resyncProg {q₀ : Bool} {b₀ b : Block} (h₀ : Keeps q₀ b₀ b) (n : Nat) :
    Keeps q₀ b₀ (b.resyncProg n) := by
  unfold Block.resyncProg
  repeat' first
    | (with_reducible assumption)
    | (with_reducible exact Keeps.refl)
    | (with_reducible apply Keeps.ite)
    | (with_reducible refine Keeps.foldl ?_ (fun _ _ _ => ?_))
    | (with_reducible apply keeps_modMl)
    | (with_reducible apply keeps_setFld)
    | (fail_if_no_progress extract_lets)
    | intro _
    | (with_reducible split)

theorem keeps_takeOld {q₀ : Bool} {b₀ b : Block} (h₀ : Keeps q₀ b₀ b) (clip : Nat) (unit : Nat) (bytes : List Byte) :
    Keeps q₀ b₀ (b.takeOld clip unit bytes) := by
  unfold Block.takeOld
  repeat' first
    | (with_reducible assumption)
    | (with_reducible exact Keeps.refl)
    | (with_reducible apply Keeps.ite)
    | (with_reducible refine Keeps.foldl ?_ (fun _ _ _ => ?_))
    | (with_reducible apply keeps_takeUnit)
    | (with_reducible apply keeps_takeFrame)
    | (fail_if_no_progress extract_lets)
    | intro _
    | (with_reducible split)

theorem keeps_execMlRsync {q₀ : Bool} {b₀ : Block} {s t : State} {out : Bool} {clip : BitVec 16} {unit : BitVec 32} {bytes : List Byte} (e₀ : execMlRsync out clip unit bytes s = .next t)
    (h₀ : Keeps q₀ b₀ s.toBlock) : Keeps q₀ b₀ t.toBlock := by
  unfold execMlRsync at e₀
  refine Keeps.upd e₀ h₀ (fun _ _ => ?_)
  repeat' first
    | (with_reducible assumption)
    | (with_reducible exact Keeps.refl)
    | (with_reducible apply Keeps.ite)
    | (with_reducible refine Keeps.foldl ?_ (fun _ _ _ => ?_))
    | (with_reducible apply keeps_melarSend)
    | (with_reducible apply keeps_resyncProg)
    | (with_reducible apply keeps_onFrame)
    | (with_reducible apply keeps_modMl)
    | (with_reducible apply keeps_takeOld)
    | (fail_if_no_progress extract_lets)
    | intro _
    | (with_reducible split)

theorem keeps_execResyncComplete {q₀ : Bool} {b₀ : Block} {s t : State} (e₀ : execResyncComplete s = .next t)
    (h₀ : Keeps q₀ b₀ s.toBlock) : Keeps q₀ b₀ t.toBlock := by
  unfold execResyncComplete at e₀
  refine Keeps.upd e₀ h₀ (fun _ _ => ?_)
  repeat' first
    | (with_reducible assumption)
    | (with_reducible exact Keeps.refl)
    | (with_reducible apply Keeps.ite)
    | (with_reducible refine Keeps.foldl ?_ (fun _ _ _ => ?_))
    | (with_reducible apply keeps_setFld)
    | (with_reducible apply keeps_setPair)
    | (with_reducible apply keeps_raise)
    | (with_reducible apply keeps_async)
    | (fail_if_no_progress extract_lets)
    | intro _
    | (with_reducible split)

theorem keeps_execMlIrq {q₀ : Bool} {b₀ : Block} {s t : State} {n : BitVec 11} (e₀ : execMlIrq n s = .next t)
    (h₀ : Keeps q₀ b₀ s.toBlock) : Keeps q₀ b₀ t.toBlock := by
  unfold execMlIrq at e₀
  refine Keeps.upd e₀ h₀ (fun _ _ => ?_)
  repeat' first
    | (with_reducible assumption)
    | (with_reducible exact Keeps.refl)
    | (with_reducible apply Keeps.ite)
    | (with_reducible refine Keeps.foldl ?_ (fun _ _ _ => ?_))
    | (with_reducible apply keeps_onFrame)
    | (with_reducible refine keeps_modIrq ?_ _ (Irq.wf_eq _ _ _ rfl))
    | (with_reducible refine keeps_modIrq ?_ _ (Irq.wf_filter _ _ _ _ rfl))
    | (with_reducible apply keeps_raise)
    | (fail_if_no_progress extract_lets)
    | intro _
    | (with_reducible split)

theorem keeps_tunBit {q₀ : Bool} {b₀ b : Block} (h₀ : Keeps q₀ b₀ b) (m : Fin 7) (f : Fld) (v : Nat) :
    Keeps q₀ b₀ (b.tunBit m f v) := by
  unfold Block.tunBit
  repeat' first
    | (with_reducible assumption)
    | (with_reducible exact Keeps.refl)
    | (with_reducible apply Keeps.ite)
    | (with_reducible refine Keeps.foldl ?_ (fun _ _ _ => ?_))
    | (with_reducible apply keeps_setTunCtl)
    | (fail_if_no_progress extract_lets)
    | intro _
    | (with_reducible split)

theorem keeps_tunFail {q₀ : Bool} {b₀ b : Block} (h₀ : Keeps q₀ b₀ b) (m : Fin 7) :
    Keeps q₀ b₀ (b.tunFail m) := by
  unfold Block.tunFail
  repeat' first
    | (with_reducible assumption)
    | (with_reducible exact Keeps.refl)
    | (with_reducible apply Keeps.ite)
    | (with_reducible refine Keeps.foldl ?_ (fun _ _ _ => ?_))
    | (with_reducible apply keeps_tunBit)
    | (with_reducible apply keeps_raise)
    | (fail_if_no_progress extract_lets)
    | intro _
    | (with_reducible split)

theorem keeps_tunnelGo {q₀ : Bool} {b₀ b : Block} (h₀ : Keeps q₀ b₀ b) (m : Fin 7) (addr : Nat) (write : Bool) :
    Keeps q₀ b₀ (b.tunnelGo m addr write) := by
  unfold Block.tunnelGo
  repeat' first
    | (with_reducible assumption)
    | (with_reducible exact Keeps.refl)
    | (with_reducible apply Keeps.ite)
    | (with_reducible refine Keeps.foldl ?_ (fun _ _ _ => ?_))
    | (with_reducible apply keeps_tunBit)
    | (with_reducible apply keeps_tunFail)
    | (with_reducible apply keeps_modMl)
    | (with_reducible apply keeps_melarSend)
    | (fail_if_no_progress extract_lets)
    | intro _
    | (with_reducible split)

theorem keeps_execTunnelAccess {q₀ : Bool} {b₀ : Block} {s t : State} {m : Master} {addr : BitVec 22} {write : Bool} (e₀ : execTunnelAccess m addr write s = .next t)
    (h₀ : Keeps q₀ b₀ s.toBlock) : Keeps q₀ b₀ t.toBlock := by
  unfold execTunnelAccess at e₀
  refine Keeps.upd e₀ h₀ (fun _ _ => ?_)
  repeat' first
    | (with_reducible assumption)
    | (with_reducible exact Keeps.refl)
    | (with_reducible apply Keeps.ite)
    | (with_reducible refine Keeps.foldl ?_ (fun _ _ _ => ?_))
    | (with_reducible apply keeps_tunnelGo)
    | (fail_if_no_progress extract_lets)
    | intro _
    | (with_reducible split)

theorem keeps_tunEnd {q₀ : Bool} {b₀ b : Block} (h₀ : Keeps q₀ b₀ b) (m : Fin 7) :
    Keeps q₀ b₀ (b.tunEnd m) := by
  unfold Block.tunEnd
  repeat' first
    | (with_reducible assumption)
    | (with_reducible exact Keeps.refl)
    | (with_reducible apply Keeps.ite)
    | (with_reducible refine Keeps.foldl ?_ (fun _ _ _ => ?_))
    | (with_reducible apply keeps_tunBit)
    | (with_reducible apply keeps_modMl)
    | (fail_if_no_progress extract_lets)
    | intro _
    | (with_reducible split)

theorem keeps_execMlTunRsp {q₀ : Bool} {b₀ : Block} {s t : State} {addr : BitVec 22} {write : Bool} {data : Word} (e₀ : execMlTunRsp addr write data s = .next t)
    (h₀ : Keeps q₀ b₀ s.toBlock) : Keeps q₀ b₀ t.toBlock := by
  unfold execMlTunRsp at e₀
  refine Keeps.upd e₀ h₀ (fun _ _ => ?_)
  repeat' first
    | (with_reducible assumption)
    | (with_reducible exact Keeps.refl)
    | (with_reducible apply Keeps.ite)
    | (with_reducible refine Keeps.foldl ?_ (fun _ _ _ => ?_))
    | (with_reducible apply keeps_onFrame)
    | (with_reducible apply keeps_tunEnd)
    | (with_reducible apply keeps_setTunData)
    | (fail_if_no_progress extract_lets)
    | intro _
    | (with_reducible split)

theorem keeps_execTunnelTimeout {q₀ : Bool} {b₀ : Block} {s t : State} {m : Master} (e₀ : execTunnelTimeout m s = .next t)
    (h₀ : Keeps q₀ b₀ s.toBlock) : Keeps q₀ b₀ t.toBlock := by
  unfold execTunnelTimeout at e₀
  refine Keeps.upd e₀ h₀ (fun _ _ => ?_)
  repeat' first
    | (with_reducible assumption)
    | (with_reducible exact Keeps.refl)
    | (with_reducible apply Keeps.ite)
    | (with_reducible refine Keeps.foldl ?_ (fun _ _ _ => ?_))
    | (with_reducible apply keeps_tunEnd)
    | (with_reducible apply keeps_tunFail)
    | (fail_if_no_progress extract_lets)
    | intro _
    | (with_reducible split)

/-! ### Machine/Power.lean -/

theorem keeps_stopDisc {q₀ : Bool} {b₀ b : Block} (h₀ : Keeps q₀ b₀ b) (n : Nat) :
    Keeps q₀ b₀ (b.stopDisc n) := by
  unfold Block.stopDisc
  repeat' first
    | (with_reducible assumption)
    | (with_reducible exact Keeps.refl)
    | (with_reducible apply Keeps.ite)
    | (with_reducible refine Keeps.foldl ?_ (fun _ _ _ => ?_))
    | (with_reducible apply keeps_onSurf)
    | (with_reducible apply keeps_modWp)
    | (with_reducible apply keeps_cancelPlan)
    | (with_reducible apply keeps_modPw)
    | (fail_if_no_progress extract_lets)
    | intro _
    | (with_reducible split)

theorem keeps_discMoves {q₀ : Bool} {b₀ b : Block} (h₀ : Keeps q₀ b₀ b) :
    Keeps q₀ b₀ (b.discMoves) := by
  unfold Block.discMoves
  repeat' first
    | (with_reducible assumption)
    | (with_reducible exact Keeps.refl)
    | (with_reducible apply Keeps.ite)
    | (with_reducible refine Keeps.foldl ?_ (fun _ _ _ => ?_))
    | (with_reducible apply keeps_modPw)
    | (with_reducible apply keeps_spRetarget)
    | (fail_if_no_progress extract_lets)
    | intro _
    | (with_reducible split)

theorem keeps_discChange {q₀ : Bool} {b₀ b : Block} (h₀ : Keeps q₀ b₀ b) (n : Nat) :
    Keeps q₀ b₀ (b.discChange n) := by
  unfold Block.discChange
  repeat' first
    | (with_reducible assumption)
    | (with_reducible exact Keeps.refl)
    | (with_reducible apply Keeps.ite)
    | (with_reducible refine Keeps.foldl ?_ (fun _ _ _ => ?_))
    | (with_reducible apply keeps_stopDisc)
    | (with_reducible apply keeps_spRcap)
    | (with_reducible apply keeps_modPw)
    | (with_reducible apply keeps_discMoves)
    | (fail_if_no_progress extract_lets)
    | intro _
    | (with_reducible split)

theorem keeps_discSteps {q₀ : Bool} {b₀ b : Block} (h₀ : Keeps q₀ b₀ b) :
    Keeps q₀ b₀ (b.discSteps) := by
  unfold Block.discSteps
  repeat' first
    | (with_reducible assumption)
    | (with_reducible exact Keeps.refl)
    | (with_reducible apply Keeps.ite)
    | (with_reducible refine Keeps.foldl ?_ (fun _ _ _ => ?_))
    | (with_reducible apply keeps_discMoves)
    | (with_reducible apply keeps_modPw)
    | (with_reducible apply keeps_discChange)
    | (fail_if_no_progress extract_lets)
    | intro _
    | (with_reducible split)

theorem keeps_execReducedModeEntry {q₀ : Bool} {b₀ : Block} {s t : State} (e₀ : execReducedModeEntry s = .next t)
    (h₀ : Keeps q₀ b₀ s.toBlock) : Keeps q₀ b₀ t.toBlock := by
  unfold execReducedModeEntry at e₀
  refine Keeps.upd e₀ h₀ (fun _ _ => ?_)
  repeat' first
    | (with_reducible assumption)
    | (with_reducible exact Keeps.refl)
    | (with_reducible apply Keeps.ite)
    | (with_reducible refine Keeps.foldl ?_ (fun _ _ _ => ?_))
    | (with_reducible apply keeps_setFld)
    | (with_reducible apply keeps_modPw)
    | (with_reducible apply keeps_raise)
    | (with_reducible apply keeps_async)
    | (with_reducible apply keeps_discChange)
    | (with_reducible apply keeps_spRcap)
    | (fail_if_no_progress extract_lets)
    | intro _
    | (with_reducible split)

theorem keeps_execReducedModeExit {q₀ : Bool} {b₀ : Block} {s t : State} (e₀ : execReducedModeExit s = .next t)
    (h₀ : Keeps q₀ b₀ s.toBlock) : Keeps q₀ b₀ t.toBlock := by
  unfold execReducedModeExit at e₀
  refine Keeps.upd e₀ h₀ (fun _ _ => ?_)
  repeat' first
    | (with_reducible assumption)
    | (with_reducible exact Keeps.refl)
    | (with_reducible apply Keeps.ite)
    | (with_reducible refine Keeps.foldl ?_ (fun _ _ _ => ?_))
    | (with_reducible apply keeps_setFld)
    | (with_reducible apply keeps_modPw)
    | (with_reducible apply keeps_raise)
    | (with_reducible apply keeps_spRcap)
    | (with_reducible apply keeps_async)
    | (with_reducible apply keeps_discChange)
    | (fail_if_no_progress extract_lets)
    | intro _
    | (with_reducible split)

theorem keeps_outputsOff {q₀ : Bool} {b₀ b : Block} (h₀ : Keeps q₀ b₀ b) :
    Keeps q₀ b₀ (b.outputsOff) := by
  unfold Block.outputsOff
  repeat' first
    | (with_reducible assumption)
    | (with_reducible exact Keeps.refl)
    | (with_reducible apply Keeps.ite)
    | (with_reducible refine Keeps.foldl ?_ (fun _ _ _ => ?_))
    | (with_reducible apply keeps_onSurf)
    | (with_reducible apply keeps_setFld)
    | (with_reducible apply keeps_sendPower)
    | (with_reducible apply keeps_cutPass)
    | (with_reducible apply keeps_cancelPlan)
    | (with_reducible apply keeps_calAbandon)
    | (with_reducible apply keeps_onSpin)
    | (with_reducible apply keeps_spClear)
    | (with_reducible apply keeps_spGo)
    | (with_reducible apply keeps_onAxis)
    | (with_reducible apply keeps_modAxis)
    | (fail_if_no_progress extract_lets)
    | intro _
    | (with_reducible split)

theorem keeps_powerCut {q₀ : Bool} {b₀ b : Block} (h₀ : Keeps q₀ b₀ b) :
    Keeps q₀ b₀ (b.powerCut) := by
  unfold Block.powerCut
  repeat' first
    | (with_reducible assumption)
    | (with_reducible exact Keeps.refl)
    | (with_reducible apply Keeps.ite)
    | (with_reducible refine Keeps.foldl ?_ (fun _ _ _ => ?_))
    | (with_reducible apply keeps_outputsOff)
    | (with_reducible apply keeps_modHq)
    | (with_reducible apply keeps_melarSend)
    | (with_reducible apply keeps_emit)
    | (with_reducible apply keeps_modMl)
    | (with_reducible apply keeps_setFld)
    | (with_reducible apply keeps_modPt)
    | (with_reducible apply keeps_ptEnd)
    | (fail_if_no_progress extract_lets)
    | intro _
    | (with_reducible split)

theorem keeps_resetUnits {b₀ b : Block} (h₀ : Keeps false b₀ b) (cause : Nat) :
    Keeps false b₀ (b.resetUnits cause) := by
  refine ⟨h₀.part, fun h => (by cases h), fun _ => ?_, fun _ => rfl, fun _ => rfl⟩
  unfold Block.regsWf Block.resetUnits
  dsimp only
  split
  · cases b.part <;> decide +kernel
  · rfl

theorem keeps_moduleReset {b₀ b : Block} (h₀ : Keeps false b₀ b) (cause : Nat) :
    Keeps false b₀ (b.moduleReset cause) := by
  unfold Block.moduleReset
  repeat' first
    | (with_reducible assumption)
    | (with_reducible exact Keeps.refl)
    | (with_reducible apply Keeps.ite)
    | (with_reducible refine Keeps.foldl ?_ (fun _ _ _ => ?_))
    | (with_reducible apply keeps_cutPass)
    | (with_reducible apply keeps_cancelPlan)
    | (with_reducible apply keeps_modStore)
    | (with_reducible apply keeps_settle)
    | (with_reducible apply keeps_unload)
    | (with_reducible apply keeps_resetUnits)
    | (with_reducible apply keeps_wr)
    | (with_reducible apply keeps_putBit)
    | (with_reducible apply keeps_setFld)
    | (fail_if_no_progress extract_lets)
    | intro _
    | (with_reducible split)

theorem keeps_execPor {b₀ : Block} {s t : State} (e₀ : execPor s = .next t)
    (h₀ : Keeps false b₀ s.toBlock) : Keeps false b₀ t.toBlock := by
  unfold execPor at e₀
  refine Keeps.upd e₀ h₀ (fun _ _ => ?_)
  repeat' first
    | (with_reducible assumption)
    | (with_reducible exact Keeps.refl)
    | (with_reducible apply Keeps.ite)
    | (with_reducible refine Keeps.foldl ?_ (fun _ _ _ => ?_))
    | (with_reducible apply keeps_moduleReset)
    | (fail_if_no_progress extract_lets)
    | intro _
    | (with_reducible split)

theorem keeps_execResetN {b₀ : Block} {s t : State} (e₀ : execResetN s = .next t)
    (h₀ : Keeps false b₀ s.toBlock) : Keeps false b₀ t.toBlock := by
  unfold execResetN at e₀
  refine Keeps.upd e₀ h₀ (fun _ _ => ?_)
  repeat' first
    | (with_reducible assumption)
    | (with_reducible exact Keeps.refl)
    | (with_reducible apply Keeps.ite)
    | (with_reducible refine Keeps.foldl ?_ (fun _ _ _ => ?_))
    | (with_reducible apply keeps_modPw)
    | (with_reducible apply keeps_moduleReset)
    | (fail_if_no_progress extract_lets)
    | intro _
    | (with_reducible split)

theorem keeps_execJtag {b₀ : Block} {s t : State} (e₀ : execJtag s = .next t)
    (h₀ : Keeps false b₀ s.toBlock) : Keeps false b₀ t.toBlock := by
  unfold execJtag at e₀
  refine Keeps.upd e₀ h₀ (fun _ _ => ?_)
  repeat' first
    | (with_reducible assumption)
    | (with_reducible exact Keeps.refl)
    | (with_reducible apply Keeps.ite)
    | (with_reducible refine Keeps.foldl ?_ (fun _ _ _ => ?_))
    | (with_reducible apply keeps_moduleReset)
    | (fail_if_no_progress extract_lets)
    | intro _
    | (with_reducible split)

theorem keeps_execClockAlarm {b₀ : Block} {s t : State} (e₀ : execClockAlarm s = .next t)
    (h₀ : Keeps false b₀ s.toBlock) : Keeps false b₀ t.toBlock := by
  unfold execClockAlarm at e₀
  refine Keeps.upd e₀ h₀ (fun _ _ => ?_)
  repeat' first
    | (with_reducible assumption)
    | (with_reducible exact Keeps.refl)
    | (with_reducible apply Keeps.ite)
    | (with_reducible refine Keeps.foldl ?_ (fun _ _ _ => ?_))
    | (with_reducible apply keeps_outputsOff)
    | (with_reducible apply keeps_keyAlarm)
    | (with_reducible apply keeps_moduleReset)
    | (fail_if_no_progress extract_lets)
    | intro _
    | (with_reducible split)

theorem keeps_dykeStart {b₀ b : Block} (h₀ : Keeps false b₀ b) (cause : Nat) :
    Keeps false b₀ (b.dykeStart cause) := by
  unfold Block.dykeStart
  repeat' first
    | (with_reducible assumption)
    | (with_reducible exact Keeps.refl)
    | (with_reducible apply Keeps.ite)
    | (with_reducible refine Keeps.foldl ?_ (fun _ _ _ => ?_))
    | (with_reducible apply keeps_setFld)
    | (with_reducible apply keeps_bump)
    | (with_reducible apply keeps_raise)
    | (with_reducible apply keeps_powerCut)
    | (with_reducible apply keeps_modPw)
    | (with_reducible apply keeps_moduleReset)
    | (fail_if_no_progress extract_lets)
    | intro _
    | (with_reducible split)

theorem keeps_execPowerFailDetect {b₀ : Block} {s t : State} (e₀ : execPowerFailDetect s = .next t)
    (h₀ : Keeps false b₀ s.toBlock) : Keeps false b₀ t.toBlock := by
  unfold execPowerFailDetect at e₀
  refine Keeps.upd e₀ h₀ (fun _ _ => ?_)
  repeat' first
    | (with_reducible assumption)
    | (with_reducible exact Keeps.refl)
    | (with_reducible apply Keeps.ite)
    | (with_reducible refine Keeps.foldl ?_ (fun _ _ _ => ?_))
    | (with_reducible apply keeps_dykeStart)
    | (fail_if_no_progress extract_lets)
    | intro _
    | (with_reducible split)

theorem keeps_dumpPage {q₀ : Bool} {b₀ b : Block} (h₀ : Keeps q₀ b₀ b) (dies : List Nat) (rsv : List (Nat × List Nat)) (i : Nat) (us : List Chunk) :
    Keeps q₀ b₀ (b.dumpPage dies rsv i us) := by
  unfold Block.dumpPage
  repeat' first
    | (with_reducible assumption)
    | (with_reducible exact Keeps.refl)
    | (with_reducible apply Keeps.ite)
    | (with_reducible refine Keeps.foldl ?_ (fun _ _ _ => ?_))
    | (with_reducible apply keeps_modPt)
    | (with_reducible apply keeps_modPtBlock)
    | (fail_if_no_progress extract_lets)
    | intro _
    | (with_reducible split)

theorem keeps_dump {q₀ : Bool} {b₀ b : Block} (h₀ : Keeps q₀ b₀ b) (todo : List Nat) (n : Nat) (whole : Bool) :
    Keeps q₀ b₀ (b.dump todo n whole) := by
  unfold Block.dump
  repeat' first
    | (with_reducible assumption)
    | (with_reducible exact Keeps.refl)
    | (with_reducible apply Keeps.ite)
    | (with_reducible refine Keeps.foldl ?_ (fun _ _ _ => ?_))
    | (with_reducible apply keeps_dumpPage)
    | (with_reducible apply keeps_ptOwn)
    | (with_reducible apply keeps_modStore)
    | (fail_if_no_progress extract_lets)
    | intro _
    | (with_reducible split)

theorem keeps_execDykeEnd {b₀ : Block} {s t : State} {dur : BitVec 16} (e₀ : execDykeEnd dur s = .next t)
    (h₀ : Keeps false b₀ s.toBlock) : Keeps false b₀ t.toBlock := by
  unfold execDykeEnd at e₀
  refine Keeps.upd e₀ h₀ (fun _ _ => ?_)
  repeat' first
    | (with_reducible assumption)
    | (with_reducible exact Keeps.refl)
    | (with_reducible apply Keeps.ite)
    | (with_reducible refine Keeps.foldl ?_ (fun _ _ _ => ?_))
    | (with_reducible apply keeps_dump)
    | (with_reducible apply keeps_ptStaged)
    | (with_reducible apply keeps_setFld)
    | (with_reducible apply keeps_modHq)
    | (with_reducible apply keeps_moduleReset)
    | (with_reducible apply keeps_putBit)
    | (fail_if_no_progress extract_lets)
    | intro _
    | (with_reducible split)

theorem keeps_brownOut {b₀ b : Block} (h₀ : Keeps false b₀ b) (dumped : Nat) :
    Keeps false b₀ (b.brownOut dumped) := by
  unfold Block.brownOut
  repeat' first
    | (with_reducible assumption)
    | (with_reducible exact Keeps.refl)
    | (with_reducible apply Keeps.ite)
    | (with_reducible refine Keeps.foldl ?_ (fun _ _ _ => ?_))
    | (with_reducible apply keeps_moduleReset)
    | (with_reducible apply keeps_dump)
    | (with_reducible apply keeps_modPw)
    | (fail_if_no_progress extract_lets)
    | intro _
    | (with_reducible split)

theorem keeps_execBrownout {b₀ : Block} {s t : State} {dumped : Nat} (e₀ : execBrownout dumped s = .next t)
    (h₀ : Keeps false b₀ s.toBlock) : Keeps false b₀ t.toBlock := by
  unfold execBrownout at e₀
  refine Keeps.upd e₀ h₀ (fun _ _ => ?_)
  repeat' first
    | (with_reducible assumption)
    | (with_reducible exact Keeps.refl)
    | (with_reducible apply Keeps.ite)
    | (with_reducible refine Keeps.foldl ?_ (fun _ _ _ => ?_))
    | (with_reducible apply keeps_bump)
    | (with_reducible apply keeps_brownOut)
    | (fail_if_no_progress extract_lets)
    | intro _
    | (with_reducible split)

theorem keeps_execWdog {b₀ : Block} {s t : State} (e₀ : execWdog s = .next t)
    (h₀ : Keeps false b₀ s.toBlock) : Keeps false b₀ t.toBlock := by
  unfold execWdog at e₀
  refine Keeps.upd e₀ h₀ (fun _ _ => ?_)
  repeat' first
    | (with_reducible assumption)
    | (with_reducible exact Keeps.refl)
    | (with_reducible apply Keeps.ite)
    | (with_reducible refine Keeps.foldl ?_ (fun _ _ _ => ?_))
    | (with_reducible apply keeps_dykeStart)
    | (fail_if_no_progress extract_lets)
    | intro _
    | (with_reducible split)

theorem keeps_softReset {b₀ b : Block} (h₀ : Keeps false b₀ b) (key : Nat) (dump : Bool) :
    Keeps false b₀ (b.softReset key dump) := by
  unfold Block.softReset
  repeat' first
    | (with_reducible assumption)
    | (with_reducible exact Keeps.refl)
    | (with_reducible apply Keeps.ite)
    | (with_reducible refine Keeps.foldl ?_ (fun _ _ _ => ?_))
    | (with_reducible apply keeps_dump)
    | (with_reducible apply keeps_dykeStart)
    | (with_reducible apply keeps_moduleReset)
    | (fail_if_no_progress extract_lets)
    | intro _
    | (with_reducible split)

theorem keeps_execSoft {b₀ : Block} {s t : State} {key : BitVec 16} {dump : Bool} (e₀ : execSoft key dump s = .next t)
    (h₀ : Keeps false b₀ s.toBlock) : Keeps false b₀ t.toBlock := by
  unfold execSoft at e₀
  refine Keeps.upd e₀ h₀ (fun _ _ => ?_)
  repeat' first
    | (with_reducible assumption)
    | (with_reducible exact Keeps.refl)
    | (with_reducible apply Keeps.ite)
    | (with_reducible refine Keeps.foldl ?_ (fun _ _ _ => ?_))
    | (with_reducible apply keeps_softReset)
    | (with_reducible apply keeps_dump)
    | (fail_if_no_progress extract_lets)
    | intro _
    | (with_reducible split)

theorem keeps_execHoldupMeasure {q₀ : Bool} {b₀ : Block} {s t : State} {capf : BitVec 16} {esr : BitVec 16} (e₀ : execHoldupMeasure capf esr s = .next t)
    (h₀ : Keeps q₀ b₀ s.toBlock) : Keeps q₀ b₀ t.toBlock := by
  unfold execHoldupMeasure at e₀
  refine Keeps.upd e₀ h₀ (fun _ _ => ?_)
  repeat' first
    | (with_reducible assumption)
    | (with_reducible exact Keeps.refl)
    | (with_reducible apply Keeps.ite)
    | (with_reducible refine Keeps.foldl ?_ (fun _ _ _ => ?_))
    | (with_reducible apply keeps_setFld)
    | (with_reducible apply keeps_setAllow)
    | (with_reducible apply keeps_raise)
    | (fail_if_no_progress extract_lets)
    | intro _
    | (with_reducible split)

theorem keeps_execHoldupArm {q₀ : Bool} {b₀ : Block} {s t : State} (e₀ : execHoldupArm s = .next t)
    (h₀ : Keeps q₀ b₀ s.toBlock) : Keeps q₀ b₀ t.toBlock := by
  unfold execHoldupArm at e₀
  refine Keeps.upd e₀ h₀ (fun _ _ => ?_)
  repeat' first
    | (with_reducible assumption)
    | (with_reducible exact Keeps.refl)
    | (with_reducible apply Keeps.ite)
    | (with_reducible refine Keeps.foldl ?_ (fun _ _ _ => ?_))
    | (with_reducible apply keeps_setFld)
    | (with_reducible apply keeps_raise)
    | (with_reducible apply keeps_setAllow)
    | (with_reducible apply keeps_async)
    | (fail_if_no_progress extract_lets)
    | intro _
    | (with_reducible split)

theorem keeps_execBoostFault {q₀ : Bool} {b₀ : Block} {s t : State} (e₀ : execBoostFault s = .next t)
    (h₀ : Keeps q₀ b₀ s.toBlock) : Keeps q₀ b₀ t.toBlock := by
  unfold execBoostFault at e₀
  refine Keeps.upd e₀ h₀ (fun _ _ => ?_)
  repeat' first
    | (with_reducible assumption)
    | (with_reducible exact Keeps.refl)
    | (with_reducible apply Keeps.ite)
    | (with_reducible refine Keeps.foldl ?_ (fun _ _ _ => ?_))
    | (with_reducible apply keeps_setFld)
    | (with_reducible apply keeps_modHq)
    | (with_reducible apply keeps_raise)
    | (fail_if_no_progress extract_lets)
    | intro _
    | (with_reducible split)

theorem keeps_execVinOvervoltage {q₀ : Bool} {b₀ : Block} {s t : State} (e₀ : execVinOvervoltage s = .next t)
    (h₀ : Keeps q₀ b₀ s.toBlock) : Keeps q₀ b₀ t.toBlock := by
  unfold execVinOvervoltage at e₀
  refine Keeps.upd e₀ h₀ (fun _ _ => ?_)
  repeat' first
    | (with_reducible assumption)
    | (with_reducible exact Keeps.refl)
    | (with_reducible apply Keeps.ite)
    | (with_reducible refine Keeps.foldl ?_ (fun _ _ _ => ?_))
    | (with_reducible apply keeps_setFld)
    | (with_reducible apply keeps_raise)
    | (fail_if_no_progress extract_lets)
    | intro _
    | (with_reducible split)

theorem keeps_execModuleBoot {q₀ : Bool} {b₀ : Block} {s t : State} {slotOk : BitVec 2} {badDies : BitVec 32} {bad : List (Nat × Nat)} (e₀ : execModuleBoot slotOk badDies bad s = .next t)
    (h₀ : Keeps q₀ b₀ s.toBlock) : Keeps q₀ b₀ t.toBlock := by
  unfold execModuleBoot at e₀
  refine Keeps.upd e₀ h₀ (fun _ _ => ?_)
  repeat' first
    | (with_reducible assumption)
    | (with_reducible exact Keeps.refl)
    | (with_reducible apply Keeps.ite)
    | (with_reducible refine Keeps.foldl ?_ (fun _ _ _ => ?_))
    | (with_reducible apply keeps_modHq)
    | (with_reducible apply keeps_modPw)
    | (with_reducible apply keeps_putBit)
    | (with_reducible apply keeps_raise)
    | (with_reducible apply keeps_ptRecover)
    | (with_reducible apply keeps_setFld)
    | (with_reducible apply keeps_elogNoCmd)
    | (with_reducible apply keeps_keyAlarm)
    | (with_reducible apply keeps_tryReady)
    | (fail_if_no_progress extract_lets)
    | intro _
    | (with_reducible split)

theorem keeps_execStandby {q₀ : Bool} {b₀ : Block} {s t : State} {tag : Nat} (e₀ : execStandby tag s = .next t)
    (h₀ : Keeps q₀ b₀ s.toBlock) : Keeps q₀ b₀ t.toBlock := by
  unfold execStandby at e₀
  refine Keeps.upd e₀ h₀ (fun _ _ => ?_)
  repeat' first
    | (with_reducible assumption)
    | (with_reducible exact Keeps.refl)
    | (with_reducible apply Keeps.ite)
    | (with_reducible refine Keeps.foldl ?_ (fun _ _ _ => ?_))
    | (with_reducible apply keeps_actOn)
    | (with_reducible apply keeps_succeed)
    | (with_reducible apply keeps_modPw)
    | (with_reducible apply keeps_failWith)
    | (with_reducible apply keeps_setFld)
    | (with_reducible apply keeps_spinsStop)
    | (with_reducible apply keeps_toStep)
    | (fail_if_no_progress extract_lets)
    | intro _
    | (with_reducible split)

theorem keeps_wakeUp {q₀ : Bool} {b₀ b : Block} (h₀ : Keeps q₀ b₀ b) (cause : Nat) :
    Keeps q₀ b₀ (b.wakeUp cause) := by
  unfold Block.wakeUp
  repeat' first
    | (with_reducible assumption)
    | (with_reducible exact Keeps.refl)
    | (with_reducible apply Keeps.ite)
    | (with_reducible refine Keeps.foldl ?_ (fun _ _ _ => ?_))
    | (with_reducible apply keeps_setFld)
    | (with_reducible apply keeps_modPw)
    | (with_reducible apply keeps_emit)
    | (with_reducible apply keeps_raise)
    | (fail_if_no_progress extract_lets)
    | intro _
    | (with_reducible split)

theorem keeps_execSleepEntry {q₀ : Bool} {b₀ : Block} {s t : State} {pending : BitVec 11} (e₀ : execSleepEntry pending s = .next t)
    (h₀ : Keeps q₀ b₀ s.toBlock) : Keeps q₀ b₀ t.toBlock := by
  unfold execSleepEntry at e₀
  refine Keeps.upd e₀ h₀ (fun _ _ => ?_)
  repeat' first
    | (with_reducible assumption)
    | (with_reducible exact Keeps.refl)
    | (with_reducible apply Keeps.ite)
    | (with_reducible refine Keeps.foldl ?_ (fun _ _ _ => ?_))
    | (with_reducible apply keeps_bump)
    | (with_reducible apply keeps_raise)
    | (with_reducible apply keeps_wakeUp)
    | (with_reducible apply keeps_setFld)
    | (with_reducible apply keeps_modHq)
    | (with_reducible apply keeps_modPw)
    | (fail_if_no_progress extract_lets)
    | intro _
    | (with_reducible split)

theorem keeps_execWake {b₀ : Block} {s t : State} {sources : BitVec 11} {ticks : BitVec 32} (e₀ : execWake sources ticks s = .next t)
    (h₀ : Keeps false b₀ s.toBlock) : Keeps false b₀ t.toBlock := by
  unfold execWake at e₀
  refine Keeps.upd e₀ h₀ (fun _ _ => ?_)
  repeat' first
    | (with_reducible assumption)
    | (with_reducible exact Keeps.refl)
    | (with_reducible apply Keeps.ite)
    | (with_reducible refine Keeps.foldl ?_ (fun _ _ _ => ?_))
    | (with_reducible apply keeps_setTick)
    | (with_reducible apply keeps_setFld)
    | (with_reducible apply keeps_wakeUp)
    | (fail_if_no_progress extract_lets)
    | intro _
    | (with_reducible split)

theorem keeps_execStandbyLook {q₀ : Bool} {b₀ : Block} {s t : State} {temp : BitVec 8} {hum : BitVec 8} (e₀ : execStandbyLook temp hum s = .next t)
    (h₀ : Keeps q₀ b₀ s.toBlock) : Keeps q₀ b₀ t.toBlock := by
  unfold execStandbyLook at e₀
  refine Keeps.upd e₀ h₀ (fun _ _ => ?_)
  repeat' first
    | (with_reducible assumption)
    | (with_reducible exact Keeps.refl)
    | (with_reducible apply Keeps.ite)
    | (with_reducible refine Keeps.foldl ?_ (fun _ _ _ => ?_))
    | (with_reducible apply keeps_modPw)
    | (fail_if_no_progress extract_lets)
    | intro _
    | (with_reducible split)

theorem keeps_execPadRelease {q₀ : Bool} {b₀ : Block} {s t : State} (e₀ : execPadRelease s = .next t)
    (h₀ : Keeps q₀ b₀ s.toBlock) : Keeps q₀ b₀ t.toBlock := by
  unfold execPadRelease at e₀
  refine Keeps.upd e₀ h₀ (fun _ _ => ?_)
  repeat' first
    | (with_reducible assumption)
    | (with_reducible exact Keeps.refl)
    | (with_reducible apply Keeps.ite)
    | (with_reducible refine Keeps.foldl ?_ (fun _ _ _ => ?_))
    | (with_reducible apply keeps_setFld)
    | (fail_if_no_progress extract_lets)
    | intro _
    | (with_reducible split)

/-! ### Machine/MapCache.lean -/

theorem keeps_writeBack {q₀ : Bool} {b₀ b : Block} (h₀ : Keeps q₀ b₀ b) (l : McLine) :
    Keeps q₀ b₀ (b.writeBack l) := by
  unfold Block.writeBack
  repeat' first
    | (with_reducible assumption)
    | (with_reducible exact Keeps.refl)
    | (with_reducible apply Keeps.ite)
    | (with_reducible refine Keeps.foldl ?_ (fun _ _ _ => ?_))
    | (with_reducible refine keeps_modDramSame ?_ _ (fun _ => rfl) (fun _ => rfl))
    | (with_reducible apply keeps_setFlaw)
    | (with_reducible apply keeps_putWord)
    | (with_reducible apply keeps_mergeOut)
    | (fail_if_no_progress extract_lets)
    | intro _
    | (with_reducible split)

theorem keeps_victimBack {q₀ : Bool} {b₀ b : Block} (h₀ : Keeps q₀ b₀ b) (l : McLine) :
    Keeps q₀ b₀ (b.victimBack l) := by
  unfold Block.victimBack
  repeat' first
    | (with_reducible assumption)
    | (with_reducible exact Keeps.refl)
    | (with_reducible apply Keeps.ite)
    | (with_reducible refine Keeps.foldl ?_ (fun _ _ _ => ?_))
    | (with_reducible apply keeps_writeBack)
    | (with_reducible refine keeps_modDramSame ?_ _ (fun _ => rfl) (fun _ => rfl))
    | (with_reducible apply keeps_setFlaw)
    | (with_reducible apply keeps_putWord)
    | (with_reducible apply keeps_mergeOut)
    | (fail_if_no_progress extract_lets)
    | intro _
    | (with_reducible split)

theorem keeps_evict {q₀ : Bool} {b₀ b : Block} (h₀ : Keeps q₀ b₀ b) (l : McLine) :
    Keeps q₀ b₀ (b.evict l) := by
  unfold Block.evict
  repeat' first
    | (with_reducible assumption)
    | (with_reducible exact Keeps.refl)
    | (with_reducible apply Keeps.ite)
    | (with_reducible refine Keeps.foldl ?_ (fun _ _ _ => ?_))
    | (with_reducible refine keeps_modDramSame ?_ _ (fun _ => rfl) (fun _ => rfl))
    | (with_reducible apply keeps_setFlaw)
    | (with_reducible apply keeps_putWord)
    | (with_reducible apply keeps_mergeOut)
    | (with_reducible apply keeps_bump)
    | (with_reducible apply keeps_victimBack)
    | (fail_if_no_progress extract_lets)
    | intro _
    | (with_reducible split)

theorem keeps_allocate {q₀ : Bool} {b₀ b c : Block} {set w : Nat} (e : b.allocate set = some (w, c))
    (h₀ : Keeps q₀ b₀ b) : Keeps q₀ b₀ c := by
  unfold Block.allocate at e
  dsimp only at e
  split at e
  · cases e; exact h₀
  · split at e
    · cases e; exact keeps_evict h₀ _
    · cases e

theorem keeps_fillSector {q₀ : Bool} {b₀ b : Block} (h₀ : Keeps q₀ b₀ b) (core : Fin 4) (l : Nat) (s : Nat) :
    Keeps q₀ b₀ (b.fillSector core l s) := by
  unfold Block.fillSector
  repeat' first
    | (with_reducible assumption)
    | (with_reducible exact Keeps.refl)
    | (with_reducible apply Keeps.ite)
    | (with_reducible refine Keeps.foldl ?_ (fun _ _ _ => ?_))
    | (with_reducible apply Keeps.ite2)
    | (with_reducible refine Keeps.snd (by with_reducible assumption) ?_)
    | (with_reducible refine Keeps.thd (by with_reducible assumption) ?_)
    | (with_reducible apply keeps_readWord)
    | (with_reducible refine keeps_modDramSame ?_ _ (fun _ => rfl) (fun _ => rfl))
    | (with_reducible apply keeps_setFlaw)
    | (with_reducible apply keeps_putWord)
    | (with_reducible apply keeps_mergeOut)
    | (fail_if_no_progress extract_lets)
    | intro _
    | (with_reducible split)

theorem keeps_serveLine {q₀ : Bool} {b₀ b : Block} (h₀ : Keeps q₀ b₀ b) (a : McAcc) :
    Keeps q₀ b₀ (b.serveLine a) := by
  unfold Block.serveLine
  repeat' first
    | (with_reducible assumption)
    | (with_reducible exact Keeps.refl)
    | (with_reducible apply Keeps.ite)
    | (with_reducible refine Keeps.foldl ?_ (fun _ _ _ => ?_))
    | (with_reducible refine keeps_modDramSame ?_ _ (fun _ => rfl) (fun _ => rfl))
    | (with_reducible apply keeps_setFlaw)
    | (with_reducible apply keeps_putWord)
    | (with_reducible apply keeps_mergeOut)
    | (with_reducible apply keeps_emit)
    | (fail_if_no_progress extract_lets)
    | intro _
    | (with_reducible split)

theorem keeps_serveDirect {q₀ : Bool} {b₀ b : Block} (h₀ : Keeps q₀ b₀ b) (a : McAcc) :
    Keeps q₀ b₀ (b.serveDirect a) := by
  unfold Block.serveDirect
  repeat' first
    | (with_reducible assumption)
    | (with_reducible exact Keeps.refl)
    | (with_reducible apply Keeps.ite)
    | (with_reducible refine Keeps.foldl ?_ (fun _ _ _ => ?_))
    | (with_reducible apply Keeps.ite2)
    | (with_reducible refine Keeps.snd (by with_reducible assumption) ?_)
    | (with_reducible refine Keeps.thd (by with_reducible assumption) ?_)
    | (with_reducible apply keeps_dramWrite)
    | (with_reducible apply keeps_dramRead)
    | (with_reducible apply keeps_emit)
    | (fail_if_no_progress extract_lets)
    | intro _
    | (with_reducible split)

theorem keeps_disableWay {q₀ : Bool} {b₀ b : Block} (h₀ : Keeps q₀ b₀ b) (w : Nat) :
    Keeps q₀ b₀ (b.disableWay w) := by
  unfold Block.disableWay
  repeat' first
    | (with_reducible assumption)
    | (with_reducible exact Keeps.refl)
    | (with_reducible apply Keeps.ite)
    | (with_reducible refine Keeps.foldl ?_ (fun _ _ _ => ?_))
    | (with_reducible apply keeps_writeBack)
    | (with_reducible refine keeps_modDramSame ?_ _ (fun _ => rfl) (fun _ => rfl))
    | (with_reducible apply keeps_setFlaw)
    | (with_reducible apply keeps_putWord)
    | (with_reducible apply keeps_mergeOut)
    | (with_reducible apply keeps_putBit)
    | (with_reducible apply keeps_setBit)
    | (with_reducible apply keeps_raise)
    | (fail_if_no_progress extract_lets)
    | intro _
    | (with_reducible split)

theorem keeps_mcParity {q₀ : Bool} {b₀ b : Block} (h₀ : Keeps q₀ b₀ b) (w : Nat) (line : Nat) (dirty : Bool) :
    Keeps q₀ b₀ (b.mcParity w line dirty) := by
  unfold Block.mcParity
  repeat' first
    | (with_reducible assumption)
    | (with_reducible exact Keeps.refl)
    | (with_reducible apply Keeps.ite)
    | (with_reducible refine Keeps.foldl ?_ (fun _ _ _ => ?_))
    | (with_reducible apply keeps_bump)
    | (with_reducible apply keeps_raise)
    | (with_reducible apply keeps_setBit)
    | (with_reducible apply keeps_setFld)
    | (with_reducible apply keeps_disableWay)
    | (fail_if_no_progress extract_lets)
    | intro _
    | (with_reducible split)

theorem keeps_startFill {q₀ : Bool} {b₀ b : Block} (h₀ : Keeps q₀ b₀ b) (a : McAcc) :
    Keeps q₀ b₀ (b.startFill a) := by
  unfold Block.startFill
  repeat' first
    | (with_reducible assumption)
    | (with_reducible exact Keeps.refl)
    | (with_reducible apply Keeps.ite)
    | (with_reducible refine Keeps.foldl ?_ (fun _ _ _ => ?_))
    | (with_reducible refine keeps_modDramSame ?_ _ (fun _ => rfl) (fun _ => rfl))
    | (with_reducible apply keeps_setFlaw)
    | (with_reducible apply keeps_putWord)
    | (with_reducible apply keeps_mergeOut)
    | (fail_if_no_progress extract_lets)
    | intro _
    | (with_reducible split)

theorem keeps_tagStrike {q₀ : Bool} {b₀ b : Block} (h₀ : Keeps q₀ b₀ b) (l : Nat) (strike : McStrike) :
    Keeps q₀ b₀ (b.tagStrike l strike) := by
  unfold Block.tagStrike
  repeat' first
    | (with_reducible assumption)
    | (with_reducible exact Keeps.refl)
    | (with_reducible apply Keeps.ite)
    | (with_reducible refine Keeps.foldl ?_ (fun _ _ _ => ?_))
    | (with_reducible apply keeps_strike)
    | (with_reducible refine keeps_modDramSame ?_ _ (fun _ => rfl) (fun _ => rfl))
    | (with_reducible apply keeps_setFlaw)
    | (with_reducible apply keeps_putWord)
    | (with_reducible apply keeps_mergeOut)
    | (with_reducible apply keeps_mcParity)
    | (fail_if_no_progress extract_lets)
    | intro _
    | (with_reducible split)

theorem keeps_mcAccess {q₀ : Bool} {b₀ b : Block} (h₀ : Keeps q₀ b₀ b) (a : McAcc) (strike : McStrike) :
    Keeps q₀ b₀ (b.mcAccess a strike) := by
  unfold Block.mcAccess
  repeat' first
    | (with_reducible assumption)
    | (with_reducible exact Keeps.refl)
    | (with_reducible apply Keeps.ite)
    | (with_reducible refine Keeps.foldl ?_ (fun _ _ _ => ?_))
    | (with_reducible refine keeps_modDramSame ?_ _ (fun _ => rfl) (fun _ => rfl))
    | (with_reducible apply keeps_setFlaw)
    | (with_reducible apply keeps_putWord)
    | (with_reducible apply keeps_mergeOut)
    | (with_reducible apply keeps_serveDirect)
    | (with_reducible apply keeps_tagStrike)
    | (with_reducible apply keeps_strike)
    | (with_reducible apply keeps_mcParity)
    | (with_reducible apply keeps_emit)
    | (with_reducible apply keeps_startFill)
    | (with_reducible apply keeps_bump)
    | (with_reducible apply keeps_serveLine)
    | (with_reducible refine keeps_allocate (by with_reducible assumption) ?_)
    | (fail_if_no_progress extract_lets)
    | intro _
    | (with_reducible split)

theorem keeps_mcInitEnd {q₀ : Bool} {b₀ b : Block} (h₀ : Keeps q₀ b₀ b) :
    Keeps q₀ b₀ (b.mcInitEnd) := by
  unfold Block.mcInitEnd
  repeat' first
    | (with_reducible assumption)
    | (with_reducible exact Keeps.refl)
    | (with_reducible apply Keeps.ite)
    | (with_reducible refine Keeps.foldl ?_ (fun _ _ _ => ?_))
    | (with_reducible apply keeps_setFld)
    | (with_reducible refine keeps_modDramSame ?_ _ (fun _ => rfl) (fun _ => rfl))
    | (with_reducible apply keeps_setFlaw)
    | (with_reducible apply keeps_putWord)
    | (with_reducible apply keeps_mergeOut)
    | (with_reducible apply keeps_mcAccess)
    | (fail_if_no_progress extract_lets)
    | intro _
    | (with_reducible split)

theorem keeps_lockFill {q₀ : Bool} {b₀ b : Block} (h₀ : Keeps q₀ b₀ b) (l : Nat) :
    Keeps q₀ b₀ (b.lockFill l) := by
  unfold Block.lockFill
  repeat' first
    | (with_reducible assumption)
    | (with_reducible exact Keeps.refl)
    | (with_reducible apply Keeps.ite)
    | (with_reducible refine Keeps.foldl ?_ (fun _ _ _ => ?_))
    | (with_reducible apply keeps_setBit)
    | (with_reducible apply keeps_raise)
    | (with_reducible refine keeps_modDramSame ?_ _ (fun _ => rfl) (fun _ => rfl))
    | (with_reducible apply keeps_setFlaw)
    | (with_reducible apply keeps_putWord)
    | (with_reducible apply keeps_mergeOut)
    | (with_reducible apply keeps_fillSector)
    | (fail_if_no_progress extract_lets)
    | intro _
    | (with_reducible split)

theorem keeps_opLine {q₀ : Bool} {b₀ b : Block} (h₀ : Keeps q₀ b₀ b) (op : Nat) (l : Nat) :
    Keeps q₀ b₀ (b.opLine op l) := by
  unfold Block.opLine
  repeat' first
    | (with_reducible assumption)
    | (with_reducible exact Keeps.refl)
    | (with_reducible apply Keeps.ite)
    | (with_reducible refine Keeps.foldl ?_ (fun _ _ _ => ?_))
    | (with_reducible apply keeps_lockFill)
    | (with_reducible apply keeps_writeBack)
    | (with_reducible refine keeps_modDramSame ?_ _ (fun _ => rfl) (fun _ => rfl))
    | (with_reducible apply keeps_setFlaw)
    | (with_reducible apply keeps_putWord)
    | (with_reducible apply keeps_mergeOut)
    | (with_reducible apply keeps_bump)
    | (fail_if_no_progress extract_lets)
    | intro _
    | (with_reducible split)

theorem keeps_opRun {q₀ : Bool} {b₀ : Block} (n : Nat) : ∀ {b : Block}, Keeps q₀ b₀ b → Keeps q₀ b₀ (b.opRun n) := by
  induction n with
  | zero => exact fun h => h
  | succ n ih =>
    intro b h
    unfold Block.opRun
    split
    · split
      · exact keeps_modDramSame h _ (fun _ => rfl) (fun _ => rfl)
      · split
        · exact h
        · rename_i fuel o he _ _ _ _ _ _
          have hn : fuel = n := Nat.succ.inj he.symm
          subst hn
          exact ih (keeps_modDramSame (keeps_opLine h _ _) _ (fun _ => rfl) (fun _ => rfl))
    · exact h

theorem keeps_opGo {q₀ : Bool} {b₀ b : Block} (h₀ : Keeps q₀ b₀ b) :
    Keeps q₀ b₀ (b.opGo) := by
  unfold Block.opGo
  repeat' first
    | (with_reducible assumption)
    | (with_reducible exact Keeps.refl)
    | (with_reducible apply Keeps.ite)
    | (with_reducible refine Keeps.foldl ?_ (fun _ _ _ => ?_))
    | (with_reducible apply keeps_opRun)
    | (fail_if_no_progress extract_lets)
    | intro _
    | (with_reducible split)

theorem keeps_mcGo {q₀ : Bool} {b₀ b : Block} (h₀ : Keeps q₀ b₀ b) :
    Keeps q₀ b₀ (b.mcGo) := by
  unfold Block.mcGo
  repeat' first
    | (with_reducible assumption)
    | (with_reducible exact Keeps.refl)
    | (with_reducible apply Keeps.ite)
    | (with_reducible refine Keeps.foldl ?_ (fun _ _ _ => ?_))
    | (with_reducible apply keeps_setBit)
    | (with_reducible apply keeps_raise)
    | (with_reducible refine keeps_modDramSame ?_ _ (fun _ => rfl) (fun _ => rfl))
    | (with_reducible apply keeps_setFlaw)
    | (with_reducible apply keeps_putWord)
    | (with_reducible apply keeps_mergeOut)
    | (with_reducible apply keeps_opGo)
    | (fail_if_no_progress extract_lets)
    | intro _
    | (with_reducible split)

theorem keeps_mcOpDone {q₀ : Bool} {b₀ b : Block} (h₀ : Keeps q₀ b₀ b) :
    Keeps q₀ b₀ (b.mcOpDone) := by
  unfold Block.mcOpDone
  repeat' first
    | (with_reducible assumption)
    | (with_reducible exact Keeps.refl)
    | (with_reducible apply Keeps.ite)
    | (with_reducible refine Keeps.foldl ?_ (fun _ _ _ => ?_))
    | (with_reducible refine keeps_modDramSame ?_ _ (fun _ => rfl) (fun _ => rfl))
    | (with_reducible apply keeps_setFlaw)
    | (with_reducible apply keeps_putWord)
    | (with_reducible apply keeps_mergeOut)
    | (with_reducible apply keeps_setBit)
    | (with_reducible apply keeps_setFld)
    | (with_reducible apply keeps_raise)
    | (fail_if_no_progress extract_lets)
    | intro _
    | (with_reducible split)

theorem keeps_winApply {q₀ : Bool} {b₀ b : Block} (h₀ : Keeps q₀ b₀ b) :
    Keeps q₀ b₀ (b.winApply) := by
  unfold Block.winApply
  repeat' first
    | (with_reducible assumption)
    | (with_reducible exact Keeps.refl)
    | (with_reducible apply Keeps.ite)
    | (with_reducible refine Keeps.foldl ?_ (fun _ _ _ => ?_))
    | (with_reducible apply keeps_writeBack)
    | (with_reducible refine keeps_modDramSame ?_ _ (fun _ => rfl) (fun _ => rfl))
    | (with_reducible apply keeps_setFlaw)
    | (with_reducible apply keeps_putWord)
    | (with_reducible apply keeps_mergeOut)
    | (with_reducible apply keeps_bump)
    | (with_reducible apply keeps_raise)
    | (fail_if_no_progress extract_lets)
    | intro _
    | (with_reducible split)

theorem keeps_winWrite {q₀ : Bool} {b₀ b : Block} (h₀ : Keeps q₀ b₀ b) (v : Word) :
    Keeps q₀ b₀ (b.winWrite v) := by
  unfold Block.winWrite
  repeat' first
    | (with_reducible assumption)
    | (with_reducible exact Keeps.refl)
    | (with_reducible apply Keeps.ite)
    | (with_reducible refine Keeps.foldl ?_ (fun _ _ _ => ?_))
    | (with_reducible apply keeps_setFld)
    | (with_reducible refine keeps_modDramSame ?_ _ (fun _ => rfl) (fun _ => rfl))
    | (with_reducible apply keeps_setFlaw)
    | (with_reducible apply keeps_putWord)
    | (with_reducible apply keeps_mergeOut)
    | (with_reducible apply keeps_winApply)
    | (fail_if_no_progress extract_lets)
    | intro _
    | (with_reducible split)

theorem keeps_fillDone {q₀ : Bool} {b₀ b : Block} (h₀ : Keeps q₀ b₀ b) (core : Fin 4) :
    Keeps q₀ b₀ (b.fillDone core) := by
  unfold Block.fillDone
  repeat' first
    | (with_reducible assumption)
    | (with_reducible exact Keeps.refl)
    | (with_reducible apply Keeps.ite)
    | (with_reducible refine Keeps.foldl ?_ (fun _ _ _ => ?_))
    | (with_reducible apply keeps_fillSector)
    | (with_reducible refine keeps_modDramSame ?_ _ (fun _ => rfl) (fun _ => rfl))
    | (with_reducible apply keeps_setFlaw)
    | (with_reducible apply keeps_putWord)
    | (with_reducible apply keeps_mergeOut)
    | (with_reducible apply keeps_serveLine)
    | (with_reducible apply keeps_emit)
    | (with_reducible apply keeps_serveDirect)
    | (with_reducible apply keeps_opGo)
    | (with_reducible apply keeps_winApply)
    | (fail_if_no_progress extract_lets)
    | intro _
    | (with_reducible split)

theorem keeps_execMcAccess {q₀ : Bool} {b₀ : Block} {s t : State} {core : Fin 4} {addr : Nat} {len : Nat} {write : Option (List Byte)} {strike : McStrike} (e₀ : execMcAccess core addr len write strike s = .next t)
    (h₀ : Keeps q₀ b₀ s.toBlock) : Keeps q₀ b₀ t.toBlock := by
  unfold execMcAccess at e₀
  refine Keeps.upd e₀ h₀ (fun _ _ => ?_)
  repeat' first
    | (with_reducible assumption)
    | (with_reducible exact Keeps.refl)
    | (with_reducible apply Keeps.ite)
    | (with_reducible refine Keeps.foldl ?_ (fun _ _ _ => ?_))
    | (with_reducible apply keeps_mcAccess)
    | (with_reducible apply keeps_strike)
    | (fail_if_no_progress extract_lets)
    | intro _
    | (with_reducible split)

theorem keeps_execMcFillDone {q₀ : Bool} {b₀ : Block} {s t : State} {core : Fin 4} (e₀ : execMcFillDone core s = .next t)
    (h₀ : Keeps q₀ b₀ s.toBlock) : Keeps q₀ b₀ t.toBlock := by
  unfold execMcFillDone at e₀
  refine Keeps.upd e₀ h₀ (fun _ _ => ?_)
  repeat' first
    | (with_reducible assumption)
    | (with_reducible exact Keeps.refl)
    | (with_reducible apply Keeps.ite)
    | (with_reducible refine Keeps.foldl ?_ (fun _ _ _ => ?_))
    | (with_reducible apply keeps_fillDone)
    | (fail_if_no_progress extract_lets)
    | intro _
    | (with_reducible split)

theorem keeps_mcOpStart {q₀ : Bool} {b₀ b : Block} (h₀ : Keeps q₀ b₀ b) (op : Nat) (addr : Nat) (len : Nat) :
    Keeps q₀ b₀ (b.mcOpStart op addr len) := by
  unfold Block.mcOpStart
  repeat' first
    | (with_reducible assumption)
    | (with_reducible exact Keeps.refl)
    | (with_reducible apply Keeps.ite)
    | (with_reducible refine Keeps.foldl ?_ (fun _ _ _ => ?_))
    | (with_reducible apply keeps_setFld)
    | (with_reducible apply keeps_mcGo)
    | (fail_if_no_progress extract_lets)
    | intro _
    | (with_reducible split)

theorem keeps_execInv {q₀ : Bool} {b₀ : Block} {s t : State} {addr : Nat} {len : Nat} (e₀ : execInv addr len s = .next t)
    (h₀ : Keeps q₀ b₀ s.toBlock) : Keeps q₀ b₀ t.toBlock := by
  unfold execInv at e₀
  refine Keeps.upd e₀ h₀ (fun _ _ => ?_)
  repeat' first
    | (with_reducible assumption)
    | (with_reducible exact Keeps.refl)
    | (with_reducible apply Keeps.ite)
    | (with_reducible refine Keeps.foldl ?_ (fun _ _ _ => ?_))
    | (with_reducible apply keeps_mcOpStart)
    | (fail_if_no_progress extract_lets)
    | intro _
    | (with_reducible split)

theorem keeps_execClean {q₀ : Bool} {b₀ : Block} {s t : State} {addr : Nat} {len : Nat} (e₀ : execClean addr len s = .next t)
    (h₀ : Keeps q₀ b₀ s.toBlock) : Keeps q₀ b₀ t.toBlock := by
  unfold execClean at e₀
  refine Keeps.upd e₀ h₀ (fun _ _ => ?_)
  repeat' first
    | (with_reducible assumption)
    | (with_reducible exact Keeps.refl)
    | (with_reducible apply Keeps.ite)
    | (with_reducible refine Keeps.foldl ?_ (fun _ _ _ => ?_))
    | (with_reducible apply keeps_mcOpStart)
    | (fail_if_no_progress extract_lets)
    | intro _
    | (with_reducible split)

theorem keeps_execLockfill {q₀ : Bool} {b₀ : Block} {s t : State} {addr : Nat} {len : Nat} (e₀ : execLockfill addr len s = .next t)
    (h₀ : Keeps q₀ b₀ s.toBlock) : Keeps q₀ b₀ t.toBlock := by
  unfold execLockfill at e₀
  refine Keeps.upd e₀ h₀ (fun _ _ => ?_)
  repeat' first
    | (with_reducible assumption)
    | (with_reducible exact Keeps.refl)
    | (with_reducible apply Keeps.ite)
    | (with_reducible refine Keeps.foldl ?_ (fun _ _ _ => ?_))
    | (with_reducible apply keeps_mcOpStart)
    | (fail_if_no_progress extract_lets)
    | intro _
    | (with_reducible split)

theorem keeps_execInvAll {q₀ : Bool} {b₀ : Block} {s t : State} (e₀ : execInvAll s = .next t)
    (h₀ : Keeps q₀ b₀ s.toBlock) : Keeps q₀ b₀ t.toBlock := by
  unfold execInvAll at e₀
  refine Keeps.upd e₀ h₀ (fun _ _ => ?_)
  repeat' first
    | (with_reducible assumption)
    | (with_reducible exact Keeps.refl)
    | (with_reducible apply Keeps.ite)
    | (with_reducible refine Keeps.foldl ?_ (fun _ _ _ => ?_))
    | (with_reducible apply keeps_setFld)
    | (with_reducible apply keeps_mcGo)
    | (fail_if_no_progress extract_lets)
    | intro _
    | (with_reducible split)

theorem keeps_execCleanAll {q₀ : Bool} {b₀ : Block} {s t : State} (e₀ : execCleanAll s = .next t)
    (h₀ : Keeps q₀ b₀ s.toBlock) : Keeps q₀ b₀ t.toBlock := by
  unfold execCleanAll at e₀
  refine Keeps.upd e₀ h₀ (fun _ _ => ?_)
  repeat' first
    | (with_reducible assumption)
    | (with_reducible exact Keeps.refl)
    | (with_reducible apply Keeps.ite)
    | (with_reducible refine Keeps.foldl ?_ (fun _ _ _ => ?_))
    | (with_reducible apply keeps_setFld)
    | (with_reducible apply keeps_mcGo)
    | (fail_if_no_progress extract_lets)
    | intro _
    | (with_reducible split)

theorem keeps_execMcOpDone {q₀ : Bool} {b₀ : Block} {s t : State} (e₀ : execMcOpDone s = .next t)
    (h₀ : Keeps q₀ b₀ s.toBlock) : Keeps q₀ b₀ t.toBlock := by
  unfold execMcOpDone at e₀
  refine Keeps.upd e₀ h₀ (fun _ _ => ?_)
  repeat' first
    | (with_reducible assumption)
    | (with_reducible exact Keeps.refl)
    | (with_reducible apply Keeps.ite)
    | (with_reducible refine Keeps.foldl ?_ (fun _ _ _ => ?_))
    | (with_reducible apply keeps_mcOpDone)
    | (fail_if_no_progress extract_lets)
    | intro _
    | (with_reducible split)

theorem keeps_wayRestore {q₀ : Bool} {b₀ b : Block} (h₀ : Keeps q₀ b₀ b) (ways : Nat) :
    Keeps q₀ b₀ (b.wayRestore ways) := by
  unfold Block.wayRestore
  repeat' first
    | (with_reducible assumption)
    | (with_reducible exact Keeps.refl)
    | (with_reducible apply Keeps.ite)
    | (with_reducible refine Keeps.foldl ?_ (fun _ _ _ => ?_))
    | (with_reducible apply keeps_putBit)
    | (with_reducible apply keeps_setFld)
    | (with_reducible apply keeps_setBit)
    | (fail_if_no_progress extract_lets)
    | intro _
    | (with_reducible split)

theorem keeps_execWayRestore {q₀ : Bool} {b₀ : Block} {s t : State} {ways : BitVec 16} (e₀ : execWayRestore ways s = .next t)
    (h₀ : Keeps q₀ b₀ s.toBlock) : Keeps q₀ b₀ t.toBlock := by
  unfold execWayRestore at e₀
  refine Keeps.upd e₀ h₀ (fun _ _ => ?_)
  repeat' first
    | (with_reducible assumption)
    | (with_reducible exact Keeps.refl)
    | (with_reducible apply Keeps.ite)
    | (with_reducible refine Keeps.foldl ?_ (fun _ _ _ => ?_))
    | (with_reducible apply keeps_wayRestore)
    | (fail_if_no_progress extract_lets)
    | intro _
    | (with_reducible split)

theorem keeps_execMcWinWrite {q₀ : Bool} {b₀ : Block} {s t : State} {v : Word} (e₀ : execMcWinWrite v s = .next t)
    (h₀ : Keeps q₀ b₀ s.toBlock) : Keeps q₀ b₀ t.toBlock := by
  unfold execMcWinWrite at e₀
  refine Keeps.upd e₀ h₀ (fun _ _ => ?_)
  repeat' first
    | (with_reducible assumption)
    | (with_reducible exact Keeps.refl)
    | (with_reducible apply Keeps.ite)
    | (with_reducible refine Keeps.foldl ?_ (fun _ _ _ => ?_))
    | (with_reducible apply keeps_winWrite)
    | (fail_if_no_progress extract_lets)
    | intro _
    | (with_reducible split)

theorem keeps_execVictimWriteback {q₀ : Bool} {b₀ : Block} {s t : State} (e₀ : execVictimWriteback s = .next t)
    (h₀ : Keeps q₀ b₀ s.toBlock) : Keeps q₀ b₀ t.toBlock := by
  unfold execVictimWriteback at e₀
  refine Keeps.upd e₀ h₀ (fun _ _ => ?_)
  repeat' first
    | (with_reducible assumption)
    | (with_reducible exact Keeps.refl)
    | (with_reducible apply Keeps.ite)
    | (with_reducible refine Keeps.foldl ?_ (fun _ _ _ => ?_))
    | (with_reducible apply keeps_victimBack)
    | (fail_if_no_progress extract_lets)
    | intro _
    | (with_reducible split)

/-! ### Machine/Sluice.lean -/

theorem keeps_ueResult {q₀ : Bool} {b₀ b : Block} (h₀ : Keeps q₀ b₀ b) (req : Requester) (addr : Nat) (tag : Option Nat) :
    Keeps q₀ b₀ (b.ueResult req addr tag) := by
  unfold Block.ueResult
  repeat' first
    | (with_reducible assumption)
    | (with_reducible exact Keeps.refl)
    | (with_reducible apply Keeps.ite)
    | (with_reducible refine Keeps.foldl ?_ (fun _ _ _ => ?_))
    | (with_reducible apply keeps_elogNoCmd)
    | (with_reducible apply keeps_finish)
    | (fail_if_no_progress extract_lets)
    | intro _
    | (with_reducible split)

theorem keeps_execDramAccess {q₀ : Bool} {b₀ : Block} {s t : State} {req : Requester} {addr len : Nat}
    {data : Option (List Byte)} {strike : Option (Fin 65)} {tag : Option Nat}
    (e₀ : execDramAccess req addr len data strike tag s = .next t) (h₀ : Keeps q₀ b₀ s.toBlock) :
    Keeps q₀ b₀ t.toBlock := by
  unfold execDramAccess at e₀
  generalize dramSize = z at e₀
  split at e₀
  · cases e₀
  · refine Keeps.upd e₀ h₀ (fun c h => ?_)
    extract_lets b1
    have h1 : Keeps q₀ b₀ b1 := by
      unfold b1
      split
      · exact keeps_strike h _ _
      · exact h
    clear_value b1
    split
    · exact keeps_dramWrite h1 _ _
    · have h2 := keeps_dramRead h1 req addr len
      dsimp only
      split
      · exact keeps_ueResult (keeps_emit h2 _) _ _ _
      · exact keeps_emit h2 _

theorem keeps_execMergeFlush {q₀ : Bool} {b₀ : Block} {s t : State} {word : Nat} (e₀ : execMergeFlush word s = .next t)
    (h₀ : Keeps q₀ b₀ s.toBlock) : Keeps q₀ b₀ t.toBlock := by
  unfold execMergeFlush at e₀
  refine Keeps.upd e₀ h₀ (fun _ _ => ?_)
  repeat' first
    | (with_reducible assumption)
    | (with_reducible exact Keeps.refl)
    | (with_reducible apply Keeps.ite)
    | (with_reducible refine Keeps.foldl ?_ (fun _ _ _ => ?_))
    | (with_reducible apply keeps_flushEntry)
    | (fail_if_no_progress extract_lets)
    | intro _
    | (with_reducible split)

theorem keeps_execCeLeak {q₀ : Bool} {b₀ : Block} {s t : State} (e₀ : execCeLeak s = .next t)
    (h₀ : Keeps q₀ b₀ s.toBlock) : Keeps q₀ b₀ t.toBlock := by
  unfold execCeLeak at e₀
  refine Keeps.upd e₀ h₀ (fun _ _ => ?_)
  repeat' first
    | (with_reducible assumption)
    | (with_reducible exact Keeps.refl)
    | (with_reducible apply Keeps.ite)
    | (with_reducible refine Keeps.foldl ?_ (fun _ _ _ => ?_))
    | (with_reducible apply keeps_setFld)
    | (with_reducible refine keeps_modDramSame ?_ _ (fun _ => rfl) (fun _ => rfl))
    | (with_reducible apply keeps_setFlaw)
    | (with_reducible apply keeps_putWord)
    | (with_reducible apply keeps_mergeOut)
    | (fail_if_no_progress extract_lets)
    | intro _
    | (with_reducible split)

theorem keeps_aperAccess {q₀ : Bool} {b₀ b : Block} (h₀ : Keeps q₀ b₀ b) (m : Master) (a : Nat)
    (data : Option Word) : Keeps q₀ b₀ (b.aperAccess m a data) := by
  unfold Block.aperAccess
  generalize dramSize = z
  extract_lets b1 r
  have h1 : Keeps q₀ b₀ b1 := keeps_raise h₀ _
  have h2 : Keeps q₀ b₀ r.2.2 := keeps_dramRead h₀ _ _ _
  clear_value b1 r
  split
  · split
    · exact h1
    · exact keeps_answer h1 _ _
  · split
    · exact keeps_dramWrite h₀ _ _
    · exact keeps_answer h2 _ _

theorem keeps_execApertureAccess {q₀ : Bool} {b₀ : Block} {s t : State} {m : Master} {off : BitVec 20} {data : Option Word} (e₀ : execApertureAccess m off data s = .next t)
    (h₀ : Keeps q₀ b₀ s.toBlock) : Keeps q₀ b₀ t.toBlock := by
  unfold execApertureAccess at e₀
  refine Keeps.upd e₀ h₀ (fun _ _ => ?_)
  repeat' first
    | (with_reducible assumption)
    | (with_reducible exact Keeps.refl)
    | (with_reducible apply Keeps.ite)
    | (with_reducible refine Keeps.foldl ?_ (fun _ _ _ => ?_))
    | (with_reducible apply keeps_aperAccess)
    | (fail_if_no_progress extract_lets)
    | intro _
    | (with_reducible split)

theorem keeps_modChan {q₀ : Bool} {b₀ b : Block} (h₀ : Keeps q₀ b₀ b) (c : Fin 32) (f : SlChan → SlChan) :
    Keeps q₀ b₀ (b.modChan c f) := by
  unfold Block.modChan
  repeat' first
    | (with_reducible assumption)
    | (with_reducible exact Keeps.refl)
    | (with_reducible apply Keeps.ite)
    | (with_reducible refine Keeps.foldl ?_ (fun _ _ _ => ?_))
    | (with_reducible refine keeps_modDramSame ?_ _ (fun _ => rfl) (fun _ => rfl))
    | (with_reducible apply keeps_setFlaw)
    | (with_reducible apply keeps_putWord)
    | (with_reducible apply keeps_mergeOut)
    | (fail_if_no_progress extract_lets)
    | intro _
    | (with_reducible split)

theorem keeps_slGrant {q₀ : Bool} {b₀ b : Block} (h₀ : Keeps q₀ b₀ b) :
    Keeps q₀ b₀ (b.slGrant) := by
  unfold Block.slGrant
  repeat' first
    | (with_reducible assumption)
    | (with_reducible exact Keeps.refl)
    | (with_reducible apply Keeps.ite)
    | (with_reducible refine Keeps.foldl ?_ (fun _ _ _ => ?_))
    | (with_reducible refine keeps_modDramSame ?_ _ (fun _ => rfl) (fun _ => rfl))
    | (with_reducible apply keeps_setFlaw)
    | (with_reducible apply keeps_putWord)
    | (with_reducible apply keeps_mergeOut)
    | (with_reducible apply keeps_setFld)
    | (with_reducible apply keeps_modChan)
    | (fail_if_no_progress extract_lets)
    | intro _
    | (with_reducible split)

theorem keeps_slRelease {q₀ : Bool} {b₀ b : Block} (h₀ : Keeps q₀ b₀ b) (c : Fin 32) :
    Keeps q₀ b₀ (b.slRelease c) := by
  unfold Block.slRelease
  repeat' first
    | (with_reducible assumption)
    | (with_reducible exact Keeps.refl)
    | (with_reducible apply Keeps.ite)
    | (with_reducible refine Keeps.foldl ?_ (fun _ _ _ => ?_))
    | (with_reducible apply keeps_setFld)
    | (with_reducible refine keeps_modDramSame ?_ _ (fun _ => rfl) (fun _ => rfl))
    | (with_reducible apply keeps_setFlaw)
    | (with_reducible apply keeps_putWord)
    | (with_reducible apply keeps_mergeOut)
    | (with_reducible apply keeps_slGrant)
    | (fail_if_no_progress extract_lets)
    | intro _
    | (with_reducible split)

theorem keeps_slFinish {q₀ : Bool} {b₀ b : Block} (h₀ : Keeps q₀ b₀ b) (c : Fin 32) :
    Keeps q₀ b₀ (b.slFinish c) := by
  unfold Block.slFinish
  repeat' first
    | (with_reducible assumption)
    | (with_reducible exact Keeps.refl)
    | (with_reducible apply Keeps.ite)
    | (with_reducible refine Keeps.foldl ?_ (fun _ _ _ => ?_))
    | (with_reducible apply keeps_putBit)
    | (with_reducible apply keeps_slRelease)
    | (with_reducible apply keeps_raise)
    | (fail_if_no_progress extract_lets)
    | intro _
    | (with_reducible split)

theorem keeps_slHalt {q₀ : Bool} {b₀ b : Block} (h₀ : Keeps q₀ b₀ b) (c : Fin 32) (write : Bool) (off : Nat) :
    Keeps q₀ b₀ (b.slHalt c write off) := by
  unfold Block.slHalt
  repeat' first
    | (with_reducible assumption)
    | (with_reducible exact Keeps.refl)
    | (with_reducible apply Keeps.ite)
    | (with_reducible refine Keeps.foldl ?_ (fun _ _ _ => ?_))
    | (with_reducible apply keeps_modChan)
    | (with_reducible apply keeps_setBit)
    | (with_reducible apply keeps_setFld)
    | (with_reducible apply keeps_putBit)
    | (with_reducible apply keeps_slRelease)
    | (with_reducible apply keeps_raise)
    | (fail_if_no_progress extract_lets)
    | intro _
    | (with_reducible split)

theorem keeps_slReadFail {q₀ : Bool} {b₀ b : Block} (h₀ : Keeps q₀ b₀ b) (c : Fin 32) :
    Keeps q₀ b₀ (b.slReadFail c) := by
  unfold Block.slReadFail
  repeat' first
    | (with_reducible assumption)
    | (with_reducible exact Keeps.refl)
    | (with_reducible apply Keeps.ite)
    | (with_reducible refine Keeps.foldl ?_ (fun _ _ _ => ?_))
    | (with_reducible apply keeps_slHalt)
    | (with_reducible apply keeps_modChan)
    | (fail_if_no_progress extract_lets)
    | intro _
    | (with_reducible split)

theorem keeps_slWrite {q₀ : Bool} {b₀ b : Block} (h₀ : Keeps q₀ b₀ b) (c : Fin 32) :
    Keeps q₀ b₀ (b.slWrite c) := by
  unfold Block.slWrite
  repeat' first
    | (with_reducible assumption)
    | (with_reducible exact Keeps.refl)
    | (with_reducible apply Keeps.ite)
    | (with_reducible refine Keeps.foldl ?_ (fun _ _ _ => ?_))
    | (with_reducible apply keeps_slHalt)
    | (with_reducible apply keeps_wr)
    | (with_reducible apply keeps_emit)
    | (with_reducible apply keeps_dramWrite)
    | (with_reducible apply keeps_modChan)
    | (with_reducible apply keeps_setFld)
    | (fail_if_no_progress extract_lets)
    | intro _
    | (with_reducible split)

theorem keeps_slRead {q₀ : Bool} {b₀ b : Block} (h₀ : Keeps q₀ b₀ b) (c : Fin 32) (data : List Byte) :
    Keeps q₀ b₀ (b.slRead c data) := by
  unfold Block.slRead
  repeat' first
    | (with_reducible assumption)
    | (with_reducible exact Keeps.refl)
    | (with_reducible apply Keeps.ite)
    | (with_reducible refine Keeps.foldl ?_ (fun _ _ _ => ?_))
    | (with_reducible apply Keeps.ite2)
    | (with_reducible refine Keeps.snd (by with_reducible assumption) ?_)
    | (with_reducible refine Keeps.thd (by with_reducible assumption) ?_)
    | (with_reducible apply keeps_slReadFail)
    | (with_reducible apply keeps_modChan)
    | (with_reducible apply keeps_dramRead)
    | (fail_if_no_progress extract_lets)
    | intro _
    | (with_reducible split)

theorem keeps_slPreempt {q₀ : Bool} {b₀ b : Block} (h₀ : Keeps q₀ b₀ b) (c : Fin 32) :
    Keeps q₀ b₀ (b.slPreempt c) := by
  unfold Block.slPreempt
  repeat' first
    | (with_reducible assumption)
    | (with_reducible exact Keeps.refl)
    | (with_reducible apply Keeps.ite)
    | (with_reducible refine Keeps.foldl ?_ (fun _ _ _ => ?_))
    | (with_reducible apply keeps_setFld)
    | (with_reducible apply keeps_bump)
    | (with_reducible refine keeps_modDramSame ?_ _ (fun _ => rfl) (fun _ => rfl))
    | (with_reducible apply keeps_setFlaw)
    | (with_reducible apply keeps_putWord)
    | (with_reducible apply keeps_mergeOut)
    | (with_reducible apply keeps_raise)
    | (with_reducible apply keeps_slGrant)
    | (fail_if_no_progress extract_lets)
    | intro _
    | (with_reducible split)

theorem keeps_slStop {q₀ : Bool} {b₀ b : Block} (h₀ : Keeps q₀ b₀ b) (c : Fin 32) :
    Keeps q₀ b₀ (b.slStop c) := by
  unfold Block.slStop
  repeat' first
    | (with_reducible assumption)
    | (with_reducible exact Keeps.refl)
    | (with_reducible apply Keeps.ite)
    | (with_reducible refine Keeps.foldl ?_ (fun _ _ _ => ?_))
    | (with_reducible apply keeps_slWrite)
    | (with_reducible apply keeps_setFld)
    | (with_reducible apply keeps_slFinish)
    | (with_reducible apply keeps_slRelease)
    | (fail_if_no_progress extract_lets)
    | intro _
    | (with_reducible split)

theorem keeps_slStart {q₀ : Bool} {b₀ b : Block} (h₀ : Keeps q₀ b₀ b) (c : Fin 32) :
    Keeps q₀ b₀ (b.slStart c) := by
  unfold Block.slStart
  repeat' first
    | (with_reducible assumption)
    | (with_reducible exact Keeps.refl)
    | (with_reducible apply Keeps.ite)
    | (with_reducible refine Keeps.foldl ?_ (fun _ _ _ => ?_))
    | (with_reducible apply keeps_raise)
    | (with_reducible apply keeps_setFld)
    | (with_reducible apply keeps_modChan)
    | (with_reducible apply keeps_slGrant)
    | (fail_if_no_progress extract_lets)
    | intro _
    | (with_reducible split)

theorem keeps_slCtl {q₀ : Bool} {b₀ b : Block} (h₀ : Keeps q₀ b₀ b) (c : Fin 32) (v : Word) :
    Keeps q₀ b₀ (b.slCtl c v) := by
  unfold Block.slCtl
  repeat' first
    | (with_reducible assumption)
    | (with_reducible exact Keeps.refl)
    | (with_reducible apply Keeps.ite)
    | (with_reducible refine Keeps.foldl ?_ (fun _ _ _ => ?_))
    | (with_reducible apply keeps_setFld)
    | (with_reducible apply keeps_putBit)
    | (with_reducible apply keeps_slStop)
    | (with_reducible apply keeps_slStart)
    | (fail_if_no_progress extract_lets)
    | intro _
    | (with_reducible split)

theorem keeps_execSlStart {q₀ : Bool} {b₀ : Block} {s t : State} {c : Fin 32} {ssp : Bool} {dsp : Bool} {pri : Bool} {irq : Bool} (e₀ : execSlStart c ssp dsp pri irq s = .next t)
    (h₀ : Keeps q₀ b₀ s.toBlock) : Keeps q₀ b₀ t.toBlock := by
  unfold execSlStart at e₀
  refine Keeps.upd e₀ h₀ (fun _ _ => ?_)
  repeat' first
    | (with_reducible assumption)
    | (with_reducible exact Keeps.refl)
    | (with_reducible apply Keeps.ite)
    | (with_reducible refine Keeps.foldl ?_ (fun _ _ _ => ?_))
    | (with_reducible apply keeps_slCtl)
    | (fail_if_no_progress extract_lets)
    | intro _
    | (with_reducible split)

theorem keeps_execSlStop {q₀ : Bool} {b₀ : Block} {s t : State} {c : Fin 32} (e₀ : execSlStop c s = .next t)
    (h₀ : Keeps q₀ b₀ s.toBlock) : Keeps q₀ b₀ t.toBlock := by
  unfold execSlStop at e₀
  refine Keeps.upd e₀ h₀ (fun _ _ => ?_)
  repeat' first
    | (with_reducible assumption)
    | (with_reducible exact Keeps.refl)
    | (with_reducible apply Keeps.ite)
    | (with_reducible refine Keeps.foldl ?_ (fun _ _ _ => ?_))
    | (with_reducible apply keeps_slStop)
    | (fail_if_no_progress extract_lets)
    | intro _
    | (with_reducible split)

theorem keeps_execSlBeat {q₀ : Bool} {b₀ : Block} {s t : State} {c : Fin 32} {write : Bool} {data : List Byte} (e₀ : execSlBeat c write data s = .next t)
    (h₀ : Keeps q₀ b₀ s.toBlock) : Keeps q₀ b₀ t.toBlock := by
  unfold execSlBeat at e₀
  refine Keeps.upd e₀ h₀ (fun _ _ => ?_)
  repeat' first
    | (with_reducible assumption)
    | (with_reducible exact Keeps.refl)
    | (with_reducible apply Keeps.ite)
    | (with_reducible refine Keeps.foldl ?_ (fun _ _ _ => ?_))
    | (with_reducible apply keeps_slWrite)
    | (with_reducible apply keeps_slRead)
    | (with_reducible apply keeps_slPreempt)
    | (fail_if_no_progress extract_lets)
    | intro _
    | (with_reducible split)

theorem keeps_execSlDone {q₀ : Bool} {b₀ : Block} {s t : State} {c : Fin 32} (e₀ : execSlDone c s = .next t)
    (h₀ : Keeps q₀ b₀ s.toBlock) : Keeps q₀ b₀ t.toBlock := by
  unfold execSlDone at e₀
  refine Keeps.upd e₀ h₀ (fun _ _ => ?_)
  repeat' first
    | (with_reducible assumption)
    | (with_reducible exact Keeps.refl)
    | (with_reducible apply Keeps.ite)
    | (with_reducible refine Keeps.foldl ?_ (fun _ _ _ => ?_))
    | (with_reducible apply keeps_slFinish)
    | (fail_if_no_progress extract_lets)
    | intro _
    | (with_reducible split)

theorem keeps_execSlBusError {q₀ : Bool} {b₀ : Block} {s t : State} {c : Fin 32} {write : Bool} (e₀ : execSlBusError c write s = .next t)
    (h₀ : Keeps q₀ b₀ s.toBlock) : Keeps q₀ b₀ t.toBlock := by
  unfold execSlBusError at e₀
  refine Keeps.upd e₀ h₀ (fun _ _ => ?_)
  repeat' first
    | (with_reducible assumption)
    | (with_reducible exact Keeps.refl)
    | (with_reducible apply Keeps.ite)
    | (with_reducible refine Keeps.foldl ?_ (fun _ _ _ => ?_))
    | (with_reducible apply keeps_slHalt)
    | (with_reducible apply keeps_wr)
    | (with_reducible apply keeps_slReadFail)
    | (fail_if_no_progress extract_lets)
    | intro _
    | (with_reducible split)

end Sys2Proof.Machine
end

