-- ==== Sys2Proof/Laws/KeepsCmds.lean ====
section
/-!
SUPPORT. What the tick, loop instructions, links and registers keep, one lemma for each operation and each command.
-/

set_option Elab.async false
set_option linter.unreachableTactic false
set_option linter.unusedTactic false

namespace Sys2Proof.Machine

/-! ### Machine/Tick.lean -/

theorem keeps_swapExchange {q₀ : Bool} {b₀ b : Block} (h₀ : Keeps q₀ b₀ b) :
    Keeps q₀ b₀ (b.swapExchange) := by
  unfold Block.swapExchange
  repeat' first
    | (with_reducible assumption)
    | (with_reducible exact Keeps.refl)
    | (with_reducible apply Keeps.ite)
    | (with_reducible refine Keeps.foldl ?_ (fun _ _ _ => ?_))
    | (with_reducible apply keeps_wr)
    | (with_reducible apply keeps_modLe)
    | (fail_if_no_progress extract_lets)
    | intro _
    | (with_reducible split)

theorem keeps_advanceTick {b₀ b : Block} (h₀ : Keeps false b₀ b) :
    Keeps false b₀ (b.advanceTick) := by
  unfold Block.advanceTick
  repeat' first
    | (with_reducible assumption)
    | (with_reducible exact Keeps.refl)
    | (with_reducible apply Keeps.ite)
    | (with_reducible refine Keeps.foldl ?_ (fun _ _ _ => ?_))
    | (with_reducible apply keeps_setTick)
    | (with_reducible apply keeps_setCyc)
    | (with_reducible apply keeps_modLe)
    | (with_reducible apply keeps_run)
    | (fail_if_no_progress extract_lets)
    | intro _
    | (with_reducible split)

theorem keeps_swapCoefs {q₀ : Bool} {b₀ b : Block} (h₀ : Keeps q₀ b₀ b) :
    Keeps q₀ b₀ (b.swapCoefs) := by
  unfold Block.swapCoefs
  repeat' first
    | (with_reducible assumption)
    | (with_reducible exact Keeps.refl)
    | (with_reducible apply Keeps.ite)
    | (with_reducible refine Keeps.foldl ?_ (fun _ _ _ => ?_))
    | (with_reducible apply keeps_setFld)
    | (with_reducible apply keeps_modLe)
    | (fail_if_no_progress extract_lets)
    | intro _
    | (with_reducible split)

theorem keeps_swapTables {q₀ : Bool} {b₀ b : Block} (h₀ : Keeps q₀ b₀ b) :
    Keeps q₀ b₀ (b.swapTables) := by
  unfold Block.swapTables
  repeat' first
    | (with_reducible assumption)
    | (with_reducible exact Keeps.refl)
    | (with_reducible apply Keeps.ite)
    | (with_reducible refine Keeps.foldl ?_ (fun _ _ _ => ?_))
    | (with_reducible apply keeps_applyLive)
    | (with_reducible apply keeps_modLe)
    | (with_reducible apply keeps_putTable)
    | (fail_if_no_progress extract_lets)
    | intro _
    | (with_reducible split)

theorem keeps_patchActive {q₀ : Bool} {b₀ b : Block} (h₀ : Keeps q₀ b₀ b) :
    Keeps q₀ b₀ (b.patchActive) := by
  unfold Block.patchActive
  repeat' first
    | (with_reducible assumption)
    | (with_reducible exact Keeps.refl)
    | (with_reducible apply Keeps.ite)
    | (with_reducible refine Keeps.foldl ?_ (fun _ _ _ => ?_))
    | (with_reducible apply keeps_wr)
    | (with_reducible apply keeps_setFld)
    | (with_reducible apply keeps_modLe)
    | (with_reducible apply keeps_raise)
    | (fail_if_no_progress extract_lets)
    | intro _
    | (with_reducible split)

theorem keeps_runSlots {q₀ : Bool} {b₀ b : Block} (h₀ : Keeps q₀ b₀ b) :
    Keeps q₀ b₀ (b.runSlots) := by
  unfold Block.runSlots
  repeat' first
    | (with_reducible assumption)
    | (with_reducible exact Keeps.refl)
    | (with_reducible apply Keeps.ite)
    | (with_reducible refine Keeps.foldl ?_ (fun _ _ _ => ?_))
    | (with_reducible apply keeps_scan)
    | (with_reducible apply keeps_modLe)
    | (with_reducible apply keeps_patchActive)
    | (with_reducible apply keeps_miss)
    | (fail_if_no_progress extract_lets)
    | intro _
    | (with_reducible split)

theorem keeps_takeSample {q₀ : Bool} {b₀ b : Block} (h₀ : Keeps q₀ b₀ b) (x : Sample) :
    Keeps q₀ b₀ (b.takeSample x) := by
  unfold Block.takeSample
  repeat' first
    | (with_reducible assumption)
    | (with_reducible exact Keeps.refl)
    | (with_reducible apply Keeps.ite)
    | (with_reducible refine Keeps.foldl ?_ (fun _ _ _ => ?_))
    | (with_reducible apply keeps_onSurf)
    | (with_reducible apply keeps_setFld)
    | (fail_if_no_progress extract_lets)
    | intro _
    | (with_reducible split)

theorem keeps_takeSamples {q₀ : Bool} {b₀ b : Block} (h₀ : Keeps q₀ b₀ b) (xs : List Sample) :
    Keeps q₀ b₀ (b.takeSamples xs) := by
  unfold Block.takeSamples
  repeat' first
    | (with_reducible assumption)
    | (with_reducible exact Keeps.refl)
    | (with_reducible apply Keeps.ite)
    | (with_reducible refine Keeps.foldl ?_ (fun _ _ _ => ?_))
    | (with_reducible apply keeps_setFld)
    | (with_reducible apply keeps_takeSample)
    | (fail_if_no_progress extract_lets)
    | intro _
    | (with_reducible split)

theorem keeps_takePort {q₀ : Bool} {b₀ b : Block} (h₀ : Keeps q₀ b₀ b) (e : Nat × Word) :
    Keeps q₀ b₀ (b.takePort e) := by
  unfold Block.takePort
  repeat' first
    | (with_reducible assumption)
    | (with_reducible exact Keeps.refl)
    | (with_reducible apply Keeps.ite)
    | (with_reducible refine Keeps.foldl ?_ (fun _ _ _ => ?_))
    | (with_reducible apply keeps_modLe)
    | (with_reducible apply keeps_onAxis)
    | (with_reducible apply keeps_wr)
    | (with_reducible apply keeps_setFld)
    | (fail_if_no_progress extract_lets)
    | intro _
    | (with_reducible split)

theorem keeps_takeHome {q₀ : Bool} {b₀ b : Block} (h₀ : Keeps q₀ b₀ b) (e : Fin 4 × Bool) :
    Keeps q₀ b₀ (b.takeHome e) := by
  unfold Block.takeHome
  repeat' first
    | (with_reducible assumption)
    | (with_reducible exact Keeps.refl)
    | (with_reducible apply Keeps.ite)
    | (with_reducible refine Keeps.foldl ?_ (fun _ _ _ => ?_))
    | (with_reducible apply keeps_onAxis)
    | (with_reducible apply keeps_run)
    | (with_reducible apply keeps_modAxis)
    | (with_reducible apply keeps_setFld)
    | (fail_if_no_progress extract_lets)
    | intro _
    | (with_reducible split)

theorem keeps_takeSupplies {q₀ : Bool} {b₀ b : Block} (h₀ : Keeps q₀ b₀ b) (vin : BitVec 16) (vhold : BitVec 16) :
    Keeps q₀ b₀ (b.takeSupplies vin vhold) := by
  unfold Block.takeSupplies
  repeat' first
    | (with_reducible assumption)
    | (with_reducible exact Keeps.refl)
    | (with_reducible apply Keeps.ite)
    | (with_reducible refine Keeps.foldl ?_ (fun _ _ _ => ?_))
    | (with_reducible apply keeps_setFld)
    | (with_reducible apply keeps_setBit)
    | (fail_if_no_progress extract_lets)
    | intro _
    | (with_reducible split)

theorem keeps_pullIn {q₀ : Bool} {b₀ b : Block} (h₀ : Keeps q₀ b₀ b) (s : Fin 4) :
    Keeps q₀ b₀ (b.pullIn s) := by
  unfold Block.pullIn
  repeat' first
    | (with_reducible assumption)
    | (with_reducible exact Keeps.refl)
    | (with_reducible apply Keeps.ite)
    | (with_reducible refine Keeps.foldl ?_ (fun _ _ _ => ?_))
    | (with_reducible apply keeps_modServo)
    | (with_reducible apply keeps_publish)
    | (with_reducible apply keeps_setPsw)
    | (with_reducible apply keeps_trackCommit)
    | (fail_if_no_progress extract_lets)
    | intro _
    | (with_reducible split)

theorem keeps_goodWord {q₀ : Bool} {b₀ b : Block} (h₀ : Keeps q₀ b₀ b) (s : Fin 4) (w : BitVec 28) :
    Keeps q₀ b₀ (b.goodWord s w) := by
  unfold Block.goodWord
  repeat' first
    | (with_reducible assumption)
    | (with_reducible exact Keeps.refl)
    | (with_reducible apply Keeps.ite)
    | (with_reducible refine Keeps.foldl ?_ (fun _ _ _ => ?_))
    | (with_reducible apply keeps_modServo)
    | (with_reducible apply keeps_setPsw)
    | (with_reducible apply keeps_cmdDone)
    | (fail_if_no_progress extract_lets)
    | intro _
    | (with_reducible split)

theorem keeps_addressLock {q₀ : Bool} {b₀ b : Block} (h₀ : Keeps q₀ b₀ b) (s : Fin 4) (w : Option (BitVec 28)) :
    Keeps q₀ b₀ (b.addressLock s w) := by
  unfold Block.addressLock
  repeat' first
    | (with_reducible assumption)
    | (with_reducible exact Keeps.refl)
    | (with_reducible apply Keeps.ite)
    | (with_reducible refine Keeps.foldl ?_ (fun _ _ _ => ?_))
    | (with_reducible apply keeps_modServo)
    | (with_reducible apply keeps_goodWord)
    | (with_reducible apply keeps_setPsw)
    | (with_reducible apply keeps_trackCommit)
    | (fail_if_no_progress extract_lets)
    | intro _
    | (with_reducible split)

theorem keeps_wobbleUnit {q₀ : Bool} {b₀ b : Block} (h₀ : Keeps q₀ b₀ b) (u : AddrUnit) :
    Keeps q₀ b₀ (b.wobbleUnit u) := by
  unfold Block.wobbleUnit
  repeat' first
    | (with_reducible assumption)
    | (with_reducible exact Keeps.refl)
    | (with_reducible apply Keeps.ite)
    | (with_reducible refine Keeps.foldl ?_ (fun _ _ _ => ?_))
    | (with_reducible apply keeps_onSurf)
    | (with_reducible apply keeps_wr)
    | (with_reducible apply keeps_bump)
    | (with_reducible apply keeps_addressLock)
    | (fail_if_no_progress extract_lets)
    | intro _
    | (with_reducible split)

theorem keeps_sledStep {q₀ : Bool} {b₀ b : Block} (h₀ : Keeps q₀ b₀ b) (s : Fin 4) :
    Keeps q₀ b₀ (b.sledStep s) := by
  unfold Block.sledStep
  repeat' first
    | (with_reducible assumption)
    | (with_reducible exact Keeps.refl)
    | (with_reducible apply Keeps.ite)
    | (with_reducible refine Keeps.foldl ?_ (fun _ _ _ => ?_))
    | (with_reducible apply keeps_writeSledReq)
    | (fail_if_no_progress extract_lets)
    | intro _
    | (with_reducible split)

theorem keeps_surfPrograms {q₀ : Bool} {b₀ b : Block} (h₀ : Keeps q₀ b₀ b) (s : Fin 4) :
    Keeps q₀ b₀ (b.surfPrograms s) := by
  unfold Block.surfPrograms
  repeat' first
    | (with_reducible assumption)
    | (with_reducible exact Keeps.refl)
    | (with_reducible apply Keeps.ite)
    | (with_reducible refine Keeps.foldl ?_ (fun _ _ _ => ?_))
    | (with_reducible apply keeps_onSurf)
    | (with_reducible apply keeps_setFld)
    | (with_reducible apply keeps_pullIn)
    | (with_reducible apply keeps_sledStep)
    | (with_reducible apply keeps_writeSaReq)
    | (fail_if_no_progress extract_lets)
    | intro _
    | (with_reducible split)

theorem keeps_streamSlots {q₀ : Bool} {b₀ b : Block} (h₀ : Keeps q₀ b₀ b) (s : Fin 4) (p : Pass) (last : Nat) :
    Keeps q₀ b₀ (b.streamSlots s p last) := by
  unfold Block.streamSlots
  repeat' first
    | (with_reducible assumption)
    | (with_reducible exact Keeps.refl)
    | (with_reducible apply Keeps.ite)
    | (with_reducible refine Keeps.foldl ?_ (fun _ _ _ => ?_))
    | (with_reducible apply keeps_sedge)
    | (fail_if_no_progress extract_lets)
    | intro _
    | (with_reducible split)

theorem keeps_streamRunning {q₀ : Bool} {b₀ b : Block} (h₀ : Keeps q₀ b₀ b) (s : Fin 4) :
    Keeps q₀ b₀ (b.streamRunning s) := by
  unfold Block.streamRunning
  repeat' first
    | (with_reducible assumption)
    | (with_reducible exact Keeps.refl)
    | (with_reducible apply Keeps.ite)
    | (with_reducible refine Keeps.foldl ?_ (fun _ _ _ => ?_))
    | (with_reducible apply keeps_streamSlots)
    | (with_reducible apply keeps_modWp)
    | (fail_if_no_progress extract_lets)
    | intro _
    | (with_reducible split)

theorem keeps_swathSchedule {q₀ : Bool} {b₀ b : Block} (h₀ : Keeps q₀ b₀ b) (s : Fin 4) :
    Keeps q₀ b₀ (b.swathSchedule s) := by
  unfold Block.swathSchedule
  repeat' first
    | (with_reducible assumption)
    | (with_reducible exact Keeps.refl)
    | (with_reducible apply Keeps.ite)
    | (with_reducible refine Keeps.foldl ?_ (fun _ _ _ => ?_))
    | (with_reducible apply keeps_streamRunning)
    | (with_reducible apply keeps_streamSlots)
    | (with_reducible apply keeps_modWp)
    | (fail_if_no_progress extract_lets)
    | intro _
    | (with_reducible split)

theorem keeps_timebase {q₀ : Bool} {b₀ b : Block} (h₀ : Keeps q₀ b₀ b) (s : Fin 4) :
    Keeps q₀ b₀ (b.timebase s) := by
  unfold Block.timebase
  repeat' first
    | (with_reducible assumption)
    | (with_reducible exact Keeps.refl)
    | (with_reducible apply Keeps.ite)
    | (with_reducible refine Keeps.foldl ?_ (fun _ _ _ => ?_))
    | (with_reducible apply keeps_sedge)
    | (fail_if_no_progress extract_lets)
    | intro _
    | (with_reducible split)

theorem keeps_linkTick {q₀ : Bool} {b₀ b : Block} (h₀ : Keeps q₀ b₀ b) (s : Fin 4) :
    Keeps q₀ b₀ (b.linkTick s) := by
  unfold Block.linkTick
  repeat' first
    | (with_reducible assumption)
    | (with_reducible exact Keeps.refl)
    | (with_reducible apply Keeps.ite)
    | (with_reducible refine Keeps.foldl ?_ (fun _ _ _ => ?_))
    | (with_reducible apply keeps_onSurf)
    | (with_reducible apply keeps_timebase)
    | (with_reducible apply keeps_sendPower)
    | (with_reducible apply keeps_swathSchedule)
    | (with_reducible apply keeps_modSe)
    | (fail_if_no_progress extract_lets)
    | intro _
    | (with_reducible split)

theorem keeps_residual {q₀ : Bool} {b₀ b : Block} (h₀ : Keeps q₀ b₀ b) (s : Fin 4) :
    Keeps q₀ b₀ (b.residual s) := by
  unfold Block.residual
  repeat' first
    | (with_reducible assumption)
    | (with_reducible exact Keeps.refl)
    | (with_reducible apply Keeps.ite)
    | (with_reducible refine Keeps.foldl ?_ (fun _ _ _ => ?_))
    | (with_reducible apply keeps_onSurf)
    | (with_reducible apply keeps_modCalSurf)
    | (with_reducible apply keeps_setFld)
    | (with_reducible apply keeps_raiseSurf)
    | (fail_if_no_progress extract_lets)
    | intro _
    | (with_reducible split)

theorem keeps_deferTick {q₀ : Bool} {b₀ b : Block} (h₀ : Keeps q₀ b₀ b) (waits : BitVec 7) :
    Keeps q₀ b₀ (b.deferTick waits) := by
  unfold Block.deferTick
  repeat' first
    | (with_reducible assumption)
    | (with_reducible exact Keeps.refl)
    | (with_reducible apply Keeps.ite)
    | (with_reducible refine Keeps.foldl ?_ (fun _ _ _ => ?_))
    | (with_reducible apply keeps_setFld)
    | (with_reducible apply keeps_modCal)
    | (fail_if_no_progress extract_lets)
    | intro _
    | (with_reducible split)

theorem keeps_persistTick {q₀ : Bool} {b₀ b : Block} (h₀ : Keeps q₀ b₀ b) (waits : Bool) :
    Keeps q₀ b₀ (b.persistTick waits) := by
  unfold Block.persistTick
  repeat' first
    | (with_reducible assumption)
    | (with_reducible exact Keeps.refl)
    | (with_reducible apply Keeps.ite)
    | (with_reducible refine Keeps.foldl ?_ (fun _ _ _ => ?_))
    | (with_reducible apply keeps_modCal)
    | (with_reducible apply keeps_persistTel)
    | (fail_if_no_progress extract_lets)
    | intro _
    | (with_reducible split)

theorem keeps_ingestTick {q₀ : Bool} {b₀ b : Block} (h₀ : Keeps q₀ b₀ b) :
    Keeps q₀ b₀ (b.ingestTick) := by
  unfold Block.ingestTick
  repeat' first
    | (with_reducible assumption)
    | (with_reducible exact Keeps.refl)
    | (with_reducible apply Keeps.ite)
    | (with_reducible refine Keeps.foldl ?_ (fun _ _ _ => ?_))
    | (with_reducible apply keeps_modHq)
    | (with_reducible apply keeps_modStore)
    | (fail_if_no_progress extract_lets)
    | intro _
    | (with_reducible split)

theorem keeps_melarTick {q₀ : Bool} {b₀ b : Block} (h₀ : Keeps q₀ b₀ b) :
    Keeps q₀ b₀ (b.melarTick) := by
  unfold Block.melarTick
  repeat' first
    | (with_reducible assumption)
    | (with_reducible exact Keeps.refl)
    | (with_reducible apply Keeps.ite)
    | (with_reducible refine Keeps.foldl ?_ (fun _ _ _ => ?_))
    | (with_reducible apply keeps_modMl)
    | (with_reducible apply keeps_emit)
    | (fail_if_no_progress extract_lets)
    | intro _
    | (with_reducible split)

theorem keeps_memTick {q₀ : Bool} {b₀ b : Block} (h₀ : Keeps q₀ b₀ b) (strikes : List (Nat × Nat)) (refused : Bool) :
    Keeps q₀ b₀ (b.memTick strikes refused) := by
  unfold Block.memTick
  repeat' first
    | (with_reducible assumption)
    | (with_reducible exact Keeps.refl)
    | (with_reducible apply Keeps.ite)
    | (with_reducible refine Keeps.foldl ?_ (fun _ _ _ => ?_))
    | (with_reducible apply keeps_strike)
    | (with_reducible apply keeps_dramTick)
    | (with_reducible apply keeps_scrubTick)
    | (with_reducible refine keeps_modDramSame ?_ _ (fun _ => rfl) (fun _ => rfl))
    | (with_reducible apply keeps_setFlaw)
    | (with_reducible apply keeps_putWord)
    | (with_reducible apply keeps_mergeOut)
    | (with_reducible apply keeps_mcInitEnd)
    | (fail_if_no_progress extract_lets)
    | intro _
    | (with_reducible split)

theorem keeps_execTickPreamble {b₀ : Block} {s t : State} {e : TickEnv} (e₀ : execTickPreamble e s = .next t)
    (h₀ : Keeps false b₀ s.toBlock) : Keeps false b₀ t.toBlock := by
  unfold execTickPreamble at e₀
  refine Keeps.upd e₀ h₀ (fun _ _ => ?_)
  repeat' first
    | (with_reducible assumption)
    | (with_reducible exact Keeps.refl)
    | (with_reducible apply Keeps.ite)
    | (with_reducible refine Keeps.foldl ?_ (fun _ _ _ => ?_))
    | (with_reducible apply keeps_run)
    | (with_reducible apply keeps_overrun)
    | (with_reducible apply keeps_swapExchange)
    | (with_reducible apply keeps_advanceTick)
    | (with_reducible apply keeps_swapCoefs)
    | (with_reducible apply keeps_swapTables)
    | (with_reducible apply keeps_takePort)
    | (with_reducible apply keeps_takeSamples)
    | (with_reducible apply keeps_takeHome)
    | (with_reducible apply keeps_takeSupplies)
    | (with_reducible apply keeps_setBit)
    | (with_reducible apply keeps_wobbleUnit)
    | (with_reducible apply keeps_axPreamble)
    | (with_reducible apply keeps_surfPrograms)
    | (with_reducible apply keeps_residual)
    | (with_reducible apply keeps_linkTick)
    | (with_reducible apply keeps_memTick)
    | (with_reducible apply keeps_ptKick)
    | (with_reducible apply keeps_ingestTick)
    | (with_reducible apply keeps_melarTick)
    | (with_reducible apply keeps_discSteps)
    | (with_reducible apply keeps_deferTick)
    | (with_reducible apply keeps_persistTick)
    | (with_reducible apply keeps_mirApply)
    | (with_reducible apply keeps_runSlots)
    | (fail_if_no_progress extract_lets)
    | intro _
    | (with_reducible split)

theorem keeps_recordCuts {q₀ : Bool} {b₀ b : Block} (h₀ : Keeps q₀ b₀ b) :
    Keeps q₀ b₀ (b.recordCuts) := by
  unfold Block.recordCuts
  repeat' first
    | (with_reducible assumption)
    | (with_reducible exact Keeps.refl)
    | (with_reducible apply Keeps.ite)
    | (with_reducible refine Keeps.foldl ?_ (fun _ _ _ => ?_))
    | (with_reducible apply keeps_putBit)
    | (with_reducible apply keeps_setFld)
    | (with_reducible apply keeps_postClose)
    | (fail_if_no_progress extract_lets)
    | intro _
    | (with_reducible split)

theorem keeps_limitRuns {q₀ : Bool} {b₀ b : Block} (h₀ : Keeps q₀ b₀ b) (s : Fin 4) :
    Keeps q₀ b₀ (b.limitRuns s) := by
  unfold Block.limitRuns
  repeat' first
    | (with_reducible assumption)
    | (with_reducible exact Keeps.refl)
    | (with_reducible apply Keeps.ite)
    | (with_reducible refine Keeps.foldl ?_ (fun _ _ _ => ?_))
    | (with_reducible apply keeps_onSurf)
    | (with_reducible apply keeps_modServo)
    | (with_reducible apply keeps_postClose)
    | (fail_if_no_progress extract_lets)
    | intro _
    | (with_reducible split)

theorem keeps_execTickClose {q₀ : Bool} {b₀ : Block} {s t : State} (e₀ : execTickClose s = .next t)
    (h₀ : Keeps q₀ b₀ s.toBlock) : Keeps q₀ b₀ t.toBlock := by
  unfold execTickClose at e₀
  refine Keeps.upd e₀ h₀ (fun _ _ => ?_)
  repeat' first
    | (with_reducible assumption)
    | (with_reducible exact Keeps.refl)
    | (with_reducible apply Keeps.ite)
    | (with_reducible refine Keeps.foldl ?_ (fun _ _ _ => ?_))
    | (with_reducible apply keeps_overrun)
    | (with_reducible apply keeps_applyAllHeld)
    | (with_reducible apply keeps_setFld)
    | (with_reducible apply keeps_recordCuts)
    | (with_reducible apply keeps_onSpin)
    | (with_reducible apply keeps_spDecide)
    | (with_reducible apply keeps_limitRuns)
    | (with_reducible apply keeps_post)
    | (with_reducible apply keeps_modLe)
    | (with_reducible apply keeps_setCyc)
    | (with_reducible apply keeps_raise)
    | (fail_if_no_progress extract_lets)
    | intro _
    | (with_reducible split)

theorem keeps_execSlotCut {q₀ : Bool} {b₀ : Block} {s t : State} (e₀ : execSlotCut s = .next t)
    (h₀ : Keeps q₀ b₀ s.toBlock) : Keeps q₀ b₀ t.toBlock := by
  unfold execSlotCut at e₀
  refine Keeps.upd e₀ h₀ (fun _ _ => ?_)
  repeat' first
    | (with_reducible assumption)
    | (with_reducible exact Keeps.refl)
    | (with_reducible apply Keeps.ite)
    | (with_reducible refine Keeps.foldl ?_ (fun _ _ _ => ?_))
    | (with_reducible apply keeps_cutRun)
    | (fail_if_no_progress extract_lets)
    | intro _
    | (with_reducible split)

theorem keeps_execTickOverrun {q₀ : Bool} {b₀ : Block} {s t : State} (e₀ : execTickOverrun s = .next t)
    (h₀ : Keeps q₀ b₀ s.toBlock) : Keeps q₀ b₀ t.toBlock := by
  unfold execTickOverrun at e₀
  refine Keeps.upd e₀ h₀ (fun _ _ => ?_)
  repeat' first
    | (with_reducible assumption)
    | (with_reducible exact Keeps.refl)
    | (with_reducible apply Keeps.ite)
    | (with_reducible refine Keeps.foldl ?_ (fun _ _ _ => ?_))
    | (with_reducible apply keeps_overrun)
    | (fail_if_no_progress extract_lets)
    | intro _
    | (with_reducible split)

theorem keeps_thirdMiss {q₀ : Bool} {b₀ b : Block} (h₀ : Keeps q₀ b₀ b) (k : Nat) :
    Keeps q₀ b₀ (b.thirdMiss k) := by
  unfold Block.thirdMiss
  repeat' first
    | (with_reducible assumption)
    | (with_reducible exact Keeps.refl)
    | (with_reducible apply Keeps.ite)
    | (with_reducible refine Keeps.foldl ?_ (fun _ _ _ => ?_))
    | (with_reducible apply keeps_setFld)
    | (with_reducible apply keeps_modLe)
    | (with_reducible apply keeps_onSurf)
    | (with_reducible apply keeps_safeState)
    | (with_reducible apply keeps_onSpin)
    | (with_reducible apply keeps_spThirdMiss)
    | (with_reducible apply keeps_onAxis)
    | (with_reducible apply keeps_stallAxis)
    | (fail_if_no_progress extract_lets)
    | intro _
    | (with_reducible split)

theorem keeps_execThirdMiss {q₀ : Bool} {b₀ : Block} {s t : State} {k : Fin 48} (e₀ : execThirdMiss k s = .next t)
    (h₀ : Keeps q₀ b₀ s.toBlock) : Keeps q₀ b₀ t.toBlock := by
  unfold execThirdMiss at e₀
  refine Keeps.upd e₀ h₀ (fun _ _ => ?_)
  repeat' first
    | (with_reducible assumption)
    | (with_reducible exact Keeps.refl)
    | (with_reducible apply Keeps.ite)
    | (with_reducible refine Keeps.foldl ?_ (fun _ _ _ => ?_))
    | (with_reducible apply keeps_thirdMiss)
    | (fail_if_no_progress extract_lets)
    | intro _
    | (with_reducible split)

theorem keeps_execMicrocodeParityError {q₀ : Bool} {b₀ : Block} {s t : State} {mem : LeMem} {addr : BitVec 14} {used : BitVec 11} (e₀ : execMicrocodeParityError mem addr used s = .next t)
    (h₀ : Keeps q₀ b₀ s.toBlock) : Keeps q₀ b₀ t.toBlock := by
  unfold execMicrocodeParityError at e₀
  refine Keeps.upd e₀ h₀ (fun _ _ => ?_)
  repeat' first
    | (with_reducible assumption)
    | (with_reducible exact Keeps.refl)
    | (with_reducible apply Keeps.ite)
    | (with_reducible refine Keeps.foldl ?_ (fun _ _ _ => ?_))
    | (with_reducible apply keeps_run)
    | (with_reducible apply keeps_putBit)
    | (with_reducible apply keeps_bump)
    | (with_reducible apply keeps_setFld)
    | (with_reducible apply keeps_raise)
    | (with_reducible apply keeps_cutRun)
    | (with_reducible apply keeps_modLe)
    | (fail_if_no_progress extract_lets)
    | intro _
    | (with_reducible split)

theorem keeps_execTimeoutExpiry {q₀ : Bool} {b₀ : Block} {s t : State} {watchdog : Bool} (e₀ : execTimeoutExpiry watchdog s = .next t)
    (h₀ : Keeps q₀ b₀ s.toBlock) : Keeps q₀ b₀ t.toBlock := by
  unfold execTimeoutExpiry at e₀
  refine Keeps.upd e₀ h₀ (fun _ _ => ?_)
  repeat' first
    | (with_reducible assumption)
    | (with_reducible exact Keeps.refl)
    | (with_reducible apply Keeps.ite)
    | (with_reducible refine Keeps.foldl ?_ (fun _ _ _ => ?_))
    | (with_reducible apply keeps_raise)
    | (with_reducible apply keeps_onSpin)
    | (with_reducible apply keeps_spStop)
    | (fail_if_no_progress extract_lets)
    | intro _
    | (with_reducible split)

/-! ### Machine/LoopInstr.lean -/

theorem keeps_execOpNop {q₀ : Bool} {b₀ : Block} {s t : State} (e₀ : execOpNop s = .next t)
    (h₀ : Keeps q₀ b₀ s.toBlock) : Keeps q₀ b₀ t.toBlock := by
  unfold execOpNop at e₀
  refine Keeps.upd e₀ h₀ (fun _ _ => ?_)
  repeat' first
    | (with_reducible assumption)
    | (with_reducible exact Keeps.refl)
    | (with_reducible apply Keeps.ite)
    | (with_reducible refine Keeps.foldl ?_ (fun _ _ _ => ?_))
    | (with_reducible apply keeps_loopStep)
    | (fail_if_no_progress extract_lets)
    | intro _
    | (with_reducible split)

theorem keeps_execOpEnd {q₀ : Bool} {b₀ : Block} {s t : State} (e₀ : execOpEnd s = .next t)
    (h₀ : Keeps q₀ b₀ s.toBlock) : Keeps q₀ b₀ t.toBlock := by
  unfold execOpEnd at e₀
  refine Keeps.upd e₀ h₀ (fun _ _ => ?_)
  repeat' first
    | (with_reducible assumption)
    | (with_reducible exact Keeps.refl)
    | (with_reducible apply Keeps.ite)
    | (with_reducible refine Keeps.foldl ?_ (fun _ _ _ => ?_))
    | (with_reducible apply keeps_run)
    | (with_reducible apply keeps_cutRun)
    | (with_reducible apply keeps_overrun)
    | (with_reducible apply keeps_commit)
    | (fail_if_no_progress extract_lets)
    | intro _
    | (with_reducible split)

theorem keeps_execOpLd {q₀ : Bool} {b₀ : Block} {s t : State} {d : Fin 32} {n : Fin 8} {absolute : Bool} {addr : BitVec 13} (e₀ : execOpLd d n absolute addr s = .next t)
    (h₀ : Keeps q₀ b₀ s.toBlock) : Keeps q₀ b₀ t.toBlock := by
  unfold execOpLd at e₀
  refine Keeps.upd e₀ h₀ (fun _ _ => ?_)
  repeat' first
    | (with_reducible assumption)
    | (with_reducible exact Keeps.refl)
    | (with_reducible apply Keeps.ite)
    | (with_reducible refine Keeps.foldl ?_ (fun _ _ _ => ?_))
    | (with_reducible apply keeps_loopStep)
    | (fail_if_no_progress extract_lets)
    | intro _
    | (with_reducible split)

theorem keeps_execOpSt {q₀ : Bool} {b₀ : Block} {s t : State} {a : Fin 32} {n : Fin 8} {absolute : Bool} {addr : BitVec 13} (e₀ : execOpSt a n absolute addr s = .next t)
    (h₀ : Keeps q₀ b₀ s.toBlock) : Keeps q₀ b₀ t.toBlock := by
  unfold execOpSt at e₀
  refine Keeps.upd e₀ h₀ (fun _ _ => ?_)
  repeat' first
    | (with_reducible assumption)
    | (with_reducible exact Keeps.refl)
    | (with_reducible apply Keeps.ite)
    | (with_reducible refine Keeps.foldl ?_ (fun _ _ _ => ?_))
    | (with_reducible apply keeps_loopStep)
    | (fail_if_no_progress extract_lets)
    | intro _
    | (with_reducible split)

theorem keeps_execOpIn {q₀ : Bool} {b₀ : Block} {s t : State} {d : Fin 32} {port : BitVec 10} (e₀ : execOpIn d port s = .next t)
    (h₀ : Keeps q₀ b₀ s.toBlock) : Keeps q₀ b₀ t.toBlock := by
  unfold execOpIn at e₀
  refine Keeps.upd e₀ h₀ (fun _ _ => ?_)
  repeat' first
    | (with_reducible assumption)
    | (with_reducible exact Keeps.refl)
    | (with_reducible apply Keeps.ite)
    | (with_reducible refine Keeps.foldl ?_ (fun _ _ _ => ?_))
    | (with_reducible apply keeps_loopStep)
    | (fail_if_no_progress extract_lets)
    | intro _
    | (with_reducible split)

theorem keeps_execOpOut {q₀ : Bool} {b₀ : Block} {s t : State} {a : Fin 32} {port : BitVec 10} (e₀ : execOpOut a port s = .next t)
    (h₀ : Keeps q₀ b₀ s.toBlock) : Keeps q₀ b₀ t.toBlock := by
  unfold execOpOut at e₀
  refine Keeps.upd e₀ h₀ (fun _ _ => ?_)
  repeat' first
    | (with_reducible assumption)
    | (with_reducible exact Keeps.refl)
    | (with_reducible apply Keeps.ite)
    | (with_reducible refine Keeps.foldl ?_ (fun _ _ _ => ?_))
    | (with_reducible apply keeps_loopStep)
    | (fail_if_no_progress extract_lets)
    | intro _
    | (with_reducible split)

theorem keeps_execOpLdi {q₀ : Bool} {b₀ : Block} {s t : State} {d : Fin 32} {hi : Bool} {imm : BitVec 16} (e₀ : execOpLdi d hi imm s = .next t)
    (h₀ : Keeps q₀ b₀ s.toBlock) : Keeps q₀ b₀ t.toBlock := by
  unfold execOpLdi at e₀
  refine Keeps.upd e₀ h₀ (fun _ _ => ?_)
  repeat' first
    | (with_reducible assumption)
    | (with_reducible exact Keeps.refl)
    | (with_reducible apply Keeps.ite)
    | (with_reducible refine Keeps.foldl ?_ (fun _ _ _ => ?_))
    | (with_reducible apply keeps_loopStep)
    | (fail_if_no_progress extract_lets)
    | intro _
    | (with_reducible split)

theorem keeps_execOpMov {q₀ : Bool} {b₀ : Block} {s t : State} {d : Fin 32} {a : Fin 32} (e₀ : execOpMov d a s = .next t)
    (h₀ : Keeps q₀ b₀ s.toBlock) : Keeps q₀ b₀ t.toBlock := by
  unfold execOpMov at e₀
  refine Keeps.upd e₀ h₀ (fun _ _ => ?_)
  repeat' first
    | (with_reducible assumption)
    | (with_reducible exact Keeps.refl)
    | (with_reducible apply Keeps.ite)
    | (with_reducible refine Keeps.foldl ?_ (fun _ _ _ => ?_))
    | (with_reducible apply keeps_loopStep)
    | (fail_if_no_progress extract_lets)
    | intro _
    | (with_reducible split)

theorem keeps_execOpAdd {q₀ : Bool} {b₀ : Block} {s t : State} {d : Fin 32} {a : Fin 32} {b' : Fin 32} (e₀ : execOpAdd d a b' s = .next t)
    (h₀ : Keeps q₀ b₀ s.toBlock) : Keeps q₀ b₀ t.toBlock := by
  unfold execOpAdd at e₀
  refine Keeps.upd e₀ h₀ (fun _ _ => ?_)
  repeat' first
    | (with_reducible assumption)
    | (with_reducible exact Keeps.refl)
    | (with_reducible apply Keeps.ite)
    | (with_reducible refine Keeps.foldl ?_ (fun _ _ _ => ?_))
    | (with_reducible apply keeps_loopStep)
    | (fail_if_no_progress extract_lets)
    | intro _
    | (with_reducible split)

theorem keeps_execOpSub {q₀ : Bool} {b₀ : Block} {s t : State} {d : Fin 32} {a : Fin 32} {b' : Fin 32} (e₀ : execOpSub d a b' s = .next t)
    (h₀ : Keeps q₀ b₀ s.toBlock) : Keeps q₀ b₀ t.toBlock := by
  unfold execOpSub at e₀
  refine Keeps.upd e₀ h₀ (fun _ _ => ?_)
  repeat' first
    | (with_reducible assumption)
    | (with_reducible exact Keeps.refl)
    | (with_reducible apply Keeps.ite)
    | (with_reducible refine Keeps.foldl ?_ (fun _ _ _ => ?_))
    | (with_reducible apply keeps_loopStep)
    | (fail_if_no_progress extract_lets)
    | intro _
    | (with_reducible split)

theorem keeps_execOpMulx {q₀ : Bool} {b₀ : Block} {s t : State} {d : Fin 32} {a : Fin 32} {b' : Fin 32} (e₀ : execOpMulx d a b' s = .next t)
    (h₀ : Keeps q₀ b₀ s.toBlock) : Keeps q₀ b₀ t.toBlock := by
  unfold execOpMulx at e₀
  refine Keeps.upd e₀ h₀ (fun _ _ => ?_)
  repeat' first
    | (with_reducible assumption)
    | (with_reducible exact Keeps.refl)
    | (with_reducible apply Keeps.ite)
    | (with_reducible refine Keeps.foldl ?_ (fun _ _ _ => ?_))
    | (with_reducible apply keeps_loopStep)
    | (fail_if_no_progress extract_lets)
    | intro _
    | (with_reducible split)

theorem keeps_execOpShl {q₀ : Bool} {b₀ : Block} {s t : State} {d : Fin 32} {a : Fin 32} {n : Fin 32} (e₀ : execOpShl d a n s = .next t)
    (h₀ : Keeps q₀ b₀ s.toBlock) : Keeps q₀ b₀ t.toBlock := by
  unfold execOpShl at e₀
  refine Keeps.upd e₀ h₀ (fun _ _ => ?_)
  repeat' first
    | (with_reducible assumption)
    | (with_reducible exact Keeps.refl)
    | (with_reducible apply Keeps.ite)
    | (with_reducible refine Keeps.foldl ?_ (fun _ _ _ => ?_))
    | (with_reducible apply keeps_loopStep)
    | (fail_if_no_progress extract_lets)
    | intro _
    | (with_reducible split)

theorem keeps_execOpShr {q₀ : Bool} {b₀ : Block} {s t : State} {d : Fin 32} {a : Fin 32} {n : Fin 32} (e₀ : execOpShr d a n s = .next t)
    (h₀ : Keeps q₀ b₀ s.toBlock) : Keeps q₀ b₀ t.toBlock := by
  unfold execOpShr at e₀
  refine Keeps.upd e₀ h₀ (fun _ _ => ?_)
  repeat' first
    | (with_reducible assumption)
    | (with_reducible exact Keeps.refl)
    | (with_reducible apply Keeps.ite)
    | (with_reducible refine Keeps.foldl ?_ (fun _ _ _ => ?_))
    | (with_reducible apply keeps_loopStep)
    | (fail_if_no_progress extract_lets)
    | intro _
    | (with_reducible split)

theorem keeps_execOpMin {q₀ : Bool} {b₀ : Block} {s t : State} {d : Fin 32} {a : Fin 32} {b' : Fin 32} (e₀ : execOpMin d a b' s = .next t)
    (h₀ : Keeps q₀ b₀ s.toBlock) : Keeps q₀ b₀ t.toBlock := by
  unfold execOpMin at e₀
  refine Keeps.upd e₀ h₀ (fun _ _ => ?_)
  repeat' first
    | (with_reducible assumption)
    | (with_reducible exact Keeps.refl)
    | (with_reducible apply Keeps.ite)
    | (with_reducible refine Keeps.foldl ?_ (fun _ _ _ => ?_))
    | (with_reducible apply keeps_loopStep)
    | (fail_if_no_progress extract_lets)
    | intro _
    | (with_reducible split)

theorem keeps_execOpMax {q₀ : Bool} {b₀ : Block} {s t : State} {d : Fin 32} {a : Fin 32} {b' : Fin 32} (e₀ : execOpMax d a b' s = .next t)
    (h₀ : Keeps q₀ b₀ s.toBlock) : Keeps q₀ b₀ t.toBlock := by
  unfold execOpMax at e₀
  refine Keeps.upd e₀ h₀ (fun _ _ => ?_)
  repeat' first
    | (with_reducible assumption)
    | (with_reducible exact Keeps.refl)
    | (with_reducible apply Keeps.ite)
    | (with_reducible refine Keeps.foldl ?_ (fun _ _ _ => ?_))
    | (with_reducible apply keeps_loopStep)
    | (fail_if_no_progress extract_lets)
    | intro _
    | (with_reducible split)

theorem keeps_execOpClmp {q₀ : Bool} {b₀ : Block} {s t : State} {d : Fin 32} {a : Fin 32} {b' : Fin 32} (e₀ : execOpClmp d a b' s = .next t)
    (h₀ : Keeps q₀ b₀ s.toBlock) : Keeps q₀ b₀ t.toBlock := by
  unfold execOpClmp at e₀
  refine Keeps.upd e₀ h₀ (fun _ _ => ?_)
  repeat' first
    | (with_reducible assumption)
    | (with_reducible exact Keeps.refl)
    | (with_reducible apply Keeps.ite)
    | (with_reducible refine Keeps.foldl ?_ (fun _ _ _ => ?_))
    | (with_reducible apply keeps_loopStep)
    | (fail_if_no_progress extract_lets)
    | intro _
    | (with_reducible split)

theorem keeps_execOpAbs {q₀ : Bool} {b₀ : Block} {s t : State} {d : Fin 32} {a : Fin 32} (e₀ : execOpAbs d a s = .next t)
    (h₀ : Keeps q₀ b₀ s.toBlock) : Keeps q₀ b₀ t.toBlock := by
  unfold execOpAbs at e₀
  refine Keeps.upd e₀ h₀ (fun _ _ => ?_)
  repeat' first
    | (with_reducible assumption)
    | (with_reducible exact Keeps.refl)
    | (with_reducible apply Keeps.ite)
    | (with_reducible refine Keeps.foldl ?_ (fun _ _ _ => ?_))
    | (with_reducible apply keeps_loopStep)
    | (fail_if_no_progress extract_lets)
    | intro _
    | (with_reducible split)

theorem keeps_execOpMvm {q₀ : Bool} {b₀ : Block} {s t : State} {d : Fin 32} {a : Fin 32} {rows : Fin 16} {cols : Fin 16} {acc : Bool} (e₀ : execOpMvm d a rows cols acc s = .next t)
    (h₀ : Keeps q₀ b₀ s.toBlock) : Keeps q₀ b₀ t.toBlock := by
  unfold execOpMvm at e₀
  refine Keeps.upd e₀ h₀ (fun _ _ => ?_)
  repeat' first
    | (with_reducible assumption)
    | (with_reducible exact Keeps.refl)
    | (with_reducible apply Keeps.ite)
    | (with_reducible refine Keeps.foldl ?_ (fun _ _ _ => ?_))
    | (with_reducible apply keeps_loopStep)
    | (fail_if_no_progress extract_lets)
    | intro _
    | (with_reducible split)

theorem keeps_execOpSetcp {q₀ : Bool} {b₀ : Block} {s t : State} {off : BitVec 12} (e₀ : execOpSetcp off s = .next t)
    (h₀ : Keeps q₀ b₀ s.toBlock) : Keeps q₀ b₀ t.toBlock := by
  unfold execOpSetcp at e₀
  refine Keeps.upd e₀ h₀ (fun _ _ => ?_)
  repeat' first
    | (with_reducible assumption)
    | (with_reducible exact Keeps.refl)
    | (with_reducible apply Keeps.ite)
    | (with_reducible refine Keeps.foldl ?_ (fun _ _ _ => ?_))
    | (with_reducible apply keeps_loopStep)
    | (fail_if_no_progress extract_lets)
    | intro _
    | (with_reducible split)

theorem keeps_execOpBr {q₀ : Bool} {b₀ : Block} {s t : State} {c : Cond} {a : Fin 32} {skip : BitVec 8} (e₀ : execOpBr c a skip s = .next t)
    (h₀ : Keeps q₀ b₀ s.toBlock) : Keeps q₀ b₀ t.toBlock := by
  unfold execOpBr at e₀
  refine Keeps.upd e₀ h₀ (fun _ _ => ?_)
  repeat' first
    | (with_reducible assumption)
    | (with_reducible exact Keeps.refl)
    | (with_reducible apply Keeps.ite)
    | (with_reducible refine Keeps.foldl ?_ (fun _ _ _ => ?_))
    | (with_reducible apply keeps_run)
    | (with_reducible apply keeps_loopStep)
    | (fail_if_no_progress extract_lets)
    | intro _
    | (with_reducible split)

theorem keeps_execOpSincos {q₀ : Bool} {b₀ : Block} {s t : State} {d : Fin 32} {a : Fin 32} (e₀ : execOpSincos d a s = .next t)
    (h₀ : Keeps q₀ b₀ s.toBlock) : Keeps q₀ b₀ t.toBlock := by
  unfold execOpSincos at e₀
  refine Keeps.upd e₀ h₀ (fun _ _ => ?_)
  repeat' first
    | (with_reducible assumption)
    | (with_reducible exact Keeps.refl)
    | (with_reducible apply Keeps.ite)
    | (with_reducible refine Keeps.foldl ?_ (fun _ _ _ => ?_))
    | (with_reducible apply keeps_loopStep)
    | (fail_if_no_progress extract_lets)
    | intro _
    | (with_reducible split)

theorem keeps_execOpRot {q₀ : Bool} {b₀ : Block} {s t : State} {d : Fin 32} {a : Fin 32} {b' : Fin 32} (e₀ : execOpRot d a b' s = .next t)
    (h₀ : Keeps q₀ b₀ s.toBlock) : Keeps q₀ b₀ t.toBlock := by
  unfold execOpRot at e₀
  refine Keeps.upd e₀ h₀ (fun _ _ => ?_)
  repeat' first
    | (with_reducible assumption)
    | (with_reducible exact Keeps.refl)
    | (with_reducible apply Keeps.ite)
    | (with_reducible refine Keeps.foldl ?_ (fun _ _ _ => ?_))
    | (with_reducible apply keeps_loopStep)
    | (fail_if_no_progress extract_lets)
    | intro _
    | (with_reducible split)

theorem keeps_execOpAtan2 {q₀ : Bool} {b₀ : Block} {s t : State} {d : Fin 32} {a : Fin 32} {b' : Fin 32} (e₀ : execOpAtan2 d a b' s = .next t)
    (h₀ : Keeps q₀ b₀ s.toBlock) : Keeps q₀ b₀ t.toBlock := by
  unfold execOpAtan2 at e₀
  refine Keeps.upd e₀ h₀ (fun _ _ => ?_)
  repeat' first
    | (with_reducible assumption)
    | (with_reducible exact Keeps.refl)
    | (with_reducible apply Keeps.ite)
    | (with_reducible refine Keeps.foldl ?_ (fun _ _ _ => ?_))
    | (with_reducible apply keeps_loopStep)
    | (fail_if_no_progress extract_lets)
    | intro _
    | (with_reducible split)

theorem keeps_execOpDiv {q₀ : Bool} {b₀ : Block} {s t : State} {d : Fin 32} {a : Fin 32} {b' : Fin 32} (e₀ : execOpDiv d a b' s = .next t)
    (h₀ : Keeps q₀ b₀ s.toBlock) : Keeps q₀ b₀ t.toBlock := by
  unfold execOpDiv at e₀
  refine Keeps.upd e₀ h₀ (fun _ _ => ?_)
  repeat' first
    | (with_reducible assumption)
    | (with_reducible exact Keeps.refl)
    | (with_reducible apply Keeps.ite)
    | (with_reducible refine Keeps.foldl ?_ (fun _ _ _ => ?_))
    | (with_reducible apply keeps_loopStep)
    | (fail_if_no_progress extract_lets)
    | intro _
    | (with_reducible split)

theorem keeps_execOpSqrt {q₀ : Bool} {b₀ : Block} {s t : State} {d : Fin 32} {a : Fin 32} (e₀ : execOpSqrt d a s = .next t)
    (h₀ : Keeps q₀ b₀ s.toBlock) : Keeps q₀ b₀ t.toBlock := by
  unfold execOpSqrt at e₀
  refine Keeps.upd e₀ h₀ (fun _ _ => ?_)
  repeat' first
    | (with_reducible assumption)
    | (with_reducible exact Keeps.refl)
    | (with_reducible apply Keeps.ite)
    | (with_reducible refine Keeps.foldl ?_ (fun _ _ _ => ?_))
    | (with_reducible apply keeps_loopStep)
    | (fail_if_no_progress extract_lets)
    | intro _
    | (with_reducible split)

theorem keeps_execOpPgen {q₀ : Bool} {b₀ : Block} {s t : State} {a : Fin 9} (e₀ : execOpPgen a s = .next t)
    (h₀ : Keeps q₀ b₀ s.toBlock) : Keeps q₀ b₀ t.toBlock := by
  unfold execOpPgen at e₀
  refine Keeps.upd e₀ h₀ (fun _ _ => ?_)
  repeat' first
    | (with_reducible assumption)
    | (with_reducible exact Keeps.refl)
    | (with_reducible apply Keeps.ite)
    | (with_reducible refine Keeps.foldl ?_ (fun _ _ _ => ?_))
    | (with_reducible apply keeps_loopStep)
    | (fail_if_no_progress extract_lets)
    | intro _
    | (with_reducible split)

theorem keeps_execOpSts {q₀ : Bool} {b₀ : Block} {s t : State} {a : Fin 32} {clear : Bool} {word : Fin 16} (e₀ : execOpSts a clear word s = .next t)
    (h₀ : Keeps q₀ b₀ s.toBlock) : Keeps q₀ b₀ t.toBlock := by
  unfold execOpSts at e₀
  refine Keeps.upd e₀ h₀ (fun _ _ => ?_)
  repeat' first
    | (with_reducible assumption)
    | (with_reducible exact Keeps.refl)
    | (with_reducible apply Keeps.ite)
    | (with_reducible refine Keeps.foldl ?_ (fun _ _ _ => ?_))
    | (with_reducible apply keeps_loopStep)
    | (fail_if_no_progress extract_lets)
    | intro _
    | (with_reducible split)

theorem keeps_execOpEvt {q₀ : Bool} {b₀ : Block} {s t : State} {code : BitVec 8} (e₀ : execOpEvt code s = .next t)
    (h₀ : Keeps q₀ b₀ s.toBlock) : Keeps q₀ b₀ t.toBlock := by
  unfold execOpEvt at e₀
  refine Keeps.upd e₀ h₀ (fun _ _ => ?_)
  repeat' first
    | (with_reducible assumption)
    | (with_reducible exact Keeps.refl)
    | (with_reducible apply Keeps.ite)
    | (with_reducible refine Keeps.foldl ?_ (fun _ _ _ => ?_))
    | (with_reducible apply keeps_loopStep)
    | (fail_if_no_progress extract_lets)
    | intro _
    | (with_reducible split)

theorem keeps_execOpAnd {q₀ : Bool} {b₀ : Block} {s t : State} {d : Fin 32} {a : Fin 32} {b' : Fin 32} (e₀ : execOpAnd d a b' s = .next t)
    (h₀ : Keeps q₀ b₀ s.toBlock) : Keeps q₀ b₀ t.toBlock := by
  unfold execOpAnd at e₀
  refine Keeps.upd e₀ h₀ (fun _ _ => ?_)
  repeat' first
    | (with_reducible assumption)
    | (with_reducible exact Keeps.refl)
    | (with_reducible apply Keeps.ite)
    | (with_reducible refine Keeps.foldl ?_ (fun _ _ _ => ?_))
    | (with_reducible apply keeps_loopStep)
    | (fail_if_no_progress extract_lets)
    | intro _
    | (with_reducible split)

theorem keeps_execOpOr {q₀ : Bool} {b₀ : Block} {s t : State} {d : Fin 32} {a : Fin 32} {b' : Fin 32} (e₀ : execOpOr d a b' s = .next t)
    (h₀ : Keeps q₀ b₀ s.toBlock) : Keeps q₀ b₀ t.toBlock := by
  unfold execOpOr at e₀
  refine Keeps.upd e₀ h₀ (fun _ _ => ?_)
  repeat' first
    | (with_reducible assumption)
    | (with_reducible exact Keeps.refl)
    | (with_reducible apply Keeps.ite)
    | (with_reducible refine Keeps.foldl ?_ (fun _ _ _ => ?_))
    | (with_reducible apply keeps_loopStep)
    | (fail_if_no_progress extract_lets)
    | intro _
    | (with_reducible split)

theorem keeps_execOpXor {q₀ : Bool} {b₀ : Block} {s t : State} {d : Fin 32} {a : Fin 32} {b' : Fin 32} (e₀ : execOpXor d a b' s = .next t)
    (h₀ : Keeps q₀ b₀ s.toBlock) : Keeps q₀ b₀ t.toBlock := by
  unfold execOpXor at e₀
  refine Keeps.upd e₀ h₀ (fun _ _ => ?_)
  repeat' first
    | (with_reducible assumption)
    | (with_reducible exact Keeps.refl)
    | (with_reducible apply Keeps.ite)
    | (with_reducible refine Keeps.foldl ?_ (fun _ _ _ => ?_))
    | (with_reducible apply keeps_loopStep)
    | (fail_if_no_progress extract_lets)
    | intro _
    | (with_reducible split)

theorem keeps_execOpLds {q₀ : Bool} {b₀ : Block} {s t : State} {d : Fin 32} {word : Fin 16} (e₀ : execOpLds d word s = .next t)
    (h₀ : Keeps q₀ b₀ s.toBlock) : Keeps q₀ b₀ t.toBlock := by
  unfold execOpLds at e₀
  refine Keeps.upd e₀ h₀ (fun _ _ => ?_)
  repeat' first
    | (with_reducible assumption)
    | (with_reducible exact Keeps.refl)
    | (with_reducible apply Keeps.ite)
    | (with_reducible refine Keeps.foldl ?_ (fun _ _ _ => ?_))
    | (with_reducible apply keeps_loopStep)
    | (fail_if_no_progress extract_lets)
    | intro _
    | (with_reducible split)

/-! ### Machine/Sedge.lean -/

theorem keeps_sendEcho {q₀ : Bool} {b₀ b : Block} (h₀ : Keeps q₀ b₀ b) (s : Fin 4) :
    Keeps q₀ b₀ (b.sendEcho s) := by
  unfold Block.sendEcho
  repeat' first
    | (with_reducible assumption)
    | (with_reducible exact Keeps.refl)
    | (with_reducible apply Keeps.ite)
    | (with_reducible refine Keeps.foldl ?_ (fun _ _ _ => ?_))
    | (with_reducible apply keeps_emit)
    | (with_reducible apply keeps_sedge)
    | (with_reducible apply keeps_modSe)
    | (fail_if_no_progress extract_lets)
    | intro _
    | (with_reducible split)

theorem keeps_bringUp {q₀ : Bool} {b₀ b : Block} (h₀ : Keeps q₀ b₀ b) (s : Fin 4) :
    Keeps q₀ b₀ (b.bringUp s) := by
  unfold Block.bringUp
  repeat' first
    | (with_reducible assumption)
    | (with_reducible exact Keeps.refl)
    | (with_reducible apply Keeps.ite)
    | (with_reducible refine Keeps.foldl ?_ (fun _ _ _ => ?_))
    | (with_reducible apply keeps_wr)
    | (with_reducible apply keeps_modSe)
    | (with_reducible apply keeps_sendEcho)
    | (fail_if_no_progress extract_lets)
    | intro _
    | (with_reducible split)

theorem keeps_seEnable {q₀ : Bool} {b₀ b : Block} (h₀ : Keeps q₀ b₀ b) (s : Fin 4) :
    Keeps q₀ b₀ (b.seEnable s) := by
  unfold Block.seEnable
  repeat' first
    | (with_reducible assumption)
    | (with_reducible exact Keeps.refl)
    | (with_reducible apply Keeps.ite)
    | (with_reducible refine Keeps.foldl ?_ (fun _ _ _ => ?_))
    | (with_reducible apply keeps_setFld)
    | (with_reducible apply keeps_bringUp)
    | (fail_if_no_progress extract_lets)
    | intro _
    | (with_reducible split)

theorem keeps_execSeLinkEnable {q₀ : Bool} {b₀ : Block} {s t : State} {s' : Fin 4} (e₀ : execSeLinkEnable s' s = .next t)
    (h₀ : Keeps q₀ b₀ s.toBlock) : Keeps q₀ b₀ t.toBlock := by
  unfold execSeLinkEnable at e₀
  refine Keeps.upd e₀ h₀ (fun _ _ => ?_)
  repeat' first
    | (with_reducible assumption)
    | (with_reducible exact Keeps.refl)
    | (with_reducible apply Keeps.ite)
    | (with_reducible refine Keeps.foldl ?_ (fun _ _ _ => ?_))
    | (with_reducible apply keeps_onSurf)
    | (with_reducible apply keeps_seEnable)
    | (fail_if_no_progress extract_lets)
    | intro _
    | (with_reducible split)

theorem keeps_seRetrain {q₀ : Bool} {b₀ b : Block} (h₀ : Keeps q₀ b₀ b) (s : Fin 4) :
    Keeps q₀ b₀ (b.seRetrain s) := by
  unfold Block.seRetrain
  repeat' first
    | (with_reducible assumption)
    | (with_reducible exact Keeps.refl)
    | (with_reducible apply Keeps.ite)
    | (with_reducible refine Keeps.foldl ?_ (fun _ _ _ => ?_))
    | (with_reducible apply keeps_bringUp)
    | (fail_if_no_progress extract_lets)
    | intro _
    | (with_reducible split)

theorem keeps_execSeRetrain {q₀ : Bool} {b₀ : Block} {s t : State} {s' : Fin 4} (e₀ : execSeRetrain s' s = .next t)
    (h₀ : Keeps q₀ b₀ s.toBlock) : Keeps q₀ b₀ t.toBlock := by
  unfold execSeRetrain at e₀
  refine Keeps.upd e₀ h₀ (fun _ _ => ?_)
  repeat' first
    | (with_reducible assumption)
    | (with_reducible exact Keeps.refl)
    | (with_reducible apply Keeps.ite)
    | (with_reducible refine Keeps.foldl ?_ (fun _ _ _ => ?_))
    | (with_reducible apply keeps_onSurf)
    | (with_reducible apply keeps_seRetrain)
    | (fail_if_no_progress extract_lets)
    | intro _
    | (with_reducible split)

theorem keeps_execSeLinkUp {q₀ : Bool} {b₀ : Block} {s t : State} {s' : Fin 4} {latency : BitVec 16} {idMem : List Byte} (e₀ : execSeLinkUp s' latency idMem s = .next t)
    (h₀ : Keeps q₀ b₀ s.toBlock) : Keeps q₀ b₀ t.toBlock := by
  unfold execSeLinkUp at e₀
  refine Keeps.upd e₀ h₀ (fun _ _ => ?_)
  repeat' first
    | (with_reducible assumption)
    | (with_reducible exact Keeps.refl)
    | (with_reducible apply Keeps.ite)
    | (with_reducible refine Keeps.foldl ?_ (fun _ _ _ => ?_))
    | (with_reducible apply keeps_onSurf)
    | (with_reducible apply keeps_modSe)
    | (with_reducible apply keeps_setFld)
    | (with_reducible apply keeps_setBit)
    | (with_reducible apply keeps_sendPower)
    | (with_reducible apply keeps_raiseSurf)
    | (with_reducible apply keeps_modServo)
    | (fail_if_no_progress extract_lets)
    | intro _
    | (with_reducible split)

theorem keeps_execSeBringupTimeout {q₀ : Bool} {b₀ : Block} {s t : State} {s' : Fin 4} (e₀ : execSeBringupTimeout s' s = .next t)
    (h₀ : Keeps q₀ b₀ s.toBlock) : Keeps q₀ b₀ t.toBlock := by
  unfold execSeBringupTimeout at e₀
  refine Keeps.upd e₀ h₀ (fun _ _ => ?_)
  repeat' first
    | (with_reducible assumption)
    | (with_reducible exact Keeps.refl)
    | (with_reducible apply Keeps.ite)
    | (with_reducible refine Keeps.foldl ?_ (fun _ _ _ => ?_))
    | (with_reducible apply keeps_onSurf)
    | (with_reducible apply keeps_modSe)
    | (with_reducible apply keeps_surfDown)
    | (with_reducible apply keeps_raiseSurf)
    | (fail_if_no_progress extract_lets)
    | intro _
    | (with_reducible split)

theorem keeps_execSeLinkDown {q₀ : Bool} {b₀ : Block} {s t : State} {s' : Fin 4} (e₀ : execSeLinkDown s' s = .next t)
    (h₀ : Keeps q₀ b₀ s.toBlock) : Keeps q₀ b₀ t.toBlock := by
  unfold execSeLinkDown at e₀
  refine Keeps.upd e₀ h₀ (fun _ _ => ?_)
  repeat' first
    | (with_reducible assumption)
    | (with_reducible exact Keeps.refl)
    | (with_reducible apply Keeps.ite)
    | (with_reducible refine Keeps.foldl ?_ (fun _ _ _ => ?_))
    | (with_reducible apply keeps_onSurf)
    | (with_reducible apply keeps_wr)
    | (with_reducible apply keeps_setFld)
    | (with_reducible apply keeps_modSe)
    | (with_reducible apply keeps_raiseSurf)
    | (fail_if_no_progress extract_lets)
    | intro _
    | (with_reducible split)

theorem keeps_execSeRetrainFail {q₀ : Bool} {b₀ : Block} {s t : State} {s' : Fin 4} (e₀ : execSeRetrainFail s' s = .next t)
    (h₀ : Keeps q₀ b₀ s.toBlock) : Keeps q₀ b₀ t.toBlock := by
  unfold execSeRetrainFail at e₀
  refine Keeps.upd e₀ h₀ (fun _ _ => ?_)
  repeat' first
    | (with_reducible assumption)
    | (with_reducible exact Keeps.refl)
    | (with_reducible apply Keeps.ite)
    | (with_reducible refine Keeps.foldl ?_ (fun _ _ _ => ?_))
    | (with_reducible apply keeps_onSurf)
    | (with_reducible apply keeps_modSe)
    | (with_reducible apply keeps_surfDown)
    | (fail_if_no_progress extract_lets)
    | intro _
    | (with_reducible split)

theorem keeps_execPuFault {q₀ : Bool} {b₀ : Block} {s t : State} {s' : Fin 4} (e₀ : execPuFault s' s = .next t)
    (h₀ : Keeps q₀ b₀ s.toBlock) : Keeps q₀ b₀ t.toBlock := by
  unfold execPuFault at e₀
  refine Keeps.upd e₀ h₀ (fun _ _ => ?_)
  repeat' first
    | (with_reducible assumption)
    | (with_reducible exact Keeps.refl)
    | (with_reducible apply Keeps.ite)
    | (with_reducible refine Keeps.foldl ?_ (fun _ _ _ => ?_))
    | (with_reducible apply keeps_onSurf)
    | (with_reducible apply keeps_setFld)
    | (with_reducible apply keeps_applyHolds)
    | (with_reducible apply keeps_safeState)
    | (with_reducible apply keeps_raiseSurf)
    | (fail_if_no_progress extract_lets)
    | intro _
    | (with_reducible split)

theorem keeps_execPuFaultRelease {q₀ : Bool} {b₀ : Block} {s t : State} {s' : Fin 4} (e₀ : execPuFaultRelease s' s = .next t)
    (h₀ : Keeps q₀ b₀ s.toBlock) : Keeps q₀ b₀ t.toBlock := by
  unfold execPuFaultRelease at e₀
  refine Keeps.upd e₀ h₀ (fun _ _ => ?_)
  repeat' first
    | (with_reducible assumption)
    | (with_reducible exact Keeps.refl)
    | (with_reducible apply Keeps.ite)
    | (with_reducible refine Keeps.foldl ?_ (fun _ _ _ => ?_))
    | (with_reducible apply keeps_onSurf)
    | (with_reducible apply keeps_setFld)
    | (fail_if_no_progress extract_lets)
    | intro _
    | (with_reducible split)

theorem keeps_seHeard {q₀ : Bool} {b₀ b : Block} (h₀ : Keeps q₀ b₀ b) (s : Fin 4) :
    Keeps q₀ b₀ (b.seHeard s) := by
  unfold Block.seHeard
  repeat' first
    | (with_reducible assumption)
    | (with_reducible exact Keeps.refl)
    | (with_reducible apply Keeps.ite)
    | (with_reducible refine Keeps.foldl ?_ (fun _ _ _ => ?_))
    | (with_reducible apply keeps_modSe)
    | (fail_if_no_progress extract_lets)
    | intro _
    | (with_reducible split)

theorem keeps_monBeam {q₀ : Bool} {b₀ b : Block} (h₀ : Keeps q₀ b₀ b) (s : Fin 4) (k : Nat) (v : Nat) :
    Keeps q₀ b₀ (b.monBeam s k v) := by
  unfold Block.monBeam
  repeat' first
    | (with_reducible assumption)
    | (with_reducible exact Keeps.refl)
    | (with_reducible apply Keeps.ite)
    | (with_reducible refine Keeps.foldl ?_ (fun _ _ _ => ?_))
    | (with_reducible apply keeps_setFld)
    | (with_reducible apply keeps_run)
    | (with_reducible apply keeps_modSe)
    | (with_reducible apply keeps_failBeam)
    | (with_reducible apply keeps_raiseSurf)
    | (fail_if_no_progress extract_lets)
    | intro _
    | (with_reducible split)

theorem keeps_execMonitor {q₀ : Bool} {b₀ : Block} {s t : State} {s' : Fin 4} {mon : Vector (BitVec 16) 16} (e₀ : execMonitor s' mon s = .next t)
    (h₀ : Keeps q₀ b₀ s.toBlock) : Keeps q₀ b₀ t.toBlock := by
  unfold execMonitor at e₀
  refine Keeps.upd e₀ h₀ (fun _ _ => ?_)
  repeat' first
    | (with_reducible assumption)
    | (with_reducible exact Keeps.refl)
    | (with_reducible apply Keeps.ite)
    | (with_reducible refine Keeps.foldl ?_ (fun _ _ _ => ?_))
    | (with_reducible apply keeps_onSurf)
    | (with_reducible apply keeps_seHeard)
    | (with_reducible apply keeps_monBeam)
    | (with_reducible apply keeps_setFld)
    | (with_reducible apply keeps_applyHolds)
    | (with_reducible apply keeps_safeState)
    | (with_reducible apply keeps_raiseSurf)
    | (fail_if_no_progress extract_lets)
    | intro _
    | (with_reducible split)

theorem keeps_execStatus {q₀ : Bool} {b₀ : Block} {s t : State} {s' : Fin 4} {temp : BitVec 16} {fault : BitVec 16} {dsErr : BitVec 16} (e₀ : execStatus s' temp fault dsErr s = .next t)
    (h₀ : Keeps q₀ b₀ s.toBlock) : Keeps q₀ b₀ t.toBlock := by
  unfold execStatus at e₀
  refine Keeps.upd e₀ h₀ (fun _ _ => ?_)
  repeat' first
    | (with_reducible assumption)
    | (with_reducible exact Keeps.refl)
    | (with_reducible apply Keeps.ite)
    | (with_reducible refine Keeps.foldl ?_ (fun _ _ _ => ?_))
    | (with_reducible apply keeps_onSurf)
    | (with_reducible apply keeps_seHeard)
    | (with_reducible apply keeps_setFld)
    | (with_reducible apply keeps_bump)
    | (with_reducible apply keeps_raiseSurf)
    | (fail_if_no_progress extract_lets)
    | intro _
    | (with_reducible split)

theorem keeps_mgmtDone {q₀ : Bool} {b₀ b : Block} (h₀ : Keeps q₀ b₀ b) (s : Fin 4) (data : Word) :
    Keeps q₀ b₀ (b.mgmtDone s data) := by
  unfold Block.mgmtDone
  repeat' first
    | (with_reducible assumption)
    | (with_reducible exact Keeps.refl)
    | (with_reducible apply Keeps.ite)
    | (with_reducible refine Keeps.foldl ?_ (fun _ _ _ => ?_))
    | (with_reducible apply keeps_wr)
    | (with_reducible apply keeps_setFld)
    | (with_reducible apply keeps_modSe)
    | (fail_if_no_progress extract_lets)
    | intro _
    | (with_reducible split)

theorem keeps_execMgmtRsp {q₀ : Bool} {b₀ : Block} {s t : State} {s' : Fin 4} {data : BitVec 32} (e₀ : execMgmtRsp s' data s = .next t)
    (h₀ : Keeps q₀ b₀ s.toBlock) : Keeps q₀ b₀ t.toBlock := by
  unfold execMgmtRsp at e₀
  refine Keeps.upd e₀ h₀ (fun _ _ => ?_)
  repeat' first
    | (with_reducible assumption)
    | (with_reducible exact Keeps.refl)
    | (with_reducible apply Keeps.ite)
    | (with_reducible refine Keeps.foldl ?_ (fun _ _ _ => ?_))
    | (with_reducible apply keeps_onSurf)
    | (with_reducible apply keeps_seHeard)
    | (with_reducible apply keeps_mgmtDone)
    | (fail_if_no_progress extract_lets)
    | intro _
    | (with_reducible split)

theorem keeps_execMgmtAccessDone {q₀ : Bool} {b₀ : Block} {s t : State} {s' : Fin 4} {data : BitVec 32} (e₀ : execMgmtAccessDone s' data s = .next t)
    (h₀ : Keeps q₀ b₀ s.toBlock) : Keeps q₀ b₀ t.toBlock := by
  unfold execMgmtAccessDone at e₀
  refine Keeps.upd e₀ h₀ (fun _ _ => ?_)
  repeat' first
    | (with_reducible assumption)
    | (with_reducible exact Keeps.refl)
    | (with_reducible apply Keeps.ite)
    | (with_reducible refine Keeps.foldl ?_ (fun _ _ _ => ?_))
    | (with_reducible apply keeps_onSurf)
    | (with_reducible apply keeps_mgmtDone)
    | (fail_if_no_progress extract_lets)
    | intro _
    | (with_reducible split)

theorem keeps_execEchoRsp {q₀ : Bool} {b₀ : Block} {s t : State} {s' : Fin 4} {token : BitVec 16} (e₀ : execEchoRsp s' token s = .next t)
    (h₀ : Keeps q₀ b₀ s.toBlock) : Keeps q₀ b₀ t.toBlock := by
  unfold execEchoRsp at e₀
  refine Keeps.upd e₀ h₀ (fun _ _ => ?_)
  repeat' first
    | (with_reducible assumption)
    | (with_reducible exact Keeps.refl)
    | (with_reducible apply Keeps.ite)
    | (with_reducible refine Keeps.foldl ?_ (fun _ _ _ => ?_))
    | (with_reducible apply keeps_onSurf)
    | (with_reducible apply keeps_seHeard)
    | (with_reducible apply keeps_modSe)
    | (with_reducible apply keeps_sendEcho)
    | (fail_if_no_progress extract_lets)
    | intro _
    | (with_reducible split)

theorem keeps_execNotwritten {q₀ : Bool} {b₀ : Block} {s t : State} {s' : Fin 4} {pass : BitVec 16} {slot : BitVec 8} {beam : Fin 16} (e₀ : execNotwritten s' pass slot beam s = .next t)
    (h₀ : Keeps q₀ b₀ s.toBlock) : Keeps q₀ b₀ t.toBlock := by
  unfold execNotwritten at e₀
  refine Keeps.upd e₀ h₀ (fun _ _ => ?_)
  repeat' first
    | (with_reducible assumption)
    | (with_reducible exact Keeps.refl)
    | (with_reducible apply Keeps.ite)
    | (with_reducible refine Keeps.foldl ?_ (fun _ _ _ => ?_))
    | (with_reducible apply keeps_onSurf)
    | (with_reducible apply keeps_seHeard)
    | (with_reducible apply keeps_modWp)
    | (with_reducible apply keeps_cellBad)
    | (fail_if_no_progress extract_lets)
    | intro _
    | (with_reducible split)

theorem keeps_execUpstreamFrameDiscard {q₀ : Bool} {b₀ : Block} {s t : State} {s' : Fin 4} (e₀ : execUpstreamFrameDiscard s' s = .next t)
    (h₀ : Keeps q₀ b₀ s.toBlock) : Keeps q₀ b₀ t.toBlock := by
  unfold execUpstreamFrameDiscard at e₀
  refine Keeps.upd e₀ h₀ (fun _ _ => ?_)
  repeat' first
    | (with_reducible assumption)
    | (with_reducible exact Keeps.refl)
    | (with_reducible apply Keeps.ite)
    | (with_reducible refine Keeps.foldl ?_ (fun _ _ _ => ?_))
    | (with_reducible apply keeps_onSurf)
    | (with_reducible apply keeps_bump)
    | (fail_if_no_progress extract_lets)
    | intro _
    | (with_reducible split)

theorem keeps_execMgmtAccess {q₀ : Bool} {b₀ : Block} {s t : State} {s' : Fin 4} {addr : BitVec 16} {frame : Bool} {write : Bool} {data : BitVec 32} (e₀ : execMgmtAccess s' addr frame write data s = .next t)
    (h₀ : Keeps q₀ b₀ s.toBlock) : Keeps q₀ b₀ t.toBlock := by
  unfold execMgmtAccess at e₀
  refine Keeps.upd e₀ h₀ (fun _ _ => ?_)
  repeat' first
    | (with_reducible assumption)
    | (with_reducible exact Keeps.refl)
    | (with_reducible apply Keeps.ite)
    | (with_reducible refine Keeps.foldl ?_ (fun _ _ _ => ?_))
    | (with_reducible apply keeps_onSurf)
    | (with_reducible apply keeps_setFld)
    | (with_reducible apply keeps_setBit)
    | (with_reducible apply keeps_wr)
    | (with_reducible apply keeps_modSe)
    | (with_reducible apply keeps_sedge)
    | (with_reducible apply keeps_emit)
    | (fail_if_no_progress extract_lets)
    | intro _
    | (with_reducible split)

theorem keeps_execSetBeamPower {q₀ : Bool} {b₀ : Block} {s t : State} {s' : Fin 4} {beam : Fin 16} {read : Bool} {peak : BitVec 16} {bias : BitVec 16} (e₀ : execSetBeamPower s' beam read peak bias s = .next t)
    (h₀ : Keeps q₀ b₀ s.toBlock) : Keeps q₀ b₀ t.toBlock := by
  unfold execSetBeamPower at e₀
  refine Keeps.upd e₀ h₀ (fun _ _ => ?_)
  repeat' first
    | (with_reducible assumption)
    | (with_reducible exact Keeps.refl)
    | (with_reducible apply Keeps.ite)
    | (with_reducible refine Keeps.foldl ?_ (fun _ _ _ => ?_))
    | (with_reducible apply keeps_onSurf)
    | (with_reducible apply keeps_setFld)
    | (with_reducible apply keeps_modSe)
    | (with_reducible apply keeps_calPowerWrite)
    | (fail_if_no_progress extract_lets)
    | intro _
    | (with_reducible split)

theorem keeps_execLatchRelease {q₀ : Bool} {b₀ : Block} {s t : State} {s' : Fin 4} (e₀ : execLatchRelease s' s = .next t)
    (h₀ : Keeps q₀ b₀ s.toBlock) : Keeps q₀ b₀ t.toBlock := by
  unfold execLatchRelease at e₀
  refine Keeps.upd e₀ h₀ (fun _ _ => ?_)
  repeat' first
    | (with_reducible assumption)
    | (with_reducible exact Keeps.refl)
    | (with_reducible apply Keeps.ite)
    | (with_reducible refine Keeps.foldl ?_ (fun _ _ _ => ?_))
    | (with_reducible apply keeps_onSurf)
    | (with_reducible apply keeps_setFld)
    | (fail_if_no_progress extract_lets)
    | intro _
    | (with_reducible split)

/-! ### Machine/ReadChan.lean -/

theorem keeps_modBeam {q₀ : Bool} {b₀ b : Block} (h₀ : Keeps q₀ b₀ b) (n : Fin 64) (f : Beam → Beam) :
    Keeps q₀ b₀ (b.modBeam n f) := by
  unfold Block.modBeam
  repeat' first
    | (with_reducible assumption)
    | (with_reducible exact Keeps.refl)
    | (with_reducible apply Keeps.ite)
    | (with_reducible refine Keeps.foldl ?_ (fun _ _ _ => ?_))
    | (with_reducible apply keeps_modRc)
    | (fail_if_no_progress extract_lets)
    | intro _
    | (with_reducible split)

theorem keeps_giveJob {q₀ : Bool} {b₀ b : Block} (h₀ : Keeps q₀ b₀ b) (e : Nat) (j : EngJob) :
    Keeps q₀ b₀ (b.giveJob e j) := by
  unfold Block.giveJob
  repeat' first
    | (with_reducible assumption)
    | (with_reducible exact Keeps.refl)
    | (with_reducible apply Keeps.ite)
    | (with_reducible refine Keeps.foldl ?_ (fun _ _ _ => ?_))
    | (with_reducible apply keeps_modRc)
    | (with_reducible apply keeps_modWp)
    | (fail_if_no_progress extract_lets)
    | intro _
    | (with_reducible split)

theorem keeps_rcStat {q₀ : Bool} {b₀ b : Block} (h₀ : Keeps q₀ b₀ b) :
    Keeps q₀ b₀ (b.rcStat) := by
  unfold Block.rcStat
  repeat' first
    | (with_reducible assumption)
    | (with_reducible exact Keeps.refl)
    | (with_reducible apply Keeps.ite)
    | (with_reducible refine Keeps.foldl ?_ (fun _ _ _ => ?_))
    | (with_reducible apply keeps_setFld)
    | (fail_if_no_progress extract_lets)
    | intro _
    | (with_reducible split)

theorem keeps_assign {q₀ : Bool} {b₀ b : Block} (h₀ : Keeps q₀ b₀ b) :
    Keeps q₀ b₀ (b.assign) := by
  unfold Block.assign
  repeat' first
    | (with_reducible assumption)
    | (with_reducible exact Keeps.refl)
    | (with_reducible apply Keeps.ite)
    | (with_reducible refine Keeps.foldl ?_ (fun _ _ _ => ?_))
    | (with_reducible apply keeps_giveJob)
    | (with_reducible apply keeps_rcStat)
    | (fail_if_no_progress extract_lets)
    | intro _
    | (with_reducible split)

theorem keeps_queueJob {q₀ : Bool} {b₀ b : Block} (h₀ : Keeps q₀ b₀ b) (kind : Nat) (surf : Nat) (band : Nat) (swath : Nat) (stripe : Nat) (beam : Nat) (shift : Nat) :
    Keeps q₀ b₀ (b.queueJob kind surf band swath stripe beam shift) := by
  unfold Block.queueJob
  repeat' first
    | (with_reducible assumption)
    | (with_reducible exact Keeps.refl)
    | (with_reducible apply Keeps.ite)
    | (with_reducible refine Keeps.foldl ?_ (fun _ _ _ => ?_))
    | (with_reducible apply keeps_modRc)
    | (fail_if_no_progress extract_lets)
    | intro _
    | (with_reducible split)

theorem keeps_ensureStripe {q₀ : Bool} {b₀ b : Block} (h₀ : Keeps q₀ b₀ b) (s : Fin 4) (band : Nat) (swath : Nat) (stripe : Nat) :
    Keeps q₀ b₀ (b.ensureStripe s band swath stripe) := by
  unfold Block.ensureStripe
  repeat' first
    | (with_reducible assumption)
    | (with_reducible exact Keeps.refl)
    | (with_reducible apply Keeps.ite)
    | (with_reducible refine Keeps.foldl ?_ (fun _ _ _ => ?_))
    | (with_reducible apply keeps_modRc)
    | (fail_if_no_progress extract_lets)
    | intro _
    | (with_reducible split)

theorem keeps_modRd {q₀ : Bool} {b₀ b : Block} (h₀ : Keeps q₀ b₀ b) (surf : Nat) (band : Nat) (swath : Nat) (stripe : Nat) (f : RdStripe → RdStripe) :
    Keeps q₀ b₀ (b.modRd surf band swath stripe f) := by
  unfold Block.modRd
  repeat' first
    | (with_reducible assumption)
    | (with_reducible exact Keeps.refl)
    | (with_reducible apply Keeps.ite)
    | (with_reducible refine Keeps.foldl ?_ (fun _ _ _ => ?_))
    | (with_reducible apply keeps_modRc)
    | (fail_if_no_progress extract_lets)
    | intro _
    | (with_reducible split)

theorem keeps_unrecover {q₀ : Bool} {b₀ b : Block} (h₀ : Keeps q₀ b₀ b) (t : RdStripe) (k : Nat) :
    Keeps q₀ b₀ (b.unrecover t k) := by
  unfold Block.unrecover
  repeat' first
    | (with_reducible assumption)
    | (with_reducible exact Keeps.refl)
    | (with_reducible apply Keeps.ite)
    | (with_reducible refine Keeps.foldl ?_ (fun _ _ _ => ?_))
    | (with_reducible apply keeps_modRd)
    | (with_reducible apply keeps_modRc)
    | (with_reducible apply keeps_bump)
    | (with_reducible apply keeps_raiseSurf)
    | (fail_if_no_progress extract_lets)
    | intro _
    | (with_reducible split)

theorem keeps_climb {q₀ : Bool} {b₀ b : Block} (h₀ : Keeps q₀ b₀ b) (t : RdStripe) (k : Nat) (step : Nat) :
    Keeps q₀ b₀ (b.climb t k step) := by
  unfold Block.climb
  repeat' first
    | (with_reducible assumption)
    | (with_reducible exact Keeps.refl)
    | (with_reducible apply Keeps.ite)
    | (with_reducible refine Keeps.foldl ?_ (fun _ _ _ => ?_))
    | (with_reducible apply keeps_modRd)
    | (with_reducible apply keeps_queueJob)
    | (with_reducible apply keeps_unrecover)
    | (fail_if_no_progress extract_lets)
    | intro _
    | (with_reducible split)

theorem keeps_bumpBeam {q₀ : Bool} {b₀ b : Block} (h₀ : Keeps q₀ b₀ b) (n : Fin 64) (f : Fld) (k : Nat) :
    Keeps q₀ b₀ (b.bumpBeam n f k) := by
  unfold Block.bumpBeam
  repeat' first
    | (with_reducible assumption)
    | (with_reducible exact Keeps.refl)
    | (with_reducible apply Keeps.ite)
    | (with_reducible refine Keeps.foldl ?_ (fun _ _ _ => ?_))
    | (with_reducible apply keeps_bump)
    | (with_reducible apply keeps_raise)
    | (fail_if_no_progress extract_lets)
    | intro _
    | (with_reducible split)

theorem keeps_windowEvent {q₀ : Bool} {b₀ b : Block} (h₀ : Keeps q₀ b₀ b) (n : Fin 64) (i : Fin 4) (k : Nat) :
    Keeps q₀ b₀ (b.windowEvent n i k) := by
  unfold Block.windowEvent
  repeat' first
    | (with_reducible assumption)
    | (with_reducible exact Keeps.refl)
    | (with_reducible apply Keeps.ite)
    | (with_reducible refine Keeps.foldl ?_ (fun _ _ _ => ?_))
    | (with_reducible apply keeps_modBeam)
    | (with_reducible apply keeps_raise)
    | (fail_if_no_progress extract_lets)
    | intro _
    | (with_reducible split)

theorem keeps_windowCell {q₀ : Bool} {b₀ b : Block} (h₀ : Keeps q₀ b₀ b) (n : Fin 64) :
    Keeps q₀ b₀ (b.windowCell n) := by
  unfold Block.windowCell
  repeat' first
    | (with_reducible assumption)
    | (with_reducible exact Keeps.refl)
    | (with_reducible apply Keeps.ite)
    | (with_reducible refine Keeps.foldl ?_ (fun _ _ _ => ?_))
    | (with_reducible apply keeps_modBeam)
    | (fail_if_no_progress extract_lets)
    | intro _
    | (with_reducible split)

theorem keeps_figure {q₀ : Bool} {b₀ b : Block} (h₀ : Keeps q₀ b₀ b) (f : Fld) (v : Nat) (thr : Nat) (src : Nat) :
    Keeps q₀ b₀ (b.figure f v thr src) := by
  unfold Block.figure
  repeat' first
    | (with_reducible assumption)
    | (with_reducible exact Keeps.refl)
    | (with_reducible apply Keeps.ite)
    | (with_reducible refine Keeps.foldl ?_ (fun _ _ _ => ?_))
    | (with_reducible apply keeps_setFld)
    | (with_reducible apply keeps_raise)
    | (fail_if_no_progress extract_lets)
    | intro _
    | (with_reducible split)

theorem keeps_beamPreset {q₀ : Bool} {b₀ b : Block} (h₀ : Keeps q₀ b₀ b) (n : Fin 64) :
    Keeps q₀ b₀ (b.beamPreset n) := by
  unfold Block.beamPreset
  repeat' first
    | (with_reducible assumption)
    | (with_reducible exact Keeps.refl)
    | (with_reducible apply Keeps.ite)
    | (with_reducible refine Keeps.foldl ?_ (fun _ _ _ => ?_))
    | (with_reducible apply keeps_setFld)
    | (with_reducible apply keeps_modBeam)
    | (fail_if_no_progress extract_lets)
    | intro _
    | (with_reducible split)

theorem keeps_cellStored {q₀ : Bool} {b₀ b : Block} (h₀ : Keeps q₀ b₀ b) (n : Fin 64) (o : CellObs) (verify : Bool) (pre : Bool) (fly : Bool) :
    Keeps q₀ b₀ (b.cellStored n o verify pre fly) := by
  unfold Block.cellStored
  repeat' first
    | (with_reducible assumption)
    | (with_reducible exact Keeps.refl)
    | (with_reducible apply Keeps.ite)
    | (with_reducible refine Keeps.foldl ?_ (fun _ _ _ => ?_))
    | (with_reducible apply keeps_modWp)
    | (with_reducible apply keeps_cellBad)
    | (with_reducible apply keeps_ensureStripe)
    | (with_reducible apply keeps_modRd)
    | (with_reducible apply keeps_queueJob)
    | (fail_if_no_progress extract_lets)
    | intro _
    | (with_reducible split)

theorem keeps_execCellRead {q₀ : Bool} {b₀ : Block} {s t : State} {n : Fin 64} {o : CellObs} (e₀ : execCellRead n o s = .next t)
    (h₀ : Keeps q₀ b₀ s.toBlock) : Keeps q₀ b₀ t.toBlock := by
  unfold execCellRead at e₀
  refine Keeps.upd e₀ h₀ (fun _ _ => ?_)
  repeat' first
    | (with_reducible assumption)
    | (with_reducible exact Keeps.refl)
    | (with_reducible apply Keeps.ite)
    | (with_reducible refine Keeps.foldl ?_ (fun _ _ _ => ?_))
    | (with_reducible apply keeps_onBeam)
    | (with_reducible apply keeps_cellStored)
    | (with_reducible apply keeps_beamPreset)
    | (with_reducible apply keeps_setBit)
    | (with_reducible apply keeps_bumpBeam)
    | (with_reducible apply keeps_raise)
    | (with_reducible apply keeps_windowEvent)
    | (with_reducible apply keeps_bump)
    | (with_reducible apply keeps_windowCell)
    | (with_reducible apply keeps_setFld)
    | (with_reducible apply keeps_modBeam)
    | (with_reducible apply keeps_figure)
    | (with_reducible apply keeps_modCal)
    | (with_reducible apply keeps_raiseSurf)
    | (with_reducible apply keeps_assign)
    | (fail_if_no_progress extract_lets)
    | intro _
    | (with_reducible split)

theorem keeps_execBmRestart {q₀ : Bool} {b₀ : Block} {s t : State} {n : Fin 64} (e₀ : execBmRestart n s = .next t)
    (h₀ : Keeps q₀ b₀ s.toBlock) : Keeps q₀ b₀ t.toBlock := by
  unfold execBmRestart at e₀
  refine Keeps.upd e₀ h₀ (fun _ _ => ?_)
  repeat' first
    | (with_reducible assumption)
    | (with_reducible exact Keeps.refl)
    | (with_reducible apply Keeps.ite)
    | (with_reducible refine Keeps.foldl ?_ (fun _ _ _ => ?_))
    | (with_reducible apply keeps_onBeam)
    | (with_reducible apply keeps_modBeam)
    | (fail_if_no_progress extract_lets)
    | intro _
    | (with_reducible split)

theorem keeps_rcDone {q₀ : Bool} {b₀ b : Block} (h₀ : Keeps q₀ b₀ b) (j : RcJob) (r : DecodeRes) :
    Keeps q₀ b₀ (b.rcDone j r) := by
  unfold Block.rcDone
  repeat' first
    | (with_reducible assumption)
    | (with_reducible exact Keeps.refl)
    | (with_reducible apply Keeps.ite)
    | (with_reducible refine Keeps.foldl ?_ (fun _ _ _ => ?_))
    | (with_reducible apply keeps_modRd)
    | (with_reducible apply keeps_bump)
    | (with_reducible apply keeps_climb)
    | (with_reducible apply keeps_queueJob)
    | (fail_if_no_progress extract_lets)
    | intro _
    | (with_reducible split)

theorem keeps_execDecodeJobDone {q₀ : Bool} {b₀ : Block} {s t : State} {e : Fin 20} {r : DecodeRes} (e₀ : execDecodeJobDone e r s = .next t)
    (h₀ : Keeps q₀ b₀ s.toBlock) : Keeps q₀ b₀ t.toBlock := by
  unfold execDecodeJobDone at e₀
  refine Keeps.upd e₀ h₀ (fun _ _ => ?_)
  repeat' first
    | (with_reducible assumption)
    | (with_reducible exact Keeps.refl)
    | (with_reducible apply Keeps.ite)
    | (with_reducible refine Keeps.foldl ?_ (fun _ _ _ => ?_))
    | (with_reducible apply keeps_modRc)
    | (with_reducible apply keeps_bump)
    | (with_reducible apply keeps_corrected)
    | (with_reducible apply keeps_modBeam)
    | (with_reducible apply keeps_figure)
    | (with_reducible apply keeps_setFld)
    | (with_reducible apply keeps_rcDone)
    | (with_reducible apply keeps_assign)
    | (fail_if_no_progress extract_lets)
    | intro _
    | (with_reducible split)

theorem keeps_rebuilt {q₀ : Bool} {b₀ b : Block} (h₀ : Keeps q₀ b₀ b) (t : RdStripe) (any : Bool) :
    Keeps q₀ b₀ (b.rebuilt t any) := by
  unfold Block.rebuilt
  repeat' first
    | (with_reducible assumption)
    | (with_reducible exact Keeps.refl)
    | (with_reducible apply Keeps.ite)
    | (with_reducible refine Keeps.foldl ?_ (fun _ _ _ => ?_))
    | (with_reducible apply keeps_bump)
    | (with_reducible apply keeps_modRc)
    | (fail_if_no_progress extract_lets)
    | intro _
    | (with_reducible split)

theorem keeps_execStripeRebuild {q₀ : Bool} {b₀ : Block} {s t : State} {s' : Fin 4} {band : BitVec 16} {swath : BitVec 16} {stripe : BitVec 8} {out : OuterRes} (e₀ : execStripeRebuild s' band swath stripe out s = .next t)
    (h₀ : Keeps q₀ b₀ s.toBlock) : Keeps q₀ b₀ t.toBlock := by
  unfold execStripeRebuild at e₀
  refine Keeps.upd e₀ h₀ (fun _ _ => ?_)
  repeat' first
    | (with_reducible assumption)
    | (with_reducible exact Keeps.refl)
    | (with_reducible apply Keeps.ite)
    | (with_reducible refine Keeps.foldl ?_ (fun _ _ _ => ?_))
    | (with_reducible apply keeps_unrecover)
    | (with_reducible apply keeps_climb)
    | (with_reducible apply keeps_assign)
    | (with_reducible apply keeps_rebuilt)
    | (fail_if_no_progress extract_lets)
    | intro _
    | (with_reducible split)

theorem keeps_reReadPower {q₀ : Bool} {b₀ b : Block} (h₀ : Keeps q₀ b₀ b) (s : Fin 4) (pass : Nat) :
    Keeps q₀ b₀ (b.reReadPower s pass) := by
  unfold Block.reReadPower
  repeat' first
    | (with_reducible assumption)
    | (with_reducible exact Keeps.refl)
    | (with_reducible apply Keeps.ite)
    | (with_reducible refine Keeps.foldl ?_ (fun _ _ _ => ?_))
    | (with_reducible apply keeps_sedge)
    | (fail_if_no_progress extract_lets)
    | intro _
    | (with_reducible split)

theorem keeps_execReReadPass {q₀ : Bool} {b₀ : Block} {s t : State} {s' : Fin 4} (e₀ : execReReadPass s' s = .next t)
    (h₀ : Keeps q₀ b₀ s.toBlock) : Keeps q₀ b₀ t.toBlock := by
  unfold execReReadPass at e₀
  refine Keeps.upd e₀ h₀ (fun _ _ => ?_)
  repeat' first
    | (with_reducible assumption)
    | (with_reducible exact Keeps.refl)
    | (with_reducible apply Keeps.ite)
    | (with_reducible refine Keeps.foldl ?_ (fun _ _ _ => ?_))
    | (with_reducible apply keeps_onSurf)
    | (with_reducible apply keeps_reReadPower)
    | (with_reducible apply keeps_modSe)
    | (with_reducible apply keeps_modRc)
    | (fail_if_no_progress extract_lets)
    | intro _
    | (with_reducible split)

theorem keeps_execEngineParityFault {q₀ : Bool} {b₀ : Block} {s t : State} {e : Fin 20} (e₀ : execEngineParityFault e s = .next t)
    (h₀ : Keeps q₀ b₀ s.toBlock) : Keeps q₀ b₀ t.toBlock := by
  unfold execEngineParityFault at e₀
  refine Keeps.upd e₀ h₀ (fun _ _ => ?_)
  repeat' first
    | (with_reducible assumption)
    | (with_reducible exact Keeps.refl)
    | (with_reducible apply Keeps.ite)
    | (with_reducible refine Keeps.foldl ?_ (fun _ _ _ => ?_))
    | (with_reducible apply keeps_putBit)
    | (with_reducible apply keeps_modRc)
    | (with_reducible apply keeps_modWp)
    | (with_reducible apply keeps_raise)
    | (with_reducible apply keeps_assign)
    | (fail_if_no_progress extract_lets)
    | intro _
    | (with_reducible split)

theorem keeps_execEngineRestore {q₀ : Bool} {b₀ : Block} {s t : State} {e : Fin 20} (e₀ : execEngineRestore e s = .next t)
    (h₀ : Keeps q₀ b₀ s.toBlock) : Keeps q₀ b₀ t.toBlock := by
  unfold execEngineRestore at e₀
  refine Keeps.upd e₀ h₀ (fun _ _ => ?_)
  repeat' first
    | (with_reducible assumption)
    | (with_reducible exact Keeps.refl)
    | (with_reducible apply Keeps.ite)
    | (with_reducible refine Keeps.foldl ?_ (fun _ _ _ => ?_))
    | (with_reducible apply keeps_putBit)
    | (with_reducible apply keeps_assign)
    | (fail_if_no_progress extract_lets)
    | intro _
    | (with_reducible split)

theorem keeps_splitWrite {q₀ : Bool} {b₀ b : Block} (h₀ : Keeps q₀ b₀ b) (vmin : Nat) (rmin : Nat) (retry : Nat) :
    Keeps q₀ b₀ (b.splitWrite vmin rmin retry) := by
  unfold Block.splitWrite
  repeat' first
    | (with_reducible assumption)
    | (with_reducible exact Keeps.refl)
    | (with_reducible apply Keeps.ite)
    | (with_reducible refine Keeps.foldl ?_ (fun _ _ _ => ?_))
    | (with_reducible apply keeps_setFld)
    | (with_reducible apply keeps_raise)
    | (fail_if_no_progress extract_lets)
    | intro _
    | (with_reducible split)

theorem keeps_execRcSplitWrite {q₀ : Bool} {b₀ : Block} {s t : State} {vmin : BitVec 5} {rmin : BitVec 5} {retry : BitVec 5} (e₀ : execRcSplitWrite vmin rmin retry s = .next t)
    (h₀ : Keeps q₀ b₀ s.toBlock) : Keeps q₀ b₀ t.toBlock := by
  unfold execRcSplitWrite at e₀
  refine Keeps.upd e₀ h₀ (fun _ _ => ?_)
  repeat' first
    | (with_reducible assumption)
    | (with_reducible exact Keeps.refl)
    | (with_reducible apply Keeps.ite)
    | (with_reducible refine Keeps.foldl ?_ (fun _ _ _ => ?_))
    | (with_reducible apply keeps_splitWrite)
    | (with_reducible apply keeps_assign)
    | (fail_if_no_progress extract_lets)
    | intro _
    | (with_reducible split)

theorem keeps_readThrottle {q₀ : Bool} {b₀ b : Block} (h₀ : Keeps q₀ b₀ b) (s : Fin 4) :
    Keeps q₀ b₀ (b.readThrottle s) := by
  unfold Block.readThrottle
  repeat' first
    | (with_reducible assumption)
    | (with_reducible exact Keeps.refl)
    | (with_reducible apply Keeps.ite)
    | (with_reducible refine Keeps.foldl ?_ (fun _ _ _ => ?_))
    | (with_reducible apply keeps_putBit)
    | (with_reducible apply keeps_raiseSurf)
    | (fail_if_no_progress extract_lets)
    | intro _
    | (with_reducible split)

theorem keeps_execAngleReference {q₀ : Bool} {b₀ : Block} {s t : State} {s' : Fin 4} (e₀ : execAngleReference s' s = .next t)
    (h₀ : Keeps q₀ b₀ s.toBlock) : Keeps q₀ b₀ t.toBlock := by
  unfold execAngleReference at e₀
  refine Keeps.upd e₀ h₀ (fun _ _ => ?_)
  repeat' first
    | (with_reducible assumption)
    | (with_reducible exact Keeps.refl)
    | (with_reducible apply Keeps.ite)
    | (with_reducible refine Keeps.foldl ?_ (fun _ _ _ => ?_))
    | (with_reducible apply keeps_onSurf)
    | (with_reducible apply keeps_sendPower)
    | (with_reducible apply keeps_modSe)
    | (with_reducible apply keeps_endPass)
    | (with_reducible apply keeps_startPass)
    | (with_reducible apply keeps_verifyThrottle)
    | (with_reducible apply keeps_readThrottle)
    | (with_reducible apply keeps_selectSpot)
    | (fail_if_no_progress extract_lets)
    | intro _
    | (with_reducible split)

/-! ### Machine/RegCmds.lean -/

theorem keeps_run {q₀ : Bool} {b₀ b : Block} (h₀ : Keeps q₀ b₀ b) (f : State → Host.Outcome State Fault Refusal)
    (hf : ∀ s t, f s = .next t → Keeps q₀ b₀ s.toBlock → Keeps q₀ b₀ t.toBlock) : Keeps q₀ b₀ (b.run f) := by
  unfold Block.run
  split
  · rename_i t e; exact hf _ _ e h₀
  · exact h₀

theorem keeps_decErr {q₀ : Bool} {b₀ b : Block} (h₀ : Keeps q₀ b₀ b) (m : Master) (kind : Nat) (o : Nat) :
    Keeps q₀ b₀ (b.decErr m kind o) := by
  unfold Block.decErr
  repeat' first
    | (with_reducible assumption)
    | (with_reducible exact Keeps.refl)
    | (with_reducible apply Keeps.ite)
    | (with_reducible refine Keeps.foldl ?_ (fun _ _ _ => ?_))
    | (with_reducible apply keeps_wr)
    | (fail_if_no_progress extract_lets)
    | intro _
    | (with_reducible split)

theorem keeps_clearRc {q₀ : Bool} {b₀ b : Block} (h₀ : Keeps q₀ b₀ b) (r : RegRow) (o : Nat) :
    Keeps q₀ b₀ (b.clearRc r o) := by
  unfold Block.clearRc
  repeat' first
    | (with_reducible assumption)
    | (with_reducible exact Keeps.refl)
    | (with_reducible apply Keeps.ite)
    | (with_reducible refine Keeps.foldl ?_ (fun _ _ _ => ?_))
    | (with_reducible apply keeps_telCleared)
    | (with_reducible apply keeps_wr)
    | (fail_if_no_progress extract_lets)
    | intro _
    | (with_reducible split)

theorem keeps_tickSnapshot {q₀ : Bool} {b₀ b : Block} (h₀ : Keeps q₀ b₀ b) (m : Master) :
    Keeps q₀ b₀ (b.tickSnapshot m) := by
  unfold Block.tickSnapshot
  repeat' first
    | (with_reducible assumption)
    | (with_reducible exact Keeps.refl)
    | (with_reducible apply Keeps.ite)
    | (with_reducible refine Keeps.foldl ?_ (fun _ _ _ => ?_))
    | (with_reducible apply keeps_setSnap)
    | (fail_if_no_progress extract_lets)
    | intro _
    | (with_reducible split)

theorem keeps_fsyncRead {q₀ : Bool} {b₀ b : Block} (h₀ : Keeps q₀ b₀ b) :
    Keeps q₀ b₀ (b.fsyncRead) := by
  unfold Block.fsyncRead
  repeat' first
    | (with_reducible assumption)
    | (with_reducible exact Keeps.refl)
    | (with_reducible apply Keeps.ite)
    | (with_reducible refine Keeps.foldl ?_ (fun _ _ _ => ?_))
    | (with_reducible apply keeps_modFsync)
    | (with_reducible apply keeps_setFld)
    | (fail_if_no_progress extract_lets)
    | intro _
    | (with_reducible split)

theorem keeps_readReg {q₀ : Bool} {b₀ b : Block} (h₀ : Keeps q₀ b₀ b) (m : Master) (o : Nat) :
    Keeps q₀ b₀ (b.readReg m o) := by
  unfold Block.readReg
  repeat' first
    | (with_reducible assumption)
    | (with_reducible exact Keeps.refl)
    | (with_reducible apply Keeps.ite)
    | (with_reducible refine Keeps.foldl ?_ (fun _ _ _ => ?_))
    | (with_reducible apply Keeps.ite2)
    | (with_reducible refine Keeps.snd (by with_reducible assumption) ?_)
    | (with_reducible refine Keeps.thd (by with_reducible assumption) ?_)
    | (with_reducible apply keeps_answer)
    | (with_reducible apply keeps_run)
    | (with_reducible refine keeps_execApertureAccess (by with_reducible assumption) ?_)
    | (with_reducible apply keeps_decErr)
    | (with_reducible refine keeps_execClaim (by with_reducible assumption) ?_)
    | (with_reducible refine keeps_execPeerFifoRead (by with_reducible assumption) ?_)
    | (with_reducible apply keeps_ptReserveSlot)
    | (with_reducible apply keeps_tickSnapshot)
    | (with_reducible apply keeps_fsyncRead)
    | (with_reducible apply keeps_clearRc)
    | (fail_if_no_progress extract_lets)
    | intro _
    | (with_reducible split)

theorem keeps_rwhLost {q₀ : Bool} {b₀ b : Block} (h₀ : Keeps q₀ b₀ b) (o : Nat) (lost : Word) :
    Keeps q₀ b₀ (b.rwhLost o lost) := by
  unfold Block.rwhLost
  repeat' first
    | (with_reducible assumption)
    | (with_reducible exact Keeps.refl)
    | (with_reducible apply Keeps.ite)
    | (with_reducible refine Keeps.foldl ?_ (fun _ _ _ => ?_))
    | (with_reducible apply keeps_bump)
    | (with_reducible apply keeps_raise)
    | (fail_if_no_progress extract_lets)
    | intro _
    | (with_reducible split)

theorem keeps_writeIc {q₀ : Bool} {b₀ b : Block} (h₀ : Keeps q₀ b₀ b) (o : Nat) (v : Word) (new : Word) :
    Keeps q₀ b₀ (b.writeIc o v new) := by
  unfold Block.writeIc
  repeat' first
    | (with_reducible assumption)
    | (with_reducible exact Keeps.refl)
    | (with_reducible apply Keeps.ite)
    | (with_reducible refine Keeps.foldl ?_ (fun _ _ _ => ?_))
    | (with_reducible apply keeps_run)
    | (with_reducible refine keeps_execTargetDisable (by with_reducible assumption) ?_)
    | (with_reducible apply keeps_raise)
    | (with_reducible refine keeps_execHostEoi (by with_reducible assumption) ?_)
    | (with_reducible refine keeps_execEoi (by with_reducible assumption) ?_)
    | (with_reducible apply keeps_clearPend)
    | (with_reducible apply keeps_wr)
    | (fail_if_no_progress extract_lets)
    | intro _
    | (with_reducible split)

theorem keeps_writePw {b₀ b : Block} (h₀ : Keeps false b₀ b) (o : Nat) (v : Word) (new : Word) :
    Keeps false b₀ (b.writePw o v new) := by
  unfold Block.writePw
  repeat' first
    | (with_reducible assumption)
    | (with_reducible exact Keeps.refl)
    | (with_reducible apply Keeps.ite)
    | (with_reducible refine Keeps.foldl ?_ (fun _ _ _ => ?_))
    | (with_reducible apply keeps_wr)
    | (with_reducible apply keeps_setFld)
    | (with_reducible apply keeps_softReset)
    | (with_reducible apply keeps_keepCover)
    | (fail_if_no_progress extract_lets)
    | intro _
    | (with_reducible split)

theorem keeps_writeHq {q₀ : Bool} {b₀ b : Block} (h₀ : Keeps q₀ b₀ b) (o : Nat) (v : Word) (new : Word) :
    Keeps q₀ b₀ (b.writeHq o v new) := by
  unfold Block.writeHq
  repeat' first
    | (with_reducible assumption)
    | (with_reducible exact Keeps.refl)
    | (with_reducible apply Keeps.ite)
    | (with_reducible refine Keeps.foldl ?_ (fun _ _ _ => ?_))
    | (with_reducible apply keeps_wr)
    | (with_reducible apply keeps_ctlEnable)
    | (with_reducible apply keeps_run)
    | (with_reducible refine keeps_execControllerReset (by with_reducible assumption) ?_)
    | (with_reducible apply keeps_setFld)
    | (fail_if_no_progress extract_lets)
    | intro _
    | (with_reducible split)

theorem keeps_writeLe {q₀ : Bool} {b₀ b : Block} (h₀ : Keeps q₀ b₀ b) (o : Nat) (v : Word) (new : Word) :
    Keeps q₀ b₀ (b.writeLe o v new) := by
  unfold Block.writeLe
  repeat' first
    | (with_reducible assumption)
    | (with_reducible exact Keeps.refl)
    | (with_reducible apply Keeps.ite)
    | (with_reducible refine Keeps.foldl ?_ (fun _ _ _ => ?_))
    | (with_reducible apply keeps_wr)
    | (with_reducible apply keeps_run)
    | (with_reducible refine keeps_execLoadShadowTable (by with_reducible assumption) ?_)
    | (with_reducible refine keeps_execLoadDefaultTable (by with_reducible assumption) ?_)
    | (with_reducible refine keeps_execLoadProgram (by with_reducible assumption) ?_)
    | (with_reducible refine keeps_execLoadPatch (by with_reducible assumption) ?_)
    | (with_reducible apply keeps_modLe)
    | (with_reducible refine keeps_execLiveSlotWrite (by with_reducible assumption) ?_)
    | (with_reducible apply keeps_leMemWrite)
    | (with_reducible apply keeps_setPsw)
    | (fail_if_no_progress extract_lets)
    | intro _
    | (with_reducible split)

theorem keeps_writeSf {q₀ : Bool} {b₀ b : Block} (h₀ : Keeps q₀ b₀ b) (o : Nat) (new : Word) :
    Keeps q₀ b₀ (b.writeSf o new) := by
  unfold Block.writeSf
  repeat' first
    | (with_reducible assumption)
    | (with_reducible exact Keeps.refl)
    | (with_reducible apply Keeps.ite)
    | (with_reducible refine Keeps.foldl ?_ (fun _ _ _ => ?_))
    | (with_reducible apply keeps_wr)
    | (with_reducible apply keeps_applyHolds)
    | (fail_if_no_progress extract_lets)
    | intro _
    | (with_reducible split)

theorem keeps_writeSp {q₀ : Bool} {b₀ b : Block} (h₀ : Keeps q₀ b₀ b) (o : Nat) (new : Word) :
    Keeps q₀ b₀ (b.writeSp o new) := by
  unfold Block.writeSp
  repeat' first
    | (with_reducible assumption)
    | (with_reducible exact Keeps.refl)
    | (with_reducible apply Keeps.ite)
    | (with_reducible refine Keeps.foldl ?_ (fun _ _ _ => ?_))
    | (with_reducible apply keeps_wr)
    | (with_reducible apply keeps_spRun)
    | (with_reducible apply keeps_spStop)
    | (with_reducible apply keeps_spRetarget)
    | (with_reducible apply keeps_spFaultDone)
    | (fail_if_no_progress extract_lets)
    | intro _
    | (with_reducible split)

theorem keeps_writeAx {q₀ : Bool} {b₀ b : Block} (h₀ : Keeps q₀ b₀ b) (o : Nat) (v : Word) (new : Word) :
    Keeps q₀ b₀ (b.writeAx o v new) := by
  unfold Block.writeAx
  repeat' first
    | (with_reducible assumption)
    | (with_reducible exact Keeps.refl)
    | (with_reducible apply Keeps.ite)
    | (with_reducible refine Keeps.foldl ?_ (fun _ _ _ => ?_))
    | (with_reducible apply keeps_run)
    | (with_reducible refine keeps_execAxisTarget (by with_reducible assumption) ?_)
    | (with_reducible refine keeps_execAxisRelative (by with_reducible assumption) ?_)
    | (with_reducible apply keeps_wr)
    | (with_reducible apply keeps_axDisable)
    | (with_reducible apply keeps_axHalt)
    | (with_reducible apply keeps_homeStart)
    | (with_reducible apply keeps_axFaultDone)
    | (fail_if_no_progress extract_lets)
    | intro _
    | (with_reducible split)

theorem keeps_writeWp {q₀ : Bool} {b₀ b : Block} (h₀ : Keeps q₀ b₀ b) (o : Nat) (v : Word) (new : Word) :
    Keeps q₀ b₀ (b.writeWp o v new) := by
  unfold Block.writeWp
  repeat' first
    | (with_reducible assumption)
    | (with_reducible exact Keeps.refl)
    | (with_reducible apply Keeps.ite)
    | (with_reducible refine Keeps.foldl ?_ (fun _ _ _ => ?_))
    | (with_reducible apply keeps_wr)
    | (with_reducible apply keeps_onSurf)
    | (with_reducible apply keeps_cancelPlan)
    | (with_reducible apply keeps_modWp)
    | (with_reducible apply keeps_bandEntryFor)
    | (with_reducible apply keeps_seEnable)
    | (with_reducible apply keeps_seRetrain)
    | (with_reducible apply keeps_run)
    | (with_reducible refine keeps_execSeLinkDown (by with_reducible assumption) ?_)
    | (with_reducible apply keeps_setFld)
    | (with_reducible apply keeps_modSe)
    | (with_reducible apply keeps_applyHolds)
    | (with_reducible apply keeps_sendPower)
    | (with_reducible refine keeps_execMgmtAccess (by with_reducible assumption) ?_)
    | (with_reducible apply keeps_calPowerWrite)
    | (fail_if_no_progress extract_lets)
    | intro _
    | (with_reducible split)

theorem keeps_writeRc {q₀ : Bool} {b₀ b : Block} (h₀ : Keeps q₀ b₀ b) (o : Nat) (v : Word) (new : Word) :
    Keeps q₀ b₀ (b.writeRc o v new) := by
  unfold Block.writeRc
  repeat' first
    | (with_reducible assumption)
    | (with_reducible exact Keeps.refl)
    | (with_reducible apply Keeps.ite)
    | (with_reducible refine Keeps.foldl ?_ (fun _ _ _ => ?_))
    | (with_reducible apply keeps_wr)
    | (with_reducible apply keeps_run)
    | (with_reducible refine keeps_execBmRestart (by with_reducible assumption) ?_)
    | (with_reducible apply keeps_splitWrite)
    | (with_reducible apply keeps_assign)
    | (fail_if_no_progress extract_lets)
    | intro _
    | (with_reducible split)

theorem keeps_writePt {q₀ : Bool} {b₀ b : Block} (h₀ : Keeps q₀ b₀ b) (o : Nat) (new : Word) :
    Keeps q₀ b₀ (b.writePt o new) := by
  unfold Block.writePt
  repeat' first
    | (with_reducible assumption)
    | (with_reducible exact Keeps.refl)
    | (with_reducible apply Keeps.ite)
    | (with_reducible refine Keeps.foldl ?_ (fun _ _ _ => ?_))
    | (with_reducible apply keeps_ptKick)
    | (with_reducible apply keeps_wr)
    | (with_reducible apply keeps_setBit)
    | (fail_if_no_progress extract_lets)
    | intro _
    | (with_reducible split)

theorem keeps_writeDram {q₀ : Bool} {b₀ b : Block} (h₀ : Keeps q₀ b₀ b) (m : Master) (o : Nat) (v : Word) (new : Word) :
    Keeps q₀ b₀ (b.writeDram m o v new) := by
  unfold Block.writeDram
  repeat' first
    | (with_reducible assumption)
    | (with_reducible exact Keeps.refl)
    | (with_reducible apply Keeps.ite)
    | (with_reducible refine Keeps.foldl ?_ (fun _ _ _ => ?_))
    | (with_reducible apply keeps_setAper)
    | (with_reducible apply keeps_winWrite)
    | (with_reducible apply keeps_wayRestore)
    | (with_reducible apply keeps_mcGo)
    | (with_reducible apply keeps_wr)
    | (with_reducible apply keeps_slGrant)
    | (with_reducible apply keeps_slCtl)
    | (fail_if_no_progress extract_lets)
    | intro _
    | (with_reducible split)

theorem keeps_writeCx {q₀ : Bool} {b₀ b : Block} (h₀ : Keeps q₀ b₀ b) (o : Nat) (v : Word) (new : Word) :
    Keeps q₀ b₀ (b.writeCx o v new) := by
  unfold Block.writeCx
  repeat' first
    | (with_reducible assumption)
    | (with_reducible exact Keeps.refl)
    | (with_reducible apply Keeps.ite)
    | (with_reducible refine Keeps.foldl ?_ (fun _ _ _ => ?_))
    | (with_reducible apply keeps_pageWrite)
    | (with_reducible apply keeps_wr)
    | (with_reducible apply keeps_katAll)
    | (with_reducible apply keeps_pairRestore)
    | (with_reducible apply keeps_ksGo)
    | (fail_if_no_progress extract_lets)
    | intro _
    | (with_reducible split)

theorem keeps_writeMl {q₀ : Bool} {b₀ b : Block} (h₀ : Keeps q₀ b₀ b) (m : Master) (o : Nat) (v : Word) (new : Word) :
    Keeps q₀ b₀ (b.writeMl m o v new) := by
  unfold Block.writeMl
  repeat' first
    | (with_reducible assumption)
    | (with_reducible exact Keeps.refl)
    | (with_reducible apply Keeps.ite)
    | (with_reducible refine Keeps.foldl ?_ (fun _ _ _ => ?_))
    | (with_reducible apply keeps_wr)
    | (with_reducible apply keeps_mlDisable)
    | (with_reducible apply keeps_mlEnable)
    | (with_reducible apply keeps_mlTimers)
    | (with_reducible apply keeps_tunBit)
    | (with_reducible apply keeps_tunnelGo)
    | (with_reducible apply keeps_setTunData)
    | (fail_if_no_progress extract_lets)
    | intro _
    | (with_reducible split)

theorem keeps_fsyncEnable {q₀ : Bool} {b₀ b : Block} (h₀ : Keeps q₀ b₀ b) :
    Keeps q₀ b₀ (b.fsyncEnable) := by
  unfold Block.fsyncEnable
  repeat' first
    | (with_reducible assumption)
    | (with_reducible exact Keeps.refl)
    | (with_reducible apply Keeps.ite)
    | (with_reducible refine Keeps.foldl ?_ (fun _ _ _ => ?_))
    | (with_reducible apply keeps_wr)
    | (with_reducible apply keeps_setFld)
    | (fail_if_no_progress extract_lets)
    | intro _
    | (with_reducible split)

theorem keeps_writeMz {q₀ : Bool} {b₀ b : Block} (h₀ : Keeps q₀ b₀ b) (o : Nat) (v : Word) (new : Word) :
    Keeps q₀ b₀ (b.writeMz o v new) := by
  unfold Block.writeMz
  repeat' first
    | (with_reducible assumption)
    | (with_reducible exact Keeps.refl)
    | (with_reducible apply Keeps.ite)
    | (with_reducible refine Keeps.foldl ?_ (fun _ _ _ => ?_))
    | (with_reducible apply keeps_wr)
    | (with_reducible apply keeps_fsyncEnable)
    | (with_reducible apply keeps_i2cGo)
    | (fail_if_no_progress extract_lets)
    | intro _
    | (with_reducible split)

theorem keeps_writeMapped {b₀ b : Block} (h₀ : Keeps false b₀ b) (m : Master) (r : RegRow) (o : Nat) (v : Word) :
    Keeps false b₀ (b.writeMapped m r o v) := by
  unfold Block.writeMapped
  repeat' first
    | (with_reducible assumption)
    | (with_reducible exact Keeps.refl)
    | (with_reducible apply Keeps.ite)
    | (with_reducible refine Keeps.foldl ?_ (fun _ _ _ => ?_))
    | (with_reducible apply keeps_writeIc)
    | (with_reducible apply keeps_writePw)
    | (with_reducible apply keeps_setQsel)
    | (with_reducible apply keeps_wr)
    | (with_reducible apply keeps_run)
    | (with_reducible refine keeps_execMsixUnmask (by with_reducible assumption) ?_)
    | (with_reducible apply keeps_writeHq)
    | (with_reducible apply keeps_writeLe)
    | (with_reducible apply keeps_writeSf)
    | (with_reducible apply keeps_writeSp)
    | (with_reducible apply keeps_writeAx)
    | (with_reducible apply keeps_writeWp)
    | (with_reducible apply keeps_writeRc)
    | (with_reducible apply keeps_writePt)
    | (with_reducible apply keeps_writeDram)
    | (with_reducible apply keeps_writeCx)
    | (with_reducible apply keeps_writeMl)
    | (with_reducible apply keeps_writeMz)
    | (fail_if_no_progress extract_lets)
    | intro _
    | (with_reducible split)

theorem keeps_writeReg {b₀ b : Block} (h₀ : Keeps false b₀ b) (m : Master) (o : Nat) (v : Word) (lost : Word) :
    Keeps false b₀ (b.writeReg m o v lost) := by
  unfold Block.writeReg
  repeat' first
    | (with_reducible assumption)
    | (with_reducible exact Keeps.refl)
    | (with_reducible apply Keeps.ite)
    | (with_reducible refine Keeps.foldl ?_ (fun _ _ _ => ?_))
    | (with_reducible apply keeps_run)
    | (with_reducible refine keeps_execApertureAccess (by with_reducible assumption) ?_)
    | (with_reducible apply keeps_decErr)
    | (with_reducible apply keeps_writeMapped)
    | (with_reducible apply keeps_rwhLost)
    | (fail_if_no_progress extract_lets)
    | intro _
    | (with_reducible split)

theorem keeps_execReadClearField {q₀ : Bool} {b₀ : Block} {s t : State} {m : Master} {o : BitVec 20} (e₀ : execReadClearField m o s = .next t)
    (h₀ : Keeps q₀ b₀ s.toBlock) : Keeps q₀ b₀ t.toBlock := by
  unfold execReadClearField at e₀
  refine Keeps.upd e₀ h₀ (fun _ _ => ?_)
  repeat' first
    | (with_reducible assumption)
    | (with_reducible exact Keeps.refl)
    | (with_reducible apply Keeps.ite)
    | (with_reducible refine Keeps.foldl ?_ (fun _ _ _ => ?_))
    | (with_reducible apply keeps_readReg)
    | (fail_if_no_progress extract_lets)
    | intro _
    | (with_reducible split)

theorem keeps_execRegisterWrite {b₀ : Block} {s t : State} {m : Master} {o : BitVec 20} {v : Word} {lost : Word} (e₀ : execRegisterWrite m o v lost s = .next t)
    (h₀ : Keeps false b₀ s.toBlock) : Keeps false b₀ t.toBlock := by
  unfold execRegisterWrite at e₀
  refine Keeps.upd e₀ h₀ (fun _ _ => ?_)
  repeat' first
    | (with_reducible assumption)
    | (with_reducible exact Keeps.refl)
    | (with_reducible apply Keeps.ite)
    | (with_reducible refine Keeps.foldl ?_ (fun _ _ _ => ?_))
    | (with_reducible apply keeps_writeReg)
    | (fail_if_no_progress extract_lets)
    | intro _
    | (with_reducible split)

theorem keeps_execPartialWrite {q₀ : Bool} {b₀ : Block} {s t : State} {m : Master} {o : BitVec 20} (e₀ : execPartialWrite m o s = .next t)
    (h₀ : Keeps q₀ b₀ s.toBlock) : Keeps q₀ b₀ t.toBlock := by
  unfold execPartialWrite at e₀
  refine Keeps.upd e₀ h₀ (fun _ _ => ?_)
  repeat' first
    | (with_reducible assumption)
    | (with_reducible exact Keeps.refl)
    | (with_reducible apply Keeps.ite)
    | (with_reducible refine Keeps.foldl ?_ (fun _ _ _ => ?_))
    | (with_reducible apply keeps_decErr)
    | (fail_if_no_progress extract_lets)
    | intro _
    | (with_reducible split)

theorem keeps_execUnmappedAccess {q₀ : Bool} {b₀ : Block} {s t : State} {m : Master} {o : BitVec 20} {write : Bool} (e₀ : execUnmappedAccess m o write s = .next t)
    (h₀ : Keeps q₀ b₀ s.toBlock) : Keeps q₀ b₀ t.toBlock := by
  unfold execUnmappedAccess at e₀
  refine Keeps.upd e₀ h₀ (fun _ _ => ?_)
  repeat' first
    | (with_reducible assumption)
    | (with_reducible exact Keeps.refl)
    | (with_reducible apply Keeps.ite)
    | (with_reducible refine Keeps.foldl ?_ (fun _ _ _ => ?_))
    | (with_reducible apply keeps_decErr)
    | (with_reducible apply keeps_answer)
    | (fail_if_no_progress extract_lets)
    | intro _
    | (with_reducible split)

theorem keeps_atCycle {q₀ : Bool} {b₀ b : Block} (h₀ : Keeps q₀ b₀ b) (c : BitVec 11) :
    Keeps q₀ b₀ (b.atCycle c) := by
  unfold Block.atCycle
  repeat' first
    | (with_reducible assumption)
    | (with_reducible exact Keeps.refl)
    | (with_reducible apply Keeps.ite)
    | (with_reducible refine Keeps.foldl ?_ (fun _ _ _ => ?_))
    | (with_reducible apply keeps_setCyc)
    | (fail_if_no_progress extract_lets)
    | intro _
    | (with_reducible split)

theorem keeps_execTickSnapshotRead {q₀ : Bool} {b₀ : Block} {s t : State} {m : Master} {cyc : BitVec 11} (e₀ : execTickSnapshotRead m cyc s = .next t)
    (h₀ : Keeps q₀ b₀ s.toBlock) : Keeps q₀ b₀ t.toBlock := by
  unfold execTickSnapshotRead at e₀
  refine Keeps.upd e₀ h₀ (fun _ _ => ?_)
  repeat' first
    | (with_reducible assumption)
    | (with_reducible exact Keeps.refl)
    | (with_reducible apply Keeps.ite)
    | (with_reducible refine Keeps.foldl ?_ (fun _ _ _ => ?_))
    | (with_reducible apply keeps_atCycle)
    | (with_reducible apply keeps_tickSnapshot)
    | (with_reducible apply keeps_answer)
    | (fail_if_no_progress extract_lets)
    | intro _
    | (with_reducible split)

theorem keeps_execFsyncEdge {q₀ : Bool} {b₀ : Block} {s t : State} {falling : Bool} {cyc : BitVec 11} (e₀ : execFsyncEdge falling cyc s = .next t)
    (h₀ : Keeps q₀ b₀ s.toBlock) : Keeps q₀ b₀ t.toBlock := by
  unfold execFsyncEdge at e₀
  refine Keeps.upd e₀ h₀ (fun _ _ => ?_)
  repeat' first
    | (with_reducible assumption)
    | (with_reducible exact Keeps.refl)
    | (with_reducible apply Keeps.ite)
    | (with_reducible refine Keeps.foldl ?_ (fun _ _ _ => ?_))
    | (with_reducible apply keeps_atCycle)
    | (with_reducible apply keeps_setFld)
    | (with_reducible apply keeps_modFsync)
    | (with_reducible apply keeps_wr)
    | (with_reducible apply keeps_raise)
    | (fail_if_no_progress extract_lets)
    | intro _
    | (with_reducible split)

theorem keeps_execFsyncTsRead {q₀ : Bool} {b₀ : Block} {s t : State} {m : Master} (e₀ : execFsyncTsRead m s = .next t)
    (h₀ : Keeps q₀ b₀ s.toBlock) : Keeps q₀ b₀ t.toBlock := by
  unfold execFsyncTsRead at e₀
  refine Keeps.upd e₀ h₀ (fun _ _ => ?_)
  repeat' first
    | (with_reducible assumption)
    | (with_reducible exact Keeps.refl)
    | (with_reducible apply Keeps.ite)
    | (with_reducible refine Keeps.foldl ?_ (fun _ _ _ => ?_))
    | (with_reducible apply keeps_fsyncRead)
    | (with_reducible apply keeps_answer)
    | (fail_if_no_progress extract_lets)
    | intro _
    | (with_reducible split)

theorem keeps_execFsyncEnable {q₀ : Bool} {b₀ : Block} {s t : State} (e₀ : execFsyncEnable s = .next t)
    (h₀ : Keeps q₀ b₀ s.toBlock) : Keeps q₀ b₀ t.toBlock := by
  unfold execFsyncEnable at e₀
  refine Keeps.upd e₀ h₀ (fun _ _ => ?_)
  repeat' first
    | (with_reducible assumption)
    | (with_reducible exact Keeps.refl)
    | (with_reducible apply Keeps.ite)
    | (with_reducible refine Keeps.foldl ?_ (fun _ _ _ => ?_))
    | (with_reducible apply keeps_fsyncEnable)
    | (fail_if_no_progress extract_lets)
    | intro _
    | (with_reducible split)

theorem keeps_execMlTunReq {b₀ : Block} {s t : State} {addr : BitVec 22} {write : Bool} {data : Word} (e₀ : execMlTunReq addr write data s = .next t)
    (h₀ : Keeps false b₀ s.toBlock) : Keeps false b₀ t.toBlock := by
  unfold execMlTunReq at e₀
  refine Keeps.upd e₀ h₀ (fun _ _ => ?_)
  repeat' first
    | (with_reducible assumption)
    | (with_reducible exact Keeps.refl)
    | (with_reducible apply Keeps.ite)
    | (with_reducible refine Keeps.foldl ?_ (fun _ _ _ => ?_))
    | (with_reducible apply keeps_onFrame)
    | (with_reducible apply keeps_writeReg)
    | (with_reducible apply keeps_readReg)
    | (with_reducible apply keeps_melarSend)
    | (fail_if_no_progress extract_lets)
    | intro _
    | (with_reducible split)

end Sys2Proof.Machine
end

