-- ==== Sys2Proof/Laws/Loop.lean ====
section
/-!
SUPPORT. The loop engine's register file and its instructions: what a read after a write gives, and what an instruction
that fits does to the machine.
-/

namespace Sys2Proof.Machine

@[simp] theorem LeRun.getX_zero (r : LeRun) : r.getX 0 = 0 := rfl

theorem LeRun.getX_setX_same (r : LeRun) {i : Nat} (h : i < 32) (h0 : i ≠ 0) (v : Word) : (r.setX i v).getX i = v := by
  simp [LeRun.getX, LeRun.setX, h0, h]

theorem LeRun.getX_setX_ne (r : LeRun) {i j : Nat} (h : j ≠ i) (v : Word) : (r.setX i v).getX j = r.getX j := by
  unfold LeRun.getX LeRun.setX
  split
  · rfl
  · split
    · rfl
    · simp [Vector.getElem?_setIfInBounds_ne (Ne.symm h)]

theorem LeRun.setX_zero (r : LeRun) (v : Word) : r.setX 0 v = r := rfl

@[simp] theorem LeRun.setX_used (r : LeRun) (i : Nat) (v : Word) : (r.setX i v).used = r.used := by
  unfold LeRun.setX; split <;> rfl
@[simp] theorem LeRun.setX_pc (r : LeRun) (i : Nat) (v : Word) : (r.setX i v).pc = r.pc := by
  unfold LeRun.setX; split <;> rfl
@[simp] theorem LeRun.setX_entry (r : LeRun) (i : Nat) (v : Word) : (r.setX i v).entry = r.entry := by
  unfold LeRun.setX; split <;> rfl
@[simp] theorem LeRun.setX_prog (r : LeRun) (i : Nat) (v : Word) : (r.setX i v).prog = r.prog := by
  unfold LeRun.setX; split <;> rfl
@[simp] theorem LeRun.setX_start (r : LeRun) (i : Nat) (v : Word) : (r.setX i v).start = r.start := by
  unfold LeRun.setX; split <;> rfl
@[simp] theorem LeRun.setX_budget (r : LeRun) (i : Nat) (v : Word) : (r.setX i v).budget = r.budget := by
  unfold LeRun.setX; split <;> rfl
@[simp] theorem LeRun.setX_quarter (r : LeRun) (i : Nat) (v : Word) : (r.setX i v).quarter = r.quarter := by
  unfold LeRun.setX; split <;> rfl
@[simp] theorem LeRun.setX_dbase (r : LeRun) (i : Nat) (v : Word) : (r.setX i v).dbase = r.dbase := by
  unfold LeRun.setX; split <;> rfl
@[simp] theorem LeRun.setX_parity (r : LeRun) (i : Nat) (v : Word) : (r.setX i v).parity = r.parity := by
  unfold LeRun.setX; split <;> rfl
@[simp] theorem LeRun.setX_wbuf (r : LeRun) (i : Nat) (v : Word) : (r.setX i v).wbuf = r.wbuf := by
  unfold LeRun.setX; split <;> rfl
@[simp] theorem LeRun.setX_cp (r : LeRun) (i : Nat) (v : Word) : (r.setX i v).cp = r.cp := by
  unfold LeRun.setX; split <;> rfl
@[simp] theorem LeRun.setX_sat (r : LeRun) (i : Nat) (v : Word) : (r.setX i v).sat = r.sat := by
  unfold LeRun.setX; split <;> rfl

/-- A register write has what `LeRun.Wrote` asks, with the cycles and the code address moved on. -/
theorem LeRun.wrote_setX (r : LeRun) (cost : Nat) (d : Fin 32) (v : Word) :
    LeRun.Wrote r { r.setX d v with used := r.used + cost, pc := r.pc + 1 } cost d v where
  used := rfl
  pc := rfl
  entry := by simp
  prog := by simp
  start := by simp
  budget := by simp
  quarter := by simp
  dbase := by simp
  parity := by simp
  value := fun h => LeRun.getX_setX_same r d.isLt (by intro h'; exact h (Fin.ext h')) v
  zero := rfl
  others := fun i _ hi => LeRun.getX_setX_ne r (by simpa using hi) v
  wbuf := by simp
  cp := by simp
  sat := by simp

theorem sat32_toInt (z : Int) : (sat32 z).toInt = max (-2147483648) (min 2147483647 z) := by
  unfold sat32
  split
  · rw [BitVec.toInt_ofInt]; simp [Int.bmod]; omega
  · split
    · rw [BitVec.toInt_ofInt]; simp [Int.bmod]; omega
    · rw [BitVec.toInt_ofInt, Int.bmod_def]; omega

/-- A saturating write has what `LeRun.WroteSat` asks, with the cycles and the code address moved on. -/
theorem LeRun.wroteSat_setSat (r : LeRun) (cost : Nat) (d : Fin 32) (z : Int) :
    LeRun.WroteSat r { r.setSat d z with used := r.used + cost, pc := r.pc + 1 } cost d z where
  used := rfl
  pc := rfl
  entry := by simp [LeRun.setSat]
  prog := by simp [LeRun.setSat]
  start := by simp [LeRun.setSat]
  budget := by simp [LeRun.setSat]
  quarter := by simp [LeRun.setSat]
  dbase := by simp [LeRun.setSat]
  parity := by simp [LeRun.setSat]
  value := fun h => by
    have := LeRun.getX_setX_same r d.isLt (by intro h'; exact h (Fin.ext h')) (sat32 z)
    rw [← sat32_toInt]; exact congrArg BitVec.toInt this
  zero := rfl
  others := fun i _ hi => LeRun.getX_setX_ne r (by simpa using hi) _
  wbuf := by simp [LeRun.setSat]
  cp := by simp [LeRun.setSat]
  sat := by
    simp only [LeRun.setSat, fits32]
    congr 1
    by_cases h : z < -2147483648 ∨ 2147483647 < z
    · simp only [h, decide_true]
      rcases h with h | h <;> simp <;> omega
    · simp only [h, decide_false]
      simp only [not_or, not_lt] at h
      simp [h.1, h.2]

/-- An instruction that fits moves the execution on and changes nothing else (R160). -/
theorem upd_loopStep {s : State} {r : LeRun} (c : Block → Nat) (f : Block → LeRun → LeRun)
    (h : s.fits r (c s.toBlock)) :
    s.upd (fun b => b.loopStep (c b) (f b)) = .next (s.withRun
      { f s.toBlock r with used := r.used + c s.toBlock, pc := (f s.toBlock r).pc + 1 }) := by
  obtain ⟨h1, h2, h3⟩ := h
  have h2' : ¬ r.budget < r.used + c s.toBlock := by omega
  have h3' : ¬ 1984 < r.start + r.used + c s.toBlock := by omega
  unfold State.upd State.withRun Block.loopStep
  simp only [h1, h2', h3', if_false]
  rfl

end Sys2Proof.Machine
end

