-- ==== Sys2Proof/Tests/Slice0.lean ====
section
/-!
SUPPORT. Own tests: ill-formed commands are refused by WellFormed; witnesses that the hypotheses of the statements, clause
by clause, can be met; and single steps whose results the rules of spec/ give.
-/

namespace Sys2Proof.Tests

open Sys2Proof Sys2Proof.Machine

set_option Elab.async false

/-- The machine after reset with fields set. -/
def set (s : State) (l : List (Fld × Nat)) : State := l.foldl (fun s e => { s with toBlock := s.setFld e.1 e.2 }) s

def r₀ : State := State.reset

def edit (s : State) (f : Block → Block) : State := { s with toBlock := f s.toBlock }

/-- The command answers a next state that passes `p`. -/
def ran (i : Instr) (s : State) (p : State → Bool) : Bool :=
  match exec i s with
  | .next t => p t
  | _ => false

/-! ### WellFormed refuses what the spec bounds -/

/-- A cell's observation with the taps and eye given. -/
def obs (swath taps eye : Nat) : CellObs :=
  { band := 0, swath := swath, stripe := 0, wseq := 1, cands := [], marks := [], spans := [], lostAt := none
    loopLimit := false, tapLimit := false, vga := 0, asym := 0, ofs := 0, freq := 0, phase := 0
    taps := List.replicate taps 512, mse := 0, eye := eye }

/-- What a quiet tick observes. -/
def calm : TickEnv :=
  { samples := [], ports := [], units := [], home := [], door := false, clamp := false, vin := 1200, vhold := 2500
    strikes := [], deferred := 0 }

def zeros (n : Nat) : List Byte := List.replicate n 0

theorem test_wf_places : placeOk 144 0 = false ∧ placeOk 1024 0 = false ∧ placeOk 0 369 = false ∧ placeOk 143 368 = true ∧
    tagOk 4096 = false ∧ tagOk 4095 = true ∧ envPortOk 9 = true ∧ envPortOk 10 = false ∧ envPortOk 0x103 = true ∧
    envPortOk 0x180 = true ∧ envPortOk 960 = false := by decide

theorem test_wf_tick : (Instr.tickPreamble calm).wf = true ∧ (Instr.tickPreamble { calm with ports := [(0, 0)] }).wf = false ∧
    (Instr.tickPreamble { calm with strikes := [(0xE000000, 0)] }).wf = false ∧
    (Instr.tickPreamble { calm with strikes := [(0, 36)] }).wf = false ∧
    (Instr.tickPreamble { calm with strikes := [(0, 64)] }).wf = true := by decide

theorem test_wf_loop : (Instr.opLd 28 7 true 0).wf = false ∧ (Instr.opLd 24 7 true 0).wf = true ∧
    (Instr.opSt 31 1 true 0).wf = false ∧ (Instr.opMvm 30 0 3 0 false).wf = false ∧ (Instr.opMvm 0 30 0 3 false).wf = false ∧
    (Instr.opSincos 31 0).wf = false ∧ (Instr.opRot 31 0 0).wf = false ∧ (Instr.opRot 0 31 0).wf = false ∧
    (Instr.leMemoryWrite 0x82001#22 0).wf = false ∧ (Instr.leMemoryWrite 0xA0000#22 0).wf = false ∧
    (Instr.leMemoryWrite 0x9FFFC#22 0).wf = true := by decide

theorem test_wf_media : (Instr.passPlan 0 [[]]).wf = false ∧ (Instr.seLinkUp 0 0 []).wf = false ∧
    (Instr.cellRead 0 (obs 0 15 64)).wf = true ∧ (Instr.cellRead 0 (obs 369 15 64)).wf = false ∧
    (Instr.cellRead 0 (obs 0 14 64)).wf = false ∧ (Instr.cellRead 0 (obs 0 15 65)).wf = false ∧
    (Instr.decodeJobDone 0 ⟨some 1, 0, zeros 31⟩).wf = false ∧
    (Instr.tailScan [⟨0, 1, 0, 0, 256, 0, 0, 0, 0, 0, 1⟩] [] []).wf = false ∧
    (Instr.tailScan [⟨0, 1, 0, 0, 1, 0, 0, 0, 0, 16, 1⟩] [] []).wf = false ∧
    (Instr.tailScan [] [(1024, 0, 0)] []).wf = false ∧ (Instr.tailScan [] [(0, 369, 0)] []).wf = false := by decide

theorem test_wf_host : (Instr.commandFetch (List.replicate 9 (Vector.replicate 16 0))).wf = false ∧
    (Instr.identify 4096).wf = false ∧ (Instr.lockGrant 4096).wf = false ∧
    (Instr.hostDmaFailure (.data 4096 0)).wf = false ∧ (Instr.hostDmaFailure (.fetch 128 0)).wf = false ∧
    (Instr.magazineLoad 0 (.idMem (zeros 15) true 2)).wf = false ∧
    (Instr.magazineLoad 0 (.ledger [(4, none)] false [] [] [])).wf = false ∧
    (Instr.magazineLoad 0 (.ledger [] false [] [(4, 0)] [])).wf = false ∧
    (Instr.magazineLoad 0 (.ledger [] false [] [] [(4, ⟨0, 0, 0, 0, [], [], 0⟩)])).wf = false ∧
    (Instr.format 0 (zeros 65)).wf = false ∧ (Instr.keyInstall 0 (zeros 73)).wf = false ∧
    (Instr.blockRead 0 [⟨0, 0, 0, 0, none, some []⟩]).wf = false ∧ (Instr.blockRead 0 [⟨0, 369, 0, 0, none, none⟩]).wf = false ∧
    (Instr.blockRead 0 [⟨0, 0, 0, 16, none, none⟩]).wf = false ∧ (Instr.blockRead 0 [⟨0, 0, 0, 0, none, none⟩]).wf = true := by decide

theorem test_wf_lengths : (Instr.clipOpen 0 (zeros 4097) true).wf = false ∧ (Instr.clipClose 0 (zeros 4097)).wf = false ∧
    (Instr.slBeat 0 true (zeros 4097)).wf = false ∧ (Instr.mlData 0 0 (zeros 4097)).wf = false ∧
    (Instr.mlCat 0 1 (zeros 4097)).wf = false ∧ (Instr.mlRsync true 0 0 (zeros 4097)).wf = false ∧
    (Instr.cipherUnit 0 0 .other (zeros 15) (zeros 4096) false).wf = false ∧
    (Instr.cipherUnit 0 0 .other (zeros 16) (zeros 4095) false).wf = false ∧
    (Instr.reTweak 0 0 (zeros 16) (zeros 15) (zeros 4096) false).wf = false := by decide +kernel

theorem test_wf_units : (Instr.flashOpComplete 0 ⟨true, some 16, 0, [], 0, []⟩).wf = false ∧
    (Instr.flashOpComplete 0 ⟨true, none, 0, [4], 0, []⟩).wf = false ∧
    (Instr.dramAccess .hq 0 0 none none none).wf = false ∧ (Instr.dramAccess .hq 0 2 (some [0]) none none).wf = false ∧
    (Instr.mergeFlush 0xE000000).wf = false ∧ (Instr.mcAccess 0 60 8 none .clean).wf = false ∧
    (Instr.mcAccess 0 0x380000000 1 none .clean).wf = false ∧ (Instr.inv 0x37FFFFFFF 2).wf = false ∧
    (Instr.clean 0x37FFFFFFF 2).wf = false ∧ (Instr.lockfill 0x37FFFFFFF 2).wf = false ∧
    (Instr.gcmSeal 0 0 (zeros 23) (zeros 64) [] false false).wf = false ∧
    (Instr.gcmOpen 0 0 (zeros 24) (zeros 64) [] (zeros 15) false false).wf = false ∧
    (Instr.install 0 true (zeros 73)).wf = false ∧ (Instr.mlHello ⟨0, false, 0, [], zeros 16⟩ false).wf = false ∧
    (Instr.holdoffExpiry false 4).wf = false ∧ (Instr.moduleBoot 3 0 [(32, 0)]).wf = false ∧
    (Instr.moduleBoot 3 0 [(0, 3641)]).wf = false ∧ (Instr.calAdcOffset 0 false (some [[]])).wf = false := by decide +kernel


/-! ### Loop instructions: an execution in progress -/

/-- Entry 5, of which 20 of 200 cycles are used: X1 = 0x40000000, X2 = −1, X3 = −2^31, X4 = 3. -/
def run₀ : LeRun :=
  { entry := 5, prog := 3, start := 300, used := 20, budget := 200, pc := 4
    x := vset (vset (vset (vset (Vector.replicate 32 0) 1 0x40000000#32) 2 0xFFFFFFFF#32) 3 0x80000000#32) 4 3#32
    cp := 0, sat := false, quarter := 0, dbase := 0x400, wbuf := [], parity := 0 }

/-- The machine with `r` as the execution in progress, and no entry left in the tick. -/
def loopW (r : LeRun) : State := { r₀ with le := { r₀.le with run := some r, next := 48 } }

def loopS : State := loopW run₀

/-- The execution to whose BUDGET an instruction of opcode `k` and `e` more cycles just fits. -/
def edge (k e : Nat) : LeRun := { run₀ with budget := 20 + (r₀.opCost k + e) }

def edgeS (k e : Nat) : State := loopW (edge k e)

/-- The run that an instruction leaves passes `p`. -/
def ranRun (i : Instr) (s : State) (p : LeRun → Bool) : Bool := ran i s fun t => (t.le.run.map p).getD false

theorem edge_fits (k e : Nat) (h : 320 + (r₀.opCost k + e) ≤ 1984) :
    (edgeS k e).fits (edge k e) ((edgeS k e).opCost k + e) :=
  ⟨rfl, Nat.le_refl _, h⟩

theorem witness_LoopArithmeticSaturates : ∀ k ∈ [8, 9, 10, 13, 14, 15],
    (edgeS k 0).fits (edge k 0) ((edgeS k 0).opCost k) := by
  have h : ∀ k ∈ [8, 9, 10, 13, 14, 15], 320 + (r₀.opCost k + 0) ≤ 1984 := by decide +kernel
  exact fun k hk => edge_fits k 0 (h k hk)

theorem witness_LoopShiftDivRoot : (∀ k ∈ [11, 12, 16, 23, 24], (edgeS k 0).fits (edge k 0) ((edgeS k 0).opCost k)) ∧
    (edge 23 0).getX 2 ≠ 0 ∧ (edge 23 0).getX 0 = 0 ∧ 0 ≤ ((edge 24 0).getX 0).toInt ∧ ((edge 24 0).getX 2).toInt < 0 := by
  have h : ∀ k ∈ [11, 12, 16, 23, 24], 320 + (r₀.opCost k + 0) ≤ 1984 := by decide +kernel
  exact ⟨fun k hk => edge_fits k 0 (h k hk), by decide +kernel⟩

theorem witness_LoopMovesAndLogic : ∀ k ∈ [7, 6, 28, 29, 30, 4, 31],
    (edgeS k 0).fits (edge k 0) ((edgeS k 0).opCost k) := by
  have h : ∀ k ∈ [7, 6, 28, 29, 30, 4, 31], 320 + (r₀.opCost k + 0) ≤ 1984 := by decide +kernel
  exact fun k hk => edge_fits k 0 (h k hk)

/-- A surface that samples, one that does not, and one that the PL3216 has not. -/
def smpS : State := set r₀ [(SFs_CTL_SMPEN 3, 1), (SFs_SMP_k_CODE 3 0, 0x2000), (SFs_SMP_k_CODE 3 2, 0x1FFF)]

theorem witness_LoopPortValues : smpS.part.hasSurf 3 = true ∧ smpS.on (SFs_CTL_SMPEN 3) = true ∧
    (set r₀ [(SFs_CTL_SMPEN 3, 0)]).on (SFs_CTL_SMPEN 3) = false ∧ Part.hasSurf .pl3216 2 = false := by decide +kernel

theorem witness_LoopAngles : (30 : Fin 32).val + 1 < 32 ∧
    ∀ k ∈ [20, 21, 22], (edgeS k 0).fits (edge k 0) ((edgeS k 0).opCost k) := by
  have h : ∀ k ∈ [20, 21, 22], 320 + (r₀.opCost k + 0) ≤ 1984 := by decide +kernel
  exact ⟨by decide, fun k hk => edge_fits k 0 (h k hk)⟩

theorem witness_LoopStagesEffects : (edgeS 2 8).fits (edge 2 8) ((edgeS 2 8).opCost 2 + 7 + 1) ∧
    (24 : Fin 32).val + (7 : Fin 8).val < 32 ∧ (edgeS 3 8).fits (edge 3 8) ((edgeS 3 8).opCost 3 + 7 + 1) ∧
    (edge 3 8).wbuf.length + 7 < 64 ∧ ∀ k ∈ [5, 26, 27, 25], (edgeS k 0).fits (edge k 0) ((edgeS k 0).opCost k) := by
  have h : ∀ k ∈ [5, 26, 27, 25], 320 + (r₀.opCost k + 0) ≤ 1984 := by decide +kernel
  exact ⟨edge_fits 2 8 (by decide +kernel), by decide, edge_fits 3 8 (by decide +kernel), by decide,
    fun k hk => edge_fits k 0 (h k hk)⟩

theorem witness_LoopMatrixAndFlow :
    (edgeS 17 ((15 + 8) / 8 * (15 + 1))).fits (edge 17 ((15 + 8) / 8 * (15 + 1)))
      ((edgeS 17 ((15 + 8) / 8 * (15 + 1))).opCost 17 + (15 + 8) / 8 * (15 + 1)) ∧
    (16 : Fin 32).val + (15 : Fin 16).val < 32 ∧ (edgeS 19 1).fits (edge 19 1) ((edgeS 19 1).opCost 19 + 1) ∧
    condHolds .zero ((edge 19 1).getX 0) = true ∧ condHolds .nonZero ((edge 19 0).getX 0) = false ∧
    ∀ k ∈ [18, 19, 0], (edgeS k 0).fits (edge k 0) ((edgeS k 0).opCost k) := by
  have h : ∀ k ∈ [18, 19, 0], 320 + (r₀.opCost k + 0) ≤ 1984 := by decide +kernel
  exact ⟨edge_fits 17 _ (by decide +kernel), by decide, edge_fits 19 1 (by decide +kernel), by decide +kernel,
    by decide +kernel, fun k hk => edge_fits k 0 (h k hk)⟩

/-- R157: 2^30 + 2^30 saturates and sets SAT; the cost of ADD is one cycle (R160). -/
theorem test_add_saturates : ranRun (.opAdd 5 1 1) loopS (fun r => r.getX 5 = 0x7FFFFFFF#32 && r.sat && r.used = 21) = true ∧
    ranRun (.opSub 5 3 4) loopS (fun r => r.getX 5 = 0x80000000#32 && r.sat) = true := by decide +kernel

/-- R160: MULX of −2^31 by itself saturates; DIV by 0 gives full scale of XA's sign with SAT. -/
theorem test_mulx_div : ranRun (.opMulx 5 3 3) loopS (fun r => r.getX 5 = 0x7FFFFFFF#32 && r.sat) = true ∧
    ranRun (.opDiv 5 2 0) loopS (fun r => r.getX 5 = 0x80000000#32 && r.sat) = true ∧
    ranRun (.opDiv 5 2 3) loopS (fun r => r.getX 5 = 1#32 && !r.sat) = true := by decide +kernel

/-- R160: SHR rounds half up, ABS of −2^31 saturates, SQRT of a negative number gives 0 with SAT. -/
theorem test_shr_abs_sqrt : ranRun (.opShr 5 4 1) loopS (fun r => r.getX 5 = 2#32) = true ∧
    ranRun (.opShr 5 2 1) loopS (fun r => r.getX 5 = 0#32) = true ∧
    ranRun (.opAbs 5 3) loopS (fun r => r.getX 5 = 0x7FFFFFFF#32 && r.sat) = true ∧
    ranRun (.opSqrt 5 2) loopS (fun r => r.getX 5 = 0#32 && r.sat) = true := by decide +kernel

/-- R154, R160: X0 ignores a write; LDI with HI = 0 sign-extends, and a branch skips SKIP instructions. -/
theorem test_ldi_br : ranRun (.opLdi 0 false 5) loopS (fun r => r.getX 0 = 0) = true ∧
    ranRun (.opLdi 6 false 0x8000) loopS (fun r => r.getX 6 = 0xFFFF8000#32) = true ∧
    ranRun (.opLdi 4 true 0x8000) loopS (fun r => r.getX 4 = 0x80000003#32) = true ∧
    ranRun (.opBr .neg 2 3) loopS (fun r => r.pc = 8) = true ∧
    ranRun (.opBr .pos 2 3) loopS (fun r => r.pc = 5) = true := by decide +kernel

/-- R164: ST stages its words after the base DBASE, and changes no data word before the commit. -/
theorem test_st_stages : ran (.opSt 1 1 false 0x10) loopS (fun t => t.regs == loopS.regs &&
    (t.le.run.map (·.wbuf)) == some [.data 0x410 0x40000000#32, .data 0x411 0xFFFFFFFF#32]) = true := by decide +kernel

/-! ### The tick and the loop engine -/

def stagedRun : LeRun := { edge 1 0 with wbuf := [.data 0x300 7#32, .data 0x300 8#32], sat := true }

theorem witness_EndCommits : (loopW stagedRun).fits stagedRun ((loopW stagedRun).opCost 1) ∧
    (loopW stagedRun).le.held = [] ∧ (loopW stagedRun).le.stalled = [] ∧ stagedRun.entry < 48 ∧
    (∀ k, (loopW stagedRun).le.next ≤ k → k < 48 → (loopW stagedRun).slotEn k = false) ∧
    (∀ e ∈ stagedRun.wbuf, ∃ a v, e = .data a v) ∧ stagedRun.sat = true ∧ run₀.sat = false := by
  refine ⟨⟨rfl, Nat.le_refl _, by decide +kernel⟩, rfl, rfl, by decide, fun k h1 h2 => ?_, ?_, rfl, rfl⟩
  · exact absurd h2 (Nat.not_lt.mpr h1)
  · intro e he
    simp only [stagedRun, List.mem_cons, List.not_mem_nil, or_false] at he
    rcases he with rfl | rfl
    · exact ⟨0x300, 7#32, rfl⟩
    · exact ⟨0x300, 8#32, rfl⟩

/-- R164, R165: the later of two writes of one word wins; SAT is noted. -/
theorem test_end_commits : ran .opEnd (loopW stagedRun) (fun t => t.dmem 0x300 = 8#32 && t.le.run.isNone &&
    t.onBit LE_SAT_LO_SAT 5) = true := by decide +kernel

theorem witness_CutCommitsNothing : loopS.le.run = some run₀ ∧ loopS.le.held = [] ∧ loopS.le.stalled = [] ∧
    run₀.entry < 48 ∧ (∀ k, loopS.le.next ≤ k → k < 48 → loopS.slotEn k = false) ∧
    loopS.fld (missFld 5) < 2 ∧ 2 ≤ (set loopS [(missFld 5, 2)]).fld (missFld 5) ∧
    run₀.parity = 0 ∧ run₀.used + (180#11).toNat ≤ run₀.budget := by
  refine ⟨rfl, rfl, rfl, by decide, fun k h1 h2 => absurd h2 (Nat.not_lt.mpr h1), by decide +kernel⟩

/-- R39, R40: a cut costs the whole BUDGET and counts a miss; the third is handed on. -/
theorem test_cut : ran .slotCut loopS (fun t => t.le.cyc = 500 && t.fld (missFld 5) = 1) = true ∧
    ran .slotCut (set loopS [(missFld 5, 2)]) (fun t => t.le.third = [5]) = true := by decide +kernel

/-- Entry `k` belongs to `o`, and its third miss is at hand. -/
def thirdS (k : Fin 48) (o : Nat) : State :=
  { r₀ with le := { r₀.le with third := [k.val], slot := vset r₀.le.slot k (0, BitVec.ofNat 32 (o * 2 ^ 28)) } }

def asleepS : State := { r₀ with pw := { r₀.pw with asleep := true } }

/-- The spindles have been idle for 1 s, the limit of FID 0x08, and one tick more. -/
def idleS : State := { r₀ with tick := 400001#64, hq := { r₀.hq with idle := 1, lastIo := 0 } }

theorem witness_TickAdvances : r₀.pw.asleep = false ∧ asleepS.pw.asleep = true ∧
    (4 : Fin 48).val ∈ (thirdS 4 0).le.third ∧ slotOwner ((thirdS 4 0).slotEff 4) = (0 : Fin 4).val ∧
    (thirdS 4 0).part.hasSurf 0 = true ∧ (thirdS 4 0).on (SEs_LSAFE_SAFE 0) = false ∧
    (4 : Fin 48).val ∉ r₀.le.third ∧ slotOwner ((thirdS 3 7).slotEff 3) = 7 ∧ slotOwner ((thirdS 4 7).slotEff 4) = 7 ∧
    r₀.hq.idle = 0 ∧ { idleS with tick := 400000#64 }.tick.toNat < idleS.hq.lastIo + 400000 * idleS.hq.idle + 1 ∧
    idleS.hq.idle ≠ 0 ∧ idleS.hq.lastIo + 400000 * idleS.hq.idle + 1 ≤ idleS.tick.toNat := by decide +kernel

/-- R45, R46: a preamble advances the tick by one; asleep, it does nothing. -/
theorem test_preamble : ran (.tickPreamble calm) r₀ (fun t => t.tick = 1) = true ∧
    ran (.tickPreamble calm) asleepS (fun t => t.tick = 0) = true := by decide +kernel

def loadS (l : LeLoad) : State := set { r₀ with le := { r₀.le with load := some l } } [(LE_LOAD_STAT_BUSY, 1)]

theorem witness_LoadsReport : (loadS ⟨3, 255⟩).on LE_LOAD_STAT_BUSY = true ∧ r₀.on LE_LOAD_STAT_BUSY = false ∧
    (loadS ⟨2, 0⟩).le.load = some ⟨2, 0⟩ ∧ ((loadS ⟨2, 0⟩).loadCheck ⟨2, 0⟩).1 = 0 ∧
    ((loadS ⟨3, 255⟩).loadCheck ⟨3, 255⟩).1 ≠ 0 ∧ ((loadS ⟨3, 255⟩).loadCheck ⟨3, 255⟩).1 < 64 := by decide +kernel

theorem witness_LoopMemoryWrites : (0x200 ≤ 0x200 ∧ 0x200 < 8192) ∧ r₀.le.run = none ∧ loopS.le.run.isSome = true ∧
    loopS.le.held.length < 16 ∧
    { r₀ with le := { r₀.le with patch := some ⟨0, [], [], []⟩ } }.le.actLeft = 0 ∧ r₀.noMisses = true := by decide +kernel


/-! ### The machine as a whole, and registers -/

theorem witness_StepRunsFrontCommand : { r₀ with pending := [.por] }.pending = .por :: ([] : List Instr) ∧
    r₀.pending = [] := ⟨rfl, rfl⟩

/-- A state that meets the invariant, a step from it, and a command that leaves the tick alone. -/
theorem witness_MachineInvariant : step { r₀ with pending := [.coefSwap] } = exec .coefSwap r₀ ∧ r₀.regsWf = true ∧
    r₀.dram.wf = true ∧ r₀.irq.wf r₀.part = true ∧ r₀.queueWf = true ∧ Instr.coefSwap.movesTick = false ∧
    Instr.por.movesTick = true := by
  refine ⟨rfl, ?_⟩
  decide +kernel

/-- R368: an access that ends at the last byte of the data space is made; one byte beyond faults. -/
theorem test_dram_bound : ran (.dramAccess .hq 0x37FFFFFFF 1 none none none) r₀ (fun _ => true) = true ∧
    exec (.dramAccess .hq 0x380000000 1 none none none) r₀ = .fault .dramOutside := by
  refine ⟨by decide +kernel, rfl⟩

def r₁ : State := { Block.initial .pl3216 with pending := [] }

theorem witness_AbsentUnitsReadZero : r₁.part = .pl3216 ∧
    ∀ o ∈ ([0x108000, 0x10FFFC, 0x121000, 0x121FFC, 0x130800, 0x130FFC, 0x131800, 0x131FFC, 0x14C000, 0x153FFC, 0x190000,
      0x19FFFC] : List Nat), absentAt r₁.part o = true := by decide +kernel

theorem witness_PartialAndUnmapped : absentAt r₀.part (4 * (0x45#20).toNat) = false ∧ regRow (4 * (0xFFFF#20).toNat) = none ∧
    inAperture (4 * (0xFFFF#20).toNat) = false ∧ absentAt r₀.part (4 * (0xFFFF#20).toNat) = false ∧
    r₀.on GLB_DECERR_VALID = false ∧ (set r₀ [(GLB_DECERR_VALID, 1)]).on GLB_DECERR_VALID = true := by decide +kernel

/-- R486: the first access is recorded, and a later one does not replace it. -/
theorem test_decerr : ran (.unmappedAccess .host 0xFFFF true) r₀ (fun t => t.rd GLB_DECERR = 0xC403FFFC#32 &&
    ran (.partialWrite .jtag 0) t (fun u => u.rd GLB_DECERR = 0xC403FFFC#32)) = true := by decide +kernel

theorem witness_AccessCodes : (regRow GLB_TOVR_CNT).isSome = true ∧ GLB_TOVR_CNT < 0x10000 ∧ GLB_TOVR_CNT ≠ GLB_TICK_LO ∧
    GLB_TOVR_CNT ≠ GLB_TICK_HI ∧ GLB_TOVR_CNT ≠ GLB_TICK_CYC ∧ (regRow CAL_DEFER_STAT).isSome = true ∧
    0x30000 ≤ CAL_DEFER_STAT ∧ CAL_DEFER_STAT < 0x40000 ∧ CAL_DEFER_STAT ≠ CAL_QSEL ∧
    absentAt r₀.part CAL_DEFER_STAT = false := by decide +kernel

/-- R4: an RC field is cleared by the read; W1C clears where 1 is written; RO ignores. -/
theorem test_access_codes : ran (.readClearField .host (BitVec.ofNat 20 (GLB_TOVR_CNT / 4)))
      (set r₀ [(GLB_TOVR_CNT_COUNT, 7)]) (fun t => vget t.rdata Master.host.idx = 7 && t.fld GLB_TOVR_CNT_COUNT = 0) = true ∧
    ran (.registerWrite .host (BitVec.ofNat 20 (CAL_DEFER_STAT / 4)) 0x00010001#32 0)
      (set r₀ [(CAL_DEFER_STAT_EXPIRED, 3), (CAL_DEFER_STAT_WAITING, 1)])
      (fun t => t.rd CAL_DEFER_STAT = 0x00020001#32) = true := by decide +kernel

theorem witness_FsyncCapture : r₀.on MZ_FSYNC_CTL_EN = false ∧ (set r₀ [(MZ_FSYNC_CTL_EN, 1)]).on MZ_FSYNC_CTL_EN = true ∧
    (set r₀ [(MZ_FSYNC_CTL_EN, 1)]).on MZ_FSYNC_CTL_EDGE = false ∧ (1#32).getLsbD 0 = true ∧ (2#32).getLsbD 0 = false ∧
    (set r₀ [(MZ_FSYNC_STAT_NEW, 1)]).on MZ_FSYNC_STAT_NEW = true := by decide +kernel

/-- R48: the stamp of an edge seen in cycle 2 lies in the tick before; with FILT = 7 the latency is 10. -/
theorem test_fsync_stamp : ran (.fsyncEdge false 2) (set { r₀ with tick := 5 } [(MZ_FSYNC_CTL_EN, 1), (MZ_FSYNC_CTL_FILT, 7)])
    (fun t => t.fsync.cap = BitVec.ofNat 64 (4 * 2048 + 1992) && t.rd MZ_FSYNC_CNT = 1) = true := by decide +kernel

/-! ### Write path, Sedge links, read channel -/

def plain (waiter : Bool) : Sys2Proof.Cell := ⟨.data, 1, 0, 0, waiter⟩

/-- Surface 1 may be written, and its next angle reference enters swath 0 of band L1/Z2. -/
def writeS : State :=
  edit (set r₀ [(WP_CTL_EN, 1), (WP_CTL_HOLD, 0), (SEs_STAT_LINK_UP 1, 1), (SEs_STAT_ID_VALID 1, 1), (SEs_LSAFE_SAFE 1, 0),
    (LE_PSW_k_FLAGS 1, 8), (SPn_STAT_LOCK 0, 1)]) fun b =>
    (((b.modWp 1 fun w => { w with band := bandId 1 1 2, swath := 0, stripe := 0 }).modServo 1 fun v =>
      { v with layer := 1, gidx := 737, unavail := false }).modCalSurf 1 fun c => { c with checked := some (bandId 1 1 2) })

def pass₀ : Pass := ⟨1, .user, bandId 1 1 2, 0, 0, [[plain true]], [], 1, 0, []⟩

def passS (s : State) : State := edit s fun b => b.modWp 1 fun w => { w with planned := some pass₀ }

theorem witness_PassLifecycle : writeS.part.hasSurf 1 = true ∧ (vget writeS.wp 1).planned = none ∧ writeS.writable 1 = true ∧
    writeS.checkDue 1 = false ∧ (vget writeS.wp 1).throt = false ∧ writeS.onTarget 1 (vget writeS.wp 1).pointerIndex = true ∧
    planRun (writeS.failedBeams 1) (bandSlots (vget writeS.wp 1).band - 0) [[plain true]] ≠ [] ∧
    (vget writeS.wp 1).swath < endSwath (vget writeS.wp 1).band ∧
    (vget writeS.servo 1).layer = bandLayer (vget writeS.wp 1).band ∧ writeS.fld (WP_Ss_WSEQ_WSEQ 1) + 1 < 2 ^ 32 ∧
    (vget (passS writeS).wp 1).planned = some pass₀ ∧ (vget (passS writeS).wp 1).running = none ∧ pass₀.kind = .user ∧
    pass₀.wseq0 ≠ 0 ∧ pass₀.wseq0 ≤ 2 ^ 32 ∧ (passS writeS).on (SEs_STAT_LINK_UP 1) = true := by decide +kernel

/-- R85, R86: a plan takes WSEQ from one above the last; a stop gives them back. -/
theorem test_pass : ran (.passPlan 1 [[plain true], [plain true]]) writeS (fun t => t.fld (WP_Ss_WSEQ_WSEQ 1) = 2 &&
    ran (.stopRequest 1) t (fun u => u.fld (WP_Ss_WSEQ_WSEQ 1) = 0)) = true := by decide +kernel

def goodVerdict : Verdict := ⟨some (16, 0), some 1, 0, 0, 5⟩

/-- Surface 1 with a verify job past its deadline, a stripe that passed, and pending cells of band 281. -/
def verifyS : State :=
  edit { writeS with tick := 2000000000 } fun b => b.modWp 1 fun w =>
    { w with jobs := [⟨9, 3, 10, false, false⟩]
             stripes := [⟨9, 1, bandId 1 1 1, 0, 0, true, [], [], [0, 0, 0, 5], [], [], [], true, false, false⟩]
             pend := [⟨8, bandId 1 1 1, 0, 3, plain true, ⟨[], []⟩, 1, 5⟩] }

theorem witness_VerifyAndRelocate : verifyS.part.hasSurf 1 = true ∧ (∃ j ∈ (vget verifyS.wp 1).jobs, j.wseq = 9 ∧ j.beam = 3) ∧
    (vget verifyS.wp 1).keptCrc 9 3 = 5 ∧
    verifyS.verdictGood 5 goodVerdict = true ∧ verifyS.verdictGood 5 { goodVerdict with crc := 6 } = false ∧
    (∀ j ∈ (vget writeS.wp 1).jobs, ¬ (j.wseq = 9 ∧ j.beam = 3)) ∧
    (∃ j ∈ (vget verifyS.wp 1).jobs, j.wseq = 9 ∧ j.beam = 3 ∧ j.late = false ∧ j.deadline < verifyS.tick.toNat) ∧
    (∃ p ∈ (vget verifyS.wp 1).pend, p.band = bandId 1 1 1 ∧ (p.cell.waiter = true ∨ p.cell.kind = .ledger) ∧
      p.since + verifyS.fld WP_RELOC_CTL_MAXWAIT ≤ verifyS.tick.toNat) ∧
    (vget verifyS.wp 1).planned = none ∧ (vget verifyS.wp 1).visitDue (bandId 1 1 1) = true ∧
    (vget verifyS.wp 1).spent.contains (bandId 1 1 1) = false ∧ bandSlots (bandId 1 1 1) ≠ 0 ∧ verifyS.writable 1 = true ∧
    verifyS.psw 1 3 = true ∧ verifyS.on (SPn_STAT_LOCK (spinOf 1)) = true ∧
    (∃ t ∈ (vget verifyS.wp 1).stripes, t.wseq = 9 ∧ t.passed = true ∧ t.void = false ∧ t.durable = false ∧ t.reloc = true) ∧
    (∀ t ∈ (vget verifyS.wp 1).stripes, t.wseq < 2 ^ 32 ∧ (t.wseq = 9 → t.reloc = true)) := by decide +kernel

/-- R107: a mark 17 bits from its place is not good. -/
theorem test_verdict : r₀.verdictGood 5 { goodVerdict with sync := some (17, 0) } = false ∧
    r₀.verdictGood 5 { goodVerdict with iters := none } = false := by decide +kernel

/-- A valid ID memory with MAXPWR 1,000 (R104). -/
def idMem₀ : List Byte :=
  let m := [0x50, 0x4C, 0x50, 0x55] ++ zeros 54 ++ [0xE8, 3] ++ zeros 64
  m ++ leBytes 4 (crc32 m).toNat

def linkS (on : Nat) (f : Se → Se) : State := edit (set { r₀ with tick := 40010 } [(SEs_CTL_LINK_EN 0, on), (SEs_STAT_LINK_UP 0, on)])
  fun b => b.modSe 0 f

set_option maxRecDepth 100000 in
theorem witness_SedgeBringUp : (linkS 0 id).fld (SEs_CTL_LINK_EN 0) = 0 ∧ (linkS 1 id).fld (SEs_CTL_LINK_EN 0) = 1 ∧
    idMemOk idMem₀ = true ∧ idMemOk (zeros 128) = false ∧
    (vget (linkS 1 fun e => { e with bring := some 39210 }).se 0).bring = some 39210 ∧
    39210 + 800 ≤ (linkS 1 id).tick.toNat ∧ (linkS 1 id).tick.toNat < 39211 + 800 ∧
    (vget (linkS 1 fun e => { e with retrain := some 10 }).se 0).retrain = some 10 ∧ 10 + 40000 ≤ (linkS 1 id).tick.toNat ∧
    (linkS 1 id).on (SEs_STAT_LINK_UP 0) = true ∧
    (vget (linkS 1 fun e => { e with bring := some 0, echoes := 15, token := 0 }).se 0).echoes < 16 ∧
    (vget (linkS 1 fun e => { e with bring := some 0, echoes := 15, token := 0 }).se 0).token = ((0xFFFF#16).toNat + 1) % 65536 := by
  decide +kernel

set_option maxRecDepth 100000 in
/-- R95, R104: link up reads MAXPWR from the ID memory at 58. -/
theorem test_link_up : ran (.seLinkUp 0 77 idMem₀) (linkS 1 fun e => { e with bring := some 0 }) (fun t =>
    t.fld (SEs_MAXPWR_MAXPWR 0) = 1000 && t.fld (SEs_STAT_ID_VALID 0) = 1 && t.fld (SEs_LAT_LAT 0) = 77) = true := by decide +kernel

theorem witness_SedgeFrames : (linkS 1 id).on (SEs_STAT_LINK_UP 0) = true ∧ (linkS 1 id).isWriting 0 = false ∧
    (∀ i : Fin 16, (Vector.replicate 16 (0#16))[i].toNat ≤ (linkS 1 id).fld (SEs_MAXPWR_MAXPWR 0)) ∧
    (∃ i : Fin 16, (set r₀ [(SEs_MAXPWR_MAXPWR 0, 100)]).fld (SEs_MAXPWR_MAXPWR 0) < (Vector.replicate 16 (101#16))[i].toNat) ∧
    r₀.on (SFs_INTLK_PUF 0) = false ∧ r₀.on (SEs_MGMT_CMD_BUSY 0) = false ∧
    (set r₀ [(SEs_MGMT_CMD_BUSY 0, 1)]).on (SEs_MGMT_CMD_BUSY 0) = true ∧
    (vget (linkS 1 fun e => { e with mgmt := true }).se 0).mgmt = true ∧ r₀.on (SEs_MGMT_CMD_PORT 0) = false ∧
    (set r₀ [(SEs_MGMT_CMD_PORT 0, 1)]).on (SEs_MGMT_CMD_PORT 0) = true ∧ (vget r₀.cal.surf 0).run = none ∧
    (edit r₀ fun b => b.modWp 0 fun w => { w with running := some pass₀ }).wp[0].running = some pass₀ ∧
    pass₀.num = (1#16).toNat := by decide +kernel

/-- R105: exactly 16 downstream errors raise nothing, 17 raise offset 11. -/
theorem test_status_errors : ran (.status 0 250 0 16) (linkS 1 id) (fun t => t.irq == r₀.irq) = true ∧
    ran (.status 0 250 0 17) (linkS 1 id) (fun t => t.raised 1035) = true := by decide +kernel

/-- A header of band 281, swath 5, beam 3, stripe 0 (R64), with its HCRC (R66). -/
def header₀ : List Byte :=
  let h := packBytes 28 [(0, 1, 1), (2, 2, 281), (4, 2, 3 * 512 + 5), (6, 1, cellSlot (bandSlots 281) 0 3)]
  h ++ leBytes 4 (crc32 h).toNat

def job₀ : RcJob := ⟨1, 1, 281, 5, 0, 3, 20, 0, 0, 0⟩

def rdStripe (c : CellSt) : RdStripe := ⟨1, 281, 5, 0, vset (Vector.replicate 16 .good) 3 c, [], [], 0⟩

def readS (c : CellSt) : State :=
  edit (set r₀ [(BMnn_CTL_EN 19, 1), (RC_CTL_EN, 0), (BMnn_CTL_LFRZ 19, 0)]) fun b => b.modRc fun r =>
    { r with stripes := [rdStripe c], engines := vset r.engines 7 (some (.rc job₀)) }

theorem witness_ReadPath : (readS .queued).part.hasBeam 19 = true ∧ (readS .queued).on (BMnn_CTL_EN 19) = true ∧
    (readS .queued).on (BMnn_CTL_LFRZ 19) = false ∧ (vget (readS .queued).wp (beamSurf 19)).verifySpot = false ∧
    (readS .queued).on RC_CTL_EN = false ∧ (obs 0 15 64).lostAt = none ∧ (obs 0 15 64).spans = [] ∧ (obs 0 15 64).vga < 1024 ∧
    (∀ t ∈ (readS .queued).rc.stripes, t.at (beamSurf 19) 0 0 0 = false) ∧ vget r₀.rc.engines 7 = none ∧
    vget (readS .queued).rc.engines 7 = some (.rc job₀) ∧ job₀.beam < 16 ∧ headerGood job₀ header₀ = true ∧
    (rdStripe .queued) ∈ (readS .queued).rc.stripes ∧ (rdStripe .queued).at job₀.surf job₀.band job₀.swath job₀.stripe = true ∧
    (rdStripe (.failed 3)).resolved = true ∧ (rdStripe (.failed 3)).failedCells.length ≤ 3 ∧
    (rdStripe .queued).resolved = false := by decide +kernel

/-- R146: a converged decode with the header of another beam does not make the cell good. -/
theorem test_decode_header : ran (.decodeJobDone 7 ⟨some 1, 0, header₀⟩) (readS .queued) (fun t =>
      t.rc.stripes.all fun x => vget x.cells 3 = .good) = true ∧
    headerGood { job₀ with beam := 4 } header₀ = false := by decide +kernel

theorem witness_ReadPool : vget (readS .queued).rc.engines 7 = some (.rc job₀) ∧ (readS .queued).on RC_CTL_EN = false ∧
    20 < (10#5).toNat + (11#5).toNat ∧ (10#5).toNat + (10#5).toNat ≤ 20 ∧ (20#5) ≠ 0 ∧ (20#5).toNat ≤ 20 ∧
    (readS (.failed 5)).part.hasSurf 1 = true ∧
    (∃ x ∈ (readS (.failed 5)).rc.stripes, (readS (.failed 5)).rc.waiting 1 x = true) := by decide +kernel

/-- R142: VMIN + RMIN = 21 is refused with source 17; 20 is stored. -/
theorem test_split : ran (.rcSplitWrite 10 11 4) r₀ (fun t => t.raised 17 && t.rd RC_SPLIT = r₀.rd RC_SPLIT) = true ∧
    ran (.rcSplitWrite 10 10 4) r₀ (fun t => t.fld RC_SPLIT_RMIN = 10 && !t.raised 17) = true := by decide +kernel


/-! ### Servo -/

/-- Surface 1 after reset with its programs valid and running, LE_PSW_1 and the modes of its programs as given. -/
def servoS (flags : Nat) (f : Servo → Servo) : State :=
  edit (set r₀ [(LE_PSW_k_FLAGS 1, flags), (LE_SLOT_k_W0_EN 1, 1), (LE_SLOT_k_W0_EN 5, 1),
    (LE_PDESC_p_W0_VALID (slotProg (r₀.slotEff 1)), 1), (LE_PDESC_p_W0_VALID (slotProg (r₀.slotEff 5)), 1)]) fun b => b.modServo 1 f

def closed (v : Servo) : Servo := { v with fmode := 2, tmode := 3, layer := 2, gidx := 100 }

theorem witness_ServoCommands : (servoS 0 closed).part.hasSurf 1 = true ∧ (servoS 0 closed).servoRuns 1 = true ∧
    (vget (servoS 0 closed).servo 1).taken ≠ (7#8).toNat ∧
    (servoS 0 closed).cmdErr 1 0 6 0 ≠ 0 ∧ (servoS 0 closed).cmdErr 1 1 7 0 ≠ 0 ∧ (servoS 0 closed).cmdErr 1 2 6 0 ≠ 0 ∧
    (servoS 0 id).cmdErr 1 3 5 0 = 7 ∧ (servoS 0 closed).cmdErr 1 4 0 0xFF81#16 = 3 ∧ (servoS 0 closed).cmdErr 1 4 0 0xFF82#16 = 0 ∧
    (servoS 0 closed).cmdErr 1 4 0 8781 = 0 ∧ (servoS 0 closed).cmdErr 1 4 0 8782 = 3 ∧
    (5 : Fin 8).val ≤ 5 ∧ (vget (servoS 0 closed).servo 1).held = none ∧ (vget (servoS 0 closed).servo 1).fmode ∈ [2, 3] ∧
    (vget (servoS 0 closed).servo 1).layer = (2 : Fin 8) ∧ (vget (servoS 0 closed).servo 1).layer ≠ (3 : Fin 8) ∧
    (vget (servoS 0 fun v => { closed v with fmode := 4 }).servo 1).fmode ∈ [1, 4] ∧
    (servoS 0 fun v => { closed v with fmode := 4 }).cmdErr 1 4 0 5 = 0 ∧
    (servoS 0 closed).psw 1 6 = false ∧ (servoS 0x47 closed).psw 1 6 = true ∧ (servoS 0x47 closed).psw 1 0 = true ∧
    (servoS 0x47 closed).psw 1 1 = true ∧ (servoS 0x47 closed).psw 1 2 = true ∧
    ((servoS 0x43 closed).psw 1 0 && (servoS 0x43 closed).psw 1 1 && (servoS 0x43 closed).psw 1 2) = false := by decide +kernel

/-- R199: a SEEK of −50 swaths from 100 lands at 50 and is done. -/
theorem test_seek : ran (.cmdSeek 1 2 0xFFCE 9) (servoS 7 closed) (fun t => (vget t.servo 1).gidx = 50 &&
    (vget t.servo 1).done = 9 && t.raised 11) = true := by decide +kernel

def tracked (hold : Nat) : State := edit (servoS 7 closed) fun b => b.wr (LE_DMEM_w (exWord 1 2)) (BitVec.ofNat 32 hold)

theorem witness_ServoEvents : (vget (servoS 1 closed).servo 1).fmode = 2 ∧ (vget r₀.servo 1).fmode ≠ 2 ∧
    (servoS 1 closed).psw 1 0 = true ∧ (servoS 1 closed).psw 1 4 = false ∧ (servoS 1 closed).psw 1 5 = false ∧
    (vget (servoS 0 fun v => { v with fmode := 1 }).servo 1).fmode = 1 ∧ (servoS 2 closed).psw 1 1 = true ∧
    (vget (servoS 2 fun v => { closed v with lastWgate := true }).servo 1).lastWgate = true ∧
    (vget (servoS 2 closed).servo 1).lastWgate = false ∧ (vget (tracked 101).servo 1).tmode = 3 ∧
    ((tracked 101).dmem (exWord 1 2)).setWidth 14 = (101#14) ∧ ((tracked 99).dmem (exWord 1 2)).setWidth 14 = (99#14) ∧
    ((tracked 98).dmem (exWord 1 2)).setWidth 14 = (98#14) ∧ r₀.on (SFs_STAT_COIL_FLT 1) = false := by decide +kernel

/-- R194: a kick of two pitches moves the index to H − 1; three are refused with ERR 5. -/
theorem test_kick : ran (.swathHoldKick 1) (tracked 99) (fun t => (vget t.servo 1).gidx = 98) = true ∧
    ran (.swathHoldKick 1) (tracked 98) (fun t => (vget t.servo 1).gidx = 100 && (vget t.servo 1).err = 5) = true := by
  decide +kernel

/-! ### Spindles -/

/-- Spindle 0 in a state of SPn_STAT, with fields and its own state changed. -/
def spinS (st : Nat) (l : List (Fld × Nat)) (f : Spin → Spin) : State :=
  edit (set r₀ ((SPn_STAT_STATE 0, st) :: l)) fun b => b.modSpin 0 f

theorem witness_SpindleStarts : r₀.part.hasSpin 0 = true ∧ (spinS 0 [] id).fld (SPn_STAT_STATE 0) = 0 ∧
    (vget (spinS 8 [] fun x => { x with stopping := true }).spin 0).stopping = true ∧ (spinS 6 [] id).fld (SPn_STAT_STATE 0) ∉ [0, 10, 12] ∧
    (vget (spinS 6 [] id).spin 0).stopping = false ∧ (spinS 6 [(SPn_CTL_STOPMODE 0, 1)] id).on (SPn_CTL_STOPMODE 0) = true ∧
    (spinS 6 [(SPn_CTL_STOPMODE 0, 0)] id).on (SPn_CTL_STOPMODE 0) = false ∧
    ((2#8).toNat < 3 ∧ 3 ≤ (3#8).toNat ∧ 300 < (301#16).toInt ∧ -60 ≤ (0xFFC4#16).toInt ∧ (300#16).toInt ≤ 300 ∧ (0xFFC3#16).toInt < -60) ∧
    (spinS 2 [(LE_SLOT_k_W0_EN 20, 1), (LE_SLOT_k_W0_EN 21, 1)] id).spEntriesOn 0 = true ∧
    (spinS 2 [(LE_SLOT_k_W0_EN 20, 0)] id).spEntriesOn 0 = false ∧
    0 ≤ ((spinS 4 [] id).dmem (spEx 0 + 2)).toInt ∧
    ((edit (spinS 4 [] id) fun b => b.wr (LE_DMEM_w (spEx 0 + 2)) 0xFFFFFFFF#32).dmem (spEx 0 + 2)).toInt < 0 ∧
    (spinS 5 [(SPn_STAT_ATTEMPT 0, 3)] id).fld (SPn_STAT_ATTEMPT 0) ≤ 3 ∧ (vget (spinS 9 [] id).spin 0).heldCatch = false ∧
    (spinS 9 [(SPn_STAT_RLOSS 0, 1)] id).on (SPn_STAT_RLOSS 0) = true ∧ spinOf 1 = 0 ∧
    (vget (edit (spinS 2 [] fun x => { x with heldStart := true }) fun b => b.modSpin 1 fun x =>
      { x with accel := true }).spin (otherSpin 0)).accel = true ∧
    (vget (spinS 2 [] fun x => { x with heldStart := true }).spin 0).held = true ∧
    (vget (spinS 2 [] fun x => { x with heldStart := true }).spin (otherSpin 0)).accel = false ∧
    (vget (spinS 2 [] fun x => { x with heldStart := true }).spin (otherSpin 1)).held = true ∧
    (vget (spinS 6 [] fun x => { x with heldSpeed := true }).spin 0).heldStart = false ∧
    (vget (spinS 6 [] fun x => { x with heldSpeed := true }).spin 0).held = true := by decide +kernel

/-- R218: the fourth failed attempt is a START fault; the third waits to try again. -/
theorem test_attempts : ran (.attemptFailed 0) (spinS 5 [(SPn_STAT_ATTEMPT 0, 3)] id)
      (fun t => t.fld (SPn_STAT_STATE 0) = 12 && t.fld (SPn_FAULT_START 0) = 1 && t.raised 1190) = true ∧
    ran (.attemptFailed 0) (spinS 5 [(SPn_STAT_ATTEMPT 0, 2)] id)
      (fun t => t.fld (SPn_STAT_STATE 0) = 11 && t.fld (SPn_STAT_ATTEMPT 0) = 3) = true := by decide +kernel

theorem witness_SpindleRuns : (vget (spinS 6 [] fun x => { x with ref := 8999 }).spin 0).ref < 9000 ∧
    9000 < (vget (spinS 6 [] fun x => { x with ref := 9001 }).spin 0).ref ∧
    (spinS 6 [(SPn_STAT_LOCK 0, 0), (SPn_SPD_SET_RPM 0, 9000), (PW_STAT_RMODE, 0)] fun x => { x with ref := 9000 }).setSpeed 0 = 9000 ∧
    (spinS 6 [(SPn_STAT_LOCK 0, 1)] id).on (SPn_STAT_LOCK 0) = true ∧ (spinS 6 [] id).on (SPn_STAT_LOCK 0) = false ∧
    (spinS 10 [(SPn_CTL_RUN 0, 1)] id).on (SPn_CTL_RUN 0) = true ∧ (spinS 10 [] id).on (SPn_CTL_RUN 0) = false ∧
    (spinS 6 [] id).fld (SPn_STAT_STATE 0) ≠ 12 ∧ (spinS 12 [] id).fld (SPn_STAT_STATE 0) = 12 ∧
    (SPn_BRAKE_VREL 0).get (vget (vget r₀.spin 0).shadow 4) < (SPn_BRAKE_VCLAMP 0).get (vget (vget r₀.spin 0).shadow 4) ∧
    (SPn_BRAKE_VCLAMP 0).get (vget (vget r₀.spin 0).shadow 4) * 10 < 65535 := by decide +kernel

/-- R220: in reduced mode the set speed is 4,500 rpm, and RCAP says so; the clamp holds at 600 rpm. -/
theorem test_set_speed : ran (.setSpeed 0 4501) r₀ (fun t => t.setSpeed 0 = 4500 && t.on (SPn_STAT_RCAP 0)) = true ∧
    ran (.setSpeed 0 599) r₀ (fun t => t.setSpeed 0 = 600) = true := by decide +kernel

def dutyS (a b c : Nat) (st : Nat) (f : Spin → Spin) : State := spinS st [] fun x => { f x with duty := #v[a, b, c] }

theorem witness_SpindlePwmPeriod :
    (vget (vget (dutyS 6000 4000 1000 6 id).spin 0).duty 1 < vget (vget (dutyS 6000 4000 1000 6 id).spin 0).duty 0 ∧
      vget (vget (dutyS 6000 4000 1000 6 id).spin 0).duty 2 < vget (vget (dutyS 6000 4000 1000 6 id).spin 0).duty 1) ∧
    (SPn_SHUNT_TMIN 0).get (vget (vget r₀.spin 0).shadow 0) ≤ 2000 ∧ r₀.fld (SPn_SHUNT_TMIN 0) ≤ 2000 ∧
    9999 < 9998 + r₀.fld (SPn_SHUNT_TMIN 0) ∧ 10000 < 9998 + r₀.fld (SPn_SHUNT_TMIN 0) ∧ (dutyS 0 0 0 5 id).fld (SPn_STAT_STATE 0) = 5 ∧
    (dutyS 0 0 0 7 id).fld (SPn_STAT_STATE 0) = 7 := by decide +kernel

/-- R208, R210: the first sample is the current of phase A, the second, negated, that of phase C. -/
theorem test_phase_currents : ran (.pwmPeriod 0 100 50 0 0) (edit (dutyS 6000 4000 1000 6 id) fun b => b.setFld (SPn_SHUNT_OFS_OFS 0) 0)
    (fun t => (vget (vget t.spin 0).cur 0).toInt = 100 * 2 ^ 20 && (vget (vget t.spin 0).cur 2).toInt = -50 * 2 ^ 20 &&
      (vget (vget t.spin 0).cur 1).toInt = -50 * 2 ^ 20) = true := by decide +kernel

/-! ### Axes, door and clamp -/

/-- Axis 0 with fields and its own state changed. -/
def axS (l : List (Fld × Nat)) (f : Axis → Axis) : State := edit (set r₀ l) fun b => b.modAxis 0 f

theorem witness_AxisMovesAndHoming : r₀.part.hasAxis 0 = true ∧
    ((vget (axS [] fun x => { x with p := 65536, t := 1 }).axis 0).p = 65536 ∧ (vget r₀.axis 0).v = 0 ∧ (vget r₀.axis 0).acc = 0) ∧
    r₀.on (AXa_STAT_HOMING 0) = false ∧ (set r₀ [(AXa_STAT_DONE 0, 0)]).on (AXa_STAT_DONE 0) = false ∧
    (vget r₀.axis 0).follow = none ∧ r₀.on (AXa_CTL_HALT 0) = false ∧ r₀.rd (AXa_FAULT 0) = 0 ∧
    (vget (axS [] fun x => { x with follow := some 5 }).axis 0).follow = some 5 ∧
    (axS [(AXa_CTL_EN 0, 1)] id).on (AXa_CTL_EN 0) = true ∧ (axS [(AXa_CTL_EN 0, 0)] id).on (AXa_CTL_EN 0) = false ∧
    (axS [(AXa_CTL_HMODE 0, 0), (AXa_STAT_HOMESW 0, 1)] id).on (AXa_STAT_HOMESW 0) = true ∧
    (axS [(AXa_CTL_HMODE 0, 0)] id).on (AXa_CTL_HMODE 0) = false ∧ (axS [(AXa_CTL_HMODE 0, 1)] id).on (AXa_CTL_HMODE 0) = true ∧
    (vget (axS [] fun x => { x with homeStep := 4, hist := [1, 2, 3, 4, 5] }).axis 0).hist[4]? = some 5 ∧
    (vget (axS [] fun x => { x with homeStep := 5 }).axis 0).homeStep = 5 ∧
    ((axS [(AXa_HOME_MAX_HMAX 0, 10)] id).fld (AXa_HOME_MAX_HMAX 0) : Int) * 65536 < ((655361 : Int) - 0).natAbs := by decide +kernel

/-- R233, R241: a move's end raises DONE; homing from off the switch moves toward HDIR. -/
theorem test_axis : ran (.axisDone 0) (axS [(AXa_STAT_DONE 0, 0)] id) (fun t => t.fld (AXa_STAT_DONE 0) = 1 && t.raised 1216) = true ∧
    ran (.homingStart 0) (axS [(AXa_CTL_EN 0, 1), (AXa_CTL_HDIR 0, 1)] id) (fun t => decide (0 < (vget t.axis 0).t) &&
      (vget t.axis 0).homeStep = 1) = true := by decide +kernel

theorem witness_AxisFaults : r₀.on (AXa_FAULT_STALL 0) = false ∧ (axS [(AXa_CTL_HMODE 0, 0)] id).on (AXa_CTL_HMODE 0) = false ∧
    (axS [(AXa_CTL_SMODE 0, 2)] id).fld (AXa_CTL_SMODE 0) = 2 ∧ (axS [(AXa_CTL_SMODE 0, 1)] id).fld (AXa_CTL_SMODE 0) = 1 ∧
    (axS [(AXa_CTL_SMODE 0, 3)] id).fld (AXa_CTL_SMODE 0) = 3 ∧ (3 : Fin 9).val < 4 ∧ ¬ (4 : Fin 9).val < 4 ∧
    (axS [(AXa_STAT_HOMING 0, 1)] id).on (AXa_STAT_HOMING 0) = true := by decide +kernel

theorem witness_DoorAndClamp : (set r₀ [(MZ_SW_DOOR, 1)]).on MZ_SW_DOOR = true ∧ (set r₀ [(MZ_SW_DOOR, 0)]).on MZ_SW_DOOR = false ∧
    (set r₀ [(MZ_LOCK_LOCK, 1)]).on MZ_LOCK_LOCK = true ∧ r₀.on MZ_LOCK_LOCK = false ∧
    (set r₀ [(MZ_SW_CLAMP, 0)]).on MZ_SW_CLAMP ≠ true ∧ (set r₀ [(MZ_SW_CLAMP, 1)]).on MZ_SW_CLAMP = true := by decide +kernel

/-- R246: a forced opening stops the spindles with STOPMODE 1 and holds LDEN at 0. -/
theorem test_forced_door : ran .doorOpen (set r₀ [(MZ_SW_DOOR, 1), (MZ_LOCK_LOCK, 1), (SEs_LSAFE_LDEN 2, 1), (SPn_CTL_RUN 1, 1)])
    (fun t => t.fld (SEs_LSAFE_LDEN 2) = 0 && t.fld (SPn_CTL_STOPMODE 1) = 1 && t.fld (SPn_CTL_RUN 1) = 0 && t.raised 26) = true := by
  decide +kernel


/-! ### Host queues and commands -/

/-- A started command with the given tag, opcode, DWORDs and data length. -/
def cm (tag opc : Nat) (l : List (Nat × Nat)) (dl : Nat) : Cmd :=
  { tag := tag, pair := 0, seq := 9
    dws := Vector.ofFn fun i => BitVec.ofNat 32
      (if i.val = 0 then opc else if i.val = 6 then dl else (l.find? fun e => e.1 = i.val).elim 0 (·.2))
    range := none, entry := false, granted := false, space := 0, reserved := false, started := true, discard := false
    clip := 0, frame := 0, frames := 0, spare := 0, step := 0, split := [], stamp := none, mseq := 0, lastData := none
    fin := none, held := none }

def withC (s : State) (l : List Cmd) : State := { s with hq := { s.hq with cmds := l } }

def hqS (s : State) (f : Hq → Hq) : State := { s with hq := f s.hq }

def volS (s : State) (f : Vol → Vol) : State := edit s fun b => b.modVol f

/-- Status, DETAIL and RES that a command ended with. -/
def finOf (s : State) (tag : Nat) : Option (Nat × Nat × Nat) := (s.cmd tag).bind fun c => c.fin.map fun f => (f.status, f.detail, f.res)

theorem at_work (s : State) (tag opc : Nat) (l : List (Nat × Nat)) (dl : Nat) (rest : List Cmd)
    (h : (cm tag opc l dl).opc = opc) : (withC s (cm tag opc l dl :: rest)).atWork (cm tag opc l dl) opc := by
  refine ⟨?_, rfl, rfl, h⟩
  simp [Block.cmd, withC]

theorem witness_HostControl : r₀.on HQ_CTL_EN = false ∧ r₀.on HQ_STAT_RDY = false ∧ r₀.on HQ_STAT_CFS = false ∧
    (hqS r₀ fun h => { h with booted := true }).hq.booted = true ∧ r₀.hq.resetting = false ∧
    ((set r₀ [(HQ_AQ_SIZE_ASQS, 1), (HQ_AQ_SIZE_ACQS, 1)]).fld HQ_AQ_SIZE_ASQS ≠ 0 ∧
      (edit r₀ fun b => b.wr HQ_ASQ_LO 0x1000#32).rd HQ_ASQ_LO = 0x1000#32) ∧
    ((edit r₀ fun b => b.wr HQ_ASQ_LO 0x800#32).rd HQ_ASQ_LO).toNat % 4096 ≠ 0 ∧
    (set r₀ [(HQ_CTL_EN, 1)]).on HQ_CTL_EN = true ∧
    ((set r₀ [(HQ_PAIR_k_EXISTS 0, 2), (HQ_Pq_CFG_SQS 1, 3)]).takesDoorbell 1 = true ∧
      (3#32).toNat < (set r₀ [(HQ_Pq_CFG_SQS 1, 3)]).fld (HQ_Pq_CFG_SQS 1) + 1 ∧
      ¬ (4#32).toNat < (set r₀ [(HQ_Pq_CFG_SQS 1, 3)]).fld (HQ_Pq_CFG_SQS 1) + 1) ∧
    (set r₀ [(HQ_Pq_CQ_TAIL 1, 2), (HQ_Pq_CFG_CQS 1, 3)]).cqDepth 1 = 2 ∧ r₀.takesDoorbell 1 = false ∧
    (set r₀ [(HQ_DBERR_VALID, 1)]).on HQ_DBERR_VALID = true ∧ r₀.on HQ_DBERR_VALID = false ∧
    (set r₀ [(HQ_PAIR_k_EXISTS 0, 2)]).pairOn 1 = true ∧ r₀.fld HQ_ELOG_CNT_COUNT < 2 ^ 32 - 1 ∧
    (set r₀ [(HQ_LINK_SPEED, 4)]).fld HQ_LINK_SPEED ≠ 0 ∧ r₀.irq.msixEn = false := by decide +kernel

/-- R253, R256: an ASQ of 0 entries sets CFS; a doorbell value at the queue's size is invalid. -/
theorem test_host_control : ran (.controllerEnable false) (hqS r₀ fun h => { h with booted := true })
      (fun t => t.on HQ_STAT_CFS && t.raised 197 && !t.on HQ_STAT_RDY) = true ∧
    ran (.sqTailDoorbell 1 4) (set r₀ [(HQ_PAIR_k_EXISTS 0, 2), (HQ_Pq_CFG_SQS 1, 3)])
      (fun t => t.fld (HQ_Pq_SQ_TAIL 1) = 0 && t.raised 192 && t.fld HQ_DBERR_VALUE = 4) = true ∧
    ran (.sqTailDoorbell 1 3) (set r₀ [(HQ_PAIR_k_EXISTS 0, 2), (HQ_Pq_CFG_SQS 1, 3)])
      (fun t => t.fld (HQ_Pq_SQ_TAIL 1) = 3) = true := by decide +kernel

/-- Pair 0 is ready with one entry in its SQ. -/
def readyS : State := set r₀ [(HQ_STAT_RDY, 1), (HQ_PAIR_k_EXISTS 0, 1), (HQ_Pq_CFG_SQS 0, 3), (HQ_Pq_CFG_CQS 0, 3),
  (HQ_Pq_SQ_TAIL 0, 1), (HQ_Pq_CQ_PHASE 0, 1)]

/-- An admin entry of the opcode given. -/
def entryOf (opc dl : Nat) : Vector Word 16 := (cm 0 opc [] dl).dws

def ranged (tag seq : Nat) (w g : Bool) : Cmd := { cm tag 0x21 [] 4096 with
  seq := seq, range := some ⟨2, 0, 0, 7, w⟩, entry := true, granted := g, started := false, space := 4096 }

theorem witness_CommandLife : readyS.arbitrate = some (0, readyS.toBlock) ∧
    readyS.fld (HQ_Pq_SQ_HEAD 0) ≤ readyS.fld (HQ_Pq_CFG_SQS 0) ∧ readyS.hq.cmds.length < 4096 ∧
    readyS.entryCheck 0 (entryOf 0x10 0) = none ∧ readyS.entryCheck 0 (entryOf 0x7E 0) = some (0x01, 0) ∧
    readyS.hq.cmds.all (fun x => x.tag ≠ readyS.freeTag) = true ∧
    ((withC r₀ [ranged 3 1 false true, ranged 4 2 true false]).cmd 4 = some (ranged 4 2 true false) ∧
      (ranged 4 2 true false).entry = true ∧ LockRange.conflict ⟨2, 0, 0, 7, false⟩ ⟨2, 0, 7, 9, true⟩ = true ∧
      LockRange.conflict ⟨2, 0, 0, 7, false⟩ ⟨2, 0, 8, 9, true⟩ = false) ∧
    ((ranged 4 2 true true).space ≠ 0 ∧ (ranged 4 2 true true).reserved = false ∧ r₀.hq.ingestUsed + 4096 ≤ 8 * 2 ^ 30 ∧
      0 ≤ r₀.hq.credit ∧ r₀.lagFull = false ∧ r₀.pw.dyke = none ∧ (hqS r₀ fun h => { h with credit := -1 }).hq.credit < 0) ∧
    ((withC r₀ [{ cm 5 1 [] 4096 with started := false }]).mayStart { cm 5 1 [] 4096 with started := false } = true ∧
      (cm 5 1 [] 4096).bits 0 9 8 ≠ 2 ∧ r₀.startCheck (cm 5 1 [] 4096) = none ∧
      r₀.startCheck (cm 5 0x20 [] 4096) = some (0x20, 0) ∧ r₀.mayStart (cm 5 1 [] 4096) = false) ∧
    (r₀.finalFin (cm 5 1 [] 4096) (Finish.of 0 0 0) = Finish.of 0 0 0 ∧ r₀.mayPost (cm 5 1 [] 4096) (Finish.of 0 0 0) = true ∧
      r₀.on HQ_STAT_CFS = false ∧ r₀.degraded (cm 5 1 [] 4096) = false ∧ (cm 5 1 [] 4096).discard = false ∧
      (cm 5 1 [] 4096).opc ≠ 0x0D ∧ r₀.hq.deleting = [] ∧ statusErrors 0x7F = true ∧
      (set r₀ [(HQ_Pq_CFG_CQS 0, 3), (HQ_Pq_CQ_TAIL 0, 3)]).fld (HQ_Pq_CQ_TAIL 0) + 1 =
        (set r₀ [(HQ_Pq_CFG_CQS 0, 3), (HQ_Pq_CQ_TAIL 0, 3)]).fld (HQ_Pq_CFG_CQS 0) + 1) := by decide +kernel

/-- R258, R285: an unknown admin opcode completes at once with INVALID_OPCODE (0x01), with P = 1. -/
theorem test_fetch_invalid : ran (.commandFetch [entryOf 0x7E 0]) readyS (fun t => t.hq.cmds.isEmpty &&
    t.fld (HQ_Pq_SQ_HEAD 0) = 1 && t.fld (HQ_Pq_CQ_TAIL 0) = 1 &&
    t.out.any fun m => match m with | .completion 0 0 [_, _, _, e] => e.toNat % 256 = 3 | _ => false) = true := by decide +kernel

theorem witness_AdminQueuesAndFeatures : (∀ o ∈ [1, 2, 3, 4, 5, 6, 7, 0x0E], (cm 5 o [] 64).opc = o) ∧
    (cm 5 1 [] 64).range = none ∧ (cm 5 1 [] 64).pair = 0 ∧ ((withC r₀ [cm 5 1 [] 64]).hq.cmds.map (·.tag)).Nodup ∧
    ((cm 5 1 [(10, 3)] 4096).bits 10 7 0 = 3 ∧ (volS r₀ fun v => { v with vstate := 3 }).store.vol.vstate ≠ 0) ∧
    ((cm 5 2 [(12, 0x00030007), (13, 0x4017F)] 0).bits 13 6 0 = 127 ∧ r₀.pairOn 127 = false ∧
      (cm 5 2 [(12, 0x00030007), (13, 0x4017F)] 0).bits 12 11 0 ≠ 0 ∧ (cm 5 2 [(12, 0x00030007), (13, 0x4017F)] 0).bits 12 27 16 ≠ 0 ∧
      (cm 5 2 [(12, 0x00030007), (13, 0x4017F)] 0).bits 13 18 16 ≤ 4 ∧ ¬ (cm 5 2 [(13, 0x5017F)] 0).bits 13 18 16 ≤ 4) ∧
    ((cm 5 3 [(10, 1)] 0).bits 10 6 0 = 1 ∧ (set r₀ [(HQ_PAIR_k_EXISTS 0, 2)]).pairOn 1 = true) ∧
    ((cm 5 0x0E [(10, 0x70001)] 0).bits 10 31 16 = 7 ∧
      ([cm 5 0x0E [(10, 0x70001)] 0, { cm 6 0x20 [(0, 0)] 0 with pair := 1, started := false }].find? fun y =>
        y.pair = 1 && y.cid = 0).isSome = true) ∧
    ((2, 512) ∈ [(2, 512), (3, 512), (6, 256), (7, 1024)] ∧ dwOf (cm 5 5 [(10, 2), (11, 511)] 0).dws 11 = 511 ∧ 512 ≤ dwOf (cm 5 5 [(11, 512)] 0).dws 11) ∧
    (dwOf (cm 5 6 [(10, 1), (11, 1024)] 0).dws 11 % 64 = 0 ∧ (set r₀ [(PT_STAT_HOT, 1)]).on PT_STAT_HOT = true ∧ r₀.on PT_STAT_HOT = false ∧
      0x1FFFF &&& 0xFFFCC000 ≠ 0 ∧ (0x13FFF : Nat) &&& 0xFFFCC000 = 0 ∧ (cm 5 6 [(10, 9)] 0).bits 10 7 0 = 9) := by decide +kernel

/-- R292: the allowance is stored up to the cap; an undefined FID is INVALID_FIELD with DETAIL 0x10. -/
theorem test_features : ran (.featureSet 5 false) (withC (set r₀ [(PW_HOLDUP_CAP, 512)]) [cm 5 6 [(10, 1), (11, 1024)] 0])
      (fun t => t.fld PW_HOLDUP_ALLOW = 512 && finOf t 5 = some (0, 0, 0)) = true ∧
    ran (.featureSet 5 false) (withC r₀ [cm 5 6 [(10, 9)] 0]) (fun t => finOf t 5 = some (0x02, 0x10, 0)) = true := by decide +kernel

theorem witness_atWork : (∀ o ∈ [0x01, 0x02, 0x03, 0x04, 0x05, 0x06, 0x07, 0x08, 0x09, 0x0A, 0x0B, 0x0C, 0x0D, 0x0E, 0x0F, 0x10, 0x11, 0x12,
      0x13, 0x20, 0x21, 0x22, 0x30, 0x31, 0x32, 0x33, 0x34, 0x35], (withC r₀ [cm 5 o [] 64]).atWork (cm 5 o [] 64) o) := by
  have h : ∀ o ∈ [0x01, 0x02, 0x03, 0x04, 0x05, 0x06, 0x07, 0x08, 0x09, 0x0A, 0x0B, 0x0C, 0x0D, 0x0E, 0x0F, 0x10, 0x11, 0x12,
      0x13, 0x20, 0x21, 0x22, 0x30, 0x31, 0x32, 0x33, 0x34, 0x35], (cm 5 o [] 64).opc = o := by decide +kernel
  exact fun o ho => at_work r₀ 5 o [] 64 [] (h o ho)

def clip₀ (state : Nat) : Clip :=
  { num := 7, state := state, fsize := 4, rate := 1000, next := 1, sealed := false, skipped := [], tc := 0, tcFps := 0, drop := false
    stage := false, surf := 0, meta_ := [], gen := 0, openTs := 0, closeTs := 0, stamped := none }

theorem witness_AdminKeysAndEvents : ((volS r₀ fun v => { v with binds := [(1, 1, 63)] }).slotBound 63 = true ∧ r₀.slotBound 63 = false ∧
      (cm 5 0x0B [(10, 0x13F)] 0).bits 10 8 8 = 1 ∧ r₀.alarmed = false ∧ (cm 5 0x0B [(10, 0x3F)] 0).bits 10 8 8 = 0 ∧
      ({ r₀ with cx := { r₀.cx with slots := vset r₀.cx.slots 63 { vget r₀.cx.slots 63 with kind := 1 } } }.slot 63).kind ≠ 0) ∧
    (dwOf (cm 5 0x0C [(10, 6143)] 4096).dws 10 * 4096 + 4096 ≤ 24 * 2 ^ 20 ∧
      24 * 2 ^ 20 < dwOf (cm 5 0x0C [(10, 6144)] 4096).dws 10 * 4096 + 4096) ∧
    ((cm 5 0x0D [(10, 9)] 0).bits 10 4 2 = 2 ∧ (cm 5 0x0D [(10, 17)] 0).bits 10 4 2 = 4 ∧
      (vget (hqS r₀ fun h => { h with fw := vset h.fw 0 ⟨[], []⟩ }).hq.fw 0).image = [] ∧
      (vget (hqS r₀ fun h => { h with fw := vset h.fw 0 ⟨[], [1]⟩ }).hq.fw 0).image ≠ [] ∧
      (volS r₀ fun v => { v with clips := [clip₀ 1] }).fwBusy = true ∧ r₀.fwBusy = false ∧ r₀.hq.stage.get 0 0 ≠ 0x50) ∧
    (r₀.hq.async.contains 5 = false ∧ r₀.hq.dropped = 0 ∧ r₀.hq.events = [] ∧
      (hqS r₀ fun h => { h with events := [(7, 1, 0)] }).hq.events = [(7, 1, 0)] ∧ r₀.hq.asyncMask.testBit 6 = false ∧
      (hqS r₀ fun h => { h with asyncMask := 64 }).hq.asyncMask.testBit 6 = true ∧
      32 ≤ (hqS r₀ fun h => { h with events := List.replicate 32 (7, 1, 0) }).hq.events.length) ∧
    (5 < (cm 5 0x11 [(10, 6)] 0).bits 10 7 0 ∧ (cm 5 0x11 [(10, 5)] 64).bits 10 7 0 ≤ 5) ∧
    ((cm 5 0x12 [(10, 15)] 0).bits 10 3 0 = 15 ∧ r₀.hq.test = none ∧
      (hqS r₀ fun h => { h with test := some (6, 3) }).hq.test = some (6, 3)) ∧
    ((cm 5 0x13 [(10, 0)] 0).step ≠ 1 ∧ dwOf (cm 5 0x13 [(10, 1)] 0).dws 10 % 1024 % 256 ≠ 0 ∧
      4000 ≤ dwOf (cm 5 0x13 [(11, 4000)] 0).dws 11 ∧ (clip₀ 1).state = 1 ∧ (clip₀ 2).state ≠ 1 ∧ r₀.store.vol.vstate ≠ 1 ∧
      r₀.store.vol.vstate ≠ 4 ∧ r₀.spinsStopped = true ∧ (∀ x ∈ r₀.store.chunks, x.atDram = false)) := by decide +kernel

/-- R305: an ASYNC EVENT takes the oldest event; R308: a MASK of 0 is INVALID_FIELD. -/
theorem test_async_standby : ran (.asyncEvent 5) (withC (hqS r₀ fun h => { h with events := [(7, 1, 2), (5, 0, 0)] }) [cm 5 0x10 [] 0])
      (fun t => finOf t 5 = some (0, 0, 7 + 256 + 131072) && t.hq.events = [(5, 0, 0)]) = true ∧
    ran (.standby 5) (withC r₀ [cm 5 0x13 [] 0]) (fun t => finOf t 5 = some (0x02, 0x10, 0)) = true := by decide +kernel

/-- A unit of the block space, or a cell of clip 7. -/
def chunk (ns clip : Nat) (dram optical : Bool) (data : List Byte) : Chunk :=
  { mag := [], ns := ns, clip := clip, frame := 0, off := 0, gen := 0, vlen := data.length, data := data, dram := dram
    staged := false, optical := optical, surf := none, place := none, seq := 3, order := 0, ts := 0, stale := 0, twk := clip, res := 0
    first := true, last := true, copies := [], grp := 0 }

def storeS (vs : Nat) (l : List Chunk) : State :=
  volS { r₀ with store := { r₀.store with chunks := l } } fun v => { v with vstate := vs, clips := [clip₀ 1] }

theorem witness_BlockCommands : ((storeS 2 []).store.vol.vstate ≠ 3 ∧ (storeS 3 []).store.vol.vstate = 3 ∧ (storeS 4 []).store.vol.vstate = 4 ∧
      (storeS 3 []).store.vol.encBlock = false) ∧
    (dwOf (cm 5 0x21 [(10, 2), (11, 1)] 8192).dws 10 % 2 = 0 ∧ ((cm 5 0x21 [(10, 2), (11, 1)] 8192).bits 11 15 0 + 1) % 2 = 0 ∧
      (cm 5 0x21 [] 0).mseq = 0) ∧
    ((cm 5 0x20 [] 4096).dlen = 4096 ∧ (cm 5 0x20 [] 4096).bits 11 15 0 + 1 = 1 ∧ (storeS 3 []).chunkAt 2 0 0 0 = none) ∧
    ((storeS 3 [chunk 2 0 true false (zeros 8)]).chunkAt 2 0 0 0 = some (chunk 2 0 true false (zeros 8)) ∧
      (chunk 2 0 true false []).gen = 0 ∧ (chunk 2 0 false true []).dram = false ∧ (chunk 2 0 false true []).data = []) ∧
    ({ cm 6 0x21 [] 8192 with seq := 2 }.writeClass = true ∧ (cm 5 0x22 [(10, 1)] 0).bits 10 0 0 = 1 ∧
      (cm 5 0x22 [] 0).writeClass = false ∧ (chunk 2 0 true false []).optical = false ∧ (chunk 2 0 true true []).optical = true ∧
      (storeS 3 [chunk 2 0 true false []]).writers ≠ [] ∧ (volS (storeS 3 []) fun v => { v with readOnly := true }).writers = []) := by
  decide +kernel

/-- R310: blocks never written read as zero; a write of a unit puts it in DRAM. -/
theorem test_block : ran (.blockWrite 5 (List.replicate 8192 7) []) (withC (storeS 3 []) [cm 5 0x21 [(11, 1)] 8192])
      (fun t => finOf t 5 = some (0, 0, 0) && (t.chunkAt 2 0 0 0).any fun x => x.dram && x.vlen = 8192) = true ∧
    ran (.blockRead 5 []) (withC (storeS 2 []) [cm 5 0x20 [] 4096]) (fun t => finOf t 5 = some (0x20, 0, 0)) = true := by decide +kernel

theorem witness_ClipCommands : ((∃ y ∈ (storeS 3 []).store.vol.clips, y.num = 7) ∧ (∀ y ∈ (storeS 3 []).store.vol.clips, y.num ≠ 8)) ∧
    (16 ≤ ((volS r₀ fun v => { v with clips := List.replicate 16 (clip₀ 1) }).store.vol.clips.filter fun y => y.state = 1).length ∧
      ((storeS 3 []).store.vol.clips.filter fun y => y.state = 1).length < 16 ∧ (storeS 3 []).volFull = false ∧
      (storeS 3 []).mirroring = false ∧ (storeS 3 []).admitted 0 0 false = true ∧
      (storeS 3 []).admitted (10 ^ 12) 0 false = false) ∧
    ((storeS 3 []).clip 7 = some (clip₀ 1) ∧ (storeS 3 []).store.vol.encClip = false ∧ (storeS 3 []).clip 8 = none) ∧
    ((clip₀ 2).state = 2 ∧ (clip₀ 1).state ≠ 2) ∧
    (1 ≤ (clip₀ 2).fsize ∧ (cm 5 0x33 [] 4).bits 12 7 0 = 0 ∧ (cm 5 0x33 [] 4).bits 12 31 31 = 0 ∧
      (storeS 3 []).scanWaits (clip₀ 2) = false ∧
      (storeS 3 [chunk 1 7 true false (zeros 4)]).frameChunks 7 0 0 = [chunk 1 7 true false (zeros 4)]) ∧
    (volS (storeS 3 []) fun v => { v with scan := true }).scanWaits (clip₀ 3) = true ∧
    ((cm 5 0x34 [(10, 1), (11, 7)] 64).bits 10 1 0 = 1 ∧ dwOf (cm 5 0x34 [(10, 1), (11, 7)] 64).dws 11 = 7 ∧ (cm 5 0x34 [] 64).bits 10 1 0 ≠ 1) ∧
    ((∃ y ∈ (storeS 3 [chunk 1 7 true false []]).frameChunks 7 0 0, y.optical = false) ∧
      (∀ y ∈ (storeS 3 [chunk 1 7 true true []]).frameChunks 7 0 0, y.optical = true)) := by decide +kernel

/-- R312: the number of an existing clip is refused with DETAIL 0x08; R314: closing a closed clip with 0x07. -/
theorem test_clips : ran (.clipOpen 5 [] false) (withC (storeS 3 []) [{ cm 5 0x30 [(11, 4)] 0 with clip := 7 }])
      (fun t => finOf t 5 = some (0x02, 0x08, 0)) = true ∧
    ran (.clipClose 5 []) (volS (withC (storeS 3 []) [{ cm 5 0x32 [] 0 with clip := 7 }]) fun v => { v with clips := [clip₀ 2] })
      (fun t => finOf t 5 = some (0x02, 0x07, 0)) = true ∧
    ran (.clipClose 5 []) (withC (storeS 3 []) [{ cm 5 0x32 [] 0 with clip := 7 }])
      (fun t => finOf t 5 = some (0, 0, 1) && t.store.vol.clips.all fun y => y.state = 2 && y.sealed) = true := by decide +kernel

/-- Surface 1 may be written; a record is pending and 24 band steps have passed since the last visit. -/
def ledgerS : State := volS writeS fun v =>
  { v with vstate := 3, records := [⟨1, 1, 0, [], [1]⟩], log := vset v.log 1 { vget v.log 1 with steps := 24, swath := 7 } }

theorem witness_Placement : (0 < endSwath (bandId 1 1 2) ∧ endSwath (bandId 1 1 2) ≤ 360 ∧ bandId 1 1 2 ∉ (vget writeS.wp 1).spent ∧
      bandId 1 1 2 ∉ writeS.store.vol.fullBands) ∧
    ((vget ledgerS.wp 1).planned = none ∧ (vget ledgerS.wp 1).running = none ∧ ledgerS.ledgerDue 1 = true ∧
      ledgerS.store.vol.readOnly = false ∧ ledgerS.writable 1 = true ∧ (vget ledgerS.store.vol.log 1).swath < 359 ∧
      ledgerS.recsPending 1 ≠ [] ∧ r₀.ledgerDue 1 = false) ∧
    ((1 : Fin 4).val ∈ ledgerS.writers ∧ dataRoom (ledgerS.failedBeams 1) ≠ 0 ∧ (∀ x ∈ ledgerS.drainable, x.gen = 0) ∧
      (1 : Fin 4).val ∉ (volS ledgerS fun v => { v with readOnly := true }).writers) ∧
    ((hqS r₀ fun h => { h with floor := 65535 }).stageFree = 0 ∧ r₀.hq.belowFloor = false ∧ r₀.hq.async = [] ∧ r₀.hq.events = [] ∧
      r₀.hq.asyncMask = 0) := by decide +kernel

/-! ### Volumes -/

/-- The loader done at a position, with a volume state and the lock's switches. -/
def loaderS (pos : Block → Int) (vs : Nat) : State :=
  volS (edit (set r₀ [(AXa_STAT_DONE 8, 1), (AXa_STAT_HOMED 8, 1), (MZ_SW_DOOR, 1), (MZ_SW_CLAMP, 1)]) fun b =>
    { b with axis := vset b.axis 8 { vget b.axis 8 with t := pos b } }) fun v => { v with vstate := vs }

theorem witness_MagazineLoad : (∀ vs ∈ [0, 1, 2, 3, 4], (volS r₀ fun v => { v with vstate := vs }).store.vol.vstate = vs) ∧
    (r₀.on MZ_SW_DOOR = false ∧ (loaderS Block.parkPos 0).on MZ_SW_DOOR = true ∧ (loaderS Block.parkPos 0).on (AXa_STAT_HOMED 8) = true ∧
      (loaderS Block.parkPos 0).loaderAt (loaderS Block.parkPos 0).parkPos = true ∧ (loaderS Block.parkPos 0).spinsStopped = true) ∧
    (r₀.loaderAt r₀.shutPos = false ∧ (loaderS Block.shutPos 1).loaderAt (loaderS Block.shutPos 1).shutPos = true) ∧
    ((loaderS Block.clampPos 1).loaderAt (loaderS Block.clampPos 1).clampPos = true ∧ (loaderS Block.clampPos 1).on MZ_SW_CLAMP = true) ∧
    (∀ n ∈ [1, 2, 3, 4, 22], ({ cm 5 8 [] 64 with step := n }).step = n) ∧
    (∀ u : Fin 4, ∃ d, (([0, 1, 2, 3].map fun i => (i, some (⟨0, 0, i, [], [], []⟩ : Descriptor))).find? fun x => x.1 = u.val) =
      some (u.val, some d)) ∧
    (r₀.store.journal = [] ∧ r₀.store.awayRecs = [] ∧ byteAt [0, 4] 0 = 0 ∧ r₀.store.vol.auth = false ∧ r₀.store.vol.scan = false ∧
      (volS r₀ fun v => { v with scan := true }).store.vol.scan = true) := by
  refine ⟨?_, ?_, ?_, ?_, ?_, ?_, ?_⟩
  · decide +kernel
  · decide +kernel
  · decide +kernel
  · decide +kernel
  · decide +kernel
  · exact fun u => ⟨⟨0, 0, u.val, [], [], []⟩, by revert u; decide⟩
  · decide +kernel

theorem witness_MagazineLoad_locked : (∀ u : Fin 4, (set r₀ [(SPn_STAT_LOCK 0, 1), (SPn_STAT_LOCK 1, 1), (LE_PSW_k_FLAGS 0, 1), (LE_PSW_k_FLAGS 1, 1),
    (LE_PSW_k_FLAGS 2, 1), (LE_PSW_k_FLAGS 3, 1)]).on (SPn_STAT_LOCK (spinOf u)) = true ∧
    (set r₀ [(SPn_STAT_LOCK 0, 1), (SPn_STAT_LOCK 1, 1), (LE_PSW_k_FLAGS 0, 1), (LE_PSW_k_FLAGS 1, 1), (LE_PSW_k_FLAGS 2, 1),
      (LE_PSW_k_FLAGS 3, 1)]).psw u 0 = true) := by decide +kernel

/-- R295: with no door shut, or no ID memory, a load ends with NO_MAGAZINE, DETAIL 0x22. R326: a scan that finds nothing
leaves an open clip sealed. -/
theorem test_load : ran (.magazineLoad 5 .noIdMem) (withC (loaderS Block.parkPos 0) [cm 5 8 [] 0])
      (fun t => finOf t 5 = some (0x20, 0x22, 0)) = true ∧
    ran (.magazineLoad 5 .noIdMem) (withC (loaderS Block.parkPos 3) [cm 5 8 [] 0])
      (fun t => finOf t 5 = some (0, 0, 256 * t.writersMask)) = true ∧
    ran (.tailScan [] [] []) (volS r₀ fun v => { v with scan := true, clips := [clip₀ 1] })
      (fun t => !t.store.vol.scan && t.store.vol.clips.all fun x => x.state ≠ 1) = true := by decide +kernel

theorem witness_EjectAndFormat : (r₀.isPartner = false ∧ (∃ x ∈ (storeS 3 []).store.vol.clips, x.state = 1) ∧
      (∀ x ∈ r₀.store.vol.clips, x.state ≠ 1) ∧ (cm 5 9 [(10, 1)] 0).bits 10 0 0 = 1 ∧ (cm 5 9 [] 0).bits 10 0 0 = 0) ∧
    (withC r₀ [{ cm 5 9 [] 0 with step := 1 }]).hq.cmds.find? (fun x => x.opc = 0x09 && x.started && x.fin.isNone && x.step ≠ 0) =
      some { cm 5 9 [] 0 with step := 1 } ∧
    ((volS r₀ fun v => { v with vstate := 2 }).store.vol.rseq = 0 ∧ r₀.store.vol.entries = [] ∧ r₀.store.vol.records = []) ∧
    ((volS r₀ fun v => { v with vstate := 4, rseq := 3 }).store.vol.rseq ≠ 0 ∧ (storeS 3 []).drained (cm 5 9 [] 0) = false ∧
      (volS (storeS 4 []) fun v => { v with readOnly := true }).writers = [] ∧
      (volS (storeS 4 []) fun v => { v with readOnly := true }).drained (cm 5 9 [] 0) = false ∧ (storeS 4 []).writers ≠ []) ∧
    (r₀.spinsStopped = true ∧ (set r₀ [(SPn_STAT_STATE 0, 2)]).spinsStopped = false ∧ r₀.loaderAt r₀.shutPos = false ∧
      (loaderS Block.shutPos 4).loaderAt (loaderS Block.shutPos 4).shutPos = true ∧ (loaderS Block.parkPos 4).on MZ_SW_CLAMP = true ∧
      (vget (set r₀ [(MZ_LDR_POS_CLAMP_POS, 90), (MZ_SW_CLAMP, 1)]).axis 8).p <
        ((set r₀ [(MZ_LDR_POS_CLAMP_POS, 90), (MZ_SW_CLAMP, 1)]).clampPos -
          256 * ((set r₀ [(MZ_LDR_POS_CLAMP_POS, 90), (MZ_SW_CLAMP, 1)]).fld MZ_LDR_POS_CLAMP_WIN : Int)) * 65536 ∧
      (set r₀ [(MZ_LDR_POS_CLAMP_POS, 90), (MZ_SW_CLAMP, 1)]).loaderAt (set r₀ [(MZ_LDR_POS_CLAMP_POS, 90), (MZ_SW_CLAMP, 1)]).shutPos = false) ∧
    ((cm 5 10 [(10, 0x10001)] 0).bits 10 2 0 = 1 ∧ (r₀.slot 0).kind ≠ 1 ∧ (cm 5 10 [] 0).bits 10 2 0 % 4 = 0) ∧
    ((∀ r ∈ r₀.store.vol.records, r₀.recDurable r = true) ∧ ledgerS.store.vol.records = [⟨1, 1, 0, [], [1]⟩] ∧
      ledgerS.recDurable ⟨1, 1, 0, [], [1]⟩ = false) := by decide +kernel

/-- R297: an eject with a clip open is refused; R299: a FORMAT of a blank volume makes record entry 1 and VSTATE stays 2. -/
theorem test_eject_format : ran (.magazineEject 5) (withC (storeS 3 []) [cm 5 9 [] 0])
      (fun t => finOf t 5 = some (0x21, 0, 0) && t.store.vol.vstate = 3) = true ∧
    ran (.format 5 []) (withC (volS r₀ fun v => { v with vstate := 2 }) [cm 5 10 [(11, 0x0A20)] 0])
      (fun t => finOf t 5 = none && t.store.vol.blku = 32 && t.store.vol.rseq = 1) = true ∧
    ran (.format 5 []) (withC (volS r₀ fun v => { v with vstate := 3 }) [cm 5 10 [] 0])
      (fun t => finOf t 5 = some (0x13, 0x0A, 0)) = true := by decide +kernel

/-! ### Peat, DRAM, the map cache, Sluice -/

def ptS (s : State) (f : Pt → Pt) : State := { s with pt := f s.pt }
def drS (s : State) (f : Dram → Dram) : State := { s with dram := f s.dram }

/-- Four slots in each ring, with the rings apart. -/
def rings₀ : State := set r₀ [(PT_Q_SIZE_SIZE, 3), (PT_CQ_BASE_LO_BASE, 64), (PT_DQ_HEAD_PH, 1), (PT_CTL_EN, 0)]

/-- Rings with the engine running. -/
def ready₀ : State := set rings₀ [(PT_CTL_EN, 1), (PT_STAT_READY, 1), (PW_STAT_RMODE, 0)]

def fields (block : BitVec 12) (page : BitVec 10) : PtFields := { die := 3, block := block, page := page, tag := 9, irq := true, bg := false }

def key₀ : Nat := 3 * 4096 + 20

/-- Die 3, block 20 in the mode given, `next` pages named and programmed. -/
def blockS (s : State) (mode : Option Bool) (next : Nat) : State :=
  ptS s fun p => { p with blocks := p.blocks.set key₀ { PtBlock.new with mode := mode, next := next, pages := next } PtBlock.new }

/-- A descriptor of the opcode on page `page` of block 20 of die 3. -/
def descOf (op page : Nat) (slc : Bool) : PtDesc :=
  ⟨0, #v[BitVec.ofNat 32 (op * 2 ^ 4 + if slc then 1024 else 0), BitVec.ofNat 32 (3 + 256 * 20), BitVec.ofNat 32 (page + 0xF000), 0, 0, 0, 0x100000#32, 0]⟩

/-- Two slots, one of them reserved. -/
def full₀ : State := ptS (set r₀ [(PT_Q_SIZE_SIZE, 1)]) fun p => { p with reserved := [(0, 0)] }

theorem witness_PeatDescriptors : (rings₀.ptInUse < rings₀.fld PT_Q_SIZE_SIZE ∧ rings₀.pt.rsv ≤ rings₀.fld PT_Q_SIZE_SIZE) ∧
    (rings₀.ptBase PT_DQ_BASE_LO_BASE PT_DQ_BASE_HI_BASE + 32 * (rings₀.fld PT_Q_SIZE_SIZE + 1) ≤
        rings₀.ptBase PT_CQ_BASE_LO_BASE PT_CQ_BASE_HI_BASE ∧ rings₀.fld PT_CQ_TAIL_TAIL ≤ rings₀.fld PT_Q_SIZE_SIZE ∧
      rings₀.ptBase PT_CQ_BASE_LO_BASE PT_CQ_BASE_HI_BASE + 16 * (rings₀.fld PT_Q_SIZE_SIZE + 1) ≤ dramSize ∧
      rings₀.dram.lines ++ rings₀.dram.victim = []) ∧
    (ready₀.on PT_CTL_EN = true ∧ ready₀.on PT_STAT_READY = true ∧ ready₀.on PT_CTL_DYKE = false ∧
      ready₀.fld PT_DQ_HEAD_HEAD = ready₀.pt.rsv ∧ ready₀.fld PT_DQ_HEAD_PH = ready₀.pt.rsvPh.toNat ∧
      1 ≤ ready₀.fld PT_Q_SIZE_SIZE ∧ ready₀.pt.waiting = [] ∧ (ready₀.ptSlot 1).bits 0 0 0 ≠ ready₀.pt.rsvPh.toNat) ∧
    (full₀.fld PT_Q_SIZE_SIZE ≤ full₀.ptInUse ∧ full₀.pt.rsv ≤ 4095) ∧
    (rings₀.on PT_CTL_EN = false ∧ (rings₀.ptSlot (rings₀.fld PT_DQ_HEAD_HEAD)).bits 0 0 0 ≠ rings₀.fld PT_DQ_HEAD_PH) ∧
    (((0 : Nat), 0) ∈ (ptS rings₀ fun p => { p with reserved := [(0, 0)] }).pt.reserved ∧
      0 + (set (ptS rings₀ fun p => { p with reserved := [(0, 0)] }) [(PT_THR_RSV_TO, 0)]).fld PT_THR_RSV_TO ≤ rings₀.now ∧
      rings₀.pt.reserved = []) ∧
    (ready₀.onBit PT_DIE_FAIL_FAIL 3 = false ∧ ready₀.ptOpOf 3 = none ∧ ready₀.on PW_STAT_RMODE = false ∧ ready₀.dram.flaw = [] ∧
      (fields 20 0).block.toNat ≤ 3640 ∧ (fields 20 0).bg = false ∧ 0x100000 % 64 = 0 ∧ 0x100000 + 65536 ≤ dramSize) := by decide +kernel

theorem witness_PeatDescriptors_blocks : ((blockS ready₀ (some true) 2).ptBlock key₀).mode = some true ∧
    ((blockS ready₀ (some true) 2).ptBlock key₀).next = 2 ∧ ((blockS ready₀ (some true) 2).ptBlock key₀).retired = false ∧
    ((blockS ready₀ (some true) 2).ptBlock key₀).closed = false ∧ 2 < ptPages true ∧ (ready₀.ptBlock key₀).mode = none ∧
    (ready₀.ptBlock key₀).next = 0 ∧ ready₀.on PT_STAT_STOP = false ∧ ready₀.on PT_STAT_HOT = false ∧ ready₀.on PT_STAT_JFULL = false ∧
    (set ready₀ [(PT_STAT_STOP, 1)]).on PT_STAT_STOP = true ∧ (set ready₀ [(PT_STAT_HOT, 1)]).on PT_STAT_HOT = true ∧
    (set ready₀ [(PT_STAT_JFULL, 1)]).on PT_STAT_JFULL = true ∧ ptJournal 15 = true ∧ ptJournal 16 = false := by decide +kernel

/-- R348: the first reservation answers slot 0 with phase 1; a full ring answers FULL. R351: a read of an erased page is
refused with 0x03, and 1289 is raised; a program of the next page begins. -/
theorem test_peat_queue : ran (.dqReserve (.cc 0)) rings₀ (fun t => vget t.rdata (Master.cc 0).idx = 0x1000#32 && t.pt.rsv = 1) = true ∧
    ran (.dqReserve (.cc 0)) full₀ (fun t => vget t.rdata (Master.cc 0).idx = 0x80001000#32 && t.pt.rsv = 0) = true ∧
    ran (.peatRead (fields 20 0) true 15 0 0x100000#64 0#64) ready₀ (fun t => t.fld PT_STAT_QERR = 1 && t.raised 1289 &&
      t.pt.ops.isEmpty && t.dramVal 4096 4 = 2 * 3 + t.fld PT_CQ_TAIL_PH + 65536 * 9) = true ∧
    ran (.peatErase (fields 20 0) false) ready₀ (fun t => t.pt.ops.map (·.die) = [3] && t.fld PT_DQ_HEAD_HEAD = 1) = true := by
  decide +kernel

def opS (op page : Nat) (slc : Bool) (mode : Option Bool) (next : Nat) : State :=
  ptS (blockS ready₀ mode next) fun p => { p with ops := [⟨3, none, descOf op page slc, 4, 0⟩] }

theorem witness_PeatOperations : (r₀.ptOpOf 3 = none) ∧
    (∀ e ∈ [(1, 0, true), (2, 1, true), (2, 0, false), (3, 0, false), (4, 0, false), (5, 0, false), (6, 0, false)],
      (opS e.1 e.2.1 e.2.2 none 0).ptOpOf 3 = some ⟨3, none, descOf e.1 e.2.1 e.2.2, 4, 0⟩ ∧ (descOf e.1 e.2.1 e.2.2).op = e.1 ∧
        (descOf e.1 e.2.1 e.2.2).slc = e.2.2 ∧ (descOf e.1 e.2.1 e.2.2).page = e.2.1 ∧ (descOf e.1 e.2.1 e.2.2).key = key₀) ∧
    ((descOf 1 0 true).pmask = 15 ∧ (descOf 1 0 true).daddr + 65536 ≤ dramSize ∧ (descOf 1 0 true).maddr = 0x100000 ∧
      (descOf 1 0 true).maddr + 512 ≤ dramSize ∧ (descOf 1 0 true).daddr = 0) ∧
    (SMap.wf (fun _ => PtBlock.new) (opS 1 0 true (some true) 2).pt.blocks = true ∧ (opS 1 0 true none 0).pt.waiting = [] ∧
      (opS 1 0 true none 0).pt.openPages = []) ∧
    ((set r₀ [(PT_CTL_ARB, 0)]).on PT_CTL_ARB = false ∧ r₀.on PT_CTL_ARB = true ∧ (ptPlace 0).2.2 = 0 ∧ ptCovered 0 552 = true ∧
      ptCovered 0 1 = false) ∧
    (((opS 2 0 true none 0).ptBlock key₀).retired = false ∧ ((opS 3 0 true none 0).ptBlock key₀).sched = false) ∧
    (r₀.onBit PT_DIE_FAIL_FAIL 3 = false ∧ (set r₀ [(PT_DIE_FAIL_FAIL, 8)]).onBit PT_DIE_FAIL_FAIL 3 = true ∧
      SMap.wf (fun _ => PtBlock.new) r₀.pt.blocks = true ∧ (850#16).toInt = 850 ∧ (0xFFFF#16).toInt = -1) := by decide +kernel

/-- The read of page 0 into 4 KiB-separate places: its DADDR keeps clear of the completion cell. -/
theorem witness_PeatOperations_apart : (opS 1 0 true none 0).ptBase PT_CQ_BASE_LO_BASE PT_CQ_BASE_HI_BASE = 4096 ∧
    (set (opS 1 0 true none 0) [(PT_CQ_BASE_HI_BASE, 1)]).ptBase PT_CQ_BASE_LO_BASE PT_CQ_BASE_HI_BASE = 2 ^ 32 + 4096 ∧
    65536 ≤ 0x100000 ∧ 0x100000 + 512 ≤ 2 ^ 32 + 4096 ∧ 2 ^ 32 + 4096 + 16 ≤ dramSize := by decide +kernel

/-- R356: an erase of a fast block adds 1 to its wear and leaves it empty; R364: a die that times out fails, 1304 + die;
R365: 85.0 °C is HOT, 79.9 °C no longer. -/
theorem test_peat_ops : ran (.flashOpComplete 3 ⟨true, none, 0, [], 0, []⟩) (opS 3 0 false (some true) 7)
      (fun t => t.ptBlock key₀ = { PtBlock.new with wear := 1 } && t.pt.ops.isEmpty) = true ∧
    ran (.dieTimeout 3) r₀ (fun t => t.raised 1307 && t.fld PT_DIE_FAIL_FAIL = 8) = true ∧
    ran (.peatTempSample 850#16) r₀ (fun t => t.on PT_STAT_HOT && t.raised 1295 && !t.on PT_STAT_STOP) = true ∧
    ran (.peatTempSample 799#16) (set r₀ [(PT_STAT_HOT, 1)]) (fun t => !t.on PT_STAT_HOT && t.raised 1296) = true := by decide +kernel

def line₀ (n valid dirty : Nat) : McLine := ⟨n, 0, BitVec.ofNat 4 valid, BitVec.ofNat 4 dirty, Vector.replicate 256 7⟩

theorem witness_DramAccess : (dramSize < dramSize - 1 + max 2 0 ∧ 0 + max 8 8 ≤ dramSize ∧ r₀.dram.lines ++ r₀.dram.victim = [] ∧
      dramSize < dramSize - 1 + 2) ∧
    (r₀.dram.flawOf 0 = 0 ∧ r₀.dram.dirtyLine 0 = none ∧ r₀.fld DR_CE_CNT_COUNT < 2 ^ 32 - 1 ∧ r₀.fld DR_CE_OVF_COUNT < 2 ^ 16 - 1 ∧
      r₀.fld DR_CE_BKT_LEVEL + 1 < 2 ^ 16 ∧ r₀.fld DR_CE_BKT_LEVEL + 1 < r₀.dram.limit ∧
      (drS r₀ fun d => { d with limit := 1 }).dram.limit ≤ r₀.fld DR_CE_BKT_LEVEL + 1) ∧
    (64 ≤ (drS r₀ fun d => { d with flaw := [(0, 64)] }).dram.flawOf 0) ∧
    ((withC r₀ [cm 5 0x21 [] 0]).cmd 5 = some (cm 5 0x21 [] 0) ∧ (cm 5 0x21 [] 0).started = true ∧ (cm 5 0x21 [] 0).fin = none) ∧
    (r₀.dram.entry 0 = none ∧ (drS r₀ fun d => { d with merge := [⟨0, 1, Vector.replicate 64 9⟩] }).dram.entry 0 =
      some ⟨0, 1, Vector.replicate 64 9⟩ ∧ (1 : BitVec 64) ≠ BitVec.allOnes 64 ∧
      (drS r₀ fun d => { d with merge := [⟨0, BitVec.allOnes 64, Vector.replicate 64 9⟩] }).dram.entry 0 =
        some ⟨0, BitVec.allOnes 64, Vector.replicate 64 9⟩) ∧
    (r₀.now < r₀.dram.leakAt + r₀.dram.leak ∧ (drS r₀ fun d => { d with leak := 0 }).dram.leakAt + 0 ≤ r₀.now) ∧
    ((vget r₀.aper 0).toNat % 2 ^ 14 * 2 ^ 20 < dramSize ∧
      dramSize ≤ (vget { r₀ with aper := vset r₀.aper 0 0x3800#32 }.aper 0).toNat % 2 ^ 14 * 2 ^ 20) := by decide +kernel

/-- R368: four bytes at an address are read back, least significant first; R372: poison reads as an error and raises 1353. -/
theorem test_dram : ran (.dramAccess .hq 0x3FFFE 4 (some [1, 2, 3, 4]) none none) r₀ (fun t => t.dram.bytes 0x3FFFD 6 = [0, 1, 2, 3, 4, 0]) = true ∧
    ran (.dramAccess .hq 64 4 none none none) (drS r₀ fun d => { d with flaw := [(1, 64)] }) (fun t => t.raised 1353 &&
      t.fld DR_UE_ADDR_LO_ADDR = 1 && t.out.any fun m => m = .memData .hq [] true) = true ∧
    ran (.apertureAccess (.cc 0) 0#20 none) (drS { r₀ with aper := vset r₀.aper 0 1#32 } fun d => { d with mem := [(0x100000, 0xAB)] })
      (fun t => vget t.rdata (Master.cc 0).idx = 0xAB#32) = true := by decide +kernel

/-- The map cache in use with lines. -/
def mcS (l : List McLine) : State := drS (set r₀ [(MC_CTL_EN, 1), (MC_STAT_INIT, 0), (MC_LOCK_LOCK, 2)]) fun d =>
  { d with lines := l, win := MC_WIN_SIZE.put 0#32 1 }

theorem witness_MapCache : ((mcS []).dram.fills = [] ∧ r₀.on MC_STAT_INIT = true ∧ (mcS []).on MC_STAT_INIT = false ∧ (mcS []).cached 0 = true ∧
      (mcS []).cached 0x100000 = false) ∧
    (0 % 64 + 8 ≤ 64 ∧ (zeros 8).length = 8) ∧
    ((mcS [line₀ 0 1 0]).dram.lineOf 0 = some (line₀ 0 1 0) ∧ secOn (line₀ 0 1 0).valid 0 = true ∧ secOn (line₀ 0 1 0).valid 1 = false ∧
      (mcS []).fld MC_CNT_HIT_COUNT < 2 ^ 32 - 1) ∧
    ((mcS []).dram.lines = [] ∧ (mcS []).dram.victim = [] ∧ (0 < 16 ∧ (mcS []).wayOpen 0 = true)) ∧
    ((drS (mcS [line₀ 0 0 0]) fun d => { d with fills := [⟨0, [⟨1, 0, 8, none⟩]⟩] }).dram.flaw = [] ∧
      (mcS []).dram.op = none ∧ (mcS []).dram.winPend = none ∧ (drS (mcS []) fun d => { d with fills := [⟨0, [⟨1, 0, 8, none⟩]⟩] }).dram.fills ≠ []) ∧
    ((mcS []).on MC_OP_STAT_BUSY = false ∧ (((mcS [line₀ 0 1 1]).dram.lines ++ (mcS [line₀ 0 1 1]).dram.victim).map (·.line)).Nodup ∧
      (set r₀ [(MC_OP_STAT_BUSY, 1)]).on MC_OP_STAT_BUSY = true ∧ 0 + 256 ≤ dramSize ∧ 256 < 2 ^ 32 ∧ (0 + 256 - 1) / 256 = 0) ∧
    ((mcS []).onBit MC_LOCK_LOCK 1 = true ∧ (mcS []).onBit MC_WAY_DIS_DIS 1 = false ∧ r₀.fld MC_LOCK_LOCK = 0) ∧
    ((∀ e ∈ [true, false], (drS r₀ fun d => { d with op := some ⟨1, [], 3, 1, e⟩ }).dram.op = some ⟨1, [], 3, 1, e⟩)) ∧
    ((drS r₀ fun d => { d with victim := [line₀ 4 1 1] }).dram.victim.find? (fun y => y.dirty ≠ 0) = some (line₀ 4 1 1) ∧
      r₀.dram.victim = []) := by decide +kernel

/-- R376: a read of a valid sector is a hit and answers its line's bytes; R378: of an absent line starts a fill. R383: a second
operation is rejected with 1366. -/
theorem test_mc : ran (.mcAccess 1 0 2 none .clean) (mcS [line₀ 0 1 0]) (fun t => t.fld MC_CNT_HIT_COUNT = 1 &&
      t.out.any fun m => m = .memData (.cc 1) [7, 7] false) = true ∧
    ran (.mcAccess 1 256 2 none .clean) (mcS [line₀ 0 1 0]) (fun t => t.dram.fills.map (·.line) = [1] && t.dram.lines.map (·.line) = [1, 0]) = true ∧
    ran (.inv 0 256) (set r₀ [(MC_OP_STAT_BUSY, 1)]) (fun t => t.fld MC_OP_STAT_REJ = 1 && t.raised 1366) = true ∧
    ran (.inv 0 256) (mcS [line₀ 0 1 1]) (fun t => t.dram.lines.isEmpty && t.dram.byte 0 = 7 && t.dram.byte 64 = 0) = true := by decide +kernel

/-- Channel 2 is active and holds a mover, with the fields of its record. -/
def slS (x : SlChan) (l : List (Fld × Nat)) : State := drS (set r₀ ([(SL_CTL_EN, 1), (SLc_STAT_ACTIVE 2, 1)] ++ l)) fun d =>
  { d with movers := [2], chan := vset d.chan 2 x }

def ch (total rd wr : Nat) (buf : List Byte) : SlChan := ⟨total, rd, wr, buf, false, false⟩

theorem witness_SluiceChannels : ((slS (ch 64 0 0 []) []).on (SLc_STAT_ACTIVE 2) = true ∧ r₀.on (SLc_STAT_ACTIVE 2) = false ∧
      r₀.fld (SLc_COUNT_COUNT 2) = 0) ∧
    ((set r₀ [(SLc_COUNT_COUNT 2, 64)]).fld (SLc_COUNT_COUNT 2) % 4 = 0 ∧ (set r₀ [(SLc_COUNT_COUNT 2, 64)]).slSrc 2 + 64 ≤ dramSize ∧
      r₀.on (SLc_STAT_PREEMPTED 2) = false ∧ r₀.dram.movers = [] ∧ r₀.slWaiting = []) ∧
    ((slS (ch 64 8 0 (zeros 8)) [(SLc_COUNT_COUNT 2, 64)]).fld (SLc_COUNT_COUNT 2) ≠ 0 ∧ (slS (ch 64 8 0 (zeros 8)) []).on (SLc_CTL_DSP 2) = false ∧
      (ch 64 8 0 (zeros 8)).failed = false ∧ (ch 64 8 0 (zeros 8)).buf ≠ [] ∧ (ch 8 8 0 (zeros 8)).total ≤ 0 + 8) ∧
    ((2 : Fin 32).val ∈ (slS (ch 64 0 0 []) []).dram.movers ∧ (slS (ch 64 0 0 []) []).on SL_CTL_EN = true ∧ (slS (ch 64 0 0 []) []).slWaiting = [] ∧
      0 < min 64 ((ch 64 0 0 []).total - (ch 64 0 0 []).rd) ∧ (slS (ch 64 0 0 []) []).on (SLc_CTL_SSP 2) = false ∧ r₀.dram.flaw = [] ∧
      (slS (ch 64 0 0 []) [(SLc_CTL_SSP 2, 1)]).on (SLc_CTL_SSP 2) = true ∧ r₀.hostUp = false ∧
      (hqS (set r₀ [(HQ_LINK_SPEED, 4)]) fun h => { h with bme := true }).hostUp = true) ∧
    ((drS (set (slS (ch 64 0 0 []) []) [(SLc_STAT_ACTIVE 9, 1), (SLc_CTL_PRI 9, 1)]) fun d => { d with movers := [2, 3, 4, 5] }).slWaiting.any
        (drS (set (slS (ch 64 0 0 []) []) [(SLc_STAT_ACTIVE 9, 1), (SLc_CTL_PRI 9, 1)]) fun d => { d with movers := [2, 3, 4, 5] }).slHigh = true ∧
      [2, 3, 4, 5].find? (fun j => !r₀.slHigh j) = some 2 ∧ r₀.fld SL_CNT_PREEMPT_COUNT < 2 ^ 32 - 1) ∧
    ((slS (ch 64 64 64 []) []).fld (SLc_COUNT_COUNT 2) = 0 ∧ (slS (ch 64 64 64 []) [(SL_IRQ_EN_EN, 4)]).onBit SL_IRQ_EN_EN 2 = true) := by
  decide +kernel

/-- R386: a COUNT of 0 sets CFGERR; R387: a write beat of 8 bytes lands at the destination; R390: an inactive STOP does nothing. -/
theorem test_sluice : ran (.slStart 2 false false false false) r₀ (fun t => t.fld (SLc_STAT_CFGERR 2) = 1 && t.raised 1371) = true ∧
    ran (.slBeat 2 true []) (slS (ch 8 8 0 [1, 2, 3, 4, 5, 6, 7, 8]) [(SLc_COUNT_COUNT 2, 8)]) (fun t =>
      t.dram.bytes 0 8 = [1, 2, 3, 4, 5, 6, 7, 8] && t.fld (SLc_COUNT_COUNT 2) = 0) = true ∧
    ran (.slStop 2) r₀ (fun t => t.dram = r₀.dram && t.regs = r₀.regs) = true := by decide +kernel

/-! ### The cipher engine -/

/-- Bytes of a hexadecimal number of `n` bytes. -/
def hex (n v : Nat) : List Byte := beBytes n v

/-- FIPS 197, C.3. -/
theorem test_aes : aesEnc (roundKeys (hex 32 0x000102030405060708090a0b0c0d0e0f101112131415161718191a1b1c1d1e1f))
      (hex 16 0x00112233445566778899aabbccddeeff) = hex 16 0x8ea2b7ca516745bfeafc49904b496089 := by decide +kernel

/-- Page 2 enabled with a key in its mode. -/
def cxS (mode : Nat) : State := set r₀ [(CXp_CTL_EN 2, 1), (CXp_STAT_KEYOK 2, 1), (CXp_CTL_MODE 2, mode), (CX_CTL_EN, 1), (CX_STAT_PAIRS, 15)]

def cxE (s : State) (f : Cx → Cx) : State := { s with cx := f s.cx }

theorem witness_CipherUnits : (∀ mode ∈ [0, 1, 3, 4, 5], (cxS mode).on (CXp_STAT_NOKEY 2) = false ∧ (cxS mode).on (CXp_CTL_EN 2) = true ∧
      (cxS mode).on (CXp_STAT_KEYOK 2) = true ∧ (cxS mode).on CX_CTL_EN = true ∧ (cxS mode).onBit CX_STAT_PAIRS 3 = true ∧
      (cxS mode).fld (CXp_CNT_UNITS 2) < 2 ^ 32 - 1 ∧ (cxS mode).fld (CXp_CTL_MODE 2) = mode) ∧
    ((withC r₀ [cm 5 0x21 [] 0]).cmd 5 = some (cm 5 0x21 [] 0) ∧ (cm 5 0x21 [] 0).started = true ∧ (cm 5 0x21 [] 0).fin = none) ∧
    (r₀.fld CX_CNT_MISMATCH < 2 ^ 16 - 1 ∧ r₀.cx.retries < 2 ∧ 2 ≤ (cxE r₀ fun c => { c with retries := 2 }).cx.retries) ∧
    ((set r₀ [(CXp_STAT_NOKEY 2, 1)]).on (CXp_STAT_NOKEY 2) = true ∧ (set r₀ [(CX_STAT_PAIRS, 0)]).fld CX_STAT_PAIRS = 0 ∧
      (set r₀ [(CX_STAT_PAIRS, 1)]).fld CX_STAT_PAIRS ≠ 0 ∧ (set r₀ [(CX_STAT_PAIRS, 1)]).onBit CX_STAT_PAIRS 3 = false) ∧
    ((3 : Fin 4).val ∉ r₀.cx.testing ∧ (3 : Fin 4).val ∈ (cxE r₀ fun c => { c with testing := [3] }).cx.testing ∧
      r₀.onBit CX_PAIR_DIS 3 = false ∧ (set r₀ [(CX_PAIR_DIS, 8)]).onBit CX_PAIR_DIS 3 = true) := by decide +kernel

/-- The tag that a GCM open needs is some tag, and not every tag. -/
theorem witness_CipherUnits_tag (key iv aad text : List Byte) :
    (∃ tag, (gcm key iv aad text true).2 = tag) ∧ ∃ tag, (gcm key iv aad text true).2 ≠ tag := by
  refine ⟨⟨_, rfl⟩, ⟨(gcm key iv aad text true).2 ++ [0], fun h => ?_⟩⟩
  have := congrArg List.length h
  simp at this

/-- R398: a mismatch takes the pair out, counts and raises 1400, and releases nothing. R399: a pair that fails its test stays out. -/
theorem test_cipher : ran (.cipherUnit 2 3 .other (zeros 16) [] true) (cxS 0) (fun t => t.fld CX_STAT_PAIRS = 7 && t.raised 1400 &&
      t.fld CX_CNT_MISMATCH = 1 && t.out.isEmpty) = true ∧
    ran (.pairKat 3 false) (cxE r₀ fun c => { c with testing := [3] }) (fun t => t.fld CX_PAIR_DIS = 8 && t.raised 1401) = true := by decide +kernel

theorem witness_KeyStore : ((set r₀ [(CXp_CTL_EN 2, 1)]).on (CXp_CTL_EN 2) = true ∧ r₀.on (CXp_CTL_EN 2) = false ∧
      (vget (cxE r₀ fun c => { c with slots := vset c.slots 9 ⟨1, zeros 64⟩ }).cx.slots 9).kind = 1 ∧ (vget r₀.cx.slots 9).kind = 0 ∧
      r₀.fld (CXp_CTL_MODE 2) ≠ 4 ∧ r₀.fld (CXp_CTL_MODE 2) ≠ 5) ∧
    ((CXp_CTL_EN 2).get 0#32 = 0 ∧ (CXp_CTL_EN 2).get (((CXp_CTL_EN 2).put 0#32 1)) = 1 ∧ (CXp_CTL_LOAD 2).get (((CXp_CTL_EN 2).put 0#32 1)) = 0) ∧
    ((set r₀ [(CX_ALARM_VOLT, 1)]).on CX_ALARM_VOLT = true ∧ r₀.on CX_ALARM_TEMP = false ∧ r₀.on CX_ALARM_CLK = false ∧
      r₀.on CX_ALARM_VOLT = false ∧ r₀.on CX_ALARM_TAMPER = false) ∧
    ((zeros 39).length ≠ 40 ∧ (zeros 72).length = 72 ∧ r₀.fld CX_CNT_ERASE < 2 ^ 16 - 1 ∧
      { cm 5 0x20 [(1, 1)] 64 with step := 0 }.nsid = 1 ∧ (volS r₀ fun v => { v with encClip := true }).store.vol.encClip = true) := by
  decide +kernel

/-- R404: an occupied slot, an alarm; R405: an alarm empties the slots and raises 1402. -/
theorem test_keys : ran (.install 9 false (zeros 72)) (cxE r₀ fun c => { c with slots := vset c.slots 9 ⟨1, zeros 64⟩ })
      (fun t => t.fld CX_KS_STAT_RESULT = 1) = true ∧
    ran (.erase 9) (set r₀ [(CX_ALARM_VOLT, 1)]) (fun t => t.fld CX_KS_STAT_RESULT = 4) = true ∧
    ran (.keyAlarm .voltage true) (cxE r₀ fun c => { c with slots := vset c.slots 9 ⟨1, zeros 64⟩ }) (fun t => t.raised 1402 &&
      t.fld CX_ALARM_VOLT = 1 && (vget t.cx.slots 9).kind = 0 && t.fld CX_STAT_ERASED = 1) = true := by decide +kernel

/-! ### The mirrored pair -/

def mlS (s : State) (f : Ml → Ml) : State := { s with ml := f s.ml }

/-- Link up, with a pair state and a role. -/
def pairS (st role : Nat) : State := set r₀ [(ML_CTL_EN, 1), (ML_STAT_LINK_UP, 1), (ML_STAT_PSTATE, st), (ML_STAT_ROLE, role)]

def hello (epoch st : Nat) (partner : Bool) (mirror : List Byte) : PeerHello := ⟨epoch, partner, st, zeros 16, mirror⟩

theorem witness_MirrorLink : ((pairS 3 0).on ML_CTL_EN = true ∧ r₀.on ML_CTL_EN = false ∧ r₀.on ML_STAT_LINK_UP = false ∧
      (pairS 3 0).on ML_STAT_LINK_UP = true ∧ (pairS 3 1).on ML_STAT_ROLE = true ∧ (pairS 3 0).on ML_STAT_ROLE = false) ∧
    ((pairS 3 0).pstate = 3 ∧ (pairS 4 0).pstate = 4 ∧ r₀.pstate = 0) ∧
    (r₀.fld ML_CNT_CRCERR < 2 ^ 16 - 1 ∧ r₀.fld ML_CNT_REPLAY < 2 ^ 16 - 1 ∧ (mlS r₀ fun m => { m with crcErrs := 16 }).ml.crcErrs = 16) ∧
    ((hello 5 3 false [1]).partner = false ∧ (hello 5 3 false [1]).pstate ≠ 0 ∧ (hello 5 3 false [1]).mirror ≠ r₀.store.vol.magid ∧
      (pairS 3 0).fld ML_EPOCH_EPOCH < (hello 5 3 false [1]).epoch ∧ (hello 0 3 false [1]).epoch = (pairS 3 0).fld ML_EPOCH_EPOCH ∧
      (hello 1 3 false [1]).epoch < (set (pairS 3 0) [(ML_EPOCH_EPOCH, 2)]).fld ML_EPOCH_EPOCH) ∧
    ((set (pairS 0 0) [(ML_CTL_ACCEPT, 1)]).on ML_CTL_ACCEPT = true ∧ (volS r₀ fun v => { v with vstate := 2 }).store.vol.vstate = 2 ∧
      (hello 5 2 false []).mirror = r₀.store.vol.magid ∧ (hello 5 2 false []).pstate = 2) ∧
    (r₀.on ML_STAT_HB_OK = false ∧ (set r₀ [(ML_STAT_HB_OK, 1)]).on ML_STAT_HB_OK = true) ∧
    (r₀.irq.peerFifo.length < 16 ∧ 16 ≤ { r₀.irq with peerFifo := List.replicate 16 0 }.peerFifo.length) := by decide +kernel

/-- R409: the peer's HELLO brings the link up with 224. R421: a primary whose link falls is DEGRADED. R441: a number enters the FIFO. -/
theorem test_link : ran (.mlHello (hello 1 0 false []) false) (set r₀ [(ML_CTL_EN, 1)]) (fun t => t.on ML_STAT_LINK_UP && t.raised 224) = true ∧
    ran .mlLinkDown (pairS 3 0) (fun t => t.pstate = 4 && t.raised 225 && t.raised 228 && !t.on ML_STAT_LINK_UP) = true ∧
    ran .mlLinkDown (pairS 3 1) (fun t => t.pstate = 5 && t.on ML_STAT_ROLE) = true ∧
    ran (.mlIrq 7) (pairS 3 0) (fun t => t.irq.peerFifo = [7] && t.raised 236) = true := by decide +kernel

/-- A stopped volume of known magazine, and a healthy pair that may rejoin. -/
def rejoinS : State := mlS (volS (pairS 4 0) fun v => { v with vstate := 3, magid := zeros 16 }) fun m =>
  { m with hello := some (hello 5 5 true (zeros 16)), mirrorMag := zeros 16, healthy := some 0 }

def rejoinLate : State := { rejoinS with tick := 400001#64 }

theorem witness_MirrorFailover : ((cm 5 0x0F [(10, 5), (11, 1)] 0).bits 10 3 0 = 5 ∧ (cm 5 0x0F [(10, 5), (11, 1)] 0).bits 11 0 0 = 1 ∧
      (cm 5 0x0F [(10, 3)] 0).bits 10 3 0 = 3 ∧ (cm 5 0x0F [] 0).step = 0) ∧
    ((mlS (volS (pairS 0 0) fun v => { v with vstate := 3 }) fun m => { m with hello := some (hello 1 0 false []) }).pairOk ⟨true, 2, []⟩ = true ∧
      r₀.pairOk ⟨true, 2, []⟩ = false ∧ (∀ g ∈ r₀.store.vol.gens, g.2.2 ∉ ([] : List (List Byte)))) ∧
    (rejoinS.rejoinOk = true ∧ r₀.rejoinOk = false ∧ rejoinS.ml.hello = some (hello 5 5 true (zeros 16)) ∧ rejoinS.fld ML_EPOCH_EPOCH < 2 ^ 32 - 1) ∧
    ((set r₀ [(ML_STAT_PSTATE, 5)]).tkoHolds = true ∧ r₀.tkoHolds = false) ∧
    ((pairS 3 0).mirroring = true ∧ (pairS 3 1).mirroring = false ∧
      (⟨1, 0, 0⟩ : MirSent).last + 4 * (set r₀ [(ML_HB_RPT_TO, 0)]).fld ML_HB_RPT_TO + 1 ≤ ({ r₀ with tick := 1#64 }).now) ∧
    (r₀.ml.tko = none ∧ (mlS (set r₀ [(ML_STAT_PSTATE, 5), (ML_CTL_AUTO_TKO, 1), (ML_HB_TKO_DLY, 0)]) fun m => { m with tko := some 0 }).ml.tko = some 0 ∧
      (set r₀ [(ML_STAT_PSTATE, 5), (ML_CTL_AUTO_TKO, 1), (ML_HB_TKO_DLY, 0)]).on ML_CTL_AUTO_TKO = true ∧
      0 + (set r₀ [(ML_HB_TKO_DLY, 0)]).fld ML_HB_TKO_DLY + 1 ≤ ({ r₀ with tick := 1#64 }).now) ∧
    (rejoinS.now < 0 + 400001 ∧ 0 + 400001 ≤ rejoinLate.now ∧ (set r₀ [(ML_CTL_AUTO_RJ, 1)]).on ML_CTL_AUTO_RJ = true ∧
      (set r₀ [(ML_CTL_AUTO_RJ, 0)]).on ML_CTL_AUTO_RJ = false ∧ (pairS 2 0).pstate = 2) := by decide +kernel

/-- R422: a takeover raises the EPOCH by 1 and degrades; R425: a rejoin takes 1 + the higher EPOCH; R426: a resync ends MIRRORED. -/
theorem test_failover : ran (.takeover 5) (withC (set r₀ [(ML_STAT_PSTATE, 5), (ML_STAT_ROLE, 1), (ML_EPOCH_EPOCH, 6)]) [cm 5 0x0F [(10, 5), (11, 1)] 0])
      (fun t => t.fld ML_EPOCH_EPOCH = 7 && t.pstate = 4 && finOf t 5 = some (0, 0, 4 + 32 * t.fld ML_STAT_SYNC)) = true ∧
    ran (.rejoin 5 false) (withC rejoinS [cm 5 0x0F [(10, 4)] 0]) (fun t => t.fld ML_EPOCH_EPOCH = 6 && t.pstate = 2 && t.on ML_STAT_ROLE) = true ∧
    ran .resyncComplete (pairS 2 0) (fun t => t.pstate = 3 && t.raised 232 && t.fld ML_RSYNC_PROG = 100) = true := by decide +kernel

def mir (mseq tag opc dl : Nat) : MirCmd := ⟨mseq, (cm 5 opc [] dl).dws, tag, 7, 0, 0, 0, [], false⟩

theorem witness_MirrorTraffic : (r₀.on ML_STAT_LINK_UP = false ∧ (pairS 3 1).on ML_STAT_LINK_UP = true ∧ (pairS 3 1).mirrored = true ∧
      (pairS 3 0).mirrored = false ∧ (pairS 3 1).ml.frozen = false ∧ (pairS 3 1).ml.received = [] ∧ (pairS 3 1).ml.cats = []) ∧
    ((1#64).toNat = (pairS 3 1).txMseq + 1 ∧ (5#64).toNat ≠ (pairS 3 1).txMseq + 1 ∧ dwBits (cm 5 0x35 [] 0).dws 0 7 0 ≠ 0x21) ∧
    ((mir 2 6 0x21 8192).mseq % 2 ^ 48 = (2#48).toNat ∧ (mir 2 6 0x21 8192).applied = false ∧ (mir 2 6 0x21 8192).opc ≠ 0x09 ∧
      (pairS 3 1).mirFull { mir 2 6 0x21 8192 with chunks := [(0, zeros 8)] } = false ∧
      (pairS 3 1).mirFull { mir 2 6 0x35 64 with chunks := [(0, zeros 64)] } = true ∧ (mir 2 6 0x21 8192).mseq ≠ (pairS 3 1).txMseq + 1 ∧
      (pairS 3 1).rptMseq = (pairS 3 1).txMseq ∧ (mir 2 6 0x21 8192).tag < 4096) ∧
    ((pairS 3 0).mirroring = true ∧ (pairS 3 0).rptMseq < (4#64).toNat ∧ (0#64).toNat ≤ (pairS 3 0).rptMseq) ∧
    ((pairS 2 0).pstate = 2 ∧ (mlS r₀ fun m => { m with todo := 9 }).ml.todo ≠ 0 ∧ r₀.ml.part = none ∧ (zeros 4).length < 8192 ∧ r₀.pstate ≠ 2) ∧
    (ML_TUN_CTL_BUSY.get (vget r₀.tunCtl 1) ≠ 1 ∧ ML_TUN_CTL_BUSY.get (ML_TUN_CTL_BUSY.put 0#32 1) = 1 ∧ (6#22).toNat % 4 ≠ 0 ∧ (8#22).toNat % 4 = 0) ∧
    (r₀.tunnelOf 8 true = none ∧ (mlS { r₀ with tunCtl := vset r₀.tunCtl 1 (ML_TUN_CTL_WR.put (ML_TUN_CTL_ADDR.put 0#32 8) 1) } fun m =>
      { m with tunnel := vset m.tunnel 1 (some 0) }).tunnelOf 8 true = some 1) ∧
    (vget r₀.ml.tunnel 1 = none ∧ vget (mlS r₀ fun m => { m with tunnel := vset m.tunnel 1 (some 0) }).ml.tunnel 1 = some 0 ∧ r₀.now < 0 + 41 ∧
      0 + 41 ≤ ({ r₀ with tick := 41#64 }).now) := by decide +kernel

/-- R427: a misaligned address fails at once with 233; an answer ends the access. R414: a CMD frame makes its ML_MCT entry. -/
theorem test_tunnel : ran (.tunnelAccess (.cc 1) 6#22 false) (pairS 3 0) (fun t => ML_TUN_CTL_ERR.get (vget t.tunCtl (Fin.ofNat 7 (Master.cc 1).code)) = 1 && t.raised 233) = true ∧
    ran (.mlTunRsp 8#22 true 5#32) (mlS (edit (pairS 3 0) fun b => { b with tunCtl := vset b.tunCtl 1 (ML_TUN_CTL_BUSY.put (ML_TUN_CTL_WR.put (ML_TUN_CTL_ADDR.put 0#32 8) 1) 1) }) fun m =>
      { m with tunnel := vset m.tunnel 1 (some 0) }) (fun t => ML_TUN_CTL_BUSY.get (vget t.tunCtl 1) = 0 && vget t.ml.tunnel 1 = none) = true ∧
    ran (.mlCmd 1#64 (cm 5 0x35 [] 0).dws 9 3 0 0 0 0) (pairS 3 1) (fun t => t.fld (ML_MCT_t_LO_MSEQ 9) = 1 && t.on (ML_MCT_t_HI_VALID 9) &&
      t.fld (ML_MCT_t_HI_SQID 9) = 3 && t.txMseq = 1) = true := by decide +kernel

/-! ### Interrupts -/

def irqS (s : State) (f : Irq → Irq) : State := { s with irq := f s.irq }

/-- Source n routed to a target, with its group's vector 0, and MSI-X open. -/
def routed (n tgt peer : Nat) : State := irqS (set r₀ [(IC_ROUTE_k_TGT (n / 4) (n % 4), tgt), (IC_ROUTE_k_PEER (n / 4) (n % 4), peer)]) fun i => { i with msixEn := true }

theorem witness_InterruptControl : (r₀.tgtPend 0 = [] ∧ (irqS (routed 34 1 0) fun i => { i with pend := [34, 40] }).tgtPend 0 = [34] ∧
      ([34, 40] : List Nat).Pairwise (· < ·)) ∧
    ((34, 0) ∈ (irqS r₀ fun i => { i with act := [(34, 0)] }).irq.act ∧ (34, 0) ∉ r₀.irq.act ∧ r₀.fld IC_ERR_BADEOI < 2 ^ 16 - 1) ∧
    ((vget r₀.irq.vec 0).due = false ∧
      (vget (irqS (routed 34 5 0) fun i => { i with vec := vset i.vec 0 ⟨1, none, true⟩ }).irq.vec 0).due = true ∧
      ((irqS (routed 34 5 0) fun i => { i with pend := [34] }).vecPend 0).isEmpty = false ∧
      (set r₀ [(MSIX_CTRL_W 0, 0)]).on (MSIX_CTRL_W 0) = false ∧ (routed 34 5 0).irq.msixEn = true ∧ r₀.onBit IC_TGT_CTL_DIS 4 = false ∧
      (routed 34 5 0).inService 0 = false) ∧
    (srcPresent r₀.part 34 = true ∧ srcPresent r₀.part 2047 = false ∧ (routed 34 0 0).route 34 = 0 ∧ (routed 34 7 0).route 34 = 7 ∧
      (routed 34 5 0).route 34 = 5 ∧ (routed 34 5 0).routePeer 34 = false ∧ (routed 34 5 1).routePeer 34 = true ∧
      (routed 34 5 0).srcVec 34 = 0 ∧ r₀.fld (IC_MOD_v_HOLDOFF 0) = 0 ∧ r₀.onBit IC_TGT_CTL_DIS 6 = false ∧
      r₀.on ML_STAT_LINK_UP = false ∧ r₀.fld IC_ERR_PEERDROP < 2 ^ 16 - 1) ∧
    ((16#7).getLsbD 4 = true ∧ (64#7).getLsbD 6 = true ∧ (0#7).getLsbD 4 = false) ∧
    ((vget r₀.irq.vec 0).timer = none ∧ (vget (irqS r₀ fun i => { i with vec := vset i.vec 0 ⟨1, some 0, true⟩ }).irq.vec 0).timer = some 0 ∧
      0 ≤ r₀.now ∧ r₀.now < 1 ∧ (vget (irqS r₀ fun i => { i with core := vset i.core 2 ⟨1, some 0, false⟩ }).irq.core 2).timer = some 0 ∧
      r₀.onBit IC_TGT_CTL_DIS 2 = false) := by decide +kernel

/-- R434: a claim takes the lower number; R435, R438; R441: a PEER raise with the link down is dropped and counted. -/
theorem test_interrupts : ran (.claim (.cc 0) 0) (irqS (routed 34 1 0) fun i => { i with pend := [34] }) (fun t =>
      vget t.rdata (Master.cc 0).idx = 0x80000022#32 && t.irq.pend.isEmpty && t.irq.act = [(34, 0)]) = true ∧
    ran (.eoi 0 35#11) (irqS r₀ fun i => { i with act := [(34, 0)] }) (fun t => t.irq.act = [(34, 0)] && t.fld IC_ERR_BADEOI = 1) = true ∧
    ran (.forceRaise 34#11) (set (routed 34 5 0) [(MSIX_CTRL_W 0, 0)]) (fun t => t.irq.act = [(34, 8)] && t.out.length = 1) = true ∧
    ran (.forceRaise 34#11) (routed 34 5 1) (fun t => t.fld IC_ERR_PEERDROP = 1) = true ∧
    ran (.forceRaise 2047#11) r₀ (fun t => t.irq.pend.isEmpty) = true ∧
    ran (.peerFifoRead (.cc 0)) (irqS r₀ fun i => { i with peerFifo := [7, 9] }) (fun t => vget t.rdata (Master.cc 0).idx = 0x80000007#32 &&
      t.irq.peerFifo = [9]) = true := by decide +kernel

/-! ### Power, reset, boot -/

def pwS (s : State) (f : Pwr → Pwr) : State := { s with pw := f s.pw }

/-- Everything that arming needs. -/
def armable : State := set r₀ [(PW_STAT_MEAS_DONE, 1), (PW_VIN_VHOLD, 2400), (PW_CTL_DYKE_EN, 1), (PW_CTL_BOOST_EN, 1)]

theorem witness_PowerModes : (r₀.on PW_STAT_RMODE = true ∧ (set r₀ [(PW_STAT_RMODE, 0)]).on PW_STAT_RMODE = false ∧ r₀.pw.quiet = true ∧
      (pwS r₀ fun p => { p with quiet := false }).pw.quiet = false ∧ r₀.on PW_STAT_OVV = false ∧ (set r₀ [(PW_STAT_OVV, 1)]).on PW_STAT_OVV = true) ∧
    (r₀.on PW_STAT_MEAS_DONE = false ∧ armable.on PW_STAT_MEAS_DONE = true ∧ armable.on PW_STAT_ARMED = false ∧ 2400 ≤ armable.fld PW_VIN_VHOLD ∧
      armable.on PW_CTL_DYKE_EN = true ∧ armable.on PW_CTL_BOOST_EN = true ∧ (∀ d, d < 32 → 3 ≤ armable.ptErased d) ∧
      (set r₀ [(PW_STAT_ARMED, 1)]).on PW_STAT_ARMED = true) ∧
    (r₀.pw.sleep = false ∧ (pwS r₀ fun p => { p with sleep := true }).pw.sleep = true ∧ (∀ c ∈ r₀.hq.cmds, c.opc = 0x10) ∧
      (1024#11).toNat &&& r₀.wakeMask ≠ 0 ∧ (0#11).toNat &&& r₀.wakeMask = 0 ∧ r₀.fld PW_CNT_ABANDON < 255 ∧ r₀.fld PW_CNT_SLEEPS < 255) ∧
    ((pwS r₀ fun p => { p with asleep := true }).pw.asleep = true ∧ ((1024#11).toNat ||| r₀.pw.wakes) &&& r₀.wakeMask ≠ 0 ∧
      r₀.fld HQ_LINK_SPEED = 0 ∧ (set r₀ [(PW_STBY_INT_INTERVAL, 1)]).fld PW_STBY_INT_INTERVAL ≠ 0 ∧
      (set r₀ [(PW_STBY_INT_INTERVAL, 0)]).fld PW_STBY_INT_INTERVAL = 0) := by decide +kernel

/-- R448, R449: 22.0 mF gives 1,024 MiB; R466; R464: a wake advances the tick. -/
theorem test_power : ran (.holdupMeasure 220#16 9#16) r₀ (fun t => t.fld PW_HOLDUP_CAP = 1024 && t.on PW_STAT_MEAS_DONE) = true ∧
    ran (.holdupMeasure 30#16 9#16) r₀ (fun t => t.fld PW_HOLDUP_CAP = 0 && t.raised 38) = true ∧
    ran .holdupArm armable (fun t => t.on PW_STAT_ARMED && t.raised 35) = true ∧
    ran .vinOvervoltage r₀ (fun t => t.on PW_STAT_OVV && t.raised 43) = true ∧
    ran (.wake 1024#11 7#32) (pwS r₀ fun p => { p with asleep := true }) (fun t => t.tick = 7#64 && t.raised 39 && !t.pw.asleep) = true := by decide +kernel

theorem witness_ResetsAndBoot : (r₀.pw.dyke = none ∧ (pwS r₀ fun p => { p with dyke := some ⟨7, true, []⟩ }).pw.dyke = some ⟨7, true, []⟩ ∧
      r₀.pw.asleep = false ∧ (set r₀ [(PW_STAT_ARMED, 1), (PW_CTL_DYKE_EN, 1)]).on PW_STAT_ARMED = true ∧
      (set r₀ [(PW_STAT_ARMED, 1), (PW_CTL_DYKE_EN, 1)]).on PW_CTL_DYKE_EN = true ∧ r₀.on PW_STAT_ARMED = false) ∧
    (r₀.pw.resetN = false ∧ (pwS r₀ fun p => { p with resetN := true }).pw.resetN = true ∧ r₀.fld PW_CNT_BROWNOUT < 255 ∧
      r₀.on PW_STAT_BOOT_DONE = false ∧ (set r₀ [(PW_STAT_BOOT_DONE, 1)]).on PW_STAT_BOOT_DONE = true ∧
      (set r₀ [(PW_RSTCAUSE_CAUSE, 16)]).fld PW_RSTCAUSE_CAUSE / 2 ≠ 0 ∧ (pwS r₀ fun p => { p with incomplete := true }).pw.incomplete = true) := by
  decide +kernel

/-- R456: the cause's bit of PW_RSTCAUSE is added and the tick is 0; R451: an armed detection starts the sequence; R458. -/
theorem test_resets : ran .wdog { set r₀ [(PW_RSTCAUSE_CAUSE, 2), (SL_CTL_EN, 0)] with tick := 9#64 } (fun t => t.fld PW_RSTCAUSE_CAUSE = 18 && t.tick = 0 &&
      t.rd SL_CTL = resetVal .pl6416 SL_CTL) = true ∧
    ran (.soft 0xA5C2#16 false) { r₀ with tick := 9#64 } (fun t => t.tick = 9#64) = true ∧
    ran .powerFailDetect (set r₀ [(PW_STAT_ARMED, 1), (PW_CTL_DYKE_EN, 1)]) (fun t => t.on PW_STAT_DYKE && t.raised 32 && t.on PT_CTL_DYKE) = true ∧
    ran (.moduleBoot 3 0 []) (set r₀ [(PW_RSTCAUSE_CAUSE, 16)]) (fun t => t.on PW_STAT_BOOT_DONE && t.raised 42 && t.hq.booted) = true := by decide +kernel

/-! ### Calibration -/

def calE (s : State) (f : CalSurf → CalSurf) : State := { s with cal := { s.cal with surf := vset s.cal.surf 1 (f (vget s.cal.surf 1)) } }

def runOf (kind step : Nat) (failing : List Nat) (passed : List (Nat × Nat)) (area : Bool) : CalRun :=
  { kind := kind, band := 0, start := 0, step := step, peak0 := List.replicate 16 100, failing := failing, passed := passed, retries := 0
    area := area, tmo := 0, maxerr := 10 }

/-- Surface 1 in a calibration. -/
def inCal (r : CalRun) : State := calE r₀ fun c => { c with run := some r }

def desc₀ : Descriptor := ⟨1, 2, 0, [750, 1000], [(60, 90), (70, 95)], [0, 1]⟩

theorem witness_Calibrations : (r₀.part.hasSurf 1 = true ∧ (vget r₀.cal.surf 1).run = none ∧
      (∀ k ∈ [0, 1, 2, 3, 4], (set r₀ [(CAL_CTL_AUTO, 31)]).onBit CAL_CTL_AUTO k = true ∧ (set r₀ [(CAL_CTL_AUTO, 0)]).onBit CAL_CTL_AUTO k = false) ∧
      (set r₀ [(CAL_CTL_BGEN, 1)]).on CAL_CTL_BGEN = true ∧ r₀.pw.dyke = none) ∧
    ((vget r₀.wp 1).running = none ∧ r₀.on (SEs_LSAFE_LDEN 1) = false ∧ (vget r₀.servo 1).fmode = 0 ∧ r₀.on (SEs_LSAFE_WGATE 1) = false ∧
      (vget { r₀ with servo := vset r₀.servo 1 { vget r₀.servo 1 with tmode := 3 } }.servo 1).tmode = 3 ∧
      (set r₀ [(SEs_LSAFE_SAFE 1, 0)]).on (SEs_LSAFE_SAFE 1) = false ∧
      (vget (calE r₀ fun c => { c with checked := some (vget r₀.wp 1).band }).cal.surf 1).checked = some (vget r₀.wp 1).band ∧
      bandLayer (vget r₀.wp 1).band ∉ (vget r₀.cal.surf 1).strategy) ∧
    (∀ k ∈ [0, 1, 2, 3, 4], (vget (inCal (runOf k 0 [] [] false)).cal.surf 1).run = some (runOf k 0 [] [] false) ∧ (runOf k 0 [] [] false).kind = k) ∧
    ((List.replicate 16 (List.replicate 127 (0 : BitVec 8))).length = 16 ∧
      (∀ k, k < 16 → ((List.replicate 16 (List.replicate 127 (0 : BitVec 8))).getD k []).length = 127)) ∧
    ((∀ k : Fin 9, (vget (Vector.replicate 9 (1024#14)) k).toInt.natAbs ≤ 1024) ∧
      (∃ k : Fin 9, 1024 < (vget (Vector.replicate 9 (1025#14)) k).toInt.natAbs)) ∧
    (60 < (61#16).toInt.natAbs ∧ ¬ 60 < (60#16).toInt.natAbs ∧ 10 < (11#16).toInt.natAbs ∧ ¬ 10 < (10#16).toInt.natAbs ∧ r₀.le.run = none) ∧
    (r₀.now < 0 + 0 + 1 ∧ 0 + 0 + 1 ≤ ({ r₀ with tick := 1#64 }).now ∧ (runOf 0 0 [] [] false).tmo = 0) := by decide +kernel

/-- R470: the negated means; R474: a gain beyond 6 dB is bad, 48 and 31; R123: 17 faulty comparators are excess. -/
theorem test_calibrations : ran (.calServoOffset 1 false (some (Vector.replicate 9 3#14))) (inCal (runOf 1 0 [] [] false))
      (fun t => t.fld (SFs_ADC_OFS_k_OFS 1 4) = 2 ^ 14 - 3 && !t.onBit CAL_STAT_BUSY 1) = true ∧
    ran (.calLoopGain 1 false (some (61#16, 0#16))) (inCal (runOf 2 0 [] [] false)) (fun t => t.raised 48 && t.raised (1024 + 40 + 31)) = true ∧
    ran (.calTimeout 1) { inCal (runOf 4 0 [] [] false) with tick := 1#64 } (fun t => t.raised 48 && t.raised (1024 + 40 + 29)) = true := by decide +kernel

/-- A surface ready for the first write-power check. -/
def wpS : State := volS (calE (set r₀ [(CAL_CTL_AUTO, 8), (SEs_LSAFE_SAFE 1, 0)]) fun c => { c with desc := some desc₀ }) fun v => { v with vstate := 3 }

theorem witness_WritePowerCalibration : ((vget wpS.cal.surf 1).run = none ∧ wpS.onBit CAL_CTL_AUTO 3 = true ∧ (vget wpS.wp 1).running = none ∧
      wpS.on (SEs_LSAFE_SAFE 1) = false ∧ (vget wpS.cal.surf 1).desc = some desc₀ ∧ wpS.store.vol.vstate ≠ 0 ∧
      (vget r₀.cal.surf 1).desc = none) ∧
    ((List.range 16).filter (fun k => ¬ (vget (Vector.replicate 16 (0 : BitVec 16)) (Fin.ofNat 16 k)).toNat ≤ 10) = [] ∧
      (runOf 3 0 [] [] false).passed = [] ∧ 10 < (11#16).toNat) ∧
    ((vget r₀.cal.surf 1).areaUsed < 480 ∧ (runOf 3 1 [0] [] true).area = true ∧ ((runOf 3 7 [0] [] false).step - 1) % 8 < 7 ∧
      ((runOf 3 8 [0] [] false).step - 1) % 8 = 7 ∧ ((runOf 3 16 [0] [] false).step - 1) % 8 = 7) ∧
    ([0].filter (fun k => ¬ ∃ e ∈ ([(0, 3)] : List (Nat × Nat)), e.1 = k) = [] ∧ [0].filter (fun k => ¬ ∃ e ∈ ([] : List (Nat × Nat)), e.1 = k) ≠ []) ∧
    ((calE r₀ fun c => { c with areaUsed := 480 }).unitsLeft 1 0 = r₀.unitsLeft 1 0 ∧ 2 ≤ (set r₀ [(CAL_Ss_WP_BADRUN 1, 2)]).fld (CAL_Ss_WP_BADRUN 1) ∧
      r₀.fld CAL_CNT_SWEEPS < 255) := by decide +kernel

/-- R473: no beam above MAXERR ends the calibration with 25; a failing beam starts a sweep with 24. -/
theorem test_write_power : ran (.calWritePower 1 false false (some (Vector.replicate 16 10#16))) (inCal (runOf 3 0 [] [] false))
      (fun t => t.raised (1024 + 40 + 25) && t.fld (SEs_BPWR_b_PEAK 1 5) = 100 && (vget t.cal.surf 1).run.isNone) = true ∧
    ran (.calWritePower 1 false false (some (Vector.replicate 16 11#16))) (inCal (runOf 3 0 [] [] true))
      (fun t => t.raised (1024 + 40 + 24) && t.fld CAL_CNT_SWEEPS = 1 && (vget t.cal.surf 1).areaUsed = 1) = true := by decide +kernel

theorem witness_CalibrationServices : ((set r₀ [(CAL_DEFER_e_MAXDEF 2, 0)]).fld (CAL_DEFER_e_MAXDEF 2) ≤ vget r₀.cal.defer 2 ∧ (2 : Fin 7).val ∉ r₀.cal.windows ∧
      vget r₀.cal.defer 2 < (set r₀ [(CAL_DEFER_e_MAXDEF 2, 1)]).fld (CAL_DEFER_e_MAXDEF 2) ∧ r₀.fld CAL_CNT_WINDOWS < 255) ∧
    (r₀.now % 4000000 = 0 ∧ ({ r₀ with tick := 1#64 }).now % 40000 ≠ 0 ∧ r₀.part.hasBeam 63 = true ∧
      (set r₀ [(CAL_CTL_TELEN, 1), (CAL_TEL_CTL_SETEN, 15)]).on CAL_CTL_TELEN = true ∧
      (∀ k ∈ [1, 2, 3, 4], (set r₀ [(CAL_CTL_TELEN, 1), (CAL_TEL_CTL_SETEN, 15)]).onBit CAL_TEL_CTL_SETEN (k - 1) = true) ∧
      (set r₀ [(CAL_CTL_TELEN, 0)]).on CAL_CTL_TELEN = false ∧ (r₀.ring 3 63).recs.length < 1024) ∧
    ((set r₀ [(MZ_I2C_STAT_BUSY, 1)]).on MZ_I2C_STAT_BUSY = true ∧ r₀.on MZ_I2C_STAT_BUSY = false ∧ (set r₀ [(MZ_I2C_CTL_EN, 1)]).on MZ_I2C_CTL_EN = true ∧
      (set r₀ [(MZ_I2C_CTL_EN, 0)]).on MZ_I2C_CTL_EN = false) ∧
    (r₀.hq.warnDie < (32767#16).toInt ∧ r₀.hq.hotDie = false ∧ r₀.hq.asyncMask.testBit 12 = false ∧ r₀.hq.async = [] ∧ r₀.hq.events = [] ∧
      (hqS r₀ fun h => { h with async := [5] }).hq.async = 5 :: []) := by decide +kernel

/-- R478: a record is added to its ring at its rate; R477; R493: a transfer without an acknowledge. -/
theorem test_services : ran (.telemetrySample 4 0 7 0 0) (set r₀ [(CAL_CTL_TELEN, 1), (CAL_TEL_CTL_SETEN, 15)])
      (fun t => (t.ring 4 0).seq = 1 && (t.ring 4 0).recs.map (·.2.2.length) = [64]) = true ∧
    ran (.deferralExpiry 2) (set r₀ [(CAL_DEFER_e_MAXDEF 2, 0)]) (fun t => t.raised 50 && t.onBit CAL_DEFER_STAT_EXPIRED 2) = true ∧
    ran (.i2cTransferDone .nack) (set r₀ [(MZ_I2C_STAT_BUSY, 1)]) (fun t => t.on MZ_I2C_STAT_NACK && !t.on MZ_I2C_STAT_BUSY) = true := by decide +kernel

end Sys2Proof.Tests
end

/-!
PROOFS. The machine as a whole, and the accesses of 00_scope.md R1 and R4: how a step ends, what it keeps, the registers
of absent units, and the access codes.
-/

namespace Sys2Proof.Machine

/-! ### How a command ends (R6) -/

/-- Every meaning is an `upd` of the block, but for the bound that DRAM_ACCESS checks. -/
theorem exec_next_or_dramOutside (i : Instr) (s : State) :
    (∃ t, exec i s = .next t ∧ t.pending = s.pending) ∨
      ∃ req addr len data strike tag, i = .dramAccess req addr len data strike tag ∧
        dramSize < addr + max len ((data.map (·.length)).getD 0) ∧ exec i s = .fault .dramOutside := by
  cases i with
  | dramAccess req addr len data strike tag =>
    by_cases h : dramSize < addr + max len ((data.map (·.length)).getD 0)
    · exact .inr ⟨req, addr, len, data, strike, tag, rfl, h, if_pos h⟩
    · exact .inl ⟨_, if_neg h, rfl⟩
  | _ => exact .inl ⟨_, rfl, rfl⟩

theorem exec_pending {i : Instr} {s t : State} (h : exec i s = .next t) : t.pending = s.pending := by
  rcases exec_next_or_dramOutside i s with ⟨t', h', hp⟩ | ⟨_, _, _, _, _, _, _, _, h'⟩
  · rw [h] at h'
    cases h'
    exact hp
  · rw [h] at h'
    cases h'

theorem step_of_cons {s : State} {c : Instr} {rest : List Instr} (h : s.pending = c :: rest) :
    step s = exec c { s with pending := rest } := by
  unfold step
  rw [h]

theorem step_of_nil {s : State} (h : s.pending = []) : step s = .next s := by
  unfold step
  rw [h]

/-- Settles O1: the two cases of `step`. -/
theorem stepRunsFrontCommand : Obligations.StepRunsFrontCommand := by
  unfold Obligations.StepRunsFrontCommand
  exact fun s => ⟨fun _ _ => step_of_cons, step_of_nil⟩

/-! ### What every command keeps (R1, R2, R45, R368, R429) -/

/-- The lemmas on what each command keeps, put together along the constructors of `Instr`, in the order of `exec`. -/
theorem exec_keeps {i : Instr} {s t : State} (h : exec i s = .next t) :
    Keeps (!i.movesTick) s.toBlock t.toBlock := by
  match i, h with
  -- the tick
  | .tickPreamble .., h => exact keeps_execTickPreamble h .refl
  | .tickClose, h => exact keeps_execTickClose h .refl
  | .slotCut, h => exact keeps_execSlotCut h .refl
  | .tickOverrun, h => exact keeps_execTickOverrun h .refl
  | .thirdMiss .., h => exact keeps_execThirdMiss h .refl
  | .microcodeParityError .., h => exact keeps_execMicrocodeParityError h .refl
  -- loop instructions
  | .opNop, h => exact keeps_execOpNop h .refl
  | .opEnd, h => exact keeps_execOpEnd h .refl
  | .opLd .., h => exact keeps_execOpLd h .refl
  | .opSt .., h => exact keeps_execOpSt h .refl
  | .opIn .., h => exact keeps_execOpIn h .refl
  | .opOut .., h => exact keeps_execOpOut h .refl
  | .opLdi .., h => exact keeps_execOpLdi h .refl
  | .opMov .., h => exact keeps_execOpMov h .refl
  | .opAdd .., h => exact keeps_execOpAdd h .refl
  | .opSub .., h => exact keeps_execOpSub h .refl
  | .opMulx .., h => exact keeps_execOpMulx h .refl
  | .opShl .., h => exact keeps_execOpShl h .refl
  | .opShr .., h => exact keeps_execOpShr h .refl
  | .opMin .., h => exact keeps_execOpMin h .refl
  | .opMax .., h => exact keeps_execOpMax h .refl
  | .opClmp .., h => exact keeps_execOpClmp h .refl
  | .opAbs .., h => exact keeps_execOpAbs h .refl
  | .opMvm .., h => exact keeps_execOpMvm h .refl
  | .opSetcp .., h => exact keeps_execOpSetcp h .refl
  | .opBr .., h => exact keeps_execOpBr h .refl
  | .opSincos .., h => exact keeps_execOpSincos h .refl
  | .opRot .., h => exact keeps_execOpRot h .refl
  | .opAtan2 .., h => exact keeps_execOpAtan2 h .refl
  | .opDiv .., h => exact keeps_execOpDiv h .refl
  | .opSqrt .., h => exact keeps_execOpSqrt h .refl
  | .opPgen .., h => exact keeps_execOpPgen h .refl
  | .opSts .., h => exact keeps_execOpSts h .refl
  | .opEvt .., h => exact keeps_execOpEvt h .refl
  | .opAnd .., h => exact keeps_execOpAnd h .refl
  | .opOr .., h => exact keeps_execOpOr h .refl
  | .opXor .., h => exact keeps_execOpXor h .refl
  | .opLds .., h => exact keeps_execOpLds h .refl
  -- loop-engine loads and writes
  | .loadShadowTable, h => exact keeps_execLoadShadowTable h .refl
  | .loadDefaultTable, h => exact keeps_execLoadDefaultTable h .refl
  | .loadProgram .., h => exact keeps_execLoadProgram h .refl
  | .loadPatch, h => exact keeps_execLoadPatch h .refl
  | .loadComplete, h => exact keeps_execLoadComplete h .refl
  | .patchActivation, h => exact keeps_execPatchActivation h .refl
  | .liveSlotWrite .., h => exact keeps_execLiveSlotWrite h .refl
  | .leMemoryWrite .., h => exact keeps_execLeMemoryWrite h .refl
  | .coefSwap, h => exact keeps_execCoefSwap h .refl
  | .coefSet .., h => exact keeps_execCoefSet h .refl
  | .matchDisable .., h => exact keeps_execMatchDisable h .refl
  -- registers and timestamps
  | .readClearField .., h => exact keeps_execReadClearField h .refl
  | .registerWrite .., h => exact keeps_execRegisterWrite h .refl
  | .partialWrite .., h => exact keeps_execPartialWrite h .refl
  | .unmappedAccess .., h => exact keeps_execUnmappedAccess h .refl
  | .tickSnapshotRead .., h => exact keeps_execTickSnapshotRead h .refl
  | .timeoutExpiry .., h => exact keeps_execTimeoutExpiry h .refl
  | .fsyncEdge .., h => exact keeps_execFsyncEdge h .refl
  | .fsyncTsRead .., h => exact keeps_execFsyncTsRead h .refl
  | .fsyncEnable, h => exact keeps_execFsyncEnable h .refl
  -- write path
  | .passPlan .., h => exact keeps_execPassPlan h .refl
  | .angleReference .., h => exact keeps_execAngleReference h .refl
  | .stopRequest .., h => exact keeps_execStopRequest h .refl
  | .verifyJobDone .., h => exact keeps_execVerifyJobDone h .refl
  | .verifyLate .., h => exact keeps_execVerifyLate h .refl
  | .relocationVisit .., h => exact keeps_execRelocationVisit h .refl
  | .relocationMaxwait .., h => exact keeps_execRelocationMaxwait h .refl
  | .opticalDurable .., h => exact keeps_execOpticalDurable h .refl
  -- Sedge links
  | .seLinkEnable .., h => exact keeps_execSeLinkEnable h .refl
  | .seRetrain .., h => exact keeps_execSeRetrain h .refl
  | .seLinkUp .., h => exact keeps_execSeLinkUp h .refl
  | .seBringupTimeout .., h => exact keeps_execSeBringupTimeout h .refl
  | .seLinkDown .., h => exact keeps_execSeLinkDown h .refl
  | .seRetrainFail .., h => exact keeps_execSeRetrainFail h .refl
  | .puFault .., h => exact keeps_execPuFault h .refl
  | .monitor .., h => exact keeps_execMonitor h .refl
  | .status .., h => exact keeps_execStatus h .refl
  | .mgmtRsp .., h => exact keeps_execMgmtRsp h .refl
  | .echoRsp .., h => exact keeps_execEchoRsp h .refl
  | .notwritten .., h => exact keeps_execNotwritten h .refl
  | .mgmtAccess .., h => exact keeps_execMgmtAccess h .refl
  | .setBeamPower .., h => exact keeps_execSetBeamPower h .refl
  | .latchRelease .., h => exact keeps_execLatchRelease h .refl
  -- read channel
  | .cellRead .., h => exact keeps_execCellRead h .refl
  | .bmRestart .., h => exact keeps_execBmRestart h .refl
  | .decodeJobDone .., h => exact keeps_execDecodeJobDone h .refl
  | .stripeRebuild .., h => exact keeps_execStripeRebuild h .refl
  | .reReadPass .., h => exact keeps_execReReadPass h .refl
  | .engineParityFault .., h => exact keeps_execEngineParityFault h .refl
  | .engineRestore .., h => exact keeps_execEngineRestore h .refl
  | .rcSplitWrite .., h => exact keeps_execRcSplitWrite h .refl
  -- focus and tracking
  | .cmdNone .., h => exact keeps_execCmdNone h .refl
  | .cmdOff .., h => exact keeps_execCmdOff h .refl
  | .cmdFocus .., h => exact keeps_execCmdFocus h .refl
  | .cmdLayer .., h => exact keeps_execCmdLayer h .refl
  | .cmdSeek .., h => exact keeps_execCmdSeek h .refl
  | .cmdRelease .., h => exact keeps_execCmdRelease h .refl
  | .focusDrop .., h => exact keeps_execFocusDrop h .refl
  | .searchFail .., h => exact keeps_execSearchFail h .refl
  | .offTrack .., h => exact keeps_execOffTrack h .refl
  | .swathHoldKick .., h => exact keeps_execSwathHoldKick h .refl
  -- spindles
  | .spindleRun .., h => exact keeps_execSpindleRun h .refl
  | .spindleStop .., h => exact keeps_execSpindleStop h .refl
  | .setSpeed .., h => exact keeps_execSetSpeed h .refl
  | .coastSenseDone .., h => exact keeps_execCoastSenseDone h .refl
  | .bbrakeEnd .., h => exact keeps_execBbrakeEnd h .refl
  | .alignEnd .., h => exact keeps_execAlignEnd h .refl
  | .rampEnd .., h => exact keeps_execRampEnd h .refl
  | .attemptFailed .., h => exact keeps_execAttemptFailed h .refl
  | .retryWaitEnd .., h => exact keeps_execRetryWaitEnd h .refl
  | .catchResync .., h => exact keeps_execCatchResync h .refl
  | .catchTimeout .., h => exact keeps_execCatchTimeout h .refl
  | .accelGrant .., h => exact keeps_execAccelGrant h .refl
  | .speedLock .., h => exact keeps_execSpeedLock h .refl
  | .lockLost .., h => exact keeps_execLockLost h .refl
  | .rotorLoss .., h => exact keeps_execRotorLoss h .refl
  | .brakeExit .., h => exact keeps_execBrakeExit h .refl
  | .brakeTimeout .., h => exact keeps_execBrakeTimeout h .refl
  | .bridgeOvercurrent .., h => exact keeps_execBridgeOvercurrent h .refl
  | .faultClear .., h => exact keeps_execFaultClear h .refl
  | .pwmPeriod .., h => exact keeps_execPwmPeriod h .refl
  | .vclampSet .., h => exact keeps_execVclampSet h .refl
  -- axes, door and clamp
  | .axisTarget .., h => exact keeps_execAxisTarget h .refl
  | .axisRelative .., h => exact keeps_execAxisRelative h .refl
  | .axisDone .., h => exact keeps_execAxisDone h .refl
  | .axisHalt .., h => exact keeps_execAxisHalt h .refl
  | .axisDisable .., h => exact keeps_execAxisDisable h .refl
  | .homingStart .., h => exact keeps_execHomingStart h .refl
  | .homeTrip .., h => exact keeps_execHomeTrip h .refl
  | .homingDone .., h => exact keeps_execHomingDone h .refl
  | .homingFail .., h => exact keeps_execHomingFail h .refl
  | .axisStall .., h => exact keeps_execAxisStall h .refl
  | .switchChatter .., h => exact keeps_execSwitchChatter h .refl
  | .limitTrip .., h => exact keeps_execLimitTrip h .refl
  | .coilFault .., h => exact keeps_execCoilFault h .refl
  | .doorOpen, h => exact keeps_execDoorOpen h .refl
  | .doorClosed, h => exact keeps_execDoorClosed h .refl
  | .clampChange .., h => exact keeps_execClampChange h .refl
  -- host queues
  | .controllerReset .., h => exact keeps_execControllerReset h .refl
  | .controllerEnable .., h => exact keeps_execControllerEnable h .refl
  | .sqTailDoorbell .., h => exact keeps_execSqTailDoorbell h .refl
  | .cqHeadDoorbell .., h => exact keeps_execCqHeadDoorbell h .refl
  | .commandFetch .., h => exact keeps_execCommandFetch h .refl
  | .lockGrant .., h => exact keeps_execLockGrant h .refl
  | .commandStart .., h => exact keeps_execCommandStart h .refl
  | .ingestReserve .., h => exact keeps_execIngestReserve h .refl
  | .completionPost .., h => exact keeps_execCompletionPost h .refl
  | .hostDmaFailure .., h => exact keeps_execHostDmaFailure h .refl
  | .pcieLinkChange .., h => exact keeps_execPcieLinkChange h .refl
  -- admin commands
  | .identify .., h => exact keeps_execIdentify h .refl
  | .queueCreate .., h => exact keeps_execQueueCreate h .refl
  | .queueDelete .., h => exact keeps_execQueueDelete h .refl
  | .queueResume .., h => exact keeps_execQueueResume h .refl
  | .logRead .., h => exact keeps_execLogRead h .refl
  | .featureSet .., h => exact keeps_execFeatureSet h .refl
  | .featureGet .., h => exact keeps_execFeatureGet h .refl
  | .magazineLoad .., h => exact keeps_execMagazineLoad h .refl
  | .tailScan .., h => exact keeps_execTailScan h .refl
  | .magazineEject .., h => exact keeps_execMagazineEject h .refl
  | .ejectProceed, h => exact keeps_execEjectProceed h .refl
  | .format .., h => exact keeps_execFormat h .refl
  | .keyInstall .., h => exact keeps_execKeyInstall h .refl
  | .firmwareStage .., h => exact keeps_execFirmwareStage h .refl
  | .firmwareCommit .., h => exact keeps_execFirmwareCommit h .refl
  | .abort .., h => exact keeps_execAbort h .refl
  | .mirrorStatus .., h => exact keeps_execMirrorStatus h .refl
  | .pair .., h => exact keeps_execPair h .refl
  | .unpair .., h => exact keeps_execUnpair h .refl
  | .mirrorMode .., h => exact keeps_execMirrorMode h .refl
  | .rejoin .., h => exact keeps_execRejoin h .refl
  | .takeover .., h => exact keeps_execTakeover h .refl
  | .asyncEvent .., h => exact keeps_execAsyncEvent h .refl
  | .asyncEventReport .., h => exact keeps_execAsyncEventReport h .refl
  | .telemetryRead .., h => exact keeps_execTelemetryRead h .refl
  | .selfTest .., h => exact keeps_execSelfTest h .refl
  | .selfTestStop .., h => exact keeps_execSelfTestStop h .refl
  | .standby .., h => exact keeps_execStandby h .refl
  -- clip and block commands
  | .blockRead .., h => exact keeps_execBlockRead h .refl
  | .blockWrite .., h => exact keeps_execBlockWrite h .refl
  | .flush .., h => exact keeps_execFlush h .refl
  | .clipOpen .., h => exact keeps_execClipOpen h .refl
  | .frameAppend .., h => exact keeps_execFrameAppend h .refl
  | .clipClose .., h => exact keeps_execClipClose h .refl
  | .frameRead .., h => exact keeps_execFrameRead h .refl
  | .catalogueRead .., h => exact keeps_execCatalogueRead h .refl
  | .clipVerify .., h => exact keeps_execClipVerify h .refl
  -- ledger and placement
  | .bandStep .., h => exact keeps_execBandStep h .refl
  | .ledgerVisit .., h => exact keeps_execLedgerVisit h .refl
  | .stagedDrain .., h => exact keeps_execStagedDrain h .refl
  | .stagingFloor, h => exact keeps_execStagingFloor h .refl
  -- Peat
  | .dqReserve .., h => exact keeps_execDqReserve h .refl
  | .dqKick, h => exact keeps_execDqKick h .refl
  | .reservedSlotTimeout, h => exact keeps_execReservedSlotTimeout h .refl
  | .peatRead .., h => exact keeps_execPeatRead h .refl
  | .peatProgram .., h => exact keeps_execPeatProgram h .refl
  | .peatErase .., h => exact keeps_execPeatErase h .refl
  | .peatJournal .., h => exact keeps_execPeatJournal h .refl
  | .peatRebuild .., h => exact keeps_execPeatRebuild h .refl
  | .peatPad .., h => exact keeps_execPeatPad h .refl
  | .flashOpComplete .., h => exact keeps_execFlashOpComplete h .refl
  | .dieTimeout .., h => exact keeps_execDieTimeout h .refl
  | .peatTempSample .., h => exact keeps_execPeatTempSample h .refl
  -- buffer memory and map cache
  | .dramAccess .., h => exact keeps_execDramAccess h .refl
  | .mergeFlush .., h => exact keeps_execMergeFlush h .refl
  | .ceLeak, h => exact keeps_execCeLeak h .refl
  | .apertureAccess .., h => exact keeps_execApertureAccess h .refl
  | .mcAccess .., h => exact keeps_execMcAccess h .refl
  | .mcFillDone .., h => exact keeps_execMcFillDone h .refl
  | .inv .., h => exact keeps_execInv h .refl
  | .clean .., h => exact keeps_execClean h .refl
  | .lockfill .., h => exact keeps_execLockfill h .refl
  | .invAll, h => exact keeps_execInvAll h .refl
  | .cleanAll, h => exact keeps_execCleanAll h .refl
  | .mcOpDone, h => exact keeps_execMcOpDone h .refl
  | .wayRestore .., h => exact keeps_execWayRestore h .refl
  | .mcWinWrite .., h => exact keeps_execMcWinWrite h .refl
  -- Sluice
  | .slStart .., h => exact keeps_execSlStart h .refl
  | .slStop .., h => exact keeps_execSlStop h .refl
  | .slBeat .., h => exact keeps_execSlBeat h .refl
  | .slDone .., h => exact keeps_execSlDone h .refl
  | .slBusError .., h => exact keeps_execSlBusError h .refl
  -- cipher and key store
  | .cipherUnit .., h => exact keeps_execCipherUnit h .refl
  | .gcmSeal .., h => exact keeps_execGcmSeal h .refl
  | .gcmOpen .., h => exact keeps_execGcmOpen h .refl
  | .reTweak .., h => exact keeps_execReTweak h .refl
  | .pairKat .., h => exact keeps_execPairKat h .refl
  | .pairRestore .., h => exact keeps_execPairRestore h .refl
  | .pageKeyLoad .., h => exact keeps_execPageKeyLoad h .refl
  | .pageCtlWrite .., h => exact keeps_execPageCtlWrite h .refl
  | .install .., h => exact keeps_execInstall h .refl
  | .erase .., h => exact keeps_execErase h .refl
  | .eraseAll, h => exact keeps_execEraseAll h .refl
  | .keyAlarm .., h => exact keeps_execKeyAlarm h .refl
  -- mirrored pair
  | .mlLinkEnable .., h => exact keeps_execMlLinkEnable h .refl
  | .mlLinkDown, h => exact keeps_execMlLinkDown h .refl
  | .mlHello .., h => exact keeps_execMlHello h .refl
  | .mlCmd .., h => exact keeps_execMlCmd h .refl
  | .mlData .., h => exact keeps_execMlData h .refl
  | .mlRpt .., h => exact keeps_execMlRpt h .refl
  | .mlCat .., h => exact keeps_execMlCat h .refl
  | .mlDone .., h => exact keeps_execMlDone (_status := 0) h .refl
  | .mlTunReq .., h => exact keeps_execMlTunReq h .refl
  | .mlTunRsp .., h => exact keeps_execMlTunRsp h .refl
  | .mlIrq .., h => exact keeps_execMlIrq h .refl
  | .mlRsync .., h => exact keeps_execMlRsync h .refl
  | .mlLeave .., h => exact keeps_execMlLeave h .refl
  | .mlLack .., h => exact keeps_execMlLack h .refl
  | .heartbeatLost, h => exact keeps_execHeartbeatLost h .refl
  | .peerRoleChange .., h => exact keeps_execPeerRoleChange h .refl
  | .reportTimeout, h => exact keeps_execReportTimeout h .refl
  | .takeoverDelay, h => exact keeps_execTakeoverDelay h .refl
  | .autoRejoin .., h => exact keeps_execAutoRejoin h .refl
  | .resyncComplete, h => exact keeps_execResyncComplete h .refl
  | .tunnelAccess .., h => exact keeps_execTunnelAccess h .refl
  | .tunnelTimeout .., h => exact keeps_execTunnelTimeout h .refl
  -- interrupts
  | .claim .., h => exact keeps_execClaim h .refl
  | .eoi .., h => exact keeps_execEoi h .refl
  | .hostEoi .., h => exact keeps_execHostEoi h .refl
  | .forceRaise .., h => exact keeps_execForceRaise h .refl
  | .targetDisable .., h => exact keeps_execTargetDisable h .refl
  | .holdoffExpiry .., h => exact keeps_execHoldoffExpiry h .refl
  | .peerFifoRead .., h => exact keeps_execPeerFifoRead h .refl
  -- power
  | .reducedModeEntry, h => exact keeps_execReducedModeEntry h .refl
  | .reducedModeExit, h => exact keeps_execReducedModeExit h .refl
  | .clockAlarm, h => exact keeps_execClockAlarm h .refl
  | .powerFailDetect, h => exact keeps_execPowerFailDetect h .refl
  | .dykeEnd .., h => exact keeps_execDykeEnd h .refl
  | .por, h => exact keeps_execPor h .refl
  | .resetN, h => exact keeps_execResetN h .refl
  | .brownout .., h => exact keeps_execBrownout h .refl
  | .wdog, h => exact keeps_execWdog h .refl
  | .soft .., h => exact keeps_execSoft h .refl
  | .jtag, h => exact keeps_execJtag h .refl
  | .moduleBoot .., h => exact keeps_execModuleBoot h .refl
  | .holdupMeasure .., h => exact keeps_execHoldupMeasure h .refl
  | .holdupArm, h => exact keeps_execHoldupArm h .refl
  | .boostFault, h => exact keeps_execBoostFault h .refl
  | .sleepEntry .., h => exact keeps_execSleepEntry h .refl
  | .wake .., h => exact keeps_execWake h .refl
  | .standbyLook .., h => exact keeps_execStandbyLook h .refl
  | .padRelease, h => exact keeps_execPadRelease h .refl
  -- calibration and telemetry
  | .calAdcOffset .., h => exact keeps_execCalAdcOffset h .refl
  | .calServoOffset .., h => exact keeps_execCalServoOffset h .refl
  | .calLoopGain .., h => exact keeps_execCalLoopGain h .refl
  | .calWritePower .., h => exact keeps_execCalWritePower h .refl
  | .calWriteStrategy .., h => exact keeps_execCalWriteStrategy h .refl
  | .calTimeout .., h => exact keeps_execCalTimeout h .refl
  | .deferralExpiry .., h => exact keeps_execDeferralExpiry h .refl
  | .telemetrySample .., h => exact keeps_execTelemetrySample h .refl
  -- I2C
  | .i2cTransfer .., h => exact keeps_execI2cTransfer h .refl
  | .i2cTransferDone .., h => exact keeps_execI2cTransferDone h .refl
  -- further events
  | .puFaultRelease .., h => exact keeps_execPuFaultRelease h .refl
  | .coilDriverFault .., h => exact keeps_execCoilDriverFault h .refl
  | .msixUnmask .., h => exact keeps_execMsixUnmask h .refl
  | .victimWriteback, h => exact keeps_execVictimWriteback h .refl
  | .heartbeatRegained, h => exact keeps_execHeartbeatRegained h .refl
  | .mlFrameDiscard, h => exact keeps_execMlFrameDiscard h .refl
  | .upstreamFrameDiscard .., h => exact keeps_execUpstreamFrameDiscard h .refl
  | .vinOvervoltage, h => exact keeps_execVinOvervoltage h .refl
  | .dieTemperatureWarning .., h => exact keeps_execDieTemperatureWarning h .refl
  | .mgmtAccessDone .., h => exact keeps_execMgmtAccessDone h .refl

/-- A step of the idle machine changes nothing; any other is the run of the front command, with the queue's rest left. -/
theorem step_cases {s t : State} (h : step s = .next t) :
    (s.pending = [] ∧ t = s) ∨ ∃ c rest, s.pending = c :: rest ∧ t.pending = rest ∧
      Keeps (!c.movesTick) s.toBlock t.toBlock := by
  cases hq : s.pending with
  | nil =>
    rw [step_of_nil hq] at h
    cases h
    exact .inl ⟨rfl, rfl⟩
  | cons c rest =>
    rw [step_of_cons hq] at h
    exact .inr ⟨c, rest, rfl, exec_pending h, exec_keeps (s := { s with pending := rest }) h⟩

/-- Settles O3: the idle step changes nothing, and the front command keeps the invariant by `exec_keeps`. -/
theorem machineInvariant : Obligations.MachineInvariant := by
  unfold Obligations.MachineInvariant
  intro s t h
  rcases step_cases h with ⟨hq, rfl⟩ | ⟨c, rest, hq, ht, hpart, htick, hregs, hdram, hirq⟩
  · exact ⟨id, id, id, id, rfl, fun _ _ _ _ => rfl⟩
  · refine ⟨hregs, hdram, hirq, fun hw => ?_, hpart, fun c' rest' hq' hc => htick ?_⟩
    · rw [State.queueWf, hq, List.all_cons, Bool.and_eq_true] at hw
      rw [State.queueWf, ht]
      exact hw.2
    · obtain ⟨rfl, rfl⟩ := List.cons.inj (hq.symm.trans hq')
      rw [hc]
      rfl

/-! ### A command that leaves its areas: MC_WIN_WRITE with a locked line (R384, R392) -/

theorem srcPresent_mapCache (p : Part) : srcPresent p 1363 = true := by cases p <;> rfl

/-- The INV_ALL of an MC_WIN write raises source 1363 where it invalidates a line in a locked way (R384, R392). -/
theorem Block.winApply_raised_locked {b : Block} {v : Word} (hw : b.dram.winPend = some v) (hf : b.dram.fills = [])
    (hl : (b.dram.lines.filter fun x => b.onBit MC_LOCK_LOCK x.way && x.valid ≠ 0).length ≠ 0) :
    b.winApply.raised 1363 = true := by
  unfold Block.winApply
  simp only [hw, hf, List.isEmpty_nil, Bool.not_true, Bool.false_eq_true, if_false, if_neg hl]
  exact Block.raise_raised_same (srcPresent_mapCache _)

/-- A line in way 0 of the map cache, with one valid sector and nothing dirty. -/
def lockedLine : McLine := ⟨0, 0, 1, 0, Vector.replicate 256 0⟩

/-- The module after reset, but with way 0 locked (MC_LOCK) and holding that line. -/
def lockedWay : State :=
  { State.reset with
    regs := [(PW_STAT, 0x400), (MC_LOCK, 1)]
    dram := { Dram.initial with lines := [lockedLine] } }

/-- Refutes O4: the areas listed for MC_WIN_WRITE are the registers and DRAM, but its INV_ALL raises source 1363 where it
reaches a line in a locked way, so the interrupt state changes. -/
theorem not_everyCommandCompletes : ¬ Obligations.EveryCommandCompletes := by
  unfold Obligations.EveryCommandCompletes
  intro h
  rcases h (.mcWinWrite 0) lockedWay with ⟨t, ht, -, hframe⟩ | ⟨_, _, _, _, _, _, hi, -⟩
  · cases ht
    have hirq : (lockedWay.winWrite 0).irq = lockedWay.irq := hframe.same .irq (by decide)
    have hr : (lockedWay.winWrite 0).raised 1363 = true := Block.winApply_raised_locked rfl rfl (by decide)
    rw [Block.raised, hirq] at hr
    exact absurd hr (by decide)
  · cases hi

/-! ### Registers of absent units (R1, R491) -/

theorem hasAxis_pl3216 {a : Nat} (h : 2 ≤ a ∧ a < 4 ∨ 6 ≤ a ∧ a < 8) : Part.pl3216.hasAxis a = false := by
  simp only [Part.hasAxis, Bool.or_eq_false_iff, decide_eq_false_iff_not]
  omega

theorem absentAt_pl3216 {o : Nat}
    (h : (0x108000 ≤ o ∧ o < 0x110000) ∨ (0x121000 ≤ o ∧ o < 0x122000) ∨ (0x130800 ≤ o ∧ o < 0x131000) ∨
      (0x131800 ≤ o ∧ o < 0x132000) ∨ (0x14C000 ≤ o ∧ o < 0x154000) ∨ (0x190000 ≤ o ∧ o < 0x1A0000)) :
    absentAt .pl3216 o = true := by
  rcases h with h | h | h | h | h | h
  · have surf : Part.pl3216.hasSurf ((o - 0x100000) / 0x4000) = false := decide_eq_false (by omega)
    simp [absentAt, surf, show 0x100000 ≤ o ∧ o < 0x110000 by omega]
  · have spin : Part.pl3216.hasSpin ((o - 0x120000) / 0x1000) = false := decide_eq_false (by omega)
    simp [absentAt, spin, show 0x120000 ≤ o ∧ o < 0x122000 by omega]
  · have axis : Part.pl3216.hasAxis ((o - 0x130000) / 0x400) = false := hasAxis_pl3216 (by omega)
    simp [absentAt, axis, show 0x130000 ≤ o ∧ o < 0x132400 by omega]
  · have axis : Part.pl3216.hasAxis ((o - 0x130000) / 0x400) = false := hasAxis_pl3216 (by omega)
    simp [absentAt, axis, show 0x130000 ≤ o ∧ o < 0x132400 by omega]
  · have surf : Part.pl3216.hasSurf ((o - 0x144000) / 0x4000) = false := decide_eq_false (by omega)
    simp [absentAt, surf, show 0x144000 ≤ o ∧ o < 0x154000 by omega]
  · have beam : Part.pl3216.hasBeam ((o - 0x180000) / 0x800) = false := decide_eq_false (by omega)
    simp [absentAt, beam, show 0x180000 ≤ o ∧ o < 0x1A0000 by omega]

@[simp] theorem vget_vset_same {α : Type} {n : Nat} (v : Vector α n) (i : Fin n) (x : α) : vget (vset v i x) i = x := by
  simp [vget, vset]

theorem Block.readReg_absent {b : Block} {o : Nat} (h : absentAt b.part o = true) (m : Master) :
    b.readReg m o = b.answer m 0 := if_pos h

theorem Block.writeReg_absent {b : Block} {o : Nat} (h : absentAt b.part o = true) (m : Master) (v lost : Word) :
    b.writeReg m o v lost = b := if_pos h

theorem exec_registerWrite_absent {s : State} {o : BitVec 20} (h : absentAt s.part (4 * o.toNat) = true) (m : Master)
    (v lost : Word) : exec (.registerWrite m o v lost) s = .next s := by
  change s.upd (fun b => b.writeReg m (4 * o.toNat) v lost) = _
  rw [State.upd, Block.writeReg_absent h]

theorem exec_partialWrite_absent {s : State} {o : BitVec 20} (h : absentAt s.part (4 * o.toNat) = true) (m : Master) :
    exec (.partialWrite m o) s = .next s := by
  change s.upd (fun b => if absentAt b.part (4 * o.toNat) then b else b.decErr m 2 (4 * o.toNat)) = _
  rw [State.upd, if_pos h]

/-- Settles O6: the absent units' windows all lie where `absentAt` holds, and there an access has no effect. -/
theorem absentUnitsReadZero : Obligations.AbsentUnitsReadZero := by
  unfold Obligations.AbsentUnitsReadZero
  intro s m o v lost hp h
  have ha : absentAt s.part (4 * o.toNat) = true := hp ▸ absentAt_pl3216 h
  refine ⟨⟨_, rfl, rfl, ?_⟩, exec_registerWrite_absent ha m v lost, exec_partialWrite_absent ha m⟩
  change vget (s.readReg m (4 * o.toNat)).rdata m.idx = 0 ∧ (s.readReg m (4 * o.toNat)).regs = s.regs ∧
    (s.readReg m (4 * o.toNat)).cal = s.cal ∧ (s.readReg m (4 * o.toNat)).irq = s.irq
  rw [Block.readReg_absent ha]
  exact ⟨vget_vset_same .., rfl, rfl, rfl⟩

/-! ### Access codes in the global and calibration blocks (R4) -/

theorem absentAt_glb (p : Part) {o : Nat} (h : o < 0x10000) : absentAt p o = false := by
  have hle : ∀ c, 0x10000 ≤ c → ¬ c ≤ o := by omega
  have hne : ∀ c, 0x10000 ≤ c → o ≠ c := by omega
  simp [absentAt, WP_BFAIL_HI, LE_PSW_k, LE_PSW_LOST_k, hle, hne]

theorem inAperture_of_lt {o : Nat} (h : o < 0x300000) : inAperture o = false := by
  simp only [inAperture, Bool.and_eq_false_iff, decide_eq_false_iff_not]
  omega

theorem Block.viewReg_glb (b : Block) (m : Master) {o : Nat} (h : o < 0x10000) (h1 : o ≠ GLB_TICK_LO)
    (h2 : o ≠ GLB_TICK_HI) (h3 : o ≠ GLB_TICK_CYC) : b.viewReg m o = b.rd o := by
  unfold Block.viewReg
  refine (if_neg h1).trans ((if_neg h2).trans ((if_neg h3).trans ?_))
  dsimp only [MZ_FSYNC_TS_LO, MZ_FSYNC_TS_HI, DR_MERGE, DR_APER, SL_STAT, HQ_STAT, HQ_LOCKS, MC_VB, CX_KS_OCC_LO,
    CX_KS_OCC_HI, CX_KS_TYPE_k, CX_KS_BLOB_k, PT_POOL, PT_STAT, PW_USED, ML_TUN_CTL, ML_TUN_DATA, CAL_QSEL, CAL_QVAL]
  repeat refine (if_neg (by omega)).trans ?_
  rfl

/-- R487 narrows no field of these two blocks. -/
theorem ranges_glb_cal (b : Block) {o : Nat} (h : o < 0x10000 ∨ 0x30000 ≤ o ∧ o < 0x40000) (v : Word) :
    ranges b o v = [] := by
  dsimp only [ranges, WP_CTL, WP_VFY_CTL, WP_VFY_WM, WP_RELOC_CTL, RC_CTL, RC_RDWM, PT_Q_SIZE, PT_THR,
    DR_SCRUB, DR_CE_BKT, DR_CE_LEAK, MC_CTL, MC_PAR, ML_HB, ML_ASYNC, PW_DYKE, PW_HOLDUP, PW_STBY_INT, PW_STBY_TMR,
    PW_CMP_k]
  repeat refine (if_neg (by omega)).trans ?_
  rfl

theorem Block.rwhLost_glb_cal (b : Block) {o : Nat} (h : o < 0x10000 ∨ 0x30000 ≤ o ∧ o < 0x40000) (lost : Word) :
    b.rwhLost o lost = b := by
  dsimp only [Block.rwhLost, LE_OVR_LO, LE_OVR_HI, LE_PSW_k]
  repeat refine (if_neg (by omega)).trans ?_
  rfl

theorem Block.writeMapped_glb_cal (b : Block) (m : Master) (r : RegRow) {o : Nat}
    (h : o < 0x10000 ∨ 0x30000 ≤ o ∧ o < 0x40000 ∧ o ≠ CAL_QSEL) (v : Word) :
    b.writeMapped m r o v = b.wr o (b.merged r o v) := by
  unfold Block.writeMapped
  rcases h with h | ⟨h1, h2, h3⟩
  · simp (disch := omega) only [if_neg]
  · simp (disch := omega) only [if_neg, if_pos]

theorem Block.merged_getLsbD {b : Block} {r : RegRow} {o : Nat} {v : Word} (h1 : o ≠ PW_HOLDUP) (h2 : o ≠ LE_COEF_CTL)
    (hr : ∀ w, ranges b o w = []) {i : Nat} (hi : i < 32) :
    (b.merged r o v).getLsbD i =
      ((if (r.rw ||| r.rwh).testBit i then v.getLsbD i else (b.rd o).getLsbD i) && !(r.w1c.testBit i && v.getLsbD i)) := by
  simp only [Block.merged, if_neg h1, h2, false_and, if_false, hr, clampWord, List.foldl_nil, BitVec.getLsbD_and,
    BitVec.getLsbD_or, BitVec.getLsbD_not, BitVec.getLsbD_ofNat, hi, decide_true, Bool.true_and]
  cases (r.rw ||| r.rwh).testBit i <;> simp [Bool.and_comm]

theorem Block.writeReg_glb_cal {b : Block} {o : Nat} {r : RegRow} (hr : regRow o = some r)
    (h : o < 0x10000 ∨ 0x30000 ≤ o ∧ o < 0x40000 ∧ o ≠ CAL_QSEL) (hp : absentAt b.part o = false) (m : Master)
    (v lost : Word) : b.writeReg m o v lost = b.wr o (b.merged r o v) := by
  have ha : inAperture o = false := inAperture_of_lt (by omega)
  simp only [Block.writeReg, hp, ha, hr, Block.writeMapped_glb_cal b m r h, Bool.false_eq_true, if_false]
  exact Block.rwhLost_glb_cal _ (by omega) _

theorem Block.readReg_glb {b : Block} {o : Nat} {r : RegRow} (hr : regRow o = some r) (h : o < 0x10000)
    (h1 : o ≠ GLB_TICK_LO) (m : Master) : b.readReg m o = (b.clearRc r o).answer m (b.viewReg m o) := by
  have ha : inAperture o = false := inAperture_of_lt (by omega)
  have hc : ¬ (IC_CLAIM_t 0 ≤ o ∧ o ≤ IC_CLAIM_t 4 ∧ o % 8 = 0) := by simp only [IC_CLAIM_t]; omega
  have hf : o ≠ IC_PEER_FIFO := by simp only [IC_PEER_FIFO]; omega
  have hq : o ≠ PT_DQ_RSV := by simp only [PT_DQ_RSV]; omega
  have ht : o ≠ MZ_FSYNC_TS_LO := by simp only [MZ_FSYNC_TS_LO]; omega
  simp only [Block.readReg, absentAt_glb _ h, ha, hr, if_neg hc, if_neg hf, if_neg hq, if_neg h1, if_neg ht,
    Bool.false_eq_true, if_false]

theorem Block.clearRc_glb (b : Block) (r : RegRow) {o : Nat} (h : o < 0x10000) :
    b.clearRc r o = if r.rc = 0 then b else b.wr o (b.rd o &&& ~~~(BitVec.ofNat 32 r.rc)) := by
  unfold Block.clearRc
  rw [if_neg (show ¬ (0x180000 ≤ o ∧ _) by omega)]

theorem Block.rd_clearRc_glb (b : Block) (r : RegRow) {o : Nat} (h : o < 0x10000) {i : Nat} (hi : i < 32) :
    ((b.clearRc r o).rd o).getLsbD i = ((b.rd o).getLsbD i && !r.rc.testBit i) := by
  rw [Block.clearRc_glb b r h]
  split
  · next h0 => simp [h0]
  · rw [Block.rd_wr_same, BitVec.getLsbD_and, BitVec.getLsbD_not, BitVec.getLsbD_ofNat]
    simp [hi]

theorem Block.rd_clearRc_glb_ne (b : Block) (r : RegRow) {o o' : Nat} (h : o < 0x10000) (hne : o' ≠ o) :
    (b.clearRc r o).rd o' = b.rd o' := by
  rw [Block.clearRc_glb b r h]
  split
  · rfl
  · exact Block.rd_wr_ne _ hne _

theorem Block.clearRc_glb_irq (b : Block) (r : RegRow) {o : Nat} (h : o < 0x10000) : (b.clearRc r o).irq = b.irq := by
  rw [Block.clearRc_glb b r h]
  split <;> rfl

theorem Block.regsOnly_wr (b : Block) (o : Nat) (v : Word) : Block.regsOnly [o] b (b.wr o v) :=
  fun _ h _ => Block.rd_wr_ne b (by simpa using h) v

/-- Settles O8: a write in these blocks is one store of the merged word, a read one store of the word without its RC
bits. -/
theorem accessCodes : Obligations.AccessCodes := by
  unfold Obligations.AccessCodes
  intro s m o v lost r hr
  constructor
  · intro h
    have hp : absentAt s.part (4 * o.toNat) = false := by
      rcases h with h | ⟨_, _, _, h⟩
      · exact absentAt_glb _ h
      · exact h
    have hg : 4 * o.toNat < 0x10000 ∨ 0x30000 ≤ 4 * o.toNat ∧ 4 * o.toNat < 0x40000 ∧ 4 * o.toNat ≠ CAL_QSEL := by
      tauto
    refine ⟨{ s with toBlock := s.wr (4 * o.toNat) (s.merged r (4 * o.toNat) v) }, ?_, rfl, Block.regsOnly_wr _ _ _, rfl,
      fun i hi => ?_⟩
    · change s.upd (fun b => b.writeReg m (4 * o.toNat) v lost) = _
      rw [State.upd, Block.writeReg_glb_cal hr hg hp]
    · rw [Block.rd_wr_same]
      exact Block.merged_getLsbD (by simp only [PW_HOLDUP]; omega) (by simp only [LE_COEF_CTL]; omega)
        (fun _ => ranges_glb_cal _ (by omega) _) hi
  · intro h h1 h2 h3
    refine ⟨{ s with toBlock := (s.clearRc r (4 * o.toNat)).answer m (s.rd (4 * o.toNat)) }, ?_, rfl, fun o' hne _ => ?_,
      Block.clearRc_glb_irq _ _ h, vget_vset_same .., fun i hi => Block.rd_clearRc_glb _ _ h hi⟩
    · change s.upd (fun b => b.readReg m (4 * o.toNat)) = _
      rw [State.upd, Block.readReg_glb hr h h1, Block.viewReg_glb _ _ h h1 h2 h3]
    · exact Block.rd_clearRc_glb_ne _ _ h (by simpa using hne)

end Sys2Proof.Machine

/-!
PROOFS. The state after reset, the power modes, resets and the boot (R21 to R27, R402, R448 to R467): first what calm
work leaves alone, then a lemma for each command.
-/

namespace Sys2Proof.Machine

set_option Elab.async false

/-! ### Calm work: what leaves the power unit, the reset registers and the boot's results alone (R456 to R458)

Most operations that power commands share (passes cut, calibrations abandoned, sources raised, Peat records written)
write neither the power unit's registers nor those that boot sets, start no pass, open no gate and withdraw no source.
-/

/-- The registers of the power unit, PT_CTL, PT_DIE_FAIL and ML_EPOCH. -/
def calmReg (o : Nat) : Bool := decide (0x20000 ≤ o ∧ o < 0x30000) || o = PT_CTL || o = PT_DIE_FAIL || o = ML_EPOCH

/-- The registers of the axes, and SEs_LSAFE. -/
def gateReg (o : Nat) : Bool :=
  decide (0x130000 ≤ o ∧ o < 0x140000) || o = SEs_LSAFE 0 || o = SEs_LSAFE 1 || o = SEs_LSAFE 2 || o = SEs_LSAFE 3

/-- The registers that calm work does not write, or of which it writes some fields only. -/
def guardedReg (o : Nat) : Bool := calmReg o || gateReg o || o = PT_STAT

theorem guardedReg_eq_false {o : Nat} :
    guardedReg o = false ↔ ¬ (0x20000 ≤ o ∧ o < 0x30000) ∧ o ≠ 0x1C0000 ∧ o ≠ 0x1C004C ∧ o ≠ 0x210010 ∧
      ¬ (0x130000 ≤ o ∧ o < 0x140000) ∧ o ≠ 0x144008 ∧ o ≠ 0x148008 ∧ o ≠ 0x14C008 ∧ o ≠ 0x150008 ∧ o ≠ 0x1C0004 := by
  simp only [guardedReg, gateReg, calmReg, Bool.or_eq_false_iff, decide_eq_false_iff_not, and_assoc]
  rfl

theorem guardedReg_of_calmReg {o : Nat} (h : calmReg o = true) : guardedReg o = true := by simp [guardedReg, h]

theorem guardedReg_of_gateReg {o : Nat} (h : gateReg o = true) : guardedReg o = true := by simp [guardedReg, h]

theorem gateReg_lsafe (u : Fin 4) : gateReg (SEs_LSAFE u) = true := by
  match u with
  | 0 | 1 | 2 | 3 => rfl

theorem gateReg_axis {i : Nat} (hi : i < 9) : gateReg (AXa_STAT i) = true := by
  simp only [gateReg, Bool.or_eq_true, decide_eq_true_eq]
  simp only [AXa_STAT]
  omega

theorem not_calmReg_of_gateReg {o : Nat} (h : gateReg o = true) : ¬ (calmReg o = true ∨ o = PT_STAT) := by
  simp only [gateReg, calmReg, Bool.or_eq_true, decide_eq_true_eq] at *
  simp only [SEs_LSAFE, PT_CTL, PT_DIE_FAIL, ML_EPOCH, PT_STAT] at *
  omega

/-- Raising a source writes none of them. -/
theorem irqReg_of_guardedReg {o : Nat} (h : guardedReg o = true) : irqReg o = false := by
  refine Bool.eq_false_iff.mpr fun hi => ?_
  simp only [irqReg, Bool.or_eq_true, Bool.and_eq_true, decide_eq_true_eq] at hi
  simp only [IC_ERR, MSIX_PBA] at hi
  exact Bool.eq_false_iff.mp (guardedReg_eq_false.mpr (by omega)) h

theorem ne_of_guardedReg {o o' : Nat} (h : guardedReg o = false) (h' : guardedReg o' = true) : o' ≠ o := by
  rintro rfl
  simp [h] at h'

/-- A write path that starts and plans no pass, and whose stop request stays. -/
structure Wp.Calm (w w' : Wp) : Prop where
  running : w.running = none → w'.running = none
  planned : w.planned = none → w'.planned = none
  stop : w.stop = true → w'.stop = true

theorem Wp.Calm.refl {w : Wp} : Wp.Calm w w := ⟨id, id, id⟩

theorem Wp.Calm.trans {u v w : Wp} (h : Wp.Calm u v) (h' : Wp.Calm v w) : Wp.Calm u w :=
  ⟨h'.running ∘ h.running, h'.planned ∘ h.planned, h'.stop ∘ h.stop⟩

theorem Wp.Calm.foldl {α : Type} {f : Wp → α → Wp} (hf : ∀ w x, Wp.Calm w (f w x)) (xs : List α) (w : Wp) :
    Wp.Calm w (xs.foldl f w) := by
  induction xs generalizing w with
  | nil => exact .refl
  | cons x t ih => exact (hf w x).trans (ih _)

/-- Block `c` follows from `b` by calm work. -/
structure Calm (b c : Block) : Prop where
  part : c.part = b.part
  rd : ∀ o, calmReg o = true → c.rd o = b.rd o
  /-- Of PT_STAT only JFULL may change. -/
  stat : ∀ g : Fld, g.reg = PT_STAT → PT_STAT_JFULL.apart g = true → c.fld g = b.fld g
  /-- A field of SEs_LSAFE or of an axis that is 0 stays 0. -/
  gate : ∀ g : Fld, gateReg g.reg = true → b.fld g = 0 → c.fld g = 0
  raised : ∀ n, b.raised n = true → c.raised n = true
  wp : ∀ u, Wp.Calm (vget b.wp u) (vget c.wp u)
  ml : c.ml.alive = b.ml.alive ∧ c.ml.jEpoch = b.ml.jEpoch
  hq : c.hq.fwActive = b.hq.fwActive ∧ c.hq.booted = b.hq.booted
  pt : c.pt.waiting = b.pt.waiting ∧ c.pt.ops = b.pt.ops

namespace Calm

variable {a b c : Block}

theorem refl : Calm b b :=
  ⟨rfl, fun _ _ => rfl, fun _ _ _ => rfl, fun _ _ => id, fun _ => id, fun _ => .refl, ⟨rfl, rfl⟩, ⟨rfl, rfl⟩, ⟨rfl, rfl⟩⟩

theorem trans (h : Calm a b) (h' : Calm b c) : Calm a c where
  part := h'.part.trans h.part
  rd o ho := (h'.rd o ho).trans (h.rd o ho)
  stat g hr hg := (h'.stat g hr hg).trans (h.stat g hr hg)
  gate g hg h0 := h'.gate g hg (h.gate g hg h0)
  raised n hn := h'.raised n (h.raised n hn)
  wp u := (h.wp u).trans (h'.wp u)
  ml := ⟨h'.ml.1.trans h.ml.1, h'.ml.2.trans h.ml.2⟩
  hq := ⟨h'.hq.1.trans h.hq.1, h'.hq.2.trans h.hq.2⟩
  pt := ⟨h'.pt.1.trans h.pt.1, h'.pt.2.trans h.pt.2⟩

theorem fld (h : Calm a b) {g : Fld} (hg : calmReg g.reg = true) : b.fld g = a.fld g := by
  unfold Block.fld
  rw [h.rd _ hg]

theorem on (h : Calm a b) {g : Fld} (hg : calmReg g.reg = true) : b.on g = a.on g := by
  simp only [Block.on, h.fld hg]

theorem onBit (h : Calm a b) {g : Fld} (hg : calmReg g.reg = true) (i : Nat) : b.onBit g i = a.onBit g i := by
  simp only [Block.onBit, h.fld hg]

/-- A branch of calm work. -/
theorem ite {p : Prop} [Decidable p] {x y : Block} (hx : Calm a x) (hy : Calm a y) : Calm a (if p then x else y) := by
  split
  · exact hx
  · exact hy

theorem foldl {α : Type} {f : Block → α → Block} {xs : List α} (h : Calm a b)
    (hf : ∀ c, ∀ x ∈ xs, Calm a c → Calm a (f c x)) : Calm a (xs.foldl f b) := by
  induction xs generalizing b with
  | nil => exact h
  | cons x t ih => exact ih (hf _ _ List.mem_cons_self h) fun c y hy => hf c y (List.mem_cons_of_mem _ hy)

/-- A change of none of the areas that calm work speaks of. -/
theorem same (h : Calm a b) (hp : c.part = b.part := by rfl) (hr : c.regs = b.regs := by rfl)
    (hi : c.irq = b.irq := by rfl) (hw : c.wp = b.wp := by rfl) (hm : c.ml = b.ml := by rfl) (hh : c.hq = b.hq := by rfl)
    (ht : c.pt.waiting = b.pt.waiting ∧ c.pt.ops = b.pt.ops := by exact ⟨rfl, rfl⟩) : Calm a c := by
  have hrd := Block.rd_congr hp hr
  have hfld : ∀ g : Fld, c.fld g = b.fld g := fun g => by unfold Block.fld; rw [hrd]
  exact h.trans ⟨hp, fun o _ => hrd o, fun g _ _ => hfld g, fun g _ h0 => (hfld g).trans h0,
    fun n hn => by unfold Block.raised; rw [hi]; exact hn, fun u => hw ▸ .refl, hm ▸ ⟨rfl, rfl⟩, hh ▸ ⟨rfl, rfl⟩, ht⟩

/-! #### Updates of the state -/

theorem wr (h : Calm a b) (o : Nat) (v : Word) (ho : guardedReg o = false := by rfl) : Calm a (b.wr o v) := by
  have hrd : ∀ o', guardedReg o' = true → (b.wr o v).rd o' = b.rd o' := fun o' h' =>
    Block.rd_wr_ne b (ne_of_guardedReg ho h') v
  have hfld : ∀ g : Fld, guardedReg g.reg = true → (b.wr o v).fld g = b.fld g := fun g hg => by
    unfold Block.fld; rw [hrd _ hg]
  exact h.trans ⟨rfl, fun o' h' => hrd o' (guardedReg_of_calmReg h'), fun g hg _ => hfld g (hg ▸ rfl),
    fun g hg h0 => (hfld g (guardedReg_of_gateReg hg)).trans h0, fun _ => id, fun _ => .refl, ⟨rfl, rfl⟩, ⟨rfl, rfl⟩,
    ⟨rfl, rfl⟩⟩

theorem setFld (h : Calm a b) (f : Fld) (n : Nat) (ho : guardedReg f.reg = false := by rfl) : Calm a (b.setFld f n) :=
  h.wr _ _ ho

theorem setBit (h : Calm a b) (f : Fld) (v : Bool) (ho : guardedReg f.reg = false := by rfl) : Calm a (b.setBit f v) :=
  h.setFld f _ ho

theorem putBit (h : Calm a b) (f : Fld) (i : Nat) (v : Bool) (ho : guardedReg f.reg = false := by rfl) :
    Calm a (b.putBit f i v) := h.setFld f _ ho

theorem bump (h : Calm a b) (f : Fld) (n : Nat) (ho : guardedReg f.reg = false := by rfl) : Calm a (b.bump f n) :=
  h.setFld f _ ho

end Calm

/-- A field that is 0 stays 0 when any field of its register is set to 0. -/
theorem Fld.get_put_zero (f g : Fld) {v : Word} (h : g.get v = 0) : g.get (f.put v 0) = 0 := by
  refine Nat.eq_of_testBit_eq fun i => ?_
  have hi : (g.get v).testBit i = false := by rw [h]; exact Nat.zero_testBit i
  rw [Fld.get_testBit] at hi
  rw [Fld.get_testBit, Nat.zero_testBit]
  by_cases hb : g.lo + i < 32 ∧ g.lo + i < g.hi + 1
  · rw [Fld.put_getLsbD _ _ _ _ hb.1]
    simp only [hb, and_self, decide_true, Bool.true_and] at hi ⊢
    simp [hi]
  · simp only [hb, decide_false, Bool.false_and]

namespace Calm

variable {a b : Block}

/-- A field of SEs_LSAFE or of an axis is cleared. -/
theorem clearGate (h : Calm a b) (f : Fld) (hf : gateReg f.reg = true) : Calm a (b.setFld f 0) := by
  have hne : ∀ o, calmReg o = true ∨ o = PT_STAT → (b.setFld f 0).rd o = b.rd o := fun o ho =>
    Block.rd_setFld_ne _ _ (fun he => not_calmReg_of_gateReg hf (he ▸ ho)) _
  refine h.trans ⟨rfl, fun o ho => hne o (.inl ho), fun g hg _ => ?_, fun g _ h0 => ?_, fun _ => id, fun _ => .refl,
    ⟨rfl, rfl⟩, ⟨rfl, rfl⟩, ⟨rfl, rfl⟩⟩
  · unfold Block.fld
    rw [hne _ (.inr hg)]
  · by_cases hr : g.reg = f.reg
    · unfold Block.fld Block.setFld at *
      rw [hr] at h0 ⊢
      rw [Block.rd_wr_same]
      exact Fld.get_put_zero f g h0
    · unfold Block.fld at *
      rw [Block.rd_setFld_ne _ _ hr]
      exact h0

/-- JFULL is set or cleared. -/
theorem setJfull (h : Calm a b) (v : Bool) : Calm a (b.setBit PT_STAT_JFULL v) := by
  have hne : ∀ o, o ≠ PT_STAT → (b.setBit PT_STAT_JFULL v).rd o = b.rd o := fun o ho => Block.rd_setBit_ne _ _ ho _
  refine h.trans ⟨rfl, fun o ho => hne o (fun he => by rw [he] at ho; exact absurd ho (by decide)),
    fun g _ hg => Block.fld_setBit_apart _ _ _ hg _, fun g hg h0 => ?_, fun _ => id, fun _ => .refl,
    ⟨rfl, rfl⟩, ⟨rfl, rfl⟩, ⟨rfl, rfl⟩⟩
  unfold Block.fld at *
  rw [hne _ fun he => not_calmReg_of_gateReg hg (.inr he)]
  exact h0

theorem modWp (h : Calm a b) (s : Fin 4) (f : Wp → Wp) (hf : ∀ w, Wp.Calm w (f w) := by exact fun _ => ⟨id, id, id⟩) :
    Calm a (b.modWp s f) := by
  refine h.trans ⟨rfl, fun _ _ => rfl, fun _ _ _ => rfl, fun _ _ => id, fun _ => id, fun u => ?_, ⟨rfl, rfl⟩,
    ⟨rfl, rfl⟩, ⟨rfl, rfl⟩⟩
  by_cases hu : u = s
  · subst hu
    rw [Block.modWp, vmod, vget_vset_same]
    exact hf _
  · have : vget (b.modWp s f).wp u = vget b.wp u := by
      simp only [Block.modWp, vmod, vget, vset]
      exact Vector.getElem_set_ne _ _ (fun he => hu (Fin.ext he.symm))
    rw [this]
    exact .refl

theorem modHq (h : Calm a b) (f : Hq → Hq)
    (hf : ∀ x, (f x).fwActive = x.fwActive ∧ (f x).booted = x.booted := by exact fun _ => ⟨rfl, rfl⟩) : Calm a (b.modHq f) :=
  h.trans { refl with hq := hf b.hq }

theorem modServo (h : Calm a b) (s : Fin 4) (f : Servo → Servo) : Calm a (b.modServo s f) := h.same
theorem modSpin (h : Calm a b) (n : Fin 2) (f : Spin → Spin) : Calm a (b.modSpin n f) := h.same
theorem modSe (h : Calm a b) (s : Fin 4) (f : Se → Se) : Calm a (b.modSe s f) := h.same
theorem modAxis (h : Calm a b) (n : Fin 9) (f : Axis → Axis) : Calm a (b.modAxis n f) := h.same
theorem modCal (h : Calm a b) (f : Cal → Cal) : Calm a (b.modCal f) := h.same
theorem modCalSurf (h : Calm a b) (s : Fin 4) (f : CalSurf → CalSurf) : Calm a (b.modCalSurf s f) := h.same
theorem modStore (h : Calm a b) (f : Store → Store) : Calm a (b.modStore f) := h.same
theorem modVol (h : Calm a b) (f : Vol → Vol) : Calm a (b.modVol f) := h.same
theorem modPw (h : Calm a b) (f : Pwr → Pwr) : Calm a (b.modPw f) := h.same
theorem modCx (h : Calm a b) (f : Cx → Cx) : Calm a (b.modCx f) := h.same
theorem modDram (h : Calm a b) (f : Dram → Dram) : Calm a (b.modDram f) := h.same
theorem modLe (h : Calm a b) (f : Loop → Loop) : Calm a (b.modLe f) := h.same
theorem emit (h : Calm a b) (m : OutMsg) : Calm a (b.emit m) := h.same

theorem modPt (h : Calm a b) (f : Pt → Pt)
    (hf : ∀ p, (f p).waiting = p.waiting ∧ (f p).ops = p.ops := by exact fun _ => ⟨rfl, rfl⟩) : Calm a (b.modPt f) :=
  h.same (ht := hf b.pt)

theorem onSurf {f : Block → Block} {s : Fin 4} (h : Calm a b) (hf : Calm a (f b)) : Calm a (b.onSurf s f) := ite hf h

theorem onSpin {f : Block → Block} {n : Fin 2} (h : Calm a b) (hf : Calm a (f b)) : Calm a (b.onSpin n f) := ite hf h

end Calm

/-! #### Raising a source -/

theorem Block.melarSend_ml (b : Block) (t n : Nat) (l : List Byte) :
    (b.melarSend t n l).ml.alive = b.ml.alive ∧ (b.melarSend t n l).ml.jEpoch = b.ml.jEpoch := by
  unfold Block.melarSend
  split <;> exact ⟨rfl, rfl⟩

theorem Block.forward_ml (b : Block) (n : Nat) :
    (b.forward n).ml.alive = b.ml.alive ∧ (b.forward n).ml.jEpoch = b.ml.jEpoch := by
  unfold Block.forward
  split
  · exact ⟨rfl, rfl⟩
  · split
    · exact ⟨rfl, rfl⟩
    · exact Block.melarSend_ml ..

theorem Block.tryVec_ml (b : Block) (v : Nat) : (b.tryVec v).ml = b.ml :=
  (frame_tryVec (l₀ := [.regs, .irq, .out]) .refl v (List.Subset.refl _)).same .ml (by decide)

theorem Block.raiseWith_ml (b : Block) (n : Nat) (w : Bool) :
    (b.raiseWith n w).ml.alive = b.ml.alive ∧ (b.raiseWith n w).ml.jEpoch = b.ml.jEpoch := by
  unfold Block.raiseWith
  split
  · exact ⟨rfl, rfl⟩
  · extract_lets b1 b2 t
    have h2 : b2.ml.alive = b.ml.alive ∧ b2.ml.jEpoch = b.ml.jEpoch := by
      show (if _ then _ else _ : Block).ml.alive = _ ∧ (if _ then _ else _ : Block).ml.jEpoch = _
      split
      · exact Block.forward_ml ..
      · exact ⟨rfl, rfl⟩
    clear_value b2
    split
    · show (Block.tryVec _ _).ml.alive = _ ∧ (Block.tryVec _ _).ml.jEpoch = _
      rw [Block.tryVec_ml]
      exact h2
    · split
      · exact h2
      · exact h2

/-- Raising a source is calm, and leaves pass, host and Peat state alone. -/
theorem Calm.raise {a b : Block} (h : Calm a b) (n : Nat) : Calm a (b.raise n) := by
  have hf : Frame [.regs, .irq, .ml, .out] b (b.raise n) := frame_raise .refl n (List.Subset.refl _)
  have hrd : ∀ o, guardedReg o = true → (b.raise n).rd o = b.rd o := fun o ho =>
    Block.raise_rd b n (irqReg_of_guardedReg ho)
  have hfld : ∀ g : Fld, guardedReg g.reg = true → (b.raise n).fld g = b.fld g := fun g hg => by
    unfold Block.fld; rw [hrd _ hg]
  have hwp : (b.raise n).wp = b.wp := hf.same .wp (by decide)
  have hhq : (b.raise n).hq = b.hq := hf.same .hq (by decide)
  have hpt : (b.raise n).pt = b.pt := hf.same .pt (by decide)
  exact h.trans ⟨hf.same .part (by decide), fun o ho => hrd o (guardedReg_of_calmReg ho),
    fun g hg _ => hfld g (hg ▸ rfl), fun g hg h0 => (hfld g (guardedReg_of_gateReg hg)).trans h0,
    fun _ hm => Block.raise_raised hm, fun u => hwp ▸ .refl, Block.raiseWith_ml .., hhq ▸ ⟨rfl, rfl⟩, hpt ▸ ⟨rfl, rfl⟩⟩

/-! #### Registers of the units that calm work writes -/

theorem guardedReg_spStat (n : Fin 2) : guardedReg (SPn_STAT n) = false := by
  simp only [guardedReg_eq_false, SPn_STAT]; omega

theorem guardedReg_spCnt (n : Fin 2) : guardedReg (SPn_CNT n) = false := by
  simp only [guardedReg_eq_false, SPn_CNT]; omega

theorem guardedReg_bgate (s : Fin 4) : guardedReg (SEs_BGATE s) = false := by
  simp only [guardedReg_eq_false, SEs_BGATE]; omega

theorem guardedReg_wseq (s : Fin 4) : guardedReg (WP_Ss_WSEQ s) = false := by
  simp only [guardedReg_eq_false, WP_Ss_WSEQ]; omega

theorem guardedReg_vseq (s : Fin 4) : guardedReg (WP_Ss_VSEQ s) = false := by
  simp only [guardedReg_eq_false, WP_Ss_VSEQ]; omega

theorem guardedReg_calWp (s : Fin 4) : guardedReg (CAL_Ss_WP s) = false := by
  simp only [guardedReg_eq_false, CAL_Ss_WP]; omega

theorem guardedReg_dmem {w : Nat} (hw : w < 0x2000) : guardedReg (LE_DMEM_w w) = false := by
  simp only [guardedReg_eq_false, LE_DMEM_w]; omega

theorem guardedReg_cxStat (p : Fin 16) : guardedReg (CXp_STAT p) = false := by
  simp only [guardedReg_eq_false, CXp_STAT]; omega

theorem guardedReg_cxKcvLo (p : Fin 16) : guardedReg (CXp_KCV_LO p) = false := by
  simp only [guardedReg_eq_false, CXp_KCV_LO]; omega

theorem guardedReg_cxKcvHi (p : Fin 16) : guardedReg (CXp_KCV_HI p) = false := by
  simp only [guardedReg_eq_false, CXp_KCV_HI]; omega

/-! #### The write path's own records -/

theorem Wp.modStripe_calm (w : Wp) (q : Nat) (f : Stripe → Stripe) : Wp.Calm w (w.modStripe q f) := ⟨id, id, id⟩

theorem Wp.markGood_calm (fuel : Nat) (w : Wp) (q k : Nat) : Wp.Calm w (w.markGood fuel q k) := by
  induction fuel generalizing w q k with
  | zero => exact .refl
  | succ fuel ih =>
    unfold Wp.markGood
    dsimp only
    split
    · exact Wp.modStripe_calm ..
    · refine Wp.Calm.trans ?_ (Wp.Calm.foldl (fun w _ => ih w _ _) _ _)
      exact ⟨id, id, id⟩

theorem Wp.passCell_calm (w : Wp) (q k : Nat) : Wp.Calm w (w.passCell q k) := Wp.markGood_calm ..

theorem Wp.giveUp_calm (w : Wp) (p : PendCell) : Wp.Calm w (w.giveUp p) := by
  unfold Wp.giveUp
  refine Wp.Calm.trans ?_ (Wp.passCell_calm ..)
  cases p.cell.kind <;> exact ⟨id, id, id⟩

theorem Wp.copiesWritten_calm (w : Wp) (t : Stripe) : Wp.Calm w (w.copiesWritten t) :=
  Wp.Calm.foldl (fun _ _ => Wp.modStripe_calm ..) _ _

namespace Calm

variable {a b : Block}

theorem raiseSurf (h : Calm a b) (s : Fin 4) (k : Nat) : Calm a (b.raiseSurf s k) := h.raise _
theorem raiseSpin (h : Calm a b) (n : Fin 2) (k : Nat) : Calm a (b.raiseSpin n k) := h.raise _

/-! #### The catalogue, events and commands -/

theorem finish (h : Calm a b) (tag : Nat) (f : Finish) : Calm a (b.finish tag f) := by
  unfold Block.finish Block.modCmd
  exact h.modHq _

theorem async (h : Calm a b) (t info data : Nat) : Calm a (b.async t info data) := by
  unfold Block.async
  refine ite h ?_
  split
  · exact (h.modHq _).finish _ _
  · exact ite h (ite (h.modHq _) (h.modHq _))

theorem elogNoCmd (h : Calm a b) (pair detail addr : Nat) : Calm a (b.elogNoCmd pair detail addr) := by
  unfold Block.elogNoCmd Block.elogAdd
  exact (((h.modHq _).setFld _ _).raise 195).async _ _ _

theorem closeRec (h : Calm a b) (t : Nat) : Calm a (b.closeRec t) :=
  h.foldl fun c x _ hc => show Calm a (c.closeOne x) by unfold Block.closeOne; exact hc.modVol _

theorem journalEntry (h : Calm a b) (t : Nat) (bytes : List Byte) : Calm a (b.journalEntry t bytes) :=
  ite ((h.modVol _).closeRec t) (h.modVol _)

theorem voidEntry (h : Calm a b) (k swath wseq : Nat) : Calm a (b.voidEntry k swath wseq) := ite h (h.journalEntry _ _)

theorem bandEntryFor (h : Calm a b) (k failed : Nat) : Calm a (b.bandEntryFor k failed) :=
  ite h ((h.modWp _ _).journalEntry _ _)

theorem surfDown (h : Calm a b) (s : Fin 4) (cause : Nat) : Calm a (b.surfDown s cause) := (h.modServo _ _).async _ _ _

/-! #### Cutting and cancelling passes (R86, R114) -/

theorem sedge (h : Calm a b) (s : Fin 4) (f : SedgeFrame) : Calm a (b.sedge s f) := ite (h.emit _) h

theorem sendPower (h : Calm a b) (s : Fin 4) : Calm a (b.sendPower s) := (h.sedge _ _).modSe _ _

theorem failBeam (h : Calm a b) (s : Fin 4) (k : Nat) : Calm a (b.failBeam s k) := by
  unfold Block.failBeam
  have hg := (ite (p := 16 * s.val + k < 32) (h.putBit WP_BFAIL_LO_BFAIL (16 * s.val + k) true)
    (h.putBit WP_BFAIL_HI_BFAIL (16 * s.val + k - 32) true)).putBit (SEs_BGATE_BGATE s) k false (guardedReg_bgate s)
  have hw := hg.modWp s fun w => { w with failed := insertSrc k w.failed }
  exact ((ite (hw.surfDown s 3) hw).bandEntryFor _ _).raiseSurf s 7

theorem cellBad (h : Calm a b) (s : Fin 4) (q k : Nat) : Calm a (b.cellBad s q k) := by
  unfold Block.cellBad
  extract_lets b1 w run b2 b3
  have h2 : Calm a b2 := (h.bump _ _).modWp s _
  have h3 : Calm a b3 := by
    show Calm a (match w.copies.find? _ with | some c => _ | none => _)
    split
    · refine h2.modWp s _ fun v => ?_
      have hp : Wp.Calm v (Wp.passCell { v with copies := v.copies.filter fun x => !(x.wseq = q && x.beam = k) } q k) :=
        Wp.Calm.trans (v := { v with copies := v.copies.filter fun x => !(x.wseq = q && x.beam = k) }) ⟨id, id, id⟩
          (Wp.passCell_calm ..)
      dsimp only
      split
      · exact hp.trans (Wp.giveUp_calm ..)
      · exact hp.trans ⟨id, id, id⟩
    · split
      · exact h2
      · refine h2.modWp s _ fun v => ?_
        split
        · exact Wp.giveUp_calm ..
        · exact ⟨id, id, id⟩
  exact ite (h3.failBeam s k) h3

theorem missedCells (h : Calm a b) (s : Fin 4) (n : Nat) (t : Stripe) (missed : List (Nat × Nat)) :
    Calm a (b.missedCells s n t missed) := h.foldl fun _ _ _ hc => ite ((hc.modWp s _).cellBad s _ _) hc

theorem addStripes (h : Calm a b) (s : Fin 4) (p : Pass) (reached : Nat) : Calm a (b.addStripes s p reached) := by
  unfold Block.addStripes
  extract_lets n failed recs dl voids cells b1 b2 isVoid b3 b4 b5
  have h3 : Calm a b3 := ((h.bump _ _).bump _ _).modWp s _
  have h4 : Calm a b4 := by
    show Calm a (match voids with | [] => b3 | t :: _ => _)
    generalize voids = l
    cases l with
    | nil => exact h3
    | cons t _ => exact h3.voidEntry _ _ _
  exact (h4.modWp s _ fun _ => Wp.Calm.foldl Wp.copiesWritten_calm _ _).foldl fun _ _ _ hc => hc.missedCells s _ _ _

theorem exhaust (h : Calm a b) (s : Fin 4) (band : Nat) : Calm a (b.exhaust s band) :=
  ite h (((((h.modWp s _).modWp s _ fun _ => Wp.Calm.foldl Wp.giveUp_calm _ _).bandEntryFor _ _).raiseSurf s 8).async _ _ _)

theorem setReloc (h : Calm a b) (s : Fin 4) (band swath stripe : Nat) : Calm a (b.setReloc s band swath stripe) :=
  ite ((h.modWp s _).exhaust s band) (h.modWp s _)

theorem movePointer (h : Calm a b) (s : Fin 4) (p : Pass) (cut : Bool) : Calm a (b.movePointer s p cut) := by
  unfold Block.movePointer
  dsimp only
  split
  · refine h.modWp s _ fun w => ?_
    split <;> exact ⟨id, id, id⟩
  · exact h.setReloc s _ _ _
  · exact h
  · exact h

theorem advanceVseq (h : Calm a b) (s : Fin 4) : Calm a (b.advanceVseq s) :=
  (h.setFld _ _ (guardedReg_vseq s)).modWp s _

theorem cutPass (h : Calm a b) (s : Fin 4) : Calm a (b.cutPass s) := by
  unfold Block.cutPass
  extract_lets b1 b2
  have h2 : Calm a b2 := (h.clearGate (SEs_LSAFE_WGATE s) (gateReg_lsafe s)).putBit _ _ _
  split
  · exact h2
  · next p _ =>
    extract_lets b3 n b4 void b5 b6 b7
    have h4 : Calm a b4 := by
      show Calm a (match p.kind with | .test => b3 | _ => b3.addStripes s p _)
      split
      · exact h2.sedge s _
      · exact (h2.sedge s _).addStripes s p _
    have h6 : Calm a b6 := (h4.modWp s (fun w => { w with running := none }) fun _ => ⟨fun _ => rfl, id, id⟩).movePointer s p true
    exact (ite (h6.raiseSurf s 9) h6).advanceVseq s

theorem cancelPlan (h : Calm a b) (s : Fin 4) : Calm a (b.cancelPlan s) := by
  unfold Block.cancelPlan
  split
  · exact h
  · next p _ =>
    extract_lets b1 b2 mine b3
    have h1 : Calm a b1 := h.sedge s _
    have h3 : Calm a b3 := (ite h1 (h1.setFld _ _ (guardedReg_wseq s)) : Calm a b2).modWp s _ fun _ => ⟨id, fun _ => rfl, id⟩
    exact h3.putBit _ _ _

/-! #### Calibrations that end (R475, R479) -/

theorem telRecord (h : Calm a b) (set inst : Nat) (fields : List (Nat × Nat × Nat)) : Calm a (b.telRecord set inst fields) :=
  ite h (ite ((h.modCal _).raise 51) (h.modCal _))

theorem calEnd (h : Calm a b) (s : Fin 4) (result : Nat) (values : List Nat) : Calm a (b.calEnd s result values) := by
  unfold Block.calEnd
  split
  · exact h
  · exact (((h.modCalSurf s _).putBit CAL_STAT_BUSY _ _).setFld CAL_STAT_KIND _).telRecord _ _ _

theorem calAbandon (h : Calm a b) (s : Fin 4) : Calm a (b.calAbandon s) := by
  unfold Block.calAbandon
  split
  · exact h
  · have h1 := (h.calEnd s 2 []).bump CAL_CNT_ABANDON 1
    exact (ite (h1.setFld _ _ (guardedReg_calWp s)) h1).raise 49

/-! #### Spindles -/

theorem commitData (h : Calm a b) (w : Nat) (v : Word) : Calm a (b.commitData w v) :=
  ite (h.modLe _) (h.wr _ _ (guardedReg_dmem (Nat.mod_lt _ (by decide))))

theorem applyHolds (h : Calm a b) (s : Fin 4) : Calm a (b.applyHolds s) :=
  have h1 := ite (p := b.ldenHeld s = true) (h.clearGate (SEs_LSAFE_LDEN s) (gateReg_lsafe s)) h
  ite (h1.clearGate _ (gateReg_lsafe s)) h1

theorem unlock (h : Calm a b) (n : Fin 2) (event : Bool) : Calm a (b.unlock n event) := by
  unfold Block.unlock
  have h1 := ((((h.setFld (SPn_STAT_LOCK n) 0 (guardedReg_spStat n)).cutPass (Fin.ofNat 4 (2 * n.val))).cutPass
    (Fin.ofNat 4 (2 * n.val + 1))).applyHolds (Fin.ofNat 4 (2 * n.val))).applyHolds (Fin.ofNat 4 (2 * n.val + 1))
  exact ite h (ite (h1.raiseSpin n 1) h1)

theorem spGo (h : Calm a b) (n : Fin 2) (st : Nat) (lossy : Bool) : Calm a (b.spGo n st lossy) := by
  unfold Block.spGo
  extract_lets b1 b2 b3 b4 b5 b6 b7
  have h4 : Calm a b4 := (((h.setFld _ _ (guardedReg_spStat n)).setBit _ _ (guardedReg_spStat n)).commitData _ _).modSpin n _
  have h5 : Calm a b5 := ite h4 (h4.unlock n _)
  have h6 : Calm a b6 := ite (h5.bump _ _ (guardedReg_spCnt n)) h5
  have h7 : Calm a b7 := ite (h6.raiseSpin n 6) h6
  exact ite (h7.raiseSpin n 10) h7

theorem spRcap (h : Calm a b) (n : Fin 2) : Calm a (b.spRcap n) :=
  h.onSpin (ite h ((h.setBit _ _ (guardedReg_spStat n)).raiseSpin n 8))

theorem spRef (h : Calm a b) (n : Fin 2) (rpm : Nat) : Calm a (b.spRef n rpm) := (h.modSpin n _).commitData _ _

theorem spRetarget (h : Calm a b) (n : Fin 2) : Calm a (b.spRetarget n) := by
  unfold Block.spRetarget
  extract_lets x v st
  have hm : ∀ (c : Block) (f : Spin → Spin), Calm a c → Calm a (c.modSpin n f) := fun c f hc => hc.modSpin n f
  have hgo : ∀ c, Calm a c → Calm a ((c.spRef n v).spGo n 7 false) := fun c hc => (hc.spRef n v).spGo n 7 false
  exact ite (ite (hm _ _ h) (ite (hgo _ (hm _ _ h)) (hm _ _ h)))
    (ite (ite (hgo _ h) (h.spRef n v)) (ite (ite (hm _ _ h) (h.spRef n v)) h))

end Calm

/-! #### Discs that change their speed (R26, R27) -/

/-- Writing on a surface stops: a stop request, and no plan. -/
def Block.stopWrite (b : Block) (s : Fin 4) : Block := (b.modWp s fun w => { w with stop := true }).cancelPlan s

/-- One surface of `stopDisc`. -/
def Block.stopSurf (b : Block) (i : Nat) : Block :=
  b.onSurf (Fin.ofNat 4 i) fun b =>
    if (b.stopWrite (Fin.ofNat 4 i)).store.vol.vstate = 0 then b.stopWrite (Fin.ofNat 4 i)
    else (b.stopWrite (Fin.ofNat 4 i)).modPw fun p => { p with await := insertSrc i p.await }

theorem Block.stopDisc_eq (b : Block) (n : Nat) : b.stopDisc n = (b.stopSurf (2 * n)).stopSurf (2 * n + 1) := rfl

namespace Calm

variable {a b : Block}

theorem stopWrite (h : Calm a b) (s : Fin 4) : Calm a (b.stopWrite s) :=
  (h.modWp s (fun w => { w with stop := true }) fun _ => ⟨id, id, fun _ => rfl⟩).cancelPlan s

theorem stopSurf (h : Calm a b) (i : Nat) : Calm a (b.stopSurf i) :=
  h.onSurf (ite (h.stopWrite _) ((h.stopWrite _).modPw _))

theorem stopDisc (h : Calm a b) (n : Nat) : Calm a (b.stopDisc n) := (h.stopSurf _).stopSurf _

theorem discMoves (h : Calm a b) : Calm a b.discMoves :=
  h.foldl fun _ _ _ hc => ite hc ((hc.modPw _).spRetarget _)

theorem discChange (h : Calm a b) (n : Nat) : Calm a (b.discChange n) := (((h.stopDisc n).spRcap _).modPw _).discMoves

end Calm

/-! #### Outputs off (R452) -/

/-- One surface of `outputsOff`: lasers and gates off, its pass and its calibration cut. -/
def Block.surfOff (b : Block) (i : Nat) : Block :=
  b.onSurf (Fin.ofNat 4 i) fun b =>
    ((((((b.setFld (SEs_LSAFE_LDEN (Fin.ofNat 4 i)) 0).setFld (SEs_LSAFE_WGATE (Fin.ofNat 4 i)) 0).setFld
      (SEs_LSAFE_MODE (Fin.ofNat 4 i)) 0).sendPower (Fin.ofNat 4 i)).cutPass (Fin.ofNat 4 i)).cancelPlan
      (Fin.ofNat 4 i)).calAbandon (Fin.ofNat 4 i)

/-- One spindle of it: it coasts. -/
def Block.spinOff (b : Block) (i : Nat) : Block :=
  b.onSpin (Fin.ofNat 2 i) fun b =>
    if b.spState (Fin.ofNat 2 i) = 0 ∨ b.spState (Fin.ofNat 2 i) = 12 then b
    else (b.spClear (Fin.ofNat 2 i)).spGo (Fin.ofNat 2 i) 8 false

/-- One axis of it: its coils are off, and it is no longer homed. -/
def Block.axisOff (b : Block) (a : Nat) : Block :=
  b.onAxis (Fin.ofNat 9 a) fun b =>
    (b.setFld (AXa_STAT_HOMED a) 0).modAxis (Fin.ofNat 9 a) fun x => { x with curOut := 0 }

theorem Block.outputsOff_eq (b : Block) :
    b.outputsOff = (List.range 9).foldl Block.axisOff ((List.range 2).foldl Block.spinOff ((List.range 4).foldl Block.surfOff b)) :=
  rfl

namespace Calm

variable {a b : Block}

theorem surfOff (h : Calm a b) (i : Nat) : Calm a (b.surfOff i) :=
  h.onSurf ((((((h.clearGate (SEs_LSAFE_LDEN (Fin.ofNat 4 i)) (gateReg_lsafe _)).clearGate
    (SEs_LSAFE_WGATE (Fin.ofNat 4 i)) (gateReg_lsafe _)).clearGate (SEs_LSAFE_MODE (Fin.ofNat 4 i))
    (gateReg_lsafe _)).sendPower _).cutPass _).cancelPlan _ |>.calAbandon _)

theorem spinOff (h : Calm a b) (i : Nat) : Calm a (b.spinOff i) := h.onSpin (ite h ((h.modSpin _ _).spGo _ 8 false))

theorem axisOff (h : Calm a b) {i : Nat} (hi : i < 9) : Calm a (b.axisOff i) :=
  ite ((h.clearGate (AXa_STAT_HOMED i) (gateReg_axis hi)).modAxis _ _) h

theorem outputsOff (h : Calm a b) : Calm a b.outputsOff :=
  foldl (foldl (foldl h fun _ _ _ hc => hc.surfOff _) fun _ _ _ hc => hc.spinOff _) fun _ _ hi hc =>
    hc.axisOff (List.mem_range.mp hi)

end Calm

namespace Calm

variable {a b : Block}

/-! #### DRAM writes and completions of Peat (R352, R370) -/

theorem putWordAddr (h : Calm a b) {lo hi : Fld} (w : Nat) (hlo : guardedReg lo.reg = false := by rfl)
    (hhi : guardedReg hi.reg = false := by rfl) : Calm a (b.putWordAddr lo hi w) := (h.setFld _ _ hlo).setFld _ _ hhi

theorem corrected (h : Calm a b) (w sym : Nat) : Calm a (b.corrected w sym) := by
  unfold Block.corrected
  have h1 := ((h.bump DR_CE_CNT_COUNT 1).putWordAddr (lo := DR_CE_ADDR_LO_ADDR) (hi := DR_CE_ADDR_HI_ADDR) w).setFld
    DR_CE_ADDR_LO_SYM sym
  exact ite (((h1.setFld DR_CE_BKT_LEVEL 0).bump DR_CE_OVF_COUNT 1).raise 1352) (h1.setFld _ _)

theorem ueRecord (h : Calm a b) (w req : Nat) (scrub poison : Bool) : Calm a (b.ueRecord w req scrub poison) :=
  ((((h.putWordAddr w).setBit DR_UE_INFO_POISON _).setBit DR_UE_INFO_SCRUB _).setFld DR_UE_INFO_REQ _).bump
    DR_UE_INFO_COUNT 1

theorem flushEntry (h : Calm a b) (e : MergeEntry) : Calm a (b.flushEntry e) := by
  unfold Block.flushEntry
  have h1 := h.modDram fun d => d.mergeOut e
  exact ite (h1.modDram _) (ite h1 (ite ((h1.corrected _ _).modDram _) ((h1.ueRecord _ _ _ _).raise 1356)))

theorem mergeWrite (h : Calm a b) (n : Nat) (bytes : List Byte) : Calm a (b.mergeWrite n bytes) := by
  unfold Block.mergeWrite Block.mergeRoom
  refine ite (h.modDram _) (modDram ?_ _)
  split
  · exact h
  · exact ite (h.flushEntry _) h

theorem mergeFull (h : Calm a b) (w : Nat) : Calm a (b.mergeFull w) := by
  unfold Block.mergeFull
  split
  · exact ite (h.flushEntry _) h
  · exact h

theorem writeWord (h : Calm a b) (n : Nat) (bytes : List Byte) : Calm a (b.writeWord n bytes) := by
  unfold Block.writeWord
  exact ite ((h.modDram _).modDram _) ((((h.modDram _).mergeWrite n bytes).setFld DR_MERGE_PEAK _).mergeFull _)

theorem dramWriteN (h : Calm a b) (fuel n : Nat) (bytes : List Byte) : Calm a (b.dramWriteN fuel n bytes) := by
  induction fuel generalizing b n bytes with
  | zero => exact h
  | succ fuel ih =>
    unfold Block.dramWriteN
    exact ite h (ih (h.writeWord _ _) _ _)

theorem ptEnd (h : Calm a b) (d : PtDesc) (status detail info : Nat) : Calm a (b.ptEnd d status detail info) := by
  unfold Block.ptEnd Block.ptPost
  extract_lets t ph bytes b1 wrap b2 b3 b4
  have h2 : Calm a b2 := Calm.setFld (dramWriteN h _ _ _) _ _
  have h3 : Calm a b3 := ite (h2.setFld _ _) h2
  have h4 : Calm a b4 := ite (h3.raise 1288) h3
  exact ite (h4.raise 1289) h4

/-! #### Records of Peat (R355, R357, R359) -/

theorem ptJrnlFree (h : Calm a b) : Calm a b.ptJrnlFree := by
  unfold Block.ptJrnlFree
  extract_lets was now full b1 b2 b3
  have h2 : Calm a b2 := ite ((h.setFld _ _).raise 1299) (h.setFld _ _)
  exact (ite (h2.raise 1300) h2 : Calm a b3).setJfull _

theorem ptRecDone (h : Calm a b) (jseq : Nat) : Calm a (b.ptRecDone jseq) := by
  unfold Block.ptRecDone
  extract_lets b1 ck b2 top b3
  have h1 : Calm a b1 := h.modPt _
  have h2 : Calm a b2 := ite (h1.modPt _) h1
  exact (ite ((h2.setFld _ _).setFld _ _) h2 : Calm a b3).ptJrnlFree

theorem ptOwn (h : Calm a b) (jtype key code : Nat) (more : List (Nat × Nat × Nat)) :
    Calm a (b.ptOwn jtype key code more) := (h.modPt _).ptRecDone _

theorem modPtBlock (h : Calm a b) (key : Nat) (f : PtBlock → PtBlock) : Calm a (b.modPtBlock key f) := h.modPt _

theorem ptFull (h : Calm a b) (key : Nat) : Calm a (b.ptFull key) := ite ((h.modPtBlock _ _).ptOwn _ _ _ _) h

theorem ptReserve (h : Calm a b) (die before : Nat) : Calm a (b.ptReserve die before) := ite (h.raise _) h

theorem ptMoveRebuilt (h : Calm a b) (old : List Nat) (e : Nat × Nat) : Calm a (b.ptMoveRebuilt old e) := by
  unfold Block.ptMoveRebuilt
  extract_lets die mine c before
  split
  · exact h
  · next k _ =>
    extract_lets n b1 b2 b3
    have h1 : Calm a b1 := ite h (((h.modPtBlock k _).ptOwn _ _ _ _).ptReserve _ _)
    have h3 : Calm a b3 := (h1.modPt _).modPtBlock k _
    exact (h3.ptOwn _ _ _ _).ptFull k

theorem dumpPage (h : Calm a b) (dies : List Nat) (rsv : List (Nat × List Nat)) (i : Nat) (us : List Chunk) :
    Calm a (b.dumpPage dies rsv i us) := by
  unfold Block.dumpPage
  dsimp only
  split
  · exact h
  · exact (h.modPt _).modPtBlock _ _

theorem dump (h : Calm a b) (todo : List Nat) (n : Nat) (whole : Bool) : Calm a (b.dump todo n whole) := by
  unfold Block.dump
  exact modStore (foldl (foldl h fun _ _ _ hc => hc.dumpPage _ _ _ _) fun _ _ _ hc => hc.ptOwn _ _ _ _) _

theorem ptStaged (h : Calm a b) : Calm a b.ptStaged := by
  unfold Block.ptStaged Block.releaseDram Block.modChunks Block.purgeOlds
  exact ((((((h.modStore _).modHq _).modStore _).modPt _).modStore _).modHq _)

/-! #### The keys, the host interface, the partner, the volume -/

theorem clearPage (h : Calm a b) (p : Fin 16) (nokey : Bool) : Calm a (b.clearPage p nokey) :=
  ((((h.modCx _).setBit _ _ (guardedReg_cxStat p)).setBit _ _ (guardedReg_cxStat p)).setFld _ _
    (guardedReg_cxKcvLo p)).setFld _ _ (guardedReg_cxKcvHi p)

theorem keysGone (h : Calm a b) : Calm a b.keysGone := h.foldl fun _ _ _ hc => ite (hc.finish _ _) hc

theorem keyAlarm (h : Calm a b) (k : KeyAlarm) : Calm a (b.keyAlarm k) := by
  unfold Block.keyAlarm
  extract_lets b1 b2 b3 b4 b5
  have h1 : Calm a b1 := by
    cases k <;> exact h.setBit _ _
  have h3 : Calm a b3 := (h1.modCx _).foldl fun _ _ _ hc => hc.clearPage _ _
  exact (((((h3.setBit _ _).bump _ _).raise 1402).modVol _ : Calm a b5).keysGone).async _ _ _

theorem dropPair₀ (h : Calm a b) : Calm a (b.dropPair 0) :=
  (((((h.putBit _ _ _).putBit _ _ _).wr _ _).wr _ _).wr _ _).wr _ _

theorem tryReady (h : Calm a b) : Calm a b.tryReady := by
  unfold Block.tryReady Block.makePair
  have hp : ∀ sqs cqs vec cls, Calm a (((((((b.dropPair 0).putBit (HQ_PAIR_k_EXISTS (0 / 32)) (0 % 32) true).setFld
      (HQ_Pq_CFG_SQS 0) sqs).setFld (HQ_Pq_CFG_CQS 0) cqs).setFld (HQ_Pq_CQ_PHASE 0) 1).setFld (HQ_Pq_ATTR_VEC 0) vec).setFld
      (HQ_Pq_ATTR_CLASS 0) cls) := fun _ _ _ _ =>
    (((((h.dropPair₀.putBit _ _ _).setFld _ _).setFld _ _).setFld _ _).setFld _ _).setFld _ _
  exact ite h (ite ((h.setBit _ _).raise 197) (((hp _ _ _ _).setBit _ _).raise 199))

theorem melarSend (h : Calm a b) (type arg : Nat) (payload : List Byte) : Calm a (b.melarSend type arg payload) :=
  ite h (h.trans { refl with ml := ⟨rfl, rfl⟩ })

theorem unload (h : Calm a b) : Calm a b.unload := by
  unfold Block.unload
  refine modStore (modHq (foldl h fun c i _ hc => ?_) _) _
  exact (hc.foldl fun _ _ _ hd => hd.voidEntry _ _ _).modWp _ _ fun _ => ⟨fun _ => rfl, fun _ => rfl, id⟩

end Calm

/-! ### The state after reset (R24, R45, R457, R487) -/

theorem Block.rd_initial (p : Part) {o : Nat} (h : o ≠ PW_STAT) : (Block.initial p).rd o = resetVal p o := by
  simp only [Block.rd, Block.initial, SMap.get, if_neg h.symm]

theorem Block.initial_rmode (p : Part) : (Block.initial p).fld PW_STAT_RMODE = 1 := by cases p <;> rfl

/-- Settles O2: each part of it is read off the initial state; the only register listed there is PW_STAT. -/
theorem resetState : Obligations.ResetState := by
  unfold Obligations.ResetState
  refine ⟨rfl, rfl, rfl, ?_, fun o ho => Block.rd_initial .pl6416 ho, rfl, rfl, rfl, rfl, rfl, rfl, rfl, rfl, rfl, rfl, rfl,
    rfl, rfl⟩
  exact (Block.on_eq _ _).trans (decide_eq_true (by rw [State.reset, Block.initial_rmode]; decide))

/-! ### Power modes (R24 to R27, R448 to R450, R461 to R466) -/

/-- A command whose meaning is a change of the block does what the changed block shows. -/
theorem does_upd {i : Instr} {s : State} {f : Block → Block} {P : State → Prop} (hi : exec i s = s.upd f)
    (hP : P { s with toBlock := f s.toBlock }) : Does i s P := ⟨_, hi, rfl, hP⟩

/-- A meaning that leaves the block as it is answers the same state. -/
theorem State.upd_same {s : State} {f : Block → Block} (hf : f s.toBlock = s.toBlock) : s.upd f = .next s := by
  rw [State.upd, hf]

theorem srcPresent_power (p : Part) {n : Nat} (h : n < 200) : srcPresent p n = true := if_pos h

/-! #### Entering and leaving reduced mode -/

@[simp] theorem Block.vget_modWp_same (b : Block) (s : Fin 4) (f : Wp → Wp) : vget (b.modWp s f).wp s = f (vget b.wp s) :=
  vget_vset_same ..

theorem Block.cancelPlan_planned (b : Block) (s : Fin 4) : (vget (b.cancelPlan s).wp s).planned = none := by
  unfold Block.cancelPlan
  split
  · assumption
  · next p _ =>
    extract_lets b1 b2 mine b3
    show (vget b3.wp s).planned = none
    rw [Block.vget_modWp_same]

theorem Block.cutPass_running (b : Block) (s : Fin 4) : (vget (b.cutPass s).wp s).running = none := by
  unfold Block.cutPass
  extract_lets b1 b2
  split
  · assumption
  · next p _ =>
    extract_lets b3 n b4 void b5 b6 b7
    have h5 : (vget b5.wp s).running = none := by rw [Block.vget_modWp_same]
    have h6 : Calm b5 b6 := Calm.refl.movePointer s p true
    have h7 : Calm b5 (b7.advanceVseq s) := (Calm.ite (h6.raiseSurf s 9) h6 : Calm b5 b7).advanceVseq s
    exact (h7.wp s).running h5

theorem Block.stopWrite_stops (b : Block) (s : Fin 4) :
    (vget (b.stopWrite s).wp s).stop = true ∧ (vget (b.stopWrite s).wp s).planned = none :=
  ⟨((Calm.refl.cancelPlan s).wp s).stop (by rw [Block.vget_modWp_same]), Block.cancelPlan_planned _ s⟩

theorem Block.stopSurf_stops (b : Block) {i : Nat} {u : Fin 4} (hi : Fin.ofNat 4 i = u) (hu : b.part.hasSurf u = true) :
    (vget (b.stopSurf i).wp u).stop = true ∧ (vget (b.stopSurf i).wp u).planned = none := by
  unfold Block.stopSurf Block.onSurf
  rw [hi, if_pos hu]
  dsimp only
  split <;> exact Block.stopWrite_stops b u

/-- Both surfaces of a disc that the part has stop writing. -/
theorem Block.stopDisc_stops (b : Block) {n : Nat} {u : Fin 4} (hn : u.val / 2 = n) (hu : b.part.hasSurf u = true) :
    (vget (b.stopDisc n).wp u).stop = true ∧ (vget (b.stopDisc n).wp u).planned = none := by
  have h0 : Calm b (b.stopSurf (2 * n)) := Calm.refl.stopSurf _
  have h1 : Calm (b.stopSurf (2 * n)) (b.stopDisc n) := Calm.refl.stopSurf _
  rcases Nat.mod_two_eq_zero_or_one u.val with hp | hp
  · have hs := b.stopSurf_stops (i := 2 * n) (Fin.ext (by simp only [Fin.ofNat]; omega)) hu
    exact ⟨(h1.wp u).stop hs.1, (h1.wp u).planned hs.2⟩
  · exact Block.stopSurf_stops _ (i := 2 * n + 1) (Fin.ext (by simp only [Fin.ofNat]; omega)) (h0.part ▸ hu)

theorem Block.discChange_stops (b : Block) {n : Nat} {u : Fin 4} (hn : u.val / 2 = n) (hu : b.part.hasSurf u = true) :
    (vget (b.discChange n).wp u).stop = true ∧ (vget (b.discChange n).wp u).planned = none := by
  have h : Calm (b.stopDisc n) (b.discChange n) := ((Calm.refl.spRcap _).modPw _).discMoves
  exact ⟨(h.wp u).stop (b.stopDisc_stops hn hu).1, (h.wp u).planned (b.stopDisc_stops hn hu).2⟩

/-! What a change of speed leaves of the power unit and of the other disc. -/

theorem Block.raise_pw (b : Block) (n : Nat) : (b.raise n).pw = b.pw :=
  (frame_raise (l₀ := [.regs, .irq, .ml, .out]) .refl n (List.Subset.refl _)).same .pw (by decide)

theorem Block.raise_spin (b : Block) (n : Nat) : (b.raise n).spin = b.spin :=
  (frame_raise (l₀ := [.regs, .irq, .ml, .out]) .refl n (List.Subset.refl _)).same .spin (by decide)

theorem Block.raise_hq (b : Block) (n : Nat) : (b.raise n).hq = b.hq :=
  (frame_raise (l₀ := [.regs, .irq, .ml, .out]) .refl n (List.Subset.refl _)).same .hq (by decide)

theorem Block.async_frame (b : Block) (t info data : Nat) : Frame [.hq] b (b.async t info data) :=
  frame_async .refl t info data (List.Subset.refl _)

theorem Block.spRcap_frame (b : Block) (n : Fin 2) : Frame [.regs, .irq, .ml, .out] b (b.spRcap n) :=
  frame_spRcap .refl n (List.Subset.refl _)

theorem Block.stopDisc_frame (b : Block) (n : Nat) : Frame [.regs, .wp, .pw, .out] b (b.stopDisc n) :=
  frame_stopDisc .refl n (List.Subset.refl _)

theorem Block.unlock_spin (b : Block) (n : Fin 2) (e : Bool) : (b.unlock n e).spin = b.spin :=
  (frame_unlock (l₀ := [.regs, .irq, .servo, .wp, .hq, .store, .ml, .out]) .refl n e (List.Subset.refl _)).same .spin
    (by decide)

theorem Block.commitData_spin (b : Block) (w : Nat) (v : Word) : (b.commitData w v).spin = b.spin := by
  unfold Block.commitData
  dsimp only
  split <;> rfl

theorem Block.vget_modSpin_ne (b : Block) {n m : Fin 2} (h : m ≠ n) (f : Spin → Spin) :
    vget (b.modSpin n f).spin m = vget b.spin m := by
  simp only [Block.modSpin, vmod, vget, vset]
  exact Vector.getElem_set_ne _ _ (fun he => h (Fin.ext he.symm))

theorem Block.spGo_spin_ne (b : Block) {n m : Fin 2} (h : m ≠ n) (st : Nat) (lossy : Bool) :
    vget (b.spGo n st lossy).spin m = vget b.spin m := by
  unfold Block.spGo
  extract_lets b1 b2 b3 b4 b5 b6 b7
  have h4 : vget b4.spin m = vget b.spin m := by
    rw [Block.vget_modSpin_ne _ h, Block.commitData_spin]
    rfl
  have h5 : b5.spin = b4.spin := by
    show (if _ then b4 else _ : Block).spin = _
    split
    · rfl
    · exact Block.unlock_spin ..
  have h6 : b6.spin = b5.spin := by
    show (if _ then _ else b5 : Block).spin = _
    split <;> rfl
  have h7 : b7.spin = b6.spin := by
    show (if _ then _ else b6 : Block).spin = _
    split
    · exact Block.raise_spin ..
    · rfl
  rw [← h4, ← h5, ← h6, ← h7]
  split
  · rw [Block.raiseSpin, Block.raise_spin]
  · rfl

theorem Block.spRef_spin_ne (b : Block) {n m : Fin 2} (h : m ≠ n) (rpm : Nat) :
    vget (b.spRef n rpm).spin m = vget b.spin m := by
  rw [Block.spRef, Block.commitData_spin, Block.vget_modSpin_ne _ h]

theorem Block.spRetarget_spin_ne (b : Block) {n m : Fin 2} (h : m ≠ n) : vget (b.spRetarget n).spin m = vget b.spin m := by
  unfold Block.spRetarget
  dsimp only
  repeat' split
  all_goals simp only [Block.spGo_spin_ne _ h, Block.spRef_spin_ne _ h, Block.vget_modSpin_ne _ h]

theorem Block.spRetarget_pw (b : Block) (n : Fin 2) : (b.spRetarget n).pw = b.pw :=
  (frame_spRetarget (l₀ := [.regs, .irq, .le, .servo, .spin, .wp, .hq, .store, .ml, .out]) .refl n
    (List.Subset.refl _)).same .pw (by decide)

/-- Discs that move leave the turn and the quiet mark of reduced mode alone. -/
theorem Block.discMoves_pw (b : Block) : b.discMoves.pw.turn = b.pw.turn ∧ b.discMoves.pw.quiet = b.pw.quiet := by
  unfold Block.discMoves
  refine List.foldlRecOn (motive := fun c : Block => c.pw.turn = b.pw.turn ∧ c.pw.quiet = b.pw.quiet) _ _ ⟨rfl, rfl⟩
    fun c hc n _ => ?_
  split
  · exact hc
  · rw [Block.spRetarget_pw]
    exact hc

/-- A spindle whose disc is not among those that move keeps its state. -/
theorem Block.discMoves_spin (b : Block) {m : Fin 2} (h : ∀ n ∈ b.pw.move, m ≠ Fin.ofNat 2 n) :
    vget b.discMoves.spin m = vget b.spin m := by
  unfold Block.discMoves
  refine List.foldlRecOn (motive := fun c : Block => vget c.spin m = vget b.spin m) _ _ rfl fun c hc n hn => ?_
  split
  · exact hc
  · rw [Block.spRetarget_spin_ne _ (h n hn)]
    exact hc

/-- Stopping a disc's writing adds to the surfaces that wait for their check, and changes nothing else of the power unit. -/
theorem Block.stopSurf_pw (b : Block) (i : Nat) :
    (b.stopSurf i).pw.turn = b.pw.turn ∧ (b.stopSurf i).pw.quiet = b.pw.quiet ∧ (b.stopSurf i).pw.move = b.pw.move := by
  have hw : (b.stopWrite (Fin.ofNat 4 i)).pw = b.pw :=
    (frame_cancelPlan (l₀ := [.regs, .wp, .out]) (b₀ := b.modWp _ _) .refl _ (List.Subset.refl _)).same .pw (by decide)
  unfold Block.stopSurf Block.onSurf
  dsimp only
  split
  · split
    · rw [hw]
      exact ⟨rfl, rfl, rfl⟩
    · simp only [Block.modPw, hw, and_self]
  · exact ⟨rfl, rfl, rfl⟩

/-- The block before the moves that a disc's change makes at once. -/
def Block.discReady (b : Block) (n : Nat) : Block :=
  ((b.stopDisc n).spRcap (Fin.ofNat 2 n)).modPw fun p => { p with move := insertSrc n p.move }

theorem Block.discReady_pw (b : Block) (n : Nat) :
    (b.discReady n).pw.turn = b.pw.turn ∧ (b.discReady n).pw.quiet = b.pw.quiet ∧
      (b.discReady n).pw.move = insertSrc n b.pw.move := by
  have hr := ((b.stopDisc n).spRcap_frame (Fin.ofNat 2 n)).same .pw (by decide)
  rw [Block.same, Block.stopDisc_eq] at hr
  obtain ⟨ht, hq, hm⟩ := b.stopSurf_pw (2 * n)
  obtain ⟨ht', hq', hm'⟩ := (b.stopSurf (2 * n)).stopSurf_pw (2 * n + 1)
  simp only [Block.discReady, Block.modPw, hr, Block.stopDisc_eq, ht', hq', hm', ht, hq, hm, and_self]

theorem Block.discChange_pw (b : Block) (n : Nat) :
    (b.discChange n).pw.turn = b.pw.turn ∧ (b.discChange n).pw.quiet = b.pw.quiet := by
  obtain ⟨ht, hq, -⟩ := b.discReady_pw n
  obtain ⟨ht', hq'⟩ := (b.discReady n).discMoves_pw
  exact ⟨ht'.trans ht, hq'.trans hq⟩

/-- With no other disc about to move, a disc's change leaves the other spindle's state. -/
theorem Block.discChange_spin (b : Block) {n : Nat} {m : Fin 2} (hmv : b.pw.move = []) (h : m ≠ Fin.ofNat 2 n) :
    vget (b.discChange n).spin m = vget b.spin m := by
  have hspin : (b.discReady n).spin = b.spin :=
    (((b.stopDisc n).spRcap_frame (Fin.ofNat 2 n)).same .spin (by decide)).trans
      ((b.stopDisc_frame n).same .spin (by decide))
  have hmove : (b.discReady n).pw.move = [n] := by
    rw [(b.discReady_pw n).2.2, hmv]
    rfl
  have hd : vget (b.discReady n).discMoves.spin m = vget (b.discReady n).spin m :=
    Block.discMoves_spin _ fun k hk => by
      rw [hmove, List.mem_singleton] at hk
      rwa [hk]
  exact hd.trans (by rw [hspin])

/-- The flags and the event of a reduced mode that is entered. -/
def Block.reducedOn (b : Block) : Block :=
  (((b.setFld PW_STAT_RMODE 1).modPw fun p => { p with quiet := false, turn := [], move := [] }).raise 33).async 3 1 0

/-- A disc above 4,500 rpm slows down, another keeps writing. -/
def Block.slowDown (b : Block) (n : Nat) : Block :=
  if 4500 < (vget b.spin (Fin.ofNat 2 n)).ref then b.discChange n else b.spRcap (Fin.ofNat 2 n)

theorem Calm.slowDown {a b : Block} (h : Calm a b) (n : Nat) : Calm a (b.slowDown n) := ite (h.discChange n) (h.spRcap _)

theorem Block.slowDown_turn (b : Block) (n : Nat) : (b.slowDown n).pw.turn = b.pw.turn := by
  unfold Block.slowDown
  split
  · exact (b.discChange_pw n).1
  · rw [show (b.spRcap (Fin.ofNat 2 n)).pw = b.pw from (b.spRcap_frame _).same .pw (by decide)]

/-- The surfaces of a disc that was above 4,500 rpm stop writing. -/
theorem Block.slowDown_stops (b : Block) {n : Nat} {u : Fin 4} (hn : u.val / 2 = n) (hu : b.part.hasSurf u = true)
    (hr : 4500 < (vget b.spin (spinOf u)).ref) :
    (vget (b.slowDown n).wp u).stop = true ∧ (vget (b.slowDown n).wp u).planned = none := by
  subst hn
  rw [Block.slowDown, if_pos (show 4500 < (vget b.spin (Fin.ofNat 2 (u.val / 2))).ref from hr)]
  exact b.discChange_stops rfl hu

/-- The other disc's speed is not looked at again before its own turn. -/
theorem Block.slowDown_spin (b : Block) {n : Nat} {m : Fin 2} (hmv : b.pw.move = []) (h : m ≠ Fin.ofNat 2 n) :
    vget (b.slowDown n).spin m = vget b.spin m := by
  unfold Block.slowDown
  split
  · exact b.discChange_spin hmv h
  · rw [show (b.spRcap (Fin.ofNat 2 n)).spin = b.spin from (b.spRcap_frame _).same .spin (by decide)]

theorem exec_reducedModeEntry_on {s : State} (h : s.on PW_STAT_RMODE = true) : exec .reducedModeEntry s = .next s :=
  show execReducedModeEntry s = _ from State.upd_same (by exact if_pos h)

theorem exec_reducedModeEntry_off {s : State} (h : s.on PW_STAT_RMODE = false) :
    exec .reducedModeEntry s = .next { s with toBlock := (s.reducedOn.slowDown 0).slowDown 1 } := by
  change s.upd (fun b => if b.on PW_STAT_RMODE then b else (b.reducedOn.slowDown 0).slowDown 1) = _
  rw [State.upd, if_neg (by simp [h])]

theorem Block.reducedOn_pw (b : Block) : b.reducedOn.pw = { b.pw with quiet := false, turn := [], move := [] } :=
  ((Block.async_frame _ _ _ _).same .pw (by decide)).trans (Block.raise_pw _ _)

theorem Block.reducedOn_spin (b : Block) : b.reducedOn.spin = b.spin :=
  ((Block.async_frame _ _ _ _).same .spin (by decide)).trans (Block.raise_spin _ _)

theorem reducedModeEntry_does {s : State} (h : s.on PW_STAT_RMODE = false) :
    Does .reducedModeEntry s fun t => t.fld PW_STAT_RMODE = 1 ∧ t.raised 33 = true ∧ t.pw.turn = [] ∧
      ∀ u : Fin 4, s.part.hasSurf u = true → 4500 < (vget s.spin (spinOf u)).ref →
        (vget t.wp u).stop = true ∧ (vget t.wp u).planned = none := by
  refine ⟨_, exec_reducedModeEntry_off h, rfl, ?_⟩
  let b₀ := s.reducedOn
  have hpart : b₀.part = s.part := ((Calm.refl.raise 33).async 3 1 0).part
  have h1 : Calm b₀ (b₀.slowDown 0) := Calm.refl.slowDown 0
  have h2 : Calm (b₀.slowDown 0) ((b₀.slowDown 0).slowDown 1) := Calm.refl.slowDown 1
  refine ⟨?_, ?_, ?_, fun u hu hr => ?_⟩
  · have h0 : Calm ((s.setFld PW_STAT_RMODE 1).modPw fun p => { p with quiet := false, turn := [], move := [] }) b₀ :=
      (Calm.refl.raise 33).async 3 1 0
    exact ((h0.trans h1).trans h2).fld rfl |>.trans (Block.fld_setFld_same _ _ rfl _)
  · refine (h1.trans h2).raised 33 ((Calm.refl.async 3 1 0).raised 33 ?_)
    exact Block.raise_raised_same (srcPresent_power _ (by decide))
  · show ((b₀.slowDown 0).slowDown 1).pw.turn = []
    rw [Block.slowDown_turn, Block.slowDown_turn, Block.reducedOn_pw]
  · have hspin : vget b₀.spin (spinOf u) = vget s.spin (spinOf u) := by rw [Block.reducedOn_spin]
    rcases (by omega : u.val / 2 = 0 ∨ u.val / 2 = 1) with hn | hn
    · obtain ⟨hs, hp⟩ := b₀.slowDown_stops hn (hpart ▸ hu) (hspin ▸ hr)
      exact ⟨(h2.wp u).stop hs, (h2.wp u).planned hp⟩
    · have hne : spinOf u ≠ Fin.ofNat 2 0 := by simp [spinOf, hn]
      have hkeep : vget (b₀.slowDown 0).spin (spinOf u) = vget b₀.spin (spinOf u) :=
        b₀.slowDown_spin (by rw [Block.reducedOn_pw]) hne
      exact (b₀.slowDown 0).slowDown_stops hn (h1.part.trans hpart ▸ hu) (by rw [hkeep, hspin]; exact hr)

/-- The flags and the event of a reduced mode that is left. -/
def Block.reducedOff (b : Block) : Block :=
  ((b.setFld PW_STAT_RMODE 0).modPw fun p => { p with quiet := false }).raise 34

/-- Spindles at 4,500 rpm or below that are not stopped: they speed up in turn (R27). -/
def Block.slowDiscs (b : Block) : List Nat :=
  (List.range 2).filter fun n =>
    b.part.hasSpin n && decide ((vget b.spin (Fin.ofNat 2 n)).ref ≤ 4500) && decide (b.spState (Fin.ofNat 2 n) ≠ 0)

/-- The other discs take their speed cap at once, and the first of `l` changes its speed. -/
def Block.speedUp (b : Block) (l : List Nat) : Block :=
  let b := ((List.range 2).foldl (fun b n => if l.contains n then b else b.spRcap (Fin.ofNat 2 n)) b).modPw fun p =>
    { p with turn := l }
  match b.pw.turn with
  | n :: _ => b.discChange n
  | [] => b

theorem Calm.speedUp {a b : Block} (h : Calm a b) (l : List Nat) : Calm a (b.speedUp l) := by
  unfold Block.speedUp
  have h1 := (h.foldl (xs := List.range 2) fun _ n _ hc =>
    ite (p := l.contains n = true) hc (hc.spRcap (Fin.ofNat 2 n))).modPw fun p => { p with turn := l }
  dsimp only
  split
  · exact h1.discChange _
  · exact h1

theorem Block.speedUp_pw (b : Block) (l : List Nat) :
    (b.speedUp l).pw.turn = l ∧ (b.speedUp l).pw.quiet = b.pw.quiet := by
  unfold Block.speedUp
  extract_lets c
  have hc : c.pw = { b.pw with turn := l } := congrArg (fun p : Pwr => { p with turn := l }) <|
    List.foldlRecOn (motive := fun d : Block => d.pw = b.pw) _ _ rfl fun d hd n _ => by
      split
      · exact hd
      · exact ((d.spRcap_frame _).same .pw (by decide)).trans hd
  split
  · next n _ _ => exact ⟨(c.discChange_pw n).1.trans (hc ▸ rfl), (c.discChange_pw n).2.trans (hc ▸ rfl)⟩
  · exact ⟨hc ▸ rfl, hc ▸ rfl⟩

theorem Block.reducedOff_frame (b : Block) :
    Frame [.regs, .irq, .ml, .out] ((b.setFld PW_STAT_RMODE 0).modPw fun p => { p with quiet := false }) b.reducedOff :=
  frame_raise .refl 34 (List.Subset.refl _)

theorem spStat_ne_pwStat (n : Fin 2) : SPn_STAT n ≠ PW_STAT := by
  simp only [SPn_STAT, PW_STAT]
  omega

theorem irqReg_spStat (n : Fin 2) : irqReg (SPn_STAT n) = false := by
  simp only [irqReg, Bool.or_eq_false_iff, Bool.and_eq_false_iff, decide_eq_false_iff_not]
  simp only [IC_ERR, SPn_STAT, MSIX_PBA]
  omega

theorem Block.slowDiscs_reducedOff (b : Block) : (b.reducedOff.async 3 0 0).slowDiscs = b.slowDiscs := by
  have hf := b.reducedOff_frame
  have ha := b.reducedOff.async_frame 3 0 0
  have hpart : (b.reducedOff.async 3 0 0).part = b.part := (ha.same .part (by decide)).trans (hf.same .part (by decide))
  have hspin : (b.reducedOff.async 3 0 0).spin = b.spin := (ha.same .spin (by decide)).trans (hf.same .spin (by decide))
  have hst : ∀ n, (b.reducedOff.async 3 0 0).spState n = b.spState n := fun n => by
    have h1 : (b.reducedOff.async 3 0 0).rd (SPn_STAT n) = b.reducedOff.rd (SPn_STAT n) :=
      Block.rd_congr (ha.same .part (by decide)) (ha.same .regs (by decide)) _
    have h2 : b.reducedOff.rd (SPn_STAT n) = b.rd (SPn_STAT n) :=
      (Block.raise_rd _ _ (irqReg_spStat n)).trans (Block.rd_setFld_ne _ _ (spStat_ne_pwStat n) _)
    unfold Block.spState Block.fld
    exact congrArg _ (h1.trans h2)
  simp only [Block.slowDiscs, hpart, hspin, hst]

theorem exec_reducedModeExit_off {s : State} (h : s.on PW_STAT_RMODE = false) : exec .reducedModeExit s = .next s :=
  show execReducedModeExit s = _ from State.upd_same (by exact if_pos (by simp [h]))

theorem exec_reducedModeExit_on {s : State} (h : s.on PW_STAT_RMODE = true) :
    exec .reducedModeExit s = .next { s with
      toBlock := if s.pw.quiet then (s.reducedOff.spRcap 0).spRcap 1
        else (s.reducedOff.async 3 0 0).speedUp (s.reducedOff.async 3 0 0).slowDiscs } := by
  change s.upd (fun b => if !b.on PW_STAT_RMODE then b
    else if b.pw.quiet then (b.reducedOff.spRcap 0).spRcap 1
    else (b.reducedOff.async 3 0 0).speedUp (b.reducedOff.async 3 0 0).slowDiscs) = _
  rw [State.upd, if_neg (by simp [h])]

theorem reducedModeExit_does {s : State} (h : s.on PW_STAT_RMODE = true) :
    Does .reducedModeExit s fun t => t.fld PW_STAT_RMODE = 0 ∧ t.raised 34 = true ∧ t.pw.quiet = false ∧
      (s.pw.quiet = true → t.hq = s.hq ∧ t.pw.turn = s.pw.turn ∧ t.wp = s.wp) ∧
      (s.pw.quiet = false → t.pw.turn = s.slowDiscs) := by
  refine ⟨_, exec_reducedModeExit_on h, rfl, ?_⟩
  have hf := s.reducedOff_frame
  have hpw : s.reducedOff.pw = { s.pw with quiet := false } := hf.same .pw (by decide)
  have hmode : s.reducedOff.fld PW_STAT_RMODE = 0 :=
    (Block.raise_fld _ _ rfl).trans (Block.fld_setFld_same _ _ rfl _)
  have hup : s.reducedOff.raised 34 = true := Block.raise_raised_same (srcPresent_power _ (by decide))
  cases hq : s.pw.quiet with
  | true =>
    have hc : Calm s.reducedOff ((s.reducedOff.spRcap 0).spRcap 1) := (Calm.refl.spRcap 0).spRcap 1
    have hr : ∀ a, a ∉ [Area.regs, .irq, .ml, .out] → Block.same a s.reducedOff ((s.reducedOff.spRcap 0).spRcap 1) :=
      (frame_spRcap (s.reducedOff.spRcap_frame 0) 1 (List.Subset.refl _)).same
    have hp : ((s.reducedOff.spRcap 0).spRcap 1).pw = { s.pw with quiet := false } := (hr .pw (by decide)).trans hpw
    have hturn : ((s.reducedOff.spRcap 0).spRcap 1).pw.turn = s.pw.turn := by rw [hp]
    refine ⟨(hc.fld rfl).trans hmode, hc.raised 34 hup, congrArg Pwr.quiet hp, fun _ => ⟨?_, hturn, ?_⟩,
      fun h0 => Bool.noConfusion h0⟩
    · exact (hr .hq (by decide)).trans (hf.same .hq (by decide))
    · exact (hr .wp (by decide)).trans (hf.same .wp (by decide))
  | false =>
    let c := s.reducedOff.async 3 0 0
    have hc : Calm s.reducedOff (c.speedUp c.slowDiscs) := (Calm.refl.async 3 0 0).speedUp _
    have hcp : c.pw = { s.pw with quiet := false } := ((s.reducedOff.async_frame 3 0 0).same .pw (by decide)).trans hpw
    obtain ⟨ht, hqt⟩ := c.speedUp_pw c.slowDiscs
    exact ⟨(hc.fld rfl).trans hmode, hc.raised 34 hup, hqt.trans (congrArg Pwr.quiet hcp), fun h0 => Bool.noConfusion h0,
      fun _ => ht.trans s.slowDiscs_reducedOff⟩

/-! #### Hold-up: overvoltage, measurement, arming, boost fault (R448 to R450, R466) -/

theorem vinOvervoltage_does {s : State} (h : s.on PW_STAT_OVV = false) :
    Does .vinOvervoltage s fun t => t.fld PW_STAT_OVV = 1 ∧ t.raised 43 = true ∧
      Block.regsOnly [PW_STAT] s.toBlock t.toBlock := by
  refine ⟨{ s with toBlock := (s.setFld PW_STAT_OVV 1).raise 43 }, ?_, rfl, ?_, ?_, fun o ho hi => ?_⟩
  · change s.upd (fun b => if b.on PW_STAT_OVV then b else (b.setFld PW_STAT_OVV 1).raise 43) = _
    rw [State.upd, if_neg (by simp [h])]
  · exact (Block.raise_fld _ _ rfl).trans (Block.fld_setFld_same _ _ rfl _)
  · exact Block.raise_raised_same (srcPresent_power _ (by decide))
  · exact (Block.raise_rd _ _ hi).trans (Block.rd_setFld_ne _ _ (fun e => ho (List.mem_singleton.mpr e)) _)

theorem holdupCap_le (c dies : Nat) : holdupCap c dies ≤ 1024 := by
  have hmax : ∀ (l : List Nat) (m : Nat), m ≤ 16 → (∀ k ∈ l, k ≤ 16) → l.foldl max m ≤ 16 := by
    intro l
    induction l with
    | nil => exact fun _ h _ => h
    | cons k t ih =>
      exact fun m hm hl => ih _ (max_le hm (hl k List.mem_cons_self)) fun j hj => hl j (List.mem_cons_of_mem _ hj)
  have := hmax ((List.range 17).filter fun k => 64 * k ≤ 36 * dies &&
    15 * (12000 * 300 * dies + 64 * k * 1048576) ≤ 9248 * c * 300 * dies) 0 (by decide) fun k hk => by
      have := List.mem_range.mp (List.mem_filter.mp hk).1
      omega
  exact Nat.mul_le_mul_left 64 this

/-- Dies in service. -/
def Block.diesOn (b : Block) : Nat := ((List.range 32).filter fun d => !b.onBit PT_DIE_FAIL_FAIL d).length

/-- The figures of a measurement, and the allowance that follows. -/
def Block.measured (b : Block) (capf esr cap : Nat) : Block :=
  ((((b.setFld PW_HOLDUP_MEAS_CAPF capf).setFld PW_HOLDUP_MEAS_ESR esr).setFld PW_HOLDUP_CAP cap).setFld
    PW_STAT_MEAS_DONE 1).setAllow

theorem Block.fld_setAllow_apart (b : Block) {g : Fld} (h : PW_HOLDUP_ALLOW.apart g = true) : b.setAllow.fld g = b.fld g :=
  Block.fld_setFld_apart b.keepCover _ _ h _

theorem Block.fld_setAllow (b : Block) : b.setAllow.fld PW_HOLDUP_ALLOW = min b.hq.allow (b.fld PW_HOLDUP_CAP) := by
  have hlt : b.fld PW_HOLDUP_CAP < 2 ^ 16 := Block.fld_lt b PW_HOLDUP_CAP
  refine (Block.fld_setFld_same b.keepCover _ rfl _).trans (Nat.mod_eq_of_lt ?_)
  exact lt_of_le_of_lt (min_le_right _ _) hlt

theorem Block.measured_figures (b : Block) {capf esr cap : Nat} (h1 : capf < 2 ^ 16) (h2 : esr < 2 ^ 16) (h3 : cap < 2 ^ 16) :
    (b.measured capf esr cap).fld PW_STAT_MEAS_DONE = 1 ∧ (b.measured capf esr cap).fld PW_HOLDUP_MEAS_CAPF = capf ∧
      (b.measured capf esr cap).fld PW_HOLDUP_MEAS_ESR = esr ∧ (b.measured capf esr cap).fld PW_HOLDUP_CAP = cap ∧
      (b.measured capf esr cap).fld PW_HOLDUP_ALLOW = min b.hq.allow cap := by
  have hcap : ∀ c : Block, ((c.setFld PW_HOLDUP_CAP cap).setFld PW_STAT_MEAS_DONE 1).fld PW_HOLDUP_CAP = cap := fun c => by
    rw [Block.fld_setFld_apart _ _ _ rfl, Block.fld_setFld_same _ _ rfl]
    exact Nat.mod_eq_of_lt h3
  unfold Block.measured
  refine ⟨?_, ?_, ?_, ?_, ?_⟩
  · rw [Block.fld_setAllow_apart _ rfl, Block.fld_setFld_same _ _ rfl]
    rfl
  · rw [Block.fld_setAllow_apart _ rfl, Block.fld_setFld_apart _ _ _ rfl, Block.fld_setFld_apart _ _ _ rfl,
      Block.fld_setFld_apart _ _ _ rfl, Block.fld_setFld_same _ _ rfl]
    exact Nat.mod_eq_of_lt h1
  · rw [Block.fld_setAllow_apart _ rfl, Block.fld_setFld_apart _ _ _ rfl, Block.fld_setFld_apart _ _ _ rfl,
      Block.fld_setFld_same _ _ rfl]
    exact Nat.mod_eq_of_lt h2
  · rw [Block.fld_setAllow_apart _ rfl, hcap]
  · rw [Block.fld_setAllow, hcap]
    rfl

theorem holdupMeasure_does {s : State} (capf esr : BitVec 16) (h : s.on PW_STAT_MEAS_DONE = false) :
    Does (.holdupMeasure capf esr) s fun t => t.fld PW_STAT_MEAS_DONE = 1 ∧
      t.fld PW_HOLDUP_MEAS_CAPF = capf.toNat ∧ t.fld PW_HOLDUP_MEAS_ESR = esr.toNat ∧
      t.fld PW_HOLDUP_CAP = holdupCap capf.toNat s.diesOn ∧
      t.fld PW_HOLDUP_ALLOW = min s.hq.allow (holdupCap capf.toNat s.diesOn) ∧
      (holdupCap capf.toNat s.diesOn = 0 → t.raised 38 = true) := by
  let cap := holdupCap capf.toNat s.diesOn
  let b := s.measured capf.toNat esr.toNat cap
  refine ⟨{ s with toBlock := if cap = 0 then b.raise 38 else b }, ?_, rfl, ?_⟩
  · change s.upd (fun b => if b.on PW_STAT_MEAS_DONE then b
      else if holdupCap capf.toNat b.diesOn = 0
        then (b.measured capf.toNat esr.toNat (holdupCap capf.toNat b.diesOn)).raise 38
        else b.measured capf.toNat esr.toNat (holdupCap capf.toNat b.diesOn)) = _
    rw [State.upd, if_neg (by simp [h])]
  · have hc : Calm b (if cap = 0 then b.raise 38 else b) := Calm.ite (Calm.refl.raise 38) .refl
    obtain ⟨h1, h2, h3, h4, h5⟩ := s.measured_figures (cap := cap) capf.isLt esr.isLt
      (lt_of_le_of_lt (holdupCap_le _ _) (by decide))
    refine ⟨(hc.fld rfl).trans h1, (hc.fld rfl).trans h2, (hc.fld rfl).trans h3, (hc.fld rfl).trans h4,
      (hc.fld rfl).trans h5, fun h0 => ?_⟩
    show (if cap = 0 then b.raise 38 else b).raised 38 = true
    rw [if_pos h0]
    exact Block.raise_raised_same (srcPresent_power _ (by decide))

/-- The conditions of arming hold (R450). -/
def Block.mayArm (b : Block) : Bool :=
  b.on PW_STAT_MEAS_DONE && decide (2400 ≤ b.fld PW_VIN_VHOLD) && b.on PW_CTL_DYKE_EN && b.on PW_CTL_BOOST_EN &&
    (List.range 32).all fun d => b.onBit PT_DIE_FAIL_FAIL d || decide (3 ≤ b.ptErased d)

theorem Block.mayArm_iff (b : Block) : b.mayArm = true ↔ b.on PW_STAT_MEAS_DONE = true ∧ 2400 ≤ b.fld PW_VIN_VHOLD ∧
    b.on PW_CTL_DYKE_EN = true ∧ b.on PW_CTL_BOOST_EN = true ∧
    ∀ d, d < 32 → b.onBit PT_DIE_FAIL_FAIL d = true ∨ 3 ≤ b.ptErased d := by
  simp only [Block.mayArm, Bool.and_eq_true, decide_eq_true_eq, List.all_eq_true, Bool.or_eq_true, List.mem_range, and_assoc]

/-- The block that has armed, before the event of a lowered allowance. -/
def Block.armed (b : Block) : Block := ((b.setFld PW_STAT_ARMED 1).raise 35).setAllow

theorem exec_holdupArm (s : State) : exec .holdupArm s = s.upd fun b =>
    if b.on PW_STAT_ARMED || !b.mayArm then b
    else if b.armed.fld PW_HOLDUP_ALLOW < b.armed.hq.allow
      then (b.armed.raise 37).async 16 0 (b.armed.fld PW_HOLDUP_ALLOW) else b.armed := rfl

theorem exec_holdupArm_stays {s : State} (h : s.on PW_STAT_ARMED = true ∨ ¬ s.mayArm = true) :
    exec .holdupArm s = .next s :=
  (exec_holdupArm s).trans (State.upd_same (if_pos (by simpa using h)))

theorem holdupArm_does {s : State} (h : s.on PW_STAT_ARMED = false) (hm : s.mayArm = true) :
    Does .holdupArm s fun t => t.fld PW_STAT_ARMED = 1 ∧ t.raised 35 = true ∧
      t.fld PW_HOLDUP_ALLOW = min s.hq.allow (s.fld PW_HOLDUP_CAP) ∧
      (min s.hq.allow (s.fld PW_HOLDUP_CAP) < s.hq.allow → t.raised 37 = true) := by
  have hcalm : Calm (s.setFld PW_STAT_ARMED 1) ((s.setFld PW_STAT_ARMED 1).raise 35) := Calm.refl.raise 35
  have harmed : s.armed.fld PW_STAT_ARMED = 1 :=
    (Block.fld_setAllow_apart _ rfl).trans ((hcalm.fld rfl).trans (Block.fld_setFld_same _ _ rfl _))
  have hup : s.armed.raised 35 = true := Block.raise_raised_same (srcPresent_power _ (by decide))
  have hhq : ((s.setFld PW_STAT_ARMED 1).raise 35).hq = s.hq := Block.raise_hq _ _
  have hallow : s.armed.fld PW_HOLDUP_ALLOW = min s.hq.allow (s.fld PW_HOLDUP_CAP) := by
    refine (Block.fld_setAllow _).trans ?_
    rw [hhq, hcalm.fld rfl, Block.fld_setFld_apart _ _ _ rfl]
  have hask : s.armed.hq.allow = s.hq.allow := by
    show ((s.setFld PW_STAT_ARMED 1).raise 35).hq.allow = _
    rw [hhq]
  have hcut : (s.armed.raise 37).raised 37 = true := Block.raise_raised_same (srcPresent_power _ (by decide))
  let c := (s.armed.raise 37).async 16 0 (s.armed.fld PW_HOLDUP_ALLOW)
  have hc : Calm s.armed (if s.armed.fld PW_HOLDUP_ALLOW < s.armed.hq.allow then c else s.armed) :=
    Calm.ite ((Calm.refl.raise 37).async _ _ _) .refl
  refine ⟨{ s with toBlock := if s.armed.fld PW_HOLDUP_ALLOW < s.armed.hq.allow then c else s.armed }, ?_, rfl,
    (hc.fld rfl).trans harmed, hc.raised 35 hup, (hc.fld rfl).trans hallow, fun hlt => ?_⟩
  · rw [exec_holdupArm, State.upd, if_neg (by simp [h, hm])]
  have hlow : s.armed.fld PW_HOLDUP_ALLOW < s.armed.hq.allow := by
    rw [hallow, hask]
    exact hlt
  show (if s.armed.fld PW_HOLDUP_ALLOW < s.armed.hq.allow then c else s.armed).raised 37 = true
  rw [if_pos hlow]
  exact (Calm.refl.async 16 0 _).raised 37 hcut

theorem exec_boostFault_off {s : State} (h : s.on PW_STAT_ARMED = false) : exec .boostFault s = .next s :=
  show execBoostFault s = _ from State.upd_same (by exact if_neg (by simp [h]))

/-- The block whose boost has failed, before the event. -/
def Block.boostOff (b : Block) : Block :=
  ((b.setFld PW_STAT_BOOST_FLT 1).setFld PW_STAT_ARMED 0).modHq fun h => { h with cover := 0 }

theorem exec_boostFault (s : State) : exec .boostFault s = s.upd fun b =>
    if b.on PW_STAT_ARMED then b.boostOff.raise 36 else b := rfl

theorem boostFault_does {s : State} (h : s.on PW_STAT_ARMED = true) :
    Does .boostFault s fun t => t.fld PW_STAT_ARMED = 0 ∧ t.fld PW_STAT_BOOST_FLT = 1 ∧ t.raised 36 = true := by
  have hc : Calm s.boostOff (s.boostOff.raise 36) := Calm.refl.raise 36
  have harmed : s.boostOff.fld PW_STAT_ARMED = 0 := by
    rw [Block.boostOff, Block.modHq_fld, Block.fld_setFld_same _ _ rfl]
    rfl
  have hflt : s.boostOff.fld PW_STAT_BOOST_FLT = 1 := by
    rw [Block.boostOff, Block.modHq_fld, Block.fld_setFld_apart _ _ _ rfl, Block.fld_setFld_same _ _ rfl]
    rfl
  have hup : (s.boostOff.raise 36).raised 36 = true := Block.raise_raised_same (srcPresent_power _ (by decide))
  refine ⟨{ s with toBlock := s.boostOff.raise 36 }, ?_, rfl, (hc.fld rfl).trans harmed, (hc.fld rfl).trans hflt, hup⟩
  rw [exec_boostFault, State.upd, if_pos h]

/-! #### The Bittern watch: sleep, wake, looks, pads (R460 to R464) -/

/-- A sleep is not asked for, or a command other than ASYNC EVENT is there (R463). -/
def State.stays (s : State) : Prop := s.pw.sleep = false ∨ ∃ c ∈ s.hq.cmds, c.opc ≠ 0x10

theorem State.stays_iff (s : State) : s.stays ↔ (!s.pw.sleep || s.hq.cmds.any fun c => c.opc ≠ 0x10) = true := by
  simp [State.stays]

theorem Block.and_wakeMask_lt (b : Block) (n : Nat) : n &&& b.wakeMask < 2 ^ 11 := by
  have h : b.fld PW_STBY_MASK_MASK < 2 ^ 10 := Block.fld_lt b PW_STBY_MASK_MASK
  exact lt_of_le_of_lt Nat.and_le_right (by unfold Block.wakeMask; omega)

/-- The cause noted, and the module awake. -/
def Block.woken (b : Block) (cause : Nat) : Block :=
  (b.setFld PW_WAKE_CAUSE (b.fld PW_WAKE_CAUSE ||| cause)).modPw fun p =>
    { p with sleep := false, asleep := false, wakes := 0, looks := 0 }

/-- WAKE# is driven where the link is in a low-power state, or down (R464). -/
def Block.wakePin (b : Block) : Block :=
  if 2 ≤ b.fld HQ_LINK_PMSTATE || b.fld HQ_LINK_SPEED = 0 then b.emit (.pin "WAKE#" false) else b

theorem Block.wakeUp_eq (b : Block) (cause : Nat) : b.wakeUp cause = (b.woken cause).wakePin.raise 39 := rfl

theorem Block.wakePin_frame (b : Block) : Frame [.out] b b.wakePin := by
  unfold Block.wakePin
  split
  · exact frame_emit .refl _ (List.Subset.refl _)
  · exact .refl

theorem Block.wakePin_rd (b : Block) (o : Nat) : b.wakePin.rd o = b.rd o :=
  Block.rd_congr (b.wakePin_frame.same .part (by decide)) (b.wakePin_frame.same .regs (by decide)) o

/-! What has been sent stays sent when a source is raised. -/

theorem Block.mem_out_melarSend {b : Block} {m : OutMsg} (h : m ∈ b.out) (t n : Nat) (l : List Byte) :
    m ∈ (b.melarSend t n l).out := by
  unfold Block.melarSend
  split
  · exact h
  · exact List.mem_append_left _ h

theorem Block.mem_out_tryVec {b : Block} {m : OutMsg} (h : m ∈ b.out) (v : Nat) : m ∈ (b.tryVec v).out := by
  unfold Block.tryVec
  repeat' split
  all_goals first
    | exact h
    | exact List.mem_append_left _ h

theorem Block.mem_out_raise {b : Block} {m : OutMsg} (h : m ∈ b.out) (n : Nat) : m ∈ (b.raise n).out := by
  unfold Block.raise Block.raiseWith
  split
  · exact h
  · extract_lets b1 b2 t
    have h2 : m ∈ b2.out := by
      show m ∈ (if _ then b1.forward n else b1 : Block).out
      split
      · unfold Block.forward
        split
        · exact h
        · split
          · exact h
          · exact Block.mem_out_melarSend (b := b1) h ..
      · exact h
    split
    · exact Block.mem_out_tryVec (b := b2.modVec _ _) h2 _
    · split
      · exact h2
      · exact h2

theorem Block.wakeUp_raised {b : Block} {n : Nat} (h : b.raised n = true) (cause : Nat) : (b.wakeUp cause).raised n = true := by
  have hirq : (b.woken cause).wakePin.irq = b.irq := (b.woken cause).wakePin_frame.same .irq (by decide)
  have hw : (b.woken cause).wakePin.raised n = true := by
    rw [Block.raised, hirq]
    exact h
  rw [Block.wakeUp_eq]
  exact Block.raise_raised hw

/-- Of the registers outside the interrupt controller a wake writes PW_WAKE alone. -/
theorem Block.wakeUp_rd (b : Block) (cause : Nat) {o : Nat} (h : irqReg o = false) (ho : o ≠ PW_WAKE) :
    (b.wakeUp cause).rd o = b.rd o :=
  (Block.raise_rd _ _ h).trans ((Block.wakePin_rd _ _).trans (Block.rd_setFld_ne _ _ ho _))

theorem Block.wakeUp_frame (b : Block) (cause : Nat) : Frame [.regs, .irq, .ml, .pw, .out] b (b.wakeUp cause) :=
  frame_wakeUp .refl cause (List.Subset.refl _)

/-- A wake reports its cause with source 39, and the module is awake. -/
theorem Block.wakeUp_does (b : Block) {cause : Nat} (hc : cause < 2 ^ 11) :
    (b.wakeUp cause).fld PW_WAKE_CAUSE = b.fld PW_WAKE_CAUSE ||| cause ∧ (b.wakeUp cause).raised 39 = true ∧
      (b.wakeUp cause).pw.sleep = false ∧ (b.wakeUp cause).pw.asleep = false ∧
      (b.fld HQ_LINK_SPEED = 0 → OutMsg.pin "WAKE#" false ∈ (b.wakeUp cause).out) := by
  have hlt : b.fld PW_WAKE_CAUSE ||| cause < 2 ^ 11 := Nat.or_lt_two_pow (Block.fld_lt b PW_WAKE_CAUSE) hc
  have hpw : (b.wakeUp cause).pw = (b.woken cause).pw :=
    (Block.raise_pw _ _).trans ((b.woken cause).wakePin_frame.same .pw (by decide))
  refine ⟨?_, Block.raise_raised_same (srcPresent_power _ (by decide)), congrArg Pwr.sleep hpw, congrArg Pwr.asleep hpw,
    fun h0 => ?_⟩
  · have hw : (b.wakeUp cause).rd PW_WAKE = (b.woken cause).rd PW_WAKE := (Block.raise_rd _ _ rfl).trans (Block.wakePin_rd _ _)
    have hf : (b.wakeUp cause).fld PW_WAKE_CAUSE = (b.woken cause).fld PW_WAKE_CAUSE := congrArg PW_WAKE_CAUSE.get hw
    rw [hf, Block.woken, Block.modPw_fld, Block.fld_setFld_same _ _ rfl]
    exact Nat.mod_eq_of_lt hlt
  · have hl : (b.woken cause).fld HQ_LINK_SPEED = 0 := by
      rw [Block.woken, Block.modPw_fld, Block.fld_setFld_apart _ _ _ rfl]
      exact h0
    have hp : OutMsg.pin "WAKE#" false ∈ (b.woken cause).wakePin.out := by
      rw [Block.wakePin, if_pos (by simp [hl])]
      exact List.mem_append_right _ (List.mem_singleton.mpr rfl)
    rw [Block.wakeUp_eq]
    exact Block.mem_out_raise hp _

/-- The block asleep (R463). -/
def Block.slept (b : Block) : Block :=
  ((((b.bump PW_CNT_SLEEPS 1).setFld PW_STAT_PADHOLD 1).setFld PW_STAT_ARMED 0).modHq fun h => { h with cover := 0 }).modPw
    fun p => { p with sleep := false, asleep := true, wakes := 0, looks := 0 }

theorem exec_sleepEntry (s : State) (pending : BitVec 11) : exec (.sleepEntry pending) s = s.upd fun b =>
    if !b.pw.sleep || b.hq.cmds.any fun c => c.opc ≠ 0x10 then b
    else if pending.toNat &&& b.wakeMask ≠ 0
      then ((b.bump PW_CNT_ABANDON 1).raise 40).wakeUp (pending.toNat &&& b.wakeMask)
      else b.slept := rfl

theorem exec_sleepEntry_stays {s : State} (pending : BitVec 11) (h : s.stays) : exec (.sleepEntry pending) s = .next s :=
  (exec_sleepEntry s pending).trans (State.upd_same (if_pos (s.stays_iff.mp h)))

/-- A counter of eight bits that is not full counts one. -/
theorem Block.fld_bump_one (b : Block) (f : Fld) (hf : f.ok = true) (ht : f.top = 255) (h : b.fld f < 255) :
    (b.bump f 1).fld f = b.fld f + 1 := by
  rw [Block.fld_bump_same _ _ hf, ht]
  omega

theorem sleepEntry_abandons {s : State} {pending : BitVec 11} (h : ¬ s.stays) (hit : pending.toNat &&& s.wakeMask ≠ 0) :
    Does (.sleepEntry pending) s fun t => t.fld PW_WAKE_CAUSE = s.fld PW_WAKE_CAUSE ||| (pending.toNat &&& s.wakeMask) ∧
      t.raised 39 = true ∧ t.raised 40 = true ∧ t.pw.sleep = false ∧ t.pw.asleep = false ∧ t.tick = s.tick ∧
      t.rd PW_STAT = s.rd PW_STAT ∧
      (s.fld PW_CNT_ABANDON < 255 → t.fld PW_CNT_ABANDON = s.fld PW_CNT_ABANDON + 1) := by
  let b := (s.bump PW_CNT_ABANDON 1).raise 40
  have hb : Calm (s.bump PW_CNT_ABANDON 1) b := Calm.refl.raise 40
  have hcause : b.fld PW_WAKE_CAUSE = s.fld PW_WAKE_CAUSE := (hb.fld rfl).trans (Block.fld_bump_apart _ _ _ rfl _)
  have h40 : b.raised 40 = true := Block.raise_raised_same (srcPresent_power _ (by decide))
  have htick : b.tick = s.tick :=
    (frame_raise (l₀ := [.regs, .irq, .ml, .out]) .refl 40 (List.Subset.refl _)).same .tick (by decide)
  obtain ⟨h1, h2, h3, h4, -⟩ := b.wakeUp_does (s.and_wakeMask_lt pending.toNat)
  refine ⟨{ s with toBlock := b.wakeUp (pending.toNat &&& s.wakeMask) }, ?_, rfl, h1.trans (by rw [hcause]), h2,
    Block.wakeUp_raised h40 _, h3, h4, ((b.wakeUp_frame _).same .tick (by decide)).trans htick, ?_, fun hlt => ?_⟩
  · rw [exec_sleepEntry, State.upd, if_neg (fun hc => h (s.stays_iff.mpr hc)), if_pos hit]
  · exact (b.wakeUp_rd _ rfl (by decide)).trans ((hb.rd _ rfl).trans (Block.rd_bump_ne _ _ (by decide) _))
  · have hcnt : (b.wakeUp (pending.toNat &&& s.wakeMask)).rd PW_CNT = (s.bump PW_CNT_ABANDON 1).rd PW_CNT :=
      (b.wakeUp_rd _ rfl (by decide)).trans (hb.rd _ rfl)
    exact (congrArg PW_CNT_ABANDON.get hcnt).trans (Block.fld_bump_one _ _ rfl rfl hlt)

theorem sleepEntry_sleeps {s : State} {pending : BitVec 11} (h : ¬ s.stays) (hit : pending.toNat &&& s.wakeMask = 0) :
    Does (.sleepEntry pending) s fun t => t.pw.asleep = true ∧ t.pw.sleep = false ∧ t.fld PW_STAT_PADHOLD = 1 ∧
      t.fld PW_STAT_ARMED = 0 ∧ t.irq = s.irq ∧
      (s.fld PW_CNT_SLEEPS < 255 → t.fld PW_CNT_SLEEPS = s.fld PW_CNT_SLEEPS + 1) := by
  refine ⟨{ s with toBlock := s.slept }, ?_, rfl, rfl, rfl, ?_, ?_, rfl, fun hlt => ?_⟩
  · rw [exec_sleepEntry, State.upd, if_neg (fun hc => h (s.stays_iff.mpr hc)), if_neg (not_not.mpr hit)]
  · show s.slept.fld PW_STAT_PADHOLD = 1
    rw [Block.slept, Block.modPw_fld, Block.modHq_fld, Block.fld_setFld_apart _ _ _ rfl, Block.fld_setFld_same _ _ rfl]
    rfl
  · show s.slept.fld PW_STAT_ARMED = 0
    rw [Block.slept, Block.modPw_fld, Block.modHq_fld, Block.fld_setFld_same _ _ rfl]
    rfl
  · show s.slept.fld PW_CNT_SLEEPS = _
    rw [Block.slept, Block.modPw_fld, Block.modHq_fld, Block.fld_setFld_apart _ _ _ rfl, Block.fld_setFld_apart _ _ _ rfl]
    exact Block.fld_bump_one _ _ rfl rfl hlt

/-- The wake sources that fire and are enabled (R461, R464). -/
def Block.wakeHit (b : Block) (sources : BitVec 11) : Nat := (sources.toNat ||| b.pw.wakes) &&& b.wakeMask

/-- The tick counter after the time asleep. -/
def Block.retimed (b : Block) (ticks : BitVec 32) : Block :=
  (b.setTick (b.tick + ticks.setWidth 64)).setFld GLB_TICK_STAT_STBY_ADJ 1

theorem exec_wake (s : State) (sources : BitVec 11) (ticks : BitVec 32) : exec (.wake sources ticks) s = s.upd fun b =>
    if !b.pw.asleep || b.wakeHit sources = 0 then b else (b.retimed ticks).wakeUp (b.wakeHit sources) := rfl

theorem exec_wake_none {s : State} {sources : BitVec 11} (ticks : BitVec 32)
    (h : s.pw.asleep = false ∨ s.wakeHit sources = 0) : exec (.wake sources ticks) s = .next s :=
  (exec_wake s sources ticks).trans (State.upd_same (if_pos (by simpa using h)))

theorem wake_does {s : State} {sources : BitVec 11} (ticks : BitVec 32) (h : s.pw.asleep = true)
    (hit : s.wakeHit sources ≠ 0) :
    Does (.wake sources ticks) s fun t => t.tick = s.tick + ticks.setWidth 64 ∧ t.fld GLB_TICK_STAT_STBY_ADJ = 1 ∧
      t.fld PW_WAKE_CAUSE = s.fld PW_WAKE_CAUSE ||| s.wakeHit sources ∧ t.raised 39 = true ∧ t.pw.asleep = false ∧
      (s.fld HQ_LINK_SPEED = 0 → OutMsg.pin "WAKE#" false ∈ t.out) ∧ t.store = s.store ∧ t.cx = s.cx := by
  let b := s.retimed ticks
  have hfld : ∀ g : Fld, GLB_TICK_STAT_STBY_ADJ.apart g = true → b.fld g = s.fld g := fun g hg =>
    Block.fld_setFld_apart (s.setTick _) _ _ hg _
  have hf := b.wakeUp_frame (s.wakeHit sources)
  obtain ⟨h1, h2, -, h4, h5⟩ := b.wakeUp_does (s.and_wakeMask_lt (sources.toNat ||| s.pw.wakes))
  refine ⟨{ s with toBlock := b.wakeUp (s.wakeHit sources) }, ?_, rfl, hf.same .tick (by decide), ?_,
    h1.trans (by rw [hfld _ rfl]; rfl), h2, h4, fun h0 => h5 ((hfld _ rfl).trans h0), hf.same .store (by decide),
    hf.same .cx (by decide)⟩
  · rw [exec_wake, State.upd, if_neg (by simp [h, hit])]
  · have hr : (b.wakeUp (s.wakeHit sources)).rd GLB_TICK_STAT = b.rd GLB_TICK_STAT := b.wakeUp_rd _ rfl (by decide)
    exact (congrArg GLB_TICK_STAT_STBY_ADJ.get hr).trans (Block.fld_setFld_same _ _ rfl _)

/-- A look finds a limit passed (R462). -/
def Block.lookBad (b : Block) (temp hum : BitVec 8) : Bool :=
  decide (temp.toInt < b.sfld PW_SNS_TMIN) || decide (b.sfld PW_SNS_TMAX < temp.toInt) ||
    decide (b.fld PW_SNS_HMAX < hum.toNat)

/-- The look counted, and the wake sources it gives. -/
def Block.looked (b : Block) (temp hum : BitVec 8) : Block :=
  b.modPw fun p => { p with
    looks := b.pw.looks + 1
    wakes := p.wakes ||| (256 * (b.lookBad temp hum).toNat +
      512 * (decide (b.fld PW_STBY_TMR_LOOKS ≤ b.pw.looks + 1)).toNat) }

theorem exec_standbyLook (s : State) (temp hum : BitVec 8) : exec (.standbyLook temp hum) s = s.upd fun b =>
    if !b.pw.asleep || b.fld PW_STBY_INT_INTERVAL = 0 then b else b.looked temp hum := rfl

theorem testBit_looks (bad all_ : Bool) :
    (256 * bad.toNat + 512 * all_.toNat).testBit 8 = bad ∧ (256 * bad.toNat + 512 * all_.toNat).testBit 9 = all_ := by
  revert bad all_
  decide

theorem standbyLook_does {s : State} (temp hum : BitVec 8) (h : s.pw.asleep = true) (hi : s.fld PW_STBY_INT_INTERVAL ≠ 0) :
    Does (.standbyLook temp hum) s fun t => t.pw.looks = s.pw.looks + 1 ∧ t.regs = s.regs ∧ t.pw.asleep = true ∧
      (s.lookBad temp hum = true → t.pw.wakes.testBit 8 = true) ∧
      (s.lookBad temp hum = false → t.pw.wakes.testBit 8 = s.pw.wakes.testBit 8) ∧
      (s.fld PW_STBY_TMR_LOOKS ≤ s.pw.looks + 1 → t.pw.wakes.testBit 9 = true) := by
  refine ⟨{ s with toBlock := s.looked temp hum }, ?_, rfl, rfl, rfl, h, fun hb => ?_, fun hb => ?_, fun hn => ?_⟩
  · rw [exec_standbyLook, State.upd, if_neg (by simp [h, hi])]
  all_goals simp only [Block.looked, Block.modPw, Nat.testBit_or, testBit_looks]
  · simp [hb]
  · simp [hb]
  · simp [hn]

theorem padRelease_does (s : State) :
    Does .padRelease s fun t => t.fld PW_STAT_PADHOLD = 0 ∧ Block.regsOnly [PW_STAT] s.toBlock t.toBlock ∧ t.pw = s.pw :=
  ⟨{ s with toBlock := s.setFld PW_STAT_PADHOLD 0 }, rfl, rfl, Block.fld_setFld_same _ _ rfl _,
    fun _ ho _ => Block.rd_setFld_ne _ _ (fun e => ho (List.mem_singleton.mpr e)) _, rfl⟩

theorem exec_vinOvervoltage_on {s : State} (h : s.on PW_STAT_OVV = true) : exec .vinOvervoltage s = .next s :=
  show execVinOvervoltage s = _ from State.upd_same (by exact if_pos h)

theorem exec_holdupMeasure_done {s : State} (capf esr : BitVec 16) (h : s.on PW_STAT_MEAS_DONE = true) :
    exec (.holdupMeasure capf esr) s = .next s :=
  show execHoldupMeasure capf esr s = _ from State.upd_same (by exact if_pos h)

theorem exec_standbyLook_none {s : State} (temp hum : BitVec 8)
    (h : s.pw.asleep = false ∨ s.fld PW_STBY_INT_INTERVAL = 0) : exec (.standbyLook temp hum) s = .next s :=
  (exec_standbyLook s temp hum).trans (State.upd_same (if_pos (by simpa using h)))

/-- Settles O56: one lemma for each command, and whether it acts or not; `holdupCap`'s figures by evaluation. -/
theorem powerModes : Obligations.PowerModes := by
  unfold Obligations.PowerModes
  intro s capf esr pending sources ticks temp hum
  have harm := s.mayArm_iff
  refine ⟨by decide, exec_reducedModeEntry_on, fun h => ⟨reducedModeEntry_does h, exec_reducedModeExit_off h⟩,
    reducedModeExit_does, exec_vinOvervoltage_on, vinOvervoltage_does, exec_holdupMeasure_done capf esr,
    holdupMeasure_does capf esr, fun h => exec_holdupArm_stays (h.imp_right fun hn hm => hn (harm.mp hm)),
    fun h hm => holdupArm_does h (harm.mpr hm), exec_boostFault_off, boostFault_does, exec_sleepEntry_stays pending,
    sleepEntry_abandons, sleepEntry_sleeps, exec_wake_none ticks, wake_does ticks, exec_standbyLook_none temp hum,
    standbyLook_does temp hum, padRelease_does s⟩

/-! ### Resets (R456, R457) -/

/-- Passes and plans end, and what a power failure leaves of the store settles. -/
def Block.halted (b : Block) : Block :=
  ((List.range 4).foldl (fun b i => (b.cutPass (Fin.ofNat 4 i)).cancelPlan (Fin.ofNat 4 i)) b).modStore Store.settle

/-- The block that a reset finds: the volume goes too. -/
def Block.quit (b : Block) : Block := if b.halted.store.vol.vstate = 0 then b.halted else b.halted.unload

theorem Block.halted_calm (b : Block) : Calm b b.halted :=
  (Calm.refl.foldl fun _ _ _ hc => (hc.cutPass _).cancelPlan _).modStore _

theorem Block.quit_calm (b : Block) : Calm b b.quit := by
  unfold Block.quit
  exact Calm.ite b.halted_calm b.halted_calm.unload

theorem Block.halted_pw (b : Block) : b.halted.pw = b.pw := by
  rw [Block.halted, Block.modStore_pw]
  refine List.foldlRecOn (motive := fun c : Block => c.pw = b.pw) _ _ rfl fun c hc i _ => ?_
  have hf := frame_cutPass (l₀ := [.regs, .irq, .servo, .wp, .hq, .store, .ml, .out]) (b₀ := c) .refl (Fin.ofNat 4 i)
    (List.Subset.refl _)
  exact ((frame_cancelPlan hf (Fin.ofNat 4 i) (by decide)).same .pw (by decide)).trans hc

theorem Block.quit_pw (b : Block) : b.quit.pw = b.pw := by
  have hu : b.halted.unload.pw = b.halted.pw :=
    (frame_unload (l₀ := [.wp, .hq, .store]) .refl (List.Subset.refl _)).same .pw (by decide)
  unfold Block.quit
  split
  · exact b.halted_pw
  · exact hu.trans b.halted_pw

/-- The registers that only POR resets, over the reset values (R456, R457). -/
def Block.keepRegs (z b : Block) (cause : Nat) : Block :=
  (((((((z.wr PW_RSTCAUSE (b.rd PW_RSTCAUSE)).putBit PW_RSTCAUSE_CAUSE cause true).wr PW_DYKE_STAT (b.rd PW_DYKE_STAT)).wr
    PW_CNT (b.rd PW_CNT)).wr PW_HOLDUP_MEAS (b.rd PW_HOLDUP_MEAS)).setFld PW_HOLDUP_CAP (b.fld PW_HOLDUP_CAP)).setFld
    PW_STAT_MEAS_DONE (b.fld PW_STAT_MEAS_DONE))

theorem Block.moduleReset_eq (b : Block) (cause : Nat) :
    b.moduleReset cause =
      if cause = 0 then b.quit.resetUnits cause else (b.quit.resetUnits cause).keepRegs b.quit cause := by
  unfold Block.moduleReset Block.quit Block.halted Block.keepRegs
  dsimp only

theorem Block.moduleReset_of_ne (b : Block) {cause : Nat} (h : cause ≠ 0) :
    b.moduleReset cause = (b.quit.resetUnits cause).keepRegs b.quit cause :=
  (b.moduleReset_eq cause).trans (if_neg h)

/-- A bit set in a field: that bit reads 1, the others as before. -/
theorem Block.onBit_putBit (b : Block) {f : Fld} (hf : f.ok = true) {i k : Nat} (hk : k < f.hi + 1 - f.lo) :
    (b.putBit f i true).onBit f k = (decide (k = i) || b.onBit f k) := by
  unfold Block.onBit Block.putBit
  rw [Block.fld_setFld_same _ _ hf, if_pos rfl, Nat.testBit_mod_two_pow, Nat.testBit_or, Nat.testBit_two_pow]
  simp [hk, Bool.or_comm, eq_comm]

/-- Registers that a reset keeps. -/
def porRegs : List Nat := [PW_RSTCAUSE, PW_DYKE_STAT, PW_CNT, PW_HOLDUP_MEAS, PW_HOLDUP, PW_STAT]

/-- What no reset leaves: state of the units, the key slots, the volume, the host's commands (R457). -/
def Block.Cleared (b t : Block) : Prop :=
  t.part = b.part ∧ t.tick = 0 ∧ t.irq = (Block.initial b.part).irq ∧ t.dram = (Block.initial b.part).dram ∧
    t.le = (Block.initial b.part).le ∧ t.spin = (Block.initial b.part).spin ∧ t.axis = (Block.initial b.part).axis ∧
    t.cx.slots = (Block.initial b.part).cx.slots ∧ t.store.vol = (Block.initial b.part).store.vol ∧ t.hq.cmds = []

/-- Block `t` is `b` after a reset with a cause other than POR. -/
def Block.WasReset (b t : Block) (cause : Nat) : Prop :=
  b.Cleared t ∧ (∀ o, o ∉ porRegs → t.rd o = resetVal b.part o) ∧
    (∀ k, k < 8 → t.onBit PW_RSTCAUSE_CAUSE k = (decide (k = cause) || b.onBit PW_RSTCAUSE_CAUSE k)) ∧
    t.rd PW_HOLDUP_MEAS = b.rd PW_HOLDUP_MEAS ∧ t.fld PW_HOLDUP_CAP = b.fld PW_HOLDUP_CAP ∧
    t.fld PW_STAT_MEAS_DONE = b.fld PW_STAT_MEAS_DONE ∧ t.fld PW_STAT_ARMED = 0 ∧ t.fld PW_STAT_BOOT_DONE = 0

/-- Dyke status and counters are kept (R457). -/
def Block.KeepsCounts (b t : Block) : Prop := t.rd PW_DYKE_STAT = b.rd PW_DYKE_STAT ∧ t.rd PW_CNT = b.rd PW_CNT

theorem Block.resetUnits_cleared (b : Block) (cause : Nat) : b.Cleared (b.resetUnits cause) :=
  ⟨rfl, rfl, rfl, rfl, rfl, rfl, rfl, rfl, rfl, rfl⟩

theorem Block.quit_cleared (b : Block) (cause : Nat) : b.Cleared (b.quit.resetUnits cause) := by
  have h := b.quit.resetUnits_cleared cause
  simp only [Block.Cleared, b.quit_calm.part] at h
  exact h

theorem Block.resetUnits_por (b : Block) (o : Nat) : (b.resetUnits 0).rd o = (Block.initial b.part).rd o := rfl

/-- A POR sets everything. -/
theorem Block.moduleReset_por (b : Block) :
    b.Cleared (b.moduleReset 0) ∧ ∀ o, (b.moduleReset 0).rd o = (Block.initial b.part).rd o := by
  rw [b.moduleReset_eq, if_pos rfl]
  exact ⟨b.quit_cleared 0, fun o => (Block.resetUnits_por _ o).trans (by rw [b.quit_calm.part])⟩

theorem Block.resetUnits_rd (b : Block) {cause : Nat} (h : cause ≠ 0) (o : Nat) :
    (b.resetUnits cause).rd o = resetVal b.part o := by
  have hr : (b.resetUnits cause).regs = [] := if_neg h
  unfold Block.rd
  rw [hr]
  rfl

theorem Block.moduleReset_rd (b : Block) {cause : Nat} (h : cause ≠ 0) {o : Nat} (ho : o ∉ porRegs) :
    (b.moduleReset cause).rd o = resetVal b.part o := by
  simp only [porRegs, List.mem_cons, List.not_mem_nil, or_false, not_or] at ho
  obtain ⟨h1, h2, h3, h4, h5, h6⟩ := ho
  rw [b.moduleReset_of_ne h, Block.keepRegs, Block.rd_setFld_ne _ _ h6, Block.rd_setFld_ne _ _ h5, Block.rd_wr_ne _ h4,
    Block.rd_wr_ne _ h3, Block.rd_wr_ne _ h2, Block.rd_putBit_ne _ _ h1, Block.rd_wr_ne _ h1,
    Block.resetUnits_rd _ h, b.quit_calm.part]

/-- The registers kept, one by one. -/
theorem Block.moduleReset_keeps (b : Block) {cause : Nat} (h : cause ≠ 0) :
    b.KeepsCounts (b.moduleReset cause) ∧ (b.moduleReset cause).rd PW_HOLDUP_MEAS = b.rd PW_HOLDUP_MEAS := by
  have hq : ∀ o, calmReg o = true → b.quit.rd o = b.rd o := b.quit_calm.rd
  rw [b.moduleReset_of_ne h]
  refine ⟨⟨(?_ : _ = b.quit.rd _).trans (hq _ rfl), (?_ : _ = b.quit.rd _).trans (hq _ rfl)⟩,
    (?_ : _ = b.quit.rd _).trans (hq _ rfl)⟩
  · rw [Block.keepRegs, Block.rd_setFld_ne _ _ (by decide), Block.rd_setFld_ne _ _ (by decide), Block.rd_wr_ne _ (by decide),
      Block.rd_wr_ne _ (by decide), Block.rd_wr_same]
  · rw [Block.keepRegs, Block.rd_setFld_ne _ _ (by decide), Block.rd_setFld_ne _ _ (by decide), Block.rd_wr_ne _ (by decide),
      Block.rd_wr_same]
  · rw [Block.keepRegs, Block.rd_setFld_ne _ _ (by decide), Block.rd_setFld_ne _ _ (by decide), Block.rd_wr_same]

theorem Block.moduleReset_cause (b : Block) {cause : Nat} (h : cause ≠ 0) {k : Nat} (hk : k < 8) :
    (b.moduleReset cause).onBit PW_RSTCAUSE_CAUSE k = (decide (k = cause) || b.onBit PW_RSTCAUSE_CAUSE k) := by
  have hrd : (b.moduleReset cause).rd PW_RSTCAUSE =
      (((b.quit.resetUnits cause).wr PW_RSTCAUSE (b.rd PW_RSTCAUSE)).putBit PW_RSTCAUSE_CAUSE cause true).rd PW_RSTCAUSE := by
    rw [b.moduleReset_of_ne h, Block.keepRegs, Block.rd_setFld_ne _ _ (by decide), Block.rd_setFld_ne _ _ (by decide),
      Block.rd_wr_ne _ (by decide), Block.rd_wr_ne _ (by decide), Block.rd_wr_ne _ (by decide),
      b.quit_calm.rd PW_RSTCAUSE rfl]
  have hold : ((b.quit.resetUnits cause).wr PW_RSTCAUSE (b.rd PW_RSTCAUSE)).onBit PW_RSTCAUSE_CAUSE k =
      b.onBit PW_RSTCAUSE_CAUSE k := by
    unfold Block.onBit
    exact congrArg (Nat.testBit · k) (Block.fld_wr_same _ PW_RSTCAUSE_CAUSE _)
  rw [← hold, ← Block.onBit_putBit _ rfl hk]
  unfold Block.onBit Block.fld
  exact congrArg (fun v => (PW_RSTCAUSE_CAUSE.get v).testBit k) hrd

theorem resetVal_pwStat (p : Part) : resetVal p PW_STAT = 0 := by cases p <;> rfl

theorem Block.moduleReset_stat (b : Block) {cause : Nat} (h : cause ≠ 0) :
    (b.moduleReset cause).fld PW_HOLDUP_CAP = b.fld PW_HOLDUP_CAP ∧
      (b.moduleReset cause).fld PW_STAT_MEAS_DONE = b.fld PW_STAT_MEAS_DONE ∧
      (b.moduleReset cause).fld PW_STAT_ARMED = 0 ∧ (b.moduleReset cause).fld PW_STAT_BOOT_DONE = 0 := by
  have hzero : ∀ g : Fld, g.reg = PW_STAT → PW_STAT_MEAS_DONE.apart g = true → PW_HOLDUP_CAP.apart g = true →
      g.get 0 = 0 → (b.moduleReset cause).fld g = 0 := fun g hr hm hc h0 => by
    have hne : ∀ o ∈ [PW_RSTCAUSE, PW_DYKE_STAT, PW_CNT, PW_HOLDUP_MEAS], g.reg ≠ o := by
      rw [hr]
      decide
    rw [b.moduleReset_of_ne h, Block.keepRegs, Block.fld_setFld_apart _ _ _ hm, Block.fld_setFld_apart _ _ _ hc,
      Block.fld_wr_ne _ (hne _ (by decide)), Block.fld_wr_ne _ (hne _ (by decide)), Block.fld_wr_ne _ (hne _ (by decide)), Block.fld,
      Block.rd_putBit_ne _ _ (hne _ (by decide)), Block.rd_wr_ne _ (hne _ (by decide)), Block.resetUnits_rd _ h, hr, resetVal_pwStat, h0]
  refine ⟨?_, ?_, hzero _ rfl rfl rfl rfl, hzero _ rfl rfl rfl rfl⟩
  · rw [b.moduleReset_of_ne h, Block.keepRegs, Block.fld_setFld_apart _ _ _ rfl, Block.fld_setFld_same _ _ rfl,
      b.quit_calm.fld rfl]
    exact Nat.mod_eq_of_lt (Block.fld_lt b PW_HOLDUP_CAP)
  · rw [b.moduleReset_of_ne h, Block.keepRegs, Block.fld_setFld_same _ _ rfl, b.quit_calm.fld rfl]
    exact Nat.mod_eq_of_lt (Block.fld_lt b PW_STAT_MEAS_DONE)

theorem Block.Cleared.keepRegs {b z : Block} (h : b.Cleared z) (c : Block) (cause : Nat) : b.Cleared (z.keepRegs c cause) := h

/-- A reset with a cause other than POR. -/
theorem Block.moduleReset_wasReset (b : Block) {cause : Nat} (h : cause ≠ 0) : b.WasReset (b.moduleReset cause) cause := by
  obtain ⟨hcap, hdone, harmed, hboot⟩ := b.moduleReset_stat h
  refine ⟨?_, fun o ho => b.moduleReset_rd h ho, fun k hk => b.moduleReset_cause h hk, (b.moduleReset_keeps h).2, hcap, hdone,
    harmed, hboot⟩
  rw [b.moduleReset_of_ne h]
  exact (b.quit_cleared cause).keepRegs _ _

/-- What a reset reads of the block before it is the same. -/
structure Block.SameAtReset (b c : Block) : Prop where
  part : c.part = b.part
  cause : c.rd PW_RSTCAUSE = b.rd PW_RSTCAUSE
  meas : c.rd PW_HOLDUP_MEAS = b.rd PW_HOLDUP_MEAS
  holdup : c.rd PW_HOLDUP = b.rd PW_HOLDUP
  done : c.fld PW_STAT_MEAS_DONE = b.fld PW_STAT_MEAS_DONE

theorem Block.SameAtReset.trans {a b c : Block} (h : a.SameAtReset b) (h' : b.SameAtReset c) : a.SameAtReset c :=
  ⟨h'.part.trans h.part, h'.cause.trans h.cause, h'.meas.trans h.meas, h'.holdup.trans h.holdup, h'.done.trans h.done⟩

theorem Calm.sameAtReset {b c : Block} (h : Calm b c) : b.SameAtReset c :=
  ⟨h.part, h.rd _ rfl, h.rd _ rfl, h.rd _ rfl, h.fld rfl⟩

/-- Another field is written. -/
theorem Block.SameAtReset.setFld {a b : Block} (h : a.SameAtReset b) (f : Fld) (n : Nat)
    (hne : f.reg ∉ [PW_RSTCAUSE, PW_HOLDUP_MEAS, PW_HOLDUP] := by decide) (hd : f.apart PW_STAT_MEAS_DONE = true := by rfl) :
    a.SameAtReset (b.setFld f n) := by
  simp only [List.mem_cons, List.not_mem_nil, or_false, not_or, ← ne_eq] at hne
  obtain ⟨h1, h2, h3⟩ := hne
  exact h.trans ⟨rfl, Block.rd_setFld_ne _ _ h1.symm _, Block.rd_setFld_ne _ _ h2.symm _, Block.rd_setFld_ne _ _ h3.symm _,
    Block.fld_setFld_apart _ _ _ hd _⟩

theorem Block.WasReset.of_same {b c t : Block} {cause : Nat} (h : b.SameAtReset c) (ht : c.WasReset t cause) :
    b.WasReset t cause := by
  have hcause : ∀ k, c.onBit PW_RSTCAUSE_CAUSE k = b.onBit PW_RSTCAUSE_CAUSE k := fun k => by
    unfold Block.onBit Block.fld
    exact congrArg (fun v => (PW_RSTCAUSE_CAUSE.get v).testBit k) h.cause
  have hcap : c.fld PW_HOLDUP_CAP = b.fld PW_HOLDUP_CAP := congrArg PW_HOLDUP_CAP.get h.holdup
  simp only [Block.WasReset, Block.Cleared, h.part, hcause, h.meas, hcap, h.done] at ht
  exact ht

/-! ### The Dyke sequence begins (R451, R452) -/

/-- What one step of calm work brings about, and calm work keeps, holds at the end of it. -/
theorem Calm.foldl_brings {α : Type} {f : Block → α → Block} {P : Block → Prop} {b : Block} (xs : List α)
    (hcalm : ∀ c, ∀ x ∈ xs, Calm c (f c x)) (hP : ∀ c d, Calm c d → P c → P d) {x : α} (hx : x ∈ xs)
    (hf : ∀ c, Calm b c → P (f c x)) : P (xs.foldl f b) := by
  induction xs generalizing b with
  | nil => cases hx
  | cons y t ih =>
    have ht : ∀ c, ∀ z ∈ t, Calm c (f c z) := fun c z hz => hcalm c z (List.mem_cons_of_mem _ hz)
    rcases List.mem_cons.mp hx with rfl | hx
    · have hrest : Calm (f b x) (t.foldl f (f b x)) := Calm.refl.foldl fun d z hz hd => hd.trans (ht d z hz)
      exact hP _ _ hrest (hf b .refl)
    · exact ih ht hx fun c hc => hf c ((hcalm b y List.mem_cons_self).trans hc)

/-- A surface whose laser and gate are off and that writes nothing. -/
def Block.dark (b : Block) (u : Fin 4) : Prop :=
  b.fld (SEs_LSAFE_LDEN u) = 0 ∧ b.fld (SEs_LSAFE_WGATE u) = 0 ∧ (vget b.wp u).running = none

theorem Calm.dark {b c : Block} (h : Calm b c) {u : Fin 4} (hb : b.dark u) : c.dark u :=
  ⟨h.gate _ (gateReg_lsafe u) hb.1, h.gate _ (gateReg_lsafe u) hb.2.1, (h.wp u).running hb.2.2⟩

/-- The gates of a surface off, before its pass is cut. -/
def Block.gatesOff (b : Block) (u : Fin 4) : Block :=
  ((b.setFld (SEs_LSAFE_LDEN u) 0).setFld (SEs_LSAFE_WGATE u) 0).setFld (SEs_LSAFE_MODE u) 0

theorem Block.gatesOff_off (b : Block) (u : Fin 4) :
    (b.gatesOff u).fld (SEs_LSAFE_LDEN u) = 0 ∧ (b.gatesOff u).fld (SEs_LSAFE_WGATE u) = 0 := by
  have h1 : (b.setFld (SEs_LSAFE_LDEN u) 0).fld (SEs_LSAFE_LDEN u) = 0 := Block.fld_setFld_same _ _ rfl _
  have h2 : ((b.setFld (SEs_LSAFE_LDEN u) 0).setFld (SEs_LSAFE_WGATE u) 0).fld (SEs_LSAFE_WGATE u) = 0 :=
    Block.fld_setFld_same _ _ rfl _
  have hc : Calm ((b.setFld (SEs_LSAFE_LDEN u) 0).setFld (SEs_LSAFE_WGATE u) 0) (b.gatesOff u) :=
    Calm.refl.clearGate _ (gateReg_lsafe u)
  have hc' : Calm (b.setFld (SEs_LSAFE_LDEN u) 0) ((b.setFld (SEs_LSAFE_LDEN u) 0).setFld (SEs_LSAFE_WGATE u) 0) :=
    Calm.refl.clearGate _ (gateReg_lsafe u)
  exact ⟨hc.gate _ (gateReg_lsafe u) (hc'.gate _ (gateReg_lsafe u) h1), hc.gate _ (gateReg_lsafe u) h2⟩

theorem Block.surfOff_dark (b : Block) (u : Fin 4) (hu : b.part.hasSurf u = true) : (b.surfOff u).dark u := by
  have hf : Fin.ofNat 4 u = u := Fin.ext (Nat.mod_eq_of_lt u.isLt)
  have hcut : Calm (b.gatesOff u) (((b.gatesOff u).sendPower u).cutPass u) := (Calm.refl.sendPower u).cutPass u
  have hd : (((b.gatesOff u).sendPower u).cutPass u).dark u :=
    ⟨hcut.gate _ (gateReg_lsafe u) (b.gatesOff_off u).1, hcut.gate _ (gateReg_lsafe u) (b.gatesOff_off u).2,
      Block.cutPass_running _ u⟩
  unfold Block.surfOff Block.onSurf
  rw [hf, if_pos hu]
  exact ((Calm.refl.cancelPlan u).calAbandon u).dark hd

theorem Block.outputsOff_dark (b : Block) {u : Fin 4} (hu : b.part.hasSurf u = true) : b.outputsOff.dark u := by
  have hs : ((List.range 4).foldl Block.surfOff b).dark u :=
    Calm.foldl_brings (P := fun c => c.dark u) (List.range 4) (fun c _ _ => Calm.refl.surfOff _) (fun _ _ h => h.dark)
      (List.mem_range.mpr u.isLt) fun c hc => c.surfOff_dark u (hc.part ▸ hu)
  rw [Block.outputsOff_eq]
  generalize (List.range 4).foldl Block.surfOff b = c at hs ⊢
  have hspin : Calm c ((List.range 2).foldl Block.spinOff c) := Calm.refl.foldl fun _ _ _ hd => hd.spinOff _
  generalize (List.range 2).foldl Block.spinOff c = e at hspin ⊢
  have haxis : Calm e ((List.range 9).foldl Block.axisOff e) :=
    Calm.refl.foldl fun _ _ hi hd => hd.axisOff (List.mem_range.mp hi)
  exact haxis.dark (hspin.dark hs)

theorem Block.axisOff_homed (b : Block) (a : Fin 9) (ha : b.part.hasAxis a = true) :
    (b.axisOff a).fld (AXa_STAT_HOMED a) = 0 := by
  have hf : Fin.ofNat 9 a = a := Fin.ext (Nat.mod_eq_of_lt a.isLt)
  unfold Block.axisOff Block.onAxis
  rw [hf, if_pos ha]
  exact (Block.modAxis_fld _ _ _ _).trans (Block.fld_setFld_same _ _ rfl _)

theorem Block.outputsOff_homed (b : Block) {a : Fin 9} (ha : b.part.hasAxis a = true) :
    b.outputsOff.fld (AXa_STAT_HOMED a) = 0 := by
  have h0 : Calm b ((List.range 2).foldl Block.spinOff ((List.range 4).foldl Block.surfOff b)) :=
    Calm.foldl (Calm.foldl Calm.refl fun _ _ _ hd => hd.surfOff _) fun _ _ _ hd => hd.spinOff _
  rw [Block.outputsOff_eq]
  generalize (List.range 2).foldl Block.spinOff ((List.range 4).foldl Block.surfOff b) = d at h0 ⊢
  exact Calm.foldl_brings (P := fun c => c.fld (AXa_STAT_HOMED a) = 0) (List.range 9)
    (fun c i hi => Calm.refl.axisOff (List.mem_range.mp hi)) (fun _ _ h => h.gate _ (gateReg_axis a.isLt))
    (List.mem_range.mpr a.isLt) fun c hc => c.axisOff_homed a ((h0.trans hc).part ▸ ha)

/-- The host's commands are discarded. -/
def Block.discardAll (b : Block) : Block :=
  b.modHq fun h => { h with cmds := h.cmds.map fun c => { c with discard := true } }

/-- The partner is told that it is left. -/
def Block.sayLeave (b : Block) : Block := if b.pstate = 0 then b else b.melarSend 0x0B 1 []

/-- The partner is left: it is told, and the pin falls. -/
def Block.leavePartner (b : Block) : Block :=
  if b.sayLeave.peerRole then b.sayLeave.emit (.pin "PEER_ROLE" false) else b.sayLeave

/-- The link falls silent, and PT takes only the dump: the reads that wait are dropped. -/
def Block.dumpOnly (b : Block) : Block :=
  ((b.modMl fun m => { m with alive := false }).setFld PT_CTL_DYKE 1).modPt fun p =>
    { p with waiting := p.waiting.filter fun d => !d.reads }

/-- The block with outputs off, before the link falls silent. -/
def Block.hushed (b : Block) : Block := b.outputsOff.discardAll.leavePartner

theorem Block.powerCut_eq (b : Block) :
    b.powerCut = (b.hushed.pt.waiting.filter PtDesc.reads).foldl (fun b d => b.ptEnd d 0x30 0 0) b.hushed.dumpOnly := by
  unfold Block.powerCut Block.hushed Block.leavePartner Block.sayLeave Block.dumpOnly Block.discardAll
  rfl

theorem Block.leavePartner_frame (b : Block) : Frame [.ml, .out] b b.leavePartner := by
  have hsay : Frame [.ml, .out] b b.sayLeave := by
    unfold Block.sayLeave
    split
    · exact .refl
    · exact frame_melarSend .refl _ _ _ (List.Subset.refl _)
  unfold Block.leavePartner
  split
  · exact frame_emit hsay _ (by decide)
  · exact hsay

theorem Calm.leavePartner {a b : Block} (h : Calm a b) : Calm a b.leavePartner := by
  have hsay : Calm a b.sayLeave := ite h (h.melarSend 0x0B 1 [])
  exact ite (hsay.emit _) hsay

theorem Calm.hushed {a b : Block} (h : Calm a b) : Calm a b.hushed := (h.outputsOff.modHq _).leavePartner

theorem Block.hushed_discards (b : Block) : ∀ c ∈ b.hushed.hq.cmds, c.discard = true := by
  have hq : b.hushed.hq = b.outputsOff.discardAll.hq := (Block.leavePartner_frame _).same .hq (by decide)
  rw [hq]
  intro c hc
  obtain ⟨d, -, rfl⟩ := List.mem_map.mp (show c ∈ b.outputsOff.hq.cmds.map _ from hc)
  rfl

/-- The reads dropped end with an error. -/
theorem Block.powerCut_calm (b : Block) : Calm b.hushed.dumpOnly b.powerCut := by
  rw [b.powerCut_eq]
  exact Calm.refl.foldl fun _ _ _ hc => hc.ptEnd _ _ _ _

theorem Block.powerCut_hq (b : Block) : b.powerCut.hq = b.hushed.hq := by
  rw [b.powerCut_eq]
  refine List.foldlRecOn (motive := fun c : Block => c.hq = b.hushed.hq) _ _ rfl fun c hc d _ => ?_
  exact ((frame_ptEnd (l₀ := [.regs, .irq, .dram, .ml, .out]) .refl d _ _ _ (List.Subset.refl _)).same .hq
    (by decide)).trans hc

theorem Block.dumpOnly_fld (b : Block) {g : Fld} (h : PT_CTL_DYKE.apart g = true) : b.dumpOnly.fld g = b.fld g :=
  Block.fld_setFld_apart (b.modMl _) _ _ h _

theorem Block.dumpOnly_sameAtReset (b : Block) : b.SameAtReset b.dumpOnly := by
  have hml : b.SameAtReset (b.modMl fun m => { m with alive := false }) := ⟨rfl, rfl, rfl, rfl, rfl⟩
  have hdyke := hml.setFld PT_CTL_DYKE 1
  exact ⟨hdyke.part, hdyke.cause, hdyke.meas, hdyke.holdup, hdyke.done⟩

theorem apart_of_reg_ne {f g : Fld} (h : f.reg ≠ g.reg) : f.apart g = true := by
  simp [Fld.apart, h]

/-- A reset reads the same before the power is cut and after. -/
theorem Block.powerCut_sameAtReset (b : Block) : b.SameAtReset b.powerCut :=
  ((Calm.refl.hushed : Calm b b.hushed).sameAtReset.trans b.hushed.dumpOnly_sameAtReset).trans b.powerCut_calm.sameAtReset

/-- The sequence is counted and reported. -/
def Block.dykeSeen (b : Block) : Block := ((b.setFld PW_STAT_DYKE 1).bump PW_CNT_DUMPS 1).raise 32

theorem Block.dykeSeen_fld (b : Block) : b.dykeSeen.fld PW_STAT_DYKE = 1 := by
  unfold Block.dykeSeen
  rw [Block.raise_fld _ _ rfl, Block.bump, Block.fld_setFld_apart _ _ _ rfl]
  exact Block.fld_setFld_same b _ rfl _

theorem Block.dykeSeen_raised (b : Block) : b.dykeSeen.raised 32 = true :=
  Block.raise_raised_same (srcPresent_power _ (by decide))

theorem Block.dykeSeen_sameAtReset (b : Block) : b.SameAtReset b.dykeSeen := by
  have hb : b.SameAtReset b := Calm.refl.sameAtReset
  have hset : b.SameAtReset ((b.setFld PW_STAT_DYKE 1).bump PW_CNT_DUMPS 1) :=
    (hb.setFld PW_STAT_DYKE 1).setFld PW_CNT_DUMPS _
  exact hset.trans (Calm.refl.raise 32).sameAtReset

/-- The first two rows of the sequence. -/
def Block.cutOff (b : Block) : Block := b.dykeSeen.powerCut

/-- A detection starts the whole sequence. -/
def Block.dykeArmed (b : Block) : Prop := b.on PW_STAT_ARMED = true ∧ b.on PW_CTL_DYKE_EN = true

theorem Block.dykeStart_armed (b : Block) (cause : Nat) (h : b.dykeArmed) :
    b.dykeStart cause = b.cutOff.modPw fun p => { p with dyke := some ⟨cause, true, b.dumpList⟩ } :=
  if_pos (by rw [h.1, h.2]; rfl)

theorem Block.dykeStart_unarmed (b : Block) (cause : Nat) (h : ¬ b.dykeArmed) :
    b.dykeStart cause = b.cutOff.moduleReset cause :=
  if_neg fun hn => h ((Bool.and_eq_true _ _).mp hn)

/-- The block of a sequence that has begun (R452). -/
def Block.Begun (b t : Block) (cause : Nat) : Prop :=
  t.pw.dyke = some ⟨cause, true, b.dumpList⟩ ∧ t.fld PW_STAT_DYKE = 1 ∧ t.raised 32 = true ∧ t.fld PT_CTL_DYKE = 1 ∧
    (∀ c ∈ t.hq.cmds, c.discard = true) ∧ t.ml.alive = false ∧ (∀ x ∈ t.pt.waiting, x.reads = false) ∧
    (∀ u : Fin 4, b.part.hasSurf u = true → t.fld (SEs_LSAFE_LDEN u) = 0 ∧ t.fld (SEs_LSAFE_WGATE u) = 0 ∧
      (vget t.wp u).running = none) ∧
    ∀ a : Fin 9, b.part.hasAxis a = true → t.fld (AXa_STAT_HOMED a) = 0

/-- The power cut leaves every surface dark. -/
theorem Block.powerCut_dark (b : Block) {u : Fin 4} (hu : b.part.hasSurf u = true) : b.powerCut.dark u := by
  have hne : PT_CTL_DYKE.reg ≠ SEs_LSAFE u := by
    show PT_CTL ≠ _
    simp only [PT_CTL, SEs_LSAFE]
    omega
  have h1 : b.hushed.dark u := (Calm.refl.modHq _).leavePartner.dark (b.outputsOff_dark hu)
  have h2 : b.hushed.dumpOnly.dark u :=
    ⟨(Block.dumpOnly_fld _ (apart_of_reg_ne hne)).trans h1.1, (Block.dumpOnly_fld _ (apart_of_reg_ne hne)).trans h1.2.1, h1.2.2⟩
  exact b.powerCut_calm.dark h2

/-- No axis counts as homed after it. -/
theorem Block.powerCut_homed (b : Block) {a : Fin 9} (ha : b.part.hasAxis a = true) :
    b.powerCut.fld (AXa_STAT_HOMED a) = 0 := by
  have hne : PT_CTL_DYKE.reg ≠ AXa_STAT a := by
    show PT_CTL ≠ _
    simp only [PT_CTL, AXa_STAT]
    omega
  have hcalm : Calm b.outputsOff b.hushed := (Calm.refl.modHq _).leavePartner
  have hh : b.hushed.fld (AXa_STAT_HOMED a) = 0 := hcalm.gate _ (gateReg_axis a.isLt) (b.outputsOff_homed ha)
  exact b.powerCut_calm.gate _ (gateReg_axis a.isLt) ((Block.dumpOnly_fld _ (apart_of_reg_ne hne)).trans hh)

/-- Reads no longer wait for Peat. -/
theorem Block.powerCut_waiting (b : Block) : ∀ x ∈ b.powerCut.pt.waiting, x.reads = false := by
  rw [b.powerCut_calm.pt.1]
  intro x hx
  have := (List.mem_filter.mp hx).2
  simpa using this

theorem Block.powerCut_dyke (b : Block) : b.powerCut.fld PT_CTL_DYKE = 1 :=
  (b.powerCut_calm.fld rfl).trans (Block.fld_setFld_same (b.hushed.modMl _) _ rfl _)

/-- What the power cut leaves: registers of the power unit, and pending sources. -/
theorem Block.powerCut_fld (b : Block) {g : Fld} (hg : calmReg g.reg = true) (ha : PT_CTL_DYKE.apart g = true) :
    b.powerCut.fld g = b.fld g :=
  (b.powerCut_calm.fld hg).trans ((b.hushed.dumpOnly_fld ha).trans (Calm.refl.hushed.fld hg))

theorem Block.powerCut_raised (b : Block) {n : Nat} (h : b.raised n = true) : b.powerCut.raised n = true :=
  b.powerCut_calm.raised n ((Calm.refl.hushed : Calm b b.hushed).raised n h)

/-- An armed detection starts the sequence (R451, R452). -/
theorem Block.dykeStart_begun (b : Block) (cause : Nat) (h : b.dykeArmed) : b.Begun (b.dykeStart cause) cause := by
  have hp : b.dykeSeen.part = b.part := b.dykeSeen_sameAtReset.part
  rw [b.dykeStart_armed cause h]
  refine ⟨rfl, (Block.powerCut_fld _ rfl rfl).trans b.dykeSeen_fld, Block.powerCut_raised _ b.dykeSeen_raised,
    Block.powerCut_dyke _, ?_, Block.powerCut_calm _ |>.ml.1, Block.powerCut_waiting _, fun u hu => ?_, fun a ha => ?_⟩
  · show ∀ c ∈ b.dykeSeen.powerCut.hq.cmds, _
    rw [Block.powerCut_hq]
    exact Block.hushed_discards _
  · exact Block.powerCut_dark _ (hp ▸ hu)
  · exact Block.powerCut_homed _ (hp ▸ ha)

/-- An unarmed one resets (R451). -/
theorem Block.dykeStart_reset (b : Block) {cause : Nat} (hc : cause ≠ 0) (h : ¬ b.dykeArmed) :
    b.WasReset (b.dykeStart cause) cause := by
  rw [b.dykeStart_unarmed cause h]
  exact .of_same (b.dykeSeen_sameAtReset.trans (Block.powerCut_sameAtReset _)) (Block.moduleReset_wasReset _ hc)

/-! ### Each command that resets (R21, R451 to R457, R467) -/

/-- A command that resets, with the state before it read by calm work only. -/
theorem Does.reset {i : Instr} {s : State} {f : Block → Block} {cause : Nat} (hc : cause ≠ 0)
    (hi : exec i s = s.upd fun b => (f b).moduleReset cause) (hf : Calm s.toBlock (f s.toBlock)) :
    Does i s fun t => s.WasReset t.toBlock cause ∧ s.KeepsCounts t.toBlock := by
  obtain ⟨hstat, hcnt⟩ := ((f s.toBlock).moduleReset_keeps hc).1
  exact does_upd hi ⟨.of_same hf.sameAtReset (Block.moduleReset_wasReset _ hc), hstat.trans (hf.rd _ rfl),
    hcnt.trans (hf.rd _ rfl)⟩

/-- Meanings that change the block alike are the same in that state. -/
theorem State.upd_congr {s : State} {f g : Block → Block} (h : f s.toBlock = g s.toBlock) : s.upd f = s.upd g := by
  rw [State.upd, State.upd, h]

theorem does_por (s : State) : Does .por s fun t => s.Cleared t.toBlock ∧
    (∀ o, t.rd o = (Block.initial s.part).rd o) ∧ t.fld PW_RSTCAUSE_CAUSE = 1 ∧ t.fld PW_STAT_RMODE = 1 := by
  obtain ⟨hcl, hrd⟩ := s.toBlock.moduleReset_por
  have hfld : ∀ g : Fld, (s.toBlock.moduleReset 0).fld g = (Block.initial s.part).fld g := fun g => congrArg g.get (hrd g.reg)
  refine ⟨_, rfl, rfl, hcl, hrd, (hfld _).trans ?_, (hfld _).trans (Block.initial_rmode _)⟩
  cases s.part <;> rfl

theorem exec_resetN (s : State) : exec .resetN s =
    s.upd fun b => if b.pw.dyke.isSome then b.modPw fun p => { p with resetN := true } else b.moduleReset 1 := rfl

theorem exec_clockAlarm (s : State) : exec .clockAlarm s =
    s.upd fun b => if b.pw.dyke.isSome then b else (b.outputsOff.keyAlarm .clock).moduleReset 3 := rfl

theorem exec_powerFailDetect (s : State) : exec .powerFailDetect s =
    s.upd fun b => if b.pw.dyke.isSome || b.pw.asleep then b else b.dykeStart 7 := rfl

theorem exec_wdog (s : State) : exec .wdog s = s.upd fun b => if b.pw.dyke.isSome then b else b.dykeStart 4 := rfl

theorem exec_soft (key : BitVec 16) (dump : Bool) (s : State) : exec (.soft key dump) s =
    s.upd fun b => b.softReset key.toNat dump := rfl

theorem not_isSome_of_none {α : Type} {o : Option α} (h : o = none) : ¬ o.isSome = true := by simp [h]

theorem does_resetN {s : State} (h : s.pw.dyke = none) :
    Does .resetN s fun t => s.WasReset t.toBlock 1 ∧ s.KeepsCounts t.toBlock := by
  have hi : exec .resetN s = s.upd fun b => b.moduleReset 1 :=
    (exec_resetN s).trans (State.upd_congr (if_neg (not_isSome_of_none h)))
  exact .reset (f := id) (by decide) hi .refl

theorem does_resetN_waits {s : State} (h : s.pw.dyke ≠ none) :
    Does .resetN s fun t => t.pw = { s.pw with resetN := true } ∧ t.regs = s.regs := by
  have hi : exec .resetN s = s.upd fun b => b.modPw fun p => { p with resetN := true } :=
    (exec_resetN s).trans (State.upd_congr (if_pos (Option.isSome_iff_ne_none.mpr h)))
  exact does_upd hi ⟨rfl, rfl⟩

theorem does_clockAlarm {s : State} (h : s.pw.dyke = none) :
    Does .clockAlarm s fun t => s.WasReset t.toBlock 3 ∧ s.KeepsCounts t.toBlock := by
  have hi : exec .clockAlarm s = s.upd fun b => (b.outputsOff.keyAlarm .clock).moduleReset 3 :=
    (exec_clockAlarm s).trans (State.upd_congr (if_neg (not_isSome_of_none h)))
  exact .reset (f := fun b => b.outputsOff.keyAlarm .clock) (by decide) hi (Calm.refl.outputsOff.keyAlarm _)

/-- A running sequence is not disturbed. -/
theorem exec_of_dyke {s : State} (h : s.pw.dyke ≠ none) (key : BitVec 16) :
    exec .clockAlarm s = .next s ∧ exec .wdog s = .next s ∧ exec .powerFailDetect s = .next s ∧
      ∀ dump, exec (.soft key dump) s = .next s := by
  have hd : s.pw.dyke.isSome = true := Option.isSome_iff_ne_none.mpr h
  exact ⟨(exec_clockAlarm s).trans (State.upd_same (if_pos hd)), (exec_wdog s).trans (State.upd_same (if_pos hd)),
    (exec_powerFailDetect s).trans (State.upd_same (if_pos (by rw [hd, Bool.true_or]))),
    fun dump => (exec_soft key dump s).trans (State.upd_same (if_pos (by rw [hd, Bool.or_true])))⟩

theorem exec_powerFailDetect_asleep {s : State} (h : s.pw.asleep = true) : exec .powerFailDetect s = .next s :=
  (exec_powerFailDetect s).trans (State.upd_same (if_pos (by rw [h, Bool.or_true])))

theorem exec_soft_key {s : State} {key : BitVec 16} (h : key ≠ 0xA5C3) (dump : Bool) :
    exec (.soft key dump) s = .next s := by
  have hk : key.toNat ≠ 0xA5C3 := fun he => h (BitVec.eq_of_toNat_eq he)
  exact (exec_soft key dump s).trans (State.upd_same (if_pos (by rw [decide_eq_true hk, Bool.true_or])))

/-- A command that starts a sequence, or the reset where it is not armed. -/
theorem Does.dykeStart {i : Instr} {s : State} {cause : Nat} (hc : cause ≠ 0)
    (hi : exec i s = s.upd fun b => b.dykeStart cause) :
    (s.dykeArmed → Does i s fun t => s.Begun t.toBlock cause) ∧
      (¬ s.dykeArmed → Does i s fun t => s.WasReset t.toBlock cause) :=
  ⟨fun h => does_upd hi (s.dykeStart_begun cause h), fun h => does_upd hi (s.dykeStart_reset hc h)⟩

theorem exec_powerFailDetect_awake {s : State} (hd : s.pw.dyke = none) (ha : s.pw.asleep = false) :
    exec .powerFailDetect s = s.upd fun b => b.dykeStart 7 :=
  (exec_powerFailDetect s).trans (State.upd_congr (if_neg (by rw [hd, ha]; decide)))

theorem exec_wdog_idle {s : State} (hd : s.pw.dyke = none) : exec .wdog s = s.upd fun b => b.dykeStart 4 :=
  (exec_wdog s).trans (State.upd_congr (if_neg (not_isSome_of_none hd)))

theorem exec_soft_idle {s : State} (hd : s.pw.dyke = none) (dump : Bool) :
    exec (.soft 0xA5C3 dump) s = s.upd fun b => if dump then b.dykeStart 5 else b.moduleReset 5 := by
  have hn : ¬ (decide ((0xA5C3 : BitVec 16).toNat ≠ 0xA5C3) || s.pw.dyke.isSome) = true := by simp [hd]
  exact (exec_soft _ dump s).trans (State.upd_congr (if_neg hn))

theorem exec_soft_dump {s : State} (hd : s.pw.dyke = none) :
    exec (.soft 0xA5C3 true) s = s.upd fun b => b.dykeStart 5 :=
  (exec_soft_idle hd true).trans (State.upd_congr (if_pos rfl))

theorem exec_soft_plain {s : State} (hd : s.pw.dyke = none) :
    exec (.soft 0xA5C3 false) s = s.upd fun b => b.moduleReset 5 :=
  (exec_soft_idle hd false).trans (State.upd_congr (if_neg Bool.false_ne_true))

/-! #### The end of the sequence, and a brown-out -/

/-- The dump and its records are programmed. -/
def Block.dykeDumped (b : Block) (d : Dyke) : Block := (b.dump d.todo d.todo.length true).ptStaged

/-- The sequence reports what it dumped, and how long it took. -/
def Block.dykeReport (b : Block) (mib dur : Nat) : Block :=
  (((b.setFld PW_DYKE_STAT_INC 0).setFld PW_DYKE_STAT_MIB mib).setFld PW_DYKE_STAT_DUR dur).modHq fun h =>
    { h with dumps := h.dumps + 1 }

/-- The block at the end of a sequence, before its reset. -/
def Block.dykeDone (b : Block) (d : Dyke) (dur : Nat) : Block :=
  (b.dykeDumped d).dykeReport ((8192 * d.todo.length + 1048575) / 1048576) dur

theorem Block.dykeDumped_calm (b : Block) (d : Dyke) : Calm b (b.dykeDumped d) := (Calm.refl.dump _ _ _).ptStaged

theorem Block.dump_pw (b : Block) (todo : List Nat) (n : Nat) (w : Bool) : (b.dump todo n w).pw = b.pw :=
  (frame_dump (l₀ := [.regs, .irq, .store, .pt, .ml, .out]) .refl todo n w (List.Subset.refl _)).same .pw (by decide)

theorem Block.ptStaged_pw (b : Block) : b.ptStaged.pw = b.pw :=
  (frame_ptStaged (l₀ := [.hq, .store, .pt]) .refl (List.Subset.refl _)).same .pw (by decide)

theorem Block.dykeReport_pw (b : Block) (mib dur : Nat) : (b.dykeReport mib dur).pw = b.pw := rfl

theorem Block.dykeDone_pw (b : Block) (d : Dyke) (dur : Nat) : (b.dykeDone d dur).pw = b.pw := by
  rw [Block.dykeDone, Block.dykeReport_pw, Block.dykeDumped, Block.ptStaged_pw, Block.dump_pw]

theorem Block.dykeReport_sameAtReset (b : Block) (mib dur : Nat) : b.SameAtReset (b.dykeReport mib dur) := by
  have h := (((Calm.refl (b := b)).sameAtReset.setFld PW_DYKE_STAT_INC 0).setFld PW_DYKE_STAT_MIB mib).setFld PW_DYKE_STAT_DUR dur
  exact ⟨h.part, h.cause, h.meas, h.holdup, h.done⟩

theorem Block.dykeDone_sameAtReset (b : Block) (d : Dyke) (dur : Nat) : b.SameAtReset (b.dykeDone d dur) :=
  (b.dykeDumped_calm d).sameAtReset.trans (Block.dykeReport_sameAtReset _ _ _)

/-- What the sequence reports of itself; the counters stand. -/
theorem Block.dykeReport_stat (b : Block) (mib : Nat) (dur : BitVec 16) :
    (b.dykeReport mib dur.toNat).fld PW_DYKE_STAT_INC = 0 ∧ (b.dykeReport mib dur.toNat).fld PW_DYKE_STAT_DUR = dur.toNat ∧
      (b.dykeReport mib dur.toNat).fld PW_DYKE_STAT_MIB = mib % 2 ^ 11 ∧
      (b.dykeReport mib dur.toNat).rd PW_CNT = b.rd PW_CNT := by
  unfold Block.dykeReport
  rw [Block.modHq_fld, Block.modHq_fld, Block.modHq_fld]
  refine ⟨?_, ?_, ?_, ?_⟩
  · rw [Block.fld_setFld_apart _ _ _ rfl, Block.fld_setFld_apart _ _ _ rfl, Block.fld_setFld_same _ _ rfl, Nat.zero_mod]
  · rw [Block.fld_setFld_same _ _ rfl]
    exact Nat.mod_eq_of_lt dur.isLt
  · rw [Block.fld_setFld_apart _ _ _ rfl, Block.fld_setFld_same _ _ rfl]
    rfl
  · show (Block.setFld _ _ _).rd _ = _
    rw [Block.rd_setFld_ne _ _ (by decide), Block.rd_setFld_ne _ _ (by decide), Block.rd_setFld_ne _ _ (by decide)]

/-- The reset at the end, with RESET_N where it came in between. -/
def Block.dykeReset (b : Block) (d : Dyke) (dur : Nat) : Block :=
  if (b.dykeDone d dur).pw.resetN then ((b.dykeDone d dur).moduleReset d.cause).putBit PW_RSTCAUSE_CAUSE 1 true
  else (b.dykeDone d dur).moduleReset d.cause

theorem exec_dykeEnd (s : State) (dur : BitVec 16) : exec (.dykeEnd dur) s = s.upd fun b =>
    match b.pw.dyke with
    | none => b
    | some d => b.dykeReset d dur.toNat := rfl

theorem exec_dykeEnd_some {s : State} {d : Dyke} (h : s.pw.dyke = some d) (dur : BitVec 16) :
    exec (.dykeEnd dur) s = s.upd fun b => b.dykeReset d dur.toNat :=
  (exec_dykeEnd s dur).trans (State.upd_congr (by simp only [h]))

theorem Block.dykeReset_rd (b : Block) (d : Dyke) (dur : Nat) {o : Nat} (ho : o ≠ PW_RSTCAUSE) :
    (b.dykeReset d dur).rd o = ((b.dykeDone d dur).moduleReset d.cause).rd o := by
  rw [Block.dykeReset, Block.dykeDone_pw]
  split
  · exact Block.rd_putBit_ne _ _ ho _ _
  · rfl

theorem Block.dykeReset_cleared (b : Block) {d : Dyke} (hc : d.cause ≠ 0) (dur : Nat) : b.Cleared (b.dykeReset d dur) := by
  have h : b.Cleared ((b.dykeDone d dur).moduleReset d.cause) :=
    (Block.WasReset.of_same (b.dykeDone_sameAtReset d dur) (Block.moduleReset_wasReset _ hc)).1
  rw [Block.dykeReset, Block.dykeDone_pw]
  split
  · exact h
  · exact h

theorem Block.dykeReset_cause (b : Block) {d : Dyke} (hc : d.cause ≠ 0) (hc8 : d.cause < 8) (dur : Nat) :
    (b.dykeReset d dur).onBit PW_RSTCAUSE_CAUSE d.cause = true ∧
      (b.pw.resetN = true → (b.dykeReset d dur).onBit PW_RSTCAUSE_CAUSE 1 = true) := by
  have h : ((b.dykeDone d dur).moduleReset d.cause).onBit PW_RSTCAUSE_CAUSE d.cause = true := by
    rw [Block.moduleReset_cause _ hc hc8, decide_eq_true rfl, Bool.true_or]
  rw [Block.dykeReset, Block.dykeDone_pw]
  split
  · refine ⟨?_, fun _ => ?_⟩
    · rw [Block.onBit_putBit _ rfl hc8, h, Bool.or_true]
    · rw [Block.onBit_putBit _ rfl (by decide), decide_eq_true rfl, Bool.true_or]
  · next hn => exact ⟨h, fun hr => absurd hr hn⟩

/-- The sequence ends in the reset of its cause (R452, R454, R455). -/
theorem does_dykeEnd {s : State} {d : Dyke} (h : s.pw.dyke = some d) (dur : BitVec 16) (hc : 0 < d.cause) (hc8 : d.cause < 8) :
    Does (.dykeEnd dur) s fun t => s.Cleared t.toBlock ∧ t.onBit PW_RSTCAUSE_CAUSE d.cause = true ∧
      (s.pw.resetN = false → s.WasReset t.toBlock d.cause) ∧ (s.pw.resetN = true → t.onBit PW_RSTCAUSE_CAUSE 1 = true) ∧
      t.fld PW_DYKE_STAT_INC = 0 ∧ t.fld PW_DYKE_STAT_DUR = dur.toNat ∧
      t.fld PW_DYKE_STAT_MIB = (8192 * d.todo.length + 1048575) / 1048576 % 2 ^ 11 ∧ t.rd PW_CNT = s.rd PW_CNT := by
  have hc0 : d.cause ≠ 0 := Nat.ne_of_gt hc
  obtain ⟨hbit, hbit1⟩ := s.dykeReset_cause hc0 hc8 dur.toNat
  obtain ⟨hinc, hdur, hmib, hcnt⟩ := (s.dykeDumped d).dykeReport_stat ((8192 * d.todo.length + 1048575) / 1048576) dur
  obtain ⟨hstat, hcnt'⟩ := ((s.dykeDone d dur.toNat).moduleReset_keeps hc0).1
  have hfld : ∀ g : Fld, g.reg = PW_DYKE_STAT → (s.dykeReset d dur.toNat).fld g = (s.dykeDone d dur.toNat).fld g :=
    fun g hg => by
      unfold Block.fld
      rw [hg, Block.dykeReset_rd _ _ _ (by decide), hstat]
  refine does_upd (exec_dykeEnd_some h dur) ⟨s.dykeReset_cleared hc0 _, hbit, fun hr => ?_, hbit1, (hfld _ rfl).trans hinc,
    (hfld _ rfl).trans hdur, (hfld _ rfl).trans hmib, ?_⟩
  · show s.WasReset (s.dykeReset d dur.toNat) d.cause
    rw [Block.dykeReset, Block.dykeDone_pw, if_neg (by rw [hr]; decide)]
    exact .of_same (s.dykeDone_sameAtReset d _) (Block.moduleReset_wasReset _ hc0)
  · exact (Block.dykeReset_rd _ _ _ (by decide)).trans (hcnt'.trans (hcnt.trans ((s.dykeDumped_calm d).rd _ rfl)))

theorem exec_dykeEnd_none {s : State} (h : s.pw.dyke = none) (dur : BitVec 16) : exec (.dykeEnd dur) s = .next s :=
  (exec_dykeEnd s dur).trans (State.upd_same (by simp only [h]))

/-- The block that the reset of a brown-out finds: the dump is incomplete. -/
def Block.dumpCut (b : Block) (dumped : Nat) : Block :=
  match b.pw.dyke with
  | none => b
  | some d => (b.dump d.todo dumped false).modPw fun p => { p with incomplete := true }

theorem Block.brownOut_eq (b : Block) (dumped : Nat) : b.brownOut dumped = (b.dumpCut dumped).moduleReset 2 := by
  unfold Block.brownOut Block.dumpCut
  cases b.pw.dyke <;> rfl

theorem Block.dumpCut_calm (b : Block) (dumped : Nat) : Calm b (b.dumpCut dumped) := by
  unfold Block.dumpCut
  split
  · exact .refl
  · exact (Calm.refl.dump _ _ _).modPw _

theorem Block.dumpCut_incomplete (b : Block) (dumped : Nat) (h : b.pw.dyke ≠ none) :
    (b.dumpCut dumped).pw.incomplete = true := by
  unfold Block.dumpCut
  split
  · next hn => exact absurd hn h
  · rfl

theorem Block.resetUnits_incomplete (b : Block) (cause : Nat) :
    (b.resetUnits cause).pw.incomplete = b.pw.incomplete := rfl

theorem Block.keepRegs_pw (z b : Block) (cause : Nat) : (z.keepRegs b cause).pw = z.pw := rfl

/-- A reset keeps the mark of an incomplete dump. -/
theorem Block.moduleReset_incomplete (b : Block) (cause : Nat) : (b.moduleReset cause).pw.incomplete = b.pw.incomplete := by
  rw [← b.quit_pw, b.moduleReset_eq]
  split
  · exact b.quit.resetUnits_incomplete cause
  · rw [Block.keepRegs_pw]
    exact b.quit.resetUnits_incomplete cause

theorem exec_brownout (dumped : Nat) (s : State) :
    exec (.brownout dumped) s = s.upd fun b => (b.bump PW_CNT_BROWNOUT 1).brownOut dumped := rfl

theorem does_brownout (s : State) (dumped : Nat) :
    Does (.brownout dumped) s fun t => s.WasReset t.toBlock 2 ∧ (s.pw.dyke ≠ none → t.pw.incomplete = true) ∧
      (s.fld PW_CNT_BROWNOUT < 255 → t.fld PW_CNT_BROWNOUT = s.fld PW_CNT_BROWNOUT + 1) := by
  have hi : exec (.brownout dumped) s = s.upd fun b => ((b.bump PW_CNT_BROWNOUT 1).dumpCut dumped).moduleReset 2 :=
    (exec_brownout dumped s).trans (State.upd_congr (Block.brownOut_eq _ _))
  have hcalm := (s.bump PW_CNT_BROWNOUT 1).dumpCut_calm dumped
  have hsame : s.SameAtReset (s.bump PW_CNT_BROWNOUT 1) := (Calm.refl.sameAtReset).setFld PW_CNT_BROWNOUT _
  have hreset := ((s.bump PW_CNT_BROWNOUT 1).dumpCut dumped).moduleReset_wasReset (cause := 2) (by decide)
  refine does_upd hi ⟨Block.WasReset.of_same (hsame.trans hcalm.sameAtReset) hreset, fun h => ?_, fun h => ?_⟩
  · exact (Block.moduleReset_incomplete _ 2).trans (Block.dumpCut_incomplete _ dumped h)
  · obtain ⟨-, hcnt⟩ := (((s.bump PW_CNT_BROWNOUT 1).dumpCut dumped).moduleReset_keeps (cause := 2) (by decide)).1
    have hfld := congrArg PW_CNT_BROWNOUT.get (hcnt.trans (hcalm.rd _ rfl))
    exact hfld.trans (Block.fld_bump_one _ _ rfl rfl h)

/-! ### The boot (R458) -/

/-- What a boot step leaves: the part, PT_CTL, the cause of the reset, dies that failed, pending sources, the journal's
epoch, the firmware slot. -/
structure Block.Boots (b c : Block) : Prop where
  part : c.part = b.part
  ctl : c.rd PT_CTL = b.rd PT_CTL
  cause : c.rd PW_RSTCAUSE = b.rd PW_RSTCAUSE
  fail : ∀ i, b.onBit PT_DIE_FAIL_FAIL i = true → c.onBit PT_DIE_FAIL_FAIL i = true
  raised : ∀ n, b.raised n = true → c.raised n = true
  epoch : c.ml.jEpoch = b.ml.jEpoch
  slot : c.hq.fwActive = b.hq.fwActive

/-- What recovery tells, and that nothing waits for Peat, stand. -/
structure Block.SamePeat (b c : Block) : Prop where
  stat : ∀ g : Fld, g.reg = PT_STAT → PT_STAT_JFULL.apart g = true → c.fld g = b.fld g
  waiting : c.pt.waiting = b.pt.waiting
  ops : c.pt.ops = b.pt.ops

theorem Block.Boots.trans {a b c : Block} (h : a.Boots b) (h' : b.Boots c) : a.Boots c :=
  ⟨h'.part.trans h.part, h'.ctl.trans h.ctl, h'.cause.trans h.cause, fun i hi => h'.fail i (h.fail i hi),
    fun n hn => h'.raised n (h.raised n hn), h'.epoch.trans h.epoch, h'.slot.trans h.slot⟩

theorem Block.SamePeat.trans {a b c : Block} (h : a.SamePeat b) (h' : b.SamePeat c) : a.SamePeat c :=
  ⟨fun g hr hg => (h'.stat g hr hg).trans (h.stat g hr hg), h'.waiting.trans h.waiting, h'.ops.trans h.ops⟩

theorem Calm.boots {b c : Block} (h : Calm b c) : b.Boots c :=
  ⟨h.part, h.rd _ rfl, h.rd _ rfl, fun i hi => (h.onBit rfl i).trans hi, h.raised, h.ml.2, h.hq.1⟩

theorem Calm.samePeat {b c : Block} (h : Calm b c) : b.SamePeat c := ⟨h.stat, h.pt.1, h.pt.2⟩

/-- A field of another register is written. -/
theorem Block.Boots.setFld (b : Block) (f : Fld) (n : Nat)
    (hne : f.reg ∉ [PT_CTL, PW_RSTCAUSE, PT_DIE_FAIL] := by decide) : b.Boots (b.setFld f n) := by
  simp only [List.mem_cons, List.not_mem_nil, or_false, not_or, ← ne_eq] at hne
  obtain ⟨h1, h2, h3⟩ := hne
  refine ⟨rfl, Block.rd_setFld_ne _ _ h1.symm _, Block.rd_setFld_ne _ _ h2.symm _, fun i hi => ?_, fun _ => id, rfl, rfl⟩
  have hrd : (b.setFld f n).rd PT_DIE_FAIL_FAIL.reg = b.rd PT_DIE_FAIL_FAIL.reg := Block.rd_setFld_ne _ _ h3.symm _
  unfold Block.onBit Block.fld at *
  rwa [hrd]

theorem Block.SamePeat.setFld (b : Block) (f : Fld) (n : Nat) (hne : f.reg ≠ PT_STAT := by decide) :
    b.SamePeat (b.setFld f n) :=
  ⟨fun _ hg _ => Block.fld_setFld_apart _ _ _ (apart_of_reg_ne (hg ▸ hne)) _, rfl, rfl⟩

/-! #### Its steps -/

/-- The firmware slot that the boot runs. -/
def Block.bootSlot (b : Block) (slotOk : BitVec 2) : Nat :=
  let want := if b.hq.fwNext = 0 then b.hq.fwActive else b.hq.fwNext
  if slotOk.getLsbD (want - 1) then want else 3 - want

/-- The slot is taken. -/
def Block.bootStart (b : Block) (slotOk : BitVec 2) : Block :=
  (b.modHq fun h => { h with fwActive := b.bootSlot slotOk, fwNext := 0 }).modPw fun p => { p with held := false }

/-- A die whose parameter page cannot be read has failed (R364). -/
def Block.bootDie (b : Block) (badDies : BitVec 32) (d : Nat) : Block :=
  if badDies.getLsbD d then (b.putBit PT_DIE_FAIL_FAIL d true).raise (1304 + d) else b

def Block.bootDies (b : Block) (badDies : BitVec 32) : Block :=
  (List.range 32).foldl (fun b d => b.bootDie badDies d) b

/-- The previous dump was incomplete: that is told, once (R454). -/
def Block.dumpTold (b : Block) : Block :=
  (((b.setFld PW_DYKE_STAT_INC 1).modPw fun p => { p with incomplete := false }).raise 41).elogNoCmd 0 0x7F 0

def Block.bootDump (b : Block) : Block := if b.pw.incomplete then b.dumpTold else b

/-- A tamper condition that stands erases the keys again. -/
def Block.bootKeys (b : Block) : Block := if b.cx.conds.contains (KeyAlarm.code .tamper) then b.keyAlarm .tamper else b

/-- The epoch is read from the journal. -/
def Block.bootEpoch (b : Block) : Block := b.setFld ML_EPOCH_EPOCH b.ml.jEpoch

/-- The boot is done. -/
def Block.bootFlag (b : Block) : Block := (b.setFld PW_STAT_BOOT_DONE 1).modHq fun h => { h with booted := true }

/-- A reset that was no POR is told. -/
def Block.bootCause (b : Block) : Block := if b.fld PW_RSTCAUSE_CAUSE / 2 = 0 then b else b.raise 42

/-- From recovery on. -/
def Block.bootRest (b : Block) : Block := b.bootDump.bootKeys.bootEpoch.bootFlag.bootCause.tryReady

/-- The whole boot. -/
def Block.boot (b : Block) (slotOk : BitVec 2) (badDies : BitVec 32) (bad : List (Nat × Nat)) : Block :=
  (((b.bootStart slotOk).bootDies badDies).ptRecover bad).bootRest

theorem exec_moduleBoot (slotOk : BitVec 2) (badDies : BitVec 32) (bad : List (Nat × Nat)) (s : State) :
    exec (.moduleBoot slotOk badDies bad) s =
      s.upd fun b => if b.on PW_STAT_BOOT_DONE then b else b.boot slotOk badDies bad := rfl

/-! #### What each step brings about -/

/-- Only a bit that the field has can be set. -/
theorem Block.lt_of_onBit {b : Block} {f : Fld} {i : Nat} (h : b.onBit f i = true) : i < f.hi + 1 - f.lo := by
  by_contra hn
  have hlt : b.fld f < 2 ^ i := (Block.fld_lt b f).trans_le (Nat.pow_le_pow_right (by decide) (Nat.le_of_not_lt hn))
  have h0 : b.onBit f i = false := Nat.testBit_lt_two_pow hlt
  rw [h0] at h
  cases h

theorem Block.bootDie_boots (b : Block) (badDies : BitVec 32) (d : Nat) : b.Boots (b.bootDie badDies d) := by
  have hput : b.Boots (b.putBit PT_DIE_FAIL_FAIL d true) := by
    refine ⟨rfl, Block.rd_putBit_ne _ _ (by decide) _ _, Block.rd_putBit_ne _ _ (by decide) _ _, fun i hi => ?_, fun _ => id,
      rfl, rfl⟩
    rw [Block.onBit_putBit _ rfl (Block.lt_of_onBit hi), hi, Bool.or_true]
  unfold Block.bootDie
  split
  · exact hput.trans (Calm.refl.raise _).boots
  · exact Calm.refl.boots

theorem Block.bootDie_pw (b : Block) (badDies : BitVec 32) (d : Nat) : (b.bootDie badDies d).pw = b.pw := by
  unfold Block.bootDie
  split
  · exact Block.raise_pw _ _
  · rfl

theorem Block.bootDies_boots (b : Block) (badDies : BitVec 32) : b.Boots (b.bootDies badDies) :=
  List.foldlRecOn (motive := fun c => b.Boots c) _ _ Calm.refl.boots fun c hc d _ => hc.trans (c.bootDie_boots badDies d)

theorem Block.bootDies_pw (b : Block) (badDies : BitVec 32) : (b.bootDies badDies).pw = b.pw :=
  List.foldlRecOn (motive := fun c : Block => c.pw = b.pw) _ _ rfl fun c hc d _ => (c.bootDie_pw badDies d).trans hc

theorem Block.ptRecover_pw (b : Block) (bad : List (Nat × Nat)) : (b.ptRecover bad).pw = b.pw :=
  (frame_ptRecover (l₀ := [.regs, .irq, .pt, .ml, .out]) .refl bad (List.Subset.refl _)).same .pw (by decide)

/-- Work that Peat had is gone. -/
def Block.ptEmptied (b : Block) : Block :=
  b.modPt fun p => { p with waiting := [], ops := [], openPages := [], reserved := [], mapped := [] }

/-- Recovery reports. -/
def Block.ptRecovered (b : Block) : Block :=
  ((b.setFld PT_STAT_RECOV 0).setBit PT_STAT_READY (b.on PT_CTL_EN)).raise 1301

theorem Block.ptRecover_calm (b : Block) (bad : List (Nat × Nat)) :
    ∃ c, Calm b.ptEmptied c ∧ b.ptRecover bad = c.ptRecovered := by
  unfold Block.ptRecover
  extract_lets b1 b2 intents keyOf blank b3 b4 open_ fixed b5 b6 b7
  have h2 : Calm b.ptEmptied b2 := Calm.refl.modPt _
  have h3 : Calm b.ptEmptied b3 := h2.foldl fun c r _ hc => ((((hc.ptOwn _ _ _ _).modPt _).modPtBlock _ _).ptOwn _ _ _ _)
  have h6 : Calm b.ptEmptied b6 := ((h3.setFld _ _).setFld _ _).foldl fun c e _ hc => hc.ptMoveRebuilt _ _
  have h7 : Calm b.ptEmptied b7 := h6.foldl fun c e _ hc => (hc.modPtBlock _ _).ptOwn _ _ _ _
  exact ⟨b7, h7, rfl⟩

theorem Block.ptRecovered_boots (b : Block) : b.Boots b.ptRecovered := by
  have h0 := Block.Boots.setFld b PT_STAT_RECOV 0
  have h1 := Block.Boots.setFld (b.setFld PT_STAT_RECOV 0) PT_STAT_READY (b.on PT_CTL_EN).toNat
  exact (h0.trans h1).trans (Calm.refl.raise 1301).boots

theorem Block.ptRecover_boots (b : Block) (bad : List (Nat × Nat)) : b.Boots (b.ptRecover bad) := by
  obtain ⟨c, hc, he⟩ := b.ptRecover_calm bad
  have h0 : b.Boots b.ptEmptied := ⟨rfl, rfl, rfl, fun _ => id, fun _ => id, rfl, rfl⟩
  rw [he]
  exact (h0.trans hc.boots).trans c.ptRecovered_boots

/-- Recovery is over, PT is ready if it is enabled, and no work waits (R359). -/
theorem Block.ptRecover_does (b : Block) (bad : List (Nat × Nat)) :
    (b.ptRecover bad).fld PT_STAT_RECOV = 0 ∧ (b.ptRecover bad).on PT_STAT_READY = b.on PT_CTL_EN ∧
      (b.ptRecover bad).raised 1301 = true ∧ (b.ptRecover bad).pt.waiting = [] ∧ (b.ptRecover bad).pt.ops = [] := by
  obtain ⟨c, hc, he⟩ := b.ptRecover_calm bad
  have hcalm : Calm ((c.setFld PT_STAT_RECOV 0).setBit PT_STAT_READY (c.on PT_CTL_EN)) c.ptRecovered := Calm.refl.raise 1301
  rw [he]
  refine ⟨?_, ?_, Block.raise_raised_same rfl, hcalm.pt.1.trans hc.pt.1, hcalm.pt.2.trans hc.pt.2⟩
  · rw [hcalm.stat _ rfl rfl, Block.fld_setBit_apart _ _ _ rfl, Block.fld_setFld_same _ _ rfl, Nat.zero_mod]
  · rw [Block.on_eq, hcalm.stat _ rfl rfl, Block.fld_setBit_same _ _ rfl, hc.on rfl]
    show decide ((b.on PT_CTL_EN).toNat ≠ 0) = b.on PT_CTL_EN
    cases b.on PT_CTL_EN <;> rfl

theorem Block.dumpTold_calm (b : Block) : Calm (b.setFld PW_DYKE_STAT_INC 1) b.dumpTold :=
  ((Calm.refl.modPw _).raise 41).elogNoCmd _ _ _

theorem Block.bootDump_boots (b : Block) : b.Boots b.bootDump ∧ b.SamePeat b.bootDump := by
  unfold Block.bootDump
  split
  · exact ⟨(Block.Boots.setFld b PW_DYKE_STAT_INC 1).trans b.dumpTold_calm.boots,
      (Block.SamePeat.setFld b PW_DYKE_STAT_INC 1).trans b.dumpTold_calm.samePeat⟩
  · exact ⟨Calm.refl.boots, Calm.refl.samePeat⟩

theorem Block.bootDump_tells (b : Block) (h : b.pw.incomplete = true) :
    b.bootDump.fld PW_DYKE_STAT_INC = 1 ∧ b.bootDump.raised 41 = true := by
  unfold Block.bootDump
  rw [if_pos h]
  refine ⟨(b.dumpTold_calm.fld rfl).trans (Block.fld_setFld_same _ _ rfl _), ?_⟩
  exact (Calm.refl.elogNoCmd 0 0x7F 0).raised 41 (Block.raise_raised_same (srcPresent_power _ (by decide)))

theorem Block.bootKeys_calm (b : Block) : Calm b b.bootKeys := Calm.ite (Calm.refl.keyAlarm _) .refl

theorem Block.bootCause_calm (b : Block) : Calm b b.bootCause := Calm.ite .refl (Calm.refl.raise 42)

/-- From the flag on the work is calm. -/
theorem Block.bootLast_calm (b : Block) : Calm b.bootFlag b.bootFlag.bootCause.tryReady :=
  b.bootFlag.bootCause_calm.tryReady

theorem Block.bootEpoch_boots (b : Block) : b.Boots b.bootEpoch ∧ b.SamePeat b.bootEpoch :=
  ⟨Block.Boots.setFld b ML_EPOCH_EPOCH _, Block.SamePeat.setFld b ML_EPOCH_EPOCH _⟩

theorem Block.bootFlag_boots (b : Block) : b.Boots b.bootFlag ∧ b.SamePeat b.bootFlag := by
  have h := Block.Boots.setFld b PW_STAT_BOOT_DONE 1
  have hp := Block.SamePeat.setFld b PW_STAT_BOOT_DONE 1
  exact ⟨⟨h.part, h.ctl, h.cause, h.fail, h.raised, h.epoch, h.slot⟩, ⟨hp.stat, hp.waiting, hp.ops⟩⟩

theorem Block.bootRest_boots (b : Block) : b.Boots b.bootRest ∧ b.SamePeat b.bootRest := by
  obtain ⟨hd, hd'⟩ := b.bootDump_boots
  obtain ⟨hf, hf'⟩ := b.bootDump.bootKeys.bootEpoch.bootFlag_boots
  have hk := b.bootDump.bootKeys_calm
  obtain ⟨he, he'⟩ := b.bootDump.bootKeys.bootEpoch_boots
  have hl := b.bootDump.bootKeys.bootEpoch.bootLast_calm
  exact ⟨(((hd.trans hk.boots).trans he).trans hf).trans hl.boots,
    (((hd'.trans hk.samePeat).trans he').trans hf').trans hl.samePeat⟩

/-- BOOT_DONE is set. -/
theorem Block.bootRest_done (b : Block) : b.bootRest.fld PW_STAT_BOOT_DONE = 1 ∧ b.bootRest.hq.booted = true := by
  have hl := b.bootDump.bootKeys.bootEpoch.bootLast_calm
  refine ⟨(hl.fld rfl).trans ?_, hl.hq.2⟩
  rw [Block.bootFlag, Block.modHq_fld]
  exact Block.fld_setFld_same _ _ rfl _

/-- The epoch is the journal's. -/
theorem Block.bootRest_epoch (b : Block) : b.bootRest.fld ML_EPOCH_EPOCH = b.ml.jEpoch % 2 ^ 32 := by
  have hl := b.bootDump.bootKeys.bootEpoch.bootLast_calm
  have hepoch : b.bootDump.bootKeys.ml.jEpoch = b.ml.jEpoch := b.bootDump.bootKeys_calm.ml.2.trans b.bootDump_boots.1.epoch
  refine (hl.fld rfl).trans ?_
  rw [Block.bootFlag, Block.modHq_fld, Block.fld_setFld_apart _ _ _ rfl, Block.bootEpoch, Block.fld_setFld_same _ _ rfl, hepoch]
  rfl

/-- A reset that was no POR is told. -/
theorem Block.bootRest_cause (b : Block) (h : b.fld PW_RSTCAUSE_CAUSE / 2 ≠ 0) : b.bootRest.raised 42 = true := by
  obtain ⟨hd, -⟩ := b.bootDump_boots
  obtain ⟨hf, -⟩ := b.bootDump.bootKeys.bootEpoch.bootFlag_boots
  obtain ⟨he, -⟩ := b.bootDump.bootKeys.bootEpoch_boots
  have hcause := congrArg PW_RSTCAUSE_CAUSE.get (((hd.trans b.bootDump.bootKeys_calm.boots).trans he).trans hf).cause
  have hraised : b.bootDump.bootKeys.bootEpoch.bootFlag.bootCause.raised 42 = true := by
    rw [Block.bootCause, if_neg (by rw [Block.fld]; exact hcause ▸ h)]
    exact Block.raise_raised_same (srcPresent_power _ (by decide))
  exact Calm.refl.tryReady.raised 42 hraised

/-- An incomplete dump is told. -/
theorem Block.bootRest_incomplete (b : Block) (h : b.pw.incomplete = true) :
    b.bootRest.fld PW_DYKE_STAT_INC = 1 ∧ b.bootRest.raised 41 = true := by
  obtain ⟨hinc, hraised⟩ := b.bootDump_tells h
  obtain ⟨hf, -⟩ := b.bootDump.bootKeys.bootEpoch.bootFlag_boots
  have hk := b.bootDump.bootKeys_calm
  obtain ⟨he, -⟩ := b.bootDump.bootKeys.bootEpoch_boots
  have hl := b.bootDump.bootKeys.bootEpoch.bootLast_calm
  refine ⟨?_, hl.raised 41 (hf.raised 41 (he.raised 41 (hk.raised 41 hraised)))⟩
  refine (hl.fld rfl).trans ?_
  rw [Block.bootFlag, Block.modHq_fld, Block.fld_setFld_apart _ _ _ rfl, Block.bootEpoch, Block.fld_setFld_apart _ _ _ rfl,
    hk.fld rfl, hinc]

/-- A bad die counts as failed. -/
theorem Block.bootDies_fail (b : Block) (badDies : BitVec 32) (i : Fin 32) (h : badDies.getLsbD i = true) :
    (b.bootDies badDies).onBit PT_DIE_FAIL_FAIL i = true := by
  have hdie : ∀ c : Block, (c.bootDie badDies i).onBit PT_DIE_FAIL_FAIL i = true := fun c => by
    rw [Block.bootDie, if_pos h]
    refine (Calm.refl.raise _).boots.fail i ?_
    rw [Block.onBit_putBit _ rfl i.isLt, decide_eq_true rfl, Bool.true_or]
  obtain ⟨l, r, hl⟩ := List.append_of_mem (List.mem_range.mpr i.isLt)
  rw [Block.bootDies, hl, List.foldl_append, List.foldl_cons]
  exact List.foldlRecOn (motive := fun c : Block => c.onBit PT_DIE_FAIL_FAIL i = true) _ _ (hdie _) fun c hc d _ =>
    (c.bootDie_boots badDies d).fail i hc

/-- The release from reset runs to BOOT_DONE (R458). -/
theorem does_moduleBoot {s : State} (h : s.on PW_STAT_BOOT_DONE = false) (slotOk : BitVec 2) (badDies : BitVec 32)
    (bad : List (Nat × Nat)) :
    Does (.moduleBoot slotOk badDies bad) s fun t => t.fld PW_STAT_BOOT_DONE = 1 ∧ t.hq.booted = true ∧
      t.fld PT_STAT_RECOV = 0 ∧ t.on PT_STAT_READY = s.on PT_CTL_EN ∧ t.raised 1301 = true ∧
      t.hq.fwActive = s.bootSlot slotOk ∧
      (∀ i : Fin 32, badDies.getLsbD i = true → t.onBit PT_DIE_FAIL_FAIL i = true) ∧
      (s.fld PW_RSTCAUSE_CAUSE / 2 ≠ 0 → t.raised 42 = true) ∧
      (s.pw.incomplete = true → t.fld PW_DYKE_STAT_INC = 1 ∧ t.raised 41 = true) ∧
      t.fld ML_EPOCH_EPOCH = s.ml.jEpoch % 2 ^ 32 ∧ t.pt.waiting = [] ∧ t.pt.ops = [] := by
  have hi : exec (.moduleBoot slotOk badDies bad) s = s.upd fun b => b.boot slotOk badDies bad :=
    (exec_moduleBoot slotOk badDies bad s).trans (State.upd_congr (if_neg (by rw [h]; decide)))
  let c := (s.bootStart slotOk).bootDies badDies
  have hdies : (s.bootStart slotOk).Boots c := Block.bootDies_boots _ _
  have hpt : c.Boots (c.ptRecover bad) := c.ptRecover_boots bad
  obtain ⟨hrest, hpeat⟩ := (c.ptRecover bad).bootRest_boots
  obtain ⟨hdone, hbooted⟩ := (c.ptRecover bad).bootRest_done
  obtain ⟨hrecov, hready, hraised, hwait, hops⟩ := c.ptRecover_does bad
  have hcause : (c.ptRecover bad).fld PW_RSTCAUSE_CAUSE = s.fld PW_RSTCAUSE_CAUSE :=
    congrArg PW_RSTCAUSE_CAUSE.get (hpt.cause.trans hdies.cause)
  have hctl : c.on PT_CTL_EN = s.on PT_CTL_EN := by
    have hfld : c.fld PT_CTL_EN = s.fld PT_CTL_EN := congrArg PT_CTL_EN.get hdies.ctl
    rw [Block.on_eq, Block.on_eq, hfld]
  have hpw : (c.ptRecover bad).pw.incomplete = s.pw.incomplete := by
    rw [Block.ptRecover_pw, Block.bootDies_pw]
    rfl
  refine does_upd hi ⟨hdone, hbooted, (hpeat.stat _ rfl rfl).trans hrecov, ?_, hrest.raised _ hraised,
    hrest.slot.trans (hpt.slot.trans hdies.slot), fun i hi => hrest.fail i (hpt.fail i (Block.bootDies_fail _ _ i hi)),
    fun hc => Block.bootRest_cause _ (by rw [hcause]; exact hc), fun hn => Block.bootRest_incomplete _ (by rw [hpw]; exact hn),
    ?_, hpeat.waiting.trans hwait, hpeat.ops.trans hops⟩
  · show (c.ptRecover bad).bootRest.on PT_STAT_READY = _
    rw [Block.on_eq, hpeat.stat _ rfl rfl, ← Block.on_eq, hready, hctl]
  · refine (Block.bootRest_epoch _).trans ?_
    rw [hpt.epoch, hdies.epoch]
    rfl

theorem exec_moduleBoot_done {s : State} (h : s.on PW_STAT_BOOT_DONE = true) (slotOk : BitVec 2) (badDies : BitVec 32)
    (bad : List (Nat × Nat)) : exec (.moduleBoot slotOk badDies bad) s = .next s :=
  (exec_moduleBoot slotOk badDies bad s).trans (State.upd_same (if_pos h))

/-- Settles O57: the resets by what `moduleReset` clears, keeps and sets; the sequence by what the power cut does; the boot
step by step. -/
theorem resetsAndBoot : Obligations.ResetsAndBoot := by
  unfold Obligations.ResetsAndBoot
  intro s d dur key dumped slotOk badDies bad
  dsimp only
  refine ⟨does_por s, does_resetN, does_resetN_waits, Does.reset (f := id) (by decide) rfl .refl, does_clockAlarm,
    fun h => exec_of_dyke h key, exec_powerFailDetect_asleep,
    fun hd ha => Does.dykeStart (by decide) (exec_powerFailDetect_awake hd ha),
    fun hd => Does.dykeStart (by decide) (exec_wdog_idle hd), fun dump hk => exec_soft_key hk dump,
    fun hd => ⟨Does.dykeStart (by decide) (exec_soft_dump hd),
      Does.reset (f := id) (by decide) (exec_soft_plain hd) .refl⟩,
    fun hd => exec_dykeEnd_none hd dur, fun hd hc hc8 => does_dykeEnd hd dur hc hc8, does_brownout s dumped,
    fun h => exec_moduleBoot_done h slotOk badDies bad, fun h => does_moduleBoot h slotOk badDies bad⟩

end Sys2Proof.Machine

/-!
PROOFS. The tick's snapshots (R47), the FSYNC capture (R48 to R50), and the services of calibration: deferral windows,
telemetry, the magazine's I2C and the die temperature (R292, R305, R341, R477 to R480, R493).
-/

namespace Sys2Proof.Machine

/-! ### Registers that a command may write -/

section regsOnly

variable {l : List Nat} {a b c : Block}

theorem Block.regsOnly.wr (h : Block.regsOnly l a b) {o : Nat} (ho : o ∈ l) (v : Word) : Block.regsOnly l a (b.wr o v) :=
  fun _ h1 h2 => (Block.rd_wr_ne b (ne_of_mem_of_not_mem ho h1).symm v).trans (h _ h1 h2)

theorem Block.regsOnly.setFld (h : Block.regsOnly l a b) {f : Fld} (hf : f.reg ∈ l) (n : Nat) :
    Block.regsOnly l a (b.setFld f n) := h.wr hf _

theorem Block.regsOnly.raise (h : Block.regsOnly l a b) (n : Nat) : Block.regsOnly l a (b.raise n) :=
  fun _ h1 h2 => (Block.raise_rd b n h2).trans (h _ h1 h2)

/-- A change of no register. -/
theorem Block.regsOnly.same (h : Block.regsOnly l a b) (hp : c.part = b.part := by rfl) (hr : c.regs = b.regs := by rfl) :
    Block.regsOnly l a c := fun o h1 h2 => (Block.rd_congr hp hr o).trans (h o h1 h2)

end regsOnly

/-! ### Fields of one bit -/

theorem Fld.get_eq_bit {f : Fld} (h : f.hi = f.lo) (hf : f.lo < 32) (v : Word) : f.get v = (v.getLsbD f.lo).toNat := by
  refine Nat.eq_of_testBit_eq fun i => ?_
  rw [Fld.get_testBit, h]
  cases i with
  | zero => cases v.getLsbD f.lo <;> simp [hf]
  | succ i => cases v.getLsbD f.lo <;> simp [Nat.testBit_succ]

theorem Block.on_eq_bit (b : Block) {f : Fld} (h : f.hi = f.lo) (hf : f.lo < 32) :
    b.on f = (b.rd f.reg).getLsbD f.lo := by
  rw [Block.on_eq, Block.fld, Fld.get_eq_bit h hf]
  cases (b.rd f.reg).getLsbD f.lo <;> rfl

/-! ### The tick snapshots (R47) -/

theorem vget_vset_ne {α : Type} {n : Nat} (v : Vector α n) {i j : Fin n} (h : j ≠ i) (x : α) :
    vget (vset v i x) j = vget v j :=
  Vector.getElem_set_ne _ _ fun he => h (Fin.ext he.symm)

theorem does_tickSnapshotRead (s : State) (m : Master) (cyc : BitVec 11) :
    Does (.tickSnapshotRead m cyc) s fun t =>
      vget t.rdata m.idx = s.tick.setWidth 32 ∧ vget t.tickHi m.idx = (s.tick >>> 32).setWidth 32 ∧
      vget t.tickCyc m.idx = BitVec.ofNat 32 (max s.cyc (min cyc.toNat 1999)) ∧
      (∀ n, n ≠ m.idx → vget t.tickHi n = vget s.tickHi n ∧ vget t.tickCyc n = vget s.tickCyc n) ∧
      t.tick = s.tick ∧ t.regs = s.regs :=
  ⟨_, rfl, rfl, vget_vset_same .., vget_vset_same .., vget_vset_same ..,
    fun _ hn => ⟨vget_vset_ne _ hn _, vget_vset_ne _ hn _⟩, rfl, rfl⟩

/-- A read of a global register without RC bits answers what the register shows, and changes nothing else. -/
theorem exec_readClearField_glb {s : State} {o : BitVec 20} {a : Nat} {r : RegRow} (ha : 4 * o.toNat = a)
    (hr : regRow a = some r) (h : a < 0x10000) (h1 : a ≠ GLB_TICK_LO) (hrc : r.rc = 0) (m : Master) :
    exec (.readClearField m o) s = s.upd fun b => b.answer m (b.viewReg m a) := by
  change s.upd (fun b => b.readReg m (4 * o.toNat)) = _
  refine State.upd_congr ?_
  rw [ha, Block.readReg_glb hr h h1, Block.clearRc_glb _ _ h, if_pos hrc]

theorem regRow_tickHi : regRow GLB_TICK_HI = some ⟨0x104, 0, 1, 0, 1, 0, 0, 0, 0, 0, 0⟩ := rfl

theorem regRow_tickCyc : regRow GLB_TICK_CYC = some ⟨0x108, 0, 1, 0, 1, 0, 0, 0, 0, 0, 0⟩ := rfl

theorem Block.viewReg_tickHi (b : Block) (m : Master) : b.viewReg m GLB_TICK_HI = vget b.tickHi m.idx := rfl

theorem Block.viewReg_tickCyc (b : Block) (m : Master) : b.viewReg m GLB_TICK_CYC = vget b.tickCyc m.idx := rfl

theorem does_readTickHi (s : State) (m : Master) :
    Does (.readClearField m (BitVec.ofNat 20 (GLB_TICK_HI / 4))) s fun t =>
      vget t.rdata m.idx = vget s.tickHi m.idx ∧ t.tickHi = s.tickHi ∧ t.tickCyc = s.tickCyc ∧ t.regs = s.regs :=
  does_upd (exec_readClearField_glb (a := GLB_TICK_HI) rfl regRow_tickHi (by decide) (by decide) rfl m)
    ⟨(vget_vset_same ..).trans (Block.viewReg_tickHi s.toBlock m), rfl, rfl, rfl⟩

theorem does_readTickCyc (s : State) (m : Master) :
    Does (.readClearField m (BitVec.ofNat 20 (GLB_TICK_CYC / 4))) s fun t =>
      vget t.rdata m.idx = vget s.tickCyc m.idx ∧ t.tickHi = s.tickHi ∧ t.tickCyc = s.tickCyc ∧ t.regs = s.regs :=
  does_upd (exec_readClearField_glb (a := GLB_TICK_CYC) rfl regRow_tickCyc (by decide) (by decide) rfl m)
    ⟨(vget_vset_same ..).trans (Block.viewReg_tickCyc s.toBlock m), rfl, rfl, rfl⟩

/-- Settles O5: the snapshot command writes the reading master's copies only, and a read of a copy answers it. -/
theorem tickSnapshotsPerMaster : Obligations.TickSnapshotsPerMaster := by
  unfold Obligations.TickSnapshotsPerMaster
  exact fun s m cyc => ⟨does_tickSnapshotRead s m cyc, does_readTickHi s m, does_readTickCyc s m⟩

/-! ### The FSYNC capture (R48 to R50) -/

theorem Block.raise_fsync (b : Block) (n : Nat) : (b.raise n).fsync = b.fsync :=
  (frame_raise (l₀ := [.regs, .irq, .ml, .out]) .refl n (List.Subset.refl _)).same .fsync (by decide)

/-- The capture is enabled, with its count and flags clear: `c` differs from `b` in nothing else of the interface. -/
def Block.CaptureEnabled (b c : Block) : Prop :=
  c.fld MZ_FSYNC_CTL_EN = 1 ∧ c.rd MZ_FSYNC_CNT = 0 ∧ c.fld MZ_FSYNC_STAT_NEW = 0 ∧ c.fld MZ_FSYNC_STAT_OVF = 0 ∧
    c.fsync = b.fsync ∧ Block.regsOnly [MZ_FSYNC_CTL, MZ_FSYNC_CNT, MZ_FSYNC_STAT] b c

theorem Block.fsyncEnable_enables (b : Block) : b.CaptureEnabled b.fsyncEnable := by
  unfold Block.fsyncEnable
  refine ⟨Block.fld_setFld_same _ _ rfl _, ?_, ?_, ?_, rfl, ?_⟩
  · rw [Block.rd_setFld_ne _ _ (by decide), Block.rd_setFld_ne _ _ (by decide), Block.rd_setFld_ne _ _ (by decide),
      Block.rd_wr_same]
  · rw [Block.fld_setFld_apart _ _ _ rfl, Block.fld_setFld_apart _ _ _ rfl]
    exact Block.fld_setFld_same _ _ rfl _
  · rw [Block.fld_setFld_apart _ _ _ rfl]
    exact Block.fld_setFld_same _ _ rfl _
  · exact ((((Block.regsOnly_refl _ b).wr (by decide) _).setFld (by decide) _).setFld (by decide) _).setFld (by decide) _

/-- Enabling keeps the other fields of MZ_FSYNC_CTL. -/
theorem Block.fsyncEnable_ctl (b : Block) {g : Fld} (hg : g.reg = MZ_FSYNC_CTL) (ha : MZ_FSYNC_CTL_EN.apart g = true) :
    b.fsyncEnable.fld g = b.fld g := by
  unfold Block.fsyncEnable
  rw [Block.fld_setFld_apart _ _ _ ha]
  unfold Block.fld
  rw [hg, Block.rd_setFld_ne _ _ (by decide), Block.rd_setFld_ne _ _ (by decide), Block.rd_wr_ne _ (by decide)]

theorem exec_fsyncEnable (s : State) :
    exec .fsyncEnable s = s.upd fun b => if b.on MZ_FSYNC_CTL_EN then b else b.fsyncEnable := rfl

theorem does_fsyncEnable {s : State} (h : s.on MZ_FSYNC_CTL_EN = false) :
    Does .fsyncEnable s fun t => s.CaptureEnabled t.toBlock := by
  refine does_upd (exec_fsyncEnable s) ?_
  rw [h]
  exact s.fsyncEnable_enables

theorem exec_fsyncEnable_on {s : State} (h : s.on MZ_FSYNC_CTL_EN = true) : exec .fsyncEnable s = .next s :=
  (exec_fsyncEnable s).trans (State.upd_same (if_pos h))

/-! #### A write of MZ_FSYNC_CTL -/

/-- The row of MZ_FSYNC_CTL: FILT, EDGE and EN are RW. -/
def fsyncCtlRow : RegRow := ⟨0x220100, 0, 1, 0, 1, 0x3ff, 0, 0, 0, 0, 0⟩

theorem regRow_fsyncCtl : regRow MZ_FSYNC_CTL = some fsyncCtlRow := rfl

/-- The word that a write of `v` stores in MZ_FSYNC_CTL. -/
def Block.fsyncCtlWord (b : Block) (v : Word) : Word := b.merged fsyncCtlRow MZ_FSYNC_CTL v

theorem Block.fsyncCtlWord_getLsbD (b : Block) (v : Word) {i : Nat} (hi : i < 10) :
    (b.fsyncCtlWord v).getLsbD i = v.getLsbD i := by
  have hrw : ∀ j < 10, (0x3ff ||| 0 : Nat).testBit j = true := by decide
  rw [Block.fsyncCtlWord, Block.merged_getLsbD (by decide) (by decide) (fun _ => rfl) (by omega)]
  show ((if (0x3ff ||| 0 : Nat).testBit i then _ else _) && !((0 : Nat).testBit i && _)) = _
  rw [if_pos (hrw i hi), Nat.zero_testBit, Bool.false_and, Bool.not_false, Bool.and_true]

theorem Block.on_wr_fsyncCtl (b : Block) (v : Word) {f : Fld} (hr : f.reg = MZ_FSYNC_CTL) (h : f.hi = f.lo)
    (hf : f.lo < 10) : (b.wr MZ_FSYNC_CTL (b.fsyncCtlWord v)).on f = v.getLsbD f.lo := by
  rw [Block.on_eq_bit _ h (by omega), hr, Block.rd_wr_same, Block.fsyncCtlWord_getLsbD b v hf]

theorem Block.writeReg_fsyncCtl (b : Block) (m : Master) (v lost : Word) :
    b.writeReg m MZ_FSYNC_CTL v lost =
      if !b.on MZ_FSYNC_CTL_EN && v.getLsbD 0 then (b.wr MZ_FSYNC_CTL (b.fsyncCtlWord v)).fsyncEnable
      else b.wr MZ_FSYNC_CTL (b.fsyncCtlWord v) := by
  have hp : absentAt b.part MZ_FSYNC_CTL = false := by cases b.part <;> rfl
  have hen : (b.wr MZ_FSYNC_CTL (b.fsyncCtlWord v)).on MZ_FSYNC_CTL_EN = v.getLsbD 0 :=
    b.on_wr_fsyncCtl v (f := MZ_FSYNC_CTL_EN) rfl rfl (by decide)
  rw [← hen]
  unfold Block.writeReg
  rw [hp, regRow_fsyncCtl]
  rfl

theorem exec_registerWrite_fsyncCtl (s : State) (m : Master) (v lost : Word) :
    exec (.registerWrite m (BitVec.ofNat 20 (MZ_FSYNC_CTL / 4)) v lost) s =
      s.upd fun b => b.writeReg m MZ_FSYNC_CTL v lost := rfl

/-- A write of EN = 1 over EN = 0 enables, and stores the edge's sense. -/
theorem does_write_fsyncCtl_enables {s : State} {v : Word} (h : s.on MZ_FSYNC_CTL_EN = false)
    (hv : v.getLsbD 0 = true) (m : Master) (lost : Word) :
    Does (.registerWrite m (BitVec.ofNat 20 (MZ_FSYNC_CTL / 4)) v lost) s fun t =>
      s.CaptureEnabled t.toBlock ∧ t.on MZ_FSYNC_CTL_EDGE = v.getLsbD 1 := by
  refine does_upd (exec_registerWrite_fsyncCtl s m v lost) ?_
  let c := s.wr MZ_FSYNC_CTL (s.fsyncCtlWord v)
  have hw : s.writeReg m MZ_FSYNC_CTL v lost = c.fsyncEnable := by
    rw [Block.writeReg_fsyncCtl, h, hv]
    rfl
  obtain ⟨hen, hcnt, hnew, hovf, hfsync, hregs⟩ := c.fsyncEnable_enables
  show s.CaptureEnabled (s.writeReg m MZ_FSYNC_CTL v lost) ∧ (s.writeReg m MZ_FSYNC_CTL v lost).on MZ_FSYNC_CTL_EDGE = _
  rw [hw]
  refine ⟨⟨hen, hcnt, hnew, hovf, hfsync,
    Block.regsOnly_trans ((Block.regsOnly_refl _ _).wr (by decide) _) hregs⟩, ?_⟩
  rw [Block.on_eq, c.fsyncEnable_ctl rfl rfl, ← Block.on_eq]
  exact s.on_wr_fsyncCtl v (f := MZ_FSYNC_CTL_EDGE) rfl rfl (by decide)

/-- A write of EN = 0 keeps the capture. -/
theorem does_write_fsyncCtl_disables {v : Word} (hv : v.getLsbD 0 = false) (s : State) (m : Master) (lost : Word) :
    Does (.registerWrite m (BitVec.ofNat 20 (MZ_FSYNC_CTL / 4)) v lost) s fun t =>
      t.fld MZ_FSYNC_CTL_EN = 0 ∧ t.fsync = s.fsync ∧ Block.regsOnly [MZ_FSYNC_CTL] s.toBlock t.toBlock := by
  refine does_upd (exec_registerWrite_fsyncCtl s m v lost) ?_
  have hw : s.writeReg m MZ_FSYNC_CTL v lost = s.wr MZ_FSYNC_CTL (s.fsyncCtlWord v) := by
    rw [Block.writeReg_fsyncCtl, hv, Bool.and_false]
    rfl
  have hoff : (s.wr MZ_FSYNC_CTL (s.fsyncCtlWord v)).on MZ_FSYNC_CTL_EN = false :=
    (s.on_wr_fsyncCtl v (f := MZ_FSYNC_CTL_EN) rfl rfl (by decide)).trans hv
  dsimp only
  rw [hw]
  refine ⟨?_, rfl, (Block.regsOnly_refl _ _).wr (by decide) _⟩
  simpa [Block.on_eq] using hoff

/-! #### Edges and the read of the capture -/

/-- The tick-stamp of the cycle `lat` cycles before cycle `now` of the tick (R48). -/
def Block.stampBefore (b : Block) (now lat : Nat) : Nat :=
  if lat ≤ now then b.tick.toNat % 2 ^ 53 * 2 ^ 11 + (now - lat)
  else (b.tick.toNat + (2 ^ 53 - 1)) % 2 ^ 53 * 2 ^ 11 + (2000 + now - lat)

/-- OVF is set where an unread capture is overwritten (R49). -/
def Block.fsyncOvf (b : Block) : Block := if b.on MZ_FSYNC_STAT_NEW then b.setFld MZ_FSYNC_STAT_OVF 1 else b

/-- An accepted edge puts stamp `n` in the capture. -/
def Block.fsyncTake (b : Block) (n : Nat) : Block :=
  let c := (b.fsyncOvf.modFsync fun f => { f with cap := BitVec.ofNat 64 n }).setFld MZ_FSYNC_STAT_NEW 1
  (c.wr MZ_FSYNC_CNT (b.fsyncOvf.rd MZ_FSYNC_CNT + 1)).raise 6

theorem Block.fsyncOvf_rd (b : Block) {o : Nat} (h : o ≠ MZ_FSYNC_STAT) : b.fsyncOvf.rd o = b.rd o := by
  unfold Block.fsyncOvf
  split
  · exact Block.rd_setFld_ne _ _ h _
  · rfl

theorem Block.fsyncOvf_fsync (b : Block) : b.fsyncOvf.fsync = b.fsync := by
  unfold Block.fsyncOvf
  split <;> rfl

theorem Block.fsyncOvf_sets {b : Block} (h : b.on MZ_FSYNC_STAT_NEW = true) : b.fsyncOvf.fld MZ_FSYNC_STAT_OVF = 1 := by
  rw [Block.fsyncOvf, if_pos h]
  exact Block.fld_setFld_same _ _ rfl _

theorem exec_fsyncEdge (falling : Bool) (cyc : BitVec 11) (s : State) : exec (.fsyncEdge falling cyc) s =
    s.upd fun b => if !b.on MZ_FSYNC_CTL_EN || b.on MZ_FSYNC_CTL_EDGE ≠ falling then b
      else (b.atCycle cyc).fsyncTake (b.stampBefore (b.atCycle cyc).cyc (3 + b.fld MZ_FSYNC_CTL_FILT)) := rfl

theorem exec_fsyncEdge_ignored {s : State} {falling : Bool}
    (h : s.on MZ_FSYNC_CTL_EN = false ∨ s.on MZ_FSYNC_CTL_EDGE ≠ falling) (cyc : BitVec 11) :
    exec (.fsyncEdge falling cyc) s = .next s := by
  refine (exec_fsyncEdge falling cyc s).trans (State.upd_same (if_pos ?_))
  simpa using h

/-- What a taken edge leaves: the stamp in the capture, NEW, OVF, the count and source 6. -/
def Block.EdgeTaken (b c : Block) (n : Nat) : Prop :=
  c.fsync.cap = BitVec.ofNat 64 n ∧ c.fld MZ_FSYNC_STAT_NEW = 1 ∧
    (b.on MZ_FSYNC_STAT_NEW = true → c.fld MZ_FSYNC_STAT_OVF = 1) ∧ c.rd MZ_FSYNC_CNT = b.rd MZ_FSYNC_CNT + 1 ∧
    c.raised 6 = true ∧ c.fsync.hold = b.fsync.hold ∧ Block.regsOnly [MZ_FSYNC_CNT, MZ_FSYNC_STAT] b c

theorem Block.fsyncTake_takes (b : Block) (n : Nat) : b.EdgeTaken (b.fsyncTake n) n := by
  unfold Block.fsyncTake
  refine ⟨?_, ?_, fun h => ?_, ?_, Block.raise_raised_same (srcPresent_power _ (by decide)), ?_, ?_⟩
  · rw [Block.raise_fsync]
    rfl
  · rw [Block.raise_fld _ _ rfl, Block.fld_wr_ne _ (by decide)]
    exact Block.fld_setFld_same _ _ rfl _
  · rw [Block.raise_fld _ _ rfl, Block.fld_wr_ne _ (by decide), Block.fld_setFld_apart _ _ _ rfl]
    exact Block.fsyncOvf_sets h
  · rw [Block.raise_rd _ _ rfl, Block.rd_wr_same, b.fsyncOvf_rd (by decide)]
  · rw [Block.raise_fsync]
    show b.fsyncOvf.fsync.hold = _
    rw [b.fsyncOvf_fsync]
  · have hovf : Block.regsOnly [MZ_FSYNC_CNT, MZ_FSYNC_STAT] b b.fsyncOvf := fun o ho _ =>
      b.fsyncOvf_rd fun he => ho (by simp [he])
    exact ((hovf.same.setFld (by decide) _).wr (by decide) _).raise 6

theorem does_fsyncEdge {s : State} {falling : Bool} (hen : s.on MZ_FSYNC_CTL_EN = true)
    (hedge : s.on MZ_FSYNC_CTL_EDGE = falling) (cyc : BitVec 11) :
    Does (.fsyncEdge falling cyc) s fun t => s.EdgeTaken t.toBlock
      (s.stampBefore (max s.cyc (min cyc.toNat 1999)) (3 + s.fld MZ_FSYNC_CTL_FILT)) := by
  refine does_upd (exec_fsyncEdge falling cyc s) ?_
  rw [if_neg (by simp [hen, hedge])]
  exact (s.atCycle cyc).fsyncTake_takes _

theorem does_fsyncTsRead (s : State) (m : Master) :
    Does (.fsyncTsRead m) s fun t => vget t.rdata m.idx = s.fsync.cap.setWidth 32 ∧ t.fsync.hold = s.fsync.cap ∧
      t.fsync.cap = s.fsync.cap ∧ t.fld MZ_FSYNC_STAT_NEW = 0 ∧ t.fld MZ_FSYNC_STAT_OVF = s.fld MZ_FSYNC_STAT_OVF ∧
      Block.regsOnly [MZ_FSYNC_STAT] s.toBlock t.toBlock :=
  ⟨_, rfl, rfl, vget_vset_same .., rfl, rfl, Block.fld_setFld_same (s.modFsync _) _ rfl _,
    Block.fld_setFld_apart (s.modFsync _) _ _ rfl _,
    ((Block.regsOnly_refl _ _).same.setFld (f := MZ_FSYNC_STAT_NEW) (by decide) 0).same⟩

/-- Settles O9: what enabling, a write of MZ_FSYNC_CTL, an edge and the read of the capture do. -/
theorem fsyncCapture : Obligations.FsyncCapture := by
  unfold Obligations.FsyncCapture
  intro s m falling cyc v lost
  exact ⟨fun h => ⟨does_fsyncEnable h, fun hv => does_write_fsyncCtl_enables h hv m lost⟩, exec_fsyncEnable_on,
    fun hv => does_write_fsyncCtl_disables hv s m lost, fun hen hedge => does_fsyncEdge hen hedge cyc,
    fun h => exec_fsyncEdge_ignored h cyc, does_fsyncTsRead s m⟩

/-! ### Deferral windows (R477) -/

theorem Block.raise_cal (b : Block) (n : Nat) : (b.raise n).cal = b.cal :=
  (frame_raise (l₀ := [.regs, .irq, .ml, .out]) .refl n (List.Subset.refl _)).same .cal (by decide)

/-- The deferral of engine `e` has reached its maximum, and no window of it is scheduled. -/
def Block.deferralExpired (b : Block) (e : Fin 7) : Prop :=
  b.fld (CAL_DEFER_e_MAXDEF e) ≤ vget b.cal.defer e ∧ e.val ∉ b.cal.windows

/-- A window is scheduled. -/
def Block.openWindow (b : Block) (e : Fin 7) : Block :=
  (((b.putBit CAL_DEFER_STAT_EXPIRED e.val true).modCal fun c => { c with windows := insertSrc e.val c.windows }).bump
    CAL_CNT_WINDOWS 1).raise 50

theorem exec_deferralExpiry (e : Fin 7) (s : State) : exec (.deferralExpiry e) s = s.upd fun b =>
    if b.cal.windows.contains e.val || vget b.cal.defer e < b.fld (CAL_DEFER_e_MAXDEF e) then b else b.openWindow e := rfl

theorem exec_deferralExpiry_waits {s : State} {e : Fin 7} (h : ¬ s.deferralExpired e) :
    exec (.deferralExpiry e) s = .next s := by
  refine (exec_deferralExpiry e s).trans (State.upd_same (if_pos ?_))
  rw [Bool.or_eq_true, List.contains_iff_mem, decide_eq_true_eq]
  by_contra hn
  exact h ⟨Nat.le_of_not_lt fun hlt => hn (.inr hlt), fun hw => hn (.inl hw)⟩

theorem Block.openWindow_cnt {b : Block} (e : Fin 7) (h : b.fld CAL_CNT_WINDOWS < 255) :
    (b.openWindow e).fld CAL_CNT_WINDOWS = b.fld CAL_CNT_WINDOWS + 1 := by
  rw [Block.openWindow, Block.raise_fld _ _ rfl, Block.fld_bump_same _ _ rfl, Block.modCal_fld,
    Block.fld_putBit_apart _ _ _ rfl]
  exact min_eq_left h

theorem Block.openWindow_expired (b : Block) (e : Fin 7) {k : Nat} (hk : k < 7) :
    (b.openWindow e).onBit CAL_DEFER_STAT_EXPIRED k = (decide (k = e.val) || b.onBit CAL_DEFER_STAT_EXPIRED k) := by
  rw [← Block.onBit_putBit b (f := CAL_DEFER_STAT_EXPIRED) rfl hk]
  unfold Block.onBit Block.openWindow
  rw [Block.raise_fld _ _ rfl, Block.fld_bump_apart _ _ _ rfl, Block.modCal_fld]

theorem does_deferralExpiry {s : State} {e : Fin 7} (h : s.deferralExpired e) :
    Does (.deferralExpiry e) s fun t => t.raised 50 = true ∧ e.val ∈ t.cal.windows ∧
      Block.regsOnly [CAL_DEFER_STAT, CAL_CNT] s.toBlock t.toBlock ∧
      (∀ k, k < 7 → t.onBit CAL_DEFER_STAT_EXPIRED k = (decide (k = e.val) || s.onBit CAL_DEFER_STAT_EXPIRED k)) ∧
      (s.fld CAL_CNT_WINDOWS < 255 → t.fld CAL_CNT_WINDOWS = s.fld CAL_CNT_WINDOWS + 1) := by
  obtain ⟨hmax, hnew⟩ := h
  refine does_upd (exec_deferralExpiry e s) ?_
  rw [if_neg (by simp [hmax, hnew])]
  refine ⟨Block.raise_raised_same (srcPresent_power _ (by decide)), ?_, ?_, fun k hk => s.openWindow_expired e hk,
    s.openWindow_cnt e⟩
  · dsimp only
    rw [Block.openWindow, Block.raise_cal]
    exact mem_insertSrc_iff.mpr (.inl rfl)
  · exact (Block.regsOnly.same ((Block.regsOnly_refl _ _).setFld (f := CAL_DEFER_STAT_EXPIRED) (by decide) _)).setFld
      (f := CAL_CNT_WINDOWS) (by decide) _ |>.raise 50

/-! ### Byte strings (R479) -/

/-- The little-endian number of the `n` bytes at an offset. -/
def leAt (l : List Byte) (at_ n : Nat) : Nat :=
  ((List.range n).map fun k => (l.getD (at_ + k) 0).toNat * 256 ^ k).foldl (· + ·) 0

theorem leAt_succ (l : List Byte) (a n : Nat) : leAt l a (n + 1) = leAt l a n + (l.getD (a + n) 0).toNat * 256 ^ n := by
  simp [leAt, List.range_succ]

/-- The field of `fields` that holds byte `i`. -/
def fieldAt (fields : List (Nat × Nat × Nat)) (i : Nat) : Option (Nat × Nat × Nat) :=
  fields.find? fun f => f.1 ≤ i && i < f.1 + f.2.1

theorem packBytes_getD {n i : Nat} (hi : i < n) (fields : List (Nat × Nat × Nat)) :
    (packBytes n fields).getD i 0 =
      (fieldAt fields i).elim 0 fun f => BitVec.ofNat 8 (f.2.2 / 256 ^ (i - f.1)) := by
  rw [packBytes, List.getD_eq_getElem _ _ (by simpa using hi), List.getElem_map, List.getElem_range]
  show _ = (fields.find? fun f => f.1 ≤ i && i < f.1 + f.2.1).elim _ _
  cases fields.find? fun f => f.1 ≤ i && i < f.1 + f.2.1 <;> rfl

/-- A field reads the low bytes of its value. -/
theorem leAt_packBytes {m a n w v : Nat} {fields : List (Nat × Nat × Nat)} (hm : a + n ≤ m)
    (h : ∀ k < n, fieldAt fields (a + k) = some (a, w, v)) : leAt (packBytes m fields) a n = v % 256 ^ n := by
  induction n with
  | zero => rw [Nat.pow_zero, Nat.mod_one]; rfl
  | succ n ih =>
    rw [leAt_succ, ih (by omega) fun k hk => h k (by omega), packBytes_getD (by omega), h n (by omega), Nat.mod_pow_succ]
    simp [Nat.mul_comm]

/-- Bytes of no field are 0. -/
theorem leAt_packBytes_gap {m a n : Nat} {fields : List (Nat × Nat × Nat)} (hm : a + n ≤ m)
    (h : ∀ k < n, fieldAt fields (a + k) = none) : leAt (packBytes m fields) a n = 0 := by
  induction n with
  | zero => rfl
  | succ n ih =>
    rw [leAt_succ, ih (by omega) fun k hk => h k (by omega), packBytes_getD (by omega), h n (by omega)]
    simp

theorem fieldAt_one {fields : List (Nat × Nat × Nat)} {a : Nat} {f : Nat × Nat × Nat} (h : fieldAt fields a = some f) :
    ∀ k < 1, fieldAt fields (a + k) = some f
  | 0, _ => h

theorem fieldAt_two {fields : List (Nat × Nat × Nat)} {a : Nat} {f : Nat × Nat × Nat} (h : fieldAt fields a = some f)
    (h' : fieldAt fields (a + 1) = some f) : ∀ k < 2, fieldAt fields (a + k) = some f
  | 0, _ => h
  | 1, _ => h'

/-! ### Telemetry records (R341, R478, R479) -/

/-- A record of the set is wanted. -/
def Block.telSampled (b : Block) (set : Nat) : Prop :=
  b.on CAL_CTL_TELEN = true ∧ b.onBit CAL_TEL_CTL_SETEN (set - 1) = true

/-- The 64 bytes of the next record of a ring: its header, then the fields of the body. -/
def Block.telBytes (b : Block) (set inst : Nat) (fields : List (Nat × Nat × Nat)) : List Byte :=
  packBytes 64 ((0, 1, set) :: (1, 1, inst) :: (4, 4, (b.ring set inst).seq) :: (8, 8, b.stamp.toNat) :: fields)

/-- The ring holds as many records as it can. -/
def TelRing.full (r : TelRing) (set : Nat) : Bool := telDepth set ≤ r.recs.length

/-- A record added to the ring drops one that has not been read. -/
def TelRing.loses (r : TelRing) (set : Nat) : Bool := r.full set && r.unread ≤ r.seq - r.recs.length

/-- The ring with a record added. -/
def Block.telNext (b : Block) (set inst : Nat) (fields : List (Nat × Nat × Nat)) : TelRing :=
  let r := b.ring set inst
  { r with
    seq := r.seq + 1
    recs := (if r.full set then r.recs.drop 1 else r.recs) ++
      [(r.seq, b.stamp.toNat, b.telBytes set inst fields)] }

/-- The block with a record added. -/
def Block.telAdd (b : Block) (set inst : Nat) (fields : List (Nat × Nat × Nat)) : Block :=
  b.modCal fun c => { c with rings := c.rings.set (telKey set inst) (b.telNext set inst fields) TelRing.empty }

theorem Block.telRecord_skips {b : Block} {set : Nat} (h : ¬ b.telSampled set) (inst : Nat)
    (fields : List (Nat × Nat × Nat)) : b.telRecord set inst fields = b := by
  refine if_pos ?_
  by_contra hn
  exact h (by simpa [Block.telSampled] using hn)

theorem Block.telRecord_adds {b : Block} {set : Nat} (h : b.telSampled set) (inst : Nat)
    (fields : List (Nat × Nat × Nat)) : b.telRecord set inst fields =
      if (b.ring set inst).loses set then (b.telAdd set inst fields).raise 51 else b.telAdd set inst fields :=
  if_neg (by simp [h.1, h.2])

theorem Block.telRecord_rd (b : Block) (set inst : Nat) (fields : List (Nat × Nat × Nat)) {o : Nat}
    (h : irqReg o = false) : (b.telRecord set inst fields).rd o = b.rd o := by
  by_cases hs : b.telSampled set
  · rw [Block.telRecord_adds hs]
    split
    · exact Block.raise_rd _ _ h
    · rfl
  · rw [Block.telRecord_skips hs]

theorem Block.telAdd_ring (b : Block) (set inst : Nat) (fields : List (Nat × Nat × Nat)) :
    (b.telAdd set inst fields).ring set inst = b.telNext set inst fields :=
  SMap.get_set_same b.cal.rings (telKey set inst) (b.telNext set inst fields) TelRing.empty

theorem Block.telRecord_ring {b : Block} {set : Nat} (h : b.telSampled set) (inst : Nat)
    (fields : List (Nat × Nat × Nat)) : (b.telRecord set inst fields).ring set inst = b.telNext set inst fields := by
  rw [Block.telRecord_adds h]
  split
  · rw [← Block.telAdd_ring, Block.ring, Block.raise_cal]
    rfl
  · exact Block.telAdd_ring ..

theorem Block.telRecord_raises {b : Block} {set inst : Nat} (h : b.telSampled set)
    (hl : (b.ring set inst).loses set = true) (fields : List (Nat × Nat × Nat)) :
    (b.telRecord set inst fields).raised 51 = true := by
  rw [Block.telRecord_adds h, if_pos hl]
  exact Block.raise_raised_same (srcPresent_power _ (by decide))

theorem Block.telRecord_quiet {b : Block} {set inst : Nat} (h : b.telSampled set)
    (hl : (b.ring set inst).loses set = false) (fields : List (Nat × Nat × Nat)) :
    (b.telRecord set inst fields).irq = b.irq := by
  rw [Block.telRecord_adds h, hl]
  rfl

/-! #### The bytes of a record -/

section bytes

variable (b : Block) (set inst : Nat) (fields : List (Nat × Nat × Nat))

theorem Block.telBytes_length : (b.telBytes set inst fields).length = 64 := by simp [Block.telBytes, packBytes]

theorem Block.telBytes_set : leAt (b.telBytes set inst fields) 0 1 = set % 2 ^ 8 :=
  leAt_packBytes (w := 1) (by decide) (fieldAt_one rfl)

theorem Block.telBytes_inst : leAt (b.telBytes set inst fields) 1 1 = inst % 2 ^ 8 :=
  leAt_packBytes (w := 1) (by decide) (fieldAt_one rfl)

theorem Block.telBytes_seq : leAt (b.telBytes set inst fields) 4 4 = (b.ring set inst).seq % 2 ^ 32 :=
  leAt_packBytes (w := 4) (by decide) fun k hk => by interval_cases k <;> rfl

theorem Block.telBytes_stamp : leAt (b.telBytes set inst fields) 8 8 = b.stamp.toNat :=
  (leAt_packBytes (w := 8) (by decide) fun k hk => by interval_cases k <;> rfl).trans (Nat.mod_eq_of_lt b.stamp.isLt)

variable {fields}

theorem fieldAt_cons_apart {a w v i : Nat} (h : a + w ≤ i ∨ i < a) :
    fieldAt ((a, w, v) :: fields) i = fieldAt fields i :=
  List.find?_cons_of_neg (by simp only [Bool.and_eq_true, decide_eq_true_eq]; omega)

theorem fieldAt_eq_none {i : Nat} (h : ∀ f ∈ fields, i < f.1) : fieldAt fields i = none :=
  List.find?_eq_none.mpr fun f hf => by
    have := h f hf
    simp only [Bool.and_eq_true, decide_eq_true_eq]
    omega

theorem Block.telBytes_reserved (h : ∀ f ∈ fields, 16 ≤ f.1) : leAt (b.telBytes set inst fields) 2 2 = 0 := by
  refine leAt_packBytes_gap (by decide) fun k hk => ?_
  rw [fieldAt_cons_apart (by omega), fieldAt_cons_apart (by omega), fieldAt_cons_apart (by omega),
    fieldAt_cons_apart (by omega)]
  exact fieldAt_eq_none fun f hf => by have := h f hf; omega

/-- Past the header the bytes are those of the body's fields. -/
theorem Block.telBytes_body {a n w v : Nat} (ha : 16 ≤ a) (hn : a + n ≤ 64)
    (h : ∀ k < n, fieldAt fields (a + k) = some (a, w, v)) : leAt (b.telBytes set inst fields) a n = v % 256 ^ n :=
  leAt_packBytes hn fun k hk => by
    rw [fieldAt_cons_apart (by omega), fieldAt_cons_apart (by omega), fieldAt_cons_apart (by omega),
      fieldAt_cons_apart (by omega)]
    exact h k hk

end bytes

/-! #### The command -/

/-- The fields of a record's body, by set (R341, R479). -/
def Block.telFields (b : Block) (set : Fin 5) (inst : Fin 64) (mag : BitVec 16) (hum : BitVec 8) (draw : BitVec 16) :
    List (Nat × Nat × Nat) :=
  match set.val with
  | 1 => b.telRates
  | 2 => b.telSurf (Fin.ofNat 4 inst)
  | 3 => b.telBeam inst
  | _ =>
    [(16, 2, b.fld PW_VIN_VIN), (18, 2, b.fld PW_VIN_VHOLD), telSigned 20 2 b.hq.dieTemp, (22, 2, b.fld PT_TEMP_TEMP)] ++
      (List.range 4).map (fun s => (24 + 2 * s, 2, b.fld (SEs_TEMP_TEMP s))) ++
      [(32, 2, mag.toNat), (34, 1, hum.toNat), (36, 2, draw.toNat), (38, 1, b.fld PW_STAT_RMODE)]

/-- What starts anew with the next record: the passes lost of a surface, the counters of a beam. -/
def Block.telRestart (b : Block) (set : Fin 5) (inst : Fin 64) : Block :=
  match set.val with
  | 2 => b.modCalSurf (Fin.ofNat 4 inst) fun c => { c with lost := 0, reloc := 0 }
  | 3 => b.telRebase inst
  | _ => b

/-- The unit of which the record would be is present. -/
def Block.telPresent (b : Block) (set : Fin 5) (inst : Fin 64) : Prop :=
  match set.val with
  | 2 => inst.val < 4 ∧ b.part.hasSurf inst = true
  | 3 => b.part.hasBeam inst = true
  | _ => inst.val = 0

/-- A record of the set is due at this tick, for that unit. -/
def Block.telDue (b : Block) (set : Fin 5) (inst : Fin 64) : Prop :=
  set.val ≠ 0 ∧ b.now % telRate set = 0 ∧ b.telPresent set inst

theorem telRate_ne_zero {set : Fin 5} (h : set.val ≠ 0) : telRate set ≠ 0 := by
  match set with
  | 0 => exact absurd rfl h
  | 1 | 2 | 3 | 4 => decide

theorem exec_telemetrySample_due {s : State} {set : Fin 5} {inst : Fin 64} (h : s.telDue set inst) (mag : BitVec 16)
    (hum : BitVec 8) (draw : BitVec 16) : exec (.telemetrySample set inst mag hum draw) s = s.upd fun b =>
      (b.telRecord set inst (b.telFields set inst mag hum draw)).telRestart set inst := by
  obtain ⟨hset, hnow, hp⟩ := h
  show execTelemetrySample set inst mag hum draw s = _
  unfold execTelemetrySample
  refine State.upd_congr ((if_neg (not_or.mpr ⟨telRate_ne_zero hset, not_not.mpr hnow⟩)).trans ?_)
  match set, hset, hp with
  | 0, hset, _ => exact absurd rfl hset
  | 1, _, hp =>
    obtain rfl : inst = 0 := Fin.ext hp
    rfl
  | 2, _, ⟨hi, hsurf⟩ =>
    have hu : (Fin.ofNat 4 inst.val).val = inst.val := Nat.mod_eq_of_lt hi
    refine (if_neg (Nat.not_le.mpr hi)).trans ((if_pos (by rw [hu]; exact hsurf)).trans ?_)
    rw [hu]
    rfl
  | 3, _, hp => exact if_pos hp
  | 4, _, hp =>
    obtain rfl : inst = 0 := Fin.ext hp
    rfl

theorem exec_telemetrySample_idle {s : State} {set : Fin 5} {inst : Fin 64} (h : ¬ s.telDue set inst) (mag : BitVec 16)
    (hum : BitVec 8) (draw : BitVec 16) : exec (.telemetrySample set inst mag hum draw) s = .next s := by
  show execTelemetrySample set inst mag hum draw s = _
  unfold execTelemetrySample
  refine State.upd_same ?_
  by_cases hr : telRate set = 0 ∨ s.now % telRate set ≠ 0
  · exact if_pos hr
  refine (if_neg hr).trans ?_
  obtain ⟨hrate, hnow⟩ := not_or.mp hr
  have hp : set.val ≠ 0 → ¬ s.telPresent set inst := fun hset hp => h ⟨hset, not_not.mp hnow, hp⟩
  match set, hrate, hp with
  | 0, hrate, _ => exact absurd rfl hrate
  | 1, _, hp => exact if_neg (hp (by decide))
  | 2, _, hp =>
    by_cases hi : 4 ≤ inst.val
    · exact if_pos hi
    · refine (if_neg hi).trans (if_neg fun hsurf => hp (by decide) ⟨Nat.lt_of_not_le hi, ?_⟩)
      rwa [show (Fin.ofNat 4 inst.val).val = inst.val from Nat.mod_eq_of_lt (Nat.lt_of_not_le hi)] at hsurf
  | 3, _, hp => exact if_neg (hp (by decide))
  | 4, _, hp => exact if_pos (hp (by decide))

theorem Block.telRestart_frame (b : Block) (set : Fin 5) (inst : Fin 64) :
    (b.telRestart set inst).part = b.part ∧ (b.telRestart set inst).regs = b.regs ∧
      (b.telRestart set inst).irq = b.irq ∧ (b.telRestart set inst).cal.rings = b.cal.rings := by
  match set with
  | 0 | 1 | 2 | 3 | 4 => exact ⟨rfl, rfl, rfl, rfl⟩

/-- What the bytes `l` of a record's body show (R341, R479). -/
def Block.telBody (b : Block) (set : Fin 5) (inst : Fin 64) (mag : BitVec 16) (hum : BitVec 8) (draw : BitVec 16)
    (l : List Byte) : Prop :=
  match set.val with
  | 1 => ∀ u : Fin 4, leAt l (48 + 2 * u.val) 2 = vget b.store.lostStep u % 2 ^ 16
  | 2 => leAt l 16 2 = (vget b.wp (Fin.ofNat 4 inst)).band % 2 ^ 16 ∧
      leAt l 18 1 = (b.failedBeams (Fin.ofNat 4 inst)).length ∧
      leAt l 30 2 = (vget b.cal.surf (Fin.ofNat 4 inst)).lost % 2 ^ 16
  | 3 => leAt l 16 2 = b.fld (BMnn_Q_MSE_MSE inst) ∧ leAt l 24 1 = vget b.cal.eye inst % 2 ^ 8 ∧
      leAt l 25 1 = b.fld (BMnn_ADC_STAT_USED inst)
  | _ => leAt l 16 2 = b.fld PW_VIN_VIN ∧ leAt l 18 2 = b.fld PW_VIN_VHOLD ∧ leAt l 32 2 = mag.toNat ∧
      leAt l 34 1 = hum.toNat ∧ leAt l 36 2 = draw.toNat ∧ leAt l 38 1 = b.fld PW_STAT_RMODE

theorem Block.failedBeams_length_lt (b : Block) (s : Fin 4) : (b.failedBeams s).length < 256 ^ 1 :=
  (List.length_filter_le _ _).trans_lt (by decide)

/-- A field of a body that fits its bytes reads its value. -/
theorem Block.telBytes_body_eq (b : Block) (set inst : Nat) {fields : List (Nat × Nat × Nat)} {a n w v : Nat}
    (ha : 16 ≤ a) (hn : a + n ≤ 64) (hv : v < 256 ^ n) (h : ∀ k < n, fieldAt fields (a + k) = some (a, w, v)) :
    leAt (b.telBytes set inst fields) a n = v :=
  (b.telBytes_body set inst ha hn h).trans (Nat.mod_eq_of_lt hv)

theorem Block.telRates_lostStep (b : Block) (u : Fin 4) : ∀ k < 2,
    fieldAt b.telRates (48 + 2 * u.val + k) = some (48 + 2 * u.val, 2, vget b.store.lostStep u) := by
  match u with
  | 0 | 1 | 2 | 3 => exact fieldAt_two rfl rfl

theorem Block.telBytes_shows (b : Block) {set : Fin 5} (hset : set.val ≠ 0) (inst : Fin 64) (mag : BitVec 16)
    (hum : BitVec 8) (draw : BitVec 16) :
    b.telBody set inst mag hum draw (b.telBytes set inst (b.telFields set inst mag hum draw)) := by
  match set, hset with
  | 0, hset => exact absurd rfl hset
  | 1, _ => exact fun u => b.telBytes_body 1 inst (by omega) (by omega) (b.telRates_lostStep u)
  | 2, _ =>
    exact ⟨b.telBytes_body 2 inst (by decide) (by decide) (fieldAt_two rfl rfl),
      b.telBytes_body_eq 2 inst (by decide) (by decide) (b.failedBeams_length_lt _) (fieldAt_one rfl),
      b.telBytes_body 2 inst (by decide) (by decide) (fieldAt_two rfl rfl)⟩
  | 3, _ =>
    have heye : vget b.cal.eye (Fin.ofNat 64 inst.val) = vget b.cal.eye inst := by
      rw [show Fin.ofNat 64 inst.val = inst from Fin.ext (Nat.mod_eq_of_lt inst.isLt)]
    have hused : b.fld (BMnn_ADC_STAT_USED inst) < 256 ^ 1 := (b.fld_lt _).trans (show 2 ^ 5 < 256 ^ 1 by decide)
    exact ⟨b.telBytes_body_eq 3 inst (by decide) (by decide) (b.fld_lt _) (fieldAt_two rfl rfl),
      heye ▸ b.telBytes_body 3 inst (by decide) (by decide) (fieldAt_one rfl),
      b.telBytes_body_eq 3 inst (by decide) (by decide) hused (fieldAt_one rfl)⟩
  | 4, _ =>
    have hmode : b.fld PW_STAT_RMODE < 256 ^ 1 := (b.fld_lt _).trans (by decide)
    exact ⟨b.telBytes_body_eq 4 inst (by decide) (by decide) (b.fld_lt _) (fieldAt_two rfl rfl),
      b.telBytes_body_eq 4 inst (by decide) (by decide) (b.fld_lt _) (fieldAt_two rfl rfl),
      b.telBytes_body_eq 4 inst (by decide) (by decide) mag.isLt (fieldAt_two rfl rfl),
      b.telBytes_body_eq 4 inst (by decide) (by decide) hum.isLt (fieldAt_one rfl),
      b.telBytes_body_eq 4 inst (by decide) (by decide) draw.isLt (fieldAt_two rfl rfl),
      b.telBytes_body_eq 4 inst (by decide) (by decide) hmode (fieldAt_one rfl)⟩

/-- No field of a body stands in the header. -/
theorem Block.telFields_past_header (b : Block) (set : Fin 5) (inst : Fin 64) (mag : BitVec 16) (hum : BitVec 8)
    (draw : BitVec 16) : ∀ f ∈ b.telFields set inst mag hum draw, 16 ≤ f.1 := by
  match set with
  | 1 => simp [Block.telFields, Block.telRates, telSigned, List.range_succ]
  | 2 => simp [Block.telFields, Block.telSurf, telSigned]
  | 3 => simp [Block.telFields, Block.telBeam]
  | 0 | 4 => simp [Block.telFields, telSigned, List.range_succ]

section telemetrySample

variable {s : State} {set : Fin 5} {inst : Fin 64} (h : s.telDue set inst) (mag : BitVec 16) (hum : BitVec 8)
  (draw : BitVec 16)

include h

theorem does_telemetrySample_regs :
    Does (.telemetrySample set inst mag hum draw) s fun t => Block.regsOnly [] s.toBlock t.toBlock := by
  refine does_upd (exec_telemetrySample_due h mag hum draw) ?_
  obtain ⟨hpart, hregs, -, -⟩ :=
    (s.telRecord set inst (s.telFields set inst mag hum draw)).telRestart_frame set inst
  have hrec : Block.regsOnly [] s.toBlock (s.telRecord set inst (s.telFields set inst mag hum draw)) :=
    fun _ _ ho => Block.telRecord_rd _ _ _ _ ho
  exact hrec.same hpart hregs

theorem does_telemetrySample_unsampled (hs : ¬ s.telSampled set) :
    Does (.telemetrySample set inst mag hum draw) s fun t => t.cal.rings = s.cal.rings ∧ t.irq = s.irq := by
  refine does_upd (exec_telemetrySample_due h mag hum draw) ?_
  rw [Block.telRecord_skips hs]
  obtain ⟨-, -, hirq, hrings⟩ := s.telRestart_frame set inst
  exact ⟨hrings, hirq⟩

theorem does_telemetrySample_sampled (hs : s.telSampled set) :
    Does (.telemetrySample set inst mag hum draw) s fun t => ∃ l : List Byte, l.length = 64 ∧ leAt l 0 1 = set.val ∧
      leAt l 1 1 = inst.val ∧ leAt l 2 2 = 0 ∧ leAt l 4 4 = (s.ring set inst).seq % 2 ^ 32 ∧
      leAt l 8 8 = s.stamp.toNat ∧ s.telBody set inst mag hum draw l ∧
      t.ring set inst = { s.ring set inst with
        seq := (s.ring set inst).seq + 1
        recs := (if telDepth set ≤ (s.ring set inst).recs.length then (s.ring set inst).recs.drop 1
          else (s.ring set inst).recs) ++ [((s.ring set inst).seq, s.stamp.toNat, l)] } ∧
      (telDepth set ≤ (s.ring set inst).recs.length →
        (s.ring set inst).unread ≤ (s.ring set inst).seq - (s.ring set inst).recs.length → t.raised 51 = true) ∧
      ((s.ring set inst).recs.length < telDepth set ∨
        (s.ring set inst).seq - (s.ring set inst).recs.length < (s.ring set inst).unread → t.irq = s.irq) := by
  obtain ⟨hset, -, -⟩ := id h
  refine does_upd (exec_telemetrySample_due h mag hum draw) ?_
  let fields := s.telFields set inst mag hum draw
  obtain ⟨-, -, hirq, hrings⟩ := (s.telRecord set inst fields).telRestart_frame set inst
  refine ⟨s.telBytes set inst fields, s.telBytes_length _ _ _, ?_, ?_,
    s.telBytes_reserved _ _ (s.telFields_past_header set inst mag hum draw), s.telBytes_seq _ _ _,
    s.telBytes_stamp _ _ _, s.telBytes_shows hset inst mag hum draw, ?_, fun hf hu => ?_, fun hq => ?_⟩
  · exact (s.telBytes_set _ _ _).trans (Nat.mod_eq_of_lt (by omega))
  · exact (s.telBytes_inst _ _ _).trans (Nat.mod_eq_of_lt (by omega))
  · have hring : ((s.telRecord set inst fields).telRestart set inst).ring set inst = s.telNext set inst fields :=
      (congrArg (fun m => SMap.get m _ _) hrings).trans (s.telRecord_ring hs inst fields)
    refine hring.trans ?_
    simp only [Block.telNext, TelRing.full, decide_eq_true_eq]
  · have hl : (s.ring set inst).loses set = true := by simp [TelRing.loses, TelRing.full, hf, hu]
    show Block.raised _ 51 = true
    unfold Block.raised
    rw [hirq]
    exact s.telRecord_raises hs hl fields
  · have hl : (s.ring set inst).loses set = false := by
      rw [TelRing.loses, TelRing.full, Bool.and_eq_false_iff, decide_eq_false_iff_not, decide_eq_false_iff_not]
      omega
    exact hirq.trans (s.telRecord_quiet hs hl fields)

end telemetrySample

/-! ### The magazine's I2C (R493) -/

theorem Fld.get_eq_div_mod {f : Fld} (h : f.ok = true) (v : Word) :
    f.get v = v.toNat / 2 ^ f.lo % 2 ^ (f.hi + 1 - f.lo) := by
  simp only [Fld.ok, Bool.and_eq_true, decide_eq_true_eq] at h
  refine Nat.eq_of_testBit_eq fun i => ?_
  rw [Fld.get_testBit, Nat.testBit_mod_two_pow, Nat.testBit_div_two_pow, BitVec.testBit_toNat, Nat.add_comm i]
  congr 1
  exact decide_eq_decide.mpr (by omega)

theorem Fld.get_eq_one {f : Fld} (h : f.hi = f.lo) (hf : f.lo < 32) (v : Word) :
    decide (f.get v = 1) = v.getLsbD f.lo := by
  rw [Fld.get_eq_bit h hf]
  cases v.getLsbD f.lo <;> rfl

theorem exec_i2cTransfer (v : Word) (s : State) :
    exec (.i2cTransfer v) s = s.upd fun b => (b.wr MZ_I2C_CMD (v &&& i2cCmdMask)).i2cGo v := rfl

theorem Block.on_wr_ne (b : Block) {o : Nat} {g : Fld} (h : g.reg ≠ o) (v : Word) : (b.wr o v).on g = b.on g := by
  rw [Block.on_eq, Block.on_eq, Block.fld_wr_ne b h]

theorem does_i2cTransfer_ignored {s : State} (h : s.on MZ_I2C_STAT_BUSY = true ∨ s.on MZ_I2C_CTL_EN = false) (v : Word) :
    Does (.i2cTransfer v) s fun t => Block.regsOnly [MZ_I2C_CMD] s.toBlock t.toBlock ∧ t.out = s.out := by
  refine does_upd (exec_i2cTransfer v s) ?_
  have hgo : (s.wr MZ_I2C_CMD (v &&& i2cCmdMask)).i2cGo v = s.wr MZ_I2C_CMD (v &&& i2cCmdMask) := by
    refine if_pos ?_
    rw [Block.on_wr_ne _ (by decide), Block.on_wr_ne _ (by decide)]
    simpa using h
  rw [hgo]
  exact ⟨(Block.regsOnly_refl _ _).wr (by decide) _, rfl⟩

theorem does_i2cTransfer_starts {s : State} (hb : s.on MZ_I2C_STAT_BUSY = false) (he : s.on MZ_I2C_CTL_EN = true)
    (v : Word) :
    Does (.i2cTransfer v) s fun t =>
      t.fld MZ_I2C_STAT_BUSY = 1 ∧ Block.regsOnly [MZ_I2C_CMD, MZ_I2C_STAT] s.toBlock t.toBlock ∧ t.irq = s.irq ∧
      OutMsg.i2c (v.toNat % 2 ^ 7) (v.toNat / 2 ^ 8 % 2 ^ 8) (v.toNat / 2 ^ 18 % 4 + 1) (v.getLsbD 17) (v.getLsbD 16)
        (s.on MZ_I2C_CTL_FAST) (s.rd MZ_I2C_DATA) ∈ t.out := by
  refine does_upd (exec_i2cTransfer v s) ?_
  let c := s.wr MZ_I2C_CMD (v &&& i2cCmdMask)
  have hgo : c.i2cGo v = (c.setFld MZ_I2C_STAT_BUSY 1).emit
      (.i2c (v.toNat % 2 ^ 7) (v.toNat / 2 ^ 8 % 2 ^ 8) (v.toNat / 2 ^ 18 % 4 + 1) (v.getLsbD 17) (v.getLsbD 16)
        (s.on MZ_I2C_CTL_FAST) (s.rd MZ_I2C_DATA)) := by
    have haddr : MZ_I2C_CMD_ADDR.get v = v.toNat % 2 ^ 7 := by
      rw [Fld.get_eq_div_mod rfl]
      exact congrArg (· % 2 ^ 7) (Nat.div_one _)
    have hsub : MZ_I2C_CMD_SUB.get v = v.toNat / 2 ^ 8 % 2 ^ 8 := Fld.get_eq_div_mod rfl v
    have hn : MZ_I2C_CMD_NBYTE.get v = v.toNat / 2 ^ 18 % 4 := Fld.get_eq_div_mod rfl v
    have hrd : decide (MZ_I2C_CMD_RD.get v = 1) = v.getLsbD 17 := Fld.get_eq_one rfl (by decide) v
    have hsuben : decide (MZ_I2C_CMD_SUBEN.get v = 1) = v.getLsbD 16 := Fld.get_eq_one rfl (by decide) v
    have hfast : c.on MZ_I2C_CTL_FAST = s.on MZ_I2C_CTL_FAST := Block.on_wr_ne _ (by decide) _
    have hdata : c.rd MZ_I2C_DATA = s.rd MZ_I2C_DATA := Block.rd_wr_ne _ (by decide) _
    have hidle : c.on MZ_I2C_STAT_BUSY = false := (Block.on_wr_ne _ (by decide) _).trans hb
    have hen : c.on MZ_I2C_CTL_EN = true := (Block.on_wr_ne _ (by decide) _).trans he
    rw [Block.i2cGo, if_neg (by simp [hidle, hen]), haddr, hsub, hn, hrd, hsuben, hfast, hdata]
  show Block.fld (c.i2cGo v) _ = 1 ∧ Block.regsOnly _ _ (c.i2cGo v) ∧ (c.i2cGo v).irq = _ ∧ _ ∈ (c.i2cGo v).out
  rw [hgo]
  exact ⟨Block.fld_setFld_same c _ rfl _,
    (((Block.regsOnly_refl _ _).wr (o := MZ_I2C_CMD) (by decide) _).setFld (f := MZ_I2C_STAT_BUSY) (by decide) 1).same, rfl,
    List.mem_append_right _ List.mem_cons_self⟩

/-- What the end of a transfer leaves beside BUSY. -/
def Block.i2cLeave (b : Block) : I2cEnd → Block
  | .done data =>
    let low := BitVec.ofNat 32 (2 ^ (8 * (b.fld MZ_I2C_CMD_NBYTE + 1)) - 1)
    if b.on MZ_I2C_CMD_RD then b.wr MZ_I2C_DATA ((b.rd MZ_I2C_DATA &&& ~~~low) ||| (data &&& low)) else b
  | .nack => b.setFld MZ_I2C_STAT_NACK 1
  | .stretch => b.setFld MZ_I2C_STAT_TMO 1

theorem exec_i2cTransferDone (r : I2cEnd) (s : State) : exec (.i2cTransferDone r) s =
    s.upd fun b => if !b.on MZ_I2C_STAT_BUSY then b else (b.setFld MZ_I2C_STAT_BUSY 0).i2cLeave r := by
  cases r <;> rfl

theorem exec_i2cTransferDone_idle {s : State} (h : s.on MZ_I2C_STAT_BUSY = false) (r : I2cEnd) :
    exec (.i2cTransferDone r) s = .next s :=
  (exec_i2cTransferDone r s).trans (State.upd_same (if_pos (by rw [h]; rfl)))

/-- The end of a transfer: BUSY clears, and of what else it leaves `P` is to be shown. -/
theorem does_i2cTransferDone {s : State} (h : s.on MZ_I2C_STAT_BUSY = true) (r : I2cEnd) {P : Block → Prop}
    (hP : P ((s.setFld MZ_I2C_STAT_BUSY 0).i2cLeave r)) :
    Does (.i2cTransferDone r) s fun t => t.fld MZ_I2C_STAT_BUSY = 0 ∧
      Block.regsOnly [MZ_I2C_DATA, MZ_I2C_STAT] s.toBlock t.toBlock ∧ t.irq = s.irq ∧ P t.toBlock := by
  refine does_upd (exec_i2cTransferDone r s) ?_
  rw [if_neg (by simp [h])]
  have hidle : (s.setFld MZ_I2C_STAT_BUSY 0).fld MZ_I2C_STAT_BUSY = 0 := Block.fld_setFld_same _ _ rfl _
  have hregs : Block.regsOnly [MZ_I2C_DATA, MZ_I2C_STAT] s.toBlock (s.setFld MZ_I2C_STAT_BUSY 0) :=
    (Block.regsOnly_refl _ _).setFld (by decide) _
  cases r with
  | done data =>
    unfold Block.i2cLeave at hP ⊢
    dsimp only at hP ⊢
    split at hP
    · next hrd =>
      rw [if_pos hrd]
      exact ⟨(Block.fld_wr_ne _ (by decide) _).trans hidle, hregs.wr (by decide) _, rfl, hP⟩
    · next hrd =>
      rw [if_neg hrd]
      exact ⟨hidle, hregs, rfl, hP⟩
  | nack => exact ⟨(Block.fld_setFld_apart _ _ _ rfl _).trans hidle, hregs.setFld (by decide) _, rfl, hP⟩
  | stretch => exact ⟨(Block.fld_setFld_apart _ _ _ rfl _).trans hidle, hregs.setFld (by decide) _, rfl, hP⟩

/-- A word whose low `n` bits are taken from another. -/
theorem getLsbD_mergeLow (x y : Word) (n : Nat) {i : Nat} (hi : i < 32) :
    ((x &&& ~~~BitVec.ofNat 32 (2 ^ n - 1)) ||| (y &&& BitVec.ofNat 32 (2 ^ n - 1))).getLsbD i =
      if i < n then y.getLsbD i else x.getLsbD i := by
  simp only [BitVec.getLsbD_or, BitVec.getLsbD_and, BitVec.getLsbD_not, BitVec.getLsbD_ofNat, Nat.testBit_two_pow_sub_one,
    hi, decide_true, Bool.true_and]
  split
  · next h => simp [h]
  · next h => simp [h]

/-- A read's bytes are in MZ_I2C_DATA, a write leaves them; NACK stays. -/
def Block.I2cDataTaken (b : Block) (data : Word) (c : Block) : Prop :=
  c.fld MZ_I2C_STAT_NACK = b.fld MZ_I2C_STAT_NACK ∧ ∀ i, i < 32 → (c.rd MZ_I2C_DATA).getLsbD i =
    if b.on MZ_I2C_CMD_RD = true ∧ i < 8 * (b.fld MZ_I2C_CMD_NBYTE + 1) then data.getLsbD i
    else (b.rd MZ_I2C_DATA).getLsbD i

theorem Block.i2cLeave_data (b : Block) (data : Word) :
    b.I2cDataTaken data ((b.setFld MZ_I2C_STAT_BUSY 0).i2cLeave (.done data)) := by
  let c := b.setFld MZ_I2C_STAT_BUSY 0
  have hnack : c.fld MZ_I2C_STAT_NACK = b.fld MZ_I2C_STAT_NACK := Block.fld_setFld_apart _ _ _ rfl _
  have hdata : c.rd MZ_I2C_DATA = b.rd MZ_I2C_DATA := Block.rd_setFld_ne _ _ (by decide) _
  have hn : c.fld MZ_I2C_CMD_NBYTE = b.fld MZ_I2C_CMD_NBYTE := Block.fld_setFld_apart _ _ _ rfl _
  have hrd : c.on MZ_I2C_CMD_RD = b.on MZ_I2C_CMD_RD := Block.on_wr_ne _ (by decide) _
  cases hr : b.on MZ_I2C_CMD_RD with
  | false =>
    have hl : c.i2cLeave (.done data) = c := if_neg (by simp [hrd, hr])
    rw [hl]
    exact ⟨hnack, fun i _ => (congrArg (·.getLsbD i) hdata).trans (if_neg (by simp [hr])).symm⟩
  | true =>
    let low := BitVec.ofNat 32 (2 ^ (8 * (b.fld MZ_I2C_CMD_NBYTE + 1)) - 1)
    have hl : c.i2cLeave (.done data) = c.wr MZ_I2C_DATA ((b.rd MZ_I2C_DATA &&& ~~~low) ||| (data &&& low)) := by
      rw [Block.i2cLeave, if_pos (hrd.trans hr), hn, hdata]
    rw [hl]
    refine ⟨(Block.fld_wr_ne _ (by decide) _).trans hnack, fun i hi => ?_⟩
    rw [Block.rd_wr_same, getLsbD_mergeLow _ _ _ hi]
    simp only [hr, true_and]

theorem does_i2cTransferDone_nack {s : State} (h : s.on MZ_I2C_STAT_BUSY = true) :
    Does (.i2cTransferDone .nack) s fun t => t.fld MZ_I2C_STAT_BUSY = 0 ∧
      Block.regsOnly [MZ_I2C_DATA, MZ_I2C_STAT] s.toBlock t.toBlock ∧ t.irq = s.irq ∧
      t.fld MZ_I2C_STAT_NACK = 1 ∧ t.rd MZ_I2C_DATA = s.rd MZ_I2C_DATA :=
  does_i2cTransferDone h .nack (P := fun t => t.fld MZ_I2C_STAT_NACK = 1 ∧ t.rd MZ_I2C_DATA = s.rd MZ_I2C_DATA)
    ⟨Block.fld_setFld_same _ _ rfl _,
      (Block.rd_setFld_ne _ _ (by decide) _).trans (Block.rd_setFld_ne _ _ (by decide) _)⟩

theorem does_i2cTransferDone_stretch {s : State} (h : s.on MZ_I2C_STAT_BUSY = true) :
    Does (.i2cTransferDone .stretch) s fun t => t.fld MZ_I2C_STAT_BUSY = 0 ∧
      Block.regsOnly [MZ_I2C_DATA, MZ_I2C_STAT] s.toBlock t.toBlock ∧ t.irq = s.irq ∧
      t.fld MZ_I2C_STAT_TMO = 1 ∧ t.rd MZ_I2C_DATA = s.rd MZ_I2C_DATA :=
  does_i2cTransferDone h .stretch (P := fun t => t.fld MZ_I2C_STAT_TMO = 1 ∧ t.rd MZ_I2C_DATA = s.rd MZ_I2C_DATA)
    ⟨Block.fld_setFld_same _ _ rfl _,
      (Block.rd_setFld_ne _ _ (by decide) _).trans (Block.rd_setFld_ne _ _ (by decide) _)⟩

/-! ### Async events, and the die temperature (R292, R305) -/

section async

variable {b : Block} {t : Nat} (info data : Nat)

theorem Block.async_masked (ht : t ≠ 15) (hm : b.hq.asyncMask.testBit (t - 1) = true) : b.async t info data = b :=
  if_pos (by simp [ht, hm])

theorem Block.async_answers {tag : Nat} {rest : List Nat} (hm : b.hq.asyncMask.testBit (t - 1) = false)
    (ha : b.hq.async = tag :: rest) : b.async t info data =
      (b.modHq fun h => { h with async := rest }).finish tag (Finish.of 0 0 (asyncRes t info data)) := by
  rw [Block.async, if_neg (by simp [hm]), ha]

theorem Block.async_queues (hm : b.hq.asyncMask.testBit (t - 1) = false) (ha : b.hq.async = [])
    (hn : b.hq.events.length < 32) (he : ∀ x ∈ b.hq.events, x.1 ≠ t) :
    b.async t info data = b.modHq fun h => { h with events := h.events ++ [(t, info, data)] } := by
  have hany : b.hq.events.any (fun e => e.1 = t && e.2.1 = info) = false :=
    List.any_eq_false.mpr fun x hx => by simp [he x hx]
  rw [Block.async, if_neg (by simp [hm]), ha]
  dsimp only
  rw [hany, if_neg (by decide), if_neg (by omega)]

end async

theorem Block.async_dieTemp (b : Block) (t info data : Nat) : (b.async t info data).hq.dieTemp = b.hq.dieTemp := by
  unfold Block.async
  repeat' split
  all_goals rfl

theorem Block.cmd_finish {b : Block} {tag : Nat} {c : Cmd} (h : b.cmd tag = some c) (f : Finish) :
    (b.finish tag f).cmd tag = some { c with fin := some f } := by
  let g : Cmd → Cmd := fun c => if c.tag = tag then { c with fin := some f } else c
  have htag : c.tag = tag := by simpa using List.find?_some h
  have hp : (fun c : Cmd => decide (c.tag = tag)) ∘ g = fun c => decide (c.tag = tag) := by
    funext c
    by_cases hc : c.tag = tag <;> simp [g, hc]
  show (b.hq.cmds.map g).find? (fun c => decide (c.tag = tag)) = _
  rw [List.find?_map, hp, show b.hq.cmds.find? _ = some c from h, Option.map_some]
  exact congrArg some (if_pos htag)

/-- The die is above the threshold, and was not. -/
def Block.dieTurnsHot (b : Block) (temp : BitVec 16) : Prop := b.hq.warnDie < temp.toInt ∧ b.hq.hotDie = false

/-- The temperature is taken. -/
def Block.dieTaken (b : Block) (temp : BitVec 16) : Block :=
  b.modHq fun h => { h with dieTemp := temp.toInt, hotDie := decide (h.warnDie < temp.toInt) }

/-- The die temperature in degrees, as an event reports it. -/
def dieDeg (temp : BitVec 16) : Nat := (temp.toInt / 10 % 65536).toNat

theorem dieDeg_lt (temp : BitVec 16) : dieDeg temp < 65536 := by
  unfold dieDeg
  omega

theorem exec_dieTemperatureWarning (temp : BitVec 16) (s : State) : exec (.dieTemperatureWarning temp) s =
    s.upd fun b => if b.hq.warnDie < temp.toInt && !b.hq.hotDie then (b.dieTaken temp).async 13 0 (dieDeg temp)
      else b.dieTaken temp := rfl

theorem does_dieTemperatureWarning (s : State) (temp : BitVec 16) (tag : Nat) (rest : List Nat) (c : Cmd) :
    Does (.dieTemperatureWarning temp) s fun t => t.hq.dieTemp = temp.toInt ∧ t.regs = s.regs ∧ t.irq = s.irq ∧
      (¬ s.dieTurnsHot temp ∨ s.hq.asyncMask.testBit 12 = true → t.hq.events = s.hq.events ∧ t.hq.async = s.hq.async ∧
        t.hq.cmds = s.hq.cmds) ∧
      (s.dieTurnsHot temp → s.hq.asyncMask.testBit 12 = false →
        (s.hq.async = tag :: rest → t.hq.async = rest ∧
          (s.cmd tag = some c → t.cmd tag = some { c with fin := some (Finish.of 0 0 (13 + 65536 * dieDeg temp)) })) ∧
        (s.hq.async = [] → s.hq.events.length < 32 → (∀ x ∈ s.hq.events, x.1 ≠ 13) →
          t.hq.events = s.hq.events ++ [(13, 0, dieDeg temp)])) := by
  refine does_upd (exec_dieTemperatureWarning temp s) ?_
  by_cases hot : s.dieTurnsHot temp
  · rw [if_pos (by simp [hot.1, hot.2])]
    have hf := (s.dieTaken temp).async_frame 13 0 (dieDeg temp)
    refine ⟨Block.async_dieTemp .., hf.same .regs (by decide), hf.same .irq (by decide), fun h => ?_, fun _ hm =>
      ⟨fun ha => ?_, fun ha hn he => ?_⟩⟩
    · have hm : s.hq.asyncMask.testBit 12 = true := h.resolve_left (not_not.mpr hot)
      dsimp only
      rw [Block.async_masked (b := s.dieTaken temp) (t := 13) 0 _ (by decide) hm]
      exact ⟨rfl, rfl, rfl⟩
    · have hres : asyncRes 13 0 (dieDeg temp) = 13 + 65536 * dieDeg temp := by
        rw [asyncRes, Nat.mod_eq_of_lt (dieDeg_lt temp)]
      dsimp only
      rw [Block.async_answers (b := s.dieTaken temp) (t := 13) 0 _ hm ha, hres]
      exact ⟨rfl, fun hc => Block.cmd_finish (by exact hc) _⟩
    · dsimp only
      rw [Block.async_queues (b := s.dieTaken temp) (t := 13) 0 _ hm ha hn he]
      rfl
  · rw [if_neg fun h => hot (by simpa [Block.dieTurnsHot] using h)]
    exact ⟨rfl, rfl, rfl, fun _ => ⟨rfl, rfl, rfl⟩, fun h => absurd h hot⟩

/-- Settles O60: the clauses on telemetry along the sets, of which set 0 has no records. -/
theorem calibrationServices : Obligations.CalibrationServices := by
  unfold Obligations.CalibrationServices
  intro s e set inst mag draw temp hum v data tag rest c
  refine ⟨exec_deferralExpiry_waits, does_deferralExpiry, ?_, ?_, fun h => does_i2cTransfer_ignored h v,
    fun hb he => does_i2cTransfer_starts hb he v,
    fun h => ⟨exec_i2cTransferDone_idle h _, exec_i2cTransferDone_idle h _, exec_i2cTransferDone_idle h _⟩,
    fun h => ⟨does_i2cTransferDone h (.done data) (P := s.I2cDataTaken data) (s.i2cLeave_data data),
      does_i2cTransferDone_nack h, does_i2cTransferDone_stretch h⟩,
    does_dieTemperatureWarning s temp tag rest c⟩
  · match set with
    | 0 => exact fun _ => exec_telemetrySample_idle (fun h => h.1 rfl) mag hum draw
    | 1 | 2 | 3 | 4 => exact fun h => exec_telemetrySample_idle h mag hum draw
  · match set with
    | 0 => exact fun h => absurd rfl h.1
    | 1 | 2 | 3 | 4 =>
      exact fun h => ⟨does_telemetrySample_regs h mag hum draw, does_telemetrySample_unsampled h mag hum draw,
        does_telemetrySample_sampled h mag hum draw⟩

end Sys2Proof.Machine

/-!
PROOFS. The write-power calibration of 19_calibration_and_telemetry.md R473 and R474: the test units of
03_media_format.md R77 and R78, the powers found, and bad bands.
-/

namespace Sys2Proof.Machine

/-! ### Units and registers of a surface -/

@[simp] theorem Block.vget_modCalSurf_same (b : Block) (s : Fin 4) (f : CalSurf → CalSurf) :
    vget (b.modCalSurf s f).cal.surf s = f (vget b.cal.surf s) := vget_vset_same ..

theorem srcPresent_surf {p : Part} {s : Fin 4} (h : p.hasSurf s = true) {k : Nat} (hk : k < 40) :
    srcPresent p (1024 + 40 * s.val + k) = true := by
  have hn : (1024 + 40 * s.val + k - 1024) / 40 = s.val := by omega
  unfold srcPresent
  rw [if_neg (by omega), if_neg (by omega), if_neg (by omega), if_neg (by omega), if_neg (by omega),
    if_pos (by omega), hn]
  exact h

theorem irqReg_eq_false {o : Nat} (h1 : o ≠ 0x1000C) (h2 : ¬ (0x49000 ≤ o ∧ o < 0x49010)) : irqReg o = false := by
  refine Bool.eq_false_iff.mpr fun h => ?_
  simp only [irqReg, Bool.or_eq_true, Bool.and_eq_true, decide_eq_true_eq] at h
  simp only [IC_ERR, MSIX_PBA] at h
  omega

theorem irqReg_calWp (s : Fin 4) : irqReg (CAL_Ss_WP s) = false := by
  apply irqReg_eq_false <;> simp only [CAL_Ss_WP] <;> omega

theorem irqReg_bpwr (s k : Nat) : irqReg (SEs_BPWR_b s k) = false := by
  apply irqReg_eq_false <;> simp only [SEs_BPWR_b] <;> omega

theorem irqReg_seStat (s : Nat) : irqReg (SEs_STAT s) = false := by
  apply irqReg_eq_false <;> simp only [SEs_STAT] <;> omega

theorem irqReg_maxPwr (s : Nat) : irqReg (SEs_MAXPWR s) = false := by
  apply irqReg_eq_false <;> simp only [SEs_MAXPWR] <;> omega

theorem calWp_not_mem (s : Fin 4) : CAL_Ss_WP s ∉ [CAL_STAT, CAL_CNT] := by
  simp only [CAL_STAT, CAL_CNT, CAL_Ss_WP, List.mem_cons, List.not_mem_nil, or_false]
  omega

theorem seStat_not_mem (s : Nat) : SEs_STAT s ∉ [CAL_CNT] := by
  simp only [CAL_CNT, SEs_STAT, List.mem_cons, List.not_mem_nil, or_false]
  omega

theorem seMaxPwr_not_mem (s : Nat) : SEs_MAXPWR s ∉ [CAL_CNT] := by
  simp only [CAL_CNT, SEs_MAXPWR, List.mem_cons, List.not_mem_nil, or_false]
  omega

theorem bpwr_not_mem (s k : Nat) : SEs_BPWR_b s k ∉ [CAL_STAT, CAL_CNT] := by
  simp only [CAL_STAT, CAL_CNT, SEs_BPWR_b, List.mem_cons, List.not_mem_nil, or_false]
  omega

theorem bpwr_ne_calWp (s : Fin 4) (k : Nat) : SEs_BPWR_b s k ≠ CAL_Ss_WP s :=
  Nat.ne_of_gt (by simp only [SEs_BPWR_b, CAL_Ss_WP]; omega)

theorem Block.fld_of_rd {b c : Block} {g : Fld} (h : c.rd g.reg = b.rd g.reg) : c.fld g = b.fld g := congrArg g.get h

theorem Block.on_of_rd {b c : Block} {g : Fld} (h : c.rd g.reg = b.rd g.reg) : c.on g = b.on g := by
  rw [Block.on_eq, Block.on_eq, Block.fld_of_rd h]

theorem Block.regsOnly.frame {l : List Nat} {m : List Area} {a b c : Block} (h : Block.regsOnly l a b) (hf : Frame m b c)
    (hr : Area.regs ∉ m := by decide) (hp : Area.part ∉ m := by decide) : Block.regsOnly l a c :=
  h.same (hf.same .part hp) (hf.same .regs hr)

theorem Block.regsOnly.mono {l m : List Nat} {a b : Block} (h : Block.regsOnly l a b) (hl : l ⊆ m) :
    Block.regsOnly m a b := fun o ho => h o fun hl' => ho (hl hl')

theorem Block.regsOnly.raiseSurf {l : List Nat} {a b : Block} (h : Block.regsOnly l a b) (s : Fin 4) (k : Nat) :
    Block.regsOnly l a (b.raiseSurf s k) := h.raise _

theorem Block.regsOnly.endAwait {l : List Nat} {a b : Block} (h : Block.regsOnly l a b) (s : Fin 4) :
    Block.regsOnly l a (b.endAwait s) := h.same

theorem Block.regsOnly.busy {a b : Block} (h : Block.regsOnly [CAL_STAT] a b) (s : Fin 4) (v : Bool) :
    Block.regsOnly [CAL_STAT] a (b.putBit CAL_STAT_BUSY s.val v) := h.setFld (f := CAL_STAT_BUSY) List.mem_cons_self _

theorem Block.regsOnly.calKind {a b : Block} (h : Block.regsOnly [CAL_STAT] a b) : Block.regsOnly [CAL_STAT] a b.calKind :=
  h.setFld (f := CAL_STAT_KIND) List.mem_cons_self _

theorem Block.raise_frame (b : Block) (n : Nat) : Frame [.regs, .irq, .ml, .out] b (b.raise n) :=
  frame_raise .refl n (List.Subset.refl _)

theorem Block.raiseSurf_raises {b : Block} {s : Fin 4} (h : b.part.hasSurf s = true) {k : Nat} (hk : k < 40) :
    (b.raiseSurf s k).raised (1024 + 40 * s.val + k) = true := Block.raise_raised_same (srcPresent_surf h hk)

/-! ### The end of a calibration (R479) -/

theorem Block.telRecord_surf (b : Block) (set inst : Nat) (fields : List (Nat × Nat × Nat)) :
    (b.telRecord set inst fields).cal.surf = b.cal.surf := by
  by_cases hs : b.telSampled set
  · rw [Block.telRecord_adds hs]
    split
    · rw [Block.raise_cal]
      rfl
    · rfl
  · rw [Block.telRecord_skips hs]

theorem Block.calEnd_run (b : Block) (s : Fin 4) (result : Nat) (values : List Nat) :
    (vget (b.calEnd s result values).cal.surf s).run = none := by
  unfold Block.calEnd
  split
  · assumption
  · dsimp only
    rw [Block.telRecord_surf]
    exact congrArg CalSurf.run (b.vget_modCalSurf_same s _)

theorem Block.calEnd_regsOnly (b : Block) (s : Fin 4) (result : Nat) (values : List Nat) :
    Block.regsOnly [CAL_STAT] b (b.calEnd s result values) := by
  unfold Block.calEnd
  split
  · exact Block.regsOnly_refl _ b
  · have h : Block.regsOnly [CAL_STAT] b (b.modCalSurf s fun x => { x with run := none }) :=
      (Block.regsOnly_refl _ b).same
    exact fun o h1 h2 => (Block.telRecord_rd _ 5 0 _ h2).trans ((h.busy s false).calKind o h1 h2)

theorem Block.calEnd_frame (b : Block) (s : Fin 4) (result : Nat) (values : List Nat) :
    Frame [.regs, .irq, .cal, .ml, .out] b (b.calEnd s result values) :=
  frame_calEnd .refl s result values (List.Subset.refl _)

/-! ### CAL_Ss_WP: how the last write-power calibration ended (R481) -/

/-- The verdict of a write-power calibration: its result, the bad bands in a row and its band. -/
def Block.wpVerdict (b : Block) (s : Fin 4) (result run band : Nat) : Block :=
  ((b.setFld (CAL_Ss_WP_RESULT s) result).setFld (CAL_Ss_WP_BADRUN s) run).setFld (CAL_Ss_WP_BAND s) band

section wpVerdict

variable (b : Block) (s : Fin 4) (result run band : Nat)

theorem Block.wpVerdict_result : (b.wpVerdict s result run band).fld (CAL_Ss_WP_RESULT s) = result % 2 ^ 2 := by
  unfold Block.wpVerdict
  rw [Block.fld_setFld_apart _ _ _ (by simp [Fld.apart, CAL_Ss_WP_RESULT, CAL_Ss_WP_BAND]),
    Block.fld_setFld_apart _ _ _ (by simp [Fld.apart, CAL_Ss_WP_RESULT, CAL_Ss_WP_BADRUN])]
  exact Block.fld_setFld_same _ _ rfl _

theorem Block.wpVerdict_badRun : (b.wpVerdict s result run band).fld (CAL_Ss_WP_BADRUN s) = run % 2 ^ 8 := by
  unfold Block.wpVerdict
  rw [Block.fld_setFld_apart _ _ _ (by simp [Fld.apart, CAL_Ss_WP_BADRUN, CAL_Ss_WP_BAND])]
  exact Block.fld_setFld_same _ _ rfl _

theorem Block.wpVerdict_band : (b.wpVerdict s result run band).fld (CAL_Ss_WP_BAND s) = band % 2 ^ 16 :=
  Block.fld_setFld_same _ _ rfl _

theorem Block.wpVerdict_regsOnly : Block.regsOnly [CAL_Ss_WP s] b (b.wpVerdict s result run band) :=
  (((Block.regsOnly_refl _ b).setFld (f := CAL_Ss_WP_RESULT s) List.mem_cons_self _).setFld (f := CAL_Ss_WP_BADRUN s)
    List.mem_cons_self _).setFld (f := CAL_Ss_WP_BAND s) List.mem_cons_self _

theorem Block.wpVerdict_calm : Calm b (b.wpVerdict s result run band) :=
  have h := Calm.refl.setFld (b := b) (CAL_Ss_WP_RESULT s) result (guardedReg_calWp s)
  (h.setFld (CAL_Ss_WP_BADRUN s) run (guardedReg_calWp s)).setFld (CAL_Ss_WP_BAND s) band (guardedReg_calWp s)

end wpVerdict

/-! ### Bad bands (R474) -/

theorem Block.bandEntryFor_spent (b : Block) (s : Fin 4) (k failed : Nat) :
    (vget (b.bandEntryFor k failed).wp s).spent = (vget b.wp s).spent := by
  unfold Block.bandEntryFor
  split
  · rfl
  · have hj : ∀ c : Block, ∀ bytes, (c.journalEntry 9 bytes).wp = c.wp := fun c bytes =>
      (frame_journalEntry (l₀ := [.store]) .refl 9 bytes (List.Subset.refl _)).same .wp (by decide)
    rw [hj]
    by_cases h : s = Fin.ofNat 4 (bandSurf k)
    · subst h
      unfold Block.recordFails
      rw [Block.vget_modWp_same]
    · exact congrArg Wp.spent (vget_vset_ne _ h _)

/-- The band takes no more user writes; the first time, its BAND entry says so. -/
def Block.spendBand (b : Block) (s : Fin 4) (band : Nat) : Block :=
  if (vget b.wp s).spent.contains band then b
  else
    let b := b.modWp s fun w =>
      { w with spent := w.spent ++ [band]
               swath := if w.band = band then 360 else w.swath
               stripe := if w.band = band then 0 else w.stripe }
    b.bandEntryFor band (b.failedMask s)

theorem Block.spendBand_spends (b : Block) (s : Fin 4) (band : Nat) :
    band ∈ (vget (b.spendBand s band).wp s).spent := by
  unfold Block.spendBand
  split
  · next h => exact List.contains_iff_mem.mp h
  · dsimp only
    rw [Block.bandEntryFor_spent, Block.vget_modWp_same]
    exact List.mem_append_right _ List.mem_cons_self

theorem Block.spendBand_frame (b : Block) (s : Fin 4) (band : Nat) : Frame [.wp, .store] b (b.spendBand s band) := by
  unfold Block.spendBand
  split
  · exact .refl
  · exact frame_bandEntryFor (frame_modWp .refl s _ (by decide)) band _ (List.Subset.refl _)

theorem Block.spendBand_calm (b : Block) (s : Fin 4) (band : Nat) : Calm b (b.spendBand s band) :=
  Calm.ite .refl ((Calm.refl.modWp s _).bandEntryFor _ _)

theorem Block.endAwait_calm (b : Block) (s : Fin 4) : Calm b (b.endAwait s) := Calm.refl.modPw _

/-- The verdict on a bad band, and the band spent with its event. -/
def Block.markBad (b : Block) (s : Fin 4) (band : Nat) : Block :=
  (((b.wpVerdict s 1 (min (b.fld (CAL_Ss_WP_BADRUN s) + 1) 255) band).endAwait s).spendBand s band).raiseSurf s 26

/-- The surface is barred until the next load. -/
def Block.barSurf (b : Block) (s : Fin 4) : Block :=
  ((b.modCalSurf s fun c => { c with barred := true }).surfDown s 5).raiseSurf s 27

theorem Block.badBand_eq (b : Block) (s : Fin 4) (band : Nat) : b.badBand s band =
    if min (b.fld (CAL_Ss_WP_BADRUN s) + 1) 255 < 3 then b.markBad s band else (b.markBad s band).barSurf s := rfl

/-- Block `t` is `b` with a band marked bad: besides, only calm work is done, and CAL_Ss_WP alone is written. -/
structure Block.BandMarked (b t : Block) (s : Fin 4) (band : Nat) : Prop where
  calm : Calm b t
  run : (vget t.cal.surf s).run = (vget b.cal.surf s).run
  regs : Block.regsOnly [CAL_Ss_WP s] b t
  result : t.fld (CAL_Ss_WP_RESULT s) = 1
  badRun : t.fld (CAL_Ss_WP_BADRUN s) = min (b.fld (CAL_Ss_WP_BADRUN s) + 1) 255
  spent : band ∈ (vget t.wp s).spent
  event : t.raised (1024 + 40 * s.val + 26) = true

theorem Block.markBad_marks {b : Block} {s : Fin 4} (hs : b.part.hasSurf s = true) (band : Nat) :
    b.BandMarked (b.markBad s band) s band := by
  let v := b.wpVerdict s 1 (min (b.fld (CAL_Ss_WP_BADRUN s) + 1) 255) band
  let w := (v.endAwait s).spendBand s band
  have hw := (v.endAwait s).spendBand_frame s band
  have hr : Frame [.regs, .irq, .ml, .out] w (w.raiseSurf s 26) := w.raise_frame _
  have hvw : Calm b w :=
    (b.wpVerdict_calm s 1 _ band).trans ((v.endAwait_calm s).trans ((v.endAwait s).spendBand_calm s band))
  have hreg : Block.regsOnly [] v (w.raiseSurf s 26) := (((Block.regsOnly_refl _ v).endAwait s).frame hw).raiseSurf s 26
  have hcal : (w.raiseSurf s 26).cal = b.cal := (w.raise_cal _).trans (hw.same .cal (by decide))
  have hfld : ∀ g : Fld, g.reg = CAL_Ss_WP s → (w.raiseSurf s 26).fld g = v.fld g := fun g hg =>
    Block.fld_of_rd (hreg _ List.not_mem_nil (hg ▸ irqReg_calWp s))
  exact {
    calm := hvw.raiseSurf s 26
    run := by rw [Block.markBad, hcal]
    regs := Block.regsOnly_trans (b.wpVerdict_regsOnly s 1 _ band) (hreg.mono (List.nil_subset _))
    result := (hfld (CAL_Ss_WP_RESULT s) rfl).trans (b.wpVerdict_result s 1 _ band)
    badRun := by
      have hlt : min (b.fld (CAL_Ss_WP_BADRUN s) + 1) 255 < 2 ^ 8 := by omega
      exact (hfld (CAL_Ss_WP_BADRUN s) rfl).trans ((b.wpVerdict_badRun s 1 _ band).trans (Nat.mod_eq_of_lt hlt))
    spent := by
      have hwp : (b.markBad s band).wp = w.wp := hr.same .wp (by decide)
      rw [hwp]
      exact Block.spendBand_spends ..
    event := Block.raiseSurf_raises (hvw.part ▸ hs) (by decide) }

/-- Barring the surface keeps what was marked. -/
theorem Block.BandMarked.barSurf {b t : Block} {s : Fin 4} {band : Nat} (h : b.BandMarked t s band) :
    b.BandMarked (t.barSurf s) s band := by
  let c := (t.modCalSurf s fun c => { c with barred := true }).modServo s fun v => { v with unavail := true }
  let d := c.async 5 (s.val + 16 * 5) (t.bandNow s)
  have hd : Frame [.hq] c d := c.async_frame _ _ _
  have hr : Frame [.regs, .irq, .ml, .out] d (d.raiseSurf s 27) := d.raise_frame _
  have hreg : Block.regsOnly [] t (d.raiseSurf s 27) := (((Block.regsOnly_refl _ t).same (c := c)).frame hd).raise _
  have hfld : ∀ g : Fld, g.reg = CAL_Ss_WP s → (d.raiseSurf s 27).fld g = t.fld g := fun g hg =>
    Block.fld_of_rd (hreg _ List.not_mem_nil (hg ▸ irqReg_calWp s))
  have hcalm : Calm t (t.barSurf s) := ((Calm.refl.modCalSurf s _).surfDown s 5).raiseSurf s 27
  exact {
    calm := h.calm.trans hcalm
    run := by
      have hcal : (t.barSurf s).cal = c.cal := (d.raise_cal _).trans (hd.same .cal (by decide))
      rw [hcal]
      exact (congrArg CalSurf.run (t.vget_modCalSurf_same s _)).trans h.run
    regs := Block.regsOnly_trans h.regs (hreg.mono (List.nil_subset _))
    result := (hfld (CAL_Ss_WP_RESULT s) rfl).trans h.result
    badRun := (hfld (CAL_Ss_WP_BADRUN s) rfl).trans h.badRun
    spent := by
      have hwp : (t.barSurf s).wp = t.wp := (hr.same .wp (by decide)).trans (hd.same .wp (by decide))
      rw [hwp]
      exact h.spent
    event := hcalm.raised _ h.event }

theorem Block.barSurf_bars {b : Block} {s : Fin 4} (hs : b.part.hasSurf s = true) :
    (b.barSurf s).raised (1024 + 40 * s.val + 27) = true ∧ (vget (b.barSurf s).servo s).unavail = true := by
  let c := (b.modCalSurf s fun c => { c with barred := true }).modServo s fun v => { v with unavail := true }
  let d := c.async 5 (s.val + 16 * 5) (b.bandNow s)
  have hd : Frame [.hq] c d := c.async_frame _ _ _
  have hservo : (b.barSurf s).servo = c.servo :=
    ((d.raise_frame _).same .servo (by decide)).trans (hd.same .servo (by decide))
  refine ⟨Block.raiseSurf_raises (b := d) (hd.same .part (by decide) ▸ hs) (by decide), ?_⟩
  rw [hservo]
  exact congrArg Servo.unavail (vget_vset_same ..)

theorem Block.badBand_marks {b : Block} {s : Fin 4} (hs : b.part.hasSurf s = true) (band : Nat) :
    b.BandMarked (b.badBand s band) s band ∧ (2 ≤ b.fld (CAL_Ss_WP_BADRUN s) →
      (b.badBand s band).raised (1024 + 40 * s.val + 27) = true ∧
      (vget (b.badBand s band).servo s).unavail = true) := by
  have h := Block.markBad_marks hs band
  rw [Block.badBand_eq]
  split
  · exact ⟨h, fun h2 => by omega⟩
  · exact ⟨h.barSurf, fun _ => Block.barSurf_bars (h.calm.part ▸ hs)⟩

/-- Block `t` is `b` after a bad write-power calibration of the surface in a band. -/
def Block.BandSpent (b t : Block) (s : Fin 4) (band : Nat) : Prop :=
  (vget t.cal.surf s).run = none ∧ t.raised 48 = true ∧ t.raised (1024 + 40 * s.val + 26) = true ∧
    t.fld (CAL_Ss_WP_RESULT s) = 1 ∧ t.fld (CAL_Ss_WP_BADRUN s) = min (b.fld (CAL_Ss_WP_BADRUN s) + 1) 255 ∧
    band ∈ (vget t.wp s).spent ∧ (∀ k, t.rd (SEs_BPWR_b s k) = b.rd (SEs_BPWR_b s k)) ∧
    (2 ≤ b.fld (CAL_Ss_WP_BADRUN s) →
      t.raised (1024 + 40 * s.val + 27) = true ∧ (vget t.servo s).unavail = true)

/-- What is said of a spent band depends on CAL_Ss_WP and the powers alone. -/
theorem Block.BandSpent.of_regsOnly {a b t : Block} {s : Fin 4} {band : Nat} (h : b.BandSpent t s band)
    (hr : Block.regsOnly [CAL_STAT, CAL_CNT] a b) : a.BandSpent t s band := by
  obtain ⟨hrun, h48, h26, hres, hbad, hspent, hpwr, hthird⟩ := h
  have hrow : b.fld (CAL_Ss_WP_BADRUN s) = a.fld (CAL_Ss_WP_BADRUN s) :=
    Block.fld_of_rd (hr _ (calWp_not_mem s) (irqReg_calWp s))
  rw [hrow] at hbad hthird
  exact ⟨hrun, h48, h26, hres, hbad, hspent,
    fun k => (hpwr k).trans (hr _ (bpwr_not_mem s k) (irqReg_bpwr s k)), hthird⟩

theorem Block.calBad_writePower {b : Block} {s : Fin 4} {c : CalRun} (h : (vget b.cal.surf s).run = some c)
    (hk : c.kind = 3) (values : List Nat) :
    b.calBad s values = (((b.calEnd s 1 values).bump CAL_CNT_BAD 1).raise 48).badBand s c.band := by
  unfold Block.calBad
  rw [h]
  dsimp only
  rw [hk]
  rfl

theorem Block.calBad_calm {b : Block} {s : Fin 4} (hs : b.part.hasSurf s = true) {c : CalRun}
    (h : (vget b.cal.surf s).run = some c) (hk : c.kind = 3) (values : List Nat) : Calm b (b.calBad s values) := by
  have h1 : Calm b (((b.calEnd s 1 values).bump CAL_CNT_BAD 1).raise 48) :=
    ((Calm.refl.calEnd s 1 values).bump CAL_CNT_BAD 1).raise 48
  rw [Block.calBad_writePower h hk]
  exact h1.trans (Block.badBand_marks (h1.part ▸ hs) c.band).1.calm

theorem Block.calBad_spends {b : Block} {s : Fin 4} (hs : b.part.hasSurf s = true) {c : CalRun}
    (h : (vget b.cal.surf s).run = some c) (hk : c.kind = 3) (values : List Nat) :
    b.BandSpent (b.calBad s values) s c.band := by
  let e := (b.calEnd s 1 values).bump CAL_CNT_BAD 1
  have he : Calm b (e.raise 48) := ((Calm.refl.calEnd s 1 values).bump CAL_CNT_BAD 1).raise 48
  have hregs : Block.regsOnly [CAL_STAT, CAL_CNT] b (e.raise 48) :=
    (((b.calEnd_regsOnly s 1 values).mono (List.subset_append_left _ [CAL_CNT])).setFld (f := CAL_CNT_BAD)
      (List.mem_cons_of_mem _ List.mem_cons_self) _).raise 48
  obtain ⟨hm, hthird⟩ := Block.badBand_marks (he.part ▸ hs) c.band
  have h48 : (e.raise 48).raised 48 = true := Block.raise_raised_same (srcPresent_power _ (by decide))
  have hnone : (vget (e.raise 48).cal.surf s).run = none := by
    rw [Block.raise_cal]
    exact b.calEnd_run s 1 values
  have hspent : (e.raise 48).BandSpent ((e.raise 48).badBand s c.band) s c.band :=
    ⟨hm.run.trans hnone, hm.calm.raised _ h48, hm.event, hm.result, hm.badRun, hm.spent,
      fun k => hm.regs _ (mt List.mem_singleton.mp (bpwr_ne_calWp s k)) (irqReg_bpwr s k), hthird⟩
  rw [Block.calBad_writePower h hk]
  exact hspent.of_regsOnly hregs

/-! ### The powers found (R473, step 5) -/

/-- PEAK of beam `k` is written, with BIAS in its ratio; over a PEAK of 0 BIAS stays (log entry 78). -/
def Block.setPower (b : Block) (s : Fin 4) (k p : Nat) : Block :=
  (b.setFld (SEs_BPWR_b_PEAK s k) p).setFld (SEs_BPWR_b_BIAS s k)
    (if b.fld (SEs_BPWR_b_PEAK s k) = 0 then b.fld (SEs_BPWR_b_BIAS s k)
     else b.fld (SEs_BPWR_b_BIAS s k) * p / b.fld (SEs_BPWR_b_PEAK s k))

/-- The powers of the first `n` beams are written, but for the failed ones (log entry 78). -/
def Block.setPowers (b : Block) (s : Fin 4) (failed : List Nat) (power : Nat → Nat) (n : Nat) : Block :=
  (List.range n).foldl (fun b k => if failed.contains k then b else b.setPower s k (power k)) b

theorem Block.setPower_rd_ne (b : Block) (s : Fin 4) {j k : Nat} (h : j ≠ k) (p : Nat) :
    (b.setPower s k p).rd (SEs_BPWR_b s j) = b.rd (SEs_BPWR_b s j) := by
  have hne : SEs_BPWR_b s j ≠ SEs_BPWR_b s k := by
    simp only [SEs_BPWR_b]
    omega
  exact (Block.rd_setFld_ne _ _ hne _).trans (Block.rd_setFld_ne _ _ hne _)

theorem Block.setPower_peak (b : Block) (s : Fin 4) (k p : Nat) :
    (b.setPower s k p).fld (SEs_BPWR_b_PEAK s k) = p % 2 ^ 16 :=
  (Block.fld_setFld_apart _ _ _ (by simp [Fld.apart, SEs_BPWR_b_PEAK, SEs_BPWR_b_BIAS]) _).trans
    (Block.fld_setFld_same _ _ rfl _)

theorem Block.setPower_bias (b : Block) (s : Fin 4) (k p : Nat) :
    (b.setPower s k p).fld (SEs_BPWR_b_BIAS s k) =
      (if b.fld (SEs_BPWR_b_PEAK s k) = 0 then b.fld (SEs_BPWR_b_BIAS s k)
       else b.fld (SEs_BPWR_b_BIAS s k) * p / b.fld (SEs_BPWR_b_PEAK s k)) % 2 ^ 16 :=
  Block.fld_setFld_same _ _ rfl _

section setPowers

variable (b : Block) (s : Fin 4) (failed : List Nat) (power : Nat → Nat)

theorem Block.setPowers_frame (n : Nat) : Frame [.regs] b (b.setPowers s failed power n) :=
  Frame.foldl .refl fun _ _ h => by
    split
    · exact h
    · exact frame_setFld (frame_setFld h _ _ (List.Subset.refl _)) _ _ (List.Subset.refl _)

theorem Block.setPowers_succ (n : Nat) : b.setPowers s failed power (n + 1) =
    if failed.contains n then b.setPowers s failed power n
    else (b.setPowers s failed power n).setPower s n (power n) := by
  simp only [Block.setPowers, List.range_succ, List.foldl_append, List.foldl_cons, List.foldl_nil]

/-- Step `n` writes beam `n` alone. -/
theorem Block.setPowers_succ_rd {n k : Nat} (h : k ≠ n) :
    (b.setPowers s failed power (n + 1)).rd (SEs_BPWR_b s k) = (b.setPowers s failed power n).rd (SEs_BPWR_b s k) := by
  rw [Block.setPowers_succ]
  split
  · rfl
  · exact Block.setPower_rd_ne _ s h _

/-- A failed beam, and one whose turn has not come, keeps its power. -/
theorem Block.setPowers_rd_same {n k : Nat} (h : n ≤ k ∨ k ∈ failed) :
    (b.setPowers s failed power n).rd (SEs_BPWR_b s k) = b.rd (SEs_BPWR_b s k) := by
  induction n with
  | zero => rfl
  | succ n ih =>
    by_cases hk : k = n
    · subst hk
      have hf : failed.contains k = true := List.contains_iff_mem.mpr (h.resolve_left (by omega))
      rw [Block.setPowers_succ, if_pos hf]
      exact ih (.inl le_rfl)
    · rw [Block.setPowers_succ_rd b s failed power hk]
      exact ih (h.imp_left (by omega))

/-- Every other beam has the power found, with BIAS in its ratio (R473). -/
theorem Block.setPowers_found {n k : Nat} (hk : k < n) (hf : k ∉ failed) :
    (b.setPowers s failed power n).fld (SEs_BPWR_b_PEAK s k) = power k % 2 ^ 16 ∧
    (b.setPowers s failed power n).fld (SEs_BPWR_b_BIAS s k) =
      (if b.fld (SEs_BPWR_b_PEAK s k) = 0 then b.fld (SEs_BPWR_b_BIAS s k)
       else b.fld (SEs_BPWR_b_BIAS s k) * power k / b.fld (SEs_BPWR_b_PEAK s k)) % 2 ^ 16 := by
  induction n with
  | zero => exact absurd hk (Nat.not_lt_zero k)
  | succ n ih =>
    by_cases hn : k = n
    · subst hn
      have hrd := b.setPowers_rd_same s failed power (n := k) (.inl le_rfl)
      have hpeak := Block.fld_of_rd (g := SEs_BPWR_b_PEAK s k) hrd
      have hbias := Block.fld_of_rd (g := SEs_BPWR_b_BIAS s k) hrd
      rw [Block.setPowers_succ, if_neg (by simpa using hf), ← hpeak, ← hbias]
      exact ⟨Block.setPower_peak .., Block.setPower_bias ..⟩
    · have hrd := b.setPowers_succ_rd s failed power hn
      rw [Block.fld_of_rd (g := SEs_BPWR_b_PEAK s k) hrd, Block.fld_of_rd (g := SEs_BPWR_b_BIAS s k) hrd]
      exact ih (by omega)

end setPowers

/-- The sweep steps that a beam passed. -/
def sweptSteps (passed : List (Nat × Nat)) (k : Nat) : List Nat := (passed.filter fun e => e.1 = k).map (·.2)

/-- Power found for beam `k`: the middle of its longest passing run, or its start power where it was not swept. -/
def CalRun.power (c : CalRun) (k : Nat) : Nat :=
  if (sweptSteps c.passed k).isEmpty then c.peak0.getD k 0 else sweptPeak (c.peak0.getD k 0) (sweptSteps c.passed k)

theorem zipIdx_map_range (f : Nat → Nat) (n : Nat) :
    ((List.range n).map f).zipIdx = (List.range n).map fun k => (f k, k) := by
  refine List.ext_getElem (by simp) fun i h1 h2 => ?_
  simp

/-- What the surface keeps of the check: the powers by layer, its temperature, and the band checked. -/
def Block.noteCheck (b : Block) (s : Fin 4) (c : CalRun) : Block :=
  b.modCalSurf s fun k =>
    { k with peaks := k.peaks.filter (fun e => e.1 ≠ bandLayer c.band) ++
               [(bandLayer c.band, c.band, (List.range 16).map c.power)]
             lastTemp := b.sfld (SEs_TEMP_TEMP s)
             checked := if c.area then k.checked else some c.band }

/-- The powers are written, for the next POWER frame (R99). -/
def Block.powersDue (b : Block) (s : Fin 4) (c : CalRun) : Block :=
  (b.setPowers s (b.failedBeams s) c.power 16).modSe s fun e => { e with powerDue := true }

/-- The calibration ends with the powers found. -/
def Block.endFound (b : Block) (s : Fin 4) (c : CalRun) : Block :=
  (((b.wpVerdict s 0 0 c.band).noteCheck s c).endAwait s).calEnd s 0 ((List.range 16).map c.power)

theorem Block.powerFound_eq (b : Block) (s : Fin 4) (c : CalRun) :
    b.powerFound s c = ((b.powersDue s c).raiseSurf s 25).endFound s c := by
  have hset : (((List.range 16).map c.power).zipIdx).foldl (fun d e =>
      if (b.failedBeams s).contains e.2 then d else d.setPower s e.2 e.1) b =
      b.setPowers s (b.failedBeams s) c.power 16 := by
    rw [zipIdx_map_range, List.foldl_map]
    rfl
  rw [Block.powersDue, ← hset]
  rfl

theorem Block.regsOnly.noteCheck {l : List Nat} {a b : Block} (h : Block.regsOnly l a b) (s : Fin 4) (c : CalRun) :
    Block.regsOnly l a (b.noteCheck s c) := h.same

theorem Block.noteCheck_frame (b : Block) (s : Fin 4) (c : CalRun) : Frame [.cal] b (b.noteCheck s c) :=
  frame_modCalSurf .refl s _ (List.Subset.refl _)

theorem Block.endAwait_frame (b : Block) (s : Fin 4) : Frame [.pw] b (b.endAwait s) :=
  frame_endAwait .refl s (List.Subset.refl _)

/-- Block `t` is `b` with a calibration ended that found the powers of a band: calm work besides, and no beam's power. -/
structure Block.FoundEnded (b t : Block) (s : Fin 4) (band : Nat) : Prop where
  calm : Calm b t
  run : (vget t.cal.surf s).run = none
  result : t.fld (CAL_Ss_WP_RESULT s) = 0
  badRun : t.fld (CAL_Ss_WP_BADRUN s) = 0
  band : t.fld (CAL_Ss_WP_BAND s) = band % 2 ^ 16
  await : s.val ∉ t.pw.await
  se : t.se = b.se
  power : ∀ k, t.rd (SEs_BPWR_b s k) = b.rd (SEs_BPWR_b s k)

theorem Block.endFound_ends (b : Block) (s : Fin 4) (c : CalRun) : b.FoundEnded (b.endFound s c) s c.band := by
  let v := b.wpVerdict s 0 0 c.band
  let e := (v.noteCheck s c).endAwait s
  let t := e.calEnd s 0 ((List.range 16).map c.power)
  have ht : Frame [.regs, .irq, .cal, .ml, .out] e t := e.calEnd_frame s 0 _
  have hvt : Block.regsOnly [CAL_STAT] v t :=
    Block.regsOnly_trans (((Block.regsOnly_refl _ v).noteCheck s c).endAwait s) (e.calEnd_regsOnly s 0 _)
  have hstat : ∀ {o}, o ∉ [CAL_STAT, CAL_CNT] → o ∉ [CAL_STAT] := mt (List.mem_append_left [CAL_CNT])
  have hfld : ∀ g : Fld, g.reg = CAL_Ss_WP s → t.fld g = v.fld g := fun g hg =>
    Block.fld_of_rd (hg ▸ hvt _ (hstat (calWp_not_mem s)) (irqReg_calWp s))
  have hnote : Calm v e := (Calm.refl.modCalSurf s _).trans (Block.endAwait_calm _ s)
  exact {
    calm := ((b.wpVerdict_calm s 0 0 c.band).trans hnote).calEnd s 0 _
    run := e.calEnd_run s 0 _
    result := (hfld (CAL_Ss_WP_RESULT s) rfl).trans (b.wpVerdict_result s 0 0 c.band)
    badRun := (hfld (CAL_Ss_WP_BADRUN s) rfl).trans (b.wpVerdict_badRun s 0 0 c.band)
    band := (hfld (CAL_Ss_WP_BAND s) rfl).trans (b.wpVerdict_band s 0 0 c.band)
    await := by
      have hpw : (b.endFound s c).pw = e.pw := ht.same .pw (by decide)
      rw [hpw]
      exact fun h => by simpa using (List.mem_filter.mp h).2
    se := calc t.se = e.se := ht.same .se (by decide)
      _ = (v.noteCheck s c).se := (Block.endAwait_frame _ s).same .se (by decide)
      _ = v.se := (v.noteCheck_frame s c).same .se (by decide)
    power := fun k => calc t.rd (SEs_BPWR_b s k)
      _ = v.rd (SEs_BPWR_b s k) := hvt _ (hstat (bpwr_not_mem s k)) (irqReg_bpwr s k)
      _ = b.rd (SEs_BPWR_b s k) :=
          b.wpVerdict_regsOnly s 0 0 c.band _ (mt List.mem_singleton.mp (bpwr_ne_calWp s k)) (irqReg_bpwr s k) }

/-- Block `t` is `b` after a write-power calibration of the surface that found the powers `power` in a band. -/
def Block.PowersFound (b t : Block) (s : Fin 4) (band : Nat) (power : Nat → Nat) : Prop :=
  (vget t.cal.surf s).run = none ∧ t.raised (1024 + 40 * s.val + 25) = true ∧
    t.fld (CAL_Ss_WP_RESULT s) = 0 ∧ t.fld (CAL_Ss_WP_BADRUN s) = 0 ∧ t.fld (CAL_Ss_WP_BAND s) = band % 2 ^ 16 ∧
    (vget t.se s).powerDue = true ∧ s.val ∉ t.pw.await ∧ ∀ k, k < 16 →
      (k ∈ b.failedBeams s → t.rd (SEs_BPWR_b s k) = b.rd (SEs_BPWR_b s k)) ∧
      (k ∉ b.failedBeams s → t.fld (SEs_BPWR_b_PEAK s k) = power k % 2 ^ 16 ∧ t.fld (SEs_BPWR_b_BIAS s k) =
        (if b.fld (SEs_BPWR_b_PEAK s k) = 0 then b.fld (SEs_BPWR_b_BIAS s k)
         else b.fld (SEs_BPWR_b_BIAS s k) * power k / b.fld (SEs_BPWR_b_PEAK s k)) % 2 ^ 16)

theorem Block.powerFound_finds {b : Block} {s : Fin 4} (hs : b.part.hasSurf s = true) (c : CalRun) :
    b.PowersFound (b.powerFound s c) s c.band c.power := by
  let p := b.setPowers s (b.failedBeams s) c.power 16
  let d := b.powersDue s c
  have hpart : d.part.hasSurf s = true := (b.setPowers_frame s _ c.power 16).same .part (by decide) ▸ hs
  have hend := (d.raiseSurf s 25).endFound_ends s c
  rw [← Block.powerFound_eq] at hend
  have hse : (b.powerFound s c).se = d.se := hend.se.trans ((d.raise_frame _).same .se (by decide))
  have hpower : ∀ k, (b.powerFound s c).rd (SEs_BPWR_b s k) = p.rd (SEs_BPWR_b s k) := fun k =>
    (hend.power k).trans (Block.raise_rd d _ (irqReg_bpwr s k))
  refine ⟨hend.run, hend.calm.raised _ (Block.raiseSurf_raises hpart (by decide)), hend.result, hend.badRun, hend.band,
    ?_, hend.await, fun k hk =>
      ⟨fun hf => (hpower k).trans (b.setPowers_rd_same s _ c.power (.inr hf)), fun hf => ?_⟩⟩
  · rw [hse]
    exact congrArg Se.powerDue (vget_vset_same ..)
  · have hfound := b.setPowers_found s _ c.power hk hf
    exact ⟨(Block.fld_of_rd (g := SEs_BPWR_b_PEAK s k) (hpower k)).trans hfound.1,
      (Block.fld_of_rd (g := SEs_BPWR_b_BIAS s k) (hpower k)).trans hfound.2⟩

/-! ### Test units (R77, R78) -/

/-- A unit of the surface test area is used. -/
def Block.useArea (b : Block) (s : Fin 4) : Block := b.modCalSurf s fun c => { c with areaUsed := c.areaUsed + 1 }

/-- A unit of swath 368 of a band is used. -/
def Block.useBand (b : Block) (s : Fin 4) (band : Nat) : Block :=
  b.modCalSurf s fun c => { c with testUsed := c.testUsed.set band (c.testUsed.get band 0 + 1) 0 }

/-- A unit is left where the calibration looks first: the surface test area (log entry 42), or swath 368 of its band. -/
def Block.unitFor (b : Block) (s : Fin 4) (c : CalRun) : Prop :=
  if c.area = true ∧ (vget b.cal.surf s).areaUsed < 480 then True else c.area = false ∧ b.unitsLeft s c.band = true

/-- Block `t` has used one unit there since `b`. -/
def Block.UnitUsed (b t : Block) (s : Fin 4) (c : CalRun) : Prop :=
  if c.area = true then (vget t.cal.surf s).areaUsed = (vget b.cal.surf s).areaUsed + 1 ∧
    (vget t.cal.surf s).testUsed = (vget b.cal.surf s).testUsed
  else (vget t.cal.surf s).testUsed.get c.band 0 = (vget b.cal.surf s).testUsed.get c.band 0 + 1 ∧
    (vget t.cal.surf s).areaUsed = (vget b.cal.surf s).areaUsed

/-- Block `t` has calibration `c` on the surface where `b` had what it had; passes and units are as in `b`. -/
structure Block.RunTo (b t : Block) (s : Fin 4) (c : CalRun) : Prop where
  wp : t.wp = b.wp
  surf : vget t.cal.surf s = { vget b.cal.surf s with run := some c }

namespace Block.RunTo

variable {b t : Block} {s : Fin 4} {c : CalRun}

theorem run (h : b.RunTo t s c) : (vget t.cal.surf s).run = some c := congrArg CalSurf.run h.surf

theorem unitsLeft (h : b.RunTo t s c) (band : Nat) : t.unitsLeft s band = b.unitsLeft s band := by
  simp only [Block.unitsLeft, Block.swathTaken, h.wp, h.surf]

theorem unitFor (h : b.RunTo t s c) : b.unitFor s c → t.unitFor s c := by
  simp only [Block.unitFor, h.unitsLeft, h.surf, imp_self]

theorem unitUsed (h : b.RunTo t s c) {v : Block} : t.UnitUsed v s c → b.UnitUsed v s c := by
  simp only [Block.UnitUsed, h.surf, imp_self]

end Block.RunTo

theorem Block.testUnit_area {b : Block} {s : Fin 4} (h : (vget b.cal.surf s).areaUsed < 480) (band : Nat) :
    b.testUnit s band true = some (b.useArea s) := by
  unfold Block.testUnit
  simp only [h, decide_true, Bool.and_self, if_true]
  rfl

theorem Block.testUnit_band {b : Block} {s : Fin 4} {band : Nat} (h : b.unitsLeft s band = true) :
    b.testUnit s band false = some (b.useBand s band) := by
  have hfind : (nearBands band).find? (fun k => b.unitsLeft s k) = some band := List.find?_cons_of_pos h
  unfold Block.testUnit
  simp only [Bool.false_and, Bool.false_eq_true, if_false, hfind]
  rfl

theorem Block.testUnit_none {b : Block} {s : Fin 4} {band : Nat} {area : Bool} (ha : 480 ≤ (vget b.cal.surf s).areaUsed)
    (h : ∀ k ∈ nearBands (if area then bandId s 0 0 else band), b.unitsLeft s k = false) :
    b.testUnit s band area = none := by
  have hfind : (nearBands (if area then bandId s 0 0 else band)).find? (fun k => b.unitsLeft s k) = none :=
    List.find?_eq_none.mpr fun k hk => by simp [h k hk]
  unfold Block.testUnit
  simp only [Nat.not_lt.mpr ha, decide_false, Bool.and_false, Bool.false_eq_true, if_false, hfind]

/-- The unit that a calibration takes where it looks first. -/
theorem Block.testUnit_takes {b : Block} {s : Fin 4} {c : CalRun} (h : b.unitFor s c) :
    ∃ t, b.testUnit s c.band c.area = some t ∧ b.UnitUsed t s c ∧ Frame [.cal] b t ∧
      (vget t.cal.surf s).run = (vget b.cal.surf s).run := by
  unfold Block.unitFor at h
  unfold Block.UnitUsed
  split at h
  · next ha =>
    obtain ⟨harea, hleft⟩ := ha
    rw [harea]
    refine ⟨_, Block.testUnit_area hleft c.band, ?_, frame_modCalSurf .refl s _ (List.Subset.refl _), ?_⟩
    · rw [if_pos rfl, Block.useArea, Block.vget_modCalSurf_same]
      exact ⟨rfl, rfl⟩
    · rw [Block.useArea, Block.vget_modCalSurf_same]
  · obtain ⟨harea, hleft⟩ := h
    rw [harea]
    refine ⟨_, Block.testUnit_band hleft, ?_, frame_modCalSurf .refl s _ (List.Subset.refl _), ?_⟩
    · rw [if_neg (by decide), Block.useBand, Block.vget_modCalSurf_same]
      dsimp only
      exact ⟨SMap.get_set_same .., rfl⟩
    · rw [Block.useBand, Block.vget_modCalSurf_same]

/-! ### A unit is written (R473, step 2) -/

/-- PEAK of beam `k` in the unit that the calibration writes next. -/
def CalRun.testPeak (c : CalRun) (k : Nat) : Nat :=
  if c.step ≠ 0 && c.failing.contains k then sweepPower (c.peak0.getD k 0) ((c.step - 1) % 8) else c.peak0.getD k 0

/-- Block `t` is `b` after calibration `c` of the surface has written a unit: nothing but the unit and the frame. -/
structure Block.UnitWritten (b t : Block) (s : Fin 4) (c : CalRun) : Prop where
  used : b.UnitUsed t s c
  run : (vget t.cal.surf s).run = some c
  frame : Frame [.cal, .out] b t
  power : b.on (SEs_STAT_LINK_UP s) = true → ∃ mode l, OutMsg.sedge s (.power mode l) ∈ t.out ∧ ∀ k, k < 16 →
    (l.getD k (0, 0, 0)).1 = min (c.testPeak k) (b.fld (SEs_MAXPWR_MAXPWR s))

theorem Block.UnitWritten.rd {b t : Block} {s : Fin 4} {c : CalRun} (h : b.UnitWritten t s c) (o : Nat) :
    t.rd o = b.rd o := Block.rd_congr (h.frame.same .part (by decide)) (h.frame.same .regs (by decide)) o

theorem Block.testPowers_frame (b : Block) (s : Fin 4) (c : CalRun) : Frame [.out] b (b.testPowers s c) :=
  frame_testPowers .refl s c (List.Subset.refl _)

theorem Block.testPowers_sends {b : Block} {s : Fin 4} (h : b.on (SEs_STAT_LINK_UP s) = true) (c : CalRun) :
    ∃ mode l, OutMsg.sedge s (.power mode l) ∈ (b.testPowers s c).out ∧ ∀ k, k < 16 →
      (l.getD k (0, 0, 0)).1 = min (c.testPeak k) (b.fld (SEs_MAXPWR_MAXPWR s)) := by
  let level := fun (k : Nat) => (min (c.testPeak k) (b.fld (SEs_MAXPWR_MAXPWR s)), b.fld (SEs_BPWR_b_BIAS s k),
    b.fld (SEs_BRD_b_READ s k))
  refine ⟨if b.fld (SEs_MAXPWR_MAXPWR s) = 0 then 1 else 2, (List.range 16).map level, ?_, fun k hk => ?_⟩
  · unfold Block.testPowers Block.sedge
    rw [if_pos h]
    exact List.mem_append_right _ List.mem_cons_self
  · rw [List.getD_eq_getElem _ _ (by simpa using hk), List.getElem_map, List.getElem_range]

theorem Block.nextUnit_writes {b : Block} {s : Fin 4} {c : CalRun} (hr : (vget b.cal.surf s).run = some c)
    (h : b.unitFor s c) : b.UnitWritten (b.nextUnit s) s c := by
  obtain ⟨t, ht, hused, hframe, hrun⟩ := Block.testUnit_takes h
  have hnext : b.nextUnit s = t.testPowers s c := by
    unfold Block.nextUnit
    rw [hr]
    dsimp only
    rw [ht]
  have hcal : (t.testPowers s c).cal = t.cal := (t.testPowers_frame s c).same .cal (by decide)
  have hrd : ∀ o, t.rd o = b.rd o := Block.rd_congr (hframe.same .part (by decide)) (hframe.same .regs (by decide))
  rw [hnext]
  exact {
    used := by
      unfold Block.UnitUsed at hused ⊢
      rw [hcal]
      exact hused
    run := by rw [hcal, hrun, hr]
    frame := (Frame.refl.step (l := [.cal, .out]) (by decide) hframe).step (by decide) (t.testPowers_frame s c)
    power := fun hl => by
      rw [← Block.fld_of_rd (g := SEs_MAXPWR_MAXPWR s) (hrd _)]
      exact Block.testPowers_sends ((Block.on_of_rd (hrd _)).trans hl) c }

/-- Without a unit the calibration is bad, with event 35. -/
theorem Block.nextUnit_fails {b : Block} {s : Fin 4} {c : CalRun} (hr : (vget b.cal.surf s).run = some c)
    (h : b.testUnit s c.band c.area = none) : b.nextUnit s = (b.raiseSurf s 35).calBad s [] := by
  unfold Block.nextUnit
  rw [hr]
  dsimp only
  rw [h]

/-! ### The start (R468, R473) -/

/-- A write-power calibration starts, where it may. -/
def Block.calPowerStart (b : Block) (s : Fin 4) (area bg : Bool) : Block :=
  match (vget b.cal.surf s).desc with
  | some d =>
    if b.calMay s 3 bg && b.store.vol.vstate ≠ 0 && (!bg || b.drifted s) then
      (b.calBegin s 3 (b.bandNow s) (area || bg) ((List.range 16).map (b.startPower s d (b.bandNow s)))).nextUnit s
    else b
  | none => b

theorem exec_calWritePower_start (s : Fin 4) (area bg : Bool) (st : State) :
    exec (.calWritePower s area bg none) st = st.upd fun b => b.onSurf s fun b => b.calPowerStart s area bg := rfl

theorem exec_calWritePower_errs (s : Fin 4) (area bg : Bool) (errs : Vector (BitVec 16) 16) (st : State) :
    exec (.calWritePower s area bg (some errs)) st =
      st.upd fun b => b.onSurf s fun b => (b.calPowerStart s area bg).judgeUnit s errs := rfl

theorem Block.onSurf_present {b : Block} {s : Fin 4} (h : b.part.hasSurf s = true) (f : Block → Block) :
    b.onSurf s f = f b := if_pos h

theorem Block.onSurf_same {b : Block} {s : Fin 4} {f : Block → Block} (h : f b = b) : b.onSurf s f = b := by
  unfold Block.onSurf
  rw [h, ite_self]

theorem Block.calMay_busy {b : Block} {s : Fin 4} {c : CalRun} (h : (vget b.cal.surf s).run = some c) (k : Nat)
    (bg : Bool) : b.calMay s k bg = false := by
  simp [Block.calMay, h]

theorem Block.calMay_off {b : Block} {s : Fin 4} {k : Nat} (h : b.onBit CAL_CTL_AUTO k = false) (bg : Bool) :
    b.calMay s k bg = false := by
  simp [Block.calMay, h]

theorem Block.calPowerStart_not {b : Block} {s : Fin 4} {area bg : Bool}
    (h : b.calMay s 3 bg = false ∨ (vget b.cal.surf s).desc = none) : b.calPowerStart s area bg = b := by
  unfold Block.calPowerStart
  split
  · next d hd =>
    have hm : b.calMay s 3 bg = false := h.resolve_right (by simp [hd])
    rw [hm, Bool.false_and, Bool.false_and, if_neg Bool.false_ne_true]
  · rfl

theorem exec_calWritePower_idle {s : State} {u : Fin 4} {area bg : Bool}
    (h : s.calMay u 3 bg = false ∨ (vget s.cal.surf u).desc = none) :
    exec (.calWritePower u area bg none) s = .next s :=
  (exec_calWritePower_start u area bg s).trans (State.upd_same (Block.onSurf_same (Block.calPowerStart_not h)))

/-- What runs when a write-power calibration starts in the current band. -/
def Block.powerRun (b : Block) (s : Fin 4) (d : Descriptor) : CalRun :=
  { kind := 3, band := b.bandNow s, start := b.now, step := 0
    peak0 := (List.range 16).map (b.startPower s d (b.bandNow s)), failing := [], passed := [], retries := 0
    area := false, tmo := b.fld (CAL_TMO_k_TMO 3), maxerr := b.fld CAL_WP_MAXERR }

/-- The calibration that starts runs, with its surface busy. -/
def Block.powerBegun (b : Block) (s : Fin 4) (d : Descriptor) : Block :=
  ((b.modCalSurf s fun c => { c with run := some (b.powerRun s d) }).putBit CAL_STAT_BUSY s.val true).calKind

theorem Block.calBegin_power (b : Block) (s : Fin 4) (d : Descriptor) :
    b.calBegin s 3 (b.bandNow s) false ((List.range 16).map (b.startPower s d (b.bandNow s))) = b.powerBegun s d := rfl

theorem Block.powerBegun_runTo (b : Block) (s : Fin 4) (d : Descriptor) :
    b.RunTo (b.powerBegun s d) s (b.powerRun s d) := ⟨rfl, b.vget_modCalSurf_same s _⟩

theorem Block.powerBegun_busy (b : Block) (s : Fin 4) (d : Descriptor) :
    (b.powerBegun s d).onBit CAL_STAT_BUSY s = true := by
  let c := b.modCalSurf s fun c => { c with run := some (b.powerRun s d) }
  have hkind : (b.powerBegun s d).fld CAL_STAT_BUSY = (c.putBit CAL_STAT_BUSY s.val true).fld CAL_STAT_BUSY :=
    Block.fld_setFld_apart _ _ _ rfl _
  have hput := c.onBit_putBit (f := CAL_STAT_BUSY) rfl (i := s.val) (k := s.val) s.isLt
  unfold Block.onBit at hput ⊢
  rw [hkind, hput, decide_eq_true rfl, Bool.true_or]

theorem Block.powerBegun_regsOnly (b : Block) (s : Fin 4) (d : Descriptor) :
    Block.regsOnly [CAL_STAT] b (b.powerBegun s d) :=
  have h : Block.regsOnly [CAL_STAT] b (b.modCalSurf s fun c => { c with run := some (b.powerRun s d) }) :=
    (Block.regsOnly_refl _ b).same
  (h.busy s true).calKind

/-- The start of a write-power calibration in the foreground: one unit of the current band is written. -/
theorem does_calWritePower_starts {s : State} {u : Fin 4} {d : Descriptor} (hs : s.part.hasSurf u = true)
    (hr : (vget s.cal.surf u).run = none) (hauto : s.onBit CAL_CTL_AUTO 3 = true) (hdyke : s.pw.dyke = none)
    (hpass : (vget s.wp u).running = none) (hsafe : s.on (SEs_LSAFE_SAFE u) = false)
    (hd : (vget s.cal.surf u).desc = some d) (hvol : s.store.vol.vstate ≠ 0)
    (hunit : s.unitsLeft u (s.bandNow u) = true) :
    Does (.calWritePower u false false none) s fun v => v.onBit CAL_STAT_BUSY u = true ∧
      (∃ r, (vget v.cal.surf u).run = some r ∧ r.kind = 3 ∧ r.band = s.bandNow u ∧ r.step = 0 ∧ r.start = s.now ∧
        r.area = false ∧ r.peak0 = (List.range 16).map (s.startPower u d (s.bandNow u))) ∧
      (vget v.cal.surf u).testUsed.get (s.bandNow u) 0 = (vget s.cal.surf u).testUsed.get (s.bandNow u) 0 + 1 ∧
      Block.regsOnly [CAL_STAT] s.toBlock v.toBlock ∧ v.irq = s.irq := by
  let b := s.powerBegun u d
  let r := s.powerRun u d
  have hmay : s.calMay u 3 false = true := by simp [Block.calMay, Block.inPass, hr, hauto, hdyke, hpass, hsafe]
  have hstart : s.calPowerStart u false false = b.nextUnit u := by
    unfold Block.calPowerStart
    rw [hd]
    dsimp only
    rw [hmay, if_pos (by simp [hvol])]
    rfl
  have hto : s.RunTo b u r := s.powerBegun_runTo u d
  have hfor : s.unitFor u r := by
    unfold Block.unitFor
    rw [if_neg fun h => Bool.false_ne_true h.1]
    exact ⟨rfl, hunit⟩
  have hw := Block.nextUnit_writes hto.run (hto.unitFor hfor)
  have hused := hto.unitUsed hw.used
  unfold Block.UnitUsed at hused
  rw [if_neg (show ¬ r.area = true from Bool.false_ne_true)] at hused
  refine does_upd (exec_calWritePower_start u false false s) ?_
  rw [Block.onSurf_present hs, hstart]
  refine ⟨?_, ⟨r, hw.run, rfl, rfl, rfl, rfl, rfl, rfl⟩, hused.1, (s.powerBegun_regsOnly u d).frame hw.frame,
    hw.frame.same .irq (by decide)⟩
  have hbusy : b.onBit CAL_STAT_BUSY u = true := s.powerBegun_busy u d
  unfold Block.onBit at hbusy ⊢
  exact (congrArg (·.testBit u.val) (Block.fld_of_rd (hw.rd _))).trans hbusy

/-! ### The judgement of a unit (R473, steps 2 to 4) -/

/-- The beam's errors in the unit do not exceed MAXERR. -/
abbrev CalRun.passes (c : CalRun) (errs : Vector (BitVec 16) 16) (k : Nat) : Prop :=
  (vget errs (Fin.ofNat 16 k)).toNat ≤ c.maxerr

/-- The beams that fail the check; failed beams are not judged. -/
def Block.unitFails (b : Block) (s : Fin 4) (c : CalRun) (errs : Vector (BitVec 16) 16) : List Nat :=
  (List.range 16).filter fun k => ¬ c.passes errs k ∧ k ∉ b.failedBeams s

/-- What has passed after a unit of the sweep. -/
def CalRun.passedNow (c : CalRun) (errs : Vector (BitVec 16) 16) : List (Nat × Nat) :=
  c.passed ++ (c.failing.filter fun k => c.passes errs k).map fun k => (k, (c.step - 1) % 8)

/-- The beams of which no unit has passed. -/
def CalRun.leftNow (c : CalRun) (errs : Vector (BitVec 16) 16) : List Nat :=
  c.failing.filter fun k => ¬ ∃ e ∈ c.passedNow errs, e.1 = k

/-- The calibration with what has passed after a unit of the sweep. -/
def CalRun.judged (c : CalRun) (errs : Vector (BitVec 16) 16) : CalRun := { c with passed := c.passedNow errs }

/-- Write-power calibration `c` runs on a surface that the part has. -/
def Block.PowerRuns (b : Block) (s : Fin 4) (c : CalRun) : Prop :=
  b.part.hasSurf s = true ∧ (vget b.cal.surf s).run = some c ∧ c.kind = 3

namespace Block.PowerRuns

variable {b : Block} {s : Fin 4} {c : CalRun}

theorem surf (h : b.PowerRuns s c) : b.part.hasSurf s = true := h.1

theorem run (h : b.PowerRuns s c) : (vget b.cal.surf s).run = some c := h.2.1

theorem kind (h : b.PowerRuns s c) : c.kind = 3 := h.2.2

end Block.PowerRuns

theorem Block.modRun_runTo {b : Block} {s : Fin 4} {c : CalRun} (h : (vget b.cal.surf s).run = some c)
    (f : CalRun → CalRun) : b.RunTo (b.modRun s f) s (f c) := by
  refine ⟨rfl, ?_⟩
  rw [Block.modRun, Block.vget_modCalSurf_same, h, Option.map_some]

/-- The sweep that starts, or starts again, is counted. -/
theorem Block.bump_sweeps {b : Block} (h : b.fld CAL_CNT_SWEEPS < 255) :
    (b.bump CAL_CNT_SWEEPS 1).fld CAL_CNT_SWEEPS = b.fld CAL_CNT_SWEEPS + 1 :=
  (Block.fld_bump_same b _ rfl 1).trans (Nat.min_eq_left (show b.fld CAL_CNT_SWEEPS + 1 ≤ 255 by omega))

/-- The sweep that follows a failed check, before its first unit. -/
def Block.sweepBegun (b : Block) (s : Fin 4) (fails : List Nat) : Block :=
  ((b.modRun s fun c => { c with step := 1, failing := fails }).bump CAL_CNT_SWEEPS 1).raiseSurf s 24

theorem Block.sweepBegun_runTo {b : Block} {s : Fin 4} {c : CalRun} (h : (vget b.cal.surf s).run = some c)
    (fails : List Nat) : b.RunTo (b.sweepBegun s fails) s { c with step := 1, failing := fails } := by
  let d := (b.modRun s fun c => { c with step := 1, failing := fails }).bump CAL_CNT_SWEEPS 1
  have hto := Block.modRun_runTo h fun c => { c with step := 1, failing := fails }
  have hcal : (b.sweepBegun s fails).cal = d.cal := d.raise_cal _
  exact ⟨(d.raise_frame _).same .wp (by decide), (congrArg (fun x => vget x.surf s) hcal).trans hto.surf⟩

theorem Block.sweepBegun_regsOnly (b : Block) (s : Fin 4) (fails : List Nat) :
    Block.regsOnly [CAL_CNT] b (b.sweepBegun s fails) := by
  have hrun : Block.regsOnly [CAL_CNT] b (b.modRun s fun c => { c with step := 1, failing := fails }) :=
    (Block.regsOnly_refl _ b).same
  exact (hrun.setFld (f := CAL_CNT_SWEEPS) List.mem_cons_self _).raiseSurf s 24

theorem Block.sweepBegun_calm (b : Block) (s : Fin 4) (fails : List Nat) : Calm b (b.sweepBegun s fails) :=
  ((Calm.refl.modCalSurf s _).bump CAL_CNT_SWEEPS 1).raiseSurf s 24

theorem Block.sweepBegun_raises {b : Block} {s : Fin 4} (hs : b.part.hasSurf s = true) (fails : List Nat) :
    (b.sweepBegun s fails).raised (1024 + 40 * s.val + 24) = true := by
  let d := (b.modRun s fun c => { c with step := 1, failing := fails }).bump CAL_CNT_SWEEPS 1
  have hd : d.part.hasSurf s = true := hs
  exact Block.raiseSurf_raises (b := d) hd (by decide)

theorem Block.sweepBegun_sweeps {b : Block} (s : Fin 4) (fails : List Nat) (h : b.fld CAL_CNT_SWEEPS < 255) :
    (b.sweepBegun s fails).fld CAL_CNT_SWEEPS = b.fld CAL_CNT_SWEEPS + 1 :=
  (Block.raise_fld _ _ rfl).trans
    (Block.bump_sweeps (b := b.modRun s fun c => { c with step := 1, failing := fails }) h)

section judgeUnit

variable {b : Block} {s : Fin 4} {c : CalRun} (h : b.PowerRuns s c) (errs : Vector (BitVec 16) 16)

include h

theorem Block.calRun_power : b.calRun s 3 = some c := by
  simp [Block.calRun, h.run, h.kind]

theorem Block.judgeUnit_check (h0 : c.step = 0) : b.judgeUnit s errs =
    if (b.unitFails s c errs).isEmpty then b.powerFound s c else (b.sweepBegun s (b.unitFails s c errs)).nextUnit s := by
  have hfails : (List.range 16).filter (fun k => !decide (c.passes errs k) && !(b.failedBeams s).contains k) =
      b.unitFails s c errs := by
    refine List.filter_congr fun k _ => ?_
    rw [Bool.eq_iff_iff]
    simp
  unfold Block.judgeUnit
  rw [Block.calRun_power h]
  dsimp only
  rw [if_pos h0, hfails]
  rfl

theorem Block.judgeUnit_sweep (h0 : c.step ≠ 0) : b.judgeUnit s errs =
    if (c.step - 1) % 8 < 7 then (b.modRun s fun _ => { c.judged errs with step := c.step + 1 }).nextUnit s
    else if (c.leftNow errs).isEmpty then (b.modRun s fun _ => c.judged errs).powerFound s (c.judged errs)
    else if c.step = 8 then
      ((b.modRun s fun _ => { c.judged errs with step := 9, failing := c.leftNow errs, retries := 1 }).bump
        CAL_CNT_SWEEPS 1).nextUnit s
    else (b.modRun s fun _ => c.judged errs).calBad s [] := by
  have hleft : c.failing.filter (fun k => !(c.passedNow errs).any fun e => e.1 = k) = c.leftNow errs := by
    refine List.filter_congr fun k _ => ?_
    rw [Bool.eq_iff_iff]
    simp only [Bool.not_eq_true', List.any_eq_false, decide_eq_true_eq, not_exists, not_and]
  unfold Block.judgeUnit
  rw [Block.calRun_power h]
  dsimp only
  rw [if_neg h0, ← hleft]
  rfl

end judgeUnit

/-! ### The judgement as a command -/

section does

variable {s : State} {u : Fin 4} {c : CalRun} (h : s.PowerRuns u c) (area bg : Bool) (errs : Vector (BitVec 16) 16)

include h

theorem does_judgeUnit {P : State → Prop} (hP : P { s with toBlock := s.judgeUnit u errs }) :
    Does (.calWritePower u area bg (some errs)) s P := by
  refine does_upd (exec_calWritePower_errs u area bg errs s) ?_
  rw [Block.onSurf_present h.surf, Block.calPowerStart_not (.inl (Block.calMay_busy h.run 3 bg))]
  exact hP

/-- The check passes: the powers are the start powers. -/
theorem does_check_passes (h0 : c.step = 0) (hf : s.unitFails u c errs = []) (hp : c.passed = []) :
    Does (.calWritePower u area bg (some errs)) s fun v =>
      s.PowersFound v.toBlock u c.band fun k => c.peak0.getD k 0 := by
  have hpower : c.power = fun k => c.peak0.getD k 0 := funext fun k => by simp [CalRun.power, sweptSteps, hp]
  refine does_judgeUnit h area bg errs ?_
  rw [Block.judgeUnit_check h errs h0, hf, List.isEmpty_nil, if_pos rfl, ← hpower]
  exact Block.powerFound_finds h.surf c

/-- The check fails: a sweep begins with its first unit, the failing beams at 0.80 of their start powers. -/
theorem does_check_sweeps (h0 : c.step = 0) (hf : s.unitFails u c errs ≠ []) (hunit : s.unitFor u c) :
    Does (.calWritePower u area bg (some errs)) s fun v =>
      s.UnitUsed v.toBlock u c ∧ v.raised (1024 + 40 * u.val + 24) = true ∧
      (vget v.cal.surf u).run = some { c with step := 1, failing := s.unitFails u c errs } ∧
      (s.fld CAL_CNT_SWEEPS < 255 → v.fld CAL_CNT_SWEEPS = s.fld CAL_CNT_SWEEPS + 1) ∧
      (s.on (SEs_STAT_LINK_UP u) = true → ∃ mode l, OutMsg.sedge u (.power mode l) ∈ v.out ∧ ∀ k, k < 16 →
        (l.getD k (0, 0, 0)).1 =
          min (if k ∈ s.unitFails u c errs then c.peak0.getD k 0 * 16 / 20 else c.peak0.getD k 0)
            (s.fld (SEs_MAXPWR_MAXPWR u))) := by
  let fails := s.unitFails u c errs
  let b := s.sweepBegun u fails
  have hto : s.RunTo b u { c with step := 1, failing := fails } := Block.sweepBegun_runTo h.run fails
  have hw := Block.nextUnit_writes hto.run (hto.unitFor hunit)
  have hregs : Block.regsOnly [CAL_CNT] s.toBlock b := s.sweepBegun_regsOnly u fails
  have hraised : (b.nextUnit u).raised (1024 + 40 * u.val + 24) = true := by
    unfold Block.raised
    rw [hw.frame.same .irq (by decide)]
    exact Block.sweepBegun_raises h.surf fails
  refine does_judgeUnit h area bg errs ?_
  rw [Block.judgeUnit_check h errs h0, if_neg (by simpa using hf)]
  refine ⟨hto.unitUsed hw.used, hraised, hw.run,
    fun hn => (Block.fld_of_rd (hw.rd _)).trans (Block.sweepBegun_sweeps u fails hn), fun hl => ?_⟩
  have hmax : b.fld (SEs_MAXPWR_MAXPWR u) = s.fld (SEs_MAXPWR_MAXPWR u) :=
    Block.fld_of_rd (hregs _ (seMaxPwr_not_mem u) (irqReg_maxPwr u))
  obtain ⟨mode, l, hmem, hl⟩ := hw.power ((Block.on_of_rd (hregs _ (seStat_not_mem u) (irqReg_seStat u))).trans hl)
  refine ⟨mode, l, hmem, fun k hk => ?_⟩
  rw [hl k hk, hmax]
  simp [CalRun.testPeak, sweepPower, fails]

/-- A unit before the last of a sweep: the next is written, and nothing else changes. -/
theorem does_sweep_goes_on (h0 : c.step ≠ 0) (hm : (c.step - 1) % 8 < 7) (hunit : s.unitFor u c) :
    Does (.calWritePower u area bg (some errs)) s fun v =>
      s.UnitUsed v.toBlock u c ∧ v.irq = s.irq ∧ v.regs = s.regs ∧
      (vget v.cal.surf u).run = some { c with step := c.step + 1, passed := c.passedNow errs } := by
  have hto := Block.modRun_runTo h.run fun _ => { c.judged errs with step := c.step + 1 }
  have hw := Block.nextUnit_writes hto.run (hto.unitFor hunit)
  refine does_judgeUnit h area bg errs ?_
  rw [Block.judgeUnit_sweep h errs h0, if_pos hm]
  exact ⟨hto.unitUsed hw.used, hw.frame.same .irq (by decide), hw.frame.same .regs (by decide), hw.run⟩

/-- After the sweep's last unit, every failing beam has passed one: the powers are found. -/
theorem does_sweep_finds (h0 : c.step ≠ 0) (hm : (c.step - 1) % 8 = 7) (hleft : c.leftNow errs = []) :
    Does (.calWritePower u area bg (some errs)) s fun v => s.PowersFound v.toBlock u c.band (c.judged errs).power := by
  refine does_judgeUnit h area bg errs ?_
  rw [Block.judgeUnit_sweep h errs h0, if_neg (by omega), hleft, List.isEmpty_nil, if_pos rfl]
  exact Block.powerFound_finds (b := s.modRun u fun _ => c.judged errs) h.surf (c.judged errs)

/-- After the first sweep, the beams without a passing unit are swept once more. -/
theorem does_sweep_repeats (h8 : c.step = 8) (hleft : c.leftNow errs ≠ []) (hunit : s.unitFor u c) :
    Does (.calWritePower u area bg (some errs)) s fun v =>
      s.UnitUsed v.toBlock u c ∧ (vget v.cal.surf u).run =
        some { c with step := 9, failing := c.leftNow errs, passed := c.passedNow errs, retries := 1 } ∧
      (s.fld CAL_CNT_SWEEPS < 255 → v.fld CAL_CNT_SWEEPS = s.fld CAL_CNT_SWEEPS + 1) := by
  let next : CalRun := { c.judged errs with step := 9, failing := c.leftNow errs, retries := 1 }
  let b := s.modRun u fun _ => next
  have hrun := Block.modRun_runTo h.run fun _ => next
  have hto : s.RunTo (b.bump CAL_CNT_SWEEPS 1) u next := ⟨hrun.wp, hrun.surf⟩
  have hw := Block.nextUnit_writes hto.run (hto.unitFor hunit)
  refine does_judgeUnit h area bg errs ?_
  rw [Block.judgeUnit_sweep h errs (by omega), if_neg (by omega), if_neg (by simpa using hleft), if_pos h8]
  exact ⟨hto.unitUsed hw.used, hw.run, fun hn => (Block.fld_of_rd (hw.rd _)).trans (Block.bump_sweeps (b := b) hn)⟩

/-- After the second sweep, a beam without a passing unit spends the band. -/
theorem does_sweep_fails (h16 : c.step = 16) (hleft : c.leftNow errs ≠ []) :
    Does (.calWritePower u area bg (some errs)) s fun v => s.BandSpent v.toBlock u c.band := by
  have hto := Block.modRun_runTo h.run fun _ => c.judged errs
  refine does_judgeUnit h area bg errs ?_
  rw [Block.judgeUnit_sweep h errs (by omega), if_neg (by omega), if_neg (by simpa using hleft), if_neg (by omega)]
  exact Block.calBad_spends (b := s.modRun u fun _ => c.judged errs) h.surf hto.run h.kind []

/-- A sweep that finds no unit spends the band, with event 35. -/
theorem does_check_lacks_unit (h0 : c.step = 0) (hf : s.unitFails u c errs ≠ [])
    (harea : 480 ≤ (vget s.cal.surf u).areaUsed)
    (hnone : ∀ k ∈ nearBands (if c.area then bandId u 0 0 else c.band), s.unitsLeft u k = false) :
    Does (.calWritePower u area bg (some errs)) s fun v =>
      s.BandSpent v.toBlock u c.band ∧ v.raised (1024 + 40 * u.val + 35) = true := by
  let fails := s.unitFails u c errs
  let next : CalRun := { c with step := 1, failing := fails }
  let b := s.sweepBegun u fails
  let d := b.raiseSurf u 35
  have hto : s.RunTo b u next := Block.sweepBegun_runTo h.run fails
  have hb : Calm s.toBlock b := s.sweepBegun_calm u fails
  have hd : d.part.hasSurf u = true := (hb.raiseSurf u 35).part ▸ h.surf
  have hrun : (vget d.cal.surf u).run = some next :=
    (congrArg (fun x => (vget x.surf u).run) (b.raise_cal _)).trans hto.run
  have htest : b.testUnit u next.band next.area = none := Block.testUnit_none (hto.surf ▸ harea) fun k hk =>
    (hto.unitsLeft k).trans (hnone k hk)
  have hregs : Block.regsOnly [CAL_STAT, CAL_CNT] s.toBlock d :=
    ((s.sweepBegun_regsOnly u fails).mono (List.subset_cons_self CAL_STAT [CAL_CNT])).raiseSurf u 35
  refine does_judgeUnit h area bg errs ?_
  rw [Block.judgeUnit_check h errs h0, if_neg (by simpa using hf), Block.nextUnit_fails hto.run htest]
  exact ⟨(Block.calBad_spends hd hrun h.kind []).of_regsOnly hregs,
    (Block.calBad_calm hd hrun h.kind []).raised _ (Block.raiseSurf_raises (hb.part ▸ h.surf) (by decide))⟩

end does

/-- Settles O59: one lemma for the start and each judgement of a unit; the middles of the runs by evaluation. -/
theorem writePowerCalibration : Obligations.WritePowerCalibration := by
  unfold Obligations.WritePowerCalibration
  intro s u area bg errs c d
  refine ⟨by decide, by decide, by decide, ?_, fun _ h => exec_calWritePower_idle (h.imp_left (Block.calMay_off · bg)),
    fun ⟨_, hrun, _⟩ => exec_calWritePower_idle (.inl (Block.calMay_busy hrun 3 bg)),
    fun h => does_check_passes h area bg errs, fun h => does_check_sweeps h area bg errs,
    fun h => does_sweep_goes_on h area bg errs, fun h => does_sweep_finds h area bg errs,
    fun h => does_sweep_repeats h area bg errs, fun h => does_sweep_fails h area bg errs,
    fun h => does_check_lacks_unit h area bg errs⟩
  rintro hs hr hauto rfl rfl hdyke hpass hsafe hd hvol hunit
  exact does_calWritePower_starts hs hr hauto hdyke hpass hsafe hd hvol hunit

end Sys2Proof.Machine

/-!
PROOFS. Passes: planned, started and cancelled (R82 to R86).
-/

namespace Sys2Proof.Machine

/-! ### The write path of one surface -/

theorem irqReg_wpStat : irqReg WP_STAT = false := rfl

theorem still_apart_wseq (s : Fin 4) : WP_STAT_STILL.apart (WP_Ss_WSEQ_WSEQ s) = true := by
  refine apart_of_reg_ne (Nat.ne_of_lt ?_)
  simp only [WP_STAT_STILL, WP_STAT, WP_Ss_WSEQ_WSEQ, WP_Ss_WSEQ]
  omega

theorem Block.vget_modWp_ne (b : Block) {s v : Fin 4} (h : v ≠ s) (f : Wp → Wp) : vget (b.modWp s f).wp v = vget b.wp v :=
  vget_vset_ne _ h _

theorem Block.sedge_wp (b : Block) (s : Fin 4) (f : SedgeFrame) : (b.sedge s f).wp = b.wp :=
  (frame_sedge (l₀ := [.out]) .refl s f (List.Subset.refl _)).same .wp (by decide)

theorem Block.selectSpot_wp (b : Block) (s : Fin 4) (verify : Bool) :
    vget (b.selectSpot s verify).wp s = { vget b.wp s with verifySpot := verify } := by
  unfold Block.selectSpot
  split
  · next h => rw [← h]
  · rw [Block.vget_modWp_same, Block.sedge_wp]

theorem Block.selectSpot_wp_ne (b : Block) {s v : Fin 4} (h : v ≠ s) (verify : Bool) :
    vget (b.selectSpot s verify).wp v = vget b.wp v := by
  unfold Block.selectSpot
  split
  · rfl
  · rw [Block.vget_modWp_ne _ h, Block.sedge_wp]

/-! ### Plans (R83, R85) -/

/-- The pass that a plan over the user stripes `run` at the pointer makes: the next pass number, and WSEQ values from one
above the last assigned. -/
def Block.userPass (b : Block) (s : Fin 4) (run : List (List Cell)) : Pass :=
  let w := vget b.wp s
  { num := (w.passNum + 1) % 65536, kind := .user, band := w.band, swath := w.swath, first := w.stripe
    stripes := run, images := b.userImages s w.band w.swath w.stripe run
    wseq0 := b.fld (WP_Ss_WSEQ_WSEQ s) + 1, sent := 0, missed := [] }

/-- The pass is planned: its WSEQ values are assigned, and what it writes no longer waits to be written again. -/
def Block.planUser (b : Block) (s : Fin 4) (run : List (List Cell)) : Block :=
  let w := vget b.wp s
  (b.modWp s fun w => { w with rewrite := w.rewrite.filter fun c => !run.flatten.contains c }).plan s .user w.band w.swath
    w.stripe run (b.userImages s w.band w.swath w.stripe run)

section planUser

variable (b : Block) (s : Fin 4) (run : List (List Cell))

/-- WSEQ, the plan and WP_STAT.STILL, before the verify spot is selected. -/
def Block.planFixed : Block :=
  (((b.modWp s fun w => { w with rewrite := w.rewrite.filter fun c => !run.flatten.contains c }).setFld
    (WP_Ss_WSEQ_WSEQ s) (b.fld (WP_Ss_WSEQ_WSEQ s) + run.length)).modWp s fun w =>
      { w with planned := some (b.userPass s run), passNum := (b.userPass s run).num }).putBit WP_STAT_STILL s.val false

theorem Block.planUser_eq : b.planUser s run = (b.planFixed s run).selectSpot s true := by
  unfold Block.planUser Block.plan Block.planFixed Block.userPass
  rw [Block.vget_modWp_same]
  rfl

theorem Block.planUser_frame : Frame [.regs, .wp, .out] b (b.planUser s run) :=
  frame_plan (frame_modWp .refl s _ (by decide)) s _ _ _ _ _ _ (List.Subset.refl _)

theorem Block.planUser_wp : (vget (b.planUser s run).wp s).planned = some (b.userPass s run) ∧
    (vget (b.planUser s run).wp s).running = (vget b.wp s).running := by
  rw [Block.planUser_eq, Block.selectSpot_wp]
  unfold Block.planFixed
  rw [Block.putBit_wp, Block.vget_modWp_same, Block.setFld_wp, Block.vget_modWp_same]
  exact ⟨rfl, rfl⟩

theorem Block.planUser_wp_ne {v : Fin 4} (h : v ≠ s) : vget (b.planUser s run).wp v = vget b.wp v := by
  rw [Block.planUser_eq, Block.selectSpot_wp_ne _ h]
  unfold Block.planFixed
  rw [Block.putBit_wp, Block.vget_modWp_ne _ h, Block.setFld_wp, Block.vget_modWp_ne _ h]

theorem Block.planUser_regsOnly : Block.regsOnly [WP_Ss_WSEQ s, WP_STAT] b (b.planUser s run) := by
  have h : Block.regsOnly [WP_Ss_WSEQ s, WP_STAT] b (b.planFixed s run) :=
    (((Block.regsOnly_refl _ b).same (c := b.modWp s _)).setFld (f := WP_Ss_WSEQ_WSEQ s) List.mem_cons_self _).same.setFld
      (f := WP_STAT_STILL) (List.mem_cons_of_mem _ List.mem_cons_self) _
  rw [Block.planUser_eq]
  exact h.frame (frame_selectSpot .refl s true (List.Subset.refl _))

theorem Block.planUser_wseq (h : b.fld (WP_Ss_WSEQ_WSEQ s) + run.length < 2 ^ 32) :
    (b.planUser s run).fld (WP_Ss_WSEQ_WSEQ s) = b.fld (WP_Ss_WSEQ_WSEQ s) + run.length := by
  have hspot : Frame [.wp, .out] (b.planFixed s run) (b.planUser s run) :=
    b.planUser_eq s run ▸ frame_selectSpot .refl s true (List.Subset.refl _)
  rw [Block.fld_of_rd (Block.rd_congr (hspot.same .part (by decide)) (hspot.same .regs (by decide)) _)]
  unfold Block.planFixed
  rw [Block.fld_putBit_apart _ _ _ (still_apart_wseq s), Block.modWp_fld, Block.fld_setFld_same _ _ rfl]
  exact Nat.mod_eq_of_lt h

end planUser

theorem exec_passPlan_plans {s : State} {u : Fin 4} {offered run : List (List Cell)} (hs : s.part.hasSurf u = true)
    (hidle : (vget s.wp u).planned = none) (hw : s.writable u = true) (hdue : s.checkDue u = false)
    (ht : (vget s.wp u).throt = false) (hon : s.onTarget u (vget s.wp u).pointerIndex = true)
    (hrun : planRun (s.failedBeams u) (bandSlots (vget s.wp u).band - (vget s.wp u).stripe) offered = run)
    (hne : run ≠ [])
    (hroom : (vget s.wp u).swath < endSwath (vget s.wp u).band)
    (hlayer : (vget s.servo u).layer = bandLayer (vget s.wp u).band) :
    exec (.passPlan u offered) s = s.upd fun b => b.planUser u run := by
  refine State.upd_congr (f := fun b => b.onSurf u _) ?_
  have hgo : ¬ (run.isEmpty || decide (endSwath (vget s.wp u).band ≤ (vget s.wp u).swath) ||
      decide ((vget s.servo u).layer ≠ bandLayer (vget s.wp u).band)) = true := by
    simpa [hne, hlayer] using hroom
  rw [Block.onSurf_present hs]
  dsimp only
  rw [hrun, if_neg (by simp [hidle]), if_neg (by simp [hw]), if_neg (by simp [hdue]), if_neg (by simp [ht, hon]),
    if_neg hgo]
  rfl

/-! ### The start of a pass (R82) -/

theorem Block.endPass_idle {b : Block} {s : Fin 4} (h : (vget b.wp s).running = none) : b.endPass s = b := by
  unfold Block.endPass
  rw [h]

/-- Block `b` has pass `p` under way on the surface, and none planned. -/
def Block.Writing (b : Block) (s : Fin 4) (p : Pass) : Prop :=
  (vget b.wp s).running = some p ∧ (vget b.wp s).planned = none ∧ b.onBit WP_STAT_WRITING s.val = true

theorem Block.startPass_writing {b : Block} {s : Fin 4} {p : Pass} (h : (vget b.wp s).planned = some p) :
    (b.startPass s).Writing s p := by
  unfold Block.startPass
  rw [h]
  dsimp only
  refine ⟨?_, ?_, ?_⟩
  · rw [Block.putBit_wp, Block.putBit_wp, Block.vget_modWp_same]
  · rw [Block.putBit_wp, Block.putBit_wp, Block.vget_modWp_same]
  · rw [Block.onBit, Block.fld_putBit_apart _ WP_STAT_STILL WP_STAT_WRITING rfl, ← Block.onBit,
      Block.onBit_putBit _ rfl (by exact s.isLt)]
    simp

theorem Block.Writing.verifyThrottle {b : Block} {s : Fin 4} {p : Pass} (h : b.Writing s p) :
    (b.verifyThrottle s).Writing s p := by
  obtain ⟨hrun, hplan, hbit⟩ := h
  unfold Block.verifyThrottle
  dsimp only
  split
  · exact ⟨hrun, hplan, hbit⟩
  · unfold Block.raiseSurf
    refine ⟨?_, ?_, ?_⟩
    · rw [(Block.raise_frame _ _).same .wp (by decide), Block.putBit_wp, Block.vget_modWp_same]
      exact hrun
    · rw [(Block.raise_frame _ _).same .wp (by decide), Block.putBit_wp, Block.vget_modWp_same]
      exact hplan
    · rw [Block.onBit, Block.raise_fld _ _ irqReg_wpStat, Block.fld_putBit_apart _ WP_STAT_THROT WP_STAT_WRITING rfl]
      exact hbit

theorem Block.readThrottle_regsOnly (b : Block) (s : Fin 4) : Block.regsOnly [RC_THROT] b (b.readThrottle s) := by
  unfold Block.readThrottle
  extract_lets was n on
  split
  · exact Block.regsOnly_refl _ b
  · exact ((Block.regsOnly_refl _ b).setFld (f := RC_THROT_RTHROT) List.mem_cons_self _).raiseSurf s _

theorem Block.Writing.readThrottle {b : Block} {s : Fin 4} {p : Pass} (h : b.Writing s p) :
    (b.readThrottle s).Writing s p := by
  have hwp : (b.readThrottle s).wp = b.wp := (frame_readThrottle .refl s (List.Subset.refl _)).same .wp (by decide)
  have hstat := b.readThrottle_regsOnly s WP_STAT (by decide) irqReg_wpStat
  unfold Block.Writing Block.onBit
  rw [hwp, Block.fld_of_rd (g := WP_STAT_WRITING) hstat]
  exact h

/-- The powers of a re-read pass that ends are withdrawn (R148). -/
def Block.readPowerBack (b : Block) (s : Fin 4) : Block :=
  if (vget b.se s).boost then (b.sendPower s).modSe s fun e => { e with boost := false } else b

theorem Block.readPowerBack_wp (b : Block) (s : Fin 4) : (b.readPowerBack s).wp = b.wp := by
  unfold Block.readPowerBack
  split
  · exact (frame_modSe (frame_sendPower .refl s (List.Subset.refl _)) s _ (by decide)).same .wp (by decide)
  · rfl

theorem exec_angleReference_idle {s : State} {u : Fin 4} (hs : s.part.hasSurf u = true)
    (hrun : (vget s.wp u).running = none) :
    exec (.angleReference u) s = s.upd fun b => (((b.readPowerBack u).startPass u).verifyThrottle u).readThrottle u := by
  refine State.upd_congr (f := fun b => b.onSurf u _) ?_
  have hend : (s.toBlock.readPowerBack u).endPass u = s.toBlock.readPowerBack u :=
    Block.endPass_idle (by rw [Block.readPowerBack_wp, hrun])
  unfold Block.readPowerBack at hend ⊢
  rw [Block.onSurf_present hs]
  dsimp only
  rw [hend, hrun]
  rfl

theorem does_angleReference {s : State} {u : Fin 4} {p : Pass} (hs : s.part.hasSurf u = true)
    (hplan : (vget s.wp u).planned = some p) (hrun : (vget s.wp u).running = none) :
    Does (.angleReference u) s fun t => t.Writing u p := by
  have hp : (vget (s.toBlock.readPowerBack u).wp u).planned = some p := by rw [Block.readPowerBack_wp, hplan]
  exact does_upd (exec_angleReference_idle hs hrun) (Block.startPass_writing hp).verifyThrottle.readThrottle

/-! ### A plan cancelled (R85, R86) -/

/-- A user plan cancelled: PURGE, its WSEQ values returned, and the write path but for the pass under way. -/
theorem Block.cancelPlan_user {b : Block} {s : Fin 4} {p : Pass} (h : (vget b.wp s).planned = some p)
    (hk : p.kind = .user) :
    ∃ f : Wp → Wp, (∀ w, (f w).running = w.running) ∧ b.cancelPlan s =
      (((b.sedge s (.purge p.num)).setFld (WP_Ss_WSEQ_WSEQ s) (p.wseq0 - 1)).modWp s f).putBit WP_STAT_STILL s.val
        true := by
  unfold Block.cancelPlan
  rw [h]
  dsimp only
  rw [if_neg (by simp [hk])]
  refine ⟨_, fun _ => ?_, rfl⟩
  rfl

theorem Block.sedge_regs (b : Block) (s : Fin 4) (f : SedgeFrame) : (b.sedge s f).regs = b.regs :=
  (frame_sedge (l₀ := [.out]) .refl s f (List.Subset.refl _)).same .regs (by decide)

theorem Block.sedge_part (b : Block) (s : Fin 4) (f : SedgeFrame) : (b.sedge s f).part = b.part :=
  (frame_sedge (l₀ := [.out]) .refl s f (List.Subset.refl _)).same .part (by decide)

theorem does_stopRequest {s : State} {u : Fin 4} {p : Pass} (hs : s.part.hasSurf u = true)
    (hplan : (vget s.wp u).planned = some p) (hk : p.kind = .user) (hq : p.wseq0 ≤ 2 ^ 32) :
    Does (.stopRequest u) s fun t => (vget t.wp u).planned = none ∧ (vget t.wp u).stop = true ∧
      (vget t.wp u).running = (vget s.wp u).running ∧ t.fld (WP_Ss_WSEQ_WSEQ u) = p.wseq0 - 1 ∧ t.irq = s.irq ∧
      (s.on (SEs_STAT_LINK_UP u) = true → t.out = s.out ++ [.sedge u (.purge p.num)]) ∧
      (∀ v, v ≠ u → vget t.wp v = vget s.wp v) ∧ Block.regsOnly [WP_Ss_WSEQ u, WP_STAT] s.toBlock t.toBlock := by
  let b := s.modWp u fun w => { w with stop := true }
  have hwp : vget b.wp u = { vget s.wp u with stop := true } := Block.vget_modWp_same ..
  obtain ⟨f, hf, hcancel⟩ := Block.cancelPlan_user (b := b) (s := u) (p := p) (by rw [hwp]; exact hplan) hk
  obtain ⟨hstop, hnone⟩ := s.stopWrite_stops u
  have hregs : Block.regsOnly [WP_Ss_WSEQ u, WP_STAT] s.toBlock (b.cancelPlan u) := by
    rw [hcancel]
    have h1 : Block.regsOnly [WP_Ss_WSEQ u, WP_STAT] s.toBlock (b.sedge u (.purge p.num)) :=
      (Block.regsOnly_refl _ _).same (b.sedge_part u _) (b.sedge_regs u _)
    exact (h1.setFld (f := WP_Ss_WSEQ_WSEQ u) List.mem_cons_self _).same.setFld (f := WP_STAT_STILL)
      (List.mem_cons_of_mem _ List.mem_cons_self) _
  refine does_upd (f := fun b => b.onSurf u _) rfl ?_
  rw [Block.onSurf_present hs]
  refine ⟨hnone, hstop, ?_, ?_, (frame_cancelPlan .refl u (List.Subset.refl _)).same .irq (by decide), fun hl => ?_,
    fun v hv => ?_, hregs⟩
  · show (vget (b.cancelPlan u).wp u).running = _
    rw [hcancel, Block.putBit_wp, Block.vget_modWp_same, hf, Block.setFld_wp, Block.sedge_wp, hwp]
  · show (b.cancelPlan u).fld _ = _
    rw [hcancel, Block.fld_putBit_apart _ _ _ (still_apart_wseq u), Block.modWp_fld, Block.fld_setFld_same _ _ rfl]
    exact Nat.mod_eq_of_lt (by simp only [WP_Ss_WSEQ_WSEQ]; omega)
  · show (b.cancelPlan u).out = _
    rw [hcancel, Block.putBit_out, Block.modWp_out, Block.setFld_out, Block.sedge, if_pos (by exact hl)]
    rfl
  · show vget (b.cancelPlan u).wp v = _
    rw [hcancel, Block.putBit_wp, Block.vget_modWp_ne _ hv, Block.setFld_wp, Block.sedge_wp, Block.vget_modWp_ne _ hv]

/-- Settles O22: a lemma for each command; the plan is that of `Block.planUser`. -/
theorem passLifecycle : Obligations.PassLifecycle := by
  unfold Obligations.PassLifecycle
  intro s u offered hs
  refine ⟨?_, fun p hplan hrun => does_angleReference hs hplan hrun,
    fun p hplan hk _ hq => does_stopRequest hs hplan hk hq⟩
  intro w run hidle hw hdue ht hon hne hroom hlayer hlt
  obtain ⟨hplanned, hrunning⟩ := s.planUser_wp u run
  exact does_upd (exec_passPlan_plans hs hidle hw hdue ht hon rfl hne hroom hlayer)
    ⟨hplanned, s.planUser_wseq u run hlt, hrunning, fun v hv => s.planUser_wp_ne u run hv,
      (s.planUser_frame u run).same .irq (by decide), s.planUser_regsOnly u run⟩

end Sys2Proof.Machine

/-!
PROOFS. Sedge frames and faults (R102 to R105, R118, R191, R519): first what entering the safe state leaves of the
registers, then a lemma for each command.
-/

namespace Sys2Proof.Machine

/-! ### Registers -/

theorem irqReg_of_ge {o : Nat} (h : 0x49010 ≤ o) : irqReg o = false := irqReg_eq_false (by omega) (by omega)

theorem apart_of_bits {f g : Fld} (h : f.hi < g.lo ∨ g.hi < f.lo) : f.apart g = true := by
  rcases h with h | h <;> simp [Fld.apart, h]

/-- A field of one bit that is on reads 1. -/
theorem Block.fld_eq_one_of_on {b : Block} {f : Fld} (hf : f.hi = f.lo) (h : b.on f = true) : b.fld f = 1 := by
  have hlt : b.fld f < 2 ^ (f.hi + 1 - f.lo) := b.fld_lt f
  have hne : b.fld f ≠ 0 := of_decide_eq_true ((b.on_eq f).symm.trans h)
  rw [hf, Nat.add_sub_cancel_left] at hlt
  omega

section regsOnly

variable {l : List Nat} {a b c : Block}

theorem Block.regsOnly.ite {p : Prop} [Decidable p] (hb : Block.regsOnly l a b) (hc : Block.regsOnly l a c) :
    Block.regsOnly l a (if p then b else c) := by
  split
  · exact hb
  · exact hc

theorem Block.regsOnly.modWp (h : Block.regsOnly l a b) (s : Fin 4) (f : Wp → Wp) : Block.regsOnly l a (b.modWp s f) :=
  h.same

theorem Block.regsOnly.modSe (h : Block.regsOnly l a b) (s : Fin 4) (f : Se → Se) : Block.regsOnly l a (b.modSe s f) :=
  h.same

theorem Block.regsOnly.foldl {α : Type} {f : Block → α → Block} (xs : List α) (h : Block.regsOnly l a b)
    (hf : ∀ c, ∀ x ∈ xs, Block.regsOnly l a c → Block.regsOnly l a (f c x)) : Block.regsOnly l a (xs.foldl f b) := by
  induction xs generalizing b with
  | nil => exact h
  | cons x t ih => exact ih (hf _ _ List.mem_cons_self h) fun c y hy => hf c y (List.mem_cons_of_mem _ hy)

theorem Block.regsOnly.fld (h : Block.regsOnly l a b) {g : Fld} (hg : g.reg ∉ l) (hi : irqReg g.reg = false) :
    b.fld g = a.fld g := Block.fld_of_rd (h _ hg hi)

end regsOnly

/-! ### The registers written when a pass is cut or a beam fails (R86, R112, R114) -/

/-- The registers that work on the passes and the calibration of a surface may write, its gates in SEs_LSAFE apart. -/
def passRegs (s : Nat) : List Nat :=
  [WP_STAT, WP_BFAIL_LO, WP_BFAIL_HI, WP_CNT_CELLS, WP_CNT_VFAIL, WP_CNT_VOID, SEs_BGATE s, WP_Ss_WSEQ s, WP_Ss_VSEQ s,
    CAL_STAT, CAL_CNT, CAL_Ss_WP s]

theorem mem_passRegs {o s : Nat} : o ∈ passRegs s ↔ o = WP_STAT ∨ o = WP_BFAIL_LO ∨ o = WP_BFAIL_HI ∨ o = WP_CNT_CELLS ∨
    o = WP_CNT_VFAIL ∨ o = WP_CNT_VOID ∨ o = SEs_BGATE s ∨ o = WP_Ss_WSEQ s ∨ o = WP_Ss_VSEQ s ∨ o = CAL_STAT ∨
    o = CAL_CNT ∨ o = CAL_Ss_WP s := by
  simp only [passRegs, List.mem_cons, List.not_mem_nil, or_false]

theorem not_mem_passRegs {o s : Nat} (hs : s < 4) (h : o = SEs_LSAFE s ∨ o = SFs_INTLK s ∨ o = SEs_STAT s) :
    o ∉ passRegs s := by
  simp only [SEs_LSAFE, SFs_INTLK, SEs_STAT] at h
  simp only [mem_passRegs, WP_STAT, WP_BFAIL_LO, WP_BFAIL_HI, WP_CNT_CELLS, WP_CNT_VFAIL, WP_CNT_VOID, SEs_BGATE,
    WP_Ss_WSEQ, WP_Ss_VSEQ, CAL_STAT, CAL_CNT, CAL_Ss_WP]
  omega

namespace Block.PassWork

variable {s : Fin 4} {a b : Block}

theorem setFld (h : Block.regsOnly (passRegs s) a b) (f : Fld) (n : Nat)
    (hf : f.reg ∈ passRegs s := by simp [mem_passRegs, WP_STAT_STILL, WP_STAT_WRITING, WP_BFAIL_LO_BFAIL,
      WP_BFAIL_HI_BFAIL, WP_CNT_CELLS_COUNT, WP_CNT_VFAIL_COUNT, WP_CNT_VOID_COUNT, SEs_BGATE_BGATE, WP_Ss_WSEQ_WSEQ, WP_Ss_VSEQ_VSEQ,
      CAL_STAT_BUSY, CAL_STAT_KIND, CAL_CNT_ABANDON, CAL_Ss_WP_RESULT]) :
    Block.regsOnly (passRegs s) a (b.setFld f n) := Block.regsOnly.setFld h hf n

theorem bandEntryFor (h : Block.regsOnly (passRegs s) a b) (k failed : Nat) :
    Block.regsOnly (passRegs s) a (b.bandEntryFor k failed) :=
  h.frame (frame_bandEntryFor .refl k failed (List.Subset.refl _))

theorem surfDown (h : Block.regsOnly (passRegs s) a b) (cause : Nat) :
    Block.regsOnly (passRegs s) a (b.surfDown s cause) := h.frame (frame_surfDown .refl s cause (List.Subset.refl _))

theorem sedge (h : Block.regsOnly (passRegs s) a b) (f : SedgeFrame) : Block.regsOnly (passRegs s) a (b.sedge s f) :=
  h.frame (frame_sedge .refl s f (List.Subset.refl _))

theorem failBeam (h : Block.regsOnly (passRegs s) a b) (k : Nat) : Block.regsOnly (passRegs s) a (b.failBeam s k) := by
  unfold Block.failBeam
  extract_lets n b1 b2 b3 b4
  have h1 : Block.regsOnly (passRegs s) a b1 := (setFld h WP_BFAIL_LO_BFAIL _).ite (setFld h WP_BFAIL_HI_BFAIL _)
  have h3 : Block.regsOnly (passRegs s) a b3 := (setFld h1 (SEs_BGATE_BGATE s) _).modWp s _
  have h4 : Block.regsOnly (passRegs s) a b4 := (surfDown h3 3).ite h3
  exact (bandEntryFor h4 _ _).raiseSurf s 7

theorem cellBad (h : Block.regsOnly (passRegs s) a b) (q k : Nat) : Block.regsOnly (passRegs s) a (b.cellBad s q k) := by
  unfold Block.cellBad
  extract_lets b1 w run b2 b3
  have h2 : Block.regsOnly (passRegs s) a b2 := (setFld h WP_CNT_VFAIL_COUNT _).modWp s _
  have h3 : Block.regsOnly (passRegs s) a b3 := by
    show Block.regsOnly (passRegs s) a (match w.copies.find? _ with | some c => _ | none => _)
    split
    · exact h2.modWp s _
    · split
      · exact h2
      · exact h2.modWp s _
  exact (failBeam h3 k).ite h3

theorem missedCells (h : Block.regsOnly (passRegs s) a b) (n : Nat) (t : Stripe) (missed : List (Nat × Nat)) :
    Block.regsOnly (passRegs s) a (b.missedCells s n t missed) :=
  h.foldl _ fun _ k _ hc => (cellBad (hc.modWp s _) t.wseq k).ite hc

theorem addStripes (h : Block.regsOnly (passRegs s) a b) (p : Pass) (reached : Nat) :
    Block.regsOnly (passRegs s) a (b.addStripes s p reached) := by
  unfold Block.addStripes
  extract_lets n failed recs dl voids cells b1 b2 isVoid b3 b4 b5
  have h2 : Block.regsOnly (passRegs s) a b2 := setFld (setFld h WP_CNT_CELLS_COUNT _) WP_CNT_VOID_COUNT _
  have h3 : Block.regsOnly (passRegs s) a b3 := h2.modWp s _
  have h4 : Block.regsOnly (passRegs s) a b4 := by
    show Block.regsOnly (passRegs s) a (match voids with | [] => b3 | t :: _ => _)
    generalize voids = l
    cases l with
    | nil => exact h3
    | cons t _ => exact h3.frame (frame_voidEntry .refl _ _ _ (List.Subset.refl _))
  have h5 : Block.regsOnly (passRegs s) a b5 := h4.modWp s _
  exact h5.foldl _ fun _ t _ hc => missedCells hc n t p.missed

theorem exhaust (h : Block.regsOnly (passRegs s) a b) (band : Nat) :
    Block.regsOnly (passRegs s) a (b.exhaust s band) := by
  unfold Block.exhaust
  extract_lets old b1 b2
  have h2 : Block.regsOnly (passRegs s) a b2 := (h.modWp s _).modWp s _
  exact h.ite (((bandEntryFor h2 _ _).raiseSurf s 8).frame (Block.async_frame _ _ _ _))

theorem movePointer (h : Block.regsOnly (passRegs s) a b) (p : Pass) (cut : Bool) :
    Block.regsOnly (passRegs s) a (b.movePointer s p cut) := by
  unfold Block.movePointer
  dsimp only
  split
  · exact h.modWp s _
  · unfold Block.setReloc
    extract_lets b1 last
    have h1 : Block.regsOnly (passRegs s) a b1 := h.modWp s _
    exact (exhaust h1 p.band).ite h1
  · exact h
  · exact h

theorem advanceVseq (h : Block.regsOnly (passRegs s) a b) : Block.regsOnly (passRegs s) a (b.advanceVseq s) :=
  (setFld h (WP_Ss_VSEQ_VSEQ s) _).modWp s _

theorem cancelPlan (h : Block.regsOnly (passRegs s) a b) : Block.regsOnly (passRegs s) a (b.cancelPlan s) := by
  unfold Block.cancelPlan
  split
  · exact h
  · next p _ =>
    extract_lets b1 b2 mine b3
    have h1 : Block.regsOnly (passRegs s) a b1 := sedge h _
    have h3 : Block.regsOnly (passRegs s) a b3 := (h1.ite (setFld h1 (WP_Ss_WSEQ_WSEQ s) _)).modWp s _
    exact setFld h3 WP_STAT_STILL _

theorem calAbandon (h : Block.regsOnly (passRegs s) a b) : Block.regsOnly (passRegs s) a (b.calAbandon s) := by
  have hstat : [CAL_STAT] ⊆ passRegs s := by simp [mem_passRegs]
  unfold Block.calAbandon
  split
  · exact h
  · extract_lets b1 b2
    have hend := Block.regsOnly_trans h ((b.calEnd_regsOnly s 2 []).mono hstat)
    have h1 : Block.regsOnly (passRegs s) a b1 := setFld hend CAL_CNT_ABANDON _
    exact ((setFld h1 (CAL_Ss_WP_RESULT s) 2).ite h1).raise 49

/-- Past the gate, a cut writes none of SEs_LSAFE. -/
theorem cutPass (b : Block) (s : Fin 4) :
    Block.regsOnly (passRegs s) (b.setFld (SEs_LSAFE_WGATE s) 0) (b.cutPass s) := by
  unfold Block.cutPass
  extract_lets b1 b2
  have h2 : Block.regsOnly (passRegs s) b1 b2 := setFld (Block.regsOnly_refl _ b1) WP_STAT_WRITING _
  split
  · exact h2
  · next p _ =>
    extract_lets b3 n b4 void b5 b6 b7
    have h3 : Block.regsOnly (passRegs s) b1 b3 := sedge h2 _
    have h4 : Block.regsOnly (passRegs s) b1 b4 := by
      show Block.regsOnly (passRegs s) b1 (match p.kind with | .test => b3 | _ => b3.addStripes s p _)
      split
      · exact h3
      · exact addStripes h3 p _
    have h6 : Block.regsOnly (passRegs s) b1 b6 := movePointer (h4.modWp s _ : Block.regsOnly (passRegs s) b1 b5) p true
    exact advanceVseq ((h6.raiseSurf s 9).ite h6)

end Block.PassWork

/-! ### The safe state entered by hardware (R43, R105, R191) -/

/-- The gates of a surface that enters its safe state, its power mode sent and WGATE clear. -/
def Block.gatesSafe (b : Block) (s : Fin 4) : Block :=
  ((((b.setFld (SEs_LSAFE_SAFE s) 1).setFld (SEs_LSAFE_HLATCH s) 1).setFld (SEs_LSAFE_MODE s) 1).sendPower s).setFld
    (SEs_LSAFE_WGATE s) 0

theorem Block.sendPower_rd (b : Block) (s : Fin 4) (o : Nat) : (b.sendPower s).rd o = b.rd o :=
  have h : Frame [.se, .out] b (b.sendPower s) := frame_sendPower .refl s (List.Subset.refl _)
  Block.rd_congr (h.same .part (by decide)) (h.same .regs (by decide)) o

theorem Block.gatesSafe_fld (b : Block) (s : Fin 4) {g : Fld} (hm : (SEs_LSAFE_MODE s).apart g = true)
    (hw : (SEs_LSAFE_WGATE s).apart g = true) (hh : (SEs_LSAFE_HLATCH s).apart g = true) :
    (b.gatesSafe s).fld g = (b.setFld (SEs_LSAFE_SAFE s) 1).fld g := by
  unfold Block.gatesSafe
  rw [Block.fld_setFld_apart _ _ _ hw, Block.fld_of_rd (Block.sendPower_rd _ s _), Block.fld_setFld_apart _ _ _ hm,
    Block.fld_setFld_apart _ _ _ hh]

theorem Block.gatesSafe_safe (b : Block) (s : Fin 4) : (b.gatesSafe s).fld (SEs_LSAFE_SAFE s) = 1 := by
  rw [Block.gatesSafe_fld _ _ (apart_of_bits (.inl (by simp [SEs_LSAFE_MODE, SEs_LSAFE_SAFE])))
    (apart_of_bits (.inl (by simp [SEs_LSAFE_WGATE, SEs_LSAFE_SAFE])))
    (apart_of_bits (.inr (by simp [SEs_LSAFE_HLATCH, SEs_LSAFE_SAFE])))]
  exact Block.fld_setFld_same _ _ rfl 1

theorem Block.gatesSafe_lden (b : Block) (s : Fin 4) :
    (b.gatesSafe s).fld (SEs_LSAFE_LDEN s) = b.fld (SEs_LSAFE_LDEN s) := by
  rw [Block.gatesSafe_fld _ _ (apart_of_bits (.inr (by simp [SEs_LSAFE_MODE, SEs_LSAFE_LDEN])))
    (apart_of_bits (.inr (by simp [SEs_LSAFE_WGATE, SEs_LSAFE_LDEN])))
    (apart_of_bits (.inr (by simp [SEs_LSAFE_HLATCH, SEs_LSAFE_LDEN])))]
  exact Block.fld_setFld_apart _ _ _ (apart_of_bits (.inr (by simp [SEs_LSAFE_SAFE, SEs_LSAFE_LDEN]))) 1

theorem Block.gatesSafe_regsOnly (b : Block) (s : Fin 4) : Block.regsOnly [SEs_LSAFE s] b (b.gatesSafe s) := by
  unfold Block.gatesSafe
  have h1 := (Block.regsOnly_refl [SEs_LSAFE s] b).setFld (f := SEs_LSAFE_SAFE s) List.mem_cons_self 1
  have h2 := (h1.setFld (f := SEs_LSAFE_HLATCH s) List.mem_cons_self 1).setFld (f := SEs_LSAFE_MODE s)
    List.mem_cons_self 1
  exact (h2.frame (frame_sendPower .refl s (List.Subset.refl _))).setFld (f := SEs_LSAFE_WGATE s) List.mem_cons_self 0

theorem Block.safeState_of_safe {b : Block} {s : Fin 4} (h : b.on (SEs_LSAFE_SAFE s) = true) (latch : Bool) :
    b.safeState s latch = b := if_pos h

/-- Past the gates, the entry writes what cutting a pass and abandoning a calibration write. -/
theorem Block.safeState_enters {b : Block} {s : Fin 4} (h : b.on (SEs_LSAFE_SAFE s) = false) :
    Block.regsOnly (passRegs s) (b.gatesSafe s) (b.safeState s true) := by
  unfold Block.safeState
  rw [if_neg (by simp [h])]
  extract_lets b1 b2 b3 b4 b5 b6 b7 b8 b9
  have h5 : Block.regsOnly (passRegs s) (b.gatesSafe s) b5 := Block.PassWork.cutPass b4 s
  have h8 : Block.regsOnly (passRegs s) (b.gatesSafe s) b8 :=
    (Block.PassWork.calAbandon (Block.PassWork.cancelPlan h5)).same
  exact (Block.PassWork.surfDown h8 1).same

/-- What the entry leaves of the registers: SAFE is set, LDEN stays, and all but those of the pass and SEs_LSAFE. -/
theorem Block.safeState_regs (b : Block) (s : Fin 4) : (b.safeState s true).fld (SEs_LSAFE_SAFE s) = 1 ∧
    (b.safeState s true).fld (SEs_LSAFE_LDEN s) = b.fld (SEs_LSAFE_LDEN s) ∧
    Block.regsOnly (SEs_LSAFE s :: passRegs s) b (b.safeState s true) := by
  by_cases h : b.on (SEs_LSAFE_SAFE s) = true
  · rw [Block.safeState_of_safe h]
    exact ⟨Block.fld_eq_one_of_on rfl h, rfl, Block.regsOnly_refl _ b⟩
  · have henter := b.safeState_enters (s := s) (Bool.eq_false_iff.mpr h)
    have hirq : irqReg (SEs_LSAFE s) = false := irqReg_of_ge (by simp only [SEs_LSAFE]; omega)
    have hrd := henter _ (not_mem_passRegs s.isLt (.inl rfl)) hirq
    exact ⟨(Block.fld_of_rd (g := SEs_LSAFE_SAFE s) hrd).trans (b.gatesSafe_safe s),
      (Block.fld_of_rd (g := SEs_LSAFE_LDEN s) hrd).trans (b.gatesSafe_lden s),
      Block.regsOnly_trans ((b.gatesSafe_regsOnly s).mono (List.subset_append_left _ (passRegs s)))
        (henter.mono (List.subset_cons_self _ _))⟩

theorem Block.applyHolds_regsOnly (b : Block) (s : Fin 4) : Block.regsOnly [SEs_LSAFE s] b (b.applyHolds s) := by
  unfold Block.applyHolds
  have h := Block.regsOnly_refl [SEs_LSAFE s] b
  have h1 := (h.setFld (f := SEs_LSAFE_LDEN s) List.mem_cons_self 0).ite (p := b.ldenHeld s = true) h
  exact (h1.setFld (f := SEs_LSAFE_WGATE s) List.mem_cons_self 0).ite h1

theorem Block.applyHolds_lden {b : Block} {s : Fin 4} (h : b.ldenHeld s = true) :
    (b.applyHolds s).fld (SEs_LSAFE_LDEN s) = 0 := by
  have h0 : (b.setFld (SEs_LSAFE_LDEN s) 0).fld (SEs_LSAFE_LDEN s) = 0 := Block.fld_setFld_same _ _ rfl 0
  unfold Block.applyHolds
  rw [if_pos h]
  dsimp only
  split
  · rw [Block.fld_setFld_apart _ _ _ (apart_of_bits (.inr (by simp [SEs_LSAFE_WGATE, SEs_LSAFE_LDEN]))), h0]
  · exact h0

/-- An interlock that has latched shuts the surface: the laser's enable falls, the surface goes to its safe state, and
offset `k` is raised. -/
def Block.shut (b : Block) (s : Fin 4) (k : Nat) : Block := ((b.applyHolds s).safeState s true).raiseSurf s k

/-- The registers that shutting a surface may write. -/
def shutRegs (s : Nat) : List Nat := SEs_LSAFE s :: passRegs s

theorem Block.shut_shuts {b : Block} {s : Fin 4} (hs : b.part.hasSurf s = true) (hheld : b.ldenHeld s = true) {k : Nat}
    (hk : k < 40) : (b.shut s k).fld (SEs_LSAFE_LDEN s) = 0 ∧ (b.shut s k).fld (SEs_LSAFE_SAFE s) = 1 ∧
      (b.shut s k).raised (1024 + 40 * s.val + k) = true ∧ Block.regsOnly (shutRegs s) b (b.shut s k) := by
  obtain ⟨hsafe, hlden, hregs⟩ := (b.applyHolds s).safeState_regs s
  have hirq : irqReg (SEs_LSAFE s) = false := irqReg_of_ge (by simp only [SEs_LSAFE]; omega)
  have hpart : ((b.applyHolds s).safeState s true).part = b.part :=
    (frame_safeState (l₀ := [.regs, .irq, .le, .servo, .wp, .se, .cal, .hq, .store, .ml, .out])
      (frame_applyHolds .refl s (by decide)) s true (List.Subset.refl _)).same .part (by decide)
  have hholds := (b.applyHolds_regsOnly s).mono (m := shutRegs s) (List.subset_append_left _ (passRegs s))
  exact ⟨(Block.raise_fld _ _ hirq).trans (hlden.trans (Block.applyHolds_lden hheld)),
    (Block.raise_fld _ _ hirq).trans hsafe, Block.raiseSurf_raises (hpart ▸ hs) hk, (Block.regsOnly_trans hholds hregs).raiseSurf s k⟩

theorem not_mem_shutRegs {o s : Nat} (hs : s < 4) (h : o = SFs_INTLK s ∨ o = SEs_STAT s) : o ∉ shutRegs s := by
  refine List.not_mem_cons_of_ne_of_not_mem ?_ (not_mem_passRegs hs (.inr h))
  simp only [SFs_INTLK, SEs_STAT] at h
  simp only [SEs_LSAFE]
  omega

theorem Block.shut_fld {b : Block} {s : Fin 4} (hs : b.part.hasSurf s = true) (hheld : b.ldenHeld s = true) {k : Nat}
    (hk : k < 40) {g : Fld} (hg : g.reg = SFs_INTLK s ∨ g.reg = SEs_STAT s) : (b.shut s k).fld g = b.fld g := by
  obtain ⟨_, _, _, hregs⟩ := Block.shut_shuts hs hheld hk
  refine hregs.fld (not_mem_shutRegs s.isLt hg) (irqReg_of_ge ?_)
  simp only [SFs_INTLK, SEs_STAT] at hg
  omega

/-! ### The power unit's fault (R105, R191) -/

theorem exec_puFault_off {s : State} {u : Fin 4} (hs : s.part.hasSurf u = true) (h : s.on (SFs_INTLK_PUF u) = false) :
    exec (.puFault u) s = s.upd fun b => ((b.setFld (SFs_INTLK_PUF u) 1).setFld (SEs_STAT_PU_FAULT u) 1).shut u 3 := by
  refine State.upd_congr (f := fun b => b.onSurf u _) ?_
  rw [Block.onSurf_present hs, if_neg (by simp [h])]
  rfl

theorem does_puFault {s : State} {u : Fin 4} (hs : s.part.hasSurf u = true) (h : s.on (SFs_INTLK_PUF u) = false) :
    Does (.puFault u) s fun t => t.fld (SFs_INTLK_PUF u) = 1 ∧ t.fld (SEs_STAT_PU_FAULT u) = 1 ∧
      t.fld (SEs_LSAFE_LDEN u) = 0 ∧ t.fld (SEs_LSAFE_SAFE u) = 1 ∧ t.raised (1024 + 40 * u.val + 3) = true := by
  let b := (s.setFld (SFs_INTLK_PUF u) 1).setFld (SEs_STAT_PU_FAULT u) 1
  have hapart : (SEs_STAT_PU_FAULT u).apart (SFs_INTLK_PUF u) = true := by
    refine apart_of_reg_ne ?_
    simp only [SEs_STAT_PU_FAULT, SFs_INTLK_PUF, SEs_STAT, SFs_INTLK]
    omega
  have hpuf : b.fld (SFs_INTLK_PUF u) = 1 :=
    (Block.fld_setFld_apart _ _ _ hapart 1).trans (Block.fld_setFld_same _ _ rfl 1)
  have hheld : b.ldenHeld u = true := by simp [Block.ldenHeld, Block.on_eq, hpuf]
  have hb : b.part.hasSurf u = true := hs
  obtain ⟨hlden, hsafe, hraised, _⟩ := Block.shut_shuts hb hheld (k := 3) (by decide)
  exact does_upd (exec_puFault_off hs h)
    ⟨(Block.shut_fld hb hheld (by decide) (.inl rfl)).trans hpuf,
      (Block.shut_fld hb hheld (by decide) (.inr rfl)).trans (Block.fld_setFld_same _ _ rfl 1), hlden, hsafe, hraised⟩

theorem does_puFaultRelease {s : State} {u : Fin 4} (hs : s.part.hasSurf u = true) :
    Does (.puFaultRelease u) s fun t => t.fld (SFs_INTLK_PUF u) = 0 ∧ t.fld (SEs_STAT_PU_FAULT u) = 0 ∧
      t.fld (SEs_LSAFE_HLATCH u) = s.fld (SEs_LSAFE_HLATCH u) ∧
      Block.regsOnly [SFs_INTLK u, SEs_STAT u] s.toBlock t.toBlock := by
  let b := s.setFld (SFs_INTLK_PUF u) 0
  have hregs : Block.regsOnly [SFs_INTLK u, SEs_STAT u] s.toBlock (b.setFld (SEs_STAT_PU_FAULT u) 0) :=
    ((Block.regsOnly_refl _ _).setFld (f := SFs_INTLK_PUF u) List.mem_cons_self 0).setFld (f := SEs_STAT_PU_FAULT u)
      (List.mem_cons_of_mem _ List.mem_cons_self) 0
  have hne : SFs_INTLK u ≠ SEs_STAT u := by
    simp only [SFs_INTLK, SEs_STAT]
    omega
  have hlsafe : SEs_LSAFE u ∉ [SFs_INTLK u, SEs_STAT u] := by
    simp only [SFs_INTLK, SEs_STAT, SEs_LSAFE, List.mem_cons, List.not_mem_nil, or_false]
    omega
  refine does_upd (f := fun b => b.onSurf u _) rfl ?_
  rw [Block.onSurf_present hs]
  exact ⟨(Block.fld_setFld_apart b _ _ (apart_of_reg_ne hne.symm) 0).trans (Block.fld_setFld_same _ _ rfl 0),
    Block.fld_setFld_same b _ rfl 0,
    hregs.fld (g := SEs_LSAFE_HLATCH u) hlsafe (irqReg_of_ge (by simp only [SEs_LSAFE_HLATCH, SEs_LSAFE]; omega)), hregs⟩

/-! ### MONITOR (R102, R105) -/

section monitor

variable (b : Block) (s : Fin 4) (mon : Vector (BitVec 16) 16)

/-- The readings of the first `n` beams are taken. -/
def Block.monBeams (n : Nat) : Block := (List.range n).foldl (fun b k => b.monBeam s k (mon.toList.getD k 0).toNat) b

theorem Block.monBeams_succ (n : Nat) :
    b.monBeams s mon (n + 1) = (b.monBeams s mon n).monBeam s n (mon.toList.getD n 0).toNat := by
  simp only [Block.monBeams, List.range_succ, List.foldl_append, List.foldl_cons, List.foldl_nil]

theorem Block.foldl_monBeam :
    mon.toList.zipIdx.foldl (fun b e => b.monBeam s e.2 e.1.toNat) b = b.monBeams s mon 16 := by
  have hzip : mon.toList.zipIdx = (List.range 16).map fun k => (mon.toList.getD k 0, k) := by
    refine List.ext_getElem (by simp) fun i h1 h2 => ?_
    simp at h1
    simp [h1]
  rw [hzip, List.foldl_map, Block.monBeams]

theorem Block.monBeams_part (n : Nat) : (b.monBeams s mon n).part = b.part :=
  (Frame.foldl (l := [.regs, .irq, .servo, .wp, .se, .hq, .store, .ml, .out]) .refl fun _ _ h =>
    frame_monBeam h s _ _ (List.Subset.refl _)).same .part (by decide)

/-- Nothing is written: the first `n` readings are stored, and no beam is judged. -/
structure Block.Monitored (c : Block) (n : Nat) : Prop where
  read : ∀ k, k < n → c.fld (SEs_MON_b_MON s k) = (mon.toList.getD k 0).toNat
  idle : c.isWriting s = false
  age : (vget c.se s).age = (vget b.se s).age
  irq : c.irq = b.irq
  regs : Block.regsOnly ((List.range 16).map (SEs_MON_b s)) b c

end monitor

theorem Block.monBeam_idle {b : Block} {s : Fin 4} (h : b.isWriting s = false) (k v : Nat) : b.monBeam s k v =
    (b.setFld (SEs_MON_b_MON s k) v).modSe s fun e => { e with monRun := e.monRun.setIfInBounds k 0 } := by
  have hne : SEs_LSAFE s ≠ SEs_MON_b s k := Nat.ne_of_lt (by simp only [SEs_LSAFE, SEs_MON_b]; omega)
  have hrd : (b.setFld (SEs_MON_b_MON s k) v).rd (SEs_LSAFE s) = b.rd (SEs_LSAFE s) := Block.rd_setFld_ne b _ hne v
  have hidle : (b.setFld (SEs_MON_b_MON s k) v).isWriting s = false := by
    unfold Block.isWriting
    rw [Block.on_of_rd (g := SEs_LSAFE_WGATE s) hrd, Block.fld_of_rd (g := SEs_LSAFE_MODE s) hrd]
    exact h
  unfold Block.monBeam
  dsimp only
  rw [hidle]
  simp

theorem Block.Monitored.step {b c : Block} {s : Fin 4} {mon : Vector (BitVec 16) 16} {n : Nat} (h : b.Monitored s mon c n)
    (hn : n < 16) : b.Monitored s mon (c.monBeam s n (mon.toList.getD n 0).toNat) (n + 1) := by
  let v := (mon.toList.getD n 0).toNat
  have hne : SEs_LSAFE s ≠ SEs_MON_b s n := Nat.ne_of_lt (by simp only [SEs_LSAFE, SEs_MON_b]; omega)
  have hrd : (c.setFld (SEs_MON_b_MON s n) v).rd (SEs_LSAFE s) = c.rd (SEs_LSAFE s) := Block.rd_setFld_ne c _ hne v
  rw [Block.monBeam_idle h.idle]
  exact {
    read := fun k hk => by
      rw [Block.modSe_fld]
      by_cases hkn : k = n
      · subst hkn
        exact (Block.fld_setFld_same c _ rfl _).trans (Nat.mod_eq_of_lt (BitVec.isLt _))
      · have hmon : SEs_MON_b s n ≠ SEs_MON_b s k := by
          simp only [SEs_MON_b]
          omega
        exact (Block.fld_setFld_apart c _ _ (apart_of_reg_ne hmon) _).trans (h.read k (by omega))
    idle := by
      have hidle := h.idle
      unfold Block.isWriting at hidle ⊢
      rw [Block.modSe_on, Block.modSe_fld, Block.modSe_wp, Block.on_of_rd (g := SEs_LSAFE_WGATE s) hrd,
        Block.fld_of_rd (g := SEs_LSAFE_MODE s) hrd]
      exact hidle
    age := (congrArg Se.age (vget_vset_same ..)).trans h.age
    irq := h.irq
    regs := (h.regs.setFld (f := SEs_MON_b_MON s n) (List.mem_map_of_mem (List.mem_range.mpr hn)) v).modSe s _ }

theorem Block.monBeams_monitored {b : Block} {s : Fin 4} (h : b.isWriting s = false) (mon : Vector (BitVec 16) 16)
    {n : Nat} (hn : n ≤ 16) : b.Monitored s mon (b.monBeams s mon n) n := by
  induction n with
  | zero => exact ⟨fun _ hk => absurd hk (Nat.not_lt_zero _), h, rfl, rfl, Block.regsOnly_refl _ b⟩
  | succ n ih =>
    rw [Block.monBeams_succ]
    exact (ih (by omega)).step hn

/-- A reading of the frame lies above MAXPWR. -/
def Block.overPower (b : Block) (s : Fin 4) (mon : Vector (BitVec 16) 16) : Bool :=
  mon.toList.any fun v => b.fld (SEs_MAXPWR_MAXPWR s) < v.toNat

theorem Block.overPower_iff {b : Block} {s : Fin 4} {mon : Vector (BitVec 16) 16} :
    b.overPower s mon = true ↔ ∃ i : Fin 16, b.fld (SEs_MAXPWR_MAXPWR s) < mon[i].toNat := by
  rw [Block.overPower, Vector.any_toList, Vector.any_eq_true]
  simp only [decide_eq_true_eq]
  exact ⟨fun ⟨i, hi, h⟩ => ⟨⟨i, hi⟩, h⟩, fun ⟨i, h⟩ => ⟨i, i.isLt, h⟩⟩

theorem exec_monitor_up {s : State} {u : Fin 4} (hs : s.part.hasSurf u = true) (hl : s.on (SEs_STAT_LINK_UP u) = true)
    (mon : Vector (BitVec 16) 16) : exec (.monitor u mon) s = s.upd fun b =>
      if b.overPower u mon then (((b.seHeard u).monBeams u mon 16).setFld (SFs_INTLK_MON u) 1).shut u 4
      else (b.seHeard u).monBeams u mon 16 := by
  refine State.upd_congr (f := fun b => b.onSurf u _) ?_
  rw [Block.onSurf_present hs, if_neg (by simp [hl])]
  dsimp only
  rw [Block.foldl_monBeam]
  rfl

theorem does_monitor_stores {s : State} {u : Fin 4} (hs : s.part.hasSurf u = true) (hl : s.on (SEs_STAT_LINK_UP u) = true)
    (hw : s.isWriting u = false) {mon : Vector (BitVec 16) 16}
    (hmax : ∀ i : Fin 16, mon[i].toNat ≤ s.fld (SEs_MAXPWR_MAXPWR u)) :
    Does (.monitor u mon) s fun t => (∀ i : Fin 16, t.fld (SEs_MON_b_MON u i) = mon[i].toNat) ∧ (vget t.se u).age = 0 ∧
      t.irq = s.irq ∧ Block.regsOnly ((List.range 16).map (SEs_MON_b u)) s.toBlock t.toBlock := by
  have hover : ¬ s.overPower u mon = true := fun h =>
    have ⟨i, hi⟩ := Block.overPower_iff.mp h
    absurd (hmax i) (by omega)
  obtain ⟨hread, _, hage, hirq, hregs⟩ := Block.monBeams_monitored (b := s.seHeard u) hw mon (Nat.le_refl 16)
  refine does_upd (exec_monitor_up hs hl mon) ?_
  rw [if_neg hover]
  refine ⟨fun i => ?_, hage.trans (congrArg Se.age (vget_vset_same ..)), hirq, hregs⟩
  rw [hread i i.isLt]
  simp

theorem does_monitor_shuts {s : State} {u : Fin 4} (hs : s.part.hasSurf u = true) (hl : s.on (SEs_STAT_LINK_UP u) = true)
    {mon : Vector (BitVec 16) 16} (hover : ∃ i : Fin 16, s.fld (SEs_MAXPWR_MAXPWR u) < mon[i].toNat) :
    Does (.monitor u mon) s fun t => t.fld (SFs_INTLK_MON u) = 1 ∧ t.fld (SEs_LSAFE_LDEN u) = 0 ∧
      t.raised (1024 + 40 * u.val + 4) = true := by
  let b := ((s.seHeard u).monBeams u mon 16).setFld (SFs_INTLK_MON u) 1
  have hpart : b.part.hasSurf u = true := ((s.seHeard u).monBeams_part u mon 16).symm ▸ hs
  have hmon : b.fld (SFs_INTLK_MON u) = 1 := Block.fld_setFld_same _ _ rfl 1
  have hheld : b.ldenHeld u = true := by simp [Block.ldenHeld, Block.on_eq, hmon]
  obtain ⟨hlden, _, hraised, _⟩ := Block.shut_shuts hpart hheld (k := 4) (by decide)
  refine does_upd (exec_monitor_up hs hl mon) ?_
  rw [if_pos (Block.overPower_iff.mpr hover)]
  exact ⟨(Block.shut_fld hpart hheld (by decide) (.inl rfl)).trans hmon, hlden, hraised⟩

/-! ### STATUS (R102, R105) -/

/-- The readings of a STATUS frame are stored. -/
def Block.statusStored (b : Block) (s : Fin 4) (temp fault ds : BitVec 16) : Block :=
  (((b.seHeard s).setFld (SEs_TEMP_TEMP s) temp.toNat).setFld (SEs_FAULT_FAULT s) fault.toNat).bump (SEs_ERR_DS_ERR s)
    ds.toNat

/-- Block `t` is `b` with the readings of a STATUS frame stored. -/
structure Block.StatusOf (b t : Block) (s : Fin 4) (temp fault ds : BitVec 16) : Prop where
  temp : t.fld (SEs_TEMP_TEMP s) = temp.toNat
  fault : t.fld (SEs_FAULT_FAULT s) = fault.toNat
  errs : t.fld (SEs_ERR_DS_ERR s) = min (b.fld (SEs_ERR_DS_ERR s) + ds.toNat) (SEs_ERR_DS_ERR s).top
  regs : Block.regsOnly [SEs_TEMP s, SEs_FAULT s, SEs_ERR s] b t

theorem Block.statusStored_stores (b : Block) (s : Fin 4) (temp fault ds : BitVec 16) :
    b.StatusOf (b.statusStored s temp fault ds) s temp fault ds := by
  have htf : SEs_FAULT s ≠ SEs_TEMP s := Nat.ne_of_gt (by simp only [SEs_FAULT, SEs_TEMP]; omega)
  have hte : SEs_ERR s ≠ SEs_TEMP s := Nat.ne_of_lt (by simp only [SEs_ERR, SEs_TEMP]; omega)
  have hfe : SEs_ERR s ≠ SEs_FAULT s := Nat.ne_of_lt (by simp only [SEs_ERR, SEs_FAULT]; omega)
  have hregs : Block.regsOnly [SEs_TEMP s, SEs_FAULT s, SEs_ERR s] b (b.seHeard s) := (Block.regsOnly_refl _ b).modSe s _
  unfold Block.statusStored
  exact {
    temp := by
      rw [Block.fld_bump_apart _ _ _ (apart_of_reg_ne hte), Block.fld_setFld_apart _ _ _ (apart_of_reg_ne htf),
        Block.fld_setFld_same _ _ rfl]
      exact Nat.mod_eq_of_lt temp.isLt
    fault := by
      rw [Block.fld_bump_apart _ _ _ (apart_of_reg_ne hfe), Block.fld_setFld_same _ _ rfl]
      exact Nat.mod_eq_of_lt fault.isLt
    errs := by
      rw [Block.fld_bump_same _ _ rfl, Block.fld_setFld_apart _ _ _ (apart_of_reg_ne hfe.symm),
        Block.fld_setFld_apart _ _ _ (apart_of_reg_ne hte.symm)]
      rfl
    regs := ((hregs.setFld (f := SEs_TEMP_TEMP s) List.mem_cons_self _).setFld (f := SEs_FAULT_FAULT s)
      (List.mem_cons_of_mem _ List.mem_cons_self) _).setFld (f := SEs_ERR_DS_ERR s)
      (List.mem_cons_of_mem _ (List.mem_cons_of_mem _ List.mem_cons_self)) _ }

theorem Block.StatusOf.raiseSurf {b t : Block} {s : Fin 4} {temp fault ds : BitVec 16} (h : b.StatusOf t s temp fault ds)
    (k : Nat) : b.StatusOf (t.raiseSurf s k) s temp fault ds where
  temp := (Block.raise_fld t _ (irqReg_of_ge (by simp only [SEs_TEMP_TEMP, SEs_TEMP]; omega))).trans h.temp
  fault := (Block.raise_fld t _ (irqReg_of_ge (by simp only [SEs_FAULT_FAULT, SEs_FAULT]; omega))).trans h.fault
  errs := (Block.raise_fld t _ (irqReg_of_ge (by simp only [SEs_ERR_DS_ERR, SEs_ERR]; omega))).trans h.errs
  regs := h.regs.raiseSurf s k

theorem exec_status_up {s : State} {u : Fin 4} (hs : s.part.hasSurf u = true) (hl : s.on (SEs_STAT_LINK_UP u) = true)
    (temp fault ds : BitVec 16) : exec (.status u temp fault ds) s = s.upd fun b =>
      if 16 < ds.toNat then (b.statusStored u temp fault ds).raiseSurf u 11 else b.statusStored u temp fault ds := by
  refine State.upd_congr (f := fun b => b.onSurf u _) ?_
  rw [Block.onSurf_present hs, if_neg (by simp [hl])]
  rfl

theorem does_status {s : State} {u : Fin 4} (hs : s.part.hasSurf u = true) (hl : s.on (SEs_STAT_LINK_UP u) = true)
    (temp fault ds : BitVec 16) : Does (.status u temp fault ds) s fun t =>
      t.fld (SEs_TEMP_TEMP u) = temp.toNat ∧ t.fld (SEs_FAULT_FAULT u) = fault.toNat ∧
      t.fld (SEs_ERR_DS_ERR u) = min (s.fld (SEs_ERR_DS_ERR u) + ds.toNat) (SEs_ERR_DS_ERR u).top ∧
      (16 < ds.toNat → t.raised (1024 + 40 * u.val + 11) = true) ∧ (ds.toNat ≤ 16 → t.irq = s.irq) ∧
      Block.regsOnly [SEs_TEMP u, SEs_FAULT u, SEs_ERR u] s.toBlock t.toBlock := by
  have hst := s.statusStored_stores u temp fault ds
  refine does_upd (exec_status_up hs hl temp fault ds) ?_
  split
  · next h16 =>
    obtain ⟨htemp, hfault, herrs, hregs⟩ := hst.raiseSurf 11
    exact ⟨htemp, hfault, herrs, fun _ => Block.raiseSurf_raises (b := s.statusStored u temp fault ds) hs (by decide),
      fun h => absurd h16 (by omega), hregs⟩
  · next h16 => exact ⟨hst.temp, hst.fault, hst.errs, fun h => absurd h h16, fun _ => rfl, hst.regs⟩

/-! ### NOTWRITTEN (R103) -/

theorem does_notwritten {s : State} {u : Fin 4} {p : Pass} {pk : BitVec 16} (hs : s.part.hasSurf u = true)
    (hrun : (vget s.wp u).running = some p) (hp : p.num = pk.toNat) (slot : BitVec 8) (k : Fin 16) :
    Does (.notwritten u pk slot k) s fun t =>
      (vget t.wp u).running = some { p with missed := p.missed ++ [(slot.toNat, k.val)] } ∧ t.regs = s.regs := by
  have hwp : (vget (s.seHeard u).wp u).running = some p := hrun
  refine does_upd (f := fun b => b.onSurf u _) rfl ?_
  rw [Block.onSurf_present hs]
  dsimp only
  rw [hwp, if_pos (by simp [hp])]
  refine ⟨?_, rfl⟩
  rw [Block.vget_modWp_same, hwp]
  rfl

/-! ### Management accesses (R104) -/

section mgmt

variable (b : Block) (s : Fin 4) (addr : BitVec 16) (frame write : Bool) (d : Word)

/-- SEs_MGMT_CMD of an access that begins, but for BUSY. -/
def Block.mgmtCmd : Block :=
  ((b.setFld (SEs_MGMT_CMD_ADDR s) addr.toNat).setBit (SEs_MGMT_CMD_PORT s) frame).setBit (SEs_MGMT_CMD_WR s) write

/-- An access begins; the word to write stands in SEs_MGMT_DATA. -/
def Block.mgmtBegun : Block :=
  ((if write then (b.mgmtCmd s addr frame write).wr (SEs_MGMT_DATA s) d else b.mgmtCmd s addr frame write).setFld
    (SEs_MGMT_CMD_BUSY s) 1).modSe s fun e => { e with mgmt := true }

theorem mgmtData_ne_cmd : SEs_MGMT_CMD s ≠ SEs_MGMT_DATA s :=
  Nat.ne_of_lt (by simp only [SEs_MGMT_CMD, SEs_MGMT_DATA]; omega)

/-- BUSY and the data word leave the command's other fields. -/
theorem Block.mgmtBegun_fld {g : Fld} (hg : g.reg = SEs_MGMT_CMD s) (hb : (SEs_MGMT_CMD_BUSY s).apart g = true) :
    (b.mgmtBegun s addr frame write d).fld g = (b.mgmtCmd s addr frame write).fld g := by
  unfold Block.mgmtBegun
  rw [Block.modSe_fld, Block.fld_setFld_apart _ _ _ hb]
  split
  · exact Block.fld_wr_ne _ (hg ▸ mgmtData_ne_cmd s) d
  · rfl

theorem Block.mgmtBegun_addr : (b.mgmtBegun s addr frame write d).fld (SEs_MGMT_CMD_ADDR s) = addr.toNat := by
  rw [Block.mgmtBegun_fld b s addr frame write d rfl (apart_of_bits (.inr (by simp [SEs_MGMT_CMD_BUSY, SEs_MGMT_CMD_ADDR]))),
    Block.mgmtCmd, Block.fld_setBit_apart _ _ _ (apart_of_bits (.inl (by simp [SEs_MGMT_CMD_WR, SEs_MGMT_CMD_ADDR]))),
    Block.fld_setBit_apart _ _ _ (apart_of_bits (.inl (by simp [SEs_MGMT_CMD_PORT, SEs_MGMT_CMD_ADDR]))),
    Block.fld_setFld_same _ _ rfl]
  exact Nat.mod_eq_of_lt addr.isLt

theorem Block.mgmtBegun_port : (b.mgmtBegun s addr frame write d).fld (SEs_MGMT_CMD_PORT s) = frame.toNat := by
  rw [Block.mgmtBegun_fld b s addr frame write d rfl (apart_of_bits (.inr (by simp [SEs_MGMT_CMD_BUSY, SEs_MGMT_CMD_PORT]))),
    Block.mgmtCmd, Block.fld_setBit_apart _ _ _ (apart_of_bits (.inl (by simp [SEs_MGMT_CMD_WR, SEs_MGMT_CMD_PORT]))),
    Block.fld_setBit_same _ _ rfl]

theorem Block.mgmtBegun_wr : (b.mgmtBegun s addr frame write d).fld (SEs_MGMT_CMD_WR s) = write.toNat := by
  rw [Block.mgmtBegun_fld b s addr frame write d rfl (apart_of_bits (.inr (by simp [SEs_MGMT_CMD_BUSY, SEs_MGMT_CMD_WR]))),
    Block.mgmtCmd, Block.fld_setBit_same _ _ rfl]

theorem Block.mgmtCmd_regsOnly : Block.regsOnly [SEs_MGMT_CMD s] b (b.mgmtCmd s addr frame write) :=
  (((Block.regsOnly_refl _ b).setFld (f := SEs_MGMT_CMD_ADDR s) List.mem_cons_self _).setFld (f := SEs_MGMT_CMD_PORT s)
    List.mem_cons_self _).setFld (f := SEs_MGMT_CMD_WR s) List.mem_cons_self _

theorem Block.mgmtBegun_data :
    (b.mgmtBegun s addr frame write d).rd (SEs_MGMT_DATA s) = if write then d else b.rd (SEs_MGMT_DATA s) := by
  unfold Block.mgmtBegun
  rw [Block.modSe_rd, Block.rd_setFld_ne _ _ (mgmtData_ne_cmd s).symm]
  split
  · exact Block.rd_wr_same _ _ d
  · exact b.mgmtCmd_regsOnly s addr frame write _ (mt List.mem_singleton.mp (mgmtData_ne_cmd s).symm)
      (irqReg_of_ge (by simp only [SEs_MGMT_DATA]; omega))

theorem Block.mgmtBegun_regsOnly :
    Block.regsOnly [SEs_MGMT_CMD s, SEs_MGMT_DATA s] b (b.mgmtBegun s addr frame write d) := by
  have h := (b.mgmtCmd_regsOnly s addr frame write).mono (List.subset_append_left _ [SEs_MGMT_DATA s])
  exact (((h.wr (List.mem_cons_of_mem _ List.mem_cons_self) d).ite h).setFld (f := SEs_MGMT_CMD_BUSY s)
    List.mem_cons_self 1).modSe s _

/-- The access goes out on the link, or to the ID memory. -/
def Block.mgmtSent : Block :=
  if frame then b.sedge s (.mgmt write (addr.toNat % 2 ^ 15) d) else b.emit (.idMem s addr.toNat write d)

theorem Block.mgmtSent_frame : Frame [.out] b (b.mgmtSent s addr frame write d) := by
  unfold Block.mgmtSent
  split
  · exact frame_sedge .refl s _ (List.Subset.refl _)
  · exact frame_emit .refl _ (List.Subset.refl _)

theorem Block.mgmtSent_rd (o : Nat) : (b.mgmtSent s addr frame write d).rd o = b.rd o :=
  have h := b.mgmtSent_frame s addr frame write d
  Block.rd_congr (h.same .part (by decide)) (h.same .regs (by decide)) o

end mgmt

theorem exec_mgmtAccess_idle {s : State} {u : Fin 4} (hs : s.part.hasSurf u = true)
    (hb : s.on (SEs_MGMT_CMD_BUSY u) = false) (addr : BitVec 16) (frame write : Bool) (d : Word) : exec (.mgmtAccess u addr frame write d) s =
      s.upd fun b => (b.mgmtBegun u addr frame write d).mgmtSent u addr frame write d := by
  refine State.upd_congr (f := fun b => b.onSurf u _) ?_
  rw [Block.onSurf_present hs, if_neg (by simp [hb])]
  rfl

theorem exec_mgmtAccess_busy {s : State} {u : Fin 4} (hb : s.on (SEs_MGMT_CMD_BUSY u) = true) (addr : BitVec 16)
    (frame write : Bool) (d : Word) : exec (.mgmtAccess u addr frame write d) s = .next s :=
  State.upd_same (f := fun b => b.onSurf u _) (Block.onSurf_same (if_pos hb))

theorem does_mgmtAccess {s : State} {u : Fin 4} (hs : s.part.hasSurf u = true) (hb : s.on (SEs_MGMT_CMD_BUSY u) = false)
    (addr : BitVec 16) (frame write : Bool) (d : Word) : Does (.mgmtAccess u addr frame write d) s fun t =>
      t.fld (SEs_MGMT_CMD_BUSY u) = 1 ∧ t.fld (SEs_MGMT_CMD_ADDR u) = addr.toNat ∧
      t.fld (SEs_MGMT_CMD_PORT u) = frame.toNat ∧ t.fld (SEs_MGMT_CMD_WR u) = write.toNat ∧
      t.rd (SEs_MGMT_DATA u) = (if write then d else s.rd (SEs_MGMT_DATA u)) ∧ (vget t.se u).mgmt = true ∧
      Block.regsOnly [SEs_MGMT_CMD u, SEs_MGMT_DATA u] s.toBlock t.toBlock := by
  let b := s.mgmtBegun u addr frame write d
  have hsent := b.mgmtSent_frame u addr frame write d
  have hrd : ∀ o, (b.mgmtSent u addr frame write d).rd o = b.rd o := b.mgmtSent_rd u addr frame write d
  have hse : (b.mgmtSent u addr frame write d).se = b.se := hsent.same .se (by decide)
  refine does_upd (exec_mgmtAccess_idle hs hb addr frame write d)
    ⟨(Block.fld_of_rd (hrd _)).trans (Block.fld_setFld_same _ (SEs_MGMT_CMD_BUSY u) rfl 1),
      (Block.fld_of_rd (hrd _)).trans (s.mgmtBegun_addr u addr frame write d),
      (Block.fld_of_rd (hrd _)).trans (s.mgmtBegun_port u addr frame write d),
      (Block.fld_of_rd (hrd _)).trans (s.mgmtBegun_wr u addr frame write d),
      (hrd _).trans (s.mgmtBegun_data u addr frame write d), ?_, (s.mgmtBegun_regsOnly u addr frame write d).frame hsent⟩
  show (vget (b.mgmtSent u addr frame write d).se u).mgmt = true
  rw [hse]
  exact congrArg Se.mgmt (vget_vset_same ..)

/-- Block `t` is `b` with the management access of the surface ended: a read leaves its result `d`. -/
def Block.MgmtEnded (b t : Block) (s : Fin 4) (d : Word) : Prop :=
  t.fld (SEs_MGMT_CMD_BUSY s) = 0 ∧ (vget t.se s).mgmt = false ∧
    t.rd (SEs_MGMT_DATA s) = (if b.on (SEs_MGMT_CMD_WR s) then b.rd (SEs_MGMT_DATA s) else d) ∧
    Block.regsOnly [SEs_MGMT_CMD s, SEs_MGMT_DATA s] b t

theorem Block.mgmtDone_ends (b : Block) (s : Fin 4) (d : Word) : b.MgmtEnded (b.mgmtDone s d) s d := by
  have h := Block.regsOnly_refl [SEs_MGMT_CMD s, SEs_MGMT_DATA s] b
  unfold Block.mgmtDone
  refine ⟨Block.fld_setFld_same _ (SEs_MGMT_CMD_BUSY s) rfl 0, congrArg Se.mgmt (vget_vset_same ..), ?_,
    ((h.ite (h.wr (List.mem_cons_of_mem _ List.mem_cons_self) d)).setFld (f := SEs_MGMT_CMD_BUSY s)
      List.mem_cons_self 0).modSe s _⟩
  rw [Block.modSe_rd, Block.rd_setFld_ne _ _ (mgmtData_ne_cmd s).symm]
  split
  · rfl
  · exact Block.rd_wr_same _ _ d

theorem does_mgmtRsp {s : State} {u : Fin 4} (hs : s.part.hasSurf u = true) (hm : (vget s.se u).mgmt = true)
    (hp : s.on (SEs_MGMT_CMD_PORT u) = true) (d : Word) :
    Does (.mgmtRsp u d) s fun t => s.MgmtEnded t.toBlock u d := by
  have hheard : (vget (s.seHeard u).se u).mgmt = true := (congrArg Se.mgmt (vget_vset_same ..)).trans hm
  refine does_upd (f := fun b => b.onSurf u _) rfl ?_
  rw [Block.onSurf_present hs]
  dsimp only
  rw [hheard, if_pos (by exact hp)]
  exact (s.seHeard u).mgmtDone_ends u d

theorem does_mgmtAccessDone {s : State} {u : Fin 4} (hs : s.part.hasSurf u = true) (hm : (vget s.se u).mgmt = true)
    (hp : s.on (SEs_MGMT_CMD_PORT u) = false) (d : Word) :
    Does (.mgmtAccessDone u d) s fun t => s.MgmtEnded t.toBlock u d := by
  refine does_upd (f := fun b => b.onSurf u _) rfl ?_
  rw [Block.onSurf_present hs, if_pos (by simp [hm, hp])]
  exact s.mgmtDone_ends u d

/-! ### Beam powers and the latch (R118, R519) -/

theorem does_setBeamPower_read {s : State} {u : Fin 4} (hs : s.part.hasSurf u = true) (k : Fin 16) (pk bias : BitVec 16) :
    Does (.setBeamPower u k true pk bias) s fun t => t.fld (SEs_BRD_b_READ u k) = pk.toNat ∧
      (vget t.se u).powerDue = true ∧ Block.regsOnly [SEs_BRD_b u k] s.toBlock t.toBlock := by
  refine does_upd (f := fun b => b.onSurf u _) rfl ?_
  rw [Block.onSurf_present hs]
  exact ⟨(Block.fld_setFld_same s.toBlock (SEs_BRD_b_READ u k) rfl _).trans (Nat.mod_eq_of_lt pk.isLt),
    congrArg Se.powerDue (vget_vset_same ..),
    ((Block.regsOnly_refl _ _).setFld (f := SEs_BRD_b_READ u k) List.mem_cons_self _).modSe u _⟩

theorem Block.calPowerWrite_idle {b : Block} {s : Fin 4} (h : (vget b.cal.surf s).run = none) :
    b.calPowerWrite s = b := by
  unfold Block.calPowerWrite
  rw [h]

/-- A beam's write powers are set, for the next POWER frame. -/
def Block.powerSet (b : Block) (s : Fin 4) (k : Fin 16) (pk bias : BitVec 16) : Block :=
  ((b.setFld (SEs_BPWR_b_PEAK s k) pk.toNat).setFld (SEs_BPWR_b_BIAS s k) bias.toNat).modSe s fun e =>
    { e with powerDue := true }

theorem Block.powerSet_sets (b : Block) (s : Fin 4) (k : Fin 16) (pk bias : BitVec 16) :
    (b.powerSet s k pk bias).fld (SEs_BPWR_b_PEAK s k) = pk.toNat ∧
      (b.powerSet s k pk bias).fld (SEs_BPWR_b_BIAS s k) = bias.toNat ∧
      (vget (b.powerSet s k pk bias).se s).powerDue = true ∧ (b.powerSet s k pk bias).irq = b.irq ∧
      Block.regsOnly [SEs_BPWR_b s k] b (b.powerSet s k pk bias) := by
  have hapart : (SEs_BPWR_b_BIAS s k).apart (SEs_BPWR_b_PEAK s k) = true :=
    apart_of_bits (.inr (by simp [SEs_BPWR_b_BIAS, SEs_BPWR_b_PEAK]))
  unfold Block.powerSet
  refine ⟨?_, ?_, congrArg Se.powerDue (vget_vset_same ..), rfl,
    (((Block.regsOnly_refl _ b).setFld (f := SEs_BPWR_b_PEAK s k) List.mem_cons_self _).setFld (f := SEs_BPWR_b_BIAS s k)
      List.mem_cons_self _).modSe s _⟩
  · rw [Block.modSe_fld, Block.fld_setFld_apart _ _ _ hapart, Block.fld_setFld_same _ _ rfl]
    exact Nat.mod_eq_of_lt pk.isLt
  · rw [Block.modSe_fld, Block.fld_setFld_same _ _ rfl]
    exact Nat.mod_eq_of_lt bias.isLt

theorem exec_setBeamPower_write {s : State} {u : Fin 4} (hs : s.part.hasSurf u = true)
    (hidle : (vget s.cal.surf u).run = none) (k : Fin 16) (pk bias : BitVec 16) :
    exec (.setBeamPower u k false pk bias) s = s.upd fun b => b.powerSet u k pk bias := by
  refine State.upd_congr (f := fun b => b.onSurf u _) ?_
  rw [Block.onSurf_present hs]
  exact Block.calPowerWrite_idle (b := s.powerSet u k pk bias) hidle

theorem does_latchRelease {s : State} {u : Fin 4} (hs : s.part.hasSurf u = true) :
    Does (.latchRelease u) s fun t => t.fld (SEs_LSAFE_HLATCH u) = 0 ∧ t.fld (SEs_LSAFE_SAFE u) = s.fld (SEs_LSAFE_SAFE u) ∧
      t.fld (SEs_LSAFE_LDEN u) = s.fld (SEs_LSAFE_LDEN u) ∧ Block.regsOnly [SEs_LSAFE u] s.toBlock t.toBlock := by
  refine does_upd (f := fun b => b.onSurf u _) rfl ?_
  rw [Block.onSurf_present hs]
  exact ⟨Block.fld_setFld_same s.toBlock (SEs_LSAFE_HLATCH u) rfl 0,
    Block.fld_setFld_apart s.toBlock _ _ (apart_of_bits (.inr (by simp [SEs_LSAFE_HLATCH, SEs_LSAFE_SAFE]))) 0,
    Block.fld_setFld_apart s.toBlock _ _ (apart_of_bits (.inr (by simp [SEs_LSAFE_HLATCH, SEs_LSAFE_LDEN]))) 0,
    (Block.regsOnly_refl _ _).setFld (f := SEs_LSAFE_HLATCH u) List.mem_cons_self 0⟩

/-- Settles O25: a lemma for each frame and each command. -/
theorem sedgeFrames : Obligations.SedgeFrames := by
  unfold Obligations.SedgeFrames
  intro s u k mon temp fault ds pk bias addr d slot frame write hs
  refine ⟨fun hl hw hmax => does_monitor_stores hs hl hw hmax, fun hl hover => does_monitor_shuts hs hl hover,
    fun hl => does_status hs hl temp fault ds, fun h => does_puFault hs h, does_puFaultRelease hs,
    fun p hrun hp => does_notwritten hs hrun hp slot k, fun hb => does_mgmtAccess hs hb addr frame write d,
    fun hb => exec_mgmtAccess_busy hb addr frame write d, ?_, does_setBeamPower_read hs k pk bias,
    fun hidle => does_upd (exec_setBeamPower_write hs hidle k pk bias) (s.powerSet_sets u k pk bias),
    does_latchRelease hs⟩
  intro c hc hm hp
  rcases List.mem_pair.mp hc with rfl | rfl
  · exact does_mgmtRsp hs hm hp d
  · exact does_mgmtAccessDone hs hm hp d

end Sys2Proof.Machine

/-!
PROOFS. The LDPC pool (R141 to R148): what the arbiter does to the engines, then a lemma for each command.
-/

namespace Sys2Proof.Machine

/-! ### Bits of a field -/

/-- A bit cleared in a field: that bit reads 0, the others as before. -/
theorem Block.onBit_putBit_clear (b : Block) {f : Fld} (hf : f.ok = true) {i k : Nat} (hi : i < f.hi + 1 - f.lo)
    (hk : k < f.hi + 1 - f.lo) : (b.putBit f i false).onBit f k = (!decide (k = i) && b.onBit f k) := by
  have htop : f.top - 2 ^ i = 2 ^ (f.hi + 1 - f.lo) - (2 ^ i + 1) := Nat.sub_right_comm ..
  unfold Block.onBit Block.putBit
  rw [Block.fld_setFld_same _ _ hf, if_neg Bool.false_ne_true, Nat.testBit_mod_two_pow, Nat.testBit_and, htop,
    Nat.testBit_two_pow_sub_succ (Nat.pow_lt_pow_right (by decide) hi), Nat.testBit_two_pow]
  simp [hk, Bool.and_comm, eq_comm]

theorem Block.onBit_of_fld {b c : Block} {g : Fld} (h : c.fld g = b.fld g) (i : Nat) : c.onBit g i = b.onBit g i :=
  congrArg (·.testBit i) h

/-! ### The arbiter (R141) -/

/-- Engine `e` is given its next job, where it is free and in service. -/
def Block.assignTo (b : Block) (e : Nat) : Block :=
  if b.on RC_CTL_EN && b.engOk e && (vget b.rc.engines (Fin.ofNat 20 e)).isNone then
    match b.arbiter with
    | none => b
    | some j => b.giveJob e j
  else b

theorem Block.assign_eq (b : Block) : b.assign = ((List.range 20).foldl Block.assignTo b).rcStat := rfl

theorem Block.giveJob_engines (b : Block) (e : Nat) (j : EngJob) :
    (b.giveJob e j).rc.engines = vset b.rc.engines (Fin.ofNat 20 e) (some j) := by
  cases j <;> rfl

theorem Block.assignTo_frame (b : Block) (e : Nat) : Frame [.wp, .rc] b (b.assignTo e) := by
  unfold Block.assignTo
  split
  · split
    · exact .refl
    · exact frame_giveJob .refl e _ (List.Subset.refl _)
  · exact .refl

theorem Block.assignTo_engine_ne (b : Block) {e : Fin 20} {k : Nat} (h : Fin.ofNat 20 k ≠ e) :
    vget (b.assignTo k).rc.engines e = vget b.rc.engines e := by
  unfold Block.assignTo
  split
  · split
    · rfl
    · rw [Block.giveJob_engines, vget_vset_ne _ h.symm]
  · rfl

theorem Block.assignTo_fault {b : Block} {k : Nat} (h : b.onBit RC_ENG_FAULT_FAULT k = true) : b.assignTo k = b :=
  if_neg (by simp [Block.engOk, h])

theorem Block.rcStat_frame (b : Block) : Frame [.regs] b b.rcStat := frame_rcStat .refl (List.Subset.refl _)

theorem Block.rcStat_regsOnly (b : Block) : Block.regsOnly [RC_STAT] b b.rcStat :=
  ((((Block.regsOnly_refl _ b).setFld (f := RC_STAT_AVAIL) List.mem_cons_self _).setFld (f := RC_STAT_BUSY_V)
    List.mem_cons_self _).setFld (f := RC_STAT_BUSY_R) List.mem_cons_self _).setFld (f := RC_STAT_BUSY_T)
    List.mem_cons_self _

theorem Block.rcStat_cfgErr (b : Block) : b.rcStat.fld RC_STAT_CFG_ERR = b.fld RC_STAT_CFG_ERR := by
  unfold Block.rcStat
  dsimp only
  rw [Block.fld_setFld_apart _ _ _ rfl, Block.fld_setFld_apart _ _ _ rfl, Block.fld_setFld_apart _ _ _ rfl,
    Block.fld_setFld_apart _ _ _ rfl]

theorem Block.assigned_frame (b : Block) : Frame [.wp, .rc] b ((List.range 20).foldl Block.assignTo b) :=
  Frame.foldl .refl fun c k hc => hc.step (List.Subset.refl _) (c.assignTo_frame k)

theorem Block.assign_frame (b : Block) : Frame [.regs, .wp, .rc] b b.assign := frame_assign .refl (List.Subset.refl _)

theorem Block.assign_regsOnly (b : Block) : Block.regsOnly [RC_STAT] b b.assign :=
  Block.regsOnly_trans ((Block.regsOnly_refl _ b).frame b.assigned_frame) (Block.rcStat_regsOnly _)

theorem Block.assign_fld (b : Block) {g : Fld} (hg : g.reg ≠ RC_STAT) (hi : irqReg g.reg = false) :
    b.assign.fld g = b.fld g := b.assign_regsOnly.fld (mt List.mem_singleton.mp hg) hi

theorem Block.assign_cfgErr (b : Block) : b.assign.fld RC_STAT_CFG_ERR = b.fld RC_STAT_CFG_ERR :=
  (Block.rcStat_cfgErr _).trans (Block.fld_of_rd (Block.rd_congr (b.assigned_frame.same .part (by decide))
    (b.assigned_frame.same .regs (by decide)) _))

/-- With the pool held no job is given. -/
theorem Block.assign_held {b : Block} (h : b.on RC_CTL_EN = false) : b.assign = b.rcStat := by
  have hsame : (List.range 20).foldl Block.assignTo b = b :=
    List.foldlRecOn (motive := fun c => c = b) (List.range 20) Block.assignTo rfl fun c hc k _ => by
      subst hc
      exact if_neg (by simp [h])
  rw [Block.assign_eq, hsame]

/-- A faulty engine takes no job. -/
theorem Block.assign_faulty {b : Block} {e : Fin 20} (h : b.onBit RC_ENG_FAULT_FAULT e = true) :
    vget b.assign.rc.engines e = vget b.rc.engines e := by
  have hinv : ((List.range 20).foldl Block.assignTo b).onBit RC_ENG_FAULT_FAULT e = true ∧
      vget ((List.range 20).foldl Block.assignTo b).rc.engines e = vget b.rc.engines e := by
    refine List.foldlRecOn (motive := fun c => c.onBit RC_ENG_FAULT_FAULT e = true ∧
      vget c.rc.engines e = vget b.rc.engines e) (List.range 20) Block.assignTo ⟨h, rfl⟩ fun c hc k hk => ?_
    by_cases hke : Fin.ofNat 20 k = e
    · have hval : e.val = k := hke ▸ Nat.mod_eq_of_lt (List.mem_range.mp hk)
      rw [Block.assignTo_fault (hval ▸ hc.1)]
      exact hc
    · have hf := c.assignTo_frame k
      have hrd := Block.rd_congr (hf.same .part (by decide)) (hf.same .regs (by decide))
      exact ⟨(Block.onBit_of_fld (Block.fld_of_rd (hrd _)) _).trans hc.1, (c.assignTo_engine_ne hke).trans hc.2⟩
  rw [Block.assign_eq, (Block.rcStat_frame _).same .rc (by decide)]
  exact hinv.2

/-! ### Engine faults (R145) -/

/-- A job that an engine has lost returns to its queue. -/
def Block.requeue (b : Block) : Option EngJob → Block
  | none => b
  | some (.verify s q k) => b.modWp (Fin.ofNat 4 s) fun w =>
      { w with jobs := w.jobs.map fun (v : VerifyJob) =>
          if v.wseq = q && v.beam = k then { v with taken := false } else v }
  | some (.rc j) => b.modRc fun r => { r with jobs := j :: r.jobs }

/-- Engine `e` fails and loses its job. -/
def Block.engineFails (b : Block) (e : Fin 20) : Block :=
  ((b.putBit RC_ENG_FAULT_FAULT e true).modRc fun r => { r with engines := vset r.engines e none }).requeue
    (vget b.rc.engines e)

theorem exec_engineParityFault (e : Fin 20) (s : State) :
    exec (.engineParityFault e) s = s.upd fun b => ((b.engineFails e).raise 16).assign := rfl

theorem Block.requeue_engines (b : Block) (job : Option EngJob) : (b.requeue job).rc.engines = b.rc.engines := by
  rcases job with _ | _ | _ <;> rfl

theorem Block.requeue_frame (b : Block) (job : Option EngJob) : Frame [.wp, .rc] b (b.requeue job) := by
  rcases job with _ | ⟨s, q, k⟩ | j
  · exact .refl
  · exact frame_modWp .refl _ _ (by decide)
  · exact frame_modRc (b := b) .refl (fun r => { r with jobs := j :: r.jobs }) (by decide)

theorem Block.requeue_rd (b : Block) (job : Option EngJob) (o : Nat) : (b.requeue job).rd o = b.rd o :=
  Block.rd_congr ((b.requeue_frame job).same .part (by decide)) ((b.requeue_frame job).same .regs (by decide)) o

theorem Block.raise_rc (b : Block) (n : Nat) : (b.raise n).rc = b.rc := (b.raise_frame n).same .rc (by decide)

theorem Block.engineFails_fault (b : Block) (e : Fin 20) : (b.engineFails e).onBit RC_ENG_FAULT_FAULT e = true := by
  have hput := b.onBit_putBit (f := RC_ENG_FAULT_FAULT) rfl (i := e) (k := e) e.isLt
  rw [decide_eq_true rfl, Bool.true_or] at hput
  exact (Block.onBit_of_fld (Block.fld_of_rd (Block.requeue_rd _ _ _)) _).trans hput

theorem Block.engineFails_engine (b : Block) (e : Fin 20) : vget (b.engineFails e).rc.engines e = none := by
  rw [Block.engineFails, Block.requeue_engines]
  exact vget_vset_same ..

theorem does_engineParityFault (s : State) (e : Fin 20) : Does (.engineParityFault e) s fun t =>
    t.onBit RC_ENG_FAULT_FAULT e = true ∧ vget t.rc.engines e = none ∧ t.raised 16 = true := by
  let b := (s.engineFails e).raise 16
  have hfault : b.onBit RC_ENG_FAULT_FAULT e = true :=
    (Block.onBit_of_fld (Block.raise_fld _ _ rfl) _).trans (s.engineFails_fault e)
  refine does_upd (exec_engineParityFault e s) ⟨?_, ?_, ?_⟩
  · exact (Block.onBit_of_fld (b.assign_fld (by decide) rfl) _).trans hfault
  · exact (Block.assign_faulty hfault).trans
      ((congrArg (fun r => vget r.engines e) (Block.raise_rc _ _)).trans (s.engineFails_engine e))
  · unfold Block.raised
    dsimp only
    rw [b.assign_frame.same .irq (by decide)]
    exact Block.raise_raised_same (srcPresent_power _ (by decide))

theorem does_engineParityFault_requeues {s : State} {e : Fin 20} {j : RcJob} (h : vget s.rc.engines e = some (.rc j))
    (hen : s.on RC_CTL_EN = false) : Does (.engineParityFault e) s fun t => t.rc.jobs = j :: s.rc.jobs := by
  have hjobs : (s.engineFails e).rc.jobs = j :: s.rc.jobs := by
    rw [Block.engineFails, h]
    rfl
  have hput : (s.putBit RC_ENG_FAULT_FAULT e true).rd RC_CTL = s.rd RC_CTL := Block.rd_putBit_ne _ _ (by decide) _ _
  have hrd : ((s.engineFails e).raise 16).rd RC_CTL = s.rd RC_CTL :=
    (Block.raise_rd _ _ rfl).trans ((Block.requeue_rd _ _ _).trans hput)
  refine does_upd (exec_engineParityFault e s) ?_
  rw [Block.assign_held ((Block.on_of_rd (g := RC_CTL_EN) hrd).trans hen)]
  dsimp only
  rw [(Block.rcStat_frame _).same .rc (by decide), Block.raise_rc, hjobs]

theorem exec_engineRestore (e : Fin 20) (s : State) :
    exec (.engineRestore e) s = s.upd fun b => (b.putBit RC_ENG_FAULT_FAULT e false).assign := rfl

theorem does_engineRestore (s : State) (e : Fin 20) : Does (.engineRestore e) s fun t =>
    t.onBit RC_ENG_FAULT_FAULT e = false ∧
    (∀ i : Fin 20, i ≠ e → t.onBit RC_ENG_FAULT_FAULT i = s.onBit RC_ENG_FAULT_FAULT i) ∧ t.irq = s.irq ∧
    Block.regsOnly [RC_ENG_FAULT, RC_STAT] s.toBlock t.toBlock := by
  let b := s.putBit RC_ENG_FAULT_FAULT e false
  have hbit : ∀ i : Fin 20, b.assign.onBit RC_ENG_FAULT_FAULT i =
      (!decide (i.val = e.val) && s.onBit RC_ENG_FAULT_FAULT i) := fun i =>
    (Block.onBit_of_fld (b.assign_fld (by decide) rfl) _).trans (s.onBit_putBit_clear rfl e.isLt i.isLt)
  have hput : Block.regsOnly [RC_ENG_FAULT, RC_STAT] s.toBlock b :=
    (Block.regsOnly_refl _ _).setFld (f := RC_ENG_FAULT_FAULT) List.mem_cons_self _
  refine does_upd (exec_engineRestore e s) ⟨?_, fun i hi => ?_, b.assign_frame.same .irq (by decide),
    Block.regsOnly_trans hput (b.assign_regsOnly.mono (List.subset_cons_self ..))⟩
  · rw [hbit e, decide_eq_true rfl, Bool.not_true, Bool.false_and]
  · rw [hbit i, decide_eq_false (Fin.val_ne_of_ne hi), Bool.not_false, Bool.true_and]

/-! ### The split (R142) -/

theorem exec_rcSplitWrite (vmin rmin retry : BitVec 5) (s : State) : exec (.rcSplitWrite vmin rmin retry) s =
    s.upd fun b => (b.splitWrite vmin.toNat rmin.toNat retry.toNat).assign := rfl

theorem Block.splitWrite_ignored {vmin rmin retry : Nat} (h : 20 < vmin + rmin ∨ retry = 0) (b : Block) :
    b.splitWrite vmin rmin retry = (b.setFld RC_STAT_CFG_ERR 1).raise 17 := if_pos h

theorem Block.splitWrite_stored {vmin rmin retry : Nat} (h : vmin + rmin ≤ 20) (h0 : retry ≠ 0) (hr : retry ≤ 20)
    (b : Block) : b.splitWrite vmin rmin retry =
      ((b.setFld RC_SPLIT_VMIN vmin).setFld RC_SPLIT_RMIN rmin).setFld RC_SPLIT_RETRYMAX retry := by
  rw [Block.splitWrite, if_neg (by omega), Nat.min_eq_left hr]

theorem does_rcSplitWrite_ignored {vmin rmin retry : BitVec 5} (h : 20 < vmin.toNat + rmin.toNat ∨ retry = 0)
    (s : State) : Does (.rcSplitWrite vmin rmin retry) s fun t =>
      t.fld RC_STAT_CFG_ERR = 1 ∧ t.raised 17 = true ∧ t.rd RC_SPLIT = s.rd RC_SPLIT ∧
      Block.regsOnly [RC_STAT] s.toBlock t.toBlock := by
  let b := (s.setFld RC_STAT_CFG_ERR 1).raise 17
  have hregs : Block.regsOnly [RC_STAT] s.toBlock b.assign := Block.regsOnly_trans
    (((Block.regsOnly_refl _ s.toBlock).setFld (f := RC_STAT_CFG_ERR) List.mem_cons_self 1).raise 17) b.assign_regsOnly
  refine does_upd (exec_rcSplitWrite vmin rmin retry s) ?_
  rw [Block.splitWrite_ignored (h.imp_right fun h0 => by rw [h0]; rfl)]
  refine ⟨?_, ?_, hregs _ (by decide) rfl, hregs⟩
  · exact b.assign_cfgErr.trans ((Block.raise_fld _ _ rfl).trans
      (Block.fld_setFld_same s.toBlock RC_STAT_CFG_ERR rfl 1))
  · unfold Block.raised
    dsimp only
    rw [b.assign_frame.same .irq (by decide)]
    exact Block.raise_raised_same (srcPresent_power _ (by decide))

theorem does_rcSplitWrite_stored {vmin rmin retry : BitVec 5} (h : vmin.toNat + rmin.toNat ≤ 20) (h0 : retry ≠ 0)
    (hr : retry.toNat ≤ 20) (s : State) : Does (.rcSplitWrite vmin rmin retry) s fun t =>
      t.fld RC_SPLIT_VMIN = vmin.toNat ∧ t.fld RC_SPLIT_RMIN = rmin.toNat ∧ t.fld RC_SPLIT_RETRYMAX = retry.toNat ∧
      t.irq = s.irq ∧ Block.regsOnly [RC_SPLIT, RC_STAT] s.toBlock t.toBlock := by
  let v := s.setFld RC_SPLIT_VMIN vmin.toNat
  let r := v.setFld RC_SPLIT_RMIN rmin.toNat
  let b := r.setFld RC_SPLIT_RETRYMAX retry.toNat
  have hregs : Block.regsOnly [RC_SPLIT, RC_STAT] s.toBlock b :=
    (((Block.regsOnly_refl _ s.toBlock).setFld (f := RC_SPLIT_VMIN) List.mem_cons_self _).setFld (f := RC_SPLIT_RMIN)
      List.mem_cons_self _).setFld (f := RC_SPLIT_RETRYMAX) List.mem_cons_self _
  have hfld : ∀ g : Fld, g.reg = RC_SPLIT → b.assign.fld g = b.fld g := fun g hg =>
    b.assign_fld (hg ▸ by decide) (hg ▸ rfl)
  refine does_upd (exec_rcSplitWrite vmin rmin retry s) ?_
  rw [Block.splitWrite_stored h (fun hz => h0 (BitVec.eq_of_toNat_eq hz)) hr]
  refine ⟨(hfld RC_SPLIT_VMIN rfl).trans ?_, (hfld RC_SPLIT_RMIN rfl).trans ?_, (hfld RC_SPLIT_RETRYMAX rfl).trans ?_,
    b.assign_frame.same .irq (by decide),
    Block.regsOnly_trans hregs (b.assign_regsOnly.mono (List.subset_cons_self ..))⟩
  · rw [Block.fld_setFld_apart _ _ _ rfl, Block.fld_setFld_apart _ _ _ rfl, Block.fld_setFld_same _ _ rfl]
    exact Nat.mod_eq_of_lt vmin.isLt
  · rw [Block.fld_setFld_apart _ _ _ rfl, Block.fld_setFld_same _ _ rfl]
    exact Nat.mod_eq_of_lt rmin.isLt
  · rw [Block.fld_setFld_same _ _ rfl]
    exact Nat.mod_eq_of_lt retry.isLt

/-! ### Re-read passes (R148) -/

/-- A stripe after a re-read pass: the pass counts, and its failed cells wait to be read. -/
def RdStripe.reread (t : RdStripe) : RdStripe :=
  { t with rereads := t.rereads + 1, cells := t.cells.map fun c => if c = .failed 5 then .unread else c }

/-- The number of the pass that the surface's stripes wait for. -/
def Block.rereadPass (b : Block) (s : Fin 4) : Nat :=
  (b.rc.stripes.filter (b.rc.waiting s)).foldl (fun m t => max m (t.rereads + 1)) 0

theorem exec_reReadPass (u : Fin 4) (s : State) : exec (.reReadPass u) s = s.upd fun b => b.onSurf u fun b =>
    if (b.rc.stripes.filter (b.rc.waiting u)).isEmpty then b
    else ((b.reReadPower u (b.rereadPass u)).modSe u fun e => { e with boost := 2 ≤ b.rereadPass u }).modRc fun r =>
      { r with stripes := r.stripes.map fun t => if r.waiting u t then t.reread else t } := rfl

theorem does_reReadPass {s : State} {u : Fin 4} (hs : s.part.hasSurf u = true)
    (hw : ∃ x ∈ s.rc.stripes, s.rc.waiting u x = true) : Does (.reReadPass u) s fun t =>
      t.rc.stripes = s.rc.stripes.map (fun x => if s.rc.waiting u x then x.reread else x) ∧
      t.rc.jobs = s.rc.jobs ∧ t.regs = s.regs := by
  obtain ⟨x, hx, hwx⟩ := hw
  have hne : ¬ (s.rc.stripes.filter (s.rc.waiting u)).isEmpty = true := fun he =>
    List.ne_nil_of_mem (List.mem_filter.mpr ⟨hx, hwx⟩) (List.isEmpty_iff.mp he)
  have hpower : Frame [.out] s.toBlock (s.reReadPower u (s.rereadPass u)) :=
    frame_reReadPower .refl u _ (List.Subset.refl _)
  have hrc : (s.reReadPower u (s.rereadPass u)).rc = s.rc := hpower.same .rc (by decide)
  refine does_upd (exec_reReadPass u s) ?_
  rw [Block.onSurf_present hs, if_neg hne]
  exact ⟨by rw [← hrc]; rfl, (congrArg Rc.jobs hrc :), hpower.same .regs (by decide)⟩

/-- Settles O27: a lemma for each command and case. -/
theorem readPool : Obligations.ReadPool := by
  unfold Obligations.ReadPool
  intro s e vmin rmin retry u
  exact ⟨does_engineParityFault s e, fun j h hen => does_engineParityFault_requeues h hen, does_engineRestore s e,
    fun h => does_rcSplitWrite_ignored h s, fun h h0 hr => does_rcSplitWrite_stored h h0 hr s, does_reReadPass⟩

end Sys2Proof.Machine

/-!
PROOFS. Calibrations of kinds 0, 1, 2 and 4 (R468 to R474): how one starts and ends, what a bad one brings, the
comparator maps of kind 0, the loop gains of kind 2; then a lemma for each command and case.
-/

namespace Sys2Proof.Machine

/-! ### The start (R468, R481) -/

/-- Block `v` is `b` with a calibration of kind `k` begun on the surface, and nothing else. -/
def Block.CalBegun (b v : Block) (s : Fin 4) (k : Nat) : Prop :=
  v.onBit CAL_STAT_BUSY s = true ∧
    (∃ r, (vget v.cal.surf s).run = some r ∧ r.kind = k ∧ r.start = b.now ∧ r.tmo = b.fld (CAL_TMO_k_TMO k) ∧
      r.band = (vget b.wp s).band) ∧ Block.regsOnly [CAL_STAT] b v ∧ v.irq = b.irq ∧ v.le = b.le

theorem Block.calBegin_begins (b : Block) (s : Fin 4) (k : Nat) (area : Bool) (peak0 : List Nat) :
    b.CalBegun (b.calBegin s k (b.bandNow s) area peak0) s k := by
  unfold Block.calBegin
  dsimp only
  set c := b.modCalSurf s _
  have hput := c.onBit_putBit (f := CAL_STAT_BUSY) rfl (i := s.val) (k := s.val) s.isLt
  rw [decide_eq_true rfl, Bool.true_or] at hput
  have hregs : Block.regsOnly [CAL_STAT] b c := (Block.regsOnly_refl _ b).same
  exact ⟨(Block.onBit_of_fld (Block.fld_setFld_apart _ _ _ rfl _) _).trans hput,
    ⟨_, congrArg CalSurf.run (b.vget_modCalSurf_same s _), rfl, rfl, rfl, rfl⟩, (hregs.busy s true).calKind, rfl, rfl⟩

/-- The command's part before any finding: the calibration starts, where it may. -/
def Block.calStart (b : Block) (s : Fin 4) (k : Nat) (bg : Bool) : Block :=
  if b.calMay s k bg then b.calBegin s k (b.bandNow s) false [] else b

theorem Block.calStart_begins {b : Block} {s : Fin 4} {k : Nat} {bg : Bool} (h : b.calMay s k bg = true) :
    b.CalBegun (b.calStart s k bg) s k := by
  rw [Block.calStart, if_pos h]
  exact b.calBegin_begins s k false []

theorem Block.calStart_not {b : Block} {s : Fin 4} {k : Nat} {bg : Bool} (h : b.calMay s k bg = false) :
    b.calStart s k bg = b := if_neg (by simp [h])

/-- The surface is idle, and kind `k` is enabled on it (R468). -/
def Block.CalIdle (b : Block) (s : Fin 4) (k : Nat) (bg : Bool) : Prop :=
  b.part.hasSurf s = true ∧ (vget b.cal.surf s).run = none ∧ b.onBit CAL_CTL_AUTO k = true ∧
    (bg = true → b.on CAL_CTL_BGEN = true) ∧ b.pw.dyke = none

/-- The unit of kind `k` is free (R468). -/
def Block.calUnitFree (b : Block) (s : Fin 4) (k : Nat) : Bool :=
  if k = 0 then !b.inPass s
  else if k = 1 then !b.on (SEs_LSAFE_LDEN s) && (vget b.servo s).fmode = 0
  else if k = 2 then !b.on (SEs_LSAFE_WGATE s) && (vget b.servo s).tmode = 3
  else !b.inPass s && !b.on (SEs_LSAFE_SAFE s)

theorem Block.CalIdle.may {b : Block} {s : Fin 4} {k : Nat} {bg : Bool} (h : b.CalIdle s k bg)
    (hunit : b.calUnitFree s k = true) : b.calMay s k bg = true := by
  obtain ⟨-, hrun, hauto, hbgen, hdyke⟩ := h
  have hbg : (!bg || b.on CAL_CTL_BGEN) = true := by
    cases bg
    · rfl
    · exact hbgen rfl
  unfold Block.calUnitFree at hunit
  rw [Block.calMay, hrun, hauto, hbg, hdyke, hunit]
  rfl

/-! ### The end (R474, R479) -/

/-- No calibration runs on the surface. -/
def Block.CalEnded (b : Block) (s : Fin 4) : Prop := b.onBit CAL_STAT_BUSY s = false ∧ (vget b.cal.surf s).run = none

theorem Block.CalEnded.keep {b c : Block} {s : Fin 4} (h : b.CalEnded s)
    (hf : c.fld CAL_STAT_BUSY = b.fld CAL_STAT_BUSY) (hr : (vget c.cal.surf s).run = (vget b.cal.surf s).run) :
    c.CalEnded s :=
  ⟨(Block.onBit_of_fld hf _).trans h.1, hr.trans h.2⟩

theorem Block.calEnd_busy {b : Block} {s : Fin 4} {c : CalRun} (h : (vget b.cal.surf s).run = some c) (result : Nat)
    (values : List Nat) : (b.calEnd s result values).onBit CAL_STAT_BUSY s = false := by
  have hput := (b.modCalSurf s fun x => { x with run := none }).onBit_putBit_clear (f := CAL_STAT_BUSY) rfl
    (i := s.val) (k := s.val) s.isLt s.isLt
  rw [decide_eq_true rfl, Bool.not_true, Bool.false_and] at hput
  unfold Block.calEnd
  rw [h]
  dsimp only
  refine (Block.onBit_of_fld (Block.fld_of_rd (Block.telRecord_rd _ _ _ _ rfl)) _).trans (Eq.trans ?_ hput)
  exact Block.onBit_of_fld (Block.fld_setFld_apart _ _ _ rfl _) _

theorem Block.calEnd_ended {b : Block} {s : Fin 4} {c : CalRun} (h : (vget b.cal.surf s).run = some c) (result : Nat)
    (values : List Nat) : (b.calEnd s result values).CalEnded s :=
  ⟨Block.calEnd_busy h result values, b.calEnd_run s result values⟩

/-- A calibration that ends leaves what else is kept of the surface. -/
theorem Block.calEnd_surf {b : Block} {s : Fin 4} {c : CalRun} (h : (vget b.cal.surf s).run = some c) (result : Nat)
    (values : List Nat) : vget (b.calEnd s result values).cal.surf s = { vget b.cal.surf s with run := none } := by
  unfold Block.calEnd
  rw [h]
  dsimp only
  rw [Block.telRecord_surf]
  exact b.vget_modCalSurf_same s _

theorem Block.calEnd_raised {b : Block} (s : Fin 4) (result : Nat) (values : List Nat) {n : Nat}
    (h : b.raised n = true) : (b.calEnd s result values).raised n = true :=
  (Calm.refl.calEnd s result values).raised n h

theorem Block.calRun_eq {b : Block} {s : Fin 4} {c : CalRun} (h : (vget b.cal.surf s).run = some c) :
    b.calRun s c.kind = some c := by
  simp [Block.calRun, h]

/-! ### Bad results (R474) -/

/-- Block `t` is `b` after a bad result on the surface: no calibration runs, source 48, one more counted. -/
def Block.BadResult (b t : Block) (s : Fin 4) : Prop :=
  t.CalEnded s ∧ t.raised 48 = true ∧ (b.fld CAL_CNT_BAD < 255 → t.fld CAL_CNT_BAD = b.fld CAL_CNT_BAD + 1)

/-- The calibration ends with result 1; it is counted, with source 48. -/
def Block.calFail (b : Block) (s : Fin 4) (values : List Nat) : Block :=
  ((b.calEnd s 1 values).bump CAL_CNT_BAD 1).raise 48

/-- Writing on the surface is barred until the next load, after a bad calibration of kind 1. -/
def Block.barWrites (b : Block) (s : Fin 4) : Block :=
  (b.modCalSurf s fun k => { k with barred := true }).modServo s fun v => { v with unavail := true }

/-- What a bad calibration brings besides. -/
def Block.afterBad (b : Block) (s : Fin 4) (c : CalRun) : Block :=
  match c.kind with
  | 0 => b.modCal fun k => { k with adcBoot := insertSrc s.val k.adcBoot }
  | 1 => (b.barWrites s).raiseSurf s 32
  | 2 => b.raiseSurf s 31
  | 3 => b.badBand s c.band
  | _ => (b.defaultWst.2.wstLoad s (b.defaultWst.2.wsClass s) b.defaultWst.1).raiseSurf s 29

theorem Block.calBad_eq {b : Block} {s : Fin 4} {c : CalRun} (h : (vget b.cal.surf s).run = some c)
    (values : List Nat) : b.calBad s values = (b.calFail s values).afterBad s c := by
  unfold Block.calBad
  rw [h]
  rfl

theorem Block.afterBad_servoOffset {c : CalRun} (h : c.kind = 1) (b : Block) (s : Fin 4) :
    b.afterBad s c = (b.barWrites s).raiseSurf s 32 := by
  rw [Block.afterBad, h]
  rfl

theorem Block.afterBad_loopGain {c : CalRun} (h : c.kind = 2) (b : Block) (s : Fin 4) :
    b.afterBad s c = b.raiseSurf s 31 := by
  rw [Block.afterBad, h]
  rfl

theorem Block.calFail_calm (b : Block) (s : Fin 4) (values : List Nat) : Calm b (b.calFail s values) :=
  ((Calm.refl.calEnd s 1 values).bump CAL_CNT_BAD 1).raise 48

theorem Block.calFail_frame (b : Block) (s : Fin 4) (values : List Nat) :
    Frame [.regs, .irq, .cal, .ml, .out] b (b.calFail s values) :=
  ((b.calEnd_frame s 1 values).step (by decide) (frame_bump (l₀ := [.regs]) .refl CAL_CNT_BAD 1 (by decide))).step
    (by decide) (Block.raise_frame _ 48)

theorem Block.calFail_regsOnly (b : Block) (s : Fin 4) (values : List Nat) :
    Block.regsOnly [CAL_STAT, CAL_CNT] b (b.calFail s values) :=
  (((b.calEnd_regsOnly s 1 values).mono (List.subset_append_left _ [CAL_CNT])).setFld (f := CAL_CNT_BAD)
    (List.mem_cons_of_mem _ List.mem_cons_self) _).raise 48

theorem Block.calFail_surf {b : Block} {s : Fin 4} {c : CalRun} (h : (vget b.cal.surf s).run = some c)
    (values : List Nat) : vget (b.calFail s values).cal.surf s = { vget b.cal.surf s with run := none } := by
  rw [Block.calFail, Block.raise_cal]
  exact Block.calEnd_surf h 1 values

theorem Block.calFail_bad {b : Block} {s : Fin 4} {c : CalRun} (h : (vget b.cal.surf s).run = some c)
    (values : List Nat) : b.BadResult (b.calFail s values) s := by
  refine ⟨(Block.calEnd_ended h 1 values).keep ?_ ?_, Block.raise_raised_same (srcPresent_power _ (by decide)),
    fun hn => ?_⟩
  · exact (Block.raise_fld _ _ rfl).trans (Block.fld_bump_apart _ _ _ rfl _)
  · rw [Block.calFail, Block.raise_cal]
    rfl
  · have hcnt : (b.calEnd s 1 values).fld CAL_CNT_BAD = b.fld CAL_CNT_BAD :=
      (b.calEnd_regsOnly s 1 values).fld (by decide) rfl
    rw [Block.calFail, Block.raise_fld _ _ rfl, Block.fld_bump_same _ _ rfl, hcnt]
    exact Nat.min_eq_left (show b.fld CAL_CNT_BAD + 1 ≤ 255 by omega)

/-- Block `t` follows from `b` by work that leaves the end of a calibration of the surface: raised sources stay, and so
do BUSY, the count of bad results and what runs. -/
structure Block.CalKept (b t : Block) (s : Fin 4) : Prop where
  calm : Calm b t
  busy : t.fld CAL_STAT_BUSY = b.fld CAL_STAT_BUSY
  cnt : t.fld CAL_CNT_BAD = b.fld CAL_CNT_BAD
  run : (vget t.cal.surf s).run = (vget b.cal.surf s).run

theorem Block.BadResult.after {b c t : Block} {s : Fin 4} (h : b.BadResult c s) (ha : c.CalKept t s) :
    b.BadResult t s := by
  obtain ⟨hended, h48, hcnt⟩ := h
  exact ⟨hended.keep ha.busy ha.run, ha.calm.raised _ h48, fun hn => ha.cnt.trans (hcnt hn)⟩

theorem Block.CalKept.trans {b c t : Block} {s : Fin 4} (h : b.CalKept c s) (h' : c.CalKept t s) : b.CalKept t s :=
  ⟨h.calm.trans h'.calm, h'.busy.trans h.busy, h'.cnt.trans h.cnt, h'.run.trans h.run⟩

theorem Block.CalKept.ended {b t : Block} {s : Fin 4} (h : b.CalKept t s) (he : b.CalEnded s) : t.CalEnded s :=
  he.keep h.busy h.run

/-- Raising a source leaves a calibration's end. -/
theorem Block.CalKept.raise {b t : Block} {s : Fin 4} (h : b.CalKept t s) (n : Nat) : b.CalKept (t.raise n) s where
  calm := h.calm.raise n
  busy := (Block.raise_fld _ _ rfl).trans h.busy
  cnt := (Block.raise_fld _ _ rfl).trans h.cnt
  run := (congrArg (fun c => (vget c.surf s).run) (Block.raise_cal _ _)).trans h.run

/-- Calm changes outside the registers leave it, where they leave the surface's calibration. -/
theorem Block.CalKept.of_calm {b t : Block} {s : Fin 4} (h : Calm b t) (hr : t.regs = b.regs)
    (hrun : (vget t.cal.surf s).run = (vget b.cal.surf s).run) : b.CalKept t s :=
  ⟨h, Block.fld_of_rd (Block.rd_congr h.part hr _), Block.fld_of_rd (Block.rd_congr h.part hr _), hrun⟩

theorem Calm.wstLoad {a b : Block} (h : Calm a b) (s : Fin 4) (table : Nat) (entries : List Word) :
    Calm a (b.wstLoad s table entries) := (h.sedge s _).modSe s _

theorem Calm.defaultWst (b : Block) : Calm b b.defaultWst.2 := by
  have hf : Frame [.free] b b.defaultWst.2 := frame_defaultWst .refl (List.Subset.refl _)
  have hpt : b.defaultWst.2.pt = b.pt := hf.same .pt (by decide)
  exact Calm.refl.same (hf.same .part (by decide)) (hf.same .regs (by decide)) (hf.same .irq (by decide))
    (hf.same .wp (by decide)) (hf.same .ml (by decide)) (hf.same .hq (by decide))
    ⟨congrArg Pt.waiting hpt, congrArg Pt.ops hpt⟩

/-- The default table of a class takes the place of a bad one. -/
theorem Block.defaultLoad_after (b : Block) (s : Fin 4) (table : Nat) (entries : List Word) :
    b.CalKept (b.defaultWst.2.wstLoad s table entries) s := by
  have hf : Frame [.se, .out, .free] b (b.defaultWst.2.wstLoad s table entries) :=
    frame_wstLoad (frame_defaultWst .refl (by decide)) s table entries (by decide)
  exact .of_calm ((Calm.defaultWst b).wstLoad s table entries) (hf.same .regs (by decide))
    (congrArg (fun c => (vget c.surf s).run) (hf.same .cal (by decide)))

theorem Block.afterBad_after {b : Block} {s : Fin 4} (hs : b.part.hasSurf s = true) (c : CalRun) :
    b.CalKept (b.afterBad s c) s := by
  unfold Block.afterBad
  split
  · exact .of_calm (Calm.refl.modCal _) rfl rfl
  · refine Block.CalKept.raise (.of_calm ((Calm.refl.modCalSurf s _).modServo s _) rfl ?_) _
    exact (congrArg CalSurf.run (b.vget_modCalSurf_same s fun k => { k with barred := true }) :)
  · exact Block.CalKept.raise (.of_calm .refl rfl rfl) _
  · have hm := (Block.badBand_marks hs c.band).1
    have hfld : ∀ g : Fld, g.reg ∈ [CAL_STAT, CAL_CNT] → irqReg g.reg = false →
        (b.badBand s c.band).fld g = b.fld g := fun g hg hi =>
      hm.regs.fld (fun he => calWp_not_mem s (List.mem_singleton.mp he ▸ hg)) hi
    exact ⟨hm.calm, hfld _ (by decide) rfl, hfld _ (by decide) rfl, hm.run⟩
  · exact (b.defaultLoad_after s _ _).raise _

theorem Block.calBad_bad {b : Block} {s : Fin 4} (hs : b.part.hasSurf s = true) {c : CalRun}
    (h : (vget b.cal.surf s).run = some c) (values : List Nat) : b.BadResult (b.calBad s values) s := by
  rw [Block.calBad_eq h]
  exact (Block.calFail_bad h values).after (Block.afterBad_after ((b.calFail_calm s values).part ▸ hs) c)

/-- The event of a bad calibration of kind `k`, as an offset of the surface; kind 0 has none. -/
def badEvent (k : Nat) : Nat := if k = 1 then 32 else if k = 2 then 31 else if k = 3 then 26 else 29

theorem Block.afterBad_event {b : Block} {s : Fin 4} (hs : b.part.hasSurf s = true) {c : CalRun} (h0 : c.kind ≠ 0) :
    (b.afterBad s c).raised (1024 + 40 * s.val + badEvent c.kind) = true := by
  unfold Block.afterBad
  split
  · next hk => exact absurd hk h0
  · next hk =>
    rw [hk]
    exact Block.raiseSurf_raises (k := 32) (by exact hs) (by decide)
  · next hk =>
    rw [hk]
    exact Block.raiseSurf_raises (k := 31) hs (by decide)
  · next hk =>
    rw [hk]
    exact (Block.badBand_marks hs c.band).1.event
  · next h1 h2 h3 h4 =>
    rw [badEvent, if_neg h2, if_neg h3, if_neg h4]
    exact Block.raiseSurf_raises (((Calm.defaultWst b).wstLoad s _ _).part ▸ hs) (by decide)

/-! ### Registers written in turn -/

section foldl

variable {f : Block → Nat → Block} {reg : Nat → Nat}

theorem Block.rd_foldl_ne {o : Nat} (hf : ∀ c k, o ≠ reg k → (f c k).rd o = c.rd o) (b : Block) {n : Nat}
    (ho : ∀ k < n, o ≠ reg k) : ((List.range n).foldl f b).rd o = b.rd o :=
  List.foldlRecOn (motive := fun c => c.rd o = b.rd o) (List.range n) f rfl fun c hc k hk =>
    (hf c k (ho k (List.mem_range.mp hk))).trans hc

/-- Of steps that write a register each, no two the same, the step that writes a register decides it. -/
theorem Block.rd_foldl_at (hf : ∀ c k o, o ≠ reg k → (f c k).rd o = c.rd o) (b : Block) {n k : Nat} (hk : k < n)
    (hinj : ∀ i < n, i ≠ k → reg i ≠ reg k) :
    ((List.range n).foldl f b).rd (reg k) = (f ((List.range k).foldl f b) k).rd (reg k) := by
  induction n with
  | zero => exact absurd hk (Nat.not_lt_zero k)
  | succ n ih =>
    rw [List.range_succ, List.foldl_append, List.foldl_cons, List.foldl_nil]
    by_cases hn : k = n
    · rw [hn]
    · rw [hf _ _ _ (hinj n n.lt_succ_self (Ne.symm hn)).symm]
      exact ih (by omega) fun i hi => hinj i (Nat.lt_succ_of_lt hi)

end foldl

/-! ### Ranks: the spares serve the largest offsets (R122, R123; ties by log entry 77) -/

/-- Comparator `i` comes before `j`: a larger offset, or an equal one of a lower threshold (log entry 77). -/
abbrev largerThan (off : Nat → Nat) (j i : Nat) : Prop := off j < off i ∨ (off j = off i ∧ i < j)

theorem largerThan_trans {off : Nat → Nat} {a b c : Nat} (h : largerThan off a b) (h' : largerThan off b c) :
    largerThan off a c := by
  unfold largerThan at *
  omega

/-- How many of the list come before `j`. -/
def rankIn (l : List Nat) (off : Nat → Nat) (j : Nat) : Nat := (l.filter fun i => largerThan off j i).length

theorem rankIn_lt_of_largerThan {l : List Nat} {off : Nat → Nat} {i j : Nat} (hi : i ∈ l) (h : largerThan off j i) :
    rankIn l off i < rankIn l off j := by
  have hsub : (l.filter fun k => largerThan off i k).Sublist (l.filter fun k => largerThan off j k) :=
    List.monotone_filter_right l fun k hk =>
      decide_eq_true (largerThan_trans h (of_decide_eq_true hk))
  refine lt_of_le_of_ne hsub.length_le fun he => ?_
  have hmem : i ∈ l.filter fun k => largerThan off i k := by
    rw [hsub.eq_of_length he]
    exact List.mem_filter.mpr ⟨hi, decide_eq_true h⟩
  have hself : largerThan off i i := of_decide_eq_true (List.mem_filter.mp hmem).2
  unfold largerThan at hself
  omega

theorem rankIn_inj {l : List Nat} {off : Nat → Nat} {i j : Nat} (hi : i ∈ l) (hj : j ∈ l)
    (h : rankIn l off i = rankIn l off j) : i = j := by
  by_contra hne
  have hor : largerThan off j i ∨ largerThan off i j := by
    unfold largerThan
    omega
  rcases hor with hlt | hlt
  · exact absurd h (Nat.ne_of_lt (rankIn_lt_of_largerThan hi hlt))
  · exact absurd h (Nat.ne_of_gt (rankIn_lt_of_largerThan hj hlt))

theorem rankIn_lt_length {l : List Nat} {off : Nat → Nat} {j : Nat} (hj : j ∈ l) : rankIn l off j < l.length := by
  refine List.length_filter_lt_length_iff_exists.mpr ⟨j, hj, fun h => ?_⟩
  have hself : largerThan off j j := of_decide_eq_true h
  unfold largerThan at hself
  omega

/-- The ranks of a list without repeats are the numbers below its length, so `m` of them, or all, lie below `m`. -/
theorem length_filter_rankIn {l : List Nat} (hl : l.Nodup) (off : Nat → Nat) (m : Nat) :
    (l.filter fun j => rankIn l off j < m).length = min m l.length := by
  have hperm : (l.map (rankIn l off)).Perm (List.range l.length) := by
    have hnd : (l.map (rankIn l off)).Nodup := hl.map_on fun i hi j hj h => rankIn_inj hi hj h
    have hsub : l.map (rankIn l off) ⊆ List.range l.length := fun r hr => by
      obtain ⟨j, hj, rfl⟩ := List.mem_map.mp hr
      exact List.mem_range.mpr (rankIn_lt_length hj)
    exact (List.subperm_of_subset hnd hsub).perm_of_length_le (by simp)
  calc (l.filter fun j => rankIn l off j < m).length
      = ((l.map (rankIn l off)).filter fun r => r < m).length := by rw [List.filter_map, List.length_map]; rfl
    _ = ((List.range l.length).filter fun r => r < m).length := (hperm.filter _).length_eq
    _ = min m l.length := by
      rw [← List.Ico.zero_bot, List.Ico.filter_lt, List.Ico.length, Nat.sub_zero, Nat.min_comm]

/-! ### Comparator maps (R122, R123, R469) -/

/-- The thresholds whose offset exceeds 0.4 LSB. -/
def faultyThresholds (off : Nat → Nat) : List Nat := (List.range 127).filter fun j => 6 < off j

/-- The thresholds that a spare serves. -/
def servedThresholds (off : Nat → Nat) : List Nat :=
  (faultyThresholds off).filter fun j => rankIn (faultyThresholds off) off j < 16

theorem zipIdx_eq_map_range {α : Type} (l : List α) (d : α) :
    l.zipIdx = (List.range l.length).map fun k => (l.getD k d, k) :=
  List.ext_getElem (by simp) fun i h _ => by
    have hi : i < l.length := by simpa using h
    simp [hi]

theorem faultyComps_eq {l : List Int} (hl : l.length = 127) : faultyComps l =
    (faultyThresholds fun j => (l.getD j 0).natAbs).map fun j => (j, (l.getD j 0).natAbs) := by
  unfold faultyComps faultyThresholds
  rw [zipIdx_eq_map_range l 0, hl, List.filter_map, List.map_map]
  rfl

theorem spareThresholds_eq (off : Nat → Nat) :
    spareThresholds ((faultyThresholds off).map fun j => (j, off j)) = servedThresholds off := by
  have hbigger : ∀ j, (((faultyThresholds off).map fun i => (i, off i)).filter fun f =>
      off j < f.2 || (f.2 = off j && f.1 < j)).length = rankIn (faultyThresholds off) off j := fun j => by
    rw [List.filter_map, List.length_map]
    refine congrArg List.length (List.filter_congr fun i _ => ?_)
    simp [eq_comm]
  unfold spareThresholds servedThresholds
  dsimp only
  rw [List.filter_map, List.map_map]
  simp only [Function.comp_def, hbigger, List.map_id']

theorem servedThresholds_length (off : Nat → Nat) :
    (servedThresholds off).length = min 16 (faultyThresholds off).length :=
  length_filter_rankIn (List.nodup_range.filter _) off 16

theorem lt_of_mem_served {off : Nat → Nat} {j : Nat} (h : j ∈ servedThresholds off) : j < 127 :=
  List.mem_range.mp (List.mem_of_mem_filter (List.mem_of_mem_filter h))

theorem faultyThresholds_length_le (off : Nat → Nat) : (faultyThresholds off).length ≤ 127 :=
  (List.length_filter_le _ _).trans_eq List.length_range

/-- Word `k` of a map. -/
def mapWord (ts : List Nat) (k : Nat) : Word :=
  BitVec.ofNat 32 (mapEntry ts (2 * k) + 2 ^ 16 * mapEntry ts (2 * k + 1))

theorem mapEntry_lt (ts : List Nat) (i : Nat) : mapEntry ts i < 2 ^ 16 := by
  unfold mapEntry
  split <;> omega

/-- The halves of the words are the entries. -/
theorem mapWord_half (ts : List Nat) (i : Nat) :
    (mapWord ts (i / 2)).toNat / 2 ^ (16 * (i % 2)) % 2 ^ 16 = mapEntry ts i := by
  have hlo := mapEntry_lt ts (2 * (i / 2))
  have hhi := mapEntry_lt ts (2 * (i / 2) + 1)
  have hword : (mapWord ts (i / 2)).toNat = mapEntry ts (2 * (i / 2)) + 2 ^ 16 * mapEntry ts (2 * (i / 2) + 1) := by
    rw [mapWord, BitVec.toNat_ofNat]
    exact Nat.mod_eq_of_lt (by omega)
  rw [hword]
  rcases Nat.mod_two_eq_zero_or_one i with h | h
  · have hi : mapEntry ts (2 * (i / 2)) = mapEntry ts i := congrArg _ (by omega)
    rw [h]
    omega
  · have hi : mapEntry ts (2 * (i / 2) + 1) = mapEntry ts i := congrArg _ (by omega)
    rw [h]
    omega

theorem mapEntry_eq_iff {ts : List Nat} (hts : ∀ t ∈ ts, t < 127) (i : Nat) {j : Nat} :
    mapEntry ts i = 2 ^ 15 + j ↔ ts[i]? = some j := by
  unfold mapEntry
  cases ht : ts[i]? with
  | none =>
    simp only [reduceCtorEq, iff_false]
    omega
  | some t =>
    have hlt := hts t (List.mem_of_getElem? ht)
    simp only [Option.some.injEq]
    omega

/-- A map of at most 16 thresholds names those and no other. -/
theorem exists_mapWord_iff {ts : List Nat} (hlen : ts.length ≤ 16) (hts : ∀ t ∈ ts, t < 127) {j : Nat} :
    (∃ i, i < 16 ∧ (mapWord ts (i / 2)).toNat / 2 ^ (16 * (i % 2)) % 2 ^ 16 = 2 ^ 15 + j) ↔ j ∈ ts := by
  simp only [mapWord_half, mapEntry_eq_iff hts]
  rw [List.mem_iff_getElem?]
  refine exists_congr fun i => and_iff_right_of_imp fun h => ?_
  obtain ⟨hi, -⟩ := List.getElem?_eq_some_iff.mp h
  omega

/-- The registers that a beam's calibration of kind 0 writes. -/
def adcRegs (n : Nat) : List Nat := BMnn_ADC_STAT n :: (List.range 8).map (BMnn_ADC_MAP_k n)

theorem mem_adcRegs {o n : Nat} : o ∈ adcRegs n ↔ o = BMnn_ADC_STAT n ∨ ∃ k < 8, o = BMnn_ADC_MAP_k n k := by
  simp [adcRegs, eq_comm]

theorem adcRegs_bounds {o n : Nat} (h : o ∈ adcRegs n) : 0x1800c8 + 0x800 * n ≤ o ∧ o < 0x1800f0 + 0x800 * n := by
  rcases mem_adcRegs.mp h with rfl | ⟨k, hk, rfl⟩
  · simp only [BMnn_ADC_STAT]
    omega
  · simp only [BMnn_ADC_MAP_k]
    omega

theorem adcRegs_apart {o n m : Nat} (h : o ∈ adcRegs n) (hm : m ≠ n) : o ∉ adcRegs m := fun h' => by
  have := adcRegs_bounds h
  have := adcRegs_bounds h'
  omega

theorem irqReg_adcRegs {o n : Nat} (h : o ∈ adcRegs n) : irqReg o = false :=
  irqReg_of_ge (by have := adcRegs_bounds h; omega)

theorem guardedReg_adcRegs {o n : Nat} (hn : n < 64) (h : o ∈ adcRegs n) : guardedReg o = false := by
  have := adcRegs_bounds h
  rw [guardedReg_eq_false]
  omega

/-- The map's words are written. -/
def Block.putMap (b : Block) (n : Nat) (ts : List Nat) : Block :=
  (List.range 8).foldl (fun b k => b.wr (BMnn_ADC_MAP_k n k) (mapWord ts k)) b

/-- How many comparators are faulty, and how many of them a spare serves. -/
def Block.putAdcStat (b : Block) (n faulty used : Nat) : Block :=
  ((b.setFld (BMnn_ADC_STAT_FAULTY n) faulty).setFld (BMnn_ADC_STAT_USED n) used).setBit (BMnn_ADC_STAT_EXCESS n)
    (16 < faulty)

/-- The beam's map and its figures. -/
def Block.putAdc (b : Block) (n : Nat) (offs : List Int) : Block :=
  (b.putMap n (spareThresholds (faultyComps offs))).putAdcStat n (faultyComps offs).length
    (spareThresholds (faultyComps offs)).length

theorem Block.fillMap_eq (b : Block) (n : Nat) (offs : List Int) : b.fillMap n offs =
    if 16 < (faultyComps offs).length then (b.putAdc n offs).raise (256 + 12 * n) else b.putAdc n offs := rfl

theorem Block.putMap_rd (b : Block) (n : Nat) (ts : List Nat) {k : Nat} (hk : k < 8) :
    (b.putMap n ts).rd (BMnn_ADC_MAP_k n k) = mapWord ts k := by
  refine (Block.rd_foldl_at (reg := BMnn_ADC_MAP_k n) (fun c _ _ h => Block.rd_wr_ne c h _) b hk fun i _ hi => ?_).trans
    (Block.rd_wr_same ..)
  simp only [BMnn_ADC_MAP_k]
  omega

theorem Block.putMap_regsOnly (b : Block) (n : Nat) (ts : List Nat) : Block.regsOnly (adcRegs n) b (b.putMap n ts) :=
  Block.regsOnly.foldl _ (Block.regsOnly_refl _ b) fun _ k hk hc =>
    hc.wr (mem_adcRegs.mpr (.inr ⟨k, List.mem_range.mp hk, rfl⟩)) _

theorem Block.putAdc_regsOnly (b : Block) (n : Nat) (offs : List Int) :
    Block.regsOnly (adcRegs n) b (b.putAdc n offs) :=
  (((b.putMap_regsOnly n _).setFld (f := BMnn_ADC_STAT_FAULTY n) List.mem_cons_self _).setFld
    (f := BMnn_ADC_STAT_USED n) List.mem_cons_self _).setFld (f := BMnn_ADC_STAT_EXCESS n) List.mem_cons_self _

theorem Block.putMap_calm (b : Block) {n : Nat} (hn : n < 64) (ts : List Nat) : Calm b (b.putMap n ts) :=
  Calm.foldl .refl fun _ k hk hc =>
    hc.wr _ _ (guardedReg_adcRegs hn (mem_adcRegs.mpr (.inr ⟨k, List.mem_range.mp hk, rfl⟩)))

theorem Block.putAdc_calm (b : Block) {n : Nat} (hn : n < 64) (offs : List Int) : Calm b (b.putAdc n offs) :=
  have h : guardedReg (BMnn_ADC_STAT n) = false := guardedReg_adcRegs hn List.mem_cons_self
  (((b.putMap_calm hn _).setFld (BMnn_ADC_STAT_FAULTY n) _ h).setFld (BMnn_ADC_STAT_USED n) _ h).setBit
    (BMnn_ADC_STAT_EXCESS n) _ h

/-- The map and the figures of beam `n` in block `t` are those of the comparator offsets `off`. -/
structure Block.AdcFilled (t : Block) (n : Nat) (off : Nat → Nat) : Prop where
  map : ∀ k, k < 8 → t.rd (BMnn_ADC_MAP_k n k) = mapWord (servedThresholds off) k
  faulty : t.fld (BMnn_ADC_STAT_FAULTY n) = (faultyThresholds off).length
  used : t.fld (BMnn_ADC_STAT_USED n) = min 16 (faultyThresholds off).length
  excess : t.on (BMnn_ADC_STAT_EXCESS n) = decide (16 < (faultyThresholds off).length)
  event : 16 < (faultyThresholds off).length → t.raised (256 + 12 * n) = true

theorem Block.AdcFilled.keep {t v : Block} {n : Nat} {off : Nat → Nat} (h : t.AdcFilled n off)
    (hrd : ∀ o ∈ adcRegs n, v.rd o = t.rd o) (hraised : ∀ m, t.raised m = true → v.raised m = true) :
    v.AdcFilled n off where
  map k hk := (hrd _ (mem_adcRegs.mpr (.inr ⟨k, hk, rfl⟩))).trans (h.map k hk)
  faulty := (Block.fld_of_rd (hrd _ List.mem_cons_self)).trans h.faulty
  used := (Block.fld_of_rd (hrd _ List.mem_cons_self)).trans h.used
  excess := (Block.on_of_rd (hrd _ List.mem_cons_self)).trans h.excess
  event hlt := hraised _ (h.event hlt)

theorem Block.putAdcStat_faulty (b : Block) (n used : Nat) {faulty : Nat} (h : faulty ≤ 127) :
    (b.putAdcStat n faulty used).fld (BMnn_ADC_STAT_FAULTY n) = faulty := by
  unfold Block.putAdcStat
  rw [Block.fld_setBit_apart _ _ _ (apart_of_bits (.inl (by simp [BMnn_ADC_STAT_FAULTY, BMnn_ADC_STAT_EXCESS]))),
    Block.fld_setFld_apart _ _ _ (apart_of_bits (.inl (by simp [BMnn_ADC_STAT_FAULTY, BMnn_ADC_STAT_USED]))),
    Block.fld_setFld_same _ _ rfl]
  exact Nat.mod_eq_of_lt (show _ < 2 ^ 8 by omega)

theorem Block.putAdcStat_used (b : Block) (n faulty : Nat) {used : Nat} (h : used ≤ 16) :
    (b.putAdcStat n faulty used).fld (BMnn_ADC_STAT_USED n) = used := by
  unfold Block.putAdcStat
  rw [Block.fld_setBit_apart _ _ _ (apart_of_bits (.inl (by simp [BMnn_ADC_STAT_USED, BMnn_ADC_STAT_EXCESS]))),
    Block.fld_setFld_same _ _ rfl]
  exact Nat.mod_eq_of_lt (show _ < 2 ^ 5 by omega)

theorem Block.putAdcStat_excess (b : Block) (n faulty used : Nat) :
    (b.putAdcStat n faulty used).on (BMnn_ADC_STAT_EXCESS n) = decide (16 < faulty) := by
  rw [Block.on_eq, Block.putAdcStat, Block.fld_setBit_same _ _ rfl]
  by_cases h : 16 < faulty <;> simp [h]

theorem srcPresent_beam {p : Part} {n : Nat} (h : p.hasBeam n = true) (hn : n < 64) :
    srcPresent p (256 + 12 * n) = true := by
  have hdiv : (256 + 12 * n - 256) / 12 = n := by omega
  unfold srcPresent
  rw [if_neg (by omega), if_neg (by omega), if_neg (by omega), if_neg (by omega), if_pos (by omega), hdiv]
  exact h

theorem Block.fillMap_calm (b : Block) {n : Nat} (hn : n < 64) (offs : List Int) : Calm b (b.fillMap n offs) := by
  rw [Block.fillMap_eq]
  exact Calm.ite ((b.putAdc_calm hn offs).raise _) (b.putAdc_calm hn offs)

theorem Block.fillMap_regsOnly (b : Block) (n : Nat) (offs : List Int) :
    Block.regsOnly (adcRegs n) b (b.fillMap n offs) := by
  rw [Block.fillMap_eq]
  exact Block.regsOnly.ite ((b.putAdc_regsOnly n offs).raise _) (b.putAdc_regsOnly n offs)

theorem Block.putAdc_fills (b : Block) (n : Nat) {offs : List Int} (hl : offs.length = 127) :
    let off := fun j => (offs.getD j 0).natAbs
    (∀ k, k < 8 → (b.putAdc n offs).rd (BMnn_ADC_MAP_k n k) = mapWord (servedThresholds off) k) ∧
      (b.putAdc n offs).fld (BMnn_ADC_STAT_FAULTY n) = (faultyThresholds off).length ∧
      (b.putAdc n offs).fld (BMnn_ADC_STAT_USED n) = min 16 (faultyThresholds off).length ∧
      (b.putAdc n offs).on (BMnn_ADC_STAT_EXCESS n) = decide (16 < (faultyThresholds off).length) := by
  intro off
  unfold Block.putAdc
  rw [faultyComps_eq hl, spareThresholds_eq, List.length_map, servedThresholds_length]
  refine ⟨fun k hk => Eq.trans ?_ (b.putMap_rd n _ hk), Block.putAdcStat_faulty _ _ _ (faultyThresholds_length_le _),
    Block.putAdcStat_used _ _ _ (Nat.min_le_left ..), Block.putAdcStat_excess ..⟩
  have hne : BMnn_ADC_MAP_k n k ≠ BMnn_ADC_STAT n := Nat.ne_of_gt (by simp only [BMnn_ADC_MAP_k, BMnn_ADC_STAT]; omega)
  exact (Block.rd_setBit_ne _ _ hne _).trans ((Block.rd_setFld_ne _ _ hne _).trans (Block.rd_setFld_ne _ _ hne _))

theorem Block.fillMap_fills {b : Block} {n : Nat} (hb : b.part.hasBeam n = true) (hn : n < 64) {offs : List Int}
    (hl : offs.length = 127) : (b.fillMap n offs).AdcFilled n fun j => (offs.getD j 0).natAbs := by
  obtain ⟨hmap, hfaulty, hused, hexcess⟩ := b.putAdc_fills n hl
  have hlen : (faultyComps offs).length = (faultyThresholds fun j => (offs.getD j 0).natAbs).length := by
    rw [faultyComps_eq hl, List.length_map]
  have hpresent : srcPresent (b.putAdc n offs).part (256 + 12 * n) = true := by
    rw [(b.putAdc_calm hn offs).part]
    exact srcPresent_beam hb hn
  rw [Block.fillMap_eq, hlen]
  split
  · have hrd : ∀ o ∈ adcRegs n, ((b.putAdc n offs).raise (256 + 12 * n)).rd o = (b.putAdc n offs).rd o := fun o ho =>
      Block.raise_rd _ _ (irqReg_adcRegs ho)
    exact ⟨fun k hk => (hrd _ (mem_adcRegs.mpr (.inr ⟨k, hk, rfl⟩))).trans (hmap k hk),
      (Block.fld_of_rd (hrd _ List.mem_cons_self)).trans hfaulty,
      (Block.fld_of_rd (hrd _ List.mem_cons_self)).trans hused,
      (Block.on_of_rd (hrd _ List.mem_cons_self)).trans hexcess,
      fun _ => Block.raise_raised_same hpresent⟩
  · next h => exact ⟨hmap, hfaulty, hused, hexcess, fun hlt => absurd hlt h⟩

/-- The maps of the first `n` beams of the surface. -/
def Block.fillMaps (b : Block) (s : Fin 4) (offs : Nat → List Int) (n : Nat) : Block :=
  (List.range n).foldl (fun b k => b.fillMap (16 * s.val + k) (offs k)) b

theorem Block.fillMaps_succ (b : Block) (s : Fin 4) (offs : Nat → List Int) (n : Nat) :
    b.fillMaps s offs (n + 1) = (b.fillMaps s offs n).fillMap (16 * s.val + n) (offs n) := by
  simp [Block.fillMaps, List.range_succ]

theorem Block.fillMaps_calm (b : Block) (s : Fin 4) (offs : Nat → List Int) {n : Nat} (hn : n ≤ 16) :
    Calm b (b.fillMaps s offs n) :=
  Calm.foldl .refl fun c k hk hc => by
    have := List.mem_range.mp hk
    exact hc.trans (c.fillMap_calm (by omega) _)

theorem hasBeam_of_hasSurf {p : Part} {s : Fin 4} (h : p.hasSurf s = true) {k : Nat} (hk : k < 16) :
    p.hasBeam (16 * s.val + k) = true := by
  cases p
  · exact decide_eq_true (by omega)
  · have := of_decide_eq_true h
    exact decide_eq_true (by omega)

theorem Block.fillMaps_fills {b : Block} {s : Fin 4} (hs : b.part.hasSurf s = true) {offs : Nat → List Int}
    (hl : ∀ k, k < 16 → (offs k).length = 127) {n : Nat} (hn : n ≤ 16) : ∀ k < n,
      (b.fillMaps s offs n).AdcFilled (16 * s.val + k) fun j => ((offs k).getD j 0).natAbs := by
  induction n with
  | zero => exact fun k hk => absurd hk (Nat.not_lt_zero k)
  | succ n ih =>
    intro k hk
    let c := b.fillMaps s offs n
    have hpart : c.part = b.part := (b.fillMaps_calm s offs (by omega)).part
    rw [Block.fillMaps_succ]
    by_cases hkn : k = n
    · subst hkn
      exact Block.fillMap_fills (hasBeam_of_hasSurf (hpart ▸ hs) (by omega)) (by omega) (hl k (by omega))
    · refine (ih (by omega) k (by omega)).keep (fun o ho => ?_) (c.fillMap_calm (by omega) _).raised
      exact c.fillMap_regsOnly _ _ o (adcRegs_apart ho (by omega)) (irqReg_adcRegs ho)

/-! ### Calibration commands -/

section does

variable {s : State} {u : Fin 4} {i : Instr} {f : Block → Block} (hi : exec i s = s.upd fun b => b.onSurf u f)

include hi

theorem does_onSurf (hs : s.part.hasSurf u = true) {P : State → Prop} (hP : P { s with toBlock := f s.toBlock }) :
    Does i s P := by
  refine does_upd hi ?_
  rw [Block.onSurf_present hs]
  exact hP

theorem exec_onSurf_same (hf : f s.toBlock = s.toBlock) : exec i s = .next s :=
  hi.trans (State.upd_same (Block.onSurf_same hf))

end does

/-! ### Kind 0 (R469, R480) -/

/-- Source 52: the boot calibrations are complete. -/
def Block.bootEnds (b : Block) : Block :=
  if !b.on CAL_STAT_BOOTCAL && b.surfs.all b.cal.adcBoot.contains then (b.setFld CAL_STAT_BOOTCAL 1).raise 52 else b

/-- Source 53: kind 0 is complete on every present beam. -/
def Block.roundEnds (b : Block) : Block :=
  if b.surfs.all b.cal.adcDone.contains then (b.modCal fun c => { c with adcDone := [] }).raise 53 else b

theorem Block.adcEnds_eq (b : Block) : b.adcEnds = b.bootEnds.roundEnds := rfl

theorem Block.bootEnds_kept (b : Block) (s : Fin 4) : b.CalKept b.bootEnds s := by
  unfold Block.bootEnds
  split
  · have h : b.CalKept (b.setFld CAL_STAT_BOOTCAL 1) s :=
      ⟨Calm.refl.setFld _ _, Block.fld_setFld_apart _ _ _ rfl _, Block.fld_setFld_apart _ _ _ rfl _, rfl⟩
    exact h.raise 52
  · exact .of_calm .refl rfl rfl

theorem Block.roundEnds_kept (b : Block) (s : Fin 4) : b.CalKept b.roundEnds s := by
  unfold Block.roundEnds
  split
  · exact Block.CalKept.raise (.of_calm (Calm.refl.modCal _) rfl rfl) 53
  · exact .of_calm .refl rfl rfl

theorem Block.adcEnds_kept (b : Block) (s : Fin 4) : b.CalKept b.adcEnds s :=
  (b.bootEnds_kept s).trans (b.bootEnds.roundEnds_kept s)

theorem Block.adcEnds_regsOnly (b : Block) : Block.regsOnly [CAL_STAT] b b.adcEnds := by
  have hboot : Block.regsOnly [CAL_STAT] b b.bootEnds := Block.regsOnly.ite
    (((Block.regsOnly_refl _ b).setFld (f := CAL_STAT_BOOTCAL) List.mem_cons_self 1).raise 52) (Block.regsOnly_refl _ b)
  have hmod : Block.regsOnly [CAL_STAT] b (b.bootEnds.modCal fun c => { c with adcDone := [] }) := hboot.same
  exact Block.regsOnly.ite (hmod.raise 53) hboot

theorem Block.adcEnds_surf (b : Block) : b.adcEnds.cal.surf = b.cal.surf := by
  have hboot : b.bootEnds.cal = b.cal := by
    unfold Block.bootEnds
    split
    · exact Block.raise_cal _ _
    · rfl
  rw [Block.adcEnds_eq, ← hboot, Block.roundEnds]
  split
  · exact (congrArg Cal.surf (Block.raise_cal _ _) :)
  · rfl

/-- What ends a good calibration of kind 0: its surface counts as done. -/
def Block.adcDone (b : Block) (s : Fin 4) : Block :=
  (b.modCal fun c => { c with adcDone := insertSrc s.val c.adcDone, adcBoot := insertSrc s.val c.adcBoot }).adcEnds

/-- The offsets measured in the 16 beams. -/
def Block.adcResult (b : Block) (s : Fin 4) (offs : Option (List (List (BitVec 8)))) : Block :=
  match b.calRun s 0, offs with
  | some _, some os =>
    let b := (os.take 16).zipIdx.foldl (fun b e => b.fillMap (16 * s.val + e.2) (e.1.map (·.toInt))) b
    (b.calEnd s 0 ((List.range 16).map fun k => b.fld (BMnn_ADC_STAT_USED (16 * s.val + k)))).adcDone s
  | _, _ => b

theorem exec_calAdcOffset (u : Fin 4) (bg : Bool) (offs : Option (List (List (BitVec 8)))) (s : State) :
    exec (.calAdcOffset u bg offs) s = s.upd fun b => b.onSurf u fun b => (b.calStart u 0 bg).adcResult u offs := rfl

theorem Block.adcResult_none (b : Block) (s : Fin 4) : b.adcResult s none = b := by
  unfold Block.adcResult
  cases b.calRun s 0 <;> rfl

theorem Block.adcDone_kept (b : Block) (s : Fin 4) : b.CalKept (b.adcDone s) s :=
  have h : b.CalKept (b.modCal fun c =>
      { c with adcDone := insertSrc s.val c.adcDone, adcBoot := insertSrc s.val c.adcBoot }) s :=
    .of_calm (Calm.refl.modCal _) rfl rfl
  h.trans (Block.adcEnds_kept _ s)

theorem Block.adcDone_regsOnly (b : Block) (s : Fin 4) : Block.regsOnly [CAL_STAT] b (b.adcDone s) := by
  have h : Block.regsOnly [CAL_STAT] b (b.modCal fun c =>
      { c with adcDone := insertSrc s.val c.adcDone, adcBoot := insertSrc s.val c.adcBoot }) :=
    (Block.regsOnly_refl _ b).same
  exact Block.regsOnly_trans h (Block.adcEnds_regsOnly _)

/-- The comparator offsets of beam `k`, in 1/16 LSB. -/
def beamOffs (offs : List (List (BitVec 8))) (k : Nat) : List Int := (offs.getD k []).map (·.toInt)

theorem beamOffs_getD (offs : List (List (BitVec 8))) (k j : Nat) :
    (beamOffs offs k).getD j 0 = ((offs.getD k []).getD j 0).toInt := by
  unfold beamOffs
  exact List.getD_map (n := j) (offs.getD k []) 0 fun x => x.toInt

theorem Block.adcResult_some {b : Block} {s : Fin 4} {c : CalRun} (h : (vget b.cal.surf s).run = some c)
    (hk : c.kind = 0) {offs : List (List (BitVec 8))} (hlen : offs.length = 16) : ∃ values,
      b.adcResult s (some offs) = ((b.fillMaps s (beamOffs offs) 16).calEnd s 0 values).adcDone s := by
  have hrun : b.calRun s 0 = some c := hk ▸ Block.calRun_eq h
  have hfill : (offs.take 16).zipIdx.foldl (fun b e => b.fillMap (16 * s.val + e.2) (e.1.map (·.toInt))) b =
      b.fillMaps s (beamOffs offs) 16 := by
    rw [List.take_of_length_le hlen.le, zipIdx_eq_map_range offs [], hlen, List.foldl_map]
    rfl
  unfold Block.adcResult
  rw [hrun]
  dsimp only
  rw [hfill]
  exact ⟨_, rfl⟩

theorem does_calAdcOffset_ends {s : State} {u : Fin 4} {c : CalRun} (hs : s.part.hasSurf u = true)
    (hrun : (vget s.cal.surf u).run = some c) (hk : c.kind = 0) (bg : Bool) {offs : List (List (BitVec 8))}
    (hlen : offs.length = 16) (hl : ∀ k, k < 16 → (offs.getD k []).length = 127) :
    Does (.calAdcOffset u bg (some offs)) s fun v => v.CalEnded u ∧ ∀ k, k < 16 →
      v.AdcFilled (16 * u.val + k) fun j => ((offs.getD k []).getD j 0).toInt.natAbs := by
  let b := s.fillMaps u (beamOffs offs) 16
  have hb : Calm s.toBlock b := s.fillMaps_calm u (beamOffs offs) (Nat.le_refl 16)
  have hbrun : (vget b.cal.surf u).run = some c := by
    have hf : Frame [.regs, .irq, .ml, .out] s.toBlock b :=
      Frame.foldl .refl fun _ _ hc => frame_fillMap hc _ _ (List.Subset.refl _)
    rw [hf.same .cal (by decide)]
    exact hrun
  obtain ⟨values, hres⟩ := Block.adcResult_some hrun hk hlen
  let e := b.calEnd u 0 values
  have hdone := e.adcDone_kept u
  refine does_onSurf (exec_calAdcOffset u bg (some offs) s) hs ?_
  rw [Block.calStart_not (Block.calMay_busy hrun 0 bg), hres]
  refine ⟨hdone.ended (Block.calEnd_ended hbrun 0 values), fun k hk16 => ?_⟩
  have hfill := Block.fillMaps_fills hs (offs := beamOffs offs) (fun k hk => by rw [beamOffs, List.length_map, hl k hk])
    (Nat.le_refl 16) k hk16
  simp only [beamOffs_getD] at hfill
  refine hfill.keep (fun o ho => ?_) fun m hm => hdone.calm.raised m (Block.calEnd_raised u 0 values hm)
  have hne : o ∉ [CAL_STAT] := fun h => by
    have := adcRegs_bounds ho
    rw [List.mem_singleton.mp h] at this
    exact absurd this.1 (by simp only [CAL_STAT]; omega)
  exact (e.adcDone_regsOnly u o hne (irqReg_adcRegs ho)).trans
    (b.calEnd_regsOnly u 0 values o hne (irqReg_adcRegs ho))

/-- What a beam's map and figures say of its comparators. -/
theorem Block.AdcFilled.spares {t : Block} {n : Nat} {off : Nat → Nat} (h : t.AdcFilled n off) {j : Nat} :
    (∃ i, i < 16 ∧ (t.rd (BMnn_ADC_MAP_k n (i / 2))).toNat / 2 ^ (16 * (i % 2)) % 2 ^ 16 = 2 ^ 15 + j) ↔
      j ∈ faultyThresholds off ∧ rankIn (faultyThresholds off) off j < 16 := by
  have hmem : j ∈ servedThresholds off ↔ j ∈ faultyThresholds off ∧ rankIn (faultyThresholds off) off j < 16 := by
    rw [servedThresholds, List.mem_filter, decide_eq_true_iff]
  have hlen : (servedThresholds off).length ≤ 16 := (servedThresholds_length off).trans_le (Nat.min_le_left ..)
  rw [← hmem, ← exists_mapWord_iff hlen fun t => lt_of_mem_served]
  refine exists_congr fun i => and_congr_right fun hi => ?_
  rw [h.map (i / 2) (by omega)]

/-! ### Kind 1 (R470) -/

/-- The negated means are written. -/
def Block.putOffsets (b : Block) (s : Fin 4) (means : Vector (BitVec 14) 9) : Block :=
  (List.range 9).foldl (fun b k => b.setFld (SFs_ADC_OFS_k_OFS s k) (natOf 14 (-(vget means (Fin.ofNat 9 k)).toInt))) b

/-- The means measured at the nine inputs. -/
def Block.offsetResult (b : Block) (s : Fin 4) (means : Option (Vector (BitVec 14) 9)) : Block :=
  match b.calRun s 1, means with
  | some _, some ms =>
    if ms.toList.any fun m => 1024 < m.toInt.natAbs then b.calBad s [] else (b.putOffsets s ms).calEnd s 0 []
  | _, _ => b

theorem exec_calServoOffset (u : Fin 4) (bg : Bool) (means : Option (Vector (BitVec 14) 9)) (s : State) :
    exec (.calServoOffset u bg means) s = s.upd fun b => b.onSurf u fun b => (b.calStart u 1 bg).offsetResult u means :=
  rfl

theorem Block.offsetResult_none (b : Block) (s : Fin 4) : b.offsetResult s none = b := by
  unfold Block.offsetResult
  cases b.calRun s 1 <;> rfl

theorem any_toList_iff {α : Type} {n : Nat} (v : Vector α n) (p : α → Bool) :
    v.toList.any p = true ↔ ∃ k : Fin n, p (vget v k) = true := by
  simp [vget, Fin.exists_iff, Vector.any_eq_true]

theorem natOf_neg_toInt (x : BitVec 14) : natOf 14 (-x.toInt) = (-x).toNat := by
  have hlt := x.isLt
  rw [natOf, BitVec.toNat_neg, BitVec.toInt_eq_toNat_cond]
  split <;> omega

theorem Block.putOffsets_fld (b : Block) (s : Fin 4) (means : Vector (BitVec 14) 9) (k : Fin 9) :
    (b.putOffsets s means).fld (SFs_ADC_OFS_k_OFS s k) = (-(vget means k)).toNat := by
  have hinj : ∀ i < 9, i ≠ k.val → SFs_ADC_OFS_k s i ≠ SFs_ADC_OFS_k s k := fun i _ hi => by
    simp only [SFs_ADC_OFS_k]
    omega
  have hrd := Block.rd_foldl_at (reg := SFs_ADC_OFS_k s)
    (f := fun b k => b.setFld (SFs_ADC_OFS_k_OFS s k) (natOf 14 (-(vget means (Fin.ofNat 9 k)).toInt)))
    (fun c j _ h => Block.rd_setFld_ne c (SFs_ADC_OFS_k_OFS s j) h _) b k.isLt hinj
  refine (Block.fld_of_rd (g := SFs_ADC_OFS_k_OFS s k) hrd).trans ((Block.fld_setFld_same _ _ rfl _).trans ?_)
  rw [natOf_neg_toInt, Fin.ofNat_val_eq_self]
  exact Nat.mod_eq_of_lt (BitVec.isLt _)

theorem irqReg_adcOfs (s k : Nat) : irqReg (SFs_ADC_OFS_k s k) = false :=
  irqReg_of_ge (by simp only [SFs_ADC_OFS_k]; omega)

theorem adcOfs_not_mem (s k : Nat) : SFs_ADC_OFS_k s k ∉ [CAL_STAT, CAL_CNT] := by
  simp only [CAL_STAT, CAL_CNT, SFs_ADC_OFS_k, List.mem_cons, List.not_mem_nil, or_false]
  omega

theorem does_calServoOffset_writes {s : State} {u : Fin 4} {c : CalRun} (hs : s.part.hasSurf u = true)
    (hrun : (vget s.cal.surf u).run = some c) (hk : c.kind = 1) (bg : Bool) {means : Vector (BitVec 14) 9}
    (hm : ∀ k : Fin 9, (vget means k).toInt.natAbs ≤ 1024) :
    Does (.calServoOffset u bg (some means)) s fun v => v.CalEnded u ∧
      ∀ k : Fin 9, v.fld (SFs_ADC_OFS_k_OFS u k) = (-(vget means k)).toNat := by
  let b := s.putOffsets u means
  have hbrun : (vget b.cal.surf u).run = some c := by
    have hf : Frame [.regs] s.toBlock b := Frame.foldl .refl fun _ _ hc => frame_setFld hc _ _ (List.Subset.refl _)
    rw [hf.same .cal (by decide)]
    exact hrun
  have hres : s.offsetResult u (some means) = b.calEnd u 0 [] := by
    have hany : means.toList.any (fun m => decide (1024 < m.toInt.natAbs)) = false := by
      rw [Bool.eq_false_iff, Ne, any_toList_iff]
      rintro ⟨k, hgt⟩
      exact absurd (hm k) (Nat.not_le_of_lt (of_decide_eq_true hgt))
    unfold Block.offsetResult
    rw [show s.calRun u 1 = some c from hk ▸ Block.calRun_eq hrun]
    dsimp only
    rw [hany, if_neg Bool.false_ne_true]
  refine does_onSurf (exec_calServoOffset u bg (some means) s) hs ?_
  rw [Block.calStart_not (Block.calMay_busy hrun 1 bg), hres]
  refine ⟨Block.calEnd_ended hbrun 0 [], fun k => ?_⟩
  have hne : SFs_ADC_OFS_k u k ∉ [CAL_STAT] := fun h =>
    adcOfs_not_mem u k (List.mem_singleton.mp h ▸ List.mem_cons_self)
  exact ((b.calEnd_regsOnly u 0 []).fld (g := SFs_ADC_OFS_k_OFS u k) hne (irqReg_adcOfs u k)).trans
    (s.putOffsets_fld u means k)

/-- A bad calibration of kinds 0 to 2 writes no register but those of the calibration unit. -/
theorem Block.calBad_regsOnly {b : Block} {s : Fin 4} {c : CalRun} (h : (vget b.cal.surf s).run = some c)
    (hk : c.kind < 3) (values : List Nat) : Block.regsOnly [CAL_STAT, CAL_CNT] b (b.calBad s values) := by
  have hfail := b.calFail_regsOnly s values
  obtain hk | hk | hk : c.kind = 0 ∨ c.kind = 1 ∨ c.kind = 2 := by omega
  all_goals rw [Block.calBad_eq h, Block.afterBad, hk]
  · exact hfail.same
  · have hbar : Block.regsOnly [CAL_STAT, CAL_CNT] b ((b.calFail s values).barWrites s) := hfail.same
    exact hbar.raiseSurf s 32
  · exact hfail.raiseSurf s 31

theorem Block.calBad_barred {b : Block} {s : Fin 4} {c : CalRun} (h : (vget b.cal.surf s).run = some c)
    (hk : c.kind = 1) (values : List Nat) : (vget (b.calBad s values).cal.surf s).barred = true := by
  rw [Block.calBad_eq h, Block.afterBad_servoOffset hk, Block.raiseSurf, Block.raise_cal]
  exact (congrArg CalSurf.barred ((b.calFail s values).vget_modCalSurf_same s fun k => { k with barred := true }) :)

theorem Block.calBad_loopGain {b : Block} {s : Fin 4} {c : CalRun} (h : (vget b.cal.surf s).run = some c)
    (hk : c.kind = 2) (values : List Nat) : (b.calBad s values).le = b.le ∧
      (vget (b.calBad s values).cal.surf s).barred = (vget b.cal.surf s).barred := by
  have hraise := (b.calFail s values).raise_frame (1024 + 40 * s.val + 31)
  rw [Block.calBad_eq h, Block.afterBad_loopGain hk]
  refine ⟨(hraise.same .le (by decide)).trans ((b.calFail_frame s values).same .le (by decide)), ?_⟩
  rw [Block.raiseSurf, Block.raise_cal, Block.calFail_surf h]

theorem does_calServoOffset_bad {s : State} {u : Fin 4} {c : CalRun} (hs : s.part.hasSurf u = true)
    (hrun : (vget s.cal.surf u).run = some c) (hk : c.kind = 1) (bg : Bool) {means : Vector (BitVec 14) 9}
    (hm : ∃ k : Fin 9, 1024 < (vget means k).toInt.natAbs) :
    Does (.calServoOffset u bg (some means)) s fun v => s.BadResult v.toBlock u ∧
      v.raised (1024 + 40 * u.val + 32) = true ∧ (vget v.cal.surf u).barred = true ∧
      ∀ k : Fin 9, v.rd (SFs_ADC_OFS_k u k) = s.rd (SFs_ADC_OFS_k u k) := by
  have hres : s.offsetResult u (some means) = s.calBad u [] := by
    have hany : means.toList.any (fun m => decide (1024 < m.toInt.natAbs)) = true :=
      (any_toList_iff ..).mpr (hm.imp fun _ => decide_eq_true)
    unfold Block.offsetResult
    rw [show s.calRun u 1 = some c from hk ▸ Block.calRun_eq hrun]
    dsimp only
    rw [hany, if_pos rfl]
  have hevent : (s.calBad u []).raised (1024 + 40 * u.val + 32) = true := by
    have h := Block.afterBad_event (b := s.calFail u []) ((s.calFail_calm u []).part ▸ hs) (c := c) (by omega)
    rw [hk] at h
    rw [Block.calBad_eq hrun]
    exact h
  refine does_onSurf (exec_calServoOffset u bg (some means) s) hs ?_
  rw [Block.calStart_not (Block.calMay_busy hrun 1 bg), hres]
  exact ⟨Block.calBad_bad hs hrun [], hevent, Block.calBad_barred hrun hk [], fun k =>
    Block.calBad_regsOnly hrun (by omega) [] _ (adcOfs_not_mem u k) (irqReg_adcOfs u k)⟩

/-! ### Kind 2: a loop is rescaled in the inactive bank (R156, R471) -/

/-- The quarter that the loop of an entry reads, and the same set in the other bank. -/
def Block.loopQuarter (b : Block) (entry : Nat) : Nat := b.quarter (slotOwner (b.slotEff entry))
def Block.idleQuarter (b : Block) (entry : Nat) : Nat :=
  if b.loopQuarter entry % 2 = 0 then b.loopQuarter entry + 1 else b.loopQuarter entry - 1

/-- Where the five gains of the loop of an entry stand in a quarter. -/
def Block.gainBase (b : Block) (entry : Nat) : Nat :=
  b.fld (LE_PDESC_p_W1_CBASE (slotProg (b.slotEff entry))) + 20

theorem Block.bank_lt (b : Block) : b.fld LE_COEF_CTL_BANK < 2 := b.fld_lt LE_COEF_CTL_BANK

theorem Block.loopQuarter_lt (b : Block) (entry : Nat) : b.loopQuarter entry < 4 := by
  have := b.bank_lt
  unfold Block.loopQuarter Block.quarter
  split <;> omega

/-- A loop reads the active bank. -/
theorem Block.loopQuarter_bank (b : Block) (entry : Nat) : b.loopQuarter entry % 2 = b.fld LE_COEF_CTL_BANK := by
  have := b.bank_lt
  unfold Block.loopQuarter Block.quarter
  split <;> omega

theorem Block.idleQuarter_lt (b : Block) (entry : Nat) : b.idleQuarter entry < 4 := by
  have := b.loopQuarter_lt entry
  unfold Block.idleQuarter
  split <;> omega

theorem Block.idleQuarter_bank (b : Block) (entry : Nat) : b.idleQuarter entry % 2 ≠ b.fld LE_COEF_CTL_BANK := by
  have := b.loopQuarter_bank entry
  unfold Block.idleQuarter
  split <;> omega

/-- A coefficient is written at once while no execution is in progress (R167). -/
theorem Block.leMemWrite_coef {b : Block} (h : b.le.run = none) {o : Nat} (ho : o % 4 = 0) (hlo : 0x90000 ≤ o)
    (hhi : o < 0xA0000) (v : Word) : b.leMemWrite o v = b.wr o v := by
  have hin : inLeMemory o = true := by
    have h2 : ¬ (0x83000 ≤ o ∧ o < 0x84000) := by omega
    have h1 : 0x82000 ≤ o := by omega
    simp only [inLeMemory, ho, h1, hhi, decide_true, Bool.true_and, ← Bool.decide_and, h2, decide_false, Bool.not_false]
  rw [Block.leMemWrite, hin, h, Bool.not_true, if_neg Bool.false_ne_true, if_pos Option.isNone_none, Block.applyHeld]
  dsimp only
  rw [if_neg (by omega), if_neg (by omega), if_neg (by omega)]

/-- The first `n` gains from `base` of quarter `q`, scaled, are written into quarter `dst`. -/
def Block.putScaled (b : Block) (q dst base f n : Nat) : Block :=
  (List.range n).foldl
    (fun c i => c.wr (LE_CMEM_q_c dst ((base + i) % 4096)) (coefScale (c.cmem q (base + i)) f)) b

theorem Block.putScaled_frame (b : Block) (q dst base f n : Nat) : Frame [.regs] b (b.putScaled q dst base f n) :=
  Frame.foldl .refl fun _ _ hc => frame_wr hc _ _ (List.Subset.refl _)

theorem Block.putScaled_rd_ne (b : Block) {q dst base f n o : Nat}
    (ho : ∀ i < n, o ≠ LE_CMEM_q_c dst ((base + i) % 4096)) : (b.putScaled q dst base f n).rd o = b.rd o :=
  Block.rd_foldl_ne (reg := fun i => LE_CMEM_q_c dst ((base + i) % 4096)) (fun c _ h => Block.rd_wr_ne c h _) b ho

/-- Another quarter stays. -/
theorem Block.putScaled_cmem_ne (b : Block) {p q dst base f n : Nat} (hp : p < 4) (hne : p ≠ dst) (c : Nat) :
    (b.putScaled q dst base f n).cmem p c = b.cmem p c := by
  refine b.putScaled_rd_ne fun i _ => ?_
  simp only [LE_CMEM_q_c]
  omega

/-- Registers below the coefficient memory stay. -/
theorem Block.putScaled_rd_low (b : Block) {q dst base f n o : Nat} (ho : o < 0x90000) :
    (b.putScaled q dst base f n).rd o = b.rd o :=
  b.putScaled_rd_ne fun i _ => by
    simp only [LE_CMEM_q_c]
    omega

theorem Block.putScaled_cmem (b : Block) {q dst base f i : Nat} (hdst : dst < 4) (hq : q < 4) (hne : q ≠ dst)
    (hi : i < 5) : (b.putScaled q dst base f 5).cmem dst (base + i) = coefScale (b.cmem q (base + i)) f := by
  have hinj : ∀ j < 5, j ≠ i →
      LE_CMEM_q_c dst ((base + j) % 4096) ≠ LE_CMEM_q_c dst ((base + i) % 4096) := fun j hj hji => by
    simp only [LE_CMEM_q_c]
    omega
  have hrd := Block.rd_foldl_at (reg := fun i => LE_CMEM_q_c dst ((base + i) % 4096))
    (f := fun c i => c.wr (LE_CMEM_q_c dst ((base + i) % 4096)) (coefScale (c.cmem q (base + i)) f))
    (fun c _ _ h => Block.rd_wr_ne c h _) b hi hinj
  rw [Block.cmem, Nat.mod_eq_of_lt hdst]
  refine hrd.trans ((Block.rd_wr_same ..).trans (congrArg (coefScale · f) ?_))
  exact b.putScaled_cmem_ne hq hne _

theorem Block.scaleLoop_idle {b : Block} (h : b.le.run = none) (entry : Nat) (err : Int) :
    b.scaleLoop entry err =
      b.putScaled (b.loopQuarter entry) (b.idleQuarter entry) (b.gainBase entry) (gainInv err) 5 := by
  have hfold : ∀ n, (List.range n).foldl (fun b' i =>
      b'.leMemWrite (LE_CMEM_q_c (b.idleQuarter entry) ((b.gainBase entry + i) % 4096))
        (coefScale (b'.cmem (b.loopQuarter entry) (b.gainBase entry + i)) (gainInv err))) b =
      b.putScaled (b.loopQuarter entry) (b.idleQuarter entry) (b.gainBase entry) (gainInv err) n := fun n => by
    induction n with
    | zero => rfl
    | succ n ih =>
      have hq := b.idleQuarter_lt entry
      have hle : (b.putScaled (b.loopQuarter entry) (b.idleQuarter entry) (b.gainBase entry) (gainInv err) n).le.run =
          none := (congrArg Loop.run ((b.putScaled_frame ..).same .le (by decide))).trans h
      rw [List.range_succ, List.foldl_append, ih, List.foldl_cons, List.foldl_nil,
        Block.leMemWrite_coef hle (by simp only [LE_CMEM_q_c]; omega) (by simp only [LE_CMEM_q_c]; omega)
          (by simp only [LE_CMEM_q_c]; omega)]
      unfold Block.putScaled
      rw [List.range_succ, List.foldl_append, List.foldl_cons, List.foldl_nil]
  exact hfold 5

/-- In block `v` the inactive bank holds the gains that the loop of an entry has in `b`, rescaled by a deviation. -/
def Block.LoopScaled (b v : Block) (entry : Nat) (err : Int) : Prop := ∀ i, i < 5 →
  v.cmem (b.idleQuarter entry) (b.gainBase entry + i) =
    coefScale (b.cmem (b.loopQuarter entry) (b.gainBase entry + i)) (gainInv err)

/-- Block `t` differs from `b` in the inactive bank's coefficients at most, as far as the loops go. -/
structure Block.BankKept (b t : Block) : Prop where
  le : t.le = b.le
  rd : ∀ o < 0x90000, t.rd o = b.rd o
  cmem : ∀ q < 4, q % 2 = b.fld LE_COEF_CTL_BANK → ∀ c, t.cmem q c = b.cmem q c

theorem Block.scaleLoop_kept {b : Block} (h : b.le.run = none) (entry : Nat) (err : Int) :
    b.BankKept (b.scaleLoop entry err) := by
  rw [Block.scaleLoop_idle h]
  exact ⟨(b.putScaled_frame ..).same .le (by decide), fun o ho => b.putScaled_rd_low ho, fun q hq hb c =>
    b.putScaled_cmem_ne hq (fun he : q = b.idleQuarter entry => b.idleQuarter_bank entry (he ▸ hb)) c⟩

theorem Block.scaleLoop_scales {b : Block} (h : b.le.run = none) (entry : Nat) (err : Int) :
    b.LoopScaled (b.scaleLoop entry err) entry err := fun i hi => by
  rw [Block.scaleLoop_idle h]
  exact b.putScaled_cmem (b.idleQuarter_lt entry) (b.loopQuarter_lt entry)
    (fun he => b.idleQuarter_bank entry (he ▸ b.loopQuarter_bank entry)) hi

theorem Block.BankKept.slotEff {b t : Block} (h : b.BankKept t) (entry : Nat) : t.slotEff entry = b.slotEff entry := by
  rw [Block.slotEff, h.le, Block.slotEff]

theorem Block.BankKept.loopQuarter {b t : Block} (h : b.BankKept t) (entry : Nat) :
    t.loopQuarter entry = b.loopQuarter entry := by
  have hbank : t.fld LE_COEF_CTL_BANK = b.fld LE_COEF_CTL_BANK := Block.fld_of_rd (h.rd _ (by decide))
  rw [Block.loopQuarter, h.slotEff, Block.quarter, h.le, hbank]
  rfl

theorem Block.BankKept.idleQuarter {b t : Block} (h : b.BankKept t) (entry : Nat) :
    t.idleQuarter entry = b.idleQuarter entry := by
  rw [Block.idleQuarter, h.loopQuarter, Block.idleQuarter]

theorem Block.BankKept.gainBase {b t : Block} (h : b.BankKept t) (entry : Nat) :
    t.gainBase entry = b.gainBase entry := by
  have hlt : slotProg (b.slotEff entry) < 256 := Nat.mod_lt _ (by decide)
  have hrd : (LE_PDESC_p_W1_CBASE (slotProg (b.slotEff entry))).reg < 0x90000 := by
    simp only [LE_PDESC_p_W1_CBASE, LE_PDESC_p_W1]
    omega
  rw [Block.gainBase, h.slotEff, Block.fld_of_rd (h.rd _ hrd), Block.gainBase]

/-- What is scaled after work in the inactive bank is scaled of the loop as it was before. -/
theorem Block.BankKept.scaled {b t v : Block} (h : b.BankKept t) {entry : Nat} {err : Int}
    (hs : t.LoopScaled v entry err) : b.LoopScaled v entry err := fun i hi => by
  rw [← h.idleQuarter, ← h.gainBase, hs i hi, h.loopQuarter,
    h.cmem _ (b.loopQuarter_lt entry) (b.loopQuarter_bank entry)]

/-- A loop whose gain deviates by more than 1 dB is rescaled. -/
def Block.adjust (b : Block) (entry : Nat) (err : Int) : Block :=
  if 10 < err.natAbs then b.scaleLoop entry err else b

theorem Block.adjust_frame (b : Block) (entry : Nat) (err : Int) : Frame [.regs, .le] b (b.adjust entry err) := by
  unfold Block.adjust
  split
  · exact frame_scaleLoop .refl entry err (List.Subset.refl _)
  · exact .refl

theorem Block.adjust_kept {b : Block} (h : b.le.run = none) (entry : Nat) (err : Int) :
    b.BankKept (b.adjust entry err) := by
  unfold Block.adjust
  split
  · exact Block.scaleLoop_kept h entry err
  · exact ⟨rfl, fun _ _ => rfl, fun _ _ _ _ => rfl⟩

theorem Block.adjust_small {err : Int} (h : ¬ 10 < err.natAbs) (b : Block) (entry : Nat) : b.adjust entry err = b :=
  if_neg h

theorem Block.adjust_scales {b : Block} (h : b.le.run = none) (entry : Nat) {err : Int} (hbig : 10 < err.natAbs) :
    b.LoopScaled (b.adjust entry err) entry err := by
  rw [Block.adjust, if_pos hbig]
  exact Block.scaleLoop_scales h entry err

/-- Both loops of a surface adjusted, focus first. -/
def Block.adjustLoops (b : Block) (s : Fin 4) (f t : Int) : Block := (b.adjust s.val f).adjust (4 + s.val) t

/-- The banks will be exchanged, with event 30. -/
def Block.swapDue (b : Block) (s : Fin 4) : Block := (b.modLe fun l => { l with swap := true }).raiseSurf s 30

/-- The deviations found are put right. -/
def Block.gainsPutRight (b : Block) (s : Fin 4) (f t : Int) : Block :=
  if 10 < f.natAbs ∨ 10 < t.natAbs then (b.adjustLoops s f t).swapDue s else b.adjustLoops s f t

/-- The deviations found in a loop-gain calibration. -/
def Block.gainResult (b : Block) (s : Fin 4) (err : Option (BitVec 16 × BitVec 16)) : Block :=
  match b.calRun s 2, err with
  | some _, some (f, t) =>
    if 60 < f.toInt.natAbs ∨ 60 < t.toInt.natAbs then b.calBad s [natOf 16 f.toInt, natOf 16 t.toInt]
    else (b.gainsPutRight s f.toInt t.toInt).calEnd s 0 [natOf 16 f.toInt, natOf 16 t.toInt]
  | _, _ => b

theorem exec_calLoopGain (u : Fin 4) (bg : Bool) (err : Option (BitVec 16 × BitVec 16)) (s : State) :
    exec (.calLoopGain u bg err) s = s.upd fun b => b.onSurf u fun b => (b.calStart u 2 bg).gainResult u err := rfl

theorem Block.gainResult_none (b : Block) (s : Fin 4) : b.gainResult s none = b := by
  unfold Block.gainResult
  cases b.calRun s 2 <;> rfl

theorem Block.gainResult_some {b : Block} {s : Fin 4} {c : CalRun} (h : (vget b.cal.surf s).run = some c)
    (hk : c.kind = 2) (f t : BitVec 16) : b.gainResult s (some (f, t)) =
      if 60 < f.toInt.natAbs ∨ 60 < t.toInt.natAbs then b.calBad s [natOf 16 f.toInt, natOf 16 t.toInt]
      else (b.gainsPutRight s f.toInt t.toInt).calEnd s 0 [natOf 16 f.toInt, natOf 16 t.toInt] := by
  unfold Block.gainResult
  rw [show b.calRun s 2 = some c from hk ▸ Block.calRun_eq h]

theorem Block.adjustLoops_frame (b : Block) (s : Fin 4) (f t : Int) : Frame [.regs, .le] b (b.adjustLoops s f t) :=
  (b.adjust_frame s.val f).step (List.Subset.refl _) (Block.adjust_frame _ _ t)

theorem Block.swapDue_frame (b : Block) (s : Fin 4) : Frame [.regs, .irq, .le, .ml, .out] b (b.swapDue s) :=
  (frame_modLe .refl _ (by decide)).step (by decide) (Block.raise_frame _ _)

theorem Block.gainsPutRight_frame (b : Block) (s : Fin 4) (f t : Int) :
    Frame [.regs, .irq, .le, .ml, .out] b (b.gainsPutRight s f t) :=
  Frame.ite (Frame.refl.step (by decide) (b.adjustLoops_frame s f t)) fun h =>
    h.step (List.Subset.refl _) (Block.swapDue_frame _ s)

theorem Block.gainsPutRight_small {f t : Int} (hf : ¬ 10 < f.natAbs) (ht : ¬ 10 < t.natAbs) (b : Block) (s : Fin 4) :
    b.gainsPutRight s f t = b := by
  rw [Block.gainsPutRight, if_neg (by simp [hf, ht]), Block.adjustLoops, Block.adjust_small hf, Block.adjust_small ht]

theorem Block.gainsPutRight_swaps {b : Block} {s : Fin 4} (hs : b.part.hasSurf s = true) {f t : Int}
    (h : 10 < f.natAbs ∨ 10 < t.natAbs) : (b.gainsPutRight s f t).le.swap = true ∧
      (b.gainsPutRight s f t).raised (1024 + 40 * s.val + 30) = true := by
  let c := (b.adjustLoops s f t).modLe fun l => { l with swap := true }
  have hpart : c.part = b.part := (b.adjustLoops_frame s f t).same .part (by decide)
  have hc : b.gainsPutRight s f t = c.raiseSurf s 30 := if_pos h
  rw [hc]
  exact ⟨congrArg Loop.swap ((c.raise_frame _).same .le (by decide)),
    Block.raiseSurf_raises (by rw [hpart]; exact hs) (by decide)⟩

theorem irqReg_cmem (q c : Nat) : irqReg (LE_CMEM_q_c q c) = false :=
  irqReg_of_ge (by simp only [LE_CMEM_q_c]; omega)

theorem cmem_not_mem (q c : Nat) : LE_CMEM_q_c q c ∉ [CAL_STAT] := by
  simp only [CAL_STAT, LE_CMEM_q_c, List.mem_cons, List.not_mem_nil, or_false]
  omega

theorem Block.gainsPutRight_cmem (b : Block) (s : Fin 4) (f t : Int) (q c : Nat) :
    (b.gainsPutRight s f t).cmem q c = (b.adjustLoops s f t).cmem q c := by
  unfold Block.gainsPutRight
  split
  · exact Block.raise_rd _ _ (irqReg_cmem ..)
  · rfl

/-- The gains after both adjustments: tracking's always, focus's where tracking stays. -/
theorem Block.adjustLoops_scales {b : Block} (h : b.le.run = none) (s : Fin 4) (f t : Int) :
    (10 < t.natAbs → b.LoopScaled (b.adjustLoops s f t) (4 + s.val) t) ∧
      (10 < f.natAbs → ¬ 10 < t.natAbs → b.LoopScaled (b.adjustLoops s f t) s.val f) := by
  have hkept := Block.adjust_kept h s.val f
  refine ⟨fun ht => hkept.scaled (Block.adjust_scales (hkept.le ▸ h) _ ht), fun hf ht => ?_⟩
  rw [Block.adjustLoops, Block.adjust_small ht]
  exact Block.adjust_scales h _ hf

theorem does_calLoopGain_ends {s : State} {u : Fin 4} {c : CalRun} (hs : s.part.hasSurf u = true)
    (hrun : (vget s.cal.surf u).run = some c) (hk : c.kind = 2) (bg : Bool) {f t : BitVec 16}
    (hf : ¬ 60 < f.toInt.natAbs) (ht : ¬ 60 < t.toInt.natAbs) :
    Does (.calLoopGain u bg (some (f, t))) s fun v => v.CalEnded u ∧
      (¬ 10 < f.toInt.natAbs → ¬ 10 < t.toInt.natAbs → v.le = s.le ∧ Block.regsOnly [CAL_STAT] s.toBlock v.toBlock) ∧
      (10 < f.toInt.natAbs ∨ 10 < t.toInt.natAbs → v.le.swap = true ∧ v.raised (1024 + 40 * u.val + 30) = true) ∧
      (s.le.run = none → (10 < t.toInt.natAbs → s.LoopScaled v.toBlock (4 + u.val) t.toInt) ∧
        (10 < f.toInt.natAbs → ¬ 10 < t.toInt.natAbs → s.LoopScaled v.toBlock u.val f.toInt)) := by
  let b := s.gainsPutRight u f.toInt t.toInt
  let vals := [natOf 16 f.toInt, natOf 16 t.toInt]
  have hb : Frame [.regs, .irq, .le, .ml, .out] s.toBlock b := s.gainsPutRight_frame u _ _
  have hle : (b.calEnd u 0 vals).le = b.le := (b.calEnd_frame u 0 vals).same .le (by decide)
  have hbrun : (vget b.cal.surf u).run = some c := by
    rw [hb.same .cal (by decide)]
    exact hrun
  have hcmem : ∀ q p, (b.calEnd u 0 vals).cmem q p = (s.adjustLoops u f.toInt t.toInt).cmem q p := fun q p =>
    (b.calEnd_regsOnly u 0 vals _ (cmem_not_mem (q % 4) (p % 4096)) (irqReg_cmem ..)).trans
      (s.gainsPutRight_cmem u _ _ q p)
  have hscaled : ∀ entry err, s.LoopScaled (s.adjustLoops u f.toInt t.toInt) entry err →
      s.LoopScaled (b.calEnd u 0 vals) entry err := fun _ _ h i hi => (hcmem ..).trans (h i hi)
  refine does_onSurf (exec_calLoopGain u bg (some (f, t)) s) hs ?_
  rw [Block.calStart_not (Block.calMay_busy hrun 2 bg), Block.gainResult_some hrun hk, if_neg (by simp [hf, ht])]
  refine ⟨Block.calEnd_ended hbrun 0 vals, fun hf10 ht10 => ?_, fun hbig => ?_, fun hidle => ?_⟩
  · rw [Block.gainsPutRight_small hf10 ht10]
    exact ⟨(s.calEnd_frame u 0 vals).same .le (by decide), s.calEnd_regsOnly u 0 vals⟩
  · obtain ⟨hswap, hevent⟩ := Block.gainsPutRight_swaps hs hbig
    exact ⟨(congrArg Loop.swap hle).trans hswap, Block.calEnd_raised u 0 vals hevent⟩
  · obtain ⟨htrack, hfocus⟩ := Block.adjustLoops_scales hidle u f.toInt t.toInt
    exact ⟨fun h => hscaled _ _ (htrack h), fun h h' => hscaled _ _ (hfocus h h')⟩

theorem Block.calBad_event {b : Block} {s : Fin 4} (hs : b.part.hasSurf s = true) {c : CalRun}
    (h : (vget b.cal.surf s).run = some c) (h0 : c.kind ≠ 0) (values : List Nat) :
    (b.calBad s values).raised (1024 + 40 * s.val + badEvent c.kind) = true := by
  rw [Block.calBad_eq h]
  exact Block.afterBad_event ((b.calFail_calm s values).part ▸ hs) h0

theorem does_calLoopGain_bad {s : State} {u : Fin 4} {c : CalRun} (hs : s.part.hasSurf u = true)
    (hrun : (vget s.cal.surf u).run = some c) (hk : c.kind = 2) (bg : Bool) {f t : BitVec 16}
    (hbig : 60 < f.toInt.natAbs ∨ 60 < t.toInt.natAbs) :
    Does (.calLoopGain u bg (some (f, t))) s fun v => s.BadResult v.toBlock u ∧
      v.raised (1024 + 40 * u.val + 31) = true ∧ v.le = s.le ∧
      (vget v.cal.surf u).barred = (vget s.cal.surf u).barred := by
  have hevent := Block.calBad_event hs hrun (by omega) [natOf 16 f.toInt, natOf 16 t.toInt]
  rw [hk] at hevent
  refine does_onSurf (exec_calLoopGain u bg (some (f, t)) s) hs ?_
  rw [Block.calStart_not (Block.calMay_busy hrun 2 bg), Block.gainResult_some hrun hk, if_pos hbig]
  exact ⟨Block.calBad_bad hs hrun _, hevent, Block.calBad_loopGain hrun hk _⟩

/-! ### Kind 4 (R468) -/

/-- Kind 4 starts, after the first write-power check of a layer in a load. -/
def Block.strategyStart (b : Block) (s : Fin 4) : Block :=
  if b.calMay s 4 false && (vget b.cal.surf s).checked = some (b.bandNow s) &&
      !(vget b.cal.surf s).strategy.contains (bandLayer (b.bandNow s)) then
    b.calBegin s 4 (b.bandNow s) false []
  else b

/-- The table found is loaded for its class, and its layer is calibrated in this load. -/
def Block.strategyFound (b : Block) (s : Fin 4) (r : CalRun) (table : Vector Word 28) : Block :=
  ((b.wstLoad s (b.wsClass s) table.toList).modCalSurf s fun c =>
    { c with strategy := insertSrc (bandLayer r.band) c.strategy }).raiseSurf s 28

/-- The table found in a write-strategy calibration. -/
def Block.strategyResult (b : Block) (s : Fin 4) (table : Option (Vector Word 28)) : Block :=
  match b.calRun s 4, table with
  | some r, some t => (b.strategyFound s r t).calEnd s 0 []
  | _, _ => b

theorem exec_calWriteStrategy (u : Fin 4) (table : Option (Vector Word 28)) (s : State) :
    exec (.calWriteStrategy u table) s =
      s.upd fun b => b.onSurf u fun b => (b.strategyStart u).strategyResult u table := rfl

theorem Block.strategyResult_none (b : Block) (s : Fin 4) : b.strategyResult s none = b := by
  unfold Block.strategyResult
  cases b.calRun s 4 <;> rfl

theorem Block.strategyStart_not {b : Block} {s : Fin 4} (h : b.calMay s 4 false = false) : b.strategyStart s = b :=
  if_neg (by simp [h])

theorem Block.strategyStart_begins {b : Block} {s : Fin 4} (h : b.calMay s 4 false = true)
    (hc : (vget b.cal.surf s).checked = some (b.bandNow s))
    (hl : bandLayer (b.bandNow s) ∉ (vget b.cal.surf s).strategy) : b.CalBegun (b.strategyStart s) s 4 := by
  rw [Block.strategyStart, if_pos (by simp [h, hc, hl])]
  exact b.calBegin_begins s 4 false []

theorem does_calWriteStrategy_ends {s : State} {u : Fin 4} {c : CalRun} (hs : s.part.hasSurf u = true)
    (hrun : (vget s.cal.surf u).run = some c) (hk : c.kind = 4) (table : Vector Word 28) :
    Does (.calWriteStrategy u (some table)) s fun v => v.CalEnded u ∧ v.raised (1024 + 40 * u.val + 28) = true ∧
      bandLayer c.band ∈ (vget v.cal.surf u).strategy ∧ (s.wsClass u, table.toList) ∈ (vget v.se u).wst := by
  let w := s.wstLoad u (s.wsClass u) table.toList
  let m := w.modCalSurf u fun x => { x with strategy := insertSrc (bandLayer c.band) x.strategy }
  let b := s.strategyFound u c table
  have hw : Frame [.se, .out] s.toBlock w := frame_wstLoad .refl u _ _ (List.Subset.refl _)
  have hm : vget m.cal.surf u =
      { vget w.cal.surf u with strategy := insertSrc (bandLayer c.band) (vget w.cal.surf u).strategy } :=
    w.vget_modCalSurf_same u _
  have hb : vget b.cal.surf u = vget m.cal.surf u := congrArg (fun c => vget c.surf u) (m.raise_cal _)
  have hbrun : (vget b.cal.surf u).run = some c := by
    rw [hb, hm, hw.same .cal (by decide)]
    exact hrun
  have hres : s.strategyResult u (some table) = b.calEnd u 0 [] := by
    unfold Block.strategyResult
    rw [show s.calRun u 4 = some c from hk ▸ Block.calRun_eq hrun]
  have hpart : m.part.hasSurf u = true := by
    rw [show m.part = s.part from hw.same .part (by decide)]
    exact hs
  have hse : (b.calEnd u 0 []).se = w.se :=
    ((b.calEnd_frame u 0 []).same .se (by decide)).trans ((m.raise_frame _).same .se (by decide))
  refine does_onSurf (exec_calWriteStrategy u (some table) s) hs ?_
  rw [Block.strategyStart_not (Block.calMay_busy hrun 4 false), hres]
  refine ⟨Block.calEnd_ended hbrun 0 [], Block.calEnd_raised u 0 [] (Block.raiseSurf_raises hpart (by decide)), ?_, ?_⟩
  · dsimp only
    rw [Block.calEnd_surf hbrun, hb, hm]
    exact mem_insertSrc_iff.mpr (.inl rfl)
  · have hwst : (s.wsClass u, table.toList) ∈ (vget w.se u).wst := by
      rw [show vget w.se u = _ from vget_vset_same ..]
      exact List.mem_append_right _ List.mem_cons_self
    dsimp only
    rw [hse]
    exact hwst

/-! ### Timeouts (R30, R474, R481) -/

/-- The calibration on the surface is bad where its timeout has passed. -/
def Block.calExpire (b : Block) (s : Fin 4) : Block :=
  match (vget b.cal.surf s).run with
  | none => b
  | some c => if b.now < c.start + c.tmo + 1 then b else (b.calBad s []).adcEnds

theorem exec_calTimeout (u : Fin 4) (s : State) :
    exec (.calTimeout u) s = s.upd fun b => b.onSurf u fun b => b.calExpire u := rfl

theorem Block.calExpire_idle {b : Block} {s : Fin 4} (h : (vget b.cal.surf s).run = none) : b.calExpire s = b := by
  rw [Block.calExpire, h]

theorem Block.calExpire_waits {b : Block} {s : Fin 4} {c : CalRun} (h : (vget b.cal.surf s).run = some c)
    (ht : b.now < c.start + c.tmo + 1) : b.calExpire s = b := by
  unfold Block.calExpire
  rw [h]
  exact if_pos ht

theorem Block.calExpire_bad {b : Block} {s : Fin 4} {c : CalRun} (h : (vget b.cal.surf s).run = some c)
    (ht : c.start + c.tmo + 1 ≤ b.now) : b.calExpire s = (b.calBad s []).adcEnds := by
  unfold Block.calExpire
  rw [h]
  exact if_neg (Nat.not_lt_of_le ht)

/-- An expired calibration is a bad result, with the event of its kind; `P` is what else holds after it. -/
theorem does_calTimeout {s : State} {u : Fin 4} {c : CalRun} (hs : s.part.hasSurf u = true)
    (hrun : (vget s.cal.surf u).run = some c) (ht : c.start + c.tmo + 1 ≤ s.now) {P : Block → Prop}
    (hP : P (s.calBad u []).adcEnds) : Does (.calTimeout u) s fun v => s.BadResult v.toBlock u ∧
      (c.kind ≠ 0 → v.raised (1024 + 40 * u.val + badEvent c.kind) = true) ∧ P v.toBlock := by
  have hkept := (s.calBad u []).adcEnds_kept u
  refine does_onSurf (exec_calTimeout u s) hs ?_
  rw [Block.calExpire_bad hrun ht]
  exact ⟨(Block.calBad_bad hs hrun []).after hkept,
    fun h0 => hkept.calm.raised _ (Block.calBad_event hs hrun h0 []), hP⟩

theorem irqReg_adcMap (n k : Nat) : irqReg (BMnn_ADC_MAP_k n k) = false :=
  irqReg_of_ge (by simp only [BMnn_ADC_MAP_k]; omega)

theorem adcMap_not_mem (n k : Nat) : BMnn_ADC_MAP_k n k ∉ [CAL_STAT, CAL_CNT] := by
  simp only [CAL_STAT, CAL_CNT, BMnn_ADC_MAP_k, List.mem_cons, List.not_mem_nil, or_false]
  omega

theorem Does.imp {i : Instr} {s : State} {P Q : State → Prop} (h : Does i s P) (hPQ : ∀ v, P v → Q v) : Does i s Q := by
  obtain ⟨t, ht, hpend, hP⟩ := h
  exact ⟨t, ht, hpend, hPQ t hP⟩

section timeout

variable {s : State} {u : Fin 4} {c : CalRun} (hs : s.part.hasSurf u = true)
  (hrun : (vget s.cal.surf u).run = some c) (ht : c.start + c.tmo + 1 ≤ s.now)

include hs hrun ht

theorem does_calTimeout_adcOffset (hk : c.kind = 0) : Does (.calTimeout u) s fun v => s.BadResult v.toBlock u ∧
    ∀ n k, v.rd (BMnn_ADC_MAP_k n k) = s.rd (BMnn_ADC_MAP_k n k) := by
  have hregs : Block.regsOnly [CAL_STAT, CAL_CNT] s.toBlock (s.calBad u []).adcEnds :=
    Block.regsOnly_trans (Block.calBad_regsOnly hrun (by omega) [])
      ((s.calBad u []).adcEnds_regsOnly.mono (List.subset_append_left [CAL_STAT] [CAL_CNT]))
  exact (does_calTimeout hs hrun ht (P := fun v => ∀ n k, v.rd (BMnn_ADC_MAP_k n k) = s.rd (BMnn_ADC_MAP_k n k))
    fun n k => hregs _ (adcMap_not_mem n k) (irqReg_adcMap n k)).imp fun _ ⟨hbad, _, hP⟩ => ⟨hbad, hP⟩

theorem does_calTimeout_servoOffset (hk : c.kind = 1) : Does (.calTimeout u) s fun v => s.BadResult v.toBlock u ∧
    v.raised (1024 + 40 * u.val + 32) = true ∧ (vget v.cal.surf u).barred = true := by
  have hbar : (vget (s.calBad u []).adcEnds.cal.surf u).barred = true := by
    rw [Block.adcEnds_surf]
    exact Block.calBad_barred hrun hk []
  refine (does_calTimeout hs hrun ht (P := fun v => (vget v.cal.surf u).barred = true) hbar).imp
    fun v ⟨hbad, hevent, hP⟩ => ?_
  rw [hk] at hevent
  exact ⟨hbad, hevent (by decide), hP⟩

theorem does_calTimeout_loopGain (hk : c.kind = 2) : Does (.calTimeout u) s fun v => s.BadResult v.toBlock u ∧
    v.raised (1024 + 40 * u.val + 31) = true ∧ v.le = s.le := by
  have hends : Frame [.regs, .irq, .cal, .ml, .out] (s.calBad u []) (s.calBad u []).adcEnds :=
    frame_adcEnds .refl (List.Subset.refl _)
  have hle : (s.calBad u []).adcEnds.le = s.le :=
    (hends.same .le (by decide)).trans (Block.calBad_loopGain hrun hk []).1
  refine (does_calTimeout hs hrun ht (P := fun v => v.le = s.le) hle).imp fun v ⟨hbad, hevent, hP⟩ => ?_
  rw [hk] at hevent
  exact ⟨hbad, hevent (by decide), hP⟩

theorem does_calTimeout_event {k : Nat} (hk : c.kind = k) (h0 : k ≠ 0) : Does (.calTimeout u) s fun v =>
    s.BadResult v.toBlock u ∧ v.raised (1024 + 40 * u.val + badEvent k) = true :=
  (does_calTimeout hs hrun ht (P := fun _ => True) trivial).imp fun _ ⟨hbad, hevent, _⟩ =>
    ⟨hbad, hk ▸ hevent (hk ▸ h0)⟩

end timeout

/-! ### The starts as commands (R468) -/

section starts

variable {s : State} {u : Fin 4} {bg : Bool}

/-- A command without findings starts its calibration, where kind `k` may start. -/
theorem does_calStart {i : Instr} {k : Nat} {g : Block → Block}
    (hi : exec i s = s.upd fun b => b.onSurf u fun b => g (b.calStart u k bg)) (hg : ∀ b, g b = b)
    (h : s.CalIdle u k bg) (hunit : s.calUnitFree u k = true) : Does i s fun v => s.CalBegun v.toBlock u k := by
  refine does_onSurf hi h.1 ?_
  rw [hg]
  exact Block.calStart_begins (h.may hunit)

/-- With its AUTO bit clear, a kind does not start. -/
theorem exec_calStart_off {i : Instr} {k : Nat} {g : Block → Block}
    (hi : exec i s = s.upd fun b => b.onSurf u fun b => g (b.calStart u k bg)) (hg : ∀ b, g b = b)
    (hauto : s.onBit CAL_CTL_AUTO k = false) : exec i s = .next s :=
  exec_onSurf_same hi ((hg _).trans (Block.calStart_not (Block.calMay_off hauto bg)))

theorem does_calAdcOffset_begins (h : s.CalIdle u 0 bg) (hpass : (vget s.wp u).running = none) :
    Does (.calAdcOffset u bg none) s fun v => s.CalBegun v.toBlock u 0 :=
  does_calStart (exec_calAdcOffset u bg none s) (Block.adcResult_none · u) h
    (by simp [Block.calUnitFree, Block.inPass, hpass])

theorem does_calServoOffset_begins (h : s.CalIdle u 1 bg) (hlden : s.on (SEs_LSAFE_LDEN u) = false)
    (hfocus : (vget s.servo u).fmode = 0) : Does (.calServoOffset u bg none) s fun v => s.CalBegun v.toBlock u 1 :=
  does_calStart (exec_calServoOffset u bg none s) (Block.offsetResult_none · u) h
    (by simp [Block.calUnitFree, hlden, hfocus])

theorem does_calLoopGain_begins (h : s.CalIdle u 2 bg) (hgate : s.on (SEs_LSAFE_WGATE u) = false)
    (htrack : (vget s.servo u).tmode = 3) : Does (.calLoopGain u bg none) s fun v => s.CalBegun v.toBlock u 2 :=
  does_calStart (exec_calLoopGain u bg none s) (Block.gainResult_none · u) h
    (by simp [Block.calUnitFree, hgate, htrack])

theorem does_calWriteStrategy_begins (h : s.CalIdle u 4 false) (hpass : (vget s.wp u).running = none)
    (hsafe : s.on (SEs_LSAFE_SAFE u) = false) (hc : (vget s.cal.surf u).checked = some (s.bandNow u))
    (hl : bandLayer (s.bandNow u) ∉ (vget s.cal.surf u).strategy) :
    Does (.calWriteStrategy u none) s fun v => s.CalBegun v.toBlock u 4 := by
  refine does_onSurf (exec_calWriteStrategy u none s) h.1 ?_
  rw [Block.strategyResult_none]
  exact Block.strategyStart_begins (h.may (by simp [Block.calUnitFree, Block.inPass, hpass, hsafe])) hc hl

theorem exec_calWriteStrategy_off (hauto : s.onBit CAL_CTL_AUTO 4 = false) :
    exec (.calWriteStrategy u none) s = .next s :=
  exec_onSurf_same (exec_calWriteStrategy u none s)
    ((Block.strategyResult_none _ u).trans (Block.strategyStart_not (Block.calMay_off hauto false)))

end starts

/-- Settles O58: a lemma for each start, each end and each timeout. -/
theorem calibrations : Obligations.Calibrations := by
  unfold Obligations.Calibrations
  intro s u bg offs means f t table c
  refine ⟨does_calAdcOffset_begins, does_calServoOffset_begins, does_calLoopGain_begins, ?_, fun _ =>
      ⟨exec_calStart_off (exec_calAdcOffset u bg none s) (Block.adcResult_none · u),
        exec_calStart_off (exec_calServoOffset u bg none s) (Block.offsetResult_none · u),
        exec_calStart_off (exec_calLoopGain u bg none s) (Block.gainResult_none · u), exec_calWriteStrategy_off⟩, ?_,
    fun ⟨hs, hrun, hk⟩ hm => does_calServoOffset_writes hs hrun hk bg hm,
    fun ⟨hs, hrun, hk⟩ hm => does_calServoOffset_bad hs hrun hk bg hm,
    fun ⟨hs, hrun, hk⟩ hf ht => does_calLoopGain_ends hs hrun hk bg hf ht,
    fun ⟨hs, hrun, hk⟩ hbig => does_calLoopGain_bad hs hrun hk bg hbig,
    fun ⟨hs, hrun, hk⟩ => does_calWriteStrategy_ends hs hrun hk table,
    fun ⟨_, hrun, _⟩ ht => exec_onSurf_same (exec_calTimeout u s) (Block.calExpire_waits hrun ht),
    fun hrun => exec_onSurf_same (exec_calTimeout u s) (Block.calExpire_idle hrun), fun ht =>
      ⟨fun ⟨hs, hrun, hk⟩ => does_calTimeout_adcOffset hs hrun ht hk,
        fun ⟨hs, hrun, hk⟩ => does_calTimeout_servoOffset hs hrun ht hk,
        fun ⟨hs, hrun, hk⟩ => does_calTimeout_loopGain hs hrun ht hk,
        fun ⟨hs, hrun, hk⟩ => does_calTimeout_event hs hrun ht hk (by decide),
        fun ⟨hs, hrun, hk⟩ => does_calTimeout_event hs hrun ht hk (by decide)⟩⟩
  · rintro rfl h hpass hsafe hc hl
    exact does_calWriteStrategy_begins h hpass hsafe hc hl
  · rintro ⟨hs, hrun, hk⟩ hlen hl
    refine (does_calAdcOffset_ends hs hrun hk bg hlen hl).imp fun v ⟨hended, hfills⟩ => ⟨hended, fun k hk16 => ?_⟩
    have hfill := hfills k hk16
    exact ⟨hfill.faulty, hfill.used, hfill.excess, hfill.event, fun _ _ => hfill.spares⟩

end Sys2Proof.Machine

/-!
PROOFS. Loop instructions that write one register (R154 to R162): what an instruction that fits does to the execution in
progress; then arithmetic, shifts, division, roots, moves, logic and ports.
-/

namespace Sys2Proof.Machine

/-! ### An instruction that fits (R39, R44, R160) -/

/-- An instruction that fits does its work on the execution in progress, and nothing else. -/
theorem exec_of_fits {i : Instr} {s : State} {r : LeRun} {c : Block → Nat} {f : Block → LeRun → LeRun}
    (hi : exec i s = s.upd fun b => b.loopStep (c b) (f b)) (h : s.fits r (c s.toBlock)) :
    exec i s = .next (s.withRun
      { f s.toBlock r with used := r.used + c s.toBlock, pc := (f s.toBlock r).pc + 1 }) :=
  hi.trans (upd_loopStep c f h)

/-- The part of an execution that an instruction only moves on. -/
def LeRun.bare (r : LeRun) : LeRun := { r with x := Vector.replicate 32 0, wbuf := [], cp := 0, sat := false }

@[simp] theorem LeRun.setX_bare (r : LeRun) (i : Nat) (v : Word) : (r.setX i v).bare = r.bare := by
  unfold LeRun.setX
  split <;> rfl

theorem LeRun.past_of_bare {r q : LeRun} (h : q.bare = r.bare) (cost : Nat) :
    LeRun.Past r { q with used := r.used + cost, pc := q.pc + 1 } cost where
  used := rfl
  pc := congrArg (·.pc + 1) h
  entry := (congrArg LeRun.entry h :)
  prog := (congrArg LeRun.prog h :)
  start := (congrArg LeRun.start h :)
  budget := (congrArg LeRun.budget h :)
  quarter := (congrArg LeRun.quarter h :)
  dbase := (congrArg LeRun.dbase h :)
  parity := (congrArg LeRun.parity h :)

theorem LeRun.keepsX_setX (r : LeRun) (d : Nat) (v : Word) : LeRun.KeepsX r (r.setX d v) [d] :=
  fun _ _ hi => r.getX_setX_ne (by simpa using hi) v

theorem LeRun.getX_setX_fin (r : LeRun) {d : Fin 32} (h : d ≠ 0) (v : Word) : (r.setX d v).getX d = v :=
  r.getX_setX_same d.isLt (fun h0 => h (Fin.ext h0)) v

theorem exec_wrote {i : Instr} {s : State} {r : LeRun} {k : Nat} {d : Fin 32} {w : Word} (v : Block → LeRun → Word)
    (h : s.fits r (s.opCost k)) (hi : exec i s = s.upd fun b => b.loopStep (b.opCost k) fun q => q.setX d (v b q))
    (hw : v s.toBlock r = w := by rfl) : ∃ r', exec i s = .next (s.withRun r') ∧ LeRun.Wrote r r' (s.opCost k) d w := by
  refine ⟨_, exec_of_fits hi h, ?_⟩
  rw [LeRun.setX_pc, hw]
  exact LeRun.wrote_setX r _ d w

theorem LeRun.setSat_pc (r : LeRun) (i : Nat) (z : Int) : (r.setSat i z).pc = r.pc := r.setX_pc i _

/-- An instruction whose work is a saturating write. -/
theorem exec_wroteSat_of {i : Instr} {s : State} {r : LeRun} {k : Nat} {d : Fin 32} {z : Int}
    (f : Block → LeRun → LeRun) (h : s.fits r (s.opCost k))
    (hi : exec i s = s.upd fun b => b.loopStep (b.opCost k) (f b)) (hf : f s.toBlock r = r.setSat d z) :
    ∃ r', exec i s = .next (s.withRun r') ∧ LeRun.WroteSat r r' (s.opCost k) d z := by
  refine ⟨_, exec_of_fits hi h, ?_⟩
  rw [hf, LeRun.setSat_pc]
  exact LeRun.wroteSat_setSat r _ d z

theorem exec_wroteSat {i : Instr} {s : State} {r : LeRun} {k : Nat} {d : Fin 32} {v : LeRun → Int} {z : Int}
    (h : s.fits r (s.opCost k)) (hi : exec i s = s.upd fun b => b.loopStep (b.opCost k) fun q => q.setSat d (v q))
    (hz : v r = z := by rfl) :
    ∃ r', exec i s = .next (s.withRun r') ∧ LeRun.WroteSat r r' (s.opCost k) d z :=
  exec_wroteSat_of _ h hi (congrArg (r.setSat d) hz)

/-! ### Saturating arithmetic (R157, R160) -/

theorem clampTo_eq (x : Int) (m : Nat) : clampTo x m = max (-(m : Int)) (min (m : Int) x) := by
  unfold clampTo
  split
  · omega
  · split <;> omega

/-- Settles O10: by its definition, each of the six opcodes is one saturating write of its exact result. -/
theorem loopArithmeticSaturates : Obligations.LoopArithmeticSaturates := by
  unfold Obligations.LoopArithmeticSaturates
  intro e he s r d a b h
  simp only [List.mem_cons, List.not_mem_nil, or_false] at he
  rcases he with rfl | rfl | rfl | rfl | rfl | rfl
  · exact exec_wroteSat h rfl
  · exact exec_wroteSat h rfl
  · exact exec_wroteSat h rfl
  · exact exec_wroteSat h rfl
  · exact exec_wroteSat h rfl
  · exact exec_wroteSat h rfl (clampTo_eq _ _)

/-! ### Shifts, division and roots (R157, R160) -/

/-- DIV by 0 and SQRT of a negative number: a fixed word to XD, and SAT. -/
theorem exec_wroteFull {i : Instr} {s : State} {r : LeRun} {k : Nat} {d : Fin 32} {w : Word}
    (f : Block → LeRun → LeRun) (h : s.fits r (s.opCost k))
    (hi : exec i s = s.upd fun b => b.loopStep (b.opCost k) (f b)) (hf : f s.toBlock r = { r.setX d w with sat := true }) :
    ∃ r', exec i s = .next (s.withRun r') ∧ r'.sat = true ∧ (d ≠ 0 → r'.getX d = w) ∧ LeRun.Past r r' (s.opCost k) ∧
      LeRun.KeepsX r r' [d.val] ∧ r'.wbuf = r.wbuf ∧ r'.cp = r.cp := by
  refine ⟨_, exec_of_fits hi h, ?_⟩
  rw [hf]
  exact ⟨rfl, fun hd => r.getX_setX_fin hd w, LeRun.past_of_bare (q := { r.setX d w with sat := true }) (r.setX_bare d w) _,
    r.keepsX_setX d w, r.setX_wbuf d w, r.setX_cp d w⟩

theorem isqrtFrom_spec {n : Nat} : ∀ {i acc : Nat}, acc * acc ≤ n → n < (acc + 2 ^ i) * (acc + 2 ^ i) →
    isqrtFrom n i acc * isqrtFrom n i acc ≤ n ∧ n < (isqrtFrom n i acc + 1) * (isqrtFrom n i acc + 1)
  | 0, _, hle, hlt => ⟨hle, hlt⟩
  | i + 1, acc, hle, hlt => by
    rw [isqrtFrom]
    split
    · next h => exact isqrtFrom_spec h (by rwa [Nat.add_assoc, ← Nat.two_mul, ← Nat.pow_succ'])
    · next h => exact isqrtFrom_spec hle (Nat.lt_of_not_le h)

/-- The root by bits is the floor of the root. -/
theorem isqrt_spec {n : Nat} (h : n < 2 ^ 128) : isqrt n * isqrt n ≤ n ∧ n < (isqrt n + 1) * (isqrt n + 1) :=
  isqrtFrom_spec (Nat.zero_le n) (by simpa using h)

theorem sqrt_spec {x : Word} (h : 0 ≤ x.toInt) :
    (isqrt (x.toInt.toNat * 2 ^ 31) : Int) * isqrt (x.toInt.toNat * 2 ^ 31) ≤ x.toInt * 2147483648 ∧
      x.toInt * 2147483648 < ((isqrt (x.toInt.toNat * 2 ^ 31) : Int) + 1) * (isqrt (x.toInt.toNat * 2 ^ 31) + 1) := by
  have hlt : x.toInt < 2 ^ 31 := x.toInt_lt
  have hx : ((x.toInt.toNat * 2 ^ 31 : Nat) : Int) = x.toInt * 2147483648 := by omega
  obtain ⟨h1, h2⟩ := isqrt_spec (n := x.toInt.toNat * 2 ^ 31) (by omega)
  rw [← hx]
  exact ⟨by exact_mod_cast h1, by exact_mod_cast h2⟩

/-- The work of DIV (R160). -/
def LeRun.div (q : LeRun) (d a b : Nat) : LeRun :=
  if (q.getX b).toInt = 0 then
    { q.setX d (if 0 ≤ (q.getX a).toInt then 0x7FFFFFFF#32 else 0x80000000#32) with sat := true }
  else q.setSat d (Int.tdiv ((q.getX a).toInt * 2 ^ 31) (q.getX b).toInt)

/-- The work of SQRT (R160). -/
def LeRun.sqrt (q : LeRun) (d a : Nat) : LeRun :=
  if (q.getX a).toInt < 0 then { q.setX d 0 with sat := true }
  else q.setSat d (isqrt ((q.getX a).toInt.toNat * 2 ^ 31) : Int)

/-- Settles O11: a saturating write, a plain write, or full scale with SAT, by the cases of each opcode. -/
theorem loopShiftDivRoot : Obligations.LoopShiftDivRoot := by
  unfold Obligations.LoopShiftDivRoot
  intro s r d a b n
  refine ⟨fun h => ?shl, fun h => ?shr, fun h => ?abs, fun h hb => ?div, fun h hb => ?divZero, fun h ha => ?sqrt,
    fun h ha => ?sqrtNeg⟩
  case shl => exact exec_wroteSat h rfl
  case shr =>
    refine exec_wrote (fun _ q => if n.val = 0 then q.getX a
      else BitVec.ofInt 32 (sar ((q.getX a).toInt + 2 ^ (n.val - 1)) n.val)) h rfl ?_
    exact if_congr Fin.val_eq_zero_iff rfl rfl
  case abs => exact exec_wroteSat h rfl
  case div => exact exec_wroteSat_of (fun _ q => q.div d a b) h rfl (if_neg fun h0 => hb (BitVec.toInt_inj.1 h0))
  case divZero =>
    have hfull : (if 0 ≤ (r.getX a).toInt then 0x7FFFFFFF#32 else 0x80000000#32) =
        if (r.getX a).toInt < 0 then 0x80000000#32 else 0x7FFFFFFF#32 := by
      simp only [← Int.not_lt, ite_not]
    exact hfull ▸ exec_wroteFull (fun _ q => q.div d a b) h rfl (if_pos (congrArg BitVec.toInt hb))
  case sqrt =>
    obtain ⟨hle, hlt⟩ := sqrt_spec ha
    obtain ⟨r', hexec, hw⟩ := exec_wroteSat_of (i := .opSqrt d a) (fun _ q => q.sqrt d a) h rfl (if_neg (Int.not_lt.2 ha))
    exact ⟨r', _, hexec, Int.natCast_nonneg _, hle, hlt, hw⟩
  case sqrtNeg => exact exec_wroteFull (fun _ q => q.sqrt d a) h rfl (if_pos ha)

/-! ### Moves and logic (R160, R162) -/

/-- LDS reads the flags, zero-extended. -/
theorem Block.psw_word (b : Block) (w : Nat) : BitVec.ofNat 32 (b.fld (LE_PSW_k_FLAGS w)) = b.rd (LE_PSW_k w) &&& 0xFF#32 := by
  simp [Block.fld, Fld.get, Fld.mask, LE_PSW_k_FLAGS]

/-- Settles O12: each of the seven opcodes is one register write. -/
theorem loopMovesAndLogic : Obligations.LoopMovesAndLogic := by
  unfold Obligations.LoopMovesAndLogic
  intro s r d a b hi imm port w e he h
  simp only [List.mem_cons, List.not_mem_nil, or_false] at he
  rcases he with rfl | rfl | rfl | rfl | rfl | rfl | rfl
  · exact exec_wrote (fun _ q => q.getX a) h rfl
  · exact exec_wrote (fun _ q => if hi then imm ++ (q.getX d).setWidth 16 else imm.signExtend 32) h rfl
  · exact exec_wrote (fun _ q => q.getX a &&& q.getX b) h rfl
  · exact exec_wrote (fun _ q => q.getX a ||| q.getX b) h rfl
  · exact exec_wrote (fun _ q => q.getX a ^^^ q.getX b) h rfl
  · exact exec_wrote (fun b q => b.portIn q.entry port.toNat) h rfl
  · exact exec_wrote (fun b _ => BitVec.ofNat 32 (b.fld (LE_PSW_k_FLAGS w))) h rfl (s.psw_word w)

/-! ### What IN reads (R1, R162, R204) -/

/-- The signed sample code, of 14 bits. -/
theorem Block.sfld_sample (b : Block) (u k : Nat) :
    b.fld (SFs_SMP_k_CODE u k) < 16384 ∧ b.sfld (SFs_SMP_k_CODE u k) =
      if b.fld (SFs_SMP_k_CODE u k) < 8192 then (b.fld (SFs_SMP_k_CODE u k) : Int)
      else (b.fld (SFs_SMP_k_CODE u k) : Int) - 16384 := ⟨b.fld_lt _, rfl⟩

theorem Block.sfld_sample_bounds (b : Block) (u k : Nat) :
    -8192 ≤ b.sfld (SFs_SMP_k_CODE u k) ∧ b.sfld (SFs_SMP_k_CODE u k) ≤ 8191 := by
  obtain ⟨hlt, hs⟩ := b.sfld_sample u k
  omega

theorem Block.samplePort_toInt (b : Block) (u k : Nat) :
    (b.samplePort u k).toInt = b.sfld (SFs_SMP_k_CODE u k) * 262144 := by
  obtain ⟨hlt, hs⟩ := b.sfld_sample u k
  rw [Block.samplePort, BitVec.toInt_ofNat', Int.bmod_def]
  omega

theorem toInt_ofInt_of_fits {z : Int} (h1 : -2147483648 ≤ z) (h2 : z ≤ 2147483647) : (BitVec.ofInt 32 z).toInt = z := by
  rw [BitVec.toInt_ofInt, Int.bmod_def]
  omega

section

variable {b : Block} {u : Fin 4} (entry : Nat)

/-- The ports of a surface that is absent, or has SMPEN = 0, read 0. -/
theorem Block.portIn_off (h : b.part.hasSurf u = false ∨ b.on (SFs_CTL_SMPEN u) = false) {f : Nat} (hf : f < 64) :
    b.portIn entry (64 * u.val + f) = 0 := by
  have hu : (64 * u.val + f) / 64 = u.val := by omega
  simp only [Block.portIn, hu, u.isLt, if_true]
  rw [if_pos (by simpa using h)]

variable (hs : b.part.hasSurf u = true) (hon : b.on (SFs_CTL_SMPEN u) = true)
include hs hon

theorem Block.portIn_sample {f : Nat} (hf : f < 9) : b.portIn entry (64 * u.val + f) = b.samplePort u f := by
  have hu : (64 * u.val + f) / 64 = u.val := by omega
  have hm : (64 * u.val + f) % 64 = f := by omega
  simp [Block.portIn, hu, hm, hs, hon, Nat.le_of_lt_succ hf]

theorem Block.portIn_focusError : b.portIn entry (64 * u.val + 16) = BitVec.ofInt 32
    ((b.sampleCode u 0 + b.sampleCode u 2 - b.sampleCode u 1 - b.sampleCode u 3) * 2 ^ 16) := by
  have hu : (64 * u.val + 16) / 64 = u.val := by omega
  have hm : (64 * u.val + 16) % 64 = 16 := by omega
  simp [Block.portIn, hu, hm, hs, hon]

theorem Block.portIn_trackError : b.portIn entry (64 * u.val + 17) =
    BitVec.ofInt 32 ((b.sampleCode u 4 - b.sampleCode u 5) * 2 * 2 ^ 16) := by
  have hu : (64 * u.val + 17) / 64 = u.val := by omega
  have hm : (64 * u.val + 17) % 64 = 17 := by omega
  simp [Block.portIn, hu, hm, hs, hon]

end

/-- Settles O13: the ports one by one; the differences of 14-bit samples fit in 32 bits. -/
theorem loopPortValues : Obligations.LoopPortValues := by
  unfold Obligations.LoopPortValues
  intro s entry u
  refine ⟨fun hs hon f hf => ?sample, fun hs hon => ?focusError, fun hs hon => ?trackError,
    fun h f hf => s.portIn_off entry h (by omega), rfl, rfl, rfl⟩
  case sample => rw [s.portIn_sample entry hs hon hf, Block.samplePort_toInt]
  case focusError =>
    have h0 := s.sfld_sample_bounds u 0
    have h1 := s.sfld_sample_bounds u 1
    have h2 := s.sfld_sample_bounds u 2
    have h3 := s.sfld_sample_bounds u 3
    rw [s.portIn_focusError entry hs hon]
    unfold Block.sampleCode
    rw [toInt_ofInt_of_fits (by omega) (by omega)]
    omega
  case trackError =>
    have h4 := s.sfld_sample_bounds u 4
    have h5 := s.sfld_sample_bounds u 5
    rw [s.portIn_trackError entry hs hon]
    unfold Block.sampleCode
    rw [toInt_ofInt_of_fits (by omega) (by omega)]
    omega

end Sys2Proof.Machine

/-!
PROOFS. The loop instructions on angles (R160): SINCOS, ROT and ATAN2.
-/

namespace Sys2Proof.Machine

/-! ### Angles (R160; log entry 2) -/

theorem abs_boundTo_sub_le (z v : Int) (e : Nat) : |boundTo z e v - z| ≤ e := by
  rw [abs_le]
  unfold boundTo
  omega

/-- The execution with `v` in XD and `w` in XD+1, and the flag SAT as given. -/
def LeRun.setPair (r : LeRun) (d : Nat) (v w : Word) (sat : Bool) : LeRun :=
  { (r.setX d v).setX (d + 1) w with sat := sat }

theorem LeRun.setX_setX_eq_setPair (r : LeRun) (d : Nat) (v w : Word) :
    (r.setX d v).setX (d + 1) w = r.setPair d v w r.sat := by
  unfold LeRun.setPair
  rw [← r.setX_sat d v, ← (r.setX d v).setX_sat (d + 1) w]

theorem LeRun.setSat_setSat_eq_setPair (r : LeRun) (d : Nat) (x y : Int) :
    (r.setSat d x).setSat (d + 1) y = r.setPair d (sat32 x) (sat32 y) (r.sat || !fits32 x || !fits32 y) := by
  simp only [LeRun.setSat, LeRun.setPair, LeRun.setX, if_neg (Nat.succ_ne_zero d)]

theorem exec_wrotePair {i : Instr} {s : State} {r : LeRun} {k : Nat} {d : Fin 32} {v w : Word} {sat : Bool}
    (f : Block → LeRun → LeRun) (hd : d.val + 1 < 32) (h : s.fits r (s.opCost k))
    (hi : exec i s = s.upd fun b => b.loopStep (b.opCost k) (f b)) (hf : f s.toBlock r = r.setPair d v w sat) :
    ∃ r', exec i s = .next (s.withRun r') ∧ LeRun.Past r r' (s.opCost k) ∧ LeRun.KeepsX r r' [d.val, d.val + 1] ∧
      r'.wbuf = r.wbuf ∧ r'.cp = r.cp ∧ r'.sat = sat ∧ (d ≠ 0 → r'.getX d = v) ∧ r'.getX (d.val + 1) = w := by
  refine ⟨_, exec_of_fits hi h, ?_⟩
  rw [hf]
  have hbare : (r.setPair d v w sat).bare = r.bare := ((r.setX d v).setX_bare _ w).trans (r.setX_bare d v)
  refine ⟨LeRun.past_of_bare hbare _, fun j _ hj => ?keeps, ((r.setX d v).setX_wbuf _ w).trans (r.setX_wbuf d v),
    ((r.setX d v).setX_cp _ w).trans (r.setX_cp d v), rfl, fun h0 => ?first,
    (r.setX d v).getX_setX_same hd (Nat.succ_ne_zero _) w⟩
  case keeps =>
    simp only [List.mem_cons, List.not_mem_nil, or_false, not_or] at hj
    exact ((r.setX d v).getX_setX_ne hj.2 w).trans (r.getX_setX_ne hj.1 v)
  case first => exact ((r.setX d v).getX_setX_ne (Nat.ne_of_lt (Nat.lt_succ_self _)) w).trans (r.getX_setX_fin h0 v)

/-- The kernel must not reduce the `match` of ROT, whose subject is a long computation on numerals: the equation is
between functions, and the subject is generalized before the `match` is. -/
theorem Block.rotOf_eq (b : Block) (x y a : Word) : b.rotOf x y a =
    (boundTo ((x.toInt * (trigOf a).1 - y.toInt * (trigOf a).2 + 2 ^ 59) / trigOne) 512
      (Config.rotRom b.microcode x y a).1,
    boundTo ((x.toInt * (trigOf a).2 + y.toInt * (trigOf a).1 + 2 ^ 59) / trigOne) 512
      (Config.rotRom b.microcode x y a).2) := by
  have hdef : Block.rotOf = Block.rotOf := rfl
  conv at hdef => rhs; delta Block.rotOf
  rewrite [hdef]
  beta_reduce
  generalize trigOf a = p
  obtain ⟨c, s⟩ := p
  rfl

/-- The work of ROT (R160). -/
def LeRun.rot (q : LeRun) (b : Block) (d x a : Nat) : LeRun :=
  (q.setSat d (b.rotOf (q.getX x) (q.getX (x + 1)) (q.getX a)).1).setSat (d + 1)
    (b.rotOf (q.getX x) (q.getX (x + 1)) (q.getX a)).2

/-- Settles O14: one or two register writes, of values that `boundTo` holds within the bound. -/
theorem loopAngles : Obligations.LoopAngles := by
  unfold Obligations.LoopAngles
  intro s r d a b hd ha
  refine ⟨fun h => ?sincos, fun h => ?rot, fun h => ?atan2⟩
  case sincos =>
    obtain ⟨r', hexec, hpast, hkeeps, hwbuf, hcp, hsat, hcos, hsin⟩ := exec_wrotePair (i := .opSincos d a)
      (fun b q => (q.setX d (b.cosOf (q.getX a))).setX (d.val + 1) (b.sinOf (q.getX a))) hd h rfl
      (r.setX_setX_eq_setPair d _ _)
    exact ⟨r', _, _, hexec, hpast, hkeeps, hsat, hwbuf, hcp, abs_boundTo_sub_le _ _ _, abs_boundTo_sub_le _ _ _, hcos, hsin⟩
  case rot =>
    obtain ⟨r', hexec, hpast, hkeeps, hwbuf, hcp, hsat, hx, hy⟩ := exec_wrotePair (i := .opRot d a b)
      (fun b' q => q.rot b' d a b) hd h rfl (r.setSat_setSat_eq_setPair d _ _)
    rw [Block.rotOf_eq] at hx hy hsat
    exact ⟨r', _, _, hexec, hpast, hkeeps, hwbuf, hcp, hx, hy, hsat, abs_boundTo_sub_le _ _ _, abs_boundTo_sub_le _ _ _⟩
  case atan2 =>
    have he := abs_boundTo_sub_le 0 (Config.atan2Rom s.microcode (r.getX a) (r.getX b)).toInt 1024
    rw [Int.sub_zero] at he
    obtain ⟨r', hexec, hw⟩ := exec_wrote (i := .opAtan2 d a b) (d := d)
      (fun b' q => b'.atan2Of (q.getX a) (q.getX b)) h rfl
    exact ⟨r', _, hexec, hw.toPast, hw.others, hw.sat, hw.wbuf, hw.cp, he, hw.value⟩

end Sys2Proof.Machine

/-!
PROOFS. Loop instructions that repeat one action: what a fold of writes leaves; LD, ST and the other staged effects (R160, R164).
-/

namespace Sys2Proof.Machine

/-! ### Repeated work -/

/-- What a step of some element brings, and every step keeps, holds after the steps of the list. -/
theorem foldl_brings {α β : Type} {g : β → α → β} {P : β → Prop} {x : α} (hx : ∀ q, P (g q x))
    (hkeep : ∀ q y, P q → P (g q y)) : ∀ {xs : List α}, x ∈ xs → ∀ q, P (xs.foldl g q)
  | y :: ys, hmem, q => by
    rcases List.mem_cons.1 hmem with rfl | hmem
    · exact List.foldlRecOn ys g (hx q) fun _ h y _ => hkeep _ y h
    · exact foldl_brings hx hkeep hmem (g q y)

/-- What every step leaves alone, the fold leaves alone. -/
theorem foldl_keeps {α β γ : Type} {g : β → α → β} {p : β → γ} (h : ∀ q x, p (g q x) = p q) (xs : List α) (q : β) :
    p (xs.foldl g q) = p q :=
  List.foldlRecOn (motive := fun q' => p q' = p q) xs g rfl fun q' hq x _ => (h q' x).trans hq

section rows

variable {g : LeRun → Nat → LeRun} {d : Nat} {v : Nat → Word}

/-- Step `i` of `g` writes `v i` to X(d + i), and to no other register. -/
def LeRun.WritesRows (g : LeRun → Nat → LeRun) (d : Nat) (v : Nat → Word) : Prop :=
  ∀ q i, (g q i).x = (q.setX (d + i) (v i)).x

theorem LeRun.getX_congr {q r : LeRun} (h : q.x = r.x) (i : Nat) : q.getX i = r.getX i := by rw [LeRun.getX, LeRun.getX, h]

theorem LeRun.WritesRows.getX_ne (h : LeRun.WritesRows g d v) {i j : Nat} (hj : j ≠ d + i) (q : LeRun) :
    (g q i).getX j = q.getX j := (LeRun.getX_congr (h q i) j).trans (q.getX_setX_ne hj _)

theorem LeRun.WritesRows.getX_same (h : LeRun.WritesRows g d v) {i : Nat} (hd : d + i < 32) (h0 : d + i ≠ 0) (q : LeRun) :
    (g q i).getX (d + i) = v i := (LeRun.getX_congr (h q i) _).trans (q.getX_setX_same hd h0 _)

/-- The rows written hold their values. -/
theorem LeRun.WritesRows.getX_foldl (h : LeRun.WritesRows g d v) {n i : Nat} (hi : i < n) (hd : d + i < 32) (h0 : d + i ≠ 0)
    (q : LeRun) : ((List.range n).foldl g q).getX (d + i) = v i := by
  refine foldl_brings (P := fun q => q.getX (d + i) = v i) (h.getX_same hd h0) (fun q k hq => ?_) (List.mem_range.2 hi) q
  by_cases hk : d + i = d + k
  · obtain rfl := Nat.add_left_cancel hk
    exact h.getX_same hd h0 q
  · exact (h.getX_ne hk q).trans hq

/-- Every other register stays. -/
theorem LeRun.WritesRows.getX_foldl_outside (h : LeRun.WritesRows g d v) {n j : Nat} (hj : j < d ∨ d + n ≤ j) (q : LeRun) :
    ((List.range n).foldl g q).getX j = q.getX j := by
  refine List.foldlRecOn (motive := fun q' => q'.getX j = q.getX j) (List.range n) g rfl fun q' hq i hi => ?_
  have hi : i < n := List.mem_range.1 hi
  exact (h.getX_ne (by omega) q').trans hq

end rows

/-! ### LD and the staged effects (R160, R164, R171) -/

@[simp] theorem LeRun.stage_bare (r : LeRun) (e : Staged) : (r.stage e).bare = r.bare := by
  unfold LeRun.stage
  split <;> rfl
@[simp] theorem LeRun.stage_x (r : LeRun) (e : Staged) : (r.stage e).x = r.x := by
  unfold LeRun.stage
  split <;> rfl
@[simp] theorem LeRun.stage_cp (r : LeRun) (e : Staged) : (r.stage e).cp = r.cp := by
  unfold LeRun.stage
  split <;> rfl
@[simp] theorem LeRun.stage_sat (r : LeRun) (e : Staged) : (r.stage e).sat = r.sat := by
  unfold LeRun.stage
  split <;> rfl

theorem LeRun.stage_wbuf {r : LeRun} (h : r.wbuf.length < 64) (e : Staged) : (r.stage e).wbuf = r.wbuf ++ [e] := by
  rw [LeRun.stage, if_pos h]

/-- Effects staged one after another stand in the write buffer in that order, while it has room (R164). -/
theorem LeRun.foldl_stage_wbuf (f : Nat → Staged) : ∀ {n : Nat} {r : LeRun}, r.wbuf.length + n ≤ 64 →
    ((List.range n).foldl (fun q i => q.stage (f i)) r).wbuf = r.wbuf ++ (List.range n).map f
  | 0, r, _ => by simp
  | n + 1, r, h => by
    have ih := LeRun.foldl_stage_wbuf f (n := n) (r := r) (by omega)
    rw [List.range_succ, List.foldl_append, List.map_append, ← List.append_assoc, ← ih]
    exact LeRun.stage_wbuf (by rw [ih, List.length_append, List.length_map, List.length_range]; omega) (f n)

/-- An instruction that stages one effect, and leaves the registers. -/
theorem exec_staged {i : Instr} {s : State} {r : LeRun} {k : Nat} (e : Block → LeRun → Staged)
    (h : s.fits r (s.opCost k)) (hw : r.wbuf.length < 64)
    (hi : exec i s = s.upd fun b => b.loopStep (b.opCost k) fun q => q.stage (e b q)) :
    ∃ r', exec i s = .next (s.withRun r') ∧ LeRun.Past r r' (s.opCost k) ∧ r'.x = r.x ∧ r'.sat = r.sat ∧ r'.cp = r.cp ∧
      r'.wbuf = r.wbuf ++ [e s.toBlock r] :=
  ⟨_, exec_of_fits hi h, LeRun.past_of_bare (r.stage_bare _) _, r.stage_x _, r.stage_sat _, r.stage_cp _,
    LeRun.stage_wbuf hw _⟩

/-- The effect that PGEN stages. -/
def Block.pgenEffect (b : Block) (a : Fin 9) : Staged :=
  let step := pgenStep (vget b.axis a) (b.haltReq a)
  .pgen a step.1 step.2.1 step.2.2.1 step.2.2.2.1 step.2.2.2.2

/-- The work of LD (R160). -/
def LeRun.load (q : LeRun) (b : Block) (d n addr : Nat) : LeRun :=
  (List.range n).foldl (fun q' i => q'.setX (d + i) (b.dmem (addr + i))) q

theorem LeRun.load_rows (b : Block) (d addr : Nat) :
    LeRun.WritesRows (fun q i => q.setX (d + i) (b.dmem (addr + i))) d fun i => b.dmem (addr + i) := fun _ _ => rfl

theorem LeRun.dataAddr_eq (r : LeRun) (absolute : Bool) (addr : Nat) :
    r.dataAddr absolute addr = (if absolute then 0 else r.dbase) + addr := by
  cases absolute
  · rfl
  · exact (Nat.zero_add addr).symm

theorem exec_opLd_loads {s : State} {r : LeRun} {d : Fin 32} {n : Fin 8} {absolute : Bool} {addr : BitVec 13}
    (h : s.fits r (s.opCost 2 + n.val + 1)) (hd : d.val + n.val < 32) :
    ∃ r', exec (.opLd d n absolute addr) s = .next (s.withRun r') ∧
      LeRun.Past r r' (s.opCost 2 + n.val + 1) ∧ r'.wbuf = r.wbuf ∧ r'.cp = r.cp ∧ r'.sat = r.sat ∧
      (∀ i ≤ n.val, d.val + i ≠ 0 → r'.getX (d.val + i) = s.dmem (r.dataAddr absolute addr.toNat + i)) ∧
      (∀ i < 32, i < d.val ∨ d.val + n.val < i → r'.getX i = r.getX i) := by
  have hrows := LeRun.load_rows s.toBlock d (r.dataAddr absolute addr.toNat)
  refine ⟨_, exec_of_fits (c := fun b => b.opCost 2 + n.val + 1)
      (f := fun b q => q.load b d (n.val + 1) (q.dataAddr absolute addr.toNat)) rfl h,
    LeRun.past_of_bare (foldl_keeps (fun q _ => q.setX_bare _ _) _ r) _,
    foldl_keeps (fun q _ => q.setX_wbuf _ _) _ r, foldl_keeps (fun q _ => q.setX_cp _ _) _ r,
    foldl_keeps (fun q _ => q.setX_sat _ _) _ r, fun i hi h0 => ?_, fun i _ hi => ?_⟩
  · exact hrows.getX_foldl (Nat.lt_succ_of_le hi) (by omega) h0 r
  · exact hrows.getX_foldl_outside (by omega) r

theorem exec_opSt_stages {s : State} {r : LeRun} {a : Fin 32} {n : Fin 8} {absolute : Bool} {addr : BitVec 13}
    (h : s.fits r (s.opCost 3 + n.val + 1)) (hw : r.wbuf.length + n.val < 64) :
    ∃ r', exec (.opSt a n absolute addr) s = .next (s.withRun r') ∧ LeRun.Past r r' (s.opCost 3 + n.val + 1) ∧
      r'.x = r.x ∧ r'.cp = r.cp ∧ r'.sat = r.sat ∧ r'.wbuf = r.wbuf ++ (List.range (n.val + 1)).map fun i =>
        .data (r.dataAddr absolute addr.toNat + i) (r.getX (a.val + i)) := by
  exact ⟨_, exec_of_fits (c := fun b => b.opCost 3 + n.val + 1) (f := fun _ q => (List.range (n.val + 1)).foldl
      (fun q' i => q'.stage (.data (q.dataAddr absolute addr.toNat + i) (q.getX (a.val + i)))) q) rfl h,
    LeRun.past_of_bare (foldl_keeps (fun q _ => q.stage_bare _) _ r) _, foldl_keeps (fun q _ => q.stage_x _) _ r,
    foldl_keeps (fun q _ => q.stage_cp _) _ r, foldl_keeps (fun q _ => q.stage_sat _) _ r,
    LeRun.foldl_stage_wbuf _ (by omega)⟩

theorem exec_opOut_stages {s : State} {r : LeRun} {d : Fin 32} {port : BitVec 10} (h : s.fits r (s.opCost 5))
    (hw : r.wbuf.length < 64) : ∃ r', exec (.opOut d port) s = .next (s.withRun r') ∧ LeRun.Past r r' (s.opCost 5) ∧
      r'.wbuf = r.wbuf ++ [.port port.toNat (portTake port.toNat (r.getX d))] ∧
      (d ≠ 0 → r'.getX d = portTake port.toNat (r.getX d)) ∧ LeRun.KeepsX r r' [d.val] ∧ r'.sat = r.sat ∧ r'.cp = r.cp := by
  set v := portTake port.toNat (r.getX d)
  set q := r.stage (.port port.toNat v)
  have hx (j : Nat) : q.getX j = r.getX j := LeRun.getX_congr (r.stage_x _) j
  exact ⟨_, exec_of_fits (c := fun b => b.opCost 5)
    (f := fun _ q => (q.stage (.port port.toNat (portTake port.toNat (q.getX d)))).setX d
      (portTake port.toNat (q.getX d))) rfl h,
    LeRun.past_of_bare ((q.setX_bare d v).trans (r.stage_bare _)) _, (q.setX_wbuf d v).trans (LeRun.stage_wbuf hw _),
    fun h0 => q.getX_setX_fin h0 v, fun j hj hd => (q.keepsX_setX d v j hj hd).trans (hx j),
    (q.setX_sat d v).trans (r.stage_sat _), (q.setX_cp d v).trans (r.stage_cp _)⟩

/-- Settles O15: LD is a run of register writes, ST a run of staged effects, each other opcode one effect. -/
theorem loopStagesEffects : Obligations.LoopStagesEffects := by
  unfold Obligations.LoopStagesEffects
  intro s r d n absolute addr
  simp only [← LeRun.dataAddr_eq]
  exact ⟨exec_opLd_loads, exec_opSt_stages, fun port => exec_opOut_stages,
    fun clear w h hw => exec_staged (fun _ q => .sts w clear ((q.getX d).setWidth 8)) h hw rfl,
    fun code h hw => exec_staged (fun _ _ => .evt code) h hw rfl,
    fun a h hw => (exec_staged (i := .opPgen a) (fun b _ => b.pgenEffect a) h hw rfl).imp fun r' h' => ⟨_, _, _, _, _, h'⟩⟩

end Sys2Proof.Machine

/-!
PROOFS. MVM and the flow (R158, R160).
-/

namespace Sys2Proof.Machine

/-! ### MVM (R158) -/

/-- A row of MVM is its start value plus the sum of its terms. -/
theorem mvmRow_eq (b : Block) (r : LeRun) (d a cols : Nat) (acc : Bool) (i : Nat) :
    mvmRow b r d a cols acc i = (if acc then (r.getX (d + i)).toInt else 0) +
      ((List.range cols).map fun c => coefTerm (r.getX (a + c)) (b.cmem r.quarter (r.cp + i * cols + c))).sum := by
  unfold mvmRow
  generalize (if acc then (r.getX (d + i)).toInt else 0) = z
  generalize r.cp + i * cols = o
  induction cols with
  | zero => simp
  | succ n ih => simp [List.range_succ, ih, Int.add_assoc]

/-- The results of MVM, written in order to XD onwards. -/
def LeRun.writeRows (q : LeRun) (d n : Nat) (z : Nat → Int) : LeRun :=
  (List.range n).foldl (fun q' i => q'.setSat (d + i) (z i)) q

theorem LeRun.writeRows_rows (d : Nat) (z : Nat → Int) :
    LeRun.WritesRows (fun q i => q.setSat (d + i) (z i)) d fun i => sat32 (z i) := fun _ _ => rfl

theorem LeRun.writeRows_bare (q : LeRun) (d n : Nat) (z : Nat → Int) : (q.writeRows d n z).bare = q.bare :=
  foldl_keeps (fun q' _ => q'.setX_bare _ _) _ q

theorem LeRun.writeRows_wbuf (q : LeRun) (d n : Nat) (z : Nat → Int) : (q.writeRows d n z).wbuf = q.wbuf :=
  foldl_keeps (fun q' _ => q'.setX_wbuf _ _) _ q

theorem LeRun.foldl_zipIdx (q : LeRun) (d n : Nat) (z : Nat → Int) :
    (((List.range n).map z).zipIdx).foldl (fun q' e => q'.setSat (d + e.2) e.1) q = q.writeRows d n z := by
  have hz : ((List.range n).map z).zipIdx = (List.range n).map fun i => (z i, i) :=
    List.ext_getElem (by simp) fun i _ _ => by simp
  rw [hz, List.foldl_map]
  rfl

/-- The work of MVM with `nr` rows of `nc` terms. -/
def LeRun.mvm (q : LeRun) (b : Block) (d a nr nc : Nat) (acc : Bool) : LeRun :=
  { q.writeRows d nr (mvmRow b q d a nc acc) with cp := (q.cp + nr * nc) % 4096 }

theorem LeRun.mvm_bare (q : LeRun) (b : Block) (d a nr nc : Nat) (acc : Bool) : (q.mvm b d a nr nc acc).bare = q.bare :=
  q.writeRows_bare d nr _

theorem exec_opMvm (d a : Fin 32) (rows cols : Fin 16) (acc : Bool) (s : State) :
    exec (.opMvm d a rows cols acc) s = s.upd fun b =>
      b.loopStep (b.opCost 17 + (rows.val + 8) / 8 * (cols.val + 1)) fun q =>
        q.mvm b d a (rows.val + 1) (cols.val + 1) acc := by
  simp only [LeRun.mvm, ← LeRun.foldl_zipIdx]
  rfl

theorem exec_opMvm_sums {s : State} {r : LeRun} {d a : Fin 32} {rows cols : Fin 16} {acc : Bool}
    (h : s.fits r (s.opCost 17 + (rows.val + 8) / 8 * (cols.val + 1))) (hd : d.val + rows.val < 32) :
    ∃ r', exec (.opMvm d a rows cols acc) s = .next (s.withRun r') ∧
      LeRun.Past r r' (s.opCost 17 + (rows.val + 8) / 8 * (cols.val + 1)) ∧ r'.wbuf = r.wbuf ∧
      r'.cp = (r.cp + (rows.val + 1) * (cols.val + 1)) % 4096 ∧
      (∀ i ≤ rows.val, d.val + i ≠ 0 → r'.getX (d.val + i) = sat32 (mvmRow s.toBlock r d a (cols.val + 1) acc i)) ∧
      (∀ i < 32, i < d.val ∨ d.val + rows.val < i → r'.getX i = r.getX i) := by
  have hrows := LeRun.writeRows_rows d (mvmRow s.toBlock r d a (cols.val + 1) acc)
  refine ⟨_, exec_of_fits (c := fun b => b.opCost 17 + (rows.val + 8) / 8 * (cols.val + 1)) (exec_opMvm d a rows cols acc s) h,
    LeRun.past_of_bare (r.mvm_bare ..) _, r.writeRows_wbuf d _ _, rfl, fun i hi h0 => ?_, fun i _ hi => ?_⟩
  · exact hrows.getX_foldl (Nat.lt_succ_of_le hi) (by omega) h0 r
  · exact hrows.getX_foldl_outside (by omega) r

/-! ### The flow (R160) -/

theorem exec_opBr {s : State} {r : LeRun} (hr : s.le.run = some r) (c : Cond) (a : Fin 32) (skip : BitVec 8) :
    exec (.opBr c a skip) s = s.upd fun b => b.loopStep (b.opCost 19 + (condHolds c (r.getX a)).toNat) fun q =>
      if condHolds c (r.getX a) then { q with pc := q.pc + skip.toNat } else q := by
  change execOpBr c a skip s = _
  unfold execOpBr
  exact State.upd_congr (by simp only [hr])

theorem exec_opBr_taken {s : State} {r : LeRun} {c : Cond} {a : Fin 32} (skip : BitVec 8)
    (h : s.fits r (s.opCost 19 + 1)) (hc : condHolds c (r.getX a) = true) : exec (.opBr c a skip) s =
      .next (s.withRun { r with used := r.used + s.opCost 19 + 1, pc := r.pc + 1 + skip.toNat }) := by
  have hi := exec_opBr h.1 c a skip
  rw [hc] at hi
  rw [exec_of_fits (c := fun b => b.opCost 19 + 1) (f := fun _ q => { q with pc := q.pc + skip.toNat }) hi h,
    Nat.add_right_comm r.pc 1]
  rfl

theorem exec_opBr_passed {s : State} {r : LeRun} {c : Cond} {a : Fin 32} (skip : BitVec 8)
    (h : s.fits r (s.opCost 19)) (hc : condHolds c (r.getX a) = false) : exec (.opBr c a skip) s =
      .next (s.withRun { r with used := r.used + s.opCost 19, pc := r.pc + 1 }) := by
  have hi := exec_opBr h.1 c a skip
  rw [hc] at hi
  exact exec_of_fits (c := fun b => b.opCost 19) (f := fun _ q => q) hi h

/-- Settles O16: the rows of MVM are independent sums; the other opcodes move CP or the code address. -/
theorem loopMatrixAndFlow : Obligations.LoopMatrixAndFlow := by
  unfold Obligations.LoopMatrixAndFlow
  intro s r d a rows cols acc off c skip
  refine ⟨fun h hd _ => ?_, fun h => ?_, fun h hc => exec_opBr_taken skip h hc, fun h hc => exec_opBr_passed skip h hc,
    fun h => ?_⟩
  · obtain ⟨r', hexec, hpast, hwbuf, hcp, hx, hkeeps⟩ := exec_opMvm_sums (a := a) (acc := acc) h hd
    refine ⟨r', hexec, hpast, hwbuf, hcp, fun i hi h0 => ?_, hkeeps⟩
    rw [hx i hi h0, sat32_toInt, mvmRow_eq]
  · exact exec_of_fits (c := fun b => b.opCost 18) (f := fun _ q => { q with cp := off.toNat }) rfl h
  · exact exec_of_fits (c := fun b => b.opCost 0) (f := fun _ q => q) rfl h

end Sys2Proof.Machine

/-!
PROOFS. The commit of an END (R40, R164 to R167): the staged data writes, the SAT flag, the miss count, and the search for
the next entry where none is enabled.
-/

namespace Sys2Proof.Machine

/-! ### Staged data writes (R164) -/

/-- Block `c` is `b` after commits of data words: no register below them, and of the loop engine only the pending
exchange words, changed. -/
structure Block.DataWritten (b c : Block) : Prop where
  rd : ∀ o, o < 0x88000 → c.rd o = b.rd o
  le : ∃ ex, c.le = { b.le with exNew := ex }

theorem Block.DataWritten.commitData {b c : Block} (h : b.DataWritten c) (a : Nat) (v : Word) :
    b.DataWritten (c.commitData a v) := by
  obtain ⟨hrd, ex, hex⟩ := h
  unfold Block.commitData
  dsimp only
  split
  · exact ⟨hrd, c.le.exNew.filter (fun e => e.1 ≠ a % 8192) ++ [(a % 8192, v)], by simp only [Block.modLe, hex]⟩
  · exact ⟨fun o ho => (c.rd_wr_ne (Nat.ne_of_lt (by simp only [LE_DMEM_w]; omega)) v).trans (hrd o ho), ex, hex⟩

theorem Block.dmem_commitData (b : Block) (a' : Nat) (v : Word) {a : Nat} (h1 : 0x200 ≤ a) (h2 : a < 8192) :
    (b.commitData a' v).dmem a = if a' % 8192 = a then v else b.dmem a := by
  unfold Block.commitData Block.dmem
  rw [Nat.mod_eq_of_lt h2]
  dsimp only
  split
  · rw [if_neg (by omega)]
    rfl
  · split
    · next h => rw [h, Block.rd_wr_same]
    · next h => exact b.rd_wr_ne (by simp only [LE_DMEM_w]; omega) v

/-- What the staged effect makes of data word `a`, which held `x`. -/
def Staged.wordAt (a : Nat) (x : Word) (e : Staged) : Word :=
  match e with
  | .data a' v => if a' % 8192 = a then v else x
  | _ => x

/-- The staged effects, committed in program order. -/
def Block.commitStaged (b : Block) (r : LeRun) : Block := r.wbuf.foldl (fun b e => b.commitOne r.entry e) b

section

variable {b : Block} {r : LeRun} (hdata : ∀ e ∈ r.wbuf, ∃ a v, e = .data a v)
include hdata

theorem Block.commitStaged_dataWritten : b.DataWritten (b.commitStaged r) := by
  refine List.foldlRecOn (motive := fun c => b.DataWritten c) r.wbuf _ ⟨fun _ _ => rfl, _, rfl⟩ fun c hc e he => ?_
  obtain ⟨a, v, rfl⟩ := hdata e he
  exact hc.commitData a v

theorem Block.commitStaged_frame {l : List Area} {a : Block} (h : Frame l a b) (hl : [.regs, .le] ⊆ l) :
    Frame l a (b.commitStaged r) := by
  refine List.foldlRecOn (motive := fun c => Frame l a c) r.wbuf _ h fun c hc e he => ?_
  obtain ⟨a', v, rfl⟩ := hdata e he
  exact frame_commitData hc a' v hl

theorem Block.commitStaged_dmem {a : Nat} (h1 : 0x200 ≤ a) (h2 : a < 8192) :
    (b.commitStaged r).dmem a = r.wbuf.foldl (Staged.wordAt a) (b.dmem a) := by
  unfold Block.commitStaged
  generalize r.wbuf = es at hdata
  induction es generalizing b with
  | nil => rfl
  | cons e es ih =>
    obtain ⟨a', v, rfl⟩ := hdata e List.mem_cons_self
    have hword : (b.commitOne r.entry (.data a' v)).dmem a = Staged.wordAt a (b.dmem a) (.data a' v) :=
      b.dmem_commitData a' v h1 h2
    rw [List.foldl_cons, List.foldl_cons, ih fun e he => hdata e (List.mem_cons_of_mem _ he), hword]

end

/-! ### The SAT flag (R165, R181) -/

theorem Block.setSatFlag_rd (b : Block) (k : Nat) {o : Nat} (h1 : o ≠ LE_SAT_LO) (h2 : o ≠ LE_SAT_HI)
    (h : irqReg o = false) : (b.setSatFlag k).rd o = b.rd o := by
  have hreg : o ≠ (if k < 32 then LE_SAT_LO_SAT else LE_SAT_HI_SAT).reg := by
    split
    · exact h1
    · exact h2
  unfold Block.setSatFlag
  dsimp only
  generalize (if k < 32 then LE_SAT_LO_SAT else LE_SAT_HI_SAT) = f at hreg
  generalize (if k < 32 then k else k - 32) = i
  split
  · rfl
  · rw [Block.raise_rd _ _ h, Block.rd_putBit_ne _ _ hreg]

theorem Block.setSatFlag_onBit (b : Block) {k : Nat} (hk : k < 32) : (b.setSatFlag k).onBit LE_SAT_LO_SAT k = true := by
  unfold Block.setSatFlag
  simp only [if_pos hk]
  split
  · assumption
  · rw [Block.onBit_of_fld (Block.raise_fld _ _ rfl), Block.onBit_putBit _ rfl hk]
    simp

/-! ### The end of an execution (R40, R165) -/

/-- The staged effects of the execution that ends, at the cycle it reached. -/
def Block.endStaged (b : Block) (r : LeRun) (used : Nat) : Block :=
  (b.modLe fun l => { l with run := none, cyc := r.start + used, useLast := r.start + used - 1 }).commitStaged r

/-- What the commit does before held writes and the next dispatch. -/
def Block.endRun (b : Block) (r : LeRun) (used : Nat) : Block :=
  (if r.sat then (b.endStaged r used).setSatFlag r.entry else b.endStaged r used).setFld (missFld r.entry) 0

theorem Block.commit_eq (b : Block) (r : LeRun) (used : Nat) :
    b.commit r used = (b.endRun r used).applyAllHeld.scan 48 := rfl

theorem missFld_reg (k : Nat) : (missFld k).reg = 0x80030 + 0x4 * (k / 16) := rfl

/-- The field lies in its register: 2 bits for each of 16 entries. -/
theorem missFld_ok (k : Nat) : (missFld k).ok = true := by
  simp [Fld.ok, missFld, LE_MISS_k_MISS]
  omega

section endRun

variable {b : Block} {r : LeRun} (used : Nat)

theorem Block.endRun_miss : (b.endRun r used).fld (missFld r.entry) = 0 := by
  unfold Block.endRun
  rw [Block.fld_setFld_same _ _ (missFld_ok _), Nat.zero_mod]

theorem Block.endRun_sat (hsat : r.sat = true) (hk : r.entry < 32) :
    (b.endRun r used).onBit LE_SAT_LO_SAT r.entry = true := by
  have hne : LE_SAT_LO_SAT.reg ≠ (missFld r.entry).reg := by rw [missFld_reg]; simp only [LE_SAT_LO_SAT, LE_SAT_LO]; omega
  unfold Block.endRun
  rw [Block.onBit_of_fld (Block.fld_of_rd (Block.rd_setFld_ne _ _ hne 0)), if_pos hsat]
  exact Block.setSatFlag_onBit _ hk

theorem Block.endRun_rd {o : Nat} (h1 : o ≠ LE_SAT_LO) (h2 : o ≠ LE_SAT_HI) (h3 : o ≠ (missFld r.entry).reg)
    (h : irqReg o = false) : (b.endRun r used).rd o = (b.endStaged r used).rd o := by
  unfold Block.endRun
  rw [Block.rd_setFld_ne _ _ h3]
  split
  · exact Block.setSatFlag_rd _ _ h1 h2 h
  · rfl

theorem Block.endRun_le_staged : (b.endRun r used).le = (b.endStaged r used).le := by
  unfold Block.endRun
  rw [Block.setFld_le]
  split
  · exact (frame_setSatFlag .refl r.entry (List.Subset.refl _)).same .le (by decide)
  · rfl

variable (hdata : ∀ e ∈ r.wbuf, ∃ a v, e = .data a v)
include hdata

theorem Block.endRun_frame : Frame [.regs, .irq, .le, .ml, .out] b (b.endRun r used) := by
  have hc : Frame [.regs, .irq, .le, .ml, .out] b (b.endStaged r used) :=
    Block.commitStaged_frame hdata (frame_modLe .refl _ (by decide)) (by decide)
  refine frame_setFld ?_ _ _ (by decide)
  split
  · exact frame_setSatFlag hc _ (by decide)
  · exact hc

/-- Without SAT no source is raised. -/
theorem Block.endRun_quiet (hsat : r.sat = false) : Frame [.regs, .le] b (b.endRun r used) := by
  have hc : Frame [.regs, .le] b (b.endStaged r used) :=
    Block.commitStaged_frame hdata (frame_modLe .refl _ (by decide)) (by decide)
  unfold Block.endRun
  rw [hsat]
  exact frame_setFld hc _ _ (by decide)

theorem Block.endRun_le : ∃ ex, (b.endRun r used).le = { b.le with
    run := none, cyc := r.start + used, useLast := r.start + used - 1, exNew := ex } :=
  (Block.commitStaged_dataWritten hdata).le.imp fun _ => (b.endRun_le_staged used).trans

theorem Block.endRun_dmem (hr : r.entry < 48) {a : Nat} (h1 : 0x200 ≤ a) (h2 : a < 8192) :
    (b.endRun r used).dmem a = r.wbuf.foldl (Staged.wordAt a) (b.dmem a) := by
  refine Eq.trans (b.endRun_rd used ?_ ?_ ?_ (irqReg_of_ge ?_)) (Block.commitStaged_dmem hdata h1 h2)
  all_goals simp only [LE_DMEM_w, LE_SAT_LO, LE_SAT_HI, missFld_reg]; omega

theorem Block.endRun_slotEn (hr : r.entry < 48) {k : Nat} (hk : k < 48) : (b.endRun r used).slotEn k = b.slotEn k := by
  refine Block.on_of_rd ((b.endRun_rd used ?_ ?_ ?_ (irqReg_of_ge ?_)).trans
    ((Block.commitStaged_dataWritten hdata).rd _ ?_))
  all_goals simp only [LE_SLOT_k_W0_EN, LE_SLOT_k_W0, LE_SAT_LO, LE_SAT_HI, missFld_reg]; omega

end endRun

/-! ### The boundary with nothing held and no entry enabled (R163, R167) -/

theorem Loop.take_stalled_nil {l : Loop} (h : l.held = []) (hs : l.stalled = []) :
    { l with held := l.stalled.take 16, stalled := l.stalled.drop 16 } = l := by
  cases l
  subst h hs
  rfl

theorem Block.applyAllHeld_nil {b : Block} (h : b.le.held = []) (hs : b.le.stalled = []) : b.applyAllHeld = b := by
  unfold Block.applyAllHeld
  rw [h]
  exact congrArg (fun l => { b with le := l }) (Loop.take_stalled_nil h hs)

theorem Block.scan_idle : ∀ (n : Nat) {b : Block}, (∀ k, b.le.next ≤ k → k < 48 → b.slotEn k = false) →
    ∃ m, b.scan n = b.modLe fun l => { l with next := m }
  | 0, b, _ => ⟨b.le.next, rfl⟩
  | n + 1, b, h => by
    unfold Block.scan
    dsimp only
    split
    · exact ⟨b.le.next, rfl⟩
    · next hn =>
      rw [h _ (Nat.le_refl _) (Nat.lt_of_not_le hn)]
      exact scan_idle n (b := b.modLe fun l => { l with next := b.le.next + 1 }) fun k hk => h k (Nat.le_of_succ_le hk)

theorem exec_opEnd {s : State} {r : LeRun} (h : s.fits r (s.opCost 1)) :
    exec .opEnd s = s.upd fun b => b.commit r (r.used + b.opCost 1) := by
  obtain ⟨hrun, hbudget, hcycle⟩ := h
  change execOpEnd s = _
  unfold execOpEnd
  refine State.upd_congr ?_
  simp only [hrun]
  rw [if_neg (Nat.not_lt.2 hbudget), if_neg (by omega)]

/-- With no held write and no further enabled entry, nothing else runs at the boundary. -/
theorem Block.commit_idle {b : Block} {r : LeRun} (hdata : ∀ e ∈ r.wbuf, ∃ a v, e = .data a v) (hh : b.le.held = [])
    (hs : b.le.stalled = []) (hr : r.entry < 48) (hen : ∀ k, b.le.next ≤ k → k < 48 → b.slotEn k = false) (used : Nat) :
    ∃ m, b.commit r used = (b.endRun r used).modLe fun l => { l with next := m } := by
  obtain ⟨ex, hle⟩ := Block.endRun_le (b := b) used hdata
  rw [Block.commit_eq, Block.applyAllHeld_nil (by rw [hle]; exact hh) (by rw [hle]; exact hs)]
  refine Block.scan_idle 48 fun k hk hk48 => ?_
  rw [hle] at hk
  rw [Block.endRun_slotEn used hdata hr hk48, hen k hk hk48]

/-- Settles O17: the commit is `endRun`, whose parts are read off one by one. -/
theorem endCommits : Obligations.EndCommits := by
  unfold Obligations.EndCommits
  intro s r h hh hs hr hen hdata
  obtain ⟨m, hm⟩ := Block.commit_idle hdata hh hs hr hen (r.used + s.opCost 1)
  obtain ⟨ex, hle⟩ := Block.endRun_le (b := s.toBlock) (r.used + s.opCost 1) hdata
  have hframe := Block.endRun_frame (b := s.toBlock) (r.used + s.opCost 1) hdata
  refine does_upd (exec_opEnd h) ?_
  rw [hm]
  refine ⟨congrArg Loop.run hle, (congrArg Loop.cyc hle).trans (Nat.add_assoc ..).symm, Block.endRun_miss _,
    hframe.same .tick (by decide), hframe.same .servo (by decide), Block.endRun_sat _, fun hsat => ?_,
    fun a h1 h2 => Block.endRun_dmem _ hdata hr h1 h2⟩
  have hquiet := Block.endRun_quiet (b := s.toBlock) (r.used + s.opCost 1) hdata hsat
  exact ⟨hquiet.same .irq (by decide), hquiet.same .out (by decide)⟩

end Sys2Proof.Machine

/-!
PROOFS. The master's writes to the loop engine (R156, R167, R175, R179): live slots, held memory writes, coefficient bank
and set, match disable, patch activation.
-/

namespace Sys2Proof.Machine

/-! ### Live slots (R175) -/

/-- LIVE_SLOT_WRITE: the bits of the mask take the written value, and the entry is noted. -/
def Block.slotWritten (b : Block) (k o : Nat) (m v : Word) : Block :=
  (b.wr o ((b.rd o &&& ~~~m) ||| (v &&& m))).modLe fun l => { l with dirty := insertSrc k l.dirty }

theorem does_slotWritten {s : State} {i : Instr} {k o : Nat} {m n v : Word} (hi : exec i s = s.upd fun b => b.slotWritten k o m v)
    (hn : n = ~~~m) : Does i s fun t => t.rd o = ((s.rd o &&& n) ||| (v &&& m)) ∧ k ∈ t.le.dirty ∧ t.irq = s.irq ∧
      t.le.slot = s.le.slot ∧ Block.regsOnly [o] s.toBlock t.toBlock := by
  subst hn
  exact does_upd hi ⟨Block.rd_wr_same .., mem_insertSrc_iff.2 (Or.inl rfl), rfl, rfl, (Block.regsOnly_wr _ _ _).same⟩

/-! ### Held memory writes (R167) -/

theorem inLeMemory_of_data {o : Nat} (h1 : 0x88000 ≤ o) (h2 : o < 0x90000) (h3 : o % 4 = 0) : inLeMemory o = true := by
  simp only [inLeMemory, h3, decide_true, Bool.true_and, Bool.and_eq_true, Bool.not_eq_true', Bool.and_eq_false_iff,
    decide_eq_true_eq, decide_eq_false_iff_not]
  omega

theorem inLeMemory_dmem {a : Nat} (h : a < 8192) : inLeMemory (LE_DMEM_w a) = true := by
  apply inLeMemory_of_data <;> simp only [LE_DMEM_w] <;> omega

theorem Block.applyHeld_dmem (b : Block) {a : Nat} (h1 : 0x200 ≤ a) (h2 : a < 8192) (v : Word) :
    b.applyHeld (LE_DMEM_w a, v) = b.wr (LE_DMEM_w a) v := by
  have ha : (LE_DMEM_w a - 0x88000) / 4 = a := by simp only [LE_DMEM_w]; omega
  have hcommit : b.commitData a v = b.wr (LE_DMEM_w a) v := by
    simp only [Block.commitData, Nat.mod_eq_of_lt h2, if_neg (Nat.not_lt.2 h1)]
  refine (if_pos (by simp only [LE_DMEM_w]; omega)).trans ?_
  rw [ha, hcommit]

theorem exec_leMemoryWrite_dmem (s : State) {a : Nat} (h : a < 8192) (v : Word) :
    exec (.leMemoryWrite (BitVec.ofNat 22 (LE_DMEM_w a)) v) s = s.upd fun b => b.leMemWrite (LE_DMEM_w a) v := by
  have ha : (BitVec.ofNat 22 (LE_DMEM_w a)).toNat = LE_DMEM_w a := by
    rw [BitVec.toNat_ofNat]
    exact Nat.mod_eq_of_lt (by simp only [LE_DMEM_w]; omega)
  change s.upd (fun b => b.leMemWrite (BitVec.ofNat 22 (LE_DMEM_w a)).toNat v) = _
  rw [ha]

section

variable {s : State} {a : Nat} (h2 : a < 8192) (v : Word)
include h2

theorem does_leMemoryWrite_applies (h1 : 0x200 ≤ a) (hr : s.le.run = none) :
    Does (.leMemoryWrite (BitVec.ofNat 22 (LE_DMEM_w a)) v) s fun t => t.dmem a = v ∧ t.le = s.le ∧ t.irq = s.irq ∧
      Block.regsOnly [LE_DMEM_w a] s.toBlock t.toBlock := by
  have happly : s.leMemWrite (LE_DMEM_w a) v = s.wr (LE_DMEM_w a) v := by
    unfold Block.leMemWrite
    rw [inLeMemory_dmem h2, hr, ← s.applyHeld_dmem h1 h2]
    rfl
  refine does_upd (f := fun b => b.wr (LE_DMEM_w a) v)
    ((exec_leMemoryWrite_dmem s h2 v).trans (State.upd_congr happly)) ⟨?_, rfl, rfl, Block.regsOnly_wr _ _ _⟩
  unfold Block.dmem
  rw [Nat.mod_eq_of_lt h2, Block.rd_wr_same]

theorem does_leMemoryWrite_held (hr : s.le.run.isSome = true) (hl : s.le.held.length < 16) :
    Does (.leMemoryWrite (BitVec.ofNat 22 (LE_DMEM_w a)) v) s fun t => t.regs = s.regs ∧
      t.le = { s.le with held := s.le.held ++ [(LE_DMEM_w a, v)] } ∧ t.irq = s.irq := by
  have hheld : s.leMemWrite (LE_DMEM_w a) v =
      s.modLe fun l => { l with held := l.held ++ [(LE_DMEM_w a, v)] } := by
    unfold Block.leMemWrite
    rw [inLeMemory_dmem h2, ← Option.not_isSome, hr]
    exact if_pos hl
  exact does_upd (f := fun b => b.modLe fun l => { l with held := l.held ++ [(LE_DMEM_w a, v)] })
    ((exec_leMemoryWrite_dmem s h2 v).trans (State.upd_congr hheld)) ⟨rfl, rfl, rfl⟩

end

/-! ### Coefficient set and matches (R156, R179) -/

theorem does_coefSet (s : State) (set : BitVec 6) : Does (.coefSet set) s fun t =>
    t.fld LE_COEF_CTL_SET = (if s.part.hasSurf 2 then set else set &&& 0x13#6).toNat ∧
      t.fld LE_COEF_CTL_BANK = s.fld LE_COEF_CTL_BANK ∧ t.le = s.le ∧
      Block.regsOnly [LE_COEF_CTL] s.toBlock t.toBlock := by
  refine does_upd (f := fun b => b.setFld LE_COEF_CTL_SET (if b.part.hasSurf 2 then set else set &&& 0x13#6).toNat) rfl
    ⟨?_, Block.fld_setFld_apart _ _ _ rfl _, rfl, Block.regsOnly_wr _ _ _⟩
  exact (Block.fld_setFld_same _ _ rfl _).trans (Nat.mod_eq_of_lt (BitVec.isLt _))

theorem does_matchDisable (s : State) (m : Fin 16) : Does (.matchDisable m) s fun t =>
    t.fld (LE_MATCH_k_EN m) = 0 ∧ t.le = s.le ∧ Block.regsOnly [LE_MATCH_k m] s.toBlock t.toBlock :=
  does_upd (f := fun b => b.setFld (LE_MATCH_k_EN m) 0) rfl
    ⟨Block.fld_setFld_same _ _ rfl _, rfl, Block.regsOnly_wr _ _ _⟩

/-! ### Patch activation (R179) -/

/-- The 16 matches disabled. -/
def Block.matchesOff (b : Block) : Block := (List.range 16).foldl (fun b k => b.setFld (LE_MATCH_k_EN k) 0) b

/-- The microwords in patch RAM. -/
def Block.patchRam (b : Block) (words : List (BitVec 48)) : Block :=
  words.zipIdx.foldl (fun b (e : BitVec 48 × Nat) =>
    (b.wr (LE_PRAM_LO e.2) (e.1.setWidth 32)).wr (LE_PRAM_HI e.2) ((e.1 >>> 32).setWidth 32)) b

/-- One cost base of a patch, noted as patched. -/
def Block.patchCost (b : Block) (k n : Nat) : Block := (b.setFld (LE_OPCOST_k_PATCHED k) 1).setFld (LE_OPCOST_k_BASE k) n

/-- The cost bases of the patch. -/
def Block.patchCosts (b : Block) (costs : List Nat) : Block :=
  (List.range 64).foldl (fun b k => b.patchCost k (costs.getD k 0)) b

/-- The register writes of an activation. -/
def Block.patched (b : Block) (p : LePatch) : Block := (b.matchesOff.patchRam p.words).patchCosts p.costs

theorem exec_patchActivation {s : State} {p : LePatch} (hp : s.le.patch = some p) (ha : s.le.actLeft = 0)
    (hm : s.noMisses = true) :
    exec .patchActivation s = .next { s with toBlock := (s.patched p).modLe fun l => { l with actLeft := 3 } } := by
  change execPatchActivation s = s.upd fun b => (b.patched p).modLe fun l => { l with actLeft := 3 }
  unfold execPatchActivation
  refine State.upd_congr ?_
  simp only [hp]
  rw [if_neg (by simp [ha, hm])]
  rfl

theorem match_reg_ne {j k : Nat} (h : j ≠ k) : (LE_MATCH_k_EN j).reg ≠ (LE_MATCH_k_EN k).reg := by
  simp only [LE_MATCH_k_EN, LE_MATCH_k]
  omega

theorem Block.matchesOff_en (b : Block) {j : Nat} (hj : j < 16) : b.matchesOff.fld (LE_MATCH_k_EN j) = 0 := by
  have hset (c : Block) : (c.setFld (LE_MATCH_k_EN j) 0).fld (LE_MATCH_k_EN j) = 0 := c.fld_setFld_same (LE_MATCH_k_EN j) rfl 0
  unfold Block.matchesOff
  refine foldl_brings (g := fun (c : Block) k => c.setFld (LE_MATCH_k_EN k) 0) (P := fun c => c.fld (LE_MATCH_k_EN j) = 0)
    hset (fun c k hc => ?_) (List.mem_range.2 hj) b
  by_cases hk : j = k
  · exact hk ▸ hset c
  · exact (c.fld_wr_ne (match_reg_ne hk) _).trans hc

theorem Block.patchCost_same (b : Block) (k n : Nat) :
    (b.patchCost k n).fld (LE_OPCOST_k_BASE k) = n % 256 ∧ (b.patchCost k n).fld (LE_OPCOST_k_PATCHED k) = 1 :=
  ⟨Block.fld_setFld_same _ (LE_OPCOST_k_BASE k) rfl n,
    (Block.fld_setFld_apart _ _ _ (apart_of_bits (Or.inl (show 7 < 15 by decide))) n).trans
      (b.fld_setFld_same (LE_OPCOST_k_PATCHED k) rfl 1)⟩

theorem Block.patchCost_ne (b : Block) {k : Nat} (n : Nat) {g : Fld} (h : g.reg ≠ LE_OPCOST_k k) :
    (b.patchCost k n).fld g = b.fld g := (Block.fld_wr_ne _ h _).trans (b.fld_wr_ne h _)

theorem Block.patchCosts_cost (b : Block) (costs : List Nat) {j : Nat} (hj : j < 64) :
    (b.patchCosts costs).fld (LE_OPCOST_k_BASE j) = costs.getD j 0 % 256 ∧
      (b.patchCosts costs).fld (LE_OPCOST_k_PATCHED j) = 1 := by
  refine foldl_brings (g := fun (c : Block) k => c.patchCost k (costs.getD k 0)) (P := fun c =>
    c.fld (LE_OPCOST_k_BASE j) = costs.getD j 0 % 256 ∧ c.fld (LE_OPCOST_k_PATCHED j) = 1)
    (fun c => c.patchCost_same j _) (fun c k hc => ?_) (List.mem_range.2 hj) b
  by_cases hk : j = k
  · exact hk ▸ c.patchCost_same j _
  · have hreg : LE_OPCOST_k j ≠ LE_OPCOST_k k := by simp only [LE_OPCOST_k]; omega
    exact ⟨(c.patchCost_ne _ hreg).trans hc.1, (c.patchCost_ne _ hreg).trans hc.2⟩

theorem Block.patchCosts_fld (b : Block) (costs : List Nat) {g : Fld} (h : ∀ k, g.reg ≠ LE_OPCOST_k k) :
    (b.patchCosts costs).fld g = b.fld g := by
  refine foldl_keeps (p := fun c : Block => c.fld g) (fun c k => ?_) (List.range 64) b
  exact c.patchCost_ne _ (h k)

theorem Block.patchRam_fld (b : Block) (words : List (BitVec 48)) {g : Fld} (h : g.reg < 0xA0000) :
    (b.patchRam words).fld g = b.fld g := by
  refine foldl_keeps (p := fun c : Block => c.fld g) (fun c e => ?_) words.zipIdx b
  rw [Block.fld_wr_ne _ (Nat.ne_of_lt (by simp only [LE_PRAM_HI]; omega)),
    Block.fld_wr_ne _ (Nat.ne_of_lt (by simp only [LE_PRAM_LO]; omega))]

/-- Patch RAM and cost bases lie apart from the match registers. -/
theorem Block.patched_en (b : Block) (p : LePatch) {j : Nat} (hj : j < 16) : (b.patched p).fld (LE_MATCH_k_EN j) = 0 := by
  rw [Block.patched, Block.patchCosts_fld _ _ fun k => ?_, Block.patchRam_fld _ _ ?_, b.matchesOff_en hj]
  all_goals simp only [LE_MATCH_k_EN, LE_MATCH_k, LE_OPCOST_k]; omega

/-- The patch's writes change no area but the registers. -/
theorem Block.patched_frame (b : Block) (p : LePatch) : Frame [.regs] b (b.patched p) := by
  have hl : [Area.regs] ⊆ [Area.regs] := List.Subset.refl _
  exact .foldl (.foldl (.foldl .refl fun _ _ h => frame_setFld h _ _) fun _ _ h => frame_wr (frame_wr h _ _) _ _)
    fun _ _ h => frame_setFld (frame_setFld h _ _) _ _

/-- What an activation shows, from what its register writes `c` show. -/
theorem does_patchActivation_of {s : State} {p : LePatch} {c : Block}
    (hexec : exec .patchActivation s = .next { s with toBlock := c.modLe fun l => { l with actLeft := 3 } })
    (hle : c.le = s.le) (hirq : c.irq = s.irq) (hen : ∀ j : Fin 16, c.fld (LE_MATCH_k_EN j) = 0)
    (hcosts : ∀ j : Fin 64, c.fld (LE_OPCOST_k_BASE j) = p.costs.getD j 0 % 256 ∧ c.fld (LE_OPCOST_k_PATCHED j) = 1) :
    Does .patchActivation s fun t => t.le = { s.le with actLeft := 3 } ∧ t.irq = s.irq ∧
      (∀ j : Fin 16, t.fld (LE_MATCH_k_EN j) = 0) ∧
      ∀ j : Fin 64, t.fld (LE_OPCOST_k_BASE j) = p.costs.getD j 0 % 256 ∧ t.fld (LE_OPCOST_k_PATCHED j) = 1 :=
  ⟨_, hexec, rfl, congrArg (fun l : Loop => { l with actLeft := 3 }) hle, hirq, hen, hcosts⟩

theorem does_patchActivation {s : State} {p : LePatch} (hp : s.le.patch = some p) (ha : s.le.actLeft = 0)
    (hm : s.noMisses = true) : Does .patchActivation s fun t => t.le = { s.le with actLeft := 3 } ∧ t.irq = s.irq ∧
      (∀ j : Fin 16, t.fld (LE_MATCH_k_EN j) = 0) ∧
      ∀ j : Fin 64, t.fld (LE_OPCOST_k_BASE j) = p.costs.getD j 0 % 256 ∧ t.fld (LE_OPCOST_k_PATCHED j) = 1 :=
  does_patchActivation_of (exec_patchActivation hp ha hm) ((s.patched_frame p).same .le (by decide))
    ((s.patched_frame p).same .irq (by decide)) (fun j => s.patched_en p j.isLt)
    fun j => (s.matchesOff.patchRam p.words).patchCosts_cost p.costs j.isLt

/-- Settles O21: one lemma for each kind of write. -/
theorem loopMemoryWrites : Obligations.LoopMemoryWrites := by
  unfold Obligations.LoopMemoryWrites
  intro s k v set m
  refine ⟨?slotFirst, ?slotSecond, fun a h1 h2 => ⟨does_leMemoryWrite_applies h2 v h1, does_leMemoryWrite_held h2 v⟩,
    does_upd (f := fun b => b.modLe fun l => { l with swap := true }) rfl ⟨rfl, rfl⟩, does_coefSet s set,
    does_matchDisable s m, fun p hp ha hm _ => does_patchActivation hp ha hm⟩
  case slotFirst => exact does_slotWritten rfl (by split <;> rfl)
  case slotSecond => exact does_slotWritten rfl (by split <;> rfl)

end Sys2Proof.Machine

/-!
PROOFS. What a commit of the tracking program does (07_servo_programs.md R185, R186, R190, R519): the status word, the
safe state, the LSAFE port, and the state of the servo programs that they leave alone.
-/

namespace Sys2Proof.Machine

/-! ### The servo programs of a surface -/

@[simp] theorem Block.vget_modServo_same (b : Block) (s : Fin 4) (f : Servo → Servo) :
    vget (b.modServo s f).servo s = f (vget b.servo s) := vget_vset_same ..

/-- The servo programs without what the laser and safety group keeps with them. -/
def Servo.program (v : Servo) : Servo :=
  { v with lastWgate := false, release := false, safeTick := none, unavail := false }

/-- The servo programs of the surface differ in their availability to placement at most. -/
def Block.AvailOnly (u : Fin 4) (b c : Block) : Prop := ∃ x, vget c.servo u = { vget b.servo u with unavail := x }

namespace Block.AvailOnly

variable {u : Fin 4} {a b c : Block}

theorem same (h : AvailOnly u a b) (hs : c.servo = b.servo := by rfl) : AvailOnly u a c := by
  unfold Block.AvailOnly
  rw [hs]
  exact h

theorem refl : AvailOnly u b b := ⟨_, rfl⟩

theorem frame {m : List Area} (h : AvailOnly u a b) (hf : Frame m b c) (hm : Area.servo ∉ m := by decide) :
    AvailOnly u a c := h.same (hf.same .servo hm)

theorem ite {p : Prop} [Decidable p] (hb : AvailOnly u a b) (hc : AvailOnly u a c) :
    AvailOnly u a (if p then b else c) := by
  split
  · exact hb
  · exact hc

theorem foldl {α : Type} {f : Block → α → Block} (xs : List α) (h : AvailOnly u a b)
    (hf : ∀ c x, AvailOnly u a c → AvailOnly u a (f c x)) : AvailOnly u a (xs.foldl f b) :=
  List.foldlRecOn (motive := AvailOnly u a) xs f h fun c hc x _ => hf c x hc

theorem modUnavail (h : AvailOnly u a b) (x : Bool) : AvailOnly u a (b.modServo u fun v => { v with unavail := x }) := by
  obtain ⟨y, hy⟩ := h
  exact ⟨x, by rw [Block.vget_modServo_same, hy]⟩

theorem surfDown (h : AvailOnly u a b) (cause : Nat) : AvailOnly u a (b.surfDown u cause) :=
  (h.modUnavail true).frame (Block.async_frame ..)

/-! #### A pass that is cut (R112, R114) -/

theorem failBeam (h : AvailOnly u a b) (k : Nat) : AvailOnly u a (b.failBeam u k) := by
  unfold Block.failBeam
  extract_lets n b1 b2 b3 b4
  have h1 : AvailOnly u a b1 := h.same.ite h.same
  have h3 : AvailOnly u a b3 := h1.same
  have h4 : AvailOnly u a b4 := (h3.surfDown 3).ite h3
  exact (h4.frame (frame_bandEntryFor .refl _ _ (List.Subset.refl _))).frame (Block.raise_frame ..)

theorem cellBad (h : AvailOnly u a b) (q k : Nat) : AvailOnly u a (b.cellBad u q k) := by
  unfold Block.cellBad
  extract_lets b1 w run b2 b3
  have h2 : AvailOnly u a b2 := h.same
  have h3 : AvailOnly u a b3 := by
    show AvailOnly u a (match w.copies.find? _ with | some c => _ | none => _)
    split
    · exact h2.same
    · split
      · exact h2
      · exact h2.same
  exact (h3.failBeam k).ite h3

theorem missedCells (h : AvailOnly u a b) (n : Nat) (t : Stripe) (missed : List (Nat × Nat)) :
    AvailOnly u a (b.missedCells u n t missed) :=
  h.foldl _ fun c k hc => ((hc.same : AvailOnly u a (c.modWp u _)).cellBad t.wseq k).ite hc

theorem addStripes (h : AvailOnly u a b) (p : Pass) (reached : Nat) : AvailOnly u a (b.addStripes u p reached) := by
  unfold Block.addStripes
  extract_lets n failed recs dl voids cells b1 b2 isVoid b3 b4 b5
  have h3 : AvailOnly u a b3 := h.same
  have h4 : AvailOnly u a b4 := by
    show AvailOnly u a (match voids with | [] => b3 | t :: _ => _)
    generalize voids = l
    cases l with
    | nil => exact h3
    | cons t _ => exact h3.frame (frame_voidEntry .refl _ _ _ (List.Subset.refl _))
  have h5 : AvailOnly u a b5 := h4.same
  exact h5.foldl _ fun _ t hc => hc.missedCells n t p.missed

theorem cutPass (h : AvailOnly u a b) : AvailOnly u a (b.cutPass u) := by
  unfold Block.cutPass
  extract_lets b1 b2
  have h2 : AvailOnly u a b2 := h.same
  split
  · exact h2
  · next p _ =>
    extract_lets b3 n b4 void b5 b6 b7
    have h3 : AvailOnly u a b3 := h2.frame (frame_sedge .refl u _ (List.Subset.refl _))
    have h4 : AvailOnly u a b4 := by
      show AvailOnly u a (match p.kind with | .test => b3 | _ => b3.addStripes u p _)
      split
      · exact h3
      · exact h3.addStripes p _
    have h6 : AvailOnly u a b6 :=
      (h4.same : AvailOnly u a b5).frame (frame_movePointer .refl u p true (List.Subset.refl _))
    exact ((h6.frame (Block.raise_frame ..)).ite h6).frame (frame_advanceVseq .refl u (List.Subset.refl _))

end Block.AvailOnly

/-! ### Work of a commit -/

/-- From `b` to `c` a commit of surface `u` has written no register but those of `l`, has left the servo programs' state
alone, has withdrawn no event due at the close, and has taken no RELEASE and no SA_REQ back. -/
structure Block.CommitWork (u : Fin 4) (l : List Nat) (b c : Block) : Prop where
  part : c.part = b.part
  regs : Block.regsOnly l b c
  program : (vget c.servo u).program = (vget b.servo u).program
  release : (vget b.servo u).release = false → (vget c.servo u).release = false
  post : ∀ n ∈ b.le.post, n ∈ c.le.post
  saReq : ∀ v, (exWord u 11, v) ∈ b.le.exNew → (exWord u 11, v) ∈ c.le.exNew

namespace Block.CommitWork

variable {u : Fin 4} {l m : List Nat} {a b c : Block}

theorem refl : CommitWork u l b b := ⟨rfl, Block.regsOnly_refl _ _, rfl, id, fun _ => id, fun _ => id⟩

theorem trans (h : CommitWork u l a b) (h' : CommitWork u l b c) : CommitWork u l a c where
  part := h'.part.trans h.part
  regs := Block.regsOnly_trans h.regs h'.regs
  program := h'.program.trans h.program
  release := h'.release ∘ h.release
  post n hn := h'.post n (h.post n hn)
  saReq v hv := h'.saReq v (h.saReq v hv)

theorem mono (h : CommitWork u l a b) (hl : l ⊆ m) : CommitWork u m a b := { h with regs := h.regs.mono hl }

theorem ite {p : Prop} [Decidable p] (hb : CommitWork u l a b) (hc : CommitWork u l a c) :
    CommitWork u l a (if p then b else c) := by
  split
  · exact hb
  · exact hc

/-- Work that leaves the loop engine alone, of which the registers and the servo programs are known. -/
theorem of_avail {m : List Area} (hr : Block.regsOnly l b c) (hs : Block.AvailOnly u b c) (hf : Frame m b c)
    (hp : Area.part ∉ m := by decide) (hle : Area.le ∉ m := by decide) : CommitWork u l b c := by
  obtain ⟨x, hx⟩ := hs
  have hle : c.le = b.le := hf.same .le hle
  refine ⟨hf.same .part hp, hr, (congrArg Servo.program hx).trans rfl, fun h => (congrArg Servo.release hx).trans h,
    ?_, ?_⟩ <;>
    rw [hle] <;> exact fun _ => id

/-- Work of other areas. -/
theorem frame {m : List Area} (h : CommitWork u l a b) (hf : Frame m b c) (hp : Area.part ∉ m := by decide)
    (hr : Area.regs ∉ m := by decide) (hs : Area.servo ∉ m := by decide) (hle : Area.le ∉ m := by decide) :
    CommitWork u l a c :=
  h.trans (.of_avail ((Block.regsOnly_refl l b).frame hf hr hp) (Block.AvailOnly.refl.frame hf hs) hf hp hle)

theorem wr (h : CommitWork u l a b) {o : Nat} (ho : o ∈ l) (v : Word) : CommitWork u l a (b.wr o v) :=
  { h with regs := h.regs.wr ho v }

theorem setFld (h : CommitWork u l a b) {f : Fld} (hf : f.reg ∈ l) (n : Nat) : CommitWork u l a (b.setFld f n) :=
  h.wr hf _

theorem postClose (h : CommitWork u l a b) (n : Nat) : CommitWork u l a (b.postClose n) :=
  { h with post := fun k hk => List.mem_append_left _ (h.post k hk) }

theorem modServo (h : CommitWork u l a b) {f : Servo → Servo}
    (hf : ∀ v, (f v).program = v.program := by exact fun _ => rfl)
    (hr : ∀ v, v.release = false → (f v).release = false := by exact fun _ => id) : CommitWork u l a (b.modServo u f) :=
  h.trans { refl with
    program := (congrArg Servo.program (b.vget_modServo_same u f)).trans (hf _)
    release := fun h => (congrArg Servo.release (b.vget_modServo_same u f)).trans (hr _ h) }

theorem surfDown (h : CommitWork u l a b) (cause : Nat) : CommitWork u l a (b.surfDown u cause) :=
  (h.modServo (f := fun v => { v with unavail := true })).frame (Block.async_frame ..)

theorem surfUp (h : CommitWork u l a b) : CommitWork u l a (b.surfUp u) :=
  ((h.modServo (f := fun v => { v with unavail := false })).frame (Block.async_frame ..)).ite h

end Block.CommitWork

/-! ### The safe state (R42, R43) -/

/-- The gates of a surface that enters its safe state without the latch of R519. -/
def Block.gatesUnlatched (b : Block) (s : Fin 4) : Block :=
  ((b.setFld (SEs_LSAFE_SAFE s) 1).setFld (SEs_LSAFE_MODE s) 1).sendPower s

theorem lsafe_mem_shutRegs (s : Nat) : SEs_LSAFE s ∈ shutRegs s := List.mem_cons_self

theorem irqReg_lsafe (s : Nat) : irqReg (SEs_LSAFE s) = false := irqReg_of_ge (by simp only [SEs_LSAFE]; omega)

theorem Block.CommitWork.sendPower {u : Fin 4} {l : List Nat} {a b : Block} (h : Block.CommitWork u l a b) :
    Block.CommitWork u l a (b.sendPower u) := h.frame (frame_sendPower .refl u (List.Subset.refl _))

theorem Block.gatesUnlatched_work (b : Block) (u : Fin 4) : Block.CommitWork u (shutRegs u) b (b.gatesUnlatched u) :=
  ((Block.CommitWork.refl.setFld (f := SEs_LSAFE_SAFE u) (lsafe_mem_shutRegs u) 1).setFld (f := SEs_LSAFE_MODE u)
    (lsafe_mem_shutRegs u) 1).sendPower

/-- What entering the safe state does after the gates: the pass and its plan cut, a calibration abandoned. -/
def Block.workCut (b : Block) (s : Fin 4) : Block := ((b.cutPass s).cancelPlan s).calAbandon s

theorem Block.workCut_regs (b : Block) (u : Fin 4) :
    Block.regsOnly (passRegs u) (b.setFld (SEs_LSAFE_WGATE u) 0) (b.workCut u) :=
  Block.PassWork.calAbandon (Block.PassWork.cancelPlan (Block.PassWork.cutPass b u))

theorem Block.workCut_work (b : Block) (u : Fin 4) : Block.CommitWork u (shutRegs u) b (b.workCut u) := by
  have hregs := Block.regsOnly_trans
    ((Block.regsOnly_refl _ b).setFld (f := SEs_LSAFE_WGATE u) (lsafe_mem_shutRegs u) 0)
    ((b.workCut_regs u).mono (List.subset_cons_self _ _))
  have havail : Block.AvailOnly u b (b.workCut u) :=
    (Block.AvailOnly.refl.cutPass.frame (frame_cancelPlan .refl u (List.Subset.refl _))).frame
      (frame_calAbandon .refl u (List.Subset.refl _))
  have hframe : Frame [.regs, .irq, .servo, .wp, .cal, .hq, .store, .ml, .out] b (b.workCut u) :=
    frame_calAbandon (frame_cancelPlan (frame_cutPass .refl u (by decide)) u (by decide)) u (by decide)
  exact .of_avail hregs havail hframe

/-- The records of the entry: its tick, and the surface unavailable to placement. -/
def Block.safeNoted (b : Block) (s : Fin 4) : Block :=
  let b := b.modServo s fun v => { v with safeTick := some b.now, release := false }
  ((b.surfDown s 1).modHq fun h => { h with safeStates := h.safeStates + 1 }).postClose (1024 + 40 * s.val)

theorem Block.safeNoted_work (b : Block) (u : Fin 4) (l : List Nat) : Block.CommitWork u l b (b.safeNoted u) := by
  have h := Block.CommitWork.refl (u := u) (l := l) (b := b) |>.modServo
    (f := fun v => { v with safeTick := some b.now, release := false }) (hr := fun _ _ => rfl)
  exact ((h.surfDown 1).frame (frame_modHq .refl _ (List.Subset.refl _))).postClose _

theorem Block.surfDown_unavail (b : Block) (u : Fin 4) (cause : Nat) :
    (vget (b.surfDown u cause).servo u).unavail = true := by
  have hservo : (b.surfDown u cause).servo = (b.modServo u fun v => { v with unavail := true }).servo :=
    (Block.async_frame ..).same .servo (by decide)
  rw [hservo, Block.vget_modServo_same]

theorem Block.safeNoted_unavail (b : Block) (u : Fin 4) : (vget (b.safeNoted u).servo u).unavail = true :=
  Block.surfDown_unavail _ u 1

theorem Block.safeState_unlatched {b : Block} {s : Fin 4} (h : b.on (SEs_LSAFE_SAFE s) = false) :
    b.safeState s false = ((b.gatesUnlatched s).workCut s).safeNoted s := if_neg (by simp [h])

theorem Block.safeState_work (b : Block) (u : Fin 4) :
    Block.CommitWork u (shutRegs u) b (b.safeState u false) := by
  by_cases h : b.on (SEs_LSAFE_SAFE u) = true
  · rw [Block.safeState_of_safe h]
    exact .refl
  · rw [Block.safeState_unlatched (Bool.eq_false_iff.mpr h)]
    exact ((b.gatesUnlatched_work u).trans (Block.workCut_work _ u)).trans (Block.safeNoted_work _ u _)

theorem Block.gatesUnlatched_safe (b : Block) (u : Fin 4) : (b.gatesUnlatched u).fld (SEs_LSAFE_SAFE u) = 1 := by
  unfold Block.gatesUnlatched
  rw [Block.fld_of_rd (Block.sendPower_rd _ u _),
    Block.fld_setFld_apart _ _ _ (apart_of_bits (.inl (by simp [SEs_LSAFE_MODE, SEs_LSAFE_SAFE])))]
  exact Block.fld_setFld_same _ _ rfl 1

theorem Block.safeState_safe (b : Block) (u : Fin 4) : (b.safeState u false).fld (SEs_LSAFE_SAFE u) = 1 := by
  by_cases h : b.on (SEs_LSAFE_SAFE u) = true
  · rw [Block.safeState_of_safe h]
    exact Block.fld_eq_one_of_on rfl h
  · rw [Block.safeState_unlatched (Bool.eq_false_iff.mpr h),
      (Block.safeNoted_work _ u []).regs.fld List.not_mem_nil (irqReg_lsafe u),
      (Block.workCut_regs _ u).fld (not_mem_passRegs u.isLt (.inl rfl)) (irqReg_lsafe u),
      Block.fld_setFld_apart _ _ _ (apart_of_bits (.inl (by simp [SEs_LSAFE_WGATE, SEs_LSAFE_SAFE]))),
      Block.gatesUnlatched_safe]

theorem Block.safeState_unavail {b : Block} {u : Fin 4} (h : b.fld (SEs_LSAFE_SAFE u) = 0) :
    (vget (b.safeState u false).servo u).unavail = true := by
  rw [Block.safeState_unlatched (by simp [Block.on_eq, h])]
  exact Block.safeNoted_unavail _ u

/-! ### The LSAFE port (R190, R191, R519) -/

/-- SAFE as the port writes it. -/
def Block.portSafe (b : Block) (s : Fin 4) (safe : Nat) : Block :=
  if safe = 1 then b.safeState s false else if b.on (SEs_LSAFE_HLATCH s) then b else b.setFld (SEs_LSAFE_SAFE s) 0

/-- The power mode is sent where it differs from the one before. -/
def Block.sendChanged (b : Block) (s : Fin 4) (old : Nat) : Block :=
  if b.fld (SEs_LSAFE_MODE s) ≠ old then b.sendPower s else b

/-- MODE as the port writes it. -/
def Block.portMode (b : Block) (s : Fin 4) (latch : Bool) (mode : Nat) : Block :=
  (if latch && mode ≠ 1 then b else b.setFld (SEs_LSAFE_MODE s) mode).sendChanged s (b.fld (SEs_LSAFE_MODE s))

/-- WGATE and LDEN as the port writes them, under their holds. -/
def Block.portGates (b : Block) (s : Fin 4) (latch : Bool) (wgate lden : Nat) : Block :=
  ((if wgate = 1 && latch then b else b.setFld (SEs_LSAFE_WGATE s) wgate).setFld (SEs_LSAFE_LDEN s) lden).applyHolds s

theorem Block.lsafePort_eq (b : Block) (s : Fin 4) (v : Nat) :
    b.lsafePort s v = ((b.portSafe s (v / 16 % 2)).portMode s (b.on (SEs_LSAFE_HLATCH s)) (v / 4 % 4)).portGates s
      (b.on (SEs_LSAFE_HLATCH s)) (v / 2 % 2) (v % 2) := rfl

theorem Block.CommitWork.applyHolds {u : Fin 4} {l : List Nat} {a b : Block} (h : Block.CommitWork u l a b)
    (hl : SEs_LSAFE u ∈ l) : Block.CommitWork u l a (b.applyHolds u) :=
  have hlden := (h.setFld (f := SEs_LSAFE_LDEN u) hl 0).ite (p := b.ldenHeld u = true) h
  (hlden.setFld (f := SEs_LSAFE_WGATE u) hl 0).ite hlden

theorem Block.lsafePort_work (b : Block) (u : Fin 4) (v : Nat) :
    Block.CommitWork u (shutRegs u) b (b.lsafePort u v) := by
  have hl := lsafe_mem_shutRegs u
  have hsafe : Block.CommitWork u (shutRegs u) b (b.portSafe u (v / 16 % 2)) :=
    (b.safeState_work u).ite (Block.CommitWork.refl.ite (Block.CommitWork.refl.setFld hl 0))
  rw [Block.lsafePort_eq]
  generalize b.on (SEs_LSAFE_HLATCH u) = latch
  have hmode := hsafe.ite (p := (latch && decide (v / 4 % 4 ≠ 1)) = true)
    (hsafe.setFld (f := SEs_LSAFE_MODE u) hl (v / 4 % 4))
  have hsent : Block.CommitWork u (shutRegs u) b ((b.portSafe u (v / 16 % 2)).portMode u latch (v / 4 % 4)) :=
    hmode.sendPower.ite hmode
  exact ((hsent.ite (hsent.setFld (f := SEs_LSAFE_WGATE u) hl _)).setFld (f := SEs_LSAFE_LDEN u) hl _).applyHolds hl

/-- A field that a condition may clear, and the fields apart from it. -/
theorem Block.fld_ite_setFld (b : Block) {f g : Fld} (h : f.apart g = true) (p : Prop) [Decidable p] (n : Nat) :
    (if p then b.setFld f n else b).fld g = b.fld g := by
  split
  · exact Block.fld_setFld_apart _ _ _ h n
  · rfl

theorem Block.fld_ite_clear {b : Block} {f : Fld} (hf : f.ok = true) (h : b.fld f = 0) (p : Prop) [Decidable p] :
    (if p then b.setFld f 0 else b).fld f = 0 := by
  split
  · exact (Block.fld_setFld_same _ _ hf 0).trans (Nat.zero_mod _)
  · exact h

/-- The holds write no field of SEs_LSAFE but LDEN and WGATE. -/
theorem Block.applyHolds_fld (b : Block) (u : Fin 4) {g : Fld} (hw : (SEs_LSAFE_WGATE u).apart g = true)
    (hd : (SEs_LSAFE_LDEN u).apart g = true) : (b.applyHolds u).fld g = b.fld g :=
  (Block.fld_ite_setFld _ hw _ 0).trans (b.fld_ite_setFld hd (b.ldenHeld u = true) 0)

theorem Block.applyHolds_wgate {b : Block} {u : Fin 4} (h : b.fld (SEs_LSAFE_WGATE u) = 0) :
    (b.applyHolds u).fld (SEs_LSAFE_WGATE u) = 0 := by
  have hapart : (SEs_LSAFE_LDEN u).apart (SEs_LSAFE_WGATE u) = true :=
    apart_of_bits (.inl (by simp [SEs_LSAFE_LDEN, SEs_LSAFE_WGATE]))
  exact Block.fld_ite_clear rfl ((b.fld_ite_setFld hapart (b.ldenHeld u = true) 0).trans h) _

theorem Block.sendChanged_rd (b : Block) (u : Fin 4) (old o : Nat) : (b.sendChanged u old).rd o = b.rd o := by
  unfold Block.sendChanged
  split
  · exact Block.sendPower_rd b u o
  · rfl

theorem Block.sendChanged_servo (b : Block) (u : Fin 4) (old : Nat) : (b.sendChanged u old).servo = b.servo := by
  unfold Block.sendChanged
  split
  · exact (frame_sendPower (l₀ := [.se, .out]) .refl u (List.Subset.refl _)).same .servo (by decide)
  · rfl

theorem Block.portMode_fld (b : Block) (u : Fin 4) (latch : Bool) (mode : Nat) {g : Fld}
    (hg : (SEs_LSAFE_MODE u).apart g = true) : (b.portMode u latch mode).fld g = b.fld g := by
  refine (Block.fld_of_rd (Block.sendChanged_rd _ u _ _)).trans ?_
  split
  · rfl
  · exact Block.fld_setFld_apart _ _ _ hg _

/-- Read mode is written whatever the latch holds. -/
theorem Block.portMode_read (b : Block) (u : Fin 4) (latch : Bool) :
    (b.portMode u latch 1).fld (SEs_LSAFE_MODE u) = 1 := by
  refine (Block.fld_of_rd (Block.sendChanged_rd _ u _ _)).trans ?_
  rw [if_neg (by simp)]
  exact Block.fld_setFld_same _ _ rfl 1

theorem Block.portGates_fld (b : Block) (u : Fin 4) (latch : Bool) (wgate lden : Nat) {g : Fld}
    (hw : (SEs_LSAFE_WGATE u).apart g = true) (hd : (SEs_LSAFE_LDEN u).apart g = true) :
    (b.portGates u latch wgate lden).fld g = b.fld g := by
  unfold Block.portGates
  rw [Block.applyHolds_fld _ u hw hd, Block.fld_setFld_apart _ _ _ hd]
  split
  · rfl
  · exact Block.fld_setFld_apart _ _ _ hw _

theorem Block.portGates_shut (b : Block) (u : Fin 4) (latch : Bool) (lden : Nat) :
    (b.portGates u latch 0 lden).fld (SEs_LSAFE_WGATE u) = 0 := by
  refine Block.applyHolds_wgate ?_
  rw [Block.fld_setFld_apart _ _ _ (apart_of_bits (.inl (by simp [SEs_LSAFE_LDEN, SEs_LSAFE_WGATE])))]
  exact Block.fld_setFld_same _ _ rfl 0

/-- MODE, WGATE and LDEN are written below SAFE and HLATCH. -/
theorem Block.lsafePort_high (b : Block) (u : Fin 4) (v : Nat) {g : Fld} (hg : 3 < g.lo) :
    (b.lsafePort u v).fld g = (b.portSafe u (v / 16 % 2)).fld g := by
  have hlow {f : Fld} (hf : f.hi ≤ 3) : f.apart g = true := apart_of_bits (.inl (by omega))
  rw [Block.lsafePort_eq,
    Block.portGates_fld _ _ _ _ _ (hlow (by simp [SEs_LSAFE_WGATE])) (hlow (by simp [SEs_LSAFE_LDEN])),
    Block.portMode_fld _ _ _ _ (hlow (by simp [SEs_LSAFE_MODE]))]

/-- The word of the port (R190): SAFE with read mode in safe hold, else the mode asked for. -/
def portWord (safe wgate : Bool) (ls : Nat) : Nat :=
  (if safe then 16 else 0) + 4 * (if safe then 1 else ls / 4 % 4) + 2 * wgate.toNat + ls % 2

theorem portWord_safe (wgate : Bool) (ls : Nat) :
    portWord true wgate ls / 16 % 2 = 1 ∧ portWord true wgate ls / 4 % 4 = 1 := by
  cases wgate <;> simp only [portWord, if_true, Bool.toNat_true, Bool.toNat_false] <;> omega

theorem portWord_free (wgate : Bool) (ls : Nat) : portWord false wgate ls / 16 % 2 = 0 := by
  cases wgate <;> simp only [portWord, Bool.false_eq_true, if_false, Bool.toNat_true, Bool.toNat_false] <;> omega

theorem portWord_shut (safe : Bool) (ls : Nat) : portWord safe false ls / 2 % 2 = 0 := by
  cases safe <;> simp only [portWord, Bool.false_eq_true, if_true, if_false, Bool.toNat_false] <;> omega

/-- A port write of SAFE = 1 with the gate off (R190). -/
theorem Block.lsafePort_holds (b : Block) (u : Fin 4) (ls : Nat) :
    (b.lsafePort u (portWord true false ls)).fld (SEs_LSAFE_SAFE u) = 1 ∧
      (b.lsafePort u (portWord true false ls)).fld (SEs_LSAFE_MODE u) = 1 ∧
      (b.lsafePort u (portWord true false ls)).fld (SEs_LSAFE_WGATE u) = 0 := by
  obtain ⟨hsafe, hmode⟩ := portWord_safe false ls
  refine ⟨?_, ?_, ?_⟩
  · rw [Block.lsafePort_high _ _ _ (by simp [SEs_LSAFE_SAFE]), hsafe]
    exact b.safeState_safe u
  · rw [Block.lsafePort_eq, hmode,
      Block.portGates_fld _ _ _ _ _ (apart_of_bits (.inl (by simp [SEs_LSAFE_WGATE, SEs_LSAFE_MODE])))
        (apart_of_bits (.inl (by simp [SEs_LSAFE_LDEN, SEs_LSAFE_MODE]))), Block.portMode_read]
  · rw [Block.lsafePort_eq, portWord_shut]
    exact Block.portGates_shut ..

theorem Block.portMode_servo (b : Block) (u : Fin 4) (latch : Bool) (mode : Nat) :
    (b.portMode u latch mode).servo = b.servo := by
  unfold Block.portMode
  rw [Block.sendChanged_servo]
  split <;> rfl

theorem Block.portGates_servo (b : Block) (u : Fin 4) (latch : Bool) (wgate lden : Nat) :
    (b.portGates u latch wgate lden).servo = b.servo := by
  unfold Block.portGates
  rw [(frame_applyHolds (l₀ := [.regs]) .refl u (List.Subset.refl _)).same .servo (by decide), Block.setFld_servo]
  split <;> rfl

theorem Block.lsafePort_servo (b : Block) (u : Fin 4) (v : Nat) :
    (b.lsafePort u v).servo = (b.portSafe u (v / 16 % 2)).servo := by
  rw [Block.lsafePort_eq, Block.portGates_servo, Block.portMode_servo]

theorem Block.lsafePort_unavail {b : Block} {u : Fin 4} (h : b.fld (SEs_LSAFE_SAFE u) = 0) (wgate : Bool) (ls : Nat) :
    (vget (b.lsafePort u (portWord true wgate ls)).servo u).unavail = true := by
  rw [Block.lsafePort_servo, (portWord_safe wgate ls).1]
  exact Block.safeState_unavail h

/-- A port write of SAFE = 0 with the latch released (R519). -/
theorem Block.lsafePort_frees {b : Block} {u : Fin 4} (h : b.fld (SEs_LSAFE_HLATCH u) = 0) (wgate : Bool) (ls : Nat) :
    (b.lsafePort u (portWord false wgate ls)).fld (SEs_LSAFE_SAFE u) = 0 ∧
      (b.lsafePort u (portWord false wgate ls)).fld (SEs_LSAFE_HLATCH u) = 0 := by
  have hsafe : b.portSafe u 0 = b.setFld (SEs_LSAFE_SAFE u) 0 :=
    (if_neg Nat.zero_ne_one).trans (if_neg (by simp [Block.on_eq, h]))
  rw [Block.lsafePort_high _ _ _ (by simp [SEs_LSAFE_SAFE]), Block.lsafePort_high _ _ _ (by simp [SEs_LSAFE_HLATCH]),
    portWord_free, hsafe]
  exact ⟨Block.fld_setFld_same _ _ rfl 0,
    (Block.fld_setFld_apart _ _ _ (apart_of_bits (.inl (by simp [SEs_LSAFE_SAFE, SEs_LSAFE_HLATCH]))) 0).trans h⟩

end Sys2Proof.Machine

/-!
PROOFS. The status word LE_PSW_s, the exchange words, and a commit of the tracking program (07_servo_programs.md R183,
R185, R186, R190).
-/

namespace Sys2Proof.Machine

/-! ### Exchange words (R166, R183) -/

/-- A commit of an exchange word. -/
theorem Block.commitData_exWord (b : Block) (u : Fin 4) {w : Nat} (hw : w < 0x20) (v : Word) :
    b.commitData (exWord u w) v =
      b.modLe fun l => { l with exNew := l.exNew.filter (fun e => e.1 ≠ exWord u w) ++ [(exWord u w, v)] } := by
  have ha : exWord u w < 0x200 := by simp only [exWord]; omega
  have hm : exWord u w % 8192 = exWord u w := Nat.mod_eq_of_lt (by omega)
  simp only [Block.commitData, hm, if_pos ha]

theorem Block.commitData_exWord_frame (b : Block) (u : Fin 4) {w : Nat} (hw : w < 0x20) (v : Word) :
    Frame [.le] b (b.commitData (exWord u w) v) := by
  rw [Block.commitData_exWord b u hw]
  exact frame_modLe .refl _ (List.Subset.refl _)

theorem Block.CommitWork.commitData {u : Fin 4} {l : List Nat} {a b : Block} (h : Block.CommitWork u l a b) {w : Nat}
    (hw : w < 0x20) (h11 : w ≠ 11) (v : Word) : Block.CommitWork u l a (b.commitData (exWord u w) v) := by
  rw [Block.commitData_exWord b u hw]
  refine { h with regs := h.regs.same, saReq := fun v hv => ?_ }
  have hne : exWord u 11 ≠ exWord u w := by simp only [exWord]; omega
  exact List.mem_append_left _ (List.mem_filter.2 ⟨h.saReq v hv, by simp [hne]⟩)

theorem Block.mem_commitData (b : Block) (u : Fin 4) {w : Nat} (hw : w < 0x20) (v : Word) :
    (exWord u w, v) ∈ (b.commitData (exWord u w) v).le.exNew := by
  rw [Block.commitData_exWord b u hw]
  exact List.mem_append_right _ List.mem_cons_self

theorem Block.publish_frame (b : Block) (u : Fin 4) : Frame [.le] b (b.publish u) :=
  have h1 := b.commitData_exWord_frame u (w := 6) (by decide)
  have h2 := fun c : Block => c.commitData_exWord_frame u (w := 7) (by decide)
  have h3 := fun c : Block => c.commitData_exWord_frame u (w := 8) (by decide)
  ((h1 _).step (List.Subset.refl _) (h2 _ _)).step (List.Subset.refl _) (h3 _ _)

@[simp] theorem Block.publish_regs (b : Block) (u : Fin 4) : (b.publish u).regs = b.regs :=
  (b.publish_frame u).same .regs (by decide)

@[simp] theorem Block.publish_part (b : Block) (u : Fin 4) : (b.publish u).part = b.part :=
  (b.publish_frame u).same .part (by decide)

@[simp] theorem Block.publish_servo (b : Block) (u : Fin 4) : (b.publish u).servo = b.servo :=
  (b.publish_frame u).same .servo (by decide)

@[simp] theorem Block.publish_fld (b : Block) (u : Fin 4) (g : Fld) : (b.publish u).fld g = b.fld g :=
  Block.fld_of_rd (Block.rd_congr (b.publish_part u) (b.publish_regs u) _)

theorem Block.CommitWork.publish {u : Fin 4} {l : List Nat} {a b : Block} (h : Block.CommitWork u l a b) :
    Block.CommitWork u l a (b.publish u) :=
  ((h.commitData (by decide) (by decide) _).commitData (by decide) (by decide) _).commitData (by decide) (by decide) _

/-! ### The status word (R185, R186) -/

/-- The registers that a change of the status word writes: the word, and the counters of its events. -/
def pswRegs (s : Nat) : List Nat := [LE_PSW_k s, SFs_CNT_EVT s]

theorem irqReg_psw (u : Fin 4) : irqReg (LE_PSW_k u) = false := irqReg_of_ge (by simp only [LE_PSW_k]; omega)

theorem Block.regsOnly.psw {l : List Nat} {b c : Block} {u : Fin 4} (h : Block.regsOnly l b c) (hl : LE_PSW_k u ∉ l)
    (i : Nat) : c.psw u i = b.psw u i :=
  congrArg (Nat.testBit · i) (h.fld (g := LE_PSW_k_FLAGS u) hl (irqReg_psw u))

/-- The event of source `n` is counted in `f` and posted, where `c` holds. -/
def Block.postIf (b : Block) (c : Bool) (f : Fld) (n : Nat) : Block := if c then (b.bump f 1).postClose n else b

/-- The flag falls. -/
def falls (old new : Nat) (i : Nat) : Bool := old.testBit i && !new.testBit i

/-- The events of R186 that a change of the status word raises, their counters and sources. -/
def pswEvents (s : Fin 4) (old new : Nat) : List (Bool × Fld × Nat) :=
  [(falls old new 0 && !new.testBit 5 && !new.testBit 4, SFs_CNT_EVT_FDROP s, 1024 + 40 * s.val + 16),
    (falls old new 1 && !new.testBit 5, SFs_CNT_EVT_OFFTRK s, 1024 + 40 * s.val + 17),
    (falls old new 2 && !new.testBit 5, SFs_CNT_EVT_ALOST s, 1024 + 40 * s.val + 18),
    (!old.testBit 7 && new.testBit 7, SFs_CNT_EVT_FAIL s, 1024 + 40 * s.val + 19)]

theorem pswEvents_reg {s : Fin 4} {old new : Nat} {e : Bool × Fld × Nat} (h : e ∈ pswEvents s old new) :
    e.2.1.reg ∈ [SFs_CNT_EVT s] := by
  simp only [pswEvents, List.mem_cons, List.not_mem_nil, or_false] at h
  rcases h with rfl | rfl | rfl | rfl <;> exact List.mem_cons_self

/-- The events are counted and posted in turn. -/
def Block.postEvents (b : Block) (l : List (Bool × Fld × Nat)) : Block :=
  l.foldl (fun b e => b.postIf e.1 e.2.1 e.2.2) b

theorem Block.setPsw_eq (b : Block) (s : Fin 4) (new : Nat) : b.setPsw s new =
    let c := (b.setFld (LE_PSW_k_FLAGS s) new).postEvents (pswEvents s (b.fld (LE_PSW_k_FLAGS s)) new)
    if falls (b.fld (LE_PSW_k_FLAGS s)) new 6 then c.postClose (1024 + 40 * s.val + 20) else c := rfl

theorem Block.CommitWork.postIf {u : Fin 4} {l : List Nat} {a b : Block} (h : Block.CommitWork u l a b) (c : Bool) {f : Fld}
    (hf : f.reg ∈ l) (n : Nat) : Block.CommitWork u l a (b.postIf c f n) :=
  ((h.setFld hf _).postClose n).ite h

theorem Block.CommitWork.postEvents {u : Fin 4} {l : List Nat} {a b : Block} (h : Block.CommitWork u l a b)
    (es : List (Bool × Fld × Nat)) (hes : ∀ e ∈ es, e.2.1.reg ∈ l) : Block.CommitWork u l a (b.postEvents es) :=
  List.foldlRecOn (motive := Block.CommitWork u l a) es _ h fun _ hc e he => hc.postIf e.1 (hes e he) e.2.2

/-- An event whose condition holds is due at the close. -/
theorem Block.postEvents_post (b : Block) {es : List (Bool × Fld × Nat)} {e : Bool × Fld × Nat} (he : e ∈ es)
    (hc : e.1 = true) : e.2.2 ∈ (b.postEvents es).le.post := by
  refine foldl_brings (P := fun c : Block => e.2.2 ∈ c.le.post) (fun c => ?_) (fun c y hn => ?_) he b
  · unfold Block.postIf
    rw [if_pos hc]
    exact List.mem_append_right _ List.mem_cons_self
  · unfold Block.postIf
    split
    · exact List.mem_append_left _ hn
    · exact hn

/-- Past the word itself, a change of it writes the counters of its events. -/
theorem Block.setPsw_events (b : Block) (u : Fin 4) (new : Nat) :
    Block.CommitWork u [SFs_CNT_EVT u] (b.setFld (LE_PSW_k_FLAGS u) new) (b.setPsw u new) := by
  have h := Block.CommitWork.refl.postEvents (u := u) (b := b.setFld (LE_PSW_k_FLAGS u) new)
    (pswEvents u (b.fld (LE_PSW_k_FLAGS u)) new) fun _ => pswEvents_reg
  rw [Block.setPsw_eq]
  exact (h.postClose _).ite h

theorem Block.setPsw_work (b : Block) (u : Fin 4) (new : Nat) : Block.CommitWork u (pswRegs u) b (b.setPsw u new) :=
  (Block.CommitWork.refl.setFld (f := LE_PSW_k_FLAGS u) List.mem_cons_self new).trans
    ((b.setPsw_events u new).mono (List.subset_cons_self _ _))

@[simp] theorem Block.setPsw_servo (b : Block) (u : Fin 4) (new : Nat) : (b.setPsw u new).servo = b.servo :=
  (frame_setPsw (l₀ := [.regs, .le]) .refl u new (List.Subset.refl _)).same .servo (by decide)

theorem Block.psw_setPsw (b : Block) (u : Fin 4) (new : Nat) {i : Nat} (hi : i < 8) :
    (b.setPsw u new).psw u i = new.testBit i := by
  have hne : LE_PSW_k u ∉ [SFs_CNT_EVT u] := by
    simp only [LE_PSW_k, SFs_CNT_EVT, List.mem_cons, List.not_mem_nil, or_false]
    omega
  rw [(b.setPsw_events u new).regs.psw hne, Block.psw, Block.onBit, Block.fld_setFld_same _ _ rfl]
  exact (Nat.testBit_mod_two_pow ..).trans (by simp [LE_PSW_k_FLAGS, hi])

theorem Block.pswWith_testBit (b : Block) (u : Fin 4) (set clr i : Nat) :
    (b.pswWith u set clr).testBit i = (b.psw u i && Nat.testBit (255 - clr) i || set.testBit i) := by
  rw [Block.pswWith, Nat.testBit_or, Nat.testBit_and]
  rfl

section flags

variable (b : Block) (u : Fin 4) (set clr : Nat) {i : Nat}

theorem Block.pswWith_sets (h : set.testBit i = true := by decide) : (b.pswWith u set clr).testBit i = true := by
  rw [Block.pswWith_testBit, h, Bool.or_true]

theorem Block.pswWith_clears (hc : Nat.testBit (255 - clr) i = false := by decide)
    (hs : set.testBit i = false := by decide) : (b.pswWith u set clr).testBit i = false := by
  rw [Block.pswWith_testBit, hc, hs, Bool.and_false, Bool.or_false]

theorem Block.pswWith_keeps (hc : Nat.testBit (255 - clr) i = true := by decide)
    (hs : set.testBit i = false := by decide) : (b.pswWith u set clr).testBit i = b.psw u i := by
  rw [Block.pswWith_testBit, hc, hs, Bool.and_true, Bool.or_false]

end flags

/-- The events of a change of the status word are due at the close. -/
theorem Block.setPsw_post (b : Block) (u : Fin 4) (new : Nat) {e : Bool × Fld × Nat}
    (he : e ∈ pswEvents u (b.fld (LE_PSW_k_FLAGS u)) new) (hc : e.1 = true) : e.2.2 ∈ (b.setPsw u new).le.post := by
  have h := (b.setFld (LE_PSW_k_FLAGS u) new).postEvents_post he hc
  rw [Block.setPsw_eq]
  dsimp only
  split
  · exact List.mem_append_left _ h
  · exact h

theorem Block.falls_eq (b : Block) (u : Fin 4) (new i : Nat) :
    falls (b.fld (LE_PSW_k_FLAGS u)) new i = (b.psw u i && !new.testBit i) := rfl

section events

variable {b : Block} {u : Fin 4} {new : Nat}

/-- A focus drop posts offset 16 (R186). -/
theorem Block.setPsw_focusDrop (h : b.psw u 0 = true) (hn : new.testBit 0 = false) (h4 : new.testBit 4 = false)
    (h5 : new.testBit 5 = false) : 1024 + 40 * u.val + 16 ∈ (b.setPsw u new).le.post :=
  b.setPsw_post u new List.mem_cons_self (by rw [Block.falls_eq, h, hn, h4, h5]; rfl)

/-- An off-track posts offset 17 (R186). -/
theorem Block.setPsw_offTrack (h : b.psw u 1 = true) (hn : new.testBit 1 = false) (h5 : new.testBit 5 = false) :
    1024 + 40 * u.val + 17 ∈ (b.setPsw u new).le.post :=
  b.setPsw_post u new (List.mem_cons_of_mem _ List.mem_cons_self) (by rw [Block.falls_eq, h, hn, h5]; rfl)

/-- A rise of FAIL posts offset 19 (R186). -/
theorem Block.setPsw_fail (h : b.psw u 7 = false) (hn : new.testBit 7 = true) :
    1024 + 40 * u.val + 19 ∈ (b.setPsw u new).le.post := by
  have hold : (b.fld (LE_PSW_k_FLAGS u)).testBit 7 = false := h
  exact b.setPsw_post u new
    (List.mem_cons_of_mem _ (List.mem_cons_of_mem _ (List.mem_cons_of_mem _ List.mem_cons_self))) (by rw [hold, hn]; rfl)

end events

/-! ### A commit of the tracking program (R190, R193) -/

/-- WPERM as a commit composes it, `ok` telling that FOK, TOK and AOK are 1 (R193). -/
def Block.permits (b : Block) (s : Fin 4) (ok : Bool) (v : Servo) : Bool :=
  ok && !b.psw s 5 && !b.psw s 6 && v.known && v.age ≤ (b.dmem (0x280 + 0x20 * s.val + 25)).toNat

/-- SAFEH and the latch cleared by a RELEASE (R190, R519). -/
def Block.safehCleared (b : Block) (s : Fin 4) : Block :=
  ((b.setPsw s (b.pswWith s 0 64)).setFld (SEs_LSAFE_HLATCH s) 0).modServo s fun v => { v with release := false }

/-- WPERM is written to the status word. -/
def Block.wpermSet (b : Block) (s : Fin 4) (perm : Bool) : Block :=
  b.setPsw s (if perm then b.pswWith s 8 0 else b.pswWith s 0 8)

/-- The LSAFE port as a commit composes it, WGATE as given. -/
def Block.portComposed (b : Block) (s : Fin 4) (wg : Bool) : Block :=
  b.lsafePort s (portWord (b.psw s 6) wg (b.dmem (exWord s 1)).toNat)

/-- The surface goes back to placement where it may write (R42, R105, R112, R223). -/
def Block.givenBack (b : Block) (s : Fin 4) (perm : Bool) : Block :=
  if perm && !b.on (SEs_LSAFE_SAFE s) && b.on (SEs_STAT_LINK_UP s) && b.on (SEs_STAT_ID_VALID s) &&
    (b.failedBeams s).length < 3 && !(vget b.cal.surf s).barred then b.surfUp s else b

/-- A commit past the clearing of SAFEH. -/
def Block.composed (b : Block) (s : Fin 4) (perm : Bool) : Block :=
  let c := b.wpermSet s perm
  let wg := (c.dmem (exWord s 1)).toNat.testBit 1 && perm
  (((c.portComposed s wg).givenBack s perm).modServo s fun v => { v with lastWgate := wg }).publish s

/-- FOK, TOK and AOK are 1. -/
def Block.onGroove (b : Block) (s : Fin 4) : Bool := b.psw s 0 && b.psw s 1 && b.psw s 2

theorem Block.trackCommit_eq (b : Block) (s : Fin 4) : b.trackCommit s =
    let clears := b.psw s 6 && (vget b.servo s).release && b.onGroove s
    let c := if clears then b.safehCleared s else b
    let d := c.composed s (c.permits s (b.onGroove s) (vget b.servo s))
    if clears && d.curOp s 5 then d.cmdDone s else d := rfl

/-- A commit at which SAFEH does not clear. -/
theorem Block.trackCommit_keeps {b : Block} {s : Fin 4}
    (h : (b.psw s 6 && (vget b.servo s).release && b.onGroove s) = false) :
    b.trackCommit s = b.composed s (b.permits s (b.onGroove s) (vget b.servo s)) := by
  rw [Block.trackCommit_eq]
  simp only [h, Bool.false_and, Bool.false_eq_true, if_false]

theorem Block.trackCommit_no_release {b : Block} {s : Fin 4} (h : (vget b.servo s).release = false) :
    b.trackCommit s = b.composed s (b.permits s (b.onGroove s) (vget b.servo s)) :=
  Block.trackCommit_keeps (by rw [h, Bool.and_false, Bool.false_and])

/-- The registers that a commit may write. -/
def commitRegs (s : Nat) : List Nat := pswRegs s ++ shutRegs s

theorem psw_not_mem_shutRegs (u : Fin 4) : LE_PSW_k u ∉ shutRegs u := by
  simp only [shutRegs, List.mem_cons, mem_passRegs, LE_PSW_k, SEs_LSAFE, WP_STAT, WP_BFAIL_LO, WP_BFAIL_HI, WP_CNT_CELLS,
    WP_CNT_VFAIL, WP_CNT_VOID, SEs_BGATE, WP_Ss_WSEQ, WP_Ss_VSEQ, CAL_STAT, CAL_CNT, CAL_Ss_WP]
  omega

theorem Block.wpermSet_work (b : Block) (u : Fin 4) (perm : Bool) :
    Block.CommitWork u (pswRegs u) b (b.wpermSet u perm) := b.setPsw_work u _

theorem Block.wpermSet_psw (b : Block) (u : Fin 4) (perm : Bool) {i : Nat} (hi : i < 8) (h3 : i ≠ 3) :
    (b.wpermSet u perm).psw u i = b.psw u i := by
  have hbits : ∀ i < 8, i ≠ 3 → Nat.testBit 255 i = true ∧ Nat.testBit 247 i = true ∧ Nat.testBit 8 i = false := by
    decide
  obtain ⟨h255, h247, h8⟩ := hbits i hi h3
  refine (b.psw_setPsw u _ hi).trans ?_
  split
  · exact b.pswWith_keeps u 8 0 h255 h8
  · exact b.pswWith_keeps u 0 8 h247 (Nat.zero_testBit i)

/-- Without WPERM a commit clears it. -/
theorem Block.wpermSet_false (b : Block) (u : Fin 4) : (b.wpermSet u false).psw u 3 = false :=
  (b.psw_setPsw u _ (by decide)).trans (b.pswWith_clears u 0 8)

theorem Block.composed_eq (b : Block) (s : Fin 4) (perm : Bool) : ∃ wg, (perm = false → wg = false) ∧ b.composed s perm =
    ((((b.wpermSet s perm).portComposed s wg).givenBack s perm).modServo s fun v => { v with lastWgate := wg }).publish s :=
  ⟨((b.wpermSet s perm).dmem (exWord s 1)).toNat.testBit 1 && perm, fun h => by rw [h, Bool.and_false], rfl⟩

/-- Past the status word, a commit writes what the LSAFE port writes. -/
theorem Block.composed_port (b : Block) (u : Fin 4) (perm : Bool) :
    Block.CommitWork u (shutRegs u) (b.wpermSet u perm) (b.composed u perm) := by
  obtain ⟨wg, _, heq⟩ := b.composed_eq u perm
  rw [heq]
  have hport : Block.CommitWork u (shutRegs u) (b.wpermSet u perm) ((b.wpermSet u perm).portComposed u wg) :=
    Block.lsafePort_work _ u _
  exact ((hport.surfUp.ite hport).modServo (f := fun v => { v with lastWgate := wg })).publish

theorem Block.composed_work (b : Block) (u : Fin 4) (perm : Bool) :
    Block.CommitWork u (commitRegs u) b (b.composed u perm) :=
  ((b.wpermSet_work u perm).mono (List.subset_append_left _ _)).trans
    ((b.composed_port u perm).mono (List.subset_append_right _ _))

theorem Block.composed_psw (b : Block) (u : Fin 4) (perm : Bool) {i : Nat} (hi : i < 8) (h3 : i ≠ 3) :
    (b.composed u perm).psw u i = b.psw u i :=
  ((b.composed_port u perm).regs.psw (psw_not_mem_shutRegs u) i).trans (b.wpermSet_psw u perm hi h3)

theorem Block.composed_wperm (b : Block) (u : Fin 4) : (b.composed u false).psw u 3 = false :=
  ((b.composed_port u false).regs.psw (psw_not_mem_shutRegs u) 3).trans (b.wpermSet_false u)

/-- Giving the surface back writes no register. -/
theorem Block.givenBack_rd (b : Block) (u : Fin 4) (perm : Bool) (o : Nat) : (b.givenBack u perm).rd o = b.rd o := by
  unfold Block.givenBack
  split
  · have h : Frame [.servo, .hq] b (b.surfUp u) := frame_surfUp .refl u (List.Subset.refl _)
    exact Block.rd_congr (h.same .part (by decide)) (h.same .regs (by decide)) o
  · rfl

/-- The gates after a commit are as its port write leaves them. -/
theorem Block.composed_fld (b : Block) (u : Fin 4) (perm : Bool) : ∃ wg, (perm = false → wg = false) ∧
    ∀ g, (b.composed u perm).fld g = ((b.wpermSet u perm).portComposed u wg).fld g := by
  obtain ⟨wg, hwg, heq⟩ := b.composed_eq u perm
  refine ⟨wg, hwg, fun g => ?_⟩
  rw [heq, Block.publish_fld]
  exact Block.fld_of_rd (Block.givenBack_rd ..)

theorem lsafe_not_mem_pswRegs (u : Fin 4) : SEs_LSAFE u ∉ pswRegs u := by
  simp only [pswRegs, List.mem_cons, List.not_mem_nil, or_false, SEs_LSAFE, LE_PSW_k, SFs_CNT_EVT]
  omega

theorem Block.wpermSet_lsafe (b : Block) (u : Fin 4) (perm : Bool) {g : Fld} (hg : g.reg = SEs_LSAFE u) :
    (b.wpermSet u perm).fld g = b.fld g :=
  (b.wpermSet_work u perm).regs.fld (hg ▸ lsafe_not_mem_pswRegs u) (hg ▸ irqReg_lsafe u)

/-- A commit in safe hold (R190): SAFE, read power, the gate off. -/
theorem Block.composed_holds {b : Block} {u : Fin 4} (h : b.psw u 6 = true) :
    (b.composed u false).fld (SEs_LSAFE_SAFE u) = 1 ∧ (b.composed u false).fld (SEs_LSAFE_MODE u) = 1 ∧
      (b.composed u false).fld (SEs_LSAFE_WGATE u) = 0 := by
  obtain ⟨wg, hwg, hfld⟩ := b.composed_fld u false
  have hsafeh : (b.wpermSet u false).psw u 6 = true := (b.wpermSet_psw u false (by decide) (by decide)).trans h
  rw [hfld, hfld, hfld, hwg rfl, Block.portComposed, hsafeh]
  exact Block.lsafePort_holds ..

/-- A commit that starts the safe state makes the surface unavailable to placement (R42). -/
theorem Block.composed_unavail {b : Block} {u : Fin 4} (h : b.psw u 6 = true) (h0 : b.fld (SEs_LSAFE_SAFE u) = 0) :
    (vget (b.composed u false).servo u).unavail = true := by
  obtain ⟨wg, _, heq⟩ := b.composed_eq u false
  have hsafeh : (b.wpermSet u false).psw u 6 = true := (b.wpermSet_psw u false (by decide) (by decide)).trans h
  have hback (c : Block) : c.givenBack u false = c := if_neg (by simp)
  rw [heq, hback, Block.publish_servo, Block.vget_modServo_same, Block.portComposed, hsafeh]
  exact Block.lsafePort_unavail ((b.wpermSet_lsafe u false rfl).trans h0) ..

/-- A commit outside safe hold, the latch released (R190, R519). -/
theorem Block.composed_frees {b : Block} {u : Fin 4} (h : b.psw u 6 = false) (h0 : b.fld (SEs_LSAFE_HLATCH u) = 0)
    (perm : Bool) : (b.composed u perm).fld (SEs_LSAFE_SAFE u) = 0 ∧ (b.composed u perm).fld (SEs_LSAFE_HLATCH u) = 0 := by
  obtain ⟨wg, _, hfld⟩ := b.composed_fld u perm
  have hsafeh : (b.wpermSet u perm).psw u 6 = false := (b.wpermSet_psw u perm (by decide) (by decide)).trans h
  rw [hfld, hfld, Block.portComposed, hsafeh]
  exact Block.lsafePort_frees ((b.wpermSet_lsafe u perm rfl).trans h0) ..

/-! ### Safe hold (R187, R190) -/

/-- Safe hold begins: SAFEH is set, WPERM cleared, and a RELEASE taken before no longer counts. -/
def Block.safehSet (b : Block) (s : Fin 4) : Block :=
  (b.setPsw s (b.pswWith s 64 8)).modServo s fun v => { v with release := false }

theorem Block.safehSet_work (b : Block) (u : Fin 4) : Block.CommitWork u (pswRegs u) b (b.safehSet u) :=
  (b.setPsw_work u _).modServo (f := fun v => { v with release := false }) (hr := fun _ _ => rfl)

theorem Block.safehSet_safeh (b : Block) (u : Fin 4) : (b.safehSet u).psw u 6 = true :=
  (b.psw_setPsw u _ (by decide)).trans (b.pswWith_sets u 64 8)

theorem Block.safeHold_eq (b : Block) (s : Fin 4) : b.safeHold s = (b.safehSet s).composed s false := by
  have hperm (ok : Bool) (v : Servo) : (b.safehSet s).permits s ok v = false := by
    simp only [Block.permits, b.safehSet_safeh s, Bool.not_true, Bool.and_false, Bool.false_and]
  rw [Block.safeHold]
  exact (Block.trackCommit_no_release (congrArg Servo.release (Block.vget_modServo_same ..))).trans
    (congrArg (Block.composed _ s) (hperm _ _))

/-- What safe hold brings about: SAFEH, the safe state with read power and the gate off. -/
theorem Block.safeHold_holds (b : Block) (u : Fin 4) : (b.safeHold u).psw u 6 = true ∧ (b.safeHold u).psw u 3 = false ∧
    (b.safeHold u).fld (SEs_LSAFE_SAFE u) = 1 ∧ (b.safeHold u).fld (SEs_LSAFE_MODE u) = 1 ∧
    (b.safeHold u).fld (SEs_LSAFE_WGATE u) = 0 ∧
    (b.fld (SEs_LSAFE_SAFE u) = 0 → (vget (b.safeHold u).servo u).unavail = true) := by
  have hsafeh := b.safehSet_safeh u
  have hlsafe : (b.safehSet u).fld (SEs_LSAFE_SAFE u) = b.fld (SEs_LSAFE_SAFE u) :=
    (b.safehSet_work u).regs.fld (lsafe_not_mem_pswRegs u) (irqReg_lsafe u)
  rw [Block.safeHold_eq]
  obtain ⟨hsafe, hmode, hgate⟩ := Block.composed_holds hsafeh
  exact ⟨(Block.composed_psw _ u false (by decide) (by decide)).trans hsafeh, Block.composed_wperm _ u, hsafe, hmode, hgate,
    fun h0 => Block.composed_unavail hsafeh (hlsafe.trans h0)⟩

theorem Block.safeHold_work (b : Block) (u : Fin 4) : Block.CommitWork u (commitRegs u) b (b.safeHold u) := by
  rw [Block.safeHold_eq]
  exact ((b.safehSet_work u).mono (List.subset_append_left _ _)).trans (Block.composed_work _ u false)

/-- Safe hold leaves the flags of focus and tracking. -/
theorem Block.safeHold_psw (b : Block) (u : Fin 4) {i : Nat} (hi : i < 3) : (b.safeHold u).psw u i = b.psw u i := by
  have hbits : ∀ i < 3, Nat.testBit 247 i = true ∧ Nat.testBit 64 i = false := by decide
  obtain ⟨h247, h64⟩ := hbits i hi
  rw [Block.safeHold_eq, Block.composed_psw _ u false (by omega) (by omega)]
  exact (b.psw_setPsw u _ (by omega)).trans (b.pswWith_keeps u 64 8 h247 h64)

end Sys2Proof.Machine

/-!
PROOFS. Events of the servo programs (07_servo_programs.md R186, R188 to R190, R192, R194).
-/

namespace Sys2Proof.Machine

/-! ### Registers that a commit leaves alone -/

theorem dacOut_not_mem_commitRegs (u : Fin 4) {k : Nat} (hk : k < 3) : SFs_DAC_OUT_k u k ∉ commitRegs u := by
  simp only [commitRegs, pswRegs, shutRegs, List.mem_append, List.mem_cons, List.not_mem_nil, or_false, mem_passRegs,
    LE_PSW_k, SFs_CNT_EVT, SEs_LSAFE, SFs_DAC_OUT_k, WP_STAT, WP_BFAIL_LO, WP_BFAIL_HI, WP_CNT_CELLS, WP_CNT_VFAIL,
    WP_CNT_VOID, SEs_BGATE, WP_Ss_WSEQ, WP_Ss_VSEQ, CAL_STAT, CAL_CNT, CAL_Ss_WP]
  omega

theorem irqReg_dacOut (u : Fin 4) (k : Nat) : irqReg (SFs_DAC_OUT_k u k) = false :=
  irqReg_of_ge (by simp only [SFs_DAC_OUT_k]; omega)

theorem pswRegs_sub_commitRegs (u : Nat) : pswRegs u ⊆ commitRegs u := List.subset_append_left _ _

theorem dacOut_not_mem_pswRegs (u : Fin 4) {k : Nat} (hk : k < 3) : SFs_DAC_OUT_k u k ∉ pswRegs u :=
  fun h => dacOut_not_mem_commitRegs u hk (pswRegs_sub_commitRegs u h)

/-! ### Focus drop (R189, R190) -/

/-- Focus drops: FOK falls and focus goes to DROPHOLD. -/
def Block.dropped (b : Block) (s : Fin 4) : Block :=
  let b := b.modServo s fun v => { v with fmode := 4 }
  b.setPsw s (b.pswWith s 0 1)

theorem exec_focusDrop_closed {s : State} {u : Fin 4} (hs : s.part.hasSurf u = true) (h : (vget s.servo u).fmode = 2) :
    exec (.focusDrop u) s = s.upd fun b => (b.dropped u).safeHold u := by
  refine State.upd_congr (f := fun b => b.onSurf u _) ?_
  rw [Block.onSurf_present hs, if_neg (not_not.2 h)]
  rfl

theorem Block.dropped_work (b : Block) (u : Fin 4) :
    Block.CommitWork u (pswRegs u) (b.modServo u fun v => { v with fmode := 4 }) (b.dropped u) := Block.setPsw_work _ u _

theorem Block.dropped_fld (b : Block) (u : Fin 4) {g : Fld} (hg : g.reg ∉ pswRegs u) (hi : irqReg g.reg = false) :
    (b.dropped u).fld g = b.fld g := (b.dropped_work u).regs.fld hg hi

theorem Block.dropped_fok (b : Block) (u : Fin 4) : (b.dropped u).psw u 0 = false :=
  (Block.psw_setPsw _ u _ (by decide)).trans (Block.pswWith_clears _ u 0 1)

/-- The event of a focus drop that no search and no move explains (R186). -/
theorem Block.dropped_post {b : Block} {u : Fin 4} (h0 : b.psw u 0 = true) (h4 : b.psw u 4 = false)
    (h5 : b.psw u 5 = false) : 1024 + 40 * u.val + 16 ∈ (b.dropped u).le.post :=
  let c := b.modServo u fun v => { v with fmode := 4 }
  Block.setPsw_focusDrop (b := c) h0 (c.pswWith_clears u 0 1) ((c.pswWith_keeps u 0 1).trans h4)
    ((c.pswWith_keeps u 0 1).trans h5)

theorem does_focusDrop {s : State} {u : Fin 4} (hs : s.part.hasSurf u = true) (h : (vget s.servo u).fmode = 2) :
    Does (.focusDrop u) s fun t => (vget t.servo u).fmode = 4 ∧ t.psw u 0 = false ∧ t.psw u 6 = true ∧
      t.psw u 3 = false ∧ t.fld (SEs_LSAFE_SAFE u) = 1 ∧ t.fld (SEs_LSAFE_MODE u) = 1 ∧ t.fld (SEs_LSAFE_WGATE u) = 0 ∧
      t.fld (SFs_DAC_OUT_k_CODE u 0) = s.fld (SFs_DAC_OUT_k_CODE u 0) ∧
      (s.psw u 0 = true → s.psw u 4 = false → s.psw u 5 = false → 1024 + 40 * u.val + 16 ∈ t.le.post) ∧
      (s.fld (SEs_LSAFE_SAFE u) = 0 → (vget t.servo u).unavail = true) := by
  refine does_upd (exec_focusDrop_closed hs h) ?_
  obtain ⟨hsafeh, hwperm, hsafe, hmode, hgate, hunavail⟩ := (s.dropped u).safeHold_holds u
  have hhold := (s.dropped u).safeHold_work u
  have hwork := ((s.dropped_work u).mono (pswRegs_sub_commitRegs u)).trans hhold
  have hservo : vget (s.modServo u fun v => { v with fmode := 4 }).servo u = { vget s.servo u with fmode := 4 } :=
    Block.vget_modServo_same ..
  exact ⟨(congrArg Servo.fmode hwork.program).trans (congrArg Servo.fmode hservo),
    (Block.safeHold_psw _ u (by decide)).trans (s.dropped_fok u), hsafeh, hwperm, hsafe, hmode, hgate,
    hwork.regs.fld (g := SFs_DAC_OUT_k_CODE u 0) (dacOut_not_mem_commitRegs u (by decide)) (irqReg_dacOut u 0),
    fun h0 h4 h5 => hhold.post _ (Block.dropped_post h0 h4 h5),
    fun h0 => hunavail ((s.dropped_fld u (g := SEs_LSAFE_SAFE u) (lsafe_not_mem_pswRegs u) (irqReg_lsafe u)).trans h0)⟩

theorem exec_focusDrop_other {s : State} {u : Fin 4} (h : (vget s.servo u).fmode ≠ 2) :
    exec (.focusDrop u) s = .next s :=
  State.upd_same (f := fun b => b.onSurf u _) (Block.onSurf_same (if_pos h))

/-! ### A failed search (R184, R188) -/

/-- The search has failed: the DAC at 0, focus and tracking OFF, FAIL and ERR 4. -/
def Block.searchFailed (b : Block) (s : Fin 4) : Block :=
  let b := (b.setFld (SFs_DAC_OUT_k_CODE s 0) 0).modServo s fun v =>
    { v with fmode := 0, tmode := 0, err := 4, held := none, cur := none }
  (b.setPsw s (b.pswWith s 128 16)).publish s

theorem does_searchFail {s : State} {u : Fin 4} (hs : s.part.hasSurf u = true) (h : (vget s.servo u).fmode = 1) :
    Does (.searchFail u) s fun t => (vget t.servo u).fmode = 0 ∧ (vget t.servo u).err = 4 ∧ (vget t.servo u).held = none ∧
      t.psw u 7 = true ∧ t.psw u 4 = false ∧ t.fld (SFs_DAC_OUT_k_CODE u 0) = 0 ∧
      (s.psw u 7 = false → 1024 + 40 * u.val + 19 ∈ t.le.post) := by
  refine does_upd (f := fun b => b.searchFailed u) (State.upd_congr (f := fun b => b.onSurf u _) ?_) ?_
  · rw [Block.onSurf_present hs, if_neg (not_not.2 h)]
    rfl
  let a := s.setFld (SFs_DAC_OUT_k_CODE u 0) 0
  let b := a.modServo u fun v => { v with fmode := 0, tmode := 0, err := 4, held := none, cur := none }
  let c := b.setPsw u (b.pswWith u 128 16)
  have hdac : SFs_DAC_OUT_k u 0 ∉ pswRegs u := dacOut_not_mem_pswRegs u (by decide)
  have hpsw (i : Nat) : (c.publish u).psw u i = c.psw u i :=
    congrArg (Nat.testBit · i) (c.publish_fld u (LE_PSW_k_FLAGS u))
  have hservo : vget (c.publish u).servo u =
      { vget s.servo u with fmode := 0, tmode := 0, err := 4, held := none, cur := none } := by
    rw [Block.publish_servo, Block.setPsw_servo]
    exact Block.vget_modServo_same ..
  refine ⟨congrArg Servo.fmode hservo, congrArg Servo.err hservo, congrArg Servo.held hservo, ?_, ?_, ?_, fun h7 => ?_⟩
  · exact (hpsw 7).trans ((b.psw_setPsw u _ (by decide)).trans (b.pswWith_sets u 128 16))
  · exact (hpsw 4).trans ((b.psw_setPsw u _ (by decide)).trans (b.pswWith_clears u 128 16))
  · have hset := (b.setPsw_work u (b.pswWith u 128 16)).regs.fld (g := SFs_DAC_OUT_k_CODE u 0) hdac (irqReg_dacOut u 0)
    exact ((c.publish_fld u _).trans hset).trans (Block.fld_setFld_same s.toBlock (SFs_DAC_OUT_k_CODE u 0) rfl 0)
  · have hpsw : LE_PSW_k u ∉ [SFs_DAC_OUT_k u 0] := by
      simp only [List.mem_cons, List.not_mem_nil, or_false, LE_PSW_k, SFs_DAC_OUT_k]
      omega
    have hpsw7 : b.psw u 7 = false := by
      refine Eq.trans ?_ h7
      exact ((Block.regsOnly_refl [SFs_DAC_OUT_k u 0] s.toBlock).setFld (f := SFs_DAC_OUT_k_CODE u 0)
        List.mem_cons_self 0).psw hpsw 7
    exact (Block.CommitWork.refl (u := u) (l := [])).publish.post _
      (Block.setPsw_fail hpsw7 (b.pswWith_sets u 128 16))

/-! ### Off-track (R190, R192) -/

/-- Off-track: TOK and AOK fall, pull-in starts. -/
def Block.offGroove (b : Block) (s : Fin 4) : Block :=
  let b := b.modServo s fun v => { v with tmode := 2, agree := 0, disagree := 0 }
  b.setPsw s (b.pswWith s 0 (2 + 4))

theorem exec_offTrack_on {s : State} {u : Fin 4} (hs : s.part.hasSurf u = true) (h1 : s.psw u 1 = true)
    (h5 : s.psw u 5 = false) : exec (.offTrack u) s = s.upd fun b =>
      if (vget b.servo u).lastWgate then (b.offGroove u).safeHold u else (b.offGroove u).trackCommit u := by
  refine State.upd_congr (f := fun b => b.onSurf u _) ?_
  rw [Block.onSurf_present hs, if_neg (by rw [h1, h5]; decide)]
  rfl

theorem Block.offGroove_clears (b : Block) (u : Fin 4) :
    (b.offGroove u).psw u 1 = false ∧ (b.offGroove u).psw u 2 = false ∧ (b.offGroove u).psw u 6 = b.psw u 6 :=
  let c := b.modServo u fun v => { v with tmode := 2, agree := 0, disagree := 0 }
  ⟨(c.psw_setPsw u _ (by decide)).trans (c.pswWith_clears u 0 (2 + 4)),
    (c.psw_setPsw u _ (by decide)).trans (c.pswWith_clears u 0 (2 + 4)),
    (c.psw_setPsw u _ (by decide)).trans (c.pswWith_keeps u 0 (2 + 4))⟩

theorem Block.offGroove_post {b : Block} {u : Fin 4} (h1 : b.psw u 1 = true) (h5 : b.psw u 5 = false) :
    1024 + 40 * u.val + 17 ∈ (b.offGroove u).le.post :=
  let c := b.modServo u fun v => { v with tmode := 2, agree := 0, disagree := 0 }
  Block.setPsw_offTrack (b := c) h1 (c.pswWith_clears u 0 (2 + 4)) ((c.pswWith_keeps u 0 (2 + 4)).trans h5)

theorem Block.offGroove_tmode (b : Block) (u : Fin 4) : (vget (b.offGroove u).servo u).tmode = 2 := by
  rw [Block.offGroove, Block.setPsw_servo, Block.vget_modServo_same]

/-- A commit off the groove does not clear SAFEH. -/
theorem Block.offGroove_commit (b : Block) (u : Fin 4) :
    ∃ perm, (b.offGroove u).trackCommit u = (b.offGroove u).composed u perm := by
  have hok : (b.offGroove u).onGroove u = false := by
    rw [Block.onGroove, (b.offGroove_clears u).1, Bool.and_false, Bool.false_and]
  exact ⟨_, Block.trackCommit_keeps (by rw [hok, Bool.and_false])⟩

theorem does_offTrack {s : State} {u : Fin 4} (hs : s.part.hasSurf u = true) (h1 : s.psw u 1 = true)
    (h5 : s.psw u 5 = false) : Does (.offTrack u) s fun t => (vget t.servo u).tmode = 2 ∧ t.psw u 1 = false ∧
      t.psw u 2 = false ∧ 1024 + 40 * u.val + 17 ∈ t.le.post ∧
      ((vget s.servo u).lastWgate = true → t.psw u 6 = true ∧ t.fld (SEs_LSAFE_SAFE u) = 1) ∧
      ((vget s.servo u).lastWgate = false → t.psw u 6 = s.psw u 6) := by
  refine does_upd (exec_offTrack_on hs h1 h5) ?_
  obtain ⟨htok, haok, hsafeh⟩ := s.offGroove_clears u
  have hpost := Block.offGroove_post h1 h5
  have htmode := s.offGroove_tmode u
  cases hw : (vget s.servo u).lastWgate with
  | true =>
    obtain ⟨hhold, _, hsafe, _⟩ := (s.offGroove u).safeHold_holds u
    have hwork := (s.offGroove u).safeHold_work u
    rw [if_pos rfl]
    exact ⟨(congrArg Servo.tmode hwork.program).trans htmode, (Block.safeHold_psw _ u (by decide)).trans htok,
      (Block.safeHold_psw _ u (by decide)).trans haok, hwork.post _ hpost, fun _ => ⟨hhold, hsafe⟩, nofun⟩
  | false =>
    obtain ⟨perm, hcommit⟩ := s.offGroove_commit u
    have hwork := (s.offGroove u).composed_work u perm
    have hpsw {i : Nat} (hi : i < 8) (h3 : i ≠ 3) := (s.offGroove u).composed_psw u perm hi h3
    rw [if_neg Bool.false_ne_true, hcommit]
    exact ⟨(congrArg Servo.tmode hwork.program).trans htmode, (hpsw (by decide) (by decide)).trans htok,
      (hpsw (by decide) (by decide)).trans haok, hwork.post _ hpost, nofun,
      fun _ => (hpsw (by decide) (by decide)).trans hsafeh⟩

/-! ### Swath hold (R194) -/

/-- The pitches that a kick goes back at the hold angle (R194). -/
def Block.kickPitches (b : Block) (s : Fin 4) : Int :=
  (vget b.servo s).gidx + 1 - ((b.dmem (exWord s 2)).setWidth 14).toInt

/-- A hold angle passed with the tracking on. -/
def Block.holdKick (b : Block) (s : Fin 4) : Block :=
  if b.kickPitches s ≤ 0 then b
  else if 2 < b.kickPitches s then b.cmdReject s 5
  else (b.modServo s fun v => { v with gidx := v.gidx - b.kickPitches s }).publish s

theorem exec_swathHoldKick_on {s : State} {u : Fin 4} (hs : s.part.hasSurf u = true) (h : (vget s.servo u).tmode = 3) :
    exec (.swathHoldKick u) s = s.upd fun b => b.holdKick u := by
  refine State.upd_congr (f := fun b => b.onSurf u _) ?_
  rw [Block.onSurf_present hs, if_neg (not_not.2 h)]
  rfl

/-- A rejection sets FAIL and ERR, and does nothing else to the programs (R184). -/
theorem Block.cmdReject_servo (b : Block) (u : Fin 4) (err : Nat) :
    vget (b.cmdReject u err).servo u = { vget b.servo u with err := err } := by
  rw [Block.cmdReject, Block.publish_servo, Block.vget_modServo_same, Block.setPsw_servo]

theorem Block.cmdReject_fail (b : Block) (u : Fin 4) (err : Nat) : (b.cmdReject u err).psw u 7 = true := by
  refine (congrArg (Nat.testBit · 7) (Block.publish_fld _ u (LE_PSW_k_FLAGS u))).trans ?_
  exact (b.psw_setPsw u _ (by decide)).trans (b.pswWith_sets u 128 0)

theorem does_swathHoldKick {s : State} {u : Fin 4} (hs : s.part.hasSurf u = true) (h : (vget s.servo u).tmode = 3) :
    (s.kickPitches u ≤ 0 → exec (.swathHoldKick u) s = .next s) ∧
      (1 ≤ s.kickPitches u → s.kickPitches u ≤ 2 → Does (.swathHoldKick u) s fun t =>
        (vget t.servo u).gidx = (vget s.servo u).gidx - s.kickPitches u ∧ (vget t.servo u).tmode = 3 ∧
          t.regs = s.regs ∧ t.irq = s.irq) ∧
      (2 < s.kickPitches u → Does (.swathHoldKick u) s fun t => (vget t.servo u).gidx = (vget s.servo u).gidx ∧
        (vget t.servo u).err = 5 ∧ t.psw u 7 = true) := by
  have hexec := exec_swathHoldKick_on hs h
  refine ⟨fun h0 => ?_, fun h1 h2 => does_upd hexec ?_, fun h3 => does_upd hexec ?_⟩
  · exact hexec.trans (State.upd_same (if_pos h0))
  · rw [Block.holdKick, if_neg (by omega), if_neg (by omega)]
    have hservo := s.vget_modServo_same u fun v => { v with gidx := v.gidx - s.kickPitches u }
    refine ⟨?_, ?_, Block.publish_regs _ u, (Block.publish_frame _ u).same .irq (by decide)⟩ <;>
      rw [Block.publish_servo, hservo]
    exact h
  · rw [Block.holdKick, if_neg (by omega), if_pos h3, Block.cmdReject_servo]
    exact ⟨rfl, rfl, s.cmdReject_fail u 5⟩

/-! ### The coil driver (R186) -/

theorem does_coilDriverFault {s : State} {u : Fin 4} (hs : s.part.hasSurf u = true)
    (h : s.on (SFs_STAT_COIL_FLT u) = false) : Does (.coilDriverFault u) s fun t => t.fld (SFs_STAT_COIL_FLT u) = 1 ∧
      t.raised (1024 + 40 * u.val + 22) = true ∧ t.servo = s.servo ∧
      Block.regsOnly [SFs_STAT u] s.toBlock t.toBlock := by
  refine does_upd (f := fun b => (b.setFld (SFs_STAT_COIL_FLT u) 1).raiseSurf u 22)
    (State.upd_congr (f := fun b => b.onSurf u _) ?_) ?_
  · rw [Block.onSurf_present hs, if_neg (by rw [h]; exact Bool.false_ne_true)]
  · let b := s.setFld (SFs_STAT_COIL_FLT u) 1
    have hirq : irqReg (SFs_STAT u) = false := irqReg_of_ge (by simp only [SFs_STAT]; omega)
    have hflt : b.fld (SFs_STAT_COIL_FLT u) = 1 := Block.fld_setFld_same _ _ rfl 1
    have hregs : Block.regsOnly [SFs_STAT u] s.toBlock b :=
      (Block.regsOnly_refl _ _).setFld (f := SFs_STAT_COIL_FLT u) List.mem_cons_self 1
    exact ⟨(Block.raise_fld b _ (g := SFs_STAT_COIL_FLT u) hirq).trans hflt, Block.raiseSurf_raises (b := b) hs (by decide),
      (b.raise_frame _).same .servo (by decide), hregs.raiseSurf u 22⟩

/-- Settles O29: a lemma for each event. -/
theorem servoEvents : Obligations.ServoEvents := by
  unfold Obligations.ServoEvents
  intro s u hs
  exact ⟨does_focusDrop hs, exec_focusDrop_other, does_searchFail hs, does_offTrack hs, does_swathHoldKick hs,
    does_coilDriverFault hs⟩

end Sys2Proof.Machine

/-!
PROOFS. Servo commands (07_servo_programs.md R184, R188, R190, R197 to R199, R519): how a command is taken, how it is
reported done, and what each command does once it runs.
-/

namespace Sys2Proof.Machine

/-! ### Taking a command (R184) -/

/-- The command's word is in SCMD, and its SEQ is taken. -/
def Block.seqTaken (b : Block) (s : Fin 4) (op layer : Nat) (seq : BitVec 8) (arg : BitVec 16) : Block :=
  (b.commitData (exWord s 0) (scmdWord op layer seq arg)).modServo s fun v => { v with taken := seq.toNat, err := 0 }

/-- The command is not rejected: FAIL is cleared. -/
def Block.cmdAdmitted (b : Block) (s : Fin 4) (op layer : Nat) (seq : BitVec 8) (arg : BitVec 16) : Block :=
  let c := b.seqTaken s op layer seq arg
  c.setPsw s (c.pswWith s 0 128)

/-- The command is in progress. -/
def Block.begun (b : Block) (s : Fin 4) (op layer : Nat) (seq : BitVec 8) (arg : BitVec 16) : Block :=
  (b.cmdAdmitted s op layer seq arg).modServo s fun v => { v with cur := some (op, seq.toNat), release := false }

/-- The command waits until focus is closed. -/
def Block.heldBack (b : Block) (s : Fin 4) (op layer : Nat) (seq : BitVec 8) (arg : BitVec 16) : Block :=
  ((b.cmdAdmitted s op layer seq arg).modServo s fun v =>
    { v with held := some { seek := op = 4, layer := layer, arg := arg.toInt, seq := seq.toNat } }).publish s

section taking

variable (b : Block) (u : Fin 4) (op layer : Nat) (seq : BitVec 8) (arg : BitVec 16)

theorem Block.seqTaken_frame : Frame [.le, .servo] b (b.seqTaken u op layer seq arg) :=
  frame_modServo (Frame.refl.step (by decide) (b.commitData_exWord_frame u (w := 0) (by decide) _)) u _ (by decide)

theorem Block.seqTaken_rd (o : Nat) : (b.seqTaken u op layer seq arg).rd o = b.rd o :=
  Block.rd_congr ((b.seqTaken_frame u op layer seq arg).same .part (by decide))
    ((b.seqTaken_frame u op layer seq arg).same .regs (by decide)) o

theorem Block.seqTaken_servo : vget (b.seqTaken u op layer seq arg).servo u =
    { vget b.servo u with taken := seq.toNat, err := 0 } := by
  have hscmd := b.commitData_exWord_frame u (w := 0) (by decide) (scmdWord op layer seq arg)
  rw [Block.seqTaken, Block.vget_modServo_same, hscmd.same .servo (by decide)]

/-- SEQ does not decide whether a command is rejected. -/
theorem Block.seqTaken_cmdErr : (b.seqTaken u op layer seq arg).cmdErr u op layer arg = b.cmdErr u op layer arg := by
  simp only [Block.cmdErr, Block.seqTaken_servo]

theorem Block.cmdAdmitted_regs : Block.regsOnly (pswRegs u) b (b.cmdAdmitted u op layer seq arg) :=
  Block.regsOnly_trans (fun o _ _ => b.seqTaken_rd u op layer seq arg o) (Block.setPsw_work _ u _).regs

theorem Block.begun_servo : vget (b.begun u op layer seq arg).servo u =
    { vget b.servo u with taken := seq.toNat, err := 0, cur := some (op, seq.toNat), release := false } := by
  rw [Block.begun, Block.vget_modServo_same, Block.cmdAdmitted, Block.setPsw_servo, Block.seqTaken_servo]

theorem Block.heldBack_servo : vget (b.heldBack u op layer seq arg).servo u = { vget b.servo u with
    taken := seq.toNat, err := 0, held := some ⟨op = 4, layer, arg.toInt, seq.toNat⟩ } := by
  rw [Block.heldBack, Block.publish_servo, Block.vget_modServo_same, Block.cmdAdmitted, Block.setPsw_servo,
    Block.seqTaken_servo]

theorem Block.begun_psw {i : Nat} (hi : i < 7) : (b.begun u op layer seq arg).psw u i = b.psw u i := by
  have hbits : ∀ i < 7, Nat.testBit 127 i = true := by decide
  let c := b.seqTaken u op layer seq arg
  have hc : c.psw u i = b.psw u i :=
    congrArg (Nat.testBit · i) (Block.fld_of_rd (g := LE_PSW_k_FLAGS u) (b.seqTaken_rd u op layer seq arg _))
  exact ((c.psw_setPsw u _ (by omega)).trans (c.pswWith_keeps u 0 128 (hbits i hi) (Nat.zero_testBit i))).trans hc

theorem Block.begun_fail : (b.begun u op layer seq arg).psw u 7 = false :=
  (Block.psw_setPsw _ u _ (by decide)).trans (Block.pswWith_clears _ u 0 128)

end taking

/-- The three ends of a command with a new SEQ (R184). -/
theorem Block.takeCmd_eq {b : Block} {u : Fin 4} {seq : BitVec 8} (hs : b.part.hasSurf u = true)
    (hr : b.servoRuns u = true) (ht : (vget b.servo u).taken ≠ seq.toNat) (op layer : Nat) (arg : BitVec 16)
    (run : Block → Block) : b.takeCmd u op layer seq arg run =
      if b.cmdErr u op layer arg ≠ 0 then (b.seqTaken u op layer seq arg).cmdReject u (b.cmdErr u op layer arg)
      else if (op = 3 ∨ op = 4) ∧ ((vget b.servo u).fmode = 1 ∨ (vget b.servo u).fmode = 4) then
        b.heldBack u op layer seq arg
      else run (b.begun u op layer seq arg) := by
  have hnew : ¬ ((vget b.servo u).taken = seq.toNat ∨ (!b.servoRuns u) = true) := by simp [ht, hr]
  rw [← b.seqTaken_cmdErr u op layer seq arg]
  unfold Block.takeCmd
  rw [Block.onSurf_present hs, if_neg hnew]
  rfl

theorem Block.cmdErr_zero (b : Block) (u : Fin 4) {op layer : Nat} (arg : BitVec 16) (hop : op ≤ 5) (hl : layer ≤ 5)
    (h4 : op ≠ 4) (hf : op = 3 → (vget b.servo u).fmode ≠ 0) : b.cmdErr u op layer arg = 0 := by
  unfold Block.cmdErr
  rw [if_neg (by omega), if_neg (by omega), if_neg (by omega), if_neg (by omega)]

theorem Block.cmdErr_reserved (b : Block) (u : Fin 4) (k layer : Nat) (arg : BitVec 16) :
    b.cmdErr u (6 + k) layer arg = 1 := if_pos (by omega)

section does

variable {i : Instr} {s : State} {u : Fin 4} {op layer : Nat} {seq : BitVec 8} {arg : BitVec 16} {run : Block → Block}
  (hi : exec i s = s.upd fun b => b.takeCmd u op layer seq arg run) (hs : s.part.hasSurf u = true)
  (hr : s.servoRuns u = true) (ht : (vget s.servo u).taken ≠ seq.toNat)
include hi hs hr ht

/-- A rejected command sets FAIL and ERR and does nothing else. -/
theorem does_rejected (he : s.cmdErr u op layer arg ≠ 0) : Does i s fun t => (vget t.servo u).taken = seq.toNat ∧
    (vget t.servo u).err = s.cmdErr u op layer arg ∧ t.psw u 7 = true ∧
    (vget t.servo u).fmode = (vget s.servo u).fmode ∧ (vget t.servo u).gidx = (vget s.servo u).gidx ∧
    (vget t.servo u).done = (vget s.servo u).done ∧ t.out = s.out := by
  have heq : s.takeCmd u op layer seq arg run =
      (s.seqTaken u op layer seq arg).cmdReject u (s.cmdErr u op layer arg) :=
    (Block.takeCmd_eq hs hr ht ..).trans (if_pos he)
  have hframe : Frame [.regs, .le, .servo] (s.seqTaken u op layer seq arg)
      ((s.seqTaken u op layer seq arg).cmdReject u (s.cmdErr u op layer arg)) :=
    frame_cmdReject .refl u _ (List.Subset.refl _)
  refine does_upd hi ?_
  rw [heq, Block.cmdReject_servo, Block.seqTaken_servo]
  exact ⟨rfl, rfl, Block.cmdReject_fail .., rfl, rfl, rfl,
    (hframe.same .out (by decide)).trans ((s.seqTaken_frame u op layer seq arg).same .out (by decide))⟩

/-- A LAYER or SEEK taken in SEARCH or DROPHOLD is held. -/
theorem does_held (he : s.cmdErr u op layer arg = 0) (hop : op = 3 ∨ op = 4) (hf : (vget s.servo u).fmode ∈ [1, 4]) :
    Does i s fun t => vget t.servo u = { vget s.servo u with
      taken := seq.toNat, err := 0, held := some ⟨op = 4, layer, arg.toInt, seq.toNat⟩ } := by
  have heq : s.takeCmd u op layer seq arg run = s.heldBack u op layer seq arg :=
    ((Block.takeCmd_eq hs hr ht ..).trans (if_neg (not_not.2 he))).trans (if_pos ⟨hop, by simpa using hf⟩)
  refine does_upd hi ?_
  rw [heq]
  exact s.heldBack_servo u op layer seq arg

/-- Any other command runs. -/
theorem does_run {P : State → Prop} (he : s.cmdErr u op layer arg = 0)
    (hop : op = 3 ∨ op = 4 → (vget s.servo u).fmode ∉ [1, 4])
    (hP : P { s with toBlock := run (s.begun u op layer seq arg) }) : Does i s P := by
  have hnot : ¬ ((op = 3 ∨ op = 4) ∧ ((vget s.servo u).fmode = 1 ∨ (vget s.servo u).fmode = 4)) :=
    fun ⟨h, hf⟩ => hop h (by simpa using hf)
  have heq : s.takeCmd u op layer seq arg run = run (s.begun u op layer seq arg) :=
    ((Block.takeCmd_eq hs hr ht ..).trans (if_neg (not_not.2 he))).trans (if_neg hnot)
  exact does_upd (hi.trans (State.upd_congr (g := fun b => run (b.begun u op layer seq arg)) heq)) hP

end does

/-! ### A command done (R184) -/

/-- DONE takes the SEQ, and the program event is recorded. -/
def Block.doneNoted (b : Block) (s : Fin 4) (seq : Nat) : Block :=
  (((b.modServo s fun v => { v with done := seq, cur := none }).bump LE_EVT_COUNT 1).setFld LE_EVT_ENTRY (4 + s.val)).setFld
    LE_EVT_CODE (0x10 + s.val)

theorem Block.cmdDone_eq {b : Block} {s : Fin 4} {o q : Nat} (h : (vget b.servo s).cur = some (o, q)) :
    b.cmdDone s = ((b.doneNoted s q).publish s).raise 11 := by
  unfold Block.cmdDone
  rw [h]
  rfl

theorem Block.curOp_eq {b : Block} {s : Fin 4} {o q : Nat} (h : (vget b.servo s).cur = some (o, q)) (op : Nat) :
    b.curOp s op = decide (o = op) := by
  unfold Block.curOp
  rw [h]

/-- The command of SEQ `q` is done: its SEQ is in DONE and source 11 raised, and no more has changed of the servo
programs, SA_REQ and the registers. -/
structure Block.Completes (u : Fin 4) (q : Nat) (b c : Block) : Prop where
  servo : vget c.servo u = { vget b.servo u with done := q, cur := none }
  regs : Block.regsOnly [LE_EVT] b c
  raised : c.raised 11 = true
  saReq : ∀ v, (exWord u 11, v) ∈ b.le.exNew → (exWord u 11, v) ∈ c.le.exNew

theorem Block.cmdDone_completes {b : Block} {u : Fin 4} {o q : Nat} (h : (vget b.servo u).cur = some (o, q)) :
    Block.Completes u q b (b.cmdDone u) := by
  have hnoted : Block.regsOnly [LE_EVT] b (b.doneNoted u q) :=
    (((Block.regsOnly_refl _ b).same.setFld (f := LE_EVT_COUNT) List.mem_cons_self _).setFld (f := LE_EVT_ENTRY)
      List.mem_cons_self _).setFld (f := LE_EVT_CODE) List.mem_cons_self _
  have hpublish : Block.CommitWork u [LE_EVT] (b.doneNoted u q) ((b.doneNoted u q).publish u) :=
    Block.CommitWork.refl.publish
  have hraise := ((b.doneNoted u q).publish u).raise_frame 11
  rw [Block.cmdDone_eq h]
  refine ⟨?_, (Block.regsOnly_trans hnoted hpublish.regs).raise 11,
    Block.raise_raised_same (srcPresent_power _ (by decide)), ?_⟩
  · rw [hraise.same .servo (by decide), Block.publish_servo]
    exact b.vget_modServo_same u _
  · rw [hraise.same .le (by decide)]
    exact hpublish.saReq

namespace Block.Completes

variable {u : Fin 4} {q : Nat} {b c : Block}

theorem done (h : Completes u q b c) : (vget c.servo u).done = q ∧ (vget c.servo u).cur = none ∧ c.raised 11 = true :=
  ⟨congrArg Servo.done h.servo, congrArg Servo.cur h.servo, h.raised⟩

theorem psw (h : Completes u q b c) (i : Nat) : c.psw u i = b.psw u i :=
  h.regs.psw (by simp only [LE_PSW_k, LE_EVT, List.mem_cons, List.not_mem_nil, or_false]; omega) i

theorem fld (h : Completes u q b c) {g : Fld} (hg : 0x80040 ≤ g.reg) : c.fld g = b.fld g := by
  refine h.regs.fld ?_ (irqReg_of_ge (by omega))
  simp only [LE_EVT, List.mem_cons, List.not_mem_nil, or_false]
  omega

end Block.Completes

/-! ### NONE and OFF (R184) -/

section commands

variable {s : State} {u : Fin 4} {layer : Fin 8} {seq : BitVec 8} (hs : s.part.hasSurf u = true)
  (hr : s.servoRuns u = true) (ht : (vget s.servo u).taken ≠ seq.toNat) (hl : layer.val ≤ 5)
include hs hr ht

theorem does_cmdNone_reserved (k : Fin 10) : Does (.cmdNone u (some k) layer seq) s fun t =>
    (vget t.servo u).err = 1 ∧ t.psw u 7 = true := by
  have he := s.cmdErr_reserved u k layer 0
  obtain ⟨t, hexec, hpend, _, herr, hfail, _⟩ := does_rejected (i := .cmdNone u (some k) layer seq) rfl hs hr ht
    (by rw [he]; decide)
  exact ⟨t, hexec, hpend, herr.trans he, hfail⟩

include hl

theorem does_cmdNone : Does (.cmdNone u none layer seq) s fun t => (vget t.servo u).taken = seq.toNat ∧
    ((vget t.servo u).done = seq.toNat ∧ (vget t.servo u).cur = none ∧ t.raised 11 = true) ∧
    t.psw u 7 = false ∧ (vget t.servo u).fmode = (vget s.servo u).fmode := by
  refine does_run (op := 0) rfl hs hr ht (s.cmdErr_zero u 0 (by decide) hl (by decide) nofun)
    (fun h => absurd h (by decide)) ?_
  have hservo := s.begun_servo u 0 layer seq 0
  have hdone := Block.cmdDone_completes (u := u) (congrArg Servo.cur hservo)
  refine ⟨?_, hdone.done, (hdone.psw 7).trans (s.begun_fail ..), ?_⟩
  · exact (congrArg Servo.taken hdone.servo).trans (congrArg Servo.taken hservo)
  · exact (congrArg Servo.fmode hdone.servo).trans (congrArg Servo.fmode hservo :)

end commands

/-- The loops of focus, tracking and tilt opened, their DACs at 0, before the commit that tells the laser group. -/
def Block.loopsOpened (b : Block) (s : Fin 4) : Block :=
  let b := b.modServo s fun v => { v with fmode := 0, tmode := 0, held := none }
  let b := (List.range 3).foldl (fun b k => b.setFld (SFs_DAC_OUT_k_CODE s k) 0) b
  b.setPsw s (b.pswWith s 0 (1 + 2 + 4 + 8 + 16 + 32))

theorem Block.loopsOpened_servo (b : Block) (u : Fin 4) :
    vget (b.loopsOpened u).servo u = { vget b.servo u with fmode := 0, tmode := 0, held := none } := by
  rw [Block.loopsOpened, Block.setPsw_servo]
  exact b.vget_modServo_same u _

theorem Block.loopsOpened_psw (b : Block) (u : Fin 4) {i : Nat} (hi : i < 6) : (b.loopsOpened u).psw u i = false := by
  have hbits : ∀ i < 6, Nat.testBit (255 - (1 + 2 + 4 + 8 + 16 + 32)) i = false := by decide
  exact (Block.psw_setPsw _ u _ (by omega)).trans (Block.pswWith_clears _ u 0 _ (hbits i hi) (Nat.zero_testBit i))

theorem Block.loopsOpened_dac (b : Block) (u : Fin 4) {k : Nat} (hk : k < 3) :
    (b.loopsOpened u).fld (SFs_DAC_OUT_k_CODE u k) = 0 := by
  have hset (c : Block) : (c.setFld (SFs_DAC_OUT_k_CODE u k) 0).fld (SFs_DAC_OUT_k_CODE u k) = 0 :=
    c.fld_setFld_same (SFs_DAC_OUT_k_CODE u k) rfl 0
  refine ((Block.setPsw_work _ u _).regs.fld (g := SFs_DAC_OUT_k_CODE u k) (dacOut_not_mem_pswRegs u hk)
    (irqReg_dacOut u k)).trans ?_
  refine foldl_brings (g := fun (c : Block) k => c.setFld (SFs_DAC_OUT_k_CODE u k) 0)
    (P := fun c => c.fld (SFs_DAC_OUT_k_CODE u k) = 0) hset (fun c j hc => ?_) (List.mem_range.2 hk) _
  by_cases hj : k = j
  · exact hj ▸ hset c
  · refine (c.fld_wr_ne ?_ _).trans hc
    simp only [SFs_DAC_OUT_k_CODE, SFs_DAC_OUT_k]
    omega

/-- A commit off the groove composes WPERM 0, and clears no SAFEH. -/
theorem Block.trackCommit_off {b : Block} {u : Fin 4} (h : b.psw u 0 = false) : b.trackCommit u = b.composed u false := by
  have hok : b.onGroove u = false := by rw [Block.onGroove, h, Bool.false_and, Bool.false_and]
  rw [Block.trackCommit_keeps (by rw [hok, Bool.and_false]), hok]
  rfl

theorem does_cmdOff {s : State} {u : Fin 4} {layer : Fin 8} {seq : BitVec 8} (hs : s.part.hasSurf u = true)
    (hr : s.servoRuns u = true) (ht : (vget s.servo u).taken ≠ seq.toNat) (hl : layer.val ≤ 5) :
    Does (.cmdOff u layer seq) s fun t =>
      ((vget t.servo u).done = seq.toNat ∧ (vget t.servo u).cur = none ∧ t.raised 11 = true) ∧
      (vget t.servo u).fmode = 0 ∧ (vget t.servo u).tmode = 0 ∧ t.psw u 0 = false ∧ t.psw u 1 = false ∧
      t.psw u 2 = false ∧ t.psw u 3 = false ∧ ∀ k : Fin 3, t.fld (SFs_DAC_OUT_k_CODE u k) = 0 := by
  refine does_run (run := fun b => ((b.loopsOpened u).trackCommit u).cmdDone u) rfl hs hr ht
    (s.cmdErr_zero u 0 (by decide) hl (by decide) nofun) (fun h => absurd h (by decide)) ?_
  let b := s.begun u 1 layer seq 0
  have hservo : vget b.servo u = _ := s.begun_servo u 1 layer seq 0
  have hopen := b.loopsOpened_servo u
  have hwork := (b.loopsOpened u).composed_work u false
  have hcur : (vget ((b.loopsOpened u).composed u false).servo u).cur = some (1, seq.toNat) :=
    (congrArg Servo.cur hwork.program).trans ((congrArg Servo.cur hopen).trans (congrArg Servo.cur hservo))
  have hdone := Block.cmdDone_completes hcur
  have hpsw {i : Nat} (hi : i < 3) : (((b.loopsOpened u).composed u false).cmdDone u).psw u i = false :=
    (hdone.psw i).trans ((Block.composed_psw _ u false (by omega) (by omega)).trans (b.loopsOpened_psw u (by omega)))
  rw [Block.trackCommit_off (b.loopsOpened_psw u (by decide))]
  refine ⟨hdone.done, ?_, ?_, hpsw (by decide), hpsw (by decide), hpsw (by decide),
    (hdone.psw 3).trans (Block.composed_wperm _ u), fun k => ?_⟩
  · exact (congrArg Servo.fmode hdone.servo).trans ((congrArg Servo.fmode hwork.program).trans (congrArg Servo.fmode hopen))
  · exact (congrArg Servo.tmode hdone.servo).trans ((congrArg Servo.tmode hwork.program).trans (congrArg Servo.tmode hopen))
  · refine (hdone.fld ?_).trans ((hwork.regs.fld (g := SFs_DAC_OUT_k_CODE u k) (dacOut_not_mem_commitRegs u k.isLt)
      (irqReg_dacOut u k)).trans (b.loopsOpened_dac u k.isLt))
    simp only [SFs_DAC_OUT_k_CODE, SFs_DAC_OUT_k]
    omega

/-! ### Landing (R188, R193, R198, R199) -/

/-- The pickup is closed and locked at an index of a layer, before the commit that tells the laser group. -/
def Block.locked (b : Block) (s : Fin 4) (layer : Nat) (idx : Int) : Block :=
  let b := b.modServo s fun v =>
    { v with fmode := 2, layer := layer, tlayer := layer, tmode := 3, gidx := idx, known := true, age := 0
             agree := 0, disagree := 0, mislayer := 0 }
  b.setPsw s (b.pswWith s (1 + 2 + 4) (16 + 32))

/-- What a landing shows: focus closed and tracking on at the index of the layer, FOK, TOK and AOK set, SRCH and MOVING
clear, the command in progress and SUM_REF as before. -/
structure Block.Lands (u : Fin 4) (layer : Nat) (idx : Int) (b c : Block) : Prop where
  fmode : (vget c.servo u).fmode = 2
  tmode : (vget c.servo u).tmode = 3
  layer : (vget c.servo u).layer = layer
  gidx : (vget c.servo u).gidx = idx
  cur : (vget c.servo u).cur = (vget b.servo u).cur
  held : (vget c.servo u).held = (vget b.servo u).held
  sumref : (vget c.servo u).sumref = (vget b.servo u).sumref
  release : (vget c.servo u).release = false
  onGroove : ∀ i < 3, c.psw u i = true
  still : c.psw u 4 = false ∧ c.psw u 5 = false
  saReq : ∀ v, (exWord u 11, v) ∈ b.le.exNew → (exWord u 11, v) ∈ c.le.exNew

theorem Block.land_lands {b : Block} {u : Fin 4} (h : (vget b.servo u).release = false) (layer : Nat) (idx : Int) :
    Block.Lands u layer idx b (b.land u layer idx) := by
  let c := b.modServo u fun v =>
    { v with fmode := 2, layer := layer, tlayer := layer, tmode := 3, gidx := idx, known := true, age := 0
             agree := 0, disagree := 0, mislayer := 0 }
  let d := c.setPsw u (c.pswWith u (1 + 2 + 4) (16 + 32))
  have hservo : vget d.servo u = { vget b.servo u with
      fmode := 2, layer := layer, tlayer := layer, tmode := 3, gidx := idx, known := true, age := 0
      agree := 0, disagree := 0, mislayer := 0 } := by
    rw [Block.setPsw_servo]
    exact b.vget_modServo_same u _
  have hrelease : (vget d.servo u).release = false := (congrArg Servo.release hservo).trans h
  have hland : b.land u layer idx = d.composed u (d.permits u (d.onGroove u) (vget d.servo u)) :=
    Block.trackCommit_no_release hrelease
  rw [hland]
  generalize d.permits u (d.onGroove u) (vget d.servo u) = perm
  have hwork := d.composed_work u perm
  have hprogram := hwork.program.trans (congrArg Servo.program hservo)
  have hbits : ∀ i < 3, Nat.testBit (1 + 2 + 4) i = true := by decide
  have hclear {i : Nat} (hi : i < 8) (h3 : i ≠ 3) (hc : Nat.testBit (255 - (16 + 32)) i = false)
      (h7 : Nat.testBit (1 + 2 + 4) i = false) : (d.composed u perm).psw u i = false :=
    (d.composed_psw u perm hi h3).trans ((c.psw_setPsw u _ hi).trans (c.pswWith_clears u _ _ hc h7))
  exact {
    fmode := (congrArg Servo.fmode hprogram :)
    tmode := (congrArg Servo.tmode hprogram :)
    layer := (congrArg Servo.layer hprogram :)
    gidx := (congrArg Servo.gidx hprogram :)
    cur := (congrArg Servo.cur hprogram :)
    held := (congrArg Servo.held hprogram :)
    sumref := (congrArg Servo.sumref hprogram :)
    release := hwork.release hrelease
    onGroove := fun i hi => (d.composed_psw u perm (by omega) (by omega)).trans
      ((c.psw_setPsw u _ (by omega)).trans (c.pswWith_sets u _ _ (hbits i hi)))
    still := ⟨hclear (by decide) (by decide) (by decide) (by decide),
      hclear (by decide) (by decide) (by decide) (by decide)⟩
    saReq := fun v hv => hwork.saReq v ((c.setPsw_work u _).saReq v hv) }

/-! ### FOCUS (R188) -/

/-- The search for a layer begins, before the commit that tells the laser group. -/
def Block.searchBegun (b : Block) (s : Fin 4) (layer : Nat) : Block :=
  let b := b.setPsw s (b.pswWith s 16 (1 + 2 + 4 + 8))
  let b := b.modServo s fun v => { v with fmode := 1, tlayer := layer, tmode := 1, sumref := 0 }
  (b.setFld (SFs_DAC_OUT_k_CODE s 1) 0).writeSaReq s

/-- The search ends where it has found an index and a SUM_REF. -/
def Block.searchEnds (b : Block) (s : Fin 4) : Option (BitVec 14 × BitVec 16) → Block
  | none => b
  | some (i, r) => b.focusClosed s i.toInt r

theorem exec_cmdFocus_new {s : State} {u : Fin 4} {seq : BitVec 8} (ht : (vget s.servo u).taken ≠ seq.toNat)
    (layer : Fin 8) (found : Option (BitVec 14 × BitVec 16)) :
    exec (.cmdFocus u layer seq found) s = s.upd fun b =>
      b.takeCmd u 2 layer seq 0 fun b => ((b.searchBegun u layer).trackCommit u).searchEnds u found := by
  have h : exec (.cmdFocus u layer seq found) s = execCmdFocus u layer seq found s := rfl
  rw [h, execCmdFocus]
  refine State.upd_congr ?_
  rw [if_neg ht]
  cases found <;> rfl

theorem Block.writeSaReq_frame (b : Block) (u : Fin 4) : Frame [.le] b (b.writeSaReq u) :=
  b.commitData_exWord_frame u (by decide) _

theorem Block.writeSaReq_rd (b : Block) (u : Fin 4) (o : Nat) : (b.writeSaReq u).rd o = b.rd o :=
  Block.rd_congr ((b.writeSaReq_frame u).same .part (by decide)) ((b.writeSaReq_frame u).same .regs (by decide)) o

theorem Block.searchBegun_servo (b : Block) (u : Fin 4) (layer : Nat) : vget (b.searchBegun u layer).servo u =
    { vget b.servo u with fmode := 1, tlayer := layer, tmode := 1, sumref := 0 } := by
  rw [Block.searchBegun, (Block.writeSaReq_frame _ u).same .servo (by decide), Block.setFld_servo,
    Block.vget_modServo_same, Block.setPsw_servo]

theorem Block.searchBegun_psw (b : Block) (u : Fin 4) (layer : Nat) :
    (b.searchBegun u layer).psw u 4 = true ∧ (b.searchBegun u layer).psw u 0 = false := by
  have hregs : Block.regsOnly [SFs_DAC_OUT_k u 1] (b.setPsw u (b.pswWith u 16 (1 + 2 + 4 + 8))) (b.searchBegun u layer) :=
    ((Block.regsOnly_refl _ _).same.setFld (f := SFs_DAC_OUT_k_CODE u 1) List.mem_cons_self 0).frame
      (Block.writeSaReq_frame _ u)
  have hpsw (i : Nat) := hregs.psw (u := u)
    (by simp only [List.mem_cons, List.not_mem_nil, or_false, LE_PSW_k, SFs_DAC_OUT_k]; omega) i
  exact ⟨(hpsw 4).trans ((b.psw_setPsw u _ (by decide)).trans (b.pswWith_sets u 16 _)),
    (hpsw 0).trans ((b.psw_setPsw u _ (by decide)).trans (b.pswWith_clears u 16 (1 + 2 + 4 + 8)))⟩

theorem Block.searchBegun_dac (b : Block) (u : Fin 4) (layer : Nat) :
    (b.searchBegun u layer).fld (SFs_DAC_OUT_k_CODE u 1) = 0 :=
  (Block.fld_of_rd (Block.writeSaReq_rd _ u _)).trans (Block.fld_setFld_same _ (SFs_DAC_OUT_k_CODE u 1) rfl 0)

/-- The servo programs of a FOCUS that has begun its search. -/
theorem Block.begun_searchBegun_servo (b : Block) (u : Fin 4) (layer : Nat) (seq : BitVec 8) :
    vget ((b.begun u 2 layer seq 0).searchBegun u layer).servo u = { vget b.servo u with
      taken := seq.toNat, err := 0, cur := some (2, seq.toNat), release := false
      fmode := 1, tlayer := layer, tmode := 1, sumref := 0 } := by
  rw [Block.searchBegun_servo, Block.begun_servo]

/-- The search under way, past its first commit. -/
theorem Block.searchBegun_commit (b : Block) (u : Fin 4) (layer : Nat) :
    ((b.searchBegun u layer).trackCommit u) = (b.searchBegun u layer).composed u false :=
  Block.trackCommit_off (b.searchBegun_psw u layer).2

/-- Focus that closes with a FOCUS in progress and no command held (R188). -/
theorem Block.focusClosed_done {b : Block} {u : Fin 4} {q : Nat} (hcur : (vget b.servo u).cur = some (2, q))
    (hheld : (vget b.servo u).held = none) (hrel : (vget b.servo u).release = false) (idx : Int) (r : BitVec 16) :
    ∃ c, Block.Lands u (vget b.servo u).tlayer idx (b.modServo u fun v => { v with sumref := r }) c ∧
      Block.Completes u q c (b.focusClosed u idx r) := by
  let a := b.modServo u fun v => { v with sumref := r }
  have ha : vget a.servo u = { vget b.servo u with sumref := r } := b.vget_modServo_same u _
  have hlands := Block.land_lands ((congrArg Servo.release ha).trans hrel) (vget a.servo u).tlayer idx
  have hc : (vget (a.land u (vget a.servo u).tlayer idx).servo u).cur = some (2, q) :=
    hlands.cur.trans ((congrArg Servo.cur ha).trans hcur)
  have hdone := Block.cmdDone_completes hc
  have hnone : (vget ((a.land u (vget a.servo u).tlayer idx).cmdDone u).servo u).held = none :=
    (congrArg Servo.held hdone.servo).trans (hlands.held.trans ((congrArg Servo.held ha).trans hheld))
  have heq : b.focusClosed u idx r = (a.land u (vget a.servo u).tlayer idx).cmdDone u := by
    unfold Block.focusClosed
    extract_lets c d
    have hd : d = (a.land u (vget a.servo u).tlayer idx).cmdDone u := if_pos (by rw [Block.curOp_eq hc]; rfl)
    rw [hd, hnone]
  rw [heq]
  refine ⟨_, ?_, hdone⟩
  rw [← congrArg Servo.tlayer ha]
  exact hlands

section commands

variable {s : State} {u : Fin 4} {layer : Fin 8} {seq : BitVec 8} (hs : s.part.hasSurf u = true)
  (hr : s.servoRuns u = true) (ht : (vget s.servo u).taken ≠ seq.toNat) (hl : layer.val ≤ 5)
include hs hr ht hl

theorem does_cmdFocus_searching : Does (.cmdFocus u layer seq none) s fun t => (vget t.servo u).fmode = 1 ∧
    (vget t.servo u).tmode = 1 ∧ (vget t.servo u).tlayer = layer ∧ (vget t.servo u).cur = some (2, seq.toNat) ∧
    t.psw u 4 = true ∧ t.psw u 0 = false ∧ t.fld (SFs_DAC_OUT_k_CODE u 1) = 0 ∧
    (vget t.servo u).done = (vget s.servo u).done := by
  refine does_run (exec_cmdFocus_new ht layer none) hs hr ht (s.cmdErr_zero u 0 (by decide) hl (by decide) nofun)
    (fun h => absurd h (by decide)) ?_
  let b := s.begun u 2 layer seq 0
  have hservo := s.begun_searchBegun_servo u layer seq
  have hwork := (b.searchBegun u layer).composed_work u false
  have hprogram := hwork.program.trans (congrArg Servo.program hservo)
  have hpsw {i : Nat} (hi : i < 8) (h3 : i ≠ 3) := (b.searchBegun u layer).composed_psw u false hi h3
  obtain ⟨hsrch, hfok⟩ := b.searchBegun_psw u layer
  rw [b.searchBegun_commit u layer]
  exact ⟨(congrArg Servo.fmode hprogram :), (congrArg Servo.tmode hprogram :), (congrArg Servo.tlayer hprogram :),
    (congrArg Servo.cur hprogram :), (hpsw (by decide) (by decide)).trans hsrch, (hpsw (by decide) (by decide)).trans hfok,
    (hwork.regs.fld (g := SFs_DAC_OUT_k_CODE u 1) (dacOut_not_mem_commitRegs u (by decide)) (irqReg_dacOut u 1)).trans
      (b.searchBegun_dac u layer), (congrArg Servo.done hprogram :)⟩

theorem does_cmdFocus_found (hheld : (vget s.servo u).held = none) (i : BitVec 14) (sum : BitVec 16) :
    Does (.cmdFocus u layer seq (some (i, sum))) s fun t =>
      ((vget t.servo u).done = seq.toNat ∧ (vget t.servo u).cur = none ∧ t.raised 11 = true) ∧
      (vget t.servo u).fmode = 2 ∧ (vget t.servo u).tmode = 3 ∧ (vget t.servo u).layer = layer ∧
      (vget t.servo u).gidx = i.toInt ∧ (vget t.servo u).sumref = sum ∧ t.psw u 0 = true ∧ t.psw u 1 = true ∧
      t.psw u 2 = true ∧ t.psw u 4 = false := by
  refine does_run (exec_cmdFocus_new ht layer (some (i, sum))) hs hr ht
    (s.cmdErr_zero u 0 (by decide) hl (by decide) nofun) (fun h => absurd h (by decide)) ?_
  let b := s.begun u 2 layer seq 0
  have hservo := s.begun_searchBegun_servo u layer seq
  have hwork := (b.searchBegun u layer).composed_work u false
  have hprogram := hwork.program.trans (congrArg Servo.program hservo)
  obtain ⟨c, hlands, hdone⟩ := Block.focusClosed_done (congrArg Servo.cur hprogram)
    ((congrArg Servo.held hprogram).trans hheld) (hwork.release (congrArg Servo.release hservo)) i.toInt sum
  have hsum : (vget c.servo u).sumref = sum :=
    hlands.sumref.trans (congrArg Servo.sumref (Block.vget_modServo_same ..))
  rw [b.searchBegun_commit u layer]
  refine ⟨hdone.done, ?_, ?_, ?_, ?_, ?_, (hdone.psw 0).trans (hlands.onGroove 0 (by decide)),
    (hdone.psw 1).trans (hlands.onGroove 1 (by decide)), (hdone.psw 2).trans (hlands.onGroove 2 (by decide)),
    (hdone.psw 4).trans hlands.still.1⟩
  · exact (congrArg Servo.fmode hdone.servo).trans hlands.fmode
  · exact (congrArg Servo.tmode hdone.servo).trans hlands.tmode
  · exact (congrArg Servo.layer hdone.servo).trans (hlands.layer.trans (congrArg Servo.tlayer hprogram))
  · exact (congrArg Servo.gidx hdone.servo).trans hlands.gidx
  · exact (congrArg Servo.sumref hdone.servo).trans hsum

end commands

end Sys2Proof.Machine

/-!
PROOFS. The servo commands LAYER, SEEK and RELEASE (07_servo_programs.md R184, R190, R197 to R199, R519).
-/

namespace Sys2Proof.Machine

/-! ### Layer jumps (R197, R198) -/

/-- A jump starts: MOVING is set and WPERM cleared, the target layer and SA_REQ are written. -/
def Block.jumpBegun (b : Block) (s : Fin 4) (layer : Nat) : Block :=
  ((b.setPsw s (b.pswWith s 32 8)).modServo s fun v => { v with fmode := 3, tlayer := layer }).writeSaReq s

/-- The jump closes on the new layer, at the index and the SUM_REF that two free values choose. -/
def Block.jumpClosed (b : Block) (s : Fin 4) : Block :=
  b.freeVal.2.freeVal.2.modServo s fun v => { v with sumref := BitVec.ofNat 16 b.freeVal.2.freeVal.1 }

theorem Block.layerJump_same {b : Block} {s : Fin 4} {layer : Nat} (h : layer = (vget b.servo s).layer) :
    b.layerJump s layer = b := if_pos h

theorem Block.layerJump_other {b : Block} {s : Fin 4} {layer : Nat} (h : layer ≠ (vget b.servo s).layer) :
    b.layerJump s layer = ((b.jumpBegun s layer).jumpClosed s).land s layer
      ((vget (b.jumpBegun s layer).servo s).gidx + (((b.jumpBegun s layer).freeVal.1 % 13 : Nat) : Int) - 6) := by
  unfold Block.layerJump
  rw [if_neg h]
  rfl

theorem Block.jumpBegun_servo (b : Block) (u : Fin 4) (layer : Nat) :
    vget (b.jumpBegun u layer).servo u = { vget b.servo u with fmode := 3, tlayer := layer } := by
  rw [Block.jumpBegun, (Block.writeSaReq_frame _ u).same .servo (by decide), Block.vget_modServo_same, Block.setPsw_servo]

theorem Block.jumpClosed_servo (b : Block) (u : Fin 4) :
    vget (b.jumpClosed u).servo u = { vget b.servo u with sumref := BitVec.ofNat 16 b.freeVal.2.freeVal.1 } :=
  Block.vget_modServo_same ..

/-- SA_REQ of a layer: its entry of SA_TAB and SA_TRIM (R197). -/
def Block.saReq (b : Block) (s : Fin 4) (layer : Nat) : Word :=
  b.dmem (0x380 + 0x10 * s.val + layer) + b.dmem (0x380 + 0x10 * s.val + 6)

/-- A change of status words leaves data memory. -/
theorem Block.regsOnly.dmem {b c : Block} {u : Fin 4} (h : Block.regsOnly (pswRegs u) b c) (a : Nat) :
    c.dmem a = b.dmem a := by
  have ha : a % 8192 < 8192 := Nat.mod_lt _ (by decide)
  refine h _ ?_ (irqReg_of_ge (by simp only [LE_DMEM_w]; omega))
  simp only [pswRegs, List.mem_cons, List.not_mem_nil, or_false, LE_DMEM_w, LE_PSW_k, SFs_CNT_EVT]
  omega

theorem Block.jumpBegun_saReq (b : Block) (u : Fin 4) (layer : Nat) :
    (exWord u 11, b.saReq u layer) ∈ (b.jumpBegun u layer).le.exNew := by
  let c := (b.setPsw u (b.pswWith u 32 8)).modServo u fun v => { v with fmode := 3, tlayer := layer }
  have hregs : Block.regsOnly (pswRegs u) b c := (b.setPsw_work u _).regs.same
  have htlayer : (vget c.servo u).tlayer = layer := congrArg Servo.tlayer (Block.vget_modServo_same ..)
  have hword : b.saReq u layer =
      c.dmem (0x380 + 0x10 * u.val + (vget c.servo u).tlayer) + c.dmem (0x380 + 0x10 * u.val + 6) := by
    rw [hregs.dmem, hregs.dmem, htlayer]
    rfl
  rw [hword]
  exact c.mem_commitData u (by decide) _

/-- A jump to another layer lands on it within six swaths, and asks for its spherical aberration. -/
theorem Block.layerJump_lands {b : Block} {u : Fin 4} {layer : Nat} (hl : layer ≠ (vget b.servo u).layer)
    (hrel : (vget b.servo u).release = false) : ∃ c idx, |idx - (vget b.servo u).gidx| ≤ 6 ∧
      (vget c.servo u).cur = (vget b.servo u).cur ∧ Block.Lands u layer idx c (b.layerJump u layer) ∧
      (exWord u 11, b.saReq u layer) ∈ (b.layerJump u layer).le.exNew := by
  have hbegun := b.jumpBegun_servo u layer
  have hclosed := (b.jumpBegun u layer).jumpClosed_servo u
  have hsa : (exWord u 11, b.saReq u layer) ∈ ((b.jumpBegun u layer).jumpClosed u).le.exNew := b.jumpBegun_saReq u layer
  have hrelease : (vget ((b.jumpBegun u layer).jumpClosed u).servo u).release = false :=
    (congrArg Servo.release hclosed).trans ((congrArg Servo.release hbegun).trans hrel)
  rw [Block.layerJump_other hl, congrArg Servo.gidx hbegun]
  generalize (b.jumpBegun u layer).freeVal.1 = n
  have hlands := Block.land_lands hrelease layer ((vget b.servo u).gidx + ((n % 13 : Nat) : Int) - 6)
  refine ⟨_, _, ?_, (congrArg Servo.cur hclosed).trans (congrArg Servo.cur hbegun :), hlands, hlands.saReq _ hsa⟩
  have hn : n % 13 < 13 := Nat.mod_lt _ (by decide)
  rw [abs_le]
  omega

/-- A jump leaves the command in progress, with no RELEASE taken. -/
theorem Block.layerJump_keeps {b : Block} (u : Fin 4) (layer : Nat) (hrel : (vget b.servo u).release = false) :
    (vget (b.layerJump u layer).servo u).cur = (vget b.servo u).cur ∧
      (vget (b.layerJump u layer).servo u).release = false := by
  by_cases hl : layer = (vget b.servo u).layer
  · rw [Block.layerJump_same hl]
    exact ⟨rfl, hrel⟩
  · obtain ⟨c, idx, _, hcur, hlands, _⟩ := Block.layerJump_lands hl hrel
    exact ⟨hlands.cur.trans hcur, hlands.release⟩

/-! ### Seeks (R199) -/

/-- The radial move of a seek: MOVING, and the sled's move where it is due. -/
def Block.radialMove (b : Block) (s : Fin 4) (arg : Int) : Block :=
  let b := (b.setPsw s (b.pswWith s 32 8)).modServo s fun v => { v with tmode := 5 }
  let pitch := (b.dmem (0x340 + 0x10 * s.val + 3)).toNat
  if 16 < arg.natAbs then b.writeSledReq s ((arg * pitch + 2 ^ 15) / 2 ^ 16) else b

theorem Block.seek_eq (b : Block) (s : Fin 4) (layer : Nat) (arg : Int) : b.seek s layer arg =
    ((b.layerJump s layer).radialMove s arg).land s layer ((vget b.servo s).gidx + arg) := rfl

theorem Block.radialMove_servo (b : Block) (u : Fin 4) (arg : Int) :
    vget (b.radialMove u arg).servo u = { vget b.servo u with tmode := 5 } := by
  have hsled (c : Block) (n : Int) : (c.writeSledReq u n).servo = c.servo :=
    (c.commitData_exWord_frame u (w := 10) (by decide) _).same .servo (by decide)
  unfold Block.radialMove
  extract_lets c pitch
  have hc : vget c.servo u = { vget b.servo u with tmode := 5 } := by
    rw [Block.vget_modServo_same, Block.setPsw_servo]
  split
  · rw [hsled]
    exact hc
  · exact hc

/-- A seek lands ARG swaths from where it was taken. -/
theorem Block.seek_lands {b : Block} {u : Fin 4} (hrel : (vget b.servo u).release = false) (layer : Nat) (arg : Int) :
    ∃ c, (vget c.servo u).cur = (vget b.servo u).cur ∧
      Block.Lands u layer ((vget b.servo u).gidx + arg) c (b.seek u layer arg) := by
  obtain ⟨hcur, hrelease⟩ := b.layerJump_keeps u layer hrel
  have hmove := (b.layerJump u layer).radialMove_servo u arg
  rw [Block.seek_eq]
  exact ⟨_, (congrArg Servo.cur hmove).trans hcur, Block.land_lands ((congrArg Servo.release hmove).trans hrelease) _ _⟩

/-! ### RELEASE (R190, R519) -/

theorem Block.safehCleared_servo (b : Block) (u : Fin 4) :
    vget (b.safehCleared u).servo u = { vget b.servo u with release := false } := by
  rw [Block.safehCleared, Block.vget_modServo_same, Block.setFld_servo, Block.setPsw_servo]

theorem Block.safehCleared_latch (b : Block) (u : Fin 4) : (b.safehCleared u).fld (SEs_LSAFE_HLATCH u) = 0 :=
  Block.fld_setFld_same (b.setPsw u (b.pswWith u 0 64)) (SEs_LSAFE_HLATCH u) rfl 0

theorem Block.safehCleared_safeh (b : Block) (u : Fin 4) : (b.safehCleared u).psw u 6 = false := by
  have hregs : Block.regsOnly [SEs_LSAFE u] (b.setPsw u (b.pswWith u 0 64)) (b.safehCleared u) :=
    ((Block.regsOnly_refl _ _).setFld (f := SEs_LSAFE_HLATCH u) List.mem_cons_self 0).same
  refine (hregs.psw (u := u) ?_ 6).trans ((b.psw_setPsw u _ (by decide)).trans (b.pswWith_clears u 0 64))
  simp only [List.mem_cons, List.not_mem_nil, or_false, LE_PSW_k, SEs_LSAFE]
  omega

/-- The first commit on the groove after a RELEASE clears SAFEH and the latch, and the RELEASE is done. -/
theorem Block.trackCommit_releases {b : Block} {u : Fin 4} {q : Nat} (h6 : b.psw u 6 = true)
    (hrel : (vget b.servo u).release = true) (hok : b.onGroove u = true) (hcur : (vget b.servo u).cur = some (5, q)) :
    ∃ perm, (vget ((b.safehCleared u).composed u perm).servo u).cur = some (5, q) ∧
      b.trackCommit u = ((b.safehCleared u).composed u perm).cmdDone u := by
  let perm := (b.safehCleared u).permits u true (vget b.servo u)
  have hc : (vget ((b.safehCleared u).composed u perm).servo u).cur = some (5, q) :=
    (congrArg Servo.cur ((b.safehCleared u).composed_work u perm).program).trans
      ((congrArg Servo.cur (b.safehCleared_servo u)).trans hcur)
  refine ⟨perm, hc, ?_⟩
  rw [Block.trackCommit_eq]
  simp only [h6, hrel, hok, Bool.and_self, if_true, Bool.true_and]
  exact if_pos (by rw [Block.curOp_eq hc]; rfl)

/-- RELEASE as it runs. -/
def Block.releaseTaken (b : Block) (s : Fin 4) : Block :=
  if !b.psw s 6 then b.cmdDone s else (b.modServo s fun v => { v with release := true }).trackCommit s

/-- A RELEASE taken under safe hold, before its commit. -/
def Block.releaseDue (b : Block) (s : Fin 4) (layer : Nat) (seq : BitVec 8) : Block :=
  (b.begun s 5 layer seq 0).modServo s fun v => { v with release := true }

section due

variable (b : Block) (u : Fin 4) (layer : Nat) (seq : BitVec 8)

theorem Block.releaseDue_servo : vget (b.releaseDue u layer seq).servo u =
    { vget b.servo u with taken := seq.toNat, err := 0, cur := some (5, seq.toNat), release := true } := by
  rw [Block.releaseDue, Block.vget_modServo_same, Block.begun_servo]

theorem Block.releaseDue_psw {i : Nat} (hi : i < 7) : (b.releaseDue u layer seq).psw u i = b.psw u i :=
  b.begun_psw u 5 layer seq 0 hi

theorem Block.releaseDue_onGroove : (b.releaseDue u layer seq).onGroove u = b.onGroove u := by
  simp only [Block.onGroove, b.releaseDue_psw u layer seq (show 0 < 7 by decide),
    b.releaseDue_psw u layer seq (show 1 < 7 by decide), b.releaseDue_psw u layer seq (show 2 < 7 by decide)]

theorem Block.releaseTaken_held (h6 : b.psw u 6 = true) :
    (b.begun u 5 layer seq 0).releaseTaken u = (b.releaseDue u layer seq).trackCommit u := by
  rw [Block.releaseTaken, (b.begun_psw u 5 layer seq 0 (by decide)).trans h6]
  rfl

end due

section commands

variable {s : State} {u : Fin 4} {layer : Fin 8} {seq : BitVec 8} (hs : s.part.hasSurf u = true)
  (hr : s.servoRuns u = true) (ht : (vget s.servo u).taken ≠ seq.toNat)
include hs hr ht

theorem does_cmdLayer (hl : layer.val ≤ 5) (hf : (vget s.servo u).fmode ∈ [2, 3]) : Does (.cmdLayer u layer seq) s fun t =>
    ((vget t.servo u).done = seq.toNat ∧ (vget t.servo u).cur = none ∧ t.raised 11 = true) ∧
    ((vget s.servo u).layer = layer → (vget t.servo u).gidx = (vget s.servo u).gidx) ∧
    ((vget s.servo u).layer ≠ layer → (vget t.servo u).layer = layer ∧ t.psw u 2 = true ∧ t.psw u 5 = false ∧
      |(vget t.servo u).gidx - (vget s.servo u).gidx| ≤ 6 ∧ (exWord u 11, s.saReq u layer) ∈ t.le.exNew) := by
  have hmodes : (vget s.servo u).fmode ∉ [1, 4] ∧ (vget s.servo u).fmode ≠ 0 := by
    simp only [List.mem_cons, List.not_mem_nil, or_false] at hf ⊢
    omega
  refine does_run rfl hs hr ht (s.cmdErr_zero u 0 (by decide) hl (by decide) fun _ => hmodes.2) (fun _ => hmodes.1) ?_
  let b := s.begun u 3 layer seq 0
  have hservo : vget b.servo u = _ := s.begun_servo u 3 layer seq 0
  have hrel : (vget b.servo u).release = false := congrArg Servo.release hservo
  have hcur : (vget (b.layerJump u layer).servo u).cur = some (3, seq.toNat) :=
    (b.layerJump_keeps u layer hrel).1.trans (congrArg Servo.cur hservo)
  have hgidx : (vget b.servo u).gidx = (vget s.servo u).gidx := (congrArg Servo.gidx hservo :)
  have hlayer : (vget b.servo u).layer = (vget s.servo u).layer := (congrArg Servo.layer hservo :)
  have hsa : b.saReq u layer = s.saReq u layer := by
    have hregs : Block.regsOnly (pswRegs u) s.toBlock b := (s.cmdAdmitted_regs u 3 layer seq 0).same
    rw [Block.saReq, hregs.dmem, hregs.dmem]
    rfl
  have hdone := Block.cmdDone_completes hcur
  refine ⟨hdone.done, fun heq => ?_, fun hne => ?_⟩
  · refine (congrArg Servo.gidx hdone.servo).trans (Eq.trans ?_ hgidx)
    exact congrArg (fun c : Block => (vget c.servo u).gidx) (Block.layerJump_same (heq.symm.trans hlayer.symm))
  · obtain ⟨c, idx, hidx, _, hlands, hreq⟩ := Block.layerJump_lands (fun h => hne (hlayer.symm.trans h.symm)) hrel
    refine ⟨(congrArg Servo.layer hdone.servo).trans hlands.layer, (hdone.psw 2).trans (hlands.onGroove 2 (by decide)),
      (hdone.psw 5).trans hlands.still.2, ?_, hdone.saReq _ (hsa ▸ hreq)⟩
    rw [(congrArg Servo.gidx hdone.servo).trans hlands.gidx, ← hgidx]
    exact hidx

theorem does_cmdSeek {arg : BitVec 16} (he : s.cmdErr u 4 layer arg = 0) (hf : (vget s.servo u).fmode ∈ [2, 3]) :
    Does (.cmdSeek u layer arg seq) s fun t =>
      ((vget t.servo u).done = seq.toNat ∧ (vget t.servo u).cur = none ∧ t.raised 11 = true) ∧
      (vget t.servo u).layer = layer ∧ (vget t.servo u).gidx = (vget s.servo u).gidx + arg.toInt ∧ t.psw u 2 = true ∧
      t.psw u 5 = false := by
  have hmodes : (vget s.servo u).fmode ∉ [1, 4] := by
    simp only [List.mem_cons, List.not_mem_nil, or_false] at hf ⊢
    omega
  refine does_run rfl hs hr ht he (fun _ => hmodes) ?_
  have hservo := s.begun_servo u 4 layer seq arg
  obtain ⟨c, hcur, hlands⟩ := Block.seek_lands (congrArg Servo.release hservo) layer arg.toInt
  have hdone := Block.cmdDone_completes (hlands.cur.trans (hcur.trans (congrArg Servo.cur hservo)))
  have hgidx := congrArg Servo.gidx hservo
  exact ⟨hdone.done, (congrArg Servo.layer hdone.servo).trans hlands.layer,
    (congrArg Servo.gidx hdone.servo).trans (hlands.gidx.trans (congrArg (· + arg.toInt) hgidx)),
    (hdone.psw 2).trans (hlands.onGroove 2 (by decide)), (hdone.psw 5).trans hlands.still.2⟩

theorem does_cmdLayer_held (hl : layer.val ≤ 5) (hf : (vget s.servo u).fmode ∈ [1, 4]) :
    Does (.cmdLayer u layer seq) s fun t =>
      (vget t.servo u).held = some { seek := false, layer := layer, arg := 0, seq := seq.toNat } ∧
      (vget t.servo u).layer = (vget s.servo u).layer ∧ (vget t.servo u).done = (vget s.servo u).done := by
  have hne : (vget s.servo u).fmode ≠ 0 := by
    simp only [List.mem_cons, List.not_mem_nil, or_false] at hf
    omega
  obtain ⟨t, hexec, hpend, hservo⟩ := does_held (i := .cmdLayer u layer seq) rfl hs hr ht
    (s.cmdErr_zero u 0 (by decide) hl (by decide) fun _ => hne) (.inl rfl) hf
  exact ⟨t, hexec, hpend, (congrArg Servo.held hservo :), (congrArg Servo.layer hservo :), (congrArg Servo.done hservo :)⟩

theorem does_cmdSeek_held {arg : BitVec 16} (he : s.cmdErr u 4 layer arg = 0) (hf : (vget s.servo u).fmode ∈ [1, 4]) :
    Does (.cmdSeek u layer arg seq) s fun t =>
      (vget t.servo u).held = some { seek := true, layer := layer, arg := arg.toInt, seq := seq.toNat } ∧
      (vget t.servo u).gidx = (vget s.servo u).gidx := by
  obtain ⟨t, hexec, hpend, hservo⟩ := does_held (i := .cmdSeek u layer arg seq) rfl hs hr ht he (.inr rfl) hf
  exact ⟨t, hexec, hpend, (congrArg Servo.held hservo :), (congrArg Servo.gidx hservo :)⟩

/-- RELEASE runs as `releaseTaken`. -/
theorem does_cmdRelease_taken (hl : layer.val ≤ 5) {P : State → Prop}
    (hP : P { s with toBlock := (s.begun u 5 layer seq 0).releaseTaken u }) : Does (.cmdRelease u layer seq) s P :=
  does_run (run := fun b => b.releaseTaken u) rfl hs hr ht (s.cmdErr_zero u 0 (by decide) hl (by decide) nofun)
    (fun h => absurd h (by decide)) hP

theorem does_cmdRelease_free (hl : layer.val ≤ 5) (h6 : s.psw u 6 = false) : Does (.cmdRelease u layer seq) s fun t =>
    (vget t.servo u).done = seq.toNat ∧ (vget t.servo u).cur = none ∧ t.raised 11 = true := by
  refine does_cmdRelease_taken hs hr ht hl ?_
  have hsafeh := (s.begun_psw u 5 layer seq 0 (i := 6) (by decide)).trans h6
  rw [Block.releaseTaken, hsafeh]
  exact (Block.cmdDone_completes (congrArg Servo.cur (s.begun_servo u 5 layer seq 0))).done

theorem does_cmdRelease_releases (hl : layer.val ≤ 5) (h6 : s.psw u 6 = true) (hok : s.onGroove u = true) :
    Does (.cmdRelease u layer seq) s fun t =>
      ((vget t.servo u).done = seq.toNat ∧ (vget t.servo u).cur = none ∧ t.raised 11 = true) ∧ t.psw u 6 = false ∧
      t.fld (SEs_LSAFE_HLATCH u) = 0 ∧ t.fld (SEs_LSAFE_SAFE u) = 0 := by
  refine does_cmdRelease_taken hs hr ht hl ?_
  let b := s.releaseDue u layer seq
  have hservo : vget b.servo u = _ := s.releaseDue_servo u layer seq
  obtain ⟨perm, hcur, hcommit⟩ := Block.trackCommit_releases ((s.releaseDue_psw u layer seq (by decide)).trans h6)
    (congrArg Servo.release hservo) ((s.releaseDue_onGroove u layer seq).trans hok) (congrArg Servo.cur hservo)
  have hdone := Block.cmdDone_completes hcur
  have hsafeh := b.safehCleared_safeh u
  obtain ⟨hsafe, hlatch⟩ := Block.composed_frees hsafeh (b.safehCleared_latch u) perm
  have hge : 0x80040 ≤ SEs_LSAFE u := by simp only [SEs_LSAFE]; omega
  rw [s.releaseTaken_held u layer seq h6, hcommit]
  exact ⟨hdone.done, (hdone.psw 6).trans ((Block.composed_psw _ u perm (by decide) (by decide)).trans hsafeh),
    (hdone.fld (g := SEs_LSAFE_HLATCH u) hge).trans hlatch, (hdone.fld (g := SEs_LSAFE_SAFE u) hge).trans hsafe⟩

theorem does_cmdRelease_waits (hl : layer.val ≤ 5) (h6 : s.psw u 6 = true) (hok : s.onGroove u = false) :
    Does (.cmdRelease u layer seq) s fun t => t.psw u 6 = true ∧ (vget t.servo u).cur = some (5, seq.toNat) ∧
      (vget t.servo u).done = (vget s.servo u).done := by
  refine does_cmdRelease_taken hs hr ht hl ?_
  let b := s.releaseDue u layer seq
  have hoff : b.onGroove u = false := (s.releaseDue_onGroove u layer seq).trans hok
  have hcommit : b.trackCommit u = b.composed u (b.permits u (b.onGroove u) (vget b.servo u)) :=
    Block.trackCommit_keeps (by rw [hoff, Bool.and_false])
  generalize b.permits u (b.onGroove u) (vget b.servo u) = perm at hcommit
  have hprogram := (b.composed_work u perm).program.trans (congrArg Servo.program (s.releaseDue_servo u layer seq))
  rw [s.releaseTaken_held u layer seq h6, hcommit]
  exact ⟨(b.composed_psw u perm (by decide) (by decide)).trans ((s.releaseDue_psw u layer seq (by decide)).trans h6),
    (congrArg Servo.cur hprogram :), (congrArg Servo.done hprogram :)⟩

end commands

/-- Settles O28: a lemma for each command and each way it ends. -/
theorem servoCommands : Obligations.ServoCommands := by
  unfold Obligations.ServoCommands
  intro s u r layer seq arg found hs hr ht mine done
  refine ⟨fun e he herr => ?rejected, fun k hk => hk ▸ does_cmdNone_reserved hs hr ht k, does_cmdNone hs hr ht,
    does_cmdOff hs hr ht, does_cmdFocus_searching hs hr ht, fun hl hheld => does_cmdFocus_found hs hr ht hl hheld,
    does_cmdLayer hs hr ht, does_cmdSeek hs hr ht, does_cmdLayer_held hs hr ht, does_cmdSeek_held hs hr ht,
    does_cmdRelease_free hs hr ht, fun hl h6 h0 h1 h2 => ?releases, does_cmdRelease_waits hs hr ht⟩
  case rejected =>
    simp only [mine, List.mem_cons, List.not_mem_nil, or_false] at he
    rcases he with rfl | rfl | rfl | rfl | rfl | rfl
    · exact does_rejected rfl hs hr ht herr
    · exact does_rejected rfl hs hr ht herr
    · exact does_rejected (exec_cmdFocus_new ht layer found) hs hr ht herr
    · exact does_rejected rfl hs hr ht herr
    · exact does_rejected rfl hs hr ht herr
    · exact does_rejected rfl hs hr ht herr
  case releases =>
    exact does_cmdRelease_releases hs hr ht hl h6 (by rw [Block.onGroove, h0, h1, h2]; rfl)

end Sys2Proof.Machine

/-!
PROOFS. Moves of a spindle's sequencer (08_spindle.md R215 to R223): the fields, the exchange words and the state of the
spindle after the operations that its commands share.
-/

namespace Sys2Proof.Machine

/-! ### A spindle and its fields (R227) -/

section does

variable {i : Instr} {s : State} {n : Fin 2} {f : Block → Block} (hi : exec i s = s.upd fun b => b.onSpin n f)
include hi

/-- A command of a spindle that is present does what its meaning shows. -/
theorem does_onSpin (hs : s.part.hasSpin n = true) {P : State → Prop} (hP : P { s with toBlock := f s.toBlock }) :
    Does i s P := by
  refine does_upd hi ?_
  rw [Block.onSpin, if_pos hs]
  exact hP

theorem exec_onSpin_same (hf : f s.toBlock = s.toBlock) : exec i s = .next s := by
  refine hi.trans (State.upd_same ?_)
  rw [Block.onSpin]
  split
  · exact hf
  · rfl

end does

@[simp] theorem Block.vget_modSpin_same (b : Block) (n : Fin 2) (f : Spin → Spin) :
    vget (b.modSpin n f).spin n = f (vget b.spin n) := vget_vset_same ..

theorem srcPresent_spin {p : Part} {n : Fin 2} (h : p.hasSpin n = true) {k : Nat} (hk : k < 16) :
    srcPresent p (1184 + 16 * n.val + k) = true := by
  have hn : (1184 + 16 * n.val + k - 1184) / 16 = n.val := by omega
  unfold srcPresent
  repeat rw [if_neg (by omega)]
  rw [if_pos (by omega), hn]
  exact h

theorem Block.raiseSpin_raises {b : Block} {n : Fin 2} (h : b.part.hasSpin n = true) {k : Nat} (hk : k < 16) :
    (b.raiseSpin n k).raised (1184 + 16 * n.val + k) = true := Block.raise_raised_same (srcPresent_spin h hk)

@[simp] theorem Block.raiseSpin_spin (b : Block) (n : Fin 2) (k : Nat) : (b.raiseSpin n k).spin = b.spin :=
  Block.raise_spin ..

@[simp] theorem Block.raiseSpin_le (b : Block) (n : Fin 2) (k : Nat) : (b.raiseSpin n k).le = b.le :=
  (Block.raise_frame ..).same .le (by decide)

/-- The registers of a spindle, past those that raising a source writes. -/
def spinReg (o : Nat) : Bool := 0x120000 ≤ o && o < 0x122000

theorem irqReg_of_spinReg {o : Nat} (h : spinReg o = true) : irqReg o = false := by
  simp only [spinReg, Bool.and_eq_true, decide_eq_true_eq] at h
  exact irqReg_of_ge (by omega)

section fields

/-! Two fields of one spindle are compared for both spindles at once, by evaluation. -/

variable {f g : Nat → Fld} (b : Block) (n : Fin 2)

theorem Block.spinFld_set_apart (h : ∀ n : Fin 2, (f n).apart (g n) = true) (v : Nat) :
    (b.setFld (f n) v).fld (g n) = b.fld (g n) := b.fld_setFld_apart _ _ (h n) v

theorem Block.spinFld_raise (h : ∀ n : Fin 2, irqReg (f n).reg = false) (k : Nat) :
    (b.raiseSpin n k).fld (f n) = b.fld (f n) := b.raise_fld _ (h n)

end fields

/-! ### Exchange words (R166, R211) -/

theorem Block.commitData_exchange (b : Block) {a : Nat} (ha : a < 0x200) (v : Word) : b.commitData a v =
    b.modLe fun l => { l with exNew := l.exNew.filter (fun e => e.1 ≠ a) ++ [(a, v)] } := by
  have hm : a % 8192 = a := Nat.mod_eq_of_lt (by omega)
  simp only [Block.commitData, hm, if_pos ha]

theorem Block.mem_exNew_commitData (b : Block) {a : Nat} (ha : a < 0x200) (v : Word) :
    (a, v) ∈ (b.commitData a v).le.exNew := by
  rw [Block.commitData_exchange b ha]
  exact List.mem_append_right _ List.mem_cons_self

/-- A commit keeps what is due in another exchange word. -/
theorem Block.mem_exNew_of_commitData {b : Block} {a a' : Nat} (ha : a' < 0x200) (hne : a ≠ a') {v : Word}
    (h : (a, v) ∈ b.le.exNew) (w : Word) : (a, v) ∈ (b.commitData a' w).le.exNew := by
  rw [Block.commitData_exchange b ha]
  exact List.mem_append_left _ (List.mem_filter.2 ⟨h, by simp [hne]⟩)

theorem spEx_lt (n : Fin 2) {w : Nat} (hw : w < 0x10) : spEx n + w < 0x200 := by
  simp only [spEx]
  omega

theorem Block.commitData_exchange_rd (b : Block) {a : Nat} (ha : a < 0x200) (v : Word) (o : Nat) :
    (b.commitData a v).rd o = b.rd o := by
  rw [Block.commitData_exchange b ha]
  rfl

/-! ### The speed reference (R220) -/

theorem Block.spRef_rd (b : Block) (n : Fin 2) (rpm o : Nat) : (b.spRef n rpm).rd o = b.rd o :=
  Block.commitData_exchange_rd _ (spEx_lt n (by decide)) _ o

@[simp] theorem Block.spRef_fld (b : Block) (n : Fin 2) (rpm : Nat) (g : Fld) : (b.spRef n rpm).fld g = b.fld g :=
  Block.fld_of_rd (b.spRef_rd n rpm _)

@[simp] theorem Block.spRef_spin (b : Block) (n : Fin 2) (rpm : Nat) :
    vget (b.spRef n rpm).spin n = { vget b.spin n with ref := rpm } := by
  rw [Block.spRef, Block.commitData_spin, Block.vget_modSpin_same]

theorem Block.mem_exNew_of_spRef {b : Block} {n : Fin 2} {a : Nat} (ha : a ≠ spEx n + 7) {v : Word}
    (h : (a, v) ∈ b.le.exNew) (rpm : Nat) : (a, v) ∈ (b.spRef n rpm).le.exNew :=
  Block.mem_exNew_of_commitData (b := b.modSpin n _) (spEx_lt n (by decide)) ha h _

/-! ### The disc of a spindle is cut off (R114, R222) -/

/-- The passes of a disc's surfaces are cut, and their write gates held. -/
def Block.discCut (b : Block) (n : Fin 2) : Block :=
  (((b.cutPass (Fin.ofNat 4 (2 * n.val))).cutPass (Fin.ofNat 4 (2 * n.val + 1))).applyHolds
    (Fin.ofNat 4 (2 * n.val))).applyHolds (Fin.ofNat 4 (2 * n.val + 1))

/-- The registers of a disc's surfaces that cutting it off may write. -/
def discRegs (n : Fin 2) : List Nat :=
  shutRegs (Fin.ofNat 4 (2 * n.val)).val ++ shutRegs (Fin.ofNat 4 (2 * n.val + 1)).val

/-- The surfaces of a disc. -/
theorem surf_of_spinOf {n : Fin 2} {u : Fin 4} (h : spinOf u = n) :
    u = Fin.ofNat 4 (2 * n.val) ∨ u = Fin.ofNat 4 (2 * n.val + 1) := by
  revert n u
  decide

theorem Block.cutPass_shutRegs (b : Block) (u : Fin 4) : Block.regsOnly (shutRegs u) b (b.cutPass u) :=
  Block.regsOnly_trans ((Block.regsOnly_refl _ b).setFld (f := SEs_LSAFE_WGATE u) (lsafe_mem_shutRegs u) 0)
    ((Block.PassWork.cutPass b u).mono (List.subset_cons_self _ _))

theorem Block.applyHolds_shutRegs (b : Block) (u : Fin 4) : Block.regsOnly (shutRegs u) b (b.applyHolds u) :=
  (b.applyHolds_regsOnly u).mono (List.cons_subset.2 ⟨lsafe_mem_shutRegs u, List.nil_subset _⟩)

theorem Block.discCut_regs (b : Block) (n : Fin 2) : Block.regsOnly (discRegs n) b (b.discCut n) := by
  have h0 : shutRegs (Fin.ofNat 4 (2 * n.val)).val ⊆ discRegs n := List.subset_append_left _ _
  have h1 : shutRegs (Fin.ofNat 4 (2 * n.val + 1)).val ⊆ discRegs n := List.subset_append_right _ _
  exact Block.regsOnly_trans (Block.regsOnly_trans (Block.regsOnly_trans ((Block.cutPass_shutRegs _ _).mono h0)
    ((Block.cutPass_shutRegs _ _).mono h1)) ((Block.applyHolds_shutRegs _ _).mono h0))
    ((Block.applyHolds_shutRegs _ _).mono h1)

theorem Calm.discCut {a b : Block} (h : Calm a b) (n : Fin 2) : Calm a (b.discCut n) :=
  (((h.cutPass _).cutPass _).applyHolds _).applyHolds _

theorem Block.cutPass_wgate (b : Block) (u : Fin 4) : (b.cutPass u).fld (SEs_LSAFE_WGATE u) = 0 :=
  ((Block.PassWork.cutPass b u).fld (g := SEs_LSAFE_WGATE u) (not_mem_passRegs u.isLt (.inl rfl))
    (irqReg_lsafe u)).trans (b.fld_setFld_same (SEs_LSAFE_WGATE u) rfl 0)

/-- No pass runs on a disc that is cut off, and its write gates are 0. -/
theorem Block.discCut_cuts (b : Block) {n : Fin 2} {u : Fin 4} (h : spinOf u = n) :
    (b.discCut n).fld (SEs_LSAFE_WGATE u) = 0 ∧ (vget (b.discCut n).wp u).running = none := by
  have hcut (c : Block) (hc : Calm (c.cutPass u) (b.discCut n)) :
      (b.discCut n).fld (SEs_LSAFE_WGATE u) = 0 ∧ (vget (b.discCut n).wp u).running = none :=
    ⟨hc.gate _ (gateReg_lsafe u) (c.cutPass_wgate u), (hc.wp u).running (c.cutPass_running u)⟩
  rcases surf_of_spinOf h with rfl | rfl
  · exact hcut b (((Calm.refl.cutPass _).applyHolds _).applyHolds _)
  · exact hcut _ ((Calm.refl.applyHolds _).applyHolds _)

theorem Block.unlock_locked {b : Block} {n : Fin 2} (h : b.on (SPn_STAT_LOCK n) = true) (event : Bool) :
    b.unlock n event =
      let c := (b.setFld (SPn_STAT_LOCK n) 0).discCut n
      if event then c.raiseSpin n 1 else c := by
  unfold Block.unlock
  rw [if_neg (by simp [h])]
  rfl

theorem Block.unlock_free {b : Block} {n : Fin 2} (h : b.on (SPn_STAT_LOCK n) = false) (event : Bool) :
    b.unlock n event = b := by
  unfold Block.unlock
  rw [if_pos (by simp [h])]

/-- The registers that a move of the sequencer may write. -/
def moveRegs (n : Fin 2) : List Nat := SPn_STAT n :: SPn_CNT n :: discRegs n

/-- The field is one that every move of the sequencer leaves: of SPn_STAT those above LOCK and FAULT, of SPn_CNT those
above BRAKE, and all of the registers that a move does not write. -/
def moveKeeps (n : Fin 2) (g : Fld) : Bool :=
  decide (g.reg ∉ moveRegs n) && !irqReg g.reg || g.reg = SPn_STAT n && decide (6 ≤ g.lo) ||
    g.reg = SPn_CNT n && decide (8 ≤ g.lo)

theorem moveKeeps_apart {n : Fin 2} {f g : Fld} (h : moveKeeps n g = true)
    (hf : f.reg = SPn_STAT n ∧ f.hi < 6 ∨ f.reg = SPn_CNT n ∧ f.hi < 8) : f.apart g = true := by
  have hne : SPn_STAT n ≠ SPn_CNT n := by
    simp only [SPn_STAT, SPn_CNT]
    omega
  have hmem : f.reg ∈ moveRegs n := by
    rcases hf with ⟨hr, _⟩ | ⟨hr, _⟩ <;> simp [moveRegs, hr]
  simp only [moveKeeps, Bool.or_eq_true, Bool.and_eq_true, decide_eq_true_eq] at h
  rcases h with (⟨hr, _⟩ | ⟨hr, hl⟩) | ⟨hr, hl⟩
  · exact apart_of_reg_ne fun he => hr (he ▸ hmem)
  · rcases hf with ⟨hf, hh⟩ | ⟨hf, _⟩
    · exact apart_of_bits (.inl (by omega))
    · exact apart_of_reg_ne (by rw [hf, hr]; exact hne.symm)
  · rcases hf with ⟨hf, _⟩ | ⟨hf, hh⟩
    · exact apart_of_reg_ne (by rw [hf, hr]; exact hne)
    · exact apart_of_bits (.inl (by omega))

theorem spinRegs_not_mem_discRegs {o : Nat} (h : spinReg o = true) (n : Fin 2) : o ∉ discRegs n := by
  simp only [spinReg, Bool.and_eq_true, decide_eq_true_eq] at h
  simp only [discRegs, shutRegs, List.mem_append, List.mem_cons, mem_passRegs, SEs_LSAFE, WP_STAT, WP_BFAIL_LO,
    WP_BFAIL_HI, WP_CNT_CELLS, WP_CNT_VFAIL, WP_CNT_VOID, SEs_BGATE, WP_Ss_WSEQ, WP_Ss_VSEQ, CAL_STAT, CAL_CNT,
    CAL_Ss_WP]
  omega

theorem spinReg_stat (n : Fin 2) : spinReg (SPn_STAT n) = true := by
  revert n
  decide

theorem spinReg_cnt (n : Fin 2) : spinReg (SPn_CNT n) = true := by
  revert n
  decide

/-- A field that a move leaves lies in no register that cutting the disc off writes. -/
theorem moveKeeps_reg {n : Fin 2} {g : Fld} (h : moveKeeps n g = true) : g.reg ∉ discRegs n ∧ irqReg g.reg = false := by
  simp only [moveKeeps, Bool.or_eq_true, Bool.and_eq_true, decide_eq_true_eq, Bool.not_eq_true'] at h
  rcases h with (⟨hr, hi⟩ | ⟨hr, _⟩) | ⟨hr, _⟩
  · exact ⟨fun hm => hr (List.mem_cons_of_mem _ (List.mem_cons_of_mem _ hm)), hi⟩
  · exact hr ▸ ⟨spinRegs_not_mem_discRegs (spinReg_stat n) n, irqReg_of_spinReg (spinReg_stat n)⟩
  · exact hr ▸ ⟨spinRegs_not_mem_discRegs (spinReg_cnt n) n, irqReg_of_spinReg (spinReg_cnt n)⟩

/-- Past LOCK, an unlock writes no register of the spindle. -/
theorem Block.unlock_fld (b : Block) (n : Fin 2) (event : Bool) {g : Fld} (hd : g.reg ∉ discRegs n)
    (hi : irqReg g.reg = false) (ha : (SPn_STAT_LOCK n).apart g = true) : (b.unlock n event).fld g = b.fld g := by
  cases h : b.on (SPn_STAT_LOCK n) with
  | false => rw [Block.unlock_free h]
  | true =>
    have hcut : ((b.setFld (SPn_STAT_LOCK n) 0).discCut n).fld g = b.fld g :=
      ((Block.discCut_regs _ n).fld hd hi).trans (b.fld_setFld_apart _ _ ha 0)
    rw [Block.unlock_locked h]
    dsimp only
    split
    · exact (Block.raise_fld _ _ hi).trans hcut
    · exact hcut

theorem Block.unlock_lock (b : Block) (n : Fin 2) (event : Bool) : (b.unlock n event).fld (SPn_STAT_LOCK n) = 0 := by
  cases h : b.on (SPn_STAT_LOCK n) with
  | false => simpa [Block.unlock_free h, Block.on_eq] using h
  | true =>
    have hi : irqReg (SPn_STAT n) = false := irqReg_of_spinReg (spinReg_stat n)
    have hcut : ((b.setFld (SPn_STAT_LOCK n) 0).discCut n).fld (SPn_STAT_LOCK n) = 0 :=
      ((Block.discCut_regs _ n).fld (spinRegs_not_mem_discRegs (spinReg_stat n) n) hi).trans
        (b.fld_setFld_same (SPn_STAT_LOCK n) rfl 0)
    rw [Block.unlock_locked h]
    dsimp only
    split
    · exact (Block.raise_fld _ _ hi).trans hcut
    · exact hcut

/-! ### A move of the sequencer (R215) -/

/-- The sequencer's state is set, with FAULT, SPCMD and the accelerating count. -/
def Block.spEntered (b : Block) (n : Fin 2) (st : Nat) : Block :=
  (((b.setFld (SPn_STAT_STATE n) st).setBit (SPn_STAT_FAULT n) (st = 12)).commitData (spEx n)
    (BitVec.ofNat 32 (spFmode st))).modSpin n fun x => { x with accel := accelAfter st x.accel }

/-- What a move does past the state: LOCK, the BRAKE count and the events. -/
def Block.spFollows (b : Block) (n : Fin 2) (st : Nat) (lossy : Bool) : Block :=
  let b := if st = 6 then b else b.unlock n (!lossy)
  let b := if st = 10 then b.bump (SPn_CNT_BRAKE n) 1 else b
  let b := if st = 12 then b.raiseSpin n 6 else b
  if st = 13 then b.raiseSpin n 10 else b

theorem Block.spGo_eq (b : Block) (n : Fin 2) (st : Nat) (lossy : Bool) :
    b.spGo n st lossy = (b.spEntered n st).spFollows n st lossy := rfl

section move

variable (b : Block) (n : Fin 2) (st : Nat) (lossy : Bool)

theorem Block.spFollows_spin : (b.spFollows n st lossy).spin = b.spin := by
  unfold Block.spFollows
  simp only [apply_ite Block.spin, Block.raiseSpin_spin, Block.bump_spin, Block.unlock_spin, ite_self]

theorem Block.spFollows_le : (b.spFollows n st lossy).le = b.le := by
  have hunlock : (b.unlock n (!lossy)).le = b.le :=
    (frame_unlock (l₀ := [.regs, .irq, .servo, .wp, .hq, .store, .ml, .out]) .refl n _ (List.Subset.refl _)).same .le
      (by decide)
  unfold Block.spFollows
  simp only [apply_ite Block.le, Block.raiseSpin_le, Block.bump_le, ite_self, hunlock]

theorem Block.spFollows_fld {g : Fld} (hd : g.reg ∉ discRegs n) (hi : irqReg g.reg = false)
    (hl : st = 6 ∨ (SPn_STAT_LOCK n).apart g = true) (hc : (SPn_CNT_BRAKE n).apart g = true) :
    (b.spFollows n st lossy).fld g = b.fld g := by
  have hraise (c : Block) (k : Nat) : (c.raiseSpin n k).fld g = c.fld g := Block.raise_fld c _ hi
  have hbump (c : Block) : (c.bump (SPn_CNT_BRAKE n) 1).fld g = c.fld g := c.fld_bump_apart _ _ hc 1
  unfold Block.spFollows
  simp only [apply_ite (Block.fld · g), hraise, hbump, ite_self]
  rcases hl with rfl | hl
  · rfl
  · rw [b.unlock_fld n _ hd hi hl, ite_self]

end move

theorem Block.spFollows_lock {st : Nat} (h : st ≠ 6) (b : Block) (n : Fin 2) (lossy : Bool) :
    (b.spFollows n st lossy).fld (SPn_STAT_LOCK n) = 0 := by
  have hi : irqReg (SPn_STAT_LOCK n).reg = false := irqReg_of_spinReg (spinReg_stat n)
  have hraise (c : Block) (k : Nat) : (c.raiseSpin n k).fld (SPn_STAT_LOCK n) = c.fld (SPn_STAT_LOCK n) :=
    Block.raise_fld c _ hi
  have hbump (c : Block) : (c.bump (SPn_CNT_BRAKE n) 1).fld (SPn_STAT_LOCK n) = c.fld (SPn_STAT_LOCK n) :=
    Block.spinFld_set_apart (f := SPn_CNT_BRAKE) (g := SPn_STAT_LOCK) c n (by decide) _
  unfold Block.spFollows
  simp only [if_neg h, apply_ite (Block.fld · (SPn_STAT_LOCK n)), hraise, hbump, ite_self, Block.unlock_lock]

/-- Of the registers, entering a state writes STATE and FAULT. -/
theorem Block.spEntered_written (b : Block) (n : Fin 2) (st : Nat) (g : Fld) : (b.spEntered n st).fld g =
    ((b.setFld (SPn_STAT_STATE n) st).setBit (SPn_STAT_FAULT n) (st = 12)).fld g :=
  (Block.modSpin_fld ..).trans (Block.fld_of_rd (Block.commitData_exchange_rd _ (spEx_lt n (w := 0) (by decide)) _ _))

theorem Block.spEntered_fld (b : Block) (n : Fin 2) (st : Nat) {g : Fld} (hs : (SPn_STAT_STATE n).apart g = true)
    (hf : (SPn_STAT_FAULT n).apart g = true) : (b.spEntered n st).fld g = b.fld g := by
  rw [Block.spEntered_written, Block.fld_setBit_apart _ _ _ hf, Block.fld_setFld_apart _ _ _ hs]

theorem Block.spEntered_fault (b : Block) (n : Fin 2) (st : Nat) :
    (b.spEntered n st).fld (SPn_STAT_FAULT n) = if st = 12 then 1 else 0 := by
  rw [Block.spEntered_written, Block.fld_setBit_same _ _ rfl]
  by_cases h : st = 12 <;> simp [h]

theorem Block.spEntered_state (b : Block) (n : Fin 2) {st : Nat} (h : st < 16) :
    (b.spEntered n st).fld (SPn_STAT_STATE n) = st := by
  have hapart : ∀ n : Fin 2, (SPn_STAT_FAULT n).apart (SPn_STAT_STATE n) = true := by decide
  rw [Block.spEntered_written, Block.fld_setBit_apart _ _ _ (hapart n)]
  exact (b.fld_setFld_same (SPn_STAT_STATE n) rfl st).trans (Nat.mod_eq_of_lt h)

section move

variable (b : Block) (n : Fin 2) (st : Nat) (lossy : Bool)

@[simp] theorem Block.spGo_spin : vget (b.spGo n st lossy).spin n =
    { vget b.spin n with accel := accelAfter st (vget b.spin n).accel } := by
  rw [Block.spGo_eq, Block.spFollows_spin, Block.spEntered, Block.vget_modSpin_same, Block.commitData_spin]
  rfl

theorem Block.spGo_le : (b.spGo n st lossy).le = (b.commitData (spEx n) (BitVec.ofNat 32 (spFmode st))).le := by
  have ha : spEx n < 0x200 := spEx_lt n (w := 0) (by decide)
  rw [Block.spGo_eq, Block.spFollows_le, Block.spEntered, Block.commitData_exchange _ ha,
    Block.commitData_exchange b ha]
  rfl

/-- SPCMD takes the FMODE of the state (R211). -/
theorem Block.spGo_spcmd : (spEx n, BitVec.ofNat 32 (spFmode st)) ∈ (b.spGo n st lossy).le.exNew := by
  rw [Block.spGo_le]
  exact b.mem_exNew_commitData (spEx_lt n (w := 0) (by decide)) _

/-- Past the state, a move writes LOCK of SPn_STAT at most. -/
theorem Block.spFollows_stat {g : Fld} (hr : g.reg = SPn_STAT n) (hl : (SPn_STAT_LOCK n).apart g = true) :
    (b.spFollows n st lossy).fld g = b.fld g := by
  have hc : (SPn_CNT_BRAKE n).apart g = true := apart_of_reg_ne (by
    simp only [hr, SPn_CNT_BRAKE, SPn_CNT, SPn_STAT]
    omega)
  exact b.spFollows_fld n st lossy (hr ▸ spinRegs_not_mem_discRegs (spinReg_stat n) n)
    (hr ▸ irqReg_of_spinReg (spinReg_stat n)) (.inr hl) hc

theorem Block.spGo_state (h : st < 16) : (b.spGo n st lossy).fld (SPn_STAT_STATE n) = st :=
  (Block.spFollows_stat _ n st lossy rfl (apart_of_bits (.inr (by decide : (3 : Nat) < 4)))).trans
    (b.spEntered_state n h)

theorem Block.spGo_fault : (b.spGo n st lossy).fld (SPn_STAT_FAULT n) = if st = 12 then 1 else 0 :=
  (Block.spFollows_stat _ n st lossy rfl (apart_of_bits (f := SPn_STAT_LOCK n)
    (g := SPn_STAT_FAULT n) (.inl (by decide : 4 < 5)))).trans (b.spEntered_fault n st)

theorem Block.spGo_lock (h : st ≠ 6) : (b.spGo n st lossy).fld (SPn_STAT_LOCK n) = 0 :=
  Block.spFollows_lock h ..

/-- What a move of the sequencer leaves of the registers. -/
theorem Block.spGo_fld_of_keeps {g : Fld} (h : moveKeeps n g = true) : (b.spGo n st lossy).fld g = b.fld g := by
  obtain ⟨hd, hi⟩ := moveKeeps_reg h
  rw [Block.spGo_eq, Block.spFollows_fld _ n st lossy hd hi
    (.inr (moveKeeps_apart h (.inl ⟨rfl, (by decide : 4 < 6)⟩)))
    (moveKeeps_apart h (.inr ⟨rfl, (by decide : 7 < 8)⟩)),
    b.spEntered_fld n st (moveKeeps_apart h (.inl ⟨rfl, (by decide : 3 < 6)⟩))
      (moveKeeps_apart h (.inl ⟨rfl, (by decide : 5 < 6)⟩))]

/-- The same for a field of each spindle, by evaluation. -/
theorem Block.spGo_fld {f : Nat → Fld} (h : ∀ n : Fin 2, moveKeeps n (f n) = true) :
    (b.spGo n st lossy).fld (f n) = b.fld (f n) := b.spGo_fld_of_keeps n st lossy (h n)

end move

theorem Block.mem_exNew_of_spGo {b : Block} {n : Fin 2} {a : Nat} (ha : a ≠ spEx n) {v : Word} (h : (a, v) ∈ b.le.exNew)
    (st : Nat) (lossy : Bool) : (a, v) ∈ (b.spGo n st lossy).le.exNew := by
  rw [Block.spGo_le]
  exact Block.mem_exNew_of_commitData (spEx_lt n (w := 0) (by decide)) ha h _

theorem Block.spGo_raises_fault {b : Block} {n : Fin 2} (h : b.part.hasSpin n = true) (lossy : Bool) :
    (b.spGo n 12 lossy).raised (1184 + 16 * n.val + 6) = true := by
  have hentered : Calm b (b.spEntered n 12) :=
    (((Calm.refl.setFld (SPn_STAT_STATE n) 12 (guardedReg_spStat n)).setBit (SPn_STAT_FAULT n) _
      (guardedReg_spStat n)).commitData _ _).modSpin n _
  have hunlock : Calm b ((b.spEntered n 12).unlock n (!lossy)) := hentered.unlock n _
  have heq : b.spGo n 12 lossy = ((b.spEntered n 12).unlock n (!lossy)).raiseSpin n 6 := by
    rw [Block.spGo_eq]
    simp [Block.spFollows]
  rw [heq]
  exact Block.raiseSpin_raises (hunlock.part ▸ h) (by decide)

end Sys2Proof.Machine

/-!
PROOFS. What the sequencer's shared operations do (08_spindle.md R216 to R226): attempts that begin and fail, faults, a
rotor loss, focus released by firmware, requests that proceed, and speeds that change.
-/

namespace Sys2Proof.Machine

/-- A command of a spindle that is present, its meaning on this state worked out. -/
theorem does_spin {i : Instr} {s : State} {n : Fin 2} {f : Block → Block} {c : Block} {P : State → Prop}
    (hi : exec i s = s.upd fun b => b.onSpin n f) (hs : s.part.hasSpin n = true) (hf : f s.toBlock = c)
    (hP : P { s with toBlock := c }) : Does i s P := does_onSpin hi hs (hf ▸ hP)

/-- A register whose whole word, read as a field, is the same reads the same. -/
theorem Block.rd_of_fld {b c : Block} {o : Nat} (h : c.fld ⟨o, 31, 0⟩ = b.fld ⟨o, 31, 0⟩) : c.rd o = b.rd o := by
  have hget (v : Word) : Fld.get ⟨o, 31, 0⟩ v = v.toNat := by
    refine (Fld.get_eq_div_mod rfl v).trans ?_
    simp only [Nat.pow_zero, Nat.div_one]
    exact Nat.mod_eq_of_lt v.isLt
  refine BitVec.eq_of_toNat_eq ?_
  rw [← hget, ← hget]
  exact h

theorem Block.dmem_of_fld {b c : Block} {a : Nat}
    (h : c.fld (LE_DMEM_w_W (a % 8192)) = b.fld (LE_DMEM_w_W (a % 8192))) : c.dmem a = b.dmem a := Block.rd_of_fld h

theorem moveKeeps_dmem (n : Fin 2) (a : Nat) : moveKeeps n (LE_DMEM_w_W (a % 8192)) = true := by
  have ha : a % 8192 < 8192 := Nat.mod_lt _ (by decide)
  have hirq : irqReg (LE_DMEM_w (a % 8192)) = false := irqReg_of_ge (by simp only [LE_DMEM_w]; omega)
  have hmem : LE_DMEM_w (a % 8192) ∉ moveRegs n := by
    simp only [moveRegs, discRegs, shutRegs, List.mem_append, List.mem_cons, mem_passRegs, LE_DMEM_w, SPn_STAT, SPn_CNT,
      SEs_LSAFE, WP_STAT, WP_BFAIL_LO, WP_BFAIL_HI, WP_CNT_CELLS, WP_CNT_VFAIL, WP_CNT_VOID, SEs_BGATE, WP_Ss_WSEQ,
      WP_Ss_VSEQ, CAL_STAT, CAL_CNT, CAL_Ss_WP]
    omega
  simp [moveKeeps, LE_DMEM_w_W, hmem, hirq]

theorem Block.raiseSpin_dmem (b : Block) (n : Fin 2) (k a : Nat) : (b.raiseSpin n k).dmem a = b.dmem a :=
  b.raise_rd _ (irqReg_of_ge (by simp only [LE_DMEM_w]; omega))

theorem Block.async_rd (b : Block) (t info data o : Nat) : (b.async t info data).rd o = b.rd o :=
  Block.rd_congr ((b.async_frame t info data).same .part (by decide))
    ((b.async_frame t info data).same .regs (by decide)) o

/-! ### Attempts (R216, R218) -/

/-- The bridge coasts and the shunt offset has been measured, before SENSE. -/
def Block.senseReady (b : Block) (n : Fin 2) : Block :=
  let b := (b.spClear n).modSpin n fun x => { x with shadowLate := false }
  b.freeVal.2.setFld (SPn_SHUNT_OFS_OFS n) b.freeVal.1

theorem Block.spAttempt_eq (b : Block) (n : Fin 2) : b.spAttempt n = (b.senseReady n).spGo n 1 false := rfl

theorem Block.spAttempt_state (b : Block) (n : Fin 2) : (b.spAttempt n).fld (SPn_STAT_STATE n) = 1 :=
  b.spAttempt_eq n ▸ (b.senseReady n).spGo_state n 1 false (by decide)

theorem Block.spAttempt_run (b : Block) (n : Fin 2) : (b.spAttempt n).fld (SPn_CTL_RUN n) = b.fld (SPn_CTL_RUN n) :=
  ((b.senseReady n).spGo_fld n 1 false (f := SPn_CTL_RUN) (by decide)).trans
    (Block.spinFld_set_apart (f := SPn_SHUNT_OFS_OFS) (g := SPn_CTL_RUN) _ n (by decide) _)

theorem Block.spStopped_stops {b : Block} {n : Fin 2} (h : b.part.hasSpin n = true) :
    (b.spStopped n).fld (SPn_STAT_STATE n) = 0 ∧ (b.spStopped n).raised (1184 + 16 * n.val + 7) = true := by
  have hcalm : Calm b ((b.spClear n).spGo n 0 false) := (Calm.refl.modSpin n _).spGo n 0 false
  exact ⟨(Block.spinFld_raise (f := SPn_STAT_STATE) _ n (by decide) 7).trans (Block.spGo_state _ n 0 false (by decide)),
    Block.raiseSpin_raises (hcalm.part ▸ h) (by decide)⟩

theorem Block.spFaulted_fld (b : Block) (n : Fin 2) (why : Nat) (g : Fld) : (b.spFaulted n why).fld g = b.fld g :=
  Block.fld_of_rd (b.async_rd 6 n.val why _)

theorem Calm.spFaulted {a b : Block} (h : Calm a b) (n : Fin 2) (why : Nat) : Calm a (b.spFaulted n why) :=
  (h.async _ _ _).modHq _ fun _ => ⟨rfl, rfl⟩

/-- The failed attempt is counted, in ATTEMPT and in SFAIL, and told. -/
def Block.failCounted (b : Block) (n : Fin 2) : Block :=
  (((b.spClear n).setFld (SPn_STAT_ATTEMPT n) (b.fld (SPn_STAT_ATTEMPT n) + 1)).bump (SPn_CNT_SFAIL n) 1).raiseSpin n 5

theorem Block.spFail_eq (b : Block) (n : Fin 2) : b.spFail n =
    if 4 ≤ b.fld (SPn_STAT_ATTEMPT n) + 1 then
      (((b.failCounted n).setFld (SPn_FAULT_START n) 1).spGo n 12 false).spFaulted n 2
    else (b.failCounted n).spGo n 11 false := rfl

theorem Block.failCounted_attempt {b : Block} {n : Fin 2} (h : b.fld (SPn_STAT_ATTEMPT n) ≤ 3) :
    (b.failCounted n).fld (SPn_STAT_ATTEMPT n) = b.fld (SPn_STAT_ATTEMPT n) + 1 := by
  refine (Block.spinFld_raise (f := SPn_STAT_ATTEMPT) _ n (by decide) 5).trans ?_
  refine (Block.spinFld_set_apart (f := SPn_CNT_SFAIL) (g := SPn_STAT_ATTEMPT) _ n (by decide) _).trans ?_
  exact (Block.fld_setFld_same _ (SPn_STAT_ATTEMPT n) rfl _).trans
    (Nat.mod_eq_of_lt (Nat.lt_of_le_of_lt (Nat.succ_le_succ h) (by simp [SPn_STAT_ATTEMPT])))

theorem Block.failCounted_calm (b : Block) (n : Fin 2) : Calm b (b.failCounted n) :=
  (((Calm.refl.modSpin n _).setFld (SPn_STAT_ATTEMPT n) _ (guardedReg_spStat n)).bump (SPn_CNT_SFAIL n) _
    (guardedReg_spCnt n)).raiseSpin n 5

theorem Block.failCounted_raises {b : Block} {n : Fin 2} (h : b.part.hasSpin n = true) :
    (b.failCounted n).raised (1184 + 16 * n.val + 5) = true := by
  have hcounted : Calm b (((b.spClear n).setFld (SPn_STAT_ATTEMPT n) (b.fld (SPn_STAT_ATTEMPT n) + 1)).bump
      (SPn_CNT_SFAIL n) 1) :=
    ((Calm.refl.modSpin n _).setFld (SPn_STAT_ATTEMPT n) _ (guardedReg_spStat n)).bump (SPn_CNT_SFAIL n) _
      (guardedReg_spCnt n)
  exact Block.raiseSpin_raises (hcounted.part ▸ h) (by decide)

/-- What a failed attempt shows (R218). -/
def Block.AttemptFails (b t : Block) (n : Fin 2) : Prop :=
  t.fld (SPn_STAT_ATTEMPT n) = b.fld (SPn_STAT_ATTEMPT n) + 1 ∧ t.raised (1184 + 16 * n.val + 5) = true ∧
    (b.fld (SPn_STAT_ATTEMPT n) < 3 → t.fld (SPn_STAT_STATE n) = 11) ∧
    (b.fld (SPn_STAT_ATTEMPT n) = 3 → t.fld (SPn_STAT_STATE n) = 12 ∧ t.fld (SPn_FAULT_START n) = 1 ∧
      t.fld (SPn_STAT_FAULT n) = 1 ∧ t.raised (1184 + 16 * n.val + 6) = true)

theorem guardedReg_spFault (n : Fin 2) : guardedReg (SPn_FAULT n) = false := by
  simp only [guardedReg_eq_false, SPn_FAULT]; omega

theorem Block.spFail_fails {b : Block} {n : Fin 2} (h : b.part.hasSpin n = true) (ha : b.fld (SPn_STAT_ATTEMPT n) ≤ 3) :
    b.AttemptFails (b.spFail n) n := by
  have hatt := Block.failCounted_attempt ha
  have hraised := Block.failCounted_raises h
  rw [Block.spFail_eq]
  split
  · next h4 =>
    let c := (b.failCounted n).setFld (SPn_FAULT_START n) 1
    have hset : Calm (b.failCounted n) c := Calm.refl.setFld (SPn_FAULT_START n) 1 (guardedReg_spFault n)
    have hfaulted : Calm (c.spGo n 12 false) ((c.spGo n 12 false).spFaulted n 2) := Calm.refl.spFaulted n 2
    have hpart : c.part.hasSpin n = true := (b.failCounted_calm n).part ▸ h
    refine ⟨?_, ((hset.spGo n 12 false).trans hfaulted).raised _ hraised, fun h3 => by omega, fun _ => ⟨?_, ?_, ?_, ?_⟩⟩
    · refine ((Block.spFaulted_fld ..).trans (c.spGo_fld n 12 false (f := SPn_STAT_ATTEMPT) (by decide))).trans ?_
      exact (Block.spinFld_set_apart (f := SPn_FAULT_START) (g := SPn_STAT_ATTEMPT) _ n (by decide) 1).trans hatt
    · exact (Block.spFaulted_fld ..).trans (c.spGo_state n 12 false (by decide))
    · refine ((Block.spFaulted_fld ..).trans (c.spGo_fld n 12 false (f := SPn_FAULT_START) (by decide))).trans ?_
      exact Block.fld_setFld_same _ (SPn_FAULT_START n) rfl 1
    · exact (Block.spFaulted_fld ..).trans (c.spGo_fault n 12 false)
    · exact hfaulted.raised _ (Block.spGo_raises_fault hpart false)
  · next h4 =>
    let c := b.failCounted n
    exact ⟨(c.spGo_fld n 11 false (f := SPn_STAT_ATTEMPT) (by decide)).trans hatt,
      (Calm.refl.spGo n 11 false).raised _ hraised, fun _ => c.spGo_state n 11 false (by decide),
      fun h3 => absurd h3 (by omega)⟩

/-! ### Faults (R225, R226) -/

theorem Block.spFault_enters {b : Block} {n : Fin 2} (h : b.fld (SPn_STAT_STATE n) ≠ 12) {f : Fld}
    (hf : f.reg = SPn_FAULT n) :
    b.spFault n f = (((b.setFld f 1).spClear n).spGo n 12 false).spFaulted n 0 := by
  have hst : (b.setFld f 1).spState n = b.fld (SPn_STAT_STATE n) :=
    b.fld_setFld_apart _ _ (apart_of_reg_ne (by rw [hf]; simp only [SPn_FAULT, SPn_STAT_STATE, SPn_STAT]; omega)) 1
  unfold Block.spFault
  exact if_neg (hst ▸ h)

/-- FAULT is entered with a fault bit set, and no rotor loss is declared. -/
structure Block.FaultEntered (b t : Block) (n : Fin 2) (f : Fld) : Prop where
  state : t.fld (SPn_STAT_STATE n) = 12
  fault : t.fld (SPn_STAT_FAULT n) = 1
  lock : t.fld (SPn_STAT_LOCK n) = 0
  rloss : t.fld (SPn_STAT_RLOSS n) = b.fld (SPn_STAT_RLOSS n)
  bit : t.fld f = 1
  others : ∀ g, g.reg = SPn_FAULT n → f.apart g = true → t.fld g = b.fld g
  raised : t.raised (1184 + 16 * n.val + 6) = true

theorem moveKeeps_fault {n : Fin 2} {g : Fld} (h : g.reg = SPn_FAULT n) : moveKeeps n g = true := by
  have hreg : ∀ n : Fin 2, SPn_FAULT n ∉ moveRegs n ∧ irqReg (SPn_FAULT n) = false := by decide
  simp [moveKeeps, h, hreg n]

theorem Block.spFault_faults {b : Block} {n : Fin 2} (hs : b.part.hasSpin n = true)
    (h : b.fld (SPn_STAT_STATE n) ≠ 12) {f : Fld} (hf : f.reg = SPn_FAULT n) (hbit : f.hi = f.lo) (hlo : f.lo < 32) :
    b.FaultEntered (b.spFault n f) n f := by
  let c := (b.setFld f 1).spClear n
  have hok : f.ok = true := by simp [Fld.ok, hbit, hlo]
  have hkept {g : Fld} (hg : moveKeeps n g = true) : ((c.spGo n 12 false).spFaulted n 0).fld g = (b.setFld f 1).fld g :=
    (Block.spFaulted_fld ..).trans (c.spGo_fld_of_keeps n 12 false hg)
  have hrloss : (b.setFld f 1).fld (SPn_STAT_RLOSS n) = b.fld (SPn_STAT_RLOSS n) :=
    b.fld_setFld_apart _ _ (apart_of_reg_ne (by rw [hf]; simp only [SPn_FAULT, SPn_STAT_RLOSS, SPn_STAT]; omega)) 1
  have hkeeps : ∀ n : Fin 2, moveKeeps n (SPn_STAT_RLOSS n) = true := by decide
  rw [Block.spFault_enters h hf]
  exact {
    state := (Block.spFaulted_fld ..).trans (c.spGo_state n 12 false (by decide))
    fault := (Block.spFaulted_fld ..).trans (c.spGo_fault n 12 false)
    lock := (Block.spFaulted_fld ..).trans (c.spGo_lock n 12 false (by decide))
    rloss := (hkept (hkeeps n)).trans hrloss
    bit := by
      rw [hkept (moveKeeps_fault hf), Block.fld_setFld_same _ _ hok, hbit]
      simp
    others := fun g hg ha => (hkept (moveKeeps_fault hg)).trans (b.fld_setFld_apart _ _ ha 1)
    raised := (Calm.refl.spFaulted n 0).raised _ (Block.spGo_raises_fault (b := c) hs false) }

/-! ### A rotor loss (R223) -/

/-- The loss is marked in RLOSS, before the sequencer coasts. -/
def Block.lossMarked (b : Block) (n : Fin 2) : Block :=
  ((b.spClear n).modSpin n fun x => { x with lossSense := true }).setFld (SPn_STAT_RLOSS n) 1

/-- The surfaces of the disc are unavailable to placement, and the loss is counted. -/
def Block.discDown (b : Block) (n : Fin 2) : Block :=
  ((b.surfDown (Fin.ofNat 4 (2 * n.val)) 4).surfDown (Fin.ofNat 4 (2 * n.val + 1)) 4).modHq fun h =>
    { h with rotorLosses := h.rotorLosses + 1 }

/-- The calibrations of the disc's surfaces are abandoned. -/
def Block.discAbandoned (b : Block) (n : Fin 2) : Block :=
  (b.calAbandon (Fin.ofNat 4 (2 * n.val))).calAbandon (Fin.ofNat 4 (2 * n.val + 1))

/-- The loss is told to placement and calibration, and its event is due at the close. -/
def Block.lossTold (b : Block) (n : Fin 2) : Block :=
  ((b.discDown n).discAbandoned n).postClose (1184 + 16 * n.val + 2)

theorem Block.rotorLoss_eq (b : Block) (n : Fin 2) :
    b.rotorLoss n = (((b.lossMarked n).spGo n 8 true).bump (SPn_CNT_RLOSS n) 1).lossTold n := rfl

theorem Block.discDown_frame (b : Block) (n : Fin 2) : Frame [.servo, .hq] b (b.discDown n) :=
  frame_modHq (frame_surfDown (frame_surfDown .refl _ _ (by decide)) _ _ (by decide)) _ (by decide)

theorem Block.discAbandoned_frame (b : Block) (n : Fin 2) :
    Frame [.regs, .irq, .wp, .cal, .hq, .store, .ml, .out] b (b.discAbandoned n) :=
  frame_calAbandon (frame_calAbandon .refl _ (by decide)) _ (by decide)

theorem Block.discAbandoned_regs (b : Block) (n : Fin 2) : Block.regsOnly (discRegs n) b (b.discAbandoned n) := by
  have hpass (s : Nat) : passRegs s ⊆ shutRegs s := List.subset_cons_self _ _
  have hcal (c : Block) (u : Fin 4) : Block.regsOnly (shutRegs u) c (c.calAbandon u) :=
    Block.regsOnly.mono (Block.PassWork.calAbandon (Block.regsOnly_refl _ c)) (hpass u)
  exact Block.regsOnly_trans ((hcal _ _).mono (List.subset_append_left _ _))
    ((hcal _ _).mono (List.subset_append_right _ _))

theorem Block.lossTold_regs (b : Block) (n : Fin 2) : Block.regsOnly (discRegs n) b (b.lossTold n) :=
  fun o hd hi =>
    have hdown : Block.regsOnly [] b (b.discDown n) := (Block.regsOnly_refl _ b).frame (b.discDown_frame n) (by decide)
      (by decide)
    (Block.postClose_rd ..).trans (((b.discDown n).discAbandoned_regs n o hd hi).trans (hdown o List.not_mem_nil hi))

theorem Block.postClose_exNew (b : Block) (k : Nat) : (b.postClose k).le.exNew = b.le.exNew := rfl

theorem Block.lossTold_exNew (b : Block) (n : Fin 2) : (b.lossTold n).le.exNew = b.le.exNew := by
  have hdown : (b.discDown n).le = b.le := (b.discDown_frame n).same .le (by decide)
  have hle : ((b.discDown n).discAbandoned n).le = b.le :=
    (((b.discDown n).discAbandoned_frame n).same .le (by decide)).trans hdown
  rw [Block.lossTold, Block.postClose_exNew, hle]

theorem Block.lossTold_post (b : Block) (n : Fin 2) : 1184 + 16 * n.val + 2 ∈ (b.lossTold n).le.post :=
  List.mem_append_right _ List.mem_cons_self

theorem Block.vget_modServo_ne (b : Block) {s v : Fin 4} (h : v ≠ s) (f : Servo → Servo) :
    vget (b.modServo s f).servo v = vget b.servo v := vget_vset_ne _ h _

theorem Block.surfDown_servo (b : Block) (u : Fin 4) (cause : Nat) :
    (b.surfDown u cause).servo = (b.modServo u fun v => { v with unavail := true }).servo :=
  (Block.async_frame ..).same .servo (by decide)

/-- Both surfaces of the disc become unavailable. -/
theorem Block.lossTold_unavail (b : Block) {n : Fin 2} {u : Fin 4} (h : spinOf u = n) :
    (vget (b.lossTold n).servo u).unavail = true := by
  have habandoned : ((b.discDown n).discAbandoned n).servo = (b.discDown n).servo :=
    ((b.discDown n).discAbandoned_frame n).same .servo (by decide)
  rw [Block.lossTold, Block.postClose_servo, habandoned, Block.discDown, Block.modHq_servo, Block.surfDown_servo]
  by_cases hu : u = Fin.ofNat 4 (2 * n.val + 1)
  · rw [hu, Block.vget_modServo_same]
  · rw [Block.vget_modServo_ne _ hu, (surf_of_spinOf h).resolve_right hu, Block.surfDown_unavail]

/-! ### Requests and speeds (R219, R220) -/

theorem Block.setSpeed_congr {b c : Block} {n : Fin 2} (hset : c.fld (SPn_SPD_SET_RPM n) = b.fld (SPn_SPD_SET_RPM n))
    (hmode : c.fld PW_STAT_RMODE = b.fld PW_STAT_RMODE) : c.setSpeed n = b.setSpeed n := by
  unfold Block.setSpeed Block.on
  rw [hset, hmode]

/-- The request proceeds with no mark left of it. -/
def Block.unheld (b : Block) (n : Fin 2) : Block :=
  b.modSpin n fun x => { x with heldStart := false, heldCatch := false, heldSpeed := false, fresh := false }

theorem Block.spProceed_align {b : Block} {n : Fin 2} (h : (vget b.spin n).heldStart = true)
    (he : b.spEntriesOn n = true) : b.spProceed n = (b.unheld n).spGo n 3 false := by
  unfold Block.spProceed
  exact (if_pos h).trans (if_pos he)

theorem Block.spProceed_accel {b : Block} {n : Fin 2} (hheld : (vget b.spin n).held = true)
    (h : (vget b.spin n).heldStart = false) :
    b.spProceed n = ((b.unheld n).spRef n (b.setSpeed n)).spGo n 5 false := by
  have hor : (vget b.spin n).heldCatch = true ∨ (vget b.spin n).heldSpeed = true := by
    simpa [Spin.held, h] using hheld
  unfold Block.spProceed
  exact (if_neg (by simp [h])).trans (if_pos hor)

end Sys2Proof.Machine

/-!
PROOFS. Firmware releases focus (08_spindle.md R223): SCMD OFF and LSREQ.LDEN = 0, and what stays due past them.
-/

namespace Sys2Proof.Machine

/-! ### What stays due (R166, R184) -/

/-- The exchange words of a surface that a command writes: SCMD, and the servo programs' replies. -/
def replyWords (u : Fin 4) : List Nat := [exWord u 0, exWord u 6, exWord u 7, exWord u 8]

/-- From `b` to `c` no interrupt is withdrawn, and no exchange word but those of a command to `u` is written. -/
structure Block.StillDue (u : Fin 4) (b c : Block) : Prop where
  raised : ∀ n, b.raised n = true → c.raised n = true
  exNew : ∀ a v, a ∉ replyWords u → (a, v) ∈ b.le.exNew → (a, v) ∈ c.le.exNew

namespace Block.StillDue

variable {u : Fin 4} {a b c : Block}

theorem refl : StillDue u b b := ⟨fun _ => id, fun _ _ _ => id⟩

theorem trans (h : StillDue u a b) (h' : StillDue u b c) : StillDue u a c :=
  ⟨fun n hn => h'.raised n (h.raised n hn), fun a v ha hv => h'.exNew a v ha (h.exNew a v ha hv)⟩

theorem same (h : StillDue u a b) (hi : c.irq = b.irq) (hl : c.le.exNew = b.le.exNew) :
    StillDue u a c where
  raised n hn := by
    unfold Block.raised
    rw [hi]
    exact h.raised n hn
  exNew a v ha hv := hl ▸ h.exNew a v ha hv

theorem ite {p : Prop} [Decidable p] (hb : StillDue u a b) (hc : StillDue u a c) :
    StillDue u a (if p then b else c) := by
  split
  · exact hb
  · exact hc

/-- Calm work outside the loop engine. -/
theorem calm {m : List Area} (h : StillDue u a b) (hc : Calm b c) (hf : Frame m b c) (hm : Area.le ∉ m) :
    StillDue u a c :=
  h.trans ⟨hc.raised, fun _ _ _ hv => (congrArg Loop.exNew (hf.same .le hm)) ▸ hv⟩

theorem setFld (h : StillDue u a b) (f : Fld) (n : Nat) : StillDue u a (b.setFld f n) := h.same rfl rfl

theorem modServo (h : StillDue u a b) (v : Fin 4) (f : Servo → Servo) : StillDue u a (b.modServo v f) := h.same rfl rfl

theorem modHq (h : StillDue u a b) (f : Hq → Hq) : StillDue u a (b.modHq f) := h.same rfl rfl

theorem postClose (h : StillDue u a b) (n : Nat) : StillDue u a (b.postClose n) := h.same rfl rfl

theorem reply (h : StillDue u a b) {w : Nat} (hw : exWord u w ∈ replyWords u) (hlt : w < 0x20) (v : Word) :
    StillDue u a (b.commitData (exWord u w) v) := by
  refine h.trans ⟨?_, fun a v' ha hv => ?_⟩
  · exact (Calm.refl.commitData _ _).raised
  · rw [Block.commitData_exWord b u hlt]
    exact List.mem_append_left _ (List.mem_filter.2 ⟨hv, decide_eq_true fun he : a = exWord u w => ha (he ▸ hw)⟩)

theorem publish (h : StillDue u a b) : StillDue u a (b.publish u) :=
  ((h.reply (w := 6) (by simp [replyWords]) (by decide) _).reply (w := 7) (by simp [replyWords]) (by decide) _).reply
    (w := 8) (by simp [replyWords]) (by decide) _

theorem setPsw (h : StillDue u a b) (new : Nat) : StillDue u a (b.setPsw u new) := by
  have hpost (c : Block) (hc : StillDue u a c) (e : Bool × Fld × Nat) : StillDue u a (c.postIf e.1 e.2.1 e.2.2) :=
    ((hc.setFld _ _).postClose _).ite hc
  have hevents := List.foldlRecOn (motive := StillDue u a) (pswEvents u (b.fld (LE_PSW_k_FLAGS u)) new)
    (fun b e => b.postIf e.1 e.2.1 e.2.2) (h.setFld (LE_PSW_k_FLAGS u) new) fun c hc e _ => hpost c hc e
  rw [Block.setPsw_eq]
  exact (hevents.postClose _).ite hevents

theorem sendPower (h : StillDue u a b) : StillDue u a (b.sendPower u) :=
  h.calm (Calm.refl.sendPower u) (frame_sendPower .refl u (List.Subset.refl _)) (by decide)

theorem workCut (h : StillDue u a b) : StillDue u a (b.workCut u) :=
  h.calm (m := [.regs, .irq, .servo, .wp, .cal, .hq, .store, .ml, .out])
    (((Calm.refl.cutPass u).cancelPlan u).calAbandon u)
    (frame_calAbandon (frame_cancelPlan (frame_cutPass .refl u (by decide)) u (by decide)) u (by decide)) (by decide)

theorem safeNoted (h : StillDue u a b) : StillDue u a (b.safeNoted u) :=
  have hdown := (h.modServo u _).calm (Calm.refl.surfDown u 1) (frame_surfDown .refl u 1 (List.Subset.refl _))
    (by decide)
  (hdown.modHq _).postClose _

theorem safeState (h : StillDue u a b) : StillDue u a (b.safeState u false) := by
  by_cases hs : b.on (SEs_LSAFE_SAFE u) = true
  · rw [Block.safeState_of_safe hs]
    exact h
  · rw [Block.safeState_unlatched (Bool.eq_false_iff.mpr hs)]
    exact ((h.setFld (SEs_LSAFE_SAFE u) 1).setFld (SEs_LSAFE_MODE u) 1).sendPower.workCut.safeNoted

theorem lsafePort (h : StillDue u a b) (v : Nat) : StillDue u a (b.lsafePort u v) := by
  have hsafe : StillDue u a (b.portSafe u (v / 16 % 2)) := h.safeState.ite (h.ite (h.setFld _ 0))
  rw [Block.lsafePort_eq]
  generalize b.on (SEs_LSAFE_HLATCH u) = latch
  have hmode := hsafe.ite (p := (latch && decide (v / 4 % 4 ≠ 1)) = true) (hsafe.setFld (SEs_LSAFE_MODE u) (v / 4 % 4))
  have hsent : StillDue u a ((b.portSafe u (v / 16 % 2)).portMode u latch (v / 4 % 4)) := hmode.sendPower.ite hmode
  have hgates := (hsent.ite (p := (decide (v / 2 % 2 = 1) && latch) = true)
    (hsent.setFld (SEs_LSAFE_WGATE u) (v / 2 % 2))).setFld (SEs_LSAFE_LDEN u) (v % 2)
  exact hgates.calm (Calm.refl.applyHolds u) (frame_applyHolds .refl u (List.Subset.refl _)) (by decide)

/-- A commit without WPERM. -/
theorem composed (h : StillDue u a b) : StillDue u a (b.composed u false) := by
  obtain ⟨wg, _, heq⟩ := b.composed_eq u false
  have hback (c : Block) : c.givenBack u false = c := if_neg (by simp)
  rw [heq, hback]
  exact (((h.setPsw _).lsafePort _).modServo u _).publish

theorem cmdDone (h : StillDue u a b) {o q : Nat} (hcur : (vget b.servo u).cur = some (o, q)) :
    StillDue u a (b.cmdDone u) := by
  have hnoted : StillDue u a (b.doneNoted u q) := h.same rfl rfl
  rw [Block.cmdDone_eq hcur]
  exact hnoted.publish.calm (Calm.refl.raise 11) (Block.raise_frame ..) (by decide)

theorem begun (h : StillDue u a b) (op layer : Nat) (seq : BitVec 8) (arg : BitVec 16) :
    StillDue u a (b.begun u op layer seq arg) :=
  (((h.reply (w := 0) (by simp [replyWords]) (by decide) _).modServo u _).setPsw _).modServo u _

theorem loopsOpened (h : StillDue u a b) : StillDue u a (b.loopsOpened u) :=
  (List.foldlRecOn (motive := StillDue u a) (List.range 3) (fun b k => b.setFld (SFs_DAC_OUT_k_CODE u k) 0)
    (h.modServo u _) fun _ hc k _ => hc.setFld (SFs_DAC_OUT_k_CODE u k) 0).setPsw _

end Block.StillDue

/-! ### OFF from firmware (R184, R223) -/

/-- LSREQ with LDEN cleared is due. -/
def Block.ldenOff (b : Block) (u : Fin 4) : Block := b.commitData (exWord u 1) (b.dmem (exWord u 1) &&& ~~~1#32)

/-- OFF as it runs. -/
def Block.offTaken (b : Block) (u : Fin 4) (seq : BitVec 8) : Block :=
  (((b.begun u 1 0 seq 0).loopsOpened u).composed u false).cmdDone u

/-- The programs take the OFF, or they do not run. -/
theorem Block.firmwareOff_eq (b : Block) (u : Fin 4) :
    b.firmwareOff u = b.ldenOff u ∨ ∃ seq, b.firmwareOff u = (b.ldenOff u).offTaken u seq := by
  let c := b.ldenOff u
  let seq := BitVec.ofNat 8 ((vget c.servo u).taken + 1)
  let run (b : Block) : Block := ((b.loopsOpened u).trackCommit u).cmdDone u
  have heq : b.firmwareOff u = c.takeCmd u 1 0 seq 0 run := rfl
  have hidle (h : (vget c.servo u).taken = seq.toNat ∨ (!c.servoRuns u) = true) : c.takeCmd u 1 0 seq 0 run = c := by
    unfold Block.takeCmd Block.onSurf
    split
    · exact if_pos h
    · rfl
  rw [heq]
  by_cases hs : c.part.hasSurf u = true
  · by_cases hnew : (vget c.servo u).taken = seq.toNat ∨ (!c.servoRuns u) = true
    · exact .inl (hidle hnew)
    · rw [not_or, Bool.not_eq_true', Bool.not_eq_false] at hnew
      obtain ⟨ht, hr⟩ := hnew
      refine .inr ⟨seq, ?_⟩
      rw [Block.takeCmd_eq hs hr ht, c.cmdErr_zero u (op := 1) 0 (by decide) (by decide) (by decide) nofun,
        if_neg (not_not.2 rfl), if_neg (fun h => absurd h.1 (by decide))]
      show ((Block.loopsOpened _ u).trackCommit u).cmdDone u = _
      rw [Block.trackCommit_off (Block.loopsOpened_psw _ u (by decide))]
      rfl
  · refine .inl ?_
    unfold Block.takeCmd Block.onSurf
    exact if_neg hs

theorem Block.offTaken_cur (b : Block) (u : Fin 4) (seq : BitVec 8) :
    (vget (((b.begun u 1 0 seq 0).loopsOpened u).composed u false).servo u).cur = some (1, seq.toNat) :=
  (congrArg Servo.cur (Block.composed_work _ u false).program).trans
    ((congrArg Servo.cur (Block.loopsOpened_servo _ u)).trans (congrArg Servo.cur (b.begun_servo u 1 0 seq 0)))

/-- The registers that an OFF may write. -/
def offRegs (u : Fin 4) : List Nat := LE_EVT :: (commitRegs u ++ (List.range 3).map (SFs_DAC_OUT_k u))

theorem Block.loopsOpened_regs (b : Block) (u : Fin 4) : Block.regsOnly (offRegs u) b (b.loopsOpened u) := by
  have hdac := List.foldlRecOn (motive := Block.regsOnly (offRegs u) b) (List.range 3)
    (fun b k => b.setFld (SFs_DAC_OUT_k_CODE u k) 0) ((Block.regsOnly_refl _ b).same rfl rfl :
      Block.regsOnly (offRegs u) b (b.modServo u fun v => { v with fmode := 0, tmode := 0, held := none }))
    fun _ hc k hk => hc.setFld (f := SFs_DAC_OUT_k_CODE u k)
      (List.mem_cons_of_mem _ (List.mem_append_right _ (List.mem_map_of_mem hk))) 0
  have hpsw : pswRegs u ⊆ offRegs u := fun _ h =>
    List.mem_cons_of_mem _ (List.mem_append_left _ (List.mem_append_left _ h))
  exact Block.regsOnly_trans hdac ((Block.setPsw_work _ u _).regs.mono hpsw)

theorem Block.offTaken_regs (b : Block) (u : Fin 4) (seq : BitVec 8) :
    Block.regsOnly (offRegs u) b (b.offTaken u seq) := by
  have hcommit : commitRegs u ⊆ offRegs u := fun _ h => List.mem_cons_of_mem _ (List.mem_append_left _ h)
  have hpsw : pswRegs u ⊆ offRegs u := fun _ h => hcommit (List.mem_append_left _ h)
  have hbegun : Block.regsOnly (offRegs u) b (b.begun u 1 0 seq 0) := (b.cmdAdmitted_regs u 1 0 seq 0).mono hpsw
  exact Block.regsOnly_trans (Block.regsOnly_trans (Block.regsOnly_trans hbegun (Block.loopsOpened_regs _ u))
    ((Block.composed_work _ u false).regs.mono hcommit))
    ((Block.cmdDone_completes (b.offTaken_cur u seq)).regs.mono
      (List.cons_subset.2 ⟨List.mem_cons_self, List.nil_subset _⟩))

theorem Block.offTaken_due (b : Block) (u : Fin 4) (seq : BitVec 8) : Block.StillDue u b (b.offTaken u seq) :=
  (((Block.StillDue.refl.begun 1 0 seq 0).loopsOpened).composed).cmdDone (b.offTaken_cur u seq)

theorem Block.ldenOff_frame (b : Block) (u : Fin 4) : Frame [.le] b (b.ldenOff u) :=
  b.commitData_exWord_frame u (by decide) _

theorem Block.firmwareOff_regs (b : Block) (u : Fin 4) : Block.regsOnly (offRegs u) b (b.firmwareOff u) := by
  have hlden : Block.regsOnly (offRegs u) b (b.ldenOff u) :=
    (Block.regsOnly_refl _ b).frame (b.ldenOff_frame u) (by decide) (by decide)
  rcases b.firmwareOff_eq u with heq | ⟨seq, heq⟩ <;> rw [heq]
  · exact hlden
  · exact Block.regsOnly_trans hlden (Block.offTaken_regs _ u seq)

theorem Block.firmwareOff_due (b : Block) (u : Fin 4) : Block.StillDue u (b.ldenOff u) (b.firmwareOff u) := by
  rcases b.firmwareOff_eq u with heq | ⟨seq, heq⟩ <;> rw [heq]
  · exact .refl
  · exact Block.offTaken_due _ u seq

theorem Block.firmwareOff_raised (b : Block) (u : Fin 4) {k : Nat} (h : b.raised k = true) :
    (b.firmwareOff u).raised k = true := (b.firmwareOff_due u).raised k ((Calm.refl.commitData _ _).raised k h)

/-- LSREQ.LDEN = 0 is due after it. -/
theorem Block.firmwareOff_lden (b : Block) (u : Fin 4) :
    (exWord u 1, b.dmem (exWord u 1) &&& ~~~1#32) ∈ (b.firmwareOff u).le.exNew := by
  refine (b.firmwareOff_due u).exNew _ _ ?_ (b.mem_commitData u (by decide) _)
  simp only [replyWords, exWord, List.mem_cons, List.not_mem_nil, or_false]
  omega

/-- So is what was due in LSREQ of another surface. -/
theorem Block.firmwareOff_other {b : Block} {u w : Fin 4} (hne : w ≠ u) {v : Word}
    (h : (exWord w 1, v) ∈ b.le.exNew) : (exWord w 1, v) ∈ (b.firmwareOff u).le.exNew := by
  have hval : w.val ≠ u.val := fun he => hne (Fin.ext he)
  refine (b.firmwareOff_due u).exNew _ _ ?_ (Block.mem_exNew_of_commitData ?_ ?_ h _)
  · simp only [replyWords, exWord, List.mem_cons, List.not_mem_nil, or_false]
    omega
  · simp only [exWord]
    omega
  · simp only [exWord]
    omega

/-- An OFF writes no register of the spindles and no data word. -/
theorem Block.firmwareOff_rd (b : Block) (u : Fin 4) {o : Nat}
    (h : spinReg o = true ∨ LE_DMEM_w 0 ≤ o ∧ o < LE_DMEM_w 8192) : (b.firmwareOff u).rd o = b.rd o := by
  have hu := u.isLt
  simp only [spinReg, Bool.and_eq_true, decide_eq_true_eq, LE_DMEM_w] at h
  refine b.firmwareOff_regs u o ?_ (irqReg_of_ge (by omega))
  simp only [offRegs, commitRegs, pswRegs, shutRegs, List.mem_cons, List.mem_append, mem_passRegs, List.mem_map,
    List.mem_range, LE_EVT, LE_PSW_k, SFs_CNT_EVT, SEs_LSAFE, WP_STAT, WP_BFAIL_LO, WP_BFAIL_HI, WP_CNT_CELLS,
    WP_CNT_VFAIL, WP_CNT_VOID, SEs_BGATE, WP_Ss_WSEQ, WP_Ss_VSEQ, CAL_STAT, CAL_CNT, CAL_Ss_WP, SFs_DAC_OUT_k,
    List.not_mem_nil, or_false]
  rintro (he | hcommit | ⟨k, hk, he⟩) <;> omega

theorem Block.firmwareOff_fld (b : Block) (u : Fin 4) {g : Fld} (h : spinReg g.reg = true) :
    (b.firmwareOff u).fld g = b.fld g := Block.fld_of_rd (b.firmwareOff_rd u (.inl h))

theorem Block.firmwareOff_dmem (b : Block) (u : Fin 4) (a : Nat) : (b.firmwareOff u).dmem a = b.dmem a := by
  refine b.firmwareOff_rd u (.inr ?_)
  have ha : a % 8192 < 8192 := Nat.mod_lt _ (by decide)
  simp only [LE_DMEM_w]
  omega

/-- Focus is released on both surfaces of a disc. -/
def Block.focusReleased (b : Block) (n : Fin 2) : Block :=
  (b.firmwareOff (Fin.ofNat 4 (2 * n.val))).firmwareOff (Fin.ofNat 4 (2 * n.val + 1))

theorem Block.focusReleased_fld (b : Block) (n : Fin 2) {g : Fld} (h : spinReg g.reg = true) :
    (b.focusReleased n).fld g = b.fld g := (Block.firmwareOff_fld _ _ h).trans (b.firmwareOff_fld _ h)

theorem Block.focusReleased_raised (b : Block) (n : Fin 2) {k : Nat} (h : b.raised k = true) :
    (b.focusReleased n).raised k = true := Block.firmwareOff_raised _ _ (b.firmwareOff_raised _ h)

theorem Block.focusReleased_lden (b : Block) {n : Fin 2} {u : Fin 4} (h : spinOf u = n) :
    (exWord u 1, b.dmem (exWord u 1) &&& ~~~1#32) ∈ (b.focusReleased n).le.exNew := by
  rcases surf_of_spinOf h with rfl | rfl
  · have hne : Fin.ofNat 4 (2 * n.val) ≠ Fin.ofNat 4 (2 * n.val + 1) := by
      revert n
      decide
    exact Block.firmwareOff_other hne (b.firmwareOff_lden _)
  · rw [← b.firmwareOff_dmem (Fin.ofNat 4 (2 * n.val))]
    exact Block.firmwareOff_lden _ _

end Sys2Proof.Machine

/-!
PROOFS. The starts and stops of a spindle (08_spindle.md R216 to R219, R223, R225).
-/

namespace Sys2Proof.Machine

/-! ### RUN (R216, R225, R226) -/

/-- RUN is 1, and reduced mode is reported from now on (R24). -/
def Block.runSet (b : Block) (n : Fin 2) : Block :=
  (b.setFld (SPn_CTL_RUN n) 1).modPw fun p => { p with quiet := false }

theorem Block.runSet_run (b : Block) (n : Fin 2) : (b.runSet n).fld (SPn_CTL_RUN n) = 1 :=
  b.fld_setFld_same (SPn_CTL_RUN n) rfl 1

theorem Block.runSet_state (b : Block) (n : Fin 2) : (b.runSet n).spState n = b.fld (SPn_STAT_STATE n) :=
  Block.spinFld_set_apart (f := SPn_CTL_RUN) (g := SPn_STAT_STATE) b n (by decide) 1

section starts

variable {s : State} {n : Fin 2} (hs : s.part.hasSpin n = true)
include hs

theorem does_spindleRun_begins (h : s.fld (SPn_STAT_STATE n) = 0 ∨ (vget s.spin n).stopping = true ∧
    (s.fld (SPn_STAT_STATE n) = 7 ∨ s.fld (SPn_STAT_STATE n) = 8)) : Does (.spindleRun n) s fun t =>
      t.fld (SPn_CTL_RUN n) = 1 ∧ t.fld (SPn_STAT_STATE n) = 1 := by
  have hbegins : (s.runSet n).spState n = 0 ∨ (vget s.spin n).stopping = true ∧
      ((s.runSet n).spState n = 8 ∨ (s.runSet n).spState n = 7) := by
    rw [Block.runSet_state]
    exact h.imp_right fun ⟨hstop, hst⟩ => ⟨hstop, hst.symm⟩
  exact does_spin rfl hs (if_pos hbegins)
    ⟨((s.runSet n).spAttempt_run n).trans (s.runSet_run n), (s.runSet n).spAttempt_state n⟩

theorem does_spindleRun_fault (h : s.fld (SPn_STAT_STATE n) = 12) : Does (.spindleRun n) s fun t =>
    t.fld (SPn_CTL_RUN n) = 1 ∧ t.fld (SPn_STAT_STATE n) = 12 := by
  have hst : (s.runSet n).spState n = 12 := (s.runSet_state n).trans h
  have hstays : ¬ ((s.runSet n).spState n = 0 ∨ (vget s.spin n).stopping = true ∧
      ((s.runSet n).spState n = 8 ∨ (s.runSet n).spState n = 7)) := by
    rw [hst]
    omega
  exact does_spin rfl hs (if_neg hstays) ⟨s.runSet_run n, hst⟩

end starts

/-- RUN is 0, and the spindle is on its way to stop. -/
def Block.stopMarked (b : Block) (n : Fin 2) : Block :=
  ((b.setFld (SPn_CTL_RUN n) 0).spClear n).modSpin n fun x => { x with stopping := true }

theorem Block.stopMarked_run (b : Block) (n : Fin 2) : (b.stopMarked n).fld (SPn_CTL_RUN n) = 0 :=
  b.fld_setFld_same (SPn_CTL_RUN n) rfl 0

theorem Block.stopMarked_fld (b : Block) (n : Fin 2) {f : Nat → Fld}
    (h : ∀ n : Fin 2, (SPn_CTL_RUN n).apart (f n) = true) : (b.stopMarked n).fld (f n) = b.fld (f n) :=
  Block.spinFld_set_apart b n h 0

/-- The coast to stop, or the deceleration to 600 rpm. -/
def Block.stopMoves (b : Block) (n : Fin 2) : Block :=
  if b.on (SPn_CTL_STOPMODE n) then (b.spRef n 600).spGo n 7 false
  else if b.spState n = 8 then b else b.spGo n 8 false

theorem Block.stopMoves_run (b : Block) (n : Fin 2) : (b.stopMoves n).fld (SPn_CTL_RUN n) = b.fld (SPn_CTL_RUN n) := by
  have hgo (c : Block) (st : Nat) : (c.spGo n st false).fld (SPn_CTL_RUN n) = c.fld (SPn_CTL_RUN n) :=
    c.spGo_fld n st false (f := SPn_CTL_RUN) (by decide)
  unfold Block.stopMoves
  split_ifs
  · exact (hgo _ 7).trans (b.spRef_fld n 600 _)
  · rfl
  · exact hgo b 8

theorem Block.stopMoves_coast {b : Block} {n : Fin 2} (h : b.on (SPn_CTL_STOPMODE n) = false) :
    (b.stopMoves n).fld (SPn_STAT_STATE n) = 8 := by
  unfold Block.stopMoves
  rw [if_neg (by simp [h])]
  split_ifs with h8
  · exact h8
  · exact b.spGo_state n 8 false (by decide)

theorem Block.stopMoves_decel {b : Block} {n : Fin 2} (h : b.on (SPn_CTL_STOPMODE n) = true) :
    (b.stopMoves n).fld (SPn_STAT_STATE n) = 7 ∧ (vget (b.stopMoves n).spin n).ref = 600 := by
  unfold Block.stopMoves
  rw [if_pos h, Block.spGo_spin, Block.spRef_spin]
  exact ⟨Block.spGo_state _ n 7 false (by decide), rfl⟩

theorem does_spindleStop {s : State} {n : Fin 2} (hs : s.part.hasSpin n = true)
    (hst : s.fld (SPn_STAT_STATE n) ∉ [0, 10, 12]) (hx : (vget s.spin n).stopping = false) :
    Does (.spindleStop n) s fun t => t.fld (SPn_CTL_RUN n) = 0 ∧
      (s.on (SPn_CTL_STOPMODE n) = false → t.fld (SPn_STAT_STATE n) = 8) ∧
      (s.on (SPn_CTL_STOPMODE n) = true → t.fld (SPn_STAT_STATE n) = 7 ∧ (vget t.spin n).ref = 600) := by
  have hstate : (s.stopMarked n).fld (SPn_STAT_STATE n) = s.fld (SPn_STAT_STATE n) :=
    s.stopMarked_fld n (f := SPn_STAT_STATE) (by decide)
  have hmode : (s.stopMarked n).on (SPn_CTL_STOPMODE n) = s.on (SPn_CTL_STOPMODE n) := by
    rw [Block.on_eq, Block.on_eq, s.stopMarked_fld n (f := SPn_CTL_STOPMODE) (by decide)]
  simp only [List.mem_cons, List.not_mem_nil, or_false, not_or] at hst
  obtain ⟨h0, h10, h12⟩ := hst
  have hgoes : ¬ ((s.stopMarked n).fld (SPn_STAT_STATE n) = 0 ∨ (s.stopMarked n).fld (SPn_STAT_STATE n) = 12 ∨
      (vget s.spin n).stopping = true) := by
    rw [hstate, hx]
    simp [h0, h12]
  refine does_spin rfl hs ((if_neg hgoes).trans (if_neg (hstate ▸ h10)) :) (c := (s.stopMarked n).stopMoves n)
    ⟨?_, ?_, ?_⟩
  · exact ((s.stopMarked n).stopMoves_run n).trans (s.stopMarked_run n)
  · exact fun h => Block.stopMoves_coast (hmode.trans h)
  · exact fun h => Block.stopMoves_decel (hmode.trans h)

/-! ### Coast sense (R216, R225) -/

/-- The shunt offset is measured again (R210). -/
def Block.offsetMeasured (b : Block) (n : Fin 2) : Block :=
  b.freeVal.2.setFld (SPn_SHUNT_OFS_OFS n) b.freeVal.1

theorem Block.offsetMeasured_fld (b : Block) (n : Fin 2) {f : Nat → Fld}
    (h : ∀ n : Fin 2, (SPn_SHUNT_OFS_OFS n).apart (f n) = true) : (b.offsetMeasured n).fld (f n) = b.fld (f n) :=
  Block.spinFld_set_apart b.freeVal.2 n h _

/-- What a coast sense shows is recorded. -/
def Block.senseNoted (b : Block) (n : Fin 2) (rpm : BitVec 16) (crossings : BitVec 8) : Block :=
  (b.setFld (SPn_COAST_SPD n) rpm.toNat).setFld (SPn_COAST_XCNT n) crossings.toNat

/-- A coast sense, before the sequencer's choice. -/
def Block.sensed (b : Block) (n : Fin 2) (rpm : BitVec 16) (crossings : BitVec 8) : Block :=
  (b.senseNoted n rpm crossings).offsetMeasured n

theorem Block.sensed_attempt (b : Block) (n : Fin 2) (rpm : BitVec 16) (xc : BitVec 8) :
    (b.sensed n rpm xc).fld (SPn_STAT_ATTEMPT n) = b.fld (SPn_STAT_ATTEMPT n) := by
  rw [Block.sensed, Block.offsetMeasured_fld _ n (f := SPn_STAT_ATTEMPT) (by decide), Block.senseNoted,
    Block.spinFld_set_apart (f := SPn_COAST_XCNT) (g := SPn_STAT_ATTEMPT) _ n (by decide),
    Block.spinFld_set_apart (f := SPn_COAST_SPD) (g := SPn_STAT_ATTEMPT) _ n (by decide)]

theorem Block.sensed_speed (b : Block) (n : Fin 2) (rpm : BitVec 16) (xc : BitVec 8) :
    (b.sensed n rpm xc).fld (SPn_COAST_SPD n) = rpm.toNat := by
  rw [Block.sensed, Block.offsetMeasured_fld _ n (f := SPn_COAST_SPD) (by decide), Block.senseNoted,
    Block.spinFld_set_apart (f := SPn_COAST_XCNT) (g := SPn_COAST_SPD) _ n (by decide)]
  exact (b.fld_setFld_same (SPn_COAST_SPD n) rfl _).trans (Nat.mod_eq_of_lt rpm.isLt)

theorem Block.sensed_crossings (b : Block) (n : Fin 2) (rpm : BitVec 16) (xc : BitVec 8) :
    (b.sensed n rpm xc).fld (SPn_COAST_XCNT n) = xc.toNat := by
  rw [Block.sensed, Block.offsetMeasured_fld _ n (f := SPn_COAST_XCNT) (by decide), Block.senseNoted]
  exact (Block.fld_setFld_same _ (SPn_COAST_XCNT n) rfl _).trans (Nat.mod_eq_of_lt xc.isLt)

theorem Block.spCatch_state (b : Block) (n : Fin 2) (angle : Word) (rpm : Int) :
    (b.spCatch n angle rpm).fld (SPn_STAT_STATE n) = 9 := Block.spGo_state _ n 9 false (by decide)

/-- CATCH is seeded with the angle found (R211). -/
theorem Block.spCatch_angle (b : Block) (n : Fin 2) (angle : Word) (rpm : Int) :
    (spEx n + 5, angle) ∈ (b.spCatch n angle rpm).le.exNew :=
  Block.mem_exNew_of_spGo (by omega) (Block.mem_exNew_of_commitData (spEx_lt n (by decide)) (by omega)
    (b.mem_exNew_commitData (spEx_lt n (by decide)) angle) _) 9 false

theorem Block.spCatch_fld (b : Block) (n : Fin 2) (angle : Word) (rpm : Int) {f : Nat → Fld}
    (h : ∀ n : Fin 2, moveKeeps n (f n) = true) : (b.spCatch n angle rpm).fld (f n) = b.fld (f n) :=
  (Block.spGo_fld _ n 9 false h).trans
    ((Block.fld_of_rd (Block.commitData_exchange_rd _ (spEx_lt n (by decide)) _ _)).trans
      (Block.fld_of_rd (b.commitData_exchange_rd (spEx_lt n (by decide)) _ _)))

/-- The choice of SENSE: BBRAKE where the rotor does not show, CATCH forward, BRAKE backward, else BBRAKE. -/
def Block.senseChoice (b : Block) (n : Fin 2) (crossings : Nat) (angle : Word) (v : Int) : Block :=
  if crossings < 3 then b.spGo n 2 false
  else if 300 < v then b.spCatch n angle v
  else if v < -60 then b.spGo n 10 false
  else b.spGo n 2 false

section sense

variable (b : Block) (n : Fin 2) {xc : Nat} (angle : Word) {v : Int}

theorem Block.senseChoice_fld {f : Nat → Fld} (h : ∀ n : Fin 2, moveKeeps n (f n) = true) :
    (b.senseChoice n xc angle v).fld (f n) = b.fld (f n) := by
  unfold Block.senseChoice
  split_ifs
  · exact b.spGo_fld n 2 false h
  · exact b.spCatch_fld n angle v h
  · exact b.spGo_fld n 10 false h
  · exact b.spGo_fld n 2 false h

theorem Block.senseChoice_hidden (h : xc < 3) : (b.senseChoice n xc angle v).fld (SPn_STAT_STATE n) = 2 := by
  unfold Block.senseChoice
  rw [if_pos h]
  exact b.spGo_state n 2 false (by decide)

theorem Block.senseChoice_forward (h : 3 ≤ xc) (hv : 300 < v) : b.senseChoice n xc angle v = b.spCatch n angle v := by
  unfold Block.senseChoice
  rw [if_neg (Nat.not_lt.2 h), if_pos hv]

theorem Block.senseChoice_slow (h : 3 ≤ xc) (hl : -60 ≤ v) (hv : v ≤ 300) :
    (b.senseChoice n xc angle v).fld (SPn_STAT_STATE n) = 2 := by
  unfold Block.senseChoice
  rw [if_neg (Nat.not_lt.2 h), if_neg (Int.not_lt.2 hv), if_neg (Int.not_lt.2 hl)]
  exact b.spGo_state n 2 false (by decide)

theorem Block.senseChoice_backward (h : 3 ≤ xc) (hv : v < -60) :
    (b.senseChoice n xc angle v).fld (SPn_STAT_STATE n) = 10 := by
  unfold Block.senseChoice
  rw [if_neg (Nat.not_lt.2 h), if_neg (by omega), if_pos hv]
  exact b.spGo_state n 10 false (by decide)

end sense

section coast

variable {s : State} {n : Fin 2} (rpm : BitVec 16) (xc : BitVec 8) (ang : Word) (hs : s.part.hasSpin n = true)
include hs

theorem does_coastSense (hst : s.fld (SPn_STAT_STATE n) = 1) : Does (.coastSenseDone n rpm xc ang) s fun t =>
    t.fld (SPn_COAST_SPD n) = rpm.toNat ∧ t.fld (SPn_COAST_XCNT n) = xc.toNat ∧
    (xc.toNat < 3 → t.fld (SPn_STAT_STATE n) = 2) ∧
    (3 ≤ xc.toNat → 300 < rpm.toInt → t.fld (SPn_STAT_STATE n) = 9 ∧ (spEx n + 5, ang) ∈ t.le.exNew) ∧
    (3 ≤ xc.toNat → -60 ≤ rpm.toInt → rpm.toInt ≤ 300 → t.fld (SPn_STAT_STATE n) = 2) ∧
    (3 ≤ xc.toNat → rpm.toInt < -60 → t.fld (SPn_STAT_STATE n) = 10 ∧
      t.fld (SPn_STAT_ATTEMPT n) = s.fld (SPn_STAT_ATTEMPT n)) := by
  let b := s.sensed n rpm xc
  have hattempt : b.fld (SPn_STAT_ATTEMPT n) = s.fld (SPn_STAT_ATTEMPT n) := s.sensed_attempt n rpm xc
  have hknown : ¬ (s.fld (SPn_STAT_STATE n) ≠ 1 ∧ s.fld (SPn_STAT_STATE n) ≠ 8) := fun h => h.1 hst
  refine does_spin rfl hs ((if_neg hknown).trans (if_pos hst) :) (c := b.senseChoice n xc.toNat ang rpm.toInt)
    ⟨?_, ?_, b.senseChoice_hidden n ang, fun h hv => ?_, b.senseChoice_slow n ang, fun h hv => ?_⟩
  · exact (b.senseChoice_fld n ang (f := SPn_COAST_SPD) (by decide)).trans (s.sensed_speed n rpm xc)
  · exact (b.senseChoice_fld n ang (f := SPn_COAST_XCNT) (by decide)).trans (s.sensed_crossings n rpm xc)
  · show (b.senseChoice n xc.toNat ang rpm.toInt).fld _ = 9 ∧ _ ∈ (b.senseChoice n xc.toNat ang rpm.toInt).le.exNew
    rw [b.senseChoice_forward n ang h hv]
    exact ⟨b.spCatch_state n ang _, b.spCatch_angle n ang _⟩
  · exact ⟨b.senseChoice_backward n ang h hv,
      (b.senseChoice_fld n ang (f := SPn_STAT_ATTEMPT) (by decide)).trans hattempt⟩

theorem does_coastSense_stops (hst : s.fld (SPn_STAT_STATE n) = 8) (hx : (vget s.spin n).stopping = true)
    (h3 : xc.toNat < 3) : Does (.coastSenseDone n rpm xc ang) s fun t =>
      t.fld (SPn_STAT_STATE n) = 0 ∧ t.raised (1184 + 16 * n.val + 7) = true := by
  have hknown : ¬ (s.fld (SPn_STAT_STATE n) ≠ 1 ∧ s.fld (SPn_STAT_STATE n) ≠ 8) := fun h => h.2 hst
  have hcoast : s.fld (SPn_STAT_STATE n) ≠ 1 := hst ▸ (by decide)
  have hstops := Block.spStopped_stops (b := s.sensed n rpm xc) hs
  exact does_spin rfl hs (((if_neg hknown).trans (if_neg hcoast)).trans ((if_pos hx).trans (if_pos h3)) :) hstops

end coast

/-! ### The steps of an attempt (R217, R218) -/

section steps

variable {s : State} {n : Fin 2} (hs : s.part.hasSpin n = true)
include hs

theorem does_bbrakeEnd (hst : s.fld (SPn_STAT_STATE n) = 2) (he : s.spEntriesOn n = true) :
    Does (.bbrakeEnd n) s fun t =>
      t.fld (SPn_STAT_STATE n) = 2 ∧ (vget t.spin n).heldStart = true ∧ (vget t.spin n).fresh = true ∧
      t.regs = s.regs := by
  have hready : ¬ (!s.spEntriesOn n) = true := by simp [he]
  have hspin := s.vget_modSpin_same n fun x => { x with heldStart := true, fresh := true }
  exact does_spin rfl hs ((if_neg (not_not.2 hst)).trans (if_neg hready) :)
    ⟨hst, congrArg Spin.heldStart hspin, congrArg Spin.fresh hspin, rfl⟩

theorem does_alignEnd (hst : s.fld (SPn_STAT_STATE n) = 3) : Does (.alignEnd n) s fun t =>
    t.fld (SPn_STAT_STATE n) = 4 ∧ (spEx n, 2) ∈ t.le.exNew :=
  does_spin rfl hs (if_neg (not_not.2 hst)) ⟨s.spGo_state n 4 false (by decide), s.spGo_spcmd n 4 false⟩

end steps

/-- The seeds of the closed loop, from the ramp (R217). -/
def Block.rampSeeded (b : Block) (n : Fin 2) : Block :=
  (b.commitData (spEx n + 5) (b.dmem (spEx n + 3))).commitData (spEx n + 6) (omegaOf 600)

theorem Block.rampSeeded_rd (b : Block) (n : Fin 2) (o : Nat) : (b.rampSeeded n).rd o = b.rd o :=
  (Block.commitData_exchange_rd _ (spEx_lt n (by decide)) _ o).trans
    (b.commitData_exchange_rd (spEx_lt n (by decide)) _ o)

theorem Block.rampSeeded_speed (b : Block) (n : Fin 2) : (b.rampSeeded n).setSpeed n = b.setSpeed n :=
  Block.setSpeed_congr (Block.fld_of_rd (b.rampSeeded_rd n _)) (Block.fld_of_rd (b.rampSeeded_rd n _))

theorem Block.rampSeeded_angle (b : Block) (n : Fin 2) :
    (spEx n + 5, b.dmem (spEx n + 3)) ∈ (b.rampSeeded n).le.exNew :=
  Block.mem_exNew_of_commitData (spEx_lt n (by decide)) (by omega) (b.mem_exNew_commitData (spEx_lt n (by decide)) _) _

section attempts

variable {s : State} {n : Fin 2} (hs : s.part.hasSpin n = true)
include hs

theorem does_rampEnd (hst : s.fld (SPn_STAT_STATE n) = 4) (hw : 0 ≤ (s.dmem (spEx n + 2)).toInt) :
    Does (.rampEnd n) s fun t => t.fld (SPn_STAT_STATE n) = 5 ∧ (spEx n, 3) ∈ t.le.exNew ∧
      (spEx n + 5, s.dmem (spEx n + 3)) ∈ t.le.exNew ∧ (vget t.spin n).ref = s.setSpeed n := by
  let b := (s.rampSeeded n).spRef n ((s.rampSeeded n).setSpeed n)
  refine does_spin rfl hs ((if_neg (not_not.2 hst)).trans (if_neg (Int.not_lt.2 hw)) :) (c := b.spGo n 5 false)
    ⟨b.spGo_state n 5 false (by decide), b.spGo_spcmd n 5 false, ?_, ?_⟩
  · exact Block.mem_exNew_of_spGo (by omega) (Block.mem_exNew_of_spRef (by omega) (s.rampSeeded_angle n) _) 5 false
  · rw [Block.spGo_spin, Block.spRef_spin]
    exact s.rampSeeded_speed n

/-- The three ways to fail an attempt. -/
theorem does_attempt_fails (hatt : s.fld (SPn_STAT_ATTEMPT n) ≤ 3) {i : Instr}
    (hi : i ∈ ([.attemptFailed n, .bbrakeEnd n, .rampEnd n] : List Instr))
    (hfailed : i = .attemptFailed n →
      s.fld (SPn_STAT_STATE n) = 3 ∨ s.fld (SPn_STAT_STATE n) = 4 ∨ s.fld (SPn_STAT_STATE n) = 5)
    (hbbrake : i = .bbrakeEnd n → s.fld (SPn_STAT_STATE n) = 2 ∧ s.spEntriesOn n = false)
    (hramp : i = .rampEnd n → s.fld (SPn_STAT_STATE n) = 4 ∧ (s.dmem (spEx n + 2)).toInt < 0) :
    Does i s fun t => s.AttemptFails t.toBlock n := by
  have hfails := Block.spFail_fails hs hatt
  simp only [List.mem_cons, List.not_mem_nil, or_false] at hi
  rcases hi with rfl | rfl | rfl
  · exact does_spin rfl hs (if_pos (hfailed rfl)) hfails
  · obtain ⟨hst, he⟩ := hbbrake rfl
    have hoff : (!s.spEntriesOn n) = true := by simp [he]
    exact does_spin rfl hs ((if_neg (not_not.2 hst)).trans (if_pos hoff) :) hfails
  · obtain ⟨hst, hw⟩ := hramp rfl
    exact does_spin rfl hs ((if_neg (not_not.2 hst)).trans (if_pos hw) :) hfails

theorem does_retryWaitEnd (hst : s.fld (SPn_STAT_STATE n) = 11) :
    Does (.retryWaitEnd n) s fun t => t.fld (SPn_STAT_STATE n) = 1 :=
  does_spin rfl hs (if_neg (not_not.2 hst)) (s.spAttempt_state n)

end attempts

/-! ### CATCH (R219, R223) -/

/-- The catch is counted and told. -/
def Block.caughtTold (b : Block) (n : Fin 2) : Block := (b.bump (SPn_CNT_CATCH n) 1).raiseSpin n 3

theorem Block.caughtTold_fld (b : Block) (n : Fin 2) {f : Nat → Fld} (hi : ∀ n : Fin 2, irqReg (f n).reg = false)
    (ha : ∀ n : Fin 2, (SPn_CNT_CATCH n).apart (f n) = true) : (b.caughtTold n).fld (f n) = b.fld (f n) :=
  (Block.spinFld_raise _ n hi 3).trans (b.fld_bump_apart _ _ (ha n) 1)

theorem Block.caughtTold_count (b : Block) (n : Fin 2) :
    (b.caughtTold n).fld (SPn_CNT_CATCH n) = min (b.fld (SPn_CNT_CATCH n) + 1) 255 :=
  (Block.spinFld_raise (f := SPn_CNT_CATCH) _ n (by decide) 3).trans (b.fld_bump_same (SPn_CNT_CATCH n) rfl 1)

theorem Block.caughtTold_dmem (b : Block) (n : Fin 2) (a : Nat) : (b.caughtTold n).dmem a = b.dmem a := by
  refine (Block.raiseSpin_dmem _ n 3 a).trans (Block.dmem_of_fld (b.fld_bump_apart _ _ (apart_of_reg_ne ?_) 1))
  have ha : a % 8192 < 8192 := Nat.mod_lt _ (by decide)
  simp only [SPn_CNT_CATCH, SPn_CNT, LE_DMEM_w_W, LE_DMEM_w]
  omega

theorem Block.caughtTold_raises {b : Block} {n : Fin 2} (h : b.part.hasSpin n = true) :
    (b.caughtTold n).raised (1184 + 16 * n.val + 3) = true := by
  have hcounted : Calm b (b.bump (SPn_CNT_CATCH n) 1) := Calm.refl.bump (SPn_CNT_CATCH n) _ (guardedReg_spCnt n)
  exact Block.raiseSpin_raises (hcounted.part ▸ h) (by decide)

/-- The spindle keeps its speed until ACCEL may proceed. -/
def Block.speedKept (b : Block) (n : Fin 2) : Block :=
  (b.commitData (spEx n + 7) (b.dmem (spEx n + 2))).modSpin n fun x => { x with heldCatch := true, fresh := true }

theorem Block.speedKept_fld (b : Block) (n : Fin 2) (g : Fld) : (b.speedKept n).fld g = b.fld g :=
  Block.fld_of_rd (b.commitData_exchange_rd (spEx_lt n (w := 7) (by decide)) _ _)

theorem Block.speedKept_raised (b : Block) (n : Fin 2) {k : Nat} (h : b.raised k = true) :
    (b.speedKept n).raised k = true := ((Calm.refl.commitData _ _).modSpin n _).raised k h

section catching

variable {s : State} {n : Fin 2} (hs : s.part.hasSpin n = true) (hst : s.fld (SPn_STAT_STATE n) = 9)
  (hx : (vget s.spin n).heldCatch = false)
include hs hst hx

theorem does_catchResync : Does (.catchResync n) s fun t => t.fld (SPn_STAT_STATE n) = 9 ∧
    t.fld (SPn_CNT_CATCH n) = min (s.fld (SPn_CNT_CATCH n) + 1) 255 ∧ t.raised (1184 + 16 * n.val + 3) = true ∧
    (vget t.spin n).heldCatch = true ∧ (spEx n + 7, s.dmem (spEx n + 2)) ∈ t.le.exNew := by
  let b := s.caughtTold n
  have hcatching : ¬ (decide (s.spState n ≠ 9) || (vget s.spin n).heldCatch) = true := by
    simp [Block.spState, hst, hx]
  refine does_spin rfl hs (if_neg hcatching) (c := b.speedKept n) ⟨?_, ?_, ?_, ?_, ?_⟩
  · exact (b.speedKept_fld n _).trans ((s.caughtTold_fld n (f := SPn_STAT_STATE) (by decide) (by decide)).trans hst)
  · exact (b.speedKept_fld n _).trans (s.caughtTold_count n)
  · exact b.speedKept_raised n (Block.caughtTold_raises hs)
  · exact congrArg Spin.heldCatch (Block.vget_modSpin_same _ n _)
  · rw [← s.caughtTold_dmem n]
    exact b.mem_exNew_commitData (spEx_lt n (by decide)) _

end catching

/-- The catch failed: BRAKE, with its event. -/
def Block.catchFailed (b : Block) (n : Fin 2) : Block :=
  (((b.spClear n).spGo n 10 true).raiseSpin n 4).async 6 n.val 1

theorem Block.catchFailed_state (b : Block) (n : Fin 2) : (b.catchFailed n).fld (SPn_STAT_STATE n) = 10 :=
  (Block.fld_of_rd (Block.async_rd ..)).trans
    ((Block.spinFld_raise (f := SPn_STAT_STATE) _ n (by decide) 4).trans (Block.spGo_state _ n 10 true (by decide)))

theorem Block.catchFailed_attempt (b : Block) (n : Fin 2) :
    (b.catchFailed n).fld (SPn_STAT_ATTEMPT n) = b.fld (SPn_STAT_ATTEMPT n) :=
  (Block.fld_of_rd (Block.async_rd ..)).trans
    ((Block.spinFld_raise (f := SPn_STAT_ATTEMPT) _ n (by decide) 4).trans
      (Block.spGo_fld _ n 10 true (f := SPn_STAT_ATTEMPT) (by decide)))

theorem Block.catchFailed_dmem (b : Block) (n : Fin 2) (a : Nat) : (b.catchFailed n).dmem a = b.dmem a :=
  (Block.async_rd ..).trans ((Block.raiseSpin_dmem _ n 4 a).trans
    (Block.dmem_of_fld (Block.spGo_fld_of_keeps _ n 10 true (moveKeeps_dmem n a))))

theorem Block.catchFailed_raises {b : Block} {n : Fin 2} (h : b.part.hasSpin n = true) :
    (b.catchFailed n).raised (1184 + 16 * n.val + 4) = true := by
  have hbraked : Calm b ((b.spClear n).spGo n 10 true) := (Calm.refl.modSpin n _).spGo n 10 true
  exact (Calm.refl.async 6 n.val 1).raised _ (Block.raiseSpin_raises (hbraked.part ▸ h) (by decide))

theorem does_catchTimeout {s : State} {n : Fin 2} (hs : s.part.hasSpin n = true) (hst : s.fld (SPn_STAT_STATE n) = 9)
    (hx : (vget s.spin n).heldCatch = false) : Does (.catchTimeout n) s fun t => t.fld (SPn_STAT_STATE n) = 10 ∧
      t.raised (1184 + 16 * n.val + 4) = true ∧ t.fld (SPn_STAT_ATTEMPT n) = s.fld (SPn_STAT_ATTEMPT n) ∧
      (s.on (SPn_STAT_RLOSS n) = true → ∀ u : Fin 4, spinOf u = n →
        (exWord u 1, s.dmem (exWord u 1) &&& ~~~1#32) ∈ t.le.exNew) := by
  let b := s.catchFailed n
  have htimely : s.spState n = 9 ∧ (!(vget s.spin n).heldCatch) = true ∨
      s.spState n = 8 ∧ (vget s.spin n).lossSense = true :=
    .inl ⟨hst, by simp [hx]⟩
  have hraised : b.raised (1184 + 16 * n.val + 4) = true := Block.catchFailed_raises hs
  by_cases hloss : s.on (SPn_STAT_RLOSS n) = true
  · have hspin {f : Fld} (h : f.reg = SPn_STAT n) : (b.focusReleased n).fld f = b.fld f :=
      b.focusReleased_fld n (h ▸ spinReg_stat n)
    refine does_spin rfl hs ((if_pos htimely).trans (if_pos hloss) :) (c := b.focusReleased n)
      ⟨(hspin rfl).trans (s.catchFailed_state n), b.focusReleased_raised n hraised,
        (hspin rfl).trans (s.catchFailed_attempt n), fun _ u hu => ?_⟩
    rw [← s.catchFailed_dmem n]
    exact b.focusReleased_lden hu
  · exact does_spin rfl hs ((if_pos htimely).trans (if_neg hloss) :)
      ⟨s.catchFailed_state n, hraised, s.catchFailed_attempt n, fun h => absurd h hloss⟩

/-! ### The wait for the other spindle (R219) -/

section grant

variable {s : State} {n : Fin 2}

theorem exec_accelGrant_held (ho : (vget s.spin (otherSpin n)).accel = true) : exec (.accelGrant n) s = .next s :=
  exec_onSpin_same rfl (if_pos (by simp [ho]))

variable (hs : s.part.hasSpin n = true) (hheld : (vget s.spin n).held = true)
  (ho : (vget s.spin (otherSpin n)).accel = false) (hfirst : n = 1 → (vget s.spin (otherSpin n)).held = false)
include hs hheld ho hfirst

/-- The request of a spindle whose turn it is proceeds. -/
theorem does_accelGrant {P : State → Prop} {c : Block} (hc : s.spProceed n = c) (hP : P { s with toBlock := c }) :
    Does (.accelGrant n) s P := by
  have hturn : ¬ (!(vget s.spin n).held || (vget s.spin (otherSpin n)).accel ||
      (decide (n.val = 1) && (vget s.spin (otherSpin n)).held)) = true := by
    have hsecond : (decide (n.val = 1) && (vget s.spin (otherSpin n)).held) = false := by
      by_cases h1 : n = 1
      · rw [hfirst h1, Bool.and_false]
      · have hval : n.val ≠ 1 := fun he => h1 (Fin.ext he)
        simp [hval]
    rw [hheld, ho, hsecond]
    decide
  exact does_spin rfl hs ((if_neg hturn).trans hc :) hP

theorem does_accelGrant_align (h : (vget s.spin n).heldStart = true) (he : s.spEntriesOn n = true) :
    Does (.accelGrant n) s fun t => t.fld (SPn_STAT_STATE n) = 3 :=
  does_accelGrant hs hheld ho hfirst (Block.spProceed_align h he) ((s.unheld n).spGo_state n 3 false (by decide))

theorem does_accelGrant_accel (h : (vget s.spin n).heldStart = false) : Does (.accelGrant n) s fun t =>
    t.fld (SPn_STAT_STATE n) = 5 ∧ (vget t.spin n).ref = s.setSpeed n ∧ (vget t.spin n).accel = true := by
  refine does_accelGrant hs hheld ho hfirst (Block.spProceed_accel hheld h)
    ⟨Block.spGo_state _ n 5 false (by decide), ?_⟩
  rw [Block.spGo_spin, Block.spRef_spin]
  exact ⟨rfl, rfl⟩

end grant

/-- Settles O30: each command is worked out on the state its clause describes; the shared moves of the sequencer, its
failed attempts, and firmware's release of focus are lemmas of their own. -/
theorem spindleStarts : Obligations.SpindleStarts := by
  intro s n rpm xc ang hs
  refine ⟨does_spindleRun_begins hs, does_spindleRun_fault hs, does_spindleStop hs, does_coastSense rpm xc ang hs,
    does_coastSense_stops rpm xc ang hs, does_bbrakeEnd hs, does_alignEnd hs, does_rampEnd hs,
    fun i hi hf hb hr hatt => does_attempt_fails hs hatt hi hf hb hr, does_retryWaitEnd hs, does_catchResync hs,
    does_catchTimeout hs, fun _ => exec_accelGrant_held, fun hheld ho hfirst => ?_⟩
  exact ⟨does_accelGrant_align hs hheld ho hfirst, does_accelGrant_accel hs hheld ho hfirst⟩

end Sys2Proof.Machine

/-!
PROOFS. A spindle at speed (08_spindle.md R213, R220 to R223, R225, R226): the set speed, LOCK, a rotor loss, the ends
of BRAKE, the faults, and the clamp of the bus.
-/

namespace Sys2Proof.Machine

/-! ### The set speed (R219, R220) -/

/-- Reduced mode lowers the set speed. -/
def Block.rcapDue (b : Block) (n : Fin 2) : Bool := b.on PW_STAT_RMODE && 4500 < b.fld (SPn_SPD_SET_RPM n)

section rcap

variable {b : Block} {n : Fin 2} (hs : b.part.hasSpin n = true)
include hs

theorem Block.spRcap_eq : b.spRcap n = if b.rcapDue n = b.on (SPn_STAT_RCAP n) then b
    else (b.setBit (SPn_STAT_RCAP n) (b.rcapDue n)).raiseSpin n 8 := by
  unfold Block.spRcap Block.onSpin
  exact if_pos hs

theorem Block.spRcap_rcap : (b.spRcap n).on (SPn_STAT_RCAP n) = b.rcapDue n := by
  rw [Block.spRcap_eq hs]
  split_ifs with h
  · exact h.symm
  · rw [Block.on_eq, Block.spinFld_raise (f := SPn_STAT_RCAP) _ n (by decide),
      Block.fld_setBit_same _ (SPn_STAT_RCAP n) rfl]
    cases b.rcapDue n <;> rfl

theorem Block.spRcap_raises (h : b.rcapDue n ≠ b.on (SPn_STAT_RCAP n)) :
    (b.spRcap n).raised (1184 + 16 * n.val + 8) = true := by
  have hset : Calm b (b.setBit (SPn_STAT_RCAP n) (b.rcapDue n)) :=
    Calm.refl.setBit (SPn_STAT_RCAP n) _ (guardedReg_spStat n)
  rw [Block.spRcap_eq hs, if_neg h]
  exact Block.raiseSpin_raises (hset.part ▸ hs) (by decide)

theorem Block.spRcap_spin : (b.spRcap n).spin = b.spin := by
  rw [Block.spRcap_eq hs]
  split_ifs
  · rfl
  · exact Block.raiseSpin_spin ..

theorem Block.spRcap_fld {f : Nat → Fld} (hi : ∀ n : Fin 2, irqReg (f n).reg = false)
    (ha : ∀ n : Fin 2, (SPn_STAT_RCAP n).apart (f n) = true) : (b.spRcap n).fld (f n) = b.fld (f n) := by
  rw [Block.spRcap_eq hs]
  split_ifs
  · rfl
  · exact (Block.spinFld_raise _ n hi 8).trans (b.fld_setBit_apart _ _ (ha n) _)

end rcap

section retarget

variable (b : Block) (n : Fin 2)

/-- What a new set speed leaves of the registers. -/
theorem Block.spRetarget_fld {f : Nat → Fld} (h : ∀ n : Fin 2, moveKeeps n (f n) = true) :
    (b.spRetarget n).fld (f n) = b.fld (f n) := by
  have hmod (g : Spin → Spin) : (b.modSpin n g).fld (f n) = b.fld (f n) := rfl
  have hgo (c : Block) (rpm st : Nat) : ((c.spRef n rpm).spGo n st false).fld (f n) = c.fld (f n) :=
    (Block.spGo_fld _ n st false h).trans (c.spRef_fld n rpm _)
  unfold Block.spRetarget
  extract_lets x v st c
  have hc : c.fld (f n) = b.fld (f n) := hmod _
  split_ifs
  · exact hmod _
  · exact (hgo _ _ _).trans hc
  · exact hc
  · exact hgo _ _ _
  · exact b.spRef_fld n _ _
  · exact hmod _
  · exact b.spRef_fld n _ _
  · rfl

/-- Upward from RUN is a request, and speed and LOCK are kept until it proceeds. -/
theorem Block.spRetarget_up {b : Block} {n : Fin 2} (hst : b.fld (SPn_STAT_STATE n) = 6)
    (h : (vget b.spin n).ref < b.setSpeed n) :
    b.spRetarget n = b.modSpin n fun x => { x with heldSpeed := true, fresh := true } :=
  (if_pos hst).trans (if_pos h)

/-- Downward from RUN is DECEL. -/
theorem Block.spRetarget_down {b : Block} {n : Fin 2} (hst : b.fld (SPn_STAT_STATE n) = 6)
    (h : b.setSpeed n < (vget b.spin n).ref) : b.spRetarget n =
      ((b.modSpin n fun x => { x with heldSpeed := false, fresh := false }).spRef n (b.setSpeed n)).spGo n 7 false :=
  (if_pos hst).trans ((if_neg (by omega)).trans (if_pos h))

end retarget

/-- The set speed of R220, from the speed written and the reduced mode. -/
def clampedSpeed (rpm : Nat) (reduced : Bool) : Nat := min (max 600 (min 9000 rpm)) (if reduced then 4500 else 9000)

theorem Block.setSpeed_eq (b : Block) (n : Fin 2) :
    b.setSpeed n = clampedSpeed (b.fld (SPn_SPD_SET_RPM n)) (b.on PW_STAT_RMODE) := by
  unfold Block.setSpeed clampedSpeed
  dsimp only
  split_ifs <;> omega

/-- The speed written is in SPD_SET, and RCAP follows it. -/
def Block.speedWritten (b : Block) (n : Fin 2) (rpm : BitVec 14) : Block :=
  (b.setFld (SPn_SPD_SET_RPM n) rpm.toNat).spRcap n

section written

variable {b : Block} {n : Fin 2} (rpm : BitVec 14) (hs : b.part.hasSpin n = true)

theorem Block.spdSet_rpm : (b.setFld (SPn_SPD_SET_RPM n) rpm.toNat).fld (SPn_SPD_SET_RPM n) = rpm.toNat :=
  (b.fld_setFld_same (SPn_SPD_SET_RPM n) rfl _).trans (Nat.mod_eq_of_lt rpm.isLt)

theorem Block.spdSet_rmode :
    (b.setFld (SPn_SPD_SET_RPM n) rpm.toNat).fld PW_STAT_RMODE = b.fld PW_STAT_RMODE :=
  b.spinFld_set_apart (f := SPn_SPD_SET_RPM) (g := fun _ => PW_STAT_RMODE) n (by decide) _

theorem Block.spdSet_rcapDue : (b.setFld (SPn_SPD_SET_RPM n) rpm.toNat).rcapDue n =
    (b.on PW_STAT_RMODE && decide (4500 < rpm.toNat)) := by
  rw [Block.rcapDue, Block.on_eq, Block.spdSet_rmode, Block.spdSet_rpm, Block.on_eq]

theorem Block.spdSet_rcap :
    (b.setFld (SPn_SPD_SET_RPM n) rpm.toNat).on (SPn_STAT_RCAP n) = b.on (SPn_STAT_RCAP n) := by
  rw [Block.on_eq, Block.on_eq, b.spinFld_set_apart (f := SPn_SPD_SET_RPM) (g := SPn_STAT_RCAP) n (by decide)]

include hs

theorem Block.speedWritten_rpm : (b.speedWritten n rpm).fld (SPn_SPD_SET_RPM n) = rpm.toNat :=
  (Block.spRcap_fld (b := b.setFld (SPn_SPD_SET_RPM n) rpm.toNat) hs (f := SPn_SPD_SET_RPM) (by decide)
    (by decide)).trans (Block.spdSet_rpm rpm)

theorem Block.speedWritten_rmode : (b.speedWritten n rpm).fld PW_STAT_RMODE = b.fld PW_STAT_RMODE :=
  (Block.spRcap_fld (b := b.setFld (SPn_SPD_SET_RPM n) rpm.toNat) hs (f := fun _ => PW_STAT_RMODE) (by decide)
    (by decide)).trans (Block.spdSet_rmode rpm)

theorem Block.speedWritten_set :
    (b.speedWritten n rpm).setSpeed n = clampedSpeed rpm.toNat (b.on PW_STAT_RMODE) := by
  rw [Block.setSpeed_eq, Block.speedWritten_rpm rpm hs, Block.on_eq, Block.speedWritten_rmode rpm hs, ← Block.on_eq]

theorem Block.speedWritten_rcap :
    (b.speedWritten n rpm).on (SPn_STAT_RCAP n) = (b.on PW_STAT_RMODE && decide (4500 < rpm.toNat)) :=
  (Block.spRcap_rcap (b := b.setFld (SPn_SPD_SET_RPM n) rpm.toNat) hs).trans (Block.spdSet_rcapDue rpm)

/-- A change of RCAP is told. -/
theorem Block.speedWritten_raises (h : (b.speedWritten n rpm).on (SPn_STAT_RCAP n) ≠ b.on (SPn_STAT_RCAP n)) :
    (b.speedWritten n rpm).raised (1184 + 16 * n.val + 8) = true := by
  refine Block.spRcap_raises (b := b.setFld (SPn_SPD_SET_RPM n) rpm.toNat) hs fun he => h ?_
  rw [Block.speedWritten_rcap rpm hs, ← Block.spdSet_rcapDue rpm, he, Block.spdSet_rcap]

/-- The sequencer stands where it stood. -/
theorem Block.speedWritten_fld {f : Nat → Fld} (hi : ∀ n : Fin 2, irqReg (f n).reg = false)
    (hr : ∀ n : Fin 2, (SPn_STAT_RCAP n).apart (f n) = true)
    (hw : ∀ n : Fin 2, (SPn_SPD_SET_RPM n).apart (f n) = true) : (b.speedWritten n rpm).fld (f n) = b.fld (f n) :=
  (Block.spRcap_fld (b := b.setFld (SPn_SPD_SET_RPM n) rpm.toNat) hs hi hr).trans (b.spinFld_set_apart n hw _)

theorem Block.speedWritten_spin : (b.speedWritten n rpm).spin = b.spin :=
  Block.spRcap_spin (b := b.setFld (SPn_SPD_SET_RPM n) rpm.toNat) hs

end written

theorem does_setSpeed {s : State} {n : Fin 2} (rpm : BitVec 14) (hs : s.part.hasSpin n = true) :
    let set := clampedSpeed rpm.toNat (s.on PW_STAT_RMODE)
    Does (.setSpeed n rpm) s fun t => t.fld (SPn_SPD_SET_RPM n) = rpm.toNat ∧ t.setSpeed n = set ∧
      t.on (SPn_STAT_RCAP n) = (s.on PW_STAT_RMODE && decide (4500 < rpm.toNat)) ∧
      (t.on (SPn_STAT_RCAP n) ≠ s.on (SPn_STAT_RCAP n) → t.raised (1184 + 16 * n.val + 8) = true) ∧
      (s.fld (SPn_STAT_STATE n) = 6 → (vget s.spin n).ref < set → t.fld (SPn_STAT_STATE n) = 6 ∧
        (vget t.spin n).heldSpeed = true ∧ t.fld (SPn_STAT_LOCK n) = s.fld (SPn_STAT_LOCK n)) ∧
      (s.fld (SPn_STAT_STATE n) = 6 → set < (vget s.spin n).ref → t.fld (SPn_STAT_STATE n) = 7 ∧
        (vget t.spin n).ref = set ∧ t.fld (SPn_STAT_LOCK n) = 0) := by
  intro set
  let b := s.speedWritten n rpm
  have hset : b.setSpeed n = set := Block.speedWritten_set rpm hs
  have hstate : b.fld (SPn_STAT_STATE n) = s.fld (SPn_STAT_STATE n) :=
    Block.speedWritten_fld rpm hs (f := SPn_STAT_STATE) (by decide) (by decide) (by decide)
  have hlock : b.fld (SPn_STAT_LOCK n) = s.fld (SPn_STAT_LOCK n) :=
    Block.speedWritten_fld rpm hs (f := SPn_STAT_LOCK) (by decide) (by decide) (by decide)
  have href : (vget b.spin n).ref = (vget s.spin n).ref :=
    congrArg (fun x => (vget x n).ref) (Block.speedWritten_spin rpm hs)
  have hspeed : (b.spRetarget n).fld (SPn_SPD_SET_RPM n) = b.fld (SPn_SPD_SET_RPM n) :=
    b.spRetarget_fld n (f := SPn_SPD_SET_RPM) (by decide)
  have hrcap : (b.spRetarget n).on (SPn_STAT_RCAP n) = b.on (SPn_STAT_RCAP n) := by
    rw [Block.on_eq, Block.on_eq, b.spRetarget_fld n (f := SPn_STAT_RCAP) (by decide)]
  refine does_spin rfl hs rfl (c := b.spRetarget n) ⟨hspeed.trans (Block.speedWritten_rpm rpm hs), ?_,
    hrcap.trans (Block.speedWritten_rcap rpm hs), fun h => ?_, fun h6 hlt => ?_, fun h6 hlt => ?_⟩
  · exact (Block.setSpeed_congr hspeed (b.spRetarget_fld n (f := fun _ => PW_STAT_RMODE) (by decide))).trans hset
  · exact (Calm.refl.spRetarget n).raised _ (Block.speedWritten_raises rpm hs (hrcap ▸ h))
  · have hup := Block.spRetarget_up (hstate.trans h6) (by rwa [href, hset])
    show (b.spRetarget n).fld _ = 6 ∧ (vget (b.spRetarget n).spin n).heldSpeed = true ∧ (b.spRetarget n).fld _ = _
    rw [hup, Block.vget_modSpin_same]
    exact ⟨hstate.trans h6, rfl, hlock⟩
  · have hdown := Block.spRetarget_down (hstate.trans h6) (by rwa [href, hset])
    show (b.spRetarget n).fld _ = 7 ∧ (vget (b.spRetarget n).spin n).ref = set ∧ (b.spRetarget n).fld _ = 0
    rw [hdown, Block.spGo_spin, Block.spRef_spin]
    exact ⟨Block.spGo_state _ n 7 false (by decide), hset, Block.spGo_lock _ n 7 false (by decide)⟩

/-! ### LOCK (R218, R221, R222) -/

theorem Block.coefSet_fld (b : Block) (n : Fin 2) {g : Fld} (h : LE_COEF_CTL ≠ g.reg) :
    (b.coefSet n).fld g = b.fld g := by
  have hput (c : Block) (o : Nat) (half : Bool) : (c.putBit LE_COEF_CTL_SET o half).fld g = c.fld g :=
    c.fld_putBit_apart _ _ (apart_of_reg_ne h) o half
  exact (hput _ _ _).trans ((hput _ _ _).trans (hput b _ _))

/-- LOCK is set, and the marks of the attempts before and of a rotor loss are cleared. -/
def Block.lockMarked (b : Block) (n : Fin 2) : Block :=
  (((b.setFld (SPn_STAT_LOCK n) 1).setFld (SPn_STAT_RLOSS n) 0).setFld (SPn_STAT_ATTEMPT n) 0).modSpin n
    fun x => { x with accel := false }

theorem Block.lockMarked_calm (b : Block) (n : Fin 2) : Calm b (b.lockMarked n) :=
  (((Calm.refl.setFld (SPn_STAT_LOCK n) 1 (guardedReg_spStat n)).setFld (SPn_STAT_RLOSS n) 0
    (guardedReg_spStat n)).setFld (SPn_STAT_ATTEMPT n) 0 (guardedReg_spStat n)).modSpin n _

/-- The speed sets follow LOCK, and the event. -/
def Block.lockTold (b : Block) (n : Fin 2) : Block := (b.coefSet n).raiseSpin n 0

theorem Block.lockTold_fld (b : Block) (n : Fin 2) {f : Nat → Fld} (hi : ∀ n : Fin 2, irqReg (f n).reg = false)
    (hc : ∀ n : Fin 2, LE_COEF_CTL ≠ (f n).reg) : (b.lockTold n).fld (f n) = b.fld (f n) :=
  (Block.spinFld_raise _ n hi 0).trans (b.coefSet_fld n (hc n))

theorem Block.lockTold_raises {b : Block} {n : Fin 2} (h : b.part.hasSpin n = true) :
    (b.lockTold n).raised (1184 + 16 * n.val) = true := by
  have hcoef : Calm b (b.coefSet n) := ((Calm.refl.putBit _ _ _ rfl).putBit _ _ _ rfl).putBit _ _ _ rfl
  have hspin : (b.coefSet n).part.hasSpin n = true := hcoef.part ▸ h
  have hraises := Block.raiseSpin_raises hspin (k := 0) (by decide)
  rwa [Nat.add_zero] at hraises

theorem Block.lockTold_spin (b : Block) (n : Fin 2) : (b.lockTold n).spin = b.spin := Block.raiseSpin_spin ..

section lockMarked

variable (b : Block) (n : Fin 2)

theorem Block.lockMarked_lock : (b.lockMarked n).fld (SPn_STAT_LOCK n) = 1 := by
  refine (Block.modSpin_fld ..).trans ?_
  refine (Block.spinFld_set_apart (f := SPn_STAT_ATTEMPT) (g := SPn_STAT_LOCK) _ n (by decide) 0).trans ?_
  refine (Block.spinFld_set_apart (f := SPn_STAT_RLOSS) (g := SPn_STAT_LOCK) _ n (by decide) 0).trans ?_
  exact b.fld_setFld_same (SPn_STAT_LOCK n) rfl 1

theorem Block.lockMarked_rloss : (b.lockMarked n).fld (SPn_STAT_RLOSS n) = 0 := by
  refine (Block.modSpin_fld ..).trans ?_
  refine (Block.spinFld_set_apart (f := SPn_STAT_ATTEMPT) (g := SPn_STAT_RLOSS) _ n (by decide) 0).trans ?_
  exact Block.fld_setFld_same _ (SPn_STAT_RLOSS n) rfl 0

theorem Block.lockMarked_attempt : (b.lockMarked n).fld (SPn_STAT_ATTEMPT n) = 0 :=
  (Block.modSpin_fld ..).trans (Block.fld_setFld_same _ (SPn_STAT_ATTEMPT n) rfl 0)

theorem Block.lockMarked_state : (b.lockMarked n).fld (SPn_STAT_STATE n) = b.fld (SPn_STAT_STATE n) := by
  refine (Block.modSpin_fld ..).trans ?_
  refine (Block.spinFld_set_apart (f := SPn_STAT_ATTEMPT) (g := SPn_STAT_STATE) _ n (by decide) 0).trans ?_
  refine (Block.spinFld_set_apart (f := SPn_STAT_RLOSS) (g := SPn_STAT_STATE) _ n (by decide) 0).trans ?_
  exact Block.spinFld_set_apart (f := SPn_STAT_LOCK) (g := SPn_STAT_STATE) b n (by decide) 1

end lockMarked

theorem does_speedLock {s : State} {n : Fin 2} (hs : s.part.hasSpin n = true) (hst : s.fld (SPn_STAT_STATE n) = 6)
    (hlock : s.on (SPn_STAT_LOCK n) = false) (href : (vget s.spin n).ref = s.setSpeed n) :
    Does (.speedLock n) s fun t => t.fld (SPn_STAT_LOCK n) = 1 ∧ t.fld (SPn_STAT_RLOSS n) = 0 ∧
      t.fld (SPn_STAT_ATTEMPT n) = 0 ∧ t.fld (SPn_STAT_STATE n) = 6 ∧ (vget t.spin n).accel = false ∧
      t.raised (1184 + 16 * n.val) = true := by
  let b := s.lockMarked n
  have hlocks : ¬ (decide (s.spState n ≠ 6) || s.on (SPn_STAT_LOCK n) || decide ((vget s.spin n).ref ≠ s.setSpeed n)) =
      true := by
    simp [Block.spState, hst, hlock, href]
  have hspin : b.part.hasSpin n = true := (s.lockMarked_calm n).part ▸ hs
  have haccel : (vget (b.lockTold n).spin n).accel = false :=
    congrArg Spin.accel ((congrArg (vget · n) (b.lockTold_spin n)).trans (Block.vget_modSpin_same _ n _))
  exact does_spin rfl hs (if_neg hlocks) (c := b.lockTold n)
    ⟨(b.lockTold_fld n (f := SPn_STAT_LOCK) (by decide) (by decide)).trans (s.lockMarked_lock n),
      (b.lockTold_fld n (f := SPn_STAT_RLOSS) (by decide) (by decide)).trans (s.lockMarked_rloss n),
      (b.lockTold_fld n (f := SPn_STAT_ATTEMPT) (by decide) (by decide)).trans (s.lockMarked_attempt n),
      (b.lockTold_fld n (f := SPn_STAT_STATE) (by decide) (by decide)).trans ((s.lockMarked_state n).trans hst),
      haccel, Block.lockTold_raises hspin⟩

theorem does_lockLost {s : State} {n : Fin 2} (hs : s.part.hasSpin n = true) (h : s.on (SPn_STAT_LOCK n) = true) :
    Does (.lockLost n) s fun t => t.fld (SPn_STAT_LOCK n) = 0 ∧ t.raised (1184 + 16 * n.val + 1) = true ∧
      ∀ u : Fin 4, spinOf u = n → t.fld (SEs_LSAFE_WGATE u) = 0 ∧ (vget t.wp u).running = none := by
  let b := (s.setFld (SPn_STAT_LOCK n) 0).discCut n
  have hcalm : Calm s.toBlock b := (Calm.refl.setFld (SPn_STAT_LOCK n) 0 (guardedReg_spStat n)).discCut n
  have heq : s.unlock n true = b.raiseSpin n 1 := (Block.unlock_locked h true).trans (if_pos rfl)
  have hlock : (b.raiseSpin n 1).fld (SPn_STAT_LOCK n) = 0 := heq ▸ s.unlock_lock n true
  refine does_spin rfl hs heq ⟨hlock, Block.raiseSpin_raises (hcalm.part ▸ hs) (by decide), fun u hu => ?_⟩
  obtain ⟨hgate, hpass⟩ := (s.setFld (SPn_STAT_LOCK n) 0).discCut_cuts hu
  have hwp : (b.raiseSpin n 1).wp = b.wp := (Block.raise_frame ..).same .wp (by decide)
  exact ⟨(Block.raise_fld _ _ (irqReg_lsafe u)).trans hgate, (congrArg (fun w => (vget w u).running) hwp).trans hpass⟩

/-! ### Rotor loss (R223) -/

theorem Block.lossMarked_fld (b : Block) (n : Fin 2) {f : Nat → Fld}
    (h : ∀ n : Fin 2, (SPn_STAT_RLOSS n).apart (f n) = true) : (b.lossMarked n).fld (f n) = b.fld (f n) :=
  Block.spinFld_set_apart (f := SPn_STAT_RLOSS) _ n h 1

theorem Block.lossMarked_rloss (b : Block) (n : Fin 2) : (b.lossMarked n).fld (SPn_STAT_RLOSS n) = 1 :=
  Block.fld_setFld_same _ (SPn_STAT_RLOSS n) rfl 1

/-- Telling of the loss writes no register of the spindle. -/
theorem Block.lossTold_fld (b : Block) (n : Fin 2) {f : Nat → Fld} (h : ∀ n : Fin 2, spinReg (f n).reg = true) :
    (b.lossTold n).fld (f n) = b.fld (f n) :=
  (b.lossTold_regs n).fld (spinRegs_not_mem_discRegs (h n) n) (irqReg_of_spinReg (h n))

theorem does_rotorLoss {s : State} {n : Fin 2} (hs : s.part.hasSpin n = true)
    (hst : s.fld (SPn_STAT_STATE n) = 5 ∨ s.fld (SPn_STAT_STATE n) = 6 ∨ s.fld (SPn_STAT_STATE n) = 7) :
    Does (.rotorLoss n) s fun t => t.fld (SPn_STAT_STATE n) = 8 ∧ t.fld (SPn_STAT_RLOSS n) = 1 ∧
      t.fld (SPn_STAT_LOCK n) = 0 ∧ (spEx n, 0) ∈ t.le.exNew ∧
      t.fld (SPn_CNT_RLOSS n) = min (s.fld (SPn_CNT_RLOSS n) + 1) 255 ∧ 1184 + 16 * n.val + 2 ∈ t.le.post ∧
      ∀ u : Fin 4, spinOf u = n → (vget t.servo u).unavail = true := by
  let b := s.lossMarked n
  let c := b.spGo n 8 true
  let d := c.bump (SPn_CNT_RLOSS n) 1
  have htold {f : Nat → Fld} (hf : ∀ n : Fin 2, spinReg (f n).reg = true)
      (h : ∀ n : Fin 2, (SPn_CNT_RLOSS n).apart (f n) = true) : (d.lossTold n).fld (f n) = c.fld (f n) :=
    (d.lossTold_fld n hf).trans (c.fld_bump_apart _ _ (h n) 1)
  have hcount : c.fld (SPn_CNT_RLOSS n) = s.fld (SPn_CNT_RLOSS n) :=
    (b.spGo_fld n 8 true (f := SPn_CNT_RLOSS) (by decide)).trans (s.lossMarked_fld n (f := SPn_CNT_RLOSS) (by decide))
  refine does_spin rfl hs ((if_pos hst).trans (s.rotorLoss_eq n) :) (c := d.lossTold n)
    ⟨?_, ?_, ?_, ?_, ?_, d.lossTold_post n, fun u hu => d.lossTold_unavail hu⟩
  · exact (htold (f := SPn_STAT_STATE) (by decide) (by decide)).trans (b.spGo_state n 8 true (by decide))
  · exact (htold (f := SPn_STAT_RLOSS) (by decide) (by decide)).trans
      ((b.spGo_fld n 8 true (f := SPn_STAT_RLOSS) (by decide)).trans (s.lossMarked_rloss n))
  · exact (htold (f := SPn_STAT_LOCK) (by decide) (by decide)).trans (b.spGo_lock n 8 true (by decide))
  · show _ ∈ (d.lossTold n).le.exNew
    rw [d.lossTold_exNew n]
    exact b.spGo_spcmd n 8 true
  · refine (d.lossTold_fld n (f := SPn_CNT_RLOSS) (by decide)).trans ?_
    rw [c.fld_bump_same (SPn_CNT_RLOSS n) rfl, hcount]
    rfl

/-! ### BRAKE and the faults (R216, R225, R226) -/

section faults

variable {s : State} {n : Fin 2} (hs : s.part.hasSpin n = true)
include hs

theorem does_brakeExit (hst : s.fld (SPn_STAT_STATE n) = 10) : Does (.brakeExit n) s fun t =>
    (s.on (SPn_CTL_RUN n) = true → t.fld (SPn_STAT_STATE n) = 1) ∧
    (s.on (SPn_CTL_RUN n) = false → t.fld (SPn_STAT_STATE n) = 0 ∧ t.raised (1184 + 16 * n.val + 7) = true) := by
  by_cases hrun : s.on (SPn_CTL_RUN n) = true
  · exact does_spin rfl hs ((if_neg (not_not.2 hst)).trans (if_pos hrun) :)
      ⟨fun _ => s.spAttempt_state n, fun h => absurd (hrun.symm.trans h) (by decide)⟩
  · exact does_spin rfl hs ((if_neg (not_not.2 hst)).trans (if_neg hrun) :)
      ⟨fun h => absurd h hrun, fun _ => Block.spStopped_stops hs⟩

theorem does_brakeTimeout (hst : s.fld (SPn_STAT_STATE n) = 10) : Does (.brakeTimeout n) s fun t =>
    t.fld (SPn_STAT_STATE n) = 12 ∧ t.fld (SPn_FAULT_BRK_TO n) = 1 ∧ t.raised (1184 + 16 * n.val + 6) = true := by
  have hfault := Block.spFault_faults hs (hst ▸ (by decide) : s.fld (SPn_STAT_STATE n) ≠ 12) (f := SPn_FAULT_BRK_TO n)
    rfl rfl (by decide : 1 < 32)
  exact does_spin rfl hs (if_neg (not_not.2 hst)) ⟨hfault.state, hfault.bit, hfault.raised⟩

theorem does_bridgeOvercurrent (hot : Bool) (hst : s.fld (SPn_STAT_STATE n) ≠ 12) :
    Does (.bridgeOvercurrent n hot) s fun t => t.fld (SPn_STAT_STATE n) = 12 ∧ t.fld (SPn_STAT_FAULT n) = 1 ∧
      t.fld (SPn_STAT_LOCK n) = 0 ∧ t.fld (SPn_STAT_RLOSS n) = s.fld (SPn_STAT_RLOSS n) ∧
      t.fld (if hot then SPn_FAULT_OTP n else SPn_FAULT_OCP n) = 1 ∧
      t.fld (if hot then SPn_FAULT_OCP n else SPn_FAULT_OTP n) =
        s.fld (if hot then SPn_FAULT_OCP n else SPn_FAULT_OTP n) ∧ t.raised (1184 + 16 * n.val + 6) = true := by
  cases hot with
  | false =>
    have hfault := Block.spFault_faults hs hst (f := SPn_FAULT_OCP n) rfl rfl (by decide : 2 < 32)
    exact does_spin rfl hs rfl ⟨hfault.state, hfault.fault, hfault.lock, hfault.rloss, hfault.bit,
      hfault.others (SPn_FAULT_OTP n) rfl (apart_of_bits (.inl (by decide : 2 < 3))), hfault.raised⟩
  | true =>
    have hfault := Block.spFault_faults hs hst (f := SPn_FAULT_OTP n) rfl rfl (by decide : 3 < 32)
    exact does_spin rfl hs rfl ⟨hfault.state, hfault.fault, hfault.lock, hfault.rloss, hfault.bit,
      hfault.others (SPn_FAULT_OCP n) rfl (apart_of_bits (.inr (by decide : 2 < 3))), hfault.raised⟩

end faults

/-- The fault bits that are written 1 are clear (R226). -/
def Block.faultsCleared (b : Block) (n : Fin 2) (bits : BitVec 4) : Block :=
  b.wr (SPn_FAULT n) (b.rd (SPn_FAULT n) &&& ~~~(bits.setWidth 32))

theorem Block.faultsCleared_rd (b : Block) (n : Fin 2) (bits : BitVec 4) :
    (b.faultsCleared n bits).rd (SPn_FAULT n) = b.rd (SPn_FAULT n) &&& ~~~(bits.setWidth 32) := b.rd_wr_same _ _

theorem Block.faultsCleared_fld (b : Block) (n : Fin 2) (bits : BitVec 4) {f : Nat → Fld}
    (h : ∀ n : Fin 2, (f n).reg ≠ SPn_FAULT n) : (b.faultsCleared n bits).fld (f n) = b.fld (f n) := b.fld_wr_ne (h n) _

/-- Leaving FAULT writes none of its bits. -/
theorem Block.spFaultDone_rd (b : Block) (n : Fin 2) : (b.spFaultDone n).rd (SPn_FAULT n) = b.rd (SPn_FAULT n) := by
  unfold Block.spFaultDone
  split_ifs
  · have hne : ∀ n : Fin 2, SPn_FAULT n ≠ (SPn_STAT_ATTEMPT n).reg := by decide
    exact (Block.rd_of_fld (Block.spGo_fld_of_keeps _ n 0 false (moveKeeps_fault rfl))).trans
      (b.rd_setFld_ne _ (hne n) 0)
  · rfl

theorem Block.spFaultDone_other {b : Block} {n : Fin 2} (h : b.fld (SPn_STAT_STATE n) ≠ 12) : b.spFaultDone n = b := by
  unfold Block.spFaultDone
  exact if_neg (by simp [Block.spState, h])

/-- FAULT is left once RUN is 0 and every fault bit is clear (R218, R226). -/
theorem Block.spFaultDone_state {b : Block} {n : Fin 2} (h : b.fld (SPn_STAT_STATE n) = 12) :
    (b.spFaultDone n).fld (SPn_STAT_STATE n) =
      if b.on (SPn_CTL_RUN n) = false ∧ b.rd (SPn_FAULT n) = 0 then 0 else 12 := by
  have hcond : (decide (b.spState n = 12) && !b.on (SPn_CTL_RUN n) && decide (b.rd (SPn_FAULT n) = 0)) = true ↔
      b.on (SPn_CTL_RUN n) = false ∧ b.rd (SPn_FAULT n) = 0 := by
    simp [Block.spState, h]
  unfold Block.spFaultDone
  split_ifs with hdone hleft hstay
  · exact Block.spGo_state _ n 0 false (by decide)
  · exact absurd (hcond.1 hdone) hleft
  · exact absurd (hcond.2 hstay) hdone
  · exact h

theorem does_faultClear {s : State} {n : Fin 2} (bits : BitVec 4) (hs : s.part.hasSpin n = true) :
    Does (.faultClear n bits) s fun t => t.rd (SPn_FAULT n) = s.rd (SPn_FAULT n) &&& ~~~(bits.setWidth 32) ∧
      (s.fld (SPn_STAT_STATE n) ≠ 12 → t.fld (SPn_STAT_STATE n) = s.fld (SPn_STAT_STATE n)) ∧
      (s.fld (SPn_STAT_STATE n) = 12 → t.fld (SPn_STAT_STATE n) =
        if s.on (SPn_CTL_RUN n) = false ∧ s.rd (SPn_FAULT n) &&& ~~~(bits.setWidth 32) = 0 then 0 else 12) := by
  let b := s.faultsCleared n bits
  have hrd := s.faultsCleared_rd n bits
  have hstate : b.fld (SPn_STAT_STATE n) = s.fld (SPn_STAT_STATE n) :=
    s.faultsCleared_fld n bits (f := SPn_STAT_STATE) (by decide)
  have hrun : b.on (SPn_CTL_RUN n) = s.on (SPn_CTL_RUN n) := by
    rw [Block.on_eq, Block.on_eq, s.faultsCleared_fld n bits (f := SPn_CTL_RUN) (by decide)]
  refine does_spin rfl hs rfl (c := b.spFaultDone n) ⟨(b.spFaultDone_rd n).trans hrd, fun h => ?_, fun h => ?_⟩
  · show (b.spFaultDone n).fld _ = _
    rw [Block.spFaultDone_other (hstate ▸ h), hstate]
  · rw [← hrd, ← hrun]
    exact Block.spFaultDone_state (hstate.trans h)

/-! ### The clamp of the bus (R213) -/

/-- The clamp comes on, with its event where it was off. -/
def Block.clampOn (b : Block) (n : Fin 2) : Block :=
  if b.on (SPn_STAT_VCLAMP n) then b else (b.setFld (SPn_STAT_VCLAMP n) 1).raiseSpin n 9

/-- The clamp follows the bus, between VREL and VCLAMP as it was. -/
def Block.clampFollows (b : Block) (n : Fin 2) (hi lo v : Nat) : Block :=
  if hi < v then b.clampOn n else if v < lo then b.setFld (SPn_STAT_VCLAMP n) 0 else b

/-- VCLAMP and VREL as they are in effect, in 10 mV. -/
def Spin.clampHi (x : Spin) (n : Fin 2) : Nat := (SPn_BRAKE_VCLAMP n).get (vget x.shadow 4) * 10
def Spin.clampLo (x : Spin) (n : Fin 2) : Nat := (SPn_BRAKE_VREL n).get (vget x.shadow 4) * 10

theorem Block.spVbus_eq (b : Block) (n : Fin 2) (vbus : BitVec 16) : b.spVbus n vbus =
    (b.setFld (SPn_MEAS_VBUS n) vbus.toNat).clampFollows n ((vget b.spin n).clampHi n) ((vget b.spin n).clampLo n)
      vbus.toNat := rfl

section clamp

variable (b : Block) (n : Fin 2) (hi lo v : Nat)

theorem Block.clampFollows_fld {f : Nat → Fld} (hf : ∀ n : Fin 2, irqReg (f n).reg = false)
    (ha : ∀ n : Fin 2, (SPn_STAT_VCLAMP n).apart (f n) = true) :
    (b.clampFollows n hi lo v).fld (f n) = b.fld (f n) := by
  unfold Block.clampFollows Block.clampOn
  split_ifs
  · rfl
  · exact (Block.spinFld_raise _ n hf 9).trans (b.spinFld_set_apart n ha 1)
  · exact b.spinFld_set_apart n ha 0
  · rfl

theorem Block.clampFollows_spin : (b.clampFollows n hi lo v).spin = b.spin := by
  unfold Block.clampFollows Block.clampOn
  split_ifs
  · rfl
  · exact Block.raiseSpin_spin ..
  · rfl
  · rfl

theorem Block.clampFollows_regs : Block.regsOnly [SPn_STAT n] b (b.clampFollows n hi lo v) := by
  have hset (c : Nat) : Block.regsOnly [SPn_STAT n] b (b.setFld (SPn_STAT_VCLAMP n) c) :=
    (Block.regsOnly_refl _ b).setFld (f := SPn_STAT_VCLAMP n) List.mem_cons_self c
  exact ((Block.regsOnly_refl _ b).ite ((hset 1).raise _)).ite ((hset 0).ite (Block.regsOnly_refl _ b))

theorem Block.clampFollows_over {b : Block} {hi lo v : Nat} (hs : b.part.hasSpin n = true) (h : hi < v) :
    (b.clampFollows n hi lo v).fld (SPn_STAT_VCLAMP n) = 1 ∧
      (b.on (SPn_STAT_VCLAMP n) = false → (b.clampFollows n hi lo v).raised (1184 + 16 * n.val + 9) = true) := by
  have hset : Calm b (b.setFld (SPn_STAT_VCLAMP n) 1) := Calm.refl.setFld (SPn_STAT_VCLAMP n) 1 (guardedReg_spStat n)
  unfold Block.clampFollows Block.clampOn
  rw [if_pos h]
  split_ifs with hon
  · exact ⟨Block.fld_eq_one_of_on rfl hon, fun hoff => absurd (hon.symm.trans hoff) (by decide)⟩
  · exact ⟨(Block.spinFld_raise (f := SPn_STAT_VCLAMP) _ n (by decide) 9).trans
      (b.fld_setFld_same (SPn_STAT_VCLAMP n) rfl 1), fun _ => Block.raiseSpin_raises (hset.part ▸ hs) (by decide)⟩

theorem Block.clampFollows_under {hi lo v : Nat} (h : v ≤ hi) (hl : v < lo) :
    (b.clampFollows n hi lo v).fld (SPn_STAT_VCLAMP n) = 0 := by
  unfold Block.clampFollows
  rw [if_neg (Nat.not_lt.2 h), if_pos hl]
  exact b.fld_setFld_same (SPn_STAT_VCLAMP n) rfl 0

theorem Block.clampFollows_between {hi lo v : Nat} (h : v ≤ hi) (hl : lo ≤ v) : b.clampFollows n hi lo v = b := by
  unfold Block.clampFollows
  rw [if_neg (Nat.not_lt.2 h), if_neg (Nat.not_lt.2 hl)]

end clamp

theorem does_vclampSet {s : State} {n : Fin 2} (vbus : BitVec 16) (hs : s.part.hasSpin n = true) :
    let hi := (vget s.spin n).clampHi n
    let lo := (vget s.spin n).clampLo n
    Does (.vclampSet n vbus) s fun t => t.fld (SPn_MEAS_VBUS n) = vbus.toNat ∧
      (hi < vbus.toNat → t.fld (SPn_STAT_VCLAMP n) = 1 ∧
        (s.on (SPn_STAT_VCLAMP n) = false → t.raised (1184 + 16 * n.val + 9) = true)) ∧
      (vbus.toNat ≤ hi → vbus.toNat < lo → t.fld (SPn_STAT_VCLAMP n) = 0) ∧
      (vbus.toNat ≤ hi → lo ≤ vbus.toNat → t.fld (SPn_STAT_VCLAMP n) = s.fld (SPn_STAT_VCLAMP n)) ∧
      Block.regsOnly [SPn_MEAS n, SPn_STAT n] s.toBlock t.toBlock := by
  intro hi lo
  let b := s.setFld (SPn_MEAS_VBUS n) vbus.toNat
  let c := b.clampFollows n hi lo vbus.toNat
  have hclamp : b.fld (SPn_STAT_VCLAMP n) = s.fld (SPn_STAT_VCLAMP n) :=
    Block.spinFld_set_apart (f := SPn_MEAS_VBUS) (g := SPn_STAT_VCLAMP) _ n (by decide) _
  have hoff : b.on (SPn_STAT_VCLAMP n) = s.on (SPn_STAT_VCLAMP n) := by rw [Block.on_eq, Block.on_eq, hclamp]
  have hvbus : b.fld (SPn_MEAS_VBUS n) = vbus.toNat :=
    (Block.fld_setFld_same _ (SPn_MEAS_VBUS n) rfl _).trans (Nat.mod_eq_of_lt vbus.isLt)
  have hmeas : Block.regsOnly [SPn_MEAS n, SPn_STAT n] s.toBlock b :=
    (Block.regsOnly_refl _ _).setFld (f := SPn_MEAS_VBUS n) List.mem_cons_self _
  refine does_spin rfl hs (s.spVbus_eq n vbus) (c := c) ⟨?_, fun h => ?_, fun h hl => ?_, fun h hl => ?_, ?_⟩
  · exact (b.clampFollows_fld n hi lo _ (f := SPn_MEAS_VBUS) (by decide) (by decide)).trans hvbus
  · rw [← hoff]
    exact Block.clampFollows_over n (b := b) hs h
  · exact b.clampFollows_under n h hl
  · exact (congrArg (Block.fld · (SPn_STAT_VCLAMP n)) (b.clampFollows_between n h hl)).trans hclamp
  · exact Block.regsOnly_trans hmeas ((b.clampFollows_regs n hi lo _).mono (List.subset_cons_self _ _))

/-- Settles O31: each command is worked out on the state its clause describes, past the lemmas about the set speed, the
lock, the rotor loss, the faults and the clamp. -/
theorem spindleRuns : Obligations.SpindleRuns := by
  intro s n rpm hot bits vbus hs
  exact ⟨does_setSpeed rpm hs, does_speedLock hs, does_lockLost hs, does_rotorLoss hs, does_brakeExit hs,
    does_brakeTimeout hs, does_bridgeOvercurrent hs hot, does_faultClear bits hs, does_vclampSet vbus hs⟩

end Sys2Proof.Machine

/-!
PROOFS. One PWM period (08_spindle.md R206, R208 to R210, R220, R225, R228): the order of the phases, the currents from
the two samples, the shadowed TMIN, and the ends of ACCEL and DECEL.
-/

namespace Sys2Proof.Machine

/-! ### The order of the phases (R208, R209) -/

/-- A current as the phase programs see it: saturated to Q1.31. -/
theorem shuntQ31_toInt (z : Int) : (shuntQ31 z 0).toInt = max (-2147483648) (min 2147483647 (z * 2 ^ 20)) := by
  rw [shuntQ31, sat32_toInt, Int.sub_zero]

section phases

variable {h : Vector Nat 3} {a b c : Fin 3}

theorem phaseOrder_fst (ha : ∀ i, i ≠ a → vget h i < vget h a) : (phaseOrder h).1 = a := by
  match a with
  | 0 =>
    have h1 := ha 1 (by decide)
    have h2 := ha 2 (by decide)
    exact if_pos ⟨h1.le, h2.le⟩
  | 1 =>
    have h0 := ha 0 (by decide)
    have h2 := ha 2 (by decide)
    exact (if_neg fun hle => absurd hle.1 (Nat.not_le.2 h0)).trans (if_pos h2.le)
  | 2 =>
    have h0 := ha 0 (by decide)
    have h1 := ha 1 (by decide)
    exact (if_neg fun hle => absurd hle.2 (Nat.not_le.2 h0)).trans (if_neg (Nat.not_le.2 h1))

theorem phaseOrder_snd (hc : ∀ i, i ≠ c → vget h c < vget h i) (hne : (phaseOrder h).1 ≠ c) : (phaseOrder h).2 = c := by
  have hlo : (if vget h 2 ≤ vget h 0 ∧ vget h 2 ≤ vget h 1 then 2
      else if vget h 1 ≤ vget h 0 ∧ vget h 1 ≤ vget h 2 then 1 else 0 : Fin 3) = c := by
    match c with
    | 0 =>
      have h1 := hc 1 (by decide)
      have h2 := hc 2 (by decide)
      exact (if_neg fun hle => absurd hle.1 (Nat.not_le.2 h2)).trans (if_neg fun hle => absurd hle.1 (Nat.not_le.2 h1))
    | 1 =>
      have h0 := hc 0 (by decide)
      have h2 := hc 2 (by decide)
      exact (if_neg fun hle => absurd hle.2 (Nat.not_le.2 h2)).trans (if_pos ⟨h0.le, h2.le⟩)
    | 2 =>
      have h0 := hc 0 (by decide)
      have h1 := hc 1 (by decide)
      exact if_pos ⟨h0.le, h1.le⟩
  have hsnd : (phaseOrder h).2 = if (phaseOrder h).1 = c then 2 else c := hlo ▸ rfl
  rw [hsnd, if_neg hne]

variable (hba : vget h b < vget h a) (hcb : vget h c < vget h b)
include hba hcb

/-- The three phases are distinct. -/
theorem phases_distinct : b ≠ a ∧ c ≠ b ∧ c ≠ a :=
  ⟨fun he => absurd (he ▸ hba) (Nat.lt_irrefl _), fun he => absurd (he ▸ hcb) (Nat.lt_irrefl _),
    fun he => absurd (he ▸ hcb.trans hba) (Nat.lt_irrefl _)⟩

theorem phases_cover (i : Fin 3) : i = a ∨ i = b ∨ i = c := by
  have hall : ∀ a b c : Fin 3, b ≠ a ∧ c ≠ b ∧ c ≠ a → ∀ i, i = a ∨ i = b ∨ i = c := by decide
  exact hall a b c (phases_distinct hba hcb) i

theorem phaseOrder_eq : phaseOrder h = (a, c) := by
  have ha : (phaseOrder h).1 = a := phaseOrder_fst fun i hi => by
    rcases phases_cover hba hcb i with rfl | rfl | rfl
    · exact absurd rfl hi
    · exact hba
    · exact hcb.trans hba
  have hc : (phaseOrder h).2 = c := by
    refine phaseOrder_snd (fun i hi => ?_) (ha ▸ (phases_distinct hba hcb).2.2.symm)
    rcases phases_cover hba hcb i with rfl | rfl | rfl
    · exact hcb.trans hba
    · exact hcb
    · exact absurd rfl hi
  exact Prod.ext ha hc

theorem phases_sum : vget h 0 + vget h 1 + vget h 2 = vget h a + vget h b + vget h c := by
  obtain ⟨hab, hbc, hac⟩ := phases_distinct hba hcb
  have huniv : Finset.univ = ({a, b, c} : Finset (Fin 3)) := by
    ext i
    simpa using phases_cover hba hcb i
  have hsum : ∑ i, vget h i = vget h a + (vget h b + vget h c) := by
    rw [huniv, Finset.sum_insert (by simp [hab.symm, hac.symm]), Finset.sum_pair hbc.symm]
  rw [← Fin.sum_univ_three (fun i => vget h i), hsum, Nat.add_assoc]

/-- The period is skipped where a moved edge would leave it (R209). -/
theorem skipPeriod_eq (tmin : Nat) : skipPeriod h tmin =
    (decide (vget h a - vget h b < tmin) && decide (10000 < vget h a + (tmin - (vget h a - vget h b))) ||
      decide (vget h b - vget h c < tmin) && decide (10000 < vget h c + (tmin - (vget h b - vget h c)))) := by
  have hmid : vget h a + vget h b + vget h c - vget h a - vget h c = vget h b := by omega
  unfold skipPeriod
  rw [phaseOrder_eq hba hcb, phases_sum hba hcb]
  dsimp only
  rw [hmid]

theorem skipPeriod_sampled {tmin : Nat} (hab : tmin ≤ vget h a - vget h b) (hbc : tmin ≤ vget h b - vget h c) :
    skipPeriod h tmin = false := by
  rw [skipPeriod_eq hba hcb, decide_eq_false (Nat.not_lt.2 hab), decide_eq_false (Nat.not_lt.2 hbc)]
  rfl

theorem skipPeriod_skipped {tmin : Nat} (hnear : vget h a < vget h b + tmin) (hlate : 10000 < vget h b + tmin) :
    skipPeriod h tmin = true := by
  rw [skipPeriod_eq hba hcb, decide_eq_true (by omega : vget h a - vget h b < tmin),
    decide_eq_true (by omega : 10000 < vget h a + (tmin - (vget h a - vget h b)))]
  rfl

/-! ### The currents (R208, R210) -/

theorem currents_get (c1 c2 ofs : Int) (i : Fin 3) : vget (currents h c1 c2 ofs) i =
    if i = a then shuntQ31 (c1 - ofs) 0 else if i = c then shuntQ31 (-(c2 - ofs)) 0
      else shuntQ31 (-(c1 - ofs + -(c2 - ofs))) 0 := by
  unfold currents
  rw [phaseOrder_eq hba hcb]
  simp [vget]

variable (c1 c2 ofs : Int)

/-- The largest phase carries the first sample. -/
theorem currents_largest :
    (vget (currents h c1 c2 ofs) a).toInt = max (-2147483648) (min 2147483647 ((c1 - ofs) * 2 ^ 20)) := by
  rw [currents_get hba hcb, if_pos rfl, shuntQ31_toInt]

/-- The smallest carries the second, negated. -/
theorem currents_smallest :
    (vget (currents h c1 c2 ofs) c).toInt = max (-2147483648) (min 2147483647 ((ofs - c2) * 2 ^ 20)) := by
  obtain ⟨-, -, hca⟩ := phases_distinct hba hcb
  rw [currents_get hba hcb, if_neg hca, if_pos rfl, shuntQ31_toInt, neg_sub]

/-- The third is minus their sum, of which the offset drops out. -/
theorem currents_middle :
    (vget (currents h c1 c2 ofs) b).toInt = max (-2147483648) (min 2147483647 ((c2 - c1) * 2 ^ 20)) := by
  obtain ⟨hne, hne', -⟩ := phases_distinct hba hcb
  have hsum : -(c1 - ofs + -(c2 - ofs)) = c2 - c1 := by ring
  rw [currents_get hba hcb, if_neg hne, if_neg hne'.symm, shuntQ31_toInt, hsum]

end phases

/-! ### The shadowed registers (R228) -/

/-- TMIN as it is in effect after a period's update. -/
def Block.tminNow (b : Block) (n : Fin 2) : Nat :=
  if (b.fld (SPn_STAT_STATE n) ≠ 3 ∧ b.fld (SPn_STAT_STATE n) ≠ 4) ∧ (vget b.spin n).shadowLate = false then
    b.fld (SPn_SHUNT_TMIN n)
  else (SPn_SHUNT_TMIN n).get (vget (vget b.spin n).shadow 0)

theorem Block.spShadow_fld (b : Block) (n : Fin 2) (g : Fld) : (b.spShadow n).fld g = b.fld g := by
  unfold Block.spShadow
  split_ifs <;> rfl

/-- Of the spindle the update changes the shadow only. -/
theorem Block.spShadow_spin (b : Block) (n : Fin 2) : ∃ shadow late,
    vget (b.spShadow n).spin n = { vget b.spin n with shadow := shadow, shadowLate := late } ∧
      (SPn_SHUNT_TMIN n).get (vget shadow 0) = b.tminNow n := by
  have hold (h : ¬ ((b.fld (SPn_STAT_STATE n) ≠ 3 ∧ b.fld (SPn_STAT_STATE n) ≠ 4) ∧
      (vget b.spin n).shadowLate = false)) :
      (SPn_SHUNT_TMIN n).get (vget (vget b.spin n).shadow 0) = b.tminNow n := (if_neg h).symm
  unfold Block.spShadow
  split_ifs with hst hsame hlate
  · exact ⟨_, _, rfl, hold fun h => hst.elim h.1.1 h.1.2⟩
  · exact ⟨_, true, Block.vget_modSpin_same .., hold fun h => hst.elim h.1.1 h.1.2⟩
  · exact ⟨_, _, rfl, hold fun h => absurd (h.2.symm.trans hlate) (by decide)⟩
  · exact ⟨_, _, Block.vget_modSpin_same .., (if_pos ⟨not_or.1 hst, Bool.eq_false_iff.2 hlate⟩).symm⟩

/-! ### The samples of a period (R206, R208, R209) -/

/-- A moved edge of the period would leave it. -/
def Spin.skips (x : Spin) (n : Fin 2) : Bool := skipPeriod x.duty ((SPn_SHUNT_TMIN n).get (vget x.shadow 0))

/-- The currents after the period: held where it is skipped. -/
def Spin.curAfter (x : Spin) (n : Fin 2) (code1 code2 ofs : Int) : Vector Word 3 :=
  if x.skips n then x.cur else currents x.duty code1 code2 ofs

/-- The duties are loaded and the speed is known. -/
def Block.dutiesLoaded (b : Block) (n : Fin 2) (rpm : BitVec 16) : Block :=
  b.modSpin n fun x => { x with loaded := (vget b.spin n).duty, rpm := rpm.toInt }

/-- The period is skipped and counted, or its samples give the currents. -/
def Block.periodSampled (b : Block) (n : Fin 2) (x : Spin) (code1 code2 ofs : Int) : Block :=
  if x.skips n then b.bump (SPn_SKIP_COUNT n) 1
  else b.modSpin n fun y => { y with cur := currents x.duty code1 code2 ofs }

/-- The field program publishes the speed. -/
def Block.speedTold (b : Block) (n : Fin 2) (rpm : BitVec 16) : Block :=
  (b.setFld (SPn_MEAS_RPM n) rpm.toNat).commitData (spEx n + 2) (omegaOf rpm.toInt)

/-- A period up to its speed and its bus voltage. -/
def Block.periodRun (b : Block) (n : Fin 2) (code1 code2 : BitVec 12) (vbus rpm : BitVec 16) : Block :=
  (((b.dutiesLoaded n rpm).periodSampled n (vget b.spin n) code1.toInt code2.toInt
    (b.sfld (SPn_SHUNT_OFS_OFS n))).speedTold n rpm).spVbus n vbus

theorem execPwmPeriod_eq (n : Fin 2) (c1 c2 : BitVec 12) (vbus rpm : BitVec 16) (s : State) :
    exec (.pwmPeriod n c1 c2 vbus rpm) s =
      s.upd fun b => b.onSpin n fun b => ((b.spShadow n).periodRun n c1 c2 vbus rpm).spReached n := rfl

section period

variable (b : Block) (n : Fin 2)

theorem Block.periodSampled_fld (x : Spin) (c1 c2 ofs : Int) {f : Nat → Fld}
    (h : ∀ n : Fin 2, (SPn_SKIP_COUNT n).apart (f n) = true) :
    (b.periodSampled n x c1 c2 ofs).fld (f n) = b.fld (f n) := by
  unfold Block.periodSampled
  split
  · exact b.fld_bump_apart _ _ (h n) 1
  · rfl

theorem Block.periodSampled_skips (x : Spin) (c1 c2 ofs : Int) :
    (b.periodSampled n x c1 c2 ofs).fld (SPn_SKIP_COUNT n) =
    if x.skips n then min (b.fld (SPn_SKIP_COUNT n) + 1) 65535 else b.fld (SPn_SKIP_COUNT n) := by
  unfold Block.periodSampled
  split
  · exact b.fld_bump_same (SPn_SKIP_COUNT n) rfl 1
  · rfl

theorem Block.periodSampled_spin {x : Spin} (hx : (vget b.spin n).cur = x.cur) (c1 c2 ofs : Int) :
    vget (b.periodSampled n x c1 c2 ofs).spin n = { vget b.spin n with cur := x.curAfter n c1 c2 ofs } := by
  unfold Block.periodSampled Spin.curAfter
  split
  · rw [← hx]
    rfl
  · exact Block.vget_modSpin_same ..

theorem Block.speedTold_fld (rpm : BitVec 16) (g : Fld) :
    (b.speedTold n rpm).fld g = (b.setFld (SPn_MEAS_RPM n) rpm.toNat).fld g :=
  Block.fld_of_rd (Block.commitData_exchange_rd _ (spEx_lt n (by decide)) _ _)

theorem Block.speedTold_spin (rpm : BitVec 16) : (b.speedTold n rpm).spin = b.spin := Block.commitData_spin ..

theorem Block.spVbus_spin (vbus : BitVec 16) : (b.spVbus n vbus).spin = b.spin := by
  rw [Block.spVbus_eq]
  exact Block.clampFollows_spin _ n _ _ _

theorem Block.spVbus_fld (vbus : BitVec 16) {f : Nat → Fld} (hi : ∀ n : Fin 2, irqReg (f n).reg = false)
    (hv : ∀ n : Fin 2, (SPn_MEAS_VBUS n).apart (f n) = true)
    (hc : ∀ n : Fin 2, (SPn_STAT_VCLAMP n).apart (f n) = true) :
    (b.spVbus n vbus).fld (f n) = b.fld (f n) := by
  rw [Block.spVbus_eq, Block.clampFollows_fld _ n _ _ _ hi hc]
  exact b.spinFld_set_apart n hv _

theorem Block.spVbus_vbus (vbus : BitVec 16) : (b.spVbus n vbus).fld (SPn_MEAS_VBUS n) = vbus.toNat := by
  rw [Block.spVbus_eq, Block.clampFollows_fld _ n _ _ _ (f := SPn_MEAS_VBUS) (by decide) (by decide)]
  exact (b.fld_setFld_same (SPn_MEAS_VBUS n) rfl _).trans (Nat.mod_eq_of_lt vbus.isLt)

variable (c1 c2 : BitVec 12) (vbus rpm : BitVec 16)

theorem Block.dutiesLoaded_spin : vget (b.dutiesLoaded n rpm).spin n =
    { vget b.spin n with loaded := (vget b.spin n).duty, rpm := rpm.toInt } := b.vget_modSpin_same n _

theorem Block.periodRun_spin : vget (b.periodRun n c1 c2 vbus rpm).spin n =
    { vget b.spin n with
      loaded := (vget b.spin n).duty
      rpm := rpm.toInt
      cur := (vget b.spin n).curAfter n c1.toInt c2.toInt (b.sfld (SPn_SHUNT_OFS_OFS n)) } := by
  have hcur : (vget (b.dutiesLoaded n rpm).spin n).cur = (vget b.spin n).cur :=
    (congrArg Spin.cur (b.dutiesLoaded_spin n rpm)).trans rfl
  rw [Block.periodRun, Block.spVbus_spin, Block.speedTold_spin, Block.periodSampled_spin _ n hcur,
    Block.dutiesLoaded_spin]

theorem Block.periodRun_rpm : (b.periodRun n c1 c2 vbus rpm).fld (SPn_MEAS_RPM n) = rpm.toNat := by
  rw [Block.periodRun, Block.spVbus_fld _ n vbus (f := SPn_MEAS_RPM) (by decide) (by decide) (by decide),
    Block.speedTold_fld]
  exact (Block.fld_setFld_same _ (SPn_MEAS_RPM n) rfl _).trans (Nat.mod_eq_of_lt rpm.isLt)

theorem Block.periodRun_skips : (b.periodRun n c1 c2 vbus rpm).fld (SPn_SKIP_COUNT n) =
    if (vget b.spin n).skips n then min (b.fld (SPn_SKIP_COUNT n) + 1) 65535 else b.fld (SPn_SKIP_COUNT n) := by
  rw [Block.periodRun, Block.spVbus_fld _ n vbus (f := SPn_SKIP_COUNT) (by decide) (by decide) (by decide),
    Block.speedTold_fld, Block.spinFld_set_apart (f := SPn_MEAS_RPM) (g := SPn_SKIP_COUNT) _ n (by decide),
    Block.periodSampled_skips]
  rfl

theorem Block.periodRun_state : (b.periodRun n c1 c2 vbus rpm).fld (SPn_STAT_STATE n) = b.fld (SPn_STAT_STATE n) := by
  rw [Block.periodRun, Block.spVbus_fld _ n vbus (f := SPn_STAT_STATE) (by decide) (by decide) (by decide),
    Block.speedTold_fld, Block.spinFld_set_apart (f := SPn_MEAS_RPM) (g := SPn_STAT_STATE) _ n (by decide),
    Block.periodSampled_fld _ n _ _ _ _ (f := SPn_STAT_STATE) (by decide)]
  rfl

/-! ### The speed is reached (R220, R225) -/

theorem Block.spReached_fld {f : Nat → Fld} (h : ∀ n : Fin 2, moveKeeps n (f n) = true) :
    (b.spReached n).fld (f n) = b.fld (f n) := by
  unfold Block.spReached
  dsimp only
  split_ifs
  · exact b.spGo_fld n 6 false h
  · exact b.spGo_fld n 10 false h
  · exact b.spGo_fld n 6 false h
  · rfl

theorem Block.spReached_spin : ∃ accel, vget (b.spReached n).spin n = { vget b.spin n with accel := accel } := by
  unfold Block.spReached
  dsimp only
  split_ifs
  · exact ⟨_, b.spGo_spin n 6 false⟩
  · exact ⟨_, b.spGo_spin n 10 false⟩
  · exact ⟨_, b.spGo_spin n 6 false⟩
  · exact ⟨_, rfl⟩

end period

section reached

variable {b : Block} {n : Fin 2}

theorem Block.spReached_accelEnds (hst : b.fld (SPn_STAT_STATE n) = 5)
    (h : ((vget b.spin n).ref : Int) ≤ (vget b.spin n).rpm) :
    (b.spReached n).fld (SPn_STAT_STATE n) = 6 := by
  have heq : b.spReached n = b.spGo n 6 false := if_pos ⟨hst, h⟩
  rw [heq]
  exact b.spGo_state n 6 false (by decide)

theorem Block.spReached_accelGoesOn (hst : b.fld (SPn_STAT_STATE n) = 5)
    (h : (vget b.spin n).rpm < ((vget b.spin n).ref : Int)) : (b.spReached n).fld (SPn_STAT_STATE n) = 5 := by
  have hdecel : b.spState n ≠ 7 := fun he => absurd (hst.symm.trans he) (by decide)
  have heq : b.spReached n = b :=
    (if_neg fun hend => absurd hend.2 (Int.not_le.2 h)).trans (if_neg fun hend => hdecel hend.1)
  rw [heq, hst]

theorem Block.spReached_decelEnds (hst : b.fld (SPn_STAT_STATE n) = 7)
    (h : (vget b.spin n).rpm ≤ ((vget b.spin n).ref : Int)) :
    (b.spReached n).fld (SPn_STAT_STATE n) = if (vget b.spin n).stopping then 10 else 6 := by
  have haccel : b.spState n ≠ 5 := fun he => absurd (hst.symm.trans he) (by decide)
  have heq : b.spReached n = if (vget b.spin n).stopping then b.spGo n 10 false else b.spGo n 6 false :=
    (if_neg fun hend => haccel hend.1).trans (if_pos ⟨hst, h⟩)
  rw [heq]
  split
  · exact b.spGo_state n 10 false (by decide)
  · exact b.spGo_state n 6 false (by decide)

end reached

/-! ### The whole period -/

section period

variable {b : Block} {n : Fin 2} (c1 c2 : BitVec 12) (vbus rpm : BitVec 16)

/-- A period, the shadow updated first. -/
def Block.period (b : Block) (n : Fin 2) (c1 c2 : BitVec 12) (vbus rpm : BitVec 16) : Block :=
  (b.spShadow n).periodRun n c1 c2 vbus rpm

theorem Block.period_spin : ∃ shadow late, vget (b.period n c1 c2 vbus rpm).spin n =
    { vget b.spin n with
      shadow := shadow
      shadowLate := late
      loaded := (vget b.spin n).duty
      rpm := rpm.toInt
      cur := if skipPeriod (vget b.spin n).duty (b.tminNow n) then (vget b.spin n).cur
        else currents (vget b.spin n).duty c1.toInt c2.toInt (b.sfld (SPn_SHUNT_OFS_OFS n)) } := by
  obtain ⟨shadow, late, hshadow, htmin⟩ := b.spShadow_spin n
  have hofs : (b.spShadow n).sfld (SPn_SHUNT_OFS_OFS n) = b.sfld (SPn_SHUNT_OFS_OFS n) := by
    simp only [Block.sfld, Block.spShadow_fld]
  refine ⟨shadow, late, ?_⟩
  rw [Block.period, Block.periodRun_spin, hofs, hshadow, ← htmin]
  rfl

theorem Block.period_skips : (b.period n c1 c2 vbus rpm).fld (SPn_SKIP_COUNT n) =
    if skipPeriod (vget b.spin n).duty (b.tminNow n) then min (b.fld (SPn_SKIP_COUNT n) + 1) 65535
    else b.fld (SPn_SKIP_COUNT n) := by
  obtain ⟨shadow, late, hshadow, htmin⟩ := b.spShadow_spin n
  rw [Block.period, Block.periodRun_skips, Block.spShadow_fld, hshadow, ← htmin]
  rfl

theorem Block.period_state : (b.period n c1 c2 vbus rpm).fld (SPn_STAT_STATE n) = b.fld (SPn_STAT_STATE n) :=
  ((b.spShadow n).periodRun_state n c1 c2 vbus rpm).trans (b.spShadow_fld n _)

end period

/-- Settles O32: the period's block is taken apart into the shadow, the sampling and the publishing; the order of the
phases and the currents are facts about three on-times. -/
theorem spindlePwmPeriod : Obligations.SpindlePwmPeriod := by
  intro s n c1 c2 vbus rpm a b c hs
  let d := s.period n c1 c2 vbus rpm
  obtain ⟨shadow, late, hd⟩ := s.period_spin (n := n) c1 c2 vbus rpm
  obtain ⟨accel, haccel⟩ := d.spReached_spin n
  have ht : vget (d.spReached n).spin n = _ := haccel.trans (congrArg (fun x : Spin => { x with accel := accel }) hd)
  have hcur : (vget (d.spReached n).spin n).cur = _ := congrArg Spin.cur ht
  have hstate : d.fld (SPn_STAT_STATE n) = s.fld (SPn_STAT_STATE n) := s.period_state c1 c2 vbus rpm
  have hcount : (d.spReached n).fld (SPn_SKIP_COUNT n) = _ :=
    (d.spReached_fld n (f := SPn_SKIP_COUNT) (by decide)).trans (Block.period_skips c1 c2 vbus rpm)
  have href : (vget d.spin n).ref = (vget s.spin n).ref := (congrArg Spin.ref hd).trans rfl
  have hrpm : (vget d.spin n).rpm = rpm.toInt := congrArg Spin.rpm hd
  have hstop : (vget d.spin n).stopping = (vget s.spin n).stopping := (congrArg Spin.stopping hd).trans rfl
  refine does_spin (execPwmPeriod_eq n c1 c2 vbus rpm s) hs rfl (c := d.spReached n) ⟨congrArg Spin.loaded ht,
    congrArg Spin.rpm ht, ?_, ?_, fun hba hcb hab hbc => ?_, fun hba hcb hnear hlate => ?_, fun hst hle => ?_,
    fun hst hlt => ?_, fun hst hle => ?_⟩
  · exact (d.spReached_fld n (f := SPn_MEAS_RPM) (by decide)).trans (Block.periodRun_rpm ..)
  · exact (d.spReached_fld n (f := SPn_MEAS_VBUS) (by decide)).trans (Block.spVbus_vbus ..)
  · have hsampled : skipPeriod (vget s.spin n).duty (s.tminNow n) = false := skipPeriod_sampled hba hcb hab hbc
    rw [hsampled] at hcur hcount
    have hphase (i : Fin 3) {z : Int} (hz : (vget (currents (vget s.spin n).duty c1.toInt c2.toInt
        (s.sfld (SPn_SHUNT_OFS_OFS n))) i).toInt = z) : (vget (vget (d.spReached n).spin n).cur i).toInt = z :=
      (congrArg (fun v => (vget v i).toInt) hcur).trans hz
    exact ⟨hphase a (currents_largest hba hcb ..), hphase c (currents_smallest hba hcb ..),
      hphase b (currents_middle hba hcb ..), hcount⟩
  · have hskipped : skipPeriod (vget s.spin n).duty (s.tminNow n) = true := skipPeriod_skipped hba hcb hnear hlate
    rw [hskipped] at hcur hcount
    exact ⟨hcur, hcount⟩
  · exact Block.spReached_accelEnds (hstate.trans hst) (by rwa [href, hrpm])
  · exact Block.spReached_accelGoesOn (hstate.trans hst) (by rwa [href, hrpm])
  · exact (Block.spReached_decelEnds (hstate.trans hst) (by rwa [href, hrpm])).trans (by rw [hstop])

end Sys2Proof.Machine
